-- ==== Sys2Proof/Word.lean ====
section
/-! DEFINITION. The word types of the UM6464, and the sources of an access: a register word (24_register_map.md R468), a byte of a window, and a Tide
stamp (00_scope.md R11). -/

namespace Sys2Proof

/-- A 32-bit register or window word (R468). -/
abbrev Word := BitVec 32

/-- A byte of a window or of a message. -/
abbrev Byte := BitVec 8

/-- A 64-bit Tide stamp: [63:16] TAI nanoseconds modulo 2^48, [15:0] units of 2^-16 ns (R11). -/
abbrev Stamp := BitVec 64

/-- Where an access to the address space comes from (23_pilot_security_debug.md R448): port 0 the host SPI, ports 1 and 2
eCPRI type 4 on bricks A and B, port 3 type 4 forwarded over the ring, Pilot, a Crane channel, JTAG. -/
inductive Source
  | port (p : Fin 4)
  | pilot
  | crane (ch : Fin 16)
  | jtag
  deriving DecidableEq, Repr

end Sys2Proof
end

