-- ==== Sys2Proof/Syntax.lean ====
section
/-! DEFINITION. The commands of the UM6464 as a block: every row of spec/opcode_table.json, with its operands. A command
that is an access names its source; a command that is an event of the outside world carries what that event brings (a level, a
measured value, a received frame). -/

namespace Sys2Proof


/-- The commands of the block: one constructor per row of spec/opcode_table.json, in the table's order. -/
inductive Instr
  /-- POWER_REMOVED (R42). Loss of the supply rails takes the device to Off, losing every volatile state. -/
  | powerRemoved
  /-- POR_N_ASSERT (R35). A low pulse of at least 1 µs on POR_N holds the whole device, AON included, in reset. -/
  | porNAssert
  /-- POR_N_RELEASE (R37). Release of POR_N starts the 10 µs wait before the straps are sampled. -/
  | porNRelease
  /-- SUPERVISOR_TRIP (R479). VDD_AON or VDD_CORE below its trip for 1 µs or more makes the internal supervisor assert reset as POR_N does. -/
  | supervisorTrip
  /-- SUPERVISOR_RELEASE (R35). The supervisor releases reset once both VDD_AON and VDD_CORE reach 90 % of their start-up values. -/
  | supervisorRelease
  /-- RESET_N_ASSERT (R36). A low pulse of at least 1 µs on RESET_N resets everything except the AON retention registers and stops new flash commands. -/
  | resetNAssert
  /-- RESET_N_RELEASE (R37). Release of RESET_N starts the 10 µs wait before the straps are sampled. -/
  | resetNRelease
  /-- NVM_NOT_BUSY (R39). After reset, the flash status poll reports not busy and the device may issue its first read. -/
  | nvmNotBusy
  /-- STRAP_LATCH (R37). 10 µs after the last reset release, BOOT_SEL and CHIP_ID are latched into BOOT.STRAP and boot proceeds by BOOT_SEL. -/
  | strapLatch (sel : BitVec 2) (chip : BitVec 2)
  /-- IMAGE_LOADED (R88). The flash phase of boot (steps 4 to 7) completes: header, regulatory digest and sections are checked and the image applied, or the slot fails. -/
  | imageLoaded (answers : BitVec 2)
  /-- CPLL_FIRST_LOCK (R65). The CPLL reports first lock after band calibration, letting boot go on to synthesiser lock. -/
  | cpllFirstLock
  /-- STARTUP_CAL_DONE (R126). The start-up receive and transmit calibrations complete and the results enter the calibration stores. -/
  | startupCalDone (rxFail : BitVec 64) (txFail : BitVec 64) (txLimit : BitVec 64) (slices : List (Fin 64 × Fin 2 × Fin 9))
  /-- CONFIRM_TIMEOUT (R99). CONFIRM not arriving within CONF_S × 10 s of t0 of a TRIAL boot resets the device as RESET_N does. -/
  | confirmTimeout
  /-- DEVICE_SELF_RESET (R278). A scheduled self-reset (type 6 request, intrusive debug exit) takes effect 1 ms after its cause as RESET_N. -/
  | deviceSelfReset
  /-- SLIP_OPEN (R98). Slipway OPEN tags the slot not booted BAD and begins an update. -/
  | slipOpen (src : Source) (v : Word)
  /-- SLIP_WRITE (R98). Slipway WRITE erases one image sector and programs it from BOOT.STAGE, then verifies it. -/
  | slipWrite (src : Source) (v : Word)
  /-- SLIP_CLOSE (R98). Slipway CLOSE checks the new image by steps 5 to 7 and tags it TRIAL with the next sequence. -/
  | slipClose (src : Source) (v : Word)
  /-- SLIP_ABORT (R98). Slipway ABORT ends the update leaving the slot BAD. -/
  | slipAbort (src : Source) (v : Word)
  /-- SLIP_CONFIRM (R98). Slipway CONFIRM tags the booted TRIAL slot GOOD. -/
  | slipConfirm (src : Source) (v : Word)
  /-- SLIP_OP_RESERVED (R98). A reserved Slipway OP is refused with RESULT STATE. -/
  | slipOpReserved (src : Source) (v : Word)
  /-- SLIP_OP_COMPLETE (R98). A running Slipway operation finishes its flash work, sets RESULT and clears BUSY. -/
  | slipOpComplete (res : Fin 3)
  /-- TALLY_PROGRAM_DONE (R100). The program of record bytes 0 to 62 completes and the commit marker is then programmed, or the sector is retired on failure. -/
  | tallyProgramDone (ok : Bool)
  /-- TALLY_COMMIT_DONE (R100). The commit-marker program completes, the next record may start and sectors ahead are erased. -/
  | tallyCommitDone (ok : Bool)
  /-- TALLY_APPEND_GO (R497). A write of APPEND_GO forms a record from TALLY.APPEND and queues it; an advisory is also reported by type 7. -/
  | tallyAppendGo (src : Source)
  /-- STATE_REQ_DRY_DOCK (R52). A PWR.STATE_REQ for Dry dock starts the transition into Dry dock, or is held pending. -/
  | stateReqDryDock (src : Source) (v : Word)
  /-- STATE_REQ_DOZE (R52). A PWR.STATE_REQ for Doze starts the lowering toward Doze with the kept brick, zeroising first. -/
  | stateReqDoze (src : Source) (v : Word)
  /-- STATE_REQ_QUIET (R52). A PWR.STATE_REQ for Quiet starts the transition into Quiet, or is refused during thermal shutdown. -/
  | stateReqQuiet (src : Source) (v : Word)
  /-- STATE_REQ_RUN (R52). A PWR.STATE_REQ for Run starts the transition into Run, or is refused without an image or in shutdown. -/
  | stateReqRun (src : Source) (v : Word)
  /-- STATE_REQ_RESERVED (R52). A PWR.STATE_REQ with a reserved state code is refused. -/
  | stateReqReserved (src : Source) (v : Word)
  /-- STATE_TRANSITION_COMPLETE (R52). A state transition completes, BUSY clears, and any pending request is then started. -/
  | stateTransitionComplete
  /-- RUN_OFF_WRITE (R56). A write to PWR.RUN_OFF lowers or raises the named domains within 200 µs, refusing a write that leaves no brick. -/
  | runOffWrite (src : Source) (v : Word)
  /-- AVS_UPDATE (R57). Every 100 µs the AVS loop updates the VDD_CORE target from slack and pace and writes it over AVSBus. -/
  | avsUpdate (slacks : List (Fin 8 × BitVec 16)) (paces : List (Fin 4 × BitVec 16))
  /-- AVS_TRANSACTION_DONE (R59). An AVSBus transaction completes or goes unanswered, its status is read and warnings are acted on. -/
  | avsTransactionDone (answered : Bool) (warning : Bool)
  /-- AVS_CEILING (R58). The target standing at VMAX for 1 ms without recovery sets CEIL and requests throttle level 1. -/
  | avsCeiling
  /-- AVS_CEIL_CLEAR (R58). Slack and pace recovered for 10 ms clear CEIL and its throttle request. -/
  | avsCeilClear
  /-- POWER_ESTIMATE (R61). Every 1 ms the device estimates its power and updates the surge budget. -/
  | powerEstimate (mw : BitVec 20)
  /-- RX_ADC_SAMPLE (R107). A receive ADC sample is stamped, compensated, tagged and passed through the ingress crossing and chain. -/
  | rxAdcSample (p : Fin 64) (re : BitVec 12) (im : BitVec 12) (ovr : Bool) (fill : Fin 1025)
  /-- RX_INGRESS_SPACE_RETURN (R19). When ingress space returns, one invalid zero sample per lost sample is delivered with its stamp. -/
  | rxIngressSpaceReturn (p : Fin 64)
  /-- TX_SAMPLE_PLAYOUT (R18). A transmit sample is presented at the mute stage at its stamp, or discarded if late, with mutes applied. -/
  | txSamplePlayout (p : Fin 64) (late : Bool) (fill : Fin 2049)
  /-- CLR_CNT (R23). Writing TOP.DRIFT_CTL.CLR_CNT clears every SLIP_CNT within 100 ns. -/
  | clrCnt (src : Source) (v : Word)
  /-- CLR_MIN (R23). Writing TOP.DRIFT_CTL.CLR_MIN sets every MIN_NS to 0xFFFF. -/
  | clrMin (src : Source) (v : Word)
  /-- REFCLK_EDGE_LOSS (R67). Four missing REFCLK periods put the CPLL into holdover, or bypass when HO_LIMIT_S is 0. -/
  | refclkEdgeLoss
  /-- FREQ_MONITOR_WINDOW (R68). At the end of each 1 ms monitor window REFCLK is checked against ±20 ppm, qualified or disqualified. -/
  | freqMonitorWindow (dev : Option Int) (phi : Int)
  /-- HOLDOVER_EXPIRED (R69). Holdover reaching HO_LIMIT_S without a qualified REFCLK sends the CPLL into bypass. -/
  | holdoverExpired
  /-- CPLL_UNLOCK (R71). CPLL loss of lock switches Tide and timers to the bypass clock and stops the converters. -/
  | cpllUnlock
  /-- CPLL_LOCK_RETRY (R73). Every 10 ms while REFCLK is qualified the CPLL in bypass tries to lock. -/
  | cpllLockRetry
  /-- CPLL_RELOCK (R73). Lock held for 100 µs returns Tide to the CPLL, opens the converter gates and relocks the synthesisers. -/
  | cpllRelock
  /-- SYN_GO (R76). A write of CLK.SYNn_CTL.GO starts or arms a retune of the synthesiser pair or one synthesiser. -/
  | synGo (src : Source) (n : Fin 2) (v : Word)
  /-- SYN_RETUNE_START (R76). An armed retune reaches its stamp, starts and opens a 40 µs settle window. -/
  | synRetuneStart (n : Fin 2)
  /-- SETTLE_WINDOW_END (R76). The 40 µs settle window ends; a synthesiser without lock is unlocked from then on. -/
  | settleWindowEnd (n : Fin 2)
  /-- SYN_LOCK (R76). A synthesiser reports lock after band calibration. -/
  | synLock (n : Fin 2)
  /-- SYN_UNLOCK (R79). A synthesiser losing lock outside its settle window mutes and invalidates its paths, or swaps to the spare. -/
  | synUnlock (n : Fin 2)
  /-- SYN_LOCK_RETRY (R79). Every 100 µs an unlocked synthesiser retries lock. -/
  | synLockRetry (n : Fin 2)
  /-- SYN_RELOCK_TIMEOUT (R437). A synthesiser not relocked 10 ms after a loss is marked FAILED. -/
  | synRelockTimeout (n : Fin 2)
  /-- SWAP_MUTE_LIFT (R80). 40 µs after a swap or route change the path phases are verified, the mute lifts and SWAP_MUTE accumulates. -/
  | swapMuteLift
  /-- LO_ROUTE_WRITE (R81). A write to CLK.LO_ROUTE changes the serving synthesisers at once, muting as a swap when they change. -/
  | loRouteWrite (src : Source) (v : Word)
  /-- LODIST_DIVIDER_RESET (R82). On the first grid edge at least 1 µs after a lock or swap, or on a forced resync, every LODIST divider resets in step. -/
  | lodistDividerReset
  /-- RESYNC (R82). Writing CLK.LO_SYNC.RESYNC forces a divider reset on the next grid edge in Quiet, else is refused. -/
  | resync (src : Source) (v : Word)
  /-- LPLL_UNLOCK (R85). A link PLL losing lock switches its link to bypass carrying only idle and management. -/
  | lpllUnlock (b : Fin 4)
  /-- LPLL_LOCK_RETRY (R85). Every 1 ms a link PLL in bypass retries lock. -/
  | lpllLockRetry (b : Fin 4)
  /-- LPLL_RELOCK (R85). Lock held for 100 µs returns the link to full rate and it retrains. -/
  | lpllRelock (b : Fin 4)
  /-- SSC_APEX_APPLY (R84). A changed spread setting takes effect at the next apex of the triangle. -/
  | sscApexApply (b : Fin 4)
  /-- AGC_DECISION (R110). At each 8-sample decision interval the gain state machine steps up, counts dwell or steps down. -/
  | agcDecision
  /-- AGC_SUSPEND_END (R112). 1 µs after the last TRSW falls, or at LO settle end, suspension ends and START may be loaded. -/
  | agcSuspendEnd
  /-- AGC_CTL_WRITE (R113). A write to RXA.AGC_CTL changes mode or manual step, effective at the next decision boundary. -/
  | agcCtlWrite (src : Source) (v : Word)
  /-- SERVO_AVERAGE (R117). At the end of each 65,536-sample average the servo code moves one LSB toward zero mean. -/
  | servoAverage (p : Fin 64)
  /-- SLICE_EXCHANGE (R119). Every 2 ms the calibrated spare slice replaces the longest-serving slice, retiring failing slices. -/
  | sliceExchange (p : Fin 64) (q : Fin 2) (slice : Fin 9) (trimLimit : Bool) (residual : Bool)
  /-- RX_CAL_REQ (R128). A write of RXA.CAL_REQ with GO holds a calibration request for a gap, or refuses it at once. -/
  | rxCalReq (src : Source) (v : Word)
  /-- RX_CAL_START (R128). A granted gap that covers the quads and span starts the held receive calibration. -/
  | rxCalStart
  /-- RX_CAL_TIMEOUT (R128). A held request with no suitable gap within 1 s is refused. -/
  | rxCalTimeout
  /-- RX_CAL_DONE (R129). An on-request receive calibration completes and the chains restart. -/
  | rxCalDone (fail : BitVec 64) (slices : List (Fin 64 × Fin 2 × Fin 9))
  /-- RX_RETIRE_WRITE (R130). A write to RXA.RETIRE0/1 powers paths down or restores them with a chain restart. -/
  | rxRetireWrite (src : Source) (half : Fin 2) (v : Word)
  /-- RXA_CNT_CLR_OVR (R124). Writing RXA.CNT_CLR.OVR clears every Pnn_OVR. -/
  | rxaCntClrOvr (src : Source) (v : Word)
  /-- RXA_CNT_CLR_AGC (R110). Writing RXA.CNT_CLR.AGC clears AGC_CNT. -/
  | rxaCntClrAgc (src : Source) (v : Word)
  /-- RXD_RUN_WRITE (R144). A write of RXD.CTL.RUN starts or stops every receive chain together. -/
  | rxdRunWrite (src : Source) (v : Word)
  /-- RXD_CFG_WRITE (R143). A write to a run-locked RXD configuration register is applied when stopped, else ignored and counted. -/
  | rxdCfgWrite (src : Source) (i : Fin 6148) (v : Word)
  /-- RXD_NCO_GO (R136). A write of RXD.NCO_CTL.GO retunes the receive NCO at once or arms it, refusing above 200 MHz. -/
  | rxdNcoGo (src : Source) (v : Word)
  /-- RXD_NCO_RETUNE_AT (R136). An armed receive NCO retune takes effect on the first sample at its stamp, phase continuous. -/
  | rxdNcoRetuneAt
  /-- RXD_CNT_CLR_SAT (R134). Writing RXD.CNT_CLR.SAT clears every Pnn_SAT. -/
  | rxdCntClrSat (src : Source) (v : Word)
  /-- RXD_CNT_CLR_INV (R148). Writing RXD.CNT_CLR.INV clears every Pnn_INV. -/
  | rxdCntClrInv (src : Source) (v : Word)
  /-- TXD_RUN_WRITE (R158). A write of TXD.CTL.RUN starts or stops every transmit chain together. -/
  | txdRunWrite (src : Source) (v : Word)
  /-- TXD_CFG_WRITE (R158). A write to a run-locked TXD register is applied when stopped, else ignored and counted. -/
  | txdCfgWrite (src : Source) (i : Fin 95) (v : Word)
  /-- TXD_NCO_GO (R155). A write of TXD.NCO_CTL.GO retunes or arms the transmit NCO, refusing above 200 MHz. -/
  | txdNcoGo (src : Source) (v : Word)
  /-- TXD_NCO_RETUNE_AT (R155). An armed transmit NCO retune takes effect at its air instant and the governing band is refixed. -/
  | txdNcoRetuneAt
  /-- TX_GAIN_APPLY (R157). A new gain or back-off takes effect on the first sample 2 µs after the change. -/
  | txGainApply
  /-- TX_CHAIN_RESTART (R496). At its instant T a transmit chain restart clears filters, rederives taps and mutes 2 µs as settle. -/
  | txChainRestart
  /-- TXA_CTL_WRITE (R165). A change of FILT_BW schedules a restart of every transmit chain. -/
  | txaCtlWrite (src : Source) (v : Word)
  /-- TX_RETIRE_WRITE (R166). A write to TXA.RETIRE0/1 turns drivers off within 10 µs, or restores them with a chain restart. -/
  | txRetireWrite (src : Source) (half : Fin 2) (v : Word)
  /-- COEX_GNT_FALL (R163). A falling edge on COEX_GNT mutes every transmit port within 5 ns and is stamped. -/
  | coexGntFall
  /-- COEX_GNT_RISE (R164). A rising edge on COEX_GNT is stamped and fixes the instant at which the mute lifts. -/
  | coexGntRise
  /-- COEX_MUTE_LIFT (R164). RESUME_NS after the rising edge, the first sample plays again. -/
  | coexMuteLift
  /-- TX_CAL_REQ (R169). A write of TXA.CAL_REQ with GO holds a transmit calibration for a gap or refuses it. -/
  | txCalReq (src : Source) (v : Word)
  /-- TX_CAL_START (R169). A covering gap starts the held transmit calibration, muting its span under cause 3. -/
  | txCalStart
  /-- TX_CAL_TIMEOUT (R169). A held transmit request with no gap within 1 s is refused. -/
  | txCalTimeout
  /-- TX_CAL_DONE (R169). An on-request transmit calibration completes and the affected chains restart. -/
  | txCalDone (fail : BitVec 64) (limit : BitVec 64)
  /-- READBACK_GO (R171). A write of TXA.RB_CTL.GO requests a read-back of a path through the ORX. -/
  | readbackGo (src : Source) (v : Word)
  /-- READBACK_DONE (R171). The 20 µs ORX read-back completes and its result is written to RB_RES. -/
  | readbackDone (v : BitVec 16)
  /-- TXD_CNT_CLR_MUTE (R162). Writing TXD.CNT_CLR.MUTE clears every TXD.MUTEc. -/
  | txdCntClrMute (src : Source) (v : Word)
  /-- TXD_CNT_CLR_SAT (R153). Writing TXD.CNT_CLR.SAT clears every TXD.Pnn_SAT. -/
  | txdCntClrSat (src : Source) (v : Word)
  /-- DPD_CFG_WRITE (R175). A write to DPD.TERMt or DPD.XFADE is applied while stopped and in range, else ignored. -/
  | dpdCfgWrite (src : Source) (i : Fin 33) (v : Word)
  /-- DPD_PCTL_WRITE (R176). A write to DPD.Pnn_CTL sets bypass after 2 µs, FB_ATT, and ADAPT_EN 0 then 1 clears FROZEN. -/
  | dpdPctlWrite (src : Source) (p : Fin 64) (v : Word)
  /-- DPD_BANK_WRITE (R178). A write to a DPD bank word is stored unless the bank is active, which ignores and counts it. -/
  | dpdBankWrite (src : Source) (p : Fin 64) (bank : Fin 8) (term : Fin 32) (part : Fin 2) (v : Word)
  /-- DPD_SWAP_GO (R180). A write of DPD.SWAP_CTL.GO makes swap requests for BANK on the masked paths 2 µs later. -/
  | dpdSwapGo (src : Source) (v : Word)
  /-- FADE_COMPLETE (R181). A cross-fade reaches its length and a queued request or refresh starts its fade. -/
  | fadeComplete (p : Fin 64)
  /-- ORX_SLOT (R186). An ORX slot of 20 µs settles, waits for a capture span, captures or ends unused. -/
  | orxSlot (k : Fin 8) (found : Bool) (ri : Int) (rq : Int) (fill : Fin 2049) (lost : BitVec 16)
  /-- DPD_SOLVE_DONE (R189). A solve completes within 18 µs of capture: rejected, withheld, applied or reverted, and the result written. -/
  | dpdSolveDone (p : Fin 64) (rms : Int) (ovr : Bool) (corr : Fin 1001) (delay : Fin 2048) (nmse : BitVec 16)
  /-- REFRESH_FADE_START (R190). A pending coefficient refresh starts its fade once no fade or queued request remains. -/
  | refreshFadeStart (p : Fin 64)
  /-- ORX_SLICE_EXCHANGE (R183). Every 2 ms an ORX ADC exchanges its spare slice, retiring failing slices. -/
  | orxSliceExchange (k : Fin 8) (q : Fin 2) (slice : Fin 17) (trimLimit : Bool) (residual : Bool)
  /-- DPD_CNT_CLR_PATH (R176). Writing DPD.CNT_CLR.PATH clears every Pnn_SAT and Pnn_REJ. -/
  | dpdCntClrPath (src : Source) (v : Word)
  /-- DPD_CNT_CLR_DROP (R182). Writing DPD.CNT_CLR.DROP clears DROP_CNT. -/
  | dpdCntClrDrop (src : Source) (v : Word)
  /-- DPD_CNT_CLR_ACTWR (R178). Writing DPD.CNT_CLR.ACTWR clears ACTWR_CNT. -/
  | dpdCntClrActwr (src : Source) (v : Word)
  /-- NOP (R204). A bundle with compute opcode NOP performs only its slot accesses and pointer updates. -/
  | nop (q : Fin 96)
  /-- MAC (R205). MAC adds Va × Vb into accumulator Ad per lane. -/
  | mac (q : Fin 96)
  /-- MACC (R205). MACC adds Va × conj(Vb) into Ad. -/
  | macc (q : Fin 96)
  /-- MSU (R205). MSU subtracts Va × Vb from Ad. -/
  | msu (q : Fin 96)
  /-- MUL (R205). MUL sets Ad to Va × Vb. -/
  | mul (q : Fin 96)
  /-- MULC (R205). MULC sets Ad to Va × conj(Vb). -/
  | mulc (q : Fin 96)
  /-- MAG2 (R205). MAG2 adds the squared magnitude of Va into the real part of Ad. -/
  | mag2 (q : Fin 96)
  /-- ADDA (R205). ADDA adds Va × 2^15 into Ad. -/
  | adda (q : Fin 96)
  /-- ZERO (R205). ZERO clears Ad, its tag and flags. -/
  | zero (q : Fin 96)
  /-- SHRA (R205). SHRA rounds Ad divided by 2^k. -/
  | shra (q : Fin 96)
  /-- NR (R205). NR narrows As into vector Vd. -/
  | nr (q : Fin 96)
  /-- NRC (R205). NRC narrows As into Vd and clears As. -/
  | nrc (q : Fin 96)
  /-- NRO (R205). NRO narrows As to an output stream port and clears As. -/
  | nro (q : Fin 96)
  /-- ADD (R205). ADD sets Vd to the fitted sum Va + Vb. -/
  | add (q : Fin 96)
  /-- SUB (R205). SUB sets Vd to the fitted difference Va − Vb. -/
  | sub (q : Fin 96)
  /-- CMUL (R205). CMUL sets Vd to the rounded product Va × Vb ÷ 2^15. -/
  | cmul (q : Fin 96)
  /-- CONJ (R205). CONJ sets Vd to conj(Va). -/
  | conj (q : Fin 96)
  /-- NEG (R205). NEG sets Vd to −Va. -/
  | neg (q : Fin 96)
  /-- MOVV (R205). MOVV copies Va to Vd. -/
  | movv (q : Fin 96)
  /-- ROT (R205). ROT rotates the lanes of Va by k into Vd. -/
  | rot (q : Fin 96)
  /-- BCAST (R205). BCAST copies lane k of Va to every lane of Vd. -/
  | bcast (q : Fin 96)
  /-- OUT (R205). OUT sends Va with its tag to an output stream port. -/
  | out (q : Fin 96)
  /-- LOOP (R210). LOOP starts or restarts a hardware loop at level 0 or 1. -/
  | loop (q : Fin 96)
  /-- JMP (R210). JMP sets PC and cancels every active loop. -/
  | jmp (q : Fin 96)
  /-- MOVR (R202). MOVR loads a pointer, modifier or length register, overriding other pointer changes. -/
  | movr (q : Fin 96)
  /-- HALT (R211). HALT stops the core with HALTED set. -/
  | halt (q : Fin 96)
  /-- ILLEGAL_BUNDLE (R211). A reserved opcode, slot mode or pointer operation, or forwarding without a load, faults without effect. -/
  | illegalBundle (q : Fin 96)
  /-- UNIT_DEAL (R213). At each block the distributor deals units round-robin to running in-service cores, delivering lost units as invalid. -/
  | unitDeal (c : Fin 4)
  /-- QUAY_WINDOW_WRITE (R215). A window write to core memory is applied, or ignored and counted when it targets running instruction memory. -/
  | quayWindowWrite (src : Source) (q : Fin 96) (w : Fin 28672) (v : Word)
  /-- CORE_RUN_WRITE (R216). A write of Kq_CTL starts a core from START_PC, stops it, clears FAULT and HALTED, or is refused when locked. -/
  | coreRunWrite (src : Source) (q : Fin 96) (v : Word)
  /-- CLUSTER_CTL_WRITE (R216). A write of Cc_CTL or Cc_MAP starts or stops the distributor, or changes configuration while stopped. -/
  | clusterCtlWrite (src : Source) (c : Fin 4) (map : Bool) (v : Word)
  /-- SHADOW_TURN (R218). Every 10 ms the reserve core starts shadowing the next SWAP_SAFE core from a copy of its memories. -/
  | shadowTurn (c : Fin 4)
  /-- CORE_SWAP_GO (R219). A write of Cc_SWAP.GO checks the swap and copies OUT into IN, or refuses it. -/
  | coreSwapGo (src : Source) (c : Fin 4) (v : Word)
  /-- CORE_SWAP_SWITCH (R219). At the block after the next berth switch, or after 10 ms, the reserve replaces OUT and OUT is retired. -/
  | coreSwapSwitch (c : Fin 4)
  /-- SCHED_ADD (R231). A BERTH.SCHED_CMD ADD queues a berth switch or is refused. -/
  | schedAdd (src : Source) (v : Word)
  /-- SCHED_CANCEL (R232). A CANCEL removes the entry with exactly the given instant, or returns NOTFOUND or LATE. -/
  | schedCancel (src : Source) (v : Word)
  /-- SCHED_FLUSH (R232). A FLUSH removes every entry of the direction not yet staged. -/
  | schedFlush (src : Source) (v : Word)
  /-- SCHED_OP_RESERVED (R231). SCHED_CMD OP 3 is refused with RESULT STATE. -/
  | schedOpReserved (src : Source) (v : Word)
  /-- BERTH_STAGE (R233). 12 µs before an entry's instant its berth is copied into the weight cache. -/
  | berthStage (dir : Fin 2)
  /-- BERTH_SWITCH (R234). At an entry's instant every path and cluster of the direction switches berth on the exact sample. -/
  | berthSwitch (dir : Fin 2)
  /-- BERTH_WINDOW_WRITE (R235). A write to a berth weight table or descriptor is stored, deferred past a running copy, and recounts panel sums. -/
  | berthWindowWrite (src : Source) (dir : Fin 2) (b : Fin 512) (w : Fin 2051) (v : Word)
  /-- MASK_APPLY (R228). A changed effective mask takes effect at the first switch or block boundary 100 µs later. -/
  | maskApply (dir : Fin 2)
  /-- ALIGN_WRITE (R226). A write to a path's ALIGN or PCAL is held for the first block 2 µs later. -/
  | alignWrite (src : Source) (p : Fin 64) (dir : Fin 2) (pcal : Bool) (v : Word)
  /-- ALIGN_APPLY (R226). New ALIGN or PCAL takes effect on a block, invalidating or muting it if the change is large. -/
  | alignApply (p : Fin 64) (dir : Fin 2)
  /-- BCAL_REQ (R237). A write of BERTH.CAL_REQ holds a berth calibration for a gap or refuses it at once. -/
  | bcalReq (src : Source) (v : Word)
  /-- BCAL_START (R237). A covering gap starts the berth calibration through CALIO. -/
  | bcalStart
  /-- BCAL_TIMEOUT (R237). A berth calibration with no gap within 1 s is refused. -/
  | bcalTimeout
  /-- BCAL_DONE (R237). The berth calibration completes and sets ALIGN and PCAL per path. -/
  | bcalDone (fail : BitVec 64)
  /-- BERTH_CNT_CLR_SAT (R224). Writing BERTH.CNT_CLR.SAT clears SAT_CNT. -/
  | berthCntClrSat (src : Source) (v : Word)
  /-- BERTH_CNT_CLR_REF (R231). Writing BERTH.CNT_CLR.REF clears REF_CNT. -/
  | berthCntClrRef (src : Source) (v : Word)
  /-- ALIGN_SET_RECEIVED (R246). An ALIGN set is received on a brick or ring port and acted on for training, stripe, repair and write-off. -/
  | alignSetReceived (l : Fin 4) (sets : List (List Byte)) (skew : List Nat)
  /-- SIGNAL_DETECT (R248). Forwarded clock and signal on every lane move a brick from DETECT to LOCK. -/
  | signalDetect (l : Fin 4)
  /-- TRAIN_STATE_TIMEOUT (R250). A training state's time limit expires and the brick moves on, writing off failed lanes or restarting. -/
  | trainStateTimeout (l : Fin 4)
  /-- TRAIN_TIMEOUT (R252). Training not UP 150 ms after DETECT is abandoned and the brick goes DOWN. -/
  | trainTimeout (l : Fin 4)
  /-- RETRAIN_START (R259). 10 ms in DOWN, or link PLL relock from BYPASS, restarts training from DETECT. -/
  | retrainStart (l : Fin 4)
  /-- DATA_COLUMN_RECEIVED (R248). A data column is destriped, erased bytes rebuilt from parity, or marked bad. -/
  | dataColumnReceived (l : Fin 4) (col : List (Option Byte))
  /-- LANE_SIGNAL_LOSS (R253). A lane without transition for 2 ns enters repair, or takes the brick DOWN if another lane is in repair. -/
  | laneSignalLoss (l : Fin 4) (lane : Fin 9)
  /-- REQUAL_ATTEMPT_DONE (R254). A requalification attempt ends: the lane is readmitted, retried or written off. -/
  | requalAttemptDone (l : Fin 4) (lane : Fin 9) (ok : Bool)
  /-- REMAP_STALLED (R255). TXOFF not naming a written-off lane within 16 superframes raises REMAP_STALLED. -/
  | remapStalled (l : Fin 4)
  /-- FWD_CLOCK_LOSS (R259). A forwarded clock without transition for 4 ns takes the brick DOWN. -/
  | fwdClockLoss (l : Fin 4)
  /-- DFE_ADAPT (R244). Every 256 decisions a lane's DFE taps adapt by one code. -/
  | dfeAdapt (l : Fin 4) (lane : Fin 9) (d0 : BitVec 10) (d1 : BitVec 10) (d2 : BitVec 10) (d3 : BitVec 10) (d4 : BitVec 10)
  /-- CTLE_ADAPT (R244). Every 1 ms a lane's CTLE steps from the first DFE tap. -/
  | ctleAdapt (l : Fin 4) (lane : Fin 9)
  /-- EYE_MEASURE (R244). Every 100 ms the eye monitor writes each lane's eye height and width. -/
  | eyeMeasure (l : Fin 4) (lane : Fin 9) (height : BitVec 8) (width : BitVec 8)
  /-- FHL_RETRAIN_A (R259). Writing FHL.CTL.RETRAIN_A takes brick A DOWN for retraining. -/
  | fhlRetrainA (src : Source) (v : Word)
  /-- FHL_RETRAIN_B (R259). Writing FHL.CTL.RETRAIN_B takes brick B DOWN for retraining. -/
  | fhlRetrainB (src : Source) (v : Word)
  /-- FHL_CNT_CLR (R248). Writing FHL.CNT_CLR clears every FHL counter. -/
  | fhlCntClr (src : Source) (v : Word)
  /-- LINK_FRAME_RX (R265). A link frame received whole is checked and handed to its message handler or discarded. -/
  | linkFrameRx (l : Fin 4) (f : List Byte) (bad : Bool) (idle : Bool) (fill : Fin 16385) (other : Fin 16385)
  /-- TX_SECTION_RX (R273). A received TX IQ section is checked in order and stored, or refused as FORMAT, STATE, EARLY, LATE, OVERLAP or FULL. -/
  | txSectionRx (b : Fin 2) (payload : List Byte)
  /-- RX_SECTION_FORM (R271). An RX stream section is cut at its boundary, compressed, tagged and sent on its brick. -/
  | rxSectionForm (m : Fin 32) (slack : BitVec 16)
  /-- RXS_CFG_WRITE (R269). A write to FHM.RXSm_CFG reruns the stream placement. -/
  | rxsCfgWrite (src : Source) (m : Fin 32) (v : Word)
  /-- RTC_BERTH_ADD (R275). A type 2 BERTH_ADD adds a schedule entry under the checks of R231. -/
  | rtcBerthAdd (via : Fin 3) (flags : Byte) (seq : BitVec 16) (body : List Byte)
  /-- RTC_BERTH_CANCEL (R275). A type 2 BERTH_CANCEL cancels an entry under R232. -/
  | rtcBerthCancel (via : Fin 3) (flags : Byte) (seq : BitVec 16) (body : List Byte)
  /-- RTC_BERTH_FLUSH (R275). A type 2 BERTH_FLUSH flushes unstaged entries. -/
  | rtcBerthFlush (via : Fin 3) (flags : Byte) (seq : BitVec 16) (body : List Byte)
  /-- RTC_GAP_GRANT (R276). A type 2 GAP_GRANT holds a calibration gap or is refused. -/
  | rtcGapGrant (via : Fin 3) (flags : Byte) (seq : BitVec 16) (body : List Byte)
  /-- RTC_GAP_REVOKE (R276). A type 2 GAP_REVOKE removes a gap that has not begun. -/
  | rtcGapRevoke (via : Fin 3) (flags : Byte) (seq : BitVec 16) (body : List Byte)
  /-- RTC_NCO_RETUNE (R275). A type 2 NCO_RETUNE arms a retune of the selected NCO. -/
  | rtcNcoRetune (via : Fin 3) (flags : Byte) (seq : BitVec 16) (body : List Byte)
  /-- RTC_SYN_RETUNE (R275). A type 2 SYN_RETUNE arms a synthesiser retune, paired in TDD. -/
  | rtcSynRetune (via : Fin 3) (flags : Byte) (seq : BitVec 16) (body : List Byte)
  /-- RTC_UNKNOWN (R275). A type 2 message with an unknown command or body length is answered UNKNOWN. -/
  | rtcUnknown (via : Fin 3) (cmd : Byte) (flags : Byte) (seq : BitVec 16) (body : List Byte)
  /-- GAP_BEGIN (R276). A held gap begins and held calibrations covering its quads start. -/
  | gapBegin
  /-- GAP_END (R276). A gap ends and is removed. -/
  | gapEnd
  /-- RMA_READ (R277). A type 4 read request reads the address space in arrival order and answers. -/
  | rmaRead (via : Fin 3) (id : Byte) (elem : BitVec 16) (addr : BitVec 48) (len : BitVec 16)
  /-- RMA_WRITE (R277). A type 4 write request with response writes the address space and answers. -/
  | rmaWrite (via : Fin 3) (id : Byte) (elem : BitVec 16) (addr : BitVec 48) (data : List Byte)
  /-- RMA_WRITE_NO_RESP (R277). A type 4 write without response writes the address space silently. -/
  | rmaWriteNoResp (via : Fin 3) (id : Byte) (elem : BitVec 16) (addr : BitVec 48) (data : List Byte)
  /-- RMA_RESPONSE_RX (R414). A baseband type 4 answer to a Crane remote write is received and matched. -/
  | rmaResponseRx (b : Fin 2) (id : Byte) (ok : Bool)
  /-- RESET_REQUEST (R278). A type 6 reset request from a Service session is answered and schedules a reset 1 ms later. -/
  | resetRequest (b : Fin 2) (id : BitVec 16) (op : Byte) (p0 : Byte)
  /-- EVENT_MSG_SEND (R279). Within 100 µs of queued events the device sends a type 7 message of up to 8 notifications. -/
  | eventMsgSend
  /-- FHM_CTL_WRITE (R279). A write of FHM.CTL sets EVT_EN, discarding queued events when cleared, and RX_NBLK. -/
  | fhmCtlWrite (src : Source) (v : Word)
  /-- FHM_CNT_CLR (R273). Writing FHM.CNT_CLR clears every FHM counter. -/
  | fhmCntClr (src : Source) (v : Word)
  /-- MEMBER_JOIN (R284). A member reaching the head is checked, configured and included in the next route, or refused. -/
  | memberJoin (d : Fin 4) (cfg : List Nat) (nco : List Nat)
  /-- RING_TOPO_REPORT (R288). A port change report reaches the head, which computes new arcs and a switch instant. -/
  | ringTopoReport (d : Fin 4) (up : BitVec 2) (data : BitVec 2) (we : Fin 9) (ww : Fin 9)
  /-- ROUTE_SWITCH (R289). At S every member switches route and the head re-forwards sections to new arc members. -/
  | routeSwitch (at_ : Stamp) (w : BitVec 4) (e : BitVec 4) (members : BitVec 4)
  /-- PSUM_SECTION_RX (R291). A partial-sum section arrives and is delivered on SI1 to the matching core, summed at the head. -/
  | psumSectionRx (port : Fin 2) (payload : List Byte)
  /-- PSUM_TIMEOUT (R291). A partial sum absent HOLD_NS after the core waits is replaced by invalid zeros. -/
  | psumTimeout (q : Fin 96)
  /-- LAYER_FORWARD (R292). The head forwards each stored layer section along both arcs and members store it. -/
  | layerForward (l : Fin 32) (port : Fin 2) (payload : List Byte) (slack : BitVec 16)
  /-- PANEL_SUMS_RX (R293). A device receives another's n_b and m_b and applies the panel sums at the next switch. -/
  | panelSumsRx (d : Fin 4) (l : List (Fin 1024 × Fin 65 × Fin 65))
  /-- RING_SYNC_GO (R294). Writing RING.SYNC.GO asks the head for a ring sync. -/
  | ringSyncGo (src : Source) (v : Word)
  /-- RING_SYNC (R294). At S every member resets its LODIST dividers on the grid edge. -/
  | ringSync (at_ : Stamp)
  /-- XCAL_REQ (R295). Writing RING.XCAL_REQ.GO on the head holds cross-chip calibration for a gap, or refuses it. -/
  | xcalReq (src : Source) (calio : Bool) (v : Word)
  /-- XCAL_START (R295). A covering gap starts cross-chip calibration across the ring. -/
  | xcalStart
  /-- XCAL_DONE (R295). Cross-chip calibration completes and the head sets each member's XALIGN and XPCAL. -/
  | xcalDone (txAlign : BitVec 16) (txRe : BitVec 16) (txIm : BitVec 16) (rxAlign : BitVec 16) (rxRe : BitVec 16) (rxIm : BitVec 16)
  /-- RING_RETRAIN_E (R259). Writing RING.CTL.RETRAIN_E takes the east port DOWN for retraining. -/
  | ringRetrainE (src : Source) (v : Word)
  /-- RING_RETRAIN_W (R259). Writing RING.CTL.RETRAIN_W takes the west port DOWN for retraining. -/
  | ringRetrainW (src : Source) (v : Word)
  /-- RING_CNT_CLR (R291). Writing RING.CNT_CLR clears every ring counter. -/
  | ringCntClr (src : Source) (v : Word)
  /-- TIDE_EXCHANGE_START (R300). Every 2^−LOG_INT s the device starts a type 5 exchange on its source. -/
  | tideExchangeStart
  /-- TYPE5_MESSAGE_RX (R300). A type 5 message is received: answered, or recorded as an instant of the exchange. -/
  | type5MessageRx (l : Fin 4) (b : List Byte)
  /-- TIDE_EXCHANGE_COMPLETE (R302). A complete exchange is gated and filtered into an estimate that corrects, steps, refuses or locks Tide. -/
  | tideExchangeComplete
  /-- TIDE_EXCHANGE_LOST (R300). An exchange not complete within 1 ms is lost and counted. -/
  | tideExchangeLost
  /-- TIDE_HOLD (R310). Four intervals without an accepted exchange put a LOCKED Tide into HOLD. -/
  | tideHold
  /-- TIDE_ACK (R308). Writing TIDE.CTL.ACK in REFUSED accepts the offset and slews it out. -/
  | tideAck (src : Source) (v : Word)
  /-- TIDE_ASYM_WRITE (R302). A write to the source link's Lj_ASYM restarts the filter. -/
  | tideAsymWrite (src : Source) (j : Fin 4) (v : Word)
  /-- TIDE_CNT_CLR (R300). Writing TIDE.CNT_CLR clears every TIDE counter. -/
  | tideCntClr (src : Source) (v : Word)
  /-- TO_ADD (R311). A TIDE.TO_CMD ADD queues a timed pin entry or is refused. -/
  | toAdd (src : Source) (v : Word)
  /-- TO_FLUSH (R311). A TIDE.TO_CMD FLUSH empties the named pin's queue. -/
  | toFlush (src : Source) (v : Word)
  /-- TO_OP_RESERVED (R311). TO_CMD OP 2 or 3 is refused as PIN. -/
  | toOpReserved (src : Source) (v : Word)
  /-- TIMED_OUTPUT_EDGE (R312). A queued entry reaches its instant and sets its pin, or is consumed without effect. -/
  | timedOutputEdge (pin : Fin 26)
  /-- TPULSE_MODE_WRITE (R313). A write of a TPn MODE starts or stops a pulse generator, or is refused. -/
  | tpulseModeWrite (src : Source) (n : Fin 4) (v : Word)
  /-- COEX_ACT_RISE (R332). A rising COEX_ACT edge is stamped and counted and starts ACT tagging. -/
  | coexActRise
  /-- COEX_ACT_FALL (R332). A falling COEX_ACT edge is stamped and ends tagging HOLD_NS later. -/
  | coexActFall
  /-- ED_BIN_END (R322). At each 4 µs bin end the energy detector marks the bin busy, clear or blind. -/
  | edBinEnd (l : List (Fin 16 × Fin 20 × Fin 81 × Int × Bool × Fin 81))
  /-- STF_DETECT (R323). A watcher detects an L-STF and enters SYNC, possibly truncating or colliding with a reception. -/
  | stfDetect (b : Fin 16) (c : Fin 20) (w : Fin 2) (pd : Int)
  /-- LTF_SYNC (R324). A pair of L-LTF peaks validates, latching P and entering SIG. -/
  | ltfSync (b : Fin 16) (c : Fin 20) (w : Fin 2) (p : Int)
  /-- LTF_TIMEOUT (R324). No L-LTF pair within 12 µs closes the reception as FALSE_DET. -/
  | ltfTimeout (b : Fin 16) (c : Fin 20) (w : Fin 2)
  /-- LSIG_DECODE (R325). The L-SIG symbol is decoded and the reception accepted into BUSY or closed as FALSE_DET. -/
  | lsigDecode (b : Fin 16) (c : Fin 20) (w : Fin 2) (sig : BitVec 24)
  /-- WATCHER_BUSY_END (R326). At t_e an accepted reception ends and the watcher returns to SEARCH. -/
  | watcherBusyEnd (b : Fin 16) (c : Fin 20) (w : Fin 2)
  /-- LOOK_CTL_WRITE (R317). A write of LOOK.CTL enables or disables sensing, clearing the map when disabled. -/
  | lookCtlWrite (src : Source) (v : Word)
  /-- LOOK_CFG_WRITE (R320). A write to SBk, SCHs or BEAMV is applied only while EN is 0. -/
  | lookCfgWrite (src : Source) (i : Fin 1048) (v : Word)
  /-- LOOK_CNT_CLR (R322). Writing LOOK.CNT_CLR clears every LOOK.CNTc. -/
  | lookCntClr (src : Source) (v : Word)
  /-- BIAS_WRITE (R338). A write to a BIAS or AUXDAC register sets its target, refusing a range change on a quad not OFF. -/
  | biasWrite (src : Source) (o : Fin 72) (v : Word)
  /-- PA_CMD_ON (R339). A PA_CMD ON starts the ON sequence on the named quads. -/
  | paCmdOn (src : Source) (v : Word)
  /-- PA_CMD_OFF (R339). A PA_CMD OFF starts the OFF sequence on the named quads. -/
  | paCmdOff (src : Source) (v : Word)
  /-- PA_CMD_IGNORED (R339). A PA_CMD with OP 0 or 3 is ignored. -/
  | paCmdIgnored (src : Source) (v : Word)
  /-- PA_DRAIN_WAIT_END (R339). DRN_WAIT_US expires in a PA sequence and the bias ramp or drain switch follows. -/
  | paDrainWaitEnd (q : Fin 8)
  /-- PA_BIAS_ARRIVED (R339). The bias outputs reach their targets or safe codes and the sequence step completes. -/
  | paBiasArrived (q : Fin 8)
  /-- FE_FAULT_DRAIN_OFF (R343). 10 µs after the bias move the drains go low. -/
  | feFaultDrainOff
  /-- VNEG_FAULT (R343). The VNEG comparator tripping above −4.5 V starts a front-end fault with drains off first. -/
  | vnegFault
  /-- SYN_UNLOCK_FAULT (R343). The serving transmit synthesiser unlocked for 100 µs outside its settle window starts a front-end fault. -/
  | synUnlockFault
  /-- RFFE_WRITE (R345). An RFFE Register Write is pushed onto the master's queue or refused. -/
  | rffeWrite (src : Source) (n : Fin 8) (v : Word)
  /-- RFFE_READ (R345). An RFFE Register Read is pushed onto the master's queue or refused. -/
  | rffeRead (src : Source) (n : Fin 8) (v : Word)
  /-- RFFE_REG0_WRITE (R345). An RFFE Register 0 Write is pushed or refused. -/
  | rffeReg0Write (src : Source) (n : Fin 8) (v : Word)
  /-- RFFE_EXT_WRITE (R345). An RFFE Extended Register Write is pushed or refused, checked against TUNE limits. -/
  | rffeExtWrite (src : Source) (n : Fin 8) (v : Word)
  /-- RFFE_EXT_READ (R345). An RFFE Extended Register Read is pushed or refused. -/
  | rffeExtRead (src : Source) (n : Fin 8) (v : Word)
  /-- RFFE_CMD_UNKNOWN (R345). A push with an unknown CMD code is refused as ARG. -/
  | rffeCmdUnknown (src : Source) (n : Fin 8) (v : Word)
  /-- RFFE_COMMAND_START (R345). The queue head command starts on the bus, an armed one at its stamp. -/
  | rffeCommandStart (n : Fin 8)
  /-- RFFE_COMMAND_DONE (R345). A bus command completes and a read writes its bytes. -/
  | rffeCommandDone (n : Fin 8) (bytes : List Byte) (perr : Bool)
  /-- XCHK_CLR_WRITE (R353). Writing BWTR.XCHK_CLR bits clears the XCHK mute and E_nn. -/
  | xchkClrWrite (src : Source) (half : Fin 2) (v : Word)
  /-- BW_BLOCK_VERDICT (R351). Before each 1,024-sample block leaves, Breakwater judges port and total power. -/
  | bwBlockVerdict
  /-- BW_GRANULE_DECISION (R354). Before each 10 µs granule Breakwater decides the duty mute. -/
  | bwGranuleDecision
  /-- COT_EXPIRY (R354). A burst reaching COT mutes every later sample until it ends. -/
  | cotExpiry
  /-- LBT_QUERY (R355). At T_r − 1 µs of a burst in a shared band Breakwater asks Lookout for clearance. -/
  | lbtQuery
  /-- FEND_CNT_CLR (R342). Writing FEND.CNT_CLR clears every FEND counter. -/
  | fendCntClr (src : Source) (v : Word)
  /-- BWTR_CNT_CLR (R357). Writing BWTR.CNT_CLR clears every BWTR.CNTr. -/
  | bwtrCntClr (src : Source) (v : Word)
  /-- MON_PASS_START (R365). A continuous bank starts its next pass at the period or when the previous ends. -/
  | monPassStart (b : Fin 4)
  /-- MON_GO (R365). Writing MONb.CTL.GO in single mode runs one pass. -/
  | monGo (src : Source) (b : Fin 4) (v : Word)
  /-- MON_CTL_WRITE (R373). A write of MONb.CTL sets MODE and, while idle, the other fields. -/
  | monCtlWrite (src : Source) (b : Fin 4) (v : Word)
  /-- MON_SEQ_WRITE (R373). A write to a sequence or injected entry is applied while idle, clearing its result, else rejected. -/
  | monSeqWrite (src : Source) (b : Fin 4) (i : Fin 36) (v : Word)
  /-- MON_RESULT_WRITE (R362). An entry's last conversion ends and its corrected average is written with stamp and OVR. -/
  | monResultWrite (b : Fin 4) (raws : List (Int × Fin 3))
  /-- MON_INJ_GO (R366). Writing INJ_CTL.GO triggers the injected group. -/
  | monInjGo (src : Source) (b : Fin 4) (v : Word)
  /-- MON_INJ_TRIGGER (R366). An armed Tide trigger makes the injected group pending, or is dropped. -/
  | monInjTrigger (b : Fin 4)
  /-- MON_INJ_START (R367). A pending group starts at the next conversion boundary, suspending the regular entry. -/
  | monInjStart (b : Fin 4)
  /-- MON_INJ_CTL_WRITE (R373). A change of TRIG or INJ_AT replaces any armed trigger. -/
  | monInjCtlWrite (src : Source) (b : Fin 4) (i : Fin 3) (v : Word)
  /-- MON_CAL_GO (R372). Writing MONb.CAL_CTL.GO requests a calibration, latched behind a pending group. -/
  | monCalGo (src : Source) (b : Fin 4) (v : Word)
  /-- MON_CAL_START (R372). A calibration starts at the next boundary, abandoning the regular entry in progress. -/
  | monCalStart (b : Fin 4)
  /-- MON_CAL_DONE (R371). A calibration ends and its correction is applied or rejected. -/
  | monCalDone (b : Fin 4) (ofs : BitVec 16) (gain : BitVec 16)
  /-- MONITOR_RESULT_READ (R370). A permitted read of a monitor-rule result register clears NEW and latches its stamp. -/
  | monitorResultRead (src : Source) (b : Fin 4) (i : Fin 36)
  /-- MON_CNT_CLR (R363). Writing MON.CNT_CLR clears INJ_DROP and OVR_CNT. -/
  | monCntClr (src : Source) (v : Word)
  /-- HOLD_READ (R377). A Hold granule read corrects single errors and returns zeros for a poisoned granule. -/
  | holdRead (granule : BitVec 28) (err : Fin 3)
  /-- SCRUB_READ (R378). The scrubber reads the next granule, writes back corrections and counts passes. -/
  | scrubRead (err : Fin 3)
  /-- REPAIR_FUSE_BURN (R379). A held remap is burned into the die's repair fuses when temperature permits. -/
  | repairFuseBurn
  /-- HOLD_READY (R400). After a HOLD raise, Hold is initialised with repairs applied and READY set. -/
  | holdReady
  /-- HOLDC_CNT_CLR (R377). Writing HOLDC.CNT_CLR clears CE_CNT, UE_CNT and UNREP. -/
  | holdcCntClr (src : Source) (v : Word)
  /-- GAUGE_ARM (R384). A Cc_CMD ARM starts a channel writing its first slot in FILL, or is refused. -/
  | gaugeArm (src : Source) (c : Fin 16) (v : Word)
  /-- GAUGE_STOP (R391). A Cc_CMD STOP ends the channel, closing a record in POST with TRUNC. -/
  | gaugeStop (src : Source) (c : Fin 16) (v : Word)
  /-- GAUGE_TRIG (R386). A Cc_CMD TRIG is a software trigger at the write instant. -/
  | gaugeTrig (src : Source) (c : Fin 16) (v : Word)
  /-- GAUGE_CMD_IGNORED (R386). A Cc_CMD with OP 0 is ignored. -/
  | gaugeCmdIgnored (src : Source) (c : Fin 16) (v : Word)
  /-- GTRIG_EDGE (R386). A selected GTRIG edge is stamped as a trigger event. -/
  | gtrigEdge (rise : Bool)
  /-- GAUGE_TRIGGER_DECIDE (R387). Once Tide passes t_n + 20 µs, Gauge decides the sample's trigger and fixes the record. -/
  | gaugeTriggerDecide (c : Fin 16)
  /-- GAUGE_SET_WRITE (R383). A set of 15 instants is written to Hold, advancing FILL, ARMED and POST. -/
  | gaugeSetWrite (c : Fin 16) (slack : BitVec 16)
  /-- GAUGE_SET_DROP (R390). A set finding no room in the write queue is dropped and later marked. -/
  | gaugeSetDrop (c : Fin 16)
  /-- DEEP_HCLR (R395). Writing DEEPd_CTL.HCLR zeroes the histogram within 2 µs. -/
  | deepHclr (src : Source) (d : Fin 4) (v : Word)
  /-- DEEP_MCLR (R396). Writing DEEPd_CTL.MCLR zeroes the map. -/
  | deepMclr (src : Source) (d : Fin 4) (v : Word)
  /-- GAUGE_CNT_CLR (R385). Writing GAUGE.CNT_CLR clears every GAUGE counter. -/
  | gaugeCntClr (src : Source) (v : Word)
  /-- REPLAY_GO (R397). An RP_CTL GO arms a replay engine for RP_AT or is refused. -/
  | replayGo (src : Source) (r : Fin 4) (v : Word)
  /-- REPLAY_STOP (R398). An RP_CTL STOP ends play at the next set boundary. -/
  | replayStop (src : Source) (r : Fin 4) (v : Word)
  /-- REPLAY_START (R397). At the first air instant at or after RP_AT the engine begins playing. -/
  | replayStart (r : Fin 4)
  /-- REPLAY_END (R398). Play ends after LOOPS passes, STOP or chain stop and the paths return to the DUC. -/
  | replayEnd (r : Fin 4)
  /-- CRANE_GO (R402). A Cn_CTL GO starts a channel at HEAD at the writer's level, or is refused. -/
  | craneGo (src : Source) (ch : Fin 16) (v : Word)
  /-- CRANE_KICK (R403). A Cn_CTL KICK sets KICK_PEND and wakes an IDLE channel. -/
  | craneKick (src : Source) (ch : Fin 16) (v : Word)
  /-- CRANE_PAUSE (R415). A Cn_CTL PAUSE write enters PAUSING, or resumes a paused channel when cleared. -/
  | cranePause (src : Source) (ch : Fin 16) (v : Word)
  /-- CRANE_STOP (R416). A Cn_CTL STOP pauses, aborts the Manifest in progress and stops the channel. -/
  | craneStop (src : Source) (ch : Fin 16) (v : Word)
  /-- CRANE_PAUSED (R415). Outstanding accesses complete and the channel enters PAUSED or STOPPED. -/
  | cranePaused (ch : Fin 16)
  /-- MANIFEST_FETCH (R403). A channel fetches the Manifest at HEAD, idling on OWN 0. -/
  | manifestFetch (ch : Fin 16)
  /-- CRANE_COPY (R404). A COPY Manifest moves LEN bytes from SRC to DST, ascending or descending. -/
  | craneCopy (ch : Fin 16) (pieces : BitVec 22)
  /-- CRANE_FILL (R404). A FILL Manifest writes the pattern over the destination range. -/
  | craneFill (ch : Fin 16) (pieces : BitVec 22)
  /-- CRANE_COMPARE (R404). A COMPARE Manifest reads both ranges and counts mismatched words. -/
  | craneCompare (ch : Fin 16) (pieces : BitVec 22)
  /-- CRANE_LINK (R412). A LINK Manifest moves the channel to a new ring, or stops it on a bad ring or ninth LINK. -/
  | craneLink (ch : Fin 16)
  /-- CRANE_OP_RESERVED (R405). A Manifest with a reserved OP is marked PROG and moves no data. -/
  | craneOpReserved (ch : Fin 16)
  /-- MANIFEST_WRITEBACK (R403). Once every access has responded, the Manifest is written back with OWN 0 and CAUSE. -/
  | manifestWriteback (ch : Fin 16)
  /-- CRANE_ACCESS_TIMEOUT (R410). An access without response in 2 µs marks its Manifest NORESP, or stops the channel on a fetch or write-back. -/
  | craneAccessTimeout (ch : Fin 16)
  /-- REMOTE_ANSWER_TIMEOUT (R414). A remote write without answer within REM_US marks the Manifest NORESP. -/
  | remoteAnswerTimeout (ch : Fin 16)
  /-- CRANE_CNT_CLR (R402). Writing CRANE.CNT_CLR clears every Cn_BAD. -/
  | craneCntClr (src : Source) (v : Word)
  /-- THERM_MEASURE_START (R421). A scheduled measurement starts every PERIOD_MS. -/
  | thermMeasureStart
  /-- THERM_DEMAND (R421). Writing THERM.CTL.DEMAND starts a measurement unless one runs. -/
  | thermDemand (src : Source) (v : Word)
  /-- THERM_MEASURE_DONE (R425). A measurement completes: sensors judged, T_J formed, thresholds and NVM_OK counted. -/
  | thermMeasureDone (l : List (BitVec 16 × BitVec 12))
  /-- LADDER_ESCALATE (R426). ESC_MS expiring while THROTTLE holds raises L_th by one. -/
  | ladderEscalate
  /-- LADDER_DESCEND (R426). DESC_MS expiring while THROTTLE stays clear lowers L_th by one. -/
  | ladderDescend
  /-- SYN_CLR (R437). Writing RSV.SYN_CLR clears FAILED and RECENT of the named synthesisers. -/
  | synClr (src : Source) (v : Word)
  /-- PILOT_POLICY_ACTION (R439). Pilot acts on a policy signal: retires, swaps, re-solves or writes an advisory. -/
  | pilotPolicyAction (row : Fin 14) (unit : Byte) (again : Bool)
  /-- TUNER_STEER_TICK (R346). Every 10 s of transmission Pilot tries one tuner step for a path. -/
  | tunerSteerTick (p : Fin 64) (m : Fin 32) (code : Byte) (up : Bool)
  /-- SESSION_GO (R452). A Pp_REQ GO issues a fresh challenge, or is refused as HOLDOFF, LOCKED or LEVEL. -/
  | sessionGo (src : Source) (p : Fin 4) (v : Word)
  /-- SESSION_VERIFY (R452). A Pp_REQ VERIFY checks RESP and opens the session or counts a failure. -/
  | sessionVerify (src : Source) (p : Fin 4) (v : Word)
  /-- SESSION_CLOSE (R453). A Pp_REQ CLOSE closes the port's session. -/
  | sessionClose (src : Source) (p : Fin 4) (v : Word)
  /-- SESSION_REQ_MULTI (R452). A Pp_REQ setting more than one command bit is ignored with RESULT MULTI. -/
  | sessionReqMulti (src : Source) (p : Fin 4) (k : Fin 4) (v : Word)
  /-- SESSION_TIMEOUT (R453). No access for TIMEOUT_S closes the session. -/
  | sessionTimeout (p : Fin 4)
  /-- LOCK_EXPIRY (R455). A port lock's 24 h expire on the AON timer. -/
  | lockExpiry (p : Fin 4)
  /-- LOCK_CLR (R455). Writing SEC.LOCK_CLR from another Service session clears a port lock. -/
  | lockClr (src : Source) (v : Word)
  /-- ZEROISE (R465). Writing SEC.CTL.ZEROISE clears session keys, challenges and mailboxes and closes debug. -/
  | zeroise (src : Source) (v : Word)
  /-- FUSE_PROGRAM (R466). A SEC.FUSE_CMD GO starts burning a fuse field, or is refused. -/
  | fuseProgram (src : Source) (v : Word)
  /-- FUSE_PROG (R466). A burn completes, is read back and raises FUSE_PROG with its result. -/
  | fuseProg (ok : Bool)
  /-- PILOT_READY (R456). Pilot, started from PILOTFW at a raise, sets READY within 50 ms. -/
  | pilotReady
  /-- PILOT_WATCHDOG_EXPIRY (R457). A missed 100 ms watchdog service resets the PILOT domain, aborting commands. -/
  | pilotWatchdogExpiry
  /-- MBX_VERSION (R458). Mailbox VERSION returns the firmware version and command-set revision. -/
  | mbxVersion (src : Source) (p : Fin 4) (tag : Byte) (args : List Word)
  /-- MBX_HEALTH (R458). Mailbox HEALTH returns grades, retirements, thermal and power state. -/
  | mbxHealth (src : Source) (p : Fin 4) (tag : Byte) (args : List Word)
  /-- MBX_TELEM_SET (R460). Mailbox TELEM_SET sets the telemetry period, push address and depth. -/
  | mbxTelemSet (src : Source) (p : Fin 4) (tag : Byte) (args : List Word)
  /-- MBX_LOG_FIND (R458). Mailbox LOG_FIND searches Tally for the first record in a code range. -/
  | mbxLogFind (src : Source) (p : Fin 4) (tag : Byte) (args : List Word)
  /-- MBX_TUNE (R458). Mailbox TUNE runs tuner steering on the named paths. -/
  | mbxTune (src : Source) (p : Fin 4) (tag : Byte) (args : List Word)
  /-- MBX_CAL_POLICY (R458). Mailbox CAL_POLICY sets the calibration temperature triggers. -/
  | mbxCalPolicy (src : Source) (p : Fin 4) (tag : Byte) (args : List Word)
  /-- MBX_POLICY (R458). Mailbox POLICY enables rows of the vendor reserve policy. -/
  | mbxPolicy (src : Source) (p : Fin 4) (tag : Byte) (args : List Word)
  /-- MBX_RETIRE (R458). Mailbox RETIRE retires a path and re-solves its berths. -/
  | mbxRetire (src : Source) (p : Fin 4) (tag : Byte) (args : List Word)
  /-- MBX_RESTORE (R458). Mailbox RESTORE restores a path and requests berth calibration. -/
  | mbxRestore (src : Source) (p : Fin 4) (tag : Byte) (args : List Word)
  /-- MBX_RESOLVE (R458). Mailbox RESOLVE re-solves the berths of the named directions. -/
  | mbxResolve (src : Source) (p : Fin 4) (tag : Byte) (args : List Word)
  /-- MBX_SLIPWAY (R458). Mailbox SLIPWAY writes an image from Hold through Slipway OPEN, WRITE and CLOSE. -/
  | mbxSlipway (src : Source) (p : Fin 4) (tag : Byte) (args : List Word)
  /-- MBX_PILOT_RESET (R458). Mailbox PILOT_RESET restarts Pilot without counting toward HELD. -/
  | mbxPilotReset (src : Source) (p : Fin 4) (tag : Byte) (args : List Word)
  /-- MBX_UNKNOWN (R458). A mailbox command above the session level or unknown ends UNKNOWN and counts a violation. -/
  | mbxUnknown (src : Source) (p : Fin 4) (opc : Byte) (tag : Byte) (args : List Word)
  /-- MBX_RESPONSE_COMPLETE (R459). Pilot's response is written, RMAC computed, BUSY cleared and DONE set. -/
  | mbxResponseComplete (p : Fin 4) (fail : Option (BitVec 14 × Fin 8))
  /-- TELEM_SNAPSHOT (R460). Every telemetry period Pilot writes a snapshot and optionally pushes it on Crane channel 15. -/
  | telemSnapshot
  /-- DBG_REQ_OFF (R461). SEC.DBG REQ 0 closes debug, resetting the device if it was intrusive. -/
  | dbgReqOff (src : Source) (v : Word)
  /-- DBG_REQ_OBSERVE (R461). SEC.DBG REQ 1 from Service opens observe debug. -/
  | dbgReqObserve (src : Source) (v : Word)
  /-- DBG_REQ_INTRUSIVE (R463). SEC.DBG REQ 2 from Vendor starts a front-end fault toward intrusive debug. -/
  | dbgReqIntrusive (src : Source) (v : Word)
  /-- DBG_INTRUSIVE_ENTER (R463). Once every drain enable is low the debug state becomes intrusive. -/
  | dbgIntrusiveEnter
  /-- TRST_N_ASSERT (R461). TRST_N low holds the TAP in reset. -/
  | trstNAssert
  /-- JTAG_BYPASS (R461). The BYPASS instruction passes TDI to TDO through one bit. -/
  | jtagBypass (tdi : List Bool)
  /-- JTAG_IDCODE (R461). The IDCODE instruction shifts out the device identification. -/
  | jtagIdcode (tdi : List Bool)
  /-- JTAG_SAMPLE_PRELOAD (R461). SAMPLE/PRELOAD captures and loads the boundary register. -/
  | jtagSamplePreload (tdi : List Bool)
  /-- JTAG_EXTEST (R462). EXTEST drives signal balls from the boundary register in Dry dock, keeping PA drains low. -/
  | jtagExtest (tdi : List Bool)
  /-- JTAG_DBG_READ (R461). DBG_READ reads the address space at Service level without side effect. -/
  | jtagDbgRead (addr : BitVec 40) (tdi : List Bool)
  /-- JTAG_TRACE (R461). TRACE streams every event code with its stamp. -/
  | jtagTrace (tdi : List Bool)
  /-- JTAG_DBG_WRITE (R461). DBG_WRITE writes the address space at Vendor level in intrusive debug. -/
  | jtagDbgWrite (addr : BitVec 40) (v : Word) (tdi : List Bool)
  /-- JTAG_PILOT_HALT (R461). The vendor halt instruction stops Pilot. -/
  | jtagPilotHalt (tdi : List Bool)
  /-- JTAG_PILOT_STEP (R461). The vendor step instruction steps Pilot. -/
  | jtagPilotStep (tdi : List Bool)
  /-- JTAG_SCAN (R461). The vendor scan instruction accesses internal scan chains. -/
  | jtagScan (tdi : List Bool)
  /-- SPI_READ (R470). A host SPI read transaction returns words after the ready byte. -/
  | spiRead (addr : BitVec 40) (wait : Fin 128) (n : Nat)
  /-- SPI_WRITE (R470). A host SPI write transaction writes each whole word as a separate access. -/
  | spiWrite (addr : BitVec 40) (words : List Word)
  /-- SPI_TRANSACTION_IGNORED (R470). A transaction with an unknown command or misaligned address is ignored whole. -/
  | spiTransactionIgnored (cmd : Byte) (addr : BitVec 40) (data : List Byte)
  /-- SPI_CS_ABORT (R470). HSPI_CS_N rising within a write word discards that word. -/
  | spiCsAbort (addr : BitVec 40) (data : List Byte)
  /-- REGISTER_WRITE (R450). A write to a register without behaviour of its own is applied field by field as its level permits. -/
  | registerWrite (src : Source) (addr : BitVec 40) (v : Word)
  /-- EVT_W1C_WRITE (R476). A write of 1 to a block's EVT bits clears them and may release IRQ_N. -/
  | evtW1cWrite (src : Source) (block : Fin 27) (v : Word)
  /-- LO_HI_PAIR_READ (R474). A read of a read-only …_LO register latches its …_HI for that source. -/
  | loHiPairRead (src : Source) (addr : BitVec 40) (hi : Bool)
  /-- RXA_CTL_WRITE (R147). A write to RXA.CTL that changes BBF_BW restarts every receive chain. -/
  | rxaCtlWrite (src : Source) (v : Word)
  /-- ALIGN_SET_MISSING (R259). At a superframe boundary where no accepted ALIGN set arrives, the miss is counted and a second consecutive miss takes the brick or ring port DOWN. -/
  | alignSetMissing (l : Fin 4)
  /-- VNEG_RESTORED (R343). VNEG returning more negative than −4.5 V ends the VNEG cause of the front-end fault, clearing it when no other cause holds. -/
  | vnegRestored
  /-- TALLY_ERASE_DONE (R100). A Tally sector erase, issued to keep four sectors ahead of the write pointer erased, completes or fails, a failure retiring the sector. -/
  | tallyEraseDone (ok : Bool)
  /-- TRST_N_RELEASE (R461). TRST_N going high releases the TAP from reset so that it obeys its instructions. -/
  | trstNRelease
  deriving DecidableEq, Repr

end Sys2Proof
end

