-- ==== Sys2Proof/Machine/Sparse.lean ====
section
/-! DEFINITION. Sparse tables in one canonical form: a list of key and value pairs, keys strictly rising, no entry equal to
the value an unlisted key reads as. The register file, the memory windows, the flash and the per-path tables are such tables,
so that equal contents are equal data. -/

namespace Sys2Proof.Machine

/-- The value listed at key `a`, if any. -/
def sparseFind {α : Type} : List (Nat × α) → Nat → Option α
  | [], _ => none
  | (k, v) :: l, a => if k = a then some v else sparseFind l a

/-- The value at key `a`; `d` gives what an unlisted key reads as. -/
def sparseGet {α : Type} (d : Nat → α) (l : List (Nat × α)) (a : Nat) : α :=
  (sparseFind l a).getD (d a)

/-- The list with key `a` holding `v`, in order of keys. -/
def sparseInsert {α : Type} : List (Nat × α) → Nat → α → List (Nat × α)
  | [], a, v => [(a, v)]
  | (k, w) :: l, a, v =>
    if a < k then (a, v) :: (k, w) :: l
    else if a = k then (a, v) :: l
    else (k, w) :: sparseInsert l a v

/-- The list without key `a`. -/
def sparseErase {α : Type} (l : List (Nat × α)) (a : Nat) : List (Nat × α) :=
  l.filter (fun e => decide (e.1 ≠ a))

/-- Key `a` set to `v`, keeping the canonical form: a value an unlisted key reads as removes the entry. -/
def sparsePut {α : Type} [DecidableEq α] (d : Nat → α) (l : List (Nat × α)) (a : Nat) (v : α) : List (Nat × α) :=
  if v = d a then sparseErase l a else sparseInsert l a v

/-- Keys strictly rising, all above `lo`, no entry a default: the canonical form, from a lower bound on. -/
def sparseWfFrom {α : Type} [DecidableEq α] (d : Nat → α) : Nat → List (Nat × α) → Bool
  | _, [] => true
  | lo, (k, v) :: l => decide (lo ≤ k) && decide (v ≠ d k) && sparseWfFrom d (k + 1) l

/-- The canonical form of a sparse table. -/
def sparseWf {α : Type} [DecidableEq α] (d : Nat → α) (l : List (Nat × α)) : Bool :=
  sparseWfFrom d 0 l

/-- The entries whose key satisfies `p`. -/
def sparseKeep {α : Type} (p : Nat → Bool) (l : List (Nat × α)) : List (Nat × α) :=
  l.filter (fun e => p e.1)

end Sys2Proof.Machine
end

