-- ==== Sys2Proof/Machine/Arith.lean ====
section
/-! DEFINITION. The exact arithmetic the chapters share: two's-complement fields, saturation, rounding half up, complex
integers, bit fields of words, byte order, stamps and their order (00_scope.md R11, R12). -/

namespace Sys2Proof.Machine

/-- The signed value of an `n`-bit two's-complement field. -/
def toSigned (n x : Nat) : Int :=
  let y := x % 2 ^ n
  if 2 * y < 2 ^ n then (y : Int) else (y : Int) - ((2 ^ n : Nat) : Int)

/-- The `n`-bit two's-complement field of a signed value (its value modulo 2^n). -/
def ofSigned (n : Nat) (x : Int) : Nat :=
  (x % ((2 ^ n : Nat) : Int)).toNat

/-- `x` limited to [lo, hi]. -/
def clampInt (lo hi x : Int) : Int :=
  if x < lo then lo else if hi < x then hi else x

/-- `x` limited to the range of an `n`-bit two's-complement number. -/
def satS (n : Nat) (x : Int) : Int :=
  clampInt (-((2 ^ (n - 1) : Nat) : Int)) (((2 ^ (n - 1) : Nat) : Int) - 1) x

/-- Whether `satS n` changes `x`. -/
def overS (n : Nat) (x : Int) : Bool :=
  decide (satS n x ≠ x)

/-- `x` divided by 2^k, rounded half up. -/
def rnd (k : Nat) (x : Int) : Int :=
  if k = 0 then x else (x + ((2 ^ (k - 1) : Nat) : Int)) / ((2 ^ k : Nat) : Int)

/-- `x` divided by a positive `d`, rounded half up. -/
def divRound (x d : Int) : Int :=
  (2 * x + d) / (2 * d)

/-- One more, holding at `top` (R23 and every saturating counter). -/
def satInc (top n : Nat) : Nat :=
  if n < top then n + 1 else top

/-- `k` more, holding at `top`. -/
def satAdd (top n k : Nat) : Nat :=
  if n + k < top then n + k else top

/-- Largest 32-bit count. -/
def count32 : Nat := 0xFFFFFFFF

/-- A complex number of integers (each part in the format its chapter names). -/
structure Cx where
  re : Int
  im : Int
  deriving DecidableEq, Repr

/-- Complex zero. -/
def cx0 : Cx := ⟨0, 0⟩

def cxAdd (a b : Cx) : Cx := ⟨a.re + b.re, a.im + b.im⟩
def cxSub (a b : Cx) : Cx := ⟨a.re - b.re, a.im - b.im⟩
def cxMul (a b : Cx) : Cx := ⟨a.re * b.re - a.im * b.im, a.re * b.im + a.im * b.re⟩
def cxConj (a : Cx) : Cx := ⟨a.re, -a.im⟩
def cxNeg (a : Cx) : Cx := ⟨-a.re, -a.im⟩
def cxScale (k : Int) (a : Cx) : Cx := ⟨k * a.re, k * a.im⟩
/-- Squared magnitude. -/
def cxMag2 (a : Cx) : Int := a.re * a.re + a.im * a.im
/-- Each part divided by 2^k, rounded half up. -/
def cxRnd (k : Nat) (a : Cx) : Cx := ⟨rnd k a.re, rnd k a.im⟩
/-- Each part limited to `n` bits. -/
def cxSat (n : Nat) (a : Cx) : Cx := ⟨satS n a.re, satS n a.im⟩
/-- Whether either part exceeds `n` bits. -/
def cxOver (n : Nat) (a : Cx) : Bool := overS n a.re || overS n a.im
/-- Each part limited to ±(2^(n-1) - 1). -/
def cxSatSym (n : Nat) (a : Cx) : Cx :=
  let m : Int := ((2 ^ (n - 1) : Nat) : Int) - 1
  ⟨clampInt (-m) m a.re, clampInt (-m) m a.im⟩

/-- The sum of a list of complex numbers. -/
def cxSum (l : List Cx) : Cx := l.foldl cxAdd cx0

/-- The square root of `n`, bit by bit from bit `k - 1` down, on top of `r`. -/
def isqrtFrom : Nat → Nat → Nat → Nat
  | 0, _, r => r
  | k + 1, n, r => if (r + 2 ^ k) * (r + 2 ^ k) ≤ n then isqrtFrom k n (r + 2 ^ k) else isqrtFrom k n r

/-- Whole square root of a number below 2^128 (the largest integer whose square is at most `n`). -/
def isqrt (n : Nat) : Nat := isqrtFrom 64 n 0

/-- Bits [lo+width-1:lo] of a number. -/
def bitsAt (x lo width : Nat) : Nat := x / 2 ^ lo % 2 ^ width

/-- Bit `i` of a number. -/
def bitAt (x i : Nat) : Bool := x / 2 ^ i % 2 == 1

/-- `x` with bits [lo+width-1:lo] replaced by `v`. -/
def setBitsAt (x lo width v : Nat) : Nat :=
  x / 2 ^ (lo + width) * 2 ^ (lo + width) + v % 2 ^ width * 2 ^ lo + x % 2 ^ lo

/-- `x` with bit `i` set or cleared. -/
def setBitAt (x i : Nat) (b : Bool) : Nat := setBitsAt x i 1 (if b then 1 else 0)

/-- Bitwise AND, OR and difference of masks. -/
def maskAnd (a b : Nat) : Nat := Nat.land a b
def maskOr (a b : Nat) : Nat := Nat.lor a b
def maskDiff (a b : Nat) : Nat := Nat.xor a (Nat.land a b)

/-- The positions below `n` whose bit is set. -/
def bitList (n x : Nat) : List Nat := (List.range n).filter (fun i => bitAt x i)

/-- The number of set bits below `n`. -/
def popcount (n x : Nat) : Nat := (bitList n x).length

/-- The mask of a list of positions. -/
def maskOf (l : List Nat) : Nat := l.foldl (fun acc i => maskOr acc (2 ^ i)) 0

/-- The value of bytes, least significant first. -/
def leNat : List (BitVec 8) → Nat
  | [] => 0
  | b :: bs => b.toNat + 256 * leNat bs

/-- `n` bytes of a number, least significant first. -/
def leBytes : Nat → Nat → List (BitVec 8)
  | 0, _ => []
  | n + 1, x => BitVec.ofNat 8 x :: leBytes n (x / 256)

/-- The value of bytes, most significant first. -/
def beNat (l : List (BitVec 8)) : Nat := leNat l.reverse

/-- `n` bytes of a number, most significant first. -/
def beBytes (n x : Nat) : List (BitVec 8) := (leBytes n x).reverse

/-- A Boolean as a bit. -/
def b2n (b : Bool) : Nat := if b then 1 else 0

/-- 2^16 units of 2^-16 ns: one nanosecond in stamp units (R11). -/
def unitsPerNs : Nat := 65536

/-- A duration in nanoseconds, in stamp units. -/
def nsU (n : Nat) : Nat := n * 65536
/-- A duration in microseconds, in stamp units. -/
def usU (n : Nat) : Nat := n * 65536000
/-- A duration in milliseconds, in stamp units. -/
def msU (n : Nat) : Nat := n * 65536000000
/-- A duration in seconds, in stamp units. -/
def sU (n : Nat) : Nat := n * 65536000000000

/-- Stamp `a` is at or after stamp `b`: (a - b) mod 2^64 below 2^63 (R12). -/
def atOrAfter (a b : BitVec 64) : Bool := decide ((a - b).toNat < 2 ^ 63)

/-- Stamp `a` is before stamp `b` (R12). -/
def before (a b : BitVec 64) : Bool := !atOrAfter a b

/-- A stamp moved later by `d` units. -/
def stampAdd (a : BitVec 64) (d : Nat) : BitVec 64 := a + BitVec.ofNat 64 d

/-- A stamp moved earlier by `d` units. -/
def stampSub (a : BitVec 64) (d : Nat) : BitVec 64 := a - BitVec.ofNat 64 d

/-- The signed distance a - b of two stamps. -/
def stampDiff (a b : BitVec 64) : Int := toSigned 64 (a - b).toNat

/-- Element `i` of a list, or `d`. -/
def nth {α : Type} (d : α) (l : List α) (i : Nat) : α := (l[i]?).getD d

/-- The list with element `i` replaced. -/
def setNth {α : Type} (l : List α) (i : Nat) (v : α) : List α := l.set i v

/-- The least of a list, or `d` for the empty list. -/
def minOf (d : Nat) (l : List Nat) : Nat := l.foldl (fun a x => if x < a then x else a) d

/-- The greatest of a list, at least `d`. -/
def maxOf (d : Nat) (l : List Nat) : Nat := l.foldl (fun a x => if a < x then x else a) d

/-- The sum of a list of integers. -/
def sumInt (l : List Int) : Int := l.foldl (· + ·) 0

end Sys2Proof.Machine
end

