-- ==== Sys2Proof/Machine/Digest.lean ====
section
/-! DEFINITION. The algorithms that the spec names by their standards (00_scope.md R14): FIPS 180-4 SHA-256 and SHA-512, RFC 2104
HMAC-SHA-256, RFC 8032 Ed25519 verification. -/

namespace Sys2Proof.Machine

/-! ## SHA-256 (FIPS 180-4, 4.1.2, 4.2.2, 5.3.3, 6.2) -/

/-- The 64 round constants: the first 32 bits of the fractional parts of the cube roots of the first 64 primes. -/
def sha256Ka : List Word :=
  [0x428A2F98, 0x71374491, 0xB5C0FBCF, 0xE9B5DBA5, 0x3956C25B, 0x59F111F1, 0x923F82A4, 0xAB1C5ED5,
   0xD807AA98, 0x12835B01, 0x243185BE, 0x550C7DC3, 0x72BE5D74, 0x80DEB1FE, 0x9BDC06A7, 0xC19BF174,
   0xE49B69C1, 0xEFBE4786, 0x0FC19DC6, 0x240CA1CC, 0x2DE92C6F, 0x4A7484AA, 0x5CB0A9DC, 0x76F988DA,
   0x983E5152, 0xA831C66D, 0xB00327C8, 0xBF597FC7, 0xC6E00BF3, 0xD5A79147, 0x06CA6351, 0x14292967]

def sha256Kb : List Word :=
  [0x27B70A85, 0x2E1B2138, 0x4D2C6DFC, 0x53380D13, 0x650A7354, 0x766A0ABB, 0x81C2C92E, 0x92722C85,
   0xA2BFE8A1, 0xA81A664B, 0xC24B8B70, 0xC76C51A3, 0xD192E819, 0xD6990624, 0xF40E3585, 0x106AA070,
   0x19A4C116, 0x1E376C08, 0x2748774C, 0x34B0BCB5, 0x391C0CB3, 0x4ED8AA4A, 0x5B9CCA4F, 0x682E6FF3,
   0x748F82EE, 0x78A5636F, 0x84C87814, 0x8CC70208, 0x90BEFFFA, 0xA4506CEB, 0xBEF9A3F7, 0xC67178F2]

/-- The initial hash value: the same of the square roots of the first eight primes. -/
def sha256H : List Word :=
  [0x6A09E667, 0xBB67AE85, 0x3C6EF372, 0xA54FF53A, 0x510E527F, 0x9B05688C, 0x1F83D9AB, 0x5BE0CD19]

/-- A byte string with its padding: a 1 bit, zeros, and the length in bits in `len` bytes, to a multiple of `block` bytes. -/
def shaPad (block len : Nat) (m : List Byte) : List Byte :=
  let n := m.length
  m ++ 0x80 :: List.replicate ((2 * block - 1 - len - n % block) % block) 0
    ++ beBytes len (8 * n)

/-- A byte string cut into pieces of `k` bytes. -/
def chunks (k : Nat) (m : List Byte) : List (List Byte) := (List.range (m.length / k)).map (fun i => (m.drop (k * i)).take k)

/-- `n` more words of a message schedule, newest first. -/
def schedule256 : Nat → List Word → List Word
  | 0, r => r
  | n + 1, r =>
    let a := nth 0 r 1
    let b := nth 0 r 14
    let s1 := a.rotateRight 17 ^^^ a.rotateRight 19 ^^^ a >>> 10
    let s0 := b.rotateRight 7 ^^^ b.rotateRight 18 ^^^ b >>> 3
    schedule256 n ((s1 + nth 0 r 6 + s0 + nth 0 r 15) :: r)

/-- A round: the working variables a to h, a constant and a schedule word. -/
def round256 (x : List Word) (k : Word × Word) : List Word :=
  let a := nth 0 x 0
  let e := nth 0 x 4
  let t1 := nth 0 x 7 + (e.rotateRight 6 ^^^ e.rotateRight 11 ^^^ e.rotateRight 25) + ((e &&& nth 0 x 5) ^^^ (~~~e &&& nth 0 x 6))
    + k.1 + k.2
  let t2 := (a.rotateRight 2 ^^^ a.rotateRight 13 ^^^ a.rotateRight 22)
    + ((a &&& nth 0 x 1) ^^^ (a &&& nth 0 x 2) ^^^ (nth 0 x 1 &&& nth 0 x 2))
  [t1 + t2, a, nth 0 x 1, nth 0 x 2, nth 0 x 3 + t1, e, nth 0 x 5, nth 0 x 6]

/-- A block of 64 bytes. -/
def block256 (h : List Word) (b : List Byte) : List Word :=
  let w := ((chunks 4 b).map (fun c => BitVec.ofNat 32 (beNat c))).reverse
  let x := ((sha256Ka ++ sha256Kb).zip (schedule256 48 w).reverse).foldl round256 h
  (h.zip x).map (fun e => e.1 + e.2)

/-- SHA-256 of a byte string. -/
def sha256 (m : List Byte) : List Byte :=
  ((chunks 64 (shaPad 64 8 m)).foldl block256 sha256H).flatMap (fun w => beBytes 4 w.toNat)

/-! ## HMAC-SHA-256 (RFC 2104) -/

/-- HMAC-SHA-256 of a key and a byte string. -/
def hmac256 (k m : List Byte) : List Byte :=
  let z := if 64 < k.length then sha256 k else k
  let key := z ++ List.replicate (64 - z.length) 0
  sha256 (key.map (fun b => b ^^^ 0x5C) ++ sha256 (key.map (fun b => b ^^^ 0x36) ++ m))

/-! ## SHA-512 (FIPS 180-4, 4.1.3, 4.2.3, 5.3.5, 6.4), for Ed25519 -/

/-- The 80 round constants. -/
def sha512Ka : List (BitVec 64) :=
  [0x428A2F98D728AE22, 0x7137449123EF65CD, 0xB5C0FBCFEC4D3B2F, 0xE9B5DBA58189DBBC,
   0x3956C25BF348B538, 0x59F111F1B605D019, 0x923F82A4AF194F9B, 0xAB1C5ED5DA6D8118,
   0xD807AA98A3030242, 0x12835B0145706FBE, 0x243185BE4EE4B28C, 0x550C7DC3D5FFB4E2,
   0x72BE5D74F27B896F, 0x80DEB1FE3B1696B1, 0x9BDC06A725C71235, 0xC19BF174CF692694,
   0xE49B69C19EF14AD2, 0xEFBE4786384F25E3, 0x0FC19DC68B8CD5B5, 0x240CA1CC77AC9C65]

def sha512Kb : List (BitVec 64) :=
  [0x2DE92C6F592B0275, 0x4A7484AA6EA6E483, 0x5CB0A9DCBD41FBD4, 0x76F988DA831153B5,
   0x983E5152EE66DFAB, 0xA831C66D2DB43210, 0xB00327C898FB213F, 0xBF597FC7BEEF0EE4,
   0xC6E00BF33DA88FC2, 0xD5A79147930AA725, 0x06CA6351E003826F, 0x142929670A0E6E70,
   0x27B70A8546D22FFC, 0x2E1B21385C26C926, 0x4D2C6DFC5AC42AED, 0x53380D139D95B3DF,
   0x650A73548BAF63DE, 0x766A0ABB3C77B2A8, 0x81C2C92E47EDAEE6, 0x92722C851482353B]

def sha512Kc : List (BitVec 64) :=
  [0xA2BFE8A14CF10364, 0xA81A664BBC423001, 0xC24B8B70D0F89791, 0xC76C51A30654BE30,
   0xD192E819D6EF5218, 0xD69906245565A910, 0xF40E35855771202A, 0x106AA07032BBD1B8,
   0x19A4C116B8D2D0C8, 0x1E376C085141AB53, 0x2748774CDF8EEB99, 0x34B0BCB5E19B48A8,
   0x391C0CB3C5C95A63, 0x4ED8AA4AE3418ACB, 0x5B9CCA4F7763E373, 0x682E6FF3D6B2B8A3,
   0x748F82EE5DEFB2FC, 0x78A5636F43172F60, 0x84C87814A1F0AB72, 0x8CC702081A6439EC]

def sha512Kd : List (BitVec 64) :=
  [0x90BEFFFA23631E28, 0xA4506CEBDE82BDE9, 0xBEF9A3F7B2C67915, 0xC67178F2E372532B,
   0xCA273ECEEA26619C, 0xD186B8C721C0C207, 0xEADA7DD6CDE0EB1E, 0xF57D4F7FEE6ED178,
   0x06F067AA72176FBA, 0x0A637DC5A2C898A6, 0x113F9804BEF90DAE, 0x1B710B35131C471B,
   0x28DB77F523047D84, 0x32CAAB7B40C72493, 0x3C9EBE0A15C9BEBC, 0x431D67C49C100D4C,
   0x4CC5D4BECB3E42B6, 0x597F299CFC657E2A, 0x5FCB6FAB3AD6FAEC, 0x6C44198C4A475817]

def sha512H : List (BitVec 64) :=
  [0x6A09E667F3BCC908, 0xBB67AE8584CAA73B, 0x3C6EF372FE94F82B, 0xA54FF53A5F1D36F1,
   0x510E527FADE682D1, 0x9B05688C2B3E6C1F, 0x1F83D9ABFB41BD6B, 0x5BE0CD19137E2179]

def schedule512 : Nat → List (BitVec 64) → List (BitVec 64)
  | 0, r => r
  | n + 1, r =>
    let a := nth 0 r 1
    let b := nth 0 r 14
    let s1 := a.rotateRight 19 ^^^ a.rotateRight 61 ^^^ a >>> 6
    let s0 := b.rotateRight 1 ^^^ b.rotateRight 8 ^^^ b >>> 7
    schedule512 n ((s1 + nth 0 r 6 + s0 + nth 0 r 15) :: r)

def round512 (x : List (BitVec 64)) (k : BitVec 64 × BitVec 64) : List (BitVec 64) :=
  let a := nth 0 x 0
  let e := nth 0 x 4
  let t1 := nth 0 x 7 + (e.rotateRight 14 ^^^ e.rotateRight 18 ^^^ e.rotateRight 41) + ((e &&& nth 0 x 5) ^^^ (~~~e &&& nth 0 x 6))
    + k.1 + k.2
  let t2 := (a.rotateRight 28 ^^^ a.rotateRight 34 ^^^ a.rotateRight 39)
    + ((a &&& nth 0 x 1) ^^^ (a &&& nth 0 x 2) ^^^ (nth 0 x 1 &&& nth 0 x 2))
  [t1 + t2, a, nth 0 x 1, nth 0 x 2, nth 0 x 3 + t1, e, nth 0 x 5, nth 0 x 6]

def block512 (h : List (BitVec 64)) (b : List Byte) : List (BitVec 64) :=
  let w := ((chunks 8 b).map (fun c => BitVec.ofNat 64 (beNat c))).reverse
  let x := ((sha512Ka ++ sha512Kb ++ sha512Kc ++ sha512Kd).zip (schedule512 64 w).reverse).foldl round512 h
  (h.zip x).map (fun e => e.1 + e.2)

/-- SHA-512 of a byte string. -/
def sha512 (m : List Byte) : List Byte :=
  ((chunks 128 (shaPad 128 16 m)).foldl block512 sha512H).flatMap (fun w => beBytes 8 w.toNat)

/-! ## Ed25519 (RFC 8032, 5.1) -/

/-- The prime 2^255 − 19, the constant d and the order L of the base point. -/
def edP : Nat := 2 ^ 255 - 19
def edD : Nat := 0x52036CEE2B6FFE738CC740797779E89800700A4D4141D8AB75EB4DCA135978A3
def edL : Nat := 0x1000000000000000000000000000000014DEF9DEA2F79CD65812631A5CF5D3ED

/-- A point in the affine coordinates x, y. -/
structure EdPoint where
  x : Nat
  y : Nat
  deriving DecidableEq, Repr

/-- The base point B, the neutral point. -/
def edB : EdPoint :=
  ⟨0x216936D3CD6E53FEC0A4E231FDD6DC5C692CC7609525A7B2C9562D608F25D51A,
    0x6666666666666666666666666666666666666666666666666666666666666658⟩
def edZero : EdPoint := ⟨0, 1⟩

/-- `b` to the power `e` modulo edP, by the bits of `e` below 256. -/
def edPow (b e : Nat) : Nat :=
  (List.range 256).foldl (fun acc i => let q := acc * acc % edP; if bitAt e (255 - i) then q * b % edP else q) 1

/-- A quotient modulo edP. -/
def edDiv (a b : Nat) : Nat := a * edPow b (edP - 2) % edP

/-- The sum of two points of the curve −x² + y² = 1 + d x² y². -/
def edAdd (a b : EdPoint) : EdPoint :=
  let t := edD * (a.x * b.x % edP) * (a.y * b.y % edP) % edP
  ⟨edDiv (a.x * b.y + a.y * b.x) (1 + t), edDiv (a.y * b.y + a.x * b.x) (1 + edP - t)⟩

/-- A multiple of a point, by the bits of `n` below 256. -/
def edMul (n : Nat) (a : EdPoint) : EdPoint :=
  (List.range 256).foldl (fun acc i => let q := edAdd acc acc; if bitAt n (255 - i) then edAdd q a else q) edZero

/-- The point that 32 bytes encode, if they do (5.1.3). -/
def edDecode (b : List Byte) : Option EdPoint :=
  let v := leNat b
  let y := v % 2 ^ 255
  let sign := v / 2 ^ 255
  let u := (y * y + edP - 1) % edP
  let w := (edD * (y * y % edP) + 1) % edP
  let x2 := edDiv u w
  let c := edPow x2 ((edP + 3) / 8)
  let x := if c * c % edP = x2 then some c
    else
      let r := c * edPow 2 ((edP - 1) / 4) % edP
      if r * r % edP = x2 then some r else none
  if edP ≤ y ∨ b.length ≠ 32 then none
  else match x with
    | none => none
    | some x => if x = 0 ∧ sign = 1 then none else some ⟨if x % 2 = sign % 2 then x else edP - x, y⟩

/-- Verification (5.1.7) of a public key, a message and a signature, with the group equation times 8. -/
def ed25519 (key m sig : List Byte) : Bool :=
  let s := leNat (sig.drop 32)
  match edDecode key, edDecode (sig.take 32) with
  | some a, some r =>
    let k := leNat (sha512 (sig.take 32 ++ key ++ m)) % edL
    decide (sig.length = 64 ∧ s < edL) && edMul 8 (edMul s edB) == edMul 8 (edAdd r (edMul k a))
  | _, _ => false

end Sys2Proof.Machine
end

