-- ==== Sys2Proof/Config.lean ====
section
/-! DEFINITION. What the spec leaves to the implementation: constants without a body, so that nothing in a proof can see a
value. Each is named in the assumption log. -/

namespace Sys2Proof

/-- A fresh free value for every draw of the state's counter (log entry 2): where the spec leaves a value open. -/
opaque Config.free : Nat → Nat

/-- Item `i` of the measurement numbered by draw `n`: the results of calibrations and other measurements whose values the
spec leaves to the hardware (log entry 2). -/
opaque Config.measured : Nat → Nat → Nat

/-- IQ correction taps (tap 0 to 2 for w(-1), w(0), w(+1); real part in [17:0], imaginary part in [35:18]) derived from a
stored measurement for an output period in receive ADC samples × 2^32 (07_receive_chain.md R141, 08_transmit_path.md R156; the
derivation is not given). -/
opaque Config.iqTap : Nat → Nat → Nat → Nat

/-- Tap `t` of phase `p` of the alignment interpolator, in units of 2^-15 (11_berths_and_beam_schedule.md R225; the
coefficients are not given). -/
opaque Config.alignTap : Nat → Nat → Int

/-- Tap `t`, 0 to 54, of the ×2 interpolator, in units of 2^-15 (08_transmit_path.md, stage table; the coefficients are not
given). -/
opaque Config.interpTap : Nat → Int

/-- Register and window writes that a QUAY section body stands for: (40-bit address, word) (05_startup_and_configuration.md,
table "section types"; the spec gives no layout). -/
opaque Config.quayBody : List Byte → List (Nat × Nat)

/-- The berth table entries of a BERTH section body, as window and descriptor writes (same table). -/
opaque Config.berthBody : List Byte → List (Nat × Nat)

/-- The seed coefficient banks of a DPDSEED section body, as DPD bank writes (same table). -/
opaque Config.seedBody : List Byte → List (Nat × Nat)

/-- The safe value of output `i` (0 to 63 BIAS, 64 to 71 AUXDAC) in a SAFE section body: RANGE in bit 12, code in [11:0]. -/
opaque Config.safeBias : List Byte → Nat → Nat

/-- The LO-leakage-null code of path `p` in a SAFE section body: Q in [19:10], I in [9:0]. -/
opaque Config.safeNull : List Byte → Nat → Nat

/-- The row of a Hold channel that holds the 256-byte piece `i` (19_hold_and_gauge.md R379; the dies' geometry is not
given). -/
opaque Config.holdRow : Nat → Nat

/-- The upper 31 bits of the JTAG device identification (00_scope.md R14; the value is not given). -/
opaque Config.idcode : Nat

/-- The re-solved weight word at an offset of a berth's table, from the MANIFOLD body, the table's cells, the effective paths
before and after (11_berths_and_beam_schedule.md R238; the manifold's layout is not given). -/
opaque Config.resolvedWeight : List Byte → List (Nat × Byte) → Nat → Nat → Nat → Nat

/-- Bytes 1 to 8 of the build stamp that a PILOTFW section carries (23_pilot_security_debug.md, mailbox VERSION). -/
opaque Config.pilotBuild : List Byte → Nat

/-- Firmware version that a PILOTFW section carries. -/
opaque Config.pilotVersion : List Byte → Nat

/-- The cell of the boundary register that drives a signal ball. The spec gives no order of the cells (log entry 2). -/
opaque Config.boundaryCell : Nat → Nat

end Sys2Proof
end

