-- ==== Sys2Proof/Machine/Registers.lean ====
section
/-! DEFINITION. The register fields and the register catalogue, block by block, from the field tables of the
spec's chapters 00 to 24. A field is an address, its lowest bit and its width; the index of a repeated register counts modulo its
number, so that no field leaves its block; a register description gives each field's
type and the value it has at reset (00_scope.md, table of field types; 24_register_map.md R468, R469). -/

namespace Sys2Proof.Machine

/-- A field of a register: the byte address of its word, its lowest bit, its width. -/
structure Field where
  addr : Nat
  lo : Nat
  width : Nat
  deriving DecidableEq, Repr

/-- The types of the field tables (00_scope.md). `wh` is a write-only data field that the hardware keeps and that reads 0:
SEC.FUSE_DATA and SEC.Pp_RESP (23_pilot_security_debug.md). -/
inductive FieldKind
  | rw | ro | w1c | w1s | wo | wh | rwl
  deriving DecidableEq, Repr

/-- One row of a field table: bits [hi:lo], type, reset value. -/
structure FieldRow where
  hi : Nat
  lo : Nat
  kind : FieldKind
  reset : Nat
  deriving DecidableEq, Repr

/-- One register of a block, repeated over up to three indices, each with its count and its byte stride. -/
structure RegRow where
  base : Nat
  dims : List (Nat × Nat)
  fields : List FieldRow
  deriving DecidableEq, Repr

namespace F

def TOP_CAPS_PART : Field := ⟨0x4, 28, 4⟩
def TOP_CAPS_PILOT : Field := ⟨0x4, 21, 1⟩
def TOP_CAPS_LOOKOUT : Field := ⟨0x4, 20, 1⟩
def TOP_CAPS_HOLD_GIB : Field := ⟨0x4, 16, 4⟩
def TOP_CAPS_CLUSTERS : Field := ⟨0x4, 8, 4⟩
def TOP_CAPS_QUADS : Field := ⟨0x4, 0, 8⟩
def TOP_EVT_EVENT : Field := ⟨0x40, 0, 3⟩
def TOP_DRIFT_CTL_CLR_CNT : Field := ⟨0x100, 17, 1⟩
def TOP_DRIFT_CTL_CLR_MIN : Field := ⟨0x100, 16, 1⟩
def TOP_DRIFT_CTL_LOW_NS : Field := ⟨0x100, 0, 16⟩
def TOP_DRIFT_EVT_LOW : Field := ⟨0x104, 0, 8⟩
def TOP_DRIFT_MIN_NS (i : Nat) : Field := ⟨0x110 + 0x4 * (i % 8), 16, 16⟩
def TOP_DRIFT_NOW_NS (i : Nat) : Field := ⟨0x110 + 0x4 * (i % 8), 0, 16⟩
def TOP_SLIP_CNT_COUNT (i : Nat) : Field := ⟨0x130 + 0x4 * (i % 8), 0, 32⟩
def TOP_IRQ_STAT_BLOCKS : Field := ⟨0x200, 0, 27⟩
def TOP_IRQ_EN0_BLOCKS : Field := ⟨0x204, 0, 27⟩
def TOP_IRQ_EN1_BLOCKS : Field := ⟨0x208, 0, 27⟩
def PWR_STATE_CAUSE : Field := ⟨0x10000, 8, 4⟩
def PWR_STATE_BUSY : Field := ⟨0x10000, 7, 1⟩
def PWR_STATE_TGT : Field := ⟨0x10000, 4, 3⟩
def PWR_STATE_CUR : Field := ⟨0x10000, 0, 3⟩
def PWR_STATE_REQ_BRICK : Field := ⟨0x10004, 4, 1⟩
def PWR_STATE_REQ_REQ : Field := ⟨0x10004, 0, 3⟩
def PWR_DOM_STAT0_UP : Field := ⟨0x10010, 0, 32⟩
def PWR_DOM_STAT1_UP : Field := ⟨0x10014, 0, 6⟩
def PWR_RUN_OFF_HOLD : Field := ⟨0x10018, 6, 1⟩
def PWR_RUN_OFF_LOOK : Field := ⟨0x10018, 5, 1⟩
def PWR_RUN_OFF_RGW : Field := ⟨0x10018, 4, 1⟩
def PWR_RUN_OFF_RGE : Field := ⟨0x10018, 3, 1⟩
def PWR_RUN_OFF_FHB : Field := ⟨0x10018, 2, 1⟩
def PWR_RUN_OFF_FHA : Field := ⟨0x10018, 1, 1⟩
def PWR_RUN_OFF_SPARE_SYN : Field := ⟨0x10018, 0, 1⟩
def PWR_AVS_CTL_VMAX_MV : Field := ⟨0x10020, 20, 10⟩
def PWR_AVS_CTL_IDLE_MV : Field := ⟨0x10020, 10, 10⟩
def PWR_AVS_CTL_RAISE_NS : Field := ⟨0x10020, 5, 5⟩
def PWR_AVS_CTL_LOWER_NS : Field := ⟨0x10020, 0, 5⟩
def PWR_AVS_STAT_NORESP : Field := ⟨0x10024, 17, 1⟩
def PWR_AVS_STAT_CEIL : Field := ⟨0x10024, 16, 1⟩
def PWR_AVS_STAT_TARGET_MV : Field := ⟨0x10024, 0, 10⟩
def PWR_EST_P_MW : Field := ⟨0x10030, 0, 20⟩
def PWR_SURGE_EMPTY : Field := ⟨0x10034, 31, 1⟩
def PWR_SURGE_B_J : Field := ⟨0x10034, 0, 20⟩
def PWR_EVT_AVS_ALERT : Field := ⟨0x10040, 7, 1⟩
def PWR_EVT_REFUSED : Field := ⟨0x10040, 6, 1⟩
def PWR_EVT_MON_LOCK : Field := ⟨0x10040, 5, 1⟩
def PWR_EVT_SURGE_RESTORED : Field := ⟨0x10040, 4, 1⟩
def PWR_EVT_SURGE_EXHAUSTED : Field := ⟨0x10040, 3, 1⟩
def PWR_EVT_AVS_NORESP : Field := ⟨0x10040, 2, 1⟩
def PWR_EVT_AVS_CEILING : Field := ⟨0x10040, 1, 1⟩
def PWR_EVT_STATE_CHANGED : Field := ⟨0x10040, 0, 1⟩
def CLK_CPLL_CTL_HO_LIMIT_S : Field := ⟨0x20000, 8, 8⟩
def CLK_CPLL_CTL_CP_I : Field := ⟨0x20000, 2, 3⟩
def CLK_CPLL_CTL_LF_EXT : Field := ⟨0x20000, 1, 1⟩
def CLK_CPLL_CTL_REF_SEL : Field := ⟨0x20000, 0, 1⟩
def CLK_CPLL_STAT_HO_AGE_S : Field := ⟨0x20004, 8, 8⟩
def CLK_CPLL_STAT_REF_OK : Field := ⟨0x20004, 7, 1⟩
def CLK_CPLL_STAT_MODE : Field := ⟨0x20004, 4, 2⟩
def CLK_CPLL_STAT_BYP_SRC : Field := ⟨0x20004, 3, 1⟩
def CLK_REF_JUMP_COUNT : Field := ⟨0x20008, 16, 16⟩
def CLK_REF_JUMP_LAST_PS : Field := ⟨0x20008, 0, 16⟩
def CLK_SYN_CTL_GO (i : Nat) : Field := ⟨0x20020 + 0x10 * (i % 2), 31, 1⟩
def CLK_SYN_CTL_ARM (i : Nat) : Field := ⟨0x20020 + 0x10 * (i % 2), 30, 1⟩
def CLK_SYN_CTL_DIV (i : Nat) : Field := ⟨0x20020 + 0x10 * (i % 2), 8, 1⟩
def CLK_SYN_CTL_N (i : Nat) : Field := ⟨0x20020 + 0x10 * (i % 2), 0, 6⟩
def CLK_SYN_STAT_LOCK_T (i : Nat) : Field := ⟨0x20024 + 0x10 * (i % 2), 8, 8⟩
def CLK_SYN_STAT_BAND (i : Nat) : Field := ⟨0x20024 + 0x10 * (i % 2), 2, 6⟩
def CLK_SYN_STAT_SETTLE (i : Nat) : Field := ⟨0x20024 + 0x10 * (i % 2), 1, 1⟩
def CLK_SYN_STAT_LOCK (i : Nat) : Field := ⟨0x20024 + 0x10 * (i % 2), 0, 1⟩
def CLK_SYN_AT_LO_STAMP (i : Nat) : Field := ⟨0x20028 + 0x10 * (i % 2), 0, 32⟩
def CLK_SYN_AT_HI_STAMP (i : Nat) : Field := ⟨0x2002C + 0x10 * (i % 2), 0, 32⟩
def CLK_LO_ROUTE_AUTO_SWAP : Field := ⟨0x20040, 4, 1⟩
def CLK_LO_ROUTE_SPLIT : Field := ⟨0x20040, 3, 1⟩
def CLK_LO_ROUTE_RX_SRC : Field := ⟨0x20040, 1, 1⟩
def CLK_LO_ROUTE_TX_SRC : Field := ⟨0x20040, 0, 1⟩
def CLK_LO_SYNC_RESYNC : Field := ⟨0x20044, 0, 1⟩
def CLK_LPLL_CTL_SSC_MODE (i : Nat) : Field := ⟨0x20060 + 0x8 * (i % 4), 14, 2⟩
def CLK_LPLL_CTL_DEPTH (i : Nat) : Field := ⟨0x20060 + 0x8 * (i % 4), 8, 6⟩
def CLK_LPLL_CTL_SSC_F (i : Nat) : Field := ⟨0x20060 + 0x8 * (i % 4), 0, 3⟩
def CLK_LPLL_STAT_UNLOCK_CNT (i : Nat) : Field := ⟨0x20064 + 0x8 * (i % 4), 8, 8⟩
def CLK_LPLL_STAT_MODE (i : Nat) : Field := ⟨0x20064 + 0x8 * (i % 4), 0, 2⟩
def CLK_EVT_LPLL_RELOCK : Field := ⟨0x20080, 15, 4⟩
def CLK_EVT_CPLL_RELOCK : Field := ⟨0x20080, 14, 1⟩
def CLK_EVT_REF_RESTORED : Field := ⟨0x20080, 13, 1⟩
def CLK_EVT_RESYNC_REFUSED : Field := ⟨0x20080, 12, 1⟩
def CLK_EVT_LPLL_UNLOCK : Field := ⟨0x20080, 8, 4⟩
def CLK_EVT_RETUNE_REFUSED : Field := ⟨0x20080, 7, 1⟩
def CLK_EVT_SYN_SWAP : Field := ⟨0x20080, 6, 1⟩
def CLK_EVT_SYN_UNLOCK : Field := ⟨0x20080, 4, 2⟩
def CLK_EVT_CPLL_BYPASS : Field := ⟨0x20080, 3, 1⟩
def CLK_EVT_HO_EXPIRED : Field := ⟨0x20080, 2, 1⟩
def CLK_EVT_REF_JUMP : Field := ⟨0x20080, 1, 1⟩
def CLK_EVT_REF_LOSS : Field := ⟨0x20080, 0, 1⟩
def CLK_SWAP_MUTE_TOTAL_NS : Field := ⟨0x20084, 0, 32⟩
def BOOT_STAT_FAIL_B : Field := ⟨0x30000, 20, 4⟩
def BOOT_STAT_FAIL_A : Field := ⟨0x30000, 16, 4⟩
def BOOT_STAT_TRIAL : Field := ⟨0x30000, 10, 1⟩
def BOOT_STAT_FALLBACK : Field := ⟨0x30000, 9, 1⟩
def BOOT_STAT_REG_UNBOUND : Field := ⟨0x30000, 8, 1⟩
def BOOT_STAT_DONE : Field := ⟨0x30000, 7, 1⟩
def BOOT_STAT_IMG_OK : Field := ⟨0x30000, 6, 1⟩
def BOOT_STAT_SLOT : Field := ⟨0x30000, 5, 1⟩
def BOOT_STAT_PHASE : Field := ⟨0x30000, 0, 4⟩
def BOOT_IMG_VER_VERSION : Field := ⟨0x30004, 0, 32⟩
def BOOT_STRAP_SRC : Field := ⟨0x30010, 8, 1⟩
def BOOT_STRAP_CHIP_ID : Field := ⟨0x30010, 2, 2⟩
def BOOT_STRAP_BOOT_SEL : Field := ⟨0x30010, 0, 2⟩
def BOOT_RETAIN_DATA (i : Nat) : Field := ⟨0x30020 + 0x4 * (i % 4), 0, 32⟩
def BOOT_SLIP_CTL_AUTO_CONFIRM : Field := ⟨0x30040, 8, 1⟩
def BOOT_SLIP_CTL_CONF_S : Field := ⟨0x30040, 0, 8⟩
def BOOT_SLIP_CMD_SECTOR : Field := ⟨0x30044, 16, 13⟩
def BOOT_SLIP_CMD_OP : Field := ⟨0x30044, 0, 4⟩
def BOOT_SLIP_STAT_TAG_B : Field := ⟨0x30048, 12, 2⟩
def BOOT_SLIP_STAT_TAG_A : Field := ⟨0x30048, 10, 2⟩
def BOOT_SLIP_STAT_TRIES : Field := ⟨0x30048, 8, 2⟩
def BOOT_SLIP_STAT_RESULT : Field := ⟨0x30048, 4, 4⟩
def BOOT_SLIP_STAT_BUSY : Field := ⟨0x30048, 0, 1⟩
def BOOT_EVT_EVENT : Field := ⟨0x30050, 0, 9⟩
def RXA_CTL_BBF_BW : Field := ⟨0x40000, 2, 2⟩
def RXA_AGC_CTL_MAN_STEP : Field := ⟨0x40004, 16, 4⟩
def RXA_AGC_CTL_START : Field := ⟨0x40004, 12, 4⟩
def RXA_AGC_CTL_RESUME : Field := ⟨0x40004, 11, 1⟩
def RXA_AGC_CTL_OVR_STEPS : Field := ⟨0x40004, 8, 2⟩
def RXA_AGC_CTL_ATTACK : Field := ⟨0x40004, 6, 2⟩
def RXA_AGC_CTL_MODE : Field := ⟨0x40004, 0, 2⟩
def RXA_AGC_THR_LO_CODE : Field := ⟨0x40008, 16, 12⟩
def RXA_AGC_THR_HI_CODE : Field := ⟨0x40008, 0, 12⟩
def RXA_AGC_DWELL_DWELL_US : Field := ⟨0x4000C, 0, 12⟩
def RXA_AGC_STAT_SUSP : Field := ⟨0x40010, 8, 1⟩
def RXA_AGC_STAT_STEP : Field := ⟨0x40010, 0, 4⟩
def RXA_AGC_CNT_UP : Field := ⟨0x40014, 16, 16⟩
def RXA_AGC_CNT_DOWN : Field := ⟨0x40014, 0, 16⟩
def RXA_AGC_MASK0_PATHS : Field := ⟨0x40018, 0, 32⟩
def RXA_AGC_MASK1_PATHS : Field := ⟨0x4001C, 0, 32⟩
def RXA_RETIRE0_PATHS : Field := ⟨0x40020, 0, 32⟩
def RXA_RETIRE1_PATHS : Field := ⟨0x40024, 0, 32⟩
def RXA_CNT_CLR_OVR : Field := ⟨0x40028, 1, 1⟩
def RXA_CNT_CLR_AGC : Field := ⟨0x40028, 0, 1⟩
def RXA_SERVO_CTL_FREEZE : Field := ⟨0x40030, 8, 1⟩
def RXA_SERVO_CTL_DEAD : Field := ⟨0x40030, 0, 4⟩
def RXA_CAL_REQ_GO : Field := ⟨0x40040, 31, 1⟩
def RXA_CAL_REQ_QUADS : Field := ⟨0x40040, 8, 8⟩
def RXA_CAL_REQ_KIND : Field := ⟨0x40040, 0, 5⟩
def RXA_CAL_STAT_FAIL : Field := ⟨0x40044, 24, 8⟩
def RXA_CAL_STAT_ACTIVE : Field := ⟨0x40044, 8, 8⟩
def RXA_CAL_STAT_WAIT : Field := ⟨0x40044, 1, 1⟩
def RXA_CAL_STAT_BUSY : Field := ⟨0x40044, 0, 1⟩
def RXA_EVT_CAL_FAIL : Field := ⟨0x40050, 8, 1⟩
def RXA_EVT_OVER_RANGE : Field := ⟨0x40050, 7, 1⟩
def RXA_EVT_PATH_DEGRADED : Field := ⟨0x40050, 6, 1⟩
def RXA_EVT_AGC_LIMIT : Field := ⟨0x40050, 5, 1⟩
def RXA_EVT_CAL_REFUSED : Field := ⟨0x40050, 4, 1⟩
def RXA_EVT_CAL_DONE : Field := ⟨0x40050, 3, 1⟩
def RXA_EVT_SERVO_RAIL : Field := ⟨0x40050, 2, 1⟩
def RXA_EVT_ADC_NO_SPARE : Field := ⟨0x40050, 1, 1⟩
def RXA_EVT_SLICE_RETIRED : Field := ⟨0x40050, 0, 1⟩
def RXA_P_STAT_RETIRED (i : Nat) : Field := ⟨0x40100 + 0x20 * (i % 64), 12, 1⟩
def RXA_P_STAT_DEGRADED (i : Nat) : Field := ⟨0x40100 + 0x20 * (i % 64), 11, 1⟩
def RXA_P_STAT_NOSPARE_Q (i : Nat) : Field := ⟨0x40100 + 0x20 * (i % 64), 10, 1⟩
def RXA_P_STAT_NOSPARE_I (i : Nat) : Field := ⟨0x40100 + 0x20 * (i % 64), 9, 1⟩
def RXA_P_STAT_SERVO_RAIL (i : Nat) : Field := ⟨0x40100 + 0x20 * (i % 64), 8, 1⟩
def RXA_P_STAT_SPARE_Q (i : Nat) : Field := ⟨0x40100 + 0x20 * (i % 64), 4, 4⟩
def RXA_P_STAT_SPARE_I (i : Nat) : Field := ⟨0x40100 + 0x20 * (i % 64), 0, 4⟩
def RXA_P_SERVO_CODE_Q (i : Nat) : Field := ⟨0x40104 + 0x20 * (i % 64), 16, 10⟩
def RXA_P_SERVO_CODE_I (i : Nat) : Field := ⟨0x40104 + 0x20 * (i % 64), 0, 10⟩
def RXA_P_OVR_COUNT (i : Nat) : Field := ⟨0x40108 + 0x20 * (i % 64), 0, 32⟩
def RXA_P_SLRET_SLICES_Q (i : Nat) : Field := ⟨0x4010C + 0x20 * (i % 64), 16, 9⟩
def RXA_P_SLRET_SLICES_I (i : Nat) : Field := ⟨0x4010C + 0x20 * (i % 64), 0, 9⟩
def RXA_COMP_VALUE (i j k : Nat) : Field := ⟨0x41000 + 0x80 * (i % 64) + 0x8 * (j % 11) + 0x4 * (k % 2), 0, 20⟩
def RXD_CTL_RUN : Field := ⟨0x50000, 0, 1⟩
def RXD_CFG_OUT_SHIFT : Field := ⟨0x50004, 12, 4⟩
def RXD_CFG_DC_EN : Field := ⟨0x50004, 10, 1⟩
def RXD_CFG_IQ_EN : Field := ⟨0x50004, 9, 1⟩
def RXD_CFG_RS_EN : Field := ⟨0x50004, 8, 1⟩
def RXD_CFG_BOX : Field := ⟨0x50004, 5, 2⟩
def RXD_CFG_SETTLE : Field := ⟨0x50004, 4, 1⟩
def RXD_CFG_DEC : Field := ⟨0x50004, 0, 2⟩
def RXD_RS_STEP_F : Field := ⟨0x50008, 0, 32⟩
def RXD_NCO_FREQ_LO_FREQ : Field := ⟨0x50010, 0, 32⟩
def RXD_NCO_FREQ_HI_FREQ : Field := ⟨0x50014, 0, 16⟩
def RXD_NCO_CTL_GO : Field := ⟨0x50018, 31, 1⟩
def RXD_NCO_CTL_ARM : Field := ⟨0x50018, 30, 1⟩
def RXD_NCO_CTL_PEND : Field := ⟨0x50018, 0, 1⟩
def RXD_NCO_AT_LO_STAMP : Field := ⟨0x5001C, 0, 32⟩
def RXD_NCO_AT_HI_STAMP : Field := ⟨0x50020, 0, 32⟩
def RXD_NCO_CUR_LO_FREQ : Field := ⟨0x50024, 0, 32⟩
def RXD_NCO_CUR_HI_FREQ : Field := ⟨0x50028, 0, 16⟩
def RXD_NCO_OFS_LO_OFS : Field := ⟨0x5002C, 0, 32⟩
def RXD_NCO_OFS_HI_OFS : Field := ⟨0x50030, 0, 16⟩
def RXD_DC_CTL_FREEZE : Field := ⟨0x50034, 8, 1⟩
def RXD_DC_CTL_K : Field := ⟨0x50034, 0, 5⟩
def RXD_STAT_RUNNING : Field := ⟨0x50040, 0, 1⟩
def RXD_DELAY_TOTAL : Field := ⟨0x50044, 0, 32⟩
def RXD_FILL_SAMPLES : Field := ⟨0x50048, 0, 8⟩
def RXD_REJ_CNT_COUNT : Field := ⟨0x5004C, 0, 32⟩
def RXD_EVT_NCO_REFUSED : Field := ⟨0x50050, 2, 1⟩
def RXD_EVT_OUT_SAT : Field := ⟨0x50050, 1, 1⟩
def RXD_EVT_CFG_REJECT : Field := ⟨0x50050, 0, 1⟩
def RXD_CNT_CLR_SAT : Field := ⟨0x50054, 1, 1⟩
def RXD_CNT_CLR_INV : Field := ⟨0x50054, 0, 1⟩
def RXD_P_INV_COUNT (i : Nat) : Field := ⟨0x50100 + 0x20 * (i % 64), 0, 32⟩
def RXD_P_SAT_COUNT (i : Nat) : Field := ⟨0x50104 + 0x20 * (i % 64), 0, 32⟩
def RXD_P_IQ_VALUE (i j k : Nat) : Field := ⟨0x51000 + 0x20 * (i % 64) + 0x8 * (j % 3) + 0x4 * (k % 2), 0, 18⟩
def RXD_HB1_C_C (i : Nat) : Field := ⟨0x52000 + 0x4 * (i % 18), 0, 18⟩
def RXD_HB2_C_C (i : Nat) : Field := ⟨0x52080 + 0x4 * (i % 18), 0, 18⟩
def RXD_HB3_C_C (i : Nat) : Field := ⟨0x52100 + 0x4 * (i % 12), 0, 18⟩
def RXD_HB4_C_C (i : Nat) : Field := ⟨0x52140 + 0x4 * (i % 12), 0, 18⟩
def RXD_RSCOEF_C (i : Nat) : Field := ⟨0x54000 + 0x4 * (i % 4096), 0, 18⟩
def TXA_CTL_FILT_BW : Field := ⟨0x60000, 2, 2⟩
def TXA_ENABLE0_PATHS : Field := ⟨0x60004, 0, 32⟩
def TXA_ENABLE1_PATHS : Field := ⟨0x60008, 0, 32⟩
def TXA_RETIRE0_PATHS : Field := ⟨0x6000C, 0, 32⟩
def TXA_RETIRE1_PATHS : Field := ⟨0x60010, 0, 32⟩
def TXA_COEX_CTL_GNT_LOW : Field := ⟨0x60014, 16, 1⟩
def TXA_COEX_CTL_RESUME_NS : Field := ⟨0x60014, 0, 10⟩
def TXA_COEX_FALL_LO_STAMP : Field := ⟨0x60018, 0, 32⟩
def TXA_COEX_FALL_HI_STAMP : Field := ⟨0x6001C, 0, 32⟩
def TXA_DELAY_TOTAL : Field := ⟨0x60020, 0, 32⟩
def TXA_LOL_CTL_TRACK : Field := ⟨0x60024, 0, 1⟩
def TXA_CAL_REQ_GO : Field := ⟨0x60040, 31, 1⟩
def TXA_CAL_REQ_QUADS : Field := ⟨0x60040, 8, 8⟩
def TXA_CAL_REQ_KIND : Field := ⟨0x60040, 0, 5⟩
def TXA_CAL_STAT_FAIL : Field := ⟨0x60044, 24, 8⟩
def TXA_CAL_STAT_ACTIVE : Field := ⟨0x60044, 8, 8⟩
def TXA_CAL_STAT_WAIT : Field := ⟨0x60044, 1, 1⟩
def TXA_CAL_STAT_BUSY : Field := ⟨0x60044, 0, 1⟩
def TXA_RB_CTL_GO : Field := ⟨0x60048, 31, 1⟩
def TXA_RB_CTL_KIND : Field := ⟨0x60048, 8, 2⟩
def TXA_RB_CTL_PATH : Field := ⟨0x60048, 0, 6⟩
def TXA_RB_RES_VALID : Field := ⟨0x6004C, 31, 1⟩
def TXA_RB_RES_NEW : Field := ⟨0x6004C, 30, 1⟩
def TXA_RB_RES_SEQ : Field := ⟨0x6004C, 26, 4⟩
def TXA_RB_RES_PATH : Field := ⟨0x6004C, 16, 6⟩
def TXA_RB_RES_VALUE : Field := ⟨0x6004C, 0, 16⟩
def TXA_EVT_RB_REFUSED : Field := ⟨0x60050, 6, 1⟩
def TXA_EVT_LOL_RAIL : Field := ⟨0x60050, 5, 1⟩
def TXA_EVT_TX_FAULT_NULL : Field := ⟨0x60050, 4, 1⟩
def TXA_EVT_COEX_MUTE : Field := ⟨0x60050, 3, 1⟩
def TXA_EVT_CAL_FAIL : Field := ⟨0x60050, 2, 1⟩
def TXA_EVT_CAL_REFUSED : Field := ⟨0x60050, 1, 1⟩
def TXA_EVT_CAL_DONE : Field := ⟨0x60050, 0, 1⟩
def TXA_P_STAT_LOL_RAIL (i : Nat) : Field := ⟨0x60100 + 0x20 * (i % 64), 3, 1⟩
def TXA_P_STAT_RETIRED (i : Nat) : Field := ⟨0x60100 + 0x20 * (i % 64), 2, 1⟩
def TXA_P_STAT_FAULT (i : Nat) : Field := ⟨0x60100 + 0x20 * (i % 64), 1, 1⟩
def TXA_P_STAT_REL (i : Nat) : Field := ⟨0x60100 + 0x20 * (i % 64), 0, 1⟩
def TXA_P_ATT_ATT (i : Nat) : Field := ⟨0x60104 + 0x20 * (i % 64), 0, 7⟩
def TXA_P_LOL_Q (i : Nat) : Field := ⟨0x60108 + 0x20 * (i % 64), 16, 10⟩
def TXA_P_LOL_I (i : Nat) : Field := ⟨0x60108 + 0x20 * (i % 64), 0, 10⟩
def TXA_P_NULL_Q (i : Nat) : Field := ⟨0x6010C + 0x20 * (i % 64), 16, 10⟩
def TXA_P_NULL_I (i : Nat) : Field := ⟨0x6010C + 0x20 * (i % 64), 0, 10⟩
def TXD_CTL_RUN : Field := ⟨0x70000, 0, 1⟩
def TXD_CFG_IQ_EN : Field := ⟨0x70004, 9, 1⟩
def TXD_CFG_INT : Field := ⟨0x70004, 0, 2⟩
def TXD_GAIN_BO : Field := ⟨0x70008, 16, 1⟩
def TXD_GAIN_GAIN : Field := ⟨0x70008, 0, 16⟩
def TXD_NCO_FREQ_LO_FREQ : Field := ⟨0x70010, 0, 32⟩
def TXD_NCO_FREQ_HI_FREQ : Field := ⟨0x70014, 0, 16⟩
def TXD_NCO_CTL_GO : Field := ⟨0x70018, 31, 1⟩
def TXD_NCO_CTL_ARM : Field := ⟨0x70018, 30, 1⟩
def TXD_NCO_CTL_PEND : Field := ⟨0x70018, 0, 1⟩
def TXD_NCO_AT_LO_STAMP : Field := ⟨0x7001C, 0, 32⟩
def TXD_NCO_AT_HI_STAMP : Field := ⟨0x70020, 0, 32⟩
def TXD_NCO_CUR_LO_FREQ : Field := ⟨0x70024, 0, 32⟩
def TXD_NCO_CUR_HI_FREQ : Field := ⟨0x70028, 0, 16⟩
def TXD_NCO_OFS_LO_OFS : Field := ⟨0x7002C, 0, 32⟩
def TXD_NCO_OFS_HI_OFS : Field := ⟨0x70030, 0, 16⟩
def TXD_STAT_RUNNING : Field := ⟨0x70040, 0, 1⟩
def TXD_REJ_CNT_COUNT : Field := ⟨0x70044, 0, 32⟩
def TXD_EVT_NCO_REFUSED : Field := ⟨0x70050, 2, 1⟩
def TXD_EVT_OUT_SAT : Field := ⟨0x70050, 1, 1⟩
def TXD_EVT_CFG_REJECT : Field := ⟨0x70050, 0, 1⟩
def TXD_CNT_CLR_MUTE : Field := ⟨0x70054, 2, 1⟩
def TXD_CNT_CLR_SAT : Field := ⟨0x70054, 1, 1⟩
def TXD_MUTE1_COUNT : Field := ⟨0x70064, 0, 32⟩
def TXD_MUTE2_COUNT : Field := ⟨0x70068, 0, 32⟩
def TXD_MUTE3_COUNT : Field := ⟨0x7006C, 0, 32⟩
def TXD_MUTE5_COUNT : Field := ⟨0x70074, 0, 32⟩
def TXD_P_SAT_COUNT (i : Nat) : Field := ⟨0x70100 + 0x20 * (i % 64), 0, 32⟩
def TXD_P_IQ_VALUE (i j k : Nat) : Field := ⟨0x71000 + 0x20 * (i % 64) + 0x8 * (j % 3) + 0x4 * (k % 2), 0, 18⟩
def TXD_GB1_C_C (i : Nat) : Field := ⟨0x72000 + 0x4 * (i % 18), 0, 18⟩
def TXD_GB2_C_C (i : Nat) : Field := ⟨0x72080 + 0x4 * (i % 18), 0, 18⟩
def TXD_GB3_C_C (i : Nat) : Field := ⟨0x72100 + 0x4 * (i % 12), 0, 18⟩
def TXD_GB4_C_C (i : Nat) : Field := ⟨0x72140 + 0x4 * (i % 12), 0, 18⟩
def DPD_CTL_ADAPT : Field := ⟨0x80000, 0, 1⟩
def DPD_XFADE_LEN : Field := ⟨0x80004, 0, 11⟩
def DPD_SWAP_CTL_GO : Field := ⟨0x80008, 31, 1⟩
def DPD_SWAP_CTL_BANK : Field := ⟨0x80008, 0, 3⟩
def DPD_SWAP_MASK0_PATHS : Field := ⟨0x8000C, 0, 32⟩
def DPD_SWAP_MASK1_PATHS : Field := ⟨0x80010, 0, 32⟩
def DPD_SOLVE_NSAMP : Field := ⟨0x80014, 24, 2⟩
def DPD_SOLVE_MU : Field := ⟨0x80014, 8, 8⟩
def DPD_SOLVE_LAMBDA_EXP : Field := ⟨0x80014, 0, 5⟩
def DPD_CHECK_ERR_DB : Field := ⟨0x80018, 16, 16⟩
def DPD_CHECK_MIN_DB : Field := ⟨0x80018, 11, 5⟩
def DPD_CHECK_ERR_N : Field := ⟨0x80018, 8, 3⟩
def DPD_CHECK_REVERT_DB : Field := ⟨0x80018, 0, 8⟩
def DPD_STAT_SLOW : Field := ⟨0x80040, 0, 1⟩
def DPD_EVT_DPD_SAT : Field := ⟨0x80050, 10, 1⟩
def DPD_EVT_ORX_DEGRADED : Field := ⟨0x80050, 9, 1⟩
def DPD_EVT_CFG_REJECT : Field := ⟨0x80050, 8, 1⟩
def DPD_EVT_SWAP_DROPPED : Field := ⟨0x80050, 7, 1⟩
def DPD_EVT_ALIGN_FAIL : Field := ⟨0x80050, 6, 1⟩
def DPD_EVT_ADAPT_FROZEN : Field := ⟨0x80050, 5, 1⟩
def DPD_EVT_REVERT : Field := ⟨0x80050, 4, 1⟩
def DPD_EVT_DPD_ERR : Field := ⟨0x80050, 3, 1⟩
def DPD_EVT_ORX_NO_SPARE : Field := ⟨0x80050, 2, 1⟩
def DPD_EVT_ORX_SLICE_RETIRED : Field := ⟨0x80050, 1, 1⟩
def DPD_EVT_ACTIVE_WRITE : Field := ⟨0x80050, 0, 1⟩
def DPD_CNT_CLR_PATH : Field := ⟨0x80054, 2, 1⟩
def DPD_CNT_CLR_DROP : Field := ⟨0x80054, 1, 1⟩
def DPD_CNT_CLR_ACTWR : Field := ⟨0x80054, 0, 1⟩
def DPD_ACTWR_CNT_COUNT : Field := ⟨0x80058, 0, 32⟩
def DPD_DROP_CNT_COUNT : Field := ⟨0x8005C, 0, 32⟩
def DPD_TERM_EN (i : Nat) : Field := ⟨0x80100 + 0x4 * (i % 32), 31, 1⟩
def DPD_TERM_K (i : Nat) : Field := ⟨0x80100 + 0x4 * (i % 32), 8, 4⟩
def DPD_TERM_M (i : Nat) : Field := ⟨0x80100 + 0x4 * (i % 32), 4, 3⟩
def DPD_TERM_L (i : Nat) : Field := ⟨0x80100 + 0x4 * (i % 32), 0, 4⟩
def DPD_ORX_STAT_MOVED (i : Nat) : Field := ⟨0x80200 + 0x4 * (i % 8), 13, 1⟩
def DPD_ORX_STAT_DEGRADED (i : Nat) : Field := ⟨0x80200 + 0x4 * (i % 8), 12, 1⟩
def DPD_ORX_STAT_NOSPARE_Q (i : Nat) : Field := ⟨0x80200 + 0x4 * (i % 8), 11, 1⟩
def DPD_ORX_STAT_NOSPARE_I (i : Nat) : Field := ⟨0x80200 + 0x4 * (i % 8), 10, 1⟩
def DPD_ORX_STAT_RET_Q (i : Nat) : Field := ⟨0x80200 + 0x4 * (i % 8), 5, 5⟩
def DPD_ORX_STAT_RET_I (i : Nat) : Field := ⟨0x80200 + 0x4 * (i % 8), 0, 5⟩
def DPD_P_CTL_FB_ATT (i : Nat) : Field := ⟨0x81000 + 0x20 * (i % 64), 8, 4⟩
def DPD_P_CTL_ADAPT_EN (i : Nat) : Field := ⟨0x81000 + 0x20 * (i % 64), 1, 1⟩
def DPD_P_CTL_BYPASS (i : Nat) : Field := ⟨0x81000 + 0x20 * (i % 64), 0, 1⟩
def DPD_P_STAT_EMPTY (i : Nat) : Field := ⟨0x81004 + 0x20 * (i % 64), 16, 8⟩
def DPD_P_STAT_NOFB (i : Nat) : Field := ⟨0x81004 + 0x20 * (i % 64), 12, 1⟩
def DPD_P_STAT_FROZEN (i : Nat) : Field := ⟨0x81004 + 0x20 * (i % 64), 11, 1⟩
def DPD_P_STAT_REVERTS (i : Nat) : Field := ⟨0x81004 + 0x20 * (i % 64), 9, 2⟩
def DPD_P_STAT_QV (i : Nat) : Field := ⟨0x81004 + 0x20 * (i % 64), 8, 1⟩
def DPD_P_STAT_FADE (i : Nat) : Field := ⟨0x81004 + 0x20 * (i % 64), 7, 1⟩
def DPD_P_STAT_QUEUED (i : Nat) : Field := ⟨0x81004 + 0x20 * (i % 64), 4, 3⟩
def DPD_P_STAT_ACTIVE (i : Nat) : Field := ⟨0x81004 + 0x20 * (i % 64), 0, 3⟩
def DPD_P_RES_VALID (i : Nat) : Field := ⟨0x81008 + 0x20 * (i % 64), 31, 1⟩
def DPD_P_RES_NEW (i : Nat) : Field := ⟨0x81008 + 0x20 * (i % 64), 30, 1⟩
def DPD_P_RES_SEQ (i : Nat) : Field := ⟨0x81008 + 0x20 * (i % 64), 26, 4⟩
def DPD_P_RES_OUTCOME (i : Nat) : Field := ⟨0x81008 + 0x20 * (i % 64), 24, 2⟩
def DPD_P_RES_BANK (i : Nat) : Field := ⟨0x81008 + 0x20 * (i % 64), 16, 3⟩
def DPD_P_RES_NMSE (i : Nat) : Field := ⟨0x81008 + 0x20 * (i % 64), 0, 16⟩
def DPD_P_DLY_VALID (i : Nat) : Field := ⟨0x8100C + 0x20 * (i % 64), 31, 1⟩
def DPD_P_DLY_DELAY (i : Nat) : Field := ⟨0x8100C + 0x20 * (i % 64), 0, 11⟩
def DPD_P_SAT_COUNT (i : Nat) : Field := ⟨0x81010 + 0x20 * (i % 64), 0, 32⟩
def DPD_P_REJ_SKIP (i : Nat) : Field := ⟨0x81014 + 0x20 * (i % 64), 24, 8⟩
def DPD_P_REJ_LOWPWR (i : Nat) : Field := ⟨0x81014 + 0x20 * (i % 64), 16, 8⟩
def DPD_P_REJ_ORX_OVR (i : Nat) : Field := ⟨0x81014 + 0x20 * (i % 64), 8, 8⟩
def DPD_P_REJ_ALIGN (i : Nat) : Field := ⟨0x81014 + 0x20 * (i % 64), 0, 8⟩
def QCTL_EVT_EVENT : Field := ⟨0x90040, 0, 9⟩
def QCTL_REJ_CNT_COUNT : Field := ⟨0x90044, 0, 32⟩
def QCTL_C_CTL_RUN (i : Nat) : Field := ⟨0x90100 + 0x40 * (i % 4), 31, 1⟩
def QCTL_C_CTL_DIR (i : Nat) : Field := ⟨0x90100 + 0x40 * (i % 4), 30, 1⟩
def QCTL_C_CTL_SHADOW (i : Nat) : Field := ⟨0x90100 + 0x40 * (i % 4), 29, 1⟩
def QCTL_C_CTL_OUT_VEC (i : Nat) : Field := ⟨0x90100 + 0x40 * (i % 4), 0, 4⟩
def QCTL_C_MAP_IN_BASE (i : Nat) : Field := ⟨0x90104 + 0x40 * (i % 4), 24, 6⟩
def QCTL_C_MAP_IN_VEC (i : Nat) : Field := ⟨0x90104 + 0x40 * (i % 4), 16, 8⟩
def QCTL_C_MAP_OUT_BASE (i : Nat) : Field := ⟨0x90104 + 0x40 * (i % 4), 8, 6⟩
def QCTL_C_MAP_UNITS (i : Nat) : Field := ⟨0x90104 + 0x40 * (i % 4), 0, 4⟩
def QCTL_C_STAT_RUNNING (i : Nat) : Field := ⟨0x90108 + 0x40 * (i % 4), 31, 1⟩
def QCTL_C_STAT_CORES (i : Nat) : Field := ⟨0x90108 + 0x40 * (i % 4), 0, 24⟩
def QCTL_C_RSV_CORES (i : Nat) : Field := ⟨0x9010C + 0x40 * (i % 4), 0, 24⟩
def QCTL_C_RET_CORES (i : Nat) : Field := ⟨0x90110 + 0x40 * (i % 4), 0, 24⟩
def QCTL_C_SWAP_GO (i : Nat) : Field := ⟨0x90114 + 0x40 * (i % 4), 31, 1⟩
def QCTL_C_SWAP_IN (i : Nat) : Field := ⟨0x90114 + 0x40 * (i % 4), 8, 5⟩
def QCTL_C_SWAP_OUT (i : Nat) : Field := ⟨0x90114 + 0x40 * (i % 4), 0, 5⟩
def QCTL_C_SWAP_STAT_RESULT (i : Nat) : Field := ⟨0x90118 + 0x40 * (i % 4), 4, 4⟩
def QCTL_C_SWAP_STAT_BUSY (i : Nat) : Field := ⟨0x90118 + 0x40 * (i % 4), 0, 1⟩
def QCTL_C_SHADOW_STAT_CORE (i : Nat) : Field := ⟨0x9011C + 0x40 * (i % 4), 27, 5⟩
def QCTL_C_SHADOW_STAT_MISMATCH (i : Nat) : Field := ⟨0x9011C + 0x40 * (i % 4), 0, 16⟩
def QCTL_C_PACE_PACE (i : Nat) : Field := ⟨0x90120 + 0x40 * (i % 4), 0, 16⟩
def QCTL_C_LOST_COUNT (i : Nat) : Field := ⟨0x90124 + 0x40 * (i % 4), 0, 32⟩
def QCTL_K_CTL_RUN (i : Nat) : Field := ⟨0x91000 + 0x20 * (i % 96), 31, 1⟩
def QCTL_K_CTL_WRAP (i : Nat) : Field := ⟨0x91000 + 0x20 * (i % 96), 30, 1⟩
def QCTL_K_CTL_SWAP_SAFE (i : Nat) : Field := ⟨0x91000 + 0x20 * (i % 96), 29, 1⟩
def QCTL_K_CTL_WP_EN (i : Nat) : Field := ⟨0x91000 + 0x20 * (i % 96), 28, 1⟩
def QCTL_K_CTL_START_PC (i : Nat) : Field := ⟨0x91000 + 0x20 * (i % 96), 0, 11⟩
def QCTL_K_STAT_RUNNING (i : Nat) : Field := ⟨0x91004 + 0x20 * (i % 96), 31, 1⟩
def QCTL_K_STAT_HALTED (i : Nat) : Field := ⟨0x91004 + 0x20 * (i % 96), 30, 1⟩
def QCTL_K_STAT_FAULT (i : Nat) : Field := ⟨0x91004 + 0x20 * (i % 96), 29, 1⟩
def QCTL_K_STAT_FCODE (i : Nat) : Field := ⟨0x91004 + 0x20 * (i % 96), 26, 3⟩
def QCTL_K_STAT_WAIT (i : Nat) : Field := ⟨0x91004 + 0x20 * (i % 96), 24, 2⟩
def QCTL_K_STAT_OVF (i : Nat) : Field := ⟨0x91004 + 0x20 * (i % 96), 23, 1⟩
def QCTL_K_STAT_WRP (i : Nat) : Field := ⟨0x91004 + 0x20 * (i % 96), 22, 1⟩
def QCTL_K_STAT_VSAT (i : Nat) : Field := ⟨0x91004 + 0x20 * (i % 96), 21, 1⟩
def QCTL_K_STAT_PC (i : Nat) : Field := ⟨0x91004 + 0x20 * (i % 96), 0, 11⟩
def QCTL_K_STEPS_COUNT (i : Nat) : Field := ⟨0x91008 + 0x20 * (i % 96), 0, 32⟩
def QCTL_K_WAIT_COUNT (i : Nat) : Field := ⟨0x9100C + 0x20 * (i % 96), 0, 32⟩
def BERTH_CTL_RENORM : Field := ⟨0xA0000, 1, 1⟩
def BERTH_CTL_CALIO_EN : Field := ⟨0xA0000, 0, 1⟩
def BERTH_SCHED_AT_LO_STAMP : Field := ⟨0xA0004, 0, 32⟩
def BERTH_SCHED_AT_HI_STAMP : Field := ⟨0xA0008, 0, 32⟩
def BERTH_SCHED_CMD_GO : Field := ⟨0xA000C, 31, 1⟩
def BERTH_SCHED_CMD_DIR : Field := ⟨0xA000C, 30, 1⟩
def BERTH_SCHED_CMD_OP : Field := ⟨0xA000C, 28, 2⟩
def BERTH_SCHED_CMD_BERTH : Field := ⟨0xA000C, 0, 9⟩
def BERTH_SCHED_STAT_RESULT : Field := ⟨0xA0010, 28, 4⟩
def BERTH_SCHED_STAT_RX_QUEUED : Field := ⟨0xA0010, 16, 7⟩
def BERTH_SCHED_STAT_TX_QUEUED : Field := ⟨0xA0010, 0, 7⟩
def BERTH_NOW_RX : Field := ⟨0xA0014, 16, 9⟩
def BERTH_NOW_TX : Field := ⟨0xA0014, 0, 9⟩
def BERTH_REF_CNT_COUNT : Field := ⟨0xA0018, 0, 32⟩
def BERTH_SAT_CNT_COUNT : Field := ⟨0xA001C, 0, 32⟩
def BERTH_THIN_LEVEL : Field := ⟨0xA0020, 8, 2⟩
def BERTH_THIN_Q2 : Field := ⟨0xA0020, 4, 3⟩
def BERTH_THIN_Q1 : Field := ⟨0xA0020, 0, 3⟩
def BERTH_EFF_TX0_PATHS : Field := ⟨0xA0030, 0, 32⟩
def BERTH_EFF_TX1_PATHS : Field := ⟨0xA0034, 0, 32⟩
def BERTH_EFF_RX0_PATHS : Field := ⟨0xA0038, 0, 32⟩
def BERTH_EFF_RX1_PATHS : Field := ⟨0xA003C, 0, 32⟩
def BERTH_EVT_EVENT : Field := ⟨0xA0050, 0, 9⟩
def BERTH_CNT_CLR_SAT : Field := ⟨0xA0054, 1, 1⟩
def BERTH_CNT_CLR_REF : Field := ⟨0xA0054, 0, 1⟩
def BERTH_CAL_REQ_GO : Field := ⟨0xA0060, 31, 1⟩
def BERTH_CAL_REQ_KIND : Field := ⟨0xA0060, 0, 2⟩
def BERTH_CAL_STAT_FAIL : Field := ⟨0xA0064, 24, 8⟩
def BERTH_CAL_STAT_WAIT : Field := ⟨0xA0064, 1, 1⟩
def BERTH_CAL_STAT_BUSY : Field := ⟨0xA0064, 0, 1⟩
def BERTH_P_ALIGN_TX_ALIGN (i : Nat) : Field := ⟨0xA1000 + 0x10 * (i % 64), 0, 12⟩
def BERTH_P_ALIGN_RX_ALIGN (i : Nat) : Field := ⟨0xA1004 + 0x10 * (i % 64), 0, 12⟩
def BERTH_P_PCAL_TX_IM (i : Nat) : Field := ⟨0xA1008 + 0x10 * (i % 64), 16, 16⟩
def BERTH_P_PCAL_TX_RE (i : Nat) : Field := ⟨0xA1008 + 0x10 * (i % 64), 0, 16⟩
def BERTH_P_PCAL_RX_IM (i : Nat) : Field := ⟨0xA100C + 0x10 * (i % 64), 16, 16⟩
def BERTH_P_PCAL_RX_RE (i : Nat) : Field := ⟨0xA100C + 0x10 * (i % 64), 0, 16⟩
def BERTH_TX_DESC_CLASS (i : Nat) : Field := ⟨0xA4000 + 0x10 * (i % 512), 16, 3⟩
def BERTH_TX_DESC_SECTORS (i : Nat) : Field := ⟨0xA4000 + 0x10 * (i % 512), 0, 16⟩
def BERTH_TX_MASK_LO_MASK (i : Nat) : Field := ⟨0xA4004 + 0x10 * (i % 512), 0, 32⟩
def BERTH_TX_MASK_HI_MASK (i : Nat) : Field := ⟨0xA4008 + 0x10 * (i % 512), 0, 32⟩
def BERTH_RX_DESC_CLASS (i : Nat) : Field := ⟨0xA8000 + 0x10 * (i % 512), 16, 3⟩
def BERTH_RX_DESC_SECTORS (i : Nat) : Field := ⟨0xA8000 + 0x10 * (i % 512), 0, 16⟩
def BERTH_RX_MASK_LO_MASK (i : Nat) : Field := ⟨0xA8004 + 0x10 * (i % 512), 0, 32⟩
def BERTH_RX_MASK_HI_MASK (i : Nat) : Field := ⟨0xA8008 + 0x10 * (i % 512), 0, 32⟩
def FHL_CTL_MINLINK : Field := ⟨0xB0000, 9, 1⟩
def FHL_CTL_ADAPT_HOLD : Field := ⟨0xB0000, 8, 1⟩
def FHL_CTL_RETRAIN_B : Field := ⟨0xB0000, 5, 1⟩
def FHL_CTL_RETRAIN_A : Field := ⟨0xB0000, 4, 1⟩
def FHL_LIM_QUAL_MS : Field := ⟨0xB0004, 24, 8⟩
def FHL_LIM_CV_LIM : Field := ⟨0xB0004, 20, 4⟩
def FHL_LIM_REQ_TRIES : Field := ⟨0xB0004, 16, 4⟩
def FHL_LIM_FLAP_N : Field := ⟨0xB0004, 12, 4⟩
def FHL_LIM_FLAP_S : Field := ⟨0xB0004, 0, 12⟩
def FHL_EVT_EVENT : Field := ⟨0xB0040, 0, 10⟩
def FHL_CNT_CLR_CLR : Field := ⟨0xB0044, 0, 1⟩
def FHL_B_STAT_STATE (i : Nat) : Field := ⟨0xB0100 + 0x40 * (i % 2), 28, 4⟩
def FHL_B_STAT_WIDTH (i : Nat) : Field := ⟨0xB0100 + 0x40 * (i % 2), 24, 4⟩
def FHL_B_STAT_PAR (i : Nat) : Field := ⟨0xB0100 + 0x40 * (i % 2), 23, 1⟩
def FHL_B_STAT_NARROW (i : Nat) : Field := ⟨0xB0100 + 0x40 * (i % 2), 22, 1⟩
def FHL_B_STAT_REPAIR (i : Nat) : Field := ⟨0xB0100 + 0x40 * (i % 2), 9, 9⟩
def FHL_B_STAT_OFF (i : Nat) : Field := ⟨0xB0100 + 0x40 * (i % 2), 0, 9⟩
def FHL_B_TXSTAT_FAR_REP (i : Nat) : Field := ⟨0xB0104 + 0x40 * (i % 2), 9, 9⟩
def FHL_B_TXSTAT_TXOFF (i : Nat) : Field := ⟨0xB0104 + 0x40 * (i % 2), 0, 9⟩
def FHL_B_POL_INV (i : Nat) : Field := ⟨0xB0108 + 0x40 * (i % 2), 0, 9⟩
def FHL_B_TXCFG_SWING (i : Nat) : Field := ⟨0xB010C + 0x40 * (i % 2), 8, 4⟩
def FHL_B_TXCFG_PRE (i : Nat) : Field := ⟨0xB010C + 0x40 * (i % 2), 4, 2⟩
def FHL_B_TXCFG_POST (i : Nat) : Field := ⟨0xB010C + 0x40 * (i % 2), 0, 4⟩
def FHL_B_UNCORR_COUNT (i : Nat) : Field := ⟨0xB0110 + 0x40 * (i % 2), 0, 32⟩
def FHL_B_PARMIS_COUNT (i : Nat) : Field := ⟨0xB0114 + 0x40 * (i % 2), 0, 32⟩
def FHL_B_REPCOL_COUNT (i : Nat) : Field := ⟨0xB0118 + 0x40 * (i % 2), 0, 32⟩
def FHL_B_TRAIN_ATTEMPTS (i : Nat) : Field := ⟨0xB011C + 0x40 * (i % 2), 16, 16⟩
def FHL_B_TRAIN_LAST_MS (i : Nat) : Field := ⟨0xB011C + 0x40 * (i % 2), 0, 16⟩
def FHL_BL_STAT_STATE (i j : Nat) : Field := ⟨0xB1000 + 0x200 * (i % 2) + 0x20 * (j % 9), 28, 4⟩
def FHL_BL_STAT_CAUSE (i j : Nat) : Field := ⟨0xB1000 + 0x200 * (i % 2) + 0x20 * (j % 9), 24, 4⟩
def FHL_BL_STAT_REPAIRS (i j : Nat) : Field := ⟨0xB1000 + 0x200 * (i % 2) + 0x20 * (j % 9), 16, 8⟩
def FHL_BL_STAT_SKEW_UI (i j : Nat) : Field := ⟨0xB1000 + 0x200 * (i % 2) + 0x20 * (j % 9), 8, 8⟩
def FHL_BL_EQ_CTLE (i j : Nat) : Field := ⟨0xB1004 + 0x200 * (i % 2) + 0x20 * (j % 9), 25, 4⟩
def FHL_BL_EQ_TAPS (i j : Nat) : Field := ⟨0xB1004 + 0x200 * (i % 2) + 0x20 * (j % 9), 0, 25⟩
def FHL_BL_CV_COUNT (i j : Nat) : Field := ⟨0xB1008 + 0x200 * (i % 2) + 0x20 * (j % 9), 0, 32⟩
def FHL_BL_EYE_VALID (i j : Nat) : Field := ⟨0xB100C + 0x200 * (i % 2) + 0x20 * (j % 9), 31, 1⟩
def FHL_BL_EYE_NEW (i j : Nat) : Field := ⟨0xB100C + 0x200 * (i % 2) + 0x20 * (j % 9), 30, 1⟩
def FHL_BL_EYE_SEQ (i j : Nat) : Field := ⟨0xB100C + 0x200 * (i % 2) + 0x20 * (j % 9), 26, 4⟩
def FHL_BL_EYE_HEIGHT (i j : Nat) : Field := ⟨0xB100C + 0x200 * (i % 2) + 0x20 * (j % 9), 8, 8⟩
def FHL_BL_EYE_WIDTH (i j : Nat) : Field := ⟨0xB100C + 0x200 * (i % 2) + 0x20 * (j % 9), 0, 8⟩
def FHM_CTL_EVT_EN : Field := ⟨0xC0000, 9, 1⟩
def FHM_CTL_RX_NBLK : Field := ⟨0xC0000, 0, 8⟩
def FHM_RX_MAP_STREAMS : Field := ⟨0xC0010, 0, 32⟩
def FHM_RX_SUSP_STREAMS : Field := ⟨0xC0014, 0, 32⟩
def FHM_TXGRID_LO_STAMP : Field := ⟨0xC0018, 0, 32⟩
def FHM_TXGRID_HI_STAMP : Field := ⟨0xC001C, 0, 32⟩
def FHM_B_LOAD_CAP (i : Nat) : Field := ⟨0xC0020 + 0x4 * (i % 2), 16, 16⟩
def FHM_B_LOAD_LOAD (i : Nat) : Field := ⟨0xC0020 + 0x4 * (i % 2), 0, 16⟩
def FHM_TXCNT_COUNT (i : Nat) : Field := ⟨0xC0040 + 0x4 * (i % 8), 0, 32⟩
def FHM_RXCNT_COUNT (i : Nat) : Field := ⟨0xC0060 + 0x4 * (i % 4), 0, 32⟩
def FHM_B_ERR_COUNT (i j : Nat) : Field := ⟨0xC0080 + 0x10 * (i % 2) + 0x4 * (j % 4), 0, 32⟩
def FHM_TX_SEQGAP_COUNT : Field := ⟨0xC00A0, 0, 32⟩
def FHM_EVT_LOST_COUNT : Field := ⟨0xC00A4, 0, 32⟩
def FHM_GAP_STAT_QUADS : Field := ⟨0xC00B0, 24, 8⟩
def FHM_GAP_STAT_HELD : Field := ⟨0xC00B0, 16, 3⟩
def FHM_GAP_STAT_ACTIVE : Field := ⟨0xC00B0, 0, 1⟩
def FHM_EVT_EVENT : Field := ⟨0xC00C0, 0, 11⟩
def FHM_CNT_CLR_CLR : Field := ⟨0xC00C4, 0, 1⟩
def FHM_RXS_CFG_EN (i : Nat) : Field := ⟨0xC0100 + 0x4 * (i % 32), 31, 1⟩
def FHM_RXS_CFG_HOME (i : Nat) : Field := ⟨0xC0100 + 0x4 * (i % 32), 30, 1⟩
def FHM_RXS_CFG_COMP (i : Nat) : Field := ⟨0xC0100 + 0x4 * (i % 32), 24, 2⟩
def FHM_RXS_CFG_PRIO (i : Nat) : Field := ⟨0xC0100 + 0x4 * (i % 32), 16, 8⟩
def RING_CTL_RETRAIN_W : Field := ⟨0xD0000, 5, 1⟩
def RING_CTL_RETRAIN_E : Field := ⟨0xD0000, 4, 1⟩
def RING_CTL_PSUM_EN : Field := ⟨0xD0000, 3, 1⟩
def RING_CTL_SIZE : Field := ⟨0xD0000, 0, 3⟩
def RING_STAT_MEMBERS : Field := ⟨0xD0004, 28, 4⟩
def RING_STAT_WARC : Field := ⟨0xD0004, 24, 4⟩
def RING_STAT_EARC : Field := ⟨0xD0004, 20, 4⟩
def RING_STAT_FORMED : Field := ⟨0xD0004, 3, 1⟩
def RING_STAT_SYNCED : Field := ⟨0xD0004, 2, 1⟩
def RING_STAT_DATA_W : Field := ⟨0xD0004, 1, 1⟩
def RING_STAT_DATA_E : Field := ⟨0xD0004, 0, 1⟩
def RING_SYNC_GO : Field := ⟨0xD0008, 31, 1⟩
def RING_SYNC_PEND : Field := ⟨0xD0008, 16, 1⟩
def RING_SYNC_COUNT : Field := ⟨0xD0008, 0, 16⟩
def RING_HOLD_HOLD_NS : Field := ⟨0xD000C, 0, 12⟩
def RING_XCAL_REQ_GO : Field := ⟨0xD0010, 31, 1⟩
def RING_XCAL_STAT_FAIL : Field := ⟨0xD0014, 28, 4⟩
def RING_XCAL_STAT_WAIT : Field := ⟨0xD0014, 1, 1⟩
def RING_XCAL_STAT_BUSY : Field := ⟨0xD0014, 0, 1⟩
def RING_XALIGN_TX_XALIGN : Field := ⟨0xD0018, 0, 12⟩
def RING_XALIGN_RX_XALIGN : Field := ⟨0xD001C, 0, 12⟩
def RING_XPCAL_TX_IM : Field := ⟨0xD0020, 16, 16⟩
def RING_XPCAL_TX_RE : Field := ⟨0xD0020, 0, 16⟩
def RING_XPCAL_RX_IM : Field := ⟨0xD0024, 16, 16⟩
def RING_XPCAL_RX_RE : Field := ⟨0xD0024, 0, 16⟩
def RING_LATE_CNT_COUNT : Field := ⟨0xD0030, 0, 32⟩
def RING_SAT_CNT_COUNT : Field := ⟨0xD0034, 0, 32⟩
def RING_TOPO_CNT_COUNT : Field := ⟨0xD0038, 0, 32⟩
def RING_TXGAP_CNT_COUNT : Field := ⟨0xD003C, 0, 32⟩
def RING_EVT_PORT_EVENT : Field := ⟨0xD0040, 16, 10⟩
def RING_EVT_EVENT : Field := ⟨0xD0040, 0, 12⟩
def RING_CNT_CLR_CLR : Field := ⟨0xD0044, 0, 1⟩
def RING_P_STAT_STATE (i : Nat) : Field := ⟨0xD0100 + 0x40 * (i % 2), 28, 4⟩
def RING_P_STAT_WIDTH (i : Nat) : Field := ⟨0xD0100 + 0x40 * (i % 2), 24, 4⟩
def RING_P_STAT_PAR (i : Nat) : Field := ⟨0xD0100 + 0x40 * (i % 2), 23, 1⟩
def RING_P_STAT_NARROW (i : Nat) : Field := ⟨0xD0100 + 0x40 * (i % 2), 22, 1⟩
def RING_P_STAT_REPAIR (i : Nat) : Field := ⟨0xD0100 + 0x40 * (i % 2), 9, 9⟩
def RING_P_STAT_OFF (i : Nat) : Field := ⟨0xD0100 + 0x40 * (i % 2), 0, 9⟩
def RING_P_TXSTAT_FAR_REP (i : Nat) : Field := ⟨0xD0104 + 0x40 * (i % 2), 9, 9⟩
def RING_P_TXSTAT_TXOFF (i : Nat) : Field := ⟨0xD0104 + 0x40 * (i % 2), 0, 9⟩
def RING_P_POL_INV (i : Nat) : Field := ⟨0xD0108 + 0x40 * (i % 2), 0, 9⟩
def RING_P_TXCFG_SWING (i : Nat) : Field := ⟨0xD010C + 0x40 * (i % 2), 8, 4⟩
def RING_P_TXCFG_PRE (i : Nat) : Field := ⟨0xD010C + 0x40 * (i % 2), 4, 2⟩
def RING_P_TXCFG_POST (i : Nat) : Field := ⟨0xD010C + 0x40 * (i % 2), 0, 4⟩
def RING_P_UNCORR_COUNT (i : Nat) : Field := ⟨0xD0110 + 0x40 * (i % 2), 0, 32⟩
def RING_P_PARMIS_COUNT (i : Nat) : Field := ⟨0xD0114 + 0x40 * (i % 2), 0, 32⟩
def RING_P_REPCOL_COUNT (i : Nat) : Field := ⟨0xD0118 + 0x40 * (i % 2), 0, 32⟩
def RING_P_TRAIN_ATTEMPTS (i : Nat) : Field := ⟨0xD011C + 0x40 * (i % 2), 16, 16⟩
def RING_P_TRAIN_LAST_MS (i : Nat) : Field := ⟨0xD011C + 0x40 * (i % 2), 0, 16⟩
def RING_PL_STAT_STATE (i j : Nat) : Field := ⟨0xD1000 + 0x200 * (i % 2) + 0x20 * (j % 9), 28, 4⟩
def RING_PL_STAT_CAUSE (i j : Nat) : Field := ⟨0xD1000 + 0x200 * (i % 2) + 0x20 * (j % 9), 24, 4⟩
def RING_PL_STAT_REPAIRS (i j : Nat) : Field := ⟨0xD1000 + 0x200 * (i % 2) + 0x20 * (j % 9), 16, 8⟩
def RING_PL_STAT_SKEW_UI (i j : Nat) : Field := ⟨0xD1000 + 0x200 * (i % 2) + 0x20 * (j % 9), 8, 8⟩
def RING_PL_EQ_CTLE (i j : Nat) : Field := ⟨0xD1004 + 0x200 * (i % 2) + 0x20 * (j % 9), 25, 4⟩
def RING_PL_EQ_TAPS (i j : Nat) : Field := ⟨0xD1004 + 0x200 * (i % 2) + 0x20 * (j % 9), 0, 25⟩
def RING_PL_CV_COUNT (i j : Nat) : Field := ⟨0xD1008 + 0x200 * (i % 2) + 0x20 * (j % 9), 0, 32⟩
def RING_PL_EYE_VALID (i j : Nat) : Field := ⟨0xD100C + 0x200 * (i % 2) + 0x20 * (j % 9), 31, 1⟩
def RING_PL_EYE_NEW (i j : Nat) : Field := ⟨0xD100C + 0x200 * (i % 2) + 0x20 * (j % 9), 30, 1⟩
def RING_PL_EYE_SEQ (i j : Nat) : Field := ⟨0xD100C + 0x200 * (i % 2) + 0x20 * (j % 9), 26, 4⟩
def RING_PL_EYE_HEIGHT (i j : Nat) : Field := ⟨0xD100C + 0x200 * (i % 2) + 0x20 * (j % 9), 8, 8⟩
def RING_PL_EYE_WIDTH (i j : Nat) : Field := ⟨0xD100C + 0x200 * (i % 2) + 0x20 * (j % 9), 0, 8⟩
def TIDE_CTL_ACK : Field := ⟨0xE0000, 31, 1⟩
def TIDE_CTL_LOG_INT : Field := ⟨0xE0000, 4, 4⟩
def TIDE_CTL_PREF : Field := ⟨0xE0000, 0, 1⟩
def TIDE_LIM_LOCK_NS : Field := ⟨0xE0004, 28, 4⟩
def TIDE_LIM_JUMP_NS : Field := ⟨0xE0004, 16, 10⟩
def TIDE_LIM_GATE_NS : Field := ⟨0xE0004, 10, 6⟩
def TIDE_LIM_SLEW_NS : Field := ⟨0xE0004, 0, 9⟩
def TIDE_STAT_STATE : Field := ⟨0xE0008, 29, 3⟩
def TIDE_STAT_SRC : Field := ⟨0xE0008, 27, 2⟩
def TIDE_STAT_SRC_OK : Field := ⟨0xE0008, 26, 1⟩
def TIDE_STAT_ASYM_SUSPECT : Field := ⟨0xE0008, 25, 1⟩
def TIDE_STAT_JUMP : Field := ⟨0xE0008, 24, 1⟩
def TIDE_STAT_SLEWING : Field := ⟨0xE0008, 23, 1⟩
def TIDE_STAT_FIRST_LOCK : Field := ⟨0xE0008, 22, 1⟩
def TIDE_OFFSET_VALUE : Field := ⟨0xE000C, 0, 32⟩
def TIDE_DELAY_VALUE : Field := ⟨0xE0010, 0, 32⟩
def TIDE_PEND_VALUE : Field := ⟨0xE0014, 0, 32⟩
def TIDE_FTRIM_TRIM : Field := ⟨0xE0018, 0, 32⟩
def TIDE_L_ASYM_PS (i : Nat) : Field := ⟨0xE0020 + 0x4 * (i % 4), 0, 32⟩
def TIDE_NOW_NS_TIME : Field := ⟨0xE0030, 0, 32⟩
def TIDE_NOW_FRAC_TIME : Field := ⟨0xE0034, 0, 16⟩
def TIDE_NOW_SEC_LO_TIME : Field := ⟨0xE0038, 0, 32⟩
def TIDE_NOW_SEC_HI_TIME : Field := ⟨0xE003C, 0, 16⟩
def TIDE_EVT_EVENT : Field := ⟨0xE0040, 0, 8⟩
def TIDE_CNT_CLR_CLR : Field := ⟨0xE0044, 0, 1⟩
def TIDE_ACC_CNT_COUNT : Field := ⟨0xE0048, 0, 32⟩
def TIDE_LOST_CNT_COUNT : Field := ⟨0xE004C, 0, 32⟩
def TIDE_GATED_CNT_COUNT : Field := ⟨0xE0050, 0, 32⟩
def TIDE_TO_AT_LO_STAMP : Field := ⟨0xE0100, 0, 32⟩
def TIDE_TO_AT_HI_STAMP : Field := ⟨0xE0104, 0, 32⟩
def TIDE_TO_CMD_GO : Field := ⟨0xE0108, 31, 1⟩
def TIDE_TO_CMD_OP : Field := ⟨0xE0108, 29, 2⟩
def TIDE_TO_CMD_LEVEL : Field := ⟨0xE0108, 8, 1⟩
def TIDE_TO_CMD_PIN : Field := ⟨0xE0108, 0, 5⟩
def TIDE_TO_STAT_RESULT : Field := ⟨0xE010C, 28, 4⟩
def TIDE_TO_STAT_DEPTH : Field := ⟨0xE010C, 0, 5⟩
def TIDE_TO_REF_CNT_COUNT : Field := ⟨0xE0110, 0, 32⟩
def TIDE_TP_CTL_ACTIVE (i : Nat) : Field := ⟨0xE0200 + 0x20 * (i % 4), 8, 1⟩
def TIDE_TP_CTL_POL (i : Nat) : Field := ⟨0xE0200 + 0x20 * (i % 4), 2, 1⟩
def TIDE_TP_CTL_MODE (i : Nat) : Field := ⟨0xE0200 + 0x20 * (i % 4), 0, 2⟩
def TIDE_TP_START_LO_STAMP (i : Nat) : Field := ⟨0xE0204 + 0x20 * (i % 4), 0, 32⟩
def TIDE_TP_START_HI_STAMP (i : Nat) : Field := ⟨0xE0208 + 0x20 * (i % 4), 0, 32⟩
def TIDE_TP_PERIOD_LO_PERIOD (i : Nat) : Field := ⟨0xE020C + 0x20 * (i % 4), 0, 32⟩
def TIDE_TP_PERIOD_HI_PERIOD (i : Nat) : Field := ⟨0xE0210 + 0x20 * (i % 4), 0, 16⟩
def TIDE_TP_WIDTH_WIDTH_NS (i : Nat) : Field := ⟨0xE0214 + 0x20 * (i % 4), 0, 32⟩
def LOOK_CTL_WIN_US : Field := ⟨0xF0000, 16, 12⟩
def LOOK_CTL_CAPTURE_DB : Field := ⟨0xF0000, 8, 4⟩
def LOOK_CTL_ACT_BUSY : Field := ⟨0xF0000, 1, 1⟩
def LOOK_CTL_EN : Field := ⟨0xF0000, 0, 1⟩
def LOOK_THR_ED_THR : Field := ⟨0xF0004, 24, 8⟩
def LOOK_THR_PD_THR : Field := ⟨0xF0004, 16, 8⟩
def LOOK_THR_STF_THR : Field := ⟨0xF0004, 8, 8⟩
def LOOK_THR_LTF_THR : Field := ⟨0xF0004, 0, 8⟩
def LOOK_SB_FREQ (i : Nat) : Field := ⟨0xF0010 + 0x4 * (i % 4), 0, 16⟩
def LOOK_SCH_EN (i : Nat) : Field := ⟨0xF0040 + 0x4 * (i % 20), 31, 1⟩
def LOOK_SCH_FREQ (i : Nat) : Field := ⟨0xF0040 + 0x4 * (i % 20), 0, 16⟩
def LOOK_STAT_SCH_BAD : Field := ⟨0xF00A0, 12, 20⟩
def LOOK_STAT_NOINPUT : Field := ⟨0xF00A0, 1, 1⟩
def LOOK_STAT_RUNNING : Field := ⟨0xF00A0, 0, 1⟩
def LOOK_BEAM_STAT_OFF : Field := ⟨0xF00A4, 0, 16⟩
def LOOK_CNT_COUNT (i : Nat) : Field := ⟨0xF00C0 + 0x4 * (i % 6), 0, 32⟩
def LOOK_LAST0_VALID : Field := ⟨0xF00E0, 31, 1⟩
def LOOK_LAST0_NEW : Field := ⟨0xF00E0, 30, 1⟩
def LOOK_LAST0_SEQ : Field := ⟨0xF00E0, 26, 4⟩
def LOOK_LAST0_SCH : Field := ⟨0xF00E0, 21, 5⟩
def LOOK_LAST0_BEAM : Field := ⟨0xF00E0, 17, 4⟩
def LOOK_LAST0_RSSI : Field := ⟨0xF00E0, 0, 16⟩
def LOOK_LAST1_DUR_US : Field := ⟨0xF00E4, 16, 16⟩
def LOOK_LAST1_RATE : Field := ⟨0xF00E4, 12, 4⟩
def LOOK_LAST1_LENGTH : Field := ⟨0xF00E4, 0, 12⟩
def LOOK_LAST_AT_LO_STAMP : Field := ⟨0xF00E8, 0, 32⟩
def LOOK_LAST_AT_HI_STAMP : Field := ⟨0xF00EC, 0, 32⟩
def LOOK_EVT_EVENT : Field := ⟨0xF00F0, 0, 2⟩
def LOOK_CNT_CLR_CLR : Field := ⟨0xF00F4, 0, 1⟩
def LOOK_BUSY_WIN (i : Nat) : Field := ⟨0xF0100 + 0x4 * (i % 20), 16, 16⟩
def LOOK_BUSY_NOW (i : Nat) : Field := ⟨0xF0100 + 0x4 * (i % 20), 0, 16⟩
def LOOK_BEAMV_IM (i j : Nat) : Field := ⟨0xF4000 + 0x100 * (i % 16) + 0x4 * (j % 64), 16, 16⟩
def LOOK_BEAMV_RE (i j : Nat) : Field := ⟨0xF4000 + 0x100 * (i % 16) + 0x4 * (j % 64), 0, 16⟩
def FEND_PA_CTL_AUTO_ON : Field := ⟨0x100000, 31, 1⟩
def FEND_PA_CTL_DRN_WAIT_US : Field := ⟨0x100000, 16, 10⟩
def FEND_PA_CTL_BIAS_SLEW : Field := ⟨0x100000, 0, 10⟩
def FEND_PA_CMD_GO : Field := ⟨0x100004, 31, 1⟩
def FEND_PA_CMD_OP : Field := ⟨0x100004, 16, 2⟩
def FEND_PA_CMD_QUADS : Field := ⟨0x100004, 0, 8⟩
def FEND_PA_STAT_RESUME : Field := ⟨0x100008, 16, 8⟩
def FEND_PA_STAT_STATE : Field := ⟨0x100008, 0, 16⟩
def FEND_DGATE_QUADS : Field := ⟨0x10000C, 0, 8⟩
def FEND_FE_CTL_TXGATE : Field := ⟨0x100010, 0, 1⟩
def FEND_FAULT_VNEG : Field := ⟨0x100014, 4, 1⟩
def FEND_FAULT_THERMAL : Field := ⟨0x100014, 3, 1⟩
def FEND_FAULT_DEBUG : Field := ⟨0x100014, 2, 1⟩
def FEND_FAULT_SYN : Field := ⟨0x100014, 1, 1⟩
def FEND_FAULT_CPLL : Field := ⟨0x100014, 0, 1⟩
def FEND_IGN_CNT_COUNT : Field := ⟨0x100018, 0, 32⟩
def FEND_RNG_REJ_COUNT : Field := ⟨0x10001C, 0, 32⟩
def FEND_EVT_COEX_LEAD_SHORT : Field := ⟨0x100040, 16, 1⟩
def FEND_EVT_EVENT : Field := ⟨0x100040, 0, 10⟩
def FEND_CNT_CLR_CLR : Field := ⟨0x100044, 0, 1⟩
def FEND_P_BIAS_RANGE (i : Nat) : Field := ⟨0x100100 + 0x4 * (i % 64), 31, 1⟩
def FEND_P_BIAS_OUT (i : Nat) : Field := ⟨0x100100 + 0x4 * (i % 64), 16, 12⟩
def FEND_P_BIAS_TARGET (i : Nat) : Field := ⟨0x100100 + 0x4 * (i % 64), 0, 12⟩
def FEND_P_SAFE_RANGE (i : Nat) : Field := ⟨0x100200 + 0x4 * (i % 64), 31, 1⟩
def FEND_P_SAFE_CODE (i : Nat) : Field := ⟨0x100200 + 0x4 * (i % 64), 0, 12⟩
def FEND_AUX_RANGE (i : Nat) : Field := ⟨0x100300 + 0x4 * (i % 8), 31, 1⟩
def FEND_AUX_OUT (i : Nat) : Field := ⟨0x100300 + 0x4 * (i % 8), 16, 12⟩
def FEND_AUX_TARGET (i : Nat) : Field := ⟨0x100300 + 0x4 * (i % 8), 0, 12⟩
def FEND_AUX_SAFE_RANGE (i : Nat) : Field := ⟨0x100320 + 0x4 * (i % 8), 31, 1⟩
def FEND_AUX_SAFE_CODE (i : Nat) : Field := ⟨0x100320 + 0x4 * (i % 8), 0, 12⟩
def FEND_RF_CTL_SPEED (i : Nat) : Field := ⟨0x100400 + 0x40 * (i % 8), 0, 2⟩
def FEND_RF_CMD_GO (i : Nat) : Field := ⟨0x100404 + 0x40 * (i % 8), 31, 1⟩
def FEND_RF_CMD_ARM (i : Nat) : Field := ⟨0x100404 + 0x40 * (i % 8), 30, 1⟩
def FEND_RF_CMD_CMD (i : Nat) : Field := ⟨0x100404 + 0x40 * (i % 8), 24, 3⟩
def FEND_RF_CMD_USID (i : Nat) : Field := ⟨0x100404 + 0x40 * (i % 8), 20, 4⟩
def FEND_RF_CMD_BC (i : Nat) : Field := ⟨0x100404 + 0x40 * (i % 8), 16, 4⟩
def FEND_RF_CMD_ADDR (i : Nat) : Field := ⟨0x100404 + 0x40 * (i % 8), 0, 8⟩
def FEND_RF_AT_LO_AT (i : Nat) : Field := ⟨0x100408 + 0x40 * (i % 8), 0, 32⟩
def FEND_RF_AT_HI_AT (i : Nat) : Field := ⟨0x10040C + 0x40 * (i % 8), 0, 32⟩
def FEND_RF_WDATA_DATA (i j : Nat) : Field := ⟨0x100410 + 0x40 * (i % 8) + 0x4 * (j % 4), 0, 32⟩
def FEND_RF_STAT_BUSY (i : Nat) : Field := ⟨0x100420 + 0x40 * (i % 8), 31, 1⟩
def FEND_RF_STAT_DEPTH (i : Nat) : Field := ⟨0x100420 + 0x40 * (i % 8), 16, 5⟩
def FEND_RF_STAT_RESULT (i : Nat) : Field := ⟨0x100420 + 0x40 * (i % 8), 4, 4⟩
def FEND_RF_RDATA_DATA (i j : Nat) : Field := ⟨0x100424 + 0x40 * (i % 8) + 0x4 * (j % 4), 0, 32⟩
def FEND_RF_RSTAT_VALID (i : Nat) : Field := ⟨0x100434 + 0x40 * (i % 8), 31, 1⟩
def FEND_RF_RSTAT_NEW (i : Nat) : Field := ⟨0x100434 + 0x40 * (i % 8), 30, 1⟩
def FEND_RF_RSTAT_SEQ (i : Nat) : Field := ⟨0x100434 + 0x40 * (i % 8), 26, 4⟩
def FEND_RF_RSTAT_PERR (i : Nat) : Field := ⟨0x100434 + 0x40 * (i % 8), 25, 1⟩
def FEND_RF_RSTAT_BC (i : Nat) : Field := ⟨0x100434 + 0x40 * (i % 8), 16, 4⟩
def FEND_TUNE_EN (i : Nat) : Field := ⟨0x100800 + 0x8 * (i % 32), 31, 1⟩
def FEND_TUNE_MASTER (i : Nat) : Field := ⟨0x100800 + 0x8 * (i % 32), 24, 3⟩
def FEND_TUNE_USID (i : Nat) : Field := ⟨0x100800 + 0x8 * (i % 32), 16, 4⟩
def FEND_TUNE_ADDR (i : Nat) : Field := ⟨0x100800 + 0x8 * (i % 32), 0, 8⟩
def FEND_TUNE_LIM_MIN (i : Nat) : Field := ⟨0x100804 + 0x8 * (i % 32), 8, 8⟩
def FEND_TUNE_LIM_MAX (i : Nat) : Field := ⟨0x100804 + 0x8 * (i % 32), 0, 8⟩
def FEND_MM_CTL_ACT : Field := ⟨0x100A00, 31, 1⟩
def FEND_MM_CTL_RL_MIN : Field := ⟨0x100A00, 16, 8⟩
def FEND_MM_CTL_PF_MIN : Field := ⟨0x100A00, 8, 8⟩
def FEND_MM_CTL_DWELL : Field := ⟨0x100A00, 0, 4⟩
def FEND_DET_CAL_SLOPE : Field := ⟨0x100A04, 20, 12⟩
def FEND_DET_CAL_ICPT : Field := ⟨0x100A04, 8, 12⟩
def FEND_DET_CAL_CPL_DB : Field := ⟨0x100A04, 0, 8⟩
def FEND_MM_CNT_COUNT : Field := ⟨0x100A08, 0, 32⟩
def FEND_P_MM_VALID (i : Nat) : Field := ⟨0x100B00 + 0x4 * (i % 64), 31, 1⟩
def FEND_P_MM_NEW (i : Nat) : Field := ⟨0x100B00 + 0x4 * (i % 64), 30, 1⟩
def FEND_P_MM_SEQ (i : Nat) : Field := ⟨0x100B00 + 0x4 * (i % 64), 26, 4⟩
def FEND_P_MM_MM (i : Nat) : Field := ⟨0x100B00 + 0x4 * (i % 64), 25, 1⟩
def FEND_P_MM_PF (i : Nat) : Field := ⟨0x100B00 + 0x4 * (i % 64), 12, 12⟩
def FEND_P_MM_RL (i : Nat) : Field := ⟨0x100B00 + 0x4 * (i % 64), 0, 12⟩
def FEND_COEX_CTL_MODE : Field := ⟨0x100F00, 31, 1⟩
def FEND_COEX_CTL_PRI : Field := ⟨0x100F00, 30, 1⟩
def FEND_COEX_CTL_LEAD : Field := ⟨0x100F00, 16, 12⟩
def FEND_COEX_CTL_TAIL : Field := ⟨0x100F00, 0, 12⟩
def FEND_COEX_STAT_REQ : Field := ⟨0x100F04, 3, 1⟩
def FEND_COEX_STAT_PRI : Field := ⟨0x100F04, 2, 1⟩
def FEND_COEX_STAT_GNT : Field := ⟨0x100F04, 1, 1⟩
def FEND_COEX_STAT_ACT : Field := ⟨0x100F04, 0, 1⟩
def FEND_ACT_CTL_HOLD_NS : Field := ⟨0x100F08, 0, 10⟩
def FEND_ACT_RISE_LO_STAMP : Field := ⟨0x100F0C, 0, 32⟩
def FEND_ACT_RISE_HI_STAMP : Field := ⟨0x100F10, 0, 32⟩
def FEND_ACT_FALL_LO_STAMP : Field := ⟨0x100F14, 0, 32⟩
def FEND_ACT_FALL_HI_STAMP : Field := ⟨0x100F18, 0, 32⟩
def FEND_COEX_SHORT_COUNT : Field := ⟨0x100F1C, 0, 32⟩
def FEND_ACT_CNT_COUNT : Field := ⟨0x100F20, 0, 32⟩
def BWTR_STAT_RECORD : Field := ⟨0x110000, 30, 2⟩
def BWTR_STAT_SHARED : Field := ⟨0x110000, 21, 1⟩
def BWTR_STAT_BAND_OK : Field := ⟨0x110000, 20, 1⟩
def BWTR_STAT_BAND : Field := ⟨0x110000, 16, 4⟩
def BWTR_REC_VER_VERSION : Field := ⟨0x110004, 0, 32⟩
def BWTR_USER_LIM_PORT : Field := ⟨0x110008, 0, 16⟩
def BWTR_CLEAR_OK : Field := ⟨0x110010, 31, 1⟩
def BWTR_CLEAR_SECTORS : Field := ⟨0x110010, 0, 16⟩
def BWTR_CLEAR_AT_LO_STAMP : Field := ⟨0x110014, 0, 32⟩
def BWTR_CLEAR_AT_HI_STAMP : Field := ⟨0x110018, 0, 32⟩
def BWTR_XCHK_CLR0_PATHS : Field := ⟨0x110020, 0, 32⟩
def BWTR_XCHK_CLR1_PATHS : Field := ⟨0x110024, 0, 32⟩
def BWTR_CNT_COUNT (i : Nat) : Field := ⟨0x110040 + 0x4 * (i % 10), 0, 32⟩
def BWTR_EVT_EVENT : Field := ⟨0x110080, 0, 8⟩
def BWTR_CNT_CLR_CLR : Field := ⟨0x110084, 0, 1⟩
def BWTR_P_PWR_P_1MS (i : Nat) : Field := ⟨0x110100 + 0x8 * (i % 64), 0, 16⟩
def BWTR_P_EXC_E (i : Nat) : Field := ⟨0x110104 + 0x8 * (i % 64), 0, 16⟩
def MON_CTL_MODE (i : Nat) : Field := ⟨0x120000 + 0x400 * (i % 4), 30, 2⟩
def MON_CTL_GO (i : Nat) : Field := ⟨0x120000 + 0x400 * (i % 4), 29, 1⟩
def MON_CTL_ALIGN (i : Nat) : Field := ⟨0x120000 + 0x400 * (i % 4), 28, 1⟩
def MON_CTL_LEN (i : Nat) : Field := ⟨0x120000 + 0x400 * (i % 4), 16, 5⟩
def MON_CTL_PERIOD_US (i : Nat) : Field := ⟨0x120000 + 0x400 * (i % 4), 0, 16⟩
def MON_STAT_CAL_BUSY (i : Nat) : Field := ⟨0x120004 + 0x400 * (i % 4), 31, 1⟩
def MON_STAT_CAL_PEND (i : Nat) : Field := ⟨0x120004 + 0x400 * (i % 4), 30, 1⟩
def MON_STAT_INJ_BUSY (i : Nat) : Field := ⟨0x120004 + 0x400 * (i % 4), 29, 1⟩
def MON_STAT_INJ_PEND (i : Nat) : Field := ⟨0x120004 + 0x400 * (i % 4), 28, 1⟩
def MON_STAT_ARMED (i : Nat) : Field := ⟨0x120004 + 0x400 * (i % 4), 27, 1⟩
def MON_STAT_ENTRY (i : Nat) : Field := ⟨0x120004 + 0x400 * (i % 4), 16, 5⟩
def MON_STAT_PASSES (i : Nat) : Field := ⟨0x120004 + 0x400 * (i % 4), 0, 16⟩
def MON_CAL_CTL_GO (i : Nat) : Field := ⟨0x120008 + 0x400 * (i % 4), 0, 1⟩
def MON_CAL_RES_OFS (i : Nat) : Field := ⟨0x12000C + 0x400 * (i % 4), 16, 16⟩
def MON_CAL_RES_GAIN (i : Nat) : Field := ⟨0x12000C + 0x400 * (i % 4), 0, 16⟩
def MON_INJ_CTL_GO (i : Nat) : Field := ⟨0x120010 + 0x400 * (i % 4), 31, 1⟩
def MON_INJ_CTL_TRIG (i : Nat) : Field := ⟨0x120010 + 0x400 * (i % 4), 29, 2⟩
def MON_INJ_CTL_LEN (i : Nat) : Field := ⟨0x120010 + 0x400 * (i % 4), 0, 2⟩
def MON_INJ_AT_LO_STAMP (i : Nat) : Field := ⟨0x120014 + 0x400 * (i % 4), 0, 32⟩
def MON_INJ_AT_HI_STAMP (i : Nat) : Field := ⟨0x120018 + 0x400 * (i % 4), 0, 32⟩
def MON_INJ_PERIOD_PERIOD_US (i : Nat) : Field := ⟨0x12001C + 0x400 * (i % 4), 0, 20⟩
def MON_RD_AT_LO_STAMP (i : Nat) : Field := ⟨0x120020 + 0x400 * (i % 4), 0, 32⟩
def MON_RD_AT_HI_STAMP (i : Nat) : Field := ⟨0x120024 + 0x400 * (i % 4), 0, 32⟩
def MON_INJ_DROP_COUNT (i : Nat) : Field := ⟨0x120028 + 0x400 * (i % 4), 0, 32⟩
def MON_OVR_CNT_COUNT (i : Nat) : Field := ⟨0x12002C + 0x400 * (i % 4), 0, 32⟩
def MON_SEQ_DIFF (i j : Nat) : Field := ⟨0x120100 + 0x400 * (i % 4) + 0x4 * (j % 32), 15, 1⟩
def MON_SEQ_AVG (i j : Nat) : Field := ⟨0x120100 + 0x400 * (i % 4) + 0x4 * (j % 32), 12, 3⟩
def MON_SEQ_INPUT (i j : Nat) : Field := ⟨0x120100 + 0x400 * (i % 4) + 0x4 * (j % 32), 0, 6⟩
def MON_INJ_DIFF (i j : Nat) : Field := ⟨0x120180 + 0x400 * (i % 4) + 0x4 * (j % 4), 15, 1⟩
def MON_INJ_AVG (i j : Nat) : Field := ⟨0x120180 + 0x400 * (i % 4) + 0x4 * (j % 4), 12, 3⟩
def MON_INJ_INPUT (i j : Nat) : Field := ⟨0x120180 + 0x400 * (i % 4) + 0x4 * (j % 4), 0, 6⟩
def MON_RES_WORD (i j : Nat) : Field := ⟨0x120200 + 0x400 * (i % 4) + 0x4 * (j % 32), 0, 32⟩
def MON_INJRES_WORD (i j : Nat) : Field := ⟨0x120280 + 0x400 * (i % 4) + 0x4 * (j % 4), 0, 32⟩
def MON_EVT_EVENT : Field := ⟨0x121000, 0, 5⟩
def MON_CNT_CLR_CLR : Field := ⟨0x121004, 0, 1⟩
def GAUGE_CTL_GTRIG_POL : Field := ⟨0x130000, 0, 1⟩
def GAUGE_LOOK_BEAMS_BEAMS : Field := ⟨0x130004, 0, 16⟩
def GAUGE_LOOK_SCH_SCH : Field := ⟨0x130008, 0, 20⟩
def GAUGE_STAT_SUSP : Field := ⟨0x13000C, 31, 1⟩
def GAUGE_STAT_REPLAY : Field := ⟨0x13000C, 16, 4⟩
def GAUGE_STAT_ACTIVE : Field := ⟨0x13000C, 0, 16⟩
def GAUGE_EVT_EVENT : Field := ⟨0x130040, 0, 8⟩
def GAUGE_CNT_CLR_CLR : Field := ⟨0x130044, 0, 1⟩
def GAUGE_MAPSEL_PAGE : Field := ⟨0x130050, 2, 2⟩
def GAUGE_MAPSEL_DEEP : Field := ⟨0x130050, 0, 2⟩
def GAUGE_C_CTL_TRIG_EN (i : Nat) : Field := ⟨0x130100 + 0x40 * (i % 16), 24, 7⟩
def GAUGE_C_CTL_LOG_CNT (i : Nat) : Field := ⟨0x130100 + 0x40 * (i % 16), 16, 3⟩
def GAUGE_C_CTL_FIRST (i : Nat) : Field := ⟨0x130100 + 0x40 * (i % 16), 8, 6⟩
def GAUGE_C_CTL_POINT (i : Nat) : Field := ⟨0x130100 + 0x40 * (i % 16), 6, 2⟩
def GAUGE_C_CTL_WRAP (i : Nat) : Field := ⟨0x130100 + 0x40 * (i % 16), 3, 1⟩
def GAUGE_C_CTL_MODE (i : Nat) : Field := ⟨0x130100 + 0x40 * (i % 16), 0, 2⟩
def GAUGE_C_PRE_SETS (i : Nat) : Field := ⟨0x130104 + 0x40 * (i % 16), 0, 28⟩
def GAUGE_C_POST_SETS (i : Nat) : Field := ⟨0x130108 + 0x40 * (i % 16), 0, 28⟩
def GAUGE_C_BASE_GRANULE (i : Nat) : Field := ⟨0x13010C + 0x40 * (i % 16), 0, 27⟩
def GAUGE_C_SLOTS_SLOTS (i : Nat) : Field := ⟨0x130110 + 0x40 * (i % 16), 0, 4⟩
def GAUGE_C_LEVEL_LEVEL (i : Nat) : Field := ⟨0x130114 + 0x40 * (i % 16), 0, 16⟩
def GAUGE_C_TCMP_LO_STAMP (i : Nat) : Field := ⟨0x130118 + 0x40 * (i % 16), 0, 32⟩
def GAUGE_C_TCMP_HI_STAMP (i : Nat) : Field := ⟨0x13011C + 0x40 * (i % 16), 0, 32⟩
def GAUGE_C_CMD_GO (i : Nat) : Field := ⟨0x130120 + 0x40 * (i % 16), 31, 1⟩
def GAUGE_C_CMD_OP (i : Nat) : Field := ⟨0x130120 + 0x40 * (i % 16), 0, 2⟩
def GAUGE_C_STAT_STATE (i : Nat) : Field := ⟨0x130124 + 0x40 * (i % 16), 29, 3⟩
def GAUGE_C_STAT_RESULT (i : Nat) : Field := ⟨0x130124 + 0x40 * (i % 16), 24, 4⟩
def GAUGE_C_STAT_RECS (i : Nat) : Field := ⟨0x130124 + 0x40 * (i % 16), 16, 4⟩
def GAUGE_C_STAT_SLOT (i : Nat) : Field := ⟨0x130124 + 0x40 * (i % 16), 0, 4⟩
def GAUGE_C_RES_VALID (i : Nat) : Field := ⟨0x130128 + 0x40 * (i % 16), 31, 1⟩
def GAUGE_C_RES_NEW (i : Nat) : Field := ⟨0x130128 + 0x40 * (i % 16), 30, 1⟩
def GAUGE_C_RES_SEQ (i : Nat) : Field := ⟨0x130128 + 0x40 * (i % 16), 26, 4⟩
def GAUGE_C_RES_SLOT (i : Nat) : Field := ⟨0x130128 + 0x40 * (i % 16), 0, 4⟩
def GAUGE_C_TCNT_IGN (i : Nat) : Field := ⟨0x13012C + 0x40 * (i % 16), 16, 16⟩
def GAUGE_C_TCNT_RETRIG (i : Nat) : Field := ⟨0x13012C + 0x40 * (i % 16), 8, 8⟩
def GAUGE_C_TCNT_LATE (i : Nat) : Field := ⟨0x13012C + 0x40 * (i % 16), 0, 8⟩
def GAUGE_C_GAPS_INSTANTS (i : Nat) : Field := ⟨0x130130 + 0x40 * (i % 16), 0, 32⟩
def GAUGE_DEEP_CTL_HIST_EN (i : Nat) : Field := ⟨0x130600 + 0x10 * (i % 4), 31, 1⟩
def GAUGE_DEEP_CTL_MAP_EN (i : Nat) : Field := ⟨0x130600 + 0x10 * (i % 4), 30, 1⟩
def GAUGE_DEEP_CTL_HCLR (i : Nat) : Field := ⟨0x130600 + 0x10 * (i % 4), 29, 1⟩
def GAUGE_DEEP_CTL_MCLR (i : Nat) : Field := ⟨0x130600 + 0x10 * (i % 4), 28, 1⟩
def GAUGE_DEEP_CTL_DSHIFT (i : Nat) : Field := ⟨0x130600 + 0x10 * (i % 4), 8, 4⟩
def GAUGE_DEEP_CTL_DECAY_N (i : Nat) : Field := ⟨0x130600 + 0x10 * (i % 4), 0, 8⟩
def GAUGE_DEEP_SPEC_COUNT (i : Nat) : Field := ⟨0x130604 + 0x10 * (i % 4), 0, 32⟩
def GAUGE_DEEP_SKIP_COUNT (i : Nat) : Field := ⟨0x130608 + 0x10 * (i % 4), 0, 32⟩
def GAUGE_RP_CTL_GO (i : Nat) : Field := ⟨0x130700 + 0x40 * (i % 4), 31, 1⟩
def GAUGE_RP_CTL_STOP (i : Nat) : Field := ⟨0x130700 + 0x40 * (i % 4), 30, 1⟩
def GAUGE_RP_CTL_LOOPS (i : Nat) : Field := ⟨0x130700 + 0x40 * (i % 4), 16, 8⟩
def GAUGE_RP_CTL_FIRST (i : Nat) : Field := ⟨0x130700 + 0x40 * (i % 4), 8, 6⟩
def GAUGE_RP_CTL_LOG_CNT (i : Nat) : Field := ⟨0x130700 + 0x40 * (i % 4), 0, 3⟩
def GAUGE_RP_BASE_GRANULE (i : Nat) : Field := ⟨0x130704 + 0x40 * (i % 4), 0, 27⟩
def GAUGE_RP_LEN_SETS (i : Nat) : Field := ⟨0x130708 + 0x40 * (i % 4), 0, 27⟩
def GAUGE_RP_AT_LO_STAMP (i : Nat) : Field := ⟨0x13070C + 0x40 * (i % 4), 0, 32⟩
def GAUGE_RP_AT_HI_STAMP (i : Nat) : Field := ⟨0x130710 + 0x40 * (i % 4), 0, 32⟩
def GAUGE_RP_STAT_STATE (i : Nat) : Field := ⟨0x130714 + 0x40 * (i % 4), 29, 3⟩
def GAUGE_RP_STAT_RESULT (i : Nat) : Field := ⟨0x130714 + 0x40 * (i % 4), 24, 4⟩
def GAUGE_RP_STAT_DONE (i : Nat) : Field := ⟨0x130714 + 0x40 * (i % 4), 0, 16⟩
def GAUGE_RP_UNDER_COUNT (i : Nat) : Field := ⟨0x130718 + 0x40 * (i % 4), 0, 32⟩
def HOLDC_STAT_READY : Field := ⟨0x140000, 31, 1⟩
def HOLDC_STAT_PASSES : Field := ⟨0x140000, 0, 16⟩
def HOLDC_CE_CNT_COUNT : Field := ⟨0x140004, 0, 32⟩
def HOLDC_UE_CNT_COUNT : Field := ⟨0x140008, 0, 32⟩
def HOLDC_UNREP_COUNT : Field := ⟨0x14000C, 0, 32⟩
def HOLDC_UE_ADDR_LO_ADDR : Field := ⟨0x140010, 0, 32⟩
def HOLDC_UE_ADDR_HI_ADDR : Field := ⟨0x140014, 0, 8⟩
def HOLDC_SPARE_UNBURNT (i : Nat) : Field := ⟨0x140020 + 0x4 * (i % 8), 16, 8⟩
def HOLDC_SPARE_USED (i : Nat) : Field := ⟨0x140020 + 0x4 * (i % 8), 8, 8⟩
def HOLDC_SPARE_LEFT (i : Nat) : Field := ⟨0x140020 + 0x4 * (i % 8), 0, 8⟩
def HOLDC_EVT_EVENT : Field := ⟨0x140040, 0, 5⟩
def HOLDC_CNT_CLR_CLR : Field := ⟨0x140044, 0, 1⟩
def HOLDC_BW_GRANULES (i : Nat) : Field := ⟨0x140080 + 0x4 * (i % 5), 0, 32⟩
def CRANE_STAT_THR : Field := ⟨0x150000, 31, 1⟩
def CRANE_STAT_ACTIVE : Field := ⟨0x150000, 0, 16⟩
def CRANE_REM_CTL_REM_US : Field := ⟨0x150008, 0, 16⟩
def CRANE_EVT_EVENT : Field := ⟨0x150040, 0, 5⟩
def CRANE_CNT_CLR_CLR : Field := ⟨0x150044, 0, 1⟩
def CRANE_C_CTL_GO (i : Nat) : Field := ⟨0x150100 + 0x40 * (i % 16), 31, 1⟩
def CRANE_C_CTL_STOP (i : Nat) : Field := ⟨0x150100 + 0x40 * (i % 16), 30, 1⟩
def CRANE_C_CTL_PAUSE (i : Nat) : Field := ⟨0x150100 + 0x40 * (i % 16), 29, 1⟩
def CRANE_C_CTL_KICK (i : Nat) : Field := ⟨0x150100 + 0x40 * (i % 16), 28, 1⟩
def CRANE_C_CTL_URGENT (i : Nat) : Field := ⟨0x150100 + 0x40 * (i % 16), 27, 1⟩
def CRANE_C_CTL_LOG_SIZE (i : Nat) : Field := ⟨0x150100 + 0x40 * (i % 16), 0, 5⟩
def CRANE_C_BASE_LO_BASE (i : Nat) : Field := ⟨0x150104 + 0x40 * (i % 16), 0, 32⟩
def CRANE_C_BASE_HI_BASE (i : Nat) : Field := ⟨0x150108 + 0x40 * (i % 16), 0, 8⟩
def CRANE_C_HEAD_HEAD (i : Nat) : Field := ⟨0x15010C + 0x40 * (i % 16), 0, 16⟩
def CRANE_C_STAT_STATE (i : Nat) : Field := ⟨0x150110 + 0x40 * (i % 16), 29, 3⟩
def CRANE_C_STAT_THR (i : Nat) : Field := ⟨0x150110 + 0x40 * (i % 16), 28, 1⟩
def CRANE_C_STAT_KICK_PEND (i : Nat) : Field := ⟨0x150110 + 0x40 * (i % 16), 27, 1⟩
def CRANE_C_STAT_REFUSED (i : Nat) : Field := ⟨0x150110 + 0x40 * (i % 16), 26, 1⟩
def CRANE_C_STAT_DESC (i : Nat) : Field := ⟨0x150110 + 0x40 * (i % 16), 25, 1⟩
def CRANE_C_STAT_LEVEL (i : Nat) : Field := ⟨0x150110 + 0x40 * (i % 16), 22, 3⟩
def CRANE_C_STAT_STOPC (i : Nat) : Field := ⟨0x150110 + 0x40 * (i % 16), 19, 3⟩
def CRANE_C_STAT_LINKS (i : Nat) : Field := ⟨0x150110 + 0x40 * (i % 16), 15, 4⟩
def CRANE_C_CUR_SRC_LO_ADDR (i : Nat) : Field := ⟨0x150114 + 0x40 * (i % 16), 0, 32⟩
def CRANE_C_CUR_SRC_HI_ADDR (i : Nat) : Field := ⟨0x150118 + 0x40 * (i % 16), 0, 16⟩
def CRANE_C_CUR_DST_LO_ADDR (i : Nat) : Field := ⟨0x15011C + 0x40 * (i % 16), 0, 32⟩
def CRANE_C_CUR_DST_HI_ADDR (i : Nat) : Field := ⟨0x150120 + 0x40 * (i % 16), 0, 16⟩
def CRANE_C_REMAIN_BYTES (i : Nat) : Field := ⟨0x150124 + 0x40 * (i % 16), 0, 32⟩
def CRANE_C_DONE_COUNT (i : Nat) : Field := ⟨0x150128 + 0x40 * (i % 16), 0, 32⟩
def CRANE_C_BAD_COUNT (i : Nat) : Field := ⟨0x15012C + 0x40 * (i % 16), 0, 32⟩
def CRANE_C_LAST_BAD_CAUSE (i : Nat) : Field := ⟨0x150130 + 0x40 * (i % 16), 28, 4⟩
def CRANE_C_LAST_BAD_INDEX (i : Nat) : Field := ⟨0x150130 + 0x40 * (i % 16), 0, 16⟩
def THERM_CTL_DEMAND : Field := ⟨0x160000, 31, 1⟩
def THERM_CTL_GATE_US : Field := ⟨0x160000, 8, 8⟩
def THERM_CTL_PERIOD_MS : Field := ⟨0x160000, 0, 8⟩
def THERM_LADDER_ESC_MS : Field := ⟨0x160004, 16, 16⟩
def THERM_LADDER_DESC_MS : Field := ⟨0x160004, 0, 16⟩
def THERM_STAT_SHUT : Field := ⟨0x160008, 31, 1⟩
def THERM_STAT_THR : Field := ⟨0x160008, 30, 1⟩
def THERM_STAT_WARN : Field := ⟨0x160008, 29, 1⟩
def THERM_STAT_NVM_OK : Field := ⟨0x160008, 28, 1⟩
def THERM_STAT_LEVEL : Field := ⟨0x160008, 26, 2⟩
def THERM_STAT_L_TH : Field := ⟨0x160008, 24, 2⟩
def THERM_STAT_HOT : Field := ⟨0x160008, 19, 5⟩
def THERM_STAT_TJ : Field := ⟨0x160008, 0, 12⟩
def THERM_REQ_SENSORS : Field := ⟨0x16000C, 10, 2⟩
def THERM_REQ_AVS_ALERT : Field := ⟨0x16000C, 8, 2⟩
def THERM_REQ_AVS_NORESP : Field := ⟨0x16000C, 6, 2⟩
def THERM_REQ_AVS_CEIL : Field := ⟨0x16000C, 4, 2⟩
def THERM_REQ_SURGE : Field := ⟨0x16000C, 2, 2⟩
def THERM_REQ_THERMAL : Field := ⟨0x16000C, 0, 2⟩
def THERM_RETIRED_SENSORS : Field := ⟨0x160010, 0, 24⟩
def THERM_MEAS_CNT_COUNT : Field := ⟨0x160014, 0, 32⟩
def THERM_EVT_EVENT : Field := ⟨0x160040, 0, 8⟩
def THERM_TS_VALID (i : Nat) : Field := ⟨0x160100 + 0x4 * (i % 24), 31, 1⟩
def THERM_TS_NEW (i : Nat) : Field := ⟨0x160100 + 0x4 * (i % 24), 30, 1⟩
def THERM_TS_SEQ (i : Nat) : Field := ⟨0x160100 + 0x4 * (i % 24), 26, 4⟩
def THERM_TS_STATE (i : Nat) : Field := ⟨0x160100 + 0x4 * (i % 24), 24, 2⟩
def THERM_TS_SUSP (i : Nat) : Field := ⟨0x160100 + 0x4 * (i % 24), 22, 2⟩
def THERM_TS_VALUE (i : Nat) : Field := ⟨0x160100 + 0x4 * (i % 24), 0, 12⟩
def RSV_GRADE_KINDS : Field := ⟨0x170000, 0, 18⟩
def RSV_SYN_WEAR_LOSSES (i : Nat) : Field := ⟨0x170010 + 0x4 * (i % 2), 24, 8⟩
def RSV_SYN_WEAR_RECENT (i : Nat) : Field := ⟨0x170010 + 0x4 * (i % 2), 20, 4⟩
def RSV_SYN_WEAR_FAILED (i : Nat) : Field := ⟨0x170010 + 0x4 * (i % 2), 16, 1⟩
def RSV_SYN_WEAR_LAST_MS (i : Nat) : Field := ⟨0x170010 + 0x4 * (i % 2), 0, 16⟩
def RSV_SYN_CLR_SYN : Field := ⟨0x170018, 0, 2⟩
def RSV_RETIRED_TX : Field := ⟨0x17001C, 8, 7⟩
def RSV_RETIRED_RX : Field := ⟨0x17001C, 0, 7⟩
def RSV_EVT_EVENT : Field := ⟨0x170040, 0, 2⟩
def RSV_KIND_STALE (i : Nat) : Field := ⟨0x170100 + 0x4 * (i % 9), 31, 1⟩
def RSV_KIND_MIN (i : Nat) : Field := ⟨0x170100 + 0x4 * (i % 9), 24, 6⟩
def RSV_KIND_USED (i : Nat) : Field := ⟨0x170100 + 0x4 * (i % 9), 12, 12⟩
def RSV_KIND_LEFT (i : Nat) : Field := ⟨0x170100 + 0x4 * (i % 9), 0, 12⟩
def PILOT_MB_CMD_GO (i : Nat) : Field := ⟨0x180000 + 0x200 * (i % 4), 31, 1⟩
def PILOT_MB_CMD_OPC (i : Nat) : Field := ⟨0x180000 + 0x200 * (i % 4), 16, 8⟩
def PILOT_MB_CMD_TAG (i : Nat) : Field := ⟨0x180000 + 0x200 * (i % 4), 0, 8⟩
def PILOT_MB_STAT_BUSY (i : Nat) : Field := ⟨0x180004 + 0x200 * (i % 4), 31, 1⟩
def PILOT_MB_STAT_DONE (i : Nat) : Field := ⟨0x180004 + 0x200 * (i % 4), 30, 1⟩
def PILOT_MB_STAT_SEQ (i : Nat) : Field := ⟨0x180004 + 0x200 * (i % 4), 26, 4⟩
def PILOT_MB_STAT_RESULT (i : Nat) : Field := ⟨0x180004 + 0x200 * (i % 4), 20, 4⟩
def PILOT_MB_STAT_TAG (i : Nat) : Field := ⟨0x180004 + 0x200 * (i % 4), 0, 8⟩
def PILOT_MB_ARG_WORD (i j : Nat) : Field := ⟨0x180040 + 0x200 * (i % 4) + 0x4 * (j % 16), 0, 32⟩
def PILOT_MB_RSP_WORD (i j : Nat) : Field := ⟨0x180080 + 0x200 * (i % 4) + 0x4 * (j % 16), 0, 32⟩
def PILOT_MB_RMAC_WORD (i j : Nat) : Field := ⟨0x1800C0 + 0x200 * (i % 4) + 0x4 * (j % 2), 0, 32⟩
def PILOT_STAT_READY : Field := ⟨0x181000, 31, 1⟩
def PILOT_STAT_HELD : Field := ⟨0x181000, 30, 1⟩
def PILOT_STAT_NOFW : Field := ⟨0x181000, 29, 1⟩
def PILOT_STAT_RESETS : Field := ⟨0x181000, 0, 8⟩
def PILOT_FW_VER_VERSION : Field := ⟨0x181004, 0, 32⟩
def PILOT_TELEM_STAT_VALID : Field := ⟨0x181008, 31, 1⟩
def PILOT_TELEM_STAT_NEW : Field := ⟨0x181008, 30, 1⟩
def PILOT_TELEM_STAT_SEQ : Field := ⟨0x181008, 0, 28⟩
def PILOT_EVT_EVENT : Field := ⟨0x181040, 0, 4⟩
def PILOT_TELEM_WORD (i : Nat) : Field := ⟨0x182000 + 0x4 * (i % 64), 0, 32⟩
def SEC_STAT_DBG : Field := ⟨0x190000, 8, 2⟩
def SEC_STAT_LEVEL : Field := ⟨0x190000, 0, 8⟩
def SEC_CTL_ZEROISE : Field := ⟨0x190004, 31, 1⟩
def SEC_CTL_TIMEOUT_S : Field := ⟨0x190004, 0, 16⟩
def SEC_DEVID_WORD (i : Nat) : Field := ⟨0x190008 + 0x4 * (i % 2), 0, 32⟩
def SEC_LOCK_CLR_PORTS : Field := ⟨0x190010, 0, 4⟩
def SEC_VIOL_CNT_COUNT : Field := ⟨0x190020, 0, 32⟩
def SEC_VIOL_LAST_LO_ADDR : Field := ⟨0x190024, 0, 32⟩
def SEC_VIOL_LAST_HI_WRITE : Field := ⟨0x190028, 16, 1⟩
def SEC_VIOL_LAST_HI_SOURCE : Field := ⟨0x190028, 8, 3⟩
def SEC_VIOL_LAST_HI_ADDR : Field := ⟨0x190028, 0, 8⟩
def SEC_DBG_STATE : Field := ⟨0x190030, 8, 2⟩
def SEC_DBG_REQ : Field := ⟨0x190030, 0, 2⟩
def SEC_FUSE_STAT_SET : Field := ⟨0x190040, 0, 8⟩
def SEC_FUSE_CMD_GO : Field := ⟨0x190044, 31, 1⟩
def SEC_FUSE_CMD_TARGET : Field := ⟨0x190044, 0, 4⟩
def SEC_FUSE_DATA_DATA (i : Nat) : Field := ⟨0x190048 + 0x4 * (i % 8), 0, 32⟩
def SEC_FUSE_RES_BUSY : Field := ⟨0x190068, 31, 1⟩
def SEC_FUSE_RES_RESULT : Field := ⟨0x190068, 0, 4⟩
def SEC_EVT_EVENT : Field := ⟨0x190070, 0, 8⟩
def SEC_REG_DIGEST_WORD (i : Nat) : Field := ⟨0x190080 + 0x4 * (i % 8), 0, 32⟩
def SEC_IMGKEY_WORD (i j : Nat) : Field := ⟨0x1900A0 + 0x20 * (i % 2) + 0x4 * (j % 8), 0, 32⟩
def SEC_P_REQ_GO (i : Nat) : Field := ⟨0x190100 + 0x80 * (i % 4), 31, 1⟩
def SEC_P_REQ_VERIFY (i : Nat) : Field := ⟨0x190100 + 0x80 * (i % 4), 30, 1⟩
def SEC_P_REQ_CLOSE (i : Nat) : Field := ⟨0x190100 + 0x80 * (i % 4), 29, 1⟩
def SEC_P_REQ_LEVEL (i : Nat) : Field := ⟨0x190100 + 0x80 * (i % 4), 0, 2⟩
def SEC_P_STAT_RESULT (i : Nat) : Field := ⟨0x190104 + 0x80 * (i % 4), 28, 4⟩
def SEC_P_STAT_FAILS (i : Nat) : Field := ⟨0x190104 + 0x80 * (i % 4), 24, 4⟩
def SEC_P_STAT_HOLD_S (i : Nat) : Field := ⟨0x190104 + 0x80 * (i % 4), 16, 8⟩
def SEC_P_STAT_LOCK_H (i : Nat) : Field := ⟨0x190104 + 0x80 * (i % 4), 8, 8⟩
def SEC_P_STAT_LEVEL (i : Nat) : Field := ⟨0x190104 + 0x80 * (i % 4), 0, 2⟩
def SEC_P_CHAL_WORD (i j : Nat) : Field := ⟨0x190120 + 0x80 * (i % 4) + 0x4 * (j % 8), 0, 32⟩
def SEC_P_RESP_WORD (i j : Nat) : Field := ⟨0x190140 + 0x80 * (i % 4) + 0x4 * (j % 8), 0, 32⟩
def TALLY_STAT_DEFER : Field := ⟨0x1A0000, 31, 1⟩
def TALLY_STAT_QUEUE : Field := ⟨0x1A0000, 20, 8⟩
def TALLY_STAT_SPARES0 : Field := ⟨0x1A0000, 14, 6⟩
def TALLY_STAT_SPARES1 : Field := ⟨0x1A0000, 8, 6⟩
def TALLY_LOST_COUNT : Field := ⟨0x1A0004, 0, 32⟩
def TALLY_DISCARD_COUNT : Field := ⟨0x1A0008, 0, 32⟩
def TALLY_RD_SEQ_SEQ : Field := ⟨0x1A0010, 0, 32⟩
def TALLY_EVT_EVENT : Field := ⟨0x1A0050, 0, 5⟩
def TALLY_RECORD_WORD (i : Nat) : Field := ⟨0x1A0100 + 0x4 * (i % 16), 0, 32⟩
def TALLY_APPEND_WORD (i : Nat) : Field := ⟨0x1A0200 + 0x4 * (i % 15), 0, 32⟩
def TALLY_APPEND_GO_GO : Field := ⟨0x1A0240, 0, 1⟩
def GAUGE_DIR_WORD (i j k : Nat) : Field := ⟨0x134000 + 0x400 * (i % 16) + 0x40 * (j % 16) + 0x4 * (k % 16), 0, 32⟩
def GAUGE_HIST_COUNT (i j : Nat) : Field := ⟨0x138000 + 0x1000 * (i % 4) + 0x4 * (j % 1024), 0, 32⟩
def GAUGE_MAP_CELLS (i : Nat) : Field := ⟨0x13C000 + 0x4 * (i % 4096), 0, 32⟩

end F

/-- The registers of the TOP block. -/
def catalogueTOP : List RegRow := [
  ⟨0x4, [], [⟨31, 28, .ro, 0⟩, ⟨21, 21, .ro, 0⟩, ⟨20, 20, .ro, 0⟩, ⟨19, 16, .ro, 0⟩, ⟨11, 8, .ro, 0⟩, ⟨7, 0, .ro, 0⟩]⟩,
  ⟨0x40, [], [⟨2, 0, .w1c, 0⟩]⟩,
  ⟨0x100, [], [⟨17, 17, .wo, 0⟩, ⟨16, 16, .wo, 0⟩, ⟨15, 0, .rw, 0xC8⟩]⟩,
  ⟨0x104, [], [⟨7, 0, .w1c, 0⟩]⟩,
  ⟨0x110, [(8, 0x4)], [⟨31, 16, .ro, 0xFFFF⟩, ⟨15, 0, .ro, 0xFFFF⟩]⟩,
  ⟨0x130, [(8, 0x4)], [⟨31, 0, .ro, 0⟩]⟩,
  ⟨0x200, [], [⟨26, 0, .ro, 0⟩]⟩,
  ⟨0x204, [], [⟨26, 0, .rw, 0x7FFFFFF⟩]⟩,
  ⟨0x208, [], [⟨26, 0, .rw, 0⟩]⟩]

/-- The registers of the PWR block. -/
def cataloguePWR : List RegRow := [
  ⟨0x10000, [], [⟨11, 8, .ro, 0⟩, ⟨7, 7, .ro, 1⟩, ⟨6, 4, .ro, 4⟩, ⟨2, 0, .ro, 1⟩]⟩,
  ⟨0x10004, [], [⟨4, 4, .wo, 0⟩, ⟨2, 0, .wo, 0⟩]⟩,
  ⟨0x10010, [], [⟨31, 0, .ro, 1⟩]⟩,
  ⟨0x10014, [], [⟨5, 0, .ro, 0⟩]⟩,
  ⟨0x10018, [], [⟨6, 6, .rw, 0⟩, ⟨5, 5, .rw, 0⟩, ⟨4, 4, .rw, 0⟩, ⟨3, 3, .rw, 0⟩, ⟨2, 2, .rw, 0⟩, ⟨1, 1, .rw, 0⟩, ⟨0, 0, .rw, 0⟩]⟩,
  ⟨0x10020, [], [⟨29, 20, .rwl, 0x352⟩, ⟨19, 10, .rwl, 0x320⟩, ⟨9, 5, .rw, 0xC⟩, ⟨4, 0, .rw, 0xA⟩]⟩,
  ⟨0x10024, [], [⟨17, 17, .ro, 0⟩, ⟨16, 16, .ro, 0⟩, ⟨9, 0, .ro, 0x320⟩]⟩,
  ⟨0x10030, [], [⟨19, 0, .ro, 0⟩]⟩,
  ⟨0x10034, [], [⟨31, 31, .ro, 0⟩, ⟨19, 0, .ro, 0xE1000⟩]⟩,
  ⟨0x10040, [], [⟨7, 7, .w1c, 0⟩, ⟨6, 6, .w1c, 0⟩, ⟨5, 5, .w1c, 0⟩, ⟨4, 4, .w1c, 0⟩, ⟨3, 3, .w1c, 0⟩, ⟨2, 2, .w1c, 0⟩, ⟨1, 1, .w1c, 0⟩, ⟨0, 0, .w1c, 0⟩]⟩]

/-- The registers of the CLK block. -/
def catalogueCLK : List RegRow := [
  ⟨0x20000, [], [⟨15, 8, .rw, 0xA⟩, ⟨4, 2, .rwl, 3⟩, ⟨1, 1, .rwl, 0⟩, ⟨0, 0, .rwl, 0⟩]⟩,
  ⟨0x20004, [], [⟨15, 8, .ro, 0⟩, ⟨7, 7, .ro, 0⟩, ⟨5, 4, .ro, 0⟩, ⟨3, 3, .ro, 0⟩]⟩,
  ⟨0x20008, [], [⟨31, 16, .ro, 0⟩, ⟨15, 0, .ro, 0⟩]⟩,
  ⟨0x20020, [(2, 0x10)], [⟨31, 31, .wo, 0⟩, ⟨30, 30, .rw, 0⟩, ⟨8, 8, .rw, 0⟩, ⟨5, 0, .rw, 0⟩]⟩,
  ⟨0x20024, [(2, 0x10)], [⟨15, 8, .ro, 0⟩, ⟨7, 2, .ro, 0⟩, ⟨1, 1, .ro, 0⟩, ⟨0, 0, .ro, 0⟩]⟩,
  ⟨0x20028, [(2, 0x10)], [⟨31, 0, .rw, 0⟩]⟩,
  ⟨0x2002C, [(2, 0x10)], [⟨31, 0, .rw, 0⟩]⟩,
  ⟨0x20040, [], [⟨4, 4, .rw, 1⟩, ⟨3, 3, .rw, 0⟩, ⟨1, 1, .rw, 1⟩, ⟨0, 0, .rw, 0⟩]⟩,
  ⟨0x20044, [], [⟨0, 0, .wo, 0⟩]⟩,
  ⟨0x20060, [(4, 0x8)], [⟨15, 14, .rw, 0⟩, ⟨13, 8, .rw, 0⟩, ⟨2, 0, .rw, 0⟩]⟩,
  ⟨0x20064, [(4, 0x8)], [⟨15, 8, .ro, 0⟩, ⟨1, 0, .ro, 0⟩]⟩,
  ⟨0x20080, [], [⟨18, 15, .w1c, 0⟩, ⟨14, 14, .w1c, 0⟩, ⟨13, 13, .w1c, 0⟩, ⟨12, 12, .w1c, 0⟩, ⟨11, 8, .w1c, 0⟩, ⟨7, 7, .w1c, 0⟩, ⟨6, 6, .w1c, 0⟩, ⟨5, 4, .w1c, 0⟩, ⟨3, 3, .w1c, 0⟩, ⟨2, 2, .w1c, 0⟩, ⟨1, 1, .w1c, 0⟩, ⟨0, 0, .w1c, 0⟩]⟩,
  ⟨0x20084, [], [⟨31, 0, .ro, 0⟩]⟩]

/-- The registers of the BOOT block. -/
def catalogueBOOT : List RegRow := [
  ⟨0x30000, [], [⟨23, 20, .ro, 0⟩, ⟨19, 16, .ro, 0⟩, ⟨10, 10, .ro, 0⟩, ⟨9, 9, .ro, 0⟩, ⟨8, 8, .ro, 0⟩, ⟨7, 7, .ro, 0⟩, ⟨6, 6, .ro, 0⟩, ⟨5, 5, .ro, 0⟩, ⟨3, 0, .ro, 1⟩]⟩,
  ⟨0x30004, [], [⟨31, 0, .ro, 0⟩]⟩,
  ⟨0x30010, [], [⟨8, 8, .ro, 0⟩, ⟨3, 2, .ro, 0⟩, ⟨1, 0, .ro, 0⟩]⟩,
  ⟨0x30020, [(4, 0x4)], [⟨31, 0, .rw, 0⟩]⟩,
  ⟨0x30040, [], [⟨8, 8, .rw, 0⟩, ⟨7, 0, .rw, 0x3C⟩]⟩,
  ⟨0x30044, [], [⟨28, 16, .wo, 0⟩, ⟨3, 0, .wo, 0⟩]⟩,
  ⟨0x30048, [], [⟨13, 12, .ro, 0⟩, ⟨11, 10, .ro, 0⟩, ⟨9, 8, .ro, 0⟩, ⟨7, 4, .ro, 0⟩, ⟨0, 0, .ro, 0⟩]⟩,
  ⟨0x30050, [], [⟨8, 0, .w1c, 0⟩]⟩]

/-- The registers of the RXA block. -/
def catalogueRXA : List RegRow := [
  ⟨0x40000, [], [⟨3, 2, .rw, 0⟩]⟩,
  ⟨0x40004, [], [⟨19, 16, .rw, 0⟩, ⟨15, 12, .rw, 0⟩, ⟨11, 11, .rw, 0⟩, ⟨9, 8, .rw, 2⟩, ⟨7, 6, .rw, 1⟩, ⟨1, 0, .rw, 0⟩]⟩,
  ⟨0x40008, [], [⟨27, 16, .rw, 0x202⟩, ⟨11, 0, .rw, 0x402⟩]⟩,
  ⟨0x4000C, [], [⟨11, 0, .rw, 0xC8⟩]⟩,
  ⟨0x40010, [], [⟨8, 8, .ro, 1⟩, ⟨3, 0, .ro, 0⟩]⟩,
  ⟨0x40014, [], [⟨31, 16, .ro, 0⟩, ⟨15, 0, .ro, 0⟩]⟩,
  ⟨0x40018, [], [⟨31, 0, .rw, 0xFFFFFFFF⟩]⟩,
  ⟨0x4001C, [], [⟨31, 0, .rw, 0xFFFFFFFF⟩]⟩,
  ⟨0x40020, [], [⟨31, 0, .rw, 0⟩]⟩,
  ⟨0x40024, [], [⟨31, 0, .rw, 0⟩]⟩,
  ⟨0x40028, [], [⟨1, 1, .wo, 0⟩, ⟨0, 0, .wo, 0⟩]⟩,
  ⟨0x40030, [], [⟨8, 8, .rw, 0⟩, ⟨3, 0, .rw, 2⟩]⟩,
  ⟨0x40040, [], [⟨31, 31, .wo, 0⟩, ⟨15, 8, .wo, 0⟩, ⟨4, 0, .wo, 0⟩]⟩,
  ⟨0x40044, [], [⟨31, 24, .ro, 0⟩, ⟨15, 8, .ro, 0⟩, ⟨1, 1, .ro, 0⟩, ⟨0, 0, .ro, 0⟩]⟩,
  ⟨0x40050, [], [⟨8, 8, .w1c, 0⟩, ⟨7, 7, .w1c, 0⟩, ⟨6, 6, .w1c, 0⟩, ⟨5, 5, .w1c, 0⟩, ⟨4, 4, .w1c, 0⟩, ⟨3, 3, .w1c, 0⟩, ⟨2, 2, .w1c, 0⟩, ⟨1, 1, .w1c, 0⟩, ⟨0, 0, .w1c, 0⟩]⟩,
  ⟨0x40100, [(64, 0x20)], [⟨12, 12, .ro, 0⟩, ⟨11, 11, .ro, 0⟩, ⟨10, 10, .ro, 0⟩, ⟨9, 9, .ro, 0⟩, ⟨8, 8, .ro, 0⟩, ⟨7, 4, .ro, 8⟩, ⟨3, 0, .ro, 8⟩]⟩,
  ⟨0x40104, [(64, 0x20)], [⟨25, 16, .ro, 0x200⟩, ⟨9, 0, .ro, 0x200⟩]⟩,
  ⟨0x40108, [(64, 0x20)], [⟨31, 0, .ro, 0⟩]⟩,
  ⟨0x4010C, [(64, 0x20)], [⟨24, 16, .ro, 0⟩, ⟨8, 0, .ro, 0⟩]⟩,
  ⟨0x41000, [(64, 0x80), (11, 0x8), (2, 0x4)], [⟨19, 0, .ro, 0⟩]⟩]

/-- The registers of the RXD block. -/
def catalogueRXD : List RegRow := [
  ⟨0x50000, [], [⟨0, 0, .rw, 0⟩]⟩,
  ⟨0x50004, [], [⟨15, 12, .rw, 5⟩, ⟨10, 10, .rw, 1⟩, ⟨9, 9, .rw, 1⟩, ⟨8, 8, .rw, 0⟩, ⟨6, 5, .rw, 0⟩, ⟨4, 4, .rw, 0⟩, ⟨1, 0, .rw, 0⟩]⟩,
  ⟨0x50008, [], [⟨31, 0, .rw, 0⟩]⟩,
  ⟨0x50010, [], [⟨31, 0, .rw, 0⟩]⟩,
  ⟨0x50014, [], [⟨15, 0, .rw, 0⟩]⟩,
  ⟨0x50018, [], [⟨31, 31, .wo, 0⟩, ⟨30, 30, .rw, 0⟩, ⟨0, 0, .ro, 0⟩]⟩,
  ⟨0x5001C, [], [⟨31, 0, .rw, 0⟩]⟩,
  ⟨0x50020, [], [⟨31, 0, .rw, 0⟩]⟩,
  ⟨0x50024, [], [⟨31, 0, .ro, 0⟩]⟩,
  ⟨0x50028, [], [⟨15, 0, .ro, 0⟩]⟩,
  ⟨0x5002C, [], [⟨31, 0, .rw, 0⟩]⟩,
  ⟨0x50030, [], [⟨15, 0, .rw, 0⟩]⟩,
  ⟨0x50034, [], [⟨8, 8, .rw, 0⟩, ⟨4, 0, .rw, 0x10⟩]⟩,
  ⟨0x50040, [], [⟨0, 0, .ro, 0⟩]⟩,
  ⟨0x50044, [], [⟨31, 0, .ro, 0⟩]⟩,
  ⟨0x50048, [], [⟨7, 0, .ro, 0⟩]⟩,
  ⟨0x5004C, [], [⟨31, 0, .ro, 0⟩]⟩,
  ⟨0x50050, [], [⟨2, 2, .w1c, 0⟩, ⟨1, 1, .w1c, 0⟩, ⟨0, 0, .w1c, 0⟩]⟩,
  ⟨0x50054, [], [⟨1, 1, .wo, 0⟩, ⟨0, 0, .wo, 0⟩]⟩,
  ⟨0x50100, [(64, 0x20)], [⟨31, 0, .ro, 0⟩]⟩,
  ⟨0x50104, [(64, 0x20)], [⟨31, 0, .ro, 0⟩]⟩,
  ⟨0x51000, [(64, 0x20), (3, 0x8), (2, 0x4)], [⟨17, 0, .ro, 0⟩]⟩,
  ⟨0x52000, [(18, 0x4)], [⟨17, 0, .rw, 0⟩]⟩,
  ⟨0x52080, [(18, 0x4)], [⟨17, 0, .rw, 0⟩]⟩,
  ⟨0x52100, [(12, 0x4)], [⟨17, 0, .rw, 0⟩]⟩,
  ⟨0x52140, [(12, 0x4)], [⟨17, 0, .rw, 0⟩]⟩,
  ⟨0x54000, [(4096, 0x4)], [⟨17, 0, .rw, 0⟩]⟩]

/-- The registers of the TXA block. -/
def catalogueTXA : List RegRow := [
  ⟨0x60000, [], [⟨3, 2, .rw, 0⟩]⟩,
  ⟨0x60004, [], [⟨31, 0, .rw, 0⟩]⟩,
  ⟨0x60008, [], [⟨31, 0, .rw, 0⟩]⟩,
  ⟨0x6000C, [], [⟨31, 0, .rw, 0⟩]⟩,
  ⟨0x60010, [], [⟨31, 0, .rw, 0⟩]⟩,
  ⟨0x60014, [], [⟨16, 16, .ro, 0⟩, ⟨9, 0, .rw, 0x64⟩]⟩,
  ⟨0x60018, [], [⟨31, 0, .ro, 0⟩]⟩,
  ⟨0x6001C, [], [⟨31, 0, .ro, 0⟩]⟩,
  ⟨0x60020, [], [⟨31, 0, .ro, 0⟩]⟩,
  ⟨0x60024, [], [⟨0, 0, .rw, 1⟩]⟩,
  ⟨0x60040, [], [⟨31, 31, .wo, 0⟩, ⟨15, 8, .wo, 0⟩, ⟨4, 0, .wo, 0⟩]⟩,
  ⟨0x60044, [], [⟨31, 24, .ro, 0⟩, ⟨15, 8, .ro, 0⟩, ⟨1, 1, .ro, 0⟩, ⟨0, 0, .ro, 0⟩]⟩,
  ⟨0x60048, [], [⟨31, 31, .wo, 0⟩, ⟨9, 8, .rw, 0⟩, ⟨5, 0, .rw, 0⟩]⟩,
  ⟨0x6004C, [], [⟨31, 31, .ro, 0⟩, ⟨30, 30, .ro, 0⟩, ⟨29, 26, .ro, 0⟩, ⟨21, 16, .ro, 0⟩, ⟨15, 0, .ro, 0⟩]⟩,
  ⟨0x60050, [], [⟨6, 6, .w1c, 0⟩, ⟨5, 5, .w1c, 0⟩, ⟨4, 4, .w1c, 0⟩, ⟨3, 3, .w1c, 0⟩, ⟨2, 2, .w1c, 0⟩, ⟨1, 1, .w1c, 0⟩, ⟨0, 0, .w1c, 0⟩]⟩,
  ⟨0x60100, [(64, 0x20)], [⟨3, 3, .ro, 0⟩, ⟨2, 2, .ro, 0⟩, ⟨1, 1, .ro, 0⟩, ⟨0, 0, .ro, 0⟩]⟩,
  ⟨0x60104, [(64, 0x20)], [⟨6, 0, .rw, 0⟩]⟩,
  ⟨0x60108, [(64, 0x20)], [⟨25, 16, .ro, 0⟩, ⟨9, 0, .ro, 0⟩]⟩,
  ⟨0x6010C, [(64, 0x20)], [⟨25, 16, .ro, 0⟩, ⟨9, 0, .ro, 0⟩]⟩]

/-- The registers of the TXD block. -/
def catalogueTXD : List RegRow := [
  ⟨0x70000, [], [⟨0, 0, .rw, 0⟩]⟩,
  ⟨0x70004, [], [⟨9, 9, .rw, 1⟩, ⟨1, 0, .rw, 0⟩]⟩,
  ⟨0x70008, [], [⟨16, 16, .ro, 0⟩, ⟨15, 0, .rw, 0x4000⟩]⟩,
  ⟨0x70010, [], [⟨31, 0, .rw, 0⟩]⟩,
  ⟨0x70014, [], [⟨15, 0, .rw, 0⟩]⟩,
  ⟨0x70018, [], [⟨31, 31, .wo, 0⟩, ⟨30, 30, .rw, 0⟩, ⟨0, 0, .ro, 0⟩]⟩,
  ⟨0x7001C, [], [⟨31, 0, .rw, 0⟩]⟩,
  ⟨0x70020, [], [⟨31, 0, .rw, 0⟩]⟩,
  ⟨0x70024, [], [⟨31, 0, .ro, 0⟩]⟩,
  ⟨0x70028, [], [⟨15, 0, .ro, 0⟩]⟩,
  ⟨0x7002C, [], [⟨31, 0, .rw, 0⟩]⟩,
  ⟨0x70030, [], [⟨15, 0, .rw, 0⟩]⟩,
  ⟨0x70040, [], [⟨0, 0, .ro, 0⟩]⟩,
  ⟨0x70044, [], [⟨31, 0, .ro, 0⟩]⟩,
  ⟨0x70050, [], [⟨2, 2, .w1c, 0⟩, ⟨1, 1, .w1c, 0⟩, ⟨0, 0, .w1c, 0⟩]⟩,
  ⟨0x70054, [], [⟨2, 2, .wo, 0⟩, ⟨1, 1, .wo, 0⟩]⟩,
  ⟨0x70064, [], [⟨31, 0, .ro, 0⟩]⟩,
  ⟨0x70068, [], [⟨31, 0, .ro, 0⟩]⟩,
  ⟨0x7006C, [], [⟨31, 0, .ro, 0⟩]⟩,
  ⟨0x70074, [], [⟨31, 0, .ro, 0⟩]⟩,
  ⟨0x70100, [(64, 0x20)], [⟨31, 0, .ro, 0⟩]⟩,
  ⟨0x71000, [(64, 0x20), (3, 0x8), (2, 0x4)], [⟨17, 0, .ro, 0⟩]⟩,
  ⟨0x72000, [(18, 0x4)], [⟨17, 0, .rw, 0⟩]⟩,
  ⟨0x72080, [(18, 0x4)], [⟨17, 0, .rw, 0⟩]⟩,
  ⟨0x72100, [(12, 0x4)], [⟨17, 0, .rw, 0⟩]⟩,
  ⟨0x72140, [(12, 0x4)], [⟨17, 0, .rw, 0⟩]⟩]

/-- The registers of the DPD block. -/
def catalogueDPD : List RegRow := [
  ⟨0x80000, [], [⟨0, 0, .rw, 0⟩]⟩,
  ⟨0x80004, [], [⟨10, 0, .rw, 0x100⟩]⟩,
  ⟨0x80008, [], [⟨31, 31, .wo, 0⟩, ⟨2, 0, .rw, 0⟩]⟩,
  ⟨0x8000C, [], [⟨31, 0, .rw, 0⟩]⟩,
  ⟨0x80010, [], [⟨31, 0, .rw, 0⟩]⟩,
  ⟨0x80014, [], [⟨25, 24, .rw, 2⟩, ⟨15, 8, .rw, 0x80⟩, ⟨4, 0, .rw, 0x14⟩]⟩,
  ⟨0x80018, [], [⟨31, 16, .rw, 0xF448⟩, ⟨15, 11, .rw, 0x1E⟩, ⟨10, 8, .rw, 4⟩, ⟨7, 0, .rw, 0xA⟩]⟩,
  ⟨0x80040, [], [⟨0, 0, .ro, 0⟩]⟩,
  ⟨0x80050, [], [⟨10, 10, .w1c, 0⟩, ⟨9, 9, .w1c, 0⟩, ⟨8, 8, .w1c, 0⟩, ⟨7, 7, .w1c, 0⟩, ⟨6, 6, .w1c, 0⟩, ⟨5, 5, .w1c, 0⟩, ⟨4, 4, .w1c, 0⟩, ⟨3, 3, .w1c, 0⟩, ⟨2, 2, .w1c, 0⟩, ⟨1, 1, .w1c, 0⟩, ⟨0, 0, .w1c, 0⟩]⟩,
  ⟨0x80054, [], [⟨2, 2, .wo, 0⟩, ⟨1, 1, .wo, 0⟩, ⟨0, 0, .wo, 0⟩]⟩,
  ⟨0x80058, [], [⟨31, 0, .ro, 0⟩]⟩,
  ⟨0x8005C, [], [⟨31, 0, .ro, 0⟩]⟩,
  ⟨0x80100, [(32, 0x4)], [⟨31, 31, .rw, 0⟩, ⟨11, 8, .rw, 1⟩, ⟨6, 4, .rw, 0⟩, ⟨3, 0, .rw, 0⟩]⟩,
  ⟨0x80200, [(8, 0x4)], [⟨13, 13, .ro, 0⟩, ⟨12, 12, .ro, 0⟩, ⟨11, 11, .ro, 0⟩, ⟨10, 10, .ro, 0⟩, ⟨9, 5, .ro, 0⟩, ⟨4, 0, .ro, 0⟩]⟩,
  ⟨0x81000, [(64, 0x20)], [⟨11, 8, .rw, 0⟩, ⟨1, 1, .rw, 1⟩, ⟨0, 0, .rw, 0⟩]⟩,
  ⟨0x81004, [(64, 0x20)], [⟨23, 16, .ro, 0xFF⟩, ⟨12, 12, .ro, 0⟩, ⟨11, 11, .ro, 0⟩, ⟨10, 9, .ro, 0⟩, ⟨8, 8, .ro, 0⟩, ⟨7, 7, .ro, 0⟩, ⟨6, 4, .ro, 0⟩, ⟨2, 0, .ro, 0⟩]⟩,
  ⟨0x81008, [(64, 0x20)], [⟨31, 31, .ro, 0⟩, ⟨30, 30, .ro, 0⟩, ⟨29, 26, .ro, 0⟩, ⟨25, 24, .ro, 0⟩, ⟨18, 16, .ro, 0⟩, ⟨15, 0, .ro, 0⟩]⟩,
  ⟨0x8100C, [(64, 0x20)], [⟨31, 31, .ro, 0⟩, ⟨10, 0, .ro, 0⟩]⟩,
  ⟨0x81010, [(64, 0x20)], [⟨31, 0, .ro, 0⟩]⟩,
  ⟨0x81014, [(64, 0x20)], [⟨31, 24, .ro, 0⟩, ⟨23, 16, .ro, 0⟩, ⟨15, 8, .ro, 0⟩, ⟨7, 0, .ro, 0⟩]⟩]

/-- The registers of the QCTL block. -/
def catalogueQCTL : List RegRow := [
  ⟨0x90040, [], [⟨8, 0, .w1c, 0⟩]⟩,
  ⟨0x90044, [], [⟨31, 0, .ro, 0⟩]⟩,
  ⟨0x90100, [(4, 0x40)], [⟨31, 31, .rw, 0⟩, ⟨30, 30, .rw, 0⟩, ⟨29, 29, .rw, 1⟩, ⟨3, 0, .rw, 8⟩]⟩,
  ⟨0x90104, [(4, 0x40)], [⟨29, 24, .rw, 0⟩, ⟨23, 16, .rw, 0x40⟩, ⟨13, 8, .rw, 0⟩, ⟨3, 0, .rw, 1⟩]⟩,
  ⟨0x90108, [(4, 0x40)], [⟨31, 31, .ro, 0⟩, ⟨23, 0, .ro, 0x3FFFFF⟩]⟩,
  ⟨0x9010C, [(4, 0x40)], [⟨23, 0, .ro, 0xC00000⟩]⟩,
  ⟨0x90110, [(4, 0x40)], [⟨23, 0, .ro, 0⟩]⟩,
  ⟨0x90114, [(4, 0x40)], [⟨31, 31, .wo, 0⟩, ⟨12, 8, .wo, 0⟩, ⟨4, 0, .wo, 0⟩]⟩,
  ⟨0x90118, [(4, 0x40)], [⟨7, 4, .ro, 0⟩, ⟨0, 0, .ro, 0⟩]⟩,
  ⟨0x9011C, [(4, 0x40)], [⟨31, 27, .ro, 0⟩, ⟨15, 0, .ro, 0⟩]⟩,
  ⟨0x90120, [(4, 0x40)], [⟨15, 0, .ro, 0⟩]⟩,
  ⟨0x90124, [(4, 0x40)], [⟨31, 0, .ro, 0⟩]⟩,
  ⟨0x91000, [(96, 0x20)], [⟨31, 31, .rw, 0⟩, ⟨30, 30, .rw, 0⟩, ⟨29, 29, .rw, 0⟩, ⟨28, 28, .rw, 0⟩, ⟨10, 0, .rw, 0⟩]⟩,
  ⟨0x91004, [(96, 0x20)], [⟨31, 31, .ro, 0⟩, ⟨30, 30, .ro, 0⟩, ⟨29, 29, .ro, 0⟩, ⟨28, 26, .ro, 0⟩, ⟨25, 24, .ro, 0⟩, ⟨23, 23, .w1c, 0⟩, ⟨22, 22, .w1c, 0⟩, ⟨21, 21, .w1c, 0⟩, ⟨10, 0, .ro, 0⟩]⟩,
  ⟨0x91008, [(96, 0x20)], [⟨31, 0, .ro, 0⟩]⟩,
  ⟨0x9100C, [(96, 0x20)], [⟨31, 0, .ro, 0⟩]⟩]

/-- The registers of the BERTH block. -/
def catalogueBERTH : List RegRow := [
  ⟨0xA0000, [], [⟨1, 1, .rw, 1⟩, ⟨0, 0, .rwl, 0⟩]⟩,
  ⟨0xA0004, [], [⟨31, 0, .rw, 0⟩]⟩,
  ⟨0xA0008, [], [⟨31, 0, .rw, 0⟩]⟩,
  ⟨0xA000C, [], [⟨31, 31, .wo, 0⟩, ⟨30, 30, .wo, 0⟩, ⟨29, 28, .wo, 0⟩, ⟨8, 0, .wo, 0⟩]⟩,
  ⟨0xA0010, [], [⟨31, 28, .ro, 0⟩, ⟨22, 16, .ro, 0⟩, ⟨6, 0, .ro, 0⟩]⟩,
  ⟨0xA0014, [], [⟨24, 16, .ro, 0⟩, ⟨8, 0, .ro, 0⟩]⟩,
  ⟨0xA0018, [], [⟨31, 0, .ro, 0⟩]⟩,
  ⟨0xA001C, [], [⟨31, 0, .ro, 0⟩]⟩,
  ⟨0xA0020, [], [⟨9, 8, .ro, 0⟩, ⟨6, 4, .rw, 6⟩, ⟨2, 0, .rw, 7⟩]⟩,
  ⟨0xA0030, [], [⟨31, 0, .ro, 0⟩]⟩,
  ⟨0xA0034, [], [⟨31, 0, .ro, 0⟩]⟩,
  ⟨0xA0038, [], [⟨31, 0, .ro, 0⟩]⟩,
  ⟨0xA003C, [], [⟨31, 0, .ro, 0⟩]⟩,
  ⟨0xA0050, [], [⟨8, 0, .w1c, 0⟩]⟩,
  ⟨0xA0054, [], [⟨1, 1, .wo, 0⟩, ⟨0, 0, .wo, 0⟩]⟩,
  ⟨0xA0060, [], [⟨31, 31, .wo, 0⟩, ⟨1, 0, .wo, 0⟩]⟩,
  ⟨0xA0064, [], [⟨31, 24, .ro, 0⟩, ⟨1, 1, .ro, 0⟩, ⟨0, 0, .ro, 0⟩]⟩,
  ⟨0xA1000, [(64, 0x10)], [⟨11, 0, .rw, 0⟩]⟩,
  ⟨0xA1004, [(64, 0x10)], [⟨11, 0, .rw, 0⟩]⟩,
  ⟨0xA1008, [(64, 0x10)], [⟨31, 16, .rw, 0⟩, ⟨15, 0, .rw, 0x4000⟩]⟩,
  ⟨0xA100C, [(64, 0x10)], [⟨31, 16, .rw, 0⟩, ⟨15, 0, .rw, 0x4000⟩]⟩,
  ⟨0xA4000, [(512, 0x10)], [⟨18, 16, .rw, 0⟩, ⟨15, 0, .rw, 0⟩]⟩,
  ⟨0xA4004, [(512, 0x10)], [⟨31, 0, .rw, 0xFFFFFFFF⟩]⟩,
  ⟨0xA4008, [(512, 0x10)], [⟨31, 0, .rw, 0xFFFFFFFF⟩]⟩,
  ⟨0xA8000, [(512, 0x10)], [⟨18, 16, .rw, 0⟩, ⟨15, 0, .rw, 0⟩]⟩,
  ⟨0xA8004, [(512, 0x10)], [⟨31, 0, .rw, 0xFFFFFFFF⟩]⟩,
  ⟨0xA8008, [(512, 0x10)], [⟨31, 0, .rw, 0xFFFFFFFF⟩]⟩]

/-- The registers of the FHL block. -/
def catalogueFHL : List RegRow := [
  ⟨0xB0000, [], [⟨9, 9, .rw, 1⟩, ⟨8, 8, .rw, 0⟩, ⟨5, 5, .wo, 0⟩, ⟨4, 4, .wo, 0⟩]⟩,
  ⟨0xB0004, [], [⟨31, 24, .rw, 0x64⟩, ⟨23, 20, .rw, 8⟩, ⟨19, 16, .rw, 3⟩, ⟨15, 12, .rw, 4⟩, ⟨11, 0, .rw, 0xE10⟩]⟩,
  ⟨0xB0040, [], [⟨9, 0, .w1c, 0⟩]⟩,
  ⟨0xB0044, [], [⟨0, 0, .wo, 0⟩]⟩,
  ⟨0xB0100, [(2, 0x40)], [⟨31, 28, .ro, 0⟩, ⟨27, 24, .ro, 0⟩, ⟨23, 23, .ro, 0⟩, ⟨22, 22, .ro, 0⟩, ⟨17, 9, .ro, 0⟩, ⟨8, 0, .ro, 0⟩]⟩,
  ⟨0xB0104, [(2, 0x40)], [⟨17, 9, .ro, 0⟩, ⟨8, 0, .ro, 0⟩]⟩,
  ⟨0xB0108, [(2, 0x40)], [⟨8, 0, .ro, 0⟩]⟩,
  ⟨0xB010C, [(2, 0x40)], [⟨11, 8, .rw, 0xA⟩, ⟨5, 4, .rw, 0⟩, ⟨3, 0, .rw, 6⟩]⟩,
  ⟨0xB0110, [(2, 0x40)], [⟨31, 0, .ro, 0⟩]⟩,
  ⟨0xB0114, [(2, 0x40)], [⟨31, 0, .ro, 0⟩]⟩,
  ⟨0xB0118, [(2, 0x40)], [⟨31, 0, .ro, 0⟩]⟩,
  ⟨0xB011C, [(2, 0x40)], [⟨31, 16, .ro, 0⟩, ⟨15, 0, .ro, 0⟩]⟩,
  ⟨0xB1000, [(2, 0x200), (9, 0x20)], [⟨31, 28, .ro, 0⟩, ⟨27, 24, .ro, 0⟩, ⟨23, 16, .ro, 0⟩, ⟨15, 8, .ro, 0⟩]⟩,
  ⟨0xB1004, [(2, 0x200), (9, 0x20)], [⟨28, 25, .ro, 0⟩, ⟨24, 0, .ro, 0⟩]⟩,
  ⟨0xB1008, [(2, 0x200), (9, 0x20)], [⟨31, 0, .ro, 0⟩]⟩,
  ⟨0xB100C, [(2, 0x200), (9, 0x20)], [⟨31, 31, .ro, 0⟩, ⟨30, 30, .ro, 0⟩, ⟨29, 26, .ro, 0⟩, ⟨15, 8, .ro, 0⟩, ⟨7, 0, .ro, 0⟩]⟩]

/-- The registers of the FHM block. -/
def catalogueFHM : List RegRow := [
  ⟨0xC0000, [], [⟨9, 9, .rw, 1⟩, ⟨7, 0, .rw, 0x40⟩]⟩,
  ⟨0xC0010, [], [⟨31, 0, .ro, 0⟩]⟩,
  ⟨0xC0014, [], [⟨31, 0, .ro, 0⟩]⟩,
  ⟨0xC0018, [], [⟨31, 0, .ro, 0⟩]⟩,
  ⟨0xC001C, [], [⟨31, 0, .ro, 0⟩]⟩,
  ⟨0xC0020, [(2, 0x4)], [⟨31, 16, .ro, 0⟩, ⟨15, 0, .ro, 0⟩]⟩,
  ⟨0xC0040, [(8, 0x4)], [⟨31, 0, .ro, 0⟩]⟩,
  ⟨0xC0060, [(4, 0x4)], [⟨31, 0, .ro, 0⟩]⟩,
  ⟨0xC0080, [(2, 0x10), (4, 0x4)], [⟨31, 0, .ro, 0⟩]⟩,
  ⟨0xC00A0, [], [⟨31, 0, .ro, 0⟩]⟩,
  ⟨0xC00A4, [], [⟨31, 0, .ro, 0⟩]⟩,
  ⟨0xC00B0, [], [⟨31, 24, .ro, 0⟩, ⟨18, 16, .ro, 0⟩, ⟨0, 0, .ro, 0⟩]⟩,
  ⟨0xC00C0, [], [⟨10, 0, .w1c, 0⟩]⟩,
  ⟨0xC00C4, [], [⟨0, 0, .wo, 0⟩]⟩,
  ⟨0xC0100, [(32, 0x4)], [⟨31, 31, .rw, 0⟩, ⟨30, 30, .rw, 0⟩, ⟨25, 24, .rw, 2⟩, ⟨23, 16, .rw, 0⟩]⟩]

/-- The registers of the RING block. -/
def catalogueRING : List RegRow := [
  ⟨0xD0000, [], [⟨5, 5, .wo, 0⟩, ⟨4, 4, .wo, 0⟩, ⟨3, 3, .rw, 1⟩, ⟨2, 0, .rwl, 0⟩]⟩,
  ⟨0xD0004, [], [⟨31, 28, .ro, 0⟩, ⟨27, 24, .ro, 0⟩, ⟨23, 20, .ro, 0⟩, ⟨3, 3, .ro, 0⟩, ⟨2, 2, .ro, 0⟩, ⟨1, 1, .ro, 0⟩, ⟨0, 0, .ro, 0⟩]⟩,
  ⟨0xD0008, [], [⟨31, 31, .wo, 0⟩, ⟨16, 16, .ro, 0⟩, ⟨15, 0, .ro, 0⟩]⟩,
  ⟨0xD000C, [], [⟨11, 0, .rw, 0x7D0⟩]⟩,
  ⟨0xD0010, [], [⟨31, 31, .wo, 0⟩]⟩,
  ⟨0xD0014, [], [⟨31, 28, .ro, 0⟩, ⟨1, 1, .ro, 0⟩, ⟨0, 0, .ro, 0⟩]⟩,
  ⟨0xD0018, [], [⟨11, 0, .ro, 0⟩]⟩,
  ⟨0xD001C, [], [⟨11, 0, .ro, 0⟩]⟩,
  ⟨0xD0020, [], [⟨31, 16, .ro, 0⟩, ⟨15, 0, .ro, 0x4000⟩]⟩,
  ⟨0xD0024, [], [⟨31, 16, .ro, 0⟩, ⟨15, 0, .ro, 0x4000⟩]⟩,
  ⟨0xD0030, [], [⟨31, 0, .ro, 0⟩]⟩,
  ⟨0xD0034, [], [⟨31, 0, .ro, 0⟩]⟩,
  ⟨0xD0038, [], [⟨31, 0, .ro, 0⟩]⟩,
  ⟨0xD003C, [], [⟨31, 0, .ro, 0⟩]⟩,
  ⟨0xD0040, [], [⟨25, 16, .w1c, 0⟩, ⟨11, 0, .w1c, 0⟩]⟩,
  ⟨0xD0044, [], [⟨0, 0, .wo, 0⟩]⟩,
  ⟨0xD0100, [(2, 0x40)], [⟨31, 28, .ro, 0⟩, ⟨27, 24, .ro, 0⟩, ⟨23, 23, .ro, 0⟩, ⟨22, 22, .ro, 0⟩, ⟨17, 9, .ro, 0⟩, ⟨8, 0, .ro, 0⟩]⟩,
  ⟨0xD0104, [(2, 0x40)], [⟨17, 9, .ro, 0⟩, ⟨8, 0, .ro, 0⟩]⟩,
  ⟨0xD0108, [(2, 0x40)], [⟨8, 0, .ro, 0⟩]⟩,
  ⟨0xD010C, [(2, 0x40)], [⟨11, 8, .rw, 0xA⟩, ⟨5, 4, .rw, 0⟩, ⟨3, 0, .rw, 6⟩]⟩,
  ⟨0xD0110, [(2, 0x40)], [⟨31, 0, .ro, 0⟩]⟩,
  ⟨0xD0114, [(2, 0x40)], [⟨31, 0, .ro, 0⟩]⟩,
  ⟨0xD0118, [(2, 0x40)], [⟨31, 0, .ro, 0⟩]⟩,
  ⟨0xD011C, [(2, 0x40)], [⟨31, 16, .ro, 0⟩, ⟨15, 0, .ro, 0⟩]⟩,
  ⟨0xD1000, [(2, 0x200), (9, 0x20)], [⟨31, 28, .ro, 0⟩, ⟨27, 24, .ro, 0⟩, ⟨23, 16, .ro, 0⟩, ⟨15, 8, .ro, 0⟩]⟩,
  ⟨0xD1004, [(2, 0x200), (9, 0x20)], [⟨28, 25, .ro, 0⟩, ⟨24, 0, .ro, 0⟩]⟩,
  ⟨0xD1008, [(2, 0x200), (9, 0x20)], [⟨31, 0, .ro, 0⟩]⟩,
  ⟨0xD100C, [(2, 0x200), (9, 0x20)], [⟨31, 31, .ro, 0⟩, ⟨30, 30, .ro, 0⟩, ⟨29, 26, .ro, 0⟩, ⟨15, 8, .ro, 0⟩, ⟨7, 0, .ro, 0⟩]⟩]

/-- The registers of the TIDE block. -/
def catalogueTIDE : List RegRow := [
  ⟨0xE0000, [], [⟨31, 31, .wo, 0⟩, ⟨7, 4, .rw, 6⟩, ⟨0, 0, .rw, 0⟩]⟩,
  ⟨0xE0004, [], [⟨31, 28, .rw, 0xA⟩, ⟨25, 16, .rw, 0x28⟩, ⟨15, 10, .rw, 0x14⟩, ⟨8, 0, .rw, 0x14⟩]⟩,
  ⟨0xE0008, [], [⟨31, 29, .ro, 0⟩, ⟨28, 27, .ro, 0⟩, ⟨26, 26, .ro, 0⟩, ⟨25, 25, .ro, 0⟩, ⟨24, 24, .ro, 0⟩, ⟨23, 23, .ro, 0⟩, ⟨22, 22, .ro, 0⟩]⟩,
  ⟨0xE000C, [], [⟨31, 0, .ro, 0⟩]⟩,
  ⟨0xE0010, [], [⟨31, 0, .ro, 0⟩]⟩,
  ⟨0xE0014, [], [⟨31, 0, .ro, 0⟩]⟩,
  ⟨0xE0018, [], [⟨31, 0, .ro, 0⟩]⟩,
  ⟨0xE0020, [(4, 0x4)], [⟨31, 0, .rw, 0⟩]⟩,
  ⟨0xE0030, [], [⟨31, 0, .ro, 0⟩]⟩,
  ⟨0xE0034, [], [⟨15, 0, .ro, 0⟩]⟩,
  ⟨0xE0038, [], [⟨31, 0, .ro, 0⟩]⟩,
  ⟨0xE003C, [], [⟨15, 0, .ro, 0⟩]⟩,
  ⟨0xE0040, [], [⟨7, 0, .w1c, 0⟩]⟩,
  ⟨0xE0044, [], [⟨0, 0, .wo, 0⟩]⟩,
  ⟨0xE0048, [], [⟨31, 0, .ro, 0⟩]⟩,
  ⟨0xE004C, [], [⟨31, 0, .ro, 0⟩]⟩,
  ⟨0xE0050, [], [⟨31, 0, .ro, 0⟩]⟩,
  ⟨0xE0100, [], [⟨31, 0, .rw, 0⟩]⟩,
  ⟨0xE0104, [], [⟨31, 0, .rw, 0⟩]⟩,
  ⟨0xE0108, [], [⟨31, 31, .wo, 0⟩, ⟨30, 29, .wo, 0⟩, ⟨8, 8, .wo, 0⟩, ⟨4, 0, .wo, 0⟩]⟩,
  ⟨0xE010C, [], [⟨31, 28, .ro, 0⟩, ⟨4, 0, .ro, 0⟩]⟩,
  ⟨0xE0110, [], [⟨31, 0, .ro, 0⟩]⟩,
  ⟨0xE0200, [(4, 0x20)], [⟨8, 8, .ro, 0⟩, ⟨2, 2, .rw, 0⟩, ⟨1, 0, .rw, 0⟩]⟩,
  ⟨0xE0204, [(4, 0x20)], [⟨31, 0, .rw, 0⟩]⟩,
  ⟨0xE0208, [(4, 0x20)], [⟨31, 0, .rw, 0⟩]⟩,
  ⟨0xE020C, [(4, 0x20)], [⟨31, 0, .rw, 0⟩]⟩,
  ⟨0xE0210, [(4, 0x20)], [⟨15, 0, .rw, 0⟩]⟩,
  ⟨0xE0214, [(4, 0x20)], [⟨31, 0, .rw, 1⟩]⟩]

/-- The registers of the LOOK block. -/
def catalogueLOOK : List RegRow := [
  ⟨0xF0000, [], [⟨27, 16, .rw, 0x19⟩, ⟨11, 8, .rw, 6⟩, ⟨1, 1, .rw, 0⟩, ⟨0, 0, .rw, 1⟩]⟩,
  ⟨0xF0004, [], [⟨31, 24, .rw, 0xB8⟩, ⟨23, 16, .rw, 0xAE⟩, ⟨15, 8, .rw, 0xB3⟩, ⟨7, 0, .rw, 0x80⟩]⟩,
  ⟨0xF0010, [(4, 0x4)], [⟨15, 0, .rw, 0⟩]⟩,
  ⟨0xF0040, [(20, 0x4)], [⟨31, 31, .rw, 1⟩, ⟨15, 0, .rw, 0⟩]⟩,
  ⟨0xF00A0, [], [⟨31, 12, .ro, 0⟩, ⟨1, 1, .ro, 1⟩, ⟨0, 0, .ro, 0⟩]⟩,
  ⟨0xF00A4, [], [⟨15, 0, .ro, 0xFFFF⟩]⟩,
  ⟨0xF00C0, [(6, 0x4)], [⟨31, 0, .ro, 0⟩]⟩,
  ⟨0xF00E0, [], [⟨31, 31, .ro, 0⟩, ⟨30, 30, .ro, 0⟩, ⟨29, 26, .ro, 0⟩, ⟨25, 21, .ro, 0⟩, ⟨20, 17, .ro, 0⟩, ⟨15, 0, .ro, 0⟩]⟩,
  ⟨0xF00E4, [], [⟨31, 16, .ro, 0⟩, ⟨15, 12, .ro, 0⟩, ⟨11, 0, .ro, 0⟩]⟩,
  ⟨0xF00E8, [], [⟨31, 0, .ro, 0⟩]⟩,
  ⟨0xF00EC, [], [⟨31, 0, .ro, 0⟩]⟩,
  ⟨0xF00F0, [], [⟨1, 0, .w1c, 0⟩]⟩,
  ⟨0xF00F4, [], [⟨0, 0, .wo, 0⟩]⟩,
  ⟨0xF0100, [(20, 0x4)], [⟨31, 16, .ro, 0⟩, ⟨15, 0, .ro, 0⟩]⟩,
  ⟨0xF4000, [(16, 0x100), (64, 0x4)], [⟨31, 16, .rw, 0⟩, ⟨15, 0, .rw, 0⟩]⟩]

/-- The registers of the FEND block. -/
def catalogueFEND : List RegRow := [
  ⟨0x100000, [], [⟨31, 31, .rw, 1⟩, ⟨25, 16, .rw, 0x64⟩, ⟨9, 0, .rw, 0x3E8⟩]⟩,
  ⟨0x100004, [], [⟨31, 31, .wo, 0⟩, ⟨17, 16, .wo, 0⟩, ⟨7, 0, .wo, 0⟩]⟩,
  ⟨0x100008, [], [⟨23, 16, .ro, 0⟩, ⟨15, 0, .ro, 0⟩]⟩,
  ⟨0x10000C, [], [⟨7, 0, .rw, 0⟩]⟩,
  ⟨0x100010, [], [⟨0, 0, .rw, 1⟩]⟩,
  ⟨0x100014, [], [⟨4, 4, .ro, 0⟩, ⟨3, 3, .ro, 0⟩, ⟨2, 2, .ro, 0⟩, ⟨1, 1, .ro, 0⟩, ⟨0, 0, .ro, 0⟩]⟩,
  ⟨0x100018, [], [⟨31, 0, .ro, 0⟩]⟩,
  ⟨0x10001C, [], [⟨31, 0, .ro, 0⟩]⟩,
  ⟨0x100040, [], [⟨16, 16, .w1c, 0⟩, ⟨9, 0, .w1c, 0⟩]⟩,
  ⟨0x100044, [], [⟨0, 0, .wo, 0⟩]⟩,
  ⟨0x100100, [(64, 0x4)], [⟨31, 31, .rw, 0⟩, ⟨27, 16, .ro, 0⟩, ⟨11, 0, .rw, 0⟩]⟩,
  ⟨0x100200, [(64, 0x4)], [⟨31, 31, .ro, 0⟩, ⟨11, 0, .ro, 0⟩]⟩,
  ⟨0x100300, [(8, 0x4)], [⟨31, 31, .rw, 0⟩, ⟨27, 16, .ro, 0⟩, ⟨11, 0, .rw, 0⟩]⟩,
  ⟨0x100320, [(8, 0x4)], [⟨31, 31, .ro, 0⟩, ⟨11, 0, .ro, 0⟩]⟩,
  ⟨0x100400, [(8, 0x40)], [⟨1, 0, .rw, 0⟩]⟩,
  ⟨0x100404, [(8, 0x40)], [⟨31, 31, .wo, 0⟩, ⟨30, 30, .wo, 0⟩, ⟨26, 24, .wo, 0⟩, ⟨23, 20, .wo, 0⟩, ⟨19, 16, .wo, 0⟩, ⟨7, 0, .wo, 0⟩]⟩,
  ⟨0x100408, [(8, 0x40)], [⟨31, 0, .rw, 0⟩]⟩,
  ⟨0x10040C, [(8, 0x40)], [⟨31, 0, .rw, 0⟩]⟩,
  ⟨0x100410, [(8, 0x40), (4, 0x4)], [⟨31, 0, .rw, 0⟩]⟩,
  ⟨0x100420, [(8, 0x40)], [⟨31, 31, .ro, 0⟩, ⟨20, 16, .ro, 0⟩, ⟨7, 4, .ro, 0⟩]⟩,
  ⟨0x100424, [(8, 0x40), (4, 0x4)], [⟨31, 0, .ro, 0⟩]⟩,
  ⟨0x100434, [(8, 0x40)], [⟨31, 31, .ro, 0⟩, ⟨30, 30, .ro, 0⟩, ⟨29, 26, .ro, 0⟩, ⟨25, 25, .ro, 0⟩, ⟨19, 16, .ro, 0⟩]⟩,
  ⟨0x100800, [(32, 0x8)], [⟨31, 31, .rwl, 0⟩, ⟨26, 24, .rwl, 0⟩, ⟨19, 16, .rwl, 0⟩, ⟨7, 0, .rwl, 0⟩]⟩,
  ⟨0x100804, [(32, 0x8)], [⟨15, 8, .rwl, 0⟩, ⟨7, 0, .rwl, 0xFF⟩]⟩,
  ⟨0x100A00, [], [⟨31, 31, .rw, 1⟩, ⟨23, 16, .rw, 0x18⟩, ⟨15, 8, .rw, 0x14⟩, ⟨3, 0, .rw, 3⟩]⟩,
  ⟨0x100A04, [], [⟨31, 20, .rw, 0x9C4⟩, ⟨19, 8, .rw, 0x384⟩, ⟨7, 0, .rw, 0x1E⟩]⟩,
  ⟨0x100A08, [], [⟨31, 0, .ro, 0⟩]⟩,
  ⟨0x100B00, [(64, 0x4)], [⟨31, 31, .ro, 0⟩, ⟨30, 30, .ro, 0⟩, ⟨29, 26, .ro, 0⟩, ⟨25, 25, .ro, 0⟩, ⟨23, 12, .ro, 0⟩, ⟨11, 0, .ro, 0⟩]⟩,
  ⟨0x100F00, [], [⟨31, 31, .rw, 0⟩, ⟨30, 30, .rw, 0⟩, ⟨27, 16, .rw, 0xC8⟩, ⟨11, 0, .rw, 0x32⟩]⟩,
  ⟨0x100F04, [], [⟨3, 3, .ro, 0⟩, ⟨2, 2, .ro, 0⟩, ⟨1, 1, .ro, 1⟩, ⟨0, 0, .ro, 0⟩]⟩,
  ⟨0x100F08, [], [⟨9, 0, .rw, 0x64⟩]⟩,
  ⟨0x100F0C, [], [⟨31, 0, .ro, 0⟩]⟩,
  ⟨0x100F10, [], [⟨31, 0, .ro, 0⟩]⟩,
  ⟨0x100F14, [], [⟨31, 0, .ro, 0⟩]⟩,
  ⟨0x100F18, [], [⟨31, 0, .ro, 0⟩]⟩,
  ⟨0x100F1C, [], [⟨31, 0, .ro, 0⟩]⟩,
  ⟨0x100F20, [], [⟨31, 0, .ro, 0⟩]⟩]

/-- The registers of the BWTR block. -/
def catalogueBWTR : List RegRow := [
  ⟨0x110000, [], [⟨31, 30, .ro, 0⟩, ⟨21, 21, .ro, 0⟩, ⟨20, 20, .ro, 0⟩, ⟨19, 16, .ro, 0⟩]⟩,
  ⟨0x110004, [], [⟨31, 0, .ro, 0⟩]⟩,
  ⟨0x110008, [], [⟨15, 0, .rw, 0x7FFF⟩]⟩,
  ⟨0x110010, [], [⟨31, 31, .ro, 0⟩, ⟨15, 0, .ro, 0⟩]⟩,
  ⟨0x110014, [], [⟨31, 0, .ro, 0⟩]⟩,
  ⟨0x110018, [], [⟨31, 0, .ro, 0⟩]⟩,
  ⟨0x110020, [], [⟨31, 0, .w1c, 0⟩]⟩,
  ⟨0x110024, [], [⟨31, 0, .w1c, 0⟩]⟩,
  ⟨0x110040, [(10, 0x4)], [⟨31, 0, .ro, 0⟩]⟩,
  ⟨0x110080, [], [⟨7, 0, .w1c, 0⟩]⟩,
  ⟨0x110084, [], [⟨0, 0, .wo, 0⟩]⟩,
  ⟨0x110100, [(64, 0x8)], [⟨15, 0, .ro, 0x8000⟩]⟩,
  ⟨0x110104, [(64, 0x8)], [⟨15, 0, .ro, 0⟩]⟩]

/-- The registers of the MON block. -/
def catalogueMON : List RegRow := [
  ⟨0x120000, [(4, 0x400)], [⟨31, 30, .rw, 0⟩, ⟨29, 29, .wo, 0⟩, ⟨28, 28, .rw, 0⟩, ⟨20, 16, .rw, 0⟩, ⟨15, 0, .rw, 0⟩]⟩,
  ⟨0x120004, [(4, 0x400)], [⟨31, 31, .ro, 0⟩, ⟨30, 30, .ro, 0⟩, ⟨29, 29, .ro, 0⟩, ⟨28, 28, .ro, 0⟩, ⟨27, 27, .ro, 0⟩, ⟨20, 16, .ro, 0⟩, ⟨15, 0, .ro, 0⟩]⟩,
  ⟨0x120008, [(4, 0x400)], [⟨0, 0, .wo, 0⟩]⟩,
  ⟨0x12000C, [(4, 0x400)], [⟨31, 16, .ro, 0⟩, ⟨15, 0, .ro, 0x8000⟩]⟩,
  ⟨0x120010, [(4, 0x400)], [⟨31, 31, .wo, 0⟩, ⟨30, 29, .rw, 0⟩, ⟨1, 0, .rw, 0⟩]⟩,
  ⟨0x120014, [(4, 0x400)], [⟨31, 0, .rw, 0⟩]⟩,
  ⟨0x120018, [(4, 0x400)], [⟨31, 0, .rw, 0⟩]⟩,
  ⟨0x12001C, [(4, 0x400)], [⟨19, 0, .rw, 0x3E8⟩]⟩,
  ⟨0x120020, [(4, 0x400)], [⟨31, 0, .ro, 0⟩]⟩,
  ⟨0x120024, [(4, 0x400)], [⟨31, 0, .ro, 0⟩]⟩,
  ⟨0x120028, [(4, 0x400)], [⟨31, 0, .ro, 0⟩]⟩,
  ⟨0x12002C, [(4, 0x400)], [⟨31, 0, .ro, 0⟩]⟩,
  ⟨0x120100, [(4, 0x400), (32, 0x4)], [⟨15, 15, .rw, 0⟩, ⟨14, 12, .rw, 0⟩, ⟨5, 0, .rw, 0⟩]⟩,
  ⟨0x120180, [(4, 0x400), (4, 0x4)], [⟨15, 15, .rw, 0⟩, ⟨14, 12, .rw, 0⟩, ⟨5, 0, .rw, 0⟩]⟩,
  ⟨0x120200, [(4, 0x400), (32, 0x4)], [⟨31, 0, .ro, 0⟩]⟩,
  ⟨0x120280, [(4, 0x400), (4, 0x4)], [⟨31, 0, .ro, 0⟩]⟩,
  ⟨0x121000, [], [⟨4, 0, .w1c, 0⟩]⟩,
  ⟨0x121004, [], [⟨0, 0, .wo, 0⟩]⟩]

/-- The registers of the GAUGE block. -/
def catalogueGAUGE : List RegRow := [
  ⟨0x130000, [], [⟨0, 0, .rw, 0⟩]⟩,
  ⟨0x130004, [], [⟨15, 0, .rw, 0xFFFF⟩]⟩,
  ⟨0x130008, [], [⟨19, 0, .rw, 0xFFFFF⟩]⟩,
  ⟨0x13000C, [], [⟨31, 31, .ro, 0⟩, ⟨19, 16, .ro, 0⟩, ⟨15, 0, .ro, 0⟩]⟩,
  ⟨0x130040, [], [⟨7, 0, .w1c, 0⟩]⟩,
  ⟨0x130044, [], [⟨0, 0, .wo, 0⟩]⟩,
  ⟨0x130050, [], [⟨3, 2, .rw, 0⟩, ⟨1, 0, .rw, 0⟩]⟩,
  ⟨0x130100, [(16, 0x40)], [⟨30, 24, .rw, 0⟩, ⟨18, 16, .rw, 0⟩, ⟨13, 8, .rw, 0⟩, ⟨7, 6, .rw, 0⟩, ⟨3, 3, .rw, 0⟩, ⟨1, 0, .rw, 1⟩]⟩,
  ⟨0x130104, [(16, 0x40)], [⟨27, 0, .rw, 0⟩]⟩,
  ⟨0x130108, [(16, 0x40)], [⟨27, 0, .rw, 1⟩]⟩,
  ⟨0x13010C, [(16, 0x40)], [⟨26, 0, .rw, 0⟩]⟩,
  ⟨0x130110, [(16, 0x40)], [⟨3, 0, .rw, 0⟩]⟩,
  ⟨0x130114, [(16, 0x40)], [⟨15, 0, .rw, 0⟩]⟩,
  ⟨0x130118, [(16, 0x40)], [⟨31, 0, .rw, 0⟩]⟩,
  ⟨0x13011C, [(16, 0x40)], [⟨31, 0, .rw, 0⟩]⟩,
  ⟨0x130120, [(16, 0x40)], [⟨31, 31, .wo, 0⟩, ⟨1, 0, .wo, 0⟩]⟩,
  ⟨0x130124, [(16, 0x40)], [⟨31, 29, .ro, 0⟩, ⟨27, 24, .ro, 0⟩, ⟨19, 16, .ro, 0⟩, ⟨3, 0, .ro, 0⟩]⟩,
  ⟨0x130128, [(16, 0x40)], [⟨31, 31, .ro, 0⟩, ⟨30, 30, .ro, 0⟩, ⟨29, 26, .ro, 0⟩, ⟨3, 0, .ro, 0⟩]⟩,
  ⟨0x13012C, [(16, 0x40)], [⟨31, 16, .ro, 0⟩, ⟨15, 8, .ro, 0⟩, ⟨7, 0, .ro, 0⟩]⟩,
  ⟨0x130130, [(16, 0x40)], [⟨31, 0, .ro, 0⟩]⟩,
  ⟨0x130600, [(4, 0x10)], [⟨31, 31, .rw, 0⟩, ⟨30, 30, .rw, 0⟩, ⟨29, 29, .wo, 0⟩, ⟨28, 28, .wo, 0⟩, ⟨11, 8, .rw, 0⟩, ⟨7, 0, .rw, 0x10⟩]⟩,
  ⟨0x130604, [(4, 0x10)], [⟨31, 0, .ro, 0⟩]⟩,
  ⟨0x130608, [(4, 0x10)], [⟨31, 0, .ro, 0⟩]⟩,
  ⟨0x130700, [(4, 0x40)], [⟨31, 31, .wo, 0⟩, ⟨30, 30, .wo, 0⟩, ⟨23, 16, .rw, 1⟩, ⟨13, 8, .rw, 0⟩, ⟨2, 0, .rw, 0⟩]⟩,
  ⟨0x130704, [(4, 0x40)], [⟨26, 0, .rw, 0⟩]⟩,
  ⟨0x130708, [(4, 0x40)], [⟨26, 0, .rw, 0⟩]⟩,
  ⟨0x13070C, [(4, 0x40)], [⟨31, 0, .rw, 0⟩]⟩,
  ⟨0x130710, [(4, 0x40)], [⟨31, 0, .rw, 0⟩]⟩,
  ⟨0x130714, [(4, 0x40)], [⟨31, 29, .ro, 0⟩, ⟨27, 24, .ro, 0⟩, ⟨15, 0, .ro, 0⟩]⟩,
  ⟨0x130718, [(4, 0x40)], [⟨31, 0, .ro, 0⟩]⟩,
  ⟨0x134000, [(16, 0x400), (16, 0x40), (16, 0x4)], [⟨31, 0, .ro, 0⟩]⟩,
  ⟨0x138000, [(4, 0x1000), (1024, 0x4)], [⟨31, 0, .ro, 0⟩]⟩,
  ⟨0x13C000, [(4096, 0x4)], [⟨31, 0, .ro, 0⟩]⟩]

/-- The registers of the HOLDC block. -/
def catalogueHOLDC : List RegRow := [
  ⟨0x140000, [], [⟨31, 31, .ro, 0⟩, ⟨15, 0, .ro, 0⟩]⟩,
  ⟨0x140004, [], [⟨31, 0, .ro, 0⟩]⟩,
  ⟨0x140008, [], [⟨31, 0, .ro, 0⟩]⟩,
  ⟨0x14000C, [], [⟨31, 0, .ro, 0⟩]⟩,
  ⟨0x140010, [], [⟨31, 0, .ro, 0⟩]⟩,
  ⟨0x140014, [], [⟨7, 0, .ro, 0⟩]⟩,
  ⟨0x140020, [(8, 0x4)], [⟨23, 16, .ro, 0⟩, ⟨15, 8, .ro, 0⟩, ⟨7, 0, .ro, 0x20⟩]⟩,
  ⟨0x140040, [], [⟨4, 0, .w1c, 0⟩]⟩,
  ⟨0x140044, [], [⟨0, 0, .wo, 0⟩]⟩,
  ⟨0x140080, [(5, 0x4)], [⟨31, 0, .ro, 0⟩]⟩]

/-- The registers of the CRANE block. -/
def catalogueCRANE : List RegRow := [
  ⟨0x150000, [], [⟨31, 31, .ro, 0⟩, ⟨15, 0, .ro, 0⟩]⟩,
  ⟨0x150008, [], [⟨15, 0, .rw, 0x3E8⟩]⟩,
  ⟨0x150040, [], [⟨4, 0, .w1c, 0⟩]⟩,
  ⟨0x150044, [], [⟨0, 0, .wo, 0⟩]⟩,
  ⟨0x150100, [(16, 0x40)], [⟨31, 31, .wo, 0⟩, ⟨30, 30, .wo, 0⟩, ⟨29, 29, .rw, 0⟩, ⟨28, 28, .wo, 0⟩, ⟨27, 27, .rw, 0⟩, ⟨4, 0, .rw, 0⟩]⟩,
  ⟨0x150104, [(16, 0x40)], [⟨31, 0, .rw, 0⟩]⟩,
  ⟨0x150108, [(16, 0x40)], [⟨7, 0, .rw, 0⟩]⟩,
  ⟨0x15010C, [(16, 0x40)], [⟨15, 0, .rw, 0⟩]⟩,
  ⟨0x150110, [(16, 0x40)], [⟨31, 29, .ro, 0⟩, ⟨28, 28, .ro, 0⟩, ⟨27, 27, .ro, 0⟩, ⟨26, 26, .ro, 0⟩, ⟨25, 25, .ro, 0⟩, ⟨24, 22, .ro, 0⟩, ⟨21, 19, .ro, 0⟩, ⟨18, 15, .ro, 0⟩]⟩,
  ⟨0x150114, [(16, 0x40)], [⟨31, 0, .ro, 0⟩]⟩,
  ⟨0x150118, [(16, 0x40)], [⟨15, 0, .ro, 0⟩]⟩,
  ⟨0x15011C, [(16, 0x40)], [⟨31, 0, .ro, 0⟩]⟩,
  ⟨0x150120, [(16, 0x40)], [⟨15, 0, .ro, 0⟩]⟩,
  ⟨0x150124, [(16, 0x40)], [⟨31, 0, .ro, 0⟩]⟩,
  ⟨0x150128, [(16, 0x40)], [⟨31, 0, .ro, 0⟩]⟩,
  ⟨0x15012C, [(16, 0x40)], [⟨31, 0, .ro, 0⟩]⟩,
  ⟨0x150130, [(16, 0x40)], [⟨31, 28, .ro, 0⟩, ⟨15, 0, .ro, 0⟩]⟩]

/-- The registers of the THERM block. -/
def catalogueTHERM : List RegRow := [
  ⟨0x160000, [], [⟨31, 31, .wo, 0⟩, ⟨15, 8, .rw, 0x14⟩, ⟨7, 0, .rw, 0xA⟩]⟩,
  ⟨0x160004, [], [⟨31, 16, .rw, 0x7D0⟩, ⟨15, 0, .rw, 0x7D0⟩]⟩,
  ⟨0x160008, [], [⟨31, 31, .ro, 0⟩, ⟨30, 30, .ro, 0⟩, ⟨29, 29, .ro, 0⟩, ⟨28, 28, .ro, 0⟩, ⟨27, 26, .ro, 0⟩, ⟨25, 24, .ro, 0⟩, ⟨23, 19, .ro, 0⟩, ⟨11, 0, .ro, 0⟩]⟩,
  ⟨0x16000C, [], [⟨11, 10, .ro, 0⟩, ⟨9, 8, .ro, 0⟩, ⟨7, 6, .ro, 0⟩, ⟨5, 4, .ro, 0⟩, ⟨3, 2, .ro, 0⟩, ⟨1, 0, .ro, 0⟩]⟩,
  ⟨0x160010, [], [⟨23, 0, .ro, 0⟩]⟩,
  ⟨0x160014, [], [⟨31, 0, .ro, 0⟩]⟩,
  ⟨0x160040, [], [⟨7, 0, .w1c, 0⟩]⟩,
  ⟨0x160100, [(24, 0x4)], [⟨31, 31, .ro, 0⟩, ⟨30, 30, .ro, 0⟩, ⟨29, 26, .ro, 0⟩, ⟨25, 24, .ro, 0⟩, ⟨23, 22, .ro, 0⟩, ⟨11, 0, .ro, 0⟩]⟩]

/-- The registers of the RSV block. -/
def catalogueRSV : List RegRow := [
  ⟨0x170000, [], [⟨17, 0, .ro, 0x3FFFF⟩]⟩,
  ⟨0x170010, [(2, 0x4)], [⟨31, 24, .ro, 0⟩, ⟨23, 20, .ro, 0⟩, ⟨16, 16, .ro, 0⟩, ⟨15, 0, .ro, 0⟩]⟩,
  ⟨0x170018, [], [⟨1, 0, .wo, 0⟩]⟩,
  ⟨0x17001C, [], [⟨14, 8, .ro, 0⟩, ⟨6, 0, .ro, 0⟩]⟩,
  ⟨0x170040, [], [⟨1, 0, .w1c, 0⟩]⟩,
  ⟨0x170100, [(9, 0x4)], [⟨31, 31, .ro, 0⟩, ⟨29, 24, .ro, 0⟩, ⟨23, 12, .ro, 0⟩, ⟨11, 0, .ro, 0⟩]⟩]

/-- The registers of the PILOT block. -/
def cataloguePILOT : List RegRow := [
  ⟨0x180000, [(4, 0x200)], [⟨31, 31, .wo, 0⟩, ⟨23, 16, .wo, 0⟩, ⟨7, 0, .wo, 0⟩]⟩,
  ⟨0x180004, [(4, 0x200)], [⟨31, 31, .ro, 0⟩, ⟨30, 30, .ro, 0⟩, ⟨29, 26, .ro, 0⟩, ⟨23, 20, .ro, 0⟩, ⟨7, 0, .ro, 0⟩]⟩,
  ⟨0x180040, [(4, 0x200), (16, 0x4)], [⟨31, 0, .rw, 0⟩]⟩,
  ⟨0x180080, [(4, 0x200), (16, 0x4)], [⟨31, 0, .ro, 0⟩]⟩,
  ⟨0x1800C0, [(4, 0x200), (2, 0x4)], [⟨31, 0, .ro, 0⟩]⟩,
  ⟨0x181000, [], [⟨31, 31, .ro, 0⟩, ⟨30, 30, .ro, 0⟩, ⟨29, 29, .ro, 0⟩, ⟨7, 0, .ro, 0⟩]⟩,
  ⟨0x181004, [], [⟨31, 0, .ro, 0⟩]⟩,
  ⟨0x181008, [], [⟨31, 31, .ro, 0⟩, ⟨30, 30, .ro, 0⟩, ⟨27, 0, .ro, 0⟩]⟩,
  ⟨0x181040, [], [⟨3, 0, .w1c, 0⟩]⟩,
  ⟨0x182000, [(64, 0x4)], [⟨31, 0, .ro, 0⟩]⟩]

/-- The registers of the SEC block. -/
def catalogueSEC : List RegRow := [
  ⟨0x190000, [], [⟨9, 8, .ro, 0⟩, ⟨7, 0, .ro, 0⟩]⟩,
  ⟨0x190004, [], [⟨31, 31, .wo, 0⟩, ⟨15, 0, .rw, 0x258⟩]⟩,
  ⟨0x190008, [(2, 0x4)], [⟨31, 0, .ro, 0⟩]⟩,
  ⟨0x190010, [], [⟨3, 0, .wo, 0⟩]⟩,
  ⟨0x190020, [], [⟨31, 0, .ro, 0⟩]⟩,
  ⟨0x190024, [], [⟨31, 0, .ro, 0⟩]⟩,
  ⟨0x190028, [], [⟨16, 16, .ro, 0⟩, ⟨10, 8, .ro, 0⟩, ⟨7, 0, .ro, 0⟩]⟩,
  ⟨0x190030, [], [⟨9, 8, .ro, 0⟩, ⟨1, 0, .rw, 0⟩]⟩,
  ⟨0x190040, [], [⟨7, 0, .ro, 0⟩]⟩,
  ⟨0x190044, [], [⟨31, 31, .wo, 0⟩, ⟨3, 0, .wo, 0⟩]⟩,
  ⟨0x190048, [(8, 0x4)], [⟨31, 0, .wh, 0⟩]⟩,
  ⟨0x190068, [], [⟨31, 31, .ro, 0⟩, ⟨3, 0, .ro, 0⟩]⟩,
  ⟨0x190070, [], [⟨7, 0, .w1c, 0⟩]⟩,
  ⟨0x190080, [(8, 0x4)], [⟨31, 0, .ro, 0⟩]⟩,
  ⟨0x1900A0, [(2, 0x20), (8, 0x4)], [⟨31, 0, .ro, 0⟩]⟩,
  ⟨0x190100, [(4, 0x80)], [⟨31, 31, .wo, 0⟩, ⟨30, 30, .wo, 0⟩, ⟨29, 29, .wo, 0⟩, ⟨1, 0, .rw, 0⟩]⟩,
  ⟨0x190104, [(4, 0x80)], [⟨31, 28, .ro, 0⟩, ⟨27, 24, .ro, 0⟩, ⟨23, 16, .ro, 0⟩, ⟨15, 8, .ro, 0⟩, ⟨1, 0, .ro, 0⟩]⟩,
  ⟨0x190120, [(4, 0x80), (8, 0x4)], [⟨31, 0, .ro, 0⟩]⟩,
  ⟨0x190140, [(4, 0x80), (8, 0x4)], [⟨31, 0, .wh, 0⟩]⟩]

/-- The registers of the TALLY block. -/
def catalogueTALLY : List RegRow := [
  ⟨0x1A0000, [], [⟨31, 31, .ro, 0⟩, ⟨27, 20, .ro, 0⟩, ⟨19, 14, .ro, 0x20⟩, ⟨13, 8, .ro, 0x20⟩]⟩,
  ⟨0x1A0004, [], [⟨31, 0, .ro, 0⟩]⟩,
  ⟨0x1A0008, [], [⟨31, 0, .ro, 0⟩]⟩,
  ⟨0x1A0010, [], [⟨31, 0, .rw, 0⟩]⟩,
  ⟨0x1A0050, [], [⟨4, 0, .w1c, 0⟩]⟩,
  ⟨0x1A0100, [(16, 0x4)], [⟨31, 0, .ro, 0⟩]⟩,
  ⟨0x1A0200, [(15, 0x4)], [⟨31, 0, .rw, 0⟩]⟩,
  ⟨0x1A0240, [], [⟨0, 0, .wo, 0⟩]⟩]

/-- The register rows of block number `n` (24_register_map.md R469). -/
def catalogueOf (n : Nat) : List RegRow :=
  match n with
  | 0 => catalogueTOP
  | 1 => cataloguePWR
  | 2 => catalogueCLK
  | 3 => catalogueBOOT
  | 4 => catalogueRXA
  | 5 => catalogueRXD
  | 6 => catalogueTXA
  | 7 => catalogueTXD
  | 8 => catalogueDPD
  | 9 => catalogueQCTL
  | 10 => catalogueBERTH
  | 11 => catalogueFHL
  | 12 => catalogueFHM
  | 13 => catalogueRING
  | 14 => catalogueTIDE
  | 15 => catalogueLOOK
  | 16 => catalogueFEND
  | 17 => catalogueBWTR
  | 18 => catalogueMON
  | 19 => catalogueGAUGE
  | 20 => catalogueHOLDC
  | 21 => catalogueCRANE
  | 22 => catalogueTHERM
  | 23 => catalogueRSV
  | 24 => cataloguePILOT
  | 25 => catalogueSEC
  | 26 => catalogueTALLY
  | _ => []

/-- Whether offset `d` from a register's base is one of its repeated words. -/
def dimsHit : List (Nat × Nat) → Nat → Bool
  | [], d => d == 0
  | (n, st) :: ds, d => d / st < n && dimsHit ds (d % st)

/-- Whether address `a` is a word of register row `r`. -/
def RegRow.covers (r : RegRow) (a : Nat) : Bool :=
  decide (r.base ≤ a) && dimsHit r.dims (a - r.base)

/-- The register row that holds address `a`, if the block's chapter defines one (R468). -/
def findReg (a : Nat) : Option RegRow :=
  (catalogueOf (a / 0x10000)).find? (fun r => r.covers a)

/-- The word of a row with every field at its reset value. -/
def RegRow.resetNat (r : RegRow) : Nat :=
  r.fields.foldl (fun acc f => acc + f.reset % 2 ^ (f.hi - f.lo + 1) * 2 ^ f.lo) 0

/-- Registers whose reset value depends on the index: LOOK.SBk, LOOK.SCHs (16_lookout_and_coexistence.md), DPD.TERM0
(09_predistortion.md) and the coefficient sets' one stated property, unity gain at DC (R138, R154; log entry 6). -/
def resetOverride (a : Nat) : Option Nat :=
  if 0xF0010 ≤ a ∧ a < 0xF0020 then
    some (ofSigned 16 (-15000 + 10000 * (((a - 0xF0010) / 4 : Nat) : Int)))
  else if 0xF0040 ≤ a ∧ a < 0xF0090 then
    some (0x80000000 + ofSigned 16 (-19000 + 2000 * (((a - 0xF0040) / 4 : Nat) : Int)))
  else if a = 0x80100 then some 0x80000100
  else if a ∈ [0x52000, 0x52080, 0x52100, 0x52140, 0x72000, 0x72080, 0x72100, 0x72140] then some 32768
  else if 0x56000 ≤ a ∧ a < 0x56400 ∧ a % 4 = 0 then some 131071
  else if a = 0xA0030 ∨ a = 0xA0034 ∨ a = 0xA0038 ∨ a = 0xA003C then some 0xFFFFFFFF
  else none

/-- The word a register reads at reset, before any image is applied: the Reset column of its field table. -/
def resetWord (a : Nat) : Word :=
  match resetOverride a with
  | some v => BitVec.ofNat 32 v
  | none =>
    match findReg a with
    | some r => BitVec.ofNat 32 r.resetNat
    | none => 0

end Sys2Proof.Machine
end

