-- ==== Sys2Proof/Machine/State.lean ====
section
/-! DEFINITION. The state of the UM6464 block: plain data, holding every piece of state the spec gives the device
(INVENTORY.md, State), and State.reset. Register fields live in `regs`; a word that is not listed holds its reset value. What
the chapters give beside registers stands in one record per chapter. -/

namespace Sys2Proof.Machine

/-- The three parts (00_scope.md R1, R2). -/
inductive Part
  | um6464p | um6464 | um6432
  deriving DecidableEq, Repr

/-- No command of the block stops the machine: what the spec calls a fault is state (03 to 23). The type is closed and has
one constructor that no meaning raises. -/
inductive Fault
  /-- Raised by nothing: kept so that the type has a name to write down. Safe. -/
  | none
  deriving DecidableEq, Repr

/-- The refusals. -/
inductive Refusal
  /-- Raised by an arm of exec whose command has no meaning yet. Safe: the run stops. -/
  | notModelled (mnemonic : String)
  deriving DecidableEq, Repr

/-- A state transition in progress (03_power_and_states.md R52): the target state's code, the kept brick of Doze, the cause
recorded at its end, and whether the way goes through the boot steps 8 to 13. -/
structure Transition where
  target : Nat
  brick : Nat
  cause : Nat
  boot : Bool
  deriving DecidableEq, Repr

/-- Power (03_power_and_states.md). -/
structure Power where
  /-- No supply (R42). -/
  off : Bool := false
  /-- POR_N, RESET_N and the supervisor hold reset (02_package_and_pins.md R35, R36). -/
  por : Bool := false
  rst : Bool := false
  sup : Bool := false
  /-- The reset that preceded sampling was RESET_N (BOOT.STRAP.SRC, R37). -/
  srcRstN : Bool := false
  /-- The 10 µs wait before the straps are sampled runs (R37). -/
  strapWait : Bool := true
  /-- Straps are latched (R37). -/
  latched : Bool := false
  /-- The flash has reported not busy since reset (R39). -/
  nvmReady : Bool := false
  /-- The transition in progress and the pending request: state code and brick (R55). -/
  trans : Option Transition := none
  pendReq : Option (Nat × Nat) := none
  /-- The instant at which the device began to leave Run, until it is back in Run (R53). -/
  leftRun : Option Stamp := none
  /-- AVS: calm count, unanswered transactions in a row, loop stopped, warning standing (R57, R59). -/
  calm : Nat := 0
  noAns : Nat := 0
  avsStop : Bool := false
  avsWarn : Bool := false
  /-- Instants (AON) since when the target stands at VMAX without recovery, and since when it has recovered (R58). -/
  ceilSince : Option Nat := none
  okSince : Option Nat := none
  /-- Surge budget B in µJ (R61). -/
  surge : Nat := 900000000
  deriving DecidableEq, Repr

/-- Levels of the balls (02_package_and_pins.md R32): outputs as driven, inputs as last seen. Masks hold one bit per pin. -/
structure Pins where
  tpulse : Nat := 0
  trsw : Nat := 0
  drain : Nat := 0
  coexReq : Bool := false
  coexPri : Bool := false
  coexGnt : Bool := true
  coexAct : Bool := false
  gtrig : Bool := false
  trstN : Bool := false
  /-- IRQ_N[0], IRQ_N[1] driven low (24_register_map.md R476). -/
  irq0 : Bool := false
  irq1 : Bool := false
  deriving DecidableEq, Repr

/-- The fuses (23_pilot_security_debug.md R451, R464 to R466; R379 repairs): key bytes, digests, revocations. -/
structure Fuses where
  devid : Nat := 1
  keyOperator : Option (List (BitVec 8)) := none
  keyService : Option (List (BitVec 8)) := none
  keyVendor : List (BitVec 8) := []
  regDigest : Option (List (BitVec 8)) := none
  imgKey0 : Option (List (BitVec 8)) := none
  imgKey1 : Option (List (BitVec 8)) := none
  revoked0 : Bool := false
  revoked1 : Bool := false
  /-- Burned row repairs of Hold: (channel, row). -/
  repairs : List (Nat × Nat) := []
  deriving DecidableEq, Repr

/-- A synthesiser (04_clocks_and_synthesisers.md R75 to R80). -/
structure Syn where
  /-- N and DIV in force. -/
  n : Nat := 0
  div : Nat := 0
  /-- An armed retune: N, DIV, stamp, whether the pair moves together. -/
  armed : Option (Nat × Nat × Stamp × Bool) := none
  /-- End of the settle window. -/
  settleEnd : Option Stamp := none
  /-- Start of the lock in progress (AON), for LOCK_T; unlocked since (AON). -/
  lockStart : Nat := 0
  unlockedSince : Option Nat := none
  /-- Its wear (22_reserve.md R437): AON instants of the losses within the hour. -/
  losses : List Nat := []
  deriving DecidableEq, Repr

/-- A swap or route mute (R80, R81): when it began, which directions (bit 0 transmit, bit 1 receive), the instant it ends
and whether the dividers were reset in it. -/
structure SwapMute where
  begin : Stamp
  dirs : Nat
  lift : Stamp
  deriving DecidableEq, Repr

/-- Clocks (04_clocks_and_synthesisers.md). -/
structure Clk where
  refPresent : Bool := true
  okWindows : Nat := 0
  everLocked : Bool := false
  /-- Entry into holdover (AON). -/
  hoSince : Option Nat := none
  /-- Build-out offset in the phase detector, ps (R70). -/
  buildOut : Int := 0
  /-- The CPLL lock of R73 in progress since (AON). -/
  lockSince : Option Nat := none
  gatesOpen : Bool := false
  /-- Phase of the three-tick rotation (R71). -/
  rot : Nat := 0
  syn0 : Syn := {}
  syn1 : Syn := {}
  swap : Option SwapMute := none
  /-- Grid edge at which the LODIST dividers are reset next (R82), and whether they stand aligned. -/
  divReset : Option Stamp := none
  aligned : Bool := false
  /-- Spread settings in force per link PLL (R84), and lock held since (R85). -/
  ssc : List Nat := [0, 0, 0, 0]
  lpllSince : List (Option Nat) := [none, none, none, none]
  deriving DecidableEq, Repr

/-- A slot tag (05_startup_and_configuration.md R92): 0 GOOD, 1 TRIAL, 2 BAD, 3 absent. -/
structure SlotTag where
  tag : Nat := 0
  seq : Nat := 0
  tries : Nat := 0
  deriving DecidableEq, Repr

/-- Sections of the applied image, as held in the configuration store (R94): register entries in image order, and the bodies
of the other sections. -/
structure Store where
  applied : Bool := false
  reg : List (Nat × Nat) := []
  quay : List (Nat × List (BitVec 8)) := []
  berth : List (List (BitVec 8)) := []
  seeds : List (List (BitVec 8)) := []
  safe : List (BitVec 8) := []
  manifold : List (BitVec 8) := []
  pilotFw : List (BitVec 8) := []
  deriving DecidableEq, Repr

/-- Boot and Slipway (R88 to R99). -/
structure Boot where
  /-- t0 of this boot (AON). -/
  t0 : Nat := 0
  /-- Straps as latched. -/
  bootSel : Nat := 0
  chipId : Nat := 0
  /-- The boot proceeds by steps 9 to 13; 0 none, else the final state code. -/
  goal : Nat := 0
  /-- Start-up calibrations of this raise are done (step 10). -/
  calDone : Bool := false
  tagA : SlotTag := {}
  tagB : SlotTag := {}
  device1 : Bool := true
  store : Store := {}
  /-- Slipway: an OPEN is in force; the running operation (OP, SECTOR). -/
  slipOpen : Bool := false
  slipOp : Option (Nat × Nat) := none
  /-- A scheduled self-reset (R278, R463): AON instant. -/
  selfReset : Option Nat := none
  deriving DecidableEq, Repr

/-- A record of Tally on flash: working sector, slot in the sector, and its contents (R100, R492). -/
structure TallyRec where
  sector : Nat
  slot : Nat
  seq : Nat
  stamp : Stamp
  code : Nat
  payload : List (BitVec 8)
  committed : Bool
  deriving DecidableEq, Repr

/-- A record waiting in the queue of R103. -/
structure TallyQ where
  stamp : Stamp
  code : Nat
  payload : List (BitVec 8)
  deriving DecidableEq, Repr

/-- Tally (R100 to R105). `phase`: 0 nothing is being programmed, 1 bytes 0 to 62 of the head of the queue, 2 its commit
marker. -/
structure Tally where
  recs : List TallyRec := []
  queue : List TallyQ := []
  sector : Nat := 0
  slot : Nat := 0
  lap : Nat := 0
  seq : Nat := 0
  phase : Nat := 0
  /-- Sectors ahead of the write pointer that stand erased, and whether an erase runs. -/
  ahead : Nat := 4
  erasing : Bool := false
  /-- Working sectors lost with no spare left. -/
  gone : List Nat := []
  lostSince : Nat := 0
  /-- SPARES_LOW raised per half (bit h), WRITES_DEFERRED raised in the present forbidden period. -/
  lowRaised : Nat := 0
  deferRaised : Bool := false
  /-- The boot scan is done (R102). -/
  scanned : Bool := false
  /-- Spares used, per half. -/
  used0 : Nat := 0
  used1 : Nat := 0
  deriving DecidableEq, Repr

/-- An entry of a timed pin's queue (15_tide.md R311). -/
structure TimedEntry where
  at_ : Stamp
  level : Bool
  /-- The pulse generator's own entry: its edge falls at this instant. -/
  auto : Bool := false
  deriving DecidableEq, Repr

/-- The exchange in progress on the source (15_tide.md R300): its measurement ID and the instants known so far, in units of
2^-16 ns since the epoch (t4, t1 with their compensations applied). -/
structure Exchange where
  id : Nat
  start : Nat
  t1 : Option Int := none
  t2 : Option Int := none
  t3 : Int := 0
  t4 : Option Int := none
  remoteSent : Bool := false
  deriving DecidableEq, Repr

/-- Tide (15_tide.md). `now` counts units of 2^-16 ns since the epoch. -/
structure Tide where
  now : Nat := 0
  /-- Remainders of the frequency trim (2^-40 of a unit) and of the slew (10^-9 of a unit). -/
  trimRem : Int := 0
  slewRem : Nat := 0
  /-- FTRIM (2^-40) and PEND (2^-16 ns). -/
  ftrim : Int := 0
  pend : Int := 0
  nextId : Nat := 0
  xchg : Option Exchange := none
  /-- 2d of the last 16 complete exchanges since the restart, newest first (2^-16 ns). -/
  delays : List Int := []
  /-- theta of the last four accepted exchanges, newest first, in 1/250 of 2^-16 ns. -/
  thetas : List Int := []
  /-- The estimate to come is the first after a source or topology change. -/
  fresh : Bool := false
  /-- The last source in use, if any was. -/
  lastSrc : Option Nat := none
  /-- Consecutive estimates within the limit; AON of the last accepted exchange. -/
  good : Nat := 0
  lastAccept : Nat := 0
  /-- The latest estimate, in 1/1000 of 2^-16 ns. -/
  latestTheta : Int := 0
  /-- Follow_Up owed to a Request with Follow_Up, per link: measurement ID and t2. -/
  owed : List (Nat × Nat × Int) := []
  /-- Queues of the timed pins, by pin code (R311). -/
  queues : List (Nat × List TimedEntry) := []
  /-- Pulse generators: index k of the next pulse (R313). -/
  tpNext : List Nat := [0, 0, 0, 0]
  deriving DecidableEq, Repr

/-- A notification waiting for a type 7 message (13_fronthaul_messages.md R279). -/
structure Notice where
  code : Nat
  info : Nat
  stamp : Stamp
  deriving DecidableEq, Repr

/-- Alignment in force of a path and direction (11_berths_and_beam_schedule.md R225): ALIGN in 1/256 ns and PCAL in Q2.14. -/
structure Aligned where
  align : Int := 0
  re : Int := 16384
  im : Int := 0
  deriving DecidableEq, Repr

/-- A berth as the weight cache holds it (R233): its number, descriptor and the bytes of its weight table that are not 0, by
offset. -/
structure Cached where
  num : Nat := 0
  cls : Nat := 0
  sectors : Nat := 0
  mask : Nat := 18446744073709551615
  cells : List Host.Cell := []
  deriving DecidableEq, Repr

/-- A berth in force from an instant on (units since the epoch), with the effective mask and the scale (Q2.14) it has
(R228, R229, R234). -/
structure InForce where
  since : Nat := 0
  berth : Cached := {}
  eff : Nat := 18446744073709551615
  scale : Nat := 16384
  deriving DecidableEq, Repr

/-- An entry of a schedule queue (R231): instant, berth, and its copy once staged (R233). -/
structure SchedEntry where
  at_ : Stamp
  num : Nat
  copy : Option Cached := none
  deriving DecidableEq, Repr

/-- Berths (11_berths_and_beam_schedule.md). Lists with two places hold TX in place 0 and RX in place 1. -/
structure Berth where
  /-- Alignment in force: key 2 × path + direction (0 TX, 1 RX); writes waiting for their block, with the instant. -/
  aligned : List (Nat × Aligned) := []
  alignAt : List (Nat × Nat) := []
  /-- Berths in force, newest first: at most ten are kept, for streams that lag. -/
  forceTx : List InForce := [{}]
  forceRx : List InForce := [{}]
  /-- Schedule queues in stamp order. -/
  queueTx : List SchedEntry := []
  queueRx : List SchedEntry := []
  /-- The mask of present, not retired and not thinned paths that berths are combined with now, per direction, and the
  instant (units since the epoch) at which a changed one applies at the latest (R228). -/
  combTx : Nat := 18446744073709551615
  combRx : Nat := 18446744073709551615
  maskAtTx : Option Nat := none
  maskAtRx : Option Nat := none
  /-- The throttle level's count of quads thinned was lifted and waits for the PA of these quads (R230). -/
  lifting : Nat := 0
  /-- Berth calibration: kinds (1 TX, 2 RX), end of the wait (AON), end of the span (units since the epoch). -/
  cal : Option (Nat × Nat × Option Nat) := none
  deriving DecidableEq, Repr

/-- A band entry of the regulatory record: kHz, MHz, 0.1 dBm, %, ms, µs, 10 µs (17_front_end_control_and_breakwater.md). -/
structure BwBand where
  fLo : Nat
  fHi : Nat
  bwMin : Nat
  bwMax : Nat
  port : Int
  total : Int
  tx : Bool
  shared : Bool
  duty : Nat
  win : Nat
  wUs : Nat
  cot : Nat
  deriving DecidableEq, Repr

/-- The regulatory record as read from a valid body: BLK_MARGIN and XCHK_DB in 0.1 dB, ED_MAX in dBm, bands, gain frequencies
in kHz and the PA-gain table in 0.01 dB, entry 8 × path + i. -/
structure BwRecord where
  version : Nat
  margin : Int
  xchk : Int
  edMax : Int
  bands : List BwBand
  freqs : List Nat
  gains : List Int
  deriving DecidableEq, Repr

/-- A judged block of a path (R351): its number, P in 0.01 dBm with and without E_nn, P in units of 2^-32 mW, and whether a
later mean counts it. -/
structure BwBlock where
  n : Nat
  p : Int
  base : Int
  lin : Nat
  counted : Bool
  deriving DecidableEq, Repr

/-- The cross-check of a path (R353): consecutive readings above and within XCHK_DB, the excess E_nn in 0.01 dB. -/
structure BwCheck where
  above : Nat := 0
  inside : Nat := 0
  e : Int := 0
  deriving DecidableEq, Repr

/-- A clearance (R355, R356): T_r, sectors, subchannels, window, the instant from which the burst is muted. -/
structure BwLbt where
  tr : Nat
  sectors : Nat
  schs : List Nat
  w : Nat
  mutedFrom : Option Nat
  deriving DecidableEq, Repr

/-- Breakwater (17_front_end_control_and_breakwater.md). -/
structure Bwtr where
  record : Option BwRecord := none
  /-- The governing band (R350). -/
  band : Option Nat := none
  /-- The burst in progress: T_r in units since the epoch (R353). -/
  burst : Option Nat := none
  lbt : Option BwLbt := none
  /-- The last block judged, paths muted under PORT and under TOTAL in it; history by path, newest first. -/
  block : Option Nat := none
  portMute : Nat := 0
  totalMute : Nat := 0
  hist : List (Nat × List BwBlock) := []
  checks : List (Nat × BwCheck) := []
  /-- The last granule decided and whether it is muted; runs (first, number) of transmitting granules, newest first. -/
  granule : Option Nat := none
  granMute : Bool := false
  runs : List (Nat × Nat) := []
  deriving DecidableEq, Repr

/-- A channel of Crane beside its registers (20_crane.md R402 to R417). -/
structure Chan where
  /-- What it is at: 0 nothing, 1 the fetch of the Manifest at HEAD, 2 carrying it out, 3 its write-back. -/
  phase : Nat := 0
  /-- The eight words of the Manifest in progress, and whether its checks have been made. -/
  man : List Nat := []
  begun : Bool := false
  /-- Bytes moved (issued, for a remote write), the CAUSE so far and the offset that goes with it. -/
  moved : Nat := 0
  cause : Nat := 0
  failAt : Option Nat := none
  /-- Mismatched words so far, the first of them, the first poisoned granule. -/
  mism : Nat := 0
  firstMis : Option Nat := none
  poison : Option Nat := none
  /-- The brick of a remote write; the pieces that await an answer: number and AON limit. -/
  brick : Nat := 0
  await : List (Nat × Nat) := []
  /-- A STOP waits for the accesses in flight. -/
  stop : Bool := false
  deriving DecidableEq, Repr

/-- Crane (20_crane.md): the channels in use, by number, and the mask of those whose GO Pilot wrote (R448). -/
structure Crane where
  chans : List (Nat × Chan) := []
  byPilot : Nat := 0
  deriving DecidableEq, Repr

/-- A cross-fade (09_predistortion.md R181, R190): from bank `src` or, for a refresh, between coefficient lists of bank `dst`;
first air index and length. -/
structure Fade where
  src : Nat
  dst : Nat
  startK : Nat
  len : Nat
  /-- Coefficients faded from and to, for a refresh; empty lists for a swap. -/
  old : List Cx := []
  new : List Cx := []
  deriving DecidableEq, Repr

/-- A solver's update waiting for its refresh (R190): bank, coefficients, whether it restores the undo copy. -/
structure Refresh where
  bank : Nat
  coef : List Cx
  revert : Bool
  deriving DecidableEq, Repr

/-- The predistorter of a path. -/
structure DpdPath where
  fade : Option Fade := none
  refresh : Option Refresh := none
  /-- Undo copies by bank (R190). -/
  undo : List (Nat × List Cx) := []
  /-- The capture taken and not yet solved: its bank, whether software has written the bank since (R194), its end
  (units since the epoch). -/
  capture : Option (Nat × Bool × Nat) := none
  /-- The bank and NMSE of the capture that produced the last applied update, until the comparison (R192). -/
  applied : Option (Nat × Int) := none
  /-- Consecutive alignment failures (R188); consecutive results above ERR_DB and whether DPD_ERR stands (R193). -/
  alignBad : Nat := 0
  errRun : Nat := 0
  errUp : Bool := false
  deriving DecidableEq, Repr

/-- An ORX slot in progress (R186): path, its start (AON). -/
structure OrxSlot where
  path : Nat
  start : Nat
  deriving DecidableEq, Repr

/-- An ORX ADC (R183): slices in service, longest serving first, the spare, consecutive bad calibrations. -/
structure OrxAdc where
  order : List Nat := [0, 1, 2, 3, 4, 5, 6, 7, 8, 9, 10, 11, 12, 13, 14, 15]
  spare : Option Nat := some 16
  resid : List Nat := [0, 0, 0, 0, 0, 0, 0, 0, 0, 0, 0, 0, 0, 0, 0, 0, 0]
  retired : Nat := 0
  deriving DecidableEq, Repr

/-- Predistortion (09_predistortion.md). -/
structure Dpd where
  paths : List (Nat × DpdPath) := []
  /-- Swap requests waiting for their air index: index, bank, path mask, software (R180). -/
  requests : List (Nat × Nat × Nat) := []
  orx : List (Nat × OrxAdc) := []
  /-- The last path observed per ORX, and the AON instant of the last slot per ORX (R184, R195). -/
  lastPath : List (Nat × Nat) := []
  lastSlot : List (Nat × Nat) := []
  /-- AON instant of the last slot of a path in NOFB (R184). -/
  nofbSlot : List (Nat × Nat) := []
  /-- The retention store in SHELL (R196): bank words by window offset, EMPTY by path (as register values), FROZEN and NOFB
  masks, DLY words. -/
  store : List Host.Cell := []
  storeStat : List (Nat × Nat) := []
  storeDly : List (Nat × Nat) := []
  deriving DecidableEq, Repr

/-- A bias or auxiliary output on its way: the voltage it left from in µV, when (AON), the range and code it goes to, and the
rate in mV/ms (17_front_end_control_and_breakwater.md R337, R338). -/
structure BiasMove where
  from_ : Int
  since : Nat
  range : Nat
  code : Nat
  rate : Nat
  deriving DecidableEq, Repr

/-- A PA sequencer (R339). `step`: 0 none; 1 moving to SAFE, 3 drain wait, 4 ramp up of the ON sequence; 5 ramp down, 6 drain
wait of the OFF sequence. -/
structure PaSeq where
  step : Nat := 0
  waitEnd : Nat := 0
  deriving DecidableEq, Repr

/-- An RFFE command in a master's queue (R345). -/
structure RfCmd where
  cmd : Nat
  usid : Nat
  bc : Nat
  addr : Nat
  data : List (BitVec 8)
  at_ : Option Stamp
  deriving DecidableEq, Repr

/-- An RFFE master: its queue of 16, the command on the bus and the AON instant of its end. -/
structure Rffe where
  queue : List RfCmd := []
  busy : Option RfCmd := none
  ends : Nat := 0
  deriving DecidableEq, Repr

/-- The mismatch checker of a path (R347, R348): latest forward and reverse readings not yet paired (power in 0.01 dBm, whether it qualifies), and the runs of
qualifying pairs below and above the thresholds. -/
structure MmPath where
  fwd : Option (Int × Bool) := none
  rev : Option (Int × Bool) := none
  runLow : Nat := 0
  runHigh : Nat := 0
  deriving DecidableEq, Repr

/-- Front-end control (17_front_end_control_and_breakwater.md). -/
structure Fend where
  moves : List (Nat × BiasMove) := []
  seqs : List (Nat × PaSeq) := []
  /-- The drain level each sequencer sets. -/
  drainSeq : Nat := 0
  /-- Quads to be switched on again when the last fault cause clears (R343); the drains-off instant of the fault (AON). -/
  reissue : Nat := 0
  drainOffAt : Option Nat := none
  /-- Quads thinned, and those among them that were ON or in RAMP_UP when thinned (R230, R341). -/
  thinned : Nat := 0
  thinOn : Nat := 0
  /-- A written TXGATE waiting for its instant (R342). -/
  txgateNext : Option (Bool × Stamp) := none
  txgate : Bool := true
  rf : List (Nat × Rffe) := []
  mm : List (Nat × MmPath) := []
  deriving DecidableEq, Repr

/-- A replay engine that waits or plays (19_hold_and_gauge.md R397, R398): the air index of the first sample of the set being
played, the set, the pass, and whether STOP was written. -/
structure RpEngine where
  setK : Nat
  set : Nat
  pass : Nat
  stop : Bool
  deriving DecidableEq, Repr

/-- A sample at a tap point: its number in the stream, value and tags (R382, R383). -/
structure TapSample where
  n : Nat
  v : Cx
  inv : Bool := false
  ovr : Bool := false
  act : Bool := false
  deriving DecidableEq, Repr

/-- The trigger that fixed a record (R388, R389): event instant (units since the epoch), FRAC, WIN, COINC. -/
structure GaugeWin where
  at_ : Nat
  frac : Nat
  win : Nat
  coinc : Nat
  deriving DecidableEq, Repr

/-- A Gauge channel (R383 to R391): the number of the first sample of set 0 of its slot, the next set, the sets written or
dropped (set, instant of its first sample, dropped), newest first, the run of drops in progress, samples not yet in a set by
stream, trigger events not yet decided, the set of the accepted trigger with its record data, the number of the next record
and the slots that hold records. -/
structure GaugeChan where
  n0 : Int := 0
  set : Nat := 0
  sets : List (Nat × Nat × Bool) := []
  dropping : Bool := false
  buf : List (Nat × List TapSample) := []
  trigs : List (Nat × Nat) := []
  trig : Option (Nat × GaugeWin) := none
  recNo : Nat := 0
  full : Nat := 0
  /-- Deep functions: the samples of the spectrum block in progress, oldest first, none for a bad one, and the spectra since
  the last decay (R396). -/
  block : List (Option Cx) := []
  spectra : Nat := 0
  deriving DecidableEq, Repr

/-- Hold, Gauge and replay. -/
structure Hold where
  /-- Poisoned granules (R377). -/
  poison : List Nat := []
  /-- Rows (channel, row) that showed a corrected error on the pass before and on the present one (R379). -/
  rowsBefore : List (Nat × Nat) := []
  rowsNow : List (Nat × Nat) := []
  /-- Remaps held and not yet burned, oldest first. -/
  remaps : List (Nat × Nat) := []
  /-- The next granule of the scrubber (R378). -/
  scrub : Nat := 0
  engines : List (Nat × RpEngine) := []
  chans : List (Nat × GaugeChan) := []
  /-- Cells of the deep channels' maps: key d × 32768 + 256 × row + column (R396). -/
  map : List (Nat × Nat) := []
  deriving DecidableEq, Repr

/-- The TAP (23_pilot_security_debug.md R461, R462): the instruction in force (0 BYPASS, 1 IDCODE, 2 SAMPLE/PRELOAD, 3 EXTEST),
the bypass bit, the boundary register, the levels held before EXTEST, and whether TRACE streams. -/
structure Jtag where
  ir : Nat := 0
  bypass : Bool := false
  boundary : List Bool := []
  saved : Option Pins := none
  trace : Bool := false
  deriving DecidableEq, Repr

/-- A brick or ring port's lane layer (12_fronthaul_physical.md). Masks hold one bit per lane, 0 to 8. -/
structure LinkPort where
  /-- Minimal link of Dry dock (R261). -/
  mini : Bool := false
  /-- AON instants of the entry into DETECT and into the present state. -/
  attempt : Nat := 0
  stage : Nat := 0
  /-- Training: consecutive good ALIGN sets by lane, failed lanes, lanes with a code violation in QUALIFY. -/
  lock : List Nat := [0, 0, 0, 0, 0, 0, 0, 0, 0]
  failed : Nat := 0
  viol : Nat := 0
  /-- ALIGN sets sent with RXSTATE 6, consecutive accepted sets with RXSTATE 6, the transmitter's superframes are mission
  superframes, their SEQ (R249). -/
  sent6 : Nat := 0
  got6 : Nat := 0
  txMode : Bool := false
  txSeq : Nat := 0
  /-- Lanes named in RXOFF; superframes for which each has been asked without TXOFF naming it; stalls reported (R255). -/
  rxoff : Nat := 0
  asked : List (Nat × Nat) := []
  stalled : Nat := 0
  /-- Transmit lanes removed because the far end asked (R255, R256). -/
  txOut : Nat := 0
  /-- The far end's RXOFF and NARROW in the last accepted set (R255, R260). -/
  farOff : Nat := 0
  farNarrow : Bool := false
  /-- This end asks for a two-lane stripe; lanes that requalify before NARROW is cleared. -/
  narrow : Bool := false
  widen : Nat := 0
  /-- Superframes in a row without an accepted set, and by lane without a good set (R259, R253). -/
  miss : Nat := 0
  laneMiss : List Nat := [0, 0, 0, 0, 0, 0, 0, 0, 0]
  /-- Code violations in the present superframe by lane. -/
  cv : List Nat := [0, 0, 0, 0, 0, 0, 0, 0, 0]
  /-- Failed requalifications by lane; repair entries (lane, AON). -/
  tries : List Nat := [0, 0, 0, 0, 0, 0, 0, 0, 0]
  flaps : List (Nat × Nat) := []
  /-- Repaired columns not yet counted in a unit of 1,024. -/
  repRem : Nat := 0
  /-- Frames: no frame is taken until an idle set (R265); a bad column came since the last frame; the bytes of the last
  column delivered. -/
  waitIdle : Bool := false
  bad : Bool := false
  col : List (BitVec 8) := []
  deriving DecidableEq, Repr

/-- The lane layers: link 0 brick A, 1 brick B, 2 ring east, 3 ring west. -/
structure Link where
  ports : List (Nat × LinkPort) := []
  deriving DecidableEq, Repr

/-- A preamble watcher (16_lookout_and_coexistence.md R323 to R328): 0 SEARCH, 1 SYNC, 2 SIG, 3 BUSY; instant of its detection,
sync point t_y, latched strength P in 0.01 dBm, busy end, and the instant until which it ignores detections (units since the
epoch). -/
structure Watcher where
  state : Nat := 0
  det : Nat := 0
  ty : Nat := 0
  p : Int := 0
  te : Nat := 0
  deaf : Nat := 0
  deriving DecidableEq, Repr

/-- A beam and subchannel: bins with sensed samples (end of the bin, their number), newest first; busy spans [lo, hi), open
while a reception runs, with the watcher it belongs to; the two watchers. -/
structure LookKey where
  bins : List (Nat × Nat) := []
  busy : List (Nat × Option Nat × Nat) := []
  w0 : Watcher := {}
  w1 : Watcher := {}
  deriving DecidableEq, Repr

/-- Lookout (16_lookout_and_coexistence.md). -/
structure Look where
  /-- Spans tagged ACT, newest first: from a COEX_ACT rise to HOLD_NS after its fall (R332). -/
  act : List (Nat × Option Nat) := []
  /-- It senses, since when; the end of the last bin (units since the epoch). -/
  on : Bool := false
  since : Nat := 0
  bin : Nat := 0
  /-- Key 20 × beam + subchannel. -/
  keys : List (Nat × LookKey) := []
  /-- The latest record's LAST1 word and stamp t_s, not yet latched by a read of LAST0. -/
  last1 : Nat := 0
  lastAt : Stamp := 0
  deriving DecidableEq, Repr

/-- A monitor bank (18_monitor_converters.md). Instants are AON. -/
structure MonBank where
  /-- A pass is in progress; its start; the regular entry in progress or next: instant of its first conversion (none before
  it), conversions left and the instant from which they run. -/
  running : Bool := false
  passStart : Nat := 0
  first : Option Nat := none
  left : Nat := 0
  from_ : Nat := 0
  /-- A conversion cut by MODE = 0 ends here. -/
  stopAt : Nat := 0
  /-- The injected group: 0 none, 1 pending, 2 running; its entry in progress and the instant from which it runs. -/
  inj : Nat := 0
  injIdx : Nat := 0
  injFrom : Nat := 0
  /-- The armed trigger (R366). -/
  armed : Option Stamp := none
  /-- End of the calibration in progress. -/
  calEnd : Option Nat := none
  deriving DecidableEq, Repr

/-- Monitor converters. -/
structure Mon where
  banks : List (Nat × MonBank) := []
  /-- Stamps of the results: key 64 × bank + entry, injected entries from 32 on. -/
  stamps : List (Nat × Stamp) := []
  deriving DecidableEq, Repr

/-- A gap the baseband granted: [lo, hi), the quads it covers, whether it has begun (13_fronthaul_messages.md R276). -/
structure Gap where
  lo : Stamp
  hi : Stamp
  quads : Nat
  begun : Bool := false
  deriving DecidableEq, Repr

/-- A stored transmit section: stream, air index of its first sample, samples (R273). -/
structure TxSec where
  stream : Nat
  k : Nat
  data : List Cx
  deriving DecidableEq, Repr

/-- Messages (13_fronthaul_messages.md). -/
structure Msgs where
  /-- Events queued for type 7, at most 64 (R279), and whether EVENTS_LOST is owed. -/
  notices : List Notice := []
  lostOwed : Bool := false
  /-- Event ID of the next type 7 message, and its Sequence Number per brick. -/
  eventId : Nat := 0
  seq7 : List Nat := [0, 0]
  /-- Held gaps in order of their start (R276). -/
  gaps : List Gap := []
  /-- The section store (R273); the SEQ_ID last seen per TX stream. -/
  store : List TxSec := []
  txSeq : List (Nat × Nat) := []
  /-- Per RX stream: the SEQ_ID to come, the first block of its section in progress (R271), the brick of that section (0 A,
  1 B, 2 suspended; R269). -/
  rxSeq : List (Nat × Nat) := []
  rxBlk : List (Nat × Nat) := []
  rxOn : List (Nat × Nat) := []
  /-- RX_NBLK in force since the chain start. -/
  nblk : Nat := 64
  /-- Streams that were enabled at the last placement (R269), and the widths of the bricks in UP it was made for. -/
  placed : Nat := 0
  widths : List Nat := [0, 0]
  deriving DecidableEq, Repr

/-- A mailbox command that runs (23_pilot_security_debug.md R458): OPC, TAG, the level of the session at the GO, arguments,
and the RESULT and RSP words known so far. -/
structure MbxRun where
  opc : Nat
  tag : Nat
  level : Nat
  args : List Nat
  result : Nat := 0
  rsp : List Nat := []
  /-- Pilot has taken it up. -/
  taken : Bool := false
  deriving DecidableEq, Repr

/-- A tuner step under trial (17_front_end_control_and_breakwater.md, Tuner steering): TUNE entry, value before and after, the
return loss before, in 0.01 dB. -/
structure TuneTry where
  entry : Nat
  old : Nat
  new : Nat
  loss : Int
  deriving DecidableEq, Repr

/-- Pilot and the policy of the reserve (22_reserve.md R439 to R445; 23_pilot_security_debug.md R456 to R460). Instants are
AON. -/
structure Rsv where
  /-- Pilot was started and is not READY; its watchdog resets; the vendor halt. -/
  starting : Bool := false
  resets : List Nat := []
  halted : Bool := false
  /-- Mailbox commands that run, by port. -/
  run : List (Nat × MbxRun) := []
  /-- POLICY mask; CAL_POLICY word (R459). -/
  policy : Nat := 0x7FF
  calPolicy : Nat := 0x10C0A
  /-- Telemetry (R460): period in ms, push address, depth, the number of the next snapshot, the instant of the last, the
  latest snapshot, totals of muted samples and of uncorrected columns at the last. -/
  period : Nat := 1000
  push : Nat := 0
  depth : Nat := 1
  snap : Nat := 0
  lastSnap : Nat := 0
  latest : List (BitVec 8) := []
  muted : Nat := 0
  uncorr : Nat := 0
  /-- Tuner steps under trial by path, steps kept; paths whose steering the policy stopped. -/
  tries : List (Nat × TuneTry) := []
  kept : Nat := 0
  unsteered : Nat := 0
  /-- Since when a kind stands at EMPTY, and the kinds advised in this boot (R439). -/
  emptySince : List (Nat × Nat) := []
  advised : Nat := 0
  deriving DecidableEq, Repr

/-- A receive ADC (06_receive_front_end_and_adc.md R119 to R122): its slices in service, longest serving first, the slice out
for calibration, and for each slice the consecutive calibrations with a residual beyond the limit. -/
structure Adc where
  order : List Nat := [0, 1, 2, 3, 4, 5, 6, 7]
  spare : Option Nat := some 8
  resid : List Nat := [0, 0, 0, 0, 0, 0, 0, 0, 0]
  deriving DecidableEq, Repr

/-- A sample of the receive chain between its stages: Q20.4 parts and its position, in receive ADC samples since the epoch
times 2^32 (07_receive_chain.md R146). -/
structure RxWord where
  v : Cx
  pos : Nat
  deriving DecidableEq, Repr

/-- A receive sample at the chain output with its tags: port-plane instant in units of 2^-16 ns since the epoch (R148, R149). -/
structure RxSample where
  v : Cx := ⟨0, 0⟩
  step : Nat := 0
  ovr : Bool := false
  inv : Bool := false
  at_ : Nat := 0
  /-- Its number since the start of the chains, and whether a restart of its path came after it. -/
  j : Nat := 0
  old : Bool := false
  deriving DecidableEq, Repr

/-- A span of invalid input samples, [lo, hi) in port-plane instants, of one path or of all (01_architecture.md R26; R148). -/
structure InvSpan where
  lo : Nat
  hi : Option Nat
  path : Option Nat
  deriving DecidableEq, Repr

/-- A segment of the NCO: from input index `k` on, phase `theta` (2^-48 turn) at `k` and the frequency word (R135 to R137). -/
structure NcoSeg where
  k : Nat
  theta : Nat
  freq : Int
  deriving DecidableEq, Repr

/-- What the receive chain keeps per path: the filter memories (newest first), the resampler's output number, the boxcar,
the DC estimate, the IQ history, recent over-range indexes, the samples lost at the ingress, the servo's running average and
the recent chain outputs that the alignment stage still needs. -/
structure RxPath where
  h1 : List Cx := []
  h2 : List Cx := []
  h3 : List Cx := []
  h4 : List Cx := []
  rs : List Cx := []
  rsJ : Nat := 0
  box : Cx := ⟨0, 0⟩
  boxN : Nat := 0
  boxOvr : Bool := false
  boxInv : Bool := false
  boxFirst : Bool := true
  e : Cx := ⟨0, 0⟩
  u1 : Option RxWord := none
  u2 : Option RxWord := none
  ovrK : List Nat := []
  lost : Nat := 0
  lostK : Nat := 0
  sumI : Int := 0
  sumQ : Int := 0
  count : Nat := 0
  align : List RxSample := []
  stopped : Bool := false
  deriving DecidableEq, Repr

/-- A calibration request held for a gap or running (R128): kinds, quads, the end of the wait (AON), the end of the span
(Tide stamp). -/
structure CalReq where
  kind : Nat
  quads : Nat
  waitEnd : Nat
  spanEnd : Option Stamp := none
  deriving DecidableEq, Repr

/-- Receive paths and chains (06, 07). -/
structure Rx where
  /-- Index of the present sample instant, and which paths have delivered their sample of it (log entry 9). -/
  adcK : Nat := 0
  sampled : Nat := 0
  /-- Index at which the chains started together. -/
  startK : Nat := 0
  /-- The decision interval: peak, any OVR, whether a counted sample came (R109). -/
  peak : Nat := 0
  anyOvr : Bool := false
  counted : Bool := false
  /-- Dwell in decision intervals (R110); end of the 1 µs after TRSW (R112). -/
  dwell : Nat := 0
  suspUntil : Option Stamp := none
  /-- Steps by first index, newest first; spans of invalid inputs. -/
  steps : List (Nat × Nat) := []
  spans : List InvSpan := []
  /-- Fill of each path's ingress buffer as last seen (01_architecture.md R16). -/
  fills : List (Nat × Nat) := []
  nco : List NcoSeg := []
  /-- The armed retune: FREQ and stamp (R136). -/
  ncoArm : Option (Int × Stamp) := none
  paths : List (Nat × RxPath) := []
  adcs : List (Nat × Adc) := []
  /-- The calibration store (R127): servo codes (path × 11 + step: I + 1024 Q), IQ measurements, slice and filter trims. -/
  servo : List (Nat × Nat) := []
  iq : List (Nat × Nat) := []
  trims : List (Nat × Nat) := []
  bbf : List (Nat × Nat) := []
  cal : Option CalReq := none
  deriving DecidableEq, Repr

/-- A port's session (23_pilot_security_debug.md R452 to R455). Instants are AON. -/
structure SecPort where
  /-- The session key S while a session is open. -/
  key : Option (List (BitVec 8)) := none
  /-- The instant at which the valid challenge was issued, and the level it was asked for. -/
  chal : Option Nat := none
  want : Nat := 0
  /-- The last access through the port. -/
  last : Nat := 0
  holdUntil : Option Nat := none
  lockUntil : Option Nat := none
  deriving DecidableEq, Repr

/-- Sessions, debug and fuses (23_pilot_security_debug.md). -/
structure Sec where
  p0 : SecPort := {}
  p1 : SecPort := {}
  p2 : SecPort := {}
  p3 : SecPort := {}
  /-- The source that wrote the present debug state; the source whose intrusive entry waits for the drains (R461, R463). -/
  dbgBy : Nat := 0
  dbgWait : Option Nat := none
  /-- The burn in progress: TARGET, the value, its end (R466). -/
  burn : Option (Nat × List (BitVec 8) × Nat) := none
  deriving DecidableEq, Repr

/-- Thermal control (21_thermal.md). Instants are AON. -/
structure Therm where
  /-- The measurement that runs: its end, and whether it was demanded. -/
  running : Option (Nat × Bool) := none
  /-- The next scheduled start; a scheduled start that waits for a demanded measurement; start-up measurements still to
  start (R421, R430). -/
  due : Nat := 0
  owed : Bool := false
  first : Nat := 4
  /-- Counts of consecutive measurements toward a change of WARN, THROTTLE, SHUTDOWN and NVM_OK (R425, R430). -/
  nWarn : Nat := 0
  nThr : Nat := 0
  nShut : Nat := 0
  nNvm : Nat := 0
  /-- Ends of the escalation and descent timers (R426). -/
  esc : Option Nat := none
  desc : Option Nat := none
  /-- SENSORS_LOW and SENSORS_FAILED have been raised (R424). -/
  low : Bool := false
  failed : Bool := false
  deriving DecidableEq, Repr

/-- What the transmit chain keeps per path: interpolator memories (newest first), the DUC output still to play and just
played, oldest first, with the air index of its first entry; the stream input index to come; the history of v ahead of the ×2
interpolator (newest first) and the DAC codes last formed. -/
structure TxPath where
  g1 : List Cx := []
  g2 : List Cx := []
  g3 : List Cx := []
  g4 : List Cx := []
  y : List Cx := []
  base : Nat := 0
  inIdx : Nat := 0
  v : List Cx := []
  code : Cx := ⟨0, 0⟩
  align : List Cx := []
  /-- Ranges of air indexes for which no sample came. -/
  gaps : List (Nat × Nat) := []
  deriving DecidableEq, Repr

/-- A span of muted air instants in units since the epoch, of one path or of all, and its cause of R28: 1 or 3. -/
structure MuteSpan where
  cause : Nat
  lo : Nat
  hi : Option Nat
  path : Option Nat
  deriving DecidableEq, Repr

/-- A transmit chain restart waiting for its instant (08_transmit_path.md R496): paths, instant, and the new TXA.DELAY of a
change of FILT_BW. -/
structure TxRestart where
  paths : Nat
  at_ : Nat
  filt : Bool
  deriving DecidableEq, Repr

/-- Transmit paths (08_transmit_path.md). -/
structure Tx where
  /-- Index of the present air instant, and which paths have played their sample of it (log entry 9). -/
  dacK : Nat := 0
  played : Nat := 0
  startK : Nat := 0
  nco : List NcoSeg := []
  ncoArm : Option (Int × Stamp) := none
  /-- G and B by first air index, newest first (R157); BYPASS per path by first air index, newest first (R176). -/
  gains : List (Nat × Nat × Nat) := []
  bypass : List (Nat × Nat × Bool) := []
  paths : List (Nat × TxPath) := []
  mutes : List MuteSpan := []
  restarts : List TxRestart := []
  /-- Paths in fault (R161), as a mask; the settle or fault instant matters only through the sample order. -/
  fault : Nat := 0
  /-- Device faults that hold for every path: bit 0 CPLL in bypass, 1 serving synthesiser unlocked, 2 intrusive debug,
  3 thermal shutdown. -/
  causes : Nat := 3
  /-- TXQ domains being lowered, as a mask of quads. -/
  lowering : Nat := 0
  /-- Coexistence: stamp of the falling edge while the mute holds, and the instant at which it lifts (R164). -/
  coexFall : Option Nat := none
  coexLift : Option Nat := none
  /-- Paths whose driver is off for good or for a calibration: calibration store. -/
  iq : List (Nat × Nat) := []
  trims : List (Nat × Nat) := []
  filt : List (Nat × Nat) := []
  cal : Option CalReq := none
  /-- The read-back pending: kind and path (R171). -/
  readback : Option (Nat × Nat) := none
  /-- Thinned paths return to release here: quads taken out of release by thinning (R230). -/
  thinRel : Nat := 0
  deriving DecidableEq, Repr

/-- The tag of a vector (10_quay_array.md, table "vector tag"); INV and OVR hold one bit per lane. -/
structure Tag where
  stamp : Stamp := 0
  tagged : Bool := false
  inv : Nat := 0
  ovr : Nat := 0
  step : Nat := 0
  ovf : Bool := false
  wrp : Bool := false
  vsat : Bool := false
  deriving DecidableEq, Repr

/-- A vector of 8 lanes with its tag (R198). -/
structure Vec where
  lanes : List Cx := [⟨0, 0⟩, ⟨0, 0⟩, ⟨0, 0⟩, ⟨0, 0⟩, ⟨0, 0⟩, ⟨0, 0⟩, ⟨0, 0⟩, ⟨0, 0⟩]
  tag : Tag := {}
  deriving DecidableEq, Repr

/-- An accumulator: 8 lanes, tag, flags. -/
structure Acc where
  lanes : List Cx := [⟨0, 0⟩, ⟨0, 0⟩, ⟨0, 0⟩, ⟨0, 0⟩, ⟨0, 0⟩, ⟨0, 0⟩, ⟨0, 0⟩, ⟨0, 0⟩]
  tag : Tag := {}
  ovf : Bool := false
  wrp : Bool := false
  deriving DecidableEq, Repr

/-- An active hardware loop: first and last bundle of its body, passes left (none: forever). -/
structure HwLoop where
  first : Nat
  last : Nat
  left : Option Nat
  deriving DecidableEq, Repr

/-- A unit dealt to a core (R213): its block, its place u in the block, the instants of its eight lanes in units since the
epoch. -/
structure QUnit where
  blk : Nat
  u : Nat
  at_ : List Nat
  deriving DecidableEq, Repr

/-- A core (table "core state") with its stream ports: `si0` holds what the distributor sent, `si2` and `si3` what the
neighbours' SO2 and SO3 sent (the four vectors of the output port and the four of the input port together), `out0` and `out1`
what SO0 and SO1 wrote and no unit has taken yet. Of the units dealt, number `unit0` is the first kept; `wpR`, `so0W`, `so1W`
and `si1R` count the WP reads, port writes and SI1 reads since the start. -/
structure Core where
  v : List Vec := []
  a : List Acc := []
  p : List Nat := [0, 0, 0, 0, 0, 0, 0, 0]
  m : List Int := [0, 0, 0, 0]
  l : List Nat := [0, 0, 0, 0]
  loop0 : Option HwLoop := none
  loop1 : Option HwLoop := none
  pc : Nat := 0
  si0 : List Vec := []
  si2 : List Vec := []
  si3 : List Vec := []
  out0 : List Vec := []
  out1 : List Vec := []
  units : List QUnit := []
  unit0 : Nat := 0
  wpR : Nat := 0
  so0W : Nat := 0
  so1W : Nat := 0
  si1R : Nat := 0
  /-- The partial sums of unit number `late` came as invalid zeros (14_cascade_ring.md R291). -/
  late : Option Nat := none
  /-- Since when the core waits (AON), and the part of a nanosecond not yet counted. -/
  waitSince : Option Nat := none
  waitRem : Nat := 0
  deriving DecidableEq, Repr

/-- A swap in progress (R219): IN, OUT, the instant of the copy (AON), the berth switch seen since (units since the
epoch). -/
structure CoreSwap where
  inn : Nat
  out : Nat
  since : Nat
  seen : Option Nat := none
  deriving DecidableEq, Repr

/-- Shadowing in progress (R218): the shadow, the shadowed core, the start of the turn (AON), the first block shadowed, and the
output vectors of each not yet compared. -/
structure Shadow where
  shadow : Nat
  core : Nat
  since : Nat
  blk : Nat
  outC : List Vec := []
  outS : List Vec := []
  deriving DecidableEq, Repr

/-- A cluster: whether the distributor has begun, its next block, the core dealt to last, swap, shadow, the core shadowed last,
cores out of service that still hold units, and whether RESERVE_EMPTY was raised. -/
structure Cluster where
  begun : Bool := false
  next : Nat := 0
  last : Nat := 23
  swap : Option CoreSwap := none
  shadow : Option Shadow := none
  turn : Nat := 23
  drain : Nat := 0
  emptied : Bool := false
  deriving DecidableEq, Repr

/-- Quay (10_quay_array.md). -/
structure Quay where
  /-- Cores by q = 24c + k; clusters by c. -/
  cores : List (Nat × Core) := []
  clusters : List (Nat × Cluster) := []
  /-- Receive antenna samples at the Quay input by path, oldest first, not yet dealt. -/
  ant : List (Nat × List RxSample) := []
  /-- Layer vectors that left the collector of receive clusters and are not yet in a section: layer, block, vector. -/
  layers : List (Nat × Nat × Vec) := []
  /-- Antenna vectors of transmit clusters that wait for an earlier block: antenna, block, vector; next block by antenna. -/
  txWait : List (Nat × Nat × Vec) := []
  txNext : List (Nat × Nat) := []
  /-- The next block of each TX layer to be seen by Gauge. -/
  tapNext : List (Nat × Nat) := []
  deriving DecidableEq, Repr

/-- A partial-sum section received (14_cascade_ring.md R290): ring port (0 east, 1 west), layer, instant of its first sample
(units since the epoch), STEP_HI, samples, INV mask by sample, OVR mask by block of 16. -/
structure RingSum where
  port : Nat
  layer : Nat
  at_ : Nat
  step : Nat
  data : List Cx
  inv : Nat
  ovr : Nat
  deriving DecidableEq, Repr

/-- The cascade ring (14_cascade_ring.md). -/
structure Ring where
  /-- n_b + 256 × m_b of the other devices' berths in force in the panel, key device × 1024 + 512 × direction + berth; those
  received and not yet applied; the devices whose sums have come since; the latest instant of their application
  (R293). -/
  sums : List (Nat × Nat) := []
  sumsNext : List (Nat × Nat) := []
  sumsGot : Nat := 0
  sumsAt : Option Nat := none
  /-- Partial sums that came in (R290, R291), oldest first; those written to SO1 and not yet in a section: layer, block,
  vector. -/
  psums : List RingSum := []
  sumsOut : List (Nat × Nat × Vec) := []
  /-- SEQ_ID to come of the partial-sum sections, by layer. -/
  sumSeq : List (Nat × Nat) := []
  /-- At the head: the ring ports of each device as last reported (R288): UP (bit 0 east, bit 1 west), carrying data (bits 2,
  3), widths ([7:4] east, [11:8] west); this device's own report. -/
  ports : List (Nat × Nat) := []
  own : Nat := 0
  /-- At the head: the chain configuration of each device that asked to join (R284): RXD.CFG, RS_STEP, TXD.CFG, BBF_BW,
  FILT_BW. -/
  cfgs : List (Nat × List Nat) := []
  /-- The route that waits for its instant: S, WARC, EARC (R288). -/
  route : Option (Stamp × Nat × Nat) := none
  /-- The ring sync that waits for its instant (R294). -/
  sync : Option Stamp := none
  /-- Cross-chip calibration: end of the wait (AON), end of the span (R295). -/
  xcal : Option (Nat × Option Stamp) := none
  /-- At the head: number of each layer's next section to forward (R292); its SEQ_ID to come. -/
  fwd : List (Nat × Nat) := []
  fwdSeq : List (Nat × Nat) := []
  /-- At the head: every member has CALIO_EN = 1, as last learned over the ring (R295). -/
  calio : Bool := true
  deriving DecidableEq, Repr

/-- What the block put on one of its outlets: its own record of what left it. -/
inductive Sent
  /-- A link frame on link `link` (0 brick A, 1 brick B, 2 ring east, 3 ring west): eCPRI message type and payload bytes. -/
  | frame (link : Nat) (kind : Nat) (payload : List (BitVec 8))
  /-- Bytes shifted out on HSPI_MISO. -/
  | spi (bytes : List (BitVec 8))
  /-- Bits shifted out on TDO, first bit first. -/
  | tdo (bits : List Bool)
  /-- An AVSBus voltage write, in mV. -/
  | avs (mv : Nat)
  /-- A command on the RFFE bus of a master: command code, slave, address, bytes. -/
  | rffe (master cmd usid addr : Nat) (bytes : List (BitVec 8))
  /-- An edge of an output pin: pin code of the table "timed pins", level, instant. -/
  | edge (pin : Nat) (level : Bool) (at_ : Stamp)
  /-- A message of the ring management channel to a device (15 all): kind and contents (14_cascade_ring.md; the spec gives
  no layout). Kinds: 0 port report, 1 route, 2 configuration of a member, 3 panel sums, 4 a forwarded command, 5 ring sync,
  6 cross-chip results, 7 a schedule entry, 8 a gap, 9 an event for the head's type 7 messages. -/
  | ring (dev kind : Nat) (data : List Nat)
  deriving DecidableEq, Repr

/-- The state of the device. -/
structure State where
  part : Part := .um6464p
  /-- Register words that differ from their reset words, by address. -/
  regs : List (Nat × Word) := []
  /-- Bytes of the windows and of BOOT.STAGE that differ from 0, by 40-bit address. -/
  mem : List Host.Cell := []
  /-- Bytes of the flash images that differ from 0xFF: key device × 2^25 + offset. -/
  flash : List Host.Cell := []
  /-- Elapsed time since reset, in units of 2^-16 ns (the AON timer). -/
  aon : Nat := 0
  power : Power := {}
  pins : Pins := {}
  fuses : Fuses := {}
  clk : Clk := {}
  boot : Boot := {}
  tally : Tally := {}
  tide : Tide := {}
  rx : Rx := {}
  tx : Tx := {}
  dpd : Dpd := {}
  quay : Quay := {}
  berth : Berth := {}
  link : Link := {}
  msgs : Msgs := {}
  ring : Ring := {}
  look : Look := {}
  fend : Fend := {}
  bwtr : Bwtr := {}
  mon : Mon := {}
  hold : Hold := {}
  crane : Crane := {}
  therm : Therm := {}
  rsv : Rsv := {}
  sec : Sec := {}
  jtag : Jtag := {}
  /-- …_HI latches per source: key source × 2^40 + address (24_register_map.md R474). -/
  hiLatch : List (Nat × Word) := []
  /-- AON instant of the last report of each rate-limited event: key code × 2^16 + item. -/
  limits : List (Nat × Nat) := []
  /-- What left the block, newest last. -/
  out : List Sent := []
  /-- The draws of free values so far (the model's own counter). -/
  freeCtr : Nat := 0
  /-- Commands waiting, first in, first out. -/
  pending : List Instr := []
  deriving DecidableEq, Repr

/-- The device right after a power-on reset released with every rail up: every register at its reset value, memory and log
empty, straps not yet sampled (02_package_and_pins.md R37), CPLL in bypass. -/
def State.reset : State := {}

end Sys2Proof.Machine
end

