-- ==== Sys2Proof/Machine/Ops.lean ====
section
/-! DEFINITION. The named operations over registers, windows, flash and time that every command's meaning is written with.
-/

namespace Sys2Proof.Machine

/-! ## Registers -/

/-- The word a register holds. -/
def State.word (s : State) (a : Nat) : Word := sparseGet resetWord s.regs a

/-- A register's word replaced. -/
def State.setWord (s : State) (a : Nat) (w : Word) : State :=
  { s with regs := sparsePut resetWord s.regs a w }

/-- The value of a register field. -/
def State.get (s : State) (f : Field) : Nat := bitsAt (s.word f.addr).toNat f.lo f.width

/-- The value of a two's-complement register field. -/
def State.geti (s : State) (f : Field) : Int := toSigned f.width (s.get f)

/-- A one-bit field as a Boolean. -/
def State.flag (s : State) (f : Field) : Bool := s.get f != 0

/-- A register field set by hardware, whatever its type. -/
def State.put (s : State) (f : Field) (v : Nat) : State :=
  s.setWord f.addr (BitVec.ofNat 32 (setBitsAt (s.word f.addr).toNat f.lo f.width v))

/-- A two's-complement field set by hardware, limited to its range. -/
def State.puti (s : State) (f : Field) (v : Int) : State :=
  s.put f (ofSigned f.width (satS f.width v))

/-- A flag set by hardware. -/
def State.putb (s : State) (f : Field) (b : Bool) : State := s.put f (b2n b)

/-- A counter field one higher, holding at its greatest value (R23). -/
def State.inc (s : State) (f : Field) : State := s.put f (satInc (2 ^ f.width - 1) (s.get f))

/-- A counter field `k` higher, holding at its greatest value. -/
def State.add (s : State) (f : Field) (k : Nat) : State := s.put f (satAdd (2 ^ f.width - 1) (s.get f) k)

/-- A wrapping field one higher. -/
def State.incWrap (s : State) (f : Field) : State := s.put f ((s.get f + 1) % 2 ^ f.width)

/-- A 64-bit value held in a …_LO and a …_HI field. -/
def State.get64 (s : State) (lo hi : Field) : Stamp := BitVec.ofNat 64 (s.get lo + 2 ^ 32 * s.get hi)

/-- A 64-bit value put into a …_LO and a …_HI field. -/
def State.put64 (s : State) (lo hi : Field) (v : Stamp) : State :=
  (s.put lo (v.toNat % 2 ^ 32)).put hi (v.toNat / 2 ^ 32)

/-- A 64-bit mask held in two registers of 32 bits. -/
def State.mask64 (s : State) (f0 f1 : Field) : Nat := s.get f0 + 2 ^ 32 * s.get f1

/-- The fold of an update over a list of indices. -/
def State.each {α : Type} (s : State) (l : List α) (g : State → α → State) : State := l.foldl g s

/-- An update made only under a condition. -/
def State.iff (s : State) (c : Bool) (g : State → State) : State := if c then g s else s

/-- A register bit set: address and bit number. -/
def State.setBit (s : State) (a i : Nat) : State :=
  s.setWord a (s.word a ||| BitVec.ofNat 32 (2 ^ i))

/-! ## Windows and flash -/

/-- The byte of a window (log entry 4: an unlisted byte reads 0). -/
def State.byte (s : State) (a : Nat) : Byte := sparseGet (fun _ => 0) s.mem a

/-- A byte of a window set. -/
def State.setByte (s : State) (a : Nat) (b : Byte) : State :=
  { s with mem := sparsePut (fun _ => 0) s.mem a b }

/-- `n` bytes of a window. -/
def State.bytes (s : State) (a n : Nat) : List Byte := (List.range n).map (fun i => s.byte (a + i))

/-- Bytes of a window set, from address `a` up. -/
def State.setBytes : State → Nat → List Byte → State
  | s, _, [] => s
  | s, a, b :: bs => State.setBytes (s.setByte a b) (a + 1) bs

/-- A 32-bit little-endian word of a window. -/
def State.memWord (s : State) (a : Nat) : Nat := leNat (s.bytes a 4)

/-- A 32-bit word of a window set. -/
def State.setMemWord (s : State) (a v : Nat) : State := s.setBytes a (leBytes 4 v)

/-- Whether the byte table of the windows is in its canonical form. -/
def Memory.wf (m : List Host.Cell) : Bool := sparseWf (fun _ => (0 : BitVec 8)) m

/-- The bytes of a range of addresses forgotten: they read 0 again. -/
def State.clearRange (s : State) (lo hi : Nat) : State :=
  { s with mem := sparseKeep (fun a => !(decide (lo ≤ a) && decide (a < hi))) s.mem }

/-- The byte of a flash device at an offset below 32 MiB (its image). -/
def State.flashByte (s : State) (dev off : Nat) : Byte := sparseGet (fun _ => 0xFF) s.flash (dev * 2 ^ 25 + off)

/-- `n` bytes of a flash image. -/
def State.flashBytes (s : State) (dev off n : Nat) : List Byte :=
  (List.range n).map (fun i => s.flashByte dev (off + i))

/-- Bytes of a flash image set. -/
def State.setFlash : State → Nat → Nat → List Byte → State
  | s, _, _, [] => s
  | s, dev, off, b :: bs =>
    State.setFlash { s with flash := sparsePut (fun _ => 0xFF) s.flash (dev * 2 ^ 25 + off) b } dev (off + 1) bs

/-! ## Free values -/

/-- A free value and the state whose counter has moved past it (log entry 2). -/
def State.draw (s : State) : Nat × State := (Config.free s.freeCtr, { s with freeCtr := s.freeCtr + 1 })

/-- `n` free values. -/
def State.drawMany : Nat → State → List Nat × State
  | 0, s => ([], s)
  | n + 1, s =>
    let (v, t) := s.draw
    let (vs, u) := State.drawMany n t
    (v :: vs, u)

/-! ## What leaves the block -/

/-- One more entry in the record of what left the block. -/
def State.emit (s : State) (x : Sent) : State := { s with out := s.out ++ [x] }

/-! ## The part and its domains -/

/-- TOP.CAPS of each part (00_scope.md R2). -/
def capsOf : Part → Nat
  | .um6464p => 0x10380FFF
  | .um6464 => 0x20180FFF
  | .um6432 => 0x3004030F

/-- Quad `n` is present. -/
def State.hasQuad (s : State) (n : Nat) : Bool := n < 8 && bitAt (capsOf s.part) n
/-- Cluster `c` is present. -/
def State.hasCluster (s : State) (c : Nat) : Bool := c < 4 && bitAt (capsOf s.part) (8 + c)
/-- Pilot and Lookout are present. -/
def State.hasPilot (s : State) : Bool := bitAt (capsOf s.part) 21
def State.hasLookout (s : State) : Bool := bitAt (capsOf s.part) 20
/-- Hold capacity in bytes. -/
def State.holdBytes (s : State) : Nat := bitsAt (capsOf s.part) 16 4 * 2 ^ 30
/-- RF path `p` is present. -/
def State.hasPath (s : State) (p : Nat) : Bool := s.hasQuad (p / 8)
/-- The present paths. -/
def State.paths (s : State) : List Nat := (List.range 64).filter (fun p => s.hasPath p)
/-- The present paths as a mask. -/
def State.pathMask (s : State) : Nat := maskOf s.paths

/-- Domain numbers of the table "power domains" (03_power_and_states.md). -/
def domAON : Nat := 0
def domSHELL : Nat := 1
def domPILOT : Nat := 2
def domCPLL : Nat := 3
def domSYN (n : Nat) : Nat := 4 + n
def domLODIST : Nat := 6
def domORX : Nat := 7
def domTXQ (q : Nat) : Nat := 8 + q
def domRXQ (q : Nat) : Nat := 16 + q
def domDSPRX : Nat := 24
def domDSPTX : Nat := 25
def domDPD : Nat := 26
def domQCL (c : Nat) : Nat := 27 + c
def domLOOK : Nat := 31
def domFH (b : Nat) : Nat := 32 + b
def domRG (p : Nat) : Nat := 34 + p
def domHOLD : Nat := 36
def domMON : Nat := 37

/-- The domain is on this part (R5). -/
def State.domPresent (s : State) (d : Nat) : Bool :=
  if 8 ≤ d ∧ d < 16 then s.hasQuad (d - 8)
  else if 16 ≤ d ∧ d < 24 then s.hasQuad (d - 16)
  else if 27 ≤ d ∧ d < 31 then s.hasCluster (d - 27)
  else if d = 2 then s.hasPilot
  else if d = 31 then s.hasLookout
  else d < 38

/-- The domains that are up, as a mask (PWR.DOM_STAT0, DOM_STAT1). -/
def State.doms (s : State) : Nat := s.get F.PWR_DOM_STAT0_UP + 2 ^ 32 * s.get F.PWR_DOM_STAT1_UP

/-- Domain `d` is up. -/
def State.up (s : State) (d : Nat) : Bool := bitAt s.doms d

/-- The mark of domain `d` set or cleared. -/
def State.markDom (s : State) (d : Nat) (b : Bool) : State :=
  let m := setBitAt s.doms d b
  (s.put F.PWR_DOM_STAT0_UP (m % 2 ^ 32)).put F.PWR_DOM_STAT1_UP (m / 2 ^ 32)

/-- The device is powered and not held in reset. -/
def State.on (s : State) : Bool := !(s.power.off || s.power.por || s.power.rst || s.power.sup)

/-- The number of devices of the ring, 0 stand-alone: SIZE with 1 and 5 to 7 applied as 0 (14_cascade_ring.md R282). -/
def State.ringSize (s : State) : Nat :=
  let n := s.get F.RING_CTL_SIZE
  if 2 ≤ n ∧ n ≤ 4 then n else 0

/-- The present power state's code: 1 Dry dock, 2 Doze, 3 Quiet, 4 Run. -/
def State.cur (s : State) : Nat := s.get F.PWR_STATE_CUR

/-- The device is in Run and has not begun to leave it. -/
def State.inRun (s : State) : Bool := s.cur == 4 && s.power.leftRun == none

/-! ## Time -/

/-- The Tide stamp of the present instant: nanoseconds since the epoch modulo 2^48, and the fraction (R11, R298). -/
def State.stamp (s : State) : Stamp := BitVec.ofNat 64 s.tide.now

/-- TIDE.PEND, FTRIM and SLEWING show what the time base holds (15_tide.md, register tables). -/
def State.syncTide (s : State) : State :=
  ((s.puti F.TIDE_PEND_VALUE (s.tide.pend / 256)).put F.TIDE_FTRIM_TRIM (ofSigned 32 s.tide.ftrim)).putb
    F.TIDE_STAT_SLEWING (s.tide.pend != 0)

/-- The slew rate in force, ns/s: 500 in FREE and ACQUIRE (R303, R309), else SLEW_NS, 0 applied as 1 and above 500 as 500. -/
def State.slewRate (s : State) : Nat :=
  if s.get F.TIDE_STAT_STATE ≤ 1 then 500
  else
    let r := s.get F.TIDE_LIM_SLEW_NS
    if r = 0 then 1 else if 500 < r then 500 else r

/-- The pending correction moved by what `d` units of elapsed time permit (R305): the part removed now, signed, and the
time base that is left. -/
def slewStep (rate d : Nat) (t : Tide) : Int × Tide :=
  let total := d * rate + t.slewRem
  let room : Int := ((total / 1000000000 : Nat) : Int)
  if t.pend = 0 then (0, { t with slewRem := 0 })
  else
    let m := clampInt (-room) room t.pend
    (m, { t with pend := t.pend - m, slewRem := if t.pend = m then 0 else total % 1000000000 })

/-- `d` units of elapsed time pass: Tide adds d × (1 + FTRIM) and the share of the pending correction (R298, R305). -/
def State.advance (s : State) (d : Nat) : State :=
  let t := s.tide
  let trim : Int := (d : Int) * t.ftrim + t.trimRem
  let add : Int := trim / 1099511627776
  let (m, t1) := slewStep s.slewRate d t
  let now : Int := (t.now : Int) + (d : Int) + add + m
  State.syncTide { s with
    aon := s.aon + d
    tide := { t1 with now := now.toNat, trimRem := trim % 1099511627776 } }

/-- Time comes forward to a stamped instant, where that instant is still ahead (log entry 7). -/
def State.reach (s : State) (at_ : Stamp) : State :=
  if before s.stamp at_ then
    let d := (at_ - s.stamp).toNat
    let (_, t1) := slewStep s.slewRate d s.tide
    State.syncTide { s with aon := s.aon + d, tide := { t1 with now := s.tide.now + d } }
  else s

/-- Elapsed time comes forward to an AON instant, where that instant is still ahead (log entry 7). -/
def State.elapseTo (s : State) (a : Nat) : State :=
  if s.aon < a then s.advance (a - s.aon) else s

end Sys2Proof.Machine
end

