-- ==== Sys2Proof/Machine/Flags.lean ====
section
/-! DEFINITION. The status flags and reports of the device: EVT bits, IRQ_N, the type 7 queue, the Tally queue and the rate
limits of events (00_scope.md R13, R493; 24_register_map.md R476; 13_fronthaul_messages.md R279;
05_startup_and_configuration.md R103). -/

namespace Sys2Proof.Machine

/-! ## EVT registers and the interrupt pins -/

/-- The address of each block's EVT register, by block number. -/
def evtAddr (n : Nat) : Nat :=
  match n with
  | 0x00 => 0x40
  | 0x01 => 0x10040
  | 0x02 => 0x20080
  | 0x03 => 0x30050
  | 0x04 => 0x40050
  | 0x05 => 0x50050
  | 0x06 => 0x60050
  | 0x07 => 0x70050
  | 0x08 => 0x80050
  | 0x09 => 0x90040
  | 0x0A => 0xA0050
  | 0x0B => 0xB0040
  | 0x0C => 0xC00C0
  | 0x0D => 0xD0040
  | 0x0E => 0xE0040
  | 0x0F => 0xF00F0
  | 0x10 => 0x100040
  | 0x11 => 0x110080
  | 0x12 => 0x121000
  | 0x13 => 0x130040
  | 0x14 => 0x140040
  | 0x15 => 0x150040
  | 0x16 => 0x160040
  | 0x17 => 0x170040
  | 0x18 => 0x181040
  | 0x19 => 0x190070
  | _ => 0x1A0050

/-- The bit of its block's EVT register that an event sets: bit e - 1, but where a chapter's own table says otherwise
(CLK, RXD, TXD, RING, FEND). -/
def evtBit (code info : Nat) : Nat :=
  let e := code % 256
  match code with
  | 0x0202 => 13
  | 0x0203 => 1
  | 0x0204 => 2
  | 0x0205 => 3
  | 0x0206 => 14
  | 0x0207 => 4 + info % 2
  | 0x0208 => 6
  | 0x0209 => 7
  | 0x020A => 8 + info % 4
  | 0x020B => 15 + info % 4
  | 0x0503 => 1
  | 0x0504 => 2
  | 0x0702 => 2
  | 0x0703 => 1
  | 0x1021 => 16
  | _ => if code / 256 = 0x0D ∧ 0x11 ≤ e then 16 + e - 0x11 else e - 1

/-- The blocks with an event pending: bit n while any bit of block n's EVT register is set (R476). -/
def State.irqBlocks (s : State) : Nat :=
  maskOf ((List.range 27).filter (fun n => s.word (evtAddr n) != 0))

/-- TOP.IRQ_STAT and the pins follow the EVT registers and the enables (R476); during EXTEST the boundary register drives the
pins (23_pilot_security_debug.md R462). -/
def State.syncIrq (s : State) : State :=
  let st := s.irqBlocks
  let t := s.put F.TOP_IRQ_STAT_BLOCKS st
  if s.jtag.saved = none then
    { t with pins := { t.pins with
        irq0 := maskAnd st (s.get F.TOP_IRQ_EN0_BLOCKS) != 0
        irq1 := maskAnd st (s.get F.TOP_IRQ_EN1_BLOCKS) != 0 } }
  else t

/-- While TRACE is in force in observe or intrusive debug, each event's code and stamp leave on TDO, least significant bits
first (23_pilot_security_debug.md R461; the order of the bits is log entry 18). -/
def State.traceEvt (s : State) (code : Nat) : State :=
  if s.jtag.trace = true ∧ s.get F.SEC_STAT_DBG ≠ 0 then
    s.emit (.tdo ((List.range 16).map (bitAt code) ++ (List.range 64).map (bitAt s.stamp.toNat)))
  else s

/-- An event sets its bit of its block's EVT register. -/
def State.setEvt (s : State) (code info : Nat) : State :=
  ((s.setBit (evtAddr (code / 256)) (evtBit code info)).syncIrq).traceEvt code

/-! ## Tally's queue -/

/-- TALLY.STAT.QUEUE and DEFER show the queue and the temperature gate (R103). -/
def State.syncTally (s : State) : State :=
  let q := s.tally.queue.length
  (s.put F.TALLY_STAT_QUEUE (if q < 255 then q else 255)).putb F.TALLY_STAT_DEFER (!s.flag F.THERM_STAT_NVM_OK)

/-- A record that finds no room: counted in TALLY.LOST and owed to a RECORDS_LOST record (R103). -/
def State.tallyLose (s : State) : State :=
  let t := s.inc F.TALLY_LOST_COUNT
  { t with tally := { t.tally with lostSince := satInc count32 t.tally.lostSince } }

/-- A record enters the queue of 256 at its end, or is dropped and counted (R103). -/
def State.tallyPut (s : State) (r : TallyQ) : State :=
  if s.tally.queue.length < 256 then
    State.syncTally { s with tally := { s.tally with queue := s.tally.queue ++ [r] } }
  else s.tallyLose.syncTally

/-- A record enters the queue at its head and is never dropped; when the queue is full the newest record makes room and is
counted (R454). The record whose program runs keeps its place ahead of it (R100). -/
def State.tallyPutHead (s : State) (r : TallyQ) : State :=
  let full := decide (256 ≤ s.tally.queue.length)
  let q := if full then s.tally.queue.dropLast else s.tally.queue
  let q' := if s.tally.phase = 0 then r :: q else q.take 1 ++ r :: q.drop 1
  let t := if full then s.tallyLose else s
  State.syncTally { t with tally := { t.tally with queue := q' } }

/-- The record of a hardware event: payload length 4, INFO little-endian (R493). -/
def eventRecord (s : State) (code info : Nat) : TallyQ := ⟨s.stamp, code, leBytes 4 info⟩

/-! ## The type 7 queue -/

/-- Training state UP of a brick (12_fronthaul_physical.md, table "training states"). -/
def stUP : Nat := 7

/-- Brick `b` is UP. -/
def State.brickUp (s : State) (b : Nat) : Bool := s.up (domFH b) && s.get (F.FHL_B_STAT_STATE b) == stUP

/-- Any brick is UP. -/
def State.anyBrickUp (s : State) : Bool := s.brickUp 0 || s.brickUp 1

/-- A RING event of a member that has joined goes to the head for its type 7 messages (14_cascade_ring.md R297). -/
def State.toHead (s : State) (code : Nat) : Bool :=
  code / 256 == 0x0D && s.ringSize != 0 && s.boot.chipId != 0 && bitAt (s.get F.RING_STAT_MEMBERS) s.boot.chipId

/-- An event queued for type 7, up to 64; one that finds the queue full is dropped and counted (R279). -/
def State.queue7 (s : State) (code info : Nat) : State :=
  if s.toHead code then s.emit (.ring 0 9 [code, info])
  else if s.anyBrickUp && s.flag F.FHM_CTL_EVT_EN then
    if s.msgs.notices.length < 64 then
      { s with msgs := { s.msgs with notices := s.msgs.notices ++ [⟨code, info, s.stamp⟩] } }
    else
      let t := s.inc F.FHM_EVT_LOST_COUNT
      { t with msgs := { t.msgs with lostOwed := true } }
  else s

/-! ## The next flash command of Tally (R100 to R105) -/

/-- Flash programs and erases may be issued: the temperature permits and no shutdown holds (R103, R104). -/
def State.flashOpen (s : State) : Bool := s.flag F.THERM_STAT_NVM_OK && !s.flag F.THERM_STAT_SHUT

/-- The record of what was dropped, ahead of the next one written (R103). -/
def State.tallyOwed (s : State) : State :=
  if s.tally.lostSince = 0 then s
  else
    let r : TallyQ := ⟨s.stamp, 0x1A05, leBytes 4 s.tally.lostSince⟩
    let t := (s.setEvt 0x1A05 s.tally.lostSince).queue7 0x1A05 s.tally.lostSince
    State.syncTally { t with tally := { t.tally with queue := r :: t.tally.queue, lostSince := 0 } }

/-- The next command of Tally's writer, once none runs: an erase while fewer than four sectors stand erased ahead, else the
record at the head of the queue. -/
def State.tallyKick (s : State) : State :=
  if s.tally.scanned && !s.tally.erasing && s.tally.phase == 0 && s.flashOpen then
    if s.tally.ahead < 4 then { s with tally := { s.tally with erasing := true } }
    else if s.tally.queue.isEmpty then s
    else
      let t := s.tallyOwed
      { t with tally := { t.tally with phase := 1 } }
  else s

/-! ## Raising an event -/

/-- WRITES_DEFERRED, once for each period in which flash writes are forbidden and a record waits (R103; log entry 8). -/
def State.deferNotice (s : State) : State :=
  if s.flag F.THERM_STAT_NVM_OK || s.tally.deferRaised || s.tally.queue.isEmpty then s
  else
    let t := { s with tally := { s.tally with deferRaised := true } }
    ((t.setEvt 0x1A03 0).queue7 0x1A03 0).tallyPut (eventRecord t 0x1A03 0)

/-- An event that its chapter reports by IRQ_N, by type 7 and by Tally. -/
def State.raise (s : State) (code info : Nat) : State :=
  (((s.setEvt code info).queue7 code info).tallyPut (eventRecord s code info)).deferNotice.tallyKick

/-- An event reported by IRQ_N only (DESC_DONE, 20_crane.md R419). -/
def State.raiseIrq (s : State) (code info : Nat) : State := s.setEvt code info

/-- An event reported by IRQ_N and type 7 only (MBX_DONE, 23_pilot_security_debug.md R467). -/
def State.raiseIrq7 (s : State) (code info : Nat) : State := (s.setEvt code info).queue7 code info

/-- LOCKOUT: as `raise`, its record at the head of the queue (R454). -/
def State.raiseHead (s : State) (code info : Nat) : State :=
  (((s.setEvt code info).queue7 code info).tallyPutHead (eventRecord s code info)).deferNotice.tallyKick

/-- The key of a rate limit: the event and the item it is limited by. -/
def limitKey (code item : Nat) : Nat := code * 65536 + item

/-- The event is not held back by its rate limit: none was reported for this item within `period` (R18, R19 and every
"at most once per"). -/
def State.limitOpen (s : State) (code item period : Nat) : Bool :=
  match sparseFind s.limits (limitKey code item) with
  | none => true
  | some a => decide (a + period ≤ s.aon)

/-- An event raised at most once per `period` for an item. -/
def State.raiseLim (s : State) (code info item period : Nat) : State :=
  if s.limitOpen code item period then
    State.raise { s with limits := sparseInsert s.limits (limitKey code item) s.aon } code info
  else s

/-- An event raised at most once per 1 ms for an item. -/
def State.raiseMs (s : State) (code info item : Nat) : State := s.raiseLim code info item (msU 1)

/-- INFO of an event whose chapter names items: one byte each from [7:0] upward (R493). -/
def info2 (a b : Nat) : Nat := a + 256 * b

/-! ## Violations (23_pilot_security_debug.md R450) -/

/-- An access that its level does not permit is counted and shown (R450); sources 0 to 3 ports, 4 Pilot, 5 Crane, 6 JTAG. -/
def State.violation (s : State) (src a : Nat) (write : Bool) : State :=
  ((((s.inc F.SEC_VIOL_CNT_COUNT).put F.SEC_VIOL_LAST_LO_ADDR (a % 2 ^ 32)).putb F.SEC_VIOL_LAST_HI_WRITE write).put
    F.SEC_VIOL_LAST_HI_SOURCE src).put F.SEC_VIOL_LAST_HI_ADDR (a / 2 ^ 32)

/-! ## Drift meters (01_architecture.md R21 to R24) -/

/-- A slip counted in TOP.SLIP_CNTm. -/
def State.slip (s : State) (m : Nat) : State := s.inc (F.TOP_SLIP_CNT_COUNT m)

/-- Meter `m` takes a new slack: NOW_NS, MIN_NS and, on falling below LOW_NS, the LOW bit with SLACK_LOW on its rise
(R21, R22). -/
def State.meter (s : State) (m slack : Nat) : State :=
  let v := if slack < 0xFFFF then slack else 0xFFFF
  let s1 := s.put (F.TOP_DRIFT_NOW_NS m) v
  let s2 := if v < s.get (F.TOP_DRIFT_MIN_NS m) then s1.put (F.TOP_DRIFT_MIN_NS m) v else s1
  let low := s.get F.TOP_DRIFT_CTL_LOW_NS
  if v < low ∧ low ≤ s.get (F.TOP_DRIFT_NOW_NS m) ∧ bitAt (s.get F.TOP_DRIFT_EVT_LOW) m = false then
    (s2.put F.TOP_DRIFT_EVT_LOW (setBitAt (s2.get F.TOP_DRIFT_EVT_LOW) m true)).raise 0x0001 m
  else s2

/-- An idle meter reads NOW_NS 0xFFFF and leaves MIN_NS (R21). -/
def State.meterIdle (s : State) (m : Nat) : State := s.put (F.TOP_DRIFT_NOW_NS m) 0xFFFF

end Sys2Proof.Machine
end

