-- ==== Sys2Proof/Machine/Timed.lean ====
section
/-! DEFINITION. Timed outputs: the queues of the timed pins, their commands and the pulse generators (15_tide.md R311 to
R314). -/

namespace Sys2Proof.Machine

/-- Pin codes of the table "timed pins". -/
def pinTrsw (q : Nat) : Nat := 8 + q
def pinDrain (q : Nat) : Nat := 16 + q
def pinCoexReq : Nat := 24
def pinCoexPri : Nat := 25

/-- The pin code is listed (R311). -/
def pinListed (pin : Nat) : Bool := pin < 4 || (8 ≤ pin && pin < 26)

/-- The level of a timed pin. -/
def State.pin (s : State) (pin : Nat) : Bool :=
  if pin < 4 then bitAt s.pins.tpulse pin
  else if pin < 16 then bitAt s.pins.trsw (pin - 8)
  else if pin < 24 then bitAt s.pins.drain (pin - 16)
  else if pin = 24 then s.pins.coexReq
  else s.pins.coexPri

/-- FEND.COEX_STAT shows the coexistence wires (16_lookout_and_coexistence.md). -/
def State.syncCoex (s : State) : State :=
  (((s.putb F.FEND_COEX_STAT_REQ s.pins.coexReq).putb F.FEND_COEX_STAT_PRI s.pins.coexPri).putb
    F.FEND_COEX_STAT_GNT s.pins.coexGnt).putb F.FEND_COEX_STAT_ACT s.pins.coexAct

/-- A timed pin driven to a level; an edge is recorded only where the level changes (R312). -/
def State.drive (s : State) (pin : Nat) (b : Bool) : State :=
  if s.pin pin = b then s
  else
    let p := s.pins
    let q : Pins :=
      if pin < 4 then { p with tpulse := setBitAt p.tpulse pin b }
      else if pin < 16 then { p with trsw := setBitAt p.trsw (pin - 8) b }
      else if pin < 24 then { p with drain := setBitAt p.drain (pin - 16) b }
      else if pin = 24 then { p with coexReq := b }
      else { p with coexPri := b }
    State.syncCoex ((({ s with pins := q } : State)).emit (.edge pin b s.stamp))

/-- The queue of a pin. -/
def State.timedQ (s : State) (pin : Nat) : List TimedEntry := (sparseFind s.tide.queues pin).getD []

/-- The queue of a pin replaced. -/
def State.setTimedQ (s : State) (pin : Nat) (q : List TimedEntry) : State :=
  { s with tide := { s.tide with
      queues := if q.isEmpty then sparseErase s.tide.queues pin else sparseInsert s.tide.queues pin q } }

/-- An entry placed in a queue in stamp order; one with the same instant is replaced (R311). -/
def placeEntry (e : TimedEntry) : List TimedEntry → List TimedEntry
  | [] => [e]
  | x :: xs =>
    if x.at_ = e.at_ then e :: xs
    else if before e.at_ x.at_ then e :: x :: xs
    else x :: placeEntry e xs

/-- Results of a timed-output command. -/
def toOK : Nat := 0
def toLATE : Nat := 1
def toFAR : Nat := 2
def toFULL : Nat := 3
def toPIN : Nat := 4
def toSTATE : Nat := 5

/-- The check of an ADD, in the order PIN, STATE, LATE, FAR, FULL (R311). An entry that replaces another needs no room. -/
def State.toCheck (s : State) (pin : Nat) (at_ : Stamp) : Nat :=
  let d := stampDiff at_ s.stamp
  let q := s.timedQ pin
  if pinListed pin = false ∨ (pin < 4 ∧ s.flag (F.TIDE_TP_CTL_ACTIVE pin) = true) then toPIN
  else if 8 ≤ pin ∧ s.inRun = false then toSTATE
  else if d < (usU 1 : Int) then toLATE
  else if (sU 2 : Int) < d then toFAR
  else if 16 ≤ q.length ∧ q.all (fun e => e.at_ ≠ at_) = true then toFULL
  else toOK

/-- An entry added under the checks of R311: the result and the state. -/
def State.toAdd (s : State) (pin : Nat) (at_ : Stamp) (level : Bool) : Nat × State :=
  let r := s.toCheck pin at_
  if r = toOK then (r, s.setTimedQ pin (placeEntry ⟨at_, level, false⟩ (s.timedQ pin))) else (r, s)

/-- TO_STAT shows the result of a command and the depth of its pin's queue. -/
def State.toShow (s : State) (pin r : Nat) : State :=
  (s.put F.TIDE_TO_STAT_RESULT r).put F.TIDE_TO_STAT_DEPTH (s.timedQ pin).length

/-- A refused timed-output command: counted, TO_REFUSED at most once per 1 ms (R311). -/
def State.toRefuse (s : State) (pin r : Nat) : State :=
  ((s.toShow pin r).inc F.TIDE_TO_REF_CNT_COUNT).raiseMs 0x0E08 0 0

/-- FLUSH of a pin's queue (R311). -/
def State.toFlush (s : State) (pin : Nat) : State :=
  if pinListed pin then (s.setTimedQ pin []).toShow pin toOK else s.toRefuse pin toPIN

/-- The fine grid slot of an instant: one eighth of the CPLL tick, half up (R312). -/
def fineSlot (at_ : Stamp) : Nat := (at_.toNat * 6 + 6250) / 12500

/-- The entries at the head of a queue that fall on one fine-grid slot, and the rest. -/
def dueEntries : List TimedEntry → List TimedEntry × List TimedEntry
  | [] => ([], [])
  | e :: es => (e :: es.takeWhile (fun x => fineSlot x.at_ = fineSlot e.at_),
      es.dropWhile (fun x => fineSlot x.at_ = fineSlot e.at_))

/-- Every queue emptied: a step of Tide (R303). -/
def State.toDiscardAll (s : State) : State := { s with tide := { s.tide with queues := [] } }

/-- The queues of pins 8 to 25 emptied: Run is left (R314). -/
def State.toFlushRun (s : State) : State :=
  { s with tide := { s.tide with queues := sparseKeep (fun p => p < 8) s.tide.queues } }

/-! ## Pulse generators (R313) -/

/-- PERIOD of generator `n`, in units of 2^-16 ns. -/
def State.tpPeriod (s : State) (n : Nat) : Nat :=
  s.get (F.TIDE_TP_PERIOD_LO_PERIOD n) + 2 ^ 32 * s.get (F.TIDE_TP_PERIOD_HI_PERIOD n)

/-- START of generator `n`. -/
def State.tpStart (s : State) (n : Nat) : Stamp :=
  s.get64 (F.TIDE_TP_START_LO_STAMP n) (F.TIDE_TP_START_HI_STAMP n)

/-- WIDTH_NS of generator `n` in stamp units, 0 applied as 1 ns. -/
def State.tpWidth (s : State) (n : Nat) : Nat :=
  let w := s.get (F.TIDE_TP_WIDTH_WIDTH_NS n)
  nsU (if w = 0 then 1 else w)

/-- Edge number `e` of generator `n`: pulse e / 2, its leading edge for even e, its trailing edge for odd e. -/
def State.tpEdge (s : State) (n e : Nat) : TimedEntry :=
  let lead := stampAdd (s.tpStart n) (e / 2 * s.tpPeriod n)
  let high := s.get (F.TIDE_TP_CTL_POL n) = 0
  if e % 2 = 0 then ⟨lead, decide high, true⟩ else ⟨stampAdd lead (s.tpWidth n), decide (¬ high), true⟩

/-- The generator queues its next edges, keeping at most two; one-shot mode has the edges 0 and 1 only. -/
def State.tpFeed (s : State) (n : Nat) : Nat → State
  | 0 => s
  | k + 1 =>
    let e := nth 0 s.tide.tpNext n
    let q := s.timedQ n
    if s.flag (F.TIDE_TP_CTL_ACTIVE n) && decide (q.length < 2)
        && (s.get (F.TIDE_TP_CTL_MODE n) == 2 || decide (e < 2)) then
      let t := s.setTimedQ n (placeEntry (s.tpEdge n e) q)
      State.tpFeed { t with tide := { t.tide with tpNext := setNth t.tide.tpNext n (e + 1) } } n k
    else s

/-- The first pulse whose leading edge falls at least 1 µs from now (periodic mode). -/
def State.tpFirst (s : State) (n : Nat) : Nat :=
  let d := stampDiff (stampAdd s.stamp (usU 1)) (s.tpStart n)
  let p := s.tpPeriod n
  if d ≤ 0 ∨ p = 0 then 0 else (d.toNat + p - 1) / p

/-- Generator `n` started in its MODE, or refused (R313): WIDTH at or above PERIOD, or a periodic PERIOD below 100 ns, as
PIN; a one-shot START out of range as LATE or FAR. MODE returns to 0 on a refusal. -/
def State.tpGo (s : State) (n : Nat) : State :=
  let mode := s.get (F.TIDE_TP_CTL_MODE n)
  let d := stampDiff (s.tpStart n) s.stamp
  let refuse (r : Nat) : State := (s.put (F.TIDE_TP_CTL_MODE n) 0).toRefuse n r
  if s.tpPeriod n ≤ s.tpWidth n ∨ (mode = 2 ∧ s.tpPeriod n < nsU 100) then refuse toPIN
  else if mode = 1 ∧ d < (usU 1 : Int) then refuse toLATE
  else if mode = 1 ∧ (sU 2 : Int) < d then refuse toFAR
  else
    let e := if mode = 1 then 0 else 2 * s.tpFirst n
    let t := s.putb (F.TIDE_TP_CTL_ACTIVE n) true
    State.tpFeed { t with tide := { t.tide with tpNext := setNth t.tide.tpNext n e } } n 2

/-- A write of MODE, with 3 applied as 0: 0 stops the generator, its queued edges still act; another value starts it where
it does not run. -/
def State.tpMode (s : State) (n mode : Nat) : State :=
  let m := if mode = 3 then 0 else mode
  let t := s.put (F.TIDE_TP_CTL_MODE n) m
  if m = 0 then t.putb (F.TIDE_TP_CTL_ACTIVE n) false
  else if s.flag (F.TIDE_TP_CTL_ACTIVE n) then t
  else t.tpGo n

/-- After an edge of TPULSE_n has acted, its generator queues the next; a one-shot generator stops after its last edge. -/
def State.tpAfter (s : State) (n : Nat) : State :=
  if s.flag (F.TIDE_TP_CTL_ACTIVE n) then
    if s.get (F.TIDE_TP_CTL_MODE n) = 1 ∧ (s.timedQ n).isEmpty = true then s.putb (F.TIDE_TP_CTL_ACTIVE n) false
    else s.tpFeed n 2
  else s

end Sys2Proof.Machine
end

