-- ==== Sys2Proof/Machine/Pa.lean ====
section
/-! DEFINITION. Bias and auxiliary outputs, PA sequencing and front-end faults (17_front_end_control_and_breakwater.md R336
to R343). -/

namespace Sys2Proof.Machine

/-! ## Bias and auxiliary outputs: outputs 0 to 63 are BIAS_nn, 64 to 71 AUXDAC_k -/

/-- The register fields of an output. -/
def biasRange (o : Nat) : Field := if o < 64 then F.FEND_P_BIAS_RANGE o else F.FEND_AUX_RANGE (o - 64)
def biasOut (o : Nat) : Field := if o < 64 then F.FEND_P_BIAS_OUT o else F.FEND_AUX_OUT (o - 64)
def biasTarget (o : Nat) : Field := if o < 64 then F.FEND_P_BIAS_TARGET o else F.FEND_AUX_TARGET (o - 64)
def safeRange (o : Nat) : Field := if o < 64 then F.FEND_P_SAFE_RANGE o else F.FEND_AUX_SAFE_RANGE (o - 64)
def safeCode (o : Nat) : Field := if o < 64 then F.FEND_P_SAFE_CODE o else F.FEND_AUX_SAFE_CODE (o - 64)

/-- The voltage of a code, in µV: NEG -5.0 V + CODE × 5.0 V / 4,095, POS CODE × 3.3 V / 4,095 (R336), rounded half up. -/
def biasUv (range code : Nat) : Int :=
  if range = 0 then divRound ((code : Int) * 5000000) 4095 - 5000000 else divRound ((code : Int) * 3300000) 4095

/-- The code nearest a voltage in a range, limited to the range. -/
def biasCode (range : Nat) (uv : Int) : Nat :=
  (clampInt 0 4095 (if range = 0 then divRound ((uv + 5000000) * 4095) 5000000 else divRound (uv * 4095) 3300000)).toNat

/-- The fast rate, 1 V/µs, in mV/ms (R337). -/
def fastRate : Nat := 1000000

/-- The voltage of a move after it has run until `now` (AON): µV = rate × ns / 1000. -/
def BiasMove.at (m : BiasMove) (now : Nat) : Int :=
  let goal := biasUv m.range m.code
  let step : Int := ((m.rate * (now - m.since) / 65536000 : Nat) : Int)
  if m.from_ ≤ goal then (if goal ≤ m.from_ + step then goal else m.from_ + step)
  else (if m.from_ - step ≤ goal then goal else m.from_ - step)

/-- The instant (AON) at which a move arrives. -/
def BiasMove.arrive (m : BiasMove) : Nat :=
  let d := (biasUv m.range m.code - m.from_).natAbs
  m.since + (d * 65536000 + m.rate - 1) / m.rate

/-- The present voltage of an output. -/
def State.biasUvNow (s : State) (o : Nat) : Int :=
  match sparseFind s.fend.moves o with
  | some m => m.at s.aon
  | none => biasUv (s.get (biasRange o)) (s.get (biasOut o))

/-- OUT of an output shows its present code; a move that has arrived at a code of the RANGE in force ends. -/
def State.syncBias (s : State) (o : Nat) : State :=
  match sparseFind s.fend.moves o with
  | none => s
  | some m =>
    let t := s.put (biasOut o) (biasCode m.range (m.at s.aon))
    if m.arrive ≤ s.aon ∧ m.range = s.get (biasRange o) then
      { t with fend := { t.fend with moves := sparseErase t.fend.moves o } }
    else t

/-- An output starts from its present voltage toward a range and code at a rate. -/
def State.moveBias (s : State) (o range code rate : Nat) : State :=
  State.syncBias { s with fend := { s.fend with
    moves := sparseInsert s.fend.moves o ⟨s.biasUvNow o, s.aon, range, code, rate⟩ } } o

/-- An output starts toward its SAFE range and code. -/
def State.moveSafe (s : State) (o rate : Nat) : State := s.moveBias o (s.get (safeRange o)) (s.get (safeCode o)) rate

/-- An output starts toward its target. -/
def State.moveTarget (s : State) (o rate : Nat) : State := s.moveBias o (s.get (biasRange o)) (s.get (biasTarget o)) rate

/-- BIAS_SLEW, 0 applied as 1 and above 1,000 as 1,000 (R340). -/
def State.biasSlew (s : State) : Nat :=
  let v := s.get F.FEND_PA_CTL_BIAS_SLEW
  if v = 0 then 1 else if 1000 < v then 1000 else v

/-- DRN_WAIT_US, limited to 10 to 1,000, as a duration. -/
def State.drainWait (s : State) : Nat :=
  let v := s.get F.FEND_PA_CTL_DRN_WAIT_US
  usU (if v < 10 then 10 else if 1000 < v then 1000 else v)

/-- The BIAS outputs of quad `q`. -/
def quadOuts (q : Nat) : List Nat := (List.range 8).map (fun i => 8 * q + i)

/-- The present quads. -/
def State.quads (s : State) : List Nat := (List.range 8).filter (fun q => s.hasQuad q)

/-! ## Sequencers -/

/-- Sequencer states of FEND.PA_STAT. -/
def paOFF : Nat := 0
def paRAMPUP : Nat := 1
def paON : Nat := 2
def paRAMPDOWN : Nat := 3

/-- The state of quad `q`'s sequencer. -/
def State.paState (s : State) (q : Nat) : Nat := bitsAt (s.get F.FEND_PA_STAT_STATE) (2 * q) 2

/-- The state of quad `q`'s sequencer set. -/
def State.setPa (s : State) (q v : Nat) : State :=
  s.put F.FEND_PA_STAT_STATE (setBitsAt (s.get F.FEND_PA_STAT_STATE) (2 * q) 2 v)

/-- The step of quad `q`'s sequencer. -/
def State.paSeq (s : State) (q : Nat) : PaSeq := (sparseFind s.fend.seqs q).getD {}

/-- The step of quad `q`'s sequencer set. -/
def State.setSeq (s : State) (q : Nat) (x : PaSeq) : State :=
  { s with fend := { s.fend with seqs := sparsePut (fun _ => ({} : PaSeq)) s.fend.seqs q x } }

/-- The sequencer's drain level set, and the pin with it. -/
def State.seqDrain (s : State) (q : Nat) (b : Bool) : State :=
  State.drive { s with fend := { s.fend with drainSeq := setBitAt s.fend.drainSeq q b } } (pinDrain q) b

/-- Quad `q` leaves ON: the queues of its two pins are flushed, TRSW low, the drain at the sequencer's level (R342). -/
def State.leaveOn (s : State) (q : Nat) : State :=
  let t := (s.setTimedQ (pinTrsw q) []).setTimedQ (pinDrain q) []
  (t.drive (pinTrsw q) false).drive (pinDrain q) (bitAt t.fend.drainSeq q)

/-- A front-end fault holds (R343). -/
def State.feFault (s : State) : Bool := s.word 0x100014 != 0

/-- ON would be refused: a fault holds, the device is not in Run, or the quad is thinned (R339). -/
def State.paRefuses (s : State) (q : Nat) : Bool := s.feFault || !s.inRun || bitAt s.fend.thinned q

/-- The ON sequence of quad `q` from its present point (R339). -/
def State.paStartOn (s : State) (q : Nat) : State :=
  let st := s.paState q
  if st = paON ∨ st = paRAMPUP then s
  else if st = paRAMPDOWN ∧ bitAt s.fend.drainSeq q = true then
    ((s.setPa q paRAMPUP).setSeq q ⟨4, 0⟩).each (quadOuts q) (fun t o => t.moveTarget o s.biasSlew)
  else
    ((s.setPa q paRAMPUP).setSeq q ⟨1, 0⟩).each (quadOuts q) (fun t o => t.moveSafe o fastRate)

/-- ON for quad `q`, refused where R339 refuses it (PA_CMD_REFUSED). -/
def State.paOn (s : State) (q : Nat) : State :=
  if s.paRefuses q then s.raise 0x100A q else s.paStartOn q

/-- OFF for quad `q` from its present point (R339): from ON the quad leaves ON; during RAMP_UP before the drain is high the
sequence ends at once. -/
def State.paOff (s : State) (q : Nat) : State :=
  let st := s.paState q
  if st = paOFF ∨ st = paRAMPDOWN then s
  else if st = paRAMPUP ∧ bitAt s.fend.drainSeq q = false then
    ((s.setPa q paOFF).setSeq q {}).raise 0x1002 q
  else
    let t := if st = paON then s.leaveOn q else s
    ((t.setPa q paRAMPDOWN).setSeq q ⟨5, 0⟩).each (quadOuts q) (fun u o => u.moveSafe o s.biasSlew)

/-- The latest arrival (AON) among the moves of quad `q`. -/
def State.quadArrive (s : State) (q : Nat) : Nat :=
  maxOf s.aon ((quadOuts q).filterMap (fun o => (sparseFind s.fend.moves o).map BiasMove.arrive))

/-- The outputs of quad `q` have arrived: the sequence step completes (R339). -/
def State.paArrived (s0 : State) (q : Nat) : State :=
  let s := (s0.elapseTo (s0.quadArrive q)).each (quadOuts q) State.syncBias
  match (s.paSeq q).step with
  | 1 => (s.seqDrain q true).setSeq q ⟨3, s.aon + s.drainWait⟩
  | 4 => ((s.setPa q paON).setSeq q {}).raise 0x1001 q
  | 5 => s.setSeq q ⟨6, s.aon + s.drainWait⟩
  | _ => s

/-- The drain wait of quad `q` ends: the ramp up follows, or the drain goes low and the quad is OFF (R339). -/
def State.paWaitEnd (s0 : State) (q : Nat) : State :=
  match (s0.paSeq q).step with
  | 3 =>
    let s := s0.elapseTo (s0.paSeq q).waitEnd
    (s.setSeq q ⟨4, 0⟩).each (quadOuts q) (fun t o => t.moveTarget o s.biasSlew)
  | 6 =>
    let s := s0.elapseTo (s0.paSeq q).waitEnd
    (((s.seqDrain q false).setPa q paOFF).setSeq q {}).raise 0x1002 q
  | _ => s0

/-- The quads that are ON or in RAMP_UP, as a mask (R341, R343). -/
def State.quadsOn (s : State) : Nat :=
  maskOf (s.quads.filter (fun q => s.paState q = paON || s.paState q = paRAMPUP))

/-! ## Front-end faults (R343) -/

/-- Causes, as the bits of FEND.FAULT. -/
def feCPLL : Nat := 0
def feSYN : Nat := 1
def feDEBUG : Nat := 2
def feTHERMAL : Nat := 3
def feVNEG : Nat := 4

/-- Every drain enable low, by the sequencers (the end of a fault's entry). -/
def State.drainsLow (s : State) : State :=
  let t := (List.range 8).foldl (fun u q => u.seqDrain q false) s
  { t with fend := { t.fend with drainOffAt := none } }

/-- Entry to a front-end fault: TRSW low, the bias to SAFE at the fast rate and the drains low 10 µs later (for VNEG the
drains first), AUXDAC to SAFE, every sequencer OFF, FE_FAULT (R343). -/
def State.feEnter (s : State) (vneg : Bool) : State :=
  let on := s.quadsOn
  let s1 := s.each (List.range 8) (fun t q => ((t.setTimedQ (pinTrsw q) []).setTimedQ (pinDrain q) []).drive (pinTrsw q) false)
  let s2 := s1.iff vneg State.drainsLow
  let s3 := s2.each (List.range 72) (fun t o => t.moveSafe o fastRate)
  let s4 := (s3.put F.FEND_PA_STAT_STATE 0)
  let s5 := { s4 with fend := { s4.fend with
      seqs := [], reissue := on, drainOffAt := if vneg then none else some (s4.aon + usU 10) } }
  s5.raise 0x1003 0

/-- A cause of the front-end fault comes to hold. -/
def State.feSet (s : State) (cause : Nat) : State :=
  let was := s.feFault
  let t := s.setBit 0x100014 cause
  if was then (if cause = feVNEG then t.drainsLow else t) else t.feEnter (cause = feVNEG)

/-- A cause of the front-end fault clears; with the last one FE_FAULT_CLEARED, and ON again under AUTO_ON in Run (R343). -/
def State.feClear (s : State) (cause : Nat) : State :=
  let w := (s.word 0x100014).toNat
  if bitAt w cause then
    let t := s.setWord 0x100014 (BitVec.ofNat 32 (setBitAt w cause false))
    if t.feFault then t
    else
      let u := (t.iff (t.fend.drainOffAt != none) State.drainsLow).raise 0x1004 0
      let again := bitList 8 u.fend.reissue
      let v := { u with fend := { u.fend with reissue := 0 } }
      if v.flag F.FEND_PA_CTL_AUTO_ON && v.inRun then
        v.each again (fun x q => if x.paRefuses q then x else x.paStartOn q)
      else v
  else s

/-- The instant at which a fault's drains go low has come (R343). -/
def State.feDrainOff (s : State) : State :=
  match s.fend.drainOffAt with
  | some a => (s.elapseTo a).drainsLow
  | none => s

/-! ## Writes of a bias or auxiliary output (R337, R338, R340) -/

/-- A write of RANGE and TARGET: a range change on a BIAS output of a quad that is not OFF is refused; otherwise the target
changes and the output follows at its rate, unless a sequence, a fault or a state holds it where it is. -/
def State.biasWrite (s : State) (o range target : Nat) : State :=
  let q := o / 8
  if o < 64 ∧ range ≠ s.get (biasRange o) ∧ s.paState q ≠ paOFF then
    (s.inc F.FEND_RNG_REJ_COUNT).raise 0x1007 o
  else
    let park : State := match sparseFind s.fend.moves o with
      | some _ => s
      | none => { s with fend := { s.fend with
          moves := sparseInsert s.fend.moves o ⟨s.biasUvNow o, s.aon, s.get (biasRange o), s.get (biasOut o), fastRate⟩ } }
    let t := (park.put (biasRange o) range).put (biasTarget o) target
    if s.feFault || !s.inRun then t.syncBias o
    else if 64 ≤ o then t.moveTarget o fastRate
    else if s.paState q = paON ∨ (s.paSeq q).step = 4 then t.moveTarget o s.biasSlew
    else if s.paState q = paOFF then t.moveTarget o fastRate
    else t.syncBias o

/-- The SAFE values loaded into the SAFE registers, the targets and the outputs at a raise of MON (R336). -/
def State.loadSafe (s : State) : State :=
  if s.boot.store.applied then
    State.each { s with fend := { s.fend with moves := [] } } (List.range 72) (fun t o =>
      let v := Config.safeBias t.boot.store.safe o
      let r := bitsAt v 12 1
      let c := v % 4096
      ((((t.put (safeRange o) r).put (safeCode o) c).put (biasRange o) r).put (biasTarget o) c).put (biasOut o) c)
  else s

end Sys2Proof.Machine
end

