-- ==== Sys2Proof/Machine/Grade.lean ====
section
/-! DEFINITION. The serving synthesisers (04_clocks_and_synthesisers.md R78) and the grades of the spare resources
(22_reserve.md R433 to R435). -/

namespace Sys2Proof.Machine

/-! ## Which synthesiser serves (R78) -/

/-- The transmit synthesiser: TX_SRC. -/
def State.txSyn (s : State) : Nat := s.get F.CLK_LO_ROUTE_TX_SRC

/-- Split band. -/
def State.split (s : State) : Bool := s.flag F.CLK_LO_ROUTE_SPLIT

/-- The receive synthesiser: RX_SRC in split band, TX_SRC in TDD. -/
def State.rxSyn (s : State) : Nat := if s.split then s.get F.CLK_LO_ROUTE_RX_SRC else s.txSyn

/-- The hot spare of TDD, unless PWR.RUN_OFF turns it off. -/
def State.spareSyn (s : State) : Option Nat :=
  if s.split || s.flag F.PWR_RUN_OFF_SPARE_SYN then none else some (1 - s.txSyn)

/-- Synthesiser `n` is locked. -/
def State.synLocked (s : State) (n : Nat) : Bool := s.flag (F.CLK_SYN_STAT_LOCK n)

/-- Synthesiser `n` is in its settle window. -/
def State.synSettle (s : State) (n : Nat) : Bool := s.flag (F.CLK_SYN_STAT_SETTLE n)

/-- The CPLL is locked or in holdover: the converters are clocked. -/
def State.cpllRuns (s : State) : Bool :=
  s.get F.CLK_CPLL_STAT_MODE == 2 || s.get F.CLK_CPLL_STAT_MODE == 3

/-! ## Retired paths -/

/-- Receive path `p` is retired (06_receive_front_end_and_adc.md R130). -/
def State.rxRetired (s : State) (p : Nat) : Bool := bitAt (s.mask64 F.RXA_RETIRE0_PATHS F.RXA_RETIRE1_PATHS) p

/-- Transmit path `p` is retired (08_transmit_path.md R166). -/
def State.txRetired (s : State) (p : Nat) : Bool := bitAt (s.mask64 F.TXA_RETIRE0_PATHS F.TXA_RETIRE1_PATHS) p

/-! ## Grades -/

/-- Spares left in each unit of a kind (R433). -/
def State.kindUnits (s : State) (k : Nat) : List Nat :=
  match k with
  | 0 => (s.paths.filter (fun p => !s.rxRetired p)).flatMap (fun p =>
      [1 - s.get (F.RXA_P_STAT_NOSPARE_I p), 1 - s.get (F.RXA_P_STAT_NOSPARE_Q p)])
  | 1 => s.quads.flatMap (fun q => [1 - s.get (F.DPD_ORX_STAT_NOSPARE_I q), 1 - s.get (F.DPD_ORX_STAT_NOSPARE_Q q)])
  | 2 => [0, 1].flatMap (fun b => [3 - popcount 9 (s.get (F.FHL_B_STAT_OFF b)), 3 - popcount 9 (s.get (F.FHL_B_TXSTAT_TXOFF b))])
  | 3 => [0, 1].flatMap (fun b => [3 - popcount 9 (s.get (F.RING_P_STAT_OFF b)), 3 - popcount 9 (s.get (F.RING_P_TXSTAT_TXOFF b))])
  | 4 => ((List.range 4).filter (fun c => s.hasCluster c)).map (fun c => popcount 24 (s.get (F.QCTL_C_RSV_CORES c)))
  | 5 => (List.range (bitsAt (capsOf s.part) 16 4)).map (fun c => s.get (F.HOLDC_SPARE_LEFT c))
  | 6 => [s.get F.TALLY_STAT_SPARES0, s.get F.TALLY_STAT_SPARES1]
  | 7 => [8 - popcount 24 (s.get F.THERM_RETIRED_SENSORS)]
  | _ => [match s.spareSyn with
      | none => 0
      | some n => b2n (s.synLocked n && !s.flag (F.RSV_SYN_WEAR_FAILED n))]

/-- The spares each unit starts with (R433). -/
def kindSpares (k : Nat) : Nat :=
  match k with
  | 0 => 1
  | 1 => 1
  | 2 => 3
  | 3 => 3
  | 4 => 2
  | 5 => 32
  | 6 => 32
  | 7 => 8
  | _ => 1

/-- A link unit in UP with no parity or with width 6 (R434): register values OFF, STATE. -/
def lanesLeast (state off : Nat) : Bool :=
  state == stUP && (bitAt off 8 || decide (2 ≤ popcount 8 off))

/-- Grade codes: 0 GOOD, 1 LOW, 2 EMPTY, 3 N/A (R434). -/
def State.kindGrade (s : State) (k : Nat) : Nat :=
  let units := s.kindUnits k
  let pick (na empty low : Bool) : Nat := if na then 3 else if empty then 2 else if low then 1 else 0
  match k with
  | 0 => pick false (s.paths.any (fun p => !s.rxRetired p && s.flag (F.RXA_P_STAT_DEGRADED p))) (units.any (· == 0))
  | 1 => pick false (s.quads.any (fun q => s.flag (F.DPD_ORX_STAT_DEGRADED q))) (units.any (· == 0))
  | 2 => pick false ([0, 1].any (fun b => lanesLeast (s.get (F.FHL_B_STAT_STATE b)) (s.get (F.FHL_B_STAT_OFF b))
        || lanesLeast (s.get (F.FHL_B_STAT_STATE b)) (s.get (F.FHL_B_TXSTAT_TXOFF b)))) (units.any (fun u => decide (u < 3)))
  | 3 => pick (s.ringSize == 0)
        ([0, 1].any (fun b => lanesLeast (s.get (F.RING_P_STAT_STATE b)) (s.get (F.RING_P_STAT_OFF b))
        || lanesLeast (s.get (F.RING_P_STAT_STATE b)) (s.get (F.RING_P_TXSTAT_TXOFF b)))) (units.any (fun u => decide (u < 3)))
  | 4 => pick false (units.any (· == 0)) (units.any (· == 1))
  | 5 => pick false (units.any (· == 0)) (units.any (fun u => decide (u ≤ 4)))
  | 6 => pick false (units.any (· == 0)) (units.any (fun u => decide (u ≤ 4)))
  | 7 =>
    let n := popcount 24 (s.get F.THERM_RETIRED_SENSORS)
    pick false (decide (9 ≤ n)) (decide (4 ≤ n))
  | _ => pick (s.split || s.flag F.PWR_RUN_OFF_SPARE_SYN) (units.any (· == 0)) false

/-- The domain that owns a kind is up (R435). -/
def State.kindUp (s : State) (k : Nat) : Bool :=
  match k with
  | 0 => s.quads.any (fun q => s.up (domRXQ q))
  | 1 => s.up domORX
  | 2 => s.up (domFH 0) || s.up (domFH 1)
  | 3 => s.up (domRG 0) || s.up (domRG 1)
  | 4 => (List.range 4).any (fun c => s.up (domQCL c))
  | 5 => s.up domHOLD
  | 6 => s.up domSHELL
  | 7 => true
  | _ => s.up (domSYN 0) || s.up (domSYN 1)

/-- The grade of kind `k` as RSV.GRADE shows it. -/
def State.grade (s : State) (k : Nat) : Nat := bitsAt (s.get F.RSV_GRADE_KINDS) (2 * k) 2

/-- Kind `k` recomputed: RSV.KINDk, the grade, and GRADE_CHANGED for a change other than to or from N/A (R434, R435). -/
def State.regrade (s : State) (k : Nat) : State :=
  if s.kindUp k then
    let units := s.kindUnits k
    let left := units.foldl (· + ·) 0
    let s1 := (((s.put (F.RSV_KIND_LEFT k) left).put (F.RSV_KIND_USED k) (units.length * kindSpares k - left)).put
      (F.RSV_KIND_MIN k) (minOf (kindSpares k) units)).putb (F.RSV_KIND_STALE k) false
    let old := s.grade k
    let new := s.kindGrade k
    let es := s1.rsv.emptySince
    let s2 := State.put { s1 with rsv := { s1.rsv with
      emptySince := if new = 2 then (if old = 2 then es else sparseInsert es k s1.aon) else sparseErase es k } } F.RSV_GRADE_KINDS
      (setBitsAt (s1.get F.RSV_GRADE_KINDS) (2 * k) 2 new)
    if old = new ∨ old = 3 ∨ new = 3 then s2 else s2.raise 0x1701 (k + 256 * old + 65536 * new)
  else s.putb (F.RSV_KIND_STALE k) true

/-- Every kind recomputed (R435). -/
def State.regradeAll (s : State) : State := s.each (List.range 9) State.regrade

/-- RSV.RETIRED counts the retired paths of each direction (22_reserve.md, Paths). -/
def State.countRetired (s : State) : State :=
  (s.put F.RSV_RETIRED_TX (s.paths.filter (fun p => s.txRetired p)).length).put F.RSV_RETIRED_RX
    (s.paths.filter (fun p => s.rxRetired p)).length

end Sys2Proof.Machine
end

