-- ==== Sys2Proof/Machine/Nco.lean ====
section
/-! DEFINITION. The sample grid and the numerically controlled oscillators (01_architecture.md R17; 07_receive_chain.md R135 to
R137; 08_transmit_path.md R155). -/

namespace Sys2Proof.Machine

/-! ## The 983.04 MHz grid: sample k stands at k × 200,000 / 3 units, rounded half up (R17; log entry 9) -/

/-- The instant of grid sample `k`, in units of 2^-16 ns since the epoch. -/
def gridAt (k : Nat) : Nat := (k * 400000 + 3) / 6

/-- The first grid sample at or after an instant. -/
def gridFrom (t : Nat) : Nat :=
  let k := t * 3 / 200000
  if t ≤ gridAt k then k else k + 1

/-- The stamp of an instant counted in units since the epoch (R11). -/
def stampOf (t : Nat) : Stamp := BitVec.ofNat 64 t

/-- The instant, in units since the epoch, that a stamp names: the nearest one to the present (R12). -/
def State.absOf (s : State) (a : Stamp) : Nat := ((s.tide.now : Int) + stampDiff a s.stamp).toNat

/-- Time comes forward to an instant in units since the epoch. -/
def State.reachAbs (s : State) (t : Nat) : State := if s.tide.now < t then s.reach (stampOf t) else s

/-! ## Sine table: 2^20 addresses a turn, Q1.17, peak 131,071 (R135; log entry 10) -/

/-- π × 2^64, rounded down. -/
def piQ64 : Nat := 57952155664616982739

/-- Terms of the sine series from term `t`, number `n` on; `x2` is x² in Q64. -/
def sinTerms : Nat → Int → Int → Nat → Int
  | 0, _, _, _ => 0
  | f + 1, t, x2, n =>
    let t' := -(t * x2 / 18446744073709551616) / (((2 * n) * (2 * n + 1) : Nat) : Int)
    t + sinTerms f t' x2 (n + 1)

/-- 131,071 × sin(π i / 2^19) for a quarter of a turn, 0 ≤ i ≤ 2^18, rounded half up. -/
def sinQuarter (i : Nat) : Int :=
  let x : Int := ((piQ64 * i / 524288 : Nat) : Int)
  rnd 64 (131071 * sinTerms 14 x (x * x / 18446744073709551616) 1)

/-- Sine of table address `a` (20 bits). -/
def sinTab (a : Nat) : Int :=
  let i := a % 262144
  match a / 262144 % 4 with
  | 0 => sinQuarter i
  | 1 => sinQuarter (262144 - i)
  | 2 => -sinQuarter i
  | _ => -sinQuarter (262144 - i)

/-- e^(+jθ) of a 48-bit phase, Q1.17: the top 20 bits address the table. -/
def phasor (theta : Nat) : Cx :=
  let a := theta / 268435456 % 1048576
  ⟨sinTab (a + 262144), sinTab a⟩

/-! ## Phase -/

/-- One turn, 2^48. -/
def turn : Nat := 281474976710656

/-- A signed phase modulo one turn. -/
def modTurn (x : Int) : Nat := (x % (turn : Int)).toNat

/-- The phase f × t of a frequency word at an instant in units of 2^-16 ns (R137), rounded half up to 2^-48 turn. -/
def phaseAt (freq t : Int) : Int := divRound (freq * t * 3) 200000

/-- The largest |FREQ| of a retune: 200 MHz (R136). -/
def freqLimit : Int := 57266230613333

/-- The segment in force at grid index `k`; segments stand newest first. -/
def segAt : List NcoSeg → Nat → NcoSeg
  | [], _ => ⟨0, 0, 0⟩
  | [g], _ => g
  | g :: gs, k => if g.k ≤ k then g else segAt gs k

/-- The phase at a position in grid samples × 2^32 (R135). -/
def ncoPhase (segs : List NcoSeg) (pos : Nat) : Nat :=
  let g := segAt segs (pos / 4294967296)
  modTurn ((g.theta : Int) + divRound (g.freq * ((pos : Int) - ((g.k * 4294967296 : Nat) : Int))) 4294967296)

/-- A retune at grid index `k`: the phase is continuous (R136). Eight segments are kept, for outputs that lag the inputs. -/
def ncoRetune (segs : List NcoSeg) (k : Nat) (freq : Int) : List NcoSeg :=
  (⟨k, ncoPhase segs (k * 4294967296), freq⟩ :: segs).take 8

/-- OFS after a retune at instant `t` (R137). -/
def ofsRetune (ofs : Nat) (old new t : Int) : Nat := modTurn ((ofs : Int) + phaseAt (old - new) t)

end Sys2Proof.Machine
end

