-- ==== Sys2Proof/Machine/Decibel.lean ====
section
/-! DEFINITION. Logarithms, decibels and phases of integers by exact comparison (19_hold_and_gauge.md R393, R396;
17_front_end_control_and_breakwater.md R347, R351). -/

namespace Sys2Proof.Machine

/-- 10^m ≤ (num / den)^k. -/
def powLe (m : Int) (num den k : Nat) : Bool :=
  if 0 ≤ m then decide (10 ^ m.toNat * den ^ k ≤ num ^ k) else decide (den ^ k ≤ 10 ^ (-m).toNat * num ^ k)

/-- The greatest m of [lo, lo + 2^b) with 10^m ≤ (num / den)^k, given that lo is one. -/
def powSearch : Nat → Int → Nat → Nat → Nat → Int
  | 0, lo, _, _, _ => lo
  | b + 1, lo, num, den, k =>
    let mid := lo + ((2 ^ b : Nat) : Int)
    if powLe mid num den k then powSearch b mid num den k else powSearch b lo num den k

/-- ⌊k log10(num / den)⌋ of a positive ratio. -/
def logFloor (k num den : Nat) : Int := powSearch 19 (-262144) num den k

/-- k log10(num / den), rounded half up. -/
def logRound (k num den : Nat) : Int := (logFloor (2 * k) num den + 1) / 2

/-- The square root of num / den, rounded half up. -/
def sqrtRound (num den : Nat) : Nat := if den = 0 then 0 else (isqrt (4 * num / den) + 1) / 2

/-- 2^64 × sin(π i / 2^47) for a quarter of a turn, by the series, 0 ≤ i ≤ 2^46. -/
def sinQ64 (i : Nat) : Int :=
  let x : Int := ((piQ64 * i / 140737488355328 : Nat) : Int)
  sinTerms 16 x (x * x / 18446744073709551616) 1

/-- The phase in the first quadrant of (x, y), both not negative, in 2^-48 turn: the greatest i below 2^46 with
x sin i ≤ y cos i, bit by bit. -/
def argQuarter : Nat → Nat → Int → Int → Nat
  | 0, i, _, _ => i
  | b + 1, i, x, y =>
    let m := i + 2 ^ b
    if x * sinQ64 m ≤ y * sinQ64 (70368744177664 - m) then argQuarter b m x y else argQuarter b i x y

/-- The phase of a complex integer in 2^-48 turn, in (-2^47, 2^47]. -/
def argTurn (c : Cx) : Int :=
  let x : Int := c.re.natAbs
  let y : Int := c.im.natAbs
  let q : Int := if x = 0 ∧ y = 0 then 0 else if x = 0 then 70368744177664 else ((argQuarter 46 0 x y : Nat) : Int)
  let h := if c.re < 0 then 140737488355328 - q else q
  if c.im < 0 then -h else h

end Sys2Proof.Machine
end

