-- ==== Sys2Proof/Machine/RxChain.lean ====
section
/-! DEFINITION. The receive digital chain: stages, stamps, invalid spans, restarts and the alignment stage
(07_receive_chain.md R133 to R150; 11_berths_and_beam_schedule.md R225). -/

namespace Sys2Proof.Machine

/-- One receive ADC sample of position. -/
def one32 : Nat := 4294967296

/-! ## Per-path records -/

/-- The chain record of path `p`. -/
def State.rxPath (s : State) (p : Nat) : RxPath := (sparseFind s.rx.paths p).getD {}

/-- The chain record of path `p` set. -/
def State.setRxPath (s : State) (p : Nat) (x : RxPath) : State :=
  { s with rx := { s.rx with paths := sparsePut (fun _ => ({} : RxPath)) s.rx.paths p x } }

/-! ## Configuration -/

/-- Settle mode (R145). -/
def State.settle (s : State) : Bool := s.flag F.RXD_CFG_SETTLE

/-- D of settle mode: 16 × 2^BOX. -/
def State.boxD (s : State) : Nat := 16 * 2 ^ s.get F.RXD_CFG_BOX

/-- The number of half-band stages that run, 1 to 4 (R133). -/
def State.hbStages (s : State) : Nat := s.get F.RXD_CFG_DEC + 1

/-- The step of the resampler, 2^32 + F (R139). -/
def State.rsStep (s : State) : Nat := if s.flag F.RXD_CFG_RS_EN then one32 + s.get F.RXD_RS_STEP_F else one32

/-- The output period in receive ADC samples × 2^32. -/
def State.rxPeriod (s : State) : Nat := if s.settle then s.boxD * one32 else 2 ^ s.hbStages * s.rsStep

/-- The digital group delay in receive ADC samples × 2^32 (R146). -/
def State.rxDelay32 (s : State) : Nat :=
  if s.settle then (s.boxD - 1) * 2147483648
  else
    let n := s.hbStages
    let hb := 35 + (if 2 ≤ n then 70 else 0) + (if 3 ≤ n then 92 else 0) + (if 4 ≤ n then 184 else 0)
    let rs := if s.flag F.RXD_CFG_RS_EN then 8 * 2 ^ n else 0
    (hb + rs) * one32 + s.rxPeriod

/-- The analog delay in tenths of a nanosecond, by BBF_BW (R146). -/
def State.rxAnalog10 (s : State) : Nat :=
  match s.get F.RXA_CTL_BBF_BW with
  | 1 => 31
  | 2 => 62
  | _ => 16

/-- RXD.DELAY: the total correction in units of 2^-16 ns (R146). -/
def State.rxDelayUnits (s : State) : Nat :=
  let num := s.rxDelay32 * 2000000 + s.rxAnalog10 * 65536 * 3 * one32
  let den := 30 * one32
  (2 * num + den) / (2 * den)

/-- RXD.FILL: the digital group delay over the output period, rounded up (R147). -/
def State.rxFill (s : State) : Nat := (s.rxDelay32 + s.rxPeriod - 1) / s.rxPeriod

/-- The port-plane instant of a position: its grid instant less the analog delay, rounded half up once (R17, R146). -/
def State.portInstant (s : State) (pos : Nat) : Nat :=
  let num : Int := ((pos * 2000000 : Nat) : Int) - ((s.rxAnalog10 * 65536 * 3 * one32 : Nat) : Int)
  (divRound num ((30 * one32 : Nat) : Int)).toNat

/-- The port-plane instant of receive ADC sample `k`. -/
def State.portAt (s : State) (k : Nat) : Nat := s.portInstant (k * one32)

/-- The digital group delay in units of 2^-16 ns, rounded up. -/
def State.rxDelayCeil (s : State) : Nat := (s.rxDelay32 * 200000 + 3 * one32 - 1) / (3 * one32)

/-! ## Invalid spans (R148; 01_architecture.md R26) -/

/-- An instant lies in a span that covers path `p`. -/
def InvSpan.covers (x : InvSpan) (p t : Nat) : Bool :=
  decide (x.lo ≤ t) && (match x.hi with | none => true | some h => decide (t < h))
    && (match x.path with | none => true | some q => p == q)

/-- Path `p` is invalid at port-plane instant `t`. -/
def State.rxInvalid (s : State) (p t : Nat) : Bool := s.rx.spans.any (fun x => x.covers p t)

/-- A span added; spans that ended more than 1 ms ago are forgotten, since no output lags its input so far. -/
def State.addSpan (s : State) (x : InvSpan) : State :=
  let keep := s.rx.spans.filter (fun y => match y.hi with | none => true | some h => decide (s.tide.now < h + msU 1))
  { s with rx := { s.rx with spans := x :: keep } }

/-- Every open span with the given path ends at `t`. -/
def State.closeSpan (s : State) (path : Option Nat) (t : Nat) : State :=
  { s with rx := { s.rx with spans := s.rx.spans.map (fun x =>
      if x.hi = none ∧ x.path = path then { x with hi := some t } else x) } }

/-! ## The sample index -/

/-- The index of the next sample instant (log entry 9). -/
def State.nextK (s : State) : Nat :=
  let k := gridFrom s.tide.now
  if s.rx.adcK < k then k else s.rx.adcK + 1

/-! ## Half-band stages (R138) -/

/-- Coefficient `i` of half-band stage `h`, 1 to 4. -/
def State.hbCoef (s : State) (h i : Nat) : Int :=
  match h with
  | 1 => s.geti (F.RXD_HB1_C_C i)
  | 2 => s.geti (F.RXD_HB2_C_C i)
  | 3 => s.geti (F.RXD_HB3_C_C i)
  | _ => s.geti (F.RXD_HB4_C_C i)

/-- The number of coefficients of stage `h`. -/
def hbTaps (h : Nat) : Nat := if h ≤ 2 then 18 else 12

/-- The half-band sum over a memory, newest first, with the centre at offset 2n - 1: 0.5 at the centre, C[i] at the offsets
±(2i + 1), rounded once to Q20.4 before saturation. -/
def hbSum (coef : Nat → Int) (n : Nat) (mem : List Cx) : Cx :=
  let c := 2 * n - 1
  let terms := (List.range n).map (fun i =>
    cxScale (coef i) (cxAdd (nth cx0 mem (c - (2 * i + 1))) (nth cx0 mem (c + (2 * i + 1)))))
  cxRnd 17 (cxAdd (cxScale 65536 (nth cx0 mem c)) (cxSum terms))

/-- A stage takes a word: its new memory, the output word where the stage has one for this input, and whether it saturated. -/
def State.hbStep (s : State) (h : Nat) (mem : List Cx) (w : RxWord) : List Cx × Option RxWord × Bool :=
  let n := hbTaps h
  let c := 2 * n - 1
  let mem' := (w.v :: mem).take (2 * c + 1)
  let idx := (w.pos / one32 - s.rx.startK) / 2 ^ (h - 1)
  if c ≤ idx ∧ (idx - c) % 2 = 0 then
    let y := hbSum (s.hbCoef h) n mem'
    (mem', some ⟨cxSat 24 y, w.pos - c * 2 ^ (h - 1) * one32⟩, cxOver 24 y)
  else (mem', none, false)

/-- The word through the half-band stages that run. -/
def State.hbRun (s : State) (x : RxPath) (w : RxWord) : RxPath × Option RxWord × Bool :=
  let (m1, o1, b1) := s.hbStep 1 x.h1 w
  let x1 := { x with h1 := m1 }
  match o1 with
  | none => (x1, none, b1)
  | some w1 =>
    if s.hbStages ≤ 1 then (x1, some w1, b1)
    else
      let (m2, o2, b2) := s.hbStep 2 x1.h2 w1
      let x2 := { x1 with h2 := m2 }
      match o2 with
      | none => (x2, none, b1 || b2)
      | some w2 =>
        if s.hbStages ≤ 2 then (x2, some w2, b1 || b2)
        else
          let (m3, o3, b3) := s.hbStep 3 x2.h3 w2
          let x3 := { x2 with h3 := m3 }
          match o3 with
          | none => (x3, none, b1 || b2 || b3)
          | some w3 =>
            if s.hbStages ≤ 3 then (x3, some w3, b1 || b2 || b3)
            else
              let (m4, o4, b4) := s.hbStep 4 x3.h4 w3
              ({ x3 with h4 := m4 }, o4, b1 || b2 || b3 || b4)

/-! ## Fractional resampler (R139) -/

/-- Prototype word `w`. -/
def State.rsCoef (s : State) (w : Nat) : Int := s.geti (F.RXD_RSCOEF_C w)

/-- Phase `p`, 0 to 256, over a memory whose entry `d` is the input at the position's whole part. -/
def State.rsPhase (s : State) (mem : List Cx) (d p : Nat) : Cx :=
  if p < 256 then cxSum ((List.range 16).map (fun k => cxScale (s.rsCoef (256 * k + p)) (nth cx0 mem (d + k))))
  else cxSum ((List.range 16).map (fun k => cxScale (s.rsCoef (256 * k)) (nth cx0 mem (d + k - 1))))

/-- The resampler takes a half-band output: an output follows once the input after its position has come. -/
def State.rsRun (s : State) (x : RxPath) (w : RxWord) : RxPath × Option RxWord × Bool :=
  if s.flag F.RXD_CFG_RS_EN then
    let st := s.hbStages
    let n := (w.pos / one32 - s.rx.startK) / 2 ^ st
    let mem := (w.v :: x.rs).take 20
    let pos := 8 * one32 + x.rsJ * s.rsStep
    let ni := pos / one32
    if ni + 1 ≤ n then
      let d := n - ni
      let mu := pos % one32
      let p := mu / 16777216
      let al : Int := ((mu / 65536 % 256 : Nat) : Int)
      let y := cxRnd 25 (cxAdd (cxScale (256 - al) (s.rsPhase mem d p)) (cxScale al (s.rsPhase mem d (p + 1))))
      ({ x with rs := mem, rsJ := x.rsJ + 1 },
        some ⟨cxSat 24 y, s.rx.startK * one32 + (pos - 8 * one32) * 2 ^ st⟩, cxOver 24 y)
    else ({ x with rs := mem }, none, false)
  else (x, some w, false)

/-! ## DC blocker and IQ correction (R140, R141) -/

/-- K of the DC blocker, limited to 10 to 20. -/
def State.dcK (s : State) : Nat :=
  let k := s.get F.RXD_DC_CTL_K
  if k < 10 then 10 else if 20 < k then 20 else k

/-- The DC blocker on a word. -/
def State.dcRun (s : State) (x : RxPath) (w : RxWord) : RxPath × RxWord × Bool :=
  if s.flag F.RXD_CFG_DC_EN then
    let ph := phasor (ncoPhase s.rx.nco w.pos)
    let u := cxMul w.v ph
    let e := if s.flag F.RXD_DC_CTL_FREEZE then x.e
      else cxSat 32 (cxAdd x.e (cxRnd (9 + s.dcK) (cxSub u (cxScale 512 x.e))))
    let y := cxSub w.v (cxRnd 25 (cxMul e (cxConj ph)))
    ({ x with e := e }, ⟨cxSat 24 y, w.pos⟩, cxOver 24 y)
  else (x, w, false)

/-- Tap w(k - 1) in force, k = 0 to 2, Q1.17. -/
def State.rxTap (s : State) (p k : Nat) : Cx := ⟨s.geti (F.RXD_P_IQ_VALUE p k 0), s.geti (F.RXD_P_IQ_VALUE p k 1)⟩

/-- A word in the port frame: z × e^(+jθ), exact, 21 fraction bits. -/
def State.portFrame (s : State) (w : RxWord) : Cx := cxMul w.v (phasor (ncoPhase s.rx.nco w.pos))

/-- An optional word in the port frame, 0 where there is none. -/
def State.portFrame? (s : State) (w : Option RxWord) : Cx :=
  match w with
  | none => cx0
  | some v => s.portFrame v

/-- IQ correction: one sample of delay, but in settle mode, where w(0) acts alone (R141, R145). -/
def State.iqRun (s : State) (p : Nat) (x : RxPath) (w : RxWord) : RxPath × Option RxWord × Bool :=
  if s.settle then
    if s.flag F.RXD_CFG_IQ_EN then
      let u := s.portFrame w
      let v := cxAdd (cxScale 131072 u) (cxMul (s.rxTap p 1) (cxConj u))
      let y := cxRnd 51 (cxMul v (cxConj (phasor (ncoPhase s.rx.nco w.pos))))
      (x, some ⟨cxSat 24 y, w.pos⟩, cxOver 24 y)
    else (x, some w, false)
  else
    let x' := { x with u1 := some w, u2 := x.u1 }
    match x.u1 with
    | none => (x', none, false)
    | some w1 =>
      if s.flag F.RXD_CFG_IQ_EN then
        let u0 := s.portFrame w
        let u1 := s.portFrame w1
        let u2 := s.portFrame? x.u2
        let v := cxAdd (cxScale 131072 u1) (cxAdd (cxMul (s.rxTap p 0) (cxConj u0))
          (cxAdd (cxMul (s.rxTap p 1) (cxConj u1)) (cxMul (s.rxTap p 2) (cxConj u2))))
        let y := cxRnd 51 (cxMul v (cxConj (phasor (ncoPhase s.rx.nco w1.pos))))
        (x', some ⟨cxSat 24 y, w1.pos⟩, cxOver 24 y)
      else (x', some w1, false)

/-! ## The whole chain -/

/-- The attenuator step under which input `k` was taken: steps stand newest first. -/
def stepAt : List (Nat × Nat) → Nat → Nat
  | [], _ => 0
  | [e], _ => e.2
  | e :: es, k => if e.1 ≤ k then e.2 else stepAt es k

/-- OUT_SHIFT, above 8 applied as 8. -/
def State.outShift (s : State) : Nat := if 8 < s.get F.RXD_CFG_OUT_SHIFT then 8 else s.get F.RXD_CFG_OUT_SHIFT

/-- Any over-range input within half an output period of a position (R149). -/
def State.ovrNear (s : State) (x : RxPath) (pos : Nat) : Bool :=
  x.ovrK.any (fun k => decide (2 * ((k * one32 : Nat) - (pos : Int) : Int).natAbs ≤ s.rxPeriod))

/-- The output sample of a word: scaled, tagged, zeroed where invalid (R142, R148, R149). The flags say that the box of settle
mode was invalid or over range; `silent` gives the zeros of a retired path (R150). -/
def State.rxOut (s : State) (p : Nat) (x : RxPath) (w : RxWord) (boxInv boxOvr silent : Bool) : State × RxSample :=
  let t := s.portInstant w.pos
  let step := stepAt s.rx.steps (w.pos / one32)
  let j := (w.pos - s.rx.startK * one32) / s.rxPeriod
  if silent then (s, ⟨cx0, step, false, false, t, j, false⟩)
  else
    let y := cxRnd s.outShift w.v
    let inv := x.stopped || (if s.settle then boxInv else s.rxInvalid p t)
    let ovr := if s.settle then boxOvr else s.ovrNear x w.pos
    let s1 := if cxOver 16 y then (s.inc (F.RXD_P_SAT_COUNT p)).raiseMs 0x0503 0 p else s
    if inv then (s1.inc (F.RXD_P_INV_COUNT p), ⟨cx0, step, ovr, true, t, j, false⟩)
    else (s1, ⟨cxSat 16 y, step, ovr, false, t, j, false⟩)

/-- Settle mode's boxcar takes a mixer word: the output where its window of D inputs closes (R145). -/
def State.boxRun (s : State) (p : Nat) (x : RxPath) (w : RxWord) (ovr : Bool) : RxPath × Option (RxWord × Bool × Bool) :=
  let d := s.boxD
  let idx := w.pos / one32 - s.rx.startK
  let x' := { x with
    box := cxAdd x.box w.v, boxN := x.boxN + 1, boxOvr := x.boxOvr || ovr
    boxInv := x.boxInv || s.rxInvalid p (s.portInstant w.pos) }
  if idx % d = d - 1 then
    let y := cxRnd (4 + s.get F.RXD_CFG_BOX) x'.box
    let pos := (s.rx.startK + (idx - (d - 1))) * one32 + (d - 1) * 2147483648
    ({ x' with box := cx0, boxN := 0, boxOvr := false, boxInv := false, boxFirst := false },
      some (⟨cxSat 24 y, pos⟩, x'.boxInv || x.boxFirst, x'.boxOvr))
  else (x', none)

/-- The mixer: z = x × e^(-jθ), rounded to Q20.4 (R135). -/
def State.mixRun (s : State) (v : Cx) (pos : Nat) : Cx := cxRnd 13 (cxMul v (cxConj (phasor (ncoPhase s.rx.nco pos))))

/-- The chain of path `p` takes the compensated input of index `k`: the output samples it yields (R133). -/
def State.rxChain (s : State) (p k : Nat) (v : Cx) (ovr : Bool) : State × List RxSample :=
  let silent := s.rxRetired p
  let x0 := s.rxPath p
  let x := { x0 with ovrK := if ovr then (k :: x0.ovrK).filter (fun j => decide (k < j + 2048)) else x0.ovrK }
  let z := s.mixRun (if silent || x.stopped then cx0 else v) (k * one32)
  let w : RxWord := ⟨cxSat 24 z, k * one32⟩
  let count (t : State) (b : Bool) : State :=
    if b && !silent then (t.inc (F.RXD_P_SAT_COUNT p)).raiseMs 0x0503 0 p else t
  if s.settle then
    let (x1, o) := s.boxRun p x w ovr
    match o with
    | none => (count (s.setRxPath p x1) (cxOver 24 z), [])
    | some (w1, bi, bo) =>
      let (x2, w2, b2) := s.dcRun x1 w1
      let (x3, o3, b3) := s.iqRun p x2 w2
      let t := count (s.setRxPath p x3) (cxOver 24 z || b2 || b3)
      match o3 with
      | none => (t, [])
      | some w3 => let (u, y) := t.rxOut p x3 w3 bi bo silent; (u, [y])
  else
    let (x1, o1, b1) := s.hbRun x w
    match o1 with
    | none => (count (s.setRxPath p x1) (cxOver 24 z || b1), [])
    | some w1 =>
      let (x2, o2, b2) := s.rsRun x1 w1
      match o2 with
      | none => (count (s.setRxPath p x2) (cxOver 24 z || b1 || b2), [])
      | some w2 =>
        let (x3, w3, b3) := s.dcRun x2 w2
        let (x4, o4, b4) := s.iqRun p x3 w3
        let t := count (s.setRxPath p x4) (cxOver 24 z || b1 || b2 || b3 || b4)
        match o4 with
        | none => (t, [])
        | some w4 => let (u, y) := t.rxOut p x4 w4 false false silent; (u, [y])

/-! ## Starts and restarts (R144, R147) -/

/-- The chains run: RUN, DSPRX up, the converter gates open, receive quads up (R144, R151). -/
def State.rxRunning (s : State) : Bool :=
  s.flag F.RXD_CTL_RUN && s.up domDSPRX && s.clk.gatesOpen && s.quads.any (fun q => s.up (domRXQ q))

/-- The frequency word in force. -/
def State.rxFreq (s : State) : Int := toSigned 48 (s.get F.RXD_NCO_CUR_LO_FREQ + 2 ^ 32 * s.get F.RXD_NCO_CUR_HI_FREQ)

/-- OFS. -/
def State.rxOfs (s : State) : Nat := s.get F.RXD_NCO_OFS_LO_OFS + 2 ^ 32 * s.get F.RXD_NCO_OFS_HI_OFS

/-- A 48-bit value put into a LO and a HI field. -/
def State.put48 (s : State) (lo hi : Field) (v : Nat) : State := (s.put lo (v % 2 ^ 32)).put hi (v / 2 ^ 32 % 65536)

/-- RXD.STAT, DELAY and FILL follow the chains. -/
def State.syncRxd (s : State) : State :=
  let r := s.rxRunning
  ((s.putb F.RXD_STAT_RUNNING r).put F.RXD_DELAY_TOTAL (if r then s.rxDelayUnits else 0)).put F.RXD_FILL_SAMPLES
    (if r then s.rxFill else s.get F.RXD_FILL_SAMPLES)

/-- The IQ taps of path `p` derived from its stored measurement for the output rate in force (R141). -/
def State.rxDeriveTaps (s : State) (p : Nat) : State :=
  match sparseFind s.rx.iq p with
  | none => s
  | some m => s.each [0, 1, 2] (fun t k =>
      let w := Config.iqTap m s.rxPeriod k
      (t.put (F.RXD_P_IQ_VALUE p k 0) (w % 2 ^ 18)).put (F.RXD_P_IQ_VALUE p k 1) (w / 2 ^ 18 % 2 ^ 18))

/-- The resampler output number of the first output at or after input index `k`. -/
def State.rsFirst (s : State) (k : Nat) : Nat :=
  let n := (k - s.rx.startK + 2 ^ s.hbStages - 1) / 2 ^ s.hbStages
  (n * one32 + s.rsStep - 1) / s.rsStep

/-- Path `p` restarts at input index `k`: memories cleared, taps derived, the restart fill invalid (R147, R148). -/
def State.rxRestartAt (s : State) (p k : Nat) : State :=
  let x := s.rxPath p
  let fresh : RxPath := {}
  let t := s.setRxPath p { fresh with
    e := x.e, lost := x.lost, lostK := x.lostK, sumI := x.sumI, sumQ := x.sumQ, count := x.count, rsJ := s.rsFirst k
    align := x.align.map (fun y => { y with old := true }) }
  let u := (t.rxDeriveTaps p).closeSpan (some p) (t.portAt k)
  u.addSpan ⟨u.portAt k, some (u.portAt k + u.rxDelayCeil), some p⟩

/-- Some paths restart at the next sample; their outputs keep the common grid (R147). -/
def State.rxRestart (s : State) (l : List Nat) : State :=
  if s.rxRunning then s.each l (fun t p => t.rxRestartAt p s.nextK) else s

/-- Every chain starts together on the next sample (R143, R144, R147). -/
def State.rxStart (s : State) : State :=
  if s.rxRunning then
    let k := s.nextK
    let th := modTurn (phaseAt s.rxFreq (s.portAt k) + s.rxOfs)
    let t : State := { s with rx := { s.rx with
        startK := k, nco := [⟨k, th, s.rxFreq⟩], paths := s.rx.paths.map (fun e => (e.1, { e.2 with align := [] })) } }
    (t.each s.paths (fun u p => if u.rxRetired p || (u.rxPath p).stopped then u else u.rxRestartAt p k)).syncRxd
  else s.syncRxd

/-! ## The NCO retune (R136, R137) -/

/-- A retune takes effect at the next sample, at its port-plane instant. -/
def State.rxRetune (s : State) (f : Int) : State :=
  let k := s.nextK
  let ofs := ofsRetune s.rxOfs s.rxFreq f (s.portAt k)
  let t := if s.rxRunning then { s with rx := { s.rx with nco := ncoRetune s.rx.nco k f } } else s
  (t.put48 F.RXD_NCO_CUR_LO_FREQ F.RXD_NCO_CUR_HI_FREQ (ofSigned 48 f)).put48 F.RXD_NCO_OFS_LO_OFS F.RXD_NCO_OFS_HI_OFS ofs

/-- A GO with a frequency, an ARM bit and a stamp: refused above 200 MHz, else at once or held (R136). -/
def State.rxNcoGo (s : State) (f : Int) (arm : Bool) (at_ : Stamp) : Bool × State :=
  if freqLimit < f ∨ f < -freqLimit then (false, s.raise 0x0504 0)
  else if arm then
    (true, State.putb { s with rx := { s.rx with ncoArm := some (f, at_) } } F.RXD_NCO_CTL_PEND true)
  else (true, State.rxRetune (State.putb { s with rx := { s.rx with ncoArm := none } } F.RXD_NCO_CTL_PEND false) f)

/-- The armed retune takes effect on the first sample at or after its stamp (R136). -/
def State.rxNcoFire (s : State) : State :=
  match s.rx.ncoArm with
  | none => s
  | some (f, a) =>
    let t := s.reach a
    State.rxRetune (State.putb { t with rx := { t.rx with ncoArm := none } } F.RXD_NCO_CTL_PEND false) f

/-! ## Alignment (11_berths_and_beam_schedule.md R225) -/

/-- The alignment in force of a path and direction (0 TX, 1 RX). -/
def State.alignedOf (s : State) (p dir : Nat) : Aligned := (sparseFind s.berth.aligned (2 * p + dir)).getD {}

/-- The shift of ALIGN in 1/64 sample at an output period (R225). -/
def alignShift (align : Int) (period : Nat) : Int :=
  divRound (clampInt (-1024) 1024 align * 65536 * 3 * 4294967296) ((800000 * period : Nat) : Int)

/-- The aligned value over a memory (newest first) around entry 8, and the number of its saturated parts. -/
def alignValue (a : Aligned) (period : Nat) (mem : List Cx) : Cx × Nat :=
  let sh := alignShift a.align period
  let m := sh / 64
  let ph := (sh % 64).toNat
  let at_ (j : Int) : Cx := nth cx0 mem ((8 : Int) - m - j).toNat
  let y := if ph = 0 then cxRnd 14 (cxMul ⟨a.re, a.im⟩ (at_ 0))
    else cxRnd 29 (cxMul ⟨a.re, a.im⟩ (cxSum ((List.range 8).map (fun t => cxScale (Config.alignTap ph t) (at_ ((t : Int) - 3))))))
  (cxSat 16 y, b2n (overS 16 y.re) + b2n (overS 16 y.im))

/-- The entry of the memory nearest to t + ALIGN, the earlier of two at a tie. -/
def alignNear (a : Aligned) (period : Nat) : Nat :=
  let sh := alignShift a.align period
  ((8 : Int) - sh / 64 - (if 32 < sh % 64 then 1 else 0)).toNat

/-- The alignment stage takes a chain output and yields the sample eight outputs older (R225). -/
def State.rxAlign (s : State) (p : Nat) (y : RxSample) : State × List RxSample :=
  let x := s.rxPath p
  let mem := (y :: x.align).take 20
  let t := s.setRxPath p { x with align := mem }
  match mem[8]? with
  | none => (t, [])
  | some c =>
    let a := s.alignedOf p 1
    let (v, sat) := alignValue a s.rxPeriod (mem.map (fun z => if z.old && !c.old then cx0 else z.v))
    let near := nth c mem (alignNear a s.rxPeriod)
    let u := if sat = 0 then t else t.add F.BERTH_SAT_CNT_COUNT sat
    (u, [{ v := if near.inv then cx0 else v, step := near.step, ovr := near.ovr, inv := near.inv, at_ := c.at_, j := c.j }])

/-- A list of samples through the alignment stage. -/
def State.rxAlignAll (s : State) (p : Nat) : List RxSample → State × List RxSample
  | [] => (s, [])
  | y :: ys =>
    let (t, a) := s.rxAlign p y
    let (u, b) := State.rxAlignAll t p ys
    (u, a ++ b)

end Sys2Proof.Machine
end

