-- ==== Sys2Proof/Machine/Rx.lean ====
section
/-! DEFINITION. The receive front end: compensation, array-wide gain, servo, slices, calibrations
(06_receive_front_end_and_adc.md R107 to R130), and the gaps that calibrations wait for (13_fronthaul_messages.md R276). -/

namespace Sys2Proof.Machine

/-! ## Gaps -/

/-- A gap that has begun covers the quads and has the span left to run (R128, R276). -/
def State.gapCovers (s : State) (quads span : Nat) : Bool :=
  s.msgs.gaps.any (fun g => g.begun && maskAnd quads g.quads == quads
    && decide ((span : Int) ≤ stampDiff g.hi s.stamp))

/-! ## Gain steps -/

/-- The step in force. -/
def State.agcStep (s : State) : Nat := s.get F.RXA_AGC_STAT_STEP

/-- The gain state machine is suspended. -/
def State.agcSusp (s : State) : Bool := s.flag F.RXA_AGC_STAT_SUSP

/-- The stored servo code pair of path `p` at step `k` (R116): I + 1024 Q, 512 each where nothing was stored. -/
def State.servoCode (s : State) (p k : Nat) : Nat := sparseGet (fun _ => 512 + 1024 * 512) s.rx.servo (11 * p + k)

/-- A servo code pair stored. -/
def State.setServo (s : State) (p k c : Nat) : State :=
  { s with rx := { s.rx with servo := sparsePut (fun _ => 512 + 1024 * 512) s.rx.servo (11 * p + k) c } }

/-- RXA.Pnn_SERVO shows the code of the step in force. -/
def State.showServo (s : State) (p : Nat) : State :=
  let c := s.servoCode p s.agcStep
  (s.put (F.RXA_P_SERVO_CODE_I p) (c % 1024)).put (F.RXA_P_SERVO_CODE_Q p) (c / 1024)

/-- The servo average of a path starts again (R117). -/
def State.servoRestart (s : State) (p : Nat) : State :=
  let x := s.rxPath p
  s.setRxPath p { x with sumI := 0, sumQ := 0, count := 0 }

/-- A step comes into force on the next sample: the servo codes of the step are loaded, the 20 samples from it are invalid,
and the change is counted where `count` says so (R110, R111, R116). -/
def State.gainStep (s : State) (new : Nat) (count : Bool) : State :=
  let old := s.agcStep
  if new = old then s
  else
    let k := s.nextK
    let s1 := s.put F.RXA_AGC_STAT_STEP new
    let s2 := if count then s1.inc (if old < new then F.RXA_AGC_CNT_UP else F.RXA_AGC_CNT_DOWN) else s1
    let s3 := { s2 with rx := { s2.rx with steps := ((k, new) :: s2.rx.steps).take 64 } }
    let s4 := s3.addSpan ⟨s3.portAt k, some (s3.portAt (k + 20)), none⟩
    s4.each s4.paths (fun t p => (t.showServo p).servoRestart p)

/-- Any TRSW of a present quad is high (R112). -/
def State.trswHigh (s : State) : Bool := s.quads.any (fun q => bitAt s.pins.trsw q)

/-- The serving receive synthesiser is in its settle window or unlocked. -/
def State.rxLoBad (s : State) : Bool := !s.synLocked s.rxSyn || s.synSettle s.rxSyn

/-- A suspension begins: SUSP, dwell 0 (R112). -/
def State.agcSuspend (s : State) : State :=
  State.putb { s with rx := { s.rx with dwell := 0 } } F.RXA_AGC_STAT_SUSP true

/-- An edge of a TRSW pin: high suspends, the last fall starts the 1 µs (R112). -/
def State.agcTrsw (s : State) : State :=
  if s.trswHigh then State.agcSuspend { s with rx := { s.rx with suspUntil := none } }
  else { s with rx := { s.rx with suspUntil := some (stampAdd s.stamp (usU 1)) } }

/-- START or MAN_STEP, above 10 applied as 10 (R113). -/
def gainLimit (n : Nat) : Nat := if 10 < n then 10 else n

/-- The suspension ends when no cause holds: START is loaded in AUTO under RESUME (R112). -/
def State.agcSuspendEnd (s : State) : State :=
  if s.agcSusp && s.inRun && !s.trswHigh && !s.rxLoBad && s.quads.any (fun q => s.up (domRXQ q)) then
    let t := match s.rx.suspUntil with
      | none => s
      | some a => let u := s.reach a; { u with rx := { u.rx with suspUntil := none } }
    let u := t.putb F.RXA_AGC_STAT_SUSP false
    if u.flag F.RXA_AGC_CTL_RESUME && u.get F.RXA_AGC_CTL_MODE == 0 then
      u.gainStep (gainLimit (u.get F.RXA_AGC_CTL_START)) false
    else u
  else s

/-- 0 applied as 1 (OVR_STEPS, ATTACK). -/
def atLeast1 (n : Nat) : Nat := if n = 0 then 1 else n

/-- The decision of AUTO mode (R110). -/
def State.agcAuto (s : State) : State :=
  let step := s.agcStep
  let ovrS := atLeast1 (s.get F.RXA_AGC_CTL_OVR_STEPS)
  let att := atLeast1 (s.get F.RXA_AGC_CTL_ATTACK)
  let up := if s.rx.anyOvr then (if ovrS < att then att else ovrS)
    else if s.get F.RXA_AGC_THR_HI_CODE < s.rx.peak then att else 0
  if 0 < up ∧ step < 10 then
    State.gainStep { s with rx := { s.rx with dwell := 0 } } (gainLimit (step + up)) true
  else if 0 < up then s.raiseMs 0x0406 0 0
  else if s.rx.peak < s.get F.RXA_AGC_THR_LO_CODE then
    let d := s.rx.dwell + 1
    if atLeast1 (s.get F.RXA_AGC_DWELL_DWELL_US) * 196608000 ≤ d * 1600000 ∧ 0 < step then
      State.gainStep { s with rx := { s.rx with dwell := 0 } } (step - 1) true
    else { s with rx := { s.rx with dwell := d } }
  else { s with rx := { s.rx with dwell := 0 } }

/-- The end of a decision interval (R109, R110, R113). -/
def State.agcDecision (s : State) : State :=
  let t := if s.agcSusp then { s with rx := { s.rx with dwell := 0 } }
    else match s.get F.RXA_AGC_CTL_MODE with
      | 0 => if s.rx.counted then s.agcAuto else s
      | 1 => s.gainStep (gainLimit (s.get F.RXA_AGC_CTL_MAN_STEP)) true
      | _ => s
  { t with rx := { t.rx with peak := 0, anyOvr := false, counted := false } }

/-! ## The sample -/

/-- C[nn, k] (R107). -/
def State.compOf (s : State) (p k : Nat) : Cx := ⟨s.geti (F.RXA_COMP_VALUE p k 0), s.geti (F.RXA_COMP_VALUE p k 1)⟩

/-- The compensated sample: the product with C[nn, k], rounded half up, saturated to 18 bits (R107). -/
def State.compensate (s : State) (p : Nat) (x : Cx) : Cx := cxSat 18 (cxRnd 13 (cxMul x (s.compOf p s.agcStep)))

/-- Path `p` is counted by the gain state machine, but for the tag of its sample (R109). -/
def State.agcCounts (s : State) (p : Nat) : Bool :=
  bitAt (s.mask64 F.RXA_AGC_MASK0_PATHS F.RXA_AGC_MASK1_PATHS) p && !s.rxRetired p && !(s.rxPath p).stopped

/-- The sample instant of path `p`'s next sample: the present one where the path has not delivered yet, else the next
(log entry 9). -/
def State.rxInstant (s : State) (p : Nat) : State :=
  if bitAt s.rx.sampled p || s.rx.sampled == 0 || decide (gridAt s.rx.adcK < s.tide.now) then
    let k := s.nextK
    let t := s.reachAbs (gridAt k)
    { t with rx := { t.rx with adcK := k, sampled := 2 ^ p } }
  else { s with rx := { s.rx with sampled := setBitAt s.rx.sampled p true } }

/-- Meter 0 shows the smallest slack of the receive ingress buffers: (depth - fill) sample periods (01_architecture.md
R21). -/
def State.rxMeter (s : State) (p fill : Nat) : State :=
  let t := { s with rx := { s.rx with fills := sparsePut (fun _ => 0) s.rx.fills p fill } }
  let worst := maxOf 0 (t.rx.fills.map (fun e => e.2))
  t.meter 0 ((1024 - worst) * 3125 / 3072)

/-- The samples lost at the ingress of path `p` come out as zeros, invalid, at their instants (01_architecture.md R19). -/
def State.rxReturn (s : State) (p : Nat) : State × List RxSample :=
  let x := s.rxPath p
  let t := (s.setRxPath p { x with lost := 0 }).addSpan
    ⟨s.portAt x.lostK, some (s.portAt (x.lostK + x.lost)), some p⟩
  if x.lost = 0 then (s, [])
  else (List.range x.lost).foldl (fun (acc : State × List RxSample) i =>
    let (u, l) := acc.1.rxChain p (x.lostK + i) cx0 false
    (u, acc.2 ++ l)) (t, [])

/-- What the converter side of a sample does: OVR count, the decision interval's peak, the servo's sums (R109, R117,
R124). -/
def State.rxTally (s : State) (p : Nat) (x : Cx) (ovr : Bool) : State :=
  let inv := s.rxInvalid p (s.portAt s.rx.adcK)
  let s1 := if ovr && !s.rxRetired p then (s.inc (F.RXA_P_OVR_COUNT p)).raiseMs 0x0408 p p else s
  let s2 := if s1.agcCounts p && !inv then
      let m := maxOf s1.rx.peak [x.re.natAbs, x.im.natAbs]
      { s1 with rx := { s1.rx with peak := m, anyOvr := s1.rx.anyOvr || ovr, counted := true } }
    else s1
  if inv || s2.agcSusp || s2.flag F.RXA_SERVO_CTL_FREEZE || s2.rxRetired p then s2
  else
    let r := s2.rxPath p
    s2.setRxPath p { r with sumI := r.sumI + x.re, sumQ := r.sumQ + x.im, count := r.count + 1 }

/-- A sample of path `p`: codes I and Q, the over-range comparators, the fill its ingress buffer shows. A full buffer loses it
(R19); otherwise the chain takes what was lost before it, and it. -/
def State.rxSample (s0 : State) (p : Nat) (x : Cx) (ovr : Bool) (fill : Nat) : State × List RxSample :=
  let s := ((s0.rxInstant p).rxTally p x ovr).rxMeter p fill
  let k := s.rx.adcK
  if s.rxRunning = false then (s, [])
  else if 1024 ≤ fill then
    let r := s.rxPath p
    let t := (s.slip 0).raiseMs 0x0002 (info2 0 p) p
    (t.setRxPath p { r with lost := r.lost + 1, lostK := if r.lost = 0 then k else r.lostK }, [])
  else
    let (t, l) := s.rxReturn p
    let (u, m) := t.rxChain p k (t.compensate p x) ovr
    (u, l ++ m)

/-! ## Offset servo (R116 to R118) -/

/-- SERVO_RAIL is set and raised once until cleared (R118). -/
def State.servoRail (s : State) (p : Nat) : State :=
  if s.flag (F.RXA_P_STAT_SERVO_RAIL p) then s
  else (s.putb (F.RXA_P_STAT_SERVO_RAIL p) true).raise 0x0403 p

/-- A code moved one LSB against the mean, held at 0 and 1,023; whether it would have passed. -/
def servoMove (code : Nat) (sum : Int) (dead : Nat) : Nat × Bool :=
  let lim : Int := ((dead * 65536 : Nat) : Int)
  if lim < sum then (if code = 0 then (0, true) else (code - 1, false))
  else if sum < -lim then (if code = 1023 then (1023, true) else (code + 1, false))
  else (code, false)

/-- The end of a servo average of 65,536 samples (R117). -/
def State.servoAverage (s : State) (p : Nat) : State :=
  let x := s.rxPath p
  if x.count < 65536 then s
  else
    let c := s.servoCode p s.agcStep
    let d := s.get F.RXA_SERVO_CTL_DEAD
    let (ci, ri) := servoMove (c % 1024) x.sumI d
    let (cq, rq) := servoMove (c / 1024) x.sumQ d
    let t := ((s.setServo p s.agcStep (ci + 1024 * cq)).showServo p).servoRestart p
    if ri || rq then t.servoRail p else t

/-! ## Slices (R119 to R122) -/

/-- An ADC's record: key 2 × path + (0 I, 1 Q). -/
def State.adc (s : State) (p q : Nat) : Adc := (sparseFind s.rx.adcs (2 * p + q)).getD {}

/-- An ADC's record set. -/
def State.setAdc (s : State) (p q : Nat) (a : Adc) : State :=
  { s with rx := { s.rx with adcs := sparsePut (fun _ => ({} : Adc)) s.rx.adcs (2 * p + q) a } }

/-- Register fields of an ADC. -/
def fSPARE (p q : Nat) : Field := if q = 0 then F.RXA_P_STAT_SPARE_I p else F.RXA_P_STAT_SPARE_Q p
def fNOSPARE (p q : Nat) : Field := if q = 0 then F.RXA_P_STAT_NOSPARE_I p else F.RXA_P_STAT_NOSPARE_Q p
def fSLRET (p q : Nat) : Field := if q = 0 then F.RXA_P_SLRET_SLICES_I p else F.RXA_P_SLRET_SLICES_Q p

/-- A slice meets a condition of R120: it is retired and the spare takes its place for good, or, with no spare left, it goes
on converting and the path is DEGRADED (R120 to R122). -/
def State.sliceFail (s : State) (p q sl : Nat) : State :=
  let a := s.adc p q
  if bitAt (s.get (fSLRET p q)) sl then s
  else
    match a.spare with
    | none =>
      if s.flag (F.RXA_P_STAT_DEGRADED p) then s
      else ((s.putb (F.RXA_P_STAT_DEGRADED p) true).raise 0x0407 p).regrade 0
    | some sp =>
      let order := if sl = sp then a.order else a.order.filter (· ≠ sl) ++ [sp]
      let t := (s.setAdc p q { a with order := order, spare := none }).put (fSLRET p q)
        (setBitAt (s.get (fSLRET p q)) sl true)
      let u := (t.put (fSPARE p q) 0xF).putb (fNOSPARE p q) true
      ((u.raise 0x0401 (p + 256 * q + 65536 * sl)).raise 0x0402 (p + 256 * q)).regrade 0

/-- The 2 ms exchange of an ADC: the calibration of slice `sl` ended with a trim at its limit or a residual beyond the limit,
or well; a good spare replaces the slice that has served longest (R119, R120). -/
def State.sliceExchange (s : State) (p q sl : Nat) (trimLimit residual : Bool) : State :=
  let a := s.adc p q
  let n := if residual then nth 0 a.resid sl + 1 else 0
  let t := s.setAdc p q { a with resid := setNth a.resid sl n }
  if trimLimit || decide (3 ≤ n) then t.sliceFail p q sl
  else
    let b := t.adc p q
    match b.spare, b.order with
    | some sp, o :: os => (t.setAdc p q { b with order := os ++ [sp], spare := some o }).put (fSPARE p q) o
    | _, _ => t

/-! ## Calibrations (R126 to R129) -/

/-- The span of receive calibration kinds, in stamp units. -/
def rxCalSpan (kind : Nat) : Nat :=
  (if bitAt kind 0 then msU 24 else 0) + (if bitAt kind 1 then msU 4 else 0) + (if bitAt kind 2 then usU 4400 else 0)
    + (if bitAt kind 3 then msU 22 else 0) + (if bitAt kind 4 then msU 12 else 0)

/-- The present quads of a mask. -/
def State.presentQuads (s : State) (m : Nat) : Nat := maskOf (s.quads.filter (fun q => bitAt m q))

/-- The paths of the quads of a mask that are present. -/
def State.pathsOf (s : State) (m : Nat) : List Nat := s.paths.filter (fun p => bitAt m (p / 8))

/-- Results of receive calibration kinds for path `p` enter the calibration store and the registers that show it (R126,
R127): values measured under draw `n`. -/
def State.rxCalStore (s : State) (n kind p : Nat) : State :=
  let v (i : Nat) : Nat := Config.measured n (64 * i + p)
  let s1 := if bitAt kind 0 then { s with rx := { s.rx with trims := sparseInsert s.rx.trims p (v 0) } } else s
  let s2 := if bitAt kind 1 then { s1 with rx := { s1.rx with bbf := sparseInsert s1.rx.bbf p (v 1) } } else s1
  let s3 := if bitAt kind 2 then
      ((s2.each (List.range 11) (fun t k => t.setServo p k (v (2 + k) % 1048576))).putb
        (F.RXA_P_STAT_SERVO_RAIL p) false).showServo p
    else s2
  let s4 := if bitAt kind 3 then
      s3.each (List.range 11) (fun t k =>
        (t.put (F.RXA_COMP_VALUE p k 0) (v (20 + 2 * k) % 2 ^ 20)).put (F.RXA_COMP_VALUE p k 1) (v (21 + 2 * k) % 2 ^ 20))
    else s3
  if bitAt kind 4 then { s4 with rx := { s4.rx with iq := sparseInsert s4.rx.iq p (v 50) } } else s4

/-- Calibration kinds run on paths: a path of `fail` keeps its previous results; `slices` names the slices that failed the
foreground SLICE calibration. -/
def State.rxCalRun (s : State) (kind : Nat) (l : List Nat) (fail : Nat) (slices : List (Nat × Nat × Nat)) : State :=
  let (n, t) := s.draw
  let u := t.each l (fun x p => if bitAt fail p then x else x.rxCalStore n kind p)
  if bitAt kind 0 then u.each slices (fun x e => if l.contains e.1 then x.sliceFail e.1 e.2.1 e.2.2 else x) else u

/-- CAL_REFUSED of the receive calibrations (R128). -/
def State.rxCalRefuse (s : State) : State := s.raise 0x0405 0

/-- A request (R128). -/
def State.rxCalReq (s : State) (kind quads : Nat) : State :=
  let m := s.presentQuads quads
  if m = 0 ∨ kind = 0 ∨ s.rx.cal ≠ none then s.rxCalRefuse
  else
    let t := { s with rx := { s.rx with cal := some ⟨kind, m, s.aon + sU 1, none⟩ } }
    (t.put F.RXA_CAL_STAT_ACTIVE m).putb F.RXA_CAL_STAT_WAIT true

/-- The held request starts inside a gap that covers it: the chains of its paths stop, their samples are invalid (R128,
R129). -/
def State.rxCalStart (s : State) : State :=
  match s.rx.cal with
  | some ⟨kind, m, w, none⟩ =>
    if s.gapCovers m (rxCalSpan kind) then
      let t := { s with rx := { s.rx with cal := some ⟨kind, m, w, some (stampAdd s.stamp (rxCalSpan kind))⟩ } }
      let u := (t.putb F.RXA_CAL_STAT_WAIT false).putb F.RXA_CAL_STAT_BUSY true
      u.each (u.pathsOf m) (fun x p =>
        (x.setRxPath p { x.rxPath p with stopped := true }).addSpan ⟨x.portAt x.nextK, none, some p⟩)
    else s
  | _ => s

/-- The held request finds no gap within 1 s (R128). -/
def State.rxCalTimeout (s : State) : State :=
  match s.rx.cal with
  | some ⟨_, _, w, none⟩ =>
    let t := s.elapseTo w
    let u := { t with rx := { t.rx with cal := none } }
    ((u.putb F.RXA_CAL_STAT_WAIT false).put F.RXA_CAL_STAT_ACTIVE 0).rxCalRefuse
  | _ => s

/-- FAIL bits of the quads of `m` after a calibration that `fail` (paths) did not pass. -/
def failBits (old m fail : Nat) : Nat :=
  maskOf ((List.range 8).filter (fun q =>
    if bitAt m q then (List.range 8).any (fun i => bitAt fail (8 * q + i)) else bitAt old q))

/-- The running calibration completes: results stored, the chains restart (R129). -/
def State.rxCalDone (s : State) (fail : Nat) (slices : List (Nat × Nat × Nat)) : State :=
  match s.rx.cal with
  | some ⟨kind, m, _, some e⟩ =>
    let t := s.reach e
    let l := t.pathsOf m
    let u := t.rxCalRun kind l fail slices
    let v := { u with rx := { u.rx with cal := none } }
    let fb := failBits (v.get F.RXA_CAL_STAT_FAIL) m fail
    let w := ((v.putb F.RXA_CAL_STAT_BUSY false).put F.RXA_CAL_STAT_ACTIVE 0).put F.RXA_CAL_STAT_FAIL fb
    let x := w.each l (fun y p => y.setRxPath p { y.rxPath p with stopped := false })
    let y := (x.rxRestart (l.filter (fun p => !x.rxRetired p))).raise 0x0404 0
    if l.any (fun p => bitAt fail p) then y.raise 0x0409 0 else y
  | _ => s

/-! ## Domain raise and lower -/

/-- A receive quad is raised: step from START or 0, servo codes shown, chains restarted (R127, R147). -/
def State.rxQuadUp (s : State) (q : Nat) : State :=
  let t := s.each (s.pathsOf (2 ^ q)) State.showServo
  t.rxRestart ((t.pathsOf (2 ^ q)).filter (fun p => !t.rxRetired p))

/-- The step after the receive paths come up: START under RESUME, else 0 (R127). -/
def State.agcInit (s : State) : State :=
  State.put { s with rx := { s.rx with dwell := 0, steps := [], peak := 0, anyOvr := false, counted := false } }
    F.RXA_AGC_STAT_STEP (if s.flag F.RXA_AGC_CTL_RESUME then gainLimit (s.get F.RXA_AGC_CTL_START) else 0)

/-- A receive quad is lowered: its chains, servo averages and ingress state are gone; ADC rotation state too. -/
def State.rxQuadDown (s : State) (q : Nat) : State :=
  { s with rx := { s.rx with
      paths := sparseKeep (fun p => p / 8 ≠ q) s.rx.paths
      fills := sparseKeep (fun p => p / 8 ≠ q) s.rx.fills
      spans := s.rx.spans.filter (fun x => match x.path with | none => true | some p => p / 8 ≠ q) } }

end Sys2Proof.Machine
end

