-- ==== Sys2Proof/Machine/Replay.lean ====
section
/-! DEFINITION. Samples of a replay engine, read from Hold (19_hold_and_gauge.md R383, R397, R398). -/

namespace Sys2Proof.Machine

/-- The address of a Hold granule. -/
def granuleAddr (g : Nat) : Nat := 0x1000000000 + 64 * g

/-- A granule is poisoned (R377). -/
def State.poisoned (s : State) (g : Nat) : Bool := s.hold.poison.contains g

/-- The granule of set `n` of engine `r`, stream `j`. -/
def State.rpGranule (s : State) (r n j : Nat) : Nat :=
  s.get (F.GAUGE_RP_BASE_GRANULE r) + n * 2 ^ s.get (F.GAUGE_RP_CTL_LOG_CNT r) + j

/-- The instants that a set plays: 15, or the run of a marker. -/
def State.rpSetLen (s : State) (r n : Nat) : Nat :=
  let a := granuleAddr (s.rpGranule r n 0)
  if bitAt (s.memWord (a + 60)) 31 then s.memWord (a + 8) else 15

/-- LEN of engine `r`. -/
def State.rpLen (s : State) (r : Nat) : Nat := s.get (F.GAUGE_RP_LEN_SETS r)

/-- The set and the place in it that engine `r` plays at air index `k`, walking on from set `n` of pass `pass`, whose first
sample is `k0`; none once play has ended (R397, R398). -/
def State.rpWalk (s : State) (r k : Nat) (stop : Bool) : Nat → Nat → Nat → Nat → Option (Nat × Nat)
  | 0, _, _, _ => none
  | f + 1, k0, n, pass =>
    let d := s.rpSetLen r n
    if k < k0 then none
    else if k < k0 + d then some (n, k - k0)
    else if stop then none
    else if n + 1 < s.rpLen r then State.rpWalk s r k stop f (k0 + d) (n + 1) pass
    else
      let loops := s.get (F.GAUGE_RP_CTL_LOOPS r)
      if loops ≠ 0 ∧ loops ≤ pass + 1 then none else State.rpWalk s r k stop f (k0 + d) 0 (pass + 1)

/-- Stream `j` of engine `r` at air index `k`: the sample, and whether it came from a poisoned granule (R398). -/
def State.rpSample (s : State) (r j k : Nat) : Option (Cx × Bool) :=
  match sparseFind s.hold.engines r with
  | none => none
  | some e =>
    match s.rpWalk r k e.stop 4096 e.setK e.set e.pass with
    | none => none
    | some (n, i) =>
      let g := s.rpGranule r n j
      let a := granuleAddr g
      if s.poisoned g then some (cx0, true)
      else if bitAt (s.memWord (a + 60)) 31 then some (cx0, false)
      else
        let w := s.memWord (a + 4 * i)
        some (⟨toSigned 16 w, toSigned 16 (w / 65536)⟩, false)

/-- The lowest-numbered engine that plays path `p` at air index `k`: engine, sample, poisoned (R397). -/
def State.replayAt (s : State) (p k : Nat) : Option (Nat × Cx × Bool) :=
  (List.range 4).findSome? (fun r =>
    let f := s.get (F.GAUGE_RP_CTL_FIRST r)
    if s.get (F.GAUGE_RP_STAT_STATE r) ≠ 0 ∧ f ≤ p ∧ p < f + 2 ^ s.get (F.GAUGE_RP_CTL_LOG_CNT r) then
      (s.rpSample r (p - f) k).map (fun x => (r, x.1, x.2))
    else none)

end Sys2Proof.Machine
end

