-- ==== Sys2Proof/Machine/DpdEngine.lean ====
section
/-! DEFINITION. The predistortion engine: basis, banks, cross-fades (09_predistortion.md R174 to R182). -/

namespace Sys2Proof.Machine

/-! ## Banks (R177 to R179) -/

/-- The window address of a bank word's real part. -/
def dpdAddr (p bank t : Nat) : Nat := 0x2800000 + 0x800 * p + 0x100 * bank + 8 * t

/-- Coefficient `t` of a bank, Q4.20. -/
def State.dpdCoef (s : State) (p bank t : Nat) : Cx :=
  ⟨toSigned 24 (s.memWord (dpdAddr p bank t)), toSigned 24 (s.memWord (dpdAddr p bank t + 4))⟩

/-- The 32 coefficients of a bank. -/
def State.dpdBank (s : State) (p bank : Nat) : List Cx := (List.range 32).map (s.dpdCoef p bank)

/-- A coefficient stored. -/
def State.setDpdCoef (s : State) (p bank t : Nat) (c : Cx) : State :=
  (s.setMemWord (dpdAddr p bank t) (ofSigned 24 c.re)).setMemWord (dpdAddr p bank t + 4) (ofSigned 24 c.im)

/-- A whole bank stored. -/
def State.setDpdBank (s : State) (p bank : Nat) (l : List Cx) : State :=
  s.each (List.range 32) (fun x t => x.setDpdCoef p bank t (nth cx0 l t))

/-- The predistorter of path `p`. -/
def State.dpdPath (s : State) (p : Nat) : DpdPath := (sparseFind s.dpd.paths p).getD {}

/-- The predistorter of path `p` set. -/
def State.setDpdPath (s : State) (p : Nat) (x : DpdPath) : State :=
  { s with dpd := { s.dpd with paths := sparsePut (fun _ => ({} : DpdPath)) s.dpd.paths p x } }

/-- The active bank; the target during a fade. -/
def State.dpdActive (s : State) (p : Nat) : Nat := s.get (F.DPD_P_STAT_ACTIVE p)

/-- Bank `b` of path `p` is empty. -/
def State.dpdEmpty (s : State) (p b : Nat) : Bool := bitAt (s.get (F.DPD_P_STAT_EMPTY p)) b

/-- A bank is no longer empty. -/
def State.dpdFilled (s : State) (p b : Nat) : State :=
  s.put (F.DPD_P_STAT_EMPTY p) (setBitAt (s.get (F.DPD_P_STAT_EMPTY p)) b false)

/-- Bank `b` is active: in use, or source or target of a cross-fade (R178). -/
def State.dpdInUse (s : State) (p b : Nat) : Bool :=
  s.dpdActive p == b || (match (s.dpdPath p).fade with
    | none => false
    | some f => (f.old.isEmpty && f.src == b) || f.dst == b)

/-- A write of a bank word: ignored and counted while the bank is active, else stored (R178, R179, R194). Bits [31:24] read
0. -/
def State.dpdBankWrite (s : State) (a v : Nat) : State :=
  let off := a - 0x2800000
  let p := off / 0x800
  let b := off / 0x100 % 8
  if s.hasPath p = false then s
  else if s.dpdInUse p b then (s.inc F.DPD_ACTWR_CNT_COUNT).raiseMs 0x0801 0 0
  else
    let t := (s.setMemWord a (v % 2 ^ 24)).dpdFilled p b
    let x := t.dpdPath p
    match x.capture with
    | some (cb, _, e) => if cb = b then t.setDpdPath p { x with capture := some (cb, true, e) } else t
    | none => t

/-! ## The engine (R174 to R176) -/

/-- |x| in Q1.17 of a 16-bit sample, rounded half up. -/
def dpdMag (u : Cx) : Nat :=
  let m := (16 * cxMag2 u).toNat
  let r := isqrt m
  if r * r + r < m then r + 1 else r

/-- p_j = a^(j-1), Q5.17, each step rounded half up. -/
def dpdPow (a : Nat) : Nat → Nat
  | 0 => 131072
  | 1 => 131072
  | j + 1 => (dpdPow a j * a + 65536) / 131072

/-- A term is enabled. -/
def State.termOn (s : State) (t : Nat) : Bool := s.flag (F.DPD_TERM_EN t)

/-- The basis value of term `t` at sample `n`, `u` giving the inputs by delay (R176). -/
def State.dpdBasis (s : State) (u : Nat → Cx) (t : Nat) : Cx :=
  let m := s.get (F.DPD_TERM_M t)
  let e := ((m : Int) + s.geti (F.DPD_TERM_L t)).toNat
  let w : Int := ((dpdPow (dpdMag (u e)) (s.get (F.DPD_TERM_K t)) : Nat) : Int)
  cxSat 24 (cxRnd 15 (cxScale w (u m)))

/-- s = Σ c_t × b_t over the enabled terms, exact, 37 fraction bits. -/
def State.dpdSum (s : State) (c : List Cx) (u : Nat → Cx) : Cx :=
  cxSum (((List.range 32).filter s.termOn).map (fun t => cxMul (nth cx0 c t) (s.dpdBasis u t)))

/-- The fade weight of sample `i` of `n`, Q0.16 (R181). -/
def fadeWeight (i n : Nat) : Int := divRound ((65536 * (i + 1) : Nat) : Int) ((n + 1 : Nat) : Int)

/-- The path bypasses its engine at air index `k` (R176). -/
def State.dpdBypass (s : State) (p k : Nat) : Bool :=
  match s.tx.bypass.find? (fun e => e.1 == p && decide (e.2.1 ≤ k)) with
  | some e => e.2.2
  | none => s.flag (F.DPD_P_CTL_BYPASS p)

/-- The engine's output at air index `k` and whether it saturated: `u` gives the inputs by delay. -/
def State.dpdRun (s : State) (p k : Nat) (u : Nat → Cx) : Cx × Bool :=
  let act := s.dpdActive p
  if s.dpdBypass p k || s.dpdEmpty p act || !s.up domDPD then (u 0, false)
  else
    let out (y : Cx) : Cx × Bool := (cxSatSym 16 y, decide (cxSatSym 16 y ≠ y))
    match (s.dpdPath p).fade with
    | none => out (cxRnd 22 (s.dpdSum (s.dpdBank p act) u))
    | some f =>
      let cs := if f.old.isEmpty then s.dpdBank p f.src else f.old
      let cd := if f.old.isEmpty then s.dpdBank p f.dst else f.new
      if k < f.startK then out (cxRnd 22 (s.dpdSum cs u))
      else if f.startK + f.len ≤ k then out (cxRnd 22 (s.dpdSum cd u))
      else
        let a := s.dpdSum cs u
        let b := s.dpdSum cd u
        out (cxRnd 38 (cxAdd (cxScale 65536 a) (cxScale (fadeWeight (k - f.startK) f.len) (cxSub b a))))

/-! ## Cross-fades (R180 to R182) -/

/-- XFADE.LEN, above 1,024 applied as 1,024. -/
def State.fadeLen (s : State) : Nat := if 1024 < s.get F.DPD_XFADE_LEN then 1024 else s.get F.DPD_XFADE_LEN

/-- A request that is cleared or replaced is counted (R182). -/
def State.swapDropped (s : State) : State := (s.inc F.DPD_DROP_CNT_COUNT).raiseMs 0x0808 0 0

/-- A fade to bank `b` starts at air index `k`; with length 0 the bank is in use at once (R181). -/
def State.fadeStart (s : State) (p b k : Nat) : State :=
  let n := s.fadeLen
  let x := s.dpdPath p
  let src := s.dpdActive p
  let t := s.put (F.DPD_P_STAT_ACTIVE p) b
  if n = 0 then t else (t.setDpdPath p { x with fade := some ⟨src, b, k, n, [], []⟩ }).putb (F.DPD_P_STAT_FADE p) true

/-- A swap request of path `p` for bank `b` at air index `k` (R182). A refresh of R190 is a fade from and to its bank. -/
def State.swapRequest (s : State) (p b k : Nat) : State :=
  match (s.dpdPath p).fade with
  | none => if s.dpdActive p = b then s else s.fadeStart p b k
  | some f =>
    let had := s.flag (F.DPD_P_STAT_QV p)
    if f.dst = b then
      if had then ((s.putb (F.DPD_P_STAT_QV p) false).put (F.DPD_P_STAT_QUEUED p) 0).swapDropped else s
    else
      let t := if had then s.swapDropped else s
      (t.putb (F.DPD_P_STAT_QV p) true).put (F.DPD_P_STAT_QUEUED p) b

/-- The fade of path `p` completes: its target is used alone, and a queued request starts on the same sample (R181, R182). A
refresh leaves its coefficients in the bank. -/
def State.fadeComplete (s : State) (p : Nat) : State :=
  let x := s.dpdPath p
  match x.fade with
  | none => s
  | some f =>
    let t := s.reachAbs (gridAt (f.startK + f.len))
    let t1 := (t.setDpdPath p { x with fade := none }).putb (F.DPD_P_STAT_FADE p) false
    let t2 := if f.old.isEmpty then t1 else t1.setDpdBank p f.dst f.new
    if t2.flag (F.DPD_P_STAT_QV p) then
      let b := t2.get (F.DPD_P_STAT_QUEUED p)
      ((t2.putb (F.DPD_P_STAT_QV p) false).put (F.DPD_P_STAT_QUEUED p) 0).fadeStart p b (f.startK + f.len)
    else t2

/-- A fade that has ended by air index `k` is completed before a request of that index is decided. -/
def State.fadeSettle (s : State) (p k : Nat) : State :=
  match (s.dpdPath p).fade with
  | some f => if f.startK + f.len ≤ k then s.fadeComplete p else s
  | none => s

/-- Requests of several paths for one bank at one air index (R180). -/
def State.swapRequests (s : State) (paths b k : Nat) : State :=
  s.each (s.paths.filter (fun p => bitAt paths p && !s.txRetired p)) (fun t p => (t.fadeSettle p k).swapRequest p b k)

/-- The software requests whose air index is at or before `k` are decided, in the order they were made (R180). -/
def State.swapDue (s : State) (k : Nat) : State :=
  let due := s.dpd.requests.filter (fun e => decide (e.1 ≤ k))
  let t := { s with dpd := { s.dpd with requests := s.dpd.requests.filter (fun e => !decide (e.1 ≤ k)) } }
  t.each due (fun u e => u.swapRequests e.2.2 e.2.1 e.1)

/-- A write of BYPASS: it acts from the first sample at least 2 µs later (R176). -/
def State.bypassWrite (s : State) (p : Nat) (b : Bool) : State :=
  let old := s.flag (F.DPD_P_CTL_BYPASS p)
  let k := gridFrom (s.tide.now + usU 2)
  let base := if s.tx.bypass.any (fun e => e.1 == p) then [] else [(p, 0, old)]
  if old = b then s
  else { s with tx := { s.tx with bypass := (p, k, b) :: s.tx.bypass ++ base } }

end Sys2Proof.Machine
end

