-- ==== Sys2Proof/Machine/TxChain.lean ====
section
/-! DEFINITION. The transmit chain and play-out: DUC, gain, mutes, DAC codes, faults, restarts, calibrations
(08_transmit_path.md R153 to R171, R496; 01_architecture.md R18, R28). -/

namespace Sys2Proof.Machine

/-! ## Per-path records and configuration -/

/-- The chain record of path `p`. -/
def State.txPath (s : State) (p : Nat) : TxPath := (sparseFind s.tx.paths p).getD {}

/-- The chain record of path `p` set. -/
def State.setTxPath (s : State) (p : Nat) (x : TxPath) : State :=
  { s with tx := { s.tx with paths := sparsePut (fun _ => ({} : TxPath)) s.tx.paths p x } }

/-- The number of interpolator stages, 1 to 4 (R153). -/
def State.gStages (s : State) : Nat := s.get F.TXD_CFG_INT + 1

/-- The chains run: RUN and DSPTX up. -/
def State.txRun (s : State) : Bool := s.flag F.TXD_CTL_RUN && s.up domDSPTX

/-- TXA.DELAY by FILT_BW (R159). -/
def State.txDelayUnits (s : State) : Nat :=
  match s.get F.TXA_CTL_FILT_BW with
  | 1 => 1076947
  | 2 => 1253894
  | _ => 991750

/-- The index of the next air instant (log entry 9). -/
def State.nextTxK (s : State) : Nat :=
  let k := gridFrom s.tide.now
  if s.tx.dacK < k then k else s.tx.dacK + 1

/-! ## Release (R160) -/

/-- Path `p`'s ENABLE bit. -/
def State.txEnabled (s : State) (p : Nat) : Bool := bitAt (s.mask64 F.TXA_ENABLE0_PATHS F.TXA_ENABLE1_PATHS) p

/-- Path `p` is counted by TXD.MUTEc (R162): RUN, enabled, quad up, neither retired nor thinned. -/
def State.txCounted (s : State) (p : Nat) : Bool :=
  s.txRun && s.txEnabled p && s.up (domTXQ (p / 8)) && !s.txRetired p && !bitAt s.tx.thinRel (p / 8)

/-- Path `p` is in fault (R161). -/
def State.txFaulted (s : State) (p : Nat) : Bool := bitAt s.tx.fault p

/-- Path `p` is released. -/
def State.txReleased (s : State) (p : Nat) : Bool := s.txCounted p && !s.txFaulted p

/-- TXA.Pnn_STAT follows release, faults and retirement. -/
def State.syncTx (s : State) : State :=
  s.each s.paths (fun t p =>
    (((t.putb (F.TXA_P_STAT_REL p) (t.txReleased p)).putb (F.TXA_P_STAT_FAULT p) (t.txFaulted p)).putb
      (F.TXA_P_STAT_RETIRED p) (t.txRetired p)))

/-- A fault of R161 applies to path `p`: a device fault, or its TXQ domain being lowered. -/
def State.txFaultHolds (s : State) (p : Nat) : Bool := s.tx.causes != 0 || bitAt s.tx.lowering (p / 8)

/-- Paths enter and leave fault as the causes say; TX_FAULT_NULL once per entry and path, for paths whose quad is up
(R161). -/
def State.txFaultSync (s : State) : State :=
  let new := maskOf (s.paths.filter (fun p => s.txFaultHolds p && s.up (domTXQ (p / 8))))
  let entered := maskDiff new s.tx.fault
  let t := { s with tx := { s.tx with fault := new } }
  (t.each (bitList 64 entered) (fun u p => u.raise 0x0605 p)).syncTx

/-- Device fault causes, as bits of `causes`. -/
def txCPLL : Nat := 0
def txLO : Nat := 1
def txDEBUG : Nat := 2
def txTHERMAL : Nat := 3

/-- A device fault comes to hold or ends. -/
def State.txCause (s : State) (c : Nat) (b : Bool) : State :=
  State.txFaultSync { s with tx := { s.tx with causes := setBitAt s.tx.causes c b } }

/-! ## The DUC (R153, R154) -/

/-- Coefficient `i` of stage `g`. -/
def State.gbCoef (s : State) (g i : Nat) : Int :=
  match g with
  | 1 => s.geti (F.TXD_GB1_C_C i)
  | 2 => s.geti (F.TXD_GB2_C_C i)
  | 3 => s.geti (F.TXD_GB3_C_C i)
  | _ => s.geti (F.TXD_GB4_C_C i)

/-- A stage takes its input number `idx`: the memory, the pair y[2k], y[2k + 1] of the input n places older where there is
one, and whether a result saturated. -/
def gStep (coef : Nat → Int) (n : Nat) (mem : List Cx) (idx : Nat) (x : Cx) : List Cx × List Cx × Bool :=
  let mem' := (x :: mem).take (2 * n)
  if n ≤ idx then
    let y := cxRnd 16 (cxSum ((List.range n).map (fun i =>
      cxScale (coef i) (cxAdd (nth cx0 mem' (n + i)) (nth cx0 mem' (n - 1 - i))))))
    (mem', [nth cx0 mem' n, cxSat 22 y], cxOver 22 y)
  else (mem', [], false)

/-- Memory of stage `g`. -/
def TxPath.gMem (x : TxPath) (g : Nat) : List Cx :=
  match g with
  | 1 => x.g1
  | 2 => x.g2
  | 3 => x.g3
  | _ => x.g4

/-- Memory of stage `g` set. -/
def TxPath.setGMem (x : TxPath) (g : Nat) (m : List Cx) : TxPath :=
  match g with
  | 1 => { x with g1 := m }
  | 2 => { x with g2 := m }
  | 3 => { x with g3 := m }
  | _ => { x with g4 := m }

/-- Stages `g` down to G1 take a run of inputs that starts at number `idx` of stage `g`: the outputs at 983.04 Msps. -/
def State.gRun (s : State) : Nat → TxPath → Nat → List Cx → TxPath × List Cx × Bool
  | 0, x, _, l => (x, l, false)
  | g + 1, x, idx, l =>
    let n := hbTaps (g + 1)
    let (x1, _, outs, b1) := l.foldl (fun (acc : TxPath × Nat × List Cx × Bool) v =>
      let (m, o, b) := gStep (s.gbCoef (g + 1)) n (acc.1.gMem (g + 1)) acc.2.1 v
      (acc.1.setGMem (g + 1) m, acc.2.1 + 1, acc.2.2.1 ++ o, acc.2.2.2 || b)) (x, idx, [], false)
    let (x2, outs2, b2) := State.gRun s g x1 (2 * (idx - n)) outs
    (x2, outs2, b1 || b2)

/-- A saturation counted once per sample, reported once per 1 ms and path (R153). -/
def State.txSat (s : State) (p : Nat) (b : Bool) : State :=
  if b then (s.inc (F.TXD_P_SAT_COUNT p)).raiseMs 0x0703 p p else s

/-- The DUC of path `p` takes the next stream sample (16-bit parts). -/
def State.txPush (s : State) (p : Nat) (v : Cx) : State :=
  let x := s.txPath p
  let (x1, outs, b) := s.gRun s.gStages x x.inIdx [cxScale 16 v]
  let base := if x.inIdx = 0 then s.tx.startK else x1.base
  (s.setTxPath p { x1 with y := x1.y ++ outs, base := base, inIdx := x1.inIdx + 1 }).txSat p b

/-! ## Mixer, IQ correction, gain (R155 to R157) -/

/-- The DUC output of path `p` at air index `k`; none where no sample came. -/
def TxPath.duc (x : TxPath) (k : Nat) : Option Cx :=
  if k < x.base ∨ x.gaps.any (fun g => decide (g.1 ≤ k ∧ k < g.2)) = true then none else x.y[k - x.base]?

/-- The mixer: z = x × e^(+jθ), rounded to Q18.4 (R155). -/
def State.txMix (s : State) (v : Cx) (k : Nat) : Cx := cxRnd 17 (cxMul v (phasor (ncoPhase s.tx.nco (k * one32))))

/-- Tap w(k - 1) in force. -/
def State.txTap (s : State) (p k : Nat) : Cx := ⟨s.geti (F.TXD_P_IQ_VALUE p k 0), s.geti (F.TXD_P_IQ_VALUE p k 1)⟩

/-- The mixed value at air index `k`, 0 where there is no sample. -/
def State.txZ (s : State) (x : TxPath) (k : Nat) : Cx :=
  match x.duc k with
  | none => cx0
  | some v => cxSat 22 (s.txMix v k)

/-- G and B in force at air index `k` (R157). -/
def State.txGainAt (s : State) (k : Nat) : Nat × Nat :=
  match s.tx.gains.find? (fun e => decide (e.1 ≤ k)) with
  | some e => (e.2.1, e.2.2)
  | none => (s.get F.TXD_GAIN_GAIN, if s.flag F.TXD_GAIN_BO then 13014 else 16384)

/-- The gain stage output of the DUC at air index `k` and whether a stage saturated. -/
def State.ducU (s : State) (p k : Nat) : Option (Cx × Bool) :=
  let x := s.txPath p
  match x.duc k with
  | none => none
  | some v0 =>
    let z := s.txMix v0 k
    let z0 := cxSat 22 z
    let w := if s.flag F.TXD_CFG_IQ_EN then
        cxAdd z0 (cxRnd 17 (cxAdd (cxMul (s.txTap p 0) (cxConj (s.txZ x (k + 1))))
          (cxAdd (cxMul (s.txTap p 1) (cxConj z0)) (cxMul (s.txTap p 2) (cxConj (s.txZ x (k - 1)))))))
      else z0
    let w0 := cxSat 22 w
    let (g, b) := s.txGainAt k
    let u := cxRnd 32 (cxScale ((g * b : Nat) : Int) w0)
    some (cxSatSym 16 u, cxOver 22 z || cxOver 22 w || decide (cxSatSym 16 u ≠ u))

/-- The DPD input at air index `k`: a replay engine's sample where one plays the path, else the gain stage's (R158, R397). -/
def State.txU (s : State) (p k : Nat) : Option (Cx × Bool) :=
  match s.replayAt p k with
  | some (_, v, _) => some (v, false)
  | none => s.ducU p k

/-- The DPD input by delay before air index `k`, 0 where there is none. -/
def State.txUBack (s : State) (p k d : Nat) : Cx :=
  if k < d then cx0 else match s.txU p (k - d) with
    | some (v, _) => v
    | none => cx0

/-- The sample that reaches play-out for air index `k`, with the engine's saturation (R174). -/
def State.txOut (s : State) (p k : Nat) : Option (Cx × Bool × Bool) :=
  match s.txU p k with
  | none => none
  | some (_, b) =>
    let (y, d) := s.dpdRun p k (s.txUBack p k)
    some (y, b, d)

/-! ## Mutes (01_architecture.md R28) -/

/-- A mute span covers path `p` at instant `t`. -/
def MuteSpan.covers (x : MuteSpan) (p t : Nat) : Bool :=
  decide (x.lo ≤ t) && (match x.hi with | none => true | some h => decide (t < h))
    && (match x.path with | none => true | some q => p == q)

/-- A mute span added; spans that ended more than 1 ms ago are forgotten. -/
def State.addMute (s : State) (x : MuteSpan) : State :=
  let keep := s.tx.mutes.filter (fun y => match y.hi with | none => true | some h => decide (s.tide.now < h + msU 1))
  { s with tx := { s.tx with mutes := x :: keep } }

/-- Muted under a span of cause `c`. -/
def State.spanMuted (s : State) (c p t : Nat) : Bool := s.tx.mutes.any (fun x => x.cause == c && x.covers p t)

/-- The coexistence mute covers instant `t` (R164). -/
def State.coexMuted (s : State) (t : Nat) : Bool :=
  match s.tx.coexFall with
  | none => false
  | some f => decide (f ≤ t) && (match s.tx.coexLift with | none => true | some l => decide (t < l))

/-- The first cause of R28 among 1 to 4 that mutes path `p` at air index `k`; 0 where none does. `present` says that the
sample reached play-out in time. -/
def State.muteCause (s : State) (p k : Nat) (present : Bool) : Nat :=
  let t := gridAt k
  let left := match s.power.leftRun with
    | none => false
    | some a => decide (s.absOf a < t)
  if s.txFaulted p || left || s.spanMuted 1 p t then 1
  else if s.coexMuted t then 2
  else if s.spanMuted 3 p t then 3
  else if !present then 4
  else 0

/-- The counter of a cause (R162); cause 4 is TOP.SLIP_CNT2. -/
def muteCounter (c : Nat) : Field :=
  match c with
  | 1 => F.TXD_MUTE1_COUNT
  | 2 => F.TXD_MUTE2_COUNT
  | 3 => F.TXD_MUTE3_COUNT
  | 4 => F.TOP_SLIP_CNT_COUNT 2
  | _ => F.TXD_MUTE5_COUNT

/-! ## DAC codes (R160) -/

/-- The interpolator's output of 16 bits at one of its two instants: taps over v, newest first, with zeros between samples;
`odd` selects the taps of odd number. -/
def interpOut (v : List Cx) (odd : Nat) : Cx :=
  cxSat 16 (cxRnd 15 (cxSum ((List.range (28 - odd)).map (fun i => cxScale (2 * Config.interpTap (2 * i + odd)) (nth cx0 v i)))))

/-- The correction word of path `p`: LOL while released, else NULL (R160). -/
def State.corrWord (s : State) (p : Nat) : Cx :=
  if s.txReleased p then ⟨s.geti (F.TXA_P_LOL_I p), s.geti (F.TXA_P_LOL_Q p)⟩
  else ⟨s.geti (F.TXA_P_NULL_I p), s.geti (F.TXA_P_NULL_Q p)⟩

/-- The DAC codes of one air instant: v enters the interpolator, each output is rounded, corrected and saturated to 14 bits;
under the coexistence mute the interpolated value is 0 (R160, R163). -/
def State.dacForm (s : State) (p : Nat) (v : Cx) (gate : Bool) : State :=
  let x := s.txPath p
  let h := (v :: x.v).take 28
  let code (odd : Nat) : Cx := cxAdd (cxRnd 2 (if gate then cx0 else interpOut h odd)) (s.corrWord p)
  let b := cxOver 14 (code 0) || cxOver 14 (code 1)
  (s.setTxPath p { x with v := h, code := cxSat 14 (code 1) }).txSat p b

/-! ## Play-out -/

/-- The air instant of path `p`'s next sample: the present one where the path has not played it yet, else the next
(log entry 9). Software swap requests of that index are decided first. -/
def State.txInstant (s : State) (p : Nat) : State :=
  if bitAt s.tx.played p || s.tx.played == 0 || decide (gridAt s.tx.dacK < s.tide.now) then
    let k := s.nextTxK
    let t := s.reachAbs (gridAt k)
    State.swapDue { t with tx := { t.tx with dacK := k, played := 2 ^ p } } k
  else { s with tx := { s.tx with played := setBitAt s.tx.played p true } }

/-- The DUC samples older than the history that the engine needs are dropped. -/
def TxPath.trim (x : TxPath) (k : Nat) : TxPath :=
  let d := if x.y.length < k - 48 - x.base then x.y.length else k - 48 - x.base
  { x with y := x.y.drop d, base := x.base + d }

/-- Meter 2: the play-out buffer's fill over the drain rate, in ns (01_architecture.md R21). -/
def State.txMeter (s : State) (fill : Nat) : State := s.meter 2 (fill * 3125 / 3072)

/-- A sample of path `p` is presented at its air instant: `late` says that it missed it, `bw` is Breakwater's first reason
(R18, R28, R159 to R162). Counters count over the counted paths; BWTR.CNTr is the caller's. -/
def State.txPlay (s : State) (p : Nat) (late : Bool) (bw : Option Nat) : State × Nat :=
  let k := s.tx.dacK
  let o := if late then none else s.txOut p k
  let s1 := match o with
    | none => s
    | some (_, b, d) =>
      let t := s.txSat p b
      if d then (t.inc (F.DPD_P_SAT_COUNT p)).raiseMs 0x080B p p else t
  let under := match s.replayAt p k with
    | some (r, _, true) => some r
    | _ => none
  let s2 := match under with
    | some r => (s1.inc (F.GAUGE_RP_UNDER_COUNT r)).raiseMs 0x1306 r r
    | none => s1
  let c0 := s2.muteCause p k o.isSome
  let c := if c0 = 0 ∧ bw.isSome = true then 5 else c0
  let s3 := if c ≠ 0 ∧ s2.txCounted p = true then
      let t := s2.inc (muteCounter c)
      if c = 4 then t.raiseMs 0x0003 p p else t
    else s2
  let v := match o with
    | some (y, _, _) => if (c = 0 ∨ c = 2) ∧ s3.txReleased p = true then y else cx0
    | none => cx0
  let s4 := s3.dacForm p v (c = 2)
  (s4.setTxPath p ((s4.txPath p).trim k), c)

/-! ## Starts and restarts (R158, R496) -/

/-- The IQ taps of path `p` derived from its stored result (R156). -/
def State.txDeriveTaps (s : State) (p : Nat) : State :=
  match sparseFind s.tx.iq p with
  | none => s
  | some m => s.each [0, 1, 2] (fun t k =>
      let w := Config.iqTap m one32 k
      (t.put (F.TXD_P_IQ_VALUE p k 0) (w % 2 ^ 18)).put (F.TXD_P_IQ_VALUE p k 1) (w / 2 ^ 18 % 2 ^ 18))

/-- The frequency word in force. -/
def State.txFreq (s : State) : Int := toSigned 48 (s.get F.TXD_NCO_CUR_LO_FREQ + 2 ^ 32 * s.get F.TXD_NCO_CUR_HI_FREQ)

/-- OFS. -/
def State.txOfs (s : State) : Nat := s.get F.TXD_NCO_OFS_LO_OFS + 2 ^ 32 * s.get F.TXD_NCO_OFS_HI_OFS

/-- Every transmit chain starts together on the next air instant (R158, R155). -/
def State.txStart (s : State) : State :=
  let k := s.nextTxK
  let th := modTurn (phaseAt s.txFreq (gridAt k) + s.txOfs)
  let t := { s with tx := { s.tx with startK := k, nco := [⟨k, th, s.txFreq⟩], paths := [] } }
  ((t.each t.paths State.txDeriveTaps).putb F.TXD_STAT_RUNNING true).put F.TXA_DELAY_TOTAL t.txDelayUnits |>.syncTx

/-- Every transmit chain stops (R158). -/
def State.txStop (s : State) : State :=
  State.syncTx (((({ s with tx := { s.tx with paths := [], nco := [] } } : State).putb F.TXD_STAT_RUNNING false).put
    F.TXA_DELAY_TOTAL 0))

/-- A restart is set for instant `t`: its samples in [T, T + 2 µs) are muted under cause 3 (R496). -/
def State.txRestartAt (s : State) (paths t : Nat) (filt : Bool) : State :=
  let u : State := { s with tx := { s.tx with restarts := s.tx.restarts ++ [⟨paths, t, filt⟩] } }
  u.each (bitList 64 paths) (fun v p => v.addMute ⟨3, t, some (t + usU 2), some p⟩)

/-- The instant of a restart whose cause was written now: the first air instant at least 2 µs later. -/
def State.restartInstant (s : State) : Nat := gridAt (gridFrom (s.tide.now + usU 2))

/-- A restart takes effect: memories and IQ history cleared, taps derived again, the new delay of a FILT_BW change (R496). -/
def State.txRestartDo (s : State) (r : TxRestart) : State :=
  let t := s.reachAbs r.at_
  let u := t.each (bitList 64 r.paths) (fun v p =>
    let x := v.txPath p
    (v.setTxPath p { x with g1 := [], g2 := [], g3 := [], g4 := [] }).txDeriveTaps p)
  if r.filt && u.txRun then u.put F.TXA_DELAY_TOTAL u.txDelayUnits else u

/-- The first waiting restart takes effect. -/
def State.txRestartFire (s : State) : State :=
  match s.tx.restarts with
  | [] => s
  | r :: rs => State.txRestartDo { s with tx := { s.tx with restarts := rs } } r

/-! ## NCO (R155) -/

/-- A retune takes effect at the next air instant. -/
def State.txRetune (s : State) (f : Int) : State :=
  let k := s.nextTxK
  let ofs := ofsRetune s.txOfs s.txFreq f (gridAt k)
  let t := if s.txRun then { s with tx := { s.tx with nco := ncoRetune s.tx.nco k f } } else s
  (t.put48 F.TXD_NCO_CUR_LO_FREQ F.TXD_NCO_CUR_HI_FREQ (ofSigned 48 f)).put48 F.TXD_NCO_OFS_LO_OFS F.TXD_NCO_OFS_HI_OFS ofs

/-- A GO with a frequency, an ARM bit and a stamp: refused above 200 MHz, else at once or held (R155, R136). -/
def State.txNcoGo (s : State) (f : Int) (arm : Bool) (at_ : Stamp) : Bool × State :=
  if freqLimit < f ∨ f < -freqLimit then (false, s.raise 0x0702 0)
  else if arm then
    (true, State.putb { s with tx := { s.tx with ncoArm := some (f, at_) } } F.TXD_NCO_CTL_PEND true)
  else (true, State.txRetune (State.putb { s with tx := { s.tx with ncoArm := none } } F.TXD_NCO_CTL_PEND false) f)

/-- The armed retune takes effect at the first air instant at or after its stamp (R155). -/
def State.txNcoFire (s : State) : State :=
  match s.tx.ncoArm with
  | none => s
  | some (f, a) =>
    let t := s.reach a
    State.txRetune (State.putb { t with tx := { t.tx with ncoArm := none } } F.TXD_NCO_CTL_PEND false) f

/-! ## Gain (R157) -/

/-- G or B changes: it acts on the first sample whose air instant is at least 2 µs later. -/
def State.gainSet (s : State) (g b : Nat) : State :=
  let base := if s.tx.gains.isEmpty then [(0, s.txGainAt 0)] else s.tx.gains
  let k := gridFrom (s.tide.now + usU 2)
  { s with tx := { s.tx with gains := ((k, g, b) :: base).take 16 } }

/-- B while the back-off of level 3 is asked for. -/
def backOff (b : Bool) : Nat := if b then 13014 else 16384

/-- The latest G and B asked for. -/
def State.gainLast (s : State) : Nat × Nat :=
  match s.tx.gains with
  | [] => s.txGainAt 0
  | e :: _ => e.2

/-- The pending change takes effect: TXD.GAIN.BO shows the back-off in force (R157). -/
def State.gainApply (s : State) : State :=
  match s.tx.gains with
  | [] => s
  | (k, _, b) :: _ => (s.reachAbs (gridAt k)).putb F.TXD_GAIN_BO (b == 13014)

/-! ## Coexistence mute (R163, R164) -/

/-- The first instant of the 254 ps grid at or after the present (R164). -/
def tickUp (t : Nat) : Nat :=
  let k := t * 3 / 50000
  let at_ (k : Nat) : Nat := (k * 100000 + 3) / 6
  if t ≤ at_ k then at_ k else at_ (k + 1)

/-- COEX_GNT falls: every port is muted from the edge on (R163, R164). -/
def State.coexFallEdge (s : State) : State :=
  let e := tickUp s.tide.now
  let t := gridAt (gridFrom e)
  let u := State.syncCoex { s with
    pins := { s.pins with coexGnt := false }
    tx := { s.tx with coexFall := some (match s.tx.coexFall with | some f => f | none => t), coexLift := none } }
  ((u.put64 F.TXA_COEX_FALL_LO_STAMP F.TXA_COEX_FALL_HI_STAMP (stampOf e)).putb F.TXA_COEX_CTL_GNT_LOW true).raiseMs
    0x0604 0 0

/-- COEX_GNT rises: the mute lifts on the first sample at or after the edge plus RESUME_NS (R164). -/
def State.coexRiseEdge (s : State) : State :=
  let e := tickUp s.tide.now
  let l := gridAt (gridFrom (e + nsU (s.get F.TXA_COEX_CTL_RESUME_NS)))
  State.syncCoex (State.putb { s with
    pins := { s.pins with coexGnt := true }
    tx := { s.tx with coexLift := if s.tx.coexFall.isSome then some l else none } } F.TXA_COEX_CTL_GNT_LOW false)

/-- The mute lifts. -/
def State.coexLiftNow (s : State) : State :=
  match s.tx.coexLift with
  | none => s
  | some l =>
    let t := s.reachAbs l
    { t with tx := { t.tx with coexFall := none, coexLift := none } }

/-! ## Calibrations (R167 to R169) -/

/-- The span of transmit calibration kinds. -/
def txCalSpan (kind : Nat) : Nat :=
  (if bitAt kind 0 then msU 16 else 0) + (if bitAt kind 1 then msU 4 else 0) + (if bitAt kind 2 then msU 10 else 0)
    + (if bitAt kind 3 then msU 20 else 0)

/-- Results of transmit calibration kinds for path `p` (R167, R168): values measured under draw `n`. -/
def State.txCalStore (s : State) (n kind p : Nat) : State :=
  let v (i : Nat) : Nat := Config.measured n (64 * (i + 64) + p)
  let s1 := if bitAt kind 0 then { s with tx := { s.tx with trims := sparseInsert s.tx.trims p (v 0) } } else s
  let s2 := if bitAt kind 1 then { s1 with tx := { s1.tx with filt := sparseInsert s1.tx.filt p (v 1) } } else s1
  let s3 := if bitAt kind 2 then
      ((s2.put (F.TXA_P_LOL_I p) (v 2 % 1024)).put (F.TXA_P_LOL_Q p) (v 3 % 1024)).putb (F.TXA_P_STAT_LOL_RAIL p) false
    else s2
  if bitAt kind 3 then { s3 with tx := { s3.tx with iq := sparseInsert s3.tx.iq p (v 4) } } else s3

/-- Transmit calibration kinds run on paths. -/
def State.txCalRun (s : State) (kind : Nat) (l : List Nat) (fail : Nat) : State :=
  let (n, t) := s.draw
  t.each l (fun x p => if bitAt fail p then x else x.txCalStore n kind p)

/-- A refused request. -/
def State.txCalRefuse (s : State) : State := s.raise 0x0602 0

/-- A request: as R128, and refused while a receive calibration is held or running on any of its quads (R169). -/
def State.txCalReq (s : State) (kind quads : Nat) : State :=
  let m := s.presentQuads quads
  if m = 0 ∨ kind % 16 = 0 ∨ s.tx.cal ≠ none ∨ s.rx.cal.any (fun c => maskAnd c.quads m != 0) = true then s.txCalRefuse
  else
    let t := { s with tx := { s.tx with cal := some ⟨kind % 16, m, s.aon + sU 1, none⟩ } }
    (t.put F.TXA_CAL_STAT_ACTIVE m).putb F.TXA_CAL_STAT_WAIT true

/-- The held request starts inside a gap that covers it: its span is muted under cause 3 (R169). -/
def State.txCalStart (s : State) : State :=
  match s.tx.cal with
  | some ⟨kind, m, w, none⟩ =>
    if s.gapCovers m (txCalSpan kind) then
      let e := s.tide.now + txCalSpan kind
      let t := { s with tx := { s.tx with cal := some ⟨kind, m, w, some (stampOf e)⟩ } }
      let u := (t.putb F.TXA_CAL_STAT_WAIT false).putb F.TXA_CAL_STAT_BUSY true
      u.each (u.pathsOf m) (fun x p => x.addMute ⟨3, x.tide.now, some e, some p⟩)
    else s
  | _ => s

/-- The held request finds no gap within 1 s. -/
def State.txCalTimeout (s : State) : State :=
  match s.tx.cal with
  | some ⟨_, _, w, none⟩ =>
    let t := s.elapseTo w
    let u := { t with tx := { t.tx with cal := none } }
    ((u.putb F.TXA_CAL_STAT_WAIT false).put F.TXA_CAL_STAT_ACTIVE 0).txCalRefuse
  | _ => s

/-- The running calibration completes: results stored, the chains restart at the end of the span (R169, R496). `fail` names
the paths out of range, `limit` those with a DAC source used at its limit (R167). -/
def State.txCalDone (s : State) (fail limit : Nat) : State :=
  match s.tx.cal with
  | some ⟨kind, m, _, some e⟩ =>
    let t := s.reach e
    let l := t.pathsOf m
    let bad := maskOr fail limit
    let u := t.txCalRun kind l fail
    let v := { u with tx := { u.tx with cal := none } }
    let w := ((v.putb F.TXA_CAL_STAT_BUSY false).put F.TXA_CAL_STAT_ACTIVE 0).put F.TXA_CAL_STAT_FAIL
      (failBits (v.get F.TXA_CAL_STAT_FAIL) m bad)
    let x := (w.txRestartAt (maskOf l) (w.absOf e) false).raise 0x0601 0
    if l.any (fun p => bitAt bad p) then x.raise 0x0603 0 else x
  | _ => s

/-! ## LOL tracking (R170) -/

/-- A correction word moved one code toward null by the sign of the residual, held at ±511; whether it would have passed. -/
def lolMove (code : Int) (resid : Int) : Int × Bool :=
  let n := if 0 < resid then code - 1 else if resid < 0 then code + 1 else code
  if 511 < n ∨ n < -511 then (code, true) else (n, false)

/-- An observation of a released path measures the residual carrier (signs of I and Q). -/
def State.lolTrack (s : State) (p : Nat) (ri rq : Int) : State :=
  if s.flag F.TXA_LOL_CTL_TRACK && s.txReleased p then
    let (i, b) := lolMove (s.geti (F.TXA_P_LOL_I p)) ri
    let (q, c) := lolMove (s.geti (F.TXA_P_LOL_Q p)) rq
    let t := (s.puti (F.TXA_P_LOL_I p) i).puti (F.TXA_P_LOL_Q p) q
    if (b || c) && !t.flag (F.TXA_P_STAT_LOL_RAIL p) then (t.putb (F.TXA_P_STAT_LOL_RAIL p) true).raise 0x0606 p else t
  else s

/-! ## Read-back (R171) -/

/-- TXA.EVT.RB_REFUSED is set; no event code goes with it. -/
def State.rbRefuse (s : State) : State := (s.setBit 0x60050 6).syncIrq

/-- A path is off or retired for read-back. -/
def State.rbOff (s : State) (p : Nat) : Bool := !s.up (domTXQ (p / 8)) || s.txRetired p || !s.hasPath p

/-- GO: a pending read-back is replaced; a path that is off or retired is refused (R171). -/
def State.rbGo (s : State) (kind p : Nat) : State :=
  if s.rbOff p then State.rbRefuse { s with tx := { s.tx with readback := none } }
  else { s with tx := { s.tx with readback := some (if kind = 1 then 1 else 0, p) } }

/-- The read-back completes with a measured value (R171). -/
def State.rbDone (s : State) (v : Int) : State :=
  match s.tx.readback with
  | none => s
  | some (_, p) =>
    let t := { s with tx := { s.tx with readback := none } }
    if t.rbOff p then t.rbRefuse
    else ((((t.putb F.TXA_RB_RES_VALID true).putb F.TXA_RB_RES_NEW true).incWrap F.TXA_RB_RES_SEQ).put
      F.TXA_RB_RES_PATH p).puti F.TXA_RB_RES_VALUE v

end Sys2Proof.Machine
end

