-- ==== Sys2Proof/Machine/HoldMem.lean ====
section
/-! DEFINITION. Hold: granules, errors, scrubbing, row repair (19_hold_and_gauge.md R376 to R381, R400). -/

namespace Sys2Proof.Machine

/-- The number of granules of Hold. -/
def State.granules (s : State) : Nat := s.holdBytes / 64

/-- The channel of a granule (R376): H[10:8], or H[9:8] with one die. -/
def State.holdChan (s : State) (g : Nat) : Nat :=
  let h := g / 4 % 8
  if s.holdBytes < 8 * 2 ^ 30 then h % 4 else h

/-- The row of its channel that holds a granule (the spec does not give the die's geometry; log entry 12). -/
def State.holdRow (s : State) (g : Nat) : Nat × Nat := (s.holdChan g, Config.holdRow (g / 4))

/-- Hold is up and initialised. -/
def State.holdReady (s : State) : Bool := s.up domHOLD && s.flag F.HOLDC_STAT_READY

/-- Granules carried for a group: 0 Gauge, 1 replay, 2 Crane, 3 port, 4 scrubber (R381). -/
def State.holdCarried (s : State) (g n : Nat) : State :=
  s.put (F.HOLDC_BW_GRANULES g) ((s.get (F.HOLDC_BW_GRANULES g) + n) % 2 ^ 32)

/-- A byte of Hold as a read sees it: 0 of a poisoned granule (R377). -/
def State.holdByte (s : State) (a : Nat) : Byte := if s.poisoned ((a - 0x1000000000) / 64) then 0 else s.byte a

/-- The granules of a list are whole again. -/
def State.unpoison (s : State) (g : Nat) : State :=
  { s with hold := { s.hold with poison := s.hold.poison.filter (· ≠ g) } }

/-- A whole granule written: 64 bytes (R377). -/
def State.writeGranule (s : State) (g : Nat) (l : List Byte) : State := (s.setBytes (granuleAddr g) l).unpoison g

/-- A row is repaired: a spare of its channel is used, or the row is counted without one (R379). -/
def State.repairRow (s : State) (r : Nat × Nat) : State :=
  let ch := r.1
  let left := s.get (F.HOLDC_SPARE_LEFT ch)
  if left = 0 then s.inc F.HOLDC_UNREP_COUNT
  else
    let t : State := { s with hold := { s.hold with
      remaps := s.hold.remaps ++ [r], rowsBefore := s.hold.rowsBefore.filter (· ≠ r), rowsNow := s.hold.rowsNow.filter (· ≠ r) } }
    let u := ((t.put (F.HOLDC_SPARE_LEFT ch) (left - 1)).inc (F.HOLDC_SPARE_USED ch)).inc (F.HOLDC_SPARE_UNBURNT ch)
    let v := u.raise 0x1403 ch
    let w := if left - 1 = 4 then v.raise 0x1404 ch else if left - 1 = 0 then v.raise 0x1405 ch else v
    w.regrade 5

/-- An uncorrectable error: the granule is poisoned, counted, latched, its row repaired (R377, R379). -/
def State.poisonGranule (s : State) (g : Nat) : State :=
  if s.poisoned g then s
  else
    let a := granuleAddr g
    let t : State := { s with hold := { s.hold with poison := g :: s.hold.poison } }
    let u := ((t.inc F.HOLDC_UE_CNT_COUNT).put F.HOLDC_UE_ADDR_LO_ADDR (a % 2 ^ 32)).put F.HOLDC_UE_ADDR_HI_ADDR (a / 2 ^ 32)
    (u.raiseMs 0x1402 (s.holdChan g) 0).repairRow (s.holdRow g)

/-- A corrected single-bit error (R377). -/
def State.correctedError (s : State) (g : Nat) : State :=
  (s.inc F.HOLDC_CE_CNT_COUNT).raiseLim 0x1401 (s.holdChan g) 0 (sU 1)

/-- A read of a granule finds `err`: 0 nothing, 1 a single-bit error, 2 an uncorrectable one (R377). -/
def State.holdRead (s : State) (g err : Nat) : State :=
  if s.holdReady = false ∨ s.granules ≤ g then s
  else if err = 1 then s.correctedError g
  else if err = 2 then s.poisonGranule g
  else s

/-- The scrubber reads the next granule (R378): a row with corrected errors on two consecutive passes is repaired (R379). -/
def State.scrubRead (s : State) (err : Nat) : State :=
  if s.holdReady = false then s
  else
    let g := s.hold.scrub
    let r := s.holdRow g
    let t := (s.holdCarried 4 1).holdRead g err
    let u := if err = 1 then
        if t.hold.rowsBefore.contains r then t.repairRow r
        else { t with hold := { t.hold with rowsNow := if t.hold.rowsNow.contains r then t.hold.rowsNow else r :: t.hold.rowsNow } }
      else t
    if g + 1 < u.granules then { u with hold := { u.hold with scrub := g + 1 } }
    else State.inc { u with hold := { u.hold with scrub := 0, rowsBefore := u.hold.rowsNow, rowsNow := [] } } F.HOLDC_STAT_PASSES

/-- The oldest held remap is burned while the temperature permits (R379). -/
def State.repairBurn (s : State) : State :=
  match s.hold.remaps with
  | [] => s
  | r :: rs =>
    if s.up domHOLD && s.flag F.THERM_STAT_NVM_OK then
      let t : State := { s with
        hold := { s.hold with remaps := rs }, fuses := { s.fuses with repairs := s.fuses.repairs ++ [r] } }
      t.put (F.HOLDC_SPARE_UNBURNT r.1) (t.get (F.HOLDC_SPARE_UNBURNT r.1) - 1)
    else s

/-- Hold is raised: zeros, burned repairs applied (R400). -/
def State.holdRaise (s : State) : State :=
  let t : State := State.clearRange { s with hold := {} } 0x1000000000 0x1400000000
  t.each (List.range 8) (fun u ch =>
    let n := (u.fuses.repairs.filter (fun r => r.1 = ch)).length
    let used := if 32 < n then 32 else n
    (u.put (F.HOLDC_SPARE_USED ch) used).put (F.HOLDC_SPARE_LEFT ch) (32 - used))

/-- Hold is initialised (R400). -/
def State.holdInit (s : State) : State := if s.up domHOLD then s.putb F.HOLDC_STAT_READY true else s

/-- Hold is lowered: contents, controller remaps and Gauge's state are lost (R400). -/
def State.holdLower (s : State) : State := State.clearRange { s with hold := {} } 0x1000000000 0x1400000000

end Sys2Proof.Machine
end

