-- ==== Sys2Proof/Machine/Gauge.lean ====
section
/-! DEFINITION. Gauge: tap points, channels, triggers, records, measurements, deep channels, replay commands and the stops of
both (19_hold_and_gauge.md R382 to R399). -/

namespace Sys2Proof.Machine

/-! ## Tap points (R382) -/

/-- The sample period at a point, in 983.04 MHz periods × 2^32. -/
def State.tapPeriod (s : State) (point : Nat) : Nat :=
  match point with
  | 0 => s.rxPeriod
  | 1 => s.rxPeriod
  | 2 => 2 ^ s.gStages * one32
  | _ => one32

/-- The instant of sample `n` at a point, in units since the epoch. -/
def State.tapAt (s : State) (point n : Nat) : Nat :=
  match point with
  | 0 => s.portInstant (s.rx.startK * one32 + n * s.rxPeriod + (if s.settle then (s.boxD - 1) * 2147483648 else 0))
  | 1 => s.portInstant (s.rx.startK * one32 + n * s.rxPeriod + (if s.settle then (s.boxD - 1) * 2147483648 else 0))
  | 2 => gridAt (s.tx.startK + n * 2 ^ s.gStages)
  | _ => gridAt n

/-- The sample of a point whose interval holds instant `t`: the last one at or before it. -/
def State.tapIndex (s : State) (point t : Nat) : Nat :=
  let start := match point with
    | 0 => s.rx.startK
    | 1 => s.rx.startK
    | 2 => s.tx.startK
    | _ => 0
  let n := (t * 3 * one32 / 200000 - start * one32) / s.tapPeriod point
  (List.range 6).foldl (fun best i => if s.tapAt point (n + i - 2) ≤ t then n + i - 2 else best) (n - 2)

/-- The number of streams at a point. -/
def tapStreams (point : Nat) : Nat := if point = 0 ∨ point = 3 then 64 else 32

/-- Some running cluster of a direction (0 RX, 1 TX) produces (RX) or reads (TX) layer `l`. -/
def State.layerServed (s : State) (dir l : Nat) : Bool :=
  (List.range 4).any (fun c =>
    s.flag (F.QCTL_C_STAT_RUNNING c) && s.get (F.QCTL_C_CTL_DIR c) == dir
      && (if dir = 0 then
          (List.range (atLeast1 (s.get (F.QCTL_C_MAP_UNITS c)))).any (fun u =>
            let b := s.get (F.QCTL_C_MAP_OUT_BASE c) + 8 * u
            decide (b ≤ l ∧ l < b + s.get (F.QCTL_C_CTL_OUT_VEC c)))
        else
          let b := s.get (F.QCTL_C_MAP_IN_BASE c)
          decide (b ≤ l ∧ l < b + atLeast1 (s.get (F.QCTL_C_MAP_IN_VEC c)))))

/-- A stream delivers samples at its point; the others are captured as zeros. -/
def State.tapLive (s : State) (point i : Nat) : Bool :=
  match point with
  | 0 => s.hasPath i && s.up (domRXQ (i / 8)) && s.rxRunning
  | 1 => s.layerServed 0 i
  | 2 => s.layerServed 1 i
  | _ => s.hasPath i && s.up (domTXQ (i / 8)) && s.txRun

/-! ## Channels -/

/-- Channel `c`. -/
def State.gchan (s : State) (c : Nat) : GaugeChan := (sparseFind s.hold.chans c).getD {}

/-- Channel `c` replaced. -/
def State.setGchan (s : State) (c : Nat) (x : GaugeChan) : State :=
  { s with hold := { s.hold with chans := sparsePut (fun _ => ({} : GaugeChan)) s.hold.chans c x } }

/-- States of a channel. -/
def gIDLE : Nat := 0
def gFILL : Nat := 1
def gARMED : Nat := 2
def gPOST : Nat := 3
def gSUSP : Nat := 4

def State.gState (s : State) (c : Nat) : Nat := s.get (F.GAUGE_C_STAT_STATE c)

/-- The state of a channel set; GAUGE.STAT follows. -/
def State.setGstate (s : State) (c v : Nat) : State :=
  let t := s.put (F.GAUGE_C_STAT_STATE c) v
  (t.put F.GAUGE_STAT_ACTIVE (setBitAt (t.get F.GAUGE_STAT_ACTIVE) c (v != gIDLE)))

/-- Configuration: streams, PRE, POST, S. -/
def State.gCnt (s : State) (c : Nat) : Nat := 2 ^ s.get (F.GAUGE_C_CTL_LOG_CNT c)
def State.gPre (s : State) (c : Nat) : Nat := s.get (F.GAUGE_C_PRE_SETS c)
def State.gPost (s : State) (c : Nat) : Nat := atLeast1 (s.get (F.GAUGE_C_POST_SETS c))
def State.gLen (s : State) (c : Nat) : Nat := s.gPre c + s.gPost c
def State.gPoint (s : State) (c : Nat) : Nat := s.get (F.GAUGE_C_CTL_POINT c)
def State.gFirst (s : State) (c : Nat) : Nat := s.get (F.GAUGE_C_CTL_FIRST c)

/-- MODE 2. -/
def State.gContinuous (s : State) (c : Nat) : Bool := s.get (F.GAUGE_C_CTL_MODE c) == 2

/-- The region of a channel: first granule and granules. -/
def State.gRegion (s : State) (c : Nat) : Nat × Nat :=
  (s.get (F.GAUGE_C_BASE_GRANULE c), (s.get (F.GAUGE_C_SLOTS_SLOTS c) + 1) * s.gLen c * s.gCnt c)

/-- The granule of stream offset `j` in set `n` of a channel's present slot (R384). -/
def State.gGranule (s : State) (c n j : Nat) : Nat :=
  s.get (F.GAUGE_C_BASE_GRANULE c) + (s.get (F.GAUGE_C_STAT_SLOT c) * s.gLen c + n % s.gLen c) * s.gCnt c + j

/-- The region of a replay engine. -/
def State.rpRegion (s : State) (r : Nat) : Nat × Nat :=
  (s.get (F.GAUGE_RP_BASE_GRANULE r), s.rpLen r * 2 ^ s.get (F.GAUGE_RP_CTL_LOG_CNT r))

/-- Two regions share a granule. -/
def overlaps (a b : Nat × Nat) : Bool := decide (a.1 < b.1 + b.2 ∧ b.1 < a.1 + a.2)

/-- FIRST and LOG_CNT name streams of a point (R382). -/
def streamsOk (first log n : Nat) : Bool := log ≤ 6 && first % 2 ^ log == 0 && decide (first + 2 ^ log ≤ n)

/-- Results of a command. -/
def gOK : Nat := 0
def gFIT : Nat := 1
def gOVERLAP : Nat := 2
def gSHORT : Nat := 3
def gSTATE : Nat := 4
def gPOINT : Nat := 5

/-- The check of an ARM (R382, R384). -/
def State.gCheck (s : State) (c : Nat) : Nat :=
  let p := s.gPoint c
  let reg := s.gRegion c
  if streamsOk (s.gFirst c) (s.get (F.GAUGE_C_CTL_LOG_CNT c)) (tapStreams p) = false then gPOINT
  else if s.granules < reg.1 + reg.2 then gFIT
  else if (List.range 16).any (fun d => d != c && s.gState d != gIDLE && overlaps reg (s.gRegion d))
      || (List.range 4).any (fun r => s.get (F.GAUGE_RP_STAT_STATE r) != 0 && overlaps reg (s.rpRegion r)) then gOVERLAP
  else if s.gPost c * 15 * s.tapPeriod p * 200000 < 20 * 65536000 * 3 * one32 then gSHORT
  else if s.inRun = false ∨ s.holdReady = false then gSTATE
  else gOK

/-- A refused command of channel or engine `i`. -/
def State.gRefuse (s : State) (i : Nat) : State := s.raise 0x1307 i

/-- A channel begins to fill its slot from the next sample on: PRE sets first, or at once ARMED (R385). -/
def State.gFill (s : State) (c : Nat) : State :=
  let x := s.gchan c
  let n := s.tapIndex (s.gPoint c) s.tide.now + 1
  (s.setGchan c { x with
    n0 := (n : Int), set := 0, sets := [], dropping := false, buf := [], trigs := x.trigs, trig := none }).setGstate c
    (if s.gPre c = 0 then gARMED else gFILL)

/-- ARM (R384, R385). A channel that is not IDLE goes on. -/
def State.gArm (s : State) (c : Nat) : State :=
  if s.gState c ≠ gIDLE then s
  else
    let r := s.gCheck c
    let t := s.put (F.GAUGE_C_STAT_RESULT c) r
    if r ≠ gOK then t.gRefuse c
    else
      let x := t.gchan c
      let cmp := t.absOf (t.get64 (F.GAUGE_C_TCMP_LO_STAMP c) (F.GAUGE_C_TCMP_HI_STAMP c))
      let trigs := if bitAt (t.get (F.GAUGE_C_CTL_TRIG_EN c)) 1 ∧ t.tide.now ≤ cmp then [(1, cmp)] else []
      let u := (t.put (F.GAUGE_C_STAT_RECS c) 0).put (F.GAUGE_C_STAT_SLOT c) 0
      let v := u.each (List.range 16) (fun w i => w.each (List.range 16) (fun y k => y.put (F.GAUGE_DIR_WORD c i k) 0))
      (v.setGchan c { x with trigs := trigs, full := 0, block := [], spectra := 0 }).gFill c

/-! ## Trigger events (R386, R387) -/

/-- A trigger event of source `src` at instant `t` reaches channel `c` where it is enabled; one reported later than 20 µs after
its sample is counted. -/
def State.gaugeEventTo (s : State) (c src t : Nat) : State :=
  let st := s.gState c
  if bitAt (s.get (F.GAUGE_C_CTL_TRIG_EN c)) src && (st == gFILL || st == gARMED || st == gPOST) then
    let p := s.gPoint c
    if s.tapAt p (s.tapIndex p t) + usU 20 < s.tide.now then (s.inc (F.GAUGE_C_TCNT_LATE c)).raiseMs 0x1308 c 0
    else
      let x := s.gchan c
      s.setGchan c { x with trigs := x.trigs ++ [(src, t)] }
  else s

/-- A trigger event of source `src` at an instant in units since the epoch, reported to every channel. -/
def State.gaugeEvent (s : State) (src t : Nat) : State := s.each (List.range 16) (fun u c => u.gaugeEventTo c src t)

/-- GTRIG changes level; the selected edge is a trigger event (R386). -/
def State.gtrigEdge (s : State) (rise : Bool) : State :=
  let t : State := { s with pins := { s.pins with gtrig := rise } }
  if s.pins.gtrig ≠ rise ∧ rise = (s.get F.GAUGE_CTL_GTRIG_POL == 0) then t.gaugeEvent 0 t.tide.now else t

/-! ## Samples reach the taps -/

/-- A receive sample at `t` carries the ACT tag (16_lookout_and_coexistence.md R332). -/
def State.actAt (s : State) (t : Nat) : Bool :=
  s.look.act.any (fun e => decide (e.1 ≤ t) && (match e.2 with | none => true | some h => decide (t < h)))

/-- A sample of a stream at a point enters the channels that tap it; source 3 watches its level (R382, R386). -/
def State.gaugeTap (s : State) (point stream : Nat) (x : TapSample) : State :=
  s.each (List.range 16) (fun u c =>
    let st := u.gState c
    let f := u.gFirst c
    if (st == gFILL || st == gARMED || st == gPOST) && u.gPoint c == point
        && decide (f ≤ stream ∧ stream < f + u.gCnt c) then
      let ch := u.gchan c
      if (x.n : Int) < ch.n0 + 15 * ch.set then u
      else
        let old := (sparseFind ch.buf (stream - f)).getD []
        let v := u.setGchan c { ch with buf := sparseInsert ch.buf (stream - f) (old ++ [x]) }
        let lev := u.get (F.GAUGE_C_LEVEL_LEVEL c)
        if lev ≠ 0 ∧ (lev ≤ x.v.re.natAbs ∨ lev ≤ x.v.im.natAbs) ∧ bitAt (u.get (F.GAUGE_C_CTL_TRIG_EN c)) 3 = true then
          let y := v.gchan c
          v.setGchan c { y with trigs := y.trigs ++ [(3, u.tapAt point x.n)] }
        else v
    else u)

/-- A chain started: the numbers of the streams at some points begin again, and the sets go on from the next sample. -/
def State.gaugeRebase (s : State) (points : List Nat) : State :=
  s.each (List.range 16) (fun u c =>
    let st := u.gState c
    if points.contains (u.gPoint c) && st != gIDLE then
      let x := u.gchan c
      u.setGchan c { x with n0 := ((u.tapIndex (u.gPoint c) u.tide.now + 1 : Nat) : Int) - 15 * x.set, buf := [] }
    else u)

/-! ## Sets (R383, R390) -/

/-- The first sample number of set `k`. -/
def GaugeChan.first (x : GaugeChan) (k : Nat) : Nat := (x.n0 + 15 * k).toNat

/-- The next set of channel `c` has every sample. -/
def State.setReady (s : State) (c : Nat) : Bool :=
  let x := s.gchan c
  let m := x.first x.set + 14
  let f := s.gFirst c
  let live := (List.range (s.gCnt c)).filter (fun j => s.tapLive (s.gPoint c) (f + j))
  !live.isEmpty && live.all (fun j => ((sparseFind x.buf j).getD []).any (fun y => decide (m ≤ y.n)))

/-- Sample `n` of stream offset `j`, zero where none came. -/
def GaugeChan.sample (x : GaugeChan) (j n : Nat) : TapSample :=
  (((sparseFind x.buf j).getD []).find? (fun y => y.n = n)).getD { n := n, v := cx0 }

/-- The 64 bytes of a granule: 15 samples and the tag word (R383). -/
def granuleBytes (rx : Bool) (l : List TapSample) : List Byte :=
  let tag := l.zipIdx.foldl (fun acc e =>
    acc + (if rx && e.1.inv then 2 ^ (2 * e.2) else 0) + (if rx && e.1.ovr then 2 ^ (2 * e.2 + 1) else 0)) 0
  let act := if rx && l.any (fun x => x.act) then 2 ^ 30 else 0
  l.flatMap (fun x => leBytes 2 (ofSigned 16 x.v.re) ++ leBytes 2 (ofSigned 16 x.v.im)) ++ leBytes 4 (tag + act)

/-- The 64 bytes of a gap marker. -/
def markerBytes (at_ : Nat) (lost : Nat) : List Byte :=
  leBytes 8 (at_ % 2 ^ 64) ++ leBytes 4 (lost % 2 ^ 32) ++ List.replicate 48 0 ++ leBytes 4 (2 ^ 31)

/-- A marker at set `k`, for every stream. -/
def State.writeMarker (s : State) (c k at_ lost : Nat) : State :=
  s.each (List.range (s.gCnt c)) (fun t j => t.writeGranule (t.gGranule c k j) (markerBytes at_ lost))

/-- The length of the run of dropped sets at the head of a list, newest first, and the instant at which it began. -/
def dropRun : List (Nat × Nat × Bool) → Nat × Nat × Nat
  | (k, a, true) :: l =>
    match dropRun l with
    | (0, _, _) => (1, k, a)
    | (n, k0, a0) => (n + 1, k0, a0)
  | _ => (0, 0, 0)

/-! ## Deep channels (R395, R396) -/

/-- A valid sample enters the histogram. -/
def State.histAdd (s : State) (d : Nat) (v : Cx) : State :=
  let b := isqrt (cxMag2 v).toNat / 32
  s.inc (F.GAUGE_HIST_COUNT d (if 1023 < b then 1023 else b))

/-- cos of 2π i / 256 in Q30. -/
def cos256 (i : Nat) : Int :=
  let q (k : Nat) : Int := rnd 34 (sinQ64 (k * 1099511627776))
  let j := i % 256
  if j ≤ 64 then q (64 - j) else if j ≤ 128 then -(q (j - 64)) else if j ≤ 192 then -(q (192 - j)) else q (j - 192)

/-- Σ w(n) x(n) e^(-j2πkn/256), times 2^60, with the Hann window. -/
def hannBin (l : List Cx) (k : Nat) : Cx :=
  cxSum (l.zipIdx.map (fun e =>
    let w := 536870912 - cos256 e.2 / 2
    cxMul (cxScale w e.1) ⟨cos256 (k * e.2), -(cos256 (k * e.2 + 192))⟩))

/-- The row of a bin: ⌊-P(k)⌋ limited to 0 to 127. -/
def mapRow (y : Cx) : Nat :=
  let m := (cxMag2 y).toNat
  if m = 0 then 127 else (clampInt 0 127 (logFloor 10 ((32767 * 128) ^ 2 * 2 ^ 120) m)).toNat

/-- A map cell of a deep channel: key d × 32768 + 256 × row + column. -/
def State.mapInc (s : State) (key : Nat) : State :=
  let v := sparseGet (fun _ => 0) s.hold.map key
  { s with hold := { s.hold with map := sparsePut (fun _ => 0) s.hold.map key (satInc 65535 v) } }

/-- Every cell of a deep channel's map decays: c - ⌈c / 2^DSHIFT⌉. -/
def State.mapDecay (s : State) (d sh : Nat) : State :=
  { s with hold := { s.hold with map := (s.hold.map.map (fun e =>
      if e.1 / 32768 = d then (e.1, e.2 - (e.2 + 2 ^ sh - 1) / 2 ^ sh) else e)).filter (fun e => e.2 != 0) } }

/-- A block of 256 stored samples is complete (R396). -/
def State.mapBlock (s : State) (d : Nat) (l : List (Option Cx)) : State :=
  if l.any (fun x => x.isNone) then s.inc (F.GAUGE_DEEP_SKIP_COUNT d)
  else
    let v := l.filterMap id
    let t := s.each (List.range 256) (fun u k => u.mapInc (d * 32768 + 256 * mapRow (hannBin v k) + (k + 128) % 256))
    let u := t.incWrap (F.GAUGE_DEEP_SPEC_COUNT d)
    let x := u.gchan d
    let n := x.spectra + 1
    let sh := u.get (F.GAUGE_DEEP_CTL_DSHIFT d)
    if sh ≠ 0 ∧ atLeast1 (u.get (F.GAUGE_DEEP_CTL_DECAY_N d)) ≤ n then
      (u.setGchan d { x with spectra := 0 }).mapDecay d sh
    else u.setGchan d { x with spectra := n }

/-- A stored sample of stream FIRST, none for one in a gap, enters the deep functions of channel `c`. -/
def State.deepSample (s : State) (c : Nat) (y : Option TapSample) : State :=
  let good : Option Cx := match y with
    | some x => if x.inv then none else some x.v
    | none => none
  let s1 := match good with
    | some v => if s.flag (F.GAUGE_DEEP_CTL_HIST_EN c) then s.histAdd c v else s
    | none => s
  if s1.flag (F.GAUGE_DEEP_CTL_MAP_EN c) then
    let x := s1.gchan c
    let b := x.block ++ [good]
    if b.length < 256 then s1.setGchan c { x with block := b }
    else (s1.setGchan c { x with block := [] }).mapBlock c b
  else s1

/-- The samples of a set enter the deep functions of channels 0 to 3. -/
def State.deepSet (s : State) (c : Nat) (l : List (Option TapSample)) : State :=
  if c < 4 then s.each l (fun t y => t.deepSample c y) else s

/-! ## Measurements (R393) -/

/-- The samples of stream FIRST in sets [f, f + n) of the present slot, in order, none for a bad one. -/
def State.recSamples (s : State) (c f n : Nat) : List (Option Cx) :=
  let x := s.gchan c
  (List.range n).flatMap (fun i =>
    let k := f + i
    if x.sets.any (fun e => e.1 == k && e.2.2) then List.replicate 15 none
    else
      let a := granuleAddr (s.gGranule c k 0)
      let tag := s.memWord (a + 60)
      (List.range 15).map (fun q =>
        if bitAt tag (2 * q) then none
        else
          let w := s.memWord (a + 4 * q)
          some ⟨toSigned 16 w, toSigned 16 (w / 65536)⟩))

/-- Σ x(n) conj(x(n - 1)) over pairs of valid neighbours. -/
def pairSum : List (Option Cx) → Cx
  | some a :: some b :: l => cxAdd (cxMul b (cxConj a)) (pairSum (some b :: l))
  | _ :: l => pairSum l
  | [] => cx0

/-- Rising edges: positions of the samples at which the burst detector turns on, from position `i` on. -/
def risingEdges (peak2 : Nat) : List (Option Cx) → Nat → Bool → List Nat
  | [], _, _ => []
  | none :: l, i, on => risingEdges peak2 l (i + 1) on
  | some v :: l, i, on =>
    let m := (cxMag2 v).toNat
    if on then risingEdges peak2 l (i + 1) (decide (¬ 3162 * m < 10 * peak2))
    else if peak2 ≤ 100 * m then i :: risingEdges peak2 l (i + 1) true
    else risingEdges peak2 l (i + 1) false

/-- `n` sample periods of a point in nanoseconds, as a fraction over `k`: rounded half up. -/
def State.tapNs (s : State) (point n k : Nat) : Nat :=
  (2 * n * s.tapPeriod point * 3125 + 3072 * one32 * k) / (2 * 3072 * one32 * k)

/-- The measurement words of a record, offsets 40 to 63, and the state (free values are drawn where a logarithm of 0 has no
stated value; log entry 2). -/
def State.measure (s : State) (c f held : Nat) : List Byte × State :=
  let p := s.gPoint c
  let l := s.recSamples c f held
  let v := l.filterMap id
  let dur := s.tapNs p (15 * held) 1
  if v.isEmpty then (leBytes 4 dur ++ leBytes 4 0 ++ leBytes 2 0x8000 ++ leBytes 14 0, s)
  else
    let sum := v.foldl (fun a x => a + (cxMag2 x).toNat) 0
    let cnt := v.length
    let peak2 := maxOf 0 (v.map (fun x => (cxMag2 x).toNat))
    let ((mean, crest), t) : (Nat × Nat) × State :=
      if sum = 0 then
        let (a, t) := s.draw
        let (b, u) := t.draw
        ((a % 65536, b % 65536), u)
      else ((ofSigned 16 (logRound 1000 sum (cnt * 32767 ^ 2)), ofSigned 16 (logRound 1000 (peak2 * cnt) sum)), s)
    let th := argTurn (pairSum l)
    let freq := divRound (983040000 * 4294967296 * th) ((s.tapPeriod p * 281474976710656 : Nat) : Int)
    let edges := risingEdges peak2 l 0 false
    let period := match edges, edges.getLast? with
      | e0 :: _, some e1 => if 3 ≤ edges.length then s.tapNs p (e1 - e0) (edges.length - 1) else 0
      | _, _ => 0
    (leBytes 4 dur ++ leBytes 2 (sqrtRound peak2 1) ++ leBytes 2 (sqrtRound sum cnt) ++ leBytes 2 mean ++ leBytes 2 crest
      ++ leBytes 4 (ofSigned 32 freq) ++ leBytes 4 period
      ++ leBytes 2 (if 65535 < edges.length then 65535 else edges.length) ++ leBytes 2 0, t)

/-! ## Records (R391, R392) -/

/-- The dropped sets of a channel within [f, f + n). -/
def GaugeChan.lostIn (x : GaugeChan) (f n : Nat) : List (Nat × Nat) :=
  (x.sets.filter (fun e => e.2.2 && decide (f ≤ e.1 ∧ e.1 < f + n))).map (fun e => (e.1, e.2.1))

/-- Every run of dropped sets inside a record has its marker, cut to the record (R390). -/
def State.recMarkers (s : State) (c f n : Nat) : State :=
  let lost := (s.gchan c).lostIn f n
  let has (k : Nat) : Bool := lost.any (fun e => e.1 == k)
  s.each (lost.filter (fun e => e.1 == f || !has (e.1 - 1))) (fun t e =>
    let run := ((List.range n).takeWhile (fun i => has (e.1 + i))).length
    t.writeMarker c e.1 e.2 (15 * run))

/-- The words of a directory entry. -/
def State.dirWrite (s : State) (c slot : Nat) (l : List Byte) : State :=
  s.each (List.range 16) (fun t k => t.put (F.GAUGE_DIR_WORD c slot k) (leNat ((l.drop (4 * k)).take 4)))

/-- The record of a channel in POST closes with FLAGS TRUNC and SUSP as given (R391, R399). -/
def State.gClose (s0 : State) (c : Nat) (trunc susp : Bool) : State :=
  let x := s0.gchan c
  match x.trig with
  | none => s0
  | some (ts, w) =>
    let f := ts - s0.gPre c
    let last := if x.set < ts + s0.gPost c then x.set else ts + s0.gPost c
    let held := last - f
    let s := s0.recMarkers c f held
    let lost := 15 * (x.lostIn f held).length
    let slot := s.get (F.GAUGE_C_STAT_SLOT c)
    let start := match x.sets.find? (fun e => e.1 == f) with
      | some e => e.2.1
      | none => s.tapAt (s.gPoint c) (x.first f)
    let (meas, t) := s.measure c f held
    let entry := leBytes 4 x.recNo
      ++ leBytes 1 c ++ leBytes 1 (s.gPoint c) ++ leBytes 1 (s.gFirst c) ++ leBytes 1 (s.get (F.GAUGE_C_CTL_LOG_CNT c))
      ++ leBytes 8 (start % 2 ^ 64) ++ leBytes 8 (w.at_ % 2 ^ 64)
      ++ leBytes 1 w.frac ++ leBytes 1 w.win ++ leBytes 1 w.coinc
      ++ leBytes 1 (b2n trunc + 2 * b2n susp + 4 * b2n (lost != 0))
      ++ leBytes 4 (s.gGranule c f 0) ++ leBytes 4 held ++ leBytes 4 lost ++ meas
    let u := t.dirWrite c slot entry
    let full := setBitAt x.full slot true
    let y := u.gchan c
    let v := u.setGchan c { y with recNo := (x.recNo + 1) % 2 ^ 32, full := full, trig := none }
    let r := ((((v.putb (F.GAUGE_C_RES_VALID c) true).putb (F.GAUGE_C_RES_NEW c) true).incWrap (F.GAUGE_C_RES_SEQ c)).put
      (F.GAUGE_C_RES_SLOT c) slot).put (F.GAUGE_C_STAT_RECS c) (popcount 16 full)
    let z := r.raiseMs 0x1301 c c
    if lost = 0 then z else (z.add (F.GAUGE_C_GAPS_INSTANTS c) lost).raiseMs 0x1302 c c

/-- After a record: MODE 1 returns to IDLE; MODE 2 goes on in the next slot, or stops where that slot holds a record and WRAP
is 0 (R391). -/
def State.gNext (s : State) (c : Nat) : State :=
  if s.gContinuous c then
    let slots := s.get (F.GAUGE_C_SLOTS_SLOTS c) + 1
    let next := (s.get (F.GAUGE_C_STAT_SLOT c) + 1) % slots
    if bitAt (s.gchan c).full next ∧ s.flag (F.GAUGE_C_CTL_WRAP c) = false then (s.setGstate c gIDLE).raise 0x1303 c
    else (s.put (F.GAUGE_C_STAT_SLOT c) next).gFill c
  else s.setGstate c gIDLE

/-- A set has been written or dropped: FILL becomes ARMED after PRE sets, POST ends after its last set (R385, R391). -/
def State.gAdvance (s : State) (c : Nat) : State :=
  let x := s.gchan c
  let t := if s.gState c = gFILL ∧ s.gPre c ≤ x.set then s.setGstate c gARMED else s
  match x.trig with
  | some (ts, _) => if t.gState c = gPOST ∧ ts + t.gPost c ≤ x.set then (t.gClose c false false).gNext c else t
  | none => t

/-- The next set of a channel is written to Hold (R383), after the marker of a run of drops that it ends (R390). -/
def State.gSetWrite (s : State) (c : Nat) : State :=
  let st := s.gState c
  if (st = gFILL ∨ st = gARMED ∨ st = gPOST) ∧ s.setReady c = true then
    let x := s.gchan c
    let m := x.first x.set
    let (run, k0, a0) := dropRun x.sets
    let s1 := if run = 0 then s else s.writeMarker c k0 a0 (15 * run)
    let rx := s.gPoint c < 2
    let s2 := s1.each (List.range (s.gCnt c)) (fun t j =>
      t.writeGranule (t.gGranule c x.set j) (granuleBytes rx ((List.range 15).map (fun i => x.sample j (m + i)))))
    let y : GaugeChan := { x with
      set := x.set + 1
      sets := ((x.set, s.tapAt (s.gPoint c) m, false) :: x.sets).take (s.gLen c)
      buf := x.buf.map (fun e => (e.1, e.2.filter (fun z => decide (m + 15 ≤ z.n)))) }
    let s3 := ((s2.setGchan c y).holdCarried 0 (s.gCnt c)).deepSet c ((List.range 15).map (fun i => some (x.sample 0 (m + i))))
    s3.gAdvance c
  else s

/-- The next set of a channel finds no room and is dropped (R390). -/
def State.gSetDrop (s : State) (c : Nat) : State :=
  let st := s.gState c
  if (st = gFILL ∨ st = gARMED ∨ st = gPOST) ∧ s.setReady c = true then
    let x := s.gchan c
    let m := x.first x.set
    let y : GaugeChan := { x with
      set := x.set + 1
      sets := ((x.set, s.tapAt (s.gPoint c) m, true) :: x.sets).take (s.gLen c)
      buf := x.buf.map (fun e => (e.1, e.2.filter (fun z => decide (m + 15 ≤ z.n)))) }
    (((s.setGchan c y).add (F.TOP_SLIP_CNT_COUNT 7) (15 * s.gCnt c)).deepSet c (List.replicate 15 none)).gAdvance c
  else s

/-! ## Decisions (R385 to R389) -/

/-- The earliest undecided trigger sample of a channel is decided, 20 µs after it. -/
def State.gDecide (s0 : State) (c : Nat) : State :=
  let st0 := s0.gState c
  let x0 := s0.gchan c
  match x0.trigs with
  | [] => s0
  | t0 :: ts =>
    if st0 = gFILL ∨ st0 = gARMED ∨ st0 = gPOST then
      let p := s0.gPoint c
      let te := minOf t0.2 (ts.map (fun e => e.2))
      let n := s0.tapIndex p te
      let s := s0.reachAbs (s0.tapAt p n + usU 20)
      let here := x0.trigs.filter (fun e => s.tapIndex p e.2 == n)
      let win := minOf 7 (here.map (fun e => e.1))
      let at_ := ((here.find? (fun e => e.1 == win)).map (fun e => e.2)).getD te
      let x : GaugeChan := { x0 with trigs := x0.trigs.filter (fun e => s.tapIndex p e.2 != n) }
      let t := s.setGchan c x
      let ready : Int := x.n0 + 15 * s.gPre c
      if (n : Int) < ready then t.inc (F.GAUGE_C_TCNT_IGN c)
      else if st0 = gPOST then t.inc (F.GAUGE_C_TCNT_RETRIG c)
      else
        let frac := (at_ - s.tapAt p n) * 64 * 3 * one32 / (200000 * s.tapPeriod p)
        let w : GaugeWin := ⟨at_, if 63 < frac then 63 else frac, win, maskOf (here.map (fun e => e.1))⟩
        ((t.setGchan c { x with trig := some ((((n : Int) - x.n0) / 15).toNat, w) }).setGstate c gPOST).gAdvance c
    else s0

/-! ## STOP, throttle, power (R391, R399, R400) -/

/-- A channel ends: a record in POST is closed with TRUNC; no entry otherwise. -/
def State.gStop (s : State) (c : Nat) : State :=
  let t := if s.gState c = gPOST then s.gClose c true false else s
  let x := t.gchan c
  (t.setGchan c { x with buf := [], trigs := [], trig := none }).setGstate c gIDLE

/-- Play of engine `r` ends: the paths return to the DUC, REPLAY_DONE (R398). -/
def State.rpEnd (s : State) (r : Nat) : State :=
  if s.get (F.GAUGE_RP_STAT_STATE r) = 0 then s
  else
    let was := s.get (F.GAUGE_RP_STAT_STATE r)
    let t : State := { s with hold := { s.hold with engines := sparseErase s.hold.engines r } }
    let u := (t.put (F.GAUGE_RP_STAT_STATE r) 0).put F.GAUGE_STAT_REPLAY (setBitAt (t.get F.GAUGE_STAT_REPLAY) r false)
    if was = 2 then u.raise 0x1305 r else u

/-- Throttle level 1 or higher comes into force: every channel and engine stops (R399). -/
def State.gaugeSuspend (s : State) : State :=
  let t := s.each (List.range 16) (fun u c =>
    if u.gState c = gIDLE ∨ u.gState c = gSUSP then u
    else
      let v := if u.gState c = gPOST then u.gClose c true true else u
      let x := v.gchan c
      (v.setGchan c { x with buf := [], trigs := [], trig := none }).setGstate c gSUSP)
  let u := t.each (List.range 4) State.rpEnd
  if u.flag F.GAUGE_STAT_SUSP then u else (u.putb F.GAUGE_STAT_SUSP true).raise 0x1304 0

/-- Level 0 is back: each channel resumes in FILL in its slot (R399). -/
def State.gaugeResume (s : State) : State :=
  (s.each (List.range 16) (fun u c => if u.gState c = gSUSP then u.gFill c else u)).putb F.GAUGE_STAT_SUSP false

/-- Run is left or HOLD lowered: every channel ends, every engine ends (R391, R398, R400). -/
def State.gaugeLeave (s : State) : State :=
  (s.each (List.range 16) (fun u c => if u.gState c = gIDLE then u else u.gStop c)).each (List.range 4) State.rpEnd

/-! ## Replay commands (R397, R398) -/

/-- The check of a GO. -/
def State.rpCheck (s : State) (r : Nat) : Nat :=
  let d := stampDiff (s.get64 (F.GAUGE_RP_AT_LO_STAMP r) (F.GAUGE_RP_AT_HI_STAMP r)) s.stamp
  let reg := s.rpRegion r
  if d < (usU 50 : Int) then 1
  else if (sU 2 : Int) < d then 2
  else if streamsOk (s.get (F.GAUGE_RP_CTL_FIRST r)) (s.get (F.GAUGE_RP_CTL_LOG_CNT r)) 64 = false ∨ s.rpLen r = 0
      ∨ s.granules < reg.1 + reg.2 then 3
  else if (List.range 16).any (fun c => s.gState c != gIDLE && overlaps reg (s.gRegion c)) then 4
  else if s.inRun = false ∨ s.flag F.TXD_CTL_RUN = false ∨ s.holdReady = false ∨ s.flag F.GAUGE_STAT_SUSP = true then 5
  else 0

/-- GO: the engine waits for RP_AT, or is refused. An engine that waits or plays goes on. -/
def State.rpGo (s : State) (r : Nat) : State :=
  if s.get (F.GAUGE_RP_STAT_STATE r) ≠ 0 then s
  else
    let c := s.rpCheck r
    let t := s.put (F.GAUGE_RP_STAT_RESULT r) c
    if c ≠ 0 then t.gRefuse r
    else (t.put (F.GAUGE_RP_STAT_STATE r) 1).put (F.GAUGE_RP_STAT_DONE r) 0

/-- STOP: play ends at the next set boundary; an engine that waits ends at once. -/
def State.rpStop (s : State) (r : Nat) : State :=
  if s.get (F.GAUGE_RP_STAT_STATE r) = 1 then s.rpEnd r
  else match sparseFind s.hold.engines r with
    | none => s
    | some e => { s with hold := { s.hold with engines := sparseInsert s.hold.engines r { e with stop := true } } }

/-- Play starts at the first air instant at or after RP_AT (R397). -/
def State.rpStart (s : State) (r : Nat) : State :=
  if s.get (F.GAUGE_RP_STAT_STATE r) ≠ 1 then s
  else
    let a := s.absOf (s.get64 (F.GAUGE_RP_AT_LO_STAMP r) (F.GAUGE_RP_AT_HI_STAMP r))
    let k := gridFrom a
    let t := s.reachAbs (gridAt k)
    let u : State := { t with hold := { t.hold with engines := sparseInsert t.hold.engines r ⟨k, 0, 0, false⟩ } }
    ((u.put (F.GAUGE_RP_STAT_STATE r) 2).put F.GAUGE_STAT_REPLAY (setBitAt (u.get F.GAUGE_STAT_REPLAY) r true)).holdCarried 1
      (2 ^ u.get (F.GAUGE_RP_CTL_LOG_CNT r))

/-- The set that an engine plays has been played by air index `k`: the next set, or the next pass; none at the end
(R397, R398). -/
def State.rpStepSet (s : State) (r : Nat) (e : RpEngine) : Option RpEngine :=
  let k := e.setK + s.rpSetLen r e.set
  if e.stop then none
  else if e.set + 1 < s.rpLen r then some { e with setK := k, set := e.set + 1 }
  else
    let loops := s.get (F.GAUGE_RP_CTL_LOOPS r)
    if loops ≠ 0 ∧ loops ≤ e.pass + 1 then none else some { e with setK := k, set := 0, pass := e.pass + 1 }

/-- The engines that play go on to the set that holds air index `k`, at most one set at a time. -/
def State.rpFollow (s : State) (k : Nat) : State :=
  s.each (List.range 4) (fun t r =>
    match sparseFind t.hold.engines r with
    | none => t
    | some e =>
      if e.setK + t.rpSetLen r e.set ≤ k then
        match t.rpStepSet r e with
        | none => t
        | some f =>
          let u := if f.pass = e.pass then t else t.inc (F.GAUGE_RP_STAT_DONE r)
          State.holdCarried { u with hold := { u.hold with engines := sparseInsert u.hold.engines r f } } 1
            (2 ^ u.get (F.GAUGE_RP_CTL_LOG_CNT r))
      else t)

/-- Play of an engine ends: its last pass or, after STOP, its set is over by now (R398). -/
def State.rpFinish (s : State) (r : Nat) : State :=
  match sparseFind s.hold.engines r with
  | none => s
  | some e =>
    match s.rpStepSet r e with
    | some _ => s
    | none =>
      let t := s.reachAbs (gridAt (e.setK + s.rpSetLen r e.set))
      let u := if e.set + 1 < t.rpLen r then t else t.inc (F.GAUGE_RP_STAT_DONE r)
      u.rpEnd r

end Sys2Proof.Machine
end

