-- ==== Sys2Proof/Machine/Dpd.lean ====
section
/-! DEFINITION. Observation and the solver (09_predistortion.md R175, R183 to R196). -/

namespace Sys2Proof.Machine

/-! ## The ORX schedule (R184 to R186, R195) -/

/-- ORX `k` is degraded. -/
def State.orxBad (s : State) (k : Nat) : Bool := s.flag (F.DPD_ORX_STAT_DEGRADED k)

/-- The quads whose paths ORX `k` observes: its own unless degraded, and its partner's where those have moved (R183). -/
def State.orxQuads (s : State) (k : Nat) : List Nat :=
  let o := if k % 2 = 0 then k + 1 else k - 1
  if !s.hasQuad k || s.orxBad k then []
  else if s.flag (F.DPD_ORX_STAT_MOVED o) then [k, o] else [k]

/-- A path is eligible (R184); one in NOFB only 100 ms after its last slot. -/
def State.orxEligible (s : State) (p : Nat) : Bool :=
  s.txReleased p && s.flag F.DPD_CTL_ADAPT && s.flag (F.DPD_P_CTL_ADAPT_EN p) && !s.flag (F.DPD_P_STAT_FROZEN p)
    && (!s.flag (F.DPD_P_STAT_NOFB p) || (match sparseFind s.dpd.nofbSlot p with
      | none => true
      | some a => decide (a + msU 100 ≤ s.aon)))

/-- The path of ORX `k`'s next slot: the next eligible one above the last, else the lowest. -/
def State.orxNext (s : State) (k : Nat) : Option Nat :=
  let l := ((s.orxQuads k).flatMap quadOuts).filter s.orxEligible
  let last := (sparseFind s.dpd.lastPath k).getD 64
  match l.filter (fun p => decide (last < p)) with
  | p :: ps => some (minOf p ps)
  | [] => match l with
    | [] => none
    | p :: ps => some (minOf p ps)

/-- A higher user holds the ORXs (R185): a calibration in its span, or a read-back pending on ORX `k`'s quad. -/
def State.orxTaken (s : State) (k : Nat) : Bool :=
  (match s.tx.cal with | some ⟨_, m, _, some _⟩ => bitAt m k | _ => false)
    || (match s.rx.cal with | some ⟨_, m, _, some _⟩ => bitAt m k | _ => false)
    || s.flag F.BERTH_CAL_STAT_BUSY || s.flag F.RING_XCAL_STAT_BUSY
    || (match s.tx.readback with | some (_, p) => p / 8 == k | none => false)

/-- The schedule gives ORX `k` a slot now: at throttle level 1 or above one slot per 1 ms (R195). -/
def State.orxSlotOpen (s : State) (k : Nat) : Bool :=
  s.inRun && s.up domDPD && !s.orxTaken k && (!s.flag F.DPD_STAT_SLOW || (match sparseFind s.dpd.lastSlot k with
    | none => true
    | some a => decide (a + msU 1 ≤ s.aon)))

/-- Samples of a path captured for the solver need: no fade, the active bank not empty, and nothing muting it now (R186). -/
def State.orxCan (s : State) (p : Nat) : Bool :=
  (s.dpdPath p).fade.isNone && !s.dpdEmpty p (s.dpdActive p) && s.muteCause p s.nextTxK true == 0

/-- A slot of ORX `k`: `found` says that a capture span occurred in it, `ri` and `rq` are the residual carrier, `fill` and
`lost` what its ingress buffer showed (R186, R170; 01_architecture.md R19). -/
def State.orxSlot (s : State) (k : Nat) (found : Bool) (ri rq : Int) (fill lost : Nat) : State :=
  if s.orxSlotOpen k then
    match s.orxNext k with
    | none => s
    | some p =>
      let s1 := { s with dpd := { s.dpd with
        lastPath := sparseInsert s.dpd.lastPath k p
        lastSlot := sparseInsert s.dpd.lastSlot k s.aon
        nofbSlot := if s.flag (F.DPD_P_STAT_NOFB p) then sparseInsert s.dpd.nofbSlot p s.aon else s.dpd.nofbSlot } }
      let s2 := s1.meter 1 ((2048 - fill) * 3125 / 6144)
      let s3 := if lost = 0 then s2 else (s2.add (F.TOP_SLIP_CNT_COUNT 1) lost).raiseMs 0x0002 (info2 1 k) (256 + k)
      if found && s3.orxCan p then
        let b := s3.dpdActive p
        let x := s3.dpdPath p
        (s3.setDpdPath p { x with capture := some (b, false, s3.tide.now) }).lolTrack p ri rq
      else s3.inc (F.DPD_P_REJ_SKIP p)
  else s

/-! ## Solve (R187 to R194) -/

/-- A result written to DPD.Pnn_RES (R191). -/
def State.dpdResult (s : State) (p bank outcome : Nat) (nmse : Int) : State :=
  (((((s.putb (F.DPD_P_RES_VALID p) true).putb (F.DPD_P_RES_NEW p) true).incWrap (F.DPD_P_RES_SEQ p)).put
    (F.DPD_P_RES_OUTCOME p) outcome).put (F.DPD_P_RES_BANK p) bank).puti (F.DPD_P_RES_NMSE p) nmse

/-- DPD_ERR: ERR_N consecutive results above ERR_DB; the Gauge pulse at the end of the capture (R193). -/
def State.dpdErr (s : State) (p : Nat) (nmse : Int) (t : Nat) : State :=
  let x := s.dpdPath p
  if s.geti F.DPD_CHECK_ERR_DB < nmse then
    let n := x.errRun + 1
    let u := s.setDpdPath p { x with errRun := n }
    if atLeast1 (s.get F.DPD_CHECK_ERR_N) ≤ n ∧ x.errUp = false then
      ((u.setDpdPath p { x with errRun := n, errUp := true }).raise 0x0804 p).gaugeEvent 5 t
    else u
  else s.setDpdPath p { x with errRun := 0, errUp := false }

/-- c_new := c + (MU / 256) × Δ, rounded half up to Q4.20, with Δ in units of 2^-40. -/
def solveCoef (mu : Nat) (c d : Cx) : Cx :=
  cxRnd 28 (cxAdd (cxScale 268435456 c) (cxScale (mu : Int) d))

/-- Δ of term `t` from draw `n`: binary32 results that the spec leaves to the solver (R189; log entry 11). -/
def solveDelta (n t : Nat) : Cx := ⟨toSigned 48 (Config.measured n (2 * t)), toSigned 48 (Config.measured n (2 * t + 1))⟩

/-- The new coefficients of a bank: enabled terms move, the others stay. -/
def State.solveBank (s : State) (p bank n : Nat) : List Cx :=
  (List.range 32).map (fun t =>
    let c := s.dpdCoef p bank t
    if s.termOn t then solveCoef (atLeast1 (s.get F.DPD_SOLVE_MU)) c (solveDelta n t) else c)

/-- The update of a solve is applied, waits for its refresh, or is withheld (R189, R190, R194). -/
def State.solveUpdate (s : State) (p bank : Nat) (written : Bool) (nmse : Int) : State :=
  let (n, t) := s.draw
  let new := t.solveBank p bank n
  let x := t.dpdPath p
  if written then
    (t.setDpdPath p { x with undo := sparseErase x.undo bank }).dpdResult p bank 2 nmse
  else if new.any (fun c => cxOver 24 c) then t.dpdResult p bank 2 nmse
  else if t.dpdActive p = bank then
    (t.setDpdPath p { x with refresh := some ⟨bank, new, false⟩, applied := some (bank, nmse) }).dpdResult p bank 0 nmse
  else (t.setDpdBank p bank new).dpdResult p bank 0 nmse

/-- A revert: the undo copy comes back by a refresh; the third in a row freezes the path (R192). -/
def State.solveRevert (s : State) (p bank : Nat) (nmse : Int) : State :=
  let x := s.dpdPath p
  let r := s.get (F.DPD_P_STAT_REVERTS p) + 1
  let ref : Option Refresh := match sparseFind x.undo bank with
    | some c => some ⟨bank, c, true⟩
    | none => none
  let t := (s.setDpdPath p { x with applied := none, refresh := ref }).put (F.DPD_P_STAT_REVERTS p) (if 3 < r then 3 else r)
  let u := (t.dpdResult p bank 1 nmse).raiseMs 0x0805 p p
  if 3 ≤ r ∧ u.flag (F.DPD_P_STAT_FROZEN p) = false then (u.putb (F.DPD_P_STAT_FROZEN p) true).raise 0x0806 p else u

/-- The alignment of a capture failed: eight in a row put the path in NOFB (R188). -/
def State.alignFail (s : State) (p : Nat) : State :=
  let x := s.dpdPath p
  let n := x.alignBad + 1
  let t := (s.setDpdPath p { x with alignBad := n }).inc (F.DPD_P_REJ_ALIGN p)
  if 8 ≤ n ∧ t.flag (F.DPD_P_STAT_NOFB p) = false then (t.putb (F.DPD_P_STAT_NOFB p) true).raise 0x0807 p else t

/-- The alignment of a capture succeeded: DPD.Pnn_DLY, NOFB clears (R188). -/
def State.alignGood (s : State) (p delay : Nat) : State :=
  let x := s.dpdPath p
  (((s.setDpdPath p { x with alignBad := 0 }).putb (F.DPD_P_DLY_VALID p) true).put (F.DPD_P_DLY_DELAY p) delay).putb
    (F.DPD_P_STAT_NOFB p) false

/-- The solve of path `p`'s capture ends. What the capture showed: the RMS of u in 0.01 dBFS, over-range, the normalised
correlation peak in 1/1000, the delay in 1/16 sample, and the NMSE in 0.01 dB (R187 to R193). -/
def State.dpdSolve (s : State) (p : Nat) (rms : Int) (ovr : Bool) (corr delay : Nat) (nmse : Int) : State :=
  let x := s.dpdPath p
  match x.capture with
  | none => s
  | some (bank, written, t) =>
    let s1 := s.setDpdPath p { x with capture := none }
    if rms < -(((100 * s.get F.DPD_CHECK_MIN_DB : Nat) : Int)) then s1.inc (F.DPD_P_REJ_LOWPWR p)
    else if ovr then s1.inc (F.DPD_P_REJ_ORX_OVR p)
    else if corr < 500 then s1.alignFail p
    else
      let s2 := (s1.alignGood p delay).dpdErr p nmse t
      match (s2.dpdPath p).applied with
      | some (b, old) =>
        if b = bank ∧ s2.dpdActive p = b then
          if old + ((10 * s2.get F.DPD_CHECK_REVERT_DB : Nat) : Int) < nmse then s2.solveRevert p bank nmse
          else
            let y := s2.dpdPath p
            ((s2.setDpdPath p { y with applied := none }).put (F.DPD_P_STAT_REVERTS p) 0).solveUpdate p bank written nmse
        else
          let y := s2.dpdPath p
          (s2.setDpdPath p { y with applied := none }).solveUpdate p bank written nmse
      | none => s2.solveUpdate p bank written nmse

/-- A waiting refresh starts once the path has no fade and no queued request; it is abandoned where its bank is no longer
active (R190). The coefficients faded from become the undo copy. -/
def State.refreshStart (s : State) (p : Nat) : State :=
  let x := s.dpdPath p
  match x.refresh with
  | none => s
  | some r =>
    if s.dpdActive p ≠ r.bank then s.setDpdPath p { x with refresh := none }
    else if x.fade.isSome || s.flag (F.DPD_P_STAT_QV p) then s
    else
      let old := s.dpdBank p r.bank
      let undo := if r.revert then sparseErase x.undo r.bank else sparseInsert x.undo r.bank old
      let n := s.fadeLen
      if n = 0 then (s.setDpdPath p { x with refresh := none, undo := undo }).setDpdBank p r.bank r.coef
      else (s.setDpdPath p { x with
        refresh := none, undo := undo
        fade := some ⟨r.bank, r.bank, s.nextTxK, n, old, r.coef⟩ }).putb (F.DPD_P_STAT_FADE p) true

/-! ## ORX slices (R183) -/

/-- The record of ORX ADC `q` (0 I, 1 Q) of ORX `k`. -/
def State.orxAdc (s : State) (k q : Nat) : OrxAdc := (sparseFind s.dpd.orx (2 * k + q)).getD {}

/-- The record of an ORX ADC set. -/
def State.setOrxAdc (s : State) (k q : Nat) (a : OrxAdc) : State :=
  { s with dpd := { s.dpd with orx := sparsePut (fun _ => ({} : OrxAdc)) s.dpd.orx (2 * k + q) a } }

/-- ORXk_STAT fields of an ADC. -/
def fORXRET (k q : Nat) : Field := if q = 0 then F.DPD_ORX_STAT_RET_I k else F.DPD_ORX_STAT_RET_Q k
def fORXNOSPARE (k q : Nat) : Field := if q = 0 then F.DPD_ORX_STAT_NOSPARE_I k else F.DPD_ORX_STAT_NOSPARE_Q k

/-- A slice of an ORX ADC fails: retired for the spare, or the ORX is DEGRADED and its paths move to its partner where that
is present and not degraded (R183). -/
def State.orxFail (s : State) (k q sl : Nat) : State :=
  let a := s.orxAdc k q
  if bitAt a.retired sl then s
  else
    match a.spare with
    | none =>
      if s.orxBad k then s
      else
        let o := if k % 2 = 0 then k + 1 else k - 1
        let t := s.putb (F.DPD_ORX_STAT_DEGRADED k) true
        let u := if t.hasQuad o && !t.orxBad o then t.putb (F.DPD_ORX_STAT_MOVED k) true else t
        ((u.putb (F.DPD_ORX_STAT_MOVED o) false).raise 0x080A k).regrade 1
    | some sp =>
      let order := if sl = sp then a.order else a.order.filter (· ≠ sl) ++ [sp]
      let t := (s.setOrxAdc k q { a with order := order, spare := none, retired := setBitAt a.retired sl true }).inc (fORXRET k q)
      (((t.putb (fORXNOSPARE k q) true).raise 0x0802 (k + 256 * q + 65536 * sl)).raise 0x0803 (k + 256 * q)).regrade 1

/-- The 2 ms exchange of an ORX ADC. -/
def State.orxExchange (s : State) (k q sl : Nat) (trimLimit residual : Bool) : State :=
  let a := s.orxAdc k q
  let n := if residual then nth 0 a.resid sl + 1 else 0
  let t := s.setOrxAdc k q { a with resid := setNth a.resid sl n }
  if trimLimit || decide (3 ≤ n) then t.orxFail k q sl
  else
    let b := t.orxAdc k q
    match b.spare, b.order with
    | some sp, o :: os => t.setOrxAdc k q { b with order := os ++ [sp], spare := some o }
    | _, _ => t

/-! ## Writes -/

/-- A basis word keeps within its ranges: K 1 to 9, L -7 to 7, 0 ≤ M + L ≤ 7 (R175). -/
def termOk (w : Nat) : Bool :=
  let k := bitsAt w 8 4
  let m : Int := ((bitsAt w 4 3 : Nat) : Int)
  let l := toSigned 4 (bitsAt w 0 4)
  decide (1 ≤ k ∧ k ≤ 9 ∧ -7 ≤ l ∧ 0 ≤ m + l ∧ m + l ≤ 7)

/-- A refused basis write (R175). -/
def State.dpdReject (s : State) : State := s.raiseMs 0x0809 0 0

/-- A write of ADAPT_EN: 0 then 1 clears FROZEN (R192). -/
def State.adaptEnWrite (s : State) (p : Nat) (old new : Bool) : State :=
  if !old && new && s.flag (F.DPD_P_STAT_FROZEN p) then
    (s.putb (F.DPD_P_STAT_FROZEN p) false).put (F.DPD_P_STAT_REVERTS p) 0
  else s

/-! ## Raise and lower (R196) -/

/-- The window words of a byte table that belong to the DPD banks. -/
def isDpdByte (a : Nat) : Bool := 0x2800000 ≤ a && a < 0x2820000

/-- DPD is lowered: the banks, EMPTY, FROZEN, NOFB and the delays go to the store; undo copies and queued requests are lost. -/
def State.dpdLower (s : State) : State :=
  let stat := s.paths.map (fun p => (p, s.get (F.DPD_P_STAT_EMPTY p)
    + 256 * s.get (F.DPD_P_STAT_NOFB p) + 512 * s.get (F.DPD_P_STAT_FROZEN p)))
  let dly := s.paths.map (fun p => (p, (s.word (0x8100C + 0x20 * p)).toNat))
  let fin := s.each s.paths (fun t p => match (t.dpdPath p).fade with
    | some f => if f.old.isEmpty then t else t.setDpdBank p f.dst f.new
    | none => t)
  State.clearRange { fin with dpd := { fin.dpd with
    paths := [], requests := [], lastPath := [], lastSlot := [], nofbSlot := []
    store := sparseKeep isDpdByte fin.mem, storeStat := stat, storeDly := dly } } 0x2800000 0x2820000

/-- DPD is raised: the banks come from the store; each path starts on the bank of the TX berth in force, with no fade. -/
def State.dpdRaise (s : State) : State :=
  let t := s.dpd.store.foldl (fun u e => u.setByte e.1 e.2) s
  let u := s.dpd.storeStat.foldl (fun v e =>
    ((v.put (F.DPD_P_STAT_EMPTY e.1) (e.2 % 256)).put (F.DPD_P_STAT_NOFB e.1) (e.2 / 256 % 2)).put
      (F.DPD_P_STAT_FROZEN e.1) (e.2 / 512 % 2)) t
  let v := s.dpd.storeDly.foldl (fun w e => w.setWord (0x8100C + 0x20 * (e.1 % 64)) (BitVec.ofNat 32 e.2)) u
  let c := v.get (F.BERTH_TX_DESC_CLASS (v.get F.BERTH_NOW_TX))
  v.each v.paths (fun w p => w.put (F.DPD_P_STAT_ACTIVE p) c)

/-- The store takes the DPDSEED sections: words, EMPTY cleared for the banks they write, delays, FROZEN and NOFB cleared
(R196). -/
def State.dpdSeed (s : State) : State :=
  let words := s.boot.store.seeds.flatMap Config.seedBody
  let bytes := words.foldl (fun (m : List Host.Cell) w =>
    if isDpdByte w.1 then
      (leBytes 4 (w.2 % 2 ^ 24)).zipIdx.foldl (fun m b => sparsePut (fun _ => 0) m (w.1 + b.2) b.1) m
    else m) []
  let empty (p : Nat) : Nat := 255 - maskOf ((List.range 8).filter (fun b =>
    words.any (fun w => isDpdByte w.1 && (w.1 - 0x2800000) / 0x100 == 8 * p + b)))
  { s with dpd := { s.dpd with
      store := bytes
      storeStat := s.paths.map (fun p => (p, empty p))
      storeDly := [] } }

end Sys2Proof.Machine
end

