-- ==== Sys2Proof/Machine/Berth.lean ====
section
/-! DEFINITION. Berths: weights, effective masks, thinning, the schedule, alignment writes, berth calibration
(11_berths_and_beam_schedule.md R222 to R240; 14_cascade_ring.md R293). Directions: 0 TX, 1 RX. -/

namespace Sys2Proof.Machine

/-! ## Registers and tables of a direction -/

/-- The window address of weight w(a, l) (R222). -/
def berthAddr (dir b a l : Nat) : Nat := 0x2000000 + 0x400000 * dir + 0x2000 * b + 0x80 * a + 4 * l

/-- Descriptor fields (R223). -/
def fCLASS (dir b : Nat) : Field := if dir = 0 then F.BERTH_TX_DESC_CLASS b else F.BERTH_RX_DESC_CLASS b
def fSECTORS (dir b : Nat) : Field := if dir = 0 then F.BERTH_TX_DESC_SECTORS b else F.BERTH_RX_DESC_SECTORS b
def fMASKLO (dir b : Nat) : Field := if dir = 0 then F.BERTH_TX_MASK_LO_MASK b else F.BERTH_RX_MASK_LO_MASK b
def fMASKHI (dir b : Nat) : Field := if dir = 0 then F.BERTH_TX_MASK_HI_MASK b else F.BERTH_RX_MASK_HI_MASK b
def fNOW (dir : Nat) : Field := if dir = 0 then F.BERTH_NOW_TX else F.BERTH_NOW_RX
def fEFF0 (dir : Nat) : Field := if dir = 0 then F.BERTH_EFF_TX0_PATHS else F.BERTH_EFF_RX0_PATHS
def fEFF1 (dir : Nat) : Field := if dir = 0 then F.BERTH_EFF_TX1_PATHS else F.BERTH_EFF_RX1_PATHS
def fQUEUED (dir : Nat) : Field := if dir = 0 then F.BERTH_SCHED_STAT_TX_QUEUED else F.BERTH_SCHED_STAT_RX_QUEUED
def fALIGN (dir p : Nat) : Field := if dir = 0 then F.BERTH_P_ALIGN_TX_ALIGN p else F.BERTH_P_ALIGN_RX_ALIGN p
def fPCALRE (dir p : Nat) : Field := if dir = 0 then F.BERTH_P_PCAL_TX_RE p else F.BERTH_P_PCAL_RX_RE p
def fPCALIM (dir p : Nat) : Field := if dir = 0 then F.BERTH_P_PCAL_TX_IM p else F.BERTH_P_PCAL_RX_IM p
def fXALIGN (dir : Nat) : Field := if dir = 0 then F.RING_XALIGN_TX_XALIGN else F.RING_XALIGN_RX_XALIGN
def fXPCALRE (dir : Nat) : Field := if dir = 0 then F.RING_XPCAL_TX_RE else F.RING_XPCAL_RX_RE
def fXPCALIM (dir : Nat) : Field := if dir = 0 then F.RING_XPCAL_TX_IM else F.RING_XPCAL_RX_IM

/-- The berths in force of a direction, newest first. -/
def State.force (s : State) (dir : Nat) : List InForce := if dir = 0 then s.berth.forceTx else s.berth.forceRx

/-- The berths in force of a direction replaced. -/
def State.setForce (s : State) (dir : Nat) (l : List InForce) : State :=
  { s with berth := if dir = 0 then { s.berth with forceTx := l } else { s.berth with forceRx := l } }

/-- The schedule queue of a direction. -/
def State.schedQ (s : State) (dir : Nat) : List SchedEntry := if dir = 0 then s.berth.queueTx else s.berth.queueRx

/-- The schedule queue of a direction replaced; SCHED_STAT shows its depth. -/
def State.setSchedQ (s : State) (dir : Nat) (l : List SchedEntry) : State :=
  State.put { s with berth := if dir = 0 then { s.berth with queueTx := l } else { s.berth with queueRx := l } } (fQUEUED dir)
    l.length

/-- The combined mask that berths are taken with now. -/
def State.comb (s : State) (dir : Nat) : Nat := if dir = 0 then s.berth.combTx else s.berth.combRx

/-- The combined mask set. -/
def State.setComb (s : State) (dir m : Nat) : State :=
  { s with berth := if dir = 0 then { s.berth with combTx := m } else { s.berth with combRx := m } }

/-- The instant at which a changed mask applies at the latest. -/
def State.maskAt (s : State) (dir : Nat) : Option Nat := if dir = 0 then s.berth.maskAtTx else s.berth.maskAtRx

/-- That instant set. -/
def State.setMaskAt (s : State) (dir : Nat) (t : Option Nat) : State :=
  { s with berth := if dir = 0 then { s.berth with maskAtTx := t } else { s.berth with maskAtRx := t } }

/-! ## Effective masks and scales (R228, R229) -/

/-- The paths of a mask of quads. -/
def quadPaths (quads : Nat) : Nat := maskOf ((bitList 8 quads).flatMap quadOuts)

/-- The device is a member of a ring and waits for its first ring sync (14_cascade_ring.md R294). -/
def State.unsynced (s : State) : Bool :=
  s.ringSize != 0 && s.boot.chipId != 0 && bitAt (s.get F.RING_STAT_MEMBERS) s.boot.chipId
    && !s.flag F.RING_STAT_SYNCED

/-- Present, not retired and, for TX, not thinned: what BERTH.EFF shows. -/
def State.effShown (s : State) (dir : Nat) : Nat :=
  let m := maskDiff s.pathMask (if dir = 0 then s.mask64 F.TXA_RETIRE0_PATHS F.TXA_RETIRE1_PATHS
    else s.mask64 F.RXA_RETIRE0_PATHS F.RXA_RETIRE1_PATHS)
  if dir = 0 then maskDiff m (quadPaths (maskOr s.fend.thinned s.tx.thinRel)) else m

/-- The combined mask to come: empty on a member that waits for its first ring sync. -/
def State.combNext (s : State) (dir : Nat) : Nat := if s.unsynced then 0 else s.effShown dir

/-- The present paths of a berth's MASK, and those of them that are effective under `comb`. -/
def State.berthCounts (s : State) (mask comb : Nat) : Nat × Nat :=
  let here := maskAnd mask s.pathMask
  (popcount 64 here, popcount 64 (maskAnd here comb))

/-- What the other devices of the panel add to n_b and m_b of a berth: a lost member keeps n_b, its m_b counts 0 (R293). -/
def State.panelCounts (s : State) (dir b : Nat) : Nat × Nat :=
  if s.flag F.RING_STAT_FORMED || s.ringSize != 0 && s.get F.RING_STAT_MEMBERS != 0 then
    (List.range 4).foldl (fun (acc : Nat × Nat) d =>
      if d = s.boot.chipId then acc
      else match sparseFind s.ring.sums (d * 1024 + 512 * dir + b) with
        | none => acc
        | some v => (acc.1 + v % 256, acc.2 + (if bitAt (s.get F.RING_STAT_MEMBERS) d then v / 256 else 0))) (0, 0)
  else (0, 0)

/-- √(n / m) rounded half up to Q2.14, at most 2.0; 1 with RENORM = 0 or m = n (R229). -/
def State.scaleOf (s : State) (n m : Nat) : Nat :=
  if s.flag F.BERTH_CTL_RENORM = false ∨ m = n ∨ m = 0 then 16384
  else
    let r := (isqrt (1073741824 * n / m) + 1) / 2
    if 32768 < r then 32768 else r

/-- A cached berth taken into force at an instant with the combined mask and scale of now. -/
def State.inForce (s : State) (dir t : Nat) (c : Cached) : InForce :=
  let comb := s.comb dir
  let (n, m) := s.berthCounts c.mask comb
  let (pn, pm) := s.panelCounts dir c.num
  ⟨t, c, if m + pm = 0 then 0 else maskAnd c.mask comb, s.scaleOf (n + pn) (m + pm)⟩

/-- The berth in force for a sample stamped `t`. -/
def inForceAt : List InForce → Nat → InForce
  | [], _ => {}
  | [f], _ => f
  | f :: fs, t => if f.since ≤ t then f else inForceAt fs t

/-- A weight as the cache delivers it, and the number of its saturated parts (R224). -/
def InForce.weight (f : InForce) (a l : Nat) : Cx × Nat :=
  if bitAt f.eff a then
    let w := leNat ((List.range 4).map (fun i => sparseGet (fun _ => (0 : BitVec 8)) f.berth.cells (0x80 * a + 4 * l + i)))
    let v := cxRnd 14 (cxScale (f.scale : Int) ⟨toSigned 16 w, toSigned 16 (w / 65536)⟩)
    let u := cxSatSym 16 v
    (u, b2n (decide (u.re ≠ v.re)) + b2n (decide (u.im ≠ v.im)))
  else (cx0, 0)

/-- Saturated weight parts counted, RENORM_SAT at most once per 1 ms (R224). -/
def State.renormSat (s : State) (k : Nat) : State :=
  if k = 0 then s else (s.add F.BERTH_SAT_CNT_COUNT k).raiseMs 0x0A09 0 0

/-- A berth copied from its table and descriptor (R233). -/
def State.berthCopy (s : State) (dir b : Nat) : Cached :=
  let base := berthAddr dir b 0 0
  { num := b
    cls := s.get (fCLASS dir b)
    sectors := s.get (fSECTORS dir b)
    mask := s.get (fMASKLO dir b) + 2 ^ 32 * s.get (fMASKHI dir b)
    cells := (sparseKeep (fun a => decide (base ≤ a ∧ a < base + 0x2000)) s.mem).map (fun e => (e.1 - base, e.2)) }

/-- A change of the berth in force of a direction at instant `t`. -/
def State.forceFrom (s : State) (dir t : Nat) (c : Cached) : State :=
  let f := s.inForce dir t c
  (s.setForce dir ((f :: s.force dir).take 10)).put (fNOW dir) c.num

/-- Berth 0 of both directions in force, as after boot (R236). -/
def State.berthBoot (s : State) : State :=
  s.each [0, 1] (fun t dir =>
    let u := t.setComb dir (t.combNext dir)
    (u.setForce dir [u.inForce dir u.tide.now (u.berthCopy dir 0)]).put (fNOW dir) 0)

/-! ## When a changed mask applies (R228) -/

/-- The first block boundary of a direction at or after instant `t`: blocks of 8 samples at the layer rate from the chain
start; `t` itself where no chain runs. -/
def State.boundary (s : State) (dir t : Nat) : Nat :=
  let (run, start, period) := if dir = 0 then (s.txRun, s.tx.startK, 2 ^ s.gStages * one32)
    else (s.rxRunning, s.rx.startK, s.rxPeriod)
  if run then
    let b := 8 * period
    let pos := gridFrom t * one32 - start * one32
    let p := start * one32 + (pos + b - 1) / b * b
    gridAt ((p + one32 - 1) / one32)
  else t

/-- The panel sums that this device sends (R293). -/
def State.panelReport (s : State) : List Nat :=
  (List.range 1024).map (fun i =>
    let dir := i / 512
    let (n, m) := s.berthCounts (s.get (fMASKLO dir (i % 512)) + 2 ^ 32 * s.get (fMASKHI dir (i % 512))) (s.combNext dir)
    n + 256 * m)

/-- In a ring, the local sums go to every other device (R293). -/
def State.sendSums (s : State) : State :=
  if s.ringSize = 0 ∨ s.get F.RING_STAT_MEMBERS = 0 then s else s.emit (.ring 15 3 s.panelReport)

/-- EFF follows its masks; a change waits for a switch or for the first boundary 100 µs later (R228). -/
def State.maskCheckDir (s : State) (dir : Nat) : State :=
  let m := s.effShown dir
  let t := (s.put (fEFF0 dir) (m % 2 ^ 32)).put (fEFF1 dir) (m / 2 ^ 32)
  let wait := t.combNext dir ≠ t.comb dir ∨ (dir = 0 ∧ maskDiff t.fend.thinned t.tx.thinRel ≠ 0)
  if wait then
    if t.maskAt dir = none then (t.setMaskAt dir (some (t.boundary dir (t.tide.now + usU 100)))).sendSums else t
  else t.setMaskAt dir none

/-- Both directions. -/
def State.maskCheck (s : State) : State := (s.maskCheckDir 0).maskCheckDir 1

/-- Newly thinned quads leave release and their PA turns off; those ON or in RAMP_UP are remembered (R230, R341). -/
def State.thinOut (s : State) : State :=
  let new := maskDiff s.fend.thinned s.tx.thinRel
  let on := maskAnd new s.quadsOn
  let t : State := { s with
    fend := { s.fend with thinOn := maskOr (maskDiff s.fend.thinOn new) on }
    tx := { s.tx with thinRel := maskOr s.tx.thinRel new } }
  t.syncTx.each (bitList 8 new) (fun u q => u.paOff q)

/-- The mask of now is taken, with MASK_CHANGED where it changes, and thinning goes on (R228, R230). -/
def State.maskTake (s : State) (dir : Nat) : State :=
  let new := s.combNext dir
  let t := (s.setMaskAt dir none)
  let u := if new = t.comb dir then t else (t.setComb dir new).raise 0x0A03 dir
  if dir = 0 then u.thinOut else u

/-- The panel sums that have come from every other device are applied (R293). -/
def State.sumsTake (s : State) : State :=
  match s.ring.sumsAt with
  | none => s
  | some _ => { s with ring := { s.ring with sums := s.ring.sumsNext, sumsAt := none, sumsGot := 0 } }

/-- The berth in force of a direction goes on with the mask, scale and sums of now from instant `t`. -/
def State.reforce (s : State) (dir t : Nat) : State :=
  match s.force dir with
  | [] => s
  | f :: _ => s.forceFrom dir t f.berth

/-- A changed mask applies at its block boundary, without a switch (R228). -/
def State.maskApply (s : State) (dir : Nat) : State :=
  match s.maskAt dir with
  | none => s
  | some a =>
    let t := s.reachAbs a
    (t.maskTake dir).reforce dir a

/-- The berth, mask and scale that hold for a sample stamped `t` of a direction: what is in force then, or what the schedule and
the mask change to come will bring in force by then (R228, R234). -/
def State.berthAt (s : State) (dir t : Nat) : InForce :=
  let due := (s.schedQ dir).filter (fun e => decide (s.absOf e.at_ ≤ t))
  let next : State := if s.maskAt dir = none then s else s.setComb dir (s.combNext dir)
  match due.getLast? with
  | some e => next.sumsTake.inForce dir (s.absOf e.at_) (match e.copy with | some c => c | none => s.berthCopy dir e.num)
  | none =>
    match s.maskAt dir, s.force dir with
    | some a, f :: _ => if a ≤ t then next.inForce dir a f.berth else inForceAt (s.force dir) t
    | _, l => inForceAt l t

/-! ## Thinning (R230) -/

/-- The quads that levels 2 and 3 thin: Q1 and Q2, an absent one replaced by the highest present quad not named. -/
def State.thinQuads (s : State) : List Nat :=
  let q1 := s.get F.BERTH_THIN_Q1
  let q2 := s.get F.BERTH_THIN_Q2
  let free (l : List Nat) : Nat := maxOf 0 ((s.quads.filter (fun q => !l.contains q)).map (fun q => q + 1))
  let r1 := if s.hasQuad q1 then q1 else free [q1, q2] - 1
  let r2 := if s.hasQuad q2 then q2 else free [q1, q2, r1] - 1
  [r1, r2]

/-- Lifted quads whose PA is ON again, or does not come on, return to release; only then the mask is restored (R230). -/
def State.thinSettle (s : State) : State :=
  let ready := maskOf ((bitList 8 s.berth.lifting).filter (fun q => s.paState q = paON || s.paState q = paOFF))
  if ready = 0 then s
  else
    let t : State := { s with
      berth := { s.berth with lifting := maskDiff s.berth.lifting ready }
      tx := { s.tx with thinRel := maskDiff s.tx.thinRel ready } }
    t.syncTx.maskCheck

/-- Quads cease to be thinned: the on sequence runs first for those that were ON (R230, R341). -/
def State.thinLift (s : State) (quads : Nat) : State :=
  let out := maskAnd quads s.tx.thinRel
  let on := maskAnd out s.fend.thinOn
  let t : State := { s with
    fend := { s.fend with thinned := maskDiff s.fend.thinned quads, thinOn := maskDiff s.fend.thinOn quads }
    berth := { s.berth with lifting := maskOr s.berth.lifting out } }
  ((t.each (bitList 8 on) (fun u q => if u.paRefuses q then u else u.paStartOn q)).thinSettle).maskCheck

/-- The thinning that a throttle level asks for, in Run only (R230; 21_thermal.md R427). -/
def State.thinLevel (s : State) (level : Nat) : State :=
  let n := if s.inRun then (if level ≤ 1 then 0 else if level = 2 then 1 else 2) else 0
  let old := s.get F.BERTH_THIN_LEVEL
  let want := maskOf (s.thinQuads.take n)
  let t := s.put F.BERTH_THIN_LEVEL n
  let u := (List.range 2).foldl (fun v i => if old ≤ i ∧ i < n then v.raise 0x0A04 (i + 1) else v) t
  let w := [1, 0].foldl (fun v i => if n ≤ i ∧ i < old then v.raise 0x0A05 i else v) u
  let rem := maskDiff w.fend.thinned want
  let add := maskDiff want w.fend.thinned
  let x := if rem = 0 then w else w.thinLift rem
  if add = 0 then x
  else State.maskCheck { x with
    fend := { x.fend with thinned := maskOr x.fend.thinned add }
    berth := { x.berth with lifting := maskDiff x.berth.lifting add } }

/-! ## The schedule (R231 to R236) -/

/-- Results of SCHED_STAT. -/
def schOK : Nat := 0
def schLATE : Nat := 1
def schFAR : Nat := 2
def schFULL : Nat := 3
def schCROWDED : Nat := 4
def schNOTFOUND : Nat := 5
def schSTATE : Nat := 6

/-- An entry placed in stamp order; one with the same instant is replaced. -/
def placeSched (e : SchedEntry) : List SchedEntry → List SchedEntry
  | [] => [e]
  | x :: xs =>
    if x.at_ = e.at_ then e :: xs
    else if before e.at_ x.at_ then e :: x :: xs
    else x :: placeSched e xs

/-- Nine entries of a queue in stamp order fall within a span of 12 µs (R231). -/
def crowded : List SchedEntry → Bool
  | [] => false
  | x :: xs => (match xs[7]? with
      | some y => decide (stampDiff y.at_ x.at_ < (usU 12 : Int))
      | none => false) || crowded xs

/-- The check of an ADD (R231). -/
def State.schedCheck (s : State) (dir : Nat) (at_ : Stamp) (b : Nat) : Nat :=
  let q := s.schedQ dir
  let d := stampDiff at_ s.stamp
  let same := q.any (fun e => e.at_ == at_)
  if d < (usU 12 : Int) then schLATE
  else if (sU 2 : Int) < d then schFAR
  else if same = false ∧ 64 ≤ q.length then schFULL
  else if same = false ∧ crowded (placeSched ⟨at_, b, none⟩ q) = true then schCROWDED
  else if s.inRun = false then schSTATE
  else schOK

/-- A refusal is counted and reported (R231). -/
def State.schedRefuse (s : State) : State := (s.inc F.BERTH_REF_CNT_COUNT).raiseMs 0x0A01 0 0

/-- An entry added under the checks of R231: the result and the state. -/
def State.schedAdd (s : State) (dir : Nat) (at_ : Stamp) (b : Nat) : Nat × State :=
  let r := s.schedCheck dir at_ b
  if r = schOK then (r, s.setSchedQ dir (placeSched ⟨at_, b, none⟩ (s.schedQ dir))) else (r, s.schedRefuse)

/-- CANCEL (R232). -/
def State.schedCancel (s : State) (dir : Nat) (at_ : Stamp) : Nat × State :=
  let q := s.schedQ dir
  match q.find? (fun e => e.at_ == at_) with
  | none => (schNOTFOUND, s)
  | some e =>
    if e.copy.isSome then (schLATE, s)
    else (schOK, s.setSchedQ dir (q.filter (fun x => x.at_ != at_)))

/-- FLUSH (R232). -/
def State.schedFlush (s : State) (dir : Nat) : State :=
  s.setSchedQ dir ((s.schedQ dir).filter (fun e => e.copy.isSome))

/-- On a member of a formed ring SCHED_CMD is refused (R293). -/
def State.schedLocked (s : State) : Bool := s.flag F.RING_STAT_FORMED && s.boot.chipId != 0

/-- The first entry not yet staged is copied into the weight cache, 12 µs before its instant (R233). -/
def State.stage (s : State) (dir : Nat) : State :=
  let q := s.schedQ dir
  match q.find? (fun e => e.copy.isNone) with
  | none => s
  | some e =>
    let t := s.reach (stampSub e.at_ (usU 12))
    t.setSchedQ dir (q.map (fun x => if x.at_ = e.at_ then { x with copy := some (t.berthCopy dir e.num) } else x))

/-- The entry at the head of a queue takes effect: mask, sums and scale of the instant, the berth, and for TX the DPD
requests (R234, R235; R180). -/
def State.berthSwitch (s : State) (dir : Nat) : State :=
  match s.schedQ dir with
  | [] => s
  | e :: rest =>
    let t := s.reach e.at_
    let c := match e.copy with
      | some c => c
      | none => t.berthCopy dir e.num
    let a := t.absOf e.at_
    let u := ((t.setSchedQ dir rest).sumsTake.maskTake dir).forceFrom dir a c
    if dir = 0 then u.swapRequests u.pathMask c.cls (gridFrom a) else u

/-- Run is left: queues and staged berths are discarded (R236). -/
def State.berthLeaveRun (s : State) : State := (s.setSchedQ 0 []).setSchedQ 1 []

/-! ## Writes of weights, descriptors, ALIGN and PCAL (R226, R235) -/

/-- A word of a weight table is written. -/
def State.berthWindowWrite (s : State) (a v : Nat) : State := s.setMemWord a v

/-- ALIGN or PCAL of a path was written: it applies from the first block at least 2 µs later (R226). -/
def State.alignWritten (s : State) (p dir : Nat) : State :=
  { s with berth := { s.berth with
      alignAt := sparseInsert s.berth.alignAt (2 * p + dir) (s.boundary dir (s.tide.now + usU 2)) } }

/-- The alignment that the registers ask for: ALIGN + XALIGN limited, PCAL × XPCAL rounded half up (R225, R295). -/
def State.alignAsked (s : State) (p dir : Nat) : Aligned :=
  let al := clampInt (-1024) 1024 (s.geti (fALIGN dir p) + s.geti (fXALIGN dir))
  let pc := cxSat 16 (cxRnd 14 (cxMul ⟨s.geti (fPCALRE dir p), s.geti (fPCALIM dir p)⟩
    ⟨s.geti (fXPCALRE dir), s.geti (fXPCALIM dir)⟩))
  ⟨al, pc.re, pc.im⟩

/-- New values take effect on their block; a change of ALIGN above 64 units invalidates or mutes that block (R226). -/
def State.alignApply (s : State) (p dir : Nat) : State :=
  match sparseFind s.berth.alignAt (2 * p + dir) with
  | none => s
  | some a =>
    let t := s.reachAbs a
    let old := t.alignedOf p dir
    let new := t.alignAsked p dir
    let u : State := { t with berth := { t.berth with
      aligned := sparsePut (fun _ => ({} : Aligned)) t.berth.aligned (2 * p + dir) new
      alignAt := sparseErase t.berth.alignAt (2 * p + dir) } }
    if 64 < (new.align - old.align).natAbs then
      if dir = 0 then
        let e := gridAt (gridFrom a + 8 * 2 ^ u.gStages)
        u.addMute ⟨3, a, some e, some p⟩
      else
        let e := gridAt (gridFrom a + (8 * u.rxPeriod + one32 - 1) / one32)
        u.addSpan ⟨a, some e, some p⟩
    else u

/-! ## Berth calibration (R237) -/

/-- The span of berth calibration kinds. -/
def bcalSpan (kind : Nat) : Nat := (if bitAt kind 0 then msU 12 else 0) + (if bitAt kind 1 then msU 12 else 0)

/-- A refused berth calibration. -/
def State.bcalRefuse (s : State) : State := s.raise 0x0A07 0

/-- A request (R237). -/
def State.bcalReq (s : State) (kind : Nat) : State :=
  if kind = 0 ∨ s.flag F.BERTH_CTL_CALIO_EN = false ∨ s.boot.store.applied = false ∨ s.boot.store.manifold = []
      ∨ s.rx.cal ≠ none ∨ s.tx.cal ≠ none ∨ s.berth.cal ≠ none then s.bcalRefuse
  else State.putb { s with berth := { s.berth with cal := some (kind, s.aon + sU 1, none) } } F.BERTH_CAL_STAT_WAIT true

/-- A mask of the present quads. -/
def State.quadMask (s : State) : Nat := maskOf s.quads

/-- The held request starts in a gap that covers every present quad: transmit samples are muted, receive samples
invalid. -/
def State.bcalStart (s : State) : State :=
  match s.berth.cal with
  | some (kind, w, none) =>
    if s.gapCovers s.quadMask (bcalSpan kind) then
      let e := s.tide.now + bcalSpan kind
      let t : State := { s with berth := { s.berth with cal := some (kind, w, some e) } }
      let u := (t.putb F.BERTH_CAL_STAT_WAIT false).putb F.BERTH_CAL_STAT_BUSY true
      (u.addMute ⟨3, u.tide.now, some e, none⟩).addSpan ⟨u.tide.now, some e, none⟩
    else s
  | _ => s

/-- The held request finds no gap within 1 s. -/
def State.bcalTimeout (s : State) : State :=
  match s.berth.cal with
  | some (_, w, none) =>
    let t := s.elapseTo w
    (State.putb { t with berth := { t.berth with cal := none } } F.BERTH_CAL_STAT_WAIT false).bcalRefuse
  | _ => s

/-- A path takes the measured ALIGN (within ±4 ns) and PCAL of a direction, under draw `n`. -/
def State.bcalStore (s : State) (n dir p : Nat) : State :=
  let v (i : Nat) : Nat := Config.measured n (256 * i + 2 * p + dir)
  (((s.puti (fALIGN dir p) ((v 0 % 2049 : Nat) - 1024 : Int)).put (fPCALRE dir p) (v 1 % 65536)).put (fPCALIM dir p)
    (v 2 % 65536)).alignWritten p dir

/-- The calibration completes: ALIGN and PCAL of every present path not retired and not in `fail` (R237). -/
def State.bcalDone (s : State) (fail : Nat) : State :=
  match s.berth.cal with
  | some (kind, _, some e) =>
    let t := s.reachAbs e
    let (n, u) := t.draw
    let dirs := bitList 2 kind
    let live (dir : Nat) : List Nat := u.paths.filter (fun p => if dir = 0 then !u.txRetired p else !u.rxRetired p)
    let v := u.each dirs (fun x dir => x.each ((live dir).filter (fun p => !bitAt fail p)) (fun y p => y.bcalStore n dir p))
    let bad := maskOf ((dirs.flatMap live).filter (fun p => bitAt fail p))
    let w := (State.putb { v with berth := { v.berth with cal := none } } F.BERTH_CAL_STAT_BUSY false).put
      F.BERTH_CAL_STAT_FAIL (failBits 0 255 bad)
    let x := w.raise 0x0A06 0
    if bad = 0 then x else x.raise 0x0A08 0
  | _ => s

/-! ## The transmit alignment stage (R225) -/

/-- A sample of the Quay output enters the alignment stage of path `p`; the sample eight older enters the DUC. -/
def State.txAlignPush (s : State) (p : Nat) (v : Cx) : State :=
  let x := s.txPath p
  let mem := (v :: x.align).take 20
  let t := s.setTxPath p { x with align := mem }
  match mem[8]? with
  | none => t
  | some _ =>
    let (y, sat) := alignValue (t.alignedOf p 0) (2 ^ t.gStages * one32) mem
    (if sat = 0 then t else t.add F.BERTH_SAT_CNT_COUNT sat).txPush p y

end Sys2Proof.Machine
end

