-- ==== Sys2Proof/Machine/Lookout.lean ====
section
/-! DEFINITION. Lookout and the coexistence wires (16_lookout_and_coexistence.md R317 to R335). What the sensing front measures
(powers, detections, decoded symbols) comes as operands. -/

namespace Sys2Proof.Machine

/-! ## Sensing (R317 to R320) -/

/-- Lookout has an input: receive chains at 491.52 Msps, EN = 1, the device in Run. -/
def State.lookInput (s : State) : Bool :=
  s.hasLookout && s.up domLOOK && s.inRun && s.flag F.LOOK_CTL_EN && s.flag F.RXD_STAT_RUNNING
    && s.get F.RXD_CFG_DEC == 0 && !s.flag F.RXD_CFG_RS_EN && !s.flag F.RXD_CFG_SETTLE

/-- The distance of subchannel `c` from the centre of subband `k`, in 10 kHz. -/
def State.schDist (s : State) (c k : Nat) : Nat := (s.geti (F.LOOK_SCH_FREQ c) - s.geti (F.LOOK_SB_FREQ k)).natAbs

/-- Subchannel `c` fits its nearest subband: within 40 MHz of its centre (R318). -/
def State.schFits (s : State) (c : Nat) : Bool :=
  decide (minOf (s.schDist c 0) ((List.range 4).map (s.schDist c)) ≤ 4000)

/-- Subchannel `c` is sensed. -/
def State.schOn (s : State) (c : Nat) : Bool := decide (c < 20) && s.flag (F.LOOK_SCH_EN c) && s.schFits c

/-- Beam `b` is on: some coefficient of it is not 0 (R319). -/
def State.beamOn (s : State) (b : Nat) : Bool :=
  decide (b < 16) && (List.range 64).any (fun a => s.word (0xF4000 + 0x100 * b + 4 * a) != 0)

/-- What Lookout keeps of a beam and subchannel. -/
def State.lookKey (s : State) (b c : Nat) : LookKey := (sparseFind s.look.keys (20 * b + c)).getD {}

/-- It replaced. -/
def State.setLookKey (s : State) (b c : Nat) (x : LookKey) : State :=
  { s with look := { s.look with keys := sparseInsert s.look.keys (20 * b + c) x } }

/-- Sensing follows its conditions: an entry starts with an empty map and no sensed time; an exit raises LOOK_NOINPUT while the
LOOK domain is up (R317, R334). -/
def State.lookSync (s : State) : State :=
  if s.hasLookout && s.up domLOOK then
    let on := s.lookInput
    let t := (((s.putb F.LOOK_STAT_RUNNING on).putb F.LOOK_STAT_NOINPUT (!on)).put F.LOOK_STAT_SCH_BAD
      (maskOf ((List.range 20).filter (fun c => !s.schFits c)))).put F.LOOK_BEAM_STAT_OFF
        (maskOf ((List.range 16).filter (fun b => !s.beamOn b)))
    if on = s.look.on then t
    else
      let u : State := { t with look := { t.look with
        on := on, keys := [], since := t.tide.now, bin := t.tide.now / nsU 4000 * nsU 4000 } }
      if on then u else u.raise 0x0F01 0
  else { s with look := { s.look with on := false, keys := [] } }

/-- The LOOK domain comes up: without input, that is an entry into the condition (R317). -/
def State.lookRaise (s : State) : State := if s.lookInput then s else s.raise 0x0F01 0

/-! ## Energy detector (R321, R322) -/

/-- A watcher of a pair. -/
def LookKey.watcher (x : LookKey) (w : Nat) : Watcher := if w = 0 then x.w0 else x.w1

/-- It replaced. -/
def LookKey.setWatcher (x : LookKey) (w : Nat) (v : Watcher) : LookKey := if w = 0 then { x with w0 := v } else { x with w1 := v }

/-- The open span of a watcher's reception closes at `t`. -/
def LookKey.close (x : LookKey) (w t : Nat) : LookKey :=
  { x with busy := x.busy.map (fun e => if e.2.1 = none ∧ e.2.2 = w then (e.1, some t, w) else e) }

/-- The watcher returns to SEARCH at instant `t`. -/
def LookKey.search (x : LookKey) (w t : Nat) : LookKey :=
  (x.close w t).setWatcher w { (x.watcher w) with state := 0 }

/-- A reception closes as FALSE_DET (R324, R325). -/
def State.falseDet (s : State) (b c w t : Nat) : State :=
  (s.setLookKey b c ((s.lookKey b c).search w t)).inc (F.LOOK_CNT_COUNT 2)

/-- A measured bin of a beam and subchannel: sensed samples of 80, mean power in 0.01 dBm, OVR, and the last blind sample. -/
structure BinResult where
  beam : Nat
  sch : Nat
  sensed : Nat
  power : Int
  ovr : Bool
  blind : Nat
  deriving DecidableEq, Repr

/-- A bin that ends at `e` is entered; receptions that met a blind sample close. -/
def State.binTake (s : State) (e : Nat) (r : BinResult) : State :=
  if s.beamOn r.beam && s.schOn r.sch then
    let x := s.lookKey r.beam r.sch
    let n := if 80 < r.sensed then 80 else r.sensed
    let busy := decide (40 ≤ n) && (r.ovr || decide (100 * s.geti F.LOOK_THR_ED_THR ≤ r.power))
    let y : LookKey := { x with
      bins := if n = 0 then x.bins else ((e, n) :: x.bins).take 2600
      busy := (if busy then [(e - nsU 4000, some e, 2)] else [])
        ++ x.busy.filter (fun v => match v.2.1 with | none => true | some h => decide (e < h + msU 20)) }
    let t := s.setLookKey r.beam r.sch y
    let u := if busy then t.inc (F.LOOK_CNT_COUNT 5) else t
    if n < 80 then
      let at_ := e - nsU 4000 + r.blind * nsU 50
      u.each [0, 1] (fun v w =>
        let k := ((v.lookKey r.beam r.sch).watcher w)
        if k.state ≠ 0 ∧ k.det ≤ at_ then v.falseDet r.beam r.sch w at_ else v)
    else u
  else s

/-- A 4 µs bin ends: beams and subchannels that are not listed were blind. -/
def State.edBin (s : State) (l : List BinResult) : State :=
  if s.look.on = false then s
  else
    let e := s.look.bin + nsU 4000
    let t := s.reachAbs e
    let u : State := { t with look := { t.look with bin := e } }
    u.each l (fun v r => v.binTake e r)

/-! ## Preamble watchers (R323 to R328) -/

/-- CAPTURE_DB in 0.01 dB. -/
def State.capture (s : State) : Int := ((100 * s.get F.LOOK_CTL_CAPTURE_DB : Nat) : Int)

/-- A watcher takes part: sensing, beam on, subchannel sensed. -/
def State.watching (s : State) (b c : Nat) : Bool := s.look.on && s.beamOn b && s.schOn c

/-- A detection of strength `pd` (0.01 dBm) by watcher `w` in SEARCH. -/
def State.stfDetect (s : State) (b c w : Nat) (pd : Int) : State :=
  let x := s.lookKey b c
  let k := x.watcher w
  let o := x.watcher (1 - w)
  let now := s.tide.now
  if s.watching b c = false ∨ k.state ≠ 0 ∨ now < k.deaf ∨ pd < 100 * s.geti F.LOOK_THR_PD_THR then s
  else
    let t := s.inc (F.LOOK_CNT_COUNT 0)
    if o.state = 3 ∧ pd < o.p + s.capture then
      (t.setLookKey b c (x.setWatcher w { k with deaf := now + usU 8 })).inc (F.LOOK_CNT_COUNT 4)
    else
      let (u, y) := if o.state = 3 then (t.inc (F.LOOK_CNT_COUNT 3), x.search (1 - w) now) else (t, x)
      u.setLookKey b c { (y.setWatcher w { k with state := 1, det := now }) with busy := (now, none, w) :: y.busy }

/-- The second of a pair of L-LTF peaks, 3.2 µs after the sync point, within 12 µs of the detection; P in 0.01 dBm. -/
def State.ltfSync (s : State) (b c w : Nat) (p : Int) : State :=
  let x := s.lookKey b c
  let k := x.watcher w
  if s.watching b c = false ∨ k.state ≠ 1 ∨ k.det + usU 12 < s.tide.now then s
  else s.setLookKey b c (x.setWatcher w { k with state := 2, ty := s.tide.now - nsU 3200, p := p })

/-- No pair within 12 µs: FALSE_DET. -/
def State.ltfTimeout (s : State) (b c w : Nat) : State :=
  let k := (s.lookKey b c).watcher w
  if s.watching b c = false ∨ k.state ≠ 1 then s
  else (s.reachAbs (k.det + usU 12)).falseDet b c w (k.det + usU 12)

/-- N_DBPS of a RATE code, first-transmitted bit first; 0 for a code that the table does not list. -/
def rateBits (r : Nat) : Nat :=
  match r with
  | 0xD => 24
  | 0xF => 36
  | 0x5 => 48
  | 0x7 => 72
  | 0x9 => 96
  | 0xB => 144
  | 0x1 => 192
  | 0x3 => 216
  | _ => 0

/-- RATE of an L-SIG symbol whose bit i is its bit number i: bits 0 to 3, the first in [3]. -/
def sigRate (g : Nat) : Nat := 8 * bitsAt g 0 1 + 4 * bitsAt g 1 1 + 2 * bitsAt g 2 1 + bitsAt g 3 1

/-- LENGTH: bits 5 to 16, least significant first. -/
def sigLength (g : Nat) : Nat := bitsAt g 5 12

/-- Acceptance (R325). -/
def sigOk (g : Nat) : Bool :=
  popcount 18 g % 2 == 0 && !bitAt g 4 && bitsAt g 18 6 == 0 && rateBits (sigRate g) != 0 && sigLength g != 0

/-- t_e − t_s in µs (R326). -/
def sigDur (g : Nat) : Nat := let n := rateBits (sigRate g); 20 + 4 * ((22 + 8 * sigLength g + n - 1) / n)

/-- The record of an accepted reception: LAST0 at once, the rest latched by a read of LAST0. -/
def State.lookRecord (s : State) (b c : Nat) (p : Int) (g ts : Nat) : State :=
  let t := ((((s.putb F.LOOK_LAST0_VALID true).putb F.LOOK_LAST0_NEW true).incWrap F.LOOK_LAST0_SEQ).put F.LOOK_LAST0_SCH c).put
    F.LOOK_LAST0_BEAM b
  let u := t.puti F.LOOK_LAST0_RSSI p
  { u with look := { u.look with last1 := sigDur g * 65536 + sigRate g * 4096 + sigLength g, lastAt := stampOf ts } }

/-- A read of LAST0 latches LAST1 and LAST_AT from the same record, and clears NEW. -/
def State.lookLatch (s : State) : State :=
  ((s.setWord 0xF00E4 (BitVec.ofNat 32 s.look.last1)).put64 F.LOOK_LAST_AT_LO_STAMP F.LOOK_LAST_AT_HI_STAMP s.look.lastAt).putb
    F.LOOK_LAST0_NEW false

/-- The L-SIG symbol of a watcher in SIG is decoded. -/
def State.lsigDecode (s : State) (b c w g : Nat) : State :=
  let x0 := s.lookKey b c
  let k := x0.watcher w
  if s.watching b c = false ∨ k.state ≠ 2 then s
  else
    let t := s.reachAbs (k.ty + nsU 10400)
    if sigOk g = false then t.falseDet b c w t.tide.now
    else
      let ts := k.ty - nsU 9600
      let te := ts + usU (sigDur g)
      let x := t.lookKey b c
      let o := x.watcher (1 - w)
      let y := x.setWatcher w { k with state := 3, te := te }
      let z : LookKey := { (y.close w t.tide.now) with busy := (ts, some te, 2) :: (y.close w t.tide.now).busy }
      let u := (t.inc (F.LOOK_CNT_COUNT 1)).lookRecord b c k.p g ts
      if o.state = 3 then
        if o.p + s.capture ≤ k.p then (u.setLookKey b c (z.search (1 - w) t.tide.now)).inc (F.LOOK_CNT_COUNT 3)
        else
          (u.setLookKey b c (z.setWatcher w { k with state := 0, deaf := t.tide.now + usU 8 })).inc (F.LOOK_CNT_COUNT 4)
      else u.setLookKey b c z

/-- An accepted reception reaches its busy end. -/
def State.watcherEnd (s : State) (b c w : Nat) : State :=
  let k := (s.lookKey b c).watcher w
  if s.watching b c = false ∨ k.state ≠ 3 then s
  else
    let t := s.reachAbs k.te
    t.setLookKey b c ((t.lookKey b c).search w k.te)

/-! ## The busy map (R329, R330) -/

/-- An ACT span overlaps [lo, hi). -/
def State.actIn (s : State) (lo hi : Nat) : Bool :=
  s.look.act.any (fun e => decide (e.1 < hi) && (match e.2 with | none => true | some h => decide (lo < h)))

/-- Some instant of [lo, hi) is busy. -/
def LookKey.busyIn (x : LookKey) (lo hi : Nat) : Bool :=
  x.busy.any (fun e => decide (e.1 < hi) && (match e.2.1 with | none => true | some h => decide (lo < h)))

/-- Where the last `w` units of sensed time before `t` begin; none while less has passed. -/
def sensedFrom (t : Nat) : List (Nat × Nat) → Nat → Option Nat
  | _, 0 => some t
  | [], _ + 1 => none
  | (e, n) :: l, w + 1 =>
    if t < e then sensedFrom t l (w + 1)
    else if w + 1 ≤ n * nsU 50 then some (e - nsU 4000)
    else sensedFrom t l (w + 1 - n * nsU 50)

/-- Beam `b` on subchannel `c` is clear over the last `w` units of sensed time before `t`. -/
def State.clearOne (s : State) (b c t w : Nat) : Bool :=
  s.look.on && s.beamOn b && s.schOn c &&
    (match sensedFrom t (s.lookKey b c).bins w with
    | none => false
    | some lo => !(s.lookKey b c).busyIn lo t && !(s.flag F.LOOK_CTL_ACT_BUSY && s.actIn lo t))

/-- clear(B, S, t, W) of R330: beams as a mask, subchannels as a list. -/
def State.lookClear (s : State) (beams : Nat) (schs : List Nat) (t w : Nat) : Bool :=
  s.look.on && (bitList 16 beams).all (fun b => schs.all (fun c => s.clearOne b c t w))

/-- LOOK.BUSYs as a read finds it: NOW, and busy within the last WIN_US of sensed time. -/
def State.busyWord (s : State) (c : Nat) : Nat :=
  let t := s.tide.now
  let w := usU (let n := s.get F.LOOK_CTL_WIN_US; if n = 0 then 1 else n)
  let act (lo : Nat) : Bool := s.flag F.LOOK_CTL_ACT_BUSY && s.actIn lo (t + 1)
  let here (b : Nat) : Bool := s.watching b c
  let now := (List.range 16).filter (fun b => here b && ((s.lookKey b c).busyIn t (t + 1) || act t))
  let win := (List.range 16).filter (fun b => here b &&
    (let lo := (sensedFrom t (s.lookKey b c).bins w).getD s.look.since
     (s.lookKey b c).busyIn lo (t + 1) || act lo))
  maskOf now + 65536 * maskOf win

/-! ## Coexistence wires (R331 to R333) -/

/-- COEX_ACT rises: stamped, counted, and from here on samples are tagged. -/
def State.actRise (s : State) : State :=
  if s.pins.coexAct then s
  else
    let t : State := { s with pins := { s.pins with coexAct := true }
                              look := { s.look with act := ((s.tide.now, none) :: s.look.act).take 16 } }
    ((t.syncCoex.put64 F.FEND_ACT_RISE_LO_STAMP F.FEND_ACT_RISE_HI_STAMP s.stamp).inc F.FEND_ACT_CNT_COUNT)

/-- COEX_ACT falls: stamped; the tag ends HOLD_NS later. -/
def State.actFall (s : State) : State :=
  if s.pins.coexAct then
    let e := s.tide.now + nsU (s.get F.FEND_ACT_CTL_HOLD_NS)
    let t : State := { s with
      pins := { s.pins with coexAct := false }
      look := { s.look with act := s.look.act.map (fun x => (x.1, match x.2 with | none => some e | some h => some h)) } }
    t.syncCoex.put64 F.FEND_ACT_FALL_LO_STAMP F.FEND_ACT_FALL_HI_STAMP s.stamp
  else s

/-- The level of a timed pin once the entries that satisfy `due` have acted. -/
def State.pinAfter (s : State) (pin : Nat) (due : TimedEntry → Bool) : Bool :=
  match ((s.timedQ pin).filter due).getLast? with
  | none => s.pin pin
  | some e => e.level

/-- The OR of the T/R switches of the present quads once such entries have acted. -/
def State.trswOr (s : State) (due : TimedEntry → Bool) : Bool :=
  [0, 1, 2, 3, 4, 5, 6, 7].any (fun q => s.hasQuad q && s.pinAfter (8 + q) due)

/-- A coexistence entry queued by the device, checked like a software entry. -/
def State.coexEntry (s : State) (pin : Nat) (at_ : Stamp) (level : Bool) : State :=
  let (r, t) := s.toAdd pin at_ level
  if r = toOK then t else (t.inc F.TIDE_TO_REF_CNT_COUNT).raiseMs 0x0E08 0 0

/-- An entry for a T/R switch was queued at `at_`: with MODE = 1 the device queues COEX_REQ and COEX_PRI (R331). -/
def State.coexAuto (s : State) (pin : Nat) (at_ : Stamp) : State :=
  if s.flag F.FEND_COEX_CTL_MODE = false ∨ pin < 8 ∨ 16 ≤ pin then s
  else
    let was := s.trswOr (fun e => before e.at_ at_)
    let will := s.trswOr (fun e => atOrAfter at_ e.at_)
    if will && !was then
      let want := stampSub at_ (nsU (10 * s.get F.FEND_COEX_CTL_LEAD))
      let least := stampAdd s.stamp (usU 1)
      let short := before want least
      let go := if short then least else want
      let t := if short then (s.inc F.FEND_COEX_SHORT_COUNT).raiseMs 0x1021 0 0 else s
      (t.coexEntry pinCoexReq go true).coexEntry pinCoexPri go (s.flag F.FEND_COEX_CTL_PRI)
    else if was && !will then
      let off := stampAdd at_ (nsU (10 * s.get F.FEND_COEX_CTL_TAIL))
      (s.coexEntry pinCoexReq off false).coexEntry pinCoexPri off false
    else s

end Sys2Proof.Machine
end

