-- ==== Sys2Proof/Machine/Breakwater.lean ====
section
/-! DEFINITION. Breakwater: the regulatory record, bands, power, duty, burst length and clearance
(17_front_end_control_and_breakwater.md R349 to R357). Levels are in 0.01 dB, rounded down; linear power is in units of
2^-32 mW. -/

namespace Sys2Proof.Machine

/-! ## The record (R349) -/

/-- `n` bytes at offset `o`. -/
def sub (b : List Byte) (o n : Nat) : List Byte := (b.drop o).take n

/-- A little-endian field of a body. -/
def le (b : List Byte) (o n : Nat) : Nat := leNat (sub b o n)

/-- Every byte of a range is 0. -/
def zeros (b : List Byte) (o n : Nat) : Bool := (sub b o n).all (fun x => x == 0)

/-- Band entry `i`. -/
def bandAt (b : List Byte) (i : Nat) : BwBand :=
  let o := 64 + 32 * i
  { fLo := le b o 4, fHi := le b (o + 4) 4, bwMin := le b (o + 8) 2, bwMax := le b (o + 10) 2
    port := toSigned 16 (le b (o + 12) 2), total := toSigned 16 (le b (o + 14) 2)
    tx := bitAt (le b (o + 16) 1) 0, shared := bitAt (le b (o + 16) 1) 1
    duty := le b (o + 17) 1, win := le b (o + 18) 2, wUs := le b (o + 20) 2, cot := le b (o + 22) 2 }

/-- The layout rules of a band entry. -/
def bandOk (b : List Byte) (i : Nat) : Bool :=
  let o := 64 + 32 * i
  let e := bandAt b i
  decide (e.fLo < e.fHi) && decide (le b (o + 16) 1 < 4) && decide (e.duty ≤ 100)
    && (e.duty == 0 || decide (1 ≤ e.win ∧ e.win ≤ 60000)) && (!e.shared || decide (9 ≤ e.wUs ∧ e.wUs ≤ 10000))
    && zeros b (o + 24) 8

/-- Strictly ascending. -/
def rising : List Nat → Bool
  | a :: b :: l => decide (a < b) && rising (b :: l)
  | _ => true

/-- The record that a body spells; none where it breaks a layout rule. -/
def parseRecord (b : List Byte) : Option BwRecord :=
  let n := le b 6 1
  let fo := 64 + 32 * n
  let freqs := (List.range 8).map (fun i => le b (fo + 4 * i) 4)
  let ok := decide (64 ≤ b.length) && decide (le b 0 4 = 0x31525742) && decide (le b 4 2 = 1) && decide (1 ≤ n ∧ n ≤ 16)
    && zeros b 7 1 && decide (le b 12 2 ≤ 30) && decide (5 ≤ le b 14 2 ∧ le b 14 2 ≤ 60) && zeros b 17 15
    && decide (b.length = fo + 32 + 1024) && (List.range n).all (bandOk b) && rising freqs
  if ok then
    some { version := le b 8 4, margin := ((le b 12 2 : Nat) : Int), xchk := ((le b 14 2 : Nat) : Int)
           edMax := toSigned 8 (le b 16 1), bands := (List.range n).map (bandAt b), freqs := freqs
           gains := (List.range 512).map (fun i => toSigned 16 (le b (fo + 32 + 2 * i) 2)) }
  else none

/-- The REGREC body is taken at boot: `bound` says that it passed the burned digest; an unbound record mutes without being
read as BAD. -/
def State.bwLoad (s : State) (body : List Byte) (bound : Bool) : State :=
  let t := s.put F.BWTR_REC_VER_VERSION (if 12 ≤ body.length then le body 8 4 else 0)
  if bound = false then
    State.put { t with bwtr := { t.bwtr with record := none } } F.BWTR_STAT_RECORD 0
  else match parseRecord body with
  | some r => State.put { t with bwtr := { t.bwtr with record := some r } } F.BWTR_STAT_RECORD 1
  | none => (State.put { t with bwtr := { t.bwtr with record := none } } F.BWTR_STAT_RECORD 2).raise 0x1101 0

/-! ## The channel and its band (R350) -/

/-- The LO of a synthesiser in kHz: N × 245.76 MHz ÷ DIV, DIV 2 or 4; 0 while N is 0 (04_clocks_and_synthesisers.md R75). -/
def State.loKhz (s : State) (n : Nat) : Nat :=
  let y := if n = 0 then s.clk.syn0 else s.clk.syn1
  y.n * 245760 / (if y.div = 0 then 2 else 4)

/-- The channel width in MHz. -/
def State.txBw (s : State) : Nat := 400 / 2 ^ s.get F.TXD_CFG_INT

/-- A frequency of the channel, `edge` MHz/2 widths off its centre, in kHz × 2^48: LO + NCO + edge × bw ÷ 2. -/
def State.txEdge (s : State) (edge : Int) : Int :=
  ((s.loKhz s.txSyn : Nat) : Int) * 281474976710656 + s.txFreq * 983040 + edge * ((s.txBw * 500 : Nat) : Int) * 281474976710656

/-- A band governs the channel. -/
def State.bandGoverns (s : State) (b : BwBand) : Bool :=
  b.tx && decide (s.loKhz s.txSyn ≠ 0)
    && decide (((b.fLo : Nat) : Int) * 281474976710656 ≤ s.txEdge (-1))
    && decide (s.txEdge 1 ≤ ((b.fHi : Nat) : Int) * 281474976710656)
    && decide (b.bwMin ≤ s.txBw ∧ s.txBw ≤ b.bwMax)

/-- The bands of the record. -/
def State.bands (s : State) : List BwBand := match s.bwtr.record with | some r => r.bands | none => []

/-- The governing band in force. -/
def State.band (s : State) : Option BwBand := match s.bwtr.band with | some i => s.bands[i]? | none => none

/-- The band in force is SHARED. -/
def State.sharedBand (s : State) : Bool := match s.band with | some b => b.shared | none => false

/-! ## Clearance (R355, R356) -/

/-- Subchannels whose span shares a width with the transmit channel, and whether their spans cover it: spans of ±10 MHz about
the receive channel centre plus F_s. -/
def State.lbtSchs (s : State) : List Nat × Bool :=
  let rxC : Int := ((s.loKhz s.rxSyn : Nat) : Int) * 281474976710656 + s.rxFreq * 983040
  let lo (c : Nat) : Int := rxC + (s.geti (F.LOOK_SCH_FREQ c) * 10 - 10000) * 281474976710656
  let hi (c : Nat) : Int := lo c + 20000 * 281474976710656
  let a := s.txEdge (-1)
  let z := s.txEdge 1
  let l := (List.range 20).filter (fun c => s.schOn c && decide (lo c < z ∧ a < hi c))
  let reach := (List.range 20).foldl (fun (r : Int) _ => l.foldl (fun r c => if lo c ≤ r ∧ r < hi c then hi c else r) r) a
  (l, decide (z ≤ reach))

/-- The sectors of a berth, 0 read as all. -/
def sectorsOf (c : Cached) : Nat := if c.sectors = 0 then 65535 else c.sectors

/-- CLEAR and CLEAR_AT show a verdict. -/
def State.showClear (s : State) (ok : Bool) (sectors tr : Nat) : State :=
  ((s.putb F.BWTR_CLEAR_OK ok).put F.BWTR_CLEAR_SECTORS sectors).put64 F.BWTR_CLEAR_AT_LO_STAMP F.BWTR_CLEAR_AT_HI_STAMP
    (stampOf tr)

/-- The clearance of a burst that rises at `tr` is judged. -/
def State.lbtJudge (s : State) (tr : Nat) : State :=
  match s.band, s.bwtr.record with
  | some b, some r =>
    if b.shared then
      let sec := sectorsOf (s.berthAt 0 tr).berth
      let (l, cover) := s.lbtSchs
      let ok := cover && decide (s.geti F.LOOK_THR_ED_THR ≤ r.edMax) && s.lookClear sec l (tr - usU 8) (usU b.wUs)
      let t : State := { s with bwtr := { s.bwtr with
        lbt := some ⟨tr, sec, l, usU b.wUs, if ok then none else some tr⟩ } }
      let u := t.showClear ok sec tr
      if ok then u else u.raiseMs 0x1105 0 0
    else s
  | _, _ => s

/-- The burst in progress has its clearance: where none was asked for its T_r, it is judged now. -/
def State.lbtEnsure (s : State) : State :=
  match s.bwtr.burst with
  | none => s
  | some tr => if s.sharedBand && (match s.bwtr.lbt with | some l => l.tr != tr | none => true) then s.lbtJudge tr else s

/-- The instant at which the OR of the T/R switches is to rise next, from the queues. -/
def State.nextRise (s : State) : Option Stamp :=
  let qs := (List.range 8).filter (fun q => s.hasQuad q)
  let ats := qs.flatMap (fun q => (s.timedQ (8 + q)).map (fun e => e.at_))
  let rises := ats.filter (fun a => s.trswOr (fun e => atOrAfter a e.at_) && !s.trswOr (fun e => before e.at_ a))
  rises.foldl (fun (m : Option Stamp) a => match m with
    | none => some a
    | some x => if before a x then some a else some x) none

/-- T_r − 1 µs of the next burst: the clearance is judged in a SHARED band (R355). -/
def State.lbtQuery (s : State) : State :=
  match s.nextRise with
  | none => s
  | some a => if s.sharedBand && s.inRun then (s.reach (stampSub a (usU 1))).lbtJudge (s.absOf a) else s

/-- A TX berth switch at `t` inside a cleared burst: sectors not yet in B are checked over the same window (R356). -/
def State.lbtSwitch (s : State) (t : Nat) : State :=
  match s.bwtr.burst, s.bwtr.lbt with
  | some tr, some l =>
    if s.sharedBand && l.tr == tr && l.mutedFrom == none then
      let new := maskDiff (sectorsOf (s.berthAt 0 t).berth) l.sectors
      if new = 0 then s
      else
        let ok := s.lookClear new l.schs (tr - usU 8) l.w
        let all := maskOr l.sectors new
        let u : State := { s with bwtr := { s.bwtr with lbt := some { l with sectors := all, mutedFrom := if ok then none else some t } } }
        let v := u.showClear ok all tr
        if ok then v else v.raiseMs 0x1105 0 0
    else s
  | _, _ => s

/-- Bursts follow the T/R switches: a burst begins as their OR rises and ends as it falls. -/
def State.bwBurst (s : State) : State :=
  let high := (List.range 8).any (fun q => s.hasQuad q && bitAt s.pins.trsw q)
  match s.bwtr.burst, high with
  | none, true => State.lbtEnsure { s with bwtr := { s.bwtr with burst := some s.tide.now } }
  | some _, false => { s with bwtr := { s.bwtr with burst := none, lbt := none } }
  | _, _ => s

/-- The governing band is fixed (R350): at a transmit chain start, a TX NCO retune, a retune of the serving synthesiser. -/
def State.bwFix (s : State) : State :=
  let i := (List.range s.bands.length).find? (fun i => match s.bands[i]? with | some b => s.bandGoverns b | none => false)
  let was := s.bwtr.band
  let t : State := { s with bwtr := { s.bwtr with band := i } }
  let u := ((t.putb F.BWTR_STAT_BAND_OK i.isSome).put F.BWTR_STAT_BAND (i.getD 0)).putb F.BWTR_STAT_SHARED t.sharedBand
  (if i.isNone && was.isSome then u.raise 0x1102 0 else u).lbtEnsure

/-! ## Reasons (R357) -/

/-- The block of air index `k`. -/
def State.bwBlockOf (s : State) (k : Nat) : Nat := (k - s.tx.startK) / 1024

/-- The granule of an instant. -/
def granuleOf (t : Nat) : Nat := t / usU 10

/-- The first reason from RECORD to DUTY that holds for path `p` at air index `k`. -/
def State.bwEarly (s : State) (p k : Nat) : Option Nat :=
  let t := gridAt k
  let gate := match s.fend.txgateNext with
    | some (g, a) => if s.absOf a ≤ t then g else s.fend.txgate
    | none => s.fend.txgate
  let low := !bitAt s.pins.trsw (p / 8) || !bitAt s.pins.drain (p / 8)
  let cot := match s.band, s.bwtr.burst with
    | some b, some tr => b.cot != 0 && decide (tr + b.cot * usU 10 ≤ t)
    | _, _ => false
  let lbt := s.sharedBand && (match s.bwtr.lbt with
    | some l => (match l.mutedFrom with | some f => decide (f ≤ t) | none => false)
    | none => false)
  let duty := s.bwtr.granMute && s.bwtr.granule == some (granuleOf t) && (match s.band with | some b => b.duty != 0 | none => false)
  if s.get F.BWTR_STAT_RECORD ≠ 1 then some 0
  else if s.bwtr.band = none then some 1
  else if gate && low then some 2
  else if s.flag F.FEND_MM_CTL_ACT && s.flag (F.FEND_P_MM_MM p) then some 3
  else if bitAt (s.mask64 F.BWTR_XCHK_CLR0_PATHS F.BWTR_XCHK_CLR1_PATHS) p then some 4
  else if lbt then some 5
  else if cot then some 6
  else if duty then some 7
  else none

/-- The first reason that mutes path `p` at air index `k` (R357). -/
def State.bwReason (s : State) (p k : Nat) : Option Nat :=
  match s.bwEarly p k with
  | some r => some r
  | none =>
    if s.bwtr.block == some (s.bwBlockOf k) then
      if bitAt s.bwtr.portMute p then some 8 else if bitAt s.bwtr.totalMute p then some 9 else none
    else none

/-! ## Power (R351) -/

/-- The least r with r + 2^b above every candidate: the greatest r with r^1000 ≤ n, bit by bit. -/
def root1000 : Nat → Nat → Nat → Nat
  | 0, _, r => r
  | b + 1, n, r => if (r + 2 ^ b) ^ 1000 ≤ n then root1000 b n (r + 2 ^ b) else root1000 b n r

/-- A level in 0.01 dBm as linear power in units of 2^-32 mW, rounded down. -/
def linOf (p : Int) : Nat :=
  if 0 ≤ p then root1000 64 (10 ^ p.toNat * 2 ^ 32000) 0 else root1000 33 (2 ^ 32000 / 10 ^ (-p).toNat) 0

/-- G(nn, f_c) in 0.01 dB: linear between the gain frequencies around f_c, the nearest one held outside, rounded half up. -/
def State.paGain (s : State) (r : BwRecord) (p : Nat) : Int :=
  let f := s.txEdge 0
  let g (i : Nat) : Int := nth 0 r.gains (8 * p + i)
  let fr (i : Nat) : Int := ((nth 0 r.freqs i : Nat) : Int) * 281474976710656
  match (List.range 8).find? (fun i => decide (f ≤ fr i)) with
  | none => g 7
  | some 0 => g 0
  | some (i + 1) => g i + divRound ((g (i + 1) - g i) * (f - fr i)) (fr (i + 1) - fr i)

/-- The cross-check of a path. -/
def State.bwCheck (s : State) (p : Nat) : BwCheck := (sparseFind s.bwtr.checks p).getD {}

/-- The judged samples of path `p` in block `n`: squared magnitudes of u. -/
def State.bwJudged (s : State) (p n : Nat) : List Nat :=
  (List.range 1024).filterMap (fun i =>
    let k := s.tx.startK + 1024 * n + i
    match s.txU p k with
    | none => none
    | some (u, _) => if s.muteCause p k true = 0 ∧ s.bwEarly p k = none then some (cxMag2 u).toNat else none)

/-- P of path `p` for judged samples, without E_nn, in 0.01 dBm; none without judged samples; silence counts as 130 dB
below full scale. -/
def State.bwPower (s : State) (r : BwRecord) (p : Nat) (l : List Nat) : Option Int :=
  if l.isEmpty then none
  else
    let sum := l.foldl (· + ·) 0
    let db : Int := if sum = 0 then -13000 else logFloor 1000 sum (l.length * 1073676289)
    some (300 + db - 25 * ((s.get (F.TXA_P_ATT_ATT p) : Nat) : Int) + s.paGain r p)

/-- The history of a path. -/
def State.bwHist (s : State) (p : Nat) : List BwBlock := (sparseFind s.bwtr.hist p).getD []

/-- The powers that count in the window of block `n`: the 959 blocks before it. -/
def State.bwWindow (s : State) (p n : Nat) : List Nat :=
  ((s.bwHist p).filter (fun e => e.counted && decide (n < e.n + 960))).map (fun e => e.lin)

/-- The paths with a P in block `n`, and those of them over PORT: the entries of their history. -/
def State.bwVerdicts (s : State) (r : BwRecord) (b : BwBand) (n : Nat) : List (Nat × BwBlock × Bool) :=
  let user := s.geti F.BWTR_USER_LIM_PORT
  let lim := if user < b.port then user else b.port
  (s.paths.filter (fun p => s.txReleased p)).filterMap (fun p =>
    match s.bwPower r p (s.bwJudged p n) with
    | none => none
    | some base =>
      let pw := base + (s.bwCheck p).e
      let lin := linOf pw
      let w := lin :: s.bwWindow p n
      let beyond := decide (10 * (lim + r.margin) < pw) || decide (linOf (10 * lim) * w.length < w.foldl (· + ·) 0)
      some (p, ⟨n, pw, base, lin, !beyond⟩, beyond))

/-- P_1MS of a path: the mean of the blocks that count, in 0.1 dBm, 0x8000 with none. -/
def State.showPower (s : State) (p n : Nat) : State :=
  let l := ((s.bwHist p).filter (fun e => e.counted && decide (n < e.n + 960))).map (fun e => e.lin)
  let sum := l.foldl (· + ·) 0
  s.put (F.BWTR_P_PWR_P_1MS p)
    (if l.isEmpty ∨ sum = 0 then 0x8000 else ofSigned 16 (satS 16 (logRound 100 sum (l.length * 4294967296))))

/-- Block `n` is judged as a whole before its first sample leaves (R351, R352). -/
def State.bwJudge (s : State) (n : Nat) : State :=
  let blank : State := { s with bwtr := { s.bwtr with block := some n, portMute := 0, totalMute := 0 } }
  match s.bwtr.record, s.band with
  | some r, some b =>
    let v := s.bwVerdicts r b n
    let port := maskOf ((v.filter (fun e => e.2.2)).map (fun e => e.1))
    let rest := v.filter (fun e => !e.2.2)
    let total := decide (linOf (10 * (b.total + r.margin)) < (rest.map (fun e => e.2.1.lin)).foldl (· + ·) 0)
    let tm := if total then maskOf (rest.map (fun e => e.1)) else 0
    let t : State := { blank with bwtr := { blank.bwtr with portMute := port, totalMute := tm } }
    let u := t.each v (fun x e =>
      let y := { e.2.1 with counted := e.2.1.counted && !total }
      let z : State := { x with bwtr := { x.bwtr with hist := sparseInsert x.bwtr.hist e.1 ((y :: x.bwHist e.1).take 960) } }
      z.showPower e.1 n)
    if port ≠ 0 ∨ tm ≠ 0 then u.raiseMs 0x1103 0 0 else u
  | _, _ => blank

/-- The block of the next air instant is judged, where it has not been. -/
def State.bwBlock (s : State) (k : Nat) : State :=
  if s.txRun = false ∨ k < s.tx.startK then s
  else if s.bwtr.block == some (s.bwBlockOf k) then s
  else s.bwJudge (s.bwBlockOf k)

/-! ## Duty (R354) -/

/-- Transmitting granules among [lo, hi). -/
def runCount (lo hi : Nat) (runs : List (Nat × Nat)) : Nat :=
  runs.foldl (fun a r =>
    let x := if r.1 < lo then lo else r.1
    let y := if hi < r.1 + r.2 then hi else r.1 + r.2
    a + (y - x)) 0

/-- Granule `g` counts as transmitting. -/
def runAdd (g : Nat) : List (Nat × Nat) → List (Nat × Nat)
  | [] => [(g, 1)]
  | (a, n) :: l => if g < a + n then (a, n) :: l else if g = a + n then (a, n + 1) :: l else (g, 1) :: (a, n) :: l

/-- Granule `g` is decided: muted where it would bring the transmitting granules of the window above DUTY %. -/
def State.bwGranule (s : State) (g : Nat) : State :=
  if s.bwtr.granule == some g then s
  else
    let t : State := { s with bwtr := { s.bwtr with granule := some g, granMute := false } }
    match s.band with
    | none => t
    | some b =>
      if b.duty = 0 then t
      else
        let w := 100 * b.win
        let runs := s.bwtr.runs.filter (fun r => decide (g < r.1 + r.2 + w))
        let beyond := decide (b.duty * w < 100 * (runCount (g + 1 - w) g runs + 1))
        let u : State := { t with bwtr := { t.bwtr with granMute := beyond, runs := runs } }
        if beyond then u.raiseMs 0x1104 0 0 else u

/-- A sample of some path played unmuted at instant `t`. -/
def State.bwPlayed (s : State) (t : Nat) : State :=
  { s with bwtr := { s.bwtr with runs := runAdd (granuleOf t) s.bwtr.runs } }

/-- The next granule decision: that of the next air instant, or else of the granule after it, at its boundary. -/
def State.bwGranuleNext (s : State) : State :=
  let g := granuleOf (gridAt s.nextTxK)
  if s.bwtr.granule == some g then (s.reachAbs ((g + 1) * usU 10)).bwGranule (g + 1) else s.bwGranule g

/-- A burst reaches COT (R354). -/
def State.cotExpire (s : State) : State :=
  match s.band, s.bwtr.burst with
  | some b, some tr => if b.cot = 0 then s else (s.reachAbs (tr + b.cot * usU 10)).raiseMs 0x1106 0 0
  | _, _ => s

/-! ## The cross-check (R353) -/

/-- A qualifying forward reading `pf` (0.01 dBm) converted at instant `t` is compared with P of its block. -/
def State.bwCompare (s : State) (p : Nat) (pf : Int) (t : Nat) : State :=
  match s.bwtr.record, (s.bwHist p).find? (fun e => e.n == s.bwBlockOf (gridFrom t)) with
  | some r, some blk =>
    let d := pf - blk.base
    let x := s.bwCheck p
    let set (u : State) (y : BwCheck) : State :=
      State.put { u with bwtr := { u.bwtr with checks := sparseInsert u.bwtr.checks p y } } (F.BWTR_P_EXC_E p)
        (divRound y.e 10).toNat
    let t1 := if 10 * r.xchk < d then
        let n := x.above + 1
        let start := x.e = 0 ∧ 3 ≤ n
        let u := set s { above := n, inside := 0, e := if 0 < x.e ∨ start then d else 0 }
        if start then u.raise 0x1107 p else u
      else
        let n := x.inside + 1
        set s { above := 0, inside := n, e := if 3 ≤ n then 0 else x.e }
    let f := if p < 32 then F.BWTR_XCHK_CLR0_PATHS else F.BWTR_XCHK_CLR1_PATHS
    if 600 < (t1.bwCheck p).e ∧ bitAt (t1.get f) (p % 32) = false then
      (t1.put f (setBitAt (t1.get f) (p % 32) true)).raise 0x1108 p
    else t1
  | _, _ => s

/-- XCHK_CLR: the named paths' mutes and E_nn are cleared (R353). -/
def State.xchkClear (s : State) (half mask : Nat) : State :=
  let f := if half = 0 then F.BWTR_XCHK_CLR0_PATHS else F.BWTR_XCHK_CLR1_PATHS
  let hit := maskAnd (s.get f) mask
  (s.put f (maskDiff (s.get f) hit)).each (bitList 32 hit) (fun t i =>
    State.put { t with bwtr := { t.bwtr with checks := sparseErase t.bwtr.checks (32 * half + i) } } (F.BWTR_P_EXC_E (32 * half + i)) 0)

/-- CNT_CLR: every BWTR.CNTr. -/
def State.bwClear (s : State) : State := s.each (List.range 10) (fun t r => t.put (F.BWTR_CNT_COUNT r) 0)

/-- The transmit chains start: blocks are counted anew. -/
def State.bwStart (s : State) : State :=
  State.bwFix { s with bwtr := { s.bwtr with block := none, portMute := 0, totalMute := 0, hist := [] } }

end Sys2Proof.Machine
end

