-- ==== Sys2Proof/Machine/Lanes.lean ====
section
/-! DEFINITION. The lane layer of bricks and ring ports: ALIGN sets, training, striping and parity, lane repair, write-offs,
narrow links (12_fronthaul_physical.md R241 to R262; 14_cascade_ring.md R283). Links: 0 brick A, 1 brick B, 2 ring east,
3 ring west. -/

namespace Sys2Proof.Machine

/-! ## Registers and records of a link -/

/-- A field of the FHL layout, for any link: the RING block holds the same layout for its ports. -/
def linkField (f : Nat → Field) (l : Nat) : Field :=
  let g := f (l % 2)
  if l < 2 then g else { g with addr := g.addr + 0x20000 }

def lkSTATE (l : Nat) : Field := linkField F.FHL_B_STAT_STATE l
def lkWIDTH (l : Nat) : Field := linkField F.FHL_B_STAT_WIDTH l
def lkPAR (l : Nat) : Field := linkField F.FHL_B_STAT_PAR l
def lkNARROW (l : Nat) : Field := linkField F.FHL_B_STAT_NARROW l
def lkREPAIR (l : Nat) : Field := linkField F.FHL_B_STAT_REPAIR l
def lkOFF (l : Nat) : Field := linkField F.FHL_B_STAT_OFF l
def lkFARREP (l : Nat) : Field := linkField F.FHL_B_TXSTAT_FAR_REP l
def lkTXOFF (l : Nat) : Field := linkField F.FHL_B_TXSTAT_TXOFF l
def lkPOL (l : Nat) : Field := linkField F.FHL_B_POL_INV l
def lkUNCORR (l : Nat) : Field := linkField F.FHL_B_UNCORR_COUNT l
def lkPARMIS (l : Nat) : Field := linkField F.FHL_B_PARMIS_COUNT l
def lkREPCOL (l : Nat) : Field := linkField F.FHL_B_REPCOL_COUNT l
def lkATTEMPTS (l : Nat) : Field := linkField F.FHL_B_TRAIN_ATTEMPTS l
def lkLASTMS (l : Nat) : Field := linkField F.FHL_B_TRAIN_LAST_MS l
def lnSTATE (l k : Nat) : Field := linkField (fun i => F.FHL_BL_STAT_STATE i k) l
def lnCAUSE (l k : Nat) : Field := linkField (fun i => F.FHL_BL_STAT_CAUSE i k) l
def lnREPAIRS (l k : Nat) : Field := linkField (fun i => F.FHL_BL_STAT_REPAIRS i k) l
def lnSKEW (l k : Nat) : Field := linkField (fun i => F.FHL_BL_STAT_SKEW_UI i k) l
def lnCTLE (l k : Nat) : Field := linkField (fun i => F.FHL_BL_EQ_CTLE i k) l
def lnTAPS (l k : Nat) : Field := linkField (fun i => F.FHL_BL_EQ_TAPS i k) l
def lnCV (l k : Nat) : Field := linkField (fun i => F.FHL_BL_CV_COUNT i k) l
def lnVALID (l k : Nat) : Field := linkField (fun i => F.FHL_BL_EYE_VALID i k) l
def lnNEW (l k : Nat) : Field := linkField (fun i => F.FHL_BL_EYE_NEW i k) l
def lnSEQ (l k : Nat) : Field := linkField (fun i => F.FHL_BL_EYE_SEQ i k) l
def lnHEIGHT (l k : Nat) : Field := linkField (fun i => F.FHL_BL_EYE_HEIGHT i k) l
def lnWIDTH (l k : Nat) : Field := linkField (fun i => F.FHL_BL_EYE_WIDTH i k) l

/-- Training states (table "training states"). -/
def stOFF : Nat := 0
def stDETECT : Nat := 1
def stLOCK : Nat := 2
def stEQUALISE : Nat := 3
def stDESKEW : Nat := 4
def stQUALIFY : Nat := 5
def stHANDSHAKE : Nat := 6
def stBYPASS : Nat := 8
def stDOWN : Nat := 9

/-- The domain of a link. -/
def linkDom (l : Nat) : Nat := if l < 2 then domFH l else domRG (l - 2)

/-- The state of a link; OFF while its domain is off. -/
def State.linkState (s : State) (l : Nat) : Nat := if s.up (linkDom l) then s.get (lkSTATE l) else stOFF

/-- Link `l` is UP. -/
def State.linkUp (s : State) (l : Nat) : Bool := s.linkState l == stUP

/-- The record of link `l`. -/
def State.port (s : State) (l : Nat) : LinkPort := (sparseFind s.link.ports l).getD {}

/-- The record of link `l` replaced. -/
def State.setPort (s : State) (l : Nat) (x : LinkPort) : State :=
  { s with link := { s.link with ports := sparsePut (fun _ => ({} : LinkPort)) s.link.ports l x } }

/-- A lane-layer event of a link: 0x0B01 to 0x0B0A for a brick, 0x0D11 to 0x0D1A for a ring port (R262, R283). -/
def linkCode (l e : Nat) : Nat := if l < 2 then 0x0B00 + e else 0x0D10 + e

/-- An event of a link (INFO 0, R493); an event of one lane of it, which carries the brick or port and the lane (R262). -/
def State.linkRaise (s : State) (l e : Nat) : State := s.raise (linkCode l e) 0
def State.laneRaise (s : State) (l e k : Nat) : State := s.raise (linkCode l e) (info2 (l % 2) k)

/-- The lanes a link trains: lane 0 for the minimal link, else 0 to 8. -/
def LinkPort.lanes (x : LinkPort) : List Nat := if x.mini then [0] else List.range 9

/-- Data lanes that are not written off, of a mask of written-off lanes. -/
def widthOf (off : Nat) : Nat := 8 - popcount 8 off

/-- Data lanes beyond the two lowest that are left in the stripe (R260). -/
def narrowOff (off : Nat) : Nat := maskOf (((List.range 8).filter (fun k => !bitAt off k)).drop 2)

/-- WIDTH, PAR and NARROW follow the stripe (R257, R260). -/
def State.syncLink (s : State) (l : Nat) : State :=
  let off := s.get (lkOFF l)
  let up := s.get (lkSTATE l) == stUP
  let w := if up then (if (s.port l).mini then 1 else widthOf off) else 0
  ((s.put (lkWIDTH l) w).putb (lkPAR l) (up && !(s.port l).mini && !bitAt off 8 && !bitAt (s.get (lkREPAIR l)) 8)).putb
    (lkNARROW l) (up && decide (w = 2))

/-- The state of link `l` set, with the instant of entry. -/
def State.enterLink (s : State) (l st : Nat) : State :=
  (((s.put (lkSTATE l) st).setPort l { s.port l with stage := s.aon })).syncLink l

/-! ## Training (R249 to R252) -/

/-- DETECT: a new attempt, every lane tested again. -/
def State.linkDetect (s : State) (l : Nat) : State :=
  let x := s.port l
  let t := s.setPort l { mini := x.mini, narrow := x.narrow, flaps := x.flaps, repRem := x.repRem, attempt := s.aon }
  let u := ((((t.put (lkOFF l) 0).put (lkREPAIR l) 0).put (lkTXOFF l) 0).put (lkFARREP l) 0).inc (lkATTEMPTS l)
  (u.each (List.range 9) (fun v k => v.put (lnSTATE l k) (if x.lanes.contains k then 1 else 0))).enterLink l stDETECT

/-- The link goes DOWN; on leaving UP, LINK_DOWN (R259). The transmitter sends training superframes. -/
def State.linkDown (s : State) (l : Nat) : State :=
  let up := s.linkUp l
  let t := (s.setPort l { s.port l with txMode := false, sent6 := 0, got6 := 0 }).enterLink l stDOWN
  if up then t.linkRaise l 2 else t

/-- The link's PLL enters bypass (R259; 04_clocks_and_synthesisers.md R85). The minimal link always runs in bypass. -/
def State.linkBypass (s : State) (l : Nat) : State :=
  if s.up (linkDom l) = false ∨ (s.port l).mini = true ∨ s.get (lkSTATE l) = stOFF then s
  else
    let up := s.linkUp l
    let t := (s.setPort l { s.port l with txMode := false, sent6 := 0, got6 := 0 }).enterLink l stBYPASS
    if up then t.linkRaise l 2 else t

/-- The domain of the link was raised: a brick trains; a ring port trains where the ring has devices (R282). -/
def State.linkStart (s : State) (l : Nat) : State :=
  if l < 2 ∨ s.ringSize ≠ 0 then
    let t := s.setPort l { mini := decide (l = 0) && decide (s.cur ≤ 1) && decide (s.power.trans = none) && decide (s.boot.goal = 0) }
    t.linkDetect l
  else s

/-- A failed lane is written off in training (R250): its events, and whether the link can train on. -/
def State.trainOff (s : State) (l k : Nat) : State :=
  let x := s.port l
  if bitAt x.failed k then s
  else
    let t := s.setPort l { x with failed := setBitAt x.failed k true, rxoff := setBitAt x.rxoff k true }
    let u := ((t.put (lnSTATE l k) 6).put (lnCAUSE l k) 4).laneRaise l 5 k
    if k = 8 then u.linkRaise l 10 else u

/-- Lanes that fail a training state: written off, or training restarts from DETECT where W would fall below 6. A minimal link
has no lane to lose. -/
def State.trainFail (s : State) (l lanes : Nat) : State × Bool :=
  let x := s.port l
  let bad := (List.range 9).filter (fun k => bitAt lanes k && x.lanes.contains k && !bitAt x.failed k)
  if bad = [] then (s, true)
  else if x.mini ∨ widthOf (maskOr x.failed lanes) < 6 then (s.linkDetect l, false)
  else (s.each bad (fun t k => t.trainOff l k), true)

/-- EQUALISE has run: the CTLE and DFE codes it found, under a draw (log entry 2). -/
def State.equalised (s : State) (l : Nat) : State :=
  let (n, t) := s.draw
  (t.port l).lanes.foldl (fun u k =>
    (u.put (lnCTLE l k) (Config.measured n (2 * k) % 16)).put (lnTAPS l k) (Config.measured n (2 * k + 1) % 2 ^ 25)) t

/-- LOCK ends once every lane has locked or failed: EQUALISE, or DESKEW for the minimal link. -/
def State.lockCheck (s : State) (l : Nat) : State :=
  let x := s.port l
  if x.lanes.all (fun k => decide (8 ≤ nth 0 x.lock k) || bitAt x.failed k) then
    s.enterLink l (if x.mini then stDESKEW else stEQUALISE)
  else s

/-- A training state's time limit expires. LOCK: lanes without lock fail. EQUALISE ends. DESKEW without an aligned set, and
HANDSHAKE without an answer, restart training. QUALIFY: lanes that showed a code violation fail. -/
def State.trainExpire (s0 : State) (l : Nat) : State :=
  let limit (st : Nat) : Nat :=
    if st = stLOCK then msU 5 else if st = stEQUALISE then msU 20 else if st = stQUALIFY then msU 10 else msU 1
  let st := s0.linkState l
  if stLOCK ≤ st ∧ st ≤ stHANDSHAKE then
    let s := s0.elapseTo ((s0.port l).stage + limit st)
    let x := s.port l
    if st = stLOCK then
      let (t, ok) := s.trainFail l (maskOf (x.lanes.filter (fun k => decide (nth 0 x.lock k < 8))))
      if ok then t.lockCheck l else t
    else if st = stEQUALISE then (s.equalised l).enterLink l stDESKEW
    else if st = stQUALIFY then
      let (t, ok) := s.trainFail l x.viol
      if ok then t.enterLink l stHANDSHAKE else t
    else s.linkDetect l
  else s0

/-- 150 ms after DETECT without UP: TRAIN_TIMEOUT and DOWN (R252). -/
def State.trainTimeout (s : State) (l : Nat) : State :=
  let st := s.linkState l
  if stDETECT ≤ st ∧ st ≤ stHANDSHAKE then
    let t := s.elapseTo ((s.port l).attempt + msU 150)
    (t.linkDown l).linkRaise l 8
  else s

/-- Training starts again: 10 ms after DOWN, or from BYPASS once the link PLL has relocked (R259). -/
def State.retrainStart (s : State) (l : Nat) : State :=
  let st := s.linkState l
  if st = stDOWN then (s.elapseTo ((s.port l).stage + msU 10)).linkDetect l
  else if st = stBYPASS ∧ s.get (F.CLK_LPLL_STAT_MODE l) = 2 then s.linkDetect l
  else s

/-- Forwarded clock and signal stand on every lane (table "training states"). -/
def State.signalDetect (s : State) (l : Nat) : State :=
  if s.linkState l = stDETECT then s.enterLink l stLOCK else s

/-! ## Repair and write-off (R253 to R258) -/

/-- Lanes written off or being written off. -/
def State.goneLanes (s : State) (l : Nat) : Nat := maskOr (s.port l).rxoff (s.port l).failed

/-- A write-off is asked of the far end; one that would leave W below 6 takes the link DOWN instead (R255). -/
def State.writeOff (s : State) (l k : Nat) : State :=
  let x := s.port l
  if bitAt x.rxoff k then s
  else if k < 8 ∧ widthOf (setBitAt (s.goneLanes l) k true) < 6 then s.linkDown l
  else (s.setPort l { x with rxoff := setBitAt x.rxoff k true, asked := sparseInsert x.asked k 0 }).put (lnSTATE l k) 3

/-- Repair entries of a lane within FLAP_S. -/
def State.flapCount (s : State) (l k : Nat) : Nat :=
  ((s.port l).flaps.filter (fun e => e.1 == k && decide (s.aon ≤ e.2 + sU (s.get F.FHL_LIM_FLAP_S)))).length

/-- A receive lane of a link in UP meets a condition of R253. -/
def State.laneFault (s : State) (l k cause : Nat) : State :=
  let off := s.get (lkOFF l)
  let rep := s.get (lkREPAIR l)
  if s.linkUp l = false ∨ bitAt off k = true ∨ bitAt rep k = true then s
  else if rep ≠ 0 ∨ s.flag (lkPAR l) = false then s.linkDown l
  else
    let x := s.port l
    let t := s.setPort l { x with tries := setNth x.tries k 0, flaps := (k, s.aon) :: x.flaps.take 255 }
    let u := ((((t.put (lkREPAIR l) (setBitAt rep k true)).put (lnSTATE l k) 4).put (lnCAUSE l k) cause).inc
      (lnREPAIRS l k)).syncLink l |>.laneRaise l 3 k
    let n := u.get F.FHL_LIM_FLAP_N
    if n ≠ 0 ∧ n ≤ u.flapCount l k then u.writeOff l k else u

/-- A lane shows no transition for 2 ns. -/
def State.laneLoss (s : State) (l k : Nat) : State := s.laneFault l k 1

/-- A requalification attempt of lane `k` ends (R254, R260). -/
def State.requalDone (s : State) (l k : Nat) (ok : Bool) : State :=
  let x := s.port l
  if s.linkUp l = false then s
  else if bitAt x.widen k then
    let t := s.setPort l { x with widen := setBitAt x.widen k false, narrow := decide (setBitAt x.widen k false ≠ 0) }
    if ok then (t.put (lnSTATE l k) 2).laneRaise l 4 k
    else
      let n := nth 0 x.tries k + 1
      if atLeast n (s.get F.FHL_LIM_REQ_TRIES) then t.writeOff l k
      else s.setPort l { x with tries := setNth x.tries k n }
  else if s.get (lnSTATE l k) = 4 then
    if ok then
      (((s.put (lkREPAIR l) (setBitAt (s.get (lkREPAIR l)) k false)).put (lnSTATE l k) 2).syncLink l).laneRaise l 4 k
    else
      let n := nth 0 x.tries k + 1
      let t := s.setPort l { x with tries := setNth x.tries k n }
      if atLeast n (s.get F.FHL_LIM_REQ_TRIES) then t.writeOff l k else t
  else s
where
  /-- `n` attempts reach the limit; 0 applied as 1. -/
  atLeast (n lim : Nat) : Bool := decide ((if lim = 0 then 1 else lim) ≤ n)

/-- 16 superframes after the first request TXOFF does not name the lane (R255): REMAP_STALLED once. -/
def State.remapStalled (s : State) (l : Nat) : State :=
  let x := s.port l
  if s.linkUp l = false then s
  else
    let late := x.asked.filter (fun e => !bitAt x.stalled e.1)
    match late with
    | [] => s
    | (k, _) :: _ => (s.setPort l { x with stalled := setBitAt x.stalled k true }).laneRaise l 9 k

/-! ## ALIGN sets (R245, R246, R249, R251, R255, R256) -/

/-- The fields of an accepted ALIGN set: SEQ, TXMODE, RXSTATE, and by lane RXOFF, TXOFF, RXREP; NARROW; EXT bits 4 to 7. -/
structure AlignSet where
  seq : Nat
  txMode : Bool
  rxState : Nat
  rxoff : Nat
  txoff : Nat
  rxrep : Nat
  narrow : Bool
  ext : Nat
  deriving DecidableEq, Repr

/-- The bytes of columns 3 to 8. -/
def alignBody (b : List Byte) : List Byte := (b.drop 2).take 6

/-- Columns 1 to 9 as one lane received them carry a correct CHK. -/
def alignChk (b : List Byte) : Bool :=
  decide (b.length = 9) && decide (((b.drop 1).take 7).foldl (· ^^^ ·) (0xA5 : Byte) = nth 0 b 8)

/-- The fields that a lane's bytes spell. -/
def alignFields (b : List Byte) : AlignSet :=
  let at_ (i : Nat) : Nat := (nth 0 b i).toNat
  let ext := at_ 7
  { seq := at_ 2, txMode := bitAt (at_ 3) 4, rxState := at_ 3 % 16
    rxoff := at_ 4 + 256 * (ext % 2), txoff := at_ 5 + 256 * (ext / 2 % 2), rxrep := at_ 6 + 256 * (ext / 4 % 2)
    narrow := bitAt ext 3, ext := ext / 16 }

/-- The set accepted for the link: correct on at least two lanes that agree, on one for the minimal link (R246). -/
def acceptSet (mini : Bool) (sets : List (List Byte)) : Option AlignSet :=
  let good := sets.filter alignChk
  let ok (b : List Byte) : Bool :=
    mini || decide (2 ≤ (good.filter (fun c => alignBody c = alignBody b)).length)
  (good.find? ok).map alignFields

/-- The LANE byte a lane must carry: the brick code of the sender and the lane number (R246, R283). -/
def laneByte (l k : Nat) : Nat := (match l with | 0 => 0x10 | 1 => 0x20 | 2 => 0x40 | _ => 0x30) + k

/-- EXT bits of a ring port's neighbour: its CHIP_ID in [1:0], SIZE − 1 in [3:2] (R283). -/
def State.farExt (s : State) (l : Nat) : Nat :=
  let n := s.ringSize
  let k := s.boot.chipId
  (if l = 2 then (k + 1) % n else (k + n - 1) % n) + 4 * (n - 1)

/-- The set of a lane names another lane, brick, device or ring size: a wiring fault (R251, R283). -/
def State.miswired (s : State) (l k : Nat) (b : List Byte) : Bool :=
  alignChk b && (decide ((nth 0 b 1).toNat ≠ laneByte l k)
    || (decide (2 ≤ l) && decide ((alignFields b).ext ≠ s.farExt l)))

/-- LOCK takes an ALIGN set per lane: eight in a row lock the lane, its polarity marker sets POL, a wiring fault fails it. -/
def State.lockSets (s : State) (l : Nat) (sets : List (List Byte)) : State :=
  let x := s.port l
  let at_ (k : Nat) : List Byte := nth [] sets k
  let bad := maskOf (x.lanes.filter (fun k => s.miswired l k (at_ k)))
  let t := s.setPort l { x with lock := (List.range 9).map (fun k => if alignChk (at_ k) then nth 0 x.lock k + 1 else 0) }
  let u := t.put (lkPOL l) (maskOf (x.lanes.filter (fun k =>
    if (at_ k).isEmpty then bitAt (t.get (lkPOL l)) k else (nth 0 (at_ k) 0) == 0xB5)))
  let v := if bad ≠ 0 ∧ 2 ≤ l then u.raiseLim 0x0D07 0 l (s.aon - x.stage + 1) else u
  let (w, ok) := v.trainFail l bad
  if ok then w.lockCheck l else w

/-- DESKEW takes a set seen on every lane: SKEW_UI, and lanes above 80 UI fail (R250). -/
def State.deskew (s : State) (l : Nat) (skew : List Nat) : State :=
  let x := s.port l
  let t := x.lanes.foldl (fun u k => u.put (lnSKEW l k) (let d := nth 0 skew k; if 255 < d then 255 else d)) s
  let (u, ok) := t.trainFail l (maskOf (x.lanes.filter (fun k => decide (80 < nth 0 skew k))))
  if ok then (u.setPort l { u.port l with viol := 0 }).enterLink l stQUALIFY else u

/-- The link comes UP (R249): lanes in service, LAST_MS, LINK_UP. -/
def State.linkRises (s : State) (l : Nat) : State :=
  let x := s.port l
  let ms := (s.aon - x.attempt) / msU 1
  let t := (s.enterLink l stUP).put (lkLASTMS l) (if ms < 65535 then ms else 65535)
  let u := x.lanes.foldl (fun v k => v.put (lnSTATE l k) (if bitAt x.failed k then 6 else 2)) t
  (u.setPort l { u.port l with miss := 0, laneMiss := List.replicate 9 0, cv := List.replicate 9 0, waitIdle := true }).linkRaise
    l 1

/-- TXOFF of the far end names a lane asked for: it is written off (R255, R257). -/
def State.offNamed (s : State) (l k : Nat) : State :=
  let x := s.port l
  let t := s.setPort l { x with asked := sparseErase x.asked k }
  let u := ((t.put (lkREPAIR l) (setBitAt (t.get (lkREPAIR l)) k false)).put (lnSTATE l k) 6).laneRaise l 5 k
  if k = 8 then u.linkRaise l 10 else u

/-- The receive stripe follows the set's TXOFF; lanes asked for and now named are written off, NARROW lanes show it. -/
def State.stripeTake (s : State) (l : Nat) (a : AlignSet) : State :=
  let x := s.port l
  let named := (List.range 9).filter (fun k => bitAt a.txoff k && (sparseFind x.asked k).isSome)
  let t := s.put (lkOFF l) a.txoff
  let u := t.each named (fun v k => v.offNamed l k)
  let w := (List.range 8).foldl (fun v k =>
    let st := v.get (lnSTATE l k)
    if bitAt a.txoff k && st == 2 then v.put (lnSTATE l k) 5
    else if !bitAt a.txoff k && st == 5 then v.put (lnSTATE l k) 2 else v) u
  (w.setPort l { w.port l with asked := (w.port l).asked.map (fun e => (e.1, e.2 + 1)) }).syncLink l

/-- The transmitter obeys RXOFF and NARROW seen in two accepted sets in a row (R255, R256, R260). -/
def State.txObey (s : State) (l : Nat) (a : AlignSet) : State :=
  let x := s.port l
  let both := maskAnd a.rxoff x.farOff
  let out := maskOr x.txOut both
  let thin := decide (l < 2) && (x.narrow || a.narrow && x.farNarrow)
  let t := (s.put (lkTXOFF l) (if thin then maskOr out (narrowOff out) else out)).put (lkFARREP l) a.rxrep
  let u := t.setPort l { x with txOut := out, farOff := a.rxoff, farNarrow := a.narrow }
  (bitList 9 (maskDiff both x.txOut)).foldl (fun v k => v.laneRaise l 7 k) u

/-- Lanes of the brick whose own set fails while the set is accepted: two in a row are cause 2 (R253). -/
def State.laneSets (s : State) (l : Nat) (sets : List (List Byte)) : State :=
  let x := s.port l
  let n := (List.range 9).map (fun k => if alignChk (nth [] sets k) then 0 else nth 0 x.laneMiss k + 1)
  let t := s.setPort l { x with laneMiss := n, cv := List.replicate 9 0, miss := 0 }
  (x.lanes.filter (fun k => decide (2 ≤ nth 0 n k))).foldl (fun u k => u.laneFault l k 2) t

/-- A superframe without an accepted set: the second in a row takes the link DOWN (R259). -/
def State.alignMissing (s : State) (l : Nat) : State :=
  let x := s.port l
  if s.linkUp l then
    if 1 ≤ x.miss then s.linkDown l
    else s.setPort l { x with miss := x.miss + 1, cv := List.replicate 9 0 }
  else s.setPort l { x with lock := List.replicate 9 0, got6 := 0 }

/-- HANDSHAKE: sets sent and received with RXSTATE 6, then mission superframes from SEQ ≡ 0 mod 16, then UP (R249). -/
def State.handshake (s : State) (l : Nat) (a : AlignSet) : State :=
  let x := s.port l
  let got := if a.rxState = 6 ∨ a.rxState = 7 then x.got6 + 1 else 0
  let sent := x.sent6 + 1
  let seq := (x.txSeq + 1) % 256
  let tx := x.txMode || (decide (2 ≤ sent) && decide (2 ≤ got) && decide (seq % 16 = 0))
  let t := s.setPort l { x with got6 := got, sent6 := sent, txSeq := seq, txMode := tx }
  if tx && a.txMode then t.linkRises l else t

/-- An ALIGN set arrives: what each lane received in columns 1 to 9 (polarity corrected after column 1; nothing for a lane
without one), and the lanes' skew in UI. -/
def State.alignSet (s : State) (l : Nat) (sets : List (List Byte)) (skew : List Nat) : State :=
  let st := s.linkState l
  if st = stLOCK then s.lockSets l sets
  else match acceptSet (s.port l).mini sets with
    | none => if stDESKEW ≤ st ∧ st ≤ stUP then s.alignMissing l else s
    | some a =>
      if st = stDESKEW then s.deskew l skew
      else if st = stHANDSHAKE then
        let t := (s.txObey l a).handshake l a
        if t.linkUp l then t.stripeTake l a else t
      else if st = stUP then
        let t := (s.txObey l a).stripeTake l a
        t.laneSets l sets
      else s

/-! ## Data columns (R247, R248) -/

/-- The stripe: data lanes in ascending order that TXOFF does not name. -/
def State.stripe (s : State) (l : Nat) : List Nat :=
  if (s.port l).mini then [0] else (List.range 8).filter (fun k => !bitAt (s.get (lkOFF l)) k)

/-- Code violations of a column are counted by lane; more than CV_LIM in a superframe are cause 3 (R253). -/
def State.violations (s : State) (l : Nat) (col : List (Option Byte)) : State :=
  let bad := (s.port l).lanes.filter (fun k => (nth (some 0) col k).isNone)
  bad.foldl (fun u k =>
    let x := u.port l
    let n := nth 0 x.cv k + 1
    let t := (u.setPort l { x with cv := setNth x.cv k n
                                   viol := if u.linkState l = stQUALIFY then setBitAt x.viol k true else x.viol }).inc (lnCV l k)
    if u.get F.FHL_LIM_CV_LIM < n then t.laneFault l k 3 else t) s

/-- A bad column is counted and marked to the message layer (R248). -/
def State.columnBad (s : State) (l : Nat) : State :=
  ((s.setPort l { s.port l with bad := true, col := [] }).inc (lkUNCORR l)).raiseMs (linkCode l 6) 0 l

/-- The bytes of a column reach the message layer. -/
def State.columnGood (s : State) (l : Nat) (b : List Byte) : State := s.setPort l { s.port l with col := b }

/-- A rebuilt column is counted, in units of 1,024 (R248). -/
def State.columnRepaired (s : State) (l : Nat) (b : List Byte) : State :=
  let x := s.port l
  let t := s.columnGood l b
  if x.repRem = 1023 then (t.setPort l { t.port l with repRem := 0 }).inc (lkREPCOL l)
  else t.setPort l { t.port l with repRem := x.repRem + 1 }

/-- A data column: per lane its byte, none for a code violation or disparity error. Lanes in repair are erased. -/
def State.dataColumn (s : State) (l : Nat) (col : List (Option Byte)) : State :=
  if s.linkUp l = false then s.violations l col
  else
    let rep := s.get (lkREPAIR l)
    let get (k : Nat) : Option Byte := if bitAt rep k then none else nth none col k
    let lanes := s.stripe l
    let data := lanes.map get
    let par := get 8
    let parity := !(s.port l).mini && !bitAt (s.get (lkOFF l)) 8
    let known := data.filterMap id
    let x := known.foldl (· ^^^ ·) (0 : Byte)
    let erased := data.length - known.length
    let t := match parity, par with
      | true, some p =>
        if erased = 0 then (if x = p then s.columnGood l known else (s.inc (lkPARMIS l)).columnBad l)
        else if erased = 1 then s.columnRepaired l (data.map (fun (o : Option Byte) => o.getD (x ^^^ p)))
        else s.columnBad l
      | true, none =>
        if erased = 0 then (if bitAt rep 8 then s.columnGood l known else s.columnRepaired l known) else s.columnBad l
      | false, _ => if erased = 0 then s.columnGood l known else s.columnBad l
    t.violations l col

/-! ## Losses, retraining, equaliser (R244, R259) -/

/-- The forwarded clock shows no transition for 4 ns. -/
def State.clockLoss (s : State) (l : Nat) : State :=
  let st := s.linkState l
  if st = stUP then s.linkDown l
  else if stLOCK ≤ st ∧ st ≤ stHANDSHAKE then s.linkDetect l
  else s

/-- A RETRAIN bit is written. -/
def State.retrain (s : State) (l : Nat) : State :=
  if s.linkState l = stOFF ∨ s.linkState l = stBYPASS then s else s.linkDown l

/-- Adaptation runs: out of training, outside Dry dock, ADAPT_HOLD = 0. -/
def State.adapts (s : State) (l : Nat) : Bool := s.linkUp l && !(s.port l).mini && !s.flag F.FHL_CTL_ADAPT_HOLD

/-- DFE tap `j` (0 to 4) of a lane. -/
def State.dfeTap (s : State) (l k j : Nat) : Int := toSigned 5 (bitsAt (s.get (lnTAPS l k)) (5 * j) 5)

/-- Every 256 decisions the five sums move the taps by one code. -/
def State.dfeAdapt (s : State) (l k : Nat) (sums : List Int) : State :=
  if s.adapts l then
    s.put (lnTAPS l k) ((List.range 5).foldl (fun w j =>
      let d := nth 0 sums j
      let v := s.dfeTap l k j
      setBitsAt w (5 * j) 5 (ofSigned 5 (if 32 ≤ d then clampInt (-16) 15 (v + 1) else if d ≤ -32 then clampInt (-16) 15 (v - 1) else v)))
      (s.get (lnTAPS l k)))
  else s

/-- Every 1 ms the CTLE steps from the first tap. -/
def State.ctleAdapt (s : State) (l k : Nat) : State :=
  if s.adapts l then
    let a := (s.dfeTap l k 0).natAbs
    let c := s.get (lnCTLE l k)
    if 14 ≤ a then s.put (lnCTLE l k) (if c < 15 then c + 1 else 15)
    else if a ≤ 4 then s.put (lnCTLE l k) (c - 1)
    else s
  else s

/-- Every 100 ms the eye monitor publishes a lane's eye. -/
def State.eyeMeasure (s : State) (l k height width : Nat) : State :=
  if s.linkUp l then
    (((s.putb (lnVALID l k) true).putb (lnNEW l k) true).incWrap (lnSEQ l k)).put (lnHEIGHT l k) height |>.put (lnWIDTH l k)
      width
  else s

/-! ## Narrow links (R260) -/

/-- Doze is entered: NARROW is asked of the far end and applied here. -/
def State.narrowEnter (s : State) (l : Nat) : State :=
  let t := s.setPort l { s.port l with narrow := true, widen := 0 }
  if t.linkUp l then t.put (lkTXOFF l) (maskOr (t.port l).txOut (narrowOff (t.port l).txOut)) else t

/-- Doze is left: the lanes powered down are requalified, then NARROW is cleared. -/
def State.narrowLeave (s : State) (l : Nat) : State :=
  let x := s.port l
  if x.narrow = false then s
  else if s.linkUp l then
    let w := maskOf ((List.range 8).filter (fun k => s.get (lnSTATE l k) == 5))
    let t := s.setPort l { x with widen := w, narrow := decide (w ≠ 0), tries := List.replicate 9 0 }
    (bitList 8 w).foldl (fun u k => u.put (lnSTATE l k) 4) t
  else s.setPort l { x with narrow := false, widen := 0 }

end Sys2Proof.Machine
end

