-- ==== Sys2Proof/Machine/TideSync.lean ====
section
/-! DEFINITION. Tide's synchronisation: source, exchanges, filter, states, corrections (15_tide.md R299 to R310, R315). Offsets
are exact: theta of an exchange in 1/250, an estimate in 1/1000 of 2^-16 ns. -/

namespace Sys2Proof.Machine

/-- Tide states. -/
def tdFREE : Nat := 0
def tdACQUIRE : Nat := 1
def tdLOCKED : Nat := 2
def tdHOLD : Nat := 3
def tdREFUSED : Nat := 4

/-- Tide's state. -/
def State.tdState (s : State) : Nat := s.get F.TIDE_STAT_STATE

/-- Tide's state set. -/
def State.setTd (s : State) (v : Nat) : State := s.put F.TIDE_STAT_STATE v

/-- LOG_INT as applied, and the exchange interval. -/
def State.logInt (s : State) : Nat :=
  let n := s.get F.TIDE_CTL_LOG_INT
  if 4 ≤ n ∧ n ≤ 8 then n else 6
def State.xchgInterval (s : State) : Nat := sU 1 / 2 ^ s.logInt

/-- LOCK_NS and JUMP_NS in the units of an estimate; 0 applied as 1. -/
def State.lockLimit (s : State) : Nat := (let n := s.get F.TIDE_LIM_LOCK_NS; if n = 0 then 1 else n) * 65536000
def State.jumpLimit (s : State) : Nat := (let n := s.get F.TIDE_LIM_JUMP_NS; if n = 0 then 1 else n) * 65536000

/-! ## The filter and the source (R299, R302, R307) -/

/-- The filter restarts. -/
def State.tideRestart (s : State) : State := { s with tide := { s.tide with delays := [], thetas := [] } }

/-- The source that R299 names: link 0 to 3. -/
def State.tideChoice (s : State) : Option Nat :=
  if s.cur ≤ 1 then none
  else if s.ringSize = 0 ∨ s.boot.chipId = 0 then
    let p := s.get F.TIDE_CTL_PREF
    if s.linkUp p then some p else if s.linkUp (1 - p) then some (1 - p) else none
  else if bitAt (s.get F.RING_STAT_WARC) s.boot.chipId then (if s.linkUp 2 then some 2 else none)
  else if bitAt (s.get F.RING_STAT_EARC) s.boot.chipId then (if s.linkUp 3 then some 3 else none)
  else none

/-- The source follows R299: a change restarts the filter; a loss is none. An exchange in progress is discarded in both. -/
def State.tideSource (s : State) : State :=
  match s.tideChoice with
  | none =>
    if s.flag F.TIDE_STAT_SRC_OK then State.putb { s with tide := { s.tide with xchg := none } } F.TIDE_STAT_SRC_OK false else s
  | some j =>
    if s.tide.lastSrc = some j then
      (if s.flag F.TIDE_STAT_SRC_OK then s else s.putb F.TIDE_STAT_SRC_OK true)
    else
      let t : State := { s with tide := { s.tide with xchg := none, lastSrc := some j, fresh := true } }
      (((t.tideRestart.put F.TIDE_STAT_SRC j).putb F.TIDE_STAT_SRC_OK true)).raise 0x0E06 0

/-- The ring layer signals a topology change (R307). -/
def State.tideTopology (s : State) : State :=
  State.tideRestart { s with tide := { s.tide with fresh := true } }

/-- Lj_ASYM of link `j` was written (R302). -/
def State.asymWritten (s : State) (j : Nat) : State :=
  if s.flag F.TIDE_STAT_SRC_OK ∧ s.get F.TIDE_STAT_SRC = j then s.tideRestart else s

/-- Tide enters FREE: reset and each entry into Dry dock (R303). -/
def State.tideFree (s : State) : State :=
  let t : State := { s with tide := { s.tide with xchg := none, good := 0, fresh := false } }
  ((((t.tideRestart.setTd tdFREE).putb F.TIDE_STAT_FIRST_LOCK false).putb F.TIDE_STAT_JUMP false).putb
    F.TIDE_STAT_ASYM_SUSPECT false).putb F.TIDE_STAT_SRC_OK false

/-! ## Corrections (R303 to R309) -/

/-- PEND set, in units of 2^-16 ns. -/
def State.setPend (s : State) (p : Int) : State := State.syncTide { s with tide := { s.tide with pend := p } }

/-- An estimate in units of 2^-16 ns. -/
def estUnits (e : Int) : Int := divRound e 1000

/-- Tide steps by `d` units: the timed-output queues are discarded and the filter restarts (R303). -/
def State.tideStep (s : State) (d : Int) : State :=
  let t : State := { s with tide := { s.tide with now := ((s.tide.now : Int) + d).toNat, good := 0 } }
  t.toDiscardAll.tideRestart.setPend 0

/-- The servo of R304 in LOCKED. -/
def State.tideServo (s : State) (e : Int) : State :=
  let f : Int := divRound (-e * ((2 ^ s.logInt * 1099511627776 : Nat) : Int)) 16777216000000000000
  let tr := clampInt (-109951162) 109951162 (s.tide.ftrim + clampInt (-10995) 10995 f)
  State.setPend { s with tide := { s.tide with ftrim := tr } } (-(estUnits e))

/-- Tide enters REFUSED (R306, R309). -/
def State.tideRefuse (s : State) (asym : Bool) : State :=
  let t := State.setTd { s with tide := { s.tide with good := 0 } } tdREFUSED
  if asym then (t.putb F.TIDE_STAT_ASYM_SUSPECT true).raise 0x0E03 0
  else
    let u := t.putb F.TIDE_STAT_JUMP true
    if s.tdState = tdREFUSED then u else u.raise 0x0E02 0

/-- Tide leaves REFUSED for LOCKED (R308). -/
def State.tideCleared (s : State) : State :=
  ((State.setTd { s with tide := { s.tide with good := 0 } } tdLOCKED).putb F.TIDE_STAT_JUMP false).putb
    F.TIDE_STAT_ASYM_SUSPECT false |>.raise 0x0E04 0

/-- The first entry into LOCKED after FREE (R303). -/
def State.tideAcquired (s : State) : State :=
  let t := State.setTd { s with tide := { s.tide with good := 0 } } tdLOCKED
  if t.flag F.TIDE_STAT_FIRST_LOCK then t else (t.putb F.TIDE_STAT_FIRST_LOCK true).raise 0x0E01 0

/-- An estimate, by state (R303 to R308). -/
def State.tideEstimate (s0 : State) (e : Int) : State :=
  let s := State.puti { s0 with tide := { s0.tide with latestTheta := e, fresh := false } } F.TIDE_OFFSET_VALUE (divRound e 256000)
  let big := decide (s.jumpLimit < e.natAbs)
  let count (b : Bool) : State := { s with tide := { s.tide with good := if b then s.tide.good + 1 else 0 } }
  let st := s.tdState
  if st = tdACQUIRE then
    if big then s.tideStep (-(estUnits e))
    else
      let t := (count (decide (e.natAbs ≤ s.lockLimit))).setPend (-(estUnits e))
      if 8 ≤ t.tide.good then t.tideAcquired else t
  else if st = tdLOCKED then (if big then s.tideRefuse s0.tide.fresh else s.tideServo e)
  else if st = tdHOLD then (if big then s.tideRefuse s0.tide.fresh else (s.setTd tdLOCKED).tideServo e)
  else if st = tdREFUSED then
    let t := count (!big)
    if 8 ≤ t.tide.good then (t.tideServo e).tideCleared else t
  else s

/-- An acknowledgement in REFUSED (R308). -/
def State.tideAck (s : State) : State :=
  if s.tdState = tdREFUSED then (s.setPend (-(estUnits s.tide.latestTheta))).tideCleared else s

/-- A build-out offset φ of the CPLL, in ps (R309). -/
def State.tideBuildOut (s : State) (phi : Int) : State :=
  let units := divRound (phi * 8192) 125
  let big := decide (s.jumpLimit * 125 < phi.natAbs * 8192 * 1000)
  if s.flag F.TIDE_STAT_FIRST_LOCK then
    if big then s.tideRefuse false else s.setPend (s.tide.pend - units)
  else if big then s.tideStep (-units) else s.setPend (s.tide.pend - units)

/-! ## Exchanges (R300 to R302) -/

/-- A type 5 payload: the instant without its fraction, and the compensation. -/
def type5 (id action : Nat) (t : Nat) (comp : Int) : List Byte :=
  let ns := t / 65536
  beBytes 1 id ++ beBytes 1 action ++ beBytes 6 (ns / 1000000000) ++ beBytes 4 (ns % 1000000000) ++ beBytes 8 (ofSigned 64 comp)

/-- A message that carries an instant of the device: its fraction goes into the compensation, negated. -/
def type5At (id action t : Nat) : List Byte := type5 id action t (-((t % 65536 : Nat) : Int))

/-- The instant a received payload carries, in 2^-16 ns, and its compensation. -/
def type5Time (b : List Byte) : Int × Int :=
  ((((beNat ((b.drop 2).take 6) * 1000000000 + beNat ((b.drop 8).take 4)) * 65536 : Nat) : Int),
    toSigned 64 (beNat ((b.drop 12).take 8)))

/-- The device starts an exchange on its source (step 1). -/
def State.xchgStart (s : State) : State :=
  if s.flag F.TIDE_STAT_SRC_OK = false ∨ s.tide.xchg ≠ none then s
  else
    let id := s.tide.nextId
    let t : State := { s with tide := { s.tide with
      nextId := (id + 2) % 256
      xchg := some { id := id, start := s.aon, t3 := (s.tide.now : Int) } } }
    t.emit (.frame (s.get F.TIDE_STAT_SRC) 5 (type5At id 0x00 s.tide.now))

/-- A change of the exchange in progress. -/
def State.onXchg (s : State) (f : Exchange → Exchange) : State :=
  { s with tide := { s.tide with xchg := s.tide.xchg.map f } }

/-- Messages of the exchange in progress on the source link. -/
def State.xchgTake (s : State) (link id action : Nat) (b : List Byte) : State :=
  match s.tide.xchg with
  | none => s
  | some x =>
    let (ts, c) := type5Time b
    if link ≠ s.get F.TIDE_STAT_SRC then s
    else if action = 2 ∧ id = x.id ∧ x.t4 = none then
      let t := s.onXchg (fun y => { y with t4 := some (ts - c), remoteSent := true })
      t.emit (.frame link 5 (type5 ((x.id + 1) % 256) 0x03 0 0))
    else if id = (x.id + 1) % 256 ∧ x.remoteSent = true then
      match action with
      | 0 => s.onXchg (fun y => { y with t1 := some (ts + c), t2 := some (s.tide.now : Int) })
      | 1 => s.onXchg (fun y => { y with t2 := some (s.tide.now : Int) })
      | 5 => s.onXchg (fun y => if y.t2 = none then y else { y with t1 := some (ts + c) })
      | _ => s
    else s

/-- The device is master on a ring port: downstream, Tide LOCKED, HOLD or REFUSED, in Quiet or Run (R300, R315). -/
def State.tideMaster (s : State) (link : Nat) : Bool :=
  decide (2 ≤ link) && decide (2 ≤ s.tdState) && decide (3 ≤ s.cur)
    && !(s.flag F.TIDE_STAT_SRC_OK && s.get F.TIDE_STAT_SRC == link)

/-- A type 5 message of 20 bytes arrives on a link: answered, or an instant of the exchange. -/
def State.type5Rx (s : State) (link : Nat) (b : List Byte) : State :=
  if s.linkUp link = false ∨ s.cur ≤ 1 then s
  else
    let id := (nth 0 b 0).toNat
    let action := (nth 0 b 1).toNat
    let t := s.xchgTake link id action b
    if action ≤ 1 then t.emit (.frame link 5 (type5At id 0x02 s.tide.now))
    else if action = 3 ∧ s.tideMaster link = true then t.emit (.frame link 5 (type5At id 0x00 s.tide.now))
    else t

/-- The exchange in progress is not complete 1 ms after its start: lost (R300). -/
def State.xchgLost (s : State) : State :=
  match s.tide.xchg with
  | none => s
  | some x =>
    match x.t1, x.t2, x.t4 with
    | some _, some _, some _ => s
    | _, _, _ =>
      let t := s.elapseTo (x.start + msU 1)
      (State.inc { t with tide := { t.tide with xchg := none } } F.TIDE_LOST_CNT_COUNT).raiseLim 0x0E07 0 0 (sU 1)

/-- An accepted exchange: the fourth one since the restart and every later one give an estimate (R302). -/
def State.xchgAccept (s : State) (theta : Int) : State :=
  let l := (theta :: s.tide.thetas).take 4
  let t := State.inc { s with tide := { s.tide with thetas := l, lastAccept := s.aon } } F.TIDE_ACC_CNT_COUNT
  if l.length = 4 then t.tideEstimate (sumInt l) else t

/-- The exchange in progress is complete: delay, gate, filter, estimate (R302). -/
def State.xchgComplete (s : State) : State :=
  match s.tide.xchg with
  | none => s
  | some x =>
    match x.t1, x.t2, x.t4 with
    | some t1, some t2, some t4 =>
      let a := t2 - t1
      let b := t4 - x.t3
      let d2 := a + b
      let asym := s.geti (F.TIDE_L_ASYM_PS (s.get F.TIDE_STAT_SRC))
      let theta := 125 * (a - b) - 8192 * asym
      let gate : Int := ((2 * nsU (s.get F.TIDE_LIM_GATE_NS) : Nat) : Int)
      let gated := s.tide.delays.any (fun m => decide (gate < d2 - m))
      let t : State := { s with tide := { s.tide with xchg := none, delays := (d2 :: s.tide.delays).take 16 } }
      let shown := clampInt 0 4294967295 (divRound d2 512)
      let u := t.put F.TIDE_DELAY_VALUE shown.toNat
      let v := if u.tdState = tdFREE then u.setTd tdACQUIRE else u
      if gated then v.inc F.TIDE_GATED_CNT_COUNT else v.xchgAccept theta
    | _, _, _ => s

/-- Four intervals without an accepted exchange: LOCKED goes to HOLD (R310). -/
def State.tideHold (s : State) : State :=
  if s.tdState = tdLOCKED then
    ((s.elapseTo (s.tide.lastAccept + 4 * s.xchgInterval)).setTd tdHOLD).raise 0x0E05 0
  else s

end Sys2Proof.Machine
end

