-- ==== Sys2Proof/Machine/Clk.lean ====
section
/-! DEFINITION. Clocks: reference, holdover and bypass, synthesisers, routes and swaps, dividers, link PLLs
(04_clocks_and_synthesisers.md R64 to R86; 22_reserve.md R437, R438). -/

namespace Sys2Proof.Machine

/-! ## Synthesisers -/

/-- Synthesiser `n` (0 or 1). -/
def State.syn (s : State) (n : Nat) : Syn := if n = 0 then s.clk.syn0 else s.clk.syn1

/-- Synthesiser `n` replaced. -/
def State.setSyn (s : State) (n : Nat) (x : Syn) : State :=
  { s with clk := if n = 0 then { s.clk with syn0 := x } else { s.clk with syn1 := x } }

/-- Synthesiser `n` serves transmit; receive; either. -/
def State.servesTx (s : State) (n : Nat) : Bool := s.txSyn == n
def State.servesRx (s : State) (n : Nat) : Bool := s.rxSyn == n
def State.serves (s : State) (n : Nat) : Bool := s.servesTx n || s.servesRx n

/-- N and DIV are permitted (R75). -/
def synOk (n div : Nat) : Bool := if div = 0 then decide (25 ≤ n ∧ n ≤ 59) else decide (27 ≤ n ∧ n ≤ 59)

/-- The serving transmit synthesiser is unlocked outside its settle window; the same for receive. -/
def State.txLoBad (s : State) : Bool := !s.synLocked s.txSyn && !s.synSettle s.txSyn
def State.rxLoLost (s : State) : Bool := !s.synLocked s.rxSyn && !s.synSettle s.rxSyn

/-- An open span of invalid receive samples of every path. -/
def State.loSpanOpen (s : State) : Bool := s.rx.spans.any (fun x => x.hi == none && x.path == none)

/-- The transmit fault and the invalid receive samples follow the lock of the serving synthesisers (R79). -/
def State.loSync (s : State) : State :=
  let t := if s.txLoBad = bitAt s.tx.causes txLO then s else s.txCause txLO s.txLoBad
  if t.rxLoLost && !t.loSpanOpen then (t.addSpan ⟨t.tide.now, none, none⟩).agcSuspend
  else if !t.rxLoLost && t.loSpanOpen then t.closeSpan none t.tide.now
  else t

/-- The grid edge at or after instant `t` (R82). -/
def gridEdge (t : Nat) : Nat := (t + nsU 3125 - 1) / nsU 3125 * nsU 3125

/-- The dividers are to be reset on the first grid edge at least 1 µs after `t` (R82). -/
def State.dividersAt (s : State) (t : Nat) : State :=
  { s with clk := { s.clk with divReset := some (stampOf (gridEdge (t + usU 1))), aligned := false } }

/-- The dividers are reset in step. -/
def State.dividersReset (s : State) : State :=
  match s.clk.divReset with
  | none => s
  | some a =>
    let t := s.reach a
    { t with clk := { t.clk with divReset := none, aligned := true } }

/-- RESYNC (R82). -/
def State.resync (s : State) : State :=
  if s.cur = 3 then { s with clk := { s.clk with divReset := some (stampOf (gridEdge s.tide.now)), aligned := false } }
  else (s.setBit 0x20080 12).syncIrq

/-! ## Retunes (R75 to R78) -/

/-- The synthesisers that a command naming `n` acts on. -/
def State.synTargets (s : State) (n : Nat) : List Nat :=
  if s.split then [n]
  else match s.spareSyn with
    | none => [s.txSyn]
    | some m => [s.txSyn, m]

/-- A retune of synthesiser `n` starts now: the settle window of 40 µs, its mutes and invalid samples. -/
def State.synRetune (s : State) (n nn div : Nat) : State :=
  let now := s.tide.now
  let e := now + usU 40
  let t := s.setSyn n { s.syn n with n := nn, div := div, armed := none, settleEnd := some (stampOf e), lockStart := s.aon
                                     unlockedSince := none }
  let u := (t.putb (F.CLK_SYN_STAT_SETTLE n) true).putb (F.CLK_SYN_STAT_LOCK n) false
  let v := if u.servesTx n then u.addMute ⟨3, now, some e, none⟩ else u
  let w := if v.servesRx n then (v.addSpan ⟨now, some e, none⟩).agcSuspend else v
  w.loSync

/-- A retune refused: RETUNE_REFUSED (R75, R77, R78). -/
def State.retuneRefused (s : State) : State := s.raise 0x0209 0

/-- A retune command: 0 OK, 7 RANGE for a setting not permitted, 9 BUSY inside a running settle window (R75 to R78). -/
def State.synCommand (s : State) (n nn div : Nat) (arm : Bool) (at_ : Stamp) : Nat × State :=
  let ts := s.synTargets n
  let inside (m : Nat) : Bool := match (s.syn m).settleEnd with
    | none => false
    | some e => before (if arm then at_ else s.stamp) e
  if synOk nn div = false then (7, s.retuneRefused)
  else if ts.any inside then (9, s.retuneRefused)
  else
    let t := ts.foldl (fun u m => (u.put (F.CLK_SYN_CTL_N m) nn).put (F.CLK_SYN_CTL_DIV m) div) s
    if arm then
      (0, ts.foldl (fun u m => u.setSyn m { u.syn m with armed := some (nn, div, at_, decide (1 < ts.length)) }) t)
    else (0, ts.foldl (fun u m => if u.up (domSYN m) then u.synRetune m nn div else u) t)

/-- An armed retune of synthesiser `n` reaches its stamp; a pair starts together. -/
def State.synFire (s : State) (n : Nat) : State :=
  match (s.syn n).armed with
  | none => s
  | some (nn, div, a, pair) =>
    let t := s.reach a
    let ms := [n] ++ (if pair ∧ (s.syn (1 - n)).armed = (s.syn n).armed then [1 - n] else [])
    ms.foldl (fun u m => if u.up (domSYN m) then u.synRetune m nn div else u.setSyn m { u.syn m with armed := none }) t

/-! ## Loss of lock and swaps (R79, R80; 22_reserve.md R437, R438) -/

/-- Synthesiser `n` is marked FAILED. -/
def State.synFail (s : State) (n : Nat) : State :=
  if s.flag (F.RSV_SYN_WEAR_FAILED n) then s
  else ((s.putb (F.RSV_SYN_WEAR_FAILED n) true).raise 0x1702 n).regrade 8

/-- A loss counted as wear: the third within an hour marks FAILED. -/
def State.synWear (s : State) (n : Nat) : State :=
  let l := (s.aon :: (s.syn n).losses.filter (fun a => decide (s.aon < a + sU 3600))).take 15
  let t := ((s.setSyn n { s.syn n with losses := l }).inc (F.RSV_SYN_WEAR_LOSSES n)).put (F.RSV_SYN_WEAR_RECENT n) l.length
  if 3 ≤ l.length then t.synFail n else t

/-- A mute of step 2 to 6 of a swap over some directions (bit 0 TX, bit 1 RX), from 50 ns to 40 µs after now. -/
def State.swapMute (s : State) (dirs : Nat) : State :=
  let t0 := s.tide.now
  let b := t0 + nsU 50
  let e := t0 + usU 40
  let t : State := { s with clk := { s.clk with swap := some ⟨stampOf b, dirs, stampOf e⟩ } }
  let u := if bitAt dirs 0 then t.addMute ⟨1, b, some e, none⟩ else t
  let v := if bitAt dirs 1 then (u.addSpan ⟨t0, some e, none⟩).agcSuspend else u
  v.dividersAt (t0 + nsU 200)

/-- The mute of a swap or route change lifts, and its interval is added once (R80). -/
def State.swapLift (s : State) : State :=
  match s.clk.swap with
  | none => s
  | some m =>
    let t := s.reach m.lift
    let ns := (m.lift - m.begin).toNat / 65536
    State.add { t with clk := { t.clk with swap := none } } F.CLK_SWAP_MUTE_TOTAL_NS ns

/-- The serving synthesiser fails over to a locked spare that is not FAILED, in TDD with AUTO_SWAP (R80). -/
def State.swapTo (s : State) (n : Nat) : Option Nat :=
  if s.serves n && s.flag F.CLK_LO_ROUTE_AUTO_SWAP then
    match s.spareSyn with
    | none => none
    | some m => if m ≠ n ∧ s.synLocked m = true ∧ s.flag (F.RSV_SYN_WEAR_FAILED m) = false then some m else none
  else none

/-- Synthesiser `n` is unlocked outside its settle window (R76, R79, R80). -/
def State.synLost (s : State) (n : Nat) : State :=
  let t := ((s.setSyn n { s.syn n with unlockedSince := some s.aon }).putb (F.CLK_SYN_STAT_LOCK n) false).raise 0x0207 n
  let u := match t.swapTo n with
    | some m => ((t.put F.CLK_LO_ROUTE_TX_SRC m).swapMute 3).raise 0x0208 m
    | none => t
  ((u.synWear n).loSync).regrade 8

/-- A loss of lock outside the settle window, with the CPLL running. -/
def State.synUnlock (s : State) (n : Nat) : State :=
  if s.up (domSYN n) && s.synLocked n && !s.synSettle n && s.cpllRuns then s.synLost n else s

/-- The settle window ends; without lock the synthesiser is unlocked from then on (R76). -/
def State.settleDone (s : State) (n : Nat) : State :=
  match (s.syn n).settleEnd with
  | none => s
  | some e =>
    let t := s.reach e
    let u := (t.setSyn n { t.syn n with settleEnd := none }).putb (F.CLK_SYN_STAT_SETTLE n) false
    if u.synLocked n then u.loSync else u.synLost n

/-- A synthesiser reports lock: LOCK_T, BAND (a free value, R495), and its paths return (R79, R82). -/
def State.synLock (s : State) (n : Nat) : State :=
  if s.up (domSYN n) = false ∨ s.synLocked n = true ∨ s.cpllRuns = false then s
  else
    let x := s.syn n
    let (band, t) := s.draw
    let q := (s.aon - x.lockStart) * 4 / usU 1
    let ms := match x.unlockedSince with
      | none => t.get (F.RSV_SYN_WEAR_LAST_MS n)
      | some a => let m := (s.aon - a) / msU 1; if m < 65535 then m else 65535
    let u := (((t.setSyn n { x with unlockedSince := none }).putb (F.CLK_SYN_STAT_LOCK n) true).put (F.CLK_SYN_STAT_LOCK_T n)
      (if q < 255 then q else 255)).put (F.CLK_SYN_STAT_BAND n) (band % 64)
    let v := (u.put (F.RSV_SYN_WEAR_LAST_MS n) ms).loSync
    let w := if v.servesTx n && bitAt (v.word 0x100014).toNat feSYN then v.feClear feSYN else v
    (if w.serves n then w.dividersAt w.tide.now else w).regrade 8

/-- An unlocked synthesiser retries (R79). -/
def State.synRetry (s : State) (n : Nat) : State :=
  if s.up (domSYN n) && !s.synLocked n && !s.synSettle n && s.cpllRuns then s.setSyn n { s.syn n with lockStart := s.aon } else s

/-- 10 ms after a loss without lock: FAILED (R437). -/
def State.synRelockTimeout (s : State) (n : Nat) : State :=
  match (s.syn n).unlockedSince with
  | none => s
  | some a => (s.elapseTo (a + msU 10)).synFail n

/-- The serving transmit synthesiser unlocked for 100 µs outside its settle window starts a front-end fault
(17_front_end_control_and_breakwater.md R343). -/
def State.synFault (s : State) : State :=
  match (s.syn s.txSyn).unlockedSince with
  | none => s
  | some a => if s.txLoBad then (s.elapseTo (a + usU 100)).feSet feSYN else s

/-- RSV.SYN_CLR (R437). -/
def State.synClear (s : State) (mask : Nat) : State :=
  s.each (bitList 2 mask) (fun t n =>
    ((t.setSyn n { t.syn n with losses := [] }).putb (F.RSV_SYN_WEAR_FAILED n) false).put (F.RSV_SYN_WEAR_RECENT n) 0
      |>.regrade 8)

/-! ## Routes (R78, R81) -/

/-- A write of CLK.LO_ROUTE. -/
def State.routeWrite (s : State) (v : Nat) : State :=
  let auto := bitAt v 4
  let split := bitAt v 3
  let rx := bitsAt v 1 1
  let tx := bitsAt v 0 1
  let newRx := if split then rx else tx
  let failed (n : Nat) : Bool := s.flag (F.RSV_SYN_WEAR_FAILED n)
  if split = true ∧ rx = tx then s.retuneRefused
  else if (tx ≠ s.txSyn ∧ failed tx = true) ∨ (newRx ≠ s.rxSyn ∧ failed newRx = true) then s.retuneRefused
  else
    let dirs := (if tx ≠ s.txSyn then 1 else 0) + (if newRx ≠ s.rxSyn then 2 else 0)
    let t := (((s.putb F.CLK_LO_ROUTE_AUTO_SWAP auto).putb F.CLK_LO_ROUTE_SPLIT split).put F.CLK_LO_ROUTE_RX_SRC rx).put
      F.CLK_LO_ROUTE_TX_SRC tx
    let quads := t.quads.any (fun q => t.up (domTXQ q) || t.up (domRXQ q))
    let u := if dirs ≠ 0 ∧ quads = true then t.swapMute dirs else t
    (if quads then u.loSync else u).regrade 8

/-! ## Link PLLs (R83 to R85) -/

/-- Link PLL `b` loses lock. -/
def State.lpllUnlock (s : State) (b : Nat) : State :=
  if s.up (linkDom b) ∧ s.get (F.CLK_LPLL_STAT_MODE b) = 2 then
    let t : State := { s with clk := { s.clk with lpllSince := setNth s.clk.lpllSince b none } }
    ((((t.put (F.CLK_LPLL_STAT_MODE b) 3).inc (F.CLK_LPLL_STAT_UNLOCK_CNT b)).raise 0x020A b)).linkBypass b
  else s

/-- A link PLL in bypass tries to lock. -/
def State.lpllRetry (s : State) (b : Nat) : State :=
  if s.up (linkDom b) ∧ s.get (F.CLK_LPLL_STAT_MODE b) = 3 ∧ s.cpllRuns = true ∧ (s.port b).mini = false then
    { s with clk := { s.clk with lpllSince := setNth s.clk.lpllSince b (some s.aon) } }
  else s

/-- Its lock has held for 100 µs. -/
def State.lpllRelock (s : State) (b : Nat) : State :=
  match nth none s.clk.lpllSince b with
  | none => s
  | some a =>
    let t := s.elapseTo (a + usU 100)
    let u : State := { t with clk := { t.clk with lpllSince := setNth t.clk.lpllSince b none } }
    (u.put (F.CLK_LPLL_STAT_MODE b) 2).raise 0x020B b

/-- A changed spread takes effect at the apex of the triangle: the applied word of LPLLb_CTL (R84). -/
def State.sscApply (s : State) (b : Nat) : State :=
  let mode := s.get (F.CLK_LPLL_CTL_SSC_MODE b) % 3
  let cap := if mode = 1 then 50 else 25
  let d := s.get (F.CLK_LPLL_CTL_DEPTH b)
  let f := s.get (F.CLK_LPLL_CTL_SSC_F b)
  let w := if mode = 0 then 0 else mode * 16384 + (if d < cap then d else cap) * 256 + (if f = 7 then 6 else f)
  { s with clk := { s.clk with ssc := setNth s.clk.ssc b w } }

/-! ## Reference, holdover and bypass (R67 to R73) -/

/-- HO_AGE_S. -/
def State.syncHo (s : State) : State :=
  match s.clk.hoSince with
  | none => s.put F.CLK_CPLL_STAT_HO_AGE_S 0
  | some a => let n := (s.aon - a) / sU 1; s.put F.CLK_CPLL_STAT_HO_AGE_S (if n < 255 then n else 255)

/-- The CPLL goes to bypass: the converters stop, the synthesisers and link PLLs lose lock (R71, R72, R343). -/
def State.cpllBypass (s : State) : State :=
  let t : State := { s with clk := { s.clk with hoSince := none, gatesOpen := false, lockSince := none, rot := 0 } }
  let u := ((t.put F.CLK_CPLL_STAT_MODE 0).putb F.CLK_CPLL_STAT_BYP_SRC (!t.flag F.CLK_CPLL_STAT_REF_OK)).syncHo.raise 0x0205 0
  let v := [0, 1].foldl (fun x n =>
    ((x.setSyn n { x.syn n with settleEnd := none, unlockedSince := none }).putb (F.CLK_SYN_STAT_LOCK n) false).putb
      (F.CLK_SYN_STAT_SETTLE n) false) u
  let w := (v.txCause txCPLL true).loSync.feSet feCPLL
  (List.range 4).foldl (fun x b => x.lpllUnlock b) w

/-- The CPLL loses lock (R71). -/
def State.cpllUnlock (s : State) : State := if s.up domCPLL && s.cpllRuns then s.cpllBypass else s

/-- The reference is lost: holdover, or bypass with HO_LIMIT_S = 0 (R67, R69). -/
def State.refLost (s : State) : State :=
  let t := ({ s with clk := { s.clk with okWindows := 0 } } : State).putb F.CLK_CPLL_STAT_REF_OK false
  let m := t.get F.CLK_CPLL_STAT_MODE
  if m = 2 then
    if t.get F.CLK_CPLL_CTL_HO_LIMIT_S = 0 then (t.raise 0x0201 0).cpllBypass
    else ((State.put { t with clk := { t.clk with hoSince := some t.aon } } F.CLK_CPLL_STAT_MODE 3).syncHo).raise 0x0201 0
  else if m = 3 then t
  else (State.put { t with clk := { t.clk with lockSince := none } } F.CLK_CPLL_STAT_MODE 0).putb F.CLK_CPLL_STAT_BYP_SRC true

/-- REFCLK shows no edge for four periods (R67). -/
def State.refEdgeLoss (s : State) : State := State.refLost { s with clk := { s.clk with refPresent := false } }

/-- The reference is qualified again in holdover: phase build-out by −φ (ps), Tide takes φ (R70, R309). -/
def State.buildOut (s : State) (phi : Int) : State :=
  let t : State := { s with clk := { s.clk with hoSince := none, buildOut := -phi } }
  let u := (((t.put F.CLK_CPLL_STAT_MODE 2).syncHo).puti F.CLK_REF_JUMP_LAST_PS phi).inc F.CLK_REF_JUMP_COUNT
  ((u.raise 0x0203 0).raise 0x0202 0).tideBuildOut phi

/-- The end of a 1 ms monitor window: REFCLK's deviation in ppb (none: absent), and the phase φ that a build-out at this
instant would measure, folded into half a reference period (R68, R70). -/
def State.freqWindow (s : State) (dev : Option Int) (phi : Int) : State :=
  let lim : Nat := if s.clk.everLocked then 20000 else 100000
  match dev with
  | none => State.refLost { s with clk := { s.clk with refPresent := false } }
  | some d =>
    let s1 : State := { s with clk := { s.clk with refPresent := true } }
    if lim < d.natAbs then s1.refLost
    else
      let n := if 10 ≤ s.clk.okWindows then 10 else s.clk.okWindows + 1
      let t : State := { s1 with clk := { s1.clk with okWindows := n } }
      if n < 10 ∨ t.flag F.CLK_CPLL_STAT_REF_OK = true then t
      else
        let u := t.putb F.CLK_CPLL_STAT_REF_OK true
        let half : Int := if u.get F.CLK_CPLL_CTL_REF_SEL = 0 then 4069 else 8138
        if u.get F.CLK_CPLL_STAT_MODE = 3 then u.buildOut (clampInt (-half) half phi)
        else if u.get F.CLK_CPLL_STAT_MODE = 2 then u
        else u.putb F.CLK_CPLL_STAT_BYP_SRC false

/-- Holdover reaches its limit without a qualified reference (R69). -/
def State.holdoverExpired (s : State) : State :=
  match s.clk.hoSince with
  | none => s
  | some a => ((s.elapseTo (a + sU (s.get F.CLK_CPLL_CTL_HO_LIMIT_S))).raise 0x0204 0).cpllBypass

/-- The CPLL in bypass tries to lock to a qualified reference (R73). -/
def State.cpllRetry (s : State) : State :=
  if s.up domCPLL && s.flag F.CLK_CPLL_STAT_REF_OK && s.get F.CLK_CPLL_STAT_MODE ≤ 1 then
    State.put { s with clk := { s.clk with lockSince := some s.aon } } F.CLK_CPLL_STAT_MODE 1
  else s

/-- The CPLL is locked from now on: the gates open, the chains restart, the synthesisers lock (R73). -/
def State.cpllLocked (s : State) : State :=
  let t : State := { s with clk := { s.clk with lockSince := none, gatesOpen := true, everLocked := true, rot := 0 } }
  let u := (t.put F.CLK_CPLL_STAT_MODE 2).txCause txCPLL false
  let v := [0, 1].foldl (fun x n => x.setSyn n { x.syn n with lockStart := x.aon }) u
  v.loSync.rxRestart (v.paths.filter (fun p => !v.rxRetired p && !(v.rxPath p).stopped))

/-- Lock held for 100 µs ends bypass (R73). -/
def State.cpllRelock (s : State) : State :=
  match s.clk.lockSince with
  | none => s
  | some a =>
    if s.get F.CLK_CPLL_STAT_MODE = 1 then
      ((((s.elapseTo (a + usU 100)).cpllLocked).raise 0x0206 0)).feClear feCPLL
    else s

/-! ## Ticks (R71; 15_tide.md R298) -/

/-- The units of 2^-16 ns that the next tick of the clock in use adds. -/
def State.tickUnits (s : State) : Nat :=
  if s.cpllRuns then nth 16666 [16667, 16667, 16666] s.clk.rot
  else if s.flag F.CLK_CPLL_STAT_BYP_SRC then 655360
  else if s.get F.CLK_CPLL_CTL_REF_SEL = 0 then nth 533334 [533333, 533333, 533334] s.clk.rot
  else nth 1066666 [1066667, 1066667, 1066666] s.clk.rot

/-- One tick of the clock in use passes while the device is powered and out of reset (log entry 1). -/
def State.tick (s : State) : State :=
  if s.on then
    let t := s.advance s.tickUnits
    { t with clk := { t.clk with rot := (t.clk.rot + 1) % 3 } }
  else s

end Sys2Proof.Machine
end

