-- ==== Sys2Proof/Machine/QuayCore.lean ====
section
/-! DEFINITION. The arithmetic, the bundles and the registers of a Quay core (10_quay_array.md R198 to R212). -/

namespace Sys2Proof.Machine

/-! ## Vectors and tags (R199) -/

/-- Lane `i` of a list of lanes. -/
def lane (l : List Cx) (i : Nat) : Cx := nth cx0 l i

/-- Eight lanes. -/
def lanes8 (f : Nat → Cx) : List Cx := (List.range 8).map f

/-- Tags of combined operands: INV and OVR joined, STAMP and STEP of the first that is TAGGED; OVF, WRP and VSAT joined too
(DEDUCED: log entry 13). -/
def tagMerge (a b : Tag) : Tag :=
  let src := if a.tagged then a else b
  { stamp := src.stamp, tagged := a.tagged || b.tagged, step := src.step
    inv := maskOr a.inv b.inv, ovr := maskOr a.ovr b.ovr
    ovf := a.ovf || b.ovf, wrp := a.wrp || b.wrp, vsat := a.vsat || b.vsat }

/-- A mask of lanes moved with them: bit i of the result is bit `f i`. -/
def moveMask (f : Nat → Nat) (m : Nat) : Nat := maskOf ((List.range 8).filter (fun i => bitAt m (f i)))

/-- Lanes and tag moved: lane i of the result is lane `f i` (ROT, BCAST). -/
def vecMove (f : Nat → Nat) (v : Vec) : Vec :=
  ⟨lanes8 (fun i => lane v.lanes (f i)), { v.tag with inv := moveMask f v.tag.inv, ovr := moveMask f v.tag.ovr }⟩

/-! ## Fitting (R205 to R207) -/

/-- `x` fitted to `n` bits: saturated, or with WRAP the low bits kept; and whether that changed it. -/
def fit (wrap : Bool) (n : Nat) (x : Int) : Int × Bool :=
  if wrap then (toSigned n (ofSigned n x), overS n x) else (satS n x, overS n x)

/-- Both parts fitted. -/
def fitCx (wrap : Bool) (n : Nat) (c : Cx) : Cx × Bool :=
  (⟨(fit wrap n c.re).1, (fit wrap n c.im).1⟩, (fit wrap n c.re).2 || (fit wrap n c.im).2)

/-- Eight lanes fitted, and whether any part changed. -/
def fitLanes (wrap : Bool) (n : Nat) (l : List Cx) : List Cx × Bool :=
  (l.map (fun c => (fitCx wrap n c).1), l.any (fun c => (fitCx wrap n c).2))

/-! ## Accumulators -/

/-- The exact result of an accumulator operation on one lane (table "opcodes"). -/
def accLane (opc k : Nat) (a x y : Cx) : Cx :=
  match opc with
  | 0x01 => cxAdd a (cxMul x y)
  | 0x02 => cxAdd a (cxMul x (cxConj y))
  | 0x03 => cxSub a (cxMul x y)
  | 0x04 => cxMul x y
  | 0x05 => cxMul x (cxConj y)
  | 0x06 => ⟨a.re + x.re * x.re + x.im * x.im, a.im⟩
  | 0x07 => cxAdd a (cxScale 32768 x)
  | 0x09 => cxRnd k a
  | _ => cx0

/-- The tag of an accumulator after an operation: its own, then Va, then Vb (R199). -/
def accTag (opc : Nat) (a x y : Tag) : Tag :=
  if opc ≤ 5 then tagMerge (tagMerge a x) y else if opc ≤ 7 then tagMerge a x else a

/-- An accumulator operation: the accumulator, and whether it saturated or wrapped. -/
def accOp (opc k : Nat) (wrap : Bool) (a : Acc) (x y : Vec) : Acc × Bool :=
  if opc = 0x08 then ({}, false)
  else
    let (l, b) := fitLanes wrap 40 (lanes8 (fun i => accLane opc k (lane a.lanes i) (lane x.lanes i) (lane y.lanes i)))
    ({ lanes := l, tag := accTag opc a.tag x.tag y.tag, ovf := a.ovf || (b && !wrap), wrp := a.wrp || (b && wrap) }, b)

/-- narrow(A) (R205, R206): the vector, INV lanes 0, and whether a valid lane saturated or wrapped. -/
def narrowAcc (wrap : Bool) (sh : Nat) (a : Acc) : Vec × Bool :=
  let (l, b) := fitLanes wrap 16 (lanes8 (fun i =>
    if bitAt a.tag.inv i then cx0 else cxRnd sh (lane a.lanes i)))
  (⟨l, { a.tag with ovf := a.tag.ovf || a.ovf, wrp := a.tag.wrp || a.wrp, vsat := a.tag.vsat || b }⟩, b)

/-! ## Vector operations -/

/-- The exact result of ADD, SUB, CMUL, CONJ and NEG on one lane. -/
def vecLane (opc : Nat) (x y : Cx) : Cx :=
  match opc with
  | 0x18 => cxAdd x y
  | 0x19 => cxSub x y
  | 0x1A => cxRnd 15 (cxMul x y)
  | 0x1B => cxConj x
  | 0x1C => cxNeg x
  | _ => x

/-- A vector operation: the vector, and whether it saturated or wrapped. -/
def vecOp (opc k : Nat) (wrap : Bool) (x y : Vec) : Vec × Bool :=
  match opc with
  | 0x1D => (x, false)
  | 0x1E => (vecMove (fun i => (i + k) % 8) x, false)
  | 0x1F => (vecMove (fun _ => k) x, false)
  | _ =>
    let (l, b) := fitLanes wrap 16 (lanes8 (fun i => vecLane opc (lane x.lanes i) (lane y.lanes i)))
    (⟨l, if opc ≤ 0x1A then tagMerge x.tag y.tag else x.tag⟩, b)

/-! ## Bundles (R201) -/

/-- The fields of a bundle. -/
structure Bundle where
  opc : Nat
  opd : Nat
  xmode : Nat
  xv : Nat
  xp : Nat
  xpm : Nat
  ymode : Nat
  yv : Nat
  yp : Nat
  ypm : Nat
  u0 : Nat
  u1 : Nat
  deriving DecidableEq, Repr

/-- A 64-bit word as a bundle. -/
def bundleOf (w : Nat) : Bundle :=
  { opc := bitsAt w 58 6, opd := bitsAt w 40 18
    xmode := bitsAt w 37 3, xv := bitsAt w 33 4, xp := bitsAt w 30 3, xpm := bitsAt w 28 2
    ymode := bitsAt w 25 3, yv := bitsAt w 21 4, yp := bitsAt w 18 3, ypm := bitsAt w 16 2
    u0 := bitsAt w 8 8, u1 := bitsAt w 0 8 }

/-- Operand formats (table "operand formats"): 0 none, 1 A, 2 N, 3 V, 4 an illegal opcode. -/
def opFormat (opc : Nat) : Nat :=
  if opc = 0 ∨ (0x30 ≤ opc ∧ opc ≤ 0x32) ∨ opc = 0x3F then 0
  else if opc ≤ 0x09 then 1
  else if 0x10 ≤ opc ∧ opc ≤ 0x12 then 2
  else if 0x18 ≤ opc ∧ opc ≤ 0x20 then 3
  else 4

/-- The operation uses Va; it uses Vb (R203). -/
def usesVa (opc : Nat) : Bool := (1 ≤ opc && opc ≤ 7) || opFormat opc == 3
def usesVb (opc : Nat) : Bool := (1 ≤ opc && opc ≤ 5) || (0x18 ≤ opc && opc ≤ 0x1A)

/-- FA and FB of a bundle, where the operation uses them. -/
def Bundle.fa (b : Bundle) : Bool := usesVa b.opc && bitAt b.opd (if opFormat b.opc = 1 then 6 else 5)
def Bundle.fb (b : Bundle) : Bool := usesVb b.opc && bitAt b.opd (if opFormat b.opc = 1 then 5 else 4)

/-- A slot mode that loads. -/
def modeLoads (m : Nat) : Bool := m == 1 || m == 2 || m == 4

/-- A pointer update byte names a reserved operation. -/
def updBad (u : Nat) : Bool := bitAt u 7 && decide (12 ≤ u % 16)

/-- ILLEGAL (R211): reserved opcode, slot mode or pointer operation; forwarding without a load. -/
def Bundle.illegal (b : Bundle) : Bool :=
  opFormat b.opc == 4 || decide (4 < b.xmode) || decide (4 < b.ymode) || updBad b.u0 || updBad b.u1
    || (b.fa && !modeLoads b.xmode) || (b.fb && !modeLoads b.ymode)

/-- The output port a bundle writes. -/
def Bundle.soPort (b : Bundle) : Option Nat :=
  if b.opc = 0x12 then some (bitsAt b.opd 9 2) else if b.opc = 0x20 then some (bitsAt b.opd 14 2) else none

/-! ## Registers of a core -/

/-- Core `q`. -/
def State.core (s : State) (q : Nat) : Core := (sparseFind s.quay.cores q).getD {}

/-- Core `q` replaced. -/
def State.setCore (s : State) (q : Nat) (x : Core) : State :=
  { s with quay := { s.quay with cores := sparsePut (fun _ => ({} : Core)) s.quay.cores q x } }

/-- A register of a list that may be shorter than its file: an unlisted one holds its value at the start. -/
def Core.vreg (x : Core) (i : Nat) : Vec := nth {} x.v i
def Core.areg (x : Core) (i : Nat) : Acc := nth {} x.a i
def Core.setV (x : Core) (i : Nat) (v : Vec) : Core :=
  { x with v := (List.range 16).map (fun j => if j = i then v else x.vreg j) }
def Core.setA (x : Core) (i : Nat) (a : Acc) : Core :=
  { x with a := (List.range 8).map (fun j => if j = i then a else x.areg j) }
def Core.ptr (x : Core) (i : Nat) : Nat := nth 0 x.p i

/-- A change of pointer `i` by `d`, from value `p`: circular where its L is not 0, else modulo 2^16 (R202). -/
def Core.move (x : Core) (i : Nat) (d : Int) (p : Nat) : Nat :=
  let n := if i < 4 then nth 0 x.l i else 0
  if n = 0 then ofSigned 16 ((p : Int) + d)
  else
    let base := p / n * n
    (base + (((p : Int) + d - base) % (n : Int)).toNat) % 65536

/-- The change that a slot's post-modify makes (R201). -/
def Core.postMod (x : Core) (mode pm p : Nat) : Int :=
  let size : Int := if mode = 2 then 4 else 32
  if mode = 0 ∨ mode = 4 then 0
  else match pm with
    | 1 => size
    | 2 => nth 0 x.m (p % 4)
    | 3 => -size
    | _ => 0

/-- The change that a pointer update byte makes. -/
def Core.updMod (x : Core) (u : Nat) : Int :=
  let op := u % 16
  if op = 0 then 32 else if op = 1 then -32 else if op = 2 then 4 else if op = 3 then -4
  else if op < 8 then nth 0 x.m (op - 4) else -(nth 0 x.m ((op - 8) % 4))

/-- The pointers after a step: X slot, Y slot, U0, U1 in this order, and MOVR in place of them all (R202). -/
def Core.pointers (x : Core) (b : Bundle) : List Nat :=
  let upd (l : List Nat) (i : Nat) (on : Bool) (d : Int) : List Nat :=
    if on then setNth l i (x.move i d (nth 0 l i)) else l
  let l1 := upd x.p b.xp (decide (x.postMod b.xmode b.xpm b.xp ≠ 0)) (x.postMod b.xmode b.xpm b.xp)
  let l2 := upd l1 b.yp (decide (x.postMod b.ymode b.ypm b.yp ≠ 0)) (x.postMod b.ymode b.ypm b.yp)
  let l3 := upd l2 (bitsAt b.u0 4 3) (bitAt b.u0 7) (x.updMod b.u0)
  let l4 := upd l3 (bitsAt b.u1 4 3) (bitAt b.u1 7) (x.updMod b.u1)
  let r := bitsAt b.opd 14 4
  if b.opc = 0x32 ∧ r < 8 then setNth l4 r (bitsAt b.opd 0 14 * 4) else l4

/-- M and L after a step: MOVR writes them. -/
def Core.modifiers (x : Core) (b : Bundle) : List Int × List Nat :=
  let r := bitsAt b.opd 14 4
  let v := bitsAt b.opd 0 14 * 4
  if b.opc = 0x32 ∧ 8 ≤ r ∧ r < 12 then (setNth x.m (r - 8) (toSigned 16 v), x.l)
  else if b.opc = 0x32 ∧ 12 ≤ r then (x.m, setNth x.l (r - 12) v)
  else (x.m, x.l)

/-! ## Loops (R210) -/

/-- The loop that a LOOP bundle starts: level, body, passes. -/
def Core.loopOf (x : Core) (b : Bundle) : Nat × HwLoop :=
  let n := bitsAt b.opd 0 12
  (bitsAt b.opd 17 1, ⟨x.pc + 1, x.pc + 1 + bitsAt b.opd 12 5, if n = 0 then none else some n⟩)

/-- A body lies inside another. -/
def HwLoop.inside (a b : HwLoop) : Bool := decide (b.first ≤ a.first ∧ a.last ≤ b.last)

/-- NEST (R210): `lastOpc` is the opcode of the body's last bundle. -/
def Core.nestBad (x : Core) (b : Bundle) (lastOpc : Nat) : Bool :=
  let (lv, h) := x.loopOf b
  decide (2047 < h.last) || lastOpc == 0x30 || lastOpc == 0x31 || lastOpc == 0x3F
    || (if lv = 1 then (match x.loop0 with | some o => !h.inside o | none => false)
      else (match x.loop1 with | some i => decide (i.first ≤ x.pc ∧ x.pc ≤ i.last) | none => false))

/-- A pass of a loop ends: the loop with one pass less, or none. -/
def HwLoop.again (h : HwLoop) : Option HwLoop :=
  match h.left with
  | none => some h
  | some n => if n ≤ 1 then none else some { h with left := some (n - 1) }

/-- PC and loops after a bundle that is not a branch: level 1 is tested first (R210). -/
def Core.advance (x : Core) : Core :=
  let next := (x.pc + 1) % 2048
  let try0 (y : Core) : Core :=
    match y.loop0 with
    | some h => if y.pc = h.last then
        match h.again with
        | some g => { y with loop0 := some g, pc := h.first }
        | none => { y with loop0 := none, pc := next }
      else { y with pc := next }
    | none => { y with pc := next }
  match x.loop1 with
  | some h => if x.pc = h.last then
      match h.again with
      | some g => { x with loop1 := some g, pc := h.first }
      | none => try0 { x with loop1 := none }
    else try0 x
  | none => try0 x

/-- PC and loops after any bundle. -/
def Core.goOn (x : Core) (b : Bundle) : Core :=
  if b.opc = 0x30 then
    let (lv, h) := x.loopOf b
    if lv = 1 then { x with loop1 := some h, pc := h.first } else { x with loop0 := some h, pc := h.first }
  else if b.opc = 0x31 then { x with loop0 := none, loop1 := none, pc := bitsAt b.opd 0 11 }
  else if b.opc = 0x3F then x
  else x.advance

/-- A core as it starts (R200). What its neighbours sent stays in its ports. -/
def Core.fresh (x : Core) (pc : Nat) : Core :=
  let z : Core := {}
  { z with pc := pc, si2 := x.si2, si3 := x.si3 }

end Sys2Proof.Machine
end

