-- ==== Sys2Proof/Machine/Sections.lean ====
section
/-! DEFINITION. IQ sections: block floating point, masks, headers, and the CRC of link frames (13_fronthaul_messages.md R263,
R266, R267; 14_cascade_ring.md R290). -/

namespace Sys2Proof.Machine

/-! ## Block floating point (R266, R267) -/

/-- Mantissa width m of COMP. -/
def compM (comp : Nat) : Nat :=
  match comp with
  | 0 => 16
  | 1 => 9
  | 2 => 12
  | _ => 14

/-- The exponent of a block. -/
def bfpExp (m : Nat) (vs : List Int) : Nat :=
  ((List.range (17 - m)).find? (fun e => vs.all (fun v => !overS (m + e) v))).getD (16 - m)

/-- The mantissa of a value. -/
def bfpMant (m e : Nat) (v : Int) : Int :=
  let r := rnd e v
  let top : Int := ((2 ^ (m - 1) : Nat) : Int) - 1
  if top < r then top else r

/-- The 32 values of a block of 16 samples: I then Q of each. -/
def blockVals (l : List Cx) : List Int := l.flatMap (fun c => [c.re, c.im])

/-- The samples of a list of values. -/
def valSamples : List Int → List Cx
  | a :: b :: l => ⟨a, b⟩ :: valSamples l
  | _ => []

/-- Samples cut into blocks of 16. -/
def blocksOf (l : List Cx) : List (List Cx) := (List.range ((l.length + 15) / 16)).map (fun b => (l.drop (16 * b)).take 16)

/-- The mantissas of a block, packed most significant bit first. -/
def packBlock (m : Nat) (vs : List Int) : List Byte :=
  beBytes (4 * m) (vs.foldl (fun a v => a * 2 ^ m + ofSigned m v) 0)

/-- The 32 mantissas of a packed block. -/
def unpackBlock (m : Nat) (b : List Byte) : List Int :=
  let n := beNat b
  (List.range 32).map (fun i => toSigned m (n / 2 ^ (m * (31 - i))))

/-- Nibbles in bytes, the first in the high nibble, an odd last nibble 0. -/
def packNibbles (l : List Nat) : List Byte :=
  (List.range ((l.length + 1) / 2)).map (fun i => BitVec.ofNat 8 (16 * nth 0 l (2 * i) + nth 0 l (2 * i + 1)))

/-- Nibble `i` of packed bytes. -/
def nibble (b : List Byte) (i : Nat) : Nat :=
  let v := (nth 0 b (i / 2)).toNat
  if i % 2 = 0 then v / 16 else v % 16

/-- Exponents and mantissas of samples under COMP: parts 1 and 2 of a section's payload. -/
def packSamples (comp : Nat) (l : List Cx) : List Byte :=
  let m := compM comp
  let bs := (blocksOf l).map blockVals
  if comp = 0 then bs.flatMap (packBlock 16)
  else
    let es := bs.map (bfpExp m)
    packNibbles es ++ (bs.zip es).flatMap (fun p => packBlock m (p.1.map (bfpMant m p.2)))

/-- The length of parts 1 and 2 for `n` blocks. -/
def packedLen (comp n : Nat) : Nat := (if comp = 0 then 0 else (n + 1) / 2) + n * 4 * compM comp

/-- Samples as parts 1 and 2 of a payload spell them. -/
def unpackSamples (comp n : Nat) (b : List Byte) : List Cx :=
  let m := compM comp
  let skip := if comp = 0 then 0 else (n + 1) / 2
  (List.range n).flatMap (fun i =>
    let e := if comp = 0 then 0 else nibble b i
    valSamples ((unpackBlock m ((b.drop (skip + i * 4 * m)).take (4 * m))).map (fun v => v * ((2 ^ e : Nat) : Int))))

/-- A block rounded as R267 does with mantissa width m and back (14_cascade_ring.md R292). -/
def bfpRound (m : Nat) (l : List Cx) : List Cx :=
  (blocksOf l).flatMap (fun b =>
    let vs := blockVals b
    let e := bfpExp m vs
    valSamples (vs.map (fun v => bfpMant m e v * ((2 ^ e : Nat) : Int))))

/-- A mask of `n` bits in bytes: bit i is bit 7 − (i mod 8) of byte i ÷ 8. -/
def packMask (n : Nat) (f : Nat → Bool) : List Byte :=
  (List.range ((n + 7) / 8)).map (fun j =>
    BitVec.ofNat 8 (maskOf ((List.range 8).filterMap (fun t => if 8 * j + t < n ∧ f (8 * j + t) = true then some (7 - t) else none))))

/-- Bit `i` of such a mask. -/
def maskBit (b : List Byte) (i : Nat) : Bool := bitAt (nth 0 b (i / 8)).toNat (7 - i % 8)

/-! ## Section headers -/

/-- The 16 bytes of a section header. -/
def sectionHeader (stamp : Stamp) (stream comp nblk invcnt flags gain mref : Nat) : List Byte :=
  beBytes 8 stamp.toNat ++ beBytes 1 (stream * 8 + comp) ++ beBytes 1 nblk ++ beBytes 2 (invcnt * 16 + flags)
    ++ beBytes 2 gain ++ beBytes 2 mref

/-- A type 0 payload: PC_ID, SEQ_ID, header, body. -/
def iqPayload (stream seq : Nat) (header body : List Byte) : List Byte :=
  beBytes 2 stream ++ beBytes 2 seq ++ header ++ body

/-- A section as received: SEQ_ID, STAMP, stream, STEP_HI, samples, the mask bytes after parts 1 and 2. -/
structure Section where
  seq : Nat
  stamp : Stamp
  stream : Nat
  comp : Nat
  stepHi : Nat
  data : List Cx
  mask : List Byte
  deriving DecidableEq, Repr

/-- A type 0 payload read; none where its layout breaks R266 or R267. `extra` is the length of the mask that MREF names for
NBLK blocks. -/
def parseSection (extra : Nat → Nat) (b : List Byte) : Option Section :=
  let pc := beNat (b.take 2)
  let h := b.drop 4
  let body := h.drop 16
  let c8 := (nth 0 h 8).toNat
  let comp := c8 % 8
  let nblk := (nth 0 h 9).toNat
  let mref := beNat ((h.drop 14).take 2)
  let len := packedLen comp nblk
  if b.length < 20 ∨ 3 < comp ∨ nblk = 0 ∨ 128 < nblk ∨ pc ≠ c8 / 8 then none
  else if (mref ≠ 0 ∧ mref ≠ len) ∨ body.length ≠ len + (if mref = 0 then 0 else extra nblk) then none
  else if comp ≠ 0 ∧ (List.range nblk).any (fun i => decide (16 - compM comp < nibble body i)) = true then none
  else some { seq := beNat ((b.drop 2).take 2), stamp := BitVec.ofNat 64 (beNat (h.take 8)), stream := c8 / 8, comp := comp
              stepHi := (nth 0 h 12).toNat % 16, data := unpackSamples comp nblk body
              mask := if mref = 0 then [] else body.drop len }

/-! ## CRC-32 (R263) -/

/-- One bit of the reflected CRC-32 of IEEE 802.3. -/
def crcBit (c : BitVec 32) : BitVec 32 := if c.getLsbD 0 then (c >>> 1) ^^^ 0xEDB88320 else c >>> 1

/-- One byte of it. -/
def crcByte (c : BitVec 32) (b : Byte) : BitVec 32 :=
  crcBit (crcBit (crcBit (crcBit (crcBit (crcBit (crcBit (crcBit (c ^^^ b.setWidth 32))))))))

/-- CRC-32 of bytes. -/
def crc32 (l : List Byte) : Nat := ((l.foldl crcByte 0xFFFFFFFF) ^^^ 0xFFFFFFFF).toNat

end Sys2Proof.Machine
end

