-- ==== Sys2Proof/Machine/QuayArray.lean ====
section
/-! DEFINITION. The Quay array: memories, steps, stream ports, distributor, collector, weight port, starting and stopping,
shadowing and swaps (10_quay_array.md R208 to R221; 14_cascade_ring.md R286, R291). Core q is c.k with q = 24c + k. -/

namespace Sys2Proof.Machine

/-! ## Clusters -/

/-- Cluster `c`. -/
def State.cluster (s : State) (c : Nat) : Cluster := (sparseFind s.quay.clusters c).getD {}

/-- Cluster `c` replaced. -/
def State.setCluster (s : State) (c : Nat) (x : Cluster) : State :=
  { s with quay := { s.quay with clusters := sparsePut (fun _ => ({} : Cluster)) s.quay.clusters c x } }

/-- OUT_VEC, IN_VEC and UNITS as applied, IN_BASE, OUT_BASE and DIR of cluster `c`. -/
def State.outVec (s : State) (c : Nat) : Nat :=
  let n := s.get (F.QCTL_C_CTL_OUT_VEC c)
  if n = 0 ∨ 8 < n then 8 else n
def State.inVec (s : State) (c : Nat) : Nat := atLeast1 (s.get (F.QCTL_C_MAP_IN_VEC c))
def State.unitsOf (s : State) (c : Nat) : Nat := atLeast1 (s.get (F.QCTL_C_MAP_UNITS c))
def State.inBase (s : State) (c : Nat) : Nat := s.get (F.QCTL_C_MAP_IN_BASE c)
def State.outBase (s : State) (c : Nat) : Nat := s.get (F.QCTL_C_MAP_OUT_BASE c)
def State.dirOf (s : State) (c : Nat) : Nat := s.get (F.QCTL_C_CTL_DIR c)

/-- Core `k` of cluster `c` is in service, in reserve, retired. -/
def State.inService (s : State) (c k : Nat) : Bool := bitAt (s.get (F.QCTL_C_STAT_CORES c)) k
def State.inReserve (s : State) (c k : Nat) : Bool := bitAt (s.get (F.QCTL_C_RSV_CORES c)) k

/-- The shadow core of the cluster of core `q` is `q` itself. -/
def State.isShadow (s : State) (q : Nat) : Bool :=
  match (s.cluster (q / 24)).shadow with
  | some h => 24 * (q / 24) + h.shadow == q
  | none => false

/-- The core whose Kq_CTL governs core `q`: the shadowed one for a shadow (R218). -/
def State.ctlIx (s : State) (q : Nat) : Nat :=
  match (s.cluster (q / 24)).shadow with
  | some h => if 24 * (q / 24) + h.shadow = q then 24 * (q / 24) + h.core else q
  | none => q

/-- Core `q` runs. -/
def State.coreRuns (s : State) (q : Nat) : Bool := s.up (domQCL (q / 24)) && s.flag (F.QCTL_K_STAT_RUNNING q)

/-! ## Memories (R215) -/

/-- The window address of a core's memories. -/
def coreBase (q : Nat) : Nat := 0x1000000 + q * 0x20000

/-- The bundle word at PC `b`. -/
def State.bundleWord (s : State) (q b : Nat) : Nat :=
  s.memWord (coreBase q + 8 * b) + 2 ^ 32 * s.memWord (coreBase q + 8 * b + 4)

/-- The 4-byte element at a window address: real part lower (R201). -/
def State.elemAt (s : State) (a : Nat) : Cx :=
  let w := s.memWord a
  ⟨toSigned 16 w, toSigned 16 (w / 65536)⟩

/-- The vector at a window address, without a tag (R199). -/
def State.vecAt (s : State) (a : Nat) : Vec := { lanes := lanes8 (fun i => s.elemAt (a + 4 * i)) }

/-- A vector stored; its tag is dropped (R199). -/
def State.setVecAt (s : State) (a : Nat) (v : Vec) : State :=
  s.each (List.range 8) (fun t i =>
    t.setMemWord (a + 4 * i) (ofSigned 16 (lane v.lanes i).re + 65536 * ofSigned 16 (lane v.lanes i).im))

/-- The memories of one core copied into another's (R218, R219). -/
def State.copyCore (s : State) (src dst : Nat) : State :=
  let cells := sparseKeep (fun a => decide (coreBase src ≤ a ∧ a < coreBase src + 0x1C000)) s.mem
  (s.clearRange (coreBase dst) (coreBase dst + 0x1C000)).each cells (fun t e =>
    t.setByte (e.1 - coreBase src + coreBase dst) e.2)

/-! ## Units and instants -/

/-- The point of chapter 19 whose samples a direction's blocks number: the layers. -/
def dirPoint (dir : Nat) : Nat := if dir = 0 then 1 else 2

/-- The instants of the lanes of block `n`. -/
def State.blockAt (s : State) (dir n : Nat) : List Nat := (List.range 8).map (fun i => s.tapAt (dirPoint dir) (8 * n + i))

/-- Unit number `i` dealt to a core since its start. -/
def Core.unit (x : Core) (i : Nat) : Option QUnit := if i < x.unit0 then none else x.units[i - x.unit0]?

/-- A unit belongs to the chain run that is in force: its block lies where it did when it was dealt. -/
def State.unitFresh (s : State) (c : Nat) (u : QUnit) : Bool :=
  decide (u.at_ = s.blockAt (s.dirOf c) u.blk)

/-! ## Weight port (R214) -/

/-- The vector that WP holds for a core and the number of saturated weight parts; none before its unit is dealt. -/
def State.wpVec (s : State) (q : Nat) : Option (Vec × Nat) :=
  let c := q / 24
  let x := s.core q
  let ov := s.outVec c
  let w := s.inVec c * ov
  match x.unit (x.wpR / w) with
  | none => none
  | some u =>
    let e := x.wpR % w
    let inp := s.inBase c + e / ov
    let out := s.outBase c + 8 * u.u + e % ov
    let dir := if s.dirOf c = 0 then 1 else 0
    let l := u.at_.map (fun t =>
      if s.dirOf c = 0 then (s.berthAt dir t).weight inp out else (s.berthAt dir t).weight out inp)
    some ({ lanes := l.map (fun p => p.1) }, l.foldl (fun a p => a + p.2) 0)

/-! ## Partial sums in (14_cascade_ring.md R286, R291) -/

/-- The ring ports at which partial sums reach this device: 0 east, 1 west. -/
def State.psumPorts (s : State) : List Nat :=
  let me := s.boot.chipId
  let w := s.get F.RING_STAT_WARC
  let e := s.get F.RING_STAT_EARC
  if me = 0 then (if w = 0 then [] else [1]) ++ (if e = 0 then [] else [0])
  else if bitAt w me then (if 2 ≤ me ∧ bitAt w (me - 1) = true then [1] else [])
  else if bitAt e me then (if bitAt e (me + 1) then [0] else [])
  else []

/-- A sample of a partial sum of a layer at an instant, with its INV and OVR and the section's STEP_HI. -/
def State.psumAt (s : State) (port layer t : Nat) : Option (Cx × Bool × Bool × Nat) :=
  let p := s.rxPeriod * 200000
  let ix (g : RingSum) : Nat := ((t - g.at_) * 3 * one32 + p / 2) / p
  match s.ring.psums.find? (fun g => g.port == port && g.layer == layer && decide (g.at_ ≤ t + 500000)
      && decide (ix g < g.data.length)) with
  | none => none
  | some g => some (nth cx0 g.data (ix g), bitAt g.inv (ix g), bitAt g.ovr (ix g / 16), g.step)

/-- The partial-sum vector of a layer over a block, from one port; none while a lane is absent. -/
def State.psumPort (s : State) (port layer : Nat) (at_ : List Nat) : Option Vec :=
  let l := at_.map (s.psumAt port layer)
  if l.all (fun o => o.isSome) then
    let m := l.map (fun o => o.getD (cx0, false, false, 0))
    some { lanes := m.map (fun e => e.1)
           tag := { stamp := stampOf (nth 0 at_ 0), tagged := true, step := maxOf 0 (m.map (fun e => e.2.2.2))
                    inv := maskOf ((List.range 8).filter (fun i => (nth (cx0, false, false, 0) m i).2.1))
                    ovr := maskOf ((List.range 8).filter (fun i => (nth (cx0, false, false, 0) m i).2.2.1)) } }
  else none

/-- A vector of zeros with INV in every lane (R213, R291). -/
def invZeros (t : Nat) : Vec := { tag := { stamp := stampOf t, tagged := true, inv := 255 } }

/-- The next vector of SI1 of core `q`, and the number of parts saturated in the sum of two arcs; none while it is empty. -/
def State.si1 (s : State) (q : Nat) : Option (Vec × Nat) :=
  let c := q / 24
  let x := s.core q
  let ov := s.outVec c
  if s.ringSize = 0 ∨ s.dirOf c ≠ 0 then none
  else if s.flag F.RING_CTL_PSUM_EN = false then some ({}, 0)
  else match x.unit (x.si1R / ov) with
    | none => none
    | some u =>
      let layer := s.outBase c + 8 * u.u + x.si1R % ov
      if x.late = some (x.si1R / ov) then some (invZeros (nth 0 u.at_ 0), 0)
      else match s.psumPorts with
        | [] => some ({}, 0)
        | [p] => (s.psumPort p layer u.at_).map (fun v => (v, 0))
        | p :: r :: _ =>
          match s.psumPort p layer u.at_, s.psumPort r layer u.at_ with
          | some v, some w =>
            let l := lanes8 (fun i => cxAdd (lane v.lanes i) (lane w.lanes i))
            some ({ lanes := l.map (cxSat 16), tag := tagMerge v.tag w.tag },
              l.foldl (fun a z => a + b2n (overS 16 z.re) + b2n (overS 16 z.im)) 0)
          | _, _ => none

/-! ## Shadow comparison (R218) -/

/-- Pairs of output vectors are compared as they come. -/
def State.shadowCompare (s : State) (c : Nat) : Nat → State
  | 0 => s
  | n + 1 =>
    let cl := s.cluster c
    match cl.shadow with
    | none => s
    | some h =>
      match h.outC, h.outS with
      | a :: as, b :: bs =>
        let t := s.setCluster c { cl with shadow := some { h with outC := as, outS := bs } }
        let u := if a = b then t
          else ((t.put (F.QCTL_C_SHADOW_STAT_CORE c) h.core).inc (F.QCTL_C_SHADOW_STAT_MISMATCH c)).raiseMs 0x0905 0 c
        State.shadowCompare u c n
      | _, _ => s

/-- An output vector of a cluster's shadowed core (`own` false) or of its shadow. -/
def State.shadowOut (s : State) (c : Nat) (own : Bool) (v : Vec) : State :=
  let cl := s.cluster c
  match cl.shadow with
  | none => s
  | some h =>
    let g := if own then { h with outS := h.outS ++ [v] } else { h with outC := h.outC ++ [v] }
    State.shadowCompare (s.setCluster c { cl with shadow := some g }) c 1

/-! ## The collector (R213) -/

/-- This device sends layers on its bricks: stand-alone or the head of its ring (13_fronthaul_messages.md R270). -/
def State.sendsLayers (s : State) : Bool := s.ringSize == 0 || s.boot.chipId == 0

/-- A layer vector leaves Quay: Gauge sees it, and its stream takes it. -/
def State.layerOut (s : State) (l : Nat) (u : QUnit) (v : Vec) : State :=
  if 32 ≤ l then s
  else
    let t := s.each (List.range 8) (fun w i =>
      w.gaugeTap 1 l { n := 8 * u.blk + i, v := lane v.lanes i, inv := bitAt v.tag.inv i, ovr := bitAt v.tag.ovr i
                       act := w.actAt (nth 0 u.at_ i) })
    if t.flag (F.FHM_RXS_CFG_EN l) && t.sendsLayers then
      { t with quay := { t.quay with layers := t.quay.layers ++ [(l, u.blk, v)] } }
    else t

/-- The next block of an antenna to play. -/
def State.txNextBlk (s : State) (a : Nat) : Nat := (sparseFind s.quay.txNext a).getD 0

/-- Waiting antenna vectors enter the chain in block order. -/
def State.antFlush (s : State) (a : Nat) : Nat → State
  | 0 => s
  | n + 1 =>
    let k := s.txNextBlk a
    match s.quay.txWait.find? (fun e => e.1 == a && e.2.1 == k) with
    | none => s
    | some e =>
      let t : State := { s with quay := { s.quay with
        txWait := s.quay.txWait.filter (fun x => !(x.1 == a && x.2.1 == k))
        txNext := sparseInsert s.quay.txNext a (k + 1) } }
      State.antFlush (t.each (List.range 8) (fun u i => u.txAlignPush a (lane e.2.2.lanes i))) a n

/-- An antenna vector leaves Quay. -/
def State.antOut (s : State) (a : Nat) (u : QUnit) (v : Vec) : State :=
  if s.hasPath a = false ∨ u.blk < s.txNextBlk a then s
  else
    let t : State := { s with quay := { s.quay with txWait := s.quay.txWait ++ [(a, u.blk, v)] } }
    t.antFlush a t.quay.txWait.length

/-- Output vector `j` of a unit of cluster `c` is placed. -/
def State.placeOut (s : State) (c : Nat) (u : QUnit) (j : Nat) (v : Vec) : State :=
  if s.unitFresh c u = false then s
  else
    let o := s.outBase c + 8 * u.u + j
    if s.dirOf c = 0 then s.layerOut o u v else s.antOut o u v

/-- The units of a core that no port needs any more are forgotten. -/
def State.trimUnits (s : State) (q : Nat) : State :=
  let c := q / 24
  let x := s.core q
  let ov := s.outVec c
  let done := maxOf 0 [x.so0W / ov, x.so1W / ov]
  let a := if s.flag (F.QCTL_K_CTL_WP_EN (s.ctlIx q)) then x.wpR / (s.inVec c * ov) else done
  let b := if s.ringSize = 0 ∨ s.dirOf c ≠ 0 then done else x.si1R / ov
  let m := minOf done [a, b]
  s.setCore q { x with units := x.units.drop (m - x.unit0), unit0 := maxOf x.unit0 [m] }

/-- A core has no unit left to deliver. -/
def State.coreIdle (s : State) (q : Nat) : Bool :=
  let x := s.core q
  let ov := s.outVec (q / 24)
  decide (x.unit0 + x.units.length ≤ maxOf 0 [x.so0W / ov, x.so1W / ov])

/-- A core out of service that has delivered its last unit stops (R219). -/
def State.drained (s : State) (q : Nat) : State :=
  let c := q / 24
  let cl := s.cluster c
  if bitAt cl.drain (q % 24) && s.coreIdle q then
    ((s.setCluster c { cl with drain := setBitAt cl.drain (q % 24) false }).putb (F.QCTL_K_CTL_RUN q) false).putb
      (F.QCTL_K_STAT_RUNNING q) false
  else s

/-- SO0 vectors whose unit is dealt go to the collector, or to the comparison for a shadow. -/
def State.collect (s : State) (q : Nat) : Nat → State
  | 0 => (s.trimUnits q).drained q
  | n + 1 =>
    let c := q / 24
    let x := s.core q
    let ov := s.outVec c
    match x.out0, x.unit (x.so0W / ov) with
    | v :: vs, some u =>
      let t := s.setCore q { x with out0 := vs, so0W := x.so0W + 1 }
      let w := if s.isShadow q then t.shadowOut c true v
        else
          let p := t.placeOut c u (x.so0W % ov) v
          match (p.cluster c).shadow with
          | some h => if 24 * c + h.core = q ∧ h.blk ≤ u.blk then p.shadowOut c false v else p
          | none => p
      State.collect w q n
    | _, _ => (s.trimUnits q).drained q

/-- This device sends partial sums from SO1 (14_cascade_ring.md R286, R291): a member in an arc, with PSUM_EN. -/
def State.psumSends (s : State) : Bool :=
  s.ringSize != 0 && s.boot.chipId != 0 && s.flag F.RING_CTL_PSUM_EN
    && bitAt (maskOr (s.get F.RING_STAT_WARC) (s.get F.RING_STAT_EARC)) s.boot.chipId

/-- FSREF of the gain word: 2 × (−22 + 20 log10(32,767 × 2^OUT_SHIFT ÷ (16 × 2,047))), rounded half up, in 8 bits
(13_fronthaul_messages.md, table "gain word"). -/
def State.fsref (s : State) : Nat := ofSigned 8 (logRound 40 (32767 * 2 ^ s.outShift) (16 * 2047) - 44)

/-- The GAIN word of a section: STEP of its first sample, the highest STEP, FSREF. -/
def State.gainWord (s : State) (steps : List Nat) : Nat := nth 0 steps 0 * 4096 + maxOf 0 steps * 256 + s.fsref

/-- The ring port partial sums leave by: east in the W arc, west in the E arc (14_cascade_ring.md R286). -/
def State.psumLink (s : State) : Nat := if bitAt (s.get F.RING_STAT_WARC) s.boot.chipId then 2 else 3

/-- A partial-sum section of a layer leaves: 16 vectors from block `b` on (14_cascade_ring.md R290). -/
def State.psumSection (s : State) (l b : Nat) : State :=
  let get (i : Nat) : Vec := match s.ring.sumsOut.find? (fun e => e.1 == l && e.2.1 == b + i) with
    | some e => e.2.2
    | none => invZeros (s.tapAt 1 (8 * (b + i)))
  let vs := (List.range 16).map get
  let data := vs.flatMap (fun v => v.lanes)
  let inv (i : Nat) : Bool := bitAt (nth ({} : Vec) vs (i / 8)).tag.inv (i % 8)
  let ovr (j : Nat) : Bool := (nth ({} : Vec) vs (2 * j)).tag.ovr != 0 || (nth ({} : Vec) vs (2 * j + 1)).tag.ovr != 0
  let n := ((List.range 128).filter inv).length
  let seq := (sparseFind s.ring.sumSeq l).getD 0
  let body := packSamples 3 data
  let h := sectionHeader (stampOf (s.tapAt 1 (8 * b))) l 3 8 n (if (List.range 8).any ovr then 8 else 0)
    (s.gainWord (vs.map (fun v => v.tag.step))) body.length
  let t : State := { s with ring := { s.ring with
    sumsOut := s.ring.sumsOut.filter (fun e => !(e.1 == l && decide (e.2.1 < b + 16)))
    sumSeq := sparseInsert s.ring.sumSeq l ((seq + 1) % 65536) } }
  t.emit (.frame t.psumLink 0 (iqPayload l seq h (body ++ packMask 128 inv ++ packMask 8 ovr)))

/-- The section of layer `l` that holds block `b` leaves once its vectors are complete, or once a later one has begun. -/
def State.psumFlush (s : State) (l b : Nat) : State :=
  let mine := s.ring.sumsOut.filter (fun e => e.1 == l)
  let first := minOf b (mine.map (fun e => e.2.1)) / 16 * 16
  if 16 ≤ (mine.filter (fun e => decide (e.2.1 < first + 16))).length ∨ first + 16 ≤ b then s.psumSection l first else s

/-- SO1 vectors whose unit is dealt go to the ring. -/
def State.collect1 (s : State) (q : Nat) : Nat → State
  | 0 => (s.trimUnits q).drained q
  | n + 1 =>
    let c := q / 24
    let x := s.core q
    let ov := s.outVec c
    match x.out1, x.unit (x.so1W / ov) with
    | v :: vs, some u =>
      let t := s.setCore q { x with out1 := vs, so1W := x.so1W + 1 }
      let l := s.outBase c + 8 * u.u + x.so1W % ov
      let w : State := if s.isShadow q || !s.unitFresh c u || !s.psumSends then t
        else State.psumFlush { t with ring := { t.ring with sumsOut := t.ring.sumsOut ++ [(l, u.blk, v)] } } l u.blk
      State.collect1 w q n
    | _, _ => (s.trimUnits q).drained q

/-- Units held by a core that stops are delivered as invalid zeros and counted (R213). -/
def State.loseUnits (s : State) (q : Nat) : State :=
  let c := q / 24
  let x := s.core q
  let ov := s.outVec c
  let done := maxOf 0 [x.so0W / ov, x.so1W / ov]
  let held := x.units.drop (done - x.unit0)
  let t := s.setCore q { x with units := [], unit0 := x.unit0 + x.units.length, out0 := [], out1 := [], si0 := [] }
  if s.isShadow q then t
  else
    let u := t.add (F.QCTL_C_LOST_COUNT c) held.length
    u.each held (fun v d => v.each (List.range ov) (fun w j =>
      if d = nth d held 0 ∧ j < (if x.so0W / ov = done then x.so0W % ov else 0) then w
      else w.placeOut c d j (invZeros (nth 0 d.at_ 0))))

/-! ## Starting and stopping (R200, R211, R216) -/

/-- A core starts at START_PC with FAULT, HALTED and WAIT clear. -/
def State.coreStart (s : State) (q : Nat) : State :=
  let pc := s.get (F.QCTL_K_CTL_START_PC (s.ctlIx q))
  (((((s.setCore q ((s.core q).fresh pc)).putb (F.QCTL_K_STAT_RUNNING q) true).putb (F.QCTL_K_STAT_HALTED q) false).putb
    (F.QCTL_K_STAT_FAULT q) false).put (F.QCTL_K_STAT_FCODE q) 0).put (F.QCTL_K_STAT_WAIT q) 0 |>.put
    (F.QCTL_K_STAT_PC q) pc

/-- A core stops where it is. -/
def State.coreStop (s : State) (q : Nat) : State :=
  ((s.loseUnits q).putb (F.QCTL_K_STAT_RUNNING q) false).put (F.QCTL_K_STAT_WAIT q) 0

/-- A refused write is counted; CFG_REJECT at most once per 1 ms (R215, R216). -/
def State.cfgReject (s : State) : State := (s.inc F.QCTL_REJ_CNT_COUNT).raiseMs 0x0908 0 0

/-- A write of Kq_CTL (R216). -/
def State.coreCtlWrite (s : State) (q v : Nat) : State :=
  if s.up (domQCL (q / 24)) = false then s
  else
    let run := s.flag (F.QCTL_K_CTL_RUN q)
    let lock := [F.QCTL_K_CTL_WRAP q, F.QCTL_K_CTL_SWAP_SAFE q, F.QCTL_K_CTL_WP_EN q, F.QCTL_K_CTL_START_PC q]
    let t := if run then
        (if lock.any (fun f => bitsAt v f.lo f.width != s.get f) then s.cfgReject else s)
      else s.each lock (fun u f => u.put f (bitsAt v f.lo f.width))
    let new := bitAt v 31
    let u := t.putb (F.QCTL_K_CTL_RUN q) new
    if run = new then u else if new then u.coreStart q else u.coreStop q

/-! ## A step (R204, R209, R211) -/

/-- The window address an X or Y access uses, with the low bits of the pointer ignored (R202). -/
def Core.xAddr (x : Core) (b : Bundle) : Nat := let p := x.ptr b.xp; if b.xmode = 2 then p / 4 * 4 else p / 32 * 32
def Core.yAddr (x : Core) (b : Bundle) : Nat := let p := x.ptr b.yp; if b.ymode = 2 then p / 4 * 4 else p / 32 * 32

/-- A slot mode that reaches memory. -/
def modeMem (m : Nat) : Bool := decide (1 ≤ m ∧ m ≤ 3)

/-- The fault a bundle meets, 0 none (R211). -/
def State.coreFault (s : State) (q : Nat) (b : Bundle) : Nat :=
  let x := s.core q
  if b.illegal then 1
  else if (modeMem b.xmode && decide (0xC000 ≤ x.xAddr b)) || (modeMem b.ymode && decide (0xC000 ≤ x.yAddr b)) then 2
  else if b.ymode == 4 && !s.flag (F.QCTL_K_CTL_WP_EN (s.ctlIx q)) then 3
  else if b.opc == 0x30 && x.nestBad b (bundleOf (s.bundleWord q (x.loopOf b).2.last)).opc then 4
  else 0

/-- What a bundle waits for, 0 nothing, 1 SI, 2 SO, 3 WP (R209). -/
def State.coreWaits (s : State) (q : Nat) (b : Bundle) : Nat :=
  let x := s.core q
  let si := b.xmode == 4 && (match b.xp % 4 with
    | 0 => x.si0.isEmpty
    | 1 => (s.si1 q).isNone
    | 2 => x.si2.isEmpty
    | _ => x.si3.isEmpty)
  let so := match b.soPort with
    | some 0 => decide (4 ≤ x.out0.length)
    | some 1 => decide (4 ≤ x.out1.length)
    | some 2 => decide (q % 24 < 23 ∧ 8 ≤ (s.core (q + 1)).si2.length)
    | some _ => decide (0 < q % 24 ∧ 8 ≤ (s.core (q - 1)).si3.length)
    | none => false
  if si then 1 else if so then 2 else if b.ymode == 4 && (s.wpVec q).isNone then 3 else 0

/-- The time a core has waited is added to Kq_WAIT, in nanoseconds. -/
def State.waitCount (s : State) (q : Nat) : State :=
  let x := s.core q
  match x.waitSince with
  | none => s
  | some a =>
    let d := s.aon - a + x.waitRem
    (s.setCore q { x with waitSince := none, waitRem := d % 65536 }).add (F.QCTL_K_WAIT_COUNT q) (d / 65536)

/-- A core waits. -/
def State.coreWait (s : State) (q code : Nat) : State :=
  let t := s.waitCount q
  (t.setCore q { t.core q with waitSince := some t.aon }).put (F.QCTL_K_STAT_WAIT q) code

/-- The value the X slot loads. -/
def State.xLoad (s : State) (q : Nat) (b : Bundle) : Vec :=
  let x := s.core q
  match b.xmode with
  | 1 => s.vecAt (coreBase q + 0x4000 + x.xAddr b)
  | 2 => { lanes := lanes8 (fun _ => s.elemAt (coreBase q + 0x4000 + x.xAddr b)) }
  | _ => match b.xp % 4 with
    | 0 => x.si0.head?.getD {}
    | 1 => ((s.si1 q).getD ({}, 0)).1
    | 2 => x.si2.head?.getD {}
    | _ => x.si3.head?.getD {}

/-- The value the Y slot loads. -/
def State.yLoad (s : State) (q : Nat) (b : Bundle) : Vec :=
  let x := s.core q
  match b.ymode with
  | 1 => s.vecAt (coreBase q + 0x10000 + x.yAddr b)
  | 2 => { lanes := lanes8 (fun _ => s.elemAt (coreBase q + 0x10000 + x.yAddr b)) }
  | _ => ((s.wpVec q).getD ({}, 0)).1

/-- What reading the stream and weight ports takes away, and what it counts. -/
def State.portsTake (s : State) (q : Nat) (b : Bundle) : State :=
  let x := s.core q
  let t := if b.xmode = 4 then
      match b.xp % 4 with
      | 0 => s.setCore q { x with si0 := x.si0.drop 1 }
      | 1 =>
        let u := s.setCore q { x with si1R := x.si1R + 1 }
        let k := ((s.si1 q).getD ({}, 0)).2
        if k = 0 ∨ s.isShadow q = true then u else (u.add F.RING_SAT_CNT_COUNT k).raiseMs 0x0D0C 0 0
      | 2 => s.setCore q { x with si2 := x.si2.drop 1 }
      | _ => s.setCore q { x with si3 := x.si3.drop 1 }
    else s
  if b.ymode = 4 then
    let y := t.core q
    let u := t.setCore q { y with wpR := y.wpR + 1 }
    if s.isShadow q then u else u.renormSat ((s.wpVec q).getD ({}, 0)).2
  else t

/-- The vector register a compute operation writes. -/
def Bundle.vdst (b : Bundle) : Option Nat :=
  if b.opc = 0x10 ∨ b.opc = 0x11 then some (bitsAt b.opd 11 4)
  else if 0x18 ≤ b.opc ∧ b.opc ≤ 0x1F then some (bitsAt b.opd 14 4)
  else none

/-- What the compute operation of a bundle gives: the vector it writes or sends, the accumulator it writes, and whether an
accumulator, and whether a 16-bit result, did not fit. -/
structure Computed where
  vec : Vec := {}
  acc : Option (Nat × Acc) := none
  accBad : Bool := false
  vecBad : Bool := false
  deriving DecidableEq, Repr

/-- The compute operation on a core's registers with the values its slots load (R204 to R207). -/
def Core.compute (x : Core) (wrap : Bool) (b : Bundle) (xv yv : Vec) : Computed :=
  let f (lo : Nat) : Nat := bitsAt b.opd lo 4
  let ad := bitsAt b.opd 15 3
  match opFormat b.opc with
  | 1 =>
    let va := if b.fa then xv else x.vreg (f 11)
    let vb := if b.fb then yv else x.vreg (f 7)
    let (a, o) := accOp b.opc (bitsAt b.opd 0 5) wrap (x.areg ad) va vb
    { acc := some (ad, a), accBad := o }
  | 2 =>
    let (v, o) := narrowAcc wrap (bitsAt b.opd 4 5) (x.areg ad)
    { vec := v, acc := if b.opc = 0x10 then none else some (ad, {}), vecBad := o }
  | 3 =>
    let va := if b.fa then xv else x.vreg (f 10)
    let vb := if b.fb then yv else x.vreg (f 6)
    let (v, o) := if b.opc = 0x20 then (va, false) else vecOp b.opc (bitsAt b.opd 0 3) wrap va vb
    { vec := v, vecBad := o }
  | _ => {}

/-- The vector registers after a step: each written by the X slot, the Y slot or the compute operation; one that two of them
write takes a free value, under draw `n` (log entry 2). -/
def Core.vregs (x : Core) (n : Nat) (b : Bundle) (xv yv : Vec) (r : Computed) : List Vec :=
  (List.range 16).map (fun i =>
    let w := (if modeLoads b.xmode && b.xv == i then [xv] else []) ++ (if modeLoads b.ymode && b.yv == i then [yv] else [])
      ++ (if b.vdst == some i then [r.vec] else [])
    match w with
    | [] => x.vreg i
    | [v] => v
    | _ => { lanes := lanes8 (fun j => ⟨toSigned 16 (Config.measured n (2 * j)), toSigned 16 (Config.measured n (2 * j + 1))⟩)
             tag := { stamp := BitVec.ofNat 64 (Config.measured n 16), tagged := bitAt (Config.measured n 17) 0
                      inv := Config.measured n 18 % 256, ovr := Config.measured n 19 % 256
                      step := Config.measured n 20 % 16, ovf := bitAt (Config.measured n 17) 1
                      wrp := bitAt (Config.measured n 17) 2, vsat := bitAt (Config.measured n 17) 3 } })

/-- Two writers meet in one vector register. -/
def Bundle.clash (b : Bundle) : Bool :=
  let w := (if modeLoads b.xmode then [b.xv] else []) ++ (if modeLoads b.ymode then [b.yv] else []) ++ b.vdst.toList
  !decide w.Nodup

/-- A vector written to an output stream port (R198). -/
def State.soWrite (s : State) (q port : Nat) (v : Vec) : State :=
  let x := s.core q
  match port with
  | 0 => (s.setCore q { x with out0 := x.out0 ++ [v] }).collect q (x.out0.length + 1)
  | 1 => if s.psumSends then (s.setCore q { x with out1 := x.out1 ++ [v] }).collect1 q (x.out1.length + 1) else s
  | 2 =>
    if q % 24 < 23 then
      let y := s.core (q + 1)
      s.setCore (q + 1) { y with si2 := y.si2 ++ [v] }
    else s
  | _ =>
    if 0 < q % 24 then
      let y := s.core (q - 1)
      s.setCore (q - 1) { y with si3 := y.si3 ++ [v] }
    else s

/-- A sticky bit of Kq_STAT set, with its event on the change from 0 to 1 (R212). -/
def State.sticky (s : State) (q : Nat) (f : Field) (code : Nat) (b : Bool) : State :=
  if b && !s.flag f then (s.putb f true).raise code (info2 (q / 24) (q % 24)) else s

/-- OVF and WRP share one event: it is raised when either goes from 0 to 1. -/
def State.stickies (s : State) (q : Nat) (wrap : Bool) (r : Computed) : State :=
  ((s.sticky q (F.QCTL_K_STAT_OVF q) 0x0902 (r.accBad && !wrap)).sticky q (F.QCTL_K_STAT_WRP q) 0x0902
    ((r.accBad || r.vecBad) && wrap)).sticky q (F.QCTL_K_STAT_VSAT q) 0x0903 r.vecBad

/-- HALT (R211). -/
def State.coreHalt (s : State) (q : Nat) : State :=
  ((s.coreStop q).putb (F.QCTL_K_STAT_HALTED q) true).raise 0x0904 (info2 (q / 24) (q % 24))

/-- A bundle faults: no effect, the core stops on it (R211). -/
def State.coreFaults (s : State) (q code : Nat) : State :=
  (((s.waitCount q).coreStop q).putb (F.QCTL_K_STAT_FAULT q) true).put (F.QCTL_K_STAT_FCODE q) code |>.raise 0x0901
    (info2 (q / 24) (q % 24))

/-- The registers of a core after a bundle: V, A, pointers, modifiers, PC and loops. -/
def Core.after (x : Core) (n : Nat) (b : Bundle) (xv yv : Vec) (r : Computed) : Core :=
  let (ms, ls) := x.modifiers b
  let y : Core := { x with v := x.vregs n b xv yv r, p := x.pointers b, m := ms, l := ls }
  let z := match r.acc with
    | some (i, a) => y.setA i a
    | none => y
  z.goOn b

/-- A bundle completes. -/
def State.coreDo (s : State) (q : Nat) (b : Bundle) : State :=
  let x := s.core q
  let wrap := s.flag (F.QCTL_K_CTL_WRAP (s.ctlIx q))
  let xv := s.xLoad q b
  let yv := s.yLoad q b
  let r := x.compute wrap b xv yv
  let (n, t0) := if b.clash then s.draw else (0, s)
  let t1 := t0.portsTake q b
  let t2 := t1.setCore q ((t1.core q).after n b xv yv r)
  let t3 := if b.xmode = 3 then t2.setVecAt (coreBase q + 0x4000 + x.xAddr b) (x.vreg b.xv) else t2
  let t4 := if b.ymode = 3 then t3.setVecAt (coreBase q + 0x10000 + x.yAddr b) (x.vreg b.yv) else t3
  let t5 := match b.soPort with
    | some p => t4.soWrite q p r.vec
    | none => t4
  let t6 := ((t5.stickies q wrap r).incWrap (F.QCTL_K_STEPS_COUNT q)).put (F.QCTL_K_STAT_PC q) (t5.core q).pc
  if b.opc = 0x3F then t6.coreHalt q else t6

/-- A running core takes the bundle at PC: it faults, waits or completes (R209, R211). -/
def State.coreTake (s : State) (q : Nat) (b : Bundle) : State :=
  let f := s.coreFault q b
  if f ≠ 0 then s.coreFaults q f
  else
    let w := s.coreWaits q b
    if w ≠ 0 then s.coreWait q w
    else ((s.waitCount q).put (F.QCTL_K_STAT_WAIT q) 0).coreDo q b

/-- The bundle at a core's PC. -/
def State.bundleAt (s : State) (q : Nat) : Bundle := bundleOf (s.bundleWord q (s.core q).pc)

/-- Core `q` takes its bundle if it runs and the bundle is a legal one with opcode `opc`. -/
def State.coreStep (s : State) (q opc : Nat) : State :=
  let b := s.bundleAt q
  if s.coreRuns q && !b.illegal && b.opc == opc then s.coreTake q b else s

/-- Core `q` takes its bundle if it runs and the bundle is illegal. -/
def State.coreIllegal (s : State) (q : Nat) : State :=
  let b := s.bundleAt q
  if s.coreRuns q && b.illegal then s.coreTake q b else s

/-- HOLD_NS after a core first waited on SI1, its unit's partial sums become invalid zeros (14_cascade_ring.md R291). -/
def State.psumTimeout (s : State) (q : Nat) : State :=
  let x := s.core q
  let b := s.bundleAt q
  if s.coreRuns q && b.xmode == 4 && b.xp % 4 == 1 && s.ringSize != 0 && (s.si1 q).isNone then
    let i := x.si1R / s.outVec (q / 24)
    match x.waitSince, x.unit i with
    | some a, some _ =>
      let t := s.elapseTo (a + nsU (atLeast1 (s.get F.RING_HOLD_HOLD_NS)))
      let u := t.setCore q { t.core q with late := some i }
      if s.isShadow q then u else (u.inc F.RING_LATE_CNT_COUNT).raiseMs 0x0D05 0 0
    | _, _ => s
  else s

/-! ## The distributor (R213, R216, R217) -/

/-- The cluster deals: RUN, its domain up, Run, and the chains of its direction. -/
def State.dealing (s : State) (c : Nat) : Bool :=
  s.up (domQCL c) && s.flag (F.QCTL_C_CTL_RUN c) && s.inRun
    && (if s.dirOf c = 0 then s.rxRunning else s.txRun)

/-- The first block of a direction that starts at or after now. -/
def State.nextBlock (s : State) (dir : Nat) : Nat :=
  let pt := dirPoint dir
  if s.tide.now ≤ s.tapAt pt 0 then 0
  else
    let n := s.tapIndex pt s.tide.now
    let j := if s.tapAt pt n < s.tide.now then n + 1 else n
    (j + 7) / 8

/-- DUC outputs formed from `n` inputs of `g` stages. -/
def ducCount : Nat → Nat → Nat
  | 0, n => n
  | g + 1, n => ducCount g (2 * (n - hbTaps (g + 1)))

/-- The DUC of an antenna goes on at block `n`: what lies between is a gap in which no sample comes. -/
def State.txJump (s : State) (a n : Nat) : State :=
  let x := s.txPath a
  let st := s.gStages
  let from_ := x.inIdx
  let to_ := 8 * n
  let t : State := { s with quay := { s.quay with txNext := sparseInsert s.quay.txNext a n
                                                  txWait := s.quay.txWait.filter (fun e => e.1 != a) } }
  if to_ ≤ from_ then t
  else
    let gap := (s.tx.startK + from_ * 2 ^ st, s.tx.startK + to_ * 2 ^ st)
    if from_ = 0 ∨ 16384 < to_ - from_ then
      t.setTxPath a { x with g1 := [], g2 := [], g3 := [], g4 := [], y := [], inIdx := to_
                             base := s.tx.startK + ducCount st to_, gaps := x.gaps ++ [gap] }
    else
      let (y, outs, _) := s.gRun st x from_ (List.replicate (to_ - from_) cx0)
      t.setTxPath a { y with y := y.y ++ outs, inIdx := to_, gaps := x.gaps ++ [gap] }

/-- The antennas of a transmit cluster. -/
def State.clusterAnts (s : State) (c : Nat) : List Nat :=
  ((List.range (s.unitsOf c)).flatMap (fun u => (List.range (s.outVec c)).map (fun j => s.outBase c + 8 * u + j))).filter
    (fun a => s.hasPath a)

/-- The distributor of a cluster begins at block `n`. -/
def State.dealBegin (s : State) (c n : Nat) : State :=
  let cl := s.cluster c
  let t := (s.setCluster c { cl with begun := true, next := n }).putb (F.QCTL_C_STAT_RUNNING c) true
  if s.dirOf c = 0 then t else t.each (t.clusterAnts c) (fun u a => u.txJump a n)

/-- The distributor stops. -/
def State.dealStop (s : State) (c : Nat) : State :=
  (s.setCluster c { s.cluster c with begun := false }).putb (F.QCTL_C_STAT_RUNNING c) false

/-- RUNNING follows what a cluster may do: it begins with the first block from now. -/
def State.dealCheck (s : State) (c : Nat) : State :=
  let cl := s.cluster c
  if s.dealing c then (if cl.begun then s else s.dealBegin c (s.nextBlock (s.dirOf c)))
  else if cl.begun then s.dealStop c else s

/-- Every cluster checked: on a change of power state or of the chains. -/
def State.dealCheckAll (s : State) : State := s.each (List.range 4) (fun t c => t.dealCheck c)

/-- The chains of a direction (0 RX, 1 TX) started: blocks are counted anew. -/
def State.quayChainStart (s : State) (dir : Nat) : State :=
  let t : State := if dir = 0 then { s with quay := { s.quay with ant := [], layers := [] } }
    else { s with quay := { s.quay with txWait := [], txNext := [], tapNext := [] } }
  t.each ((List.range 4).filter (fun c => t.dirOf c = dir)) (fun u c =>
    let v := if (u.cluster c).begun then u.dealStop c else u
    if v.dealing c then v.dealBegin c 0 else v)

/-- The sample of an antenna with number `j`. -/
def State.antSample (s : State) (p j : Nat) : Option RxSample :=
  ((sparseFind s.quay.ant p).getD []).find? (fun y => y.j == j)

/-- The vector of an antenna over block `n`; a lane without a sample is an invalid zero. -/
def State.antVec (s : State) (p n : Nat) : Vec :=
  let l := (List.range 8).map (fun i => s.antSample p (8 * n + i))
  let get (i : Nat) : RxSample := ((nth none l i).getD { inv := true })
  { lanes := lanes8 (fun i => (get i).v)
    tag := { stamp := stampOf (s.tapAt 1 (8 * n)), tagged := true, step := (get 0).step
             inv := maskOf ((List.range 8).filter (fun i => (get i).inv))
             ovr := maskOf ((List.range 8).filter (fun i => (get i).ovr)) } }

/-- The stored transmit sample of a layer at air index `k` (13_fronthaul_messages.md R273). -/
def State.layerSample (s : State) (l k : Nat) : Option Cx :=
  let st := 2 ^ s.gStages
  match s.msgs.store.find? (fun e => e.stream == l && decide (e.k ≤ k ∧ k < e.k + e.data.length * st)) with
  | none => none
  | some e => e.data[(k - e.k) / st]?

/-- The vector of a layer over block `n`, and the number of instants for which nothing is stored. -/
def State.layerVec (s : State) (l n : Nat) : Vec × Nat :=
  let v := (List.range 8).map (fun i => s.layerSample l (s.tx.startK + (8 * n + i) * 2 ^ s.gStages))
  ({ lanes := v.map (fun o => o.getD cx0), tag := { stamp := stampOf (s.tapAt 2 (8 * n)), tagged := true } },
    (v.filter (fun o => o.isNone)).length)

/-- The layers that a receive cluster's inputs still come from: paths that deliver. -/
def State.liveInputs (s : State) (c : Nat) : List Nat :=
  ((List.range (s.inVec c)).map (fun i => s.inBase c + i)).filter (fun p =>
    decide (p < 64) && s.tapLive 0 p && !s.rxRetired p && !(s.rxPath p).stopped)

/-- Block `n` can be dealt: every input that delivers has delivered it. -/
def State.blockReady (s : State) (c n : Nat) : Bool :=
  if s.dirOf c = 0 then
    let live := s.liveInputs c
    if live.isEmpty then decide (s.tapAt 1 (8 * n + 7) ≤ s.tide.now)
    else live.all (fun p => ((sparseFind s.quay.ant p).getD []).any (fun y => decide (8 * n + 7 ≤ y.j)))
  else true

/-- The next core of a cluster to be dealt a unit: in service, RUN, running, in ascending order after the last. -/
def State.dealCore (s : State) (c : Nat) : Option Nat :=
  let l := (s.cluster c).last
  ((List.range 24).map (fun i => (l + 1 + i) % 24)).find? (fun k =>
    s.inService c k && s.flag (F.QCTL_K_CTL_RUN (24 * c + k)) && s.coreRuns (24 * c + k))

/-- A unit with its input vectors goes to a core; what its ports already hold for it is placed. -/
def State.dealTo (s : State) (q : Nat) (u : QUnit) (vs : List Vec) : State :=
  let x := s.core q
  let t := s.setCore q { x with si0 := x.si0 ++ vs, units := x.units ++ [u] }
  (t.collect q x.out0.length).collect1 q x.out1.length

/-- One unit dealt (R213); a core under shadow shares it with its shadow (R218). -/
def State.dealUnit (s : State) (c : Nat) (u : QUnit) (vs : List Vec) : State :=
  match s.dealCore c with
  | none =>
    (s.inc (F.QCTL_C_LOST_COUNT c)).each (List.range (s.outVec c)) (fun t j =>
      t.placeOut c u j (invZeros (nth 0 u.at_ 0)))
  | some k =>
    let t := (s.setCluster c { s.cluster c with last := k }).dealTo (24 * c + k) u vs
    match (t.cluster c).shadow with
    | some h => if h.core = k ∧ h.blk ≤ u.blk ∧ (t.cluster c).swap = none then t.dealTo (24 * c + h.shadow) u vs else t
    | none => t

/-- Gauge sees the block of a transmit layer once. -/
def State.layerTap (s : State) (l n : Nat) (v : Vec) : State :=
  if (sparseFind s.quay.tapNext l).getD 0 ≤ n ∧ l < 32 then
    let t : State := { s with quay := { s.quay with tapNext := sparseInsert s.quay.tapNext l (n + 1) } }
    t.each (List.range 8) (fun u i => u.gaugeTap 2 l { n := 8 * n + i, v := lane v.lanes i })
  else s

/-- Receive samples that every dealing cluster has used are forgotten. -/
def State.antTrim (s : State) : State :=
  let l := (List.range 4).filter (fun c => s.dirOf c = 0 ∧ (s.cluster c).begun = true)
  match l.map (fun c => (s.cluster c).next) with
  | [] => { s with quay := { s.quay with ant := [] } }
  | n :: ns =>
    let m := minOf n ns
    { s with quay := { s.quay with ant := s.quay.ant.map (fun e => (e.1, e.2.filter (fun y => decide (8 * m ≤ y.j)))) } }

/-- A receive antenna sample reaches the Quay input; it is discarded while no receive cluster deals (R217). -/
def State.antPush (s : State) (p : Nat) (y : RxSample) : State :=
  if (List.range 4).any (fun c => decide (s.dirOf c = 0) && (s.cluster c).begun) then
    { s with quay := { s.quay with ant := sparseInsert s.quay.ant p ((sparseFind s.quay.ant p).getD [] ++ [y]) } }
  else s

/-- Transmit blocks are dealt this long ahead of their last air instant: the transmit budget less the arrival window and
the reserve (log entry 7). -/
def txLead : Nat := usU 10 + nsU 800

/-- The units of block `n` of a cluster. -/
def State.dealBlock (s : State) (c n : Nat) : State :=
  let at_ := s.blockAt (s.dirOf c) n
  let ins := (List.range (s.inVec c)).map (fun i => s.inBase c + i)
  if s.dirOf c = 0 then
    let vs := ins.map (fun p => if p < 64 then s.antVec p n else invZeros (nth 0 at_ 0))
    s.each (List.range (s.unitsOf c)) (fun t u => t.dealUnit c ⟨n, u, at_⟩ vs)
  else
    let vs := ins.map (fun l => s.layerVec l n)
    let gaps := vs.foldl (fun a v => a + v.2) 0
    let t := if s.ringSize ≠ 0 ∧ s.boot.chipId ≠ 0 then s.add F.RING_TXGAP_CNT_COUNT gaps else s
    let w := t.each (ins.zip vs) (fun u e => u.layerTap e.1 n e.2.1)
    w.each (List.range (s.unitsOf c)) (fun u k => u.dealUnit c ⟨n, k, at_⟩ (vs.map (fun v => v.1)))

/-- The distributor of cluster `c` deals its next block (R213). -/
def State.quayDeal (s0 : State) (c : Nat) : State :=
  let s := s0.dealCheck c
  let cl := s.cluster c
  if cl.begun then
    let t := if s.dirOf c = 0 then s else s.reachAbs (s.tapAt 2 (8 * cl.next + 7) - txLead)
    if t.blockReady c cl.next then
      let u := t.dealBlock c cl.next
      (u.setCluster c { u.cluster c with next := cl.next + 1 }).antTrim
    else t
  else s

/-! ## Writes of Cc_CTL and Cc_MAP, and of the memory window (R215, R216) -/

/-- The shadow of a cluster stops. -/
def State.shadowStop (s : State) (c : Nat) : State :=
  let cl := s.cluster c
  match cl.shadow with
  | none => s
  | some h =>
    (s.coreStop (24 * c + h.shadow)).setCluster c { cl with shadow := none }

/-- A write of Cc_CTL: fields other than RUN only while RUN = 0. -/
def State.clusterCtlWrite (s : State) (c v : Nat) : State :=
  if s.up (domQCL c) = false then s
  else
    let run := s.flag (F.QCTL_C_CTL_RUN c)
    let lock := [F.QCTL_C_CTL_DIR c, F.QCTL_C_CTL_SHADOW c, F.QCTL_C_CTL_OUT_VEC c]
    let t := if run then
        (if lock.any (fun f => bitsAt v f.lo f.width != s.get f) then s.cfgReject else s)
      else s.each lock (fun u f => u.put f (bitsAt v f.lo f.width))
    let u := (t.putb (F.QCTL_C_CTL_RUN c) (bitAt v 31)).dealCheck c
    if u.flag (F.QCTL_C_CTL_SHADOW c) then u else u.shadowStop c

/-- A write of Cc_MAP, only while RUN = 0. -/
def State.clusterMapWrite (s : State) (c v : Nat) : State :=
  if s.up (domQCL c) = false then s
  else if s.flag (F.QCTL_C_CTL_RUN c) then s.cfgReject
  else s.each [F.QCTL_C_MAP_IN_BASE c, F.QCTL_C_MAP_IN_VEC c, F.QCTL_C_MAP_OUT_BASE c, F.QCTL_C_MAP_UNITS c]
    (fun u f => u.put f (bitsAt v f.lo f.width))

/-- A word written in the memory window at address `a`: instruction memory only while the core's RUN = 0. -/
def State.quayWindowWrite (s : State) (a v : Nat) : State :=
  let q := (a - 0x1000000) / 0x20000
  let o := (a - 0x1000000) % 0x20000
  if s.up (domQCL (q / 24)) = false ∨ 0x1C000 ≤ o then s
  else if o < 0x4000 ∧ s.flag (F.QCTL_K_CTL_RUN q) = true then s.cfgReject
  else s.setMemWord a v

/-! ## Shadowing and swaps (R218, R219) -/

/-- The shadow's next turn: the lowest reserve core takes the memories of the next SWAP_SAFE core and starts; not while a
swap is pending, without a reserve, with SHADOW = 0 or outside Run. -/
def State.shadowTurn (s0 : State) (c : Nat) : State :=
  let due := match (s0.cluster c).shadow with
    | some h => s0.elapseTo (h.since + msU 10)
    | none => s0
  let s := due.shadowStop c
  let cl := s.cluster c
  if (s.up (domQCL c) && s.flag (F.QCTL_C_CTL_SHADOW c) && s.inRun && cl.swap == none) = false then s
  else
    let cores := ((List.range 24).map (fun i => (cl.turn + 1 + i) % 24)).filter (fun k =>
      s.inService c k && s.flag (F.QCTL_K_CTL_SWAP_SAFE (24 * c + k)))
    match bitList 24 (s.get (F.QCTL_C_RSV_CORES c)), cores with
    | r :: _, k :: _ =>
      let t := s.copyCore (24 * c + k) (24 * c + r)
      let u := t.setCluster c { cl with turn := k
                                        shadow := some { shadow := r, core := k, since := t.aon, blk := cl.next } }
      u.coreStart (24 * c + r)
    | _, _ => s

/-- The reason a swap is refused, 0 none (R219). -/
def State.swapReason (s : State) (c inn out : Nat) : Nat :=
  if (out < 24 && s.inService c out) = false then 2
  else if (inn < 24 && s.inReserve c inn) = false then 1
  else if s.flag (F.QCTL_K_CTL_SWAP_SAFE (24 * c + out)) = false then 3
  else if (s.cluster c).swap ≠ none then 4
  else 0

/-- Cc_SWAP.GO: the copy, or a refusal. -/
def State.swapGo (s : State) (c inn out : Nat) : State :=
  if s.up (domQCL c) = false then s
  else
    let r := s.swapReason c inn out
    let t := s.put (F.QCTL_C_SWAP_STAT_RESULT c) r
    if r ≠ 0 then t.raise 0x0907 0
    else
      let i := 24 * c + inn
      let o := 24 * c + out
      let u := (t.shadowStop c).copyCore o i
      let v := ((u.put (F.QCTL_K_CTL_START_PC i) (u.get (F.QCTL_K_CTL_START_PC o))).put (F.QCTL_K_CTL_WRAP i)
        (u.get (F.QCTL_K_CTL_WRAP o))).put (F.QCTL_K_CTL_WP_EN i) (u.get (F.QCTL_K_CTL_WP_EN o))
      let w := (v.putb (F.QCTL_K_CTL_RUN i) true).coreStart i
      (w.setCluster c { w.cluster c with swap := some { inn := inn, out := out, since := w.aon } }).putb
        (F.QCTL_C_SWAP_STAT_BUSY c) true

/-- A berth switch of a direction (0 TX, 1 RX) at instant `t`: the swaps that wait for it may go on (R219). -/
def State.quaySwitched (s : State) (dir t : Nat) : State :=
  s.each (List.range 4) (fun u c =>
    let cl := u.cluster c
    match cl.swap with
    | some w =>
      if (u.dirOf c = 0 ∧ dir = 1 ∨ u.dirOf c = 1 ∧ dir = 0) ∧ w.seen = none then
        u.setCluster c { cl with swap := some { w with seen := some t } }
      else u
    | none => u)

/-- OUT leaves service for IN: at the first block that starts at or after the berth switch, or 10 ms after the copy. -/
def State.swapSwitch (s0 : State) (c : Nat) : State :=
  match (s0.cluster c).swap with
  | none => s0
  | some w =>
    let s := match w.seen with
      | some _ => s0
      | none => s0.elapseTo (w.since + msU 10)
    let cl := s.cluster c
    let early := match w.seen with
      | some t => cl.begun && decide (s.tapAt (dirPoint (s.dirOf c)) (8 * cl.next) < t)
      | none => false
    if early then s
    else
      let t := ((s.setCluster c { cl with swap := none, drain := setBitAt cl.drain w.out true }).putb
        (F.QCTL_C_SWAP_STAT_BUSY c) false).put (F.QCTL_C_STAT_CORES c)
        (setBitAt (setBitAt (s.get (F.QCTL_C_STAT_CORES c)) w.out false) w.inn true)
      let u := (t.put (F.QCTL_C_RSV_CORES c) (setBitAt (t.get (F.QCTL_C_RSV_CORES c)) w.inn false)).put (F.QCTL_C_RET_CORES c)
        (setBitAt (t.get (F.QCTL_C_RET_CORES c)) w.out true)
      let v := (u.drained (24 * c + w.out)).raise 0x0906 0
      let x := if v.get (F.QCTL_C_RSV_CORES c) = 0 ∧ (v.cluster c).emptied = false then
          (v.setCluster c { v.cluster c with emptied := true }).raise 0x0909 0
        else v
      x.regrade 4

/-! ## Power (R216, R220) -/

/-- QCLc is lowered: programs, reserve map and retirements are lost. -/
def State.quayLower (s : State) (c : Nat) : State :=
  let t := s.clearRange (coreBase (24 * c)) (coreBase (24 * c + 24))
  { t with quay := { t.quay with
      cores := sparseKeep (fun q => q / 24 != c) t.quay.cores
      clusters := sparseErase t.quay.clusters c } }

/-- QCLc is raised: the QUAY sections of the image load its memories (their REG sections follow with the other domains'). -/
def State.quayRaise (s : State) (c : Nat) : State :=
  let ws := (s.boot.store.quay.flatMap (fun e => Config.quayBody e.2)).filter (fun e =>
    decide (coreBase (24 * c) ≤ e.1 ∧ e.1 < coreBase (24 * c + 24) ∧ e.1 % 4 = 0))
  s.each ws (fun t e => t.setMemWord e.1 e.2)

end Sys2Proof.Machine
end

