-- ==== Sys2Proof/Machine/Messages.lean ====
section
/-! DEFINITION. Fronthaul messages: IQ sections, the layer map, real-time control, gaps and event messages
(13_fronthaul_messages.md R263 to R281). -/

namespace Sys2Proof.Machine

/-! ## The layer map (R268, R269) -/

/-- The width of a brick in UP, 0 of one that is not. -/
def State.brickWidth (s : State) (b : Nat) : Nat := if s.brickUp b then s.get (lkWIDTH b) else 0

/-- Blocks of a section: 1 to 128, 0 applied as 1, above 128 as 128. -/
def blocksApplied (n : Nat) : Nat := if n = 0 then 1 else if 128 < n then 128 else n

/-- The load of a stream, in units of 1 / `loadUnit` Mbit/s: R × (2m + x + 256 ÷ N) × 1.0125 (R268). -/
def State.streamLoad (s : State) (m : Nat) : Nat :=
  let comp := s.get (F.FHM_RXS_CFG_COMP m)
  98304 * one32 * 81 * (s.msgs.nblk * (8 * compM comp + (if comp = 0 then 0 else 1)) + 64)

/-- See `State.streamLoad`. -/
def State.loadUnit (s : State) : Nat := 100 * s.rxPeriod * 320 * s.msgs.nblk

/-- The placement of streams in the order given: loads of A and B so far, streams on B, streams suspended. -/
def State.placeFrom (s : State) : List Nat → Nat × Nat × Nat × Nat → Nat × Nat × Nat × Nat
  | [], r => r
  | m :: ms, (ua, ub, onB, susp) =>
    let l := s.streamLoad m
    let fitA : Bool := decide (ua + l ≤ s.brickWidth 0 * 16000 * s.loadUnit)
    let fitB : Bool := decide (ub + l ≤ s.brickWidth 1 * 16000 * s.loadUnit)
    let h := s.get (F.FHM_RXS_CFG_HOME m)
    let toA : Bool := if h = 0 then fitA else !fitB && fitA
    let toB : Bool := if h = 0 then !fitA && fitB else fitB
    s.placeFrom ms
      (if toA then (ua + l, ub, onB, susp)
      else if toB then (ua, ub + l, setBitAt onB m true, susp)
      else (ua, ub, onB, setBitAt susp m true))

/-- Streams are enabled here: on a ring only the head carries IQ (R270). -/
def State.streamsOn (s : State) : List Nat :=
  if s.sendsLayers then (List.range 32).filter (fun m => s.flag (F.FHM_RXS_CFG_EN m)) else []

/-- The enabled streams in ascending (PRIO, m). -/
def State.placeOrder (s : State) : List Nat :=
  (List.range 256).flatMap (fun p => s.streamsOn.filter (fun m => s.get (F.FHM_RXS_CFG_PRIO m) == p))

/-- An event of the placement, once where any stream asks for it. -/
def State.placeEvent (s : State) (e mask : Nat) : State := if mask = 0 then s else s.raise (0x0C00 + e % 16) 0

/-- The placement of R269, its registers and its events. -/
def State.placement (s : State) : State :=
  let (ua, ub, onB, susp) := s.placeFrom s.placeOrder (0, 0, 0, 0)
  let now := maskOf s.streamsOn
  let both := maskAnd now s.msgs.placed
  let oldB := s.get F.FHM_RX_MAP_STREAMS
  let oldS := s.get F.FHM_RX_SUSP_STREAMS
  let moved := maskDiff (maskAnd both (Nat.xor oldB onB)) (maskOr oldS susp)
  let show_ (t : State) (b used : Nat) : State :=
    (t.put (F.FHM_B_LOAD_CAP b) (s.brickWidth b * 160)).put (F.FHM_B_LOAD_LOAD b)
      ((2 * used + 100 * s.loadUnit) / (200 * s.loadUnit))
  let t : State := { s with msgs := { s.msgs with placed := now } }
  let u := show_ (show_ ((t.put F.FHM_RX_MAP_STREAMS onB).put F.FHM_RX_SUSP_STREAMS susp) 0 ua) 1 ub
  ((u.placeEvent 6 moved).placeEvent 7 (maskDiff susp (maskAnd oldS both))).placeEvent 8
    (maskDiff (maskAnd both oldS) susp)

/-- Where stream `m` is placed: 0 A, 1 B, 2 suspended. -/
def State.placedOn (s : State) (m : Nat) : Nat :=
  if bitAt (s.get F.FHM_RX_SUSP_STREAMS) m then 2 else if bitAt (s.get F.FHM_RX_MAP_STREAMS) m then 1 else 0

/-- The receive chains start: RX_NBLK is taken, the streams are cut from here on and placed (R269, R271). -/
def State.fhmChainStart (s : State) : State :=
  let t := State.placement { s with msgs := { s.msgs with nblk := blocksApplied (s.get F.FHM_CTL_RX_NBLK) } }
  { t with msgs := { t.msgs with rxBlk := [], rxOn := (List.range 32).map (fun m => (m, t.placedOn m)) }
           quay := { t.quay with layers := [] } }

/-! ## Event messages (R279) -/

/-- EVENTS_LOST, owed since an event was dropped, once it can be queued. -/
def State.eventsLost (s : State) : State :=
  if s.msgs.lostOwed && s.anyBrickUp && s.flag F.FHM_CTL_EVT_EN && decide (s.msgs.notices.length < 64) then
    State.raise { s with msgs := { s.msgs with lostOwed := false } } 0x0C0B 0
  else s

/-- The bytes of one notification. -/
def noticeBytes (chip : Nat) (n : Notice) : List Byte := beBytes 2 n.code ++ beBytes 2 (chip % 4) ++ beBytes 4 n.info

/-- Up to 8 queued events leave in one type 7 message, on A where A is UP, else on B. -/
def State.eventSend (s : State) : State :=
  if s.msgs.notices.isEmpty || !s.anyBrickUp || !s.flag F.FHM_CTL_EVT_EN then s
  else
    let b := if s.brickUp 0 then 0 else 1
    let l := s.msgs.notices.take 8
    let seq := nth 0 s.msgs.seq7 b
    let payload := beBytes 1 s.msgs.eventId ++ [2] ++ beBytes 1 seq ++ beBytes 1 l.length
      ++ l.flatMap (noticeBytes s.boot.chipId)
    let t : State := { s with msgs := { s.msgs with
      notices := s.msgs.notices.drop 8
      eventId := (s.msgs.eventId + 1) % 256
      seq7 := setNth s.msgs.seq7 b ((seq + 1) % 256) } }
    (t.emit (.frame b 7 payload)).eventsLost

/-- EVT_EN was written: at 0 the queued events are discarded, uncounted. -/
def State.evtEnWritten (s : State) : State :=
  if s.flag F.FHM_CTL_EVT_EN then s.eventsLost else { s with msgs := { s.msgs with notices := [] } }

/-- The bricks after an event of the lane layer: a change of UP or width reruns the placement (R269); with no brick UP the
queued events are dropped and counted (R279). -/
def State.fhmLinks (s : State) : State :=
  let w := [s.brickWidth 0, s.brickWidth 1]
  if s.msgs.widths = w then s
  else
    let t := State.placement { s with msgs := { s.msgs with widths := w } }
    if t.anyBrickUp then t.eventsLost
    else if t.msgs.notices.isEmpty then t
    else
      let u := t.add F.FHM_EVT_LOST_COUNT t.msgs.notices.length
      { u with msgs := { u.msgs with notices := [], lostOwed := true } }

/-! ## Receive sections (R271, R272) -/

/-- Stream `m` has every vector of its section in progress, or a later one. -/
def State.sectionReady (s : State) (m b : Nat) : Bool :=
  let n := 2 * s.msgs.nblk
  let mine := s.quay.layers.filter (fun e => e.1 == m && decide (b ≤ e.2.1))
  decide (n ≤ (mine.filter (fun e => decide (e.2.1 < b + n))).length) || mine.any (fun e => decide (b + n ≤ e.2.1))

/-- The payload of a section of stream `m` from Quay block `b` on: a vector that never came is invalid zeros. -/
def State.sectionPayload (s : State) (m b seq : Nat) : List Byte :=
  let n := s.msgs.nblk
  let get (i : Nat) : Vec := match s.quay.layers.find? (fun e => e.1 == m && e.2.1 == b + i) with
    | some e => e.2.2
    | none => invZeros (s.tapAt 1 (8 * (b + i)))
  let vs := (List.range (2 * n)).map get
  let comp := s.get (F.FHM_RXS_CFG_COMP m)
  let inv (i : Nat) : Bool := bitAt (nth ({} : Vec) vs (i / 8)).tag.inv (i % 8)
  let cnt := ((List.range (16 * n)).filter inv).length
  let ovr := vs.any (fun v => v.tag.ovr != 0)
  let act := (List.range (16 * n)).any (fun i => s.actAt (s.tapAt 1 (8 * b + i)))
  let body := packSamples comp (vs.flatMap (fun v => v.lanes))
  let mask := if cnt = 0 then [] else packMask n (fun i => (List.range 16).any (fun j => inv (16 * i + j)))
  iqPayload m seq (sectionHeader (stampOf (s.tapAt 1 (8 * b))) m comp n cnt (8 * b2n ovr + 4 * b2n act)
    (s.gainWord (vs.map (fun v => v.tag.step))) (if cnt = 0 then 0 else body.length)) (body ++ mask)

/-- The next section of stream `m` is cut: formed and sent on its brick, lost where the brick has left UP, or not formed while
suspended. SEQ_ID advances each time; the placement acts from the next section on. -/
def State.sectionForm (s : State) (m : Nat) : State :=
  let b := (sparseFind s.msgs.rxBlk m).getD 0
  if s.rxRunning = false ∨ s.streamsOn.contains m = false ∨ s.sectionReady m b = false then s
  else
    let n := 2 * s.msgs.nblk
    let seq := (sparseFind s.msgs.rxSeq m).getD 0
    let on := (sparseFind s.msgs.rxOn m).getD 0
    let last := s.tapAt 1 (8 * (b + n) - 1)
    let t : State := { s with
      msgs := { s.msgs with
        rxSeq := sparseInsert s.msgs.rxSeq m ((seq + 1) % 65536)
        rxBlk := sparseInsert s.msgs.rxBlk m (b + n)
        rxOn := sparseInsert s.msgs.rxOn m (s.placedOn m) }
      quay := { s.quay with layers := s.quay.layers.filter (fun e => !(e.1 == m && decide (e.2.1 < b + n))) } }
    if on = 2 then t.inc (F.FHM_RXCNT_COUNT 3)
    else if s.brickUp on = false then t.inc (F.FHM_RXCNT_COUNT 2)
    else
      let u := (t.emit (.frame on 0 (s.sectionPayload m b seq))).inc (F.FHM_RXCNT_COUNT 0)
      if last + usU 8 < u.tide.now then (u.inc (F.FHM_RXCNT_COUNT 1)).raiseMs 0x0C05 0 0 else u

/-- RXSm_CFG was written: on a ring a stream beyond the ring load is not enabled (14_cascade_ring.md R287); the placement is
run again (R269). -/
def State.rxsWritten (s : State) (m : Nat) : State :=
  let n := ((List.range 32).filter (fun i => s.flag (F.FHM_RXS_CFG_EN i))).length
  let beyond := decide (128000 * 4082 * 1600 * s.rxPeriod < n * 98304 * one32 * 501 * 4096)
  let t := if s.ringSize ≠ 0 ∧ beyond = true then s.putb (F.FHM_RXS_CFG_EN m) false else s
  let u := t.placement
  if u.flag (F.FHM_RXS_CFG_EN m) then
    { u with msgs := { u.msgs with
        rxOn := if bitAt s.msgs.placed m then u.msgs.rxOn else sparseInsert u.msgs.rxOn m (u.placedOn m)
        rxBlk := if bitAt s.msgs.placed m then u.msgs.rxBlk
          else
            let n := 2 * u.msgs.nblk
            sparseInsert u.msgs.rxBlk m ((if u.rxRunning then u.nextBlock 0 + n - 1 else 0) / n * n) } }
  else { u with quay := { u.quay with layers := u.quay.layers.filter (fun e => e.1 != m) } }

/-! ## Transmit sections (R273, R274) -/

/-- Samples the section store holds: 8 MiB at 4 bytes. -/
def storeRoom : Nat := 2097152

/-- TXGRID shows the start of the transmit chains while they run, else 0. -/
def State.syncGrid (s : State) : State :=
  s.put64 F.FHM_TXGRID_LO_STAMP F.FHM_TXGRID_HI_STAMP (if s.txRun then stampOf (s.tapAt 2 0) else 0)

/-- The layer sample whose air instant is nearest a stamp, a tie going to the later; negative before the chain start. -/
def State.layerNearest (s : State) (a : Stamp) : Int :=
  let d : Int := (s.absOf a : Int) - (s.tapAt 2 0 : Int)
  let p := 2 ^ s.gStages
  divRound (d * 3) (200000 * p)

/-- The span of `n` layer samples from sample `k` on, in units since the epoch. -/
def State.layerSpan (s : State) (k n : Nat) : Nat × Nat := (s.tapAt 2 k, s.tapAt 2 (k + n))

/-- A settle or calibration span mutes some instant of [lo, hi) under cause 3. -/
def State.windowIn (s : State) (lo hi : Nat) : Bool :=
  s.tx.mutes.any (fun x => x.cause == 3 && decide (x.lo < hi) && (match x.hi with | none => true | some h => decide (lo < h)))

/-- On a trained ring the head uses and forwards stored samples rounded as m = 14 does (14_cascade_ring.md R292). -/
def State.roundsTx (s : State) : Bool := s.ringSize != 0 && s.get F.RING_STAT_MEMBERS != 0

/-- Sections whose span has passed leave the store. -/
def State.storeTrim (s : State) : State :=
  { s with msgs := { s.msgs with store := s.msgs.store.filter (fun e =>
      decide (s.tide.now < gridAt (e.k + e.data.length * 2 ^ s.gStages))) } }

/-- A section enters the store, in order of arrival. -/
def State.storePut (s : State) (stream k : Nat) (data : List Cx) : State :=
  let t := s.storeTrim
  { t with msgs := { t.msgs with store := t.msgs.store ++ [⟨stream, k, data⟩] } }

/-- SEQ_ID that skips values is counted once per skip. -/
def State.seqCheck (s : State) (stream seq : Nat) : State :=
  let t : State := { s with msgs := { s.msgs with txSeq := sparseInsert s.msgs.txSeq stream seq } }
  match sparseFind s.msgs.txSeq stream with
  | none => t
  | some q =>
    let d := (seq + 65536 - q) % 65536
    if 2 ≤ d ∧ d < 32768 then t.inc F.FHM_TX_SEQGAP_COUNT else t

/-- The outcome of a transmit section: its count c, with TX_LATE, TX_EARLY or TX_REFUSED. -/
def State.txOutcome (s : State) (c : Nat) : State :=
  let t := s.inc (F.FHM_TXCNT_COUNT c)
  if c = 1 then t.raiseMs 0x0C01 0 0 else if c = 2 then t.raiseMs 0x0C02 0 0 else t.raiseMs 0x0C03 0 0

/-- The checks 2 to 6 of R273 of a section of stream `l` from layer sample `n` on: 0 where all pass. -/
def State.txCheck (s : State) (l : Nat) (n : Int) (len : Nat) : Nat :=
  let p := 2 ^ s.gStages
  let at_ : Int := if n < 0 then (s.tapAt 2 0 : Int) - divRound (-n * 200000 * (p : Int)) 3 else (s.tapAt 2 n.toNat : Int)
  let k := s.tx.startK + n.toNat * p
  let live := s.storeTrim.msgs.store
  if s.inRun = false ∨ s.txRun = false ∨ s.sendsLayers = false then 6
  else if (s.tide.now : Int) < at_ - (usU 200 : Int) then 2
  else if at_ - (usU 18 : Int) < (s.tide.now : Int) then 1
  else if live.any (fun e => e.stream == l && decide (e.k < k + len * p ∧ k < e.k + e.data.length * p)) then 4
  else if storeRoom < len + (live.map (fun e => e.data.length)).foldl (· + ·) 0 then 5
  else 0

/-- A transmit section arrives whole on a brick (R273, R274). -/
def State.txSection (s : State) (b : Nat) (payload : List Byte) : State :=
  if s.brickUp b = false then s
  else match parseSection (fun n => (n + 7) / 8) payload with
  | none => s.txOutcome 3
  | some x =>
    let t := s.seqCheck x.stream x.seq
    let n := t.layerNearest x.stamp
    let c := t.txCheck x.stream n x.data.length
    if c ≠ 0 then t.txOutcome c
    else
      let k := t.tx.startK + n.toNat * 2 ^ t.gStages
      let clear := (blocksOf x.data).zipIdx.flatMap (fun (e : List Cx × Nat) =>
        if maskBit x.mask e.2 then e.1.map (fun _ => cx0) else e.1)
      let data := if t.roundsTx then bfpRound 14 clear else clear
      let u := (t.storePut x.stream k data).inc (F.FHM_TXCNT_COUNT 0)
      let (lo, hi) := u.layerSpan n.toNat data.length
      if u.windowIn lo hi then (u.inc (F.FHM_TXCNT_COUNT 7)).raiseMs 0x0C04 0 0 else u

/-! ## Real-time control (R275, R276) -/

/-- RESULT codes. -/
def rtcLATE : Nat := 1
def rtcFAR : Nat := 2
def rtcFULL : Nat := 3
def rtcCROWDED : Nat := 4
def rtcNOTFOUND : Nat := 5
def rtcSTATE : Nat := 6
def rtcRANGE : Nat := 7
def rtcUNKNOWN : Nat := 8

/-- The response to a type 2 command: to a refusal always, to a success when ACK asks for it. -/
def State.rtcReply (s : State) (b cmd flags seq result : Nat) (body : List Byte) : State :=
  if result = 0 ∧ bitAt flags 0 = false then s
  else s.emit (.frame b 2 ([BitVec.ofNat 8 (cmd + 0x80), BitVec.ofNat 8 flags] ++ beBytes 2 seq
    ++ [BitVec.ofNat 8 result, 0, 0, 0] ++ (body ++ [0, 0, 0, 0, 0, 0, 0, 0]).take 8))

/-- A type 2 command answered: RTC_REFUSED on a refusal. -/
def State.rtcAnswer (s : State) (b cmd flags seq result : Nat) (body : List Byte) : State :=
  (if result = 0 then s else s.raiseMs 0x0C0A 0 0).rtcReply b cmd flags seq result body

/-- The head of a ring with members forwards an accepted command to every member (14_cascade_ring.md R293). -/
def State.rtcForward (s : State) (cmd flags : Nat) (body : List Byte) : State :=
  if s.ringSize ≠ 0 ∧ s.boot.chipId = 0 ∧ s.get F.RING_STAT_MEMBERS ≠ 0 then
    s.emit (.ring 15 4 ([cmd, flags] ++ body.map (fun x => x.toNat)))
  else s

/-- LATE and FAR of a STAMP, 0 where neither. -/
def State.rtcTime (s : State) (a : Stamp) : Nat :=
  let d := stampDiff a s.stamp
  if d < (usU 12 : Int) then rtcLATE else if (sU 2 : Int) < d then rtcFAR else 0

/-- A control command: messages that the power state does not accept answer STATE, a body of another length UNKNOWN; `act`
gives the result and the state. From a port at Open it changes nothing, counts as a violation and is answered as a permitted one
would be (23_pilot_security_debug.md R449, R450; log entry 17). -/
def State.rtc (s : State) (b cmd flags seq : Nat) (body : List Byte) (len : Nat) (act : State → Nat × State) : State :=
  if s.brickUp b = false then s
  else
    let (r, t) := if body.length ≠ len then (rtcUNKNOWN, s) else if s.cur < 3 then (rtcSTATE, s) else act s
    if s.get (F.SEC_P_STAT_LEVEL (b + 1)) = 0 then (s.violation (b + 1) 0 true).rtcReply b cmd flags seq r body
    else (if r = 0 then t.rtcForward cmd flags body else t).rtcAnswer b cmd flags seq r body

/-- STAMP of a body. -/
def bodyStamp (body : List Byte) : Stamp := BitVec.ofNat 64 (beNat (body.take 8))

/-- DIR of FLAGS: 0 TX, 1 RX. -/
def rtcDir (flags : Nat) : Nat := bitsAt flags 1 1

/-- BERTH_ADD. -/
def State.rtcAdd (s : State) (b flags seq : Nat) (body : List Byte) : State :=
  s.rtc b 0x01 flags seq body 12 (fun t => t.schedAdd (rtcDir flags) (bodyStamp body) (beNat ((body.drop 8).take 2) % 512))

/-- BERTH_CANCEL. -/
def State.rtcCancel (s : State) (b flags seq : Nat) (body : List Byte) : State :=
  s.rtc b 0x02 flags seq body 8 (fun t =>
    let r := t.rtcTime (bodyStamp body)
    if r ≠ 0 then (r, t) else if t.inRun = false then (rtcSTATE, t) else t.schedCancel (rtcDir flags) (bodyStamp body))

/-- BERTH_FLUSH. -/
def State.rtcFlush (s : State) (b flags seq : Nat) (body : List Byte) : State :=
  s.rtc b 0x03 flags seq body 0 (fun t =>
    if t.inRun = false then (rtcSTATE, t) else (0, t.schedFlush (rtcDir flags)))

/-- GAP_STAT shows the gaps. -/
def State.syncGaps (s : State) : State :=
  let run := s.msgs.gaps.filter (fun g => g.begun)
  ((s.put F.FHM_GAP_STAT_HELD s.msgs.gaps.length).putb F.FHM_GAP_STAT_ACTIVE (!run.isEmpty)).put F.FHM_GAP_STAT_QUADS
    (match run with | g :: _ => g.quads | [] => 0)

/-- The gaps replaced. -/
def State.setGaps (s : State) (l : List Gap) : State := State.syncGaps { s with msgs := { s.msgs with gaps := l } }

/-- A gap placed in order of its start. -/
def placeGap (g : Gap) : List Gap → List Gap
  | [] => [g]
  | x :: xs => if before g.lo x.lo then g :: x :: xs else x :: placeGap g xs

/-- A gap asked for: RANGE, CROWDED, FULL, or held (R276). -/
def State.gapGrant (s : State) (lo : Stamp) (us quads : Nat) : Nat × State :=
  let hi := stampAdd lo (usU us)
  if us = 0 ∨ 1000000 < us ∨ s.presentQuads quads = 0 then (rtcRANGE, s)
  else if s.msgs.gaps.any (fun g => before lo g.hi && before g.lo hi) then (rtcCROWDED, s)
  else if 4 ≤ s.msgs.gaps.length then (rtcFULL, s)
  else (0, s.setGaps (placeGap ⟨lo, hi, quads, false⟩ s.msgs.gaps))

/-- GAP_GRANT. -/
def State.rtcGrant (s : State) (b flags seq : Nat) (body : List Byte) : State :=
  s.rtc b 0x10 flags seq body 16 (fun t =>
    let r := t.rtcTime (bodyStamp body)
    if r ≠ 0 then (r, t)
    else t.gapGrant (bodyStamp body) (beNat ((body.drop 8).take 4) % 2 ^ 20) (nth 0 body 12).toNat)

/-- A gap that has not begun is removed (R276). -/
def State.gapRevoke (s : State) (lo : Stamp) : Nat × State :=
  match s.msgs.gaps.find? (fun g => g.lo == lo) with
  | none => (rtcNOTFOUND, s)
  | some g => if g.begun then (rtcLATE, s) else (0, s.setGaps (s.msgs.gaps.filter (fun x => x.lo != lo)))

/-- GAP_REVOKE. -/
def State.rtcRevoke (s : State) (b flags seq : Nat) (body : List Byte) : State :=
  s.rtc b 0x11 flags seq body 8 (fun t =>
    let r := t.rtcTime (bodyStamp body)
    if r ≠ 0 then (r, t) else t.gapRevoke (bodyStamp body))

/-- NCO_RETUNE: FREQ, AT and ARM are written and the retune of R136 or R155 armed; a refused one changes nothing. -/
def State.rtcNco (s : State) (b flags seq : Nat) (body : List Byte) : State :=
  s.rtc b 0x20 flags seq body 16 (fun t =>
    let a := bodyStamp body
    let w := beNat ((body.drop 8).take 6)
    let f := toSigned 48 w
    let r := t.rtcTime a
    if r ≠ 0 then (r, t)
    else if rtcDir flags = 1 then
      if t.up domDSPRX = false then (rtcSTATE, t)
      else
        let (ok, u) := t.rxNcoGo f true a
        if ok then
          (0, (((u.put48 F.RXD_NCO_FREQ_LO_FREQ F.RXD_NCO_FREQ_HI_FREQ w).put64 F.RXD_NCO_AT_LO_STAMP
            F.RXD_NCO_AT_HI_STAMP a).putb F.RXD_NCO_CTL_ARM true))
        else (rtcRANGE, u)
    else if t.up domDSPTX = false then (rtcSTATE, t)
    else
      let (ok, u) := t.txNcoGo f true a
      if ok then
        (0, (((u.put48 F.TXD_NCO_FREQ_LO_FREQ F.TXD_NCO_FREQ_HI_FREQ w).put64 F.TXD_NCO_AT_LO_STAMP
          F.TXD_NCO_AT_HI_STAMP a).putb F.TXD_NCO_CTL_ARM true))
      else (rtcRANGE, u))

/-- SYN_RETUNE: the fields of R76 are written and the retune armed; a refused one changes nothing. -/
def State.rtcSyn (s : State) (b flags seq : Nat) (body : List Byte) : State :=
  s.rtc b 0x21 flags seq body 12 (fun t =>
    let a := bodyStamp body
    let n := (nth 0 body 8).toNat % 2
    let nn := (nth 0 body 9).toNat % 64
    let dv := (nth 0 body 10).toNat % 2
    let r := t.rtcTime a
    if r ≠ 0 then (r, t)
    else
      let (c, u) := t.synCommand n nn dv true a
      if c ≠ 0 then (c, u)
      else
        (0, ((((u.put (F.CLK_SYN_CTL_N n) nn).put (F.CLK_SYN_CTL_DIV n) dv).putb (F.CLK_SYN_CTL_ARM n) true).put64
          (F.CLK_SYN_AT_LO_STAMP n) (F.CLK_SYN_AT_HI_STAMP n) a)))

/-- A command code or body length that the table does not list. -/
def State.rtcUnknown (s : State) (b cmd flags seq : Nat) (body : List Byte) : State :=
  if s.brickUp b = false then s else s.rtcAnswer b cmd flags seq (if s.cur < 3 then rtcSTATE else rtcUNKNOWN) body

/-! ## Gaps run (R276) -/

/-- The earliest gap that has not begun begins. -/
def State.gapBegin (s : State) : State :=
  match s.msgs.gaps.find? (fun g => !g.begun) with
  | none => s
  | some g =>
    let t := s.reach g.lo
    let u := t.setGaps (t.msgs.gaps.map (fun x => if x.lo = g.lo then { x with begun := true } else x))
    ((u.rxCalStart).txCalStart).bcalStart

/-- The running gap ends and is removed. -/
def State.gapEnd (s : State) : State :=
  match s.msgs.gaps.find? (fun g => g.begun) with
  | none => s
  | some g =>
    let t := s.reach g.hi
    t.setGaps (t.msgs.gaps.filter (fun x => x.lo != g.lo))

/-! ## Leaving Run, clearing (R280) -/

/-- Run is left: section store, gaps and receive egress are discarded. -/
def State.fhmLeaveRun (s : State) : State :=
  let t := s.setGaps []
  { t with msgs := { t.msgs with store := [] }, quay := { t.quay with layers := [] } }

/-- CNT_CLR: every FHM counter (R273). -/
def State.fhmClear (s : State) : State :=
  let t := s.each (List.range 8) (fun u c => u.put (F.FHM_TXCNT_COUNT c) 0)
  let u := t.each (List.range 4) (fun v c =>
    ((v.put (F.FHM_RXCNT_COUNT c) 0).put (F.FHM_B_ERR_COUNT 0 c) 0).put (F.FHM_B_ERR_COUNT 1 c) 0)
  (u.put F.FHM_TX_SEQGAP_COUNT 0).put F.FHM_EVT_LOST_COUNT 0

end Sys2Proof.Machine
end

