-- ==== Sys2Proof/Machine/Chains.lean ====
section
/-! DEFINITION. Starts and stops of the receive and transmit chains with everything that counts from them: blocks, sections,
the transmit grid, Gauge and replay (07_receive_chain.md R143, R144; 08_transmit_path.md R158). -/

namespace Sys2Proof.Machine

/-- The receive chains after a write of RXD.CTL.RUN, or with their clocks: they start together, or stop. -/
def State.rxChains (s : State) : State :=
  let t := s.rxStart
  if t.rxRunning then ((t.gaugeRebase [0, 1]).fhmChainStart.quayChainStart 0).dealCheckAll else t.dealCheckAll

/-- The transmit chains after a write of TXD.CTL.RUN: they start together, or stop with every replay engine. -/
def State.txChains (s : State) : State :=
  if s.txRun then
    let t := s.txStart
    ((({ t with msgs := { t.msgs with store := [], txSeq := [] }, ring := { t.ring with fwd := [] } } : State).gaugeRebase [2, 3]).quayChainStart 1).dealCheckAll.syncGrid
  else ((s.txStop.each (List.range 4) State.rpEnd).dealCheckAll).syncGrid

/-! ## Retirement (06_receive_front_end_and_adc.md R130; 08_transmit_path.md R166) -/

/-- Pnn_STAT.RETIRED, RSV.RETIRED, kind 0 and the effective masks follow the RETIRE words. -/
def State.retiredSync (s : State) : State :=
  ((s.each s.paths (fun t p => t.putb (F.RXA_P_STAT_RETIRED p) (t.rxRetired p))).syncTx.countRetired.regrade 0).maskCheck

/-- RXA.RETIRE0 or RETIRE1 written: a path restored restarts its chain. -/
def State.rxRetire (s : State) (half mask : Nat) : State :=
  let f := if half = 0 then F.RXA_RETIRE0_PATHS else F.RXA_RETIRE1_PATHS
  let back := (bitList 32 (maskDiff (s.get f) mask)).map (fun i => i + 32 * half)
  let t := s.put f mask
  (t.rxRestart (back.filter (fun p => t.hasPath p && t.up (domRXQ (p / 8)) && !(t.rxPath p).stopped))).retiredSync

/-- TXA.RETIRE0 or RETIRE1 written: a path restored restarts its chain. -/
def State.txRetire (s : State) (half mask : Nat) : State :=
  let f := if half = 0 then F.TXA_RETIRE0_PATHS else F.TXA_RETIRE1_PATHS
  let back := (bitList 32 (maskDiff (s.get f) mask)).map (fun i => i + 32 * half)
  let t := s.put f mask
  let l := back.filter (fun p => t.hasPath p && t.up (domTXQ (p / 8)))
  (if t.txRun && !l.isEmpty then t.txRestartAt (maskOf l) t.restartInstant false else t).retiredSync

end Sys2Proof.Machine
end

