-- ==== Sys2Proof/Machine/FrontEnd.lean ====
section
/-! DEFINITION. The RFFE masters, TXGATE and mismatch detection (17_front_end_control_and_breakwater.md R342 to R348). The PA
sequencers are in Pa. -/

namespace Sys2Proof.Machine

/-! ## TXGATE (R342) -/

/-- TXGATE was written: it takes effect 2 µs later. -/
def State.txgateWritten (s : State) : State :=
  let now := match s.fend.txgateNext with
    | some (g, a) => if atOrAfter s.stamp a then g else s.fend.txgate
    | none => s.fend.txgate
  { s with fend := { s.fend with
    txgate := now, txgateNext := some (s.flag F.FEND_FE_CTL_TXGATE, stampAdd s.stamp (usU 2)) } }

/-! ## RFFE masters (R344 to R346) -/

/-- The RFFE master of quad `n`. -/
def State.rffe (s : State) (n : Nat) : Rffe := (sparseFind s.fend.rf n).getD {}

/-- It replaced, with BUSY and DEPTH. -/
def State.setRffe (s : State) (n : Nat) (x : Rffe) : State :=
  let t : State := { s with fend := { s.fend with rf := sparseInsert s.fend.rf n x } }
  (t.putb (F.FEND_RF_STAT_BUSY n) x.busy.isSome).put (F.FEND_RF_STAT_DEPTH n) x.queue.length

/-- Results of a push. -/
def rfOK : Nat := 0
def rfFULL : Nat := 1
def rfLIMIT : Nat := 2
def rfARG : Nat := 3
def rfLATE : Nat := 4
def rfFAR : Nat := 5
def rfSTATE : Nat := 6

/-- A command that writes. -/
def RfCmd.writes (c : RfCmd) : Bool := c.cmd == 0 || c.cmd == 2 || c.cmd == 3

/-- The register that byte `i` of a write falls on: Register 0 Write on 0, an extended write on ADDR + i. -/
def RfCmd.reg (c : RfCmd) (i : Nat) : Nat := if c.cmd = 2 then 0 else c.addr + i

/-- A write breaks an enabled limit entry of TUNE (R346). -/
def State.rfLimited (s : State) (n : Nat) (c : RfCmd) : Bool :=
  c.writes && (List.range 32).any (fun m =>
    s.flag (F.FEND_TUNE_EN m) && s.get (F.FEND_TUNE_MASTER m) == n && s.get (F.FEND_TUNE_USID m) == c.usid
      && c.data.zipIdx.any (fun (e : Byte × Nat) => c.reg e.2 == s.get (F.FEND_TUNE_ADDR m)
        && decide (e.1.toNat < s.get (F.FEND_TUNE_LIM_MIN m) ∨ s.get (F.FEND_TUNE_LIM_MAX m) < e.1.toNat)))

/-- The check of a push (R345). -/
def State.rfCheck (s : State) (n : Nat) (c : RfCmd) : Nat :=
  let d : Int := match c.at_ with
    | some a => stampDiff a s.stamp
    | none => (usU 1 : Int)
  if 16 ≤ (s.rffe n).queue.length then rfFULL
  else if 4 < c.cmd ∨ (c.cmd < 3 ∧ (31 < c.addr ∨ c.bc ≠ 0)) then rfARG
  else if d < (usU 1 : Int) then rfLATE
  else if (sU 2 : Int) < d then rfFAR
  else if s.hasQuad n = false ∨ (c.at_.isSome = true ∧ s.cur < 3) then rfSTATE
  else if s.rfLimited n c then rfLIMIT
  else rfOK

/-- The command that RFn_CMD, WDATA and AT spell. -/
def State.rfAsked (s : State) (n : Nat) (w : Word) : RfCmd :=
  let v := w.toNat
  let cmd := bitsAt v 24 3
  let bc := bitsAt v 16 4
  let bytes := (List.range 4).flatMap (fun j => leBytes 4 (s.get (F.FEND_RF_WDATA_DATA n j)))
  { cmd := cmd, usid := bitsAt v 20 4, bc := bc, addr := bitsAt v 0 8
    data := if cmd = 0 ∨ cmd = 2 then bytes.take 1 else if cmd = 3 then bytes.take (bc + 1) else []
    at_ := if bitAt v 30 then some (s.get64 (F.FEND_RF_AT_LO_AT n) (F.FEND_RF_AT_HI_AT n)) else none }

/-- A push onto the queue of master `n`, or its refusal. -/
def State.rfPush (s : State) (n : Nat) (c : RfCmd) : State :=
  let r := s.rfCheck n c
  let t := s.put (F.FEND_RF_STAT_RESULT n) r
  if r = rfOK then t.setRffe n { s.rffe n with queue := (s.rffe n).queue ++ [c] } else t.raiseMs 0x1009 0 0

/-- SCLK periods of a command (R344). -/
def RfCmd.periods (c : RfCmd) : Nat :=
  match c.cmd with
  | 0 => 25
  | 1 => 26
  | 2 => 25
  | 3 => 25 + 9 * (c.bc + 1)
  | _ => 26 + 9 * (c.bc + 1)

/-- One SCLK period: 152 × 2^SPEED ticks of the CPLL, or 4 × 2^SPEED of the internal oscillator. -/
def State.rfPeriod (s : State) (n : Nat) : Nat :=
  let k := 2 ^ s.get (F.FEND_RF_CTL_SPEED n)
  if s.cpllRuns then 152 * k * 50000 / 3 else nsU (40 * k)

/-- The command at the head of the queue starts on the bus, an armed one at its stamp. -/
def State.rfStart (s : State) (n : Nat) : State :=
  let x := s.rffe n
  match x.busy, x.queue with
  | none, c :: q =>
    let t := match c.at_ with
      | some a => s.reach a
      | none => s
    (t.setRffe n { queue := q, busy := some c, ends := t.aon + c.periods * t.rfPeriod n }).emit
      (.rffe n c.cmd c.usid c.addr c.data)
  | _, _ => s

/-- The command on the bus completes; a read writes its bytes, with the parity error it met. -/
def State.rfDone (s : State) (n : Nat) (bytes : List Byte) (perr : Bool) : State :=
  let x := s.rffe n
  match x.busy with
  | none => s
  | some c =>
    let t := (s.elapseTo x.ends).setRffe n { x with busy := none }
    if c.writes then t
    else
      let k := if c.cmd = 1 then 1 else c.bc + 1
      let data := (bytes ++ List.replicate 16 0).take k ++ List.replicate (16 - k) (0 : Byte)
      let u := t.each (List.range 4) (fun v j => v.put (F.FEND_RF_RDATA_DATA n j) (leNat ((data.drop (4 * j)).take 4)))
      let v := ((((u.putb (F.FEND_RF_RSTAT_VALID n) true).putb (F.FEND_RF_RSTAT_NEW n) true).incWrap
        (F.FEND_RF_RSTAT_SEQ n)).putb (F.FEND_RF_RSTAT_PERR n) perr).put (F.FEND_RF_RSTAT_BC n) (k - 1)
      if perr then v.raiseMs 0x1008 0 0 else v

/-! ## Mismatch detection (R347, R348) -/

/-- The checker of a path. -/
def State.mmPath (s : State) (p : Nat) : MmPath := (sparseFind s.fend.mm p).getD {}

/-- It replaced. -/
def State.setMm (s : State) (p : Nat) (x : MmPath) : State :=
  { s with fend := { s.fend with mm := sparseInsert s.fend.mm p x } }

/-- A detector result (0 to 65,535 over 1.8 V) as power at the antenna port, in 0.01 dBm. A SLOPE of 0 is a free value. -/
def State.detPower (s : State) (code : Int) : Int × State :=
  let slope : Int := ((s.get F.FEND_DET_CAL_SLOPE : Nat) : Int)
  let icpt : Int := ((s.get F.FEND_DET_CAL_ICPT : Nat) : Int)
  let cpl : Int := ((100 * s.get F.FEND_DET_CAL_CPL_DB : Nat) : Int)
  if slope = 0 then
    let (v, t) := s.draw
    (toSigned 16 v, t)
  else (divRound ((code * 1800 - icpt * 65535) * 10000) (65535 * slope) + cpl, s)

/-- The path was released and unmuted inside a burst. -/
def State.mmLive (s : State) (p : Nat) : Bool :=
  s.bwtr.burst.isSome && s.txReleased p && s.muteCause p s.tx.dacK true == 0 && s.bwReason p s.tx.dacK == none

/-- A qualifying pair is judged. -/
def State.mmJudge (s : State) (p : Nat) (pf rl : Int) (t : Nat) : State :=
  let x := s.mmPath p
  let dwell := atLeast1 (s.get F.FEND_MM_CTL_DWELL)
  let lim : Int := ((25 * s.get F.FEND_MM_CTL_RL_MIN : Nat) : Int)
  let in_ := s.flag (F.FEND_P_MM_MM p)
  let low := if rl < lim then x.runLow + 1 else 0
  let high := if lim + 100 ≤ rl then x.runHigh + 1 else 0
  let a := (((s.putb (F.FEND_P_MM_VALID p) true).putb (F.FEND_P_MM_NEW p) true).incWrap (F.FEND_P_MM_SEQ p))
  let b := (a.puti (F.FEND_P_MM_PF p) (divRound pf 10)).put (F.FEND_P_MM_RL p) (ofSigned 12 (satS 12 (divRound rl 10)))
  let c := b.setMm p { x with fwd := none, rev := none, runLow := low, runHigh := high }
  if !in_ && decide (dwell ≤ low) then
    let d := (((c.putb (F.FEND_P_MM_MM p) true).inc F.FEND_MM_CNT_COUNT).raise 0x1005 p).gaugeEvent 4 t
    d.setMm p { (d.mmPath p) with runHigh := 0 }
  else if in_ && decide (dwell ≤ high) then
    let d := (c.putb (F.FEND_P_MM_MM p) false).raise 0x1006 p
    d.setMm p { (d.mmPath p) with runLow := 0 }
  else c

/-- A detector result of path `p`, forward or reverse, converted at instant `t`: paired with the other one; a qualifying
forward reading goes to Breakwater's cross-check. -/
def State.detector (s0 : State) (p : Nat) (rev : Bool) (code : Int) (ovr : Bool) (t : Nat) : State :=
  let (pw, s) := s0.detPower code
  let live := s.mmLive p && !ovr
  let x := s.mmPath p
  let s1 := s.setMm p (if rev then { x with rev := some (pw, live) } else { x with fwd := some (pw, live) })
  match (s1.mmPath p).fwd, (s1.mmPath p).rev with
  | some (pf, qf), some (pr, qr) =>
    let ok := qf && qr && decide (100 * s1.geti F.FEND_MM_CTL_PF_MIN ≤ pf)
    let u := s1.setMm p { (s1.mmPath p) with fwd := none, rev := none }
    if ok then (u.mmJudge p pf (pf - pr) t).bwCompare p pf t else u
  | _, _ => s1

/-- CNT_CLR: every FEND counter (R342). -/
def State.fendClear (s : State) : State :=
  ((((s.put F.FEND_IGN_CNT_COUNT 0).put F.FEND_RNG_REJ_COUNT 0).put F.FEND_MM_CNT_COUNT 0).put F.FEND_COEX_SHORT_COUNT
    0).put F.FEND_ACT_CNT_COUNT 0

end Sys2Proof.Machine
end

