-- ==== Sys2Proof/Machine/Monitors.lean ====
section
/-! DEFINITION. The monitor converters: sequences, injected groups, results and calibration (18_monitor_converters.md R360 to
R374). Raw conversions come as operands: code, and 0, 1 or 2 for a comparator that did not trip, tripped low or tripped high.
-/

namespace Sys2Proof.Machine

/-- Bank `b`. -/
def State.bank (s : State) (b : Nat) : MonBank := (sparseFind s.mon.banks b).getD {}

/-- CTL.MODE, 3 applied as 0. -/
def State.monMode (s : State) (b : Nat) : Nat := let m := s.get (F.MON_CTL_MODE b); if m = 3 then 0 else m

/-- The bank replaced, with its STAT. -/
def State.setBank (s : State) (b : Nat) (x : MonBank) : State :=
  let t : State := { s with mon := { s.mon with banks := sparseInsert s.mon.banks b x } }
  (((t.putb (F.MON_STAT_CAL_BUSY b) x.calEnd.isSome).putb (F.MON_STAT_INJ_BUSY b) (x.inj == 2)).putb (F.MON_STAT_INJ_PEND b)
    (x.inj == 1)).putb (F.MON_STAT_ARMED b) x.armed.isSome

/-- The bank is idle: MODE = 0, no conversion, group or calibration in progress (R373). -/
def State.monIdle (s : State) (b : Nat) : Bool :=
  let x := s.bank b
  s.monMode b == 0 && !x.running && decide (x.stopAt ≤ s.aon) && x.inj == 0 && x.calEnd.isNone && !s.flag (F.MON_STAT_CAL_PEND b)

/-- A refused write: MON CFG_REJECT. -/
def State.monReject (s : State) (b : Nat) : State := s.raiseMs 0x1204 b 0

/-- The address of the entry word number `i` of a bank: SEQ00 to SEQ31, then INJ0 to INJ3. -/
def monEntry (b i : Nat) : Nat := 0x120100 + 0x400 * (b % 4) + 4 * (i % 36)

/-- The address of its result. -/
def monResult (b i : Nat) : Nat := 0x120200 + 0x400 * (b % 4) + 4 * (i % 36)

/-- Fields of an entry word: DIFF, 2^AVG with AVG at most 4, INPUT. -/
def entDiff (w : Word) : Bool := bitAt w.toNat 15
def entConvs (w : Word) : Nat := let a := bitsAt w.toNat 12 3; 2 ^ (if 4 < a then 4 else a)
def entInput (w : Word) : Nat := bitsAt w.toNat 0 6

/-- The time of `n` conversions. -/
def convT (n : Nat) : Nat := nsU (500 * n)

/-! ## The regular sequence (R365) -/

/-- The entry in progress or next starts converting at AON instant `a`. -/
def State.entryStart (s : State) (b a : Nat) : State :=
  let e := s.get (F.MON_STAT_ENTRY b)
  s.setBank b { s.bank b with first := some a, left := entConvs (s.word (monEntry b e)), from_ := a }

/-- A pass starts at AON instant `a`. -/
def State.passStart (s : State) (b a : Nat) : State :=
  ((s.put (F.MON_STAT_ENTRY b) 0).setBank b { s.bank b with running := true, passStart := a }).entryStart b a

/-- Nothing but the regular sequence uses the converter. -/
def MonBank.free (x : MonBank) : Bool := x.inj != 2 && x.calEnd.isNone

/-- The earliest AON instant at which a pass may start now. -/
def State.passAt (s : State) (b : Nat) : Nat :=
  match (s.bank b).calEnd with
  | some e => maxOf s.aon [e]
  | none => s.aon

/-- GO in MODE 2: one pass, unless one runs. -/
def State.monGo (s : State) (b : Nat) : State :=
  if s.monMode b = 2 ∧ (s.bank b).running = false then s.passStart b (s.passAt b) else s

/-- The next pass of a continuous bank starts at its period, or at once when that has passed. -/
def State.passNext (s : State) (b : Nat) : State :=
  let x := s.bank b
  if s.monMode b = 1 ∧ x.running = false ∧ x.free = true then
    let a := x.passStart + usU (s.get (F.MON_CTL_PERIOD_US b))
    let t := s.elapseTo a
    t.passStart b (t.passAt b)
  else s

/-- MODE was written: 0 stops after the conversion in progress, 1 starts at once. -/
def State.modeWritten (s : State) (b : Nat) : State :=
  let x := s.bank b
  match s.monMode b with
  | 0 =>
    if x.running then
      let done := (s.aon - x.from_ + convT 1 - 1) / convT 1
      s.setBank b { x with running := false, first := none, left := 0, stopAt := x.from_ + convT done }
    else s
  | 1 => if x.running then s else s.passStart b (s.passAt b)
  | _ => s

/-- A write of CTL: MODE always, the other fields only while the bank is idle (R373). -/
def State.monCtl (s : State) (b v : Nat) : State :=
  let old := (s.word (0x120000 + 0x400 * b)).toNat
  let keep (x : Nat) : Nat := setBitsAt (setBitsAt x 29 1 0) 30 2 0
  let other := keep (maskAnd v 0x101FFFFF)
  let t := if other = keep old then s
    else if s.monIdle b then s.setWord (0x120000 + 0x400 * (b % 4)) (BitVec.ofNat 32 (other + 2 ^ 30 * s.get (F.MON_CTL_MODE b)))
    else s.monReject b
  let u := (t.put (F.MON_CTL_MODE b) (let m := bitsAt v 30 2; if m = 3 then 0 else m)).modeWritten b
  if bitAt v 29 then u.monGo b else u

/-- A write of entry word `i` (R361, R373): applied while idle, clearing its result, else rejected. -/
def State.monSeqWrite (s : State) (b i v : Nat) : State :=
  let w := BitVec.ofNat 32 (maskAnd v 0xF03F)
  if s.monIdle b = false ∨ (entDiff w = true ∧ [50, 52, 54].contains (entInput w) = false) then s.monReject b
  else (s.setWord (monEntry b i) w).setWord (monResult b i) 0

/-! ## Results (R362, R363, R370, R371) -/

/-- The limits of a format. -/
def monLo (diff : Bool) : Int := if diff then -32768 else 0
def monHi (diff : Bool) : Int := if diff then 32767 else 65535

/-- A conversion corrected, or the limit code where the comparator tripped. -/
def State.monCorrect (s : State) (b : Nat) (diff : Bool) (r : Int × Nat) : Int :=
  if r.2 = 1 then monLo diff
  else if r.2 = 2 then monHi diff
  else clampInt (monLo diff) (monHi diff)
    (rnd 15 ((r.1 - s.geti (F.MON_CAL_RES_OFS b)) * ((s.get (F.MON_CAL_RES_GAIN b) : Nat) : Int)))

/-- The stamp of an AON instant a little while ago. -/
def State.stampOfAon (s : State) (a : Nat) : Stamp := stampSub s.stamp (s.aon - a)

/-- The result of entry `i` is written from its conversions, the first at AON instant `at_`; detector results go to their
consumers. Inputs that nothing connects read 0 V (R6, R360). -/
def State.monWrite (s : State) (b i at_ : Nat) (raws : List (Int × Nat)) : State :=
  let w := s.word (monEntry b i)
  let n := entConvs w
  let inp := entInput w
  let dark := s.part == .um6432 && decide (2 ≤ b) && decide (inp < 48)
  let l := (List.range n).map (fun k => if dark then ((0 : Int), 0) else nth ((0 : Int), 0) raws k)
  let code := divRound (sumInt (l.map (s.monCorrect b (entDiff w)))) (n : Int)
  let ovr := l.any (fun r => r.2 != 0)
  let old := (s.word (monResult b i)).toNat
  let word := 2 ^ 31 + 2 ^ 30 + 2 ^ 26 * ((bitsAt old 26 4 + 1) % 16) + 2 ^ 25 * b2n ovr + ofSigned 16 code
  let st := s.stampOfAon at_
  let t : State := { s with mon := { s.mon with stamps := sparseInsert s.mon.stamps (64 * b + i) st } }
  let u := t.setWord (monResult b i) (BitVec.ofNat 32 word)
  let v := if ovr then (u.inc (F.MON_OVR_CNT_COUNT b)).raiseMs 0x1205 b b else u
  if inp < 32 ∧ entDiff w = false then v.detector (16 * b + inp % 16) (decide (16 ≤ inp)) code ovr (v.absOf st) else v

/-- The regular entry in progress ends: its result is written 100 ns after its last conversion. -/
def State.entryDone (s : State) (b : Nat) (raws : List (Int × Nat)) : State :=
  let x := s.bank b
  match x.first with
  | none => s
  | some f =>
    let e := s.get (F.MON_STAT_ENTRY b)
    let end_ := x.from_ + convT x.left
    let t := (s.elapseTo (end_ + nsU 100)).monWrite b e f raws
    if e < t.get (F.MON_CTL_LEN b) then (t.put (F.MON_STAT_ENTRY b) (e + 1)).entryStart b end_
    else
      let y := t.bank b
      ((t.put (F.MON_STAT_ENTRY b) 0).setBank b { y with running := false, first := none, left := 0 }).incWrap (F.MON_STAT_PASSES b)

/-- The injected entry in progress ends; after the last one the regular sequence goes on (R367). -/
def State.injDone (s : State) (b : Nat) (raws : List (Int × Nat)) : State :=
  let x := s.bank b
  let n := entConvs (s.word (monEntry b (32 + x.injIdx)))
  let end_ := x.injFrom + convT n
  let t := (s.elapseTo (end_ + nsU 100)).monWrite b (32 + x.injIdx) x.injFrom raws
  let y := t.bank b
  if y.injIdx < t.get (F.MON_INJ_CTL_LEN b) then t.setBank b { y with injIdx := y.injIdx + 1, injFrom := end_ }
  else
    t.setBank b { y with inj := 0, injIdx := 0
                         from_ := if y.first.isSome && decide (0 < y.left) then end_ else y.from_ }

/-- MON_RESULT_WRITE: the entry being converted ends with these conversions. -/
def State.monResultWrite (s : State) (b : Nat) (raws : List (Int × Nat)) : State :=
  let x := s.bank b
  if x.calEnd.isSome then s
  else if x.inj = 2 then s.injDone b raws
  else if x.running then s.entryDone b raws
  else s

/-- A read of result `i`: its stamp is latched and NEW is cleared (R370). -/
def State.monRead (s : State) (b i : Nat) : State :=
  let w := (s.word (monResult b i)).toNat
  (s.setWord (monResult b i) (BitVec.ofNat 32 (setBitAt w 30 false))).put64 (F.MON_RD_AT_LO_STAMP b) (F.MON_RD_AT_HI_STAMP b)
    ((sparseFind s.mon.stamps (64 * b + i)).getD 0)

/-- A result word as ALIGN places it (R369). -/
def State.monShown (s : State) (b : Nat) (w : Word) : Word :=
  if s.flag (F.MON_CTL_ALIGN b) then (w <<< 16) ||| (w >>> 16) else w

/-! ## The injected group (R366 to R368) -/

/-- A trigger: the group becomes pending, or the trigger is dropped. -/
def State.injTrigger (s : State) (b : Nat) : State :=
  let x := s.bank b
  if x.inj = 0 then s.setBank b { x with inj := 1 } else (s.inc (F.MON_INJ_DROP_COUNT b)).raiseMs 0x1203 b b

/-- INJ_PERIOD in stamp units, 0 applied as 1 µs. -/
def State.injPeriod (s : State) (b : Nat) : Nat := usU (atLeast1 (s.get (F.MON_INJ_PERIOD_PERIOD_US b)))

/-- TRIG or INJ_AT changed: any armed trigger is replaced (R366, R373). -/
def State.injArm (s : State) (b : Nat) : State :=
  let x := s.bank b
  let a := s.get64 (F.MON_INJ_AT_LO_STAMP b) (F.MON_INJ_AT_HI_STAMP b)
  let d := stampDiff a s.stamp
  match s.get (F.MON_INJ_CTL_TRIG b) with
  | 1 =>
    if d < (usU 1 : Int) then (s.setBank b { x with armed := none }).injTrigger b
    else s.setBank b { x with armed := some a }
  | 2 =>
    let p := s.injPeriod b
    let k := if (usU 1 : Int) ≤ d then 0 else ((usU 1 : Int) - d).toNat / p + (if ((usU 1 : Int) - d).toNat % p = 0 then 0 else 1)
    s.setBank b { x with armed := some (stampAdd a (k * p)) }
  | _ => s.setBank b { x with armed := none }

/-- A write of INJ_CTL: TRIG and LEN, and GO. -/
def State.injCtl (s : State) (b v : Nat) : State :=
  let trig := let m := bitsAt v 29 2; if m = 3 then 0 else m
  let old := s.get (F.MON_INJ_CTL_TRIG b)
  let t := (s.put (F.MON_INJ_CTL_TRIG b) trig).put (F.MON_INJ_CTL_LEN b) (v % 4)
  let u := if trig = old then t else t.injArm b
  if bitAt v 31 then u.injTrigger b else u

/-- The armed trigger reaches its stamp. -/
def State.injFire (s : State) (b : Nat) : State :=
  match (s.bank b).armed with
  | none => s
  | some a =>
    let t := s.reach a
    let next := if t.get (F.MON_INJ_CTL_TRIG b) = 2 then some (stampAdd a (t.injPeriod b)) else none
    (t.setBank b { t.bank b with armed := next }).injTrigger b

/-- Conversions of the entry in progress done by the next boundary at or after now, and that boundary. -/
def State.boundaryAt (s : State) (b : Nat) : Nat × Nat :=
  let x := s.bank b
  if x.running && x.first.isSome then
    let k := (s.aon - x.from_ + convT 1 - 1) / convT 1
    let d := if x.left < k then x.left else k
    (d, x.from_ + convT d)
  else (0, maxOf s.aon [x.stopAt])

/-- The pending group starts at the next conversion boundary; the regular entry is suspended there (R367). -/
def State.injStart (s : State) (b : Nat) : State :=
  let x := s.bank b
  if x.inj ≠ 1 ∨ x.calEnd.isSome = true then s
  else
    let (d, e) := s.boundaryAt b
    let t := s.elapseTo e
    t.setBank b { t.bank b with inj := 2, injIdx := 0, injFrom := maxOf e [t.aon], left := x.left - d
                                from_ := if x.left - d = 0 then x.from_ + convT d - convT 0 else x.from_ }

/-! ## Calibration (R371, R372) -/

/-- CAL_CTL.GO: latched, unless a calibration runs or is latched. -/
def State.monCalGo (s : State) (b : Nat) : State :=
  if (s.bank b).calEnd.isSome || s.flag (F.MON_STAT_CAL_PEND b) then s else s.putb (F.MON_STAT_CAL_PEND b) true

/-- The time a calibration takes. -/
def monCalT : Nat := usU 80

/-- The latched calibration starts at the next boundary, once no group is pending or running; the regular entry in progress is
abandoned and is converted again in full afterwards. -/
def State.monCalStart (s : State) (b : Nat) : State :=
  let x := s.bank b
  if s.flag (F.MON_STAT_CAL_PEND b) = false ∨ x.inj ≠ 0 ∨ x.calEnd.isSome = true then s
  else
    let (_, e) := s.boundaryAt b
    let t := (s.elapseTo e).putb (F.MON_STAT_CAL_PEND b) false
    t.setBank b { t.bank b with calEnd := some (t.aon + monCalT) }

/-- The calibration ends with a correction, applied where it is in range. -/
def State.monCalDone (s : State) (b : Nat) (ofs : Int) (gain : Nat) : State :=
  match (s.bank b).calEnd with
  | none => s
  | some e =>
    let t := s.elapseTo e
    let u := t.setBank b { t.bank b with calEnd := none }
    let ok := decide (-1024 ≤ ofs ∧ ofs ≤ 1024) && decide (31130 ≤ gain ∧ gain ≤ 34406)
    let v := if ok then (((u.puti (F.MON_CAL_RES_OFS b) ofs).put (F.MON_CAL_RES_GAIN b) gain).raise 0x1201 b)
      else u.raise 0x1202 b
    if (v.bank b).running then v.entryStart b (maxOf v.aon [e]) else v

/-- MON comes up: registers at their values, no result, the calibration of each bank running (R374). -/
def State.monRaise (s : State) : State :=
  let t : State := { s with mon := {} }
  t.each (List.range 4) (fun u b => u.setBank b { (u.bank b) with calEnd := some (u.aon + monCalT) })

/-- MON goes down. -/
def State.monLower (s : State) : State := { s with mon := {} }

/-- CNT_CLR: every INJ_DROP and OVR_CNT. -/
def State.monClear (s : State) : State :=
  s.each (List.range 4) (fun t b => (t.put (F.MON_INJ_DROP_COUNT b) 0).put (F.MON_OVR_CNT_COUNT b) 0)

end Sys2Proof.Machine
end

