-- ==== Sys2Proof/Machine/Ring.lean ====
section
/-! DEFINITION. The cascade ring: membership, routes, partial sums, forwarded layers, ring sync and cross-chip calibration
(14_cascade_ring.md R282 to R296). -/

namespace Sys2Proof.Machine

/-- Joined devices. -/
def State.members (s : State) : Nat := s.get F.RING_STAT_MEMBERS

/-- This device is the head of a ring. -/
def State.isHead (s : State) : Bool := s.ringSize != 0 && s.boot.chipId == 0

/-- This device is a member of a ring: not its head. -/
def State.isMember (s : State) : Bool := s.ringSize != 0 && s.boot.chipId != 0

/-- Ring ports are present in Quiet and Run (R296). -/
def State.ringLive (s : State) : Bool := s.ringSize != 0 && decide (3 ≤ s.cur)

/-! ## Ports and load (R287, R288) -/

/-- The width of a ring port in UP in both directions. -/
def State.ringWidth (s : State) (l : Nat) : Nat :=
  if s.linkUp l then minOf (s.get (lkWIDTH l)) [widthOf (s.get (lkTXOFF l))] else 0

/-- The ring load of the enabled layers fits a width: R × 31.3125 × 4,096 ÷ 4,082 per layer (R287). -/
def State.ringFits (s : State) (w : Nat) : Bool :=
  let n := ((List.range 32).filter (fun i => s.flag (F.FHM_RXS_CFG_EN i))).length
  decide (n * 98304 * one32 * 501 * 4096 ≤ w * 16000 * 1600 * s.rxPeriod * 4082)

/-- A ring port carries data. -/
def State.ringData (s : State) (l : Nat) : Bool := s.linkUp l && s.ringFits (s.ringWidth l)

/-- This device's port report. -/
def State.portReport (s : State) : Nat :=
  b2n (s.linkUp 2) + 2 * b2n (s.linkUp 3) + 4 * b2n (s.ringData 2) + 8 * b2n (s.ringData 3)
    + 16 * s.ringWidth 2 + 256 * s.ringWidth 3

/-- What is known of the ports of device `d`. -/
def State.portsOf (s : State) (d : Nat) : Nat := if d = s.boot.chipId then s.ring.own else (sparseFind s.ring.ports d).getD 0

/-- The link from the east port of device `d` to the west port of the next one carries data. -/
def State.hopData (s : State) (d : Nat) : Bool :=
  bitAt (s.portsOf d) 2 && bitAt (s.portsOf ((d + 1) % s.ringSize)) 3

/-- It is in UP at both ends. -/
def State.hopUp (s : State) (d : Nat) : Bool :=
  bitAt (s.portsOf d) 0 && bitAt (s.portsOf ((d + 1) % s.ringSize)) 1

/-! ## Routes (R285, R286, R288) -/

/-- The W arc: devices SIZE − 1 downward, as far as links carry data and devices have joined. -/
def State.wArc (s : State) (n : Nat) : List Nat :=
  (((List.range n).reverse).filter (fun d => d != 0)).takeWhile (fun d => bitAt s.members d && s.hopData d)

/-- The E arc: devices 1 upward, as far as links carry data, without those of the W arc. -/
def State.eArc (s : State) (n : Nat) : List Nat :=
  let w := s.wArc n
  ((List.range n).filter (fun d => d != 0)).takeWhile (fun d => bitAt s.members d && s.hopData (d - 1) && !w.contains d)

/-- A new route, where the arcs change: its instant is the first block boundary at least 20 µs away; every member hears of
it. -/
def State.reroute (s : State) : State :=
  if s.isHead then
    let n := s.ringSize
    let w := maskOf (s.wArc n)
    let e := maskOf (s.eArc n)
    let (ow, oe) := match s.ring.route with
      | some r => r.2
      | none => (s.get F.RING_STAT_WARC, s.get F.RING_STAT_EARC)
    if w = ow ∧ e = oe then s
    else
      let at_ := stampOf (s.boundary 1 (s.tide.now + usU 20))
      State.emit { s with ring := { s.ring with route := some (at_, w, e) } } (.ring 15 1 [at_.toNat, w, e, s.members])
  else s

/-- RING.STAT.FORMED: every device has joined; the head reports each entry. -/
def State.ringForm (s : State) : State :=
  let all := decide (s.members = 2 ^ s.ringSize - 1)
  let t := s.putb F.RING_STAT_FORMED all
  if all && !s.flag F.RING_STAT_FORMED && s.isHead then t.raise 0x0D01 0 else t

/-- The set of joined devices; the head counts itself while another has joined. -/
def State.setMembers (s : State) (m : Nat) : State :=
  let others := setBitAt m 0 false
  ((s.put F.RING_STAT_MEMBERS (if others = 0 then 0 else others + 1)).ringForm).maskCheck

/-- The ring ports after an event of the lane layer or a change of the layers: DATA_E, DATA_W, the report to the head, and at
the head the arcs. -/
def State.ringPorts (s : State) : State :=
  if s.ringSize = 0 then s
  else
    let r := s.portReport
    let t := (s.putb F.RING_STAT_DATA_E (s.ringData 2)).putb F.RING_STAT_DATA_W (s.ringData 3)
    if r = s.ring.own then t
    else
      let u : State := { t with ring := { t.ring with own := r } }
      if u.boot.chipId = 0 then u.reroute
      else u.emit (.ring 0 0 [r])

/-- A port change report of device `d` reaches the head (R288). -/
def State.topoReport (s : State) (d up data we ww : Nat) : State :=
  if s.isHead && s.ringLive && d != 0 && decide (d < s.ringSize) then
    State.reroute { s with ring := { s.ring with
      ports := sparseInsert s.ring.ports d (up % 4 + 4 * (data % 4) + 16 * (we % 9) + 256 * (ww % 9)) } }
  else s

/-! ## Forwarded layers (R292) -/

/-- The payload of the forwarded section number `j` of a layer. -/
def State.fwdPayload (s : State) (l j : Nat) : List Byte :=
  let st := 2 ^ s.gStages
  let data := (List.range 128).map (fun i => (s.layerSample l (s.tx.startK + (128 * j + i) * st)).getD cx0)
  iqPayload l ((sparseFind s.ring.fwdSeq l).getD 0)
    (sectionHeader (stampOf (s.tapAt 2 (128 * j))) l 3 8 0 0 0 0) (packSamples 3 data)

/-- Ports a head's forwarded section leaves by: east for the E arc, west for the W arc. -/
def State.arcLinks (s : State) : List Nat :=
  (if s.get F.RING_STAT_EARC = 0 then [] else [2]) ++ (if s.get F.RING_STAT_WARC = 0 then [] else [3])

/-- Section number `j` of a layer leaves the head on the given links. -/
def State.fwdSend (s : State) (l j : Nat) (links : List Nat) : State :=
  let p := s.fwdPayload l j
  let t := s.each links (fun u k => u.emit (.frame k 0 p))
  { t with ring := { t.ring with fwdSeq := sparseInsert t.ring.fwdSeq l (((sparseFind t.ring.fwdSeq l).getD 0 + 1) % 65536) } }

/-- Cuts of a layer for which something is stored: their numbers in order. -/
def State.fwdCuts (s : State) (l : Nat) : List Nat :=
  let st := 2 ^ s.gStages
  let mine := s.msgs.store.filter (fun e => e.stream == l)
  let cuts := mine.flatMap (fun e =>
    let a := (e.k - s.tx.startK) / st
    (List.range ((a % 128 + e.data.length + 127) / 128)).map (fun i => a / 128 + i))
  (List.range (maxOf 0 cuts + 1)).filter (fun j => cuts.contains j)

/-- A cut of a layer is complete: its last sample is stored, or one after it. -/
def State.cutDone (s : State) (l j : Nat) : Bool :=
  let st := 2 ^ s.gStages
  s.msgs.store.any (fun e => e.stream == l
    && decide (s.tx.startK + (128 * j + 127) * st < e.k + e.data.length * st))

/-- The head forwards the next complete cut of a layer. -/
def State.fwdNext (s : State) (l : Nat) : State :=
  let from_ := (sparseFind s.ring.fwd l).getD 0
  match (s.fwdCuts l).find? (fun j => decide (from_ ≤ j) && s.cutDone l j) with
  | none => s
  | some j =>
    let t := s.fwdSend l j s.arcLinks
    { t with ring := { t.ring with fwd := sparseInsert t.ring.fwd l (j + 1) } }

/-- A forwarded section reaches a member by a ring port (0 east, 1 west): stored without the checks of R273, and passed on
along its arc. -/
def State.fwdTake (s : State) (port : Nat) (payload : List Byte) : State :=
  match parseSection (fun _ => 0) payload with
  | none => s
  | some x =>
    let n := s.layerNearest x.stamp
    if n < 0 ∨ s.txRun = false then s
    else
      let t := s.storePut x.stream (s.tx.startK + n.toNat * 2 ^ s.gStages) x.data
      let me := s.boot.chipId
      if port = 0 then
        (if 2 ≤ me ∧ bitAt (s.get F.RING_STAT_WARC) (me - 1) = true then t.emit (.frame 3 0 payload) else t)
      else if bitAt (s.get F.RING_STAT_EARC) (me + 1) then t.emit (.frame 2 0 payload)
      else t

/-- LAYER_FORWARD: the head forwards, a member takes. -/
def State.layerForward (s : State) (l port : Nat) (payload : List Byte) : State :=
  if s.inRun && s.ringSize != 0 then
    if s.boot.chipId = 0 then (if s.txRun then s.fwdNext l else s)
    else if s.linkUp (2 + port) && bitAt s.members s.boot.chipId then s.fwdTake port payload
    else s
  else s

/-- At S the head forwards again, to arcs with new members, every section it has forwarded whose span ends after S (R289). -/
def State.fwdAgain (s : State) (links : List Nat) : State :=
  if links.isEmpty || !s.txRun then s
  else s.each (List.range 32) (fun t l =>
    t.each ((t.fwdCuts l).filter (fun j => decide (j < (sparseFind t.ring.fwd l).getD 0)
      && decide (t.tide.now < t.tapAt 2 (128 * j + 128)))) (fun u j => u.fwdSend l j links))

/-! ## The switch of routes (R288, R289) -/

/-- The route in force. -/
def State.setArcs (s : State) (w e : Nat) : State := (s.put F.RING_STAT_WARC w).put F.RING_STAT_EARC e

/-- At the head: new arcs, lost members, forwarding to new ones, and the signal to Tide. -/
def State.headSwitch (s : State) (w e : Nat) : State :=
  let ow := s.get F.RING_STAT_WARC
  let oe := s.get F.RING_STAT_EARC
  let lost := maskDiff (maskOr ow oe) (maskOr w e)
  let t := (({ s with ring := { s.ring with route := none } } : State).setArcs w e).inc F.RING_TOPO_CNT_COUNT |>.raise 0x0D04 0
  let u := (t.setMembers (maskDiff t.members lost)).each (bitList 4 lost) (fun v _ => v.raise 0x0D02 0)
  let links := (if maskDiff e oe = 0 then [] else [2]) ++ (if maskDiff w ow = 0 then [] else [3])
  ((u.fwdAgain links).tideTopology).tideSource

/-- ROUTE_SWITCH: the head takes its own route; a member the one it was sent. -/
def State.routeSwitch (s : State) (at_ : Stamp) (w e members : Nat) : State :=
  if s.isHead then
    match s.ring.route with
    | none => s
    | some (a, hw, he) => (s.reach a).headSwitch hw he
  else if s.isMember && s.ringLive then
    let t := s.reach at_
    let me := bitAt (maskOr w e) s.boot.chipId
    (((t.setArcs w e).setMembers (if me then members else 0)).tideTopology).tideSource
  else s

/-! ## Joining (R284, R293) -/

/-- The chain configuration that the join check compares. -/
def State.chainCfg (s : State) : List Nat :=
  [(s.word 0x50004).toNat, s.get F.RXD_RS_STEP_F, (s.word 0x70004).toNat, s.get F.RXA_CTL_BBF_BW, s.get F.TXA_CTL_FILT_BW]

/-- The NCO frequencies in force and the NCO_OFS values, that the head writes into a member. -/
def State.ncoCfg (s : State) : List Nat := [ofSigned 48 s.rxFreq, s.rxOfs, ofSigned 48 s.txFreq, s.txOfs]

/-- An instant for a ring sync: a multiple of 3,125 ns at least 50 µs away (R294). -/
def State.syncInstant (s : State) : Stamp := stampOf (gridEdge (s.tide.now + usU 50))

/-- The head issues a ring sync. -/
def State.issueSync (s : State) : State :=
  if s.ring.sync.isSome then s
  else
    let a := s.syncInstant
    (State.putb { s with ring := { s.ring with sync := some a } } F.RING_SYNC_PEND true).emit (.ring 15 5 [a.toNat])

/-- The head's check of device `d` (R284). -/
def State.headCheck (s : State) (d : Nat) (cfg : List Nat) : State :=
  let t : State := { s with ring := { s.ring with cfgs := sparseInsert s.ring.cfgs d cfg } }
  if cfg = s.chainCfg then
    if bitAt t.members d then t
    else
      let u := (t.emit (.ring d 2 s.ncoCfg)).setMembers (setBitAt t.members d true)
      ((u.emit (.ring d 3 u.panelReport)).raise 0x0D03 0).reroute.issueSync
  else
    ((t.setMembers (setBitAt t.members d false)).raise 0x0D06 0).reroute

/-- A member takes the head's configuration: chains stop, NCO values are written, chains start again (R284 steps 1 to 5). -/
def State.memberJoin (s : State) (nco : List Nat) : State :=
  let t := ((s.put48 F.RXD_NCO_CUR_LO_FREQ F.RXD_NCO_CUR_HI_FREQ (nth 0 nco 0)).put48 F.RXD_NCO_OFS_LO_OFS
    F.RXD_NCO_OFS_HI_OFS (nth 0 nco 1)).put48 F.TXD_NCO_CUR_LO_FREQ F.TXD_NCO_CUR_HI_FREQ (nth 0 nco 2)
  let u := t.put48 F.TXD_NCO_OFS_LO_OFS F.TXD_NCO_OFS_HI_OFS (nth 0 nco 3)
  let v := if u.rxRunning then u.rxChains else u
  let w := if v.txRun then v.txChains else v
  ((w.putb F.RING_STAT_SYNCED false).setMembers (setBitAt w.members w.boot.chipId true)).emit (.ring 15 3 w.panelReport)

/-- MEMBER_JOIN of device `d`: its chain configuration at the head, or at the device itself the head's, with the head's NCO
values. -/
def State.join (s : State) (d : Nat) (cfg nco : List Nat) : State :=
  if s.ringLive = false ∨ d = 0 ∨ s.ringSize ≤ d then s
  else if s.boot.chipId = 0 then
    (if s.linkUp 2 || s.linkUp 3 then s.headCheck d cfg else s)
  else if d = s.boot.chipId ∧ cfg = s.chainCfg then s.memberJoin nco
  else s

/-- The check is repeated after a write to a register it compares, on either device (R284). -/
def State.cfgWritten (s : State) : State :=
  if s.isHead then s.each s.ring.cfgs (fun t e => t.headCheck e.1 e.2)
  else if s.isMember && bitAt s.members s.boot.chipId then s.emit (.ring 0 2 s.chainCfg)
  else s

/-- Panel sums of device `d`: (number of the berth, n_b, m_b), direction × 512 + berth (R293). -/
def State.panelSums (s : State) (d : Nat) (l : List (Nat × Nat × Nat)) : State :=
  if s.ringLive = false ∨ d = s.boot.chipId ∨ s.ringSize ≤ d then s
  else
    let base := if s.ring.sumsAt.isSome then s.ring.sumsNext else s.ring.sums
    let next := l.foldl (fun (m : List (Nat × Nat)) e => sparseInsert m (d * 1024 + e.1 % 1024) (e.2.1 % 256 + 256 * (e.2.2 % 256))) base
    { s with ring := { s.ring with
      sumsNext := next
      sumsGot := setBitAt s.ring.sumsGot d true
      sumsAt := match s.ring.sumsAt with
        | some a => some a
        | none => some (s.tide.now + usU 100) } }

/-- Sums that no switch has taken apply at their latest instant. -/
def State.sumsDue (s : State) : State :=
  match s.ring.sumsAt with
  | none => s
  | some a =>
    let t := (s.reachAbs a).sumsTake
    (t.reforce 0 a).reforce 1 a

/-! ## Partial sums (R290, R291) -/

/-- A partial-sum section arrives by a ring port (0 east, 1 west). -/
def State.psumRx (s : State) (port : Nat) (payload : List Byte) : State :=
  if s.inRun = false ∨ s.ringSize = 0 ∨ s.linkUp (2 + port) = false ∨ s.flag F.RING_CTL_PSUM_EN = false
      ∨ s.psumPorts.contains port = false then s
  else match parseSection (fun n => 2 * n + (n + 7) / 8) payload with
  | none => s
  | some x =>
    if x.comp ≠ 3 ∨ x.data.length ≠ 128 ∨ x.mask = [] then s
    else
      let at_ := s.absOf x.stamp
      let g : RingSum := ⟨port, x.stream, at_, x.stepHi, x.data, maskOf ((List.range 128).filter (maskBit x.mask)),
        maskOf ((List.range 8).filter (maskBit (x.mask.drop 16)))⟩
      { s with ring := { s.ring with
        psums := (s.ring.psums.filter (fun e => decide (s.tide.now < e.at_ + msU 1))) ++ [g] } }

/-! ## Ring sync (R294) -/

/-- SYNC.GO was written: the head issues a sync, a member asks for one. -/
def State.syncGo (s : State) : State :=
  if s.ringLive = false then s
  else if s.boot.chipId = 0 then s.issueSync
  else if bitAt s.members s.boot.chipId then s.emit (.ring 0 5 []) else s

/-- A member reports a synthesiser lock or swap to the head. -/
def State.syncReport (s : State) : State :=
  if s.isMember && s.ringLive && bitAt s.members s.boot.chipId then s.emit (.ring 0 5 []) else s

/-- The ring sync takes effect: the dividers are reset in step. A member has its instant from the head. -/
def State.ringSync (s : State) (at_ : Stamp) : State :=
  let go (t : State) (a : Stamp) : State :=
    let u := t.reach a
    let v : State := { u with ring := { u.ring with sync := none }, clk := { u.clk with divReset := none, aligned := true } }
    (((v.putb F.RING_SYNC_PEND false).inc F.RING_SYNC_COUNT).putb F.RING_STAT_SYNCED true).maskCheck
  if s.ringLive = false then s
  else if s.boot.chipId = 0 then
    match s.ring.sync with
    | none => s
    | some a => (go s a).raise 0x0D08 0
  else if bitAt s.members s.boot.chipId then go s at_
  else s

/-! ## Cross-chip calibration (R295) -/

/-- A refused request. -/
def State.xcalRefuse (s : State) : State := s.raise 0x0D0A 0

/-- XCAL_REQ.GO: `calio` says that every member has CALIO_EN = 1. -/
def State.xcalReq (s : State) (calio : Bool) : State :=
  if s.isHead = false ∨ s.flag F.RING_STAT_FORMED = false ∨ s.flag F.BERTH_CTL_CALIO_EN = false ∨ calio = false
      ∨ s.rx.cal ≠ none ∨ s.tx.cal ≠ none ∨ s.berth.cal ≠ none ∨ s.ring.xcal ≠ none then s.xcalRefuse
  else State.putb { s with ring := { s.ring with xcal := some (s.aon + sU 1, none) } } F.RING_XCAL_STAT_WAIT true

/-- The span: 6 ms per device. -/
def State.xcalSpan (s : State) : Nat := s.ringSize * msU 6

/-- The held calibration starts in a gap that covers every present quad. -/
def State.xcalTry (s : State) : State :=
  match s.ring.xcal with
  | some (w, none) =>
    if s.gapCovers s.quadMask s.xcalSpan then
      let e := stampAdd s.stamp s.xcalSpan
      let t : State := { s with ring := { s.ring with xcal := some (w, some e) } }
      ((t.putb F.RING_XCAL_STAT_WAIT false).putb F.RING_XCAL_STAT_BUSY true).emit (.ring 15 8 [s.stamp.toNat, e.toNat])
    else s
  | _ => s

/-- XCAL_START: as `xcalTry`; with no gap within 1 s the request is refused. -/
def State.xcalStart (s : State) : State :=
  match s.ring.xcal with
  | some (w, none) =>
    let t := s.xcalTry
    if t.flag F.RING_XCAL_STAT_BUSY = false ∧ w ≤ t.aon then
      (State.putb { t with ring := { t.ring with xcal := none } } F.RING_XCAL_STAT_WAIT false).xcalRefuse
    else t
  | _ => s

/-- A result within ±4 ns and ±6 dB: |PCAL|² between 10^-0.6 and 10^0.6. -/
def xcalOk (align : Int) (pc : Cx) : Bool :=
  let m := cxMag2 pc
  let one : Int := 268435456
  decide (-1024 ≤ align ∧ align ≤ 1024) && decide (m ^ 5 ≤ 1000 * one ^ 5) && decide (one ^ 5 ≤ 1000 * m ^ 5)

/-- A device takes its XALIGN and XPCAL of a direction; every path applies them as R226 lays down. -/
def State.xcalTake (s : State) (dir : Nat) (align : Int) (pc : Cx) : State :=
  let t := ((s.puti (fXALIGN dir) align).puti (fXPCALRE dir) pc.re).puti (fXPCALIM dir) pc.im
  t.each t.paths (fun u p => u.alignWritten p dir)

/-- The measured result of a device and direction, under draw `n`. -/
def xcalResult (n d dir : Nat) : Int × Cx :=
  let v (i : Nat) : Nat := Config.measured n (64 * i + 2 * d + dir)
  (toSigned 16 (v 0), ⟨toSigned 16 (v 1), toSigned 16 (v 2)⟩)

/-- Device `d` keeps its previous values. -/
def xcalBad (n d : Nat) : Bool :=
  [0, 1].any (fun dir => let r := xcalResult n d dir; !xcalOk r.1 r.2)

/-- XCAL_DONE: at the head the results are measured and sent; a member takes those it was sent. -/
def State.xcalDone (s : State) (tx rx : Int × Cx) : State :=
  if s.isHead then
    match s.ring.xcal with
    | some (_, some e) =>
      let (n, t) := (s.reach e).draw
      let ds := (List.range s.ringSize).filter (fun d => d != 0)
      let bad := ds.filter (xcalBad n)
      let enc (r : Int × Cx) : List Nat := [ofSigned 16 r.1, ofSigned 16 r.2.re, ofSigned 16 r.2.im]
      let u := t.each (ds.filter (fun d => !bad.contains d)) (fun v d =>
        v.emit (.ring d 6 (enc (xcalResult n d 0) ++ enc (xcalResult n d 1))))
      let v := (State.putb { u with ring := { u.ring with xcal := none } } F.RING_XCAL_STAT_BUSY false).put
        F.RING_XCAL_STAT_FAIL (maskOf bad)
      let w := if bad.isEmpty then v else v.raise 0x0D0B 0
      w.raise 0x0D09 0
    | _ => s
  else if s.isMember && bitAt s.members s.boot.chipId && xcalOk tx.1 tx.2 && xcalOk rx.1 rx.2 then
    (s.xcalTake 0 tx.1 tx.2).xcalTake 1 rx.1 rx.2
  else s

/-! ## Clearing and leaving -/

/-- The counters of a link: bad columns, parity mismatches, repaired columns, attempts, violations, repair entries. -/
def State.linkClear (s : State) (l : Nat) : State :=
  let t := ((((s.put (lkUNCORR l) 0).put (lkPARMIS l) 0).put (lkREPCOL l) 0).put (lkATTEMPTS l) 0).setPort l
    { s.port l with repRem := 0 }
  t.each (List.range 9) (fun u k => (u.put (lnCV l k) 0).put (lnREPAIRS l k) 0)

/-- RING.CNT_CLR (R291). -/
def State.ringClear (s : State) : State :=
  (((((s.put F.RING_LATE_CNT_COUNT 0).put F.RING_SAT_CNT_COUNT 0).put F.RING_TOPO_CNT_COUNT 0).put
    F.RING_TXGAP_CNT_COUNT 0).linkClear 2).linkClear 3

/-- Run is left: partial sums and what waits of them are discarded; a pending calibration ends. -/
def State.ringLeaveRun (s : State) : State :=
  { s with ring := { s.ring with psums := [], sumsOut := [], fwd := [] } }

end Sys2Proof.Machine
end

