-- ==== Sys2Proof/Machine/Crane.lean ====
section
/-! DEFINITION. Crane's channels: rings, Manifests, pause, stop and throttle (20_crane.md R402 to R403, R410 to R419). The
data moves stand in CraneMove.lean, beside the bus they use. -/

namespace Sys2Proof.Machine

/-- Channel `n` beside its registers. -/
def State.chan (s : State) (n : Nat) : Chan := (sparseFind s.crane.chans n).getD {}

/-- Channel `n` replaced. -/
def State.setChan (s : State) (n : Nat) (x : Chan) : State :=
  { s with crane := { s.crane with chans := sparseInsert s.crane.chans n x } }

/-! ## Regions and rings (R402, R405) -/

/-- The least addresses of the regions of Crane, and of the reserved stretches between them (R405). -/
def craneBounds : List Nat :=
  [0, 0x1000000, 0x1C00000, 0x2000000, 0x2800000, 0x2820000, 0x3000000, 0x3100000, 0x1000000000, 0x1200000000]

/-- The region of an address: 1 register space, 7 Manifest SRAM, 9 Hold. -/
def craneRegion (a : Nat) : Nat := (craneBounds.filter (fun b => decide (b ≤ a))).length

/-- The granule of a local address's region. -/
def craneGranule (a : Nat) : Nat := if craneRegion a = 1 then 4 else 64

/-- A local range lies in one region. -/
def craneOneRegion (a len : Nat) : Bool := decide (a + len ≤ 2 ^ 40) && craneRegion a == craneRegion (a + len - 1)

/-- A ring keeps R402. -/
def ringGood (base log : Nat) : Bool :=
  decide (log ≤ 16) && decide (base % 64 = 0) && (craneRegion base == 7 || craneRegion base == 9) &&
    craneOneRegion base (32 * 2 ^ log)

/-- BASE and LOG_SIZE of channel `n`. -/
def State.craneBase (s : State) (n : Nat) : Nat := s.get (F.CRANE_C_BASE_LO_BASE n) + 2 ^ 32 * s.get (F.CRANE_C_BASE_HI_BASE n)

/-- See `State.craneBase`. -/
def State.craneLog (s : State) (n : Nat) : Nat := s.get (F.CRANE_C_CTL_LOG_SIZE n)

/-- The address of the Manifest at HEAD (an index past the ring counts modulo its size; log entry 14). -/
def State.craneAddr (s : State) (n : Nat) : Nat :=
  s.craneBase n + 32 * (s.get (F.CRANE_C_HEAD_HEAD n) % 2 ^ s.craneLog n)

/-! ## States of a channel -/

/-- STATE codes. -/
def chIDLE : Nat := 0
def chRUN : Nat := 1
def chPAUSING : Nat := 2
def chPAUSED : Nat := 3
def chSTOPPED : Nat := 4

/-- The state of channel `n`. -/
def State.craneState (s : State) (n : Nat) : Nat := s.get (F.CRANE_C_STAT_STATE n)

/-- A channel's state set, with CRANE.STAT.ACTIVE. -/
def State.craneTo (s : State) (n st : Nat) : State :=
  (s.put (F.CRANE_C_STAT_STATE n) st).put F.CRANE_STAT_ACTIVE
    (setBitAt (s.get F.CRANE_STAT_ACTIVE) n (decide (1 ≤ st ∧ st ≤ 3)))

/-- A channel is in IDLE or STOPPED: its ring may be written (R402). -/
def State.craneLoose (s : State) (n : Nat) : Bool := s.craneState n == chIDLE || s.craneState n == chSTOPPED

/-- A channel stops (R411, R412, R404, R416): STOPC 1 FETCH_ERR, 2 LOOP, 3 STOP, 4 BADLINK. -/
def State.craneHalt (s : State) (n cause : Nat) : State :=
  let t := ((s.setChan n {}).craneTo n chSTOPPED).put (F.CRANE_C_STAT_STOPC n) cause
  if cause = 3 then t else t.raise 0x1503 n

/-- A channel is held: by software's PAUSE, or by throttle (R417). -/
def State.craneHeld (s : State) (n : Nat) : Bool := s.flag (F.CRANE_C_CTL_PAUSE n) || s.flag (F.CRANE_C_STAT_THR n)

/-- A channel pauses or resumes as PAUSE and THR say (R415, R417). A kick held over the pause wakes it at its end. -/
def State.craneGate (s : State) (n : Nat) : State :=
  let st := s.craneState n
  if s.craneHeld n then
    if st = chRUN then s.craneTo n chPAUSING else if st = chIDLE then s.craneTo n chPAUSED else s
  else if (s.chan n).stop then s
  else if st = chPAUSING ∨ st = chPAUSED then
    if (s.chan n).phase = 0 then
      if s.flag (F.CRANE_C_STAT_KICK_PEND n) then (s.setChan n { phase := 1 }).craneTo n chRUN else s.craneTo n chIDLE
    else s.craneTo n chRUN
  else s

/-- THR of a channel follows the throttle level and URGENT (R417). -/
def State.craneThr (s : State) (n : Nat) : State :=
  (s.putb (F.CRANE_C_STAT_THR n) (s.flag F.CRANE_STAT_THR && !s.flag (F.CRANE_C_CTL_URGENT n))).craneGate n

/-- The throttle level in force changed (R417): 0x1504 once per entry into a level of 1 or higher. -/
def State.craneThrottle (s : State) (level : Nat) : State :=
  let on := decide (1 ≤ level)
  if !s.up domHOLD || s.flag F.CRANE_STAT_THR = on then s
  else
    let t := (s.putb F.CRANE_STAT_THR on).each (List.range 16) State.craneThr
    if on then t.raise 0x1504 0 else t

/-! ## Commands (R402, R403, R415, R416) -/

/-- GO: the channel starts at HEAD at the writer's level, or the command is refused. -/
def State.craneGo (s : State) (n level : Nat) (pilot : Bool) : State :=
  if !s.craneLoose n || !ringGood (s.craneBase n) (s.craneLog n) then
    (s.putb (F.CRANE_C_STAT_REFUSED n) true).raise 0x1505 n
  else
    let t := (((s.putb (F.CRANE_C_STAT_REFUSED n) false).put (F.CRANE_C_STAT_LINKS n) 0).put (F.CRANE_C_STAT_LEVEL n) level).put
      (F.CRANE_C_STAT_STOPC n) 0
    let u : State := { t with crane := { t.crane with byPilot := setBitAt t.crane.byPilot n pilot } }
    ((u.setChan n { phase := 1 }).craneTo n chRUN).craneGate n

/-- KICK: KICK_PEND is set; an IDLE channel wakes at its fetch (R403). -/
def State.craneKick (s : State) (n : Nat) : State :=
  let t := s.putb (F.CRANE_C_STAT_KICK_PEND n) true
  if s.craneState n = chIDLE then (t.setChan n { phase := 1 }).craneTo n chRUN else t

/-- The words of a Manifest in progress. -/
def Chan.word (x : Chan) (i : Nat) : Nat := nth 0 x.man i
def Chan.op (x : Chan) : Nat := bitsAt (x.word 0) 24 4
def Chan.rdst (x : Chan) : Bool := bitAt (x.word 0) 23
def Chan.len (x : Chan) : Nat := x.word 1
def Chan.src (x : Chan) : Nat := x.word 2 + 2 ^ 32 * bitsAt (x.word 3) 0 8
def Chan.dst (x : Chan) : Nat := x.word 4 + 2 ^ 32 * bitsAt (x.word 5) 0 16

/-- CUR_SRC, CUR_DST and REMAIN describe the Manifest in progress (R415). -/
def State.craneCur (s : State) (n : Nat) : State :=
  let x := s.chan n
  let off := if s.flag (F.CRANE_C_STAT_DESC n) then x.len - x.moved else x.moved
  let a := x.src + (if x.op = 1 then 0 else off)
  let d := x.dst + off
  ((((s.put (F.CRANE_C_CUR_SRC_LO_ADDR n) (a % 2 ^ 32)).put (F.CRANE_C_CUR_SRC_HI_ADDR n) (a / 2 ^ 32)).put
    (F.CRANE_C_CUR_DST_LO_ADDR n) (d % 2 ^ 32)).put (F.CRANE_C_CUR_DST_HI_ADDR n) (d / 2 ^ 32)).put
    (F.CRANE_C_REMAIN_BYTES n) (x.len - x.moved)

/-- The Manifest in progress has its outcome and goes to its write-back once nothing awaits an answer (R403, R414). -/
def State.craneSettle (s : State) (n : Nat) : State :=
  let x := s.chan n
  if x.phase = 2 ∧ x.await = [] ∧ (x.cause ≠ 0 ∨ (x.begun = true ∧ x.len ≤ x.moved)) then
    s.setChan n { x with phase := 3, cause := if x.cause = 0 ∧ x.poison ≠ none then 5 else x.cause }
  else s

/-- The Manifest in progress is marked with a cause, at an offset. -/
def State.craneMark (s : State) (n cause : Nat) (at_ : Option Nat) : State :=
  let x := s.chan n
  (if x.cause = 0 then s.setChan n { x with cause := cause, failAt := at_ } else s).craneSettle n

/-! ## Fetch and write-back (R403) -/

/-- Whether the 32 bytes of a Manifest lie in memory that answers, and none of them is poisoned (R413). -/
def State.manReads (s : State) (a : Nat) : Bool :=
  if craneRegion a = 9 then s.holdReady && !s.poisoned ((a - 0x1000000000) / 64) else true

/-- A byte of a ring: of the Manifest SRAM or of Hold; elsewhere 0 (log entry 14). -/
def State.manByte (s : State) (a : Nat) : Byte := if craneRegion a = 7 ∨ craneRegion a = 9 then s.byte a else 0

/-- The words of the Manifest at `a`. -/
def State.manWords (s : State) (a : Nat) : List Nat :=
  (List.range 8).map (fun i => leNat ((List.range 4).map (fun j => s.manByte (a + 4 * i + j))))

/-- Channel `n` fetches the Manifest at HEAD. -/
def State.manifestFetch (s : State) (n : Nat) : State :=
  if s.up domHOLD = false ∨ s.craneState n ≠ chRUN ∨ (s.chan n).phase ≠ 1 then s
  else
    let a := s.craneAddr n
    let t := s.putb (F.CRANE_C_STAT_KICK_PEND n) false
    if !s.manReads a then t.craneHalt n 1
    else
      let w := s.manWords a
      if bitAt (nth 0 w 0) 31 then ((t.setChan n { phase := 2, man := w }).putb (F.CRANE_C_STAT_DESC n) false).craneCur n
      else (t.setChan n {}).craneTo n chIDLE

/-- COUNT and OFFSET of the Manifest in progress (table "Manifest"; R410, R413, R414, R416). -/
def Chan.result (x : Chan) : Nat × Nat :=
  match x.failAt with
  | some o => (x.moved, o)
  | none =>
    if x.cause = 5 then (x.len, x.poison.getD 0xFFFFFFFF)
    else if x.cause ≠ 0 then (0, 0xFFFFFFFF)
    else if x.op = 2 then (x.mism, x.firstMis.getD 0xFFFFFFFF)
    else (if x.op = 3 then 0 else x.moved, 0xFFFFFFFF)

/-- The Manifest's results in memory: bytes 24 to 31, and bytes 0 to 3 with OWN = 0 and CAUSE. -/
def State.manStore (s : State) (n : Nat) : State :=
  let x := s.chan n
  let a := s.craneAddr n
  let (count, off) := x.result
  if craneRegion a = 7 ∨ craneRegion a = 9 then
    ((s.setMemWord (a + 24) count).setMemWord (a + 28) off).setMemWord a
      (setBitsAt (setBitsAt (x.word 0) 16 4 x.cause) 31 1 0)
  else s

/-- The counters and events of a write-back (R419). -/
def State.manCount (s : State) (n : Nat) : State :=
  let x := s.chan n
  let t := s.incWrap (F.CRANE_C_DONE_COUNT n)
  let u := if x.cause = 0 then t else
    (((t.inc (F.CRANE_C_BAD_COUNT n)).put (F.CRANE_C_LAST_BAD_CAUSE n) x.cause).put (F.CRANE_C_LAST_BAD_INDEX n)
      (s.get (F.CRANE_C_HEAD_HEAD n))).raiseMs 0x1502 n n
  if bitAt (x.word 0) 30 && u.limitOpen 0x1501 n (usU 1) then
    State.raiseIrq { u with limits := sparseInsert u.limits (limitKey 0x1501 n) u.aon } 0x1501 n
  else u

/-- HEAD advances modulo the ring. -/
def State.headNext (s : State) (n : Nat) : State :=
  s.put (F.CRANE_C_HEAD_HEAD n) ((s.get (F.CRANE_C_HEAD_HEAD n) + 1) % 2 ^ s.craneLog n)

/-- The Manifest in progress is written back; the channel fetches the next, or stops (R403, R404, R412). -/
def State.manifestBack (s : State) (n : Nat) : State :=
  let x := s.chan n
  if s.up domHOLD = false ∨ s.craneState n ≠ chRUN ∨ x.phase ≠ 3 then s
  else
    let t := (s.manStore n).manCount n
    if x.cause = 8 then t.craneHalt n 2
    else if x.op = 3 ∧ x.cause = 3 then t.craneHalt n 4
    else if x.op = 3 ∧ x.cause = 0 then
      ((((t.put (F.CRANE_C_BASE_LO_BASE n) (x.src % 2 ^ 32)).put (F.CRANE_C_BASE_HI_BASE n) (x.src / 2 ^ 32)).put
        (F.CRANE_C_CTL_LOG_SIZE n) (x.len % 32)).put (F.CRANE_C_HEAD_HEAD n) 0).setChan n { phase := 1 }
    else (t.headNext n).setChan n { phase := 1 }

/-! ## Stop and pause -/

/-- A STOP completes: the Manifest in progress is marked ABORT with the bytes moved, written back, and HEAD goes on (R416).
One that has its outcome already keeps it (log entry 14). -/
def State.craneStopEnd (s : State) (n : Nat) : State :=
  let x := s.chan n
  let t := if x.phase = 2 then
      s.setChan n { x with cause := 9, failAt := some x.moved, phase := 3 }
    else s
  if x.phase = 2 ∨ x.phase = 3 then (((t.manStore n).manCount n).headNext n).craneHalt n 3 else t.craneHalt n 3

/-- STOP (R416). -/
def State.craneStop (s : State) (n : Nat) : State :=
  let x := s.chan n
  let st := s.craneState n
  if st = chSTOPPED then s
  else if x.phase = 2 ∨ x.phase = 3 then
    if st = chPAUSED then s.craneStopEnd n else (s.setChan n { x with stop := true }).craneTo n chPAUSING
  else s.craneHalt n 3

/-- The accesses in flight are done: PAUSED, or STOPPED where a STOP waits (R415, R416). -/
def State.cranePaused (s : State) (n : Nat) : State :=
  let x := s.chan n
  if s.up domHOLD = false ∨ s.craneState n ≠ chPAUSING ∨ x.await ≠ [] then s
  else if x.stop then s.craneStopEnd n
  else (s.craneCur n).craneTo n chPAUSED

/-! ## Links and reserved operations (R404, R405, R412) -/

/-- Bits of the Manifest that must be 0 (R402). -/
def Chan.reservedZero (x : Chan) : Bool :=
  bitsAt (x.word 0) 28 2 == 0 && bitsAt (x.word 0) 20 3 == 0 && bitsAt (x.word 0) 8 8 == 0 &&
    (if x.op = 1 then x.word 3 == 0 else bitsAt (x.word 3) 8 24 == 0) &&
    bitsAt (x.word 5) (if x.rdst then 16 else 8) (if x.rdst then 16 else 24) == 0

/-- The channel carries out a Manifest of operation `op` now. -/
def State.craneActs (s : State) (n op : Nat) : Bool :=
  s.up domHOLD && s.craneState n == chRUN && (s.chan n).phase == 2 && (s.chan n).op == op

/-- A LINK: the ninth in a row is LOOP, a malformed one PROG, a bad ring RANGE (R402, R404, R412). -/
def State.craneLink (s : State) (n : Nat) : State :=
  if !s.craneActs n 3 then s
  else
    let x := s.chan n
    let k := s.get (F.CRANE_C_STAT_LINKS n) + 1
    let t := s.put (F.CRANE_C_STAT_LINKS n) k
    let cause := if 9 ≤ k then 8 else if !x.reservedZero || decide (32 ≤ x.len) then 2
      else if !ringGood x.src x.len then 3 else 0
    t.setChan n { x with begun := true, moved := x.len, cause := cause, phase := 3 }

/-- A Manifest with a reserved OP moves no data and is marked PROG (R405). -/
def State.craneReserved (s : State) (n : Nat) : State :=
  let x := s.chan n
  if s.up domHOLD && s.craneState n == chRUN && x.phase == 2 && decide (4 ≤ x.op) then
    s.setChan n { x with begun := true, cause := 2, phase := 3 }
  else s

/-! ## Watchdogs and remote answers (R410, R411, R414) -/

/-- The access in progress of channel `n` had no response within 2 µs: a fetch or write-back stops the channel, a data
access marks its Manifest NORESP at its offset. -/
def State.craneTimeout (s : State) (n : Nat) : State :=
  let x := s.chan n
  let live := s.craneState n == chRUN || s.craneState n == chPAUSING
  if s.up domHOLD = false ∨ live = false then s
  else if x.phase = 1 ∨ x.phase = 3 then s.craneHalt n 1
  else if x.phase = 2 ∧ x.op ≤ 2 ∧ x.begun = true ∧ x.moved < x.len then
    let sReg := x.op != 1 && craneGranule x.src == 4
    let dReg := !x.rdst && craneGranule x.dst == 4
    let piece := if dReg && (sReg || x.op == 1) then 4 else if (sReg || dReg) && !x.rdst then 64 else 1024
    let size := if x.len - x.moved < piece then x.len - x.moved else piece
    s.craneMark n 4 (some (if s.flag (F.CRANE_C_STAT_DESC n) then x.len - x.moved - size else x.moved))
  else s

/-- The remote accesses of channel `n` that await an answer end without success from piece `k` on: the Manifest keeps the
first failure's cause and offset; COUNT is what came before it. -/
def State.remoteFail (s : State) (n k cause : Nat) : State :=
  let x := s.chan n
  let y : Chan := if x.cause = 0 then { x with cause := cause, failAt := some (1024 * k), moved := 1024 * k } else x
  s.setChan n y

/-- The wait for an answer in force, µs. -/
def State.remUs (s : State) : Nat := let v := s.get F.CRANE_REM_CTL_REM_US; if v = 0 then 1 else v

/-- A baseband answer to a remote write: its ID names the channel and the piece modulo 16 (R414). -/
def State.remoteAnswer (s : State) (b id : Nat) (ok : Bool) : State :=
  let n := id / 16 % 16
  let x := s.chan n
  if s.up domHOLD = false ∨ x.brick ≠ b then s
  else
    match x.await.find? (fun e => e.1 % 16 == id % 16) with
    | none => s
    | some e =>
      let t := s.setChan n { x with await := x.await.filter (fun f => f.1 != e.1) }
      (if ok then t else t.remoteFail n e.1 6).craneSettle n

/-- The oldest awaited answer did not come within REM_US (R414). -/
def State.remoteTimeout (s : State) (n : Nat) : State :=
  match (s.chan n).await with
  | [] => s
  | (k, lim) :: rest =>
    if s.up domHOLD = false then s
    else
      let t := s.elapseTo lim
      ((t.setChan n { t.chan n with await := rest }).remoteFail n k 4).craneSettle n

/-- A brick that left UP ends the answers awaited on it: NORESP from the first piece concerned (R414). -/
def State.craneLinks (s : State) : State :=
  s.each (List.range 16) (fun t n =>
    match (t.chan n).await with
    | [] => t
    | (k, _) :: _ =>
      if t.brickUp (t.chan n).brick then t
      else ((t.setChan n { t.chan n with await := [] }).remoteFail n k 4).craneSettle n)

/-- An eCPRI type 4 message: ID, operation and request or response, element, 48-bit address, length, data (log entry 15). -/
def rmaBytes (id op rr elem addr len : Nat) (data : List Byte) : List Byte :=
  beBytes 1 id ++ beBytes 1 (16 * op + rr) ++ beBytes 2 elem ++ beBytes 6 addr ++ beBytes 2 len ++ data

/-! ## Counters and power (R418) -/

/-- CRANE.CNT_CLR clears every Cn_BAD. -/
def State.craneClear (s : State) : State := s.each (List.range 16) (fun t n => t.put (F.CRANE_C_BAD_COUNT n) 0)

/-- HOLD is lowered: every channel ends with no write-back, the SRAM is cleared. -/
def State.craneLower (s : State) : State := State.clearRange { s with crane := {} } 0x3000000 0x3100000

/-- The wanted value of a channel's CTL word is written: LOG_SIZE only in IDLE or STOPPED, then URGENT and PAUSE (R402, R415,
R417). -/
def State.craneCtlFields (s : State) (n v : Nat) : State :=
  let t := if s.craneLoose n then s.put (F.CRANE_C_CTL_LOG_SIZE n) (bitsAt v 0 5) else s
  ((t.putb (F.CRANE_C_CTL_URGENT n) (bitAt v 27)).putb (F.CRANE_C_CTL_PAUSE n) (bitAt v 29)).craneThr n

/-- A CTL word is written (R402, R403, R415, R416): the fields, then GO, KICK and STOP, in that order. -/
def State.craneCtl (s : State) (n v level : Nat) (pilot : Bool) : State :=
  let go := bitAt v 31
  let t0 := if s.craneLoose n then s.put (F.CRANE_C_CTL_LOG_SIZE n) (bitsAt v 0 5) else s
  let t := if go then t0.craneGo n level pilot else t0
  let u := t.craneCtlFields n (setBitsAt v 0 5 (t.craneLog n))
  let w := if bitAt v 28 then u.craneKick n else u
  if bitAt v 30 then w.craneStop n else w

end Sys2Proof.Machine
end

