-- ==== Sys2Proof/Machine/Throttle.lean ====
section
/-! DEFINITION. The throttle level in force and what it does to the units (21_thermal.md R427). -/

namespace Sys2Proof.Machine

/-- The level in force. -/
def State.throttle (s : State) : Nat := s.get F.THERM_STAT_LEVEL

/-- The back-off of level 3, in Run only (08_transmit_path.md R157). -/
def State.backOffLevel (s : State) (level : Nat) : State :=
  let b := s.inRun && decide (3 ≤ level)
  if s.up domDSPTX && s.gainLast.2 != backOff b then s.gainSet s.gainLast.1 (backOff b) else s

/-- The units act on the level in force, each as its chapter lays down, those that are up. -/
def State.throttleApply (s : State) : State :=
  let n := s.throttle
  let t := if s.up domHOLD then
      (if 1 ≤ n then s.gaugeSuspend else if s.flag F.GAUGE_STAT_SUSP then s.gaugeResume else s).craneThrottle n
    else s
  let u := if t.up domDPD then t.putb F.DPD_STAT_SLOW (decide (1 ≤ n)) else t
  (u.thinLevel n).backOffLevel n

/-- The highest request of THERM.REQ. -/
def State.reqMax (s : State) : Nat :=
  maxOf 0 ([F.THERM_REQ_THERMAL, F.THERM_REQ_SURGE, F.THERM_REQ_AVS_CEIL, F.THERM_REQ_AVS_NORESP, F.THERM_REQ_AVS_ALERT,
    F.THERM_REQ_SENSORS].map s.get)

/-- The level in force follows the requests; each change raises THROTTLE_LEVEL and reaches the units. -/
def State.throttleSync (s : State) : State :=
  let n := s.reqMax
  if n = s.throttle then s
  else ((s.put F.THERM_STAT_LEVEL n).raise 0x1603 (n + 65536 * ((s.word 0x16000C).toNat % 4096))).throttleApply

/-- A source requests a level. -/
def State.throttleReq (s : State) (f : Field) (level : Nat) : State := (s.put f level).throttleSync

end Sys2Proof.Machine
end

