-- ==== Sys2Proof/Machine/Sessions.lean ====
section
/-! DEFINITION. Sessions, locks, debug states, zeroisation and fuses (23_pilot_security_debug.md R448 to R455, R461 to R466). -/

namespace Sys2Proof.Machine

/-! ## Ports -/

/-- Port `p`, 0 to 3. -/
def State.secPort (s : State) (p : Nat) : SecPort :=
  if p = 0 then s.sec.p0 else if p = 1 then s.sec.p1 else if p = 2 then s.sec.p2 else s.sec.p3

/-- Port `p` replaced. -/
def State.setSecPort (s : State) (p : Nat) (x : SecPort) : State :=
  { s with sec := if p = 0 then { s.sec with p0 := x } else if p = 1 then { s.sec with p1 := x }
    else if p = 2 then { s.sec with p2 := x } else { s.sec with p3 := x } }

/-- The level of port `p`'s session: 0 Open to 3 Vendor. -/
def State.portLevel (s : State) (p : Nat) : Nat := s.get (F.SEC_P_STAT_LEVEL p)

/-- The level of a port's session set, in Pp_STAT and in SEC.STAT. -/
def State.setPortLevel (s : State) (p l : Nat) : State :=
  (s.put (F.SEC_P_STAT_LEVEL p) l).put F.SEC_STAT_LEVEL (setBitsAt (s.get F.SEC_STAT_LEVEL) (2 * p) 2 l)

/-- RESULT of a port. -/
def State.portResult (s : State) (p r : Nat) : State := s.put (F.SEC_P_STAT_RESULT p) r

/-- The eight words of a register array, from address `a` up, as bytes. -/
def State.wordsBytes (s : State) (a n : Nat) : List Byte := (List.range n).flatMap (fun i => leBytes 4 (s.word (a + 4 * i)).toNat)

/-- Bytes placed in a register array, of 64 words at the most. -/
def State.setWordsBytes (s : State) (a : Nat) (l : List Byte) : State :=
  s.each (List.range (min (l.length / 4) 64)) (fun t i => t.setWord (a + 4 * i) (BitVec.ofNat 32 (leNat ((l.drop (4 * i)).take 4))))

/-- A register array of `n` words cleared. -/
def State.clearWords (s : State) (a n : Nat) : State := s.each (List.range n) (fun t i => t.setWord (a + 4 * i) 0)

def chalAddr (p : Nat) : Nat := 0x190120 + 0x80 * (p % 4)
def respAddr (p : Nat) : Nat := 0x190140 + 0x80 * (p % 4)
def fuseAddr : Nat := 0x190048

/-! ## Debug (R461 to R463) -/

/-- The debug state. -/
def State.dbg (s : State) : Nat := s.get F.SEC_STAT_DBG

/-- The device resets itself 1 ms from now, as RESET_N does (R463). -/
def State.resetSoon (s : State) : State :=
  match s.boot.selfReset with
  | some _ => s
  | none => { s with boot := { s.boot with selfReset := some (s.aon + msU 1) } }

/-- The debug state changes: DEBUG_STATE with the source of the change (R461); leaving intrusive ends its front-end fault and
resets the device (R463). -/
def State.dbgTo (s : State) (new src : Nat) : State :=
  let old := s.dbg
  if old = new then s
  else
    let t : State := { s with sec := { s.sec with dbgBy := src } }
    let u := ((t.put F.SEC_STAT_DBG new).put F.SEC_DBG_STATE new).raise 0x1906 (new + 256 * old + 65536 * src)
    if old = 2 then ((u.feClear feDEBUG).txCause txDEBUG false).resetSoon else u

/-- A pending intrusive entry is given up. -/
def State.dbgGiveUp (s : State) : State :=
  match s.sec.dbgWait with
  | none => s
  | some _ => (State.feClear { s with sec := { s.sec with dbgWait := none } } feDEBUG).txCause txDEBUG false

/-- Debug goes off, from whatever it is at or on its way to. -/
def State.dbgOff (s : State) (src : Nat) : State := s.dbgGiveUp.dbgTo 0 src

/-- SEC.DBG.REQ written by a source (R461): 0 only by the writer of the present state, requests refused in Doze. -/
def State.dbgReq (s : State) (req src : Nat) : State :=
  if s.cur = 2 ∨ 3 ≤ req then s
  else
    let t := s.put F.SEC_DBG_REQ req
    if req = 0 then (if s.sec.dbgBy = src then t.dbgOff src else t)
    else if req = 1 then t.dbgGiveUp.dbgTo 1 src
    else if s.dbg = 2 then t
    else State.txCause (State.feSet { t with sec := { t.sec with dbgWait := some src } } feDEBUG) txDEBUG true

/-- Every drain enable is low: the debug state becomes intrusive (R463). -/
def State.dbgEnter (s : State) : State :=
  match s.sec.dbgWait with
  | none => s
  | some src =>
    if s.pins.drain = 0 then State.dbgTo { s with sec := { s.sec with dbgWait := none } } 2 src else s

/-! ## Sessions (R452 to R454) -/

/-- A session closes: S is cleared, SESSION_CLOSED with the port and the cause; debug that the port opened closes. -/
def State.sesClose (s : State) (p cause : Nat) : State :=
  let l := s.portLevel p
  if l = 0 then s
  else
    let t := ((s.setSecPort p { s.secPort p with key := none }).setPortLevel p 0).raise 0x1905 (p + 256 * l + 65536 * cause)
    if (t.dbg ≠ 0 ∧ t.sec.dbgBy = p) ∨ t.sec.dbgWait = some p then t.dbgOff 7 else t

/-- The key of a level, none while it may not be used: a blank Operator or Service key stands for 32 zero bytes, in Dry dock
only (R451). -/
def State.levelKey (s : State) (l : Nat) : Option (List Byte) :=
  let blank : Option (List Byte) := if s.cur = 1 then some (List.replicate 32 0) else none
  match l with
  | 1 => match s.fuses.keyOperator with | some k => some k | none => blank
  | 2 => match s.fuses.keyService with | some k => some k | none => blank
  | 3 => some s.fuses.keyVendor
  | _ => none

/-- The port is held off or locked now. -/
def State.heldOff (s : State) (p : Nat) : Bool := match (s.secPort p).holdUntil with | none => false | some a => decide (s.aon < a)
def State.lockedNow (s : State) (p : Nat) : Bool := (s.secPort p).lockUntil != none

/-- GO: a fresh challenge, or a refusal (R452, R454). -/
def State.sesGo (s : State) (p level : Nat) : State :=
  let t := s.put (F.SEC_P_REQ_LEVEL p) level
  if t.lockedNow p then t.portResult p 2
  else if t.heldOff p then t.portResult p 1
  else if t.levelKey level = none then t.portResult p 3
  else
    let (ds, u) := State.drawMany 32 t
    ((u.setWordsBytes (chalAddr p) (ds.map (fun d => BitVec.ofNat 8 d))).setSecPort p
      { u.secPort p with chal := some u.aon, want := level }).portResult p 0

/-- A failed VERIFY (R452, R454). -/
def State.sesFail (s : State) (p level : Nat) : State :=
  let k := if s.get (F.SEC_P_STAT_FAILS p) < 8 then s.get (F.SEC_P_STAT_FAILS p) + 1 else 8
  let t := (((s.sesClose p 3).put (F.SEC_P_STAT_FAILS p) k).portResult p 4).raise 0x1902 (p + 256 * level + 65536 * k)
  if 8 ≤ k then (t.setSecPort p { t.secPort p with lockUntil := some (t.aon + sU 86400) }).raiseHead 0x1903 p
  else t.setSecPort p { t.secPort p with holdUntil := some (t.aon + sU (2 ^ (k - 1))) }

/-- The response that opens a session of port `p` at a level (R452 step 3). -/
def State.sesExpect (s : State) (p level : Nat) : List Byte :=
  hmac256 ((s.levelKey level).getD (List.replicate 32 0))
    (s.wordsBytes (chalAddr p) 8 ++ leBytes 8 s.fuses.devid ++ leBytes 1 p ++ leBytes 1 level)

/-- VERIFY (R452): the challenge is used up; a match opens or replaces the session. -/
def State.sesVerify (s : State) (p : Nat) : State :=
  let x := s.secPort p
  let valid : Bool := match x.chal with | none => false | some a => decide (s.aon ≤ a + sU 10)
  let t := s.setSecPort p { x with chal := none }
  if !valid then t.portResult p 5
  else if s.wordsBytes (respAddr p) 8 = s.sesExpect p x.want then
    let key := hmac256 ((s.levelKey x.want).getD (List.replicate 32 0)) (s.wordsBytes (chalAddr p) 8 ++ [0x53])
    ((((t.setSecPort p { x with chal := none, key := some key, last := s.aon, holdUntil := none }).setPortLevel p x.want).put
      (F.SEC_P_STAT_FAILS p) 0).portResult p 0).raise 0x1901 (p + 256 * x.want)
  else t.sesFail p x.want

/-- A write of Pp_REQ (R452): more than one command bit is ignored as a whole. -/
def State.sesReq (s : State) (p v : Nat) : State :=
  let go := bitAt v 31
  let ver := bitAt v 30
  let cl := bitAt v 29
  if 2 ≤ b2n go + b2n ver + b2n cl then s.portResult p 6
  else if go then s.sesGo p (v % 4)
  else
    let t := s.put (F.SEC_P_REQ_LEVEL p) (v % 4)
    if ver then t.sesVerify p else if cl then t.sesClose p 0 else t

/-- SEC.CTL.TIMEOUT_S as applied, as a duration. -/
def State.sesLimit (s : State) : Nat := let v := s.get F.SEC_CTL_TIMEOUT_S; sU (if v < 60 then 60 else v)

/-- No access for TIMEOUT_S (R453). -/
def State.sesTimeout (s : State) (p : Nat) : State :=
  if s.portLevel p = 0 then s else (s.elapseTo ((s.secPort p).last + s.sesLimit)).sesClose p 1

/-- An access arrives through a port. -/
def State.sesTouch (s : State) (p : Nat) : State := s.setSecPort p { s.secPort p with last := s.aon }

/-- A brick that left UP closes the session it carries (R453). -/
def State.sesLinks (s : State) : State :=
  [0, 1].foldl (fun t b => if t.brickUp b then t else t.sesClose (b + 1) 2) s

/-- A lock ends: FAILS 0, LOCK_CLEARED (R455). -/
def State.lockEnd (s : State) (p how : Nat) : State :=
  match (s.secPort p).lockUntil with
  | none => s
  | some _ =>
    ((s.setSecPort p { s.secPort p with lockUntil := none, holdUntil := none }).put (F.SEC_P_STAT_FAILS p) 0).raise 0x1904
      (p + 256 * how)

/-- The 24 h of a lock expire. -/
def State.lockExpire (s : State) (p : Nat) : State :=
  match (s.secPort p).lockUntil with
  | none => s
  | some a => (s.elapseTo a).lockEnd p 0

/-- SEC.LOCK_CLR from another port's Service session (R455): `own` the writer's port, 4 for none. -/
def State.lockClr (s : State) (mask own : Nat) : State :=
  s.each ((bitList 4 mask).filter (fun p => p ≠ own)) (fun t p => t.lockEnd p 1)

/-- HOLD_S and LOCK_H of a port as they read now. -/
def State.portLeft (s : State) (p : Nat) : Nat × Nat :=
  let up (n d : Nat) : Nat := (n + d - 1) / d
  (match (s.secPort p).holdUntil with | none => 0 | some a => up (a - s.aon) (sU 1),
   match (s.secPort p).lockUntil with | none => 0 | some a => up (a - s.aon) (sU 3600))

/-! ## Zeroisation (R465) -/

/-- Zeroisation with its cause: 0 Doze, 1 POR, 2 RESET_N, 3 SEC.CTL. -/
def State.zeroise (s : State) (cause : Nat) : State :=
  let t := s.each (List.range 4) (fun u p =>
    let v := (u.sesClose p 4).setSecPort p { (u.sesClose p 4).secPort p with key := none, chal := none }
    (((v.clearWords (chalAddr p) 8).clearWords (respAddr p) 8).clearWords (0x180040 + 0x200 * (p % 4)) 16).clearWords
      (0x180080 + 0x200 * (p % 4)) 18)
  ((t.clearWords fuseAddr 8).dbgOff 7).raise 0x1907 cause

/-! ## Fuses (R451, R466) -/

/-- SEC.FUSE_STAT.SET. -/
def State.fuseSet (s : State) : Nat :=
  b2n (s.fuses.keyOperator != none) + 2 * b2n (s.fuses.keyService != none) + 4 + 8 * b2n (s.fuses.regDigest != none)
    + 16 * b2n (s.fuses.imgKey0 != none) + 32 * b2n (s.fuses.imgKey1 != none) + 64 * b2n s.fuses.revoked0
    + 128 * b2n s.fuses.revoked1

/-- The bit of FUSE_STAT.SET for a TARGET. -/
def fuseBit (target : Nat) : Nat :=
  match target with
  | 0 => 0
  | 1 => 1
  | 2 => 3
  | 3 => 4
  | 4 => 5
  | 5 => 6
  | _ => 7

/-- The RESULT of a FUSE_CMD: 0 accepted, 1 STATE, 2 TEMP, 3 SET, 5 LAST. -/
def State.fuseCheck (s : State) (target : Nat) : Nat :=
  let other := if target = 5 then s.fuses.imgKey1 != none && !s.fuses.revoked1 else s.fuses.imgKey0 != none && !s.fuses.revoked0
  if s.cur ≠ 1 then 1
  else if s.flag F.THERM_STAT_NVM_OK = false then 2
  else if bitAt s.fuseSet (fuseBit target) then 3
  else if 5 ≤ target ∧ other = false then 5
  else 0

/-- A FUSE_CMD GO: refused, or burning for 30 ms, 1 ms for a revocation. A reserved TARGET, or a command while one burns, does
nothing. -/
def State.fuseGo (s : State) (target : Nat) : State :=
  if 7 ≤ target ∨ s.flag F.SEC_FUSE_RES_BUSY = true then s
  else
    let r := s.fuseCheck target
    if r ≠ 0 then s.put F.SEC_FUSE_RES_RESULT r
    else
      State.putb { s with sec := { s.sec with
        burn := some (target, s.wordsBytes fuseAddr 8, s.aon + msU (if 5 ≤ target then 1 else 30)) } } F.SEC_FUSE_RES_BUSY true

/-- A fuse field set. -/
def Fuses.program (f : Fuses) (target : Nat) (l : List Byte) : Fuses :=
  match target with
  | 0 => { f with keyOperator := some l }
  | 1 => { f with keyService := some l }
  | 2 => { f with regDigest := some l }
  | 3 => { f with imgKey0 := some l }
  | 4 => { f with imgKey1 := some l }
  | 5 => { f with revoked0 := true }
  | _ => { f with revoked1 := true }

/-- A burn completes and is read back; on a mismatch the field is marked programmed and holds a free value (log entry 2). -/
def State.fuseDone (s : State) (ok : Bool) : State :=
  match s.sec.burn with
  | none => s
  | some (target, l, e) =>
    let t := s.elapseTo e
    let (ds, u) := if ok then ([], t) else State.drawMany 32 t
    let v : State := { u with
      sec := { u.sec with burn := none }
      fuses := u.fuses.program target (if ok then l else ds.map (fun d => BitVec.ofNat 8 d)) }
    let r := if ok then 0 else 4
    ((v.putb F.SEC_FUSE_RES_BUSY false).put F.SEC_FUSE_RES_RESULT r).raise 0x1908 (target + 256 * r)

end Sys2Proof.Machine
end

