-- ==== Sys2Proof/Machine/Power.lean ====
section
/-! DEFINITION. Power domains, power states, the AVS loop and the surge budget (03_power_and_states.md), with the boot steps
8 to 13 (05_startup_and_configuration.md R88). -/

namespace Sys2Proof.Machine

/-! ## Which domains own a register (24_register_map.md R469) -/

/-- The register word at `a` is live while one of these domains is up; none: in every state but Off. -/
def regDoms (a : Nat) : List Nat :=
  let o := a % 0x10000
  match a / 0x10000 with
  | 0x02 =>
    if 0x20 ≤ o ∧ o < 0x40 then [domSYN ((o - 0x20) / 16)]
    else if 0x60 ≤ o ∧ o < 0x80 then [linkDom ((o - 0x60) / 8)] else []
  | 0x04 =>
    if 0x100 ≤ o ∧ o < 0x900 then [domRXQ ((o - 0x100) / 0x100)]
    else if 0x1000 ≤ o ∧ o < 0x3000 then [domRXQ ((o - 0x1000) / 0x400)] else []
  | 0x05 => [domDSPRX]
  | 0x06 => if 0x100 ≤ o ∧ o < 0x900 then [domTXQ ((o - 0x100) / 0x100)] else [domDSPTX]
  | 0x07 => [domDSPTX]
  | 0x08 => [domDPD]
  | 0x09 =>
    if 0x100 ≤ o ∧ o < 0x200 then [domQCL ((o - 0x100) / 0x40)]
    else if 0x1000 ≤ o ∧ o < 0x1C00 then [domQCL ((o - 0x1000) / 0x300)]
    else (List.range 4).map domQCL
  | 0x0B =>
    if 0x100 ≤ o ∧ o < 0x180 then [domFH ((o - 0x100) / 0x40)]
    else if 0x1000 ≤ o ∧ o < 0x1400 then [domFH ((o - 0x1000) / 0x200)]
    else [domFH 0, domFH 1]
  | 0x0C => [domFH 0, domFH 1]
  | 0x0D =>
    if 0x100 ≤ o ∧ o < 0x180 then [domRG ((o - 0x100) / 0x40)]
    else if 0x1000 ≤ o ∧ o < 0x1400 then [domRG ((o - 0x1000) / 0x200)]
    else [domRG 0, domRG 1]
  | 0x0F => [domLOOK]
  | 0x10 => if 0x100 ≤ o ∧ o < 0x340 then [domMON] else []
  | 0x12 => [domMON]
  | 0x13 => [domHOLD]
  | 0x14 => [domHOLD]
  | 0x15 => [domHOLD]
  | 0x18 => [domPILOT]
  | _ => []

/-- The register word at `a` is live. -/
def State.regLive (s : State) (a : Nat) : Bool := (regDoms a).isEmpty || (regDoms a).any s.up

/-- Words of class S (R475): the receive store's status, servo, retired-slice and compensation words
(06_receive_front_end_and_adc.md R127), the transmit store's LOL and NULL words (08_transmit_path.md R168), and the state of
the ORX slices, which is ORX's and not DPD's. -/
def regStored (a : Nat) : Bool :=
  (decide (0x40100 ≤ a ∧ a < 0x40900) && [0, 4, 0xC].contains ((a - 0x40100) % 0x20))
    || decide (0x41000 ≤ a ∧ a < 0x43000)
    || (decide (0x60100 ≤ a ∧ a < 0x60900) && [8, 0xC].contains ((a - 0x60100) % 0x20))
    || decide (0x80200 ≤ a ∧ a < 0x80220)

/-- Domain `d` owns the word: it is the word's domain, and none of the others that keep the word live is up. -/
def State.domOwns (s : State) (d a : Nat) : Bool :=
  (regDoms a).contains d && (regDoms a).all (fun e => e == d || !s.up e)

/-- The words of domain `d` at their reset values (R49, R475); PILOT.STAT.RESETS is of class P and stays. -/
def State.eraseRegs (s : State) (d : Nat) : State :=
  let t : State := { s with regs := sparseKeep (fun a => regStored a || !s.domOwns d a) s.regs }
  (if d = domPILOT then t.put F.PILOT_STAT_RESETS (s.get F.PILOT_STAT_RESETS) else t).syncIrq

/-- A word as a write leaves it: RW and RWL fields that `ok` admits take the written bits, W1C bits written 1 clear, every
other field stays (00_scope.md, table of field types). -/
def RegRow.merge (r : RegRow) (ok : FieldRow → Bool) (old v : Nat) : Nat :=
  r.fields.foldl (fun acc f =>
    let w := f.hi - f.lo + 1
    if ok f = false then acc
    else match f.kind with
      | .rw => setBitsAt acc f.lo w (bitsAt v f.lo w)
      | .rwl => setBitsAt acc f.lo w (bitsAt v f.lo w)
      | .w1c => setBitsAt acc f.lo w (maskDiff (bitsAt acc f.lo w) (bitsAt v f.lo w))
      | _ => acc) old

/-- A word written field by field, with no behaviour of its own. -/
def State.mergeWord (s : State) (ok : FieldRow → Bool) (a v : Nat) : State :=
  match findReg a with
  | none => s
  | some r => s.setWord a (BitVec.ofNat 32 (r.merge ok (s.word a).toNat v))

/-- The receive NCO as its GO word asks (R136). -/
def State.rxNcoWrite (s : State) (v : Nat) : Bool × State :=
  s.rxNcoGo (toSigned 48 (s.get F.RXD_NCO_FREQ_LO_FREQ + 2 ^ 32 * s.get F.RXD_NCO_FREQ_HI_FREQ)) (bitAt v 30)
    (s.get64 F.RXD_NCO_AT_LO_STAMP F.RXD_NCO_AT_HI_STAMP)

/-- The transmit NCO as its GO word asks (R155). -/
def State.txNcoWrite (s : State) (v : Nat) : Bool × State :=
  s.txNcoGo (toSigned 48 (s.get F.TXD_NCO_FREQ_LO_FREQ + 2 ^ 32 * s.get F.TXD_NCO_FREQ_HI_FREQ)) (bitAt v 30)
    (s.get64 F.TXD_NCO_AT_LO_STAMP F.TXD_NCO_AT_HI_STAMP)

/-- One REG entry of the image written as if its unit were stopped (05_startup_and_configuration.md R494; log entry 16: of the
command bits only the NCOs' GO has something to act on). -/
def State.overlayOne (s : State) (e : Nat × Nat) : State :=
  let t := s.mergeWord (fun _ => true) e.1 e.2
  if e.1 = F.RXD_NCO_CTL_GO.addr ∧ bitAt e.2 31 = true then (t.rxNcoWrite (e.2 % 2 ^ 30)).2
  else if e.1 = F.TXD_NCO_CTL_GO.addr ∧ bitAt e.2 31 = true then (t.txNcoWrite (e.2 % 2 ^ 30)).2
  else t

/-- The REG entries of domain `d` in image order (R49, R494). -/
def State.overlay (s : State) (d : Nat) : State :=
  s.each (s.boot.store.reg.filter (fun e => s.domOwns d e.1)) State.overlayOne

/-- The REG entries of the blocks that are live in every state but Off, and what follows from them: alignments and the berths
in force. -/
def State.overlayBase (s : State) : State :=
  let t := s.each (s.boot.store.reg.filter (fun e => (regDoms e.1).isEmpty)) State.overlayOne
  let u := t.each t.paths (fun v p => v.each [0, 1] (fun w dir =>
    { w with berth := { w.berth with aligned := sparsePut (fun _ => ({} : Aligned)) w.berth.aligned (2 * p + dir) (w.alignAsked p dir) } }))
  u.berthBoot.retiredSync.syncIrq

/-! ## Raising and lowering a domain (R48 to R50) -/

/-- The CPLL goes down with its domain: the state of bypass holds (04_clocks_and_synthesisers.md R72), and a first lock
follows the next raise. -/
def State.cpllDown (s : State) : State :=
  let t : State := { s with clk := { s.clk with
    hoSince := none, gatesOpen := false, lockSince := none, rot := 0, everLocked := false, aligned := false, divReset := none } }
  ((((t.put F.CLK_CPLL_STAT_MODE 0).putb F.CLK_CPLL_STAT_BYP_SRC (!t.flag F.CLK_CPLL_STAT_REF_OK)).syncHo).txCause txCPLL true)

/-- Synthesiser `n` goes down; its wear stays (22_reserve.md R437). -/
def State.synDown (s : State) (n : Nat) : State := (s.setSyn n { losses := (s.syn n).losses }).loSync

/-- Synthesiser `n` is up with the setting of its registers and locks once the CPLL runs. -/
def State.synUp (s : State) (n : Nat) : State :=
  s.setSyn n { n := s.get (F.CLK_SYN_CTL_N n), div := s.get (F.CLK_SYN_CTL_DIV n), lockStart := s.aon
               losses := (s.syn n).losses }

/-- Pilot's firmware begins again, with its settings at their defaults (23_pilot_security_debug.md R456, R458, R460). -/
def Rsv.fresh (r : Rsv) (starting : Bool) : Rsv :=
  { starting := starting, resets := r.resets, muted := r.muted, uncorr := r.uncorr, emptySince := r.emptySince, advised := r.advised }

/-- What stands before the domain is marked down. -/
def State.lowerBefore (s : State) (d : Nat) : State :=
  if d = domDPD then s.dpdLower
  else if 8 ≤ d ∧ d < 16 then State.txFaultSync { s with tx := { s.tx with lowering := setBitAt s.tx.lowering (d - 8) true } }
  else s

/-- What a unit loses with its domain. -/
def State.lowerAfter (s : State) (d : Nat) : State :=
  if 8 ≤ d ∧ d < 16 then State.txFaultSync { s with tx := { s.tx with lowering := setBitAt s.tx.lowering (d - 8) false } }
  else if 16 ≤ d ∧ d < 24 then (s.rxQuadDown (d - 16)).syncRxd
  else if 27 ≤ d ∧ d < 31 then s.quayLower (d - 27)
  else if d = domCPLL then s.cpllDown
  else if d = domSYN 0 ∨ d = domSYN 1 then s.synDown (d - 4)
  else if d = domLODIST then { s with clk := { s.clk with aligned := false, divReset := none, swap := none } }
  else if d = domORX then { s with dpd := { s.dpd with orx := [] }, tx := { s.tx with readback := none } }
  else if d = domDSPRX then State.rxChains { s with rx := { s.rx with nco := [], ncoArm := none, paths := [], cal := none } }
  else if d = domDSPTX then
    State.txChains { s with tx := { s.tx with ncoArm := none, gains := [], bypass := [], restarts := [], cal := none } }
  else if d = domLOOK then s.lookSync
  else if d = domHOLD then s.holdLower.craneLower
  else if d = domMON then State.monLower { s with fend := { s.fend with moves := [] } }
  else if d = domPILOT then { s with rsv := s.rsv.fresh false }
  else if 32 ≤ d ∧ d < 36 then
    { s with link := { s.link with ports := sparseErase s.link.ports (d - 32) }
             clk := { s.clk with lpllSince := setNth s.clk.lpllSince (d - 32) none } }
  else s

/-- Domain `d` lowered: its registers return to their reset values (R49). -/
def State.domLower (s : State) (d : Nat) : State :=
  if s.up d then
    let t := (s.lowerBefore d).markDom d false
    (t.eraseRegs d).lowerAfter d
  else s

/-- What is loaded ahead of the image's REG entries: the SAFE section (05_startup_and_configuration.md, table "section
types"). -/
def State.raiseBefore (s : State) (d : Nat) : State :=
  if d = domMON then s.loadSafe
  else if 8 ≤ d ∧ d < 16 ∧ s.boot.store.applied = true then
    s.each (quadOuts (d - 8)) (fun t p =>
      let c := Config.safeNull t.boot.store.safe p
      (t.put (F.TXA_P_NULL_I p) (c % 1024)).put (F.TXA_P_NULL_Q p) (c / 1024 % 1024))
  else s

/-- The link PLL of a link raised: at full rate where the CPLL runs, else in bypass; then the link trains (R83, R85). -/
def State.linkRaised (s : State) (l : Nat) : State :=
  let t := s.linkStart l
  t.put (F.CLK_LPLL_STAT_MODE l) (if (t.port l).mini then 3 else if t.cpllRuns then 2 else 3)

/-- The units of the domain start (R494). -/
def State.raiseAfter (s : State) (d : Nat) : State :=
  if 8 ≤ d ∧ d < 16 then s.txFaultSync
  else if 16 ≤ d ∧ d < 24 then s.each (quadOuts (d - 16)) State.showServo
  else if 27 ≤ d ∧ d < 31 then (s.quayRaise (d - 27)).dealCheck (d - 27)
  else if d = domCPLL then s.cpllRetry
  else if d = domSYN 0 ∨ d = domSYN 1 then s.synUp (d - 4)
  else if d = domDSPRX then s.syncRxd
  else if d = domDSPTX then (if s.flag F.TXD_CTL_RUN then s.txChains.bwStart else s.syncTx)
  else if d = domDPD then s.dpdRaise
  else if d = domLOOK then s.lookSync.lookRaise
  else if d = domHOLD then s.holdRaise
  else if d = domMON then s.monRaise
  else if d = domPILOT then
    (if s.boot.store.pilotFw.isEmpty then s.putb F.PILOT_STAT_NOFW true
    else { s with rsv := s.rsv.fresh true })
  else if 32 ≤ d ∧ d < 36 then s.linkRaised (d - 32)
  else s

/-- Domain `d` raised: reset values, the image's entries, then its units (R48, R49, R494). -/
def State.domRaise (s : State) (d : Nat) : State :=
  if s.up d || !s.domPresent d then s
  else ((((s.eraseRegs d).raiseBefore d).overlay d).markDom d true).raiseAfter d

/-- The raise order of R48. -/
def raiseOrder : List Nat :=
  [0, 1, 37, 2, 36, 3, 4, 5, 6, 24, 25, 7, 26, 27, 28, 29, 30, 31] ++ (List.range 8).map domRXQ ++ (List.range 8).map domTXQ
    ++ [32, 33, 34, 35]

/-- What hangs on the links after an event of the lane layer. -/
def State.linksChanged (s : State) : State :=
  (((((s.fhmLinks.ringPorts).tideSource).regrade 2).regrade 3).lookSync.craneLinks).sesLinks

/-- The drift meters whose crossing carries data (01_architecture.md R24). -/
def State.meterActive (s : State) (m : Nat) : Bool :=
  let quads := s.cpllRuns && s.quads.any (fun q => s.up (domRXQ q) || s.up (domTXQ q))
  match m with
  | 0 => s.cur == 4 && quads
  | 1 => s.cur == 4 && quads && s.get (F.TOP_DRIFT_NOW_NS 1) != 0xFFFF
  | 2 => s.cur == 4 && quads
  | 3 => s.up (domFH 0) || s.up (domFH 1)
  | 4 => s.up (domFH 0) || s.up (domFH 1)
  | 5 => s.ringSize != 0 && decide (3 ≤ s.cur)
  | 6 => s.ringSize != 0 && decide (3 ≤ s.cur)
  | _ => decide (3 ≤ s.cur) && s.up domHOLD

/-- Idle meters read 0xFFFF (R21). -/
def State.metersIdle (s : State) : State :=
  s.each (List.range 8) (fun t m => if t.meterActive m then t else t.meterIdle m)

/-- What spans the domains, after any of them changed. -/
def State.domsChanged (s : State) (rx : Bool) : State :=
  (((s.iff rx (fun t => t.agcInit.rxChains)).loSync.syncTx.linksChanged.dealCheckAll).regradeAll.metersIdle).maskCheck

/-- The domains brought to a wanted set: the others lowered in the reverse of the raise order, then the missing ones raised in
it (R48). -/
def State.domsTo (s : State) (want : List Nat) : State :=
  let t := s.each (raiseOrder.reverse.filter (fun d => !want.contains d)) State.domLower
  let rx := (List.range 8).any (fun q => want.contains (domRXQ q) && !t.up (domRXQ q) && t.domPresent (domRXQ q))
  (t.each (raiseOrder.filter (fun d => want.contains d)) State.domRaise).domsChanged rx

/-- The domains of RUN_OFF that are off, and the spare synthesiser where there is one not in use (R56). -/
def State.runOff (s : State) : List Nat :=
  let spare := if s.flag F.PWR_RUN_OFF_SPARE_SYN && !s.split then [domSYN (1 - s.txSyn)] else []
  let pick (f : Field) (d : Nat) : List Nat := if s.flag f then [d] else []
  spare ++ pick F.PWR_RUN_OFF_FHA (domFH 0) ++ pick F.PWR_RUN_OFF_FHB (domFH 1) ++ pick F.PWR_RUN_OFF_RGE (domRG 0)
    ++ pick F.PWR_RUN_OFF_RGW (domRG 1) ++ pick F.PWR_RUN_OFF_LOOK domLOOK ++ pick F.PWR_RUN_OFF_HOLD domHOLD

/-- Domains of the quads and DPD, which Quiet holds in standby. -/
def standby (d : Nat) : Bool := (8 ≤ d && d < 24) || d == domDPD

/-- The domains up in a state (table "domains up in each state"). -/
def State.wantDoms (s : State) (st brick : Nat) : List Nat :=
  match st with
  | 1 => [domAON, domSHELL, domMON] ++ (if s.flag F.FHL_CTL_MINLINK then [domFH 0] else [])
  | 2 => [domAON, domSHELL, domCPLL, domFH brick]
  | 3 => raiseOrder.filter (fun d => !standby d
      && !((s.flag F.PWR_RUN_OFF_SPARE_SYN && !s.split) && d == domSYN (1 - s.txSyn)))
  | _ => raiseOrder.filter (fun d => !s.runOff.contains d)

/-! ## The surge budget (R61, R62) -/

/-- PWR.SURGE.B_J shows the budget in units of 1/1,024 J. -/
def State.surgeTo (s : State) (b : Nat) : State :=
  State.put { s with power := { s.power with surge := b } } F.PWR_SURGE_B_J (b * 1024 / 1000000)

/-- The budget reaches 0, or has refilled to 180 J (R62). -/
def State.surgeCheck (s : State) : State :=
  if s.power.surge = 0 ∧ s.flag F.PWR_SURGE_EMPTY = false then
    ((s.putb F.PWR_SURGE_EMPTY true).raise 0x0104 0).throttleReq F.THERM_REQ_SURGE 1
  else if 180000000 ≤ s.power.surge ∧ s.flag F.PWR_SURGE_EMPTY = true then
    ((s.throttleReq F.THERM_REQ_SURGE 0).putb F.PWR_SURGE_EMPTY false).raise 0x0105 0
  else s

/-- The estimate of 1 ms: P in mW (R61). -/
def State.powerEstimate (s : State) (mw : Nat) : State :=
  let p : Nat := mw % 2 ^ 20
  let b := clampInt 0 900000000 ((s.power.surge : Int) - ((p : Int) - 52000))
  ((s.put F.PWR_EST_P_MW p).surgeTo b.toNat).surgeCheck

/-! ## Entering a state -/

/-- The device is in Run: RUN_OFF and SPARE_SYN as written, targets, the recorded quads, the throttle level
(R56, R341; 21_thermal.md R427). -/
def State.runEnter (s : State) : State :=
  let t : State := { s with power := { s.power with leftRun := none } }
  let again := bitList 8 (t.get F.FEND_PA_STAT_RESUME)
  let u := (t.put F.FEND_PA_STAT_RESUME 0).each (List.range 72) (fun v o => if v.up domMON then v.moveTarget o fastRate else v)
  let v := u.throttleApply
  let w := if v.flag F.FEND_PA_CTL_AUTO_ON then v.each again (fun x q => if x.paRefuses q then x else x.paStartOn q) else v
  w.syncTx.lookSync.dealCheckAll.syncGrid

/-- Doze is entered with its kept brick: a two-lane stripe on it; debug is closed and keys are cleared before (R51). -/
def State.dozeEnter (s : State) (brick : Nat) : State := s.narrowEnter brick

/-- Dry dock is entered: the minimal link on brick A, Tide free (R51). -/
def State.dryEnter (s : State) : State :=
  let t := s.tideFree
  if t.up (domFH 0) && !(t.port 0).mini then (t.linkRaised 0).linksChanged else t

/-- Doze is left: the kept brick returns to its full stripe. -/
def State.dozeLeave (s : State) : State := [0, 1].foldl (fun t b => if t.up (domFH b) then t.narrowLeave b else t) s

/-- A state is entered: its domains, PWR.STATE, STATE_CHANGED and what the state starts (R51, R52). `refill`: the surge budget
is full, after a boot or an exit from Doze (R61). -/
def State.enterState (s : State) (st brick cause : Nat) (refill : Bool) : State :=
  let from_ := s.cur
  let s0 := if from_ = 2 ∧ st ≠ 2 then s.dozeLeave else s
  let t := (((s0.domsTo (s0.wantDoms st brick)).put F.PWR_STATE_CUR st).put F.PWR_STATE_CAUSE cause).putb F.PWR_STATE_BUSY false
  let u : State := { t with power := { t.power with trans := none } }
  let v := if st = 4 then u.runEnter else if st = 2 then u.dozeEnter brick else if st = 1 then u.dryEnter else u
  let w := if refill then (v.surgeTo 900000000).surgeCheck else v
  (w.raise 0x0101 (st + 256 * cause)).metersIdle

/-! ## Requests (R52, R55) -/

/-- A request refused: REQ_REFUSED. -/
def State.reqRefuse (s : State) : State := s.raise 0x0107 0

/-- Thermal shutdown is in force (21_thermal.md R428). -/
def State.shutDown (s : State) : Bool := s.flag F.THERM_STAT_SHUT

/-- The request cannot be met: a reserved code, Run or Quiet in thermal shutdown, Run or Quiet in intrusive debug
(23_pilot_security_debug.md R463), anything but Dry dock without an applied image, anything at all after a failed boot
(R54). -/
def State.reqBad (s : State) (code : Nat) : Bool :=
  code == 0 || decide (4 < code) || (decide (3 ≤ code) && s.shutDown) || (s.dbg == 2 && decide (code ≤ 2))
    || (s.cur == 1 && code != 1 && (!s.boot.store.applied || s.get F.PWR_STATE_CAUSE == 2))

/-- Run is left: the instant, the quads recorded and turned off, what Run's units give up (R53, R341; 11_berths R231,
13_fronthaul_messages.md R276, 19_hold_and_gauge.md R399). -/
def State.leaveRun (s : State) : State :=
  let t := s.put F.FEND_PA_STAT_RESUME s.quadsOn
  let u : State := { t with power := { t.power with leftRun := some t.stamp } }
  let v := u.each u.quads State.paOff
  let w := v.each (List.range 72) (fun x o => if o < 64 ∧ x.paState (o / 8) ≠ paOFF then x else x.moveSafe o fastRate)
  ((w.berthLeaveRun.toFlushRun.gaugeLeave.dealCheckAll.fhmLeaveRun).ringLeaveRun.thinLevel 0).lookSync

/-- The boot steps from 8 on, for a boot or out of Dry dock: every present domain raised, quads and DPD for the start-up
calibrations (R48, R52, R88, R126). -/
def State.bootRaise (s : State) (goal : Nat) : State :=
  let t := State.put { s with boot := { s.boot with goal := goal, calDone := false } } F.BOOT_STAT_PHASE 8
  let u := if (t.port 0).mini then t.domLower (domFH 0) else t
  (u.dpdSeed.domsTo raiseOrder).put F.BOOT_STAT_PHASE 9

/-- A transition starts (R52): Doze zeroises first; from Doze to Quiet and Run the device raises everything for lock and
calibration. -/
def State.transStart (s : State) (code brick cause : Nat) : State :=
  let t := (s.put F.PWR_STATE_TGT code).putb F.PWR_STATE_BUSY true
  let u := if s.cur = 4 then t.leaveRun else t
  let v := if code = 2 ∧ 3 ≤ s.cur then u.zeroise 0 else u
  let boot := decide (s.cur = 1)
  let w : State := { v with power := { v.power with trans := some ⟨code, brick, cause, boot⟩ } }
  if boot then w.bootRaise code
  else if s.cur = 2 ∧ 3 ≤ code then
    let x : State := { w with boot := { w.boot with calDone := false } }
    x.dozeLeave.dpdSeed.domsTo raiseOrder
  else w

/-- A state request of a source that may make it: refused, held while a transition or the boot runs, ignored for the present
state, or started (R52, R55). -/
def State.powerRequest (s : State) (code brick : Nat) : State :=
  if s.reqBad code then s.reqRefuse
  else if s.flag F.PWR_STATE_BUSY then
    { s with power := { s.power with pendReq := if code = s.get F.PWR_STATE_TGT then none else some (code, brick) } }
  else if code = s.cur then s
  else s.transStart code brick 1

/-- The device enters Quiet by itself at thermal shutdown (R54; 21_thermal.md R428): from Run at once, or after the transition
in progress. -/
def State.shutRequest (s : State) : State :=
  if s.flag F.PWR_STATE_BUSY = false ∧ s.cur = 4 then s.transStart 3 0 3 else s

/-- The pending request starts once the device is idle (R55); Run entered in shutdown gives way to Quiet. -/
def State.pendStart (s : State) : State :=
  let t := match s.power.pendReq with
    | none => s
    | some (code, brick) =>
      let u : State := { s with power := { s.power with pendReq := none } }
      if u.reqBad code then u.reqRefuse else if code = u.cur then u else u.transStart code brick 1
  if t.shutDown then t.shutRequest else t

/-- Every PA sequence of the transition has ended. -/
def State.quadsOff (s : State) : Bool := s.quads.all (fun q => s.paState q == paOFF)

/-- The serving synthesisers are locked on a running CPLL. -/
def State.losLocked (s : State) : Bool := s.cpllRuns && s.synLocked s.txSyn && s.synLocked s.rxSyn

/-- The MON interlock refuses a transition as a whole (R50). -/
def State.monInterlock (s : State) : State :=
  let t : State := { s with power := { s.power with trans := none, leftRun := none } }
  (((t.putb F.PWR_STATE_BUSY false).put F.PWR_STATE_TGT t.cur).raise 0x0106 0).pendStart

/-- A transition that does not go by the boot steps completes, where nothing is left to wait for (R52). -/
def State.transComplete (s : State) : State :=
  match s.power.trans with
  | none => s
  | some ⟨target, brick, cause, boot⟩ =>
    if boot || !s.quadsOff || (s.cur == 2 && decide (3 ≤ target) && !(s.losLocked && s.boot.calDone)) then s
    else if target = 2 ∧ s.up domMON = true ∧ s.pins.drain ≠ 0 then s.monInterlock
    else (s.enterState target brick cause (s.cur == 2)).pendStart

/-! ## Boot steps 9 to 13 (05_startup_and_configuration.md R88, R90, R91) -/

/-- The links that the boot waits for: both bricks, and the ring ports of a ring (step 11). -/
def State.linksTrained (s : State) : Bool :=
  s.linkUp 0 && s.linkUp 1 && (s.ringSize == 0 || (s.linkUp 2 && s.linkUp 3))

/-- The tags of the slots as BOOT.SLIP_STAT shows them (05_startup_and_configuration.md, BOOT.SLIP_STAT): 3 for a slot B
with no device. -/
def State.syncTags (s : State) : State :=
  let b := if s.boot.device1 then s.boot.tagB.tag else 3
  let tries := if s.boot.tagA.tag = 1 then s.boot.tagA.tries else if b = 1 then s.boot.tagB.tries else 0
  ((s.put F.BOOT_SLIP_STAT_TAG_A s.boot.tagA.tag).put F.BOOT_SLIP_STAT_TAG_B b).put F.BOOT_SLIP_STAT_TRIES tries

/-- The tag of slot 0 (A) or 1 (B). -/
def State.slotTag (s : State) (n : Nat) : SlotTag := if n = 0 then s.boot.tagA else s.boot.tagB

/-- The tag of a slot written to its journal. -/
def State.setTag (s : State) (n : Nat) (x : SlotTag) : State :=
  State.syncTags { s with boot := if n = 0 then { s.boot with tagA := x } else { s.boot with tagB := x } }

/-- The booted TRIAL slot becomes GOOD (R98). -/
def State.confirmSlot (s : State) : State :=
  let n := s.get F.BOOT_STAT_SLOT
  (s.setTag n { s.slotTag n with tag := 0, tries := 0 }).putb F.BOOT_STAT_TRIAL false

/-- AUTO_CONFIRM at DONE, where a flash write is permitted (R99, R103). -/
def State.autoConfirm (s : State) : State :=
  if s.flag F.BOOT_SLIP_CTL_AUTO_CONFIRM && s.flag F.BOOT_STAT_TRIAL && s.flashOpen then s.confirmSlot else s

/-- The boot ends at step 13, or in Quiet or Doze for a request made in Dry dock. -/
def State.bootEnd (s : State) : State :=
  let goal := s.boot.goal
  let (brick, cause) := match s.power.trans with
    | some x => (x.brick, x.cause)
    | none => (0, 0)
  let t : State := { s with boot := { s.boot with goal := 0 } }
  let u := if goal = 4 then (t.put F.BOOT_STAT_PHASE 13).putb F.BOOT_STAT_DONE true else t
  let v := if goal = 4 ∧ s.flag F.BOOT_STAT_DONE = false then (u.raise 0x0309 0).autoConfirm else u
  let w := if goal = 2 then v.zeroise 0 else v
  (w.enterState goal brick cause true).pendStart

/-- One step of the boot that has nothing left to wait for. -/
def State.bootNext (s : State) : State :=
  if s.boot.goal = 0 then s
  else match s.get F.BOOT_STAT_PHASE with
    | 9 => if s.losLocked then s.put F.BOOT_STAT_PHASE 10 else s
    | 10 => if s.boot.calDone then s.put F.BOOT_STAT_PHASE 11 else s
    | 11 => if s.linksTrained then s.put F.BOOT_STAT_PHASE 12 else s
    | 12 => if s.tdState = tdLOCKED then s.bootEnd else s
    | _ => s

/-- The boot goes on as far as it can. -/
def State.bootAdvance (s : State) : State := s.bootNext.bootNext.bootNext.bootNext

/-- The CPLL reports first lock (04_clocks_and_synthesisers.md R65). -/
def State.cpllFirstLock (s : State) : State :=
  if s.up domCPLL && !s.clk.everLocked && s.flag F.CLK_CPLL_STAT_REF_OK && decide (s.get F.CLK_CPLL_STAT_MODE ≤ 1) then
    let t := s.cpllLocked.feClear feCPLL
    (t.each (List.range 4) (fun u l =>
      if u.up (linkDom l) && !(u.port l).mini && u.get (F.CLK_LPLL_STAT_MODE l) == 3 then u.put (F.CLK_LPLL_STAT_MODE l) 2 else u)).bootAdvance
  else s

/-- The start-up calibrations are done: results in the stores, failures as their chapters say (R126, R168). -/
def State.startupCalDone (s : State) (rxFail txFail txLimit : Nat) (slices : List (Nat × Nat × Nat)) : State :=
  let boot := decide (s.boot.goal ≠ 0) && s.get F.BOOT_STAT_PHASE == 10
  let doze := match s.power.trans with
    | some x => s.cur == 2 && decide (3 ≤ x.target)
    | none => false
  if (boot || doze) && s.losLocked && !s.boot.calDone then
    let t := s.rxCalRun 31 s.paths rxFail slices
    let u := ((t.txCalRun 15 t.paths txFail)).each (bitList 64 txLimit) (fun v p =>
      if bitAt txFail p || !v.hasPath p then v else (v.putb (F.TXA_P_STAT_LOL_RAIL p) true).raise 0x0606 p)
    State.bootAdvance { u with boot := { u.boot with calDone := true } }
  else s

/-! ## RUN_OFF (R56) -/

/-- The domains follow RUN_OFF and LO_ROUTE in the states in which they act. -/
def State.runOffApply (s : State) : State :=
  if s.power.trans = none ∧ s.boot.goal = 0 ∧ (s.cur = 3 ∨ s.cur = 4) then
    let want := s.wantDoms s.cur 0
    if raiseOrder.all (fun d => s.up d == (want.contains d && s.domPresent d)) then s else s.domsTo want
  else s

/-- A write of PWR.RUN_OFF: FHA and FHB keep their values where neither brick would stay up (R56). -/
def State.runOffWrite (s : State) (v : Nat) : State :=
  let bad := bitAt v 1 && bitAt v 2
  let w := if bad then setBitAt (setBitAt v 1 (s.flag F.PWR_RUN_OFF_FHA)) 2 (s.flag F.PWR_RUN_OFF_FHB) else v
  let t := s.setWord F.PWR_RUN_OFF_FHA.addr (BitVec.ofNat 32 (w % 128))
  ((t.iff bad State.reqRefuse).runOffApply).regrade 8

/-! ## The AVS loop (R57 to R59) -/

/-- The least slack among the active meters, none where no meter is active; Dry dock has none (R51). -/
def State.avsSlack (s : State) : Option Nat :=
  let l := (List.range 8).filter (fun m => s.meterActive m)
  if l.isEmpty || (s.cur == 1 && s.boot.goal == 0) then none
  else some (minOf 0xFFFF (l.map (fun m => s.get (F.TOP_DRIFT_NOW_NS m))))

/-- VMAX_MV within the regulator's range. -/
def State.vmax (s : State) : Nat :=
  let v := s.get F.PWR_AVS_CTL_VMAX_MV
  if v < 650 then 650 else if 850 < v then 850 else v

/-- The new target and the calm count (R57). -/
def State.avsNext (s : State) (slack pace : Nat) : Nat × Nat :=
  let target := s.get F.PWR_AVS_STAT_TARGET_MV
  if slack < 25 * s.get F.PWR_AVS_CTL_RAISE_NS ∨ pace < 1600 then (if target + 10 < s.vmax then target + 10 else s.vmax, 0)
  else if 100 * s.get F.PWR_AVS_CTL_LOWER_NS < slack ∧ 1650 ≤ pace then
    if s.power.calm + 1 = 10 then (if 650 + 5 < target then target - 5 else 650, 0) else (target, s.power.calm + 1)
  else (target, 0)

/-- Since when the target stands at VMAX without recovery, and since when slack and pace have recovered (R58). -/
def State.avsWatch (s : State) (bad : Bool) : State :=
  let ceil := if bad && s.get F.PWR_AVS_STAT_TARGET_MV == s.vmax then
      (match s.power.ceilSince with | some a => some a | none => some s.aon) else none
  let ok := if bad then none else (match s.power.okSince with | some a => some a | none => some s.aon)
  { s with power := { s.power with ceilSince := ceil, okSince := ok } }

/-- An update of the loop: slacks of meters measured now, and the pace of each present cluster in M steps/s (R57). -/
def State.avsUpdate (s : State) (slacks paces : List (Nat × Nat)) : State :=
  let s1 := s.each slacks (fun t e => if e.1 < 8 ∧ t.meterActive e.1 = true then t.meter e.1 e.2 else t)
  let s2 := s1.each paces (fun t e => if e.1 < 4 ∧ t.up (domQCL e.1) = true then t.put (F.QCTL_C_PACE_PACE e.1) (e.2 % 65536) else t)
  if s2.power.avsStop then s2
  else if s2.flag F.PWR_STATE_BUSY && s2.boot.goal == 0 && s2.power.trans == none then s2
  else match s2.avsSlack with
    | none =>
      let t := s2.put F.PWR_AVS_STAT_TARGET_MV (s2.get F.PWR_AVS_CTL_IDLE_MV)
      State.emit { t with power := { t.power with calm := 0, ceilSince := none } } (.avs (t.get F.PWR_AVS_STAT_TARGET_MV))
    | some slack =>
      let pace := minOf 65535 (((List.range 4).filter (fun c => s2.hasCluster c && s2.up (domQCL c))).map
        (fun c => s2.get (F.QCTL_C_PACE_PACE c)))
      let (v, calm) := s2.avsNext slack pace
      let t := s2.put F.PWR_AVS_STAT_TARGET_MV v
      let u : State := { t with power := { t.power with calm := calm } }
      (u.avsWatch (decide (slack < 25 * s2.get F.PWR_AVS_CTL_RAISE_NS) || decide (pace < 1600))).emit (.avs v)

/-- An AVSBus transaction ends: whether the regulator answered, and the warning its status shows (R59). -/
def State.avsDone (s : State) (answered warning : Bool) : State :=
  if answered = false then
    let n := satInc 3 s.power.noAns
    let t : State := { s with power := { s.power with noAns := n } }
    if n = 3 ∧ s.power.avsStop = false then
      ((State.putb { t with power := { t.power with avsStop := true } } F.PWR_AVS_STAT_NORESP true).raise 0x0103 0).throttleReq
        F.THERM_REQ_AVS_NORESP 1
    else t
  else
    let was := s.power.avsStop
    let t : State := { s with power := { s.power with noAns := 0, avsStop := false, avsWarn := warning } }
    let u := if was then (t.putb F.PWR_AVS_STAT_NORESP false).throttleReq F.THERM_REQ_AVS_NORESP 0 else t
    if warning = true ∧ s.power.avsWarn = false then (u.raise 0x0108 0).throttleReq F.THERM_REQ_AVS_ALERT 1
    else if warning = false ∧ s.power.avsWarn = true then u.throttleReq F.THERM_REQ_AVS_ALERT 0
    else u

/-- The target has stood at VMAX for 1 ms without recovery (R58). -/
def State.avsCeiling (s : State) : State :=
  match s.power.ceilSince with
  | none => s
  | some a =>
    if s.flag F.PWR_AVS_STAT_CEIL then s
    else (((s.elapseTo (a + msU 1)).putb F.PWR_AVS_STAT_CEIL true).raise 0x0102 0).throttleReq F.THERM_REQ_AVS_CEIL 1

/-- Slack and pace have been good for 10 ms (R58). -/
def State.avsCeilClear (s : State) : State :=
  match s.power.okSince with
  | none => s
  | some a =>
    if s.flag F.PWR_AVS_STAT_CEIL then
      ((s.elapseTo (a + msU 10)).putb F.PWR_AVS_STAT_CEIL false).throttleReq F.THERM_REQ_AVS_CEIL 0
    else s

end Sys2Proof.Machine
end

