-- ==== Sys2Proof/Machine/Therm.lean ====
section
/-! DEFINITION. Temperature and thermal control (21_thermal.md). Temperatures are in units of 0.25 °C. -/

namespace Sys2Proof.Machine

/-! ## Sensors (R420 to R424) -/

/-- The neighbours of sensor `i` in the grid of 4 rows and 6 columns. -/
def sensorNear (i : Nat) : List Nat :=
  (if 6 ≤ i then [i - 6] else []) ++ (if i < 18 then [i + 6] else []) ++ (if i % 6 ≠ 0 then [i - 1] else [])
    ++ (if i % 6 ≠ 5 then [i + 1] else [])

/-- A value in a sorted list. -/
def insertInt (x : Int) : List Int → List Int
  | [] => [x]
  | y :: ys => if x ≤ y then x :: y :: ys else y :: insertInt x ys

/-- Twice the median: with an even count the sum of the middle two. -/
def median2 (l : List Int) : Int :=
  let q := l.foldl (fun acc x => insertInt x acc) []
  let n := q.length
  if n % 2 = 1 then 2 * nth 0 q (n / 2) else nth 0 q (n / 2 - 1) + nth 0 q (n / 2)

/-- The reading of sensor `i` in a measurement: the oscillator count and the temperature. -/
def readingOf (l : List (Nat × Int)) (i : Nat) : Nat × Int := nth (0, 0) l i

/-- Sensor `i` is retired. -/
def State.sensorOut (s : State) (i : Nat) : Bool := bitAt (s.get F.THERM_RETIRED_SENSORS) i

/-- The readings of the neighbours of `i` that are not retired. -/
def State.nearReadings (s : State) (l : List (Nat × Int)) (i : Nat) : List Int :=
  ((sensorNear i).filter (fun j => !s.sensorOut j)).map (fun j => (readingOf l j).2)

/-- The reading of sensor `i` is suspect (R422). -/
def State.suspect (s : State) (l : List (Nat × Int)) (i : Nat) : Bool :=
  let (n, v) := readingOf l i
  let near := s.nearReadings l i
  (decide (2 ≤ near.length) && decide (48 < (2 * v - median2 near).natAbs)) || n == 0 || decide (v < -220) || decide (640 < v)

/-- The value of sensor `i` in a measurement: its reading, or for a retired one the median of its neighbours, or the highest
reading of all; `d` where every sensor is retired (R423; log entry 2). -/
def State.sensorValue (s : State) (l : List (Nat × Int)) (d : Int) (i : Nat) : Int :=
  if s.sensorOut i then
    let near := s.nearReadings l i
    let all := ((List.range 24).filter (fun j => !s.sensorOut j)).map (fun j => (readingOf l j).2)
    match near, all with
    | _ :: _, _ => divRound (median2 near) 2
    | [], v :: vs => vs.foldl (fun a x => if a < x then x else a) v
    | [], [] => d
  else (readingOf l i).2

/-- The highest value and the lowest-numbered sensor that has it. -/
def hottest : List Int → Nat → Int × Nat → Int × Nat
  | [], _, b => b
  | v :: vs, i, b => hottest vs (i + 1) (if b.1 < v then (v, i) else b)

/-- A sensor's register after a measurement: the judgement against the map as it stood, the consecutive count and the value
(R422, R423). -/
def State.sensorTake (s old : State) (l : List (Nat × Int)) (i : Nat) (v : Int) : State :=
  let out := old.sensorOut i
  let bad := !out && old.suspect l i
  let n := if out then old.get (F.THERM_TS_SUSP i) else if bad then satInc 3 (old.get (F.THERM_TS_SUSP i)) else 0
  let st := if out || n == 3 then 2 else if bad then 1 else 0
  let t := (((((s.putb (F.THERM_TS_VALID i) true).putb (F.THERM_TS_NEW i) true).incWrap (F.THERM_TS_SEQ i)).put
    (F.THERM_TS_STATE i) st).put (F.THERM_TS_SUSP i) n).puti (F.THERM_TS_VALUE i) v
  if !out && n == 3 then
    (t.put F.THERM_RETIRED_SENSORS (setBitAt (t.get F.THERM_RETIRED_SENSORS) i true)).raise 0x1606 i
  else t

/-- SENSORS_LOW at 4 retired sensors and SENSORS_FAILED with its request at 9, once each (R424). -/
def State.sensorCount (s : State) : State :=
  let n := popcount 24 (s.get F.THERM_RETIRED_SENSORS)
  let t := if 4 ≤ n ∧ s.therm.low = false then State.raise { s with therm := { s.therm with low := true } } 0x1607 0 else s
  if 9 ≤ n ∧ t.therm.failed = false then
    (State.raise { t with therm := { t.therm with failed := true } } 0x1608 0).throttleReq F.THERM_REQ_SENSORS 1
  else t

/-! ## Thresholds and the ladder (R425 to R429) -/

/-- The count of a condition toward its change: whether it changes now, and the count that stands (R425). -/
def crossStep (holds : Bool) (n : Nat) (tj up down : Int) : Bool × Nat :=
  let adv := if holds then decide (tj < down) else decide (up ≤ tj)
  if adv then (if n + 1 = 4 then (true, 0) else (false, n + 1)) else (false, 0)

/-- ESC_MS and DESC_MS as durations, below 100 applied as 100. -/
def State.escTime (s : State) : Nat := let n := s.get F.THERM_LADDER_ESC_MS; msU (if n < 100 then 100 else n)
def State.descTime (s : State) : Nat := let n := s.get F.THERM_LADDER_DESC_MS; msU (if n < 100 then 100 else n)

/-- The thermal request set; the level in force follows (R426, R427). -/
def State.ladderTo (s : State) (n : Nat) : State := (s.put F.THERM_STAT_L_TH n).throttleReq F.THERM_REQ_THERMAL n

/-- WARN after a measurement. -/
def State.warnStep (s : State) (tj : Int) : State :=
  let h := s.flag F.THERM_STAT_WARN
  let (c, n) := crossStep h s.therm.nWarn tj 420 408
  let t : State := { s with therm := { s.therm with nWarn := n } }
  if c then (t.putb F.THERM_STAT_WARN (!h)).raise (if h then 0x1602 else 0x1601) 0 else t

/-- THROTTLE after a measurement: its timers and the request that follows (R426). -/
def State.thrStep (s : State) (tj : Int) : State × Nat :=
  let h := s.flag F.THERM_STAT_THR
  let l := s.get F.THERM_STAT_L_TH
  let (c, n) := crossStep h s.therm.nThr tj 460 448
  let t : State := { s with therm := { s.therm with nThr := n } }
  if c = false then (t, l)
  else if h then
    let l' := if s.flag F.THERM_STAT_SHUT then 3 else l - 1
    (State.putb { t with therm := { t.therm with esc := none, desc := if l' = 0 then none else some (t.aon + t.descTime) } }
      F.THERM_STAT_THR false, l')
  else
    (State.putb { t with therm := { t.therm with desc := none, esc := some (t.aon + t.escTime) } } F.THERM_STAT_THR true,
      if l = 0 then 1 else l)

/-- SHUTDOWN crosses: every transmit sample muted, the front-end fault, Quiet out of Run (R428). -/
def State.shutCross (s : State) : State :=
  let t := (s.putb F.THERM_STAT_SHUT true).raise 0x1604 0
  (t.txCause txTHERMAL true).feSet feTHERMAL

/-- SHUTDOWN clears: the thermal cause of the front-end fault ends (R429). -/
def State.shutClear (s : State) : State :=
  let t := s.putb F.THERM_STAT_SHUT false
  ((t.txCause txTHERMAL false).feClear feTHERMAL).raise 0x1605 0 |>.tallyKick

/-- The conditions after a measurement, then the ladder's request (R425 to R429). -/
def State.thresholds (s : State) (tj : Int) : State :=
  let w := s.warnStep tj
  let h := w.flag F.THERM_STAT_SHUT
  let (c, n) := crossStep h w.therm.nShut tj 500 460
  let x : State := { w with therm := { w.therm with nShut := n } }
  let y := if c then (if h then x.shutClear else x.shutCross) else x
  let (z, l) := y.thrStep tj
  let u := z.ladderTo (if z.flag F.THERM_STAT_SHUT then 3 else l)
  if u.flag F.THERM_STAT_SHUT then u.shutRequest else u

/-- ESC_MS has run while THROTTLE holds (R426). -/
def State.ladderUp (s : State) : State :=
  match s.therm.esc with
  | none => s
  | some a =>
    let t := s.elapseTo a
    let u : State := { t with therm := { t.therm with esc := some (t.aon + t.escTime) } }
    let l := u.get F.THERM_STAT_L_TH
    u.ladderTo (if l < 3 then l + 1 else 3)

/-- DESC_MS has run while THROTTLE stays clear (R426). -/
def State.ladderDown (s : State) : State :=
  match s.therm.desc with
  | none => s
  | some a =>
    let t := s.elapseTo a
    let l := t.get F.THERM_STAT_L_TH - 1
    State.ladderTo { t with therm := { t.therm with desc := if l = 0 then none else some (t.aon + t.descTime) } } l

/-! ## Non-volatile writes (R430) -/

/-- NVM_OK after a measurement. -/
def State.nvmStep (s : State) (tj : Int) : State :=
  let ok := decide (-160 ≤ tj) && decide (tj ≤ 440)
  let n := if ok then satInc 4 s.therm.nNvm else 0
  let t : State := { s with therm := { s.therm with nNvm := n } }
  let was := t.flag F.THERM_STAT_NVM_OK
  if was && !ok then (t.putb F.THERM_STAT_NVM_OK false).syncTally.deferNotice
  else if !was && n == 4 then
    let u := t.putb F.THERM_STAT_NVM_OK true
    State.tallyKick (State.syncTally { u with tally := { u.tally with deferRaised := false } })
  else t

/-! ## Measurements (R420, R421) -/

/-- PERIOD_MS and GATE_US as applied. -/
def State.thermPeriod (s : State) : Nat := let n := s.get F.THERM_CTL_PERIOD_MS; msU (if n = 0 then 1 else if 50 < n then 50 else n)
def State.thermGate (s : State) : Nat := let n := s.get F.THERM_CTL_GATE_US; usU ((if n < 5 then 5 else if 100 < n then 100 else n) + 5)

/-- A measurement starts. -/
def State.thermRun (s : State) (demand : Bool) : State :=
  { s with therm := { s.therm with running := some (s.aon + s.thermGate, demand) } }

/-- The next of the four start-up measurements, or a scheduled one that waited (R421, R430). -/
def State.thermNext (s : State) : State :=
  let n := s.therm.first
  if n ≠ 0 then
    let t := s.thermRun false
    { t with therm := { t.therm with first := n - 1, due := if n = 1 then t.aon + t.thermPeriod else t.therm.due } }
  else if s.therm.owed then State.thermRun { s with therm := { s.therm with owed := false } } false
  else s

/-- A scheduled start (R421): while a measurement runs it waits for its end. -/
def State.thermStart (s : State) : State :=
  if s.therm.first ≠ 0 then (match s.therm.running with | none => s.thermNext | some _ => s)
  else
    let t := s.elapseTo s.therm.due
    let u : State := { t with therm := { t.therm with due := t.therm.due + t.thermPeriod } }
    match u.therm.running with
    | none => u.thermRun false
    | some _ => { u with therm := { u.therm with owed := true } }

/-- DEMAND (R421). -/
def State.thermDemand (s : State) : State :=
  match s.therm.running with
  | none => s.thermRun true
  | some _ => s

/-- A measurement completes with the count and the reading of each sensor. -/
def State.thermDone (s0 : State) (l : List (Nat × Int)) : State :=
  match s0.therm.running with
  | none => s0
  | some (e, _) =>
    let s := s0.elapseTo e
    let all := (List.range 24).all (fun i => s.sensorOut i)
    let (d, s1) := if all then s.draw else (0, s)
    let vals := (List.range 24).map (s.sensorValue l (toSigned 12 d))
    let (tj, hot) := hottest (vals.drop 1) 1 (nth 0 vals 0, 0)
    let s2 := s1.each (List.range 24) (fun t i => t.sensorTake s l i (nth 0 vals i))
    let s3 := ((((s2.puti F.THERM_STAT_TJ tj).put F.THERM_STAT_HOT hot).incWrap F.THERM_MEAS_CNT_COUNT).sensorCount).regrade 7
    let s4 := (s3.nvmStep tj).thresholds tj
    State.thermNext { s4 with therm := { s4.therm with running := none } }

end Sys2Proof.Machine
end

