-- ==== Sys2Proof/Machine/Tally.lean ====
section
/-! DEFINITION. The circular log: programs, commit markers, erases, spares, the boot scan, appended records and reads
(05_startup_and_configuration.md R100 to R105, R492, R497). -/

namespace Sys2Proof.Machine

/-! ## The record format (R492) -/

/-- One bit of the CRC-16 of polynomial 0x1021. -/
def crc16Bit (c : Nat) : Nat :=
  let d := c * 2 % 65536
  if 32768 ≤ c then Nat.xor d 0x1021 else d

/-- One byte, most significant bit first. -/
def crc16Byte (c : Nat) (b : Byte) : Nat :=
  let x := Nat.xor c (b.toNat * 256)
  crc16Bit (crc16Bit (crc16Bit (crc16Bit (crc16Bit (crc16Bit (crc16Bit (crc16Bit x)))))))

/-- The CRC-16 of a byte string, from 0xFFFF. -/
def crc16 (l : List Byte) : Nat := l.foldl crc16Byte 0xFFFF

/-- `n` bytes of a list, filled up with zeros. -/
def padTo (n : Nat) (l : List Byte) : List Byte := (l ++ List.replicate n 0).take n

/-- The 64 bytes of a record. -/
def TallyRec.bytes (r : TallyRec) : List Byte :=
  let head := leBytes 4 r.seq ++ leBytes 8 r.stamp.toNat ++ leBytes 2 r.code ++ leBytes 2 r.payload.length ++ padTo 44 r.payload
  head ++ leBytes 2 (crc16 head) ++ [0xFF, if r.committed then 0 else 0xFF]

/-- The committed record with a sequence number; the newest of them where the number has wrapped. -/
def State.tallyFind (s : State) (seq : Nat) : Option TallyRec :=
  s.tally.recs.reverse.find? (fun r => r.committed && r.seq == seq)

/-- Word `w` of TALLY.RECORD: zeros where the record named by RD_SEQ is absent. -/
def State.tallyWord (s : State) (w : Nat) : Nat :=
  match s.tallyFind (s.get F.TALLY_RD_SEQ_SEQ) with
  | none => 0
  | some r => leNat ((r.bytes.drop (4 * w)).take 4)

/-! ## Sectors and spares (R100, R101) -/

/-- The half of a working sector. -/
def sectorHalf (n : Nat) : Nat := if n < 1024 then 0 else 1

/-- The unused spares of a half. -/
def State.sparesLeft (s : State) (h : Nat) : Nat := 32 - (if h = 0 then s.tally.used0 else s.tally.used1)

/-- SPARES0 and SPARES1 show them. -/
def State.syncSpares (s : State) : State :=
  ((s.put F.TALLY_STAT_SPARES0 (s.sparesLeft 0)).put F.TALLY_STAT_SPARES1 (s.sparesLeft 1)).regrade 6

/-- The next working sector that is not lost, after `n`. -/
def State.nextSector (s : State) : Nat → Nat → Nat
  | 0, n => n
  | k + 1, n =>
    let m := (n + 1) % 2048
    if s.tally.gone.contains m then State.nextSector s k m else m

/-- The `k`-th working sector ahead of the write pointer. -/
def State.sectorAhead (s : State) : Nat → Nat
  | 0 => s.tally.sector
  | k + 1 => s.nextSector 2048 (s.sectorAhead k)

/-- SPARES_LOW, once per half (R101). -/
def State.sparesLow (s : State) (h : Nat) : State :=
  if s.sparesLeft h ≤ 4 ∧ bitAt s.tally.lowRaised h = false then
    State.raise { s with tally := { s.tally with lowRaised := setBitAt s.tally.lowRaised h true } } 0x1A04 0
  else s

/-- Working sector `n` fails: its records go with it, the next spare of its half takes its place, or the log shortens
(R101). -/
def State.retireSector (s : State) (n : Nat) : State :=
  let h := sectorHalf n
  let left := s.sparesLeft h
  let t : State := { s with tally := { s.tally with
    recs := s.tally.recs.filter (fun r => r.sector ≠ n)
    used0 := if h = 0 ∧ left ≠ 0 then s.tally.used0 + 1 else s.tally.used0
    used1 := if h = 1 ∧ left ≠ 0 then s.tally.used1 + 1 else s.tally.used1
    gone := if left = 0 then n :: s.tally.gone else s.tally.gone } }
  (t.syncSpares.raise 0x1A02 0).sparesLow h

/-- The write pointer moves to the next sector; the lap counts at the wrap (R100). -/
def State.tallyTurn (s : State) : State :=
  let n := s.sectorAhead 1
  { s with tally := { s.tally with
      sector := n, slot := 0, ahead := s.tally.ahead - 1
      lap := if n ≤ s.tally.sector then s.tally.lap + 1 else s.tally.lap } }

/-- The write pointer moves to the next slot of 63. -/
def State.tallyAdvance (s : State) : State :=
  if s.tally.slot + 1 < 63 then { s with tally := { s.tally with slot := s.tally.slot + 1 } } else s.tallyTurn

/-- After a failure in the sector being written: a spare stands erased in its place, or the pointer moves on. -/
def State.tallyMend (s : State) : State :=
  let n := s.tally.sector
  let t := s.retireSector n
  if t.tally.gone.contains n then t.tallyTurn else { t with tally := { t.tally with slot := 0 } }

/-- The record of a queue entry at the write pointer. -/
def State.tallyRec (s : State) (q : TallyQ) (committed : Bool) : TallyRec :=
  ⟨s.tally.sector, s.tally.slot, s.tally.seq, q.stamp, q.code, q.payload, committed⟩

/-- The program of bytes 0 to 62 has completed, or failed (R100, R101); where flash writes are forbidden by then the record
stays in the queue for a fresh slot (R104). -/
def State.tallyProgramDone (s : State) (ok : Bool) : State :=
  match s.tally.phase, s.tally.queue with
  | 1, q :: _ =>
    if ok = false then State.tallyKick { s.tallyMend with tally := { s.tallyMend.tally with phase := 0 } }
    else
      let t : State := { s with tally := { s.tally with recs := s.tally.recs ++ [s.tallyRec q false] } }
      if t.flashOpen then { t with tally := { t.tally with phase := 2 } }
      else State.tallyAdvance { t with tally := { t.tally with phase := 0 } }
  | _, _ => s

/-- The program of the commit marker has completed, or failed (R100, R101). -/
def State.tallyCommitDone (s : State) (ok : Bool) : State :=
  match s.tally.phase, s.tally.queue with
  | 2, _ :: qs =>
    if ok = false then State.tallyKick { s.tallyMend with tally := { s.tallyMend.tally with phase := 0 } }
    else
      let t : State := { s with tally := { s.tally with
        recs := s.tally.recs.map (fun r =>
          if r.sector = s.tally.sector ∧ r.slot = s.tally.slot then { r with committed := true } else r)
        queue := qs, seq := (s.tally.seq + 1) % 2 ^ 32, phase := 0 } }
      t.tallyAdvance.syncTally.tallyKick
  | _, _ => s

/-- A sector erase has completed, or failed: the sector ahead holds no record any more (R100, R101). -/
def State.tallyEraseDone (s : State) (ok : Bool) : State :=
  if s.tally.erasing then
    let n := s.sectorAhead (s.tally.ahead + 1)
    let t : State := { s with tally := { s.tally with erasing := false } }
    if ok then
      State.tallyKick { t with tally := { t.tally with
        ahead := t.tally.ahead + 1, recs := t.tally.recs.filter (fun r => r.sector ≠ n) } }
    else (t.retireSector n).tallyKick
  else s

/-- The boot scan: the partial record is discarded and counted, RECORD_DISCARDED once, the counts of spares are known
(R102). -/
def State.tallyScan (s : State) : State :=
  let n := (s.tally.recs.filter (fun r => !r.committed)).length
  let t : State := { s with tally := { s.tally with
    recs := s.tally.recs.filter (fun r => r.committed), scanned := true } }
  let u := (t.add F.TALLY_DISCARD_COUNT n).syncSpares
  (if n = 0 then u else u.raise 0x1A01 0).tallyKick

/-- What a reset leaves of the log on flash: a record whose program was issued stands there without its marker, the queue is
lost (R39, R102, R104). -/
def State.tallyReset (s : State) : Tally :=
  let t := s.tally
  let partial_ := match t.phase, t.queue with
    | 1, q :: _ => [s.tallyRec q false]
    | _, _ => []
  let u := if t.phase = 0 then s else s.tallyAdvance
  { recs := t.recs ++ partial_, sector := u.tally.sector, slot := u.tally.slot, lap := u.tally.lap, seq := t.seq
    ahead := u.tally.ahead, gone := t.gone, used0 := t.used0, used1 := t.used1 }

/-! ## Records of software (R441, R442, R497) -/

/-- A record of software enters the queue; an advisory is reported by type 7 with payload bytes 0 to 3 as INFO. -/
def State.appendRecord (s : State) (code : Nat) (payload : List Byte) : State :=
  let t := if 0x1781 ≤ code ∧ code ≤ 0x1788 then s.queue7 code (leNat (payload.take 4)) else s
  ((t.tallyPut ⟨s.stamp, code, payload⟩).deferNotice).tallyKick

/-- APPEND_GO: the record that TALLY.APPEND holds (R497). -/
def State.tallyAppend (s : State) : State :=
  let b := (List.range 15).flatMap (fun w => leBytes 4 (s.word (0x1A0200 + 4 * w)).toNat)
  let n := le b 14 2
  s.appendRecord (le b 12 2) (sub b 16 (if 44 < n then 44 else n))

/-- Port `p`'s newest record of its sessions is a LOCKOUT (23_pilot_security_debug.md R455). -/
def State.lockedInLog (s : State) (p : Nat) : Bool :=
  match s.tally.recs.reverse.find? (fun r => r.committed && decide (0x1901 ≤ r.code ∧ r.code ≤ 0x1905)
      && leNat (r.payload.take 1) == p) with
  | some r => r.code == 0x1903
  | none => false

end Sys2Proof.Machine
end

