-- ==== Sys2Proof/Machine/Boot.lean ====
section
/-! DEFINITION. Resets and straps (02_package_and_pins.md R35 to R39), the flash steps of the boot, the slots and Slipway
(05_startup_and_configuration.md R88 to R99). -/

namespace Sys2Proof.Machine

/-! ## Resets (R35, R36, R97; 24_register_map.md R475) -/

/-- The register fields of class P as they stand: BOOT.RETAIN, FAIL_A, FAIL_B, the violations, FAILS of the ports, Pilot's
resets, the synthesisers' wear. -/
def retained : List Field :=
  (List.range 4).map F.BOOT_RETAIN_DATA ++ [F.BOOT_STAT_FAIL_A, F.BOOT_STAT_FAIL_B, F.SEC_VIOL_CNT_COUNT,
    F.SEC_VIOL_LAST_LO_ADDR, F.SEC_VIOL_LAST_HI_ADDR, F.SEC_VIOL_LAST_HI_SOURCE, F.SEC_VIOL_LAST_HI_WRITE, F.PILOT_STAT_RESETS]
    ++ (List.range 4).map F.SEC_P_STAT_FAILS
    ++ [0, 1].flatMap (fun n => [F.RSV_SYN_WEAR_FAILED n, F.RSV_SYN_WEAR_RECENT n, F.RSV_SYN_WEAR_LOSSES n,
      F.RSV_SYN_WEAR_LAST_MS n])

/-- The state that a reset leaves, before what RESET_N keeps: the part, flash, fuses, the input pins and the record of what
left the block stay (log entry 5). -/
def State.afterReset (s : State) : State :=
  { part := s.part, flash := s.flash, fuses := s.fuses, out := s.out, freeCtr := s.freeCtr, pending := s.pending
    aon := s.aon, power := { s.power with
      strapWait := true, latched := false, nvmReady := false, trans := none, pendReq := none, leftRun := none, calm := 0
      noAns := 0, avsStop := false, avsWarn := false, ceilSince := none, okSince := none, surge := 900000000 }
    pins := { coexGnt := s.pins.coexGnt, coexAct := s.pins.coexAct, gtrig := s.pins.gtrig, trstN := s.pins.trstN }
    clk := { refPresent := s.clk.refPresent }
    boot := { t0 := s.aon, tagA := s.boot.tagA, tagB := s.boot.tagB, device1 := s.boot.device1 }
    tally := s.tallyReset }

/-- POR_N, the supervisor or the loss of supply: class P is cleared too; a port whose newest session record is a LOCKOUT
starts with FAILS = 7 (23_pilot_security_debug.md R455). -/
def State.porReset (s : State) : State :=
  (s.afterReset.each (List.range 4) (fun t p => if s.lockedInLog p then t.put (F.SEC_P_STAT_FAILS p) 7 else t)).syncCoex

/-- A port's hold-off and lock, kept over RESET_N. -/
def State.keepHold (s old : State) (p : Nat) : State :=
  s.setSecPort p { s.secPort p with holdUntil := (old.secPort p).holdUntil, lockUntil := (old.secPort p).lockUntil }

/-- RESET_N: class P stays. -/
def State.rstReset (s : State) : State :=
  let t := s.afterReset.each retained (fun t f => t.put f (s.get f))
  let u := t.each (List.range 4) (fun x p => x.keepHold s p)
  ((u.setSyn 0 { losses := s.clk.syn0.losses }).setSyn 1 { losses := s.clk.syn1.losses }).syncCoex

/-- The last reset input has been released: t0 of the boot, the wait before the straps (R37, R88). -/
def State.released (s : State) : State :=
  if s.on then
    State.put { s with boot := { s.boot with t0 := s.aon }, power := { s.power with strapWait := true } } F.BOOT_STAT_PHASE 2
  else s

/-- POR_N low for at least 1 µs (R35, R36). -/
def State.porAssert (s : State) : State :=
  let t := s.porReset
  { t with power := { t.power with por := true, srcRstN := false } }

/-- POR_N high. -/
def State.porRelease (s : State) : State :=
  if s.power.por then State.released { s with power := { s.power with por := false } } else s

/-- The supervisor asserts reset (R35; 25_electrical.md R479). -/
def State.supTrip (s : State) : State :=
  let t := s.porReset
  { t with power := { t.power with sup := true, srcRstN := false } }

/-- The supervisor releases reset: both rails have reached 90 % (R35). -/
def State.supRelease (s : State) : State :=
  if s.power.sup then State.released { s with power := { s.power with sup := false, off := false } } else s

/-- The supplies are gone: the device is in Off, and the supervisor holds reset until they return (R35, R42). -/
def State.powerOff (s : State) : State :=
  let t := s.porReset
  { t with power := { t.power with off := true, sup := true, srcRstN := false } }

/-- RESET_N low for at least 1 µs (R36); while POR_N or the supervisor holds reset, they govern. -/
def State.rstAssert (s : State) : State :=
  if s.power.off || s.power.por || s.power.sup then { s with power := { s.power with rst := true } }
  else
    let t := s.rstReset
    { t with power := { t.power with rst := true, srcRstN := true } }

/-- RESET_N high. -/
def State.rstRelease (s : State) : State :=
  if s.power.rst then State.released { s with power := { s.power with rst := false } } else s

/-- The device resets itself as if RESET_N had been asserted (R99, R278, R463). -/
def State.selfReset (s : State) : State := s.rstAssert.rstRelease

/-- A scheduled self-reset takes effect. -/
def State.resetDue (s : State) : State :=
  match s.boot.selfReset with
  | none => s
  | some a => (s.elapseTo a).selfReset

/-! ## Straps (R37, R38) -/

/-- The device enters Dry dock without an image. -/
def State.dryDock (s : State) (cause : Nat) : State := (s.enterState 1 0 cause false).pendStart

/-- The straps are latched 10 µs after t0; the boot goes on by BOOT_SEL. -/
def State.strapLatch (s0 : State) (sel chip : Nat) : State :=
  if s0.on && s0.power.strapWait && !s0.power.latched then
    let s := s0.elapseTo (s0.boot.t0 + usU 10)
    let t : State := { s with
      power := { s.power with strapWait := false, latched := true }
      boot := { s.boot with bootSel := sel % 4, chipId := chip % 4 } }
    let u := (((t.put F.BOOT_STRAP_BOOT_SEL (sel % 4)).put F.BOOT_STRAP_CHIP_ID (chip % 4)).putb F.BOOT_STRAP_SRC
      s.power.srcRstN).put F.BOOT_STAT_PHASE 4
    let v := u.syncTags.raise 0x1907 (if s.power.srcRstN then 2 else 1)
    if sel % 4 = 2 then (v.put F.BOOT_STAT_PHASE 3).tallyScan.dryDock 0
    else if sel % 4 = 3 then ((v.put F.BOOT_STAT_PHASE 3).raise 0x0301 0).tallyScan.dryDock 4
    else v
  else s0

/-! ## The Colif image (R93 to R95) -/

/-- A section of the image's table: type, offset, length, digest. -/
structure ImgSection where
  kind : Nat
  off : Nat
  len : Nat
  digest : List Byte

/-- What the checks of an image find: a failure cause with the boot step at which it appears, or the image. -/
structure Image where
  version : Nat
  sections : List ImgSection

/-- The 48-byte entry `i` of the section table. -/
def sectionAt (tab : List Byte) (i : Nat) : ImgSection :=
  let e := sub tab (48 * i) 48
  ⟨le e 0 1, le e 4 4, le e 8 4, sub e 16 32⟩

/-- The body of a section on a device. -/
def State.sectionBody (s : State) (dev : Nat) (x : ImgSection) : List Byte := s.flashBytes dev x.off x.len

/-- The sections of a kind. -/
def Image.ofKind (m : Image) (k : Nat) : List ImgSection := m.sections.filter (fun x => x.kind == k)

/-- Step 5: the header, the key, the signature, the section table (R93). Answers the cause, 0 for none, and the image. -/
def State.headerCheck (s : State) (dev : Nat) : Nat × Image :=
  let h := s.flashBytes dev 0 256
  let n := le h 16 2
  let slot := le h 18 1
  let key := sub h 64 32
  let fused := if slot = 0 then s.fuses.imgKey0 else s.fuses.imgKey1
  let revoked := if slot = 0 then s.fuses.revoked0 else s.fuses.revoked1
  let tab := s.flashBytes dev 256 (48 * n)
  let img : Image := ⟨le h 8 4, (List.range n).map (sectionAt tab)⟩
  let format := le h 0 4 == 0x31464C43 && le h 4 2 == 1 && le h 6 2 == 256 && decide (le h 12 4 ≤ 33554432)
    && decide (1 ≤ n) && decide (n ≤ 256) && decide (slot ≤ 1) && bitAt (le h 20 4) (capsOf s.part / 2 ^ 28)
  if format = false then (2, img)
  else if revoked = true ∨ fused ≠ some (sha256 key) then (3, img)
  else if ed25519 key (h.take 192) (sub h 192 64) = false then (4, img)
  else if sha256 tab ≠ sub h 32 32 then (5, img)
  else (0, img)

/-- Step 6: the regulatory record against the fused digest; a missing record is left to step 7 (R95). -/
def State.recordCheck (s : State) (dev : Nat) (m : Image) : Nat :=
  match s.fuses.regDigest, m.ofKind 5 with
  | some d, x :: _ => if sha256 (s.sectionBody dev x) = d then 0 else 7
  | _, _ => 0

/-- The entries of a REG section body: address and value. -/
def regEntries (b : List Byte) : List (Nat × Nat) :=
  (List.range (b.length / 8)).map (fun i => (le b (8 * i) 4, le b (8 * i + 4) 4))

/-- A REG entry's address is one that R94 refuses: outside the TOP to TALLY blocks, in BOOT or SEC, or in the mailboxes. -/
def regTargetBad (a : Nat) : Bool :=
  decide (0x1B0000 ≤ a) || a / 0x10000 == 3 || a / 0x10000 == 0x19 || decide (0x180000 ≤ a ∧ a < 0x180800)

/-- Step 7: every body against its digest, the set of sections, the REG targets, the size of the store (R94). -/
def State.sectionCheck (s : State) (dev : Nat) (m : Image) : Nat :=
  if m.sections.any (fun x => sha256 (s.sectionBody dev x) != x.digest) then 6
  else if (m.ofKind 5).length ≠ 1 ∨ (m.ofKind 6).length ≠ 1 ∨ m.sections.any (fun x => x.kind == 0 || decide (8 < x.kind)) = true
      ∨ (m.ofKind 1).any (fun x => (regEntries (s.sectionBody dev x)).any (fun e => regTargetBad e.1)) = true
      ∨ 25165824 < (m.sections.filter (fun x => x.kind != 8)).foldl (fun n x => n + x.len) 0 then 8
  else 0

/-- Steps 4 to 7 against a device: the cause, 0 for none, and the image. `ok`: it answers with a good SFDP (R88, R93). -/
def State.imageCheck (s : State) (dev : Nat) (ok : Bool) : Nat × Image :=
  if ok = false then (1, ⟨0, []⟩)
  else
    let (c, m) := s.headerCheck dev
    if c ≠ 0 then (c, m)
    else
      let r := s.recordCheck dev m
      if r ≠ 0 then (r, m) else (s.sectionCheck dev m, m)

/-- The boot step at which a cause appears. -/
def causeStep (c : Nat) : Nat := if c = 1 then 4 else if c ≤ 5 then 5 else if c = 7 then 6 else 7

/-- The configuration store of an image (R94, table "section types"). -/
def State.storeOf (s : State) (dev : Nat) (m : Image) : Store :=
  let bodies (k : Nat) : List (List Byte) := (m.ofKind k).map (s.sectionBody dev)
  { applied := true
    reg := (bodies 1).flatMap regEntries
    quay := (bodies 2).zipIdx.map (fun e => (e.2, e.1))
    berth := bodies 3
    seeds := bodies 4
    safe := (bodies 6).headD []
    manifold := (bodies 7).headD []
    pilotFw := if s.hasPilot then (bodies 8).headD [] else [] }

/-- A word of a BERTH section: a word of a weight table or of a berth register. -/
def State.berthPlace (s : State) (e : Nat × Nat) : State :=
  if 0x2000000 ≤ e.1 ∧ e.1 < 0x2800000 then s.berthWindowWrite (e.1 / 4 * 4) e.2
  else if e.1 / 0x10000 = 0x0A then s.mergeWord (fun _ => true) e.1 e.2
  else s

/-- The image is applied: the store, the regulatory record, the berth tables and the blocks that are always live; then the
domains are raised (R88, R94 to R96). -/
def State.applyImage (s : State) (dev : Nat) (m : Image) : State :=
  let t : State := { s with boot := { s.boot with store := s.storeOf dev m } }
  let u := (((t.putb F.BOOT_STAT_IMG_OK true).put F.BOOT_STAT_SLOT dev).put F.BOOT_IMG_VER_VERSION m.version)
  let bound := s.fuses.regDigest != none
  let v := if bound then u else (u.putb F.BOOT_STAT_REG_UNBOUND true).raise 0x0308 0
  let rec_ := ((m.ofKind 5).map (s.sectionBody dev)).headD []
  let w := ((v.bwLoad rec_ bound).each (t.boot.store.berth.flatMap Config.berthBody) State.berthPlace).markDom domSHELL true
  w.overlayBase.bootRaise 4

/-! ## Choosing a slot (R92, R99) -/

/-- The slots in boot order: TRIAL with tries left, where its count can be written; then GOOD ones, the higher sequence
first; BOOT_SEL orders equals (R38, R92, R103). -/
def State.slotOrder (s : State) : List Nat :=
  let first := s.boot.bootSel % 2
  let both := if s.boot.device1 then [first, 1 - first] else [0]
  let of_ (k : Nat) : List Nat := both.filter (fun n => (s.slotTag n).tag == k)
  let sorted (l : List Nat) : List Nat := match l with
    | [a, b] => if (s.slotTag a).seq < (s.slotTag b).seq then [b, a] else [a, b]
    | _ => l
  (if s.flashOpen then sorted ((of_ 1).filter (fun n => decide ((s.slotTag n).tries < 3))) else []) ++ sorted (of_ 0)

/-- TRIAL slots whose tries are used up become BAD (R99). -/
def State.rollback (s : State) : State :=
  s.each [0, 1] (fun t n =>
    if (t.slotTag n).tag = 1 ∧ 3 ≤ (t.slotTag n).tries ∧ t.flashOpen = true then
      (t.setTag n { t.slotTag n with tag := 2 }).raise 0x0306 0
    else t)

/-- The failure cause of a slot. -/
def State.setFail (s : State) (n c : Nat) : State := s.put (if n = 0 then F.BOOT_STAT_FAIL_A else F.BOOT_STAT_FAIL_B) c

/-- The attempts on the slots in order; `answers` holds a bit per device that answers with a good SFDP. The first image that
passes is applied; after both have failed, Dry dock (R89, R92, R99). -/
def State.bootSlots (s : State) (answers first : Nat) : List Nat → State
  | [] => (s.dryDock 2).raise 0x0304 0
  | n :: rest =>
    let trial := (s.slotTag n).tag == 1
    let t := if trial then (s.setTag n { s.slotTag n with tries := (s.slotTag n).tries + 1 }).raise 0x0305 0 else s
    let (c, m) := t.imageCheck n (bitAt answers n)
    if c ≠ 0 then
      State.bootSlots (((t.setFail n c).put F.BOOT_STAT_PHASE (causeStep c)).raise 0x0302 0) answers first rest
    else
      let u := t.putb F.BOOT_STAT_TRIAL trial
      (if n = first then u else (u.putb F.BOOT_STAT_FALLBACK true).raise 0x0303 0).applyImage n m

/-- The flash phase of the boot (steps 4 to 7) runs to its end (R88, R102). -/
def State.imageLoaded (s : State) (answers : Nat) : State :=
  if s.on && s.power.latched && s.power.nvmReady && s.boot.goal == 0 && decide (s.boot.bootSel < 2) && s.flag F.PWR_STATE_BUSY
      && s.power.trans == none then
    let a : State := { s with boot := { s.boot with device1 := bitAt answers 1 } }
    let t := a.syncTags.tallyScan.rollback
    let u := t.each [0, 1] (fun x n => if (x.slotTag n).tag = 2 then x.setFail n 9 else x)
    let l := u.slotOrder
    u.bootSlots answers (l.headD 0) l
  else s

/-! ## Slipway (R98, R99, R103) -/

/-- The slot that an update writes: the one not booted. -/
def State.slipSlot (s : State) : Nat := 1 - s.get F.BOOT_STAT_SLOT

/-- The result of a Slipway command. -/
def State.slipResult (s : State) (r : Nat) : State := s.put F.BOOT_SLIP_STAT_RESULT r

def slipOK : Nat := 0
def slipBUSY : Nat := 1
def slipSTATE : Nat := 2
def slipTEMP : Nat := 3
def slipVERIFY : Nat := 4
def slipFLASH : Nat := 5

/-- A Slipway operation that has to write flash starts, or is refused. -/
def State.slipStart (s : State) (op sector : Nat) : State :=
  if s.boot.slipOp ≠ none then s.slipResult slipBUSY
  else if (op = 2 ∨ op = 3) ∧ s.boot.slipOpen = false then s.slipResult slipSTATE
  else if op = 5 ∧ s.flag F.BOOT_STAT_TRIAL = false then s.slipResult slipSTATE
  else if s.flashOpen = false then
    State.slipResult { s with boot := { s.boot with slipOpen := s.boot.slipOpen && op != 1 } } slipTEMP
  else State.putb { s with boot := { s.boot with slipOp := some (op, sector % 8192) } } F.BOOT_SLIP_STAT_BUSY true

/-- A write of BOOT.SLIP_CMD. -/
def State.slipCmd (s : State) (op sector : Nat) : State :=
  if op = 4 then
    State.slipResult (State.putb { s with boot := { s.boot with slipOpen := false, slipOp := none } } F.BOOT_SLIP_STAT_BUSY false) slipOK
  else if op = 1 ∨ op = 2 ∨ op = 3 ∨ op = 5 then s.slipStart op sector
  else s.slipResult slipSTATE

/-- What a completed operation does; `res`: 0 the flash did as told, 1 the read-back differs, 2 the flash failed. -/
def State.slipEffect (s : State) (op sector res : Nat) : Nat × State :=
  let n := s.slipSlot
  let gone := n == 1 && !s.boot.device1
  if s.flashOpen = false then (slipTEMP, if op = 1 then { s with boot := { s.boot with slipOpen := false } } else s)
  else if gone && op != 5 then (slipFLASH, s)
  else match op with
    | 1 =>
      if res = 0 then
        (slipOK, State.setTag { s with boot := { s.boot with slipOpen := true } } n { s.slotTag n with tag := 2, tries := 0 })
      else (slipFLASH, { s with boot := { s.boot with slipOpen := false } })
    | 2 =>
      if res = 0 then (slipOK, s.setFlash n (4096 * sector) (s.bytes 0x31000 4096))
      else
        let (d, t) := s.draw
        (if res = 1 then slipVERIFY else slipFLASH,
          t.setFlash n (4096 * sector) ((List.range 4096).map (fun i => BitVec.ofNat 8 (Config.measured d i))))
    | 3 =>
      if res = 2 then (slipFLASH, s)
      else if (s.imageCheck n true).1 ≠ 0 then (slipVERIFY, s)
      else
        (slipOK, State.setTag { s with boot := { s.boot with slipOpen := false } } n
          ⟨1, ((s.slotTag (1 - n)).seq + 1) % 2 ^ 32, 0⟩)
    | _ => if res = 0 then (slipOK, s.confirmSlot) else (slipFLASH, s)

/-- The running operation ends (R98). -/
def State.slipDone (s : State) (res : Nat) : State :=
  match s.boot.slipOp with
  | none => s
  | some (op, sector) =>
    let (r, t) := State.slipEffect (State.putb { s with boot := { s.boot with slipOp := none } } F.BOOT_SLIP_STAT_BUSY false) op sector res
    t.slipResult r

/-- CONFIRM has not come within CONF_S × 10 s of t0 of a TRIAL boot (R99). -/
def State.confirmTimeout (s : State) : State :=
  let n := s.get F.BOOT_SLIP_CTL_CONF_S
  if s.flag F.BOOT_STAT_TRIAL = true ∧ n ≠ 0 then ((s.elapseTo (s.boot.t0 + sU (10 * n))).raise 0x0307 0).selfReset else s

end Sys2Proof.Machine
end

