-- ==== Sys2Proof/Machine/Pilot.lean ====
section
/-! DEFINITION. Pilot: its start and watchdog, the mailboxes, the vendor policy of the reserve, tuner steering and telemetry
(23_pilot_security_debug.md R456 to R460; 22_reserve.md R439 to R444; 11_berths_and_beam_schedule.md R238). -/

namespace Sys2Proof.Machine

/-! ## Advisories (22_reserve.md R441, R442) -/

/-- An advisory: KIND, UNIT, CAUSE, GRADE, LEFT and the present stamp. -/
def State.advise (s : State) (code kind unit cause grade left : Nat) : State :=
  s.appendRecord code (leBytes 1 kind ++ leBytes 1 unit ++ leBytes 2 cause ++ leBytes 1 grade ++ leBytes 1 0 ++ leBytes 2 left
    ++ leBytes 8 s.stamp.toNat)

/-- An advisory about a kind of spare, with its grade and LEFT after the action. -/
def State.adviseKind (s : State) (code kind unit cause : Nat) : State :=
  s.advise code kind unit cause (s.grade kind) (s.get (F.RSV_KIND_LEFT kind))

/-- An advisory about an RF path: `u` is the path, with [7] = 1 for transmit. -/
def State.advisePath (s : State) (code u cause left : Nat) : State := s.advise code 9 u cause 0xFF left

/-! ## Retirement and re-solve (11_berths_and_beam_schedule.md R238) -/

/-- The path of a unit code, and whether it is a transmit path. -/
def unitPath (u : Nat) : Nat := u % 64
def unitTx (u : Nat) : Bool := bitAt u 7

/-- The path of a unit code is retired in its direction. -/
def State.unitRetired (s : State) (u : Nat) : Bool :=
  if unitTx u then s.txRetired (unitPath u) else s.rxRetired (unitPath u)

/-- The RETIRE bit of a path set or cleared. -/
def State.setRetired (s : State) (u : Nat) (b : Bool) : State :=
  let p := unitPath u
  let h := p / 32
  if unitTx u then
    s.txRetire h (setBitAt (s.get (if h = 0 then F.TXA_RETIRE0_PATHS else F.TXA_RETIRE1_PATHS)) (p % 32) b)
  else s.rxRetire h (setBitAt (s.get (if h = 0 then F.RXA_RETIRE0_PATHS else F.RXA_RETIRE1_PATHS)) (p % 32) b)

/-- Pilot retires a path, with its advisory. -/
def State.pilotRetire (s : State) (u cause : Nat) : State :=
  if s.hasPath (unitPath u) && !s.unitRetired u then (s.setRetired u true).advisePath 0x1781 u cause 0 else s

/-- The mask of a berth's descriptor. -/
def State.berthMask (s : State) (dir b : Nat) : Nat := s.get (fMASKLO dir b) + 2 ^ 32 * s.get (fMASKHI dir b)

/-- One berth's weights as the re-solve leaves them on its effective paths; `old` is the mask before. -/
def State.resolveBerth (s : State) (dir old b : Nat) : State :=
  let m := s.berthMask dir b
  let o := maskAnd m old
  let n := maskAnd m (s.effShown dir)
  let base := berthAddr dir b 0 0
  let cells := (List.range 0x2000).map (fun i => (i, s.byte (base + i)))
  s.each (bitList 64 n) (fun t a => t.each (List.range 32) (fun u l =>
    u.setMemWord (berthAddr dir b a l)
      (Config.resolvedWeight s.boot.store.manifold cells o n (berthAddr dir b a l - base) % 2 ^ 32)))

/-- The re-solve of every berth of a direction for unit `u`, with its two advisories; the berths done. Without a manifold
there is none. -/
def State.resolve (s : State) (dir old u cause : Nat) : State × Nat :=
  if s.boot.store.manifold.isEmpty then (s, 0)
  else
    let t := s.advisePath 0x1783 u cause 512
    ((t.each (List.range 512) (fun v b => v.resolveBerth dir old b)).advisePath 0x1784 u cause 512, 512)

/-- The re-solve that follows the retirement of a path. -/
def State.resolveAfter (s : State) (u cause : Nat) : State × Nat :=
  let dir := if unitTx u then 0 else 1
  s.resolve dir (setBitAt (s.effShown dir) (unitPath u) true) u cause

/-! ## Start, watchdog and restart (R456, R457) -/

/-- Pilot runs its firmware. -/
def State.pilotServes (s : State) : Bool := s.up domPILOT && s.flag F.PILOT_STAT_READY && !s.rsv.halted

/-- Pilot is ready, within 50 ms of its start. -/
def State.pilotReady (s : State) : State :=
  if s.up domPILOT && s.rsv.starting then
    let t : State := { s with rsv := { s.rsv with starting := false, lastSnap := s.aon } }
    ((t.putb F.PILOT_STAT_READY true).put F.PILOT_FW_VER_VERSION (Config.pilotVersion s.boot.store.pilotFw % 2 ^ 32)).raise 0x1801 0
  else s

/-- RMAC of a response: the first 8 bytes of the HMAC with the port's session key, 0 without one (R459). -/
def State.mailMac (s : State) (p seq tag result : Nat) (rsp : List Nat) : List Byte :=
  match (s.secPort p).key with
  | none => List.replicate 8 0
  | some k => (hmac256 k (leBytes 4 seq ++ leBytes 1 tag ++ leBytes 1 result ++ rsp.flatMap (leBytes 4)) ++ List.replicate 8 0).take 8

/-- A mailbox command ends: RSP, RESULT, TAG, SEQ, RMAC, BUSY and DONE, MBX_DONE (R458). -/
def State.mailEnd (s : State) (p tag result : Nat) (rsp0 : List Nat) : State :=
  let rsp := (rsp0 ++ List.replicate 16 0).take 16
  let t : State := { s with rsv := { s.rsv with run := sparseErase s.rsv.run p } }
  let u := (t.each (List.range 16) (fun v j => v.put (F.PILOT_MB_RSP_WORD p j) (nth 0 rsp j))).incWrap (F.PILOT_MB_STAT_SEQ p)
  let v := (((u.put (F.PILOT_MB_STAT_RESULT p) result).put (F.PILOT_MB_STAT_TAG p) tag).putb (F.PILOT_MB_STAT_BUSY p) false).putb
    (F.PILOT_MB_STAT_DONE p) true
  (v.setWordsBytes (0x1800C0 + 0x200 * (p % 4)) (v.mailMac p (v.get (F.PILOT_MB_STAT_SEQ p)) tag result rsp)).raiseIrq7 0x1804 p

/-- Pilot starts again: its domain is reset, the commands in progress end ABORTED; a watchdog reset is counted, and the third
within 10 min holds Pilot (R457). -/
def State.pilotRestart (s : State) (watchdog : Bool) (drop : Option Nat) : State :=
  let runs := s.rsv.run.filter (fun e => some e.1 ≠ drop)
  let now := if watchdog then s.aon :: s.rsv.resets.filter (fun a => decide (s.aon ≤ a + sU 600)) else s.rsv.resets
  let held := watchdog && decide (3 ≤ now.length)
  let t := s.eraseRegs domPILOT
  let u : State := { t with rsv := { t.rsv.fresh (!held) with resets := now } }
  let v := (if watchdog then u.inc F.PILOT_STAT_RESETS else u).putb F.PILOT_STAT_HELD held
  let w := (v.each runs (fun x e => x.mailEnd e.1 e.2.tag 4 [])).raise 0x1802 0
  if held then w.raise 0x1803 0 else w

/-- The watchdog was not served for 100 ms. -/
def State.pilotWatchdog (s : State) : State :=
  if s.up domPILOT && (s.flag F.PILOT_STAT_READY || s.rsv.starting) then s.pilotRestart true none else s

/-! ## The mailbox (R458) -/

/-- The level a command needs. -/
def mailLevel (opc : Nat) : Option Nat :=
  match opc with
  | 0x01 => some 0
  | 0x02 => some 1
  | 0x03 => some 1
  | 0x04 => some 1
  | 0x10 => some 1
  | 0x11 => some 1
  | 0x20 => some 2
  | 0x21 => some 2
  | 0x22 => some 2
  | 0x23 => some 2
  | 0x30 => some 2
  | 0x3F => some 2
  | _ => none

/-- The command in progress of mailbox `p`. -/
def State.mailRun (s : State) (p : Nat) : Option MbxRun := sparseFind s.rsv.run p

/-- It replaced. -/
def State.setMailRun (s : State) (p : Nat) (r : MbxRun) : State :=
  { s with rsv := { s.rsv with run := sparseInsert s.rsv.run p r } }

/-- An argument word. -/
def MbxRun.arg (r : MbxRun) (i : Nat) : Nat := nth 0 r.args i

/-- Slipway's operations of an update from Hold, and the state after the first that did not end OK; `fail`: the operation
(0 OPEN, i + 1 the WRITE of sector i) that the flash fails, and how. -/
def State.slipRun (s : State) (op sector i : Nat) (fail : Option (Nat × Nat)) : State :=
  let res := match fail with
    | some (k, r) => if k = i then r else 0
    | none => 0
  (s.slipCmd op sector).slipDone res

/-- The WRITEs of sectors `n - k` to `n - 1`, ended by the first RESULT other than OK. -/
def State.slipWrites (s : State) (src n : Nat) (fail : Option (Nat × Nat)) : Nat → State
  | 0 => s.slipRun 3 0 (n + 1) fail
  | k + 1 =>
    let i := n - (k + 1)
    let t := (s.setBytes 0x31000 ((List.range 4096).map (fun j => s.holdByte (src + 4096 * i + j)))).slipRun 2 i (i + 1) fail
    if t.get F.BOOT_SLIP_STAT_RESULT = slipOK then t.slipWrites src n fail k else t

/-- Mailbox SLIPWAY: OPEN, one WRITE per sector, CLOSE. -/
def State.slipUpdate (s : State) (src len : Nat) (fail : Option (Nat × Nat)) : State :=
  let t := s.slipRun 1 0 0 fail
  if t.get F.BOOT_SLIP_STAT_RESULT = slipOK then t.slipWrites src (len / 4096) fail (len / 4096) else t

/-- The arguments of SLIPWAY: a range of Hold whose length is a multiple of 4,096, at most 32 MiB. -/
def State.slipArgs (s : State) (r : MbxRun) : Bool :=
  let a := r.arg 0 + 2 ^ 32 * r.arg 1
  let n := r.arg 2
  decide (n % 4096 = 0 ∧ 0 < n ∧ n ≤ 2 ^ 25 ∧ 0x1000000000 ≤ a ∧ a + n ≤ 0x1000000000 + s.holdBytes)

/-- The paths whose quad's tuner stands in an enabled TUNE entry. -/
def State.tunedPaths (s : State) : Nat :=
  maskOf (s.paths.filter (fun p => (List.range 32).any (fun m => s.flag (F.FEND_TUNE_EN m) && s.get (F.FEND_TUNE_MASTER m) == p / 8)))

/-- What Pilot does when it takes a command up: RESULT, RSP and the state. The long commands act at their end. -/
def State.mailTake (s : State) (r : MbxRun) : Nat × List Nat × State :=
  match r.opc with
  | 0x01 =>
    let b := Config.pilotBuild s.boot.store.pilotFw
    (0, [s.get F.PILOT_FW_VER_VERSION, b % 2 ^ 32, b / 2 ^ 32 % 2 ^ 32, 1], s)
  | 0x02 => (0, [(s.word 0x170000).toNat, (s.word 0x17001C).toNat, (s.word 0x160008).toNat, (s.word 0x10000).toNat, s.rsv.policy], s)
  | 0x03 =>
    if (r.arg 0 = 0 ∨ (100 ≤ r.arg 0 ∧ r.arg 0 ≤ 60000)) ∧ 1 ≤ r.arg 3 ∧ r.arg 3 ≤ 256 then
      (0, [], { s with rsv := { s.rsv with
        period := r.arg 0, push := (r.arg 1 + 2 ^ 32 * r.arg 2) % 2 ^ 48, depth := r.arg 3, lastSnap := s.aon } })
    else (2, [], s)
  | 0x04 =>
    let hits := s.tally.recs.filter (fun x => x.committed && decide (r.arg 0 ≤ x.seq)
      && decide (r.arg 1 % 65536 ≤ x.code ∧ x.code ≤ r.arg 1 / 65536))
    (0, [minOf 0xFFFFFFFF (hits.map (fun x => x.seq))], s)
  | 0x11 => (0, [], { s with rsv := { s.rsv with calPolicy := r.arg 0 % 2 ^ 17 } })
  | 0x20 => (0, [s.rsv.policy], { s with rsv := { s.rsv with policy := r.arg 0 % 2 ^ 11 } })
  | 0x21 => if s.hasPath (r.arg 0 % 64) then (0, [], s.pilotRetire (r.arg 0 % 256) 0) else (2, [], s)
  | 0x22 =>
    let u := r.arg 0 % 256
    if !s.hasPath (u % 64) then (2, [], s)
    else if s.unitRetired u then
      (0, [], ((s.setRetired u false).advisePath 0x1782 u 0 0).bcalReq (if unitTx u then 1 else 2))
    else (0, [], s)
  | 0x30 => (if s.slipArgs r then 0 else 2, [], s)
  | _ => (0, [], s)

/-- Pilot takes the command of mailbox `p` up: above its level or unknown it ends UNKNOWN and counts a violation. -/
def State.mailAct (s : State) (p : Nat) : State :=
  match s.mailRun p with
  | none => s
  | some r =>
    if r.taken then s
    else
      let ok := match mailLevel r.opc with
        | some l => decide (l ≤ r.level)
        | none => false
      if !ok then
        (s.violation p (0x180000 + 0x200 * p) true).setMailRun p { r with taken := true, result := 1 }
      else if r.opc = 0x3F then s.pilotRestart false (some p)
      else
        let (res, rsp, t) := s.mailTake r
        t.setMailRun p { r with taken := true, result := res, rsp := rsp }

/-- A write of MBp_CMD with GO (R458). -/
def State.mailGo (s : State) (p v : Nat) : State :=
  if bitAt v 31 = false ∨ s.up domPILOT = false ∨ s.flag (F.PILOT_MB_STAT_BUSY p) = true then s
  else
    let t := (s.putb (F.PILOT_MB_STAT_DONE p) false).putb (F.PILOT_MB_STAT_BUSY p) true
    let u := t.setMailRun p { opc := bitsAt v 16 8, tag := bitsAt v 0 8, level := t.portLevel p
                              args := (List.range 16).map (fun j => t.get (F.PILOT_MB_ARG_WORD p j)) }
    if u.pilotServes then u.mailAct p else u

/-- What a long command has done by its end: RESULT, RSP and the state. -/
def State.mailClose (s : State) (r : MbxRun) (fail : Option (Nat × Nat)) : Nat × List Nat × State :=
  if r.result ≠ 0 then (r.result, r.rsp, s)
  else match r.opc with
    | 0x10 =>
      let m := maskAnd (r.arg 0 + 2 ^ 32 * r.arg 1) s.tunedPaths
      (0, [m % 2 ^ 32, m / 2 ^ 32, s.rsv.kept], s)
    | 0x21 => let (t, n) := s.resolveAfter (r.arg 0 % 256) 0; (0, [n], t)
    | 0x22 => (0, [(s.word 0xA0064).toNat], s)
    | 0x23 =>
      let (t, n) := if bitAt (r.arg 0) 0 then s.resolve 0 s.pathMask 0x80 0 else (s, 0)
      let (u, m) := if bitAt (r.arg 0) 1 then t.resolve 1 t.pathMask 0 0 else (t, 0)
      (0, [n + m], u)
    | 0x30 =>
      let t := s.slipUpdate (r.arg 0 + 2 ^ 32 * r.arg 1) (r.arg 2) fail
      (if t.get F.BOOT_SLIP_STAT_RESULT = slipOK then 0 else 5, [(t.word 0x30048).toNat], t)
    | _ => (0, r.rsp, s)

/-- Pilot's response to the command of mailbox `p` is complete. -/
def State.mailDone (s0 : State) (p : Nat) (fail : Option (Nat × Nat)) : State :=
  if s0.pilotServes then
    let s := s0.mailAct p
    match s.mailRun p with
    | none => s
    | some r =>
      let (res, rsp, t) := s.mailClose r fail
      t.mailEnd p r.tag res rsp
  else s0

/-! ## Vendor policy (22_reserve.md R439) -/

/-- A receive or transmit quad's fail bit of a calibration. -/
def quadFailed (fail p : Nat) : Bool := bitAt fail (p / 8)

/-- Pilot swaps a core with the lowest-numbered reserve core of its cluster, after the re-solve of the berth in progress
(R219, R443). -/
def State.pilotSwap (s : State) (q : Nat) : State :=
  let c := q / 24
  match (List.range 24).find? (fun k => s.inReserve c k) with
  | some k => (s.swapGo c k (q % 24)).adviseKind 0x1785 4 q (if s.flag (F.QCTL_K_STAT_FAULT q) then 0x0901 else 0x0905)
  | none => s

/-- Pilot writes the route that serves from the spare, inside a gap that covers every present quad and has 40 µs left
(R81, R444). -/
def State.pilotSynSwap (s : State) : State :=
  match s.spareSyn with
  | none => s
  | some n =>
    let now := 1 - n
    if 2 ≤ s.get (F.RSV_SYN_WEAR_RECENT now) ∧ s.grade 8 = 0 ∧ s.synLocked n = true ∧ s.gapCovers s.quadMask (usU 40) = true then
      (s.routeWrite (setBitsAt (s.word F.CLK_LO_ROUTE_TX_SRC.addr).toNat 0 1 n)).adviseKind 0x1786 8 now 0
    else s

/-- A lane of a unit (brick or port × 2 + direction; kinds 2 and 3) is written off. -/
def State.laneGone (s : State) (kind unit : Nat) : Bool :=
  let l := (if kind = 2 then 0 else 2) + unit / 2 % 2
  s.get (if unit % 2 = 0 then lkOFF l else lkTXOFF l) ≠ 0

/-- What Pilot does on a signal of the policy. Rows 0 to 10 are those of the vendor reserve policy; 11 to 13 the requests of GAIN
and IQ, berth and cross-chip calibrations on a change of temperature. `unit` names the path, core, kind or quad; `again` says
that the wait or the first attempt that the row asks for lies behind. -/
def State.policy (s : State) (row unit : Nat) (again : Bool) : State :=
  let p := unitPath unit
  let tx := 128 + p
  match row with
  | 0 => if s.flag (F.RXA_P_STAT_DEGRADED p) then s.pilotRetire p 0x0407 else s
  | 1 =>
    if s.flag (F.RXA_P_STAT_SERVO_RAIL p) = false then s
    else if again then (if quadFailed (s.get F.RXA_CAL_STAT_FAIL) p then s.pilotRetire p 0x0403 else s)
    else s.rxCalReq 4 (2 ^ (p / 8))
  | 2 =>
    if s.flag (F.TXA_P_STAT_LOL_RAIL p) = false then s
    else if again then s.pilotRetire tx 0x0606 else s.txCalReq 4 (2 ^ (p / 8))
  | 3 =>
    if bitAt (s.mask64 F.BWTR_XCHK_CLR0_PATHS F.BWTR_XCHK_CLR1_PATHS) p then s.pilotRetire tx 0x1108 else s
  | 4 => if again && s.flag (F.DPD_P_STAT_FROZEN p) then s.pilotRetire tx 0x0806 else s
  | 5 =>
    if again && s.flag (F.FEND_P_MM_MM p) then
      let t := s.pilotRetire tx 0x1005
      { t with rsv := { t.rsv with unsteered := setBitAt t.rsv.unsteered p true } }
    else s
  | 6 => if s.unitRetired unit then (s.resolveAfter unit 0).1 else s
  | 7 =>
    if unit < 96 ∧ s.flag (F.QCTL_K_CTL_SWAP_SAFE unit) = true ∧ (s.flag (F.QCTL_K_STAT_FAULT unit) = true ∨ again = true) then
      s.pilotSwap unit
    else s
  | 8 => s.pilotSynSwap
  | 9 =>
    let kind := 2 + unit / 4 % 2
    if again && s.laneGone kind (unit % 4) then s.adviseKind 0x1787 kind (unit % 4) 0 else s
  | 10 =>
    match sparseFind s.rsv.emptySince unit with
    | none => s
    | some a =>
      if bitAt s.rsv.advised unit || decide (9 ≤ unit) then s
      else
        let t := s.elapseTo (a + sU 1)
        State.adviseKind { t with rsv := { t.rsv with advised := setBitAt t.rsv.advised unit true } } 0x1787 unit 0 0x1701
  | 11 => if bitAt s.rsv.calPolicy 16 then s.rxCalReq 24 (2 ^ (unit % 8)) else s
  | 12 => if bitAt s.rsv.calPolicy 16 then s.bcalReq 3 else s
  | 13 => if bitAt s.rsv.calPolicy 16 then s.xcalReq true else s
  | _ => s

/-- Pilot acts on a signal of the policy, where it runs and the row is enabled. -/
def State.pilotAct (s : State) (row unit : Nat) (again : Bool) : State :=
  if s.pilotServes && (decide (11 ≤ row) || bitAt s.rsv.policy row) then s.policy row unit again else s

/-! ## Tuner steering (17_front_end_control_and_breakwater.md, Tuner steering) -/

/-- The next instant at which TRSW of quad `q` is low and a command can be armed for it: 1 µs from now while it is low, else
the next falling edge in its queue. -/
def State.trswLow (s : State) (q : Nat) : Option Stamp :=
  let soon := stampAdd s.stamp (usU 1)
  if bitAt s.pins.trsw q = false then some soon
  else match (s.timedQ (pinTrsw q)).find? (fun e => !e.level) with
    | none => none
    | some e => some (if before e.at_ soon then soon else e.at_)

/-- A tuner register is set through the master's queue, armed for TRSW low. -/
def State.tuneWrite (s : State) (m v : Nat) : State :=
  let n := s.get (F.FEND_TUNE_MASTER m)
  match s.trswLow n with
  | none => s
  | some a =>
    let adr := s.get (F.FEND_TUNE_ADDR m)
    s.rfPush n { cmd := if adr < 32 then 0 else 3, usid := s.get (F.FEND_TUNE_USID m), bc := 0, addr := adr
                 data := [BitVec.ofNat 8 v], at_ := some a }

/-- The path's return loss in 0.01 dB. -/
def State.returnLoss (s : State) (p : Nat) : Int := 10 * s.geti (F.FEND_P_MM_RL p)

/-- One tick of the steering of a path: a step under trial is judged, and taken back where the return loss has not improved by
0.5 dB; else one step of ±1 code on a tuner register, whose present code is `cur`, is tried. -/
def State.steer (s : State) (p m cur : Nat) (up : Bool) : State :=
  if !s.pilotServes || !s.hasPath p || bitAt s.rsv.unsteered p then s
  else match sparseFind s.rsv.tries p with
    | some x =>
      let t : State := { s with rsv := { s.rsv with tries := sparseErase s.rsv.tries p } }
      if x.loss + 50 ≤ s.returnLoss p then { t with rsv := { t.rsv with kept := t.rsv.kept + 1 } } else t.tuneWrite x.entry x.old
    | none =>
      if s.flag (F.FEND_TUNE_EN m) && s.get (F.FEND_TUNE_MASTER m) == p / 8 && (if up then decide (cur < 255) else decide (0 < cur)) then
        let new := if up then cur + 1 else cur - 1
        let t := s.tuneWrite m new
        if s.trswLow (p / 8) = none ∨ t.get (F.FEND_RF_STAT_RESULT (p / 8)) ≠ rfOK then t
        else { t with rsv := { t.rsv with tries := sparseInsert t.rsv.tries p ⟨m, cur, new, s.returnLoss p⟩ } }
      else s

/-! ## Telemetry (R460) -/

/-- Muted transmit samples, and uncorrected columns of both bricks, so far. -/
def State.mutedTotal (s : State) : Nat :=
  s.get F.TXD_MUTE1_COUNT + s.get F.TXD_MUTE2_COUNT + s.get F.TXD_MUTE3_COUNT + s.get F.TXD_MUTE5_COUNT + s.get (F.TOP_SLIP_CNT_COUNT 2)
def State.uncorrTotal (s : State) : Nat := s.get (lkUNCORR 0) + s.get (lkUNCORR 1)

/-- The sensor beside quad `q` (21_thermal.md, table "sensor placement"). -/
def quadSensor (q : Nat) : Nat := if q < 4 then 6 * q else 6 * (q - 4) + 5

/-- A signed 12-bit reading as 2 bytes. -/
def two (x : Int) : List Byte := leBytes 2 (ofSigned 16 x)

/-- The NMSE byte of a path: −0.5 dB units, 0 where there is none. -/
def State.nmseByte (s : State) (p : Nat) : Nat :=
  if s.flag (F.DPD_P_RES_VALID p) then
    let v := divRound (-(s.geti (F.DPD_P_RES_NMSE p))) 50
    (clampInt 0 255 v).toNat
  else 0

/-- The snapshot of this instant (table "telemetry snapshot"). -/
def State.snapshot (s : State) : List Byte :=
  leBytes 4 s.rsv.snap ++ leBytes 8 s.stamp.toNat ++ two (s.geti F.THERM_STAT_TJ)
    ++ leBytes 2 (let v := s.get F.PWR_EST_P_MW; if v < 65536 then v else 65535)
    ++ (List.range 8).flatMap (fun q => two (s.geti (F.THERM_TS_VALUE (quadSensor q))))
    ++ leBytes 2 (s.get F.PWR_AVS_STAT_TARGET_MV) ++ leBytes 2 (s.power.surge * 16 / 1000000)
    ++ leBytes 4 (s.word 0x170000).toNat ++ leBytes 1 s.throttle ++ leBytes 1 s.cur ++ leBytes 1 s.tdState ++ [0]
    ++ leBytes 4 (s.word 0x17001C).toNat ++ leBytes 4 (s.mutedTotal - s.rsv.muted) ++ leBytes 4 (s.uncorrTotal - s.rsv.uncorr)
    ++ List.replicate 8 0 ++ (List.range 64).flatMap (fun p => leBytes 2 (s.get (F.BWTR_P_PWR_P_1MS p)))
    ++ (List.range 64).flatMap (fun p => leBytes 1 (s.nmseByte p))

/-- The copy of a snapshot to the baseband, as one remote write of channel 15 (20_crane.md R414), while the push is set, no
throttle holds and a brick is UP. -/
def State.snapshotPush (s : State) (seq : Nat) (l : List Byte) : State :=
  if s.rsv.push = 0 ∨ 1 ≤ s.throttle ∨ s.up domHOLD = false ∨ s.craneLoose 15 = false ∨ s.anyBrickUp = false then s
  else
    let b := if s.brickUp 0 then 0 else 1
    let a := (s.rsv.push + 256 * (seq % s.rsv.depth)) % 2 ^ 48
    (s.emit (.frame b 4 (rmaBytes 240 1 0 0 a 256 l))).setChan 15 { brick := b, await := [(0, s.aon + usU s.remUs)] }

/-- A snapshot falls due. -/
def State.telemetry (s0 : State) : State :=
  if !s0.pilotServes || s0.rsv.period == 0 then s0
  else
    let s := s0.elapseTo (s0.rsv.lastSnap + msU s0.rsv.period)
    let l := s.snapshot
    let t : State := { s with rsv := { s.rsv with
      latest := l, snap := (s.rsv.snap + 1) % 2 ^ 32, lastSnap := s.aon, muted := s.mutedTotal, uncorr := s.uncorrTotal } }
    (((t.putb F.PILOT_TELEM_STAT_VALID true).putb F.PILOT_TELEM_STAT_NEW true).put F.PILOT_TELEM_STAT_SEQ
      (s.rsv.snap % 2 ^ 28)).snapshotPush s.rsv.snap l

/-- A read of TELEM_STAT latches the latest snapshot for reading. -/
def State.telemLatch (s : State) : State := (s.setWordsBytes 0x182000 s.rsv.latest).putb F.PILOT_TELEM_STAT_NEW false

end Sys2Proof.Machine
end

