-- ==== Sys2Proof/Machine/Writes.lean ====
section
/-! DEFINITION. What a write of each register does, block by block, once its level is settled (Bus.lean): plain fields take the
written bits, and each chapter's commands and locks act as the chapter says. -/

namespace Sys2Proof.Machine

/-- A word written field by field; RWL fields are read-only once boot is complete (05_startup_and_configuration.md R91). -/
def State.plain (s : State) (a v : Nat) : State :=
  s.mergeWord (fun f => f.kind ≠ .rwl || !s.flag F.BOOT_STAT_DONE) a v

/-- Counters cleared: `n` words `step` apart from `a` on. -/
def State.clearStep (s : State) (a step n : Nat) : State := s.each (List.range n) (fun t i => t.setWord (a + step * i) 0)

/-- The mask of the present paths of half 0 or 1. -/
def State.halfMask (s : State) (h : Nat) : Nat := s.pathMask / 2 ^ (32 * h) % 2 ^ 32

/-! ## TOP, PWR, CLK, BOOT -/

/-- TOP (01_architecture.md R23; 24_register_map.md R476). -/
def State.writeTop (s : State) (a v : Nat) : State :=
  let t := s.plain a v
  if a = F.TOP_DRIFT_CTL_LOW_NS.addr then
    let u := t.iff (bitAt v 17) (fun x => x.each (List.range 8) (fun y m => y.put (F.TOP_SLIP_CNT_COUNT m) 0))
    u.iff (bitAt v 16) (fun x => x.each (List.range 8) (fun y m => y.put (F.TOP_DRIFT_MIN_NS m) 0xFFFF))
  else if a = F.TOP_IRQ_EN0_BLOCKS.addr ∨ a = F.TOP_IRQ_EN1_BLOCKS.addr then t.syncIrq
  else t

/-- PWR (03_power_and_states.md R52, R56). -/
def State.writePwr (s : State) (a v : Nat) : State :=
  if a = F.PWR_STATE_REQ_REQ.addr then s.powerRequest (bitsAt v 0 3) (bitsAt v 4 1)
  else if a = F.PWR_RUN_OFF_FHA.addr then s.runOffWrite v
  else s.plain a v

/-- A write of CLK.SYNn_CTL (04_clocks_and_synthesisers.md R76): a GO without ARM drops an armed retune. A retune of the serving
transmit synthesiser fixes Breakwater's band (17_front_end_control_and_breakwater.md R350). -/
def State.writeSyn (s : State) (n v : Nat) : State :=
  let t := s.plain (F.CLK_SYN_CTL_GO n).addr v
  if bitAt v 31 then
    let r := t.synCommand n (bitsAt v 0 6) (bitsAt v 8 1) (bitAt v 30) (t.get64 (F.CLK_SYN_AT_LO_STAMP n) (F.CLK_SYN_AT_HI_STAMP n))
    r.2.iff (r.1 == 0 && !bitAt v 30) State.bwFix
  else t

/-- A write of CLK.LO_ROUTE: a change of the serving transmit synthesiser fixes Breakwater's band too (R81, R350). -/
def State.writeRoute (s : State) (v : Nat) : State :=
  let t := (s.routeWrite v).runOffApply
  if t.txSyn = s.txSyn then t else t.bwFix

/-- TXD.NCO_CTL.GO: a retune at once fixes Breakwater's band (08_transmit_path.md R155; R350). -/
def State.writeTxNco (s : State) (v : Nat) : State :=
  let r := s.txNcoWrite v
  r.2.iff (r.1 && !bitAt v 30) State.bwFix

/-- CLK (R76, R81, R82, R84). -/
def State.writeClk (s : State) (a v : Nat) : State :=
  if a = 0x20020 then s.writeSyn 0 v
  else if a = 0x20030 then s.writeSyn 1 v
  else if a = F.CLK_LO_ROUTE_SPLIT.addr then s.writeRoute v
  else if a = F.CLK_LO_SYNC_RESYNC.addr then s.iff (bitAt v 0) State.resync
  else s.plain a v

/-- BOOT (05_startup_and_configuration.md R98). -/
def State.writeBoot (s : State) (a v : Nat) : State :=
  if a = F.BOOT_SLIP_CMD_OP.addr then s.slipCmd (bitsAt v 0 4) (bitsAt v 16 13) else s.plain a v

/-! ## RXA, RXD -/

/-- The receive paths whose chains restart together: up, not retired and not stopped. -/
def State.rxChainPaths (s : State) : List Nat :=
  s.paths.filter (fun p => s.up (domRXQ (p / 8)) && !s.rxRetired p && !(s.rxPath p).stopped)

/-- A changed BBF_BW restarts every receive chain (07_receive_chain.md R147). -/
def State.writeRxaCtl (s : State) (v : Nat) : State :=
  let t := s.plain F.RXA_CTL_BBF_BW.addr v
  if t.get F.RXA_CTL_BBF_BW = s.get F.RXA_CTL_BBF_BW then t else ((t.rxRestart t.rxChainPaths).syncRxd).cfgWritten

/-- A change to AUTO begins with the dwell at 0 (06_receive_front_end_and_adc.md R113). -/
def State.writeAgcCtl (s : State) (v : Nat) : State :=
  let t := s.plain F.RXA_AGC_CTL_MODE.addr v
  if t.get F.RXA_AGC_CTL_MODE = 0 ∧ s.get F.RXA_AGC_CTL_MODE ≠ 0 then { t with rx := { t.rx with dwell := 0 } } else t

/-- RXA (06_receive_front_end_and_adc.md R110, R113, R124, R128, R130). -/
def State.writeRxa (s : State) (a v : Nat) : State :=
  if a = F.RXA_CTL_BBF_BW.addr then s.writeRxaCtl v
  else if a = F.RXA_AGC_CTL_MODE.addr then s.writeAgcCtl v
  else if a = F.RXA_RETIRE0_PATHS.addr then s.rxRetire 0 (maskAnd v (s.halfMask 0))
  else if a = F.RXA_RETIRE1_PATHS.addr then s.rxRetire 1 (maskAnd v (s.halfMask 1))
  else if a = F.RXA_CNT_CLR_OVR.addr then
    (s.iff (bitAt v 1) (fun t => t.clearStep 0x40108 0x20 64)).iff (bitAt v 0) (fun t => t.setWord 0x40014 0)
  else if a = F.RXA_CAL_REQ_GO.addr then s.iff (bitAt v 31) (fun t => t.rxCalReq (bitsAt v 0 5) (bitsAt v 8 8))
  else s.plain a v

/-- The RXD words that may be written only while RUN = 0 (07_receive_chain.md R143). -/
def rxdLocked (a : Nat) : Bool :=
  [0x50004, 0x50008, 0x5002C, 0x50030].contains a || decide (0x52000 ≤ a)

/-- RXD (07_receive_chain.md R134, R136, R143, R148). -/
def State.writeRxd (s : State) (a v : Nat) : State :=
  if a = F.RXD_CTL_RUN.addr then
    let t := s.plain a v
    if t.flag F.RXD_CTL_RUN = s.flag F.RXD_CTL_RUN then t else t.rxChains
  else if rxdLocked a then
    if s.flag F.RXD_CTL_RUN then ((s.setEvt 0x0501 0).inc F.RXD_REJ_CNT_COUNT).raiseMs 0x0501 0 0
    else
      let t := s.plain a v
      if a = 0x50004 ∨ a = 0x50008 then t.cfgWritten else t
  else if a = F.RXD_NCO_CTL_GO.addr then (s.plain a v).iff (bitAt v 31) (fun t => (t.rxNcoWrite v).2)
  else if a = F.RXD_CNT_CLR_SAT.addr then
    (s.iff (bitAt v 1) (fun t => t.clearStep 0x50100 0x20 64)).iff (bitAt v 0) (fun t => t.clearStep 0x50104 0x20 64)
  else s.plain a v

/-! ## TXA, TXD, DPD -/

/-- A changed FILT_BW restarts every transmit chain (08_transmit_path.md R165, R496). -/
def State.writeTxaCtl (s : State) (v : Nat) : State :=
  let t := s.plain F.TXA_CTL_FILT_BW.addr v
  if t.get F.TXA_CTL_FILT_BW = s.get F.TXA_CTL_FILT_BW then t
  else (t.txRestartAt (maskOf (t.paths.filter (fun p => t.up (domTXQ (p / 8)) && !t.txRetired p))) t.restartInstant true).cfgWritten

/-- TXA (08_transmit_path.md R160, R166, R169, R171). -/
def State.writeTxa (s : State) (a v : Nat) : State :=
  if a = F.TXA_CTL_FILT_BW.addr then s.writeTxaCtl v
  else if a = F.TXA_ENABLE0_PATHS.addr ∨ a = F.TXA_ENABLE1_PATHS.addr then
    (s.plain a (maskAnd v (s.halfMask (if a = F.TXA_ENABLE0_PATHS.addr then 0 else 1)))).syncTx
  else if a = F.TXA_RETIRE0_PATHS.addr then s.txRetire 0 (maskAnd v (s.halfMask 0))
  else if a = F.TXA_RETIRE1_PATHS.addr then s.txRetire 1 (maskAnd v (s.halfMask 1))
  else if a = F.TXA_CAL_REQ_GO.addr then s.iff (bitAt v 31) (fun t => t.txCalReq (bitsAt v 0 5) (bitsAt v 8 8))
  else if a = F.TXA_RB_CTL_GO.addr then (s.plain a v).iff (bitAt v 31) (fun t => t.rbGo (bitsAt v 8 2) (bitsAt v 0 6))
  else s.plain a v

/-- The TXD words that may be written only while RUN = 0 (R158). -/
def txdLocked (a : Nat) : Bool := [0x70004, 0x7002C, 0x70030].contains a || decide (0x72000 ≤ a)

/-- TXD (08_transmit_path.md R153, R155, R157, R158, R162). -/
def State.writeTxd (s : State) (a v : Nat) : State :=
  if a = F.TXD_CTL_RUN.addr then
    let t := s.plain a v
    if t.flag F.TXD_CTL_RUN = s.flag F.TXD_CTL_RUN then t else t.txChains.bwStart
  else if txdLocked a then
    if s.flag F.TXD_CTL_RUN then ((s.setEvt 0x0701 0).inc F.TXD_REJ_CNT_COUNT).raiseMs 0x0701 0 0
    else
      let t := s.plain a v
      if a = 0x70004 then t.cfgWritten else t
  else if a = F.TXD_GAIN_GAIN.addr then
    let t := s.plain a v
    t.gainSet (t.get F.TXD_GAIN_GAIN) t.gainLast.2
  else if a = F.TXD_NCO_CTL_GO.addr then (s.plain a v).iff (bitAt v 31) (fun t => t.writeTxNco v)
  else if a = F.TXD_CNT_CLR_SAT.addr then
    (s.iff (bitAt v 2) (fun t => (((t.setWord 0x70064 0).setWord 0x70068 0).setWord 0x7006C 0).setWord 0x70074 0)).iff (bitAt v 1)
      (fun t => t.clearStep 0x70100 0x20 64)
  else s.plain a v

/-- DPD (09_predistortion.md R175, R176, R178, R180, R182). -/
def State.writeDpd (s : State) (a v : Nat) : State :=
  if a = F.DPD_XFADE_LEN.addr ∨ (0x80100 ≤ a ∧ a < 0x80180) then
    if s.flag F.TXD_CTL_RUN = true ∨ (a ≠ F.DPD_XFADE_LEN.addr ∧ termOk v = false) then (s.setEvt 0x0809 0).dpdReject
    else s.plain a v
  else if a = F.DPD_SWAP_CTL_GO.addr then
    let t := s.plain a v
    if bitAt v 31 then
      { t with dpd := { t.dpd with requests := t.dpd.requests
          ++ [(gridFrom (t.tide.now + usU 2), bitsAt v 0 3, t.mask64 F.DPD_SWAP_MASK0_PATHS F.DPD_SWAP_MASK1_PATHS)] } }
    else t
  else if a = F.DPD_CNT_CLR_PATH.addr then
    ((s.iff (bitAt v 2) (fun t => (t.clearStep 0x81010 0x20 64).clearStep 0x81014 0x20 64)).iff (bitAt v 1)
      (fun t => t.put F.DPD_DROP_CNT_COUNT 0)).iff (bitAt v 0) (fun t => t.put F.DPD_ACTWR_CNT_COUNT 0)
  else if 0x81000 ≤ a ∧ a % 0x20 = 0 then
    let p := (a - 0x81000) / 0x20
    let t := (s.bypassWrite p (bitAt v 0)).plain a v
    t.adaptEnWrite p (s.flag (F.DPD_P_CTL_ADAPT_EN p)) (bitAt v 1)
  else s.plain a v

/-! ## QCTL, BERTH -/

/-- QCTL (10_quay_array.md R216, R219). -/
def State.writeQctl (s : State) (a v : Nat) : State :=
  if 0x90100 ≤ a ∧ a < 0x90200 then
    let c := (a - 0x90100) / 0x40
    match (a - 0x90100) % 0x40 with
    | 0 => s.clusterCtlWrite c v
    | 4 => s.clusterMapWrite c v
    | 0x14 => s.iff (bitAt v 31) (fun t => t.swapGo c (bitsAt v 8 5) (bitsAt v 0 5))
    | _ => s.plain a v
  else if 0x91000 ≤ a ∧ (a - 0x91000) % 0x20 = 0 then s.coreCtlWrite ((a - 0x91000) / 0x20) v
  else s.plain a v

/-- BERTH.SCHED_CMD with GO (11_berths_and_beam_schedule.md R231, R232): on a member of a formed ring refused as STATE, on the
head passed on to the members (14_cascade_ring.md). -/
def State.schedCmd (s : State) (op dir b : Nat) : State :=
  let at_ := s.get64 F.BERTH_SCHED_AT_LO_STAMP F.BERTH_SCHED_AT_HI_STAMP
  let show_ (t : State) (r : Nat) : State := t.put F.BERTH_SCHED_STAT_RESULT r
  if s.schedLocked ∨ op = 3 then show_ s.schedRefuse schSTATE
  else
    let out : Nat × State := match op with
      | 0 => s.schedAdd dir at_ b
      | 1 => s.schedCancel dir at_
      | _ => (schOK, s.schedFlush dir)
    let t := show_ out.2 out.1
    if out.1 = schOK ∧ t.isHead = true ∧ t.flag F.RING_STAT_FORMED = true then t.emit (.ring 15 7 [op, dir, b, at_.toNat]) else t

/-- BERTH (R222, R224, R226, R231, R237). -/
def State.writeBerth (s : State) (a v : Nat) : State :=
  if a = F.BERTH_SCHED_CMD_GO.addr then s.iff (bitAt v 31) (fun t => t.schedCmd (bitsAt v 28 2) (bitsAt v 30 1) (bitsAt v 0 9))
  else if a = F.BERTH_CNT_CLR_SAT.addr then
    (s.iff (bitAt v 1) (fun t => t.put F.BERTH_SAT_CNT_COUNT 0)).iff (bitAt v 0) (fun t => t.put F.BERTH_REF_CNT_COUNT 0)
  else if a = F.BERTH_CAL_REQ_GO.addr then s.iff (bitAt v 31) (fun t => t.bcalReq (bitsAt v 0 2))
  else if 0xA1000 ≤ a ∧ a < 0xA1400 then (s.plain a v).alignWritten ((a - 0xA1000) / 0x10) (a % 8 / 4)
  else if 0xA4000 ≤ a then (s.plain a v).sendSums
  else s.plain a v

/-! ## Links -/

/-- FHL (12_fronthaul_physical.md R248, R259). -/
def State.writeFhl (s : State) (a v : Nat) : State :=
  if a = F.FHL_CTL_RETRAIN_A.addr then
    let t := ((s.plain a v).iff (bitAt v 4) (fun x => x.retrain 0)).iff (bitAt v 5) (fun x => x.retrain 1)
    if bitsAt v 4 2 = 0 then t else t.linksChanged.bootAdvance
  else if a = F.FHL_CNT_CLR_CLR.addr then s.iff (bitAt v 0) (fun t => (t.linkClear 0).linkClear 1)
  else s.plain a v

/-- FHM (13_fronthaul_messages.md R269, R273, R279). -/
def State.writeFhm (s : State) (a v : Nat) : State :=
  if a = F.FHM_CTL_EVT_EN.addr then (s.plain a v).evtEnWritten
  else if a = F.FHM_CNT_CLR_CLR.addr then s.iff (bitAt v 0) State.fhmClear
  else if 0xC0100 ≤ a then (s.plain a v).rxsWritten ((a - 0xC0100) / 4)
  else s.plain a v

/-- RING (14_cascade_ring.md R282, R291, R294, R295). -/
def State.writeRing (s : State) (a v : Nat) : State :=
  if a = F.RING_CTL_SIZE.addr then
    let t := (((s.plain a v).ringForm).iff (bitAt v 4) (fun x => x.retrain 2)).iff (bitAt v 5) (fun x => x.retrain 3)
    if bitsAt v 4 2 = 0 then t else t.linksChanged.bootAdvance
  else if a = F.RING_SYNC_GO.addr then s.iff (bitAt v 31) State.syncGo
  else if a = F.RING_XCAL_REQ_GO.addr then s.iff (bitAt v 31) (fun t => t.xcalReq t.ring.calio)
  else if a = F.RING_CNT_CLR_CLR.addr then s.iff (bitAt v 0) State.ringClear
  else s.plain a v

/-! ## TIDE, LOOK -/

/-- TIDE.TO_CMD with GO (15_tide.md R311; 16_lookout_and_coexistence.md R333; 17_front_end_control_and_breakwater.md R353). -/
def State.toCmd (s : State) (op pin : Nat) (level : Bool) : State :=
  let at_ := s.get64 F.TIDE_TO_AT_LO_STAMP F.TIDE_TO_AT_HI_STAMP
  match op with
  | 0 =>
    let (r, t) := s.toAdd pin at_ level
    if r = toOK then ((t.toShow pin r).coexAuto pin at_).bwBurst else t.toRefuse pin r
  | 1 => s.toFlush pin
  | _ => s.toRefuse pin toPIN

/-- TIDE (R302, R308, R311, R313). -/
def State.writeTide (s : State) (a v : Nat) : State :=
  if a = F.TIDE_CTL_PREF.addr then ((s.plain a v).tideSource).iff (bitAt v 31) State.tideAck
  else if 0xE0020 ≤ a ∧ a < 0xE0030 then (s.plain a v).asymWritten ((a - 0xE0020) / 4)
  else if a = F.TIDE_CNT_CLR_CLR.addr then s.iff (bitAt v 0) (fun t =>
    (((t.put F.TIDE_ACC_CNT_COUNT 0).put F.TIDE_LOST_CNT_COUNT 0).put F.TIDE_GATED_CNT_COUNT 0).put F.TIDE_TO_REF_CNT_COUNT 0)
  else if a = F.TIDE_TO_CMD_GO.addr then s.iff (bitAt v 31) (fun t => t.toCmd (bitsAt v 29 2) (bitsAt v 0 5) (bitAt v 8))
  else if 0xE0200 ≤ a then
    let n := (a - 0xE0200) / 0x20
    if (a - 0xE0200) % 0x20 = 0 then ((s.put (F.TIDE_TP_CTL_POL n) (bitsAt v 2 1)).tpMode n (bitsAt v 0 2))
    else if s.get (F.TIDE_TP_CTL_MODE n) = 0 then s.plain a v else s
  else s.plain a v

/-- LOOK (16_lookout_and_coexistence.md R317, R320, R322). -/
def State.writeLook (s : State) (a v : Nat) : State :=
  if a = F.LOOK_CTL_EN.addr then (s.plain a v).lookSync
  else if (0xF0010 ≤ a ∧ a < 0xF0090) ∨ 0xF4000 ≤ a then
    if s.flag F.LOOK_CTL_EN then (s.setEvt 0x0F02 0).raiseMs 0x0F02 0 0 else (s.plain a v).lookSync
  else if a = F.LOOK_CNT_CLR_CLR.addr then s.iff (bitAt v 0) (fun t => t.clearStep 0xF00C0 4 6)
  else s.plain a v

/-! ## FEND, BWTR, MON -/

/-- FEND.PA_CMD with GO (17_front_end_control_and_breakwater.md R339): OP 0 and 3 do nothing. -/
def State.paCmd (s : State) (op quads : Nat) : State :=
  let l := (bitList 8 quads).filter (fun q => s.hasQuad q)
  match op with
  | 1 => s.each l State.paOn
  | 2 => s.each l State.paOff
  | _ => s

/-- FEND (R338, R339, R342, R345). -/
def State.writeFend (s : State) (a v : Nat) : State :=
  if a = F.FEND_PA_CMD_GO.addr then s.iff (bitAt v 31) (fun t => t.paCmd (bitsAt v 16 2) (bitsAt v 0 8))
  else if a = F.FEND_DGATE_QUADS.addr then s.plain a (maskAnd v (capsOf s.part % 256))
  else if a = F.FEND_FE_CTL_TXGATE.addr then (s.plain a v).txgateWritten
  else if 0x100100 ≤ a ∧ a < 0x100200 then s.biasWrite ((a - 0x100100) / 4) (bitsAt v 31 1) (bitsAt v 0 12)
  else if 0x100300 ≤ a ∧ a < 0x100320 then s.biasWrite (64 + (a - 0x100300) / 4) (bitsAt v 31 1) (bitsAt v 0 12)
  else if 0x100400 ≤ a ∧ a < 0x100600 ∧ a % 0x40 = 4 then
    let n := (a - 0x100400) / 0x40
    s.iff (bitAt v 31) (fun t => t.rfPush n (t.rfAsked n (BitVec.ofNat 32 v)))
  else if a = F.FEND_CNT_CLR_CLR.addr then s.iff (bitAt v 0) State.fendClear
  else s.plain a v

/-- BWTR (17_front_end_control_and_breakwater.md R353, R357). -/
def State.writeBwtr (s : State) (a v : Nat) : State :=
  if a = F.BWTR_XCHK_CLR0_PATHS.addr then s.xchkClear 0 v
  else if a = F.BWTR_XCHK_CLR1_PATHS.addr then s.xchkClear 1 v
  else if a = F.BWTR_CNT_CLR_CLR.addr then s.iff (bitAt v 0) State.bwClear
  else s.plain a v

/-- MON (18_monitor_converters.md R363, R366, R372, R373). -/
def State.writeMon (s : State) (a v : Nat) : State :=
  if a = F.MON_CNT_CLR_CLR.addr then s.iff (bitAt v 0) State.monClear
  else if a < 0x121000 then
    let b := (a - 0x120000) / 0x400
    let o := a % 0x400
    if o = 0 then s.monCtl b v
    else if o = 8 then s.iff (bitAt v 0) (fun t => t.monCalGo b)
    else if o = 0x10 then s.injCtl b v
    else if o = 0x14 ∨ o = 0x18 then (s.plain a v).injArm b
    else if 0x100 ≤ o ∧ o < 0x190 then s.monSeqWrite b ((o - 0x100) / 4) v
    else s.plain a v
  else s.plain a v

/-! ## GAUGE, HOLDC, CRANE -/

/-- A Gauge command (19_hold_and_gauge.md R384, R386, R391). -/
def State.gaugeCmd (s : State) (c op : Nat) : State :=
  match op with
  | 1 => s.gArm c
  | 2 => s.gStop c
  | 3 => s.gaugeEventTo c 6 s.tide.now
  | _ => s

/-- DEEPd_CTL.HCLR and MCLR (R395, R396). -/
def State.histClear (s : State) (d : Nat) : State := s.clearStep (0x138000 + 0x1000 * (d % 4)) 4 1024
def State.mapClear (s : State) (d : Nat) : State :=
  { s with hold := { s.hold with map := sparseKeep (fun k => k / 32768 ≠ d) s.hold.map } }

/-- Every GAUGE counter cleared (R385, R390, R396, R397). -/
def State.gaugeClear (s : State) : State :=
  let t := (s.clearStep 0x13012C 0x40 16).clearStep 0x130130 0x40 16
  ((t.clearStep 0x130604 0x10 4).clearStep 0x130608 0x10 4).clearStep 0x130718 0x40 4

/-- GAUGE (19_hold_and_gauge.md R384 to R398): the words of a channel are written only while it is IDLE. -/
def State.writeGauge (s : State) (a v : Nat) : State :=
  if a = F.GAUGE_CNT_CLR_CLR.addr then s.iff (bitAt v 0) State.gaugeClear
  else if 0x130100 ≤ a ∧ a < 0x130500 then
    let c := (a - 0x130100) / 0x40
    if (a - 0x130100) % 0x40 = 0x20 then s.iff (bitAt v 31) (fun t => t.gaugeCmd c (bitsAt v 0 2))
    else if s.gState c = gIDLE then s.plain a v else s
  else if 0x130600 ≤ a ∧ a < 0x130640 then
    let d := (a - 0x130600) / 0x10
    ((s.plain a v).iff (bitAt v 29) (fun t => t.histClear d)).iff (bitAt v 28) (fun t => t.mapClear d)
  else if 0x130700 ≤ a ∧ a < 0x130800 ∧ a % 0x40 = 0 then
    let r := (a - 0x130700) / 0x40
    ((s.plain a v).iff (bitAt v 31) (fun t => t.rpGo r)).iff (bitAt v 30) (fun t => t.rpStop r)
  else s.plain a v

/-- HOLDC (R377). -/
def State.writeHoldc (s : State) (a v : Nat) : State :=
  if a = F.HOLDC_CNT_CLR_CLR.addr then s.iff (bitAt v 0) (fun t =>
    ((t.put F.HOLDC_CE_CNT_COUNT 0).put F.HOLDC_UE_CNT_COUNT 0).put F.HOLDC_UNREP_COUNT 0)
  else s.plain a v

/-- CRANE (20_crane.md R402, R403, R415, R416): CTL words that a Crane channel writes do nothing (R408); BASE and HEAD are written only while the
channel is IDLE or STOPPED. `level` and `pilot` are the writer's. -/
def State.writeCrane (s : State) (crane pilot : Bool) (level a v : Nat) : State :=
  if a = F.CRANE_CNT_CLR_CLR.addr then s.iff (bitAt v 0) State.craneClear
  else if 0x150100 ≤ a then
    let n := (a - 0x150100) / 0x40
    match (a - 0x150100) % 0x40 with
    | 0 => if crane then s else s.craneCtl n v level pilot
    | _ => if s.craneLoose n then s.plain a v else s
  else s.plain a v

/-! ## THERM, RSV, PILOT, SEC, TALLY -/

/-- THERM (21_thermal.md R421). -/
def State.writeTherm (s : State) (a v : Nat) : State :=
  if a = F.THERM_CTL_DEMAND.addr then (s.plain a v).iff (bitAt v 31) State.thermDemand else s.plain a v

/-- RSV (22_reserve.md R437). -/
def State.writeRsv (s : State) (a v : Nat) : State :=
  if a = F.RSV_SYN_CLR_SYN.addr then s.synClear (v % 4) else s.plain a v

/-- PILOT (23_pilot_security_debug.md R458). -/
def State.writePilot (s : State) (a v : Nat) : State :=
  if a < 0x180800 ∧ a % 0x200 = 0 then s.mailGo ((a - 0x180000) / 0x200) v else s.plain a v

/-- SEC (23_pilot_security_debug.md R452, R455, R461, R465, R466): `src` is the source's number, `own` its port or 4. -/
def State.writeSec (s : State) (src own a v : Nat) : State :=
  if a = F.SEC_CTL_ZEROISE.addr then (s.plain a v).iff (bitAt v 31) (fun t => t.zeroise 3)
  else if a = F.SEC_LOCK_CLR_PORTS.addr then s.lockClr (v % 16) own
  else if a = F.SEC_DBG_REQ.addr then s.dbgReq (v % 4) src
  else if a = F.SEC_FUSE_CMD_GO.addr then s.iff (bitAt v 31) (fun t => t.fuseGo (v % 16))
  else if 0x190048 ≤ a ∧ a < 0x190068 then s.setWord a (BitVec.ofNat 32 v)
  else if 0x190100 ≤ a then
    let p := (a - 0x190100) / 0x80
    let o := (a - 0x190100) % 0x80
    if o = 0 then s.sesReq p v
    else if 0x40 ≤ o ∧ o < 0x60 then s.setWord a (BitVec.ofNat 32 v)
    else s
  else s.plain a v

/-- TALLY (05_startup_and_configuration.md R497). -/
def State.writeTally (s : State) (a v : Nat) : State :=
  if a = F.TALLY_APPEND_GO_GO.addr then s.iff (bitAt v 0) State.tallyAppend else s.plain a v

end Sys2Proof.Machine
end

