-- ==== Sys2Proof/Machine/Bus.lean ====
section
/-! DEFINITION. An access to the address space: its source and level, what it may do, absent units and blocks that are not live,
and the value a read returns with its side effects (00_scope.md R3, R10; 23_pilot_security_debug.md R448 to R450;
24_register_map.md R468 to R474). -/

namespace Sys2Proof.Machine

/-! ## Sources and levels (R448) -/

/-- The number of a source in SEC.VIOL_LAST. -/
def srcCode : Source → Nat
  | .port p => p.val
  | .pilot => 4
  | .crane _ => 5
  | .jtag => 6

/-- The key of a source's …_HI latches. -/
def srcKey : Source → Nat
  | .port p => p.val
  | .pilot => 4
  | .crane ch => 5 + ch.val
  | .jtag => 21

/-- The port of a source, 4 where it is none. -/
def srcPort : Source → Nat
  | .port p => p.val
  | _ => 4

/-- The source is a Crane channel. -/
def srcCrane : Source → Bool
  | .crane _ => true
  | _ => false

/-- The source is JTAG. -/
def srcJtag : Source → Bool
  | .jtag => true
  | _ => false

/-- The source is held to Pilot's restriction on SEC. -/
def State.asPilot (s : State) (src : Source) : Bool :=
  match src with
  | .pilot => true
  | .crane ch => bitAt s.crane.byPilot ch.val
  | _ => false

/-- The level of an access. -/
def State.srcLevel (s : State) (src : Source) (write : Bool) : Nat :=
  match src with
  | .port p => s.portLevel p.val
  | .pilot => 2
  | .crane ch => if bitAt s.crane.byPilot ch.val then 2 else s.get (F.CRANE_C_STAT_LEVEL ch.val)
  | .jtag => if write then 3 else 2

/-- The port whose SEC.Pp registers or mailbox hold address `a`. -/
def portOf (a : Nat) : Option Nat :=
  if 0x190100 ≤ a ∧ a < 0x190300 then some ((a - 0x190100) / 0x80)
  else if 0x180000 ≤ a ∧ a < 0x180800 then some ((a - 0x180000) / 0x200)
  else none

/-- The registers of a port that its own port may write at Open. -/
def openWrite (a : Nat) : Bool :=
  (decide (0x190100 ≤ a ∧ a < 0x190300) && (let o := (a - 0x190100) % 0x80; o == 0 || (decide (0x40 ≤ o) && decide (o < 0x60))))
    || (decide (0x180000 ≤ a ∧ a < 0x180800) && (a - 0x180000) % 0x200 == 0)

/-- Registers that every level may read. -/
def openRead (a : Nat) : Bool := [0x4, 0x10000, 0x30000, 0x30004, 0x190000, 0x190008, 0x19000C].contains a

/-- The level a field's write needs (R449); `v` the written word. -/
def fieldNeed (a v : Nat) (k : FieldKind) : Nat :=
  if k = .rwl then 2
  else if a = F.BOOT_SLIP_CTL_CONF_S.addr ∨ a = F.BOOT_SLIP_CMD_OP.addr then 2
  else if 0x1A0200 ≤ a ∧ a ≤ 0x1A0240 then 2
  else if k = .wo ∧ (a = F.TIDE_CTL_ACK.addr ∨ a = F.RING_CTL_RETRAIN_E.addr ∨ a = F.FHL_CTL_RETRAIN_A.addr) then 2
  else if a = F.RSV_SYN_CLR_SYN.addr then 2
  else if a = F.SEC_CTL_ZEROISE.addr ∨ a = F.SEC_LOCK_CLR_PORTS.addr ∨ (0x190044 ≤ a ∧ a < 0x190068) then 2
  else if a = F.SEC_DBG_REQ.addr then (match v % 4 with | 1 => 2 | 2 => 3 | _ => 1)
  else 1

/-- A source may write a field of kind `k` at `a`. -/
def State.mayWrite (s : State) (src : Source) (a v : Nat) (k : FieldKind) : Bool :=
  if s.asPilot src && a / 0x10000 == 0x19 then false
  else match portOf a with
    | some p =>
      srcJtag src || (srcPort src == p && decide ((if openWrite a && k != .ro then 0 else 1) ≤ s.srcLevel src true))
    | none => decide (fieldNeed a v k ≤ s.srcLevel src true)

/-- A source may read the register at `a`. -/
def State.mayRead (s : State) (src : Source) (a : Nat) : Bool :=
  if openRead a then true
  else if s.asPilot src && a / 0x10000 == 0x19 then false
  else match portOf a with
    | some p => srcJtag src || srcPort src == p
    | none =>
      if 0x190048 ≤ a ∧ a < 0x190068 then false
      else decide ((if 0x190020 ≤ a ∧ a < 0x19002C then 2 else 1) ≤ s.srcLevel src false)

/-! ## Absent units (R3) -/

/-- The path whose register stands at offset `o` of a run of `step`-byte rows from `lo` on. -/
def pathRow (o lo step : Nat) : Option Nat := if lo ≤ o ∧ o < lo + 64 * step then some ((o - lo) / step) else none

/-- The path a register belongs to, if it is one path's. -/
def regPath (a : Nat) : Option Nat :=
  let o := a % 0x10000
  match a / 0x10000 with
  | 0x04 => (pathRow o 0x100 0x20).or (pathRow o 0x1000 0x80)
  | 0x05 => (pathRow o 0x100 0x20).or (pathRow o 0x1000 0x20)
  | 0x06 => pathRow o 0x100 0x20
  | 0x07 => (pathRow o 0x100 0x20).or (pathRow o 0x1000 0x20)
  | 0x08 => pathRow o 0x1000 0x20
  | 0x0A => pathRow o 0x1000 0x10
  | 0x10 => ((pathRow o 0x100 4).or (pathRow o 0x200 4)).or
      ((pathRow o 0xB00 4).or (if 0x400 ≤ o ∧ o < 0x600 then some ((o - 0x400) / 0x40 * 8) else none))
  | 0x11 => pathRow o 0x100 8
  | _ => none

/-- The register at `a` belongs to a unit that the part lacks. -/
def State.regAbsent (s : State) (a : Nat) : Bool :=
  let o := a % 0x10000
  (match regPath a with | some p => !s.hasPath p | none => false)
    || (match a / 0x10000 with
      | 0x09 =>
        if 0x100 ≤ o ∧ o < 0x200 then !s.hasCluster ((o - 0x100) / 0x40)
        else if 0x1000 ≤ o ∧ o < 0x1C00 then !s.hasCluster ((o - 0x1000) / 0x300) else false
      | 0x0F => !s.hasLookout
      | 0x18 => !s.hasPilot
      | _ => false)

/-- The windows: 1 BOOT.STAGE, 2 Quay, 3 berths, 4 DPD banks, 5 Manifest SRAM, 6 Hold; 0 none, or a location of a unit that the
part lacks. -/
def State.window (s : State) (a : Nat) : Nat :=
  if 0x31000 ≤ a ∧ a < 0x32000 then 1
  else if 0x1000000 ≤ a ∧ a < 0x1C00000 then
    (if s.hasCluster ((a - 0x1000000) / 0x20000 / 24) ∧ (a - 0x1000000) % 0x20000 < 0x1C000 then 2 else 0)
  else if 0x2000000 ≤ a ∧ a < 0x2800000 then (if s.hasPath (a % 0x2000 / 0x80) then 3 else 0)
  else if 0x2800000 ≤ a ∧ a < 0x2820000 then (if s.hasPath ((a - 0x2800000) / 0x800) then 4 else 0)
  else if 0x3000000 ≤ a ∧ a < 0x3100000 then 5
  else if 0x1000000000 ≤ a ∧ a < 0x1000000000 + s.holdBytes then 6
  else 0

/-- The window at `a` is live (R468). -/
def State.windowLive (s : State) (w a : Nat) : Bool :=
  match w with
  | 1 => true
  | 2 => s.up (domQCL ((a - 0x1000000) / 0x20000 / 24))
  | 3 => true
  | 4 => s.up domDPD
  | 5 => s.up domHOLD
  | 6 => s.holdReady
  | _ => false

/-! ## Writes -/

/-- A field that a write can change or command. -/
def FieldRow.writable (f : FieldRow) : Bool := f.kind != .ro

/-- A field that keeps the written bits. -/
def FieldRow.keeps (f : FieldRow) : Bool := f.kind == .rw || f.kind == .rwl

/-- The bits of a word that belong to field `f`. -/
def FieldRow.bits (f : FieldRow) (v : Nat) : Nat := bitsAt v f.lo (f.hi - f.lo + 1)

/-- The fields of a row that the source may not write with this word. -/
def State.deniedFields (s : State) (src : Source) (a v : Nat) (r : RegRow) : List FieldRow :=
  r.fields.filter (fun f => f.writable && !s.mayWrite src a v f.kind)

/-- A written word with each field the source may not write made neutral: its old bits, or 0 for a command bit (R450). -/
def State.neutral (s : State) (src : Source) (a v : Nat) (r : RegRow) : Nat :=
  (s.deniedFields src a v r).foldl (fun acc f =>
    setBitsAt acc f.lo (f.hi - f.lo + 1) (if f.keeps then f.bits (s.word a).toNat else 0)) v

/-- No field of the word may be written, or, for a word without such a field, the source may not write the block. -/
def State.writeDenied (s : State) (src : Source) (a v : Nat) (r : RegRow) : Bool :=
  if r.fields.any FieldRow.writable then r.fields.all (fun f => !f.writable || !s.mayWrite src a v f.kind)
  else !s.mayWrite src a v .ro

/-- The write counts as a violation (R450): nothing of it is permitted, or it would change or command a field that is not. -/
def State.writeViolates (s : State) (src : Source) (a v : Nat) (r : RegRow) : Bool :=
  s.writeDenied src a v r
    || (s.deniedFields src a v r).any (fun f => f.bits v != (if f.keeps then f.bits (s.word a).toNat else 0))

/-- A permitted write of a register word of a live block. -/
def State.regWrite (s : State) (src : Source) (a v : Nat) : State :=
  let t := match a / 0x10000 with
    | 0x00 => s.writeTop a v
    | 0x01 => s.writePwr a v
    | 0x02 => s.writeClk a v
    | 0x03 => s.writeBoot a v
    | 0x04 => s.writeRxa a v
    | 0x05 => s.writeRxd a v
    | 0x06 => s.writeTxa a v
    | 0x07 => s.writeTxd a v
    | 0x08 => s.writeDpd a v
    | 0x09 => s.writeQctl a v
    | 0x0A => s.writeBerth a v
    | 0x0B => s.writeFhl a v
    | 0x0C => s.writeFhm a v
    | 0x0D => s.writeRing a v
    | 0x0E => s.writeTide a v
    | 0x0F => s.writeLook a v
    | 0x10 => s.writeFend a v
    | 0x11 => s.writeBwtr a v
    | 0x12 => s.writeMon a v
    | 0x13 => s.writeGauge a v
    | 0x14 => s.writeHoldc a v
    | 0x15 => s.writeCrane (srcCrane src) (s.asPilot src) (s.srcLevel src true) a v
    | 0x16 => s.writeTherm a v
    | 0x17 => s.writeRsv a v
    | 0x18 => s.writePilot a v
    | 0x19 => s.writeSec (srcCode src) (srcPort src) a v
    | 0x1A => s.writeTally a v
    | _ => s
  if evtAddr (a / 0x10000) = a then t.syncIrq else t

/-- A permitted write of a window word (R215, R178, R235; a word written to Hold leaves a poisoned granule poisoned). -/
def State.windowWrite (s : State) (w a v : Nat) : State :=
  match w with
  | 2 => s.quayWindowWrite a v
  | 3 => s.berthWindowWrite a v
  | 4 => s.dpdBankWrite a v
  | 6 => (s.setMemWord a v).holdCarried 3 1
  | _ => s.setMemWord a v

/-- The source's access is noted for its session's timeout (R453). -/
def State.touch (s : State) (src : Source) : State :=
  match src with
  | .port p => s.sesTouch p.val
  | _ => s

/-- A write access of one word (R450, R468): absent units and reserved addresses first, then permission, then liveness. A Crane
access to the CRANE block has no effect (20_crane.md R406). -/
def State.busWrite (s0 : State) (src : Source) (a0 : Nat) (w : Word) : State :=
  let s := s0.touch src
  let a := a0 / 4 * 4
  let v := w.toNat
  let win := s.window a
  if win ≠ 0 then
    if s.srcLevel src true = 0 then s.violation (srcCode src) a true
    else if s.windowLive win a then s.windowWrite win a v
    else s
  else match findReg a with
    | none => s
    | some r =>
      if s.regAbsent a ∨ (srcCrane src = true ∧ a / 0x10000 = 0x15) then s
      else
        let t := s.iff (s.writeViolates src a v r) (fun x => x.violation (srcCode src) a true)
        if s.writeDenied src a v r ∨ s.regLive a = false then t else t.regWrite src a (s.neutral src a v r)

/-! ## Reads -/

/-- The bits of a row that a read returns. -/
def RegRow.readable (r : RegRow) (v : Nat) : Nat :=
  r.fields.foldl (fun acc f =>
    if f.kind = .wo ∨ f.kind = .wh then setBitsAt acc f.lo (f.hi - f.lo + 1) 0 else acc) v

/-- Word `w` of a digest or key, 0 while it is blank. -/
def keyWord (k : Option (List Byte)) (w : Nat) : Nat := le (k.getD []) (4 * w) 4

/-- Words that hold a mask of paths, by half: the bits of absent quads read 0. -/
def pathMaskHalf (a : Nat) : Option Nat :=
  if [0x40018, 0x40020, 0x60004, 0x6000C, 0x8000C].contains a then some 0
  else if [0x4001C, 0x40024, 0x60008, 0x60010, 0x80010].contains a then some 1
  else none

/-- What the SEC block shows from the fuses and the ports (R448 to R455, R464). -/
def State.secShown (s : State) (a : Nat) : Nat :=
  let old := (s.word a).toNat
  if a = 0x190008 then s.fuses.devid % 2 ^ 32
  else if a = 0x19000C then s.fuses.devid / 2 ^ 32 % 2 ^ 32
  else if a = 0x190040 then s.fuseSet
  else if 0x190080 ≤ a ∧ a < 0x1900A0 then keyWord s.fuses.regDigest ((a - 0x190080) / 4)
  else if 0x1900A0 ≤ a ∧ a < 0x1900C0 then keyWord s.fuses.imgKey0 ((a - 0x1900A0) / 4)
  else if 0x1900C0 ≤ a ∧ a < 0x1900E0 then keyWord s.fuses.imgKey1 ((a - 0x1900C0) / 4)
  else if 0x190100 ≤ a ∧ (a - 0x190100) % 0x80 = 4 then
    let l := s.portLeft ((a - 0x190100) / 0x80)
    setBitsAt (setBitsAt old 16 8 (if l.1 < 255 then l.1 else 255)) 8 8 (if l.2 < 255 then l.2 else 255)
  else old

/-- A cell of the map page shown (19_hold_and_gauge.md R396). -/
def State.mapShown (s : State) (o : Nat) : Nat :=
  let key := 32768 * s.get F.GAUGE_MAPSEL_DEEP + 256 * (32 * s.get F.GAUGE_MAPSEL_PAGE + o / 0x200) + o % 0x200 / 2
  sparseGet (fun _ => 0) s.hold.map key + 65536 * sparseGet (fun _ => 0) s.hold.map (key + 1)

/-- TIDE.NOW_SEC in full: whole seconds, and NOW_NS, NOW_FRAC (15_tide.md, register tables). -/
def State.nowWord (s : State) (a : Nat) : Nat :=
  let ns := s.tide.now / 65536
  match a with
  | 0xE0030 => ns % 1000000000
  | 0xE0034 => s.tide.now % 65536
  | 0xE0038 => ns / 1000000000 % 2 ^ 32
  | _ => ns / 1000000000 / 2 ^ 32 % 2 ^ 16

/-- What a live register shows: words that follow from the state at the moment of the read, and the stored word otherwise. -/
def State.shown (s : State) (a : Nat) : Nat :=
  let old := (s.word a).toNat
  match pathMaskHalf a with
  | some h => maskAnd old (s.halfMask h)
  | none =>
    if a = F.TOP_CAPS_PART.addr then capsOf s.part
    else if a = F.CLK_CPLL_STAT_HO_AGE_S.addr then (s.syncHo.word a).toNat
    else if a / 0x10000 = 0x19 then s.secShown a
    else if 0xE0030 ≤ a ∧ a < 0xE0040 then s.nowWord a
    else if 0xF0100 ≤ a ∧ a < 0xF0150 then s.busyWord ((a - 0xF0100) / 4)
    else if 0x120200 ≤ a ∧ a < 0x121000 ∧ 0x200 ≤ a % 0x400 ∧ a % 0x400 < 0x290 then
      (s.monShown ((a - 0x120000) / 0x400) (s.word a)).toNat
    else if 0x13C000 ≤ a ∧ a < 0x140000 then s.mapShown (a - 0x13C000)
    else if a = 0x170010 ∨ a = 0x170014 then
      setBitsAt old 20 4 ((s.syn ((a - 0x170010) / 4)).losses.filter (fun l => decide (s.aon < l + sU 3600))).length
    else if 0x1A0100 ≤ a ∧ a < 0x1A0140 then s.tallyWord ((a - 0x1A0100) / 4)
    else old

/-- Words that stay shown while their domain is off (06_receive_front_end_and_adc.md R127). -/
def shownOff (a : Nat) : Bool := decide (0x40100 ≤ a ∧ a < 0x40900) && [4, 0xC].contains ((a - 0x40100) % 0x20)

/-- The first words of the read-only pairs (R474). -/
def pairLo (a : Nat) : Bool :=
  [0x50024, 0x60018, 0x70024, 0xC0018, 0xF00E8, 0x100F0C, 0x100F14, 0x110014, 0x140010, 0x190024].contains a
    || (decide (0x120000 ≤ a ∧ a < 0x121000) && a % 0x400 == 0x20)
    || (decide (0x150100 ≤ a ∧ a < 0x150500) && (a % 0x40 == 0x14 || a % 0x40 == 0x1C))

/-- The latch of `a` for a source: set, and taken. -/
def State.setLatch (s : State) (src : Source) (a v : Nat) : State :=
  { s with hiLatch := sparseInsert s.hiLatch (srcKey src * 2 ^ 40 + a) (BitVec.ofNat 32 v) }
def State.latched (s : State) (src : Source) (a : Nat) : Option Word := sparseFind s.hiLatch (srcKey src * 2 ^ 40 + a)
def State.dropLatch (s : State) (src : Source) (a : Nat) : State :=
  { s with hiLatch := sparseErase s.hiLatch (srcKey src * 2 ^ 40 + a) }

/-- The words with a NEW bit that a read clears (08_transmit_path.md R171). -/
def newWord (a : Nat) : Bool :=
  a == 0x6004C
    || (decide (0x81000 ≤ a ∧ a < 0x81800) && a % 0x20 == 8)
    || (decide ((0xB1000 ≤ a ∧ a < 0xB1400) ∨ (0xD1000 ≤ a ∧ a < 0xD1400)) && a % 0x20 == 0xC)
    || (decide (0x100400 ≤ a ∧ a < 0x100600) && a % 0x40 == 0x34)
    || decide (0x100B00 ≤ a ∧ a < 0x100C00)
    || (decide (0x130100 ≤ a ∧ a < 0x130500) && a % 0x40 == 0x28)
    || decide (0x160100 ≤ a ∧ a < 0x160160)

/-- The side effects of a permitted read of a live register (R473, R474; R171, R370 and the wider latches). -/
def State.readEffect (s : State) (src : Source) (a : Nat) : State :=
  let t := s.dropLatch src a
  if a = F.LOOK_LAST0_NEW.addr then t.lookLatch
  else if a = F.PILOT_TELEM_STAT_NEW.addr then t.telemLatch
  else if 0x120200 ≤ a ∧ a < 0x121000 ∧ 0x200 ≤ a % 0x400 ∧ a % 0x400 < 0x290 then
    t.monRead ((a - 0x120000) / 0x400) ((a % 0x400 - 0x200) / 4)
  else if a = 0xE0030 then [0xE0034, 0xE0038, 0xE003C].foldl (fun u x => u.setLatch src x (u.nowWord x)) t
  else if pairLo a then t.setLatch src (a + 4) (t.shown (a + 4))
  else if newWord a then t.setWord a (BitVec.ofNat 32 (setBitAt (t.word a).toNat 30 false))
  else t

/-- The value of a window word. A word of a poisoned granule of Hold reads 0 (19_hold_and_gauge.md R377). -/
def State.windowRead (s : State) (w a : Nat) : Nat × State :=
  match w with
  | 6 => (leNat ((List.range 4).map (fun i => s.holdByte (a + i))), s.holdCarried 3 1)
  | _ => (s.memWord a, s)

/-- A read access of one word: its value and the state after it. A read without permission returns 0 and is counted; JTAG's
reads have no side effect. -/
def State.busRead (s0 : State) (src : Source) (a0 : Nat) : Nat × State :=
  let s := s0.touch src
  let a := a0 / 4 * 4
  let win := s.window a
  if win ≠ 0 then
    if s.srcLevel src false = 0 then (0, s.violation (srcCode src) a false)
    else if s.windowLive win a = false then (0, s)
    else if srcJtag src then ((s.windowRead win a).1, s)
    else s.windowRead win a
  else match findReg a with
    | none => (0, s)
    | some r =>
      if s.regAbsent a ∨ (srcCrane src = true ∧ a / 0x10000 = 0x15) then (0, s)
      else if s.mayRead src a = false then (0, s.violation (srcCode src) a false)
      else if s.regLive a = false then (r.readable (if shownOff a then s.word a else resetWord a).toNat, s)
      else if srcJtag src then (r.readable (s.shown a), s)
      else
        (r.readable (match s.latched src a with | some w => w.toNat | none => s.shown a), s.readEffect src a)

end Sys2Proof.Machine
end

