-- ==== Sys2Proof/Machine/Jtag.lean ====
section
/-! DEFINITION. The TAP: its instructions, the boundary register and EXTEST (23_pilot_security_debug.md R461, R462). A scan shifts
the bits `tdi` in, first bit first, and as many bits out. -/

namespace Sys2Proof.Machine

/-- Bits of free values (log entry 2). -/
def State.drawBits (s : State) (n : Nat) : List Bool × State :=
  let (l, t) := State.drawMany n s
  (l.map (fun x => x % 2 == 1), t)

/-- The TAP obeys instructions: TRST_N is high. -/
def State.tapOn (s : State) : Bool := s.pins.trstN

/-- EXTEST may be obeyed: Dry dock, debug at observe or intrusive (R462). -/
def State.extestMay (s : State) : Bool := s.cur == 1 && s.get F.SEC_STAT_DBG != 0

/-- EXTEST ends: every output ball returns to its state before entry (R462). -/
def State.extestLeave (s : State) : State :=
  match s.jtag.saved with
  | none => s
  | some p =>
    State.syncIrq { s with
      jtag := { s.jtag with saved := none }
      pins := { p with coexGnt := s.pins.coexGnt, coexAct := s.pins.coexAct, gtrig := s.pins.gtrig, trstN := s.pins.trstN } }

/-- The level that the boundary register gives ball `k`. Balls: 0 to 3 TPULSE, 4 to 11 TRSW, 12 COEX_REQ, 13 COEX_PRI, 14 and 15
IRQ_N. -/
def Jtag.cell (j : Jtag) (k : Nat) : Bool := nth false j.boundary (Config.boundaryCell k)

/-- The signal balls driven from the boundary register; the drain enables stay low (R462). -/
def Pins.driven (p : Pins) (j : Jtag) : Pins :=
  { p with
    tpulse := maskOf ((List.range 4).filter j.cell)
    trsw := maskOf ((List.range 8).filter (fun k => j.cell (4 + k)))
    drain := 0
    coexReq := j.cell 12
    coexPri := j.cell 13
    irq0 := !j.cell 14
    irq1 := !j.cell 15 }

/-- A new instruction is in force: EXTEST and TRACE end unless it is they. -/
def State.tapTake (s : State) (ir : Nat) : State :=
  let t := if ir = 3 then s else s.extestLeave
  { t with jtag := { t.jtag with ir := ir, trace := ir == 4 } }

/-- BYPASS: the bits pass through one bit, which starts at 0. -/
def State.tapBypass (s : State) (tdi : List Bool) : State :=
  let t := s.tapTake 0
  State.emit { t with jtag := { t.jtag with bypass := (tdi.getLast?).getD false } } (.tdo ((false :: tdi).take tdi.length))

/-- An instruction that needs debug at `need` or above; below it acts as BYPASS (R461). -/
def State.tapNeed (s : State) (need : Nat) (tdi : List Bool) (f : State → State) : State :=
  if s.tapOn = false then s
  else if s.get F.SEC_STAT_DBG < need then s.tapBypass tdi
  else f s

/-- The bits of the IDCODE register: bit 0 is 1, the others are not stated. -/
def idcodeBits : List Bool := true :: (List.range 31).map (fun i => bitAt Config.idcode (i + 1))

/-- IDCODE. -/
def State.tapIdcode (s : State) (tdi : List Bool) : State :=
  (s.tapTake 1).emit (.tdo ((idcodeBits ++ tdi).take tdi.length))

/-- SAMPLE/PRELOAD: the balls' levels leave, the boundary register is loaded. -/
def State.tapSample (s : State) (tdi : List Bool) : State :=
  let t := s.tapTake 2
  let (l, u) := t.drawBits tdi.length
  State.emit { u with jtag := { u.jtag with boundary := tdi } } (.tdo l)

/-- EXTEST: the boundary register drives the balls, first as it was preloaded and then as it is shifted in. -/
def State.tapExtest (s : State) (tdi : List Bool) : State :=
  if s.extestMay then
    let t := s.tapTake 3
    let (l, u) := t.drawBits tdi.length
    let j : Jtag := { u.jtag with
      boundary := if tdi.isEmpty then u.jtag.boundary else tdi
      saved := match u.jtag.saved with | some p => some p | none => some u.pins }
    State.emit { u with jtag := j, pins := u.pins.driven j } (.tdo l)
  else s.tapBypass tdi

/-- TRST_N low holds the TAP in reset: every instruction ends. -/
def State.tapReset (s : State) : State :=
  let t := s.extestLeave
  { t with jtag := {}, pins := { t.pins with trstN := false } }

/-- EXTEST ends where Dry dock or debug does (R462). -/
def State.extestFollow (s : State) : State := if s.jtag.saved ≠ none ∧ s.extestMay = false then s.extestLeave else s

/-- DBG_READ: a word of the address space leaves on TDO, least significant bit first (log entry 18). -/
def State.tapRead (s : State) (a : Nat) : State :=
  let (w, t) := (s.tapTake 5).busRead .jtag a
  t.emit (.tdo ((List.range 32).map (bitAt w)))

/-- The vendor halt: Pilot stops where it runs. -/
def State.pilotHalt (s : State) : State := if s.up domPILOT then { s with rsv := { s.rsv with halted := true } } else s

/-- Scan: the contents of the chains are not stated. -/
def State.tapScan (s : State) (tdi : List Bool) : State :=
  let (l, t) := (s.tapTake 9).drawBits tdi.length
  t.emit (.tdo l)

end Sys2Proof.Machine
end

