-- ==== Sys2Proof/Machine/Operands.lean ====
section
/-! DEFINITION. The forms that the commands' operands take: indices, instants, and the register words that name a command, with
the bits that make a written word that command fixed and every other bit the sender's. -/

namespace Sys2Proof.Machine

/-- What follows an edge of the T/R switches, from state `s` to state `t`: the gain state machine is suspended or its suspension
begins to run out, and Breakwater's burst begins or ends (06_receive_front_end_and_adc.md R112;
17_front_end_control_and_breakwater.md R354). Balls that EXTEST drives switch nothing. -/
def State.trswFollow (t s : State) : State :=
  if t.pins.trsw = s.pins.trsw ∨ t.jtag.saved ≠ none ∨ s.jtag.saved ≠ none then t else t.agcTrsw.bwBurst

/-- Lookout gains or loses its input with the chains and the power state (16_lookout_and_coexistence.md R317). -/
def State.lookFollow (t : State) : State := if t.lookInput = t.look.on then t else t.lookSync

/-- What follows a command that took state `s` to state `t`. -/
def State.follow (t s : State) : State := ((t.trswFollow s).lookFollow).extestFollow

/-- The outcome of a command that the device carries out: a next state, unchanged while it is unpowered or held in reset
(02_package_and_pins.md R35, R36; 03_power_and_states.md R42). -/
def acting (s : State) (f : State → State) : Host.Outcome State Fault Refusal :=
  .next (if s.on then (f s).follow s else s)

/-- A word with bits [lo+width-1:lo] fixed to `x`. -/
def fix (v : Word) (lo width x : Nat) : Word := BitVec.ofNat 32 (setBitsAt v.toNat lo width x)

/-- A word with bit `i` set. -/
def fixBit (v : Word) (i : Nat) : Word := fix v i 1 1

/-- The masks of 64 paths given as a bit vector. -/
def mask (m : BitVec 64) : Nat := m.toNat

end Sys2Proof.Machine
end

