-- ==== Sys2Proof/Machine/BerthCmds.lean ====
section
/-! DEFINITION. Meanings of the commands of berths and the beam schedule (11_berths_and_beam_schedule.md R221 to R239). A direction
is 0 for TX, 1 for RX. -/

namespace Sys2Proof.Machine

/-! ## The schedule -/

/-- A write of BERTH.SCHED_CMD with GO set and an OP. -/
def schedWrite (src : Source) (v : Word) (op : Nat) (s : State) : State :=
  s.busWrite src F.BERTH_SCHED_CMD_GO.addr (fix (fixBit v 31) 28 2 op)

/-- SCHED_ADD (R231). -/
def execSchedAdd (src : Source) (v : Word) (s : State) : Host.Outcome State Fault Refusal := acting s (schedWrite src v 0)

/-- SCHED_CANCEL (R232). -/
def execSchedCancel (src : Source) (v : Word) (s : State) : Host.Outcome State Fault Refusal := acting s (schedWrite src v 1)

/-- SCHED_FLUSH (R232). -/
def execSchedFlush (src : Source) (v : Word) (s : State) : Host.Outcome State Fault Refusal := acting s (schedWrite src v 2)

/-- SCHED_OP_RESERVED (R231). -/
def execSchedOpReserved (src : Source) (v : Word) (s : State) : Host.Outcome State Fault Refusal := acting s (schedWrite src v 3)

/-- BERTH_STAGE (R233). -/
def execBerthStage (dir : Fin 2) (s : State) : Host.Outcome State Fault Refusal := acting s (fun t => t.stage dir.val)

/-- BERTH_SWITCH (R234): the clusters' waiting core swaps and the listen-before-talk check follow the switch (10_quay_array.md R219;
17_front_end_control_and_breakwater.md R355). -/
def execBerthSwitch (dir : Fin 2) (s : State) : Host.Outcome State Fault Refusal :=
  acting s (fun t =>
    match t.schedQ dir.val with
    | [] => t
    | e :: _ =>
      let a := t.absOf e.at_
      let u := (t.berthSwitch dir.val).quaySwitched dir.val a
      if dir.val = 0 then u.lbtSwitch a else u)

/-! ## Weights, masks, alignment -/

/-- Word `w` of the weights (path w / 32, layer w % 32) or, from 2,048 on, of the descriptor of berth `b`. -/
def berthWordAddr (dir b w : Nat) : Nat :=
  if w < 2048 then berthAddr dir b (w / 32) (w % 32)
  else if w = 2048 then (fMASKLO dir b).addr
  else if w = 2049 then (fMASKHI dir b).addr
  else (fCLASS dir b).addr

/-- BERTH_WINDOW_WRITE (R235). -/
def execBerthWindowWrite (src : Source) (dir : Fin 2) (b : Fin 512) (w : Fin 2051) (v : Word) (s : State) :
    Host.Outcome State Fault Refusal :=
  acting s (fun t => t.busWrite src (berthWordAddr dir.val b.val w.val) v)

/-- MASK_APPLY (R228): the change that waits in a direction, or panel sums that no switch has taken (14_cascade_ring.md R293). -/
def execMaskApply (dir : Fin 2) (s : State) : Host.Outcome State Fault Refusal :=
  acting s (fun t => if (t.maskAt dir.val).isSome then t.maskApply dir.val else t.sumsDue)

/-- ALIGN_WRITE (R226): a write of Pnn_ALIGN or, with `pcal`, of Pnn_PCAL. -/
def execAlignWrite (src : Source) (p : Fin 64) (dir : Fin 2) (pcal : Bool) (v : Word) (s : State) : Host.Outcome State Fault Refusal :=
  acting s (fun t => t.busWrite src (if pcal then fPCALRE dir.val p.val else fALIGN dir.val p.val).addr v)

/-- ALIGN_APPLY (R226). -/
def execAlignApply (p : Fin 64) (dir : Fin 2) (s : State) : Host.Outcome State Fault Refusal :=
  acting s (fun t => t.alignApply p.val dir.val)

/-! ## Berth calibration and counters -/

/-- BCAL_REQ (R237): a write of BERTH.CAL_REQ with GO set. -/
def execBcalReq (src : Source) (v : Word) (s : State) : Host.Outcome State Fault Refusal :=
  acting s (fun t => t.busWrite src F.BERTH_CAL_REQ_GO.addr (fixBit v 31))

/-- BCAL_START (R237). -/
def execBcalStart (s : State) : Host.Outcome State Fault Refusal := acting s State.bcalStart

/-- BCAL_TIMEOUT (R237). -/
def execBcalTimeout (s : State) : Host.Outcome State Fault Refusal := acting s State.bcalTimeout

/-- BCAL_DONE (R237): the paths that failed. -/
def execBcalDone (fail : BitVec 64) (s : State) : Host.Outcome State Fault Refusal := acting s (fun t => t.bcalDone (mask fail))

/-- BERTH_CNT_CLR_SAT: BERTH.CNT_CLR with SAT set (R224). -/
def execBerthCntClrSat (src : Source) (v : Word) (s : State) : Host.Outcome State Fault Refusal :=
  acting s (fun t => t.busWrite src F.BERTH_CNT_CLR_SAT.addr (fixBit v F.BERTH_CNT_CLR_SAT.lo))

/-- BERTH_CNT_CLR_REF: BERTH.CNT_CLR with REF set (R231). -/
def execBerthCntClrRef (src : Source) (v : Word) (s : State) : Host.Outcome State Fault Refusal :=
  acting s (fun t => t.busWrite src F.BERTH_CNT_CLR_SAT.addr (fixBit v F.BERTH_CNT_CLR_REF.lo))

end Sys2Proof.Machine
end

