-- ==== Sys2Proof/Machine/Frames.lean ====
section
/-! DEFINITION. What arrives on a brick or a ring port: forwarded control commands, remote memory access, reset requests, and
link frames handed to their message handlers (13_fronthaul_messages.md R263 to R265, R275 to R278; 14_cascade_ring.md R293). -/

namespace Sys2Proof.Machine

/-- State and width of every link. -/
def State.linkView (s : State) : List Nat := (List.range 4).flatMap (fun l => [s.linkState l, s.get (lkWIDTH l)])

/-- An effect on the lane layers; what depends on the links follows where a link's state or width changed (R269, R279, R288,
R299). -/
def State.linkAct (s : State) (f : State → State) : State :=
  let t := f s
  if t.linkView = s.linkView then t else t.linksChanged.bootAdvance

/-! ## Control commands forwarded by the head (R293) -/

/-- A member that is joined and can be reached over the ring. -/
def State.memberHears (s : State) : Bool :=
  s.isMember && s.ringLive && (s.linkUp 2 || s.linkUp 3) && bitAt s.members s.boot.chipId

/-- A forwarded BERTH_ADD: no checks; staged on arrival where its staging would have begun. -/
def State.memberAdd (s : State) (dir : Nat) (at_ : Stamp) (n : Nat) : State :=
  if s.inRun = false then s
  else
    let t := s.setSchedQ dir (placeSched ⟨at_, n, none⟩ (s.schedQ dir))
    if stampDiff at_ s.stamp < (usU 12 : Int) then t.stage dir else t

/-- A forwarded command at a member, without the checks of R231, R275 and R276. -/
def State.rtcMember (s : State) (cmd flags : Nat) (body : List Byte) : State :=
  let a := bodyStamp body
  let dir := rtcDir flags
  if s.memberHears = false then s
  else match cmd with
    | 0x01 => s.memberAdd dir a (beNat ((body.drop 8).take 2) % 512)
    | 0x02 => (s.schedCancel dir a).2
    | 0x03 => s.schedFlush dir
    | 0x10 => s.setGaps (placeGap ⟨a, stampAdd a (usU (beNat ((body.drop 8).take 4) % 2 ^ 20)), (nth 0 body 12).toNat, false⟩ s.msgs.gaps)
    | 0x11 => (s.gapRevoke a).2
    | 0x20 =>
      let f := toSigned 48 (beNat ((body.drop 8).take 6))
      if dir = 1 then (s.rxNcoGo f true a).2 else (s.txNcoGo f true a).2
    | 0x21 => (s.synCommand ((nth 0 body 8).toNat % 2) ((nth 0 body 9).toNat % 64) ((nth 0 body 10).toNat % 2) true a).2
    | _ => s

/-- A control command from brick 0 or 1, or (`via` = 2) forwarded over the ring. -/
def State.rtcFrom (s : State) (via cmd flags seq : Nat) (body : List Byte) : State :=
  if via = 2 then s.rtcMember cmd flags body
  else match cmd with
    | 0x01 => s.rtcAdd via flags seq body
    | 0x02 => s.rtcCancel via flags seq body
    | 0x03 => s.rtcFlush via flags seq body
    | 0x10 => s.rtcGrant via flags seq body
    | 0x11 => s.rtcRevoke via flags seq body
    | 0x20 => s.rtcNco via flags seq body
    | 0x21 => s.rtcSyn via flags seq body
    | _ => s.rtcUnknown via cmd flags seq body

/-! ## Remote memory access (R277) -/

/-- `n` words from `a` on, read in ascending order, as bytes in address order. -/
def State.rmaLoad (s : State) (src : Source) (a : Nat) : Nat → List Byte × State
  | 0 => ([], s)
  | n + 1 =>
    let r := s.busRead src a
    let u := State.rmaLoad r.2 src (a + 4) n
    (leBytes 4 r.1 ++ u.1, u.2)

/-- Bytes written in ascending words from `a` on. -/
def State.rmaStore (s : State) (src : Source) (a : Nat) : List Byte → State
  | b0 :: b1 :: b2 :: b3 :: l => State.rmaStore (s.busWrite src a (BitVec.ofNat 32 (leNat [b0, b1, b2, b3]))) src (a + 4) l
  | _ => s

/-- The source of a request: the port of its brick, or port 3 for one forwarded over the ring (23_pilot_security_debug.md R448). -/
def rmaSource (via : Nat) : Source := if via = 0 then .port 1 else if via = 1 then .port 2 else .port 3

/-- The device can hear a request. -/
def State.rmaHears (s : State) (via : Nat) : Bool := if via < 2 then s.linkUp via else s.memberHears

/-- A response or failure on the way that the request came. -/
def State.rmaAnswer (s : State) (via id op rr elem addr len : Nat) (data : List Byte) : State :=
  let m := rmaBytes id op rr elem addr len data
  s.emit (if via < 2 then .frame via 4 m else .ring 0 4 (m.map (fun x => x.toNat)))

/-- A request that R277 answers with a failure. -/
def rmaBad (op addr len : Nat) (data : List Byte) : Bool :=
  addr % 4 != 0 || len % 4 != 0 || len < 4 || decide (1024 < len) || decide (2 ^ 40 ≤ addr) || (op != 0 && data.length != len)

/-- A request: `op` 0 read, 1 write, 2 write without response. The head passes on one for another device of the ring. -/
def State.rma (s : State) (via op id elem addr len : Nat) (data : List Byte) : State :=
  if s.rmaHears via = false then s
  else if elem % 4 ≠ s.boot.chipId then
    if elem / 4 = 0 ∧ via < 2 ∧ s.isHead = true ∧ bitAt s.members (elem % 4) = true then
      s.emit (.ring (elem % 4) 4 ((rmaBytes id op 0 elem addr len data).map (fun x => x.toNat)))
    else s
  else if elem / 4 ≠ 0 then s
  else if rmaBad op addr len data then (if op = 2 then s else s.rmaAnswer via id op 2 elem addr len [])
  else match op with
    | 0 =>
      let r := s.rmaLoad (rmaSource via) addr (len / 4)
      r.2.rmaAnswer via id 0 1 elem addr len r.1
    | 1 => (s.rmaStore (rmaSource via) addr data).rmaAnswer via id 1 1 elem addr len []
    | _ => s.rmaStore (rmaSource via) addr data

/-- A type 4 message as received: a request, or the baseband's answer to a remote write of Crane (20_crane.md R414). -/
def State.rmaMessage (s : State) (via : Nat) (m : List Byte) : State :=
  let id := beNat (m.take 1)
  let opr := (nth 0 m 1).toNat
  let elem := beNat ((m.drop 2).take 2)
  let addr := beNat ((m.drop 4).take 6)
  let len := beNat ((m.drop 10).take 2)
  if opr % 16 = 0 then (if opr / 16 ≤ 2 then s.rma via (opr / 16) id elem addr len ((m.drop 12).take len) else s)
  else if opr / 16 = 1 ∧ opr % 16 ≤ 2 ∧ via < 2 then s.remoteAnswer via id (opr % 16 == 1)
  else s

/-! ## Reset requests (R278) -/

/-- A type 6 message: Reset ID, Reset Code Op, first payload byte. -/
def State.resetRequest (s : State) (b id op p0 : Nat) : State :=
  if s.linkUp b ∧ op = 1 ∧ p0 = 0 ∧ 2 ≤ s.portLevel (b + 1) then
    (s.emit (.frame b 6 (beBytes 2 id ++ [2]))).resetSoon
  else s

/-! ## Link frames (R265; 01_architecture.md R20) -/

/-- A discarded frame: counted on a brick, with FRAME_ERR; a bad column or a bad SOF waits for the next idle set. -/
def State.frameError (s : State) (l c : Nat) (wait : Bool) : State :=
  let t := s.setPort l { s.port l with waitIdle := wait }
  if l < 2 then (t.inc (F.FHM_B_ERR_COUNT l c)).raiseMs 0x0C09 0 l else t

/-- A type is allowed on a channel of a brick or of a ring port. -/
def frameAllowed (l ch ty : Nat) : Bool :=
  match ch with
  | 0 => ty == 0 || ty == 2 || ty == 5
  | 1 => ty == 4 || ty == 6 || ty == 7
  | 2 => decide (2 ≤ l) && ty == 0
  | _ => false

/-- An accepted message goes to its handler. -/
def State.frameTake (s : State) (l ch ty : Nat) (p : List Byte) : State :=
  let via := if l < 2 then l else 2
  match ty with
  | 0 => if l < 2 then s.txSection l p else if ch = 2 then s.psumRx (l - 2) p else s.layerForward (nth 0 p 1).toNat (l - 2) p
  | 2 => s.rtcFrom via (nth 0 p 0).toNat (nth 0 p 1).toNat (beNat ((p.drop 2).take 2)) (p.drop 4)
  | 4 => s.rmaMessage via p
  | 5 => if p.length = 20 then s.type5Rx l p else s.frameError l 2 false
  | 6 => if l < 2 then s.resetRequest l (beNat (p.take 2)) (nth 0 p 2).toNat (nth 0 p 3).toNat else s
  | _ => s

/-- The cause for which a frame is discarded, in the order bad column (3), SOF (1), LEN (2), CRC (0), header and type (2). -/
def frameCause (l : Nat) (f : List Byte) (bad : Bool) : Option Nat :=
  let len := beNat ((f.drop 2).take 2)
  let b0 := (nth 0 f 4).toNat
  if bad then some 3
  else if nth 0 f 0 ≠ 0xD5 then some 1
  else if len < 8 ∨ 8240 < len ∨ f.length ≠ len + 8 then some 2
  else if beNat (f.drop (len + 4)) ≠ crc32 (f.take (len + 4)) then some 0
  else if b0 / 16 ≠ 1 ∨ b0 % 2 ≠ 0 ∨ beNat ((f.drop 6).take 2) ≠ len - 4 then some 2
  else if frameAllowed l ((nth 0 f 1).toNat / 16) (nth 0 f 5).toNat = false then some 2
  else none

/-- The ingress slack of links `l` and its twin, in ns, from the fills of their buffers: 2 bytes per ns and lane. -/
def State.ingressSlack (s : State) (l fill other : Nat) : Nat :=
  let one (k n : Nat) : Nat := let w := s.get (lkWIDTH k); if w = 0 then 0xFFFF else (16384 - n) / (2 * w)
  minOf (one l fill) [if s.linkUp (l + 1 - 2 * (l % 2)) then one (l + 1 - 2 * (l % 2)) other else 0xFFFF]

/-- A frame received whole on link `l`: `bad` that it holds a column marked bad, `idle` that an idle set came since the last
discard, `fill` and `other` the fills of this link's ingress buffer and its twin's. A full buffer loses it (R20). -/
def State.linkFrame (s0 : State) (l : Nat) (f : List Byte) (bad idle : Bool) (fill other : Nat) : State :=
  if s0.linkUp l = false then s0
  else
    let m := if l < 2 then 3 else 5
    let s := s0.meter m (s0.ingressSlack l fill other)
    if 16384 ≤ fill then s.slip m
    else if (s.port l).waitIdle ∧ idle = false then s
    else
      let t := s.setPort l { s.port l with waitIdle := false, bad := false }
      match frameCause l f (bad || (s.port l).bad) with
      | some c => t.frameError l c (c == 3 || c == 1)
      | none => t.frameTake l ((nth 0 f 1).toNat / 16) (nth 0 f 5).toNat ((f.drop 8).take (f.length - 12))

end Sys2Proof.Machine
end

