-- ==== Sys2Proof/Machine/ClockCmds.lean ====
section
/-! DEFINITION. Meanings of the commands of the reference, the CPLL, the synthesisers and the link PLLs
(04_clocks_and_synthesisers.md R64 to R86; 22_reserve.md R437). -/

namespace Sys2Proof.Machine

/-! ## Reference and CPLL -/

/-- REFCLK_EDGE_LOSS (R67). -/
def execRefclkEdgeLoss (s : State) : Host.Outcome State Fault Refusal := acting s (fun t => t.linkAct State.refEdgeLoss)

/-- FREQ_MONITOR_WINDOW (R68, R70): the deviation of REFCLK in ppb, or none where it shows no edge, and the phase in ps that a
build-out at this instant measures. -/
def execFreqMonitorWindow (dev : Option Int) (phi : Int) (s : State) : Host.Outcome State Fault Refusal :=
  acting s (fun t => t.linkAct (fun u => u.freqWindow dev phi))

/-- HOLDOVER_EXPIRED (R69). -/
def execHoldoverExpired (s : State) : Host.Outcome State Fault Refusal := acting s (fun t => t.linkAct State.holdoverExpired)

/-- CPLL_UNLOCK (R71). -/
def execCpllUnlock (s : State) : Host.Outcome State Fault Refusal := acting s (fun t => t.linkAct State.cpllUnlock)

/-- CPLL_LOCK_RETRY (R73). -/
def execCpllLockRetry (s : State) : Host.Outcome State Fault Refusal := acting s State.cpllRetry

/-- CPLL_RELOCK (R73). -/
def execCpllRelock (s : State) : Host.Outcome State Fault Refusal := acting s State.cpllRelock

/-! ## Synthesisers -/

/-- SYN_GO (R76): a write of CLK.SYNn_CTL with GO set. -/
def execSynGo (src : Source) (n : Fin 2) (v : Word) (s : State) : Host.Outcome State Fault Refusal :=
  acting s (fun t => t.busWrite src (F.CLK_SYN_CTL_GO n.val).addr (fixBit v 31))

/-- SYN_RETUNE_START (R76): the armed retune of a synthesiser; Breakwater fixes its band again (R350). -/
def execSynRetuneStart (n : Fin 2) (s : State) : Host.Outcome State Fault Refusal :=
  acting s (fun t => if (t.syn n.val).armed.isSome then (t.synFire n.val).bwFix else t)

/-- SETTLE_WINDOW_END (R76). -/
def execSettleWindowEnd (n : Fin 2) (s : State) : Host.Outcome State Fault Refusal :=
  acting s (fun t => (t.settleDone n.val).syncReport)

/-- SYN_LOCK (R76, R79, R82). -/
def execSynLock (n : Fin 2) (s : State) : Host.Outcome State Fault Refusal :=
  acting s (fun t => ((t.synLock n.val).syncReport).bootAdvance)

/-- SYN_UNLOCK (R79, R80). -/
def execSynUnlock (n : Fin 2) (s : State) : Host.Outcome State Fault Refusal :=
  acting s (fun t => (t.synUnlock n.val).syncReport)

/-- SYN_LOCK_RETRY (R79). -/
def execSynLockRetry (n : Fin 2) (s : State) : Host.Outcome State Fault Refusal := acting s (fun t => t.synRetry n.val)

/-- SYN_RELOCK_TIMEOUT (R437). -/
def execSynRelockTimeout (n : Fin 2) (s : State) : Host.Outcome State Fault Refusal := acting s (fun t => t.synRelockTimeout n.val)

/-- SWAP_MUTE_LIFT (R80). -/
def execSwapMuteLift (s : State) : Host.Outcome State Fault Refusal := acting s State.swapLift

/-- LO_ROUTE_WRITE (R81). -/
def execLoRouteWrite (src : Source) (v : Word) (s : State) : Host.Outcome State Fault Refusal :=
  acting s (fun t => t.busWrite src F.CLK_LO_ROUTE_SPLIT.addr v)

/-- LODIST_DIVIDER_RESET (R82). -/
def execLodistDividerReset (s : State) : Host.Outcome State Fault Refusal := acting s State.dividersReset

/-- RESYNC: a write of CLK.LO_SYNC with RESYNC set (R82). -/
def execResync (src : Source) (v : Word) (s : State) : Host.Outcome State Fault Refusal :=
  acting s (fun t => t.busWrite src F.CLK_LO_SYNC_RESYNC.addr (fixBit v 0))

/-! ## Link PLLs: 0 and 1 the bricks, 2 and 3 the ring ports -/

/-- LPLL_UNLOCK (R85). -/
def execLpllUnlock (b : Fin 4) (s : State) : Host.Outcome State Fault Refusal := acting s (fun t => t.linkAct (fun u => u.lpllUnlock b.val))

/-- LPLL_LOCK_RETRY (R85). -/
def execLpllLockRetry (b : Fin 4) (s : State) : Host.Outcome State Fault Refusal := acting s (fun t => t.lpllRetry b.val)

/-- LPLL_RELOCK (R85): the link returns to full rate and trains from BYPASS (12_fronthaul_physical.md R259). -/
def execLpllRelock (b : Fin 4) (s : State) : Host.Outcome State Fault Refusal :=
  acting s (fun t => if (nth none t.clk.lpllSince b.val).isSome then t.linkAct (fun u => (u.lpllRelock b.val).retrainStart b.val) else t)

/-- SSC_APEX_APPLY (R84). -/
def execSscApexApply (b : Fin 4) (s : State) : Host.Outcome State Fault Refusal := acting s (fun t => t.sscApply b.val)

end Sys2Proof.Machine
end

