-- ==== Sys2Proof/Machine/Converters.lean ====
section
/-! DEFINITION. Meanings of the commands at the converters: a receive sample, a transmit sample, the drift meters' commands
(01_architecture.md R18 to R28; 06_receive_front_end_and_adc.md R107; 17_front_end_control_and_breakwater.md R351 to R357). -/

namespace Sys2Proof.Machine

/-- Receive samples that leave a chain: through the alignment stage to the Quay and the antenna tap (07_receive_chain.md,
10_quay_array.md R217, 19_hold_and_gauge.md R382). -/
def State.rxOutputs (s : State) (p : Nat) (l : List RxSample) : State :=
  let r := s.rxAlignAll p l
  r.1.each r.2 (fun t y =>
    (t.antPush p y).gaugeTap 0 p { n := y.j, v := y.v, inv := y.inv, ovr := y.ovr, act := t.actAt y.at_ })

/-- The converters of a receive path run. -/
def State.rxConverts (s : State) (p : Nat) : Bool := s.hasPath p && s.up (domRXQ (p / 8)) && s.clk.gatesOpen

/-- The converters of a transmit path run. -/
def State.txConverts (s : State) (p : Nat) : Bool := s.txRun && s.hasPath p && s.up (domTXQ (p / 8)) && s.clk.gatesOpen

/-- RX_ADC_SAMPLE (R107): the codes of a path, its over-range flag, and the fill of its ingress buffer. -/
def execRxAdcSample (p : Fin 64) (re im : BitVec 12) (ovr : Bool) (fill : Fin 1025) (s : State) : Host.Outcome State Fault Refusal :=
  acting s (fun t =>
    if t.rxConverts p.val then
      let r := t.rxSample p.val ⟨re.toInt, im.toInt⟩ ovr fill.val
      r.1.rxOutputs p.val r.2
    else t)

/-- RX_INGRESS_SPACE_RETURN (R19): the lost samples of a path. -/
def execRxIngressSpaceReturn (p : Fin 64) (s : State) : Host.Outcome State Fault Refusal :=
  acting s (fun t => let r := t.rxReturn p.val; r.1.rxOutputs p.val r.2)

/-- A transmit sample of path `p` at its air instant: Breakwater's decisions, the mute stage, what follows a played sample. -/
def State.txPlayout (s0 : State) (p : Nat) (late : Bool) (fill : Nat) : State :=
  let s := (s0.txInstant p).txMeter fill
  let k := s.tx.dacK
  let t := ((s.fadeSettle p k).bwBlock k).bwGranule (granuleOf (gridAt k))
  let why := t.bwReason p k
  let out := if late then none else t.txOut p k
  let v : Cx := match out with | some o => o.1 | none => cx0
  let r := t.txPlay p late why
  let u := match r.2, why with
    | 5, some i => r.1.inc (F.BWTR_CNT_COUNT i)
    | 0, _ => if r.1.txReleased p then r.1.bwPlayed (gridAt k) else r.1
    | _, _ => r.1
  (u.gaugeTap 3 p { n := k, v := v }).rpFollow k

/-- TX_SAMPLE_PLAYOUT (R18): a path, whether its sample missed its instant, and the fill of the egress buffer. -/
def execTxSamplePlayout (p : Fin 64) (late : Bool) (fill : Fin 2049) (s : State) : Host.Outcome State Fault Refusal :=
  acting s (fun t => if t.txConverts p.val then t.txPlayout p.val late fill.val else t)

/-- CLR_CNT: a write of TOP.DRIFT_CTL with CLR_CNT set (R23). -/
def execClrCnt (src : Source) (v : Word) (s : State) : Host.Outcome State Fault Refusal :=
  acting s (fun t => t.busWrite src F.TOP_DRIFT_CTL_LOW_NS.addr (fixBit v 17))

/-- CLR_MIN: a write of TOP.DRIFT_CTL with CLR_MIN set (R23). -/
def execClrMin (src : Source) (v : Word) (s : State) : Host.Outcome State Fault Refusal :=
  acting s (fun t => t.busWrite src F.TOP_DRIFT_CTL_LOW_NS.addr (fixBit v 16))

end Sys2Proof.Machine
end

