-- ==== Sys2Proof/Machine/CraneMove.lean ====
section
/-! DEFINITION. The data movement of Crane's channels: COPY, FILL and COMPARE (20_crane.md R404 to R409, R413, R414). -/

namespace Sys2Proof.Machine

/-! ## One access (R405, R406, R408) -/

/-- Whether a window access of a channel acts: absent and reserved locations and windows that are off do nothing, an access
without permission is counted (R406). -/
def State.craneMay (s : State) (src : Source) (a : Nat) (write : Bool) : Bool × State :=
  if s.window a = 0 then (false, s)
  else if s.srcLevel src write = 0 then (false, s.violation (srcCode src) a write)
  else (s.windowLive (s.window a) a, s)

/-- The offset of the first poisoned granule of a range of Hold (R413). -/
def State.poisonIn (s : State) (a size : Nat) : Option Nat :=
  ((List.range ((size + 63) / 64)).find? (fun g => s.poisoned ((a - 0x1000000000) / 64 + g))).map (fun g => 64 * g)

/-- Register words read one by one. -/
def State.regsRead (s : State) (src : Source) (a : Nat) : Nat → List Byte × State
  | 0 => ([], s)
  | n + 1 =>
    let (l, t) := s.regsRead src a n
    let (v, u) := t.busRead src (a + 4 * n)
    (l ++ leBytes 4 v, u)

/-- Bytes read from a range of one region, and the offset of its first poisoned granule. -/
def State.craneRead (s : State) (src : Source) (a size : Nat) : List Byte × Option Nat × State :=
  if craneRegion a = 1 then
    let (l, t) := s.regsRead src a (size / 4)
    (l, none, t)
  else
    let (ok, t) := s.craneMay src a false
    if !ok then (List.replicate size 0, none, t)
    else if craneRegion a = 9 then
      ((List.range size).map (fun i => t.holdByte (a + i)), t.poisonIn a size, t.holdCarried 2 (size / 64))
    else ((List.range size).map (fun i => if t.window (a + i) = 0 then 0 else t.byte (a + i)), none, t)

/-- The words of a byte string, with their offsets. -/
def wordsOf (l : List Byte) : List (Nat × Nat) := (List.range (l.length / 4)).map (fun i => (4 * i, le l (4 * i) 4))

/-- Bytes written to a range of one region: register space and the windows of other units word by word, Hold by whole granules. -/
def State.craneWrite (s : State) (src : Source) (a : Nat) (l : List Byte) : State :=
  if craneRegion a = 1 then s.each (wordsOf l) (fun t e => t.busWrite src (a + e.1) (BitVec.ofNat 32 e.2))
  else
    let (ok, t) := s.craneMay src a true
    if !ok then t
    else if craneRegion a = 9 then
      (t.each (List.range (l.length / 64)) (fun u g =>
        u.writeGranule ((a - 0x1000000000) / 64 + g) ((l.drop (64 * g)).take 64))).holdCarried 2 (l.length / 64)
    else t.each (wordsOf l) (fun u e => if u.window (a + e.1) = 0 then u else u.windowWrite (u.window (a + e.1)) (a + e.1) e.2)

/-! ## A Manifest's checks (R402, R405, R407, R412, R414) -/

/-- The granule of the destination. -/
def Chan.dstGranule (x : Chan) : Nat := if x.rdst then 64 else craneGranule x.dst

/-- The granule that LEN is a multiple of: the coarser of the two ends. -/
def Chan.lenGranule (x : Chan) : Nat :=
  let g := if x.op = 1 then 4 else craneGranule x.src
  if g < x.dstGranule then x.dstGranule else g

/-- The cause a Manifest is marked with before any data moves: PROG, ALIGN, RANGE or OK. -/
def Chan.check (x : Chan) : Nat :=
  if x.reservedZero = false ∨ x.len = 0 ∨ (x.op = 2 ∧ x.rdst = true) then 2
  else if x.len % x.lenGranule ≠ 0 ∨ x.dst % x.dstGranule ≠ 0 ∨ (x.op ≠ 1 ∧ x.src % craneGranule x.src ≠ 0) then 1
  else if (x.op ≠ 1 ∧ craneOneRegion x.src x.len = false)
      ∨ (if x.rdst then 2 ^ 48 < x.dst + x.len else craneOneRegion x.dst x.len = false) then 3
  else 0

/-- A COPY moves its data downward: local ranges that overlap with DST above SRC (R407). -/
def Chan.downward (x : Chan) : Bool := x.op == 0 && !x.rdst && decide (x.src < x.dst) && decide (x.dst < x.src + x.len)

/-- A COPY, FILL or COMPARE starts: the LINK count returns to 0, the Manifest is checked and, for a remote one, a brick chosen. -/
def State.craneBegin (s : State) (n : Nat) : State :=
  let x := s.chan n
  let t := s.put (F.CRANE_C_STAT_LINKS n) 0
  let brick := if t.brickUp 0 then 0 else 1
  let c := if x.check ≠ 0 then x.check else if x.rdst && !t.anyBrickUp then 7 else 0
  (t.setChan n { x with begun := true, cause := c, brick := brick }).putb (F.CRANE_C_STAT_DESC n) (x.downward && c == 0)

/-! ## Pieces -/

/-- The bytes of one piece: a word between registers, a granule between a register range and memory, else up to 1,024. -/
def Chan.piece (x : Chan) : Nat :=
  let sReg := x.op != 1 && craneGranule x.src == 4
  let dReg := !x.rdst && craneGranule x.dst == 4
  if dReg && (sReg || x.op == 1) then 4 else if (sReg || dReg) && !x.rdst then 64 else 1024

/-- The offset and size of the next piece. -/
def Chan.next (x : Chan) (desc : Bool) : Nat × Nat :=
  let left := x.len - x.moved
  let size := if left < x.piece then left else x.piece
  (if desc then left - size else x.moved, size)

/-- The least offset of a poisoned granule so far. -/
def Chan.poisonMin (x : Chan) (o : Option Nat) : Option Nat :=
  match x.poison, o with
  | none, p => p
  | p, none => p
  | some a, some b => some (if b < a then b else a)

/-- `size` bytes of a FILL's pattern. -/
def Chan.pattern (x : Chan) (size : Nat) : List Byte := (List.replicate (size / 4) (leBytes 4 (x.word 2))).flatten

/-- A piece of a COPY or FILL written: to a local range, or as one request to the baseband (R414). -/
def State.piecePut (s : State) (ch : Fin 16) (off : Nat) (data : List Byte) : State :=
  let n := ch.val
  let x := s.chan n
  if x.rdst then
    let k := off / 1024
    let t := s.setChan n { x with await := x.await ++ [(k, s.aon + usU s.remUs)] }
    t.emit (.frame x.brick 4 (rmaBytes (16 * n + k % 16) 1 0 0 (x.dst + off) data.length data))
  else s.craneWrite (.crane ch) (x.dst + off) data

/-- The word offsets at which two pieces differ. -/
def mismatches (a b : List (Nat × Nat)) : List Nat := ((a.zip b).filter (fun e => e.1.2 != e.2.2)).map (fun e => e.1.1)

/-- One piece of the Manifest in progress. -/
def State.cranePiece (s : State) (ch : Fin 16) : State :=
  let n := ch.val
  let x := s.chan n
  let (off, size) := x.next (s.flag (F.CRANE_C_STAT_DESC n))
  if x.op = 1 then
    let t := s.piecePut ch off (x.pattern size)
    t.setChan n { t.chan n with moved := x.moved + size }
  else
    let (l, po, t) := s.craneRead (.crane ch) (x.src + off) size
    let po := po.map (off + ·)
    if x.op = 2 then
      let (m, qo, u) := t.craneRead (.crane ch) (x.dst + off) size
      let d := mismatches (wordsOf l) (wordsOf m)
      let y := u.chan n
      u.setChan n { y with
        moved := x.moved + size, mism := y.mism + d.length
        firstMis := match y.firstMis with | some o => some o | none => d.head?.map (off + ·)
        poison := ({ y with poison := y.poisonMin po } : Chan).poisonMin (qo.map (off + ·)) }
    else
      let u := t.piecePut ch off l
      u.setChan n { u.chan n with moved := x.moved + size, poison := (u.chan n).poisonMin po }

/-- A piece can be issued now: data is left, no cause stands and at most eight remote pieces await an answer (R414). -/
def State.pieceOpen (s : State) (n : Nat) : Bool :=
  let x := s.chan n
  s.craneState n == chRUN && x.phase == 2 && x.cause == 0 && decide (x.moved < x.len) && decide (x.await.length < 8)

/-- Up to `k` pieces. -/
def State.cranePieces : Nat → State → Fin 16 → State
  | 0, s, _ => s
  | k + 1, s, ch => if s.pieceOpen ch.val then State.cranePieces k (s.cranePiece ch) ch else s

/-- A channel carries out up to `k` pieces of a COPY, FILL or COMPARE. -/
def State.craneMove (s : State) (ch : Fin 16) (op k : Nat) : State :=
  let n := ch.val
  if !s.craneActs n op then s
  else
    let t := if (s.chan n).begun then s else s.craneBegin n
    ((State.cranePieces k t ch).craneSettle n).craneCur n

end Sys2Proof.Machine
end

