-- ==== Sys2Proof/Machine/CraneCmds.lean ====
section
/-! DEFINITION. Meanings of the commands of the Crane channels (20_crane.md R401 to R419). Channels 0 to 15. -/

namespace Sys2Proof.Machine

/-- CRANE_GO (R402): Cn_CTL with GO set. -/
def execCraneGo (src : Source) (ch : Fin 16) (v : Word) (s : State) : Host.Outcome State Fault Refusal :=
  acting s (fun t => t.busWrite src (F.CRANE_C_CTL_GO ch.val).addr (fixBit v 31))

/-- CRANE_KICK (R403): Cn_CTL with KICK set. -/
def execCraneKick (src : Source) (ch : Fin 16) (v : Word) (s : State) : Host.Outcome State Fault Refusal :=
  acting s (fun t => t.busWrite src (F.CRANE_C_CTL_KICK ch.val).addr (fixBit v 28))

/-- CRANE_PAUSE (R415): a write of Cn_CTL whose PAUSE is the word's bit 29. -/
def execCranePause (src : Source) (ch : Fin 16) (v : Word) (s : State) : Host.Outcome State Fault Refusal :=
  acting s (fun t => t.busWrite src (F.CRANE_C_CTL_PAUSE ch.val).addr v)

/-- CRANE_STOP (R416): Cn_CTL with STOP set. -/
def execCraneStop (src : Source) (ch : Fin 16) (v : Word) (s : State) : Host.Outcome State Fault Refusal :=
  acting s (fun t => t.busWrite src (F.CRANE_C_CTL_STOP ch.val).addr (fixBit v 30))

/-- CRANE_PAUSED (R415). -/
def execCranePaused (ch : Fin 16) (s : State) : Host.Outcome State Fault Refusal := acting s (fun t => t.cranePaused ch.val)

/-- MANIFEST_FETCH (R403). -/
def execManifestFetch (ch : Fin 16) (s : State) : Host.Outcome State Fault Refusal := acting s (fun t => t.manifestFetch ch.val)

/-- CRANE_COPY (R404): up to `pieces` pieces of the COPY in progress. -/
def execCraneCopy (ch : Fin 16) (pieces : BitVec 22) (s : State) : Host.Outcome State Fault Refusal :=
  acting s (fun t => t.craneMove ch 0 pieces.toNat)

/-- CRANE_FILL (R404). -/
def execCraneFill (ch : Fin 16) (pieces : BitVec 22) (s : State) : Host.Outcome State Fault Refusal :=
  acting s (fun t => t.craneMove ch 1 pieces.toNat)

/-- CRANE_COMPARE (R404). -/
def execCraneCompare (ch : Fin 16) (pieces : BitVec 22) (s : State) : Host.Outcome State Fault Refusal :=
  acting s (fun t => t.craneMove ch 2 pieces.toNat)

/-- CRANE_LINK (R412). -/
def execCraneLink (ch : Fin 16) (s : State) : Host.Outcome State Fault Refusal := acting s (fun t => t.craneLink ch.val)

/-- CRANE_OP_RESERVED (R405). -/
def execCraneOpReserved (ch : Fin 16) (s : State) : Host.Outcome State Fault Refusal := acting s (fun t => t.craneReserved ch.val)

/-- MANIFEST_WRITEBACK (R403). -/
def execManifestWriteback (ch : Fin 16) (s : State) : Host.Outcome State Fault Refusal := acting s (fun t => t.manifestBack ch.val)

/-- CRANE_ACCESS_TIMEOUT (R410). -/
def execCraneAccessTimeout (ch : Fin 16) (s : State) : Host.Outcome State Fault Refusal := acting s (fun t => t.craneTimeout ch.val)

/-- REMOTE_ANSWER_TIMEOUT (R414). -/
def execRemoteAnswerTimeout (ch : Fin 16) (s : State) : Host.Outcome State Fault Refusal :=
  acting s (fun t => t.remoteTimeout ch.val)

/-- CRANE_CNT_CLR (R402): CRANE.CNT_CLR with CLR set. -/
def execCraneCntClr (src : Source) (v : Word) (s : State) : Host.Outcome State Fault Refusal :=
  acting s (fun t => t.busWrite src F.CRANE_CNT_CLR_CLR.addr (fixBit v 0))

end Sys2Proof.Machine
end

