-- ==== Sys2Proof/Machine/FrontEndCmds.lean ====
section
/-! DEFINITION. Meanings of the commands of front-end control and Breakwater (17_front_end_control_and_breakwater.md R336 to R358). -/

namespace Sys2Proof.Machine

/-! ## Bias and PA sequences -/

/-- BIAS_WRITE (R338): output `o`, a BIAS output (0 to 63) or an AUXDAC (64 to 71). -/
def execBiasWrite (src : Source) (o : Fin 72) (v : Word) (s : State) : Host.Outcome State Fault Refusal :=
  acting s (fun t => t.busWrite src (biasTarget o.val).addr v)

/-- A write of FEND.PA_CMD with GO set and an OP. -/
def paWrite (src : Source) (v : Word) (op : Nat) (s : State) : State :=
  s.busWrite src F.FEND_PA_CMD_GO.addr (fix (fixBit v 31) 16 2 op)

/-- PA_CMD_ON (R339). -/
def execPaCmdOn (src : Source) (v : Word) (s : State) : Host.Outcome State Fault Refusal := acting s (paWrite src v 1)

/-- PA_CMD_OFF (R339). -/
def execPaCmdOff (src : Source) (v : Word) (s : State) : Host.Outcome State Fault Refusal := acting s (paWrite src v 2)

/-- PA_CMD_IGNORED (R339): OP 3 where bit 16 of the word is set, else 0. -/
def execPaCmdIgnored (src : Source) (v : Word) (s : State) : Host.Outcome State Fault Refusal :=
  acting s (paWrite src v (3 * (v.toNat / 65536 % 2)))

/-- PA_DRAIN_WAIT_END (R339). -/
def execPaDrainWaitEnd (q : Fin 8) (s : State) : Host.Outcome State Fault Refusal := acting s (fun t => t.paWaitEnd q.val)

/-- PA_BIAS_ARRIVED (R339). -/
def execPaBiasArrived (q : Fin 8) (s : State) : Host.Outcome State Fault Refusal :=
  acting s (fun t => if [1, 4, 5].contains (t.paSeq q.val).step then t.paArrived q.val else t)

/-! ## Front-end faults (R343) -/

/-- FE_FAULT_DRAIN_OFF. -/
def execFeFaultDrainOff (s : State) : Host.Outcome State Fault Refusal := acting s State.feDrainOff

/-- VNEG_FAULT: the comparator trips. -/
def execVnegFault (s : State) : Host.Outcome State Fault Refusal := acting s (fun t => t.feSet feVNEG)

/-- VNEG_RESTORED: the comparator releases. -/
def execVnegRestored (s : State) : Host.Outcome State Fault Refusal := acting s (fun t => t.feClear feVNEG)

/-- SYN_UNLOCK_FAULT. -/
def execSynUnlockFault (s : State) : Host.Outcome State Fault Refusal := acting s State.synFault

/-! ## RFFE (R344, R345) -/

/-- A write of FEND.RFn_CMD with GO set and a command code. -/
def rfWrite (src : Source) (n : Nat) (v : Word) (cmd : Nat) (s : State) : State :=
  s.busWrite src (0x100404 + 0x40 * n) (fix (fixBit v 31) 24 3 cmd)

/-- RFFE_WRITE. -/
def execRffeWrite (src : Source) (n : Fin 8) (v : Word) (s : State) : Host.Outcome State Fault Refusal := acting s (rfWrite src n.val v 0)

/-- RFFE_READ. -/
def execRffeRead (src : Source) (n : Fin 8) (v : Word) (s : State) : Host.Outcome State Fault Refusal := acting s (rfWrite src n.val v 1)

/-- RFFE_REG0_WRITE. -/
def execRffeReg0Write (src : Source) (n : Fin 8) (v : Word) (s : State) : Host.Outcome State Fault Refusal :=
  acting s (rfWrite src n.val v 2)

/-- RFFE_EXT_WRITE. -/
def execRffeExtWrite (src : Source) (n : Fin 8) (v : Word) (s : State) : Host.Outcome State Fault Refusal :=
  acting s (rfWrite src n.val v 3)

/-- RFFE_EXT_READ. -/
def execRffeExtRead (src : Source) (n : Fin 8) (v : Word) (s : State) : Host.Outcome State Fault Refusal :=
  acting s (rfWrite src n.val v 4)

/-- RFFE_CMD_UNKNOWN: CMD 5 to 7; any other CMD of the word stands for 5. -/
def execRffeCmdUnknown (src : Source) (n : Fin 8) (v : Word) (s : State) : Host.Outcome State Fault Refusal :=
  acting s (rfWrite src n.val v (let c := v.toNat / 2 ^ 24 % 8; if 5 ≤ c then c else 5))

/-- RFFE_COMMAND_START. -/
def execRffeCommandStart (n : Fin 8) (s : State) : Host.Outcome State Fault Refusal := acting s (fun t => t.rfStart n.val)

/-- RFFE_COMMAND_DONE: the bytes that a read returned, and a parity error. -/
def execRffeCommandDone (n : Fin 8) (bytes : List Byte) (perr : Bool) (s : State) : Host.Outcome State Fault Refusal :=
  acting s (fun t => t.rfDone n.val bytes perr)

/-- FEND_CNT_CLR: FEND.CNT_CLR with CLR set (R342). -/
def execFendCntClr (src : Source) (v : Word) (s : State) : Host.Outcome State Fault Refusal :=
  acting s (fun t => t.busWrite src F.FEND_CNT_CLR_CLR.addr (fixBit v 0))

/-! ## Breakwater -/

/-- XCHK_CLR_WRITE (R353): a write of XCHK_CLR0 or XCHK_CLR1. -/
def execXchkClrWrite (src : Source) (half : Fin 2) (v : Word) (s : State) : Host.Outcome State Fault Refusal :=
  acting s (fun t => t.busWrite src (if half.val = 0 then F.BWTR_XCHK_CLR0_PATHS else F.BWTR_XCHK_CLR1_PATHS).addr v)

/-- BW_BLOCK_VERDICT (R351): the block of the next air instant. -/
def execBwBlockVerdict (s : State) : Host.Outcome State Fault Refusal := acting s (fun t => t.bwBlock t.nextTxK)

/-- BW_GRANULE_DECISION (R354). -/
def execBwGranuleDecision (s : State) : Host.Outcome State Fault Refusal := acting s State.bwGranuleNext

/-- COT_EXPIRY (R354). -/
def execCotExpiry (s : State) : Host.Outcome State Fault Refusal := acting s State.cotExpire

/-- LBT_QUERY (R355). -/
def execLbtQuery (s : State) : Host.Outcome State Fault Refusal := acting s State.lbtQuery

/-- BWTR_CNT_CLR: BWTR.CNT_CLR with CLR set (R357). -/
def execBwtrCntClr (src : Source) (v : Word) (s : State) : Host.Outcome State Fault Refusal :=
  acting s (fun t => t.busWrite src F.BWTR_CNT_CLR_CLR.addr (fixBit v 0))

end Sys2Proof.Machine
end

