-- ==== Sys2Proof/Machine/HoldCmds.lean ====
section
/-! DEFINITION. Meanings of the commands of Hold, Gauge, the deep channels and the replay engines (19_hold_and_gauge.md R375 to
R400). Channels 0 to 15, deep channels 0 to 3, engines 0 to 3. -/

namespace Sys2Proof.Machine

/-- HOLD_READ (R377): a read of a granule; `err` is what the memory returned: 0 good, 1 one wrong bit, 2 an uncorrectable
error. -/
def execHoldRead (granule : BitVec 28) (err : Fin 3) (s : State) : Host.Outcome State Fault Refusal :=
  acting s (fun t => t.holdRead granule.toNat err.val)

/-- SCRUB_READ (R378): the scrubber's next granule; `err` as HOLD_READ. -/
def execScrubRead (err : Fin 3) (s : State) : Host.Outcome State Fault Refusal := acting s (fun t => t.scrubRead err.val)

/-- REPAIR_FUSE_BURN (R379). -/
def execRepairFuseBurn (s : State) : Host.Outcome State Fault Refusal := acting s (fun t => t.repairBurn)

/-- HOLD_READY (R400). -/
def execHoldReady (s : State) : Host.Outcome State Fault Refusal := acting s (fun t => t.holdInit)

/-- HOLDC_CNT_CLR (R377): HOLDC.CNT_CLR with CLR set. -/
def execHoldcCntClr (src : Source) (v : Word) (s : State) : Host.Outcome State Fault Refusal :=
  acting s (fun t => t.busWrite src F.HOLDC_CNT_CLR_CLR.addr (fixBit v 0))

/-- A Cc_CMD word with GO set and OP fixed. -/
def gaugeCmdWord (v : Word) (op : Nat) : Word := fix (fixBit v 31) 0 2 op

/-- GAUGE_ARM (R384): Cc_CMD with GO and OP 1. -/
def execGaugeArm (src : Source) (c : Fin 16) (v : Word) (s : State) : Host.Outcome State Fault Refusal :=
  acting s (fun t => t.busWrite src (F.GAUGE_C_CMD_GO c.val).addr (gaugeCmdWord v 1))

/-- GAUGE_STOP (R391): Cc_CMD with GO and OP 2. -/
def execGaugeStop (src : Source) (c : Fin 16) (v : Word) (s : State) : Host.Outcome State Fault Refusal :=
  acting s (fun t => t.busWrite src (F.GAUGE_C_CMD_GO c.val).addr (gaugeCmdWord v 2))

/-- GAUGE_TRIG (R386): Cc_CMD with GO and OP 3. -/
def execGaugeTrig (src : Source) (c : Fin 16) (v : Word) (s : State) : Host.Outcome State Fault Refusal :=
  acting s (fun t => t.busWrite src (F.GAUGE_C_CMD_GO c.val).addr (gaugeCmdWord v 3))

/-- GAUGE_CMD_IGNORED (R386): Cc_CMD with GO and OP 0. -/
def execGaugeCmdIgnored (src : Source) (c : Fin 16) (v : Word) (s : State) : Host.Outcome State Fault Refusal :=
  acting s (fun t => t.busWrite src (F.GAUGE_C_CMD_GO c.val).addr (gaugeCmdWord v 0))

/-- GTRIG_EDGE (R386): an edge of GTRIG, `rise` a rising one. -/
def execGtrigEdge (rise : Bool) (s : State) : Host.Outcome State Fault Refusal := acting s (fun t => t.gtrigEdge rise)

/-- GAUGE_TRIGGER_DECIDE (R387). -/
def execGaugeTriggerDecide (c : Fin 16) (s : State) : Host.Outcome State Fault Refusal := acting s (fun t => t.gDecide c.val)

/-- GAUGE_SET_WRITE (R383): a set of 15 instants is written; `slack` is what meter 7 sees of Hold's queue. -/
def execGaugeSetWrite (c : Fin 16) (slack : BitVec 16) (s : State) : Host.Outcome State Fault Refusal :=
  acting s (fun t => (if t.meterActive 7 && t.setReady c.val && decide (t.gState c.val ≠ gIDLE ∧ t.gState c.val ≠ gSUSP) then
    t.meter 7 slack.toNat else t).gSetWrite c.val)

/-- GAUGE_SET_DROP (R390). -/
def execGaugeSetDrop (c : Fin 16) (s : State) : Host.Outcome State Fault Refusal := acting s (fun t => t.gSetDrop c.val)

/-- DEEP_HCLR (R395): DEEPd_CTL with HCLR set. -/
def execDeepHclr (src : Source) (d : Fin 4) (v : Word) (s : State) : Host.Outcome State Fault Refusal :=
  acting s (fun t => t.busWrite src (F.GAUGE_DEEP_CTL_HCLR d.val).addr (fixBit v 29))

/-- DEEP_MCLR (R396): DEEPd_CTL with MCLR set. -/
def execDeepMclr (src : Source) (d : Fin 4) (v : Word) (s : State) : Host.Outcome State Fault Refusal :=
  acting s (fun t => t.busWrite src (F.GAUGE_DEEP_CTL_MCLR d.val).addr (fixBit v 28))

/-- GAUGE_CNT_CLR (R385): GAUGE.CNT_CLR with CLR set. -/
def execGaugeCntClr (src : Source) (v : Word) (s : State) : Host.Outcome State Fault Refusal :=
  acting s (fun t => t.busWrite src F.GAUGE_CNT_CLR_CLR.addr (fixBit v 0))

/-- REPLAY_GO (R397): RPr_CTL with GO set. -/
def execReplayGo (src : Source) (r : Fin 4) (v : Word) (s : State) : Host.Outcome State Fault Refusal :=
  acting s (fun t => t.busWrite src (F.GAUGE_RP_CTL_GO r.val).addr (fixBit v 31))

/-- REPLAY_STOP (R398): RPr_CTL with STOP set. -/
def execReplayStop (src : Source) (r : Fin 4) (v : Word) (s : State) : Host.Outcome State Fault Refusal :=
  acting s (fun t => t.busWrite src (F.GAUGE_RP_CTL_GO r.val).addr (fixBit v 30))

/-- REPLAY_START (R397). -/
def execReplayStart (r : Fin 4) (s : State) : Host.Outcome State Fault Refusal := acting s (fun t => t.rpStart r.val)

/-- REPLAY_END (R398). -/
def execReplayEnd (r : Fin 4) (s : State) : Host.Outcome State Fault Refusal := acting s (fun t => t.rpFinish r.val)

end Sys2Proof.Machine
end

