-- ==== Sys2Proof/Machine/HostCmds.lean ====
section
/-! DEFINITION. Meanings of the transactions of the host SPI and of the plain accesses (24_register_map.md R468 to R476;
23_pilot_security_debug.md R450). -/

namespace Sys2Proof.Machine

/-- A word, most significant byte first. -/
def spiBytes (w : Nat) : List Byte := (leBytes 4 w).reverse

/-- The words of a burst, one access each, from address `a` up: what leaves on HSPI_MISO, and the state after. -/
def State.spiRead : Nat → State → Nat → List Byte × State
  | 0, s, _ => ([], s)
  | n + 1, s, a =>
    let (w, t) := s.busRead (.port 0) a
    let (l, u) := State.spiRead n t ((a + 4) % 2 ^ 40)
    (spiBytes w ++ l, u)

/-- The words written by a burst, one access each; a last part of a word is discarded. -/
def State.spiWrite : List Byte → State → Nat → State
  | b3 :: b2 :: b1 :: b0 :: rest, s, a =>
    State.spiWrite rest (s.busWrite (.port 0) a (BitVec.ofNat 32 (leNat [b0, b1, b2, b3]))) ((a + 4) % 2 ^ 40)
  | _, s, _ => s

/-- A host SPI transaction (R470): the command byte, the address, the bytes written and the words clocked out after `wait` bytes
of 0x00. An unknown command or an address not a multiple of 4 is ignored whole. -/
def State.spi (s : State) (cmd a : Nat) (data : List Byte) (wait n : Nat) : State :=
  if a % 4 ≠ 0 then s
  else if cmd = 0x02 then State.spiWrite data s a
  else if cmd = 0x0B then
    let (l, t) := State.spiRead n s a
    t.emit (.spi (List.replicate wait 0 ++ [0xA5] ++ l))
  else s

/-- SPI_READ (R470): `n` words, after `wait` bytes of 0x00. -/
def execSpiRead (addr : BitVec 40) (wait : Fin 128) (n : Nat) (s : State) : Host.Outcome State Fault Refusal :=
  acting s (fun t => t.spi 0x0B addr.toNat [] wait.val n)

/-- SPI_WRITE (R470): whole words. -/
def execSpiWrite (addr : BitVec 40) (words : List Word) (s : State) : Host.Outcome State Fault Refusal :=
  acting s (fun t => t.spi 0x02 addr.toNat (words.flatMap (fun w => spiBytes w.toNat)) 0 0)

/-- SPI_TRANSACTION_IGNORED (R470): any command byte, address and bytes; one that the device knows acts as itself. -/
def execSpiTransactionIgnored (cmd : Byte) (addr : BitVec 40) (data : List Byte) (s : State) : Host.Outcome State Fault Refusal :=
  acting s (fun t => t.spi cmd.toNat addr.toNat data 0 0)

/-- SPI_CS_ABORT (R470): a write whose bytes end part way through a word. -/
def execSpiCsAbort (addr : BitVec 40) (data : List Byte) (s : State) : Host.Outcome State Fault Refusal :=
  acting s (fun t => t.spi 0x02 addr.toNat data 0 0)

/-- REGISTER_WRITE (R450): a write of one word. -/
def execRegisterWrite (src : Source) (addr : BitVec 40) (v : Word) (s : State) : Host.Outcome State Fault Refusal :=
  acting s (fun t => t.busWrite src addr.toNat v)

/-- EVT_W1C_WRITE (R476): a write of a block's EVT register. -/
def execEvtW1cWrite (src : Source) (block : Fin 27) (v : Word) (s : State) : Host.Outcome State Fault Refusal :=
  acting s (fun t => t.busWrite src (evtAddr block.val) v)

/-- LO_HI_PAIR_READ (R474): a read of the low word at `addr`, or, with `hi`, of the high word that follows it. -/
def execLoHiPairRead (src : Source) (addr : BitVec 40) (hi : Bool) (s : State) : Host.Outcome State Fault Refusal :=
  acting s (fun t => (t.busRead src (addr.toNat + if hi then 4 else 0)).2)

end Sys2Proof.Machine
end

