-- ==== Sys2Proof/Machine/JtagCmds.lean ====
section
/-! DEFINITION. Meanings of the commands of the TAP (23_pilot_security_debug.md R461 to R463). `tdi` is what a scan shifts in. -/

namespace Sys2Proof.Machine

/-- TRST_N_ASSERT (R461); the level stands whether or not the device is powered. -/
def execTrstNAssert (s : State) : Host.Outcome State Fault Refusal := .next s.tapReset

/-- TRST_N_RELEASE (R461). -/
def execTrstNRelease (s : State) : Host.Outcome State Fault Refusal :=
  .next { s with pins := { s.pins with trstN := true } }

/-- JTAG_BYPASS (R461). -/
def execJtagBypass (tdi : List Bool) (s : State) : Host.Outcome State Fault Refusal :=
  acting s (fun t => t.tapNeed 0 tdi (fun u => u.tapBypass tdi))

/-- JTAG_IDCODE (R461). -/
def execJtagIdcode (tdi : List Bool) (s : State) : Host.Outcome State Fault Refusal :=
  acting s (fun t => t.tapNeed 0 tdi (fun u => u.tapIdcode tdi))

/-- JTAG_SAMPLE_PRELOAD (R461). -/
def execJtagSamplePreload (tdi : List Bool) (s : State) : Host.Outcome State Fault Refusal :=
  acting s (fun t => t.tapNeed 0 tdi (fun u => u.tapSample tdi))

/-- JTAG_EXTEST (R462). -/
def execJtagExtest (tdi : List Bool) (s : State) : Host.Outcome State Fault Refusal :=
  acting s (fun t => t.tapNeed 1 tdi (fun u => u.tapExtest tdi))

/-- JTAG_DBG_READ (R461): a read of the word at `addr`. -/
def execJtagDbgRead (addr : BitVec 40) (tdi : List Bool) (s : State) : Host.Outcome State Fault Refusal :=
  acting s (fun t => t.tapNeed 1 tdi (fun u => u.tapRead addr.toNat))

/-- JTAG_TRACE (R461): every event's code and stamp leaves from now until another instruction. -/
def execJtagTrace (tdi : List Bool) (s : State) : Host.Outcome State Fault Refusal :=
  acting s (fun t => t.tapNeed 1 tdi (fun u => u.tapTake 4))

/-- JTAG_DBG_WRITE (R461): a write of the word at `addr`. -/
def execJtagDbgWrite (addr : BitVec 40) (v : Word) (tdi : List Bool) (s : State) : Host.Outcome State Fault Refusal :=
  acting s (fun t => t.tapNeed 2 tdi (fun u => (u.tapTake 6).busWrite .jtag addr.toNat v))

/-- JTAG_PILOT_HALT (R461). -/
def execJtagPilotHalt (tdi : List Bool) (s : State) : Host.Outcome State Fault Refusal :=
  acting s (fun t => t.tapNeed 2 tdi (fun u => (u.tapTake 7).pilotHalt))

/-- JTAG_PILOT_STEP (R461): Pilot runs one firmware instruction and stands halted again; the spec gives no effect of a firmware
instruction (log entry 18). -/
def execJtagPilotStep (tdi : List Bool) (s : State) : Host.Outcome State Fault Refusal :=
  acting s (fun t => t.tapNeed 2 tdi (fun u => (u.tapTake 8).pilotHalt))

/-- JTAG_SCAN (R461). -/
def execJtagScan (tdi : List Bool) (s : State) : Host.Outcome State Fault Refusal :=
  acting s (fun t => t.tapNeed 2 tdi (fun u => u.tapScan tdi))

end Sys2Proof.Machine
end

