-- ==== Sys2Proof/Machine/LinkCmds.lean ====
section
/-! DEFINITION. Meanings of the commands of the lane layers (12_fronthaul_physical.md R241 to R262). Links: 0 brick A, 1 brick B, 2 ring
east, 3 ring west; lanes 0 to 7 data, 8 parity. -/

namespace Sys2Proof.Machine

/-! ## Training -/

/-- ALIGN_SET_RECEIVED (R245, R246, R249): the sets of a superframe by lane, and the skew of each lane in symbol times. -/
def execAlignSetReceived (l : Fin 4) (sets : List (List Byte)) (skew : List Nat) (s : State) : Host.Outcome State Fault Refusal :=
  acting s (fun t => t.linkAct (fun u => u.alignSet l.val sets skew))

/-- SIGNAL_DETECT (R248, table "training states"). -/
def execSignalDetect (l : Fin 4) (s : State) : Host.Outcome State Fault Refusal :=
  acting s (fun t => t.linkAct (fun u => u.signalDetect l.val))

/-- TRAIN_STATE_TIMEOUT (R250): the present training state's limit is over. -/
def execTrainStateTimeout (l : Fin 4) (s : State) : Host.Outcome State Fault Refusal :=
  acting s (fun t => t.linkAct (fun u => u.trainExpire l.val))

/-- TRAIN_TIMEOUT (R252). -/
def execTrainTimeout (l : Fin 4) (s : State) : Host.Outcome State Fault Refusal :=
  acting s (fun t => t.linkAct (fun u => u.trainTimeout l.val))

/-- RETRAIN_START (R259). -/
def execRetrainStart (l : Fin 4) (s : State) : Host.Outcome State Fault Refusal :=
  acting s (fun t => t.linkAct (fun u => u.retrainStart l.val))

/-- ALIGN_SET_MISSING (R259): a superframe without an accepted set. -/
def execAlignSetMissing (l : Fin 4) (s : State) : Host.Outcome State Fault Refusal :=
  acting s (fun t => t.linkAct (fun u => if stDESKEW ≤ u.linkState l.val ∧ u.linkState l.val ≤ stUP then u.alignMissing l.val else u))

/-! ## Columns, repair and loss -/

/-- DATA_COLUMN_RECEIVED (R247, R248): the byte of each lane, none for a code violation. -/
def execDataColumnReceived (l : Fin 4) (col : List (Option Byte)) (s : State) : Host.Outcome State Fault Refusal :=
  acting s (fun t => t.linkAct (fun u => u.dataColumn l.val col))

/-- LANE_SIGNAL_LOSS (R253). -/
def execLaneSignalLoss (l : Fin 4) (lane : Fin 9) (s : State) : Host.Outcome State Fault Refusal :=
  acting s (fun t => t.linkAct (fun u => u.laneLoss l.val lane.val))

/-- REQUAL_ATTEMPT_DONE (R254). -/
def execRequalAttemptDone (l : Fin 4) (lane : Fin 9) (ok : Bool) (s : State) : Host.Outcome State Fault Refusal :=
  acting s (fun t => t.linkAct (fun u => u.requalDone l.val lane.val ok))

/-- REMAP_STALLED (R255). -/
def execRemapStalled (l : Fin 4) (s : State) : Host.Outcome State Fault Refusal := acting s (fun t => t.remapStalled l.val)

/-- FWD_CLOCK_LOSS (R259). -/
def execFwdClockLoss (l : Fin 4) (s : State) : Host.Outcome State Fault Refusal :=
  acting s (fun t => t.linkAct (fun u => u.clockLoss l.val))

/-! ## Equaliser -/

/-- DFE_ADAPT (R244): the five sums of 256 decisions. -/
def execDfeAdapt (l : Fin 4) (lane : Fin 9) (d0 d1 d2 d3 d4 : BitVec 10) (s : State) : Host.Outcome State Fault Refusal :=
  acting s (fun t => t.dfeAdapt l.val lane.val [d0.toInt, d1.toInt, d2.toInt, d3.toInt, d4.toInt])

/-- CTLE_ADAPT (R244). -/
def execCtleAdapt (l : Fin 4) (lane : Fin 9) (s : State) : Host.Outcome State Fault Refusal := acting s (fun t => t.ctleAdapt l.val lane.val)

/-- EYE_MEASURE (R244): the eye of a lane. -/
def execEyeMeasure (l : Fin 4) (lane : Fin 9) (height width : BitVec 8) (s : State) : Host.Outcome State Fault Refusal :=
  acting s (fun t => t.eyeMeasure l.val lane.val height.toNat width.toNat)

/-! ## Register commands -/

/-- FHL_RETRAIN_A: FHL.CTL with RETRAIN_A set (R259). -/
def execFhlRetrainA (src : Source) (v : Word) (s : State) : Host.Outcome State Fault Refusal :=
  acting s (fun t => t.busWrite src F.FHL_CTL_RETRAIN_A.addr (fixBit v F.FHL_CTL_RETRAIN_A.lo))

/-- FHL_RETRAIN_B: FHL.CTL with RETRAIN_B set (R259). -/
def execFhlRetrainB (src : Source) (v : Word) (s : State) : Host.Outcome State Fault Refusal :=
  acting s (fun t => t.busWrite src F.FHL_CTL_RETRAIN_A.addr (fixBit v F.FHL_CTL_RETRAIN_B.lo))

/-- FHL_CNT_CLR: FHL.CNT_CLR with CLR set (R248). -/
def execFhlCntClr (src : Source) (v : Word) (s : State) : Host.Outcome State Fault Refusal :=
  acting s (fun t => t.busWrite src F.FHL_CNT_CLR_CLR.addr (fixBit v 0))

end Sys2Proof.Machine
end

