-- ==== Sys2Proof/Machine/LookCmds.lean ====
section
/-! DEFINITION. Meanings of the commands of Lookout and the coexistence wires (16_lookout_and_coexistence.md R317 to R335). A beam `b`,
a subchannel `c` and watcher `w` (0 or 1) name a preamble watcher; strengths are in 0.01 dBm at one antenna port. -/

namespace Sys2Proof.Machine

/-! ## Wires -/

/-- COEX_ACT_RISE (R332). -/
def execCoexActRise (s : State) : Host.Outcome State Fault Refusal := acting s State.actRise

/-- COEX_ACT_FALL (R332). -/
def execCoexActFall (s : State) : Host.Outcome State Fault Refusal := acting s State.actFall

/-! ## Sensing -/

/-- ED_BIN_END (R322): what the bin showed for each beam and subchannel sensed: its sensed samples, their power, over-range,
and the first blind sample. -/
def execEdBinEnd (l : List (Fin 16 × Fin 20 × Fin 81 × Int × Bool × Fin 81)) (s : State) : Host.Outcome State Fault Refusal :=
  acting s (fun t => t.edBin (l.map (fun e =>
    { beam := e.1.val, sch := e.2.1.val, sensed := e.2.2.1.val, power := e.2.2.2.1, ovr := e.2.2.2.2.1, blind := e.2.2.2.2.2.val })))

/-- STF_DETECT (R323) at the present instant; a detection on a selected beam and subchannel is a Gauge trigger event
(19_hold_and_gauge.md R386). -/
def execStfDetect (b : Fin 16) (c : Fin 20) (w : Fin 2) (pd : Int) (s : State) : Host.Outcome State Fault Refusal :=
  acting s (fun t =>
    let u := t.stfDetect b.val c.val w.val pd
    if u.look = t.look then u
    else if bitAt (u.get F.GAUGE_LOOK_BEAMS_BEAMS) b.val && bitAt (u.get F.GAUGE_LOOK_SCH_SCH) c.val then u.gaugeEvent 2 u.tide.now
    else u)

/-- LTF_SYNC (R324). -/
def execLtfSync (b : Fin 16) (c : Fin 20) (w : Fin 2) (p : Int) (s : State) : Host.Outcome State Fault Refusal :=
  acting s (fun t => t.ltfSync b.val c.val w.val p)

/-- LTF_TIMEOUT (R324). -/
def execLtfTimeout (b : Fin 16) (c : Fin 20) (w : Fin 2) (s : State) : Host.Outcome State Fault Refusal :=
  acting s (fun t => t.ltfTimeout b.val c.val w.val)

/-- LSIG_DECODE (R325): the 24 bits of the L-SIG symbol, the first transmitted in bit 0. -/
def execLsigDecode (b : Fin 16) (c : Fin 20) (w : Fin 2) (sig : BitVec 24) (s : State) : Host.Outcome State Fault Refusal :=
  acting s (fun t => t.lsigDecode b.val c.val w.val sig.toNat)

/-- WATCHER_BUSY_END (R326). -/
def execWatcherBusyEnd (b : Fin 16) (c : Fin 20) (w : Fin 2) (s : State) : Host.Outcome State Fault Refusal :=
  acting s (fun t => t.watcherEnd b.val c.val w.val)

/-! ## Registers -/

/-- LOOK_CTL_WRITE (R317): a write of LOOK.CTL. -/
def execLookCtlWrite (src : Source) (v : Word) (s : State) : Host.Outcome State Fault Refusal :=
  acting s (fun t => t.busWrite src F.LOOK_CTL_EN.addr v)

/-- The words that are locked while EN = 1 (R320): SBk (0 to 3), SCHs (4 to 23), BEAMV of beam (i - 24) / 64, path (i - 24) % 64. -/
def lookCfgAddr (i : Nat) : Nat :=
  if i < 4 then (F.LOOK_SB_FREQ i).addr
  else if i < 24 then (F.LOOK_SCH_FREQ (i - 4)).addr
  else (F.LOOK_BEAMV_RE ((i - 24) / 64) ((i - 24) % 64)).addr

/-- LOOK_CFG_WRITE (R320): a write of locked word `i`. -/
def execLookCfgWrite (src : Source) (i : Fin 1048) (v : Word) (s : State) : Host.Outcome State Fault Refusal :=
  acting s (fun t => t.busWrite src (lookCfgAddr i.val) v)

/-- LOOK_CNT_CLR: LOOK.CNT_CLR with CLR set (R322). -/
def execLookCntClr (src : Source) (v : Word) (s : State) : Host.Outcome State Fault Refusal :=
  acting s (fun t => t.busWrite src F.LOOK_CNT_CLR_CLR.addr (fixBit v 0))

end Sys2Proof.Machine
end

