-- ==== Sys2Proof/Machine/MessageCmds.lean ====
section
/-! DEFINITION. Meanings of the commands of the message layer (13_fronthaul_messages.md R263 to R281; 20_crane.md R414). `via` names
where a message came from: brick A (0), brick B (1), the ring (2). -/

namespace Sys2Proof.Machine

/-! ## Frames and sections -/

/-- LINK_FRAME_RX (R265): a frame from its SOF to its CRC; `bad`, `idle`, `fill` and `other` as `State.linkFrame` has them. -/
def execLinkFrameRx (l : Fin 4) (f : List Byte) (bad idle : Bool) (fill other : Fin 16385) (s : State) :
    Host.Outcome State Fault Refusal :=
  acting s (fun t => t.linkAct (fun u => u.linkFrame l.val f bad idle fill.val other.val))

/-- TX_SECTION_RX (R273): the payload of an IQ message. -/
def execTxSectionRx (b : Fin 2) (payload : List Byte) (s : State) : Host.Outcome State Fault Refusal :=
  acting s (fun t => t.txSection b.val payload)

/-- RX_SECTION_FORM (R271): the section of a stream is complete; `slack` the egress slack in ns. -/
def execRxSectionForm (m : Fin 32) (slack : BitVec 16) (s : State) : Host.Outcome State Fault Refusal :=
  acting s (fun t => (if t.meterActive 4 then t.meter 4 slack.toNat else t).sectionForm m.val)

/-- RXS_CFG_WRITE (R269): a write of FHM.RXSm_CFG. -/
def execRxsCfgWrite (src : Source) (m : Fin 32) (v : Word) (s : State) : Host.Outcome State Fault Refusal :=
  acting s (fun t => t.busWrite src (0xC0100 + 4 * m.val) v)

/-! ## Control commands (R275, R276) -/

/-- RTC_BERTH_ADD. -/
def execRtcBerthAdd (via : Fin 3) (flags : Byte) (seq : BitVec 16) (body : List Byte) (s : State) : Host.Outcome State Fault Refusal :=
  acting s (fun t => t.rtcFrom via.val 0x01 flags.toNat seq.toNat body)

/-- RTC_BERTH_CANCEL. -/
def execRtcBerthCancel (via : Fin 3) (flags : Byte) (seq : BitVec 16) (body : List Byte) (s : State) : Host.Outcome State Fault Refusal :=
  acting s (fun t => t.rtcFrom via.val 0x02 flags.toNat seq.toNat body)

/-- RTC_BERTH_FLUSH. -/
def execRtcBerthFlush (via : Fin 3) (flags : Byte) (seq : BitVec 16) (body : List Byte) (s : State) : Host.Outcome State Fault Refusal :=
  acting s (fun t => t.rtcFrom via.val 0x03 flags.toNat seq.toNat body)

/-- RTC_GAP_GRANT. -/
def execRtcGapGrant (via : Fin 3) (flags : Byte) (seq : BitVec 16) (body : List Byte) (s : State) : Host.Outcome State Fault Refusal :=
  acting s (fun t => t.rtcFrom via.val 0x10 flags.toNat seq.toNat body)

/-- RTC_GAP_REVOKE. -/
def execRtcGapRevoke (via : Fin 3) (flags : Byte) (seq : BitVec 16) (body : List Byte) (s : State) : Host.Outcome State Fault Refusal :=
  acting s (fun t => t.rtcFrom via.val 0x11 flags.toNat seq.toNat body)

/-- RTC_NCO_RETUNE. -/
def execRtcNcoRetune (via : Fin 3) (flags : Byte) (seq : BitVec 16) (body : List Byte) (s : State) : Host.Outcome State Fault Refusal :=
  acting s (fun t => t.rtcFrom via.val 0x20 flags.toNat seq.toNat body)

/-- RTC_SYN_RETUNE. -/
def execRtcSynRetune (via : Fin 3) (flags : Byte) (seq : BitVec 16) (body : List Byte) (s : State) : Host.Outcome State Fault Refusal :=
  acting s (fun t => t.rtcFrom via.val 0x21 flags.toNat seq.toNat body)

/-- RTC_UNKNOWN: any command code as received; one of the table's codes has the table's effect. -/
def execRtcUnknown (via : Fin 3) (cmd flags : Byte) (seq : BitVec 16) (body : List Byte) (s : State) : Host.Outcome State Fault Refusal :=
  acting s (fun t => t.rtcFrom via.val cmd.toNat flags.toNat seq.toNat body)

/-- GAP_BEGIN (R276). -/
def execGapBegin (s : State) : Host.Outcome State Fault Refusal := acting s (fun t => t.gapBegin.xcalTry)

/-- GAP_END (R276). -/
def execGapEnd (s : State) : Host.Outcome State Fault Refusal := acting s State.gapEnd

/-! ## Remote memory access, reset, event messages -/

/-- RMA_READ (R277): ID, element, address and length of a read request. -/
def execRmaRead (via : Fin 3) (id : Byte) (elem : BitVec 16) (addr : BitVec 48) (len : BitVec 16) (s : State) :
    Host.Outcome State Fault Refusal :=
  acting s (fun t => t.rma via.val 0 id.toNat elem.toNat addr.toNat len.toNat [])

/-- RMA_WRITE (R277): a write request and its data. -/
def execRmaWrite (via : Fin 3) (id : Byte) (elem : BitVec 16) (addr : BitVec 48) (data : List Byte) (s : State) :
    Host.Outcome State Fault Refusal :=
  acting s (fun t => t.rma via.val 1 id.toNat elem.toNat addr.toNat data.length data)

/-- RMA_WRITE_NO_RESP (R277). -/
def execRmaWriteNoResp (via : Fin 3) (id : Byte) (elem : BitVec 16) (addr : BitVec 48) (data : List Byte) (s : State) :
    Host.Outcome State Fault Refusal :=
  acting s (fun t => t.rma via.val 2 id.toNat elem.toNat addr.toNat data.length data)

/-- RMA_RESPONSE_RX (20_crane.md R414): an answer to a remote write, a response or a failure. -/
def execRmaResponseRx (b : Fin 2) (id : Byte) (ok : Bool) (s : State) : Host.Outcome State Fault Refusal :=
  acting s (fun t => if t.linkUp b.val then t.remoteAnswer b.val id.toNat ok else t)

/-- RESET_REQUEST (R278): Reset ID, Reset Code Op and the first payload byte after them. -/
def execResetRequest (b : Fin 2) (id : BitVec 16) (op p0 : Byte) (s : State) : Host.Outcome State Fault Refusal :=
  acting s (fun t => t.resetRequest b.val id.toNat op.toNat p0.toNat)

/-- EVENT_MSG_SEND (R279). -/
def execEventMsgSend (s : State) : Host.Outcome State Fault Refusal := acting s State.eventSend

/-- FHM_CTL_WRITE (R279): a write of FHM.CTL. -/
def execFhmCtlWrite (src : Source) (v : Word) (s : State) : Host.Outcome State Fault Refusal :=
  acting s (fun t => t.busWrite src F.FHM_CTL_EVT_EN.addr v)

/-- FHM_CNT_CLR: FHM.CNT_CLR with CLR set (R273). -/
def execFhmCntClr (src : Source) (v : Word) (s : State) : Host.Outcome State Fault Refusal :=
  acting s (fun t => t.busWrite src F.FHM_CNT_CLR_CLR.addr (fixBit v 0))

end Sys2Proof.Machine
end

