-- ==== Sys2Proof/Machine/MonCmds.lean ====
section
/-! DEFINITION. Meanings of the commands of the monitor converters (18_monitor_converters.md R359 to R374). Banks 0 to 3. -/

namespace Sys2Proof.Machine

/-- MON_PASS_START (R365): a continuous bank's next pass. -/
def execMonPassStart (b : Fin 4) (s : State) : Host.Outcome State Fault Refusal := acting s (fun t => t.passNext b.val)

/-- MON_GO (R365): MONb.CTL with GO set. -/
def execMonGo (src : Source) (b : Fin 4) (v : Word) (s : State) : Host.Outcome State Fault Refusal :=
  acting s (fun t => t.busWrite src (F.MON_CTL_GO b.val).addr (fixBit v (F.MON_CTL_GO b.val).lo))

/-- MON_CTL_WRITE (R373): a write of MONb.CTL. -/
def execMonCtlWrite (src : Source) (b : Fin 4) (v : Word) (s : State) : Host.Outcome State Fault Refusal :=
  acting s (fun t => t.busWrite src (F.MON_CTL_GO b.val).addr v)

/-- MON_SEQ_WRITE (R373): a write of entry `i` of the sequence (0 to 31) or the injected group (32 to 35). -/
def execMonSeqWrite (src : Source) (b : Fin 4) (i : Fin 36) (v : Word) (s : State) : Host.Outcome State Fault Refusal :=
  acting s (fun t => t.busWrite src (monEntry b.val i.val) v)

/-- MON_RESULT_WRITE (R362): the conversions of the entry in progress: codes, and 1 or 2 where the low or the high comparator
tripped. -/
def execMonResultWrite (b : Fin 4) (raws : List (Int × Fin 3)) (s : State) : Host.Outcome State Fault Refusal :=
  acting s (fun t => t.monResultWrite b.val (raws.map (fun e => (e.1, e.2.val))))

/-- MON_INJ_GO (R366): INJ_CTL with GO set. -/
def execMonInjGo (src : Source) (b : Fin 4) (v : Word) (s : State) : Host.Outcome State Fault Refusal :=
  acting s (fun t => t.busWrite src (F.MON_INJ_CTL_GO b.val).addr (fixBit v 31))

/-- MON_INJ_TRIGGER (R366). -/
def execMonInjTrigger (b : Fin 4) (s : State) : Host.Outcome State Fault Refusal := acting s (fun t => t.injFire b.val)

/-- MON_INJ_START (R367). -/
def execMonInjStart (b : Fin 4) (s : State) : Host.Outcome State Fault Refusal := acting s (fun t => t.injStart b.val)

/-- MON_INJ_CTL_WRITE (R373): a write of INJ_CTL, INJ_AT_LO or INJ_AT_HI (`i` = 0, 1, 2). -/
def execMonInjCtlWrite (src : Source) (b : Fin 4) (i : Fin 3) (v : Word) (s : State) : Host.Outcome State Fault Refusal :=
  acting s (fun t => t.busWrite src ((F.MON_INJ_CTL_GO b.val).addr + 4 * i.val) v)

/-- MON_CAL_GO (R372): CAL_CTL with GO set. -/
def execMonCalGo (src : Source) (b : Fin 4) (v : Word) (s : State) : Host.Outcome State Fault Refusal :=
  acting s (fun t => t.busWrite src (F.MON_CAL_CTL_GO b.val).addr (fixBit v 0))

/-- MON_CAL_START (R372). -/
def execMonCalStart (b : Fin 4) (s : State) : Host.Outcome State Fault Refusal := acting s (fun t => t.monCalStart b.val)

/-- MON_CAL_DONE (R371): the offset and gain found. -/
def execMonCalDone (b : Fin 4) (ofs gain : BitVec 16) (s : State) : Host.Outcome State Fault Refusal :=
  acting s (fun t => t.monCalDone b.val ofs.toInt gain.toNat)

/-- MONITOR_RESULT_READ (R370): a read of result `i` of a bank. -/
def execMonitorResultRead (src : Source) (b : Fin 4) (i : Fin 36) (s : State) : Host.Outcome State Fault Refusal :=
  acting s (fun t => (t.busRead src (monResult b.val i.val)).2)

/-- MON_CNT_CLR: MON.CNT_CLR with CLR set (R363). -/
def execMonCntClr (src : Source) (v : Word) (s : State) : Host.Outcome State Fault Refusal :=
  acting s (fun t => t.busWrite src F.MON_CNT_CLR_CLR.addr (fixBit v 0))

end Sys2Proof.Machine
end

