-- ==== Sys2Proof/Machine/PilotCmds.lean ====
section
/-! DEFINITION. Meanings of the commands of Pilot, the mailboxes, sessions, locks, fuses and debug requests
(23_pilot_security_debug.md R448 to R467; 22_reserve.md R439; 17_front_end_control_and_breakwater.md R346). Ports 0 to 3. -/

namespace Sys2Proof.Machine

/-- PILOT_POLICY_ACTION (R439): Pilot acts on the signal of a policy row for a unit; `again` where the wait or the first attempt
that the row asks for lies behind. -/
def execPilotPolicyAction (row : Fin 14) (unit : Byte) (again : Bool) (s : State) : Host.Outcome State Fault Refusal :=
  acting s (fun t => t.pilotAct row.val unit.toNat again)

/-- TUNER_STEER_TICK (R346): the tick of a path: tuner register `m`, its present code and the direction of the trial. -/
def execTunerSteerTick (p : Fin 64) (m : Fin 32) (code : Byte) (up : Bool) (s : State) : Host.Outcome State Fault Refusal :=
  acting s (fun t => t.steer p.val m.val code.toNat up)

/-- A Pp_REQ word whose command bits are `bits` (bit 2 GO, 1 VERIFY, 0 CLOSE). -/
def sesWord (v : Word) (bits : Nat) : Word := fix v 29 3 bits

/-- SESSION_GO (R452): Pp_REQ with GO alone. -/
def execSessionGo (src : Source) (p : Fin 4) (v : Word) (s : State) : Host.Outcome State Fault Refusal :=
  acting s (fun t => t.busWrite src (F.SEC_P_REQ_GO p.val).addr (sesWord v 4))

/-- SESSION_VERIFY (R452): Pp_REQ with VERIFY alone. -/
def execSessionVerify (src : Source) (p : Fin 4) (v : Word) (s : State) : Host.Outcome State Fault Refusal :=
  acting s (fun t => t.busWrite src (F.SEC_P_REQ_GO p.val).addr (sesWord v 2))

/-- SESSION_CLOSE (R453): Pp_REQ with CLOSE alone. -/
def execSessionClose (src : Source) (p : Fin 4) (v : Word) (s : State) : Host.Outcome State Fault Refusal :=
  acting s (fun t => t.busWrite src (F.SEC_P_REQ_GO p.val).addr (sesWord v 1))

/-- The sets of more than one command bit. -/
def multiBits (k : Fin 4) : Nat := nth 7 [3, 5, 6, 7] k.val

/-- SESSION_REQ_MULTI (R452): Pp_REQ with more than one command bit: VERIFY and CLOSE, GO and CLOSE, GO and VERIFY, or all. -/
def execSessionReqMulti (src : Source) (p : Fin 4) (k : Fin 4) (v : Word) (s : State) : Host.Outcome State Fault Refusal :=
  acting s (fun t => t.busWrite src (F.SEC_P_REQ_GO p.val).addr (sesWord v (multiBits k)))

/-- SESSION_TIMEOUT (R453). -/
def execSessionTimeout (p : Fin 4) (s : State) : Host.Outcome State Fault Refusal := acting s (fun t => t.sesTimeout p.val)

/-- LOCK_EXPIRY (R455). -/
def execLockExpiry (p : Fin 4) (s : State) : Host.Outcome State Fault Refusal := acting s (fun t => t.lockExpire p.val)

/-- LOCK_CLR (R455): a write of SEC.LOCK_CLR. -/
def execLockClr (src : Source) (v : Word) (s : State) : Host.Outcome State Fault Refusal :=
  acting s (fun t => t.busWrite src F.SEC_LOCK_CLR_PORTS.addr v)

/-- ZEROISE (R465): SEC.CTL with ZEROISE set. -/
def execZeroise (src : Source) (v : Word) (s : State) : Host.Outcome State Fault Refusal :=
  acting s (fun t => t.busWrite src F.SEC_CTL_ZEROISE.addr (fixBit v 31))

/-- FUSE_PROGRAM (R466): SEC.FUSE_CMD with GO set. -/
def execFuseProgram (src : Source) (v : Word) (s : State) : Host.Outcome State Fault Refusal :=
  acting s (fun t => t.busWrite src F.SEC_FUSE_CMD_GO.addr (fixBit v 31))

/-- FUSE_PROG (R466): the burn completes; `ok` where the field read back is the value. -/
def execFuseProg (ok : Bool) (s : State) : Host.Outcome State Fault Refusal := acting s (fun t => t.fuseDone ok)

/-- PILOT_READY (R456). -/
def execPilotReady (s : State) : Host.Outcome State Fault Refusal := acting s (fun t => t.pilotReady)

/-- PILOT_WATCHDOG_EXPIRY (R457). -/
def execPilotWatchdogExpiry (s : State) : Host.Outcome State Fault Refusal := acting s (fun t => t.pilotWatchdog)

/-- The MBp_CMD word that sends operation `opc` with TAG `tag`. -/
def mailWord (opc tag : Nat) : Word := fix (fix (fixBit 0 31) 16 8 opc) 0 8 tag

/-- A mailbox command: its ARG words, in order from ARG0, are written by the source, then MBp_CMD (R458). -/
def State.mailSend (s : State) (src : Source) (p opc tag : Nat) (args : List Word) : State :=
  ((args.take 16).zipIdx.foldl (fun t e => t.busWrite src (0x180040 + 0x200 * p + 4 * e.2) e.1) s).busWrite src
    (F.PILOT_MB_CMD_GO p).addr (mailWord opc tag)

/-- MBX_VERSION (R458): OPC 0x01. -/
def execMbxVersion (src : Source) (p : Fin 4) (tag : Byte) (args : List Word) (s : State) : Host.Outcome State Fault Refusal :=
  acting s (fun t => t.mailSend src p.val 0x01 tag.toNat args)

/-- MBX_HEALTH (R458): OPC 0x02. -/
def execMbxHealth (src : Source) (p : Fin 4) (tag : Byte) (args : List Word) (s : State) : Host.Outcome State Fault Refusal :=
  acting s (fun t => t.mailSend src p.val 0x02 tag.toNat args)

/-- MBX_TELEM_SET (R458): OPC 0x03. -/
def execMbxTelemSet (src : Source) (p : Fin 4) (tag : Byte) (args : List Word) (s : State) : Host.Outcome State Fault Refusal :=
  acting s (fun t => t.mailSend src p.val 0x03 tag.toNat args)

/-- MBX_LOG_FIND (R458): OPC 0x04. -/
def execMbxLogFind (src : Source) (p : Fin 4) (tag : Byte) (args : List Word) (s : State) : Host.Outcome State Fault Refusal :=
  acting s (fun t => t.mailSend src p.val 0x04 tag.toNat args)

/-- MBX_TUNE (R458): OPC 0x10. -/
def execMbxTune (src : Source) (p : Fin 4) (tag : Byte) (args : List Word) (s : State) : Host.Outcome State Fault Refusal :=
  acting s (fun t => t.mailSend src p.val 0x10 tag.toNat args)

/-- MBX_CAL_POLICY (R458): OPC 0x11. -/
def execMbxCalPolicy (src : Source) (p : Fin 4) (tag : Byte) (args : List Word) (s : State) : Host.Outcome State Fault Refusal :=
  acting s (fun t => t.mailSend src p.val 0x11 tag.toNat args)

/-- MBX_POLICY (R458): OPC 0x20. -/
def execMbxPolicy (src : Source) (p : Fin 4) (tag : Byte) (args : List Word) (s : State) : Host.Outcome State Fault Refusal :=
  acting s (fun t => t.mailSend src p.val 0x20 tag.toNat args)

/-- MBX_RETIRE (R458): OPC 0x21. -/
def execMbxRetire (src : Source) (p : Fin 4) (tag : Byte) (args : List Word) (s : State) : Host.Outcome State Fault Refusal :=
  acting s (fun t => t.mailSend src p.val 0x21 tag.toNat args)

/-- MBX_RESTORE (R458): OPC 0x22. -/
def execMbxRestore (src : Source) (p : Fin 4) (tag : Byte) (args : List Word) (s : State) : Host.Outcome State Fault Refusal :=
  acting s (fun t => t.mailSend src p.val 0x22 tag.toNat args)

/-- MBX_RESOLVE (R458): OPC 0x23. -/
def execMbxResolve (src : Source) (p : Fin 4) (tag : Byte) (args : List Word) (s : State) : Host.Outcome State Fault Refusal :=
  acting s (fun t => t.mailSend src p.val 0x23 tag.toNat args)

/-- MBX_SLIPWAY (R458): OPC 0x30. -/
def execMbxSlipway (src : Source) (p : Fin 4) (tag : Byte) (args : List Word) (s : State) : Host.Outcome State Fault Refusal :=
  acting s (fun t => t.mailSend src p.val 0x30 tag.toNat args)

/-- MBX_PILOT_RESET (R458): OPC 0x3F. -/
def execMbxPilotReset (src : Source) (p : Fin 4) (tag : Byte) (args : List Word) (s : State) : Host.Outcome State Fault Refusal :=
  acting s (fun t => t.mailSend src p.val 0x3F tag.toNat args)

/-- MBX_UNKNOWN (R458): an OPC of the sender's, unknown or above its level; a known one that its level permits acts as that
command. -/
def execMbxUnknown (src : Source) (p : Fin 4) (opc tag : Byte) (args : List Word) (s : State) : Host.Outcome State Fault Refusal :=
  acting s (fun t => t.mailSend src p.val opc.toNat tag.toNat args)

/-- MBX_RESPONSE_COMPLETE (R459): Pilot's response to port `p`. `fail` names the flash operation of a SLIPWAY update (0 OPEN,
i + 1 the WRITE of sector i, last the CLOSE) that the flash does not carry out, and its RESULT; none where all do. -/
def execMbxResponseComplete (p : Fin 4) (fail : Option (BitVec 14 × Fin 8)) (s : State) : Host.Outcome State Fault Refusal :=
  acting s (fun t => t.mailDone p.val (fail.map (fun e => (e.1.toNat, e.2.val))))

/-- TELEM_SNAPSHOT (R460). -/
def execTelemSnapshot (s : State) : Host.Outcome State Fault Refusal := acting s (fun t => t.telemetry)

/-- DBG_REQ_OFF (R461): SEC.DBG with REQ 0. -/
def execDbgReqOff (src : Source) (v : Word) (s : State) : Host.Outcome State Fault Refusal :=
  acting s (fun t => t.busWrite src F.SEC_DBG_REQ.addr (fix v 0 2 0))

/-- DBG_REQ_OBSERVE (R461): SEC.DBG with REQ 1. -/
def execDbgReqObserve (src : Source) (v : Word) (s : State) : Host.Outcome State Fault Refusal :=
  acting s (fun t => t.busWrite src F.SEC_DBG_REQ.addr (fix v 0 2 1))

/-- DBG_REQ_INTRUSIVE (R463): SEC.DBG with REQ 2. -/
def execDbgReqIntrusive (src : Source) (v : Word) (s : State) : Host.Outcome State Fault Refusal :=
  acting s (fun t => t.busWrite src F.SEC_DBG_REQ.addr (fix v 0 2 2))

/-- DBG_INTRUSIVE_ENTER (R463). -/
def execDbgIntrusiveEnter (s : State) : Host.Outcome State Fault Refusal := acting s (fun t => t.dbgEnter)

end Sys2Proof.Machine
end

