-- ==== Sys2Proof/Machine/PowerCmds.lean ====
section
/-! DEFINITION. Meanings of the commands of the power states, AVS and the surge budget (03_power_and_states.md R52 to R62). -/

namespace Sys2Proof.Machine

/-- A write of PWR.STATE_REQ. -/
def reqWrite (src : Source) (v : Word) (code : Nat) (s : State) : State := s.busWrite src F.PWR_STATE_REQ_REQ.addr (fix v 0 3 code)

/-- STATE_REQ_DRY_DOCK (R52). -/
def execStateReqDryDock (src : Source) (v : Word) (s : State) : Host.Outcome State Fault Refusal := acting s (reqWrite src v 1)

/-- STATE_REQ_DOZE (R52): BRICK in [4] of the word. -/
def execStateReqDoze (src : Source) (v : Word) (s : State) : Host.Outcome State Fault Refusal := acting s (reqWrite src v 2)

/-- STATE_REQ_QUIET (R52). -/
def execStateReqQuiet (src : Source) (v : Word) (s : State) : Host.Outcome State Fault Refusal := acting s (reqWrite src v 3)

/-- STATE_REQ_RUN (R52). -/
def execStateReqRun (src : Source) (v : Word) (s : State) : Host.Outcome State Fault Refusal := acting s (reqWrite src v 4)

/-- STATE_REQ_RESERVED (R52): REQ 0 or 5 to 7; any other REQ of the word stands for 0. -/
def execStateReqReserved (src : Source) (v : Word) (s : State) : Host.Outcome State Fault Refusal :=
  acting s (reqWrite src v (if 5 ≤ v.toNat % 8 then v.toNat % 8 else 0))

/-- STATE_TRANSITION_COMPLETE (R52). -/
def execStateTransitionComplete (s : State) : Host.Outcome State Fault Refusal := acting s State.transComplete

/-- RUN_OFF_WRITE (R56). -/
def execRunOffWrite (src : Source) (v : Word) (s : State) : Host.Outcome State Fault Refusal :=
  acting s (fun t => t.busWrite src F.PWR_RUN_OFF_FHA.addr v)

/-- AVS_UPDATE (R57): slacks of drift meters and paces of clusters as measured, by index. -/
def execAvsUpdate (slacks : List (Fin 8 × BitVec 16)) (paces : List (Fin 4 × BitVec 16)) (s : State) :
    Host.Outcome State Fault Refusal :=
  acting s (fun t => t.avsUpdate (slacks.map (fun e => (e.1.val, e.2.toNat))) (paces.map (fun e => (e.1.val, e.2.toNat))))

/-- AVS_TRANSACTION_DONE (R59): the regulator answered; its status shows a warning. -/
def execAvsTransactionDone (answered warning : Bool) (s : State) : Host.Outcome State Fault Refusal :=
  acting s (fun t => t.avsDone answered warning)

/-- AVS_CEILING (R58). -/
def execAvsCeiling (s : State) : Host.Outcome State Fault Refusal := acting s State.avsCeiling

/-- AVS_CEIL_CLEAR (R58). -/
def execAvsCeilClear (s : State) : Host.Outcome State Fault Refusal := acting s State.avsCeilClear

/-- POWER_ESTIMATE (R61): the estimate in mW. -/
def execPowerEstimate (mw : BitVec 20) (s : State) : Host.Outcome State Fault Refusal := acting s (fun t => t.powerEstimate mw.toNat)

end Sys2Proof.Machine
end

