-- ==== Sys2Proof/Machine/QuayCmds.lean ====
section
/-! DEFINITION. Meanings of the commands of the Quay: the bundles of a core's program, one command per opcode, and the clusters'
commands (10_quay_array.md R198 to R220). A bundle's command names the core; its fields stand in the core's instruction memory. -/

namespace Sys2Proof.Machine

/-! ## Bundles: core `q` of 96 takes the bundle at its PC -/

/-- NOP (R204). -/
def execNop (q : Fin 96) (s : State) : Host.Outcome State Fault Refusal := acting s (fun t => t.coreStep q.val 0x00)

/-- MAC (R205). -/
def execMac (q : Fin 96) (s : State) : Host.Outcome State Fault Refusal := acting s (fun t => t.coreStep q.val 0x01)

/-- MACC (R205). -/
def execMacc (q : Fin 96) (s : State) : Host.Outcome State Fault Refusal := acting s (fun t => t.coreStep q.val 0x02)

/-- MSU (R205). -/
def execMsu (q : Fin 96) (s : State) : Host.Outcome State Fault Refusal := acting s (fun t => t.coreStep q.val 0x03)

/-- MUL (R205). -/
def execMul (q : Fin 96) (s : State) : Host.Outcome State Fault Refusal := acting s (fun t => t.coreStep q.val 0x04)

/-- MULC (R205). -/
def execMulc (q : Fin 96) (s : State) : Host.Outcome State Fault Refusal := acting s (fun t => t.coreStep q.val 0x05)

/-- MAG2 (R205). -/
def execMag2 (q : Fin 96) (s : State) : Host.Outcome State Fault Refusal := acting s (fun t => t.coreStep q.val 0x06)

/-- ADDA (R205). -/
def execAdda (q : Fin 96) (s : State) : Host.Outcome State Fault Refusal := acting s (fun t => t.coreStep q.val 0x07)

/-- ZERO (R205). -/
def execZero (q : Fin 96) (s : State) : Host.Outcome State Fault Refusal := acting s (fun t => t.coreStep q.val 0x08)

/-- SHRA (R205). -/
def execShra (q : Fin 96) (s : State) : Host.Outcome State Fault Refusal := acting s (fun t => t.coreStep q.val 0x09)

/-- NR (R205). -/
def execNr (q : Fin 96) (s : State) : Host.Outcome State Fault Refusal := acting s (fun t => t.coreStep q.val 0x10)

/-- NRC (R205). -/
def execNrc (q : Fin 96) (s : State) : Host.Outcome State Fault Refusal := acting s (fun t => t.coreStep q.val 0x11)

/-- NRO (R205). -/
def execNro (q : Fin 96) (s : State) : Host.Outcome State Fault Refusal := acting s (fun t => t.coreStep q.val 0x12)

/-- ADD (R205). -/
def execAdd (q : Fin 96) (s : State) : Host.Outcome State Fault Refusal := acting s (fun t => t.coreStep q.val 0x18)

/-- SUB (R205). -/
def execSub (q : Fin 96) (s : State) : Host.Outcome State Fault Refusal := acting s (fun t => t.coreStep q.val 0x19)

/-- CMUL (R205). -/
def execCmul (q : Fin 96) (s : State) : Host.Outcome State Fault Refusal := acting s (fun t => t.coreStep q.val 0x1A)

/-- CONJ (R205). -/
def execConj (q : Fin 96) (s : State) : Host.Outcome State Fault Refusal := acting s (fun t => t.coreStep q.val 0x1B)

/-- NEG (R205). -/
def execNeg (q : Fin 96) (s : State) : Host.Outcome State Fault Refusal := acting s (fun t => t.coreStep q.val 0x1C)

/-- MOVV (R205). -/
def execMovv (q : Fin 96) (s : State) : Host.Outcome State Fault Refusal := acting s (fun t => t.coreStep q.val 0x1D)

/-- ROT (R205). -/
def execRot (q : Fin 96) (s : State) : Host.Outcome State Fault Refusal := acting s (fun t => t.coreStep q.val 0x1E)

/-- BCAST (R205). -/
def execBcast (q : Fin 96) (s : State) : Host.Outcome State Fault Refusal := acting s (fun t => t.coreStep q.val 0x1F)

/-- OUT (R205). -/
def execOut (q : Fin 96) (s : State) : Host.Outcome State Fault Refusal := acting s (fun t => t.coreStep q.val 0x20)

/-- LOOP (R210). -/
def execLoop (q : Fin 96) (s : State) : Host.Outcome State Fault Refusal := acting s (fun t => t.coreStep q.val 0x30)

/-- JMP (R210). -/
def execJmp (q : Fin 96) (s : State) : Host.Outcome State Fault Refusal := acting s (fun t => t.coreStep q.val 0x31)

/-- MOVR (R202). -/
def execMovr (q : Fin 96) (s : State) : Host.Outcome State Fault Refusal := acting s (fun t => t.coreStep q.val 0x32)

/-- HALT (R211). -/
def execHalt (q : Fin 96) (s : State) : Host.Outcome State Fault Refusal := acting s (fun t => t.coreStep q.val 0x3F)

/-- ILLEGAL_BUNDLE (R211). -/
def execIllegalBundle (q : Fin 96) (s : State) : Host.Outcome State Fault Refusal := acting s (fun t => t.coreIllegal q.val)

/-! ## Clusters -/

/-- UNIT_DEAL (R213): the next block of a cluster. -/
def execUnitDeal (c : Fin 4) (s : State) : Host.Outcome State Fault Refusal := acting s (fun t => t.quayDeal c.val)

/-- QUAY_WINDOW_WRITE (R215): word `w` of the 112 KiB of a core. -/
def execQuayWindowWrite (src : Source) (q : Fin 96) (w : Fin 28672) (v : Word) (s : State) : Host.Outcome State Fault Refusal :=
  acting s (fun t => t.busWrite src (coreBase q.val + 4 * w.val) v)

/-- CORE_RUN_WRITE (R216): a write of Kq_CTL. -/
def execCoreRunWrite (src : Source) (q : Fin 96) (v : Word) (s : State) : Host.Outcome State Fault Refusal :=
  acting s (fun t => t.busWrite src (F.QCTL_K_CTL_RUN q.val).addr v)

/-- CLUSTER_CTL_WRITE (R216): a write of Cc_CTL, or of Cc_MAP. -/
def execClusterCtlWrite (src : Source) (c : Fin 4) (map : Bool) (v : Word) (s : State) : Host.Outcome State Fault Refusal :=
  acting s (fun t => t.busWrite src (if map then F.QCTL_C_MAP_UNITS c.val else F.QCTL_C_CTL_RUN c.val).addr v)

/-- SHADOW_TURN (R218). -/
def execShadowTurn (c : Fin 4) (s : State) : Host.Outcome State Fault Refusal := acting s (fun t => t.shadowTurn c.val)

/-- CORE_SWAP_GO (R219): a write of Cc_SWAP with GO set. -/
def execCoreSwapGo (src : Source) (c : Fin 4) (v : Word) (s : State) : Host.Outcome State Fault Refusal :=
  acting s (fun t => t.busWrite src (F.QCTL_C_SWAP_GO c.val).addr (fixBit v 31))

/-- CORE_SWAP_SWITCH (R219). -/
def execCoreSwapSwitch (c : Fin 4) (s : State) : Host.Outcome State Fault Refusal := acting s (fun t => t.swapSwitch c.val)

end Sys2Proof.Machine
end

