-- ==== Sys2Proof/Machine/ResetCmds.lean ====
section
/-! DEFINITION. Meanings of the commands of supply, reset, boot, Slipway and Tally (02_package_and_pins.md R35 to R39;
05_startup_and_configuration.md R88 to R105, R497). -/

namespace Sys2Proof.Machine

/-! ## Supply and reset -/

/-- POWER_REMOVED (R42). -/
def execPowerRemoved (s : State) : Host.Outcome State Fault Refusal := .next s.powerOff

/-- POR_N_ASSERT (R35). -/
def execPorNAssert (s : State) : Host.Outcome State Fault Refusal := .next s.porAssert

/-- POR_N_RELEASE (R37). -/
def execPorNRelease (s : State) : Host.Outcome State Fault Refusal := .next s.porRelease

/-- SUPERVISOR_TRIP (25_electrical.md R479). -/
def execSupervisorTrip (s : State) : Host.Outcome State Fault Refusal := .next s.supTrip

/-- SUPERVISOR_RELEASE (R35). -/
def execSupervisorRelease (s : State) : Host.Outcome State Fault Refusal := .next s.supRelease

/-- RESET_N_ASSERT (R36). -/
def execResetNAssert (s : State) : Host.Outcome State Fault Refusal := .next s.rstAssert

/-- RESET_N_RELEASE (R37). -/
def execResetNRelease (s : State) : Host.Outcome State Fault Refusal := .next s.rstRelease

/-- NVM_NOT_BUSY (R39): the flash answers not busy. -/
def execNvmNotBusy (s : State) : Host.Outcome State Fault Refusal :=
  acting s (fun t => { t with power := { t.power with nvmReady := true } })

/-- STRAP_LATCH (R37, R38): the levels of BOOT_SEL and CHIP_ID. -/
def execStrapLatch (sel chip : BitVec 2) (s : State) : Host.Outcome State Fault Refusal :=
  acting s (fun t => t.strapLatch sel.toNat chip.toNat)

/-! ## Boot -/

/-- IMAGE_LOADED (R88 steps 4 to 7): bit n of `answers`: flash device n answers. -/
def execImageLoaded (answers : BitVec 2) (s : State) : Host.Outcome State Fault Refusal :=
  acting s (fun t => t.imageLoaded answers.toNat)

/-- CPLL_FIRST_LOCK (04_clocks_and_synthesisers.md R65). -/
def execCpllFirstLock (s : State) : Host.Outcome State Fault Refusal := acting s State.cpllFirstLock

/-- STARTUP_CAL_DONE (06_receive_front_end_and_adc.md R126; 08_transmit_path.md R167): the paths whose calibration failed, the transmit
paths whose null stands at its limit, and the ADC slices (path, ADC 0 I or 1 Q, slice) that failed. -/
def execStartupCalDone (rxFail txFail txLimit : BitVec 64) (slices : List (Fin 64 × Fin 2 × Fin 9)) (s : State) :
    Host.Outcome State Fault Refusal :=
  acting s (fun t => t.startupCalDone (mask rxFail) (mask txFail) (mask txLimit)
    (slices.map (fun e => (e.1.val, e.2.1.val, e.2.2.val))))

/-- CONFIRM_TIMEOUT (R99). -/
def execConfirmTimeout (s : State) : Host.Outcome State Fault Refusal := acting s State.confirmTimeout

/-- DEVICE_SELF_RESET (13_fronthaul_messages.md R278; 23_pilot_security_debug.md R463). -/
def execDeviceSelfReset (s : State) : Host.Outcome State Fault Refusal := acting s State.resetDue

/-! ## Slipway (R98) -/

/-- A write of BOOT.SLIP_CMD. -/
def slipWrite (src : Source) (v : Word) (op : Nat) (s : State) : State := s.busWrite src F.BOOT_SLIP_CMD_OP.addr (fix v 0 4 op)

/-- SLIP_OPEN. -/
def execSlipOpen (src : Source) (v : Word) (s : State) : Host.Outcome State Fault Refusal := acting s (slipWrite src v 1)

/-- SLIP_WRITE: SECTOR in [28:16] of the word. -/
def execSlipWrite (src : Source) (v : Word) (s : State) : Host.Outcome State Fault Refusal := acting s (slipWrite src v 2)

/-- SLIP_CLOSE. -/
def execSlipClose (src : Source) (v : Word) (s : State) : Host.Outcome State Fault Refusal := acting s (slipWrite src v 3)

/-- SLIP_ABORT. -/
def execSlipAbort (src : Source) (v : Word) (s : State) : Host.Outcome State Fault Refusal := acting s (slipWrite src v 4)

/-- SLIP_CONFIRM. -/
def execSlipConfirm (src : Source) (v : Word) (s : State) : Host.Outcome State Fault Refusal := acting s (slipWrite src v 5)

/-- SLIP_OP_RESERVED: OP 0 or 6 to 15; any other OP of the word stands for 0. -/
def execSlipOpReserved (src : Source) (v : Word) (s : State) : Host.Outcome State Fault Refusal :=
  acting s (slipWrite src v (if 6 ≤ v.toNat % 16 then v.toNat % 16 else 0))

/-- SLIP_OP_COMPLETE: 0 the flash carried the operation out, 1 read back wrong, 2 failed. -/
def execSlipOpComplete (res : Fin 3) (s : State) : Host.Outcome State Fault Refusal := acting s (fun t => t.slipDone res.val)

/-! ## Tally (R100, R497) -/

/-- TALLY_PROGRAM_DONE. -/
def execTallyProgramDone (ok : Bool) (s : State) : Host.Outcome State Fault Refusal := acting s (fun t => t.tallyProgramDone ok)

/-- TALLY_COMMIT_DONE. -/
def execTallyCommitDone (ok : Bool) (s : State) : Host.Outcome State Fault Refusal := acting s (fun t => t.tallyCommitDone ok)

/-- TALLY_ERASE_DONE. -/
def execTallyEraseDone (ok : Bool) (s : State) : Host.Outcome State Fault Refusal := acting s (fun t => t.tallyEraseDone ok)

/-- TALLY_APPEND_GO: TALLY.APPEND_GO with GO = 1. -/
def execTallyAppendGo (src : Source) (s : State) : Host.Outcome State Fault Refusal :=
  acting s (fun t => t.busWrite src F.TALLY_APPEND_GO_GO.addr 1)

end Sys2Proof.Machine
end

