-- ==== Sys2Proof/Machine/RingCmds.lean ====
section
/-! DEFINITION. Meanings of the commands of the cascade ring (14_cascade_ring.md R282 to R298) and of Tide and the timed outputs
(15_tide.md R299 to R316). Ring ports: 0 east, 1 west. -/

namespace Sys2Proof.Machine

/-! ## Members and routes -/

/-- MEMBER_JOIN (R284): device `d` with its chain configuration; at a member, the configuration and NCO state that the head sent. -/
def execMemberJoin (d : Fin 4) (cfg nco : List Nat) (s : State) : Host.Outcome State Fault Refusal :=
  acting s (fun t => t.join d.val cfg nco)

/-- RING_TOPO_REPORT (R288): a port report of device `d`: ports UP, ports that carry data, widths. -/
def execRingTopoReport (d : Fin 4) (up data : BitVec 2) (we ww : Fin 9) (s : State) : Host.Outcome State Fault Refusal :=
  acting s (fun t => t.topoReport d.val up.toNat data.toNat we.val ww.val)

/-- ROUTE_SWITCH (R289): the instant S, the arcs and the members, as the head sent them. -/
def execRouteSwitch (at_ : Stamp) (w e members : BitVec 4) (s : State) : Host.Outcome State Fault Refusal :=
  acting s (fun t => t.routeSwitch at_ w.toNat e.toNat members.toNat)

/-! ## Partial sums, layers, panel sums -/

/-- PSUM_SECTION_RX (R291): a partial-sum section from a port. -/
def execPsumSectionRx (port : Fin 2) (payload : List Byte) (s : State) : Host.Outcome State Fault Refusal :=
  acting s (fun t => t.psumRx port.val payload)

/-- PSUM_TIMEOUT (R291): for core `q`. -/
def execPsumTimeout (q : Fin 96) (s : State) : Host.Outcome State Fault Refusal := acting s (fun t => t.psumTimeout q.val)

/-- LAYER_FORWARD (R292): the head's next section of a layer, or a section that a member receives; `slack` the ring egress slack in
ns. -/
def execLayerForward (l : Fin 32) (port : Fin 2) (payload : List Byte) (slack : BitVec 16) (s : State) :
    Host.Outcome State Fault Refusal :=
  acting s (fun t => (if t.meterActive 6 then t.meter 6 slack.toNat else t).layerForward l.val port.val payload)

/-- PANEL_SUMS_RX (R293): sums of device `d`: (512 × direction + berth, n_b, m_b). -/
def execPanelSumsRx (d : Fin 4) (l : List (Fin 1024 × Fin 65 × Fin 65)) (s : State) : Host.Outcome State Fault Refusal :=
  acting s (fun t => t.panelSums d.val (l.map (fun e => (e.1.val, e.2.1.val, e.2.2.val))))

/-! ## Ring sync and cross-chip calibration -/

/-- RING_SYNC_GO: RING.SYNC with GO set (R294). -/
def execRingSyncGo (src : Source) (v : Word) (s : State) : Host.Outcome State Fault Refusal :=
  acting s (fun t => t.busWrite src F.RING_SYNC_GO.addr (fixBit v 31))

/-- RING_SYNC (R294): the instant, as the head sent it. -/
def execRingSync (at_ : Stamp) (s : State) : Host.Outcome State Fault Refusal := acting s (fun t => t.ringSync at_)

/-- XCAL_REQ (R295): RING.XCAL_REQ with GO set; `calio` says that every member has CALIO_EN = 1. -/
def execXcalReq (src : Source) (calio : Bool) (v : Word) (s : State) : Host.Outcome State Fault Refusal :=
  acting s (fun t => (State.busWrite { t with ring := { t.ring with calio := calio } } src F.RING_XCAL_REQ_GO.addr (fixBit v 31)))

/-- XCAL_START (R295). -/
def execXcalStart (s : State) : Host.Outcome State Fault Refusal := acting s State.xcalStart

/-- XCAL_DONE (R295): at a member, the XALIGN and XPCAL that the head sent for each direction. -/
def execXcalDone (txAlign txRe txIm rxAlign rxRe rxIm : BitVec 16) (s : State) : Host.Outcome State Fault Refusal :=
  acting s (fun t => t.xcalDone (txAlign.toInt, ⟨txRe.toInt, txIm.toInt⟩) (rxAlign.toInt, ⟨rxRe.toInt, rxIm.toInt⟩))

/-- RING_RETRAIN_E: RING.CTL with RETRAIN_E set (R259). -/
def execRingRetrainE (src : Source) (v : Word) (s : State) : Host.Outcome State Fault Refusal :=
  acting s (fun t => t.busWrite src F.RING_CTL_RETRAIN_E.addr (fixBit v F.RING_CTL_RETRAIN_E.lo))

/-- RING_RETRAIN_W: RING.CTL with RETRAIN_W set (R259). -/
def execRingRetrainW (src : Source) (v : Word) (s : State) : Host.Outcome State Fault Refusal :=
  acting s (fun t => t.busWrite src F.RING_CTL_RETRAIN_E.addr (fixBit v F.RING_CTL_RETRAIN_W.lo))

/-- RING_CNT_CLR: RING.CNT_CLR with CLR set (R291). -/
def execRingCntClr (src : Source) (v : Word) (s : State) : Host.Outcome State Fault Refusal :=
  acting s (fun t => t.busWrite src F.RING_CNT_CLR_CLR.addr (fixBit v 0))

end Sys2Proof.Machine
end

