-- ==== Sys2Proof/Machine/RxCmds.lean ====
section
/-! DEFINITION. Meanings of the commands of the receive front end and the receive chain (06_receive_front_end_and_adc.md R107 to
R131; 07_receive_chain.md R132 to R150). -/

namespace Sys2Proof.Machine

/-! ## Gain, servo, slices -/

/-- AGC_DECISION (R110): the end of a decision interval. -/
def execAgcDecision (s : State) : Host.Outcome State Fault Refusal := acting s State.agcDecision

/-- AGC_SUSPEND_END (R112). -/
def execAgcSuspendEnd (s : State) : Host.Outcome State Fault Refusal := acting s State.agcSuspendEnd

/-- AGC_CTL_WRITE (R113). -/
def execAgcCtlWrite (src : Source) (v : Word) (s : State) : Host.Outcome State Fault Refusal :=
  acting s (fun t => t.busWrite src F.RXA_AGC_CTL_MODE.addr v)

/-- SERVO_AVERAGE (R117): the average of a path has its 65,536 samples. -/
def execServoAverage (p : Fin 64) (s : State) : Host.Outcome State Fault Refusal := acting s (fun t => t.servoAverage p.val)

/-- SLICE_EXCHANGE (R119, R120): ADC `q` (0 I, 1 Q) of a path exchanges its calibrated spare; `slice` is the slice just
calibrated, with its trim at a limit or its residual out of range. -/
def execSliceExchange (p : Fin 64) (q : Fin 2) (slice : Fin 9) (trimLimit residual : Bool) (s : State) :
    Host.Outcome State Fault Refusal :=
  acting s (fun t => if t.hasPath p.val then t.sliceExchange p.val q.val slice.val trimLimit residual else t)

/-! ## Calibration and retirement -/

/-- RX_CAL_REQ (R128): a write of RXA.CAL_REQ with GO set. -/
def execRxCalReq (src : Source) (v : Word) (s : State) : Host.Outcome State Fault Refusal :=
  acting s (fun t => t.busWrite src F.RXA_CAL_REQ_GO.addr (fixBit v 31))

/-- RX_CAL_START (R128). -/
def execRxCalStart (s : State) : Host.Outcome State Fault Refusal := acting s State.rxCalStart

/-- RX_CAL_TIMEOUT (R128). -/
def execRxCalTimeout (s : State) : Host.Outcome State Fault Refusal := acting s State.rxCalTimeout

/-- RX_CAL_DONE (R129): the paths that failed, and the slices (path, ADC 0 I or 1 Q, slice) that failed a SLICE calibration. -/
def execRxCalDone (fail : BitVec 64) (slices : List (Fin 64 × Fin 2 × Fin 9)) (s : State) : Host.Outcome State Fault Refusal :=
  acting s (fun t => t.rxCalDone (mask fail) (slices.map (fun e => (e.1.val, e.2.1.val, e.2.2.val))))

/-- RX_RETIRE_WRITE (R130): a write of RXA.RETIRE0 or RETIRE1. -/
def execRxRetireWrite (src : Source) (half : Fin 2) (v : Word) (s : State) : Host.Outcome State Fault Refusal :=
  acting s (fun t => t.busWrite src (if half.val = 0 then F.RXA_RETIRE0_PATHS else F.RXA_RETIRE1_PATHS).addr v)

/-- RXA_CNT_CLR_OVR: RXA.CNT_CLR with OVR set (R124). -/
def execRxaCntClrOvr (src : Source) (v : Word) (s : State) : Host.Outcome State Fault Refusal :=
  acting s (fun t => t.busWrite src F.RXA_CNT_CLR_OVR.addr (fixBit v F.RXA_CNT_CLR_OVR.lo))

/-- RXA_CNT_CLR_AGC: RXA.CNT_CLR with AGC set (R110). -/
def execRxaCntClrAgc (src : Source) (v : Word) (s : State) : Host.Outcome State Fault Refusal :=
  acting s (fun t => t.busWrite src F.RXA_CNT_CLR_OVR.addr (fixBit v F.RXA_CNT_CLR_AGC.lo))

/-- RXA_CTL_WRITE (R147): a write of RXA.CTL. -/
def execRxaCtlWrite (src : Source) (v : Word) (s : State) : Host.Outcome State Fault Refusal :=
  acting s (fun t => t.busWrite src F.RXA_CTL_BBF_BW.addr v)

/-! ## The chain -/

/-- RXD_RUN_WRITE (R144): a write of RXD.CTL. -/
def execRxdRunWrite (src : Source) (v : Word) (s : State) : Host.Outcome State Fault Refusal :=
  acting s (fun t => t.busWrite src F.RXD_CTL_RUN.addr v)

/-- The words of RXD that are locked while the chains run (R143): CFG, RS_STEP, NCO_OFS, and the coefficients of the half-band
filters and the resampler. -/
def rxdCfgAddr (i : Nat) : Nat := nth (0x52000 + 4 * (i - 4)) [0x50004, 0x50008, 0x5002C, 0x50030] i

/-- RXD_CFG_WRITE (R143): a write of locked word `i`. -/
def execRxdCfgWrite (src : Source) (i : Fin 6148) (v : Word) (s : State) : Host.Outcome State Fault Refusal :=
  acting s (fun t => t.busWrite src (rxdCfgAddr i.val) v)

/-- RXD_NCO_GO (R136): a write of RXD.NCO_CTL with GO set. -/
def execRxdNcoGo (src : Source) (v : Word) (s : State) : Host.Outcome State Fault Refusal :=
  acting s (fun t => t.busWrite src F.RXD_NCO_CTL_GO.addr (fixBit v 31))

/-- RXD_NCO_RETUNE_AT (R136). -/
def execRxdNcoRetuneAt (s : State) : Host.Outcome State Fault Refusal := acting s State.rxNcoFire

/-- RXD_CNT_CLR_SAT: RXD.CNT_CLR with SAT set (R134). -/
def execRxdCntClrSat (src : Source) (v : Word) (s : State) : Host.Outcome State Fault Refusal :=
  acting s (fun t => t.busWrite src F.RXD_CNT_CLR_SAT.addr (fixBit v F.RXD_CNT_CLR_SAT.lo))

/-- RXD_CNT_CLR_INV: RXD.CNT_CLR with INV set (R148). -/
def execRxdCntClrInv (src : Source) (v : Word) (s : State) : Host.Outcome State Fault Refusal :=
  acting s (fun t => t.busWrite src F.RXD_CNT_CLR_SAT.addr (fixBit v F.RXD_CNT_CLR_INV.lo))

end Sys2Proof.Machine
end

