-- ==== Sys2Proof/Machine/ThermCmds.lean ====
section
/-! DEFINITION. Meanings of the commands of the thermal sensors, the ladder and the synthesisers' wear (21_thermal.md R420 to
R430; 22_reserve.md R437). -/

namespace Sys2Proof.Machine

/-- THERM_MEASURE_START (R421): the scheduled measurement. -/
def execThermMeasureStart (s : State) : Host.Outcome State Fault Refusal := acting s (fun t => t.thermStart)

/-- THERM_DEMAND (R421): THERM.CTL with DEMAND set. -/
def execThermDemand (src : Source) (v : Word) (s : State) : Host.Outcome State Fault Refusal :=
  acting s (fun t => t.busWrite src F.THERM_CTL_DEMAND.addr (fixBit v 31))

/-- THERM_MEASURE_DONE (R425): for each sensor the count and the reading in 0.25 °C that the measurement found. -/
def execThermMeasureDone (l : List (BitVec 16 × BitVec 12)) (s : State) : Host.Outcome State Fault Refusal :=
  acting s (fun t => t.thermDone (l.map (fun e => (e.1.toNat, e.2.toInt))))

/-- LADDER_ESCALATE (R426). -/
def execLadderEscalate (s : State) : Host.Outcome State Fault Refusal := acting s (fun t => t.ladderUp)

/-- LADDER_DESCEND (R426). -/
def execLadderDescend (s : State) : Host.Outcome State Fault Refusal := acting s (fun t => t.ladderDown)

/-- SYN_CLR (R437): a write of RSV.SYN_CLR. -/
def execSynClr (src : Source) (v : Word) (s : State) : Host.Outcome State Fault Refusal :=
  acting s (fun t => t.busWrite src F.RSV_SYN_CLR_SYN.addr v)

end Sys2Proof.Machine
end

