-- ==== Sys2Proof/Machine/TideCmds.lean ====
section
/-! DEFINITION. Meanings of the commands of Tide, the timed outputs and the pulse generators (15_tide.md R299 to R316). -/

namespace Sys2Proof.Machine

/-! ## Exchanges -/

/-- TIDE_EXCHANGE_START (R300). -/
def execTideExchangeStart (s : State) : Host.Outcome State Fault Refusal := acting s State.xchgStart

/-- TYPE5_MESSAGE_RX (R300): the 20 bytes of a type 5 payload on a link; a message of another length is a frame error. -/
def execType5MessageRx (l : Fin 4) (b : List Byte) (s : State) : Host.Outcome State Fault Refusal :=
  acting s (fun t => if t.linkUp l.val then t.frameTake l.val 0 5 b else t)

/-- TIDE_EXCHANGE_COMPLETE (R302): the boot goes on where it waited for the lock. -/
def execTideExchangeComplete (s : State) : Host.Outcome State Fault Refusal := acting s (fun t => t.xchgComplete.bootAdvance)

/-- TIDE_EXCHANGE_LOST (R300). -/
def execTideExchangeLost (s : State) : Host.Outcome State Fault Refusal := acting s State.xchgLost

/-- TIDE_HOLD (R310). -/
def execTideHold (s : State) : Host.Outcome State Fault Refusal := acting s State.tideHold

/-- TIDE_ACK: TIDE.CTL with ACK set (R308). -/
def execTideAck (src : Source) (v : Word) (s : State) : Host.Outcome State Fault Refusal :=
  acting s (fun t => t.busWrite src F.TIDE_CTL_ACK.addr (fixBit v F.TIDE_CTL_ACK.lo))

/-- TIDE_ASYM_WRITE (R302): a write of Lj_ASYM. -/
def execTideAsymWrite (src : Source) (j : Fin 4) (v : Word) (s : State) : Host.Outcome State Fault Refusal :=
  acting s (fun t => t.busWrite src (F.TIDE_L_ASYM_PS j.val).addr v)

/-- TIDE_CNT_CLR: TIDE.CNT_CLR with CLR set (R300). -/
def execTideCntClr (src : Source) (v : Word) (s : State) : Host.Outcome State Fault Refusal :=
  acting s (fun t => t.busWrite src F.TIDE_CNT_CLR_CLR.addr (fixBit v 0))

/-! ## Timed outputs -/

/-- A write of TIDE.TO_CMD with GO set and an OP. -/
def toWrite (src : Source) (v : Word) (op : Nat) (s : State) : State :=
  s.busWrite src F.TIDE_TO_CMD_GO.addr (fix (fixBit v 31) 29 2 op)

/-- TO_ADD (R311). -/
def execToAdd (src : Source) (v : Word) (s : State) : Host.Outcome State Fault Refusal := acting s (toWrite src v 0)

/-- TO_FLUSH (R311). -/
def execToFlush (src : Source) (v : Word) (s : State) : Host.Outcome State Fault Refusal := acting s (toWrite src v 1)

/-- TO_OP_RESERVED (R311): OP 3 where bit 29 of the word is set, else 2. -/
def execToOpReserved (src : Source) (v : Word) (s : State) : Host.Outcome State Fault Refusal :=
  acting s (toWrite src v (2 + v.toNat / 2 ^ 29 % 2))

/-- The entries of a pin act: those of a quad that is not ON, or a drain without its DGATE, are consumed and counted
(17_front_end_control_and_breakwater.md R342). -/
def State.entryAct (s : State) (pin n : Nat) (level : Bool) : State :=
  let q := pin % 8
  if (8 ≤ pin ∧ pin < 24 ∧ s.paState q ≠ paON) ∨ (16 ≤ pin ∧ pin < 24 ∧ bitAt (s.get F.FEND_DGATE_QUADS) q = false) then
    s.add F.FEND_IGN_CNT_COUNT n
  else s.drive pin level

/-- The first entries of a pin's queue reach their instant (R312). -/
def State.timedEdge (s : State) (pin : Nat) : State :=
  match s.timedQ pin with
  | [] => s
  | e :: es =>
    let r := dueEntries (e :: es)
    let t := ((s.reach e.at_).setTimedQ pin r.2).entryAct pin r.1.length (match r.1.getLast? with | some x => x.level | none => e.level)
    if pin < 4 then t.tpAfter pin else t

/-- TIMED_OUTPUT_EDGE (R312). -/
def execTimedOutputEdge (pin : Fin 26) (s : State) : Host.Outcome State Fault Refusal := acting s (fun t => t.timedEdge pin.val)

/-- TPULSE_MODE_WRITE (R313): a write of TPn_CTL. -/
def execTpulseModeWrite (src : Source) (n : Fin 4) (v : Word) (s : State) : Host.Outcome State Fault Refusal :=
  acting s (fun t => t.busWrite src (F.TIDE_TP_CTL_MODE n.val).addr v)

end Sys2Proof.Machine
end

