-- ==== Sys2Proof/Machine/TxCmds.lean ====
section
/-! DEFINITION. Meanings of the commands of the transmit path and the predistorter (08_transmit_path.md R151 to R171, R496;
09_predistortion.md R172 to R197). -/

namespace Sys2Proof.Machine

/-! ## The chain -/

/-- TXD_RUN_WRITE (R158): a write of TXD.CTL. -/
def execTxdRunWrite (src : Source) (v : Word) (s : State) : Host.Outcome State Fault Refusal :=
  acting s (fun t => t.busWrite src F.TXD_CTL_RUN.addr v)

/-- The words of TXD that are locked while the chains run (R158): CFG, NCO_OFS, and the coefficients of the interpolators. -/
def txdCfgAddr (i : Nat) : Nat := nth (0x72000 + 4 * (i - 3)) [0x70004, 0x7002C, 0x70030] i

/-- TXD_CFG_WRITE (R158): a write of locked word `i`. -/
def execTxdCfgWrite (src : Source) (i : Fin 95) (v : Word) (s : State) : Host.Outcome State Fault Refusal :=
  acting s (fun t => t.busWrite src (txdCfgAddr i.val) v)

/-- TXD_NCO_GO (R155): a write of TXD.NCO_CTL with GO set. -/
def execTxdNcoGo (src : Source) (v : Word) (s : State) : Host.Outcome State Fault Refusal :=
  acting s (fun t => t.busWrite src F.TXD_NCO_CTL_GO.addr (fixBit v 31))

/-- TXD_NCO_RETUNE_AT (R155): Breakwater fixes its band again (17_front_end_control_and_breakwater.md R350). -/
def execTxdNcoRetuneAt (s : State) : Host.Outcome State Fault Refusal :=
  acting s (fun t => if t.tx.ncoArm.isSome then t.txNcoFire.bwFix else t)

/-- TX_GAIN_APPLY (R157). -/
def execTxGainApply (s : State) : Host.Outcome State Fault Refusal := acting s State.gainApply

/-- TX_CHAIN_RESTART (R496). -/
def execTxChainRestart (s : State) : Host.Outcome State Fault Refusal := acting s State.txRestartFire

/-- TXA_CTL_WRITE (R165): a write of TXA.CTL. -/
def execTxaCtlWrite (src : Source) (v : Word) (s : State) : Host.Outcome State Fault Refusal :=
  acting s (fun t => t.busWrite src F.TXA_CTL_FILT_BW.addr v)

/-- TX_RETIRE_WRITE (R166): a write of TXA.RETIRE0 or RETIRE1. -/
def execTxRetireWrite (src : Source) (half : Fin 2) (v : Word) (s : State) : Host.Outcome State Fault Refusal :=
  acting s (fun t => t.busWrite src (if half.val = 0 then F.TXA_RETIRE0_PATHS else F.TXA_RETIRE1_PATHS).addr v)

/-- TXD_CNT_CLR_MUTE: TXD.CNT_CLR with MUTE set (R162). -/
def execTxdCntClrMute (src : Source) (v : Word) (s : State) : Host.Outcome State Fault Refusal :=
  acting s (fun t => t.busWrite src F.TXD_CNT_CLR_SAT.addr (fixBit v F.TXD_CNT_CLR_MUTE.lo))

/-- TXD_CNT_CLR_SAT: TXD.CNT_CLR with SAT set (R153). -/
def execTxdCntClrSat (src : Source) (v : Word) (s : State) : Host.Outcome State Fault Refusal :=
  acting s (fun t => t.busWrite src F.TXD_CNT_CLR_SAT.addr (fixBit v F.TXD_CNT_CLR_SAT.lo))

/-! ## Coexistence mute -/

/-- COEX_GNT_FALL (R163): a falling edge on COEX_GNT. -/
def execCoexGntFall (s : State) : Host.Outcome State Fault Refusal := acting s (fun t => if t.pins.coexGnt then t.coexFallEdge else t)

/-- COEX_GNT_RISE (R164): a rising edge on COEX_GNT. -/
def execCoexGntRise (s : State) : Host.Outcome State Fault Refusal := acting s (fun t => if t.pins.coexGnt then t else t.coexRiseEdge)

/-- COEX_MUTE_LIFT (R164). -/
def execCoexMuteLift (s : State) : Host.Outcome State Fault Refusal := acting s State.coexLiftNow

/-! ## Calibration and read-back -/

/-- TX_CAL_REQ (R169): a write of TXA.CAL_REQ with GO set. -/
def execTxCalReq (src : Source) (v : Word) (s : State) : Host.Outcome State Fault Refusal :=
  acting s (fun t => t.busWrite src F.TXA_CAL_REQ_GO.addr (fixBit v 31))

/-- TX_CAL_START (R169). -/
def execTxCalStart (s : State) : Host.Outcome State Fault Refusal := acting s State.txCalStart

/-- TX_CAL_TIMEOUT (R169). -/
def execTxCalTimeout (s : State) : Host.Outcome State Fault Refusal := acting s State.txCalTimeout

/-- TX_CAL_DONE (R169): the paths out of range, and those with a DAC source used at its limit. -/
def execTxCalDone (fail limit : BitVec 64) (s : State) : Host.Outcome State Fault Refusal :=
  acting s (fun t => t.txCalDone (mask fail) (mask limit))

/-- READBACK_GO (R171): a write of TXA.RB_CTL with GO set. -/
def execReadbackGo (src : Source) (v : Word) (s : State) : Host.Outcome State Fault Refusal :=
  acting s (fun t => t.busWrite src F.TXA_RB_CTL_GO.addr (fixBit v 31))

/-- READBACK_DONE (R171): the measured value. -/
def execReadbackDone (v : BitVec 16) (s : State) : Host.Outcome State Fault Refusal := acting s (fun t => t.rbDone v.toInt)

/-! ## The predistorter -/

/-- DPD_CFG_WRITE (R175): a write of DPD.TERMt (`i` = t) or, for `i` = 32, of DPD.XFADE. -/
def execDpdCfgWrite (src : Source) (i : Fin 33) (v : Word) (s : State) : Host.Outcome State Fault Refusal :=
  acting s (fun t => t.busWrite src (if i.val = 32 then F.DPD_XFADE_LEN.addr else (F.DPD_TERM_EN i.val).addr) v)

/-- DPD_PCTL_WRITE (R176): a write of DPD.Pnn_CTL. -/
def execDpdPctlWrite (src : Source) (p : Fin 64) (v : Word) (s : State) : Host.Outcome State Fault Refusal :=
  acting s (fun t => t.busWrite src (F.DPD_P_CTL_ADAPT_EN p.val).addr v)

/-- DPD_BANK_WRITE (R178): a word of coefficient `term` of a bank, its real part (0) or its imaginary part (1). -/
def execDpdBankWrite (src : Source) (p : Fin 64) (bank : Fin 8) (term : Fin 32) (part : Fin 2) (v : Word) (s : State) :
    Host.Outcome State Fault Refusal :=
  acting s (fun t => t.busWrite src (dpdAddr p.val bank.val term.val + 4 * part.val) v)

/-- DPD_SWAP_GO (R180): a write of DPD.SWAP_CTL with GO set. -/
def execDpdSwapGo (src : Source) (v : Word) (s : State) : Host.Outcome State Fault Refusal :=
  acting s (fun t => t.busWrite src F.DPD_SWAP_CTL_GO.addr (fixBit v 31))

/-- FADE_COMPLETE (R181). -/
def execFadeComplete (p : Fin 64) (s : State) : Host.Outcome State Fault Refusal :=
  acting s (fun t => if (t.dpdPath p.val).fade.isSome then (t.fadeComplete p.val).refreshStart p.val else t)

/-- ORX_SLOT (R186): a slot of an ORX: whether a capture span occurred in it, the residual carrier, the fill of its ingress
buffer and the samples it lost. -/
def execOrxSlot (k : Fin 8) (found : Bool) (ri rq : Int) (fill : Fin 2049) (lost : BitVec 16) (s : State) :
    Host.Outcome State Fault Refusal :=
  acting s (fun t => t.orxSlot k.val found ri rq fill.val lost.toNat)

/-- DPD_SOLVE_DONE (R187 to R194): what the solver measured: the RMS of u in 0.01 dB of full scale, over-range, the correlation
peak in thousandths, the delay in 1/16 sample, and the NMSE in 0.01 dB. -/
def execDpdSolveDone (p : Fin 64) (rms : Int) (ovr : Bool) (corr : Fin 1001) (delay : Fin 2048) (nmse : BitVec 16) (s : State) :
    Host.Outcome State Fault Refusal :=
  acting s (fun t => t.dpdSolve p.val rms ovr corr.val delay.val nmse.toInt)

/-- REFRESH_FADE_START (R190). -/
def execRefreshFadeStart (p : Fin 64) (s : State) : Host.Outcome State Fault Refusal := acting s (fun t => t.refreshStart p.val)

/-- ORX_SLICE_EXCHANGE (R183): ADC `q` (0 I, 1 Q) of an ORX exchanges its calibrated spare. -/
def execOrxSliceExchange (k : Fin 8) (q : Fin 2) (slice : Fin 17) (trimLimit residual : Bool) (s : State) :
    Host.Outcome State Fault Refusal :=
  acting s (fun t => if t.hasQuad k.val then t.orxExchange k.val q.val slice.val trimLimit residual else t)

/-- DPD_CNT_CLR_PATH: DPD.CNT_CLR with PATH set (R176). -/
def execDpdCntClrPath (src : Source) (v : Word) (s : State) : Host.Outcome State Fault Refusal :=
  acting s (fun t => t.busWrite src F.DPD_CNT_CLR_PATH.addr (fixBit v F.DPD_CNT_CLR_PATH.lo))

/-- DPD_CNT_CLR_DROP: DPD.CNT_CLR with DROP set (R182). -/
def execDpdCntClrDrop (src : Source) (v : Word) (s : State) : Host.Outcome State Fault Refusal :=
  acting s (fun t => t.busWrite src F.DPD_CNT_CLR_PATH.addr (fixBit v F.DPD_CNT_CLR_DROP.lo))

/-- DPD_CNT_CLR_ACTWR: DPD.CNT_CLR with ACTWR set (R178). -/
def execDpdCntClrActwr (src : Source) (v : Word) (s : State) : Host.Outcome State Fault Refusal :=
  acting s (fun t => t.busWrite src F.DPD_CNT_CLR_PATH.addr (fixBit v F.DPD_CNT_CLR_ACTWR.lo))

end Sys2Proof.Machine
end

