-- ==== Sys2Proof/Machine/Dispatch.lean ====
section
/-! DEFINITION. exec: one arm per command, each one direct call of its meaning. -/

namespace Sys2Proof.Machine

def exec (i : Instr) (s : State) : Host.Outcome State Fault Refusal :=
  match i with
  | .powerRemoved => Sys2Proof.Machine.execPowerRemoved s
  | .porNAssert => Sys2Proof.Machine.execPorNAssert s
  | .porNRelease => Sys2Proof.Machine.execPorNRelease s
  | .supervisorTrip => Sys2Proof.Machine.execSupervisorTrip s
  | .supervisorRelease => Sys2Proof.Machine.execSupervisorRelease s
  | .resetNAssert => Sys2Proof.Machine.execResetNAssert s
  | .resetNRelease => Sys2Proof.Machine.execResetNRelease s
  | .nvmNotBusy => Sys2Proof.Machine.execNvmNotBusy s
  | .strapLatch sel chip => Sys2Proof.Machine.execStrapLatch sel chip s
  | .imageLoaded answers => Sys2Proof.Machine.execImageLoaded answers s
  | .cpllFirstLock => Sys2Proof.Machine.execCpllFirstLock s
  | .startupCalDone rxFail txFail txLimit slices => Sys2Proof.Machine.execStartupCalDone rxFail txFail txLimit slices s
  | .confirmTimeout => Sys2Proof.Machine.execConfirmTimeout s
  | .deviceSelfReset => Sys2Proof.Machine.execDeviceSelfReset s
  | .slipOpen src v => Sys2Proof.Machine.execSlipOpen src v s
  | .slipWrite src v => Sys2Proof.Machine.execSlipWrite src v s
  | .slipClose src v => Sys2Proof.Machine.execSlipClose src v s
  | .slipAbort src v => Sys2Proof.Machine.execSlipAbort src v s
  | .slipConfirm src v => Sys2Proof.Machine.execSlipConfirm src v s
  | .slipOpReserved src v => Sys2Proof.Machine.execSlipOpReserved src v s
  | .slipOpComplete res => Sys2Proof.Machine.execSlipOpComplete res s
  | .tallyProgramDone ok => Sys2Proof.Machine.execTallyProgramDone ok s
  | .tallyCommitDone ok => Sys2Proof.Machine.execTallyCommitDone ok s
  | .tallyAppendGo src => Sys2Proof.Machine.execTallyAppendGo src s
  | .stateReqDryDock src v => Sys2Proof.Machine.execStateReqDryDock src v s
  | .stateReqDoze src v => Sys2Proof.Machine.execStateReqDoze src v s
  | .stateReqQuiet src v => Sys2Proof.Machine.execStateReqQuiet src v s
  | .stateReqRun src v => Sys2Proof.Machine.execStateReqRun src v s
  | .stateReqReserved src v => Sys2Proof.Machine.execStateReqReserved src v s
  | .stateTransitionComplete => Sys2Proof.Machine.execStateTransitionComplete s
  | .runOffWrite src v => Sys2Proof.Machine.execRunOffWrite src v s
  | .avsUpdate slacks paces => Sys2Proof.Machine.execAvsUpdate slacks paces s
  | .avsTransactionDone answered warning => Sys2Proof.Machine.execAvsTransactionDone answered warning s
  | .avsCeiling => Sys2Proof.Machine.execAvsCeiling s
  | .avsCeilClear => Sys2Proof.Machine.execAvsCeilClear s
  | .powerEstimate mw => Sys2Proof.Machine.execPowerEstimate mw s
  | .rxAdcSample p re im ovr fill => Sys2Proof.Machine.execRxAdcSample p re im ovr fill s
  | .rxIngressSpaceReturn p => Sys2Proof.Machine.execRxIngressSpaceReturn p s
  | .txSamplePlayout p late fill => Sys2Proof.Machine.execTxSamplePlayout p late fill s
  | .clrCnt src v => Sys2Proof.Machine.execClrCnt src v s
  | .clrMin src v => Sys2Proof.Machine.execClrMin src v s
  | .refclkEdgeLoss => Sys2Proof.Machine.execRefclkEdgeLoss s
  | .freqMonitorWindow dev phi => Sys2Proof.Machine.execFreqMonitorWindow dev phi s
  | .holdoverExpired => Sys2Proof.Machine.execHoldoverExpired s
  | .cpllUnlock => Sys2Proof.Machine.execCpllUnlock s
  | .cpllLockRetry => Sys2Proof.Machine.execCpllLockRetry s
  | .cpllRelock => Sys2Proof.Machine.execCpllRelock s
  | .synGo src n v => Sys2Proof.Machine.execSynGo src n v s
  | .synRetuneStart n => Sys2Proof.Machine.execSynRetuneStart n s
  | .settleWindowEnd n => Sys2Proof.Machine.execSettleWindowEnd n s
  | .synLock n => Sys2Proof.Machine.execSynLock n s
  | .synUnlock n => Sys2Proof.Machine.execSynUnlock n s
  | .synLockRetry n => Sys2Proof.Machine.execSynLockRetry n s
  | .synRelockTimeout n => Sys2Proof.Machine.execSynRelockTimeout n s
  | .swapMuteLift => Sys2Proof.Machine.execSwapMuteLift s
  | .loRouteWrite src v => Sys2Proof.Machine.execLoRouteWrite src v s
  | .lodistDividerReset => Sys2Proof.Machine.execLodistDividerReset s
  | .resync src v => Sys2Proof.Machine.execResync src v s
  | .lpllUnlock b => Sys2Proof.Machine.execLpllUnlock b s
  | .lpllLockRetry b => Sys2Proof.Machine.execLpllLockRetry b s
  | .lpllRelock b => Sys2Proof.Machine.execLpllRelock b s
  | .sscApexApply b => Sys2Proof.Machine.execSscApexApply b s
  | .agcDecision => Sys2Proof.Machine.execAgcDecision s
  | .agcSuspendEnd => Sys2Proof.Machine.execAgcSuspendEnd s
  | .agcCtlWrite src v => Sys2Proof.Machine.execAgcCtlWrite src v s
  | .servoAverage p => Sys2Proof.Machine.execServoAverage p s
  | .sliceExchange p q slice trimLimit residual => Sys2Proof.Machine.execSliceExchange p q slice trimLimit residual s
  | .rxCalReq src v => Sys2Proof.Machine.execRxCalReq src v s
  | .rxCalStart => Sys2Proof.Machine.execRxCalStart s
  | .rxCalTimeout => Sys2Proof.Machine.execRxCalTimeout s
  | .rxCalDone fail slices => Sys2Proof.Machine.execRxCalDone fail slices s
  | .rxRetireWrite src half v => Sys2Proof.Machine.execRxRetireWrite src half v s
  | .rxaCntClrOvr src v => Sys2Proof.Machine.execRxaCntClrOvr src v s
  | .rxaCntClrAgc src v => Sys2Proof.Machine.execRxaCntClrAgc src v s
  | .rxdRunWrite src v => Sys2Proof.Machine.execRxdRunWrite src v s
  | .rxdCfgWrite src j v => Sys2Proof.Machine.execRxdCfgWrite src j v s
  | .rxdNcoGo src v => Sys2Proof.Machine.execRxdNcoGo src v s
  | .rxdNcoRetuneAt => Sys2Proof.Machine.execRxdNcoRetuneAt s
  | .rxdCntClrSat src v => Sys2Proof.Machine.execRxdCntClrSat src v s
  | .rxdCntClrInv src v => Sys2Proof.Machine.execRxdCntClrInv src v s
  | .txdRunWrite src v => Sys2Proof.Machine.execTxdRunWrite src v s
  | .txdCfgWrite src j v => Sys2Proof.Machine.execTxdCfgWrite src j v s
  | .txdNcoGo src v => Sys2Proof.Machine.execTxdNcoGo src v s
  | .txdNcoRetuneAt => Sys2Proof.Machine.execTxdNcoRetuneAt s
  | .txGainApply => Sys2Proof.Machine.execTxGainApply s
  | .txChainRestart => Sys2Proof.Machine.execTxChainRestart s
  | .txaCtlWrite src v => Sys2Proof.Machine.execTxaCtlWrite src v s
  | .txRetireWrite src half v => Sys2Proof.Machine.execTxRetireWrite src half v s
  | .coexGntFall => Sys2Proof.Machine.execCoexGntFall s
  | .coexGntRise => Sys2Proof.Machine.execCoexGntRise s
  | .coexMuteLift => Sys2Proof.Machine.execCoexMuteLift s
  | .txCalReq src v => Sys2Proof.Machine.execTxCalReq src v s
  | .txCalStart => Sys2Proof.Machine.execTxCalStart s
  | .txCalTimeout => Sys2Proof.Machine.execTxCalTimeout s
  | .txCalDone fail limit => Sys2Proof.Machine.execTxCalDone fail limit s
  | .readbackGo src v => Sys2Proof.Machine.execReadbackGo src v s
  | .readbackDone v => Sys2Proof.Machine.execReadbackDone v s
  | .txdCntClrMute src v => Sys2Proof.Machine.execTxdCntClrMute src v s
  | .txdCntClrSat src v => Sys2Proof.Machine.execTxdCntClrSat src v s
  | .dpdCfgWrite src j v => Sys2Proof.Machine.execDpdCfgWrite src j v s
  | .dpdPctlWrite src p v => Sys2Proof.Machine.execDpdPctlWrite src p v s
  | .dpdBankWrite src p bank term part v => Sys2Proof.Machine.execDpdBankWrite src p bank term part v s
  | .dpdSwapGo src v => Sys2Proof.Machine.execDpdSwapGo src v s
  | .fadeComplete p => Sys2Proof.Machine.execFadeComplete p s
  | .orxSlot k found ri rq fill lost => Sys2Proof.Machine.execOrxSlot k found ri rq fill lost s
  | .dpdSolveDone p rms ovr corr delay nmse => Sys2Proof.Machine.execDpdSolveDone p rms ovr corr delay nmse s
  | .refreshFadeStart p => Sys2Proof.Machine.execRefreshFadeStart p s
  | .orxSliceExchange k q slice trimLimit residual => Sys2Proof.Machine.execOrxSliceExchange k q slice trimLimit residual s
  | .dpdCntClrPath src v => Sys2Proof.Machine.execDpdCntClrPath src v s
  | .dpdCntClrDrop src v => Sys2Proof.Machine.execDpdCntClrDrop src v s
  | .dpdCntClrActwr src v => Sys2Proof.Machine.execDpdCntClrActwr src v s
  | .nop q => Sys2Proof.Machine.execNop q s
  | .mac q => Sys2Proof.Machine.execMac q s
  | .macc q => Sys2Proof.Machine.execMacc q s
  | .msu q => Sys2Proof.Machine.execMsu q s
  | .mul q => Sys2Proof.Machine.execMul q s
  | .mulc q => Sys2Proof.Machine.execMulc q s
  | .mag2 q => Sys2Proof.Machine.execMag2 q s
  | .adda q => Sys2Proof.Machine.execAdda q s
  | .zero q => Sys2Proof.Machine.execZero q s
  | .shra q => Sys2Proof.Machine.execShra q s
  | .nr q => Sys2Proof.Machine.execNr q s
  | .nrc q => Sys2Proof.Machine.execNrc q s
  | .nro q => Sys2Proof.Machine.execNro q s
  | .add q => Sys2Proof.Machine.execAdd q s
  | .sub q => Sys2Proof.Machine.execSub q s
  | .cmul q => Sys2Proof.Machine.execCmul q s
  | .conj q => Sys2Proof.Machine.execConj q s
  | .neg q => Sys2Proof.Machine.execNeg q s
  | .movv q => Sys2Proof.Machine.execMovv q s
  | .rot q => Sys2Proof.Machine.execRot q s
  | .bcast q => Sys2Proof.Machine.execBcast q s
  | .out q => Sys2Proof.Machine.execOut q s
  | .loop q => Sys2Proof.Machine.execLoop q s
  | .jmp q => Sys2Proof.Machine.execJmp q s
  | .movr q => Sys2Proof.Machine.execMovr q s
  | .halt q => Sys2Proof.Machine.execHalt q s
  | .illegalBundle q => Sys2Proof.Machine.execIllegalBundle q s
  | .unitDeal c => Sys2Proof.Machine.execUnitDeal c s
  | .quayWindowWrite src q w v => Sys2Proof.Machine.execQuayWindowWrite src q w v s
  | .coreRunWrite src q v => Sys2Proof.Machine.execCoreRunWrite src q v s
  | .clusterCtlWrite src c map v => Sys2Proof.Machine.execClusterCtlWrite src c map v s
  | .shadowTurn c => Sys2Proof.Machine.execShadowTurn c s
  | .coreSwapGo src c v => Sys2Proof.Machine.execCoreSwapGo src c v s
  | .coreSwapSwitch c => Sys2Proof.Machine.execCoreSwapSwitch c s
  | .schedAdd src v => Sys2Proof.Machine.execSchedAdd src v s
  | .schedCancel src v => Sys2Proof.Machine.execSchedCancel src v s
  | .schedFlush src v => Sys2Proof.Machine.execSchedFlush src v s
  | .schedOpReserved src v => Sys2Proof.Machine.execSchedOpReserved src v s
  | .berthStage dir => Sys2Proof.Machine.execBerthStage dir s
  | .berthSwitch dir => Sys2Proof.Machine.execBerthSwitch dir s
  | .berthWindowWrite src dir b w v => Sys2Proof.Machine.execBerthWindowWrite src dir b w v s
  | .maskApply dir => Sys2Proof.Machine.execMaskApply dir s
  | .alignWrite src p dir pcal v => Sys2Proof.Machine.execAlignWrite src p dir pcal v s
  | .alignApply p dir => Sys2Proof.Machine.execAlignApply p dir s
  | .bcalReq src v => Sys2Proof.Machine.execBcalReq src v s
  | .bcalStart => Sys2Proof.Machine.execBcalStart s
  | .bcalTimeout => Sys2Proof.Machine.execBcalTimeout s
  | .bcalDone fail => Sys2Proof.Machine.execBcalDone fail s
  | .berthCntClrSat src v => Sys2Proof.Machine.execBerthCntClrSat src v s
  | .berthCntClrRef src v => Sys2Proof.Machine.execBerthCntClrRef src v s
  | .alignSetReceived l sets skew => Sys2Proof.Machine.execAlignSetReceived l sets skew s
  | .signalDetect l => Sys2Proof.Machine.execSignalDetect l s
  | .trainStateTimeout l => Sys2Proof.Machine.execTrainStateTimeout l s
  | .trainTimeout l => Sys2Proof.Machine.execTrainTimeout l s
  | .retrainStart l => Sys2Proof.Machine.execRetrainStart l s
  | .dataColumnReceived l col => Sys2Proof.Machine.execDataColumnReceived l col s
  | .laneSignalLoss l lane => Sys2Proof.Machine.execLaneSignalLoss l lane s
  | .requalAttemptDone l lane ok => Sys2Proof.Machine.execRequalAttemptDone l lane ok s
  | .remapStalled l => Sys2Proof.Machine.execRemapStalled l s
  | .fwdClockLoss l => Sys2Proof.Machine.execFwdClockLoss l s
  | .dfeAdapt l lane d0 d1 d2 d3 d4 => Sys2Proof.Machine.execDfeAdapt l lane d0 d1 d2 d3 d4 s
  | .ctleAdapt l lane => Sys2Proof.Machine.execCtleAdapt l lane s
  | .eyeMeasure l lane height width => Sys2Proof.Machine.execEyeMeasure l lane height width s
  | .fhlRetrainA src v => Sys2Proof.Machine.execFhlRetrainA src v s
  | .fhlRetrainB src v => Sys2Proof.Machine.execFhlRetrainB src v s
  | .fhlCntClr src v => Sys2Proof.Machine.execFhlCntClr src v s
  | .linkFrameRx l f bad idle fill other => Sys2Proof.Machine.execLinkFrameRx l f bad idle fill other s
  | .txSectionRx b payload => Sys2Proof.Machine.execTxSectionRx b payload s
  | .rxSectionForm m slack => Sys2Proof.Machine.execRxSectionForm m slack s
  | .rxsCfgWrite src m v => Sys2Proof.Machine.execRxsCfgWrite src m v s
  | .rtcBerthAdd via flags seq body => Sys2Proof.Machine.execRtcBerthAdd via flags seq body s
  | .rtcBerthCancel via flags seq body => Sys2Proof.Machine.execRtcBerthCancel via flags seq body s
  | .rtcBerthFlush via flags seq body => Sys2Proof.Machine.execRtcBerthFlush via flags seq body s
  | .rtcGapGrant via flags seq body => Sys2Proof.Machine.execRtcGapGrant via flags seq body s
  | .rtcGapRevoke via flags seq body => Sys2Proof.Machine.execRtcGapRevoke via flags seq body s
  | .rtcNcoRetune via flags seq body => Sys2Proof.Machine.execRtcNcoRetune via flags seq body s
  | .rtcSynRetune via flags seq body => Sys2Proof.Machine.execRtcSynRetune via flags seq body s
  | .rtcUnknown via cmd flags seq body => Sys2Proof.Machine.execRtcUnknown via cmd flags seq body s
  | .gapBegin => Sys2Proof.Machine.execGapBegin s
  | .gapEnd => Sys2Proof.Machine.execGapEnd s
  | .rmaRead via id elem addr len => Sys2Proof.Machine.execRmaRead via id elem addr len s
  | .rmaWrite via id elem addr data => Sys2Proof.Machine.execRmaWrite via id elem addr data s
  | .rmaWriteNoResp via id elem addr data => Sys2Proof.Machine.execRmaWriteNoResp via id elem addr data s
  | .rmaResponseRx b id ok => Sys2Proof.Machine.execRmaResponseRx b id ok s
  | .resetRequest b id op p0 => Sys2Proof.Machine.execResetRequest b id op p0 s
  | .eventMsgSend => Sys2Proof.Machine.execEventMsgSend s
  | .fhmCtlWrite src v => Sys2Proof.Machine.execFhmCtlWrite src v s
  | .fhmCntClr src v => Sys2Proof.Machine.execFhmCntClr src v s
  | .memberJoin d cfg nco => Sys2Proof.Machine.execMemberJoin d cfg nco s
  | .ringTopoReport d up data we ww => Sys2Proof.Machine.execRingTopoReport d up data we ww s
  | .routeSwitch at_ w e members => Sys2Proof.Machine.execRouteSwitch at_ w e members s
  | .psumSectionRx port payload => Sys2Proof.Machine.execPsumSectionRx port payload s
  | .psumTimeout q => Sys2Proof.Machine.execPsumTimeout q s
  | .layerForward l port payload slack => Sys2Proof.Machine.execLayerForward l port payload slack s
  | .panelSumsRx d l => Sys2Proof.Machine.execPanelSumsRx d l s
  | .ringSyncGo src v => Sys2Proof.Machine.execRingSyncGo src v s
  | .ringSync at_ => Sys2Proof.Machine.execRingSync at_ s
  | .xcalReq src calio v => Sys2Proof.Machine.execXcalReq src calio v s
  | .xcalStart => Sys2Proof.Machine.execXcalStart s
  | .xcalDone txAlign txRe txIm rxAlign rxRe rxIm => Sys2Proof.Machine.execXcalDone txAlign txRe txIm rxAlign rxRe rxIm s
  | .ringRetrainE src v => Sys2Proof.Machine.execRingRetrainE src v s
  | .ringRetrainW src v => Sys2Proof.Machine.execRingRetrainW src v s
  | .ringCntClr src v => Sys2Proof.Machine.execRingCntClr src v s
  | .tideExchangeStart => Sys2Proof.Machine.execTideExchangeStart s
  | .type5MessageRx l b => Sys2Proof.Machine.execType5MessageRx l b s
  | .tideExchangeComplete => Sys2Proof.Machine.execTideExchangeComplete s
  | .tideExchangeLost => Sys2Proof.Machine.execTideExchangeLost s
  | .tideHold => Sys2Proof.Machine.execTideHold s
  | .tideAck src v => Sys2Proof.Machine.execTideAck src v s
  | .tideAsymWrite src j v => Sys2Proof.Machine.execTideAsymWrite src j v s
  | .tideCntClr src v => Sys2Proof.Machine.execTideCntClr src v s
  | .toAdd src v => Sys2Proof.Machine.execToAdd src v s
  | .toFlush src v => Sys2Proof.Machine.execToFlush src v s
  | .toOpReserved src v => Sys2Proof.Machine.execToOpReserved src v s
  | .timedOutputEdge pin => Sys2Proof.Machine.execTimedOutputEdge pin s
  | .tpulseModeWrite src n v => Sys2Proof.Machine.execTpulseModeWrite src n v s
  | .coexActRise => Sys2Proof.Machine.execCoexActRise s
  | .coexActFall => Sys2Proof.Machine.execCoexActFall s
  | .edBinEnd l => Sys2Proof.Machine.execEdBinEnd l s
  | .stfDetect b c w pd => Sys2Proof.Machine.execStfDetect b c w pd s
  | .ltfSync b c w p => Sys2Proof.Machine.execLtfSync b c w p s
  | .ltfTimeout b c w => Sys2Proof.Machine.execLtfTimeout b c w s
  | .lsigDecode b c w sig => Sys2Proof.Machine.execLsigDecode b c w sig s
  | .watcherBusyEnd b c w => Sys2Proof.Machine.execWatcherBusyEnd b c w s
  | .lookCtlWrite src v => Sys2Proof.Machine.execLookCtlWrite src v s
  | .lookCfgWrite src j v => Sys2Proof.Machine.execLookCfgWrite src j v s
  | .lookCntClr src v => Sys2Proof.Machine.execLookCntClr src v s
  | .biasWrite src o v => Sys2Proof.Machine.execBiasWrite src o v s
  | .paCmdOn src v => Sys2Proof.Machine.execPaCmdOn src v s
  | .paCmdOff src v => Sys2Proof.Machine.execPaCmdOff src v s
  | .paCmdIgnored src v => Sys2Proof.Machine.execPaCmdIgnored src v s
  | .paDrainWaitEnd q => Sys2Proof.Machine.execPaDrainWaitEnd q s
  | .paBiasArrived q => Sys2Proof.Machine.execPaBiasArrived q s
  | .feFaultDrainOff => Sys2Proof.Machine.execFeFaultDrainOff s
  | .vnegFault => Sys2Proof.Machine.execVnegFault s
  | .synUnlockFault => Sys2Proof.Machine.execSynUnlockFault s
  | .rffeWrite src n v => Sys2Proof.Machine.execRffeWrite src n v s
  | .rffeRead src n v => Sys2Proof.Machine.execRffeRead src n v s
  | .rffeReg0Write src n v => Sys2Proof.Machine.execRffeReg0Write src n v s
  | .rffeExtWrite src n v => Sys2Proof.Machine.execRffeExtWrite src n v s
  | .rffeExtRead src n v => Sys2Proof.Machine.execRffeExtRead src n v s
  | .rffeCmdUnknown src n v => Sys2Proof.Machine.execRffeCmdUnknown src n v s
  | .rffeCommandStart n => Sys2Proof.Machine.execRffeCommandStart n s
  | .rffeCommandDone n bytes perr => Sys2Proof.Machine.execRffeCommandDone n bytes perr s
  | .xchkClrWrite src half v => Sys2Proof.Machine.execXchkClrWrite src half v s
  | .bwBlockVerdict => Sys2Proof.Machine.execBwBlockVerdict s
  | .bwGranuleDecision => Sys2Proof.Machine.execBwGranuleDecision s
  | .cotExpiry => Sys2Proof.Machine.execCotExpiry s
  | .lbtQuery => Sys2Proof.Machine.execLbtQuery s
  | .fendCntClr src v => Sys2Proof.Machine.execFendCntClr src v s
  | .bwtrCntClr src v => Sys2Proof.Machine.execBwtrCntClr src v s
  | .monPassStart b => Sys2Proof.Machine.execMonPassStart b s
  | .monGo src b v => Sys2Proof.Machine.execMonGo src b v s
  | .monCtlWrite src b v => Sys2Proof.Machine.execMonCtlWrite src b v s
  | .monSeqWrite src b j v => Sys2Proof.Machine.execMonSeqWrite src b j v s
  | .monResultWrite b raws => Sys2Proof.Machine.execMonResultWrite b raws s
  | .monInjGo src b v => Sys2Proof.Machine.execMonInjGo src b v s
  | .monInjTrigger b => Sys2Proof.Machine.execMonInjTrigger b s
  | .monInjStart b => Sys2Proof.Machine.execMonInjStart b s
  | .monInjCtlWrite src b j v => Sys2Proof.Machine.execMonInjCtlWrite src b j v s
  | .monCalGo src b v => Sys2Proof.Machine.execMonCalGo src b v s
  | .monCalStart b => Sys2Proof.Machine.execMonCalStart b s
  | .monCalDone b ofs gain => Sys2Proof.Machine.execMonCalDone b ofs gain s
  | .monitorResultRead src b j => Sys2Proof.Machine.execMonitorResultRead src b j s
  | .monCntClr src v => Sys2Proof.Machine.execMonCntClr src v s
  | .holdRead granule err => Sys2Proof.Machine.execHoldRead granule err s
  | .scrubRead err => Sys2Proof.Machine.execScrubRead err s
  | .repairFuseBurn => Sys2Proof.Machine.execRepairFuseBurn s
  | .holdReady => Sys2Proof.Machine.execHoldReady s
  | .holdcCntClr src v => Sys2Proof.Machine.execHoldcCntClr src v s
  | .gaugeArm src c v => Sys2Proof.Machine.execGaugeArm src c v s
  | .gaugeStop src c v => Sys2Proof.Machine.execGaugeStop src c v s
  | .gaugeTrig src c v => Sys2Proof.Machine.execGaugeTrig src c v s
  | .gaugeCmdIgnored src c v => Sys2Proof.Machine.execGaugeCmdIgnored src c v s
  | .gtrigEdge rise => Sys2Proof.Machine.execGtrigEdge rise s
  | .gaugeTriggerDecide c => Sys2Proof.Machine.execGaugeTriggerDecide c s
  | .gaugeSetWrite c slack => Sys2Proof.Machine.execGaugeSetWrite c slack s
  | .gaugeSetDrop c => Sys2Proof.Machine.execGaugeSetDrop c s
  | .deepHclr src d v => Sys2Proof.Machine.execDeepHclr src d v s
  | .deepMclr src d v => Sys2Proof.Machine.execDeepMclr src d v s
  | .gaugeCntClr src v => Sys2Proof.Machine.execGaugeCntClr src v s
  | .replayGo src r v => Sys2Proof.Machine.execReplayGo src r v s
  | .replayStop src r v => Sys2Proof.Machine.execReplayStop src r v s
  | .replayStart r => Sys2Proof.Machine.execReplayStart r s
  | .replayEnd r => Sys2Proof.Machine.execReplayEnd r s
  | .craneGo src ch v => Sys2Proof.Machine.execCraneGo src ch v s
  | .craneKick src ch v => Sys2Proof.Machine.execCraneKick src ch v s
  | .cranePause src ch v => Sys2Proof.Machine.execCranePause src ch v s
  | .craneStop src ch v => Sys2Proof.Machine.execCraneStop src ch v s
  | .cranePaused ch => Sys2Proof.Machine.execCranePaused ch s
  | .manifestFetch ch => Sys2Proof.Machine.execManifestFetch ch s
  | .craneCopy ch pieces => Sys2Proof.Machine.execCraneCopy ch pieces s
  | .craneFill ch pieces => Sys2Proof.Machine.execCraneFill ch pieces s
  | .craneCompare ch pieces => Sys2Proof.Machine.execCraneCompare ch pieces s
  | .craneLink ch => Sys2Proof.Machine.execCraneLink ch s
  | .craneOpReserved ch => Sys2Proof.Machine.execCraneOpReserved ch s
  | .manifestWriteback ch => Sys2Proof.Machine.execManifestWriteback ch s
  | .craneAccessTimeout ch => Sys2Proof.Machine.execCraneAccessTimeout ch s
  | .remoteAnswerTimeout ch => Sys2Proof.Machine.execRemoteAnswerTimeout ch s
  | .craneCntClr src v => Sys2Proof.Machine.execCraneCntClr src v s
  | .thermMeasureStart => Sys2Proof.Machine.execThermMeasureStart s
  | .thermDemand src v => Sys2Proof.Machine.execThermDemand src v s
  | .thermMeasureDone l => Sys2Proof.Machine.execThermMeasureDone l s
  | .ladderEscalate => Sys2Proof.Machine.execLadderEscalate s
  | .ladderDescend => Sys2Proof.Machine.execLadderDescend s
  | .synClr src v => Sys2Proof.Machine.execSynClr src v s
  | .pilotPolicyAction row unit again => Sys2Proof.Machine.execPilotPolicyAction row unit again s
  | .tunerSteerTick p m code up => Sys2Proof.Machine.execTunerSteerTick p m code up s
  | .sessionGo src p v => Sys2Proof.Machine.execSessionGo src p v s
  | .sessionVerify src p v => Sys2Proof.Machine.execSessionVerify src p v s
  | .sessionClose src p v => Sys2Proof.Machine.execSessionClose src p v s
  | .sessionReqMulti src p k v => Sys2Proof.Machine.execSessionReqMulti src p k v s
  | .sessionTimeout p => Sys2Proof.Machine.execSessionTimeout p s
  | .lockExpiry p => Sys2Proof.Machine.execLockExpiry p s
  | .lockClr src v => Sys2Proof.Machine.execLockClr src v s
  | .zeroise src v => Sys2Proof.Machine.execZeroise src v s
  | .fuseProgram src v => Sys2Proof.Machine.execFuseProgram src v s
  | .fuseProg ok => Sys2Proof.Machine.execFuseProg ok s
  | .pilotReady => Sys2Proof.Machine.execPilotReady s
  | .pilotWatchdogExpiry => Sys2Proof.Machine.execPilotWatchdogExpiry s
  | .mbxVersion src p tag args => Sys2Proof.Machine.execMbxVersion src p tag args s
  | .mbxHealth src p tag args => Sys2Proof.Machine.execMbxHealth src p tag args s
  | .mbxTelemSet src p tag args => Sys2Proof.Machine.execMbxTelemSet src p tag args s
  | .mbxLogFind src p tag args => Sys2Proof.Machine.execMbxLogFind src p tag args s
  | .mbxTune src p tag args => Sys2Proof.Machine.execMbxTune src p tag args s
  | .mbxCalPolicy src p tag args => Sys2Proof.Machine.execMbxCalPolicy src p tag args s
  | .mbxPolicy src p tag args => Sys2Proof.Machine.execMbxPolicy src p tag args s
  | .mbxRetire src p tag args => Sys2Proof.Machine.execMbxRetire src p tag args s
  | .mbxRestore src p tag args => Sys2Proof.Machine.execMbxRestore src p tag args s
  | .mbxResolve src p tag args => Sys2Proof.Machine.execMbxResolve src p tag args s
  | .mbxSlipway src p tag args => Sys2Proof.Machine.execMbxSlipway src p tag args s
  | .mbxPilotReset src p tag args => Sys2Proof.Machine.execMbxPilotReset src p tag args s
  | .mbxUnknown src p opc tag args => Sys2Proof.Machine.execMbxUnknown src p opc tag args s
  | .mbxResponseComplete p fail => Sys2Proof.Machine.execMbxResponseComplete p fail s
  | .telemSnapshot => Sys2Proof.Machine.execTelemSnapshot s
  | .dbgReqOff src v => Sys2Proof.Machine.execDbgReqOff src v s
  | .dbgReqObserve src v => Sys2Proof.Machine.execDbgReqObserve src v s
  | .dbgReqIntrusive src v => Sys2Proof.Machine.execDbgReqIntrusive src v s
  | .dbgIntrusiveEnter => Sys2Proof.Machine.execDbgIntrusiveEnter s
  | .trstNAssert => Sys2Proof.Machine.execTrstNAssert s
  | .jtagBypass tdi => Sys2Proof.Machine.execJtagBypass tdi s
  | .jtagIdcode tdi => Sys2Proof.Machine.execJtagIdcode tdi s
  | .jtagSamplePreload tdi => Sys2Proof.Machine.execJtagSamplePreload tdi s
  | .jtagExtest tdi => Sys2Proof.Machine.execJtagExtest tdi s
  | .jtagDbgRead addr tdi => Sys2Proof.Machine.execJtagDbgRead addr tdi s
  | .jtagTrace tdi => Sys2Proof.Machine.execJtagTrace tdi s
  | .jtagDbgWrite addr v tdi => Sys2Proof.Machine.execJtagDbgWrite addr v tdi s
  | .jtagPilotHalt tdi => Sys2Proof.Machine.execJtagPilotHalt tdi s
  | .jtagPilotStep tdi => Sys2Proof.Machine.execJtagPilotStep tdi s
  | .jtagScan tdi => Sys2Proof.Machine.execJtagScan tdi s
  | .spiRead addr wait n => Sys2Proof.Machine.execSpiRead addr wait n s
  | .spiWrite addr words => Sys2Proof.Machine.execSpiWrite addr words s
  | .spiTransactionIgnored cmd addr data => Sys2Proof.Machine.execSpiTransactionIgnored cmd addr data s
  | .spiCsAbort addr data => Sys2Proof.Machine.execSpiCsAbort addr data s
  | .registerWrite src addr v => Sys2Proof.Machine.execRegisterWrite src addr v s
  | .evtW1cWrite src block v => Sys2Proof.Machine.execEvtW1cWrite src block v s
  | .loHiPairRead src addr hi => Sys2Proof.Machine.execLoHiPairRead src addr hi s
  | .rxaCtlWrite src v => Sys2Proof.Machine.execRxaCtlWrite src v s
  | .alignSetMissing l => Sys2Proof.Machine.execAlignSetMissing l s
  | .vnegRestored => Sys2Proof.Machine.execVnegRestored s
  | .tallyEraseDone ok => Sys2Proof.Machine.execTallyEraseDone ok s
  | .trstNRelease => Sys2Proof.Machine.execTrstNRelease s

end Sys2Proof.Machine
end

