-- ==== Sys2Proof/Safety.lean ====
section
/-! DEFINITION. What counts as a sound state and a safe step, and what a step may change, in the terms the statements use. -/

namespace Sys2Proof.Machine

/-- The canonical form of the three sparse stores: registers, windows and flash. -/
def State.canonical (s : State) : Bool :=
  sparseWf resetWord s.regs && Memory.wf s.mem && sparseWf (fun _ => (0xFF : BitVec 8)) s.flash

/-- The step from `s` does not stop. -/
def State.goesOn (s : State) : Prop := ∃ t, step s = .next t

/-- The areas of the state. -/
inductive Area
  /-- power and resets -/
  | power
  /-- pins -/
  | pins
  /-- the fuses -/
  | fuses
  /-- clocks -/
  | clk
  /-- boot and Slipway -/
  | boot
  /-- Tally's queue and log -/
  | tally
  /-- Tide -/
  | tide
  /-- receive chains -/
  | rx
  /-- transmit chains and sequencers -/
  | tx
  /-- predistortion -/
  | dpd
  /-- the Quay cores -/
  | quay
  /-- schedules and berths -/
  | berth
  /-- links -/
  | link
  /-- messages -/
  | msgs
  /-- the ring -/
  | ring
  /-- Lookout -/
  | look
  /-- the front end -/
  | fend
  /-- Breakwater -/
  | bwtr
  /-- monitor converters -/
  | mon
  /-- Hold and Gauge -/
  | hold
  /-- Crane -/
  | crane
  /-- thermal sensors -/
  | therm
  /-- the reserve and Pilot -/
  | rsv
  /-- sessions and debug -/
  | sec
  /-- the TAP -/
  | jtag
  /-- the _HI latches -/
  | hiLatch
  /-- the rate limits of events -/
  | limits
  /-- the register file -/
  | regs
  /-- the memory windows -/
  | mem
  /-- the flash images -/
  | flash
  /-- time -/
  | aon
  /-- what has left the block -/
  | out
  /-- the count of free values drawn -/
  | freeCtr
  deriving DecidableEq, Repr

/-- The place of an area in a set of areas. -/
def Area.bit : Area → Nat
  | .power => 0
  | .pins => 1
  | .fuses => 2
  | .clk => 3
  | .boot => 4
  | .tally => 5
  | .tide => 6
  | .rx => 7
  | .tx => 8
  | .dpd => 9
  | .quay => 10
  | .berth => 11
  | .link => 12
  | .msgs => 13
  | .ring => 14
  | .look => 15
  | .fend => 16
  | .bwtr => 17
  | .mon => 18
  | .hold => 19
  | .crane => 20
  | .therm => 21
  | .rsv => 22
  | .sec => 23
  | .jtag => 24
  | .hiLatch => 25
  | .limits => 26
  | .regs => 27
  | .mem => 28
  | .flash => 29
  | .aon => 30
  | .out => 31
  | .freeCtr => 32

/-- A set of areas, one bit each. -/
def areas (l : List Area) : Nat := l.foldl (fun m a => m ||| 2 ^ a.bit) 0

/-- The blocks of the register file (24_register_map.md R469). -/
inductive Block
  | top | pwr | clk | boot | rxa | rxd | txa | txd | dpd | qctl | berth | fhl | fhm | ring | tide | look | fend | bwtr | mon | gauge
  | holdc | crane | therm | rsv | pilot | sec | tally
  deriving DecidableEq, Repr

/-- The number of a block. -/
def Block.num : Block → Nat
  | .top => 0 | .pwr => 1 | .clk => 2 | .boot => 3 | .rxa => 4 | .rxd => 5 | .txa => 6 | .txd => 7 | .dpd => 8 | .qctl => 9
  | .berth => 10 | .fhl => 11 | .fhm => 12 | .ring => 13 | .tide => 14 | .look => 15 | .fend => 16 | .bwtr => 17 | .mon => 18
  | .gauge => 19 | .holdc => 20 | .crane => 21 | .therm => 22 | .rsv => 23 | .pilot => 24 | .sec => 25 | .tally => 26

/-- A set of register blocks: the register file, and one bit each from bit 33 on. -/
def blocks (l : List Block) : Nat := l.foldl (fun m b => m ||| 2 ^ Area.regs.bit ||| 2 ^ (33 + b.num)) 0

/-- From `s` to `t` nothing outside the areas of the set `m` has changed, and no register of a block outside it; the part and the queue are the same, stores in canonical
form stay so, time does not go back, what left the block is not taken back and free values are not drawn twice. -/
structure Moves (m : Nat) (s t : State) : Prop where
  part : t.part = s.part
  pending : t.pending = s.pending
  canonical : s.canonical = true → t.canonical = true
  time : s.aon ≤ t.aon
  sent : s.out <+: t.out
  draws : s.freeCtr ≤ t.freeCtr
  words : ∀ a, a / 0x10000 < 27 → m.testBit (33 + a / 0x10000) = false → t.word a = s.word a
  power : m.testBit 0 = false → t.power = s.power
  pins : m.testBit 1 = false → t.pins = s.pins
  fuses : m.testBit 2 = false → t.fuses = s.fuses
  clk : m.testBit 3 = false → t.clk = s.clk
  boot : m.testBit 4 = false → t.boot = s.boot
  tally : m.testBit 5 = false → t.tally = s.tally
  tide : m.testBit 6 = false → t.tide = s.tide
  rx : m.testBit 7 = false → t.rx = s.rx
  tx : m.testBit 8 = false → t.tx = s.tx
  dpd : m.testBit 9 = false → t.dpd = s.dpd
  quay : m.testBit 10 = false → t.quay = s.quay
  berth : m.testBit 11 = false → t.berth = s.berth
  link : m.testBit 12 = false → t.link = s.link
  msgs : m.testBit 13 = false → t.msgs = s.msgs
  ring : m.testBit 14 = false → t.ring = s.ring
  look : m.testBit 15 = false → t.look = s.look
  fend : m.testBit 16 = false → t.fend = s.fend
  bwtr : m.testBit 17 = false → t.bwtr = s.bwtr
  mon : m.testBit 18 = false → t.mon = s.mon
  hold : m.testBit 19 = false → t.hold = s.hold
  crane : m.testBit 20 = false → t.crane = s.crane
  therm : m.testBit 21 = false → t.therm = s.therm
  rsv : m.testBit 22 = false → t.rsv = s.rsv
  sec : m.testBit 23 = false → t.sec = s.sec
  jtag : m.testBit 24 = false → t.jtag = s.jtag
  hiLatch : m.testBit 25 = false → t.hiLatch = s.hiLatch
  limits : m.testBit 26 = false → t.limits = s.limits
  regs : m.testBit 27 = false → t.regs = s.regs
  mem : m.testBit 28 = false → t.mem = s.mem
  flash : m.testBit 29 = false → t.flash = s.flash
  aon : m.testBit 30 = false → t.aon = s.aon
  out : m.testBit 31 = false → t.out = s.out
  freeCtr : m.testBit 32 = false → t.freeCtr = s.freeCtr

/-- The event `code` stands in its block's EVT register. -/
def State.raised (s : State) (code info : Nat) : Bool := bitAt (s.word (evtAddr (code / 256))).toNat (evtBit code info)

/-- Nothing bars a write of the word `w` to the register at `a` by `src`: the register exists on this part, its block is live and the
source may write every field of the word (00_scope.md R3; 23_pilot_security_debug.md R448 to R450; 24_register_map.md R468). -/
def State.opens (s : State) (src : Source) (a : Nat) (w : Word) : Bool :=
  s.window a == 0 && (match findReg a with
    | none => false
    | some r => !s.regAbsent a && !(srcCrane src && a / 0x10000 == 0x15) && s.regLive a
      && (s.deniedFields src a w.toNat r).isEmpty && !s.writeDenied src a w.toNat r)

end Sys2Proof.Machine
end

