-- ==== Sys2Proof/Machine/Touches.lean ====
section
/-! DEFINITION. The frame of every command: the areas of the state and the register blocks that it may change. -/

namespace Sys2Proof.Machine

/-- Every area and every block but those of a list. -/
def allBut (l : List Area) : Nat := (2 ^ 60 - 1) ^^^ areas l

/-- What may follow any command: pins and events, and with them the coexistence input of Lookout, the mutes of Breakwater and the receive samples
that a change of the pins makes invalid. -/
def followed : Nat := areas [.pins, .tally, .rx, .msgs, .look, .bwtr, .jtag, .limits, .out] ||| blocks [.top, .rxa, .fhm, .look, .bwtr, .tally]

/-- The areas and blocks that a command may change, whatever the state. -/
def touches (i : Instr) : Nat :=
  match i with
  | .powerRemoved => allBut [.fuses, .flash, .aon, .out, .freeCtr]
  | .porNAssert => allBut [.fuses, .flash, .aon, .out, .freeCtr]
  | .porNRelease => areas [.power, .boot] ||| blocks [.boot]
  | .supervisorTrip => allBut [.fuses, .flash, .aon, .out, .freeCtr]
  | .supervisorRelease => areas [.power, .boot] ||| blocks [.boot]
  | .resetNAssert => allBut [.fuses, .flash, .aon, .out, .freeCtr]
  | .resetNRelease => areas [.power, .boot] ||| blocks [.boot]
  | .nvmNotBusy => followed ||| areas [.power]
  | .strapLatch .. => allBut [.fuses, .flash]
  | .imageLoaded .. => allBut [.fuses, .flash]
  | .cpllFirstLock => allBut [.fuses, .flash]
  | .startupCalDone .. => allBut [.fuses, .flash]
  | .confirmTimeout => allBut [.fuses, .flash, .freeCtr]
  | .deviceSelfReset => allBut [.fuses, .flash, .freeCtr]
  | .slipOpen .. => followed ||| areas [.boot, .dpd, .sec, .mem] ||| blocks [.boot, .dpd, .qctl, .holdc, .sec]
  | .slipWrite .. => followed ||| areas [.boot, .dpd, .sec, .mem] ||| blocks [.boot, .dpd, .qctl, .holdc, .sec]
  | .slipClose .. => followed ||| areas [.boot, .dpd, .sec, .mem] ||| blocks [.boot, .dpd, .qctl, .holdc, .sec]
  | .slipAbort .. => followed ||| areas [.boot, .dpd, .sec, .mem] ||| blocks [.boot, .dpd, .qctl, .holdc, .sec]
  | .slipConfirm .. => followed ||| areas [.boot, .dpd, .sec, .mem] ||| blocks [.boot, .dpd, .qctl, .holdc, .sec]
  | .slipOpReserved .. => followed ||| areas [.boot, .dpd, .sec, .mem] ||| blocks [.boot, .dpd, .qctl, .holdc, .sec]
  | .slipOpComplete .. => followed ||| areas [.boot, .flash, .freeCtr] ||| blocks [.boot]
  | .tallyProgramDone .. => followed ||| areas [.rsv] ||| blocks [.rsv]
  | .tallyCommitDone .. => followed ||| areas [.rsv] ||| blocks [.rsv]
  | .tallyAppendGo .. => followed ||| areas [.sec] ||| blocks [.sec]
  | .stateReqDryDock .. => allBut [.fuses, .flash]
  | .stateReqDoze .. => allBut [.fuses, .flash]
  | .stateReqQuiet .. => allBut [.fuses, .flash]
  | .stateReqRun .. => allBut [.fuses, .flash]
  | .stateReqReserved .. => allBut [.fuses, .flash]
  | .stateTransitionComplete => allBut [.fuses, .flash]
  | .runOffWrite .. => allBut [.fuses, .flash]
  | .avsUpdate .. => followed ||| areas [.power] ||| blocks [.pwr, .qctl]
  | .avsTransactionDone .. => followed ||| areas [.power, .tx, .berth, .fend, .hold, .crane, .mem, .freeCtr] ||| blocks [.pwr, .txa, .dpd, .berth, .fend, .gauge, .crane, .therm]
  | .avsCeiling => followed ||| areas [.tide, .tx, .berth, .fend, .hold, .crane, .mem, .aon, .freeCtr] ||| blocks [.pwr, .txa, .dpd, .berth, .tide, .fend, .gauge, .crane, .therm]
  | .avsCeilClear => followed ||| areas [.tide, .tx, .berth, .fend, .hold, .crane, .mem, .aon, .freeCtr] ||| blocks [.pwr, .txa, .dpd, .berth, .tide, .fend, .gauge, .crane, .therm]
  | .powerEstimate .. => followed ||| areas [.power, .tx, .berth, .fend, .hold, .crane, .mem, .freeCtr] ||| blocks [.pwr, .txa, .dpd, .berth, .fend, .gauge, .crane, .therm]
  | .rxAdcSample .. => followed ||| areas [.tide, .quay, .hold, .aon] ||| blocks [.rxd, .berth, .tide]
  | .rxIngressSpaceReturn .. => followed ||| areas [.quay, .hold] ||| blocks [.rxd, .berth]
  | .txSamplePlayout .. => followed ||| areas [.tide, .tx, .dpd, .hold, .mem, .aon] ||| blocks [.txd, .dpd, .tide, .gauge, .holdc]
  | .clrCnt .. => followed ||| areas [.sec] ||| blocks [.sec]
  | .clrMin .. => followed ||| areas [.sec] ||| blocks [.sec]
  | .refclkEdgeLoss => allBut [.fuses, .flash]
  | .freqMonitorWindow .. => allBut [.fuses, .flash]
  | .holdoverExpired => allBut [.fuses, .flash]
  | .cpllUnlock => allBut [.fuses, .flash]
  | .cpllLockRetry => followed ||| areas [.clk] ||| blocks [.clk]
  | .cpllRelock => followed ||| areas [.clk, .tide, .tx, .fend, .aon] ||| blocks [.clk, .rxd, .txa, .tide, .fend]
  | .synGo .. => allBut [.fuses, .flash, .freeCtr]
  | .synRetuneStart .. => followed ||| areas [.clk, .tide, .tx, .aon] ||| blocks [.clk, .txa, .tide]
  | .settleWindowEnd .. => followed ||| areas [.clk, .tide, .tx, .rsv, .aon] ||| blocks [.clk, .txa, .tide, .rsv]
  | .synLock .. => allBut [.fuses, .flash]
  | .synUnlock .. => followed ||| areas [.clk, .tx, .rsv] ||| blocks [.clk, .txa, .rsv]
  | .synLockRetry .. => followed ||| areas [.clk]
  | .synRelockTimeout .. => followed ||| areas [.tide, .rsv, .aon] ||| blocks [.tide, .rsv]
  | .swapMuteLift => followed ||| areas [.clk, .tide, .aon] ||| blocks [.clk, .tide]
  | .loRouteWrite .. => allBut [.fuses, .flash, .freeCtr]
  | .lodistDividerReset => followed ||| areas [.clk, .tide, .aon] ||| blocks [.tide]
  | .resync .. => allBut [.fuses, .flash, .freeCtr]
  | .lpllUnlock .. => allBut [.fuses, .flash]
  | .lpllLockRetry .. => followed ||| areas [.clk]
  | .lpllRelock .. => allBut [.fuses, .flash]
  | .sscApexApply .. => followed ||| areas [.clk]
  | .agcDecision => followed
  | .agcSuspendEnd => followed ||| areas [.tide, .aon] ||| blocks [.tide]
  | .agcCtlWrite .. => followed ||| areas [.berth, .ring, .rsv, .sec] ||| blocks [.rxd, .txa, .berth, .ring, .rsv, .sec]
  | .servoAverage .. => followed
  | .sliceExchange .. => followed ||| areas [.rsv] ||| blocks [.rsv]
  | .rxCalReq .. => followed ||| areas [.berth, .ring, .rsv, .sec] ||| blocks [.rxd, .txa, .berth, .ring, .rsv, .sec]
  | .rxCalStart => followed
  | .rxCalTimeout => followed ||| areas [.tide, .aon] ||| blocks [.tide]
  | .rxCalDone .. => followed ||| areas [.tide, .rsv, .aon, .freeCtr] ||| blocks [.rxd, .tide, .rsv]
  | .rxRetireWrite .. => followed ||| areas [.berth, .ring, .rsv, .sec] ||| blocks [.rxd, .txa, .berth, .ring, .rsv, .sec]
  | .rxaCntClrOvr .. => followed ||| areas [.berth, .ring, .rsv, .sec] ||| blocks [.rxd, .txa, .berth, .ring, .rsv, .sec]
  | .rxaCntClrAgc .. => followed ||| areas [.berth, .ring, .rsv, .sec] ||| blocks [.rxd, .txa, .berth, .ring, .rsv, .sec]
  | .rxdRunWrite .. => followed ||| areas [.tx, .quay, .berth, .ring, .hold, .sec] ||| blocks [.rxd, .qctl, .berth, .ring, .sec]
  | .rxdCfgWrite .. => followed ||| areas [.tx, .quay, .berth, .ring, .hold, .sec] ||| blocks [.rxd, .qctl, .berth, .ring, .sec]
  | .rxdNcoGo .. => followed ||| areas [.tx, .quay, .berth, .ring, .hold, .sec] ||| blocks [.rxd, .qctl, .berth, .ring, .sec]
  | .rxdNcoRetuneAt => followed ||| areas [.tide, .aon] ||| blocks [.rxd, .tide]
  | .rxdCntClrSat .. => followed ||| areas [.tx, .quay, .berth, .ring, .hold, .sec] ||| blocks [.rxd, .qctl, .berth, .ring, .sec]
  | .rxdCntClrInv .. => followed ||| areas [.tx, .quay, .berth, .ring, .hold, .sec] ||| blocks [.rxd, .qctl, .berth, .ring, .sec]
  | .txdRunWrite .. => followed ||| areas [.tx, .quay, .berth, .ring, .hold, .sec] ||| blocks [.txa, .txd, .qctl, .berth, .ring, .gauge, .sec]
  | .txdCfgWrite .. => followed ||| areas [.tx, .quay, .berth, .ring, .hold, .sec] ||| blocks [.txa, .txd, .qctl, .berth, .ring, .gauge, .sec]
  | .txdNcoGo .. => followed ||| areas [.tx, .quay, .berth, .ring, .hold, .sec] ||| blocks [.txa, .txd, .qctl, .berth, .ring, .gauge, .sec]
  | .txdNcoRetuneAt => followed ||| areas [.tide, .tx, .aon] ||| blocks [.txd, .tide]
  | .txGainApply => followed ||| areas [.tide, .aon] ||| blocks [.txd, .tide]
  | .txChainRestart => followed ||| areas [.tide, .tx, .aon] ||| blocks [.txa, .txd, .tide]
  | .txaCtlWrite .. => followed ||| areas [.tx, .berth, .ring, .rsv, .sec] ||| blocks [.txa, .berth, .ring, .rsv, .sec]
  | .txRetireWrite .. => followed ||| areas [.tx, .berth, .ring, .rsv, .sec] ||| blocks [.txa, .berth, .ring, .rsv, .sec]
  | .coexGntFall => followed ||| areas [.tx] ||| blocks [.txa, .fend]
  | .coexGntRise => followed ||| areas [.tx] ||| blocks [.txa, .fend]
  | .coexMuteLift => followed ||| areas [.tide, .tx, .aon] ||| blocks [.tide]
  | .txCalReq .. => followed ||| areas [.tx, .berth, .ring, .rsv, .sec] ||| blocks [.txa, .berth, .ring, .rsv, .sec]
  | .txCalStart => followed ||| areas [.tx] ||| blocks [.txa]
  | .txCalTimeout => followed ||| areas [.tide, .tx, .aon] ||| blocks [.txa, .tide]
  | .txCalDone .. => followed ||| areas [.tide, .tx, .aon, .freeCtr] ||| blocks [.txa, .tide]
  | .readbackGo .. => followed ||| areas [.tx, .berth, .ring, .rsv, .sec] ||| blocks [.txa, .berth, .ring, .rsv, .sec]
  | .readbackDone .. => followed ||| areas [.tx] ||| blocks [.txa]
  | .txdCntClrMute .. => followed ||| areas [.tx, .quay, .berth, .ring, .hold, .sec] ||| blocks [.txa, .txd, .qctl, .berth, .ring, .gauge, .sec]
  | .txdCntClrSat .. => followed ||| areas [.tx, .quay, .berth, .ring, .hold, .sec] ||| blocks [.txa, .txd, .qctl, .berth, .ring, .gauge, .sec]
  | .dpdCfgWrite .. => followed ||| areas [.tx, .dpd, .sec] ||| blocks [.dpd, .sec]
  | .dpdPctlWrite .. => followed ||| areas [.tx, .dpd, .sec] ||| blocks [.dpd, .sec]
  | .dpdBankWrite .. => followed ||| areas [.dpd, .sec, .mem] ||| blocks [.dpd, .qctl, .holdc, .sec]
  | .dpdSwapGo .. => followed ||| areas [.tx, .dpd, .sec] ||| blocks [.dpd, .sec]
  | .fadeComplete .. => followed ||| areas [.tide, .dpd, .mem, .aon] ||| blocks [.dpd, .tide]
  | .orxSlot .. => followed ||| areas [.dpd] ||| blocks [.txa, .dpd]
  | .dpdSolveDone .. => followed ||| areas [.dpd, .hold, .mem, .freeCtr] ||| blocks [.dpd, .gauge]
  | .refreshFadeStart .. => followed ||| areas [.dpd, .mem] ||| blocks [.dpd]
  | .orxSliceExchange .. => followed ||| areas [.dpd, .rsv] ||| blocks [.dpd, .rsv]
  | .dpdCntClrPath .. => followed ||| areas [.tx, .dpd, .sec] ||| blocks [.dpd, .sec]
  | .dpdCntClrDrop .. => followed ||| areas [.tx, .dpd, .sec] ||| blocks [.dpd, .sec]
  | .dpdCntClrActwr .. => followed ||| areas [.tx, .dpd, .sec] ||| blocks [.dpd, .sec]
  | .nop .. => followed ||| areas [.tx, .quay, .ring, .hold, .mem, .freeCtr] ||| blocks [.txd, .qctl, .berth, .ring]
  | .mac .. => followed ||| areas [.tx, .quay, .ring, .hold, .mem, .freeCtr] ||| blocks [.txd, .qctl, .berth, .ring]
  | .macc .. => followed ||| areas [.tx, .quay, .ring, .hold, .mem, .freeCtr] ||| blocks [.txd, .qctl, .berth, .ring]
  | .msu .. => followed ||| areas [.tx, .quay, .ring, .hold, .mem, .freeCtr] ||| blocks [.txd, .qctl, .berth, .ring]
  | .mul .. => followed ||| areas [.tx, .quay, .ring, .hold, .mem, .freeCtr] ||| blocks [.txd, .qctl, .berth, .ring]
  | .mulc .. => followed ||| areas [.tx, .quay, .ring, .hold, .mem, .freeCtr] ||| blocks [.txd, .qctl, .berth, .ring]
  | .mag2 .. => followed ||| areas [.tx, .quay, .ring, .hold, .mem, .freeCtr] ||| blocks [.txd, .qctl, .berth, .ring]
  | .adda .. => followed ||| areas [.tx, .quay, .ring, .hold, .mem, .freeCtr] ||| blocks [.txd, .qctl, .berth, .ring]
  | .zero .. => followed ||| areas [.tx, .quay, .ring, .hold, .mem, .freeCtr] ||| blocks [.txd, .qctl, .berth, .ring]
  | .shra .. => followed ||| areas [.tx, .quay, .ring, .hold, .mem, .freeCtr] ||| blocks [.txd, .qctl, .berth, .ring]
  | .nr .. => followed ||| areas [.tx, .quay, .ring, .hold, .mem, .freeCtr] ||| blocks [.txd, .qctl, .berth, .ring]
  | .nrc .. => followed ||| areas [.tx, .quay, .ring, .hold, .mem, .freeCtr] ||| blocks [.txd, .qctl, .berth, .ring]
  | .nro .. => followed ||| areas [.tx, .quay, .ring, .hold, .mem, .freeCtr] ||| blocks [.txd, .qctl, .berth, .ring]
  | .add .. => followed ||| areas [.tx, .quay, .ring, .hold, .mem, .freeCtr] ||| blocks [.txd, .qctl, .berth, .ring]
  | .sub .. => followed ||| areas [.tx, .quay, .ring, .hold, .mem, .freeCtr] ||| blocks [.txd, .qctl, .berth, .ring]
  | .cmul .. => followed ||| areas [.tx, .quay, .ring, .hold, .mem, .freeCtr] ||| blocks [.txd, .qctl, .berth, .ring]
  | .conj .. => followed ||| areas [.tx, .quay, .ring, .hold, .mem, .freeCtr] ||| blocks [.txd, .qctl, .berth, .ring]
  | .neg .. => followed ||| areas [.tx, .quay, .ring, .hold, .mem, .freeCtr] ||| blocks [.txd, .qctl, .berth, .ring]
  | .movv .. => followed ||| areas [.tx, .quay, .ring, .hold, .mem, .freeCtr] ||| blocks [.txd, .qctl, .berth, .ring]
  | .rot .. => followed ||| areas [.tx, .quay, .ring, .hold, .mem, .freeCtr] ||| blocks [.txd, .qctl, .berth, .ring]
  | .bcast .. => followed ||| areas [.tx, .quay, .ring, .hold, .mem, .freeCtr] ||| blocks [.txd, .qctl, .berth, .ring]
  | .out .. => followed ||| areas [.tx, .quay, .ring, .hold, .mem, .freeCtr] ||| blocks [.txd, .qctl, .berth, .ring]
  | .loop .. => followed ||| areas [.tx, .quay, .ring, .hold, .mem, .freeCtr] ||| blocks [.txd, .qctl, .berth, .ring]
  | .jmp .. => followed ||| areas [.tx, .quay, .ring, .hold, .mem, .freeCtr] ||| blocks [.txd, .qctl, .berth, .ring]
  | .movr .. => followed ||| areas [.tx, .quay, .ring, .hold, .mem, .freeCtr] ||| blocks [.txd, .qctl, .berth, .ring]
  | .halt .. => followed ||| areas [.tx, .quay, .ring, .hold, .mem, .freeCtr] ||| blocks [.txd, .qctl, .berth, .ring]
  | .illegalBundle .. => followed ||| areas [.tx, .quay, .ring, .hold, .mem, .freeCtr] ||| blocks [.txd, .qctl, .berth, .ring]
  | .unitDeal .. => followed ||| areas [.tide, .tx, .quay, .ring, .hold, .aon] ||| blocks [.txd, .qctl, .berth, .ring, .tide]
  | .quayWindowWrite .. => followed ||| areas [.dpd, .sec, .mem] ||| blocks [.dpd, .qctl, .holdc, .sec]
  | .coreRunWrite .. => followed ||| areas [.tx, .quay, .hold, .sec, .mem] ||| blocks [.txd, .qctl, .berth, .sec]
  | .clusterCtlWrite .. => followed ||| areas [.tx, .quay, .hold, .sec, .mem] ||| blocks [.txd, .qctl, .berth, .sec]
  | .shadowTurn .. => followed ||| areas [.tide, .tx, .quay, .hold, .mem, .aon] ||| blocks [.txd, .qctl, .berth, .tide]
  | .coreSwapGo .. => followed ||| areas [.tx, .quay, .hold, .sec, .mem] ||| blocks [.txd, .qctl, .berth, .sec]
  | .coreSwapSwitch .. => followed ||| areas [.tide, .quay, .rsv, .aon] ||| blocks [.qctl, .tide, .rsv]
  | .schedAdd .. => followed ||| areas [.berth, .sec] ||| blocks [.berth, .sec]
  | .schedCancel .. => followed ||| areas [.berth, .sec] ||| blocks [.berth, .sec]
  | .schedFlush .. => followed ||| areas [.berth, .sec] ||| blocks [.berth, .sec]
  | .schedOpReserved .. => followed ||| areas [.berth, .sec] ||| blocks [.berth, .sec]
  | .berthStage .. => followed ||| areas [.tide, .berth, .aon] ||| blocks [.berth, .tide]
  | .berthSwitch .. => followed ||| areas [.tide, .tx, .dpd, .quay, .berth, .ring, .fend, .mem, .aon] ||| blocks [.txa, .dpd, .berth, .tide, .fend]
  | .berthWindowWrite .. => allBut [.fuses, .flash]
  | .maskApply .. => followed ||| areas [.tide, .tx, .berth, .ring, .fend, .aon] ||| blocks [.txa, .berth, .tide, .fend]
  | .alignWrite .. => followed ||| areas [.berth, .sec] ||| blocks [.berth, .sec]
  | .alignApply .. => followed ||| areas [.tide, .tx, .berth, .aon] ||| blocks [.tide]
  | .bcalReq .. => followed ||| areas [.berth, .sec] ||| blocks [.berth, .sec]
  | .bcalStart => followed ||| areas [.tx, .berth] ||| blocks [.berth]
  | .bcalTimeout => followed ||| areas [.tide, .berth, .aon] ||| blocks [.berth, .tide]
  | .bcalDone .. => followed ||| areas [.tide, .berth, .aon, .freeCtr] ||| blocks [.berth, .tide]
  | .berthCntClrSat .. => followed ||| areas [.berth, .sec] ||| blocks [.berth, .sec]
  | .berthCntClrRef .. => followed ||| areas [.berth, .sec] ||| blocks [.berth, .sec]
  | .alignSetReceived .. => allBut [.fuses, .flash]
  | .signalDetect .. => allBut [.fuses, .flash]
  | .trainStateTimeout .. => allBut [.fuses, .flash]
  | .trainTimeout .. => allBut [.fuses, .flash]
  | .retrainStart .. => allBut [.fuses, .flash]
  | .dataColumnReceived .. => allBut [.fuses, .flash]
  | .laneSignalLoss .. => allBut [.fuses, .flash]
  | .requalAttemptDone .. => allBut [.fuses, .flash]
  | .remapStalled .. => followed ||| areas [.link] ||| blocks [.fhl, .ring]
  | .fwdClockLoss .. => allBut [.fuses, .flash]
  | .dfeAdapt .. => followed ||| blocks [.fhl, .ring]
  | .ctleAdapt .. => followed ||| blocks [.fhl, .ring]
  | .eyeMeasure .. => followed ||| blocks [.fhl, .ring]
  | .fhlRetrainA .. => allBut [.fuses, .flash]
  | .fhlRetrainB .. => allBut [.fuses, .flash]
  | .fhlCntClr .. => allBut [.fuses, .flash]
  | .linkFrameRx .. => allBut [.fuses, .flash]
  | .txSectionRx .. => followed
  | .rxSectionForm .. => followed ||| areas [.quay]
  | .rxsCfgWrite .. => followed ||| areas [.quay, .sec] ||| blocks [.sec]
  | .rtcBerthAdd .. => followed ||| areas [.clk, .tide, .tx, .berth, .aon] ||| blocks [.clk, .rxd, .txa, .txd, .berth, .tide, .sec]
  | .rtcBerthCancel .. => followed ||| areas [.clk, .tide, .tx, .berth, .aon] ||| blocks [.clk, .rxd, .txa, .txd, .berth, .tide, .sec]
  | .rtcBerthFlush .. => followed ||| areas [.clk, .tide, .tx, .berth, .aon] ||| blocks [.clk, .rxd, .txa, .txd, .berth, .tide, .sec]
  | .rtcGapGrant .. => followed ||| areas [.clk, .tide, .tx, .berth, .aon] ||| blocks [.clk, .rxd, .txa, .txd, .berth, .tide, .sec]
  | .rtcGapRevoke .. => followed ||| areas [.clk, .tide, .tx, .berth, .aon] ||| blocks [.clk, .rxd, .txa, .txd, .berth, .tide, .sec]
  | .rtcNcoRetune .. => followed ||| areas [.clk, .tide, .tx, .berth, .aon] ||| blocks [.clk, .rxd, .txa, .txd, .berth, .tide, .sec]
  | .rtcSynRetune .. => followed ||| areas [.clk, .tide, .tx, .berth, .aon] ||| blocks [.clk, .rxd, .txa, .txd, .berth, .tide, .sec]
  | .rtcUnknown .. => followed ||| areas [.clk, .tide, .tx, .berth, .aon] ||| blocks [.clk, .rxd, .txa, .txd, .berth, .tide, .sec]
  | .gapBegin => followed ||| areas [.tide, .tx, .berth, .ring, .aon] ||| blocks [.txa, .berth, .ring, .tide]
  | .gapEnd => followed ||| areas [.tide, .aon] ||| blocks [.tide]
  | .rmaRead .. => allBut [.fuses, .flash]
  | .rmaWrite .. => allBut [.fuses, .flash]
  | .rmaWriteNoResp .. => allBut [.fuses, .flash]
  | .rmaResponseRx .. => followed ||| areas [.crane]
  | .resetRequest .. => allBut [.fuses, .flash, .aon, .freeCtr]
  | .eventMsgSend => followed
  | .fhmCtlWrite .. => followed ||| areas [.quay, .sec] ||| blocks [.sec]
  | .fhmCntClr .. => followed ||| areas [.quay, .sec] ||| blocks [.sec]
  | .memberJoin .. => followed ||| areas [.tx, .quay, .berth, .ring, .hold] ||| blocks [.rxd, .txa, .txd, .qctl, .berth, .ring, .gauge]
  | .ringTopoReport .. => followed ||| areas [.ring]
  | .routeSwitch .. => followed ||| areas [.tide, .berth, .ring, .aon] ||| blocks [.berth, .ring, .tide]
  | .psumSectionRx .. => followed ||| areas [.ring]
  | .psumTimeout .. => followed ||| areas [.tide, .quay, .aon] ||| blocks [.ring, .tide]
  | .layerForward .. => followed ||| areas [.ring]
  | .panelSumsRx .. => followed ||| areas [.ring]
  | .ringSyncGo .. => allBut [.fuses, .flash]
  | .ringSync .. => followed ||| areas [.clk, .tide, .berth, .ring, .aon] ||| blocks [.berth, .ring, .tide]
  | .xcalReq .. => allBut [.fuses, .flash]
  | .xcalStart => followed ||| areas [.ring] ||| blocks [.ring]
  | .xcalDone .. => followed ||| areas [.tide, .berth, .ring, .aon, .freeCtr] ||| blocks [.berth, .ring, .tide]
  | .ringRetrainE .. => allBut [.fuses, .flash]
  | .ringRetrainW .. => allBut [.fuses, .flash]
  | .ringCntClr .. => allBut [.fuses, .flash]
  | .tideExchangeStart => followed ||| areas [.tide]
  | .type5MessageRx .. => allBut [.fuses, .flash]
  | .tideExchangeComplete => allBut [.fuses, .flash]
  | .tideExchangeLost => followed ||| areas [.tide, .aon] ||| blocks [.tide]
  | .tideHold => followed ||| areas [.tide, .aon] ||| blocks [.tide]
  | .tideAck .. => followed ||| areas [.tide, .sec] ||| blocks [.tide, .fend, .sec]
  | .tideAsymWrite .. => followed ||| areas [.tide, .sec] ||| blocks [.tide, .fend, .sec]
  | .tideCntClr .. => followed ||| areas [.tide, .sec] ||| blocks [.tide, .fend, .sec]
  | .toAdd .. => followed ||| areas [.tide, .sec] ||| blocks [.tide, .fend, .sec]
  | .toFlush .. => followed ||| areas [.tide, .sec] ||| blocks [.tide, .fend, .sec]
  | .toOpReserved .. => followed ||| areas [.tide, .sec] ||| blocks [.tide, .fend, .sec]
  | .timedOutputEdge .. => followed ||| areas [.tide, .aon] ||| blocks [.tide, .fend]
  | .tpulseModeWrite .. => followed ||| areas [.tide, .sec] ||| blocks [.tide, .fend, .sec]
  | .coexActRise => followed ||| blocks [.fend]
  | .coexActFall => followed ||| blocks [.fend]
  | .edBinEnd .. => followed ||| areas [.tide, .aon] ||| blocks [.tide]
  | .stfDetect .. => followed ||| areas [.hold] ||| blocks [.gauge]
  | .ltfSync .. => followed
  | .ltfTimeout .. => followed ||| areas [.tide, .aon] ||| blocks [.tide]
  | .lsigDecode .. => followed ||| areas [.tide, .aon] ||| blocks [.tide]
  | .watcherBusyEnd .. => followed ||| areas [.tide, .aon] ||| blocks [.tide]
  | .lookCtlWrite .. => followed ||| areas [.sec] ||| blocks [.sec]
  | .lookCfgWrite .. => followed ||| areas [.sec] ||| blocks [.sec]
  | .lookCntClr .. => followed ||| areas [.sec] ||| blocks [.sec]
  | .biasWrite .. => followed ||| areas [.tide, .fend, .sec] ||| blocks [.fend, .sec]
  | .paCmdOn .. => followed ||| areas [.tide, .fend, .sec] ||| blocks [.fend, .sec]
  | .paCmdOff .. => followed ||| areas [.tide, .fend, .sec] ||| blocks [.fend, .sec]
  | .paCmdIgnored .. => followed ||| areas [.tide, .fend, .sec] ||| blocks [.fend, .sec]
  | .paDrainWaitEnd .. => followed ||| areas [.tide, .fend, .aon] ||| blocks [.tide, .fend]
  | .paBiasArrived .. => followed ||| areas [.tide, .fend, .aon] ||| blocks [.tide, .fend]
  | .feFaultDrainOff => followed ||| areas [.tide, .fend, .aon] ||| blocks [.tide, .fend]
  | .vnegFault => followed ||| areas [.tide, .fend] ||| blocks [.fend]
  | .synUnlockFault => followed ||| areas [.tide, .fend, .aon] ||| blocks [.tide, .fend]
  | .rffeWrite .. => followed ||| areas [.tide, .fend, .sec] ||| blocks [.fend, .sec]
  | .rffeRead .. => followed ||| areas [.tide, .fend, .sec] ||| blocks [.fend, .sec]
  | .rffeReg0Write .. => followed ||| areas [.tide, .fend, .sec] ||| blocks [.fend, .sec]
  | .rffeExtWrite .. => followed ||| areas [.tide, .fend, .sec] ||| blocks [.fend, .sec]
  | .rffeExtRead .. => followed ||| areas [.tide, .fend, .sec] ||| blocks [.fend, .sec]
  | .rffeCmdUnknown .. => followed ||| areas [.tide, .fend, .sec] ||| blocks [.fend, .sec]
  | .rffeCommandStart .. => followed ||| areas [.tide, .fend, .aon] ||| blocks [.tide, .fend]
  | .rffeCommandDone .. => followed ||| areas [.tide, .fend, .aon] ||| blocks [.tide, .fend]
  | .xchkClrWrite .. => followed ||| areas [.sec] ||| blocks [.sec]
  | .bwBlockVerdict => followed
  | .bwGranuleDecision => followed ||| areas [.tide, .aon] ||| blocks [.tide]
  | .cotExpiry => followed ||| areas [.tide, .aon] ||| blocks [.tide]
  | .lbtQuery => followed ||| areas [.tide, .aon] ||| blocks [.tide]
  | .fendCntClr .. => followed ||| areas [.tide, .fend, .sec] ||| blocks [.fend, .sec]
  | .bwtrCntClr .. => followed ||| areas [.sec] ||| blocks [.sec]
  | .monPassStart .. => followed ||| areas [.tide, .mon, .aon] ||| blocks [.tide, .mon]
  | .monGo .. => followed ||| areas [.mon, .sec] ||| blocks [.mon, .sec]
  | .monCtlWrite .. => followed ||| areas [.mon, .sec] ||| blocks [.mon, .sec]
  | .monSeqWrite .. => followed ||| areas [.mon, .sec] ||| blocks [.mon, .sec]
  | .monResultWrite .. => followed ||| areas [.tide, .fend, .mon, .hold, .aon, .freeCtr] ||| blocks [.tide, .fend, .mon, .gauge]
  | .monInjGo .. => followed ||| areas [.mon, .sec] ||| blocks [.mon, .sec]
  | .monInjTrigger .. => followed ||| areas [.tide, .mon, .aon] ||| blocks [.tide, .mon]
  | .monInjStart .. => followed ||| areas [.tide, .mon, .aon] ||| blocks [.tide, .mon]
  | .monInjCtlWrite .. => followed ||| areas [.mon, .sec] ||| blocks [.mon, .sec]
  | .monCalGo .. => followed ||| areas [.mon, .sec] ||| blocks [.mon, .sec]
  | .monCalStart .. => followed ||| areas [.tide, .mon, .aon] ||| blocks [.tide, .mon]
  | .monCalDone .. => followed ||| areas [.tide, .mon, .aon] ||| blocks [.tide, .mon]
  | .monitorResultRead .. => followed ||| areas [.sec, .hiLatch] ||| blocks [.txa, .dpd, .fhl, .ring, .fend, .mon, .gauge, .holdc, .therm, .pilot, .sec]
  | .monCntClr .. => followed ||| areas [.mon, .sec] ||| blocks [.mon, .sec]
  | .holdRead .. => followed ||| areas [.hold, .rsv] ||| blocks [.holdc, .rsv]
  | .scrubRead .. => followed ||| areas [.hold, .rsv] ||| blocks [.holdc, .rsv]
  | .repairFuseBurn => followed ||| areas [.fuses, .hold] ||| blocks [.holdc]
  | .holdReady => followed ||| blocks [.holdc]
  | .holdcCntClr .. => followed ||| areas [.sec] ||| blocks [.holdc, .sec]
  | .gaugeArm .. => followed ||| areas [.hold, .sec, .mem, .freeCtr] ||| blocks [.gauge, .sec]
  | .gaugeStop .. => followed ||| areas [.hold, .sec, .mem, .freeCtr] ||| blocks [.gauge, .sec]
  | .gaugeTrig .. => followed ||| areas [.hold, .sec, .mem, .freeCtr] ||| blocks [.gauge, .sec]
  | .gaugeCmdIgnored .. => followed ||| areas [.hold, .sec, .mem, .freeCtr] ||| blocks [.gauge, .sec]
  | .gtrigEdge .. => followed ||| areas [.hold] ||| blocks [.gauge]
  | .gaugeTriggerDecide .. => followed ||| areas [.tide, .hold, .mem, .aon, .freeCtr] ||| blocks [.tide, .gauge]
  | .gaugeSetWrite .. => followed ||| areas [.hold, .mem, .freeCtr] ||| blocks [.gauge, .holdc]
  | .gaugeSetDrop .. => followed ||| areas [.hold, .mem, .freeCtr] ||| blocks [.gauge]
  | .deepHclr .. => followed ||| areas [.hold, .sec, .mem, .freeCtr] ||| blocks [.gauge, .sec]
  | .deepMclr .. => followed ||| areas [.hold, .sec, .mem, .freeCtr] ||| blocks [.gauge, .sec]
  | .gaugeCntClr .. => followed ||| areas [.hold, .sec, .mem, .freeCtr] ||| blocks [.gauge, .sec]
  | .replayGo .. => followed ||| areas [.hold, .sec, .mem, .freeCtr] ||| blocks [.gauge, .sec]
  | .replayStop .. => followed ||| areas [.hold, .sec, .mem, .freeCtr] ||| blocks [.gauge, .sec]
  | .replayStart .. => followed ||| areas [.tide, .hold, .aon] ||| blocks [.tide, .gauge, .holdc]
  | .replayEnd .. => followed ||| areas [.tide, .hold, .aon] ||| blocks [.tide, .gauge]
  | .craneGo .. => followed ||| areas [.crane, .sec, .mem] ||| blocks [.crane, .sec]
  | .craneKick .. => followed ||| areas [.crane, .sec, .mem] ||| blocks [.crane, .sec]
  | .cranePause .. => followed ||| areas [.crane, .sec, .mem] ||| blocks [.crane, .sec]
  | .craneStop .. => followed ||| areas [.crane, .sec, .mem] ||| blocks [.crane, .sec]
  | .cranePaused .. => followed ||| areas [.crane, .mem] ||| blocks [.crane]
  | .manifestFetch .. => followed ||| areas [.crane] ||| blocks [.crane]
  | .craneCopy .. => allBut [.fuses, .flash]
  | .craneFill .. => allBut [.fuses, .flash]
  | .craneCompare .. => allBut [.fuses, .flash]
  | .craneLink .. => followed ||| areas [.crane] ||| blocks [.crane]
  | .craneOpReserved .. => followed ||| areas [.crane]
  | .manifestWriteback .. => followed ||| areas [.crane, .mem] ||| blocks [.crane]
  | .craneAccessTimeout .. => followed ||| areas [.crane] ||| blocks [.crane]
  | .remoteAnswerTimeout .. => followed ||| areas [.tide, .crane, .aon] ||| blocks [.tide]
  | .craneCntClr .. => followed ||| areas [.crane, .sec, .mem] ||| blocks [.crane, .sec]
  | .thermMeasureStart => followed ||| areas [.tide, .therm, .aon] ||| blocks [.tide]
  | .thermDemand .. => followed ||| areas [.therm, .sec] ||| blocks [.therm, .sec]
  | .thermMeasureDone .. => allBut [.fuses, .flash]
  | .ladderEscalate => followed ||| areas [.tide, .tx, .berth, .fend, .hold, .crane, .therm, .mem, .aon, .freeCtr] ||| blocks [.txa, .dpd, .berth, .tide, .fend, .gauge, .crane, .therm]
  | .ladderDescend => followed ||| areas [.tide, .tx, .berth, .fend, .hold, .crane, .therm, .mem, .aon, .freeCtr] ||| blocks [.txa, .dpd, .berth, .tide, .fend, .gauge, .crane, .therm]
  | .synClr .. => followed ||| areas [.clk, .rsv, .sec] ||| blocks [.rsv, .sec]
  | .pilotPolicyAction .. => followed ||| areas [.clk, .tide, .tx, .quay, .berth, .ring, .hold, .rsv, .mem, .aon] ||| blocks [.clk, .rxd, .txa, .txd, .qctl, .berth, .ring, .tide, .rsv]
  | .tunerSteerTick .. => followed ||| areas [.fend, .rsv] ||| blocks [.fend]
  | .sessionGo .. => allBut [.fuses, .flash, .aon]
  | .sessionVerify .. => allBut [.fuses, .flash, .aon]
  | .sessionClose .. => allBut [.fuses, .flash, .aon]
  | .sessionReqMulti .. => allBut [.fuses, .flash, .aon]
  | .sessionTimeout .. => allBut [.fuses, .flash, .freeCtr]
  | .lockExpiry .. => followed ||| areas [.tide, .sec, .aon] ||| blocks [.tide, .sec]
  | .lockClr .. => allBut [.fuses, .flash, .aon]
  | .zeroise .. => allBut [.fuses, .flash, .aon]
  | .fuseProgram .. => allBut [.fuses, .flash, .aon]
  | .fuseProg .. => followed ||| areas [.fuses, .tide, .sec, .aon, .freeCtr] ||| blocks [.tide, .sec]
  | .pilotReady => followed ||| areas [.rsv] ||| blocks [.pilot]
  | .pilotWatchdogExpiry => allBut [.power, .fuses, .clk, .boot, .tide, .tx, .dpd, .quay, .berth, .link, .ring, .fend, .mon, .hold, .crane, .therm, .sec, .hiLatch, .mem, .flash, .aon, .freeCtr]
  | .mbxVersion .. => allBut [.fuses, .flash]
  | .mbxHealth .. => allBut [.fuses, .flash]
  | .mbxTelemSet .. => allBut [.fuses, .flash]
  | .mbxLogFind .. => allBut [.fuses, .flash]
  | .mbxTune .. => allBut [.fuses, .flash]
  | .mbxCalPolicy .. => allBut [.fuses, .flash]
  | .mbxPolicy .. => allBut [.fuses, .flash]
  | .mbxRetire .. => allBut [.fuses, .flash]
  | .mbxRestore .. => allBut [.fuses, .flash]
  | .mbxResolve .. => allBut [.fuses, .flash]
  | .mbxSlipway .. => allBut [.fuses, .flash]
  | .mbxPilotReset .. => allBut [.fuses, .flash]
  | .mbxUnknown .. => allBut [.fuses, .flash]
  | .mbxResponseComplete .. => allBut [.power, .fuses, .dpd, .link, .fend, .mon, .crane, .therm, .sec, .hiLatch]
  | .telemSnapshot => followed ||| areas [.tide, .crane, .rsv, .aon] ||| blocks [.tide, .pilot]
  | .dbgReqOff .. => allBut [.fuses, .flash, .aon]
  | .dbgReqObserve .. => allBut [.fuses, .flash, .aon]
  | .dbgReqIntrusive .. => allBut [.fuses, .flash, .aon]
  | .dbgIntrusiveEnter => allBut [.fuses, .flash, .aon, .freeCtr]
  | .trstNAssert => areas [.pins, .jtag] ||| blocks [.top]
  | .jtagBypass .. => followed
  | .jtagIdcode .. => followed
  | .jtagSamplePreload .. => followed ||| areas [.freeCtr]
  | .jtagExtest .. => followed ||| areas [.freeCtr]
  | .jtagDbgRead .. => followed ||| areas [.sec, .hiLatch] ||| blocks [.txa, .dpd, .fhl, .ring, .fend, .mon, .gauge, .holdc, .therm, .pilot, .sec]
  | .jtagTrace .. => followed
  | .jtagDbgWrite .. => allBut [.fuses, .flash]
  | .jtagPilotHalt .. => followed ||| areas [.rsv]
  | .jtagPilotStep .. => followed ||| areas [.rsv]
  | .jtagScan .. => followed ||| areas [.freeCtr]
  | .spiRead .. => allBut [.fuses, .flash]
  | .spiWrite .. => allBut [.fuses, .flash]
  | .spiTransactionIgnored .. => allBut [.fuses, .flash]
  | .spiCsAbort .. => allBut [.fuses, .flash]
  | .registerWrite .. => allBut [.fuses, .flash]
  | .evtW1cWrite .. => allBut [.fuses, .flash]
  | .loHiPairRead .. => followed ||| areas [.sec, .hiLatch] ||| blocks [.txa, .dpd, .fhl, .ring, .fend, .mon, .gauge, .holdc, .therm, .pilot, .sec]
  | .rxaCtlWrite .. => followed ||| areas [.berth, .ring, .rsv, .sec] ||| blocks [.rxd, .txa, .berth, .ring, .rsv, .sec]
  | .alignSetMissing .. => allBut [.fuses, .flash]
  | .vnegRestored => followed ||| areas [.fend] ||| blocks [.fend]
  | .tallyEraseDone .. => followed ||| areas [.rsv] ||| blocks [.rsv]
  | .trstNRelease => areas [.pins]

end Sys2Proof.Machine
end

