-- ==== Sys2Proof/Certificates/Slice0/Obligations.lean ====
section
/-! DEFINITION. The statements for the provers. Those of the second part collect, family by family, what every command of the table does where it takes
effect: each clause names the next state, for every state and operands that meet its hypotheses. -/

open Sys2Proof Sys2Proof.Machine

/-! ## The whole block -/

/-- Commands are taken in the order in which they arrive: a step carries out the command at the front of the queue on the state with the rest
of the queue (R471). -/
def Obligations.CommandsAreTakenInOrder : Prop :=
  ∀ (c : Instr) (q : List Instr) (s : State), s.pending = c :: q → step s = exec c { s with pending := q }

/-- On an empty queue one tick of the clock in use passes, and nothing else happens; a device that is off or held in reset stands still. The
model's choice: log entry 1. -/
def Obligations.EmptyQueuePassesATick : Prop :=
  ∀ s : State, s.pending = [] →
    step s = .next s.tick ∧ (s.on = false → s.tick = s) ∧
      (s.on = true → s.tick.aon = s.aon + s.tickUnits ∧ s.tick.pending = [] ∧
        Moves (areas [.clk, .tide, .aon] ||| blocks [.tide]) s s.tick)

/-- No command and no tick stops the block: every step answers a next state. -/
def Obligations.EveryStepGoesOn : Prop := ∀ s : State, s.goesOn

/-- The canonical form of the register file, of the memory windows and of the flash images is an invariant of every step. -/
def Obligations.StepKeepsCanonicalStores : Prop :=
  ∀ s t : State, s.canonical = true → step s = .next t → t.canonical = true

/-- After reset the stores are in canonical form, with nothing listed in them, no command waits, and every register holds the value of the Reset
column of its field table (R475), among them SLEW_NS of Tide, 20 ns/s (R305), and the slack meters' least values, 0xFFFF. -/
def Obligations.ResetIsCanonicalAndIdle : Prop :=
  (State.reset.canonical = true ∧ State.reset.pending = [] ∧ State.reset.regs = [] ∧ State.reset.mem = [] ∧ State.reset.flash = [] ∧
    State.reset.out = [] ∧ State.reset.on = true) ∧
  (∀ a : Nat, State.reset.word a = resetWord a) ∧ State.reset.get F.TIDE_LIM_SLEW_NS = 20 ∧
    (∀ m : Nat, m < 8 → State.reset.get (F.TOP_DRIFT_MIN_NS m) = 0xFFFF)

/-- The frame of every command: from any state it changes nothing outside the areas and the register blocks that `touches` lists for it, and
leaves the part and the queue as they are. -/
def Obligations.EachCommandTouchesOnlyItsAreas : Prop :=
  ∀ (c : Instr) (s t : State), exec c s = .next t → Moves (touches c) s t

/-- While the device is off or held in reset (R35, R36) every command but those of the supply, the reset inputs and TRST_N does nothing. -/
def Obligations.DeviceInResetIgnoresCommands : Prop :=
  ∀ (c : Instr) (s : State), s.on = false →
    c ∉ [.powerRemoved, .porNAssert, .porNRelease, .supervisorTrip, .supervisorRelease, .resetNAssert, .resetNRelease, .trstNAssert,
      .trstNRelease] →
    exec c s = .next s

/-- What no step undoes: the part stays, time does not go back, what left the block stands, no free value is drawn twice, and the queue only
loses its front. -/
def Obligations.StepsUndoNothing : Prop :=
  ∀ s t : State, step s = .next t →
    t.part = s.part ∧ s.aon ≤ t.aon ∧ s.out <+: t.out ∧ s.freeCtr ≤ t.freeCtr ∧ t.pending = s.pending.tail

/-- The images in flash change only where Slipway completes an operation (R98), on its own or for a mailbox command (R458); the fuses only
where a burn of the SEC fuses (R466) or of Hold's repair fuses (R379) is done. -/
def Obligations.FlashAndFusesChangeOnlyByTheirCommands : Prop :=
  ∀ (c : Instr) (s t : State), exec c s = .next t →
    (t.flash ≠ s.flash → (∃ r, c = .slipOpComplete r) ∨ ∃ p f, c = .mbxResponseComplete p f) ∧
      (t.fuses ≠ s.fuses → (∃ ok, c = .fuseProg ok) ∨ c = .repairFuseBurn)

/-- RESET_N keeps what is of class P: BOOT.RETAIN, FAIL_A, FAIL_B, the violations, FAILS of the ports, Pilot's resets and the synthesisers' wear
(R475, R97); and flash and fuses stand (R35, R36). -/
def Obligations.ResetNKeepsClassP : Prop :=
  ∀ s : State, s.power.off = false → s.power.por = false → s.power.sup = false →
    ∃ t, exec .resetNAssert s = .next t ∧ t.on = false ∧ t.flash = s.flash ∧ t.fuses = s.fuses ∧ ∀ f ∈ retained, t.get f = s.get f

/-! ## Registers and memories -/

/-- A field that hardware sets reads back what fits it; a field that shares no bit with it stays. -/
def Obligations.FieldsReadBack : Prop :=
  ∀ (s : State) (f g : Field) (v : Nat), f.lo + f.width ≤ 32 →
    (s.put f v).get f = v % 2 ^ f.width ∧
      (g.addr ≠ f.addr ∨ g.lo + g.width ≤ f.lo ∨ f.lo + f.width ≤ g.lo → (s.put f v).get g = s.get g)

/-- A word written field by field (types of the field tables): an RW field, and an RWL field until the boot is complete (R91), takes its bits of the
word; a W1C field loses the bits written 1; every other field of the register and every other register stays. -/
def Obligations.WrittenFieldsFollowTheirTypes : Prop :=
  ∀ (s : State) (a v : Nat) (r : RegRow), findReg a = some r →
    (∀ b : Nat, b ≠ a → (s.plain a v).word b = s.word b) ∧
    ∀ f ∈ r.fields,
      f.bits ((s.plain a v).word a).toNat =
        if f.kind = .rw ∨ (f.kind = .rwl ∧ s.flag F.BOOT_STAT_DONE = false) then f.bits v
        else if f.kind = .w1c then maskDiff (f.bits (s.word a).toNat) (f.bits v)
        else f.bits (s.word a).toNat

/-- A reserved address, and a register or window of a unit that the part lacks: a write is ignored, a read returns 0, and neither counts as a
violation (R3, R10, R468). -/
def Obligations.AbsentAddressesReadZeroAndIgnoreWrites : Prop :=
  ∀ (s : State) (src : Source) (a : BitVec 40) (w : Word), s.on = true → a.toNat % 4 = 0 →
    s.window a.toNat = 0 → findReg a.toNat = none ∨ s.regAbsent a.toNat = true →
    exec (.registerWrite src a w) s = .next (State.follow (s.touch src) s) ∧ s.busRead src a.toNat = (0, s.touch src)

/-- A read that its level does not permit returns 0 and is counted in SEC.VIOL with its address and source (R450); only the SEC block and
the port's own session see it. -/
def Obligations.DeniedReadsReturnZero : Prop :=
  ∀ (s : State) (src : Source) (a : Nat) (r : RegRow), a % 4 = 0 → s.window a = 0 → findReg a = some r → s.regAbsent a = false →
    (srcCrane src = true → a / 0x10000 ≠ 0x15) → (s.touch src).mayRead src a = false →
    ∃ t, s.busRead src a = (0, t) ∧ t.get F.SEC_VIOL_CNT_COUNT = satInc 0xFFFFFFFF (s.get F.SEC_VIOL_CNT_COUNT) ∧
      t.get F.SEC_VIOL_LAST_LO_ADDR = a % 2 ^ 32 ∧ t.get F.SEC_VIOL_LAST_HI_SOURCE = srcCode src ∧
      Moves (areas [.sec] ||| blocks [.sec]) s t

/-- A word stored in a window reads back, every byte outside it stays, and the byte table keeps its canonical form. -/
def Obligations.WindowWordsReadBack : Prop :=
  ∀ (s : State) (a v : Nat), v < 2 ^ 32 →
    (s.setMemWord a v).memWord a = v ∧ (∀ b : Nat, b < a ∨ a + 4 ≤ b → (s.setMemWord a v).byte b = s.byte b) ∧
      (Memory.wf s.mem = true → Memory.wf (s.setMemWord a v).mem = true)

/-- Bytes stored in a flash image read back, and every byte outside their range stays. -/
def Obligations.FlashBytesReadBack : Prop :=
  ∀ (s : State) (dev off : Nat) (l : List Byte),
    (s.setFlash dev off l).flashBytes dev off l.length = l ∧
      ∀ d k : Nat, d * 2 ^ 25 + k < dev * 2 ^ 25 + off ∨ dev * 2 ^ 25 + off + l.length ≤ d * 2 ^ 25 + k →
        (s.setFlash dev off l).flashByte d k = s.flashByte d k

/-- An event stands in the EVT register of its block; its Tally record carries its code and INFO, little-endian, with the stamp of the instant,
while the queue has room; its type 7 notice carries its code and INFO while a brick is up, EVT_EN is set and the queue of 64 has room
(R476, R493, R103, R279). -/
def Obligations.EventsAreRecorded : Prop :=
  ∀ (s : State) (code info : Nat), code / 256 < 26 → evtBit code info < 32 →
    (s.raise code info).raised code info = true ∧
      (s.tally.queue.length < 256 → ⟨s.stamp, code, leBytes 4 info⟩ ∈ (s.raise code info).tally.queue) ∧
      (s.toHead code = false → s.anyBrickUp = true → s.flag F.FHM_CTL_EVT_EN = true → s.msgs.notices.length < 64 →
        ⟨code, info, s.stamp⟩ ∈ (s.raise code info).msgs.notices)

/-- TOP.IRQ_STAT shows the blocks whose EVT register holds a bit, and IRQ_N[k] is low exactly while one of them is enabled for it; during EXTEST
the pins stay as the boundary register drives them (R476, R462). -/
def Obligations.InterruptPinsFollowTheEvents : Prop :=
  ∀ (s : State) (n : Nat), n < 27 →
    (bitAt (s.syncIrq.get F.TOP_IRQ_STAT_BLOCKS) n = true ↔ s.word (evtAddr n) ≠ 0) ∧
      (s.jtag.saved = none →
        (s.syncIrq.pins.irq0 = true ↔ ∃ k < 27, bitAt (s.get F.TOP_IRQ_EN0_BLOCKS) k = true ∧ s.word (evtAddr k) ≠ 0) ∧
        (s.syncIrq.pins.irq1 = true ↔ ∃ k < 27, bitAt (s.get F.TOP_IRQ_EN1_BLOCKS) k = true ∧ s.word (evtAddr k) ≠ 0))

/-- A counter of SLIP_CNT that stands at 0xFFFF_FFFF stays there, and below it counts by one; CLR_CNT clears every one of them (R23). -/
def Obligations.SlipCountersHoldAtTheirGreatest : Prop :=
  (∀ (s : State) (m : Nat), m < 8 →
    (s.slip m).get (F.TOP_SLIP_CNT_COUNT m) =
      if s.get (F.TOP_SLIP_CNT_COUNT m) = 0xFFFFFFFF then 0xFFFFFFFF else s.get (F.TOP_SLIP_CNT_COUNT m) + 1) ∧
  (∀ (s : State) (src : Source) (v : Word) (m : Nat), s.on = true → s.opens src 0x100 (fixBit v 17) = true → m < 8 →
    ∃ t, exec (.clrCnt src v) s = .next t ∧ t.get (F.TOP_SLIP_CNT_COUNT m) = 0)

/-- Stamp A is at or after stamp B when (A − B) modulo 2^64 is less than 2^63; of two stamps less than 2^63 apart the later one is after the
earlier one and not the other way round (R12). -/
def Obligations.StampsAreComparedModulo : Prop :=
  (∀ a b : Stamp, atOrAfter a b = true ↔ (a.toNat + 2 ^ 64 - b.toNat) % 2 ^ 64 < 2 ^ 63) ∧
  (∀ (a : Stamp) (d : Nat), 0 < d → d < 2 ^ 63 → before a (stampAdd a d) = true ∧ before (stampAdd a d) a = false)

/-! ## Rules of single units -/

/-- With WRAP = 1 fitting keeps the low 40 or 16 bits in two's complement; a wrap sets the accumulator's WRP flag, the sticky Kq_STAT.WRP and,
for a 16-bit result, VSAT, and the tag of a narrowed vector carries them; the OVF flags stay as they are (R207). -/
def Obligations.QuayWrapKeepsTheLowBits : Prop :=
  (∀ (n : Nat) (x : Int), n = 40 ∨ n = 16 →
    (fit true n x).1 % 2 ^ n = x % 2 ^ n ∧ -2 ^ (n - 1) ≤ (fit true n x).1 ∧ (fit true n x).1 < 2 ^ (n - 1) ∧
      ((fit true n x).2 = true ↔ (fit true n x).1 ≠ x)) ∧
  (∀ (opc k : Nat) (a r : Acc) (x y : Vec) (bad : Bool), opc ≠ 8 → accOp opc k true a x y = (r, bad) →
    r.wrp = (a.wrp || bad) ∧ r.ovf = a.ovf ∧
      (bad = true ↔ ∃ i < 8, (fitCx true 40 (accLane opc k (lane a.lanes i) (lane x.lanes i) (lane y.lanes i))).2 = true)) ∧
  (∀ (sh : Nat) (a : Acc) (v : Vec) (bad : Bool), narrowAcc true sh a = (v, bad) →
    v.tag.wrp = (a.tag.wrp || a.wrp) ∧ v.tag.ovf = (a.tag.ovf || a.ovf) ∧ v.tag.vsat = (a.tag.vsat || bad)) ∧
  (∀ (s : State) (q : Nat) (r : Computed), q < 96 →
    (s.stickies q true r).flag (F.QCTL_K_STAT_WRP q) = (s.flag (F.QCTL_K_STAT_WRP q) || r.accBad || r.vecBad) ∧
      (s.stickies q true r).flag (F.QCTL_K_STAT_VSAT q) = (s.flag (F.QCTL_K_STAT_VSAT q) || r.vecBad) ∧
      (s.stickies q true r).flag (F.QCTL_K_STAT_OVF q) = s.flag (F.QCTL_K_STAT_OVF q))

/-- A complex product is exact; with WRAP = 0 a result beyond 40 or 16 bits is held at the nearer end of the range and sets the accumulator's
OVF flag, which the tag of a narrowed vector carries; narrowing divides by 2^SH and rounds half up (R205, R206). -/
def Obligations.QuaySaturatesAndRoundsHalfUp : Prop :=
  (∀ a b : Cx, cxMul a b = ⟨a.re * b.re - a.im * b.im, a.re * b.im + a.im * b.re⟩) ∧
  (∀ (n : Nat) (x : Int), n = 40 ∨ n = 16 →
    (-2 ^ (n - 1) ≤ x → x < 2 ^ (n - 1) → fit false n x = (x, false)) ∧ (2 ^ (n - 1) ≤ x → fit false n x = (2 ^ (n - 1) - 1, true)) ∧
      (x < -2 ^ (n - 1) → fit false n x = (-2 ^ (n - 1), true))) ∧
  (∀ (k : Nat) (x : Int), 2 ^ k * (2 * rnd k x) ≤ 2 * x + 2 ^ k ∧ 2 * x + 2 ^ k < 2 ^ k * (2 * rnd k x + 2)) ∧
  (∀ (opc k : Nat) (a r : Acc) (x y : Vec) (bad : Bool), opc ≠ 8 → accOp opc k false a x y = (r, bad) →
    r.ovf = (a.ovf || bad) ∧ r.wrp = a.wrp) ∧
  (∀ (sh : Nat) (a : Acc) (v : Vec) (bad : Bool), narrowAcc false sh a = (v, bad) →
    v.tag.ovf = (a.tag.ovf || a.ovf) ∧ v.tag.vsat = (a.tag.vsat || bad))

/-- The ninth LINK Manifest in a row is LOOP and is not acted on; written back, it stops its channel in STOPPED with cause LOOP, HEAD on it,
and CHAN_STOPPED is raised (R412). -/
def Obligations.NinthLinkStopsItsChannel : Prop :=
  (∀ (s : State) (ch : Fin 16), s.on = true → s.craneActs ch.val 3 = true → s.get (F.CRANE_C_STAT_LINKS ch.val) = 8 →
    ∃ t, exec (.craneLink ch) s = .next t ∧ (t.chan ch.val).cause = 8 ∧ (t.chan ch.val).phase = 3 ∧ t.craneState ch.val = 1 ∧
      t.get (F.CRANE_C_HEAD_HEAD ch.val) = s.get (F.CRANE_C_HEAD_HEAD ch.val)) ∧
  (∀ (s : State) (ch : Fin 16), s.on = true → s.up domHOLD = true → s.craneState ch.val = 1 → (s.chan ch.val).phase = 3 →
    (s.chan ch.val).cause = 8 →
    ∃ t, exec (.manifestWriteback ch) s = .next t ∧ t.craneState ch.val = 4 ∧ t.get (F.CRANE_C_STAT_STOPC ch.val) = 2 ∧
      t.get (F.CRANE_C_HEAD_HEAD ch.val) = s.get (F.CRANE_C_HEAD_HEAD ch.val) ∧ t.raised 0x1503 ch.val = true)

/-- The controller starts a measurement every PERIOD_MS ms, counted from the previous scheduled start. A write of 1 to DEMAND starts one at
once; while one runs the demand is met by it (R421). -/
def Obligations.MeasurementsStartOnScheduleAndOnDemand : Prop :=
  (∀ s : State, s.on = true → s.therm.first = 0 →
    ∃ t, exec .thermMeasureStart s = .next t ∧ t.therm.due = s.therm.due + s.thermPeriod ∧
      (s.therm.running = none → t.therm.running = some (max s.aon s.therm.due + s.thermGate, false)) ∧
      (s.therm.running ≠ none → t.therm.running = s.therm.running ∧ t.therm.owed = true)) ∧
  (∀ (s : State) (src : Source) (v : Word), s.on = true → s.opens src F.THERM_CTL_DEMAND.addr (fixBit v 31) = true →
    ∃ t, exec (.thermDemand src v) s = .next t ∧
      (s.therm.running = none → t.therm.running = some (t.aon + t.thermGate, true)) ∧
      (s.therm.running ≠ none → t.therm.running = s.therm.running))

/-- The value of a retired sensor is the median of its neighbours that are not retired, the mean of the middle two where they are even in
number (R422), and where none remain the highest value among all sensors that are not retired (R423). -/
def Obligations.RetiredSensorsTakeTheirNeighboursMedian : Prop :=
  ∀ (s : State) (l : List (Nat × Int)) (d : Int) (i : Nat), s.sensorOut i = true →
    (∀ q : List Int, q.Perm (s.nearReadings l i) → q.Pairwise (· ≤ ·) → q ≠ [] →
      s.sensorValue l d i = if q.length % 2 = 1 then q.getD (q.length / 2) 0
        else divRound (q.getD (q.length / 2 - 1) 0 + q.getD (q.length / 2) 0) 2) ∧
    (s.nearReadings l i = [] → (∃ j < 24, s.sensorOut j = false) →
      (∃ j < 24, s.sensorOut j = false ∧ s.sensorValue l d i = (readingOf l j).2) ∧
        ∀ j < 24, s.sensorOut j = false → (readingOf l j).2 ≤ s.sensorValue l d i)

/-! ## What each command does -/

/-- The host port and the register writes: what each command does (R450, R468, R470, R471, R473, R474, R476). Commands: spiRead,
spiWrite, spiTransactionIgnored, spiCsAbort, registerWrite, evtW1cWrite, loHiPairRead. -/
def Obligations.HostPortAndRegisterCommands : Prop :=
  -- A host SPI read transaction returns words after the ready byte (R470).
  (∀ (s : State) (addr : BitVec 40) (wait : Fin 128) (n : Nat) (l : List Byte) (t : State),
     s.on = true →
     addr.toNat % 4 = 0 →
     State.spiRead n s addr.toNat = (l, t) →
     exec (.spiRead addr wait n) s = .next (State.follow (t.emit (.spi (List.replicate wait.val 0 ++ [0xA5] ++ l))) s)) ∧
  -- A host SPI write transaction writes each whole word as a separate access (R470).
  (∀ (s : State) (addr : BitVec 40) (words : List Word),
     s.on = true →
     addr.toNat % 4 = 0 →
     exec (.spiWrite addr words) s = .next (State.follow
       (State.spiWrite (words.flatMap (fun w => spiBytes w.toNat)) s addr.toNat) s)) ∧
  -- An unknown command byte, or an address that is no multiple of 4: nothing happens (R470).
  (∀ (s : State) (cmd : Byte) (addr : BitVec 40) (data : List Byte),
     s.on = true →
     (addr.toNat % 4 ≠ 0 ∨ (cmd.toNat ≠ 0x02 ∧ cmd.toNat ≠ 0x0B)) →
     exec (.spiTransactionIgnored cmd addr data) s = .next (State.follow s s)) ∧
  -- HSPI_CS_N rising within a write word discards that word (R470).
  (∀ (s : State) (addr : BitVec 40) (data : List Byte),
     s.on = true →
     addr.toNat % 4 = 0 →
     exec (.spiCsAbort addr data) s = .next (State.follow (State.spiWrite data s addr.toNat) s)) ∧
  -- A write that nothing bars is the write of its block (R450, R468).
  (∀ (s : State) (src : Source) (addr : BitVec 40) (v : Word),
     s.on = true →
     addr.toNat % 4 = 0 →
     s.opens src addr.toNat v = true →
     exec (.registerWrite src addr v) s = .next (State.follow ((s.touch src).regWrite src addr.toNat v.toNat) s)) ∧
  -- A write to a window that is live, by a source with a level.
  (∀ (s : State) (src : Source) (addr : BitVec 40) (v : Word) (t : State) (n : Nat),
     s.on = true →
     s.touch src = t →
     addr.toNat % 4 = 0 →
     t.window addr.toNat = n →
     n ≠ 0 →
     t.srcLevel src true ≠ 0 →
     t.windowLive n addr.toNat = true →
     exec (.registerWrite src addr v) s = .next (State.follow (t.windowWrite n addr.toNat v.toNat) s)) ∧
  -- A write to a window by a source without a level is counted as a violation and changes nothing else (R450).
  (∀ (s : State) (src : Source) (addr : BitVec 40) (v : Word) (t : State),
     s.on = true →
     s.touch src = t →
     addr.toNat % 4 = 0 →
     t.window addr.toNat ≠ 0 →
     t.srcLevel src true = 0 →
     exec (.registerWrite src addr v) s = .next (State.follow (t.violation (srcCode src) addr.toNat true) s)) ∧
  -- A write whose word the source may not write at all is counted as a violation and changes nothing else (R450).
  (∀ (s : State) (src : Source) (addr : BitVec 40) (v : Word) (t : State) (r : RegRow),
     s.on = true →
     s.touch src = t →
     addr.toNat % 4 = 0 →
     t.window addr.toNat = 0 →
     findReg addr.toNat = some r →
     t.regAbsent addr.toNat = false →
     srcCrane src = false →
     t.writeDenied src addr.toNat v.toNat r = true →
     exec (.registerWrite src addr v) s = .next (State.follow (t.violation (srcCode src) addr.toNat true) s)) ∧
  -- The bits written 1 clear and IRQ_N follows (R476).
  (∀ (s : State) (src : Source) (block : Fin 27) (v : Word),
     s.on = true →
     s.opens src (evtAddr block.val) v = true →
     exec (.evtW1cWrite src block v) s = .next (State.follow (((s.touch src).plain (evtAddr block.val) v.toNat).syncIrq) s)) ∧
  -- A read of either word of a pair, in the state that the read leaves (R474).
  (∀ (s : State) (src : Source) (addr : BitVec 40) (hi : Bool) (x : Nat) (t : State),
     s.on = true →
     s.busRead src (addr.toNat + if hi then 4 else 0) = (x, t) →
     exec (.loHiPairRead src addr hi) s = .next (State.follow t s))

/-- Supply, resets and the steps of the boot (R35, R36, R37, R38, R39, R42, R65, R88, R92, R99, R278, R479). Commands:
powerRemoved, porNAssert, porNRelease, supervisorTrip, supervisorRelease, resetNRelease, resetNAssert, nvmNotBusy,
strapLatch, imageLoaded, cpllFirstLock, startupCalDone, confirmTimeout, deviceSelfReset. -/
def Obligations.ResetsAndBootSteps : Prop :=
  -- The supply goes: nothing acts, memory is lost, flash and fuses stand (R42, R35).
  (∀ (s : State),
     ∃ t, exec .powerRemoved s = .next t ∧ t.on = false ∧ t.power.off = true ∧ t.mem = [] ∧ t.flash = s.flash ∧ t.fuses = s.fuses) ∧
  -- POR_N low resets everything but flash and fuses (R35).
  (∀ (s : State),
     ∃ t, exec .porNAssert s = .next t ∧ t.on = false ∧ t.power.por = true ∧ t.mem = [] ∧ t.flash = s.flash ∧ t.fuses = s.fuses) ∧
  -- POR_N high with no other reset: t0 is now, and the straps are awaited (R37).
  (∀ (s : State),
     s.power.por = true →
     s.power.off = false →
     s.power.rst = false →
     s.power.sup = false →
     ∃ t, exec .porNRelease s = .next t ∧ t.on = true ∧ t.power.strapWait = true ∧ t.boot.t0 = s.aon ∧ t.get F.BOOT_STAT_PHASE = 2) ∧
  -- The supervisor resets as POR_N does (R35).
  (∀ (s : State),
     ∃ t, exec .supervisorTrip s = .next t ∧ t.on = false ∧ t.power.sup = true ∧ t.mem = [] ∧ t.flash = s.flash ∧ t.fuses = s.fuses) ∧
  -- The supervisor releases reset once both VDD_AON and VDD_CORE reach 90 % of their start-up values (R35).
  (∀ (s : State),
     s.power.sup = true →
     s.power.por = false →
     s.power.rst = false →
     ∃ t, exec .supervisorRelease s = .next t ∧ t.on = true ∧ t.power.strapWait = true ∧ t.boot.t0 = s.aon
       ∧ t.get F.BOOT_STAT_PHASE = 2) ∧
  -- Release of RESET_N starts the 10 µs wait before the straps are sampled (R37).
  (∀ (s : State),
     s.power.rst = true →
     s.power.off = false →
     s.power.por = false →
     s.power.sup = false →
     ∃ t, exec .resetNRelease s = .next t ∧ t.on = true ∧ t.power.strapWait = true ∧ t.boot.t0 = s.aon
       ∧ t.get F.BOOT_STAT_PHASE = 2) ∧
  -- RESET_N low keeps the registers of class P, flash and fuses (R36, R475).
  (∀ (s : State),
     s.power.off = false →
     s.power.por = false →
     s.power.sup = false →
     exec .resetNAssert s = .next { s.rstReset with power := { s.rstReset.power with rst := true, srcRstN := true } }) ∧
  -- After reset, the flash status poll reports not busy and the device may issue its first read (R39).
  (∀ (s : State),
     s.on = true →
     exec .nvmNotBusy s = .next (State.follow { s with power := { s.power with nvmReady := true } } s)) ∧
  -- The straps are latched 10 µs after t0; the flash boot goes on from step 4 (R37, R38, R88).
  (∀ (s : State) (sel : BitVec 2) (chip : BitVec 2) (t : State) (u : State),
     s.on = true →
     s.power.strapWait = true →
     s.power.latched = false →
     sel.toNat < 2 →
     s.elapseTo (s.boot.t0 + usU 10) = t →
     ({ t with
 power := { t.power with strapWait := false, latched := true }
 boot := { t.boot with bootSel := sel.toNat, chipId := chip.toNat } } : State) = u →
     exec (.strapLatch sel chip) s = .next (State.follow (((((u.put F.BOOT_STRAP_BOOT_SEL sel.toNat).put F.BOOT_STRAP_CHIP_ID
       chip.toNat).putb F.BOOT_STRAP_SRC t.power.srcRstN).put F.BOOT_STAT_PHASE 4).syncTags.raise 0x1907
         (if t.power.srcRstN then 2 else 1)) s)) ∧
  -- BOOT_SEL 0b10: the boot ends in Dry dock, and the log is scanned (R38).
  (∀ (s : State) (sel : BitVec 2) (chip : BitVec 2) (t : State) (u : State),
     s.on = true →
     s.power.strapWait = true →
     s.power.latched = false →
     sel.toNat = 2 →
     s.elapseTo (s.boot.t0 + usU 10) = t →
     ({ t with
 power := { t.power with strapWait := false, latched := true }
 boot := { t.boot with bootSel := 2, chipId := chip.toNat } } : State) = u →
     exec (.strapLatch sel chip) s = .next (State.follow (((((((u.put F.BOOT_STRAP_BOOT_SEL 2).put F.BOOT_STRAP_CHIP_ID
       chip.toNat).putb F.BOOT_STRAP_SRC t.power.srcRstN).put F.BOOT_STAT_PHASE 4).syncTags.raise 0x1907
         (if t.power.srcRstN then 2 else 1)).put F.BOOT_STAT_PHASE 3).tallyScan.dryDock 0) s)) ∧
  -- The flash phase of the boot: tags, log scan, rollback, then the slots in boot order (R88, R92, R99, R102).
  (∀ (s : State) (answers : BitVec 2) (a : State) (t : State) (u : State) (l : List Nat),
     s.on = true →
     s.power.latched = true →
     s.power.nvmReady = true →
     s.boot.goal = 0 →
     s.boot.bootSel < 2 →
     s.flag F.PWR_STATE_BUSY = true →
     s.power.trans = none →
     ({ s with boot := { s.boot with device1 := bitAt answers.toNat 1 } } : State) = a →
     a.syncTags.tallyScan.rollback = t →
     t.each [0, 1] (fun x n => if (x.slotTag n).tag = 2 then x.setFail n 9 else x) = u →
     u.slotOrder = l →
     exec (.imageLoaded answers) s = .next (State.follow (u.bootSlots answers.toNat (l.headD 0) l) s)) ∧
  -- The CPLL reports first lock after band calibration, letting boot go on to synthesiser lock (R65).
  (∀ (s : State) (t : State),
     s.on = true →
     s.up domCPLL = true →
     s.clk.everLocked = false →
     s.flag F.CLK_CPLL_STAT_REF_OK = true →
     s.get F.CLK_CPLL_STAT_MODE ≤ 1 →
     s.cpllLocked.feClear feCPLL = t →
     exec .cpllFirstLock s = .next (State.follow (t.each (List.range 4) (fun u l =>
       if u.up (linkDom l) && !(u.port l).mini && u.get (F.CLK_LPLL_STAT_MODE l) == 3 then u.put (F.CLK_LPLL_STAT_MODE l) 2
       else u)).bootAdvance s)) ∧
  -- Boot step 10: the calibrations of every path, then the next step (R88, R126, R167).
  (∀ (s : State) (rxFail : BitVec 64) (txFail : BitVec 64) (txLimit : BitVec 64) (slices : List (Fin 64 × Fin 2 × Fin 9)) (t :
     State) (u : State) (x : State),
     s.on = true →
     s.boot.goal ≠ 0 →
     s.get F.BOOT_STAT_PHASE = 10 →
     s.losLocked = true →
     s.boot.calDone = false →
     s.rxCalRun 31 s.paths (mask rxFail) (slices.map (fun e => (e.1.val, e.2.1.val, e.2.2.val))) = t →
     t.txCalRun 15 t.paths (mask txFail) = u →
     u.each (bitList 64 (mask txLimit)) (fun v p =>
 if bitAt (mask txFail) p || !v.hasPath p then v else (v.putb (F.TXA_P_STAT_LOL_RAIL p) true).raise 0x0606 p) = x →
     exec (.startupCalDone rxFail txFail txLimit slices) s = .next (State.follow
       (State.bootAdvance { x with boot := { x.boot with calDone := true } }) s)) ∧
  -- A TRIAL image that nothing confirmed: the device resets itself (R99).
  (∀ (s : State),
     s.on = true →
     s.flag F.BOOT_STAT_TRIAL = true →
     s.get F.BOOT_SLIP_CTL_CONF_S ≠ 0 →
     exec .confirmTimeout s = .next (State.follow
       ((s.elapseTo (s.boot.t0 + sU (10 * s.get F.BOOT_SLIP_CTL_CONF_S))).raise 0x0307 0).selfReset s)) ∧
  -- A reset that was asked for falls due (R278, R463).
  (∀ (s : State) (a : Nat),
     s.on = true →
     s.boot.selfReset = some a →
     exec .deviceSelfReset s = .next (State.follow (s.elapseTo a).selfReset s))

/-- Slipway and Tally: updates of the flash images and the event log (R98, R99, R100, R101, R104, R497). Commands: slipOpen,
slipWrite, slipClose, slipAbort, slipConfirm, slipOpReserved, slipOpComplete, tallyProgramDone, tallyCommitDone,
tallyEraseDone, tallyAppendGo. -/
def Obligations.SlipwayAndTally : Prop :=
  -- OPEN with flash writes open starts (R98).
  (∀ (s : State) (src : Source) (v : Word) (t : State) (w : Word),
     s.on = true →
     s.touch src = t →
     fix v 0 4 1 = w →
     s.opens src F.BOOT_SLIP_CMD_OP.addr w = true →
     t.boot.slipOp = none →
     t.flashOpen = true →
     exec (.slipOpen src v) s = .next (State.follow (State.putb { t with boot := { t.boot with
       slipOp := some (1, bitsAt w.toNat 16 13 % 8192) } } F.BOOT_SLIP_STAT_BUSY true) s)) ∧
  -- WRITE of the sector named, while an update is open (R98).
  (∀ (s : State) (src : Source) (v : Word) (t : State) (w : Word),
     s.on = true →
     s.touch src = t →
     fix v 0 4 2 = w →
     s.opens src F.BOOT_SLIP_CMD_OP.addr w = true →
     t.boot.slipOp = none →
     t.boot.slipOpen = true →
     t.flashOpen = true →
     exec (.slipWrite src v) s = .next (State.follow (State.putb { t with boot := { t.boot with
       slipOp := some (2, bitsAt w.toNat 16 13 % 8192) } } F.BOOT_SLIP_STAT_BUSY true) s)) ∧
  -- WRITE while no update is open, another operation standing or the flash closed to writes: STATE, BUSY, TEMP (R98, R104).
  (∀ (s : State) (src : Source) (v : Word) (t : State) (w : Word),
     s.on = true →
     s.touch src = t →
     fix v 0 4 2 = w →
     s.opens src F.BOOT_SLIP_CMD_OP.addr w = true →
     (t.boot.slipOp ≠ none ∨ t.boot.slipOpen = false) →
     exec (.slipWrite src v) s = .next (State.follow (t.put F.BOOT_SLIP_STAT_RESULT (if t.boot.slipOp ≠ none then 1 else 2)) s)) ∧
  -- CLOSE while an update is open starts the check of the image (R98).
  (∀ (s : State) (src : Source) (v : Word) (t : State) (w : Word),
     s.on = true →
     s.touch src = t →
     fix v 0 4 3 = w →
     s.opens src F.BOOT_SLIP_CMD_OP.addr w = true →
     t.boot.slipOp = none →
     t.boot.slipOpen = true →
     t.flashOpen = true →
     exec (.slipClose src v) s = .next (State.follow (State.putb { t with boot := { t.boot with
       slipOp := some (3, bitsAt w.toNat 16 13 % 8192) } } F.BOOT_SLIP_STAT_BUSY true) s)) ∧
  -- ABORT gives the update up at any time (R98).
  (∀ (s : State) (src : Source) (v : Word) (t : State) (w : Word),
     s.on = true →
     s.touch src = t →
     fix v 0 4 4 = w →
     s.opens src F.BOOT_SLIP_CMD_OP.addr w = true →
     exec (.slipAbort src v) s = .next (State.follow (State.put (State.putb { t with boot := { t.boot with
       slipOpen := false, slipOp := none } } F.BOOT_SLIP_STAT_BUSY false) F.BOOT_SLIP_STAT_RESULT 0) s)) ∧
  -- CONFIRM of a TRIAL boot (R99).
  (∀ (s : State) (src : Source) (v : Word) (t : State) (w : Word),
     s.on = true →
     s.touch src = t →
     fix v 0 4 5 = w →
     s.opens src F.BOOT_SLIP_CMD_OP.addr w = true →
     t.boot.slipOp = none →
     t.flag F.BOOT_STAT_TRIAL = true →
     t.flashOpen = true →
     exec (.slipConfirm src v) s = .next (State.follow (State.putb { t with boot := { t.boot with
       slipOp := some (5, bitsAt w.toNat 16 13 % 8192) } } F.BOOT_SLIP_STAT_BUSY true) s)) ∧
  -- A reserved OP is refused with STATE (R98).
  (∀ (s : State) (src : Source) (v : Word) (t : State) (w : Word),
     s.on = true →
     s.touch src = t →
     fix v 0 4 (if 6 ≤ v.toNat % 16 then v.toNat % 16 else 0) = w →
     s.opens src F.BOOT_SLIP_CMD_OP.addr w = true →
     exec (.slipOpReserved src v) s = .next (State.follow (t.put F.BOOT_SLIP_STAT_RESULT 2) s)) ∧
  -- A sector was written and read back as staged (R98).
  (∀ (s : State) (n : Nat) (t : State),
     s.on = true →
     s.boot.slipOp = some (2, n) →
     State.putb { s with boot := { s.boot with slipOp := none } } F.BOOT_SLIP_STAT_BUSY false = t →
     t.flashOpen = true →
     (t.slipSlot ≠ 1 ∨ t.boot.device1 = true) →
     exec (.slipOpComplete 0) s = .next (State.follow ((t.setFlash t.slipSlot (4096 * n) (t.bytes 0x31000 4096)).put
       F.BOOT_SLIP_STAT_RESULT 0) s)) ∧
  -- The bytes of a record stand in flash; its commit marker is next (R100).
  (∀ (s : State) (q : TallyQ) (qs : List TallyQ) (t : State),
     s.on = true →
     s.tally.phase = 1 →
     s.tally.queue = q :: qs →
     ({ s with tally := { s.tally with recs := s.tally.recs ++ [s.tallyRec q false] } } : State) = t →
     t.flashOpen = true →
     exec (.tallyProgramDone true) s = .next (State.follow { t with tally := { t.tally with phase := 2 } } s)) ∧
  -- A program that failed: the sector is retired and the record kept (R101).
  (∀ (s : State) (q : TallyQ) (qs : List TallyQ) (t : State),
     s.on = true →
     s.tally.phase = 1 →
     s.tally.queue = q :: qs →
     s.tallyMend = t →
     exec (.tallyProgramDone false) s = .next (State.follow (State.tallyKick { t with tally := { t.tally with phase := 0 } }) s)) ∧
  -- The marker stands: the record is committed, and the next one follows (R100).
  (∀ (s : State) (q : TallyQ) (qs : List TallyQ) (t : State),
     s.on = true →
     s.tally.phase = 2 →
     s.tally.queue = q :: qs →
     ({ s with tally := { s.tally with
   recs := s.tally.recs.map (fun r =>
     if r.sector = s.tally.sector ∧ r.slot = s.tally.slot then { r with committed := true } else r)
   queue := qs, seq := (s.tally.seq + 1) % 2 ^ 32, phase := 0 } } : State) = t →
     exec (.tallyCommitDone true) s = .next (State.follow t.tallyAdvance.syncTally.tallyKick s)) ∧
  -- A sector ahead is erased (R100).
  (∀ (s : State) (n : Nat),
     s.on = true →
     s.tally.erasing = true →
     s.sectorAhead (s.tally.ahead + 1) = n →
     exec (.tallyEraseDone true) s = .next (State.follow (State.tallyKick { s with tally := { s.tally with
       erasing := false, ahead := s.tally.ahead + 1, recs := s.tally.recs.filter (fun r => r.sector ≠ n) } }) s)) ∧
  -- The record that TALLY.APPEND holds enters the queue (R497).
  (∀ (s : State) (src : Source) (t : State) (b : List Byte) (n : Nat),
     s.on = true →
     s.touch src = t →
     s.opens src F.TALLY_APPEND_GO_GO.addr 1 = true →
     (List.range 15).flatMap (fun w => leBytes 4 (t.word (0x1A0200 + 4 * w)).toNat) = b →
     le b 14 2 = n →
     exec (.tallyAppendGo src) s = .next (State.follow (t.appendRecord (le b 12 2) (sub b 16 (if 44 < n then 44 else n))) s))

/-- Power state requests, transitions and RUN_OFF (R50, R52, R54, R55, R56). Commands: stateReqDryDock, stateReqDoze,
stateReqQuiet, stateReqRun, stateReqReserved, stateTransitionComplete, runOffWrite. -/
def Obligations.PowerStates : Prop :=
  -- A request that can be met starts its transition.
  (∀ (s : State) (src : Source) (v : Word) (t : State) (w : Word),
     s.on = true →
     s.touch src = t →
     fix v 0 3 1 = w →
     s.opens src F.PWR_STATE_REQ_REQ.addr w = true →
     t.reqBad 1 = false →
     t.flag F.PWR_STATE_BUSY = false →
     t.cur ≠ 1 →
     exec (.stateReqDryDock src v) s = .next (State.follow (t.transStart 1 (bitsAt w.toNat 4 1) 1) s)) ∧
  -- A request for Doze that can be met, with no transition running, starts it (R52).
  (∀ (s : State) (src : Source) (v : Word) (t : State) (w : Word),
     s.on = true →
     s.touch src = t →
     fix v 0 3 2 = w →
     s.opens src F.PWR_STATE_REQ_REQ.addr w = true →
     t.reqBad 2 = false →
     t.flag F.PWR_STATE_BUSY = false →
     t.cur ≠ 2 →
     exec (.stateReqDoze src v) s = .next (State.follow (t.transStart 2 (bitsAt w.toNat 4 1) 1) s)) ∧
  -- A request for Quiet that can be met, with no transition running, starts it (R52).
  (∀ (s : State) (src : Source) (v : Word) (t : State) (w : Word),
     s.on = true →
     s.touch src = t →
     fix v 0 3 3 = w →
     s.opens src F.PWR_STATE_REQ_REQ.addr w = true →
     t.reqBad 3 = false →
     t.flag F.PWR_STATE_BUSY = false →
     t.cur ≠ 3 →
     exec (.stateReqQuiet src v) s = .next (State.follow (t.transStart 3 (bitsAt w.toNat 4 1) 1) s)) ∧
  -- A request for Run that can be met, with no transition running, starts it (R52).
  (∀ (s : State) (src : Source) (v : Word) (t : State) (w : Word),
     s.on = true →
     s.touch src = t →
     fix v 0 3 4 = w →
     s.opens src F.PWR_STATE_REQ_REQ.addr w = true →
     t.reqBad 4 = false →
     t.flag F.PWR_STATE_BUSY = false →
     t.cur ≠ 4 →
     exec (.stateReqRun src v) s = .next (State.follow (t.transStart 4 (bitsAt w.toNat 4 1) 1) s)) ∧
  -- A request held while a transition or the boot runs (R55).
  (∀ (s : State) (src : Source) (v : Word) (t : State) (w : Word),
     s.on = true →
     s.touch src = t →
     fix v 0 3 4 = w →
     s.opens src F.PWR_STATE_REQ_REQ.addr w = true →
     t.reqBad 4 = false →
     t.flag F.PWR_STATE_BUSY = true →
     exec (.stateReqRun src v) s = .next (State.follow { t with power := { t.power with
       pendReq := if 4 = t.get F.PWR_STATE_TGT then none else some (4, bitsAt w.toNat 4 1) } } s)) ∧
  -- A request that cannot be met is refused (R52, R54).
  (∀ (s : State) (src : Source) (v : Word) (t : State) (w : Word),
     s.on = true →
     s.touch src = t →
     fix v 0 3 4 = w →
     s.opens src F.PWR_STATE_REQ_REQ.addr w = true →
     t.reqBad 4 = true →
     exec (.stateReqRun src v) s = .next (State.follow (t.raise 0x0107 0) s)) ∧
  -- A reserved code is refused: event 0x0107 (R52).
  (∀ (s : State) (src : Source) (v : Word) (t : State) (w : Word),
     s.on = true →
     s.touch src = t →
     fix v 0 3 (if 5 ≤ v.toNat % 8 then v.toNat % 8 else 0) = w →
     s.opens src F.PWR_STATE_REQ_REQ.addr w = true →
     exec (.stateReqReserved src v) s = .next (State.follow (t.raise 0x0107 0) s)) ∧
  -- The transition running ends in its state; a request that waits is then started (R52, R55).
  (∀ (s : State) (target : Nat) (brick : Nat) (cause : Nat),
     s.on = true →
     s.power.trans = some ⟨target, brick, cause, false⟩ →
     s.quadsOff = true →
     (s.cur = 2 → 3 ≤ target → s.losLocked = true ∧ s.boot.calDone = true) →
     (¬(target = 2 ∧ s.up domMON = true ∧ s.pins.drain ≠ 0)) →
     exec .stateTransitionComplete s = .next (State.follow (s.enterState target brick cause (s.cur == 2)).pendStart s)) ∧
  -- The MON interlock refuses a transition to Doze while a drain pin is driven (R50).
  (∀ (s : State) (brick : Nat) (cause : Nat),
     s.on = true →
     s.power.trans = some ⟨2, brick, cause, false⟩ →
     s.quadsOff = true →
     s.up domMON = true →
     s.pins.drain ≠ 0 →
     exec .stateTransitionComplete s = .next (State.follow (State.pendStart (State.raise
       ((State.putb { s with power := { s.power with trans := none, leftRun := none } } F.PWR_STATE_BUSY false).put F.PWR_STATE_TGT
         s.cur) 0x0106 0)) s)) ∧
  -- A write that leaves a brick up is taken and the domains follow (R56).
  (∀ (s : State) (src : Source) (v : Word) (t : State),
     s.on = true →
     s.touch src = t →
     s.opens src F.PWR_RUN_OFF_FHA.addr v = true →
     (bitAt v.toNat 1 && bitAt v.toNat 2) = false →
     exec (.runOffWrite src v) s = .next (State.follow
       ((t.setWord F.PWR_RUN_OFF_FHA.addr (BitVec.ofNat 32 (v.toNat % 128))).runOffApply.regrade 8) s)) ∧
  -- Both bricks off: FHA and FHB keep their values and the write is refused (R56).
  (∀ (s : State) (src : Source) (v : Word) (t : State),
     s.on = true →
     s.touch src = t →
     s.opens src F.PWR_RUN_OFF_FHA.addr v = true →
     (bitAt v.toNat 1 && bitAt v.toNat 2) = true →
     exec (.runOffWrite src v) s = .next (State.follow
       ((State.raise (t.setWord F.PWR_RUN_OFF_FHA.addr (BitVec.ofNat 32
         (setBitAt (setBitAt v.toNat 1 (t.flag F.PWR_RUN_OFF_FHA)) 2 (t.flag F.PWR_RUN_OFF_FHB) % 128))) 0x0107 0).runOffApply.regrade 8)
       s))

/-- The AVS loop, the power estimate and the surge budget (R57, R58, R59, R61, R62). Commands: avsUpdate, avsTransactionDone,
avsCeiling, avsCeilClear, powerEstimate. -/
def Obligations.SupplyScaling : Prop :=
  -- The loop runs: the slacks and paces are taken and the target moves as R57 says.
  (∀ (s : State) (slacks : List (Fin 8 × BitVec 16)) (paces : List (Fin 4 × BitVec 16)) (u : State) (slack : Nat) (pace : Nat)
     (target : Nat) (calm : Nat),
     s.on = true →
     (s.each (slacks.map (fun e => (e.1.val, e.2.toNat))) (fun t e =>
   if e.1 < 8 ∧ t.meterActive e.1 = true then t.meter e.1 e.2 else t)).each (paces.map (fun e => (e.1.val, e.2.toNat)))
 (fun t e => if e.1 < 4 ∧ t.up (domQCL e.1) = true then t.put (F.QCTL_C_PACE_PACE e.1) (e.2 % 65536) else t) = u →
     u.power.avsStop = false →
     u.flag F.PWR_STATE_BUSY = false →
     u.avsSlack = some slack →
     minOf 65535 (((List.range 4).filter (fun c => u.hasCluster c && u.up (domQCL c))).map
 (fun c => u.get (F.QCTL_C_PACE_PACE c))) = pace →
     u.avsNext slack pace = (target, calm) →
     exec (.avsUpdate slacks paces) s = .next (
       let t := u.put F.PWR_AVS_STAT_TARGET_MV target
       State.follow ((State.avsWatch { t with power := { t.power with calm := calm } }
         (decide (slack < 25 * u.get F.PWR_AVS_CTL_RAISE_NS) || decide (pace < 1600))).emit (.avs target)) s)) ∧
  -- No meter is active: the target is IDLE_MV (R57).
  (∀ (s : State) (slacks : List (Fin 8 × BitVec 16)) (paces : List (Fin 4 × BitVec 16)) (u : State),
     s.on = true →
     (s.each (slacks.map (fun e => (e.1.val, e.2.toNat))) (fun t e =>
   if e.1 < 8 ∧ t.meterActive e.1 = true then t.meter e.1 e.2 else t)).each (paces.map (fun e => (e.1.val, e.2.toNat)))
 (fun t e => if e.1 < 4 ∧ t.up (domQCL e.1) = true then t.put (F.QCTL_C_PACE_PACE e.1) (e.2 % 65536) else t) = u →
     u.power.avsStop = false →
     u.flag F.PWR_STATE_BUSY = false →
     u.avsSlack = none →
     exec (.avsUpdate slacks paces) s = .next (
       let t := u.put F.PWR_AVS_STAT_TARGET_MV (u.get F.PWR_AVS_CTL_IDLE_MV)
       State.follow (State.emit { t with power := { t.power with calm := 0, ceilSince := none } }
         (.avs (t.get F.PWR_AVS_STAT_TARGET_MV))) s)) ∧
  -- An answer without a warning where none stood before and the loop runs: the count of missing answers returns to 0.
  (∀ (s : State),
     s.on = true →
     s.power.avsStop = false →
     s.power.avsWarn = false →
     exec (.avsTransactionDone true false) s = .next (State.follow { s with power := { s.power with
       noAns := 0, avsStop := false, avsWarn := false } } s)) ∧
  -- The third missing answer stops the loop, raises AVS_NORESP and requests level 1 (R59).
  (∀ (s : State) (warning : Bool),
     s.on = true →
     s.power.avsStop = false →
     s.power.noAns = 2 →
     exec (.avsTransactionDone false warning) s = .next (State.follow
       (((State.putb { s with power := { s.power with noAns := 3, avsStop := true } } F.PWR_AVS_STAT_NORESP true).raise 0x0103
         0).throttleReq F.THERM_REQ_AVS_NORESP 1) s)) ∧
  -- A warning of the regulator (R59).
  (∀ (s : State),
     s.on = true →
     s.power.avsStop = false →
     s.power.avsWarn = false →
     exec (.avsTransactionDone true true) s = .next (State.follow ((State.raise { s with power := { s.power with
       noAns := 0, avsStop := false, avsWarn := true } } 0x0108 0).throttleReq F.THERM_REQ_AVS_ALERT 1) s)) ∧
  -- The target standing at VMAX for 1 ms without recovery sets CEIL and requests throttle level 1 (R58).
  (∀ (s : State) (a : Nat),
     s.on = true →
     s.power.ceilSince = some a →
     s.flag F.PWR_AVS_STAT_CEIL = false →
     exec .avsCeiling s = .next (State.follow
       ((((s.elapseTo (a + msU 1)).putb F.PWR_AVS_STAT_CEIL true).raise 0x0102 0).throttleReq F.THERM_REQ_AVS_CEIL 1) s)) ∧
  -- Slack and pace recovered for 10 ms clear CEIL and its throttle request (R58).
  (∀ (s : State) (a : Nat),
     s.on = true →
     s.power.okSince = some a →
     s.flag F.PWR_AVS_STAT_CEIL = true →
     exec .avsCeilClear s = .next (State.follow
       (((s.elapseTo (a + msU 10)).putb F.PWR_AVS_STAT_CEIL false).throttleReq F.THERM_REQ_AVS_CEIL 0) s)) ∧
  -- The estimate is shown and the surge budget follows (R61, R62).
  (∀ (s : State) (mw : BitVec 20),
     s.on = true →
     exec (.powerEstimate mw) s = .next (State.follow (State.surgeCheck
       ((s.put F.PWR_EST_P_MW mw.toNat).surgeTo (clampInt 0 900000000 ((s.power.surge : Int) - ((mw.toNat : Int) - 52000))).toNat)) s))

/-- The reference, holdover, bypass and relock of the CPLL (R67, R68, R69, R70, R71, R73). Commands: refclkEdgeLoss,
freqMonitorWindow, holdoverExpired, cpllUnlock, cpllLockRetry, cpllRelock. -/
def Obligations.ReferenceAndCpll : Prop :=
  -- The reference is lost with the CPLL locked: holdover (R67).
  (∀ (s : State) (t : State),
     s.on = true →
     State.putb { s with clk := { s.clk with refPresent := false, okWindows := 0 } } F.CLK_CPLL_STAT_REF_OK false = t →
     t.get F.CLK_CPLL_STAT_MODE = 2 →
     t.get F.CLK_CPLL_CTL_HO_LIMIT_S ≠ 0 →
     exec .refclkEdgeLoss s = .next (State.follow (s.linkAct (fun _ =>
       ((State.put { t with clk := { t.clk with hoSince := some t.aon } } F.CLK_CPLL_STAT_MODE 3).syncHo).raise 0x0201 0)) s)) ∧
  -- The reference is lost with HO_LIMIT_S = 0: bypass (R69).
  (∀ (s : State) (t : State),
     s.on = true →
     State.putb { s with clk := { s.clk with refPresent := false, okWindows := 0 } } F.CLK_CPLL_STAT_REF_OK false = t →
     t.get F.CLK_CPLL_STAT_MODE = 2 →
     t.get F.CLK_CPLL_CTL_HO_LIMIT_S = 0 →
     exec .refclkEdgeLoss s = .next (State.follow (s.linkAct (fun _ => (t.raise 0x0201 0).cpllBypass)) s)) ∧
  -- A window within the limit while the reference is qualified, or not yet ten of them in a row.
  (∀ (s : State) (d : Int) (phi : Int) (n : Nat) (t : State),
     s.on = true →
     (d.natAbs ≤ if s.clk.everLocked then 20000 else 100000) →
     (if 10 ≤ s.clk.okWindows then 10 else s.clk.okWindows + 1) = n →
     { s with clk := { s.clk with refPresent := true, okWindows := n } } = t →
     (n < 10 ∨ t.flag F.CLK_CPLL_STAT_REF_OK = true) →
     exec (.freqMonitorWindow (some d) phi) s = .next (State.follow (s.linkAct (fun _ => t)) s)) ∧
  -- The tenth good window qualifies the reference; in holdover the phase is built out (R70).
  (∀ (s : State) (d : Int) (phi : Int) (half : Int) (t : State) (u : State),
     s.on = true →
     (d.natAbs ≤ if s.clk.everLocked then 20000 else 100000) →
     9 ≤ s.clk.okWindows →
     { s with clk := { s.clk with refPresent := true, okWindows := 10 } } = t →
     t.flag F.CLK_CPLL_STAT_REF_OK = false →
     t.putb F.CLK_CPLL_STAT_REF_OK true = u →
     (if u.get F.CLK_CPLL_CTL_REF_SEL = 0 then 4069 else 8138) = half →
     u.get F.CLK_CPLL_STAT_MODE = 3 →
     exec (.freqMonitorWindow (some d) phi) s = .next (State.follow (s.linkAct (fun _ => u.buildOut (clampInt (-half) half phi))) s)) ∧
  -- Holdover reaching HO_LIMIT_S without a qualified REFCLK sends the CPLL into bypass (R69).
  (∀ (s : State) (a : Nat),
     s.on = true →
     s.clk.hoSince = some a →
     exec .holdoverExpired s = .next (State.follow (s.linkAct (fun _ =>
       ((s.elapseTo (a + sU (s.get F.CLK_CPLL_CTL_HO_LIMIT_S))).raise 0x0204 0).cpllBypass)) s)) ∧
  -- CPLL loss of lock switches Tide and timers to the bypass clock and stops the converters (R71).
  (∀ (s : State),
     s.on = true →
     s.up domCPLL = true →
     s.cpllRuns = true →
     exec .cpllUnlock s = .next (State.follow (s.linkAct (fun _ => s.cpllBypass)) s)) ∧
  -- Every 10 ms while REFCLK is qualified the CPLL in bypass tries to lock (R73).
  (∀ (s : State),
     s.on = true →
     s.up domCPLL = true →
     s.flag F.CLK_CPLL_STAT_REF_OK = true →
     s.get F.CLK_CPLL_STAT_MODE ≤ 1 →
     exec .cpllLockRetry s = .next (State.follow (State.put { s with clk := { s.clk with lockSince := some s.aon } }
       F.CLK_CPLL_STAT_MODE 1) s)) ∧
  -- Lock held for 100 µs returns Tide to the CPLL, opens the converter gates and relocks the synthesisers (R73).
  (∀ (s : State) (a : Nat),
     s.on = true →
     s.clk.lockSince = some a →
     s.get F.CLK_CPLL_STAT_MODE = 1 →
     exec .cpllRelock s = .next (State.follow
       ((((s.elapseTo (a + usU 100)).cpllLocked).raise 0x0206 0).feClear feCPLL) s))

/-- Synthesisers, LO routing, divider resets and link PLLs (R75, R76, R77, R78, R79, R80, R81, R82, R84, R85, R437). Commands:
synGo, synRetuneStart, settleWindowEnd, synLock, synUnlock, synLockRetry, synRelockTimeout, swapMuteLift, loRouteWrite,
lodistDividerReset, resync, lpllUnlock, lpllLockRetry, lpllRelock, sscApexApply. -/
def Obligations.SynthesisersAndLinkPlls : Prop :=
  -- A retune at once of the synthesisers that the command acts on (R76): Breakwater fixes its band again.
  (∀ (s : State) (src : Source) (n : Fin 2) (v : Word) (t : State) (w : Word) (nn : Nat) (div : Nat) (ts : List Nat),
     s.on = true →
     fixBit v 31 = w →
     s.opens src (0x20020 + 0x10 * n.val) w = true →
     (s.touch src).plain (F.CLK_SYN_CTL_GO n.val).addr w.toNat = t →
     bitsAt w.toNat 0 6 = nn →
     bitsAt w.toNat 8 1 = div →
     bitAt w.toNat 30 = false →
     synOk nn div = true →
     t.synTargets n.val = ts →
     (∀ m ∈ ts, ∀ e, (t.syn m).settleEnd = some e → before t.stamp e = false) →
     exec (.synGo src n v) s = .next (State.follow (State.bwFix (ts.foldl (fun u m => if u.up (domSYN m) then u.synRetune m nn div else u)
       (ts.foldl (fun u m => (u.put (F.CLK_SYN_CTL_N m) nn).put (F.CLK_SYN_CTL_DIV m) div) t))) s)) ∧
  -- An armed retune (R76).
  (∀ (s : State) (src : Source) (n : Fin 2) (v : Word) (t : State) (w : Word) (nn : Nat) (div : Nat) (ts : List Nat) (at_ :
     Stamp),
     s.on = true →
     fixBit v 31 = w →
     s.opens src (0x20020 + 0x10 * n.val) w = true →
     (s.touch src).plain (F.CLK_SYN_CTL_GO n.val).addr w.toNat = t →
     bitsAt w.toNat 0 6 = nn →
     bitsAt w.toNat 8 1 = div →
     t.get64 (F.CLK_SYN_AT_LO_STAMP n.val) (F.CLK_SYN_AT_HI_STAMP n.val) = at_ →
     bitAt w.toNat 30 = true →
     synOk nn div = true →
     t.synTargets n.val = ts →
     (∀ m ∈ ts, ∀ e, (t.syn m).settleEnd = some e → before at_ e = false) →
     exec (.synGo src n v) s = .next (State.follow (ts.foldl (fun u m => u.setSyn m { u.syn m with
         armed := some (nn, div, at_, decide (1 < ts.length)) })
       (ts.foldl (fun u m => (u.put (F.CLK_SYN_CTL_N m) nn).put (F.CLK_SYN_CTL_DIV m) div) t)) s)) ∧
  -- A setting that R75 does not permit is refused.
  (∀ (s : State) (src : Source) (n : Fin 2) (v : Word) (t : State) (w : Word),
     s.on = true →
     fixBit v 31 = w →
     s.opens src (0x20020 + 0x10 * n.val) w = true →
     (s.touch src).plain (F.CLK_SYN_CTL_GO n.val).addr w.toNat = t →
     synOk (bitsAt w.toNat 0 6) (bitsAt w.toNat 8 1) = false →
     exec (.synGo src n v) s = .next (State.follow (t.raise 0x0209 0) s)) ∧
  -- An armed retune reaches its stamp, starts and opens a 40 µs settle window (R76).
  (∀ (s : State) (n : Fin 2),
     s.on = true →
     (s.syn n.val).armed.isSome = true →
     exec (.synRetuneStart n) s = .next (State.follow (s.synFire n.val).bwFix s)) ∧
  -- The window ends with lock: SETTLE clears and the paths follow.
  (∀ (s : State) (n : Fin 2) (e : Stamp) (t : State) (u : State),
     s.on = true →
     (s.syn n.val).settleEnd = some e →
     s.reach e = t →
     (t.setSyn n.val { t.syn n.val with settleEnd := none }).putb (F.CLK_SYN_STAT_SETTLE n.val) false = u →
     u.synLocked n.val = true →
     exec (.settleWindowEnd n) s = .next (State.follow u.loSync.syncReport s)) ∧
  -- Without lock the synthesiser is unlocked from then on.
  (∀ (s : State) (n : Fin 2) (e : Stamp) (t : State) (u : State),
     s.on = true →
     (s.syn n.val).settleEnd = some e →
     s.reach e = t →
     (t.setSyn n.val { t.syn n.val with settleEnd := none }).putb (F.CLK_SYN_STAT_SETTLE n.val) false = u →
     u.synLocked n.val = false →
     exec (.settleWindowEnd n) s = .next (State.follow (u.synLost n.val).syncReport s)) ∧
  -- The synthesiser locks: LOCK, LOCK_T, BAND (a free value), LAST_MS, and what hangs on its lock.
  (∀ (s : State) (n : Fin 2) (x : Syn) (band : Nat) (ms : Nat) (t : State) (u : State) (v : State) (w : State),
     s.on = true →
     s.up (domSYN n.val) = true →
     s.synLocked n.val = false →
     s.cpllRuns = true →
     s.syn n.val = x →
     s.draw = (band, t) →
     (match x.unlockedSince with
 | none => t.get (F.RSV_SYN_WEAR_LAST_MS n.val)
 | some a => if (s.aon - a) / msU 1 < 65535 then (s.aon - a) / msU 1 else 65535) = ms →
     (((t.setSyn n.val { x with unlockedSince := none }).putb (F.CLK_SYN_STAT_LOCK n.val) true).put
 (F.CLK_SYN_STAT_LOCK_T n.val) (if (s.aon - x.lockStart) * 4 / usU 1 < 255 then (s.aon - x.lockStart) * 4 / usU 1 else 255)).put
 (F.CLK_SYN_STAT_BAND n.val) (band % 64) = u →
     (u.put (F.RSV_SYN_WEAR_LAST_MS n.val) ms).loSync = v →
     (if v.servesTx n.val && bitAt (v.word 0x100014).toNat feSYN then v.feClear feSYN else v) = w →
     exec (.synLock n) s = .next (State.follow
       (((if w.serves n.val then w.dividersAt w.tide.now else w).regrade 8).syncReport.bootAdvance) s)) ∧
  -- A locked synthesiser outside its settle window loses lock with the CPLL running (R79).
  (∀ (s : State) (n : Fin 2),
     s.on = true →
     s.up (domSYN n.val) = true →
     s.synLocked n.val = true →
     s.synSettle n.val = false →
     s.cpllRuns = true →
     exec (.synUnlock n) s = .next (State.follow (s.synLost n.val).syncReport s)) ∧
  -- Every 100 µs an unlocked synthesiser retries lock (R79).
  (∀ (s : State) (n : Fin 2),
     s.on = true →
     s.up (domSYN n.val) = true →
     s.synLocked n.val = false →
     s.synSettle n.val = false →
     s.cpllRuns = true →
     exec (.synLockRetry n) s = .next (State.follow (s.setSyn n.val { s.syn n.val with lockStart := s.aon }) s)) ∧
  -- A synthesiser not relocked 10 ms after a loss is marked FAILED (R437).
  (∀ (s : State) (n : Fin 2) (a : Nat) (t : State),
     s.on = true →
     (s.syn n.val).unlockedSince = some a →
     s.elapseTo (a + msU 10) = t →
     t.flag (F.RSV_SYN_WEAR_FAILED n.val) = false →
     exec (.synRelockTimeout n) s = .next (State.follow
       (((t.putb (F.RSV_SYN_WEAR_FAILED n.val) true).raise 0x1702 n.val).regrade 8) s)) ∧
  -- 40 µs after a swap or route change the path phases are verified, the mute lifts and SWAP_MUTE accumulates (R80).
  (∀ (s : State) (m : SwapMute) (t : State),
     s.on = true →
     s.clk.swap = some m →
     s.reach m.lift = t →
     exec .swapMuteLift s = .next (State.follow (State.add { t with clk := { t.clk with swap := none } } F.CLK_SWAP_MUTE_TOTAL_NS
       ((m.lift - m.begin).toNat / 65536)) s)) ∧
  -- A route that is permitted (R81): the new bits stand; with quads up, the mutes of a change and what hangs on the locks.
  (∀ (s : State) (src : Source) (v : Word) (t : State) (u : State) (dirs : Nat) (newRx : Nat),
     s.on = true →
     s.touch src = t →
     s.opens src F.CLK_LO_ROUTE_SPLIT.addr v = true →
     (if bitAt v.toNat 3 then bitsAt v.toNat 1 1 else bitsAt v.toNat 0 1) = newRx →
     (¬(bitAt v.toNat 3 = true ∧ bitsAt v.toNat 1 1 = bitsAt v.toNat 0 1)) →
     (¬((bitsAt v.toNat 0 1 ≠ t.txSyn ∧ t.flag (F.RSV_SYN_WEAR_FAILED (bitsAt v.toNat 0 1)) = true)
  ∨ (newRx ≠ t.rxSyn ∧ t.flag (F.RSV_SYN_WEAR_FAILED newRx) = true))) →
     (if bitsAt v.toNat 0 1 ≠ t.txSyn then 1 else 0) + (if newRx ≠ t.rxSyn then 2 else 0) = dirs →
     (((t.putb F.CLK_LO_ROUTE_AUTO_SWAP (bitAt v.toNat 4)).putb F.CLK_LO_ROUTE_SPLIT (bitAt v.toNat 3)).put
 F.CLK_LO_ROUTE_RX_SRC (bitsAt v.toNat 1 1)).put F.CLK_LO_ROUTE_TX_SRC (bitsAt v.toNat 0 1) = u →
     exec (.loRouteWrite src v) s = .next (State.follow (
       let quads := u.quads.any (fun q => u.up (domTXQ q) || u.up (domRXQ q))
       let x := if dirs ≠ 0 ∧ quads = true then u.swapMute dirs else u
       let y := ((if quads then x.loSync else x).regrade 8).runOffApply
       if y.txSyn = t.txSyn then y else y.bwFix) s)) ∧
  -- SPLIT with both directions on one synthesiser is refused (R78).
  (∀ (s : State) (src : Source) (v : Word) (t : State),
     s.on = true →
     s.touch src = t →
     s.opens src F.CLK_LO_ROUTE_SPLIT.addr v = true →
     (bitAt v.toNat 3 = true ∧ bitsAt v.toNat 1 1 = bitsAt v.toNat 0 1) →
     exec (.loRouteWrite src v) s = .next (State.follow (
       let y := (t.raise 0x0209 0).runOffApply
       if y.txSyn = t.txSyn then y else y.bwFix) s)) ∧
  -- On the first grid edge at least 1 µs after a lock or swap, or on a forced resync, every LODIST divider resets in step (R82).
  (∀ (s : State) (a : Stamp) (t : State),
     s.on = true →
     s.clk.divReset = some a →
     s.reach a = t →
     exec .lodistDividerReset s = .next (State.follow { t with clk := { t.clk with divReset := none, aligned := true } } s)) ∧
  -- RESYNC in Quiet.
  (∀ (s : State) (src : Source) (v : Word) (t : State),
     s.on = true →
     s.touch src = t →
     s.opens src F.CLK_LO_SYNC_RESYNC.addr (fixBit v 0) = true →
     t.cur = 3 →
     exec (.resync src v) s = .next (State.follow { t with clk := { t.clk with
       divReset := some (stampOf (gridEdge t.tide.now)), aligned := false } } s)) ∧
  -- Outside Quiet RESYNC is refused: bit 12 of CLK.EVT.
  (∀ (s : State) (src : Source) (v : Word) (t : State),
     s.on = true →
     s.touch src = t →
     s.opens src F.CLK_LO_SYNC_RESYNC.addr (fixBit v 0) = true →
     t.cur ≠ 3 →
     exec (.resync src v) s = .next (State.follow (t.setBit 0x20080 12).syncIrq s)) ∧
  -- A link PLL losing lock switches its link to bypass carrying only idle and management (R85).
  (∀ (s : State) (b : Fin 4) (t : State),
     s.on = true →
     s.up (linkDom b.val) = true →
     s.get (F.CLK_LPLL_STAT_MODE b.val) = 2 →
     { s with clk := { s.clk with lpllSince := setNth s.clk.lpllSince b.val none } } = t →
     exec (.lpllUnlock b) s = .next (State.follow (s.linkAct (fun _ => State.linkBypass
       (((t.put (F.CLK_LPLL_STAT_MODE b.val) 3).inc (F.CLK_LPLL_STAT_UNLOCK_CNT b.val)).raise 0x020A b.val) b.val)) s)) ∧
  -- Every 1 ms a link PLL in bypass retries lock (R85).
  (∀ (s : State) (b : Fin 4),
     s.on = true →
     s.up (linkDom b.val) = true →
     s.get (F.CLK_LPLL_STAT_MODE b.val) = 3 →
     s.cpllRuns = true →
     (s.port b.val).mini = false →
     exec (.lpllLockRetry b) s = .next (State.follow { s with clk := { s.clk with
       lpllSince := setNth s.clk.lpllSince b.val (some s.aon) } } s)) ∧
  -- The link PLL locked again: full rate, and the link trains from BYPASS (R85, R259).
  (∀ (s : State) (b : Fin 4) (a : Nat) (t : State),
     s.on = true →
     nth none s.clk.lpllSince b.val = some a →
     s.elapseTo (a + usU 100) = t →
     exec (.lpllRelock b) s = .next (State.follow (s.linkAct (fun _ => State.retrainStart
       ((State.put { t with clk := { t.clk with lpllSince := setNth t.clk.lpllSince b.val none } } (F.CLK_LPLL_STAT_MODE b.val) 2).raise
         0x020B b.val) b.val)) s)) ∧
  -- A changed spread setting takes effect at the next apex of the triangle (R84).
  (∀ (s : State) (b : Fin 4) (mode : Nat) (d : Nat) (f : Nat) (w : Nat),
     s.on = true →
     s.get (F.CLK_LPLL_CTL_SSC_MODE b.val) % 3 = mode →
     s.get (F.CLK_LPLL_CTL_DEPTH b.val) = d →
     s.get (F.CLK_LPLL_CTL_SSC_F b.val) = f →
     (if mode = 0 then 0 else mode * 16384 + (if d < (if mode = 1 then 50 else 25) then d else
(if mode = 1 then 50 else 25)) * 256 + (if f = 7 then 6 else f)) = w →
     exec (.sscApexApply b) s = .next (State.follow { s with clk := { s.clk with ssc := setNth s.clk.ssc b.val w } } s))

/-- Converter samples at the clocked crossings and their counters (R17, R18, R19, R22, R23, R107). Commands: rxAdcSample,
rxIngressSpaceReturn, txSamplePlayout, clrCnt, clrMin. -/
def Obligations.ConvertersAndCrossings : Prop :=
  -- A receive ADC sample is stamped, compensated, tagged and passed through the ingress crossing and chain (R107).
  (∀ (s : State) (p : Fin 64) (re : BitVec 12) (im : BitVec 12) (ovr : Bool) (fill : Fin 1025) (t : State) (l : List RxSample),
     s.on = true →
     s.rxConverts p.val = true →
     s.rxSample p.val ⟨re.toInt, im.toInt⟩ ovr fill.val = (t, l) →
     exec (.rxAdcSample p re im ovr fill) s = .next (State.follow (t.rxOutputs p.val l) s)) ∧
  -- When ingress space returns, one invalid zero sample per lost sample is delivered with its stamp (R19).
  (∀ (s : State) (p : Fin 64) (t : State) (l : List RxSample),
     s.on = true →
     s.rxReturn p.val = (t, l) →
     exec (.rxIngressSpaceReturn p) s = .next (State.follow (t.rxOutputs p.val l) s)) ∧
  -- A sample of a path whose converter runs reaches its play-out (R18).
  (∀ (s : State) (p : Fin 64) (late : Bool) (fill : Fin 2049),
     s.on = true →
     s.txConverts p.val = true →
     exec (.txSamplePlayout p late fill) s = .next (State.follow (s.txPlayout p.val late fill.val) s)) ∧
  -- Writing TOP.DRIFT_CTL.CLR_CNT clears every SLIP_CNT within 100 ns (R23).
  (∀ (s : State) (src : Source) (v : Word) (t : State) (u : State) (w : Word),
     s.on = true →
     s.touch src = t →
     fixBit v 17 = w →
     s.opens src F.TOP_DRIFT_CTL_LOW_NS.addr w = true →
     t.plain F.TOP_DRIFT_CTL_LOW_NS.addr w.toNat = u →
     bitAt w.toNat 16 = false →
     exec (.clrCnt src v) s = .next (State.follow (u.each (List.range 8) (fun y m => y.put (F.TOP_SLIP_CNT_COUNT m) 0)) s)) ∧
  -- Writing TOP.DRIFT_CTL.CLR_MIN sets every MIN_NS to 0xFFFF (R23).
  (∀ (s : State) (src : Source) (v : Word) (t : State) (u : State) (w : Word),
     s.on = true →
     s.touch src = t →
     fixBit v 16 = w →
     s.opens src F.TOP_DRIFT_CTL_LOW_NS.addr w = true →
     t.plain F.TOP_DRIFT_CTL_LOW_NS.addr w.toNat = u →
     bitAt w.toNat 17 = false →
     exec (.clrMin src v) s = .next (State.follow (u.each (List.range 8) (fun y m => y.put (F.TOP_DRIFT_MIN_NS m) 0xFFFF)) s))

/-- Gain control, ADC slices, calibration and retirement of the receive paths (R110, R112, R113, R117, R119, R120, R124, R128,
R129, R130, R147). Commands: agcDecision, agcSuspendEnd, agcCtlWrite, servoAverage, sliceExchange, rxCalReq, rxCalStart,
rxCalTimeout, rxCalDone, rxRetireWrite, rxaCntClrOvr, rxaCntClrAgc, rxaCtlWrite. -/
def Obligations.ReceivePaths : Prop :=
  -- AUTO at the end of a decision interval in which a counted path had a sample (R110).
  (∀ (s : State) (t : State),
     s.on = true →
     s.agcSusp = false →
     s.get F.RXA_AGC_CTL_MODE = 0 →
     s.rx.counted = true →
     s.agcAuto = t →
     exec .agcDecision s = .next (State.follow { t with rx := { t.rx with peak := 0, anyOvr := false, counted := false } } s)) ∧
  -- MANUAL: the step goes to MAN_STEP, at most 10 (R113).
  (∀ (s : State) (t : State),
     s.on = true →
     s.agcSusp = false →
     s.get F.RXA_AGC_CTL_MODE = 1 →
     s.gainStep (min 10 (s.get F.RXA_AGC_CTL_MAN_STEP)) true = t →
     exec .agcDecision s = .next (State.follow { t with rx := { t.rx with peak := 0, anyOvr := false, counted := false } } s)) ∧
  -- While suspended the dwell is held at 0 and nothing is decided (R112).
  (∀ (s : State),
     s.on = true →
     s.agcSusp = true →
     exec .agcDecision s = .next (State.follow { s with rx := { s.rx with dwell := 0, peak := 0, anyOvr := false, counted := false } }
       s)) ∧
  -- No cause of suspension is left: START is loaded under RESUME in AUTO (R112).
  (∀ (s : State) (a : BitVec 64) (u : State),
     s.on = true →
     s.agcSusp = true →
     s.inRun = true →
     s.trswHigh = false →
     s.rxLoBad = false →
     s.quads.any (fun q => s.up (domRXQ q)) = true →
     s.rx.suspUntil = some a →
     State.putb { s.reach a with rx := { (s.reach a).rx with suspUntil := none } } F.RXA_AGC_STAT_SUSP false = u →
     u.flag F.RXA_AGC_CTL_RESUME = true →
     u.get F.RXA_AGC_CTL_MODE = 0 →
     exec .agcSuspendEnd s = .next (State.follow (u.gainStep (gainLimit (u.get F.RXA_AGC_CTL_START)) false) s)) ∧
  -- Without RESUME, or not in AUTO, the step stays (R112).
  (∀ (s : State) (a : BitVec 64) (u : State),
     s.on = true →
     s.agcSusp = true →
     s.inRun = true →
     s.trswHigh = false →
     s.rxLoBad = false →
     s.quads.any (fun q => s.up (domRXQ q)) = true →
     s.rx.suspUntil = some a →
     State.putb { s.reach a with rx := { (s.reach a).rx with suspUntil := none } } F.RXA_AGC_STAT_SUSP false = u →
     (u.flag F.RXA_AGC_CTL_RESUME = false ∨ u.get F.RXA_AGC_CTL_MODE ≠ 0) →
     exec .agcSuspendEnd s = .next (State.follow u s)) ∧
  -- A change of MODE to AUTO begins with the dwell at 0 (R113).
  (∀ (s : State) (src : Source) (v : Word) (t : State) (u : State),
     s.on = true →
     s.touch src = t →
     s.opens src F.RXA_AGC_CTL_MODE.addr v = true →
     t.plain F.RXA_AGC_CTL_MODE.addr v.toNat = u →
     u.get F.RXA_AGC_CTL_MODE = 0 →
     t.get F.RXA_AGC_CTL_MODE ≠ 0 →
     exec (.agcCtlWrite src v) s = .next (State.follow { u with rx := { u.rx with dwell := 0 } } s)) ∧
  -- At the end of each 65,536-sample average the servo code moves one LSB toward zero mean (R117).
  (∀ (s : State) (p : Fin 64) (c : Nat) (d : Nat) (t : State) (ci : Nat × Bool) (cq : Nat × Bool),
     s.on = true →
     65536 ≤ (s.rxPath p.val).count →
     s.servoCode p.val s.agcStep = c →
     s.get F.RXA_SERVO_CTL_DEAD = d →
     servoMove (c % 1024) (s.rxPath p.val).sumI d = ci →
     servoMove (c / 1024) (s.rxPath p.val).sumQ d = cq →
     ((s.setServo p.val s.agcStep (ci.1 + 1024 * cq.1)).showServo p.val).servoRestart p.val = t →
     exec (.servoAverage p) s = .next (State.follow (if (ci.2 || cq.2) = true then t.servoRail p.val else t) s)) ∧
  -- The calibrated spare replaces the slice that has served longest (R119).
  (∀ (s : State) (p : Fin 64) (q : Fin 2) (slice : Fin 9) (a : Adc) (b : Adc) (sp : Nat) (o : Nat) (os : List Nat) (t : State),
     s.on = true →
     s.hasPath p.val = true →
     s.adc p.val q.val = a →
     s.setAdc p.val q.val { a with resid := setNth a.resid slice.val 0 } = t →
     t.adc p.val q.val = b →
     b.spare = some sp →
     b.order = o :: os →
     exec (.sliceExchange p q slice false false) s = .next (State.follow
       ((t.setAdc p.val q.val { b with order := os ++ [sp], spare := some o }).put (fSPARE p.val q.val) o) s)) ∧
  -- A trim at its limit retires the slice (R120).
  (∀ (s : State) (p : Fin 64) (q : Fin 2) (slice : Fin 9) (a : Adc) (t : State),
     s.on = true →
     s.hasPath p.val = true →
     s.adc p.val q.val = a →
     s.setAdc p.val q.val { a with resid := setNth a.resid slice.val 0 } = t →
     exec (.sliceExchange p q slice true false) s = .next (State.follow (t.sliceFail p.val q.val slice.val) s)) ∧
  -- The third residual out of range in succession retires the slice (R120).
  (∀ (s : State) (p : Fin 64) (q : Fin 2) (slice : Fin 9) (a : Adc) (t : State),
     s.on = true →
     s.hasPath p.val = true →
     s.adc p.val q.val = a →
     nth 0 a.resid slice.val = 2 →
     s.setAdc p.val q.val { a with resid := setNth a.resid slice.val 3 } = t →
     exec (.sliceExchange p q slice false true) s = .next (State.follow (t.sliceFail p.val q.val slice.val) s)) ∧
  -- A present quad, a kind and no receive calibration standing: the request waits up to 1 s for a gap (R128).
  (∀ (s : State) (src : Source) (v : Word) (t : State) (w : Word) (m : Nat),
     s.on = true →
     s.touch src = t →
     fixBit v 31 = w →
     s.opens src F.RXA_CAL_REQ_GO.addr w = true →
     t.presentQuads (bitsAt w.toNat 8 8) = m →
     m ≠ 0 →
     bitsAt w.toNat 0 5 ≠ 0 →
     t.rx.cal = none →
     exec (.rxCalReq src v) s = .next (State.follow
       ((State.put { t with rx := { t.rx with cal := some ⟨bitsAt w.toNat 0 5, m, t.aon + sU 1, none⟩ } } F.RXA_CAL_STAT_ACTIVE
         m).putb F.RXA_CAL_STAT_WAIT true) s)) ∧
  -- No present quad, no kind, or a calibration that stands: refused (R128).
  (∀ (s : State) (src : Source) (v : Word) (t : State) (w : Word),
     s.on = true →
     s.touch src = t →
     fixBit v 31 = w →
     s.opens src F.RXA_CAL_REQ_GO.addr w = true →
     (t.presentQuads (bitsAt w.toNat 8 8) = 0 ∨ bitsAt w.toNat 0 5 = 0 ∨ t.rx.cal ≠ none) →
     exec (.rxCalReq src v) s = .next (State.follow (t.raise 0x0405 0) s)) ∧
  -- A granted gap that covers the quads and span starts the held receive calibration (R128).
  (∀ (s : State) (kind : Nat) (m : Nat) (w : Nat) (u : State),
     s.on = true →
     s.rx.cal = some ⟨kind, m, w, none⟩ →
     s.gapCovers m (rxCalSpan kind) = true →
     (State.putb { s with rx := { s.rx with cal := some ⟨kind, m, w, some (stampAdd s.stamp (rxCalSpan kind))⟩ } }
 F.RXA_CAL_STAT_WAIT false).putb F.RXA_CAL_STAT_BUSY true = u →
     exec .rxCalStart s = .next (State.follow (u.each (u.pathsOf m) (fun x p =>
         (x.setRxPath p { x.rxPath p with stopped := true }).addSpan ⟨x.portAt x.nextK, none, some p⟩)) s)) ∧
  -- A held request with no suitable gap within 1 s is refused (R128).
  (∀ (s : State) (kind : Nat) (m : Nat) (w : Nat) (t : State),
     s.on = true →
     s.rx.cal = some ⟨kind, m, w, none⟩ →
     s.elapseTo w = t →
     exec .rxCalTimeout s = .next (State.follow
       (((State.putb { t with rx := { t.rx with cal := none } } F.RXA_CAL_STAT_WAIT false).put F.RXA_CAL_STAT_ACTIVE 0).raise 0x0405
         0) s)) ∧
  -- An on-request receive calibration completes and the chains restart (R129).
  (∀ (s : State) (fail : BitVec 64) (slices : List (Fin 64 × Fin 2 × Fin 9)) (kind : Nat) (m : Nat) (w : Nat) (e : BitVec 64) (t :
     State) (v : State) (x : State) (y : State) (l : List Nat),
     s.on = true →
     s.rx.cal = some ⟨kind, m, w, some e⟩ →
     s.reach e = t →
     t.pathsOf m = l →
     t.rxCalRun kind l (mask fail) (slices.map (fun e => (e.1.val, e.2.1.val, e.2.2.val))) = v →
     (((State.putb { v with rx := { v.rx with cal := none } } F.RXA_CAL_STAT_BUSY false).put F.RXA_CAL_STAT_ACTIVE 0).put
 F.RXA_CAL_STAT_FAIL (failBits (v.get F.RXA_CAL_STAT_FAIL) m (mask fail))).each l
   (fun y p => y.setRxPath p { y.rxPath p with stopped := false }) = x →
     (x.rxRestart (l.filter (fun p => !x.rxRetired p))).raise 0x0404 0 = y →
     exec (.rxCalDone fail slices) s = .next (State.follow
       (if l.any (fun p => bitAt (mask fail) p) = true then y.raise 0x0409 0 else y) s)) ∧
  -- A write to RXA.RETIRE0/1 powers paths down or restores them with a chain restart (R130).
  (∀ (s : State) (src : Source) (half : Fin 2) (v : Word) (t : State),
     s.on = true →
     s.touch src = t →
     s.opens src (if half.val = 0 then F.RXA_RETIRE0_PATHS else F.RXA_RETIRE1_PATHS).addr v = true →
     exec (.rxRetireWrite src half v) s = .next (State.follow (t.rxRetire half.val (maskAnd v.toNat (t.halfMask half.val))) s)) ∧
  -- Writing RXA.CNT_CLR.OVR clears every Pnn_OVR (R124).
  (∀ (s : State) (src : Source) (v : Word) (t : State) (w : Word),
     s.on = true →
     s.touch src = t →
     fixBit v 1 = w →
     s.opens src F.RXA_CNT_CLR_OVR.addr w = true →
     bitAt w.toNat 0 = false →
     exec (.rxaCntClrOvr src v) s = .next (State.follow (t.clearStep 0x40108 0x20 64) s)) ∧
  -- Writing RXA.CNT_CLR.AGC clears AGC_CNT (R110).
  (∀ (s : State) (src : Source) (v : Word) (t : State) (w : Word),
     s.on = true →
     s.touch src = t →
     fixBit v 0 = w →
     s.opens src F.RXA_CNT_CLR_OVR.addr w = true →
     bitAt w.toNat 1 = false →
     exec (.rxaCntClrAgc src v) s = .next (State.follow (t.setWord 0x40014 0) s)) ∧
  -- A changed filter bandwidth restarts every receive chain (R147).
  (∀ (s : State) (src : Source) (v : Word) (t : State) (u : State),
     s.on = true →
     s.touch src = t →
     s.opens src F.RXA_CTL_BBF_BW.addr v = true →
     t.plain F.RXA_CTL_BBF_BW.addr v.toNat = u →
     u.get F.RXA_CTL_BBF_BW ≠ t.get F.RXA_CTL_BBF_BW →
     exec (.rxaCtlWrite src v) s = .next (State.follow ((u.rxRestart u.rxChainPaths).syncRxd).cfgWritten s)) ∧
  -- BBF_BW unchanged: the word is written and nothing restarts (R147).
  (∀ (s : State) (src : Source) (v : Word) (t : State) (u : State),
     s.on = true →
     s.touch src = t →
     s.opens src F.RXA_CTL_BBF_BW.addr v = true →
     t.plain F.RXA_CTL_BBF_BW.addr v.toNat = u →
     u.get F.RXA_CTL_BBF_BW = t.get F.RXA_CTL_BBF_BW →
     exec (.rxaCtlWrite src v) s = .next (State.follow u s))

/-- Run, settings, NCO and counters of the receive chains (R134, R136, R143, R144, R148). Commands: rxdRunWrite, rxdCfgWrite,
rxdNcoGo, rxdNcoRetuneAt, rxdCntClrSat, rxdCntClrInv. -/
def Obligations.ReceiveDigital : Prop :=
  -- A change of RUN starts or stops the receive chains (R144).
  (∀ (s : State) (src : Source) (v : Word) (t : State) (u : State),
     s.on = true →
     s.touch src = t →
     s.opens src F.RXD_CTL_RUN.addr v = true →
     t.plain F.RXD_CTL_RUN.addr v.toNat = u →
     u.flag F.RXD_CTL_RUN ≠ t.flag F.RXD_CTL_RUN →
     exec (.rxdRunWrite src v) s = .next (State.follow u.rxChains s)) ∧
  -- With the chains stopped a locked word is written (R143).
  (∀ (s : State) (src : Source) (i : Fin 6148) (v : Word) (t : State) (u : State),
     s.on = true →
     s.touch src = t →
     s.opens src (rxdCfgAddr i.val) v = true →
     t.flag F.RXD_CTL_RUN = false →
     t.plain (rxdCfgAddr i.val) v.toNat = u →
     exec (.rxdCfgWrite src i v) s = .next (State.follow (if i.val < 2 then u.cfgWritten else u) s)) ∧
  -- While they run it is rejected: CFG_REJECTED (R143).
  (∀ (s : State) (src : Source) (i : Fin 6148) (v : Word) (t : State),
     s.on = true →
     s.touch src = t →
     s.opens src (rxdCfgAddr i.val) v = true →
     t.flag F.RXD_CTL_RUN = true →
     exec (.rxdCfgWrite src i v) s = .next (State.follow (((t.setEvt 0x0501 0).inc F.RXD_REJ_CNT_COUNT).raiseMs 0x0501 0 0) s)) ∧
  -- A write of RXD.NCO_CTL with GO (R136).
  (∀ (s : State) (src : Source) (v : Word) (t : State) (w : Word),
     s.on = true →
     s.touch src = t →
     fixBit v 31 = w →
     s.opens src F.RXD_NCO_CTL_GO.addr w = true →
     exec (.rxdNcoGo src v) s = .next (State.follow ((t.plain F.RXD_NCO_CTL_GO.addr w.toNat).rxNcoWrite w.toNat).2 s)) ∧
  -- The armed retune takes effect (R136).
  (∀ (s : State) (f : Int) (a : BitVec 64) (t : State),
     s.on = true →
     s.rx.ncoArm = some (f, a) →
     s.reach a = t →
     exec .rxdNcoRetuneAt s = .next (State.follow (State.rxRetune
       (State.putb { t with rx := { t.rx with ncoArm := none } } F.RXD_NCO_CTL_PEND false) f) s)) ∧
  -- Writing RXD.CNT_CLR.SAT clears every Pnn_SAT (R134).
  (∀ (s : State) (src : Source) (v : Word) (t : State) (w : Word),
     s.on = true →
     s.touch src = t →
     fixBit v 1 = w →
     s.opens src F.RXD_CNT_CLR_SAT.addr w = true →
     bitAt w.toNat 0 = false →
     exec (.rxdCntClrSat src v) s = .next (State.follow (t.clearStep 0x50100 0x20 64) s)) ∧
  -- Writing RXD.CNT_CLR.INV clears every Pnn_INV (R148).
  (∀ (s : State) (src : Source) (v : Word) (t : State) (w : Word),
     s.on = true →
     s.touch src = t →
     fixBit v 0 = w →
     s.opens src F.RXD_CNT_CLR_SAT.addr w = true →
     bitAt w.toNat 1 = false →
     exec (.rxdCntClrInv src v) s = .next (State.follow (t.clearStep 0x50104 0x20 64) s))

/-- Transmit chains: run, settings, NCO, gain, mutes, calibration and read-back (R153, R155, R157, R158, R162, R163, R164, R165,
R166, R169, R171, R496). Commands: txdRunWrite, txdCfgWrite, txdNcoGo, txdNcoRetuneAt, txGainApply, txChainRestart,
txaCtlWrite, txRetireWrite, txdCntClrMute, txdCntClrSat, coexGntFall, coexGntRise, coexMuteLift, txCalReq, txCalStart,
txCalTimeout, txCalDone, readbackGo, readbackDone. -/
def Obligations.TransmitPaths : Prop :=
  -- A write of TXD.CTL.RUN starts or stops every transmit chain together (R158).
  (∀ (s : State) (src : Source) (v : Word) (t : State) (u : State),
     s.on = true →
     s.touch src = t →
     s.opens src F.TXD_CTL_RUN.addr v = true →
     t.plain F.TXD_CTL_RUN.addr v.toNat = u →
     u.flag F.TXD_CTL_RUN ≠ t.flag F.TXD_CTL_RUN →
     exec (.txdRunWrite src v) s = .next (State.follow u.txChains.bwStart s)) ∧
  -- With the chains stopped a locked word is written (R158).
  (∀ (s : State) (src : Source) (i : Fin 95) (v : Word) (t : State) (u : State),
     s.on = true →
     s.touch src = t →
     s.opens src (txdCfgAddr i.val) v = true →
     t.flag F.TXD_CTL_RUN = false →
     t.plain (txdCfgAddr i.val) v.toNat = u →
     exec (.txdCfgWrite src i v) s = .next (State.follow (if i.val = 0 then u.cfgWritten else u) s)) ∧
  -- While they run it is rejected: CFG_REJECTED (R158).
  (∀ (s : State) (src : Source) (i : Fin 95) (v : Word) (t : State),
     s.on = true →
     s.touch src = t →
     s.opens src (txdCfgAddr i.val) v = true →
     t.flag F.TXD_CTL_RUN = true →
     exec (.txdCfgWrite src i v) s = .next (State.follow (((t.setEvt 0x0701 0).inc F.TXD_REJ_CNT_COUNT).raiseMs 0x0701 0 0) s)) ∧
  -- A write of TXD.NCO_CTL with GO (R155).
  (∀ (s : State) (src : Source) (v : Word) (t : State) (w : Word),
     s.on = true →
     s.touch src = t →
     fixBit v 31 = w →
     s.opens src F.TXD_NCO_CTL_GO.addr w = true →
     exec (.txdNcoGo src v) s = .next (State.follow ((t.plain F.TXD_NCO_CTL_GO.addr w.toNat).writeTxNco w.toNat) s)) ∧
  -- The armed retune takes effect, and Breakwater fixes its band again (R155, R350).
  (∀ (s : State) (f : Int) (a : BitVec 64) (t : State),
     s.on = true →
     s.tx.ncoArm = some (f, a) →
     s.reach a = t →
     exec .txdNcoRetuneAt s = .next (State.follow (State.bwFix (State.txRetune
       (State.putb { t with tx := { t.tx with ncoArm := none } } F.TXD_NCO_CTL_PEND false) f)) s)) ∧
  -- The next gain change takes effect at its sample (R157).
  (∀ (s : State) (k : Nat) (g : Nat) (b : Nat) (l : List (Nat × Nat × Nat)),
     s.on = true →
     s.tx.gains = (k, g, b) :: l →
     exec .txGainApply s = .next (State.follow ((s.reachAbs (gridAt k)).putb F.TXD_GAIN_BO (b == 13014)) s)) ∧
  -- At its instant T a transmit chain restart clears filters, rederives taps and mutes 2 µs as settle (R496).
  (∀ (s : State) (r : TxRestart) (rs : List TxRestart),
     s.on = true →
     s.tx.restarts = r :: rs →
     exec .txChainRestart s = .next (State.follow (State.txRestartDo { s with tx := { s.tx with restarts := rs } } r) s)) ∧
  -- A changed filter bandwidth restarts every chain that is up and not retired (R165, R496).
  (∀ (s : State) (src : Source) (v : Word) (t : State) (u : State),
     s.on = true →
     s.touch src = t →
     s.opens src F.TXA_CTL_FILT_BW.addr v = true →
     t.plain F.TXA_CTL_FILT_BW.addr v.toNat = u →
     u.get F.TXA_CTL_FILT_BW ≠ t.get F.TXA_CTL_FILT_BW →
     exec (.txaCtlWrite src v) s = .next (State.follow ((u.txRestartAt (maskOf (u.paths.filter
       (fun p => u.up (domTXQ (p / 8)) && !u.txRetired p))) u.restartInstant true).cfgWritten) s)) ∧
  -- A write to TXA.RETIRE0/1 turns drivers off within 10 µs, or restores them with a chain restart (R166).
  (∀ (s : State) (src : Source) (half : Fin 2) (v : Word) (t : State),
     s.on = true →
     s.touch src = t →
     s.opens src (if half.val = 0 then F.TXA_RETIRE0_PATHS else F.TXA_RETIRE1_PATHS).addr v = true →
     exec (.txRetireWrite src half v) s = .next (State.follow (t.txRetire half.val (maskAnd v.toNat (t.halfMask half.val))) s)) ∧
  -- Writing TXD.CNT_CLR.MUTE clears every TXD.MUTEc (R162).
  (∀ (s : State) (src : Source) (v : Word) (t : State) (w : Word),
     s.on = true →
     s.touch src = t →
     fixBit v 2 = w →
     s.opens src F.TXD_CNT_CLR_SAT.addr w = true →
     bitAt w.toNat 1 = false →
     exec (.txdCntClrMute src v) s = .next (State.follow
       ((((t.setWord 0x70064 0).setWord 0x70068 0).setWord 0x7006C 0).setWord 0x70074 0) s)) ∧
  -- Writing TXD.CNT_CLR.SAT clears every TXD.Pnn_SAT (R153).
  (∀ (s : State) (src : Source) (v : Word) (t : State) (w : Word),
     s.on = true →
     s.touch src = t →
     fixBit v 1 = w →
     s.opens src F.TXD_CNT_CLR_SAT.addr w = true →
     bitAt w.toNat 2 = false →
     exec (.txdCntClrSat src v) s = .next (State.follow (t.clearStep 0x70100 0x20 64) s)) ∧
  -- Every port is muted from the edge on (R163, R164).
  (∀ (s : State) (e : Nat) (u : State),
     s.on = true →
     s.pins.coexGnt = true →
     tickUp s.tide.now = e →
     State.syncCoex { s with
 pins := { s.pins with coexGnt := false }
 tx := { s.tx with coexFall := some (s.tx.coexFall.getD (gridAt (gridFrom e))), coexLift := none } } = u →
     exec .coexGntFall s = .next (State.follow (((u.put64 F.TXA_COEX_FALL_LO_STAMP F.TXA_COEX_FALL_HI_STAMP (stampOf e)).putb
       F.TXA_COEX_CTL_GNT_LOW true).raiseMs 0x0604 0 0) s)) ∧
  -- The mute lifts on the first sample at or after the edge plus RESUME_NS (R164).
  (∀ (s : State) (f : Nat),
     s.on = true →
     s.pins.coexGnt = false →
     s.tx.coexFall = some f →
     exec .coexGntRise s = .next (State.follow (State.syncCoex (State.putb { s with
       pins := { s.pins with coexGnt := true }
       tx := { s.tx with coexLift := some (gridAt (gridFrom (tickUp s.tide.now + nsU (s.get F.TXA_COEX_CTL_RESUME_NS)))) } }
       F.TXA_COEX_CTL_GNT_LOW false)) s)) ∧
  -- RESUME_NS after the rising edge, the first sample plays again (R164).
  (∀ (s : State) (l : Nat) (t : State),
     s.on = true →
     s.tx.coexLift = some l →
     s.reachAbs l = t →
     exec .coexMuteLift s = .next (State.follow { t with tx := { t.tx with coexFall := none, coexLift := none } } s)) ∧
  -- A present quad, a kind, no transmit calibration standing and no receive calibration on those quads: the request waits up to 1 s
  -- for a gap (R169).
  (∀ (s : State) (src : Source) (v : Word) (t : State) (w : Word) (m : Nat),
     s.on = true →
     s.touch src = t →
     fixBit v 31 = w →
     s.opens src F.TXA_CAL_REQ_GO.addr w = true →
     t.presentQuads (bitsAt w.toNat 8 8) = m →
     m ≠ 0 →
     bitsAt w.toNat 0 5 % 16 ≠ 0 →
     t.tx.cal = none →
     (∀ c, t.rx.cal = some c → maskAnd c.quads m = 0) →
     exec (.txCalReq src v) s = .next (State.follow
       ((State.put { t with tx := { t.tx with cal := some ⟨bitsAt w.toNat 0 5 % 16, m, t.aon + sU 1, none⟩ } } F.TXA_CAL_STAT_ACTIVE
         m).putb F.TXA_CAL_STAT_WAIT true) s)) ∧
  -- Also refused while a receive calibration is held or runs on one of the quads (R169).
  (∀ (s : State) (src : Source) (v : Word) (t : State) (w : Word) (m : Nat),
     s.on = true →
     s.touch src = t →
     fixBit v 31 = w →
     s.opens src F.TXA_CAL_REQ_GO.addr w = true →
     t.presentQuads (bitsAt w.toNat 8 8) = m →
     (m = 0 ∨ bitsAt w.toNat 0 5 % 16 = 0 ∨ t.tx.cal ≠ none ∨ ∃ c, t.rx.cal = some c ∧ maskAnd c.quads m ≠ 0) →
     exec (.txCalReq src v) s = .next (State.follow (t.raise 0x0602 0) s)) ∧
  -- A covering gap starts the held transmit calibration, muting its span under cause 3 (R169).
  (∀ (s : State) (kind : Nat) (m : Nat) (w : Nat) (e : Nat) (u : State),
     s.on = true →
     s.tx.cal = some ⟨kind, m, w, none⟩ →
     s.gapCovers m (txCalSpan kind) = true →
     s.tide.now + txCalSpan kind = e →
     (State.putb { s with tx := { s.tx with cal := some ⟨kind, m, w, some (stampOf e)⟩ } }
 F.TXA_CAL_STAT_WAIT false).putb F.TXA_CAL_STAT_BUSY true = u →
     exec .txCalStart s = .next (State.follow (u.each (u.pathsOf m) (fun x p => x.addMute ⟨3, x.tide.now, some e, some p⟩)) s)) ∧
  -- A held transmit request with no gap within 1 s is refused (R169).
  (∀ (s : State) (kind : Nat) (m : Nat) (w : Nat) (t : State),
     s.on = true →
     s.tx.cal = some ⟨kind, m, w, none⟩ →
     s.elapseTo w = t →
     exec .txCalTimeout s = .next (State.follow
       (((State.putb { t with tx := { t.tx with cal := none } } F.TXA_CAL_STAT_WAIT false).put F.TXA_CAL_STAT_ACTIVE 0).raise 0x0602
         0) s)) ∧
  -- An on-request transmit calibration completes and the affected chains restart (R169).
  (∀ (s : State) (fail : BitVec 64) (limit : BitVec 64) (kind : Nat) (m : Nat) (w : Nat) (bad : Nat) (e : BitVec 64) (t : State)
     (v : State) (x : State) (y : State) (l : List Nat),
     s.on = true →
     s.tx.cal = some ⟨kind, m, w, some e⟩ →
     s.reach e = t →
     t.pathsOf m = l →
     maskOr (mask fail) (mask limit) = bad →
     t.txCalRun kind l (mask fail) = v →
     ((State.putb { v with tx := { v.tx with cal := none } } F.TXA_CAL_STAT_BUSY false).put F.TXA_CAL_STAT_ACTIVE 0).put
 F.TXA_CAL_STAT_FAIL (failBits (v.get F.TXA_CAL_STAT_FAIL) m bad) = x →
     (x.txRestartAt (maskOf l) (x.absOf e) false).raise 0x0601 0 = y →
     exec (.txCalDone fail limit) s = .next (State.follow (if l.any (fun p => bitAt bad p) = true then y.raise 0x0603 0 else y) s)) ∧
  -- A read-back of a path that may be read waits for the ORX (R171).
  (∀ (s : State) (src : Source) (v : Word) (t : State) (u : State) (w : Word),
     s.on = true →
     s.touch src = t →
     fixBit v 31 = w →
     s.opens src F.TXA_RB_CTL_GO.addr w = true →
     t.plain F.TXA_RB_CTL_GO.addr w.toNat = u →
     u.rbOff (bitsAt w.toNat 0 6) = false →
     exec (.readbackGo src v) s = .next (State.follow
       { u with tx := { u.tx with readback := some (if bitsAt w.toNat 8 2 = 1 then 1 else 0, bitsAt w.toNat 0 6) } } s)) ∧
  -- A path that is off or retired: RB_REFUSED, and a pending read-back is gone (R171).
  (∀ (s : State) (src : Source) (v : Word) (t : State) (u : State) (w : Word),
     s.on = true →
     s.touch src = t →
     fixBit v 31 = w →
     s.opens src F.TXA_RB_CTL_GO.addr w = true →
     t.plain F.TXA_RB_CTL_GO.addr w.toNat = u →
     u.rbOff (bitsAt w.toNat 0 6) = true →
     exec (.readbackGo src v) s = .next (State.follow
       ((State.setBit { u with tx := { u.tx with readback := none } } 0x60050 6).syncIrq) s)) ∧
  -- The 20 µs ORX read-back completes and its result is written to RB_RES (R171).
  (∀ (s : State) (v : BitVec 16) (k : Nat) (p : Nat) (t : State),
     s.on = true →
     s.tx.readback = some (k, p) →
     ({ s with tx := { s.tx with readback := none } } : State) = t →
     t.rbOff p = false →
     exec (.readbackDone v) s = .next (State.follow (((((t.putb F.TXA_RB_RES_VALID true).putb F.TXA_RB_RES_NEW true).incWrap
       F.TXA_RB_RES_SEQ).put F.TXA_RB_RES_PATH p).puti F.TXA_RB_RES_VALUE v.toInt) s))

/-- Predistortion and the observation receivers (R175, R176, R178, R180, R181, R183, R186, R187, R188, R190, R192, R193).
Commands: dpdCfgWrite, dpdPctlWrite, dpdBankWrite, dpdSwapGo, fadeComplete, orxSlot, dpdSolveDone, refreshFadeStart,
orxSliceExchange, dpdCntClrPath, dpdCntClrDrop, dpdCntClrActwr. -/
def Obligations.Predistortion : Prop :=
  -- With the chains stopped a basis word of legal ranges, or XFADE, is written (R175).
  (∀ (s : State) (src : Source) (i : Fin 33) (v : Word) (t : State) (a : Nat),
     s.on = true →
     s.touch src = t →
     (if i.val = 32 then F.DPD_XFADE_LEN.addr else (F.DPD_TERM_EN i.val).addr) = a →
     s.opens src a v = true →
     t.flag F.TXD_CTL_RUN = false →
     (i.val = 32 ∨ termOk v.toNat = true) →
     exec (.dpdCfgWrite src i v) s = .next (State.follow (t.plain a v.toNat) s)) ∧
  -- Otherwise it is refused (R175).
  (∀ (s : State) (src : Source) (i : Fin 33) (v : Word) (t : State) (a : Nat),
     s.on = true →
     s.touch src = t →
     (if i.val = 32 then F.DPD_XFADE_LEN.addr else (F.DPD_TERM_EN i.val).addr) = a →
     s.opens src a v = true →
     (t.flag F.TXD_CTL_RUN = true ∨ (i.val ≠ 32 ∧ termOk v.toNat = false)) →
     exec (.dpdCfgWrite src i v) s = .next (State.follow ((t.setEvt 0x0809 0).raiseMs 0x0809 0 0) s)) ∧
  -- A write to DPD.Pnn_CTL sets bypass after 2 µs, FB_ATT, and ADAPT_EN 0 then 1 clears FROZEN (R176).
  (∀ (s : State) (src : Source) (p : Fin 64) (v : Word) (t : State),
     s.on = true →
     s.touch src = t →
     s.opens src (F.DPD_P_CTL_ADAPT_EN p.val).addr v = true →
     exec (.dpdPctlWrite src p v) s = .next (State.follow
       (((t.bypassWrite p.val (bitAt v.toNat 0)).plain (F.DPD_P_CTL_ADAPT_EN p.val).addr v.toNat).adaptEnWrite p.val
         (t.flag (F.DPD_P_CTL_ADAPT_EN p.val)) (bitAt v.toNat 1)) s)) ∧
  -- A bank that is not in use takes the word, and is no longer empty (R178, R179).
  (∀ (s : State) (src : Source) (p : Fin 64) (bank : Fin 8) (term : Fin 32) (part : Fin 2) (v : Word) (t : State),
     s.on = true →
     s.touch src = t →
     t.hasPath p.val = true →
     t.srcLevel src true ≠ 0 →
     t.up domDPD = true →
     t.dpdInUse p.val bank.val = false →
     (t.dpdPath p.val).capture = none →
     exec (.dpdBankWrite src p bank term part v) s = .next (State.follow
       ((t.setMemWord (dpdAddr p.val bank.val term.val + 4 * part.val) (v.toNat % 2 ^ 24)).dpdFilled p.val bank.val) s)) ∧
  -- A bank in use ignores it: ACTWR_CNT counts (R178).
  (∀ (s : State) (src : Source) (p : Fin 64) (bank : Fin 8) (term : Fin 32) (part : Fin 2) (v : Word) (t : State),
     s.on = true →
     s.touch src = t →
     t.hasPath p.val = true →
     t.srcLevel src true ≠ 0 →
     t.up domDPD = true →
     t.dpdInUse p.val bank.val = true →
     exec (.dpdBankWrite src p bank term part v) s = .next (State.follow ((t.inc F.DPD_ACTWR_CNT_COUNT).raiseMs 0x0801 0 0) s)) ∧
  -- The request acts on the first sample 2 µs later (R180).
  (∀ (s : State) (src : Source) (v : Word) (t : State) (u : State) (w : Word),
     s.on = true →
     s.touch src = t →
     fixBit v 31 = w →
     s.opens src F.DPD_SWAP_CTL_GO.addr w = true →
     t.plain F.DPD_SWAP_CTL_GO.addr w.toNat = u →
     exec (.dpdSwapGo src v) s = .next (State.follow { u with dpd := { u.dpd with requests := u.dpd.requests
       ++ [(gridFrom (u.tide.now + usU 2), bitsAt w.toNat 0 3, u.mask64 F.DPD_SWAP_MASK0_PATHS F.DPD_SWAP_MASK1_PATHS)] } } s)) ∧
  -- A cross-fade reaches its length and a queued request or refresh starts its fade (R181).
  (∀ (s : State) (p : Fin 64) (f : Fade),
     s.on = true →
     (s.dpdPath p.val).fade = some f →
     exec (.fadeComplete p) s = .next (State.follow ((s.fadeComplete p.val).refreshStart p.val) s)) ∧
  -- A slot in which a capture span of a path that may be captured occurred (R186).
  (∀ (s : State) (k : Fin 8) (ri : Int) (rq : Int) (fill : Fin 2049) (lost : BitVec 16) (p : Nat) (t : State) (u : State),
     s.on = true →
     s.orxSlotOpen k.val = true →
     s.orxNext k.val = some p →
     State.meter { s with dpd := { s.dpd with
   lastPath := sparseInsert s.dpd.lastPath k.val p
   lastSlot := sparseInsert s.dpd.lastSlot k.val s.aon
   nofbSlot := if s.flag (F.DPD_P_STAT_NOFB p) then sparseInsert s.dpd.nofbSlot p s.aon else s.dpd.nofbSlot } } 1
 ((2048 - fill.val) * 3125 / 6144) = t →
     (if lost.toNat = 0 then t else (t.add (F.TOP_SLIP_CNT_COUNT 1) lost.toNat).raiseMs 0x0002 (info2 1 k.val) (256 + k.val))
 = u →
     u.orxCan p = true →
     exec (.orxSlot k true ri rq fill lost) s = .next (State.follow ((u.setDpdPath p { u.dpdPath p with
       capture := some (u.dpdActive p, false, u.tide.now) }).lolTrack p ri rq) s)) ∧
  -- No capture, or a path that cannot be captured now: the slot is counted as skipped (R186).
  (∀ (s : State) (k : Fin 8) (found : Bool) (ri : Int) (rq : Int) (fill : Fin 2049) (lost : BitVec 16) (p : Nat) (t : State) (u :
     State),
     s.on = true →
     s.orxSlotOpen k.val = true →
     s.orxNext k.val = some p →
     State.meter { s with dpd := { s.dpd with
   lastPath := sparseInsert s.dpd.lastPath k.val p
   lastSlot := sparseInsert s.dpd.lastSlot k.val s.aon
   nofbSlot := if s.flag (F.DPD_P_STAT_NOFB p) then sparseInsert s.dpd.nofbSlot p s.aon else s.dpd.nofbSlot } } 1
 ((2048 - fill.val) * 3125 / 6144) = t →
     (if lost.toNat = 0 then t else (t.add (F.TOP_SLIP_CNT_COUNT 1) lost.toNat).raiseMs 0x0002 (info2 1 k.val) (256 + k.val))
 = u →
     (found && u.orxCan p) = false →
     exec (.orxSlot k found ri rq fill lost) s = .next (State.follow (u.inc (F.DPD_P_REJ_SKIP p)) s)) ∧
  -- A capture that aligns: its delay is shown, DPD_ERR judged, and the bank updated where no result is under test (R188, R189,
  -- R193).
  (∀ (s : State) (p : Fin 64) (rms : Int) (corr : Fin 1001) (delay : Fin 2048) (nmse : BitVec 16) (x : DpdPath) (bank : Nat) (e :
     Nat) (b : Bool) (t : State) (u : State),
     s.on = true →
     s.dpdPath p.val = x →
     x.capture = some (bank, b, e) →
     s.setDpdPath p.val { x with capture := none } = t →
     -(((100 * s.get F.DPD_CHECK_MIN_DB : Nat) : Int)) ≤ rms →
     500 ≤ corr.val →
     (t.alignGood p.val delay.val).dpdErr p.val nmse.toInt e = u →
     (u.dpdPath p.val).applied = none →
     exec (.dpdSolveDone p rms false corr delay nmse) s = .next (State.follow (u.solveUpdate p.val bank b nmse.toInt) s)) ∧
  -- The update under test made the result worse by more than REVERT_DB: it is reverted (R192).
  (∀ (s : State) (p : Fin 64) (rms : Int) (corr : Fin 1001) (delay : Fin 2048) (nmse : BitVec 16) (x : DpdPath) (bank : Nat) (e :
     Nat) (b : Bool) (old : Int) (t : State) (u : State),
     s.on = true →
     s.dpdPath p.val = x →
     x.capture = some (bank, b, e) →
     s.setDpdPath p.val { x with capture := none } = t →
     -(((100 * s.get F.DPD_CHECK_MIN_DB : Nat) : Int)) ≤ rms →
     500 ≤ corr.val →
     (t.alignGood p.val delay.val).dpdErr p.val nmse.toInt e = u →
     (u.dpdPath p.val).applied = some (bank, old) →
     u.dpdActive p.val = bank →
     old + ((10 * u.get F.DPD_CHECK_REVERT_DB : Nat) : Int) < nmse.toInt →
     exec (.dpdSolveDone p rms false corr delay nmse) s = .next (State.follow (u.solveRevert p.val bank nmse.toInt) s)) ∧
  -- Too little power, an over-range, a correlation below one half: the capture is rejected (R187, R188).
  (∀ (s : State) (p : Fin 64) (rms : Int) (ovr : Bool) (corr : Fin 1001) (delay : Fin 2048) (nmse : BitVec 16) (x : DpdPath) (bank
     : Nat) (e : Nat) (b : Bool) (t : State),
     s.on = true →
     s.dpdPath p.val = x →
     x.capture = some (bank, b, e) →
     s.setDpdPath p.val { x with capture := none } = t →
     (rms < -(((100 * s.get F.DPD_CHECK_MIN_DB : Nat) : Int)) ∨ ovr = true ∨ corr.val < 500) →
     exec (.dpdSolveDone p rms ovr corr delay nmse) s = .next (State.follow
       (if rms < -(((100 * s.get F.DPD_CHECK_MIN_DB : Nat) : Int)) then t.inc (F.DPD_P_REJ_LOWPWR p.val)
        else if ovr then t.inc (F.DPD_P_REJ_ORX_OVR p.val) else t.alignFail p.val) s)) ∧
  -- A waiting refresh of the active bank starts its fade; the coefficients it leaves become the undo copy (R190).
  (∀ (s : State) (p : Fin 64) (x : DpdPath) (bank : Nat) (n : Nat) (coef : List Cx),
     s.on = true →
     s.dpdPath p.val = x →
     x.refresh = some ⟨bank, coef, false⟩ →
     s.dpdActive p.val = bank →
     x.fade = none →
     s.flag (F.DPD_P_STAT_QV p.val) = false →
     s.fadeLen = n →
     n ≠ 0 →
     exec (.refreshFadeStart p) s = .next (State.follow ((s.setDpdPath p.val { x with
       refresh := none
       undo := sparseInsert x.undo bank (s.dpdBank p.val bank)
       fade := some ⟨bank, bank, s.nextTxK, n, s.dpdBank p.val bank, coef⟩ }).putb (F.DPD_P_STAT_FADE p.val) true) s)) ∧
  -- A calibrated ORX spare replaces the slice that has served longest (R183).
  (∀ (s : State) (k : Fin 8) (q : Fin 2) (slice : Fin 17) (a : OrxAdc) (b : OrxAdc) (sp : Nat) (o : Nat) (os : List Nat) (t :
     State),
     s.on = true →
     s.hasQuad k.val = true →
     s.orxAdc k.val q.val = a →
     s.setOrxAdc k.val q.val { a with resid := setNth a.resid slice.val 0 } = t →
     t.orxAdc k.val q.val = b →
     b.spare = some sp →
     b.order = o :: os →
     exec (.orxSliceExchange k q slice false false) s = .next (State.follow
       (t.setOrxAdc k.val q.val { b with order := os ++ [sp], spare := some o }) s)) ∧
  -- A trim at its limit retires the ORX slice (R183).
  (∀ (s : State) (k : Fin 8) (q : Fin 2) (slice : Fin 17) (a : OrxAdc) (t : State),
     s.on = true →
     s.hasQuad k.val = true →
     s.orxAdc k.val q.val = a →
     s.setOrxAdc k.val q.val { a with resid := setNth a.resid slice.val 0 } = t →
     exec (.orxSliceExchange k q slice true false) s = .next (State.follow (t.orxFail k.val q.val slice.val) s)) ∧
  -- Writing DPD.CNT_CLR.PATH clears every Pnn_SAT and Pnn_REJ (R176).
  (∀ (s : State) (src : Source) (v : Word) (t : State) (w : Word),
     s.on = true →
     s.touch src = t →
     fixBit v 2 = w →
     s.opens src F.DPD_CNT_CLR_PATH.addr w = true →
     bitAt w.toNat 1 = false →
     bitAt w.toNat 0 = false →
     exec (.dpdCntClrPath src v) s = .next (State.follow ((t.clearStep 0x81010 0x20 64).clearStep 0x81014 0x20 64) s)) ∧
  -- Writing DPD.CNT_CLR.DROP clears DROP_CNT (R182).
  (∀ (s : State) (src : Source) (v : Word) (t : State) (w : Word),
     s.on = true →
     s.touch src = t →
     fixBit v 1 = w →
     s.opens src F.DPD_CNT_CLR_PATH.addr w = true →
     bitAt w.toNat 2 = false →
     bitAt w.toNat 0 = false →
     exec (.dpdCntClrDrop src v) s = .next (State.follow (t.put F.DPD_DROP_CNT_COUNT 0) s)) ∧
  -- Writing DPD.CNT_CLR.ACTWR clears ACTWR_CNT (R178).
  (∀ (s : State) (src : Source) (v : Word) (t : State) (w : Word),
     s.on = true →
     s.touch src = t →
     fixBit v 0 = w →
     s.opens src F.DPD_CNT_CLR_PATH.addr w = true →
     bitAt w.toNat 2 = false →
     bitAt w.toNat 1 = false →
     exec (.dpdCntClrActwr src v) s = .next (State.follow (t.put F.DPD_ACTWR_CNT_COUNT 0) s))

/-- The operations of a Quay bundle (R202, R204, R205, R210, R211). Commands: nop, mac, macc, msu, mul, mulc, mag2, adda, zero,
shra, nr, nrc, nro, add, sub, cmul, conj, neg, movv, rot, bcast, out, loop, jmp, movr, halt, illegalBundle. -/
def Obligations.QuayBundles : Prop :=
  -- NOP: no operation beside the slots and the pointer updates (R204).
  (∀ (s : State) (q : Fin 96) (b : Bundle) (t : State),
     s.on = true →
     s.coreRuns q.val = true →
     s.bundleAt q.val = b →
     b.opc = 0x00 →
     s.coreFault q.val b = 0 →
     s.coreWaits q.val b = 0 →
     (s.waitCount q.val).put (F.QCTL_K_STAT_WAIT q.val) 0 = t →
     exec (.nop q) s = .next (State.follow (t.coreDo q.val b) s)) ∧
  -- MAC (R205).
  (∀ (s : State) (q : Fin 96) (b : Bundle) (t : State),
     s.on = true →
     s.coreRuns q.val = true →
     s.bundleAt q.val = b →
     b.opc = 0x01 →
     s.coreFault q.val b = 0 →
     s.coreWaits q.val b = 0 →
     (s.waitCount q.val).put (F.QCTL_K_STAT_WAIT q.val) 0 = t →
     exec (.mac q) s = .next (State.follow (t.coreDo q.val b) s)) ∧
  -- MACC (R205).
  (∀ (s : State) (q : Fin 96) (b : Bundle) (t : State),
     s.on = true →
     s.coreRuns q.val = true →
     s.bundleAt q.val = b →
     b.opc = 0x02 →
     s.coreFault q.val b = 0 →
     s.coreWaits q.val b = 0 →
     (s.waitCount q.val).put (F.QCTL_K_STAT_WAIT q.val) 0 = t →
     exec (.macc q) s = .next (State.follow (t.coreDo q.val b) s)) ∧
  -- MSU (R205).
  (∀ (s : State) (q : Fin 96) (b : Bundle) (t : State),
     s.on = true →
     s.coreRuns q.val = true →
     s.bundleAt q.val = b →
     b.opc = 0x03 →
     s.coreFault q.val b = 0 →
     s.coreWaits q.val b = 0 →
     (s.waitCount q.val).put (F.QCTL_K_STAT_WAIT q.val) 0 = t →
     exec (.msu q) s = .next (State.follow (t.coreDo q.val b) s)) ∧
  -- MUL (R205).
  (∀ (s : State) (q : Fin 96) (b : Bundle) (t : State),
     s.on = true →
     s.coreRuns q.val = true →
     s.bundleAt q.val = b →
     b.opc = 0x04 →
     s.coreFault q.val b = 0 →
     s.coreWaits q.val b = 0 →
     (s.waitCount q.val).put (F.QCTL_K_STAT_WAIT q.val) 0 = t →
     exec (.mul q) s = .next (State.follow (t.coreDo q.val b) s)) ∧
  -- MULC (R205).
  (∀ (s : State) (q : Fin 96) (b : Bundle) (t : State),
     s.on = true →
     s.coreRuns q.val = true →
     s.bundleAt q.val = b →
     b.opc = 0x05 →
     s.coreFault q.val b = 0 →
     s.coreWaits q.val b = 0 →
     (s.waitCount q.val).put (F.QCTL_K_STAT_WAIT q.val) 0 = t →
     exec (.mulc q) s = .next (State.follow (t.coreDo q.val b) s)) ∧
  -- MAG2 (R205).
  (∀ (s : State) (q : Fin 96) (b : Bundle) (t : State),
     s.on = true →
     s.coreRuns q.val = true →
     s.bundleAt q.val = b →
     b.opc = 0x06 →
     s.coreFault q.val b = 0 →
     s.coreWaits q.val b = 0 →
     (s.waitCount q.val).put (F.QCTL_K_STAT_WAIT q.val) 0 = t →
     exec (.mag2 q) s = .next (State.follow (t.coreDo q.val b) s)) ∧
  -- ADDA (R205).
  (∀ (s : State) (q : Fin 96) (b : Bundle) (t : State),
     s.on = true →
     s.coreRuns q.val = true →
     s.bundleAt q.val = b →
     b.opc = 0x07 →
     s.coreFault q.val b = 0 →
     s.coreWaits q.val b = 0 →
     (s.waitCount q.val).put (F.QCTL_K_STAT_WAIT q.val) 0 = t →
     exec (.adda q) s = .next (State.follow (t.coreDo q.val b) s)) ∧
  -- ZERO (R205).
  (∀ (s : State) (q : Fin 96) (b : Bundle) (t : State),
     s.on = true →
     s.coreRuns q.val = true →
     s.bundleAt q.val = b →
     b.opc = 0x08 →
     s.coreFault q.val b = 0 →
     s.coreWaits q.val b = 0 →
     (s.waitCount q.val).put (F.QCTL_K_STAT_WAIT q.val) 0 = t →
     exec (.zero q) s = .next (State.follow (t.coreDo q.val b) s)) ∧
  -- SHRA (R205).
  (∀ (s : State) (q : Fin 96) (b : Bundle) (t : State),
     s.on = true →
     s.coreRuns q.val = true →
     s.bundleAt q.val = b →
     b.opc = 0x09 →
     s.coreFault q.val b = 0 →
     s.coreWaits q.val b = 0 →
     (s.waitCount q.val).put (F.QCTL_K_STAT_WAIT q.val) 0 = t →
     exec (.shra q) s = .next (State.follow (t.coreDo q.val b) s)) ∧
  -- NR (R205).
  (∀ (s : State) (q : Fin 96) (b : Bundle) (t : State),
     s.on = true →
     s.coreRuns q.val = true →
     s.bundleAt q.val = b →
     b.opc = 0x10 →
     s.coreFault q.val b = 0 →
     s.coreWaits q.val b = 0 →
     (s.waitCount q.val).put (F.QCTL_K_STAT_WAIT q.val) 0 = t →
     exec (.nr q) s = .next (State.follow (t.coreDo q.val b) s)) ∧
  -- NRC (R205).
  (∀ (s : State) (q : Fin 96) (b : Bundle) (t : State),
     s.on = true →
     s.coreRuns q.val = true →
     s.bundleAt q.val = b →
     b.opc = 0x11 →
     s.coreFault q.val b = 0 →
     s.coreWaits q.val b = 0 →
     (s.waitCount q.val).put (F.QCTL_K_STAT_WAIT q.val) 0 = t →
     exec (.nrc q) s = .next (State.follow (t.coreDo q.val b) s)) ∧
  -- NRO (R205).
  (∀ (s : State) (q : Fin 96) (b : Bundle) (t : State),
     s.on = true →
     s.coreRuns q.val = true →
     s.bundleAt q.val = b →
     b.opc = 0x12 →
     s.coreFault q.val b = 0 →
     s.coreWaits q.val b = 0 →
     (s.waitCount q.val).put (F.QCTL_K_STAT_WAIT q.val) 0 = t →
     exec (.nro q) s = .next (State.follow (t.coreDo q.val b) s)) ∧
  -- ADD (R205).
  (∀ (s : State) (q : Fin 96) (b : Bundle) (t : State),
     s.on = true →
     s.coreRuns q.val = true →
     s.bundleAt q.val = b →
     b.opc = 0x18 →
     s.coreFault q.val b = 0 →
     s.coreWaits q.val b = 0 →
     (s.waitCount q.val).put (F.QCTL_K_STAT_WAIT q.val) 0 = t →
     exec (.add q) s = .next (State.follow (t.coreDo q.val b) s)) ∧
  -- SUB (R205).
  (∀ (s : State) (q : Fin 96) (b : Bundle) (t : State),
     s.on = true →
     s.coreRuns q.val = true →
     s.bundleAt q.val = b →
     b.opc = 0x19 →
     s.coreFault q.val b = 0 →
     s.coreWaits q.val b = 0 →
     (s.waitCount q.val).put (F.QCTL_K_STAT_WAIT q.val) 0 = t →
     exec (.sub q) s = .next (State.follow (t.coreDo q.val b) s)) ∧
  -- CMUL (R205).
  (∀ (s : State) (q : Fin 96) (b : Bundle) (t : State),
     s.on = true →
     s.coreRuns q.val = true →
     s.bundleAt q.val = b →
     b.opc = 0x1A →
     s.coreFault q.val b = 0 →
     s.coreWaits q.val b = 0 →
     (s.waitCount q.val).put (F.QCTL_K_STAT_WAIT q.val) 0 = t →
     exec (.cmul q) s = .next (State.follow (t.coreDo q.val b) s)) ∧
  -- CONJ (R205).
  (∀ (s : State) (q : Fin 96) (b : Bundle) (t : State),
     s.on = true →
     s.coreRuns q.val = true →
     s.bundleAt q.val = b →
     b.opc = 0x1B →
     s.coreFault q.val b = 0 →
     s.coreWaits q.val b = 0 →
     (s.waitCount q.val).put (F.QCTL_K_STAT_WAIT q.val) 0 = t →
     exec (.conj q) s = .next (State.follow (t.coreDo q.val b) s)) ∧
  -- NEG (R205).
  (∀ (s : State) (q : Fin 96) (b : Bundle) (t : State),
     s.on = true →
     s.coreRuns q.val = true →
     s.bundleAt q.val = b →
     b.opc = 0x1C →
     s.coreFault q.val b = 0 →
     s.coreWaits q.val b = 0 →
     (s.waitCount q.val).put (F.QCTL_K_STAT_WAIT q.val) 0 = t →
     exec (.neg q) s = .next (State.follow (t.coreDo q.val b) s)) ∧
  -- MOVV (R205).
  (∀ (s : State) (q : Fin 96) (b : Bundle) (t : State),
     s.on = true →
     s.coreRuns q.val = true →
     s.bundleAt q.val = b →
     b.opc = 0x1D →
     s.coreFault q.val b = 0 →
     s.coreWaits q.val b = 0 →
     (s.waitCount q.val).put (F.QCTL_K_STAT_WAIT q.val) 0 = t →
     exec (.movv q) s = .next (State.follow (t.coreDo q.val b) s)) ∧
  -- ROT (R205).
  (∀ (s : State) (q : Fin 96) (b : Bundle) (t : State),
     s.on = true →
     s.coreRuns q.val = true →
     s.bundleAt q.val = b →
     b.opc = 0x1E →
     s.coreFault q.val b = 0 →
     s.coreWaits q.val b = 0 →
     (s.waitCount q.val).put (F.QCTL_K_STAT_WAIT q.val) 0 = t →
     exec (.rot q) s = .next (State.follow (t.coreDo q.val b) s)) ∧
  -- BCAST (R205).
  (∀ (s : State) (q : Fin 96) (b : Bundle) (t : State),
     s.on = true →
     s.coreRuns q.val = true →
     s.bundleAt q.val = b →
     b.opc = 0x1F →
     s.coreFault q.val b = 0 →
     s.coreWaits q.val b = 0 →
     (s.waitCount q.val).put (F.QCTL_K_STAT_WAIT q.val) 0 = t →
     exec (.bcast q) s = .next (State.follow (t.coreDo q.val b) s)) ∧
  -- OUT (R205).
  (∀ (s : State) (q : Fin 96) (b : Bundle) (t : State),
     s.on = true →
     s.coreRuns q.val = true →
     s.bundleAt q.val = b →
     b.opc = 0x20 →
     s.coreFault q.val b = 0 →
     s.coreWaits q.val b = 0 →
     (s.waitCount q.val).put (F.QCTL_K_STAT_WAIT q.val) 0 = t →
     exec (.out q) s = .next (State.follow (t.coreDo q.val b) s)) ∧
  -- LOOP (R210).
  (∀ (s : State) (q : Fin 96) (b : Bundle) (t : State),
     s.on = true →
     s.coreRuns q.val = true →
     s.bundleAt q.val = b →
     b.opc = 0x30 →
     s.coreFault q.val b = 0 →
     s.coreWaits q.val b = 0 →
     (s.waitCount q.val).put (F.QCTL_K_STAT_WAIT q.val) 0 = t →
     exec (.loop q) s = .next (State.follow (t.coreDo q.val b) s)) ∧
  -- JMP (R210).
  (∀ (s : State) (q : Fin 96) (b : Bundle) (t : State),
     s.on = true →
     s.coreRuns q.val = true →
     s.bundleAt q.val = b →
     b.opc = 0x31 →
     s.coreFault q.val b = 0 →
     s.coreWaits q.val b = 0 →
     (s.waitCount q.val).put (F.QCTL_K_STAT_WAIT q.val) 0 = t →
     exec (.jmp q) s = .next (State.follow (t.coreDo q.val b) s)) ∧
  -- MOVR (R202).
  (∀ (s : State) (q : Fin 96) (b : Bundle) (t : State),
     s.on = true →
     s.coreRuns q.val = true →
     s.bundleAt q.val = b →
     b.opc = 0x32 →
     s.coreFault q.val b = 0 →
     s.coreWaits q.val b = 0 →
     (s.waitCount q.val).put (F.QCTL_K_STAT_WAIT q.val) 0 = t →
     exec (.movr q) s = .next (State.follow (t.coreDo q.val b) s)) ∧
  -- HALT (R211).
  (∀ (s : State) (q : Fin 96) (b : Bundle) (t : State),
     s.on = true →
     s.coreRuns q.val = true →
     s.bundleAt q.val = b →
     b.opc = 0x3F →
     s.coreFault q.val b = 0 →
     s.coreWaits q.val b = 0 →
     (s.waitCount q.val).put (F.QCTL_K_STAT_WAIT q.val) 0 = t →
     exec (.halt q) s = .next (State.follow (t.coreDo q.val b) s)) ∧
  -- An illegal bundle: the core stops on it with FCODE 1 (R211).
  (∀ (s : State) (q : Fin 96) (b : Bundle),
     s.on = true →
     s.coreRuns q.val = true →
     s.bundleAt q.val = b →
     b.illegal = true →
     exec (.illegalBundle q) s = .next (State.follow (s.coreFaults q.val 1) s))

/-- Dealing, core and cluster control, the shadow and core swaps (R200, R213, R215, R216, R218, R219, R223). Commands: unitDeal,
quayWindowWrite, coreRunWrite, clusterCtlWrite, shadowTurn, coreSwapGo, coreSwapSwitch. -/
def Obligations.QuayClusters : Prop :=
  -- The distributor deals a receive block whose inputs have come (R213).
  (∀ (s : State) (c : Fin 4) (t : State) (u : State),
     s.on = true →
     s.dealCheck c.val = t →
     (t.cluster c.val).begun = true →
     t.dirOf c.val = 0 →
     t.blockReady c.val (t.cluster c.val).next = true →
     t.dealBlock c.val (t.cluster c.val).next = u →
     exec (.unitDeal c) s = .next (State.follow (u.setCluster c.val
       { u.cluster c.val with next := (t.cluster c.val).next + 1 }).antTrim s)) ∧
  -- The distributor deals a transmit block, ahead of its last air instant (R213, R223).
  (∀ (s : State) (c : Fin 4) (t : State) (x : State) (u : State),
     s.on = true →
     s.dealCheck c.val = t →
     (t.cluster c.val).begun = true →
     t.dirOf c.val ≠ 0 →
     t.reachAbs (t.tapAt 2 (8 * (t.cluster c.val).next + 7) - txLead) = x →
     x.blockReady c.val (t.cluster c.val).next = true →
     x.dealBlock c.val (t.cluster c.val).next = u →
     exec (.unitDeal c) s = .next (State.follow (u.setCluster c.val
       { u.cluster c.val with next := (t.cluster c.val).next + 1 }).antTrim s)) ∧
  -- A word of a core's memories is written, instruction memory while RUN = 0 (R215).
  (∀ (s : State) (src : Source) (q : Fin 96) (w : Fin 28672) (v : Word) (t : State),
     s.on = true →
     s.touch src = t →
     t.srcLevel src true ≠ 0 →
     t.hasCluster (q.val / 24) = true →
     t.up (domQCL (q.val / 24)) = true →
     (w.val < 0x1000 → t.flag (F.QCTL_K_CTL_RUN q.val) = false) →
     exec (.quayWindowWrite src q w v) s = .next (State.follow (t.setMemWord (coreBase q.val + 4 * w.val) v.toNat) s)) ∧
  -- Instruction memory of a core with RUN = 1: the write is refused and counted (R215).
  (∀ (s : State) (src : Source) (q : Fin 96) (w : Fin 28672) (v : Word) (t : State),
     s.on = true →
     s.touch src = t →
     t.srcLevel src true ≠ 0 →
     t.hasCluster (q.val / 24) = true →
     t.up (domQCL (q.val / 24)) = true →
     w.val < 0x1000 →
     t.flag (F.QCTL_K_CTL_RUN q.val) = true →
     exec (.quayWindowWrite src q w v) s = .next (State.follow t.cfgReject s)) ∧
  -- RUN set on a stopped core: the other fields are taken and the core starts at START_PC (R216, R200).
  (∀ (s : State) (src : Source) (q : Fin 96) (v : Word) (t : State),
     s.on = true →
     s.touch src = t →
     s.opens src (F.QCTL_K_CTL_RUN q.val).addr v = true →
     t.up (domQCL (q.val / 24)) = true →
     t.flag (F.QCTL_K_CTL_RUN q.val) = false →
     bitAt v.toNat 31 = true →
     exec (.coreRunWrite src q v) s = .next (State.follow (State.coreStart ((t.each [F.QCTL_K_CTL_WRAP q.val, F.QCTL_K_CTL_SWAP_SAFE q.val,
       F.QCTL_K_CTL_WP_EN q.val, F.QCTL_K_CTL_START_PC q.val] (fun u f => u.put f (bitsAt v.toNat f.lo f.width))).putb
         (F.QCTL_K_CTL_RUN q.val) true) q.val) s)) ∧
  -- RUN cleared: the core stops where it is (R216).
  (∀ (s : State) (src : Source) (q : Fin 96) (v : Word) (t : State),
     s.on = true →
     s.touch src = t →
     s.opens src (F.QCTL_K_CTL_RUN q.val).addr v = true →
     t.up (domQCL (q.val / 24)) = true →
     t.flag (F.QCTL_K_CTL_RUN q.val) = true →
     bitAt v.toNat 31 = false →
     [F.QCTL_K_CTL_WRAP q.val, F.QCTL_K_CTL_SWAP_SAFE q.val, F.QCTL_K_CTL_WP_EN q.val, F.QCTL_K_CTL_START_PC q.val].any
 (fun f => bitsAt v.toNat f.lo f.width != t.get f) = false →
     exec (.coreRunWrite src q v) s = .next (State.follow (State.coreStop (t.putb (F.QCTL_K_CTL_RUN q.val) false) q.val) s)) ∧
  -- Another field with RUN = 1 is not taken: the write is counted (R216).
  (∀ (s : State) (src : Source) (q : Fin 96) (v : Word) (t : State),
     s.on = true →
     s.touch src = t →
     s.opens src (F.QCTL_K_CTL_RUN q.val).addr v = true →
     t.up (domQCL (q.val / 24)) = true →
     t.flag (F.QCTL_K_CTL_RUN q.val) = true →
     bitAt v.toNat 31 = true →
     [F.QCTL_K_CTL_WRAP q.val, F.QCTL_K_CTL_SWAP_SAFE q.val, F.QCTL_K_CTL_WP_EN q.val, F.QCTL_K_CTL_START_PC q.val].any
 (fun f => bitsAt v.toNat f.lo f.width != t.get f) = true →
     exec (.coreRunWrite src q v) s = .next (State.follow (t.cfgReject.putb (F.QCTL_K_CTL_RUN q.val) true) s)) ∧
  -- Cc_CTL with RUN = 0: its fields are taken, and the cluster begins if it may deal (R216, R213).
  (∀ (s : State) (src : Source) (c : Fin 4) (v : Word) (t : State) (u : State),
     s.on = true →
     s.touch src = t →
     s.opens src (F.QCTL_C_CTL_RUN c.val).addr v = true →
     t.up (domQCL c.val) = true →
     t.flag (F.QCTL_C_CTL_RUN c.val) = false →
     ((t.each [F.QCTL_C_CTL_DIR c.val, F.QCTL_C_CTL_SHADOW c.val, F.QCTL_C_CTL_OUT_VEC c.val]
 (fun u f => u.put f (bitsAt v.toNat f.lo f.width))).putb (F.QCTL_C_CTL_RUN c.val) (bitAt v.toNat 31)).dealCheck c.val = u →
     exec (.clusterCtlWrite src c false v) s = .next (State.follow (if u.flag (F.QCTL_C_CTL_SHADOW c.val) then u
       else u.shadowStop c.val) s)) ∧
  -- Cc_MAP with RUN = 0 is taken (R216).
  (∀ (s : State) (src : Source) (c : Fin 4) (v : Word) (t : State),
     s.on = true →
     s.touch src = t →
     s.opens src (F.QCTL_C_MAP_UNITS c.val).addr v = true →
     t.up (domQCL c.val) = true →
     t.flag (F.QCTL_C_CTL_RUN c.val) = false →
     exec (.clusterCtlWrite src c true v) s = .next (State.follow (t.each [F.QCTL_C_MAP_IN_BASE c.val, F.QCTL_C_MAP_IN_VEC c.val,
       F.QCTL_C_MAP_OUT_BASE c.val, F.QCTL_C_MAP_UNITS c.val] (fun u f => u.put f (bitsAt v.toNat f.lo f.width))) s)) ∧
  -- Cc_MAP with RUN = 1 is refused and counted (R216).
  (∀ (s : State) (src : Source) (c : Fin 4) (v : Word) (t : State),
     s.on = true →
     s.touch src = t →
     s.opens src (F.QCTL_C_MAP_UNITS c.val).addr v = true →
     t.up (domQCL c.val) = true →
     t.flag (F.QCTL_C_CTL_RUN c.val) = true →
     exec (.clusterCtlWrite src c true v) s = .next (State.follow t.cfgReject s)) ∧
  -- The shadow's turn: the lowest reserve core takes the memories of the next SWAP_SAFE core and starts (R218).
  (∀ (s : State) (c : Fin 4) (t : State) (u : State) (cl : Cluster) (r : Nat) (k : Nat) (rs : List Nat) (ks : List Nat),
     s.on = true →
     (s.cluster c.val).shadow = none →
     s.cluster c.val = cl →
     s.up (domQCL c.val) = true →
     s.flag (F.QCTL_C_CTL_SHADOW c.val) = true →
     s.inRun = true →
     cl.swap = none →
     bitList 24 (s.get (F.QCTL_C_RSV_CORES c.val)) = r :: rs →
     ((List.range 24).map (fun i => (cl.turn + 1 + i) % 24)).filter (fun k =>
 s.inService c.val k && s.flag (F.QCTL_K_CTL_SWAP_SAFE (24 * c.val + k))) = k :: ks →
     s.copyCore (24 * c.val + k) (24 * c.val + r) = t →
     t.setCluster c.val { cl with
 turn := k
 shadow := some { shadow := r, core := k, since := t.aon, blk := cl.next } } = u →
     exec (.shadowTurn c) s = .next (State.follow (u.coreStart (24 * c.val + r)) s)) ∧
  -- A permitted swap copies OUT's memories and settings to IN, starts IN, and stays busy until the switch (R219).
  (∀ (s : State) (src : Source) (c : Fin 4) (v : Word) (t : State) (u : State) (x : State) (y : State) (w : Word) (i : Nat) (o :
     Nat),
     s.on = true →
     s.touch src = t →
     fixBit v 31 = w →
     s.opens src (F.QCTL_C_SWAP_GO c.val).addr w = true →
     t.up (domQCL c.val) = true →
     t.swapReason c.val (bitsAt w.toNat 8 5) (bitsAt w.toNat 0 5) = 0 →
     24 * c.val + bitsAt w.toNat 8 5 = i →
     24 * c.val + bitsAt w.toNat 0 5 = o →
     ((t.put (F.QCTL_C_SWAP_STAT_RESULT c.val) 0).shadowStop c.val).copyCore o i = u →
     ((u.put (F.QCTL_K_CTL_START_PC i) (u.get (F.QCTL_K_CTL_START_PC o))).put (F.QCTL_K_CTL_WRAP i)
   (u.get (F.QCTL_K_CTL_WRAP o))).put (F.QCTL_K_CTL_WP_EN i) (u.get (F.QCTL_K_CTL_WP_EN o)) = x →
     (x.putb (F.QCTL_K_CTL_RUN i) true).coreStart i = y →
     exec (.coreSwapGo src c v) s = .next (State.follow (State.putb (y.setCluster c.val { y.cluster c.val with
       swap := some { inn := bitsAt w.toNat 8 5, out := bitsAt w.toNat 0 5, since := y.aon } }) (F.QCTL_C_SWAP_STAT_BUSY c.val) true) s)) ∧
  -- A refused swap: RESULT says why, with its event (R219).
  (∀ (s : State) (src : Source) (c : Fin 4) (v : Word) (t : State) (w : Word) (r : Nat),
     s.on = true →
     s.touch src = t →
     fixBit v 31 = w →
     s.opens src (F.QCTL_C_SWAP_GO c.val).addr w = true →
     t.up (domQCL c.val) = true →
     t.swapReason c.val (bitsAt w.toNat 8 5) (bitsAt w.toNat 0 5) = r →
     r ≠ 0 →
     exec (.coreSwapGo src c v) s = .next (State.follow ((t.put (F.QCTL_C_SWAP_STAT_RESULT c.val) r).raise 0x0907 0) s)) ∧
  -- The switch of a swap that no berth switch brought, 10 ms after the copy: IN serves, OUT is retired (R219).
  (∀ (s : State) (c : Fin 4) (p : CoreSwap) (t : State) (u : State) (x : State) (y : State),
     s.on = true →
     (s.cluster c.val).swap = some p →
     p.seen = none →
     s.elapseTo (p.since + msU 10) = t →
     ((t.setCluster c.val { t.cluster c.val with
   swap := none
   drain := setBitAt (t.cluster c.val).drain p.out true }).putb (F.QCTL_C_SWAP_STAT_BUSY c.val) false).put
     (F.QCTL_C_STAT_CORES c.val) (setBitAt (setBitAt (t.get (F.QCTL_C_STAT_CORES c.val)) p.out false) p.inn true) = u →
     (u.put (F.QCTL_C_RSV_CORES c.val) (setBitAt (u.get (F.QCTL_C_RSV_CORES c.val)) p.inn false)) = x →
     ((x.put (F.QCTL_C_RET_CORES c.val) (setBitAt (u.get (F.QCTL_C_RET_CORES c.val)) p.out true)).drained
 (24 * c.val + p.out)).raise 0x0906 0 = y →
     y.get (F.QCTL_C_RSV_CORES c.val) ≠ 0 →
     exec (.coreSwapSwitch c) s = .next (State.follow (y.regrade 4) s))

/-- The schedules, berth switches and window writes (R228, R231, R232, R233, R234, R235, R293). Commands: schedAdd, schedCancel,
schedFlush, schedOpReserved, berthStage, berthSwitch, berthWindowWrite, maskApply. -/
def Obligations.BeamSchedule : Prop :=
  -- An ADD that passes the checks of R231 on a device outside a formed ring takes its place in stamp order.
  (∀ (s : State) (src : Source) (v : Word) (dir : Nat) (b : Nat) (a : BitVec 64) (t : State) (w : Word),
     s.on = true →
     s.touch src = t →
     fix (fixBit v 31) 28 2 0 = w →
     s.opens src F.BERTH_SCHED_CMD_GO.addr w = true →
     t.get64 F.BERTH_SCHED_AT_LO_STAMP F.BERTH_SCHED_AT_HI_STAMP = a →
     bitsAt w.toNat 30 1 = dir →
     bitsAt w.toNat 0 9 = b →
     t.flag F.RING_STAT_FORMED = false →
     t.schedCheck dir a b = 0 →
     exec (.schedAdd src v) s = .next (State.follow
       ((t.setSchedQ dir (placeSched ⟨a, b, none⟩ (t.schedQ dir))).put F.BERTH_SCHED_STAT_RESULT 0) s)) ∧
  -- The checks of R231 turn an ADD away: the result is shown, the refusal counted.
  (∀ (s : State) (src : Source) (v : Word) (dir : Nat) (b : Nat) (r : Nat) (a : BitVec 64) (t : State) (w : Word),
     s.on = true →
     s.touch src = t →
     fix (fixBit v 31) 28 2 0 = w →
     s.opens src F.BERTH_SCHED_CMD_GO.addr w = true →
     t.get64 F.BERTH_SCHED_AT_LO_STAMP F.BERTH_SCHED_AT_HI_STAMP = a →
     bitsAt w.toNat 30 1 = dir →
     bitsAt w.toNat 0 9 = b →
     t.flag F.RING_STAT_FORMED = false →
     t.schedCheck dir a b = r →
     r ≠ 0 →
     exec (.schedAdd src v) s = .next (State.follow
       (((t.inc F.BERTH_REF_CNT_COUNT).raiseMs 0x0A01 0 0).put F.BERTH_SCHED_STAT_RESULT r) s)) ∧
  -- On a member of a formed ring SCHED_CMD is refused as STATE (R293).
  (∀ (s : State) (src : Source) (v : Word) (t : State) (w : Word),
     s.on = true →
     s.touch src = t →
     fix (fixBit v 31) 28 2 0 = w →
     s.opens src F.BERTH_SCHED_CMD_GO.addr w = true →
     t.flag F.RING_STAT_FORMED = true →
     t.boot.chipId ≠ 0 →
     exec (.schedAdd src v) s = .next (State.follow
       (((t.inc F.BERTH_REF_CNT_COUNT).raiseMs 0x0A01 0 0).put F.BERTH_SCHED_STAT_RESULT schSTATE) s)) ∧
  -- An entry that is not staged yet is taken out of the queue (R232).
  (∀ (s : State) (src : Source) (v : Word) (dir : Nat) (a : BitVec 64) (e : SchedEntry) (t : State) (u : State) (w : Word),
     s.on = true →
     s.touch src = t →
     fix (fixBit v 31) 28 2 1 = w →
     s.opens src F.BERTH_SCHED_CMD_GO.addr w = true →
     t.get64 F.BERTH_SCHED_AT_LO_STAMP F.BERTH_SCHED_AT_HI_STAMP = a →
     bitsAt w.toNat 30 1 = dir →
     (t.schedQ dir).find? (fun e => e.at_ == a) = some e →
     e.copy = none →
     (t.setSchedQ dir ((t.schedQ dir).filter (fun x => x.at_ != a))).put F.BERTH_SCHED_STAT_RESULT 0 = u →
     t.flag F.RING_STAT_FORMED = false →
     u.flag F.RING_STAT_FORMED = false →
     exec (.schedCancel src v) s = .next (State.follow u s)) ∧
  -- No entry at the instant: NOTFOUND; a staged one: LATE (R232).
  (∀ (s : State) (src : Source) (v : Word) (dir : Nat) (r : Nat) (a : BitVec 64) (t : State) (w : Word),
     s.on = true →
     s.touch src = t →
     fix (fixBit v 31) 28 2 1 = w →
     s.opens src F.BERTH_SCHED_CMD_GO.addr w = true →
     t.get64 F.BERTH_SCHED_AT_LO_STAMP F.BERTH_SCHED_AT_HI_STAMP = a →
     bitsAt w.toNat 30 1 = dir →
     ((t.schedQ dir).find? (fun e => e.at_ == a) = none ∧ r = 5 ∨
   ∃ e, (t.schedQ dir).find? (fun e => e.at_ == a) = some e ∧ e.copy.isSome = true ∧ r = 1) →
     t.flag F.RING_STAT_FORMED = false →
     exec (.schedCancel src v) s = .next (State.follow (t.put F.BERTH_SCHED_STAT_RESULT r) s)) ∧
  -- Every entry that is not staged goes (R232).
  (∀ (s : State) (src : Source) (v : Word) (dir : Nat) (t : State) (u : State) (w : Word),
     s.on = true →
     s.touch src = t →
     fix (fixBit v 31) 28 2 2 = w →
     s.opens src F.BERTH_SCHED_CMD_GO.addr w = true →
     bitsAt w.toNat 30 1 = dir →
     (t.setSchedQ dir ((t.schedQ dir).filter (fun e => e.copy.isSome))).put F.BERTH_SCHED_STAT_RESULT 0 = u →
     t.flag F.RING_STAT_FORMED = false →
     u.flag F.RING_STAT_FORMED = false →
     exec (.schedFlush src v) s = .next (State.follow u s)) ∧
  -- OP 3 is refused as STATE (R231).
  (∀ (s : State) (src : Source) (v : Word) (t : State) (w : Word),
     s.on = true →
     s.touch src = t →
     fix (fixBit v 31) 28 2 3 = w →
     s.opens src F.BERTH_SCHED_CMD_GO.addr w = true →
     exec (.schedOpReserved src v) s = .next (State.follow
       (((t.inc F.BERTH_REF_CNT_COUNT).raiseMs 0x0A01 0 0).put F.BERTH_SCHED_STAT_RESULT schSTATE) s)) ∧
  -- 12 µs before an entry's instant its berth is copied into the weight cache (R233).
  (∀ (s : State) (dir : Fin 2) (e : SchedEntry) (t : State),
     s.on = true →
     (s.schedQ dir.val).find? (fun e => e.copy.isNone) = some e →
     s.reach (stampSub e.at_ (usU 12)) = t →
     exec (.berthStage dir) s = .next (State.follow (t.setSchedQ dir.val ((s.schedQ dir.val).map
       (fun x => if x.at_ = e.at_ then { x with copy := some (t.berthCopy dir.val e.num) } else x))) s)) ∧
  -- A staged entry takes effect: mask, sums, berth, predistorter banks, core swaps and clearance (R234, R235).
  (∀ (s : State) (dir : Fin 2) (e : SchedEntry) (l : List SchedEntry) (c : Cached) (t : State) (u : State) (v : State),
     s.on = true →
     s.schedQ dir.val = e :: l →
     e.copy = some c →
     s.reach e.at_ = t →
     ((t.setSchedQ dir.val l).sumsTake.maskTake dir.val).forceFrom dir.val (t.absOf e.at_) c = u →
     (if dir.val = 0 then u.swapRequests u.pathMask c.cls (gridFrom (t.absOf e.at_)) else u).quaySwitched dir.val
 (s.absOf e.at_) = v →
     exec (.berthSwitch dir) s = .next (State.follow (if dir.val = 0 then v.lbtSwitch (s.absOf e.at_) else v) s)) ∧
  -- A weight is written (R235).
  (∀ (s : State) (src : Source) (dir : Fin 2) (b : Fin 512) (w : Fin 2051) (v : Word) (t : State),
     s.on = true →
     s.touch src = t →
     w.val < 2048 →
     t.hasPath (w.val / 32) = true →
     t.srcLevel src true ≠ 0 →
     exec (.berthWindowWrite src dir b w v) s = .next (State.follow
       (t.setMemWord (berthAddr dir.val b.val (w.val / 32) (w.val % 32)) v.toNat) s)) ∧
  -- A word of a descriptor is written; the panel sums follow (R235, R293).
  (∀ (s : State) (src : Source) (dir : Fin 2) (b : Fin 512) (w : Fin 2051) (v : Word) (a : Nat) (t : State),
     s.on = true →
     s.touch src = t →
     2048 ≤ w.val →
     berthWordAddr dir.val b.val w.val = a →
     s.opens src a v = true →
     exec (.berthWindowWrite src dir b w v) s = .next (State.follow (t.plain a v.toNat).sendSums s)) ∧
  -- A changed mask applies at its boundary, without a switch (R228).
  (∀ (s : State) (dir : Fin 2) (a : Nat),
     s.on = true →
     s.maskAt dir.val = some a →
     exec (.maskApply dir) s = .next (State.follow (((s.reachAbs a).maskTake dir.val).reforce dir.val a) s)) ∧
  -- No mask waits: panel sums that are due are applied (R293).
  (∀ (s : State) (dir : Fin 2),
     s.on = true →
     s.maskAt dir.val = none →
     exec (.maskApply dir) s = .next (State.follow s.sumsDue s))

/-- ALIGN, berth calibration and the counters of BERTH (R224, R226, R231, R237). Commands: alignWrite, alignApply, bcalReq,
bcalStart, bcalTimeout, bcalDone, berthCntClrSat, berthCntClrRef. -/
def Obligations.BerthAlignmentAndCalibration : Prop :=
  -- The value is written and applies from the first block at least 2 µs later (R226).
  (∀ (s : State) (src : Source) (p : Fin 64) (dir : Fin 2) (pcal : Bool) (v : Word) (a : Nat) (t : State),
     s.on = true →
     s.touch src = t →
     (if pcal then fPCALRE dir.val p.val else fALIGN dir.val p.val).addr = a →
     s.opens src a v = true →
     exec (.alignWrite src p dir pcal v) s = .next (State.follow ((t.plain a v.toNat).alignWritten p.val dir.val) s)) ∧
  -- New values take effect; a change of ALIGN of at most 64 units leaves the block valid (R226).
  (∀ (s : State) (p : Fin 64) (dir : Fin 2) (a : Nat) (t : State) (new : Aligned),
     s.on = true →
     sparseFind s.berth.alignAt (2 * p.val + dir.val) = some a →
     s.reachAbs a = t →
     t.alignAsked p.val dir.val = new →
     (new.align - (t.alignedOf p.val dir.val).align).natAbs ≤ 64 →
     exec (.alignApply p dir) s = .next (State.follow { t with berth := { t.berth with
       aligned := sparsePut (fun _ => ({} : Aligned)) t.berth.aligned (2 * p.val + dir.val) new
       alignAt := sparseErase t.berth.alignAt (2 * p.val + dir.val) } } s)) ∧
  -- A kind, CALIO, an applied manifold and no calibration standing: the request waits up to 1 s for a gap (R237).
  (∀ (s : State) (src : Source) (v : Word) (t : State) (w : Word),
     s.on = true →
     s.touch src = t →
     fixBit v 31 = w →
     s.opens src F.BERTH_CAL_REQ_GO.addr w = true →
     bitsAt w.toNat 0 2 ≠ 0 →
     t.flag F.BERTH_CTL_CALIO_EN = true →
     t.boot.store.applied = true →
     t.boot.store.manifold ≠ [] →
     t.rx.cal = none →
     t.tx.cal = none →
     t.berth.cal = none →
     exec (.bcalReq src v) s = .next (State.follow
       (State.putb { t with berth := { t.berth with cal := some (bitsAt w.toNat 0 2, t.aon + sU 1, none) } } F.BERTH_CAL_STAT_WAIT true)
       s)) ∧
  -- No kind, no CALIO, no manifold, or a calibration that stands: refused (R237).
  (∀ (s : State) (src : Source) (v : Word) (t : State) (w : Word),
     s.on = true →
     s.touch src = t →
     fixBit v 31 = w →
     s.opens src F.BERTH_CAL_REQ_GO.addr w = true →
     (bitsAt w.toNat 0 2 = 0 ∨
t.flag F.BERTH_CTL_CALIO_EN = false ∨ t.boot.store.manifold = [] ∨ t.rx.cal ≠ none ∨ t.tx.cal ≠ none ∨ t.berth.cal ≠ none) →
     exec (.bcalReq src v) s = .next (State.follow (t.raise 0x0A07 0) s)) ∧
  -- A covering gap starts the berth calibration through CALIO (R237).
  (∀ (s : State) (kind : Nat) (w : Nat) (e : Nat) (u : State),
     s.on = true →
     s.berth.cal = some (kind, w, none) →
     s.gapCovers s.quadMask (bcalSpan kind) = true →
     s.tide.now + bcalSpan kind = e →
     (State.putb { s with berth := { s.berth with cal := some (kind, w, some e) } } F.BERTH_CAL_STAT_WAIT false).putb
 F.BERTH_CAL_STAT_BUSY true = u →
     exec .bcalStart s = .next (State.follow ((u.addMute ⟨3, u.tide.now, some e, none⟩).addSpan ⟨u.tide.now, some e, none⟩) s)) ∧
  -- A berth calibration with no gap within 1 s is refused (R237).
  (∀ (s : State) (kind : Nat) (w : Nat) (t : State),
     s.on = true →
     s.berth.cal = some (kind, w, none) →
     s.elapseTo w = t →
     exec .bcalTimeout s = .next (State.follow
       ((State.putb { t with berth := { t.berth with cal := none } } F.BERTH_CAL_STAT_WAIT false).raise 0x0A07 0) s)) ∧
  -- The present paths that are not retired and did not fail take the measured values (R237).
  (∀ (s : State) (fail : BitVec 64) (kind : Nat) (w : Nat) (e : Nat) (n : Nat) (bad : Nat) (t : State) (u : State) (v : State) (x
     : State) (live : Nat → List Nat),
     s.on = true →
     s.berth.cal = some (kind, w, some e) →
     s.reachAbs e = t →
     t.draw = (n, u) →
     (fun dir => u.paths.filter (fun p => if dir = 0 then !u.txRetired p else !u.rxRetired p)) = live →
     u.each (bitList 2 kind) (fun x dir => x.each ((live dir).filter (fun p => !bitAt (mask fail) p))
 (fun y p => y.bcalStore n dir p)) = v →
     maskOf (((bitList 2 kind).flatMap live).filter (fun p => bitAt (mask fail) p)) = bad →
     ((State.putb { v with berth := { v.berth with cal := none } } F.BERTH_CAL_STAT_BUSY false).put F.BERTH_CAL_STAT_FAIL
 (failBits 0 255 bad)).raise 0x0A06 0 = x →
     exec (.bcalDone fail) s = .next (State.follow (if bad = 0 then x else x.raise 0x0A08 0) s)) ∧
  -- Writing BERTH.CNT_CLR.SAT clears SAT_CNT (R224).
  (∀ (s : State) (src : Source) (v : Word) (t : State) (w : Word),
     s.on = true →
     s.touch src = t →
     fixBit v 1 = w →
     s.opens src F.BERTH_CNT_CLR_SAT.addr w = true →
     bitAt w.toNat 0 = false →
     exec (.berthCntClrSat src v) s = .next (State.follow (t.put F.BERTH_SAT_CNT_COUNT 0) s)) ∧
  -- Writing BERTH.CNT_CLR.REF clears REF_CNT (R231).
  (∀ (s : State) (src : Source) (v : Word) (t : State) (w : Word),
     s.on = true →
     s.touch src = t →
     fixBit v 0 = w →
     s.opens src F.BERTH_CNT_CLR_SAT.addr w = true →
     bitAt w.toNat 1 = false →
     exec (.berthCntClrRef src v) s = .next (State.follow (t.put F.BERTH_REF_CNT_COUNT 0) s))

/-- Training of a brick or ring port (R248, R249, R250, R252, R257, R259, R85). Commands: alignSetReceived, signalDetect,
trainStateTimeout, trainTimeout, retrainStart, dataColumnReceived, fwdClockLoss. -/
def Obligations.LinkTraining : Prop :=
  -- Sets in LOCK: lanes lock, polarity is taken, wiring faults fail a lane (R249 to R251).
  (∀ (s : State) (l : Fin 4) (sets : List (List Byte)) (skew : List Nat),
     s.on = true →
     s.linkState l.val = 2 →
     exec (.alignSetReceived l sets skew) s = .next (State.follow (s.linkAct (fun _ => s.lockSets l.val sets)) s)) ∧
  -- An accepted set in DESKEW gives every lane's skew.
  (∀ (s : State) (l : Fin 4) (sets : List (List Byte)) (skew : List Nat) (a : AlignSet),
     s.on = true →
     s.linkState l.val = 4 →
     acceptSet (s.port l.val).mini sets = some a →
     exec (.alignSetReceived l sets skew) s = .next (State.follow (s.linkAct (fun _ => s.deskew l.val skew)) s)) ∧
  -- An accepted set in HANDSHAKE: once both ends send mission superframes the link comes UP and takes the stripe (R249).
  (∀ (s : State) (l : Fin 4) (sets : List (List Byte)) (skew : List Nat) (a : AlignSet),
     s.on = true →
     s.linkState l.val = 6 →
     acceptSet (s.port l.val).mini sets = some a →
     exec (.alignSetReceived l sets skew) s = .next (State.follow (s.linkAct (fun _ =>
       let t := (s.txObey l.val a).handshake l.val a
       if t.linkUp l.val then t.stripeTake l.val a else t)) s)) ∧
  -- Forwarded clock and signal on every lane move a brick from DETECT to LOCK (R248).
  (∀ (s : State) (l : Fin 4),
     s.on = true →
     s.linkState l.val = 1 →
     exec (.signalDetect l) s = .next (State.follow (s.linkAct (fun _ => s.enterLink l.val 2)) s)) ∧
  -- LOCK runs out: lanes without lock fail; the link goes on where it can (R250).
  (∀ (s : State) (l : Fin 4) (t : State) (u : State) (ok : Bool),
     s.on = true →
     s.linkState l.val = 2 →
     s.elapseTo ((s.port l.val).stage + msU 5) = t →
     t.trainFail l.val (maskOf ((t.port l.val).lanes.filter (fun k => decide (nth 0 (t.port l.val).lock k < 8)))) = (u, ok) →
     exec (.trainStateTimeout l) s = .next (State.follow (s.linkAct (fun _ => if ok then u.lockCheck l.val else u)) s)) ∧
  -- EQUALISE has run its time: its codes are free values, and DESKEW begins.
  (∀ (s : State) (l : Fin 4),
     s.on = true →
     s.linkState l.val = 3 →
     exec (.trainStateTimeout l) s = .next (State.follow (s.linkAct (fun _ =>
       ((s.elapseTo ((s.port l.val).stage + msU 20)).equalised l.val).enterLink l.val 4)) s)) ∧
  -- QUALIFY runs out: lanes that showed a violation fail, then HANDSHAKE.
  (∀ (s : State) (l : Fin 4) (t : State) (u : State) (ok : Bool),
     s.on = true →
     s.linkState l.val = 5 →
     s.elapseTo ((s.port l.val).stage + msU 10) = t →
     t.trainFail l.val (t.port l.val).viol = (u, ok) →
     exec (.trainStateTimeout l) s = .next (State.follow (s.linkAct (fun _ => if ok then u.enterLink l.val 6 else u)) s)) ∧
  -- DESKEW and HANDSHAKE that run out begin again at DETECT.
  (∀ (s : State) (l : Fin 4),
     s.on = true →
     (s.linkState l.val = 4 ∨ s.linkState l.val = 6) →
     exec (.trainStateTimeout l) s = .next (State.follow (s.linkAct (fun _ =>
       (s.elapseTo ((s.port l.val).stage + msU 1)).linkDetect l.val)) s)) ∧
  -- Training not UP 150 ms after DETECT is abandoned and the brick goes DOWN (R252).
  (∀ (s : State) (l : Fin 4),
     s.on = true →
     (1 ≤ s.linkState l.val ∧ s.linkState l.val ≤ 6) →
     exec (.trainTimeout l) s = .next (State.follow (s.linkAct (fun _ =>
       ((s.elapseTo ((s.port l.val).attempt + msU 150)).linkDown l.val).linkRaise l.val 8)) s)) ∧
  -- 10 ms after DOWN training starts again (R259).
  (∀ (s : State) (l : Fin 4),
     s.on = true →
     s.linkState l.val = 9 →
     exec (.retrainStart l) s = .next (State.follow (s.linkAct (fun _ =>
       (s.elapseTo ((s.port l.val).stage + msU 10)).linkDetect l.val)) s)) ∧
  -- From BYPASS, with the link PLL at full rate again.
  (∀ (s : State) (l : Fin 4),
     s.on = true →
     s.linkState l.val = 8 →
     s.get (F.CLK_LPLL_STAT_MODE l.val) = 2 →
     exec (.retrainStart l) s = .next (State.follow (s.linkAct (fun _ => s.linkDetect l.val)) s)) ∧
  -- A column while the link trains: its violations are counted (R248).
  (∀ (s : State) (l : Fin 4) (col : List (Option Byte)),
     s.on = true →
     s.linkUp l.val = false →
     exec (.dataColumnReceived l col) s = .next (State.follow (s.linkAct (fun _ => s.violations l.val col)) s)) ∧
  -- In training it begins again.
  (∀ (s : State) (l : Fin 4),
     s.on = true →
     (2 ≤ s.linkState l.val ∧ s.linkState l.val ≤ 6) →
     exec (.fwdClockLoss l) s = .next (State.follow (s.linkAct (fun _ => s.linkDetect l.val)) s))

/-- Lanes in service: columns, repair, loss, adaptation and retraining (R244, R247, R248, R253, R254, R255, R259). Commands:
alignSetReceived, alignSetMissing, dataColumnReceived, laneSignalLoss, requalAttemptDone, remapStalled, fwdClockLoss,
dfeAdapt, ctleAdapt, eyeMeasure, fhlRetrainA, fhlRetrainB, fhlCntClr. -/
def Obligations.LinksInService : Prop :=
  -- An accepted set in UP: the transmitter obeys it and the stripe follows (R255 to R257).
  (∀ (s : State) (l : Fin 4) (sets : List (List Byte)) (skew : List Nat) (a : AlignSet),
     s.on = true →
     s.linkState l.val = 7 →
     acceptSet (s.port l.val).mini sets = some a →
     exec (.alignSetReceived l sets skew) s = .next (State.follow (s.linkAct (fun _ =>
       ((s.txObey l.val a).stripeTake l.val a).laneSets l.val sets)) s)) ∧
  -- The first superframe in a row without an accepted set.
  (∀ (s : State) (l : Fin 4),
     s.on = true →
     s.linkState l.val = 7 →
     (s.port l.val).miss = 0 →
     exec (.alignSetMissing l) s = .next (State.follow (s.linkAct (fun _ =>
       s.setPort l.val { s.port l.val with miss := 1, cv := List.replicate 9 0 })) s)) ∧
  -- The second takes the link DOWN (R259).
  (∀ (s : State) (l : Fin 4),
     s.on = true →
     s.linkState l.val = 7 →
     1 ≤ (s.port l.val).miss →
     exec (.alignSetMissing l) s = .next (State.follow (s.linkAct (fun _ => s.linkDown l.val)) s)) ∧
  -- A column of a link in UP without repair, every byte received and the parity true: its bytes reach the message layer (R247).
  (∀ (s : State) (l : Fin 4) (col : List (Option Byte)) (known : List Byte) (p : Byte),
     s.on = true →
     s.linkUp l.val = true →
     s.get (lkREPAIR l.val) = 0 →
     (s.port l.val).mini = false →
     bitAt (s.get (lkOFF l.val)) 8 = false →
     (s.stripe l.val).map (nth none col) = known.map some →
     nth none col 8 = some p →
     known.foldl (· ^^^ ·) (0 : Byte) = p →
     exec (.dataColumnReceived l col) s = .next (State.follow (s.linkAct (fun _ =>
       (s.columnGood l.val known).violations l.val col)) s)) ∧
  -- A lane of a link in UP with parity in use and no other lane in repair enters repair; past FLAP_N entries it is written off.
  (∀ (s : State) (l : Fin 4) (lane : Fin 9) (u : State),
     s.on = true →
     s.linkUp l.val = true →
     s.get (lkREPAIR l.val) = 0 →
     bitAt (s.get (lkOFF l.val)) lane.val = false →
     s.flag (lkPAR l.val) = true →
     State.laneRaise ((((((s.setPort l.val { s.port l.val with
   tries := setNth (s.port l.val).tries lane.val 0
   flaps := (lane.val, s.aon) :: (s.port l.val).flaps.take 255 }).put (lkREPAIR l.val) (setBitAt 0 lane.val true)).put
   (lnSTATE l.val lane.val) 4).put (lnCAUSE l.val lane.val) 1).inc (lnREPAIRS l.val lane.val)).syncLink l.val) l.val 3 lane.val = u →
     exec (.laneSignalLoss l lane) s = .next (State.follow (s.linkAct (fun _ =>
       if u.get F.FHL_LIM_FLAP_N ≠ 0 ∧ u.get F.FHL_LIM_FLAP_N ≤ u.flapCount l.val lane.val then u.writeOff l.val lane.val else u)) s)) ∧
  -- A second lane, or a lane without parity to repair it, takes the link DOWN (R253).
  (∀ (s : State) (l : Fin 4) (lane : Fin 9),
     s.on = true →
     s.linkUp l.val = true →
     bitAt (s.get (lkREPAIR l.val)) lane.val = false →
     bitAt (s.get (lkOFF l.val)) lane.val = false →
     (s.get (lkREPAIR l.val) ≠ 0 ∨ s.flag (lkPAR l.val) = false) →
     exec (.laneSignalLoss l lane) s = .next (State.follow (s.linkAct (fun _ => s.linkDown l.val)) s)) ∧
  -- A requalification that succeeds: the lane is in service again (R254).
  (∀ (s : State) (l : Fin 4) (lane : Fin 9),
     s.on = true →
     s.linkUp l.val = true →
     bitAt (s.port l.val).widen lane.val = false →
     s.get (lnSTATE l.val lane.val) = 4 →
     exec (.requalAttemptDone l lane true) s = .next (State.follow (s.linkAct (fun _ =>
       (((s.put (lkREPAIR l.val) (setBitAt (s.get (lkREPAIR l.val)) lane.val false)).put (lnSTATE l.val lane.val) 2).syncLink
         l.val).laneRaise l.val 4 lane.val)) s)) ∧
  -- One that fails is counted; at REQ_TRIES the lane is written off (R254).
  (∀ (s : State) (l : Fin 4) (lane : Fin 9) (n : Nat) (t : State),
     s.on = true →
     s.linkUp l.val = true →
     bitAt (s.port l.val).widen lane.val = false →
     s.get (lnSTATE l.val lane.val) = 4 →
     nth 0 (s.port l.val).tries lane.val + 1 = n →
     s.setPort l.val { s.port l.val with tries := setNth (s.port l.val).tries lane.val n } = t →
     exec (.requalAttemptDone l lane false) s = .next (State.follow (s.linkAct (fun _ =>
       if (if s.get F.FHL_LIM_REQ_TRIES = 0 then 1 else s.get F.FHL_LIM_REQ_TRIES) ≤ n then t.writeOff l.val lane.val else t)) s)) ∧
  -- TXOFF not naming a written-off lane within 16 superframes raises REMAP_STALLED (R255).
  (∀ (s : State) (l : Fin 4) (k : Nat) (n : Nat) (rest : List (Nat × Nat)),
     s.on = true →
     s.linkUp l.val = true →
     (s.port l.val).asked.filter (fun e => !bitAt (s.port l.val).stalled e.1) = (k, n) :: rest →
     exec (.remapStalled l) s = .next (State.follow ((s.setPort l.val { s.port l.val with
       stalled := setBitAt (s.port l.val).stalled k true }).laneRaise l.val 9 k) s)) ∧
  -- The forwarded clock of a link in UP stops: DOWN (R259).
  (∀ (s : State) (l : Fin 4),
     s.on = true →
     s.linkState l.val = 7 →
     exec (.fwdClockLoss l) s = .next (State.follow (s.linkAct (fun _ => s.linkDown l.val)) s)) ∧
  -- Every 256 decisions a lane's DFE taps adapt by one code (R244).
  (∀ (s : State) (l : Fin 4) (lane : Fin 9) (d0 : BitVec 10) (d1 : BitVec 10) (d2 : BitVec 10) (d3 : BitVec 10) (d4 : BitVec 10),
     s.on = true →
     s.adapts l.val = true →
     exec (.dfeAdapt l lane d0 d1 d2 d3 d4) s = .next (State.follow (s.put (lnTAPS l.val lane.val)
       ((List.range 5).foldl (fun w j =>
         let d := nth 0 [d0.toInt, d1.toInt, d2.toInt, d3.toInt, d4.toInt] j
         let v := s.dfeTap l.val lane.val j
         setBitsAt w (5 * j) 5 (ofSigned 5 (if 32 ≤ d then clampInt (-16) 15 (v + 1) else if d ≤ -32 then clampInt (-16) 15 (v - 1) else v)))
         (s.get (lnTAPS l.val lane.val)))) s)) ∧
  -- Every 1 ms a lane's CTLE steps from the first DFE tap (R244).
  (∀ (s : State) (l : Fin 4) (lane : Fin 9) (a : Nat) (c : Nat),
     s.on = true →
     s.adapts l.val = true →
     (s.dfeTap l.val lane.val 0).natAbs = a →
     s.get (lnCTLE l.val lane.val) = c →
     exec (.ctleAdapt l lane) s = .next (State.follow (
       if 14 ≤ a then s.put (lnCTLE l.val lane.val) (if c < 15 then c + 1 else 15)
       else if a ≤ 4 then s.put (lnCTLE l.val lane.val) (c - 1)
       else s) s)) ∧
  -- Every 100 ms the eye monitor writes each lane's eye height and width (R244).
  (∀ (s : State) (l : Fin 4) (lane : Fin 9) (height : BitVec 8) (width : BitVec 8),
     s.on = true →
     s.linkUp l.val = true →
     exec (.eyeMeasure l lane height width) s = .next (State.follow
       (((((s.putb (lnVALID l.val lane.val) true).putb (lnNEW l.val lane.val) true).incWrap (lnSEQ l.val lane.val)).put
         (lnHEIGHT l.val lane.val) height.toNat).put (lnWIDTH l.val lane.val) width.toNat) s)) ∧
  -- RETRAIN_A: brick A goes DOWN where it runs, and what hangs on the links follows (R259).
  (∀ (s : State) (src : Source) (v : Word) (t : State) (w : Word),
     s.on = true →
     fixBit v F.FHL_CTL_RETRAIN_A.lo = w →
     s.opens src F.FHL_CTL_RETRAIN_A.addr w = true →
     (s.touch src).plain F.FHL_CTL_RETRAIN_A.addr w.toNat = t →
     bitAt w.toNat 5 = false →
     (t.linkState 0 ≠ 0 ∧ t.linkState 0 ≠ 8) →
     exec (.fhlRetrainA src v) s = .next (State.follow (t.linkDown 0).linksChanged.bootAdvance s)) ∧
  -- Writing FHL.CTL.RETRAIN_B takes brick B DOWN for retraining (R259).
  (∀ (s : State) (src : Source) (v : Word) (t : State) (w : Word),
     s.on = true →
     fixBit v F.FHL_CTL_RETRAIN_B.lo = w →
     s.opens src F.FHL_CTL_RETRAIN_A.addr w = true →
     (s.touch src).plain F.FHL_CTL_RETRAIN_A.addr w.toNat = t →
     bitAt w.toNat 4 = false →
     (t.linkState 1 ≠ 0 ∧ t.linkState 1 ≠ 8) →
     exec (.fhlRetrainB src v) s = .next (State.follow (t.linkDown 1).linksChanged.bootAdvance s)) ∧
  -- Writing FHL.CNT_CLR clears every FHL counter (R248).
  (∀ (s : State) (src : Source) (v : Word) (t : State),
     s.on = true →
     s.touch src = t →
     s.opens src F.FHL_CNT_CLR_CLR.addr (fixBit v 0) = true →
     exec (.fhlCntClr src v) s = .next (State.follow ((t.linkClear 0).linkClear 1) s))

/-- Frames, sections, placements, gaps and notices (R265, R269, R271, R272, R273, R274, R276, R279, R287). Commands:
linkFrameRx, txSectionRx, rxSectionForm, rxsCfgWrite, gapBegin, gapEnd, eventMsgSend, fhmCtlWrite, fhmCntClr. -/
def Obligations.FramesAndSections : Prop :=
  -- A whole frame that passes the checks of R265 goes to its handler.
  (∀ (s : State) (l : Fin 4) (f : List Byte) (idle : Bool) (fill : Fin 16385) (other : Fin 16385) (m : Nat) (t : State),
     s.on = true →
     s.linkUp l.val = true →
     (if l.val < 2 then 3 else 5) = m →
     s.meter m (s.ingressSlack l.val fill.val other.val) = t →
     fill.val < 16384 →
     ((t.port l.val).waitIdle = false ∨ idle = true) →
     frameCause l.val f ((t.port l.val).bad) = none →
     exec (.linkFrameRx l f false idle fill other) s = .next (State.follow (s.linkAct (fun _ =>
       (t.setPort l.val { t.port l.val with waitIdle := false, bad := false }).frameTake l.val ((nth 0 f 1).toNat / 16)
         (nth 0 f 5).toNat ((f.drop 8).take (f.length - 12)))) s)) ∧
  -- A frame that fails a check is discarded and counted (R265).
  (∀ (s : State) (l : Fin 4) (f : List Byte) (bad : Bool) (idle : Bool) (fill : Fin 16385) (other : Fin 16385) (m : Nat) (c : Nat)
     (t : State),
     s.on = true →
     s.linkUp l.val = true →
     (if l.val < 2 then 3 else 5) = m →
     s.meter m (s.ingressSlack l.val fill.val other.val) = t →
     fill.val < 16384 →
     ((t.port l.val).waitIdle = false ∨ idle = true) →
     frameCause l.val f (bad || (t.port l.val).bad) = some c →
     exec (.linkFrameRx l f bad idle fill other) s = .next (State.follow (s.linkAct (fun _ =>
       (t.setPort l.val { t.port l.val with waitIdle := false, bad := false }).frameError l.val c (c == 3 || c == 1))) s)) ∧
  -- A section that passes the checks of R273 enters the store; masked blocks are zeros, a settle or calibration span is counted
  -- (R273, R274).
  (∀ (s : State) (b : Fin 2) (payload : List Byte) (x : Section) (t : State) (u : State) (n : Int) (data : List Cx),
     s.on = true →
     s.brickUp b.val = true →
     parseSection (fun n => (n + 7) / 8) payload = some x →
     s.seqCheck x.stream x.seq = t →
     t.layerNearest x.stamp = n →
     t.txCheck x.stream n x.data.length = 0 →
     (let clear := (blocksOf x.data).zipIdx.flatMap (fun (e : List Cx × Nat) =>
   if maskBit x.mask e.2 then e.1.map (fun _ => cx0) else e.1); if t.roundsTx then bfpRound 14 clear else clear) = data →
     (t.storePut x.stream (t.tx.startK + n.toNat * 2 ^ t.gStages) data).inc (F.FHM_TXCNT_COUNT 0) = u →
     exec (.txSectionRx b payload) s = .next (State.follow (if u.windowIn (u.layerSpan n.toNat data.length).1 (u.layerSpan n.toNat
       data.length).2 then (u.inc (F.FHM_TXCNT_COUNT 7)).raiseMs 0x0C04 0 0 else u) s)) ∧
  -- A section that fails a check is counted by its outcome (R273).
  (∀ (s : State) (b : Fin 2) (payload : List Byte) (x : Section) (t : State) (c : Nat),
     s.on = true →
     s.brickUp b.val = true →
     parseSection (fun n => (n + 7) / 8) payload = some x →
     s.seqCheck x.stream x.seq = t →
     t.txCheck x.stream (t.layerNearest x.stamp) x.data.length = c →
     c ≠ 0 →
     exec (.txSectionRx b payload) s = .next (State.follow (t.txOutcome c) s)) ∧
  -- A complete section of a placed stream is formed and sent on its brick (R271, R272).
  (∀ (s : State) (m : Fin 32) (slack : BitVec 16) (b : Nat) (n : Nat) (seq : Nat) (on_ : Nat) (t : State) (u : State) (x : State),
     s.on = true →
     (if s.meterActive 4 then s.meter 4 slack.toNat else s) = t →
     (sparseFind t.msgs.rxBlk m.val).getD 0 = b →
     t.rxRunning = true →
     t.streamsOn.contains m.val = true →
     t.sectionReady m.val b = true →
     2 * t.msgs.nblk = n →
     (sparseFind t.msgs.rxSeq m.val).getD 0 = seq →
     (sparseFind t.msgs.rxOn m.val).getD 0 = on_ →
     ({ t with
 msgs := { t.msgs with
   rxSeq := sparseInsert t.msgs.rxSeq m.val ((seq + 1) % 65536)
   rxBlk := sparseInsert t.msgs.rxBlk m.val (b + n)
   rxOn := sparseInsert t.msgs.rxOn m.val (t.placedOn m.val) }
 quay := { t.quay with layers := t.quay.layers.filter (fun e => !(e.1 == m.val && decide (e.2.1 < b + n))) } } : State) = u →
     on_ ≠ 2 →
     t.brickUp on_ = true →
     (u.emit (.frame on_ 0 (t.sectionPayload m.val b seq))).inc (F.FHM_RXCNT_COUNT 0) = x →
     exec (.rxSectionForm m slack) s = .next (State.follow (if t.tapAt 1 (8 * (b + n) - 1) + usU 8 < x.tide.now then
       (x.inc (F.FHM_RXCNT_COUNT 1)).raiseMs 0x0C05 0 0 else x) s)) ∧
  -- A write of RXSm_CFG: the ring load and the placement follow (R269, R287).
  (∀ (s : State) (src : Source) (m : Fin 32) (v : Word) (t : State),
     s.on = true →
     s.touch src = t →
     s.opens src (0xC0100 + 4 * m.val) v = true →
     exec (.rxsCfgWrite src m v) s = .next (State.follow ((t.plain (0xC0100 + 4 * m.val) v.toNat).rxsWritten m.val) s)) ∧
  -- The earliest gap begins, and the calibrations that wait for it start (R276, R128, R169, R237, R295).
  (∀ (s : State) (g : Gap) (t : State) (u : State),
     s.on = true →
     s.msgs.gaps.find? (fun g => !g.begun) = some g →
     s.reach g.lo = t →
     t.setGaps (t.msgs.gaps.map (fun x => if x.lo = g.lo then { x with begun := true } else x)) = u →
     exec .gapBegin s = .next (State.follow (((u.rxCalStart).txCalStart).bcalStart).xcalTry s)) ∧
  -- A gap ends and is removed (R276).
  (∀ (s : State) (g : Gap) (t : State),
     s.on = true →
     s.msgs.gaps.find? (fun g => g.begun) = some g →
     s.reach g.hi = t →
     exec .gapEnd s = .next (State.follow (t.setGaps (t.msgs.gaps.filter (fun x => x.lo != g.lo))) s)) ∧
  -- Up to eight queued events leave in one message (R279).
  (∀ (s : State) (b : Nat) (seq : Nat) (l : List Notice),
     s.on = true →
     s.msgs.notices ≠ [] →
     s.anyBrickUp = true →
     s.flag F.FHM_CTL_EVT_EN = true →
     (if s.brickUp 0 then 0 else 1) = b →
     s.msgs.notices.take 8 = l →
     nth 0 s.msgs.seq7 b = seq →
     exec .eventMsgSend s = .next (State.follow (State.eventsLost (State.emit { s with msgs := { s.msgs with
       notices := s.msgs.notices.drop 8
       eventId := (s.msgs.eventId + 1) % 256
       seq7 := setNth s.msgs.seq7 b ((seq + 1) % 256) } } (.frame b 7 (beBytes 1 s.msgs.eventId ++ [2] ++ beBytes 1 seq
         ++ beBytes 1 l.length ++ l.flatMap (noticeBytes s.boot.chipId))))) s)) ∧
  -- A write of FHM.CTL sets EVT_EN, discarding queued events when cleared, and RX_NBLK (R279).
  (∀ (s : State) (src : Source) (v : Word) (t : State),
     s.on = true →
     s.touch src = t →
     s.opens src F.FHM_CTL_EVT_EN.addr v = true →
     exec (.fhmCtlWrite src v) s = .next (State.follow (t.plain F.FHM_CTL_EVT_EN.addr v.toNat).evtEnWritten s)) ∧
  -- Writing FHM.CNT_CLR clears every FHM counter (R273).
  (∀ (s : State) (src : Source) (v : Word) (t : State) (u : State) (w : Word),
     s.on = true →
     s.touch src = t →
     fixBit v 0 = w →
     s.opens src F.FHM_CNT_CLR_CLR.addr w = true →
     (t.each (List.range 8) (fun u c => u.put (F.FHM_TXCNT_COUNT c) 0)).each (List.range 4) (fun v c =>
 ((v.put (F.FHM_RXCNT_COUNT c) 0).put (F.FHM_B_ERR_COUNT 0 c) 0).put (F.FHM_B_ERR_COUNT 1 c) 0) = u →
     exec (.fhmCntClr src v) s = .next (State.follow ((u.put F.FHM_TX_SEQGAP_COUNT 0).put F.FHM_EVT_LOST_COUNT 0) s))

/-- Real-time control and remote access messages (R275, R276, R277, R278). Commands: rtcBerthAdd, rtcBerthCancel, rtcBerthFlush,
rtcGapGrant, rtcGapRevoke, rtcNcoRetune, rtcSynRetune, rtcUnknown, rmaRead, rmaWrite, rmaWriteNoResp, rmaResponseRx,
resetRequest. -/
def Obligations.RemoteCommands : Prop :=
  -- An ADD over a brick: the checks of R231, the answer, and the head's forwarding (R275, R293).
  (∀ (s : State) (via : Fin 3) (flags : Byte) (seq : BitVec 16) (body : List Byte) (r : Nat) (t : State),
     s.on = true →
     s.brickUp via.val = true →
     via.val ≠ 2 →
     body.length = 12 →
     3 ≤ s.cur →
     s.get (F.SEC_P_STAT_LEVEL (via.val + 1)) ≠ 0 →
     s.schedAdd (rtcDir flags.toNat) (bodyStamp body) (beNat ((body.drop 8).take 2) % 512) = (r, t) →
     exec (.rtcBerthAdd via flags seq body) s = .next (State.follow
       (State.rtcAnswer (if r = 0 then t.rtcForward 0x01 flags.toNat body else t) via.val 0x01 flags.toNat seq.toNat r body) s)) ∧
  -- A CANCEL over a brick (R275).
  (∀ (s : State) (via : Fin 3) (flags : Byte) (seq : BitVec 16) (body : List Byte) (r : Nat) (t : State),
     s.on = true →
     s.brickUp via.val = true →
     via.val ≠ 2 →
     body.length = 8 →
     3 ≤ s.cur →
     s.get (F.SEC_P_STAT_LEVEL (via.val + 1)) ≠ 0 →
     s.rtcTime (bodyStamp body) = 0 →
     s.inRun = true →
     s.schedCancel (rtcDir flags.toNat) (bodyStamp body) = (r, t) →
     exec (.rtcBerthCancel via flags seq body) s = .next (State.follow
       (State.rtcAnswer (if r = 0 then t.rtcForward 0x02 flags.toNat body else t) via.val 0x02 flags.toNat seq.toNat r body) s)) ∧
  -- A FLUSH over a brick (R275).
  (∀ (s : State) (via : Fin 3) (flags : Byte) (seq : BitVec 16) (body : List Byte) (r : Nat) (t : State),
     s.on = true →
     s.brickUp via.val = true →
     via.val ≠ 2 →
     body.length = 0 →
     3 ≤ s.cur →
     s.get (F.SEC_P_STAT_LEVEL (via.val + 1)) ≠ 0 →
     s.inRun = true →
     ((0, s.schedFlush (rtcDir flags.toNat)) : Nat × State) = (r, t) →
     exec (.rtcBerthFlush via flags seq body) s = .next (State.follow
       (State.rtcAnswer (if r = 0 then t.rtcForward 0x03 flags.toNat body else t) via.val 0x03 flags.toNat seq.toNat r body) s)) ∧
  -- A gap is granted, or refused for its range, its neighbours or the room (R276).
  (∀ (s : State) (via : Fin 3) (flags : Byte) (seq : BitVec 16) (body : List Byte) (r : Nat) (t : State),
     s.on = true →
     s.brickUp via.val = true →
     via.val ≠ 2 →
     body.length = 16 →
     3 ≤ s.cur →
     s.get (F.SEC_P_STAT_LEVEL (via.val + 1)) ≠ 0 →
     s.rtcTime (bodyStamp body) = 0 →
     s.gapGrant (bodyStamp body) (beNat ((body.drop 8).take 4) % 2 ^ 20) (nth 0 body 12).toNat = (r, t) →
     exec (.rtcGapGrant via flags seq body) s = .next (State.follow
       (State.rtcAnswer (if r = 0 then t.rtcForward 0x10 flags.toNat body else t) via.val 0x10 flags.toNat seq.toNat r body) s)) ∧
  -- A gap that has not begun is revoked (R276).
  (∀ (s : State) (via : Fin 3) (flags : Byte) (seq : BitVec 16) (body : List Byte) (r : Nat) (t : State),
     s.on = true →
     s.brickUp via.val = true →
     via.val ≠ 2 →
     body.length = 8 →
     3 ≤ s.cur →
     s.get (F.SEC_P_STAT_LEVEL (via.val + 1)) ≠ 0 →
     s.rtcTime (bodyStamp body) = 0 →
     s.gapRevoke (bodyStamp body) = (r, t) →
     exec (.rtcGapRevoke via flags seq body) s = .next (State.follow
       (State.rtcAnswer (if r = 0 then t.rtcForward 0x11 flags.toNat body else t) via.val 0x11 flags.toNat seq.toNat r body) s)) ∧
  -- A retune of an NCO whose domain is up and whose frequency is in range is written and armed (R275, R136).
  (∀ (s : State) (via : Fin 3) (flags : Byte) (seq : BitVec 16) (body : List Byte) (t : State) (w : Nat) (f : Int) (a : BitVec
     64),
     s.on = true →
     s.brickUp via.val = true →
     via.val ≠ 2 →
     body.length = 16 →
     3 ≤ s.cur →
     s.get (F.SEC_P_STAT_LEVEL (via.val + 1)) ≠ 0 →
     bodyStamp body = a →
     s.rtcTime a = 0 →
     beNat ((body.drop 8).take 6) = w →
     toSigned 48 w = f →
     rtcDir flags.toNat = 1 →
     s.up domDSPRX = true →
     s.rxNcoGo f true a = (true, t) →
     exec (.rtcNcoRetune via flags seq body) s = .next (State.follow (State.rtcAnswer (State.rtcForward
       (((t.put48 F.RXD_NCO_FREQ_LO_FREQ F.RXD_NCO_FREQ_HI_FREQ w).put64 F.RXD_NCO_AT_LO_STAMP F.RXD_NCO_AT_HI_STAMP a).putb
         F.RXD_NCO_CTL_ARM true) 0x20 flags.toNat body) via.val 0x20 flags.toNat seq.toNat 0 body) s)) ∧
  -- The same for the transmit NCO (R155).
  (∀ (s : State) (via : Fin 3) (flags : Byte) (seq : BitVec 16) (body : List Byte) (t : State) (w : Nat) (f : Int) (a : BitVec
     64),
     s.on = true →
     s.brickUp via.val = true →
     via.val ≠ 2 →
     body.length = 16 →
     3 ≤ s.cur →
     s.get (F.SEC_P_STAT_LEVEL (via.val + 1)) ≠ 0 →
     bodyStamp body = a →
     s.rtcTime a = 0 →
     beNat ((body.drop 8).take 6) = w →
     toSigned 48 w = f →
     rtcDir flags.toNat ≠ 1 →
     s.up domDSPTX = true →
     s.txNcoGo f true a = (true, t) →
     exec (.rtcNcoRetune via flags seq body) s = .next (State.follow (State.rtcAnswer (State.rtcForward
       (((t.put48 F.TXD_NCO_FREQ_LO_FREQ F.TXD_NCO_FREQ_HI_FREQ w).put64 F.TXD_NCO_AT_LO_STAMP F.TXD_NCO_AT_HI_STAMP a).putb
         F.TXD_NCO_CTL_ARM true) 0x20 flags.toNat body) via.val 0x20 flags.toNat seq.toNat 0 body) s)) ∧
  -- A retune of a synthesiser that R76 takes is written and armed (R275).
  (∀ (s : State) (via : Fin 3) (flags : Byte) (seq : BitVec 16) (body : List Byte) (t : State) (n : Nat) (nn : Nat) (dv : Nat) (a
     : BitVec 64),
     s.on = true →
     s.brickUp via.val = true →
     via.val ≠ 2 →
     body.length = 12 →
     3 ≤ s.cur →
     s.get (F.SEC_P_STAT_LEVEL (via.val + 1)) ≠ 0 →
     bodyStamp body = a →
     s.rtcTime a = 0 →
     (nth 0 body 8).toNat % 2 = n →
     (nth 0 body 9).toNat % 64 = nn →
     (nth 0 body 10).toNat % 2 = dv →
     s.synCommand n nn dv true a = (0, t) →
     exec (.rtcSynRetune via flags seq body) s = .next (State.follow (State.rtcAnswer (State.rtcForward
       ((((t.put (F.CLK_SYN_CTL_N n) nn).put (F.CLK_SYN_CTL_DIV n) dv).putb (F.CLK_SYN_CTL_ARM n) true).put64
           (F.CLK_SYN_AT_LO_STAMP n) (F.CLK_SYN_AT_HI_STAMP n) a) 0x21 flags.toNat body) via.val 0x21 flags.toNat seq.toNat 0 body) s)) ∧
  -- A command that came over the ring acts at the member without those checks (R293).
  (∀ (s : State) (flags : Byte) (seq : BitVec 16) (body : List Byte) (t : State) (a : BitVec 64),
     s.on = true →
     s.memberHears = true →
     s.inRun = true →
     bodyStamp body = a →
     s.setSchedQ (rtcDir flags.toNat) (placeSched ⟨a, beNat ((body.drop 8).take 2) % 512, none⟩ (s.schedQ (rtcDir flags.toNat))) = t →
     exec (.rtcBerthAdd 2 flags seq body) s = .next (State.follow
       (if stampDiff a s.stamp < (usU 12 : Int) then t.stage (rtcDir flags.toNat) else t) s)) ∧
  -- A code that the table does not list: UNKNOWN, or STATE in Doze and Dry dock (R275).
  (∀ (s : State) (via : Fin 3) (cmd : Byte) (flags : Byte) (seq : BitVec 16) (body : List Byte),
     s.on = true →
     s.brickUp via.val = true →
     via.val ≠ 2 →
     (¬cmd.toNat ∈ [0x01, 0x02, 0x03, 0x10, 0x11, 0x20, 0x21]) →
     exec (.rtcUnknown via cmd flags seq body) s = .next (State.follow (s.rtcAnswer via.val cmd.toNat flags.toNat seq.toNat
       (if s.cur < 3 then rtcSTATE else rtcUNKNOWN) body) s)) ∧
  -- A read request for this device: the words are read and returned (R277).
  (∀ (s : State) (via : Fin 3) (id : Byte) (elem : BitVec 16) (addr : BitVec 48) (len : BitVec 16) (l : List Byte) (t : State),
     s.on = true →
     s.rmaHears via.val = true →
     elem.toNat = s.boot.chipId →
     s.boot.chipId < 4 →
     rmaBad 0 addr.toNat len.toNat [] = false →
     s.rmaLoad (rmaSource via.val) addr.toNat (len.toNat / 4) = (l, t) →
     exec (.rmaRead via id elem addr len) s = .next (State.follow
       (t.rmaAnswer via.val id.toNat 0 1 elem.toNat addr.toNat len.toNat l) s)) ∧
  -- A write request for this device: the words are written and the answer returns (R277).
  (∀ (s : State) (via : Fin 3) (id : Byte) (elem : BitVec 16) (addr : BitVec 48) (data : List Byte),
     s.on = true →
     s.rmaHears via.val = true →
     elem.toNat = s.boot.chipId →
     s.boot.chipId < 4 →
     rmaBad 1 addr.toNat data.length data = false →
     exec (.rmaWrite via id elem addr data) s = .next (State.follow
       ((s.rmaStore (rmaSource via.val) addr.toNat data).rmaAnswer via.val id.toNat 1 1 elem.toNat addr.toNat data.length []) s)) ∧
  -- A malformed write is answered with a failure (R277).
  (∀ (s : State) (via : Fin 3) (id : Byte) (elem : BitVec 16) (addr : BitVec 48) (data : List Byte),
     s.on = true →
     s.rmaHears via.val = true →
     elem.toNat = s.boot.chipId →
     s.boot.chipId < 4 →
     rmaBad 1 addr.toNat data.length data = true →
     exec (.rmaWrite via id elem addr data) s = .next (State.follow
       (s.rmaAnswer via.val id.toNat 1 2 elem.toNat addr.toNat data.length []) s)) ∧
  -- A type 4 write without response writes the address space silently (R277).
  (∀ (s : State) (via : Fin 3) (id : Byte) (elem : BitVec 16) (addr : BitVec 48) (data : List Byte),
     s.on = true →
     s.rmaHears via.val = true →
     elem.toNat = s.boot.chipId →
     s.boot.chipId < 4 →
     rmaBad 2 addr.toNat data.length data = false →
     exec (.rmaWriteNoResp via id elem addr data) s = .next (State.follow
       (s.rmaStore (rmaSource via.val) addr.toNat data) s)) ∧
  -- The answer to an awaited remote write; a failure fails its descriptor (R414).
  (∀ (s : State) (b : Fin 2) (id : Byte) (ok : Bool) (n : Nat) (x : Chan) (e : Nat × Nat) (t : State),
     s.on = true →
     s.linkUp b.val = true →
     id.toNat / 16 % 16 = n →
     s.chan n = x →
     s.up domHOLD = true →
     x.brick = b.val →
     x.await.find? (fun e => e.1 % 16 == id.toNat % 16) = some e →
     s.setChan n { x with await := x.await.filter (fun f => f.1 != e.1) } = t →
     exec (.rmaResponseRx b id ok) s = .next (State.follow ((if ok then t else t.remoteFail n e.1 6).craneSettle n) s)) ∧
  -- A reset request from a port with a session of level 2 or above is answered and the device resets (R278).
  (∀ (s : State) (b : Fin 2) (id : BitVec 16),
     s.on = true →
     s.linkUp b.val = true →
     2 ≤ s.portLevel (b.val + 1) →
     exec (.resetRequest b id 1 0) s = .next (State.follow (s.emit (.frame b.val 6 (beBytes 2 id.toNat ++ [2]))).resetSoon s))

/-- Joining a ring, its routes, partial sums and forwarding (R284, R288, R289, R291, R292, R293). Commands: memberJoin,
ringTopoReport, routeSwitch, psumSectionRx, psumTimeout, layerForward, panelSumsRx. -/
def Obligations.RingMembersAndRoutes : Prop :=
  -- At the head: a device with the head's chain configuration joins (R284).
  (∀ (s : State) (d : Fin 4) (cfg : List Nat) (nco : List Nat) (t : State) (u : State),
     s.on = true →
     s.ringLive = true →
     d.val ≠ 0 →
     d.val < s.ringSize →
     s.boot.chipId = 0 →
     (s.linkUp 2 = true ∨ s.linkUp 3 = true) →
     cfg = s.chainCfg →
     { s with ring := { s.ring with cfgs := sparseInsert s.ring.cfgs d.val cfg } } = t →
     bitAt t.members d.val = false →
     (t.emit (.ring d.val 2 s.ncoCfg)).setMembers (setBitAt t.members d.val true) = u →
     exec (.memberJoin d cfg nco) s = .next (State.follow
       (((u.emit (.ring d.val 3 u.panelReport)).raise 0x0D03 0).reroute.issueSync) s)) ∧
  -- A device with another chain configuration is refused (R284).
  (∀ (s : State) (d : Fin 4) (cfg : List Nat) (nco : List Nat) (t : State),
     s.on = true →
     s.ringLive = true →
     d.val ≠ 0 →
     d.val < s.ringSize →
     s.boot.chipId = 0 →
     (s.linkUp 2 = true ∨ s.linkUp 3 = true) →
     cfg ≠ s.chainCfg →
     { s with ring := { s.ring with cfgs := sparseInsert s.ring.cfgs d.val cfg } } = t →
     exec (.memberJoin d cfg nco) s = .next (State.follow
       (((t.setMembers (setBitAt t.members d.val false)).raise 0x0D06 0).reroute) s)) ∧
  -- At the device itself, with the head's configuration: it joins with the head's NCO values (R284 steps 1 to 5).
  (∀ (s : State) (d : Fin 4) (cfg : List Nat) (nco : List Nat),
     s.on = true →
     s.ringLive = true →
     d.val ≠ 0 →
     d.val < s.ringSize →
     d.val = s.boot.chipId →
     cfg = s.chainCfg →
     exec (.memberJoin d cfg nco) s = .next (State.follow (s.memberJoin nco) s)) ∧
  -- A port change report reaches the head, which computes new arcs and a switch instant (R288).
  (∀ (s : State) (d : Fin 4) (up : BitVec 2) (data : BitVec 2) (we : Fin 9) (ww : Fin 9),
     s.on = true →
     s.isHead = true →
     s.ringLive = true →
     d.val ≠ 0 →
     d.val < s.ringSize →
     exec (.ringTopoReport d up data we ww) s = .next (State.follow (State.reroute { s with ring := { s.ring with
       ports := sparseInsert s.ring.ports d.val (up.toNat + 4 * data.toNat + 16 * we.val + 256 * ww.val) } }) s)) ∧
  -- The head's own route takes effect at its instant (R288, R289).
  (∀ (s : State) (at_ : Stamp) (w : BitVec 4) (e : BitVec 4) (members : BitVec 4) (a : Stamp) (hw : Nat) (he : Nat),
     s.on = true →
     s.isHead = true →
     s.ring.route = some (a, hw, he) →
     exec (.routeSwitch at_ w e members) s = .next (State.follow ((s.reach a).headSwitch hw he) s)) ∧
  -- A member takes the route it was sent.
  (∀ (s : State) (at_ : Stamp) (w : BitVec 4) (e : BitVec 4) (members : BitVec 4),
     s.on = true →
     s.isHead = false →
     s.isMember = true →
     s.ringLive = true →
     exec (.routeSwitch at_ w e members) s = .next (State.follow ((((s.reach at_).setArcs w.toNat e.toNat).setMembers
       (if bitAt (maskOr w.toNat e.toNat) s.boot.chipId then members.toNat else 0)).tideTopology.tideSource) s)) ∧
  -- A partial-sum section of a port that the array uses is held for its instant (R291).
  (∀ (s : State) (port : Fin 2) (payload : List Byte) (x : Section),
     s.on = true →
     s.inRun = true →
     s.ringSize ≠ 0 →
     s.linkUp (2 + port.val) = true →
     s.flag F.RING_CTL_PSUM_EN = true →
     s.psumPorts.contains port.val = true →
     parseSection (fun n => 2 * n + (n + 7) / 8) payload = some x →
     (x.comp = 3 ∧ x.data.length = 128 ∧ x.mask ≠ []) →
     exec (.psumSectionRx port payload) s = .next (State.follow { s with ring := { s.ring with
       psums := (s.ring.psums.filter (fun e => decide (s.tide.now < e.at_ + msU 1))) ++ [⟨port.val, x.stream, s.absOf x.stamp,
         x.stepHi, x.data, maskOf ((List.range 128).filter (maskBit x.mask)),
         maskOf ((List.range 8).filter (maskBit (x.mask.drop 16)))⟩] } } s)) ∧
  -- A partial sum absent HOLD_NS after the core waits is replaced by invalid zeros (R291).
  (∀ (s : State) (q : Fin 96) (i : Nat) (a : Nat) (t : State) (u : State),
     s.on = true →
     s.coreRuns q.val = true →
     (s.bundleAt q.val).xmode = 4 →
     (s.bundleAt q.val).xp % 4 = 1 →
     s.ringSize ≠ 0 →
     s.si1 q.val = none →
     (s.core q.val).si1R / s.outVec (q.val / 24) = i →
     (s.core q.val).waitSince = some a →
     ((s.core q.val).unit i).isSome = true →
     s.elapseTo (a + nsU (atLeast1 (s.get F.RING_HOLD_HOLD_NS))) = t →
     t.setCore q.val { t.core q.val with late := some i } = u →
     exec (.psumTimeout q) s = .next (State.follow (if s.isShadow q.val then u
       else (u.inc F.RING_LATE_CNT_COUNT).raiseMs 0x0D05 0 0) s)) ∧
  -- The head forwards the next complete section of a layer to its arcs (R292).
  (∀ (s : State) (l : Fin 32) (port : Fin 2) (payload : List Byte) (slack : BitVec 16) (t : State) (u : State) (j : Nat),
     s.on = true →
     (if s.meterActive 6 then s.meter 6 slack.toNat else s) = t →
     t.inRun = true →
     t.ringSize ≠ 0 →
     t.boot.chipId = 0 →
     t.txRun = true →
     (t.fwdCuts l.val).find? (fun j => decide ((sparseFind t.ring.fwd l.val).getD 0 ≤ j) && t.cutDone l.val j) = some j →
     t.fwdSend l.val j t.arcLinks = u →
     exec (.layerForward l port payload slack) s = .next (State.follow { u with ring := { u.ring with
       fwd := sparseInsert u.ring.fwd l.val (j + 1) } } s)) ∧
  -- A member that has joined takes a forwarded section and passes it on (R292).
  (∀ (s : State) (l : Fin 32) (port : Fin 2) (payload : List Byte) (slack : BitVec 16) (t : State),
     s.on = true →
     (if s.meterActive 6 then s.meter 6 slack.toNat else s) = t →
     t.inRun = true →
     t.ringSize ≠ 0 →
     t.boot.chipId ≠ 0 →
     t.linkUp (2 + port.val) = true →
     bitAt t.members t.boot.chipId = true →
     exec (.layerForward l port payload slack) s = .next (State.follow (t.fwdTake port.val payload) s)) ∧
  -- A device receives another's n_b and m_b and applies the panel sums at the next switch (R293).
  (∀ (s : State) (d : Fin 4) (l : List (Fin 1024 × Fin 65 × Fin 65)) (base : List (Nat × Nat)) (next : List (Nat × Nat)),
     s.on = true →
     s.ringLive = true →
     d.val ≠ s.boot.chipId →
     d.val < s.ringSize →
     (if s.ring.sumsAt.isSome then s.ring.sumsNext else s.ring.sums) = base →
     (l.map (fun e => (e.1.val, e.2.1.val, e.2.2.val))).foldl (fun (m : List (Nat × Nat)) e =>
 sparseInsert m (d.val * 1024 + e.1 % 1024) (e.2.1 % 256 + 256 * (e.2.2 % 256))) base = next →
     exec (.panelSumsRx d l) s = .next (State.follow { s with ring := { s.ring with
       sumsNext := next, sumsGot := setBitAt s.ring.sumsGot d.val true
       sumsAt := some (s.ring.sumsAt.getD (s.tide.now + usU 100)) } } s))

/-- Ring sync, cross-device calibration and the ring ports (R259, R291, R294, R295). Commands: ringSyncGo, ringSync, xcalReq,
xcalStart, xcalDone, ringRetrainE, ringRetrainW, ringCntClr. -/
def Obligations.RingSyncAndCalibration : Prop :=
  -- The head issues a ring sync for a grid instant at least 50 µs away (R294).
  (∀ (s : State) (src : Source) (v : Word) (t : State),
     s.on = true →
     s.touch src = t →
     s.opens src F.RING_SYNC_GO.addr (fixBit v 31) = true →
     t.ringLive = true →
     t.boot.chipId = 0 →
     t.ring.sync = none →
     exec (.ringSyncGo src v) s = .next (State.follow ((State.putb { t with ring := { t.ring with sync := some t.syncInstant } }
       F.RING_SYNC_PEND true).emit (.ring 15 5 [t.syncInstant.toNat])) s)) ∧
  -- A member asks the head for one.
  (∀ (s : State) (src : Source) (v : Word) (t : State),
     s.on = true →
     s.touch src = t →
     s.opens src F.RING_SYNC_GO.addr (fixBit v 31) = true →
     t.ringLive = true →
     t.boot.chipId ≠ 0 →
     bitAt t.members t.boot.chipId = true →
     exec (.ringSyncGo src v) s = .next (State.follow (t.emit (.ring 0 5 [])) s)) ∧
  -- At its instant the head's dividers are reset in step and the sync is counted (R294).
  (∀ (s : State) (at_ : Stamp) (a : Stamp) (u : State),
     s.on = true →
     s.ringLive = true →
     s.boot.chipId = 0 →
     s.ring.sync = some a →
     s.reach a = u →
     exec (.ringSync at_) s = .next (State.follow
       (((((State.putb { u with ring := { u.ring with sync := none }, clk := { u.clk with divReset := none, aligned := true } }
         F.RING_SYNC_PEND false).inc F.RING_SYNC_COUNT).putb F.RING_STAT_SYNCED true).maskCheck).raise 0x0D08 0) s)) ∧
  -- A member that has joined does so at the instant it was sent.
  (∀ (s : State) (at_ : Stamp) (u : State),
     s.on = true →
     s.ringLive = true →
     s.boot.chipId ≠ 0 →
     bitAt s.members s.boot.chipId = true →
     s.reach at_ = u →
     exec (.ringSync at_) s = .next (State.follow
       ((((State.putb { u with ring := { u.ring with sync := none }, clk := { u.clk with divReset := none, aligned := true } }
         F.RING_SYNC_PEND false).inc F.RING_SYNC_COUNT).putb F.RING_STAT_SYNCED true).maskCheck) s)) ∧
  -- The request is held up to 1 s for a gap (R295).
  (∀ (s : State) (src : Source) (v : Word) (t : State),
     s.on = true →
     State.touch { s with ring := { s.ring with calio := true } } src = t →
     State.opens { s with ring := { s.ring with calio := true } } src F.RING_XCAL_REQ_GO.addr (fixBit v 31) = true →
     t.ring.calio = true →
     t.isHead = true →
     t.flag F.RING_STAT_FORMED = true →
     t.flag F.BERTH_CTL_CALIO_EN = true →
     t.rx.cal = none →
     t.tx.cal = none →
     t.berth.cal = none →
     t.ring.xcal = none →
     exec (.xcalReq src true v) s = .next (State.follow (State.putb { t with ring := { t.ring with xcal := some (t.aon + sU 1, none) } }
       F.RING_XCAL_STAT_WAIT true) s)) ∧
  -- Without CALIO_EN on every member, or outside a formed ring, it is refused.
  (∀ (s : State) (src : Source) (calio : Bool) (v : Word) (t : State),
     s.on = true →
     State.touch { s with ring := { s.ring with calio := calio } } src = t →
     State.opens { s with ring := { s.ring with calio := calio } } src F.RING_XCAL_REQ_GO.addr (fixBit v 31) = true →
     (t.isHead = false ∨ t.flag F.RING_STAT_FORMED = false ∨ t.flag F.BERTH_CTL_CALIO_EN = false ∨ t.ring.calio = false) →
     exec (.xcalReq src calio v) s = .next (State.follow (t.raise 0x0D0A 0) s)) ∧
  -- The held calibration starts in a gap that covers every quad: 6 ms per device (R295).
  (∀ (s : State) (w : Nat) (e : Stamp) (t : State),
     s.on = true →
     s.ring.xcal = some (w, none) →
     s.gapCovers s.quadMask s.xcalSpan = true →
     stampAdd s.stamp s.xcalSpan = e →
     ((State.putb { s with ring := { s.ring with xcal := some (w, some e) } } F.RING_XCAL_STAT_WAIT false).putb
 F.RING_XCAL_STAT_BUSY true).emit (.ring 15 8 [s.stamp.toNat, e.toNat]) = t →
     t.flag F.RING_XCAL_STAT_BUSY = true →
     exec .xcalStart s = .next (State.follow t s)) ∧
  -- No gap within 1 s: refused.
  (∀ (s : State) (w : Nat),
     s.on = true →
     s.ring.xcal = some (w, none) →
     s.gapCovers s.quadMask s.xcalSpan = false →
     s.flag F.RING_XCAL_STAT_BUSY = false →
     w ≤ s.aon →
     exec .xcalStart s = .next (State.follow ((State.putb { s with ring := { s.ring with xcal := none } }
       F.RING_XCAL_STAT_WAIT false).raise 0x0D0A 0) s)) ∧
  -- A member takes the results that the head sent, within ±4 ns and ±6 dB (R295).
  (∀ (s : State) (txAlign : BitVec 16) (txRe : BitVec 16) (txIm : BitVec 16) (rxAlign : BitVec 16) (rxRe : BitVec 16) (rxIm :
     BitVec 16),
     s.on = true →
     s.isHead = false →
     s.isMember = true →
     bitAt s.members s.boot.chipId = true →
     xcalOk txAlign.toInt ⟨txRe.toInt, txIm.toInt⟩ = true →
     xcalOk rxAlign.toInt ⟨rxRe.toInt, rxIm.toInt⟩ = true →
     exec (.xcalDone txAlign txRe txIm rxAlign rxRe rxIm) s = .next (State.follow
       ((s.xcalTake 0 txAlign.toInt ⟨txRe.toInt, txIm.toInt⟩).xcalTake 1 rxAlign.toInt ⟨rxRe.toInt, rxIm.toInt⟩) s)) ∧
  -- At the head: the results are measured (free values), the good ones sent, the bad devices named in FAIL (R295).
  (∀ (s : State) (txAlign : BitVec 16) (txRe : BitVec 16) (txIm : BitVec 16) (rxAlign : BitVec 16) (rxRe : BitVec 16) (rxIm :
     BitVec 16) (w : Nat) (n : Nat) (e : Stamp) (t : State) (u : State) (v : State) (ds : List Nat) (bad : List Nat),
     s.on = true →
     s.isHead = true →
     s.ring.xcal = some (w, some e) →
     (s.reach e).draw = (n, t) →
     (List.range s.ringSize).filter (fun d => d != 0) = ds →
     ds.filter (xcalBad n) = bad →
     t.each (ds.filter (fun d => !bad.contains d)) (fun v d => v.emit (.ring d 6
 ([ofSigned 16 (xcalResult n d 0).1, ofSigned 16 (xcalResult n d 0).2.re, ofSigned 16 (xcalResult n d 0).2.im]
   ++ [ofSigned 16 (xcalResult n d 1).1, ofSigned 16 (xcalResult n d 1).2.re, ofSigned 16 (xcalResult n d 1).2.im]))) = u →
     (State.putb { u with ring := { u.ring with xcal := none } } F.RING_XCAL_STAT_BUSY false).put F.RING_XCAL_STAT_FAIL
 (maskOf bad) = v →
     exec (.xcalDone txAlign txRe txIm rxAlign rxRe rxIm) s = .next (State.follow
       ((if bad.isEmpty then v else v.raise 0x0D0B 0).raise 0x0D09 0) s)) ∧
  -- Writing RING.CTL.RETRAIN_E takes the east port DOWN for retraining (R259).
  (∀ (s : State) (src : Source) (v : Word) (t : State) (w : Word),
     s.on = true →
     fixBit v F.RING_CTL_RETRAIN_E.lo = w →
     s.opens src F.RING_CTL_SIZE.addr w = true →
     ((s.touch src).plain F.RING_CTL_SIZE.addr w.toNat).ringForm = t →
     bitAt w.toNat 5 = false →
     (t.linkState 2 ≠ 0 ∧ t.linkState 2 ≠ 8) →
     exec (.ringRetrainE src v) s = .next (State.follow (t.linkDown 2).linksChanged.bootAdvance s)) ∧
  -- Writing RING.CTL.RETRAIN_W takes the west port DOWN for retraining (R259).
  (∀ (s : State) (src : Source) (v : Word) (t : State) (w : Word),
     s.on = true →
     fixBit v F.RING_CTL_RETRAIN_W.lo = w →
     s.opens src F.RING_CTL_SIZE.addr w = true →
     ((s.touch src).plain F.RING_CTL_SIZE.addr w.toNat).ringForm = t →
     bitAt w.toNat 4 = false →
     (t.linkState 3 ≠ 0 ∧ t.linkState 3 ≠ 8) →
     exec (.ringRetrainW src v) s = .next (State.follow (t.linkDown 3).linksChanged.bootAdvance s)) ∧
  -- Writing RING.CNT_CLR clears every ring counter (R291).
  (∀ (s : State) (src : Source) (v : Word) (t : State),
     s.on = true →
     s.touch src = t →
     s.opens src F.RING_CNT_CLR_CLR.addr (fixBit v 0) = true →
     exec (.ringCntClr src v) s = .next (State.follow ((((((t.put F.RING_LATE_CNT_COUNT 0).put F.RING_SAT_CNT_COUNT 0).put
       F.RING_TOPO_CNT_COUNT 0).put F.RING_TXGAP_CNT_COUNT 0).linkClear 2).linkClear 3) s))

/-- Tide exchanges, the offset that software accepts, and timed outputs (R300, R302, R303, R308, R310, R311, R312, R313).
Commands: tideExchangeStart, type5MessageRx, tideExchangeComplete, tideExchangeLost, tideHold, tideAck, tideAsymWrite,
tideCntClr, toAdd, toFlush, toOpReserved, timedOutputEdge, tpulseModeWrite. -/
def Obligations.TideAndTimedOutputs : Prop :=
  -- Every 2^−LOG_INT s the device starts a type 5 exchange on its source (R300).
  (∀ (s : State),
     s.on = true →
     s.flag F.TIDE_STAT_SRC_OK = true →
     s.tide.xchg = none →
     exec .tideExchangeStart s = .next (State.follow (State.emit { s with tide := { s.tide with
         nextId := (s.tide.nextId + 2) % 256
         xchg := some { id := s.tide.nextId, start := s.aon, t3 := (s.tide.now : Int) } } }
       (.frame (s.get F.TIDE_STAT_SRC) 5 (type5At s.tide.nextId 0x00 s.tide.now))) s)) ∧
  -- A request of 20 bytes on a link that is up outside Dry dock: its instants are taken and it is answered (R300).
  (∀ (s : State) (l : Fin 4) (b : List Byte),
     s.on = true →
     s.linkUp l.val = true →
     2 ≤ s.cur →
     b.length = 20 →
     (nth 0 b 1).toNat ≤ 1 →
     exec (.type5MessageRx l b) s = .next (State.follow
       ((s.xchgTake l.val (nth 0 b 0).toNat (nth 0 b 1).toNat b).emit (.frame l.val 5 (type5At (nth 0 b 0).toNat 0x02 s.tide.now))) s)) ∧
  -- An exchange with its four instants: delay and offset as R302 says; a delay above the least plus the gate is gated, else the
  -- offset is taken (R302, R303).
  (∀ (s : State) (x : Exchange) (t1 : Int) (t2 : Int) (t4 : Int),
     s.on = true →
     s.tide.xchg = some x →
     x.t1 = some t1 →
     x.t2 = some t2 →
     x.t4 = some t4 →
     exec .tideExchangeComplete s = .next (
       let d2 : Int := (t2 - t1) + (t4 - x.t3)
       let theta : Int := 125 * ((t2 - t1) - (t4 - x.t3)) - 8192 * s.geti (F.TIDE_L_ASYM_PS (s.get F.TIDE_STAT_SRC))
       let t : State := { s with tide := { s.tide with xchg := none, delays := (d2 :: s.tide.delays).take 16 } }
       let u := t.put F.TIDE_DELAY_VALUE (clampInt 0 4294967295 (divRound d2 512)).toNat
       let v := if u.get F.TIDE_STAT_STATE = 0 then u.put F.TIDE_STAT_STATE 1 else u
       State.follow (State.bootAdvance
         (if s.tide.delays.any (fun m => decide (((2 * nsU (s.get F.TIDE_LIM_GATE_NS) : Nat) : Int) < d2 - m)) then
           v.inc F.TIDE_GATED_CNT_COUNT
         else v.xchgAccept theta)) s)) ∧
  -- An exchange not complete within 1 ms is lost and counted (R300).
  (∀ (s : State) (x : Exchange),
     s.on = true →
     s.tide.xchg = some x →
     (x.t1 = none ∨ x.t2 = none ∨ x.t4 = none) →
     exec .tideExchangeLost s = .next (State.follow ((State.inc { s.elapseTo (x.start + msU 1) with
       tide := { (s.elapseTo (x.start + msU 1)).tide with xchg := none } } F.TIDE_LOST_CNT_COUNT).raiseLim 0x0E07 0 0 (sU 1)) s)) ∧
  -- Four intervals without an accepted exchange put a LOCKED Tide into HOLD (R310).
  (∀ (s : State),
     s.on = true →
     s.get F.TIDE_STAT_STATE = 2 →
     exec .tideHold s = .next (State.follow (((s.elapseTo (s.tide.lastAccept + 4 * s.xchgInterval)).put F.TIDE_STAT_STATE 3).raise
       0x0E05 0) s)) ∧
  -- ACK in TIDE.CTL: a refused offset is accepted (R308).
  (∀ (s : State) (src : Source) (v : Word) (t : State) (w : Word),
     s.on = true →
     s.touch src = t →
     fixBit v 31 = w →
     s.opens src 0xE0000 w = true →
     exec (.tideAck src v) s = .next (State.follow (t.plain 0xE0000 w.toNat).tideSource.tideAck s)) ∧
  -- A write to the source link's Lj_ASYM restarts the filter (R302).
  (∀ (s : State) (src : Source) (j : Fin 4) (v : Word) (t : State),
     s.on = true →
     s.touch src = t →
     s.opens src (0xE0020 + 4 * j.val) v = true →
     exec (.tideAsymWrite src j v) s = .next (State.follow ((t.plain (0xE0020 + 4 * j.val) v.toNat).asymWritten j.val) s)) ∧
  -- Writing TIDE.CNT_CLR clears every TIDE counter (R300).
  (∀ (s : State) (src : Source) (v : Word) (t : State),
     s.on = true →
     s.touch src = t →
     s.opens src F.TIDE_CNT_CLR_CLR.addr (fixBit v 0) = true →
     exec (.tideCntClr src v) s = .next (State.follow ((((t.put F.TIDE_ACC_CNT_COUNT 0).put F.TIDE_LOST_CNT_COUNT 0).put
       F.TIDE_GATED_CNT_COUNT 0).put F.TIDE_TO_REF_CNT_COUNT 0) s)) ∧
  -- An ADD that passes the check takes its place in the queue of the pin (R311).
  (∀ (s : State) (src : Source) (v : Word) (t : State) (w : Word) (pin : Nat) (at_ : Stamp),
     s.on = true →
     s.touch src = t →
     fix (fixBit v 31) 29 2 0 = w →
     bitsAt w.toNat 0 5 = pin →
     t.get64 F.TIDE_TO_AT_LO_STAMP F.TIDE_TO_AT_HI_STAMP = at_ →
     s.opens src F.TIDE_TO_CMD_GO.addr w = true →
     t.toCheck pin at_ = 0 →
     exec (.toAdd src v) s = .next (State.follow (State.bwBurst (State.coexAuto
       ((t.setTimedQ pin (placeEntry ⟨at_, bitAt w.toNat 8, false⟩ (t.timedQ pin))).toShow pin 0) pin at_)) s)) ∧
  -- An ADD that fails the check is refused with its cause (R311).
  (∀ (s : State) (src : Source) (v : Word) (t : State) (w : Word) (pin : Nat) (at_ : Stamp),
     s.on = true →
     s.touch src = t →
     fix (fixBit v 31) 29 2 0 = w →
     bitsAt w.toNat 0 5 = pin →
     t.get64 F.TIDE_TO_AT_LO_STAMP F.TIDE_TO_AT_HI_STAMP = at_ →
     s.opens src F.TIDE_TO_CMD_GO.addr w = true →
     t.toCheck pin at_ ≠ 0 →
     exec (.toAdd src v) s = .next (State.follow (t.toRefuse pin (t.toCheck pin at_)) s)) ∧
  -- FLUSH of a listed pin empties its queue (R311).
  (∀ (s : State) (src : Source) (v : Word) (t : State) (w : Word) (pin : Nat),
     s.on = true →
     s.touch src = t →
     fix (fixBit v 31) 29 2 1 = w →
     bitsAt w.toNat 0 5 = pin →
     s.opens src F.TIDE_TO_CMD_GO.addr w = true →
     pinListed pin = true →
     exec (.toFlush src v) s = .next (State.follow ((t.setTimedQ pin []).toShow pin 0) s)) ∧
  -- FLUSH of a pin that is not listed is refused as PIN (R311).
  (∀ (s : State) (src : Source) (v : Word) (t : State) (w : Word) (pin : Nat),
     s.on = true →
     s.touch src = t →
     fix (fixBit v 31) 29 2 1 = w →
     bitsAt w.toNat 0 5 = pin →
     s.opens src F.TIDE_TO_CMD_GO.addr w = true →
     pinListed pin = false →
     exec (.toFlush src v) s = .next (State.follow (t.toRefuse pin 4) s)) ∧
  -- OP 2 and 3 are refused as PIN (R311).
  (∀ (s : State) (src : Source) (v : Word) (t : State) (w : Word) (pin : Nat),
     s.on = true →
     s.touch src = t →
     fix (fixBit v 31) 29 2 (2 + v.toNat / 2 ^ 29 % 2) = w →
     bitsAt w.toNat 0 5 = pin →
     s.opens src F.TIDE_TO_CMD_GO.addr w = true →
     exec (.toOpReserved src v) s = .next (State.follow (t.toRefuse pin 4) s)) ∧
  -- The entries that are due act, the last of them giving the level; what follows stays queued (R312).
  (∀ (s : State) (pin : Fin 26) (e : TimedEntry) (es : List TimedEntry) (due : List TimedEntry) (rest : List TimedEntry),
     s.on = true →
     s.timedQ pin.val = e :: es →
     dueEntries (e :: es) = (due, rest) →
     exec (.timedOutputEdge pin) s = .next (State.follow (
       let t := ((s.reach e.at_).setTimedQ pin.val rest).entryAct pin.val due.length
         (due.getLast?.getD e).level
       if pin.val < 4 then t.tpAfter pin.val else t) s)) ∧
  -- A write of a TPn_CTL: polarity, then the mode as R313 permits it (R313).
  (∀ (s : State) (src : Source) (n : Fin 4) (v : Word) (t : State),
     s.on = true →
     s.touch src = t →
     s.opens src (F.TIDE_TP_CTL_MODE n.val).addr v = true →
     exec (.tpulseModeWrite src n v) s = .next (State.follow
       ((t.put (F.TIDE_TP_CTL_POL n.val) (bitsAt v.toNat 2 1)).tpMode n.val (bitsAt v.toNat 0 2)) s))

/-- Coexistence input, energy detection and the preamble watchers (R317, R320, R321, R322, R323, R324, R325, R326, R332).
Commands: coexActRise, coexActFall, edBinEnd, stfDetect, ltfSync, ltfTimeout, lsigDecode, watcherBusyEnd, lookCtlWrite,
lookCfgWrite, lookCntClr. -/
def Obligations.LookoutCommands : Prop :=
  -- A rising COEX_ACT edge is stamped and counted and starts ACT tagging (R332).
  (∀ (s : State) (t : State),
     s.on = true →
     s.pins.coexAct = false →
     { s with pins := { s.pins with coexAct := true }
              look := { s.look with act := ((s.tide.now, none) :: s.look.act).take 16 } } = t →
     exec .coexActRise s = .next (State.follow
       ((t.syncCoex.put64 F.FEND_ACT_RISE_LO_STAMP F.FEND_ACT_RISE_HI_STAMP s.stamp).inc F.FEND_ACT_CNT_COUNT) s)) ∧
  -- A falling COEX_ACT edge is stamped and ends tagging HOLD_NS later (R332).
  (∀ (s : State) (e : Nat) (t : State),
     s.on = true →
     s.pins.coexAct = true →
     s.tide.now + nsU (s.get F.FEND_ACT_CTL_HOLD_NS) = e →
     { s with pins := { s.pins with coexAct := false }
              look := { s.look with act := s.look.act.map (fun x => (x.1, some (x.2.getD e))) } } = t →
     exec .coexActFall s = .next (State.follow
       (t.syncCoex.put64 F.FEND_ACT_FALL_LO_STAMP F.FEND_ACT_FALL_HI_STAMP s.stamp) s)) ∧
  -- A bin ends 4 µs after the last: the measured beams and subchannels are entered (R321, R322).
  (∀ (s : State) (l : List (Fin 16 × Fin 20 × Fin 81 × Int × Bool × Fin 81)) (e : Nat) (t : State),
     s.on = true →
     s.look.on = true →
     s.look.bin + nsU 4000 = e →
     s.reachAbs e = t →
     exec (.edBinEnd l) s = .next (State.follow
       ((l.map (fun e => ({ beam := e.1.val, sch := e.2.1.val, sensed := e.2.2.1.val, power := e.2.2.2.1, ovr := e.2.2.2.2.1,
                            blind := e.2.2.2.2.2.val } : BinResult))).foldl (fun v r => v.binTake e r)
         { t with look := { t.look with bin := e } }) s)) ∧
  -- A detection with no other reception accepted: the watcher is in SYNC and the reception opens (R323).
  (∀ (s : State) (b : Fin 16) (c : Fin 20) (w : Fin 2) (pd : Int) (x : LookKey) (u : State),
     s.on = true →
     s.lookKey b.val c.val = x →
     s.watching b.val c.val = true →
     (x.watcher w.val).state = 0 →
     (x.watcher w.val).deaf ≤ s.tide.now →
     100 * s.geti F.LOOK_THR_PD_THR ≤ pd →
     (x.watcher (1 - w.val)).state ≠ 3 →
     (s.inc (F.LOOK_CNT_COUNT 0)).setLookKey b.val c.val { (x.setWatcher w.val { x.watcher w.val with
 state := 1, det := s.tide.now }) with busy := (s.tide.now, none, w.val) :: x.busy } = u →
     exec (.stfDetect b c w pd) s = .next (State.follow (if u.look = s.look then u
       else if bitAt (u.get F.GAUGE_LOOK_BEAMS_BEAMS) b.val && bitAt (u.get F.GAUGE_LOOK_SCH_SCH) c.val then u.gaugeEvent 2 u.tide.now
       else u) s)) ∧
  -- A pair of L-LTF peaks validates, latching P and entering SIG (R324).
  (∀ (s : State) (b : Fin 16) (c : Fin 20) (w : Fin 2) (p : Int) (x : LookKey),
     s.on = true →
     s.lookKey b.val c.val = x →
     s.watching b.val c.val = true →
     (x.watcher w.val).state = 1 →
     s.tide.now ≤ (x.watcher w.val).det + usU 12 →
     exec (.ltfSync b c w p) s = .next (State.follow (s.setLookKey b.val c.val (x.setWatcher w.val { x.watcher w.val with
       state := 2, ty := s.tide.now - nsU 3200, p := p })) s)) ∧
  -- No L-LTF pair within 12 µs closes the reception as FALSE_DET (R324).
  (∀ (s : State) (b : Fin 16) (c : Fin 20) (w : Fin 2) (k : Watcher),
     s.on = true →
     (s.lookKey b.val c.val).watcher w.val = k →
     s.watching b.val c.val = true →
     k.state = 1 →
     exec (.ltfTimeout b c w) s = .next (State.follow
       ((s.reachAbs (k.det + usU 12)).falseDet b.val c.val w.val (k.det + usU 12)) s)) ∧
  -- An accepted symbol with no other reception accepted: TX time, record and the busy span (R325, R326).
  (∀ (s : State) (b : Fin 16) (c : Fin 20) (w : Fin 2) (sig : BitVec 24) (k : Watcher) (t : State) (x : LookKey) (z : LookKey) (ts
     : Nat) (te : Nat),
     s.on = true →
     (s.lookKey b.val c.val).watcher w.val = k →
     s.watching b.val c.val = true →
     k.state = 2 →
     s.reachAbs (k.ty + nsU 10400) = t →
     sigOk sig.toNat = true →
     k.ty - nsU 9600 = ts →
     ts + usU (sigDur sig.toNat) = te →
     t.lookKey b.val c.val = x →
     (x.watcher (1 - w.val)).state ≠ 3 →
     { ((x.setWatcher w.val { k with state := 3, te := te }).close w.val t.tide.now) with
 busy := (ts, some te, 2) :: ((x.setWatcher w.val { k with state := 3, te := te }).close w.val t.tide.now).busy } = z →
     exec (.lsigDecode b c w sig) s = .next (State.follow
       (((t.inc (F.LOOK_CNT_COUNT 1)).lookRecord b.val c.val k.p sig.toNat ts).setLookKey b.val c.val z) s)) ∧
  -- A symbol that R325 does not accept: FALSE_DET.
  (∀ (s : State) (b : Fin 16) (c : Fin 20) (w : Fin 2) (sig : BitVec 24) (k : Watcher) (t : State),
     s.on = true →
     (s.lookKey b.val c.val).watcher w.val = k →
     s.watching b.val c.val = true →
     k.state = 2 →
     s.reachAbs (k.ty + nsU 10400) = t →
     sigOk sig.toNat = false →
     exec (.lsigDecode b c w sig) s = .next (State.follow (t.falseDet b.val c.val w.val t.tide.now) s)) ∧
  -- At t_e an accepted reception ends and the watcher returns to SEARCH (R326).
  (∀ (s : State) (b : Fin 16) (c : Fin 20) (w : Fin 2) (k : Watcher) (t : State),
     s.on = true →
     (s.lookKey b.val c.val).watcher w.val = k →
     s.watching b.val c.val = true →
     k.state = 3 →
     s.reachAbs k.te = t →
     exec (.watcherBusyEnd b c w) s = .next (State.follow
       (t.setLookKey b.val c.val ((t.lookKey b.val c.val).search w.val k.te)) s)) ∧
  -- A write of LOOK.CTL enables or disables sensing, clearing the map when disabled (R317).
  (∀ (s : State) (src : Source) (v : Word) (t : State),
     s.on = true →
     s.touch src = t →
     s.opens src F.LOOK_CTL_EN.addr v = true →
     exec (.lookCtlWrite src v) s = .next (State.follow (t.plain F.LOOK_CTL_EN.addr v.toNat).lookSync s)) ∧
  -- A write to SBk, SCHs or BEAMV is applied only while EN is 0 (R320).
  (∀ (s : State) (src : Source) (i : Fin 1048) (v : Word) (t : State),
     s.on = true →
     s.touch src = t →
     s.opens src (lookCfgAddr i.val) v = true →
     t.flag F.LOOK_CTL_EN = false →
     exec (.lookCfgWrite src i v) s = .next (State.follow (t.plain (lookCfgAddr i.val) v.toNat).lookSync s)) ∧
  -- While EN = 1 the write is rejected (R320).
  (∀ (s : State) (src : Source) (i : Fin 1048) (v : Word) (t : State),
     s.on = true →
     s.touch src = t →
     s.opens src (lookCfgAddr i.val) v = true →
     t.flag F.LOOK_CTL_EN = true →
     exec (.lookCfgWrite src i v) s = .next (State.follow ((t.setEvt 0x0F02 0).raiseMs 0x0F02 0 0) s)) ∧
  -- Writing LOOK.CNT_CLR clears every LOOK.CNTc (R322).
  (∀ (s : State) (src : Source) (v : Word) (t : State),
     s.on = true →
     s.touch src = t →
     s.opens src F.LOOK_CNT_CLR_CLR.addr (fixBit v 0) = true →
     exec (.lookCntClr src v) s = .next (State.follow
       (t.each (List.range 6) (fun u i => u.setWord (0xF00C0 + 4 * i) 0)) s))

/-- Bias writes, PA sequences and front-end faults (R337, R338, R339, R343). Commands: biasWrite, paCmdOn, paCmdOff,
paCmdIgnored, paDrainWaitEnd, paBiasArrived, feFaultDrainOff, vnegFault, vnegRestored, synUnlockFault. -/
def Obligations.PowerAmplifierSequences : Prop :=
  -- An auxiliary output, or one of a quad that is OFF, in Run and without a fault, moves to its target at the fast rate (R337,
  -- R338).
  (∀ (s : State) (src : Source) (o : Fin 72) (v : Word) (t : State) (park : State),
     s.on = true →
     s.touch src = t →
     s.opens src (biasTarget o.val).addr v = true →
     (if (sparseFind t.fend.moves o.val).isSome then t else
{ t with fend := { t.fend with moves := sparseInsert t.fend.moves o.val (BiasMove.mk (t.biasUvNow o.val) t.aon
(t.get (biasRange o.val)) (t.get (biasOut o.val)) fastRate) } }) = park →
     (64 ≤ o.val ∨ t.paState (o.val / 8) = paOFF) →
     (64 ≤ o.val ∨ (t.paSeq (o.val / 8)).step ≠ 4) →
     t.feFault = false →
     t.inRun = true →
     exec (.biasWrite src o v) s = .next (State.follow (((park.put (biasRange o.val) (bitsAt v.toNat 31 1)).put (biasTarget o.val)
       (bitsAt v.toNat 0 12)).moveTarget o.val fastRate) s)) ∧
  -- A change of RANGE on an output of a quad that is not OFF is refused (R338).
  (∀ (s : State) (src : Source) (o : Fin 72) (v : Word) (t : State),
     s.on = true →
     s.touch src = t →
     s.opens src (biasTarget o.val).addr v = true →
     o.val < 64 →
     bitsAt v.toNat 31 1 ≠ t.get (biasRange o.val) →
     t.paState (o.val / 8) ≠ paOFF →
     exec (.biasWrite src o v) s = .next (State.follow ((t.inc F.FEND_RNG_REJ_COUNT).raise 0x1007 o.val) s)) ∧
  -- Every named quad that is present goes ON, or is refused where a fault holds, outside Run, or thinned (R339).
  (∀ (s : State) (src : Source) (v : Word) (t : State) (w : Word),
     s.on = true →
     s.touch src = t →
     fix (fixBit v 31) 16 2 1 = w →
     s.opens src F.FEND_PA_CMD_GO.addr w = true →
     exec (.paCmdOn src v) s = .next (State.follow (t.each ((bitList 8 (bitsAt w.toNat 0 8)).filter (fun q => t.hasQuad q))
       (fun x q => if x.paRefuses q then x.raise 0x100A q else x.paStartOn q)) s)) ∧
  -- Every named quad that is present goes OFF (R339).
  (∀ (s : State) (src : Source) (v : Word) (t : State) (w : Word),
     s.on = true →
     s.touch src = t →
     fix (fixBit v 31) 16 2 2 = w →
     s.opens src F.FEND_PA_CMD_GO.addr w = true →
     exec (.paCmdOff src v) s = .next (State.follow (t.each ((bitList 8 (bitsAt w.toNat 0 8)).filter (fun q => t.hasQuad q))
       State.paOff) s)) ∧
  -- OP 0 and OP 3 do nothing (R339).
  (∀ (s : State) (src : Source) (v : Word) (t : State) (w : Word),
     s.on = true →
     s.touch src = t →
     fix (fixBit v 31) 16 2 (3 * (v.toNat / 65536 % 2)) = w →
     s.opens src F.FEND_PA_CMD_GO.addr w = true →
     exec (.paCmdIgnored src v) s = .next (State.follow t s)) ∧
  -- After the drain rose the bias ramps to its targets (R339).
  (∀ (s : State) (q : Fin 8) (t : State),
     s.on = true →
     (s.paSeq q.val).step = 3 →
     s.elapseTo (s.paSeq q.val).waitEnd = t →
     exec (.paDrainWaitEnd q) s = .next (State.follow ((t.setSeq q.val ⟨4, 0⟩).each (quadOuts q.val)
       (fun x o => x.moveTarget o t.biasSlew)) s)) ∧
  -- After the bias fell the drain goes low and the quad is OFF (R339).
  (∀ (s : State) (q : Fin 8) (t : State),
     s.on = true →
     (s.paSeq q.val).step = 6 →
     s.elapseTo (s.paSeq q.val).waitEnd = t →
     exec (.paDrainWaitEnd q) s = .next (State.follow ((((t.seqDrain q.val false).setPa q.val paOFF).setSeq q.val {}).raise 0x1002
       q.val) s)) ∧
  -- The bias of a quad that ramps up has arrived: the quad is ON (R339).
  (∀ (s : State) (q : Fin 8) (t : State),
     s.on = true →
     (s.paSeq q.val).step = 4 →
     (s.elapseTo (s.quadArrive q.val)).each (quadOuts q.val) State.syncBias = t →
     (t.paSeq q.val).step = 4 →
     exec (.paBiasArrived q) s = .next (State.follow (((t.setPa q.val paON).setSeq q.val {}).raise 0x1001 q.val) s)) ∧
  -- The SAFE bias has arrived before a drain rises: the drain goes high and its wait begins (R339).
  (∀ (s : State) (q : Fin 8) (t : State),
     s.on = true →
     (s.paSeq q.val).step = 1 →
     (s.elapseTo (s.quadArrive q.val)).each (quadOuts q.val) State.syncBias = t →
     (t.paSeq q.val).step = 1 →
     exec (.paBiasArrived q) s = .next (State.follow ((t.seqDrain q.val true).setSeq q.val ⟨3, t.aon + t.drainWait⟩) s)) ∧
  -- The SAFE bias has arrived on the way OFF: the drain wait begins (R339).
  (∀ (s : State) (q : Fin 8) (t : State),
     s.on = true →
     (s.paSeq q.val).step = 5 →
     (s.elapseTo (s.quadArrive q.val)).each (quadOuts q.val) State.syncBias = t →
     (t.paSeq q.val).step = 5 →
     exec (.paBiasArrived q) s = .next (State.follow (t.setSeq q.val ⟨6, t.aon + t.drainWait⟩) s)) ∧
  -- 10 µs after the bias move the drains go low (R343).
  (∀ (s : State) (a : Nat),
     s.on = true →
     s.fend.drainOffAt = some a →
     exec .feFaultDrainOff s = .next (State.follow (s.elapseTo a).drainsLow s)) ∧
  -- The VNEG comparator tripping above −4.5 V starts a front-end fault with drains off first (R343).
  (∀ (s : State),
     s.on = true →
     s.feFault = false →
     exec .vnegFault s = .next (State.follow ((s.setBit 0x100014 4).feEnter true) s)) ∧
  -- VNEG returning more negative than −4.5 V ends the VNEG cause of the front-end fault, clearing it when no other cause holds
  -- (R343).
  (∀ (s : State) (n : Nat) (t : State) (u : State),
     s.on = true →
     (s.word 0x100014).toNat = n →
     bitAt n 4 = true →
     s.setWord 0x100014 (BitVec.ofNat 32 (setBitAt n 4 false)) = t →
     t.feFault = false →
     (t.iff (t.fend.drainOffAt != none) State.drainsLow).raise 0x1004 0 = u →
     u.flag F.FEND_PA_CTL_AUTO_ON = true →
     u.inRun = true →
     exec .vnegRestored s = .next (State.follow (State.each { u with fend := { u.fend with reissue := 0 } } (bitList 8 u.fend.reissue)
       (fun x q => if x.paRefuses q then x else x.paStartOn q)) s)) ∧
  -- The serving transmit synthesiser unlocked for 100 µs outside its settle window starts a front-end fault (R343).
  (∀ (s : State) (a : Nat),
     s.on = true →
     (s.syn s.txSyn).unlockedSince = some a →
     s.txLoBad = true →
     exec .synUnlockFault s = .next (State.follow ((s.elapseTo (a + usU 100)).feSet feSYN) s))

/-- RFFE commands and Breakwater (R342, R344, R345, R346, R351, R353, R354, R355, R357). Commands: rffeWrite, rffeRead,
rffeReg0Write, rffeExtWrite, rffeExtRead, rffeCmdUnknown, rffeCommandStart, rffeCommandDone, fendCntClr, xchkClrWrite,
bwBlockVerdict, bwGranuleDecision, cotExpiry, lbtQuery, bwtrCntClr. -/
def Obligations.RffeAndBreakwater : Prop :=
  -- A Register Write that passes the check joins the queue of its master (R345).
  (∀ (s : State) (src : Source) (n : Fin 8) (v : Word) (t : State) (w : Word) (c : RfCmd),
     s.on = true →
     s.touch src = t →
     fix (fixBit v 31) 24 3 0 = w →
     s.opens src (0x100404 + 0x40 * n.val) w = true →
     t.rfAsked n.val w = c →
     t.rfCheck n.val c = rfOK →
     exec (.rffeWrite src n v) s = .next (State.follow ((t.put (F.FEND_RF_STAT_RESULT n.val) rfOK).setRffe n.val
       { t.rffe n.val with queue := (t.rffe n.val).queue ++ [c] }) s)) ∧
  -- A Register Read that passes the check joins the queue (R345).
  (∀ (s : State) (src : Source) (n : Fin 8) (v : Word) (t : State) (w : Word) (c : RfCmd),
     s.on = true →
     s.touch src = t →
     fix (fixBit v 31) 24 3 1 = w →
     s.opens src (0x100404 + 0x40 * n.val) w = true →
     t.rfAsked n.val w = c →
     t.rfCheck n.val c = rfOK →
     exec (.rffeRead src n v) s = .next (State.follow ((t.put (F.FEND_RF_STAT_RESULT n.val) rfOK).setRffe n.val
       { t.rffe n.val with queue := (t.rffe n.val).queue ++ [c] }) s)) ∧
  -- A Register 0 Write that passes the check joins the queue (R345).
  (∀ (s : State) (src : Source) (n : Fin 8) (v : Word) (t : State) (w : Word) (c : RfCmd),
     s.on = true →
     s.touch src = t →
     fix (fixBit v 31) 24 3 2 = w →
     s.opens src (0x100404 + 0x40 * n.val) w = true →
     t.rfAsked n.val w = c →
     t.rfCheck n.val c = rfOK →
     exec (.rffeReg0Write src n v) s = .next (State.follow ((t.put (F.FEND_RF_STAT_RESULT n.val) rfOK).setRffe n.val
       { t.rffe n.val with queue := (t.rffe n.val).queue ++ [c] }) s)) ∧
  -- An Extended Register Write that passes the check joins the queue (R345).
  (∀ (s : State) (src : Source) (n : Fin 8) (v : Word) (t : State) (w : Word) (c : RfCmd),
     s.on = true →
     s.touch src = t →
     fix (fixBit v 31) 24 3 3 = w →
     s.opens src (0x100404 + 0x40 * n.val) w = true →
     t.rfAsked n.val w = c →
     t.rfCheck n.val c = rfOK →
     exec (.rffeExtWrite src n v) s = .next (State.follow ((t.put (F.FEND_RF_STAT_RESULT n.val) rfOK).setRffe n.val
       { t.rffe n.val with queue := (t.rffe n.val).queue ++ [c] }) s)) ∧
  -- An Extended Register Read that passes the check joins the queue (R345).
  (∀ (s : State) (src : Source) (n : Fin 8) (v : Word) (t : State) (w : Word) (c : RfCmd),
     s.on = true →
     s.touch src = t →
     fix (fixBit v 31) 24 3 4 = w →
     s.opens src (0x100404 + 0x40 * n.val) w = true →
     t.rfAsked n.val w = c →
     t.rfCheck n.val c = rfOK →
     exec (.rffeExtRead src n v) s = .next (State.follow ((t.put (F.FEND_RF_STAT_RESULT n.val) rfOK).setRffe n.val
       { t.rffe n.val with queue := (t.rffe n.val).queue ++ [c] }) s)) ∧
  -- A command that the check turns away (R345, R346).
  (∀ (s : State) (src : Source) (n : Fin 8) (v : Word) (t : State) (w : Word) (c : RfCmd),
     s.on = true →
     s.touch src = t →
     fix (fixBit v 31) 24 3 0 = w →
     s.opens src (0x100404 + 0x40 * n.val) w = true →
     t.rfAsked n.val w = c →
     t.rfCheck n.val c ≠ rfOK →
     exec (.rffeWrite src n v) s = .next (State.follow ((t.put (F.FEND_RF_STAT_RESULT n.val) (t.rfCheck n.val c)).raiseMs 0x1009
       0 0) s)) ∧
  -- CMD 5 to 7: refused, as FULL with the queue full, else as ARG (R345).
  (∀ (s : State) (src : Source) (n : Fin 8) (v : Word) (t : State) (w : Word) (c : RfCmd) (k : Nat),
     s.on = true →
     s.touch src = t →
     (let c := v.toNat / 2 ^ 24 % 8; if 5 ≤ c then c else 5) = k →
     fix (fixBit v 31) 24 3 k = w →
     s.opens src (0x100404 + 0x40 * n.val) w = true →
     t.rfAsked n.val w = c →
     exec (.rffeCmdUnknown src n v) s = .next (State.follow ((t.put (F.FEND_RF_STAT_RESULT n.val)
       (if 16 ≤ (t.rffe n.val).queue.length then rfFULL else rfARG)).raiseMs 0x1009 0 0) s)) ∧
  -- The queue head command starts on the bus, an armed one at its stamp (R345).
  (∀ (s : State) (n : Fin 8) (c : RfCmd) (q : List RfCmd) (t : State),
     s.on = true →
     (s.rffe n.val).busy = none →
     (s.rffe n.val).queue = c :: q →
     (if c.at_.isSome then s.reach (c.at_.getD 0) else s) = t →
     exec (.rffeCommandStart n) s = .next (State.follow
       ((t.setRffe n.val { queue := q, busy := some c, ends := t.aon + c.periods * t.rfPeriod n.val }).emit
         (.rffe n.val c.cmd c.usid c.addr c.data)) s)) ∧
  -- A write on the bus ends (R344).
  (∀ (s : State) (n : Fin 8) (bytes : List Byte) (perr : Bool) (x : Rffe) (c : RfCmd),
     s.on = true →
     s.rffe n.val = x →
     x.busy = some c →
     c.writes = true →
     exec (.rffeCommandDone n bytes perr) s = .next (State.follow ((s.elapseTo x.ends).setRffe n.val { x with busy := none }) s)) ∧
  -- A read ends: its bytes, zeros above them, and the parity error are shown (R344).
  (∀ (s : State) (n : Fin 8) (bytes : List Byte) (perr : Bool) (x : Rffe) (c : RfCmd) (k : Nat) (data : List Byte) (u : State) (v
     : State),
     s.on = true →
     s.rffe n.val = x →
     x.busy = some c →
     c.writes = false →
     (if c.cmd = 1 then 1 else c.bc + 1) = k →
     (bytes ++ List.replicate 16 0).take k ++ List.replicate (16 - k) (0 : Byte) = data →
     ((s.elapseTo x.ends).setRffe n.val { x with busy := none }).each (List.range 4)
 (fun v j => v.put (F.FEND_RF_RDATA_DATA n.val j) (leNat ((data.drop (4 * j)).take 4))) = u →
     ((((u.putb (F.FEND_RF_RSTAT_VALID n.val) true).putb (F.FEND_RF_RSTAT_NEW n.val) true).incWrap
   (F.FEND_RF_RSTAT_SEQ n.val)).putb (F.FEND_RF_RSTAT_PERR n.val) perr).put (F.FEND_RF_RSTAT_BC n.val) (k - 1) = v →
     exec (.rffeCommandDone n bytes perr) s = .next (State.follow (if perr then v.raiseMs 0x1008 0 0 else v) s)) ∧
  -- Writing FEND.CNT_CLR clears every FEND counter (R342).
  (∀ (s : State) (src : Source) (v : Word) (t : State) (w : Word),
     s.on = true →
     s.touch src = t →
     fixBit v 0 = w →
     s.opens src F.FEND_CNT_CLR_CLR.addr w = true →
     exec (.fendCntClr src v) s = .next (State.follow (((((t.put F.FEND_IGN_CNT_COUNT 0).put F.FEND_RNG_REJ_COUNT 0).put
       F.FEND_MM_CNT_COUNT 0).put F.FEND_COEX_SHORT_COUNT 0).put F.FEND_ACT_CNT_COUNT 0) s)) ∧
  -- Writing BWTR.XCHK_CLR bits clears the XCHK mute and E_nn (R353).
  (∀ (s : State) (src : Source) (half : Fin 2) (v : Word) (t : State),
     s.on = true →
     s.touch src = t →
     s.opens src (if half.val = 0 then F.BWTR_XCHK_CLR0_PATHS else F.BWTR_XCHK_CLR1_PATHS).addr v = true →
     exec (.xchkClrWrite src half v) s = .next (State.follow (t.xchkClear half.val v.toNat) s)) ∧
  -- The block of the next air instant, where it has not been judged (R351).
  (∀ (s : State),
     s.on = true →
     s.txRun = true →
     s.tx.startK ≤ s.nextTxK →
     s.bwtr.block ≠ some (s.bwBlockOf s.nextTxK) →
     exec .bwBlockVerdict s = .next (State.follow (s.bwJudge (s.bwBlockOf s.nextTxK)) s)) ∧
  -- The granule of the next air instant where it is not decided, else the one after it at its boundary (R354).
  (∀ (s : State) (g : Nat),
     s.on = true →
     granuleOf (gridAt s.nextTxK) = g →
     exec .bwGranuleDecision s = .next (State.follow (if s.bwtr.granule = some g then
       (s.reachAbs ((g + 1) * usU 10)).bwGranule (g + 1) else s.bwGranule g) s)) ∧
  -- A burst reaching COT mutes every later sample until it ends (R354).
  (∀ (s : State) (b : BwBand) (tr : Nat),
     s.on = true →
     s.band = some b →
     s.bwtr.burst = some tr →
     b.cot ≠ 0 →
     exec .cotExpiry s = .next (State.follow ((s.reachAbs (tr + b.cot * usU 10)).raiseMs 0x1106 0 0) s)) ∧
  -- At T_r − 1 µs of a burst in a shared band Breakwater asks Lookout for clearance (R355).
  (∀ (s : State) (a : BitVec 64),
     s.on = true →
     s.nextRise = some a →
     s.sharedBand = true →
     s.inRun = true →
     exec .lbtQuery s = .next (State.follow ((s.reach (stampSub a (usU 1))).lbtJudge (s.absOf a)) s)) ∧
  -- Writing BWTR.CNT_CLR clears every BWTR.CNTr (R357).
  (∀ (s : State) (src : Source) (v : Word) (t : State) (w : Word),
     s.on = true →
     s.touch src = t →
     fixBit v 0 = w →
     s.opens src F.BWTR_CNT_CLR_CLR.addr w = true →
     exec (.bwtrCntClr src v) s = .next (State.follow (t.each (List.range 10) (fun t r => t.put (F.BWTR_CNT_COUNT r) 0)) s))

/-- Monitor conversions, injected groups and calibration (R363, R365, R366, R367, R368, R370, R371, R372, R373). Commands:
monPassStart, monCtlWrite, monGo, monSeqWrite, monResultWrite, monInjGo, monInjTrigger, monInjStart, monInjCtlWrite,
monCalGo, monCalStart, monCalDone, monitorResultRead, monCntClr. -/
def Obligations.MonitorConverters : Prop :=
  -- The next pass of a continuous bank starts at its period (R365).
  (∀ (s : State) (b : Fin 4) (t : State),
     s.on = true →
     s.monMode b.val = 1 →
     (s.bank b.val).running = false →
     (s.bank b.val).free = true →
     s.elapseTo ((s.bank b.val).passStart + usU (s.get (F.MON_CTL_PERIOD_US b.val))) = t →
     exec (.monPassStart b) s = .next (State.follow (t.passStart b.val (t.passAt b.val)) s)) ∧
  -- A write of CTL while the bank is idle takes every field; then MODE acts (R365, R373).
  (∀ (s : State) (src : Source) (b : Fin 4) (v : Word) (t : State),
     s.on = true →
     s.touch src = t →
     s.opens src (0x120000 + 0x400 * b.val) v = true →
     exec (.monCtlWrite src b v) s = .next (State.follow (t.monCtl b.val v.toNat) s)) ∧
  -- GO of a bank in MODE 2 that is not running: one pass starts (R365).
  (∀ (s : State) (src : Source) (b : Fin 4) (v : Word) (t : State) (u : State) (w : Word),
     s.on = true →
     s.touch src = t →
     fixBit v 29 = w →
     s.opens src (0x120000 + 0x400 * b.val) w = true →
     setBitsAt (setBitsAt (maskAnd w.toNat 0x101FFFFF) 29 1 0) 30 2 0
 = setBitsAt (setBitsAt (t.word (0x120000 + 0x400 * b.val)).toNat 29 1 0) 30 2 0 →
     bitsAt w.toNat 30 2 = 2 →
     (t.put (F.MON_CTL_MODE b.val) 2).modeWritten b.val = u →
     u.monMode b.val = 2 →
     (u.bank b.val).running = false →
     exec (.monGo src b v) s = .next (State.follow (u.passStart b.val (u.passAt b.val)) s)) ∧
  -- An entry of an idle bank: the word stands and its result is cleared (R361, R373).
  (∀ (s : State) (src : Source) (b : Fin 4) (i : Fin 36) (v : Word) (t : State) (x : Word),
     s.on = true →
     s.touch src = t →
     s.opens src (monEntry b.val i.val) v = true →
     t.monIdle b.val = true →
     BitVec.ofNat 32 (maskAnd v.toNat 0xF03F) = x →
     (¬(entDiff x = true ∧ [50, 52, 54].contains (entInput x) = false)) →
     exec (.monSeqWrite src b i v) s = .next (State.follow
       ((t.setWord (monEntry b.val i.val) x).setWord (monResult b.val i.val) 0) s)) ∧
  -- While the bank converts the write is rejected (R373).
  (∀ (s : State) (src : Source) (b : Fin 4) (i : Fin 36) (v : Word) (t : State),
     s.on = true →
     s.touch src = t →
     s.opens src (monEntry b.val i.val) v = true →
     t.monIdle b.val = false →
     exec (.monSeqWrite src b i v) s = .next (State.follow (t.raiseMs 0x1204 b.val 0) s)) ∧
  -- The regular entry in progress ends (R362, R365).
  (∀ (s : State) (b : Fin 4) (raws : List (Int × Fin 3)),
     s.on = true →
     (s.bank b.val).calEnd = none →
     (s.bank b.val).inj ≠ 2 →
     (s.bank b.val).running = true →
     exec (.monResultWrite b raws) s = .next (State.follow (s.entryDone b.val (raws.map (fun e => (e.1, e.2.val)))) s)) ∧
  -- An entry of the injected group ends (R367).
  (∀ (s : State) (b : Fin 4) (raws : List (Int × Fin 3)),
     s.on = true →
     (s.bank b.val).calEnd = none →
     (s.bank b.val).inj = 2 →
     exec (.monResultWrite b raws) s = .next (State.follow (s.injDone b.val (raws.map (fun e => (e.1, e.2.val)))) s)) ∧
  -- INJ_CTL.GO with no group pending or running, TRIG unchanged: the group becomes pending (R366).
  (∀ (s : State) (src : Source) (b : Fin 4) (v : Word) (t : State) (u : State) (w : Word) (trig : Nat),
     s.on = true →
     s.touch src = t →
     fixBit v 31 = w →
     s.opens src (0x120000 + 0x400 * b.val + 0x10) w = true →
     (if bitsAt w.toNat 29 2 = 3 then 0 else bitsAt w.toNat 29 2) = trig →
     trig = t.get (F.MON_INJ_CTL_TRIG b.val) →
     (t.put (F.MON_INJ_CTL_TRIG b.val) trig).put (F.MON_INJ_CTL_LEN b.val) (w.toNat % 4) = u →
     (u.bank b.val).inj = 0 →
     exec (.monInjGo src b v) s = .next (State.follow (u.setBank b.val { u.bank b.val with inj := 1 }) s)) ∧
  -- A trigger while a group is pending or runs is dropped and counted.
  (∀ (s : State) (src : Source) (b : Fin 4) (v : Word) (t : State) (u : State) (w : Word) (trig : Nat),
     s.on = true →
     s.touch src = t →
     fixBit v 31 = w →
     s.opens src (0x120000 + 0x400 * b.val + 0x10) w = true →
     (if bitsAt w.toNat 29 2 = 3 then 0 else bitsAt w.toNat 29 2) = trig →
     trig = t.get (F.MON_INJ_CTL_TRIG b.val) →
     (t.put (F.MON_INJ_CTL_TRIG b.val) trig).put (F.MON_INJ_CTL_LEN b.val) (w.toNat % 4) = u →
     (u.bank b.val).inj ≠ 0 →
     exec (.monInjGo src b v) s = .next (State.follow ((u.inc (F.MON_INJ_DROP_COUNT b.val)).raiseMs 0x1203 b.val b.val) s)) ∧
  -- The armed Tide trigger is due (R366).
  (∀ (s : State) (b : Fin 4) (a : Stamp) (t : State),
     s.on = true →
     (s.bank b.val).armed = some a →
     s.reach a = t →
     exec (.monInjTrigger b) s = .next (State.follow (State.injTrigger (t.setBank b.val { t.bank b.val with
       armed := if t.get (F.MON_INJ_CTL_TRIG b.val) = 2 then some (stampAdd a (t.injPeriod b.val)) else none }) b.val) s)) ∧
  -- The pending group starts at the next conversion boundary (R367).
  (∀ (s : State) (b : Fin 4) (x : MonBank) (d : Nat) (e : Nat) (t : State),
     s.on = true →
     s.bank b.val = x →
     x.inj = 1 →
     x.calEnd = none →
     s.boundaryAt b.val = (d, e) →
     s.elapseTo e = t →
     exec (.monInjStart b) s = .next (State.follow (t.setBank b.val { t.bank b.val with
       inj := 2, injIdx := 0, injFrom := maxOf e [t.aon], left := x.left - d
       from_ := if x.left - d = 0 then x.from_ + convT d - convT 0 else x.from_ }) s)) ∧
  -- A write of INJ_CTL without GO, TRIG unchanged.
  (∀ (s : State) (src : Source) (b : Fin 4) (v : Word) (t : State) (trig : Nat),
     s.on = true →
     s.touch src = t →
     s.opens src (0x120000 + 0x400 * b.val + 0x10) v = true →
     bitAt v.toNat 31 = false →
     (if bitsAt v.toNat 29 2 = 3 then 0 else bitsAt v.toNat 29 2) = trig →
     exec (.monInjCtlWrite src b 0 v) s = .next (State.follow (
       let u := (t.put (F.MON_INJ_CTL_TRIG b.val) trig).put (F.MON_INJ_CTL_LEN b.val) (v.toNat % 4)
       if trig = t.get (F.MON_INJ_CTL_TRIG b.val) then u else u.injArm b.val) s)) ∧
  -- A write of a half of INJ_AT re-arms the trigger.
  (∀ (s : State) (src : Source) (b : Fin 4) (i : Fin 3) (v : Word) (t : State),
     s.on = true →
     i.val ≠ 0 →
     s.touch src = t →
     s.opens src (0x120000 + 0x400 * b.val + (0x10 + 4 * i.val)) v = true →
     exec (.monInjCtlWrite src b i v) s = .next (State.follow
       ((t.plain (0x120000 + 0x400 * b.val + (0x10 + 4 * i.val)) v.toNat).injArm b.val) s)) ∧
  -- A calibration request with none running or pending is pending (R372).
  (∀ (s : State) (src : Source) (b : Fin 4) (v : Word) (t : State),
     s.on = true →
     s.touch src = t →
     s.opens src (0x120000 + 0x400 * b.val + 8) (fixBit v 0) = true →
     (t.bank b.val).calEnd = none →
     t.flag (F.MON_STAT_CAL_PEND b.val) = false →
     exec (.monCalGo src b v) s = .next (State.follow (t.putb (F.MON_STAT_CAL_PEND b.val) true) s)) ∧
  -- The latched calibration starts at the next boundary and takes its time (R372).
  (∀ (s : State) (b : Fin 4) (d : Nat) (e : Nat) (t : State),
     s.on = true →
     s.flag (F.MON_STAT_CAL_PEND b.val) = true →
     (s.bank b.val).inj = 0 →
     (s.bank b.val).calEnd = none →
     s.boundaryAt b.val = (d, e) →
     (s.elapseTo e).putb (F.MON_STAT_CAL_PEND b.val) false = t →
     exec (.monCalStart b) s = .next (State.follow (t.setBank b.val { t.bank b.val with calEnd := some (t.aon + usU 80) }) s)) ∧
  -- The calibration ends; a correction in range is applied, another only reported (R371).
  (∀ (s : State) (b : Fin 4) (ofs : BitVec 16) (gain : BitVec 16) (e : Nat) (t : State) (u : State) (v : State),
     s.on = true →
     (s.bank b.val).calEnd = some e →
     s.elapseTo e = t →
     t.setBank b.val { t.bank b.val with calEnd := none } = u →
     (if decide (-1024 ≤ ofs.toInt ∧ ofs.toInt ≤ 1024) && decide (31130 ≤ gain.toNat ∧ gain.toNat ≤ 34406) then
   ((u.puti (F.MON_CAL_RES_OFS b.val) ofs.toInt).put (F.MON_CAL_RES_GAIN b.val) gain.toNat).raise 0x1201 b.val
 else u.raise 0x1202 b.val) = v →
     exec (.monCalDone b ofs gain) s = .next (State.follow
       (if (v.bank b.val).running then v.entryStart b.val (maxOf v.aon [e]) else v) s)) ∧
  -- A permitted read of a monitor-rule result register clears NEW and latches its stamp (R370).
  (∀ (s : State) (src : Source) (b : Fin 4) (i : Fin 36) (x : Nat) (t : State),
     s.on = true →
     s.busRead src (monResult b.val i.val) = (x, t) →
     exec (.monitorResultRead src b i) s = .next (State.follow t s)) ∧
  -- Writing MON.CNT_CLR clears INJ_DROP and OVR_CNT (R363).
  (∀ (s : State) (src : Source) (v : Word) (t : State),
     s.on = true →
     s.touch src = t →
     s.opens src F.MON_CNT_CLR_CLR.addr (fixBit v 0) = true →
     exec (.monCntClr src v) s = .next (State.follow (t.each (List.range 4) (fun t b =>
       (t.put (F.MON_INJ_DROP_COUNT b) 0).put (F.MON_OVR_CNT_COUNT b) 0)) s))

/-- Hold reads, scrubbing and repair, and the replay engines (R377, R378, R379, R397, R398, R400). Commands: holdRead,
scrubRead, repairFuseBurn, holdReady, holdcCntClr, gtrigEdge, replayGo, replayStop, replayStart, replayEnd. -/
def Obligations.HoldAndReplay : Prop :=
  -- A read of a granule: nothing wrong, a corrected error, or an uncorrectable one that poisons it (R377).
  (∀ (s : State) (granule : BitVec 28) (err : Fin 3),
     s.on = true →
     s.holdReady = true →
     granule.toNat < s.granules →
     exec (.holdRead granule err) s = .next (State.follow (if err.val = 1 then s.correctedError granule.toNat
       else if err.val = 2 then s.poisonGranule granule.toNat else s) s)) ∧
  -- The scrubber's read without an error, before its last granule (R378).
  (∀ (s : State) (t : State),
     s.on = true →
     s.holdReady = true →
     s.holdCarried 4 1 = t →
     s.hold.scrub + 1 < t.granules →
     exec (.scrubRead 0) s = .next (State.follow { t with hold := { t.hold with scrub := s.hold.scrub + 1 } } s)) ∧
  -- A corrected error in a row that had one on the last pass too: the row is repaired (R379).
  (∀ (s : State) (t : State) (u : State),
     s.on = true →
     s.holdReady = true →
     (s.holdCarried 4 1).holdRead s.hold.scrub 1 = t →
     t.hold.rowsBefore.contains (s.holdRow s.hold.scrub) = true →
     t.repairRow (s.holdRow s.hold.scrub) = u →
     s.hold.scrub + 1 < u.granules →
     exec (.scrubRead 1) s = .next (State.follow { u with hold := { u.hold with scrub := s.hold.scrub + 1 } } s)) ∧
  -- A held remap is burned into the die's repair fuses when temperature permits (R379).
  (∀ (s : State) (r : Nat × Nat) (rs : List (Nat × Nat)) (t : State),
     s.on = true →
     s.hold.remaps = r :: rs →
     s.up domHOLD = true →
     s.flag F.THERM_STAT_NVM_OK = true →
     ({ s with hold := { s.hold with remaps := rs }, fuses := { s.fuses with repairs := s.fuses.repairs ++ [r] } } : State) = t →
     exec .repairFuseBurn s = .next (State.follow (t.put (F.HOLDC_SPARE_UNBURNT r.1) (t.get (F.HOLDC_SPARE_UNBURNT r.1) - 1)) s)) ∧
  -- After a HOLD raise, Hold is initialised with repairs applied and READY set (R400).
  (∀ (s : State),
     s.on = true →
     s.up domHOLD = true →
     exec .holdReady s = .next (State.follow (s.putb F.HOLDC_STAT_READY true) s)) ∧
  -- Writing HOLDC.CNT_CLR clears CE_CNT, UE_CNT and UNREP (R377).
  (∀ (s : State) (src : Source) (v : Word) (t : State) (w : Word),
     s.on = true →
     s.touch src = t →
     fixBit v 0 = w →
     s.opens src F.HOLDC_CNT_CLR_CLR.addr w = true →
     exec (.holdcCntClr src v) s = .next (State.follow (((t.put F.HOLDC_CE_CNT_COUNT 0).put F.HOLDC_UE_CNT_COUNT 0).put
       F.HOLDC_UNREP_COUNT 0) s)) ∧
  -- The other edge only moves the pin.
  (∀ (s : State) (rise : Bool),
     s.on = true →
     (¬(s.pins.gtrig ≠ rise ∧ rise = (s.get F.GAUGE_CTL_GTRIG_POL == 0))) →
     exec (.gtrigEdge rise) s = .next (State.follow { s with pins := { s.pins with gtrig := rise } } s)) ∧
  -- An idle engine whose check passes waits for RP_AT (R397).
  (∀ (s : State) (src : Source) (r : Fin 4) (v : Word) (t : State) (u : State) (w : Word),
     s.on = true →
     s.touch src = t →
     fixBit v 31 = w →
     s.opens src (F.GAUGE_RP_CTL_GO r.val).addr w = true →
     bitAt w.toNat 30 = false →
     t.plain (F.GAUGE_RP_CTL_GO r.val).addr w.toNat = u →
     u.get (F.GAUGE_RP_STAT_STATE r.val) = 0 →
     u.rpCheck r.val = 0 →
     exec (.replayGo src r v) s = .next (State.follow (((u.put (F.GAUGE_RP_STAT_RESULT r.val) 0).put (F.GAUGE_RP_STAT_STATE r.val) 1).put
       (F.GAUGE_RP_STAT_DONE r.val) 0) s)) ∧
  -- The check turns a GO away (R397).
  (∀ (s : State) (src : Source) (r : Fin 4) (v : Word) (k : Nat) (t : State) (u : State) (w : Word),
     s.on = true →
     s.touch src = t →
     fixBit v 31 = w →
     s.opens src (F.GAUGE_RP_CTL_GO r.val).addr w = true →
     bitAt w.toNat 30 = false →
     t.plain (F.GAUGE_RP_CTL_GO r.val).addr w.toNat = u →
     u.get (F.GAUGE_RP_STAT_STATE r.val) = 0 →
     u.rpCheck r.val = k →
     k ≠ 0 →
     exec (.replayGo src r v) s = .next (State.follow ((u.put (F.GAUGE_RP_STAT_RESULT r.val) k).raise 0x1307 r.val) s)) ∧
  -- Play ends at the next set boundary (R398).
  (∀ (s : State) (src : Source) (r : Fin 4) (v : Word) (t : State) (u : State) (e : RpEngine) (w : Word),
     s.on = true →
     s.touch src = t →
     fixBit v 30 = w →
     s.opens src (F.GAUGE_RP_CTL_GO r.val).addr w = true →
     bitAt w.toNat 31 = false →
     t.plain (F.GAUGE_RP_CTL_GO r.val).addr w.toNat = u →
     u.get (F.GAUGE_RP_STAT_STATE r.val) ≠ 1 →
     sparseFind u.hold.engines r.val = some e →
     exec (.replayStop src r v) s = .next (State.follow { u with hold := { u.hold with
       engines := sparseInsert u.hold.engines r.val { e with stop := true } } } s)) ∧
  -- An engine that waits ends at once (R398).
  (∀ (s : State) (src : Source) (r : Fin 4) (v : Word) (t : State) (u : State) (w : Word),
     s.on = true →
     s.touch src = t →
     fixBit v 30 = w →
     s.opens src (F.GAUGE_RP_CTL_GO r.val).addr w = true →
     bitAt w.toNat 31 = false →
     t.plain (F.GAUGE_RP_CTL_GO r.val).addr w.toNat = u →
     u.get (F.GAUGE_RP_STAT_STATE r.val) = 1 →
     exec (.replayStop src r v) s = .next (State.follow (u.rpEnd r.val) s)) ∧
  -- Play starts on the first air instant at or after RP_AT (R397).
  (∀ (s : State) (r : Fin 4) (k : Nat) (t : State) (u : State) (x : State),
     s.on = true →
     s.get (F.GAUGE_RP_STAT_STATE r.val) = 1 →
     gridFrom (s.absOf (s.get64 (F.GAUGE_RP_AT_LO_STAMP r.val) (F.GAUGE_RP_AT_HI_STAMP r.val))) = k →
     s.reachAbs (gridAt k) = t →
     ({ t with hold := { t.hold with engines := sparseInsert t.hold.engines r.val ⟨k, 0, 0, false⟩ } } : State) = u →
     (u.put (F.GAUGE_RP_STAT_STATE r.val) 2).put F.GAUGE_STAT_REPLAY (setBitAt (u.get F.GAUGE_STAT_REPLAY) r.val true) = x →
     exec (.replayStart r) s = .next (State.follow (x.holdCarried 1 (2 ^ u.get (F.GAUGE_RP_CTL_LOG_CNT r.val))) s)) ∧
  -- The last pass is over (R398).
  (∀ (s : State) (r : Fin 4) (e : RpEngine) (t : State),
     s.on = true →
     sparseFind s.hold.engines r.val = some e →
     s.rpStepSet r.val e = none →
     s.reachAbs (gridAt (e.setK + s.rpSetLen r.val e.set)) = t →
     exec (.replayEnd r) s = .next (State.follow (State.rpEnd (if e.set + 1 < t.rpLen r.val then t
       else t.inc (F.GAUGE_RP_STAT_DONE r.val)) r.val) s))

/-- Gauge: arming, triggers, sets, records and deep functions (R383, R384, R385, R386, R387, R388, R390, R391, R395, R396).
Commands: gaugeArm, gaugeStop, gaugeTrig, gaugeCmdIgnored, gtrigEdge, gaugeTriggerDecide, gaugeSetWrite, gaugeSetDrop,
deepHclr, deepMclr, gaugeCntClr. -/
def Obligations.GaugeChannels : Prop :=
  -- An idle channel whose check passes is armed: its records, slot and directory begin again (R384, R385).
  (∀ (s : State) (src : Source) (c : Fin 16) (v : Word) (cmp : Nat) (trigs : List (Nat × Nat)) (t : State) (u : State) (x : State)
     (w : Word),
     s.on = true →
     s.touch src = t →
     gaugeCmdWord v 1 = w →
     s.opens src (F.GAUGE_C_CMD_GO c.val).addr w = true →
     t.gState c.val = gIDLE →
     t.gCheck c.val = gOK →
     t.put (F.GAUGE_C_STAT_RESULT c.val) gOK = u →
     u.absOf (u.get64 (F.GAUGE_C_TCMP_LO_STAMP c.val) (F.GAUGE_C_TCMP_HI_STAMP c.val)) = cmp →
     (if bitAt (u.get (F.GAUGE_C_CTL_TRIG_EN c.val)) 1 ∧ u.tide.now ≤ cmp then [(1, cmp)] else []) = trigs →
     ((u.put (F.GAUGE_C_STAT_RECS c.val) 0).put (F.GAUGE_C_STAT_SLOT c.val) 0).each (List.range 16)
 (fun w i => w.each (List.range 16) (fun y k => y.put (F.GAUGE_DIR_WORD c.val i k) 0)) = x →
     exec (.gaugeArm src c v) s = .next (State.follow
       ((x.setGchan c.val { u.gchan c.val with trigs := trigs, full := 0, block := [], spectra := 0 }).gFill c.val) s)) ∧
  -- The check turns an ARM away (R384).
  (∀ (s : State) (src : Source) (c : Fin 16) (v : Word) (r : Nat) (t : State) (w : Word),
     s.on = true →
     s.touch src = t →
     gaugeCmdWord v 1 = w →
     s.opens src (F.GAUGE_C_CMD_GO c.val).addr w = true →
     t.gState c.val = gIDLE →
     t.gCheck c.val = r →
     r ≠ gOK →
     exec (.gaugeArm src c v) s = .next (State.follow ((t.put (F.GAUGE_C_STAT_RESULT c.val) r).raise 0x1307 c.val) s)) ∧
  -- A channel stops; a record in POST is closed as truncated (R391).
  (∀ (s : State) (src : Source) (c : Fin 16) (v : Word) (t : State) (u : State) (w : Word),
     s.on = true →
     s.touch src = t →
     gaugeCmdWord v 2 = w →
     s.opens src (F.GAUGE_C_CMD_GO c.val).addr w = true →
     (if t.gState c.val = gPOST then t.gClose c.val true false else t) = u →
     exec (.gaugeStop src c v) s = .next (State.follow
       ((u.setGchan c.val { u.gchan c.val with buf := [], trigs := [], trig := none }).setGstate c.val gIDLE) s)) ∧
  -- A trigger event of source 6 now (R386).
  (∀ (s : State) (src : Source) (c : Fin 16) (v : Word) (t : State) (w : Word),
     s.on = true →
     s.touch src = t →
     gaugeCmdWord v 3 = w →
     s.opens src (F.GAUGE_C_CMD_GO c.val).addr w = true →
     exec (.gaugeTrig src c v) s = .next (State.follow (t.gaugeEventTo c.val 6 t.tide.now) s)) ∧
  -- A Cc_CMD with OP 0 is ignored (R386).
  (∀ (s : State) (src : Source) (c : Fin 16) (v : Word) (t : State) (w : Word),
     s.on = true →
     s.touch src = t →
     gaugeCmdWord v 0 = w →
     s.opens src (F.GAUGE_C_CMD_GO c.val).addr w = true →
     exec (.gaugeCmdIgnored src c v) s = .next (State.follow t s)) ∧
  -- The selected edge of GTRIG is a trigger event of source 0 for every channel (R386).
  (∀ (s : State) (rise : Bool) (t : State),
     s.on = true →
     s.pins.gtrig ≠ rise →
     rise = (s.get F.GAUGE_CTL_GTRIG_POL == 0) →
     ({ s with pins := { s.pins with gtrig := rise } } : State) = t →
     exec (.gtrigEdge rise) s = .next (State.follow (t.each (List.range 16) (fun u c => u.gaugeEventTo c 0 s.tide.now)) s)) ∧
  -- The earliest trigger sample is decided for its lowest source: POST begins (R387, R388).
  (∀ (s : State) (c : Fin 16) (t0 : Nat × Nat) (ts : List (Nat × Nat)) (here : List (Nat × Nat)) (te : Nat) (n : Nat) (win : Nat)
     (at_ : Nat) (frac : Nat) (u : State) (x : GaugeChan),
     s.on = true →
     (s.gchan c.val).trigs = t0 :: ts →
     s.gState c.val = gARMED →
     minOf t0.2 (ts.map (fun e => e.2)) = te →
     s.tapIndex (s.gPoint c.val) te = n →
     s.reachAbs (s.tapAt (s.gPoint c.val) n + usU 20) = u →
     (t0 :: ts).filter (fun e => u.tapIndex (s.gPoint c.val) e.2 == n) = here →
     minOf 7 (here.map (fun e => e.1)) = win →
     ((here.find? (fun e => e.1 == win)).map (fun e => e.2)).getD te = at_ →
     ({ s.gchan c.val with trigs := (t0 :: ts).filter (fun e => u.tapIndex (s.gPoint c.val) e.2 != n) } : GaugeChan) = x →
     (¬((n : Int) < x.n0 + 15 * s.gPre c.val)) →
     (at_ - u.tapAt (s.gPoint c.val) n) * 64 * 3 * one32 / (200000 * u.tapPeriod (s.gPoint c.val)) = frac →
     u.gPre c.val = s.gPre c.val →
     exec (.gaugeTriggerDecide c) s = .next (State.follow ((((u.setGchan c.val x).setGchan c.val { x with
       trig := some ((((n : Int) - x.n0) / 15).toNat, ⟨at_, if 63 < frac then 63 else frac, win, maskOf (here.map (fun e => e.1))⟩) }).setGstate
         c.val gPOST).gAdvance c.val) s)) ∧
  -- A trigger before the PRE sets are there is ignored, one in POST counted as a retrigger (R387).
  (∀ (s : State) (c : Fin 16) (t0 : Nat × Nat) (ts : List (Nat × Nat)) (te : Nat) (n : Nat) (u : State) (x : GaugeChan),
     s.on = true →
     (s.gchan c.val).trigs = t0 :: ts →
     s.gState c.val = gPOST →
     minOf t0.2 (ts.map (fun e => e.2)) = te →
     s.tapIndex (s.gPoint c.val) te = n →
     s.reachAbs (s.tapAt (s.gPoint c.val) n + usU 20) = u →
     ({ s.gchan c.val with trigs := (t0 :: ts).filter (fun e => u.tapIndex (s.gPoint c.val) e.2 != n) } : GaugeChan) = x →
     (¬((n : Int) < x.n0 + 15 * u.gPre c.val)) →
     exec (.gaugeTriggerDecide c) s = .next (State.follow ((u.setGchan c.val x).inc (F.GAUGE_C_TCNT_RETRIG c.val)) s)) ∧
  -- A set whose samples have come is written to Hold, granule by granule; no run of dropped sets precedes it (R383).
  (∀ (s : State) (c : Fin 16) (slack : BitVec 16) (u : State) (x : GaugeChan) (m : Nat) (k0 : Nat) (a0 : Nat),
     s.on = true →
     (if s.meterActive 7 && s.setReady c.val && decide (s.gState c.val ≠ gIDLE ∧ s.gState c.val ≠ gSUSP) then
 s.meter 7 slack.toNat else s) = u →
     (u.gState c.val = gFILL ∨ u.gState c.val = gARMED ∨ u.gState c.val = gPOST) →
     u.setReady c.val = true →
     u.gchan c.val = x →
     x.first x.set = m →
     dropRun x.sets = (0, k0, a0) →
     exec (.gaugeSetWrite c slack) s = .next (State.follow (
       ((((u.each (List.range (u.gCnt c.val)) (fun t j => t.writeGranule (t.gGranule c.val x.set j)
           (granuleBytes (decide (u.gPoint c.val < 2)) ((List.range 15).map (fun i => x.sample j (m + i)))))).setGchan c.val { x with
         set := x.set + 1
         sets := ((x.set, u.tapAt (u.gPoint c.val) m, false) :: x.sets).take (u.gLen c.val)
         buf := x.buf.map (fun e => (e.1, e.2.filter (fun z => decide (m + 15 ≤ z.n)))) }).holdCarried 0 (u.gCnt c.val)).deepSet c.val
           ((List.range 15).map (fun i => some (x.sample 0 (m + i))))).gAdvance c.val) s)) ∧
  -- A set that finds no room is dropped: meter 7 slips, and the deep functions see a gap (R390, R395).
  (∀ (s : State) (c : Fin 16) (x : GaugeChan) (m : Nat),
     s.on = true →
     (s.gState c.val = gFILL ∨ s.gState c.val = gARMED ∨ s.gState c.val = gPOST) →
     s.setReady c.val = true →
     s.gchan c.val = x →
     x.first x.set = m →
     exec (.gaugeSetDrop c) s = .next (State.follow (
       ((((s.setGchan c.val { x with
         set := x.set + 1
         sets := ((x.set, s.tapAt (s.gPoint c.val) m, true) :: x.sets).take (s.gLen c.val)
         buf := x.buf.map (fun e => (e.1, e.2.filter (fun z => decide (m + 15 ≤ z.n)))) }).add (F.TOP_SLIP_CNT_COUNT 7)
           (15 * s.gCnt c.val)).deepSet c.val (List.replicate 15 none)).gAdvance c.val)) s)) ∧
  -- The histogram of a deep channel is cleared (R395).
  (∀ (s : State) (src : Source) (d : Fin 4) (v : Word) (t : State) (w : Word),
     s.on = true →
     s.touch src = t →
     fixBit v 29 = w →
     s.opens src (F.GAUGE_DEEP_CTL_HCLR d.val).addr w = true →
     bitAt w.toNat 28 = false →
     exec (.deepHclr src d v) s = .next (State.follow ((t.plain (0x130600 + 0x10 * d.val) w.toNat).clearStep (0x138000 + 0x1000 * d.val) 4
       1024) s)) ∧
  -- The map of a deep channel is cleared (R396).
  (∀ (s : State) (src : Source) (d : Fin 4) (v : Word) (t : State) (u : State) (w : Word),
     s.on = true →
     s.touch src = t →
     fixBit v 28 = w →
     s.opens src (F.GAUGE_DEEP_CTL_MCLR d.val).addr w = true →
     bitAt w.toNat 29 = false →
     t.plain (0x130600 + 0x10 * d.val) w.toNat = u →
     exec (.deepMclr src d v) s = .next (State.follow { u with hold := { u.hold with
       map := sparseKeep (fun k => k / 32768 ≠ d.val) u.hold.map } } s)) ∧
  -- Writing GAUGE.CNT_CLR clears every GAUGE counter (R385).
  (∀ (s : State) (src : Source) (v : Word) (t : State) (w : Word),
     s.on = true →
     s.touch src = t →
     fixBit v 0 = w →
     s.opens src F.GAUGE_CNT_CLR_CLR.addr w = true →
     exec (.gaugeCntClr src v) s = .next (State.follow (((((t.clearStep 0x13012C 0x40 16).clearStep 0x130130 0x40 16).clearStep 0x130604
       0x10 4).clearStep 0x130608 0x10 4).clearStep 0x130718 0x40 4) s))

/-- Crane channel control (R402, R403, R415, R416). Commands: craneGo, craneKick, cranePause, craneStop, cranePaused,
craneCntClr. -/
def Obligations.CraneChannels : Prop :=
  -- GO with a good ring, of a channel that is IDLE or STOPPED: it starts at HEAD at the writer's level.
  (∀ (s : State) (src : Source) (ch : Fin 16) (v : Word) (t : State) (t0 : State) (w : Word),
     s.on = true →
     s.touch src = t →
     fixBit v 31 = w →
     srcCrane src = false →
     s.opens src (0x150100 + 0x40 * ch.val) w = true →
     t.craneLoose ch.val = true →
     t.put (F.CRANE_C_CTL_LOG_SIZE ch.val) (bitsAt w.toNat 0 5) = t0 →
     t0.craneLoose ch.val = true →
     ringGood (t0.craneBase ch.val) (t0.craneLog ch.val) = true →
     bitAt w.toNat 28 = false →
     bitAt w.toNat 30 = false →
     exec (.craneGo src ch v) s = .next (
       let a := (((t0.putb (F.CRANE_C_STAT_REFUSED ch.val) false).put (F.CRANE_C_STAT_LINKS ch.val) 0).put
         (F.CRANE_C_STAT_LEVEL ch.val) (t.srcLevel src true)).put (F.CRANE_C_STAT_STOPC ch.val) 0
       let b : State := { a with crane := { a.crane with byPilot := setBitAt a.crane.byPilot ch.val (t.asPilot src) } }
       let c := ((b.setChan ch.val { phase := 1 }).craneTo ch.val 1).craneGate ch.val
       State.follow (c.craneCtlFields ch.val (setBitsAt w.toNat 0 5 (c.craneLog ch.val))) s)) ∧
  -- GO of a running channel, or with a ring that breaks R402, is refused: REFUSED and GO_REFUSED.
  (∀ (s : State) (src : Source) (ch : Fin 16) (v : Word) (t : State) (w : Word),
     s.on = true →
     s.touch src = t →
     fixBit v 31 = w →
     srcCrane src = false →
     s.opens src (0x150100 + 0x40 * ch.val) w = true →
     t.craneLoose ch.val = false →
     bitAt w.toNat 28 = false →
     bitAt w.toNat 30 = false →
     exec (.craneGo src ch v) s = .next (
       let c := (t.putb (F.CRANE_C_STAT_REFUSED ch.val) true).raise 0x1505 ch.val
       State.follow (c.craneCtlFields ch.val (setBitsAt w.toNat 0 5 (c.craneLog ch.val))) s)) ∧
  -- A kick of an IDLE channel: KICK_PEND, and the channel fetches (R403).
  (∀ (s : State) (src : Source) (ch : Fin 16) (v : Word) (t : State) (u : State) (w : Word),
     s.on = true →
     s.touch src = t →
     fixBit v 28 = w →
     srcCrane src = false →
     s.opens src (0x150100 + 0x40 * ch.val) w = true →
     bitAt w.toNat 31 = false →
     bitAt w.toNat 30 = false →
     t.craneLoose ch.val = true →
     (t.put (F.CRANE_C_CTL_LOG_SIZE ch.val) (bitsAt w.toNat 0 5)).craneCtlFields ch.val
(setBitsAt w.toNat 0 5 ((t.put (F.CRANE_C_CTL_LOG_SIZE ch.val) (bitsAt w.toNat 0 5)).craneLog ch.val)) = u →
     u.craneState ch.val = 0 →
     exec (.craneKick src ch v) s = .next (State.follow
       (((u.putb (F.CRANE_C_STAT_KICK_PEND ch.val) true).setChan ch.val { phase := 1 }).craneTo ch.val 1) s)) ∧
  -- A kick of a channel that is not IDLE is kept in KICK_PEND.
  (∀ (s : State) (src : Source) (ch : Fin 16) (v : Word) (t : State) (u : State) (w : Word),
     s.on = true →
     s.touch src = t →
     fixBit v 28 = w →
     srcCrane src = false →
     s.opens src (0x150100 + 0x40 * ch.val) w = true →
     bitAt w.toNat 31 = false →
     bitAt w.toNat 30 = false →
     t.craneLoose ch.val = false →
     t.craneCtlFields ch.val (setBitsAt w.toNat 0 5 (t.craneLog ch.val)) = u →
     u.craneState ch.val ≠ 0 →
     exec (.craneKick src ch v) s = .next (State.follow (u.putb (F.CRANE_C_STAT_KICK_PEND ch.val) true) s)) ∧
  -- PAUSE of a running channel: URGENT and PAUSE take their bits and the channel goes to PAUSING.
  (∀ (s : State) (src : Source) (ch : Fin 16) (v : Word) (t : State),
     s.on = true →
     s.touch src = t →
     srcCrane src = false →
     s.opens src (0x150100 + 0x40 * ch.val) v = true →
     t.craneLoose ch.val = false →
     bitAt v.toNat 31 = false →
     bitAt v.toNat 28 = false →
     bitAt v.toNat 30 = false →
     exec (.cranePause src ch v) s = .next (State.follow (((t.putb (F.CRANE_C_CTL_URGENT ch.val) (bitAt v.toNat 27)).putb
       (F.CRANE_C_CTL_PAUSE ch.val) (bitAt v.toNat 29)).craneThr ch.val) s)) ∧
  -- STOP with a Manifest in progress: the channel goes to PAUSING with the stop asked for (R416).
  (∀ (s : State) (src : Source) (ch : Fin 16) (v : Word) (t : State) (u : State) (w : Word),
     s.on = true →
     s.touch src = t →
     fixBit v 30 = w →
     srcCrane src = false →
     s.opens src (0x150100 + 0x40 * ch.val) w = true →
     bitAt w.toNat 31 = false →
     bitAt w.toNat 28 = false →
     t.craneLoose ch.val = false →
     t.craneCtlFields ch.val (setBitsAt w.toNat 0 5 (t.craneLog ch.val)) = u →
     u.craneState ch.val ≠ 4 →
     ((u.chan ch.val).phase = 2 ∨ (u.chan ch.val).phase = 3) →
     u.craneState ch.val ≠ 3 →
     exec (.craneStop src ch v) s = .next (State.follow
       ((u.setChan ch.val { u.chan ch.val with stop := true }).craneTo ch.val 2) s)) ∧
  -- STOP with no Manifest in progress.
  (∀ (s : State) (src : Source) (ch : Fin 16) (v : Word) (t : State) (u : State) (w : Word),
     s.on = true →
     s.touch src = t →
     fixBit v 30 = w →
     srcCrane src = false →
     s.opens src (0x150100 + 0x40 * ch.val) w = true →
     bitAt w.toNat 31 = false →
     bitAt w.toNat 28 = false →
     t.craneLoose ch.val = false →
     t.craneCtlFields ch.val (setBitsAt w.toNat 0 5 (t.craneLog ch.val)) = u →
     u.craneState ch.val ≠ 4 →
     ((u.chan ch.val).phase ≠ 2 ∧ (u.chan ch.val).phase ≠ 3) →
     exec (.craneStop src ch v) s = .next (State.follow
       (((u.setChan ch.val {}).craneTo ch.val 4).put (F.CRANE_C_STAT_STOPC ch.val) 3) s)) ∧
  -- Outstanding accesses complete and the channel enters PAUSED or STOPPED (R415).
  (∀ (s : State) (ch : Fin 16),
     s.on = true →
     s.up domHOLD = true →
     s.craneState ch.val = 2 →
     (s.chan ch.val).await = [] →
     (s.chan ch.val).stop = false →
     exec (.cranePaused ch) s = .next (State.follow ((s.craneCur ch.val).craneTo ch.val 3) s)) ∧
  -- A STOP waits: the channel ends stopped.
  (∀ (s : State) (ch : Fin 16),
     s.on = true →
     s.up domHOLD = true →
     s.craneState ch.val = 2 →
     (s.chan ch.val).await = [] →
     (s.chan ch.val).stop = true →
     exec (.cranePaused ch) s = .next (State.follow (s.craneStopEnd ch.val) s)) ∧
  -- Writing CRANE.CNT_CLR clears every Cn_BAD (R402).
  (∀ (s : State) (src : Source) (v : Word) (t : State),
     s.on = true →
     s.touch src = t →
     s.opens src F.CRANE_CNT_CLR_CLR.addr (fixBit v 0) = true →
     exec (.craneCntClr src v) s = .next (State.follow
       (t.each (List.range 16) (fun u n => u.put (F.CRANE_C_BAD_COUNT n) 0)) s))

/-- Crane Manifests from fetch to write-back (R403, R404, R405, R407, R411, R412, R414). Commands: manifestFetch, craneCopy,
craneFill, craneCompare, craneLink, craneOpReserved, manifestWriteback, craneAccessTimeout, remoteAnswerTimeout. -/
def Obligations.CraneManifests : Prop :=
  -- A channel fetches the Manifest at HEAD, idling on OWN 0 (R403).
  (∀ (s : State) (ch : Fin 16) (a : Nat) (w : List Nat),
     s.on = true →
     s.up domHOLD = true →
     s.craneState ch.val = 1 →
     (s.chan ch.val).phase = 1 →
     s.craneAddr ch.val = a →
     s.manReads a = true →
     s.manWords a = w →
     bitAt (nth 0 w 0) 31 = true →
     exec (.manifestFetch ch) s = .next (State.follow
       ((((s.putb (F.CRANE_C_STAT_KICK_PEND ch.val) false).setChan ch.val { phase := 2, man := w }).putb
         (F.CRANE_C_STAT_DESC ch.val) false).craneCur ch.val) s)) ∧
  -- A Manifest that software owns: the channel is IDLE again.
  (∀ (s : State) (ch : Fin 16) (a : Nat) (w : List Nat),
     s.on = true →
     s.up domHOLD = true →
     s.craneState ch.val = 1 →
     (s.chan ch.val).phase = 1 →
     s.craneAddr ch.val = a →
     s.manReads a = true →
     s.manWords a = w →
     bitAt (nth 0 w 0) 31 = false →
     exec (.manifestFetch ch) s = .next (State.follow
       (((s.putb (F.CRANE_C_STAT_KICK_PEND ch.val) false).setChan ch.val {}).craneTo ch.val 0) s)) ∧
  -- A COPY in progress moves pieces and is settled (R404, R407).
  (∀ (s : State) (ch : Fin 16) (pieces : BitVec 22),
     s.on = true →
     s.craneActs ch.val 0 = true →
     (s.chan ch.val).begun = true →
     exec (.craneCopy ch pieces) s = .next (State.follow
       (((State.cranePieces pieces.toNat s ch).craneSettle ch.val).craneCur ch.val) s)) ∧
  -- A COPY that has not begun is checked and begins (R404, R405).
  (∀ (s : State) (ch : Fin 16) (pieces : BitVec 22),
     s.on = true →
     s.craneActs ch.val 0 = true →
     (s.chan ch.val).begun = false →
     exec (.craneCopy ch pieces) s = .next (State.follow
       (((State.cranePieces pieces.toNat (s.craneBegin ch.val) ch).craneSettle ch.val).craneCur ch.val) s)) ∧
  -- A FILL in progress moves pieces and is settled (R404).
  (∀ (s : State) (ch : Fin 16) (pieces : BitVec 22),
     s.on = true →
     s.craneActs ch.val 1 = true →
     (s.chan ch.val).begun = true →
     exec (.craneFill ch pieces) s = .next (State.follow
       (((State.cranePieces pieces.toNat s ch).craneSettle ch.val).craneCur ch.val) s)) ∧
  -- A FILL that has not begun is checked and begins (R404, R405).
  (∀ (s : State) (ch : Fin 16) (pieces : BitVec 22),
     s.on = true →
     s.craneActs ch.val 1 = true →
     (s.chan ch.val).begun = false →
     exec (.craneFill ch pieces) s = .next (State.follow
       (((State.cranePieces pieces.toNat (s.craneBegin ch.val) ch).craneSettle ch.val).craneCur ch.val) s)) ∧
  -- A COMPARE in progress compares pieces and is settled (R404).
  (∀ (s : State) (ch : Fin 16) (pieces : BitVec 22),
     s.on = true →
     s.craneActs ch.val 2 = true →
     (s.chan ch.val).begun = true →
     exec (.craneCompare ch pieces) s = .next (State.follow
       (((State.cranePieces pieces.toNat s ch).craneSettle ch.val).craneCur ch.val) s)) ∧
  -- A COMPARE that has not begun is checked and begins (R404, R405).
  (∀ (s : State) (ch : Fin 16) (pieces : BitVec 22),
     s.on = true →
     s.craneActs ch.val 2 = true →
     (s.chan ch.val).begun = false →
     exec (.craneCompare ch pieces) s = .next (State.follow
       (((State.cranePieces pieces.toNat (s.craneBegin ch.val) ch).craneSettle ch.val).craneCur ch.val) s)) ∧
  -- A LINK ends its Manifest: a ninth in a row, a broken word or a bad ring is its cause (R412).
  (∀ (s : State) (ch : Fin 16) (x : Chan) (k : Nat),
     s.on = true →
     s.craneActs ch.val 3 = true →
     s.chan ch.val = x →
     s.get (F.CRANE_C_STAT_LINKS ch.val) + 1 = k →
     exec (.craneLink ch) s = .next (State.follow ((s.put (F.CRANE_C_STAT_LINKS ch.val) k).setChan ch.val { x with
       begun := true, moved := x.len, phase := 3
       cause := if 9 ≤ k then 8 else if !x.reservedZero || decide (32 ≤ x.len) then 2 else if !ringGood x.src x.len then 3 else 0 })
       s)) ∧
  -- A Manifest with a reserved OP is marked PROG and moves no data (R405).
  (∀ (s : State) (ch : Fin 16),
     s.on = true →
     s.up domHOLD = true →
     s.craneState ch.val = 1 →
     (s.chan ch.val).phase = 2 →
     4 ≤ (s.chan ch.val).op →
     exec (.craneOpReserved ch) s = .next (State.follow
       (s.setChan ch.val { s.chan ch.val with begun := true, cause := 2, phase := 3 }) s)) ∧
  -- A Manifest that is no LINK: its results, its count, and HEAD goes on.
  (∀ (s : State) (ch : Fin 16),
     s.on = true →
     s.up domHOLD = true →
     s.craneState ch.val = 1 →
     (s.chan ch.val).phase = 3 →
     (s.chan ch.val).op ≠ 3 →
     (s.chan ch.val).cause ≠ 8 →
     exec (.manifestWriteback ch) s = .next (State.follow
       (((((s.manStore ch.val).manCount ch.val)).headNext ch.val).setChan ch.val { phase := 1 }) s)) ∧
  -- A good LINK: the channel goes on at the head of the new ring.
  (∀ (s : State) (ch : Fin 16) (x : Chan),
     s.on = true →
     s.up domHOLD = true →
     s.craneState ch.val = 1 →
     s.chan ch.val = x →
     x.phase = 3 →
     x.op = 3 →
     x.cause = 0 →
     exec (.manifestWriteback ch) s = .next (State.follow ((((((((s.manStore ch.val).manCount ch.val)).put
       (F.CRANE_C_BASE_LO_BASE ch.val) (x.src % 2 ^ 32)).put (F.CRANE_C_BASE_HI_BASE ch.val) (x.src / 2 ^ 32)).put
       (F.CRANE_C_CTL_LOG_SIZE ch.val) (x.len % 32)).put (F.CRANE_C_HEAD_HEAD ch.val) 0).setChan ch.val { phase := 1 }) s)) ∧
  -- The fetch or write-back in progress had no response: the channel stops with FETCH_ERR.
  (∀ (s : State) (ch : Fin 16),
     s.on = true →
     s.up domHOLD = true →
     (s.craneState ch.val = 1 ∨ s.craneState ch.val = 2) →
     ((s.chan ch.val).phase = 1 ∨ (s.chan ch.val).phase = 3) →
     exec (.craneAccessTimeout ch) s = .next (State.follow
       ((((s.setChan ch.val {}).craneTo ch.val 4).put (F.CRANE_C_STAT_STOPC ch.val) 1).raise 0x1503 ch.val) s)) ∧
  -- A remote write without answer within REM_US marks the Manifest NORESP (R414).
  (∀ (s : State) (ch : Fin 16) (k : Nat) (lim : Nat) (rest : List (Nat × Nat)) (t : State),
     s.on = true →
     s.up domHOLD = true →
     (s.chan ch.val).await = (k, lim) :: rest →
     s.elapseTo lim = t →
     exec (.remoteAnswerTimeout ch) s = .next (State.follow
       (((t.setChan ch.val { t.chan ch.val with await := rest }).remoteFail ch.val k 4).craneSettle ch.val) s))

/-- Temperature measurements, the throttle ladder and SYN_CLR (R420, R421, R422, R423, R425, R426, R430, R437). Commands:
thermMeasureStart, thermDemand, thermMeasureDone, ladderEscalate, ladderDescend, synClr. -/
def Obligations.ThermalMeasurementsAndLadder : Prop :=
  -- The scheduled measurement starts and the next is due a period later (R421).
  (∀ (s : State) (t : State),
     s.on = true →
     s.therm.first = 0 →
     s.elapseTo s.therm.due = t →
     t.therm.running = none →
     exec .thermMeasureStart s = .next (State.follow (State.thermRun { t with therm := { t.therm with
       due := t.therm.due + t.thermPeriod } } false) s)) ∧
  -- One of the first four measurements, back to back (R430).
  (∀ (s : State),
     s.on = true →
     s.therm.first ≠ 0 →
     s.therm.running = none →
     exec .thermMeasureStart s = .next (State.follow s.thermNext s)) ∧
  -- Writing THERM.CTL.DEMAND starts a measurement unless one runs (R421).
  (∀ (s : State) (src : Source) (v : Word) (t : State) (w : Word),
     s.on = true →
     s.touch src = t →
     fixBit v 31 = w →
     s.opens src F.THERM_CTL_DEMAND.addr w = true →
     (t.plain F.THERM_CTL_DEMAND.addr w.toNat).therm.running = none →
     exec (.thermDemand src v) s = .next (State.follow ((t.plain F.THERM_CTL_DEMAND.addr w.toNat).thermRun true) s)) ∧
  -- A measurement completes: sensors judged, T_J formed, thresholds and NVM_OK counted (R425).
  (∀ (s : State) (l : List (BitVec 16 × BitVec 12)) (e : Nat) (b : Bool) (t : State) (r : List (Nat × Int)) (vals : List Int) (tj
     : Int) (hot : Nat),
     s.on = true →
     s.therm.running = some (e, b) →
     s.elapseTo e = t →
     l.map (fun x => (x.1.toNat, x.2.toInt)) = r →
     (List.range 24).all (fun i => t.sensorOut i) = false →
     (List.range 24).map (t.sensorValue r 0) = vals →
     hottest (vals.drop 1) 1 (nth 0 vals 0, 0) = (tj, hot) →
     exec (.thermMeasureDone l) s = .next (
       let s2 := t.each (List.range 24) (fun u i => u.sensorTake t r i (nth 0 vals i))
       let s3 := ((((s2.puti F.THERM_STAT_TJ tj).put F.THERM_STAT_HOT hot).incWrap F.THERM_MEAS_CNT_COUNT).sensorCount).regrade 7
       let s4 := (s3.nvmStep tj).thresholds tj
       State.follow (State.thermNext { s4 with therm := { s4.therm with running := none } }) s)) ∧
  -- ESC_MS expiring while THROTTLE holds raises L_th by one (R426).
  (∀ (s : State) (a : Nat) (t : State),
     s.on = true →
     s.therm.esc = some a →
     s.elapseTo a = t →
     exec .ladderEscalate s = .next (State.follow (State.ladderTo
       { t with therm := { t.therm with esc := some (t.aon + t.escTime) } }
       (if t.get F.THERM_STAT_L_TH < 3 then t.get F.THERM_STAT_L_TH + 1 else 3)) s)) ∧
  -- DESC_MS expiring while THROTTLE stays clear lowers L_th by one (R426).
  (∀ (s : State) (a : Nat) (t : State),
     s.on = true →
     s.therm.desc = some a →
     s.elapseTo a = t →
     exec .ladderDescend s = .next (
       let l := t.get F.THERM_STAT_L_TH - 1
       State.follow (State.ladderTo { t with therm := { t.therm with desc := if l = 0 then none else some (t.aon + t.descTime) } } l)
         s)) ∧
  -- Writing RSV.SYN_CLR clears FAILED and RECENT of the named synthesisers (R437).
  (∀ (s : State) (src : Source) (v : Word) (t : State),
     s.on = true →
     s.touch src = t →
     s.opens src F.RSV_SYN_CLR_SYN.addr v = true →
     exec (.synClr src v) s = .next (State.follow (t.synClear (v.toNat % 4)) s))

/-- Pilot: policy, tuner, mailbox commands and telemetry (R238, R439, R443, R456, R457, R458, R459, R460). Commands:
pilotPolicyAction, tunerSteerTick, pilotReady, pilotWatchdogExpiry, mbxVersion, mbxHealth, mbxTelemSet, mbxLogFind, mbxTune,
mbxCalPolicy, mbxPolicy, mbxRetire, mbxRestore, mbxResolve, mbxSlipway, mbxPilotReset, mbxUnknown, mbxResponseComplete,
telemSnapshot. -/
def Obligations.PilotAndMailboxes : Prop :=
  -- Pilot runs and the row is enabled: it acts as the row says (R439).
  (∀ (s : State) (row : Fin 14) (unit : Byte) (again : Bool),
     s.on = true →
     s.pilotServes = true →
     (11 ≤ row.val ∨ bitAt s.rsv.policy row.val = true) →
     exec (.pilotPolicyAction row unit again) s = .next (State.follow (s.policy row.val unit.toNat again) s)) ∧
  -- Row 0: a degraded receive path is retired, with its advisory (R439).
  (∀ (s : State) (unit : Byte) (again : Bool) (p : Nat),
     s.on = true →
     s.pilotServes = true →
     bitAt s.rsv.policy 0 = true →
     unitPath unit.toNat = p →
     s.flag (F.RXA_P_STAT_DEGRADED p) = true →
     exec (.pilotPolicyAction 0 unit again) s = .next (State.follow (s.pilotRetire p 0x0407) s)) ∧
  -- A row that the policy does not enable does nothing (R439).
  (∀ (s : State) (row : Fin 14) (unit : Byte) (again : Bool),
     s.on = true →
     row.val < 11 →
     bitAt s.rsv.policy row.val = false →
     exec (.pilotPolicyAction row unit again) s = .next (State.follow s s)) ∧
  -- A trial of one code (tuner steering).
  (∀ (s : State) (p : Fin 64) (m : Fin 32) (code : Byte) (t : State),
     s.on = true →
     s.pilotServes = true →
     s.hasPath p.val = true →
     bitAt s.rsv.unsteered p.val = false →
     sparseFind s.rsv.tries p.val = none →
     s.flag (F.FEND_TUNE_EN m.val) = true →
     s.get (F.FEND_TUNE_MASTER m.val) = p.val / 8 →
     code.toNat < 255 →
     s.tuneWrite m.val (code.toNat + 1) = t →
     s.trswLow (p.val / 8) ≠ none →
     t.get (F.FEND_RF_STAT_RESULT (p.val / 8)) = rfOK →
     exec (.tunerSteerTick p m code true) s = .next (State.follow { t with rsv := { t.rsv with
       tries := sparseInsert t.rsv.tries p.val ⟨m.val, code.toNat, code.toNat + 1, s.returnLoss p.val⟩ } } s)) ∧
  -- A trial is judged: kept where the return loss has improved by 0.5 dB, else taken back.
  (∀ (s : State) (p : Fin 64) (m : Fin 32) (code : Byte) (up : Bool) (x : TuneTry) (t : State),
     s.on = true →
     s.pilotServes = true →
     s.hasPath p.val = true →
     bitAt s.rsv.unsteered p.val = false →
     sparseFind s.rsv.tries p.val = some x →
     ({ s with rsv := { s.rsv with tries := sparseErase s.rsv.tries p.val } } : State) = t →
     exec (.tunerSteerTick p m code up) s = .next (State.follow (if x.loss + 50 ≤ s.returnLoss p.val then
       { t with rsv := { t.rsv with kept := t.rsv.kept + 1 } } else t.tuneWrite x.entry x.old) s)) ∧
  -- Pilot, started from PILOTFW at a raise, sets READY within 50 ms (R456).
  (∀ (s : State) (t : State),
     s.on = true →
     s.up domPILOT = true →
     s.rsv.starting = true →
     ({ s with rsv := { s.rsv with starting := false, lastSnap := s.aon } } : State) = t →
     exec .pilotReady s = .next (State.follow (((t.putb F.PILOT_STAT_READY true).put F.PILOT_FW_VER_VERSION
       (Config.pilotVersion t.boot.store.pilotFw % 2 ^ 32)).raise 0x1801 0) s)) ∧
  -- A missed 100 ms watchdog service resets the PILOT domain, aborting commands (R457).
  (∀ (s : State),
     s.on = true →
     s.up domPILOT = true →
     (s.flag F.PILOT_STAT_READY = true ∨ s.rsv.starting = true) →
     exec .pilotWatchdogExpiry s = .next (State.follow (s.pilotRestart true none) s)) ∧
  -- VERSION: the firmware's version and build, and the interface 1 (R458).
  (∀ (s : State) (src : Source) (p : Fin 4) (tag : Byte) (args : List Word) (u : State) (t : State) (b : State) (x : State) (r :
     MbxRun) (n : Nat),
     s.on = true →
     (args.take 16).zipIdx.foldl (fun t e => t.busWrite src (0x180040 + 0x200 * p.val + 4 * e.2) e.1) s = u →
     u.touch src = t →
     u.opens src (F.PILOT_MB_CMD_GO p.val).addr (mailWord 0x01 tag.toNat) = true →
     t.up domPILOT = true →
     t.flag (F.PILOT_MB_STAT_BUSY p.val) = false →
     (t.putb (F.PILOT_MB_STAT_DONE p.val) false).putb (F.PILOT_MB_STAT_BUSY p.val) true = b →
     MbxRun.mk 0x01 tag.toNat (b.portLevel p.val) ((List.range 16).map (fun j => b.get (F.PILOT_MB_ARG_WORD p.val j))) 0 [] false = r →
     b.setMailRun p.val r = x →
     x.pilotServes = true →
     0 ≤ r.level →
     Config.pilotBuild x.boot.store.pilotFw = n →
     exec (.mbxVersion src p tag args) s = .next (State.follow (State.setMailRun x p.val
       { r with taken := true, result := 0, rsp := [x.get F.PILOT_FW_VER_VERSION, n % 2 ^ 32, n / 2 ^ 32 % 2 ^ 32, 1] }) s)) ∧
  -- HEALTH: RSV.STAT, RSV.COMMIT, THERM.STAT, PWR.STATE and the policy (R458).
  (∀ (s : State) (src : Source) (p : Fin 4) (tag : Byte) (args : List Word) (u : State) (t : State) (b : State) (x : State) (r :
     MbxRun),
     s.on = true →
     (args.take 16).zipIdx.foldl (fun t e => t.busWrite src (0x180040 + 0x200 * p.val + 4 * e.2) e.1) s = u →
     u.touch src = t →
     u.opens src (F.PILOT_MB_CMD_GO p.val).addr (mailWord 0x02 tag.toNat) = true →
     t.up domPILOT = true →
     t.flag (F.PILOT_MB_STAT_BUSY p.val) = false →
     (t.putb (F.PILOT_MB_STAT_DONE p.val) false).putb (F.PILOT_MB_STAT_BUSY p.val) true = b →
     MbxRun.mk 0x02 tag.toNat (b.portLevel p.val) ((List.range 16).map (fun j => b.get (F.PILOT_MB_ARG_WORD p.val j))) 0 [] false = r →
     b.setMailRun p.val r = x →
     x.pilotServes = true →
     1 ≤ r.level →
     exec (.mbxHealth src p tag args) s = .next (State.follow (State.setMailRun x p.val
       { r with taken := true, result := 0, rsp := [(x.word 0x170000).toNat, (x.word 0x17001C).toNat, (x.word 0x160008).toNat, (x.word 0x10000).toNat, x.rsv.policy] }) s)) ∧
  -- TELEM_SET with legal arguments sets the period, the target and the depth (R460).
  (∀ (s : State) (src : Source) (p : Fin 4) (tag : Byte) (args : List Word) (u : State) (t : State) (b : State) (x : State) (r :
     MbxRun),
     s.on = true →
     (args.take 16).zipIdx.foldl (fun t e => t.busWrite src (0x180040 + 0x200 * p.val + 4 * e.2) e.1) s = u →
     u.touch src = t →
     u.opens src (F.PILOT_MB_CMD_GO p.val).addr (mailWord 0x03 tag.toNat) = true →
     t.up domPILOT = true →
     t.flag (F.PILOT_MB_STAT_BUSY p.val) = false →
     (t.putb (F.PILOT_MB_STAT_DONE p.val) false).putb (F.PILOT_MB_STAT_BUSY p.val) true = b →
     MbxRun.mk 0x03 tag.toNat (b.portLevel p.val) ((List.range 16).map (fun j => b.get (F.PILOT_MB_ARG_WORD p.val j))) 0 [] false = r →
     b.setMailRun p.val r = x →
     x.pilotServes = true →
     1 ≤ r.level →
     ((r.arg 0 = 0 ∨ (100 ≤ r.arg 0 ∧ r.arg 0 ≤ 60000)) ∧ 1 ≤ r.arg 3 ∧ r.arg 3 ≤ 256) →
     exec (.mbxTelemSet src p tag args) s = .next (State.follow (State.setMailRun ({ x with rsv := { x.rsv with
         period := r.arg 0, push := (r.arg 1 + 2 ^ 32 * r.arg 2) % 2 ^ 48, depth := r.arg 3, lastSnap := x.aon } } : State) p.val
       { r with taken := true, result := 0, rsp := [] }) s)) ∧
  -- LOG_FIND: the lowest sequence number that fits (R458).
  (∀ (s : State) (src : Source) (p : Fin 4) (tag : Byte) (args : List Word) (u : State) (t : State) (b : State) (x : State) (r :
     MbxRun) (hits : List TallyRec),
     s.on = true →
     (args.take 16).zipIdx.foldl (fun t e => t.busWrite src (0x180040 + 0x200 * p.val + 4 * e.2) e.1) s = u →
     u.touch src = t →
     u.opens src (F.PILOT_MB_CMD_GO p.val).addr (mailWord 0x04 tag.toNat) = true →
     t.up domPILOT = true →
     t.flag (F.PILOT_MB_STAT_BUSY p.val) = false →
     (t.putb (F.PILOT_MB_STAT_DONE p.val) false).putb (F.PILOT_MB_STAT_BUSY p.val) true = b →
     MbxRun.mk 0x04 tag.toNat (b.portLevel p.val) ((List.range 16).map (fun j => b.get (F.PILOT_MB_ARG_WORD p.val j))) 0 [] false = r →
     b.setMailRun p.val r = x →
     x.pilotServes = true →
     1 ≤ r.level →
     x.tally.recs.filter (fun y => y.committed && decide (r.arg 0 ≤ y.seq) && decide (r.arg 1 % 65536 ≤ y.code ∧ y.code ≤ r.arg 1 / 65536)) = hits →
     exec (.mbxLogFind src p tag args) s = .next (State.follow (State.setMailRun x p.val
       { r with taken := true, result := 0, rsp := [minOf 0xFFFFFFFF (hits.map (fun y => y.seq))] }) s)) ∧
  -- TUNE is taken up; it answers at its end (R458).
  (∀ (s : State) (src : Source) (p : Fin 4) (tag : Byte) (args : List Word) (u : State) (t : State) (b : State) (x : State) (r :
     MbxRun),
     s.on = true →
     (args.take 16).zipIdx.foldl (fun t e => t.busWrite src (0x180040 + 0x200 * p.val + 4 * e.2) e.1) s = u →
     u.touch src = t →
     u.opens src (F.PILOT_MB_CMD_GO p.val).addr (mailWord 0x10 tag.toNat) = true →
     t.up domPILOT = true →
     t.flag (F.PILOT_MB_STAT_BUSY p.val) = false →
     (t.putb (F.PILOT_MB_STAT_DONE p.val) false).putb (F.PILOT_MB_STAT_BUSY p.val) true = b →
     MbxRun.mk 0x10 tag.toNat (b.portLevel p.val) ((List.range 16).map (fun j => b.get (F.PILOT_MB_ARG_WORD p.val j))) 0 [] false = r →
     b.setMailRun p.val r = x →
     x.pilotServes = true →
     1 ≤ r.level →
     exec (.mbxTune src p tag args) s = .next (State.follow (State.setMailRun x p.val
       { r with taken := true, result := 0, rsp := [] }) s)) ∧
  -- CAL_POLICY is set (R458).
  (∀ (s : State) (src : Source) (p : Fin 4) (tag : Byte) (args : List Word) (u : State) (t : State) (b : State) (x : State) (r :
     MbxRun),
     s.on = true →
     (args.take 16).zipIdx.foldl (fun t e => t.busWrite src (0x180040 + 0x200 * p.val + 4 * e.2) e.1) s = u →
     u.touch src = t →
     u.opens src (F.PILOT_MB_CMD_GO p.val).addr (mailWord 0x11 tag.toNat) = true →
     t.up domPILOT = true →
     t.flag (F.PILOT_MB_STAT_BUSY p.val) = false →
     (t.putb (F.PILOT_MB_STAT_DONE p.val) false).putb (F.PILOT_MB_STAT_BUSY p.val) true = b →
     MbxRun.mk 0x11 tag.toNat (b.portLevel p.val) ((List.range 16).map (fun j => b.get (F.PILOT_MB_ARG_WORD p.val j))) 0 [] false = r →
     b.setMailRun p.val r = x →
     x.pilotServes = true →
     1 ≤ r.level →
     exec (.mbxCalPolicy src p tag args) s = .next (State.follow (State.setMailRun ({ x with rsv := { x.rsv with calPolicy := r.arg 0 % 2 ^ 17 } } : State) p.val
       { r with taken := true, result := 0, rsp := [] }) s)) ∧
  -- POLICY is set, the old one returned (R458, R439).
  (∀ (s : State) (src : Source) (p : Fin 4) (tag : Byte) (args : List Word) (u : State) (t : State) (b : State) (x : State) (r :
     MbxRun),
     s.on = true →
     (args.take 16).zipIdx.foldl (fun t e => t.busWrite src (0x180040 + 0x200 * p.val + 4 * e.2) e.1) s = u →
     u.touch src = t →
     u.opens src (F.PILOT_MB_CMD_GO p.val).addr (mailWord 0x20 tag.toNat) = true →
     t.up domPILOT = true →
     t.flag (F.PILOT_MB_STAT_BUSY p.val) = false →
     (t.putb (F.PILOT_MB_STAT_DONE p.val) false).putb (F.PILOT_MB_STAT_BUSY p.val) true = b →
     MbxRun.mk 0x20 tag.toNat (b.portLevel p.val) ((List.range 16).map (fun j => b.get (F.PILOT_MB_ARG_WORD p.val j))) 0 [] false = r →
     b.setMailRun p.val r = x →
     x.pilotServes = true →
     2 ≤ r.level →
     exec (.mbxPolicy src p tag args) s = .next (State.follow (State.setMailRun ({ x with rsv := { x.rsv with policy := r.arg 0 % 2 ^ 11 } } : State) p.val
       { r with taken := true, result := 0, rsp := [x.rsv.policy] }) s)) ∧
  -- RETIRE of a present path (R458, R238).
  (∀ (s : State) (src : Source) (p : Fin 4) (tag : Byte) (args : List Word) (u : State) (t : State) (b : State) (x : State) (r :
     MbxRun),
     s.on = true →
     (args.take 16).zipIdx.foldl (fun t e => t.busWrite src (0x180040 + 0x200 * p.val + 4 * e.2) e.1) s = u →
     u.touch src = t →
     u.opens src (F.PILOT_MB_CMD_GO p.val).addr (mailWord 0x21 tag.toNat) = true →
     t.up domPILOT = true →
     t.flag (F.PILOT_MB_STAT_BUSY p.val) = false →
     (t.putb (F.PILOT_MB_STAT_DONE p.val) false).putb (F.PILOT_MB_STAT_BUSY p.val) true = b →
     MbxRun.mk 0x21 tag.toNat (b.portLevel p.val) ((List.range 16).map (fun j => b.get (F.PILOT_MB_ARG_WORD p.val j))) 0 [] false = r →
     b.setMailRun p.val r = x →
     x.pilotServes = true →
     2 ≤ r.level →
     x.hasPath (r.arg 0 % 64) = true →
     exec (.mbxRetire src p tag args) s = .next (State.follow (State.setMailRun (x.pilotRetire (r.arg 0 % 256) 0) p.val
       { r with taken := true, result := 0, rsp := [] }) s)) ∧
  -- RESTORE of a retired path: it is used again and the berth calibration of its direction asked for (R458).
  (∀ (s : State) (src : Source) (p : Fin 4) (tag : Byte) (args : List Word) (u : State) (t : State) (b : State) (x : State) (r :
     MbxRun) (q : Nat),
     s.on = true →
     (args.take 16).zipIdx.foldl (fun t e => t.busWrite src (0x180040 + 0x200 * p.val + 4 * e.2) e.1) s = u →
     u.touch src = t →
     u.opens src (F.PILOT_MB_CMD_GO p.val).addr (mailWord 0x22 tag.toNat) = true →
     t.up domPILOT = true →
     t.flag (F.PILOT_MB_STAT_BUSY p.val) = false →
     (t.putb (F.PILOT_MB_STAT_DONE p.val) false).putb (F.PILOT_MB_STAT_BUSY p.val) true = b →
     MbxRun.mk 0x22 tag.toNat (b.portLevel p.val) ((List.range 16).map (fun j => b.get (F.PILOT_MB_ARG_WORD p.val j))) 0 [] false = r →
     b.setMailRun p.val r = x →
     x.pilotServes = true →
     2 ≤ r.level →
     r.arg 0 % 256 = q →
     x.hasPath (q % 64) = true →
     x.unitRetired q = true →
     exec (.mbxRestore src p tag args) s = .next (State.follow (State.setMailRun (((x.setRetired q false).advisePath 0x1782 q 0 0).bcalReq (if unitTx q then 1 else 2)) p.val
       { r with taken := true, result := 0, rsp := [] }) s)) ∧
  -- RESOLVE is taken up; the weights are solved by its end (R458, R238).
  (∀ (s : State) (src : Source) (p : Fin 4) (tag : Byte) (args : List Word) (u : State) (t : State) (b : State) (x : State) (r :
     MbxRun),
     s.on = true →
     (args.take 16).zipIdx.foldl (fun t e => t.busWrite src (0x180040 + 0x200 * p.val + 4 * e.2) e.1) s = u →
     u.touch src = t →
     u.opens src (F.PILOT_MB_CMD_GO p.val).addr (mailWord 0x23 tag.toNat) = true →
     t.up domPILOT = true →
     t.flag (F.PILOT_MB_STAT_BUSY p.val) = false →
     (t.putb (F.PILOT_MB_STAT_DONE p.val) false).putb (F.PILOT_MB_STAT_BUSY p.val) true = b →
     MbxRun.mk 0x23 tag.toNat (b.portLevel p.val) ((List.range 16).map (fun j => b.get (F.PILOT_MB_ARG_WORD p.val j))) 0 [] false = r →
     b.setMailRun p.val r = x →
     x.pilotServes = true →
     2 ≤ r.level →
     exec (.mbxResolve src p tag args) s = .next (State.follow (State.setMailRun x p.val
       { r with taken := true, result := 0, rsp := [] }) s)) ∧
  -- SLIPWAY with a legal range is taken up (R458).
  (∀ (s : State) (src : Source) (p : Fin 4) (tag : Byte) (args : List Word) (u : State) (t : State) (b : State) (x : State) (r :
     MbxRun),
     s.on = true →
     (args.take 16).zipIdx.foldl (fun t e => t.busWrite src (0x180040 + 0x200 * p.val + 4 * e.2) e.1) s = u →
     u.touch src = t →
     u.opens src (F.PILOT_MB_CMD_GO p.val).addr (mailWord 0x30 tag.toNat) = true →
     t.up domPILOT = true →
     t.flag (F.PILOT_MB_STAT_BUSY p.val) = false →
     (t.putb (F.PILOT_MB_STAT_DONE p.val) false).putb (F.PILOT_MB_STAT_BUSY p.val) true = b →
     MbxRun.mk 0x30 tag.toNat (b.portLevel p.val) ((List.range 16).map (fun j => b.get (F.PILOT_MB_ARG_WORD p.val j))) 0 [] false = r →
     b.setMailRun p.val r = x →
     x.pilotServes = true →
     2 ≤ r.level →
     x.slipArgs r = true →
     exec (.mbxSlipway src p tag args) s = .next (State.follow (State.setMailRun x p.val
       { r with taken := true, result := 0, rsp := [] }) s)) ∧
  -- PILOT_RESET restarts Pilot; its own command leaves no response (R458, R457).
  (∀ (s : State) (src : Source) (p : Fin 4) (tag : Byte) (args : List Word) (u : State) (t : State) (b : State) (x : State) (r :
     MbxRun),
     s.on = true →
     (args.take 16).zipIdx.foldl (fun t e => t.busWrite src (0x180040 + 0x200 * p.val + 4 * e.2) e.1) s = u →
     u.touch src = t →
     u.opens src (F.PILOT_MB_CMD_GO p.val).addr (mailWord 0x3F tag.toNat) = true →
     t.up domPILOT = true →
     t.flag (F.PILOT_MB_STAT_BUSY p.val) = false →
     (t.putb (F.PILOT_MB_STAT_DONE p.val) false).putb (F.PILOT_MB_STAT_BUSY p.val) true = b →
     MbxRun.mk 0x3F tag.toNat (b.portLevel p.val) ((List.range 16).map (fun j => b.get (F.PILOT_MB_ARG_WORD p.val j))) 0 [] false = r →
     b.setMailRun p.val r = x →
     x.pilotServes = true →
     2 ≤ r.level →
     exec (.mbxPilotReset src p tag args) s = .next (State.follow (x.pilotRestart false (some p.val)) s)) ∧
  -- An unknown operation, or one above the port's level, ends UNKNOWN and counts a violation (R458).
  (∀ (s : State) (src : Source) (p : Fin 4) (opc : Byte) (tag : Byte) (args : List Word) (u : State) (t : State) (b : State) (x :
     State) (r : MbxRun),
     s.on = true →
     (args.take 16).zipIdx.foldl (fun t e => t.busWrite src (0x180040 + 0x200 * p.val + 4 * e.2) e.1) s = u →
     u.touch src = t →
     u.opens src (F.PILOT_MB_CMD_GO p.val).addr (mailWord opc.toNat tag.toNat) = true →
     t.up domPILOT = true →
     t.flag (F.PILOT_MB_STAT_BUSY p.val) = false →
     (t.putb (F.PILOT_MB_STAT_DONE p.val) false).putb (F.PILOT_MB_STAT_BUSY p.val) true = b →
     MbxRun.mk opc.toNat tag.toNat (b.portLevel p.val) ((List.range 16).map (fun j => b.get (F.PILOT_MB_ARG_WORD p.val j))) 0 []
 false = r →
     b.setMailRun p.val r = x →
     x.pilotServes = true →
     (∀ l, mailLevel opc.toNat = some l → r.level < l) →
     exec (.mbxUnknown src p opc tag args) s = .next (State.follow ((x.violation p.val (0x180000 + 0x200 * p.val) true).setMailRun p.val
       { r with taken := true, result := 1 }) s)) ∧
  -- The response to a command that Pilot has taken up: what the command has done by its end, then RSP, RESULT, TAG, SEQ, RMAC and
  -- DONE (R458, R459).
  (∀ (s : State) (p : Fin 4) (fail : Option (BitVec 14 × Fin 8)) (r : MbxRun) (res : Nat) (rsp : List Nat) (t : State),
     s.on = true →
     s.pilotServes = true →
     s.mailRun p.val = some r →
     r.taken = true →
     s.mailClose r (fail.map (fun e => (e.1.toNat, e.2.val))) = (res, rsp, t) →
     exec (.mbxResponseComplete p fail) s = .next (State.follow (t.mailEnd p.val r.tag res rsp) s)) ∧
  -- A snapshot falls due (R460).
  (∀ (s : State) (t : State) (u : State),
     s.on = true →
     s.pilotServes = true →
     s.rsv.period ≠ 0 →
     s.elapseTo (s.rsv.lastSnap + msU s.rsv.period) = t →
     ({ t with rsv := { t.rsv with
 latest := t.snapshot, snap := (t.rsv.snap + 1) % 2 ^ 32, lastSnap := t.aon, muted := t.mutedTotal, uncorr := t.uncorrTotal } } :
   State) = u →
     exec .telemSnapshot s = .next (State.follow ((((u.putb F.PILOT_TELEM_STAT_VALID true).putb F.PILOT_TELEM_STAT_NEW true).put
       F.PILOT_TELEM_STAT_SEQ (t.rsv.snap % 2 ^ 28)).snapshotPush t.rsv.snap t.snapshot) s))

/-- Sessions, locks, zeroise, fuses and the debug state (R452, R453, R454, R455, R461, R463, R465, R466). Commands: sessionGo,
sessionVerify, sessionClose, sessionReqMulti, sessionTimeout, lockExpiry, lockClr, zeroise, fuseProgram, fuseProg,
dbgReqOff, dbgReqObserve, dbgReqIntrusive, dbgIntrusiveEnter. -/
def Obligations.SessionsFusesAndDebugState : Prop :=
  -- GO on a port that is neither locked nor held off, for a level with a key: 32 fresh bytes are the challenge (R452).
  (∀ (s : State) (src : Source) (p : Fin 4) (v : Word) (level : Nat) (ds : List Nat) (t : State) (u : State) (x : State) (w :
     Word),
     s.on = true →
     s.touch src = t →
     sesWord v 4 = w →
     s.opens src (F.SEC_P_REQ_GO p.val).addr w = true →
     w.toNat % 4 = level →
     t.put (F.SEC_P_REQ_LEVEL p.val) level = u →
     u.lockedNow p.val = false →
     u.heldOff p.val = false →
     u.levelKey level ≠ none →
     State.drawMany 32 u = (ds, x) →
     exec (.sessionGo src p v) s = .next (State.follow (((x.setWordsBytes (chalAddr p.val) (ds.map (fun d => BitVec.ofNat 8 d))).setSecPort
       p.val { x.secPort p.val with chal := some x.aon, want := level }).portResult p.val 0) s)) ∧
  -- A locked port answers 2, one held off 1, a level without a key 3 (R452, R454).
  (∀ (s : State) (src : Source) (p : Fin 4) (v : Word) (level : Nat) (t : State) (u : State) (w : Word),
     s.on = true →
     s.touch src = t →
     sesWord v 4 = w →
     s.opens src (F.SEC_P_REQ_GO p.val).addr w = true →
     w.toNat % 4 = level →
     t.put (F.SEC_P_REQ_LEVEL p.val) level = u →
     (u.lockedNow p.val = true ∨ u.heldOff p.val = true ∨ u.levelKey level = none) →
     exec (.sessionGo src p v) s = .next (State.follow (u.portResult p.val
       (if u.lockedNow p.val then 2 else if u.heldOff p.val then 1 else 3)) s)) ∧
  -- The right response within 10 s opens the session with a key of its own (R452).
  (∀ (s : State) (src : Source) (p : Fin 4) (v : Word) (a : Nat) (t : State) (u : State) (y : SecPort) (w : Word) (x : State) (key
     : List Byte),
     s.on = true →
     s.touch src = t →
     sesWord v 2 = w →
     s.opens src (F.SEC_P_REQ_GO p.val).addr w = true →
     t.put (F.SEC_P_REQ_LEVEL p.val) (w.toNat % 4) = u →
     u.secPort p.val = y →
     y.chal = some a →
     u.aon ≤ a + sU 10 →
     u.wordsBytes (respAddr p.val) 8 = u.sesExpect p.val y.want →
     u.setSecPort p.val { y with chal := none } = x →
     hmac256 ((u.levelKey y.want).getD (List.replicate 32 0)) (u.wordsBytes (chalAddr p.val) 8 ++ [0x53]) = key →
     exec (.sessionVerify src p v) s = .next (State.follow ((((((x.setSecPort p.val
       { y with chal := none, key := some key, last := u.aon, holdUntil := none }).setPortLevel p.val y.want).put
         (F.SEC_P_STAT_FAILS p.val) 0).portResult p.val 0).raise 0x1901 (p.val + 256 * y.want))) s)) ∧
  -- A response that does not fit fails: FAILS counts, and the port is held off, or locked at the eighth (R452, R454).
  (∀ (s : State) (src : Source) (p : Fin 4) (v : Word) (a : Nat) (t : State) (u : State) (y : SecPort) (w : Word) (x : State),
     s.on = true →
     s.touch src = t →
     sesWord v 2 = w →
     s.opens src (F.SEC_P_REQ_GO p.val).addr w = true →
     t.put (F.SEC_P_REQ_LEVEL p.val) (w.toNat % 4) = u →
     u.secPort p.val = y →
     y.chal = some a →
     u.aon ≤ a + sU 10 →
     u.setSecPort p.val { y with chal := none } = x →
     u.wordsBytes (respAddr p.val) 8 ≠ u.sesExpect p.val y.want →
     exec (.sessionVerify src p v) s = .next (State.follow (x.sesFail p.val y.want) s)) ∧
  -- CLOSE ends the session (R453).
  (∀ (s : State) (src : Source) (p : Fin 4) (v : Word) (t : State) (w : Word),
     s.on = true →
     s.touch src = t →
     sesWord v 1 = w →
     s.opens src (F.SEC_P_REQ_GO p.val).addr w = true →
     exec (.sessionClose src p v) s = .next (State.follow ((t.put (F.SEC_P_REQ_LEVEL p.val) (w.toNat % 4)).sesClose p.val 0) s)) ∧
  -- More than one command bit: the write is ignored as a whole, RESULT 6 (R452).
  (∀ (s : State) (src : Source) (p : Fin 4) (k : Fin 4) (v : Word) (t : State) (w : Word),
     s.on = true →
     s.touch src = t →
     sesWord v (multiBits k) = w →
     s.opens src (F.SEC_P_REQ_GO p.val).addr w = true →
     exec (.sessionReqMulti src p k v) s = .next (State.follow (t.portResult p.val 6) s)) ∧
  -- No access for TIMEOUT_S closes the session (R453).
  (∀ (s : State) (p : Fin 4),
     s.on = true →
     s.portLevel p.val ≠ 0 →
     exec (.sessionTimeout p) s = .next (State.follow ((s.elapseTo ((s.secPort p.val).last + s.sesLimit)).sesClose p.val 1) s)) ∧
  -- A port lock's 24 h expire on the AON timer (R455).
  (∀ (s : State) (p : Fin 4) (a : Nat),
     s.on = true →
     (s.secPort p.val).lockUntil = some a →
     exec (.lockExpiry p) s = .next (State.follow ((s.elapseTo a).lockEnd p.val 0) s)) ∧
  -- Every named port but the writer's own (R455).
  (∀ (s : State) (src : Source) (v : Word) (t : State),
     s.on = true →
     s.touch src = t →
     s.opens src F.SEC_LOCK_CLR_PORTS.addr v = true →
     exec (.lockClr src v) s = .next (State.follow (t.each ((bitList 4 (v.toNat % 16)).filter (fun p => p ≠ srcPort src))
       (fun t p => t.lockEnd p 1)) s)) ∧
  -- Writing SEC.CTL.ZEROISE clears session keys, challenges and mailboxes and closes debug (R465).
  (∀ (s : State) (src : Source) (v : Word) (t : State) (w : Word),
     s.on = true →
     s.touch src = t →
     fixBit v 31 = w →
     s.opens src F.SEC_CTL_ZEROISE.addr w = true →
     exec (.zeroise src v) s = .next (State.follow ((t.plain F.SEC_CTL_ZEROISE.addr w.toNat).zeroise 3) s)) ∧
  -- A permitted burn starts with the bytes of FUSE_DATA (R466).
  (∀ (s : State) (src : Source) (v : Word) (t : State) (w : Word) (n : Nat),
     s.on = true →
     s.touch src = t →
     fixBit v 31 = w →
     s.opens src F.SEC_FUSE_CMD_GO.addr w = true →
     w.toNat % 16 = n →
     n < 7 →
     t.flag F.SEC_FUSE_RES_BUSY = false →
     t.fuseCheck n = 0 →
     exec (.fuseProgram src v) s = .next (State.follow (State.putb { t with sec := { t.sec with
       burn := some (n, t.wordsBytes fuseAddr 8, t.aon + msU (if 5 ≤ n then 1 else 30)) } } F.SEC_FUSE_RES_BUSY true) s)) ∧
  -- Outside Dry dock, too hot or cold, set already, or the last image key: RESULT says so (R466).
  (∀ (s : State) (src : Source) (v : Word) (t : State) (w : Word) (n : Nat) (r : Nat),
     s.on = true →
     s.touch src = t →
     fixBit v 31 = w →
     s.opens src F.SEC_FUSE_CMD_GO.addr w = true →
     w.toNat % 16 = n →
     n < 7 →
     t.flag F.SEC_FUSE_RES_BUSY = false →
     t.fuseCheck n = r →
     r ≠ 0 →
     exec (.fuseProgram src v) s = .next (State.follow (t.put F.SEC_FUSE_RES_RESULT r) s)) ∧
  -- The burn completes and reads back well (R466).
  (∀ (s : State) (n : Nat) (e : Nat) (l : List Byte) (t : State),
     s.on = true →
     s.sec.burn = some (n, l, e) →
     s.elapseTo e = t →
     exec (.fuseProg true) s = .next (State.follow (((State.putb { t with
       sec := { t.sec with burn := none }
       fuses := t.fuses.program n l } F.SEC_FUSE_RES_BUSY false).put F.SEC_FUSE_RES_RESULT 0).raise 0x1908 (n + 256 * 0)) s)) ∧
  -- REQ 0 by the writer of the present state: debug goes off (R461).
  (∀ (s : State) (src : Source) (v : Word) (t : State) (w : Word),
     s.on = true →
     s.touch src = t →
     fix v 0 2 0 = w →
     s.opens src F.SEC_DBG_REQ.addr w = true →
     t.cur ≠ 2 →
     t.sec.dbgBy = srcCode src →
     exec (.dbgReqOff src v) s = .next (State.follow ((t.put F.SEC_DBG_REQ 0).dbgOff (srcCode src)) s)) ∧
  -- REQ 1: observe (R461).
  (∀ (s : State) (src : Source) (v : Word) (t : State) (w : Word),
     s.on = true →
     s.touch src = t →
     fix v 0 2 1 = w →
     s.opens src F.SEC_DBG_REQ.addr w = true →
     t.cur ≠ 2 →
     exec (.dbgReqObserve src v) s = .next (State.follow ((t.put F.SEC_DBG_REQ 1).dbgGiveUp.dbgTo 1 (srcCode src)) s)) ∧
  -- In Doze a request is refused (R461).
  (∀ (s : State) (src : Source) (v : Word) (t : State) (w : Word),
     s.on = true →
     s.touch src = t →
     fix v 0 2 1 = w →
     s.opens src F.SEC_DBG_REQ.addr w = true →
     t.cur = 2 →
     exec (.dbgReqObserve src v) s = .next (State.follow t s)) ∧
  -- REQ 2: the front end faults, transmission is muted, and the entry waits for the drains (R463).
  (∀ (s : State) (src : Source) (v : Word) (t : State) (u : State) (w : Word),
     s.on = true →
     s.touch src = t →
     fix v 0 2 2 = w →
     s.opens src F.SEC_DBG_REQ.addr w = true →
     t.cur ≠ 2 →
     t.dbg ≠ 2 →
     t.put F.SEC_DBG_REQ 2 = u →
     exec (.dbgReqIntrusive src v) s = .next (State.follow (State.txCause (State.feSet
       { u with sec := { u.sec with dbgWait := some (srcCode src) } } feDEBUG) txDEBUG true) s)) ∧
  -- Every drain is low: the debug state is intrusive (R463).
  (∀ (s : State) (n : Nat),
     s.on = true →
     s.sec.dbgWait = some n →
     s.pins.drain = 0 →
     exec .dbgIntrusiveEnter s = .next (State.follow (State.dbgTo { s with sec := { s.sec with dbgWait := none } } 2 n) s))

/-- The TAP and its instructions (R448, R461, R462). Commands: trstNAssert, trstNRelease, jtagBypass, jtagIdcode,
jtagSamplePreload, jtagExtest, jtagDbgRead, jtagTrace, jtagDbgWrite, jtagPilotHalt, jtagPilotStep, jtagScan. -/
def Obligations.TestAccessPort : Prop :=
  -- TRST_N low: EXTEST ends and the TAP is in reset, whether or not the device is powered.
  (∀ (s : State),
     exec .trstNAssert s = .next { s.extestLeave with
jtag := {}, pins := { s.extestLeave.pins with trstN := false } }) ∧
  -- TRST_N going high releases the TAP from reset so that it obeys its instructions (R461).
  (∀ (s : State),
     exec .trstNRelease s = .next { s with pins := { s.pins with trstN := true } }) ∧
  -- The BYPASS instruction passes TDI to TDO through one bit (R461).
  (∀ (s : State) (tdi : List Bool) (t : State),
     s.on = true →
     s.tapOn = true →
     s.tapTake 0 = t →
     exec (.jtagBypass tdi) s = .next (State.follow (State.emit { t with jtag := { t.jtag with bypass := (tdi.getLast?).getD false } }
       (.tdo ((false :: tdi).take tdi.length))) s)) ∧
  -- The IDCODE instruction shifts out the device identification (R461).
  (∀ (s : State) (tdi : List Bool),
     s.on = true →
     s.tapOn = true →
     exec (.jtagIdcode tdi) s = .next (State.follow ((s.tapTake 1).emit (.tdo ((idcodeBits ++ tdi).take tdi.length))) s)) ∧
  -- The levels that leave are free values; the boundary register takes the bits shifted in.
  (∀ (s : State) (tdi : List Bool) (l : List Bool) (u : State),
     s.on = true →
     s.tapOn = true →
     (s.tapTake 2).drawBits tdi.length = (l, u) →
     exec (.jtagSamplePreload tdi) s = .next (State.follow (State.emit { u with jtag := { u.jtag with boundary := tdi } } (.tdo l)) s)) ∧
  -- EXTEST in Dry dock with debug at observe or intrusive: the boundary register drives the balls.
  (∀ (s : State) (tdi : List Bool) (l : List Bool) (u : State) (j : Jtag),
     s.on = true →
     s.tapOn = true →
     s.cur = 1 →
     1 ≤ s.get F.SEC_STAT_DBG →
     (s.tapTake 3).drawBits tdi.length = (l, u) →
     ({ u.jtag with
 boundary := if tdi.isEmpty then u.jtag.boundary else tdi
 saved := some (u.jtag.saved.getD u.pins) } : Jtag) = j →
     exec (.jtagExtest tdi) s = .next (State.follow (State.emit { u with jtag := j, pins := u.pins.driven j } (.tdo l)) s)) ∧
  -- Elsewhere EXTEST acts as BYPASS (R462).
  (∀ (s : State) (tdi : List Bool),
     s.on = true →
     s.tapOn = true →
     (s.cur ≠ 1 ∨ s.get F.SEC_STAT_DBG = 0) →
     exec (.jtagExtest tdi) s = .next (State.follow (s.tapBypass tdi) s)) ∧
  -- DBG_READ reads the address space at Service level without side effect (R461).
  (∀ (s : State) (addr : BitVec 40) (tdi : List Bool) (w : Nat) (t : State),
     s.on = true →
     s.tapOn = true →
     1 ≤ s.get F.SEC_STAT_DBG →
     (s.tapTake 5).busRead .jtag addr.toNat = (w, t) →
     exec (.jtagDbgRead addr tdi) s = .next (State.follow (t.emit (.tdo ((List.range 32).map (bitAt w)))) s)) ∧
  -- TRACE streams every event code with its stamp (R461).
  (∀ (s : State) (tdi : List Bool),
     s.on = true →
     s.tapOn = true →
     1 ≤ s.get F.SEC_STAT_DBG →
     exec (.jtagTrace tdi) s = .next (State.follow { s.extestLeave with jtag := { s.extestLeave.jtag with ir := 4, trace := true } }
       s)) ∧
  -- DBG_WRITE writes the address space at Vendor level in intrusive debug (R461).
  (∀ (s : State) (addr : BitVec 40) (v : Word) (tdi : List Bool),
     s.on = true →
     s.tapOn = true →
     2 ≤ s.get F.SEC_STAT_DBG →
     exec (.jtagDbgWrite addr v tdi) s = .next (State.follow ((s.tapTake 6).busWrite .jtag addr.toNat v) s)) ∧
  -- The vendor halt instruction stops Pilot (R461).
  (∀ (s : State) (tdi : List Bool) (t : State),
     s.on = true →
     s.tapOn = true →
     2 ≤ s.get F.SEC_STAT_DBG →
     s.tapTake 7 = t →
     t.up domPILOT = true →
     exec (.jtagPilotHalt tdi) s = .next (State.follow { t with rsv := { t.rsv with halted := true } } s)) ∧
  -- A step of Pilot: it stands halted again (log entry 18).
  (∀ (s : State) (tdi : List Bool) (t : State),
     s.on = true →
     s.tapOn = true →
     2 ≤ s.get F.SEC_STAT_DBG →
     s.tapTake 8 = t →
     t.up domPILOT = true →
     exec (.jtagPilotStep tdi) s = .next (State.follow { t with rsv := { t.rsv with halted := true } } s)) ∧
  -- The vendor scan instruction accesses internal scan chains (R461).
  (∀ (s : State) (tdi : List Bool) (l : List Bool) (u : State),
     s.on = true →
     s.tapOn = true →
     2 ≤ s.get F.SEC_STAT_DBG →
     (s.tapTake 9).drawBits tdi.length = (l, u) →
     exec (.jtagScan tdi) s = .next (State.follow (u.emit (.tdo l)) s)) ∧
  -- An instruction that needs more of debug than is open acts as BYPASS (R461).
  (∀ (s : State) (addr : BitVec 40) (tdi : List Bool),
     s.on = true →
     s.tapOn = true →
     s.get F.SEC_STAT_DBG < 1 →
     exec (.jtagDbgRead addr tdi) s = .next (State.follow (s.tapBypass tdi) s)) ∧
  -- Below intrusive DBG_WRITE acts as BYPASS (R461).
  (∀ (s : State) (addr : BitVec 40) (v : Word) (tdi : List Bool),
     s.on = true →
     s.tapOn = true →
     s.get F.SEC_STAT_DBG < 2 →
     exec (.jtagDbgWrite addr v tdi) s = .next (State.follow (s.tapBypass tdi) s)) ∧
  -- TRST_N low: no instruction acts (R461).
  (∀ (s : State) (addr : BitVec 40) (v : Word) (tdi : List Bool),
     s.on = true →
     s.tapOn = false →
     exec (.jtagDbgWrite addr v tdi) s = .next (State.follow s s))
end

