-- ==== Sys2Proof/Laws/Sparse.lean ====
section
/-! SUPPORT. Laws of the sparse tables: what is read after a write, and that every operation keeps the canonical form. -/

namespace Sys2Proof.Machine

set_option linter.all false

variable {α : Type}

theorem sparseFind_insert_same (l : List (Nat × α)) (a : Nat) (v : α) : sparseFind (sparseInsert l a v) a = some v := by
  induction l with
  | nil => simp [sparseInsert, sparseFind]
  | cons e l ih =>
    obtain ⟨k, w⟩ := e
    unfold sparseInsert
    split
    · simp [sparseFind]
    · split
      · simp [sparseFind]
      · simp only [sparseFind]
        rw [if_neg (by omega), ih]

theorem sparseFind_insert_ne (l : List (Nat × α)) {a b : Nat} (v : α) (h : b ≠ a) :
    sparseFind (sparseInsert l a v) b = sparseFind l b := by
  induction l with
  | nil => simp [sparseInsert, sparseFind, Ne.symm h]
  | cons e l ih =>
    obtain ⟨k, w⟩ := e
    unfold sparseInsert
    split
    · simp [sparseFind, Ne.symm h]
    · split
      · subst k; simp [sparseFind, Ne.symm h]
      · simp only [sparseFind, ih]

theorem sparseFind_filter (l : List (Nat × α)) (p : Nat → Bool) (b : Nat) :
    sparseFind (l.filter (fun e => p e.1)) b = if p b then sparseFind l b else none := by
  induction l with
  | nil => simp [sparseFind]
  | cons e l ih =>
    obtain ⟨k, w⟩ := e
    by_cases hk : p k = true
    · rw [List.filter_cons_of_pos (by simpa using hk)]
      simp only [sparseFind, ih]
      by_cases hb : k = b
      · subst hb; simp [hk]
      · simp [hb]
    · rw [List.filter_cons_of_neg (by simpa using hk), ih]
      simp only [sparseFind]
      by_cases hb : k = b
      · subst hb; simp [hk]
      · simp [hb]

theorem sparseFind_erase_same (l : List (Nat × α)) (a : Nat) : sparseFind (sparseErase l a) a = none := by
  have := sparseFind_filter l (fun k => decide (k ≠ a)) a
  simpa [sparseErase] using this

theorem sparseFind_erase_ne (l : List (Nat × α)) {a b : Nat} (h : b ≠ a) :
    sparseFind (sparseErase l a) b = sparseFind l b := by
  have := sparseFind_filter l (fun k => decide (k ≠ a)) b
  simpa [sparseErase, h] using this

/-- A read after a write of the same key gives what was written. -/
theorem sparseGet_put_same [DecidableEq α] (d : Nat → α) (l : List (Nat × α)) (a : Nat) (v : α) :
    sparseGet d (sparsePut d l a v) a = v := by
  unfold sparsePut sparseGet
  split
  · rw [sparseFind_erase_same]; simp [*]
  · rw [sparseFind_insert_same]; rfl

/-- A write leaves every other key alone. -/
theorem sparseGet_put_ne [DecidableEq α] (d : Nat → α) (l : List (Nat × α)) {a b : Nat} (v : α) (h : b ≠ a) :
    sparseGet d (sparsePut d l a v) b = sparseGet d l b := by
  unfold sparsePut sparseGet
  split
  · rw [sparseFind_erase_ne l h]
  · rw [sparseFind_insert_ne l v h]

theorem sparseWfFrom_mono [DecidableEq α] {d : Nat → α} {l : List (Nat × α)} {lo lo' : Nat} (h : lo' ≤ lo)
    (w : sparseWfFrom d lo l = true) : sparseWfFrom d lo' l = true := by
  cases l with
  | nil => rfl
  | cons e l =>
    obtain ⟨k, v⟩ := e
    simp only [sparseWfFrom, Bool.and_eq_true, decide_eq_true_eq] at w ⊢
    exact ⟨⟨by omega, w.1.2⟩, w.2⟩

theorem sparseWfFrom_insert [DecidableEq α] {d : Nat → α} {v : α} {a : Nat} (hv : v ≠ d a) :
    ∀ (l : List (Nat × α)) (lo : Nat), lo ≤ a → sparseWfFrom d lo l = true → sparseWfFrom d lo (sparseInsert l a v) = true
  | [], lo, h, _ => by simp [sparseInsert, sparseWfFrom, h, hv]
  | (k, w) :: l, lo, h, hw => by
    simp only [sparseWfFrom, Bool.and_eq_true, decide_eq_true_eq] at hw
    unfold sparseInsert
    split
    · simp only [sparseWfFrom, Bool.and_eq_true, decide_eq_true_eq]
      exact ⟨⟨h, hv⟩, ⟨by omega, hw.1.2⟩, hw.2⟩
    · split
      · subst k
        simp only [sparseWfFrom, Bool.and_eq_true, decide_eq_true_eq]
        exact ⟨⟨h, hv⟩, hw.2⟩
      · simp only [sparseWfFrom, Bool.and_eq_true, decide_eq_true_eq]
        exact ⟨hw.1, sparseWfFrom_insert hv l (k + 1) (by omega) hw.2⟩

theorem sparseWfFrom_filter [DecidableEq α] {d : Nat → α} (p : Nat × α → Bool) :
    ∀ (l : List (Nat × α)) (lo : Nat), sparseWfFrom d lo l = true → sparseWfFrom d lo (l.filter p) = true
  | [], _, _ => rfl
  | (k, w) :: l, lo, h => by
    simp only [sparseWfFrom, Bool.and_eq_true, decide_eq_true_eq] at h
    rw [List.filter_cons]
    split
    · simp only [sparseWfFrom, Bool.and_eq_true, decide_eq_true_eq]
      exact ⟨h.1, sparseWfFrom_filter p l _ h.2⟩
    · exact sparseWfFrom_mono (by omega) (sparseWfFrom_filter p l _ h.2)

/-- A write keeps the canonical form. -/
theorem sparseWf_put [DecidableEq α] {d : Nat → α} {l : List (Nat × α)} (a : Nat) (v : α) (h : sparseWf d l = true) :
    sparseWf d (sparsePut d l a v) = true := by
  unfold sparsePut
  split
  · exact sparseWfFrom_filter _ l 0 h
  · exact sparseWfFrom_insert ‹_› l 0 (Nat.zero_le a) h

/-- Keeping the entries of some keys keeps the canonical form. -/
theorem sparseWf_keep [DecidableEq α] {d : Nat → α} {l : List (Nat × α)} (p : Nat → Bool) (h : sparseWf d l = true) :
    sparseWf d (sparseKeep p l) = true := sparseWfFrom_filter _ l 0 h

end Sys2Proof.Machine
end

