-- ==== Sys2Proof/Laws/State.lean ====
section
/-! SUPPORT. One law per field of the state and primitive update: every other field keeps its value. -/

namespace Sys2Proof.Machine

@[simp] theorem State.setWord_part (s : State) (a : Nat) (w : Word) : (s.setWord a w).part = s.part := (rfl)
@[simp] theorem State.setWord_power (s : State) (a : Nat) (w : Word) : (s.setWord a w).power = s.power := (rfl)
@[simp] theorem State.setWord_pins (s : State) (a : Nat) (w : Word) : (s.setWord a w).pins = s.pins := (rfl)
@[simp] theorem State.setWord_fuses (s : State) (a : Nat) (w : Word) : (s.setWord a w).fuses = s.fuses := (rfl)
@[simp] theorem State.setWord_clk (s : State) (a : Nat) (w : Word) : (s.setWord a w).clk = s.clk := (rfl)
@[simp] theorem State.setWord_boot (s : State) (a : Nat) (w : Word) : (s.setWord a w).boot = s.boot := (rfl)
@[simp] theorem State.setWord_tally (s : State) (a : Nat) (w : Word) : (s.setWord a w).tally = s.tally := (rfl)
@[simp] theorem State.setWord_tide (s : State) (a : Nat) (w : Word) : (s.setWord a w).tide = s.tide := (rfl)
@[simp] theorem State.setWord_rx (s : State) (a : Nat) (w : Word) : (s.setWord a w).rx = s.rx := (rfl)
@[simp] theorem State.setWord_tx (s : State) (a : Nat) (w : Word) : (s.setWord a w).tx = s.tx := (rfl)
@[simp] theorem State.setWord_dpd (s : State) (a : Nat) (w : Word) : (s.setWord a w).dpd = s.dpd := (rfl)
@[simp] theorem State.setWord_quay (s : State) (a : Nat) (w : Word) : (s.setWord a w).quay = s.quay := (rfl)
@[simp] theorem State.setWord_berth (s : State) (a : Nat) (w : Word) : (s.setWord a w).berth = s.berth := (rfl)
@[simp] theorem State.setWord_link (s : State) (a : Nat) (w : Word) : (s.setWord a w).link = s.link := (rfl)
@[simp] theorem State.setWord_msgs (s : State) (a : Nat) (w : Word) : (s.setWord a w).msgs = s.msgs := (rfl)
@[simp] theorem State.setWord_ring (s : State) (a : Nat) (w : Word) : (s.setWord a w).ring = s.ring := (rfl)
@[simp] theorem State.setWord_look (s : State) (a : Nat) (w : Word) : (s.setWord a w).look = s.look := (rfl)
@[simp] theorem State.setWord_fend (s : State) (a : Nat) (w : Word) : (s.setWord a w).fend = s.fend := (rfl)
@[simp] theorem State.setWord_bwtr (s : State) (a : Nat) (w : Word) : (s.setWord a w).bwtr = s.bwtr := (rfl)
@[simp] theorem State.setWord_mon (s : State) (a : Nat) (w : Word) : (s.setWord a w).mon = s.mon := (rfl)
@[simp] theorem State.setWord_hold (s : State) (a : Nat) (w : Word) : (s.setWord a w).hold = s.hold := (rfl)
@[simp] theorem State.setWord_crane (s : State) (a : Nat) (w : Word) : (s.setWord a w).crane = s.crane := (rfl)
@[simp] theorem State.setWord_therm (s : State) (a : Nat) (w : Word) : (s.setWord a w).therm = s.therm := (rfl)
@[simp] theorem State.setWord_rsv (s : State) (a : Nat) (w : Word) : (s.setWord a w).rsv = s.rsv := (rfl)
@[simp] theorem State.setWord_sec (s : State) (a : Nat) (w : Word) : (s.setWord a w).sec = s.sec := (rfl)
@[simp] theorem State.setWord_jtag (s : State) (a : Nat) (w : Word) : (s.setWord a w).jtag = s.jtag := (rfl)
@[simp] theorem State.setWord_hiLatch (s : State) (a : Nat) (w : Word) : (s.setWord a w).hiLatch = s.hiLatch := (rfl)
@[simp] theorem State.setWord_limits (s : State) (a : Nat) (w : Word) : (s.setWord a w).limits = s.limits := (rfl)
@[simp] theorem State.setWord_mem (s : State) (a : Nat) (w : Word) : (s.setWord a w).mem = s.mem := (rfl)
@[simp] theorem State.setWord_flash (s : State) (a : Nat) (w : Word) : (s.setWord a w).flash = s.flash := (rfl)
@[simp] theorem State.setWord_aon (s : State) (a : Nat) (w : Word) : (s.setWord a w).aon = s.aon := (rfl)
@[simp] theorem State.setWord_out (s : State) (a : Nat) (w : Word) : (s.setWord a w).out = s.out := (rfl)
@[simp] theorem State.setWord_freeCtr (s : State) (a : Nat) (w : Word) : (s.setWord a w).freeCtr = s.freeCtr := (rfl)
@[simp] theorem State.setWord_pending (s : State) (a : Nat) (w : Word) : (s.setWord a w).pending = s.pending := (rfl)
@[simp] theorem State.setWord_on (s : State) (a : Nat) (w : Word) : (s.setWord a w).on = s.on := (rfl)
@[simp] theorem State.setWord_byte (s : State) (a : Nat) (w : Word) (c : Nat) : (s.setWord a w).byte c = s.byte c := (rfl)

@[simp] theorem State.put_part (s : State) (f : Field) (v : Nat) : (s.put f v).part = s.part := (rfl)
@[simp] theorem State.put_power (s : State) (f : Field) (v : Nat) : (s.put f v).power = s.power := (rfl)
@[simp] theorem State.put_pins (s : State) (f : Field) (v : Nat) : (s.put f v).pins = s.pins := (rfl)
@[simp] theorem State.put_fuses (s : State) (f : Field) (v : Nat) : (s.put f v).fuses = s.fuses := (rfl)
@[simp] theorem State.put_clk (s : State) (f : Field) (v : Nat) : (s.put f v).clk = s.clk := (rfl)
@[simp] theorem State.put_boot (s : State) (f : Field) (v : Nat) : (s.put f v).boot = s.boot := (rfl)
@[simp] theorem State.put_tally (s : State) (f : Field) (v : Nat) : (s.put f v).tally = s.tally := (rfl)
@[simp] theorem State.put_tide (s : State) (f : Field) (v : Nat) : (s.put f v).tide = s.tide := (rfl)
@[simp] theorem State.put_rx (s : State) (f : Field) (v : Nat) : (s.put f v).rx = s.rx := (rfl)
@[simp] theorem State.put_tx (s : State) (f : Field) (v : Nat) : (s.put f v).tx = s.tx := (rfl)
@[simp] theorem State.put_dpd (s : State) (f : Field) (v : Nat) : (s.put f v).dpd = s.dpd := (rfl)
@[simp] theorem State.put_quay (s : State) (f : Field) (v : Nat) : (s.put f v).quay = s.quay := (rfl)
@[simp] theorem State.put_berth (s : State) (f : Field) (v : Nat) : (s.put f v).berth = s.berth := (rfl)
@[simp] theorem State.put_link (s : State) (f : Field) (v : Nat) : (s.put f v).link = s.link := (rfl)
@[simp] theorem State.put_msgs (s : State) (f : Field) (v : Nat) : (s.put f v).msgs = s.msgs := (rfl)
@[simp] theorem State.put_ring (s : State) (f : Field) (v : Nat) : (s.put f v).ring = s.ring := (rfl)
@[simp] theorem State.put_look (s : State) (f : Field) (v : Nat) : (s.put f v).look = s.look := (rfl)
@[simp] theorem State.put_fend (s : State) (f : Field) (v : Nat) : (s.put f v).fend = s.fend := (rfl)
@[simp] theorem State.put_bwtr (s : State) (f : Field) (v : Nat) : (s.put f v).bwtr = s.bwtr := (rfl)
@[simp] theorem State.put_mon (s : State) (f : Field) (v : Nat) : (s.put f v).mon = s.mon := (rfl)
@[simp] theorem State.put_hold (s : State) (f : Field) (v : Nat) : (s.put f v).hold = s.hold := (rfl)
@[simp] theorem State.put_crane (s : State) (f : Field) (v : Nat) : (s.put f v).crane = s.crane := (rfl)
@[simp] theorem State.put_therm (s : State) (f : Field) (v : Nat) : (s.put f v).therm = s.therm := (rfl)
@[simp] theorem State.put_rsv (s : State) (f : Field) (v : Nat) : (s.put f v).rsv = s.rsv := (rfl)
@[simp] theorem State.put_sec (s : State) (f : Field) (v : Nat) : (s.put f v).sec = s.sec := (rfl)
@[simp] theorem State.put_jtag (s : State) (f : Field) (v : Nat) : (s.put f v).jtag = s.jtag := (rfl)
@[simp] theorem State.put_hiLatch (s : State) (f : Field) (v : Nat) : (s.put f v).hiLatch = s.hiLatch := (rfl)
@[simp] theorem State.put_limits (s : State) (f : Field) (v : Nat) : (s.put f v).limits = s.limits := (rfl)
@[simp] theorem State.put_mem (s : State) (f : Field) (v : Nat) : (s.put f v).mem = s.mem := (rfl)
@[simp] theorem State.put_flash (s : State) (f : Field) (v : Nat) : (s.put f v).flash = s.flash := (rfl)
@[simp] theorem State.put_aon (s : State) (f : Field) (v : Nat) : (s.put f v).aon = s.aon := (rfl)
@[simp] theorem State.put_out (s : State) (f : Field) (v : Nat) : (s.put f v).out = s.out := (rfl)
@[simp] theorem State.put_freeCtr (s : State) (f : Field) (v : Nat) : (s.put f v).freeCtr = s.freeCtr := (rfl)
@[simp] theorem State.put_pending (s : State) (f : Field) (v : Nat) : (s.put f v).pending = s.pending := (rfl)
@[simp] theorem State.put_on (s : State) (f : Field) (v : Nat) : (s.put f v).on = s.on := (rfl)
@[simp] theorem State.put_byte (s : State) (f : Field) (v : Nat) (c : Nat) : (s.put f v).byte c = s.byte c := (rfl)

@[simp] theorem State.puti_part (s : State) (f : Field) (v : Int) : (s.puti f v).part = s.part := (rfl)
@[simp] theorem State.puti_power (s : State) (f : Field) (v : Int) : (s.puti f v).power = s.power := (rfl)
@[simp] theorem State.puti_pins (s : State) (f : Field) (v : Int) : (s.puti f v).pins = s.pins := (rfl)
@[simp] theorem State.puti_fuses (s : State) (f : Field) (v : Int) : (s.puti f v).fuses = s.fuses := (rfl)
@[simp] theorem State.puti_clk (s : State) (f : Field) (v : Int) : (s.puti f v).clk = s.clk := (rfl)
@[simp] theorem State.puti_boot (s : State) (f : Field) (v : Int) : (s.puti f v).boot = s.boot := (rfl)
@[simp] theorem State.puti_tally (s : State) (f : Field) (v : Int) : (s.puti f v).tally = s.tally := (rfl)
@[simp] theorem State.puti_tide (s : State) (f : Field) (v : Int) : (s.puti f v).tide = s.tide := (rfl)
@[simp] theorem State.puti_rx (s : State) (f : Field) (v : Int) : (s.puti f v).rx = s.rx := (rfl)
@[simp] theorem State.puti_tx (s : State) (f : Field) (v : Int) : (s.puti f v).tx = s.tx := (rfl)
@[simp] theorem State.puti_dpd (s : State) (f : Field) (v : Int) : (s.puti f v).dpd = s.dpd := (rfl)
@[simp] theorem State.puti_quay (s : State) (f : Field) (v : Int) : (s.puti f v).quay = s.quay := (rfl)
@[simp] theorem State.puti_berth (s : State) (f : Field) (v : Int) : (s.puti f v).berth = s.berth := (rfl)
@[simp] theorem State.puti_link (s : State) (f : Field) (v : Int) : (s.puti f v).link = s.link := (rfl)
@[simp] theorem State.puti_msgs (s : State) (f : Field) (v : Int) : (s.puti f v).msgs = s.msgs := (rfl)
@[simp] theorem State.puti_ring (s : State) (f : Field) (v : Int) : (s.puti f v).ring = s.ring := (rfl)
@[simp] theorem State.puti_look (s : State) (f : Field) (v : Int) : (s.puti f v).look = s.look := (rfl)
@[simp] theorem State.puti_fend (s : State) (f : Field) (v : Int) : (s.puti f v).fend = s.fend := (rfl)
@[simp] theorem State.puti_bwtr (s : State) (f : Field) (v : Int) : (s.puti f v).bwtr = s.bwtr := (rfl)
@[simp] theorem State.puti_mon (s : State) (f : Field) (v : Int) : (s.puti f v).mon = s.mon := (rfl)
@[simp] theorem State.puti_hold (s : State) (f : Field) (v : Int) : (s.puti f v).hold = s.hold := (rfl)
@[simp] theorem State.puti_crane (s : State) (f : Field) (v : Int) : (s.puti f v).crane = s.crane := (rfl)
@[simp] theorem State.puti_therm (s : State) (f : Field) (v : Int) : (s.puti f v).therm = s.therm := (rfl)
@[simp] theorem State.puti_rsv (s : State) (f : Field) (v : Int) : (s.puti f v).rsv = s.rsv := (rfl)
@[simp] theorem State.puti_sec (s : State) (f : Field) (v : Int) : (s.puti f v).sec = s.sec := (rfl)
@[simp] theorem State.puti_jtag (s : State) (f : Field) (v : Int) : (s.puti f v).jtag = s.jtag := (rfl)
@[simp] theorem State.puti_hiLatch (s : State) (f : Field) (v : Int) : (s.puti f v).hiLatch = s.hiLatch := (rfl)
@[simp] theorem State.puti_limits (s : State) (f : Field) (v : Int) : (s.puti f v).limits = s.limits := (rfl)
@[simp] theorem State.puti_mem (s : State) (f : Field) (v : Int) : (s.puti f v).mem = s.mem := (rfl)
@[simp] theorem State.puti_flash (s : State) (f : Field) (v : Int) : (s.puti f v).flash = s.flash := (rfl)
@[simp] theorem State.puti_aon (s : State) (f : Field) (v : Int) : (s.puti f v).aon = s.aon := (rfl)
@[simp] theorem State.puti_out (s : State) (f : Field) (v : Int) : (s.puti f v).out = s.out := (rfl)
@[simp] theorem State.puti_freeCtr (s : State) (f : Field) (v : Int) : (s.puti f v).freeCtr = s.freeCtr := (rfl)
@[simp] theorem State.puti_pending (s : State) (f : Field) (v : Int) : (s.puti f v).pending = s.pending := (rfl)
@[simp] theorem State.puti_on (s : State) (f : Field) (v : Int) : (s.puti f v).on = s.on := (rfl)
@[simp] theorem State.puti_byte (s : State) (f : Field) (v : Int) (c : Nat) : (s.puti f v).byte c = s.byte c := (rfl)

@[simp] theorem State.putb_part (s : State) (f : Field) (v : Bool) : (s.putb f v).part = s.part := (rfl)
@[simp] theorem State.putb_power (s : State) (f : Field) (v : Bool) : (s.putb f v).power = s.power := (rfl)
@[simp] theorem State.putb_pins (s : State) (f : Field) (v : Bool) : (s.putb f v).pins = s.pins := (rfl)
@[simp] theorem State.putb_fuses (s : State) (f : Field) (v : Bool) : (s.putb f v).fuses = s.fuses := (rfl)
@[simp] theorem State.putb_clk (s : State) (f : Field) (v : Bool) : (s.putb f v).clk = s.clk := (rfl)
@[simp] theorem State.putb_boot (s : State) (f : Field) (v : Bool) : (s.putb f v).boot = s.boot := (rfl)
@[simp] theorem State.putb_tally (s : State) (f : Field) (v : Bool) : (s.putb f v).tally = s.tally := (rfl)
@[simp] theorem State.putb_tide (s : State) (f : Field) (v : Bool) : (s.putb f v).tide = s.tide := (rfl)
@[simp] theorem State.putb_rx (s : State) (f : Field) (v : Bool) : (s.putb f v).rx = s.rx := (rfl)
@[simp] theorem State.putb_tx (s : State) (f : Field) (v : Bool) : (s.putb f v).tx = s.tx := (rfl)
@[simp] theorem State.putb_dpd (s : State) (f : Field) (v : Bool) : (s.putb f v).dpd = s.dpd := (rfl)
@[simp] theorem State.putb_quay (s : State) (f : Field) (v : Bool) : (s.putb f v).quay = s.quay := (rfl)
@[simp] theorem State.putb_berth (s : State) (f : Field) (v : Bool) : (s.putb f v).berth = s.berth := (rfl)
@[simp] theorem State.putb_link (s : State) (f : Field) (v : Bool) : (s.putb f v).link = s.link := (rfl)
@[simp] theorem State.putb_msgs (s : State) (f : Field) (v : Bool) : (s.putb f v).msgs = s.msgs := (rfl)
@[simp] theorem State.putb_ring (s : State) (f : Field) (v : Bool) : (s.putb f v).ring = s.ring := (rfl)
@[simp] theorem State.putb_look (s : State) (f : Field) (v : Bool) : (s.putb f v).look = s.look := (rfl)
@[simp] theorem State.putb_fend (s : State) (f : Field) (v : Bool) : (s.putb f v).fend = s.fend := (rfl)
@[simp] theorem State.putb_bwtr (s : State) (f : Field) (v : Bool) : (s.putb f v).bwtr = s.bwtr := (rfl)
@[simp] theorem State.putb_mon (s : State) (f : Field) (v : Bool) : (s.putb f v).mon = s.mon := (rfl)
@[simp] theorem State.putb_hold (s : State) (f : Field) (v : Bool) : (s.putb f v).hold = s.hold := (rfl)
@[simp] theorem State.putb_crane (s : State) (f : Field) (v : Bool) : (s.putb f v).crane = s.crane := (rfl)
@[simp] theorem State.putb_therm (s : State) (f : Field) (v : Bool) : (s.putb f v).therm = s.therm := (rfl)
@[simp] theorem State.putb_rsv (s : State) (f : Field) (v : Bool) : (s.putb f v).rsv = s.rsv := (rfl)
@[simp] theorem State.putb_sec (s : State) (f : Field) (v : Bool) : (s.putb f v).sec = s.sec := (rfl)
@[simp] theorem State.putb_jtag (s : State) (f : Field) (v : Bool) : (s.putb f v).jtag = s.jtag := (rfl)
@[simp] theorem State.putb_hiLatch (s : State) (f : Field) (v : Bool) : (s.putb f v).hiLatch = s.hiLatch := (rfl)
@[simp] theorem State.putb_limits (s : State) (f : Field) (v : Bool) : (s.putb f v).limits = s.limits := (rfl)
@[simp] theorem State.putb_mem (s : State) (f : Field) (v : Bool) : (s.putb f v).mem = s.mem := (rfl)
@[simp] theorem State.putb_flash (s : State) (f : Field) (v : Bool) : (s.putb f v).flash = s.flash := (rfl)
@[simp] theorem State.putb_aon (s : State) (f : Field) (v : Bool) : (s.putb f v).aon = s.aon := (rfl)
@[simp] theorem State.putb_out (s : State) (f : Field) (v : Bool) : (s.putb f v).out = s.out := (rfl)
@[simp] theorem State.putb_freeCtr (s : State) (f : Field) (v : Bool) : (s.putb f v).freeCtr = s.freeCtr := (rfl)
@[simp] theorem State.putb_pending (s : State) (f : Field) (v : Bool) : (s.putb f v).pending = s.pending := (rfl)
@[simp] theorem State.putb_on (s : State) (f : Field) (v : Bool) : (s.putb f v).on = s.on := (rfl)
@[simp] theorem State.putb_byte (s : State) (f : Field) (v : Bool) (c : Nat) : (s.putb f v).byte c = s.byte c := (rfl)

@[simp] theorem State.inc_part (s : State) (f : Field) : (s.inc f).part = s.part := (rfl)
@[simp] theorem State.inc_power (s : State) (f : Field) : (s.inc f).power = s.power := (rfl)
@[simp] theorem State.inc_pins (s : State) (f : Field) : (s.inc f).pins = s.pins := (rfl)
@[simp] theorem State.inc_fuses (s : State) (f : Field) : (s.inc f).fuses = s.fuses := (rfl)
@[simp] theorem State.inc_clk (s : State) (f : Field) : (s.inc f).clk = s.clk := (rfl)
@[simp] theorem State.inc_boot (s : State) (f : Field) : (s.inc f).boot = s.boot := (rfl)
@[simp] theorem State.inc_tally (s : State) (f : Field) : (s.inc f).tally = s.tally := (rfl)
@[simp] theorem State.inc_tide (s : State) (f : Field) : (s.inc f).tide = s.tide := (rfl)
@[simp] theorem State.inc_rx (s : State) (f : Field) : (s.inc f).rx = s.rx := (rfl)
@[simp] theorem State.inc_tx (s : State) (f : Field) : (s.inc f).tx = s.tx := (rfl)
@[simp] theorem State.inc_dpd (s : State) (f : Field) : (s.inc f).dpd = s.dpd := (rfl)
@[simp] theorem State.inc_quay (s : State) (f : Field) : (s.inc f).quay = s.quay := (rfl)
@[simp] theorem State.inc_berth (s : State) (f : Field) : (s.inc f).berth = s.berth := (rfl)
@[simp] theorem State.inc_link (s : State) (f : Field) : (s.inc f).link = s.link := (rfl)
@[simp] theorem State.inc_msgs (s : State) (f : Field) : (s.inc f).msgs = s.msgs := (rfl)
@[simp] theorem State.inc_ring (s : State) (f : Field) : (s.inc f).ring = s.ring := (rfl)
@[simp] theorem State.inc_look (s : State) (f : Field) : (s.inc f).look = s.look := (rfl)
@[simp] theorem State.inc_fend (s : State) (f : Field) : (s.inc f).fend = s.fend := (rfl)
@[simp] theorem State.inc_bwtr (s : State) (f : Field) : (s.inc f).bwtr = s.bwtr := (rfl)
@[simp] theorem State.inc_mon (s : State) (f : Field) : (s.inc f).mon = s.mon := (rfl)
@[simp] theorem State.inc_hold (s : State) (f : Field) : (s.inc f).hold = s.hold := (rfl)
@[simp] theorem State.inc_crane (s : State) (f : Field) : (s.inc f).crane = s.crane := (rfl)
@[simp] theorem State.inc_therm (s : State) (f : Field) : (s.inc f).therm = s.therm := (rfl)
@[simp] theorem State.inc_rsv (s : State) (f : Field) : (s.inc f).rsv = s.rsv := (rfl)
@[simp] theorem State.inc_sec (s : State) (f : Field) : (s.inc f).sec = s.sec := (rfl)
@[simp] theorem State.inc_jtag (s : State) (f : Field) : (s.inc f).jtag = s.jtag := (rfl)
@[simp] theorem State.inc_hiLatch (s : State) (f : Field) : (s.inc f).hiLatch = s.hiLatch := (rfl)
@[simp] theorem State.inc_limits (s : State) (f : Field) : (s.inc f).limits = s.limits := (rfl)
@[simp] theorem State.inc_mem (s : State) (f : Field) : (s.inc f).mem = s.mem := (rfl)
@[simp] theorem State.inc_flash (s : State) (f : Field) : (s.inc f).flash = s.flash := (rfl)
@[simp] theorem State.inc_aon (s : State) (f : Field) : (s.inc f).aon = s.aon := (rfl)
@[simp] theorem State.inc_out (s : State) (f : Field) : (s.inc f).out = s.out := (rfl)
@[simp] theorem State.inc_freeCtr (s : State) (f : Field) : (s.inc f).freeCtr = s.freeCtr := (rfl)
@[simp] theorem State.inc_pending (s : State) (f : Field) : (s.inc f).pending = s.pending := (rfl)
@[simp] theorem State.inc_on (s : State) (f : Field) : (s.inc f).on = s.on := (rfl)
@[simp] theorem State.inc_byte (s : State) (f : Field) (c : Nat) : (s.inc f).byte c = s.byte c := (rfl)

@[simp] theorem State.add_part (s : State) (f : Field) (k : Nat) : (s.add f k).part = s.part := (rfl)
@[simp] theorem State.add_power (s : State) (f : Field) (k : Nat) : (s.add f k).power = s.power := (rfl)
@[simp] theorem State.add_pins (s : State) (f : Field) (k : Nat) : (s.add f k).pins = s.pins := (rfl)
@[simp] theorem State.add_fuses (s : State) (f : Field) (k : Nat) : (s.add f k).fuses = s.fuses := (rfl)
@[simp] theorem State.add_clk (s : State) (f : Field) (k : Nat) : (s.add f k).clk = s.clk := (rfl)
@[simp] theorem State.add_boot (s : State) (f : Field) (k : Nat) : (s.add f k).boot = s.boot := (rfl)
@[simp] theorem State.add_tally (s : State) (f : Field) (k : Nat) : (s.add f k).tally = s.tally := (rfl)
@[simp] theorem State.add_tide (s : State) (f : Field) (k : Nat) : (s.add f k).tide = s.tide := (rfl)
@[simp] theorem State.add_rx (s : State) (f : Field) (k : Nat) : (s.add f k).rx = s.rx := (rfl)
@[simp] theorem State.add_tx (s : State) (f : Field) (k : Nat) : (s.add f k).tx = s.tx := (rfl)
@[simp] theorem State.add_dpd (s : State) (f : Field) (k : Nat) : (s.add f k).dpd = s.dpd := (rfl)
@[simp] theorem State.add_quay (s : State) (f : Field) (k : Nat) : (s.add f k).quay = s.quay := (rfl)
@[simp] theorem State.add_berth (s : State) (f : Field) (k : Nat) : (s.add f k).berth = s.berth := (rfl)
@[simp] theorem State.add_link (s : State) (f : Field) (k : Nat) : (s.add f k).link = s.link := (rfl)
@[simp] theorem State.add_msgs (s : State) (f : Field) (k : Nat) : (s.add f k).msgs = s.msgs := (rfl)
@[simp] theorem State.add_ring (s : State) (f : Field) (k : Nat) : (s.add f k).ring = s.ring := (rfl)
@[simp] theorem State.add_look (s : State) (f : Field) (k : Nat) : (s.add f k).look = s.look := (rfl)
@[simp] theorem State.add_fend (s : State) (f : Field) (k : Nat) : (s.add f k).fend = s.fend := (rfl)
@[simp] theorem State.add_bwtr (s : State) (f : Field) (k : Nat) : (s.add f k).bwtr = s.bwtr := (rfl)
@[simp] theorem State.add_mon (s : State) (f : Field) (k : Nat) : (s.add f k).mon = s.mon := (rfl)
@[simp] theorem State.add_hold (s : State) (f : Field) (k : Nat) : (s.add f k).hold = s.hold := (rfl)
@[simp] theorem State.add_crane (s : State) (f : Field) (k : Nat) : (s.add f k).crane = s.crane := (rfl)
@[simp] theorem State.add_therm (s : State) (f : Field) (k : Nat) : (s.add f k).therm = s.therm := (rfl)
@[simp] theorem State.add_rsv (s : State) (f : Field) (k : Nat) : (s.add f k).rsv = s.rsv := (rfl)
@[simp] theorem State.add_sec (s : State) (f : Field) (k : Nat) : (s.add f k).sec = s.sec := (rfl)
@[simp] theorem State.add_jtag (s : State) (f : Field) (k : Nat) : (s.add f k).jtag = s.jtag := (rfl)
@[simp] theorem State.add_hiLatch (s : State) (f : Field) (k : Nat) : (s.add f k).hiLatch = s.hiLatch := (rfl)
@[simp] theorem State.add_limits (s : State) (f : Field) (k : Nat) : (s.add f k).limits = s.limits := (rfl)
@[simp] theorem State.add_mem (s : State) (f : Field) (k : Nat) : (s.add f k).mem = s.mem := (rfl)
@[simp] theorem State.add_flash (s : State) (f : Field) (k : Nat) : (s.add f k).flash = s.flash := (rfl)
@[simp] theorem State.add_aon (s : State) (f : Field) (k : Nat) : (s.add f k).aon = s.aon := (rfl)
@[simp] theorem State.add_out (s : State) (f : Field) (k : Nat) : (s.add f k).out = s.out := (rfl)
@[simp] theorem State.add_freeCtr (s : State) (f : Field) (k : Nat) : (s.add f k).freeCtr = s.freeCtr := (rfl)
@[simp] theorem State.add_pending (s : State) (f : Field) (k : Nat) : (s.add f k).pending = s.pending := (rfl)
@[simp] theorem State.add_on (s : State) (f : Field) (k : Nat) : (s.add f k).on = s.on := (rfl)
@[simp] theorem State.add_byte (s : State) (f : Field) (k : Nat) (c : Nat) : (s.add f k).byte c = s.byte c := (rfl)

@[simp] theorem State.incWrap_part (s : State) (f : Field) : (s.incWrap f).part = s.part := (rfl)
@[simp] theorem State.incWrap_power (s : State) (f : Field) : (s.incWrap f).power = s.power := (rfl)
@[simp] theorem State.incWrap_pins (s : State) (f : Field) : (s.incWrap f).pins = s.pins := (rfl)
@[simp] theorem State.incWrap_fuses (s : State) (f : Field) : (s.incWrap f).fuses = s.fuses := (rfl)
@[simp] theorem State.incWrap_clk (s : State) (f : Field) : (s.incWrap f).clk = s.clk := (rfl)
@[simp] theorem State.incWrap_boot (s : State) (f : Field) : (s.incWrap f).boot = s.boot := (rfl)
@[simp] theorem State.incWrap_tally (s : State) (f : Field) : (s.incWrap f).tally = s.tally := (rfl)
@[simp] theorem State.incWrap_tide (s : State) (f : Field) : (s.incWrap f).tide = s.tide := (rfl)
@[simp] theorem State.incWrap_rx (s : State) (f : Field) : (s.incWrap f).rx = s.rx := (rfl)
@[simp] theorem State.incWrap_tx (s : State) (f : Field) : (s.incWrap f).tx = s.tx := (rfl)
@[simp] theorem State.incWrap_dpd (s : State) (f : Field) : (s.incWrap f).dpd = s.dpd := (rfl)
@[simp] theorem State.incWrap_quay (s : State) (f : Field) : (s.incWrap f).quay = s.quay := (rfl)
@[simp] theorem State.incWrap_berth (s : State) (f : Field) : (s.incWrap f).berth = s.berth := (rfl)
@[simp] theorem State.incWrap_link (s : State) (f : Field) : (s.incWrap f).link = s.link := (rfl)
@[simp] theorem State.incWrap_msgs (s : State) (f : Field) : (s.incWrap f).msgs = s.msgs := (rfl)
@[simp] theorem State.incWrap_ring (s : State) (f : Field) : (s.incWrap f).ring = s.ring := (rfl)
@[simp] theorem State.incWrap_look (s : State) (f : Field) : (s.incWrap f).look = s.look := (rfl)
@[simp] theorem State.incWrap_fend (s : State) (f : Field) : (s.incWrap f).fend = s.fend := (rfl)
@[simp] theorem State.incWrap_bwtr (s : State) (f : Field) : (s.incWrap f).bwtr = s.bwtr := (rfl)
@[simp] theorem State.incWrap_mon (s : State) (f : Field) : (s.incWrap f).mon = s.mon := (rfl)
@[simp] theorem State.incWrap_hold (s : State) (f : Field) : (s.incWrap f).hold = s.hold := (rfl)
@[simp] theorem State.incWrap_crane (s : State) (f : Field) : (s.incWrap f).crane = s.crane := (rfl)
@[simp] theorem State.incWrap_therm (s : State) (f : Field) : (s.incWrap f).therm = s.therm := (rfl)
@[simp] theorem State.incWrap_rsv (s : State) (f : Field) : (s.incWrap f).rsv = s.rsv := (rfl)
@[simp] theorem State.incWrap_sec (s : State) (f : Field) : (s.incWrap f).sec = s.sec := (rfl)
@[simp] theorem State.incWrap_jtag (s : State) (f : Field) : (s.incWrap f).jtag = s.jtag := (rfl)
@[simp] theorem State.incWrap_hiLatch (s : State) (f : Field) : (s.incWrap f).hiLatch = s.hiLatch := (rfl)
@[simp] theorem State.incWrap_limits (s : State) (f : Field) : (s.incWrap f).limits = s.limits := (rfl)
@[simp] theorem State.incWrap_mem (s : State) (f : Field) : (s.incWrap f).mem = s.mem := (rfl)
@[simp] theorem State.incWrap_flash (s : State) (f : Field) : (s.incWrap f).flash = s.flash := (rfl)
@[simp] theorem State.incWrap_aon (s : State) (f : Field) : (s.incWrap f).aon = s.aon := (rfl)
@[simp] theorem State.incWrap_out (s : State) (f : Field) : (s.incWrap f).out = s.out := (rfl)
@[simp] theorem State.incWrap_freeCtr (s : State) (f : Field) : (s.incWrap f).freeCtr = s.freeCtr := (rfl)
@[simp] theorem State.incWrap_pending (s : State) (f : Field) : (s.incWrap f).pending = s.pending := (rfl)
@[simp] theorem State.incWrap_on (s : State) (f : Field) : (s.incWrap f).on = s.on := (rfl)
@[simp] theorem State.incWrap_byte (s : State) (f : Field) (c : Nat) : (s.incWrap f).byte c = s.byte c := (rfl)

@[simp] theorem State.put64_part (s : State) (f g : Field) (v : Stamp) : (s.put64 f g v).part = s.part := (State.put_part ..).trans (State.put_part ..)
@[simp] theorem State.put64_power (s : State) (f g : Field) (v : Stamp) : (s.put64 f g v).power = s.power := (State.put_power ..).trans (State.put_power ..)
@[simp] theorem State.put64_pins (s : State) (f g : Field) (v : Stamp) : (s.put64 f g v).pins = s.pins := (State.put_pins ..).trans (State.put_pins ..)
@[simp] theorem State.put64_fuses (s : State) (f g : Field) (v : Stamp) : (s.put64 f g v).fuses = s.fuses := (State.put_fuses ..).trans (State.put_fuses ..)
@[simp] theorem State.put64_clk (s : State) (f g : Field) (v : Stamp) : (s.put64 f g v).clk = s.clk := (State.put_clk ..).trans (State.put_clk ..)
@[simp] theorem State.put64_boot (s : State) (f g : Field) (v : Stamp) : (s.put64 f g v).boot = s.boot := (State.put_boot ..).trans (State.put_boot ..)
@[simp] theorem State.put64_tally (s : State) (f g : Field) (v : Stamp) : (s.put64 f g v).tally = s.tally := (State.put_tally ..).trans (State.put_tally ..)
@[simp] theorem State.put64_tide (s : State) (f g : Field) (v : Stamp) : (s.put64 f g v).tide = s.tide := (State.put_tide ..).trans (State.put_tide ..)
@[simp] theorem State.put64_rx (s : State) (f g : Field) (v : Stamp) : (s.put64 f g v).rx = s.rx := (State.put_rx ..).trans (State.put_rx ..)
@[simp] theorem State.put64_tx (s : State) (f g : Field) (v : Stamp) : (s.put64 f g v).tx = s.tx := (State.put_tx ..).trans (State.put_tx ..)
@[simp] theorem State.put64_dpd (s : State) (f g : Field) (v : Stamp) : (s.put64 f g v).dpd = s.dpd := (State.put_dpd ..).trans (State.put_dpd ..)
@[simp] theorem State.put64_quay (s : State) (f g : Field) (v : Stamp) : (s.put64 f g v).quay = s.quay := (State.put_quay ..).trans (State.put_quay ..)
@[simp] theorem State.put64_berth (s : State) (f g : Field) (v : Stamp) : (s.put64 f g v).berth = s.berth := (State.put_berth ..).trans (State.put_berth ..)
@[simp] theorem State.put64_link (s : State) (f g : Field) (v : Stamp) : (s.put64 f g v).link = s.link := (State.put_link ..).trans (State.put_link ..)
@[simp] theorem State.put64_msgs (s : State) (f g : Field) (v : Stamp) : (s.put64 f g v).msgs = s.msgs := (State.put_msgs ..).trans (State.put_msgs ..)
@[simp] theorem State.put64_ring (s : State) (f g : Field) (v : Stamp) : (s.put64 f g v).ring = s.ring := (State.put_ring ..).trans (State.put_ring ..)
@[simp] theorem State.put64_look (s : State) (f g : Field) (v : Stamp) : (s.put64 f g v).look = s.look := (State.put_look ..).trans (State.put_look ..)
@[simp] theorem State.put64_fend (s : State) (f g : Field) (v : Stamp) : (s.put64 f g v).fend = s.fend := (State.put_fend ..).trans (State.put_fend ..)
@[simp] theorem State.put64_bwtr (s : State) (f g : Field) (v : Stamp) : (s.put64 f g v).bwtr = s.bwtr := (State.put_bwtr ..).trans (State.put_bwtr ..)
@[simp] theorem State.put64_mon (s : State) (f g : Field) (v : Stamp) : (s.put64 f g v).mon = s.mon := (State.put_mon ..).trans (State.put_mon ..)
@[simp] theorem State.put64_hold (s : State) (f g : Field) (v : Stamp) : (s.put64 f g v).hold = s.hold := (State.put_hold ..).trans (State.put_hold ..)
@[simp] theorem State.put64_crane (s : State) (f g : Field) (v : Stamp) : (s.put64 f g v).crane = s.crane := (State.put_crane ..).trans (State.put_crane ..)
@[simp] theorem State.put64_therm (s : State) (f g : Field) (v : Stamp) : (s.put64 f g v).therm = s.therm := (State.put_therm ..).trans (State.put_therm ..)
@[simp] theorem State.put64_rsv (s : State) (f g : Field) (v : Stamp) : (s.put64 f g v).rsv = s.rsv := (State.put_rsv ..).trans (State.put_rsv ..)
@[simp] theorem State.put64_sec (s : State) (f g : Field) (v : Stamp) : (s.put64 f g v).sec = s.sec := (State.put_sec ..).trans (State.put_sec ..)
@[simp] theorem State.put64_jtag (s : State) (f g : Field) (v : Stamp) : (s.put64 f g v).jtag = s.jtag := (State.put_jtag ..).trans (State.put_jtag ..)
@[simp] theorem State.put64_hiLatch (s : State) (f g : Field) (v : Stamp) : (s.put64 f g v).hiLatch = s.hiLatch := (State.put_hiLatch ..).trans (State.put_hiLatch ..)
@[simp] theorem State.put64_limits (s : State) (f g : Field) (v : Stamp) : (s.put64 f g v).limits = s.limits := (State.put_limits ..).trans (State.put_limits ..)
@[simp] theorem State.put64_mem (s : State) (f g : Field) (v : Stamp) : (s.put64 f g v).mem = s.mem := (State.put_mem ..).trans (State.put_mem ..)
@[simp] theorem State.put64_flash (s : State) (f g : Field) (v : Stamp) : (s.put64 f g v).flash = s.flash := (State.put_flash ..).trans (State.put_flash ..)
@[simp] theorem State.put64_aon (s : State) (f g : Field) (v : Stamp) : (s.put64 f g v).aon = s.aon := (State.put_aon ..).trans (State.put_aon ..)
@[simp] theorem State.put64_out (s : State) (f g : Field) (v : Stamp) : (s.put64 f g v).out = s.out := (State.put_out ..).trans (State.put_out ..)
@[simp] theorem State.put64_freeCtr (s : State) (f g : Field) (v : Stamp) : (s.put64 f g v).freeCtr = s.freeCtr := (State.put_freeCtr ..).trans (State.put_freeCtr ..)
@[simp] theorem State.put64_pending (s : State) (f g : Field) (v : Stamp) : (s.put64 f g v).pending = s.pending := (State.put_pending ..).trans (State.put_pending ..)
@[simp] theorem State.put64_on (s : State) (f g : Field) (v : Stamp) : (s.put64 f g v).on = s.on := (State.put_on ..).trans (State.put_on ..)
@[simp] theorem State.put64_byte (s : State) (f g : Field) (v : Stamp) (c : Nat) : (s.put64 f g v).byte c = s.byte c := (State.put_byte ..).trans (State.put_byte ..)

@[simp] theorem State.setBit_part (s : State) (a i : Nat) : (s.setBit a i).part = s.part := (rfl)
@[simp] theorem State.setBit_power (s : State) (a i : Nat) : (s.setBit a i).power = s.power := (rfl)
@[simp] theorem State.setBit_pins (s : State) (a i : Nat) : (s.setBit a i).pins = s.pins := (rfl)
@[simp] theorem State.setBit_fuses (s : State) (a i : Nat) : (s.setBit a i).fuses = s.fuses := (rfl)
@[simp] theorem State.setBit_clk (s : State) (a i : Nat) : (s.setBit a i).clk = s.clk := (rfl)
@[simp] theorem State.setBit_boot (s : State) (a i : Nat) : (s.setBit a i).boot = s.boot := (rfl)
@[simp] theorem State.setBit_tally (s : State) (a i : Nat) : (s.setBit a i).tally = s.tally := (rfl)
@[simp] theorem State.setBit_tide (s : State) (a i : Nat) : (s.setBit a i).tide = s.tide := (rfl)
@[simp] theorem State.setBit_rx (s : State) (a i : Nat) : (s.setBit a i).rx = s.rx := (rfl)
@[simp] theorem State.setBit_tx (s : State) (a i : Nat) : (s.setBit a i).tx = s.tx := (rfl)
@[simp] theorem State.setBit_dpd (s : State) (a i : Nat) : (s.setBit a i).dpd = s.dpd := (rfl)
@[simp] theorem State.setBit_quay (s : State) (a i : Nat) : (s.setBit a i).quay = s.quay := (rfl)
@[simp] theorem State.setBit_berth (s : State) (a i : Nat) : (s.setBit a i).berth = s.berth := (rfl)
@[simp] theorem State.setBit_link (s : State) (a i : Nat) : (s.setBit a i).link = s.link := (rfl)
@[simp] theorem State.setBit_msgs (s : State) (a i : Nat) : (s.setBit a i).msgs = s.msgs := (rfl)
@[simp] theorem State.setBit_ring (s : State) (a i : Nat) : (s.setBit a i).ring = s.ring := (rfl)
@[simp] theorem State.setBit_look (s : State) (a i : Nat) : (s.setBit a i).look = s.look := (rfl)
@[simp] theorem State.setBit_fend (s : State) (a i : Nat) : (s.setBit a i).fend = s.fend := (rfl)
@[simp] theorem State.setBit_bwtr (s : State) (a i : Nat) : (s.setBit a i).bwtr = s.bwtr := (rfl)
@[simp] theorem State.setBit_mon (s : State) (a i : Nat) : (s.setBit a i).mon = s.mon := (rfl)
@[simp] theorem State.setBit_hold (s : State) (a i : Nat) : (s.setBit a i).hold = s.hold := (rfl)
@[simp] theorem State.setBit_crane (s : State) (a i : Nat) : (s.setBit a i).crane = s.crane := (rfl)
@[simp] theorem State.setBit_therm (s : State) (a i : Nat) : (s.setBit a i).therm = s.therm := (rfl)
@[simp] theorem State.setBit_rsv (s : State) (a i : Nat) : (s.setBit a i).rsv = s.rsv := (rfl)
@[simp] theorem State.setBit_sec (s : State) (a i : Nat) : (s.setBit a i).sec = s.sec := (rfl)
@[simp] theorem State.setBit_jtag (s : State) (a i : Nat) : (s.setBit a i).jtag = s.jtag := (rfl)
@[simp] theorem State.setBit_hiLatch (s : State) (a i : Nat) : (s.setBit a i).hiLatch = s.hiLatch := (rfl)
@[simp] theorem State.setBit_limits (s : State) (a i : Nat) : (s.setBit a i).limits = s.limits := (rfl)
@[simp] theorem State.setBit_mem (s : State) (a i : Nat) : (s.setBit a i).mem = s.mem := (rfl)
@[simp] theorem State.setBit_flash (s : State) (a i : Nat) : (s.setBit a i).flash = s.flash := (rfl)
@[simp] theorem State.setBit_aon (s : State) (a i : Nat) : (s.setBit a i).aon = s.aon := (rfl)
@[simp] theorem State.setBit_out (s : State) (a i : Nat) : (s.setBit a i).out = s.out := (rfl)
@[simp] theorem State.setBit_freeCtr (s : State) (a i : Nat) : (s.setBit a i).freeCtr = s.freeCtr := (rfl)
@[simp] theorem State.setBit_pending (s : State) (a i : Nat) : (s.setBit a i).pending = s.pending := (rfl)
@[simp] theorem State.setBit_on (s : State) (a i : Nat) : (s.setBit a i).on = s.on := (rfl)
@[simp] theorem State.setBit_byte (s : State) (a i : Nat) (c : Nat) : (s.setBit a i).byte c = s.byte c := (rfl)

@[simp] theorem State.setByte_part (s : State) (a : Nat) (b : Byte) : (s.setByte a b).part = s.part := (rfl)
@[simp] theorem State.setByte_power (s : State) (a : Nat) (b : Byte) : (s.setByte a b).power = s.power := (rfl)
@[simp] theorem State.setByte_pins (s : State) (a : Nat) (b : Byte) : (s.setByte a b).pins = s.pins := (rfl)
@[simp] theorem State.setByte_fuses (s : State) (a : Nat) (b : Byte) : (s.setByte a b).fuses = s.fuses := (rfl)
@[simp] theorem State.setByte_clk (s : State) (a : Nat) (b : Byte) : (s.setByte a b).clk = s.clk := (rfl)
@[simp] theorem State.setByte_boot (s : State) (a : Nat) (b : Byte) : (s.setByte a b).boot = s.boot := (rfl)
@[simp] theorem State.setByte_tally (s : State) (a : Nat) (b : Byte) : (s.setByte a b).tally = s.tally := (rfl)
@[simp] theorem State.setByte_tide (s : State) (a : Nat) (b : Byte) : (s.setByte a b).tide = s.tide := (rfl)
@[simp] theorem State.setByte_rx (s : State) (a : Nat) (b : Byte) : (s.setByte a b).rx = s.rx := (rfl)
@[simp] theorem State.setByte_tx (s : State) (a : Nat) (b : Byte) : (s.setByte a b).tx = s.tx := (rfl)
@[simp] theorem State.setByte_dpd (s : State) (a : Nat) (b : Byte) : (s.setByte a b).dpd = s.dpd := (rfl)
@[simp] theorem State.setByte_quay (s : State) (a : Nat) (b : Byte) : (s.setByte a b).quay = s.quay := (rfl)
@[simp] theorem State.setByte_berth (s : State) (a : Nat) (b : Byte) : (s.setByte a b).berth = s.berth := (rfl)
@[simp] theorem State.setByte_link (s : State) (a : Nat) (b : Byte) : (s.setByte a b).link = s.link := (rfl)
@[simp] theorem State.setByte_msgs (s : State) (a : Nat) (b : Byte) : (s.setByte a b).msgs = s.msgs := (rfl)
@[simp] theorem State.setByte_ring (s : State) (a : Nat) (b : Byte) : (s.setByte a b).ring = s.ring := (rfl)
@[simp] theorem State.setByte_look (s : State) (a : Nat) (b : Byte) : (s.setByte a b).look = s.look := (rfl)
@[simp] theorem State.setByte_fend (s : State) (a : Nat) (b : Byte) : (s.setByte a b).fend = s.fend := (rfl)
@[simp] theorem State.setByte_bwtr (s : State) (a : Nat) (b : Byte) : (s.setByte a b).bwtr = s.bwtr := (rfl)
@[simp] theorem State.setByte_mon (s : State) (a : Nat) (b : Byte) : (s.setByte a b).mon = s.mon := (rfl)
@[simp] theorem State.setByte_hold (s : State) (a : Nat) (b : Byte) : (s.setByte a b).hold = s.hold := (rfl)
@[simp] theorem State.setByte_crane (s : State) (a : Nat) (b : Byte) : (s.setByte a b).crane = s.crane := (rfl)
@[simp] theorem State.setByte_therm (s : State) (a : Nat) (b : Byte) : (s.setByte a b).therm = s.therm := (rfl)
@[simp] theorem State.setByte_rsv (s : State) (a : Nat) (b : Byte) : (s.setByte a b).rsv = s.rsv := (rfl)
@[simp] theorem State.setByte_sec (s : State) (a : Nat) (b : Byte) : (s.setByte a b).sec = s.sec := (rfl)
@[simp] theorem State.setByte_jtag (s : State) (a : Nat) (b : Byte) : (s.setByte a b).jtag = s.jtag := (rfl)
@[simp] theorem State.setByte_hiLatch (s : State) (a : Nat) (b : Byte) : (s.setByte a b).hiLatch = s.hiLatch := (rfl)
@[simp] theorem State.setByte_limits (s : State) (a : Nat) (b : Byte) : (s.setByte a b).limits = s.limits := (rfl)
@[simp] theorem State.setByte_regs (s : State) (a : Nat) (b : Byte) : (s.setByte a b).regs = s.regs := (rfl)
@[simp] theorem State.setByte_flash (s : State) (a : Nat) (b : Byte) : (s.setByte a b).flash = s.flash := (rfl)
@[simp] theorem State.setByte_aon (s : State) (a : Nat) (b : Byte) : (s.setByte a b).aon = s.aon := (rfl)
@[simp] theorem State.setByte_out (s : State) (a : Nat) (b : Byte) : (s.setByte a b).out = s.out := (rfl)
@[simp] theorem State.setByte_freeCtr (s : State) (a : Nat) (b : Byte) : (s.setByte a b).freeCtr = s.freeCtr := (rfl)
@[simp] theorem State.setByte_pending (s : State) (a : Nat) (b : Byte) : (s.setByte a b).pending = s.pending := (rfl)
@[simp] theorem State.setByte_on (s : State) (a : Nat) (b : Byte) : (s.setByte a b).on = s.on := (rfl)
@[simp] theorem State.setByte_word (s : State) (a : Nat) (b : Byte) (c : Nat) : (s.setByte a b).word c = s.word c := (rfl)
@[simp] theorem State.setByte_get (s : State) (a : Nat) (b : Byte) (g : Field) : (s.setByte a b).get g = s.get g := (rfl)

@[simp] theorem State.emit_part (s : State) (x : Sent) : (s.emit x).part = s.part := (rfl)
@[simp] theorem State.emit_power (s : State) (x : Sent) : (s.emit x).power = s.power := (rfl)
@[simp] theorem State.emit_pins (s : State) (x : Sent) : (s.emit x).pins = s.pins := (rfl)
@[simp] theorem State.emit_fuses (s : State) (x : Sent) : (s.emit x).fuses = s.fuses := (rfl)
@[simp] theorem State.emit_clk (s : State) (x : Sent) : (s.emit x).clk = s.clk := (rfl)
@[simp] theorem State.emit_boot (s : State) (x : Sent) : (s.emit x).boot = s.boot := (rfl)
@[simp] theorem State.emit_tally (s : State) (x : Sent) : (s.emit x).tally = s.tally := (rfl)
@[simp] theorem State.emit_tide (s : State) (x : Sent) : (s.emit x).tide = s.tide := (rfl)
@[simp] theorem State.emit_rx (s : State) (x : Sent) : (s.emit x).rx = s.rx := (rfl)
@[simp] theorem State.emit_tx (s : State) (x : Sent) : (s.emit x).tx = s.tx := (rfl)
@[simp] theorem State.emit_dpd (s : State) (x : Sent) : (s.emit x).dpd = s.dpd := (rfl)
@[simp] theorem State.emit_quay (s : State) (x : Sent) : (s.emit x).quay = s.quay := (rfl)
@[simp] theorem State.emit_berth (s : State) (x : Sent) : (s.emit x).berth = s.berth := (rfl)
@[simp] theorem State.emit_link (s : State) (x : Sent) : (s.emit x).link = s.link := (rfl)
@[simp] theorem State.emit_msgs (s : State) (x : Sent) : (s.emit x).msgs = s.msgs := (rfl)
@[simp] theorem State.emit_ring (s : State) (x : Sent) : (s.emit x).ring = s.ring := (rfl)
@[simp] theorem State.emit_look (s : State) (x : Sent) : (s.emit x).look = s.look := (rfl)
@[simp] theorem State.emit_fend (s : State) (x : Sent) : (s.emit x).fend = s.fend := (rfl)
@[simp] theorem State.emit_bwtr (s : State) (x : Sent) : (s.emit x).bwtr = s.bwtr := (rfl)
@[simp] theorem State.emit_mon (s : State) (x : Sent) : (s.emit x).mon = s.mon := (rfl)
@[simp] theorem State.emit_hold (s : State) (x : Sent) : (s.emit x).hold = s.hold := (rfl)
@[simp] theorem State.emit_crane (s : State) (x : Sent) : (s.emit x).crane = s.crane := (rfl)
@[simp] theorem State.emit_therm (s : State) (x : Sent) : (s.emit x).therm = s.therm := (rfl)
@[simp] theorem State.emit_rsv (s : State) (x : Sent) : (s.emit x).rsv = s.rsv := (rfl)
@[simp] theorem State.emit_sec (s : State) (x : Sent) : (s.emit x).sec = s.sec := (rfl)
@[simp] theorem State.emit_jtag (s : State) (x : Sent) : (s.emit x).jtag = s.jtag := (rfl)
@[simp] theorem State.emit_hiLatch (s : State) (x : Sent) : (s.emit x).hiLatch = s.hiLatch := (rfl)
@[simp] theorem State.emit_limits (s : State) (x : Sent) : (s.emit x).limits = s.limits := (rfl)
@[simp] theorem State.emit_regs (s : State) (x : Sent) : (s.emit x).regs = s.regs := (rfl)
@[simp] theorem State.emit_mem (s : State) (x : Sent) : (s.emit x).mem = s.mem := (rfl)
@[simp] theorem State.emit_flash (s : State) (x : Sent) : (s.emit x).flash = s.flash := (rfl)
@[simp] theorem State.emit_aon (s : State) (x : Sent) : (s.emit x).aon = s.aon := (rfl)
@[simp] theorem State.emit_freeCtr (s : State) (x : Sent) : (s.emit x).freeCtr = s.freeCtr := (rfl)
@[simp] theorem State.emit_pending (s : State) (x : Sent) : (s.emit x).pending = s.pending := (rfl)
@[simp] theorem State.emit_on (s : State) (x : Sent) : (s.emit x).on = s.on := (rfl)
@[simp] theorem State.emit_word (s : State) (x : Sent) (c : Nat) : (s.emit x).word c = s.word c := (rfl)
@[simp] theorem State.emit_get (s : State) (x : Sent) (g : Field) : (s.emit x).get g = s.get g := (rfl)

@[simp] theorem State.draw_regs (s : State) : s.draw.2.regs = s.regs := (rfl)
@[simp] theorem State.draw_freeCtr (s : State) : s.draw.2.freeCtr = s.freeCtr + 1 := (rfl)

end Sys2Proof.Machine
end

