-- ==== Sys2Proof/Laws/Moves.lean ====
section
/-! SUPPORT. Laws of `Moves`, the relation that says what a step may change: it is reflexive and transitive, and what each of the
primitive updates of the state does to it. -/

namespace Sys2Proof.Machine

set_option linter.all false

theorem Moves.refl (m : Nat) (s : State) : Moves m s s :=
  ⟨rfl, rfl, id, Nat.le_refl _, List.prefix_refl _, Nat.le_refl _, fun _ _ _ => rfl, fun _ => rfl, fun _ => rfl, fun _ => rfl, fun _ => rfl, fun _ => rfl, fun _ => rfl, fun _ => rfl, fun _ => rfl, fun _ => rfl, fun _ => rfl, fun _ => rfl, fun _ => rfl, fun _ => rfl, fun _ => rfl, fun _ => rfl, fun _ => rfl, fun _ => rfl, fun _ => rfl, fun _ => rfl, fun _ => rfl, fun _ => rfl, fun _ => rfl, fun _ => rfl, fun _ => rfl, fun _ => rfl, fun _ => rfl, fun _ => rfl, fun _ => rfl, fun _ => rfl, fun _ => rfl, fun _ => rfl, fun _ => rfl, fun _ => rfl⟩

theorem testBit_sub {m M i : Nat} (h : m ||| M = M) (hi : M.testBit i = false) : m.testBit i = false := by
  have := congrArg (fun x => x.testBit i) h
  simp only [Nat.testBit_or, hi, Bool.or_false] at this
  exact this

/-- One more step, within a larger set of areas. -/
theorem Moves.step {m M : Nat} {s0 s t : State} (f : Moves m s t) (hm : m ||| M = M) (h : Moves M s0 s) : Moves M s0 t :=
  ⟨f.part.trans h.part, f.pending.trans h.pending, fun c => f.canonical (h.canonical c), Nat.le_trans h.time f.time,
    h.sent.trans f.sent, Nat.le_trans h.draws f.draws,
    fun a l b => (f.words a l (testBit_sub hm b)).trans (h.words a l b),
    fun b => (f.power (testBit_sub hm b)).trans (h.power b),
    fun b => (f.pins (testBit_sub hm b)).trans (h.pins b),
    fun b => (f.fuses (testBit_sub hm b)).trans (h.fuses b),
    fun b => (f.clk (testBit_sub hm b)).trans (h.clk b),
    fun b => (f.boot (testBit_sub hm b)).trans (h.boot b),
    fun b => (f.tally (testBit_sub hm b)).trans (h.tally b),
    fun b => (f.tide (testBit_sub hm b)).trans (h.tide b),
    fun b => (f.rx (testBit_sub hm b)).trans (h.rx b),
    fun b => (f.tx (testBit_sub hm b)).trans (h.tx b),
    fun b => (f.dpd (testBit_sub hm b)).trans (h.dpd b),
    fun b => (f.quay (testBit_sub hm b)).trans (h.quay b),
    fun b => (f.berth (testBit_sub hm b)).trans (h.berth b),
    fun b => (f.link (testBit_sub hm b)).trans (h.link b),
    fun b => (f.msgs (testBit_sub hm b)).trans (h.msgs b),
    fun b => (f.ring (testBit_sub hm b)).trans (h.ring b),
    fun b => (f.look (testBit_sub hm b)).trans (h.look b),
    fun b => (f.fend (testBit_sub hm b)).trans (h.fend b),
    fun b => (f.bwtr (testBit_sub hm b)).trans (h.bwtr b),
    fun b => (f.mon (testBit_sub hm b)).trans (h.mon b),
    fun b => (f.hold (testBit_sub hm b)).trans (h.hold b),
    fun b => (f.crane (testBit_sub hm b)).trans (h.crane b),
    fun b => (f.therm (testBit_sub hm b)).trans (h.therm b),
    fun b => (f.rsv (testBit_sub hm b)).trans (h.rsv b),
    fun b => (f.sec (testBit_sub hm b)).trans (h.sec b),
    fun b => (f.jtag (testBit_sub hm b)).trans (h.jtag b),
    fun b => (f.hiLatch (testBit_sub hm b)).trans (h.hiLatch b),
    fun b => (f.limits (testBit_sub hm b)).trans (h.limits b),
    fun b => (f.regs (testBit_sub hm b)).trans (h.regs b),
    fun b => (f.mem (testBit_sub hm b)).trans (h.mem b),
    fun b => (f.flash (testBit_sub hm b)).trans (h.flash b),
    fun b => (f.aon (testBit_sub hm b)).trans (h.aon b),
    fun b => (f.out (testBit_sub hm b)).trans (h.out b),
    fun b => (f.freeCtr (testBit_sub hm b)).trans (h.freeCtr b)⟩

theorem sub_trans {x b M : Nat} (h1 : x ||| b = b) (h2 : b ||| M = M) : x ||| M = M := by
  rw [← h2, ← Nat.or_assoc, h1]

theorem or_sub {a b M : Nat} (h1 : a ||| M = M) (h2 : b ||| M = M) : a ||| b ||| M = M := by
  rw [Nat.or_assoc, h2, h1]

/-! ## Registers -/

theorem State.setWord_moves {n : Nat} (s : State) (a : Nat) (w : Word) (hn : a / 65536 = n) :
    Moves (0x8000000 ||| 2 ^ (33 + n)) s (s.setWord a w) :=
  { Moves.refl _ s with
    regs := fun b => by simp [Nat.testBit_or] at b; exact absurd b.1 (by decide)
    words := fun x _ b => sparseGet_put_ne _ _ _ (fun e => by
      rw [e, hn, Nat.testBit_or, Nat.testBit_two_pow_self, Bool.or_true] at b; cases b)
    canonical := fun c => by
      simp only [State.canonical, State.setWord, Bool.and_eq_true] at c ⊢
      exact ⟨⟨sparseWf_put a w c.1.1, c.1.2⟩, c.2⟩ }

/-- The set of all blocks. -/
def allBlocks : Nat := 0xFFFFFFE08000000

theorem State.setWord_movesAny (s : State) (a : Nat) (w : Word) : Moves allBlocks s (s.setWord a w) :=
  { Moves.refl _ s with
    regs := fun b => absurd b (by decide)
    words := fun x hx b => absurd b (by
      have : ∀ k < 27, allBlocks.testBit (33 + k) = true := by decide
      rw [this _ hx]; decide)
    canonical := fun c => by
      simp only [State.canonical, State.setWord, Bool.and_eq_true] at c ⊢
      exact ⟨⟨sparseWf_put a w c.1.1, c.1.2⟩, c.2⟩ }

section
variable {M n : Nat} {s0 s : State}

theorem Moves.p_setWord {a : Nat} {w : Word} (hn : a / 65536 = n) (hm : 0x8000000 ||| M = M) (hb : 2 ^ (33 + n) ||| M = M)
    (h : Moves M s0 s) : Moves M s0 (s.setWord a w) := Moves.step (State.setWord_moves s a w hn) (or_sub hm hb) h

theorem Moves.a_setWord {a : Nat} {w : Word} (hm : allBlocks ||| M = M) (h : Moves M s0 s) : Moves M s0 (s.setWord a w) :=
  Moves.step (State.setWord_movesAny s a w) hm h

theorem Moves.p_setBit {a i : Nat} (hn : a / 65536 = n) (hm : 0x8000000 ||| M = M) (hb : 2 ^ (33 + n) ||| M = M)
    (h : Moves M s0 s) : Moves M s0 (s.setBit a i) := Moves.p_setWord hn hm hb h

theorem Moves.p_put {f : Field} {v : Nat} (hn : f.addr / 65536 = n) (hm : 0x8000000 ||| M = M) (hb : 2 ^ (33 + n) ||| M = M)
    (h : Moves M s0 s) : Moves M s0 (s.put f v) := Moves.p_setWord hn hm hb h

theorem Moves.a_put {f : Field} {v : Nat} (hm : allBlocks ||| M = M) (h : Moves M s0 s) : Moves M s0 (s.put f v) :=
  Moves.a_setWord hm h

theorem Moves.p_puti {f : Field} {v : Int} (hn : f.addr / 65536 = n) (hm : 0x8000000 ||| M = M) (hb : 2 ^ (33 + n) ||| M = M)
    (h : Moves M s0 s) : Moves M s0 (s.puti f v) := Moves.p_setWord hn hm hb h

theorem Moves.p_putb {f : Field} {v : Bool} (hn : f.addr / 65536 = n) (hm : 0x8000000 ||| M = M) (hb : 2 ^ (33 + n) ||| M = M)
    (h : Moves M s0 s) : Moves M s0 (s.putb f v) := Moves.p_setWord hn hm hb h

theorem Moves.p_inc {f : Field} (hn : f.addr / 65536 = n) (hm : 0x8000000 ||| M = M) (hb : 2 ^ (33 + n) ||| M = M)
    (h : Moves M s0 s) : Moves M s0 (s.inc f) := Moves.p_setWord hn hm hb h

theorem Moves.p_add {f : Field} {k : Nat} (hn : f.addr / 65536 = n) (hm : 0x8000000 ||| M = M) (hb : 2 ^ (33 + n) ||| M = M)
    (h : Moves M s0 s) : Moves M s0 (s.add f k) := Moves.p_setWord hn hm hb h

theorem Moves.p_incWrap {f : Field} (hn : f.addr / 65536 = n) (hm : 0x8000000 ||| M = M) (hb : 2 ^ (33 + n) ||| M = M)
    (h : Moves M s0 s) : Moves M s0 (s.incWrap f) := Moves.p_setWord hn hm hb h

theorem Moves.p_put64 {f g : Field} {v : Stamp} (hn : f.addr / 65536 = n ∧ g.addr / 65536 = n) (hm : 0x8000000 ||| M = M)
    (hb : 2 ^ (33 + n) ||| M = M) (h : Moves M s0 s) : Moves M s0 (s.put64 f g v) :=
  Moves.p_put hn.2 hm hb (Moves.p_put hn.1 hm hb h)

theorem Moves.q_put {k : Nat} {f : Field} {v : Nat} (hn : f.addr / 65536 = n ∨ f.addr / 65536 = k) (hm : 0x8000000 ||| M = M)
    (hb : 2 ^ (33 + n) ||| M = M) (hc : 2 ^ (33 + k) ||| M = M) (h : Moves M s0 s) : Moves M s0 (s.put f v) :=
  hn.elim (fun e => Moves.p_put e hm hb h) (fun e => Moves.p_put e hm hc h)

theorem Moves.q_putb {k : Nat} {f : Field} {v : Bool} (hn : f.addr / 65536 = n ∨ f.addr / 65536 = k) (hm : 0x8000000 ||| M = M)
    (hb : 2 ^ (33 + n) ||| M = M) (hc : 2 ^ (33 + k) ||| M = M) (h : Moves M s0 s) : Moves M s0 (s.putb f v) :=
  hn.elim (fun e => Moves.p_putb e hm hb h) (fun e => Moves.p_putb e hm hc h)

theorem Moves.q_inc {k : Nat} {f : Field} (hn : f.addr / 65536 = n ∨ f.addr / 65536 = k) (hm : 0x8000000 ||| M = M)
    (hb : 2 ^ (33 + n) ||| M = M) (hc : 2 ^ (33 + k) ||| M = M) (h : Moves M s0 s) : Moves M s0 (s.inc f) :=
  hn.elim (fun e => Moves.p_inc e hm hb h) (fun e => Moves.p_inc e hm hc h)

theorem Moves.q_incWrap {k : Nat} {f : Field} (hn : f.addr / 65536 = n ∨ f.addr / 65536 = k) (hm : 0x8000000 ||| M = M)
    (hb : 2 ^ (33 + n) ||| M = M) (hc : 2 ^ (33 + k) ||| M = M) (h : Moves M s0 s) : Moves M s0 (s.incWrap f) :=
  hn.elim (fun e => Moves.p_incWrap e hm hb h) (fun e => Moves.p_incWrap e hm hc h)

theorem Moves.p_each_put {l : List Field} {g : Field → Nat} (hn : ∀ f ∈ l, f.addr / 65536 = n) (hm : 0x8000000 ||| M = M)
    (hb : 2 ^ (33 + n) ||| M = M) : ∀ {s : State}, Moves M s0 s → Moves M s0 (s.each l (fun u f => u.put f (g f))) := by
  unfold State.each
  induction l with
  | nil => exact fun h => h
  | cons f l ih =>
    exact fun h => ih (fun x hx => hn x (List.mem_cons_of_mem _ hx)) (Moves.p_put (hn f List.mem_cons_self) hm hb h)

end

theorem Moves.snd {α : Type} {M : Nat} {s0 b : State} {p : α × State} {a : α} (e : p = (a, b)) (h : Moves M s0 p.2) :
    Moves M s0 b := by subst e; exact h

theorem Moves.fst {α : Type} {M : Nat} {s0 b : State} {p : State × α} {a : α} (e : p = (b, a)) (h : Moves M s0 p.1) :
    Moves M s0 b := by subst e; exact h

theorem Moves.trd {α β : Type} {M : Nat} {s0 b : State} {p : α × β × State} {a : α} {c : β} (e : p = (a, c, b))
    (h : Moves M s0 p.2.2) : Moves M s0 b := by subst e; exact h

theorem Moves.ite {M : Nat} {s0 s t : State} {c : Prop} [Decidable c] (h : Moves M s0 s) (g : Moves M s0 t) :
    Moves M s0 (if c then s else t) := by split <;> assumption

theorem Moves.foldl {α : Type} {M : Nat} {s0 : State} {g : State → α → State}
    (hg : ∀ t x, Moves M s0 t → Moves M s0 (g t x)) (l : List α) {s : State} (h : Moves M s0 s) : Moves M s0 (l.foldl g s) := by
  induction l generalizing s with
  | nil => exact h
  | cons x l ih => exact ih (hg s x h)

theorem Moves.foldlMem {α : Type} {M : Nat} {s0 : State} {g : State → α → State} {l : List α}
    (hg : ∀ t x, x ∈ l → Moves M s0 t → Moves M s0 (g t x)) {s : State} (h : Moves M s0 s) : Moves M s0 (l.foldl g s) := by
  induction l generalizing s with
  | nil => exact h
  | cons x l ih => exact ih (fun t y hy => hg t y (List.mem_cons_of_mem _ hy)) (hg s x List.mem_cons_self h)

theorem Moves.foldlFst {α β : Type} {M : Nat} {s0 : State} {g : State × β → α → State × β}
    (hg : ∀ p x, Moves M s0 p.1 → Moves M s0 (g p x).1) (l : List α) {p : State × β} (h : Moves M s0 p.1) :
    Moves M s0 (l.foldl g p).1 := by
  induction l generalizing p with
  | nil => exact h
  | cons x l ih => exact ih (hg p x h)

theorem Moves.foldlSnd {α β : Type} {M : Nat} {s0 : State} {g : β × State → α → β × State}
    (hg : ∀ p x, Moves M s0 p.2 → Moves M s0 (g p x).2) (l : List α) {p : β × State} (h : Moves M s0 p.2) :
    Moves M s0 (l.foldl g p).2 := by
  induction l generalizing p with
  | nil => exact h
  | cons x l ih => exact ih (hg p x h)

theorem Moves.each {α : Type} {M : Nat} {s0 : State} {g : State → α → State}
    (hg : ∀ t x, Moves M s0 t → Moves M s0 (g t x)) {l : List α} {s : State} (h : Moves M s0 s) : Moves M s0 (s.each l g) :=
  Moves.foldl hg l h

theorem Moves.iff {M : Nat} {s0 : State} {g : State → State} {c : Bool} (hg : ∀ t, Moves M s0 t → Moves M s0 (g t)) {s : State}
    (h : Moves M s0 s) : Moves M s0 (s.iff c g) := by
  unfold State.iff; split
  · exact hg _ h
  · exact h

/-- The update of berth as an operation of its own. -/
def State.with_berth (s : State) (v0 : type_of% State.reset.berth) : State := { s with berth := v0 }
theorem State.upd_berth (s : State) (v0 : type_of% State.reset.berth) : { s with berth := v0 } = s.with_berth v0 := (rfl)
theorem State.with_berth_moves (s : State) (v0 : type_of% State.reset.berth) : Moves 0x800 s (s.with_berth v0) :=
  { Moves.refl _ s with words := fun _ _ _ => rfl, berth := fun b => absurd b (by decide) }
@[simp] theorem State.with_berth_regs (s : State) (v0 : type_of% State.reset.berth) : (s.with_berth v0).regs = s.regs := (rfl)
@[simp] theorem State.with_berth_get (s : State) (v0 : type_of% State.reset.berth) (f : Field) : (s.with_berth v0).get f = s.get f := (rfl)
@[simp] theorem State.with_berth_berth (s : State) (v0 : type_of% State.reset.berth) : (s.with_berth v0).berth = v0 := (rfl)

/-- The update of berth, tx as an operation of its own. -/
def State.with_berth_tx (s : State) (v0 : type_of% State.reset.berth) (v1 : type_of% State.reset.tx) : State := { s with berth := v0, tx := v1 }
theorem State.upd_berth_tx (s : State) (v0 : type_of% State.reset.berth) (v1 : type_of% State.reset.tx) : { s with berth := v0, tx := v1 } = s.with_berth_tx v0 v1 := (rfl)
theorem State.with_berth_tx_moves (s : State) (v0 : type_of% State.reset.berth) (v1 : type_of% State.reset.tx) : Moves 0x900 s (s.with_berth_tx v0 v1) :=
  { Moves.refl _ s with words := fun _ _ _ => rfl, berth := fun b => absurd b (by decide), tx := fun b => absurd b (by decide) }
@[simp] theorem State.with_berth_tx_regs (s : State) (v0 : type_of% State.reset.berth) (v1 : type_of% State.reset.tx) : (s.with_berth_tx v0 v1).regs = s.regs := (rfl)
@[simp] theorem State.with_berth_tx_get (s : State) (v0 : type_of% State.reset.berth) (v1 : type_of% State.reset.tx) (f : Field) : (s.with_berth_tx v0 v1).get f = s.get f := (rfl)
@[simp] theorem State.with_berth_tx_berth (s : State) (v0 : type_of% State.reset.berth) (v1 : type_of% State.reset.tx) : (s.with_berth_tx v0 v1).berth = v0 := (rfl)
@[simp] theorem State.with_berth_tx_tx (s : State) (v0 : type_of% State.reset.berth) (v1 : type_of% State.reset.tx) : (s.with_berth_tx v0 v1).tx = v1 := (rfl)

/-- The update of boot as an operation of its own. -/
def State.with_boot (s : State) (v0 : type_of% State.reset.boot) : State := { s with boot := v0 }
theorem State.upd_boot (s : State) (v0 : type_of% State.reset.boot) : { s with boot := v0 } = s.with_boot v0 := (rfl)
theorem State.with_boot_moves (s : State) (v0 : type_of% State.reset.boot) : Moves 0x10 s (s.with_boot v0) :=
  { Moves.refl _ s with words := fun _ _ _ => rfl, boot := fun b => absurd b (by decide) }
@[simp] theorem State.with_boot_regs (s : State) (v0 : type_of% State.reset.boot) : (s.with_boot v0).regs = s.regs := (rfl)
@[simp] theorem State.with_boot_get (s : State) (v0 : type_of% State.reset.boot) (f : Field) : (s.with_boot v0).get f = s.get f := (rfl)
@[simp] theorem State.with_boot_boot (s : State) (v0 : type_of% State.reset.boot) : (s.with_boot v0).boot = v0 := (rfl)

/-- The update of boot, power as an operation of its own. -/
def State.with_boot_power (s : State) (v0 : type_of% State.reset.boot) (v1 : type_of% State.reset.power) : State := { s with boot := v0, power := v1 }
theorem State.upd_boot_power (s : State) (v0 : type_of% State.reset.boot) (v1 : type_of% State.reset.power) : { s with boot := v0, power := v1 } = s.with_boot_power v0 v1 := (rfl)
theorem State.with_boot_power_moves (s : State) (v0 : type_of% State.reset.boot) (v1 : type_of% State.reset.power) : Moves 0x11 s (s.with_boot_power v0 v1) :=
  { Moves.refl _ s with words := fun _ _ _ => rfl, boot := fun b => absurd b (by decide), power := fun b => absurd b (by decide) }
@[simp] theorem State.with_boot_power_regs (s : State) (v0 : type_of% State.reset.boot) (v1 : type_of% State.reset.power) : (s.with_boot_power v0 v1).regs = s.regs := (rfl)
@[simp] theorem State.with_boot_power_get (s : State) (v0 : type_of% State.reset.boot) (v1 : type_of% State.reset.power) (f : Field) : (s.with_boot_power v0 v1).get f = s.get f := (rfl)
@[simp] theorem State.with_boot_power_boot (s : State) (v0 : type_of% State.reset.boot) (v1 : type_of% State.reset.power) : (s.with_boot_power v0 v1).boot = v0 := (rfl)
@[simp] theorem State.with_boot_power_power (s : State) (v0 : type_of% State.reset.boot) (v1 : type_of% State.reset.power) : (s.with_boot_power v0 v1).power = v1 := (rfl)

/-- The update of bwtr as an operation of its own. -/
def State.with_bwtr (s : State) (v0 : type_of% State.reset.bwtr) : State := { s with bwtr := v0 }
theorem State.upd_bwtr (s : State) (v0 : type_of% State.reset.bwtr) : { s with bwtr := v0 } = s.with_bwtr v0 := (rfl)
theorem State.with_bwtr_moves (s : State) (v0 : type_of% State.reset.bwtr) : Moves 0x20000 s (s.with_bwtr v0) :=
  { Moves.refl _ s with words := fun _ _ _ => rfl, bwtr := fun b => absurd b (by decide) }
@[simp] theorem State.with_bwtr_regs (s : State) (v0 : type_of% State.reset.bwtr) : (s.with_bwtr v0).regs = s.regs := (rfl)
@[simp] theorem State.with_bwtr_get (s : State) (v0 : type_of% State.reset.bwtr) (f : Field) : (s.with_bwtr v0).get f = s.get f := (rfl)
@[simp] theorem State.with_bwtr_bwtr (s : State) (v0 : type_of% State.reset.bwtr) : (s.with_bwtr v0).bwtr = v0 := (rfl)

/-- The update of clk as an operation of its own. -/
def State.with_clk (s : State) (v0 : type_of% State.reset.clk) : State := { s with clk := v0 }
theorem State.upd_clk (s : State) (v0 : type_of% State.reset.clk) : { s with clk := v0 } = s.with_clk v0 := (rfl)
theorem State.with_clk_moves (s : State) (v0 : type_of% State.reset.clk) : Moves 0x8 s (s.with_clk v0) :=
  { Moves.refl _ s with words := fun _ _ _ => rfl, clk := fun b => absurd b (by decide) }
@[simp] theorem State.with_clk_regs (s : State) (v0 : type_of% State.reset.clk) : (s.with_clk v0).regs = s.regs := (rfl)
@[simp] theorem State.with_clk_get (s : State) (v0 : type_of% State.reset.clk) (f : Field) : (s.with_clk v0).get f = s.get f := (rfl)
@[simp] theorem State.with_clk_clk (s : State) (v0 : type_of% State.reset.clk) : (s.with_clk v0).clk = v0 := (rfl)

/-- The update of crane as an operation of its own. -/
def State.with_crane (s : State) (v0 : type_of% State.reset.crane) : State := { s with crane := v0 }
theorem State.upd_crane (s : State) (v0 : type_of% State.reset.crane) : { s with crane := v0 } = s.with_crane v0 := (rfl)
theorem State.with_crane_moves (s : State) (v0 : type_of% State.reset.crane) : Moves 0x100000 s (s.with_crane v0) :=
  { Moves.refl _ s with words := fun _ _ _ => rfl, crane := fun b => absurd b (by decide) }
@[simp] theorem State.with_crane_regs (s : State) (v0 : type_of% State.reset.crane) : (s.with_crane v0).regs = s.regs := (rfl)
@[simp] theorem State.with_crane_get (s : State) (v0 : type_of% State.reset.crane) (f : Field) : (s.with_crane v0).get f = s.get f := (rfl)
@[simp] theorem State.with_crane_crane (s : State) (v0 : type_of% State.reset.crane) : (s.with_crane v0).crane = v0 := (rfl)

/-- The update of dpd as an operation of its own. -/
def State.with_dpd (s : State) (v0 : type_of% State.reset.dpd) : State := { s with dpd := v0 }
theorem State.upd_dpd (s : State) (v0 : type_of% State.reset.dpd) : { s with dpd := v0 } = s.with_dpd v0 := (rfl)
theorem State.with_dpd_moves (s : State) (v0 : type_of% State.reset.dpd) : Moves 0x200 s (s.with_dpd v0) :=
  { Moves.refl _ s with words := fun _ _ _ => rfl, dpd := fun b => absurd b (by decide) }
@[simp] theorem State.with_dpd_regs (s : State) (v0 : type_of% State.reset.dpd) : (s.with_dpd v0).regs = s.regs := (rfl)
@[simp] theorem State.with_dpd_get (s : State) (v0 : type_of% State.reset.dpd) (f : Field) : (s.with_dpd v0).get f = s.get f := (rfl)
@[simp] theorem State.with_dpd_dpd (s : State) (v0 : type_of% State.reset.dpd) : (s.with_dpd v0).dpd = v0 := (rfl)

/-- The update of dpd, tx as an operation of its own. -/
def State.with_dpd_tx (s : State) (v0 : type_of% State.reset.dpd) (v1 : type_of% State.reset.tx) : State := { s with dpd := v0, tx := v1 }
theorem State.upd_dpd_tx (s : State) (v0 : type_of% State.reset.dpd) (v1 : type_of% State.reset.tx) : { s with dpd := v0, tx := v1 } = s.with_dpd_tx v0 v1 := (rfl)
theorem State.with_dpd_tx_moves (s : State) (v0 : type_of% State.reset.dpd) (v1 : type_of% State.reset.tx) : Moves 0x300 s (s.with_dpd_tx v0 v1) :=
  { Moves.refl _ s with words := fun _ _ _ => rfl, dpd := fun b => absurd b (by decide), tx := fun b => absurd b (by decide) }
@[simp] theorem State.with_dpd_tx_regs (s : State) (v0 : type_of% State.reset.dpd) (v1 : type_of% State.reset.tx) : (s.with_dpd_tx v0 v1).regs = s.regs := (rfl)
@[simp] theorem State.with_dpd_tx_get (s : State) (v0 : type_of% State.reset.dpd) (v1 : type_of% State.reset.tx) (f : Field) : (s.with_dpd_tx v0 v1).get f = s.get f := (rfl)
@[simp] theorem State.with_dpd_tx_dpd (s : State) (v0 : type_of% State.reset.dpd) (v1 : type_of% State.reset.tx) : (s.with_dpd_tx v0 v1).dpd = v0 := (rfl)
@[simp] theorem State.with_dpd_tx_tx (s : State) (v0 : type_of% State.reset.dpd) (v1 : type_of% State.reset.tx) : (s.with_dpd_tx v0 v1).tx = v1 := (rfl)

/-- The update of fend as an operation of its own. -/
def State.with_fend (s : State) (v0 : type_of% State.reset.fend) : State := { s with fend := v0 }
theorem State.upd_fend (s : State) (v0 : type_of% State.reset.fend) : { s with fend := v0 } = s.with_fend v0 := (rfl)
theorem State.with_fend_moves (s : State) (v0 : type_of% State.reset.fend) : Moves 0x10000 s (s.with_fend v0) :=
  { Moves.refl _ s with words := fun _ _ _ => rfl, fend := fun b => absurd b (by decide) }
@[simp] theorem State.with_fend_regs (s : State) (v0 : type_of% State.reset.fend) : (s.with_fend v0).regs = s.regs := (rfl)
@[simp] theorem State.with_fend_get (s : State) (v0 : type_of% State.reset.fend) (f : Field) : (s.with_fend v0).get f = s.get f := (rfl)
@[simp] theorem State.with_fend_fend (s : State) (v0 : type_of% State.reset.fend) : (s.with_fend v0).fend = v0 := (rfl)

/-- The update of fend, berth as an operation of its own. -/
def State.with_fend_berth (s : State) (v0 : type_of% State.reset.fend) (v1 : type_of% State.reset.berth) : State := { s with fend := v0, berth := v1 }
theorem State.upd_fend_berth (s : State) (v0 : type_of% State.reset.fend) (v1 : type_of% State.reset.berth) : { s with fend := v0, berth := v1 } = s.with_fend_berth v0 v1 := (rfl)
theorem State.with_fend_berth_moves (s : State) (v0 : type_of% State.reset.fend) (v1 : type_of% State.reset.berth) : Moves 0x10800 s (s.with_fend_berth v0 v1) :=
  { Moves.refl _ s with words := fun _ _ _ => rfl, fend := fun b => absurd b (by decide), berth := fun b => absurd b (by decide) }
@[simp] theorem State.with_fend_berth_regs (s : State) (v0 : type_of% State.reset.fend) (v1 : type_of% State.reset.berth) : (s.with_fend_berth v0 v1).regs = s.regs := (rfl)
@[simp] theorem State.with_fend_berth_get (s : State) (v0 : type_of% State.reset.fend) (v1 : type_of% State.reset.berth) (f : Field) : (s.with_fend_berth v0 v1).get f = s.get f := (rfl)
@[simp] theorem State.with_fend_berth_fend (s : State) (v0 : type_of% State.reset.fend) (v1 : type_of% State.reset.berth) : (s.with_fend_berth v0 v1).fend = v0 := (rfl)
@[simp] theorem State.with_fend_berth_berth (s : State) (v0 : type_of% State.reset.fend) (v1 : type_of% State.reset.berth) : (s.with_fend_berth v0 v1).berth = v1 := (rfl)

/-- The update of fend, tx as an operation of its own. -/
def State.with_fend_tx (s : State) (v0 : type_of% State.reset.fend) (v1 : type_of% State.reset.tx) : State := { s with fend := v0, tx := v1 }
theorem State.upd_fend_tx (s : State) (v0 : type_of% State.reset.fend) (v1 : type_of% State.reset.tx) : { s with fend := v0, tx := v1 } = s.with_fend_tx v0 v1 := (rfl)
theorem State.with_fend_tx_moves (s : State) (v0 : type_of% State.reset.fend) (v1 : type_of% State.reset.tx) : Moves 0x10100 s (s.with_fend_tx v0 v1) :=
  { Moves.refl _ s with words := fun _ _ _ => rfl, fend := fun b => absurd b (by decide), tx := fun b => absurd b (by decide) }
@[simp] theorem State.with_fend_tx_regs (s : State) (v0 : type_of% State.reset.fend) (v1 : type_of% State.reset.tx) : (s.with_fend_tx v0 v1).regs = s.regs := (rfl)
@[simp] theorem State.with_fend_tx_get (s : State) (v0 : type_of% State.reset.fend) (v1 : type_of% State.reset.tx) (f : Field) : (s.with_fend_tx v0 v1).get f = s.get f := (rfl)
@[simp] theorem State.with_fend_tx_fend (s : State) (v0 : type_of% State.reset.fend) (v1 : type_of% State.reset.tx) : (s.with_fend_tx v0 v1).fend = v0 := (rfl)
@[simp] theorem State.with_fend_tx_tx (s : State) (v0 : type_of% State.reset.fend) (v1 : type_of% State.reset.tx) : (s.with_fend_tx v0 v1).tx = v1 := (rfl)

/-- The update of hiLatch as an operation of its own. -/
def State.with_hiLatch (s : State) (v0 : type_of% State.reset.hiLatch) : State := { s with hiLatch := v0 }
theorem State.upd_hiLatch (s : State) (v0 : type_of% State.reset.hiLatch) : { s with hiLatch := v0 } = s.with_hiLatch v0 := (rfl)
theorem State.with_hiLatch_moves (s : State) (v0 : type_of% State.reset.hiLatch) : Moves 0x2000000 s (s.with_hiLatch v0) :=
  { Moves.refl _ s with words := fun _ _ _ => rfl, hiLatch := fun b => absurd b (by decide) }
@[simp] theorem State.with_hiLatch_regs (s : State) (v0 : type_of% State.reset.hiLatch) : (s.with_hiLatch v0).regs = s.regs := (rfl)
@[simp] theorem State.with_hiLatch_get (s : State) (v0 : type_of% State.reset.hiLatch) (f : Field) : (s.with_hiLatch v0).get f = s.get f := (rfl)
@[simp] theorem State.with_hiLatch_hiLatch (s : State) (v0 : type_of% State.reset.hiLatch) : (s.with_hiLatch v0).hiLatch = v0 := (rfl)

/-- The update of hold as an operation of its own. -/
def State.with_hold (s : State) (v0 : type_of% State.reset.hold) : State := { s with hold := v0 }
theorem State.upd_hold (s : State) (v0 : type_of% State.reset.hold) : { s with hold := v0 } = s.with_hold v0 := (rfl)
theorem State.with_hold_moves (s : State) (v0 : type_of% State.reset.hold) : Moves 0x80000 s (s.with_hold v0) :=
  { Moves.refl _ s with words := fun _ _ _ => rfl, hold := fun b => absurd b (by decide) }
@[simp] theorem State.with_hold_regs (s : State) (v0 : type_of% State.reset.hold) : (s.with_hold v0).regs = s.regs := (rfl)
@[simp] theorem State.with_hold_get (s : State) (v0 : type_of% State.reset.hold) (f : Field) : (s.with_hold v0).get f = s.get f := (rfl)
@[simp] theorem State.with_hold_hold (s : State) (v0 : type_of% State.reset.hold) : (s.with_hold v0).hold = v0 := (rfl)

/-- The update of hold, fuses as an operation of its own. -/
def State.with_hold_fuses (s : State) (v0 : type_of% State.reset.hold) (v1 : type_of% State.reset.fuses) : State := { s with hold := v0, fuses := v1 }
theorem State.upd_hold_fuses (s : State) (v0 : type_of% State.reset.hold) (v1 : type_of% State.reset.fuses) : { s with hold := v0, fuses := v1 } = s.with_hold_fuses v0 v1 := (rfl)
theorem State.with_hold_fuses_moves (s : State) (v0 : type_of% State.reset.hold) (v1 : type_of% State.reset.fuses) : Moves 0x80004 s (s.with_hold_fuses v0 v1) :=
  { Moves.refl _ s with words := fun _ _ _ => rfl, hold := fun b => absurd b (by decide), fuses := fun b => absurd b (by decide) }
@[simp] theorem State.with_hold_fuses_regs (s : State) (v0 : type_of% State.reset.hold) (v1 : type_of% State.reset.fuses) : (s.with_hold_fuses v0 v1).regs = s.regs := (rfl)
@[simp] theorem State.with_hold_fuses_get (s : State) (v0 : type_of% State.reset.hold) (v1 : type_of% State.reset.fuses) (f : Field) : (s.with_hold_fuses v0 v1).get f = s.get f := (rfl)
@[simp] theorem State.with_hold_fuses_hold (s : State) (v0 : type_of% State.reset.hold) (v1 : type_of% State.reset.fuses) : (s.with_hold_fuses v0 v1).hold = v0 := (rfl)
@[simp] theorem State.with_hold_fuses_fuses (s : State) (v0 : type_of% State.reset.hold) (v1 : type_of% State.reset.fuses) : (s.with_hold_fuses v0 v1).fuses = v1 := (rfl)

/-- The update of jtag as an operation of its own. -/
def State.with_jtag (s : State) (v0 : type_of% State.reset.jtag) : State := { s with jtag := v0 }
theorem State.upd_jtag (s : State) (v0 : type_of% State.reset.jtag) : { s with jtag := v0 } = s.with_jtag v0 := (rfl)
theorem State.with_jtag_moves (s : State) (v0 : type_of% State.reset.jtag) : Moves 0x1000000 s (s.with_jtag v0) :=
  { Moves.refl _ s with words := fun _ _ _ => rfl, jtag := fun b => absurd b (by decide) }
@[simp] theorem State.with_jtag_regs (s : State) (v0 : type_of% State.reset.jtag) : (s.with_jtag v0).regs = s.regs := (rfl)
@[simp] theorem State.with_jtag_get (s : State) (v0 : type_of% State.reset.jtag) (f : Field) : (s.with_jtag v0).get f = s.get f := (rfl)
@[simp] theorem State.with_jtag_jtag (s : State) (v0 : type_of% State.reset.jtag) : (s.with_jtag v0).jtag = v0 := (rfl)

/-- The update of jtag, pins as an operation of its own. -/
def State.with_jtag_pins (s : State) (v0 : type_of% State.reset.jtag) (v1 : type_of% State.reset.pins) : State := { s with jtag := v0, pins := v1 }
theorem State.upd_jtag_pins (s : State) (v0 : type_of% State.reset.jtag) (v1 : type_of% State.reset.pins) : { s with jtag := v0, pins := v1 } = s.with_jtag_pins v0 v1 := (rfl)
theorem State.with_jtag_pins_moves (s : State) (v0 : type_of% State.reset.jtag) (v1 : type_of% State.reset.pins) : Moves 0x1000002 s (s.with_jtag_pins v0 v1) :=
  { Moves.refl _ s with words := fun _ _ _ => rfl, jtag := fun b => absurd b (by decide), pins := fun b => absurd b (by decide) }
@[simp] theorem State.with_jtag_pins_regs (s : State) (v0 : type_of% State.reset.jtag) (v1 : type_of% State.reset.pins) : (s.with_jtag_pins v0 v1).regs = s.regs := (rfl)
@[simp] theorem State.with_jtag_pins_get (s : State) (v0 : type_of% State.reset.jtag) (v1 : type_of% State.reset.pins) (f : Field) : (s.with_jtag_pins v0 v1).get f = s.get f := (rfl)
@[simp] theorem State.with_jtag_pins_jtag (s : State) (v0 : type_of% State.reset.jtag) (v1 : type_of% State.reset.pins) : (s.with_jtag_pins v0 v1).jtag = v0 := (rfl)
@[simp] theorem State.with_jtag_pins_pins (s : State) (v0 : type_of% State.reset.jtag) (v1 : type_of% State.reset.pins) : (s.with_jtag_pins v0 v1).pins = v1 := (rfl)

/-- The update of limits as an operation of its own. -/
def State.with_limits (s : State) (v0 : type_of% State.reset.limits) : State := { s with limits := v0 }
theorem State.upd_limits (s : State) (v0 : type_of% State.reset.limits) : { s with limits := v0 } = s.with_limits v0 := (rfl)
theorem State.with_limits_moves (s : State) (v0 : type_of% State.reset.limits) : Moves 0x4000000 s (s.with_limits v0) :=
  { Moves.refl _ s with words := fun _ _ _ => rfl, limits := fun b => absurd b (by decide) }
@[simp] theorem State.with_limits_regs (s : State) (v0 : type_of% State.reset.limits) : (s.with_limits v0).regs = s.regs := (rfl)
@[simp] theorem State.with_limits_get (s : State) (v0 : type_of% State.reset.limits) (f : Field) : (s.with_limits v0).get f = s.get f := (rfl)
@[simp] theorem State.with_limits_limits (s : State) (v0 : type_of% State.reset.limits) : (s.with_limits v0).limits = v0 := (rfl)

/-- The update of link as an operation of its own. -/
def State.with_link (s : State) (v0 : type_of% State.reset.link) : State := { s with link := v0 }
theorem State.upd_link (s : State) (v0 : type_of% State.reset.link) : { s with link := v0 } = s.with_link v0 := (rfl)
theorem State.with_link_moves (s : State) (v0 : type_of% State.reset.link) : Moves 0x1000 s (s.with_link v0) :=
  { Moves.refl _ s with words := fun _ _ _ => rfl, link := fun b => absurd b (by decide) }
@[simp] theorem State.with_link_regs (s : State) (v0 : type_of% State.reset.link) : (s.with_link v0).regs = s.regs := (rfl)
@[simp] theorem State.with_link_get (s : State) (v0 : type_of% State.reset.link) (f : Field) : (s.with_link v0).get f = s.get f := (rfl)
@[simp] theorem State.with_link_link (s : State) (v0 : type_of% State.reset.link) : (s.with_link v0).link = v0 := (rfl)

/-- The update of link, clk as an operation of its own. -/
def State.with_link_clk (s : State) (v0 : type_of% State.reset.link) (v1 : type_of% State.reset.clk) : State := { s with link := v0, clk := v1 }
theorem State.upd_link_clk (s : State) (v0 : type_of% State.reset.link) (v1 : type_of% State.reset.clk) : { s with link := v0, clk := v1 } = s.with_link_clk v0 v1 := (rfl)
theorem State.with_link_clk_moves (s : State) (v0 : type_of% State.reset.link) (v1 : type_of% State.reset.clk) : Moves 0x1008 s (s.with_link_clk v0 v1) :=
  { Moves.refl _ s with words := fun _ _ _ => rfl, link := fun b => absurd b (by decide), clk := fun b => absurd b (by decide) }
@[simp] theorem State.with_link_clk_regs (s : State) (v0 : type_of% State.reset.link) (v1 : type_of% State.reset.clk) : (s.with_link_clk v0 v1).regs = s.regs := (rfl)
@[simp] theorem State.with_link_clk_get (s : State) (v0 : type_of% State.reset.link) (v1 : type_of% State.reset.clk) (f : Field) : (s.with_link_clk v0 v1).get f = s.get f := (rfl)
@[simp] theorem State.with_link_clk_link (s : State) (v0 : type_of% State.reset.link) (v1 : type_of% State.reset.clk) : (s.with_link_clk v0 v1).link = v0 := (rfl)
@[simp] theorem State.with_link_clk_clk (s : State) (v0 : type_of% State.reset.link) (v1 : type_of% State.reset.clk) : (s.with_link_clk v0 v1).clk = v1 := (rfl)

/-- The update of look as an operation of its own. -/
def State.with_look (s : State) (v0 : type_of% State.reset.look) : State := { s with look := v0 }
theorem State.upd_look (s : State) (v0 : type_of% State.reset.look) : { s with look := v0 } = s.with_look v0 := (rfl)
theorem State.with_look_moves (s : State) (v0 : type_of% State.reset.look) : Moves 0x8000 s (s.with_look v0) :=
  { Moves.refl _ s with words := fun _ _ _ => rfl, look := fun b => absurd b (by decide) }
@[simp] theorem State.with_look_regs (s : State) (v0 : type_of% State.reset.look) : (s.with_look v0).regs = s.regs := (rfl)
@[simp] theorem State.with_look_get (s : State) (v0 : type_of% State.reset.look) (f : Field) : (s.with_look v0).get f = s.get f := (rfl)
@[simp] theorem State.with_look_look (s : State) (v0 : type_of% State.reset.look) : (s.with_look v0).look = v0 := (rfl)

/-- The update of mon as an operation of its own. -/
def State.with_mon (s : State) (v0 : type_of% State.reset.mon) : State := { s with mon := v0 }
theorem State.upd_mon (s : State) (v0 : type_of% State.reset.mon) : { s with mon := v0 } = s.with_mon v0 := (rfl)
theorem State.with_mon_moves (s : State) (v0 : type_of% State.reset.mon) : Moves 0x40000 s (s.with_mon v0) :=
  { Moves.refl _ s with words := fun _ _ _ => rfl, mon := fun b => absurd b (by decide) }
@[simp] theorem State.with_mon_regs (s : State) (v0 : type_of% State.reset.mon) : (s.with_mon v0).regs = s.regs := (rfl)
@[simp] theorem State.with_mon_get (s : State) (v0 : type_of% State.reset.mon) (f : Field) : (s.with_mon v0).get f = s.get f := (rfl)
@[simp] theorem State.with_mon_mon (s : State) (v0 : type_of% State.reset.mon) : (s.with_mon v0).mon = v0 := (rfl)

/-- The update of msgs as an operation of its own. -/
def State.with_msgs (s : State) (v0 : type_of% State.reset.msgs) : State := { s with msgs := v0 }
theorem State.upd_msgs (s : State) (v0 : type_of% State.reset.msgs) : { s with msgs := v0 } = s.with_msgs v0 := (rfl)
theorem State.with_msgs_moves (s : State) (v0 : type_of% State.reset.msgs) : Moves 0x2000 s (s.with_msgs v0) :=
  { Moves.refl _ s with words := fun _ _ _ => rfl, msgs := fun b => absurd b (by decide) }
@[simp] theorem State.with_msgs_regs (s : State) (v0 : type_of% State.reset.msgs) : (s.with_msgs v0).regs = s.regs := (rfl)
@[simp] theorem State.with_msgs_get (s : State) (v0 : type_of% State.reset.msgs) (f : Field) : (s.with_msgs v0).get f = s.get f := (rfl)
@[simp] theorem State.with_msgs_msgs (s : State) (v0 : type_of% State.reset.msgs) : (s.with_msgs v0).msgs = v0 := (rfl)

/-- The update of msgs, quay as an operation of its own. -/
def State.with_msgs_quay (s : State) (v0 : type_of% State.reset.msgs) (v1 : type_of% State.reset.quay) : State := { s with msgs := v0, quay := v1 }
theorem State.upd_msgs_quay (s : State) (v0 : type_of% State.reset.msgs) (v1 : type_of% State.reset.quay) : { s with msgs := v0, quay := v1 } = s.with_msgs_quay v0 v1 := (rfl)
theorem State.with_msgs_quay_moves (s : State) (v0 : type_of% State.reset.msgs) (v1 : type_of% State.reset.quay) : Moves 0x2400 s (s.with_msgs_quay v0 v1) :=
  { Moves.refl _ s with words := fun _ _ _ => rfl, msgs := fun b => absurd b (by decide), quay := fun b => absurd b (by decide) }
@[simp] theorem State.with_msgs_quay_regs (s : State) (v0 : type_of% State.reset.msgs) (v1 : type_of% State.reset.quay) : (s.with_msgs_quay v0 v1).regs = s.regs := (rfl)
@[simp] theorem State.with_msgs_quay_get (s : State) (v0 : type_of% State.reset.msgs) (v1 : type_of% State.reset.quay) (f : Field) : (s.with_msgs_quay v0 v1).get f = s.get f := (rfl)
@[simp] theorem State.with_msgs_quay_msgs (s : State) (v0 : type_of% State.reset.msgs) (v1 : type_of% State.reset.quay) : (s.with_msgs_quay v0 v1).msgs = v0 := (rfl)
@[simp] theorem State.with_msgs_quay_quay (s : State) (v0 : type_of% State.reset.msgs) (v1 : type_of% State.reset.quay) : (s.with_msgs_quay v0 v1).quay = v1 := (rfl)

/-- The update of msgs, ring as an operation of its own. -/
def State.with_msgs_ring (s : State) (v0 : type_of% State.reset.msgs) (v1 : type_of% State.reset.ring) : State := { s with msgs := v0, ring := v1 }
theorem State.upd_msgs_ring (s : State) (v0 : type_of% State.reset.msgs) (v1 : type_of% State.reset.ring) : { s with msgs := v0, ring := v1 } = s.with_msgs_ring v0 v1 := (rfl)
theorem State.with_msgs_ring_moves (s : State) (v0 : type_of% State.reset.msgs) (v1 : type_of% State.reset.ring) : Moves 0x6000 s (s.with_msgs_ring v0 v1) :=
  { Moves.refl _ s with words := fun _ _ _ => rfl, msgs := fun b => absurd b (by decide), ring := fun b => absurd b (by decide) }
@[simp] theorem State.with_msgs_ring_regs (s : State) (v0 : type_of% State.reset.msgs) (v1 : type_of% State.reset.ring) : (s.with_msgs_ring v0 v1).regs = s.regs := (rfl)
@[simp] theorem State.with_msgs_ring_get (s : State) (v0 : type_of% State.reset.msgs) (v1 : type_of% State.reset.ring) (f : Field) : (s.with_msgs_ring v0 v1).get f = s.get f := (rfl)
@[simp] theorem State.with_msgs_ring_msgs (s : State) (v0 : type_of% State.reset.msgs) (v1 : type_of% State.reset.ring) : (s.with_msgs_ring v0 v1).msgs = v0 := (rfl)
@[simp] theorem State.with_msgs_ring_ring (s : State) (v0 : type_of% State.reset.msgs) (v1 : type_of% State.reset.ring) : (s.with_msgs_ring v0 v1).ring = v1 := (rfl)

/-- The update of pins as an operation of its own. -/
def State.with_pins (s : State) (v0 : type_of% State.reset.pins) : State := { s with pins := v0 }
theorem State.upd_pins (s : State) (v0 : type_of% State.reset.pins) : { s with pins := v0 } = s.with_pins v0 := (rfl)
theorem State.with_pins_moves (s : State) (v0 : type_of% State.reset.pins) : Moves 0x2 s (s.with_pins v0) :=
  { Moves.refl _ s with words := fun _ _ _ => rfl, pins := fun b => absurd b (by decide) }
@[simp] theorem State.with_pins_regs (s : State) (v0 : type_of% State.reset.pins) : (s.with_pins v0).regs = s.regs := (rfl)
@[simp] theorem State.with_pins_get (s : State) (v0 : type_of% State.reset.pins) (f : Field) : (s.with_pins v0).get f = s.get f := (rfl)
@[simp] theorem State.with_pins_pins (s : State) (v0 : type_of% State.reset.pins) : (s.with_pins v0).pins = v0 := (rfl)

/-- The update of pins, look as an operation of its own. -/
def State.with_pins_look (s : State) (v0 : type_of% State.reset.pins) (v1 : type_of% State.reset.look) : State := { s with pins := v0, look := v1 }
theorem State.upd_pins_look (s : State) (v0 : type_of% State.reset.pins) (v1 : type_of% State.reset.look) : { s with pins := v0, look := v1 } = s.with_pins_look v0 v1 := (rfl)
theorem State.with_pins_look_moves (s : State) (v0 : type_of% State.reset.pins) (v1 : type_of% State.reset.look) : Moves 0x8002 s (s.with_pins_look v0 v1) :=
  { Moves.refl _ s with words := fun _ _ _ => rfl, pins := fun b => absurd b (by decide), look := fun b => absurd b (by decide) }
@[simp] theorem State.with_pins_look_regs (s : State) (v0 : type_of% State.reset.pins) (v1 : type_of% State.reset.look) : (s.with_pins_look v0 v1).regs = s.regs := (rfl)
@[simp] theorem State.with_pins_look_get (s : State) (v0 : type_of% State.reset.pins) (v1 : type_of% State.reset.look) (f : Field) : (s.with_pins_look v0 v1).get f = s.get f := (rfl)
@[simp] theorem State.with_pins_look_pins (s : State) (v0 : type_of% State.reset.pins) (v1 : type_of% State.reset.look) : (s.with_pins_look v0 v1).pins = v0 := (rfl)
@[simp] theorem State.with_pins_look_look (s : State) (v0 : type_of% State.reset.pins) (v1 : type_of% State.reset.look) : (s.with_pins_look v0 v1).look = v1 := (rfl)

/-- The update of pins, tx as an operation of its own. -/
def State.with_pins_tx (s : State) (v0 : type_of% State.reset.pins) (v1 : type_of% State.reset.tx) : State := { s with pins := v0, tx := v1 }
theorem State.upd_pins_tx (s : State) (v0 : type_of% State.reset.pins) (v1 : type_of% State.reset.tx) : { s with pins := v0, tx := v1 } = s.with_pins_tx v0 v1 := (rfl)
theorem State.with_pins_tx_moves (s : State) (v0 : type_of% State.reset.pins) (v1 : type_of% State.reset.tx) : Moves 0x102 s (s.with_pins_tx v0 v1) :=
  { Moves.refl _ s with words := fun _ _ _ => rfl, pins := fun b => absurd b (by decide), tx := fun b => absurd b (by decide) }
@[simp] theorem State.with_pins_tx_regs (s : State) (v0 : type_of% State.reset.pins) (v1 : type_of% State.reset.tx) : (s.with_pins_tx v0 v1).regs = s.regs := (rfl)
@[simp] theorem State.with_pins_tx_get (s : State) (v0 : type_of% State.reset.pins) (v1 : type_of% State.reset.tx) (f : Field) : (s.with_pins_tx v0 v1).get f = s.get f := (rfl)
@[simp] theorem State.with_pins_tx_pins (s : State) (v0 : type_of% State.reset.pins) (v1 : type_of% State.reset.tx) : (s.with_pins_tx v0 v1).pins = v0 := (rfl)
@[simp] theorem State.with_pins_tx_tx (s : State) (v0 : type_of% State.reset.pins) (v1 : type_of% State.reset.tx) : (s.with_pins_tx v0 v1).tx = v1 := (rfl)

/-- The update of power as an operation of its own. -/
def State.with_power (s : State) (v0 : type_of% State.reset.power) : State := { s with power := v0 }
theorem State.upd_power (s : State) (v0 : type_of% State.reset.power) : { s with power := v0 } = s.with_power v0 := (rfl)
theorem State.with_power_moves (s : State) (v0 : type_of% State.reset.power) : Moves 0x1 s (s.with_power v0) :=
  { Moves.refl _ s with words := fun _ _ _ => rfl, power := fun b => absurd b (by decide) }
@[simp] theorem State.with_power_regs (s : State) (v0 : type_of% State.reset.power) : (s.with_power v0).regs = s.regs := (rfl)
@[simp] theorem State.with_power_get (s : State) (v0 : type_of% State.reset.power) (f : Field) : (s.with_power v0).get f = s.get f := (rfl)
@[simp] theorem State.with_power_power (s : State) (v0 : type_of% State.reset.power) : (s.with_power v0).power = v0 := (rfl)

/-- The update of power, boot as an operation of its own. -/
def State.with_power_boot (s : State) (v0 : type_of% State.reset.power) (v1 : type_of% State.reset.boot) : State := { s with power := v0, boot := v1 }
theorem State.upd_power_boot (s : State) (v0 : type_of% State.reset.power) (v1 : type_of% State.reset.boot) : { s with power := v0, boot := v1 } = s.with_power_boot v0 v1 := (rfl)
theorem State.with_power_boot_moves (s : State) (v0 : type_of% State.reset.power) (v1 : type_of% State.reset.boot) : Moves 0x11 s (s.with_power_boot v0 v1) :=
  { Moves.refl _ s with words := fun _ _ _ => rfl, power := fun b => absurd b (by decide), boot := fun b => absurd b (by decide) }
@[simp] theorem State.with_power_boot_regs (s : State) (v0 : type_of% State.reset.power) (v1 : type_of% State.reset.boot) : (s.with_power_boot v0 v1).regs = s.regs := (rfl)
@[simp] theorem State.with_power_boot_get (s : State) (v0 : type_of% State.reset.power) (v1 : type_of% State.reset.boot) (f : Field) : (s.with_power_boot v0 v1).get f = s.get f := (rfl)
@[simp] theorem State.with_power_boot_power (s : State) (v0 : type_of% State.reset.power) (v1 : type_of% State.reset.boot) : (s.with_power_boot v0 v1).power = v0 := (rfl)
@[simp] theorem State.with_power_boot_boot (s : State) (v0 : type_of% State.reset.power) (v1 : type_of% State.reset.boot) : (s.with_power_boot v0 v1).boot = v1 := (rfl)

/-- The update of quay as an operation of its own. -/
def State.with_quay (s : State) (v0 : type_of% State.reset.quay) : State := { s with quay := v0 }
theorem State.upd_quay (s : State) (v0 : type_of% State.reset.quay) : { s with quay := v0 } = s.with_quay v0 := (rfl)
theorem State.with_quay_moves (s : State) (v0 : type_of% State.reset.quay) : Moves 0x400 s (s.with_quay v0) :=
  { Moves.refl _ s with words := fun _ _ _ => rfl, quay := fun b => absurd b (by decide) }
@[simp] theorem State.with_quay_regs (s : State) (v0 : type_of% State.reset.quay) : (s.with_quay v0).regs = s.regs := (rfl)
@[simp] theorem State.with_quay_get (s : State) (v0 : type_of% State.reset.quay) (f : Field) : (s.with_quay v0).get f = s.get f := (rfl)
@[simp] theorem State.with_quay_quay (s : State) (v0 : type_of% State.reset.quay) : (s.with_quay v0).quay = v0 := (rfl)

/-- The update of ring as an operation of its own. -/
def State.with_ring (s : State) (v0 : type_of% State.reset.ring) : State := { s with ring := v0 }
theorem State.upd_ring (s : State) (v0 : type_of% State.reset.ring) : { s with ring := v0 } = s.with_ring v0 := (rfl)
theorem State.with_ring_moves (s : State) (v0 : type_of% State.reset.ring) : Moves 0x4000 s (s.with_ring v0) :=
  { Moves.refl _ s with words := fun _ _ _ => rfl, ring := fun b => absurd b (by decide) }
@[simp] theorem State.with_ring_regs (s : State) (v0 : type_of% State.reset.ring) : (s.with_ring v0).regs = s.regs := (rfl)
@[simp] theorem State.with_ring_get (s : State) (v0 : type_of% State.reset.ring) (f : Field) : (s.with_ring v0).get f = s.get f := (rfl)
@[simp] theorem State.with_ring_ring (s : State) (v0 : type_of% State.reset.ring) : (s.with_ring v0).ring = v0 := (rfl)

/-- The update of ring, clk as an operation of its own. -/
def State.with_ring_clk (s : State) (v0 : type_of% State.reset.ring) (v1 : type_of% State.reset.clk) : State := { s with ring := v0, clk := v1 }
theorem State.upd_ring_clk (s : State) (v0 : type_of% State.reset.ring) (v1 : type_of% State.reset.clk) : { s with ring := v0, clk := v1 } = s.with_ring_clk v0 v1 := (rfl)
theorem State.with_ring_clk_moves (s : State) (v0 : type_of% State.reset.ring) (v1 : type_of% State.reset.clk) : Moves 0x4008 s (s.with_ring_clk v0 v1) :=
  { Moves.refl _ s with words := fun _ _ _ => rfl, ring := fun b => absurd b (by decide), clk := fun b => absurd b (by decide) }
@[simp] theorem State.with_ring_clk_regs (s : State) (v0 : type_of% State.reset.ring) (v1 : type_of% State.reset.clk) : (s.with_ring_clk v0 v1).regs = s.regs := (rfl)
@[simp] theorem State.with_ring_clk_get (s : State) (v0 : type_of% State.reset.ring) (v1 : type_of% State.reset.clk) (f : Field) : (s.with_ring_clk v0 v1).get f = s.get f := (rfl)
@[simp] theorem State.with_ring_clk_ring (s : State) (v0 : type_of% State.reset.ring) (v1 : type_of% State.reset.clk) : (s.with_ring_clk v0 v1).ring = v0 := (rfl)
@[simp] theorem State.with_ring_clk_clk (s : State) (v0 : type_of% State.reset.ring) (v1 : type_of% State.reset.clk) : (s.with_ring_clk v0 v1).clk = v1 := (rfl)

/-- The update of rsv as an operation of its own. -/
def State.with_rsv (s : State) (v0 : type_of% State.reset.rsv) : State := { s with rsv := v0 }
theorem State.upd_rsv (s : State) (v0 : type_of% State.reset.rsv) : { s with rsv := v0 } = s.with_rsv v0 := (rfl)
theorem State.with_rsv_moves (s : State) (v0 : type_of% State.reset.rsv) : Moves 0x400000 s (s.with_rsv v0) :=
  { Moves.refl _ s with words := fun _ _ _ => rfl, rsv := fun b => absurd b (by decide) }
@[simp] theorem State.with_rsv_regs (s : State) (v0 : type_of% State.reset.rsv) : (s.with_rsv v0).regs = s.regs := (rfl)
@[simp] theorem State.with_rsv_get (s : State) (v0 : type_of% State.reset.rsv) (f : Field) : (s.with_rsv v0).get f = s.get f := (rfl)
@[simp] theorem State.with_rsv_rsv (s : State) (v0 : type_of% State.reset.rsv) : (s.with_rsv v0).rsv = v0 := (rfl)

/-- The update of rx as an operation of its own. -/
def State.with_rx (s : State) (v0 : type_of% State.reset.rx) : State := { s with rx := v0 }
theorem State.upd_rx (s : State) (v0 : type_of% State.reset.rx) : { s with rx := v0 } = s.with_rx v0 := (rfl)
theorem State.with_rx_moves (s : State) (v0 : type_of% State.reset.rx) : Moves 0x80 s (s.with_rx v0) :=
  { Moves.refl _ s with words := fun _ _ _ => rfl, rx := fun b => absurd b (by decide) }
@[simp] theorem State.with_rx_regs (s : State) (v0 : type_of% State.reset.rx) : (s.with_rx v0).regs = s.regs := (rfl)
@[simp] theorem State.with_rx_get (s : State) (v0 : type_of% State.reset.rx) (f : Field) : (s.with_rx v0).get f = s.get f := (rfl)
@[simp] theorem State.with_rx_rx (s : State) (v0 : type_of% State.reset.rx) : (s.with_rx v0).rx = v0 := (rfl)

/-- The update of sec as an operation of its own. -/
def State.with_sec (s : State) (v0 : type_of% State.reset.sec) : State := { s with sec := v0 }
theorem State.upd_sec (s : State) (v0 : type_of% State.reset.sec) : { s with sec := v0 } = s.with_sec v0 := (rfl)
theorem State.with_sec_moves (s : State) (v0 : type_of% State.reset.sec) : Moves 0x800000 s (s.with_sec v0) :=
  { Moves.refl _ s with words := fun _ _ _ => rfl, sec := fun b => absurd b (by decide) }
@[simp] theorem State.with_sec_regs (s : State) (v0 : type_of% State.reset.sec) : (s.with_sec v0).regs = s.regs := (rfl)
@[simp] theorem State.with_sec_get (s : State) (v0 : type_of% State.reset.sec) (f : Field) : (s.with_sec v0).get f = s.get f := (rfl)
@[simp] theorem State.with_sec_sec (s : State) (v0 : type_of% State.reset.sec) : (s.with_sec v0).sec = v0 := (rfl)

/-- The update of sec, fuses as an operation of its own. -/
def State.with_sec_fuses (s : State) (v0 : type_of% State.reset.sec) (v1 : type_of% State.reset.fuses) : State := { s with sec := v0, fuses := v1 }
theorem State.upd_sec_fuses (s : State) (v0 : type_of% State.reset.sec) (v1 : type_of% State.reset.fuses) : { s with sec := v0, fuses := v1 } = s.with_sec_fuses v0 v1 := (rfl)
theorem State.with_sec_fuses_moves (s : State) (v0 : type_of% State.reset.sec) (v1 : type_of% State.reset.fuses) : Moves 0x800004 s (s.with_sec_fuses v0 v1) :=
  { Moves.refl _ s with words := fun _ _ _ => rfl, sec := fun b => absurd b (by decide), fuses := fun b => absurd b (by decide) }
@[simp] theorem State.with_sec_fuses_regs (s : State) (v0 : type_of% State.reset.sec) (v1 : type_of% State.reset.fuses) : (s.with_sec_fuses v0 v1).regs = s.regs := (rfl)
@[simp] theorem State.with_sec_fuses_get (s : State) (v0 : type_of% State.reset.sec) (v1 : type_of% State.reset.fuses) (f : Field) : (s.with_sec_fuses v0 v1).get f = s.get f := (rfl)
@[simp] theorem State.with_sec_fuses_sec (s : State) (v0 : type_of% State.reset.sec) (v1 : type_of% State.reset.fuses) : (s.with_sec_fuses v0 v1).sec = v0 := (rfl)
@[simp] theorem State.with_sec_fuses_fuses (s : State) (v0 : type_of% State.reset.sec) (v1 : type_of% State.reset.fuses) : (s.with_sec_fuses v0 v1).fuses = v1 := (rfl)

/-- The update of tally as an operation of its own. -/
def State.with_tally (s : State) (v0 : type_of% State.reset.tally) : State := { s with tally := v0 }
theorem State.upd_tally (s : State) (v0 : type_of% State.reset.tally) : { s with tally := v0 } = s.with_tally v0 := (rfl)
theorem State.with_tally_moves (s : State) (v0 : type_of% State.reset.tally) : Moves 0x20 s (s.with_tally v0) :=
  { Moves.refl _ s with words := fun _ _ _ => rfl, tally := fun b => absurd b (by decide) }
@[simp] theorem State.with_tally_regs (s : State) (v0 : type_of% State.reset.tally) : (s.with_tally v0).regs = s.regs := (rfl)
@[simp] theorem State.with_tally_get (s : State) (v0 : type_of% State.reset.tally) (f : Field) : (s.with_tally v0).get f = s.get f := (rfl)
@[simp] theorem State.with_tally_tally (s : State) (v0 : type_of% State.reset.tally) : (s.with_tally v0).tally = v0 := (rfl)

/-- The update of therm as an operation of its own. -/
def State.with_therm (s : State) (v0 : type_of% State.reset.therm) : State := { s with therm := v0 }
theorem State.upd_therm (s : State) (v0 : type_of% State.reset.therm) : { s with therm := v0 } = s.with_therm v0 := (rfl)
theorem State.with_therm_moves (s : State) (v0 : type_of% State.reset.therm) : Moves 0x200000 s (s.with_therm v0) :=
  { Moves.refl _ s with words := fun _ _ _ => rfl, therm := fun b => absurd b (by decide) }
@[simp] theorem State.with_therm_regs (s : State) (v0 : type_of% State.reset.therm) : (s.with_therm v0).regs = s.regs := (rfl)
@[simp] theorem State.with_therm_get (s : State) (v0 : type_of% State.reset.therm) (f : Field) : (s.with_therm v0).get f = s.get f := (rfl)
@[simp] theorem State.with_therm_therm (s : State) (v0 : type_of% State.reset.therm) : (s.with_therm v0).therm = v0 := (rfl)

/-- The update of tide as an operation of its own. -/
def State.with_tide (s : State) (v0 : type_of% State.reset.tide) : State := { s with tide := v0 }
theorem State.upd_tide (s : State) (v0 : type_of% State.reset.tide) : { s with tide := v0 } = s.with_tide v0 := (rfl)
theorem State.with_tide_moves (s : State) (v0 : type_of% State.reset.tide) : Moves 0x40 s (s.with_tide v0) :=
  { Moves.refl _ s with words := fun _ _ _ => rfl, tide := fun b => absurd b (by decide) }
@[simp] theorem State.with_tide_regs (s : State) (v0 : type_of% State.reset.tide) : (s.with_tide v0).regs = s.regs := (rfl)
@[simp] theorem State.with_tide_get (s : State) (v0 : type_of% State.reset.tide) (f : Field) : (s.with_tide v0).get f = s.get f := (rfl)
@[simp] theorem State.with_tide_tide (s : State) (v0 : type_of% State.reset.tide) : (s.with_tide v0).tide = v0 := (rfl)

/-- The update of tx as an operation of its own. -/
def State.with_tx (s : State) (v0 : type_of% State.reset.tx) : State := { s with tx := v0 }
theorem State.upd_tx (s : State) (v0 : type_of% State.reset.tx) : { s with tx := v0 } = s.with_tx v0 := (rfl)
theorem State.with_tx_moves (s : State) (v0 : type_of% State.reset.tx) : Moves 0x100 s (s.with_tx v0) :=
  { Moves.refl _ s with words := fun _ _ _ => rfl, tx := fun b => absurd b (by decide) }
@[simp] theorem State.with_tx_regs (s : State) (v0 : type_of% State.reset.tx) : (s.with_tx v0).regs = s.regs := (rfl)
@[simp] theorem State.with_tx_get (s : State) (v0 : type_of% State.reset.tx) (f : Field) : (s.with_tx v0).get f = s.get f := (rfl)
@[simp] theorem State.with_tx_tx (s : State) (v0 : type_of% State.reset.tx) : (s.with_tx v0).tx = v0 := (rfl)

/-- The passing of time as an operation of its own. -/
def State.with_aon_tide (s : State) (d : Nat) (v : Tide) : State := { s with aon := s.aon + d, tide := v }
theorem State.upd_aon_tide (s : State) (d : Nat) (v : Tide) : { s with aon := s.aon + d, tide := v } = s.with_aon_tide d v := (rfl)
theorem State.with_aon_tide_moves (s : State) (d : Nat) (v : Tide) : Moves 0x40000040 s (s.with_aon_tide d v) :=
  { Moves.refl _ s with
    words := fun _ _ _ => rfl, time := Nat.le_add_right _ _, aon := fun b => absurd b (by decide), tide := fun b => absurd b (by decide) }

end Sys2Proof.Machine
end

