-- ==== Sys2Proof/Laws/MovesOps.lean ====
section
/-! SUPPORT. What each operation of Machine/Ops.lean may change. -/

namespace Sys2Proof.Machine

set_option linter.all false

theorem State.setByte_moves (s : State) (a : Nat) (v : Byte) : Moves 0x10000000 s (s.setByte a v) :=
  { Moves.refl _ s with
    mem := fun b => by simp [Nat.testBit] at b
    canonical := fun c => by
      simp only [State.canonical, State.setByte, Memory.wf, Bool.and_eq_true] at c ⊢
      exact ⟨⟨c.1.1, sparseWf_put a v c.1.2⟩, c.2⟩ }

theorem State.setBytes_moves : ∀ (s : State) (a : Nat) (l : List Byte), Moves 0x10000000 s (State.setBytes s a l)
  | s, _, [] => Moves.refl _ s
  | s, a, b :: l => Moves.step (State.setBytes_moves (s.setByte a b) (a + 1) l) (by decide)
      (Moves.step (State.setByte_moves s a b) (by decide) (Moves.refl _ s))

theorem State.setMemWord_moves (s : State) (a v : Nat) : Moves 0x10000000 s (State.setMemWord s a v) := by
  unfold State.setMemWord
  repeat' first
    | with_reducible assumption
    | with_reducible exact Moves.refl _ _
    | decide
    | with_reducible apply Moves.step (State.setBytes_moves ..)

theorem State.clearRange_moves (s : State) (lo hi : Nat) : Moves 0x10000000 s (s.clearRange lo hi) :=
  { Moves.refl _ s with
    mem := fun b => by simp [Nat.testBit] at b
    canonical := fun c => by
      simp only [State.canonical, State.clearRange, Memory.wf, Bool.and_eq_true] at c ⊢
      exact ⟨⟨c.1.1, sparseWf_keep _ c.1.2⟩, c.2⟩ }

theorem State.flashPut_moves (s : State) (a : Nat) (v : Byte) :
    Moves 0x20000000 s { s with flash := sparsePut (fun _ => (0xFF : BitVec 8)) s.flash a v } :=
  { Moves.refl _ s with
    flash := fun b => by simp [Nat.testBit] at b
    canonical := fun c => by
      simp only [State.canonical, Bool.and_eq_true] at c ⊢
      exact ⟨c.1, sparseWf_put a v c.2⟩ }

theorem State.setFlash_moves : ∀ (s : State) (dev off : Nat) (l : List Byte), Moves 0x20000000 s (State.setFlash s dev off l)
  | s, _, _, [] => Moves.refl _ s
  | s, dev, off, b :: l => Moves.step (State.setFlash_moves _ dev (off + 1) l) (by decide)
      (Moves.step (State.flashPut_moves s _ b) (by decide) (Moves.refl _ s))

theorem State.draw_moves (s : State) : Moves 0x100000000 s s.draw.2 :=
  { Moves.refl _ s with
    draws := Nat.le_succ _
    freeCtr := fun b => by simp [Nat.testBit] at b }

theorem State.drawMany_moves : ∀ (n : Nat) (s : State), Moves 0x100000000 s (State.drawMany n s).2
  | 0, s => Moves.refl _ s
  | n + 1, s => Moves.step (State.drawMany_moves n s.draw.2) (by decide)
      (Moves.step (State.draw_moves s) (by decide) (Moves.refl _ s))

theorem State.emit_moves (s : State) (x : Sent) : Moves 0x80000000 s (s.emit x) :=
  { Moves.refl _ s with
    sent := List.prefix_append _ _
    out := fun b => by simp [Nat.testBit] at b }

theorem State.markDom_moves (s : State) (d : Nat) (b : Bool) : Moves 0x408000000 s (State.markDom s d b) := by
  unfold State.markDom
  repeat' first
    | with_reducible assumption
    | with_reducible exact Moves.refl _ _
    | decide
    | ((with_reducible refine Moves.p_put (n := 1) ?_ ?_ ?_ ?_); (first | rfl | assumption); decide; decide)
    | extract_lets
    | dsimp +zetaDelta only

theorem State.syncTide_moves (s : State) : Moves 0x800008000000 s (State.syncTide s) := by
  unfold State.syncTide
  repeat' first
    | with_reducible assumption
    | with_reducible exact Moves.refl _ _
    | decide
    | ((with_reducible refine Moves.p_puti (n := 14) ?_ ?_ ?_ ?_); (first | rfl | assumption); decide; decide)
    | ((with_reducible refine Moves.p_put (n := 14) ?_ ?_ ?_ ?_); (first | rfl | assumption); decide; decide)
    | ((with_reducible refine Moves.p_putb (n := 14) ?_ ?_ ?_ ?_); (first | rfl | assumption); decide; decide)

theorem State.advance_moves (s : State) (d : Nat) : Moves 0x800048000040 s (State.advance s d) := by
  unfold State.advance
  simp -zeta only [State.upd_aon_tide]
  repeat' first
    | with_reducible assumption
    | with_reducible exact Moves.refl _ _
    | decide
    | extract_lets
    | rw [State.upd_aon_tide]
    | with_reducible apply Moves.step (State.with_aon_tide_moves ..)
    | with_reducible apply Moves.step (State.syncTide_moves ..)
    | split
    | (with_reducible refine Moves.snd (by assumption) ?_)
    | (with_reducible refine Moves.fst (by assumption) ?_)
    | (with_reducible refine Moves.trd (by assumption) ?_)
    | dsimp +zetaDelta only

theorem State.reach_moves (s : State) (at_ : Stamp) : Moves 0x800048000040 s (State.reach s at_) := by
  unfold State.reach
  simp -zeta only [State.upd_aon_tide]
  repeat' first
    | with_reducible assumption
    | with_reducible exact Moves.refl _ _
    | decide
    | with_reducible apply Moves.ite
    | extract_lets
    | rw [State.upd_aon_tide]
    | with_reducible apply Moves.step (State.with_aon_tide_moves ..)
    | with_reducible apply Moves.step (State.syncTide_moves ..)
    | split
    | (with_reducible refine Moves.snd (by assumption) ?_)
    | (with_reducible refine Moves.fst (by assumption) ?_)
    | (with_reducible refine Moves.trd (by assumption) ?_)
    | dsimp +zetaDelta only

theorem State.elapseTo_moves (s : State) (a : Nat) : Moves 0x800048000040 s (State.elapseTo s a) := by
  unfold State.elapseTo
  repeat' first
    | with_reducible assumption
    | with_reducible exact Moves.refl _ _
    | decide
    | with_reducible apply Moves.ite
    | with_reducible apply Moves.step (State.advance_moves ..)
    | split

end Sys2Proof.Machine
end

