-- ==== Sys2Proof/Laws/MovesFlags.lean ====
section
/-! SUPPORT. What each operation of Machine/Flags.lean may change. -/

namespace Sys2Proof.Machine

set_option linter.all false

theorem State.syncIrq_moves (s : State) : Moves 0x208000002 s (State.syncIrq s) := by
  unfold State.syncIrq
  simp -zeta only [State.upd_pins]
  repeat' first
    | with_reducible assumption
    | with_reducible exact Moves.refl _ _
    | decide
    | ((with_reducible refine Moves.p_put (n := 0) ?_ ?_ ?_ ?_); (first | rfl | assumption); decide; decide)
    | with_reducible apply Moves.ite
    | extract_lets
    | rw [State.upd_pins]
    | with_reducible apply Moves.step (State.with_pins_moves ..)
    | split
    | dsimp +zetaDelta only

theorem State.traceEvt_moves (s : State) (code : Nat) : Moves 0x80000000 s (State.traceEvt s code) := by
  unfold State.traceEvt
  repeat' first
    | with_reducible assumption
    | with_reducible exact Moves.refl _ _
    | decide
    | with_reducible apply Moves.ite
    | with_reducible apply Moves.step (State.emit_moves ..)
    | split

theorem Moves.p_setEvt {M n : Nat} {s0 s : State} {code info : Nat} (hn : evtAddr (code / 256) / 65536 = n) (hm : 0x288000002 ||| M = M)
    (hb : 2 ^ (33 + n) ||| M = M) (h : Moves M s0 s) : Moves M s0 (s.setEvt code info) := by
  unfold State.setEvt
  exact Moves.step (State.traceEvt_moves ..) (sub_trans (by decide) hm) (Moves.step (State.syncIrq_moves ..) (sub_trans (by decide) hm) (Moves.p_setBit hn (sub_trans (by decide) hm) hb h))

theorem State.syncTally_moves (s : State) : Moves 0x800000008000000 s (State.syncTally s) := by
  unfold State.syncTally
  repeat' first
    | with_reducible assumption
    | with_reducible exact Moves.refl _ _
    | decide
    | ((with_reducible refine Moves.p_put (n := 26) ?_ ?_ ?_ ?_); (first | rfl | assumption); decide; decide)
    | ((with_reducible refine Moves.p_putb (n := 26) ?_ ?_ ?_ ?_); (first | rfl | assumption); decide; decide)
    | with_reducible apply Moves.ite
    | extract_lets
    | split
    | dsimp +zetaDelta only

theorem State.tallyLose_moves (s : State) : Moves 0x800000008000020 s (State.tallyLose s) := by
  unfold State.tallyLose
  simp -zeta only [State.upd_tally]
  repeat' first
    | with_reducible assumption
    | with_reducible exact Moves.refl _ _
    | decide
    | ((with_reducible refine Moves.p_inc (n := 26) ?_ ?_ ?_ ?_); (first | rfl | assumption); decide; decide)
    | extract_lets
    | rw [State.upd_tally]
    | with_reducible apply Moves.step (State.with_tally_moves ..)
    | dsimp +zetaDelta only

theorem State.tallyPut_moves (s : State) (r : TallyQ) : Moves 0x800000008000020 s (State.tallyPut s r) := by
  unfold State.tallyPut
  repeat' first
    | with_reducible assumption
    | with_reducible exact Moves.refl _ _
    | decide
    | with_reducible apply Moves.ite
    | rw [State.upd_tally]
    | with_reducible apply Moves.step (State.with_tally_moves ..)
    | with_reducible apply Moves.step (State.syncTally_moves ..)
    | with_reducible apply Moves.step (State.tallyLose_moves ..)
    | split

theorem State.tallyPutHead_moves (s : State) (r : TallyQ) : Moves 0x800000008000020 s (State.tallyPutHead s r) := by
  unfold State.tallyPutHead
  simp -zeta only [State.upd_tally]
  repeat' first
    | with_reducible assumption
    | with_reducible exact Moves.refl _ _
    | decide
    | with_reducible apply Moves.ite
    | extract_lets
    | rw [State.upd_tally]
    | with_reducible apply Moves.step (State.with_tally_moves ..)
    | with_reducible apply Moves.step (State.tallyLose_moves ..)
    | with_reducible apply Moves.step (State.syncTally_moves ..)
    | split
    | dsimp +zetaDelta only

theorem State.queue7_moves (s : State) (code info : Nat) : Moves 0x200088002000 s (State.queue7 s code info) := by
  unfold State.queue7
  simp -zeta only [State.upd_msgs]
  repeat' first
    | with_reducible assumption
    | with_reducible exact Moves.refl _ _
    | decide
    | ((with_reducible refine Moves.p_inc (n := 12) ?_ ?_ ?_ ?_); (first | rfl | assumption); decide; decide)
    | with_reducible apply Moves.ite
    | extract_lets
    | rw [State.upd_msgs]
    | with_reducible apply Moves.step (State.with_msgs_moves ..)
    | with_reducible apply Moves.step (State.emit_moves ..)
    | split
    | dsimp +zetaDelta only

theorem State.tallyOwed_moves (s : State) : Moves 0x800200288002022 s (State.tallyOwed s) := by
  unfold State.tallyOwed
  simp -zeta only [State.upd_tally]
  repeat' first
    | with_reducible assumption
    | with_reducible exact Moves.refl _ _
    | decide
    | ((with_reducible refine Moves.p_setEvt (n := 26) ?_ ?_ ?_ ?_); (first | rfl | (split <;> rfl)); decide; decide)
    | with_reducible apply Moves.ite
    | extract_lets
    | rw [State.upd_tally]
    | with_reducible apply Moves.step (State.with_tally_moves ..)
    | with_reducible apply Moves.step (State.queue7_moves ..)
    | with_reducible apply Moves.step (State.syncTally_moves ..)
    | split
    | dsimp +zetaDelta only

theorem State.tallyKick_moves (s : State) : Moves 0x800200288002022 s (State.tallyKick s) := by
  unfold State.tallyKick
  simp -zeta only [State.upd_tally]
  repeat' first
    | with_reducible assumption
    | with_reducible exact Moves.refl _ _
    | decide
    | with_reducible apply Moves.ite
    | extract_lets
    | rw [State.upd_tally]
    | with_reducible apply Moves.step (State.with_tally_moves ..)
    | with_reducible apply Moves.step (State.tallyOwed_moves ..)
    | split
    | dsimp +zetaDelta only

theorem State.deferNotice_moves (s : State) : Moves 0x800200288002022 s (State.deferNotice s) := by
  unfold State.deferNotice
  simp -zeta only [State.upd_tally]
  repeat' first
    | with_reducible assumption
    | with_reducible exact Moves.refl _ _
    | decide
    | ((with_reducible refine Moves.p_setEvt (n := 26) ?_ ?_ ?_ ?_); (first | rfl | (split <;> rfl)); decide; decide)
    | with_reducible apply Moves.ite
    | extract_lets
    | rw [State.upd_tally]
    | with_reducible apply Moves.step (State.with_tally_moves ..)
    | with_reducible apply Moves.step (State.queue7_moves ..)
    | with_reducible apply Moves.step (State.tallyPut_moves ..)
    | split
    | dsimp +zetaDelta only

theorem Moves.p_raise {M n : Nat} {s0 s : State} {code info : Nat} (hn : evtAddr (code / 256) / 65536 = n) (hm : 0x800200288002022 ||| M = M)
    (hb : 2 ^ (33 + n) ||| M = M) (h : Moves M s0 s) : Moves M s0 (s.raise code info) := by
  unfold State.raise
  exact Moves.step (State.tallyKick_moves ..) (sub_trans (by decide) hm) (Moves.step (State.deferNotice_moves ..) (sub_trans (by decide) hm) (Moves.step (State.tallyPut_moves ..) (sub_trans (by decide) hm) (Moves.step (State.queue7_moves ..) (sub_trans (by decide) hm) (Moves.p_setEvt hn (sub_trans (by decide) hm) hb h))))

theorem Moves.p_raiseIrq {M n : Nat} {s0 s : State} {code info : Nat} (hn : evtAddr (code / 256) / 65536 = n) (hm : 0x288000002 ||| M = M)
    (hb : 2 ^ (33 + n) ||| M = M) (h : Moves M s0 s) : Moves M s0 (s.raiseIrq code info) := by
  exact Moves.p_setEvt hn (sub_trans (by decide) hm) hb h

theorem Moves.p_raiseIrq7 {M n : Nat} {s0 s : State} {code info : Nat} (hn : evtAddr (code / 256) / 65536 = n) (hm : 0x200288002002 ||| M = M)
    (hb : 2 ^ (33 + n) ||| M = M) (h : Moves M s0 s) : Moves M s0 (s.raiseIrq7 code info) := by
  unfold State.raiseIrq7
  exact Moves.step (State.queue7_moves ..) (sub_trans (by decide) hm) (Moves.p_setEvt hn (sub_trans (by decide) hm) hb h)

theorem Moves.p_raiseHead {M n : Nat} {s0 s : State} {code info : Nat} (hn : evtAddr (code / 256) / 65536 = n) (hm : 0x800200288002022 ||| M = M)
    (hb : 2 ^ (33 + n) ||| M = M) (h : Moves M s0 s) : Moves M s0 (s.raiseHead code info) := by
  unfold State.raiseHead
  exact Moves.step (State.tallyKick_moves ..) (sub_trans (by decide) hm) (Moves.step (State.deferNotice_moves ..) (sub_trans (by decide) hm) (Moves.step (State.tallyPutHead_moves ..) (sub_trans (by decide) hm) (Moves.step (State.queue7_moves ..) (sub_trans (by decide) hm) (Moves.p_setEvt hn (sub_trans (by decide) hm) hb h))))

theorem Moves.p_raiseLim {M n : Nat} {s0 s : State} {code info item period : Nat} (hn : evtAddr (code / 256) / 65536 = n) (hm : 0x80020028c002022 ||| M = M)
    (hb : 2 ^ (33 + n) ||| M = M) (h : Moves M s0 s) : Moves M s0 (s.raiseLim code info item period) := by
  unfold State.raiseLim
  split
  · rw [State.upd_limits]
    exact Moves.p_raise hn (sub_trans (by decide) hm) hb (Moves.step (State.with_limits_moves ..) (sub_trans (by decide) hm) h)
  · exact h

theorem Moves.p_raiseMs {M n : Nat} {s0 s : State} {code info item : Nat} (hn : evtAddr (code / 256) / 65536 = n) (hm : 0x80020028c002022 ||| M = M)
    (hb : 2 ^ (33 + n) ||| M = M) (h : Moves M s0 s) : Moves M s0 (s.raiseMs code info item) := by
  exact Moves.p_raiseLim hn (sub_trans (by decide) hm) hb h

theorem State.violation_moves (s : State) (src a : Nat) (write : Bool) : Moves 0x400000008000000 s (State.violation s src a write) := by
  unfold State.violation
  repeat' first
    | with_reducible assumption
    | with_reducible exact Moves.refl _ _
    | decide
    | ((with_reducible refine Moves.p_inc (n := 25) ?_ ?_ ?_ ?_); (first | rfl | assumption); decide; decide)
    | ((with_reducible refine Moves.p_put (n := 25) ?_ ?_ ?_ ?_); (first | rfl | assumption); decide; decide)
    | ((with_reducible refine Moves.p_putb (n := 25) ?_ ?_ ?_ ?_); (first | rfl | assumption); decide; decide)

theorem State.slip_moves (s : State) (m : Nat) : Moves 0x208000000 s (State.slip s m) := by
  unfold State.slip
  repeat' first
    | with_reducible assumption
    | with_reducible exact Moves.refl _ _
    | decide
    | ((with_reducible refine Moves.p_inc (n := 0) ?_ ?_ ?_ ?_); (first | rfl | assumption | (dsimp only [F.TOP_SLIP_CNT_COUNT]; omega)); decide; decide)

theorem State.meter_moves (s : State) (m slack : Nat) : Moves 0x800200288002022 s (State.meter s m slack) := by
  unfold State.meter
  repeat' first
    | with_reducible assumption
    | with_reducible exact Moves.refl _ _
    | decide
    | ((with_reducible refine Moves.p_put (n := 0) ?_ ?_ ?_ ?_); (first | rfl | assumption | (dsimp only [F.TOP_DRIFT_EVT_LOW, F.TOP_DRIFT_MIN_NS, F.TOP_DRIFT_NOW_NS]; omega)); decide; decide)
    | ((with_reducible refine Moves.p_raise (n := 0) ?_ ?_ ?_ ?_); (first | rfl | (split <;> rfl)); decide; decide)
    | with_reducible apply Moves.ite
    | extract_lets
    | split
    | dsimp +zetaDelta only

theorem State.meterIdle_moves (s : State) (m : Nat) : Moves 0x208000000 s (State.meterIdle s m) := by
  unfold State.meterIdle
  repeat' first
    | with_reducible assumption
    | with_reducible exact Moves.refl _ _
    | decide
    | ((with_reducible refine Moves.p_put (n := 0) ?_ ?_ ?_ ?_); (first | rfl | assumption | (dsimp only [F.TOP_DRIFT_NOW_NS]; omega)); decide; decide)

end Sys2Proof.Machine
end

