-- ==== Sys2Proof/Laws/MovesTimed.lean ====
section
/-! SUPPORT. What each operation of Machine/Timed.lean may change. -/

namespace Sys2Proof.Machine

set_option linter.all false

theorem State.syncCoex_moves (s : State) : Moves 0x2000008000000 s (State.syncCoex s) := by
  unfold State.syncCoex
  repeat' first
    | with_reducible assumption
    | with_reducible exact Moves.refl _ _
    | decide
    | ((with_reducible refine Moves.p_putb (n := 16) ?_ ?_ ?_ ?_); (first | rfl | assumption); decide; decide)

theorem State.drive_moves (s : State) (pin : Nat) (b : Bool) : Moves 0x2000088000002 s (State.drive s pin b) := by
  unfold State.drive
  simp -zeta only [State.upd_pins]
  repeat' first
    | with_reducible assumption
    | with_reducible exact Moves.refl _ _
    | decide
    | with_reducible apply Moves.ite
    | extract_lets
    | rw [State.upd_pins]
    | with_reducible apply Moves.step (State.with_pins_moves ..)
    | with_reducible apply Moves.step (State.syncCoex_moves ..)
    | with_reducible apply Moves.step (State.emit_moves ..)
    | split
    | dsimp +zetaDelta only

theorem State.setTimedQ_moves (s : State) (pin : Nat) (q : List TimedEntry) : Moves 0x40 s (State.setTimedQ s pin q) := by
  unfold State.setTimedQ
  repeat' first
    | with_reducible assumption
    | with_reducible exact Moves.refl _ _
    | decide
    | with_reducible apply Moves.ite
    | rw [State.upd_tide]
    | with_reducible apply Moves.step (State.with_tide_moves ..)
    | split

theorem State.toAdd_moves (s : State) (pin : Nat) (at_ : Stamp) (level : Bool) : Moves 0x40 s (State.toAdd s pin at_ level).2 := by
  unfold State.toAdd
  repeat' first
    | with_reducible assumption
    | with_reducible exact Moves.refl _ _
    | decide
    | with_reducible apply Moves.ite
    | extract_lets
    | with_reducible apply Moves.step (State.setTimedQ_moves ..)
    | split
    | dsimp +zetaDelta only

theorem State.toShow_moves (s : State) (pin r : Nat) : Moves 0x800008000000 s (State.toShow s pin r) := by
  unfold State.toShow
  repeat' first
    | with_reducible assumption
    | with_reducible exact Moves.refl _ _
    | decide
    | ((with_reducible refine Moves.p_put (n := 14) ?_ ?_ ?_ ?_); (first | rfl | assumption); decide; decide)

theorem State.toRefuse_moves (s : State) (pin r : Nat) : Moves 0x800a0028c002022 s (State.toRefuse s pin r) := by
  unfold State.toRefuse
  repeat' first
    | with_reducible assumption
    | with_reducible exact Moves.refl _ _
    | decide
    | ((with_reducible refine Moves.p_inc (n := 14) ?_ ?_ ?_ ?_); (first | rfl | assumption); decide; decide)
    | ((with_reducible refine Moves.p_raiseMs (n := 14) ?_ ?_ ?_ ?_); (first | rfl | (split <;> rfl)); decide; decide)
    | with_reducible apply Moves.step (State.toShow_moves ..)

theorem State.toFlush_moves (s : State) (pin : Nat) : Moves 0x800a0028c002062 s (State.toFlush s pin) := by
  unfold State.toFlush
  repeat' first
    | with_reducible assumption
    | with_reducible exact Moves.refl _ _
    | decide
    | with_reducible apply Moves.ite
    | with_reducible apply Moves.step (State.setTimedQ_moves ..)
    | with_reducible apply Moves.step (State.toShow_moves ..)
    | with_reducible apply Moves.step (State.toRefuse_moves ..)
    | split

theorem State.toDiscardAll_moves (s : State) : Moves 0x40 s (State.toDiscardAll s) := by
  unfold State.toDiscardAll
  repeat' first
    | with_reducible assumption
    | with_reducible exact Moves.refl _ _
    | decide
    | rw [State.upd_tide]
    | with_reducible apply Moves.step (State.with_tide_moves ..)

theorem State.toFlushRun_moves (s : State) : Moves 0x40 s (State.toFlushRun s) := by
  unfold State.toFlushRun
  repeat' first
    | with_reducible assumption
    | with_reducible exact Moves.refl _ _
    | decide
    | rw [State.upd_tide]
    | with_reducible apply Moves.step (State.with_tide_moves ..)

theorem State.tpFeed_moves (s : State) (n k : Nat) : Moves 0x40 s (State.tpFeed s n k) := by
  induction k generalizing s with
  | zero =>
    unfold State.tpFeed
    repeat' first
      | with_reducible assumption
      | with_reducible exact Moves.refl _ _
      | decide
      | with_reducible apply Moves.ite
      | extract_lets
      | rw [State.upd_tide]
      | with_reducible apply Moves.step (State.with_tide_moves ..)
      | with_reducible apply Moves.step (State.setTimedQ_moves ..)
      | split
      | dsimp +zetaDelta only
  | succ _ ih =>
    unfold State.tpFeed
    repeat' first
      | with_reducible assumption
      | with_reducible exact Moves.refl _ _
      | decide
      | with_reducible apply Moves.step (ih ..)
      | with_reducible apply Moves.ite
      | extract_lets
      | rw [State.upd_tide]
      | with_reducible apply Moves.step (State.with_tide_moves ..)
      | with_reducible apply Moves.step (State.setTimedQ_moves ..)
      | split
      | dsimp +zetaDelta only

theorem State.tpGo_moves (s : State) (n : Nat) : Moves 0x800a0028c002062 s (State.tpGo s n) := by
  unfold State.tpGo
  simp -zeta only [State.upd_tide]
  repeat' first
    | with_reducible assumption
    | with_reducible exact Moves.refl _ _
    | decide
    | ((with_reducible refine Moves.p_put (n := 14) ?_ ?_ ?_ ?_); (first | rfl | assumption | (dsimp only [F.TIDE_TP_CTL_MODE]; omega)); decide; decide)
    | ((with_reducible refine Moves.p_putb (n := 14) ?_ ?_ ?_ ?_); (first | rfl | assumption | (dsimp only [F.TIDE_TP_CTL_ACTIVE]; omega)); decide; decide)
    | intro _
    | with_reducible apply Moves.ite
    | extract_lets
    | rw [State.upd_tide]
    | with_reducible apply Moves.step (State.with_tide_moves ..)
    | with_reducible apply Moves.step (State.toRefuse_moves ..)
    | with_reducible apply Moves.step (State.tpFeed_moves ..)
    | split
    | dsimp +zetaDelta only

theorem State.tpMode_moves (s : State) (n mode : Nat) : Moves 0x800a0028c002062 s (State.tpMode s n mode) := by
  unfold State.tpMode
  repeat' first
    | with_reducible assumption
    | with_reducible exact Moves.refl _ _
    | decide
    | ((with_reducible refine Moves.p_put (n := 14) ?_ ?_ ?_ ?_); (first | rfl | assumption | (dsimp only [F.TIDE_TP_CTL_MODE]; omega)); decide; decide)
    | ((with_reducible refine Moves.p_putb (n := 14) ?_ ?_ ?_ ?_); (first | rfl | assumption | (dsimp only [F.TIDE_TP_CTL_ACTIVE]; omega)); decide; decide)
    | with_reducible apply Moves.ite
    | extract_lets
    | with_reducible apply Moves.step (State.tpGo_moves ..)
    | split
    | dsimp +zetaDelta only

theorem State.tpAfter_moves (s : State) (n : Nat) : Moves 0x800008000040 s (State.tpAfter s n) := by
  unfold State.tpAfter
  repeat' first
    | with_reducible assumption
    | with_reducible exact Moves.refl _ _
    | decide
    | ((with_reducible refine Moves.p_putb (n := 14) ?_ ?_ ?_ ?_); (first | rfl | assumption | (dsimp only [F.TIDE_TP_CTL_ACTIVE]; omega)); decide; decide)
    | with_reducible apply Moves.ite
    | with_reducible apply Moves.step (State.tpFeed_moves ..)
    | split

end Sys2Proof.Machine
end

