-- ==== Sys2Proof/Laws/MovesPa.lean ====
section
/-! SUPPORT. What each operation of Machine/Pa.lean may change. -/

namespace Sys2Proof.Machine

set_option linter.all false

theorem biasRange_block (o : Nat) : (biasRange o).addr / 65536 = 16 := by
  unfold biasRange
  split <;> (dsimp only [F.FEND_AUX_RANGE, F.FEND_P_BIAS_RANGE]; omega)

theorem biasOut_block (o : Nat) : (biasOut o).addr / 65536 = 16 := by
  unfold biasOut
  split <;> (dsimp only [F.FEND_AUX_OUT, F.FEND_P_BIAS_OUT]; omega)

theorem biasTarget_block (o : Nat) : (biasTarget o).addr / 65536 = 16 := by
  unfold biasTarget
  split <;> (dsimp only [F.FEND_AUX_TARGET, F.FEND_P_BIAS_TARGET]; omega)

theorem safeRange_block (o : Nat) : (safeRange o).addr / 65536 = 16 := by
  unfold safeRange
  split <;> (dsimp only [F.FEND_AUX_SAFE_RANGE, F.FEND_P_SAFE_RANGE]; omega)

theorem safeCode_block (o : Nat) : (safeCode o).addr / 65536 = 16 := by
  unfold safeCode
  split <;> (dsimp only [F.FEND_AUX_SAFE_CODE, F.FEND_P_SAFE_CODE]; omega)

theorem State.syncBias_moves (s : State) (o : Nat) : Moves 0x2000008010000 s (State.syncBias s o) := by
  unfold State.syncBias
  simp -zeta only [State.upd_fend]
  repeat' first
    | with_reducible assumption
    | with_reducible exact Moves.refl _ _
    | decide
    | ((with_reducible refine Moves.p_put (n := 16) ?_ ?_ ?_ ?_); (first | rfl | assumption | exact biasOut_block ..); decide; decide)
    | with_reducible apply Moves.ite
    | extract_lets
    | rw [State.upd_fend]
    | with_reducible apply Moves.step (State.with_fend_moves ..)
    | split
    | (with_reducible refine Moves.snd (by assumption) ?_)
    | (with_reducible refine Moves.fst (by assumption) ?_)
    | (with_reducible refine Moves.trd (by assumption) ?_)
    | dsimp +zetaDelta only

theorem State.moveBias_moves (s : State) (o range code rate : Nat) : Moves 0x2000008010000 s (State.moveBias s o range code rate) := by
  unfold State.moveBias
  repeat' first
    | with_reducible assumption
    | with_reducible exact Moves.refl _ _
    | decide
    | rw [State.upd_fend]
    | with_reducible apply Moves.step (State.with_fend_moves ..)
    | with_reducible apply Moves.step (State.syncBias_moves ..)

theorem State.moveSafe_moves (s : State) (o rate : Nat) : Moves 0x2000008010000 s (State.moveSafe s o rate) := by
  unfold State.moveSafe
  repeat' first
    | with_reducible assumption
    | with_reducible exact Moves.refl _ _
    | decide
    | with_reducible apply Moves.step (State.moveBias_moves ..)

theorem State.moveTarget_moves (s : State) (o rate : Nat) : Moves 0x2000008010000 s (State.moveTarget s o rate) := by
  unfold State.moveTarget
  repeat' first
    | with_reducible assumption
    | with_reducible exact Moves.refl _ _
    | decide
    | with_reducible apply Moves.step (State.moveBias_moves ..)

theorem State.setPa_moves (s : State) (q v : Nat) : Moves 0x2000008000000 s (State.setPa s q v) := by
  unfold State.setPa
  repeat' first
    | with_reducible assumption
    | with_reducible exact Moves.refl _ _
    | decide
    | ((with_reducible refine Moves.p_put (n := 16) ?_ ?_ ?_ ?_); (first | rfl | assumption); decide; decide)

theorem State.setSeq_moves (s : State) (q : Nat) (x : PaSeq) : Moves 0x10000 s (State.setSeq s q x) := by
  unfold State.setSeq
  repeat' first
    | with_reducible assumption
    | with_reducible exact Moves.refl _ _
    | decide
    | rw [State.upd_fend]
    | with_reducible apply Moves.step (State.with_fend_moves ..)

theorem State.seqDrain_moves (s : State) (q : Nat) (b : Bool) : Moves 0x2000088010002 s (State.seqDrain s q b) := by
  unfold State.seqDrain
  repeat' first
    | with_reducible assumption
    | with_reducible exact Moves.refl _ _
    | decide
    | rw [State.upd_fend]
    | with_reducible apply Moves.step (State.with_fend_moves ..)
    | with_reducible apply Moves.step (State.drive_moves ..)

theorem State.leaveOn_moves (s : State) (q : Nat) : Moves 0x2000088000042 s (State.leaveOn s q) := by
  unfold State.leaveOn
  repeat' first
    | with_reducible assumption
    | with_reducible exact Moves.refl _ _
    | decide
    | extract_lets
    | with_reducible apply Moves.step (State.setTimedQ_moves ..)
    | with_reducible apply Moves.step (State.drive_moves ..)
    | dsimp +zetaDelta only

theorem State.paStartOn_moves (s : State) (q : Nat) : Moves 0x2000008010000 s (State.paStartOn s q) := by
  unfold State.paStartOn
  repeat' first
    | with_reducible assumption
    | with_reducible exact Moves.refl _ _
    | decide
    | intro _
    | with_reducible apply Moves.ite
    | extract_lets
    | with_reducible apply Moves.step (State.setPa_moves ..)
    | with_reducible apply Moves.step (State.setSeq_moves ..)
    | with_reducible apply Moves.step (State.moveTarget_moves ..)
    | with_reducible apply Moves.step (State.moveSafe_moves ..)
    | with_reducible apply Moves.each
    | split
    | dsimp +zetaDelta only

theorem State.paOn_moves (s : State) (q : Nat) : Moves 0x802200288012022 s (State.paOn s q) := by
  unfold State.paOn
  repeat' first
    | with_reducible assumption
    | with_reducible exact Moves.refl _ _
    | decide
    | ((with_reducible refine Moves.p_raise (n := 16) ?_ ?_ ?_ ?_); (first | rfl | (split <;> rfl)); decide; decide)
    | with_reducible apply Moves.ite
    | with_reducible apply Moves.step (State.paStartOn_moves ..)
    | split

theorem State.paOff_moves (s : State) (q : Nat) : Moves 0x802200288012062 s (State.paOff s q) := by
  unfold State.paOff
  repeat' first
    | with_reducible assumption
    | with_reducible exact Moves.refl _ _
    | decide
    | ((with_reducible refine Moves.p_raise (n := 16) ?_ ?_ ?_ ?_); (first | rfl | (split <;> rfl)); decide; decide)
    | intro _
    | with_reducible apply Moves.ite
    | extract_lets
    | with_reducible apply Moves.step (State.setPa_moves ..)
    | with_reducible apply Moves.step (State.setSeq_moves ..)
    | with_reducible apply Moves.step (State.leaveOn_moves ..)
    | with_reducible apply Moves.step (State.moveSafe_moves ..)
    | with_reducible apply Moves.each
    | split
    | dsimp +zetaDelta only

theorem State.paArrived_moves (s0 : State) (q : Nat) : Moves 0x802a002c8012062 s0 (State.paArrived s0 q) := by
  unfold State.paArrived
  repeat' first
    | with_reducible assumption
    | with_reducible exact Moves.refl _ _
    | decide
    | ((with_reducible refine Moves.p_raise (n := 16) ?_ ?_ ?_ ?_); (first | rfl | (split <;> rfl)); decide; decide)
    | intro _
    | extract_lets
    | with_reducible apply Moves.step (State.elapseTo_moves ..)
    | with_reducible apply Moves.step (State.syncBias_moves ..)
    | with_reducible apply Moves.step (State.seqDrain_moves ..)
    | with_reducible apply Moves.step (State.setSeq_moves ..)
    | with_reducible apply Moves.step (State.setPa_moves ..)
    | with_reducible apply Moves.each
    | split
    | (with_reducible refine Moves.snd (by assumption) ?_)
    | (with_reducible refine Moves.fst (by assumption) ?_)
    | (with_reducible refine Moves.trd (by assumption) ?_)
    | dsimp +zetaDelta only

theorem State.paWaitEnd_moves (s0 : State) (q : Nat) : Moves 0x802a002c8012062 s0 (State.paWaitEnd s0 q) := by
  unfold State.paWaitEnd
  repeat' first
    | with_reducible assumption
    | with_reducible exact Moves.refl _ _
    | decide
    | ((with_reducible refine Moves.p_raise (n := 16) ?_ ?_ ?_ ?_); (first | rfl | (split <;> rfl)); decide; decide)
    | intro _
    | extract_lets
    | with_reducible apply Moves.step (State.elapseTo_moves ..)
    | with_reducible apply Moves.step (State.setSeq_moves ..)
    | with_reducible apply Moves.step (State.moveTarget_moves ..)
    | with_reducible apply Moves.step (State.seqDrain_moves ..)
    | with_reducible apply Moves.step (State.setPa_moves ..)
    | with_reducible apply Moves.each
    | split
    | (with_reducible refine Moves.snd (by assumption) ?_)
    | (with_reducible refine Moves.fst (by assumption) ?_)
    | (with_reducible refine Moves.trd (by assumption) ?_)
    | dsimp +zetaDelta only

theorem State.drainsLow_moves (s : State) : Moves 0x2000088010002 s (State.drainsLow s) := by
  unfold State.drainsLow
  simp -zeta only [State.upd_fend]
  repeat' first
    | with_reducible assumption
    | with_reducible exact Moves.refl _ _
    | decide
    | intro _
    | extract_lets
    | rw [State.upd_fend]
    | with_reducible apply Moves.step (State.with_fend_moves ..)
    | with_reducible apply Moves.step (State.seqDrain_moves ..)
    | with_reducible apply Moves.foldl
    | with_reducible apply Moves.foldlFst
    | with_reducible apply Moves.foldlSnd
    | dsimp +zetaDelta only

theorem State.feEnter_moves (s : State) (vneg : Bool) : Moves 0x802200288012062 s (State.feEnter s vneg) := by
  unfold State.feEnter
  simp -zeta only [State.upd_fend]
  repeat' first
    | with_reducible assumption
    | with_reducible exact Moves.refl _ _
    | decide
    | ((with_reducible refine Moves.p_put (n := 16) ?_ ?_ ?_ ?_); (first | rfl | assumption); decide; decide)
    | ((with_reducible refine Moves.p_raise (n := 16) ?_ ?_ ?_ ?_); (first | rfl | (split <;> rfl)); decide; decide)
    | intro _
    | with_reducible apply Moves.ite
    | extract_lets
    | rw [State.upd_fend]
    | with_reducible apply Moves.step (State.with_fend_moves ..)
    | with_reducible apply Moves.step (State.setTimedQ_moves ..)
    | with_reducible apply Moves.step (State.drive_moves ..)
    | with_reducible apply Moves.step (State.drainsLow_moves ..)
    | with_reducible apply Moves.step (State.moveSafe_moves ..)
    | with_reducible apply Moves.each
    | with_reducible apply Moves.iff
    | split
    | dsimp +zetaDelta only

theorem State.feSet_moves (s : State) (cause : Nat) : Moves 0x802200288012062 s (State.feSet s cause) := by
  unfold State.feSet
  repeat' first
    | with_reducible assumption
    | with_reducible exact Moves.refl _ _
    | decide
    | ((with_reducible refine Moves.p_setBit (n := 16) ?_ ?_ ?_ ?_); (first | rfl | assumption); decide; decide)
    | with_reducible apply Moves.ite
    | extract_lets
    | with_reducible apply Moves.step (State.drainsLow_moves ..)
    | with_reducible apply Moves.step (State.feEnter_moves ..)
    | split
    | dsimp +zetaDelta only

theorem State.feClear_moves (s : State) (cause : Nat) : Moves 0x802200288012022 s (State.feClear s cause) := by
  unfold State.feClear
  simp -zeta only [State.upd_fend]
  repeat' first
    | with_reducible assumption
    | with_reducible exact Moves.refl _ _
    | decide
    | ((with_reducible refine Moves.p_setWord (n := 16) ?_ ?_ ?_ ?_); (first | rfl | assumption); decide; decide)
    | ((with_reducible refine Moves.p_raise (n := 16) ?_ ?_ ?_ ?_); (first | rfl | (split <;> rfl)); decide; decide)
    | intro _
    | with_reducible apply Moves.ite
    | extract_lets
    | rw [State.upd_fend]
    | with_reducible apply Moves.step (State.with_fend_moves ..)
    | with_reducible apply Moves.step (State.drainsLow_moves ..)
    | with_reducible apply Moves.step (State.paStartOn_moves ..)
    | with_reducible apply Moves.each
    | with_reducible apply Moves.iff
    | split
    | dsimp +zetaDelta only

theorem State.feDrainOff_moves (s : State) : Moves 0x28000c8010042 s (State.feDrainOff s) := by
  unfold State.feDrainOff
  repeat' first
    | with_reducible assumption
    | with_reducible exact Moves.refl _ _
    | decide
    | with_reducible apply Moves.step (State.elapseTo_moves ..)
    | with_reducible apply Moves.step (State.drainsLow_moves ..)
    | split
    | (with_reducible refine Moves.snd (by assumption) ?_)
    | (with_reducible refine Moves.fst (by assumption) ?_)
    | (with_reducible refine Moves.trd (by assumption) ?_)

theorem State.biasWrite_moves (s : State) (o range target : Nat) : Moves 0x802200288012022 s (State.biasWrite s o range target) := by
  unfold State.biasWrite
  simp -zeta only [State.upd_fend]
  repeat' first
    | with_reducible assumption
    | with_reducible exact Moves.refl _ _
    | decide
    | ((with_reducible refine Moves.p_inc (n := 16) ?_ ?_ ?_ ?_); (first | rfl | assumption); decide; decide)
    | ((with_reducible refine Moves.p_raise (n := 16) ?_ ?_ ?_ ?_); (first | rfl | (split <;> rfl)); decide; decide)
    | ((with_reducible refine Moves.p_put (n := 16) ?_ ?_ ?_ ?_); (first | rfl | assumption | exact biasRange_block .. | exact biasTarget_block ..); decide; decide)
    | with_reducible apply Moves.ite
    | extract_lets
    | rw [State.upd_fend]
    | with_reducible apply Moves.step (State.with_fend_moves ..)
    | with_reducible apply Moves.step (State.syncBias_moves ..)
    | with_reducible apply Moves.step (State.moveTarget_moves ..)
    | split
    | (with_reducible refine Moves.snd (by assumption) ?_)
    | (with_reducible refine Moves.fst (by assumption) ?_)
    | (with_reducible refine Moves.trd (by assumption) ?_)
    | dsimp +zetaDelta only

theorem State.loadSafe_moves (s : State) : Moves 0x2000008010000 s (State.loadSafe s) := by
  unfold State.loadSafe
  simp -zeta only [State.upd_fend]
  repeat' first
    | with_reducible assumption
    | with_reducible exact Moves.refl _ _
    | decide
    | ((with_reducible refine Moves.p_put (n := 16) ?_ ?_ ?_ ?_); (first | rfl | assumption | exact biasOut_block .. | exact biasRange_block .. | exact biasTarget_block .. | exact safeCode_block .. | exact safeRange_block ..); decide; decide)
    | intro _
    | with_reducible apply Moves.ite
    | extract_lets
    | rw [State.upd_fend]
    | with_reducible apply Moves.step (State.with_fend_moves ..)
    | with_reducible apply Moves.each
    | split
    | dsimp +zetaDelta only

end Sys2Proof.Machine
end

