-- ==== Sys2Proof/Laws/MovesGrade.lean ====
section
/-! SUPPORT. What each operation of Machine/Grade.lean may change. -/

namespace Sys2Proof.Machine

set_option linter.all false

theorem State.regrade_moves (s : State) (k : Nat) : Moves 0x900200288402022 s (State.regrade s k) := by
  unfold State.regrade
  simp -zeta only [State.upd_rsv]
  repeat' first
    | with_reducible assumption
    | with_reducible exact Moves.refl _ _
    | decide
    | ((with_reducible refine Moves.p_put (n := 23) ?_ ?_ ?_ ?_); (first | rfl | assumption | (dsimp only [F.RSV_GRADE_KINDS, F.RSV_KIND_LEFT, F.RSV_KIND_MIN, F.RSV_KIND_USED]; omega)); decide; decide)
    | ((with_reducible refine Moves.p_putb (n := 23) ?_ ?_ ?_ ?_); (first | rfl | assumption | (dsimp only [F.RSV_KIND_STALE]; omega)); decide; decide)
    | ((with_reducible refine Moves.p_raise (n := 23) ?_ ?_ ?_ ?_); (first | rfl | (split <;> rfl)); decide; decide)
    | intro _
    | with_reducible apply Moves.ite
    | extract_lets
    | rw [State.upd_rsv]
    | with_reducible apply Moves.step (State.with_rsv_moves ..)
    | with_reducible apply Moves.foldl
    | with_reducible apply Moves.foldlFst
    | with_reducible apply Moves.foldlSnd
    | split
    | dsimp +zetaDelta only

theorem State.regradeAll_moves (s : State) : Moves 0x900200288402022 s (State.regradeAll s) := by
  unfold State.regradeAll
  repeat' first
    | with_reducible assumption
    | with_reducible exact Moves.refl _ _
    | decide
    | intro _
    | with_reducible apply Moves.step (State.regrade_moves ..)
    | with_reducible apply Moves.each

theorem State.countRetired_moves (s : State) : Moves 0x100000008000000 s (State.countRetired s) := by
  unfold State.countRetired
  repeat' first
    | with_reducible assumption
    | with_reducible exact Moves.refl _ _
    | decide
    | ((with_reducible refine Moves.p_put (n := 23) ?_ ?_ ?_ ?_); (first | rfl | assumption); decide; decide)

end Sys2Proof.Machine
end

