-- ==== Sys2Proof/Laws/MovesNco.lean ====
section
/-! SUPPORT. What each operation of Machine/Nco.lean may change. -/

namespace Sys2Proof.Machine

set_option linter.all false

theorem State.reachAbs_moves (s : State) (t : Nat) : Moves 0x800048000040 s (State.reachAbs s t) := by
  unfold State.reachAbs
  repeat' first
    | with_reducible assumption
    | with_reducible exact Moves.refl _ _
    | decide
    | intro _
    | with_reducible apply Moves.ite
    | with_reducible apply Moves.step (State.reach_moves ..)
    | split

end Sys2Proof.Machine
end

