-- ==== Sys2Proof/Laws/MovesRxChain.lean ====
section
/-! SUPPORT. What each operation of Machine/RxChain.lean may change. -/

namespace Sys2Proof.Machine

set_option linter.all false

theorem State.setRxPath_moves (s : State) (p : Nat) (x : RxPath) : Moves 0x80 s (State.setRxPath s p x) := by
  unfold State.setRxPath
  repeat' first
    | with_reducible assumption
    | with_reducible exact Moves.refl _ _
    | decide
    | rw [State.upd_rx]
    | with_reducible apply Moves.step (State.with_rx_moves ..)

theorem State.addSpan_moves (s : State) (x : InvSpan) : Moves 0x80 s (State.addSpan s x) := by
  unfold State.addSpan
  simp -zeta only [State.upd_rx]
  repeat' first
    | with_reducible assumption
    | with_reducible exact Moves.refl _ _
    | decide
    | extract_lets
    | rw [State.upd_rx]
    | with_reducible apply Moves.step (State.with_rx_moves ..)
    | split
    | (with_reducible refine Moves.snd (by assumption) ?_)
    | (with_reducible refine Moves.fst (by assumption) ?_)
    | (with_reducible refine Moves.trd (by assumption) ?_)
    | dsimp +zetaDelta only

theorem State.closeSpan_moves (s : State) (path : Option Nat) (t : Nat) : Moves 0x80 s (State.closeSpan s path t) := by
  unfold State.closeSpan
  repeat' first
    | with_reducible assumption
    | with_reducible exact Moves.refl _ _
    | decide
    | with_reducible apply Moves.ite
    | rw [State.upd_rx]
    | with_reducible apply Moves.step (State.with_rx_moves ..)
    | split

theorem State.rxOut_moves (s : State) (p : Nat) (x : RxPath) (w : RxWord) (boxInv boxOvr silent : Bool) : Moves 0x80020428c002022 s (State.rxOut s p x w boxInv boxOvr silent).1 := by
  unfold State.rxOut
  repeat' first
    | with_reducible assumption
    | with_reducible exact Moves.refl _ _
    | decide
    | ((with_reducible refine Moves.p_inc (n := 5) ?_ ?_ ?_ ?_); (first | rfl | assumption | (dsimp only [F.RXD_P_INV_COUNT, F.RXD_P_SAT_COUNT]; omega)); decide; decide)
    | ((with_reducible refine Moves.p_raiseMs (n := 5) ?_ ?_ ?_ ?_); (first | rfl | (split <;> rfl)); decide; decide)
    | with_reducible apply Moves.ite
    | extract_lets
    | split
    | dsimp +zetaDelta only

theorem State.rxChain_moves (s : State) (p k : Nat) (v : Cx) (ovr : Bool) : Moves 0x80020428c0020a2 s (State.rxChain s p k v ovr).1 := by
  unfold State.rxChain
  repeat' first
    | with_reducible assumption
    | with_reducible exact Moves.refl _ _
    | decide
    | ((with_reducible refine Moves.p_inc (n := 5) ?_ ?_ ?_ ?_); (first | rfl | assumption | (dsimp only [F.RXD_P_SAT_COUNT]; omega)); decide; decide)
    | ((with_reducible refine Moves.p_raiseMs (n := 5) ?_ ?_ ?_ ?_); (first | rfl | (split <;> rfl)); decide; decide)
    | with_reducible apply Moves.ite
    | extract_lets
    | with_reducible apply Moves.step (State.setRxPath_moves ..)
    | with_reducible apply Moves.step (State.rxOut_moves ..)
    | split
    | (with_reducible refine Moves.snd (by assumption) ?_)
    | (with_reducible refine Moves.fst (by assumption) ?_)
    | (with_reducible refine Moves.trd (by assumption) ?_)
    | dsimp +zetaDelta only

theorem Moves.p_put48 {M n : Nat} {s0 s : State} {f g : Field} {v : Nat} (hn : f.addr / 65536 = n ∧ g.addr / 65536 = n) (hm : 0x8000000 ||| M = M)
    (hb : 2 ^ (33 + n) ||| M = M) (h : Moves M s0 s) : Moves M s0 (s.put48 f g v) := by
  exact Moves.p_put hn.2 (sub_trans (by decide) hm) hb (Moves.p_put hn.1 (sub_trans (by decide) hm) hb h)

theorem State.syncRxd_moves (s : State) : Moves 0x4008000000 s (State.syncRxd s) := by
  unfold State.syncRxd
  repeat' first
    | with_reducible assumption
    | with_reducible exact Moves.refl _ _
    | decide
    | ((with_reducible refine Moves.p_putb (n := 5) ?_ ?_ ?_ ?_); (first | rfl | assumption); decide; decide)
    | ((with_reducible refine Moves.p_put (n := 5) ?_ ?_ ?_ ?_); (first | rfl | assumption); decide; decide)
    | with_reducible apply Moves.ite
    | extract_lets
    | split
    | dsimp +zetaDelta only

theorem State.rxDeriveTaps_moves (s : State) (p : Nat) : Moves 0x4008000000 s (State.rxDeriveTaps s p) := by
  unfold State.rxDeriveTaps
  repeat' first
    | with_reducible assumption
    | with_reducible exact Moves.refl _ _
    | decide
    | ((with_reducible refine Moves.p_put (n := 5) ?_ ?_ ?_ ?_); (first | rfl | assumption | (dsimp only [F.RXD_P_IQ_VALUE]; omega)); decide; decide)
    | intro _
    | extract_lets
    | with_reducible apply Moves.each
    | split
    | (with_reducible refine Moves.snd (by assumption) ?_)
    | (with_reducible refine Moves.fst (by assumption) ?_)
    | (with_reducible refine Moves.trd (by assumption) ?_)
    | dsimp +zetaDelta only

theorem State.rxRestartAt_moves (s : State) (p k : Nat) : Moves 0x4008000080 s (State.rxRestartAt s p k) := by
  unfold State.rxRestartAt
  repeat' first
    | with_reducible assumption
    | with_reducible exact Moves.refl _ _
    | decide
    | extract_lets
    | with_reducible apply Moves.step (State.setRxPath_moves ..)
    | with_reducible apply Moves.step (State.rxDeriveTaps_moves ..)
    | with_reducible apply Moves.step (State.closeSpan_moves ..)
    | with_reducible apply Moves.step (State.addSpan_moves ..)
    | dsimp +zetaDelta only

theorem State.rxRestart_moves (s : State) (l : List Nat) : Moves 0x4008000080 s (State.rxRestart s l) := by
  unfold State.rxRestart
  repeat' first
    | with_reducible assumption
    | with_reducible exact Moves.refl _ _
    | decide
    | intro _
    | with_reducible apply Moves.ite
    | with_reducible apply Moves.step (State.rxRestartAt_moves ..)
    | with_reducible apply Moves.each
    | split

theorem State.rxStart_moves (s : State) : Moves 0x4008000080 s (State.rxStart s) := by
  unfold State.rxStart
  simp -zeta only [State.upd_rx]
  repeat' first
    | with_reducible assumption
    | with_reducible exact Moves.refl _ _
    | decide
    | intro _
    | with_reducible apply Moves.ite
    | extract_lets
    | rw [State.upd_rx]
    | with_reducible apply Moves.step (State.with_rx_moves ..)
    | with_reducible apply Moves.step (State.rxRestartAt_moves ..)
    | with_reducible apply Moves.step (State.syncRxd_moves ..)
    | with_reducible apply Moves.each
    | split
    | dsimp +zetaDelta only

theorem State.rxRetune_moves (s : State) (f : Int) : Moves 0x4008000080 s (State.rxRetune s f) := by
  unfold State.rxRetune
  simp -zeta only [State.upd_rx]
  repeat' first
    | with_reducible assumption
    | with_reducible exact Moves.refl _ _
    | decide
    | ((with_reducible refine Moves.p_put48 (n := 5) ?_ ?_ ?_ ?_); (constructor <;> (first | rfl | assumption)); decide; decide)
    | with_reducible apply Moves.ite
    | extract_lets
    | rw [State.upd_rx]
    | with_reducible apply Moves.step (State.with_rx_moves ..)
    | split
    | dsimp +zetaDelta only

theorem State.rxNcoGo_moves (s : State) (f : Int) (arm : Bool) (at_ : Stamp) : Moves 0x8002042880020a2 s (State.rxNcoGo s f arm at_).2 := by
  unfold State.rxNcoGo
  repeat' first
    | with_reducible assumption
    | with_reducible exact Moves.refl _ _
    | decide
    | ((with_reducible refine Moves.p_raise (n := 5) ?_ ?_ ?_ ?_); (first | rfl | (split <;> rfl)); decide; decide)
    | ((with_reducible refine Moves.p_putb (n := 5) ?_ ?_ ?_ ?_); (first | rfl | assumption); decide; decide)
    | with_reducible apply Moves.ite
    | rw [State.upd_rx]
    | with_reducible apply Moves.step (State.with_rx_moves ..)
    | with_reducible apply Moves.step (State.rxRetune_moves ..)
    | split

theorem State.rxNcoFire_moves (s : State) : Moves 0x8040480000c0 s (State.rxNcoFire s) := by
  unfold State.rxNcoFire
  simp -zeta only [State.upd_rx]
  repeat' first
    | with_reducible assumption
    | with_reducible exact Moves.refl _ _
    | decide
    | ((with_reducible refine Moves.p_putb (n := 5) ?_ ?_ ?_ ?_); (first | rfl | assumption); decide; decide)
    | intro _
    | extract_lets
    | rw [State.upd_rx]
    | with_reducible apply Moves.step (State.with_rx_moves ..)
    | with_reducible apply Moves.step (State.reach_moves ..)
    | with_reducible apply Moves.step (State.rxRetune_moves ..)
    | split
    | (with_reducible refine Moves.snd (by assumption) ?_)
    | (with_reducible refine Moves.fst (by assumption) ?_)
    | (with_reducible refine Moves.trd (by assumption) ?_)
    | dsimp +zetaDelta only

theorem State.rxAlign_moves (s : State) (p : Nat) (y : RxSample) : Moves 0x80008000080 s (State.rxAlign s p y).1 := by
  unfold State.rxAlign
  repeat' first
    | with_reducible assumption
    | with_reducible exact Moves.refl _ _
    | decide
    | ((with_reducible refine Moves.p_add (n := 10) ?_ ?_ ?_ ?_); (first | rfl | assumption); decide; decide)
    | with_reducible apply Moves.ite
    | extract_lets
    | with_reducible apply Moves.step (State.setRxPath_moves ..)
    | split
    | (with_reducible refine Moves.snd (by assumption) ?_)
    | (with_reducible refine Moves.fst (by assumption) ?_)
    | (with_reducible refine Moves.trd (by assumption) ?_)
    | dsimp +zetaDelta only

theorem State.rxAlignAll_moves (s : State) (p : Nat) (l : List RxSample) : Moves 0x80008000080 s (State.rxAlignAll s p l).1 := by
  induction l generalizing s with
  | nil =>
    unfold State.rxAlignAll
    repeat' first
      | with_reducible assumption
      | with_reducible exact Moves.refl _ _
      | decide
      | extract_lets
      | with_reducible apply Moves.step (State.rxAlign_moves ..)
      | split
      | (with_reducible refine Moves.snd (by assumption) ?_)
      | (with_reducible refine Moves.fst (by assumption) ?_)
      | (with_reducible refine Moves.trd (by assumption) ?_)
      | dsimp +zetaDelta only
  | cons _ _ ih =>
    unfold State.rxAlignAll
    repeat' first
      | with_reducible assumption
      | with_reducible exact Moves.refl _ _
      | decide
      | with_reducible apply Moves.step (ih ..)
      | extract_lets
      | with_reducible apply Moves.step (State.rxAlign_moves ..)
      | split
      | (with_reducible refine Moves.snd (by assumption) ?_)
      | (with_reducible refine Moves.fst (by assumption) ?_)
      | (with_reducible refine Moves.trd (by assumption) ?_)
      | dsimp +zetaDelta only

end Sys2Proof.Machine
end

