-- ==== Sys2Proof/Laws/MovesRx.lean ====
section
/-! SUPPORT. What each operation of Machine/Rx.lean may change. -/

namespace Sys2Proof.Machine

set_option linter.all false

theorem fSPARE_block (p q : Nat) : (fSPARE p q).addr / 65536 = 4 := by
  unfold fSPARE
  split <;> (dsimp only [F.RXA_P_STAT_SPARE_I, F.RXA_P_STAT_SPARE_Q]; omega)

theorem fNOSPARE_block (p q : Nat) : (fNOSPARE p q).addr / 65536 = 4 := by
  unfold fNOSPARE
  split <;> (dsimp only [F.RXA_P_STAT_NOSPARE_I, F.RXA_P_STAT_NOSPARE_Q]; omega)

theorem fSLRET_block (p q : Nat) : (fSLRET p q).addr / 65536 = 4 := by
  unfold fSLRET
  split <;> (dsimp only [F.RXA_P_SLRET_SLICES_I, F.RXA_P_SLRET_SLICES_Q]; omega)

theorem State.setServo_moves (s : State) (p k c : Nat) : Moves 0x80 s (State.setServo s p k c) := by
  unfold State.setServo
  repeat' first
    | with_reducible assumption
    | with_reducible exact Moves.refl _ _
    | decide
    | rw [State.upd_rx]
    | with_reducible apply Moves.step (State.with_rx_moves ..)

theorem State.showServo_moves (s : State) (p : Nat) : Moves 0x2008000000 s (State.showServo s p) := by
  unfold State.showServo
  repeat' first
    | with_reducible assumption
    | with_reducible exact Moves.refl _ _
    | decide
    | ((with_reducible refine Moves.p_put (n := 4) ?_ ?_ ?_ ?_); (first | rfl | assumption | (dsimp only [F.RXA_P_SERVO_CODE_I, F.RXA_P_SERVO_CODE_Q]; omega)); decide; decide)
    | extract_lets
    | dsimp +zetaDelta only

theorem State.servoRestart_moves (s : State) (p : Nat) : Moves 0x80 s (State.servoRestart s p) := by
  unfold State.servoRestart
  repeat' first
    | with_reducible assumption
    | with_reducible exact Moves.refl _ _
    | decide
    | extract_lets
    | with_reducible apply Moves.step (State.setRxPath_moves ..)
    | dsimp +zetaDelta only

theorem State.gainStep_moves (s : State) (new : Nat) (count : Bool) : Moves 0x2008000080 s (State.gainStep s new count) := by
  unfold State.gainStep
  simp -zeta only [State.upd_rx]
  repeat' first
    | with_reducible assumption
    | with_reducible exact Moves.refl _ _
    | decide
    | ((with_reducible refine Moves.p_put (n := 4) ?_ ?_ ?_ ?_); (first | rfl | assumption); decide; decide)
    | ((with_reducible refine Moves.p_inc (n := 4) ?_ ?_ ?_ ?_); (first | rfl | assumption | (split <;> rfl) | (dsimp +zetaDelta only; split <;> rfl)); decide; decide)
    | intro _
    | with_reducible apply Moves.ite
    | extract_lets
    | rw [State.upd_rx]
    | with_reducible apply Moves.step (State.with_rx_moves ..)
    | with_reducible apply Moves.step (State.addSpan_moves ..)
    | with_reducible apply Moves.step (State.showServo_moves ..)
    | with_reducible apply Moves.step (State.servoRestart_moves ..)
    | with_reducible apply Moves.each
    | split
    | dsimp +zetaDelta only

theorem State.agcSuspend_moves (s : State) : Moves 0x2008000080 s (State.agcSuspend s) := by
  unfold State.agcSuspend
  repeat' first
    | with_reducible assumption
    | with_reducible exact Moves.refl _ _
    | decide
    | ((with_reducible refine Moves.p_putb (n := 4) ?_ ?_ ?_ ?_); (first | rfl | assumption); decide; decide)
    | rw [State.upd_rx]
    | with_reducible apply Moves.step (State.with_rx_moves ..)

theorem State.agcTrsw_moves (s : State) : Moves 0x2008000080 s (State.agcTrsw s) := by
  unfold State.agcTrsw
  repeat' first
    | with_reducible assumption
    | with_reducible exact Moves.refl _ _
    | decide
    | with_reducible apply Moves.ite
    | rw [State.upd_rx]
    | with_reducible apply Moves.step (State.with_rx_moves ..)
    | with_reducible apply Moves.step (State.agcSuspend_moves ..)
    | split

theorem State.agcSuspendEnd_moves (s : State) : Moves 0x8020480000c0 s (State.agcSuspendEnd s) := by
  unfold State.agcSuspendEnd
  simp -zeta only [State.upd_rx]
  repeat' first
    | with_reducible assumption
    | with_reducible exact Moves.refl _ _
    | decide
    | ((with_reducible refine Moves.p_putb (n := 4) ?_ ?_ ?_ ?_); (first | rfl | assumption); decide; decide)
    | intro _
    | with_reducible apply Moves.ite
    | extract_lets
    | rw [State.upd_rx]
    | with_reducible apply Moves.step (State.with_rx_moves ..)
    | with_reducible apply Moves.step (State.reach_moves ..)
    | with_reducible apply Moves.step (State.gainStep_moves ..)
    | split
    | (with_reducible refine Moves.snd (by assumption) ?_)
    | (with_reducible refine Moves.fst (by assumption) ?_)
    | (with_reducible refine Moves.trd (by assumption) ?_)
    | dsimp +zetaDelta only

theorem State.agcAuto_moves (s : State) : Moves 0x80020228c0020a2 s (State.agcAuto s) := by
  unfold State.agcAuto
  simp -zeta only [State.upd_rx]
  repeat' first
    | with_reducible assumption
    | with_reducible exact Moves.refl _ _
    | decide
    | ((with_reducible refine Moves.p_raiseMs (n := 4) ?_ ?_ ?_ ?_); (first | rfl | (split <;> rfl)); decide; decide)
    | with_reducible apply Moves.ite
    | extract_lets
    | rw [State.upd_rx]
    | with_reducible apply Moves.step (State.with_rx_moves ..)
    | with_reducible apply Moves.step (State.gainStep_moves ..)
    | split
    | dsimp +zetaDelta only

theorem State.agcDecision_moves (s : State) : Moves 0x80020228c0020a2 s (State.agcDecision s) := by
  unfold State.agcDecision
  simp -zeta only [State.upd_rx]
  repeat' first
    | with_reducible assumption
    | with_reducible exact Moves.refl _ _
    | decide
    | with_reducible apply Moves.ite
    | extract_lets
    | rw [State.upd_rx]
    | with_reducible apply Moves.step (State.with_rx_moves ..)
    | with_reducible apply Moves.step (State.agcAuto_moves ..)
    | with_reducible apply Moves.step (State.gainStep_moves ..)
    | split
    | (with_reducible refine Moves.snd (by assumption) ?_)
    | (with_reducible refine Moves.fst (by assumption) ?_)
    | (with_reducible refine Moves.trd (by assumption) ?_)
    | dsimp +zetaDelta only

theorem State.rxInstant_moves (s : State) (p : Nat) : Moves 0x8000480000c0 s (State.rxInstant s p) := by
  unfold State.rxInstant
  simp -zeta only [State.upd_rx]
  repeat' first
    | with_reducible assumption
    | with_reducible exact Moves.refl _ _
    | decide
    | intro _
    | with_reducible apply Moves.ite
    | extract_lets
    | rw [State.upd_rx]
    | with_reducible apply Moves.step (State.with_rx_moves ..)
    | with_reducible apply Moves.step (State.reachAbs_moves ..)
    | split
    | dsimp +zetaDelta only

theorem State.rxMeter_moves (s : State) (p fill : Nat) : Moves 0x8002002880020a2 s (State.rxMeter s p fill) := by
  unfold State.rxMeter
  simp -zeta only [State.upd_rx]
  repeat' first
    | with_reducible assumption
    | with_reducible exact Moves.refl _ _
    | decide
    | extract_lets
    | rw [State.upd_rx]
    | with_reducible apply Moves.step (State.with_rx_moves ..)
    | with_reducible apply Moves.step (State.meter_moves ..)
    | dsimp +zetaDelta only

theorem State.rxReturn_moves (s : State) (p : Nat) : Moves 0x80020428c0020a2 s (State.rxReturn s p).1 := by
  unfold State.rxReturn
  repeat' first
    | with_reducible assumption
    | with_reducible exact Moves.refl _ _
    | decide
    | intro _
    | with_reducible apply Moves.ite
    | extract_lets
    | with_reducible apply Moves.step (State.setRxPath_moves ..)
    | with_reducible apply Moves.step (State.addSpan_moves ..)
    | with_reducible apply Moves.step (State.rxChain_moves ..)
    | with_reducible apply Moves.foldl
    | with_reducible apply Moves.foldlFst
    | with_reducible apply Moves.foldlSnd
    | split
    | (with_reducible refine Moves.snd (by assumption) ?_)
    | (with_reducible refine Moves.fst (by assumption) ?_)
    | (with_reducible refine Moves.trd (by assumption) ?_)
    | dsimp +zetaDelta only

theorem State.rxTally_moves (s : State) (p : Nat) (x : Cx) (ovr : Bool) : Moves 0x80020228c0020a2 s (State.rxTally s p x ovr) := by
  unfold State.rxTally
  simp -zeta only [State.upd_rx]
  repeat' first
    | with_reducible assumption
    | with_reducible exact Moves.refl _ _
    | decide
    | ((with_reducible refine Moves.p_inc (n := 4) ?_ ?_ ?_ ?_); (first | rfl | assumption | (dsimp only [F.RXA_P_OVR_COUNT]; omega)); decide; decide)
    | ((with_reducible refine Moves.p_raiseMs (n := 4) ?_ ?_ ?_ ?_); (first | rfl | (split <;> rfl)); decide; decide)
    | with_reducible apply Moves.ite
    | extract_lets
    | rw [State.upd_rx]
    | with_reducible apply Moves.step (State.with_rx_moves ..)
    | with_reducible apply Moves.step (State.setRxPath_moves ..)
    | split
    | dsimp +zetaDelta only

theorem State.rxSample_moves (s0 : State) (p : Nat) (x : Cx) (ovr : Bool) (fill : Nat) : Moves 0x800a062cc0020e2 s0 (State.rxSample s0 p x ovr fill).1 := by
  unfold State.rxSample
  repeat' first
    | with_reducible assumption
    | with_reducible exact Moves.refl _ _
    | decide
    | ((with_reducible refine Moves.p_raiseMs (n := 0) ?_ ?_ ?_ ?_); (first | rfl | (split <;> rfl)); decide; decide)
    | with_reducible apply Moves.ite
    | extract_lets
    | with_reducible apply Moves.step (State.rxInstant_moves ..)
    | with_reducible apply Moves.step (State.rxTally_moves ..)
    | with_reducible apply Moves.step (State.rxMeter_moves ..)
    | with_reducible apply Moves.step (State.slip_moves ..)
    | with_reducible apply Moves.step (State.setRxPath_moves ..)
    | with_reducible apply Moves.step (State.rxReturn_moves ..)
    | with_reducible apply Moves.step (State.rxChain_moves ..)
    | split
    | (with_reducible refine Moves.snd (by assumption) ?_)
    | (with_reducible refine Moves.fst (by assumption) ?_)
    | (with_reducible refine Moves.trd (by assumption) ?_)
    | dsimp +zetaDelta only

theorem State.servoRail_moves (s : State) (p : Nat) : Moves 0x800202288002022 s (State.servoRail s p) := by
  unfold State.servoRail
  repeat' first
    | with_reducible assumption
    | with_reducible exact Moves.refl _ _
    | decide
    | ((with_reducible refine Moves.p_putb (n := 4) ?_ ?_ ?_ ?_); (first | rfl | assumption | (dsimp only [F.RXA_P_STAT_SERVO_RAIL]; omega)); decide; decide)
    | ((with_reducible refine Moves.p_raise (n := 4) ?_ ?_ ?_ ?_); (first | rfl | (split <;> rfl)); decide; decide)
    | with_reducible apply Moves.ite
    | split

theorem State.servoAverage_moves (s : State) (p : Nat) : Moves 0x8002022880020a2 s (State.servoAverage s p) := by
  unfold State.servoAverage
  repeat' first
    | with_reducible assumption
    | with_reducible exact Moves.refl _ _
    | decide
    | with_reducible apply Moves.ite
    | extract_lets
    | with_reducible apply Moves.step (State.setServo_moves ..)
    | with_reducible apply Moves.step (State.showServo_moves ..)
    | with_reducible apply Moves.step (State.servoRestart_moves ..)
    | with_reducible apply Moves.step (State.servoRail_moves ..)
    | split
    | (with_reducible refine Moves.snd (by assumption) ?_)
    | (with_reducible refine Moves.fst (by assumption) ?_)
    | (with_reducible refine Moves.trd (by assumption) ?_)
    | dsimp +zetaDelta only

theorem State.setAdc_moves (s : State) (p q : Nat) (a : Adc) : Moves 0x80 s (State.setAdc s p q a) := by
  unfold State.setAdc
  repeat' first
    | with_reducible assumption
    | with_reducible exact Moves.refl _ _
    | decide
    | rw [State.upd_rx]
    | with_reducible apply Moves.step (State.with_rx_moves ..)

theorem State.sliceFail_moves (s : State) (p q sl : Nat) : Moves 0x9002022884020a2 s (State.sliceFail s p q sl) := by
  unfold State.sliceFail
  repeat' first
    | with_reducible assumption
    | with_reducible exact Moves.refl _ _
    | decide
    | ((with_reducible refine Moves.p_putb (n := 4) ?_ ?_ ?_ ?_); (first | rfl | assumption | (dsimp only [F.RXA_P_STAT_DEGRADED]; omega) | exact fNOSPARE_block ..); decide; decide)
    | ((with_reducible refine Moves.p_raise (n := 4) ?_ ?_ ?_ ?_); (first | rfl | (split <;> rfl)); decide; decide)
    | ((with_reducible refine Moves.p_put (n := 4) ?_ ?_ ?_ ?_); (first | rfl | assumption | exact fSLRET_block .. | exact fSPARE_block ..); decide; decide)
    | with_reducible apply Moves.ite
    | extract_lets
    | with_reducible apply Moves.step (State.regrade_moves ..)
    | with_reducible apply Moves.step (State.setAdc_moves ..)
    | split
    | (with_reducible refine Moves.snd (by assumption) ?_)
    | (with_reducible refine Moves.fst (by assumption) ?_)
    | (with_reducible refine Moves.trd (by assumption) ?_)
    | dsimp +zetaDelta only

theorem State.sliceExchange_moves (s : State) (p q sl : Nat) (trimLimit residual : Bool) : Moves 0x9002022884020a2 s (State.sliceExchange s p q sl trimLimit residual) := by
  unfold State.sliceExchange
  repeat' first
    | with_reducible assumption
    | with_reducible exact Moves.refl _ _
    | decide
    | ((with_reducible refine Moves.p_put (n := 4) ?_ ?_ ?_ ?_); (first | rfl | assumption | exact fSPARE_block ..); decide; decide)
    | with_reducible apply Moves.ite
    | extract_lets
    | with_reducible apply Moves.step (State.setAdc_moves ..)
    | with_reducible apply Moves.step (State.sliceFail_moves ..)
    | split
    | (with_reducible refine Moves.snd (by assumption) ?_)
    | (with_reducible refine Moves.fst (by assumption) ?_)
    | (with_reducible refine Moves.trd (by assumption) ?_)
    | dsimp +zetaDelta only

theorem State.rxCalStore_moves (s : State) (n kind p : Nat) : Moves 0x2008000080 s (State.rxCalStore s n kind p) := by
  unfold State.rxCalStore
  simp -zeta only [State.upd_rx]
  repeat' first
    | with_reducible assumption
    | with_reducible exact Moves.refl _ _
    | decide
    | ((with_reducible refine Moves.p_putb (n := 4) ?_ ?_ ?_ ?_); (first | rfl | assumption | (dsimp only [F.RXA_P_STAT_SERVO_RAIL]; omega)); decide; decide)
    | ((with_reducible refine Moves.p_put (n := 4) ?_ ?_ ?_ ?_); (first | rfl | assumption | (dsimp only [F.RXA_COMP_VALUE]; omega)); decide; decide)
    | intro _
    | with_reducible apply Moves.ite
    | extract_lets
    | rw [State.upd_rx]
    | with_reducible apply Moves.step (State.with_rx_moves ..)
    | with_reducible apply Moves.step (State.setServo_moves ..)
    | with_reducible apply Moves.step (State.showServo_moves ..)
    | with_reducible apply Moves.each
    | split
    | dsimp +zetaDelta only

theorem State.rxCalRun_moves (s : State) (kind : Nat) (l : List Nat) (fail : Nat) (slices : List (Nat × Nat × Nat)) : Moves 0x9002023884020a2 s (State.rxCalRun s kind l fail slices) := by
  unfold State.rxCalRun
  repeat' first
    | with_reducible assumption
    | with_reducible exact Moves.refl _ _
    | decide
    | intro _
    | with_reducible apply Moves.ite
    | extract_lets
    | with_reducible apply Moves.step (State.draw_moves ..)
    | with_reducible apply Moves.step (State.rxCalStore_moves ..)
    | with_reducible apply Moves.step (State.sliceFail_moves ..)
    | with_reducible apply Moves.each
    | split
    | (with_reducible refine Moves.snd (by assumption) ?_)
    | (with_reducible refine Moves.fst (by assumption) ?_)
    | (with_reducible refine Moves.trd (by assumption) ?_)
    | dsimp +zetaDelta only

theorem State.rxCalRefuse_moves (s : State) : Moves 0x800202288002022 s (State.rxCalRefuse s) := by
  unfold State.rxCalRefuse
  repeat' first
    | with_reducible assumption
    | with_reducible exact Moves.refl _ _
    | decide
    | ((with_reducible refine Moves.p_raise (n := 4) ?_ ?_ ?_ ?_); (first | rfl | (split <;> rfl)); decide; decide)

theorem State.rxCalReq_moves (s : State) (kind quads : Nat) : Moves 0x8002022880020a2 s (State.rxCalReq s kind quads) := by
  unfold State.rxCalReq
  simp -zeta only [State.upd_rx]
  repeat' first
    | with_reducible assumption
    | with_reducible exact Moves.refl _ _
    | decide
    | ((with_reducible refine Moves.p_put (n := 4) ?_ ?_ ?_ ?_); (first | rfl | assumption); decide; decide)
    | ((with_reducible refine Moves.p_putb (n := 4) ?_ ?_ ?_ ?_); (first | rfl | assumption); decide; decide)
    | with_reducible apply Moves.ite
    | extract_lets
    | rw [State.upd_rx]
    | with_reducible apply Moves.step (State.with_rx_moves ..)
    | with_reducible apply Moves.step (State.rxCalRefuse_moves ..)
    | split
    | dsimp +zetaDelta only

theorem State.rxCalStart_moves (s : State) : Moves 0x2008000080 s (State.rxCalStart s) := by
  unfold State.rxCalStart
  simp -zeta only [State.upd_rx]
  repeat' first
    | with_reducible assumption
    | with_reducible exact Moves.refl _ _
    | decide
    | ((with_reducible refine Moves.p_putb (n := 4) ?_ ?_ ?_ ?_); (first | rfl | assumption); decide; decide)
    | intro _
    | with_reducible apply Moves.ite
    | extract_lets
    | rw [State.upd_rx]
    | with_reducible apply Moves.step (State.with_rx_moves ..)
    | with_reducible apply Moves.step (State.setRxPath_moves ..)
    | with_reducible apply Moves.step (State.addSpan_moves ..)
    | with_reducible apply Moves.each
    | split
    | (with_reducible refine Moves.snd (by assumption) ?_)
    | (with_reducible refine Moves.fst (by assumption) ?_)
    | (with_reducible refine Moves.trd (by assumption) ?_)
    | dsimp +zetaDelta only

theorem State.rxCalTimeout_moves (s : State) : Moves 0x800a022c80020e2 s (State.rxCalTimeout s) := by
  unfold State.rxCalTimeout
  simp -zeta only [State.upd_rx]
  repeat' first
    | with_reducible assumption
    | with_reducible exact Moves.refl _ _
    | decide
    | ((with_reducible refine Moves.p_putb (n := 4) ?_ ?_ ?_ ?_); (first | rfl | assumption); decide; decide)
    | ((with_reducible refine Moves.p_put (n := 4) ?_ ?_ ?_ ?_); (first | rfl | assumption); decide; decide)
    | extract_lets
    | rw [State.upd_rx]
    | with_reducible apply Moves.step (State.with_rx_moves ..)
    | with_reducible apply Moves.step (State.elapseTo_moves ..)
    | with_reducible apply Moves.step (State.rxCalRefuse_moves ..)
    | split
    | (with_reducible refine Moves.snd (by assumption) ?_)
    | (with_reducible refine Moves.fst (by assumption) ?_)
    | (with_reducible refine Moves.trd (by assumption) ?_)
    | dsimp +zetaDelta only

theorem State.rxCalDone_moves (s : State) (fail : Nat) (slices : List (Nat × Nat × Nat)) : Moves 0x900a063c84020e2 s (State.rxCalDone s fail slices) := by
  unfold State.rxCalDone
  simp -zeta only [State.upd_rx]
  repeat' first
    | with_reducible assumption
    | with_reducible exact Moves.refl _ _
    | decide
    | ((with_reducible refine Moves.p_putb (n := 4) ?_ ?_ ?_ ?_); (first | rfl | assumption); decide; decide)
    | ((with_reducible refine Moves.p_put (n := 4) ?_ ?_ ?_ ?_); (first | rfl | assumption); decide; decide)
    | ((with_reducible refine Moves.p_raise (n := 4) ?_ ?_ ?_ ?_); (first | rfl | (split <;> rfl)); decide; decide)
    | intro _
    | with_reducible apply Moves.ite
    | extract_lets
    | rw [State.upd_rx]
    | with_reducible apply Moves.step (State.with_rx_moves ..)
    | with_reducible apply Moves.step (State.reach_moves ..)
    | with_reducible apply Moves.step (State.rxCalRun_moves ..)
    | with_reducible apply Moves.step (State.setRxPath_moves ..)
    | with_reducible apply Moves.step (State.rxRestart_moves ..)
    | with_reducible apply Moves.each
    | split
    | (with_reducible refine Moves.snd (by assumption) ?_)
    | (with_reducible refine Moves.fst (by assumption) ?_)
    | (with_reducible refine Moves.trd (by assumption) ?_)
    | dsimp +zetaDelta only

theorem State.rxQuadUp_moves (s : State) (q : Nat) : Moves 0x6008000080 s (State.rxQuadUp s q) := by
  unfold State.rxQuadUp
  repeat' first
    | with_reducible assumption
    | with_reducible exact Moves.refl _ _
    | decide
    | intro _
    | extract_lets
    | with_reducible apply Moves.step (State.showServo_moves ..)
    | with_reducible apply Moves.step (State.rxRestart_moves ..)
    | with_reducible apply Moves.each
    | dsimp +zetaDelta only

theorem State.agcInit_moves (s : State) : Moves 0x2008000080 s (State.agcInit s) := by
  unfold State.agcInit
  repeat' first
    | with_reducible assumption
    | with_reducible exact Moves.refl _ _
    | decide
    | ((with_reducible refine Moves.p_put (n := 4) ?_ ?_ ?_ ?_); (first | rfl | assumption); decide; decide)
    | with_reducible apply Moves.ite
    | rw [State.upd_rx]
    | with_reducible apply Moves.step (State.with_rx_moves ..)
    | split

theorem State.rxQuadDown_moves (s : State) (q : Nat) : Moves 0x80 s (State.rxQuadDown s q) := by
  unfold State.rxQuadDown
  repeat' first
    | with_reducible assumption
    | with_reducible exact Moves.refl _ _
    | decide
    | rw [State.upd_rx]
    | with_reducible apply Moves.step (State.with_rx_moves ..)
    | split
    | (with_reducible refine Moves.snd (by assumption) ?_)
    | (with_reducible refine Moves.fst (by assumption) ?_)
    | (with_reducible refine Moves.trd (by assumption) ?_)

end Sys2Proof.Machine
end

