-- ==== Sys2Proof/Laws/MovesDpdEngine.lean ====
section
/-! SUPPORT. What each operation of Machine/DpdEngine.lean may change. -/

namespace Sys2Proof.Machine

set_option linter.all false

theorem State.setDpdCoef_moves (s : State) (p bank t : Nat) (c : Cx) : Moves 0x10000000 s (State.setDpdCoef s p bank t c) := by
  unfold State.setDpdCoef
  repeat' first
    | with_reducible assumption
    | with_reducible exact Moves.refl _ _
    | decide
    | with_reducible apply Moves.step (State.setMemWord_moves ..)

theorem State.setDpdBank_moves (s : State) (p bank : Nat) (l : List Cx) : Moves 0x10000000 s (State.setDpdBank s p bank l) := by
  unfold State.setDpdBank
  repeat' first
    | with_reducible assumption
    | with_reducible exact Moves.refl _ _
    | decide
    | intro _
    | with_reducible apply Moves.step (State.setDpdCoef_moves ..)
    | with_reducible apply Moves.each

theorem State.setDpdPath_moves (s : State) (p : Nat) (x : DpdPath) : Moves 0x200 s (State.setDpdPath s p x) := by
  unfold State.setDpdPath
  repeat' first
    | with_reducible assumption
    | with_reducible exact Moves.refl _ _
    | decide
    | rw [State.upd_dpd]
    | with_reducible apply Moves.step (State.with_dpd_moves ..)

theorem State.dpdFilled_moves (s : State) (p b : Nat) : Moves 0x20008000000 s (State.dpdFilled s p b) := by
  unfold State.dpdFilled
  repeat' first
    | with_reducible assumption
    | with_reducible exact Moves.refl _ _
    | decide
    | ((with_reducible refine Moves.p_put (n := 8) ?_ ?_ ?_ ?_); (first | rfl | assumption | (dsimp only [F.DPD_P_STAT_EMPTY]; omega)); decide; decide)

theorem State.dpdBankWrite_moves (s : State) (a v : Nat) : Moves 0x80022029c002222 s (State.dpdBankWrite s a v) := by
  unfold State.dpdBankWrite
  repeat' first
    | with_reducible assumption
    | with_reducible exact Moves.refl _ _
    | decide
    | ((with_reducible refine Moves.p_inc (n := 8) ?_ ?_ ?_ ?_); (first | rfl | assumption); decide; decide)
    | ((with_reducible refine Moves.p_raiseMs (n := 8) ?_ ?_ ?_ ?_); (first | rfl | (split <;> rfl)); decide; decide)
    | with_reducible apply Moves.ite
    | extract_lets
    | with_reducible apply Moves.step (State.setMemWord_moves ..)
    | with_reducible apply Moves.step (State.dpdFilled_moves ..)
    | with_reducible apply Moves.step (State.setDpdPath_moves ..)
    | split
    | (with_reducible refine Moves.snd (by assumption) ?_)
    | (with_reducible refine Moves.fst (by assumption) ?_)
    | (with_reducible refine Moves.trd (by assumption) ?_)
    | dsimp +zetaDelta only

theorem State.swapDropped_moves (s : State) : Moves 0x80022028c002022 s (State.swapDropped s) := by
  unfold State.swapDropped
  repeat' first
    | with_reducible assumption
    | with_reducible exact Moves.refl _ _
    | decide
    | ((with_reducible refine Moves.p_inc (n := 8) ?_ ?_ ?_ ?_); (first | rfl | assumption); decide; decide)
    | ((with_reducible refine Moves.p_raiseMs (n := 8) ?_ ?_ ?_ ?_); (first | rfl | (split <;> rfl)); decide; decide)

theorem State.fadeStart_moves (s : State) (p b k : Nat) : Moves 0x20008000200 s (State.fadeStart s p b k) := by
  unfold State.fadeStart
  repeat' first
    | with_reducible assumption
    | with_reducible exact Moves.refl _ _
    | decide
    | ((with_reducible refine Moves.p_put (n := 8) ?_ ?_ ?_ ?_); (first | rfl | assumption | (dsimp only [F.DPD_P_STAT_ACTIVE]; omega)); decide; decide)
    | ((with_reducible refine Moves.p_putb (n := 8) ?_ ?_ ?_ ?_); (first | rfl | assumption | (dsimp only [F.DPD_P_STAT_FADE]; omega)); decide; decide)
    | with_reducible apply Moves.ite
    | extract_lets
    | with_reducible apply Moves.step (State.setDpdPath_moves ..)
    | split
    | dsimp +zetaDelta only

theorem State.swapRequest_moves (s : State) (p b k : Nat) : Moves 0x80022028c002222 s (State.swapRequest s p b k) := by
  unfold State.swapRequest
  repeat' first
    | with_reducible assumption
    | with_reducible exact Moves.refl _ _
    | decide
    | ((with_reducible refine Moves.p_putb (n := 8) ?_ ?_ ?_ ?_); (first | rfl | assumption | (dsimp only [F.DPD_P_STAT_QV]; omega)); decide; decide)
    | ((with_reducible refine Moves.p_put (n := 8) ?_ ?_ ?_ ?_); (first | rfl | assumption | (dsimp only [F.DPD_P_STAT_QUEUED]; omega)); decide; decide)
    | with_reducible apply Moves.ite
    | extract_lets
    | with_reducible apply Moves.step (State.fadeStart_moves ..)
    | with_reducible apply Moves.step (State.swapDropped_moves ..)
    | split
    | (with_reducible refine Moves.snd (by assumption) ?_)
    | (with_reducible refine Moves.fst (by assumption) ?_)
    | (with_reducible refine Moves.trd (by assumption) ?_)
    | dsimp +zetaDelta only

theorem State.fadeComplete_moves (s : State) (p : Nat) : Moves 0x820058000240 s (State.fadeComplete s p) := by
  unfold State.fadeComplete
  repeat' first
    | with_reducible assumption
    | with_reducible exact Moves.refl _ _
    | decide
    | ((with_reducible refine Moves.p_putb (n := 8) ?_ ?_ ?_ ?_); (first | rfl | assumption | (dsimp only [F.DPD_P_STAT_FADE, F.DPD_P_STAT_QV]; omega)); decide; decide)
    | ((with_reducible refine Moves.p_put (n := 8) ?_ ?_ ?_ ?_); (first | rfl | assumption | (dsimp only [F.DPD_P_STAT_QUEUED]; omega)); decide; decide)
    | intro _
    | with_reducible apply Moves.ite
    | extract_lets
    | with_reducible apply Moves.step (State.reachAbs_moves ..)
    | with_reducible apply Moves.step (State.setDpdPath_moves ..)
    | with_reducible apply Moves.step (State.setDpdBank_moves ..)
    | with_reducible apply Moves.step (State.fadeStart_moves ..)
    | split
    | (with_reducible refine Moves.snd (by assumption) ?_)
    | (with_reducible refine Moves.fst (by assumption) ?_)
    | (with_reducible refine Moves.trd (by assumption) ?_)
    | dsimp +zetaDelta only

theorem State.fadeSettle_moves (s : State) (p k : Nat) : Moves 0x820058000240 s (State.fadeSettle s p k) := by
  unfold State.fadeSettle
  repeat' first
    | with_reducible assumption
    | with_reducible exact Moves.refl _ _
    | decide
    | with_reducible apply Moves.ite
    | with_reducible apply Moves.step (State.fadeComplete_moves ..)
    | split
    | (with_reducible refine Moves.snd (by assumption) ?_)
    | (with_reducible refine Moves.fst (by assumption) ?_)
    | (with_reducible refine Moves.trd (by assumption) ?_)

theorem State.swapRequests_moves (s : State) (paths b k : Nat) : Moves 0x800a202dc002262 s (State.swapRequests s paths b k) := by
  unfold State.swapRequests
  repeat' first
    | with_reducible assumption
    | with_reducible exact Moves.refl _ _
    | decide
    | intro _
    | with_reducible apply Moves.step (State.fadeSettle_moves ..)
    | with_reducible apply Moves.step (State.swapRequest_moves ..)
    | with_reducible apply Moves.each

theorem State.swapDue_moves (s : State) (k : Nat) : Moves 0x800a202dc002262 s (State.swapDue s k) := by
  unfold State.swapDue
  simp -zeta only [State.upd_dpd]
  repeat' first
    | with_reducible assumption
    | with_reducible exact Moves.refl _ _
    | decide
    | intro _
    | extract_lets
    | rw [State.upd_dpd]
    | with_reducible apply Moves.step (State.with_dpd_moves ..)
    | with_reducible apply Moves.step (State.swapRequests_moves ..)
    | with_reducible apply Moves.each
    | dsimp +zetaDelta only

theorem State.bypassWrite_moves (s : State) (p : Nat) (b : Bool) : Moves 0x100 s (State.bypassWrite s p b) := by
  unfold State.bypassWrite
  simp -zeta only [State.upd_tx]
  repeat' first
    | with_reducible assumption
    | with_reducible exact Moves.refl _ _
    | decide
    | with_reducible apply Moves.ite
    | extract_lets
    | rw [State.upd_tx]
    | with_reducible apply Moves.step (State.with_tx_moves ..)
    | split
    | dsimp +zetaDelta only

end Sys2Proof.Machine
end

