-- ==== Sys2Proof/Laws/MovesTxChain.lean ====
section
/-! SUPPORT. What each operation of Machine/TxChain.lean may change. -/

namespace Sys2Proof.Machine

set_option linter.all false

theorem muteCounter_block (c : Nat) : (muteCounter c).addr / 65536 = 0 ∨ (muteCounter c).addr / 65536 = 7 := by
  unfold muteCounter
  split <;> first | (right; rfl) | (left; rfl)

theorem State.setTxPath_moves (s : State) (p : Nat) (x : TxPath) : Moves 0x100 s (State.setTxPath s p x) := by
  unfold State.setTxPath
  repeat' first
    | with_reducible assumption
    | with_reducible exact Moves.refl _ _
    | decide
    | rw [State.upd_tx]
    | with_reducible apply Moves.step (State.with_tx_moves ..)

theorem State.syncTx_moves (s : State) : Moves 0x8008000000 s (State.syncTx s) := by
  unfold State.syncTx
  repeat' first
    | with_reducible assumption
    | with_reducible exact Moves.refl _ _
    | decide
    | ((with_reducible refine Moves.p_putb (n := 6) ?_ ?_ ?_ ?_); (first | rfl | assumption | (dsimp only [F.TXA_P_STAT_FAULT, F.TXA_P_STAT_REL, F.TXA_P_STAT_RETIRED]; omega)); decide; decide)
    | intro _
    | with_reducible apply Moves.each

theorem State.txFaultSync_moves (s : State) : Moves 0x800208288002122 s (State.txFaultSync s) := by
  unfold State.txFaultSync
  simp -zeta only [State.upd_tx]
  repeat' first
    | with_reducible assumption
    | with_reducible exact Moves.refl _ _
    | decide
    | ((with_reducible refine Moves.p_raise (n := 6) ?_ ?_ ?_ ?_); (first | rfl | (split <;> rfl)); decide; decide)
    | intro _
    | extract_lets
    | rw [State.upd_tx]
    | with_reducible apply Moves.step (State.with_tx_moves ..)
    | with_reducible apply Moves.step (State.syncTx_moves ..)
    | with_reducible apply Moves.each
    | dsimp +zetaDelta only

theorem State.txCause_moves (s : State) (c : Nat) (b : Bool) : Moves 0x800208288002122 s (State.txCause s c b) := by
  unfold State.txCause
  repeat' first
    | with_reducible assumption
    | with_reducible exact Moves.refl _ _
    | decide
    | rw [State.upd_tx]
    | with_reducible apply Moves.step (State.with_tx_moves ..)
    | with_reducible apply Moves.step (State.txFaultSync_moves ..)

theorem State.txSat_moves (s : State) (p : Nat) (b : Bool) : Moves 0x80021028c002022 s (State.txSat s p b) := by
  unfold State.txSat
  repeat' first
    | with_reducible assumption
    | with_reducible exact Moves.refl _ _
    | decide
    | ((with_reducible refine Moves.p_inc (n := 7) ?_ ?_ ?_ ?_); (first | rfl | assumption | (dsimp only [F.TXD_P_SAT_COUNT]; omega)); decide; decide)
    | ((with_reducible refine Moves.p_raiseMs (n := 7) ?_ ?_ ?_ ?_); (first | rfl | (split <;> rfl)); decide; decide)
    | with_reducible apply Moves.ite
    | split

theorem State.txPush_moves (s : State) (p : Nat) (v : Cx) : Moves 0x80021028c002122 s (State.txPush s p v) := by
  unfold State.txPush
  repeat' first
    | with_reducible assumption
    | with_reducible exact Moves.refl _ _
    | decide
    | with_reducible apply Moves.ite
    | extract_lets
    | with_reducible apply Moves.step (State.setTxPath_moves ..)
    | with_reducible apply Moves.step (State.txSat_moves ..)
    | split
    | (with_reducible refine Moves.snd (by assumption) ?_)
    | (with_reducible refine Moves.fst (by assumption) ?_)
    | (with_reducible refine Moves.trd (by assumption) ?_)
    | dsimp +zetaDelta only

theorem State.addMute_moves (s : State) (x : MuteSpan) : Moves 0x100 s (State.addMute s x) := by
  unfold State.addMute
  simp -zeta only [State.upd_tx]
  repeat' first
    | with_reducible assumption
    | with_reducible exact Moves.refl _ _
    | decide
    | extract_lets
    | rw [State.upd_tx]
    | with_reducible apply Moves.step (State.with_tx_moves ..)
    | split
    | (with_reducible refine Moves.snd (by assumption) ?_)
    | (with_reducible refine Moves.fst (by assumption) ?_)
    | (with_reducible refine Moves.trd (by assumption) ?_)
    | dsimp +zetaDelta only

theorem State.dacForm_moves (s : State) (p : Nat) (v : Cx) (gate : Bool) : Moves 0x80021028c002122 s (State.dacForm s p v gate) := by
  unfold State.dacForm
  repeat' first
    | with_reducible assumption
    | with_reducible exact Moves.refl _ _
    | decide
    | with_reducible apply Moves.ite
    | extract_lets
    | with_reducible apply Moves.step (State.setTxPath_moves ..)
    | with_reducible apply Moves.step (State.txSat_moves ..)
    | split
    | dsimp +zetaDelta only

theorem State.txInstant_moves (s : State) (p : Nat) : Moves 0x800a202dc002362 s (State.txInstant s p) := by
  unfold State.txInstant
  simp -zeta only [State.upd_tx]
  repeat' first
    | with_reducible assumption
    | with_reducible exact Moves.refl _ _
    | decide
    | intro _
    | with_reducible apply Moves.ite
    | extract_lets
    | rw [State.upd_tx]
    | with_reducible apply Moves.step (State.with_tx_moves ..)
    | with_reducible apply Moves.step (State.reachAbs_moves ..)
    | with_reducible apply Moves.step (State.swapDue_moves ..)
    | split
    | dsimp +zetaDelta only

theorem State.txMeter_moves (s : State) (fill : Nat) : Moves 0x800200288002022 s (State.txMeter s fill) := by
  unfold State.txMeter
  repeat' first
    | with_reducible assumption
    | with_reducible exact Moves.refl _ _
    | decide
    | with_reducible apply Moves.step (State.meter_moves ..)

theorem State.txPlay_moves (s : State) (p : Nat) (late : Bool) (bw : Option Nat) : Moves 0x81023028c002122 s (State.txPlay s p late bw).1 := by
  unfold State.txPlay
  repeat' first
    | with_reducible assumption
    | with_reducible exact Moves.refl _ _
    | decide
    | ((with_reducible refine Moves.p_inc (n := 8) ?_ ?_ ?_ ?_); (first | rfl | assumption | (dsimp only [F.DPD_P_SAT_COUNT]; omega)); decide; decide)
    | ((with_reducible refine Moves.p_raiseMs (n := 8) ?_ ?_ ?_ ?_); (first | rfl | (split <;> rfl)); decide; decide)
    | ((with_reducible refine Moves.p_inc (n := 19) ?_ ?_ ?_ ?_); (first | rfl | assumption | (dsimp only [F.GAUGE_RP_UNDER_COUNT]; omega)); decide; decide)
    | ((with_reducible refine Moves.p_raiseMs (n := 19) ?_ ?_ ?_ ?_); (first | rfl | (split <;> rfl)); decide; decide)
    | ((with_reducible refine Moves.q_inc (n := 0) (k := 7) ?_ ?_ ?_ ?_ ?_); (first | rfl | assumption | exact muteCounter_block ..); decide; decide; decide)
    | ((with_reducible refine Moves.p_raiseMs (n := 0) ?_ ?_ ?_ ?_); (first | rfl | (split <;> rfl)); decide; decide)
    | with_reducible apply Moves.ite
    | extract_lets
    | with_reducible apply Moves.step (State.txSat_moves ..)
    | with_reducible apply Moves.step (State.dacForm_moves ..)
    | with_reducible apply Moves.step (State.setTxPath_moves ..)
    | split
    | (with_reducible refine Moves.snd (by assumption) ?_)
    | (with_reducible refine Moves.fst (by assumption) ?_)
    | (with_reducible refine Moves.trd (by assumption) ?_)
    | dsimp +zetaDelta only

theorem State.txDeriveTaps_moves (s : State) (p : Nat) : Moves 0x10008000000 s (State.txDeriveTaps s p) := by
  unfold State.txDeriveTaps
  repeat' first
    | with_reducible assumption
    | with_reducible exact Moves.refl _ _
    | decide
    | ((with_reducible refine Moves.p_put (n := 7) ?_ ?_ ?_ ?_); (first | rfl | assumption | (dsimp only [F.TXD_P_IQ_VALUE]; omega)); decide; decide)
    | intro _
    | extract_lets
    | with_reducible apply Moves.each
    | split
    | (with_reducible refine Moves.snd (by assumption) ?_)
    | (with_reducible refine Moves.fst (by assumption) ?_)
    | (with_reducible refine Moves.trd (by assumption) ?_)
    | dsimp +zetaDelta only

theorem State.txStart_moves (s : State) : Moves 0x18008000100 s (State.txStart s) := by
  unfold State.txStart
  simp -zeta only [State.upd_tx]
  repeat' first
    | with_reducible assumption
    | with_reducible exact Moves.refl _ _
    | decide
    | ((with_reducible refine Moves.p_putb (n := 7) ?_ ?_ ?_ ?_); (first | rfl | assumption); decide; decide)
    | ((with_reducible refine Moves.p_put (n := 6) ?_ ?_ ?_ ?_); (first | rfl | assumption); decide; decide)
    | intro _
    | extract_lets
    | rw [State.upd_tx]
    | with_reducible apply Moves.step (State.with_tx_moves ..)
    | with_reducible apply Moves.step (State.txDeriveTaps_moves ..)
    | with_reducible apply Moves.step (State.syncTx_moves ..)
    | with_reducible apply Moves.each
    | dsimp +zetaDelta only

theorem State.txStop_moves (s : State) : Moves 0x18008000100 s (State.txStop s) := by
  unfold State.txStop
  repeat' first
    | with_reducible assumption
    | with_reducible exact Moves.refl _ _
    | decide
    | ((with_reducible refine Moves.p_putb (n := 7) ?_ ?_ ?_ ?_); (first | rfl | assumption); decide; decide)
    | ((with_reducible refine Moves.p_put (n := 6) ?_ ?_ ?_ ?_); (first | rfl | assumption); decide; decide)
    | rw [State.upd_tx]
    | with_reducible apply Moves.step (State.with_tx_moves ..)
    | with_reducible apply Moves.step (State.syncTx_moves ..)

theorem State.txRestartAt_moves (s : State) (paths t : Nat) (filt : Bool) : Moves 0x100 s (State.txRestartAt s paths t filt) := by
  unfold State.txRestartAt
  simp -zeta only [State.upd_tx]
  repeat' first
    | with_reducible assumption
    | with_reducible exact Moves.refl _ _
    | decide
    | intro _
    | extract_lets
    | rw [State.upd_tx]
    | with_reducible apply Moves.step (State.with_tx_moves ..)
    | with_reducible apply Moves.step (State.addMute_moves ..)
    | with_reducible apply Moves.each
    | dsimp +zetaDelta only

theorem State.txRestartDo_moves (s : State) (r : TxRestart) : Moves 0x818048000140 s (State.txRestartDo s r) := by
  unfold State.txRestartDo
  repeat' first
    | with_reducible assumption
    | with_reducible exact Moves.refl _ _
    | decide
    | ((with_reducible refine Moves.p_put (n := 6) ?_ ?_ ?_ ?_); (first | rfl | assumption); decide; decide)
    | intro _
    | with_reducible apply Moves.ite
    | extract_lets
    | with_reducible apply Moves.step (State.reachAbs_moves ..)
    | with_reducible apply Moves.step (State.setTxPath_moves ..)
    | with_reducible apply Moves.step (State.txDeriveTaps_moves ..)
    | with_reducible apply Moves.each
    | split
    | dsimp +zetaDelta only

theorem State.txRestartFire_moves (s : State) : Moves 0x818048000140 s (State.txRestartFire s) := by
  unfold State.txRestartFire
  repeat' first
    | with_reducible assumption
    | with_reducible exact Moves.refl _ _
    | decide
    | rw [State.upd_tx]
    | with_reducible apply Moves.step (State.with_tx_moves ..)
    | with_reducible apply Moves.step (State.txRestartDo_moves ..)
    | split
    | (with_reducible refine Moves.snd (by assumption) ?_)
    | (with_reducible refine Moves.fst (by assumption) ?_)
    | (with_reducible refine Moves.trd (by assumption) ?_)

theorem State.txRetune_moves (s : State) (f : Int) : Moves 0x10008000100 s (State.txRetune s f) := by
  unfold State.txRetune
  simp -zeta only [State.upd_tx]
  repeat' first
    | with_reducible assumption
    | with_reducible exact Moves.refl _ _
    | decide
    | ((with_reducible refine Moves.p_put48 (n := 7) ?_ ?_ ?_ ?_); (constructor <;> (first | rfl | assumption)); decide; decide)
    | with_reducible apply Moves.ite
    | extract_lets
    | rw [State.upd_tx]
    | with_reducible apply Moves.step (State.with_tx_moves ..)
    | split
    | dsimp +zetaDelta only

theorem State.txNcoGo_moves (s : State) (f : Int) (arm : Bool) (at_ : Stamp) : Moves 0x800210288002122 s (State.txNcoGo s f arm at_).2 := by
  unfold State.txNcoGo
  repeat' first
    | with_reducible assumption
    | with_reducible exact Moves.refl _ _
    | decide
    | ((with_reducible refine Moves.p_raise (n := 7) ?_ ?_ ?_ ?_); (first | rfl | (split <;> rfl)); decide; decide)
    | ((with_reducible refine Moves.p_putb (n := 7) ?_ ?_ ?_ ?_); (first | rfl | assumption); decide; decide)
    | with_reducible apply Moves.ite
    | rw [State.upd_tx]
    | with_reducible apply Moves.step (State.with_tx_moves ..)
    | with_reducible apply Moves.step (State.txRetune_moves ..)
    | split

theorem State.txNcoFire_moves (s : State) : Moves 0x810048000140 s (State.txNcoFire s) := by
  unfold State.txNcoFire
  simp -zeta only [State.upd_tx]
  repeat' first
    | with_reducible assumption
    | with_reducible exact Moves.refl _ _
    | decide
    | ((with_reducible refine Moves.p_putb (n := 7) ?_ ?_ ?_ ?_); (first | rfl | assumption); decide; decide)
    | intro _
    | extract_lets
    | rw [State.upd_tx]
    | with_reducible apply Moves.step (State.with_tx_moves ..)
    | with_reducible apply Moves.step (State.reach_moves ..)
    | with_reducible apply Moves.step (State.txRetune_moves ..)
    | split
    | (with_reducible refine Moves.snd (by assumption) ?_)
    | (with_reducible refine Moves.fst (by assumption) ?_)
    | (with_reducible refine Moves.trd (by assumption) ?_)
    | dsimp +zetaDelta only

theorem State.gainSet_moves (s : State) (g b : Nat) : Moves 0x100 s (State.gainSet s g b) := by
  unfold State.gainSet
  simp -zeta only [State.upd_tx]
  repeat' first
    | with_reducible assumption
    | with_reducible exact Moves.refl _ _
    | decide
    | with_reducible apply Moves.ite
    | extract_lets
    | rw [State.upd_tx]
    | with_reducible apply Moves.step (State.with_tx_moves ..)
    | split
    | dsimp +zetaDelta only

theorem State.gainApply_moves (s : State) : Moves 0x810048000040 s (State.gainApply s) := by
  unfold State.gainApply
  repeat' first
    | with_reducible assumption
    | with_reducible exact Moves.refl _ _
    | decide
    | ((with_reducible refine Moves.p_putb (n := 7) ?_ ?_ ?_ ?_); (first | rfl | assumption); decide; decide)
    | intro _
    | with_reducible apply Moves.step (State.reachAbs_moves ..)
    | split
    | (with_reducible refine Moves.snd (by assumption) ?_)
    | (with_reducible refine Moves.fst (by assumption) ?_)
    | (with_reducible refine Moves.trd (by assumption) ?_)

theorem State.coexFallEdge_moves (s : State) : Moves 0x80220828c002122 s (State.coexFallEdge s) := by
  unfold State.coexFallEdge
  simp -zeta only [State.upd_pins_tx]
  repeat' first
    | with_reducible assumption
    | with_reducible exact Moves.refl _ _
    | decide
    | ((with_reducible refine Moves.p_put64 (n := 6) ?_ ?_ ?_ ?_); (constructor <;> (first | rfl | assumption)); decide; decide)
    | ((with_reducible refine Moves.p_putb (n := 6) ?_ ?_ ?_ ?_); (first | rfl | assumption); decide; decide)
    | ((with_reducible refine Moves.p_raiseMs (n := 6) ?_ ?_ ?_ ?_); (first | rfl | (split <;> rfl)); decide; decide)
    | extract_lets
    | rw [State.upd_pins_tx]
    | with_reducible apply Moves.step (State.with_pins_tx_moves ..)
    | with_reducible apply Moves.step (State.syncCoex_moves ..)
    | split
    | (with_reducible refine Moves.snd (by assumption) ?_)
    | (with_reducible refine Moves.fst (by assumption) ?_)
    | (with_reducible refine Moves.trd (by assumption) ?_)
    | dsimp +zetaDelta only

theorem State.coexRiseEdge_moves (s : State) : Moves 0x2008008000102 s (State.coexRiseEdge s) := by
  unfold State.coexRiseEdge
  simp -zeta only [State.upd_pins_tx]
  repeat' first
    | with_reducible assumption
    | with_reducible exact Moves.refl _ _
    | decide
    | ((with_reducible refine Moves.p_putb (n := 6) ?_ ?_ ?_ ?_); (first | rfl | assumption); decide; decide)
    | with_reducible apply Moves.ite
    | extract_lets
    | rw [State.upd_pins_tx]
    | with_reducible apply Moves.step (State.with_pins_tx_moves ..)
    | with_reducible apply Moves.step (State.syncCoex_moves ..)
    | split
    | dsimp +zetaDelta only

theorem State.coexLiftNow_moves (s : State) : Moves 0x800048000140 s (State.coexLiftNow s) := by
  unfold State.coexLiftNow
  simp -zeta only [State.upd_tx]
  repeat' first
    | with_reducible assumption
    | with_reducible exact Moves.refl _ _
    | decide
    | intro _
    | extract_lets
    | rw [State.upd_tx]
    | with_reducible apply Moves.step (State.with_tx_moves ..)
    | with_reducible apply Moves.step (State.reachAbs_moves ..)
    | split
    | (with_reducible refine Moves.snd (by assumption) ?_)
    | (with_reducible refine Moves.fst (by assumption) ?_)
    | (with_reducible refine Moves.trd (by assumption) ?_)
    | dsimp +zetaDelta only

theorem State.txCalStore_moves (s : State) (n kind p : Nat) : Moves 0x8008000100 s (State.txCalStore s n kind p) := by
  unfold State.txCalStore
  simp -zeta only [State.upd_tx]
  repeat' first
    | with_reducible assumption
    | with_reducible exact Moves.refl _ _
    | decide
    | ((with_reducible refine Moves.p_put (n := 6) ?_ ?_ ?_ ?_); (first | rfl | assumption | (dsimp only [F.TXA_P_LOL_I, F.TXA_P_LOL_Q]; omega)); decide; decide)
    | ((with_reducible refine Moves.p_putb (n := 6) ?_ ?_ ?_ ?_); (first | rfl | assumption | (dsimp only [F.TXA_P_STAT_LOL_RAIL]; omega)); decide; decide)
    | with_reducible apply Moves.ite
    | extract_lets
    | rw [State.upd_tx]
    | with_reducible apply Moves.step (State.with_tx_moves ..)
    | split
    | dsimp +zetaDelta only

theorem State.txCalRun_moves (s : State) (kind : Nat) (l : List Nat) (fail : Nat) : Moves 0x8108000100 s (State.txCalRun s kind l fail) := by
  unfold State.txCalRun
  repeat' first
    | with_reducible assumption
    | with_reducible exact Moves.refl _ _
    | decide
    | intro _
    | with_reducible apply Moves.ite
    | extract_lets
    | with_reducible apply Moves.step (State.draw_moves ..)
    | with_reducible apply Moves.step (State.txCalStore_moves ..)
    | with_reducible apply Moves.each
    | split
    | (with_reducible refine Moves.snd (by assumption) ?_)
    | (with_reducible refine Moves.fst (by assumption) ?_)
    | (with_reducible refine Moves.trd (by assumption) ?_)
    | dsimp +zetaDelta only

theorem State.txCalRefuse_moves (s : State) : Moves 0x800208288002022 s (State.txCalRefuse s) := by
  unfold State.txCalRefuse
  repeat' first
    | with_reducible assumption
    | with_reducible exact Moves.refl _ _
    | decide
    | ((with_reducible refine Moves.p_raise (n := 6) ?_ ?_ ?_ ?_); (first | rfl | (split <;> rfl)); decide; decide)

theorem State.txCalReq_moves (s : State) (kind quads : Nat) : Moves 0x800208288002122 s (State.txCalReq s kind quads) := by
  unfold State.txCalReq
  simp -zeta only [State.upd_tx]
  repeat' first
    | with_reducible assumption
    | with_reducible exact Moves.refl _ _
    | decide
    | ((with_reducible refine Moves.p_put (n := 6) ?_ ?_ ?_ ?_); (first | rfl | assumption); decide; decide)
    | ((with_reducible refine Moves.p_putb (n := 6) ?_ ?_ ?_ ?_); (first | rfl | assumption); decide; decide)
    | with_reducible apply Moves.ite
    | extract_lets
    | rw [State.upd_tx]
    | with_reducible apply Moves.step (State.with_tx_moves ..)
    | with_reducible apply Moves.step (State.txCalRefuse_moves ..)
    | split
    | (with_reducible refine Moves.snd (by assumption) ?_)
    | (with_reducible refine Moves.fst (by assumption) ?_)
    | (with_reducible refine Moves.trd (by assumption) ?_)
    | dsimp +zetaDelta only

theorem State.txCalStart_moves (s : State) : Moves 0x8008000100 s (State.txCalStart s) := by
  unfold State.txCalStart
  simp -zeta only [State.upd_tx]
  repeat' first
    | with_reducible assumption
    | with_reducible exact Moves.refl _ _
    | decide
    | ((with_reducible refine Moves.p_putb (n := 6) ?_ ?_ ?_ ?_); (first | rfl | assumption); decide; decide)
    | intro _
    | with_reducible apply Moves.ite
    | extract_lets
    | rw [State.upd_tx]
    | with_reducible apply Moves.step (State.with_tx_moves ..)
    | with_reducible apply Moves.step (State.addMute_moves ..)
    | with_reducible apply Moves.each
    | split
    | (with_reducible refine Moves.snd (by assumption) ?_)
    | (with_reducible refine Moves.fst (by assumption) ?_)
    | (with_reducible refine Moves.trd (by assumption) ?_)
    | dsimp +zetaDelta only

theorem State.txCalTimeout_moves (s : State) : Moves 0x800a082c8002162 s (State.txCalTimeout s) := by
  unfold State.txCalTimeout
  simp -zeta only [State.upd_tx]
  repeat' first
    | with_reducible assumption
    | with_reducible exact Moves.refl _ _
    | decide
    | ((with_reducible refine Moves.p_putb (n := 6) ?_ ?_ ?_ ?_); (first | rfl | assumption); decide; decide)
    | ((with_reducible refine Moves.p_put (n := 6) ?_ ?_ ?_ ?_); (first | rfl | assumption); decide; decide)
    | extract_lets
    | rw [State.upd_tx]
    | with_reducible apply Moves.step (State.with_tx_moves ..)
    | with_reducible apply Moves.step (State.elapseTo_moves ..)
    | with_reducible apply Moves.step (State.txCalRefuse_moves ..)
    | split
    | (with_reducible refine Moves.snd (by assumption) ?_)
    | (with_reducible refine Moves.fst (by assumption) ?_)
    | (with_reducible refine Moves.trd (by assumption) ?_)
    | dsimp +zetaDelta only

theorem State.txCalDone_moves (s : State) (fail limit : Nat) : Moves 0x800a083c8002162 s (State.txCalDone s fail limit) := by
  unfold State.txCalDone
  simp -zeta only [State.upd_tx]
  repeat' first
    | with_reducible assumption
    | with_reducible exact Moves.refl _ _
    | decide
    | ((with_reducible refine Moves.p_putb (n := 6) ?_ ?_ ?_ ?_); (first | rfl | assumption); decide; decide)
    | ((with_reducible refine Moves.p_put (n := 6) ?_ ?_ ?_ ?_); (first | rfl | assumption); decide; decide)
    | ((with_reducible refine Moves.p_raise (n := 6) ?_ ?_ ?_ ?_); (first | rfl | (split <;> rfl)); decide; decide)
    | intro _
    | with_reducible apply Moves.ite
    | extract_lets
    | rw [State.upd_tx]
    | with_reducible apply Moves.step (State.with_tx_moves ..)
    | with_reducible apply Moves.step (State.reach_moves ..)
    | with_reducible apply Moves.step (State.txCalRun_moves ..)
    | with_reducible apply Moves.step (State.txRestartAt_moves ..)
    | split
    | (with_reducible refine Moves.snd (by assumption) ?_)
    | (with_reducible refine Moves.fst (by assumption) ?_)
    | (with_reducible refine Moves.trd (by assumption) ?_)
    | dsimp +zetaDelta only

theorem State.lolTrack_moves (s : State) (p : Nat) (ri rq : Int) : Moves 0x800208288002022 s (State.lolTrack s p ri rq) := by
  unfold State.lolTrack
  repeat' first
    | with_reducible assumption
    | with_reducible exact Moves.refl _ _
    | decide
    | ((with_reducible refine Moves.p_puti (n := 6) ?_ ?_ ?_ ?_); (first | rfl | assumption | (dsimp only [F.TXA_P_LOL_I, F.TXA_P_LOL_Q]; omega)); decide; decide)
    | ((with_reducible refine Moves.p_putb (n := 6) ?_ ?_ ?_ ?_); (first | rfl | assumption | (dsimp only [F.TXA_P_STAT_LOL_RAIL]; omega)); decide; decide)
    | ((with_reducible refine Moves.p_raise (n := 6) ?_ ?_ ?_ ?_); (first | rfl | (split <;> rfl)); decide; decide)
    | with_reducible apply Moves.ite
    | extract_lets
    | split
    | (with_reducible refine Moves.snd (by assumption) ?_)
    | (with_reducible refine Moves.fst (by assumption) ?_)
    | (with_reducible refine Moves.trd (by assumption) ?_)
    | dsimp +zetaDelta only

theorem State.rbRefuse_moves (s : State) : Moves 0x8208000002 s (State.rbRefuse s) := by
  unfold State.rbRefuse
  repeat' first
    | with_reducible assumption
    | with_reducible exact Moves.refl _ _
    | decide
    | ((with_reducible refine Moves.p_setBit (n := 6) ?_ ?_ ?_ ?_); (first | rfl | assumption); decide; decide)
    | with_reducible apply Moves.step (State.syncIrq_moves ..)

theorem State.rbGo_moves (s : State) (kind p : Nat) : Moves 0x8208000102 s (State.rbGo s kind p) := by
  unfold State.rbGo
  repeat' first
    | with_reducible assumption
    | with_reducible exact Moves.refl _ _
    | decide
    | with_reducible apply Moves.ite
    | rw [State.upd_tx]
    | with_reducible apply Moves.step (State.with_tx_moves ..)
    | with_reducible apply Moves.step (State.rbRefuse_moves ..)
    | split

theorem State.rbDone_moves (s : State) (v : Int) : Moves 0x8208000102 s (State.rbDone s v) := by
  unfold State.rbDone
  simp -zeta only [State.upd_tx]
  repeat' first
    | with_reducible assumption
    | with_reducible exact Moves.refl _ _
    | decide
    | ((with_reducible refine Moves.p_putb (n := 6) ?_ ?_ ?_ ?_); (first | rfl | assumption); decide; decide)
    | ((with_reducible refine Moves.p_incWrap (n := 6) ?_ ?_ ?_ ?_); (first | rfl | assumption); decide; decide)
    | ((with_reducible refine Moves.p_put (n := 6) ?_ ?_ ?_ ?_); (first | rfl | assumption); decide; decide)
    | ((with_reducible refine Moves.p_puti (n := 6) ?_ ?_ ?_ ?_); (first | rfl | assumption); decide; decide)
    | with_reducible apply Moves.ite
    | extract_lets
    | rw [State.upd_tx]
    | with_reducible apply Moves.step (State.with_tx_moves ..)
    | with_reducible apply Moves.step (State.rbRefuse_moves ..)
    | split
    | (with_reducible refine Moves.snd (by assumption) ?_)
    | (with_reducible refine Moves.fst (by assumption) ?_)
    | (with_reducible refine Moves.trd (by assumption) ?_)
    | dsimp +zetaDelta only

end Sys2Proof.Machine
end

