-- ==== Sys2Proof/Laws/MovesHoldMem.lean ====
section
/-! SUPPORT. What each operation of Machine/HoldMem.lean may change. -/

namespace Sys2Proof.Machine

set_option linter.all false

theorem State.holdCarried_moves (s : State) (g n : Nat) : Moves 0x20000008000000 s (State.holdCarried s g n) := by
  unfold State.holdCarried
  repeat' first
    | with_reducible assumption
    | with_reducible exact Moves.refl _ _
    | decide
    | ((with_reducible refine Moves.p_put (n := 20) ?_ ?_ ?_ ?_); (first | rfl | assumption | (dsimp only [F.HOLDC_BW_GRANULES]; omega)); decide; decide)

theorem State.unpoison_moves (s : State) (g : Nat) : Moves 0x80000 s (State.unpoison s g) := by
  unfold State.unpoison
  repeat' first
    | with_reducible assumption
    | with_reducible exact Moves.refl _ _
    | decide
    | rw [State.upd_hold]
    | with_reducible apply Moves.step (State.with_hold_moves ..)

theorem State.writeGranule_moves (s : State) (g : Nat) (l : List Byte) : Moves 0x10080000 s (State.writeGranule s g l) := by
  unfold State.writeGranule
  repeat' first
    | with_reducible assumption
    | with_reducible exact Moves.refl _ _
    | decide
    | with_reducible apply Moves.step (State.setBytes_moves ..)
    | with_reducible apply Moves.step (State.unpoison_moves ..)

theorem State.repairRow_moves (s : State) (r : Nat × Nat) : Moves 0x920200288482022 s (State.repairRow s r) := by
  unfold State.repairRow
  simp -zeta only [State.upd_hold]
  repeat' first
    | with_reducible assumption
    | with_reducible exact Moves.refl _ _
    | decide
    | ((with_reducible refine Moves.p_inc (n := 20) ?_ ?_ ?_ ?_); (first | rfl | assumption | (dsimp only [F.HOLDC_SPARE_UNBURNT, F.HOLDC_SPARE_USED, F.HOLDC_UNREP_COUNT]; omega)); decide; decide)
    | ((with_reducible refine Moves.p_put (n := 20) ?_ ?_ ?_ ?_); (first | rfl | assumption | (dsimp only [F.HOLDC_SPARE_LEFT]; omega)); decide; decide)
    | ((with_reducible refine Moves.p_raise (n := 20) ?_ ?_ ?_ ?_); (first | rfl | (split <;> rfl)); decide; decide)
    | with_reducible apply Moves.ite
    | extract_lets
    | rw [State.upd_hold]
    | with_reducible apply Moves.step (State.with_hold_moves ..)
    | with_reducible apply Moves.step (State.regrade_moves ..)
    | split
    | dsimp +zetaDelta only

theorem State.poisonGranule_moves (s : State) (g : Nat) : Moves 0x92020028c482022 s (State.poisonGranule s g) := by
  unfold State.poisonGranule
  simp -zeta only [State.upd_hold]
  repeat' first
    | with_reducible assumption
    | with_reducible exact Moves.refl _ _
    | decide
    | ((with_reducible refine Moves.p_inc (n := 20) ?_ ?_ ?_ ?_); (first | rfl | assumption); decide; decide)
    | ((with_reducible refine Moves.p_put (n := 20) ?_ ?_ ?_ ?_); (first | rfl | assumption); decide; decide)
    | ((with_reducible refine Moves.p_raiseMs (n := 20) ?_ ?_ ?_ ?_); (first | rfl | (split <;> rfl)); decide; decide)
    | with_reducible apply Moves.ite
    | extract_lets
    | rw [State.upd_hold]
    | with_reducible apply Moves.step (State.with_hold_moves ..)
    | with_reducible apply Moves.step (State.repairRow_moves ..)
    | split
    | dsimp +zetaDelta only

theorem State.correctedError_moves (s : State) (g : Nat) : Moves 0x82020028c002022 s (State.correctedError s g) := by
  unfold State.correctedError
  repeat' first
    | with_reducible assumption
    | with_reducible exact Moves.refl _ _
    | decide
    | ((with_reducible refine Moves.p_inc (n := 20) ?_ ?_ ?_ ?_); (first | rfl | assumption); decide; decide)
    | ((with_reducible refine Moves.p_raiseLim (n := 20) ?_ ?_ ?_ ?_); (first | rfl | (split <;> rfl)); decide; decide)

theorem State.holdRead_moves (s : State) (g err : Nat) : Moves 0x92020028c482022 s (State.holdRead s g err) := by
  unfold State.holdRead
  repeat' first
    | with_reducible assumption
    | with_reducible exact Moves.refl _ _
    | decide
    | with_reducible apply Moves.ite
    | with_reducible apply Moves.step (State.correctedError_moves ..)
    | with_reducible apply Moves.step (State.poisonGranule_moves ..)
    | split

theorem State.scrubRead_moves (s : State) (err : Nat) : Moves 0x92020028c482022 s (State.scrubRead s err) := by
  unfold State.scrubRead
  simp -zeta only [State.upd_hold]
  repeat' first
    | with_reducible assumption
    | with_reducible exact Moves.refl _ _
    | decide
    | ((with_reducible refine Moves.p_inc (n := 20) ?_ ?_ ?_ ?_); (first | rfl | assumption); decide; decide)
    | with_reducible apply Moves.ite
    | extract_lets
    | rw [State.upd_hold]
    | with_reducible apply Moves.step (State.with_hold_moves ..)
    | with_reducible apply Moves.step (State.holdCarried_moves ..)
    | with_reducible apply Moves.step (State.holdRead_moves ..)
    | with_reducible apply Moves.step (State.repairRow_moves ..)
    | split
    | dsimp +zetaDelta only

theorem State.repairBurn_moves (s : State) : Moves 0x20000008080004 s (State.repairBurn s) := by
  unfold State.repairBurn
  simp -zeta only [State.upd_hold_fuses]
  repeat' first
    | with_reducible assumption
    | with_reducible exact Moves.refl _ _
    | decide
    | ((with_reducible refine Moves.p_put (n := 20) ?_ ?_ ?_ ?_); (first | rfl | assumption | (dsimp only [F.HOLDC_SPARE_UNBURNT]; omega)); decide; decide)
    | with_reducible apply Moves.ite
    | extract_lets
    | rw [State.upd_hold_fuses]
    | with_reducible apply Moves.step (State.with_hold_fuses_moves ..)
    | split
    | (with_reducible refine Moves.snd (by assumption) ?_)
    | (with_reducible refine Moves.fst (by assumption) ?_)
    | (with_reducible refine Moves.trd (by assumption) ?_)
    | dsimp +zetaDelta only

theorem State.holdRaise_moves (s : State) : Moves 0x20000018080000 s (State.holdRaise s) := by
  unfold State.holdRaise
  simp -zeta only [State.upd_hold]
  repeat' first
    | with_reducible assumption
    | with_reducible exact Moves.refl _ _
    | decide
    | ((with_reducible refine Moves.p_put (n := 20) ?_ ?_ ?_ ?_); (first | rfl | assumption | (dsimp only [F.HOLDC_SPARE_LEFT, F.HOLDC_SPARE_USED]; omega)); decide; decide)
    | intro _
    | with_reducible apply Moves.ite
    | extract_lets
    | rw [State.upd_hold]
    | with_reducible apply Moves.step (State.with_hold_moves ..)
    | with_reducible apply Moves.step (State.clearRange_moves ..)
    | with_reducible apply Moves.each
    | split
    | dsimp +zetaDelta only

theorem State.holdInit_moves (s : State) : Moves 0x20000008000000 s (State.holdInit s) := by
  unfold State.holdInit
  repeat' first
    | with_reducible assumption
    | with_reducible exact Moves.refl _ _
    | decide
    | ((with_reducible refine Moves.p_putb (n := 20) ?_ ?_ ?_ ?_); (first | rfl | assumption); decide; decide)
    | with_reducible apply Moves.ite
    | split

theorem State.holdLower_moves (s : State) : Moves 0x10080000 s (State.holdLower s) := by
  unfold State.holdLower
  repeat' first
    | with_reducible assumption
    | with_reducible exact Moves.refl _ _
    | decide
    | rw [State.upd_hold]
    | with_reducible apply Moves.step (State.with_hold_moves ..)
    | with_reducible apply Moves.step (State.clearRange_moves ..)

end Sys2Proof.Machine
end

