-- ==== Sys2Proof/Laws/MovesGauge.lean ====
section
/-! SUPPORT. What each operation of Machine/Gauge.lean may change. -/

namespace Sys2Proof.Machine

set_option linter.all false

theorem State.setGchan_moves (s : State) (c : Nat) (x : GaugeChan) : Moves 0x80000 s (State.setGchan s c x) := by
  unfold State.setGchan
  repeat' first
    | with_reducible assumption
    | with_reducible exact Moves.refl _ _
    | decide
    | rw [State.upd_hold]
    | with_reducible apply Moves.step (State.with_hold_moves ..)

theorem State.setGstate_moves (s : State) (c v : Nat) : Moves 0x10000008000000 s (State.setGstate s c v) := by
  unfold State.setGstate
  repeat' first
    | with_reducible assumption
    | with_reducible exact Moves.refl _ _
    | decide
    | ((with_reducible refine Moves.p_put (n := 19) ?_ ?_ ?_ ?_); (first | rfl | assumption | (dsimp only [F.GAUGE_C_STAT_STATE, F.GAUGE_STAT_ACTIVE]; omega)); decide; decide)
    | extract_lets
    | dsimp +zetaDelta only

theorem State.gRefuse_moves (s : State) (i : Nat) : Moves 0x810200288002022 s (State.gRefuse s i) := by
  unfold State.gRefuse
  repeat' first
    | with_reducible assumption
    | with_reducible exact Moves.refl _ _
    | decide
    | ((with_reducible refine Moves.p_raise (n := 19) ?_ ?_ ?_ ?_); (first | rfl | (split <;> rfl)); decide; decide)

theorem State.gFill_moves (s : State) (c : Nat) : Moves 0x10000008080000 s (State.gFill s c) := by
  unfold State.gFill
  repeat' first
    | with_reducible assumption
    | with_reducible exact Moves.refl _ _
    | decide
    | with_reducible apply Moves.ite
    | extract_lets
    | with_reducible apply Moves.step (State.setGchan_moves ..)
    | with_reducible apply Moves.step (State.setGstate_moves ..)
    | split
    | dsimp +zetaDelta only

theorem State.gArm_moves (s : State) (c : Nat) : Moves 0x810200288082022 s (State.gArm s c) := by
  unfold State.gArm
  repeat' first
    | with_reducible assumption
    | with_reducible exact Moves.refl _ _
    | decide
    | ((with_reducible refine Moves.p_put (n := 19) ?_ ?_ ?_ ?_); (first | rfl | assumption | (dsimp only [F.GAUGE_C_STAT_RECS, F.GAUGE_C_STAT_RESULT, F.GAUGE_C_STAT_SLOT, F.GAUGE_DIR_WORD]; omega)); decide; decide)
    | intro _
    | with_reducible apply Moves.ite
    | extract_lets
    | with_reducible apply Moves.step (State.gRefuse_moves ..)
    | with_reducible apply Moves.step (State.setGchan_moves ..)
    | with_reducible apply Moves.step (State.gFill_moves ..)
    | with_reducible apply Moves.each
    | split
    | dsimp +zetaDelta only

theorem State.gaugeEventTo_moves (s : State) (c src t : Nat) : Moves 0x81020028c082022 s (State.gaugeEventTo s c src t) := by
  unfold State.gaugeEventTo
  repeat' first
    | with_reducible assumption
    | with_reducible exact Moves.refl _ _
    | decide
    | ((with_reducible refine Moves.p_inc (n := 19) ?_ ?_ ?_ ?_); (first | rfl | assumption | (dsimp only [F.GAUGE_C_TCNT_LATE]; omega)); decide; decide)
    | ((with_reducible refine Moves.p_raiseMs (n := 19) ?_ ?_ ?_ ?_); (first | rfl | (split <;> rfl)); decide; decide)
    | with_reducible apply Moves.ite
    | extract_lets
    | with_reducible apply Moves.step (State.setGchan_moves ..)
    | split
    | dsimp +zetaDelta only

theorem State.gaugeEvent_moves (s : State) (src t : Nat) : Moves 0x81020028c082022 s (State.gaugeEvent s src t) := by
  unfold State.gaugeEvent
  repeat' first
    | with_reducible assumption
    | with_reducible exact Moves.refl _ _
    | decide
    | intro _
    | with_reducible apply Moves.step (State.gaugeEventTo_moves ..)
    | with_reducible apply Moves.each

theorem State.gtrigEdge_moves (s : State) (rise : Bool) : Moves 0x81020028c082022 s (State.gtrigEdge s rise) := by
  unfold State.gtrigEdge
  simp -zeta only [State.upd_pins]
  repeat' first
    | with_reducible assumption
    | with_reducible exact Moves.refl _ _
    | decide
    | with_reducible apply Moves.ite
    | extract_lets
    | rw [State.upd_pins]
    | with_reducible apply Moves.step (State.with_pins_moves ..)
    | with_reducible apply Moves.step (State.gaugeEvent_moves ..)
    | split
    | dsimp +zetaDelta only

theorem State.gaugeTap_moves (s : State) (point stream : Nat) (x : TapSample) : Moves 0x80000 s (State.gaugeTap s point stream x) := by
  unfold State.gaugeTap
  repeat' first
    | with_reducible assumption
    | with_reducible exact Moves.refl _ _
    | decide
    | intro _
    | with_reducible apply Moves.ite
    | extract_lets
    | with_reducible apply Moves.step (State.setGchan_moves ..)
    | with_reducible apply Moves.each
    | split
    | dsimp +zetaDelta only

theorem State.gaugeRebase_moves (s : State) (points : List Nat) : Moves 0x80000 s (State.gaugeRebase s points) := by
  unfold State.gaugeRebase
  repeat' first
    | with_reducible assumption
    | with_reducible exact Moves.refl _ _
    | decide
    | intro _
    | with_reducible apply Moves.ite
    | extract_lets
    | with_reducible apply Moves.step (State.setGchan_moves ..)
    | with_reducible apply Moves.each
    | split
    | dsimp +zetaDelta only

theorem State.writeMarker_moves (s : State) (c k at_ lost : Nat) : Moves 0x10080000 s (State.writeMarker s c k at_ lost) := by
  unfold State.writeMarker
  repeat' first
    | with_reducible assumption
    | with_reducible exact Moves.refl _ _
    | decide
    | intro _
    | with_reducible apply Moves.step (State.writeGranule_moves ..)
    | with_reducible apply Moves.each

theorem State.histAdd_moves (s : State) (d : Nat) (v : Cx) : Moves 0x10000008000000 s (State.histAdd s d v) := by
  unfold State.histAdd
  repeat' first
    | with_reducible assumption
    | with_reducible exact Moves.refl _ _
    | decide
    | ((with_reducible refine Moves.p_inc (n := 19) ?_ ?_ ?_ ?_); (first | rfl | assumption | (dsimp only [F.GAUGE_HIST_COUNT]; omega) | (split <;> rfl) | (dsimp +zetaDelta only; split <;> rfl) | (split <;> (dsimp only [F.GAUGE_HIST_COUNT]; omega))); decide; decide)
    | with_reducible apply Moves.ite
    | extract_lets
    | split
    | dsimp +zetaDelta only

theorem State.mapInc_moves (s : State) (key : Nat) : Moves 0x80000 s (State.mapInc s key) := by
  unfold State.mapInc
  simp -zeta only [State.upd_hold]
  repeat' first
    | with_reducible assumption
    | with_reducible exact Moves.refl _ _
    | decide
    | extract_lets
    | rw [State.upd_hold]
    | with_reducible apply Moves.step (State.with_hold_moves ..)
    | dsimp +zetaDelta only

theorem State.mapDecay_moves (s : State) (d sh : Nat) : Moves 0x80000 s (State.mapDecay s d sh) := by
  unfold State.mapDecay
  repeat' first
    | with_reducible assumption
    | with_reducible exact Moves.refl _ _
    | decide
    | with_reducible apply Moves.ite
    | rw [State.upd_hold]
    | with_reducible apply Moves.step (State.with_hold_moves ..)
    | split

theorem State.mapBlock_moves (s : State) (d : Nat) (l : List (Option Cx)) : Moves 0x10000008080000 s (State.mapBlock s d l) := by
  unfold State.mapBlock
  repeat' first
    | with_reducible assumption
    | with_reducible exact Moves.refl _ _
    | decide
    | ((with_reducible refine Moves.p_inc (n := 19) ?_ ?_ ?_ ?_); (first | rfl | assumption | (dsimp only [F.GAUGE_DEEP_SKIP_COUNT]; omega)); decide; decide)
    | ((with_reducible refine Moves.p_incWrap (n := 19) ?_ ?_ ?_ ?_); (first | rfl | assumption | (dsimp only [F.GAUGE_DEEP_SPEC_COUNT]; omega)); decide; decide)
    | intro _
    | with_reducible apply Moves.ite
    | extract_lets
    | with_reducible apply Moves.step (State.mapInc_moves ..)
    | with_reducible apply Moves.step (State.setGchan_moves ..)
    | with_reducible apply Moves.step (State.mapDecay_moves ..)
    | with_reducible apply Moves.each
    | split
    | dsimp +zetaDelta only

theorem State.deepSample_moves (s : State) (c : Nat) (y : Option TapSample) : Moves 0x10000008080000 s (State.deepSample s c y) := by
  unfold State.deepSample
  repeat' first
    | with_reducible assumption
    | with_reducible exact Moves.refl _ _
    | decide
    | with_reducible apply Moves.ite
    | extract_lets
    | with_reducible apply Moves.step (State.histAdd_moves ..)
    | with_reducible apply Moves.step (State.setGchan_moves ..)
    | with_reducible apply Moves.step (State.mapBlock_moves ..)
    | split
    | (with_reducible refine Moves.snd (by assumption) ?_)
    | (with_reducible refine Moves.fst (by assumption) ?_)
    | (with_reducible refine Moves.trd (by assumption) ?_)
    | dsimp +zetaDelta only

theorem State.deepSet_moves (s : State) (c : Nat) (l : List (Option TapSample)) : Moves 0x10000008080000 s (State.deepSet s c l) := by
  unfold State.deepSet
  repeat' first
    | with_reducible assumption
    | with_reducible exact Moves.refl _ _
    | decide
    | intro _
    | with_reducible apply Moves.ite
    | with_reducible apply Moves.step (State.deepSample_moves ..)
    | with_reducible apply Moves.each
    | split

theorem State.measure_moves (s : State) (c f held : Nat) : Moves 0x100000000 s (State.measure s c f held).2 := by
  unfold State.measure
  repeat' first
    | with_reducible assumption
    | with_reducible exact Moves.refl _ _
    | decide
    | intro _
    | with_reducible apply Moves.ite
    | extract_lets
    | with_reducible apply Moves.step (State.draw_moves ..)
    | with_reducible apply Moves.foldl
    | with_reducible apply Moves.foldlFst
    | with_reducible apply Moves.foldlSnd
    | split
    | (with_reducible refine Moves.snd (by assumption) ?_)
    | (with_reducible refine Moves.fst (by assumption) ?_)
    | (with_reducible refine Moves.trd (by assumption) ?_)
    | dsimp +zetaDelta only

theorem State.recMarkers_moves (s : State) (c f n : Nat) : Moves 0x10080000 s (State.recMarkers s c f n) := by
  unfold State.recMarkers
  repeat' first
    | with_reducible assumption
    | with_reducible exact Moves.refl _ _
    | decide
    | intro _
    | extract_lets
    | with_reducible apply Moves.step (State.writeMarker_moves ..)
    | with_reducible apply Moves.each
    | dsimp +zetaDelta only

theorem State.dirWrite_moves (s : State) (c slot : Nat) (l : List Byte) : Moves 0x10000008000000 s (State.dirWrite s c slot l) := by
  unfold State.dirWrite
  repeat' first
    | with_reducible assumption
    | with_reducible exact Moves.refl _ _
    | decide
    | ((with_reducible refine Moves.p_put (n := 19) ?_ ?_ ?_ ?_); (first | rfl | assumption | (dsimp only [F.GAUGE_DIR_WORD]; omega)); decide; decide)
    | intro _
    | with_reducible apply Moves.each

theorem State.gClose_moves (s0 : State) (c : Nat) (trunc susp : Bool) : Moves 0x81020039c082022 s0 (State.gClose s0 c trunc susp) := by
  unfold State.gClose
  repeat' first
    | with_reducible assumption
    | with_reducible exact Moves.refl _ _
    | decide
    | ((with_reducible refine Moves.p_putb (n := 19) ?_ ?_ ?_ ?_); (first | rfl | assumption | (dsimp only [F.GAUGE_C_RES_NEW, F.GAUGE_C_RES_VALID]; omega)); decide; decide)
    | ((with_reducible refine Moves.p_incWrap (n := 19) ?_ ?_ ?_ ?_); (first | rfl | assumption | (dsimp only [F.GAUGE_C_RES_SEQ]; omega)); decide; decide)
    | ((with_reducible refine Moves.p_put (n := 19) ?_ ?_ ?_ ?_); (first | rfl | assumption | (dsimp only [F.GAUGE_C_RES_SLOT, F.GAUGE_C_STAT_RECS]; omega)); decide; decide)
    | ((with_reducible refine Moves.p_raiseMs (n := 19) ?_ ?_ ?_ ?_); (first | rfl | (split <;> rfl)); decide; decide)
    | ((with_reducible refine Moves.p_add (n := 19) ?_ ?_ ?_ ?_); (first | rfl | assumption | (dsimp only [F.GAUGE_C_GAPS_INSTANTS]; omega)); decide; decide)
    | with_reducible apply Moves.ite
    | extract_lets
    | with_reducible apply Moves.step (State.recMarkers_moves ..)
    | with_reducible apply Moves.step (State.measure_moves ..)
    | with_reducible apply Moves.step (State.dirWrite_moves ..)
    | with_reducible apply Moves.step (State.setGchan_moves ..)
    | split
    | (with_reducible refine Moves.snd (by assumption) ?_)
    | (with_reducible refine Moves.fst (by assumption) ?_)
    | (with_reducible refine Moves.trd (by assumption) ?_)
    | dsimp +zetaDelta only

theorem State.gNext_moves (s : State) (c : Nat) : Moves 0x810200288082022 s (State.gNext s c) := by
  unfold State.gNext
  repeat' first
    | with_reducible assumption
    | with_reducible exact Moves.refl _ _
    | decide
    | ((with_reducible refine Moves.p_raise (n := 19) ?_ ?_ ?_ ?_); (first | rfl | (split <;> rfl)); decide; decide)
    | ((with_reducible refine Moves.p_put (n := 19) ?_ ?_ ?_ ?_); (first | rfl | assumption | (dsimp only [F.GAUGE_C_STAT_SLOT]; omega)); decide; decide)
    | with_reducible apply Moves.ite
    | extract_lets
    | with_reducible apply Moves.step (State.setGstate_moves ..)
    | with_reducible apply Moves.step (State.gFill_moves ..)
    | split
    | dsimp +zetaDelta only

theorem State.gAdvance_moves (s : State) (c : Nat) : Moves 0x81020039c082022 s (State.gAdvance s c) := by
  unfold State.gAdvance
  repeat' first
    | with_reducible assumption
    | with_reducible exact Moves.refl _ _
    | decide
    | with_reducible apply Moves.ite
    | extract_lets
    | with_reducible apply Moves.step (State.setGstate_moves ..)
    | with_reducible apply Moves.step (State.gClose_moves ..)
    | with_reducible apply Moves.step (State.gNext_moves ..)
    | split
    | (with_reducible refine Moves.snd (by assumption) ?_)
    | (with_reducible refine Moves.fst (by assumption) ?_)
    | (with_reducible refine Moves.trd (by assumption) ?_)
    | dsimp +zetaDelta only

theorem State.gSetWrite_moves (s : State) (c : Nat) : Moves 0x83020039c082022 s (State.gSetWrite s c) := by
  unfold State.gSetWrite
  repeat' first
    | with_reducible assumption
    | with_reducible exact Moves.refl _ _
    | decide
    | intro _
    | with_reducible apply Moves.ite
    | extract_lets
    | with_reducible apply Moves.step (State.writeMarker_moves ..)
    | with_reducible apply Moves.step (State.writeGranule_moves ..)
    | with_reducible apply Moves.step (State.setGchan_moves ..)
    | with_reducible apply Moves.step (State.holdCarried_moves ..)
    | with_reducible apply Moves.step (State.deepSet_moves ..)
    | with_reducible apply Moves.step (State.gAdvance_moves ..)
    | with_reducible apply Moves.each
    | split
    | (with_reducible refine Moves.snd (by assumption) ?_)
    | (with_reducible refine Moves.fst (by assumption) ?_)
    | (with_reducible refine Moves.trd (by assumption) ?_)
    | dsimp +zetaDelta only

theorem State.gSetDrop_moves (s : State) (c : Nat) : Moves 0x81020039c082022 s (State.gSetDrop s c) := by
  unfold State.gSetDrop
  repeat' first
    | with_reducible assumption
    | with_reducible exact Moves.refl _ _
    | decide
    | ((with_reducible refine Moves.p_add (n := 0) ?_ ?_ ?_ ?_); (first | rfl | assumption | (dsimp only [F.TOP_SLIP_CNT_COUNT]; omega)); decide; decide)
    | with_reducible apply Moves.ite
    | extract_lets
    | with_reducible apply Moves.step (State.setGchan_moves ..)
    | with_reducible apply Moves.step (State.deepSet_moves ..)
    | with_reducible apply Moves.step (State.gAdvance_moves ..)
    | split
    | dsimp +zetaDelta only

theorem State.gDecide_moves (s0 : State) (c : Nat) : Moves 0x810a003dc082062 s0 (State.gDecide s0 c) := by
  unfold State.gDecide
  repeat' first
    | with_reducible assumption
    | with_reducible exact Moves.refl _ _
    | decide
    | ((with_reducible refine Moves.p_inc (n := 19) ?_ ?_ ?_ ?_); (first | rfl | assumption | (dsimp only [F.GAUGE_C_TCNT_IGN, F.GAUGE_C_TCNT_RETRIG]; omega)); decide; decide)
    | intro _
    | with_reducible apply Moves.ite
    | extract_lets
    | with_reducible apply Moves.step (State.reachAbs_moves ..)
    | with_reducible apply Moves.step (State.setGchan_moves ..)
    | with_reducible apply Moves.step (State.setGstate_moves ..)
    | with_reducible apply Moves.step (State.gAdvance_moves ..)
    | split
    | (with_reducible refine Moves.snd (by assumption) ?_)
    | (with_reducible refine Moves.fst (by assumption) ?_)
    | (with_reducible refine Moves.trd (by assumption) ?_)
    | dsimp +zetaDelta only

theorem State.gStop_moves (s : State) (c : Nat) : Moves 0x81020039c082022 s (State.gStop s c) := by
  unfold State.gStop
  repeat' first
    | with_reducible assumption
    | with_reducible exact Moves.refl _ _
    | decide
    | with_reducible apply Moves.ite
    | extract_lets
    | with_reducible apply Moves.step (State.gClose_moves ..)
    | with_reducible apply Moves.step (State.setGchan_moves ..)
    | with_reducible apply Moves.step (State.setGstate_moves ..)
    | split
    | dsimp +zetaDelta only

theorem State.rpEnd_moves (s : State) (r : Nat) : Moves 0x810200288082022 s (State.rpEnd s r) := by
  unfold State.rpEnd
  simp -zeta only [State.upd_hold]
  repeat' first
    | with_reducible assumption
    | with_reducible exact Moves.refl _ _
    | decide
    | ((with_reducible refine Moves.p_put (n := 19) ?_ ?_ ?_ ?_); (first | rfl | assumption | (dsimp only [F.GAUGE_RP_STAT_STATE, F.GAUGE_STAT_REPLAY]; omega)); decide; decide)
    | ((with_reducible refine Moves.p_raise (n := 19) ?_ ?_ ?_ ?_); (first | rfl | (split <;> rfl)); decide; decide)
    | with_reducible apply Moves.ite
    | extract_lets
    | rw [State.upd_hold]
    | with_reducible apply Moves.step (State.with_hold_moves ..)
    | split
    | dsimp +zetaDelta only

theorem State.gaugeSuspend_moves (s : State) : Moves 0x81020039c082022 s (State.gaugeSuspend s) := by
  unfold State.gaugeSuspend
  repeat' first
    | with_reducible assumption
    | with_reducible exact Moves.refl _ _
    | decide
    | ((with_reducible refine Moves.p_putb (n := 19) ?_ ?_ ?_ ?_); (first | rfl | assumption); decide; decide)
    | ((with_reducible refine Moves.p_raise (n := 19) ?_ ?_ ?_ ?_); (first | rfl | (split <;> rfl)); decide; decide)
    | intro _
    | with_reducible apply Moves.ite
    | extract_lets
    | with_reducible apply Moves.step (State.gClose_moves ..)
    | with_reducible apply Moves.step (State.setGchan_moves ..)
    | with_reducible apply Moves.step (State.setGstate_moves ..)
    | with_reducible apply Moves.step (State.rpEnd_moves ..)
    | with_reducible apply Moves.each
    | split
    | dsimp +zetaDelta only

theorem State.gaugeResume_moves (s : State) : Moves 0x10000008080000 s (State.gaugeResume s) := by
  unfold State.gaugeResume
  repeat' first
    | with_reducible assumption
    | with_reducible exact Moves.refl _ _
    | decide
    | ((with_reducible refine Moves.p_putb (n := 19) ?_ ?_ ?_ ?_); (first | rfl | assumption); decide; decide)
    | intro _
    | with_reducible apply Moves.ite
    | with_reducible apply Moves.step (State.gFill_moves ..)
    | with_reducible apply Moves.each
    | split

theorem State.gaugeLeave_moves (s : State) : Moves 0x81020039c082022 s (State.gaugeLeave s) := by
  unfold State.gaugeLeave
  repeat' first
    | with_reducible assumption
    | with_reducible exact Moves.refl _ _
    | decide
    | intro _
    | with_reducible apply Moves.ite
    | with_reducible apply Moves.step (State.gStop_moves ..)
    | with_reducible apply Moves.step (State.rpEnd_moves ..)
    | with_reducible apply Moves.each
    | split

theorem State.rpGo_moves (s : State) (r : Nat) : Moves 0x810200288002022 s (State.rpGo s r) := by
  unfold State.rpGo
  repeat' first
    | with_reducible assumption
    | with_reducible exact Moves.refl _ _
    | decide
    | ((with_reducible refine Moves.p_put (n := 19) ?_ ?_ ?_ ?_); (first | rfl | assumption | (dsimp only [F.GAUGE_RP_STAT_DONE, F.GAUGE_RP_STAT_RESULT, F.GAUGE_RP_STAT_STATE]; omega)); decide; decide)
    | with_reducible apply Moves.ite
    | extract_lets
    | with_reducible apply Moves.step (State.gRefuse_moves ..)
    | split
    | dsimp +zetaDelta only

theorem State.rpStop_moves (s : State) (r : Nat) : Moves 0x810200288082022 s (State.rpStop s r) := by
  unfold State.rpStop
  repeat' first
    | with_reducible assumption
    | with_reducible exact Moves.refl _ _
    | decide
    | with_reducible apply Moves.ite
    | rw [State.upd_hold]
    | with_reducible apply Moves.step (State.with_hold_moves ..)
    | with_reducible apply Moves.step (State.rpEnd_moves ..)
    | split
    | (with_reducible refine Moves.snd (by assumption) ?_)
    | (with_reducible refine Moves.fst (by assumption) ?_)
    | (with_reducible refine Moves.trd (by assumption) ?_)

theorem State.rpStart_moves (s : State) (r : Nat) : Moves 0x30800048080040 s (State.rpStart s r) := by
  unfold State.rpStart
  simp -zeta only [State.upd_hold]
  repeat' first
    | with_reducible assumption
    | with_reducible exact Moves.refl _ _
    | decide
    | ((with_reducible refine Moves.p_put (n := 19) ?_ ?_ ?_ ?_); (first | rfl | assumption | (dsimp only [F.GAUGE_RP_STAT_STATE, F.GAUGE_STAT_REPLAY]; omega)); decide; decide)
    | intro _
    | with_reducible apply Moves.ite
    | extract_lets
    | rw [State.upd_hold]
    | with_reducible apply Moves.step (State.with_hold_moves ..)
    | with_reducible apply Moves.step (State.reachAbs_moves ..)
    | with_reducible apply Moves.step (State.holdCarried_moves ..)
    | split
    | dsimp +zetaDelta only

theorem State.rpFollow_moves (s : State) (k : Nat) : Moves 0x30000008080000 s (State.rpFollow s k) := by
  unfold State.rpFollow
  simp -zeta only [State.upd_hold]
  repeat' first
    | with_reducible assumption
    | with_reducible exact Moves.refl _ _
    | decide
    | ((with_reducible refine Moves.p_inc (n := 19) ?_ ?_ ?_ ?_); (first | rfl | assumption | (dsimp only [F.GAUGE_RP_STAT_DONE]; omega)); decide; decide)
    | intro _
    | with_reducible apply Moves.ite
    | extract_lets
    | rw [State.upd_hold]
    | with_reducible apply Moves.step (State.with_hold_moves ..)
    | with_reducible apply Moves.step (State.holdCarried_moves ..)
    | with_reducible apply Moves.each
    | split
    | (with_reducible refine Moves.snd (by assumption) ?_)
    | (with_reducible refine Moves.fst (by assumption) ?_)
    | (with_reducible refine Moves.trd (by assumption) ?_)
    | dsimp +zetaDelta only

theorem State.rpFinish_moves (s : State) (r : Nat) : Moves 0x810a002c8082062 s (State.rpFinish s r) := by
  unfold State.rpFinish
  repeat' first
    | with_reducible assumption
    | with_reducible exact Moves.refl _ _
    | decide
    | ((with_reducible refine Moves.p_inc (n := 19) ?_ ?_ ?_ ?_); (first | rfl | assumption | (dsimp only [F.GAUGE_RP_STAT_DONE]; omega)); decide; decide)
    | intro _
    | with_reducible apply Moves.ite
    | extract_lets
    | with_reducible apply Moves.step (State.reachAbs_moves ..)
    | with_reducible apply Moves.step (State.rpEnd_moves ..)
    | split
    | (with_reducible refine Moves.snd (by assumption) ?_)
    | (with_reducible refine Moves.fst (by assumption) ?_)
    | (with_reducible refine Moves.trd (by assumption) ?_)
    | dsimp +zetaDelta only

end Sys2Proof.Machine
end

