-- ==== Sys2Proof/Laws/MovesDpd.lean ====
section
/-! SUPPORT. What each operation of Machine/Dpd.lean may change. -/

namespace Sys2Proof.Machine

set_option linter.all false

theorem fORXRET_block (k q : Nat) : (fORXRET k q).addr / 65536 = 8 := by
  unfold fORXRET
  split <;> (dsimp only [F.DPD_ORX_STAT_RET_I, F.DPD_ORX_STAT_RET_Q]; omega)

theorem fORXNOSPARE_block (k q : Nat) : (fORXNOSPARE k q).addr / 65536 = 8 := by
  unfold fORXNOSPARE
  split <;> (dsimp only [F.DPD_ORX_STAT_NOSPARE_I, F.DPD_ORX_STAT_NOSPARE_Q]; omega)

theorem State.orxSlot_moves (s : State) (k : Nat) (found : Bool) (ri rq : Int) (fill lost : Nat) : Moves 0x80022828c002222 s (State.orxSlot s k found ri rq fill lost) := by
  unfold State.orxSlot
  simp -zeta only [State.upd_dpd]
  repeat' first
    | with_reducible assumption
    | with_reducible exact Moves.refl _ _
    | decide
    | ((with_reducible refine Moves.p_add (n := 0) ?_ ?_ ?_ ?_); (first | rfl | assumption | (dsimp only [F.TOP_SLIP_CNT_COUNT]; omega)); decide; decide)
    | ((with_reducible refine Moves.p_raiseMs (n := 0) ?_ ?_ ?_ ?_); (first | rfl | (split <;> rfl)); decide; decide)
    | ((with_reducible refine Moves.p_inc (n := 8) ?_ ?_ ?_ ?_); (first | rfl | assumption | (dsimp only [F.DPD_P_REJ_SKIP]; omega)); decide; decide)
    | with_reducible apply Moves.ite
    | extract_lets
    | rw [State.upd_dpd]
    | with_reducible apply Moves.step (State.with_dpd_moves ..)
    | with_reducible apply Moves.step (State.meter_moves ..)
    | with_reducible apply Moves.step (State.setDpdPath_moves ..)
    | with_reducible apply Moves.step (State.lolTrack_moves ..)
    | split
    | (with_reducible refine Moves.snd (by assumption) ?_)
    | (with_reducible refine Moves.fst (by assumption) ?_)
    | (with_reducible refine Moves.trd (by assumption) ?_)
    | dsimp +zetaDelta only

theorem State.dpdResult_moves (s : State) (p bank outcome : Nat) (nmse : Int) : Moves 0x20008000000 s (State.dpdResult s p bank outcome nmse) := by
  unfold State.dpdResult
  repeat' first
    | with_reducible assumption
    | with_reducible exact Moves.refl _ _
    | decide
    | ((with_reducible refine Moves.p_putb (n := 8) ?_ ?_ ?_ ?_); (first | rfl | assumption | (dsimp only [F.DPD_P_RES_NEW, F.DPD_P_RES_VALID]; omega)); decide; decide)
    | ((with_reducible refine Moves.p_incWrap (n := 8) ?_ ?_ ?_ ?_); (first | rfl | assumption | (dsimp only [F.DPD_P_RES_SEQ]; omega)); decide; decide)
    | ((with_reducible refine Moves.p_put (n := 8) ?_ ?_ ?_ ?_); (first | rfl | assumption | (dsimp only [F.DPD_P_RES_BANK, F.DPD_P_RES_OUTCOME]; omega)); decide; decide)
    | ((with_reducible refine Moves.p_puti (n := 8) ?_ ?_ ?_ ?_); (first | rfl | assumption | (dsimp only [F.DPD_P_RES_NMSE]; omega)); decide; decide)

theorem State.dpdErr_moves (s : State) (p : Nat) (nmse : Int) (t : Nat) : Moves 0x81022028c082222 s (State.dpdErr s p nmse t) := by
  unfold State.dpdErr
  repeat' first
    | with_reducible assumption
    | with_reducible exact Moves.refl _ _
    | decide
    | ((with_reducible refine Moves.p_raise (n := 8) ?_ ?_ ?_ ?_); (first | rfl | (split <;> rfl)); decide; decide)
    | with_reducible apply Moves.ite
    | extract_lets
    | with_reducible apply Moves.step (State.setDpdPath_moves ..)
    | with_reducible apply Moves.step (State.gaugeEvent_moves ..)
    | split
    | dsimp +zetaDelta only

theorem State.solveUpdate_moves (s : State) (p bank : Nat) (written : Bool) (nmse : Int) : Moves 0x20118000200 s (State.solveUpdate s p bank written nmse) := by
  unfold State.solveUpdate
  repeat' first
    | with_reducible assumption
    | with_reducible exact Moves.refl _ _
    | decide
    | with_reducible apply Moves.ite
    | extract_lets
    | with_reducible apply Moves.step (State.draw_moves ..)
    | with_reducible apply Moves.step (State.setDpdPath_moves ..)
    | with_reducible apply Moves.step (State.dpdResult_moves ..)
    | with_reducible apply Moves.step (State.setDpdBank_moves ..)
    | split
    | (with_reducible refine Moves.snd (by assumption) ?_)
    | (with_reducible refine Moves.fst (by assumption) ?_)
    | (with_reducible refine Moves.trd (by assumption) ?_)
    | dsimp +zetaDelta only

theorem State.solveRevert_moves (s : State) (p bank : Nat) (nmse : Int) : Moves 0x80022028c002222 s (State.solveRevert s p bank nmse) := by
  unfold State.solveRevert
  repeat' first
    | with_reducible assumption
    | with_reducible exact Moves.refl _ _
    | decide
    | ((with_reducible refine Moves.p_put (n := 8) ?_ ?_ ?_ ?_); (first | rfl | assumption | (dsimp only [F.DPD_P_STAT_REVERTS]; omega)); decide; decide)
    | ((with_reducible refine Moves.p_raiseMs (n := 8) ?_ ?_ ?_ ?_); (first | rfl | (split <;> rfl)); decide; decide)
    | ((with_reducible refine Moves.p_putb (n := 8) ?_ ?_ ?_ ?_); (first | rfl | assumption | (dsimp only [F.DPD_P_STAT_FROZEN]; omega)); decide; decide)
    | ((with_reducible refine Moves.p_raise (n := 8) ?_ ?_ ?_ ?_); (first | rfl | (split <;> rfl)); decide; decide)
    | with_reducible apply Moves.ite
    | extract_lets
    | with_reducible apply Moves.step (State.setDpdPath_moves ..)
    | with_reducible apply Moves.step (State.dpdResult_moves ..)
    | split
    | (with_reducible refine Moves.snd (by assumption) ?_)
    | (with_reducible refine Moves.fst (by assumption) ?_)
    | (with_reducible refine Moves.trd (by assumption) ?_)
    | dsimp +zetaDelta only

theorem State.alignFail_moves (s : State) (p : Nat) : Moves 0x800220288002222 s (State.alignFail s p) := by
  unfold State.alignFail
  repeat' first
    | with_reducible assumption
    | with_reducible exact Moves.refl _ _
    | decide
    | ((with_reducible refine Moves.p_inc (n := 8) ?_ ?_ ?_ ?_); (first | rfl | assumption | (dsimp only [F.DPD_P_REJ_ALIGN]; omega)); decide; decide)
    | ((with_reducible refine Moves.p_putb (n := 8) ?_ ?_ ?_ ?_); (first | rfl | assumption | (dsimp only [F.DPD_P_STAT_NOFB]; omega)); decide; decide)
    | ((with_reducible refine Moves.p_raise (n := 8) ?_ ?_ ?_ ?_); (first | rfl | (split <;> rfl)); decide; decide)
    | with_reducible apply Moves.ite
    | extract_lets
    | with_reducible apply Moves.step (State.setDpdPath_moves ..)
    | split
    | dsimp +zetaDelta only

theorem State.alignGood_moves (s : State) (p delay : Nat) : Moves 0x20008000200 s (State.alignGood s p delay) := by
  unfold State.alignGood
  repeat' first
    | with_reducible assumption
    | with_reducible exact Moves.refl _ _
    | decide
    | ((with_reducible refine Moves.p_putb (n := 8) ?_ ?_ ?_ ?_); (first | rfl | assumption | (dsimp only [F.DPD_P_DLY_VALID, F.DPD_P_STAT_NOFB]; omega)); decide; decide)
    | ((with_reducible refine Moves.p_put (n := 8) ?_ ?_ ?_ ?_); (first | rfl | assumption | (dsimp only [F.DPD_P_DLY_DELAY]; omega)); decide; decide)
    | extract_lets
    | with_reducible apply Moves.step (State.setDpdPath_moves ..)
    | dsimp +zetaDelta only

theorem State.dpdSolve_moves (s : State) (p : Nat) (rms : Int) (ovr : Bool) (corr delay : Nat) (nmse : Int) : Moves 0x81022039c082222 s (State.dpdSolve s p rms ovr corr delay nmse) := by
  unfold State.dpdSolve
  repeat' first
    | with_reducible assumption
    | with_reducible exact Moves.refl _ _
    | decide
    | ((with_reducible refine Moves.p_inc (n := 8) ?_ ?_ ?_ ?_); (first | rfl | assumption | (dsimp only [F.DPD_P_REJ_LOWPWR, F.DPD_P_REJ_ORX_OVR]; omega)); decide; decide)
    | ((with_reducible refine Moves.p_put (n := 8) ?_ ?_ ?_ ?_); (first | rfl | assumption | (dsimp only [F.DPD_P_STAT_REVERTS]; omega)); decide; decide)
    | with_reducible apply Moves.ite
    | extract_lets
    | with_reducible apply Moves.step (State.setDpdPath_moves ..)
    | with_reducible apply Moves.step (State.alignFail_moves ..)
    | with_reducible apply Moves.step (State.alignGood_moves ..)
    | with_reducible apply Moves.step (State.dpdErr_moves ..)
    | with_reducible apply Moves.step (State.solveRevert_moves ..)
    | with_reducible apply Moves.step (State.solveUpdate_moves ..)
    | split
    | (with_reducible refine Moves.snd (by assumption) ?_)
    | (with_reducible refine Moves.fst (by assumption) ?_)
    | (with_reducible refine Moves.trd (by assumption) ?_)
    | dsimp +zetaDelta only

theorem State.refreshStart_moves (s : State) (p : Nat) : Moves 0x20018000200 s (State.refreshStart s p) := by
  unfold State.refreshStart
  repeat' first
    | with_reducible assumption
    | with_reducible exact Moves.refl _ _
    | decide
    | ((with_reducible refine Moves.p_putb (n := 8) ?_ ?_ ?_ ?_); (first | rfl | assumption | (dsimp only [F.DPD_P_STAT_FADE]; omega)); decide; decide)
    | with_reducible apply Moves.ite
    | extract_lets
    | with_reducible apply Moves.step (State.setDpdPath_moves ..)
    | with_reducible apply Moves.step (State.setDpdBank_moves ..)
    | split
    | (with_reducible refine Moves.snd (by assumption) ?_)
    | (with_reducible refine Moves.fst (by assumption) ?_)
    | (with_reducible refine Moves.trd (by assumption) ?_)
    | dsimp +zetaDelta only

theorem State.setOrxAdc_moves (s : State) (k q : Nat) (a : OrxAdc) : Moves 0x200 s (State.setOrxAdc s k q a) := by
  unfold State.setOrxAdc
  repeat' first
    | with_reducible assumption
    | with_reducible exact Moves.refl _ _
    | decide
    | rw [State.upd_dpd]
    | with_reducible apply Moves.step (State.with_dpd_moves ..)

theorem State.orxFail_moves (s : State) (k q sl : Nat) : Moves 0x900220288402222 s (State.orxFail s k q sl) := by
  unfold State.orxFail
  repeat' first
    | with_reducible assumption
    | with_reducible exact Moves.refl _ _
    | decide
    | ((with_reducible refine Moves.p_putb (n := 8) ?_ ?_ ?_ ?_); (first | rfl | assumption | (dsimp only [F.DPD_ORX_STAT_DEGRADED, F.DPD_ORX_STAT_MOVED]; omega) | exact fORXNOSPARE_block ..); decide; decide)
    | ((with_reducible refine Moves.p_raise (n := 8) ?_ ?_ ?_ ?_); (first | rfl | (split <;> rfl)); decide; decide)
    | ((with_reducible refine Moves.p_inc (n := 8) ?_ ?_ ?_ ?_); (first | rfl | assumption | exact fORXRET_block ..); decide; decide)
    | with_reducible apply Moves.ite
    | extract_lets
    | with_reducible apply Moves.step (State.regrade_moves ..)
    | with_reducible apply Moves.step (State.setOrxAdc_moves ..)
    | split
    | (with_reducible refine Moves.snd (by assumption) ?_)
    | (with_reducible refine Moves.fst (by assumption) ?_)
    | (with_reducible refine Moves.trd (by assumption) ?_)
    | dsimp +zetaDelta only

theorem State.orxExchange_moves (s : State) (k q sl : Nat) (trimLimit residual : Bool) : Moves 0x900220288402222 s (State.orxExchange s k q sl trimLimit residual) := by
  unfold State.orxExchange
  repeat' first
    | with_reducible assumption
    | with_reducible exact Moves.refl _ _
    | decide
    | with_reducible apply Moves.ite
    | extract_lets
    | with_reducible apply Moves.step (State.setOrxAdc_moves ..)
    | with_reducible apply Moves.step (State.orxFail_moves ..)
    | split
    | (with_reducible refine Moves.snd (by assumption) ?_)
    | (with_reducible refine Moves.fst (by assumption) ?_)
    | (with_reducible refine Moves.trd (by assumption) ?_)
    | dsimp +zetaDelta only

theorem State.dpdReject_moves (s : State) : Moves 0x80022028c002022 s (State.dpdReject s) := by
  unfold State.dpdReject
  repeat' first
    | with_reducible assumption
    | with_reducible exact Moves.refl _ _
    | decide
    | ((with_reducible refine Moves.p_raiseMs (n := 8) ?_ ?_ ?_ ?_); (first | rfl | (split <;> rfl)); decide; decide)

theorem State.adaptEnWrite_moves (s : State) (p : Nat) (old new : Bool) : Moves 0x20008000000 s (State.adaptEnWrite s p old new) := by
  unfold State.adaptEnWrite
  repeat' first
    | with_reducible assumption
    | with_reducible exact Moves.refl _ _
    | decide
    | ((with_reducible refine Moves.p_putb (n := 8) ?_ ?_ ?_ ?_); (first | rfl | assumption | (dsimp only [F.DPD_P_STAT_FROZEN]; omega)); decide; decide)
    | ((with_reducible refine Moves.p_put (n := 8) ?_ ?_ ?_ ?_); (first | rfl | assumption | (dsimp only [F.DPD_P_STAT_REVERTS]; omega)); decide; decide)
    | with_reducible apply Moves.ite
    | split

theorem State.dpdLower_moves (s : State) : Moves 0x10000200 s (State.dpdLower s) := by
  unfold State.dpdLower
  simp -zeta only [State.upd_dpd]
  repeat' first
    | with_reducible assumption
    | with_reducible exact Moves.refl _ _
    | decide
    | intro _
    | with_reducible apply Moves.ite
    | extract_lets
    | rw [State.upd_dpd]
    | with_reducible apply Moves.step (State.with_dpd_moves ..)
    | with_reducible apply Moves.step (State.setDpdBank_moves ..)
    | with_reducible apply Moves.step (State.clearRange_moves ..)
    | with_reducible apply Moves.each
    | split
    | (with_reducible refine Moves.snd (by assumption) ?_)
    | (with_reducible refine Moves.fst (by assumption) ?_)
    | (with_reducible refine Moves.trd (by assumption) ?_)
    | dsimp +zetaDelta only

theorem State.dpdRaise_moves (s : State) : Moves 0x20018000000 s (State.dpdRaise s) := by
  unfold State.dpdRaise
  repeat' first
    | with_reducible assumption
    | with_reducible exact Moves.refl _ _
    | decide
    | ((with_reducible refine Moves.p_put (n := 8) ?_ ?_ ?_ ?_); (first | rfl | assumption | (dsimp only [F.DPD_P_STAT_ACTIVE, F.DPD_P_STAT_EMPTY, F.DPD_P_STAT_FROZEN, F.DPD_P_STAT_NOFB]; omega)); decide; decide)
    | ((with_reducible refine Moves.p_setWord (n := 8) ?_ ?_ ?_ ?_); (first | rfl | assumption | omega); decide; decide)
    | intro _
    | extract_lets
    | with_reducible apply Moves.step (State.setByte_moves ..)
    | with_reducible apply Moves.each
    | with_reducible apply Moves.foldl
    | with_reducible apply Moves.foldlFst
    | with_reducible apply Moves.foldlSnd
    | dsimp +zetaDelta only

theorem State.dpdSeed_moves (s : State) : Moves 0x200 s (State.dpdSeed s) := by
  unfold State.dpdSeed
  simp -zeta only [State.upd_dpd]
  repeat' first
    | with_reducible assumption
    | with_reducible exact Moves.refl _ _
    | decide
    | intro _
    | with_reducible apply Moves.ite
    | extract_lets
    | rw [State.upd_dpd]
    | with_reducible apply Moves.step (State.with_dpd_moves ..)
    | with_reducible apply Moves.foldl
    | with_reducible apply Moves.foldlFst
    | with_reducible apply Moves.foldlSnd
    | split
    | dsimp +zetaDelta only

end Sys2Proof.Machine
end

