-- ==== Sys2Proof/Laws/MovesBerth.lean ====
section
/-! SUPPORT. What each operation of Machine/Berth.lean may change. -/

namespace Sys2Proof.Machine

set_option linter.all false

theorem fCLASS_block (dir b : Nat) : (fCLASS dir b).addr / 65536 = 10 := by
  unfold fCLASS
  split <;> (dsimp only [F.BERTH_RX_DESC_CLASS, F.BERTH_TX_DESC_CLASS]; omega)

theorem fSECTORS_block (dir b : Nat) : (fSECTORS dir b).addr / 65536 = 10 := by
  unfold fSECTORS
  split <;> (dsimp only [F.BERTH_RX_DESC_SECTORS, F.BERTH_TX_DESC_SECTORS]; omega)

theorem fMASKLO_block (dir b : Nat) : (fMASKLO dir b).addr / 65536 = 10 := by
  unfold fMASKLO
  split <;> (dsimp only [F.BERTH_RX_MASK_LO_MASK, F.BERTH_TX_MASK_LO_MASK]; omega)

theorem fMASKHI_block (dir b : Nat) : (fMASKHI dir b).addr / 65536 = 10 := by
  unfold fMASKHI
  split <;> (dsimp only [F.BERTH_RX_MASK_HI_MASK, F.BERTH_TX_MASK_HI_MASK]; omega)

theorem fNOW_block (dir : Nat) : (fNOW dir).addr / 65536 = 10 := by
  unfold fNOW
  split <;> (rfl)

theorem fEFF0_block (dir : Nat) : (fEFF0 dir).addr / 65536 = 10 := by
  unfold fEFF0
  split <;> (rfl)

theorem fEFF1_block (dir : Nat) : (fEFF1 dir).addr / 65536 = 10 := by
  unfold fEFF1
  split <;> (rfl)

theorem fQUEUED_block (dir : Nat) : (fQUEUED dir).addr / 65536 = 10 := by
  unfold fQUEUED
  split <;> (rfl)

theorem fALIGN_block (dir p : Nat) : (fALIGN dir p).addr / 65536 = 10 := by
  unfold fALIGN
  split <;> (dsimp only [F.BERTH_P_ALIGN_RX_ALIGN, F.BERTH_P_ALIGN_TX_ALIGN]; omega)

theorem fPCALRE_block (dir p : Nat) : (fPCALRE dir p).addr / 65536 = 10 := by
  unfold fPCALRE
  split <;> (dsimp only [F.BERTH_P_PCAL_RX_RE, F.BERTH_P_PCAL_TX_RE]; omega)

theorem fPCALIM_block (dir p : Nat) : (fPCALIM dir p).addr / 65536 = 10 := by
  unfold fPCALIM
  split <;> (dsimp only [F.BERTH_P_PCAL_RX_IM, F.BERTH_P_PCAL_TX_IM]; omega)

theorem fXALIGN_block (dir : Nat) : (fXALIGN dir).addr / 65536 = 13 := by
  unfold fXALIGN
  split <;> (rfl)

theorem fXPCALRE_block (dir : Nat) : (fXPCALRE dir).addr / 65536 = 13 := by
  unfold fXPCALRE
  split <;> (rfl)

theorem fXPCALIM_block (dir : Nat) : (fXPCALIM dir).addr / 65536 = 13 := by
  unfold fXPCALIM
  split <;> (rfl)

theorem State.setForce_moves (s : State) (dir : Nat) (l : List InForce) : Moves 0x800 s (State.setForce s dir l) := by
  unfold State.setForce
  repeat' first
    | with_reducible assumption
    | with_reducible exact Moves.refl _ _
    | decide
    | with_reducible apply Moves.ite
    | rw [State.upd_berth]
    | with_reducible apply Moves.step (State.with_berth_moves ..)
    | split

theorem State.setSchedQ_moves (s : State) (dir : Nat) (l : List SchedEntry) : Moves 0x80008000800 s (State.setSchedQ s dir l) := by
  unfold State.setSchedQ
  repeat' first
    | with_reducible assumption
    | with_reducible exact Moves.refl _ _
    | decide
    | ((with_reducible refine Moves.p_put (n := 10) ?_ ?_ ?_ ?_); (first | rfl | assumption | exact fQUEUED_block ..); decide; decide)
    | with_reducible apply Moves.ite
    | rw [State.upd_berth]
    | with_reducible apply Moves.step (State.with_berth_moves ..)
    | split

theorem State.setComb_moves (s : State) (dir m : Nat) : Moves 0x800 s (State.setComb s dir m) := by
  unfold State.setComb
  repeat' first
    | with_reducible assumption
    | with_reducible exact Moves.refl _ _
    | decide
    | with_reducible apply Moves.ite
    | rw [State.upd_berth]
    | with_reducible apply Moves.step (State.with_berth_moves ..)
    | split

theorem State.setMaskAt_moves (s : State) (dir : Nat) (t : Option Nat) : Moves 0x800 s (State.setMaskAt s dir t) := by
  unfold State.setMaskAt
  repeat' first
    | with_reducible assumption
    | with_reducible exact Moves.refl _ _
    | decide
    | with_reducible apply Moves.ite
    | rw [State.upd_berth]
    | with_reducible apply Moves.step (State.with_berth_moves ..)
    | split

theorem State.renormSat_moves (s : State) (k : Nat) : Moves 0x80028028c002022 s (State.renormSat s k) := by
  unfold State.renormSat
  repeat' first
    | with_reducible assumption
    | with_reducible exact Moves.refl _ _
    | decide
    | ((with_reducible refine Moves.p_add (n := 10) ?_ ?_ ?_ ?_); (first | rfl | assumption); decide; decide)
    | ((with_reducible refine Moves.p_raiseMs (n := 10) ?_ ?_ ?_ ?_); (first | rfl | (split <;> rfl)); decide; decide)
    | with_reducible apply Moves.ite
    | split

theorem State.forceFrom_moves (s : State) (dir t : Nat) (c : Cached) : Moves 0x80008000800 s (State.forceFrom s dir t c) := by
  unfold State.forceFrom
  repeat' first
    | with_reducible assumption
    | with_reducible exact Moves.refl _ _
    | decide
    | ((with_reducible refine Moves.p_put (n := 10) ?_ ?_ ?_ ?_); (first | rfl | assumption | exact fNOW_block ..); decide; decide)
    | extract_lets
    | with_reducible apply Moves.step (State.setForce_moves ..)
    | dsimp +zetaDelta only

theorem State.berthBoot_moves (s : State) : Moves 0x80008000800 s (State.berthBoot s) := by
  unfold State.berthBoot
  repeat' first
    | with_reducible assumption
    | with_reducible exact Moves.refl _ _
    | decide
    | ((with_reducible refine Moves.p_put (n := 10) ?_ ?_ ?_ ?_); (first | rfl | assumption | exact fNOW_block ..); decide; decide)
    | intro _
    | extract_lets
    | with_reducible apply Moves.step (State.setComb_moves ..)
    | with_reducible apply Moves.step (State.setForce_moves ..)
    | with_reducible apply Moves.each
    | dsimp +zetaDelta only

theorem State.sendSums_moves (s : State) : Moves 0x80000000 s (State.sendSums s) := by
  unfold State.sendSums
  repeat' first
    | with_reducible assumption
    | with_reducible exact Moves.refl _ _
    | decide
    | with_reducible apply Moves.ite
    | with_reducible apply Moves.step (State.emit_moves ..)
    | split

theorem State.maskCheckDir_moves (s : State) (dir : Nat) : Moves 0x80088000800 s (State.maskCheckDir s dir) := by
  unfold State.maskCheckDir
  repeat' first
    | with_reducible assumption
    | with_reducible exact Moves.refl _ _
    | decide
    | ((with_reducible refine Moves.p_put (n := 10) ?_ ?_ ?_ ?_); (first | rfl | assumption | exact fEFF0_block .. | exact fEFF1_block ..); decide; decide)
    | intro _
    | with_reducible apply Moves.ite
    | extract_lets
    | with_reducible apply Moves.step (State.setMaskAt_moves ..)
    | with_reducible apply Moves.step (State.sendSums_moves ..)
    | split
    | dsimp +zetaDelta only

theorem State.maskCheck_moves (s : State) : Moves 0x80088000800 s (State.maskCheck s) := by
  unfold State.maskCheck
  repeat' first
    | with_reducible assumption
    | with_reducible exact Moves.refl _ _
    | decide
    | with_reducible apply Moves.step (State.maskCheckDir_moves ..)

theorem State.thinOut_moves (s : State) : Moves 0x802208288012162 s (State.thinOut s) := by
  unfold State.thinOut
  simp -zeta only [State.upd_fend_tx]
  repeat' first
    | with_reducible assumption
    | with_reducible exact Moves.refl _ _
    | decide
    | intro _
    | extract_lets
    | rw [State.upd_fend_tx]
    | with_reducible apply Moves.step (State.with_fend_tx_moves ..)
    | with_reducible apply Moves.step (State.syncTx_moves ..)
    | with_reducible apply Moves.step (State.paOff_moves ..)
    | with_reducible apply Moves.each
    | dsimp +zetaDelta only

theorem State.maskTake_moves (s : State) (dir : Nat) : Moves 0x802288288012962 s (State.maskTake s dir) := by
  unfold State.maskTake
  repeat' first
    | with_reducible assumption
    | with_reducible exact Moves.refl _ _
    | decide
    | ((with_reducible refine Moves.p_raise (n := 10) ?_ ?_ ?_ ?_); (first | rfl | (split <;> rfl)); decide; decide)
    | with_reducible apply Moves.ite
    | extract_lets
    | with_reducible apply Moves.step (State.setMaskAt_moves ..)
    | with_reducible apply Moves.step (State.setComb_moves ..)
    | with_reducible apply Moves.step (State.thinOut_moves ..)
    | split
    | dsimp +zetaDelta only

theorem State.sumsTake_moves (s : State) : Moves 0x4000 s (State.sumsTake s) := by
  unfold State.sumsTake
  repeat' first
    | with_reducible assumption
    | with_reducible exact Moves.refl _ _
    | decide
    | rw [State.upd_ring]
    | with_reducible apply Moves.step (State.with_ring_moves ..)
    | split
    | (with_reducible refine Moves.snd (by assumption) ?_)
    | (with_reducible refine Moves.fst (by assumption) ?_)
    | (with_reducible refine Moves.trd (by assumption) ?_)

theorem State.reforce_moves (s : State) (dir t : Nat) : Moves 0x80008000800 s (State.reforce s dir t) := by
  unfold State.reforce
  repeat' first
    | with_reducible assumption
    | with_reducible exact Moves.refl _ _
    | decide
    | with_reducible apply Moves.step (State.forceFrom_moves ..)
    | split
    | (with_reducible refine Moves.snd (by assumption) ?_)
    | (with_reducible refine Moves.fst (by assumption) ?_)
    | (with_reducible refine Moves.trd (by assumption) ?_)

theorem State.maskApply_moves (s : State) (dir : Nat) : Moves 0x802a882c8012962 s (State.maskApply s dir) := by
  unfold State.maskApply
  repeat' first
    | with_reducible assumption
    | with_reducible exact Moves.refl _ _
    | decide
    | intro _
    | extract_lets
    | with_reducible apply Moves.step (State.reachAbs_moves ..)
    | with_reducible apply Moves.step (State.maskTake_moves ..)
    | with_reducible apply Moves.step (State.reforce_moves ..)
    | split
    | (with_reducible refine Moves.snd (by assumption) ?_)
    | (with_reducible refine Moves.fst (by assumption) ?_)
    | (with_reducible refine Moves.trd (by assumption) ?_)
    | dsimp +zetaDelta only

theorem State.thinSettle_moves (s : State) : Moves 0x88088000900 s (State.thinSettle s) := by
  unfold State.thinSettle
  simp -zeta only [State.upd_berth_tx]
  repeat' first
    | with_reducible assumption
    | with_reducible exact Moves.refl _ _
    | decide
    | intro _
    | with_reducible apply Moves.ite
    | extract_lets
    | rw [State.upd_berth_tx]
    | with_reducible apply Moves.step (State.with_berth_tx_moves ..)
    | with_reducible apply Moves.step (State.syncTx_moves ..)
    | with_reducible apply Moves.step (State.maskCheck_moves ..)
    | split
    | dsimp +zetaDelta only

theorem State.thinLift_moves (s : State) (quads : Nat) : Moves 0x2088088010900 s (State.thinLift s quads) := by
  unfold State.thinLift
  simp -zeta only [State.upd_fend_berth]
  repeat' first
    | with_reducible assumption
    | with_reducible exact Moves.refl _ _
    | decide
    | intro _
    | with_reducible apply Moves.ite
    | extract_lets
    | rw [State.upd_fend_berth]
    | with_reducible apply Moves.step (State.with_fend_berth_moves ..)
    | with_reducible apply Moves.step (State.paStartOn_moves ..)
    | with_reducible apply Moves.step (State.thinSettle_moves ..)
    | with_reducible apply Moves.step (State.maskCheck_moves ..)
    | with_reducible apply Moves.each
    | split
    | dsimp +zetaDelta only

theorem State.thinLevel_moves (s : State) (level : Nat) : Moves 0x802288288012922 s (State.thinLevel s level) := by
  unfold State.thinLevel
  simp -zeta only [State.upd_fend_berth]
  repeat' first
    | with_reducible assumption
    | with_reducible exact Moves.refl _ _
    | decide
    | ((with_reducible refine Moves.p_put (n := 10) ?_ ?_ ?_ ?_); (first | rfl | assumption); decide; decide)
    | ((with_reducible refine Moves.p_raise (n := 10) ?_ ?_ ?_ ?_); (first | rfl | (split <;> rfl)); decide; decide)
    | intro _
    | with_reducible apply Moves.ite
    | extract_lets
    | rw [State.upd_fend_berth]
    | with_reducible apply Moves.step (State.with_fend_berth_moves ..)
    | with_reducible apply Moves.step (State.thinLift_moves ..)
    | with_reducible apply Moves.step (State.maskCheck_moves ..)
    | with_reducible apply Moves.foldl
    | with_reducible apply Moves.foldlFst
    | with_reducible apply Moves.foldlSnd
    | split
    | dsimp +zetaDelta only

theorem State.schedRefuse_moves (s : State) : Moves 0x80028028c002022 s (State.schedRefuse s) := by
  unfold State.schedRefuse
  repeat' first
    | with_reducible assumption
    | with_reducible exact Moves.refl _ _
    | decide
    | ((with_reducible refine Moves.p_inc (n := 10) ?_ ?_ ?_ ?_); (first | rfl | assumption); decide; decide)
    | ((with_reducible refine Moves.p_raiseMs (n := 10) ?_ ?_ ?_ ?_); (first | rfl | (split <;> rfl)); decide; decide)

theorem State.schedAdd_moves (s : State) (dir : Nat) (at_ : Stamp) (b : Nat) : Moves 0x80028028c002822 s (State.schedAdd s dir at_ b).2 := by
  unfold State.schedAdd
  repeat' first
    | with_reducible assumption
    | with_reducible exact Moves.refl _ _
    | decide
    | with_reducible apply Moves.ite
    | extract_lets
    | with_reducible apply Moves.step (State.setSchedQ_moves ..)
    | with_reducible apply Moves.step (State.schedRefuse_moves ..)
    | split
    | dsimp +zetaDelta only

theorem State.schedCancel_moves (s : State) (dir : Nat) (at_ : Stamp) : Moves 0x80008000800 s (State.schedCancel s dir at_).2 := by
  unfold State.schedCancel
  repeat' first
    | with_reducible assumption
    | with_reducible exact Moves.refl _ _
    | decide
    | with_reducible apply Moves.ite
    | extract_lets
    | with_reducible apply Moves.step (State.setSchedQ_moves ..)
    | split
    | (with_reducible refine Moves.snd (by assumption) ?_)
    | (with_reducible refine Moves.fst (by assumption) ?_)
    | (with_reducible refine Moves.trd (by assumption) ?_)
    | dsimp +zetaDelta only

theorem State.schedFlush_moves (s : State) (dir : Nat) : Moves 0x80008000800 s (State.schedFlush s dir) := by
  unfold State.schedFlush
  repeat' first
    | with_reducible assumption
    | with_reducible exact Moves.refl _ _
    | decide
    | with_reducible apply Moves.step (State.setSchedQ_moves ..)

theorem State.stage_moves (s : State) (dir : Nat) : Moves 0x880048000840 s (State.stage s dir) := by
  unfold State.stage
  repeat' first
    | with_reducible assumption
    | with_reducible exact Moves.refl _ _
    | decide
    | intro _
    | with_reducible apply Moves.ite
    | extract_lets
    | with_reducible apply Moves.step (State.reach_moves ..)
    | with_reducible apply Moves.step (State.setSchedQ_moves ..)
    | split
    | (with_reducible refine Moves.snd (by assumption) ?_)
    | (with_reducible refine Moves.fst (by assumption) ?_)
    | (with_reducible refine Moves.trd (by assumption) ?_)
    | dsimp +zetaDelta only

theorem State.berthSwitch_moves (s : State) (dir : Nat) : Moves 0x802aa82dc016b62 s (State.berthSwitch s dir) := by
  unfold State.berthSwitch
  repeat' first
    | with_reducible assumption
    | with_reducible exact Moves.refl _ _
    | decide
    | intro _
    | with_reducible apply Moves.ite
    | extract_lets
    | with_reducible apply Moves.step (State.reach_moves ..)
    | with_reducible apply Moves.step (State.setSchedQ_moves ..)
    | with_reducible apply Moves.step (State.sumsTake_moves ..)
    | with_reducible apply Moves.step (State.maskTake_moves ..)
    | with_reducible apply Moves.step (State.forceFrom_moves ..)
    | with_reducible apply Moves.step (State.swapRequests_moves ..)
    | split
    | (with_reducible refine Moves.snd (by assumption) ?_)
    | (with_reducible refine Moves.fst (by assumption) ?_)
    | (with_reducible refine Moves.trd (by assumption) ?_)
    | dsimp +zetaDelta only

theorem State.berthLeaveRun_moves (s : State) : Moves 0x80008000800 s (State.berthLeaveRun s) := by
  unfold State.berthLeaveRun
  repeat' first
    | with_reducible assumption
    | with_reducible exact Moves.refl _ _
    | decide
    | with_reducible apply Moves.step (State.setSchedQ_moves ..)

theorem State.berthWindowWrite_moves (s : State) (a v : Nat) : Moves 0x10000000 s (State.berthWindowWrite s a v) := by
  unfold State.berthWindowWrite
  repeat' first
    | with_reducible assumption
    | with_reducible exact Moves.refl _ _
    | decide
    | with_reducible apply Moves.step (State.setMemWord_moves ..)

theorem State.alignWritten_moves (s : State) (p dir : Nat) : Moves 0x800 s (State.alignWritten s p dir) := by
  unfold State.alignWritten
  repeat' first
    | with_reducible assumption
    | with_reducible exact Moves.refl _ _
    | decide
    | rw [State.upd_berth]
    | with_reducible apply Moves.step (State.with_berth_moves ..)

theorem State.alignApply_moves (s : State) (p dir : Nat) : Moves 0x8000480009c0 s (State.alignApply s p dir) := by
  unfold State.alignApply
  simp -zeta only [State.upd_berth]
  repeat' first
    | with_reducible assumption
    | with_reducible exact Moves.refl _ _
    | decide
    | intro _
    | with_reducible apply Moves.ite
    | extract_lets
    | rw [State.upd_berth]
    | with_reducible apply Moves.step (State.with_berth_moves ..)
    | with_reducible apply Moves.step (State.reachAbs_moves ..)
    | with_reducible apply Moves.step (State.addMute_moves ..)
    | with_reducible apply Moves.step (State.addSpan_moves ..)
    | split
    | (with_reducible refine Moves.snd (by assumption) ?_)
    | (with_reducible refine Moves.fst (by assumption) ?_)
    | (with_reducible refine Moves.trd (by assumption) ?_)
    | dsimp +zetaDelta only

theorem State.bcalRefuse_moves (s : State) : Moves 0x800280288002022 s (State.bcalRefuse s) := by
  unfold State.bcalRefuse
  repeat' first
    | with_reducible assumption
    | with_reducible exact Moves.refl _ _
    | decide
    | ((with_reducible refine Moves.p_raise (n := 10) ?_ ?_ ?_ ?_); (first | rfl | (split <;> rfl)); decide; decide)

theorem State.bcalReq_moves (s : State) (kind : Nat) : Moves 0x800280288002822 s (State.bcalReq s kind) := by
  unfold State.bcalReq
  repeat' first
    | with_reducible assumption
    | with_reducible exact Moves.refl _ _
    | decide
    | ((with_reducible refine Moves.p_putb (n := 10) ?_ ?_ ?_ ?_); (first | rfl | assumption); decide; decide)
    | with_reducible apply Moves.ite
    | rw [State.upd_berth]
    | with_reducible apply Moves.step (State.with_berth_moves ..)
    | with_reducible apply Moves.step (State.bcalRefuse_moves ..)
    | split

theorem State.bcalStart_moves (s : State) : Moves 0x80008000980 s (State.bcalStart s) := by
  unfold State.bcalStart
  simp -zeta only [State.upd_berth]
  repeat' first
    | with_reducible assumption
    | with_reducible exact Moves.refl _ _
    | decide
    | ((with_reducible refine Moves.p_putb (n := 10) ?_ ?_ ?_ ?_); (first | rfl | assumption); decide; decide)
    | with_reducible apply Moves.ite
    | extract_lets
    | rw [State.upd_berth]
    | with_reducible apply Moves.step (State.with_berth_moves ..)
    | with_reducible apply Moves.step (State.addMute_moves ..)
    | with_reducible apply Moves.step (State.addSpan_moves ..)
    | split
    | (with_reducible refine Moves.snd (by assumption) ?_)
    | (with_reducible refine Moves.fst (by assumption) ?_)
    | (with_reducible refine Moves.trd (by assumption) ?_)
    | dsimp +zetaDelta only

theorem State.bcalTimeout_moves (s : State) : Moves 0x800a802c8002862 s (State.bcalTimeout s) := by
  unfold State.bcalTimeout
  simp -zeta only [State.upd_berth]
  repeat' first
    | with_reducible assumption
    | with_reducible exact Moves.refl _ _
    | decide
    | ((with_reducible refine Moves.p_putb (n := 10) ?_ ?_ ?_ ?_); (first | rfl | assumption); decide; decide)
    | extract_lets
    | rw [State.upd_berth]
    | with_reducible apply Moves.step (State.with_berth_moves ..)
    | with_reducible apply Moves.step (State.elapseTo_moves ..)
    | with_reducible apply Moves.step (State.bcalRefuse_moves ..)
    | split
    | (with_reducible refine Moves.snd (by assumption) ?_)
    | (with_reducible refine Moves.fst (by assumption) ?_)
    | (with_reducible refine Moves.trd (by assumption) ?_)
    | dsimp +zetaDelta only

theorem State.bcalStore_moves (s : State) (n dir p : Nat) : Moves 0x80008000800 s (State.bcalStore s n dir p) := by
  unfold State.bcalStore
  repeat' first
    | with_reducible assumption
    | with_reducible exact Moves.refl _ _
    | decide
    | ((with_reducible refine Moves.p_puti (n := 10) ?_ ?_ ?_ ?_); (first | rfl | assumption | exact fALIGN_block ..); decide; decide)
    | ((with_reducible refine Moves.p_put (n := 10) ?_ ?_ ?_ ?_); (first | rfl | assumption | exact fPCALIM_block .. | exact fPCALRE_block ..); decide; decide)
    | extract_lets
    | with_reducible apply Moves.step (State.alignWritten_moves ..)
    | dsimp +zetaDelta only

theorem State.bcalDone_moves (s : State) (fail : Nat) : Moves 0x800a803c8002862 s (State.bcalDone s fail) := by
  unfold State.bcalDone
  simp -zeta only [State.upd_berth]
  repeat' first
    | with_reducible assumption
    | with_reducible exact Moves.refl _ _
    | decide
    | ((with_reducible refine Moves.p_putb (n := 10) ?_ ?_ ?_ ?_); (first | rfl | assumption); decide; decide)
    | ((with_reducible refine Moves.p_put (n := 10) ?_ ?_ ?_ ?_); (first | rfl | assumption); decide; decide)
    | ((with_reducible refine Moves.p_raise (n := 10) ?_ ?_ ?_ ?_); (first | rfl | (split <;> rfl)); decide; decide)
    | intro _
    | with_reducible apply Moves.ite
    | extract_lets
    | rw [State.upd_berth]
    | with_reducible apply Moves.step (State.with_berth_moves ..)
    | with_reducible apply Moves.step (State.reachAbs_moves ..)
    | with_reducible apply Moves.step (State.draw_moves ..)
    | with_reducible apply Moves.step (State.bcalStore_moves ..)
    | with_reducible apply Moves.each
    | split
    | (with_reducible refine Moves.snd (by assumption) ?_)
    | (with_reducible refine Moves.fst (by assumption) ?_)
    | (with_reducible refine Moves.trd (by assumption) ?_)
    | dsimp +zetaDelta only

theorem State.txAlignPush_moves (s : State) (p : Nat) (v : Cx) : Moves 0x80029028c002122 s (State.txAlignPush s p v) := by
  unfold State.txAlignPush
  repeat' first
    | with_reducible assumption
    | with_reducible exact Moves.refl _ _
    | decide
    | ((with_reducible refine Moves.p_add (n := 10) ?_ ?_ ?_ ?_); (first | rfl | assumption); decide; decide)
    | with_reducible apply Moves.ite
    | extract_lets
    | with_reducible apply Moves.step (State.setTxPath_moves ..)
    | with_reducible apply Moves.step (State.txPush_moves ..)
    | split
    | (with_reducible refine Moves.snd (by assumption) ?_)
    | (with_reducible refine Moves.fst (by assumption) ?_)
    | (with_reducible refine Moves.trd (by assumption) ?_)
    | dsimp +zetaDelta only

end Sys2Proof.Machine
end

