-- ==== Sys2Proof/Laws/MovesLookout.lean ====
section
/-! SUPPORT. What each operation of Machine/Lookout.lean may change. -/

namespace Sys2Proof.Machine

set_option linter.all false

theorem State.setLookKey_moves (s : State) (b c : Nat) (x : LookKey) : Moves 0x8000 s (State.setLookKey s b c x) := by
  unfold State.setLookKey
  repeat' first
    | with_reducible assumption
    | with_reducible exact Moves.refl _ _
    | decide
    | rw [State.upd_look]
    | with_reducible apply Moves.step (State.with_look_moves ..)

theorem State.lookSync_moves (s : State) : Moves 0x80120028800a022 s (State.lookSync s) := by
  unfold State.lookSync
  simp -zeta only [State.upd_look]
  repeat' first
    | with_reducible assumption
    | with_reducible exact Moves.refl _ _
    | decide
    | ((with_reducible refine Moves.p_putb (n := 15) ?_ ?_ ?_ ?_); (first | rfl | assumption); decide; decide)
    | ((with_reducible refine Moves.p_put (n := 15) ?_ ?_ ?_ ?_); (first | rfl | assumption); decide; decide)
    | ((with_reducible refine Moves.p_raise (n := 15) ?_ ?_ ?_ ?_); (first | rfl | (split <;> rfl)); decide; decide)
    | with_reducible apply Moves.ite
    | extract_lets
    | rw [State.upd_look]
    | with_reducible apply Moves.step (State.with_look_moves ..)
    | split
    | dsimp +zetaDelta only

theorem State.lookRaise_moves (s : State) : Moves 0x801200288002022 s (State.lookRaise s) := by
  unfold State.lookRaise
  repeat' first
    | with_reducible assumption
    | with_reducible exact Moves.refl _ _
    | decide
    | ((with_reducible refine Moves.p_raise (n := 15) ?_ ?_ ?_ ?_); (first | rfl | (split <;> rfl)); decide; decide)
    | with_reducible apply Moves.ite
    | split

theorem State.falseDet_moves (s : State) (b c w t : Nat) : Moves 0x1000008008000 s (State.falseDet s b c w t) := by
  unfold State.falseDet
  repeat' first
    | with_reducible assumption
    | with_reducible exact Moves.refl _ _
    | decide
    | ((with_reducible refine Moves.p_inc (n := 15) ?_ ?_ ?_ ?_); (first | rfl | assumption | (dsimp only [F.LOOK_CNT_COUNT]; omega)); decide; decide)
    | with_reducible apply Moves.step (State.setLookKey_moves ..)

theorem State.binTake_moves (s : State) (e : Nat) (r : BinResult) : Moves 0x1000008008000 s (State.binTake s e r) := by
  unfold State.binTake
  repeat' first
    | with_reducible assumption
    | with_reducible exact Moves.refl _ _
    | decide
    | ((with_reducible refine Moves.p_inc (n := 15) ?_ ?_ ?_ ?_); (first | rfl | assumption | (dsimp only [F.LOOK_CNT_COUNT]; omega)); decide; decide)
    | intro _
    | with_reducible apply Moves.ite
    | extract_lets
    | with_reducible apply Moves.step (State.setLookKey_moves ..)
    | with_reducible apply Moves.step (State.falseDet_moves ..)
    | with_reducible apply Moves.each
    | split
    | (with_reducible refine Moves.snd (by assumption) ?_)
    | (with_reducible refine Moves.fst (by assumption) ?_)
    | (with_reducible refine Moves.trd (by assumption) ?_)
    | dsimp +zetaDelta only

theorem State.edBin_moves (s : State) (l : List BinResult) : Moves 0x1800048008040 s (State.edBin s l) := by
  unfold State.edBin
  simp -zeta only [State.upd_look]
  repeat' first
    | with_reducible assumption
    | with_reducible exact Moves.refl _ _
    | decide
    | intro _
    | with_reducible apply Moves.ite
    | extract_lets
    | rw [State.upd_look]
    | with_reducible apply Moves.step (State.with_look_moves ..)
    | with_reducible apply Moves.step (State.reachAbs_moves ..)
    | with_reducible apply Moves.step (State.binTake_moves ..)
    | with_reducible apply Moves.each
    | split
    | dsimp +zetaDelta only

theorem State.stfDetect_moves (s : State) (b c w : Nat) (pd : Int) : Moves 0x1000008008000 s (State.stfDetect s b c w pd) := by
  unfold State.stfDetect
  repeat' first
    | with_reducible assumption
    | with_reducible exact Moves.refl _ _
    | decide
    | ((with_reducible refine Moves.p_inc (n := 15) ?_ ?_ ?_ ?_); (first | rfl | assumption | (dsimp only [F.LOOK_CNT_COUNT]; omega)); decide; decide)
    | with_reducible apply Moves.ite
    | extract_lets
    | with_reducible apply Moves.step (State.setLookKey_moves ..)
    | split
    | (with_reducible refine Moves.snd (by assumption) ?_)
    | (with_reducible refine Moves.fst (by assumption) ?_)
    | (with_reducible refine Moves.trd (by assumption) ?_)
    | dsimp +zetaDelta only

theorem State.ltfSync_moves (s : State) (b c w : Nat) (p : Int) : Moves 0x8000 s (State.ltfSync s b c w p) := by
  unfold State.ltfSync
  repeat' first
    | with_reducible assumption
    | with_reducible exact Moves.refl _ _
    | decide
    | with_reducible apply Moves.ite
    | extract_lets
    | with_reducible apply Moves.step (State.setLookKey_moves ..)
    | split
    | dsimp +zetaDelta only

theorem State.ltfTimeout_moves (s : State) (b c w : Nat) : Moves 0x1800048008040 s (State.ltfTimeout s b c w) := by
  unfold State.ltfTimeout
  repeat' first
    | with_reducible assumption
    | with_reducible exact Moves.refl _ _
    | decide
    | intro _
    | with_reducible apply Moves.ite
    | extract_lets
    | with_reducible apply Moves.step (State.reachAbs_moves ..)
    | with_reducible apply Moves.step (State.falseDet_moves ..)
    | split
    | dsimp +zetaDelta only

theorem State.lookRecord_moves (s : State) (b c : Nat) (p : Int) (g ts : Nat) : Moves 0x1000008008000 s (State.lookRecord s b c p g ts) := by
  unfold State.lookRecord
  simp -zeta only [State.upd_look]
  repeat' first
    | with_reducible assumption
    | with_reducible exact Moves.refl _ _
    | decide
    | ((with_reducible refine Moves.p_putb (n := 15) ?_ ?_ ?_ ?_); (first | rfl | assumption); decide; decide)
    | ((with_reducible refine Moves.p_incWrap (n := 15) ?_ ?_ ?_ ?_); (first | rfl | assumption); decide; decide)
    | ((with_reducible refine Moves.p_put (n := 15) ?_ ?_ ?_ ?_); (first | rfl | assumption); decide; decide)
    | ((with_reducible refine Moves.p_puti (n := 15) ?_ ?_ ?_ ?_); (first | rfl | assumption); decide; decide)
    | extract_lets
    | rw [State.upd_look]
    | with_reducible apply Moves.step (State.with_look_moves ..)
    | dsimp +zetaDelta only

theorem State.lookLatch_moves (s : State) : Moves 0x1000008000000 s (State.lookLatch s) := by
  unfold State.lookLatch
  repeat' first
    | with_reducible assumption
    | with_reducible exact Moves.refl _ _
    | decide
    | ((with_reducible refine Moves.p_setWord (n := 15) ?_ ?_ ?_ ?_); (first | rfl | assumption); decide; decide)
    | ((with_reducible refine Moves.p_put64 (n := 15) ?_ ?_ ?_ ?_); (constructor <;> (first | rfl | assumption)); decide; decide)
    | ((with_reducible refine Moves.p_putb (n := 15) ?_ ?_ ?_ ?_); (first | rfl | assumption); decide; decide)

theorem State.lsigDecode_moves (s : State) (b c w g : Nat) : Moves 0x1800048008040 s (State.lsigDecode s b c w g) := by
  unfold State.lsigDecode
  repeat' first
    | with_reducible assumption
    | with_reducible exact Moves.refl _ _
    | decide
    | ((with_reducible refine Moves.p_inc (n := 15) ?_ ?_ ?_ ?_); (first | rfl | assumption | (dsimp only [F.LOOK_CNT_COUNT]; omega)); decide; decide)
    | intro _
    | with_reducible apply Moves.ite
    | extract_lets
    | with_reducible apply Moves.step (State.reachAbs_moves ..)
    | with_reducible apply Moves.step (State.falseDet_moves ..)
    | with_reducible apply Moves.step (State.lookRecord_moves ..)
    | with_reducible apply Moves.step (State.setLookKey_moves ..)
    | split
    | dsimp +zetaDelta only

theorem State.watcherEnd_moves (s : State) (b c w : Nat) : Moves 0x800048008040 s (State.watcherEnd s b c w) := by
  unfold State.watcherEnd
  repeat' first
    | with_reducible assumption
    | with_reducible exact Moves.refl _ _
    | decide
    | intro _
    | with_reducible apply Moves.ite
    | extract_lets
    | with_reducible apply Moves.step (State.reachAbs_moves ..)
    | with_reducible apply Moves.step (State.setLookKey_moves ..)
    | split
    | dsimp +zetaDelta only

theorem State.actRise_moves (s : State) : Moves 0x2000008008002 s (State.actRise s) := by
  unfold State.actRise
  simp -zeta only [State.upd_pins_look]
  repeat' first
    | with_reducible assumption
    | with_reducible exact Moves.refl _ _
    | decide
    | ((with_reducible refine Moves.p_put64 (n := 16) ?_ ?_ ?_ ?_); (constructor <;> (first | rfl | assumption)); decide; decide)
    | ((with_reducible refine Moves.p_inc (n := 16) ?_ ?_ ?_ ?_); (first | rfl | assumption); decide; decide)
    | with_reducible apply Moves.ite
    | extract_lets
    | rw [State.upd_pins_look]
    | with_reducible apply Moves.step (State.with_pins_look_moves ..)
    | with_reducible apply Moves.step (State.syncCoex_moves ..)
    | split
    | dsimp +zetaDelta only

theorem State.actFall_moves (s : State) : Moves 0x2000008008002 s (State.actFall s) := by
  unfold State.actFall
  simp -zeta only [State.upd_pins_look]
  repeat' first
    | with_reducible assumption
    | with_reducible exact Moves.refl _ _
    | decide
    | ((with_reducible refine Moves.p_put64 (n := 16) ?_ ?_ ?_ ?_); (constructor <;> (first | rfl | assumption)); decide; decide)
    | with_reducible apply Moves.ite
    | extract_lets
    | rw [State.upd_pins_look]
    | with_reducible apply Moves.step (State.with_pins_look_moves ..)
    | with_reducible apply Moves.step (State.syncCoex_moves ..)
    | split
    | (with_reducible refine Moves.snd (by assumption) ?_)
    | (with_reducible refine Moves.fst (by assumption) ?_)
    | (with_reducible refine Moves.trd (by assumption) ?_)
    | dsimp +zetaDelta only

theorem State.coexEntry_moves (s : State) (pin : Nat) (at_ : Stamp) (level : Bool) : Moves 0x800a0028c002062 s (State.coexEntry s pin at_ level) := by
  unfold State.coexEntry
  repeat' first
    | with_reducible assumption
    | with_reducible exact Moves.refl _ _
    | decide
    | ((with_reducible refine Moves.p_inc (n := 14) ?_ ?_ ?_ ?_); (first | rfl | assumption); decide; decide)
    | ((with_reducible refine Moves.p_raiseMs (n := 14) ?_ ?_ ?_ ?_); (first | rfl | (split <;> rfl)); decide; decide)
    | with_reducible apply Moves.ite
    | extract_lets
    | with_reducible apply Moves.step (State.toAdd_moves ..)
    | split
    | (with_reducible refine Moves.snd (by assumption) ?_)
    | (with_reducible refine Moves.fst (by assumption) ?_)
    | (with_reducible refine Moves.trd (by assumption) ?_)
    | dsimp +zetaDelta only

theorem State.coexAuto_moves (s : State) (pin : Nat) (at_ : Stamp) : Moves 0x802a0028c002062 s (State.coexAuto s pin at_) := by
  unfold State.coexAuto
  repeat' first
    | with_reducible assumption
    | with_reducible exact Moves.refl _ _
    | decide
    | ((with_reducible refine Moves.p_inc (n := 16) ?_ ?_ ?_ ?_); (first | rfl | assumption); decide; decide)
    | ((with_reducible refine Moves.p_raiseMs (n := 16) ?_ ?_ ?_ ?_); (first | rfl | (split <;> rfl)); decide; decide)
    | with_reducible apply Moves.ite
    | extract_lets
    | with_reducible apply Moves.step (State.coexEntry_moves ..)
    | split
    | dsimp +zetaDelta only

end Sys2Proof.Machine
end

