-- ==== Sys2Proof/Laws/MovesBreakwater.lean ====
section
/-! SUPPORT. What each operation of Machine/Breakwater.lean may change. -/

namespace Sys2Proof.Machine

set_option linter.all false

theorem State.bwLoad_moves (s : State) (body : List Byte) (bound : Bool) : Moves 0x804200288022022 s (State.bwLoad s body bound) := by
  unfold State.bwLoad
  simp -zeta only [State.upd_bwtr]
  repeat' first
    | with_reducible assumption
    | with_reducible exact Moves.refl _ _
    | decide
    | ((with_reducible refine Moves.p_put (n := 17) ?_ ?_ ?_ ?_); (first | rfl | assumption); decide; decide)
    | ((with_reducible refine Moves.p_raise (n := 17) ?_ ?_ ?_ ?_); (first | rfl | (split <;> rfl)); decide; decide)
    | with_reducible apply Moves.ite
    | extract_lets
    | rw [State.upd_bwtr]
    | with_reducible apply Moves.step (State.with_bwtr_moves ..)
    | split
    | (with_reducible refine Moves.snd (by assumption) ?_)
    | (with_reducible refine Moves.fst (by assumption) ?_)
    | (with_reducible refine Moves.trd (by assumption) ?_)
    | dsimp +zetaDelta only

theorem State.showClear_moves (s : State) (ok : Bool) (sectors tr : Nat) : Moves 0x4000008000000 s (State.showClear s ok sectors tr) := by
  unfold State.showClear
  repeat' first
    | with_reducible assumption
    | with_reducible exact Moves.refl _ _
    | decide
    | ((with_reducible refine Moves.p_putb (n := 17) ?_ ?_ ?_ ?_); (first | rfl | assumption); decide; decide)
    | ((with_reducible refine Moves.p_put (n := 17) ?_ ?_ ?_ ?_); (first | rfl | assumption); decide; decide)
    | ((with_reducible refine Moves.p_put64 (n := 17) ?_ ?_ ?_ ?_); (constructor <;> (first | rfl | assumption)); decide; decide)

theorem State.lbtJudge_moves (s : State) (tr : Nat) : Moves 0x80420028c022022 s (State.lbtJudge s tr) := by
  unfold State.lbtJudge
  simp -zeta only [State.upd_bwtr]
  repeat' first
    | with_reducible assumption
    | with_reducible exact Moves.refl _ _
    | decide
    | ((with_reducible refine Moves.p_raiseMs (n := 17) ?_ ?_ ?_ ?_); (first | rfl | (split <;> rfl)); decide; decide)
    | with_reducible apply Moves.ite
    | extract_lets
    | rw [State.upd_bwtr]
    | with_reducible apply Moves.step (State.with_bwtr_moves ..)
    | with_reducible apply Moves.step (State.showClear_moves ..)
    | split
    | (with_reducible refine Moves.snd (by assumption) ?_)
    | (with_reducible refine Moves.fst (by assumption) ?_)
    | (with_reducible refine Moves.trd (by assumption) ?_)
    | dsimp +zetaDelta only

theorem State.lbtEnsure_moves (s : State) : Moves 0x80420028c022022 s (State.lbtEnsure s) := by
  unfold State.lbtEnsure
  repeat' first
    | with_reducible assumption
    | with_reducible exact Moves.refl _ _
    | decide
    | with_reducible apply Moves.ite
    | with_reducible apply Moves.step (State.lbtJudge_moves ..)
    | split
    | (with_reducible refine Moves.snd (by assumption) ?_)
    | (with_reducible refine Moves.fst (by assumption) ?_)
    | (with_reducible refine Moves.trd (by assumption) ?_)

theorem State.lbtQuery_moves (s : State) : Moves 0x804a002cc022062 s (State.lbtQuery s) := by
  unfold State.lbtQuery
  repeat' first
    | with_reducible assumption
    | with_reducible exact Moves.refl _ _
    | decide
    | intro _
    | with_reducible apply Moves.ite
    | with_reducible apply Moves.step (State.reach_moves ..)
    | with_reducible apply Moves.step (State.lbtJudge_moves ..)
    | split
    | (with_reducible refine Moves.snd (by assumption) ?_)
    | (with_reducible refine Moves.fst (by assumption) ?_)
    | (with_reducible refine Moves.trd (by assumption) ?_)

theorem State.lbtSwitch_moves (s : State) (t : Nat) : Moves 0x80420028c022022 s (State.lbtSwitch s t) := by
  unfold State.lbtSwitch
  simp -zeta only [State.upd_bwtr]
  repeat' first
    | with_reducible assumption
    | with_reducible exact Moves.refl _ _
    | decide
    | ((with_reducible refine Moves.p_raiseMs (n := 17) ?_ ?_ ?_ ?_); (first | rfl | (split <;> rfl)); decide; decide)
    | intro _
    | with_reducible apply Moves.ite
    | extract_lets
    | rw [State.upd_bwtr]
    | with_reducible apply Moves.step (State.with_bwtr_moves ..)
    | with_reducible apply Moves.step (State.showClear_moves ..)
    | split
    | (with_reducible refine Moves.snd (by assumption) ?_)
    | (with_reducible refine Moves.fst (by assumption) ?_)
    | (with_reducible refine Moves.trd (by assumption) ?_)
    | dsimp +zetaDelta only

theorem State.bwBurst_moves (s : State) : Moves 0x80420028c022022 s (State.bwBurst s) := by
  unfold State.bwBurst
  simp -zeta only [State.upd_bwtr]
  repeat' first
    | with_reducible assumption
    | with_reducible exact Moves.refl _ _
    | decide
    | extract_lets
    | rw [State.upd_bwtr]
    | with_reducible apply Moves.step (State.with_bwtr_moves ..)
    | with_reducible apply Moves.step (State.lbtEnsure_moves ..)
    | split
    | (with_reducible refine Moves.snd (by assumption) ?_)
    | (with_reducible refine Moves.fst (by assumption) ?_)
    | (with_reducible refine Moves.trd (by assumption) ?_)
    | dsimp +zetaDelta only

theorem State.bwFix_moves (s : State) : Moves 0x80420028c022022 s (State.bwFix s) := by
  unfold State.bwFix
  simp -zeta only [State.upd_bwtr]
  repeat' first
    | with_reducible assumption
    | with_reducible exact Moves.refl _ _
    | decide
    | ((with_reducible refine Moves.p_putb (n := 17) ?_ ?_ ?_ ?_); (first | rfl | assumption); decide; decide)
    | ((with_reducible refine Moves.p_put (n := 17) ?_ ?_ ?_ ?_); (first | rfl | assumption); decide; decide)
    | ((with_reducible refine Moves.p_raise (n := 17) ?_ ?_ ?_ ?_); (first | rfl | (split <;> rfl)); decide; decide)
    | with_reducible apply Moves.ite
    | extract_lets
    | rw [State.upd_bwtr]
    | with_reducible apply Moves.step (State.with_bwtr_moves ..)
    | with_reducible apply Moves.step (State.lbtEnsure_moves ..)
    | split
    | (with_reducible refine Moves.snd (by assumption) ?_)
    | (with_reducible refine Moves.fst (by assumption) ?_)
    | (with_reducible refine Moves.trd (by assumption) ?_)
    | dsimp +zetaDelta only

theorem State.showPower_moves (s : State) (p n : Nat) : Moves 0x4000008000000 s (State.showPower s p n) := by
  unfold State.showPower
  repeat' first
    | with_reducible assumption
    | with_reducible exact Moves.refl _ _
    | decide
    | ((with_reducible refine Moves.p_put (n := 17) ?_ ?_ ?_ ?_); (first | rfl | assumption | (dsimp only [F.BWTR_P_PWR_P_1MS]; omega)); decide; decide)
    | intro _
    | with_reducible apply Moves.ite
    | extract_lets
    | with_reducible apply Moves.foldl
    | with_reducible apply Moves.foldlFst
    | with_reducible apply Moves.foldlSnd
    | split
    | dsimp +zetaDelta only

theorem State.bwJudge_moves (s : State) (n : Nat) : Moves 0x80420028c022022 s (State.bwJudge s n) := by
  unfold State.bwJudge
  simp -zeta only [State.upd_bwtr]
  repeat' first
    | with_reducible assumption
    | with_reducible exact Moves.refl _ _
    | decide
    | ((with_reducible refine Moves.p_raiseMs (n := 17) ?_ ?_ ?_ ?_); (first | rfl | (split <;> rfl)); decide; decide)
    | intro _
    | with_reducible apply Moves.ite
    | extract_lets
    | rw [State.upd_bwtr]
    | with_reducible apply Moves.step (State.with_bwtr_moves ..)
    | with_reducible apply Moves.step (State.showPower_moves ..)
    | with_reducible apply Moves.each
    | with_reducible apply Moves.foldl
    | with_reducible apply Moves.foldlFst
    | with_reducible apply Moves.foldlSnd
    | split
    | (with_reducible refine Moves.snd (by assumption) ?_)
    | (with_reducible refine Moves.fst (by assumption) ?_)
    | (with_reducible refine Moves.trd (by assumption) ?_)
    | dsimp +zetaDelta only

theorem State.bwBlock_moves (s : State) (k : Nat) : Moves 0x80420028c022022 s (State.bwBlock s k) := by
  unfold State.bwBlock
  repeat' first
    | with_reducible assumption
    | with_reducible exact Moves.refl _ _
    | decide
    | with_reducible apply Moves.ite
    | with_reducible apply Moves.step (State.bwJudge_moves ..)
    | split

theorem State.bwGranule_moves (s : State) (g : Nat) : Moves 0x80420028c022022 s (State.bwGranule s g) := by
  unfold State.bwGranule
  simp -zeta only [State.upd_bwtr]
  repeat' first
    | with_reducible assumption
    | with_reducible exact Moves.refl _ _
    | decide
    | ((with_reducible refine Moves.p_raiseMs (n := 17) ?_ ?_ ?_ ?_); (first | rfl | (split <;> rfl)); decide; decide)
    | with_reducible apply Moves.ite
    | extract_lets
    | rw [State.upd_bwtr]
    | with_reducible apply Moves.step (State.with_bwtr_moves ..)
    | split
    | (with_reducible refine Moves.snd (by assumption) ?_)
    | (with_reducible refine Moves.fst (by assumption) ?_)
    | (with_reducible refine Moves.trd (by assumption) ?_)
    | dsimp +zetaDelta only

theorem State.bwPlayed_moves (s : State) (t : Nat) : Moves 0x20000 s (State.bwPlayed s t) := by
  unfold State.bwPlayed
  repeat' first
    | with_reducible assumption
    | with_reducible exact Moves.refl _ _
    | decide
    | rw [State.upd_bwtr]
    | with_reducible apply Moves.step (State.with_bwtr_moves ..)

theorem State.bwGranuleNext_moves (s : State) : Moves 0x804a002cc022062 s (State.bwGranuleNext s) := by
  unfold State.bwGranuleNext
  repeat' first
    | with_reducible assumption
    | with_reducible exact Moves.refl _ _
    | decide
    | intro _
    | with_reducible apply Moves.ite
    | extract_lets
    | with_reducible apply Moves.step (State.reachAbs_moves ..)
    | with_reducible apply Moves.step (State.bwGranule_moves ..)
    | split
    | dsimp +zetaDelta only

theorem State.cotExpire_moves (s : State) : Moves 0x804a002cc002062 s (State.cotExpire s) := by
  unfold State.cotExpire
  repeat' first
    | with_reducible assumption
    | with_reducible exact Moves.refl _ _
    | decide
    | ((with_reducible refine Moves.p_raiseMs (n := 17) ?_ ?_ ?_ ?_); (first | rfl | (split <;> rfl)); decide; decide)
    | intro _
    | with_reducible apply Moves.ite
    | with_reducible apply Moves.step (State.reachAbs_moves ..)
    | split
    | (with_reducible refine Moves.snd (by assumption) ?_)
    | (with_reducible refine Moves.fst (by assumption) ?_)
    | (with_reducible refine Moves.trd (by assumption) ?_)

theorem State.bwCompare_moves (s : State) (p : Nat) (pf : Int) (t : Nat) : Moves 0x804200288022022 s (State.bwCompare s p pf t) := by
  unfold State.bwCompare
  simp -zeta only [State.upd_bwtr]
  repeat' first
    | with_reducible assumption
    | with_reducible exact Moves.refl _ _
    | decide
    | ((with_reducible refine Moves.p_put (n := 17) ?_ ?_ ?_ ?_); (first | rfl | assumption | (dsimp only [F.BWTR_P_EXC_E, F.BWTR_XCHK_CLR0_PATHS, F.BWTR_XCHK_CLR1_PATHS]; omega) | (split <;> rfl) | (dsimp +zetaDelta only; split <;> rfl) | (split <;> (dsimp only [F.BWTR_P_EXC_E, F.BWTR_XCHK_CLR0_PATHS, F.BWTR_XCHK_CLR1_PATHS]; omega))); decide; decide)
    | ((with_reducible refine Moves.p_raise (n := 17) ?_ ?_ ?_ ?_); (first | rfl | (split <;> rfl)); decide; decide)
    | with_reducible apply Moves.ite
    | extract_lets
    | rw [State.upd_bwtr]
    | with_reducible apply Moves.step (State.with_bwtr_moves ..)
    | split
    | (with_reducible refine Moves.snd (by assumption) ?_)
    | (with_reducible refine Moves.fst (by assumption) ?_)
    | (with_reducible refine Moves.trd (by assumption) ?_)
    | dsimp +zetaDelta only

theorem State.xchkClear_moves (s : State) (half mask : Nat) : Moves 0x4000008020000 s (State.xchkClear s half mask) := by
  unfold State.xchkClear
  simp -zeta only [State.upd_bwtr]
  repeat' first
    | with_reducible assumption
    | with_reducible exact Moves.refl _ _
    | decide
    | ((with_reducible refine Moves.p_put (n := 17) ?_ ?_ ?_ ?_); (first | rfl | assumption | (dsimp only [F.BWTR_P_EXC_E, F.BWTR_XCHK_CLR0_PATHS, F.BWTR_XCHK_CLR1_PATHS]; omega) | (split <;> rfl) | (dsimp +zetaDelta only; split <;> rfl) | (split <;> (dsimp only [F.BWTR_P_EXC_E, F.BWTR_XCHK_CLR0_PATHS, F.BWTR_XCHK_CLR1_PATHS]; omega))); decide; decide)
    | intro _
    | with_reducible apply Moves.ite
    | extract_lets
    | rw [State.upd_bwtr]
    | with_reducible apply Moves.step (State.with_bwtr_moves ..)
    | with_reducible apply Moves.each
    | split
    | dsimp +zetaDelta only

theorem State.bwClear_moves (s : State) : Moves 0x4000008000000 s (State.bwClear s) := by
  unfold State.bwClear
  repeat' first
    | with_reducible assumption
    | with_reducible exact Moves.refl _ _
    | decide
    | ((with_reducible refine Moves.p_put (n := 17) ?_ ?_ ?_ ?_); (first | rfl | assumption | (dsimp only [F.BWTR_CNT_COUNT]; omega)); decide; decide)
    | intro _
    | with_reducible apply Moves.each

theorem State.bwStart_moves (s : State) : Moves 0x80420028c022022 s (State.bwStart s) := by
  unfold State.bwStart
  repeat' first
    | with_reducible assumption
    | with_reducible exact Moves.refl _ _
    | decide
    | rw [State.upd_bwtr]
    | with_reducible apply Moves.step (State.with_bwtr_moves ..)
    | with_reducible apply Moves.step (State.bwFix_moves ..)

end Sys2Proof.Machine
end

