-- ==== Sys2Proof/Laws/MovesLanes.lean ====
section
/-! SUPPORT. What each operation of Machine/Lanes.lean may change. -/

namespace Sys2Proof.Machine

set_option linter.all false

theorem lkSTATE_block (l : Nat) : (lkSTATE l).addr / 65536 = 11 ∨ (lkSTATE l).addr / 65536 = 13 := by
  unfold lkSTATE linkField
  extract_lets g
  split
  · left; dsimp only [g, F.FHL_B_STAT_STATE]; omega
  · right; dsimp only [g, F.FHL_B_STAT_STATE]; omega

theorem lkWIDTH_block (l : Nat) : (lkWIDTH l).addr / 65536 = 11 ∨ (lkWIDTH l).addr / 65536 = 13 := by
  unfold lkWIDTH linkField
  extract_lets g
  split
  · left; dsimp only [g, F.FHL_B_STAT_WIDTH]; omega
  · right; dsimp only [g, F.FHL_B_STAT_WIDTH]; omega

theorem lkPAR_block (l : Nat) : (lkPAR l).addr / 65536 = 11 ∨ (lkPAR l).addr / 65536 = 13 := by
  unfold lkPAR linkField
  extract_lets g
  split
  · left; dsimp only [g, F.FHL_B_STAT_PAR]; omega
  · right; dsimp only [g, F.FHL_B_STAT_PAR]; omega

theorem lkNARROW_block (l : Nat) : (lkNARROW l).addr / 65536 = 11 ∨ (lkNARROW l).addr / 65536 = 13 := by
  unfold lkNARROW linkField
  extract_lets g
  split
  · left; dsimp only [g, F.FHL_B_STAT_NARROW]; omega
  · right; dsimp only [g, F.FHL_B_STAT_NARROW]; omega

theorem lkREPAIR_block (l : Nat) : (lkREPAIR l).addr / 65536 = 11 ∨ (lkREPAIR l).addr / 65536 = 13 := by
  unfold lkREPAIR linkField
  extract_lets g
  split
  · left; dsimp only [g, F.FHL_B_STAT_REPAIR]; omega
  · right; dsimp only [g, F.FHL_B_STAT_REPAIR]; omega

theorem lkOFF_block (l : Nat) : (lkOFF l).addr / 65536 = 11 ∨ (lkOFF l).addr / 65536 = 13 := by
  unfold lkOFF linkField
  extract_lets g
  split
  · left; dsimp only [g, F.FHL_B_STAT_OFF]; omega
  · right; dsimp only [g, F.FHL_B_STAT_OFF]; omega

theorem lkFARREP_block (l : Nat) : (lkFARREP l).addr / 65536 = 11 ∨ (lkFARREP l).addr / 65536 = 13 := by
  unfold lkFARREP linkField
  extract_lets g
  split
  · left; dsimp only [g, F.FHL_B_TXSTAT_FAR_REP]; omega
  · right; dsimp only [g, F.FHL_B_TXSTAT_FAR_REP]; omega

theorem lkTXOFF_block (l : Nat) : (lkTXOFF l).addr / 65536 = 11 ∨ (lkTXOFF l).addr / 65536 = 13 := by
  unfold lkTXOFF linkField
  extract_lets g
  split
  · left; dsimp only [g, F.FHL_B_TXSTAT_TXOFF]; omega
  · right; dsimp only [g, F.FHL_B_TXSTAT_TXOFF]; omega

theorem lkPOL_block (l : Nat) : (lkPOL l).addr / 65536 = 11 ∨ (lkPOL l).addr / 65536 = 13 := by
  unfold lkPOL linkField
  extract_lets g
  split
  · left; dsimp only [g, F.FHL_B_POL_INV]; omega
  · right; dsimp only [g, F.FHL_B_POL_INV]; omega

theorem lkUNCORR_block (l : Nat) : (lkUNCORR l).addr / 65536 = 11 ∨ (lkUNCORR l).addr / 65536 = 13 := by
  unfold lkUNCORR linkField
  extract_lets g
  split
  · left; dsimp only [g, F.FHL_B_UNCORR_COUNT]; omega
  · right; dsimp only [g, F.FHL_B_UNCORR_COUNT]; omega

theorem lkPARMIS_block (l : Nat) : (lkPARMIS l).addr / 65536 = 11 ∨ (lkPARMIS l).addr / 65536 = 13 := by
  unfold lkPARMIS linkField
  extract_lets g
  split
  · left; dsimp only [g, F.FHL_B_PARMIS_COUNT]; omega
  · right; dsimp only [g, F.FHL_B_PARMIS_COUNT]; omega

theorem lkREPCOL_block (l : Nat) : (lkREPCOL l).addr / 65536 = 11 ∨ (lkREPCOL l).addr / 65536 = 13 := by
  unfold lkREPCOL linkField
  extract_lets g
  split
  · left; dsimp only [g, F.FHL_B_REPCOL_COUNT]; omega
  · right; dsimp only [g, F.FHL_B_REPCOL_COUNT]; omega

theorem lkATTEMPTS_block (l : Nat) : (lkATTEMPTS l).addr / 65536 = 11 ∨ (lkATTEMPTS l).addr / 65536 = 13 := by
  unfold lkATTEMPTS linkField
  extract_lets g
  split
  · left; dsimp only [g, F.FHL_B_TRAIN_ATTEMPTS]; omega
  · right; dsimp only [g, F.FHL_B_TRAIN_ATTEMPTS]; omega

theorem lkLASTMS_block (l : Nat) : (lkLASTMS l).addr / 65536 = 11 ∨ (lkLASTMS l).addr / 65536 = 13 := by
  unfold lkLASTMS linkField
  extract_lets g
  split
  · left; dsimp only [g, F.FHL_B_TRAIN_LAST_MS]; omega
  · right; dsimp only [g, F.FHL_B_TRAIN_LAST_MS]; omega

theorem lnSTATE_block (l k : Nat) : (lnSTATE l k).addr / 65536 = 11 ∨ (lnSTATE l k).addr / 65536 = 13 := by
  unfold lnSTATE linkField
  extract_lets g
  split
  · left; dsimp only [g, F.FHL_BL_STAT_STATE]; omega
  · right; dsimp only [g, F.FHL_BL_STAT_STATE]; omega

theorem lnCAUSE_block (l k : Nat) : (lnCAUSE l k).addr / 65536 = 11 ∨ (lnCAUSE l k).addr / 65536 = 13 := by
  unfold lnCAUSE linkField
  extract_lets g
  split
  · left; dsimp only [g, F.FHL_BL_STAT_CAUSE]; omega
  · right; dsimp only [g, F.FHL_BL_STAT_CAUSE]; omega

theorem lnREPAIRS_block (l k : Nat) : (lnREPAIRS l k).addr / 65536 = 11 ∨ (lnREPAIRS l k).addr / 65536 = 13 := by
  unfold lnREPAIRS linkField
  extract_lets g
  split
  · left; dsimp only [g, F.FHL_BL_STAT_REPAIRS]; omega
  · right; dsimp only [g, F.FHL_BL_STAT_REPAIRS]; omega

theorem lnSKEW_block (l k : Nat) : (lnSKEW l k).addr / 65536 = 11 ∨ (lnSKEW l k).addr / 65536 = 13 := by
  unfold lnSKEW linkField
  extract_lets g
  split
  · left; dsimp only [g, F.FHL_BL_STAT_SKEW_UI]; omega
  · right; dsimp only [g, F.FHL_BL_STAT_SKEW_UI]; omega

theorem lnCTLE_block (l k : Nat) : (lnCTLE l k).addr / 65536 = 11 ∨ (lnCTLE l k).addr / 65536 = 13 := by
  unfold lnCTLE linkField
  extract_lets g
  split
  · left; dsimp only [g, F.FHL_BL_EQ_CTLE]; omega
  · right; dsimp only [g, F.FHL_BL_EQ_CTLE]; omega

theorem lnTAPS_block (l k : Nat) : (lnTAPS l k).addr / 65536 = 11 ∨ (lnTAPS l k).addr / 65536 = 13 := by
  unfold lnTAPS linkField
  extract_lets g
  split
  · left; dsimp only [g, F.FHL_BL_EQ_TAPS]; omega
  · right; dsimp only [g, F.FHL_BL_EQ_TAPS]; omega

theorem lnCV_block (l k : Nat) : (lnCV l k).addr / 65536 = 11 ∨ (lnCV l k).addr / 65536 = 13 := by
  unfold lnCV linkField
  extract_lets g
  split
  · left; dsimp only [g, F.FHL_BL_CV_COUNT]; omega
  · right; dsimp only [g, F.FHL_BL_CV_COUNT]; omega

theorem lnVALID_block (l k : Nat) : (lnVALID l k).addr / 65536 = 11 ∨ (lnVALID l k).addr / 65536 = 13 := by
  unfold lnVALID linkField
  extract_lets g
  split
  · left; dsimp only [g, F.FHL_BL_EYE_VALID]; omega
  · right; dsimp only [g, F.FHL_BL_EYE_VALID]; omega

theorem lnNEW_block (l k : Nat) : (lnNEW l k).addr / 65536 = 11 ∨ (lnNEW l k).addr / 65536 = 13 := by
  unfold lnNEW linkField
  extract_lets g
  split
  · left; dsimp only [g, F.FHL_BL_EYE_NEW]; omega
  · right; dsimp only [g, F.FHL_BL_EYE_NEW]; omega

theorem lnSEQ_block (l k : Nat) : (lnSEQ l k).addr / 65536 = 11 ∨ (lnSEQ l k).addr / 65536 = 13 := by
  unfold lnSEQ linkField
  extract_lets g
  split
  · left; dsimp only [g, F.FHL_BL_EYE_SEQ]; omega
  · right; dsimp only [g, F.FHL_BL_EYE_SEQ]; omega

theorem lnHEIGHT_block (l k : Nat) : (lnHEIGHT l k).addr / 65536 = 11 ∨ (lnHEIGHT l k).addr / 65536 = 13 := by
  unfold lnHEIGHT linkField
  extract_lets g
  split
  · left; dsimp only [g, F.FHL_BL_EYE_HEIGHT]; omega
  · right; dsimp only [g, F.FHL_BL_EYE_HEIGHT]; omega

theorem lnWIDTH_block (l k : Nat) : (lnWIDTH l k).addr / 65536 = 11 ∨ (lnWIDTH l k).addr / 65536 = 13 := by
  unfold lnWIDTH linkField
  extract_lets g
  split
  · left; dsimp only [g, F.FHL_BL_EYE_WIDTH]; omega
  · right; dsimp only [g, F.FHL_BL_EYE_WIDTH]; omega

theorem State.setPort_moves (s : State) (l : Nat) (x : LinkPort) : Moves 0x1000 s (State.setPort s l x) := by
  unfold State.setPort
  repeat' first
    | with_reducible assumption
    | with_reducible exact Moves.refl _ _
    | decide
    | rw [State.upd_link]
    | with_reducible apply Moves.step (State.with_link_moves ..)

theorem Moves.l_linkRaise {M : Nat} {s0 s : State} {l e : Nat} (he : e < 16) (hm : 0x800700288002022 ||| M = M) (h : Moves M s0 s) :
    Moves M s0 (s.linkRaise l e) := by
  unfold State.linkRaise linkCode
  split
  · exact Moves.p_raise (n := 11) (by rw [show (0x0B00 + e) / 256 = 11 by omega]; rfl) (sub_trans (by decide) hm) (sub_trans (by decide) hm) h
  · exact Moves.p_raise (n := 13) (by rw [show (0x0D10 + e) / 256 = 13 by omega]; rfl) (sub_trans (by decide) hm) (sub_trans (by decide) hm) h

theorem Moves.l_laneRaise {M : Nat} {s0 s : State} {l e k : Nat} (he : e < 16) (hm : 0x800700288002022 ||| M = M) (h : Moves M s0 s) :
    Moves M s0 (s.laneRaise l e k) := by
  unfold State.laneRaise linkCode
  split
  · exact Moves.p_raise (n := 11) (by rw [show (0x0B00 + e) / 256 = 11 by omega]; rfl) (sub_trans (by decide) hm) (sub_trans (by decide) hm) h
  · exact Moves.p_raise (n := 13) (by rw [show (0x0D10 + e) / 256 = 13 by omega]; rfl) (sub_trans (by decide) hm) (sub_trans (by decide) hm) h

theorem State.syncLink_moves (s : State) (l : Nat) : Moves 0x500008000000 s (State.syncLink s l) := by
  unfold State.syncLink
  repeat' first
    | with_reducible assumption
    | with_reducible exact Moves.refl _ _
    | decide
    | ((with_reducible refine Moves.q_put (n := 11) (k := 13) ?_ ?_ ?_ ?_ ?_); (first | rfl | assumption | exact lkWIDTH_block ..); decide; decide; decide)
    | ((with_reducible refine Moves.q_putb (n := 11) (k := 13) ?_ ?_ ?_ ?_ ?_); (first | rfl | assumption | exact lkNARROW_block .. | exact lkPAR_block ..); decide; decide; decide)
    | with_reducible apply Moves.ite
    | extract_lets
    | split
    | dsimp +zetaDelta only

theorem State.enterLink_moves (s : State) (l st : Nat) : Moves 0xd80048001840 s (State.enterLink s l st) := by
  unfold State.enterLink
  repeat' first
    | with_reducible assumption
    | with_reducible exact Moves.refl _ _
    | decide
    | ((with_reducible refine Moves.q_put (n := 11) (k := 13) ?_ ?_ ?_ ?_ ?_); (first | rfl | assumption | exact lkSTATE_block ..); decide; decide; decide)
    | with_reducible apply Moves.step (State.setPort_moves ..)
    | with_reducible apply Moves.step (State.stage_moves ..)
    | with_reducible apply Moves.step (State.syncLink_moves ..)

theorem State.linkDetect_moves (s : State) (l : Nat) : Moves 0xd80048001840 s (State.linkDetect s l) := by
  unfold State.linkDetect
  repeat' first
    | with_reducible assumption
    | with_reducible exact Moves.refl _ _
    | decide
    | ((with_reducible refine Moves.q_put (n := 11) (k := 13) ?_ ?_ ?_ ?_ ?_); (first | rfl | assumption | exact lkFARREP_block .. | exact lkOFF_block .. | exact lkREPAIR_block .. | exact lkTXOFF_block .. | exact lnSTATE_block ..); decide; decide; decide)
    | ((with_reducible refine Moves.q_inc (n := 11) (k := 13) ?_ ?_ ?_ ?_ ?_); (first | rfl | assumption | exact lkATTEMPTS_block ..); decide; decide; decide)
    | intro _
    | with_reducible apply Moves.ite
    | extract_lets
    | with_reducible apply Moves.step (State.setPort_moves ..)
    | with_reducible apply Moves.step (State.enterLink_moves ..)
    | with_reducible apply Moves.each
    | split
    | dsimp +zetaDelta only

theorem State.linkDown_moves (s : State) (l : Nat) : Moves 0x800f802c8003862 s (State.linkDown s l) := by
  unfold State.linkDown
  repeat' first
    | with_reducible assumption
    | with_reducible exact Moves.refl _ _
    | decide
    | (with_reducible refine Moves.l_linkRaise (by decide) (by decide) ?_)
    | with_reducible apply Moves.ite
    | extract_lets
    | with_reducible apply Moves.step (State.setPort_moves ..)
    | with_reducible apply Moves.step (State.enterLink_moves ..)
    | split
    | dsimp +zetaDelta only

theorem State.linkBypass_moves (s : State) (l : Nat) : Moves 0x800f802c8003862 s (State.linkBypass s l) := by
  unfold State.linkBypass
  repeat' first
    | with_reducible assumption
    | with_reducible exact Moves.refl _ _
    | decide
    | (with_reducible refine Moves.l_linkRaise (by decide) (by decide) ?_)
    | with_reducible apply Moves.ite
    | extract_lets
    | with_reducible apply Moves.step (State.setPort_moves ..)
    | with_reducible apply Moves.step (State.enterLink_moves ..)
    | split
    | dsimp +zetaDelta only

theorem State.linkStart_moves (s : State) (l : Nat) : Moves 0xd80048001840 s (State.linkStart s l) := by
  unfold State.linkStart
  repeat' first
    | with_reducible assumption
    | with_reducible exact Moves.refl _ _
    | decide
    | with_reducible apply Moves.ite
    | extract_lets
    | with_reducible apply Moves.step (State.setPort_moves ..)
    | with_reducible apply Moves.step (State.linkDetect_moves ..)
    | split
    | dsimp +zetaDelta only

theorem State.trainOff_moves (s : State) (l k : Nat) : Moves 0x800700288003022 s (State.trainOff s l k) := by
  unfold State.trainOff
  repeat' first
    | with_reducible assumption
    | with_reducible exact Moves.refl _ _
    | decide
    | ((with_reducible refine Moves.q_put (n := 11) (k := 13) ?_ ?_ ?_ ?_ ?_); (first | rfl | assumption | exact lnCAUSE_block .. | exact lnSTATE_block ..); decide; decide; decide)
    | (with_reducible refine Moves.l_linkRaise (by decide) (by decide) ?_)
    | (with_reducible refine Moves.l_laneRaise (by decide) (by decide) ?_)
    | with_reducible apply Moves.ite
    | extract_lets
    | with_reducible apply Moves.step (State.setPort_moves ..)
    | split
    | dsimp +zetaDelta only

theorem State.trainFail_moves (s : State) (l lanes : Nat) : Moves 0x800f802c8003862 s (State.trainFail s l lanes).1 := by
  unfold State.trainFail
  repeat' first
    | with_reducible assumption
    | with_reducible exact Moves.refl _ _
    | decide
    | intro _
    | with_reducible apply Moves.ite
    | extract_lets
    | with_reducible apply Moves.step (State.linkDetect_moves ..)
    | with_reducible apply Moves.step (State.trainOff_moves ..)
    | with_reducible apply Moves.each
    | split
    | dsimp +zetaDelta only

theorem State.equalised_moves (s : State) (l : Nat) : Moves 0x500108000000 s (State.equalised s l) := by
  unfold State.equalised
  repeat' first
    | with_reducible assumption
    | with_reducible exact Moves.refl _ _
    | decide
    | ((with_reducible refine Moves.q_put (n := 11) (k := 13) ?_ ?_ ?_ ?_ ?_); (first | rfl | assumption | exact lnCTLE_block .. | exact lnTAPS_block ..); decide; decide; decide)
    | intro _
    | extract_lets
    | with_reducible apply Moves.step (State.draw_moves ..)
    | with_reducible apply Moves.foldl
    | with_reducible apply Moves.foldlFst
    | with_reducible apply Moves.foldlSnd
    | split
    | (with_reducible refine Moves.snd (by assumption) ?_)
    | (with_reducible refine Moves.fst (by assumption) ?_)
    | (with_reducible refine Moves.trd (by assumption) ?_)
    | dsimp +zetaDelta only

theorem State.lockCheck_moves (s : State) (l : Nat) : Moves 0xd80048001840 s (State.lockCheck s l) := by
  unfold State.lockCheck
  repeat' first
    | with_reducible assumption
    | with_reducible exact Moves.refl _ _
    | decide
    | with_reducible apply Moves.ite
    | extract_lets
    | with_reducible apply Moves.step (State.enterLink_moves ..)
    | split
    | dsimp +zetaDelta only

theorem State.trainExpire_moves (s0 : State) (l : Nat) : Moves 0x800f803c8003862 s0 (State.trainExpire s0 l) := by
  unfold State.trainExpire
  repeat' first
    | with_reducible assumption
    | with_reducible exact Moves.refl _ _
    | decide
    | with_reducible apply Moves.ite
    | extract_lets
    | with_reducible apply Moves.step (State.elapseTo_moves ..)
    | with_reducible apply Moves.step (State.stage_moves ..)
    | with_reducible apply Moves.step (State.trainFail_moves ..)
    | with_reducible apply Moves.step (State.lockCheck_moves ..)
    | with_reducible apply Moves.step (State.equalised_moves ..)
    | with_reducible apply Moves.step (State.enterLink_moves ..)
    | with_reducible apply Moves.step (State.linkDetect_moves ..)
    | split
    | (with_reducible refine Moves.snd (by assumption) ?_)
    | (with_reducible refine Moves.fst (by assumption) ?_)
    | (with_reducible refine Moves.trd (by assumption) ?_)
    | dsimp +zetaDelta only

theorem State.trainTimeout_moves (s : State) (l : Nat) : Moves 0x800f802c8003862 s (State.trainTimeout s l) := by
  unfold State.trainTimeout
  repeat' first
    | with_reducible assumption
    | with_reducible exact Moves.refl _ _
    | decide
    | (with_reducible refine Moves.l_linkRaise (by decide) (by decide) ?_)
    | with_reducible apply Moves.ite
    | extract_lets
    | with_reducible apply Moves.step (State.elapseTo_moves ..)
    | with_reducible apply Moves.step (State.linkDown_moves ..)
    | split
    | dsimp +zetaDelta only

theorem State.retrainStart_moves (s : State) (l : Nat) : Moves 0xd80048001840 s (State.retrainStart s l) := by
  unfold State.retrainStart
  repeat' first
    | with_reducible assumption
    | with_reducible exact Moves.refl _ _
    | decide
    | with_reducible apply Moves.ite
    | extract_lets
    | with_reducible apply Moves.step (State.elapseTo_moves ..)
    | with_reducible apply Moves.step (State.stage_moves ..)
    | with_reducible apply Moves.step (State.linkDetect_moves ..)
    | split
    | dsimp +zetaDelta only

theorem State.signalDetect_moves (s : State) (l : Nat) : Moves 0xd80048001840 s (State.signalDetect s l) := by
  unfold State.signalDetect
  repeat' first
    | with_reducible assumption
    | with_reducible exact Moves.refl _ _
    | decide
    | with_reducible apply Moves.ite
    | with_reducible apply Moves.step (State.enterLink_moves ..)
    | split

theorem State.writeOff_moves (s : State) (l k : Nat) : Moves 0x800f802c8003862 s (State.writeOff s l k) := by
  unfold State.writeOff
  repeat' first
    | with_reducible assumption
    | with_reducible exact Moves.refl _ _
    | decide
    | ((with_reducible refine Moves.q_put (n := 11) (k := 13) ?_ ?_ ?_ ?_ ?_); (first | rfl | assumption | exact lnSTATE_block ..); decide; decide; decide)
    | with_reducible apply Moves.ite
    | extract_lets
    | with_reducible apply Moves.step (State.linkDown_moves ..)
    | with_reducible apply Moves.step (State.setPort_moves ..)
    | split
    | dsimp +zetaDelta only

theorem State.laneFault_moves (s : State) (l k cause : Nat) : Moves 0x800f802c8003862 s (State.laneFault s l k cause) := by
  unfold State.laneFault
  repeat' first
    | with_reducible assumption
    | with_reducible exact Moves.refl _ _
    | decide
    | ((with_reducible refine Moves.q_put (n := 11) (k := 13) ?_ ?_ ?_ ?_ ?_); (first | rfl | assumption | exact lkREPAIR_block .. | exact lnCAUSE_block .. | exact lnSTATE_block ..); decide; decide; decide)
    | ((with_reducible refine Moves.q_inc (n := 11) (k := 13) ?_ ?_ ?_ ?_ ?_); (first | rfl | assumption | exact lnREPAIRS_block ..); decide; decide; decide)
    | (with_reducible refine Moves.l_laneRaise (by decide) (by decide) ?_)
    | with_reducible apply Moves.ite
    | extract_lets
    | with_reducible apply Moves.step (State.linkDown_moves ..)
    | with_reducible apply Moves.step (State.setPort_moves ..)
    | with_reducible apply Moves.step (State.syncLink_moves ..)
    | with_reducible apply Moves.step (State.writeOff_moves ..)
    | split
    | dsimp +zetaDelta only

theorem State.laneLoss_moves (s : State) (l k : Nat) : Moves 0x800f802c8003862 s (State.laneLoss s l k) := by
  unfold State.laneLoss
  repeat' first
    | with_reducible assumption
    | with_reducible exact Moves.refl _ _
    | decide
    | with_reducible apply Moves.step (State.laneFault_moves ..)

theorem State.requalDone_moves (s : State) (l k : Nat) (ok : Bool) : Moves 0x800f802c8003862 s (State.requalDone s l k ok) := by
  unfold State.requalDone
  repeat' first
    | with_reducible assumption
    | with_reducible exact Moves.refl _ _
    | decide
    | ((with_reducible refine Moves.q_put (n := 11) (k := 13) ?_ ?_ ?_ ?_ ?_); (first | rfl | assumption | exact lkREPAIR_block .. | exact lnSTATE_block ..); decide; decide; decide)
    | (with_reducible refine Moves.l_laneRaise (by decide) (by decide) ?_)
    | with_reducible apply Moves.ite
    | extract_lets
    | with_reducible apply Moves.step (State.setPort_moves ..)
    | with_reducible apply Moves.step (State.writeOff_moves ..)
    | with_reducible apply Moves.step (State.syncLink_moves ..)
    | split
    | dsimp +zetaDelta only

theorem State.remapStalled_moves (s : State) (l : Nat) : Moves 0x800700288003022 s (State.remapStalled s l) := by
  unfold State.remapStalled
  repeat' first
    | with_reducible assumption
    | with_reducible exact Moves.refl _ _
    | decide
    | (with_reducible refine Moves.l_laneRaise (by decide) (by decide) ?_)
    | with_reducible apply Moves.ite
    | extract_lets
    | with_reducible apply Moves.step (State.setPort_moves ..)
    | split
    | (with_reducible refine Moves.snd (by assumption) ?_)
    | (with_reducible refine Moves.fst (by assumption) ?_)
    | (with_reducible refine Moves.trd (by assumption) ?_)
    | dsimp +zetaDelta only

theorem State.lockSets_moves (s : State) (l : Nat) (sets : List (List Byte)) : Moves 0x800f802cc003862 s (State.lockSets s l sets) := by
  unfold State.lockSets
  repeat' first
    | with_reducible assumption
    | with_reducible exact Moves.refl _ _
    | decide
    | ((with_reducible refine Moves.q_put (n := 11) (k := 13) ?_ ?_ ?_ ?_ ?_); (first | rfl | assumption | exact lkPOL_block ..); decide; decide; decide)
    | ((with_reducible refine Moves.p_raiseLim (n := 13) ?_ ?_ ?_ ?_); (first | rfl | (split <;> rfl)); decide; decide)
    | with_reducible apply Moves.ite
    | extract_lets
    | with_reducible apply Moves.step (State.setPort_moves ..)
    | with_reducible apply Moves.step (State.stage_moves ..)
    | with_reducible apply Moves.step (State.trainFail_moves ..)
    | with_reducible apply Moves.step (State.lockCheck_moves ..)
    | split
    | (with_reducible refine Moves.snd (by assumption) ?_)
    | (with_reducible refine Moves.fst (by assumption) ?_)
    | (with_reducible refine Moves.trd (by assumption) ?_)
    | dsimp +zetaDelta only

theorem State.deskew_moves (s : State) (l : Nat) (skew : List Nat) : Moves 0x800f802c8003862 s (State.deskew s l skew) := by
  unfold State.deskew
  repeat' first
    | with_reducible assumption
    | with_reducible exact Moves.refl _ _
    | decide
    | ((with_reducible refine Moves.q_put (n := 11) (k := 13) ?_ ?_ ?_ ?_ ?_); (first | rfl | assumption | exact lnSKEW_block ..); decide; decide; decide)
    | intro _
    | with_reducible apply Moves.ite
    | extract_lets
    | with_reducible apply Moves.step (State.trainFail_moves ..)
    | with_reducible apply Moves.step (State.setPort_moves ..)
    | with_reducible apply Moves.step (State.enterLink_moves ..)
    | with_reducible apply Moves.foldl
    | with_reducible apply Moves.foldlFst
    | with_reducible apply Moves.foldlSnd
    | split
    | (with_reducible refine Moves.snd (by assumption) ?_)
    | (with_reducible refine Moves.fst (by assumption) ?_)
    | (with_reducible refine Moves.trd (by assumption) ?_)
    | dsimp +zetaDelta only

theorem State.linkRises_moves (s : State) (l : Nat) : Moves 0x800f802c8003862 s (State.linkRises s l) := by
  unfold State.linkRises
  repeat' first
    | with_reducible assumption
    | with_reducible exact Moves.refl _ _
    | decide
    | ((with_reducible refine Moves.q_put (n := 11) (k := 13) ?_ ?_ ?_ ?_ ?_); (first | rfl | assumption | exact lkLASTMS_block .. | exact lnSTATE_block ..); decide; decide; decide)
    | (with_reducible refine Moves.l_linkRaise (by decide) (by decide) ?_)
    | intro _
    | with_reducible apply Moves.ite
    | extract_lets
    | with_reducible apply Moves.step (State.enterLink_moves ..)
    | with_reducible apply Moves.step (State.setPort_moves ..)
    | with_reducible apply Moves.foldl
    | with_reducible apply Moves.foldlFst
    | with_reducible apply Moves.foldlSnd
    | split
    | dsimp +zetaDelta only

theorem State.offNamed_moves (s : State) (l k : Nat) : Moves 0x800700288003022 s (State.offNamed s l k) := by
  unfold State.offNamed
  repeat' first
    | with_reducible assumption
    | with_reducible exact Moves.refl _ _
    | decide
    | ((with_reducible refine Moves.q_put (n := 11) (k := 13) ?_ ?_ ?_ ?_ ?_); (first | rfl | assumption | exact lkREPAIR_block .. | exact lnSTATE_block ..); decide; decide; decide)
    | (with_reducible refine Moves.l_linkRaise (by decide) (by decide) ?_)
    | (with_reducible refine Moves.l_laneRaise (by decide) (by decide) ?_)
    | with_reducible apply Moves.ite
    | extract_lets
    | with_reducible apply Moves.step (State.setPort_moves ..)
    | split
    | dsimp +zetaDelta only

theorem State.stripeTake_moves (s : State) (l : Nat) (a : AlignSet) : Moves 0x800700288003022 s (State.stripeTake s l a) := by
  unfold State.stripeTake
  repeat' first
    | with_reducible assumption
    | with_reducible exact Moves.refl _ _
    | decide
    | ((with_reducible refine Moves.q_put (n := 11) (k := 13) ?_ ?_ ?_ ?_ ?_); (first | rfl | assumption | exact lkOFF_block .. | exact lnSTATE_block ..); decide; decide; decide)
    | intro _
    | with_reducible apply Moves.ite
    | extract_lets
    | with_reducible apply Moves.step (State.offNamed_moves ..)
    | with_reducible apply Moves.step (State.setPort_moves ..)
    | with_reducible apply Moves.step (State.syncLink_moves ..)
    | with_reducible apply Moves.each
    | with_reducible apply Moves.foldl
    | with_reducible apply Moves.foldlFst
    | with_reducible apply Moves.foldlSnd
    | split
    | dsimp +zetaDelta only

theorem State.txObey_moves (s : State) (l : Nat) (a : AlignSet) : Moves 0x800700288003022 s (State.txObey s l a) := by
  unfold State.txObey
  repeat' first
    | with_reducible assumption
    | with_reducible exact Moves.refl _ _
    | decide
    | ((with_reducible refine Moves.q_put (n := 11) (k := 13) ?_ ?_ ?_ ?_ ?_); (first | rfl | assumption | exact lkFARREP_block .. | exact lkTXOFF_block ..); decide; decide; decide)
    | (with_reducible refine Moves.l_laneRaise (by decide) (by decide) ?_)
    | intro _
    | with_reducible apply Moves.ite
    | extract_lets
    | with_reducible apply Moves.step (State.setPort_moves ..)
    | with_reducible apply Moves.foldl
    | with_reducible apply Moves.foldlFst
    | with_reducible apply Moves.foldlSnd
    | split
    | dsimp +zetaDelta only

theorem State.laneSets_moves (s : State) (l : Nat) (sets : List (List Byte)) : Moves 0x800f802c8003862 s (State.laneSets s l sets) := by
  unfold State.laneSets
  repeat' first
    | with_reducible assumption
    | with_reducible exact Moves.refl _ _
    | decide
    | intro _
    | with_reducible apply Moves.ite
    | extract_lets
    | with_reducible apply Moves.step (State.setPort_moves ..)
    | with_reducible apply Moves.step (State.laneFault_moves ..)
    | with_reducible apply Moves.foldl
    | with_reducible apply Moves.foldlFst
    | with_reducible apply Moves.foldlSnd
    | split
    | dsimp +zetaDelta only

theorem State.alignMissing_moves (s : State) (l : Nat) : Moves 0x800f802c8003862 s (State.alignMissing s l) := by
  unfold State.alignMissing
  repeat' first
    | with_reducible assumption
    | with_reducible exact Moves.refl _ _
    | decide
    | with_reducible apply Moves.ite
    | extract_lets
    | with_reducible apply Moves.step (State.linkDown_moves ..)
    | with_reducible apply Moves.step (State.setPort_moves ..)
    | split
    | dsimp +zetaDelta only

theorem State.handshake_moves (s : State) (l : Nat) (a : AlignSet) : Moves 0x800f802c8003862 s (State.handshake s l a) := by
  unfold State.handshake
  repeat' first
    | with_reducible assumption
    | with_reducible exact Moves.refl _ _
    | decide
    | with_reducible apply Moves.ite
    | extract_lets
    | with_reducible apply Moves.step (State.setPort_moves ..)
    | with_reducible apply Moves.step (State.linkRises_moves ..)
    | split
    | dsimp +zetaDelta only

theorem State.alignSet_moves (s : State) (l : Nat) (sets : List (List Byte)) (skew : List Nat) : Moves 0x800f802cc003862 s (State.alignSet s l sets skew) := by
  unfold State.alignSet
  repeat' first
    | with_reducible assumption
    | with_reducible exact Moves.refl _ _
    | decide
    | with_reducible apply Moves.ite
    | extract_lets
    | with_reducible apply Moves.step (State.lockSets_moves ..)
    | with_reducible apply Moves.step (State.alignMissing_moves ..)
    | with_reducible apply Moves.step (State.deskew_moves ..)
    | with_reducible apply Moves.step (State.txObey_moves ..)
    | with_reducible apply Moves.step (State.handshake_moves ..)
    | with_reducible apply Moves.step (State.stripeTake_moves ..)
    | with_reducible apply Moves.step (State.laneSets_moves ..)
    | split
    | (with_reducible refine Moves.snd (by assumption) ?_)
    | (with_reducible refine Moves.fst (by assumption) ?_)
    | (with_reducible refine Moves.trd (by assumption) ?_)
    | dsimp +zetaDelta only

theorem State.violations_moves (s : State) (l : Nat) (col : List (Option Byte)) : Moves 0x800f802c8003862 s (State.violations s l col) := by
  unfold State.violations
  repeat' first
    | with_reducible assumption
    | with_reducible exact Moves.refl _ _
    | decide
    | ((with_reducible refine Moves.q_inc (n := 11) (k := 13) ?_ ?_ ?_ ?_ ?_); (first | rfl | assumption | exact lnCV_block ..); decide; decide; decide)
    | intro _
    | with_reducible apply Moves.ite
    | extract_lets
    | with_reducible apply Moves.step (State.setPort_moves ..)
    | with_reducible apply Moves.step (State.laneFault_moves ..)
    | with_reducible apply Moves.foldl
    | with_reducible apply Moves.foldlFst
    | with_reducible apply Moves.foldlSnd
    | split
    | dsimp +zetaDelta only

theorem State.columnBad_moves (s : State) (l : Nat) : Moves 0x80070028c003022 s (s.columnBad l) := by
  unfold State.columnBad linkCode
  split
  · exact Moves.p_raiseMs (n := 11) rfl (by decide) (by decide) (Moves.q_inc (n := 11) (k := 13) (lkUNCORR_block l) (by decide)
      (by decide) (by decide) (Moves.step (State.setPort_moves ..) (by decide) (Moves.refl _ s)))
  · exact Moves.p_raiseMs (n := 13) rfl (by decide) (by decide) (Moves.q_inc (n := 11) (k := 13) (lkUNCORR_block l) (by decide)
      (by decide) (by decide) (Moves.step (State.setPort_moves ..) (by decide) (Moves.refl _ s)))

theorem State.columnGood_moves (s : State) (l : Nat) (b : List Byte) : Moves 0x1000 s (State.columnGood s l b) := by
  unfold State.columnGood
  repeat' first
    | with_reducible assumption
    | with_reducible exact Moves.refl _ _
    | decide
    | with_reducible apply Moves.step (State.setPort_moves ..)

theorem State.columnRepaired_moves (s : State) (l : Nat) (b : List Byte) : Moves 0x500008001000 s (State.columnRepaired s l b) := by
  unfold State.columnRepaired
  repeat' first
    | with_reducible assumption
    | with_reducible exact Moves.refl _ _
    | decide
    | ((with_reducible refine Moves.q_inc (n := 11) (k := 13) ?_ ?_ ?_ ?_ ?_); (first | rfl | assumption | exact lkREPCOL_block ..); decide; decide; decide)
    | with_reducible apply Moves.ite
    | extract_lets
    | with_reducible apply Moves.step (State.columnGood_moves ..)
    | with_reducible apply Moves.step (State.setPort_moves ..)
    | split
    | dsimp +zetaDelta only

theorem State.dataColumn_moves (s : State) (l : Nat) (col : List (Option Byte)) : Moves 0x800f802cc003862 s (State.dataColumn s l col) := by
  unfold State.dataColumn
  repeat' first
    | with_reducible assumption
    | with_reducible exact Moves.refl _ _
    | decide
    | ((with_reducible refine Moves.q_inc (n := 11) (k := 13) ?_ ?_ ?_ ?_ ?_); (first | rfl | assumption | exact lkPARMIS_block ..); decide; decide; decide)
    | intro _
    | with_reducible apply Moves.ite
    | extract_lets
    | with_reducible apply Moves.step (State.violations_moves ..)
    | with_reducible apply Moves.step (State.columnGood_moves ..)
    | with_reducible apply Moves.step (State.columnBad_moves ..)
    | with_reducible apply Moves.step (State.columnRepaired_moves ..)
    | with_reducible apply Moves.foldl
    | with_reducible apply Moves.foldlFst
    | with_reducible apply Moves.foldlSnd
    | split
    | (with_reducible refine Moves.snd (by assumption) ?_)
    | (with_reducible refine Moves.fst (by assumption) ?_)
    | (with_reducible refine Moves.trd (by assumption) ?_)
    | dsimp +zetaDelta only

theorem State.clockLoss_moves (s : State) (l : Nat) : Moves 0x800f802c8003862 s (State.clockLoss s l) := by
  unfold State.clockLoss
  repeat' first
    | with_reducible assumption
    | with_reducible exact Moves.refl _ _
    | decide
    | with_reducible apply Moves.ite
    | extract_lets
    | with_reducible apply Moves.step (State.linkDown_moves ..)
    | with_reducible apply Moves.step (State.linkDetect_moves ..)
    | split
    | dsimp +zetaDelta only

theorem State.retrain_moves (s : State) (l : Nat) : Moves 0x800f802c8003862 s (State.retrain s l) := by
  unfold State.retrain
  repeat' first
    | with_reducible assumption
    | with_reducible exact Moves.refl _ _
    | decide
    | with_reducible apply Moves.ite
    | with_reducible apply Moves.step (State.linkDown_moves ..)
    | split

theorem State.dfeAdapt_moves (s : State) (l k : Nat) (sums : List Int) : Moves 0x500008000000 s (State.dfeAdapt s l k sums) := by
  unfold State.dfeAdapt
  repeat' first
    | with_reducible assumption
    | with_reducible exact Moves.refl _ _
    | decide
    | ((with_reducible refine Moves.q_put (n := 11) (k := 13) ?_ ?_ ?_ ?_ ?_); (first | rfl | assumption | exact lnTAPS_block ..); decide; decide; decide)
    | intro _
    | with_reducible apply Moves.ite
    | extract_lets
    | with_reducible apply Moves.foldl
    | with_reducible apply Moves.foldlFst
    | with_reducible apply Moves.foldlSnd
    | split
    | dsimp +zetaDelta only

theorem State.ctleAdapt_moves (s : State) (l k : Nat) : Moves 0x500008000000 s (State.ctleAdapt s l k) := by
  unfold State.ctleAdapt
  repeat' first
    | with_reducible assumption
    | with_reducible exact Moves.refl _ _
    | decide
    | ((with_reducible refine Moves.q_put (n := 11) (k := 13) ?_ ?_ ?_ ?_ ?_); (first | rfl | assumption | exact lnCTLE_block ..); decide; decide; decide)
    | with_reducible apply Moves.ite
    | extract_lets
    | split
    | dsimp +zetaDelta only

theorem State.eyeMeasure_moves (s : State) (l k height width : Nat) : Moves 0x500008000000 s (State.eyeMeasure s l k height width) := by
  unfold State.eyeMeasure
  repeat' first
    | with_reducible assumption
    | with_reducible exact Moves.refl _ _
    | decide
    | ((with_reducible refine Moves.q_putb (n := 11) (k := 13) ?_ ?_ ?_ ?_ ?_); (first | rfl | assumption | exact lnNEW_block .. | exact lnVALID_block ..); decide; decide; decide)
    | ((with_reducible refine Moves.q_incWrap (n := 11) (k := 13) ?_ ?_ ?_ ?_ ?_); (first | rfl | assumption | exact lnSEQ_block ..); decide; decide; decide)
    | ((with_reducible refine Moves.q_put (n := 11) (k := 13) ?_ ?_ ?_ ?_ ?_); (first | rfl | assumption | exact lnHEIGHT_block .. | exact lnWIDTH_block ..); decide; decide; decide)
    | with_reducible apply Moves.ite
    | split

theorem State.narrowEnter_moves (s : State) (l : Nat) : Moves 0x500008001000 s (State.narrowEnter s l) := by
  unfold State.narrowEnter
  repeat' first
    | with_reducible assumption
    | with_reducible exact Moves.refl _ _
    | decide
    | ((with_reducible refine Moves.q_put (n := 11) (k := 13) ?_ ?_ ?_ ?_ ?_); (first | rfl | assumption | exact lkTXOFF_block ..); decide; decide; decide)
    | with_reducible apply Moves.ite
    | extract_lets
    | with_reducible apply Moves.step (State.setPort_moves ..)
    | split
    | dsimp +zetaDelta only

theorem State.narrowLeave_moves (s : State) (l : Nat) : Moves 0x500008001000 s (State.narrowLeave s l) := by
  unfold State.narrowLeave
  repeat' first
    | with_reducible assumption
    | with_reducible exact Moves.refl _ _
    | decide
    | ((with_reducible refine Moves.q_put (n := 11) (k := 13) ?_ ?_ ?_ ?_ ?_); (first | rfl | assumption | exact lnSTATE_block ..); decide; decide; decide)
    | intro _
    | with_reducible apply Moves.ite
    | extract_lets
    | with_reducible apply Moves.step (State.setPort_moves ..)
    | with_reducible apply Moves.foldl
    | with_reducible apply Moves.foldlFst
    | with_reducible apply Moves.foldlSnd
    | split
    | dsimp +zetaDelta only

end Sys2Proof.Machine
end

