-- ==== Sys2Proof/Laws/MovesTideSync.lean ====
section
/-! SUPPORT. What each operation of Machine/TideSync.lean may change. -/

namespace Sys2Proof.Machine

set_option linter.all false

theorem State.setTd_moves (s : State) (v : Nat) : Moves 0x800008000000 s (State.setTd s v) := by
  unfold State.setTd
  repeat' first
    | with_reducible assumption
    | with_reducible exact Moves.refl _ _
    | decide
    | ((with_reducible refine Moves.p_put (n := 14) ?_ ?_ ?_ ?_); (first | rfl | assumption); decide; decide)

theorem State.tideRestart_moves (s : State) : Moves 0x40 s (State.tideRestart s) := by
  unfold State.tideRestart
  repeat' first
    | with_reducible assumption
    | with_reducible exact Moves.refl _ _
    | decide
    | rw [State.upd_tide]
    | with_reducible apply Moves.step (State.with_tide_moves ..)

theorem State.tideSource_moves (s : State) : Moves 0x800a00288002062 s (State.tideSource s) := by
  unfold State.tideSource
  simp -zeta only [State.upd_tide]
  repeat' first
    | with_reducible assumption
    | with_reducible exact Moves.refl _ _
    | decide
    | ((with_reducible refine Moves.p_putb (n := 14) ?_ ?_ ?_ ?_); (first | rfl | assumption); decide; decide)
    | ((with_reducible refine Moves.p_put (n := 14) ?_ ?_ ?_ ?_); (first | rfl | assumption); decide; decide)
    | ((with_reducible refine Moves.p_raise (n := 14) ?_ ?_ ?_ ?_); (first | rfl | (split <;> rfl)); decide; decide)
    | with_reducible apply Moves.ite
    | extract_lets
    | rw [State.upd_tide]
    | with_reducible apply Moves.step (State.with_tide_moves ..)
    | with_reducible apply Moves.step (State.tideRestart_moves ..)
    | split
    | (with_reducible refine Moves.snd (by assumption) ?_)
    | (with_reducible refine Moves.fst (by assumption) ?_)
    | (with_reducible refine Moves.trd (by assumption) ?_)
    | dsimp +zetaDelta only

theorem State.tideTopology_moves (s : State) : Moves 0x40 s (State.tideTopology s) := by
  unfold State.tideTopology
  repeat' first
    | with_reducible assumption
    | with_reducible exact Moves.refl _ _
    | decide
    | rw [State.upd_tide]
    | with_reducible apply Moves.step (State.with_tide_moves ..)
    | with_reducible apply Moves.step (State.tideRestart_moves ..)

theorem State.asymWritten_moves (s : State) (j : Nat) : Moves 0x40 s (State.asymWritten s j) := by
  unfold State.asymWritten
  repeat' first
    | with_reducible assumption
    | with_reducible exact Moves.refl _ _
    | decide
    | with_reducible apply Moves.ite
    | with_reducible apply Moves.step (State.tideRestart_moves ..)
    | split

theorem State.tideFree_moves (s : State) : Moves 0x800008000040 s (State.tideFree s) := by
  unfold State.tideFree
  simp -zeta only [State.upd_tide]
  repeat' first
    | with_reducible assumption
    | with_reducible exact Moves.refl _ _
    | decide
    | ((with_reducible refine Moves.p_putb (n := 14) ?_ ?_ ?_ ?_); (first | rfl | assumption); decide; decide)
    | extract_lets
    | rw [State.upd_tide]
    | with_reducible apply Moves.step (State.with_tide_moves ..)
    | with_reducible apply Moves.step (State.tideRestart_moves ..)
    | with_reducible apply Moves.step (State.setTd_moves ..)
    | dsimp +zetaDelta only

theorem State.setPend_moves (s : State) (p : Int) : Moves 0x800008000040 s (State.setPend s p) := by
  unfold State.setPend
  repeat' first
    | with_reducible assumption
    | with_reducible exact Moves.refl _ _
    | decide
    | rw [State.upd_tide]
    | with_reducible apply Moves.step (State.with_tide_moves ..)
    | with_reducible apply Moves.step (State.syncTide_moves ..)

theorem State.tideStep_moves (s : State) (d : Int) : Moves 0x800008000040 s (State.tideStep s d) := by
  unfold State.tideStep
  simp -zeta only [State.upd_tide]
  repeat' first
    | with_reducible assumption
    | with_reducible exact Moves.refl _ _
    | decide
    | extract_lets
    | rw [State.upd_tide]
    | with_reducible apply Moves.step (State.with_tide_moves ..)
    | with_reducible apply Moves.step (State.toDiscardAll_moves ..)
    | with_reducible apply Moves.step (State.tideRestart_moves ..)
    | with_reducible apply Moves.step (State.setPend_moves ..)
    | dsimp +zetaDelta only

theorem State.tideServo_moves (s : State) (e : Int) : Moves 0x800008000040 s (State.tideServo s e) := by
  unfold State.tideServo
  simp -zeta only [State.upd_tide]
  repeat' first
    | with_reducible assumption
    | with_reducible exact Moves.refl _ _
    | decide
    | extract_lets
    | rw [State.upd_tide]
    | with_reducible apply Moves.step (State.with_tide_moves ..)
    | with_reducible apply Moves.step (State.setPend_moves ..)
    | dsimp +zetaDelta only

theorem State.tideRefuse_moves (s : State) (asym : Bool) : Moves 0x800a00288002062 s (State.tideRefuse s asym) := by
  unfold State.tideRefuse
  simp -zeta only [State.upd_tide]
  repeat' first
    | with_reducible assumption
    | with_reducible exact Moves.refl _ _
    | decide
    | ((with_reducible refine Moves.p_putb (n := 14) ?_ ?_ ?_ ?_); (first | rfl | assumption); decide; decide)
    | ((with_reducible refine Moves.p_raise (n := 14) ?_ ?_ ?_ ?_); (first | rfl | (split <;> rfl)); decide; decide)
    | with_reducible apply Moves.ite
    | extract_lets
    | rw [State.upd_tide]
    | with_reducible apply Moves.step (State.with_tide_moves ..)
    | with_reducible apply Moves.step (State.setTd_moves ..)
    | split
    | dsimp +zetaDelta only

theorem State.tideCleared_moves (s : State) : Moves 0x800a00288002062 s (State.tideCleared s) := by
  unfold State.tideCleared
  repeat' first
    | with_reducible assumption
    | with_reducible exact Moves.refl _ _
    | decide
    | ((with_reducible refine Moves.p_putb (n := 14) ?_ ?_ ?_ ?_); (first | rfl | assumption); decide; decide)
    | ((with_reducible refine Moves.p_raise (n := 14) ?_ ?_ ?_ ?_); (first | rfl | (split <;> rfl)); decide; decide)
    | rw [State.upd_tide]
    | with_reducible apply Moves.step (State.with_tide_moves ..)
    | with_reducible apply Moves.step (State.setTd_moves ..)

theorem State.tideAcquired_moves (s : State) : Moves 0x800a00288002062 s (State.tideAcquired s) := by
  unfold State.tideAcquired
  simp -zeta only [State.upd_tide]
  repeat' first
    | with_reducible assumption
    | with_reducible exact Moves.refl _ _
    | decide
    | ((with_reducible refine Moves.p_putb (n := 14) ?_ ?_ ?_ ?_); (first | rfl | assumption); decide; decide)
    | ((with_reducible refine Moves.p_raise (n := 14) ?_ ?_ ?_ ?_); (first | rfl | (split <;> rfl)); decide; decide)
    | with_reducible apply Moves.ite
    | extract_lets
    | rw [State.upd_tide]
    | with_reducible apply Moves.step (State.with_tide_moves ..)
    | with_reducible apply Moves.step (State.setTd_moves ..)
    | split
    | dsimp +zetaDelta only

theorem State.tideEstimate_moves (s0 : State) (e : Int) : Moves 0x800a00288002062 s0 (State.tideEstimate s0 e) := by
  unfold State.tideEstimate
  simp -zeta only [State.upd_tide]
  repeat' first
    | with_reducible assumption
    | with_reducible exact Moves.refl _ _
    | decide
    | ((with_reducible refine Moves.p_puti (n := 14) ?_ ?_ ?_ ?_); (first | rfl | assumption); decide; decide)
    | with_reducible apply Moves.ite
    | extract_lets
    | rw [State.upd_tide]
    | with_reducible apply Moves.step (State.with_tide_moves ..)
    | with_reducible apply Moves.step (State.tideStep_moves ..)
    | with_reducible apply Moves.step (State.setPend_moves ..)
    | with_reducible apply Moves.step (State.tideAcquired_moves ..)
    | with_reducible apply Moves.step (State.tideRefuse_moves ..)
    | with_reducible apply Moves.step (State.tideServo_moves ..)
    | with_reducible apply Moves.step (State.setTd_moves ..)
    | with_reducible apply Moves.step (State.tideCleared_moves ..)
    | split
    | dsimp +zetaDelta only

theorem State.tideAck_moves (s : State) : Moves 0x800a00288002062 s (State.tideAck s) := by
  unfold State.tideAck
  repeat' first
    | with_reducible assumption
    | with_reducible exact Moves.refl _ _
    | decide
    | with_reducible apply Moves.ite
    | with_reducible apply Moves.step (State.setPend_moves ..)
    | with_reducible apply Moves.step (State.tideCleared_moves ..)
    | split

theorem State.tideBuildOut_moves (s : State) (phi : Int) : Moves 0x800a00288002062 s (State.tideBuildOut s phi) := by
  unfold State.tideBuildOut
  repeat' first
    | with_reducible assumption
    | with_reducible exact Moves.refl _ _
    | decide
    | with_reducible apply Moves.ite
    | extract_lets
    | with_reducible apply Moves.step (State.tideRefuse_moves ..)
    | with_reducible apply Moves.step (State.setPend_moves ..)
    | with_reducible apply Moves.step (State.tideStep_moves ..)
    | split
    | dsimp +zetaDelta only

theorem State.xchgStart_moves (s : State) : Moves 0x80000040 s (State.xchgStart s) := by
  unfold State.xchgStart
  simp -zeta only [State.upd_tide]
  repeat' first
    | with_reducible assumption
    | with_reducible exact Moves.refl _ _
    | decide
    | with_reducible apply Moves.ite
    | extract_lets
    | rw [State.upd_tide]
    | with_reducible apply Moves.step (State.with_tide_moves ..)
    | with_reducible apply Moves.step (State.emit_moves ..)
    | split
    | dsimp +zetaDelta only

theorem State.onXchg_moves (s : State) (f : Exchange → Exchange) : Moves 0x40 s (State.onXchg s f) := by
  unfold State.onXchg
  repeat' first
    | with_reducible assumption
    | with_reducible exact Moves.refl _ _
    | decide
    | rw [State.upd_tide]
    | with_reducible apply Moves.step (State.with_tide_moves ..)

theorem State.xchgTake_moves (s : State) (link id action : Nat) (b : List Byte) : Moves 0x80000040 s (State.xchgTake s link id action b) := by
  unfold State.xchgTake
  repeat' first
    | with_reducible assumption
    | with_reducible exact Moves.refl _ _
    | decide
    | with_reducible apply Moves.ite
    | extract_lets
    | with_reducible apply Moves.step (State.onXchg_moves ..)
    | with_reducible apply Moves.step (State.emit_moves ..)
    | split
    | (with_reducible refine Moves.snd (by assumption) ?_)
    | (with_reducible refine Moves.fst (by assumption) ?_)
    | (with_reducible refine Moves.trd (by assumption) ?_)
    | dsimp +zetaDelta only

theorem State.type5Rx_moves (s : State) (link : Nat) (b : List Byte) : Moves 0x80000040 s (State.type5Rx s link b) := by
  unfold State.type5Rx
  repeat' first
    | with_reducible assumption
    | with_reducible exact Moves.refl _ _
    | decide
    | with_reducible apply Moves.ite
    | extract_lets
    | with_reducible apply Moves.step (State.xchgTake_moves ..)
    | with_reducible apply Moves.step (State.emit_moves ..)
    | split
    | dsimp +zetaDelta only

theorem State.xchgLost_moves (s : State) : Moves 0x800a002cc002062 s (State.xchgLost s) := by
  unfold State.xchgLost
  simp -zeta only [State.upd_tide]
  repeat' first
    | with_reducible assumption
    | with_reducible exact Moves.refl _ _
    | decide
    | ((with_reducible refine Moves.p_inc (n := 14) ?_ ?_ ?_ ?_); (first | rfl | assumption); decide; decide)
    | ((with_reducible refine Moves.p_raiseLim (n := 14) ?_ ?_ ?_ ?_); (first | rfl | (split <;> rfl)); decide; decide)
    | extract_lets
    | rw [State.upd_tide]
    | with_reducible apply Moves.step (State.with_tide_moves ..)
    | with_reducible apply Moves.step (State.elapseTo_moves ..)
    | split
    | (with_reducible refine Moves.snd (by assumption) ?_)
    | (with_reducible refine Moves.fst (by assumption) ?_)
    | (with_reducible refine Moves.trd (by assumption) ?_)
    | dsimp +zetaDelta only

theorem State.xchgAccept_moves (s : State) (theta : Int) : Moves 0x800a00288002062 s (State.xchgAccept s theta) := by
  unfold State.xchgAccept
  simp -zeta only [State.upd_tide]
  repeat' first
    | with_reducible assumption
    | with_reducible exact Moves.refl _ _
    | decide
    | ((with_reducible refine Moves.p_inc (n := 14) ?_ ?_ ?_ ?_); (first | rfl | assumption); decide; decide)
    | with_reducible apply Moves.ite
    | extract_lets
    | rw [State.upd_tide]
    | with_reducible apply Moves.step (State.with_tide_moves ..)
    | with_reducible apply Moves.step (State.tideEstimate_moves ..)
    | split
    | dsimp +zetaDelta only

theorem State.xchgComplete_moves (s : State) : Moves 0x800a00288002062 s (State.xchgComplete s) := by
  unfold State.xchgComplete
  simp -zeta only [State.upd_tide]
  repeat' first
    | with_reducible assumption
    | with_reducible exact Moves.refl _ _
    | decide
    | ((with_reducible refine Moves.p_put (n := 14) ?_ ?_ ?_ ?_); (first | rfl | assumption); decide; decide)
    | ((with_reducible refine Moves.p_inc (n := 14) ?_ ?_ ?_ ?_); (first | rfl | assumption); decide; decide)
    | with_reducible apply Moves.ite
    | extract_lets
    | rw [State.upd_tide]
    | with_reducible apply Moves.step (State.with_tide_moves ..)
    | with_reducible apply Moves.step (State.setTd_moves ..)
    | with_reducible apply Moves.step (State.xchgAccept_moves ..)
    | split
    | (with_reducible refine Moves.snd (by assumption) ?_)
    | (with_reducible refine Moves.fst (by assumption) ?_)
    | (with_reducible refine Moves.trd (by assumption) ?_)
    | dsimp +zetaDelta only

theorem State.tideHold_moves (s : State) : Moves 0x800a002c8002062 s (State.tideHold s) := by
  unfold State.tideHold
  repeat' first
    | with_reducible assumption
    | with_reducible exact Moves.refl _ _
    | decide
    | ((with_reducible refine Moves.p_raise (n := 14) ?_ ?_ ?_ ?_); (first | rfl | (split <;> rfl)); decide; decide)
    | with_reducible apply Moves.ite
    | with_reducible apply Moves.step (State.elapseTo_moves ..)
    | with_reducible apply Moves.step (State.setTd_moves ..)
    | split

end Sys2Proof.Machine
end

