-- ==== Sys2Proof/Laws/MovesClk.lean ====
section
/-! SUPPORT. What each operation of Machine/Clk.lean may change. -/

namespace Sys2Proof.Machine

set_option linter.all false

theorem State.setSyn_moves (s : State) (n : Nat) (x : Syn) : Moves 0x8 s (State.setSyn s n x) := by
  unfold State.setSyn
  repeat' first
    | with_reducible assumption
    | with_reducible exact Moves.refl _ _
    | decide
    | with_reducible apply Moves.ite
    | rw [State.upd_clk]
    | with_reducible apply Moves.step (State.with_clk_moves ..)
    | split

theorem State.loSync_moves (s : State) : Moves 0x80020a2880021a2 s (State.loSync s) := by
  unfold State.loSync
  repeat' first
    | with_reducible assumption
    | with_reducible exact Moves.refl _ _
    | decide
    | with_reducible apply Moves.ite
    | extract_lets
    | with_reducible apply Moves.step (State.txCause_moves ..)
    | with_reducible apply Moves.step (State.addSpan_moves ..)
    | with_reducible apply Moves.step (State.agcSuspend_moves ..)
    | with_reducible apply Moves.step (State.closeSpan_moves ..)
    | split
    | dsimp +zetaDelta only

theorem State.dividersAt_moves (s : State) (t : Nat) : Moves 0x8 s (State.dividersAt s t) := by
  unfold State.dividersAt
  repeat' first
    | with_reducible assumption
    | with_reducible exact Moves.refl _ _
    | decide
    | rw [State.upd_clk]
    | with_reducible apply Moves.step (State.with_clk_moves ..)

theorem State.dividersReset_moves (s : State) : Moves 0x800048000048 s (State.dividersReset s) := by
  unfold State.dividersReset
  simp -zeta only [State.upd_clk]
  repeat' first
    | with_reducible assumption
    | with_reducible exact Moves.refl _ _
    | decide
    | intro _
    | extract_lets
    | rw [State.upd_clk]
    | with_reducible apply Moves.step (State.with_clk_moves ..)
    | with_reducible apply Moves.step (State.reach_moves ..)
    | split
    | (with_reducible refine Moves.snd (by assumption) ?_)
    | (with_reducible refine Moves.fst (by assumption) ?_)
    | (with_reducible refine Moves.trd (by assumption) ?_)
    | dsimp +zetaDelta only

theorem State.resync_moves (s : State) : Moves 0xa0800000a s (State.resync s) := by
  unfold State.resync
  repeat' first
    | with_reducible assumption
    | with_reducible exact Moves.refl _ _
    | decide
    | ((with_reducible refine Moves.p_setBit (n := 2) ?_ ?_ ?_ ?_); (first | rfl | assumption); decide; decide)
    | with_reducible apply Moves.ite
    | rw [State.upd_clk]
    | with_reducible apply Moves.step (State.with_clk_moves ..)
    | with_reducible apply Moves.step (State.syncIrq_moves ..)
    | split

theorem State.synRetune_moves (s : State) (n nn div : Nat) : Moves 0x80020aa880021aa s (State.synRetune s n nn div) := by
  unfold State.synRetune
  repeat' first
    | with_reducible assumption
    | with_reducible exact Moves.refl _ _
    | decide
    | ((with_reducible refine Moves.p_putb (n := 2) ?_ ?_ ?_ ?_); (first | rfl | assumption | (dsimp only [F.CLK_SYN_STAT_LOCK, F.CLK_SYN_STAT_SETTLE]; omega)); decide; decide)
    | with_reducible apply Moves.ite
    | extract_lets
    | with_reducible apply Moves.step (State.setSyn_moves ..)
    | with_reducible apply Moves.step (State.addMute_moves ..)
    | with_reducible apply Moves.step (State.addSpan_moves ..)
    | with_reducible apply Moves.step (State.agcSuspend_moves ..)
    | with_reducible apply Moves.step (State.loSync_moves ..)
    | split
    | dsimp +zetaDelta only

theorem State.retuneRefused_moves (s : State) : Moves 0x800200a88002022 s (State.retuneRefused s) := by
  unfold State.retuneRefused
  repeat' first
    | with_reducible assumption
    | with_reducible exact Moves.refl _ _
    | decide
    | ((with_reducible refine Moves.p_raise (n := 2) ?_ ?_ ?_ ?_); (first | rfl | (split <;> rfl)); decide; decide)

theorem State.synCommand_moves (s : State) (n nn div : Nat) (arm : Bool) (at_ : Stamp) : Moves 0x80020aa880021aa s (State.synCommand s n nn div arm at_).2 := by
  unfold State.synCommand
  repeat' first
    | with_reducible assumption
    | with_reducible exact Moves.refl _ _
    | decide
    | ((with_reducible refine Moves.p_put (n := 2) ?_ ?_ ?_ ?_); (first | rfl | assumption | (dsimp only [F.CLK_SYN_CTL_DIV, F.CLK_SYN_CTL_N]; omega)); decide; decide)
    | intro _
    | with_reducible apply Moves.ite
    | extract_lets
    | with_reducible apply Moves.step (State.retuneRefused_moves ..)
    | with_reducible apply Moves.step (State.setSyn_moves ..)
    | with_reducible apply Moves.step (State.synRetune_moves ..)
    | with_reducible apply Moves.foldl
    | with_reducible apply Moves.foldlFst
    | with_reducible apply Moves.foldlSnd
    | split
    | (with_reducible refine Moves.snd (by assumption) ?_)
    | (with_reducible refine Moves.fst (by assumption) ?_)
    | (with_reducible refine Moves.trd (by assumption) ?_)
    | dsimp +zetaDelta only

theorem State.synFire_moves (s : State) (n : Nat) : Moves 0x800a0aac80021ea s (State.synFire s n) := by
  unfold State.synFire
  repeat' first
    | with_reducible assumption
    | with_reducible exact Moves.refl _ _
    | decide
    | intro _
    | with_reducible apply Moves.ite
    | extract_lets
    | with_reducible apply Moves.step (State.reach_moves ..)
    | with_reducible apply Moves.step (State.synRetune_moves ..)
    | with_reducible apply Moves.step (State.setSyn_moves ..)
    | with_reducible apply Moves.foldl
    | with_reducible apply Moves.foldlFst
    | with_reducible apply Moves.foldlSnd
    | split
    | (with_reducible refine Moves.snd (by assumption) ?_)
    | (with_reducible refine Moves.fst (by assumption) ?_)
    | (with_reducible refine Moves.trd (by assumption) ?_)
    | dsimp +zetaDelta only

theorem State.synFail_moves (s : State) (n : Nat) : Moves 0x900200288402022 s (State.synFail s n) := by
  unfold State.synFail
  repeat' first
    | with_reducible assumption
    | with_reducible exact Moves.refl _ _
    | decide
    | ((with_reducible refine Moves.p_putb (n := 23) ?_ ?_ ?_ ?_); (first | rfl | assumption | (dsimp only [F.RSV_SYN_WEAR_FAILED]; omega)); decide; decide)
    | ((with_reducible refine Moves.p_raise (n := 23) ?_ ?_ ?_ ?_); (first | rfl | (split <;> rfl)); decide; decide)
    | with_reducible apply Moves.ite
    | with_reducible apply Moves.step (State.regrade_moves ..)
    | split

theorem State.synWear_moves (s : State) (n : Nat) : Moves 0x90020028840202a s (State.synWear s n) := by
  unfold State.synWear
  repeat' first
    | with_reducible assumption
    | with_reducible exact Moves.refl _ _
    | decide
    | ((with_reducible refine Moves.p_inc (n := 23) ?_ ?_ ?_ ?_); (first | rfl | assumption | (dsimp only [F.RSV_SYN_WEAR_LOSSES]; omega)); decide; decide)
    | ((with_reducible refine Moves.p_put (n := 23) ?_ ?_ ?_ ?_); (first | rfl | assumption | (dsimp only [F.RSV_SYN_WEAR_RECENT]; omega)); decide; decide)
    | with_reducible apply Moves.ite
    | extract_lets
    | with_reducible apply Moves.step (State.setSyn_moves ..)
    | with_reducible apply Moves.step (State.synFail_moves ..)
    | split
    | dsimp +zetaDelta only

theorem State.swapMute_moves (s : State) (dirs : Nat) : Moves 0x2008000188 s (State.swapMute s dirs) := by
  unfold State.swapMute
  simp -zeta only [State.upd_clk]
  repeat' first
    | with_reducible assumption
    | with_reducible exact Moves.refl _ _
    | decide
    | with_reducible apply Moves.ite
    | extract_lets
    | rw [State.upd_clk]
    | with_reducible apply Moves.step (State.with_clk_moves ..)
    | with_reducible apply Moves.step (State.addMute_moves ..)
    | with_reducible apply Moves.step (State.addSpan_moves ..)
    | with_reducible apply Moves.step (State.agcSuspend_moves ..)
    | with_reducible apply Moves.step (State.dividersAt_moves ..)
    | split
    | dsimp +zetaDelta only

theorem State.swapLift_moves (s : State) : Moves 0x800848000048 s (State.swapLift s) := by
  unfold State.swapLift
  simp -zeta only [State.upd_clk]
  repeat' first
    | with_reducible assumption
    | with_reducible exact Moves.refl _ _
    | decide
    | ((with_reducible refine Moves.p_add (n := 2) ?_ ?_ ?_ ?_); (first | rfl | assumption); decide; decide)
    | intro _
    | extract_lets
    | rw [State.upd_clk]
    | with_reducible apply Moves.step (State.with_clk_moves ..)
    | with_reducible apply Moves.step (State.reach_moves ..)
    | split
    | (with_reducible refine Moves.snd (by assumption) ?_)
    | (with_reducible refine Moves.fst (by assumption) ?_)
    | (with_reducible refine Moves.trd (by assumption) ?_)
    | dsimp +zetaDelta only

theorem State.synLost_moves (s : State) (n : Nat) : Moves 0x90020aa884021aa s (State.synLost s n) := by
  unfold State.synLost
  repeat' first
    | with_reducible assumption
    | with_reducible exact Moves.refl _ _
    | decide
    | ((with_reducible refine Moves.p_putb (n := 2) ?_ ?_ ?_ ?_); (first | rfl | assumption | (dsimp only [F.CLK_SYN_STAT_LOCK]; omega)); decide; decide)
    | ((with_reducible refine Moves.p_raise (n := 2) ?_ ?_ ?_ ?_); (first | rfl | (split <;> rfl)); decide; decide)
    | ((with_reducible refine Moves.p_put (n := 2) ?_ ?_ ?_ ?_); (first | rfl | assumption); decide; decide)
    | extract_lets
    | with_reducible apply Moves.step (State.setSyn_moves ..)
    | with_reducible apply Moves.step (State.swapMute_moves ..)
    | with_reducible apply Moves.step (State.synWear_moves ..)
    | with_reducible apply Moves.step (State.loSync_moves ..)
    | with_reducible apply Moves.step (State.regrade_moves ..)
    | split
    | (with_reducible refine Moves.snd (by assumption) ?_)
    | (with_reducible refine Moves.fst (by assumption) ?_)
    | (with_reducible refine Moves.trd (by assumption) ?_)
    | dsimp +zetaDelta only

theorem State.synUnlock_moves (s : State) (n : Nat) : Moves 0x90020aa884021aa s (State.synUnlock s n) := by
  unfold State.synUnlock
  repeat' first
    | with_reducible assumption
    | with_reducible exact Moves.refl _ _
    | decide
    | with_reducible apply Moves.ite
    | with_reducible apply Moves.step (State.synLost_moves ..)
    | split

theorem State.settleDone_moves (s : State) (n : Nat) : Moves 0x900a0aac84021ea s (State.settleDone s n) := by
  unfold State.settleDone
  repeat' first
    | with_reducible assumption
    | with_reducible exact Moves.refl _ _
    | decide
    | ((with_reducible refine Moves.p_putb (n := 2) ?_ ?_ ?_ ?_); (first | rfl | assumption | (dsimp only [F.CLK_SYN_STAT_SETTLE]; omega)); decide; decide)
    | intro _
    | with_reducible apply Moves.ite
    | extract_lets
    | with_reducible apply Moves.step (State.reach_moves ..)
    | with_reducible apply Moves.step (State.setSyn_moves ..)
    | with_reducible apply Moves.step (State.loSync_moves ..)
    | with_reducible apply Moves.step (State.synLost_moves ..)
    | split
    | (with_reducible refine Moves.snd (by assumption) ?_)
    | (with_reducible refine Moves.fst (by assumption) ?_)
    | (with_reducible refine Moves.trd (by assumption) ?_)
    | dsimp +zetaDelta only

theorem State.synLock_moves (s : State) (n : Nat) : Moves 0x90220ab884121aa s (State.synLock s n) := by
  unfold State.synLock
  repeat' first
    | with_reducible assumption
    | with_reducible exact Moves.refl _ _
    | decide
    | ((with_reducible refine Moves.p_putb (n := 2) ?_ ?_ ?_ ?_); (first | rfl | assumption | (dsimp only [F.CLK_SYN_STAT_LOCK]; omega)); decide; decide)
    | ((with_reducible refine Moves.p_put (n := 2) ?_ ?_ ?_ ?_); (first | rfl | assumption | (dsimp only [F.CLK_SYN_STAT_BAND, F.CLK_SYN_STAT_LOCK_T]; omega)); decide; decide)
    | ((with_reducible refine Moves.p_put (n := 23) ?_ ?_ ?_ ?_); (first | rfl | assumption | (dsimp only [F.RSV_SYN_WEAR_LAST_MS]; omega)); decide; decide)
    | with_reducible apply Moves.ite
    | extract_lets
    | with_reducible apply Moves.step (State.draw_moves ..)
    | with_reducible apply Moves.step (State.setSyn_moves ..)
    | with_reducible apply Moves.step (State.loSync_moves ..)
    | with_reducible apply Moves.step (State.feClear_moves ..)
    | with_reducible apply Moves.step (State.dividersAt_moves ..)
    | with_reducible apply Moves.step (State.regrade_moves ..)
    | split
    | (with_reducible refine Moves.snd (by assumption) ?_)
    | (with_reducible refine Moves.fst (by assumption) ?_)
    | (with_reducible refine Moves.trd (by assumption) ?_)
    | dsimp +zetaDelta only

theorem State.synRetry_moves (s : State) (n : Nat) : Moves 0x8 s (State.synRetry s n) := by
  unfold State.synRetry
  repeat' first
    | with_reducible assumption
    | with_reducible exact Moves.refl _ _
    | decide
    | with_reducible apply Moves.ite
    | with_reducible apply Moves.step (State.setSyn_moves ..)
    | split

theorem State.synRelockTimeout_moves (s : State) (n : Nat) : Moves 0x900a002c8402062 s (State.synRelockTimeout s n) := by
  unfold State.synRelockTimeout
  repeat' first
    | with_reducible assumption
    | with_reducible exact Moves.refl _ _
    | decide
    | with_reducible apply Moves.step (State.elapseTo_moves ..)
    | with_reducible apply Moves.step (State.synFail_moves ..)
    | split
    | (with_reducible refine Moves.snd (by assumption) ?_)
    | (with_reducible refine Moves.fst (by assumption) ?_)
    | (with_reducible refine Moves.trd (by assumption) ?_)

theorem State.synFault_moves (s : State) : Moves 0x802a002c8012062 s (State.synFault s) := by
  unfold State.synFault
  repeat' first
    | with_reducible assumption
    | with_reducible exact Moves.refl _ _
    | decide
    | with_reducible apply Moves.ite
    | with_reducible apply Moves.step (State.elapseTo_moves ..)
    | with_reducible apply Moves.step (State.feSet_moves ..)
    | split
    | (with_reducible refine Moves.snd (by assumption) ?_)
    | (with_reducible refine Moves.fst (by assumption) ?_)
    | (with_reducible refine Moves.trd (by assumption) ?_)

theorem State.synClear_moves (s : State) (mask : Nat) : Moves 0x90020028840202a s (State.synClear s mask) := by
  unfold State.synClear
  repeat' first
    | with_reducible assumption
    | with_reducible exact Moves.refl _ _
    | decide
    | ((with_reducible refine Moves.p_putb (n := 23) ?_ ?_ ?_ ?_); (first | rfl | assumption | (dsimp only [F.RSV_SYN_WEAR_FAILED]; omega)); decide; decide)
    | ((with_reducible refine Moves.p_put (n := 23) ?_ ?_ ?_ ?_); (first | rfl | assumption | (dsimp only [F.RSV_SYN_WEAR_RECENT]; omega)); decide; decide)
    | intro _
    | with_reducible apply Moves.step (State.setSyn_moves ..)
    | with_reducible apply Moves.step (State.regrade_moves ..)
    | with_reducible apply Moves.each

theorem State.routeWrite_moves (s : State) (v : Nat) : Moves 0x90020aa884021aa s (State.routeWrite s v) := by
  unfold State.routeWrite
  repeat' first
    | with_reducible assumption
    | with_reducible exact Moves.refl _ _
    | decide
    | ((with_reducible refine Moves.p_putb (n := 2) ?_ ?_ ?_ ?_); (first | rfl | assumption); decide; decide)
    | ((with_reducible refine Moves.p_put (n := 2) ?_ ?_ ?_ ?_); (first | rfl | assumption); decide; decide)
    | with_reducible apply Moves.ite
    | extract_lets
    | with_reducible apply Moves.step (State.retuneRefused_moves ..)
    | with_reducible apply Moves.step (State.swapMute_moves ..)
    | with_reducible apply Moves.step (State.loSync_moves ..)
    | with_reducible apply Moves.step (State.regrade_moves ..)
    | split
    | dsimp +zetaDelta only

theorem State.lpllUnlock_moves (s : State) (b : Nat) : Moves 0x800f80ac800386a s (State.lpllUnlock s b) := by
  unfold State.lpllUnlock
  simp -zeta only [State.upd_clk]
  repeat' first
    | with_reducible assumption
    | with_reducible exact Moves.refl _ _
    | decide
    | ((with_reducible refine Moves.p_put (n := 2) ?_ ?_ ?_ ?_); (first | rfl | assumption | (dsimp only [F.CLK_LPLL_STAT_MODE]; omega)); decide; decide)
    | ((with_reducible refine Moves.p_inc (n := 2) ?_ ?_ ?_ ?_); (first | rfl | assumption | (dsimp only [F.CLK_LPLL_STAT_UNLOCK_CNT]; omega)); decide; decide)
    | ((with_reducible refine Moves.p_raise (n := 2) ?_ ?_ ?_ ?_); (first | rfl | (split <;> rfl)); decide; decide)
    | with_reducible apply Moves.ite
    | extract_lets
    | rw [State.upd_clk]
    | with_reducible apply Moves.step (State.with_clk_moves ..)
    | with_reducible apply Moves.step (State.linkBypass_moves ..)
    | split
    | dsimp +zetaDelta only

theorem State.lpllRetry_moves (s : State) (b : Nat) : Moves 0x8 s (State.lpllRetry s b) := by
  unfold State.lpllRetry
  repeat' first
    | with_reducible assumption
    | with_reducible exact Moves.refl _ _
    | decide
    | with_reducible apply Moves.ite
    | rw [State.upd_clk]
    | with_reducible apply Moves.step (State.with_clk_moves ..)
    | split

theorem State.lpllRelock_moves (s : State) (b : Nat) : Moves 0x800a00ac800206a s (State.lpllRelock s b) := by
  unfold State.lpllRelock
  simp -zeta only [State.upd_clk]
  repeat' first
    | with_reducible assumption
    | with_reducible exact Moves.refl _ _
    | decide
    | ((with_reducible refine Moves.p_put (n := 2) ?_ ?_ ?_ ?_); (first | rfl | assumption | (dsimp only [F.CLK_LPLL_STAT_MODE]; omega)); decide; decide)
    | ((with_reducible refine Moves.p_raise (n := 2) ?_ ?_ ?_ ?_); (first | rfl | (split <;> rfl)); decide; decide)
    | extract_lets
    | rw [State.upd_clk]
    | with_reducible apply Moves.step (State.with_clk_moves ..)
    | with_reducible apply Moves.step (State.elapseTo_moves ..)
    | split
    | (with_reducible refine Moves.snd (by assumption) ?_)
    | (with_reducible refine Moves.fst (by assumption) ?_)
    | (with_reducible refine Moves.trd (by assumption) ?_)
    | dsimp +zetaDelta only

theorem State.sscApply_moves (s : State) (b : Nat) : Moves 0x8 s (State.sscApply s b) := by
  unfold State.sscApply
  simp -zeta only [State.upd_clk]
  repeat' first
    | with_reducible assumption
    | with_reducible exact Moves.refl _ _
    | decide
    | with_reducible apply Moves.ite
    | extract_lets
    | rw [State.upd_clk]
    | with_reducible apply Moves.step (State.with_clk_moves ..)
    | split
    | dsimp +zetaDelta only

theorem State.syncHo_moves (s : State) : Moves 0x808000000 s (State.syncHo s) := by
  unfold State.syncHo
  repeat' first
    | with_reducible assumption
    | with_reducible exact Moves.refl _ _
    | decide
    | ((with_reducible refine Moves.p_put (n := 2) ?_ ?_ ?_ ?_); (first | rfl | assumption); decide; decide)
    | with_reducible apply Moves.ite
    | extract_lets
    | split
    | (with_reducible refine Moves.snd (by assumption) ?_)
    | (with_reducible refine Moves.fst (by assumption) ?_)
    | (with_reducible refine Moves.trd (by assumption) ?_)
    | dsimp +zetaDelta only

theorem State.cpllBypass_moves (s : State) : Moves 0x802f8aac80139ea s (State.cpllBypass s) := by
  unfold State.cpllBypass
  simp -zeta only [State.upd_clk]
  repeat' first
    | with_reducible assumption
    | with_reducible exact Moves.refl _ _
    | decide
    | ((with_reducible refine Moves.p_put (n := 2) ?_ ?_ ?_ ?_); (first | rfl | assumption); decide; decide)
    | ((with_reducible refine Moves.p_putb (n := 2) ?_ ?_ ?_ ?_); (first | rfl | assumption | (dsimp only [F.CLK_CPLL_STAT_BYP_SRC, F.CLK_SYN_STAT_LOCK, F.CLK_SYN_STAT_SETTLE]; omega)); decide; decide)
    | ((with_reducible refine Moves.p_raise (n := 2) ?_ ?_ ?_ ?_); (first | rfl | (split <;> rfl)); decide; decide)
    | intro _
    | extract_lets
    | rw [State.upd_clk]
    | with_reducible apply Moves.step (State.with_clk_moves ..)
    | with_reducible apply Moves.step (State.syncHo_moves ..)
    | with_reducible apply Moves.step (State.setSyn_moves ..)
    | with_reducible apply Moves.step (State.txCause_moves ..)
    | with_reducible apply Moves.step (State.loSync_moves ..)
    | with_reducible apply Moves.step (State.feSet_moves ..)
    | with_reducible apply Moves.step (State.lpllUnlock_moves ..)
    | with_reducible apply Moves.foldl
    | with_reducible apply Moves.foldlFst
    | with_reducible apply Moves.foldlSnd
    | dsimp +zetaDelta only

theorem State.cpllUnlock_moves (s : State) : Moves 0x802f8aac80139ea s (State.cpllUnlock s) := by
  unfold State.cpllUnlock
  repeat' first
    | with_reducible assumption
    | with_reducible exact Moves.refl _ _
    | decide
    | with_reducible apply Moves.ite
    | with_reducible apply Moves.step (State.cpllBypass_moves ..)
    | split

theorem State.refLost_moves (s : State) : Moves 0x802f8aac80139ea s (State.refLost s) := by
  unfold State.refLost
  simp -zeta only [State.upd_clk]
  repeat' first
    | with_reducible assumption
    | with_reducible exact Moves.refl _ _
    | decide
    | ((with_reducible refine Moves.p_putb (n := 2) ?_ ?_ ?_ ?_); (first | rfl | assumption); decide; decide)
    | ((with_reducible refine Moves.p_raise (n := 2) ?_ ?_ ?_ ?_); (first | rfl | (split <;> rfl)); decide; decide)
    | ((with_reducible refine Moves.p_put (n := 2) ?_ ?_ ?_ ?_); (first | rfl | assumption); decide; decide)
    | with_reducible apply Moves.ite
    | extract_lets
    | rw [State.upd_clk]
    | with_reducible apply Moves.step (State.with_clk_moves ..)
    | with_reducible apply Moves.step (State.cpllBypass_moves ..)
    | with_reducible apply Moves.step (State.syncHo_moves ..)
    | split
    | dsimp +zetaDelta only

theorem State.refEdgeLoss_moves (s : State) : Moves 0x802f8aac80139ea s (State.refEdgeLoss s) := by
  unfold State.refEdgeLoss
  repeat' first
    | with_reducible assumption
    | with_reducible exact Moves.refl _ _
    | decide
    | rw [State.upd_clk]
    | with_reducible apply Moves.step (State.with_clk_moves ..)
    | with_reducible apply Moves.step (State.refLost_moves ..)

theorem State.buildOut_moves (s : State) (phi : Int) : Moves 0x800a00a8800206a s (State.buildOut s phi) := by
  unfold State.buildOut
  simp -zeta only [State.upd_clk]
  repeat' first
    | with_reducible assumption
    | with_reducible exact Moves.refl _ _
    | decide
    | ((with_reducible refine Moves.p_put (n := 2) ?_ ?_ ?_ ?_); (first | rfl | assumption); decide; decide)
    | ((with_reducible refine Moves.p_puti (n := 2) ?_ ?_ ?_ ?_); (first | rfl | assumption); decide; decide)
    | ((with_reducible refine Moves.p_inc (n := 2) ?_ ?_ ?_ ?_); (first | rfl | assumption); decide; decide)
    | ((with_reducible refine Moves.p_raise (n := 2) ?_ ?_ ?_ ?_); (first | rfl | (split <;> rfl)); decide; decide)
    | extract_lets
    | rw [State.upd_clk]
    | with_reducible apply Moves.step (State.with_clk_moves ..)
    | with_reducible apply Moves.step (State.syncHo_moves ..)
    | with_reducible apply Moves.step (State.tideBuildOut_moves ..)
    | dsimp +zetaDelta only

theorem State.freqWindow_moves (s : State) (dev : Option Int) (phi : Int) : Moves 0x802f8aac80139ea s (State.freqWindow s dev phi) := by
  unfold State.freqWindow
  simp -zeta only [State.upd_clk]
  repeat' first
    | with_reducible assumption
    | with_reducible exact Moves.refl _ _
    | decide
    | ((with_reducible refine Moves.p_putb (n := 2) ?_ ?_ ?_ ?_); (first | rfl | assumption); decide; decide)
    | with_reducible apply Moves.ite
    | extract_lets
    | rw [State.upd_clk]
    | with_reducible apply Moves.step (State.with_clk_moves ..)
    | with_reducible apply Moves.step (State.refLost_moves ..)
    | with_reducible apply Moves.step (State.buildOut_moves ..)
    | split
    | (with_reducible refine Moves.snd (by assumption) ?_)
    | (with_reducible refine Moves.fst (by assumption) ?_)
    | (with_reducible refine Moves.trd (by assumption) ?_)
    | dsimp +zetaDelta only

theorem State.holdoverExpired_moves (s : State) : Moves 0x802f8aac80139ea s (State.holdoverExpired s) := by
  unfold State.holdoverExpired
  repeat' first
    | with_reducible assumption
    | with_reducible exact Moves.refl _ _
    | decide
    | ((with_reducible refine Moves.p_raise (n := 2) ?_ ?_ ?_ ?_); (first | rfl | (split <;> rfl)); decide; decide)
    | with_reducible apply Moves.step (State.elapseTo_moves ..)
    | with_reducible apply Moves.step (State.cpllBypass_moves ..)
    | split
    | (with_reducible refine Moves.snd (by assumption) ?_)
    | (with_reducible refine Moves.fst (by assumption) ?_)
    | (with_reducible refine Moves.trd (by assumption) ?_)

theorem State.cpllRetry_moves (s : State) : Moves 0x808000008 s (State.cpllRetry s) := by
  unfold State.cpllRetry
  repeat' first
    | with_reducible assumption
    | with_reducible exact Moves.refl _ _
    | decide
    | ((with_reducible refine Moves.p_put (n := 2) ?_ ?_ ?_ ?_); (first | rfl | assumption); decide; decide)
    | with_reducible apply Moves.ite
    | rw [State.upd_clk]
    | with_reducible apply Moves.step (State.with_clk_moves ..)
    | split

theorem State.cpllLocked_moves (s : State) : Moves 0x80020ea880021aa s (State.cpllLocked s) := by
  unfold State.cpllLocked
  simp -zeta only [State.upd_clk]
  repeat' first
    | with_reducible assumption
    | with_reducible exact Moves.refl _ _
    | decide
    | ((with_reducible refine Moves.p_put (n := 2) ?_ ?_ ?_ ?_); (first | rfl | assumption); decide; decide)
    | intro _
    | extract_lets
    | rw [State.upd_clk]
    | with_reducible apply Moves.step (State.with_clk_moves ..)
    | with_reducible apply Moves.step (State.txCause_moves ..)
    | with_reducible apply Moves.step (State.setSyn_moves ..)
    | with_reducible apply Moves.step (State.loSync_moves ..)
    | with_reducible apply Moves.step (State.rxRestart_moves ..)
    | with_reducible apply Moves.foldl
    | with_reducible apply Moves.foldlFst
    | with_reducible apply Moves.foldlSnd
    | dsimp +zetaDelta only

theorem State.cpllRelock_moves (s : State) : Moves 0x802a0eac80121ea s (State.cpllRelock s) := by
  unfold State.cpllRelock
  repeat' first
    | with_reducible assumption
    | with_reducible exact Moves.refl _ _
    | decide
    | ((with_reducible refine Moves.p_raise (n := 2) ?_ ?_ ?_ ?_); (first | rfl | (split <;> rfl)); decide; decide)
    | with_reducible apply Moves.ite
    | with_reducible apply Moves.step (State.elapseTo_moves ..)
    | with_reducible apply Moves.step (State.cpllLocked_moves ..)
    | with_reducible apply Moves.step (State.feClear_moves ..)
    | split
    | (with_reducible refine Moves.snd (by assumption) ?_)
    | (with_reducible refine Moves.fst (by assumption) ?_)
    | (with_reducible refine Moves.trd (by assumption) ?_)

theorem State.tick_moves (s : State) : Moves 0x800048000048 s (State.tick s) := by
  unfold State.tick
  simp -zeta only [State.upd_clk]
  repeat' first
    | with_reducible assumption
    | with_reducible exact Moves.refl _ _
    | decide
    | with_reducible apply Moves.ite
    | extract_lets
    | rw [State.upd_clk]
    | with_reducible apply Moves.step (State.with_clk_moves ..)
    | with_reducible apply Moves.step (State.advance_moves ..)
    | split
    | dsimp +zetaDelta only

end Sys2Proof.Machine
end

