-- ==== Sys2Proof/Laws/MovesQuayCore.lean ====
section
/-! SUPPORT. What each operation of Machine/QuayCore.lean may change. -/

namespace Sys2Proof.Machine

set_option linter.all false

theorem State.setCore_moves (s : State) (q : Nat) (x : Core) : Moves 0x400 s (State.setCore s q x) := by
  unfold State.setCore
  repeat' first
    | with_reducible assumption
    | with_reducible exact Moves.refl _ _
    | decide
    | rw [State.upd_quay]
    | with_reducible apply Moves.step (State.with_quay_moves ..)

end Sys2Proof.Machine
end

