-- ==== Sys2Proof/Laws/MovesQuayArray.lean ====
section
/-! SUPPORT. What each operation of Machine/QuayArray.lean may change. -/

namespace Sys2Proof.Machine

set_option linter.all false

theorem State.setCluster_moves (s : State) (c : Nat) (x : Cluster) : Moves 0x400 s (State.setCluster s c x) := by
  unfold State.setCluster
  repeat' first
    | with_reducible assumption
    | with_reducible exact Moves.refl _ _
    | decide
    | rw [State.upd_quay]
    | with_reducible apply Moves.step (State.with_quay_moves ..)

theorem State.setVecAt_moves (s : State) (a : Nat) (v : Vec) : Moves 0x10000000 s (State.setVecAt s a v) := by
  unfold State.setVecAt
  repeat' first
    | with_reducible assumption
    | with_reducible exact Moves.refl _ _
    | decide
    | intro _
    | with_reducible apply Moves.step (State.setMemWord_moves ..)
    | with_reducible apply Moves.each

theorem State.copyCore_moves (s : State) (src dst : Nat) : Moves 0x10000000 s (State.copyCore s src dst) := by
  unfold State.copyCore
  repeat' first
    | with_reducible assumption
    | with_reducible exact Moves.refl _ _
    | decide
    | intro _
    | extract_lets
    | with_reducible apply Moves.step (State.clearRange_moves ..)
    | with_reducible apply Moves.step (State.setByte_moves ..)
    | with_reducible apply Moves.each
    | dsimp +zetaDelta only

theorem State.shadowCompare_moves (s : State) (c k : Nat) : Moves 0x80024028c002422 s (State.shadowCompare s c k) := by
  induction k generalizing s with
  | zero =>
    unfold State.shadowCompare
    repeat' first
      | with_reducible assumption
      | with_reducible exact Moves.refl _ _
      | decide
      | ((with_reducible refine Moves.p_put (n := 9) ?_ ?_ ?_ ?_); (first | rfl | assumption | (dsimp only [F.QCTL_C_SHADOW_STAT_CORE]; omega)); decide; decide)
      | ((with_reducible refine Moves.p_inc (n := 9) ?_ ?_ ?_ ?_); (first | rfl | assumption | (dsimp only [F.QCTL_C_SHADOW_STAT_MISMATCH]; omega)); decide; decide)
      | ((with_reducible refine Moves.p_raiseMs (n := 9) ?_ ?_ ?_ ?_); (first | rfl | (split <;> rfl)); decide; decide)
      | with_reducible apply Moves.ite
      | extract_lets
      | with_reducible apply Moves.step (State.setCluster_moves ..)
      | split
      | (with_reducible refine Moves.snd (by assumption) ?_)
      | (with_reducible refine Moves.fst (by assumption) ?_)
      | (with_reducible refine Moves.trd (by assumption) ?_)
      | dsimp +zetaDelta only
  | succ _ ih =>
    unfold State.shadowCompare
    repeat' first
      | with_reducible assumption
      | with_reducible exact Moves.refl _ _
      | decide
      | with_reducible apply Moves.step (ih ..)
      | ((with_reducible refine Moves.p_put (n := 9) ?_ ?_ ?_ ?_); (first | rfl | assumption | (dsimp only [F.QCTL_C_SHADOW_STAT_CORE]; omega)); decide; decide)
      | ((with_reducible refine Moves.p_inc (n := 9) ?_ ?_ ?_ ?_); (first | rfl | assumption | (dsimp only [F.QCTL_C_SHADOW_STAT_MISMATCH]; omega)); decide; decide)
      | ((with_reducible refine Moves.p_raiseMs (n := 9) ?_ ?_ ?_ ?_); (first | rfl | (split <;> rfl)); decide; decide)
      | with_reducible apply Moves.ite
      | extract_lets
      | with_reducible apply Moves.step (State.setCluster_moves ..)
      | split
      | (with_reducible refine Moves.snd (by assumption) ?_)
      | (with_reducible refine Moves.fst (by assumption) ?_)
      | (with_reducible refine Moves.trd (by assumption) ?_)
      | dsimp +zetaDelta only

theorem State.shadowOut_moves (s : State) (c : Nat) (own : Bool) (v : Vec) : Moves 0x80024028c002422 s (State.shadowOut s c own v) := by
  unfold State.shadowOut
  repeat' first
    | with_reducible assumption
    | with_reducible exact Moves.refl _ _
    | decide
    | with_reducible apply Moves.ite
    | extract_lets
    | with_reducible apply Moves.step (State.shadowCompare_moves ..)
    | with_reducible apply Moves.step (State.setCluster_moves ..)
    | split
    | (with_reducible refine Moves.snd (by assumption) ?_)
    | (with_reducible refine Moves.fst (by assumption) ?_)
    | (with_reducible refine Moves.trd (by assumption) ?_)
    | dsimp +zetaDelta only

theorem State.layerOut_moves (s : State) (l : Nat) (u : QUnit) (v : Vec) : Moves 0x80400 s (State.layerOut s l u v) := by
  unfold State.layerOut
  simp -zeta only [State.upd_quay]
  repeat' first
    | with_reducible assumption
    | with_reducible exact Moves.refl _ _
    | decide
    | intro _
    | with_reducible apply Moves.ite
    | extract_lets
    | rw [State.upd_quay]
    | with_reducible apply Moves.step (State.with_quay_moves ..)
    | with_reducible apply Moves.step (State.gaugeTap_moves ..)
    | with_reducible apply Moves.each
    | split
    | dsimp +zetaDelta only

theorem State.antFlush_moves (s : State) (c k : Nat) : Moves 0x80029028c002522 s (State.antFlush s c k) := by
  induction k generalizing s with
  | zero =>
    unfold State.antFlush
    repeat' first
      | with_reducible assumption
      | with_reducible exact Moves.refl _ _
      | decide
      | intro _
      | extract_lets
      | rw [State.upd_quay]
      | with_reducible apply Moves.step (State.with_quay_moves ..)
      | with_reducible apply Moves.step (State.txAlignPush_moves ..)
      | with_reducible apply Moves.each
      | split
      | (with_reducible refine Moves.snd (by assumption) ?_)
      | (with_reducible refine Moves.fst (by assumption) ?_)
      | (with_reducible refine Moves.trd (by assumption) ?_)
      | dsimp +zetaDelta only
  | succ _ ih =>
    unfold State.antFlush
    repeat' first
      | with_reducible assumption
      | with_reducible exact Moves.refl _ _
      | decide
      | with_reducible apply Moves.step (ih ..)
      | intro _
      | extract_lets
      | rw [State.upd_quay]
      | with_reducible apply Moves.step (State.with_quay_moves ..)
      | with_reducible apply Moves.step (State.txAlignPush_moves ..)
      | with_reducible apply Moves.each
      | split
      | (with_reducible refine Moves.snd (by assumption) ?_)
      | (with_reducible refine Moves.fst (by assumption) ?_)
      | (with_reducible refine Moves.trd (by assumption) ?_)
      | dsimp +zetaDelta only

theorem State.antOut_moves (s : State) (a : Nat) (u : QUnit) (v : Vec) : Moves 0x80029028c002522 s (State.antOut s a u v) := by
  unfold State.antOut
  simp -zeta only [State.upd_quay]
  repeat' first
    | with_reducible assumption
    | with_reducible exact Moves.refl _ _
    | decide
    | with_reducible apply Moves.ite
    | extract_lets
    | rw [State.upd_quay]
    | with_reducible apply Moves.step (State.with_quay_moves ..)
    | with_reducible apply Moves.step (State.antFlush_moves ..)
    | split
    | dsimp +zetaDelta only

theorem State.placeOut_moves (s : State) (c : Nat) (u : QUnit) (j : Nat) (v : Vec) : Moves 0x80029028c082522 s (State.placeOut s c u j v) := by
  unfold State.placeOut
  repeat' first
    | with_reducible assumption
    | with_reducible exact Moves.refl _ _
    | decide
    | with_reducible apply Moves.ite
    | extract_lets
    | with_reducible apply Moves.step (State.layerOut_moves ..)
    | with_reducible apply Moves.step (State.antOut_moves ..)
    | split
    | dsimp +zetaDelta only

theorem State.trimUnits_moves (s : State) (q : Nat) : Moves 0x400 s (State.trimUnits s q) := by
  unfold State.trimUnits
  repeat' first
    | with_reducible assumption
    | with_reducible exact Moves.refl _ _
    | decide
    | with_reducible apply Moves.ite
    | extract_lets
    | with_reducible apply Moves.step (State.setCore_moves ..)
    | split
    | dsimp +zetaDelta only

theorem State.drained_moves (s : State) (q : Nat) : Moves 0x40008000400 s (State.drained s q) := by
  unfold State.drained
  repeat' first
    | with_reducible assumption
    | with_reducible exact Moves.refl _ _
    | decide
    | ((with_reducible refine Moves.p_putb (n := 9) ?_ ?_ ?_ ?_); (first | rfl | assumption | (dsimp only [F.QCTL_K_CTL_RUN, F.QCTL_K_STAT_RUNNING]; omega)); decide; decide)
    | with_reducible apply Moves.ite
    | extract_lets
    | with_reducible apply Moves.step (State.setCluster_moves ..)
    | split
    | dsimp +zetaDelta only

theorem State.collect_moves (s : State) (c k : Nat) : Moves 0x8002d028c082522 s (State.collect s c k) := by
  induction k generalizing s with
  | zero =>
    unfold State.collect
    repeat' first
      | with_reducible assumption
      | with_reducible exact Moves.refl _ _
      | decide
      | with_reducible apply Moves.ite
      | extract_lets
      | with_reducible apply Moves.step (State.trimUnits_moves ..)
      | with_reducible apply Moves.step (State.drained_moves ..)
      | with_reducible apply Moves.step (State.setCore_moves ..)
      | with_reducible apply Moves.step (State.shadowOut_moves ..)
      | with_reducible apply Moves.step (State.placeOut_moves ..)
      | split
      | (with_reducible refine Moves.snd (by assumption) ?_)
      | (with_reducible refine Moves.fst (by assumption) ?_)
      | (with_reducible refine Moves.trd (by assumption) ?_)
      | dsimp +zetaDelta only
  | succ _ ih =>
    unfold State.collect
    repeat' first
      | with_reducible assumption
      | with_reducible exact Moves.refl _ _
      | decide
      | with_reducible apply Moves.step (ih ..)
      | with_reducible apply Moves.ite
      | extract_lets
      | with_reducible apply Moves.step (State.trimUnits_moves ..)
      | with_reducible apply Moves.step (State.drained_moves ..)
      | with_reducible apply Moves.step (State.setCore_moves ..)
      | with_reducible apply Moves.step (State.shadowOut_moves ..)
      | with_reducible apply Moves.step (State.placeOut_moves ..)
      | split
      | (with_reducible refine Moves.snd (by assumption) ?_)
      | (with_reducible refine Moves.fst (by assumption) ?_)
      | (with_reducible refine Moves.trd (by assumption) ?_)
      | dsimp +zetaDelta only

theorem State.psumSection_moves (s : State) (l b : Nat) : Moves 0x80004000 s (State.psumSection s l b) := by
  unfold State.psumSection
  simp -zeta only [State.upd_ring]
  repeat' first
    | with_reducible assumption
    | with_reducible exact Moves.refl _ _
    | decide
    | with_reducible apply Moves.ite
    | extract_lets
    | rw [State.upd_ring]
    | with_reducible apply Moves.step (State.with_ring_moves ..)
    | with_reducible apply Moves.step (State.emit_moves ..)
    | split
    | (with_reducible refine Moves.snd (by assumption) ?_)
    | (with_reducible refine Moves.fst (by assumption) ?_)
    | (with_reducible refine Moves.trd (by assumption) ?_)
    | dsimp +zetaDelta only

theorem State.psumFlush_moves (s : State) (l b : Nat) : Moves 0x80004000 s (State.psumFlush s l b) := by
  unfold State.psumFlush
  repeat' first
    | with_reducible assumption
    | with_reducible exact Moves.refl _ _
    | decide
    | with_reducible apply Moves.ite
    | extract_lets
    | with_reducible apply Moves.step (State.psumSection_moves ..)
    | split
    | dsimp +zetaDelta only

theorem State.collect1_moves (s : State) (c k : Nat) : Moves 0x40088004400 s (State.collect1 s c k) := by
  induction k generalizing s with
  | zero =>
    unfold State.collect1
    repeat' first
      | with_reducible assumption
      | with_reducible exact Moves.refl _ _
      | decide
      | with_reducible apply Moves.ite
      | extract_lets
      | rw [State.upd_ring]
      | with_reducible apply Moves.step (State.with_ring_moves ..)
      | with_reducible apply Moves.step (State.trimUnits_moves ..)
      | with_reducible apply Moves.step (State.drained_moves ..)
      | with_reducible apply Moves.step (State.setCore_moves ..)
      | with_reducible apply Moves.step (State.psumFlush_moves ..)
      | split
      | (with_reducible refine Moves.snd (by assumption) ?_)
      | (with_reducible refine Moves.fst (by assumption) ?_)
      | (with_reducible refine Moves.trd (by assumption) ?_)
      | dsimp +zetaDelta only
  | succ _ ih =>
    unfold State.collect1
    repeat' first
      | with_reducible assumption
      | with_reducible exact Moves.refl _ _
      | decide
      | with_reducible apply Moves.step (ih ..)
      | with_reducible apply Moves.ite
      | extract_lets
      | rw [State.upd_ring]
      | with_reducible apply Moves.step (State.with_ring_moves ..)
      | with_reducible apply Moves.step (State.trimUnits_moves ..)
      | with_reducible apply Moves.step (State.drained_moves ..)
      | with_reducible apply Moves.step (State.setCore_moves ..)
      | with_reducible apply Moves.step (State.psumFlush_moves ..)
      | split
      | (with_reducible refine Moves.snd (by assumption) ?_)
      | (with_reducible refine Moves.fst (by assumption) ?_)
      | (with_reducible refine Moves.trd (by assumption) ?_)
      | dsimp +zetaDelta only

theorem State.loseUnits_moves (s : State) (q : Nat) : Moves 0x8002d028c082522 s (State.loseUnits s q) := by
  unfold State.loseUnits
  repeat' first
    | with_reducible assumption
    | with_reducible exact Moves.refl _ _
    | decide
    | ((with_reducible refine Moves.p_add (n := 9) ?_ ?_ ?_ ?_); (first | rfl | assumption | (dsimp only [F.QCTL_C_LOST_COUNT]; omega)); decide; decide)
    | intro _
    | with_reducible apply Moves.ite
    | extract_lets
    | with_reducible apply Moves.step (State.setCore_moves ..)
    | with_reducible apply Moves.step (State.placeOut_moves ..)
    | with_reducible apply Moves.each
    | split
    | dsimp +zetaDelta only

theorem State.coreStart_moves (s : State) (q : Nat) : Moves 0x40008000400 s (State.coreStart s q) := by
  unfold State.coreStart
  repeat' first
    | with_reducible assumption
    | with_reducible exact Moves.refl _ _
    | decide
    | ((with_reducible refine Moves.p_putb (n := 9) ?_ ?_ ?_ ?_); (first | rfl | assumption | (dsimp only [F.QCTL_K_STAT_FAULT, F.QCTL_K_STAT_HALTED, F.QCTL_K_STAT_RUNNING]; omega)); decide; decide)
    | ((with_reducible refine Moves.p_put (n := 9) ?_ ?_ ?_ ?_); (first | rfl | assumption | (dsimp only [F.QCTL_K_STAT_FCODE, F.QCTL_K_STAT_PC, F.QCTL_K_STAT_WAIT]; omega)); decide; decide)
    | extract_lets
    | with_reducible apply Moves.step (State.setCore_moves ..)
    | dsimp +zetaDelta only

theorem State.coreStop_moves (s : State) (q : Nat) : Moves 0x8002d028c082522 s (State.coreStop s q) := by
  unfold State.coreStop
  repeat' first
    | with_reducible assumption
    | with_reducible exact Moves.refl _ _
    | decide
    | ((with_reducible refine Moves.p_putb (n := 9) ?_ ?_ ?_ ?_); (first | rfl | assumption | (dsimp only [F.QCTL_K_STAT_RUNNING]; omega)); decide; decide)
    | ((with_reducible refine Moves.p_put (n := 9) ?_ ?_ ?_ ?_); (first | rfl | assumption | (dsimp only [F.QCTL_K_STAT_WAIT]; omega)); decide; decide)
    | with_reducible apply Moves.step (State.loseUnits_moves ..)

theorem State.cfgReject_moves (s : State) : Moves 0x80024028c002022 s (State.cfgReject s) := by
  unfold State.cfgReject
  repeat' first
    | with_reducible assumption
    | with_reducible exact Moves.refl _ _
    | decide
    | ((with_reducible refine Moves.p_inc (n := 9) ?_ ?_ ?_ ?_); (first | rfl | assumption); decide; decide)
    | ((with_reducible refine Moves.p_raiseMs (n := 9) ?_ ?_ ?_ ?_); (first | rfl | (split <;> rfl)); decide; decide)

theorem State.coreCtlWrite_moves (s : State) (q v : Nat) : Moves 0x8002d028c082522 s (State.coreCtlWrite s q v) := by
  unfold State.coreCtlWrite
  repeat' first
    | with_reducible assumption
    | with_reducible exact Moves.refl _ _
    | decide
    | ((with_reducible refine Moves.p_each_put (n := 9) ?_ ?_ ?_ ?_); (intro f hf; (try dsimp +zetaDelta only at hf); simp only [List.mem_cons, List.not_mem_nil, or_false] at hf; rcases hf with rfl | rfl | rfl | rfl <;> (dsimp only [F.QCTL_K_CTL_RUN, F.QCTL_K_CTL_START_PC, F.QCTL_K_CTL_SWAP_SAFE, F.QCTL_K_CTL_WP_EN, F.QCTL_K_CTL_WRAP]; omega)); decide; decide)
    | ((with_reducible refine Moves.p_put (n := 9) ?_ ?_ ?_ ?_); (first | rfl | assumption); decide; decide)
    | ((with_reducible refine Moves.p_putb (n := 9) ?_ ?_ ?_ ?_); (first | rfl | assumption | (dsimp only [F.QCTL_K_CTL_RUN]; omega)); decide; decide)
    | intro _
    | with_reducible apply Moves.ite
    | extract_lets
    | with_reducible apply Moves.step (State.cfgReject_moves ..)
    | with_reducible apply Moves.step (State.coreStart_moves ..)
    | with_reducible apply Moves.step (State.coreStop_moves ..)
    | with_reducible apply Moves.each
    | split
    | dsimp +zetaDelta only

theorem State.waitCount_moves (s : State) (q : Nat) : Moves 0x40008000400 s (State.waitCount s q) := by
  unfold State.waitCount
  repeat' first
    | with_reducible assumption
    | with_reducible exact Moves.refl _ _
    | decide
    | ((with_reducible refine Moves.p_add (n := 9) ?_ ?_ ?_ ?_); (first | rfl | assumption | (dsimp only [F.QCTL_K_WAIT_COUNT]; omega)); decide; decide)
    | extract_lets
    | with_reducible apply Moves.step (State.setCore_moves ..)
    | split
    | (with_reducible refine Moves.snd (by assumption) ?_)
    | (with_reducible refine Moves.fst (by assumption) ?_)
    | (with_reducible refine Moves.trd (by assumption) ?_)
    | dsimp +zetaDelta only

theorem State.coreWait_moves (s : State) (q code : Nat) : Moves 0x40008000400 s (State.coreWait s q code) := by
  unfold State.coreWait
  repeat' first
    | with_reducible assumption
    | with_reducible exact Moves.refl _ _
    | decide
    | ((with_reducible refine Moves.p_put (n := 9) ?_ ?_ ?_ ?_); (first | rfl | assumption | (dsimp only [F.QCTL_K_STAT_WAIT]; omega)); decide; decide)
    | extract_lets
    | with_reducible apply Moves.step (State.waitCount_moves ..)
    | with_reducible apply Moves.step (State.setCore_moves ..)
    | dsimp +zetaDelta only

theorem State.portsTake_moves (s : State) (q : Nat) (b : Bundle) : Moves 0x80068028c002422 s (State.portsTake s q b) := by
  unfold State.portsTake
  repeat' first
    | with_reducible assumption
    | with_reducible exact Moves.refl _ _
    | decide
    | ((with_reducible refine Moves.p_add (n := 13) ?_ ?_ ?_ ?_); (first | rfl | assumption); decide; decide)
    | ((with_reducible refine Moves.p_raiseMs (n := 13) ?_ ?_ ?_ ?_); (first | rfl | (split <;> rfl)); decide; decide)
    | with_reducible apply Moves.ite
    | extract_lets
    | with_reducible apply Moves.step (State.setCore_moves ..)
    | with_reducible apply Moves.step (State.renormSat_moves ..)
    | split
    | (with_reducible refine Moves.snd (by assumption) ?_)
    | (with_reducible refine Moves.fst (by assumption) ?_)
    | (with_reducible refine Moves.trd (by assumption) ?_)
    | dsimp +zetaDelta only

theorem State.soWrite_moves (s : State) (q port : Nat) (v : Vec) : Moves 0x8002d028c086522 s (State.soWrite s q port v) := by
  unfold State.soWrite
  repeat' first
    | with_reducible assumption
    | with_reducible exact Moves.refl _ _
    | decide
    | with_reducible apply Moves.ite
    | extract_lets
    | with_reducible apply Moves.step (State.setCore_moves ..)
    | with_reducible apply Moves.step (State.collect_moves ..)
    | with_reducible apply Moves.step (State.collect1_moves ..)
    | split
    | (with_reducible refine Moves.snd (by assumption) ?_)
    | (with_reducible refine Moves.fst (by assumption) ?_)
    | (with_reducible refine Moves.trd (by assumption) ?_)
    | dsimp +zetaDelta only

theorem State.sticky_moves (s : State) (q : Nat) (f : Field) (code : Nat) (b : Bool) (hf : f.addr / 65536 = 9) (hc : code / 256 = 9) :
    Moves 0x800240288002022 s (s.sticky q f code b) := by
  unfold State.sticky
  exact Moves.ite (Moves.p_raise (n := 9) (by rw [hc]; rfl) (by decide) (by decide)
    (Moves.p_putb hf (by decide) (by decide) (Moves.refl _ s))) (Moves.refl _ s)

theorem State.stickies_moves (s : State) (q : Nat) (wrap : Bool) (r : Computed) : Moves 0x800240288002022 s (s.stickies q wrap r) := by
  unfold State.stickies
  exact Moves.step (State.sticky_moves _ _ _ _ _ (by dsimp only [F.QCTL_K_STAT_VSAT]; omega) rfl) (by decide)
    (Moves.step (State.sticky_moves _ _ _ _ _ (by dsimp only [F.QCTL_K_STAT_WRP]; omega) rfl) (by decide)
      (Moves.step (State.sticky_moves _ _ _ _ _ (by dsimp only [F.QCTL_K_STAT_OVF]; omega) rfl) (by decide) (Moves.refl _ s)))

theorem State.coreHalt_moves (s : State) (q : Nat) : Moves 0x8002d028c082522 s (State.coreHalt s q) := by
  unfold State.coreHalt
  repeat' first
    | with_reducible assumption
    | with_reducible exact Moves.refl _ _
    | decide
    | ((with_reducible refine Moves.p_putb (n := 9) ?_ ?_ ?_ ?_); (first | rfl | assumption | (dsimp only [F.QCTL_K_STAT_HALTED]; omega)); decide; decide)
    | ((with_reducible refine Moves.p_raise (n := 9) ?_ ?_ ?_ ?_); (first | rfl | (split <;> rfl)); decide; decide)
    | with_reducible apply Moves.step (State.coreStop_moves ..)

theorem State.coreFaults_moves (s : State) (q code : Nat) : Moves 0x8002d028c082522 s (State.coreFaults s q code) := by
  unfold State.coreFaults
  repeat' first
    | with_reducible assumption
    | with_reducible exact Moves.refl _ _
    | decide
    | ((with_reducible refine Moves.p_putb (n := 9) ?_ ?_ ?_ ?_); (first | rfl | assumption | (dsimp only [F.QCTL_K_STAT_FAULT]; omega)); decide; decide)
    | ((with_reducible refine Moves.p_put (n := 9) ?_ ?_ ?_ ?_); (first | rfl | assumption | (dsimp only [F.QCTL_K_STAT_FCODE]; omega)); decide; decide)
    | ((with_reducible refine Moves.p_raise (n := 9) ?_ ?_ ?_ ?_); (first | rfl | (split <;> rfl)); decide; decide)
    | with_reducible apply Moves.step (State.waitCount_moves ..)
    | with_reducible apply Moves.step (State.coreStop_moves ..)

theorem State.coreDo_moves (s : State) (q : Nat) (b : Bundle) : Moves 0x8006d039c086522 s (State.coreDo s q b) := by
  unfold State.coreDo
  repeat' first
    | with_reducible assumption
    | with_reducible exact Moves.refl _ _
    | decide
    | ((with_reducible refine Moves.p_incWrap (n := 9) ?_ ?_ ?_ ?_); (first | rfl | assumption | (dsimp only [F.QCTL_K_STEPS_COUNT]; omega)); decide; decide)
    | ((with_reducible refine Moves.p_put (n := 9) ?_ ?_ ?_ ?_); (first | rfl | assumption | (dsimp only [F.QCTL_K_STAT_PC]; omega)); decide; decide)
    | with_reducible apply Moves.ite
    | extract_lets
    | with_reducible apply Moves.step (State.draw_moves ..)
    | with_reducible apply Moves.step (State.portsTake_moves ..)
    | with_reducible apply Moves.step (State.setCore_moves ..)
    | with_reducible apply Moves.step (State.setVecAt_moves ..)
    | with_reducible apply Moves.step (State.soWrite_moves ..)
    | with_reducible apply Moves.step (State.stickies_moves ..)
    | with_reducible apply Moves.step (State.coreHalt_moves ..)
    | split
    | (with_reducible refine Moves.snd (by assumption) ?_)
    | (with_reducible refine Moves.fst (by assumption) ?_)
    | (with_reducible refine Moves.trd (by assumption) ?_)
    | dsimp +zetaDelta only

theorem State.coreTake_moves (s : State) (q : Nat) (b : Bundle) : Moves 0x8006d039c086522 s (State.coreTake s q b) := by
  unfold State.coreTake
  repeat' first
    | with_reducible assumption
    | with_reducible exact Moves.refl _ _
    | decide
    | ((with_reducible refine Moves.p_put (n := 9) ?_ ?_ ?_ ?_); (first | rfl | assumption | (dsimp only [F.QCTL_K_STAT_WAIT]; omega)); decide; decide)
    | with_reducible apply Moves.ite
    | extract_lets
    | with_reducible apply Moves.step (State.coreFaults_moves ..)
    | with_reducible apply Moves.step (State.coreWait_moves ..)
    | with_reducible apply Moves.step (State.waitCount_moves ..)
    | with_reducible apply Moves.step (State.coreDo_moves ..)
    | split
    | dsimp +zetaDelta only

theorem State.coreStep_moves (s : State) (q opc : Nat) : Moves 0x8006d039c086522 s (State.coreStep s q opc) := by
  unfold State.coreStep
  repeat' first
    | with_reducible assumption
    | with_reducible exact Moves.refl _ _
    | decide
    | with_reducible apply Moves.ite
    | extract_lets
    | with_reducible apply Moves.step (State.coreTake_moves ..)
    | split
    | dsimp +zetaDelta only

theorem State.coreIllegal_moves (s : State) (q : Nat) : Moves 0x8006d039c086522 s (State.coreIllegal s q) := by
  unfold State.coreIllegal
  repeat' first
    | with_reducible assumption
    | with_reducible exact Moves.refl _ _
    | decide
    | with_reducible apply Moves.ite
    | extract_lets
    | with_reducible apply Moves.step (State.coreTake_moves ..)
    | split
    | dsimp +zetaDelta only

theorem State.psumTimeout_moves (s : State) (q : Nat) : Moves 0x800e002cc002462 s (State.psumTimeout s q) := by
  unfold State.psumTimeout
  repeat' first
    | with_reducible assumption
    | with_reducible exact Moves.refl _ _
    | decide
    | ((with_reducible refine Moves.p_inc (n := 13) ?_ ?_ ?_ ?_); (first | rfl | assumption); decide; decide)
    | ((with_reducible refine Moves.p_raiseMs (n := 13) ?_ ?_ ?_ ?_); (first | rfl | (split <;> rfl)); decide; decide)
    | with_reducible apply Moves.ite
    | extract_lets
    | with_reducible apply Moves.step (State.elapseTo_moves ..)
    | with_reducible apply Moves.step (State.setCore_moves ..)
    | split
    | (with_reducible refine Moves.snd (by assumption) ?_)
    | (with_reducible refine Moves.fst (by assumption) ?_)
    | (with_reducible refine Moves.trd (by assumption) ?_)
    | dsimp +zetaDelta only

theorem State.txJump_moves (s : State) (a n : Nat) : Moves 0x500 s (State.txJump s a n) := by
  unfold State.txJump
  simp -zeta only [State.upd_quay]
  repeat' first
    | with_reducible assumption
    | with_reducible exact Moves.refl _ _
    | decide
    | with_reducible apply Moves.ite
    | extract_lets
    | rw [State.upd_quay]
    | with_reducible apply Moves.step (State.with_quay_moves ..)
    | with_reducible apply Moves.step (State.setTxPath_moves ..)
    | split
    | (with_reducible refine Moves.snd (by assumption) ?_)
    | (with_reducible refine Moves.fst (by assumption) ?_)
    | (with_reducible refine Moves.trd (by assumption) ?_)
    | dsimp +zetaDelta only

theorem State.dealBegin_moves (s : State) (c n : Nat) : Moves 0x40008000500 s (State.dealBegin s c n) := by
  unfold State.dealBegin
  repeat' first
    | with_reducible assumption
    | with_reducible exact Moves.refl _ _
    | decide
    | ((with_reducible refine Moves.p_putb (n := 9) ?_ ?_ ?_ ?_); (first | rfl | assumption | (dsimp only [F.QCTL_C_STAT_RUNNING]; omega)); decide; decide)
    | intro _
    | with_reducible apply Moves.ite
    | extract_lets
    | with_reducible apply Moves.step (State.setCluster_moves ..)
    | with_reducible apply Moves.step (State.txJump_moves ..)
    | with_reducible apply Moves.each
    | split
    | dsimp +zetaDelta only

theorem State.dealStop_moves (s : State) (c : Nat) : Moves 0x40008000400 s (State.dealStop s c) := by
  unfold State.dealStop
  repeat' first
    | with_reducible assumption
    | with_reducible exact Moves.refl _ _
    | decide
    | ((with_reducible refine Moves.p_putb (n := 9) ?_ ?_ ?_ ?_); (first | rfl | assumption | (dsimp only [F.QCTL_C_STAT_RUNNING]; omega)); decide; decide)
    | with_reducible apply Moves.step (State.setCluster_moves ..)

theorem State.dealCheck_moves (s : State) (c : Nat) : Moves 0x40008000500 s (State.dealCheck s c) := by
  unfold State.dealCheck
  repeat' first
    | with_reducible assumption
    | with_reducible exact Moves.refl _ _
    | decide
    | with_reducible apply Moves.ite
    | extract_lets
    | with_reducible apply Moves.step (State.dealBegin_moves ..)
    | with_reducible apply Moves.step (State.dealStop_moves ..)
    | split
    | dsimp +zetaDelta only

theorem State.dealCheckAll_moves (s : State) : Moves 0x40008000500 s (State.dealCheckAll s) := by
  unfold State.dealCheckAll
  repeat' first
    | with_reducible assumption
    | with_reducible exact Moves.refl _ _
    | decide
    | intro _
    | with_reducible apply Moves.step (State.dealCheck_moves ..)
    | with_reducible apply Moves.each

theorem State.quayChainStart_moves (s : State) (dir : Nat) : Moves 0x40008000500 s (State.quayChainStart s dir) := by
  unfold State.quayChainStart
  simp -zeta only [State.upd_quay]
  repeat' first
    | with_reducible assumption
    | with_reducible exact Moves.refl _ _
    | decide
    | intro _
    | with_reducible apply Moves.ite
    | extract_lets
    | rw [State.upd_quay]
    | with_reducible apply Moves.step (State.with_quay_moves ..)
    | with_reducible apply Moves.step (State.dealStop_moves ..)
    | with_reducible apply Moves.step (State.dealBegin_moves ..)
    | with_reducible apply Moves.each
    | split
    | dsimp +zetaDelta only

theorem State.dealTo_moves (s : State) (q : Nat) (u : QUnit) (vs : List Vec) : Moves 0x8002d028c086522 s (State.dealTo s q u vs) := by
  unfold State.dealTo
  repeat' first
    | with_reducible assumption
    | with_reducible exact Moves.refl _ _
    | decide
    | extract_lets
    | with_reducible apply Moves.step (State.setCore_moves ..)
    | with_reducible apply Moves.step (State.collect_moves ..)
    | with_reducible apply Moves.step (State.collect1_moves ..)
    | dsimp +zetaDelta only

theorem State.dealUnit_moves (s : State) (c : Nat) (u : QUnit) (vs : List Vec) : Moves 0x8002d028c086522 s (State.dealUnit s c u vs) := by
  unfold State.dealUnit
  repeat' first
    | with_reducible assumption
    | with_reducible exact Moves.refl _ _
    | decide
    | ((with_reducible refine Moves.p_inc (n := 9) ?_ ?_ ?_ ?_); (first | rfl | assumption | (dsimp only [F.QCTL_C_LOST_COUNT]; omega)); decide; decide)
    | intro _
    | with_reducible apply Moves.ite
    | extract_lets
    | with_reducible apply Moves.step (State.placeOut_moves ..)
    | with_reducible apply Moves.step (State.setCluster_moves ..)
    | with_reducible apply Moves.step (State.dealTo_moves ..)
    | with_reducible apply Moves.each
    | split
    | (with_reducible refine Moves.snd (by assumption) ?_)
    | (with_reducible refine Moves.fst (by assumption) ?_)
    | (with_reducible refine Moves.trd (by assumption) ?_)
    | dsimp +zetaDelta only

theorem State.layerTap_moves (s : State) (l n : Nat) (v : Vec) : Moves 0x80400 s (State.layerTap s l n v) := by
  unfold State.layerTap
  simp -zeta only [State.upd_quay]
  repeat' first
    | with_reducible assumption
    | with_reducible exact Moves.refl _ _
    | decide
    | intro _
    | with_reducible apply Moves.ite
    | extract_lets
    | rw [State.upd_quay]
    | with_reducible apply Moves.step (State.with_quay_moves ..)
    | with_reducible apply Moves.step (State.gaugeTap_moves ..)
    | with_reducible apply Moves.each
    | split
    | dsimp +zetaDelta only

theorem State.antTrim_moves (s : State) : Moves 0x400 s (State.antTrim s) := by
  unfold State.antTrim
  simp -zeta only [State.upd_quay]
  repeat' first
    | with_reducible assumption
    | with_reducible exact Moves.refl _ _
    | decide
    | extract_lets
    | rw [State.upd_quay]
    | with_reducible apply Moves.step (State.with_quay_moves ..)
    | split
    | (with_reducible refine Moves.snd (by assumption) ?_)
    | (with_reducible refine Moves.fst (by assumption) ?_)
    | (with_reducible refine Moves.trd (by assumption) ?_)
    | dsimp +zetaDelta only

theorem State.antPush_moves (s : State) (p : Nat) (y : RxSample) : Moves 0x400 s (State.antPush s p y) := by
  unfold State.antPush
  repeat' first
    | with_reducible assumption
    | with_reducible exact Moves.refl _ _
    | decide
    | with_reducible apply Moves.ite
    | rw [State.upd_quay]
    | with_reducible apply Moves.step (State.with_quay_moves ..)
    | split

theorem State.dealBlock_moves (s : State) (c n : Nat) : Moves 0x8006d028c086522 s (State.dealBlock s c n) := by
  unfold State.dealBlock
  repeat' first
    | with_reducible assumption
    | with_reducible exact Moves.refl _ _
    | decide
    | ((with_reducible refine Moves.p_add (n := 13) ?_ ?_ ?_ ?_); (first | rfl | assumption); decide; decide)
    | intro _
    | with_reducible apply Moves.ite
    | extract_lets
    | with_reducible apply Moves.step (State.dealUnit_moves ..)
    | with_reducible apply Moves.step (State.layerTap_moves ..)
    | with_reducible apply Moves.each
    | with_reducible apply Moves.foldl
    | with_reducible apply Moves.foldlFst
    | with_reducible apply Moves.foldlSnd
    | split
    | dsimp +zetaDelta only

theorem State.quayDeal_moves (s0 : State) (c : Nat) : Moves 0x800ed02cc086562 s0 (State.quayDeal s0 c) := by
  unfold State.quayDeal
  repeat' first
    | with_reducible assumption
    | with_reducible exact Moves.refl _ _
    | decide
    | intro _
    | with_reducible apply Moves.ite
    | extract_lets
    | with_reducible apply Moves.step (State.dealCheck_moves ..)
    | with_reducible apply Moves.step (State.reachAbs_moves ..)
    | with_reducible apply Moves.step (State.dealBlock_moves ..)
    | with_reducible apply Moves.step (State.setCluster_moves ..)
    | with_reducible apply Moves.step (State.antTrim_moves ..)
    | split
    | dsimp +zetaDelta only

theorem State.shadowStop_moves (s : State) (c : Nat) : Moves 0x8002d028c082522 s (State.shadowStop s c) := by
  unfold State.shadowStop
  repeat' first
    | with_reducible assumption
    | with_reducible exact Moves.refl _ _
    | decide
    | extract_lets
    | with_reducible apply Moves.step (State.coreStop_moves ..)
    | with_reducible apply Moves.step (State.setCluster_moves ..)
    | split
    | (with_reducible refine Moves.snd (by assumption) ?_)
    | (with_reducible refine Moves.fst (by assumption) ?_)
    | (with_reducible refine Moves.trd (by assumption) ?_)
    | dsimp +zetaDelta only

theorem State.clusterCtlWrite_moves (s : State) (c v : Nat) : Moves 0x8002d028c082522 s (State.clusterCtlWrite s c v) := by
  unfold State.clusterCtlWrite
  repeat' first
    | with_reducible assumption
    | with_reducible exact Moves.refl _ _
    | decide
    | ((with_reducible refine Moves.p_each_put (n := 9) ?_ ?_ ?_ ?_); (intro f hf; (try dsimp +zetaDelta only at hf); simp only [List.mem_cons, List.not_mem_nil, or_false] at hf; rcases hf with rfl | rfl | rfl <;> (dsimp only [F.QCTL_C_CTL_DIR, F.QCTL_C_CTL_OUT_VEC, F.QCTL_C_CTL_RUN, F.QCTL_C_CTL_SHADOW]; omega)); decide; decide)
    | ((with_reducible refine Moves.p_put (n := 9) ?_ ?_ ?_ ?_); (first | rfl | assumption); decide; decide)
    | ((with_reducible refine Moves.p_putb (n := 9) ?_ ?_ ?_ ?_); (first | rfl | assumption | (dsimp only [F.QCTL_C_CTL_RUN]; omega)); decide; decide)
    | intro _
    | with_reducible apply Moves.ite
    | extract_lets
    | with_reducible apply Moves.step (State.cfgReject_moves ..)
    | with_reducible apply Moves.step (State.dealCheck_moves ..)
    | with_reducible apply Moves.step (State.shadowStop_moves ..)
    | with_reducible apply Moves.each
    | split
    | dsimp +zetaDelta only

theorem State.clusterMapWrite_moves (s : State) (c v : Nat) : Moves 0x80024028c002022 s (State.clusterMapWrite s c v) := by
  unfold State.clusterMapWrite
  repeat' first
    | with_reducible assumption
    | with_reducible exact Moves.refl _ _
    | decide
    | ((with_reducible refine Moves.p_each_put (n := 9) ?_ ?_ ?_ ?_); (intro f hf; (try dsimp +zetaDelta only at hf); simp only [List.mem_cons, List.not_mem_nil, or_false] at hf; rcases hf with rfl | rfl | rfl | rfl <;> (dsimp only [F.QCTL_C_CTL_RUN, F.QCTL_C_MAP_IN_BASE, F.QCTL_C_MAP_IN_VEC, F.QCTL_C_MAP_OUT_BASE, F.QCTL_C_MAP_UNITS]; omega)); decide; decide)
    | ((with_reducible refine Moves.p_put (n := 9) ?_ ?_ ?_ ?_); (first | rfl | assumption); decide; decide)
    | intro _
    | with_reducible apply Moves.ite
    | with_reducible apply Moves.step (State.cfgReject_moves ..)
    | with_reducible apply Moves.each
    | split

theorem State.quayWindowWrite_moves (s : State) (a v : Nat) : Moves 0x80024029c002022 s (State.quayWindowWrite s a v) := by
  unfold State.quayWindowWrite
  repeat' first
    | with_reducible assumption
    | with_reducible exact Moves.refl _ _
    | decide
    | with_reducible apply Moves.ite
    | extract_lets
    | with_reducible apply Moves.step (State.cfgReject_moves ..)
    | with_reducible apply Moves.step (State.setMemWord_moves ..)
    | split
    | dsimp +zetaDelta only

theorem State.shadowTurn_moves (s0 : State) (c : Nat) : Moves 0x800ad02dc082562 s0 (State.shadowTurn s0 c) := by
  unfold State.shadowTurn
  repeat' first
    | with_reducible assumption
    | with_reducible exact Moves.refl _ _
    | decide
    | with_reducible apply Moves.ite
    | extract_lets
    | with_reducible apply Moves.step (State.elapseTo_moves ..)
    | with_reducible apply Moves.step (State.shadowStop_moves ..)
    | with_reducible apply Moves.step (State.copyCore_moves ..)
    | with_reducible apply Moves.step (State.setCluster_moves ..)
    | with_reducible apply Moves.step (State.coreStart_moves ..)
    | split
    | (with_reducible refine Moves.snd (by assumption) ?_)
    | (with_reducible refine Moves.fst (by assumption) ?_)
    | (with_reducible refine Moves.trd (by assumption) ?_)
    | dsimp +zetaDelta only

theorem State.swapGo_moves (s : State) (c inn out : Nat) : Moves 0x8002d029c082522 s (State.swapGo s c inn out) := by
  unfold State.swapGo
  repeat' first
    | with_reducible assumption
    | with_reducible exact Moves.refl _ _
    | decide
    | ((with_reducible refine Moves.p_put (n := 9) ?_ ?_ ?_ ?_); (first | rfl | assumption | (dsimp only [F.QCTL_C_SWAP_STAT_RESULT, F.QCTL_K_CTL_START_PC, F.QCTL_K_CTL_WP_EN, F.QCTL_K_CTL_WRAP]; omega)); decide; decide)
    | ((with_reducible refine Moves.p_raise (n := 9) ?_ ?_ ?_ ?_); (first | rfl | (split <;> rfl)); decide; decide)
    | ((with_reducible refine Moves.p_putb (n := 9) ?_ ?_ ?_ ?_); (first | rfl | assumption | (dsimp only [F.QCTL_C_SWAP_STAT_BUSY, F.QCTL_K_CTL_RUN]; omega)); decide; decide)
    | with_reducible apply Moves.ite
    | extract_lets
    | with_reducible apply Moves.step (State.shadowStop_moves ..)
    | with_reducible apply Moves.step (State.copyCore_moves ..)
    | with_reducible apply Moves.step (State.coreStart_moves ..)
    | with_reducible apply Moves.step (State.setCluster_moves ..)
    | split
    | dsimp +zetaDelta only

theorem State.quaySwitched_moves (s : State) (dir t : Nat) : Moves 0x400 s (State.quaySwitched s dir t) := by
  unfold State.quaySwitched
  repeat' first
    | with_reducible assumption
    | with_reducible exact Moves.refl _ _
    | decide
    | intro _
    | with_reducible apply Moves.ite
    | extract_lets
    | with_reducible apply Moves.step (State.setCluster_moves ..)
    | with_reducible apply Moves.each
    | split
    | (with_reducible refine Moves.snd (by assumption) ?_)
    | (with_reducible refine Moves.fst (by assumption) ?_)
    | (with_reducible refine Moves.trd (by assumption) ?_)
    | dsimp +zetaDelta only

theorem State.swapSwitch_moves (s0 : State) (c : Nat) : Moves 0x900a402c8402462 s0 (State.swapSwitch s0 c) := by
  unfold State.swapSwitch
  repeat' first
    | with_reducible assumption
    | with_reducible exact Moves.refl _ _
    | decide
    | ((with_reducible refine Moves.p_putb (n := 9) ?_ ?_ ?_ ?_); (first | rfl | assumption | (dsimp only [F.QCTL_C_SWAP_STAT_BUSY]; omega)); decide; decide)
    | ((with_reducible refine Moves.p_put (n := 9) ?_ ?_ ?_ ?_); (first | rfl | assumption | (dsimp only [F.QCTL_C_RET_CORES, F.QCTL_C_RSV_CORES, F.QCTL_C_STAT_CORES]; omega)); decide; decide)
    | ((with_reducible refine Moves.p_raise (n := 9) ?_ ?_ ?_ ?_); (first | rfl | (split <;> rfl)); decide; decide)
    | with_reducible apply Moves.ite
    | extract_lets
    | with_reducible apply Moves.step (State.elapseTo_moves ..)
    | with_reducible apply Moves.step (State.setCluster_moves ..)
    | with_reducible apply Moves.step (State.drained_moves ..)
    | with_reducible apply Moves.step (State.regrade_moves ..)
    | split
    | (with_reducible refine Moves.snd (by assumption) ?_)
    | (with_reducible refine Moves.fst (by assumption) ?_)
    | (with_reducible refine Moves.trd (by assumption) ?_)
    | dsimp +zetaDelta only

theorem State.quayLower_moves (s : State) (c : Nat) : Moves 0x10000400 s (State.quayLower s c) := by
  unfold State.quayLower
  simp -zeta only [State.upd_quay]
  repeat' first
    | with_reducible assumption
    | with_reducible exact Moves.refl _ _
    | decide
    | extract_lets
    | rw [State.upd_quay]
    | with_reducible apply Moves.step (State.with_quay_moves ..)
    | with_reducible apply Moves.step (State.clearRange_moves ..)
    | dsimp +zetaDelta only

theorem State.quayRaise_moves (s : State) (c : Nat) : Moves 0x10000000 s (State.quayRaise s c) := by
  unfold State.quayRaise
  repeat' first
    | with_reducible assumption
    | with_reducible exact Moves.refl _ _
    | decide
    | intro _
    | extract_lets
    | with_reducible apply Moves.step (State.setMemWord_moves ..)
    | with_reducible apply Moves.each
    | dsimp +zetaDelta only

end Sys2Proof.Machine
end

