-- ==== Sys2Proof/Laws/MovesMessages.lean ====
section
/-! SUPPORT. What each operation of Machine/Messages.lean may change. -/

namespace Sys2Proof.Machine

set_option linter.all false

theorem State.placeEvent_moves (s : State) (e mask : Nat) : Moves 0x800200288002022 s (State.placeEvent s e mask) := by
  unfold State.placeEvent
  repeat' first
    | with_reducible assumption
    | with_reducible exact Moves.refl _ _
    | decide
    | ((with_reducible refine Moves.p_raise (n := 12) ?_ ?_ ?_ ?_); (first | rfl | (split <;> rfl) | (rw [show (0x0C00 + e % 16) / 256 = 12 by omega]; rfl)); decide; decide)
    | with_reducible apply Moves.ite
    | split

theorem State.placement_moves (s : State) : Moves 0x800200288002022 s (State.placement s) := by
  unfold State.placement
  simp -zeta only [State.upd_msgs]
  repeat' first
    | with_reducible assumption
    | with_reducible exact Moves.refl _ _
    | decide
    | ((with_reducible refine Moves.p_put (n := 12) ?_ ?_ ?_ ?_); (first | rfl | assumption | (dsimp only [F.FHM_B_LOAD_CAP, F.FHM_B_LOAD_LOAD, F.FHM_RX_MAP_STREAMS, F.FHM_RX_SUSP_STREAMS]; omega)); decide; decide)
    | intro _
    | extract_lets
    | rw [State.upd_msgs]
    | with_reducible apply Moves.step (State.with_msgs_moves ..)
    | with_reducible apply Moves.step (State.placeEvent_moves ..)
    | split
    | (with_reducible refine Moves.snd (by assumption) ?_)
    | (with_reducible refine Moves.fst (by assumption) ?_)
    | (with_reducible refine Moves.trd (by assumption) ?_)
    | dsimp +zetaDelta only

theorem State.fhmChainStart_moves (s : State) : Moves 0x800200288002422 s (State.fhmChainStart s) := by
  unfold State.fhmChainStart
  simp -zeta only [State.upd_msgs, State.upd_msgs_quay]
  repeat' first
    | with_reducible assumption
    | with_reducible exact Moves.refl _ _
    | decide
    | extract_lets
    | rw [State.upd_msgs]
    | with_reducible apply Moves.step (State.with_msgs_moves ..)
    | rw [State.upd_msgs_quay]
    | with_reducible apply Moves.step (State.with_msgs_quay_moves ..)
    | with_reducible apply Moves.step (State.placement_moves ..)
    | dsimp +zetaDelta only

theorem State.eventsLost_moves (s : State) : Moves 0x800200288002022 s (State.eventsLost s) := by
  unfold State.eventsLost
  repeat' first
    | with_reducible assumption
    | with_reducible exact Moves.refl _ _
    | decide
    | ((with_reducible refine Moves.p_raise (n := 12) ?_ ?_ ?_ ?_); (first | rfl | (split <;> rfl)); decide; decide)
    | with_reducible apply Moves.ite
    | rw [State.upd_msgs]
    | with_reducible apply Moves.step (State.with_msgs_moves ..)
    | split

theorem State.eventSend_moves (s : State) : Moves 0x800200288002022 s (State.eventSend s) := by
  unfold State.eventSend
  simp -zeta only [State.upd_msgs]
  repeat' first
    | with_reducible assumption
    | with_reducible exact Moves.refl _ _
    | decide
    | with_reducible apply Moves.ite
    | extract_lets
    | rw [State.upd_msgs]
    | with_reducible apply Moves.step (State.with_msgs_moves ..)
    | with_reducible apply Moves.step (State.emit_moves ..)
    | with_reducible apply Moves.step (State.eventsLost_moves ..)
    | split
    | dsimp +zetaDelta only

theorem State.evtEnWritten_moves (s : State) : Moves 0x800200288002022 s (State.evtEnWritten s) := by
  unfold State.evtEnWritten
  repeat' first
    | with_reducible assumption
    | with_reducible exact Moves.refl _ _
    | decide
    | with_reducible apply Moves.ite
    | rw [State.upd_msgs]
    | with_reducible apply Moves.step (State.with_msgs_moves ..)
    | with_reducible apply Moves.step (State.eventsLost_moves ..)
    | split

theorem State.fhmLinks_moves (s : State) : Moves 0x800200288002022 s (State.fhmLinks s) := by
  unfold State.fhmLinks
  simp -zeta only [State.upd_msgs]
  repeat' first
    | with_reducible assumption
    | with_reducible exact Moves.refl _ _
    | decide
    | ((with_reducible refine Moves.p_add (n := 12) ?_ ?_ ?_ ?_); (first | rfl | assumption); decide; decide)
    | with_reducible apply Moves.ite
    | extract_lets
    | rw [State.upd_msgs]
    | with_reducible apply Moves.step (State.with_msgs_moves ..)
    | with_reducible apply Moves.step (State.placement_moves ..)
    | with_reducible apply Moves.step (State.eventsLost_moves ..)
    | split
    | dsimp +zetaDelta only

theorem State.sectionForm_moves (s : State) (m : Nat) : Moves 0x80020028c002422 s (State.sectionForm s m) := by
  unfold State.sectionForm
  simp -zeta only [State.upd_msgs_quay]
  repeat' first
    | with_reducible assumption
    | with_reducible exact Moves.refl _ _
    | decide
    | ((with_reducible refine Moves.p_inc (n := 12) ?_ ?_ ?_ ?_); (first | rfl | assumption | (dsimp only [F.FHM_RXCNT_COUNT]; omega)); decide; decide)
    | ((with_reducible refine Moves.p_raiseMs (n := 12) ?_ ?_ ?_ ?_); (first | rfl | (split <;> rfl)); decide; decide)
    | with_reducible apply Moves.ite
    | extract_lets
    | rw [State.upd_msgs_quay]
    | with_reducible apply Moves.step (State.with_msgs_quay_moves ..)
    | with_reducible apply Moves.step (State.emit_moves ..)
    | split
    | dsimp +zetaDelta only

theorem State.rxsWritten_moves (s : State) (m : Nat) : Moves 0x800200288002422 s (State.rxsWritten s m) := by
  unfold State.rxsWritten
  simp -zeta only [State.upd_msgs, State.upd_quay]
  repeat' first
    | with_reducible assumption
    | with_reducible exact Moves.refl _ _
    | decide
    | ((with_reducible refine Moves.p_putb (n := 12) ?_ ?_ ?_ ?_); (first | rfl | assumption | (dsimp only [F.FHM_RXS_CFG_EN]; omega)); decide; decide)
    | with_reducible apply Moves.ite
    | extract_lets
    | rw [State.upd_msgs]
    | with_reducible apply Moves.step (State.with_msgs_moves ..)
    | rw [State.upd_quay]
    | with_reducible apply Moves.step (State.with_quay_moves ..)
    | with_reducible apply Moves.step (State.placement_moves ..)
    | split
    | dsimp +zetaDelta only

theorem State.syncGrid_moves (s : State) : Moves 0x200008000000 s (State.syncGrid s) := by
  unfold State.syncGrid
  repeat' first
    | with_reducible assumption
    | with_reducible exact Moves.refl _ _
    | decide
    | ((with_reducible refine Moves.p_put64 (n := 12) ?_ ?_ ?_ ?_); (constructor <;> (first | rfl | assumption)); decide; decide)
    | with_reducible apply Moves.ite
    | split

theorem State.storeTrim_moves (s : State) : Moves 0x2000 s (State.storeTrim s) := by
  unfold State.storeTrim
  repeat' first
    | with_reducible assumption
    | with_reducible exact Moves.refl _ _
    | decide
    | rw [State.upd_msgs]
    | with_reducible apply Moves.step (State.with_msgs_moves ..)

theorem State.storePut_moves (s : State) (stream k : Nat) (data : List Cx) : Moves 0x2000 s (State.storePut s stream k data) := by
  unfold State.storePut
  simp -zeta only [State.upd_msgs]
  repeat' first
    | with_reducible assumption
    | with_reducible exact Moves.refl _ _
    | decide
    | extract_lets
    | rw [State.upd_msgs]
    | with_reducible apply Moves.step (State.with_msgs_moves ..)
    | with_reducible apply Moves.step (State.storeTrim_moves ..)
    | dsimp +zetaDelta only

theorem State.seqCheck_moves (s : State) (stream seq : Nat) : Moves 0x200008002000 s (State.seqCheck s stream seq) := by
  unfold State.seqCheck
  simp -zeta only [State.upd_msgs]
  repeat' first
    | with_reducible assumption
    | with_reducible exact Moves.refl _ _
    | decide
    | ((with_reducible refine Moves.p_inc (n := 12) ?_ ?_ ?_ ?_); (first | rfl | assumption); decide; decide)
    | with_reducible apply Moves.ite
    | extract_lets
    | rw [State.upd_msgs]
    | with_reducible apply Moves.step (State.with_msgs_moves ..)
    | split
    | (with_reducible refine Moves.snd (by assumption) ?_)
    | (with_reducible refine Moves.fst (by assumption) ?_)
    | (with_reducible refine Moves.trd (by assumption) ?_)
    | dsimp +zetaDelta only

theorem State.txOutcome_moves (s : State) (c : Nat) : Moves 0x80020028c002022 s (State.txOutcome s c) := by
  unfold State.txOutcome
  repeat' first
    | with_reducible assumption
    | with_reducible exact Moves.refl _ _
    | decide
    | ((with_reducible refine Moves.p_inc (n := 12) ?_ ?_ ?_ ?_); (first | rfl | assumption | (dsimp only [F.FHM_TXCNT_COUNT]; omega)); decide; decide)
    | ((with_reducible refine Moves.p_raiseMs (n := 12) ?_ ?_ ?_ ?_); (first | rfl | (split <;> rfl)); decide; decide)
    | with_reducible apply Moves.ite
    | extract_lets
    | split
    | dsimp +zetaDelta only

theorem State.txSection_moves (s : State) (b : Nat) (payload : List Byte) : Moves 0x80020028c002022 s (State.txSection s b payload) := by
  unfold State.txSection
  repeat' first
    | with_reducible assumption
    | with_reducible exact Moves.refl _ _
    | decide
    | ((with_reducible refine Moves.p_inc (n := 12) ?_ ?_ ?_ ?_); (first | rfl | assumption | (dsimp only [F.FHM_TXCNT_COUNT]; omega)); decide; decide)
    | ((with_reducible refine Moves.p_raiseMs (n := 12) ?_ ?_ ?_ ?_); (first | rfl | (split <;> rfl)); decide; decide)
    | with_reducible apply Moves.ite
    | extract_lets
    | with_reducible apply Moves.step (State.txOutcome_moves ..)
    | with_reducible apply Moves.step (State.seqCheck_moves ..)
    | with_reducible apply Moves.step (State.storePut_moves ..)
    | split
    | (with_reducible refine Moves.snd (by assumption) ?_)
    | (with_reducible refine Moves.fst (by assumption) ?_)
    | (with_reducible refine Moves.trd (by assumption) ?_)
    | dsimp +zetaDelta only

theorem State.rtcReply_moves (s : State) (b cmd flags seq result : Nat) (body : List Byte) : Moves 0x80000000 s (State.rtcReply s b cmd flags seq result body) := by
  unfold State.rtcReply
  repeat' first
    | with_reducible assumption
    | with_reducible exact Moves.refl _ _
    | decide
    | with_reducible apply Moves.ite
    | with_reducible apply Moves.step (State.emit_moves ..)
    | split

theorem State.rtcAnswer_moves (s : State) (b cmd flags seq result : Nat) (body : List Byte) : Moves 0x80020028c002022 s (State.rtcAnswer s b cmd flags seq result body) := by
  unfold State.rtcAnswer
  repeat' first
    | with_reducible assumption
    | with_reducible exact Moves.refl _ _
    | decide
    | ((with_reducible refine Moves.p_raiseMs (n := 12) ?_ ?_ ?_ ?_); (first | rfl | (split <;> rfl)); decide; decide)
    | with_reducible apply Moves.ite
    | with_reducible apply Moves.step (State.rtcReply_moves ..)
    | split

theorem State.rtcForward_moves (s : State) (cmd flags : Nat) (body : List Byte) : Moves 0x80000000 s (State.rtcForward s cmd flags body) := by
  unfold State.rtcForward
  repeat' first
    | with_reducible assumption
    | with_reducible exact Moves.refl _ _
    | decide
    | with_reducible apply Moves.ite
    | with_reducible apply Moves.step (State.emit_moves ..)
    | split

theorem State.rtc_moves {M : Nat} {s0 s : State} {b cmd flags seq : Nat} {body : List Byte} {len : Nat} {act : State → Nat × State}
    (hm : 0xc0020028c002022 ||| M = M) (ha : ∀ t, Moves M s0 t → Moves M s0 (act t).2) (h : Moves M s0 s) :
    Moves M s0 (s.rtc b cmd flags seq body len act) := by
  unfold State.rtc
  split
  · exact h
  · split
    next r t e =>
      have ht : Moves M s0 t := Moves.snd e (by
        split
        · exact h
        · split
          · exact h
          · exact ha s h)
      split
      · exact Moves.step (State.rtcReply_moves ..) (sub_trans (by decide) hm)
          (Moves.step (State.violation_moves ..) (sub_trans (by decide) hm) h)
      · refine Moves.step (State.rtcAnswer_moves ..) (sub_trans (by decide) hm) ?_
        split
        · exact Moves.step (State.rtcForward_moves ..) (sub_trans (by decide) hm) ht
        · exact ht

theorem State.rtcAdd_moves (s : State) (b flags seq : Nat) (body : List Byte) : Moves 0xc0028028c002822 s (State.rtcAdd s b flags seq body) := by
  unfold State.rtcAdd
  repeat' first
    | with_reducible assumption
    | with_reducible exact Moves.refl _ _
    | decide
    | intro _
    | with_reducible apply State.rtc_moves
    | with_reducible apply Moves.step (State.schedAdd_moves ..)

theorem State.rtcCancel_moves (s : State) (b flags seq : Nat) (body : List Byte) : Moves 0xc0028028c002822 s (State.rtcCancel s b flags seq body) := by
  unfold State.rtcCancel
  repeat' first
    | with_reducible assumption
    | with_reducible exact Moves.refl _ _
    | decide
    | intro _
    | with_reducible apply Moves.ite
    | extract_lets
    | with_reducible apply State.rtc_moves
    | with_reducible apply Moves.step (State.schedCancel_moves ..)
    | split
    | dsimp +zetaDelta only

theorem State.rtcFlush_moves (s : State) (b flags seq : Nat) (body : List Byte) : Moves 0xc0028028c002822 s (State.rtcFlush s b flags seq body) := by
  unfold State.rtcFlush
  repeat' first
    | with_reducible assumption
    | with_reducible exact Moves.refl _ _
    | decide
    | intro _
    | with_reducible apply Moves.ite
    | with_reducible apply State.rtc_moves
    | with_reducible apply Moves.step (State.schedFlush_moves ..)
    | split

theorem State.syncGaps_moves (s : State) : Moves 0x200008000000 s (State.syncGaps s) := by
  unfold State.syncGaps
  repeat' first
    | with_reducible assumption
    | with_reducible exact Moves.refl _ _
    | decide
    | ((with_reducible refine Moves.p_put (n := 12) ?_ ?_ ?_ ?_); (first | rfl | assumption); decide; decide)
    | ((with_reducible refine Moves.p_putb (n := 12) ?_ ?_ ?_ ?_); (first | rfl | assumption); decide; decide)
    | extract_lets
    | split
    | (with_reducible refine Moves.snd (by assumption) ?_)
    | (with_reducible refine Moves.fst (by assumption) ?_)
    | (with_reducible refine Moves.trd (by assumption) ?_)
    | dsimp +zetaDelta only

theorem State.setGaps_moves (s : State) (l : List Gap) : Moves 0x200008002000 s (State.setGaps s l) := by
  unfold State.setGaps
  repeat' first
    | with_reducible assumption
    | with_reducible exact Moves.refl _ _
    | decide
    | rw [State.upd_msgs]
    | with_reducible apply Moves.step (State.with_msgs_moves ..)
    | with_reducible apply Moves.step (State.syncGaps_moves ..)

theorem State.gapGrant_moves (s : State) (lo : Stamp) (us quads : Nat) : Moves 0x200008002000 s (State.gapGrant s lo us quads).2 := by
  unfold State.gapGrant
  repeat' first
    | with_reducible assumption
    | with_reducible exact Moves.refl _ _
    | decide
    | with_reducible apply Moves.ite
    | extract_lets
    | with_reducible apply Moves.step (State.setGaps_moves ..)
    | split
    | dsimp +zetaDelta only

theorem State.rtcGrant_moves (s : State) (b flags seq : Nat) (body : List Byte) : Moves 0xc0020028c002022 s (State.rtcGrant s b flags seq body) := by
  unfold State.rtcGrant
  repeat' first
    | with_reducible assumption
    | with_reducible exact Moves.refl _ _
    | decide
    | intro _
    | with_reducible apply Moves.ite
    | extract_lets
    | with_reducible apply State.rtc_moves
    | with_reducible apply Moves.step (State.gapGrant_moves ..)
    | split
    | dsimp +zetaDelta only

theorem State.gapRevoke_moves (s : State) (lo : Stamp) : Moves 0x200008002000 s (State.gapRevoke s lo).2 := by
  unfold State.gapRevoke
  repeat' first
    | with_reducible assumption
    | with_reducible exact Moves.refl _ _
    | decide
    | with_reducible apply Moves.ite
    | with_reducible apply Moves.step (State.setGaps_moves ..)
    | split
    | (with_reducible refine Moves.snd (by assumption) ?_)
    | (with_reducible refine Moves.fst (by assumption) ?_)
    | (with_reducible refine Moves.trd (by assumption) ?_)

theorem State.rtcRevoke_moves (s : State) (b flags seq : Nat) (body : List Byte) : Moves 0xc0020028c002022 s (State.rtcRevoke s b flags seq body) := by
  unfold State.rtcRevoke
  repeat' first
    | with_reducible assumption
    | with_reducible exact Moves.refl _ _
    | decide
    | intro _
    | with_reducible apply Moves.ite
    | extract_lets
    | with_reducible apply State.rtc_moves
    | with_reducible apply Moves.step (State.gapRevoke_moves ..)
    | split
    | dsimp +zetaDelta only

theorem State.rtcNco_moves (s : State) (b flags seq : Nat) (body : List Byte) : Moves 0xc0021428c0021a2 s (State.rtcNco s b flags seq body) := by
  unfold State.rtcNco
  repeat' first
    | with_reducible assumption
    | with_reducible exact Moves.refl _ _
    | decide
    | ((with_reducible refine Moves.p_put48 (n := 5) ?_ ?_ ?_ ?_); (constructor <;> (first | rfl | assumption)); decide; decide)
    | ((with_reducible refine Moves.p_put64 (n := 5) ?_ ?_ ?_ ?_); (constructor <;> (first | rfl | assumption)); decide; decide)
    | ((with_reducible refine Moves.p_putb (n := 5) ?_ ?_ ?_ ?_); (first | rfl | assumption); decide; decide)
    | ((with_reducible refine Moves.p_put48 (n := 7) ?_ ?_ ?_ ?_); (constructor <;> (first | rfl | assumption)); decide; decide)
    | ((with_reducible refine Moves.p_put64 (n := 7) ?_ ?_ ?_ ?_); (constructor <;> (first | rfl | assumption)); decide; decide)
    | ((with_reducible refine Moves.p_putb (n := 7) ?_ ?_ ?_ ?_); (first | rfl | assumption); decide; decide)
    | intro _
    | with_reducible apply Moves.ite
    | extract_lets
    | with_reducible apply State.rtc_moves
    | with_reducible apply Moves.step (State.rxNcoGo_moves ..)
    | with_reducible apply Moves.step (State.txNcoGo_moves ..)
    | split
    | (with_reducible refine Moves.snd (by assumption) ?_)
    | (with_reducible refine Moves.fst (by assumption) ?_)
    | (with_reducible refine Moves.trd (by assumption) ?_)
    | dsimp +zetaDelta only

theorem State.rtcSyn_moves (s : State) (b flags seq : Nat) (body : List Byte) : Moves 0xc0020aa8c0021aa s (State.rtcSyn s b flags seq body) := by
  unfold State.rtcSyn
  repeat' first
    | with_reducible assumption
    | with_reducible exact Moves.refl _ _
    | decide
    | ((with_reducible refine Moves.p_put (n := 2) ?_ ?_ ?_ ?_); (first | rfl | assumption | (dsimp only [F.CLK_SYN_CTL_DIV, F.CLK_SYN_CTL_N]; omega)); decide; decide)
    | ((with_reducible refine Moves.p_putb (n := 2) ?_ ?_ ?_ ?_); (first | rfl | assumption | (dsimp only [F.CLK_SYN_CTL_ARM]; omega)); decide; decide)
    | ((with_reducible refine Moves.p_put64 (n := 2) ?_ ?_ ?_ ?_); (constructor <;> (first | rfl | assumption | (dsimp only [F.CLK_SYN_AT_HI_STAMP, F.CLK_SYN_AT_LO_STAMP]; omega))); decide; decide)
    | intro _
    | with_reducible apply Moves.ite
    | extract_lets
    | with_reducible apply State.rtc_moves
    | with_reducible apply Moves.step (State.synCommand_moves ..)
    | split
    | (with_reducible refine Moves.snd (by assumption) ?_)
    | (with_reducible refine Moves.fst (by assumption) ?_)
    | (with_reducible refine Moves.trd (by assumption) ?_)
    | dsimp +zetaDelta only

theorem State.rtcUnknown_moves (s : State) (b cmd flags seq : Nat) (body : List Byte) : Moves 0x80020028c002022 s (State.rtcUnknown s b cmd flags seq body) := by
  unfold State.rtcUnknown
  repeat' first
    | with_reducible assumption
    | with_reducible exact Moves.refl _ _
    | decide
    | with_reducible apply Moves.ite
    | with_reducible apply Moves.step (State.rtcAnswer_moves ..)
    | split

theorem State.gapBegin_moves (s : State) : Moves 0xa8a0480029c0 s (State.gapBegin s) := by
  unfold State.gapBegin
  repeat' first
    | with_reducible assumption
    | with_reducible exact Moves.refl _ _
    | decide
    | intro _
    | with_reducible apply Moves.ite
    | extract_lets
    | with_reducible apply Moves.step (State.reach_moves ..)
    | with_reducible apply Moves.step (State.setGaps_moves ..)
    | with_reducible apply Moves.step (State.rxCalStart_moves ..)
    | with_reducible apply Moves.step (State.txCalStart_moves ..)
    | with_reducible apply Moves.step (State.bcalStart_moves ..)
    | split
    | (with_reducible refine Moves.snd (by assumption) ?_)
    | (with_reducible refine Moves.fst (by assumption) ?_)
    | (with_reducible refine Moves.trd (by assumption) ?_)
    | dsimp +zetaDelta only

theorem State.gapEnd_moves (s : State) : Moves 0xa00048002040 s (State.gapEnd s) := by
  unfold State.gapEnd
  repeat' first
    | with_reducible assumption
    | with_reducible exact Moves.refl _ _
    | decide
    | intro _
    | extract_lets
    | with_reducible apply Moves.step (State.reach_moves ..)
    | with_reducible apply Moves.step (State.setGaps_moves ..)
    | split
    | (with_reducible refine Moves.snd (by assumption) ?_)
    | (with_reducible refine Moves.fst (by assumption) ?_)
    | (with_reducible refine Moves.trd (by assumption) ?_)
    | dsimp +zetaDelta only

theorem State.fhmLeaveRun_moves (s : State) : Moves 0x200008002400 s (State.fhmLeaveRun s) := by
  unfold State.fhmLeaveRun
  simp -zeta only [State.upd_msgs_quay]
  repeat' first
    | with_reducible assumption
    | with_reducible exact Moves.refl _ _
    | decide
    | extract_lets
    | rw [State.upd_msgs_quay]
    | with_reducible apply Moves.step (State.with_msgs_quay_moves ..)
    | with_reducible apply Moves.step (State.setGaps_moves ..)
    | dsimp +zetaDelta only

theorem State.fhmClear_moves (s : State) : Moves 0x200008000000 s (State.fhmClear s) := by
  unfold State.fhmClear
  repeat' first
    | with_reducible assumption
    | with_reducible exact Moves.refl _ _
    | decide
    | ((with_reducible refine Moves.p_put (n := 12) ?_ ?_ ?_ ?_); (first | rfl | assumption | (dsimp only [F.FHM_B_ERR_COUNT, F.FHM_EVT_LOST_COUNT, F.FHM_RXCNT_COUNT, F.FHM_TXCNT_COUNT, F.FHM_TX_SEQGAP_COUNT]; omega)); decide; decide)
    | intro _
    | extract_lets
    | with_reducible apply Moves.each
    | dsimp +zetaDelta only

end Sys2Proof.Machine
end

