-- ==== Sys2Proof/Laws/MovesChains.lean ====
section
/-! SUPPORT. What each operation of Machine/Chains.lean may change. -/

namespace Sys2Proof.Machine

set_option linter.all false

theorem State.rxChains_moves (s : State) : Moves 0x8002442880825a2 s (State.rxChains s) := by
  unfold State.rxChains
  repeat' first
    | with_reducible assumption
    | with_reducible exact Moves.refl _ _
    | decide
    | with_reducible apply Moves.ite
    | extract_lets
    | with_reducible apply Moves.step (State.rxStart_moves ..)
    | with_reducible apply Moves.step (State.gaugeRebase_moves ..)
    | with_reducible apply Moves.step (State.fhmChainStart_moves ..)
    | with_reducible apply Moves.step (State.quayChainStart_moves ..)
    | with_reducible apply Moves.step (State.dealCheckAll_moves ..)
    | split
    | dsimp +zetaDelta only

theorem State.txChains_moves (s : State) : Moves 0x810258288086522 s (State.txChains s) := by
  unfold State.txChains
  simp -zeta only [State.upd_msgs_ring]
  repeat' first
    | with_reducible assumption
    | with_reducible exact Moves.refl _ _
    | decide
    | intro _
    | with_reducible apply Moves.ite
    | extract_lets
    | rw [State.upd_msgs_ring]
    | with_reducible apply Moves.step (State.with_msgs_ring_moves ..)
    | with_reducible apply Moves.step (State.txStart_moves ..)
    | with_reducible apply Moves.step (State.gaugeRebase_moves ..)
    | with_reducible apply Moves.step (State.quayChainStart_moves ..)
    | with_reducible apply Moves.step (State.dealCheckAll_moves ..)
    | with_reducible apply Moves.step (State.syncGrid_moves ..)
    | with_reducible apply Moves.step (State.txStop_moves ..)
    | with_reducible apply Moves.step (State.rpEnd_moves ..)
    | with_reducible apply Moves.each
    | split
    | dsimp +zetaDelta only

theorem State.retiredSync_moves (s : State) : Moves 0x90028a288402822 s (State.retiredSync s) := by
  unfold State.retiredSync
  repeat' first
    | with_reducible assumption
    | with_reducible exact Moves.refl _ _
    | decide
    | ((with_reducible refine Moves.p_putb (n := 4) ?_ ?_ ?_ ?_); (first | rfl | assumption | (dsimp only [F.RXA_P_STAT_RETIRED]; omega)); decide; decide)
    | intro _
    | with_reducible apply Moves.step (State.syncTx_moves ..)
    | with_reducible apply Moves.step (State.countRetired_moves ..)
    | with_reducible apply Moves.step (State.regrade_moves ..)
    | with_reducible apply Moves.step (State.maskCheck_moves ..)
    | with_reducible apply Moves.each

theorem State.rxRetire_moves (s : State) (half mask : Nat) : Moves 0x90028e2884028a2 s (State.rxRetire s half mask) := by
  unfold State.rxRetire
  repeat' first
    | with_reducible assumption
    | with_reducible exact Moves.refl _ _
    | decide
    | ((with_reducible refine Moves.p_put (n := 4) ?_ ?_ ?_ ?_); (first | rfl | assumption | (split <;> rfl) | (dsimp +zetaDelta only; split <;> rfl)); decide; decide)
    | intro _
    | with_reducible apply Moves.ite
    | extract_lets
    | with_reducible apply Moves.step (State.rxRestart_moves ..)
    | with_reducible apply Moves.step (State.retiredSync_moves ..)
    | split
    | dsimp +zetaDelta only

theorem State.txRetire_moves (s : State) (half mask : Nat) : Moves 0x90028a288402922 s (State.txRetire s half mask) := by
  unfold State.txRetire
  repeat' first
    | with_reducible assumption
    | with_reducible exact Moves.refl _ _
    | decide
    | ((with_reducible refine Moves.p_put (n := 6) ?_ ?_ ?_ ?_); (first | rfl | assumption | (split <;> rfl) | (dsimp +zetaDelta only; split <;> rfl)); decide; decide)
    | intro _
    | with_reducible apply Moves.ite
    | extract_lets
    | with_reducible apply Moves.step (State.txRestartAt_moves ..)
    | with_reducible apply Moves.step (State.retiredSync_moves ..)
    | split
    | dsimp +zetaDelta only

end Sys2Proof.Machine
end

