-- ==== Sys2Proof/Laws/MovesFrontEnd.lean ====
section
/-! SUPPORT. What each operation of Machine/FrontEnd.lean may change. -/

namespace Sys2Proof.Machine

set_option linter.all false

theorem State.txgateWritten_moves (s : State) : Moves 0x10000 s (State.txgateWritten s) := by
  unfold State.txgateWritten
  simp -zeta only [State.upd_fend]
  repeat' first
    | with_reducible assumption
    | with_reducible exact Moves.refl _ _
    | decide
    | with_reducible apply Moves.ite
    | extract_lets
    | rw [State.upd_fend]
    | with_reducible apply Moves.step (State.with_fend_moves ..)
    | split
    | (with_reducible refine Moves.snd (by assumption) ?_)
    | (with_reducible refine Moves.fst (by assumption) ?_)
    | (with_reducible refine Moves.trd (by assumption) ?_)
    | dsimp +zetaDelta only

theorem State.setRffe_moves (s : State) (n : Nat) (x : Rffe) : Moves 0x2000008010000 s (State.setRffe s n x) := by
  unfold State.setRffe
  simp -zeta only [State.upd_fend]
  repeat' first
    | with_reducible assumption
    | with_reducible exact Moves.refl _ _
    | decide
    | ((with_reducible refine Moves.p_putb (n := 16) ?_ ?_ ?_ ?_); (first | rfl | assumption | (dsimp only [F.FEND_RF_STAT_BUSY]; omega)); decide; decide)
    | ((with_reducible refine Moves.p_put (n := 16) ?_ ?_ ?_ ?_); (first | rfl | assumption | (dsimp only [F.FEND_RF_STAT_DEPTH]; omega)); decide; decide)
    | extract_lets
    | rw [State.upd_fend]
    | with_reducible apply Moves.step (State.with_fend_moves ..)
    | dsimp +zetaDelta only

theorem State.rfPush_moves (s : State) (n : Nat) (c : RfCmd) : Moves 0x80220028c012022 s (State.rfPush s n c) := by
  unfold State.rfPush
  repeat' first
    | with_reducible assumption
    | with_reducible exact Moves.refl _ _
    | decide
    | ((with_reducible refine Moves.p_put (n := 16) ?_ ?_ ?_ ?_); (first | rfl | assumption | (dsimp only [F.FEND_RF_STAT_RESULT]; omega)); decide; decide)
    | ((with_reducible refine Moves.p_raiseMs (n := 16) ?_ ?_ ?_ ?_); (first | rfl | (split <;> rfl)); decide; decide)
    | with_reducible apply Moves.ite
    | extract_lets
    | with_reducible apply Moves.step (State.setRffe_moves ..)
    | split
    | dsimp +zetaDelta only

theorem State.rfStart_moves (s : State) (n : Nat) : Moves 0x28000c8010040 s (State.rfStart s n) := by
  unfold State.rfStart
  repeat' first
    | with_reducible assumption
    | with_reducible exact Moves.refl _ _
    | decide
    | intro _
    | extract_lets
    | with_reducible apply Moves.step (State.reach_moves ..)
    | with_reducible apply Moves.step (State.setRffe_moves ..)
    | with_reducible apply Moves.step (State.emit_moves ..)
    | split
    | (with_reducible refine Moves.snd (by assumption) ?_)
    | (with_reducible refine Moves.fst (by assumption) ?_)
    | (with_reducible refine Moves.trd (by assumption) ?_)
    | dsimp +zetaDelta only

theorem State.rfDone_moves (s : State) (n : Nat) (bytes : List Byte) (perr : Bool) : Moves 0x802a002cc012062 s (State.rfDone s n bytes perr) := by
  unfold State.rfDone
  repeat' first
    | with_reducible assumption
    | with_reducible exact Moves.refl _ _
    | decide
    | ((with_reducible refine Moves.p_put (n := 16) ?_ ?_ ?_ ?_); (first | rfl | assumption | (dsimp only [F.FEND_RF_RDATA_DATA, F.FEND_RF_RSTAT_BC]; omega)); decide; decide)
    | ((with_reducible refine Moves.p_putb (n := 16) ?_ ?_ ?_ ?_); (first | rfl | assumption | (dsimp only [F.FEND_RF_RSTAT_NEW, F.FEND_RF_RSTAT_PERR, F.FEND_RF_RSTAT_VALID]; omega)); decide; decide)
    | ((with_reducible refine Moves.p_incWrap (n := 16) ?_ ?_ ?_ ?_); (first | rfl | assumption | (dsimp only [F.FEND_RF_RSTAT_SEQ]; omega)); decide; decide)
    | ((with_reducible refine Moves.p_raiseMs (n := 16) ?_ ?_ ?_ ?_); (first | rfl | (split <;> rfl)); decide; decide)
    | intro _
    | with_reducible apply Moves.ite
    | extract_lets
    | with_reducible apply Moves.step (State.elapseTo_moves ..)
    | with_reducible apply Moves.step (State.setRffe_moves ..)
    | with_reducible apply Moves.each
    | split
    | (with_reducible refine Moves.snd (by assumption) ?_)
    | (with_reducible refine Moves.fst (by assumption) ?_)
    | (with_reducible refine Moves.trd (by assumption) ?_)
    | dsimp +zetaDelta only

theorem State.setMm_moves (s : State) (p : Nat) (x : MmPath) : Moves 0x10000 s (State.setMm s p x) := by
  unfold State.setMm
  repeat' first
    | with_reducible assumption
    | with_reducible exact Moves.refl _ _
    | decide
    | rw [State.upd_fend]
    | with_reducible apply Moves.step (State.with_fend_moves ..)

theorem State.detPower_moves (s : State) (code : Int) : Moves 0x100000000 s (State.detPower s code).2 := by
  unfold State.detPower
  repeat' first
    | with_reducible assumption
    | with_reducible exact Moves.refl _ _
    | decide
    | with_reducible apply Moves.ite
    | extract_lets
    | with_reducible apply Moves.step (State.draw_moves ..)
    | split
    | (with_reducible refine Moves.snd (by assumption) ?_)
    | (with_reducible refine Moves.fst (by assumption) ?_)
    | (with_reducible refine Moves.trd (by assumption) ?_)
    | dsimp +zetaDelta only

theorem State.mmJudge_moves (s : State) (p : Nat) (pf rl : Int) (t : Nat) : Moves 0x81220028c092022 s (State.mmJudge s p pf rl t) := by
  unfold State.mmJudge
  repeat' first
    | with_reducible assumption
    | with_reducible exact Moves.refl _ _
    | decide
    | ((with_reducible refine Moves.p_putb (n := 16) ?_ ?_ ?_ ?_); (first | rfl | assumption | (dsimp only [F.FEND_P_MM_MM, F.FEND_P_MM_NEW, F.FEND_P_MM_VALID]; omega)); decide; decide)
    | ((with_reducible refine Moves.p_incWrap (n := 16) ?_ ?_ ?_ ?_); (first | rfl | assumption | (dsimp only [F.FEND_P_MM_SEQ]; omega)); decide; decide)
    | ((with_reducible refine Moves.p_puti (n := 16) ?_ ?_ ?_ ?_); (first | rfl | assumption | (dsimp only [F.FEND_P_MM_PF]; omega)); decide; decide)
    | ((with_reducible refine Moves.p_put (n := 16) ?_ ?_ ?_ ?_); (first | rfl | assumption | (dsimp only [F.FEND_P_MM_RL]; omega)); decide; decide)
    | ((with_reducible refine Moves.p_inc (n := 16) ?_ ?_ ?_ ?_); (first | rfl | assumption); decide; decide)
    | ((with_reducible refine Moves.p_raise (n := 16) ?_ ?_ ?_ ?_); (first | rfl | (split <;> rfl)); decide; decide)
    | with_reducible apply Moves.ite
    | extract_lets
    | with_reducible apply Moves.step (State.setMm_moves ..)
    | with_reducible apply Moves.step (State.gaugeEvent_moves ..)
    | split
    | dsimp +zetaDelta only

theorem State.detector_moves (s0 : State) (p : Nat) (rev : Bool) (code : Int) (ovr : Bool) (t : Nat) : Moves 0x81620038c0b2022 s0 (State.detector s0 p rev code ovr t) := by
  unfold State.detector
  repeat' first
    | with_reducible assumption
    | with_reducible exact Moves.refl _ _
    | decide
    | with_reducible apply Moves.ite
    | extract_lets
    | with_reducible apply Moves.step (State.detPower_moves ..)
    | with_reducible apply Moves.step (State.setMm_moves ..)
    | with_reducible apply Moves.step (State.mmJudge_moves ..)
    | with_reducible apply Moves.step (State.bwCompare_moves ..)
    | split
    | (with_reducible refine Moves.snd (by assumption) ?_)
    | (with_reducible refine Moves.fst (by assumption) ?_)
    | (with_reducible refine Moves.trd (by assumption) ?_)
    | dsimp +zetaDelta only

theorem State.fendClear_moves (s : State) : Moves 0x2000008000000 s (State.fendClear s) := by
  unfold State.fendClear
  repeat' first
    | with_reducible assumption
    | with_reducible exact Moves.refl _ _
    | decide
    | ((with_reducible refine Moves.p_put (n := 16) ?_ ?_ ?_ ?_); (first | rfl | assumption); decide; decide)

end Sys2Proof.Machine
end

