-- ==== Sys2Proof/Laws/MovesMonitors.lean ====
section
/-! SUPPORT. What each operation of Machine/Monitors.lean may change. -/

namespace Sys2Proof.Machine

set_option linter.all false

theorem monEntry_block (b i : Nat) : (monEntry b i) / 65536 = 18 := by
  unfold monEntry
  (omega)

theorem monResult_block (b i : Nat) : (monResult b i) / 65536 = 18 := by
  unfold monResult
  (omega)

theorem State.setBank_moves (s : State) (b : Nat) (x : MonBank) : Moves 0x8000008040000 s (State.setBank s b x) := by
  unfold State.setBank
  simp -zeta only [State.upd_mon]
  repeat' first
    | with_reducible assumption
    | with_reducible exact Moves.refl _ _
    | decide
    | ((with_reducible refine Moves.p_putb (n := 18) ?_ ?_ ?_ ?_); (first | rfl | assumption | (dsimp only [F.MON_STAT_ARMED, F.MON_STAT_CAL_BUSY, F.MON_STAT_INJ_BUSY, F.MON_STAT_INJ_PEND]; omega)); decide; decide)
    | extract_lets
    | rw [State.upd_mon]
    | with_reducible apply Moves.step (State.with_mon_moves ..)
    | dsimp +zetaDelta only

theorem State.monReject_moves (s : State) (b : Nat) : Moves 0x80820028c002022 s (State.monReject s b) := by
  unfold State.monReject
  repeat' first
    | with_reducible assumption
    | with_reducible exact Moves.refl _ _
    | decide
    | ((with_reducible refine Moves.p_raiseMs (n := 18) ?_ ?_ ?_ ?_); (first | rfl | (split <;> rfl)); decide; decide)

theorem State.entryStart_moves (s : State) (b a : Nat) : Moves 0x8000008040000 s (State.entryStart s b a) := by
  unfold State.entryStart
  repeat' first
    | with_reducible assumption
    | with_reducible exact Moves.refl _ _
    | decide
    | extract_lets
    | with_reducible apply Moves.step (State.setBank_moves ..)
    | dsimp +zetaDelta only

theorem State.passStart_moves (s : State) (b a : Nat) : Moves 0x8000008040000 s (State.passStart s b a) := by
  unfold State.passStart
  repeat' first
    | with_reducible assumption
    | with_reducible exact Moves.refl _ _
    | decide
    | ((with_reducible refine Moves.p_put (n := 18) ?_ ?_ ?_ ?_); (first | rfl | assumption | (dsimp only [F.MON_STAT_ENTRY]; omega)); decide; decide)
    | with_reducible apply Moves.step (State.setBank_moves ..)
    | with_reducible apply Moves.step (State.entryStart_moves ..)

theorem State.monGo_moves (s : State) (b : Nat) : Moves 0x8000008040000 s (State.monGo s b) := by
  unfold State.monGo
  repeat' first
    | with_reducible assumption
    | with_reducible exact Moves.refl _ _
    | decide
    | with_reducible apply Moves.ite
    | with_reducible apply Moves.step (State.passStart_moves ..)
    | split

theorem State.passNext_moves (s : State) (b : Nat) : Moves 0x8800048040040 s (State.passNext s b) := by
  unfold State.passNext
  repeat' first
    | with_reducible assumption
    | with_reducible exact Moves.refl _ _
    | decide
    | with_reducible apply Moves.ite
    | extract_lets
    | with_reducible apply Moves.step (State.passStart_moves ..)
    | with_reducible apply Moves.step (State.elapseTo_moves ..)
    | split
    | dsimp +zetaDelta only

theorem State.modeWritten_moves (s : State) (b : Nat) : Moves 0x8000008040000 s (State.modeWritten s b) := by
  unfold State.modeWritten
  repeat' first
    | with_reducible assumption
    | with_reducible exact Moves.refl _ _
    | decide
    | with_reducible apply Moves.ite
    | extract_lets
    | with_reducible apply Moves.step (State.setBank_moves ..)
    | with_reducible apply Moves.step (State.passStart_moves ..)
    | split
    | (with_reducible refine Moves.snd (by assumption) ?_)
    | (with_reducible refine Moves.fst (by assumption) ?_)
    | (with_reducible refine Moves.trd (by assumption) ?_)
    | dsimp +zetaDelta only

theorem State.monCtl_moves (s : State) (b v : Nat) : Moves 0x80820028c042022 s (State.monCtl s b v) := by
  unfold State.monCtl
  repeat' first
    | with_reducible assumption
    | with_reducible exact Moves.refl _ _
    | decide
    | ((with_reducible refine Moves.p_setWord (n := 18) ?_ ?_ ?_ ?_); (first | rfl | assumption | omega); decide; decide)
    | ((with_reducible refine Moves.p_put (n := 18) ?_ ?_ ?_ ?_); (first | rfl | assumption | (dsimp only [F.MON_CTL_MODE]; omega)); decide; decide)
    | with_reducible apply Moves.ite
    | extract_lets
    | with_reducible apply Moves.step (State.monReject_moves ..)
    | with_reducible apply Moves.step (State.modeWritten_moves ..)
    | with_reducible apply Moves.step (State.monGo_moves ..)
    | split
    | dsimp +zetaDelta only

theorem State.monSeqWrite_moves (s : State) (b i v : Nat) : Moves 0x80820028c002022 s (State.monSeqWrite s b i v) := by
  unfold State.monSeqWrite
  repeat' first
    | with_reducible assumption
    | with_reducible exact Moves.refl _ _
    | decide
    | ((with_reducible refine Moves.p_setWord (n := 18) ?_ ?_ ?_ ?_); (first | rfl | assumption | exact monEntry_block .. | exact monResult_block ..); decide; decide)
    | intro _
    | with_reducible apply Moves.ite
    | extract_lets
    | with_reducible apply Moves.step (State.monReject_moves ..)
    | split
    | dsimp +zetaDelta only

theorem State.monWrite_moves (s : State) (b i at_ : Nat) (raws : List (Int × Nat)) : Moves 0x81e20038c0f2022 s (State.monWrite s b i at_ raws) := by
  unfold State.monWrite
  simp -zeta only [State.upd_mon]
  repeat' first
    | with_reducible assumption
    | with_reducible exact Moves.refl _ _
    | decide
    | ((with_reducible refine Moves.p_setWord (n := 18) ?_ ?_ ?_ ?_); (first | rfl | assumption | exact monResult_block ..); decide; decide)
    | ((with_reducible refine Moves.p_inc (n := 18) ?_ ?_ ?_ ?_); (first | rfl | assumption | (dsimp only [F.MON_OVR_CNT_COUNT]; omega)); decide; decide)
    | ((with_reducible refine Moves.p_raiseMs (n := 18) ?_ ?_ ?_ ?_); (first | rfl | (split <;> rfl)); decide; decide)
    | intro _
    | with_reducible apply Moves.ite
    | extract_lets
    | rw [State.upd_mon]
    | with_reducible apply Moves.step (State.with_mon_moves ..)
    | with_reducible apply Moves.step (State.detector_moves ..)
    | split
    | dsimp +zetaDelta only

theorem State.entryDone_moves (s : State) (b : Nat) (raws : List (Int × Nat)) : Moves 0x81ea003cc0f2062 s (State.entryDone s b raws) := by
  unfold State.entryDone
  repeat' first
    | with_reducible assumption
    | with_reducible exact Moves.refl _ _
    | decide
    | ((with_reducible refine Moves.p_put (n := 18) ?_ ?_ ?_ ?_); (first | rfl | assumption | (dsimp only [F.MON_STAT_ENTRY]; omega)); decide; decide)
    | ((with_reducible refine Moves.p_incWrap (n := 18) ?_ ?_ ?_ ?_); (first | rfl | assumption | (dsimp only [F.MON_STAT_PASSES]; omega)); decide; decide)
    | with_reducible apply Moves.ite
    | extract_lets
    | with_reducible apply Moves.step (State.elapseTo_moves ..)
    | with_reducible apply Moves.step (State.monWrite_moves ..)
    | with_reducible apply Moves.step (State.entryStart_moves ..)
    | with_reducible apply Moves.step (State.setBank_moves ..)
    | split
    | (with_reducible refine Moves.snd (by assumption) ?_)
    | (with_reducible refine Moves.fst (by assumption) ?_)
    | (with_reducible refine Moves.trd (by assumption) ?_)
    | dsimp +zetaDelta only

theorem State.injDone_moves (s : State) (b : Nat) (raws : List (Int × Nat)) : Moves 0x81ea003cc0f2062 s (State.injDone s b raws) := by
  unfold State.injDone
  repeat' first
    | with_reducible assumption
    | with_reducible exact Moves.refl _ _
    | decide
    | with_reducible apply Moves.ite
    | extract_lets
    | with_reducible apply Moves.step (State.elapseTo_moves ..)
    | with_reducible apply Moves.step (State.monWrite_moves ..)
    | with_reducible apply Moves.step (State.setBank_moves ..)
    | split
    | dsimp +zetaDelta only

theorem State.monResultWrite_moves (s : State) (b : Nat) (raws : List (Int × Nat)) : Moves 0x81ea003cc0f2062 s (State.monResultWrite s b raws) := by
  unfold State.monResultWrite
  repeat' first
    | with_reducible assumption
    | with_reducible exact Moves.refl _ _
    | decide
    | with_reducible apply Moves.ite
    | extract_lets
    | with_reducible apply Moves.step (State.injDone_moves ..)
    | with_reducible apply Moves.step (State.entryDone_moves ..)
    | split
    | dsimp +zetaDelta only

theorem State.monRead_moves (s : State) (b i : Nat) : Moves 0x8000008000000 s (State.monRead s b i) := by
  unfold State.monRead
  repeat' first
    | with_reducible assumption
    | with_reducible exact Moves.refl _ _
    | decide
    | ((with_reducible refine Moves.p_setWord (n := 18) ?_ ?_ ?_ ?_); (first | rfl | assumption | exact monResult_block ..); decide; decide)
    | ((with_reducible refine Moves.p_put64 (n := 18) ?_ ?_ ?_ ?_); (constructor <;> (first | rfl | assumption | (dsimp only [F.MON_RD_AT_HI_STAMP, F.MON_RD_AT_LO_STAMP]; omega))); decide; decide)
    | extract_lets
    | dsimp +zetaDelta only

theorem State.injTrigger_moves (s : State) (b : Nat) : Moves 0x80820028c042022 s (State.injTrigger s b) := by
  unfold State.injTrigger
  repeat' first
    | with_reducible assumption
    | with_reducible exact Moves.refl _ _
    | decide
    | ((with_reducible refine Moves.p_inc (n := 18) ?_ ?_ ?_ ?_); (first | rfl | assumption | (dsimp only [F.MON_INJ_DROP_COUNT]; omega)); decide; decide)
    | ((with_reducible refine Moves.p_raiseMs (n := 18) ?_ ?_ ?_ ?_); (first | rfl | (split <;> rfl)); decide; decide)
    | with_reducible apply Moves.ite
    | extract_lets
    | with_reducible apply Moves.step (State.setBank_moves ..)
    | split
    | dsimp +zetaDelta only

theorem State.injArm_moves (s : State) (b : Nat) : Moves 0x80820028c042022 s (State.injArm s b) := by
  unfold State.injArm
  repeat' first
    | with_reducible assumption
    | with_reducible exact Moves.refl _ _
    | decide
    | intro _
    | with_reducible apply Moves.ite
    | extract_lets
    | with_reducible apply Moves.step (State.setBank_moves ..)
    | with_reducible apply Moves.step (State.injTrigger_moves ..)
    | split
    | (with_reducible refine Moves.snd (by assumption) ?_)
    | (with_reducible refine Moves.fst (by assumption) ?_)
    | (with_reducible refine Moves.trd (by assumption) ?_)
    | dsimp +zetaDelta only

theorem State.injCtl_moves (s : State) (b v : Nat) : Moves 0x80820028c042022 s (State.injCtl s b v) := by
  unfold State.injCtl
  repeat' first
    | with_reducible assumption
    | with_reducible exact Moves.refl _ _
    | decide
    | ((with_reducible refine Moves.p_put (n := 18) ?_ ?_ ?_ ?_); (first | rfl | assumption | (dsimp only [F.MON_INJ_CTL_LEN, F.MON_INJ_CTL_TRIG]; omega)); decide; decide)
    | with_reducible apply Moves.ite
    | extract_lets
    | with_reducible apply Moves.step (State.injArm_moves ..)
    | with_reducible apply Moves.step (State.injTrigger_moves ..)
    | split
    | dsimp +zetaDelta only

theorem State.injFire_moves (s : State) (b : Nat) : Moves 0x808a002cc042062 s (State.injFire s b) := by
  unfold State.injFire
  repeat' first
    | with_reducible assumption
    | with_reducible exact Moves.refl _ _
    | decide
    | intro _
    | with_reducible apply Moves.ite
    | extract_lets
    | with_reducible apply Moves.step (State.reach_moves ..)
    | with_reducible apply Moves.step (State.setBank_moves ..)
    | with_reducible apply Moves.step (State.injTrigger_moves ..)
    | split
    | (with_reducible refine Moves.snd (by assumption) ?_)
    | (with_reducible refine Moves.fst (by assumption) ?_)
    | (with_reducible refine Moves.trd (by assumption) ?_)
    | dsimp +zetaDelta only

theorem State.injStart_moves (s : State) (b : Nat) : Moves 0x8800048040040 s (State.injStart s b) := by
  unfold State.injStart
  repeat' first
    | with_reducible assumption
    | with_reducible exact Moves.refl _ _
    | decide
    | with_reducible apply Moves.ite
    | extract_lets
    | with_reducible apply Moves.step (State.elapseTo_moves ..)
    | with_reducible apply Moves.step (State.setBank_moves ..)
    | split
    | (with_reducible refine Moves.snd (by assumption) ?_)
    | (with_reducible refine Moves.fst (by assumption) ?_)
    | (with_reducible refine Moves.trd (by assumption) ?_)
    | dsimp +zetaDelta only

theorem State.monCalGo_moves (s : State) (b : Nat) : Moves 0x8000008000000 s (State.monCalGo s b) := by
  unfold State.monCalGo
  repeat' first
    | with_reducible assumption
    | with_reducible exact Moves.refl _ _
    | decide
    | ((with_reducible refine Moves.p_putb (n := 18) ?_ ?_ ?_ ?_); (first | rfl | assumption | (dsimp only [F.MON_STAT_CAL_PEND]; omega)); decide; decide)
    | with_reducible apply Moves.ite
    | split

theorem State.monCalStart_moves (s : State) (b : Nat) : Moves 0x8800048040040 s (State.monCalStart s b) := by
  unfold State.monCalStart
  repeat' first
    | with_reducible assumption
    | with_reducible exact Moves.refl _ _
    | decide
    | ((with_reducible refine Moves.p_putb (n := 18) ?_ ?_ ?_ ?_); (first | rfl | assumption | (dsimp only [F.MON_STAT_CAL_PEND]; omega)); decide; decide)
    | with_reducible apply Moves.ite
    | extract_lets
    | with_reducible apply Moves.step (State.elapseTo_moves ..)
    | with_reducible apply Moves.step (State.setBank_moves ..)
    | split
    | (with_reducible refine Moves.snd (by assumption) ?_)
    | (with_reducible refine Moves.fst (by assumption) ?_)
    | (with_reducible refine Moves.trd (by assumption) ?_)
    | dsimp +zetaDelta only

theorem State.monCalDone_moves (s : State) (b : Nat) (ofs : Int) (gain : Nat) : Moves 0x808a002c8042062 s (State.monCalDone s b ofs gain) := by
  unfold State.monCalDone
  repeat' first
    | with_reducible assumption
    | with_reducible exact Moves.refl _ _
    | decide
    | ((with_reducible refine Moves.p_puti (n := 18) ?_ ?_ ?_ ?_); (first | rfl | assumption | (dsimp only [F.MON_CAL_RES_OFS]; omega)); decide; decide)
    | ((with_reducible refine Moves.p_put (n := 18) ?_ ?_ ?_ ?_); (first | rfl | assumption | (dsimp only [F.MON_CAL_RES_GAIN]; omega)); decide; decide)
    | ((with_reducible refine Moves.p_raise (n := 18) ?_ ?_ ?_ ?_); (first | rfl | (split <;> rfl)); decide; decide)
    | with_reducible apply Moves.ite
    | extract_lets
    | with_reducible apply Moves.step (State.elapseTo_moves ..)
    | with_reducible apply Moves.step (State.setBank_moves ..)
    | with_reducible apply Moves.step (State.entryStart_moves ..)
    | split
    | (with_reducible refine Moves.snd (by assumption) ?_)
    | (with_reducible refine Moves.fst (by assumption) ?_)
    | (with_reducible refine Moves.trd (by assumption) ?_)
    | dsimp +zetaDelta only

theorem State.monRaise_moves (s : State) : Moves 0x8000008040000 s (State.monRaise s) := by
  unfold State.monRaise
  simp -zeta only [State.upd_mon]
  repeat' first
    | with_reducible assumption
    | with_reducible exact Moves.refl _ _
    | decide
    | intro _
    | extract_lets
    | rw [State.upd_mon]
    | with_reducible apply Moves.step (State.with_mon_moves ..)
    | with_reducible apply Moves.step (State.setBank_moves ..)
    | with_reducible apply Moves.each
    | dsimp +zetaDelta only

theorem State.monLower_moves (s : State) : Moves 0x40000 s (State.monLower s) := by
  unfold State.monLower
  repeat' first
    | with_reducible assumption
    | with_reducible exact Moves.refl _ _
    | decide
    | rw [State.upd_mon]
    | with_reducible apply Moves.step (State.with_mon_moves ..)

theorem State.monClear_moves (s : State) : Moves 0x8000008000000 s (State.monClear s) := by
  unfold State.monClear
  repeat' first
    | with_reducible assumption
    | with_reducible exact Moves.refl _ _
    | decide
    | ((with_reducible refine Moves.p_put (n := 18) ?_ ?_ ?_ ?_); (first | rfl | assumption | (dsimp only [F.MON_INJ_DROP_COUNT, F.MON_OVR_CNT_COUNT]; omega)); decide; decide)
    | intro _
    | with_reducible apply Moves.each

end Sys2Proof.Machine
end

