-- ==== Sys2Proof/Laws/MovesRing.lean ====
section
/-! SUPPORT. What each operation of Machine/Ring.lean may change. -/

namespace Sys2Proof.Machine

set_option linter.all false

theorem State.reroute_moves (s : State) : Moves 0x80004000 s (State.reroute s) := by
  unfold State.reroute
  simp -zeta only [State.upd_ring]
  repeat' first
    | with_reducible assumption
    | with_reducible exact Moves.refl _ _
    | decide
    | with_reducible apply Moves.ite
    | extract_lets
    | rw [State.upd_ring]
    | with_reducible apply Moves.step (State.with_ring_moves ..)
    | with_reducible apply Moves.step (State.emit_moves ..)
    | split
    | (with_reducible refine Moves.snd (by assumption) ?_)
    | (with_reducible refine Moves.fst (by assumption) ?_)
    | (with_reducible refine Moves.trd (by assumption) ?_)
    | dsimp +zetaDelta only

theorem State.ringForm_moves (s : State) : Moves 0x800600288002022 s (State.ringForm s) := by
  unfold State.ringForm
  repeat' first
    | with_reducible assumption
    | with_reducible exact Moves.refl _ _
    | decide
    | ((with_reducible refine Moves.p_putb (n := 13) ?_ ?_ ?_ ?_); (first | rfl | assumption); decide; decide)
    | ((with_reducible refine Moves.p_raise (n := 13) ?_ ?_ ?_ ?_); (first | rfl | (split <;> rfl)); decide; decide)
    | with_reducible apply Moves.ite
    | extract_lets
    | split
    | dsimp +zetaDelta only

theorem State.setMembers_moves (s : State) (m : Nat) : Moves 0x800680288002822 s (State.setMembers s m) := by
  unfold State.setMembers
  repeat' first
    | with_reducible assumption
    | with_reducible exact Moves.refl _ _
    | decide
    | ((with_reducible refine Moves.p_put (n := 13) ?_ ?_ ?_ ?_); (first | rfl | assumption); decide; decide)
    | with_reducible apply Moves.ite
    | extract_lets
    | with_reducible apply Moves.step (State.ringForm_moves ..)
    | with_reducible apply Moves.step (State.maskCheck_moves ..)
    | split
    | dsimp +zetaDelta only

theorem State.ringPorts_moves (s : State) : Moves 0x400088004000 s (State.ringPorts s) := by
  unfold State.ringPorts
  simp -zeta only [State.upd_ring]
  repeat' first
    | with_reducible assumption
    | with_reducible exact Moves.refl _ _
    | decide
    | ((with_reducible refine Moves.p_putb (n := 13) ?_ ?_ ?_ ?_); (first | rfl | assumption); decide; decide)
    | with_reducible apply Moves.ite
    | extract_lets
    | rw [State.upd_ring]
    | with_reducible apply Moves.step (State.with_ring_moves ..)
    | with_reducible apply Moves.step (State.reroute_moves ..)
    | with_reducible apply Moves.step (State.emit_moves ..)
    | split
    | dsimp +zetaDelta only

theorem State.topoReport_moves (s : State) (d up data we ww : Nat) : Moves 0x80004000 s (State.topoReport s d up data we ww) := by
  unfold State.topoReport
  repeat' first
    | with_reducible assumption
    | with_reducible exact Moves.refl _ _
    | decide
    | with_reducible apply Moves.ite
    | rw [State.upd_ring]
    | with_reducible apply Moves.step (State.with_ring_moves ..)
    | with_reducible apply Moves.step (State.reroute_moves ..)
    | split

theorem State.fwdSend_moves (s : State) (l j : Nat) (links : List Nat) : Moves 0x80004000 s (State.fwdSend s l j links) := by
  unfold State.fwdSend
  simp -zeta only [State.upd_ring]
  repeat' first
    | with_reducible assumption
    | with_reducible exact Moves.refl _ _
    | decide
    | intro _
    | extract_lets
    | rw [State.upd_ring]
    | with_reducible apply Moves.step (State.with_ring_moves ..)
    | with_reducible apply Moves.step (State.emit_moves ..)
    | with_reducible apply Moves.each
    | dsimp +zetaDelta only

theorem State.fwdNext_moves (s : State) (l : Nat) : Moves 0x80004000 s (State.fwdNext s l) := by
  unfold State.fwdNext
  simp -zeta only [State.upd_ring]
  repeat' first
    | with_reducible assumption
    | with_reducible exact Moves.refl _ _
    | decide
    | extract_lets
    | rw [State.upd_ring]
    | with_reducible apply Moves.step (State.with_ring_moves ..)
    | with_reducible apply Moves.step (State.fwdSend_moves ..)
    | split
    | (with_reducible refine Moves.snd (by assumption) ?_)
    | (with_reducible refine Moves.fst (by assumption) ?_)
    | (with_reducible refine Moves.trd (by assumption) ?_)
    | dsimp +zetaDelta only

theorem State.fwdTake_moves (s : State) (port : Nat) (payload : List Byte) : Moves 0x80002000 s (State.fwdTake s port payload) := by
  unfold State.fwdTake
  repeat' first
    | with_reducible assumption
    | with_reducible exact Moves.refl _ _
    | decide
    | with_reducible apply Moves.ite
    | extract_lets
    | with_reducible apply Moves.step (State.storePut_moves ..)
    | with_reducible apply Moves.step (State.emit_moves ..)
    | split
    | (with_reducible refine Moves.snd (by assumption) ?_)
    | (with_reducible refine Moves.fst (by assumption) ?_)
    | (with_reducible refine Moves.trd (by assumption) ?_)
    | dsimp +zetaDelta only

theorem State.layerForward_moves (s : State) (l port : Nat) (payload : List Byte) : Moves 0x80006000 s (State.layerForward s l port payload) := by
  unfold State.layerForward
  repeat' first
    | with_reducible assumption
    | with_reducible exact Moves.refl _ _
    | decide
    | with_reducible apply Moves.ite
    | with_reducible apply Moves.step (State.fwdNext_moves ..)
    | with_reducible apply Moves.step (State.fwdTake_moves ..)
    | split

theorem State.fwdAgain_moves (s : State) (links : List Nat) : Moves 0x80004000 s (State.fwdAgain s links) := by
  unfold State.fwdAgain
  repeat' first
    | with_reducible assumption
    | with_reducible exact Moves.refl _ _
    | decide
    | intro _
    | with_reducible apply Moves.ite
    | with_reducible apply Moves.step (State.fwdSend_moves ..)
    | with_reducible apply Moves.each
    | split

theorem State.setArcs_moves (s : State) (w e : Nat) : Moves 0x400008000000 s (State.setArcs s w e) := by
  unfold State.setArcs
  repeat' first
    | with_reducible assumption
    | with_reducible exact Moves.refl _ _
    | decide
    | ((with_reducible refine Moves.p_put (n := 13) ?_ ?_ ?_ ?_); (first | rfl | assumption); decide; decide)

theorem State.headSwitch_moves (s : State) (w e : Nat) : Moves 0x800e80288006862 s (State.headSwitch s w e) := by
  unfold State.headSwitch
  simp -zeta only [State.upd_ring]
  repeat' first
    | with_reducible assumption
    | with_reducible exact Moves.refl _ _
    | decide
    | ((with_reducible refine Moves.p_inc (n := 13) ?_ ?_ ?_ ?_); (first | rfl | assumption); decide; decide)
    | ((with_reducible refine Moves.p_raise (n := 13) ?_ ?_ ?_ ?_); (first | rfl | (split <;> rfl)); decide; decide)
    | intro _
    | with_reducible apply Moves.ite
    | extract_lets
    | rw [State.upd_ring]
    | with_reducible apply Moves.step (State.with_ring_moves ..)
    | with_reducible apply Moves.step (State.setArcs_moves ..)
    | with_reducible apply Moves.step (State.setMembers_moves ..)
    | with_reducible apply Moves.step (State.fwdAgain_moves ..)
    | with_reducible apply Moves.step (State.tideTopology_moves ..)
    | with_reducible apply Moves.step (State.tideSource_moves ..)
    | with_reducible apply Moves.each
    | split
    | dsimp +zetaDelta only

theorem State.routeSwitch_moves (s : State) (at_ : Stamp) (w e members : Nat) : Moves 0x800e802c8006862 s (State.routeSwitch s at_ w e members) := by
  unfold State.routeSwitch
  repeat' first
    | with_reducible assumption
    | with_reducible exact Moves.refl _ _
    | decide
    | intro _
    | with_reducible apply Moves.ite
    | extract_lets
    | with_reducible apply Moves.step (State.reach_moves ..)
    | with_reducible apply Moves.step (State.headSwitch_moves ..)
    | with_reducible apply Moves.step (State.setArcs_moves ..)
    | with_reducible apply Moves.step (State.setMembers_moves ..)
    | with_reducible apply Moves.step (State.tideTopology_moves ..)
    | with_reducible apply Moves.step (State.tideSource_moves ..)
    | split
    | (with_reducible refine Moves.snd (by assumption) ?_)
    | (with_reducible refine Moves.fst (by assumption) ?_)
    | (with_reducible refine Moves.trd (by assumption) ?_)
    | dsimp +zetaDelta only

theorem State.issueSync_moves (s : State) : Moves 0x400088004000 s (State.issueSync s) := by
  unfold State.issueSync
  simp -zeta only [State.upd_ring]
  repeat' first
    | with_reducible assumption
    | with_reducible exact Moves.refl _ _
    | decide
    | ((with_reducible refine Moves.p_putb (n := 13) ?_ ?_ ?_ ?_); (first | rfl | assumption); decide; decide)
    | with_reducible apply Moves.ite
    | extract_lets
    | rw [State.upd_ring]
    | with_reducible apply Moves.step (State.with_ring_moves ..)
    | with_reducible apply Moves.step (State.emit_moves ..)
    | split
    | dsimp +zetaDelta only

theorem State.headCheck_moves (s : State) (d : Nat) (cfg : List Nat) : Moves 0x800680288006822 s (State.headCheck s d cfg) := by
  unfold State.headCheck
  simp -zeta only [State.upd_ring]
  repeat' first
    | with_reducible assumption
    | with_reducible exact Moves.refl _ _
    | decide
    | ((with_reducible refine Moves.p_raise (n := 13) ?_ ?_ ?_ ?_); (first | rfl | (split <;> rfl)); decide; decide)
    | with_reducible apply Moves.ite
    | extract_lets
    | rw [State.upd_ring]
    | with_reducible apply Moves.step (State.with_ring_moves ..)
    | with_reducible apply Moves.step (State.emit_moves ..)
    | with_reducible apply Moves.step (State.setMembers_moves ..)
    | with_reducible apply Moves.step (State.reroute_moves ..)
    | with_reducible apply Moves.step (State.issueSync_moves ..)
    | split
    | dsimp +zetaDelta only

theorem State.memberJoin_moves (s : State) (nco : List Nat) : Moves 0x8106dc288086da2 s (State.memberJoin s nco) := by
  unfold State.memberJoin
  repeat' first
    | with_reducible assumption
    | with_reducible exact Moves.refl _ _
    | decide
    | ((with_reducible refine Moves.p_put48 (n := 5) ?_ ?_ ?_ ?_); (constructor <;> (first | rfl | assumption)); decide; decide)
    | ((with_reducible refine Moves.p_put48 (n := 7) ?_ ?_ ?_ ?_); (constructor <;> (first | rfl | assumption)); decide; decide)
    | ((with_reducible refine Moves.p_putb (n := 13) ?_ ?_ ?_ ?_); (first | rfl | assumption); decide; decide)
    | with_reducible apply Moves.ite
    | extract_lets
    | with_reducible apply Moves.step (State.rxChains_moves ..)
    | with_reducible apply Moves.step (State.txChains_moves ..)
    | with_reducible apply Moves.step (State.setMembers_moves ..)
    | with_reducible apply Moves.step (State.emit_moves ..)
    | split
    | dsimp +zetaDelta only

theorem State.join_moves (s : State) (d : Nat) (cfg nco : List Nat) : Moves 0x8106dc288086da2 s (State.join s d cfg nco) := by
  unfold State.join
  repeat' first
    | with_reducible assumption
    | with_reducible exact Moves.refl _ _
    | decide
    | with_reducible apply Moves.ite
    | with_reducible apply Moves.step (State.headCheck_moves ..)
    | with_reducible apply Moves.step (State.memberJoin_moves ..)
    | split

theorem State.cfgWritten_moves (s : State) : Moves 0x800680288006822 s (State.cfgWritten s) := by
  unfold State.cfgWritten
  repeat' first
    | with_reducible assumption
    | with_reducible exact Moves.refl _ _
    | decide
    | intro _
    | with_reducible apply Moves.ite
    | with_reducible apply Moves.step (State.headCheck_moves ..)
    | with_reducible apply Moves.step (State.emit_moves ..)
    | with_reducible apply Moves.each
    | split

theorem State.panelSums_moves (s : State) (d : Nat) (l : List (Nat × Nat × Nat)) : Moves 0x4000 s (State.panelSums s d l) := by
  unfold State.panelSums
  simp -zeta only [State.upd_ring]
  repeat' first
    | with_reducible assumption
    | with_reducible exact Moves.refl _ _
    | decide
    | intro _
    | with_reducible apply Moves.ite
    | extract_lets
    | rw [State.upd_ring]
    | with_reducible apply Moves.step (State.with_ring_moves ..)
    | with_reducible apply Moves.foldl
    | with_reducible apply Moves.foldlFst
    | with_reducible apply Moves.foldlSnd
    | split
    | (with_reducible refine Moves.snd (by assumption) ?_)
    | (with_reducible refine Moves.fst (by assumption) ?_)
    | (with_reducible refine Moves.trd (by assumption) ?_)
    | dsimp +zetaDelta only

theorem State.sumsDue_moves (s : State) : Moves 0x880048004840 s (State.sumsDue s) := by
  unfold State.sumsDue
  repeat' first
    | with_reducible assumption
    | with_reducible exact Moves.refl _ _
    | decide
    | intro _
    | extract_lets
    | with_reducible apply Moves.step (State.reachAbs_moves ..)
    | with_reducible apply Moves.step (State.sumsTake_moves ..)
    | with_reducible apply Moves.step (State.reforce_moves ..)
    | split
    | (with_reducible refine Moves.snd (by assumption) ?_)
    | (with_reducible refine Moves.fst (by assumption) ?_)
    | (with_reducible refine Moves.trd (by assumption) ?_)
    | dsimp +zetaDelta only

theorem State.psumRx_moves (s : State) (port : Nat) (payload : List Byte) : Moves 0x4000 s (State.psumRx s port payload) := by
  unfold State.psumRx
  simp -zeta only [State.upd_ring]
  repeat' first
    | with_reducible assumption
    | with_reducible exact Moves.refl _ _
    | decide
    | with_reducible apply Moves.ite
    | extract_lets
    | rw [State.upd_ring]
    | with_reducible apply Moves.step (State.with_ring_moves ..)
    | split
    | (with_reducible refine Moves.snd (by assumption) ?_)
    | (with_reducible refine Moves.fst (by assumption) ?_)
    | (with_reducible refine Moves.trd (by assumption) ?_)
    | dsimp +zetaDelta only

theorem State.syncGo_moves (s : State) : Moves 0x400088004000 s (State.syncGo s) := by
  unfold State.syncGo
  repeat' first
    | with_reducible assumption
    | with_reducible exact Moves.refl _ _
    | decide
    | with_reducible apply Moves.ite
    | with_reducible apply Moves.step (State.issueSync_moves ..)
    | with_reducible apply Moves.step (State.emit_moves ..)
    | split

theorem State.syncReport_moves (s : State) : Moves 0x80000000 s (State.syncReport s) := by
  unfold State.syncReport
  repeat' first
    | with_reducible assumption
    | with_reducible exact Moves.refl _ _
    | decide
    | with_reducible apply Moves.ite
    | with_reducible apply Moves.step (State.emit_moves ..)
    | split

theorem State.ringSync_moves (s : State) (at_ : Stamp) : Moves 0x800e802c800686a s (State.ringSync s at_) := by
  unfold State.ringSync
  simp -zeta only [State.upd_ring_clk]
  repeat' first
    | with_reducible assumption
    | with_reducible exact Moves.refl _ _
    | decide
    | ((with_reducible refine Moves.p_putb (n := 13) ?_ ?_ ?_ ?_); (first | rfl | assumption); decide; decide)
    | ((with_reducible refine Moves.p_inc (n := 13) ?_ ?_ ?_ ?_); (first | rfl | assumption); decide; decide)
    | ((with_reducible refine Moves.p_raise (n := 13) ?_ ?_ ?_ ?_); (first | rfl | (split <;> rfl)); decide; decide)
    | intro _
    | with_reducible apply Moves.ite
    | extract_lets
    | rw [State.upd_ring_clk]
    | with_reducible apply Moves.step (State.with_ring_clk_moves ..)
    | with_reducible apply Moves.step (State.reach_moves ..)
    | with_reducible apply Moves.step (State.maskCheck_moves ..)
    | split
    | (with_reducible refine Moves.snd (by assumption) ?_)
    | (with_reducible refine Moves.fst (by assumption) ?_)
    | (with_reducible refine Moves.trd (by assumption) ?_)
    | dsimp +zetaDelta only

theorem State.xcalRefuse_moves (s : State) : Moves 0x800600288002022 s (State.xcalRefuse s) := by
  unfold State.xcalRefuse
  repeat' first
    | with_reducible assumption
    | with_reducible exact Moves.refl _ _
    | decide
    | ((with_reducible refine Moves.p_raise (n := 13) ?_ ?_ ?_ ?_); (first | rfl | (split <;> rfl)); decide; decide)

theorem State.xcalReq_moves (s : State) (calio : Bool) : Moves 0x800600288006022 s (State.xcalReq s calio) := by
  unfold State.xcalReq
  repeat' first
    | with_reducible assumption
    | with_reducible exact Moves.refl _ _
    | decide
    | ((with_reducible refine Moves.p_putb (n := 13) ?_ ?_ ?_ ?_); (first | rfl | assumption); decide; decide)
    | with_reducible apply Moves.ite
    | rw [State.upd_ring]
    | with_reducible apply Moves.step (State.with_ring_moves ..)
    | with_reducible apply Moves.step (State.xcalRefuse_moves ..)
    | split

theorem State.xcalTry_moves (s : State) : Moves 0x400088004000 s (State.xcalTry s) := by
  unfold State.xcalTry
  simp -zeta only [State.upd_ring]
  repeat' first
    | with_reducible assumption
    | with_reducible exact Moves.refl _ _
    | decide
    | ((with_reducible refine Moves.p_putb (n := 13) ?_ ?_ ?_ ?_); (first | rfl | assumption); decide; decide)
    | with_reducible apply Moves.ite
    | extract_lets
    | rw [State.upd_ring]
    | with_reducible apply Moves.step (State.with_ring_moves ..)
    | with_reducible apply Moves.step (State.emit_moves ..)
    | split
    | (with_reducible refine Moves.snd (by assumption) ?_)
    | (with_reducible refine Moves.fst (by assumption) ?_)
    | (with_reducible refine Moves.trd (by assumption) ?_)
    | dsimp +zetaDelta only

theorem State.xcalStart_moves (s : State) : Moves 0x800600288006022 s (State.xcalStart s) := by
  unfold State.xcalStart
  simp -zeta only [State.upd_ring]
  repeat' first
    | with_reducible assumption
    | with_reducible exact Moves.refl _ _
    | decide
    | ((with_reducible refine Moves.p_putb (n := 13) ?_ ?_ ?_ ?_); (first | rfl | assumption); decide; decide)
    | with_reducible apply Moves.ite
    | extract_lets
    | rw [State.upd_ring]
    | with_reducible apply Moves.step (State.with_ring_moves ..)
    | with_reducible apply Moves.step (State.xcalTry_moves ..)
    | with_reducible apply Moves.step (State.xcalRefuse_moves ..)
    | split
    | (with_reducible refine Moves.snd (by assumption) ?_)
    | (with_reducible refine Moves.fst (by assumption) ?_)
    | (with_reducible refine Moves.trd (by assumption) ?_)
    | dsimp +zetaDelta only

theorem State.xcalTake_moves (s : State) (dir : Nat) (align : Int) (pc : Cx) : Moves 0x400008000800 s (State.xcalTake s dir align pc) := by
  unfold State.xcalTake
  repeat' first
    | with_reducible assumption
    | with_reducible exact Moves.refl _ _
    | decide
    | ((with_reducible refine Moves.p_puti (n := 13) ?_ ?_ ?_ ?_); (first | rfl | assumption | exact fXALIGN_block .. | exact fXPCALIM_block .. | exact fXPCALRE_block ..); decide; decide)
    | intro _
    | extract_lets
    | with_reducible apply Moves.step (State.alignWritten_moves ..)
    | with_reducible apply Moves.each
    | dsimp +zetaDelta only

theorem State.xcalDone_moves (s : State) (tx rx : Int × Cx) : Moves 0x800e003c8006862 s (State.xcalDone s tx rx) := by
  unfold State.xcalDone
  simp -zeta only [State.upd_ring]
  repeat' first
    | with_reducible assumption
    | with_reducible exact Moves.refl _ _
    | decide
    | ((with_reducible refine Moves.p_putb (n := 13) ?_ ?_ ?_ ?_); (first | rfl | assumption); decide; decide)
    | ((with_reducible refine Moves.p_put (n := 13) ?_ ?_ ?_ ?_); (first | rfl | assumption); decide; decide)
    | ((with_reducible refine Moves.p_raise (n := 13) ?_ ?_ ?_ ?_); (first | rfl | (split <;> rfl)); decide; decide)
    | intro _
    | with_reducible apply Moves.ite
    | extract_lets
    | rw [State.upd_ring]
    | with_reducible apply Moves.step (State.with_ring_moves ..)
    | with_reducible apply Moves.step (State.reach_moves ..)
    | with_reducible apply Moves.step (State.draw_moves ..)
    | with_reducible apply Moves.step (State.emit_moves ..)
    | with_reducible apply Moves.step (State.xcalTake_moves ..)
    | with_reducible apply Moves.each
    | split
    | (with_reducible refine Moves.snd (by assumption) ?_)
    | (with_reducible refine Moves.fst (by assumption) ?_)
    | (with_reducible refine Moves.trd (by assumption) ?_)
    | dsimp +zetaDelta only

theorem State.linkClear_moves (s : State) (l : Nat) : Moves 0x500008001000 s (State.linkClear s l) := by
  unfold State.linkClear
  repeat' first
    | with_reducible assumption
    | with_reducible exact Moves.refl _ _
    | decide
    | ((with_reducible refine Moves.q_put (n := 11) (k := 13) ?_ ?_ ?_ ?_ ?_); (first | rfl | assumption | exact lkATTEMPTS_block .. | exact lkPARMIS_block .. | exact lkREPCOL_block .. | exact lkUNCORR_block .. | exact lnCV_block .. | exact lnREPAIRS_block ..); decide; decide; decide)
    | intro _
    | extract_lets
    | with_reducible apply Moves.step (State.setPort_moves ..)
    | with_reducible apply Moves.each
    | dsimp +zetaDelta only

theorem State.ringClear_moves (s : State) : Moves 0x500008001000 s (State.ringClear s) := by
  unfold State.ringClear
  repeat' first
    | with_reducible assumption
    | with_reducible exact Moves.refl _ _
    | decide
    | ((with_reducible refine Moves.p_put (n := 13) ?_ ?_ ?_ ?_); (first | rfl | assumption); decide; decide)
    | with_reducible apply Moves.step (State.linkClear_moves ..)

theorem State.ringLeaveRun_moves (s : State) : Moves 0x4000 s (State.ringLeaveRun s) := by
  unfold State.ringLeaveRun
  repeat' first
    | with_reducible assumption
    | with_reducible exact Moves.refl _ _
    | decide
    | rw [State.upd_ring]
    | with_reducible apply Moves.step (State.with_ring_moves ..)

end Sys2Proof.Machine
end

