-- ==== Sys2Proof/Laws/MovesCrane.lean ====
section
/-! SUPPORT. What each operation of Machine/Crane.lean may change. -/

namespace Sys2Proof.Machine

set_option linter.all false

theorem State.setChan_moves (s : State) (n : Nat) (x : Chan) : Moves 0x100000 s (State.setChan s n x) := by
  unfold State.setChan
  repeat' first
    | with_reducible assumption
    | with_reducible exact Moves.refl _ _
    | decide
    | rw [State.upd_crane]
    | with_reducible apply Moves.step (State.with_crane_moves ..)

theorem State.craneTo_moves (s : State) (n st : Nat) : Moves 0x40000008000000 s (State.craneTo s n st) := by
  unfold State.craneTo
  repeat' first
    | with_reducible assumption
    | with_reducible exact Moves.refl _ _
    | decide
    | ((with_reducible refine Moves.p_put (n := 21) ?_ ?_ ?_ ?_); (first | rfl | assumption | (dsimp only [F.CRANE_C_STAT_STATE, F.CRANE_STAT_ACTIVE]; omega)); decide; decide)

theorem State.craneHalt_moves (s : State) (n cause : Nat) : Moves 0x840200288102022 s (State.craneHalt s n cause) := by
  unfold State.craneHalt
  repeat' first
    | with_reducible assumption
    | with_reducible exact Moves.refl _ _
    | decide
    | ((with_reducible refine Moves.p_put (n := 21) ?_ ?_ ?_ ?_); (first | rfl | assumption | (dsimp only [F.CRANE_C_STAT_STOPC]; omega)); decide; decide)
    | ((with_reducible refine Moves.p_raise (n := 21) ?_ ?_ ?_ ?_); (first | rfl | (split <;> rfl)); decide; decide)
    | with_reducible apply Moves.ite
    | extract_lets
    | with_reducible apply Moves.step (State.setChan_moves ..)
    | with_reducible apply Moves.step (State.craneTo_moves ..)
    | split
    | dsimp +zetaDelta only

theorem State.craneGate_moves (s : State) (n : Nat) : Moves 0x40000008100000 s (State.craneGate s n) := by
  unfold State.craneGate
  repeat' first
    | with_reducible assumption
    | with_reducible exact Moves.refl _ _
    | decide
    | with_reducible apply Moves.ite
    | extract_lets
    | with_reducible apply Moves.step (State.craneTo_moves ..)
    | with_reducible apply Moves.step (State.setChan_moves ..)
    | split
    | dsimp +zetaDelta only

theorem State.craneThr_moves (s : State) (n : Nat) : Moves 0x40000008100000 s (State.craneThr s n) := by
  unfold State.craneThr
  repeat' first
    | with_reducible assumption
    | with_reducible exact Moves.refl _ _
    | decide
    | ((with_reducible refine Moves.p_putb (n := 21) ?_ ?_ ?_ ?_); (first | rfl | assumption | (dsimp only [F.CRANE_C_STAT_THR]; omega)); decide; decide)
    | with_reducible apply Moves.step (State.craneGate_moves ..)

theorem State.craneThrottle_moves (s : State) (level : Nat) : Moves 0x840200288102022 s (State.craneThrottle s level) := by
  unfold State.craneThrottle
  repeat' first
    | with_reducible assumption
    | with_reducible exact Moves.refl _ _
    | decide
    | ((with_reducible refine Moves.p_putb (n := 21) ?_ ?_ ?_ ?_); (first | rfl | assumption); decide; decide)
    | ((with_reducible refine Moves.p_raise (n := 21) ?_ ?_ ?_ ?_); (first | rfl | (split <;> rfl)); decide; decide)
    | intro _
    | with_reducible apply Moves.ite
    | extract_lets
    | with_reducible apply Moves.step (State.craneThr_moves ..)
    | with_reducible apply Moves.each
    | split
    | dsimp +zetaDelta only

theorem State.craneGo_moves (s : State) (n level : Nat) (pilot : Bool) : Moves 0x840200288102022 s (State.craneGo s n level pilot) := by
  unfold State.craneGo
  simp -zeta only [State.upd_crane]
  repeat' first
    | with_reducible assumption
    | with_reducible exact Moves.refl _ _
    | decide
    | ((with_reducible refine Moves.p_putb (n := 21) ?_ ?_ ?_ ?_); (first | rfl | assumption | (dsimp only [F.CRANE_C_STAT_REFUSED]; omega)); decide; decide)
    | ((with_reducible refine Moves.p_raise (n := 21) ?_ ?_ ?_ ?_); (first | rfl | (split <;> rfl)); decide; decide)
    | ((with_reducible refine Moves.p_put (n := 21) ?_ ?_ ?_ ?_); (first | rfl | assumption | (dsimp only [F.CRANE_C_STAT_LEVEL, F.CRANE_C_STAT_LINKS, F.CRANE_C_STAT_STOPC]; omega)); decide; decide)
    | with_reducible apply Moves.ite
    | extract_lets
    | rw [State.upd_crane]
    | with_reducible apply Moves.step (State.with_crane_moves ..)
    | with_reducible apply Moves.step (State.setChan_moves ..)
    | with_reducible apply Moves.step (State.craneTo_moves ..)
    | with_reducible apply Moves.step (State.craneGate_moves ..)
    | split
    | dsimp +zetaDelta only

theorem State.craneKick_moves (s : State) (n : Nat) : Moves 0x40000008100000 s (State.craneKick s n) := by
  unfold State.craneKick
  repeat' first
    | with_reducible assumption
    | with_reducible exact Moves.refl _ _
    | decide
    | ((with_reducible refine Moves.p_putb (n := 21) ?_ ?_ ?_ ?_); (first | rfl | assumption | (dsimp only [F.CRANE_C_STAT_KICK_PEND]; omega)); decide; decide)
    | with_reducible apply Moves.ite
    | extract_lets
    | with_reducible apply Moves.step (State.setChan_moves ..)
    | with_reducible apply Moves.step (State.craneTo_moves ..)
    | split
    | dsimp +zetaDelta only

theorem State.craneCur_moves (s : State) (n : Nat) : Moves 0x40000008000000 s (State.craneCur s n) := by
  unfold State.craneCur
  repeat' first
    | with_reducible assumption
    | with_reducible exact Moves.refl _ _
    | decide
    | ((with_reducible refine Moves.p_put (n := 21) ?_ ?_ ?_ ?_); (first | rfl | assumption | (dsimp only [F.CRANE_C_CUR_DST_HI_ADDR, F.CRANE_C_CUR_DST_LO_ADDR, F.CRANE_C_CUR_SRC_HI_ADDR, F.CRANE_C_CUR_SRC_LO_ADDR, F.CRANE_C_REMAIN_BYTES]; omega)); decide; decide)
    | with_reducible apply Moves.ite
    | extract_lets
    | split
    | dsimp +zetaDelta only

theorem State.craneSettle_moves (s : State) (n : Nat) : Moves 0x100000 s (State.craneSettle s n) := by
  unfold State.craneSettle
  repeat' first
    | with_reducible assumption
    | with_reducible exact Moves.refl _ _
    | decide
    | with_reducible apply Moves.ite
    | extract_lets
    | with_reducible apply Moves.step (State.setChan_moves ..)
    | split
    | dsimp +zetaDelta only

theorem State.craneMark_moves (s : State) (n cause : Nat) (at_ : Option Nat) : Moves 0x100000 s (State.craneMark s n cause at_) := by
  unfold State.craneMark
  repeat' first
    | with_reducible assumption
    | with_reducible exact Moves.refl _ _
    | decide
    | with_reducible apply Moves.ite
    | extract_lets
    | with_reducible apply Moves.step (State.setChan_moves ..)
    | with_reducible apply Moves.step (State.craneSettle_moves ..)
    | split
    | dsimp +zetaDelta only

theorem State.manifestFetch_moves (s : State) (n : Nat) : Moves 0x840200288102022 s (State.manifestFetch s n) := by
  unfold State.manifestFetch
  repeat' first
    | with_reducible assumption
    | with_reducible exact Moves.refl _ _
    | decide
    | ((with_reducible refine Moves.p_putb (n := 21) ?_ ?_ ?_ ?_); (first | rfl | assumption | (dsimp only [F.CRANE_C_STAT_DESC, F.CRANE_C_STAT_KICK_PEND]; omega)); decide; decide)
    | with_reducible apply Moves.ite
    | extract_lets
    | with_reducible apply Moves.step (State.craneHalt_moves ..)
    | with_reducible apply Moves.step (State.setChan_moves ..)
    | with_reducible apply Moves.step (State.craneCur_moves ..)
    | with_reducible apply Moves.step (State.craneTo_moves ..)
    | split
    | dsimp +zetaDelta only

theorem State.manStore_moves (s : State) (n : Nat) : Moves 0x10000000 s (State.manStore s n) := by
  unfold State.manStore
  repeat' first
    | with_reducible assumption
    | with_reducible exact Moves.refl _ _
    | decide
    | with_reducible apply Moves.ite
    | extract_lets
    | with_reducible apply Moves.step (State.setMemWord_moves ..)
    | split
    | (with_reducible refine Moves.snd (by assumption) ?_)
    | (with_reducible refine Moves.fst (by assumption) ?_)
    | (with_reducible refine Moves.trd (by assumption) ?_)
    | dsimp +zetaDelta only

theorem State.manCount_moves (s : State) (n : Nat) : Moves 0x84020028c002022 s (State.manCount s n) := by
  unfold State.manCount
  simp -zeta only [State.upd_limits]
  repeat' first
    | with_reducible assumption
    | with_reducible exact Moves.refl _ _
    | decide
    | ((with_reducible refine Moves.p_incWrap (n := 21) ?_ ?_ ?_ ?_); (first | rfl | assumption | (dsimp only [F.CRANE_C_DONE_COUNT]; omega)); decide; decide)
    | ((with_reducible refine Moves.p_inc (n := 21) ?_ ?_ ?_ ?_); (first | rfl | assumption | (dsimp only [F.CRANE_C_BAD_COUNT]; omega)); decide; decide)
    | ((with_reducible refine Moves.p_put (n := 21) ?_ ?_ ?_ ?_); (first | rfl | assumption | (dsimp only [F.CRANE_C_LAST_BAD_CAUSE, F.CRANE_C_LAST_BAD_INDEX]; omega)); decide; decide)
    | ((with_reducible refine Moves.p_raiseMs (n := 21) ?_ ?_ ?_ ?_); (first | rfl | (split <;> rfl)); decide; decide)
    | ((with_reducible refine Moves.p_raiseIrq (n := 21) ?_ ?_ ?_ ?_); (first | rfl | (split <;> rfl)); decide; decide)
    | with_reducible apply Moves.ite
    | extract_lets
    | rw [State.upd_limits]
    | with_reducible apply Moves.step (State.with_limits_moves ..)
    | split
    | dsimp +zetaDelta only

theorem State.headNext_moves (s : State) (n : Nat) : Moves 0x40000008000000 s (State.headNext s n) := by
  unfold State.headNext
  repeat' first
    | with_reducible assumption
    | with_reducible exact Moves.refl _ _
    | decide
    | ((with_reducible refine Moves.p_put (n := 21) ?_ ?_ ?_ ?_); (first | rfl | assumption | (dsimp only [F.CRANE_C_HEAD_HEAD]; omega)); decide; decide)

theorem State.manifestBack_moves (s : State) (n : Nat) : Moves 0x84020029c102022 s (State.manifestBack s n) := by
  unfold State.manifestBack
  repeat' first
    | with_reducible assumption
    | with_reducible exact Moves.refl _ _
    | decide
    | ((with_reducible refine Moves.p_put (n := 21) ?_ ?_ ?_ ?_); (first | rfl | assumption | (dsimp only [F.CRANE_C_BASE_HI_BASE, F.CRANE_C_BASE_LO_BASE, F.CRANE_C_CTL_LOG_SIZE, F.CRANE_C_HEAD_HEAD]; omega)); decide; decide)
    | with_reducible apply Moves.ite
    | extract_lets
    | with_reducible apply Moves.step (State.manStore_moves ..)
    | with_reducible apply Moves.step (State.manCount_moves ..)
    | with_reducible apply Moves.step (State.craneHalt_moves ..)
    | with_reducible apply Moves.step (State.setChan_moves ..)
    | with_reducible apply Moves.step (State.headNext_moves ..)
    | split
    | dsimp +zetaDelta only

theorem State.craneStopEnd_moves (s : State) (n : Nat) : Moves 0x84020029c102022 s (State.craneStopEnd s n) := by
  unfold State.craneStopEnd
  repeat' first
    | with_reducible assumption
    | with_reducible exact Moves.refl _ _
    | decide
    | with_reducible apply Moves.ite
    | extract_lets
    | with_reducible apply Moves.step (State.setChan_moves ..)
    | with_reducible apply Moves.step (State.manStore_moves ..)
    | with_reducible apply Moves.step (State.manCount_moves ..)
    | with_reducible apply Moves.step (State.headNext_moves ..)
    | with_reducible apply Moves.step (State.craneHalt_moves ..)
    | split
    | dsimp +zetaDelta only

theorem State.craneStop_moves (s : State) (n : Nat) : Moves 0x84020029c102022 s (State.craneStop s n) := by
  unfold State.craneStop
  repeat' first
    | with_reducible assumption
    | with_reducible exact Moves.refl _ _
    | decide
    | with_reducible apply Moves.ite
    | extract_lets
    | with_reducible apply Moves.step (State.craneStopEnd_moves ..)
    | with_reducible apply Moves.step (State.setChan_moves ..)
    | with_reducible apply Moves.step (State.craneTo_moves ..)
    | with_reducible apply Moves.step (State.craneHalt_moves ..)
    | split
    | dsimp +zetaDelta only

theorem State.cranePaused_moves (s : State) (n : Nat) : Moves 0x84020029c102022 s (State.cranePaused s n) := by
  unfold State.cranePaused
  repeat' first
    | with_reducible assumption
    | with_reducible exact Moves.refl _ _
    | decide
    | with_reducible apply Moves.ite
    | extract_lets
    | with_reducible apply Moves.step (State.craneStopEnd_moves ..)
    | with_reducible apply Moves.step (State.craneCur_moves ..)
    | with_reducible apply Moves.step (State.craneTo_moves ..)
    | split
    | dsimp +zetaDelta only

theorem State.craneLink_moves (s : State) (n : Nat) : Moves 0x40000008100000 s (State.craneLink s n) := by
  unfold State.craneLink
  repeat' first
    | with_reducible assumption
    | with_reducible exact Moves.refl _ _
    | decide
    | ((with_reducible refine Moves.p_put (n := 21) ?_ ?_ ?_ ?_); (first | rfl | assumption | (dsimp only [F.CRANE_C_STAT_LINKS]; omega)); decide; decide)
    | with_reducible apply Moves.ite
    | extract_lets
    | with_reducible apply Moves.step (State.setChan_moves ..)
    | split
    | dsimp +zetaDelta only

theorem State.craneReserved_moves (s : State) (n : Nat) : Moves 0x100000 s (State.craneReserved s n) := by
  unfold State.craneReserved
  repeat' first
    | with_reducible assumption
    | with_reducible exact Moves.refl _ _
    | decide
    | with_reducible apply Moves.ite
    | extract_lets
    | with_reducible apply Moves.step (State.setChan_moves ..)
    | split
    | dsimp +zetaDelta only

theorem State.craneTimeout_moves (s : State) (n : Nat) : Moves 0x840200288102022 s (State.craneTimeout s n) := by
  unfold State.craneTimeout
  repeat' first
    | with_reducible assumption
    | with_reducible exact Moves.refl _ _
    | decide
    | with_reducible apply Moves.ite
    | extract_lets
    | with_reducible apply Moves.step (State.craneHalt_moves ..)
    | with_reducible apply Moves.step (State.craneMark_moves ..)
    | split
    | dsimp +zetaDelta only

theorem State.remoteFail_moves (s : State) (n k cause : Nat) : Moves 0x100000 s (State.remoteFail s n k cause) := by
  unfold State.remoteFail
  repeat' first
    | with_reducible assumption
    | with_reducible exact Moves.refl _ _
    | decide
    | with_reducible apply Moves.ite
    | extract_lets
    | with_reducible apply Moves.step (State.setChan_moves ..)
    | split
    | dsimp +zetaDelta only

theorem State.remoteAnswer_moves (s : State) (b id : Nat) (ok : Bool) : Moves 0x100000 s (State.remoteAnswer s b id ok) := by
  unfold State.remoteAnswer
  repeat' first
    | with_reducible assumption
    | with_reducible exact Moves.refl _ _
    | decide
    | with_reducible apply Moves.ite
    | extract_lets
    | with_reducible apply Moves.step (State.setChan_moves ..)
    | with_reducible apply Moves.step (State.remoteFail_moves ..)
    | with_reducible apply Moves.step (State.craneSettle_moves ..)
    | split
    | (with_reducible refine Moves.snd (by assumption) ?_)
    | (with_reducible refine Moves.fst (by assumption) ?_)
    | (with_reducible refine Moves.trd (by assumption) ?_)
    | dsimp +zetaDelta only

theorem State.remoteTimeout_moves (s : State) (n : Nat) : Moves 0x800048100040 s (State.remoteTimeout s n) := by
  unfold State.remoteTimeout
  repeat' first
    | with_reducible assumption
    | with_reducible exact Moves.refl _ _
    | decide
    | with_reducible apply Moves.ite
    | extract_lets
    | with_reducible apply Moves.step (State.elapseTo_moves ..)
    | with_reducible apply Moves.step (State.setChan_moves ..)
    | with_reducible apply Moves.step (State.remoteFail_moves ..)
    | with_reducible apply Moves.step (State.craneSettle_moves ..)
    | split
    | (with_reducible refine Moves.snd (by assumption) ?_)
    | (with_reducible refine Moves.fst (by assumption) ?_)
    | (with_reducible refine Moves.trd (by assumption) ?_)
    | dsimp +zetaDelta only

theorem State.craneLinks_moves (s : State) : Moves 0x100000 s (State.craneLinks s) := by
  unfold State.craneLinks
  repeat' first
    | with_reducible assumption
    | with_reducible exact Moves.refl _ _
    | decide
    | intro _
    | with_reducible apply Moves.ite
    | with_reducible apply Moves.step (State.setChan_moves ..)
    | with_reducible apply Moves.step (State.remoteFail_moves ..)
    | with_reducible apply Moves.step (State.craneSettle_moves ..)
    | with_reducible apply Moves.each
    | split
    | (with_reducible refine Moves.snd (by assumption) ?_)
    | (with_reducible refine Moves.fst (by assumption) ?_)
    | (with_reducible refine Moves.trd (by assumption) ?_)

theorem State.craneClear_moves (s : State) : Moves 0x40000008000000 s (State.craneClear s) := by
  unfold State.craneClear
  repeat' first
    | with_reducible assumption
    | with_reducible exact Moves.refl _ _
    | decide
    | ((with_reducible refine Moves.p_put (n := 21) ?_ ?_ ?_ ?_); (first | rfl | assumption | (dsimp only [F.CRANE_C_BAD_COUNT]; omega)); decide; decide)
    | intro _
    | with_reducible apply Moves.each

theorem State.craneLower_moves (s : State) : Moves 0x10100000 s (State.craneLower s) := by
  unfold State.craneLower
  repeat' first
    | with_reducible assumption
    | with_reducible exact Moves.refl _ _
    | decide
    | rw [State.upd_crane]
    | with_reducible apply Moves.step (State.with_crane_moves ..)
    | with_reducible apply Moves.step (State.clearRange_moves ..)

theorem State.craneCtlFields_moves (s : State) (n v : Nat) : Moves 0x40000008100000 s (State.craneCtlFields s n v) := by
  unfold State.craneCtlFields
  repeat' first
    | with_reducible assumption
    | with_reducible exact Moves.refl _ _
    | decide
    | ((with_reducible refine Moves.p_put (n := 21) ?_ ?_ ?_ ?_); (first | rfl | assumption | (dsimp only [F.CRANE_C_CTL_LOG_SIZE]; omega)); decide; decide)
    | ((with_reducible refine Moves.p_putb (n := 21) ?_ ?_ ?_ ?_); (first | rfl | assumption | (dsimp only [F.CRANE_C_CTL_PAUSE, F.CRANE_C_CTL_URGENT]; omega)); decide; decide)
    | with_reducible apply Moves.ite
    | extract_lets
    | with_reducible apply Moves.step (State.craneThr_moves ..)
    | split
    | dsimp +zetaDelta only

theorem State.craneCtl_moves (s : State) (n v level : Nat) (pilot : Bool) : Moves 0x84020029c102022 s (State.craneCtl s n v level pilot) := by
  unfold State.craneCtl
  repeat' first
    | with_reducible assumption
    | with_reducible exact Moves.refl _ _
    | decide
    | ((with_reducible refine Moves.p_put (n := 21) ?_ ?_ ?_ ?_); (first | rfl | assumption | (dsimp only [F.CRANE_C_CTL_LOG_SIZE]; omega)); decide; decide)
    | with_reducible apply Moves.ite
    | extract_lets
    | with_reducible apply Moves.step (State.craneGo_moves ..)
    | with_reducible apply Moves.step (State.craneCtlFields_moves ..)
    | with_reducible apply Moves.step (State.craneKick_moves ..)
    | with_reducible apply Moves.step (State.craneStop_moves ..)
    | split
    | dsimp +zetaDelta only

end Sys2Proof.Machine
end

