-- ==== Sys2Proof/Laws/MovesThrottle.lean ====
section
/-! SUPPORT. What each operation of Machine/Throttle.lean may change. -/

namespace Sys2Proof.Machine

set_option linter.all false

theorem State.backOffLevel_moves (s : State) (level : Nat) : Moves 0x100 s (State.backOffLevel s level) := by
  unfold State.backOffLevel
  repeat' first
    | with_reducible assumption
    | with_reducible exact Moves.refl _ _
    | decide
    | with_reducible apply Moves.ite
    | extract_lets
    | with_reducible apply Moves.step (State.gainSet_moves ..)
    | split
    | dsimp +zetaDelta only

theorem State.throttleApply_moves (s : State) : Moves 0x8522a839c192922 s (State.throttleApply s) := by
  unfold State.throttleApply
  repeat' first
    | with_reducible assumption
    | with_reducible exact Moves.refl _ _
    | decide
    | ((with_reducible refine Moves.p_putb (n := 8) ?_ ?_ ?_ ?_); (first | rfl | assumption); decide; decide)
    | with_reducible apply Moves.ite
    | extract_lets
    | with_reducible apply Moves.step (State.gaugeSuspend_moves ..)
    | with_reducible apply Moves.step (State.gaugeResume_moves ..)
    | with_reducible apply Moves.step (State.craneThrottle_moves ..)
    | with_reducible apply Moves.step (State.thinLevel_moves ..)
    | with_reducible apply Moves.step (State.backOffLevel_moves ..)
    | split
    | dsimp +zetaDelta only

theorem State.throttleSync_moves (s : State) : Moves 0x8d22a839c192922 s (State.throttleSync s) := by
  unfold State.throttleSync
  repeat' first
    | with_reducible assumption
    | with_reducible exact Moves.refl _ _
    | decide
    | ((with_reducible refine Moves.p_put (n := 22) ?_ ?_ ?_ ?_); (first | rfl | assumption); decide; decide)
    | ((with_reducible refine Moves.p_raise (n := 22) ?_ ?_ ?_ ?_); (first | rfl | (split <;> rfl)); decide; decide)
    | with_reducible apply Moves.ite
    | extract_lets
    | with_reducible apply Moves.step (State.throttleApply_moves ..)
    | split
    | dsimp +zetaDelta only

theorem Moves.p_throttleReq {M n : Nat} {s0 s : State} {f : Field} {v : Nat} (hn : f.addr / 65536 = n) (hm : 0x8d22a839c192922 ||| M = M)
    (hb : 2 ^ (33 + n) ||| M = M) (h : Moves M s0 s) : Moves M s0 (s.throttleReq f v) := by
  unfold State.throttleReq
  exact Moves.step (State.throttleSync_moves ..) (sub_trans (by decide) hm) (Moves.p_put hn (sub_trans (by decide) hm) hb h)

end Sys2Proof.Machine
end

