-- ==== Sys2Proof/Laws/MovesSessions.lean ====
section
/-! SUPPORT. What each operation of Machine/Sessions.lean may change. -/

namespace Sys2Proof.Machine

set_option linter.all false

theorem chalAddr_block (p : Nat) : (chalAddr p) / 65536 = 25 := by
  unfold chalAddr
  (omega)

theorem respAddr_block (p : Nat) : (respAddr p) / 65536 = 25 := by
  unfold respAddr
  (omega)

theorem fuseAddr_block  : fuseAddr / 65536 = 25 := by
  unfold fuseAddr
  (omega)

theorem State.setSecPort_moves (s : State) (p : Nat) (x : SecPort) : Moves 0x800000 s (State.setSecPort s p x) := by
  unfold State.setSecPort
  repeat' first
    | with_reducible assumption
    | with_reducible exact Moves.refl _ _
    | decide
    | with_reducible apply Moves.ite
    | rw [State.upd_sec]
    | with_reducible apply Moves.step (State.with_sec_moves ..)
    | split

theorem State.setPortLevel_moves (s : State) (p l : Nat) : Moves 0x400000008000000 s (State.setPortLevel s p l) := by
  unfold State.setPortLevel
  repeat' first
    | with_reducible assumption
    | with_reducible exact Moves.refl _ _
    | decide
    | ((with_reducible refine Moves.p_put (n := 25) ?_ ?_ ?_ ?_); (first | rfl | assumption | (dsimp only [F.SEC_P_STAT_LEVEL, F.SEC_STAT_LEVEL]; omega)); decide; decide)

theorem State.portResult_moves (s : State) (p r : Nat) : Moves 0x400000008000000 s (State.portResult s p r) := by
  unfold State.portResult
  repeat' first
    | with_reducible assumption
    | with_reducible exact Moves.refl _ _
    | decide
    | ((with_reducible refine Moves.p_put (n := 25) ?_ ?_ ?_ ?_); (first | rfl | assumption | (dsimp only [F.SEC_P_STAT_RESULT]; omega)); decide; decide)

theorem Moves.p_setWordsBytes {M n : Nat} {s0 s : State} {a : Nat} {l : List Byte} (hn : ∀ i < 64, (a + 4 * i) / 65536 = n) (hm : 0x8000000 ||| M = M)
    (hb : 2 ^ (33 + n) ||| M = M) (h : Moves M s0 s) : Moves M s0 (s.setWordsBytes a l) := by
  unfold State.setWordsBytes
  exact Moves.foldlMem (fun t i hi ht => Moves.p_setWord (hn i (by have := List.mem_range.mp hi; omega)) (sub_trans (by decide) hm) hb ht) h

theorem Moves.p_clearWords {M n : Nat} {s0 s : State} {a k : Nat} (hn : ∀ i < k, (a + 4 * i) / 65536 = n) (hm : 0x8000000 ||| M = M)
    (hb : 2 ^ (33 + n) ||| M = M) (h : Moves M s0 s) : Moves M s0 (s.clearWords a k) := by
  unfold State.clearWords
  exact Moves.foldlMem (fun t i hi ht => Moves.p_setWord (hn i (by exact List.mem_range.mp hi)) (sub_trans (by decide) hm) hb ht) h

theorem State.resetSoon_moves (s : State) : Moves 0xffffffe1ffffffb s (State.resetSoon s) := by
  unfold State.resetSoon
  repeat' first
    | with_reducible assumption
    | with_reducible exact Moves.refl _ _
    | decide
    | rw [State.upd_boot]
    | with_reducible apply Moves.step (State.with_boot_moves ..)
    | with_reducible apply Moves.step (State.selfReset_moves ..)
    | split
    | (with_reducible refine Moves.snd (by assumption) ?_)
    | (with_reducible refine Moves.fst (by assumption) ?_)
    | (with_reducible refine Moves.trd (by assumption) ?_)

theorem State.dbgTo_moves (s : State) (new src : Nat) : Moves 0xffffffe9ffffffb s (State.dbgTo s new src) := by
  unfold State.dbgTo
  simp -zeta only [State.upd_sec]
  repeat' first
    | with_reducible assumption
    | with_reducible exact Moves.refl _ _
    | decide
    | ((with_reducible refine Moves.p_put (n := 25) ?_ ?_ ?_ ?_); (first | rfl | assumption); decide; decide)
    | ((with_reducible refine Moves.p_raise (n := 25) ?_ ?_ ?_ ?_); (first | rfl | (split <;> rfl)); decide; decide)
    | with_reducible apply Moves.ite
    | extract_lets
    | rw [State.upd_sec]
    | with_reducible apply Moves.step (State.with_sec_moves ..)
    | with_reducible apply Moves.step (State.feClear_moves ..)
    | with_reducible apply Moves.step (State.txCause_moves ..)
    | with_reducible apply Moves.step (State.resetSoon_moves ..)
    | split
    | dsimp +zetaDelta only

theorem State.dbgGiveUp_moves (s : State) : Moves 0x802208288812122 s (State.dbgGiveUp s) := by
  unfold State.dbgGiveUp
  repeat' first
    | with_reducible assumption
    | with_reducible exact Moves.refl _ _
    | decide
    | rw [State.upd_sec]
    | with_reducible apply Moves.step (State.with_sec_moves ..)
    | with_reducible apply Moves.step (State.feClear_moves ..)
    | with_reducible apply Moves.step (State.txCause_moves ..)
    | split
    | (with_reducible refine Moves.snd (by assumption) ?_)
    | (with_reducible refine Moves.fst (by assumption) ?_)
    | (with_reducible refine Moves.trd (by assumption) ?_)

theorem State.dbgOff_moves (s : State) (src : Nat) : Moves 0xffffffe9ffffffb s (State.dbgOff s src) := by
  unfold State.dbgOff
  repeat' first
    | with_reducible assumption
    | with_reducible exact Moves.refl _ _
    | decide
    | with_reducible apply Moves.step (State.dbgGiveUp_moves ..)
    | with_reducible apply Moves.step (State.dbgTo_moves ..)

theorem State.dbgReq_moves (s : State) (req src : Nat) : Moves 0xffffffe9ffffffb s (State.dbgReq s req src) := by
  unfold State.dbgReq
  simp -zeta only [State.upd_sec]
  repeat' first
    | with_reducible assumption
    | with_reducible exact Moves.refl _ _
    | decide
    | ((with_reducible refine Moves.p_put (n := 25) ?_ ?_ ?_ ?_); (first | rfl | assumption); decide; decide)
    | with_reducible apply Moves.ite
    | extract_lets
    | rw [State.upd_sec]
    | with_reducible apply Moves.step (State.with_sec_moves ..)
    | with_reducible apply Moves.step (State.dbgOff_moves ..)
    | with_reducible apply Moves.step (State.dbgGiveUp_moves ..)
    | with_reducible apply Moves.step (State.dbgTo_moves ..)
    | with_reducible apply Moves.step (State.txCause_moves ..)
    | with_reducible apply Moves.step (State.feSet_moves ..)
    | split
    | dsimp +zetaDelta only

theorem State.dbgEnter_moves (s : State) : Moves 0xffffffe9ffffffb s (State.dbgEnter s) := by
  unfold State.dbgEnter
  repeat' first
    | with_reducible assumption
    | with_reducible exact Moves.refl _ _
    | decide
    | with_reducible apply Moves.ite
    | rw [State.upd_sec]
    | with_reducible apply Moves.step (State.with_sec_moves ..)
    | with_reducible apply Moves.step (State.dbgTo_moves ..)
    | split
    | (with_reducible refine Moves.snd (by assumption) ?_)
    | (with_reducible refine Moves.fst (by assumption) ?_)
    | (with_reducible refine Moves.trd (by assumption) ?_)

theorem State.sesClose_moves (s : State) (p cause : Nat) : Moves 0xffffffe9ffffffb s (State.sesClose s p cause) := by
  unfold State.sesClose
  repeat' first
    | with_reducible assumption
    | with_reducible exact Moves.refl _ _
    | decide
    | ((with_reducible refine Moves.p_raise (n := 25) ?_ ?_ ?_ ?_); (first | rfl | (split <;> rfl)); decide; decide)
    | with_reducible apply Moves.ite
    | extract_lets
    | with_reducible apply Moves.step (State.setSecPort_moves ..)
    | with_reducible apply Moves.step (State.setPortLevel_moves ..)
    | with_reducible apply Moves.step (State.dbgOff_moves ..)
    | split
    | dsimp +zetaDelta only

theorem State.sesGo_moves (s : State) (p level : Nat) : Moves 0x400000108800000 s (State.sesGo s p level) := by
  unfold State.sesGo
  repeat' first
    | with_reducible assumption
    | with_reducible exact Moves.refl _ _
    | decide
    | ((with_reducible refine Moves.p_put (n := 25) ?_ ?_ ?_ ?_); (first | rfl | assumption | (dsimp only [F.SEC_P_REQ_LEVEL]; omega)); decide; decide)
    | ((with_reducible refine Moves.p_setWordsBytes (n := 25) ?_ ?_ ?_ ?_); (intro i hi; (first | omega | (dsimp only [chalAddr]; omega))); decide; decide)
    | with_reducible apply Moves.ite
    | extract_lets
    | with_reducible apply Moves.step (State.portResult_moves ..)
    | with_reducible apply Moves.step (State.drawMany_moves ..)
    | with_reducible apply Moves.step (State.setSecPort_moves ..)
    | split
    | (with_reducible refine Moves.snd (by assumption) ?_)
    | (with_reducible refine Moves.fst (by assumption) ?_)
    | (with_reducible refine Moves.trd (by assumption) ?_)
    | dsimp +zetaDelta only

theorem State.sesFail_moves (s : State) (p level : Nat) : Moves 0xffffffe9ffffffb s (State.sesFail s p level) := by
  unfold State.sesFail
  repeat' first
    | with_reducible assumption
    | with_reducible exact Moves.refl _ _
    | decide
    | ((with_reducible refine Moves.p_put (n := 25) ?_ ?_ ?_ ?_); (first | rfl | assumption | (dsimp only [F.SEC_P_STAT_FAILS]; omega)); decide; decide)
    | ((with_reducible refine Moves.p_raise (n := 25) ?_ ?_ ?_ ?_); (first | rfl | (split <;> rfl)); decide; decide)
    | ((with_reducible refine Moves.p_raiseHead (n := 25) ?_ ?_ ?_ ?_); (first | rfl | (split <;> rfl)); decide; decide)
    | with_reducible apply Moves.ite
    | extract_lets
    | with_reducible apply Moves.step (State.sesClose_moves ..)
    | with_reducible apply Moves.step (State.portResult_moves ..)
    | with_reducible apply Moves.step (State.setSecPort_moves ..)
    | split
    | dsimp +zetaDelta only

theorem State.sesVerify_moves (s : State) (p : Nat) : Moves 0xffffffe9ffffffb s (State.sesVerify s p) := by
  unfold State.sesVerify
  repeat' first
    | with_reducible assumption
    | with_reducible exact Moves.refl _ _
    | decide
    | ((with_reducible refine Moves.p_put (n := 25) ?_ ?_ ?_ ?_); (first | rfl | assumption | (dsimp only [F.SEC_P_STAT_FAILS]; omega)); decide; decide)
    | ((with_reducible refine Moves.p_raise (n := 25) ?_ ?_ ?_ ?_); (first | rfl | (split <;> rfl)); decide; decide)
    | with_reducible apply Moves.ite
    | extract_lets
    | with_reducible apply Moves.step (State.setSecPort_moves ..)
    | with_reducible apply Moves.step (State.portResult_moves ..)
    | with_reducible apply Moves.step (State.setPortLevel_moves ..)
    | with_reducible apply Moves.step (State.sesFail_moves ..)
    | split
    | (with_reducible refine Moves.snd (by assumption) ?_)
    | (with_reducible refine Moves.fst (by assumption) ?_)
    | (with_reducible refine Moves.trd (by assumption) ?_)
    | dsimp +zetaDelta only

theorem State.sesReq_moves (s : State) (p v : Nat) : Moves 0xfffffff9ffffffb s (State.sesReq s p v) := by
  unfold State.sesReq
  repeat' first
    | with_reducible assumption
    | with_reducible exact Moves.refl _ _
    | decide
    | ((with_reducible refine Moves.p_put (n := 25) ?_ ?_ ?_ ?_); (first | rfl | assumption | (dsimp only [F.SEC_P_REQ_LEVEL]; omega)); decide; decide)
    | with_reducible apply Moves.ite
    | extract_lets
    | with_reducible apply Moves.step (State.portResult_moves ..)
    | with_reducible apply Moves.step (State.sesGo_moves ..)
    | with_reducible apply Moves.step (State.sesVerify_moves ..)
    | with_reducible apply Moves.step (State.sesClose_moves ..)
    | split
    | dsimp +zetaDelta only

theorem State.sesTimeout_moves (s : State) (p : Nat) : Moves 0xffffffedffffffb s (State.sesTimeout s p) := by
  unfold State.sesTimeout
  repeat' first
    | with_reducible assumption
    | with_reducible exact Moves.refl _ _
    | decide
    | with_reducible apply Moves.ite
    | with_reducible apply Moves.step (State.elapseTo_moves ..)
    | with_reducible apply Moves.step (State.sesClose_moves ..)
    | split

theorem State.sesTouch_moves (s : State) (p : Nat) : Moves 0x800000 s (State.sesTouch s p) := by
  unfold State.sesTouch
  repeat' first
    | with_reducible assumption
    | with_reducible exact Moves.refl _ _
    | decide
    | with_reducible apply Moves.step (State.setSecPort_moves ..)

theorem State.sesLinks_moves (s : State) : Moves 0xffffffe9ffffffb s (State.sesLinks s) := by
  unfold State.sesLinks
  repeat' first
    | with_reducible assumption
    | with_reducible exact Moves.refl _ _
    | decide
    | intro _
    | with_reducible apply Moves.ite
    | with_reducible apply Moves.step (State.sesClose_moves ..)
    | with_reducible apply Moves.foldl
    | with_reducible apply Moves.foldlFst
    | with_reducible apply Moves.foldlSnd
    | split

theorem State.lockEnd_moves (s : State) (p how : Nat) : Moves 0xc00200288802022 s (State.lockEnd s p how) := by
  unfold State.lockEnd
  repeat' first
    | with_reducible assumption
    | with_reducible exact Moves.refl _ _
    | decide
    | ((with_reducible refine Moves.p_put (n := 25) ?_ ?_ ?_ ?_); (first | rfl | assumption | (dsimp only [F.SEC_P_STAT_FAILS]; omega)); decide; decide)
    | ((with_reducible refine Moves.p_raise (n := 25) ?_ ?_ ?_ ?_); (first | rfl | (split <;> rfl)); decide; decide)
    | with_reducible apply Moves.step (State.setSecPort_moves ..)
    | split
    | (with_reducible refine Moves.snd (by assumption) ?_)
    | (with_reducible refine Moves.fst (by assumption) ?_)
    | (with_reducible refine Moves.trd (by assumption) ?_)

theorem State.lockExpire_moves (s : State) (p : Nat) : Moves 0xc00a002c8802062 s (State.lockExpire s p) := by
  unfold State.lockExpire
  repeat' first
    | with_reducible assumption
    | with_reducible exact Moves.refl _ _
    | decide
    | with_reducible apply Moves.step (State.elapseTo_moves ..)
    | with_reducible apply Moves.step (State.lockEnd_moves ..)
    | split
    | (with_reducible refine Moves.snd (by assumption) ?_)
    | (with_reducible refine Moves.fst (by assumption) ?_)
    | (with_reducible refine Moves.trd (by assumption) ?_)

theorem State.lockClr_moves (s : State) (mask own : Nat) : Moves 0xc00200288802022 s (State.lockClr s mask own) := by
  unfold State.lockClr
  repeat' first
    | with_reducible assumption
    | with_reducible exact Moves.refl _ _
    | decide
    | intro _
    | with_reducible apply Moves.step (State.lockEnd_moves ..)
    | with_reducible apply Moves.each

theorem State.zeroise_moves (s : State) (cause : Nat) : Moves 0xffffffe9ffffffb s (State.zeroise s cause) := by
  unfold State.zeroise
  repeat' first
    | with_reducible assumption
    | with_reducible exact Moves.refl _ _
    | decide
    | ((with_reducible refine Moves.p_clearWords (n := 25) ?_ ?_ ?_ ?_); (intro i hi; (first | omega | (dsimp only [chalAddr, fuseAddr, respAddr]; omega))); decide; decide)
    | ((with_reducible refine Moves.p_clearWords (n := 24) ?_ ?_ ?_ ?_); (intro i hi; omega); decide; decide)
    | ((with_reducible refine Moves.p_raise (n := 25) ?_ ?_ ?_ ?_); (first | rfl | (split <;> rfl)); decide; decide)
    | intro _
    | extract_lets
    | with_reducible apply Moves.step (State.sesClose_moves ..)
    | with_reducible apply Moves.step (State.setSecPort_moves ..)
    | with_reducible apply Moves.step (State.dbgOff_moves ..)
    | with_reducible apply Moves.each
    | dsimp +zetaDelta only

theorem State.fuseGo_moves (s : State) (target : Nat) : Moves 0x400000008800000 s (State.fuseGo s target) := by
  unfold State.fuseGo
  simp -zeta only [State.upd_sec]
  repeat' first
    | with_reducible assumption
    | with_reducible exact Moves.refl _ _
    | decide
    | ((with_reducible refine Moves.p_put (n := 25) ?_ ?_ ?_ ?_); (first | rfl | assumption); decide; decide)
    | ((with_reducible refine Moves.p_putb (n := 25) ?_ ?_ ?_ ?_); (first | rfl | assumption); decide; decide)
    | with_reducible apply Moves.ite
    | extract_lets
    | rw [State.upd_sec]
    | with_reducible apply Moves.step (State.with_sec_moves ..)
    | split
    | dsimp +zetaDelta only

theorem State.fuseDone_moves (s : State) (ok : Bool) : Moves 0xc00a003c8802066 s (State.fuseDone s ok) := by
  unfold State.fuseDone
  simp -zeta only [State.upd_sec_fuses]
  repeat' first
    | with_reducible assumption
    | with_reducible exact Moves.refl _ _
    | decide
    | ((with_reducible refine Moves.p_putb (n := 25) ?_ ?_ ?_ ?_); (first | rfl | assumption); decide; decide)
    | ((with_reducible refine Moves.p_put (n := 25) ?_ ?_ ?_ ?_); (first | rfl | assumption); decide; decide)
    | ((with_reducible refine Moves.p_raise (n := 25) ?_ ?_ ?_ ?_); (first | rfl | (split <;> rfl)); decide; decide)
    | with_reducible apply Moves.ite
    | extract_lets
    | rw [State.upd_sec_fuses]
    | with_reducible apply Moves.step (State.with_sec_fuses_moves ..)
    | with_reducible apply Moves.step (State.elapseTo_moves ..)
    | with_reducible apply Moves.step (State.drawMany_moves ..)
    | split
    | (with_reducible refine Moves.snd (by assumption) ?_)
    | (with_reducible refine Moves.fst (by assumption) ?_)
    | (with_reducible refine Moves.trd (by assumption) ?_)
    | dsimp +zetaDelta only

end Sys2Proof.Machine
end

