-- ==== Sys2Proof/Laws/MovesPower.lean ====
section
/-! SUPPORT. What each operation of Machine/Power.lean may change. -/

namespace Sys2Proof.Machine

set_option linter.all false

theorem State.keepRegs_moves (s : State) (p : Nat → Bool) : Moves allBlocks s { s with regs := sparseKeep p s.regs } :=
  { Moves.refl _ s with
    regs := fun b => absurd b (by decide)
    words := fun x hx b => absurd b (by
      have : ∀ k < 27, allBlocks.testBit (33 + k) = true := by decide
      rw [this _ hx]; decide)
    canonical := fun c => by
      simp only [State.canonical, Bool.and_eq_true] at c ⊢
      exact ⟨⟨sparseWf_keep _ c.1.1, c.1.2⟩, c.2⟩ }

theorem State.eraseRegs_moves (s : State) (d : Nat) : Moves 0xffffffe08000002 s (s.eraseRegs d) := by
  unfold State.eraseRegs
  extract_lets t
  have ht : Moves 0xffffffe08000002 s t := Moves.step (State.keepRegs_moves s _) (by decide) (Moves.refl _ s)
  exact Moves.step (State.syncIrq_moves ..) (by decide) (Moves.ite (Moves.p_put (n := 24) rfl (by decide) (by decide) ht) ht)

theorem Moves.p_mergeWord {M n : Nat} {s0 s : State} {ok : FieldRow → Bool} {a v : Nat} (hn : a / 65536 = n) (hm : 0x8000000 ||| M = M)
    (hb : 2 ^ (33 + n) ||| M = M) (h : Moves M s0 s) : Moves M s0 (s.mergeWord ok a v) := by
  unfold State.mergeWord
  split
  · exact h
  · exact Moves.p_setWord hn (sub_trans (by decide) hm) hb h

theorem Moves.a_mergeWord {M : Nat} {s0 s : State} {ok : FieldRow → Bool} {a v : Nat} (hm : allBlocks ||| M = M) (h : Moves M s0 s) :
    Moves M s0 (s.mergeWord ok a v) := by
  unfold State.mergeWord
  split
  · exact h
  · exact Moves.a_setWord hm h

theorem State.rxNcoWrite_moves (s : State) (v : Nat) : Moves 0x8002042880020a2 s (State.rxNcoWrite s v).2 := by
  unfold State.rxNcoWrite
  repeat' first
    | with_reducible assumption
    | with_reducible exact Moves.refl _ _
    | decide
    | with_reducible apply Moves.step (State.rxNcoGo_moves ..)

theorem State.txNcoWrite_moves (s : State) (v : Nat) : Moves 0x800210288002122 s (State.txNcoWrite s v).2 := by
  unfold State.txNcoWrite
  repeat' first
    | with_reducible assumption
    | with_reducible exact Moves.refl _ _
    | decide
    | with_reducible apply Moves.step (State.txNcoGo_moves ..)

theorem State.overlayOne_moves (s : State) (e : Nat × Nat) : Moves 0xffffffe880021a2 s (State.overlayOne s e) := by
  unfold State.overlayOne
  repeat' first
    | with_reducible assumption
    | with_reducible exact Moves.refl _ _
    | decide
    | with_reducible refine Moves.a_mergeWord (by decide) ?_
    | with_reducible apply Moves.ite
    | extract_lets
    | with_reducible apply Moves.step (State.rxNcoWrite_moves ..)
    | with_reducible apply Moves.step (State.txNcoWrite_moves ..)
    | split
    | dsimp +zetaDelta only

theorem State.overlay_moves (s : State) (d : Nat) : Moves 0xffffffe880021a2 s (State.overlay s d) := by
  unfold State.overlay
  repeat' first
    | with_reducible assumption
    | with_reducible exact Moves.refl _ _
    | decide
    | intro _
    | with_reducible apply Moves.step (State.overlayOne_moves ..)
    | with_reducible apply Moves.each

theorem State.overlayBase_moves (s : State) : Moves 0xffffffe884029a2 s (State.overlayBase s) := by
  unfold State.overlayBase
  simp -zeta only [State.upd_berth]
  repeat' first
    | with_reducible assumption
    | with_reducible exact Moves.refl _ _
    | decide
    | intro _
    | extract_lets
    | rw [State.upd_berth]
    | with_reducible apply Moves.step (State.with_berth_moves ..)
    | with_reducible apply Moves.step (State.overlayOne_moves ..)
    | with_reducible apply Moves.step (State.berthBoot_moves ..)
    | with_reducible apply Moves.step (State.retiredSync_moves ..)
    | with_reducible apply Moves.step (State.syncIrq_moves ..)
    | with_reducible apply Moves.each
    | dsimp +zetaDelta only

theorem State.cpllDown_moves (s : State) : Moves 0x800208a8800212a s (State.cpllDown s) := by
  unfold State.cpllDown
  simp -zeta only [State.upd_clk]
  repeat' first
    | with_reducible assumption
    | with_reducible exact Moves.refl _ _
    | decide
    | ((with_reducible refine Moves.p_put (n := 2) ?_ ?_ ?_ ?_); (first | rfl | assumption); decide; decide)
    | ((with_reducible refine Moves.p_putb (n := 2) ?_ ?_ ?_ ?_); (first | rfl | assumption); decide; decide)
    | extract_lets
    | rw [State.upd_clk]
    | with_reducible apply Moves.step (State.with_clk_moves ..)
    | with_reducible apply Moves.step (State.syncHo_moves ..)
    | with_reducible apply Moves.step (State.txCause_moves ..)
    | dsimp +zetaDelta only

theorem State.synDown_moves (s : State) (n : Nat) : Moves 0x80020a2880021aa s (State.synDown s n) := by
  unfold State.synDown
  repeat' first
    | with_reducible assumption
    | with_reducible exact Moves.refl _ _
    | decide
    | with_reducible apply Moves.step (State.setSyn_moves ..)
    | with_reducible apply Moves.step (State.loSync_moves ..)

theorem State.synUp_moves (s : State) (n : Nat) : Moves 0x8 s (State.synUp s n) := by
  unfold State.synUp
  repeat' first
    | with_reducible assumption
    | with_reducible exact Moves.refl _ _
    | decide
    | with_reducible apply Moves.step (State.setSyn_moves ..)

theorem State.lowerBefore_moves (s : State) (d : Nat) : Moves 0x800208298002322 s (State.lowerBefore s d) := by
  unfold State.lowerBefore
  repeat' first
    | with_reducible assumption
    | with_reducible exact Moves.refl _ _
    | decide
    | with_reducible apply Moves.ite
    | rw [State.upd_tx]
    | with_reducible apply Moves.step (State.with_tx_moves ..)
    | with_reducible apply Moves.step (State.dpdLower_moves ..)
    | with_reducible apply Moves.step (State.txFaultSync_moves ..)
    | split

theorem State.lowerAfter_moves (s : State) (d : Nat) : Moves 0x81125ea985df7aa s (State.lowerAfter s d) := by
  unfold State.lowerAfter
  repeat' first
    | with_reducible assumption
    | with_reducible exact Moves.refl _ _
    | decide
    | with_reducible apply Moves.ite
    | rw [State.upd_tx]
    | with_reducible apply Moves.step (State.with_tx_moves ..)
    | rw [State.upd_clk]
    | with_reducible apply Moves.step (State.with_clk_moves ..)
    | rw [State.upd_dpd_tx]
    | with_reducible apply Moves.step (State.with_dpd_tx_moves ..)
    | rw [State.upd_rx]
    | with_reducible apply Moves.step (State.with_rx_moves ..)
    | rw [State.upd_fend]
    | with_reducible apply Moves.step (State.with_fend_moves ..)
    | rw [State.upd_rsv]
    | with_reducible apply Moves.step (State.with_rsv_moves ..)
    | rw [State.upd_link_clk]
    | with_reducible apply Moves.step (State.with_link_clk_moves ..)
    | with_reducible apply Moves.step (State.txFaultSync_moves ..)
    | with_reducible apply Moves.step (State.rxQuadDown_moves ..)
    | with_reducible apply Moves.step (State.syncRxd_moves ..)
    | with_reducible apply Moves.step (State.quayLower_moves ..)
    | with_reducible apply Moves.step (State.cpllDown_moves ..)
    | with_reducible apply Moves.step (State.synDown_moves ..)
    | with_reducible apply Moves.step (State.rxChains_moves ..)
    | with_reducible apply Moves.step (State.txChains_moves ..)
    | with_reducible apply Moves.step (State.lookSync_moves ..)
    | with_reducible apply Moves.step (State.holdLower_moves ..)
    | with_reducible apply Moves.step (State.craneLower_moves ..)
    | with_reducible apply Moves.step (State.monLower_moves ..)
    | split

theorem State.domLower_moves (s : State) (d : Nat) : Moves 0xffffffe985df7aa s (State.domLower s d) := by
  unfold State.domLower
  repeat' first
    | with_reducible assumption
    | with_reducible exact Moves.refl _ _
    | decide
    | with_reducible apply Moves.ite
    | extract_lets
    | with_reducible apply Moves.step (State.lowerBefore_moves ..)
    | with_reducible apply Moves.step (State.markDom_moves ..)
    | with_reducible apply Moves.step (State.eraseRegs_moves ..)
    | with_reducible apply Moves.step (State.lowerAfter_moves ..)
    | split
    | dsimp +zetaDelta only

theorem State.raiseBefore_moves (s : State) (d : Nat) : Moves 0x2008008010000 s (State.raiseBefore s d) := by
  unfold State.raiseBefore
  repeat' first
    | with_reducible assumption
    | with_reducible exact Moves.refl _ _
    | decide
    | ((with_reducible refine Moves.p_put (n := 6) ?_ ?_ ?_ ?_); (first | rfl | assumption | (dsimp only [F.TXA_P_NULL_I, F.TXA_P_NULL_Q]; omega)); decide; decide)
    | intro _
    | with_reducible apply Moves.ite
    | extract_lets
    | with_reducible apply Moves.step (State.loadSafe_moves ..)
    | with_reducible apply Moves.each
    | split
    | dsimp +zetaDelta only

theorem State.linkRaised_moves (s : State) (l : Nat) : Moves 0xd80848001840 s (State.linkRaised s l) := by
  unfold State.linkRaised
  repeat' first
    | with_reducible assumption
    | with_reducible exact Moves.refl _ _
    | decide
    | ((with_reducible refine Moves.p_put (n := 2) ?_ ?_ ?_ ?_); (first | rfl | assumption | (dsimp only [F.CLK_LPLL_STAT_MODE]; omega)); decide; decide)
    | with_reducible apply Moves.ite
    | extract_lets
    | with_reducible apply Moves.step (State.linkStart_moves ..)
    | split
    | dsimp +zetaDelta only

theorem State.raiseAfter_moves (s : State) (d : Nat) : Moves 0xa3dffeadc4efd6a s (State.raiseAfter s d) := by
  unfold State.raiseAfter
  repeat' first
    | with_reducible assumption
    | with_reducible exact Moves.refl _ _
    | decide
    | ((with_reducible refine Moves.p_putb (n := 24) ?_ ?_ ?_ ?_); (first | rfl | assumption); decide; decide)
    | intro _
    | with_reducible apply Moves.ite
    | rw [State.upd_rsv]
    | with_reducible apply Moves.step (State.with_rsv_moves ..)
    | with_reducible apply Moves.step (State.txFaultSync_moves ..)
    | with_reducible apply Moves.step (State.showServo_moves ..)
    | with_reducible apply Moves.step (State.quayRaise_moves ..)
    | with_reducible apply Moves.step (State.dealCheck_moves ..)
    | with_reducible apply Moves.step (State.cpllRetry_moves ..)
    | with_reducible apply Moves.step (State.synUp_moves ..)
    | with_reducible apply Moves.step (State.syncRxd_moves ..)
    | with_reducible apply Moves.step (State.txChains_moves ..)
    | with_reducible apply Moves.step (State.bwStart_moves ..)
    | with_reducible apply Moves.step (State.syncTx_moves ..)
    | with_reducible apply Moves.step (State.dpdRaise_moves ..)
    | with_reducible apply Moves.step (State.lookSync_moves ..)
    | with_reducible apply Moves.step (State.lookRaise_moves ..)
    | with_reducible apply Moves.step (State.holdRaise_moves ..)
    | with_reducible apply Moves.step (State.monRaise_moves ..)
    | with_reducible apply Moves.step (State.linkRaised_moves ..)
    | with_reducible apply Moves.each
    | split

theorem State.domRaise_moves (s : State) (d : Nat) : Moves 0xffffffedc4ffdea s (State.domRaise s d) := by
  unfold State.domRaise
  repeat' first
    | with_reducible assumption
    | with_reducible exact Moves.refl _ _
    | decide
    | with_reducible apply Moves.ite
    | with_reducible apply Moves.step (State.eraseRegs_moves ..)
    | with_reducible apply Moves.step (State.raiseBefore_moves ..)
    | with_reducible apply Moves.step (State.overlay_moves ..)
    | with_reducible apply Moves.step (State.markDom_moves ..)
    | with_reducible apply Moves.step (State.raiseAfter_moves ..)
    | split

theorem State.linksChanged_moves (s : State) : Moves 0xffffffe9ffffffb s (State.linksChanged s) := by
  unfold State.linksChanged
  repeat' first
    | with_reducible assumption
    | with_reducible exact Moves.refl _ _
    | decide
    | with_reducible apply Moves.step (State.fhmLinks_moves ..)
    | with_reducible apply Moves.step (State.ringPorts_moves ..)
    | with_reducible apply Moves.step (State.tideSource_moves ..)
    | with_reducible apply Moves.step (State.regrade_moves ..)
    | with_reducible apply Moves.step (State.lookSync_moves ..)
    | with_reducible apply Moves.step (State.craneLinks_moves ..)
    | with_reducible apply Moves.step (State.sesLinks_moves ..)

theorem State.metersIdle_moves (s : State) : Moves 0x208000000 s (State.metersIdle s) := by
  unfold State.metersIdle
  repeat' first
    | with_reducible assumption
    | with_reducible exact Moves.refl _ _
    | decide
    | intro _
    | with_reducible apply Moves.ite
    | with_reducible apply Moves.step (State.meterIdle_moves ..)
    | with_reducible apply Moves.each
    | split

theorem State.domsChanged_moves (s : State) (rx : Bool) : Moves 0xffffffe9ffffffb s (State.domsChanged s rx) := by
  unfold State.domsChanged
  repeat' first
    | with_reducible assumption
    | with_reducible exact Moves.refl _ _
    | decide
    | intro _
    | with_reducible apply Moves.step (State.agcInit_moves ..)
    | with_reducible apply Moves.step (State.rxChains_moves ..)
    | with_reducible apply Moves.step (State.loSync_moves ..)
    | with_reducible apply Moves.step (State.syncTx_moves ..)
    | with_reducible apply Moves.step (State.linksChanged_moves ..)
    | with_reducible apply Moves.step (State.dealCheckAll_moves ..)
    | with_reducible apply Moves.step (State.regradeAll_moves ..)
    | with_reducible apply Moves.step (State.metersIdle_moves ..)
    | with_reducible apply Moves.step (State.maskCheck_moves ..)
    | with_reducible apply Moves.iff

theorem State.domsTo_moves (s : State) (want : List Nat) : Moves 0xffffffedffffffb s (State.domsTo s want) := by
  unfold State.domsTo
  repeat' first
    | with_reducible assumption
    | with_reducible exact Moves.refl _ _
    | decide
    | intro _
    | extract_lets
    | with_reducible apply Moves.step (State.domLower_moves ..)
    | with_reducible apply Moves.step (State.domRaise_moves ..)
    | with_reducible apply Moves.step (State.domsChanged_moves ..)
    | with_reducible apply Moves.each
    | dsimp +zetaDelta only

theorem State.surgeTo_moves (s : State) (b : Nat) : Moves 0x408000001 s (State.surgeTo s b) := by
  unfold State.surgeTo
  repeat' first
    | with_reducible assumption
    | with_reducible exact Moves.refl _ _
    | decide
    | ((with_reducible refine Moves.p_put (n := 1) ?_ ?_ ?_ ?_); (first | rfl | assumption); decide; decide)
    | rw [State.upd_power]
    | with_reducible apply Moves.step (State.with_power_moves ..)

theorem State.surgeCheck_moves (s : State) : Moves 0x8d22a879c192922 s (State.surgeCheck s) := by
  unfold State.surgeCheck
  repeat' first
    | with_reducible assumption
    | with_reducible exact Moves.refl _ _
    | decide
    | ((with_reducible refine Moves.p_putb (n := 1) ?_ ?_ ?_ ?_); (first | rfl | assumption); decide; decide)
    | ((with_reducible refine Moves.p_raise (n := 1) ?_ ?_ ?_ ?_); (first | rfl | (split <;> rfl)); decide; decide)
    | ((with_reducible refine Moves.p_throttleReq (n := 22) ?_ ?_ ?_ ?_); (first | rfl | assumption); decide; decide)
    | with_reducible apply Moves.ite
    | split

theorem State.powerEstimate_moves (s : State) (mw : Nat) : Moves 0x8d22a879c192923 s (State.powerEstimate s mw) := by
  unfold State.powerEstimate
  repeat' first
    | with_reducible assumption
    | with_reducible exact Moves.refl _ _
    | decide
    | ((with_reducible refine Moves.p_put (n := 1) ?_ ?_ ?_ ?_); (first | rfl | assumption); decide; decide)
    | extract_lets
    | with_reducible apply Moves.step (State.surgeTo_moves ..)
    | with_reducible apply Moves.step (State.surgeCheck_moves ..)
    | dsimp +zetaDelta only

theorem State.runEnter_moves (s : State) : Moves 0x8532e839c19ad23 s (State.runEnter s) := by
  unfold State.runEnter
  simp -zeta only [State.upd_power]
  repeat' first
    | with_reducible assumption
    | with_reducible exact Moves.refl _ _
    | decide
    | ((with_reducible refine Moves.p_put (n := 16) ?_ ?_ ?_ ?_); (first | rfl | assumption); decide; decide)
    | intro _
    | with_reducible apply Moves.ite
    | extract_lets
    | rw [State.upd_power]
    | with_reducible apply Moves.step (State.with_power_moves ..)
    | with_reducible apply Moves.step (State.moveTarget_moves ..)
    | with_reducible apply Moves.step (State.throttleApply_moves ..)
    | with_reducible apply Moves.step (State.paStartOn_moves ..)
    | with_reducible apply Moves.step (State.syncTx_moves ..)
    | with_reducible apply Moves.step (State.lookSync_moves ..)
    | with_reducible apply Moves.step (State.dealCheckAll_moves ..)
    | with_reducible apply Moves.step (State.syncGrid_moves ..)
    | with_reducible apply Moves.each
    | split
    | dsimp +zetaDelta only

theorem State.dozeEnter_moves (s : State) (brick : Nat) : Moves 0x500008001000 s (State.dozeEnter s brick) := by
  unfold State.dozeEnter
  repeat' first
    | with_reducible assumption
    | with_reducible exact Moves.refl _ _
    | decide
    | with_reducible apply Moves.step (State.narrowEnter_moves ..)

theorem State.dryEnter_moves (s : State) : Moves 0xffffffedffffffb s (State.dryEnter s) := by
  unfold State.dryEnter
  repeat' first
    | with_reducible assumption
    | with_reducible exact Moves.refl _ _
    | decide
    | with_reducible apply Moves.ite
    | extract_lets
    | with_reducible apply Moves.step (State.tideFree_moves ..)
    | with_reducible apply Moves.step (State.linkRaised_moves ..)
    | with_reducible apply Moves.step (State.linksChanged_moves ..)
    | split
    | dsimp +zetaDelta only

theorem State.dozeLeave_moves (s : State) : Moves 0x500008001000 s (State.dozeLeave s) := by
  unfold State.dozeLeave
  repeat' first
    | with_reducible assumption
    | with_reducible exact Moves.refl _ _
    | decide
    | intro _
    | with_reducible apply Moves.ite
    | with_reducible apply Moves.step (State.narrowLeave_moves ..)
    | with_reducible apply Moves.foldl
    | with_reducible apply Moves.foldlFst
    | with_reducible apply Moves.foldlSnd
    | split

theorem State.enterState_moves (s : State) (st brick cause : Nat) (refill : Bool) : Moves 0xfffffffdffffffb s (State.enterState s st brick cause refill) := by
  unfold State.enterState
  simp -zeta only [State.upd_power]
  repeat' first
    | with_reducible assumption
    | with_reducible exact Moves.refl _ _
    | decide
    | ((with_reducible refine Moves.p_put (n := 1) ?_ ?_ ?_ ?_); (first | rfl | assumption); decide; decide)
    | ((with_reducible refine Moves.p_putb (n := 1) ?_ ?_ ?_ ?_); (first | rfl | assumption); decide; decide)
    | ((with_reducible refine Moves.p_raise (n := 1) ?_ ?_ ?_ ?_); (first | rfl | (split <;> rfl)); decide; decide)
    | with_reducible apply Moves.ite
    | extract_lets
    | rw [State.upd_power]
    | with_reducible apply Moves.step (State.with_power_moves ..)
    | with_reducible apply Moves.step (State.dozeLeave_moves ..)
    | with_reducible apply Moves.step (State.domsTo_moves ..)
    | with_reducible apply Moves.step (State.runEnter_moves ..)
    | with_reducible apply Moves.step (State.dozeEnter_moves ..)
    | with_reducible apply Moves.step (State.dryEnter_moves ..)
    | with_reducible apply Moves.step (State.surgeTo_moves ..)
    | with_reducible apply Moves.step (State.surgeCheck_moves ..)
    | with_reducible apply Moves.step (State.metersIdle_moves ..)
    | split
    | dsimp +zetaDelta only

theorem State.reqRefuse_moves (s : State) : Moves 0x800200688002022 s (State.reqRefuse s) := by
  unfold State.reqRefuse
  repeat' first
    | with_reducible assumption
    | with_reducible exact Moves.refl _ _
    | decide
    | ((with_reducible refine Moves.p_raise (n := 1) ?_ ?_ ?_ ?_); (first | rfl | (split <;> rfl)); decide; decide)

theorem State.leaveRun_moves (s : State) : Moves 0x8132c839c09ed63 s (State.leaveRun s) := by
  unfold State.leaveRun
  simp -zeta only [State.upd_power]
  repeat' first
    | with_reducible assumption
    | with_reducible exact Moves.refl _ _
    | decide
    | ((with_reducible refine Moves.p_put (n := 16) ?_ ?_ ?_ ?_); (first | rfl | assumption); decide; decide)
    | intro _
    | with_reducible apply Moves.ite
    | extract_lets
    | rw [State.upd_power]
    | with_reducible apply Moves.step (State.with_power_moves ..)
    | with_reducible apply Moves.step (State.paOff_moves ..)
    | with_reducible apply Moves.step (State.moveSafe_moves ..)
    | with_reducible apply Moves.step (State.berthLeaveRun_moves ..)
    | with_reducible apply Moves.step (State.toFlushRun_moves ..)
    | with_reducible apply Moves.step (State.gaugeLeave_moves ..)
    | with_reducible apply Moves.step (State.dealCheckAll_moves ..)
    | with_reducible apply Moves.step (State.fhmLeaveRun_moves ..)
    | with_reducible apply Moves.step (State.ringLeaveRun_moves ..)
    | with_reducible apply Moves.step (State.thinLevel_moves ..)
    | with_reducible apply Moves.step (State.lookSync_moves ..)
    | with_reducible apply Moves.each
    | split
    | dsimp +zetaDelta only

theorem State.bootRaise_moves (s : State) (goal : Nat) : Moves 0xffffffedffffffb s (State.bootRaise s goal) := by
  unfold State.bootRaise
  simp -zeta only [State.upd_boot]
  repeat' first
    | with_reducible assumption
    | with_reducible exact Moves.refl _ _
    | decide
    | ((with_reducible refine Moves.p_put (n := 3) ?_ ?_ ?_ ?_); (first | rfl | assumption); decide; decide)
    | with_reducible apply Moves.ite
    | extract_lets
    | rw [State.upd_boot]
    | with_reducible apply Moves.step (State.with_boot_moves ..)
    | with_reducible apply Moves.step (State.domLower_moves ..)
    | with_reducible apply Moves.step (State.dpdSeed_moves ..)
    | with_reducible apply Moves.step (State.domsTo_moves ..)
    | split
    | dsimp +zetaDelta only

theorem State.transStart_moves (s : State) (code brick cause : Nat) : Moves 0xfffffffdffffffb s (State.transStart s code brick cause) := by
  unfold State.transStart
  simp -zeta only [State.upd_power, State.upd_boot]
  repeat' first
    | with_reducible assumption
    | with_reducible exact Moves.refl _ _
    | decide
    | ((with_reducible refine Moves.p_put (n := 1) ?_ ?_ ?_ ?_); (first | rfl | assumption); decide; decide)
    | ((with_reducible refine Moves.p_putb (n := 1) ?_ ?_ ?_ ?_); (first | rfl | assumption); decide; decide)
    | with_reducible apply Moves.ite
    | extract_lets
    | rw [State.upd_power]
    | with_reducible apply Moves.step (State.with_power_moves ..)
    | rw [State.upd_boot]
    | with_reducible apply Moves.step (State.with_boot_moves ..)
    | with_reducible apply Moves.step (State.leaveRun_moves ..)
    | with_reducible apply Moves.step (State.zeroise_moves ..)
    | with_reducible apply Moves.step (State.bootRaise_moves ..)
    | with_reducible apply Moves.step (State.dozeLeave_moves ..)
    | with_reducible apply Moves.step (State.dpdSeed_moves ..)
    | with_reducible apply Moves.step (State.domsTo_moves ..)
    | split
    | dsimp +zetaDelta only

theorem State.powerRequest_moves (s : State) (code brick : Nat) : Moves 0xfffffffdffffffb s (State.powerRequest s code brick) := by
  unfold State.powerRequest
  repeat' first
    | with_reducible assumption
    | with_reducible exact Moves.refl _ _
    | decide
    | with_reducible apply Moves.ite
    | rw [State.upd_power]
    | with_reducible apply Moves.step (State.with_power_moves ..)
    | with_reducible apply Moves.step (State.reqRefuse_moves ..)
    | with_reducible apply Moves.step (State.transStart_moves ..)
    | split

theorem State.shutRequest_moves (s : State) : Moves 0xfffffffdffffffb s (State.shutRequest s) := by
  unfold State.shutRequest
  repeat' first
    | with_reducible assumption
    | with_reducible exact Moves.refl _ _
    | decide
    | with_reducible apply Moves.ite
    | with_reducible apply Moves.step (State.transStart_moves ..)
    | split

theorem State.pendStart_moves (s : State) : Moves 0xfffffffdffffffb s (State.pendStart s) := by
  unfold State.pendStart
  simp -zeta only [State.upd_power]
  repeat' first
    | with_reducible assumption
    | with_reducible exact Moves.refl _ _
    | decide
    | with_reducible apply Moves.ite
    | extract_lets
    | rw [State.upd_power]
    | with_reducible apply Moves.step (State.with_power_moves ..)
    | with_reducible apply Moves.step (State.reqRefuse_moves ..)
    | with_reducible apply Moves.step (State.transStart_moves ..)
    | with_reducible apply Moves.step (State.shutRequest_moves ..)
    | split
    | (with_reducible refine Moves.snd (by assumption) ?_)
    | (with_reducible refine Moves.fst (by assumption) ?_)
    | (with_reducible refine Moves.trd (by assumption) ?_)
    | dsimp +zetaDelta only

theorem State.monInterlock_moves (s : State) : Moves 0xfffffffdffffffb s (State.monInterlock s) := by
  unfold State.monInterlock
  simp -zeta only [State.upd_power]
  repeat' first
    | with_reducible assumption
    | with_reducible exact Moves.refl _ _
    | decide
    | ((with_reducible refine Moves.p_putb (n := 1) ?_ ?_ ?_ ?_); (first | rfl | assumption); decide; decide)
    | ((with_reducible refine Moves.p_put (n := 1) ?_ ?_ ?_ ?_); (first | rfl | assumption); decide; decide)
    | ((with_reducible refine Moves.p_raise (n := 1) ?_ ?_ ?_ ?_); (first | rfl | (split <;> rfl)); decide; decide)
    | extract_lets
    | rw [State.upd_power]
    | with_reducible apply Moves.step (State.with_power_moves ..)
    | with_reducible apply Moves.step (State.pendStart_moves ..)
    | dsimp +zetaDelta only

theorem State.transComplete_moves (s : State) : Moves 0xfffffffdffffffb s (State.transComplete s) := by
  unfold State.transComplete
  repeat' first
    | with_reducible assumption
    | with_reducible exact Moves.refl _ _
    | decide
    | with_reducible apply Moves.ite
    | with_reducible apply Moves.step (State.monInterlock_moves ..)
    | with_reducible apply Moves.step (State.enterState_moves ..)
    | with_reducible apply Moves.step (State.pendStart_moves ..)
    | split
    | (with_reducible refine Moves.snd (by assumption) ?_)
    | (with_reducible refine Moves.fst (by assumption) ?_)
    | (with_reducible refine Moves.trd (by assumption) ?_)

theorem State.syncTags_moves (s : State) : Moves 0x1008000000 s (State.syncTags s) := by
  unfold State.syncTags
  repeat' first
    | with_reducible assumption
    | with_reducible exact Moves.refl _ _
    | decide
    | ((with_reducible refine Moves.p_put (n := 3) ?_ ?_ ?_ ?_); (first | rfl | assumption); decide; decide)
    | with_reducible apply Moves.ite
    | extract_lets
    | split
    | dsimp +zetaDelta only

theorem State.setTag_moves (s : State) (n : Nat) (x : SlotTag) : Moves 0x1008000010 s (State.setTag s n x) := by
  unfold State.setTag
  repeat' first
    | with_reducible assumption
    | with_reducible exact Moves.refl _ _
    | decide
    | with_reducible apply Moves.ite
    | rw [State.upd_boot]
    | with_reducible apply Moves.step (State.with_boot_moves ..)
    | with_reducible apply Moves.step (State.syncTags_moves ..)
    | split

theorem State.confirmSlot_moves (s : State) : Moves 0x1008000010 s (State.confirmSlot s) := by
  unfold State.confirmSlot
  repeat' first
    | with_reducible assumption
    | with_reducible exact Moves.refl _ _
    | decide
    | ((with_reducible refine Moves.p_putb (n := 3) ?_ ?_ ?_ ?_); (first | rfl | assumption); decide; decide)
    | extract_lets
    | with_reducible apply Moves.step (State.setTag_moves ..)
    | dsimp +zetaDelta only

theorem State.autoConfirm_moves (s : State) : Moves 0x1008000010 s (State.autoConfirm s) := by
  unfold State.autoConfirm
  repeat' first
    | with_reducible assumption
    | with_reducible exact Moves.refl _ _
    | decide
    | with_reducible apply Moves.ite
    | with_reducible apply Moves.step (State.confirmSlot_moves ..)
    | split

theorem State.bootEnd_moves (s : State) : Moves 0xfffffffdffffffb s (State.bootEnd s) := by
  unfold State.bootEnd
  simp -zeta only [State.upd_boot]
  repeat' first
    | with_reducible assumption
    | with_reducible exact Moves.refl _ _
    | decide
    | ((with_reducible refine Moves.p_put (n := 3) ?_ ?_ ?_ ?_); (first | rfl | assumption); decide; decide)
    | ((with_reducible refine Moves.p_putb (n := 3) ?_ ?_ ?_ ?_); (first | rfl | assumption); decide; decide)
    | ((with_reducible refine Moves.p_raise (n := 3) ?_ ?_ ?_ ?_); (first | rfl | (split <;> rfl)); decide; decide)
    | with_reducible apply Moves.ite
    | extract_lets
    | rw [State.upd_boot]
    | with_reducible apply Moves.step (State.with_boot_moves ..)
    | with_reducible apply Moves.step (State.autoConfirm_moves ..)
    | with_reducible apply Moves.step (State.zeroise_moves ..)
    | with_reducible apply Moves.step (State.enterState_moves ..)
    | with_reducible apply Moves.step (State.pendStart_moves ..)
    | split
    | (with_reducible refine Moves.snd (by assumption) ?_)
    | (with_reducible refine Moves.fst (by assumption) ?_)
    | (with_reducible refine Moves.trd (by assumption) ?_)
    | dsimp +zetaDelta only

theorem State.bootNext_moves (s : State) : Moves 0xfffffffdffffffb s (State.bootNext s) := by
  unfold State.bootNext
  repeat' first
    | with_reducible assumption
    | with_reducible exact Moves.refl _ _
    | decide
    | ((with_reducible refine Moves.p_put (n := 3) ?_ ?_ ?_ ?_); (first | rfl | assumption); decide; decide)
    | with_reducible apply Moves.ite
    | with_reducible apply Moves.step (State.bootEnd_moves ..)
    | split
    | (with_reducible refine Moves.snd (by assumption) ?_)
    | (with_reducible refine Moves.fst (by assumption) ?_)
    | (with_reducible refine Moves.trd (by assumption) ?_)

theorem State.bootAdvance_moves (s : State) : Moves 0xfffffffdffffffb s (State.bootAdvance s) := by
  unfold State.bootAdvance
  repeat' first
    | with_reducible assumption
    | with_reducible exact Moves.refl _ _
    | decide
    | with_reducible apply Moves.step (State.bootNext_moves ..)

theorem State.cpllFirstLock_moves (s : State) : Moves 0xfffffffdffffffb s (State.cpllFirstLock s) := by
  unfold State.cpllFirstLock
  repeat' first
    | with_reducible assumption
    | with_reducible exact Moves.refl _ _
    | decide
    | ((with_reducible refine Moves.p_put (n := 2) ?_ ?_ ?_ ?_); (first | rfl | assumption | (dsimp only [F.CLK_LPLL_STAT_MODE]; omega)); decide; decide)
    | intro _
    | with_reducible apply Moves.ite
    | extract_lets
    | with_reducible apply Moves.step (State.cpllLocked_moves ..)
    | with_reducible apply Moves.step (State.feClear_moves ..)
    | with_reducible apply Moves.step (State.bootAdvance_moves ..)
    | with_reducible apply Moves.each
    | split
    | dsimp +zetaDelta only

theorem State.startupCalDone_moves (s : State) (rxFail txFail txLimit : Nat) (slices : List (Nat × Nat × Nat)) : Moves 0xfffffffdffffffb s (State.startupCalDone s rxFail txFail txLimit slices) := by
  unfold State.startupCalDone
  simp -zeta only [State.upd_boot]
  repeat' first
    | with_reducible assumption
    | with_reducible exact Moves.refl _ _
    | decide
    | ((with_reducible refine Moves.p_putb (n := 6) ?_ ?_ ?_ ?_); (first | rfl | assumption | (dsimp only [F.TXA_P_STAT_LOL_RAIL]; omega)); decide; decide)
    | ((with_reducible refine Moves.p_raise (n := 6) ?_ ?_ ?_ ?_); (first | rfl | (split <;> rfl)); decide; decide)
    | intro _
    | with_reducible apply Moves.ite
    | extract_lets
    | rw [State.upd_boot]
    | with_reducible apply Moves.step (State.with_boot_moves ..)
    | with_reducible apply Moves.step (State.rxCalRun_moves ..)
    | with_reducible apply Moves.step (State.txCalRun_moves ..)
    | with_reducible apply Moves.step (State.bootAdvance_moves ..)
    | with_reducible apply Moves.each
    | split
    | (with_reducible refine Moves.snd (by assumption) ?_)
    | (with_reducible refine Moves.fst (by assumption) ?_)
    | (with_reducible refine Moves.trd (by assumption) ?_)
    | dsimp +zetaDelta only

theorem State.runOffApply_moves (s : State) : Moves 0xffffffedffffffb s (State.runOffApply s) := by
  unfold State.runOffApply
  repeat' first
    | with_reducible assumption
    | with_reducible exact Moves.refl _ _
    | decide
    | with_reducible apply Moves.ite
    | extract_lets
    | with_reducible apply Moves.step (State.domsTo_moves ..)
    | split
    | dsimp +zetaDelta only

theorem State.runOffWrite_moves (s : State) (v : Nat) : Moves 0xffffffedffffffb s (State.runOffWrite s v) := by
  unfold State.runOffWrite
  repeat' first
    | with_reducible assumption
    | with_reducible exact Moves.refl _ _
    | decide
    | ((with_reducible refine Moves.p_setWord (n := 1) ?_ ?_ ?_ ?_); (first | rfl | assumption); decide; decide)
    | intro _
    | with_reducible apply Moves.ite
    | extract_lets
    | with_reducible apply Moves.step (State.reqRefuse_moves ..)
    | with_reducible apply Moves.step (State.runOffApply_moves ..)
    | with_reducible apply Moves.step (State.regrade_moves ..)
    | with_reducible apply Moves.iff
    | split
    | dsimp +zetaDelta only

theorem State.avsWatch_moves (s : State) (bad : Bool) : Moves 0x1 s (State.avsWatch s bad) := by
  unfold State.avsWatch
  simp -zeta only [State.upd_power]
  repeat' first
    | with_reducible assumption
    | with_reducible exact Moves.refl _ _
    | decide
    | with_reducible apply Moves.ite
    | extract_lets
    | rw [State.upd_power]
    | with_reducible apply Moves.step (State.with_power_moves ..)
    | split
    | (with_reducible refine Moves.snd (by assumption) ?_)
    | (with_reducible refine Moves.fst (by assumption) ?_)
    | (with_reducible refine Moves.trd (by assumption) ?_)
    | dsimp +zetaDelta only

theorem State.avsUpdate_moves (s : State) (slacks paces : List (Nat × Nat)) : Moves 0x800240688002023 s (State.avsUpdate s slacks paces) := by
  unfold State.avsUpdate
  simp -zeta only [State.upd_power]
  repeat' first
    | with_reducible assumption
    | with_reducible exact Moves.refl _ _
    | decide
    | ((with_reducible refine Moves.p_put (n := 9) ?_ ?_ ?_ ?_); (first | rfl | assumption | (dsimp only [F.QCTL_C_PACE_PACE]; omega)); decide; decide)
    | ((with_reducible refine Moves.p_put (n := 1) ?_ ?_ ?_ ?_); (first | rfl | assumption); decide; decide)
    | intro _
    | with_reducible apply Moves.ite
    | extract_lets
    | rw [State.upd_power]
    | with_reducible apply Moves.step (State.with_power_moves ..)
    | with_reducible apply Moves.step (State.meter_moves ..)
    | with_reducible apply Moves.step (State.emit_moves ..)
    | with_reducible apply Moves.step (State.avsWatch_moves ..)
    | with_reducible apply Moves.each
    | split
    | (with_reducible refine Moves.snd (by assumption) ?_)
    | (with_reducible refine Moves.fst (by assumption) ?_)
    | (with_reducible refine Moves.trd (by assumption) ?_)
    | dsimp +zetaDelta only

theorem State.avsDone_moves (s : State) (answered warning : Bool) : Moves 0x8d22a879c192923 s (State.avsDone s answered warning) := by
  unfold State.avsDone
  simp -zeta only [State.upd_power]
  repeat' first
    | with_reducible assumption
    | with_reducible exact Moves.refl _ _
    | decide
    | ((with_reducible refine Moves.p_putb (n := 1) ?_ ?_ ?_ ?_); (first | rfl | assumption); decide; decide)
    | ((with_reducible refine Moves.p_raise (n := 1) ?_ ?_ ?_ ?_); (first | rfl | (split <;> rfl)); decide; decide)
    | ((with_reducible refine Moves.p_throttleReq (n := 22) ?_ ?_ ?_ ?_); (first | rfl | assumption); decide; decide)
    | with_reducible apply Moves.ite
    | extract_lets
    | rw [State.upd_power]
    | with_reducible apply Moves.step (State.with_power_moves ..)
    | split
    | dsimp +zetaDelta only

theorem State.avsCeiling_moves (s : State) : Moves 0x8d2aa87dc192962 s (State.avsCeiling s) := by
  unfold State.avsCeiling
  repeat' first
    | with_reducible assumption
    | with_reducible exact Moves.refl _ _
    | decide
    | ((with_reducible refine Moves.p_putb (n := 1) ?_ ?_ ?_ ?_); (first | rfl | assumption); decide; decide)
    | ((with_reducible refine Moves.p_raise (n := 1) ?_ ?_ ?_ ?_); (first | rfl | (split <;> rfl)); decide; decide)
    | ((with_reducible refine Moves.p_throttleReq (n := 22) ?_ ?_ ?_ ?_); (first | rfl | assumption); decide; decide)
    | with_reducible apply Moves.ite
    | with_reducible apply Moves.step (State.elapseTo_moves ..)
    | split
    | (with_reducible refine Moves.snd (by assumption) ?_)
    | (with_reducible refine Moves.fst (by assumption) ?_)
    | (with_reducible refine Moves.trd (by assumption) ?_)

theorem State.avsCeilClear_moves (s : State) : Moves 0x8d2aa87dc192962 s (State.avsCeilClear s) := by
  unfold State.avsCeilClear
  repeat' first
    | with_reducible assumption
    | with_reducible exact Moves.refl _ _
    | decide
    | ((with_reducible refine Moves.p_putb (n := 1) ?_ ?_ ?_ ?_); (first | rfl | assumption); decide; decide)
    | ((with_reducible refine Moves.p_throttleReq (n := 22) ?_ ?_ ?_ ?_); (first | rfl | assumption); decide; decide)
    | with_reducible apply Moves.ite
    | with_reducible apply Moves.step (State.elapseTo_moves ..)
    | split
    | (with_reducible refine Moves.snd (by assumption) ?_)
    | (with_reducible refine Moves.fst (by assumption) ?_)
    | (with_reducible refine Moves.trd (by assumption) ?_)

end Sys2Proof.Machine
end

