-- ==== Sys2Proof/Laws/MovesTherm.lean ====
section
/-! SUPPORT. What each operation of Machine/Therm.lean may change. -/

namespace Sys2Proof.Machine

set_option linter.all false

theorem State.sensorTake_moves (s old : State) (l : List (Nat × Int)) (i : Nat) (v : Int) : Moves 0x880200288002022 s (State.sensorTake s old l i v) := by
  unfold State.sensorTake
  repeat' first
    | with_reducible assumption
    | with_reducible exact Moves.refl _ _
    | decide
    | ((with_reducible refine Moves.p_putb (n := 22) ?_ ?_ ?_ ?_); (first | rfl | assumption | (dsimp only [F.THERM_TS_NEW, F.THERM_TS_VALID]; omega)); decide; decide)
    | ((with_reducible refine Moves.p_incWrap (n := 22) ?_ ?_ ?_ ?_); (first | rfl | assumption | (dsimp only [F.THERM_TS_SEQ]; omega)); decide; decide)
    | ((with_reducible refine Moves.p_put (n := 22) ?_ ?_ ?_ ?_); (first | rfl | assumption | (dsimp only [F.THERM_RETIRED_SENSORS, F.THERM_TS_STATE, F.THERM_TS_SUSP]; omega)); decide; decide)
    | ((with_reducible refine Moves.p_puti (n := 22) ?_ ?_ ?_ ?_); (first | rfl | assumption | (dsimp only [F.THERM_TS_VALUE]; omega)); decide; decide)
    | ((with_reducible refine Moves.p_raise (n := 22) ?_ ?_ ?_ ?_); (first | rfl | (split <;> rfl)); decide; decide)
    | with_reducible apply Moves.ite
    | extract_lets
    | split
    | dsimp +zetaDelta only

theorem State.sensorCount_moves (s : State) : Moves 0x8d22a839c392922 s (State.sensorCount s) := by
  unfold State.sensorCount
  simp -zeta only [State.upd_therm]
  repeat' first
    | with_reducible assumption
    | with_reducible exact Moves.refl _ _
    | decide
    | ((with_reducible refine Moves.p_raise (n := 22) ?_ ?_ ?_ ?_); (first | rfl | (split <;> rfl)); decide; decide)
    | ((with_reducible refine Moves.p_throttleReq (n := 22) ?_ ?_ ?_ ?_); (first | rfl | assumption); decide; decide)
    | with_reducible apply Moves.ite
    | extract_lets
    | rw [State.upd_therm]
    | with_reducible apply Moves.step (State.with_therm_moves ..)
    | split
    | dsimp +zetaDelta only

theorem State.ladderTo_moves (s : State) (n : Nat) : Moves 0x8d22a839c192922 s (State.ladderTo s n) := by
  unfold State.ladderTo
  repeat' first
    | with_reducible assumption
    | with_reducible exact Moves.refl _ _
    | decide
    | ((with_reducible refine Moves.p_put (n := 22) ?_ ?_ ?_ ?_); (first | rfl | assumption); decide; decide)
    | ((with_reducible refine Moves.p_throttleReq (n := 22) ?_ ?_ ?_ ?_); (first | rfl | assumption); decide; decide)

theorem State.warnStep_moves (s : State) (tj : Int) : Moves 0x880200288202022 s (State.warnStep s tj) := by
  unfold State.warnStep
  simp -zeta only [State.upd_therm]
  repeat' first
    | with_reducible assumption
    | with_reducible exact Moves.refl _ _
    | decide
    | ((with_reducible refine Moves.p_putb (n := 22) ?_ ?_ ?_ ?_); (first | rfl | assumption); decide; decide)
    | ((with_reducible refine Moves.p_raise (n := 22) ?_ ?_ ?_ ?_); (first | rfl | (split <;> rfl)); decide; decide)
    | with_reducible apply Moves.ite
    | extract_lets
    | rw [State.upd_therm]
    | with_reducible apply Moves.step (State.with_therm_moves ..)
    | split
    | (with_reducible refine Moves.snd (by assumption) ?_)
    | (with_reducible refine Moves.fst (by assumption) ?_)
    | (with_reducible refine Moves.trd (by assumption) ?_)
    | dsimp +zetaDelta only

theorem State.thrStep_moves (s : State) (tj : Int) : Moves 0x80000008200000 s (State.thrStep s tj).1 := by
  unfold State.thrStep
  simp -zeta only [State.upd_therm]
  repeat' first
    | with_reducible assumption
    | with_reducible exact Moves.refl _ _
    | decide
    | ((with_reducible refine Moves.p_putb (n := 22) ?_ ?_ ?_ ?_); (first | rfl | assumption); decide; decide)
    | with_reducible apply Moves.ite
    | extract_lets
    | rw [State.upd_therm]
    | with_reducible apply Moves.step (State.with_therm_moves ..)
    | split
    | (with_reducible refine Moves.snd (by assumption) ?_)
    | (with_reducible refine Moves.fst (by assumption) ?_)
    | (with_reducible refine Moves.trd (by assumption) ?_)
    | dsimp +zetaDelta only

theorem State.shutCross_moves (s : State) : Moves 0x882208288012162 s (State.shutCross s) := by
  unfold State.shutCross
  repeat' first
    | with_reducible assumption
    | with_reducible exact Moves.refl _ _
    | decide
    | ((with_reducible refine Moves.p_putb (n := 22) ?_ ?_ ?_ ?_); (first | rfl | assumption); decide; decide)
    | ((with_reducible refine Moves.p_raise (n := 22) ?_ ?_ ?_ ?_); (first | rfl | (split <;> rfl)); decide; decide)
    | extract_lets
    | with_reducible apply Moves.step (State.txCause_moves ..)
    | with_reducible apply Moves.step (State.feSet_moves ..)
    | dsimp +zetaDelta only

theorem State.shutClear_moves (s : State) : Moves 0x882208288012122 s (State.shutClear s) := by
  unfold State.shutClear
  repeat' first
    | with_reducible assumption
    | with_reducible exact Moves.refl _ _
    | decide
    | ((with_reducible refine Moves.p_putb (n := 22) ?_ ?_ ?_ ?_); (first | rfl | assumption); decide; decide)
    | ((with_reducible refine Moves.p_raise (n := 22) ?_ ?_ ?_ ?_); (first | rfl | (split <;> rfl)); decide; decide)
    | extract_lets
    | with_reducible apply Moves.step (State.txCause_moves ..)
    | with_reducible apply Moves.step (State.feClear_moves ..)
    | with_reducible apply Moves.step (State.tallyKick_moves ..)
    | dsimp +zetaDelta only

theorem State.thresholds_moves (s : State) (tj : Int) : Moves 0xfffffffdffffffb s (State.thresholds s tj) := by
  unfold State.thresholds
  simp -zeta only [State.upd_therm]
  repeat' first
    | with_reducible assumption
    | with_reducible exact Moves.refl _ _
    | decide
    | with_reducible apply Moves.ite
    | extract_lets
    | rw [State.upd_therm]
    | with_reducible apply Moves.step (State.with_therm_moves ..)
    | with_reducible apply Moves.step (State.warnStep_moves ..)
    | with_reducible apply Moves.step (State.shutClear_moves ..)
    | with_reducible apply Moves.step (State.shutCross_moves ..)
    | with_reducible apply Moves.step (State.thrStep_moves ..)
    | with_reducible apply Moves.step (State.ladderTo_moves ..)
    | with_reducible apply Moves.step (State.shutRequest_moves ..)
    | split
    | (with_reducible refine Moves.snd (by assumption) ?_)
    | (with_reducible refine Moves.fst (by assumption) ?_)
    | (with_reducible refine Moves.trd (by assumption) ?_)
    | dsimp +zetaDelta only

theorem State.ladderUp_moves (s : State) : Moves 0x8d2aa83dc392962 s (State.ladderUp s) := by
  unfold State.ladderUp
  simp -zeta only [State.upd_therm]
  repeat' first
    | with_reducible assumption
    | with_reducible exact Moves.refl _ _
    | decide
    | with_reducible apply Moves.ite
    | extract_lets
    | rw [State.upd_therm]
    | with_reducible apply Moves.step (State.with_therm_moves ..)
    | with_reducible apply Moves.step (State.elapseTo_moves ..)
    | with_reducible apply Moves.step (State.ladderTo_moves ..)
    | split
    | (with_reducible refine Moves.snd (by assumption) ?_)
    | (with_reducible refine Moves.fst (by assumption) ?_)
    | (with_reducible refine Moves.trd (by assumption) ?_)
    | dsimp +zetaDelta only

theorem State.ladderDown_moves (s : State) : Moves 0x8d2aa83dc392962 s (State.ladderDown s) := by
  unfold State.ladderDown
  simp -zeta only [State.upd_therm]
  repeat' first
    | with_reducible assumption
    | with_reducible exact Moves.refl _ _
    | decide
    | with_reducible apply Moves.ite
    | extract_lets
    | rw [State.upd_therm]
    | with_reducible apply Moves.step (State.with_therm_moves ..)
    | with_reducible apply Moves.step (State.elapseTo_moves ..)
    | with_reducible apply Moves.step (State.ladderTo_moves ..)
    | split
    | (with_reducible refine Moves.snd (by assumption) ?_)
    | (with_reducible refine Moves.fst (by assumption) ?_)
    | (with_reducible refine Moves.trd (by assumption) ?_)
    | dsimp +zetaDelta only

theorem State.nvmStep_moves (s : State) (tj : Int) : Moves 0x880200288202022 s (State.nvmStep s tj) := by
  unfold State.nvmStep
  simp -zeta only [State.upd_therm, State.upd_tally]
  repeat' first
    | with_reducible assumption
    | with_reducible exact Moves.refl _ _
    | decide
    | ((with_reducible refine Moves.p_putb (n := 22) ?_ ?_ ?_ ?_); (first | rfl | assumption); decide; decide)
    | with_reducible apply Moves.ite
    | extract_lets
    | rw [State.upd_therm]
    | with_reducible apply Moves.step (State.with_therm_moves ..)
    | rw [State.upd_tally]
    | with_reducible apply Moves.step (State.with_tally_moves ..)
    | with_reducible apply Moves.step (State.syncTally_moves ..)
    | with_reducible apply Moves.step (State.deferNotice_moves ..)
    | with_reducible apply Moves.step (State.tallyKick_moves ..)
    | split
    | dsimp +zetaDelta only

theorem State.thermRun_moves (s : State) (demand : Bool) : Moves 0x200000 s (State.thermRun s demand) := by
  unfold State.thermRun
  repeat' first
    | with_reducible assumption
    | with_reducible exact Moves.refl _ _
    | decide
    | rw [State.upd_therm]
    | with_reducible apply Moves.step (State.with_therm_moves ..)

theorem State.thermNext_moves (s : State) : Moves 0x200000 s (State.thermNext s) := by
  unfold State.thermNext
  simp -zeta only [State.upd_therm]
  repeat' first
    | with_reducible assumption
    | with_reducible exact Moves.refl _ _
    | decide
    | with_reducible apply Moves.ite
    | extract_lets
    | rw [State.upd_therm]
    | with_reducible apply Moves.step (State.with_therm_moves ..)
    | with_reducible apply Moves.step (State.thermRun_moves ..)
    | split
    | dsimp +zetaDelta only

theorem State.thermStart_moves (s : State) : Moves 0x800048200040 s (State.thermStart s) := by
  unfold State.thermStart
  simp -zeta only [State.upd_therm]
  repeat' first
    | with_reducible assumption
    | with_reducible exact Moves.refl _ _
    | decide
    | with_reducible apply Moves.ite
    | extract_lets
    | rw [State.upd_therm]
    | with_reducible apply Moves.step (State.with_therm_moves ..)
    | with_reducible apply Moves.step (State.thermNext_moves ..)
    | with_reducible apply Moves.step (State.elapseTo_moves ..)
    | with_reducible apply Moves.step (State.thermRun_moves ..)
    | split
    | (with_reducible refine Moves.snd (by assumption) ?_)
    | (with_reducible refine Moves.fst (by assumption) ?_)
    | (with_reducible refine Moves.trd (by assumption) ?_)
    | dsimp +zetaDelta only

theorem State.thermDemand_moves (s : State) : Moves 0x200000 s (State.thermDemand s) := by
  unfold State.thermDemand
  repeat' first
    | with_reducible assumption
    | with_reducible exact Moves.refl _ _
    | decide
    | with_reducible apply Moves.step (State.thermRun_moves ..)
    | split
    | (with_reducible refine Moves.snd (by assumption) ?_)
    | (with_reducible refine Moves.fst (by assumption) ?_)
    | (with_reducible refine Moves.trd (by assumption) ?_)

theorem State.thermDone_moves (s0 : State) (l : List (Nat × Int)) : Moves 0xfffffffdffffffb s0 (State.thermDone s0 l) := by
  unfold State.thermDone
  simp -zeta only [State.upd_therm]
  repeat' first
    | with_reducible assumption
    | with_reducible exact Moves.refl _ _
    | decide
    | ((with_reducible refine Moves.p_puti (n := 22) ?_ ?_ ?_ ?_); (first | rfl | assumption); decide; decide)
    | ((with_reducible refine Moves.p_put (n := 22) ?_ ?_ ?_ ?_); (first | rfl | assumption); decide; decide)
    | ((with_reducible refine Moves.p_incWrap (n := 22) ?_ ?_ ?_ ?_); (first | rfl | assumption); decide; decide)
    | intro _
    | with_reducible apply Moves.ite
    | extract_lets
    | rw [State.upd_therm]
    | with_reducible apply Moves.step (State.with_therm_moves ..)
    | with_reducible apply Moves.step (State.elapseTo_moves ..)
    | with_reducible apply Moves.step (State.draw_moves ..)
    | with_reducible apply Moves.step (State.sensorTake_moves ..)
    | with_reducible apply Moves.step (State.sensorCount_moves ..)
    | with_reducible apply Moves.step (State.regrade_moves ..)
    | with_reducible apply Moves.step (State.nvmStep_moves ..)
    | with_reducible apply Moves.step (State.thresholds_moves ..)
    | with_reducible apply Moves.step (State.thermNext_moves ..)
    | with_reducible apply Moves.each
    | split
    | (with_reducible refine Moves.snd (by assumption) ?_)
    | (with_reducible refine Moves.fst (by assumption) ?_)
    | (with_reducible refine Moves.trd (by assumption) ?_)
    | dsimp +zetaDelta only

end Sys2Proof.Machine
end

