-- ==== Sys2Proof/Laws/MovesTally.lean ====
section
/-! SUPPORT. What each operation of Machine/Tally.lean may change. -/

namespace Sys2Proof.Machine

set_option linter.all false

theorem State.syncSpares_moves (s : State) : Moves 0x900200288402022 s (State.syncSpares s) := by
  unfold State.syncSpares
  repeat' first
    | with_reducible assumption
    | with_reducible exact Moves.refl _ _
    | decide
    | ((with_reducible refine Moves.p_put (n := 26) ?_ ?_ ?_ ?_); (first | rfl | assumption); decide; decide)
    | with_reducible apply Moves.step (State.regrade_moves ..)

theorem State.sparesLow_moves (s : State) (h : Nat) : Moves 0x800200288002022 s (State.sparesLow s h) := by
  unfold State.sparesLow
  repeat' first
    | with_reducible assumption
    | with_reducible exact Moves.refl _ _
    | decide
    | ((with_reducible refine Moves.p_raise (n := 26) ?_ ?_ ?_ ?_); (first | rfl | (split <;> rfl)); decide; decide)
    | with_reducible apply Moves.ite
    | rw [State.upd_tally]
    | with_reducible apply Moves.step (State.with_tally_moves ..)
    | split

theorem State.retireSector_moves (s : State) (n : Nat) : Moves 0x900200288402022 s (State.retireSector s n) := by
  unfold State.retireSector
  simp -zeta only [State.upd_tally]
  repeat' first
    | with_reducible assumption
    | with_reducible exact Moves.refl _ _
    | decide
    | ((with_reducible refine Moves.p_raise (n := 26) ?_ ?_ ?_ ?_); (first | rfl | (split <;> rfl)); decide; decide)
    | with_reducible apply Moves.ite
    | extract_lets
    | rw [State.upd_tally]
    | with_reducible apply Moves.step (State.with_tally_moves ..)
    | with_reducible apply Moves.step (State.syncSpares_moves ..)
    | with_reducible apply Moves.step (State.sparesLow_moves ..)
    | split
    | dsimp +zetaDelta only

theorem State.tallyTurn_moves (s : State) : Moves 0x20 s (State.tallyTurn s) := by
  unfold State.tallyTurn
  simp -zeta only [State.upd_tally]
  repeat' first
    | with_reducible assumption
    | with_reducible exact Moves.refl _ _
    | decide
    | with_reducible apply Moves.ite
    | extract_lets
    | rw [State.upd_tally]
    | with_reducible apply Moves.step (State.with_tally_moves ..)
    | split
    | dsimp +zetaDelta only

theorem State.tallyAdvance_moves (s : State) : Moves 0x20 s (State.tallyAdvance s) := by
  unfold State.tallyAdvance
  repeat' first
    | with_reducible assumption
    | with_reducible exact Moves.refl _ _
    | decide
    | with_reducible apply Moves.ite
    | rw [State.upd_tally]
    | with_reducible apply Moves.step (State.with_tally_moves ..)
    | with_reducible apply Moves.step (State.tallyTurn_moves ..)
    | split

theorem State.tallyMend_moves (s : State) : Moves 0x900200288402022 s (State.tallyMend s) := by
  unfold State.tallyMend
  simp -zeta only [State.upd_tally]
  repeat' first
    | with_reducible assumption
    | with_reducible exact Moves.refl _ _
    | decide
    | with_reducible apply Moves.ite
    | extract_lets
    | rw [State.upd_tally]
    | with_reducible apply Moves.step (State.with_tally_moves ..)
    | with_reducible apply Moves.step (State.retireSector_moves ..)
    | with_reducible apply Moves.step (State.tallyTurn_moves ..)
    | split
    | dsimp +zetaDelta only

theorem State.tallyProgramDone_moves (s : State) (ok : Bool) : Moves 0x900200288402022 s (State.tallyProgramDone s ok) := by
  unfold State.tallyProgramDone
  simp -zeta only [State.upd_tally]
  repeat' first
    | with_reducible assumption
    | with_reducible exact Moves.refl _ _
    | decide
    | with_reducible apply Moves.ite
    | extract_lets
    | rw [State.upd_tally]
    | with_reducible apply Moves.step (State.with_tally_moves ..)
    | with_reducible apply Moves.step (State.tallyKick_moves ..)
    | with_reducible apply Moves.step (State.tallyMend_moves ..)
    | with_reducible apply Moves.step (State.tallyAdvance_moves ..)
    | split
    | (with_reducible refine Moves.snd (by assumption) ?_)
    | (with_reducible refine Moves.fst (by assumption) ?_)
    | (with_reducible refine Moves.trd (by assumption) ?_)
    | dsimp +zetaDelta only

theorem State.tallyCommitDone_moves (s : State) (ok : Bool) : Moves 0x900200288402022 s (State.tallyCommitDone s ok) := by
  unfold State.tallyCommitDone
  simp -zeta only [State.upd_tally]
  repeat' first
    | with_reducible assumption
    | with_reducible exact Moves.refl _ _
    | decide
    | with_reducible apply Moves.ite
    | extract_lets
    | rw [State.upd_tally]
    | with_reducible apply Moves.step (State.with_tally_moves ..)
    | with_reducible apply Moves.step (State.tallyKick_moves ..)
    | with_reducible apply Moves.step (State.tallyMend_moves ..)
    | with_reducible apply Moves.step (State.tallyAdvance_moves ..)
    | with_reducible apply Moves.step (State.syncTally_moves ..)
    | split
    | (with_reducible refine Moves.snd (by assumption) ?_)
    | (with_reducible refine Moves.fst (by assumption) ?_)
    | (with_reducible refine Moves.trd (by assumption) ?_)
    | dsimp +zetaDelta only

theorem State.tallyEraseDone_moves (s : State) (ok : Bool) : Moves 0x900200288402022 s (State.tallyEraseDone s ok) := by
  unfold State.tallyEraseDone
  simp -zeta only [State.upd_tally]
  repeat' first
    | with_reducible assumption
    | with_reducible exact Moves.refl _ _
    | decide
    | with_reducible apply Moves.ite
    | extract_lets
    | rw [State.upd_tally]
    | with_reducible apply Moves.step (State.with_tally_moves ..)
    | with_reducible apply Moves.step (State.tallyKick_moves ..)
    | with_reducible apply Moves.step (State.retireSector_moves ..)
    | split
    | dsimp +zetaDelta only

theorem State.tallyScan_moves (s : State) : Moves 0x900200288402022 s (State.tallyScan s) := by
  unfold State.tallyScan
  simp -zeta only [State.upd_tally]
  repeat' first
    | with_reducible assumption
    | with_reducible exact Moves.refl _ _
    | decide
    | ((with_reducible refine Moves.p_add (n := 26) ?_ ?_ ?_ ?_); (first | rfl | assumption); decide; decide)
    | ((with_reducible refine Moves.p_raise (n := 26) ?_ ?_ ?_ ?_); (first | rfl | (split <;> rfl)); decide; decide)
    | with_reducible apply Moves.ite
    | extract_lets
    | rw [State.upd_tally]
    | with_reducible apply Moves.step (State.with_tally_moves ..)
    | with_reducible apply Moves.step (State.syncSpares_moves ..)
    | with_reducible apply Moves.step (State.tallyKick_moves ..)
    | split
    | dsimp +zetaDelta only

theorem State.appendRecord_moves (s : State) (code : Nat) (payload : List Byte) : Moves 0x800200288002022 s (State.appendRecord s code payload) := by
  unfold State.appendRecord
  repeat' first
    | with_reducible assumption
    | with_reducible exact Moves.refl _ _
    | decide
    | with_reducible apply Moves.ite
    | extract_lets
    | with_reducible apply Moves.step (State.queue7_moves ..)
    | with_reducible apply Moves.step (State.tallyPut_moves ..)
    | with_reducible apply Moves.step (State.deferNotice_moves ..)
    | with_reducible apply Moves.step (State.tallyKick_moves ..)
    | split
    | dsimp +zetaDelta only

theorem State.tallyAppend_moves (s : State) : Moves 0x800200288002022 s (State.tallyAppend s) := by
  unfold State.tallyAppend
  repeat' first
    | with_reducible assumption
    | with_reducible exact Moves.refl _ _
    | decide
    | with_reducible apply Moves.ite
    | extract_lets
    | with_reducible apply Moves.step (State.appendRecord_moves ..)
    | split
    | dsimp +zetaDelta only

end Sys2Proof.Machine
end

