-- ==== Sys2Proof/Laws/MovesBoot.lean ====
section
/-! SUPPORT. What each operation of Machine/Boot.lean may change. -/

namespace Sys2Proof.Machine

set_option linter.all false

theorem State.afterReset_moves (s : State) : Moves 0xffffffe1ffffffb s s.afterReset :=
  ⟨rfl, rfl, fun c => by
    simp only [State.canonical, State.afterReset, Bool.and_eq_true] at c ⊢
    exact ⟨⟨rfl, rfl⟩, c.2⟩, Nat.le_refl _, List.prefix_refl _, Nat.le_refl _,
    fun x hx b => absurd b (by
      have : ∀ k < 27, Nat.testBit 0xffffffe1ffffffb (33 + k) = true := by decide
      rw [this _ hx]; decide),
    fun b => absurd b (by decide),
    fun b => absurd b (by decide),
    fun _ => rfl,
    fun b => absurd b (by decide),
    fun b => absurd b (by decide),
    fun b => absurd b (by decide),
    fun b => absurd b (by decide),
    fun b => absurd b (by decide),
    fun b => absurd b (by decide),
    fun b => absurd b (by decide),
    fun b => absurd b (by decide),
    fun b => absurd b (by decide),
    fun b => absurd b (by decide),
    fun b => absurd b (by decide),
    fun b => absurd b (by decide),
    fun b => absurd b (by decide),
    fun b => absurd b (by decide),
    fun b => absurd b (by decide),
    fun b => absurd b (by decide),
    fun b => absurd b (by decide),
    fun b => absurd b (by decide),
    fun b => absurd b (by decide),
    fun b => absurd b (by decide),
    fun b => absurd b (by decide),
    fun b => absurd b (by decide),
    fun b => absurd b (by decide),
    fun b => absurd b (by decide),
    fun b => absurd b (by decide),
    fun b => absurd b (by decide),
    fun _ => rfl,
    fun _ => rfl,
    fun _ => rfl,
    fun _ => rfl⟩

theorem State.porReset_moves (s : State) : Moves 0xffffffe1ffffffb s (State.porReset s) := by
  unfold State.porReset
  repeat' first
    | with_reducible assumption
    | with_reducible exact Moves.refl _ _
    | decide
    | ((with_reducible refine Moves.p_put (n := 25) ?_ ?_ ?_ ?_); (first | rfl | assumption | (dsimp only [F.SEC_P_STAT_FAILS]; omega)); decide; decide)
    | intro _
    | with_reducible apply Moves.ite
    | with_reducible apply Moves.step (State.afterReset_moves ..)
    | with_reducible apply Moves.step (State.syncCoex_moves ..)
    | with_reducible apply Moves.each
    | split

theorem State.keepHold_moves (s old : State) (p : Nat) : Moves 0x800000 s (State.keepHold s old p) := by
  unfold State.keepHold
  repeat' first
    | with_reducible assumption
    | with_reducible exact Moves.refl _ _
    | decide
    | with_reducible apply Moves.step (State.setSecPort_moves ..)

theorem State.rstReset_moves (s : State) : Moves 0xffffffe1ffffffb s (State.rstReset s) := by
  unfold State.rstReset
  repeat' first
    | with_reducible assumption
    | with_reducible exact Moves.refl _ _
    | decide
    | with_reducible refine Moves.a_put (by decide) ?_
    | intro _
    | extract_lets
    | with_reducible apply Moves.step (State.afterReset_moves ..)
    | with_reducible apply Moves.step (State.keepHold_moves ..)
    | with_reducible apply Moves.step (State.setSyn_moves ..)
    | with_reducible apply Moves.step (State.syncCoex_moves ..)
    | with_reducible apply Moves.each
    | dsimp +zetaDelta only

theorem State.released_moves (s : State) : Moves 0x1008000011 s (State.released s) := by
  unfold State.released
  repeat' first
    | with_reducible assumption
    | with_reducible exact Moves.refl _ _
    | decide
    | ((with_reducible refine Moves.p_put (n := 3) ?_ ?_ ?_ ?_); (first | rfl | assumption); decide; decide)
    | with_reducible apply Moves.ite
    | rw [State.upd_boot_power]
    | with_reducible apply Moves.step (State.with_boot_power_moves ..)
    | split

theorem State.porAssert_moves (s : State) : Moves 0xffffffe1ffffffb s (State.porAssert s) := by
  unfold State.porAssert
  simp -zeta only [State.upd_power]
  repeat' first
    | with_reducible assumption
    | with_reducible exact Moves.refl _ _
    | decide
    | extract_lets
    | rw [State.upd_power]
    | with_reducible apply Moves.step (State.with_power_moves ..)
    | with_reducible apply Moves.step (State.porReset_moves ..)
    | dsimp +zetaDelta only

theorem State.porRelease_moves (s : State) : Moves 0x1008000011 s (State.porRelease s) := by
  unfold State.porRelease
  repeat' first
    | with_reducible assumption
    | with_reducible exact Moves.refl _ _
    | decide
    | with_reducible apply Moves.ite
    | rw [State.upd_power]
    | with_reducible apply Moves.step (State.with_power_moves ..)
    | with_reducible apply Moves.step (State.released_moves ..)
    | split

theorem State.supTrip_moves (s : State) : Moves 0xffffffe1ffffffb s (State.supTrip s) := by
  unfold State.supTrip
  simp -zeta only [State.upd_power]
  repeat' first
    | with_reducible assumption
    | with_reducible exact Moves.refl _ _
    | decide
    | extract_lets
    | rw [State.upd_power]
    | with_reducible apply Moves.step (State.with_power_moves ..)
    | with_reducible apply Moves.step (State.porReset_moves ..)
    | dsimp +zetaDelta only

theorem State.supRelease_moves (s : State) : Moves 0x1008000011 s (State.supRelease s) := by
  unfold State.supRelease
  repeat' first
    | with_reducible assumption
    | with_reducible exact Moves.refl _ _
    | decide
    | with_reducible apply Moves.ite
    | rw [State.upd_power]
    | with_reducible apply Moves.step (State.with_power_moves ..)
    | with_reducible apply Moves.step (State.released_moves ..)
    | split

theorem State.powerOff_moves (s : State) : Moves 0xffffffe1ffffffb s (State.powerOff s) := by
  unfold State.powerOff
  simp -zeta only [State.upd_power]
  repeat' first
    | with_reducible assumption
    | with_reducible exact Moves.refl _ _
    | decide
    | extract_lets
    | rw [State.upd_power]
    | with_reducible apply Moves.step (State.with_power_moves ..)
    | with_reducible apply Moves.step (State.porReset_moves ..)
    | dsimp +zetaDelta only

theorem State.rstAssert_moves (s : State) : Moves 0xffffffe1ffffffb s (State.rstAssert s) := by
  unfold State.rstAssert
  simp -zeta only [State.upd_power]
  repeat' first
    | with_reducible assumption
    | with_reducible exact Moves.refl _ _
    | decide
    | with_reducible apply Moves.ite
    | extract_lets
    | rw [State.upd_power]
    | with_reducible apply Moves.step (State.with_power_moves ..)
    | with_reducible apply Moves.step (State.rstReset_moves ..)
    | split
    | dsimp +zetaDelta only

theorem State.rstRelease_moves (s : State) : Moves 0x1008000011 s (State.rstRelease s) := by
  unfold State.rstRelease
  repeat' first
    | with_reducible assumption
    | with_reducible exact Moves.refl _ _
    | decide
    | with_reducible apply Moves.ite
    | rw [State.upd_power]
    | with_reducible apply Moves.step (State.with_power_moves ..)
    | with_reducible apply Moves.step (State.released_moves ..)
    | split

theorem State.selfReset_moves (s : State) : Moves 0xffffffe1ffffffb s (State.selfReset s) := by
  unfold State.selfReset
  repeat' first
    | with_reducible assumption
    | with_reducible exact Moves.refl _ _
    | decide
    | with_reducible apply Moves.step (State.rstAssert_moves ..)
    | with_reducible apply Moves.step (State.rstRelease_moves ..)

theorem State.resetDue_moves (s : State) : Moves 0xffffffe5ffffffb s (State.resetDue s) := by
  unfold State.resetDue
  repeat' first
    | with_reducible assumption
    | with_reducible exact Moves.refl _ _
    | decide
    | with_reducible apply Moves.step (State.selfReset_moves ..)
    | with_reducible apply Moves.step (State.elapseTo_moves ..)
    | split
    | (with_reducible refine Moves.snd (by assumption) ?_)
    | (with_reducible refine Moves.fst (by assumption) ?_)
    | (with_reducible refine Moves.trd (by assumption) ?_)

theorem State.dryDock_moves (s : State) (cause : Nat) : Moves 0xfffffffdffffffb s (State.dryDock s cause) := by
  unfold State.dryDock
  repeat' first
    | with_reducible assumption
    | with_reducible exact Moves.refl _ _
    | decide
    | with_reducible apply Moves.step (State.enterState_moves ..)
    | with_reducible apply Moves.step (State.pendStart_moves ..)

theorem State.strapLatch_moves (s0 : State) (sel chip : Nat) : Moves 0xfffffffdffffffb s0 (State.strapLatch s0 sel chip) := by
  unfold State.strapLatch
  simp -zeta only [State.upd_power_boot]
  repeat' first
    | with_reducible assumption
    | with_reducible exact Moves.refl _ _
    | decide
    | ((with_reducible refine Moves.p_put (n := 3) ?_ ?_ ?_ ?_); (first | rfl | assumption); decide; decide)
    | ((with_reducible refine Moves.p_putb (n := 3) ?_ ?_ ?_ ?_); (first | rfl | assumption); decide; decide)
    | ((with_reducible refine Moves.p_raise (n := 25) ?_ ?_ ?_ ?_); (first | rfl | (split <;> rfl)); decide; decide)
    | ((with_reducible refine Moves.p_raise (n := 3) ?_ ?_ ?_ ?_); (first | rfl | (split <;> rfl)); decide; decide)
    | with_reducible apply Moves.ite
    | extract_lets
    | rw [State.upd_power_boot]
    | with_reducible apply Moves.step (State.with_power_boot_moves ..)
    | with_reducible apply Moves.step (State.elapseTo_moves ..)
    | with_reducible apply Moves.step (State.syncTags_moves ..)
    | with_reducible apply Moves.step (State.tallyScan_moves ..)
    | with_reducible apply Moves.step (State.dryDock_moves ..)
    | split
    | dsimp +zetaDelta only

theorem State.berthPlace_moves (s : State) (e : Nat × Nat) : Moves 0x80018000000 s (s.berthPlace e) := by
  unfold State.berthPlace
  split
  · exact Moves.step (State.berthWindowWrite_moves ..) (by decide) (Moves.refl _ s)
  · split
    · exact Moves.p_mergeWord (n := 10) (by assumption) (by decide) (by decide) (Moves.refl _ s)
    · exact Moves.refl _ s

theorem State.applyImage_moves (s : State) (dev : Nat) (m : Image) : Moves 0xffffffedffffffb s (State.applyImage s dev m) := by
  unfold State.applyImage
  simp -zeta only [State.upd_boot]
  repeat' first
    | with_reducible assumption
    | with_reducible exact Moves.refl _ _
    | decide
    | ((with_reducible refine Moves.p_putb (n := 3) ?_ ?_ ?_ ?_); (first | rfl | assumption); decide; decide)
    | ((with_reducible refine Moves.p_put (n := 3) ?_ ?_ ?_ ?_); (first | rfl | assumption); decide; decide)
    | ((with_reducible refine Moves.p_raise (n := 3) ?_ ?_ ?_ ?_); (first | rfl | (split <;> rfl)); decide; decide)
    | intro _
    | with_reducible apply Moves.ite
    | extract_lets
    | rw [State.upd_boot]
    | with_reducible apply Moves.step (State.with_boot_moves ..)
    | with_reducible apply Moves.step (State.bwLoad_moves ..)
    | with_reducible apply Moves.step (State.berthPlace_moves ..)
    | with_reducible apply Moves.step (State.markDom_moves ..)
    | with_reducible apply Moves.step (State.overlayBase_moves ..)
    | with_reducible apply Moves.step (State.bootRaise_moves ..)
    | with_reducible apply Moves.each
    | split
    | dsimp +zetaDelta only

theorem State.rollback_moves (s : State) : Moves 0x800201288002032 s (State.rollback s) := by
  unfold State.rollback
  repeat' first
    | with_reducible assumption
    | with_reducible exact Moves.refl _ _
    | decide
    | ((with_reducible refine Moves.p_raise (n := 3) ?_ ?_ ?_ ?_); (first | rfl | (split <;> rfl)); decide; decide)
    | intro _
    | with_reducible apply Moves.ite
    | with_reducible apply Moves.step (State.setTag_moves ..)
    | with_reducible apply Moves.each
    | split

theorem State.setFail_moves (s : State) (n c : Nat) : Moves 0x1008000000 s (State.setFail s n c) := by
  unfold State.setFail
  repeat' first
    | with_reducible assumption
    | with_reducible exact Moves.refl _ _
    | decide
    | ((with_reducible refine Moves.p_put (n := 3) ?_ ?_ ?_ ?_); (first | rfl | assumption | (split <;> rfl) | (dsimp +zetaDelta only; split <;> rfl)); decide; decide)
    | with_reducible apply Moves.ite
    | split

theorem State.bootSlots_moves (s : State) (x y : Nat) (l : List Nat) : Moves 0xfffffffdffffffb s (State.bootSlots s x y l) := by
  induction l generalizing s with
  | nil =>
    unfold State.bootSlots
    repeat' first
      | with_reducible assumption
      | with_reducible exact Moves.refl _ _
      | decide
      | ((with_reducible refine Moves.p_raise (n := 3) ?_ ?_ ?_ ?_); (first | rfl | (split <;> rfl)); decide; decide)
      | ((with_reducible refine Moves.p_put (n := 3) ?_ ?_ ?_ ?_); (first | rfl | assumption); decide; decide)
      | ((with_reducible refine Moves.p_putb (n := 3) ?_ ?_ ?_ ?_); (first | rfl | assumption); decide; decide)
      | with_reducible apply Moves.ite
      | extract_lets
      | with_reducible apply Moves.step (State.dryDock_moves ..)
      | with_reducible apply Moves.step (State.setTag_moves ..)
      | with_reducible apply Moves.step (State.setFail_moves ..)
      | with_reducible apply Moves.step (State.applyImage_moves ..)
      | split
      | (with_reducible refine Moves.snd (by assumption) ?_)
      | (with_reducible refine Moves.fst (by assumption) ?_)
      | (with_reducible refine Moves.trd (by assumption) ?_)
      | dsimp +zetaDelta only
  | cons _ _ ih =>
    unfold State.bootSlots
    repeat' first
      | with_reducible assumption
      | with_reducible exact Moves.refl _ _
      | decide
      | with_reducible apply Moves.step (ih ..)
      | ((with_reducible refine Moves.p_raise (n := 3) ?_ ?_ ?_ ?_); (first | rfl | (split <;> rfl)); decide; decide)
      | ((with_reducible refine Moves.p_put (n := 3) ?_ ?_ ?_ ?_); (first | rfl | assumption); decide; decide)
      | ((with_reducible refine Moves.p_putb (n := 3) ?_ ?_ ?_ ?_); (first | rfl | assumption); decide; decide)
      | with_reducible apply Moves.ite
      | extract_lets
      | with_reducible apply Moves.step (State.dryDock_moves ..)
      | with_reducible apply Moves.step (State.setTag_moves ..)
      | with_reducible apply Moves.step (State.setFail_moves ..)
      | with_reducible apply Moves.step (State.applyImage_moves ..)
      | split
      | (with_reducible refine Moves.snd (by assumption) ?_)
      | (with_reducible refine Moves.fst (by assumption) ?_)
      | (with_reducible refine Moves.trd (by assumption) ?_)
      | dsimp +zetaDelta only

theorem State.imageLoaded_moves (s : State) (answers : Nat) : Moves 0xfffffffdffffffb s (State.imageLoaded s answers) := by
  unfold State.imageLoaded
  simp -zeta only [State.upd_boot]
  repeat' first
    | with_reducible assumption
    | with_reducible exact Moves.refl _ _
    | decide
    | intro _
    | with_reducible apply Moves.ite
    | extract_lets
    | rw [State.upd_boot]
    | with_reducible apply Moves.step (State.with_boot_moves ..)
    | with_reducible apply Moves.step (State.syncTags_moves ..)
    | with_reducible apply Moves.step (State.tallyScan_moves ..)
    | with_reducible apply Moves.step (State.rollback_moves ..)
    | with_reducible apply Moves.step (State.setFail_moves ..)
    | with_reducible apply Moves.step (State.bootSlots_moves ..)
    | with_reducible apply Moves.each
    | split
    | dsimp +zetaDelta only

theorem State.slipResult_moves (s : State) (r : Nat) : Moves 0x1008000000 s (State.slipResult s r) := by
  unfold State.slipResult
  repeat' first
    | with_reducible assumption
    | with_reducible exact Moves.refl _ _
    | decide
    | ((with_reducible refine Moves.p_put (n := 3) ?_ ?_ ?_ ?_); (first | rfl | assumption); decide; decide)

theorem State.slipStart_moves (s : State) (op sector : Nat) : Moves 0x1008000010 s (State.slipStart s op sector) := by
  unfold State.slipStart
  repeat' first
    | with_reducible assumption
    | with_reducible exact Moves.refl _ _
    | decide
    | ((with_reducible refine Moves.p_putb (n := 3) ?_ ?_ ?_ ?_); (first | rfl | assumption); decide; decide)
    | with_reducible apply Moves.ite
    | rw [State.upd_boot]
    | with_reducible apply Moves.step (State.with_boot_moves ..)
    | with_reducible apply Moves.step (State.slipResult_moves ..)
    | split

theorem State.slipCmd_moves (s : State) (op sector : Nat) : Moves 0x1008000010 s (State.slipCmd s op sector) := by
  unfold State.slipCmd
  repeat' first
    | with_reducible assumption
    | with_reducible exact Moves.refl _ _
    | decide
    | ((with_reducible refine Moves.p_putb (n := 3) ?_ ?_ ?_ ?_); (first | rfl | assumption); decide; decide)
    | with_reducible apply Moves.ite
    | rw [State.upd_boot]
    | with_reducible apply Moves.step (State.with_boot_moves ..)
    | with_reducible apply Moves.step (State.slipResult_moves ..)
    | with_reducible apply Moves.step (State.slipStart_moves ..)
    | split

theorem State.slipEffect_moves (s : State) (op sector res : Nat) : Moves 0x1128000010 s (State.slipEffect s op sector res).2 := by
  unfold State.slipEffect
  simp -zeta only [State.upd_boot]
  repeat' first
    | with_reducible assumption
    | with_reducible exact Moves.refl _ _
    | decide
    | with_reducible apply Moves.ite
    | extract_lets
    | rw [State.upd_boot]
    | with_reducible apply Moves.step (State.with_boot_moves ..)
    | with_reducible apply Moves.step (State.setTag_moves ..)
    | with_reducible apply Moves.step (State.setFlash_moves ..)
    | with_reducible apply Moves.step (State.draw_moves ..)
    | with_reducible apply Moves.step (State.confirmSlot_moves ..)
    | split
    | (with_reducible refine Moves.snd (by assumption) ?_)
    | (with_reducible refine Moves.fst (by assumption) ?_)
    | (with_reducible refine Moves.trd (by assumption) ?_)
    | dsimp +zetaDelta only

theorem State.slipDone_moves (s : State) (res : Nat) : Moves 0x1128000010 s (State.slipDone s res) := by
  unfold State.slipDone
  simp -zeta only [State.upd_boot]
  repeat' first
    | with_reducible assumption
    | with_reducible exact Moves.refl _ _
    | decide
    | ((with_reducible refine Moves.p_putb (n := 3) ?_ ?_ ?_ ?_); (first | rfl | assumption); decide; decide)
    | extract_lets
    | rw [State.upd_boot]
    | with_reducible apply Moves.step (State.with_boot_moves ..)
    | with_reducible apply Moves.step (State.slipEffect_moves ..)
    | with_reducible apply Moves.step (State.slipResult_moves ..)
    | split
    | (with_reducible refine Moves.snd (by assumption) ?_)
    | (with_reducible refine Moves.fst (by assumption) ?_)
    | (with_reducible refine Moves.trd (by assumption) ?_)
    | dsimp +zetaDelta only

theorem State.confirmTimeout_moves (s : State) : Moves 0xffffffedffffffb s (State.confirmTimeout s) := by
  unfold State.confirmTimeout
  repeat' first
    | with_reducible assumption
    | with_reducible exact Moves.refl _ _
    | decide
    | ((with_reducible refine Moves.p_raise (n := 3) ?_ ?_ ?_ ?_); (first | rfl | (split <;> rfl)); decide; decide)
    | with_reducible apply Moves.ite
    | extract_lets
    | with_reducible apply Moves.step (State.elapseTo_moves ..)
    | with_reducible apply Moves.step (State.selfReset_moves ..)
    | split
    | dsimp +zetaDelta only

end Sys2Proof.Machine
end

