-- ==== Sys2Proof/Laws/MovesPilot.lean ====
section
/-! SUPPORT. What each operation of Machine/Pilot.lean may change. -/

namespace Sys2Proof.Machine

set_option linter.all false

theorem State.advise_moves (s : State) (code kind unit cause grade left : Nat) : Moves 0x800200288002022 s (State.advise s code kind unit cause grade left) := by
  unfold State.advise
  repeat' first
    | with_reducible assumption
    | with_reducible exact Moves.refl _ _
    | decide
    | with_reducible apply Moves.step (State.appendRecord_moves ..)

theorem State.adviseKind_moves (s : State) (code kind unit cause : Nat) : Moves 0x800200288002022 s (State.adviseKind s code kind unit cause) := by
  unfold State.adviseKind
  repeat' first
    | with_reducible assumption
    | with_reducible exact Moves.refl _ _
    | decide
    | with_reducible apply Moves.step (State.advise_moves ..)

theorem State.advisePath_moves (s : State) (code u cause left : Nat) : Moves 0x800200288002022 s (State.advisePath s code u cause left) := by
  unfold State.advisePath
  repeat' first
    | with_reducible assumption
    | with_reducible exact Moves.refl _ _
    | decide
    | with_reducible apply Moves.step (State.advise_moves ..)

theorem State.setRetired_moves (s : State) (u : Nat) (b : Bool) : Moves 0x90028e2884029a2 s (State.setRetired s u b) := by
  unfold State.setRetired
  repeat' first
    | with_reducible assumption
    | with_reducible exact Moves.refl _ _
    | decide
    | with_reducible apply Moves.ite
    | extract_lets
    | with_reducible apply Moves.step (State.txRetire_moves ..)
    | with_reducible apply Moves.step (State.rxRetire_moves ..)
    | split
    | dsimp +zetaDelta only

theorem State.pilotRetire_moves (s : State) (u cause : Nat) : Moves 0x90028e2884029a2 s (State.pilotRetire s u cause) := by
  unfold State.pilotRetire
  repeat' first
    | with_reducible assumption
    | with_reducible exact Moves.refl _ _
    | decide
    | with_reducible apply Moves.ite
    | with_reducible apply Moves.step (State.setRetired_moves ..)
    | with_reducible apply Moves.step (State.advisePath_moves ..)
    | split

theorem State.resolveBerth_moves (s : State) (dir old b : Nat) : Moves 0x10000000 s (State.resolveBerth s dir old b) := by
  unfold State.resolveBerth
  repeat' first
    | with_reducible assumption
    | with_reducible exact Moves.refl _ _
    | decide
    | intro _
    | extract_lets
    | with_reducible apply Moves.step (State.setMemWord_moves ..)
    | with_reducible apply Moves.each
    | dsimp +zetaDelta only

theorem State.resolve_moves (s : State) (dir old u cause : Nat) : Moves 0x800200298002022 s (State.resolve s dir old u cause).1 := by
  unfold State.resolve
  repeat' first
    | with_reducible assumption
    | with_reducible exact Moves.refl _ _
    | decide
    | intro _
    | with_reducible apply Moves.ite
    | extract_lets
    | with_reducible apply Moves.step (State.advisePath_moves ..)
    | with_reducible apply Moves.step (State.resolveBerth_moves ..)
    | with_reducible apply Moves.each
    | split
    | dsimp +zetaDelta only

theorem State.resolveAfter_moves (s : State) (u cause : Nat) : Moves 0x800200298002022 s (State.resolveAfter s u cause).1 := by
  unfold State.resolveAfter
  repeat' first
    | with_reducible assumption
    | with_reducible exact Moves.refl _ _
    | decide
    | with_reducible apply Moves.ite
    | extract_lets
    | with_reducible apply Moves.step (State.resolve_moves ..)
    | split
    | dsimp +zetaDelta only

theorem State.pilotReady_moves (s : State) : Moves 0xa00200288402022 s (State.pilotReady s) := by
  unfold State.pilotReady
  simp -zeta only [State.upd_rsv]
  repeat' first
    | with_reducible assumption
    | with_reducible exact Moves.refl _ _
    | decide
    | ((with_reducible refine Moves.p_putb (n := 24) ?_ ?_ ?_ ?_); (first | rfl | assumption); decide; decide)
    | ((with_reducible refine Moves.p_put (n := 24) ?_ ?_ ?_ ?_); (first | rfl | assumption); decide; decide)
    | ((with_reducible refine Moves.p_raise (n := 24) ?_ ?_ ?_ ?_); (first | rfl | (split <;> rfl)); decide; decide)
    | with_reducible apply Moves.ite
    | extract_lets
    | rw [State.upd_rsv]
    | with_reducible apply Moves.step (State.with_rsv_moves ..)
    | split
    | dsimp +zetaDelta only

theorem State.mailEnd_moves (s : State) (p tag result : Nat) (rsp0 : List Nat) : Moves 0x200200288402002 s (State.mailEnd s p tag result rsp0) := by
  unfold State.mailEnd
  simp -zeta only [State.upd_rsv]
  repeat' first
    | with_reducible assumption
    | with_reducible exact Moves.refl _ _
    | decide
    | ((with_reducible refine Moves.p_put (n := 24) ?_ ?_ ?_ ?_); (first | rfl | assumption | (dsimp only [F.PILOT_MB_RSP_WORD, F.PILOT_MB_STAT_RESULT, F.PILOT_MB_STAT_TAG]; omega)); decide; decide)
    | ((with_reducible refine Moves.p_incWrap (n := 24) ?_ ?_ ?_ ?_); (first | rfl | assumption | (dsimp only [F.PILOT_MB_STAT_SEQ]; omega)); decide; decide)
    | ((with_reducible refine Moves.p_putb (n := 24) ?_ ?_ ?_ ?_); (first | rfl | assumption | (dsimp only [F.PILOT_MB_STAT_BUSY, F.PILOT_MB_STAT_DONE]; omega)); decide; decide)
    | ((with_reducible refine Moves.p_setWordsBytes (n := 24) ?_ ?_ ?_ ?_); (intro i hi; omega); decide; decide)
    | ((with_reducible refine Moves.p_raiseIrq7 (n := 24) ?_ ?_ ?_ ?_); (first | rfl | (split <;> rfl)); decide; decide)
    | intro _
    | extract_lets
    | rw [State.upd_rsv]
    | with_reducible apply Moves.step (State.with_rsv_moves ..)
    | with_reducible apply Moves.each
    | dsimp +zetaDelta only

theorem State.pilotRestart_moves (s : State) (watchdog : Bool) (drop : Option Nat) : Moves 0xffffffe88402022 s (State.pilotRestart s watchdog drop) := by
  unfold State.pilotRestart
  simp -zeta only [State.upd_rsv]
  repeat' first
    | with_reducible assumption
    | with_reducible exact Moves.refl _ _
    | decide
    | ((with_reducible refine Moves.p_inc (n := 24) ?_ ?_ ?_ ?_); (first | rfl | assumption); decide; decide)
    | ((with_reducible refine Moves.p_putb (n := 24) ?_ ?_ ?_ ?_); (first | rfl | assumption); decide; decide)
    | ((with_reducible refine Moves.p_raise (n := 24) ?_ ?_ ?_ ?_); (first | rfl | (split <;> rfl)); decide; decide)
    | intro _
    | with_reducible apply Moves.ite
    | extract_lets
    | rw [State.upd_rsv]
    | with_reducible apply Moves.step (State.with_rsv_moves ..)
    | with_reducible apply Moves.step (State.eraseRegs_moves ..)
    | with_reducible apply Moves.step (State.mailEnd_moves ..)
    | with_reducible apply Moves.each
    | split
    | dsimp +zetaDelta only

theorem State.pilotWatchdog_moves (s : State) : Moves 0xffffffe88402022 s (State.pilotWatchdog s) := by
  unfold State.pilotWatchdog
  repeat' first
    | with_reducible assumption
    | with_reducible exact Moves.refl _ _
    | decide
    | with_reducible apply Moves.ite
    | with_reducible apply Moves.step (State.pilotRestart_moves ..)
    | split

theorem State.setMailRun_moves (s : State) (p : Nat) (r : MbxRun) : Moves 0x400000 s (State.setMailRun s p r) := by
  unfold State.setMailRun
  repeat' first
    | with_reducible assumption
    | with_reducible exact Moves.refl _ _
    | decide
    | rw [State.upd_rsv]
    | with_reducible apply Moves.step (State.with_rsv_moves ..)

theorem State.slipRun_moves (s : State) (op sector i : Nat) (fail : Option (Nat × Nat)) : Moves 0x1128000010 s (State.slipRun s op sector i fail) := by
  unfold State.slipRun
  repeat' first
    | with_reducible assumption
    | with_reducible exact Moves.refl _ _
    | decide
    | with_reducible apply Moves.ite
    | extract_lets
    | with_reducible apply Moves.step (State.slipCmd_moves ..)
    | with_reducible apply Moves.step (State.slipDone_moves ..)
    | split
    | (with_reducible refine Moves.snd (by assumption) ?_)
    | (with_reducible refine Moves.fst (by assumption) ?_)
    | (with_reducible refine Moves.trd (by assumption) ?_)
    | dsimp +zetaDelta only

theorem State.slipWrites_moves (s : State) (src n : Nat) (fail : Option (Nat × Nat)) (k : Nat) : Moves 0x1138000010 s (State.slipWrites s src n fail k) := by
  induction k generalizing s with
  | zero =>
    unfold State.slipWrites
    repeat' first
      | with_reducible assumption
      | with_reducible exact Moves.refl _ _
      | decide
      | with_reducible apply Moves.ite
      | extract_lets
      | with_reducible apply Moves.step (State.slipRun_moves ..)
      | with_reducible apply Moves.step (State.setBytes_moves ..)
      | split
      | dsimp +zetaDelta only
  | succ _ ih =>
    unfold State.slipWrites
    repeat' first
      | with_reducible assumption
      | with_reducible exact Moves.refl _ _
      | decide
      | with_reducible apply Moves.step (ih ..)
      | with_reducible apply Moves.ite
      | extract_lets
      | with_reducible apply Moves.step (State.slipRun_moves ..)
      | with_reducible apply Moves.step (State.setBytes_moves ..)
      | split
      | dsimp +zetaDelta only

theorem State.slipUpdate_moves (s : State) (src len : Nat) (fail : Option (Nat × Nat)) : Moves 0x1138000010 s (State.slipUpdate s src len fail) := by
  unfold State.slipUpdate
  repeat' first
    | with_reducible assumption
    | with_reducible exact Moves.refl _ _
    | decide
    | with_reducible apply Moves.ite
    | extract_lets
    | with_reducible apply Moves.step (State.slipRun_moves ..)
    | with_reducible apply Moves.step (State.slipWrites_moves ..)
    | split
    | dsimp +zetaDelta only

theorem State.mailTake_moves (s : State) (r : MbxRun) : Moves 0x900edeadc486dea s (State.mailTake s r).2.2 := by
  unfold State.mailTake
  simp -zeta only [State.upd_rsv]
  repeat' first
    | with_reducible assumption
    | with_reducible exact Moves.refl _ _
    | decide
    | with_reducible apply Moves.ite
    | extract_lets
    | rw [State.upd_rsv]
    | with_reducible apply Moves.step (State.with_rsv_moves ..)
    | with_reducible apply Moves.step (State.policy_moves ..)
    | with_reducible apply Moves.step (State.pilotRetire_moves ..)
    | with_reducible apply Moves.step (State.setRetired_moves ..)
    | with_reducible apply Moves.step (State.advisePath_moves ..)
    | with_reducible apply Moves.step (State.bcalReq_moves ..)
    | split
    | (with_reducible refine Moves.snd (by assumption) ?_)
    | (with_reducible refine Moves.fst (by assumption) ?_)
    | (with_reducible refine Moves.trd (by assumption) ?_)
    | dsimp +zetaDelta only

theorem State.mailAct_moves (s : State) (p : Nat) : Moves 0xffffffedc486dea s (State.mailAct s p) := by
  unfold State.mailAct
  repeat' first
    | with_reducible assumption
    | with_reducible exact Moves.refl _ _
    | decide
    | with_reducible apply Moves.ite
    | extract_lets
    | with_reducible apply Moves.step (State.violation_moves ..)
    | with_reducible apply Moves.step (State.setMailRun_moves ..)
    | with_reducible apply Moves.step (State.pilotRestart_moves ..)
    | with_reducible apply Moves.step (State.mailTake_moves ..)
    | split
    | (with_reducible refine Moves.snd (by assumption) ?_)
    | (with_reducible refine Moves.fst (by assumption) ?_)
    | (with_reducible refine Moves.trd (by assumption) ?_)
    | dsimp +zetaDelta only

theorem State.mailGo_moves (s : State) (p v : Nat) : Moves 0xffffffedc486dea s (State.mailGo s p v) := by
  unfold State.mailGo
  repeat' first
    | with_reducible assumption
    | with_reducible exact Moves.refl _ _
    | decide
    | ((with_reducible refine Moves.p_putb (n := 24) ?_ ?_ ?_ ?_); (first | rfl | assumption | (dsimp only [F.PILOT_MB_STAT_BUSY, F.PILOT_MB_STAT_DONE]; omega)); decide; decide)
    | with_reducible apply Moves.ite
    | extract_lets
    | with_reducible apply Moves.step (State.setMailRun_moves ..)
    | with_reducible apply Moves.step (State.mailAct_moves ..)
    | split
    | dsimp +zetaDelta only

theorem State.mailClose_moves (s : State) (r : MbxRun) (fail : Option (Nat × Nat)) : Moves 0x8002013b8002032 s (State.mailClose s r fail).2.2 := by
  unfold State.mailClose
  repeat' first
    | with_reducible assumption
    | with_reducible exact Moves.refl _ _
    | decide
    | with_reducible apply Moves.ite
    | extract_lets
    | with_reducible apply Moves.step (State.resolveAfter_moves ..)
    | with_reducible apply Moves.step (State.resolve_moves ..)
    | with_reducible apply Moves.step (State.slipUpdate_moves ..)
    | split
    | (with_reducible refine Moves.snd (by assumption) ?_)
    | (with_reducible refine Moves.fst (by assumption) ?_)
    | (with_reducible refine Moves.trd (by assumption) ?_)
    | dsimp +zetaDelta only

theorem State.mailDone_moves (s0 : State) (p : Nat) (fail : Option (Nat × Nat)) : Moves 0xffffffffc486dfa s0 (State.mailDone s0 p fail) := by
  unfold State.mailDone
  repeat' first
    | with_reducible assumption
    | with_reducible exact Moves.refl _ _
    | decide
    | with_reducible apply Moves.ite
    | extract_lets
    | with_reducible apply Moves.step (State.mailAct_moves ..)
    | with_reducible apply Moves.step (State.mailClose_moves ..)
    | with_reducible apply Moves.step (State.mailEnd_moves ..)
    | split
    | (with_reducible refine Moves.snd (by assumption) ?_)
    | (with_reducible refine Moves.fst (by assumption) ?_)
    | (with_reducible refine Moves.trd (by assumption) ?_)
    | dsimp +zetaDelta only

theorem State.pilotSwap_moves (s : State) (q : Nat) : Moves 0x8002d029c082522 s (State.pilotSwap s q) := by
  unfold State.pilotSwap
  repeat' first
    | with_reducible assumption
    | with_reducible exact Moves.refl _ _
    | decide
    | with_reducible apply Moves.ite
    | extract_lets
    | with_reducible apply Moves.step (State.swapGo_moves ..)
    | with_reducible apply Moves.step (State.adviseKind_moves ..)
    | split
    | (with_reducible refine Moves.snd (by assumption) ?_)
    | (with_reducible refine Moves.fst (by assumption) ?_)
    | (with_reducible refine Moves.trd (by assumption) ?_)
    | dsimp +zetaDelta only

theorem State.pilotSynSwap_moves (s : State) : Moves 0x90020aa884021aa s (State.pilotSynSwap s) := by
  unfold State.pilotSynSwap
  repeat' first
    | with_reducible assumption
    | with_reducible exact Moves.refl _ _
    | decide
    | with_reducible apply Moves.ite
    | extract_lets
    | with_reducible apply Moves.step (State.routeWrite_moves ..)
    | with_reducible apply Moves.step (State.adviseKind_moves ..)
    | split
    | (with_reducible refine Moves.snd (by assumption) ?_)
    | (with_reducible refine Moves.fst (by assumption) ?_)
    | (with_reducible refine Moves.trd (by assumption) ?_)
    | dsimp +zetaDelta only

theorem State.policy_moves (s : State) (row unit : Nat) (again : Bool) : Moves 0x900edeadc486dea s (State.policy s row unit again) := by
  unfold State.policy
  simp -zeta only [State.upd_rsv]
  repeat' first
    | with_reducible assumption
    | with_reducible exact Moves.refl _ _
    | decide
    | with_reducible apply Moves.ite
    | extract_lets
    | rw [State.upd_rsv]
    | with_reducible apply Moves.step (State.with_rsv_moves ..)
    | with_reducible apply Moves.step (State.pilotRetire_moves ..)
    | with_reducible apply Moves.step (State.rxCalReq_moves ..)
    | with_reducible apply Moves.step (State.txCalReq_moves ..)
    | with_reducible apply Moves.step (State.resolveAfter_moves ..)
    | with_reducible apply Moves.step (State.pilotSwap_moves ..)
    | with_reducible apply Moves.step (State.pilotSynSwap_moves ..)
    | with_reducible apply Moves.step (State.adviseKind_moves ..)
    | with_reducible apply Moves.step (State.elapseTo_moves ..)
    | with_reducible apply Moves.step (State.bcalReq_moves ..)
    | with_reducible apply Moves.step (State.xcalReq_moves ..)
    | split
    | (with_reducible refine Moves.snd (by assumption) ?_)
    | (with_reducible refine Moves.fst (by assumption) ?_)
    | (with_reducible refine Moves.trd (by assumption) ?_)
    | dsimp +zetaDelta only

theorem State.pilotAct_moves (s : State) (row unit : Nat) (again : Bool) : Moves 0x900edeadc486dea s (State.pilotAct s row unit again) := by
  unfold State.pilotAct
  repeat' first
    | with_reducible assumption
    | with_reducible exact Moves.refl _ _
    | decide
    | with_reducible apply Moves.ite
    | with_reducible apply Moves.step (State.policy_moves ..)
    | split

theorem State.tuneWrite_moves (s : State) (m v : Nat) : Moves 0x80220028c012022 s (State.tuneWrite s m v) := by
  unfold State.tuneWrite
  repeat' first
    | with_reducible assumption
    | with_reducible exact Moves.refl _ _
    | decide
    | with_reducible apply Moves.ite
    | extract_lets
    | with_reducible apply Moves.step (State.rfPush_moves ..)
    | split
    | (with_reducible refine Moves.snd (by assumption) ?_)
    | (with_reducible refine Moves.fst (by assumption) ?_)
    | (with_reducible refine Moves.trd (by assumption) ?_)
    | dsimp +zetaDelta only

theorem State.steer_moves (s : State) (p m cur : Nat) (up : Bool) : Moves 0x80220028c412022 s (State.steer s p m cur up) := by
  unfold State.steer
  simp -zeta only [State.upd_rsv]
  repeat' first
    | with_reducible assumption
    | with_reducible exact Moves.refl _ _
    | decide
    | with_reducible apply Moves.ite
    | extract_lets
    | rw [State.upd_rsv]
    | with_reducible apply Moves.step (State.with_rsv_moves ..)
    | with_reducible apply Moves.step (State.tuneWrite_moves ..)
    | split
    | (with_reducible refine Moves.snd (by assumption) ?_)
    | (with_reducible refine Moves.fst (by assumption) ?_)
    | (with_reducible refine Moves.trd (by assumption) ?_)
    | dsimp +zetaDelta only

theorem State.snapshotPush_moves (s : State) (seq : Nat) (l : List Byte) : Moves 0x80100000 s (State.snapshotPush s seq l) := by
  unfold State.snapshotPush
  repeat' first
    | with_reducible assumption
    | with_reducible exact Moves.refl _ _
    | decide
    | with_reducible apply Moves.ite
    | extract_lets
    | with_reducible apply Moves.step (State.emit_moves ..)
    | with_reducible apply Moves.step (State.setChan_moves ..)
    | split
    | dsimp +zetaDelta only

theorem State.telemetry_moves (s0 : State) : Moves 0x2008000c8500040 s0 (State.telemetry s0) := by
  unfold State.telemetry
  simp -zeta only [State.upd_rsv]
  repeat' first
    | with_reducible assumption
    | with_reducible exact Moves.refl _ _
    | decide
    | ((with_reducible refine Moves.p_putb (n := 24) ?_ ?_ ?_ ?_); (first | rfl | assumption); decide; decide)
    | ((with_reducible refine Moves.p_put (n := 24) ?_ ?_ ?_ ?_); (first | rfl | assumption); decide; decide)
    | with_reducible apply Moves.ite
    | extract_lets
    | rw [State.upd_rsv]
    | with_reducible apply Moves.step (State.with_rsv_moves ..)
    | with_reducible apply Moves.step (State.elapseTo_moves ..)
    | with_reducible apply Moves.step (State.snapshotPush_moves ..)
    | split
    | dsimp +zetaDelta only

theorem State.telemLatch_moves (s : State) : Moves 0x200000008000000 s (State.telemLatch s) := by
  unfold State.telemLatch
  repeat' first
    | with_reducible assumption
    | with_reducible exact Moves.refl _ _
    | decide
    | ((with_reducible refine Moves.p_setWordsBytes (n := 24) ?_ ?_ ?_ ?_); (intro i hi; omega); decide; decide)
    | ((with_reducible refine Moves.p_putb (n := 24) ?_ ?_ ?_ ?_); (first | rfl | assumption); decide; decide)

end Sys2Proof.Machine
end

