-- ==== Sys2Proof/Laws/MovesWrites.lean ====
section
/-! SUPPORT. What each operation of Machine/Writes.lean may change. -/

namespace Sys2Proof.Machine

set_option linter.all false

theorem Moves.p_plain {M n : Nat} {s0 s : State} {a v : Nat} (hn : a / 65536 = n) (hm : 0x8000000 ||| M = M)
    (hb : 2 ^ (33 + n) ||| M = M) (h : Moves M s0 s) : Moves M s0 (s.plain a v) := by
  unfold State.plain
  exact Moves.p_mergeWord hn (sub_trans (by decide) hm) hb h

theorem Moves.p_clearStep {M n : Nat} {s0 s : State} {a st k : Nat} (hn : ∀ i < k, (a + st * i) / 65536 = n) (hm : 0x8000000 ||| M = M)
    (hb : 2 ^ (33 + n) ||| M = M) (h : Moves M s0 s) : Moves M s0 (s.clearStep a st k) := by
  unfold State.clearStep
  exact Moves.foldlMem (fun t i hi ht => Moves.p_setWord (hn i (by exact List.mem_range.mp hi)) (sub_trans (by decide) hm) hb ht) h

theorem State.writeTop_moves (s : State) (a v : Nat) (ha : a / 65536 = 0) : Moves 0x208000002 s (State.writeTop s a v) := by
  unfold State.writeTop
  repeat' first
    | with_reducible assumption
    | with_reducible exact Moves.refl _ _
    | decide
    | ((with_reducible refine Moves.p_plain (n := 0) ?_ ?_ ?_ ?_); (first | rfl | assumption); decide; decide)
    | ((with_reducible refine Moves.p_put (n := 0) ?_ ?_ ?_ ?_); (first | rfl | assumption | (dsimp only [F.TOP_DRIFT_MIN_NS, F.TOP_SLIP_CNT_COUNT]; omega)); decide; decide)
    | intro _
    | with_reducible apply Moves.ite
    | extract_lets
    | with_reducible apply Moves.step (State.syncIrq_moves ..)
    | with_reducible apply Moves.each
    | with_reducible apply Moves.iff
    | split
    | dsimp +zetaDelta only

theorem State.writePwr_moves (s : State) (a v : Nat) (ha : a / 65536 = 1) : Moves 0xfffffffdffffffb s (State.writePwr s a v) := by
  unfold State.writePwr
  repeat' first
    | with_reducible assumption
    | with_reducible exact Moves.refl _ _
    | decide
    | ((with_reducible refine Moves.p_plain (n := 1) ?_ ?_ ?_ ?_); (first | rfl | assumption); decide; decide)
    | with_reducible apply Moves.ite
    | with_reducible apply Moves.step (State.powerRequest_moves ..)
    | with_reducible apply Moves.step (State.runOffWrite_moves ..)
    | split

theorem State.writeSyn_moves (s : State) (n v : Nat) : Moves 0x80420aa8c0221aa s (State.writeSyn s n v) := by
  unfold State.writeSyn
  repeat' first
    | with_reducible assumption
    | with_reducible exact Moves.refl _ _
    | decide
    | ((with_reducible refine Moves.p_plain (n := 2) ?_ ?_ ?_ ?_); (first | rfl | assumption | (dsimp only [F.CLK_SYN_CTL_GO]; omega)); decide; decide)
    | intro _
    | with_reducible apply Moves.ite
    | extract_lets
    | with_reducible apply Moves.step (State.synCommand_moves ..)
    | with_reducible apply Moves.step (State.bwFix_moves ..)
    | with_reducible apply Moves.iff
    | split
    | dsimp +zetaDelta only

theorem State.writeRoute_moves (s : State) (v : Nat) : Moves 0xffffffedffffffb s (State.writeRoute s v) := by
  unfold State.writeRoute
  repeat' first
    | with_reducible assumption
    | with_reducible exact Moves.refl _ _
    | decide
    | with_reducible apply Moves.ite
    | extract_lets
    | with_reducible apply Moves.step (State.routeWrite_moves ..)
    | with_reducible apply Moves.step (State.runOffApply_moves ..)
    | with_reducible apply Moves.step (State.bwFix_moves ..)
    | split
    | dsimp +zetaDelta only

theorem State.writeTxNco_moves (s : State) (v : Nat) : Moves 0x80421028c022122 s (State.writeTxNco s v) := by
  unfold State.writeTxNco
  repeat' first
    | with_reducible assumption
    | with_reducible exact Moves.refl _ _
    | decide
    | intro _
    | extract_lets
    | with_reducible apply Moves.step (State.txNcoWrite_moves ..)
    | with_reducible apply Moves.step (State.bwFix_moves ..)
    | with_reducible apply Moves.iff
    | dsimp +zetaDelta only

theorem State.writeClk_moves (s : State) (a v : Nat) (ha : a / 65536 = 2) : Moves 0xffffffedffffffb s (State.writeClk s a v) := by
  unfold State.writeClk
  repeat' first
    | with_reducible assumption
    | with_reducible exact Moves.refl _ _
    | decide
    | ((with_reducible refine Moves.p_plain (n := 2) ?_ ?_ ?_ ?_); (first | rfl | assumption); decide; decide)
    | intro _
    | with_reducible apply Moves.ite
    | with_reducible apply Moves.step (State.writeSyn_moves ..)
    | with_reducible apply Moves.step (State.writeRoute_moves ..)
    | with_reducible apply Moves.step (State.resync_moves ..)
    | with_reducible apply Moves.iff
    | split

theorem State.writeBoot_moves (s : State) (a v : Nat) (ha : a / 65536 = 3) : Moves 0x1008000010 s (State.writeBoot s a v) := by
  unfold State.writeBoot
  repeat' first
    | with_reducible assumption
    | with_reducible exact Moves.refl _ _
    | decide
    | ((with_reducible refine Moves.p_plain (n := 3) ?_ ?_ ?_ ?_); (first | rfl | assumption); decide; decide)
    | with_reducible apply Moves.ite
    | with_reducible apply Moves.step (State.slipCmd_moves ..)
    | split

theorem State.writeRxaCtl_moves (s : State) (v : Nat) : Moves 0x8006862880068a2 s (State.writeRxaCtl s v) := by
  unfold State.writeRxaCtl
  repeat' first
    | with_reducible assumption
    | with_reducible exact Moves.refl _ _
    | decide
    | ((with_reducible refine Moves.p_plain (n := 4) ?_ ?_ ?_ ?_); (first | rfl | assumption); decide; decide)
    | with_reducible apply Moves.ite
    | extract_lets
    | with_reducible apply Moves.step (State.rxRestart_moves ..)
    | with_reducible apply Moves.step (State.syncRxd_moves ..)
    | with_reducible apply Moves.step (State.cfgWritten_moves ..)
    | split
    | dsimp +zetaDelta only

theorem State.writeAgcCtl_moves (s : State) (v : Nat) : Moves 0x2008000080 s (State.writeAgcCtl s v) := by
  unfold State.writeAgcCtl
  simp -zeta only [State.upd_rx]
  repeat' first
    | with_reducible assumption
    | with_reducible exact Moves.refl _ _
    | decide
    | ((with_reducible refine Moves.p_plain (n := 4) ?_ ?_ ?_ ?_); (first | rfl | assumption); decide; decide)
    | with_reducible apply Moves.ite
    | extract_lets
    | rw [State.upd_rx]
    | with_reducible apply Moves.step (State.with_rx_moves ..)
    | split
    | dsimp +zetaDelta only

theorem State.writeRxa_moves (s : State) (a v : Nat) (ha : a / 65536 = 4) : Moves 0x90068e2884068a2 s (State.writeRxa s a v) := by
  unfold State.writeRxa
  repeat' first
    | with_reducible assumption
    | with_reducible exact Moves.refl _ _
    | decide
    | ((with_reducible refine Moves.p_clearStep (n := 4) ?_ ?_ ?_ ?_); (intro i hi; omega); decide; decide)
    | ((with_reducible refine Moves.p_setWord (n := 4) ?_ ?_ ?_ ?_); (first | rfl | assumption); decide; decide)
    | ((with_reducible refine Moves.p_plain (n := 4) ?_ ?_ ?_ ?_); (first | rfl | assumption); decide; decide)
    | intro _
    | with_reducible apply Moves.ite
    | with_reducible apply Moves.step (State.writeRxaCtl_moves ..)
    | with_reducible apply Moves.step (State.writeAgcCtl_moves ..)
    | with_reducible apply Moves.step (State.rxRetire_moves ..)
    | with_reducible apply Moves.step (State.rxCalReq_moves ..)
    | with_reducible apply Moves.iff
    | split

theorem State.writeRxd_moves (s : State) (a v : Nat) (ha : a / 65536 = 5) : Moves 0x8006c428c086da2 s (State.writeRxd s a v) := by
  unfold State.writeRxd
  repeat' first
    | with_reducible assumption
    | with_reducible exact Moves.refl _ _
    | decide
    | ((with_reducible refine Moves.p_plain (n := 5) ?_ ?_ ?_ ?_); (first | rfl | assumption); decide; decide)
    | ((with_reducible refine Moves.p_setEvt (n := 5) ?_ ?_ ?_ ?_); (first | rfl | (split <;> rfl)); decide; decide)
    | ((with_reducible refine Moves.p_inc (n := 5) ?_ ?_ ?_ ?_); (first | rfl | assumption); decide; decide)
    | ((with_reducible refine Moves.p_raiseMs (n := 5) ?_ ?_ ?_ ?_); (first | rfl | (split <;> rfl)); decide; decide)
    | ((with_reducible refine Moves.p_clearStep (n := 5) ?_ ?_ ?_ ?_); (intro i hi; omega); decide; decide)
    | intro _
    | with_reducible apply Moves.ite
    | extract_lets
    | with_reducible apply Moves.step (State.rxChains_moves ..)
    | with_reducible apply Moves.step (State.cfgWritten_moves ..)
    | with_reducible apply Moves.step (State.rxNcoWrite_moves ..)
    | with_reducible apply Moves.iff
    | split
    | dsimp +zetaDelta only

theorem State.writeTxaCtl_moves (s : State) (v : Nat) : Moves 0x800688288006922 s (State.writeTxaCtl s v) := by
  unfold State.writeTxaCtl
  repeat' first
    | with_reducible assumption
    | with_reducible exact Moves.refl _ _
    | decide
    | ((with_reducible refine Moves.p_plain (n := 6) ?_ ?_ ?_ ?_); (first | rfl | assumption); decide; decide)
    | with_reducible apply Moves.ite
    | extract_lets
    | with_reducible apply Moves.step (State.txRestartAt_moves ..)
    | with_reducible apply Moves.step (State.cfgWritten_moves ..)
    | split
    | dsimp +zetaDelta only

theorem State.writeTxa_moves (s : State) (a v : Nat) (ha : a / 65536 = 6) : Moves 0x90068a288406922 s (State.writeTxa s a v) := by
  unfold State.writeTxa
  repeat' first
    | with_reducible assumption
    | with_reducible exact Moves.refl _ _
    | decide
    | ((with_reducible refine Moves.p_plain (n := 6) ?_ ?_ ?_ ?_); (first | rfl | assumption); decide; decide)
    | intro _
    | with_reducible apply Moves.ite
    | with_reducible apply Moves.step (State.writeTxaCtl_moves ..)
    | with_reducible apply Moves.step (State.syncTx_moves ..)
    | with_reducible apply Moves.step (State.txRetire_moves ..)
    | with_reducible apply Moves.step (State.txCalReq_moves ..)
    | with_reducible apply Moves.step (State.rbGo_moves ..)
    | with_reducible apply Moves.iff
    | split

theorem State.writeTxd_moves (s : State) (a v : Nat) (ha : a / 65536 = 7) : Moves 0x8146d828c0a6d22 s (State.writeTxd s a v) := by
  unfold State.writeTxd
  repeat' first
    | with_reducible assumption
    | with_reducible exact Moves.refl _ _
    | decide
    | ((with_reducible refine Moves.p_plain (n := 7) ?_ ?_ ?_ ?_); (first | rfl | assumption); decide; decide)
    | ((with_reducible refine Moves.p_setEvt (n := 7) ?_ ?_ ?_ ?_); (first | rfl | (split <;> rfl)); decide; decide)
    | ((with_reducible refine Moves.p_inc (n := 7) ?_ ?_ ?_ ?_); (first | rfl | assumption); decide; decide)
    | ((with_reducible refine Moves.p_raiseMs (n := 7) ?_ ?_ ?_ ?_); (first | rfl | (split <;> rfl)); decide; decide)
    | ((with_reducible refine Moves.p_setWord (n := 7) ?_ ?_ ?_ ?_); (first | rfl | assumption); decide; decide)
    | ((with_reducible refine Moves.p_clearStep (n := 7) ?_ ?_ ?_ ?_); (intro i hi; omega); decide; decide)
    | intro _
    | with_reducible apply Moves.ite
    | extract_lets
    | with_reducible apply Moves.step (State.txChains_moves ..)
    | with_reducible apply Moves.step (State.bwStart_moves ..)
    | with_reducible apply Moves.step (State.cfgWritten_moves ..)
    | with_reducible apply Moves.step (State.gainSet_moves ..)
    | with_reducible apply Moves.step (State.writeTxNco_moves ..)
    | with_reducible apply Moves.iff
    | split
    | dsimp +zetaDelta only

theorem State.writeDpd_moves (s : State) (a v : Nat) (ha : a / 65536 = 8) : Moves 0x80022028c002322 s (State.writeDpd s a v) := by
  unfold State.writeDpd
  simp -zeta only [State.upd_dpd]
  repeat' first
    | with_reducible assumption
    | with_reducible exact Moves.refl _ _
    | decide
    | ((with_reducible refine Moves.p_setEvt (n := 8) ?_ ?_ ?_ ?_); (first | rfl | (split <;> rfl)); decide; decide)
    | ((with_reducible refine Moves.p_plain (n := 8) ?_ ?_ ?_ ?_); (first | rfl | assumption); decide; decide)
    | ((with_reducible refine Moves.p_clearStep (n := 8) ?_ ?_ ?_ ?_); (intro i hi; omega); decide; decide)
    | ((with_reducible refine Moves.p_put (n := 8) ?_ ?_ ?_ ?_); (first | rfl | assumption); decide; decide)
    | intro _
    | with_reducible apply Moves.ite
    | extract_lets
    | rw [State.upd_dpd]
    | with_reducible apply Moves.step (State.with_dpd_moves ..)
    | with_reducible apply Moves.step (State.dpdReject_moves ..)
    | with_reducible apply Moves.step (State.bypassWrite_moves ..)
    | with_reducible apply Moves.step (State.adaptEnWrite_moves ..)
    | with_reducible apply Moves.iff
    | split
    | dsimp +zetaDelta only

theorem State.writeQctl_moves (s : State) (a v : Nat) (ha : a / 65536 = 9) : Moves 0x8002d029c082522 s (State.writeQctl s a v) := by
  unfold State.writeQctl
  repeat' first
    | with_reducible assumption
    | with_reducible exact Moves.refl _ _
    | decide
    | ((with_reducible refine Moves.p_plain (n := 9) ?_ ?_ ?_ ?_); (first | rfl | assumption); decide; decide)
    | intro _
    | with_reducible apply Moves.ite
    | extract_lets
    | with_reducible apply Moves.step (State.clusterCtlWrite_moves ..)
    | with_reducible apply Moves.step (State.clusterMapWrite_moves ..)
    | with_reducible apply Moves.step (State.swapGo_moves ..)
    | with_reducible apply Moves.step (State.coreCtlWrite_moves ..)
    | with_reducible apply Moves.iff
    | split
    | (with_reducible refine Moves.snd (by assumption) ?_)
    | (with_reducible refine Moves.fst (by assumption) ?_)
    | (with_reducible refine Moves.trd (by assumption) ?_)
    | dsimp +zetaDelta only

theorem State.schedCmd_moves (s : State) (op dir b : Nat) : Moves 0x80028028c002822 s (State.schedCmd s op dir b) := by
  unfold State.schedCmd
  repeat' first
    | with_reducible assumption
    | with_reducible exact Moves.refl _ _
    | decide
    | ((with_reducible refine Moves.p_put (n := 10) ?_ ?_ ?_ ?_); (first | rfl | assumption); decide; decide)
    | with_reducible apply Moves.ite
    | extract_lets
    | with_reducible apply Moves.step (State.schedRefuse_moves ..)
    | with_reducible apply Moves.step (State.schedAdd_moves ..)
    | with_reducible apply Moves.step (State.schedCancel_moves ..)
    | with_reducible apply Moves.step (State.schedFlush_moves ..)
    | with_reducible apply Moves.step (State.emit_moves ..)
    | split
    | (with_reducible refine Moves.snd (by assumption) ?_)
    | (with_reducible refine Moves.fst (by assumption) ?_)
    | (with_reducible refine Moves.trd (by assumption) ?_)
    | dsimp +zetaDelta only

theorem State.writeBerth_moves (s : State) (a v : Nat) (ha : a / 65536 = 10) : Moves 0x80028028c002822 s (State.writeBerth s a v) := by
  unfold State.writeBerth
  repeat' first
    | with_reducible assumption
    | with_reducible exact Moves.refl _ _
    | decide
    | ((with_reducible refine Moves.p_put (n := 10) ?_ ?_ ?_ ?_); (first | rfl | assumption); decide; decide)
    | ((with_reducible refine Moves.p_plain (n := 10) ?_ ?_ ?_ ?_); (first | rfl | assumption); decide; decide)
    | intro _
    | with_reducible apply Moves.ite
    | with_reducible apply Moves.step (State.schedCmd_moves ..)
    | with_reducible apply Moves.step (State.bcalReq_moves ..)
    | with_reducible apply Moves.step (State.alignWritten_moves ..)
    | with_reducible apply Moves.step (State.sendSums_moves ..)
    | with_reducible apply Moves.iff
    | split

theorem State.writeFhl_moves (s : State) (a v : Nat) (ha : a / 65536 = 11) : Moves 0xfffffffdffffffb s (State.writeFhl s a v) := by
  unfold State.writeFhl
  repeat' first
    | with_reducible assumption
    | with_reducible exact Moves.refl _ _
    | decide
    | ((with_reducible refine Moves.p_plain (n := 11) ?_ ?_ ?_ ?_); (first | rfl | assumption); decide; decide)
    | intro _
    | with_reducible apply Moves.ite
    | extract_lets
    | with_reducible apply Moves.step (State.retrain_moves ..)
    | with_reducible apply Moves.step (State.linksChanged_moves ..)
    | with_reducible apply Moves.step (State.bootAdvance_moves ..)
    | with_reducible apply Moves.step (State.linkClear_moves ..)
    | with_reducible apply Moves.iff
    | split
    | dsimp +zetaDelta only

theorem State.writeFhm_moves (s : State) (a v : Nat) (ha : a / 65536 = 12) : Moves 0x800200288002422 s (State.writeFhm s a v) := by
  unfold State.writeFhm
  repeat' first
    | with_reducible assumption
    | with_reducible exact Moves.refl _ _
    | decide
    | ((with_reducible refine Moves.p_plain (n := 12) ?_ ?_ ?_ ?_); (first | rfl | assumption); decide; decide)
    | intro _
    | with_reducible apply Moves.ite
    | with_reducible apply Moves.step (State.evtEnWritten_moves ..)
    | with_reducible apply Moves.step (State.fhmClear_moves ..)
    | with_reducible apply Moves.step (State.rxsWritten_moves ..)
    | with_reducible apply Moves.iff
    | split

theorem State.writeRing_moves (s : State) (a v : Nat) (ha : a / 65536 = 13) : Moves 0xfffffffdffffffb s (State.writeRing s a v) := by
  unfold State.writeRing
  repeat' first
    | with_reducible assumption
    | with_reducible exact Moves.refl _ _
    | decide
    | ((with_reducible refine Moves.p_plain (n := 13) ?_ ?_ ?_ ?_); (first | rfl | assumption); decide; decide)
    | intro _
    | with_reducible apply Moves.ite
    | extract_lets
    | with_reducible apply Moves.step (State.ringForm_moves ..)
    | with_reducible apply Moves.step (State.retrain_moves ..)
    | with_reducible apply Moves.step (State.linksChanged_moves ..)
    | with_reducible apply Moves.step (State.bootAdvance_moves ..)
    | with_reducible apply Moves.step (State.syncGo_moves ..)
    | with_reducible apply Moves.step (State.xcalReq_moves ..)
    | with_reducible apply Moves.step (State.ringClear_moves ..)
    | with_reducible apply Moves.iff
    | split
    | dsimp +zetaDelta only

theorem State.toCmd_moves (s : State) (op pin : Nat) (level : Bool) : Moves 0x806a0028c022062 s (State.toCmd s op pin level) := by
  unfold State.toCmd
  repeat' first
    | with_reducible assumption
    | with_reducible exact Moves.refl _ _
    | decide
    | with_reducible apply Moves.ite
    | extract_lets
    | with_reducible apply Moves.step (State.toAdd_moves ..)
    | with_reducible apply Moves.step (State.toShow_moves ..)
    | with_reducible apply Moves.step (State.coexAuto_moves ..)
    | with_reducible apply Moves.step (State.bwBurst_moves ..)
    | with_reducible apply Moves.step (State.toRefuse_moves ..)
    | with_reducible apply Moves.step (State.toFlush_moves ..)
    | split
    | (with_reducible refine Moves.snd (by assumption) ?_)
    | (with_reducible refine Moves.fst (by assumption) ?_)
    | (with_reducible refine Moves.trd (by assumption) ?_)
    | dsimp +zetaDelta only

theorem State.writeTide_moves (s : State) (a v : Nat) (ha : a / 65536 = 14) : Moves 0x806a0028c022062 s (State.writeTide s a v) := by
  unfold State.writeTide
  repeat' first
    | with_reducible assumption
    | with_reducible exact Moves.refl _ _
    | decide
    | ((with_reducible refine Moves.p_plain (n := 14) ?_ ?_ ?_ ?_); (first | rfl | assumption); decide; decide)
    | ((with_reducible refine Moves.p_put (n := 14) ?_ ?_ ?_ ?_); (first | rfl | assumption | (dsimp only [F.TIDE_ACC_CNT_COUNT, F.TIDE_GATED_CNT_COUNT, F.TIDE_LOST_CNT_COUNT, F.TIDE_TO_REF_CNT_COUNT, F.TIDE_TP_CTL_POL]; omega)); decide; decide)
    | intro _
    | with_reducible apply Moves.ite
    | extract_lets
    | with_reducible apply Moves.step (State.tideSource_moves ..)
    | with_reducible apply Moves.step (State.tideAck_moves ..)
    | with_reducible apply Moves.step (State.asymWritten_moves ..)
    | with_reducible apply Moves.step (State.toCmd_moves ..)
    | with_reducible apply Moves.step (State.tpMode_moves ..)
    | with_reducible apply Moves.iff
    | split
    | dsimp +zetaDelta only

theorem State.writeLook_moves (s : State) (a v : Nat) (ha : a / 65536 = 15) : Moves 0x80120028c00a022 s (State.writeLook s a v) := by
  unfold State.writeLook
  repeat' first
    | with_reducible assumption
    | with_reducible exact Moves.refl _ _
    | decide
    | ((with_reducible refine Moves.p_plain (n := 15) ?_ ?_ ?_ ?_); (first | rfl | assumption); decide; decide)
    | ((with_reducible refine Moves.p_setEvt (n := 15) ?_ ?_ ?_ ?_); (first | rfl | (split <;> rfl)); decide; decide)
    | ((with_reducible refine Moves.p_raiseMs (n := 15) ?_ ?_ ?_ ?_); (first | rfl | (split <;> rfl)); decide; decide)
    | ((with_reducible refine Moves.p_clearStep (n := 15) ?_ ?_ ?_ ?_); (intro i hi; omega); decide; decide)
    | intro _
    | with_reducible apply Moves.ite
    | with_reducible apply Moves.step (State.lookSync_moves ..)
    | with_reducible apply Moves.iff
    | split

theorem State.paCmd_moves (s : State) (op quads : Nat) : Moves 0x802200288012062 s (State.paCmd s op quads) := by
  unfold State.paCmd
  repeat' first
    | with_reducible assumption
    | with_reducible exact Moves.refl _ _
    | decide
    | intro _
    | extract_lets
    | with_reducible apply Moves.step (State.paOn_moves ..)
    | with_reducible apply Moves.step (State.paOff_moves ..)
    | with_reducible apply Moves.each
    | split
    | (with_reducible refine Moves.snd (by assumption) ?_)
    | (with_reducible refine Moves.fst (by assumption) ?_)
    | (with_reducible refine Moves.trd (by assumption) ?_)
    | dsimp +zetaDelta only

theorem State.writeFend_moves (s : State) (a v : Nat) (ha : a / 65536 = 16) : Moves 0x80220028c012062 s (State.writeFend s a v) := by
  unfold State.writeFend
  repeat' first
    | with_reducible assumption
    | with_reducible exact Moves.refl _ _
    | decide
    | ((with_reducible refine Moves.p_plain (n := 16) ?_ ?_ ?_ ?_); (first | rfl | assumption); decide; decide)
    | intro _
    | with_reducible apply Moves.ite
    | extract_lets
    | with_reducible apply Moves.step (State.paCmd_moves ..)
    | with_reducible apply Moves.step (State.txgateWritten_moves ..)
    | with_reducible apply Moves.step (State.biasWrite_moves ..)
    | with_reducible apply Moves.step (State.rfPush_moves ..)
    | with_reducible apply Moves.step (State.fendClear_moves ..)
    | with_reducible apply Moves.iff
    | split
    | dsimp +zetaDelta only

theorem State.writeBwtr_moves (s : State) (a v : Nat) (ha : a / 65536 = 17) : Moves 0x4000008020000 s (State.writeBwtr s a v) := by
  unfold State.writeBwtr
  repeat' first
    | with_reducible assumption
    | with_reducible exact Moves.refl _ _
    | decide
    | ((with_reducible refine Moves.p_plain (n := 17) ?_ ?_ ?_ ?_); (first | rfl | assumption); decide; decide)
    | intro _
    | with_reducible apply Moves.ite
    | with_reducible apply Moves.step (State.xchkClear_moves ..)
    | with_reducible apply Moves.step (State.bwClear_moves ..)
    | with_reducible apply Moves.iff
    | split

theorem State.writeMon_moves (s : State) (a v : Nat) (ha : a / 65536 = 18) : Moves 0x80820028c042022 s (State.writeMon s a v) := by
  unfold State.writeMon
  repeat' first
    | with_reducible assumption
    | with_reducible exact Moves.refl _ _
    | decide
    | ((with_reducible refine Moves.p_plain (n := 18) ?_ ?_ ?_ ?_); (first | rfl | assumption); decide; decide)
    | intro _
    | with_reducible apply Moves.ite
    | extract_lets
    | with_reducible apply Moves.step (State.monClear_moves ..)
    | with_reducible apply Moves.step (State.monCtl_moves ..)
    | with_reducible apply Moves.step (State.monCalGo_moves ..)
    | with_reducible apply Moves.step (State.injCtl_moves ..)
    | with_reducible apply Moves.step (State.injArm_moves ..)
    | with_reducible apply Moves.step (State.monSeqWrite_moves ..)
    | with_reducible apply Moves.iff
    | split
    | dsimp +zetaDelta only

theorem State.gaugeCmd_moves (s : State) (c op : Nat) : Moves 0x81020039c082022 s (State.gaugeCmd s c op) := by
  unfold State.gaugeCmd
  repeat' first
    | with_reducible assumption
    | with_reducible exact Moves.refl _ _
    | decide
    | with_reducible apply Moves.step (State.gArm_moves ..)
    | with_reducible apply Moves.step (State.gStop_moves ..)
    | with_reducible apply Moves.step (State.gaugeEventTo_moves ..)
    | split
    | (with_reducible refine Moves.snd (by assumption) ?_)
    | (with_reducible refine Moves.fst (by assumption) ?_)
    | (with_reducible refine Moves.trd (by assumption) ?_)

theorem State.histClear_moves (s : State) (d : Nat) : Moves 0x10000008000000 s (State.histClear s d) := by
  unfold State.histClear
  repeat' first
    | with_reducible assumption
    | with_reducible exact Moves.refl _ _
    | decide
    | ((with_reducible refine Moves.p_clearStep (n := 19) ?_ ?_ ?_ ?_); (intro i hi; omega); decide; decide)

theorem State.mapClear_moves (s : State) (d : Nat) : Moves 0x80000 s (State.mapClear s d) := by
  unfold State.mapClear
  repeat' first
    | with_reducible assumption
    | with_reducible exact Moves.refl _ _
    | decide
    | rw [State.upd_hold]
    | with_reducible apply Moves.step (State.with_hold_moves ..)

theorem State.gaugeClear_moves (s : State) : Moves 0x10000008000000 s (State.gaugeClear s) := by
  unfold State.gaugeClear
  repeat' first
    | with_reducible assumption
    | with_reducible exact Moves.refl _ _
    | decide
    | ((with_reducible refine Moves.p_clearStep (n := 19) ?_ ?_ ?_ ?_); (intro i hi; omega); decide; decide)
    | extract_lets
    | dsimp +zetaDelta only

theorem State.writeGauge_moves (s : State) (a v : Nat) (ha : a / 65536 = 19) : Moves 0x81020039c082022 s (State.writeGauge s a v) := by
  unfold State.writeGauge
  repeat' first
    | with_reducible assumption
    | with_reducible exact Moves.refl _ _
    | decide
    | ((with_reducible refine Moves.p_plain (n := 19) ?_ ?_ ?_ ?_); (first | rfl | assumption); decide; decide)
    | intro _
    | with_reducible apply Moves.ite
    | extract_lets
    | with_reducible apply Moves.step (State.gaugeClear_moves ..)
    | with_reducible apply Moves.step (State.gaugeCmd_moves ..)
    | with_reducible apply Moves.step (State.histClear_moves ..)
    | with_reducible apply Moves.step (State.mapClear_moves ..)
    | with_reducible apply Moves.step (State.rpGo_moves ..)
    | with_reducible apply Moves.step (State.rpStop_moves ..)
    | with_reducible apply Moves.iff
    | split
    | dsimp +zetaDelta only

theorem State.writeHoldc_moves (s : State) (a v : Nat) (ha : a / 65536 = 20) : Moves 0x20000008000000 s (State.writeHoldc s a v) := by
  unfold State.writeHoldc
  repeat' first
    | with_reducible assumption
    | with_reducible exact Moves.refl _ _
    | decide
    | ((with_reducible refine Moves.p_put (n := 20) ?_ ?_ ?_ ?_); (first | rfl | assumption); decide; decide)
    | ((with_reducible refine Moves.p_plain (n := 20) ?_ ?_ ?_ ?_); (first | rfl | assumption); decide; decide)
    | intro _
    | with_reducible apply Moves.ite
    | with_reducible apply Moves.iff
    | split

theorem State.writeCrane_moves (s : State) (crane pilot : Bool) (level a v : Nat) (ha : a / 65536 = 21) : Moves 0x84020029c102022 s (State.writeCrane s crane pilot level a v) := by
  unfold State.writeCrane
  repeat' first
    | with_reducible assumption
    | with_reducible exact Moves.refl _ _
    | decide
    | ((with_reducible refine Moves.p_plain (n := 21) ?_ ?_ ?_ ?_); (first | rfl | assumption); decide; decide)
    | intro _
    | with_reducible apply Moves.ite
    | extract_lets
    | with_reducible apply Moves.step (State.craneClear_moves ..)
    | with_reducible apply Moves.step (State.craneCtl_moves ..)
    | with_reducible apply Moves.iff
    | split
    | (with_reducible refine Moves.snd (by assumption) ?_)
    | (with_reducible refine Moves.fst (by assumption) ?_)
    | (with_reducible refine Moves.trd (by assumption) ?_)
    | dsimp +zetaDelta only

theorem State.writeTherm_moves (s : State) (a v : Nat) (ha : a / 65536 = 22) : Moves 0x80000008200000 s (State.writeTherm s a v) := by
  unfold State.writeTherm
  repeat' first
    | with_reducible assumption
    | with_reducible exact Moves.refl _ _
    | decide
    | ((with_reducible refine Moves.p_plain (n := 22) ?_ ?_ ?_ ?_); (first | rfl | assumption); decide; decide)
    | intro _
    | with_reducible apply Moves.ite
    | with_reducible apply Moves.step (State.thermDemand_moves ..)
    | with_reducible apply Moves.iff
    | split

theorem State.writeRsv_moves (s : State) (a v : Nat) (ha : a / 65536 = 23) : Moves 0x90020028840202a s (State.writeRsv s a v) := by
  unfold State.writeRsv
  repeat' first
    | with_reducible assumption
    | with_reducible exact Moves.refl _ _
    | decide
    | ((with_reducible refine Moves.p_plain (n := 23) ?_ ?_ ?_ ?_); (first | rfl | assumption); decide; decide)
    | with_reducible apply Moves.ite
    | with_reducible apply Moves.step (State.synClear_moves ..)
    | split

theorem State.writePilot_moves (s : State) (a v : Nat) (ha : a / 65536 = 24) : Moves 0xffffffedc486dea s (State.writePilot s a v) := by
  unfold State.writePilot
  repeat' first
    | with_reducible assumption
    | with_reducible exact Moves.refl _ _
    | decide
    | ((with_reducible refine Moves.p_plain (n := 24) ?_ ?_ ?_ ?_); (first | rfl | assumption); decide; decide)
    | with_reducible apply Moves.ite
    | with_reducible apply Moves.step (State.mailGo_moves ..)
    | split

theorem State.writeSec_moves (s : State) (src own a v : Nat) (ha : a / 65536 = 25) : Moves 0xfffffff9ffffffb s (State.writeSec s src own a v) := by
  unfold State.writeSec
  repeat' first
    | with_reducible assumption
    | with_reducible exact Moves.refl _ _
    | decide
    | ((with_reducible refine Moves.p_plain (n := 25) ?_ ?_ ?_ ?_); (first | rfl | assumption); decide; decide)
    | ((with_reducible refine Moves.p_setWord (n := 25) ?_ ?_ ?_ ?_); (first | rfl | assumption); decide; decide)
    | intro _
    | with_reducible apply Moves.ite
    | extract_lets
    | with_reducible apply Moves.step (State.zeroise_moves ..)
    | with_reducible apply Moves.step (State.lockClr_moves ..)
    | with_reducible apply Moves.step (State.dbgReq_moves ..)
    | with_reducible apply Moves.step (State.fuseGo_moves ..)
    | with_reducible apply Moves.step (State.sesReq_moves ..)
    | with_reducible apply Moves.iff
    | split
    | dsimp +zetaDelta only

theorem State.writeTally_moves (s : State) (a v : Nat) (ha : a / 65536 = 26) : Moves 0x800200288002022 s (State.writeTally s a v) := by
  unfold State.writeTally
  repeat' first
    | with_reducible assumption
    | with_reducible exact Moves.refl _ _
    | decide
    | ((with_reducible refine Moves.p_plain (n := 26) ?_ ?_ ?_ ?_); (first | rfl | assumption); decide; decide)
    | intro _
    | with_reducible apply Moves.ite
    | with_reducible apply Moves.step (State.tallyAppend_moves ..)
    | with_reducible apply Moves.iff
    | split

end Sys2Proof.Machine
end

