-- ==== Sys2Proof/Laws/MovesBus.lean ====
section
/-! SUPPORT. What each operation of Machine/Bus.lean may change. -/

namespace Sys2Proof.Machine

set_option linter.all false

theorem State.regWrite_moves (s : State) (src : Source) (a v : Nat) : Moves 0xfffffffdffffffb s (State.regWrite s src a v) := by
  unfold State.regWrite
  repeat' first
    | with_reducible assumption
    | with_reducible exact Moves.refl _ _
    | decide
    | with_reducible apply Moves.ite
    | extract_lets
    | ((with_reducible refine Moves.step (State.writeTop_moves _ _ _ ?_) ?_ ?_); assumption; decide)
    | ((with_reducible refine Moves.step (State.writePwr_moves _ _ _ ?_) ?_ ?_); assumption; decide)
    | ((with_reducible refine Moves.step (State.writeClk_moves _ _ _ ?_) ?_ ?_); assumption; decide)
    | ((with_reducible refine Moves.step (State.writeBoot_moves _ _ _ ?_) ?_ ?_); assumption; decide)
    | ((with_reducible refine Moves.step (State.writeRxa_moves _ _ _ ?_) ?_ ?_); assumption; decide)
    | ((with_reducible refine Moves.step (State.writeRxd_moves _ _ _ ?_) ?_ ?_); assumption; decide)
    | ((with_reducible refine Moves.step (State.writeTxa_moves _ _ _ ?_) ?_ ?_); assumption; decide)
    | ((with_reducible refine Moves.step (State.writeTxd_moves _ _ _ ?_) ?_ ?_); assumption; decide)
    | ((with_reducible refine Moves.step (State.writeDpd_moves _ _ _ ?_) ?_ ?_); assumption; decide)
    | ((with_reducible refine Moves.step (State.writeQctl_moves _ _ _ ?_) ?_ ?_); assumption; decide)
    | ((with_reducible refine Moves.step (State.writeBerth_moves _ _ _ ?_) ?_ ?_); assumption; decide)
    | ((with_reducible refine Moves.step (State.writeFhl_moves _ _ _ ?_) ?_ ?_); assumption; decide)
    | ((with_reducible refine Moves.step (State.writeFhm_moves _ _ _ ?_) ?_ ?_); assumption; decide)
    | ((with_reducible refine Moves.step (State.writeRing_moves _ _ _ ?_) ?_ ?_); assumption; decide)
    | ((with_reducible refine Moves.step (State.writeTide_moves _ _ _ ?_) ?_ ?_); assumption; decide)
    | ((with_reducible refine Moves.step (State.writeLook_moves _ _ _ ?_) ?_ ?_); assumption; decide)
    | ((with_reducible refine Moves.step (State.writeFend_moves _ _ _ ?_) ?_ ?_); assumption; decide)
    | ((with_reducible refine Moves.step (State.writeBwtr_moves _ _ _ ?_) ?_ ?_); assumption; decide)
    | ((with_reducible refine Moves.step (State.writeMon_moves _ _ _ ?_) ?_ ?_); assumption; decide)
    | ((with_reducible refine Moves.step (State.writeGauge_moves _ _ _ ?_) ?_ ?_); assumption; decide)
    | ((with_reducible refine Moves.step (State.writeHoldc_moves _ _ _ ?_) ?_ ?_); assumption; decide)
    | ((with_reducible refine Moves.step (State.writeCrane_moves _ _ _ _ _ _ ?_) ?_ ?_); assumption; decide)
    | ((with_reducible refine Moves.step (State.writeTherm_moves _ _ _ ?_) ?_ ?_); assumption; decide)
    | ((with_reducible refine Moves.step (State.writeRsv_moves _ _ _ ?_) ?_ ?_); assumption; decide)
    | ((with_reducible refine Moves.step (State.writePilot_moves _ _ _ ?_) ?_ ?_); assumption; decide)
    | ((with_reducible refine Moves.step (State.writeSec_moves _ _ _ _ _ ?_) ?_ ?_); assumption; decide)
    | ((with_reducible refine Moves.step (State.writeTally_moves _ _ _ ?_) ?_ ?_); assumption; decide)
    | with_reducible apply Moves.step (State.syncIrq_moves ..)
    | split
    | (with_reducible refine Moves.snd (by assumption) ?_)
    | (with_reducible refine Moves.fst (by assumption) ?_)
    | (with_reducible refine Moves.trd (by assumption) ?_)
    | dsimp +zetaDelta only

theorem State.windowWrite_moves (s : State) (w a v : Nat) : Moves 0x82026029c002222 s (State.windowWrite s w a v) := by
  unfold State.windowWrite
  repeat' first
    | with_reducible assumption
    | with_reducible exact Moves.refl _ _
    | decide
    | with_reducible apply Moves.step (State.quayWindowWrite_moves ..)
    | with_reducible apply Moves.step (State.berthWindowWrite_moves ..)
    | with_reducible apply Moves.step (State.dpdBankWrite_moves ..)
    | with_reducible apply Moves.step (State.setMemWord_moves ..)
    | with_reducible apply Moves.step (State.holdCarried_moves ..)
    | split
    | (with_reducible refine Moves.snd (by assumption) ?_)
    | (with_reducible refine Moves.fst (by assumption) ?_)
    | (with_reducible refine Moves.trd (by assumption) ?_)

theorem State.touch_moves (s : State) (src : Source) : Moves 0x800000 s (State.touch s src) := by
  unfold State.touch
  repeat' first
    | with_reducible assumption
    | with_reducible exact Moves.refl _ _
    | decide
    | with_reducible apply Moves.step (State.sesTouch_moves ..)
    | split
    | (with_reducible refine Moves.snd (by assumption) ?_)
    | (with_reducible refine Moves.fst (by assumption) ?_)
    | (with_reducible refine Moves.trd (by assumption) ?_)

theorem State.busWrite_moves (s0 : State) (src : Source) (a0 : Nat) (w : Word) : Moves 0xfffffffdffffffb s0 (State.busWrite s0 src a0 w) := by
  unfold State.busWrite
  repeat' first
    | with_reducible assumption
    | with_reducible exact Moves.refl _ _
    | decide
    | intro _
    | with_reducible apply Moves.ite
    | extract_lets
    | with_reducible apply Moves.step (State.touch_moves ..)
    | with_reducible apply Moves.step (State.violation_moves ..)
    | with_reducible apply Moves.step (State.windowWrite_moves ..)
    | with_reducible apply Moves.step (State.regWrite_moves ..)
    | with_reducible apply Moves.iff
    | split
    | (with_reducible refine Moves.snd (by assumption) ?_)
    | (with_reducible refine Moves.fst (by assumption) ?_)
    | (with_reducible refine Moves.trd (by assumption) ?_)
    | dsimp +zetaDelta only

theorem State.setLatch_moves (s : State) (src : Source) (a v : Nat) : Moves 0x2000000 s (State.setLatch s src a v) := by
  unfold State.setLatch
  repeat' first
    | with_reducible assumption
    | with_reducible exact Moves.refl _ _
    | decide
    | rw [State.upd_hiLatch]
    | with_reducible apply Moves.step (State.with_hiLatch_moves ..)

theorem State.dropLatch_moves (s : State) (src : Source) (a : Nat) : Moves 0x2000000 s (State.dropLatch s src a) := by
  unfold State.dropLatch
  repeat' first
    | with_reducible assumption
    | with_reducible exact Moves.refl _ _
    | decide
    | rw [State.upd_hiLatch]
    | with_reducible apply Moves.step (State.with_hiLatch_moves ..)

theorem newWord_block {a : Nat} (h : newWord a = true) : a / 65536 = 6 ∨ a / 65536 = 8 ∨ a / 65536 = 11 ∨ a / 65536 = 13
    ∨ a / 65536 = 16 ∨ a / 65536 = 19 ∨ a / 65536 = 22 := by
  simp only [newWord, Bool.or_eq_true, Bool.and_eq_true, decide_eq_true_eq, beq_iff_eq] at h
  omega

theorem State.readEffect_moves (s : State) (src : Source) (a : Nat) : Moves 0x29b52800a000000 s (s.readEffect src a) := by
  unfold State.readEffect
  extract_lets t
  have ht : Moves 0x29b52800a000000 s t := Moves.step (State.dropLatch_moves ..) (by decide) (Moves.refl _ s)
  refine Moves.ite (Moves.step (State.lookLatch_moves ..) (by decide) ht) (Moves.ite (Moves.step (State.telemLatch_moves ..)
    (by decide) ht) (Moves.ite (Moves.step (State.monRead_moves ..) (by decide) ht) (Moves.ite (Moves.foldl (fun u x hu =>
    Moves.step (State.setLatch_moves ..) (by decide) hu) _ ht) (Moves.ite (Moves.step (State.setLatch_moves ..) (by decide) ht) ?_))))
  split
  next h =>
    rcases newWord_block h with e | e | e | e | e | e | e <;> exact Moves.p_setWord e (by decide) (by decide) ht
  · exact ht

theorem State.windowRead_moves (s : State) (w a : Nat) : Moves 0x20000008000000 s (State.windowRead s w a).2 := by
  unfold State.windowRead
  repeat' first
    | with_reducible assumption
    | with_reducible exact Moves.refl _ _
    | decide
    | with_reducible apply Moves.step (State.holdCarried_moves ..)
    | split
    | (with_reducible refine Moves.snd (by assumption) ?_)
    | (with_reducible refine Moves.fst (by assumption) ?_)
    | (with_reducible refine Moves.trd (by assumption) ?_)

theorem State.busRead_moves (s0 : State) (src : Source) (a0 : Nat) : Moves 0x6bb52800a800000 s0 (State.busRead s0 src a0).2 := by
  unfold State.busRead
  repeat' first
    | with_reducible assumption
    | with_reducible exact Moves.refl _ _
    | decide
    | with_reducible apply Moves.ite
    | extract_lets
    | with_reducible apply Moves.step (State.touch_moves ..)
    | with_reducible apply Moves.step (State.violation_moves ..)
    | with_reducible apply Moves.step (State.windowRead_moves ..)
    | with_reducible apply Moves.step (State.readEffect_moves ..)
    | split
    | (with_reducible refine Moves.snd (by assumption) ?_)
    | (with_reducible refine Moves.fst (by assumption) ?_)
    | (with_reducible refine Moves.trd (by assumption) ?_)
    | dsimp +zetaDelta only

end Sys2Proof.Machine
end

