-- ==== Sys2Proof/Laws/MovesBlocks.lean ====
section
/-! SUPPORT. What a write of a register of each block may change. -/

namespace Sys2Proof.Machine

set_option linter.all false

theorem State.window_low (s : State) {a : Nat} (h : a < 0x1000000) (h' : a / 65536 ≠ 3) : s.window a = 0 := by
  unfold State.window
  rw [if_neg (by omega), if_neg (by omega), if_neg (by omega), if_neg (by omega), if_neg (by omega), if_neg (by omega)]

theorem State.regWrite_Top (s : State) (src : Source) {a : Nat} (v : Nat) (h : a / 65536 = 0) :
    Moves 0x208000002 s (s.regWrite src a v) := by
  unfold State.regWrite
  extract_lets t
  have ht : Moves 0x208000002 s t := by
    have e : t = s.writeTop a v := by
      simp only [t, h]
    rw [e]
    exact Moves.step (State.writeTop_moves (ha := h) ..) (by decide) (Moves.refl _ s)
  exact Moves.ite (Moves.step (State.syncIrq_moves ..) (by decide) ht) ht

theorem State.busWrite_Top (s : State) (src : Source) {a : Nat} (w : Word) (h : a / 4 * 4 / 65536 = 0) :
    Moves 0x400000208800002 s (s.busWrite src a w) := by
  unfold State.busWrite
  extract_lets s1 a1 v win
  have h1 : Moves 0x400000208800002 s s1 := Moves.step (State.touch_moves ..) (by decide) (Moves.refl _ s)
  have hw : win = 0 := State.window_low _ (by omega) (by omega)
  rw [if_neg (by simp [hw])]
  split
  · exact h1
  · refine Moves.ite h1 ?_
    extract_lets t
    have h2 : Moves 0x400000208800002 s t := Moves.iff (fun _ hu => Moves.step (State.violation_moves ..) (by decide) hu) h1
    exact Moves.ite h2 (Moves.step (State.regWrite_Top _ _ _ h) (by decide) h2)

theorem State.regWrite_Pwr (s : State) (src : Source) {a : Nat} (v : Nat) (h : a / 65536 = 1) :
    Moves 0xfffffffdffffffb s (s.regWrite src a v) := by
  unfold State.regWrite
  extract_lets t
  have ht : Moves 0xfffffffdffffffb s t := by
    have e : t = s.writePwr a v := by
      simp only [t, h]
    rw [e]
    exact Moves.step (State.writePwr_moves (ha := h) ..) (by decide) (Moves.refl _ s)
  exact Moves.ite (Moves.step (State.syncIrq_moves ..) (by decide) ht) ht

theorem State.busWrite_Pwr (s : State) (src : Source) {a : Nat} (w : Word) (h : a / 4 * 4 / 65536 = 1) :
    Moves 0xfffffffdffffffb s (s.busWrite src a w) := by
  unfold State.busWrite
  extract_lets s1 a1 v win
  have h1 : Moves 0xfffffffdffffffb s s1 := Moves.step (State.touch_moves ..) (by decide) (Moves.refl _ s)
  have hw : win = 0 := State.window_low _ (by omega) (by omega)
  rw [if_neg (by simp [hw])]
  split
  · exact h1
  · refine Moves.ite h1 ?_
    extract_lets t
    have h2 : Moves 0xfffffffdffffffb s t := Moves.iff (fun _ hu => Moves.step (State.violation_moves ..) (by decide) hu) h1
    exact Moves.ite h2 (Moves.step (State.regWrite_Pwr _ _ _ h) (by decide) h2)

theorem State.regWrite_Clk (s : State) (src : Source) {a : Nat} (v : Nat) (h : a / 65536 = 2) :
    Moves 0xffffffedffffffb s (s.regWrite src a v) := by
  unfold State.regWrite
  extract_lets t
  have ht : Moves 0xffffffedffffffb s t := by
    have e : t = s.writeClk a v := by
      simp only [t, h]
    rw [e]
    exact Moves.step (State.writeClk_moves (ha := h) ..) (by decide) (Moves.refl _ s)
  exact Moves.ite (Moves.step (State.syncIrq_moves ..) (by decide) ht) ht

theorem State.busWrite_Clk (s : State) (src : Source) {a : Nat} (w : Word) (h : a / 4 * 4 / 65536 = 2) :
    Moves 0xffffffedffffffb s (s.busWrite src a w) := by
  unfold State.busWrite
  extract_lets s1 a1 v win
  have h1 : Moves 0xffffffedffffffb s s1 := Moves.step (State.touch_moves ..) (by decide) (Moves.refl _ s)
  have hw : win = 0 := State.window_low _ (by omega) (by omega)
  rw [if_neg (by simp [hw])]
  split
  · exact h1
  · refine Moves.ite h1 ?_
    extract_lets t
    have h2 : Moves 0xffffffedffffffb s t := Moves.iff (fun _ hu => Moves.step (State.violation_moves ..) (by decide) hu) h1
    exact Moves.ite h2 (Moves.step (State.regWrite_Clk _ _ _ h) (by decide) h2)

theorem State.regWrite_Boot (s : State) (src : Source) {a : Nat} (v : Nat) (h : a / 65536 = 3) :
    Moves 0x1208000012 s (s.regWrite src a v) := by
  unfold State.regWrite
  extract_lets t
  have ht : Moves 0x1208000012 s t := by
    have e : t = s.writeBoot a v := by
      simp only [t, h]
    rw [e]
    exact Moves.step (State.writeBoot_moves (ha := h) ..) (by decide) (Moves.refl _ s)
  exact Moves.ite (Moves.step (State.syncIrq_moves ..) (by decide) ht) ht

theorem State.busWrite_Boot (s : State) (src : Source) {a : Nat} (w : Word) (h : a / 4 * 4 / 65536 = 3) :
    Moves 0xc2026129c802232 s (s.busWrite src a w) := by
  unfold State.busWrite
  extract_lets s1 a1 v win
  have h1 : Moves 0xc2026129c802232 s s1 := Moves.step (State.touch_moves ..) (by decide) (Moves.refl _ s)
  refine Moves.ite (Moves.ite (Moves.step (State.violation_moves ..) (by decide) h1)
    (Moves.ite (Moves.step (State.windowWrite_moves ..) (by decide) h1) h1)) ?_
  split
  · exact h1
  · refine Moves.ite h1 ?_
    extract_lets t
    have h2 : Moves 0xc2026129c802232 s t := Moves.iff (fun _ hu => Moves.step (State.violation_moves ..) (by decide) hu) h1
    exact Moves.ite h2 (Moves.step (State.regWrite_Boot _ _ _ h) (by decide) h2)

theorem State.regWrite_Rxa (s : State) (src : Source) {a : Nat} (v : Nat) (h : a / 65536 = 4) :
    Moves 0x90068e2884068a2 s (s.regWrite src a v) := by
  unfold State.regWrite
  extract_lets t
  have ht : Moves 0x90068e2884068a2 s t := by
    have e : t = s.writeRxa a v := by
      simp only [t, h]
    rw [e]
    exact Moves.step (State.writeRxa_moves (ha := h) ..) (by decide) (Moves.refl _ s)
  exact Moves.ite (Moves.step (State.syncIrq_moves ..) (by decide) ht) ht

theorem State.busWrite_Rxa (s : State) (src : Source) {a : Nat} (w : Word) (h : a / 4 * 4 / 65536 = 4) :
    Moves 0xd0068e288c068a2 s (s.busWrite src a w) := by
  unfold State.busWrite
  extract_lets s1 a1 v win
  have h1 : Moves 0xd0068e288c068a2 s s1 := Moves.step (State.touch_moves ..) (by decide) (Moves.refl _ s)
  have hw : win = 0 := State.window_low _ (by omega) (by omega)
  rw [if_neg (by simp [hw])]
  split
  · exact h1
  · refine Moves.ite h1 ?_
    extract_lets t
    have h2 : Moves 0xd0068e288c068a2 s t := Moves.iff (fun _ hu => Moves.step (State.violation_moves ..) (by decide) hu) h1
    exact Moves.ite h2 (Moves.step (State.regWrite_Rxa _ _ _ h) (by decide) h2)

theorem State.regWrite_Rxd (s : State) (src : Source) {a : Nat} (v : Nat) (h : a / 65536 = 5) :
    Moves 0x8006c428c086da2 s (s.regWrite src a v) := by
  unfold State.regWrite
  extract_lets t
  have ht : Moves 0x8006c428c086da2 s t := by
    have e : t = s.writeRxd a v := by
      simp only [t, h]
    rw [e]
    exact Moves.step (State.writeRxd_moves (ha := h) ..) (by decide) (Moves.refl _ s)
  exact Moves.ite (Moves.step (State.syncIrq_moves ..) (by decide) ht) ht

theorem State.busWrite_Rxd (s : State) (src : Source) {a : Nat} (w : Word) (h : a / 4 * 4 / 65536 = 5) :
    Moves 0xc006c428c886da2 s (s.busWrite src a w) := by
  unfold State.busWrite
  extract_lets s1 a1 v win
  have h1 : Moves 0xc006c428c886da2 s s1 := Moves.step (State.touch_moves ..) (by decide) (Moves.refl _ s)
  have hw : win = 0 := State.window_low _ (by omega) (by omega)
  rw [if_neg (by simp [hw])]
  split
  · exact h1
  · refine Moves.ite h1 ?_
    extract_lets t
    have h2 : Moves 0xc006c428c886da2 s t := Moves.iff (fun _ hu => Moves.step (State.violation_moves ..) (by decide) hu) h1
    exact Moves.ite h2 (Moves.step (State.regWrite_Rxd _ _ _ h) (by decide) h2)

theorem State.regWrite_Txa (s : State) (src : Source) {a : Nat} (v : Nat) (h : a / 65536 = 6) :
    Moves 0x90068a288406922 s (s.regWrite src a v) := by
  unfold State.regWrite
  extract_lets t
  have ht : Moves 0x90068a288406922 s t := by
    have e : t = s.writeTxa a v := by
      simp only [t, h]
    rw [e]
    exact Moves.step (State.writeTxa_moves (ha := h) ..) (by decide) (Moves.refl _ s)
  exact Moves.ite (Moves.step (State.syncIrq_moves ..) (by decide) ht) ht

theorem State.busWrite_Txa (s : State) (src : Source) {a : Nat} (w : Word) (h : a / 4 * 4 / 65536 = 6) :
    Moves 0xd0068a288c06922 s (s.busWrite src a w) := by
  unfold State.busWrite
  extract_lets s1 a1 v win
  have h1 : Moves 0xd0068a288c06922 s s1 := Moves.step (State.touch_moves ..) (by decide) (Moves.refl _ s)
  have hw : win = 0 := State.window_low _ (by omega) (by omega)
  rw [if_neg (by simp [hw])]
  split
  · exact h1
  · refine Moves.ite h1 ?_
    extract_lets t
    have h2 : Moves 0xd0068a288c06922 s t := Moves.iff (fun _ hu => Moves.step (State.violation_moves ..) (by decide) hu) h1
    exact Moves.ite h2 (Moves.step (State.regWrite_Txa _ _ _ h) (by decide) h2)

theorem State.regWrite_Txd (s : State) (src : Source) {a : Nat} (v : Nat) (h : a / 65536 = 7) :
    Moves 0x8146d828c0a6d22 s (s.regWrite src a v) := by
  unfold State.regWrite
  extract_lets t
  have ht : Moves 0x8146d828c0a6d22 s t := by
    have e : t = s.writeTxd a v := by
      simp only [t, h]
    rw [e]
    exact Moves.step (State.writeTxd_moves (ha := h) ..) (by decide) (Moves.refl _ s)
  exact Moves.ite (Moves.step (State.syncIrq_moves ..) (by decide) ht) ht

theorem State.busWrite_Txd (s : State) (src : Source) {a : Nat} (w : Word) (h : a / 4 * 4 / 65536 = 7) :
    Moves 0xc146d828c8a6d22 s (s.busWrite src a w) := by
  unfold State.busWrite
  extract_lets s1 a1 v win
  have h1 : Moves 0xc146d828c8a6d22 s s1 := Moves.step (State.touch_moves ..) (by decide) (Moves.refl _ s)
  have hw : win = 0 := State.window_low _ (by omega) (by omega)
  rw [if_neg (by simp [hw])]
  split
  · exact h1
  · refine Moves.ite h1 ?_
    extract_lets t
    have h2 : Moves 0xc146d828c8a6d22 s t := Moves.iff (fun _ hu => Moves.step (State.violation_moves ..) (by decide) hu) h1
    exact Moves.ite h2 (Moves.step (State.regWrite_Txd _ _ _ h) (by decide) h2)

theorem State.regWrite_Dpd (s : State) (src : Source) {a : Nat} (v : Nat) (h : a / 65536 = 8) :
    Moves 0x80022028c002322 s (s.regWrite src a v) := by
  unfold State.regWrite
  extract_lets t
  have ht : Moves 0x80022028c002322 s t := by
    have e : t = s.writeDpd a v := by
      simp only [t, h]
    rw [e]
    exact Moves.step (State.writeDpd_moves (ha := h) ..) (by decide) (Moves.refl _ s)
  exact Moves.ite (Moves.step (State.syncIrq_moves ..) (by decide) ht) ht

theorem State.busWrite_Dpd (s : State) (src : Source) {a : Nat} (w : Word) (h : a / 4 * 4 / 65536 = 8) :
    Moves 0xc0022028c802322 s (s.busWrite src a w) := by
  unfold State.busWrite
  extract_lets s1 a1 v win
  have h1 : Moves 0xc0022028c802322 s s1 := Moves.step (State.touch_moves ..) (by decide) (Moves.refl _ s)
  have hw : win = 0 := State.window_low _ (by omega) (by omega)
  rw [if_neg (by simp [hw])]
  split
  · exact h1
  · refine Moves.ite h1 ?_
    extract_lets t
    have h2 : Moves 0xc0022028c802322 s t := Moves.iff (fun _ hu => Moves.step (State.violation_moves ..) (by decide) hu) h1
    exact Moves.ite h2 (Moves.step (State.regWrite_Dpd _ _ _ h) (by decide) h2)

theorem State.regWrite_Qctl (s : State) (src : Source) {a : Nat} (v : Nat) (h : a / 65536 = 9) :
    Moves 0x8002d029c082522 s (s.regWrite src a v) := by
  unfold State.regWrite
  extract_lets t
  have ht : Moves 0x8002d029c082522 s t := by
    have e : t = s.writeQctl a v := by
      simp only [t, h]
    rw [e]
    exact Moves.step (State.writeQctl_moves (ha := h) ..) (by decide) (Moves.refl _ s)
  exact Moves.ite (Moves.step (State.syncIrq_moves ..) (by decide) ht) ht

theorem State.busWrite_Qctl (s : State) (src : Source) {a : Nat} (w : Word) (h : a / 4 * 4 / 65536 = 9) :
    Moves 0xc002d029c882522 s (s.busWrite src a w) := by
  unfold State.busWrite
  extract_lets s1 a1 v win
  have h1 : Moves 0xc002d029c882522 s s1 := Moves.step (State.touch_moves ..) (by decide) (Moves.refl _ s)
  have hw : win = 0 := State.window_low _ (by omega) (by omega)
  rw [if_neg (by simp [hw])]
  split
  · exact h1
  · refine Moves.ite h1 ?_
    extract_lets t
    have h2 : Moves 0xc002d029c882522 s t := Moves.iff (fun _ hu => Moves.step (State.violation_moves ..) (by decide) hu) h1
    exact Moves.ite h2 (Moves.step (State.regWrite_Qctl _ _ _ h) (by decide) h2)

theorem State.regWrite_Berth (s : State) (src : Source) {a : Nat} (v : Nat) (h : a / 65536 = 10) :
    Moves 0x80028028c002822 s (s.regWrite src a v) := by
  unfold State.regWrite
  extract_lets t
  have ht : Moves 0x80028028c002822 s t := by
    have e : t = s.writeBerth a v := by
      simp only [t, h]
    rw [e]
    exact Moves.step (State.writeBerth_moves (ha := h) ..) (by decide) (Moves.refl _ s)
  exact Moves.ite (Moves.step (State.syncIrq_moves ..) (by decide) ht) ht

theorem State.busWrite_Berth (s : State) (src : Source) {a : Nat} (w : Word) (h : a / 4 * 4 / 65536 = 10) :
    Moves 0xc0028028c802822 s (s.busWrite src a w) := by
  unfold State.busWrite
  extract_lets s1 a1 v win
  have h1 : Moves 0xc0028028c802822 s s1 := Moves.step (State.touch_moves ..) (by decide) (Moves.refl _ s)
  have hw : win = 0 := State.window_low _ (by omega) (by omega)
  rw [if_neg (by simp [hw])]
  split
  · exact h1
  · refine Moves.ite h1 ?_
    extract_lets t
    have h2 : Moves 0xc0028028c802822 s t := Moves.iff (fun _ hu => Moves.step (State.violation_moves ..) (by decide) hu) h1
    exact Moves.ite h2 (Moves.step (State.regWrite_Berth _ _ _ h) (by decide) h2)

theorem State.regWrite_Fhl (s : State) (src : Source) {a : Nat} (v : Nat) (h : a / 65536 = 11) :
    Moves 0xfffffffdffffffb s (s.regWrite src a v) := by
  unfold State.regWrite
  extract_lets t
  have ht : Moves 0xfffffffdffffffb s t := by
    have e : t = s.writeFhl a v := by
      simp only [t, h]
    rw [e]
    exact Moves.step (State.writeFhl_moves (ha := h) ..) (by decide) (Moves.refl _ s)
  exact Moves.ite (Moves.step (State.syncIrq_moves ..) (by decide) ht) ht

theorem State.busWrite_Fhl (s : State) (src : Source) {a : Nat} (w : Word) (h : a / 4 * 4 / 65536 = 11) :
    Moves 0xfffffffdffffffb s (s.busWrite src a w) := by
  unfold State.busWrite
  extract_lets s1 a1 v win
  have h1 : Moves 0xfffffffdffffffb s s1 := Moves.step (State.touch_moves ..) (by decide) (Moves.refl _ s)
  have hw : win = 0 := State.window_low _ (by omega) (by omega)
  rw [if_neg (by simp [hw])]
  split
  · exact h1
  · refine Moves.ite h1 ?_
    extract_lets t
    have h2 : Moves 0xfffffffdffffffb s t := Moves.iff (fun _ hu => Moves.step (State.violation_moves ..) (by decide) hu) h1
    exact Moves.ite h2 (Moves.step (State.regWrite_Fhl _ _ _ h) (by decide) h2)

theorem State.regWrite_Fhm (s : State) (src : Source) {a : Nat} (v : Nat) (h : a / 65536 = 12) :
    Moves 0x800200288002422 s (s.regWrite src a v) := by
  unfold State.regWrite
  extract_lets t
  have ht : Moves 0x800200288002422 s t := by
    have e : t = s.writeFhm a v := by
      simp only [t, h]
    rw [e]
    exact Moves.step (State.writeFhm_moves (ha := h) ..) (by decide) (Moves.refl _ s)
  exact Moves.ite (Moves.step (State.syncIrq_moves ..) (by decide) ht) ht

theorem State.busWrite_Fhm (s : State) (src : Source) {a : Nat} (w : Word) (h : a / 4 * 4 / 65536 = 12) :
    Moves 0xc00200288802422 s (s.busWrite src a w) := by
  unfold State.busWrite
  extract_lets s1 a1 v win
  have h1 : Moves 0xc00200288802422 s s1 := Moves.step (State.touch_moves ..) (by decide) (Moves.refl _ s)
  have hw : win = 0 := State.window_low _ (by omega) (by omega)
  rw [if_neg (by simp [hw])]
  split
  · exact h1
  · refine Moves.ite h1 ?_
    extract_lets t
    have h2 : Moves 0xc00200288802422 s t := Moves.iff (fun _ hu => Moves.step (State.violation_moves ..) (by decide) hu) h1
    exact Moves.ite h2 (Moves.step (State.regWrite_Fhm _ _ _ h) (by decide) h2)

theorem State.regWrite_Ring (s : State) (src : Source) {a : Nat} (v : Nat) (h : a / 65536 = 13) :
    Moves 0xfffffffdffffffb s (s.regWrite src a v) := by
  unfold State.regWrite
  extract_lets t
  have ht : Moves 0xfffffffdffffffb s t := by
    have e : t = s.writeRing a v := by
      simp only [t, h]
    rw [e]
    exact Moves.step (State.writeRing_moves (ha := h) ..) (by decide) (Moves.refl _ s)
  exact Moves.ite (Moves.step (State.syncIrq_moves ..) (by decide) ht) ht

theorem State.busWrite_Ring (s : State) (src : Source) {a : Nat} (w : Word) (h : a / 4 * 4 / 65536 = 13) :
    Moves 0xfffffffdffffffb s (s.busWrite src a w) := by
  unfold State.busWrite
  extract_lets s1 a1 v win
  have h1 : Moves 0xfffffffdffffffb s s1 := Moves.step (State.touch_moves ..) (by decide) (Moves.refl _ s)
  have hw : win = 0 := State.window_low _ (by omega) (by omega)
  rw [if_neg (by simp [hw])]
  split
  · exact h1
  · refine Moves.ite h1 ?_
    extract_lets t
    have h2 : Moves 0xfffffffdffffffb s t := Moves.iff (fun _ hu => Moves.step (State.violation_moves ..) (by decide) hu) h1
    exact Moves.ite h2 (Moves.step (State.regWrite_Ring _ _ _ h) (by decide) h2)

theorem State.regWrite_Tide (s : State) (src : Source) {a : Nat} (v : Nat) (h : a / 65536 = 14) :
    Moves 0x806a0028c022062 s (s.regWrite src a v) := by
  unfold State.regWrite
  extract_lets t
  have ht : Moves 0x806a0028c022062 s t := by
    have e : t = s.writeTide a v := by
      simp only [t, h]
    rw [e]
    exact Moves.step (State.writeTide_moves (ha := h) ..) (by decide) (Moves.refl _ s)
  exact Moves.ite (Moves.step (State.syncIrq_moves ..) (by decide) ht) ht

theorem State.busWrite_Tide (s : State) (src : Source) {a : Nat} (w : Word) (h : a / 4 * 4 / 65536 = 14) :
    Moves 0xc06a0028c822062 s (s.busWrite src a w) := by
  unfold State.busWrite
  extract_lets s1 a1 v win
  have h1 : Moves 0xc06a0028c822062 s s1 := Moves.step (State.touch_moves ..) (by decide) (Moves.refl _ s)
  have hw : win = 0 := State.window_low _ (by omega) (by omega)
  rw [if_neg (by simp [hw])]
  split
  · exact h1
  · refine Moves.ite h1 ?_
    extract_lets t
    have h2 : Moves 0xc06a0028c822062 s t := Moves.iff (fun _ hu => Moves.step (State.violation_moves ..) (by decide) hu) h1
    exact Moves.ite h2 (Moves.step (State.regWrite_Tide _ _ _ h) (by decide) h2)

theorem State.regWrite_Look (s : State) (src : Source) {a : Nat} (v : Nat) (h : a / 65536 = 15) :
    Moves 0x80120028c00a022 s (s.regWrite src a v) := by
  unfold State.regWrite
  extract_lets t
  have ht : Moves 0x80120028c00a022 s t := by
    have e : t = s.writeLook a v := by
      simp only [t, h]
    rw [e]
    exact Moves.step (State.writeLook_moves (ha := h) ..) (by decide) (Moves.refl _ s)
  exact Moves.ite (Moves.step (State.syncIrq_moves ..) (by decide) ht) ht

theorem State.busWrite_Look (s : State) (src : Source) {a : Nat} (w : Word) (h : a / 4 * 4 / 65536 = 15) :
    Moves 0xc0120028c80a022 s (s.busWrite src a w) := by
  unfold State.busWrite
  extract_lets s1 a1 v win
  have h1 : Moves 0xc0120028c80a022 s s1 := Moves.step (State.touch_moves ..) (by decide) (Moves.refl _ s)
  have hw : win = 0 := State.window_low _ (by omega) (by omega)
  rw [if_neg (by simp [hw])]
  split
  · exact h1
  · refine Moves.ite h1 ?_
    extract_lets t
    have h2 : Moves 0xc0120028c80a022 s t := Moves.iff (fun _ hu => Moves.step (State.violation_moves ..) (by decide) hu) h1
    exact Moves.ite h2 (Moves.step (State.regWrite_Look _ _ _ h) (by decide) h2)

theorem State.regWrite_Fend (s : State) (src : Source) {a : Nat} (v : Nat) (h : a / 65536 = 16) :
    Moves 0x80220028c012062 s (s.regWrite src a v) := by
  unfold State.regWrite
  extract_lets t
  have ht : Moves 0x80220028c012062 s t := by
    have e : t = s.writeFend a v := by
      simp only [t, h]
    rw [e]
    exact Moves.step (State.writeFend_moves (ha := h) ..) (by decide) (Moves.refl _ s)
  exact Moves.ite (Moves.step (State.syncIrq_moves ..) (by decide) ht) ht

theorem State.busWrite_Fend (s : State) (src : Source) {a : Nat} (w : Word) (h : a / 4 * 4 / 65536 = 16) :
    Moves 0xc0220028c812062 s (s.busWrite src a w) := by
  unfold State.busWrite
  extract_lets s1 a1 v win
  have h1 : Moves 0xc0220028c812062 s s1 := Moves.step (State.touch_moves ..) (by decide) (Moves.refl _ s)
  have hw : win = 0 := State.window_low _ (by omega) (by omega)
  rw [if_neg (by simp [hw])]
  split
  · exact h1
  · refine Moves.ite h1 ?_
    extract_lets t
    have h2 : Moves 0xc0220028c812062 s t := Moves.iff (fun _ hu => Moves.step (State.violation_moves ..) (by decide) hu) h1
    exact Moves.ite h2 (Moves.step (State.regWrite_Fend _ _ _ h) (by decide) h2)

theorem State.regWrite_Bwtr (s : State) (src : Source) {a : Nat} (v : Nat) (h : a / 65536 = 17) :
    Moves 0x4000208020002 s (s.regWrite src a v) := by
  unfold State.regWrite
  extract_lets t
  have ht : Moves 0x4000208020002 s t := by
    have e : t = s.writeBwtr a v := by
      simp only [t, h]
    rw [e]
    exact Moves.step (State.writeBwtr_moves (ha := h) ..) (by decide) (Moves.refl _ s)
  exact Moves.ite (Moves.step (State.syncIrq_moves ..) (by decide) ht) ht

theorem State.busWrite_Bwtr (s : State) (src : Source) {a : Nat} (w : Word) (h : a / 4 * 4 / 65536 = 17) :
    Moves 0x404000208820002 s (s.busWrite src a w) := by
  unfold State.busWrite
  extract_lets s1 a1 v win
  have h1 : Moves 0x404000208820002 s s1 := Moves.step (State.touch_moves ..) (by decide) (Moves.refl _ s)
  have hw : win = 0 := State.window_low _ (by omega) (by omega)
  rw [if_neg (by simp [hw])]
  split
  · exact h1
  · refine Moves.ite h1 ?_
    extract_lets t
    have h2 : Moves 0x404000208820002 s t := Moves.iff (fun _ hu => Moves.step (State.violation_moves ..) (by decide) hu) h1
    exact Moves.ite h2 (Moves.step (State.regWrite_Bwtr _ _ _ h) (by decide) h2)

theorem State.regWrite_Mon (s : State) (src : Source) {a : Nat} (v : Nat) (h : a / 65536 = 18) :
    Moves 0x80820028c042022 s (s.regWrite src a v) := by
  unfold State.regWrite
  extract_lets t
  have ht : Moves 0x80820028c042022 s t := by
    have e : t = s.writeMon a v := by
      simp only [t, h]
    rw [e]
    exact Moves.step (State.writeMon_moves (ha := h) ..) (by decide) (Moves.refl _ s)
  exact Moves.ite (Moves.step (State.syncIrq_moves ..) (by decide) ht) ht

theorem State.busWrite_Mon (s : State) (src : Source) {a : Nat} (w : Word) (h : a / 4 * 4 / 65536 = 18) :
    Moves 0xc0820028c842022 s (s.busWrite src a w) := by
  unfold State.busWrite
  extract_lets s1 a1 v win
  have h1 : Moves 0xc0820028c842022 s s1 := Moves.step (State.touch_moves ..) (by decide) (Moves.refl _ s)
  have hw : win = 0 := State.window_low _ (by omega) (by omega)
  rw [if_neg (by simp [hw])]
  split
  · exact h1
  · refine Moves.ite h1 ?_
    extract_lets t
    have h2 : Moves 0xc0820028c842022 s t := Moves.iff (fun _ hu => Moves.step (State.violation_moves ..) (by decide) hu) h1
    exact Moves.ite h2 (Moves.step (State.regWrite_Mon _ _ _ h) (by decide) h2)

theorem State.regWrite_Gauge (s : State) (src : Source) {a : Nat} (v : Nat) (h : a / 65536 = 19) :
    Moves 0x81020039c082022 s (s.regWrite src a v) := by
  unfold State.regWrite
  extract_lets t
  have ht : Moves 0x81020039c082022 s t := by
    have e : t = s.writeGauge a v := by
      simp only [t, h]
    rw [e]
    exact Moves.step (State.writeGauge_moves (ha := h) ..) (by decide) (Moves.refl _ s)
  exact Moves.ite (Moves.step (State.syncIrq_moves ..) (by decide) ht) ht

theorem State.busWrite_Gauge (s : State) (src : Source) {a : Nat} (w : Word) (h : a / 4 * 4 / 65536 = 19) :
    Moves 0xc1020039c882022 s (s.busWrite src a w) := by
  unfold State.busWrite
  extract_lets s1 a1 v win
  have h1 : Moves 0xc1020039c882022 s s1 := Moves.step (State.touch_moves ..) (by decide) (Moves.refl _ s)
  have hw : win = 0 := State.window_low _ (by omega) (by omega)
  rw [if_neg (by simp [hw])]
  split
  · exact h1
  · refine Moves.ite h1 ?_
    extract_lets t
    have h2 : Moves 0xc1020039c882022 s t := Moves.iff (fun _ hu => Moves.step (State.violation_moves ..) (by decide) hu) h1
    exact Moves.ite h2 (Moves.step (State.regWrite_Gauge _ _ _ h) (by decide) h2)

theorem State.regWrite_Holdc (s : State) (src : Source) {a : Nat} (v : Nat) (h : a / 65536 = 20) :
    Moves 0x20000208000002 s (s.regWrite src a v) := by
  unfold State.regWrite
  extract_lets t
  have ht : Moves 0x20000208000002 s t := by
    have e : t = s.writeHoldc a v := by
      simp only [t, h]
    rw [e]
    exact Moves.step (State.writeHoldc_moves (ha := h) ..) (by decide) (Moves.refl _ s)
  exact Moves.ite (Moves.step (State.syncIrq_moves ..) (by decide) ht) ht

theorem State.busWrite_Holdc (s : State) (src : Source) {a : Nat} (w : Word) (h : a / 4 * 4 / 65536 = 20) :
    Moves 0x420000208800002 s (s.busWrite src a w) := by
  unfold State.busWrite
  extract_lets s1 a1 v win
  have h1 : Moves 0x420000208800002 s s1 := Moves.step (State.touch_moves ..) (by decide) (Moves.refl _ s)
  have hw : win = 0 := State.window_low _ (by omega) (by omega)
  rw [if_neg (by simp [hw])]
  split
  · exact h1
  · refine Moves.ite h1 ?_
    extract_lets t
    have h2 : Moves 0x420000208800002 s t := Moves.iff (fun _ hu => Moves.step (State.violation_moves ..) (by decide) hu) h1
    exact Moves.ite h2 (Moves.step (State.regWrite_Holdc _ _ _ h) (by decide) h2)

theorem State.regWrite_Crane (s : State) (src : Source) {a : Nat} (v : Nat) (h : a / 65536 = 21) :
    Moves 0x84020029c102022 s (s.regWrite src a v) := by
  unfold State.regWrite
  extract_lets t
  have ht : Moves 0x84020029c102022 s t := by
    have e : t = s.writeCrane (srcCrane src) (s.asPilot src) (s.srcLevel src true) a v := by
      simp only [t, h]
    rw [e]
    exact Moves.step (State.writeCrane_moves (ha := h) ..) (by decide) (Moves.refl _ s)
  exact Moves.ite (Moves.step (State.syncIrq_moves ..) (by decide) ht) ht

theorem State.busWrite_Crane (s : State) (src : Source) {a : Nat} (w : Word) (h : a / 4 * 4 / 65536 = 21) :
    Moves 0xc4020029c902022 s (s.busWrite src a w) := by
  unfold State.busWrite
  extract_lets s1 a1 v win
  have h1 : Moves 0xc4020029c902022 s s1 := Moves.step (State.touch_moves ..) (by decide) (Moves.refl _ s)
  have hw : win = 0 := State.window_low _ (by omega) (by omega)
  rw [if_neg (by simp [hw])]
  split
  · exact h1
  · refine Moves.ite h1 ?_
    extract_lets t
    have h2 : Moves 0xc4020029c902022 s t := Moves.iff (fun _ hu => Moves.step (State.violation_moves ..) (by decide) hu) h1
    exact Moves.ite h2 (Moves.step (State.regWrite_Crane _ _ _ h) (by decide) h2)

theorem State.regWrite_Therm (s : State) (src : Source) {a : Nat} (v : Nat) (h : a / 65536 = 22) :
    Moves 0x80000208200002 s (s.regWrite src a v) := by
  unfold State.regWrite
  extract_lets t
  have ht : Moves 0x80000208200002 s t := by
    have e : t = s.writeTherm a v := by
      simp only [t, h]
    rw [e]
    exact Moves.step (State.writeTherm_moves (ha := h) ..) (by decide) (Moves.refl _ s)
  exact Moves.ite (Moves.step (State.syncIrq_moves ..) (by decide) ht) ht

theorem State.busWrite_Therm (s : State) (src : Source) {a : Nat} (w : Word) (h : a / 4 * 4 / 65536 = 22) :
    Moves 0x480000208a00002 s (s.busWrite src a w) := by
  unfold State.busWrite
  extract_lets s1 a1 v win
  have h1 : Moves 0x480000208a00002 s s1 := Moves.step (State.touch_moves ..) (by decide) (Moves.refl _ s)
  have hw : win = 0 := State.window_low _ (by omega) (by omega)
  rw [if_neg (by simp [hw])]
  split
  · exact h1
  · refine Moves.ite h1 ?_
    extract_lets t
    have h2 : Moves 0x480000208a00002 s t := Moves.iff (fun _ hu => Moves.step (State.violation_moves ..) (by decide) hu) h1
    exact Moves.ite h2 (Moves.step (State.regWrite_Therm _ _ _ h) (by decide) h2)

theorem State.regWrite_Rsv (s : State) (src : Source) {a : Nat} (v : Nat) (h : a / 65536 = 23) :
    Moves 0x90020028840202a s (s.regWrite src a v) := by
  unfold State.regWrite
  extract_lets t
  have ht : Moves 0x90020028840202a s t := by
    have e : t = s.writeRsv a v := by
      simp only [t, h]
    rw [e]
    exact Moves.step (State.writeRsv_moves (ha := h) ..) (by decide) (Moves.refl _ s)
  exact Moves.ite (Moves.step (State.syncIrq_moves ..) (by decide) ht) ht

theorem State.busWrite_Rsv (s : State) (src : Source) {a : Nat} (w : Word) (h : a / 4 * 4 / 65536 = 23) :
    Moves 0xd00200288c0202a s (s.busWrite src a w) := by
  unfold State.busWrite
  extract_lets s1 a1 v win
  have h1 : Moves 0xd00200288c0202a s s1 := Moves.step (State.touch_moves ..) (by decide) (Moves.refl _ s)
  have hw : win = 0 := State.window_low _ (by omega) (by omega)
  rw [if_neg (by simp [hw])]
  split
  · exact h1
  · refine Moves.ite h1 ?_
    extract_lets t
    have h2 : Moves 0xd00200288c0202a s t := Moves.iff (fun _ hu => Moves.step (State.violation_moves ..) (by decide) hu) h1
    exact Moves.ite h2 (Moves.step (State.regWrite_Rsv _ _ _ h) (by decide) h2)

theorem State.regWrite_Pilot (s : State) (src : Source) {a : Nat} (v : Nat) (h : a / 65536 = 24) :
    Moves 0xffffffedc486dea s (s.regWrite src a v) := by
  unfold State.regWrite
  extract_lets t
  have ht : Moves 0xffffffedc486dea s t := by
    have e : t = s.writePilot a v := by
      simp only [t, h]
    rw [e]
    exact Moves.step (State.writePilot_moves (ha := h) ..) (by decide) (Moves.refl _ s)
  exact Moves.ite (Moves.step (State.syncIrq_moves ..) (by decide) ht) ht

theorem State.busWrite_Pilot (s : State) (src : Source) {a : Nat} (w : Word) (h : a / 4 * 4 / 65536 = 24) :
    Moves 0xffffffedcc86dea s (s.busWrite src a w) := by
  unfold State.busWrite
  extract_lets s1 a1 v win
  have h1 : Moves 0xffffffedcc86dea s s1 := Moves.step (State.touch_moves ..) (by decide) (Moves.refl _ s)
  have hw : win = 0 := State.window_low _ (by omega) (by omega)
  rw [if_neg (by simp [hw])]
  split
  · exact h1
  · refine Moves.ite h1 ?_
    extract_lets t
    have h2 : Moves 0xffffffedcc86dea s t := Moves.iff (fun _ hu => Moves.step (State.violation_moves ..) (by decide) hu) h1
    exact Moves.ite h2 (Moves.step (State.regWrite_Pilot _ _ _ h) (by decide) h2)

theorem State.regWrite_Sec (s : State) (src : Source) {a : Nat} (v : Nat) (h : a / 65536 = 25) :
    Moves 0xfffffff9ffffffb s (s.regWrite src a v) := by
  unfold State.regWrite
  extract_lets t
  have ht : Moves 0xfffffff9ffffffb s t := by
    have e : t = s.writeSec (srcCode src) (srcPort src) a v := by
      simp only [t, h]
    rw [e]
    exact Moves.step (State.writeSec_moves (ha := h) ..) (by decide) (Moves.refl _ s)
  exact Moves.ite (Moves.step (State.syncIrq_moves ..) (by decide) ht) ht

theorem State.busWrite_Sec (s : State) (src : Source) {a : Nat} (w : Word) (h : a / 4 * 4 / 65536 = 25) :
    Moves 0xfffffff9ffffffb s (s.busWrite src a w) := by
  unfold State.busWrite
  extract_lets s1 a1 v win
  have h1 : Moves 0xfffffff9ffffffb s s1 := Moves.step (State.touch_moves ..) (by decide) (Moves.refl _ s)
  have hw : win = 0 := State.window_low _ (by omega) (by omega)
  rw [if_neg (by simp [hw])]
  split
  · exact h1
  · refine Moves.ite h1 ?_
    extract_lets t
    have h2 : Moves 0xfffffff9ffffffb s t := Moves.iff (fun _ hu => Moves.step (State.violation_moves ..) (by decide) hu) h1
    exact Moves.ite h2 (Moves.step (State.regWrite_Sec _ _ _ h) (by decide) h2)

theorem State.regWrite_Tally (s : State) (src : Source) {a : Nat} (v : Nat) (h : a / 65536 = 26) :
    Moves 0x800200288002022 s (s.regWrite src a v) := by
  unfold State.regWrite
  extract_lets t
  have ht : Moves 0x800200288002022 s t := by
    have e : t = s.writeTally a v := by
      simp only [t, h]
    rw [e]
    exact Moves.step (State.writeTally_moves (ha := h) ..) (by decide) (Moves.refl _ s)
  exact Moves.ite (Moves.step (State.syncIrq_moves ..) (by decide) ht) ht

theorem State.busWrite_Tally (s : State) (src : Source) {a : Nat} (w : Word) (h : a / 4 * 4 / 65536 = 26) :
    Moves 0xc00200288802022 s (s.busWrite src a w) := by
  unfold State.busWrite
  extract_lets s1 a1 v win
  have h1 : Moves 0xc00200288802022 s s1 := Moves.step (State.touch_moves ..) (by decide) (Moves.refl _ s)
  have hw : win = 0 := State.window_low _ (by omega) (by omega)
  rw [if_neg (by simp [hw])]
  split
  · exact h1
  · refine Moves.ite h1 ?_
    extract_lets t
    have h2 : Moves 0xc00200288802022 s t := Moves.iff (fun _ hu => Moves.step (State.violation_moves ..) (by decide) hu) h1
    exact Moves.ite h2 (Moves.step (State.regWrite_Tally _ _ _ h) (by decide) h2)

theorem findReg_high {a : Nat} (h : 27 ≤ a / 65536) : findReg a = none := by
  unfold findReg
  have : catalogueOf (a / 0x10000) = [] := by
    unfold catalogueOf
    split <;> first | rfl | (exfalso; omega)
  rw [this]; rfl

/-- A write above the registers is one of a window. -/
theorem State.busWrite_Window (s : State) (src : Source) {a : Nat} (w : Word) (h : 27 ≤ a / 4 * 4 / 65536) :
    Moves 0xc2026029c802222 s (s.busWrite src a w) := by
  unfold State.busWrite
  extract_lets s1 a1 v win
  have h1 : Moves 0xc2026029c802222 s s1 := Moves.step (State.touch_moves ..) (by decide) (Moves.refl _ s)
  refine Moves.ite (Moves.ite (Moves.step (State.violation_moves ..) (by decide) h1)
    (Moves.ite (Moves.step (State.windowWrite_moves ..) (by decide) h1) h1)) ?_
  rw [findReg_high h]
  exact h1

end Sys2Proof.Machine
end

