-- ==== Sys2Proof/Laws/MovesJtag.lean ====
section
/-! SUPPORT. What each operation of Machine/Jtag.lean may change. -/

namespace Sys2Proof.Machine

set_option linter.all false

theorem State.drawBits_moves (s : State) (n : Nat) : Moves 0x100000000 s (State.drawBits s n).2 := by
  unfold State.drawBits
  repeat' first
    | with_reducible assumption
    | with_reducible exact Moves.refl _ _
    | decide
    | extract_lets
    | with_reducible apply Moves.step (State.drawMany_moves ..)
    | split
    | (with_reducible refine Moves.snd (by assumption) ?_)
    | (with_reducible refine Moves.fst (by assumption) ?_)
    | (with_reducible refine Moves.trd (by assumption) ?_)
    | dsimp +zetaDelta only

theorem State.extestLeave_moves (s : State) : Moves 0x209000002 s (State.extestLeave s) := by
  unfold State.extestLeave
  repeat' first
    | with_reducible assumption
    | with_reducible exact Moves.refl _ _
    | decide
    | rw [State.upd_jtag_pins]
    | with_reducible apply Moves.step (State.with_jtag_pins_moves ..)
    | with_reducible apply Moves.step (State.syncIrq_moves ..)
    | split
    | (with_reducible refine Moves.snd (by assumption) ?_)
    | (with_reducible refine Moves.fst (by assumption) ?_)
    | (with_reducible refine Moves.trd (by assumption) ?_)

theorem State.tapTake_moves (s : State) (ir : Nat) : Moves 0x209000002 s (State.tapTake s ir) := by
  unfold State.tapTake
  simp -zeta only [State.upd_jtag]
  repeat' first
    | with_reducible assumption
    | with_reducible exact Moves.refl _ _
    | decide
    | with_reducible apply Moves.ite
    | extract_lets
    | rw [State.upd_jtag]
    | with_reducible apply Moves.step (State.with_jtag_moves ..)
    | with_reducible apply Moves.step (State.extestLeave_moves ..)
    | split
    | dsimp +zetaDelta only

theorem State.tapBypass_moves (s : State) (tdi : List Bool) : Moves 0x289000002 s (State.tapBypass s tdi) := by
  unfold State.tapBypass
  simp -zeta only [State.upd_jtag]
  repeat' first
    | with_reducible assumption
    | with_reducible exact Moves.refl _ _
    | decide
    | extract_lets
    | rw [State.upd_jtag]
    | with_reducible apply Moves.step (State.with_jtag_moves ..)
    | with_reducible apply Moves.step (State.tapTake_moves ..)
    | with_reducible apply Moves.step (State.emit_moves ..)
    | dsimp +zetaDelta only

theorem State.tapNeed_moves {M : Nat} {s0 s : State} {need : Nat} {tdi : List Bool} {f : State → State}
    (hm : 0x289000002 ||| M = M) (hf : ∀ t, Moves M s0 t → Moves M s0 (f t)) (h : Moves M s0 s) :
    Moves M s0 (s.tapNeed need tdi f) := by
  unfold State.tapNeed
  split
  · exact h
  · split
    · exact Moves.step (State.tapBypass_moves ..) (sub_trans (by decide) hm) h
    · exact hf s h

theorem State.tapIdcode_moves (s : State) (tdi : List Bool) : Moves 0x289000002 s (State.tapIdcode s tdi) := by
  unfold State.tapIdcode
  repeat' first
    | with_reducible assumption
    | with_reducible exact Moves.refl _ _
    | decide
    | with_reducible apply Moves.step (State.tapTake_moves ..)
    | with_reducible apply Moves.step (State.emit_moves ..)

theorem State.tapSample_moves (s : State) (tdi : List Bool) : Moves 0x389000002 s (State.tapSample s tdi) := by
  unfold State.tapSample
  simp -zeta only [State.upd_jtag]
  repeat' first
    | with_reducible assumption
    | with_reducible exact Moves.refl _ _
    | decide
    | extract_lets
    | rw [State.upd_jtag]
    | with_reducible apply Moves.step (State.with_jtag_moves ..)
    | with_reducible apply Moves.step (State.tapTake_moves ..)
    | with_reducible apply Moves.step (State.drawBits_moves ..)
    | with_reducible apply Moves.step (State.emit_moves ..)
    | split
    | (with_reducible refine Moves.snd (by assumption) ?_)
    | (with_reducible refine Moves.fst (by assumption) ?_)
    | (with_reducible refine Moves.trd (by assumption) ?_)
    | dsimp +zetaDelta only

theorem State.tapExtest_moves (s : State) (tdi : List Bool) : Moves 0x389000002 s (State.tapExtest s tdi) := by
  unfold State.tapExtest
  simp -zeta only [State.upd_jtag_pins]
  repeat' first
    | with_reducible assumption
    | with_reducible exact Moves.refl _ _
    | decide
    | with_reducible apply Moves.ite
    | extract_lets
    | rw [State.upd_jtag_pins]
    | with_reducible apply Moves.step (State.with_jtag_pins_moves ..)
    | with_reducible apply Moves.step (State.tapTake_moves ..)
    | with_reducible apply Moves.step (State.drawBits_moves ..)
    | with_reducible apply Moves.step (State.emit_moves ..)
    | with_reducible apply Moves.step (State.tapBypass_moves ..)
    | split
    | (with_reducible refine Moves.snd (by assumption) ?_)
    | (with_reducible refine Moves.fst (by assumption) ?_)
    | (with_reducible refine Moves.trd (by assumption) ?_)
    | dsimp +zetaDelta only

theorem State.tapReset_moves (s : State) : Moves 0x209000002 s (State.tapReset s) := by
  unfold State.tapReset
  simp -zeta only [State.upd_jtag_pins]
  repeat' first
    | with_reducible assumption
    | with_reducible exact Moves.refl _ _
    | decide
    | extract_lets
    | rw [State.upd_jtag_pins]
    | with_reducible apply Moves.step (State.with_jtag_pins_moves ..)
    | with_reducible apply Moves.step (State.extestLeave_moves ..)
    | dsimp +zetaDelta only

theorem State.extestFollow_moves (s : State) : Moves 0x209000002 s (State.extestFollow s) := by
  unfold State.extestFollow
  repeat' first
    | with_reducible assumption
    | with_reducible exact Moves.refl _ _
    | decide
    | with_reducible apply Moves.ite
    | with_reducible apply Moves.step (State.extestLeave_moves ..)
    | split

theorem State.tapRead_moves (s : State) (a : Nat) : Moves 0x6bb52828b800002 s (State.tapRead s a) := by
  unfold State.tapRead
  repeat' first
    | with_reducible assumption
    | with_reducible exact Moves.refl _ _
    | decide
    | extract_lets
    | with_reducible apply Moves.step (State.tapTake_moves ..)
    | with_reducible apply Moves.step (State.busRead_moves ..)
    | with_reducible apply Moves.step (State.emit_moves ..)
    | split
    | (with_reducible refine Moves.snd (by assumption) ?_)
    | (with_reducible refine Moves.fst (by assumption) ?_)
    | (with_reducible refine Moves.trd (by assumption) ?_)
    | dsimp +zetaDelta only

theorem State.pilotHalt_moves (s : State) : Moves 0x400000 s (State.pilotHalt s) := by
  unfold State.pilotHalt
  repeat' first
    | with_reducible assumption
    | with_reducible exact Moves.refl _ _
    | decide
    | with_reducible apply Moves.ite
    | rw [State.upd_rsv]
    | with_reducible apply Moves.step (State.with_rsv_moves ..)
    | split

theorem State.tapScan_moves (s : State) (tdi : List Bool) : Moves 0x389000002 s (State.tapScan s tdi) := by
  unfold State.tapScan
  repeat' first
    | with_reducible assumption
    | with_reducible exact Moves.refl _ _
    | decide
    | extract_lets
    | with_reducible apply Moves.step (State.tapTake_moves ..)
    | with_reducible apply Moves.step (State.drawBits_moves ..)
    | with_reducible apply Moves.step (State.emit_moves ..)
    | split
    | (with_reducible refine Moves.snd (by assumption) ?_)
    | (with_reducible refine Moves.fst (by assumption) ?_)
    | (with_reducible refine Moves.trd (by assumption) ?_)
    | dsimp +zetaDelta only

end Sys2Proof.Machine
end

