-- ==== Sys2Proof/Laws/MovesOperands.lean ====
section
/-! SUPPORT. What each operation of Machine/Operands.lean may change. -/

namespace Sys2Proof.Machine

set_option linter.all false

theorem State.trswFollow_moves (t s : State) : Moves 0x80420228c0220a2 t (State.trswFollow t s) := by
  unfold State.trswFollow
  repeat' first
    | with_reducible assumption
    | with_reducible exact Moves.refl _ _
    | decide
    | with_reducible apply Moves.ite
    | with_reducible apply Moves.step (State.agcTrsw_moves ..)
    | with_reducible apply Moves.step (State.bwBurst_moves ..)
    | split

theorem State.lookFollow_moves (t : State) : Moves 0x80120028800a022 t (State.lookFollow t) := by
  unfold State.lookFollow
  repeat' first
    | with_reducible assumption
    | with_reducible exact Moves.refl _ _
    | decide
    | with_reducible apply Moves.ite
    | with_reducible apply Moves.step (State.lookSync_moves ..)
    | split

theorem State.follow_moves (t s : State) : Moves 0x80520228d02a0a2 t (State.follow t s) := by
  unfold State.follow
  repeat' first
    | with_reducible assumption
    | with_reducible exact Moves.refl _ _
    | decide
    | with_reducible apply Moves.step (State.trswFollow_moves ..)
    | with_reducible apply Moves.step (State.lookFollow_moves ..)
    | with_reducible apply Moves.step (State.extestFollow_moves ..)

end Sys2Proof.Machine
end

