-- ==== Sys2Proof/Laws/MovesActing.lean ====
section
/-! SUPPORT. What an acting command may change. -/

namespace Sys2Proof.Machine

set_option linter.all false

theorem acting_moves {M : Nat} {s t : State} {f : State → State} (hm : 0x80520228d02a0a2 ||| M = M) (hf : Moves M s s → Moves M s (f s))
    (h : acting s f = .next t) : Moves M s t := by
  unfold acting at h
  cases h
  exact Moves.ite (Moves.step (State.follow_moves ..) hm (hf (Moves.refl _ s))) (Moves.refl _ s)

end Sys2Proof.Machine
end

