-- ==== Sys2Proof/Laws/MovesBerthCmds.lean ====
section
/-! SUPPORT. What each operation of Machine/BerthCmds.lean may change. -/

namespace Sys2Proof.Machine

set_option linter.all false

theorem schedWrite_moves (src : Source) (v : Word) (op : Nat) (s : State) : Moves 0xfffffffdffffffb s (schedWrite src v op s) := by
  unfold schedWrite
  repeat' first
    | with_reducible assumption
    | with_reducible exact Moves.refl _ _
    | decide
    | with_reducible apply Moves.step (State.busWrite_moves ..)

end Sys2Proof.Machine
end

