-- ==== Sys2Proof/Laws/ExecBerthCmds.lean ====
section
/-! SUPPORT. What each command of Machine/BerthCmds.lean may change. -/

namespace Sys2Proof.Machine

set_option linter.all false

theorem execSchedAdd_moves (src : Source) (v : Word) (s : State) (t : State) (h : execSchedAdd src v s = .next t) :
    Moves 0xc0528228d82a8a2 s t := by
  unfold execSchedAdd at h
  refine acting_moves (by decide) (fun _ => ?_) h
  repeat' first
    | with_reducible assumption
    | with_reducible exact Moves.refl _ _
    | decide
    | unfold schedWrite
    | with_reducible apply Moves.step (State.busWrite_Berth _ _ _ (by first | decide | (simp only [F.BERTH_SCHED_CMD_GO]; omega) | (simp only [F.BERTH_SCHED_CMD_GO]; split <;> decide) | (simp only [F.BERTH_SCHED_CMD_GO]; (repeat' split) <;> omega)))

theorem execSchedCancel_moves (src : Source) (v : Word) (s : State) (t : State) (h : execSchedCancel src v s = .next t) :
    Moves 0xc0528228d82a8a2 s t := by
  unfold execSchedCancel at h
  refine acting_moves (by decide) (fun _ => ?_) h
  repeat' first
    | with_reducible assumption
    | with_reducible exact Moves.refl _ _
    | decide
    | unfold schedWrite
    | with_reducible apply Moves.step (State.busWrite_Berth _ _ _ (by first | decide | (simp only [F.BERTH_SCHED_CMD_GO]; omega) | (simp only [F.BERTH_SCHED_CMD_GO]; split <;> decide) | (simp only [F.BERTH_SCHED_CMD_GO]; (repeat' split) <;> omega)))

theorem execSchedFlush_moves (src : Source) (v : Word) (s : State) (t : State) (h : execSchedFlush src v s = .next t) :
    Moves 0xc0528228d82a8a2 s t := by
  unfold execSchedFlush at h
  refine acting_moves (by decide) (fun _ => ?_) h
  repeat' first
    | with_reducible assumption
    | with_reducible exact Moves.refl _ _
    | decide
    | unfold schedWrite
    | with_reducible apply Moves.step (State.busWrite_Berth _ _ _ (by first | decide | (simp only [F.BERTH_SCHED_CMD_GO]; omega) | (simp only [F.BERTH_SCHED_CMD_GO]; split <;> decide) | (simp only [F.BERTH_SCHED_CMD_GO]; (repeat' split) <;> omega)))

theorem execSchedOpReserved_moves (src : Source) (v : Word) (s : State) (t : State) (h : execSchedOpReserved src v s = .next t) :
    Moves 0xc0528228d82a8a2 s t := by
  unfold execSchedOpReserved at h
  refine acting_moves (by decide) (fun _ => ?_) h
  repeat' first
    | with_reducible assumption
    | with_reducible exact Moves.refl _ _
    | decide
    | unfold schedWrite
    | with_reducible apply Moves.step (State.busWrite_Berth _ _ _ (by first | decide | (simp only [F.BERTH_SCHED_CMD_GO]; omega) | (simp only [F.BERTH_SCHED_CMD_GO]; split <;> decide) | (simp only [F.BERTH_SCHED_CMD_GO]; (repeat' split) <;> omega)))

theorem execBerthStage_moves (dir : Fin 2) (s : State) (t : State) (h : execBerthStage dir s = .next t) :
    Moves 0x805a822cd02a8e2 s t := by
  unfold execBerthStage at h
  refine acting_moves (by decide) (fun _ => ?_) h
  repeat' first
    | with_reducible assumption
    | with_reducible exact Moves.refl _ _
    | decide
    | with_reducible apply Moves.step (State.stage_moves ..)

theorem execBerthSwitch_moves (dir : Fin 2) (s : State) (t : State) (h : execBerthSwitch dir s = .next t) :
    Moves 0x807aaa2dd03efe2 s t := by
  unfold execBerthSwitch at h
  refine acting_moves (by decide) (fun _ => ?_) h
  repeat' first
    | with_reducible assumption
    | with_reducible exact Moves.refl _ _
    | decide
    | with_reducible apply Moves.ite
    | extract_lets
    | with_reducible apply Moves.step (State.berthSwitch_moves ..)
    | with_reducible apply Moves.step (State.quaySwitched_moves ..)
    | with_reducible apply Moves.step (State.lbtSwitch_moves ..)
    | split
    | (with_reducible refine Moves.snd (by assumption) ?_)
    | (with_reducible refine Moves.fst (by assumption) ?_)
    | dsimp +zetaDelta only

theorem execBerthWindowWrite_moves (src : Source) (dir : Fin 2) (b : Fin 512) (w : Fin 2051) (v : Word) (s : State) (t : State) (h : execBerthWindowWrite src dir b w v s = .next t) :
    Moves 0xfffffffdffffffb s t := by
  unfold execBerthWindowWrite at h
  refine acting_moves (by decide) (fun _ => ?_) h
  repeat' first
    | with_reducible assumption
    | with_reducible exact Moves.refl _ _
    | decide
    | with_reducible apply Moves.step (State.busWrite_moves ..)

theorem execMaskApply_moves (dir : Fin 2) (s : State) (t : State) (h : execMaskApply dir s = .next t) :
    Moves 0x807a8a2cd03e9e2 s t := by
  unfold execMaskApply at h
  refine acting_moves (by decide) (fun _ => ?_) h
  repeat' first
    | with_reducible assumption
    | with_reducible exact Moves.refl _ _
    | decide
    | with_reducible apply Moves.ite
    | with_reducible apply Moves.step (State.maskApply_moves ..)
    | with_reducible apply Moves.step (State.sumsDue_moves ..)
    | split
    | (with_reducible refine Moves.snd (by assumption) ?_)
    | (with_reducible refine Moves.fst (by assumption) ?_)

theorem execAlignWrite_moves (src : Source) (p : Fin 64) (dir : Fin 2) (pcal : Bool) (v : Word) (s : State) (t : State) (h : execAlignWrite src p dir pcal v s = .next t) :
    Moves 0xc0528228d82a8a2 s t := by
  unfold execAlignWrite at h
  refine acting_moves (by decide) (fun _ => ?_) h
  repeat' first
    | with_reducible assumption
    | with_reducible exact Moves.refl _ _
    | decide
    | with_reducible apply Moves.ite
    | with_reducible apply Moves.step (State.busWrite_Berth _ _ _ (by (repeat' split) <;> (first | unfold fALIGN | unfold fPCALRE) <;> (split <;> simp only [F.BERTH_P_PCAL_TX_RE, F.BERTH_P_PCAL_RX_RE, F.BERTH_P_ALIGN_TX_ALIGN, F.BERTH_P_ALIGN_RX_ALIGN] <;> omega)))
    | split
    | (with_reducible refine Moves.snd (by assumption) ?_)
    | (with_reducible refine Moves.fst (by assumption) ?_)

theorem execAlignApply_moves (p : Fin 64) (dir : Fin 2) (s : State) (t : State) (h : execAlignApply p dir s = .next t) :
    Moves 0x805a022cd02a9e2 s t := by
  unfold execAlignApply at h
  refine acting_moves (by decide) (fun _ => ?_) h
  repeat' first
    | with_reducible assumption
    | with_reducible exact Moves.refl _ _
    | decide
    | with_reducible apply Moves.step (State.alignApply_moves ..)

theorem execBcalReq_moves (src : Source) (v : Word) (s : State) (t : State) (h : execBcalReq src v s = .next t) :
    Moves 0xc0528228d82a8a2 s t := by
  unfold execBcalReq at h
  refine acting_moves (by decide) (fun _ => ?_) h
  repeat' first
    | with_reducible assumption
    | with_reducible exact Moves.refl _ _
    | decide
    | with_reducible apply Moves.step (State.busWrite_Berth _ _ _ (by first | decide | (simp only [F.BERTH_CAL_REQ_GO]; omega) | (simp only [F.BERTH_CAL_REQ_GO]; split <;> decide) | (simp only [F.BERTH_CAL_REQ_GO]; (repeat' split) <;> omega)))

theorem execBcalStart_moves (s : State) (t : State) (h : execBcalStart s = .next t) :
    Moves 0x80528228d02a9a2 s t := by
  unfold execBcalStart at h
  refine acting_moves (by decide) (fun _ => ?_) h
  repeat' first
    | with_reducible assumption
    | with_reducible exact Moves.refl _ _
    | decide
    | with_reducible apply Moves.step (State.bcalStart_moves ..)

theorem execBcalTimeout_moves (s : State) (t : State) (h : execBcalTimeout s = .next t) :
    Moves 0x805a822cd02a8e2 s t := by
  unfold execBcalTimeout at h
  refine acting_moves (by decide) (fun _ => ?_) h
  repeat' first
    | with_reducible assumption
    | with_reducible exact Moves.refl _ _
    | decide
    | with_reducible apply Moves.step (State.bcalTimeout_moves ..)

theorem execBcalDone_moves (fail : BitVec 64) (s : State) (t : State) (h : execBcalDone fail s = .next t) :
    Moves 0x805a823cd02a8e2 s t := by
  unfold execBcalDone at h
  refine acting_moves (by decide) (fun _ => ?_) h
  repeat' first
    | with_reducible assumption
    | with_reducible exact Moves.refl _ _
    | decide
    | with_reducible apply Moves.step (State.bcalDone_moves ..)

theorem execBerthCntClrSat_moves (src : Source) (v : Word) (s : State) (t : State) (h : execBerthCntClrSat src v s = .next t) :
    Moves 0xc0528228d82a8a2 s t := by
  unfold execBerthCntClrSat at h
  refine acting_moves (by decide) (fun _ => ?_) h
  repeat' first
    | with_reducible assumption
    | with_reducible exact Moves.refl _ _
    | decide
    | with_reducible apply Moves.step (State.busWrite_Berth _ _ _ (by first | decide | (simp only [F.BERTH_CNT_CLR_SAT]; omega) | (simp only [F.BERTH_CNT_CLR_SAT]; split <;> decide) | (simp only [F.BERTH_CNT_CLR_SAT]; (repeat' split) <;> omega)))

theorem execBerthCntClrRef_moves (src : Source) (v : Word) (s : State) (t : State) (h : execBerthCntClrRef src v s = .next t) :
    Moves 0xc0528228d82a8a2 s t := by
  unfold execBerthCntClrRef at h
  refine acting_moves (by decide) (fun _ => ?_) h
  repeat' first
    | with_reducible assumption
    | with_reducible exact Moves.refl _ _
    | decide
    | with_reducible apply Moves.step (State.busWrite_Berth _ _ _ (by first | decide | (simp only [F.BERTH_CNT_CLR_SAT, F.BERTH_CNT_CLR_REF]; omega) | (simp only [F.BERTH_CNT_CLR_SAT, F.BERTH_CNT_CLR_REF]; split <;> decide) | (simp only [F.BERTH_CNT_CLR_SAT, F.BERTH_CNT_CLR_REF]; (repeat' split) <;> omega)))

end Sys2Proof.Machine
end

