-- ==== Sys2Proof/Laws/Registers.lean ====
section
/-! SUPPORT. Laws of the register file: what a field reads after a field is put, and what raising an event leaves alone. -/

namespace Sys2Proof.Machine

set_option linter.all false

/-! ## Bit fields -/

theorem bitsAt_setBitsAt (x lo w v : Nat) : bitsAt (setBitsAt x lo w v) lo w = v % 2 ^ w := by
  unfold bitsAt setBitsAt
  have h2 : x % 2 ^ lo < 2 ^ lo := Nat.mod_lt _ (Nat.two_pow_pos lo)
  have e : x / 2 ^ (lo + w) * 2 ^ (lo + w) + v % 2 ^ w * 2 ^ lo + x % 2 ^ lo
      = 2 ^ lo * (2 ^ w * (x / 2 ^ (lo + w)) + v % 2 ^ w) + x % 2 ^ lo := by
    generalize x / 2 ^ (lo + w) = y
    simp only [Nat.pow_add, Nat.mul_add, Nat.mul_comm, Nat.mul_left_comm]
  rw [e, Nat.mul_add_div (Nat.two_pow_pos lo), Nat.div_eq_of_lt h2, Nat.add_zero, Nat.mul_add_mod, Nat.mod_mod]

theorem setBitsAt_lt {x lo w v n : Nat} (h : lo + w ≤ n) (hx : x < 2 ^ n) : setBitsAt x lo w v < 2 ^ n := by
  unfold setBitsAt
  have h1 : x % 2 ^ lo < 2 ^ lo := Nat.mod_lt _ (Nat.two_pow_pos lo)
  have h2 : v % 2 ^ w < 2 ^ w := Nat.mod_lt _ (Nat.two_pow_pos w)
  have h3 : v % 2 ^ w * 2 ^ lo + x % 2 ^ lo < 2 ^ (lo + w) := by
    have : (v % 2 ^ w + 1) * 2 ^ lo ≤ 2 ^ w * 2 ^ lo := Nat.mul_le_mul_right _ h2
    rw [Nat.pow_add, Nat.mul_comm (2 ^ lo)]
    rw [Nat.add_mul] at this
    omega
  obtain ⟨k, rfl⟩ := Nat.exists_eq_add_of_le h
  have h4 : x / 2 ^ (lo + w) < 2 ^ k := by
    rw [Nat.div_lt_iff_lt_mul (Nat.two_pow_pos _), ← Nat.pow_add, Nat.add_comm]; exact hx
  have h5 : (x / 2 ^ (lo + w) + 1) * 2 ^ (lo + w) ≤ 2 ^ k * 2 ^ (lo + w) := Nat.mul_le_mul_right _ h4
  rw [Nat.add_mul] at h5
  rw [Nat.pow_add 2 (lo + w) k, Nat.mul_comm (2 ^ (lo + w))]
  omega

/-- A field below the one that is set. -/
theorem bitsAt_setBitsAt_lo {x lo w v l2 w2 : Nat} (h : l2 + w2 ≤ lo) : bitsAt (setBitsAt x lo w v) l2 w2 = bitsAt x l2 w2 := by
  unfold bitsAt setBitsAt
  obtain ⟨k, rfl⟩ := Nat.exists_eq_add_of_le h
  have e : x / 2 ^ (l2 + w2 + k + w) * 2 ^ (l2 + w2 + k + w) + v % 2 ^ w * 2 ^ (l2 + w2 + k) + x % 2 ^ (l2 + w2 + k)
      = 2 ^ l2 * (2 ^ w2 * (2 ^ k * (2 ^ w * (x / 2 ^ (l2 + w2 + k + w)) + v % 2 ^ w))) + x % 2 ^ (l2 + w2 + k) := by
    generalize x / 2 ^ (l2 + w2 + k + w) = y
    generalize x % 2 ^ (l2 + w2 + k) = z
    simp only [Nat.pow_add, Nat.mul_add, Nat.add_mul, Nat.mul_assoc, Nat.mul_comm, Nat.mul_left_comm]
  rw [e, Nat.mul_add_div (Nat.two_pow_pos l2), Nat.mul_add_mod]
  have hx : x = 2 ^ l2 * (2 ^ w2 * (2 ^ k * (x / 2 ^ (l2 + w2 + k)))) + x % 2 ^ (l2 + w2 + k) := by
    have := (Nat.div_add_mod x (2 ^ (l2 + w2 + k))).symm
    rwa [Nat.pow_add, Nat.pow_add, Nat.mul_assoc (2 ^ l2 * 2 ^ w2), Nat.mul_assoc (2 ^ l2), ← Nat.pow_add, ← Nat.pow_add] at this
  have hy := congrArg (fun y => y / 2 ^ l2 % 2 ^ w2) hx
  simp only [Nat.mul_add_div (Nat.two_pow_pos l2), Nat.mul_add_mod] at hy
  exact hy.symm

/-- A field above the one that is set. -/
theorem bitsAt_setBitsAt_hi {x lo w v l2 w2 : Nat} (h : lo + w ≤ l2) : bitsAt (setBitsAt x lo w v) l2 w2 = bitsAt x l2 w2 := by
  unfold bitsAt setBitsAt
  have h1 : x % 2 ^ lo < 2 ^ lo := Nat.mod_lt _ (Nat.two_pow_pos lo)
  have h2 : v % 2 ^ w < 2 ^ w := Nat.mod_lt _ (Nat.two_pow_pos w)
  have h3 : v % 2 ^ w * 2 ^ lo + x % 2 ^ lo < 2 ^ (lo + w) := by
    have : (v % 2 ^ w + 1) * 2 ^ lo ≤ 2 ^ w * 2 ^ lo := Nat.mul_le_mul_right _ h2
    rw [Nat.pow_add, Nat.mul_comm (2 ^ lo)]
    rw [Nat.add_mul] at this
    omega
  obtain ⟨k, rfl⟩ := Nat.exists_eq_add_of_le h
  rw [Nat.pow_add 2 (lo + w) k, ← Nat.div_div_eq_div_mul, ← Nat.div_div_eq_div_mul, Nat.add_assoc,
    Nat.mul_comm (x / 2 ^ (lo + w)), Nat.mul_add_div (Nat.two_pow_pos _), Nat.div_eq_of_lt h3, Nat.add_zero]

/-! ## Registers -/

theorem State.word_setWord (s : State) (a b : Nat) (w : Word) : (s.setWord a w).word b = if b = a then w else s.word b := by
  unfold State.word State.setWord
  split
  · subst b; exact sparseGet_put_same ..
  · exact sparseGet_put_ne _ _ _ ‹_›

@[simp] theorem State.word_setWord_same (s : State) (a : Nat) (w : Word) : (s.setWord a w).word a = w := by
  rw [State.word_setWord, if_pos rfl]

theorem State.word_setWord_ne (s : State) {a b : Nat} (w : Word) (h : b ≠ a) : (s.setWord a w).word b = s.word b := by
  rw [State.word_setWord, if_neg h]

theorem State.word_put_ne (s : State) {f : Field} {a : Nat} (v : Nat) (h : a ≠ f.addr) : (s.put f v).word a = s.word a :=
  State.word_setWord_ne s _ h

theorem State.word_put_toNat (s : State) (f : Field) (v : Nat) (h : f.lo + f.width ≤ 32) :
    ((s.put f v).word f.addr).toNat = setBitsAt (s.word f.addr).toNat f.lo f.width v := by
  unfold State.put
  rw [State.word_setWord_same, BitVec.toNat_ofNat]
  exact Nat.mod_eq_of_lt (setBitsAt_lt h (s.word f.addr).isLt)

/-- A field reads what was put into it. -/
theorem State.get_put (s : State) (f : Field) (v : Nat) (h : f.lo + f.width ≤ 32) : (s.put f v).get f = v % 2 ^ f.width := by
  unfold State.get
  rw [State.word_put_toNat s f v h, bitsAt_setBitsAt]

/-- A field of another register keeps its value. -/
theorem State.get_put_ne (s : State) {f g : Field} (v : Nat) (h : g.addr ≠ f.addr) : (s.put f v).get g = s.get g := by
  unfold State.get
  rw [State.word_put_ne s v h]

/-- Another field of the same register keeps its value. -/
theorem State.get_put_apart (s : State) {f g : Field} (v : Nat) (h : f.lo + f.width ≤ 32)
    (d : g.lo + g.width ≤ f.lo ∨ f.lo + f.width ≤ g.lo) : (s.put f v).get g = s.get g := by
  by_cases ha : g.addr = f.addr
  · unfold State.get
    rw [ha, State.word_put_toNat s f v h]
    rcases d with d | d
    · exact bitsAt_setBitsAt_lo d
    · exact bitsAt_setBitsAt_hi d
  · exact State.get_put_ne s v ha

theorem State.flag_putb (s : State) (f : Field) (b : Bool) (h : f.lo + f.width ≤ 32) (hw : f.width = 1) :
    (s.putb f b).flag f = b := by
  unfold State.flag State.putb
  rw [State.get_put s f _ h, hw]
  cases b <;> rfl

/-! ## Events -/

/-- The words that raising the event `code` may change. -/
def eventWords (code : Nat) : List Nat :=
  [evtAddr (code / 256), 0x1A0050, F.TOP_IRQ_STAT_BLOCKS.addr, F.TALLY_STAT_QUEUE.addr, F.TALLY_LOST_COUNT.addr,
    F.FHM_EVT_LOST_COUNT.addr]

theorem State.word_of_regs {s t : State} (h : t.regs = s.regs) (a : Nat) : t.word a = s.word a := by
  unfold State.word; rw [h]

theorem State.setBit_word (s : State) {a b : Nat} (i : Nat) (h : b ≠ a) : (s.setBit a i).word b = s.word b :=
  State.word_setWord_ne s _ h

theorem State.putb_word (s : State) {f : Field} {a : Nat} (v : Bool) (h : a ≠ f.addr) : (s.putb f v).word a = s.word a :=
  State.word_put_ne s _ h

theorem State.inc_word (s : State) {f : Field} {a : Nat} (h : a ≠ f.addr) : (s.inc f).word a = s.word a :=
  State.word_put_ne s _ h

theorem State.syncIrq_word (s : State) {a : Nat} (h : a ≠ F.TOP_IRQ_STAT_BLOCKS.addr) : s.syncIrq.word a = s.word a := by
  unfold State.syncIrq
  extract_lets st t
  have ht : t.word a = s.word a := State.word_put_ne s _ h
  split
  · exact Eq.trans (State.word_of_regs (s := t) (by rfl) a) (ht)
  · exact ht

theorem State.traceEvt_word (s : State) (code a : Nat) : (s.traceEvt code).word a = s.word a := by
  unfold State.traceEvt
  split
  · exact State.word_of_regs (by rfl) a
  · rfl

theorem State.setEvt_word (s : State) (code info : Nat) {a : Nat} (h : a ≠ evtAddr (code / 256)) (h' : a ≠ F.TOP_IRQ_STAT_BLOCKS.addr) :
    (s.setEvt code info).word a = s.word a := by
  unfold State.setEvt
  rw [State.traceEvt_word, State.syncIrq_word _ h', State.setBit_word _ _ h]

theorem State.queue7_word (s : State) (code info : Nat) {a : Nat} (h : a ≠ F.FHM_EVT_LOST_COUNT.addr) :
    (s.queue7 code info).word a = s.word a := by
  unfold State.queue7
  split
  · exact State.word_of_regs (by rfl) a
  · split
    · split
      · exact State.word_of_regs (by rfl) a
      · exact Eq.trans (State.word_of_regs (s := s.inc F.FHM_EVT_LOST_COUNT) (by rfl) a) ((State.inc_word s h))
    · rfl

theorem State.syncTally_word (s : State) {a : Nat} (h : a ≠ F.TALLY_STAT_QUEUE.addr) : s.syncTally.word a = s.word a := by
  unfold State.syncTally
  have h' : a ≠ F.TALLY_STAT_DEFER.addr := h
  extract_lets q
  rw [State.putb_word _ _ h', State.word_put_ne _ _ h]

theorem State.tallyPut_word (s : State) (r : TallyQ) {a : Nat} (h : a ≠ F.TALLY_STAT_QUEUE.addr)
    (h' : a ≠ F.TALLY_LOST_COUNT.addr) : (s.tallyPut r).word a = s.word a := by
  unfold State.tallyPut
  split
  · rw [State.syncTally_word _ h]
    exact State.word_of_regs (by rfl) a
  · rw [State.syncTally_word _ h]
    exact Eq.trans (State.word_of_regs (s := s.inc F.TALLY_LOST_COUNT) (by rfl) a) ((State.inc_word s h'))

theorem State.deferNotice_word (s : State) {a : Nat} (h : a ∉ eventWords 0x1A03) : s.deferNotice.word a = s.word a := by
  simp only [eventWords, List.mem_cons, not_or] at h
  unfold State.deferNotice
  split
  · rfl
  · extract_lets t
    rw [State.tallyPut_word _ _ h.2.2.2.1 h.2.2.2.2.1, State.queue7_word _ _ _ h.2.2.2.2.2.1, State.setEvt_word _ _ _ h.1 h.2.2.1]
    exact State.word_of_regs (by rfl) a

theorem State.tallyKick_word (s : State) {a : Nat} (h : a ∉ eventWords 0x1A05) : s.tallyKick.word a = s.word a := by
  simp only [eventWords, List.mem_cons, not_or] at h
  have ho : s.tallyOwed.word a = s.word a := by
    unfold State.tallyOwed
    split
    · rfl
    · extract_lets r t
      rw [State.syncTally_word _ h.2.2.2.1]
      exact Eq.trans (State.word_of_regs (s := t) (by rfl) a) ((State.queue7_word _ _ _ h.2.2.2.2.2.1).trans (State.setEvt_word _ _ _ h.1 h.2.2.1))
  unfold State.tallyKick
  split
  · split
    · exact State.word_of_regs (by rfl) a
    · split
      · rfl
      · exact Eq.trans (State.word_of_regs (s := s.tallyOwed) (by rfl) a) (ho)
  · rfl

/-- Raising an event changes the words of `eventWords` alone. -/
theorem State.raise_word (s : State) (code info : Nat) {a : Nat} (h : a ∉ eventWords code) : (s.raise code info).word a = s.word a := by
  have h0 := h
  simp only [eventWords, List.mem_cons, not_or] at h
  have hd : a ∉ eventWords 0x1A03 := by
    simp only [eventWords, List.mem_cons, not_or]; exact ⟨h.2.1, h.2⟩
  have hk : a ∉ eventWords 0x1A05 := by
    simp only [eventWords, List.mem_cons, not_or]; exact ⟨h.2.1, h.2⟩
  unfold State.raise
  rw [State.tallyKick_word _ hk, State.deferNotice_word _ hd, State.tallyPut_word _ _ h.2.2.2.1 h.2.2.2.2.1,
    State.queue7_word _ _ _ h.2.2.2.2.2.1, State.setEvt_word _ _ _ h.1 h.2.2.1]

theorem State.raise_get (s : State) (code info : Nat) {f : Field} (h : f.addr ∉ eventWords code) :
    (s.raise code info).get f = s.get f := by
  unfold State.get; rw [State.raise_word s code info h]

end Sys2Proof.Machine
end

