-- ==== Sys2Proof/Laws/Follow.lean ====
section
/-! SUPPORT. What follows a command on the pins, in the gain state machine, in Breakwater and in Lookout leaves every other register
alone; an acting command answers a next state; a register write that nothing bars is the write of its block. -/

namespace Sys2Proof.Machine

set_option linter.all false

theorem acting_on {s : State} {f : State → State} (h : s.on = true) : acting s f = .next ((f s).follow s) := by
  unfold acting; rw [if_pos h]

/-- The words that `follow` may change. -/
def followWords : List Nat :=
  [F.RXA_AGC_STAT_SUSP.addr, F.BWTR_CLEAR_OK.addr, F.BWTR_CLEAR_AT_LO_STAMP.addr, F.BWTR_CLEAR_AT_HI_STAMP.addr,
    F.LOOK_STAT_RUNNING.addr, F.LOOK_BEAM_STAT_OFF.addr, evtAddr 0x11, evtAddr 0x0F, 0x1A0050, F.TOP_IRQ_STAT_BLOCKS.addr,
    F.TALLY_STAT_QUEUE.addr, F.TALLY_LOST_COUNT.addr, F.FHM_EVT_LOST_COUNT.addr]

theorem State.raiseLim_word (s : State) (code info item period : Nat) {a : Nat} (h : a ∉ eventWords code) :
    (s.raiseLim code info item period).word a = s.word a := by
  unfold State.raiseLim
  split
  · rw [State.raise_word _ _ _ h]
    exact State.word_of_regs (by rfl) a
  · rfl

theorem State.raiseLim_get (s : State) (code info item period : Nat) {f : Field} (h : f.addr ∉ eventWords code) :
    (s.raiseLim code info item period).get f = s.get f := by
  unfold State.get; rw [State.raiseLim_word s code info item period h]

theorem State.raiseMs_word (s : State) (code info item : Nat) {a : Nat} (h : a ∉ eventWords code) :
    (s.raiseMs code info item).word a = s.word a := State.raiseLim_word s code info item _ h

theorem State.raiseMs_get (s : State) (code info item : Nat) {f : Field} (h : f.addr ∉ eventWords code) :
    (s.raiseMs code info item).get f = s.get f := State.raiseLim_get s code info item _ h

theorem State.agcTrsw_word (s : State) {a : Nat} (h : a ∉ followWords) : s.agcTrsw.word a = s.word a := by
  simp only [followWords, List.mem_cons, not_or] at h
  unfold State.agcTrsw
  split
  · unfold State.agcSuspend
    rw [State.putb_word _ _ h.1]
    exact State.word_of_regs (by rfl) a
  · exact State.word_of_regs (by rfl) a

theorem State.put64_word (s : State) {lo hi : Field} (v : Stamp) {a : Nat} (h : a ≠ lo.addr) (h' : a ≠ hi.addr) :
    (s.put64 lo hi v).word a = s.word a := by
  unfold State.put64
  rw [State.word_put_ne _ _ h', State.word_put_ne _ _ h]

theorem State.showClear_word (x : State) (ok : Bool) (n tr : Nat) {a : Nat} (h : a ∉ followWords) :
    (x.showClear ok n tr).word a = x.word a := by
  simp only [followWords, List.mem_cons, not_or] at h
  unfold State.showClear
  rw [State.put64_word _ _ h.2.2.1 h.2.2.2.1, State.word_put_ne _ _ (by exact h.2.1), State.putb_word _ _ h.2.1]

theorem State.lbtJudge_word (s : State) (tr : Nat) {a : Nat} (h : a ∉ followWords) : (s.lbtJudge tr).word a = s.word a := by
  have he : a ∉ eventWords 0x1105 := by
    simp only [followWords, eventWords, List.mem_cons, not_or] at h ⊢
    exact ⟨h.2.2.2.2.2.2.1, h.2.2.2.2.2.2.2.2⟩
  unfold State.lbtJudge
  simp -zeta only [State.upd_bwtr]
  split
  · split
    · extract_lets sec ok x t u
      have hu : u.word a = s.word a := (State.showClear_word t ok _ tr h).trans (State.word_of_regs (by rfl) a)
      split
      · exact hu
      · rw [State.raiseMs_word _ _ _ _ he]; exact hu
    · rfl
  · rfl

theorem State.bwBurst_word (s : State) {a : Nat} (h : a ∉ followWords) : s.bwBurst.word a = s.word a := by
  have he : ∀ x : State, x.lbtEnsure.word a = x.word a := by
    intro x
    unfold State.lbtEnsure
    split
    · rfl
    · split
      all_goals
        split
        · exact State.lbtJudge_word x _ h
        · rfl
  unfold State.bwBurst
  extract_lets high
  split
  · exact (he _).trans (State.word_of_regs (by rfl) a)
  · exact State.word_of_regs (by rfl) a
  · rfl

theorem State.with_look_word (s : State) (v : Look) (a : Nat) : (s.with_look v).word a = s.word a := rfl

theorem State.lookFollow_word (s : State) {a : Nat} (h : a ∉ followWords) : s.lookFollow.word a = s.word a := by
  have he : a ∉ eventWords 0x0F01 := by
    simp only [followWords, eventWords, List.mem_cons, not_or] at h ⊢
    exact ⟨h.2.2.2.2.2.2.2.1, h.2.2.2.2.2.2.2.2⟩
  simp only [followWords, List.mem_cons, not_or] at h
  unfold State.lookFollow
  split
  · rfl
  · unfold State.lookSync
    simp -zeta only [State.upd_look]
    split
    · extract_lets on t x u
      have ht : t.word a = s.word a := by
        unfold t
        rw [State.word_put_ne _ _ h.2.2.2.2.2.1, State.word_put_ne _ _ (by exact h.2.2.2.2.1), State.putb_word _ _ (by exact h.2.2.2.2.1),
          State.putb_word _ _ h.2.2.2.2.1]
      have hu : u.word a = s.word a := by
        unfold u
        rw [State.with_look_word, ht]
      split
      · exact ht
      · split
        · exact hu
        · rw [State.raise_word _ _ _ he]; exact hu
    · exact State.word_of_regs (by rfl) a

theorem State.extestLeave_word (s : State) {a : Nat} (h : a ≠ F.TOP_IRQ_STAT_BLOCKS.addr) : s.extestLeave.word a = s.word a := by
  unfold State.extestLeave
  split
  · rfl
  · rw [State.syncIrq_word _ h]
    exact State.word_of_regs (by rfl) a

/-- What follows a command leaves every register alone but those of `followWords`. -/
theorem State.follow_word (t s : State) {a : Nat} (h : a ∉ followWords) : (t.follow s).word a = t.word a := by
  have hi : a ≠ F.TOP_IRQ_STAT_BLOCKS.addr := by
    simp only [followWords, List.mem_cons, not_or] at h; exact h.2.2.2.2.2.2.2.2.2.1
  unfold State.follow State.extestFollow
  have h1 : (t.trswFollow s).lookFollow.word a = t.word a := by
    rw [State.lookFollow_word _ h]
    unfold State.trswFollow
    split
    · rfl
    · rw [State.bwBurst_word _ h, State.agcTrsw_word _ h]
  split
  · rw [State.extestLeave_word _ hi, h1]
  · exact h1

theorem State.follow_get (t s : State) {f : Field} (h : f.addr ∉ followWords) : (t.follow s).get f = t.get f := by
  unfold State.get; rw [State.follow_word t s h]

/-! ## Writes that nothing bars -/

theorem State.touch_word (s : State) (src : Source) (a : Nat) : (s.touch src).word a = s.word a := by
  unfold State.touch State.sesTouch
  split
  · unfold State.setSecPort
    split <;> exact State.word_of_regs (by rfl) a
  · rfl

@[simp] theorem State.touch_get (s : State) (src : Source) (f : Field) : (s.touch src).get f = s.get f := by
  unfold State.get; rw [State.touch_word]

theorem State.touch_regs (s : State) (src : Source) : (s.touch src).regs = s.regs := by
  unfold State.touch; split <;> rfl

theorem State.opens_touch (s : State) (src : Source) (a : Nat) (w : Word) : (s.touch src).opens src a w = s.opens src a w := by
  cases src <;> rfl

theorem State.neutral_nil {s : State} {src : Source} {a v : Nat} {r : RegRow} (h : (s.deniedFields src a v r).isEmpty = true) :
    s.neutral src a v r = v := by
  unfold State.neutral
  rw [List.isEmpty_iff.mp h]; rfl

/-- A write that nothing bars is the write of its register. -/
theorem State.busWrite_opens {s : State} {src : Source} {a : Nat} {w : Word} (ha : a % 4 = 0) (h : s.opens src a w = true) :
    s.busWrite src a w = (s.touch src).regWrite src a w.toNat := by
  rw [← State.opens_touch] at h
  unfold State.busWrite
  extract_lets s1 a1 v win
  have ea : a1 = a := by unfold a1; omega
  have e1 : s1 = s.touch src := rfl
  rw [← e1] at h ⊢
  unfold State.opens at h
  simp only [Bool.and_eq_true, beq_iff_eq] at h
  have ew : win = 0 := by unfold win; rw [ea]; exact h.1
  rw [if_neg (by simp [ew]), ea]
  have h2 := h.2
  split
  next e => rw [e] at h2; cases h2
  next r e =>
    rw [e] at h2
    simp only [Bool.and_eq_true, Bool.not_eq_true', Bool.and_eq_false_iff, beq_eq_false_iff_ne] at h2
    obtain ⟨⟨⟨⟨h3, h4⟩, h5⟩, h6⟩, h7⟩ := h2
    rw [if_neg (by rintro (x | x); · rw [h3] at x; cases x
                   · rcases h4 with y | y
                     · rw [y] at x; cases x.1
                     · exact y x.2)]
    extract_lets t
    have hv : s1.writeViolates src a v r = false := by
      unfold State.writeViolates
      rw [show s1.writeDenied src a v r = false from h7, List.isEmpty_iff.mp h6]; rfl
    have ht : t = s1 := by unfold t State.iff; rw [hv]; rfl
    rw [if_neg (by rintro (x | x); · rw [show s1.writeDenied src a v r = false from h7] at x; cases x
                   · rw [h5] at x; cases x), ht, State.neutral_nil h6]

theorem Moves.get {m : Nat} {s t : State} (h : Moves m s t) {f : Field} (hf : f.addr / 0x10000 < 27)
    (hm : m.testBit (33 + f.addr / 0x10000) = false) : t.get f = s.get f := by
  unfold State.get; rw [h.words _ hf hm]

end Sys2Proof.Machine
end

