-- ==== Sys2Proof/Laws/Fields.lean ====
section
/-! SUPPORT. Laws of fields and events in the form that simplification uses: what a field reads after other fields are put, after
events are raised and after the state's other parts are replaced. -/

namespace Sys2Proof.Machine

set_option linter.all false

/-- A field lies within its word. -/
def Field.fits (f : Field) : Bool := decide (f.lo + f.width ≤ 32)

/-- Two fields share no bit. -/
def Field.apart (f g : Field) : Bool := decide (f.addr ≠ g.addr) || decide (g.lo + g.width ≤ f.lo) || decide (f.lo + f.width ≤ g.lo)

/-- The word of a field is none of those that raising an event of block `n` changes. -/
def Field.clear (f : Field) (n : Nat) : Bool := decide (f.addr ∉ eventWords (256 * n))

theorem Field.clear_iff {f : Field} {n code : Nat} (h : f.clear n = true) (hc : code / 256 = n) : f.addr ∉ eventWords code := by
  unfold Field.clear at h
  have := of_decide_eq_true h
  subst hc
  unfold eventWords at this ⊢
  rwa [Nat.mul_div_cancel_left _ (by decide)] at this

theorem State.get_put_same (s : State) (f : Field) (v : Nat) (h : f.fits = true) : (s.put f v).get f = v % 2 ^ f.width :=
  State.get_put s f v (of_decide_eq_true h)

theorem State.get_put_other (s : State) {f g : Field} (v : Nat) (h : f.fits = true) (d : f.apart g = true) :
    (s.put f v).get g = s.get g := by
  simp only [Field.apart, Bool.or_eq_true, decide_eq_true_eq] at d
  rcases d with (d | d) | d
  · exact State.get_put_ne s v (Ne.symm d)
  · exact State.get_put_apart s v (of_decide_eq_true h) (.inl d)
  · exact State.get_put_apart s v (of_decide_eq_true h) (.inr d)

theorem State.flag_eq (s : State) (f : Field) : s.flag f = (s.get f != 0) := (rfl)
theorem State.putb_eq (s : State) (f : Field) (b : Bool) : s.putb f b = s.put f (b2n b) := (rfl)
theorem State.puti_eq (s : State) (f : Field) (v : Int) : s.puti f v = s.put f (ofSigned f.width (satS f.width v)) := (rfl)
theorem State.inc_eq (s : State) (f : Field) : s.inc f = s.put f (satInc (2 ^ f.width - 1) (s.get f)) := (rfl)
theorem State.add_eq (s : State) (f : Field) (k : Nat) : s.add f k = s.put f (satAdd (2 ^ f.width - 1) (s.get f) k) := (rfl)
theorem State.incWrap_eq (s : State) (f : Field) : s.incWrap f = s.put f ((s.get f + 1) % 2 ^ f.width) := (rfl)

theorem State.get_raise (s : State) (code info : Nat) {f : Field} (h : f.clear (code / 256) = true) :
    (s.raise code info).get f = s.get f := State.raise_get s code info (Field.clear_iff h rfl)

theorem State.get_raiseLim (s : State) (code info item period : Nat) {f : Field} (h : f.clear (code / 256) = true) :
    (s.raiseLim code info item period).get f = s.get f :=
  State.raiseLim_get s code info item period (Field.clear_iff h rfl)

theorem State.get_raiseMs (s : State) (code info item : Nat) {f : Field} (h : f.clear (code / 256) = true) :
    (s.raiseMs code info item).get f = s.get f := State.raiseMs_get s code info item (Field.clear_iff h rfl)

/-- The word of a field is none of those that `follow` changes. -/
def Field.still (f : Field) : Bool := decide (f.addr ∉ followWords)

theorem State.follow_keeps (t s : State) {f : Field} (h : f.still = true) : (t.follow s).get f = t.get f :=
  State.follow_get t s (of_decide_eq_true h)

/-! ## Events that stand in their EVT register -/

theorem bitAt_eq (x i : Nat) : bitAt x i = x.testBit i := by
  unfold bitAt
  rw [Nat.testBit_eq_decide_div_mod_eq]
  by_cases h : x / 2 ^ i % 2 = 1 <;> simp [h]

theorem State.raised_setBit (s : State) {a i : Nat} (hi : i < 32) : bitAt ((s.setBit a i).word a).toNat i = true := by
  unfold State.setBit
  rw [State.word_setWord_same, bitAt_eq, BitVec.toNat_or, Nat.testBit_or, BitVec.toNat_ofNat,
    Nat.mod_eq_of_lt (Nat.pow_lt_pow_right (by decide) hi), Nat.testBit_two_pow_self, Bool.or_true]

/-- The EVT register of block `n` is none of the other words that raising an event changes. -/
def evtApart (n : Nat) : Bool :=
  decide (evtAddr n ∉ [0x1A0050, F.TOP_IRQ_STAT_BLOCKS.addr, F.TALLY_STAT_QUEUE.addr, F.TALLY_LOST_COUNT.addr, F.FHM_EVT_LOST_COUNT.addr])

theorem State.raise_raised (s : State) (code info : Nat) (h : evtApart (code / 256) = true) (hi : evtBit code info < 32) :
    (s.raise code info).raised code info = true := by
  have h := of_decide_eq_true h
  have hd : evtAddr (code / 256) ∉ eventWords 0x1A03 := fun x => h (by simpa [eventWords, evtAddr] using x)
  have hk : evtAddr (code / 256) ∉ eventWords 0x1A05 := fun x => h (by simpa [eventWords, evtAddr] using x)
  simp only [List.mem_cons, not_or] at h
  unfold State.raised State.raise
  rw [State.tallyKick_word _ hk, State.deferNotice_word _ hd, State.tallyPut_word _ _ h.2.2.1 h.2.2.2.1, State.queue7_word _ _ _ h.2.2.2.2.1]
  unfold State.setEvt
  rw [State.traceEvt_word, State.syncIrq_word _ h.2.1]
  exact State.raised_setBit s hi

theorem State.raised_of_word {s t : State} {code info : Nat} (h : t.word (evtAddr (code / 256)) = s.word (evtAddr (code / 256))) :
    t.raised code info = s.raised code info := by
  unfold State.raised; rw [h]

theorem State.put_raised (s : State) {f : Field} (v : Nat) {code info : Nat} (h : evtAddr (code / 256) ≠ f.addr) :
    (s.put f v).raised code info = s.raised code info := State.raised_of_word (State.word_put_ne s v h)

theorem State.follow_raised (t s : State) {code info : Nat} (h : decide (evtAddr (code / 256) ∉ followWords) = true) :
    (t.follow s).raised code info = t.raised code info := State.raised_of_word (State.follow_word t s (of_decide_eq_true h))

end Sys2Proof.Machine
end

