-- ==== Sys2Proof/Laws/OnBerthCmds.lean ====
section
/-! SUPPORT. What the commands of Machine/BerthCmds.lean answer while the device acts. -/

namespace Sys2Proof.Machine

set_option linter.all false

theorem on_schedAdd {s : State} (hon : s.on = true) (src : Source) (v : Word) :
    exec (.schedAdd src v) s = .next (State.follow (schedWrite src v 0 s) s) := by
  show execSchedAdd src v s = _
  exact acting_on hon

theorem on_schedCancel {s : State} (hon : s.on = true) (src : Source) (v : Word) :
    exec (.schedCancel src v) s = .next (State.follow (schedWrite src v 1 s) s) := by
  show execSchedCancel src v s = _
  exact acting_on hon

theorem on_schedFlush {s : State} (hon : s.on = true) (src : Source) (v : Word) :
    exec (.schedFlush src v) s = .next (State.follow (schedWrite src v 2 s) s) := by
  show execSchedFlush src v s = _
  exact acting_on hon

theorem on_schedOpReserved {s : State} (hon : s.on = true) (src : Source) (v : Word) :
    exec (.schedOpReserved src v) s = .next (State.follow (schedWrite src v 3 s) s) := by
  show execSchedOpReserved src v s = _
  exact acting_on hon

theorem on_berthStage {s : State} (hon : s.on = true) (dir : Fin 2) :
    exec (.berthStage dir) s = .next (State.follow (s.stage dir.val) s) := by
  show execBerthStage dir s = _
  exact acting_on hon

theorem on_berthSwitch {s : State} (hon : s.on = true) (dir : Fin 2) :
    exec (.berthSwitch dir) s = .next (State.follow (match s.schedQ dir.val with
    | [] => s
    | e :: _ =>
      let a := s.absOf e.at_
      let u := (s.berthSwitch dir.val).quaySwitched dir.val a
      if dir.val = 0 then u.lbtSwitch a else u) s) := by
  show execBerthSwitch dir s = _
  exact acting_on hon

theorem on_berthWindowWrite {s : State} (hon : s.on = true) (src : Source) (dir : Fin 2) (b : Fin 512) (w : Fin 2051) (v : Word) :
    exec (.berthWindowWrite src dir b w v) s = .next (State.follow (s.busWrite src (berthWordAddr dir.val b.val w.val) v) s) := by
  show execBerthWindowWrite src dir b w v s = _
  exact acting_on hon

theorem on_maskApply {s : State} (hon : s.on = true) (dir : Fin 2) :
    exec (.maskApply dir) s = .next (State.follow (if (s.maskAt dir.val).isSome then s.maskApply dir.val else s.sumsDue) s) := by
  show execMaskApply dir s = _
  exact acting_on hon

theorem on_alignWrite {s : State} (hon : s.on = true) (src : Source) (p : Fin 64) (dir : Fin 2) (pcal : Bool) (v : Word) :
    exec (.alignWrite src p dir pcal v) s = .next (State.follow (s.busWrite src (if pcal then fPCALRE dir.val p.val else fALIGN dir.val p.val).addr v) s) := by
  show execAlignWrite src p dir pcal v s = _
  exact acting_on hon

theorem on_alignApply {s : State} (hon : s.on = true) (p : Fin 64) (dir : Fin 2) :
    exec (.alignApply p dir) s = .next (State.follow (s.alignApply p.val dir.val) s) := by
  show execAlignApply p dir s = _
  exact acting_on hon

theorem on_bcalReq {s : State} (hon : s.on = true) (src : Source) (v : Word) :
    exec (.bcalReq src v) s = .next (State.follow (s.busWrite src F.BERTH_CAL_REQ_GO.addr (fixBit v 31)) s) := by
  show execBcalReq src v s = _
  exact acting_on hon

theorem on_bcalStart {s : State} (hon : s.on = true)  :
    exec (.bcalStart) s = .next (State.follow (State.bcalStart s) s) := by
  show execBcalStart  s = _
  exact acting_on hon

theorem on_bcalTimeout {s : State} (hon : s.on = true)  :
    exec (.bcalTimeout) s = .next (State.follow (State.bcalTimeout s) s) := by
  show execBcalTimeout  s = _
  exact acting_on hon

theorem on_bcalDone {s : State} (hon : s.on = true) (fail : BitVec 64) :
    exec (.bcalDone fail) s = .next (State.follow (s.bcalDone (mask fail)) s) := by
  show execBcalDone fail s = _
  exact acting_on hon

theorem on_berthCntClrSat {s : State} (hon : s.on = true) (src : Source) (v : Word) :
    exec (.berthCntClrSat src v) s = .next (State.follow (s.busWrite src F.BERTH_CNT_CLR_SAT.addr (fixBit v F.BERTH_CNT_CLR_SAT.lo)) s) := by
  show execBerthCntClrSat src v s = _
  exact acting_on hon

theorem on_berthCntClrRef {s : State} (hon : s.on = true) (src : Source) (v : Word) :
    exec (.berthCntClrRef src v) s = .next (State.follow (s.busWrite src F.BERTH_CNT_CLR_SAT.addr (fixBit v F.BERTH_CNT_CLR_REF.lo)) s) := by
  show execBerthCntClrRef src v s = _
  exact acting_on hon

end Sys2Proof.Machine
end

