-- ==== Sys2Proof/Laws/Events.lean ====
section
/-! SUPPORT. One law per field of the state that raising an event, and what follows a command, leaves alone. -/

namespace Sys2Proof.Machine

set_option linter.all false

theorem evtAddr_le (n : Nat) : evtAddr n / 65536 < 27 := by
  unfold evtAddr; split <;> decide

theorem block_sub {n : Nat} (h : n < 27) : 2 ^ (33 + n) ||| allBlocks = allBlocks := by
  have : ∀ k < 27, 2 ^ (33 + k) ||| allBlocks = allBlocks := by decide
  exact this n h

theorem State.raise_moves (s : State) (code info : Nat) : Moves 0xffffffe88002022 s (s.raise code info) :=
  Moves.p_raise rfl (by decide) (by
    have h := block_sub (evtAddr_le (code / 256))
    rw [show (0xffffffe88002022 : Nat) = allBlocks ||| 0xffffffe88002022 from rfl, ← Nat.or_assoc, h]) (Moves.refl _ s)

@[simp] theorem State.raise_power (s : State) (code info : Nat) : (s.raise code info).power = s.power := (State.raise_moves s code info).power (by decide)
@[simp] theorem State.raise_fuses (s : State) (code info : Nat) : (s.raise code info).fuses = s.fuses := (State.raise_moves s code info).fuses (by decide)
@[simp] theorem State.raise_clk (s : State) (code info : Nat) : (s.raise code info).clk = s.clk := (State.raise_moves s code info).clk (by decide)
@[simp] theorem State.raise_boot (s : State) (code info : Nat) : (s.raise code info).boot = s.boot := (State.raise_moves s code info).boot (by decide)
@[simp] theorem State.raise_tide (s : State) (code info : Nat) : (s.raise code info).tide = s.tide := (State.raise_moves s code info).tide (by decide)
@[simp] theorem State.raise_rx (s : State) (code info : Nat) : (s.raise code info).rx = s.rx := (State.raise_moves s code info).rx (by decide)
@[simp] theorem State.raise_tx (s : State) (code info : Nat) : (s.raise code info).tx = s.tx := (State.raise_moves s code info).tx (by decide)
@[simp] theorem State.raise_dpd (s : State) (code info : Nat) : (s.raise code info).dpd = s.dpd := (State.raise_moves s code info).dpd (by decide)
@[simp] theorem State.raise_quay (s : State) (code info : Nat) : (s.raise code info).quay = s.quay := (State.raise_moves s code info).quay (by decide)
@[simp] theorem State.raise_berth (s : State) (code info : Nat) : (s.raise code info).berth = s.berth := (State.raise_moves s code info).berth (by decide)
@[simp] theorem State.raise_link (s : State) (code info : Nat) : (s.raise code info).link = s.link := (State.raise_moves s code info).link (by decide)
@[simp] theorem State.raise_ring (s : State) (code info : Nat) : (s.raise code info).ring = s.ring := (State.raise_moves s code info).ring (by decide)
@[simp] theorem State.raise_look (s : State) (code info : Nat) : (s.raise code info).look = s.look := (State.raise_moves s code info).look (by decide)
@[simp] theorem State.raise_fend (s : State) (code info : Nat) : (s.raise code info).fend = s.fend := (State.raise_moves s code info).fend (by decide)
@[simp] theorem State.raise_bwtr (s : State) (code info : Nat) : (s.raise code info).bwtr = s.bwtr := (State.raise_moves s code info).bwtr (by decide)
@[simp] theorem State.raise_mon (s : State) (code info : Nat) : (s.raise code info).mon = s.mon := (State.raise_moves s code info).mon (by decide)
@[simp] theorem State.raise_hold (s : State) (code info : Nat) : (s.raise code info).hold = s.hold := (State.raise_moves s code info).hold (by decide)
@[simp] theorem State.raise_crane (s : State) (code info : Nat) : (s.raise code info).crane = s.crane := (State.raise_moves s code info).crane (by decide)
@[simp] theorem State.raise_therm (s : State) (code info : Nat) : (s.raise code info).therm = s.therm := (State.raise_moves s code info).therm (by decide)
@[simp] theorem State.raise_rsv (s : State) (code info : Nat) : (s.raise code info).rsv = s.rsv := (State.raise_moves s code info).rsv (by decide)
@[simp] theorem State.raise_sec (s : State) (code info : Nat) : (s.raise code info).sec = s.sec := (State.raise_moves s code info).sec (by decide)
@[simp] theorem State.raise_jtag (s : State) (code info : Nat) : (s.raise code info).jtag = s.jtag := (State.raise_moves s code info).jtag (by decide)
@[simp] theorem State.raise_hiLatch (s : State) (code info : Nat) : (s.raise code info).hiLatch = s.hiLatch := (State.raise_moves s code info).hiLatch (by decide)
@[simp] theorem State.raise_limits (s : State) (code info : Nat) : (s.raise code info).limits = s.limits := (State.raise_moves s code info).limits (by decide)
@[simp] theorem State.raise_mem (s : State) (code info : Nat) : (s.raise code info).mem = s.mem := (State.raise_moves s code info).mem (by decide)
@[simp] theorem State.raise_flash (s : State) (code info : Nat) : (s.raise code info).flash = s.flash := (State.raise_moves s code info).flash (by decide)
@[simp] theorem State.raise_aon (s : State) (code info : Nat) : (s.raise code info).aon = s.aon := (State.raise_moves s code info).aon (by decide)
@[simp] theorem State.raise_freeCtr (s : State) (code info : Nat) : (s.raise code info).freeCtr = s.freeCtr := (State.raise_moves s code info).freeCtr (by decide)
@[simp] theorem State.raise_part (s : State) (code info : Nat) : (s.raise code info).part = s.part := (State.raise_moves s code info).part

theorem State.raiseIrq_moves (s : State) (code info : Nat) : Moves 0xffffffe88000002 s (s.raiseIrq code info) :=
  Moves.p_raiseIrq rfl (by decide) (by
    have h := block_sub (evtAddr_le (code / 256))
    rw [show (0xffffffe88000002 : Nat) = allBlocks ||| 0xffffffe88000002 from rfl, ← Nat.or_assoc, h]) (Moves.refl _ s)

@[simp] theorem State.raiseIrq_power (s : State) (code info : Nat) : (s.raiseIrq code info).power = s.power := (State.raiseIrq_moves s code info).power (by decide)
@[simp] theorem State.raiseIrq_fuses (s : State) (code info : Nat) : (s.raiseIrq code info).fuses = s.fuses := (State.raiseIrq_moves s code info).fuses (by decide)
@[simp] theorem State.raiseIrq_clk (s : State) (code info : Nat) : (s.raiseIrq code info).clk = s.clk := (State.raiseIrq_moves s code info).clk (by decide)
@[simp] theorem State.raiseIrq_boot (s : State) (code info : Nat) : (s.raiseIrq code info).boot = s.boot := (State.raiseIrq_moves s code info).boot (by decide)
@[simp] theorem State.raiseIrq_tally (s : State) (code info : Nat) : (s.raiseIrq code info).tally = s.tally := (State.raiseIrq_moves s code info).tally (by decide)
@[simp] theorem State.raiseIrq_tide (s : State) (code info : Nat) : (s.raiseIrq code info).tide = s.tide := (State.raiseIrq_moves s code info).tide (by decide)
@[simp] theorem State.raiseIrq_rx (s : State) (code info : Nat) : (s.raiseIrq code info).rx = s.rx := (State.raiseIrq_moves s code info).rx (by decide)
@[simp] theorem State.raiseIrq_tx (s : State) (code info : Nat) : (s.raiseIrq code info).tx = s.tx := (State.raiseIrq_moves s code info).tx (by decide)
@[simp] theorem State.raiseIrq_dpd (s : State) (code info : Nat) : (s.raiseIrq code info).dpd = s.dpd := (State.raiseIrq_moves s code info).dpd (by decide)
@[simp] theorem State.raiseIrq_quay (s : State) (code info : Nat) : (s.raiseIrq code info).quay = s.quay := (State.raiseIrq_moves s code info).quay (by decide)
@[simp] theorem State.raiseIrq_berth (s : State) (code info : Nat) : (s.raiseIrq code info).berth = s.berth := (State.raiseIrq_moves s code info).berth (by decide)
@[simp] theorem State.raiseIrq_link (s : State) (code info : Nat) : (s.raiseIrq code info).link = s.link := (State.raiseIrq_moves s code info).link (by decide)
@[simp] theorem State.raiseIrq_msgs (s : State) (code info : Nat) : (s.raiseIrq code info).msgs = s.msgs := (State.raiseIrq_moves s code info).msgs (by decide)
@[simp] theorem State.raiseIrq_ring (s : State) (code info : Nat) : (s.raiseIrq code info).ring = s.ring := (State.raiseIrq_moves s code info).ring (by decide)
@[simp] theorem State.raiseIrq_look (s : State) (code info : Nat) : (s.raiseIrq code info).look = s.look := (State.raiseIrq_moves s code info).look (by decide)
@[simp] theorem State.raiseIrq_fend (s : State) (code info : Nat) : (s.raiseIrq code info).fend = s.fend := (State.raiseIrq_moves s code info).fend (by decide)
@[simp] theorem State.raiseIrq_bwtr (s : State) (code info : Nat) : (s.raiseIrq code info).bwtr = s.bwtr := (State.raiseIrq_moves s code info).bwtr (by decide)
@[simp] theorem State.raiseIrq_mon (s : State) (code info : Nat) : (s.raiseIrq code info).mon = s.mon := (State.raiseIrq_moves s code info).mon (by decide)
@[simp] theorem State.raiseIrq_hold (s : State) (code info : Nat) : (s.raiseIrq code info).hold = s.hold := (State.raiseIrq_moves s code info).hold (by decide)
@[simp] theorem State.raiseIrq_crane (s : State) (code info : Nat) : (s.raiseIrq code info).crane = s.crane := (State.raiseIrq_moves s code info).crane (by decide)
@[simp] theorem State.raiseIrq_therm (s : State) (code info : Nat) : (s.raiseIrq code info).therm = s.therm := (State.raiseIrq_moves s code info).therm (by decide)
@[simp] theorem State.raiseIrq_rsv (s : State) (code info : Nat) : (s.raiseIrq code info).rsv = s.rsv := (State.raiseIrq_moves s code info).rsv (by decide)
@[simp] theorem State.raiseIrq_sec (s : State) (code info : Nat) : (s.raiseIrq code info).sec = s.sec := (State.raiseIrq_moves s code info).sec (by decide)
@[simp] theorem State.raiseIrq_jtag (s : State) (code info : Nat) : (s.raiseIrq code info).jtag = s.jtag := (State.raiseIrq_moves s code info).jtag (by decide)
@[simp] theorem State.raiseIrq_hiLatch (s : State) (code info : Nat) : (s.raiseIrq code info).hiLatch = s.hiLatch := (State.raiseIrq_moves s code info).hiLatch (by decide)
@[simp] theorem State.raiseIrq_limits (s : State) (code info : Nat) : (s.raiseIrq code info).limits = s.limits := (State.raiseIrq_moves s code info).limits (by decide)
@[simp] theorem State.raiseIrq_mem (s : State) (code info : Nat) : (s.raiseIrq code info).mem = s.mem := (State.raiseIrq_moves s code info).mem (by decide)
@[simp] theorem State.raiseIrq_flash (s : State) (code info : Nat) : (s.raiseIrq code info).flash = s.flash := (State.raiseIrq_moves s code info).flash (by decide)
@[simp] theorem State.raiseIrq_aon (s : State) (code info : Nat) : (s.raiseIrq code info).aon = s.aon := (State.raiseIrq_moves s code info).aon (by decide)
@[simp] theorem State.raiseIrq_freeCtr (s : State) (code info : Nat) : (s.raiseIrq code info).freeCtr = s.freeCtr := (State.raiseIrq_moves s code info).freeCtr (by decide)
@[simp] theorem State.raiseIrq_part (s : State) (code info : Nat) : (s.raiseIrq code info).part = s.part := (State.raiseIrq_moves s code info).part

theorem State.raiseIrq7_moves (s : State) (code info : Nat) : Moves 0xffffffe88002002 s (s.raiseIrq7 code info) :=
  Moves.p_raiseIrq7 rfl (by decide) (by
    have h := block_sub (evtAddr_le (code / 256))
    rw [show (0xffffffe88002002 : Nat) = allBlocks ||| 0xffffffe88002002 from rfl, ← Nat.or_assoc, h]) (Moves.refl _ s)

@[simp] theorem State.raiseIrq7_power (s : State) (code info : Nat) : (s.raiseIrq7 code info).power = s.power := (State.raiseIrq7_moves s code info).power (by decide)
@[simp] theorem State.raiseIrq7_fuses (s : State) (code info : Nat) : (s.raiseIrq7 code info).fuses = s.fuses := (State.raiseIrq7_moves s code info).fuses (by decide)
@[simp] theorem State.raiseIrq7_clk (s : State) (code info : Nat) : (s.raiseIrq7 code info).clk = s.clk := (State.raiseIrq7_moves s code info).clk (by decide)
@[simp] theorem State.raiseIrq7_boot (s : State) (code info : Nat) : (s.raiseIrq7 code info).boot = s.boot := (State.raiseIrq7_moves s code info).boot (by decide)
@[simp] theorem State.raiseIrq7_tally (s : State) (code info : Nat) : (s.raiseIrq7 code info).tally = s.tally := (State.raiseIrq7_moves s code info).tally (by decide)
@[simp] theorem State.raiseIrq7_tide (s : State) (code info : Nat) : (s.raiseIrq7 code info).tide = s.tide := (State.raiseIrq7_moves s code info).tide (by decide)
@[simp] theorem State.raiseIrq7_rx (s : State) (code info : Nat) : (s.raiseIrq7 code info).rx = s.rx := (State.raiseIrq7_moves s code info).rx (by decide)
@[simp] theorem State.raiseIrq7_tx (s : State) (code info : Nat) : (s.raiseIrq7 code info).tx = s.tx := (State.raiseIrq7_moves s code info).tx (by decide)
@[simp] theorem State.raiseIrq7_dpd (s : State) (code info : Nat) : (s.raiseIrq7 code info).dpd = s.dpd := (State.raiseIrq7_moves s code info).dpd (by decide)
@[simp] theorem State.raiseIrq7_quay (s : State) (code info : Nat) : (s.raiseIrq7 code info).quay = s.quay := (State.raiseIrq7_moves s code info).quay (by decide)
@[simp] theorem State.raiseIrq7_berth (s : State) (code info : Nat) : (s.raiseIrq7 code info).berth = s.berth := (State.raiseIrq7_moves s code info).berth (by decide)
@[simp] theorem State.raiseIrq7_link (s : State) (code info : Nat) : (s.raiseIrq7 code info).link = s.link := (State.raiseIrq7_moves s code info).link (by decide)
@[simp] theorem State.raiseIrq7_ring (s : State) (code info : Nat) : (s.raiseIrq7 code info).ring = s.ring := (State.raiseIrq7_moves s code info).ring (by decide)
@[simp] theorem State.raiseIrq7_look (s : State) (code info : Nat) : (s.raiseIrq7 code info).look = s.look := (State.raiseIrq7_moves s code info).look (by decide)
@[simp] theorem State.raiseIrq7_fend (s : State) (code info : Nat) : (s.raiseIrq7 code info).fend = s.fend := (State.raiseIrq7_moves s code info).fend (by decide)
@[simp] theorem State.raiseIrq7_bwtr (s : State) (code info : Nat) : (s.raiseIrq7 code info).bwtr = s.bwtr := (State.raiseIrq7_moves s code info).bwtr (by decide)
@[simp] theorem State.raiseIrq7_mon (s : State) (code info : Nat) : (s.raiseIrq7 code info).mon = s.mon := (State.raiseIrq7_moves s code info).mon (by decide)
@[simp] theorem State.raiseIrq7_hold (s : State) (code info : Nat) : (s.raiseIrq7 code info).hold = s.hold := (State.raiseIrq7_moves s code info).hold (by decide)
@[simp] theorem State.raiseIrq7_crane (s : State) (code info : Nat) : (s.raiseIrq7 code info).crane = s.crane := (State.raiseIrq7_moves s code info).crane (by decide)
@[simp] theorem State.raiseIrq7_therm (s : State) (code info : Nat) : (s.raiseIrq7 code info).therm = s.therm := (State.raiseIrq7_moves s code info).therm (by decide)
@[simp] theorem State.raiseIrq7_rsv (s : State) (code info : Nat) : (s.raiseIrq7 code info).rsv = s.rsv := (State.raiseIrq7_moves s code info).rsv (by decide)
@[simp] theorem State.raiseIrq7_sec (s : State) (code info : Nat) : (s.raiseIrq7 code info).sec = s.sec := (State.raiseIrq7_moves s code info).sec (by decide)
@[simp] theorem State.raiseIrq7_jtag (s : State) (code info : Nat) : (s.raiseIrq7 code info).jtag = s.jtag := (State.raiseIrq7_moves s code info).jtag (by decide)
@[simp] theorem State.raiseIrq7_hiLatch (s : State) (code info : Nat) : (s.raiseIrq7 code info).hiLatch = s.hiLatch := (State.raiseIrq7_moves s code info).hiLatch (by decide)
@[simp] theorem State.raiseIrq7_limits (s : State) (code info : Nat) : (s.raiseIrq7 code info).limits = s.limits := (State.raiseIrq7_moves s code info).limits (by decide)
@[simp] theorem State.raiseIrq7_mem (s : State) (code info : Nat) : (s.raiseIrq7 code info).mem = s.mem := (State.raiseIrq7_moves s code info).mem (by decide)
@[simp] theorem State.raiseIrq7_flash (s : State) (code info : Nat) : (s.raiseIrq7 code info).flash = s.flash := (State.raiseIrq7_moves s code info).flash (by decide)
@[simp] theorem State.raiseIrq7_aon (s : State) (code info : Nat) : (s.raiseIrq7 code info).aon = s.aon := (State.raiseIrq7_moves s code info).aon (by decide)
@[simp] theorem State.raiseIrq7_freeCtr (s : State) (code info : Nat) : (s.raiseIrq7 code info).freeCtr = s.freeCtr := (State.raiseIrq7_moves s code info).freeCtr (by decide)
@[simp] theorem State.raiseIrq7_part (s : State) (code info : Nat) : (s.raiseIrq7 code info).part = s.part := (State.raiseIrq7_moves s code info).part

theorem State.raiseHead_moves (s : State) (code info : Nat) : Moves 0xffffffe88002022 s (s.raiseHead code info) :=
  Moves.p_raiseHead rfl (by decide) (by
    have h := block_sub (evtAddr_le (code / 256))
    rw [show (0xffffffe88002022 : Nat) = allBlocks ||| 0xffffffe88002022 from rfl, ← Nat.or_assoc, h]) (Moves.refl _ s)

@[simp] theorem State.raiseHead_power (s : State) (code info : Nat) : (s.raiseHead code info).power = s.power := (State.raiseHead_moves s code info).power (by decide)
@[simp] theorem State.raiseHead_fuses (s : State) (code info : Nat) : (s.raiseHead code info).fuses = s.fuses := (State.raiseHead_moves s code info).fuses (by decide)
@[simp] theorem State.raiseHead_clk (s : State) (code info : Nat) : (s.raiseHead code info).clk = s.clk := (State.raiseHead_moves s code info).clk (by decide)
@[simp] theorem State.raiseHead_boot (s : State) (code info : Nat) : (s.raiseHead code info).boot = s.boot := (State.raiseHead_moves s code info).boot (by decide)
@[simp] theorem State.raiseHead_tide (s : State) (code info : Nat) : (s.raiseHead code info).tide = s.tide := (State.raiseHead_moves s code info).tide (by decide)
@[simp] theorem State.raiseHead_rx (s : State) (code info : Nat) : (s.raiseHead code info).rx = s.rx := (State.raiseHead_moves s code info).rx (by decide)
@[simp] theorem State.raiseHead_tx (s : State) (code info : Nat) : (s.raiseHead code info).tx = s.tx := (State.raiseHead_moves s code info).tx (by decide)
@[simp] theorem State.raiseHead_dpd (s : State) (code info : Nat) : (s.raiseHead code info).dpd = s.dpd := (State.raiseHead_moves s code info).dpd (by decide)
@[simp] theorem State.raiseHead_quay (s : State) (code info : Nat) : (s.raiseHead code info).quay = s.quay := (State.raiseHead_moves s code info).quay (by decide)
@[simp] theorem State.raiseHead_berth (s : State) (code info : Nat) : (s.raiseHead code info).berth = s.berth := (State.raiseHead_moves s code info).berth (by decide)
@[simp] theorem State.raiseHead_link (s : State) (code info : Nat) : (s.raiseHead code info).link = s.link := (State.raiseHead_moves s code info).link (by decide)
@[simp] theorem State.raiseHead_ring (s : State) (code info : Nat) : (s.raiseHead code info).ring = s.ring := (State.raiseHead_moves s code info).ring (by decide)
@[simp] theorem State.raiseHead_look (s : State) (code info : Nat) : (s.raiseHead code info).look = s.look := (State.raiseHead_moves s code info).look (by decide)
@[simp] theorem State.raiseHead_fend (s : State) (code info : Nat) : (s.raiseHead code info).fend = s.fend := (State.raiseHead_moves s code info).fend (by decide)
@[simp] theorem State.raiseHead_bwtr (s : State) (code info : Nat) : (s.raiseHead code info).bwtr = s.bwtr := (State.raiseHead_moves s code info).bwtr (by decide)
@[simp] theorem State.raiseHead_mon (s : State) (code info : Nat) : (s.raiseHead code info).mon = s.mon := (State.raiseHead_moves s code info).mon (by decide)
@[simp] theorem State.raiseHead_hold (s : State) (code info : Nat) : (s.raiseHead code info).hold = s.hold := (State.raiseHead_moves s code info).hold (by decide)
@[simp] theorem State.raiseHead_crane (s : State) (code info : Nat) : (s.raiseHead code info).crane = s.crane := (State.raiseHead_moves s code info).crane (by decide)
@[simp] theorem State.raiseHead_therm (s : State) (code info : Nat) : (s.raiseHead code info).therm = s.therm := (State.raiseHead_moves s code info).therm (by decide)
@[simp] theorem State.raiseHead_rsv (s : State) (code info : Nat) : (s.raiseHead code info).rsv = s.rsv := (State.raiseHead_moves s code info).rsv (by decide)
@[simp] theorem State.raiseHead_sec (s : State) (code info : Nat) : (s.raiseHead code info).sec = s.sec := (State.raiseHead_moves s code info).sec (by decide)
@[simp] theorem State.raiseHead_jtag (s : State) (code info : Nat) : (s.raiseHead code info).jtag = s.jtag := (State.raiseHead_moves s code info).jtag (by decide)
@[simp] theorem State.raiseHead_hiLatch (s : State) (code info : Nat) : (s.raiseHead code info).hiLatch = s.hiLatch := (State.raiseHead_moves s code info).hiLatch (by decide)
@[simp] theorem State.raiseHead_limits (s : State) (code info : Nat) : (s.raiseHead code info).limits = s.limits := (State.raiseHead_moves s code info).limits (by decide)
@[simp] theorem State.raiseHead_mem (s : State) (code info : Nat) : (s.raiseHead code info).mem = s.mem := (State.raiseHead_moves s code info).mem (by decide)
@[simp] theorem State.raiseHead_flash (s : State) (code info : Nat) : (s.raiseHead code info).flash = s.flash := (State.raiseHead_moves s code info).flash (by decide)
@[simp] theorem State.raiseHead_aon (s : State) (code info : Nat) : (s.raiseHead code info).aon = s.aon := (State.raiseHead_moves s code info).aon (by decide)
@[simp] theorem State.raiseHead_freeCtr (s : State) (code info : Nat) : (s.raiseHead code info).freeCtr = s.freeCtr := (State.raiseHead_moves s code info).freeCtr (by decide)
@[simp] theorem State.raiseHead_part (s : State) (code info : Nat) : (s.raiseHead code info).part = s.part := (State.raiseHead_moves s code info).part

theorem State.raiseLim_moves (s : State) (code info item period : Nat) : Moves 0xffffffe8c002022 s (s.raiseLim code info item period) :=
  Moves.p_raiseLim rfl (by decide) (by
    have h := block_sub (evtAddr_le (code / 256))
    rw [show (0xffffffe8c002022 : Nat) = allBlocks ||| 0xffffffe8c002022 from rfl, ← Nat.or_assoc, h]) (Moves.refl _ s)

@[simp] theorem State.raiseLim_power (s : State) (code info item period : Nat) : (s.raiseLim code info item period).power = s.power := (State.raiseLim_moves s code info item period).power (by decide)
@[simp] theorem State.raiseLim_fuses (s : State) (code info item period : Nat) : (s.raiseLim code info item period).fuses = s.fuses := (State.raiseLim_moves s code info item period).fuses (by decide)
@[simp] theorem State.raiseLim_clk (s : State) (code info item period : Nat) : (s.raiseLim code info item period).clk = s.clk := (State.raiseLim_moves s code info item period).clk (by decide)
@[simp] theorem State.raiseLim_boot (s : State) (code info item period : Nat) : (s.raiseLim code info item period).boot = s.boot := (State.raiseLim_moves s code info item period).boot (by decide)
@[simp] theorem State.raiseLim_tide (s : State) (code info item period : Nat) : (s.raiseLim code info item period).tide = s.tide := (State.raiseLim_moves s code info item period).tide (by decide)
@[simp] theorem State.raiseLim_rx (s : State) (code info item period : Nat) : (s.raiseLim code info item period).rx = s.rx := (State.raiseLim_moves s code info item period).rx (by decide)
@[simp] theorem State.raiseLim_tx (s : State) (code info item period : Nat) : (s.raiseLim code info item period).tx = s.tx := (State.raiseLim_moves s code info item period).tx (by decide)
@[simp] theorem State.raiseLim_dpd (s : State) (code info item period : Nat) : (s.raiseLim code info item period).dpd = s.dpd := (State.raiseLim_moves s code info item period).dpd (by decide)
@[simp] theorem State.raiseLim_quay (s : State) (code info item period : Nat) : (s.raiseLim code info item period).quay = s.quay := (State.raiseLim_moves s code info item period).quay (by decide)
@[simp] theorem State.raiseLim_berth (s : State) (code info item period : Nat) : (s.raiseLim code info item period).berth = s.berth := (State.raiseLim_moves s code info item period).berth (by decide)
@[simp] theorem State.raiseLim_link (s : State) (code info item period : Nat) : (s.raiseLim code info item period).link = s.link := (State.raiseLim_moves s code info item period).link (by decide)
@[simp] theorem State.raiseLim_ring (s : State) (code info item period : Nat) : (s.raiseLim code info item period).ring = s.ring := (State.raiseLim_moves s code info item period).ring (by decide)
@[simp] theorem State.raiseLim_look (s : State) (code info item period : Nat) : (s.raiseLim code info item period).look = s.look := (State.raiseLim_moves s code info item period).look (by decide)
@[simp] theorem State.raiseLim_fend (s : State) (code info item period : Nat) : (s.raiseLim code info item period).fend = s.fend := (State.raiseLim_moves s code info item period).fend (by decide)
@[simp] theorem State.raiseLim_bwtr (s : State) (code info item period : Nat) : (s.raiseLim code info item period).bwtr = s.bwtr := (State.raiseLim_moves s code info item period).bwtr (by decide)
@[simp] theorem State.raiseLim_mon (s : State) (code info item period : Nat) : (s.raiseLim code info item period).mon = s.mon := (State.raiseLim_moves s code info item period).mon (by decide)
@[simp] theorem State.raiseLim_hold (s : State) (code info item period : Nat) : (s.raiseLim code info item period).hold = s.hold := (State.raiseLim_moves s code info item period).hold (by decide)
@[simp] theorem State.raiseLim_crane (s : State) (code info item period : Nat) : (s.raiseLim code info item period).crane = s.crane := (State.raiseLim_moves s code info item period).crane (by decide)
@[simp] theorem State.raiseLim_therm (s : State) (code info item period : Nat) : (s.raiseLim code info item period).therm = s.therm := (State.raiseLim_moves s code info item period).therm (by decide)
@[simp] theorem State.raiseLim_rsv (s : State) (code info item period : Nat) : (s.raiseLim code info item period).rsv = s.rsv := (State.raiseLim_moves s code info item period).rsv (by decide)
@[simp] theorem State.raiseLim_sec (s : State) (code info item period : Nat) : (s.raiseLim code info item period).sec = s.sec := (State.raiseLim_moves s code info item period).sec (by decide)
@[simp] theorem State.raiseLim_jtag (s : State) (code info item period : Nat) : (s.raiseLim code info item period).jtag = s.jtag := (State.raiseLim_moves s code info item period).jtag (by decide)
@[simp] theorem State.raiseLim_hiLatch (s : State) (code info item period : Nat) : (s.raiseLim code info item period).hiLatch = s.hiLatch := (State.raiseLim_moves s code info item period).hiLatch (by decide)
@[simp] theorem State.raiseLim_mem (s : State) (code info item period : Nat) : (s.raiseLim code info item period).mem = s.mem := (State.raiseLim_moves s code info item period).mem (by decide)
@[simp] theorem State.raiseLim_flash (s : State) (code info item period : Nat) : (s.raiseLim code info item period).flash = s.flash := (State.raiseLim_moves s code info item period).flash (by decide)
@[simp] theorem State.raiseLim_aon (s : State) (code info item period : Nat) : (s.raiseLim code info item period).aon = s.aon := (State.raiseLim_moves s code info item period).aon (by decide)
@[simp] theorem State.raiseLim_freeCtr (s : State) (code info item period : Nat) : (s.raiseLim code info item period).freeCtr = s.freeCtr := (State.raiseLim_moves s code info item period).freeCtr (by decide)
@[simp] theorem State.raiseLim_part (s : State) (code info item period : Nat) : (s.raiseLim code info item period).part = s.part := (State.raiseLim_moves s code info item period).part

theorem State.raiseMs_moves (s : State) (code info item : Nat) : Moves 0xffffffe8c002022 s (s.raiseMs code info item) :=
  Moves.p_raiseMs rfl (by decide) (by
    have h := block_sub (evtAddr_le (code / 256))
    rw [show (0xffffffe8c002022 : Nat) = allBlocks ||| 0xffffffe8c002022 from rfl, ← Nat.or_assoc, h]) (Moves.refl _ s)

@[simp] theorem State.raiseMs_power (s : State) (code info item : Nat) : (s.raiseMs code info item).power = s.power := (State.raiseMs_moves s code info item).power (by decide)
@[simp] theorem State.raiseMs_fuses (s : State) (code info item : Nat) : (s.raiseMs code info item).fuses = s.fuses := (State.raiseMs_moves s code info item).fuses (by decide)
@[simp] theorem State.raiseMs_clk (s : State) (code info item : Nat) : (s.raiseMs code info item).clk = s.clk := (State.raiseMs_moves s code info item).clk (by decide)
@[simp] theorem State.raiseMs_boot (s : State) (code info item : Nat) : (s.raiseMs code info item).boot = s.boot := (State.raiseMs_moves s code info item).boot (by decide)
@[simp] theorem State.raiseMs_tide (s : State) (code info item : Nat) : (s.raiseMs code info item).tide = s.tide := (State.raiseMs_moves s code info item).tide (by decide)
@[simp] theorem State.raiseMs_rx (s : State) (code info item : Nat) : (s.raiseMs code info item).rx = s.rx := (State.raiseMs_moves s code info item).rx (by decide)
@[simp] theorem State.raiseMs_tx (s : State) (code info item : Nat) : (s.raiseMs code info item).tx = s.tx := (State.raiseMs_moves s code info item).tx (by decide)
@[simp] theorem State.raiseMs_dpd (s : State) (code info item : Nat) : (s.raiseMs code info item).dpd = s.dpd := (State.raiseMs_moves s code info item).dpd (by decide)
@[simp] theorem State.raiseMs_quay (s : State) (code info item : Nat) : (s.raiseMs code info item).quay = s.quay := (State.raiseMs_moves s code info item).quay (by decide)
@[simp] theorem State.raiseMs_berth (s : State) (code info item : Nat) : (s.raiseMs code info item).berth = s.berth := (State.raiseMs_moves s code info item).berth (by decide)
@[simp] theorem State.raiseMs_link (s : State) (code info item : Nat) : (s.raiseMs code info item).link = s.link := (State.raiseMs_moves s code info item).link (by decide)
@[simp] theorem State.raiseMs_ring (s : State) (code info item : Nat) : (s.raiseMs code info item).ring = s.ring := (State.raiseMs_moves s code info item).ring (by decide)
@[simp] theorem State.raiseMs_look (s : State) (code info item : Nat) : (s.raiseMs code info item).look = s.look := (State.raiseMs_moves s code info item).look (by decide)
@[simp] theorem State.raiseMs_fend (s : State) (code info item : Nat) : (s.raiseMs code info item).fend = s.fend := (State.raiseMs_moves s code info item).fend (by decide)
@[simp] theorem State.raiseMs_bwtr (s : State) (code info item : Nat) : (s.raiseMs code info item).bwtr = s.bwtr := (State.raiseMs_moves s code info item).bwtr (by decide)
@[simp] theorem State.raiseMs_mon (s : State) (code info item : Nat) : (s.raiseMs code info item).mon = s.mon := (State.raiseMs_moves s code info item).mon (by decide)
@[simp] theorem State.raiseMs_hold (s : State) (code info item : Nat) : (s.raiseMs code info item).hold = s.hold := (State.raiseMs_moves s code info item).hold (by decide)
@[simp] theorem State.raiseMs_crane (s : State) (code info item : Nat) : (s.raiseMs code info item).crane = s.crane := (State.raiseMs_moves s code info item).crane (by decide)
@[simp] theorem State.raiseMs_therm (s : State) (code info item : Nat) : (s.raiseMs code info item).therm = s.therm := (State.raiseMs_moves s code info item).therm (by decide)
@[simp] theorem State.raiseMs_rsv (s : State) (code info item : Nat) : (s.raiseMs code info item).rsv = s.rsv := (State.raiseMs_moves s code info item).rsv (by decide)
@[simp] theorem State.raiseMs_sec (s : State) (code info item : Nat) : (s.raiseMs code info item).sec = s.sec := (State.raiseMs_moves s code info item).sec (by decide)
@[simp] theorem State.raiseMs_jtag (s : State) (code info item : Nat) : (s.raiseMs code info item).jtag = s.jtag := (State.raiseMs_moves s code info item).jtag (by decide)
@[simp] theorem State.raiseMs_hiLatch (s : State) (code info item : Nat) : (s.raiseMs code info item).hiLatch = s.hiLatch := (State.raiseMs_moves s code info item).hiLatch (by decide)
@[simp] theorem State.raiseMs_mem (s : State) (code info item : Nat) : (s.raiseMs code info item).mem = s.mem := (State.raiseMs_moves s code info item).mem (by decide)
@[simp] theorem State.raiseMs_flash (s : State) (code info item : Nat) : (s.raiseMs code info item).flash = s.flash := (State.raiseMs_moves s code info item).flash (by decide)
@[simp] theorem State.raiseMs_aon (s : State) (code info item : Nat) : (s.raiseMs code info item).aon = s.aon := (State.raiseMs_moves s code info item).aon (by decide)
@[simp] theorem State.raiseMs_freeCtr (s : State) (code info item : Nat) : (s.raiseMs code info item).freeCtr = s.freeCtr := (State.raiseMs_moves s code info item).freeCtr (by decide)
@[simp] theorem State.raiseMs_part (s : State) (code info item : Nat) : (s.raiseMs code info item).part = s.part := (State.raiseMs_moves s code info item).part

theorem State.setEvt_moves (s : State) (code info : Nat) : Moves 0xffffffe88000002 s (s.setEvt code info) :=
  Moves.p_setEvt rfl (by decide) (by
    have h := block_sub (evtAddr_le (code / 256))
    rw [show (0xffffffe88000002 : Nat) = allBlocks ||| 0xffffffe88000002 from rfl, ← Nat.or_assoc, h]) (Moves.refl _ s)

@[simp] theorem State.setEvt_power (s : State) (code info : Nat) : (s.setEvt code info).power = s.power := (State.setEvt_moves s code info).power (by decide)
@[simp] theorem State.setEvt_fuses (s : State) (code info : Nat) : (s.setEvt code info).fuses = s.fuses := (State.setEvt_moves s code info).fuses (by decide)
@[simp] theorem State.setEvt_clk (s : State) (code info : Nat) : (s.setEvt code info).clk = s.clk := (State.setEvt_moves s code info).clk (by decide)
@[simp] theorem State.setEvt_boot (s : State) (code info : Nat) : (s.setEvt code info).boot = s.boot := (State.setEvt_moves s code info).boot (by decide)
@[simp] theorem State.setEvt_tally (s : State) (code info : Nat) : (s.setEvt code info).tally = s.tally := (State.setEvt_moves s code info).tally (by decide)
@[simp] theorem State.setEvt_tide (s : State) (code info : Nat) : (s.setEvt code info).tide = s.tide := (State.setEvt_moves s code info).tide (by decide)
@[simp] theorem State.setEvt_rx (s : State) (code info : Nat) : (s.setEvt code info).rx = s.rx := (State.setEvt_moves s code info).rx (by decide)
@[simp] theorem State.setEvt_tx (s : State) (code info : Nat) : (s.setEvt code info).tx = s.tx := (State.setEvt_moves s code info).tx (by decide)
@[simp] theorem State.setEvt_dpd (s : State) (code info : Nat) : (s.setEvt code info).dpd = s.dpd := (State.setEvt_moves s code info).dpd (by decide)
@[simp] theorem State.setEvt_quay (s : State) (code info : Nat) : (s.setEvt code info).quay = s.quay := (State.setEvt_moves s code info).quay (by decide)
@[simp] theorem State.setEvt_berth (s : State) (code info : Nat) : (s.setEvt code info).berth = s.berth := (State.setEvt_moves s code info).berth (by decide)
@[simp] theorem State.setEvt_link (s : State) (code info : Nat) : (s.setEvt code info).link = s.link := (State.setEvt_moves s code info).link (by decide)
@[simp] theorem State.setEvt_msgs (s : State) (code info : Nat) : (s.setEvt code info).msgs = s.msgs := (State.setEvt_moves s code info).msgs (by decide)
@[simp] theorem State.setEvt_ring (s : State) (code info : Nat) : (s.setEvt code info).ring = s.ring := (State.setEvt_moves s code info).ring (by decide)
@[simp] theorem State.setEvt_look (s : State) (code info : Nat) : (s.setEvt code info).look = s.look := (State.setEvt_moves s code info).look (by decide)
@[simp] theorem State.setEvt_fend (s : State) (code info : Nat) : (s.setEvt code info).fend = s.fend := (State.setEvt_moves s code info).fend (by decide)
@[simp] theorem State.setEvt_bwtr (s : State) (code info : Nat) : (s.setEvt code info).bwtr = s.bwtr := (State.setEvt_moves s code info).bwtr (by decide)
@[simp] theorem State.setEvt_mon (s : State) (code info : Nat) : (s.setEvt code info).mon = s.mon := (State.setEvt_moves s code info).mon (by decide)
@[simp] theorem State.setEvt_hold (s : State) (code info : Nat) : (s.setEvt code info).hold = s.hold := (State.setEvt_moves s code info).hold (by decide)
@[simp] theorem State.setEvt_crane (s : State) (code info : Nat) : (s.setEvt code info).crane = s.crane := (State.setEvt_moves s code info).crane (by decide)
@[simp] theorem State.setEvt_therm (s : State) (code info : Nat) : (s.setEvt code info).therm = s.therm := (State.setEvt_moves s code info).therm (by decide)
@[simp] theorem State.setEvt_rsv (s : State) (code info : Nat) : (s.setEvt code info).rsv = s.rsv := (State.setEvt_moves s code info).rsv (by decide)
@[simp] theorem State.setEvt_sec (s : State) (code info : Nat) : (s.setEvt code info).sec = s.sec := (State.setEvt_moves s code info).sec (by decide)
@[simp] theorem State.setEvt_jtag (s : State) (code info : Nat) : (s.setEvt code info).jtag = s.jtag := (State.setEvt_moves s code info).jtag (by decide)
@[simp] theorem State.setEvt_hiLatch (s : State) (code info : Nat) : (s.setEvt code info).hiLatch = s.hiLatch := (State.setEvt_moves s code info).hiLatch (by decide)
@[simp] theorem State.setEvt_limits (s : State) (code info : Nat) : (s.setEvt code info).limits = s.limits := (State.setEvt_moves s code info).limits (by decide)
@[simp] theorem State.setEvt_mem (s : State) (code info : Nat) : (s.setEvt code info).mem = s.mem := (State.setEvt_moves s code info).mem (by decide)
@[simp] theorem State.setEvt_flash (s : State) (code info : Nat) : (s.setEvt code info).flash = s.flash := (State.setEvt_moves s code info).flash (by decide)
@[simp] theorem State.setEvt_aon (s : State) (code info : Nat) : (s.setEvt code info).aon = s.aon := (State.setEvt_moves s code info).aon (by decide)
@[simp] theorem State.setEvt_freeCtr (s : State) (code info : Nat) : (s.setEvt code info).freeCtr = s.freeCtr := (State.setEvt_moves s code info).freeCtr (by decide)
@[simp] theorem State.setEvt_part (s : State) (code info : Nat) : (s.setEvt code info).part = s.part := (State.setEvt_moves s code info).part

@[simp] theorem State.follow_power (t s : State) : (t.follow s).power = t.power := (State.follow_moves t s).power (by decide)
@[simp] theorem State.follow_fuses (t s : State) : (t.follow s).fuses = t.fuses := (State.follow_moves t s).fuses (by decide)
@[simp] theorem State.follow_clk (t s : State) : (t.follow s).clk = t.clk := (State.follow_moves t s).clk (by decide)
@[simp] theorem State.follow_boot (t s : State) : (t.follow s).boot = t.boot := (State.follow_moves t s).boot (by decide)
@[simp] theorem State.follow_tide (t s : State) : (t.follow s).tide = t.tide := (State.follow_moves t s).tide (by decide)
@[simp] theorem State.follow_tx (t s : State) : (t.follow s).tx = t.tx := (State.follow_moves t s).tx (by decide)
@[simp] theorem State.follow_dpd (t s : State) : (t.follow s).dpd = t.dpd := (State.follow_moves t s).dpd (by decide)
@[simp] theorem State.follow_quay (t s : State) : (t.follow s).quay = t.quay := (State.follow_moves t s).quay (by decide)
@[simp] theorem State.follow_berth (t s : State) : (t.follow s).berth = t.berth := (State.follow_moves t s).berth (by decide)
@[simp] theorem State.follow_link (t s : State) : (t.follow s).link = t.link := (State.follow_moves t s).link (by decide)
@[simp] theorem State.follow_ring (t s : State) : (t.follow s).ring = t.ring := (State.follow_moves t s).ring (by decide)
@[simp] theorem State.follow_fend (t s : State) : (t.follow s).fend = t.fend := (State.follow_moves t s).fend (by decide)
@[simp] theorem State.follow_mon (t s : State) : (t.follow s).mon = t.mon := (State.follow_moves t s).mon (by decide)
@[simp] theorem State.follow_hold (t s : State) : (t.follow s).hold = t.hold := (State.follow_moves t s).hold (by decide)
@[simp] theorem State.follow_crane (t s : State) : (t.follow s).crane = t.crane := (State.follow_moves t s).crane (by decide)
@[simp] theorem State.follow_therm (t s : State) : (t.follow s).therm = t.therm := (State.follow_moves t s).therm (by decide)
@[simp] theorem State.follow_rsv (t s : State) : (t.follow s).rsv = t.rsv := (State.follow_moves t s).rsv (by decide)
@[simp] theorem State.follow_sec (t s : State) : (t.follow s).sec = t.sec := (State.follow_moves t s).sec (by decide)
@[simp] theorem State.follow_hiLatch (t s : State) : (t.follow s).hiLatch = t.hiLatch := (State.follow_moves t s).hiLatch (by decide)
@[simp] theorem State.follow_mem (t s : State) : (t.follow s).mem = t.mem := (State.follow_moves t s).mem (by decide)
@[simp] theorem State.follow_flash (t s : State) : (t.follow s).flash = t.flash := (State.follow_moves t s).flash (by decide)
@[simp] theorem State.follow_aon (t s : State) : (t.follow s).aon = t.aon := (State.follow_moves t s).aon (by decide)
@[simp] theorem State.follow_freeCtr (t s : State) : (t.follow s).freeCtr = t.freeCtr := (State.follow_moves t s).freeCtr (by decide)
@[simp] theorem State.follow_part (t s : State) : (t.follow s).part = t.part := (State.follow_moves t s).part

theorem State.follow_sent (t s : State) : t.out <+: (t.follow s).out := (State.follow_moves t s).sent

end Sys2Proof.Machine
end

