-- ==== Sys2Proof/Laws/Fix.lean ====
section
/-! SUPPORT. Laws of the words in which a command's bits are fixed. -/

namespace Sys2Proof.Machine

set_option linter.all false

theorem fix_toNat (v : Word) {lo width : Nat} (x : Nat) (h : lo + width ≤ 32) :
    (fix v lo width x).toNat = setBitsAt v.toNat lo width x := by
  unfold fix
  rw [BitVec.toNat_ofNat, Nat.mod_eq_of_lt (setBitsAt_lt h v.isLt)]

theorem bitsAt_fix (v : Word) {lo width : Nat} (x : Nat) (h : lo + width ≤ 32) :
    bitsAt (fix v lo width x).toNat lo width = x % 2 ^ width := by
  rw [fix_toNat v x h, bitsAt_setBitsAt]

theorem bitsAt_fix_other (v : Word) {lo width l2 w2 : Nat} (x : Nat) (h : lo + width ≤ 32) (d : l2 + w2 ≤ lo ∨ lo + width ≤ l2) :
    bitsAt (fix v lo width x).toNat l2 w2 = bitsAt v.toNat l2 w2 := by
  rw [fix_toNat v x h]
  rcases d with d | d
  · exact bitsAt_setBitsAt_lo d
  · exact bitsAt_setBitsAt_hi d

theorem bitAt_bits (x i : Nat) : bitAt x i = (bitsAt x i 1 == 1) := by
  unfold bitAt bitsAt; rfl

theorem bitAt_fixBit (v : Word) {i : Nat} (h : i < 32) : bitAt (fixBit v i).toNat i = true := by
  rw [bitAt_bits]
  unfold fixBit
  rw [bitsAt_fix v 1 (by omega)]; rfl

theorem bitAt_fix_other (v : Word) {lo width i : Nat} (x : Nat) (h : lo + width ≤ 32) (d : i < lo ∨ lo + width ≤ i) :
    bitAt (fix v lo width x).toNat i = bitAt v.toNat i := by
  rw [bitAt_bits, bitAt_bits, bitsAt_fix_other v x h (by omega)]

theorem bitsAt_fixBit_other (v : Word) {i l2 w2 : Nat} (h : i < 32) (d : l2 + w2 ≤ i ∨ i < l2) :
    bitsAt (fixBit v i).toNat l2 w2 = bitsAt v.toNat l2 w2 := bitsAt_fix_other v 1 (by omega) (by omega)

theorem bitAt_fixBit_other (v : Word) {i j : Nat} (h : i < 32) (d : j ≠ i) : bitAt (fixBit v i).toNat j = bitAt v.toNat j :=
  bitAt_fix_other v 1 (by omega) (by omega)

theorem bitAt_set5 (v x : Nat) {i : Nat} (h : 5 ≤ i) : bitAt (setBitsAt v 0 5 x) i = bitAt v i := by
  rw [bitAt_bits, bitAt_bits, bitsAt_setBitsAt_hi (by omega)]

/-- An update made under a condition that holds, and under one that does not. -/
theorem State.iff_of {s : State} {c : Bool} (h : c = true) {g : State → State} : s.iff c g = g s := by
  unfold State.iff; rw [if_pos h]
theorem State.iff_not {s : State} {c : Bool} (h : c = false) {g : State → State} : s.iff c g = s := by
  unfold State.iff; rw [h]; rfl

theorem linkAct_of {s : State} {f : State → State} {u : State} (h : f s = u) : s.linkAct f = s.linkAct (fun _ => u) := by
  unfold State.linkAct; rw [h]

theorem next_follow {s a b : State} (h : a = b) :
    (Host.Outcome.next (State.follow a s) : Host.Outcome State Fault Refusal) = .next (State.follow b s) := by rw [h]

end Sys2Proof.Machine
end

