-- ==== Sys2Proof/Laws/Opens.lean ====
section
/-! SUPPORT. A register write that nothing bars is the write of its block. -/

namespace Sys2Proof.Machine

set_option linter.all false

theorem State.opens_Top {s : State} {src : Source} {a : Nat} {w : Word} (ho : s.opens src a w = true) (ha : a % 4 = 0)
    (hb : a / 65536 = 0) (he : evtAddr 0 ≠ a) : s.busWrite src a w = (s.touch src).writeTop a w.toNat := by
  rw [State.busWrite_opens ha ho]
  unfold State.regWrite
  extract_lets t
  have e : t = (s.touch src).writeTop a w.toNat := by
    simp only [t, hb]
  rw [hb, if_neg he, e]

theorem State.opens_Pwr {s : State} {src : Source} {a : Nat} {w : Word} (ho : s.opens src a w = true) (ha : a % 4 = 0)
    (hb : a / 65536 = 1) (he : evtAddr 1 ≠ a) : s.busWrite src a w = (s.touch src).writePwr a w.toNat := by
  rw [State.busWrite_opens ha ho]
  unfold State.regWrite
  extract_lets t
  have e : t = (s.touch src).writePwr a w.toNat := by
    simp only [t, hb]
  rw [hb, if_neg he, e]

theorem State.opens_Clk {s : State} {src : Source} {a : Nat} {w : Word} (ho : s.opens src a w = true) (ha : a % 4 = 0)
    (hb : a / 65536 = 2) (he : evtAddr 2 ≠ a) : s.busWrite src a w = (s.touch src).writeClk a w.toNat := by
  rw [State.busWrite_opens ha ho]
  unfold State.regWrite
  extract_lets t
  have e : t = (s.touch src).writeClk a w.toNat := by
    simp only [t, hb]
  rw [hb, if_neg he, e]

theorem State.opens_Boot {s : State} {src : Source} {a : Nat} {w : Word} (ho : s.opens src a w = true) (ha : a % 4 = 0)
    (hb : a / 65536 = 3) (he : evtAddr 3 ≠ a) : s.busWrite src a w = (s.touch src).writeBoot a w.toNat := by
  rw [State.busWrite_opens ha ho]
  unfold State.regWrite
  extract_lets t
  have e : t = (s.touch src).writeBoot a w.toNat := by
    simp only [t, hb]
  rw [hb, if_neg he, e]

theorem State.opens_Rxa {s : State} {src : Source} {a : Nat} {w : Word} (ho : s.opens src a w = true) (ha : a % 4 = 0)
    (hb : a / 65536 = 4) (he : evtAddr 4 ≠ a) : s.busWrite src a w = (s.touch src).writeRxa a w.toNat := by
  rw [State.busWrite_opens ha ho]
  unfold State.regWrite
  extract_lets t
  have e : t = (s.touch src).writeRxa a w.toNat := by
    simp only [t, hb]
  rw [hb, if_neg he, e]

theorem State.opens_Rxd {s : State} {src : Source} {a : Nat} {w : Word} (ho : s.opens src a w = true) (ha : a % 4 = 0)
    (hb : a / 65536 = 5) (he : evtAddr 5 ≠ a) : s.busWrite src a w = (s.touch src).writeRxd a w.toNat := by
  rw [State.busWrite_opens ha ho]
  unfold State.regWrite
  extract_lets t
  have e : t = (s.touch src).writeRxd a w.toNat := by
    simp only [t, hb]
  rw [hb, if_neg he, e]

theorem State.opens_Txa {s : State} {src : Source} {a : Nat} {w : Word} (ho : s.opens src a w = true) (ha : a % 4 = 0)
    (hb : a / 65536 = 6) (he : evtAddr 6 ≠ a) : s.busWrite src a w = (s.touch src).writeTxa a w.toNat := by
  rw [State.busWrite_opens ha ho]
  unfold State.regWrite
  extract_lets t
  have e : t = (s.touch src).writeTxa a w.toNat := by
    simp only [t, hb]
  rw [hb, if_neg he, e]

theorem State.opens_Txd {s : State} {src : Source} {a : Nat} {w : Word} (ho : s.opens src a w = true) (ha : a % 4 = 0)
    (hb : a / 65536 = 7) (he : evtAddr 7 ≠ a) : s.busWrite src a w = (s.touch src).writeTxd a w.toNat := by
  rw [State.busWrite_opens ha ho]
  unfold State.regWrite
  extract_lets t
  have e : t = (s.touch src).writeTxd a w.toNat := by
    simp only [t, hb]
  rw [hb, if_neg he, e]

theorem State.opens_Dpd {s : State} {src : Source} {a : Nat} {w : Word} (ho : s.opens src a w = true) (ha : a % 4 = 0)
    (hb : a / 65536 = 8) (he : evtAddr 8 ≠ a) : s.busWrite src a w = (s.touch src).writeDpd a w.toNat := by
  rw [State.busWrite_opens ha ho]
  unfold State.regWrite
  extract_lets t
  have e : t = (s.touch src).writeDpd a w.toNat := by
    simp only [t, hb]
  rw [hb, if_neg he, e]

theorem State.opens_Qctl {s : State} {src : Source} {a : Nat} {w : Word} (ho : s.opens src a w = true) (ha : a % 4 = 0)
    (hb : a / 65536 = 9) (he : evtAddr 9 ≠ a) : s.busWrite src a w = (s.touch src).writeQctl a w.toNat := by
  rw [State.busWrite_opens ha ho]
  unfold State.regWrite
  extract_lets t
  have e : t = (s.touch src).writeQctl a w.toNat := by
    simp only [t, hb]
  rw [hb, if_neg he, e]

theorem State.opens_Berth {s : State} {src : Source} {a : Nat} {w : Word} (ho : s.opens src a w = true) (ha : a % 4 = 0)
    (hb : a / 65536 = 10) (he : evtAddr 10 ≠ a) : s.busWrite src a w = (s.touch src).writeBerth a w.toNat := by
  rw [State.busWrite_opens ha ho]
  unfold State.regWrite
  extract_lets t
  have e : t = (s.touch src).writeBerth a w.toNat := by
    simp only [t, hb]
  rw [hb, if_neg he, e]

theorem State.opens_Fhl {s : State} {src : Source} {a : Nat} {w : Word} (ho : s.opens src a w = true) (ha : a % 4 = 0)
    (hb : a / 65536 = 11) (he : evtAddr 11 ≠ a) : s.busWrite src a w = (s.touch src).writeFhl a w.toNat := by
  rw [State.busWrite_opens ha ho]
  unfold State.regWrite
  extract_lets t
  have e : t = (s.touch src).writeFhl a w.toNat := by
    simp only [t, hb]
  rw [hb, if_neg he, e]

theorem State.opens_Fhm {s : State} {src : Source} {a : Nat} {w : Word} (ho : s.opens src a w = true) (ha : a % 4 = 0)
    (hb : a / 65536 = 12) (he : evtAddr 12 ≠ a) : s.busWrite src a w = (s.touch src).writeFhm a w.toNat := by
  rw [State.busWrite_opens ha ho]
  unfold State.regWrite
  extract_lets t
  have e : t = (s.touch src).writeFhm a w.toNat := by
    simp only [t, hb]
  rw [hb, if_neg he, e]

theorem State.opens_Ring {s : State} {src : Source} {a : Nat} {w : Word} (ho : s.opens src a w = true) (ha : a % 4 = 0)
    (hb : a / 65536 = 13) (he : evtAddr 13 ≠ a) : s.busWrite src a w = (s.touch src).writeRing a w.toNat := by
  rw [State.busWrite_opens ha ho]
  unfold State.regWrite
  extract_lets t
  have e : t = (s.touch src).writeRing a w.toNat := by
    simp only [t, hb]
  rw [hb, if_neg he, e]

theorem State.opens_Tide {s : State} {src : Source} {a : Nat} {w : Word} (ho : s.opens src a w = true) (ha : a % 4 = 0)
    (hb : a / 65536 = 14) (he : evtAddr 14 ≠ a) : s.busWrite src a w = (s.touch src).writeTide a w.toNat := by
  rw [State.busWrite_opens ha ho]
  unfold State.regWrite
  extract_lets t
  have e : t = (s.touch src).writeTide a w.toNat := by
    simp only [t, hb]
  rw [hb, if_neg he, e]

theorem State.opens_Look {s : State} {src : Source} {a : Nat} {w : Word} (ho : s.opens src a w = true) (ha : a % 4 = 0)
    (hb : a / 65536 = 15) (he : evtAddr 15 ≠ a) : s.busWrite src a w = (s.touch src).writeLook a w.toNat := by
  rw [State.busWrite_opens ha ho]
  unfold State.regWrite
  extract_lets t
  have e : t = (s.touch src).writeLook a w.toNat := by
    simp only [t, hb]
  rw [hb, if_neg he, e]

theorem State.opens_Fend {s : State} {src : Source} {a : Nat} {w : Word} (ho : s.opens src a w = true) (ha : a % 4 = 0)
    (hb : a / 65536 = 16) (he : evtAddr 16 ≠ a) : s.busWrite src a w = (s.touch src).writeFend a w.toNat := by
  rw [State.busWrite_opens ha ho]
  unfold State.regWrite
  extract_lets t
  have e : t = (s.touch src).writeFend a w.toNat := by
    simp only [t, hb]
  rw [hb, if_neg he, e]

theorem State.opens_Bwtr {s : State} {src : Source} {a : Nat} {w : Word} (ho : s.opens src a w = true) (ha : a % 4 = 0)
    (hb : a / 65536 = 17) (he : evtAddr 17 ≠ a) : s.busWrite src a w = (s.touch src).writeBwtr a w.toNat := by
  rw [State.busWrite_opens ha ho]
  unfold State.regWrite
  extract_lets t
  have e : t = (s.touch src).writeBwtr a w.toNat := by
    simp only [t, hb]
  rw [hb, if_neg he, e]

theorem State.opens_Mon {s : State} {src : Source} {a : Nat} {w : Word} (ho : s.opens src a w = true) (ha : a % 4 = 0)
    (hb : a / 65536 = 18) (he : evtAddr 18 ≠ a) : s.busWrite src a w = (s.touch src).writeMon a w.toNat := by
  rw [State.busWrite_opens ha ho]
  unfold State.regWrite
  extract_lets t
  have e : t = (s.touch src).writeMon a w.toNat := by
    simp only [t, hb]
  rw [hb, if_neg he, e]

theorem State.opens_Gauge {s : State} {src : Source} {a : Nat} {w : Word} (ho : s.opens src a w = true) (ha : a % 4 = 0)
    (hb : a / 65536 = 19) (he : evtAddr 19 ≠ a) : s.busWrite src a w = (s.touch src).writeGauge a w.toNat := by
  rw [State.busWrite_opens ha ho]
  unfold State.regWrite
  extract_lets t
  have e : t = (s.touch src).writeGauge a w.toNat := by
    simp only [t, hb]
  rw [hb, if_neg he, e]

theorem State.opens_Holdc {s : State} {src : Source} {a : Nat} {w : Word} (ho : s.opens src a w = true) (ha : a % 4 = 0)
    (hb : a / 65536 = 20) (he : evtAddr 20 ≠ a) : s.busWrite src a w = (s.touch src).writeHoldc a w.toNat := by
  rw [State.busWrite_opens ha ho]
  unfold State.regWrite
  extract_lets t
  have e : t = (s.touch src).writeHoldc a w.toNat := by
    simp only [t, hb]
  rw [hb, if_neg he, e]

theorem State.opens_Crane {s : State} {src : Source} {a : Nat} {w : Word} (ho : s.opens src a w = true) (ha : a % 4 = 0)
    (hb : a / 65536 = 21) (he : evtAddr 21 ≠ a) : s.busWrite src a w = (s.touch src).writeCrane (srcCrane src) ((s.touch src).asPilot src) ((s.touch src).srcLevel src true) a w.toNat := by
  rw [State.busWrite_opens ha ho]
  unfold State.regWrite
  extract_lets t
  have e : t = (s.touch src).writeCrane (srcCrane src) ((s.touch src).asPilot src) ((s.touch src).srcLevel src true) a w.toNat := by
    simp only [t, hb]
  rw [hb, if_neg he, e]

theorem State.opens_Therm {s : State} {src : Source} {a : Nat} {w : Word} (ho : s.opens src a w = true) (ha : a % 4 = 0)
    (hb : a / 65536 = 22) (he : evtAddr 22 ≠ a) : s.busWrite src a w = (s.touch src).writeTherm a w.toNat := by
  rw [State.busWrite_opens ha ho]
  unfold State.regWrite
  extract_lets t
  have e : t = (s.touch src).writeTherm a w.toNat := by
    simp only [t, hb]
  rw [hb, if_neg he, e]

theorem State.opens_Rsv {s : State} {src : Source} {a : Nat} {w : Word} (ho : s.opens src a w = true) (ha : a % 4 = 0)
    (hb : a / 65536 = 23) (he : evtAddr 23 ≠ a) : s.busWrite src a w = (s.touch src).writeRsv a w.toNat := by
  rw [State.busWrite_opens ha ho]
  unfold State.regWrite
  extract_lets t
  have e : t = (s.touch src).writeRsv a w.toNat := by
    simp only [t, hb]
  rw [hb, if_neg he, e]

theorem State.opens_Pilot {s : State} {src : Source} {a : Nat} {w : Word} (ho : s.opens src a w = true) (ha : a % 4 = 0)
    (hb : a / 65536 = 24) (he : evtAddr 24 ≠ a) : s.busWrite src a w = (s.touch src).writePilot a w.toNat := by
  rw [State.busWrite_opens ha ho]
  unfold State.regWrite
  extract_lets t
  have e : t = (s.touch src).writePilot a w.toNat := by
    simp only [t, hb]
  rw [hb, if_neg he, e]

theorem State.opens_Sec {s : State} {src : Source} {a : Nat} {w : Word} (ho : s.opens src a w = true) (ha : a % 4 = 0)
    (hb : a / 65536 = 25) (he : evtAddr 25 ≠ a) : s.busWrite src a w = (s.touch src).writeSec (srcCode src) (srcPort src) a w.toNat := by
  rw [State.busWrite_opens ha ho]
  unfold State.regWrite
  extract_lets t
  have e : t = (s.touch src).writeSec (srcCode src) (srcPort src) a w.toNat := by
    simp only [t, hb]
  rw [hb, if_neg he, e]

theorem State.opens_Tally {s : State} {src : Source} {a : Nat} {w : Word} (ho : s.opens src a w = true) (ha : a % 4 = 0)
    (hb : a / 65536 = 26) (he : evtAddr 26 ≠ a) : s.busWrite src a w = (s.touch src).writeTally a w.toNat := by
  rw [State.busWrite_opens ha ho]
  unfold State.regWrite
  extract_lets t
  have e : t = (s.touch src).writeTally a w.toNat := by
    simp only [t, hb]
  rw [hb, if_neg he, e]

theorem State.evt_Top {s : State} {src : Source} {w : Word} (ho : s.opens src 0x40 w = true) :
    s.busWrite src 0x40 w = ((s.touch src).plain 0x40 w.toNat).syncIrq := by
  rw [State.busWrite_opens (by decide) ho]
  unfold State.regWrite
  extract_lets t
  have e : t = (s.touch src).writeTop 0x40 w.toNat := by
    simp only [t, show 0x40 / 65536 = 0 from by decide]
  rw [show 0x40 / 65536 = 0 from by decide, if_pos (by decide), e]
  unfold State.writeTop
  (try dsimp only)
  repeat rw [if_neg (by decide)]

theorem State.evt_Pwr {s : State} {src : Source} {w : Word} (ho : s.opens src 0x10040 w = true) :
    s.busWrite src 0x10040 w = ((s.touch src).plain 0x10040 w.toNat).syncIrq := by
  rw [State.busWrite_opens (by decide) ho]
  unfold State.regWrite
  extract_lets t
  have e : t = (s.touch src).writePwr 0x10040 w.toNat := by
    simp only [t, show 0x10040 / 65536 = 1 from by decide]
  rw [show 0x10040 / 65536 = 1 from by decide, if_pos (by decide), e]
  unfold State.writePwr
  (try dsimp only)
  repeat rw [if_neg (by decide)]

theorem State.evt_Clk {s : State} {src : Source} {w : Word} (ho : s.opens src 0x20080 w = true) :
    s.busWrite src 0x20080 w = ((s.touch src).plain 0x20080 w.toNat).syncIrq := by
  rw [State.busWrite_opens (by decide) ho]
  unfold State.regWrite
  extract_lets t
  have e : t = (s.touch src).writeClk 0x20080 w.toNat := by
    simp only [t, show 0x20080 / 65536 = 2 from by decide]
  rw [show 0x20080 / 65536 = 2 from by decide, if_pos (by decide), e]
  unfold State.writeClk
  (try dsimp only)
  repeat rw [if_neg (by decide)]

theorem State.evt_Boot {s : State} {src : Source} {w : Word} (ho : s.opens src 0x30050 w = true) :
    s.busWrite src 0x30050 w = ((s.touch src).plain 0x30050 w.toNat).syncIrq := by
  rw [State.busWrite_opens (by decide) ho]
  unfold State.regWrite
  extract_lets t
  have e : t = (s.touch src).writeBoot 0x30050 w.toNat := by
    simp only [t, show 0x30050 / 65536 = 3 from by decide]
  rw [show 0x30050 / 65536 = 3 from by decide, if_pos (by decide), e]
  unfold State.writeBoot
  (try dsimp only)
  repeat rw [if_neg (by decide)]

theorem State.evt_Rxa {s : State} {src : Source} {w : Word} (ho : s.opens src 0x40050 w = true) :
    s.busWrite src 0x40050 w = ((s.touch src).plain 0x40050 w.toNat).syncIrq := by
  rw [State.busWrite_opens (by decide) ho]
  unfold State.regWrite
  extract_lets t
  have e : t = (s.touch src).writeRxa 0x40050 w.toNat := by
    simp only [t, show 0x40050 / 65536 = 4 from by decide]
  rw [show 0x40050 / 65536 = 4 from by decide, if_pos (by decide), e]
  unfold State.writeRxa
  (try dsimp only)
  repeat rw [if_neg (by decide)]

theorem State.evt_Rxd {s : State} {src : Source} {w : Word} (ho : s.opens src 0x50050 w = true) :
    s.busWrite src 0x50050 w = ((s.touch src).plain 0x50050 w.toNat).syncIrq := by
  rw [State.busWrite_opens (by decide) ho]
  unfold State.regWrite
  extract_lets t
  have e : t = (s.touch src).writeRxd 0x50050 w.toNat := by
    simp only [t, show 0x50050 / 65536 = 5 from by decide]
  rw [show 0x50050 / 65536 = 5 from by decide, if_pos (by decide), e]
  unfold State.writeRxd
  (try dsimp only)
  repeat rw [if_neg (by decide)]

theorem State.evt_Txa {s : State} {src : Source} {w : Word} (ho : s.opens src 0x60050 w = true) :
    s.busWrite src 0x60050 w = ((s.touch src).plain 0x60050 w.toNat).syncIrq := by
  rw [State.busWrite_opens (by decide) ho]
  unfold State.regWrite
  extract_lets t
  have e : t = (s.touch src).writeTxa 0x60050 w.toNat := by
    simp only [t, show 0x60050 / 65536 = 6 from by decide]
  rw [show 0x60050 / 65536 = 6 from by decide, if_pos (by decide), e]
  unfold State.writeTxa
  (try dsimp only)
  repeat rw [if_neg (by decide)]

theorem State.evt_Txd {s : State} {src : Source} {w : Word} (ho : s.opens src 0x70050 w = true) :
    s.busWrite src 0x70050 w = ((s.touch src).plain 0x70050 w.toNat).syncIrq := by
  rw [State.busWrite_opens (by decide) ho]
  unfold State.regWrite
  extract_lets t
  have e : t = (s.touch src).writeTxd 0x70050 w.toNat := by
    simp only [t, show 0x70050 / 65536 = 7 from by decide]
  rw [show 0x70050 / 65536 = 7 from by decide, if_pos (by decide), e]
  unfold State.writeTxd
  (try dsimp only)
  repeat rw [if_neg (by decide)]

theorem State.evt_Dpd {s : State} {src : Source} {w : Word} (ho : s.opens src 0x80050 w = true) :
    s.busWrite src 0x80050 w = ((s.touch src).plain 0x80050 w.toNat).syncIrq := by
  rw [State.busWrite_opens (by decide) ho]
  unfold State.regWrite
  extract_lets t
  have e : t = (s.touch src).writeDpd 0x80050 w.toNat := by
    simp only [t, show 0x80050 / 65536 = 8 from by decide]
  rw [show 0x80050 / 65536 = 8 from by decide, if_pos (by decide), e]
  unfold State.writeDpd
  (try dsimp only)
  repeat rw [if_neg (by decide)]

theorem State.evt_Qctl {s : State} {src : Source} {w : Word} (ho : s.opens src 0x90040 w = true) :
    s.busWrite src 0x90040 w = ((s.touch src).plain 0x90040 w.toNat).syncIrq := by
  rw [State.busWrite_opens (by decide) ho]
  unfold State.regWrite
  extract_lets t
  have e : t = (s.touch src).writeQctl 0x90040 w.toNat := by
    simp only [t, show 0x90040 / 65536 = 9 from by decide]
  rw [show 0x90040 / 65536 = 9 from by decide, if_pos (by decide), e]
  unfold State.writeQctl
  (try dsimp only)
  repeat rw [if_neg (by decide)]

theorem State.evt_Berth {s : State} {src : Source} {w : Word} (ho : s.opens src 0xA0050 w = true) :
    s.busWrite src 0xA0050 w = ((s.touch src).plain 0xA0050 w.toNat).syncIrq := by
  rw [State.busWrite_opens (by decide) ho]
  unfold State.regWrite
  extract_lets t
  have e : t = (s.touch src).writeBerth 0xA0050 w.toNat := by
    simp only [t, show 0xA0050 / 65536 = 10 from by decide]
  rw [show 0xA0050 / 65536 = 10 from by decide, if_pos (by decide), e]
  unfold State.writeBerth
  (try dsimp only)
  repeat rw [if_neg (by decide)]

theorem State.evt_Fhl {s : State} {src : Source} {w : Word} (ho : s.opens src 0xB0040 w = true) :
    s.busWrite src 0xB0040 w = ((s.touch src).plain 0xB0040 w.toNat).syncIrq := by
  rw [State.busWrite_opens (by decide) ho]
  unfold State.regWrite
  extract_lets t
  have e : t = (s.touch src).writeFhl 0xB0040 w.toNat := by
    simp only [t, show 0xB0040 / 65536 = 11 from by decide]
  rw [show 0xB0040 / 65536 = 11 from by decide, if_pos (by decide), e]
  unfold State.writeFhl
  (try dsimp only)
  repeat rw [if_neg (by decide)]

theorem State.evt_Fhm {s : State} {src : Source} {w : Word} (ho : s.opens src 0xC00C0 w = true) :
    s.busWrite src 0xC00C0 w = ((s.touch src).plain 0xC00C0 w.toNat).syncIrq := by
  rw [State.busWrite_opens (by decide) ho]
  unfold State.regWrite
  extract_lets t
  have e : t = (s.touch src).writeFhm 0xC00C0 w.toNat := by
    simp only [t, show 0xC00C0 / 65536 = 12 from by decide]
  rw [show 0xC00C0 / 65536 = 12 from by decide, if_pos (by decide), e]
  unfold State.writeFhm
  (try dsimp only)
  repeat rw [if_neg (by decide)]

theorem State.evt_Ring {s : State} {src : Source} {w : Word} (ho : s.opens src 0xD0040 w = true) :
    s.busWrite src 0xD0040 w = ((s.touch src).plain 0xD0040 w.toNat).syncIrq := by
  rw [State.busWrite_opens (by decide) ho]
  unfold State.regWrite
  extract_lets t
  have e : t = (s.touch src).writeRing 0xD0040 w.toNat := by
    simp only [t, show 0xD0040 / 65536 = 13 from by decide]
  rw [show 0xD0040 / 65536 = 13 from by decide, if_pos (by decide), e]
  unfold State.writeRing
  (try dsimp only)
  repeat rw [if_neg (by decide)]

theorem State.evt_Tide {s : State} {src : Source} {w : Word} (ho : s.opens src 0xE0040 w = true) :
    s.busWrite src 0xE0040 w = ((s.touch src).plain 0xE0040 w.toNat).syncIrq := by
  rw [State.busWrite_opens (by decide) ho]
  unfold State.regWrite
  extract_lets t
  have e : t = (s.touch src).writeTide 0xE0040 w.toNat := by
    simp only [t, show 0xE0040 / 65536 = 14 from by decide]
  rw [show 0xE0040 / 65536 = 14 from by decide, if_pos (by decide), e]
  unfold State.writeTide
  (try dsimp only)
  repeat rw [if_neg (by decide)]

theorem State.evt_Look {s : State} {src : Source} {w : Word} (ho : s.opens src 0xF00F0 w = true) :
    s.busWrite src 0xF00F0 w = ((s.touch src).plain 0xF00F0 w.toNat).syncIrq := by
  rw [State.busWrite_opens (by decide) ho]
  unfold State.regWrite
  extract_lets t
  have e : t = (s.touch src).writeLook 0xF00F0 w.toNat := by
    simp only [t, show 0xF00F0 / 65536 = 15 from by decide]
  rw [show 0xF00F0 / 65536 = 15 from by decide, if_pos (by decide), e]
  unfold State.writeLook
  (try dsimp only)
  repeat rw [if_neg (by decide)]

theorem State.evt_Fend {s : State} {src : Source} {w : Word} (ho : s.opens src 0x100040 w = true) :
    s.busWrite src 0x100040 w = ((s.touch src).plain 0x100040 w.toNat).syncIrq := by
  rw [State.busWrite_opens (by decide) ho]
  unfold State.regWrite
  extract_lets t
  have e : t = (s.touch src).writeFend 0x100040 w.toNat := by
    simp only [t, show 0x100040 / 65536 = 16 from by decide]
  rw [show 0x100040 / 65536 = 16 from by decide, if_pos (by decide), e]
  unfold State.writeFend
  (try dsimp only)
  repeat rw [if_neg (by decide)]

theorem State.evt_Bwtr {s : State} {src : Source} {w : Word} (ho : s.opens src 0x110080 w = true) :
    s.busWrite src 0x110080 w = ((s.touch src).plain 0x110080 w.toNat).syncIrq := by
  rw [State.busWrite_opens (by decide) ho]
  unfold State.regWrite
  extract_lets t
  have e : t = (s.touch src).writeBwtr 0x110080 w.toNat := by
    simp only [t, show 0x110080 / 65536 = 17 from by decide]
  rw [show 0x110080 / 65536 = 17 from by decide, if_pos (by decide), e]
  unfold State.writeBwtr
  (try dsimp only)
  repeat rw [if_neg (by decide)]

theorem State.evt_Mon {s : State} {src : Source} {w : Word} (ho : s.opens src 0x121000 w = true) :
    s.busWrite src 0x121000 w = ((s.touch src).plain 0x121000 w.toNat).syncIrq := by
  rw [State.busWrite_opens (by decide) ho]
  unfold State.regWrite
  extract_lets t
  have e : t = (s.touch src).writeMon 0x121000 w.toNat := by
    simp only [t, show 0x121000 / 65536 = 18 from by decide]
  rw [show 0x121000 / 65536 = 18 from by decide, if_pos (by decide), e]
  unfold State.writeMon
  (try dsimp only)
  repeat rw [if_neg (by decide)]

theorem State.evt_Gauge {s : State} {src : Source} {w : Word} (ho : s.opens src 0x130040 w = true) :
    s.busWrite src 0x130040 w = ((s.touch src).plain 0x130040 w.toNat).syncIrq := by
  rw [State.busWrite_opens (by decide) ho]
  unfold State.regWrite
  extract_lets t
  have e : t = (s.touch src).writeGauge 0x130040 w.toNat := by
    simp only [t, show 0x130040 / 65536 = 19 from by decide]
  rw [show 0x130040 / 65536 = 19 from by decide, if_pos (by decide), e]
  unfold State.writeGauge
  (try dsimp only)
  repeat rw [if_neg (by decide)]

theorem State.evt_Holdc {s : State} {src : Source} {w : Word} (ho : s.opens src 0x140040 w = true) :
    s.busWrite src 0x140040 w = ((s.touch src).plain 0x140040 w.toNat).syncIrq := by
  rw [State.busWrite_opens (by decide) ho]
  unfold State.regWrite
  extract_lets t
  have e : t = (s.touch src).writeHoldc 0x140040 w.toNat := by
    simp only [t, show 0x140040 / 65536 = 20 from by decide]
  rw [show 0x140040 / 65536 = 20 from by decide, if_pos (by decide), e]
  unfold State.writeHoldc
  (try dsimp only)
  repeat rw [if_neg (by decide)]

theorem State.evt_Crane {s : State} {src : Source} {w : Word} (ho : s.opens src 0x150040 w = true) :
    s.busWrite src 0x150040 w = ((s.touch src).plain 0x150040 w.toNat).syncIrq := by
  rw [State.busWrite_opens (by decide) ho]
  unfold State.regWrite
  extract_lets t
  have e : t = (s.touch src).writeCrane (srcCrane src) ((s.touch src).asPilot src) ((s.touch src).srcLevel src true) 0x150040 w.toNat := by
    simp only [t, show 0x150040 / 65536 = 21 from by decide]
  rw [show 0x150040 / 65536 = 21 from by decide, if_pos (by decide), e]
  unfold State.writeCrane
  (try dsimp only)
  repeat rw [if_neg (by decide)]

theorem State.evt_Therm {s : State} {src : Source} {w : Word} (ho : s.opens src 0x160040 w = true) :
    s.busWrite src 0x160040 w = ((s.touch src).plain 0x160040 w.toNat).syncIrq := by
  rw [State.busWrite_opens (by decide) ho]
  unfold State.regWrite
  extract_lets t
  have e : t = (s.touch src).writeTherm 0x160040 w.toNat := by
    simp only [t, show 0x160040 / 65536 = 22 from by decide]
  rw [show 0x160040 / 65536 = 22 from by decide, if_pos (by decide), e]
  unfold State.writeTherm
  (try dsimp only)
  repeat rw [if_neg (by decide)]

theorem State.evt_Rsv {s : State} {src : Source} {w : Word} (ho : s.opens src 0x170040 w = true) :
    s.busWrite src 0x170040 w = ((s.touch src).plain 0x170040 w.toNat).syncIrq := by
  rw [State.busWrite_opens (by decide) ho]
  unfold State.regWrite
  extract_lets t
  have e : t = (s.touch src).writeRsv 0x170040 w.toNat := by
    simp only [t, show 0x170040 / 65536 = 23 from by decide]
  rw [show 0x170040 / 65536 = 23 from by decide, if_pos (by decide), e]
  unfold State.writeRsv
  (try dsimp only)
  repeat rw [if_neg (by decide)]

theorem State.evt_Pilot {s : State} {src : Source} {w : Word} (ho : s.opens src 0x181040 w = true) :
    s.busWrite src 0x181040 w = ((s.touch src).plain 0x181040 w.toNat).syncIrq := by
  rw [State.busWrite_opens (by decide) ho]
  unfold State.regWrite
  extract_lets t
  have e : t = (s.touch src).writePilot 0x181040 w.toNat := by
    simp only [t, show 0x181040 / 65536 = 24 from by decide]
  rw [show 0x181040 / 65536 = 24 from by decide, if_pos (by decide), e]
  unfold State.writePilot
  (try dsimp only)
  repeat rw [if_neg (by decide)]

theorem State.evt_Sec {s : State} {src : Source} {w : Word} (ho : s.opens src 0x190070 w = true) :
    s.busWrite src 0x190070 w = ((s.touch src).plain 0x190070 w.toNat).syncIrq := by
  rw [State.busWrite_opens (by decide) ho]
  unfold State.regWrite
  extract_lets t
  have e : t = (s.touch src).writeSec (srcCode src) (srcPort src) 0x190070 w.toNat := by
    simp only [t, show 0x190070 / 65536 = 25 from by decide]
  rw [show 0x190070 / 65536 = 25 from by decide, if_pos (by decide), e]
  unfold State.writeSec
  (try dsimp only)
  repeat rw [if_neg (by decide)]

theorem State.evt_Tally {s : State} {src : Source} {w : Word} (ho : s.opens src 0x1A0050 w = true) :
    s.busWrite src 0x1A0050 w = ((s.touch src).plain 0x1A0050 w.toNat).syncIrq := by
  rw [State.busWrite_opens (by decide) ho]
  unfold State.regWrite
  extract_lets t
  have e : t = (s.touch src).writeTally 0x1A0050 w.toNat := by
    simp only [t, show 0x1A0050 / 65536 = 26 from by decide]
  rw [show 0x1A0050 / 65536 = 26 from by decide, if_pos (by decide), e]
  unfold State.writeTally
  (try dsimp only)
  repeat rw [if_neg (by decide)]

end Sys2Proof.Machine
end

