-- ==== Sys2Proof/Laws/DoesBerth.lean ====
section
/-! SUPPORT. What the commands of berths and the beam schedule do where they take effect. -/

namespace Sys2Proof.Machine

set_option linter.all false

variable {s : State}

theorem sched_write {src : Source} {v : Word} {op : Nat} {t : State} {w : Word} (ht : s.touch src = t)
    (hw : fix (fixBit v 31) 28 2 op = w) (hop : op < 4) (ho : s.opens src F.BERTH_SCHED_CMD_GO.addr w = true) :
    schedWrite src v op s = t.schedCmd op (bitsAt w.toNat 30 1) (bitsAt w.toNat 0 9) := by
  unfold schedWrite
  rw [hw, State.opens_Berth ho (by decide) (by decide) (by decide), ht]
  unfold State.writeBerth
  rw [if_pos (by decide), State.iff_of (by rw [← hw,
      bitAt_fix_other _ _ (by decide) (by decide)]; exact bitAt_fixBit v (by decide)),
    show bitsAt w.toNat 28 2 = op from by rw [← hw, bitsAt_fix _ _ (by decide)]; omega]

/-- An ADD that passes the checks of R231 on a device outside a formed ring takes its place in stamp order. -/
theorem does_schedAdd (hon : s.on = true) (src : Source) (v : Word) {dir b : Nat} {a : BitVec 64} {t : State} {w : Word}
    (ht : s.touch src = t) (hw : fix (fixBit v 31) 28 2 0 = w) (ho : s.opens src F.BERTH_SCHED_CMD_GO.addr w = true)
    (ha : t.get64 F.BERTH_SCHED_AT_LO_STAMP F.BERTH_SCHED_AT_HI_STAMP = a) (hd : bitsAt w.toNat 30 1 = dir)
    (hb : bitsAt w.toNat 0 9 = b) (hf : t.flag F.RING_STAT_FORMED = false) (h : t.schedCheck dir a b = 0) :
    exec (.schedAdd src v) s = .next (State.follow
      ((t.setSchedQ dir (placeSched ⟨a, b, none⟩ (t.schedQ dir))).put F.BERTH_SCHED_STAT_RESULT 0) s) := by
  rw [on_schedAdd hon, sched_write ht hw (by decide) ho, hd, hb]
  unfold State.schedCmd
  rw [if_neg (by unfold State.schedLocked; rw [hf]; simp)]
  have r : t.schedAdd dir a b = (0, t.setSchedQ dir (placeSched ⟨a, b, none⟩ (t.schedQ dir))) := by
    unfold State.schedAdd
    simp only [h]; rfl
  have f : State.flag ((t.setSchedQ dir (placeSched ⟨a, b, none⟩ (t.schedQ dir))).put F.BERTH_SCHED_STAT_RESULT 0) F.RING_STAT_FORMED
      = t.flag F.RING_STAT_FORMED := by
    have m := (Moves.p_put (v := 0) (f := F.BERTH_SCHED_STAT_RESULT) rfl (by decide) (by decide)
      (State.setSchedQ_moves t dir (placeSched ⟨a, b, none⟩ (t.schedQ dir)))).words F.RING_STAT_FORMED.addr (by decide) (by decide)
    unfold State.flag State.get
    rw [m]
  simp only [ha, r]
  rw [if_neg (by rw [f, hf]; simp)]

/-- The checks of R231 turn an ADD away: the result is shown, the refusal counted. -/
theorem refuses_schedAdd (hon : s.on = true) (src : Source) (v : Word) {dir b r : Nat} {a : BitVec 64} {t : State} {w : Word}
    (ht : s.touch src = t) (hw : fix (fixBit v 31) 28 2 0 = w) (ho : s.opens src F.BERTH_SCHED_CMD_GO.addr w = true)
    (ha : t.get64 F.BERTH_SCHED_AT_LO_STAMP F.BERTH_SCHED_AT_HI_STAMP = a) (hd : bitsAt w.toNat 30 1 = dir)
    (hb : bitsAt w.toNat 0 9 = b) (hf : t.flag F.RING_STAT_FORMED = false) (hr : t.schedCheck dir a b = r) (h : r ≠ 0) :
    exec (.schedAdd src v) s = .next (State.follow
      (((t.inc F.BERTH_REF_CNT_COUNT).raiseMs 0x0A01 0 0).put F.BERTH_SCHED_STAT_RESULT r) s) := by
  rw [on_schedAdd hon, sched_write ht hw (by decide) ho, hd, hb]
  unfold State.schedCmd
  rw [if_neg (by unfold State.schedLocked; rw [hf]; simp)]
  have e : t.schedAdd dir a b = (r, (t.inc F.BERTH_REF_CNT_COUNT).raiseMs 0x0A01 0 0) := by
    unfold State.schedAdd
    simp only [hr]
    rw [if_neg (show ¬r = schOK from h)]; unfold State.schedRefuse; rfl
  simp only [ha, e]
  rw [if_neg (by simp [schOK, h])]

/-- On a member of a formed ring SCHED_CMD is refused as STATE (R293). -/
theorem refuses_schedAdd_member (hon : s.on = true) (src : Source) (v : Word) {t : State} {w : Word}
    (ht : s.touch src = t) (hw : fix (fixBit v 31) 28 2 0 = w) (ho : s.opens src F.BERTH_SCHED_CMD_GO.addr w = true)
    (hf : t.flag F.RING_STAT_FORMED = true) (hc : t.boot.chipId ≠ 0) :
    exec (.schedAdd src v) s = .next (State.follow
      (((t.inc F.BERTH_REF_CNT_COUNT).raiseMs 0x0A01 0 0).put F.BERTH_SCHED_STAT_RESULT schSTATE) s) := by
  rw [on_schedAdd hon, sched_write ht hw (by decide) ho]
  unfold State.schedCmd
  rw [if_pos (by left; unfold State.schedLocked; simp [hf, hc])]
  unfold State.schedRefuse; rfl

/-- An entry that is not staged yet is taken out of the queue (R232). -/
theorem does_schedCancel (hon : s.on = true) (src : Source) (v : Word) {dir : Nat} {a : BitVec 64} {e : SchedEntry} {t u : State}
    {w : Word} (ht : s.touch src = t) (hw : fix (fixBit v 31) 28 2 1 = w) (ho : s.opens src F.BERTH_SCHED_CMD_GO.addr w = true)
    (ha : t.get64 F.BERTH_SCHED_AT_LO_STAMP F.BERTH_SCHED_AT_HI_STAMP = a) (hd : bitsAt w.toNat 30 1 = dir)
    (he : (t.schedQ dir).find? (fun e => e.at_ == a) = some e) (hs : e.copy = none)
    (hu : (t.setSchedQ dir ((t.schedQ dir).filter (fun x => x.at_ != a))).put F.BERTH_SCHED_STAT_RESULT 0 = u)
    (hf : t.flag F.RING_STAT_FORMED = false) (hg : u.flag F.RING_STAT_FORMED = false) :
    exec (.schedCancel src v) s = .next (State.follow u s) := by
  rw [on_schedCancel hon, sched_write ht hw (by decide) ho, hd]
  unfold State.schedCmd
  rw [if_neg (by unfold State.schedLocked; rw [hf]; simp)]
  have r : t.schedCancel dir a = (0, t.setSchedQ dir ((t.schedQ dir).filter (fun x => x.at_ != a))) := by
    unfold State.schedCancel
    simp only [he, hs, Option.isSome_none, Bool.false_eq_true, if_false]; rfl
  simp only [ha, r]
  rw [hu, if_neg (by rw [hg]; simp)]

/-- No entry at the instant: NOTFOUND; a staged one: LATE (R232). -/
theorem refuses_schedCancel (hon : s.on = true) (src : Source) (v : Word) {dir r : Nat} {a : BitVec 64} {t : State} {w : Word}
    (ht : s.touch src = t) (hw : fix (fixBit v 31) 28 2 1 = w) (ho : s.opens src F.BERTH_SCHED_CMD_GO.addr w = true)
    (ha : t.get64 F.BERTH_SCHED_AT_LO_STAMP F.BERTH_SCHED_AT_HI_STAMP = a) (hd : bitsAt w.toNat 30 1 = dir)
    (h : (t.schedQ dir).find? (fun e => e.at_ == a) = none ∧ r = 5 ∨
      ∃ e, (t.schedQ dir).find? (fun e => e.at_ == a) = some e ∧ e.copy.isSome = true ∧ r = 1)
    (hf : t.flag F.RING_STAT_FORMED = false) :
    exec (.schedCancel src v) s = .next (State.follow (t.put F.BERTH_SCHED_STAT_RESULT r) s) := by
  rw [on_schedCancel hon, sched_write ht hw (by decide) ho, hd]
  unfold State.schedCmd
  rw [if_neg (by unfold State.schedLocked; rw [hf]; simp)]
  have e : t.schedCancel dir a = (r, t) ∧ r ≠ 0 := by
    unfold State.schedCancel
    rcases h with ⟨h1, h2⟩ | ⟨e, h1, h2, h3⟩
    · simp only [h1]; subst h2; exact ⟨rfl, by decide⟩
    · simp only [h1, h2, if_true]; subst h3; exact ⟨rfl, by decide⟩
  simp only [ha, e.1]
  rw [if_neg (by simp [schOK, e.2])]

/-- Every entry that is not staged goes (R232). -/
theorem does_schedFlush (hon : s.on = true) (src : Source) (v : Word) {dir : Nat} {t u : State} {w : Word}
    (ht : s.touch src = t) (hw : fix (fixBit v 31) 28 2 2 = w) (ho : s.opens src F.BERTH_SCHED_CMD_GO.addr w = true)
    (hd : bitsAt w.toNat 30 1 = dir)
    (hu : (t.setSchedQ dir ((t.schedQ dir).filter (fun e => e.copy.isSome))).put F.BERTH_SCHED_STAT_RESULT 0 = u)
    (hf : t.flag F.RING_STAT_FORMED = false) (hg : u.flag F.RING_STAT_FORMED = false) :
    exec (.schedFlush src v) s = .next (State.follow u s) := by
  rw [on_schedFlush hon, sched_write ht hw (by decide) ho, hd]
  unfold State.schedCmd
  rw [if_neg (by unfold State.schedLocked; rw [hf]; simp)]
  have r : t.schedFlush dir = t.setSchedQ dir ((t.schedQ dir).filter (fun e => e.copy.isSome)) := rfl
  simp only [r, show schOK = 0 from rfl, hu]
  rw [if_neg (by rw [hg]; simp)]

/-- OP 3 is refused as STATE (R231). -/
theorem does_schedOpReserved (hon : s.on = true) (src : Source) (v : Word) {t : State} {w : Word}
    (ht : s.touch src = t) (hw : fix (fixBit v 31) 28 2 3 = w) (ho : s.opens src F.BERTH_SCHED_CMD_GO.addr w = true) :
    exec (.schedOpReserved src v) s = .next (State.follow
      (((t.inc F.BERTH_REF_CNT_COUNT).raiseMs 0x0A01 0 0).put F.BERTH_SCHED_STAT_RESULT schSTATE) s) := by
  rw [on_schedOpReserved hon, sched_write ht hw (by decide) ho]
  unfold State.schedCmd
  rw [if_pos (Or.inr rfl)]
  unfold State.schedRefuse; rfl

theorem does_berthStage (hon : s.on = true) (dir : Fin 2) {e : SchedEntry} {t : State}
    (he : (s.schedQ dir.val).find? (fun e => e.copy.isNone) = some e) (ht : s.reach (stampSub e.at_ (usU 12)) = t) :
    exec (.berthStage dir) s = .next (State.follow (t.setSchedQ dir.val ((s.schedQ dir.val).map
      (fun x => if x.at_ = e.at_ then { x with copy := some (t.berthCopy dir.val e.num) } else x))) s) := by
  rw [on_berthStage hon]
  unfold State.stage
  simp only [he, ht]

/-- A staged entry takes effect: mask, sums, berth, predistorter banks, core swaps and clearance (R234, R235). -/
theorem does_berthSwitch (hon : s.on = true) (dir : Fin 2) {e : SchedEntry} {l : List SchedEntry} {c : Cached} {t u v : State}
    (hq : s.schedQ dir.val = e :: l) (hc : e.copy = some c) (ht : s.reach e.at_ = t)
    (hu : ((t.setSchedQ dir.val l).sumsTake.maskTake dir.val).forceFrom dir.val (t.absOf e.at_) c = u)
    (hv : (if dir.val = 0 then u.swapRequests u.pathMask c.cls (gridFrom (t.absOf e.at_)) else u).quaySwitched dir.val
      (s.absOf e.at_) = v) :
    exec (.berthSwitch dir) s = .next (State.follow (if dir.val = 0 then v.lbtSwitch (s.absOf e.at_) else v) s) := by
  rw [on_berthSwitch hon]
  have r : s.berthSwitch dir.val = if dir.val = 0 then u.swapRequests u.pathMask c.cls (gridFrom (t.absOf e.at_)) else u := by
    unfold State.berthSwitch
    simp only [hq, hc, ht, hu]
  simp only [hq, r, hv]

theorem berthDesc_addr (dir b w : Nat) (hw : 2048 ≤ w) : 0xA2000 ≤ berthWordAddr dir b w ∧
    berthWordAddr dir b w < 0xB0000 ∧ berthWordAddr dir b w % 4 = 0 := by
  unfold berthWordAddr fMASKLO fMASKHI fCLASS
  rw [if_neg (by omega)]
  simp only [F.BERTH_TX_DESC_CLASS, F.BERTH_RX_DESC_CLASS, F.BERTH_TX_MASK_LO_MASK, F.BERTH_RX_MASK_LO_MASK,
      F.BERTH_TX_MASK_HI_MASK,
    F.BERTH_RX_MASK_HI_MASK]
  by_cases c1 : w = 2048
  · rw [if_pos c1]; split <;> (dsimp only; omega)
  · rw [if_neg c1]
    by_cases c2 : w = 2049
    · rw [if_pos c2]; split <;> (dsimp only; omega)
    · rw [if_neg c2]; split <;> (dsimp only; omega)

/-- A weight is written (R235). -/
theorem does_berthWindowWrite (hon : s.on = true) (src : Source) (dir : Fin 2) (b : Fin 512) (w : Fin 2051) (v : Word) {t : State}
    (ht : s.touch src = t) (h : w.val < 2048) (hp : t.hasPath (w.val / 32) = true) (hl : t.srcLevel src true ≠ 0) :
    exec (.berthWindowWrite src dir b w v) s = .next (State.follow
      (t.setMemWord (berthAddr dir.val b.val (w.val / 32) (w.val % 32)) v.toNat) s) := by
  have b1 := dir.isLt
  have b2 := b.isLt
  rw [on_berthWindowWrite hon]
  unfold berthWordAddr
  rw [if_pos h]
  have e : berthAddr dir.val b.val (w.val / 32) (w.val % 32) = 0x2000000 + 0x400000 * dir.val + 0x2000 * b.val + 0x80 * (w.val / 32)
    + 4 * (w.val % 32) := rfl
  generalize berthAddr dir.val b.val (w.val / 32) (w.val % 32) = a at e ⊢
  have q1 : a % 0x2000 / 0x80 = w.val / 32 := by omega
  have hw : t.window a = 3 := by
    unfold State.window
    rw [if_neg (by omega), if_neg (by omega), if_pos (by omega), q1, if_pos hp]
  have q3 : a / 4 * 4 = a := by omega
  have hv : t.windowLive 3 a = true := by unfold State.windowLive; rfl
  unfold State.busWrite
  simp only [ht, q3, hw, hv, if_neg hl, if_true]
  rw [if_pos (by decide)]
  unfold State.windowWrite
  simp only
  unfold State.berthWindowWrite
  rfl

/-- A word of a descriptor is written; the panel sums follow (R235, R293). -/
theorem does_berthWindowWrite_descriptor (hon : s.on = true) (src : Source) (dir : Fin 2) (b : Fin 512) (w : Fin 2051) (v : Word)
    {a : Nat} {t : State} (ht : s.touch src = t) (h : 2048 ≤ w.val) (ha : berthWordAddr dir.val b.val w.val = a)
    (ho : s.opens src a v = true) :
    exec (.berthWindowWrite src dir b w v) s = .next (State.follow (t.plain a v.toNat).sendSums s) := by
  have x := berthDesc_addr dir.val b.val w.val h
  have y1 : F.BERTH_SCHED_CMD_GO.addr < 0xA1000 := by decide
  have y2 : F.BERTH_CNT_CLR_SAT.addr < 0xA1000 := by decide
  have y3 : F.BERTH_CAL_REQ_GO.addr < 0xA1000 := by decide
  rw [on_berthWindowWrite hon]
  rw [ha] at x ⊢
  have z : 0xA4000 ≤ a := by
    rw [← ha]
    unfold berthWordAddr fMASKLO fMASKHI fCLASS
    rw [if_neg (by omega)]
    simp only [F.BERTH_TX_DESC_CLASS, F.BERTH_RX_DESC_CLASS, F.BERTH_TX_MASK_LO_MASK, F.BERTH_RX_MASK_LO_MASK,
      F.BERTH_TX_MASK_HI_MASK, F.BERTH_RX_MASK_HI_MASK]
    split <;> split <;> (try split) <;> (dsimp only; omega)
  rw [State.opens_Berth ho (by omega) (by omega) (by simp only [evtAddr]; omega), ht]
  unfold State.writeBerth
  rw [if_neg (by omega), if_neg (by omega), if_neg (by omega), if_neg (by omega), if_pos z]

/-- A changed mask applies at its boundary, without a switch (R228). -/
theorem does_maskApply (hon : s.on = true) (dir : Fin 2) {a : Nat} (h : s.maskAt dir.val = some a) :
    exec (.maskApply dir) s = .next (State.follow (((s.reachAbs a).maskTake dir.val).reforce dir.val a) s) := by
  rw [on_maskApply hon, h, if_pos (show (some a).isSome = true from rfl)]
  unfold State.maskApply
  simp only [h]

/-- No mask waits: panel sums that are due are applied (R293). -/
theorem does_maskApply_sums (hon : s.on = true) (dir : Fin 2) (h : s.maskAt dir.val = none) :
    exec (.maskApply dir) s = .next (State.follow s.sumsDue s) := by
  rw [on_maskApply hon, h, if_neg (by simp)]

theorem align_addr (dir : Fin 2) (p : Fin 64) (pcal : Bool) :
    (if pcal then fPCALRE dir.val p.val else fALIGN dir.val p.val).addr = 0xA1000 + 0x10 * p.val + 4 * dir.val + (if pcal then 8 else 0) := by
  have h := p.isLt
  have d : dir.val = 0 ∨ dir.val = 1 := by omega
  unfold fPCALRE fALIGN
  rcases d with d | d <;> rw [d] <;> cases pcal <;>
    simp [F.BERTH_P_PCAL_TX_RE, F.BERTH_P_PCAL_RX_RE, F.BERTH_P_ALIGN_TX_ALIGN, F.BERTH_P_ALIGN_RX_ALIGN] <;> omega

/-- The value is written and applies from the first block at least 2 µs later (R226). -/
theorem does_alignWrite (hon : s.on = true) (src : Source) (p : Fin 64) (dir : Fin 2) (pcal : Bool) (v : Word) {a : Nat} {t : State}
    (ht : s.touch src = t) (ha : (if pcal then fPCALRE dir.val p.val else fALIGN dir.val p.val).addr = a)
    (ho : s.opens src a v = true) :
    exec (.alignWrite src p dir pcal v) s = .next (State.follow ((t.plain a v.toNat).alignWritten p.val dir.val) s) := by
  have x := align_addr dir p pcal
  have h := p.isLt
  have d := dir.isLt
  rw [ha] at x
  have y1 : F.BERTH_SCHED_CMD_GO.addr < 0xA1000 := by decide
  have y2 : F.BERTH_CNT_CLR_SAT.addr < 0xA1000 := by decide
  have y3 : F.BERTH_CAL_REQ_GO.addr < 0xA1000 := by decide
  have z : 0xA1000 ≤ a ∧ a < 0xA1400 ∧ a % 4 = 0 ∧ (a - 0xA1000) / 0x10 = p.val ∧ a % 8 / 4 = dir.val := by
    split at x <;> (refine ⟨?_, ?_, ?_, ?_, ?_⟩ <;> omega)
  rw [on_alignWrite hon, ha, State.opens_Berth ho (by omega) (by omega) (by simp only [evtAddr]; omega), ht]
  unfold State.writeBerth
  rw [if_neg (by omega), if_neg (by omega), if_neg (by omega), if_pos ⟨z.1, z.2.1⟩, z.2.2.2.1, z.2.2.2.2]

/-- New values take effect; a change of ALIGN of at most 64 units leaves the block valid (R226). -/
theorem does_alignApply (hon : s.on = true) (p : Fin 64) (dir : Fin 2) {a : Nat} {t : State} {new : Aligned}
    (h : sparseFind s.berth.alignAt (2 * p.val + dir.val) = some a) (ht : s.reachAbs a = t) (hn : t.alignAsked p.val dir.val = new)
    (h2 : (new.align - (t.alignedOf p.val dir.val).align).natAbs ≤ 64) :
    exec (.alignApply p dir) s = .next (State.follow { t with berth := { t.berth with
      aligned := sparsePut (fun _ => ({} : Aligned)) t.berth.aligned (2 * p.val + dir.val) new
      alignAt := sparseErase t.berth.alignAt (2 * p.val + dir.val) } } s) := by
  rw [on_alignApply hon]
  unfold State.alignApply
  simp only [h, ht, hn]
  rw [if_neg (by omega)]

theorem bcal_write {src : Source} {v : Word} {t : State} {w : Word} (ht : s.touch src = t) (hw : fixBit v 31 = w)
    (ho : s.opens src F.BERTH_CAL_REQ_GO.addr w = true) :
    s.busWrite src F.BERTH_CAL_REQ_GO.addr w = t.bcalReq (bitsAt w.toNat 0 2) := by
  rw [State.opens_Berth ho (by decide) (by decide) (by decide), ht]
  unfold State.writeBerth
  rw [if_neg (by decide), if_neg (by decide), if_pos (by decide), State.iff_of (by rw [← hw]; exact bitAt_fixBit v (by decide))]

theorem does_bcalReq (hon : s.on = true) (src : Source) (v : Word) {t : State} {w : Word} (ht : s.touch src = t)
    (hw : fixBit v 31 = w) (ho : s.opens src F.BERTH_CAL_REQ_GO.addr w = true) (h1 : bitsAt w.toNat 0 2 ≠ 0)
    (h2 : t.flag F.BERTH_CTL_CALIO_EN = true) (h3 : t.boot.store.applied = true) (h4 : t.boot.store.manifold ≠ [])
    (h5 : t.rx.cal = none) (h6 : t.tx.cal = none) (h7 : t.berth.cal = none) :
    exec (.bcalReq src v) s = .next (State.follow
      (State.putb { t with berth := { t.berth with cal := some (bitsAt w.toNat 0 2, t.aon + sU 1, none) } } F.BERTH_CAL_STAT_WAIT true)
      s) := by
  rw [on_bcalReq hon, hw, bcal_write ht hw ho]
  unfold State.bcalReq
  rw [if_neg (by simp [h1, h2, h3, h4, h5, h6, h7])]

/-- No kind, no CALIO, no manifold, or a calibration that stands: refused (R237). -/
theorem refuses_bcalReq (hon : s.on = true) (src : Source) (v : Word) {t : State} {w : Word} (ht : s.touch src = t)
    (hw : fixBit v 31 = w) (ho : s.opens src F.BERTH_CAL_REQ_GO.addr w = true) (h : bitsAt w.toNat 0 2 = 0 ∨
      t.flag F.BERTH_CTL_CALIO_EN = false ∨ t.boot.store.manifold = [] ∨ t.rx.cal ≠ none ∨ t.tx.cal ≠ none ∨ t.berth.cal ≠ none) :
    exec (.bcalReq src v) s = .next (State.follow (t.raise 0x0A07 0) s) := by
  rw [on_bcalReq hon, hw, bcal_write ht hw ho]
  unfold State.bcalReq
  rw [if_pos (by rcases h with h | h | h | h | h | h <;> simp [h])]; unfold State.bcalRefuse; rfl

theorem does_bcalStart (hon : s.on = true) {kind w e : Nat} {u : State} (h : s.berth.cal = some (kind, w, none))
    (h1 : s.gapCovers s.quadMask (bcalSpan kind) = true) (he : s.tide.now + bcalSpan kind = e)
    (hu : (State.putb { s with berth := { s.berth with cal := some (kind, w, some e) } } F.BERTH_CAL_STAT_WAIT false).putb
      F.BERTH_CAL_STAT_BUSY true = u) :
    exec .bcalStart s = .next (State.follow ((u.addMute ⟨3, u.tide.now, some e, none⟩).addSpan ⟨u.tide.now, some e, none⟩) s) := by
  rw [on_bcalStart hon]
  unfold State.bcalStart
  simp only [h, h1, if_true, he, hu]

theorem does_bcalTimeout (hon : s.on = true) {kind w : Nat} {t : State} (h : s.berth.cal = some (kind, w, none))
    (ht : s.elapseTo w = t) :
    exec .bcalTimeout s = .next (State.follow
      ((State.putb { t with berth := { t.berth with cal := none } } F.BERTH_CAL_STAT_WAIT false).raise 0x0A07 0) s) := by
  rw [on_bcalTimeout hon]
  unfold State.bcalTimeout
  simp only [h, ht]
  unfold State.bcalRefuse; rfl

/-- The present paths that are not retired and did not fail take the measured values (R237). -/
theorem does_bcalDone (hon : s.on = true) (fail : BitVec 64) {kind w e n bad : Nat} {t u v x : State} {live : Nat → List Nat}
    (h : s.berth.cal = some (kind, w, some e)) (ht : s.reachAbs e = t) (hn : t.draw = (n, u))
    (hl : (fun dir => u.paths.filter (fun p => if dir = 0 then !u.txRetired p else !u.rxRetired p)) = live)
    (hv : u.each (bitList 2 kind) (fun x dir => x.each ((live dir).filter (fun p => !bitAt (mask fail) p))
      (fun y p => y.bcalStore n dir p)) = v)
    (hb : maskOf (((bitList 2 kind).flatMap live).filter (fun p => bitAt (mask fail) p)) = bad)
    (hx : ((State.putb { v with berth := { v.berth with cal := none } } F.BERTH_CAL_STAT_BUSY false).put F.BERTH_CAL_STAT_FAIL
      (failBits 0 255 bad)).raise 0x0A06 0 = x) :
    exec (.bcalDone fail) s = .next (State.follow (if bad = 0 then x else x.raise 0x0A08 0) s) := by
  rw [on_bcalDone hon]
  unfold State.bcalDone
  simp only [h, ht, hn]
  subst hl
  simp only [hv, hb, hx]

theorem berthClr_write {src : Source} {t : State} {w : Word} (ht : s.touch src = t)
    (ho : s.opens src F.BERTH_CNT_CLR_SAT.addr w = true) :
    s.busWrite src F.BERTH_CNT_CLR_SAT.addr w = (t.iff (bitAt w.toNat 1) (fun t => t.put F.BERTH_SAT_CNT_COUNT 0)).iff
      (bitAt w.toNat 0) (fun t => t.put F.BERTH_REF_CNT_COUNT 0) := by
  rw [State.opens_Berth ho (by decide) (by decide) (by decide), ht]
  unfold State.writeBerth
  rw [if_neg (by decide), if_pos (by decide)]

theorem does_berthCntClrSat (hon : s.on = true) (src : Source) (v : Word) {t : State} {w : Word} (ht : s.touch src = t)
    (hw : fixBit v 1 = w) (ho : s.opens src F.BERTH_CNT_CLR_SAT.addr w = true) (h : bitAt w.toNat 0 = false) :
    exec (.berthCntClrSat src v) s = .next (State.follow (t.put F.BERTH_SAT_CNT_COUNT 0) s) := by
  rw [on_berthCntClrSat hon, show fixBit v F.BERTH_CNT_CLR_SAT.lo = w from hw, berthClr_write ht ho, State.iff_not h,
    State.iff_of (by rw [← hw, bitAt_fixBit v (by decide)])]

theorem does_berthCntClrRef (hon : s.on = true) (src : Source) (v : Word) {t : State} {w : Word} (ht : s.touch src = t)
    (hw : fixBit v 0 = w) (ho : s.opens src F.BERTH_CNT_CLR_SAT.addr w = true) (h : bitAt w.toNat 1 = false) :
    exec (.berthCntClrRef src v) s = .next (State.follow (t.put F.BERTH_REF_CNT_COUNT 0) s) := by
  rw [on_berthCntClrRef hon, show fixBit v F.BERTH_CNT_CLR_REF.lo = w from hw, berthClr_write ht ho, State.iff_not h,
    State.iff_of (by rw [← hw, bitAt_fixBit v (by decide)])]

end Sys2Proof.Machine
end

