-- ==== Sys2Proof/Laws/MovesFrames.lean ====
section
/-! SUPPORT. What each operation of Machine/Frames.lean may change. -/

namespace Sys2Proof.Machine

set_option linter.all false

theorem State.linkAct_moves {M : Nat} {s0 s : State} {f : State → State}
    (hm : 0xfffffffdffffffb ||| M = M) (hf : ∀ t, Moves M s0 t → Moves M s0 (f t)) (h : Moves M s0 s) : Moves M s0 (s.linkAct f) := by
  unfold State.linkAct
  extract_lets t
  have ht : Moves M s0 t := hf s h
  split
  · exact ht
  · exact Moves.step (State.bootAdvance_moves ..) (sub_trans (by decide) hm)
      (Moves.step (State.linksChanged_moves ..) (sub_trans (by decide) hm) ht)

theorem State.memberAdd_moves (s : State) (dir : Nat) (at_ : Stamp) (n : Nat) : Moves 0x880048000840 s (State.memberAdd s dir at_ n) := by
  unfold State.memberAdd
  repeat' first
    | with_reducible assumption
    | with_reducible exact Moves.refl _ _
    | decide
    | intro _
    | with_reducible apply Moves.ite
    | extract_lets
    | with_reducible apply Moves.step (State.setSchedQ_moves ..)
    | with_reducible apply Moves.step (State.stage_moves ..)
    | split
    | dsimp +zetaDelta only

theorem State.rtcMember_moves (s : State) (cmd flags : Nat) (body : List Byte) : Moves 0x800a9eac80029ea s (State.rtcMember s cmd flags body) := by
  unfold State.rtcMember
  repeat' first
    | with_reducible assumption
    | with_reducible exact Moves.refl _ _
    | decide
    | with_reducible apply Moves.ite
    | extract_lets
    | with_reducible apply Moves.step (State.memberAdd_moves ..)
    | with_reducible apply Moves.step (State.schedCancel_moves ..)
    | with_reducible apply Moves.step (State.schedFlush_moves ..)
    | with_reducible apply Moves.step (State.setGaps_moves ..)
    | with_reducible apply Moves.step (State.gapRevoke_moves ..)
    | with_reducible apply Moves.step (State.rxNcoGo_moves ..)
    | with_reducible apply Moves.step (State.txNcoGo_moves ..)
    | with_reducible apply Moves.step (State.synCommand_moves ..)
    | split
    | (with_reducible refine Moves.snd (by assumption) ?_)
    | (with_reducible refine Moves.fst (by assumption) ?_)
    | (with_reducible refine Moves.trd (by assumption) ?_)
    | dsimp +zetaDelta only

theorem State.rtcFrom_moves (s : State) (via cmd flags seq : Nat) (body : List Byte) : Moves 0xc00a9eacc0029ea s (State.rtcFrom s via cmd flags seq body) := by
  unfold State.rtcFrom
  repeat' first
    | with_reducible assumption
    | with_reducible exact Moves.refl _ _
    | decide
    | with_reducible apply Moves.ite
    | with_reducible apply Moves.step (State.rtcMember_moves ..)
    | with_reducible apply Moves.step (State.rtcAdd_moves ..)
    | with_reducible apply Moves.step (State.rtcCancel_moves ..)
    | with_reducible apply Moves.step (State.rtcFlush_moves ..)
    | with_reducible apply Moves.step (State.rtcGrant_moves ..)
    | with_reducible apply Moves.step (State.rtcRevoke_moves ..)
    | with_reducible apply Moves.step (State.rtcNco_moves ..)
    | with_reducible apply Moves.step (State.rtcSyn_moves ..)
    | with_reducible apply Moves.step (State.rtcUnknown_moves ..)
    | split
    | (with_reducible refine Moves.snd (by assumption) ?_)
    | (with_reducible refine Moves.fst (by assumption) ?_)
    | (with_reducible refine Moves.trd (by assumption) ?_)

theorem State.rmaLoad_moves (s : State) (src : Source) (a k : Nat) : Moves 0x6bb52800a800000 s (State.rmaLoad s src a k).2 := by
  induction k generalizing s a with
  | zero =>
    unfold State.rmaLoad
    repeat' first
      | with_reducible assumption
      | with_reducible exact Moves.refl _ _
      | decide
      | extract_lets
      | with_reducible apply Moves.step (State.busRead_moves ..)
      | dsimp +zetaDelta only
  | succ _ ih =>
    unfold State.rmaLoad
    repeat' first
      | with_reducible assumption
      | with_reducible exact Moves.refl _ _
      | decide
      | with_reducible apply Moves.step (ih ..)
      | extract_lets
      | with_reducible apply Moves.step (State.busRead_moves ..)
      | dsimp +zetaDelta only

theorem State.rmaStore_moves (src : Source) : ∀ (l : List Byte) (s : State) (a : Nat), Moves 0xfffffffdffffffb s (State.rmaStore s src a l)
  | _ :: _ :: _ :: _ :: l, s, a => by
    unfold State.rmaStore
    exact Moves.step (State.rmaStore_moves src l _ _) (by decide) (Moves.step (State.busWrite_moves ..) (by decide) (Moves.refl _ s))
  | [], s, _ => Moves.refl _ s
  | [_], s, _ => Moves.refl _ s
  | [_, _], s, _ => Moves.refl _ s
  | [_, _, _], s, _ => Moves.refl _ s

theorem State.rmaAnswer_moves (s : State) (via id op rr elem addr len : Nat) (data : List Byte) : Moves 0x80000000 s (State.rmaAnswer s via id op rr elem addr len data) := by
  unfold State.rmaAnswer
  repeat' first
    | with_reducible assumption
    | with_reducible exact Moves.refl _ _
    | decide
    | with_reducible apply Moves.ite
    | extract_lets
    | with_reducible apply Moves.step (State.emit_moves ..)
    | split
    | dsimp +zetaDelta only

theorem State.rma_moves (s : State) (via op id elem addr len : Nat) (data : List Byte) : Moves 0xfffffffdffffffb s (State.rma s via op id elem addr len data) := by
  unfold State.rma
  repeat' first
    | with_reducible assumption
    | with_reducible exact Moves.refl _ _
    | decide
    | with_reducible apply Moves.ite
    | extract_lets
    | with_reducible apply Moves.step (State.emit_moves ..)
    | with_reducible apply Moves.step (State.rmaAnswer_moves ..)
    | with_reducible apply Moves.step (State.rmaLoad_moves ..)
    | with_reducible apply Moves.step (State.rmaStore_moves ..)
    | split
    | (with_reducible refine Moves.snd (by assumption) ?_)
    | (with_reducible refine Moves.fst (by assumption) ?_)
    | (with_reducible refine Moves.trd (by assumption) ?_)
    | dsimp +zetaDelta only

theorem State.rmaMessage_moves (s : State) (via : Nat) (m : List Byte) : Moves 0xfffffffdffffffb s (State.rmaMessage s via m) := by
  unfold State.rmaMessage
  repeat' first
    | with_reducible assumption
    | with_reducible exact Moves.refl _ _
    | decide
    | with_reducible apply Moves.ite
    | extract_lets
    | with_reducible apply Moves.step (State.rma_moves ..)
    | with_reducible apply Moves.step (State.remoteAnswer_moves ..)
    | split
    | dsimp +zetaDelta only

theorem State.resetRequest_moves (s : State) (b id op p0 : Nat) : Moves 0xffffffe9ffffffb s (State.resetRequest s b id op p0) := by
  unfold State.resetRequest
  repeat' first
    | with_reducible assumption
    | with_reducible exact Moves.refl _ _
    | decide
    | with_reducible apply Moves.ite
    | with_reducible apply Moves.step (State.emit_moves ..)
    | with_reducible apply Moves.step (State.resetSoon_moves ..)
    | split

theorem State.frameError_moves (s : State) (l c : Nat) (wait : Bool) : Moves 0x80020028c003022 s (State.frameError s l c wait) := by
  unfold State.frameError
  repeat' first
    | with_reducible assumption
    | with_reducible exact Moves.refl _ _
    | decide
    | ((with_reducible refine Moves.p_inc (n := 12) ?_ ?_ ?_ ?_); (first | rfl | assumption | (dsimp only [F.FHM_B_ERR_COUNT]; omega)); decide; decide)
    | ((with_reducible refine Moves.p_raiseMs (n := 12) ?_ ?_ ?_ ?_); (first | rfl | (split <;> rfl)); decide; decide)
    | with_reducible apply Moves.ite
    | extract_lets
    | with_reducible apply Moves.step (State.setPort_moves ..)
    | split
    | dsimp +zetaDelta only

theorem State.frameTake_moves (s : State) (l ch ty : Nat) (p : List Byte) : Moves 0xfffffffdffffffb s (State.frameTake s l ch ty p) := by
  unfold State.frameTake
  repeat' first
    | with_reducible assumption
    | with_reducible exact Moves.refl _ _
    | decide
    | with_reducible apply Moves.ite
    | extract_lets
    | with_reducible apply Moves.step (State.txSection_moves ..)
    | with_reducible apply Moves.step (State.psumRx_moves ..)
    | with_reducible apply Moves.step (State.layerForward_moves ..)
    | with_reducible apply Moves.step (State.rtcFrom_moves ..)
    | with_reducible apply Moves.step (State.rmaMessage_moves ..)
    | with_reducible apply Moves.step (State.type5Rx_moves ..)
    | with_reducible apply Moves.step (State.frameError_moves ..)
    | with_reducible apply Moves.step (State.resetRequest_moves ..)
    | split
    | (with_reducible refine Moves.snd (by assumption) ?_)
    | (with_reducible refine Moves.fst (by assumption) ?_)
    | (with_reducible refine Moves.trd (by assumption) ?_)
    | dsimp +zetaDelta only

theorem State.linkFrame_moves (s0 : State) (l : Nat) (f : List Byte) (bad idle : Bool) (fill other : Nat) : Moves 0xfffffffdffffffb s0 (State.linkFrame s0 l f bad idle fill other) := by
  unfold State.linkFrame
  repeat' first
    | with_reducible assumption
    | with_reducible exact Moves.refl _ _
    | decide
    | with_reducible apply Moves.ite
    | extract_lets
    | with_reducible apply Moves.step (State.meter_moves ..)
    | with_reducible apply Moves.step (State.slip_moves ..)
    | with_reducible apply Moves.step (State.setPort_moves ..)
    | with_reducible apply Moves.step (State.frameError_moves ..)
    | with_reducible apply Moves.step (State.frameTake_moves ..)
    | split
    | (with_reducible refine Moves.snd (by assumption) ?_)
    | (with_reducible refine Moves.fst (by assumption) ?_)
    | (with_reducible refine Moves.trd (by assumption) ?_)
    | dsimp +zetaDelta only

end Sys2Proof.Machine
end

