-- ==== Sys2Proof/Laws/ExecClockCmds.lean ====
section
/-! SUPPORT. What each command of Machine/ClockCmds.lean may change. -/

namespace Sys2Proof.Machine

set_option linter.all false

theorem execRefclkEdgeLoss_moves (s : State) (t : State) (h : execRefclkEdgeLoss s = .next t) :
    Moves 0xfffffffdffffffb s t := by
  unfold execRefclkEdgeLoss at h
  refine acting_moves (by decide) (fun _ => ?_) h
  repeat' first
    | with_reducible assumption
    | with_reducible exact Moves.refl _ _
    | decide
    | intro _
    | with_reducible apply State.linkAct_moves
    | with_reducible apply Moves.step (State.refEdgeLoss_moves ..)

theorem execFreqMonitorWindow_moves (dev : Option Int) (phi : Int) (s : State) (t : State) (h : execFreqMonitorWindow dev phi s = .next t) :
    Moves 0xfffffffdffffffb s t := by
  unfold execFreqMonitorWindow at h
  refine acting_moves (by decide) (fun _ => ?_) h
  repeat' first
    | with_reducible assumption
    | with_reducible exact Moves.refl _ _
    | decide
    | intro _
    | with_reducible apply State.linkAct_moves
    | with_reducible apply Moves.step (State.freqWindow_moves ..)

theorem execHoldoverExpired_moves (s : State) (t : State) (h : execHoldoverExpired s = .next t) :
    Moves 0xfffffffdffffffb s t := by
  unfold execHoldoverExpired at h
  refine acting_moves (by decide) (fun _ => ?_) h
  repeat' first
    | with_reducible assumption
    | with_reducible exact Moves.refl _ _
    | decide
    | intro _
    | with_reducible apply State.linkAct_moves
    | with_reducible apply Moves.step (State.holdoverExpired_moves ..)

theorem execCpllUnlock_moves (s : State) (t : State) (h : execCpllUnlock s = .next t) :
    Moves 0xfffffffdffffffb s t := by
  unfold execCpllUnlock at h
  refine acting_moves (by decide) (fun _ => ?_) h
  repeat' first
    | with_reducible assumption
    | with_reducible exact Moves.refl _ _
    | decide
    | intro _
    | with_reducible apply State.linkAct_moves
    | with_reducible apply Moves.step (State.cpllUnlock_moves ..)

theorem execCpllLockRetry_moves (s : State) (t : State) (h : execCpllLockRetry s = .next t) :
    Moves 0x805202a8d02a0aa s t := by
  unfold execCpllLockRetry at h
  refine acting_moves (by decide) (fun _ => ?_) h
  repeat' first
    | with_reducible assumption
    | with_reducible exact Moves.refl _ _
    | decide
    | with_reducible apply Moves.step (State.cpllRetry_moves ..)

theorem execCpllRelock_moves (s : State) (t : State) (h : execCpllRelock s = .next t) :
    Moves 0x807a0eacd03a1ea s t := by
  unfold execCpllRelock at h
  refine acting_moves (by decide) (fun _ => ?_) h
  repeat' first
    | with_reducible assumption
    | with_reducible exact Moves.refl _ _
    | decide
    | with_reducible apply Moves.step (State.cpllRelock_moves ..)

theorem execSynGo_moves (src : Source) (n : Fin 2) (v : Word) (s : State) (t : State) (h : execSynGo src n v s = .next t) :
    Moves 0xffffffedffffffb s t := by
  unfold execSynGo at h
  refine acting_moves (by decide) (fun _ => ?_) h
  repeat' first
    | with_reducible assumption
    | with_reducible exact Moves.refl _ _
    | decide
    | with_reducible apply Moves.step (State.busWrite_Clk _ _ _ (by first | decide | (simp only [F.CLK_SYN_CTL_GO]; omega) | (simp only [F.CLK_SYN_CTL_GO]; split <;> decide) | (simp only [F.CLK_SYN_CTL_GO]; (repeat' split) <;> omega)))

theorem execSynRetuneStart_moves (n : Fin 2) (s : State) (t : State) (h : execSynRetuneStart n s = .next t) :
    Moves 0x805a0aacd02a1ea s t := by
  unfold execSynRetuneStart at h
  refine acting_moves (by decide) (fun _ => ?_) h
  repeat' first
    | with_reducible assumption
    | with_reducible exact Moves.refl _ _
    | decide
    | with_reducible apply Moves.ite
    | with_reducible apply Moves.step (State.synFire_moves ..)
    | with_reducible apply Moves.step (State.bwFix_moves ..)
    | split
    | (with_reducible refine Moves.snd (by assumption) ?_)
    | (with_reducible refine Moves.fst (by assumption) ?_)

theorem execSettleWindowEnd_moves (n : Fin 2) (s : State) (t : State) (h : execSettleWindowEnd n s = .next t) :
    Moves 0x905a0aacd42a1ea s t := by
  unfold execSettleWindowEnd at h
  refine acting_moves (by decide) (fun _ => ?_) h
  repeat' first
    | with_reducible assumption
    | with_reducible exact Moves.refl _ _
    | decide
    | with_reducible apply Moves.step (State.settleDone_moves ..)
    | with_reducible apply Moves.step (State.syncReport_moves ..)

theorem execSynLock_moves (n : Fin 2) (s : State) (t : State) (h : execSynLock n s = .next t) :
    Moves 0xfffffffdffffffb s t := by
  unfold execSynLock at h
  refine acting_moves (by decide) (fun _ => ?_) h
  repeat' first
    | with_reducible assumption
    | with_reducible exact Moves.refl _ _
    | decide
    | with_reducible apply Moves.step (State.synLock_moves ..)
    | with_reducible apply Moves.step (State.syncReport_moves ..)
    | with_reducible apply Moves.step (State.bootAdvance_moves ..)

theorem execSynUnlock_moves (n : Fin 2) (s : State) (t : State) (h : execSynUnlock n s = .next t) :
    Moves 0x90520aa8d42a1aa s t := by
  unfold execSynUnlock at h
  refine acting_moves (by decide) (fun _ => ?_) h
  repeat' first
    | with_reducible assumption
    | with_reducible exact Moves.refl _ _
    | decide
    | with_reducible apply Moves.step (State.synUnlock_moves ..)
    | with_reducible apply Moves.step (State.syncReport_moves ..)

theorem execSynLockRetry_moves (n : Fin 2) (s : State) (t : State) (h : execSynLockRetry n s = .next t) :
    Moves 0x80520228d02a0aa s t := by
  unfold execSynLockRetry at h
  refine acting_moves (by decide) (fun _ => ?_) h
  repeat' first
    | with_reducible assumption
    | with_reducible exact Moves.refl _ _
    | decide
    | with_reducible apply Moves.step (State.synRetry_moves ..)

theorem execSynRelockTimeout_moves (n : Fin 2) (s : State) (t : State) (h : execSynRelockTimeout n s = .next t) :
    Moves 0x905a022cd42a0e2 s t := by
  unfold execSynRelockTimeout at h
  refine acting_moves (by decide) (fun _ => ?_) h
  repeat' first
    | with_reducible assumption
    | with_reducible exact Moves.refl _ _
    | decide
    | with_reducible apply Moves.step (State.synRelockTimeout_moves ..)

theorem execSwapMuteLift_moves (s : State) (t : State) (h : execSwapMuteLift s = .next t) :
    Moves 0x805a02acd02a0ea s t := by
  unfold execSwapMuteLift at h
  refine acting_moves (by decide) (fun _ => ?_) h
  repeat' first
    | with_reducible assumption
    | with_reducible exact Moves.refl _ _
    | decide
    | with_reducible apply Moves.step (State.swapLift_moves ..)

theorem execLoRouteWrite_moves (src : Source) (v : Word) (s : State) (t : State) (h : execLoRouteWrite src v s = .next t) :
    Moves 0xffffffedffffffb s t := by
  unfold execLoRouteWrite at h
  refine acting_moves (by decide) (fun _ => ?_) h
  repeat' first
    | with_reducible assumption
    | with_reducible exact Moves.refl _ _
    | decide
    | with_reducible apply Moves.step (State.busWrite_Clk _ _ _ (by first | decide | (simp only [F.CLK_LO_ROUTE_SPLIT]; omega) | (simp only [F.CLK_LO_ROUTE_SPLIT]; split <;> decide) | (simp only [F.CLK_LO_ROUTE_SPLIT]; (repeat' split) <;> omega)))

theorem execLodistDividerReset_moves (s : State) (t : State) (h : execLodistDividerReset s = .next t) :
    Moves 0x805a022cd02a0ea s t := by
  unfold execLodistDividerReset at h
  refine acting_moves (by decide) (fun _ => ?_) h
  repeat' first
    | with_reducible assumption
    | with_reducible exact Moves.refl _ _
    | decide
    | with_reducible apply Moves.step (State.dividersReset_moves ..)

theorem execResync_moves (src : Source) (v : Word) (s : State) (t : State) (h : execResync src v s = .next t) :
    Moves 0xffffffedffffffb s t := by
  unfold execResync at h
  refine acting_moves (by decide) (fun _ => ?_) h
  repeat' first
    | with_reducible assumption
    | with_reducible exact Moves.refl _ _
    | decide
    | with_reducible apply Moves.step (State.busWrite_Clk _ _ _ (by first | decide | (simp only [F.CLK_LO_SYNC_RESYNC]; omega) | (simp only [F.CLK_LO_SYNC_RESYNC]; split <;> decide) | (simp only [F.CLK_LO_SYNC_RESYNC]; (repeat' split) <;> omega)))

theorem execLpllUnlock_moves (b : Fin 4) (s : State) (t : State) (h : execLpllUnlock b s = .next t) :
    Moves 0xfffffffdffffffb s t := by
  unfold execLpllUnlock at h
  refine acting_moves (by decide) (fun _ => ?_) h
  repeat' first
    | with_reducible assumption
    | with_reducible exact Moves.refl _ _
    | decide
    | intro _
    | with_reducible apply State.linkAct_moves
    | with_reducible apply Moves.step (State.lpllUnlock_moves ..)

theorem execLpllLockRetry_moves (b : Fin 4) (s : State) (t : State) (h : execLpllLockRetry b s = .next t) :
    Moves 0x80520228d02a0aa s t := by
  unfold execLpllLockRetry at h
  refine acting_moves (by decide) (fun _ => ?_) h
  repeat' first
    | with_reducible assumption
    | with_reducible exact Moves.refl _ _
    | decide
    | with_reducible apply Moves.step (State.lpllRetry_moves ..)

theorem execLpllRelock_moves (b : Fin 4) (s : State) (t : State) (h : execLpllRelock b s = .next t) :
    Moves 0xfffffffdffffffb s t := by
  unfold execLpllRelock at h
  refine acting_moves (by decide) (fun _ => ?_) h
  repeat' first
    | with_reducible assumption
    | with_reducible exact Moves.refl _ _
    | decide
    | intro _
    | with_reducible apply Moves.ite
    | with_reducible apply State.linkAct_moves
    | with_reducible apply Moves.step (State.lpllRelock_moves ..)
    | with_reducible apply Moves.step (State.retrainStart_moves ..)
    | split
    | (with_reducible refine Moves.snd (by assumption) ?_)
    | (with_reducible refine Moves.fst (by assumption) ?_)

theorem execSscApexApply_moves (b : Fin 4) (s : State) (t : State) (h : execSscApexApply b s = .next t) :
    Moves 0x80520228d02a0aa s t := by
  unfold execSscApexApply at h
  refine acting_moves (by decide) (fun _ => ?_) h
  repeat' first
    | with_reducible assumption
    | with_reducible exact Moves.refl _ _
    | decide
    | with_reducible apply Moves.step (State.sscApply_moves ..)

end Sys2Proof.Machine
end

