-- ==== Sys2Proof/Laws/OnClockCmds.lean ====
section
/-! SUPPORT. What the commands of Machine/ClockCmds.lean answer while the device acts. -/

namespace Sys2Proof.Machine

set_option linter.all false

theorem on_refclkEdgeLoss {s : State} (hon : s.on = true)  :
    exec (.refclkEdgeLoss) s = .next (State.follow (s.linkAct State.refEdgeLoss) s) := by
  show execRefclkEdgeLoss  s = _
  exact acting_on hon

theorem on_freqMonitorWindow {s : State} (hon : s.on = true) (dev : Option Int) (phi : Int) :
    exec (.freqMonitorWindow dev phi) s = .next (State.follow (s.linkAct (fun u => u.freqWindow dev phi)) s) := by
  show execFreqMonitorWindow dev phi s = _
  exact acting_on hon

theorem on_holdoverExpired {s : State} (hon : s.on = true)  :
    exec (.holdoverExpired) s = .next (State.follow (s.linkAct State.holdoverExpired) s) := by
  show execHoldoverExpired  s = _
  exact acting_on hon

theorem on_cpllUnlock {s : State} (hon : s.on = true)  :
    exec (.cpllUnlock) s = .next (State.follow (s.linkAct State.cpllUnlock) s) := by
  show execCpllUnlock  s = _
  exact acting_on hon

theorem on_cpllLockRetry {s : State} (hon : s.on = true)  :
    exec (.cpllLockRetry) s = .next (State.follow (State.cpllRetry s) s) := by
  show execCpllLockRetry  s = _
  exact acting_on hon

theorem on_cpllRelock {s : State} (hon : s.on = true)  :
    exec (.cpllRelock) s = .next (State.follow (State.cpllRelock s) s) := by
  show execCpllRelock  s = _
  exact acting_on hon

theorem on_synGo {s : State} (hon : s.on = true) (src : Source) (n : Fin 2) (v : Word) :
    exec (.synGo src n v) s = .next (State.follow (s.busWrite src (F.CLK_SYN_CTL_GO n.val).addr (fixBit v 31)) s) := by
  show execSynGo src n v s = _
  exact acting_on hon

theorem on_synRetuneStart {s : State} (hon : s.on = true) (n : Fin 2) :
    exec (.synRetuneStart n) s = .next (State.follow (if (s.syn n.val).armed.isSome then (s.synFire n.val).bwFix else s) s) := by
  show execSynRetuneStart n s = _
  exact acting_on hon

theorem on_settleWindowEnd {s : State} (hon : s.on = true) (n : Fin 2) :
    exec (.settleWindowEnd n) s = .next (State.follow ((s.settleDone n.val).syncReport) s) := by
  show execSettleWindowEnd n s = _
  exact acting_on hon

theorem on_synLock {s : State} (hon : s.on = true) (n : Fin 2) :
    exec (.synLock n) s = .next (State.follow (((s.synLock n.val).syncReport).bootAdvance) s) := by
  show execSynLock n s = _
  exact acting_on hon

theorem on_synUnlock {s : State} (hon : s.on = true) (n : Fin 2) :
    exec (.synUnlock n) s = .next (State.follow ((s.synUnlock n.val).syncReport) s) := by
  show execSynUnlock n s = _
  exact acting_on hon

theorem on_synLockRetry {s : State} (hon : s.on = true) (n : Fin 2) :
    exec (.synLockRetry n) s = .next (State.follow (s.synRetry n.val) s) := by
  show execSynLockRetry n s = _
  exact acting_on hon

theorem on_synRelockTimeout {s : State} (hon : s.on = true) (n : Fin 2) :
    exec (.synRelockTimeout n) s = .next (State.follow (s.synRelockTimeout n.val) s) := by
  show execSynRelockTimeout n s = _
  exact acting_on hon

theorem on_swapMuteLift {s : State} (hon : s.on = true)  :
    exec (.swapMuteLift) s = .next (State.follow (State.swapLift s) s) := by
  show execSwapMuteLift  s = _
  exact acting_on hon

theorem on_loRouteWrite {s : State} (hon : s.on = true) (src : Source) (v : Word) :
    exec (.loRouteWrite src v) s = .next (State.follow (s.busWrite src F.CLK_LO_ROUTE_SPLIT.addr v) s) := by
  show execLoRouteWrite src v s = _
  exact acting_on hon

theorem on_lodistDividerReset {s : State} (hon : s.on = true)  :
    exec (.lodistDividerReset) s = .next (State.follow (State.dividersReset s) s) := by
  show execLodistDividerReset  s = _
  exact acting_on hon

theorem on_resync {s : State} (hon : s.on = true) (src : Source) (v : Word) :
    exec (.resync src v) s = .next (State.follow (s.busWrite src F.CLK_LO_SYNC_RESYNC.addr (fixBit v 0)) s) := by
  show execResync src v s = _
  exact acting_on hon

theorem on_lpllUnlock {s : State} (hon : s.on = true) (b : Fin 4) :
    exec (.lpllUnlock b) s = .next (State.follow (s.linkAct (fun u => u.lpllUnlock b.val)) s) := by
  show execLpllUnlock b s = _
  exact acting_on hon

theorem on_lpllLockRetry {s : State} (hon : s.on = true) (b : Fin 4) :
    exec (.lpllLockRetry b) s = .next (State.follow (s.lpllRetry b.val) s) := by
  show execLpllLockRetry b s = _
  exact acting_on hon

theorem on_lpllRelock {s : State} (hon : s.on = true) (b : Fin 4) :
    exec (.lpllRelock b) s = .next (State.follow (if (nth none s.clk.lpllSince b.val).isSome then s.linkAct (fun u => (u.lpllRelock b.val).retrainStart b.val) else s) s) := by
  show execLpllRelock b s = _
  exact acting_on hon

theorem on_sscApexApply {s : State} (hon : s.on = true) (b : Fin 4) :
    exec (.sscApexApply b) s = .next (State.follow (s.sscApply b.val) s) := by
  show execSscApexApply b s = _
  exact acting_on hon

end Sys2Proof.Machine
end

