-- ==== Sys2Proof/Laws/DoesClock.lean ====
section
/-! SUPPORT. What the commands of the clocks, the synthesisers and the link PLLs do where they take effect. -/

namespace Sys2Proof.Machine

set_option linter.all false

variable {s : State}

/-- The reference is lost with the CPLL locked: holdover (R67). -/
theorem does_refclkEdgeLoss (hon : s.on = true) {t : State}
    (ht : State.putb { s with clk := { s.clk with refPresent := false, okWindows := 0 } } F.CLK_CPLL_STAT_REF_OK false = t)
    (h1 : t.get F.CLK_CPLL_STAT_MODE = 2) (h2 : t.get F.CLK_CPLL_CTL_HO_LIMIT_S ≠ 0) :
    exec .refclkEdgeLoss s = .next (State.follow (s.linkAct (fun _ =>
      ((State.put { t with clk := { t.clk with hoSince := some t.aon } } F.CLK_CPLL_STAT_MODE 3).syncHo).raise 0x0201 0)) s) := by
  rw [on_refclkEdgeLoss hon]
  refine next_follow (linkAct_of ?_)
  unfold State.refEdgeLoss State.refLost
  dsimp only
  rw [ht, if_pos h1, if_neg h2]

/-- The reference is lost with HO_LIMIT_S = 0: bypass (R69). -/
theorem does_refclkEdgeLoss_limit (hon : s.on = true) {t : State}
    (ht : State.putb { s with clk := { s.clk with refPresent := false, okWindows := 0 } } F.CLK_CPLL_STAT_REF_OK false = t)
    (h1 : t.get F.CLK_CPLL_STAT_MODE = 2) (h2 : t.get F.CLK_CPLL_CTL_HO_LIMIT_S = 0) :
    exec .refclkEdgeLoss s = .next (State.follow (s.linkAct (fun _ => (t.raise 0x0201 0).cpllBypass)) s) := by
  rw [on_refclkEdgeLoss hon]
  refine next_follow (linkAct_of ?_)
  unfold State.refEdgeLoss State.refLost
  dsimp only
  rw [ht, if_pos h1, if_pos h2]

/-- A window within the limit while the reference is qualified, or not yet ten of them in a row. -/
theorem does_freqMonitorWindow (hon : s.on = true) (d phi : Int) {n : Nat} {t : State}
    (h1 : d.natAbs ≤ if s.clk.everLocked then 20000 else 100000)
    (hn : (if 10 ≤ s.clk.okWindows then 10 else s.clk.okWindows + 1) = n)
    (ht : { s with clk := { s.clk with refPresent := true, okWindows := n } } = t)
    (h2 : n < 10 ∨ t.flag F.CLK_CPLL_STAT_REF_OK = true) :
    exec (.freqMonitorWindow (some d) phi) s = .next (State.follow (s.linkAct (fun _ => t)) s) := by
  rw [on_freqMonitorWindow hon]
  refine next_follow (linkAct_of ?_)
  unfold State.freqWindow
  dsimp only
  rw [if_neg (by omega), hn, ht, if_pos h2]

/-- The tenth good window qualifies the reference; in holdover the phase is built out (R70). -/
theorem does_freqMonitorWindow_buildOut (hon : s.on = true) (d phi : Int) {half : Int} {t u : State}
    (h1 : d.natAbs ≤ if s.clk.everLocked then 20000 else 100000) (hn : 9 ≤ s.clk.okWindows)
    (ht : { s with clk := { s.clk with refPresent := true, okWindows := 10 } } = t)
    (h2 : t.flag F.CLK_CPLL_STAT_REF_OK = false) (hu : t.putb F.CLK_CPLL_STAT_REF_OK true = u)
    (hh : (if u.get F.CLK_CPLL_CTL_REF_SEL = 0 then 4069 else 8138) = half) (h3 : u.get F.CLK_CPLL_STAT_MODE = 3) :
    exec (.freqMonitorWindow (some d) phi) s = .next (State.follow (s.linkAct (fun _ => u.buildOut (clampInt (-half) half phi))) s) := by
  rw [on_freqMonitorWindow hon]
  refine next_follow (linkAct_of ?_)
  unfold State.freqWindow
  dsimp only
  rw [if_neg (by omega), show (if 10 ≤ s.clk.okWindows then 10 else s.clk.okWindows + 1) = 10 by split <;> omega, ht,
    if_neg (by simp [h2]), hu, hh, if_pos h3]

theorem does_holdoverExpired (hon : s.on = true) {a : Nat} (h : s.clk.hoSince = some a) :
    exec .holdoverExpired s = .next (State.follow (s.linkAct (fun _ =>
      ((s.elapseTo (a + sU (s.get F.CLK_CPLL_CTL_HO_LIMIT_S))).raise 0x0204 0).cpllBypass)) s) := by
  rw [on_holdoverExpired hon]
  refine next_follow (linkAct_of ?_)
  unfold State.holdoverExpired
  rw [h]

theorem does_cpllUnlock (hon : s.on = true) (h1 : s.up domCPLL = true) (h2 : s.cpllRuns = true) :
    exec .cpllUnlock s = .next (State.follow (s.linkAct (fun _ => s.cpllBypass)) s) := by
  rw [on_cpllUnlock hon]
  refine next_follow (linkAct_of ?_)
  unfold State.cpllUnlock
  rw [if_pos (by simp [h1, h2])]

theorem does_cpllLockRetry (hon : s.on = true) (h1 : s.up domCPLL = true) (h2 : s.flag F.CLK_CPLL_STAT_REF_OK = true)
    (h3 : s.get F.CLK_CPLL_STAT_MODE ≤ 1) :
    exec .cpllLockRetry s = .next (State.follow (State.put { s with clk := { s.clk with lockSince := some s.aon } }
      F.CLK_CPLL_STAT_MODE 1) s) := by
  rw [on_cpllLockRetry hon]
  unfold State.cpllRetry
  rw [if_pos (by simp [h1, h2, h3])]

theorem does_cpllRelock (hon : s.on = true) {a : Nat} (h : s.clk.lockSince = some a) (h1 : s.get F.CLK_CPLL_STAT_MODE = 1) :
    exec .cpllRelock s = .next (State.follow
      ((((s.elapseTo (a + usU 100)).cpllLocked).raise 0x0206 0).feClear feCPLL) s) := by
  rw [on_cpllRelock hon]
  unfold State.cpllRelock
  rw [h]
  dsimp only
  rw [if_pos h1]

theorem syn_write {src : Source} (n : Fin 2) {w : Word} (ho : s.opens src (0x20020 + 0x10 * n.val) w = true) :
    s.busWrite src (0x20020 + 0x10 * n.val) w = (s.touch src).writeSyn n.val w.toNat := by
  have h := n.isLt
  rw [State.opens_Clk ho (by omega) (by omega) (by simp only [evtAddr]; omega)]
  unfold State.writeClk
  rcases (show n.val = 0 ∨ n.val = 1 by omega) with e | e <;> rw [e]
  · rw [if_pos (by decide)]
  · rw [if_neg (by decide), if_pos (by decide)]

/-- A retune at once of the synthesisers that the command acts on (R76): Breakwater fixes its band again. -/
theorem does_synGo (hon : s.on = true) (src : Source) (n : Fin 2) (v : Word) {t : State} {w : Word} {nn div : Nat} {ts : List Nat}
    (hw : fixBit v 31 = w) (ho : s.opens src (0x20020 + 0x10 * n.val) w = true)
    (ht : (s.touch src).plain (F.CLK_SYN_CTL_GO n.val).addr w.toNat = t) (hN : bitsAt w.toNat 0 6 = nn) (hD : bitsAt w.toNat 8 1 = div)
    (h1 : bitAt w.toNat 30 = false) (h2 : synOk nn div = true) (hs : t.synTargets n.val = ts)
    (h3 : ∀ m ∈ ts, ∀ e, (t.syn m).settleEnd = some e → before t.stamp e = false) :
    exec (.synGo src n v) s = .next (State.follow (State.bwFix (ts.foldl (fun u m => if u.up (domSYN m) then u.synRetune m nn div else u)
      (ts.foldl (fun u m => (u.put (F.CLK_SYN_CTL_N m) nn).put (F.CLK_SYN_CTL_DIV m) div) t))) s) := by
  rw [on_synGo hon, show (F.CLK_SYN_CTL_GO n.val).addr = 0x20020 + 0x10 * n.val by
    dsimp only [F.CLK_SYN_CTL_GO]; have := n.isLt; omega, hw, syn_write n ho]
  unfold State.writeSyn
  simp only [ht, hN, hD, h1, show bitAt w.toNat 31 = true from by rw [← hw, bitAt_fixBit v (by decide)], if_true]
  unfold State.synCommand
  simp only [hs, Bool.false_eq_true, if_false, h2, Bool.true_eq_false, Bool.not_false]
  rw [if_neg (by
    rw [Bool.not_eq_true, List.any_eq_false]; intro m hm; have q := h3 m hm; revert q
    cases (t.syn m).settleEnd with
    | none => simp
    | some e => intro q; simp [q e rfl])]
  exact next_follow (State.iff_of rfl)

/-- An armed retune (R76). -/
theorem arms_synGo (hon : s.on = true) (src : Source) (n : Fin 2) (v : Word) {t : State} {w : Word} {nn div : Nat} {ts : List Nat}
    {at_ : Stamp} (hw : fixBit v 31 = w) (ho : s.opens src (0x20020 + 0x10 * n.val) w = true)
    (ht : (s.touch src).plain (F.CLK_SYN_CTL_GO n.val).addr w.toNat = t) (hN : bitsAt w.toNat 0 6 = nn) (hD : bitsAt w.toNat 8 1 = div)
    (ha : t.get64 (F.CLK_SYN_AT_LO_STAMP n.val) (F.CLK_SYN_AT_HI_STAMP n.val) = at_)
    (h1 : bitAt w.toNat 30 = true) (h2 : synOk nn div = true) (hs : t.synTargets n.val = ts)
    (h3 : ∀ m ∈ ts, ∀ e, (t.syn m).settleEnd = some e → before at_ e = false) :
    exec (.synGo src n v) s = .next (State.follow (ts.foldl (fun u m => u.setSyn m { u.syn m with
        armed := some (nn, div, at_, decide (1 < ts.length)) })
      (ts.foldl (fun u m => (u.put (F.CLK_SYN_CTL_N m) nn).put (F.CLK_SYN_CTL_DIV m) div) t)) s) := by
  rw [on_synGo hon, show (F.CLK_SYN_CTL_GO n.val).addr = 0x20020 + 0x10 * n.val by
    dsimp only [F.CLK_SYN_CTL_GO]; have := n.isLt; omega, hw, syn_write n ho]
  unfold State.writeSyn
  simp only [ht, hN, hD, h1, ha, show bitAt w.toNat 31 = true from by rw [← hw, bitAt_fixBit v (by decide)], if_true]
  unfold State.synCommand
  simp only [hs, if_true, h2, Bool.true_eq_false, if_false, Bool.not_true, Bool.and_false]
  rw [if_neg (by
    rw [Bool.not_eq_true, List.any_eq_false]; intro m hm; have q := h3 m hm; revert q
    cases (t.syn m).settleEnd with
    | none => simp
    | some e => intro q; simp [q e rfl])]
  exact next_follow (State.iff_not rfl)

/-- A setting that R75 does not permit is refused. -/
theorem refuses_synGo (hon : s.on = true) (src : Source) (n : Fin 2) (v : Word) {t : State} {w : Word}
    (hw : fixBit v 31 = w) (ho : s.opens src (0x20020 + 0x10 * n.val) w = true)
    (ht : (s.touch src).plain (F.CLK_SYN_CTL_GO n.val).addr w.toNat = t) (h2 : synOk (bitsAt w.toNat 0 6) (bitsAt w.toNat 8 1) = false) :
    exec (.synGo src n v) s = .next (State.follow (t.raise 0x0209 0) s) := by
  rw [on_synGo hon, show (F.CLK_SYN_CTL_GO n.val).addr = 0x20020 + 0x10 * n.val by
    dsimp only [F.CLK_SYN_CTL_GO]; have := n.isLt; omega, hw, syn_write n ho]
  unfold State.writeSyn
  simp only [ht, show bitAt w.toNat 31 = true from by rw [← hw, bitAt_fixBit v (by decide)], if_true]
  unfold State.synCommand State.retuneRefused
  simp only [h2, if_true]
  exact next_follow (State.iff_not (by rw [show ((7 : Nat) == 0) = false from by decide, Bool.false_and]))

theorem does_synRetuneStart (hon : s.on = true) (n : Fin 2) (h : (s.syn n.val).armed.isSome = true) :
    exec (.synRetuneStart n) s = .next (State.follow (s.synFire n.val).bwFix s) := by
  rw [on_synRetuneStart hon, if_pos h]

/-- The window ends with lock: SETTLE clears and the paths follow. -/
theorem does_settleWindowEnd (hon : s.on = true) (n : Fin 2) {e : Stamp} {t u : State} (h : (s.syn n.val).settleEnd = some e)
    (ht : s.reach e = t) (hu : (t.setSyn n.val { t.syn n.val with settleEnd := none }).putb (F.CLK_SYN_STAT_SETTLE n.val) false = u)
    (h1 : u.synLocked n.val = true) :
    exec (.settleWindowEnd n) s = .next (State.follow u.loSync.syncReport s) := by
  rw [on_settleWindowEnd hon]
  unfold State.settleDone
  rw [h]
  dsimp only
  rw [ht, hu, if_pos h1]

/-- Without lock the synthesiser is unlocked from then on. -/
theorem does_settleWindowEnd_lost (hon : s.on = true) (n : Fin 2) {e : Stamp} {t u : State} (h : (s.syn n.val).settleEnd = some e)
    (ht : s.reach e = t) (hu : (t.setSyn n.val { t.syn n.val with settleEnd := none }).putb (F.CLK_SYN_STAT_SETTLE n.val) false = u)
    (h1 : u.synLocked n.val = false) :
    exec (.settleWindowEnd n) s = .next (State.follow (u.synLost n.val).syncReport s) := by
  rw [on_settleWindowEnd hon]
  unfold State.settleDone
  rw [h]
  dsimp only
  rw [ht, hu, if_neg (by simp [h1])]

/-- The synthesiser locks: LOCK, LOCK_T, BAND (a free value), LAST_MS, and what hangs on its lock. -/
theorem does_synLock (hon : s.on = true) (n : Fin 2) {x : Syn} {band ms : Nat} {t u v w : State} (h1 : s.up (domSYN n.val) = true)
    (h2 : s.synLocked n.val = false) (h3 : s.cpllRuns = true) (hx : s.syn n.val = x) (hd : s.draw = (band, t))
    (hm : (match x.unlockedSince with
      | none => t.get (F.RSV_SYN_WEAR_LAST_MS n.val)
      | some a => if (s.aon - a) / msU 1 < 65535 then (s.aon - a) / msU 1 else 65535) = ms)
    (hu : (((t.setSyn n.val { x with unlockedSince := none }).putb (F.CLK_SYN_STAT_LOCK n.val) true).put
      (F.CLK_SYN_STAT_LOCK_T n.val) (if (s.aon - x.lockStart) * 4 / usU 1 < 255 then (s.aon - x.lockStart) * 4 / usU 1 else 255)).put
      (F.CLK_SYN_STAT_BAND n.val) (band % 64) = u) (hv : (u.put (F.RSV_SYN_WEAR_LAST_MS n.val) ms).loSync = v)
    (hw : (if v.servesTx n.val && bitAt (v.word 0x100014).toNat feSYN then v.feClear feSYN else v) = w) :
    exec (.synLock n) s = .next (State.follow
      (((if w.serves n.val then w.dividersAt w.tide.now else w).regrade 8).syncReport.bootAdvance) s) := by
  rw [on_synLock hon]
  unfold State.synLock
  rw [if_neg (by simp [h1, h2, h3])]
  simp only [hx, hd]
  subst hm hu hv hw
  cases x.unlockedSince <;> rfl

theorem does_synUnlock (hon : s.on = true) (n : Fin 2) (h1 : s.up (domSYN n.val) = true) (h2 : s.synLocked n.val = true)
    (h3 : s.synSettle n.val = false) (h4 : s.cpllRuns = true) :
    exec (.synUnlock n) s = .next (State.follow (s.synLost n.val).syncReport s) := by
  rw [on_synUnlock hon]
  unfold State.synUnlock
  rw [if_pos (by simp [h1, h2, h3, h4])]

theorem does_synLockRetry (hon : s.on = true) (n : Fin 2) (h1 : s.up (domSYN n.val) = true) (h2 : s.synLocked n.val = false)
    (h3 : s.synSettle n.val = false) (h4 : s.cpllRuns = true) :
    exec (.synLockRetry n) s = .next (State.follow (s.setSyn n.val { s.syn n.val with lockStart := s.aon }) s) := by
  rw [on_synLockRetry hon]
  unfold State.synRetry
  rw [if_pos (by simp [h1, h2, h3, h4])]

theorem does_synRelockTimeout (hon : s.on = true) (n : Fin 2) {a : Nat} {t : State} (h : (s.syn n.val).unlockedSince = some a)
    (ht : s.elapseTo (a + msU 10) = t) (h1 : t.flag (F.RSV_SYN_WEAR_FAILED n.val) = false) :
    exec (.synRelockTimeout n) s = .next (State.follow
      (((t.putb (F.RSV_SYN_WEAR_FAILED n.val) true).raise 0x1702 n.val).regrade 8) s) := by
  rw [on_synRelockTimeout hon]
  unfold State.synRelockTimeout
  rw [h]
  dsimp only
  rw [ht]
  unfold State.synFail
  rw [if_neg (by simp [h1])]

theorem does_swapMuteLift (hon : s.on = true) {m : SwapMute} {t : State} (h : s.clk.swap = some m) (ht : s.reach m.lift = t) :
    exec .swapMuteLift s = .next (State.follow (State.add { t with clk := { t.clk with swap := none } } F.CLK_SWAP_MUTE_TOTAL_NS
      ((m.lift - m.begin).toNat / 65536)) s) := by
  rw [on_swapMuteLift hon]
  unfold State.swapLift
  rw [h]
  dsimp only
  rw [ht]

/-- A route that is permitted (R81): the new bits stand; with quads up, the mutes of a change and what hangs on the locks. -/
theorem does_loRouteWrite (hon : s.on = true) (src : Source) (v : Word) {t u : State} {dirs newRx : Nat} (ht : s.touch src = t)
    (ho : s.opens src F.CLK_LO_ROUTE_SPLIT.addr v = true)
    (hx : (if bitAt v.toNat 3 then bitsAt v.toNat 1 1 else bitsAt v.toNat 0 1) = newRx)
    (h1 : ¬(bitAt v.toNat 3 = true ∧ bitsAt v.toNat 1 1 = bitsAt v.toNat 0 1))
    (h2 : ¬((bitsAt v.toNat 0 1 ≠ t.txSyn ∧ t.flag (F.RSV_SYN_WEAR_FAILED (bitsAt v.toNat 0 1)) = true)
      ∨ (newRx ≠ t.rxSyn ∧ t.flag (F.RSV_SYN_WEAR_FAILED newRx) = true)))
    (hd : (if bitsAt v.toNat 0 1 ≠ t.txSyn then 1 else 0) + (if newRx ≠ t.rxSyn then 2 else 0) = dirs)
    (hu : (((t.putb F.CLK_LO_ROUTE_AUTO_SWAP (bitAt v.toNat 4)).putb F.CLK_LO_ROUTE_SPLIT (bitAt v.toNat 3)).put
      F.CLK_LO_ROUTE_RX_SRC (bitsAt v.toNat 1 1)).put F.CLK_LO_ROUTE_TX_SRC (bitsAt v.toNat 0 1) = u) :
    exec (.loRouteWrite src v) s = .next (State.follow (
      let quads := u.quads.any (fun q => u.up (domTXQ q) || u.up (domRXQ q))
      let x := if dirs ≠ 0 ∧ quads = true then u.swapMute dirs else u
      let y := ((if quads then x.loSync else x).regrade 8).runOffApply
      if y.txSyn = t.txSyn then y else y.bwFix) s) := by
  rw [on_loRouteWrite hon, State.opens_Clk ho (by decide) (by decide) (by decide), ht]
  unfold State.writeClk
  rw [if_neg (by decide), if_neg (by decide), if_pos (by decide)]
  unfold State.writeRoute State.routeWrite
  simp only [hx]
  rw [if_neg h1, if_neg h2, hd, hu]

/-- SPLIT with both directions on one synthesiser is refused (R78). -/
theorem refuses_loRouteWrite (hon : s.on = true) (src : Source) (v : Word) {t : State} (ht : s.touch src = t)
    (ho : s.opens src F.CLK_LO_ROUTE_SPLIT.addr v = true) (h1 : bitAt v.toNat 3 = true ∧ bitsAt v.toNat 1 1 = bitsAt v.toNat 0 1) :
    exec (.loRouteWrite src v) s = .next (State.follow (
      let y := (t.raise 0x0209 0).runOffApply
      if y.txSyn = t.txSyn then y else y.bwFix) s) := by
  rw [on_loRouteWrite hon, State.opens_Clk ho (by decide) (by decide) (by decide), ht]
  unfold State.writeClk
  rw [if_neg (by decide), if_neg (by decide), if_pos (by decide)]
  unfold State.writeRoute State.routeWrite State.retuneRefused
  dsimp only
  rw [if_pos h1]

theorem does_lodistDividerReset (hon : s.on = true) {a : Stamp} {t : State} (h : s.clk.divReset = some a) (ht : s.reach a = t) :
    exec .lodistDividerReset s = .next (State.follow { t with clk := { t.clk with divReset := none, aligned := true } } s) := by
  rw [on_lodistDividerReset hon]
  unfold State.dividersReset
  rw [h]
  dsimp only
  rw [ht]

theorem resync_write {src : Source} {w : Word} (h : bitAt w.toNat 0 = true) (ho : s.opens src F.CLK_LO_SYNC_RESYNC.addr w = true) :
    s.busWrite src F.CLK_LO_SYNC_RESYNC.addr w = (s.touch src).resync := by
  rw [State.opens_Clk ho (by decide) (by decide) (by decide)]
  unfold State.writeClk
  rw [if_neg (by decide), if_neg (by decide), if_neg (by decide), if_pos (by decide), State.iff_of h]

/-- RESYNC in Quiet. -/
theorem does_resync (hon : s.on = true) (src : Source) (v : Word) {t : State} (ht : s.touch src = t)
    (ho : s.opens src F.CLK_LO_SYNC_RESYNC.addr (fixBit v 0) = true) (h : t.cur = 3) :
    exec (.resync src v) s = .next (State.follow { t with clk := { t.clk with
      divReset := some (stampOf (gridEdge t.tide.now)), aligned := false } } s) := by
  rw [on_resync hon, resync_write (bitAt_fixBit v (by decide)) ho, ht]
  unfold State.resync
  rw [if_pos h]

/-- Outside Quiet RESYNC is refused: bit 12 of CLK.EVT. -/
theorem refuses_resync (hon : s.on = true) (src : Source) (v : Word) {t : State} (ht : s.touch src = t)
    (ho : s.opens src F.CLK_LO_SYNC_RESYNC.addr (fixBit v 0) = true) (h : t.cur ≠ 3) :
    exec (.resync src v) s = .next (State.follow (t.setBit 0x20080 12).syncIrq s) := by
  rw [on_resync hon, resync_write (bitAt_fixBit v (by decide)) ho, ht]
  unfold State.resync
  rw [if_neg h]

theorem does_lpllUnlock (hon : s.on = true) (b : Fin 4) {t : State} (h1 : s.up (linkDom b.val) = true)
    (h2 : s.get (F.CLK_LPLL_STAT_MODE b.val) = 2)
    (ht : { s with clk := { s.clk with lpllSince := setNth s.clk.lpllSince b.val none } } = t) :
    exec (.lpllUnlock b) s = .next (State.follow (s.linkAct (fun _ => State.linkBypass
      (((t.put (F.CLK_LPLL_STAT_MODE b.val) 3).inc (F.CLK_LPLL_STAT_UNLOCK_CNT b.val)).raise 0x020A b.val) b.val)) s) := by
  rw [on_lpllUnlock hon]
  refine next_follow (linkAct_of ?_)
  unfold State.lpllUnlock
  rw [if_pos ⟨h1, h2⟩]
  dsimp only
  rw [ht]

theorem does_lpllLockRetry (hon : s.on = true) (b : Fin 4) (h1 : s.up (linkDom b.val) = true)
    (h2 : s.get (F.CLK_LPLL_STAT_MODE b.val) = 3) (h3 : s.cpllRuns = true) (h4 : (s.port b.val).mini = false) :
    exec (.lpllLockRetry b) s = .next (State.follow { s with clk := { s.clk with
      lpllSince := setNth s.clk.lpllSince b.val (some s.aon) } } s) := by
  rw [on_lpllLockRetry hon]
  unfold State.lpllRetry
  rw [if_pos ⟨h1, h2, h3, h4⟩]

/-- The link PLL locked again: full rate, and the link trains from BYPASS (R85, R259). -/
theorem does_lpllRelock (hon : s.on = true) (b : Fin 4) {a : Nat} {t : State} (h : nth none s.clk.lpllSince b.val = some a)
    (ht : s.elapseTo (a + usU 100) = t) :
    exec (.lpllRelock b) s = .next (State.follow (s.linkAct (fun _ => State.retrainStart
      ((State.put { t with clk := { t.clk with lpllSince := setNth t.clk.lpllSince b.val none } } (F.CLK_LPLL_STAT_MODE b.val) 2).raise
        0x020B b.val) b.val)) s) := by
  rw [on_lpllRelock hon, if_pos (by rw [h]; rfl)]
  refine next_follow (linkAct_of ?_)
  unfold State.lpllRelock
  rw [h]
  dsimp only
  rw [ht]

theorem does_sscApexApply (hon : s.on = true) (b : Fin 4) {mode d f : Nat} (hm : s.get (F.CLK_LPLL_CTL_SSC_MODE b.val) % 3 = mode)
    (hd : s.get (F.CLK_LPLL_CTL_DEPTH b.val) = d) (hf : s.get (F.CLK_LPLL_CTL_SSC_F b.val) = f)
    {w : Nat} (hw : (if mode = 0 then 0 else mode * 16384 + (if d < (if mode = 1 then 50 else 25) then d else
      (if mode = 1 then 50 else 25)) * 256 + (if f = 7 then 6 else f)) = w) :
    exec (.sscApexApply b) s = .next (State.follow { s with clk := { s.clk with ssc := setNth s.clk.ssc b.val w } } s) := by
  rw [on_sscApexApply hon]
  unfold State.sscApply
  simp only [hm, hd, hf, hw]

end Sys2Proof.Machine
end

