-- ==== Sys2Proof/Laws/MovesConverters.lean ====
section
/-! SUPPORT. What each operation of Machine/Converters.lean may change. -/

namespace Sys2Proof.Machine

set_option linter.all false

theorem State.rxOutputs_moves (s : State) (p : Nat) (l : List RxSample) : Moves 0x80008080480 s (State.rxOutputs s p l) := by
  unfold State.rxOutputs
  repeat' first
    | with_reducible assumption
    | with_reducible exact Moves.refl _ _
    | decide
    | intro _
    | extract_lets
    | with_reducible apply Moves.step (State.rxAlignAll_moves ..)
    | with_reducible apply Moves.step (State.antPush_moves ..)
    | with_reducible apply Moves.step (State.gaugeTap_moves ..)
    | with_reducible apply Moves.each
    | dsimp +zetaDelta only

theorem State.txPlayout_moves (s0 : State) (p : Nat) (late : Bool) (fill : Nat) : Moves 0x834a302dc0a2362 s0 (State.txPlayout s0 p late fill) := by
  unfold State.txPlayout
  repeat' first
    | with_reducible assumption
    | with_reducible exact Moves.refl _ _
    | decide
    | ((with_reducible refine Moves.p_inc (n := 17) ?_ ?_ ?_ ?_); (first | rfl | assumption | (dsimp only [F.BWTR_CNT_COUNT]; omega)); decide; decide)
    | with_reducible apply Moves.ite
    | extract_lets
    | with_reducible apply Moves.step (State.txInstant_moves ..)
    | with_reducible apply Moves.step (State.txMeter_moves ..)
    | with_reducible apply Moves.step (State.fadeSettle_moves ..)
    | with_reducible apply Moves.step (State.bwBlock_moves ..)
    | with_reducible apply Moves.step (State.bwGranule_moves ..)
    | with_reducible apply Moves.step (State.txPlay_moves ..)
    | with_reducible apply Moves.step (State.bwPlayed_moves ..)
    | with_reducible apply Moves.step (State.gaugeTap_moves ..)
    | with_reducible apply Moves.step (State.rpFollow_moves ..)
    | split
    | (with_reducible refine Moves.snd (by assumption) ?_)
    | (with_reducible refine Moves.fst (by assumption) ?_)
    | (with_reducible refine Moves.trd (by assumption) ?_)
    | dsimp +zetaDelta only

end Sys2Proof.Machine
end

