-- ==== Sys2Proof/Laws/ExecConverters.lean ====
section
/-! SUPPORT. What each command of Machine/Converters.lean may change. -/

namespace Sys2Proof.Machine

set_option linter.all false

theorem execRxAdcSample_moves (p : Fin 64) (re im : BitVec 12) (ovr : Bool) (fill : Fin 1025) (s : State) (t : State) (h : execRxAdcSample p re im ovr fill s = .next t) :
    Moves 0x805a862cd0aa4e2 s t := by
  unfold execRxAdcSample at h
  refine acting_moves (by decide) (fun _ => ?_) h
  repeat' first
    | with_reducible assumption
    | with_reducible exact Moves.refl _ _
    | decide
    | with_reducible apply Moves.ite
    | extract_lets
    | with_reducible apply Moves.step (State.rxSample_moves ..)
    | with_reducible apply Moves.step (State.rxOutputs_moves ..)
    | split
    | (with_reducible refine Moves.snd (by assumption) ?_)
    | (with_reducible refine Moves.fst (by assumption) ?_)
    | dsimp +zetaDelta only

theorem execRxIngressSpaceReturn_moves (p : Fin 64) (s : State) (t : State) (h : execRxIngressSpaceReturn p s = .next t) :
    Moves 0x80528628d0aa4a2 s t := by
  unfold execRxIngressSpaceReturn at h
  refine acting_moves (by decide) (fun _ => ?_) h
  repeat' first
    | with_reducible assumption
    | with_reducible exact Moves.refl _ _
    | decide
    | extract_lets
    | with_reducible apply Moves.step (State.rxReturn_moves ..)
    | with_reducible apply Moves.step (State.rxOutputs_moves ..)
    | dsimp +zetaDelta only

theorem execTxSamplePlayout_moves (p : Fin 64) (late : Bool) (fill : Fin 2049) (s : State) (t : State) (h : execTxSamplePlayout p late fill s = .next t) :
    Moves 0x835a322dd0aa3e2 s t := by
  unfold execTxSamplePlayout at h
  refine acting_moves (by decide) (fun _ => ?_) h
  repeat' first
    | with_reducible assumption
    | with_reducible exact Moves.refl _ _
    | decide
    | with_reducible apply Moves.ite
    | with_reducible apply Moves.step (State.txPlayout_moves ..)
    | split
    | (with_reducible refine Moves.snd (by assumption) ?_)
    | (with_reducible refine Moves.fst (by assumption) ?_)

theorem execClrCnt_moves (src : Source) (v : Word) (s : State) (t : State) (h : execClrCnt src v s = .next t) :
    Moves 0xc0520228d82a0a2 s t := by
  unfold execClrCnt at h
  refine acting_moves (by decide) (fun _ => ?_) h
  repeat' first
    | with_reducible assumption
    | with_reducible exact Moves.refl _ _
    | decide
    | with_reducible apply Moves.step (State.busWrite_Top _ _ _ (by first | decide | (simp only [F.TOP_DRIFT_CTL_LOW_NS]; omega) | (simp only [F.TOP_DRIFT_CTL_LOW_NS]; split <;> decide) | (simp only [F.TOP_DRIFT_CTL_LOW_NS]; (repeat' split) <;> omega)))

theorem execClrMin_moves (src : Source) (v : Word) (s : State) (t : State) (h : execClrMin src v s = .next t) :
    Moves 0xc0520228d82a0a2 s t := by
  unfold execClrMin at h
  refine acting_moves (by decide) (fun _ => ?_) h
  repeat' first
    | with_reducible assumption
    | with_reducible exact Moves.refl _ _
    | decide
    | with_reducible apply Moves.step (State.busWrite_Top _ _ _ (by first | decide | (simp only [F.TOP_DRIFT_CTL_LOW_NS]; omega) | (simp only [F.TOP_DRIFT_CTL_LOW_NS]; split <;> decide) | (simp only [F.TOP_DRIFT_CTL_LOW_NS]; (repeat' split) <;> omega)))

end Sys2Proof.Machine
end

