-- ==== Sys2Proof/Laws/OnConverters.lean ====
section
/-! SUPPORT. What the commands of Machine/Converters.lean answer while the device acts. -/

namespace Sys2Proof.Machine

set_option linter.all false

theorem on_rxAdcSample {s : State} (hon : s.on = true) (p : Fin 64) (re im : BitVec 12) (ovr : Bool) (fill : Fin 1025) :
    exec (.rxAdcSample p re im ovr fill) s = .next (State.follow (if s.rxConverts p.val then
      let r := s.rxSample p.val ⟨re.toInt, im.toInt⟩ ovr fill.val
      r.1.rxOutputs p.val r.2
    else s) s) := by
  show execRxAdcSample p re im ovr fill s = _
  exact acting_on hon

theorem on_rxIngressSpaceReturn {s : State} (hon : s.on = true) (p : Fin 64) :
    exec (.rxIngressSpaceReturn p) s = .next (State.follow (let r := s.rxReturn p.val; r.1.rxOutputs p.val r.2) s) := by
  show execRxIngressSpaceReturn p s = _
  exact acting_on hon

theorem on_txSamplePlayout {s : State} (hon : s.on = true) (p : Fin 64) (late : Bool) (fill : Fin 2049) :
    exec (.txSamplePlayout p late fill) s = .next (State.follow (if s.txConverts p.val then s.txPlayout p.val late fill.val else s) s) := by
  show execTxSamplePlayout p late fill s = _
  exact acting_on hon

theorem on_clrCnt {s : State} (hon : s.on = true) (src : Source) (v : Word) :
    exec (.clrCnt src v) s = .next (State.follow (s.busWrite src F.TOP_DRIFT_CTL_LOW_NS.addr (fixBit v 17)) s) := by
  show execClrCnt src v s = _
  exact acting_on hon

theorem on_clrMin {s : State} (hon : s.on = true) (src : Source) (v : Word) :
    exec (.clrMin src v) s = .next (State.follow (s.busWrite src F.TOP_DRIFT_CTL_LOW_NS.addr (fixBit v 16)) s) := by
  show execClrMin src v s = _
  exact acting_on hon

end Sys2Proof.Machine
end

