-- ==== Sys2Proof/Laws/DoesConverters.lean ====
section
/-! SUPPORT. What the commands of the converters, the ingress and egress buffers and the drift meters do where they take effect. -/

namespace Sys2Proof.Machine

set_option linter.all false

variable {s : State}

theorem does_rxAdcSample (hon : s.on = true) (p : Fin 64) (re im : BitVec 12) (ovr : Bool) (fill : Fin 1025) {t : State}
    {l : List RxSample} (h : s.rxConverts p.val = true) (hr : s.rxSample p.val ⟨re.toInt, im.toInt⟩ ovr fill.val = (t, l)) :
    exec (.rxAdcSample p re im ovr fill) s = .next (State.follow (t.rxOutputs p.val l) s) := by
  rw [on_rxAdcSample hon, if_pos h]
  simp only [hr]

theorem does_rxIngressSpaceReturn (hon : s.on = true) (p : Fin 64) {t : State} {l : List RxSample} (hr : s.rxReturn p.val = (t, l)) :
    exec (.rxIngressSpaceReturn p) s = .next (State.follow (t.rxOutputs p.val l) s) := by
  rw [on_rxIngressSpaceReturn hon]
  simp only [hr]

theorem does_txSamplePlayout (hon : s.on = true) (p : Fin 64) (late : Bool) (fill : Fin 2049) (h : s.txConverts p.val = true) :
    exec (.txSamplePlayout p late fill) s = .next (State.follow (s.txPlayout p.val late fill.val) s) := by
  rw [on_txSamplePlayout hon, if_pos h]

theorem drift_write {src : Source} {t : State} {w : Word} (ht : s.touch src = t) (ho : s.opens src F.TOP_DRIFT_CTL_LOW_NS.addr w = true) (u : State)
    (hu : t.plain F.TOP_DRIFT_CTL_LOW_NS.addr w.toNat = u) :
    s.busWrite src F.TOP_DRIFT_CTL_LOW_NS.addr w = (u.iff (bitAt w.toNat 17) (fun x => x.each (List.range 8) (fun y m => y.put (F.TOP_SLIP_CNT_COUNT m) 0))).iff
      (bitAt w.toNat 16) (fun x => x.each (List.range 8) (fun y m => y.put (F.TOP_DRIFT_MIN_NS m) 0xFFFF)) := by
  rw [State.opens_Top ho (by decide) (by decide) (by decide), ht]
  unfold State.writeTop
  dsimp only
  rw [if_pos (by decide), hu]

theorem does_clrCnt (hon : s.on = true) (src : Source) (v : Word) {t u : State} {w : Word} (ht : s.touch src = t)
    (hw : fixBit v 17 = w) (ho : s.opens src F.TOP_DRIFT_CTL_LOW_NS.addr w = true)
    (hu : t.plain F.TOP_DRIFT_CTL_LOW_NS.addr w.toNat = u) (h : bitAt w.toNat 16 = false) :
    exec (.clrCnt src v) s = .next (State.follow (u.each (List.range 8) (fun y m => y.put (F.TOP_SLIP_CNT_COUNT m) 0)) s) := by
  rw [on_clrCnt hon, hw, drift_write ht ho u hu, State.iff_not h,
    State.iff_of (by rw [← hw, bitAt_fixBit v (by decide)])]

theorem does_clrMin (hon : s.on = true) (src : Source) (v : Word) {t u : State} {w : Word} (ht : s.touch src = t)
    (hw : fixBit v 16 = w) (ho : s.opens src F.TOP_DRIFT_CTL_LOW_NS.addr w = true)
    (hu : t.plain F.TOP_DRIFT_CTL_LOW_NS.addr w.toNat = u) (h : bitAt w.toNat 17 = false) :
    exec (.clrMin src v) s = .next (State.follow (u.each (List.range 8) (fun y m => y.put (F.TOP_DRIFT_MIN_NS m) 0xFFFF)) s) := by
  rw [on_clrMin hon, hw, drift_write ht ho u hu, State.iff_not h,
    State.iff_of (by rw [← hw, bitAt_fixBit v (by decide)])]

end Sys2Proof.Machine
end

