-- ==== Sys2Proof/Laws/MovesCraneMove.lean ====
section
/-! SUPPORT. What each operation of Machine/CraneMove.lean may change. -/

namespace Sys2Proof.Machine

set_option linter.all false

theorem State.craneMay_moves (s : State) (src : Source) (a : Nat) (write : Bool) : Moves 0x400000008000000 s (State.craneMay s src a write).2 := by
  unfold State.craneMay
  repeat' first
    | with_reducible assumption
    | with_reducible exact Moves.refl _ _
    | decide
    | with_reducible apply Moves.ite
    | with_reducible apply Moves.step (State.violation_moves ..)
    | split

theorem State.regsRead_moves (s : State) (src : Source) (a k : Nat) : Moves 0x6bb52800a800000 s (State.regsRead s src a k).2 := by
  induction k generalizing s with
  | zero =>
    unfold State.regsRead
    repeat' first
      | with_reducible assumption
      | with_reducible exact Moves.refl _ _
      | decide
      | extract_lets
      | with_reducible apply Moves.step (State.busRead_moves ..)
      | split
      | (with_reducible refine Moves.snd (by assumption) ?_)
      | (with_reducible refine Moves.fst (by assumption) ?_)
      | (with_reducible refine Moves.trd (by assumption) ?_)
      | dsimp +zetaDelta only
  | succ _ ih =>
    unfold State.regsRead
    repeat' first
      | with_reducible assumption
      | with_reducible exact Moves.refl _ _
      | decide
      | with_reducible apply Moves.step (ih ..)
      | extract_lets
      | with_reducible apply Moves.step (State.busRead_moves ..)
      | split
      | (with_reducible refine Moves.snd (by assumption) ?_)
      | (with_reducible refine Moves.fst (by assumption) ?_)
      | (with_reducible refine Moves.trd (by assumption) ?_)
      | dsimp +zetaDelta only

theorem State.craneRead_moves (s : State) (src : Source) (a size : Nat) : Moves 0x6bb52800a800000 s (State.craneRead s src a size).2.2 := by
  unfold State.craneRead
  repeat' first
    | with_reducible assumption
    | with_reducible exact Moves.refl _ _
    | decide
    | with_reducible apply Moves.ite
    | extract_lets
    | with_reducible apply Moves.step (State.regsRead_moves ..)
    | with_reducible apply Moves.step (State.craneMay_moves ..)
    | with_reducible apply Moves.step (State.holdCarried_moves ..)
    | split
    | (with_reducible refine Moves.snd (by assumption) ?_)
    | (with_reducible refine Moves.fst (by assumption) ?_)
    | (with_reducible refine Moves.trd (by assumption) ?_)
    | dsimp +zetaDelta only

theorem State.craneWrite_moves (s : State) (src : Source) (a : Nat) (l : List Byte) : Moves 0xfffffffdffffffb s (State.craneWrite s src a l) := by
  unfold State.craneWrite
  repeat' first
    | with_reducible assumption
    | with_reducible exact Moves.refl _ _
    | decide
    | intro _
    | with_reducible apply Moves.ite
    | extract_lets
    | with_reducible apply Moves.step (State.busWrite_moves ..)
    | with_reducible apply Moves.step (State.craneMay_moves ..)
    | with_reducible apply Moves.step (State.writeGranule_moves ..)
    | with_reducible apply Moves.step (State.holdCarried_moves ..)
    | with_reducible apply Moves.step (State.windowWrite_moves ..)
    | with_reducible apply Moves.each
    | split
    | (with_reducible refine Moves.snd (by assumption) ?_)
    | (with_reducible refine Moves.fst (by assumption) ?_)
    | (with_reducible refine Moves.trd (by assumption) ?_)
    | dsimp +zetaDelta only

theorem State.craneBegin_moves (s : State) (n : Nat) : Moves 0x40000008100000 s (State.craneBegin s n) := by
  unfold State.craneBegin
  repeat' first
    | with_reducible assumption
    | with_reducible exact Moves.refl _ _
    | decide
    | ((with_reducible refine Moves.p_put (n := 21) ?_ ?_ ?_ ?_); (first | rfl | assumption | (dsimp only [F.CRANE_C_STAT_LINKS]; omega)); decide; decide)
    | ((with_reducible refine Moves.p_putb (n := 21) ?_ ?_ ?_ ?_); (first | rfl | assumption | (dsimp only [F.CRANE_C_STAT_DESC]; omega)); decide; decide)
    | with_reducible apply Moves.ite
    | extract_lets
    | with_reducible apply Moves.step (State.setChan_moves ..)
    | split
    | dsimp +zetaDelta only

theorem State.piecePut_moves (s : State) (ch : Fin 16) (off : Nat) (data : List Byte) : Moves 0xfffffffdffffffb s (State.piecePut s ch off data) := by
  unfold State.piecePut
  repeat' first
    | with_reducible assumption
    | with_reducible exact Moves.refl _ _
    | decide
    | with_reducible apply Moves.ite
    | extract_lets
    | with_reducible apply Moves.step (State.setChan_moves ..)
    | with_reducible apply Moves.step (State.emit_moves ..)
    | with_reducible apply Moves.step (State.craneWrite_moves ..)
    | split
    | dsimp +zetaDelta only

theorem State.cranePiece_moves (s : State) (ch : Fin 16) : Moves 0xfffffffdffffffb s (State.cranePiece s ch) := by
  unfold State.cranePiece
  repeat' first
    | with_reducible assumption
    | with_reducible exact Moves.refl _ _
    | decide
    | with_reducible apply Moves.ite
    | extract_lets
    | with_reducible apply Moves.step (State.piecePut_moves ..)
    | with_reducible apply Moves.step (State.setChan_moves ..)
    | with_reducible apply Moves.step (State.craneRead_moves ..)
    | split
    | (with_reducible refine Moves.snd (by assumption) ?_)
    | (with_reducible refine Moves.fst (by assumption) ?_)
    | (with_reducible refine Moves.trd (by assumption) ?_)
    | dsimp +zetaDelta only

theorem State.cranePieces_moves (k : Nat) (s : State) (ch : Fin 16) : Moves 0xfffffffdffffffb s (State.cranePieces k s ch) := by
  induction k generalizing s with
  | zero =>
    unfold State.cranePieces
    repeat' first
      | with_reducible assumption
      | with_reducible exact Moves.refl _ _
      | decide
      | with_reducible apply Moves.ite
      | with_reducible apply Moves.step (State.cranePiece_moves ..)
      | split
  | succ _ ih =>
    unfold State.cranePieces
    repeat' first
      | with_reducible assumption
      | with_reducible exact Moves.refl _ _
      | decide
      | with_reducible apply Moves.step (ih ..)
      | with_reducible apply Moves.ite
      | with_reducible apply Moves.step (State.cranePiece_moves ..)
      | split

theorem State.craneMove_moves (s : State) (ch : Fin 16) (op k : Nat) : Moves 0xfffffffdffffffb s (State.craneMove s ch op k) := by
  unfold State.craneMove
  repeat' first
    | with_reducible assumption
    | with_reducible exact Moves.refl _ _
    | decide
    | with_reducible apply Moves.ite
    | extract_lets
    | with_reducible apply Moves.step (State.craneBegin_moves ..)
    | with_reducible apply Moves.step (State.cranePieces_moves ..)
    | with_reducible apply Moves.step (State.craneSettle_moves ..)
    | with_reducible apply Moves.step (State.craneCur_moves ..)
    | split
    | dsimp +zetaDelta only

end Sys2Proof.Machine
end

