-- ==== Sys2Proof/Laws/ExecCraneCmds.lean ====
section
/-! SUPPORT. What each command of Machine/CraneCmds.lean may change. -/

namespace Sys2Proof.Machine

set_option linter.all false

theorem execCraneGo_moves (src : Source) (ch : Fin 16) (v : Word) (s : State) (t : State) (h : execCraneGo src ch v s = .next t) :
    Moves 0xc4520229d92a0a2 s t := by
  unfold execCraneGo at h
  refine acting_moves (by decide) (fun _ => ?_) h
  repeat' first
    | with_reducible assumption
    | with_reducible exact Moves.refl _ _
    | decide
    | with_reducible apply Moves.step (State.busWrite_Crane _ _ _ (by first | decide | (simp only [F.CRANE_C_CTL_GO]; omega) | (simp only [F.CRANE_C_CTL_GO]; split <;> decide) | (simp only [F.CRANE_C_CTL_GO]; (repeat' split) <;> omega)))

theorem execCraneKick_moves (src : Source) (ch : Fin 16) (v : Word) (s : State) (t : State) (h : execCraneKick src ch v s = .next t) :
    Moves 0xc4520229d92a0a2 s t := by
  unfold execCraneKick at h
  refine acting_moves (by decide) (fun _ => ?_) h
  repeat' first
    | with_reducible assumption
    | with_reducible exact Moves.refl _ _
    | decide
    | with_reducible apply Moves.step (State.busWrite_Crane _ _ _ (by first | decide | (simp only [F.CRANE_C_CTL_KICK]; omega) | (simp only [F.CRANE_C_CTL_KICK]; split <;> decide) | (simp only [F.CRANE_C_CTL_KICK]; (repeat' split) <;> omega)))

theorem execCranePause_moves (src : Source) (ch : Fin 16) (v : Word) (s : State) (t : State) (h : execCranePause src ch v s = .next t) :
    Moves 0xc4520229d92a0a2 s t := by
  unfold execCranePause at h
  refine acting_moves (by decide) (fun _ => ?_) h
  repeat' first
    | with_reducible assumption
    | with_reducible exact Moves.refl _ _
    | decide
    | with_reducible apply Moves.step (State.busWrite_Crane _ _ _ (by first | decide | (simp only [F.CRANE_C_CTL_PAUSE]; omega) | (simp only [F.CRANE_C_CTL_PAUSE]; split <;> decide) | (simp only [F.CRANE_C_CTL_PAUSE]; (repeat' split) <;> omega)))

theorem execCraneStop_moves (src : Source) (ch : Fin 16) (v : Word) (s : State) (t : State) (h : execCraneStop src ch v s = .next t) :
    Moves 0xc4520229d92a0a2 s t := by
  unfold execCraneStop at h
  refine acting_moves (by decide) (fun _ => ?_) h
  repeat' first
    | with_reducible assumption
    | with_reducible exact Moves.refl _ _
    | decide
    | with_reducible apply Moves.step (State.busWrite_Crane _ _ _ (by first | decide | (simp only [F.CRANE_C_CTL_STOP]; omega) | (simp only [F.CRANE_C_CTL_STOP]; split <;> decide) | (simp only [F.CRANE_C_CTL_STOP]; (repeat' split) <;> omega)))

theorem execCranePaused_moves (ch : Fin 16) (s : State) (t : State) (h : execCranePaused ch s = .next t) :
    Moves 0x84520229d12a0a2 s t := by
  unfold execCranePaused at h
  refine acting_moves (by decide) (fun _ => ?_) h
  repeat' first
    | with_reducible assumption
    | with_reducible exact Moves.refl _ _
    | decide
    | with_reducible apply Moves.step (State.cranePaused_moves ..)

theorem execManifestFetch_moves (ch : Fin 16) (s : State) (t : State) (h : execManifestFetch ch s = .next t) :
    Moves 0x84520228d12a0a2 s t := by
  unfold execManifestFetch at h
  refine acting_moves (by decide) (fun _ => ?_) h
  repeat' first
    | with_reducible assumption
    | with_reducible exact Moves.refl _ _
    | decide
    | with_reducible apply Moves.step (State.manifestFetch_moves ..)

theorem execCraneCopy_moves (ch : Fin 16) (pieces : BitVec 22) (s : State) (t : State) (h : execCraneCopy ch pieces s = .next t) :
    Moves 0xfffffffdffffffb s t := by
  unfold execCraneCopy at h
  refine acting_moves (by decide) (fun _ => ?_) h
  repeat' first
    | with_reducible assumption
    | with_reducible exact Moves.refl _ _
    | decide
    | with_reducible apply Moves.step (State.craneMove_moves ..)

theorem execCraneFill_moves (ch : Fin 16) (pieces : BitVec 22) (s : State) (t : State) (h : execCraneFill ch pieces s = .next t) :
    Moves 0xfffffffdffffffb s t := by
  unfold execCraneFill at h
  refine acting_moves (by decide) (fun _ => ?_) h
  repeat' first
    | with_reducible assumption
    | with_reducible exact Moves.refl _ _
    | decide
    | with_reducible apply Moves.step (State.craneMove_moves ..)

theorem execCraneCompare_moves (ch : Fin 16) (pieces : BitVec 22) (s : State) (t : State) (h : execCraneCompare ch pieces s = .next t) :
    Moves 0xfffffffdffffffb s t := by
  unfold execCraneCompare at h
  refine acting_moves (by decide) (fun _ => ?_) h
  repeat' first
    | with_reducible assumption
    | with_reducible exact Moves.refl _ _
    | decide
    | with_reducible apply Moves.step (State.craneMove_moves ..)

theorem execCraneLink_moves (ch : Fin 16) (s : State) (t : State) (h : execCraneLink ch s = .next t) :
    Moves 0x84520228d12a0a2 s t := by
  unfold execCraneLink at h
  refine acting_moves (by decide) (fun _ => ?_) h
  repeat' first
    | with_reducible assumption
    | with_reducible exact Moves.refl _ _
    | decide
    | with_reducible apply Moves.step (State.craneLink_moves ..)

theorem execCraneOpReserved_moves (ch : Fin 16) (s : State) (t : State) (h : execCraneOpReserved ch s = .next t) :
    Moves 0x80520228d12a0a2 s t := by
  unfold execCraneOpReserved at h
  refine acting_moves (by decide) (fun _ => ?_) h
  repeat' first
    | with_reducible assumption
    | with_reducible exact Moves.refl _ _
    | decide
    | with_reducible apply Moves.step (State.craneReserved_moves ..)

theorem execManifestWriteback_moves (ch : Fin 16) (s : State) (t : State) (h : execManifestWriteback ch s = .next t) :
    Moves 0x84520229d12a0a2 s t := by
  unfold execManifestWriteback at h
  refine acting_moves (by decide) (fun _ => ?_) h
  repeat' first
    | with_reducible assumption
    | with_reducible exact Moves.refl _ _
    | decide
    | with_reducible apply Moves.step (State.manifestBack_moves ..)

theorem execCraneAccessTimeout_moves (ch : Fin 16) (s : State) (t : State) (h : execCraneAccessTimeout ch s = .next t) :
    Moves 0x84520228d12a0a2 s t := by
  unfold execCraneAccessTimeout at h
  refine acting_moves (by decide) (fun _ => ?_) h
  repeat' first
    | with_reducible assumption
    | with_reducible exact Moves.refl _ _
    | decide
    | with_reducible apply Moves.step (State.craneTimeout_moves ..)

theorem execRemoteAnswerTimeout_moves (ch : Fin 16) (s : State) (t : State) (h : execRemoteAnswerTimeout ch s = .next t) :
    Moves 0x805a022cd12a0e2 s t := by
  unfold execRemoteAnswerTimeout at h
  refine acting_moves (by decide) (fun _ => ?_) h
  repeat' first
    | with_reducible assumption
    | with_reducible exact Moves.refl _ _
    | decide
    | with_reducible apply Moves.step (State.remoteTimeout_moves ..)

theorem execCraneCntClr_moves (src : Source) (v : Word) (s : State) (t : State) (h : execCraneCntClr src v s = .next t) :
    Moves 0xc4520229d92a0a2 s t := by
  unfold execCraneCntClr at h
  refine acting_moves (by decide) (fun _ => ?_) h
  repeat' first
    | with_reducible assumption
    | with_reducible exact Moves.refl _ _
    | decide
    | with_reducible apply Moves.step (State.busWrite_Crane _ _ _ (by first | decide | (simp only [F.CRANE_CNT_CLR_CLR]; omega) | (simp only [F.CRANE_CNT_CLR_CLR]; split <;> decide) | (simp only [F.CRANE_CNT_CLR_CLR]; (repeat' split) <;> omega)))

end Sys2Proof.Machine
end

