-- ==== Sys2Proof/Laws/OnCraneCmds.lean ====
section
/-! SUPPORT. What the commands of Machine/CraneCmds.lean answer while the device acts. -/

namespace Sys2Proof.Machine

set_option linter.all false

theorem on_craneGo {s : State} (hon : s.on = true) (src : Source) (ch : Fin 16) (v : Word) :
    exec (.craneGo src ch v) s = .next (State.follow (s.busWrite src (F.CRANE_C_CTL_GO ch.val).addr (fixBit v 31)) s) := by
  show execCraneGo src ch v s = _
  exact acting_on hon

theorem on_craneKick {s : State} (hon : s.on = true) (src : Source) (ch : Fin 16) (v : Word) :
    exec (.craneKick src ch v) s = .next (State.follow (s.busWrite src (F.CRANE_C_CTL_KICK ch.val).addr (fixBit v 28)) s) := by
  show execCraneKick src ch v s = _
  exact acting_on hon

theorem on_cranePause {s : State} (hon : s.on = true) (src : Source) (ch : Fin 16) (v : Word) :
    exec (.cranePause src ch v) s = .next (State.follow (s.busWrite src (F.CRANE_C_CTL_PAUSE ch.val).addr v) s) := by
  show execCranePause src ch v s = _
  exact acting_on hon

theorem on_craneStop {s : State} (hon : s.on = true) (src : Source) (ch : Fin 16) (v : Word) :
    exec (.craneStop src ch v) s = .next (State.follow (s.busWrite src (F.CRANE_C_CTL_STOP ch.val).addr (fixBit v 30)) s) := by
  show execCraneStop src ch v s = _
  exact acting_on hon

theorem on_cranePaused {s : State} (hon : s.on = true) (ch : Fin 16) :
    exec (.cranePaused ch) s = .next (State.follow (s.cranePaused ch.val) s) := by
  show execCranePaused ch s = _
  exact acting_on hon

theorem on_manifestFetch {s : State} (hon : s.on = true) (ch : Fin 16) :
    exec (.manifestFetch ch) s = .next (State.follow (s.manifestFetch ch.val) s) := by
  show execManifestFetch ch s = _
  exact acting_on hon

theorem on_craneCopy {s : State} (hon : s.on = true) (ch : Fin 16) (pieces : BitVec 22) :
    exec (.craneCopy ch pieces) s = .next (State.follow (s.craneMove ch 0 pieces.toNat) s) := by
  show execCraneCopy ch pieces s = _
  exact acting_on hon

theorem on_craneFill {s : State} (hon : s.on = true) (ch : Fin 16) (pieces : BitVec 22) :
    exec (.craneFill ch pieces) s = .next (State.follow (s.craneMove ch 1 pieces.toNat) s) := by
  show execCraneFill ch pieces s = _
  exact acting_on hon

theorem on_craneCompare {s : State} (hon : s.on = true) (ch : Fin 16) (pieces : BitVec 22) :
    exec (.craneCompare ch pieces) s = .next (State.follow (s.craneMove ch 2 pieces.toNat) s) := by
  show execCraneCompare ch pieces s = _
  exact acting_on hon

theorem on_craneLink {s : State} (hon : s.on = true) (ch : Fin 16) :
    exec (.craneLink ch) s = .next (State.follow (s.craneLink ch.val) s) := by
  show execCraneLink ch s = _
  exact acting_on hon

theorem on_craneOpReserved {s : State} (hon : s.on = true) (ch : Fin 16) :
    exec (.craneOpReserved ch) s = .next (State.follow (s.craneReserved ch.val) s) := by
  show execCraneOpReserved ch s = _
  exact acting_on hon

theorem on_manifestWriteback {s : State} (hon : s.on = true) (ch : Fin 16) :
    exec (.manifestWriteback ch) s = .next (State.follow (s.manifestBack ch.val) s) := by
  show execManifestWriteback ch s = _
  exact acting_on hon

theorem on_craneAccessTimeout {s : State} (hon : s.on = true) (ch : Fin 16) :
    exec (.craneAccessTimeout ch) s = .next (State.follow (s.craneTimeout ch.val) s) := by
  show execCraneAccessTimeout ch s = _
  exact acting_on hon

theorem on_remoteAnswerTimeout {s : State} (hon : s.on = true) (ch : Fin 16) :
    exec (.remoteAnswerTimeout ch) s = .next (State.follow (s.remoteTimeout ch.val) s) := by
  show execRemoteAnswerTimeout ch s = _
  exact acting_on hon

theorem on_craneCntClr {s : State} (hon : s.on = true) (src : Source) (v : Word) :
    exec (.craneCntClr src v) s = .next (State.follow (s.busWrite src F.CRANE_CNT_CLR_CLR.addr (fixBit v 0)) s) := by
  show execCraneCntClr src v s = _
  exact acting_on hon

end Sys2Proof.Machine
end

