-- ==== Sys2Proof/Laws/DoesCrane.lean ====
section
/-! SUPPORT. What the commands of Crane's channels do where they take effect. -/

namespace Sys2Proof.Machine

set_option linter.all false

variable {s : State}

theorem crane_write {src : Source} (ch : Fin 16) {t : State} {w : Word} (ht : s.touch src = t) (hs : srcCrane src = false)
    (ho : s.opens src (0x150100 + 0x40 * ch.val) w = true) :
    s.busWrite src (0x150100 + 0x40 * ch.val) w = t.craneCtl ch.val w.toNat (t.srcLevel src true) (t.asPilot src) := by
  have h := ch.isLt
  rw [State.opens_Crane ho (by omega) (by omega) (by simp only [evtAddr]; omega), ht]
  unfold State.writeCrane
  rw [if_neg (by dsimp only [F.CRANE_CNT_CLR_CLR]; omega), if_pos (by omega)]
  dsimp only
  rw [show (0x150100 + 0x40 * ch.val - 0x150100) % 0x40 = 0 by omega,
      show (0x150100 + 0x40 * ch.val - 0x150100) / 0x40 = ch.val by omega, hs]
  simp only [Bool.false_eq_true, if_false]

/-- GO with a good ring, of a channel that is IDLE or STOPPED: it starts at HEAD at the writer's level. -/
theorem does_craneGo (hon : s.on = true) (src : Source) (ch : Fin 16) (v : Word) {t t0 : State} {w : Word} (ht : s.touch src = t)
    (hw : fixBit v 31 = w) (hs : srcCrane src = false) (ho : s.opens src (0x150100 + 0x40 * ch.val) w = true)
    (h1 : t.craneLoose ch.val = true) (ht0 : t.put (F.CRANE_C_CTL_LOG_SIZE ch.val) (bitsAt w.toNat 0 5) = t0)
    (h2 : t0.craneLoose ch.val = true) (h3 : ringGood (t0.craneBase ch.val) (t0.craneLog ch.val) = true)
    (h4 : bitAt w.toNat 28 = false) (h5 : bitAt w.toNat 30 = false) :
    exec (.craneGo src ch v) s = .next (
      let a := (((t0.putb (F.CRANE_C_STAT_REFUSED ch.val) false).put (F.CRANE_C_STAT_LINKS ch.val) 0).put
        (F.CRANE_C_STAT_LEVEL ch.val) (t.srcLevel src true)).put (F.CRANE_C_STAT_STOPC ch.val) 0
      let b : State := { a with crane := { a.crane with byPilot := setBitAt a.crane.byPilot ch.val (t.asPilot src) } }
      let c := ((b.setChan ch.val { phase := 1 }).craneTo ch.val 1).craneGate ch.val
      State.follow (c.craneCtlFields ch.val (setBitsAt w.toNat 0 5 (c.craneLog ch.val))) s) := by
  rw [on_craneGo hon, show (F.CRANE_C_CTL_GO ch.val).addr = 0x150100 + 0x40 * ch.val by dsimp only [F.CRANE_C_CTL_GO]; omega, hw,
    crane_write ch ht hs ho]
  unfold State.craneCtl
  simp only [h1, h4, h5, if_true, Bool.false_eq_true, if_false, ht0,
    show bitAt w.toNat 31 = true from by rw [← hw, bitAt_fixBit v (by decide)]]
  unfold State.craneGo chRUN
  rw [if_neg (by simp [h2, h3])]

/-- GO of a running channel, or with a ring that breaks R402, is refused: REFUSED and GO_REFUSED. -/
theorem refuses_craneGo (hon : s.on = true) (src : Source) (ch : Fin 16) (v : Word) {t : State} {w : Word} (ht : s.touch src = t)
    (hw : fixBit v 31 = w) (hs : srcCrane src = false) (ho : s.opens src (0x150100 + 0x40 * ch.val) w = true)
    (h1 : t.craneLoose ch.val = false) (h4 : bitAt w.toNat 28 = false) (h5 : bitAt w.toNat 30 = false) :
    exec (.craneGo src ch v) s = .next (
      let c := (t.putb (F.CRANE_C_STAT_REFUSED ch.val) true).raise 0x1505 ch.val
      State.follow (c.craneCtlFields ch.val (setBitsAt w.toNat 0 5 (c.craneLog ch.val))) s) := by
  rw [on_craneGo hon, show (F.CRANE_C_CTL_GO ch.val).addr = 0x150100 + 0x40 * ch.val by dsimp only [F.CRANE_C_CTL_GO]; omega, hw,
    crane_write ch ht hs ho]
  unfold State.craneCtl
  simp only [h1, h4, h5, if_true, Bool.false_eq_true, if_false,
    show bitAt w.toNat 31 = true from by rw [← hw, bitAt_fixBit v (by decide)]]
  unfold State.craneGo
  rw [if_pos (by simp [h1])]

theorem does_craneKick (hon : s.on = true) (src : Source) (ch : Fin 16) (v : Word) {t u : State} {w : Word} (ht : s.touch src = t)
    (hw : fixBit v 28 = w) (hs : srcCrane src = false) (ho : s.opens src (0x150100 + 0x40 * ch.val) w = true)
    (h3 : bitAt w.toNat 31 = false) (h5 : bitAt w.toNat 30 = false)
    (h1 : t.craneLoose ch.val = true) (ht0 : (t.put (F.CRANE_C_CTL_LOG_SIZE ch.val) (bitsAt w.toNat 0 5)).craneCtlFields ch.val
      (setBitsAt w.toNat 0 5 ((t.put (F.CRANE_C_CTL_LOG_SIZE ch.val) (bitsAt w.toNat 0 5)).craneLog ch.val)) = u)
    (h2 : u.craneState ch.val = 0) :
    exec (.craneKick src ch v) s = .next (State.follow
      (((u.putb (F.CRANE_C_STAT_KICK_PEND ch.val) true).setChan ch.val { phase := 1 }).craneTo ch.val 1) s) := by
  rw [on_craneKick hon,
      show (F.CRANE_C_CTL_KICK ch.val).addr = 0x150100 + 0x40 * ch.val by dsimp only [F.CRANE_C_CTL_KICK]; omega,
    hw, crane_write ch ht hs ho]
  unfold State.craneCtl
  simp only [h1, h3, h5, if_true, Bool.false_eq_true, if_false, ht0,
    show bitAt w.toNat 28 = true from by rw [← hw, bitAt_fixBit v (by decide)]]
  unfold State.craneKick chIDLE chRUN
  dsimp only
  rw [if_pos h2]

/-- A kick of a channel that is not IDLE is kept in KICK_PEND. -/
theorem does_craneKick_busy (hon : s.on = true) (src : Source) (ch : Fin 16) (v : Word) {t u : State} {w : Word}
    (ht : s.touch src = t) (hw : fixBit v 28 = w) (hs : srcCrane src = false)
    (ho : s.opens src (0x150100 + 0x40 * ch.val) w = true) (h3 : bitAt w.toNat 31 = false) (h5 : bitAt w.toNat 30 = false)
    (h1 : t.craneLoose ch.val = false) (ht0 : t.craneCtlFields ch.val (setBitsAt w.toNat 0 5 (t.craneLog ch.val)) = u)
    (h2 : u.craneState ch.val ≠ 0) :
    exec (.craneKick src ch v) s = .next (State.follow (u.putb (F.CRANE_C_STAT_KICK_PEND ch.val) true) s) := by
  rw [on_craneKick hon,
      show (F.CRANE_C_CTL_KICK ch.val).addr = 0x150100 + 0x40 * ch.val by dsimp only [F.CRANE_C_CTL_KICK]; omega,
    hw, crane_write ch ht hs ho]
  unfold State.craneCtl
  simp only [h1, h3, h5, if_true, Bool.false_eq_true, if_false, ht0,
    show bitAt w.toNat 28 = true from by rw [← hw, bitAt_fixBit v (by decide)]]
  unfold State.craneKick chIDLE
  dsimp only
  rw [if_neg h2]

/-- PAUSE of a running channel: URGENT and PAUSE take their bits and the channel goes to PAUSING. -/
theorem does_cranePause (hon : s.on = true) (src : Source) (ch : Fin 16) (v : Word) {t : State} (ht : s.touch src = t)
    (hs : srcCrane src = false) (ho : s.opens src (0x150100 + 0x40 * ch.val) v = true)
    (h1 : t.craneLoose ch.val = false) (h3 : bitAt v.toNat 31 = false) (h4 : bitAt v.toNat 28 = false)
    (h5 : bitAt v.toNat 30 = false) :
    exec (.cranePause src ch v) s = .next (State.follow (((t.putb (F.CRANE_C_CTL_URGENT ch.val) (bitAt v.toNat 27)).putb
      (F.CRANE_C_CTL_PAUSE ch.val) (bitAt v.toNat 29)).craneThr ch.val) s) := by
  rw [on_cranePause hon,
      show (F.CRANE_C_CTL_PAUSE ch.val).addr = 0x150100 + 0x40 * ch.val by dsimp only [F.CRANE_C_CTL_PAUSE]; omega,
    crane_write ch ht hs ho]
  unfold State.craneCtl
  simp only [h1, h3, h4, h5, Bool.false_eq_true, if_false]
  unfold State.craneCtlFields
  simp only [h1, Bool.false_eq_true, if_false, bitAt_set5 _ _ (show 5 ≤ 27 by decide),
    bitAt_set5 _ _ (show 5 ≤ 29 by decide)]

theorem does_craneStop (hon : s.on = true) (src : Source) (ch : Fin 16) (v : Word) {t u : State} {w : Word} (ht : s.touch src = t)
    (hw : fixBit v 30 = w) (hs : srcCrane src = false) (ho : s.opens src (0x150100 + 0x40 * ch.val) w = true)
    (h3 : bitAt w.toNat 31 = false) (h4 : bitAt w.toNat 28 = false)
    (h1 : t.craneLoose ch.val = false) (ht0 : t.craneCtlFields ch.val (setBitsAt w.toNat 0 5 (t.craneLog ch.val)) = u)
    (h2 : u.craneState ch.val ≠ 4) (h6 : (u.chan ch.val).phase = 2 ∨ (u.chan ch.val).phase = 3) (h7 : u.craneState ch.val ≠ 3) :
    exec (.craneStop src ch v) s = .next (State.follow
      ((u.setChan ch.val { u.chan ch.val with stop := true }).craneTo ch.val 2) s) := by
  rw [on_craneStop hon,
      show (F.CRANE_C_CTL_STOP ch.val).addr = 0x150100 + 0x40 * ch.val by dsimp only [F.CRANE_C_CTL_STOP]; omega,
    hw, crane_write ch ht hs ho]
  unfold State.craneCtl
  simp only [h1, h3, h4, if_true, Bool.false_eq_true, if_false, ht0,
    show bitAt w.toNat 30 = true from by rw [← hw, bitAt_fixBit v (by decide)]]
  unfold State.craneStop chSTOPPED chPAUSED chPAUSING
  dsimp only
  rw [if_neg h2, if_pos h6, if_neg h7]

/-- STOP with no Manifest in progress. -/
theorem does_craneStop_idle (hon : s.on = true) (src : Source) (ch : Fin 16) (v : Word) {t u : State} {w : Word}
    (ht : s.touch src = t) (hw : fixBit v 30 = w) (hs : srcCrane src = false)
    (ho : s.opens src (0x150100 + 0x40 * ch.val) w = true) (h3 : bitAt w.toNat 31 = false) (h4 : bitAt w.toNat 28 = false)
    (h1 : t.craneLoose ch.val = false) (ht0 : t.craneCtlFields ch.val (setBitsAt w.toNat 0 5 (t.craneLog ch.val)) = u)
    (h2 : u.craneState ch.val ≠ 4) (h6 : (u.chan ch.val).phase ≠ 2 ∧ (u.chan ch.val).phase ≠ 3) :
    exec (.craneStop src ch v) s = .next (State.follow
      (((u.setChan ch.val {}).craneTo ch.val 4).put (F.CRANE_C_STAT_STOPC ch.val) 3) s) := by
  rw [on_craneStop hon,
      show (F.CRANE_C_CTL_STOP ch.val).addr = 0x150100 + 0x40 * ch.val by dsimp only [F.CRANE_C_CTL_STOP]; omega,
    hw, crane_write ch ht hs ho]
  unfold State.craneCtl
  simp only [h1, h3, h4, if_true, Bool.false_eq_true, if_false, ht0,
    show bitAt w.toNat 30 = true from by rw [← hw, bitAt_fixBit v (by decide)]]
  unfold State.craneStop chSTOPPED
  dsimp only
  rw [if_neg h2, if_neg (by omega)]
  unfold State.craneHalt chSTOPPED
  dsimp only
  rw [if_pos rfl]

theorem does_cranePaused (hon : s.on = true) (ch : Fin 16) (h1 : s.up domHOLD = true) (h2 : s.craneState ch.val = 2)
    (h3 : (s.chan ch.val).await = []) (h4 : (s.chan ch.val).stop = false) :
    exec (.cranePaused ch) s = .next (State.follow ((s.craneCur ch.val).craneTo ch.val 3) s) := by
  rw [on_cranePaused hon]
  unfold State.cranePaused
  rw [if_neg (by simp [h1, h2, h3, chPAUSING])]
  simp only [h4, Bool.false_eq_true, if_false, chPAUSED]

/-- A STOP waits: the channel ends stopped. -/
theorem does_cranePaused_stop (hon : s.on = true) (ch : Fin 16) (h1 : s.up domHOLD = true) (h2 : s.craneState ch.val = 2)
    (h3 : (s.chan ch.val).await = []) (h4 : (s.chan ch.val).stop = true) :
    exec (.cranePaused ch) s = .next (State.follow (s.craneStopEnd ch.val) s) := by
  rw [on_cranePaused hon]
  unfold State.cranePaused
  rw [if_neg (by simp [h1, h2, h3, chPAUSING])]
  simp only [h4, if_true]

theorem does_manifestFetch (hon : s.on = true) (ch : Fin 16) {a : Nat} {w : List Nat} (h1 : s.up domHOLD = true)
    (h2 : s.craneState ch.val = 1) (h3 : (s.chan ch.val).phase = 1) (ha : s.craneAddr ch.val = a)
    (h4 : s.manReads a = true) (hw : s.manWords a = w) (h5 : bitAt (nth 0 w 0) 31 = true) :
    exec (.manifestFetch ch) s = .next (State.follow
      ((((s.putb (F.CRANE_C_STAT_KICK_PEND ch.val) false).setChan ch.val { phase := 2, man := w }).putb
        (F.CRANE_C_STAT_DESC ch.val) false).craneCur ch.val) s) := by
  rw [on_manifestFetch hon]
  unfold State.manifestFetch
  rw [if_neg (by simp [h1, h2, h3, chRUN])]
  simp only [ha, h4, hw, h5, Bool.not_true, Bool.false_eq_true, if_false, if_true, chIDLE]

/-- A Manifest that software owns: the channel is IDLE again. -/
theorem does_manifestFetch_idle (hon : s.on = true) (ch : Fin 16) {a : Nat} {w : List Nat} (h1 : s.up domHOLD = true)
    (h2 : s.craneState ch.val = 1) (h3 : (s.chan ch.val).phase = 1) (ha : s.craneAddr ch.val = a)
    (h4 : s.manReads a = true) (hw : s.manWords a = w) (h5 : bitAt (nth 0 w 0) 31 = false) :
    exec (.manifestFetch ch) s = .next (State.follow
      (((s.putb (F.CRANE_C_STAT_KICK_PEND ch.val) false).setChan ch.val {}).craneTo ch.val 0) s) := by
  rw [on_manifestFetch hon]
  unfold State.manifestFetch
  rw [if_neg (by simp [h1, h2, h3, chRUN])]
  simp only [ha, h4, hw, h5, Bool.not_true, Bool.false_eq_true, if_false, chIDLE]

theorem crane_move {ch : Fin 16} {op k : Nat} (h : s.craneActs ch.val op = true) (hb : (s.chan ch.val).begun = true) :
    s.craneMove ch op k = ((State.cranePieces k s ch).craneSettle ch.val).craneCur ch.val := by
  unfold State.craneMove
  simp only [h, hb, Bool.not_true, Bool.false_eq_true, if_false, if_true]

theorem crane_first {ch : Fin 16} {op k : Nat} (h : s.craneActs ch.val op = true) (hb : (s.chan ch.val).begun = false) :
    s.craneMove ch op k = ((State.cranePieces k (s.craneBegin ch.val) ch).craneSettle ch.val).craneCur ch.val := by
  unfold State.craneMove
  simp only [h, hb, Bool.not_true, Bool.false_eq_true, if_false]

theorem does_craneCopy (hon : s.on = true) (ch : Fin 16) (pieces : BitVec 22) (h : s.craneActs ch.val 0 = true)
    (hb : (s.chan ch.val).begun = true) :
    exec (.craneCopy ch pieces) s = .next (State.follow
      (((State.cranePieces pieces.toNat s ch).craneSettle ch.val).craneCur ch.val) s) := by
  rw [on_craneCopy hon, crane_move h hb]

theorem begins_craneCopy (hon : s.on = true) (ch : Fin 16) (pieces : BitVec 22) (h : s.craneActs ch.val 0 = true)
    (hb : (s.chan ch.val).begun = false) :
    exec (.craneCopy ch pieces) s = .next (State.follow
      (((State.cranePieces pieces.toNat (s.craneBegin ch.val) ch).craneSettle ch.val).craneCur ch.val) s) := by
  rw [on_craneCopy hon, crane_first h hb]

theorem does_craneFill (hon : s.on = true) (ch : Fin 16) (pieces : BitVec 22) (h : s.craneActs ch.val 1 = true)
    (hb : (s.chan ch.val).begun = true) :
    exec (.craneFill ch pieces) s = .next (State.follow
      (((State.cranePieces pieces.toNat s ch).craneSettle ch.val).craneCur ch.val) s) := by
  rw [on_craneFill hon, crane_move h hb]

theorem begins_craneFill (hon : s.on = true) (ch : Fin 16) (pieces : BitVec 22) (h : s.craneActs ch.val 1 = true)
    (hb : (s.chan ch.val).begun = false) :
    exec (.craneFill ch pieces) s = .next (State.follow
      (((State.cranePieces pieces.toNat (s.craneBegin ch.val) ch).craneSettle ch.val).craneCur ch.val) s) := by
  rw [on_craneFill hon, crane_first h hb]

theorem does_craneCompare (hon : s.on = true) (ch : Fin 16) (pieces : BitVec 22) (h : s.craneActs ch.val 2 = true)
    (hb : (s.chan ch.val).begun = true) :
    exec (.craneCompare ch pieces) s = .next (State.follow
      (((State.cranePieces pieces.toNat s ch).craneSettle ch.val).craneCur ch.val) s) := by
  rw [on_craneCompare hon, crane_move h hb]

theorem begins_craneCompare (hon : s.on = true) (ch : Fin 16) (pieces : BitVec 22) (h : s.craneActs ch.val 2 = true)
    (hb : (s.chan ch.val).begun = false) :
    exec (.craneCompare ch pieces) s = .next (State.follow
      (((State.cranePieces pieces.toNat (s.craneBegin ch.val) ch).craneSettle ch.val).craneCur ch.val) s) := by
  rw [on_craneCompare hon, crane_first h hb]

theorem does_craneLink (hon : s.on = true) (ch : Fin 16) {x : Chan} {k : Nat} (h : s.craneActs ch.val 3 = true)
    (hx : s.chan ch.val = x) (hk : s.get (F.CRANE_C_STAT_LINKS ch.val) + 1 = k) :
    exec (.craneLink ch) s = .next (State.follow ((s.put (F.CRANE_C_STAT_LINKS ch.val) k).setChan ch.val { x with
      begun := true, moved := x.len, phase := 3
      cause := if 9 ≤ k then 8 else if !x.reservedZero || decide (32 ≤ x.len) then 2 else if !ringGood x.src x.len then 3 else 0 })
      s) := by
  rw [on_craneLink hon]
  unfold State.craneLink
  simp only [h, hx, hk, Bool.not_true, Bool.false_eq_true, if_false]

theorem does_craneOpReserved (hon : s.on = true) (ch : Fin 16) (h1 : s.up domHOLD = true) (h2 : s.craneState ch.val = 1)
    (h3 : (s.chan ch.val).phase = 2) (h4 : 4 ≤ (s.chan ch.val).op) :
    exec (.craneOpReserved ch) s = .next (State.follow
      (s.setChan ch.val { s.chan ch.val with begun := true, cause := 2, phase := 3 }) s) := by
  rw [on_craneOpReserved hon]
  unfold State.craneReserved
  simp only [h1, h2, h3, h4, chRUN, beq_self_eq_true, decide_true, Bool.and_self, if_true]

/-- A Manifest that is no LINK: its results, its count, and HEAD goes on. -/
theorem does_manifestWriteback (hon : s.on = true) (ch : Fin 16) (h1 : s.up domHOLD = true) (h2 : s.craneState ch.val = 1)
    (h3 : (s.chan ch.val).phase = 3) (h4 : (s.chan ch.val).op ≠ 3) (h5 : (s.chan ch.val).cause ≠ 8) :
    exec (.manifestWriteback ch) s = .next (State.follow
      (((((s.manStore ch.val).manCount ch.val)).headNext ch.val).setChan ch.val { phase := 1 }) s) := by
  rw [on_manifestWriteback hon]
  unfold State.manifestBack
  rw [if_neg (by simp [h1, h2, h3, chRUN])]
  dsimp only
  rw [if_neg h5, if_neg (by simp [h4]), if_neg (by simp [h4])]

/-- A good LINK: the channel goes on at the head of the new ring. -/
theorem does_manifestWriteback_link (hon : s.on = true) (ch : Fin 16) {x : Chan} (h1 : s.up domHOLD = true)
    (h2 : s.craneState ch.val = 1) (hx : s.chan ch.val = x) (h3 : x.phase = 3) (h4 : x.op = 3) (h5 : x.cause = 0) :
    exec (.manifestWriteback ch) s = .next (State.follow ((((((((s.manStore ch.val).manCount ch.val)).put
      (F.CRANE_C_BASE_LO_BASE ch.val) (x.src % 2 ^ 32)).put (F.CRANE_C_BASE_HI_BASE ch.val) (x.src / 2 ^ 32)).put
      (F.CRANE_C_CTL_LOG_SIZE ch.val) (x.len % 32)).put (F.CRANE_C_HEAD_HEAD ch.val) 0).setChan ch.val { phase := 1 }) s) := by
  rw [on_manifestWriteback hon]
  unfold State.manifestBack
  rw [if_neg (by simp [h1, h2, hx, h3, chRUN])]
  dsimp only
  rw [hx, if_neg (by simp [h5]), if_neg (by simp [h5]), if_pos ⟨h4, h5⟩]

/-- The fetch or write-back in progress had no response: the channel stops with FETCH_ERR. -/
theorem does_craneAccessTimeout (hon : s.on = true) (ch : Fin 16) (h1 : s.up domHOLD = true)
    (h2 : s.craneState ch.val = 1 ∨ s.craneState ch.val = 2) (h3 : (s.chan ch.val).phase = 1 ∨ (s.chan ch.val).phase = 3) :
    exec (.craneAccessTimeout ch) s = .next (State.follow
      ((((s.setChan ch.val {}).craneTo ch.val 4).put (F.CRANE_C_STAT_STOPC ch.val) 1).raise 0x1503 ch.val) s) := by
  rw [on_craneAccessTimeout hon]
  unfold State.craneTimeout
  dsimp only
  rw [if_neg (by rcases h2 with h | h <;> simp [h1, h, chRUN, chPAUSING]), if_pos h3]
  unfold State.craneHalt chSTOPPED
  dsimp only
  rw [if_neg (by decide)]

theorem does_remoteAnswerTimeout (hon : s.on = true) (ch : Fin 16) {k lim : Nat} {rest : List (Nat × Nat)} {t : State}
    (h1 : s.up domHOLD = true) (h2 : (s.chan ch.val).await = (k, lim) :: rest) (ht : s.elapseTo lim = t) :
    exec (.remoteAnswerTimeout ch) s = .next (State.follow
      (((t.setChan ch.val { t.chan ch.val with await := rest }).remoteFail ch.val k 4).craneSettle ch.val) s) := by
  rw [on_remoteAnswerTimeout hon]
  unfold State.remoteTimeout
  rw [h2]
  dsimp only
  rw [if_neg (by simp [h1]), ht]

theorem does_craneCntClr (hon : s.on = true) (src : Source) (v : Word) {t : State} (ht : s.touch src = t)
    (ho : s.opens src F.CRANE_CNT_CLR_CLR.addr (fixBit v 0) = true) :
    exec (.craneCntClr src v) s = .next (State.follow
      (t.each (List.range 16) (fun u n => u.put (F.CRANE_C_BAD_COUNT n) 0)) s) := by
  rw [on_craneCntClr hon, State.opens_Crane ho (by decide) (by decide) (by decide), ht]
  unfold State.writeCrane
  rw [if_pos (by decide), State.iff_of (bitAt_fixBit v (by decide))]
  unfold State.craneClear; rfl

end Sys2Proof.Machine
end

