-- ==== Sys2Proof/Laws/MovesFrontEndCmds.lean ====
section
/-! SUPPORT. What each operation of Machine/FrontEndCmds.lean may change. -/

namespace Sys2Proof.Machine

set_option linter.all false

theorem paWrite_moves (src : Source) (v : Word) (op : Nat) (s : State) : Moves 0xfffffffdffffffb s (paWrite src v op s) := by
  unfold paWrite
  repeat' first
    | with_reducible assumption
    | with_reducible exact Moves.refl _ _
    | decide
    | with_reducible apply Moves.step (State.busWrite_moves ..)

theorem rfWrite_moves (src : Source) (n : Nat) (v : Word) (cmd : Nat) (s : State) : Moves 0xfffffffdffffffb s (rfWrite src n v cmd s) := by
  unfold rfWrite
  repeat' first
    | with_reducible assumption
    | with_reducible exact Moves.refl _ _
    | decide
    | with_reducible apply Moves.step (State.busWrite_moves ..)

end Sys2Proof.Machine
end

