-- ==== Sys2Proof/Laws/ExecFrontEndCmds.lean ====
section
/-! SUPPORT. What each command of Machine/FrontEndCmds.lean may change. -/

namespace Sys2Proof.Machine

set_option linter.all false

theorem execBiasWrite_moves (src : Source) (o : Fin 72) (v : Word) (s : State) (t : State) (h : execBiasWrite src o v s = .next t) :
    Moves 0xc0720228d83a0e2 s t := by
  unfold execBiasWrite at h
  refine acting_moves (by decide) (fun _ => ?_) h
  repeat' first
    | with_reducible assumption
    | with_reducible exact Moves.refl _ _
    | decide
    | with_reducible apply Moves.step (State.busWrite_Fend _ _ _ (by unfold biasTarget; split <;> simp only [F.FEND_P_BIAS_TARGET, F.FEND_AUX_TARGET] <;> omega))

theorem execPaCmdOn_moves (src : Source) (v : Word) (s : State) (t : State) (h : execPaCmdOn src v s = .next t) :
    Moves 0xc0720228d83a0e2 s t := by
  unfold execPaCmdOn at h
  refine acting_moves (by decide) (fun _ => ?_) h
  repeat' first
    | with_reducible assumption
    | with_reducible exact Moves.refl _ _
    | decide
    | unfold paWrite
    | with_reducible apply Moves.step (State.busWrite_Fend _ _ _ (by first | decide | (simp only [F.FEND_PA_CMD_GO]; omega) | (simp only [F.FEND_PA_CMD_GO]; split <;> decide) | (simp only [F.FEND_PA_CMD_GO]; (repeat' split) <;> omega)))

theorem execPaCmdOff_moves (src : Source) (v : Word) (s : State) (t : State) (h : execPaCmdOff src v s = .next t) :
    Moves 0xc0720228d83a0e2 s t := by
  unfold execPaCmdOff at h
  refine acting_moves (by decide) (fun _ => ?_) h
  repeat' first
    | with_reducible assumption
    | with_reducible exact Moves.refl _ _
    | decide
    | unfold paWrite
    | with_reducible apply Moves.step (State.busWrite_Fend _ _ _ (by first | decide | (simp only [F.FEND_PA_CMD_GO]; omega) | (simp only [F.FEND_PA_CMD_GO]; split <;> decide) | (simp only [F.FEND_PA_CMD_GO]; (repeat' split) <;> omega)))

theorem execPaCmdIgnored_moves (src : Source) (v : Word) (s : State) (t : State) (h : execPaCmdIgnored src v s = .next t) :
    Moves 0xc0720228d83a0e2 s t := by
  unfold execPaCmdIgnored at h
  refine acting_moves (by decide) (fun _ => ?_) h
  repeat' first
    | with_reducible assumption
    | with_reducible exact Moves.refl _ _
    | decide
    | unfold paWrite
    | with_reducible apply Moves.step (State.busWrite_Fend _ _ _ (by first | decide | (simp only [F.FEND_PA_CMD_GO]; omega) | (simp only [F.FEND_PA_CMD_GO]; split <;> decide) | (simp only [F.FEND_PA_CMD_GO]; (repeat' split) <;> omega)))

theorem execPaDrainWaitEnd_moves (q : Fin 8) (s : State) (t : State) (h : execPaDrainWaitEnd q s = .next t) :
    Moves 0x807a022cd03a0e2 s t := by
  unfold execPaDrainWaitEnd at h
  refine acting_moves (by decide) (fun _ => ?_) h
  repeat' first
    | with_reducible assumption
    | with_reducible exact Moves.refl _ _
    | decide
    | with_reducible apply Moves.step (State.paWaitEnd_moves ..)

theorem execPaBiasArrived_moves (q : Fin 8) (s : State) (t : State) (h : execPaBiasArrived q s = .next t) :
    Moves 0x807a022cd03a0e2 s t := by
  unfold execPaBiasArrived at h
  refine acting_moves (by decide) (fun _ => ?_) h
  repeat' first
    | with_reducible assumption
    | with_reducible exact Moves.refl _ _
    | decide
    | with_reducible apply Moves.ite
    | with_reducible apply Moves.step (State.paArrived_moves ..)
    | split
    | (with_reducible refine Moves.snd (by assumption) ?_)
    | (with_reducible refine Moves.fst (by assumption) ?_)

theorem execFeFaultDrainOff_moves (s : State) (t : State) (h : execFeFaultDrainOff s = .next t) :
    Moves 0x807a022cd03a0e2 s t := by
  unfold execFeFaultDrainOff at h
  refine acting_moves (by decide) (fun _ => ?_) h
  repeat' first
    | with_reducible assumption
    | with_reducible exact Moves.refl _ _
    | decide
    | with_reducible apply Moves.step (State.feDrainOff_moves ..)

theorem execVnegFault_moves (s : State) (t : State) (h : execVnegFault s = .next t) :
    Moves 0x80720228d03a0e2 s t := by
  unfold execVnegFault at h
  refine acting_moves (by decide) (fun _ => ?_) h
  repeat' first
    | with_reducible assumption
    | with_reducible exact Moves.refl _ _
    | decide
    | with_reducible apply Moves.step (State.feSet_moves ..)

theorem execVnegRestored_moves (s : State) (t : State) (h : execVnegRestored s = .next t) :
    Moves 0x80720228d03a0a2 s t := by
  unfold execVnegRestored at h
  refine acting_moves (by decide) (fun _ => ?_) h
  repeat' first
    | with_reducible assumption
    | with_reducible exact Moves.refl _ _
    | decide
    | with_reducible apply Moves.step (State.feClear_moves ..)

theorem execSynUnlockFault_moves (s : State) (t : State) (h : execSynUnlockFault s = .next t) :
    Moves 0x807a022cd03a0e2 s t := by
  unfold execSynUnlockFault at h
  refine acting_moves (by decide) (fun _ => ?_) h
  repeat' first
    | with_reducible assumption
    | with_reducible exact Moves.refl _ _
    | decide
    | with_reducible apply Moves.step (State.synFault_moves ..)

theorem execRffeWrite_moves (src : Source) (n : Fin 8) (v : Word) (s : State) (t : State) (h : execRffeWrite src n v s = .next t) :
    Moves 0xc0720228d83a0e2 s t := by
  unfold execRffeWrite at h
  refine acting_moves (by decide) (fun _ => ?_) h
  repeat' first
    | with_reducible assumption
    | with_reducible exact Moves.refl _ _
    | decide
    | unfold rfWrite
    | with_reducible apply Moves.step (State.busWrite_Fend _ _ _ (by omega))

theorem execRffeRead_moves (src : Source) (n : Fin 8) (v : Word) (s : State) (t : State) (h : execRffeRead src n v s = .next t) :
    Moves 0xc0720228d83a0e2 s t := by
  unfold execRffeRead at h
  refine acting_moves (by decide) (fun _ => ?_) h
  repeat' first
    | with_reducible assumption
    | with_reducible exact Moves.refl _ _
    | decide
    | unfold rfWrite
    | with_reducible apply Moves.step (State.busWrite_Fend _ _ _ (by omega))

theorem execRffeReg0Write_moves (src : Source) (n : Fin 8) (v : Word) (s : State) (t : State) (h : execRffeReg0Write src n v s = .next t) :
    Moves 0xc0720228d83a0e2 s t := by
  unfold execRffeReg0Write at h
  refine acting_moves (by decide) (fun _ => ?_) h
  repeat' first
    | with_reducible assumption
    | with_reducible exact Moves.refl _ _
    | decide
    | unfold rfWrite
    | with_reducible apply Moves.step (State.busWrite_Fend _ _ _ (by omega))

theorem execRffeExtWrite_moves (src : Source) (n : Fin 8) (v : Word) (s : State) (t : State) (h : execRffeExtWrite src n v s = .next t) :
    Moves 0xc0720228d83a0e2 s t := by
  unfold execRffeExtWrite at h
  refine acting_moves (by decide) (fun _ => ?_) h
  repeat' first
    | with_reducible assumption
    | with_reducible exact Moves.refl _ _
    | decide
    | unfold rfWrite
    | with_reducible apply Moves.step (State.busWrite_Fend _ _ _ (by omega))

theorem execRffeExtRead_moves (src : Source) (n : Fin 8) (v : Word) (s : State) (t : State) (h : execRffeExtRead src n v s = .next t) :
    Moves 0xc0720228d83a0e2 s t := by
  unfold execRffeExtRead at h
  refine acting_moves (by decide) (fun _ => ?_) h
  repeat' first
    | with_reducible assumption
    | with_reducible exact Moves.refl _ _
    | decide
    | unfold rfWrite
    | with_reducible apply Moves.step (State.busWrite_Fend _ _ _ (by omega))

theorem execRffeCmdUnknown_moves (src : Source) (n : Fin 8) (v : Word) (s : State) (t : State) (h : execRffeCmdUnknown src n v s = .next t) :
    Moves 0xc0720228d83a0e2 s t := by
  unfold execRffeCmdUnknown at h
  refine acting_moves (by decide) (fun _ => ?_) h
  repeat' first
    | with_reducible assumption
    | with_reducible exact Moves.refl _ _
    | decide
    | with_reducible apply Moves.ite
    | extract_lets
    | unfold rfWrite
    | with_reducible apply Moves.step (State.busWrite_Fend _ _ _ (by omega))
    | split
    | (with_reducible refine Moves.snd (by assumption) ?_)
    | (with_reducible refine Moves.fst (by assumption) ?_)
    | dsimp +zetaDelta only

theorem execRffeCommandStart_moves (n : Fin 8) (s : State) (t : State) (h : execRffeCommandStart n s = .next t) :
    Moves 0x807a022cd03a0e2 s t := by
  unfold execRffeCommandStart at h
  refine acting_moves (by decide) (fun _ => ?_) h
  repeat' first
    | with_reducible assumption
    | with_reducible exact Moves.refl _ _
    | decide
    | with_reducible apply Moves.step (State.rfStart_moves ..)

theorem execRffeCommandDone_moves (n : Fin 8) (bytes : List Byte) (perr : Bool) (s : State) (t : State) (h : execRffeCommandDone n bytes perr s = .next t) :
    Moves 0x807a022cd03a0e2 s t := by
  unfold execRffeCommandDone at h
  refine acting_moves (by decide) (fun _ => ?_) h
  repeat' first
    | with_reducible assumption
    | with_reducible exact Moves.refl _ _
    | decide
    | with_reducible apply Moves.step (State.rfDone_moves ..)

theorem execFendCntClr_moves (src : Source) (v : Word) (s : State) (t : State) (h : execFendCntClr src v s = .next t) :
    Moves 0xc0720228d83a0e2 s t := by
  unfold execFendCntClr at h
  refine acting_moves (by decide) (fun _ => ?_) h
  repeat' first
    | with_reducible assumption
    | with_reducible exact Moves.refl _ _
    | decide
    | with_reducible apply Moves.step (State.busWrite_Fend _ _ _ (by first | decide | (simp only [F.FEND_CNT_CLR_CLR]; omega) | (simp only [F.FEND_CNT_CLR_CLR]; split <;> decide) | (simp only [F.FEND_CNT_CLR_CLR]; (repeat' split) <;> omega)))

theorem execXchkClrWrite_moves (src : Source) (half : Fin 2) (v : Word) (s : State) (t : State) (h : execXchkClrWrite src half v s = .next t) :
    Moves 0xc0520228d82a0a2 s t := by
  unfold execXchkClrWrite at h
  refine acting_moves (by decide) (fun _ => ?_) h
  repeat' first
    | with_reducible assumption
    | with_reducible exact Moves.refl _ _
    | decide
    | with_reducible apply Moves.ite
    | with_reducible apply Moves.step (State.busWrite_Bwtr _ _ _ (by first | decide | (simp only [F.BWTR_XCHK_CLR0_PATHS, F.BWTR_XCHK_CLR1_PATHS]; omega) | (simp only [F.BWTR_XCHK_CLR0_PATHS, F.BWTR_XCHK_CLR1_PATHS]; split <;> decide) | (simp only [F.BWTR_XCHK_CLR0_PATHS, F.BWTR_XCHK_CLR1_PATHS]; (repeat' split) <;> omega)))
    | split
    | (with_reducible refine Moves.snd (by assumption) ?_)
    | (with_reducible refine Moves.fst (by assumption) ?_)

theorem execBwBlockVerdict_moves (s : State) (t : State) (h : execBwBlockVerdict s = .next t) :
    Moves 0x80520228d02a0a2 s t := by
  unfold execBwBlockVerdict at h
  refine acting_moves (by decide) (fun _ => ?_) h
  repeat' first
    | with_reducible assumption
    | with_reducible exact Moves.refl _ _
    | decide
    | with_reducible apply Moves.step (State.bwBlock_moves ..)

theorem execBwGranuleDecision_moves (s : State) (t : State) (h : execBwGranuleDecision s = .next t) :
    Moves 0x805a022cd02a0e2 s t := by
  unfold execBwGranuleDecision at h
  refine acting_moves (by decide) (fun _ => ?_) h
  repeat' first
    | with_reducible assumption
    | with_reducible exact Moves.refl _ _
    | decide
    | with_reducible apply Moves.step (State.bwGranuleNext_moves ..)

theorem execCotExpiry_moves (s : State) (t : State) (h : execCotExpiry s = .next t) :
    Moves 0x805a022cd02a0e2 s t := by
  unfold execCotExpiry at h
  refine acting_moves (by decide) (fun _ => ?_) h
  repeat' first
    | with_reducible assumption
    | with_reducible exact Moves.refl _ _
    | decide
    | with_reducible apply Moves.step (State.cotExpire_moves ..)

theorem execLbtQuery_moves (s : State) (t : State) (h : execLbtQuery s = .next t) :
    Moves 0x805a022cd02a0e2 s t := by
  unfold execLbtQuery at h
  refine acting_moves (by decide) (fun _ => ?_) h
  repeat' first
    | with_reducible assumption
    | with_reducible exact Moves.refl _ _
    | decide
    | with_reducible apply Moves.step (State.lbtQuery_moves ..)

theorem execBwtrCntClr_moves (src : Source) (v : Word) (s : State) (t : State) (h : execBwtrCntClr src v s = .next t) :
    Moves 0xc0520228d82a0a2 s t := by
  unfold execBwtrCntClr at h
  refine acting_moves (by decide) (fun _ => ?_) h
  repeat' first
    | with_reducible assumption
    | with_reducible exact Moves.refl _ _
    | decide
    | with_reducible apply Moves.step (State.busWrite_Bwtr _ _ _ (by first | decide | (simp only [F.BWTR_CNT_CLR_CLR]; omega) | (simp only [F.BWTR_CNT_CLR_CLR]; split <;> decide) | (simp only [F.BWTR_CNT_CLR_CLR]; (repeat' split) <;> omega)))

end Sys2Proof.Machine
end

