-- ==== Sys2Proof/Laws/OnFrontEndCmds.lean ====
section
/-! SUPPORT. What the commands of Machine/FrontEndCmds.lean answer while the device acts. -/

namespace Sys2Proof.Machine

set_option linter.all false

theorem on_biasWrite {s : State} (hon : s.on = true) (src : Source) (o : Fin 72) (v : Word) :
    exec (.biasWrite src o v) s = .next (State.follow (s.busWrite src (biasTarget o.val).addr v) s) := by
  show execBiasWrite src o v s = _
  exact acting_on hon

theorem on_paCmdOn {s : State} (hon : s.on = true) (src : Source) (v : Word) :
    exec (.paCmdOn src v) s = .next (State.follow (paWrite src v 1 s) s) := by
  show execPaCmdOn src v s = _
  exact acting_on hon

theorem on_paCmdOff {s : State} (hon : s.on = true) (src : Source) (v : Word) :
    exec (.paCmdOff src v) s = .next (State.follow (paWrite src v 2 s) s) := by
  show execPaCmdOff src v s = _
  exact acting_on hon

theorem on_paCmdIgnored {s : State} (hon : s.on = true) (src : Source) (v : Word) :
    exec (.paCmdIgnored src v) s = .next (State.follow (paWrite src v (3 * (v.toNat / 65536 % 2)) s) s) := by
  show execPaCmdIgnored src v s = _
  exact acting_on hon

theorem on_paDrainWaitEnd {s : State} (hon : s.on = true) (q : Fin 8) :
    exec (.paDrainWaitEnd q) s = .next (State.follow (s.paWaitEnd q.val) s) := by
  show execPaDrainWaitEnd q s = _
  exact acting_on hon

theorem on_paBiasArrived {s : State} (hon : s.on = true) (q : Fin 8) :
    exec (.paBiasArrived q) s = .next (State.follow (if [1, 4, 5].contains (s.paSeq q.val).step then s.paArrived q.val else s) s) := by
  show execPaBiasArrived q s = _
  exact acting_on hon

theorem on_feFaultDrainOff {s : State} (hon : s.on = true)  :
    exec (.feFaultDrainOff) s = .next (State.follow (State.feDrainOff s) s) := by
  show execFeFaultDrainOff  s = _
  exact acting_on hon

theorem on_vnegFault {s : State} (hon : s.on = true)  :
    exec (.vnegFault) s = .next (State.follow (s.feSet feVNEG) s) := by
  show execVnegFault  s = _
  exact acting_on hon

theorem on_synUnlockFault {s : State} (hon : s.on = true)  :
    exec (.synUnlockFault) s = .next (State.follow (State.synFault s) s) := by
  show execSynUnlockFault  s = _
  exact acting_on hon

theorem on_rffeWrite {s : State} (hon : s.on = true) (src : Source) (n : Fin 8) (v : Word) :
    exec (.rffeWrite src n v) s = .next (State.follow (rfWrite src n.val v 0 s) s) := by
  show execRffeWrite src n v s = _
  exact acting_on hon

theorem on_rffeRead {s : State} (hon : s.on = true) (src : Source) (n : Fin 8) (v : Word) :
    exec (.rffeRead src n v) s = .next (State.follow (rfWrite src n.val v 1 s) s) := by
  show execRffeRead src n v s = _
  exact acting_on hon

theorem on_rffeReg0Write {s : State} (hon : s.on = true) (src : Source) (n : Fin 8) (v : Word) :
    exec (.rffeReg0Write src n v) s = .next (State.follow (rfWrite src n.val v 2 s) s) := by
  show execRffeReg0Write src n v s = _
  exact acting_on hon

theorem on_rffeExtWrite {s : State} (hon : s.on = true) (src : Source) (n : Fin 8) (v : Word) :
    exec (.rffeExtWrite src n v) s = .next (State.follow (rfWrite src n.val v 3 s) s) := by
  show execRffeExtWrite src n v s = _
  exact acting_on hon

theorem on_rffeExtRead {s : State} (hon : s.on = true) (src : Source) (n : Fin 8) (v : Word) :
    exec (.rffeExtRead src n v) s = .next (State.follow (rfWrite src n.val v 4 s) s) := by
  show execRffeExtRead src n v s = _
  exact acting_on hon

theorem on_rffeCmdUnknown {s : State} (hon : s.on = true) (src : Source) (n : Fin 8) (v : Word) :
    exec (.rffeCmdUnknown src n v) s = .next (State.follow (rfWrite src n.val v (let c := v.toNat / 2 ^ 24 % 8; if 5 ≤ c then c else 5) s) s) := by
  show execRffeCmdUnknown src n v s = _
  exact acting_on hon

theorem on_rffeCommandStart {s : State} (hon : s.on = true) (n : Fin 8) :
    exec (.rffeCommandStart n) s = .next (State.follow (s.rfStart n.val) s) := by
  show execRffeCommandStart n s = _
  exact acting_on hon

theorem on_rffeCommandDone {s : State} (hon : s.on = true) (n : Fin 8) (bytes : List Byte) (perr : Bool) :
    exec (.rffeCommandDone n bytes perr) s = .next (State.follow (s.rfDone n.val bytes perr) s) := by
  show execRffeCommandDone n bytes perr s = _
  exact acting_on hon

theorem on_xchkClrWrite {s : State} (hon : s.on = true) (src : Source) (half : Fin 2) (v : Word) :
    exec (.xchkClrWrite src half v) s = .next (State.follow (s.busWrite src (if half.val = 0 then F.BWTR_XCHK_CLR0_PATHS else F.BWTR_XCHK_CLR1_PATHS).addr v) s) := by
  show execXchkClrWrite src half v s = _
  exact acting_on hon

theorem on_bwBlockVerdict {s : State} (hon : s.on = true)  :
    exec (.bwBlockVerdict) s = .next (State.follow (s.bwBlock s.nextTxK) s) := by
  show execBwBlockVerdict  s = _
  exact acting_on hon

theorem on_bwGranuleDecision {s : State} (hon : s.on = true)  :
    exec (.bwGranuleDecision) s = .next (State.follow (State.bwGranuleNext s) s) := by
  show execBwGranuleDecision  s = _
  exact acting_on hon

theorem on_cotExpiry {s : State} (hon : s.on = true)  :
    exec (.cotExpiry) s = .next (State.follow (State.cotExpire s) s) := by
  show execCotExpiry  s = _
  exact acting_on hon

theorem on_lbtQuery {s : State} (hon : s.on = true)  :
    exec (.lbtQuery) s = .next (State.follow (State.lbtQuery s) s) := by
  show execLbtQuery  s = _
  exact acting_on hon

theorem on_fendCntClr {s : State} (hon : s.on = true) (src : Source) (v : Word) :
    exec (.fendCntClr src v) s = .next (State.follow (s.busWrite src F.FEND_CNT_CLR_CLR.addr (fixBit v 0)) s) := by
  show execFendCntClr src v s = _
  exact acting_on hon

theorem on_bwtrCntClr {s : State} (hon : s.on = true) (src : Source) (v : Word) :
    exec (.bwtrCntClr src v) s = .next (State.follow (s.busWrite src F.BWTR_CNT_CLR_CLR.addr (fixBit v 0)) s) := by
  show execBwtrCntClr src v s = _
  exact acting_on hon

theorem on_vnegRestored {s : State} (hon : s.on = true)  :
    exec (.vnegRestored) s = .next (State.follow (s.feClear feVNEG) s) := by
  show execVnegRestored  s = _
  exact acting_on hon

end Sys2Proof.Machine
end

