-- ==== Sys2Proof/Laws/DoesFrontEnd.lean ====
section
/-! SUPPORT. What the commands of front-end control and Breakwater do where they take effect. -/

namespace Sys2Proof.Machine

set_option linter.all false

variable {s : State}

theorem biasTarget_addr (o : Fin 72) : (biasTarget o.val).addr = 0x100100 + 4 * o.val ∧ o.val < 64 ∨
    (biasTarget o.val).addr = 0x100300 + 4 * (o.val - 64) ∧ 64 ≤ o.val := by
  have h := o.isLt
  unfold biasTarget
  by_cases c : o.val < 64
  · rw [if_pos c]
    simp only [F.FEND_P_BIAS_TARGET]
    omega
  · rw [if_neg c]
    simp only [F.FEND_AUX_TARGET]
    omega

theorem bias_write {src : Source} {o : Fin 72} {v : Word} {t : State} (ht : s.touch src = t)
    (ho : s.opens src (biasTarget o.val).addr v = true) :
    s.busWrite src (biasTarget o.val).addr v = t.biasWrite o.val (bitsAt v.toNat 31 1) (bitsAt v.toNat 0 12) := by
  have ha := biasTarget_addr o
  have h := o.isLt
  have x1 : F.FEND_PA_CMD_GO.addr = 0x100004 := rfl
  have x2 : F.FEND_DGATE_QUADS.addr = 0x10000C := rfl
  have x3 : F.FEND_FE_CTL_TXGATE.addr = 0x100010 := rfl
  generalize (biasTarget o.val).addr = a at ho ha ⊢
  rw [State.opens_Fend ho (by omega) (by omega) (by simp only [evtAddr]; omega), ht]
  unfold State.writeFend
  rw [if_neg (by omega), if_neg (by omega), if_neg (by omega)]
  rcases ha with ⟨e, c⟩ | ⟨e, c⟩
  · rw [if_pos (by omega), show (a - 0x100100) / 4 = o.val by omega]
  · rw [if_neg (by omega), if_pos (by omega), show 64 + (a - 0x100300) / 4 = o.val by omega]

/-- An auxiliary output, or one of a quad that is OFF, in Run and without a fault, moves to its target at the fast rate (R337,
R338). -/
theorem does_biasWrite (hon : s.on = true) (src : Source) (o : Fin 72) (v : Word) {t park : State} (ht : s.touch src = t)
    (ho : s.opens src (biasTarget o.val).addr v = true) (hp : (if (sparseFind t.fend.moves o.val).isSome then t else
      { t with fend := { t.fend with moves := sparseInsert t.fend.moves o.val (BiasMove.mk (t.biasUvNow o.val) t.aon
        (t.get (biasRange o.val)) (t.get (biasOut o.val)) fastRate) } }) = park)
    (h1 : 64 ≤ o.val ∨ t.paState (o.val / 8) = paOFF) (h2 : 64 ≤ o.val ∨ (t.paSeq (o.val / 8)).step ≠ 4) (h3 : t.feFault = false)
    (h4 : t.inRun = true) :
    exec (.biasWrite src o v) s = .next (State.follow (((park.put (biasRange o.val) (bitsAt v.toNat 31 1)).put (biasTarget o.val)
      (bitsAt v.toNat 0 12)).moveTarget o.val fastRate) s) := by
  rw [on_biasWrite hon, bias_write ht ho]
  unfold State.biasWrite
  dsimp only
  rw [if_neg (by
    rcases h1 with c | c
    · omega
    · rw [c]; simp), if_neg (by simp [h3, h4])]
  have fin (x y z : State) : (if 64 ≤ o.val then x else if t.paState (o.val / 8) = paON ∨ (t.paSeq (o.val / 8)).step = 4 then y
      else if t.paState (o.val / 8) = paOFF then x else z) = x := by
    by_cases c : 64 ≤ o.val
    · rw [if_pos c]
    · have c1 := h1.resolve_left c
      have c2 := h2.resolve_left c
      rw [if_neg c, if_neg (by rw [c1]; simp [c2, paOFF, paON]), if_pos c1]
  rw [fin]
  cases hm : sparseFind t.fend.moves o.val with
  | none => rw [hm] at hp; rw [← hp]; rfl
  | some m => rw [hm] at hp; rw [← hp]; rfl

/-- A change of RANGE on an output of a quad that is not OFF is refused (R338). -/
theorem refuses_biasWrite (hon : s.on = true) (src : Source) (o : Fin 72) (v : Word) {t : State} (ht : s.touch src = t)
    (ho : s.opens src (biasTarget o.val).addr v = true) (h1 : o.val < 64) (h2 : bitsAt v.toNat 31 1 ≠ t.get (biasRange o.val))
    (h3 : t.paState (o.val / 8) ≠ paOFF) :
    exec (.biasWrite src o v) s = .next (State.follow ((t.inc F.FEND_RNG_REJ_COUNT).raise 0x1007 o.val) s) := by
  rw [on_biasWrite hon, bias_write ht ho]
  unfold State.biasWrite
  dsimp only
  rw [if_pos ⟨h1, h2, h3⟩]

theorem pa_write {src : Source} {v : Word} {op : Nat} {t : State} {w : Word} (ht : s.touch src = t)
    (hw : fix (fixBit v 31) 16 2 op = w) (hop : op < 4) (ho : s.opens src F.FEND_PA_CMD_GO.addr w = true) :
    paWrite src v op s = t.paCmd op (bitsAt w.toNat 0 8) := by
  unfold paWrite
  rw [hw, State.opens_Fend ho (by decide) (by decide) (by decide), ht]
  unfold State.writeFend
  rw [if_pos (by decide), State.iff_of (by rw [← hw,
      bitAt_fix_other _ _ (by decide) (by decide)]; exact bitAt_fixBit v (by decide)),
    show bitsAt w.toNat 16 2 = op from by rw [← hw, bitsAt_fix _ _ (by decide)]; omega]

/-- Every named quad that is present goes ON, or is refused where a fault holds, outside Run, or thinned (R339). -/
theorem does_paCmdOn (hon : s.on = true) (src : Source) (v : Word) {t : State} {w : Word} (ht : s.touch src = t)
    (hw : fix (fixBit v 31) 16 2 1 = w) (ho : s.opens src F.FEND_PA_CMD_GO.addr w = true) :
    exec (.paCmdOn src v) s = .next (State.follow (t.each ((bitList 8 (bitsAt w.toNat 0 8)).filter (fun q => t.hasQuad q))
      (fun x q => if x.paRefuses q then x.raise 0x100A q else x.paStartOn q)) s) := by
  rw [on_paCmdOn hon, pa_write ht hw (by decide) ho]
  unfold State.paCmd
  rfl

/-- Every named quad that is present goes OFF (R339). -/
theorem does_paCmdOff (hon : s.on = true) (src : Source) (v : Word) {t : State} {w : Word} (ht : s.touch src = t)
    (hw : fix (fixBit v 31) 16 2 2 = w) (ho : s.opens src F.FEND_PA_CMD_GO.addr w = true) :
    exec (.paCmdOff src v) s = .next (State.follow (t.each ((bitList 8 (bitsAt w.toNat 0 8)).filter (fun q => t.hasQuad q))
      State.paOff) s) := by
  rw [on_paCmdOff hon, pa_write ht hw (by decide) ho]
  unfold State.paCmd
  rfl

/-- OP 0 and OP 3 do nothing (R339). -/
theorem does_paCmdIgnored (hon : s.on = true) (src : Source) (v : Word) {t : State} {w : Word} (ht : s.touch src = t)
    (hw : fix (fixBit v 31) 16 2 (3 * (v.toNat / 65536 % 2)) = w) (ho : s.opens src F.FEND_PA_CMD_GO.addr w = true) :
    exec (.paCmdIgnored src v) s = .next (State.follow t s) := by
  rw [on_paCmdIgnored hon, pa_write ht hw (by omega) ho]
  unfold State.paCmd
  have d : v.toNat / 65536 % 2 = 0 ∨ v.toNat / 65536 % 2 = 1 := by omega
  rcases d with d | d <;> rw [d] <;> rfl

/-- After the drain rose the bias ramps to its targets (R339). -/
theorem does_paDrainWaitEnd (hon : s.on = true) (q : Fin 8) {t : State} (h : (s.paSeq q.val).step = 3)
    (ht : s.elapseTo (s.paSeq q.val).waitEnd = t) :
    exec (.paDrainWaitEnd q) s = .next (State.follow ((t.setSeq q.val ⟨4, 0⟩).each (quadOuts q.val)
      (fun x o => x.moveTarget o t.biasSlew)) s) := by
  rw [on_paDrainWaitEnd hon]
  unfold State.paWaitEnd
  simp only [h, ht]

/-- After the bias fell the drain goes low and the quad is OFF (R339). -/
theorem does_paDrainWaitEnd_off (hon : s.on = true) (q : Fin 8) {t : State} (h : (s.paSeq q.val).step = 6)
    (ht : s.elapseTo (s.paSeq q.val).waitEnd = t) :
    exec (.paDrainWaitEnd q) s = .next (State.follow ((((t.seqDrain q.val false).setPa q.val paOFF).setSeq q.val {}).raise 0x1002
      q.val) s) := by
  rw [on_paDrainWaitEnd hon]
  unfold State.paWaitEnd
  simp only [h, ht]

/-- The bias of a quad that ramps up has arrived: the quad is ON (R339). -/
theorem does_paBiasArrived (hon : s.on = true) (q : Fin 8) {t : State} (h : (s.paSeq q.val).step = 4)
    (ht : (s.elapseTo (s.quadArrive q.val)).each (quadOuts q.val) State.syncBias = t) (h2 : (t.paSeq q.val).step = 4) :
    exec (.paBiasArrived q) s = .next (State.follow (((t.setPa q.val paON).setSeq q.val {}).raise 0x1001 q.val) s) := by
  rw [on_paBiasArrived hon, h, if_pos (by decide)]
  unfold State.paArrived
  simp only [ht, h2]

/-- The SAFE bias has arrived before a drain rises: the drain goes high and its wait begins (R339). -/
theorem does_paBiasArrived_drain (hon : s.on = true) (q : Fin 8) {t : State} (h : (s.paSeq q.val).step = 1)
    (ht : (s.elapseTo (s.quadArrive q.val)).each (quadOuts q.val) State.syncBias = t) (h2 : (t.paSeq q.val).step = 1) :
    exec (.paBiasArrived q) s = .next (State.follow ((t.seqDrain q.val true).setSeq q.val ⟨3, t.aon + t.drainWait⟩) s) := by
  rw [on_paBiasArrived hon, h, if_pos (by decide)]
  unfold State.paArrived
  simp only [ht, h2]

/-- The SAFE bias has arrived on the way OFF: the drain wait begins (R339). -/
theorem does_paBiasArrived_off (hon : s.on = true) (q : Fin 8) {t : State} (h : (s.paSeq q.val).step = 5)
    (ht : (s.elapseTo (s.quadArrive q.val)).each (quadOuts q.val) State.syncBias = t) (h2 : (t.paSeq q.val).step = 5) :
    exec (.paBiasArrived q) s = .next (State.follow (t.setSeq q.val ⟨6, t.aon + t.drainWait⟩) s) := by
  rw [on_paBiasArrived hon, h, if_pos (by decide)]
  unfold State.paArrived
  simp only [ht, h2]

theorem does_feFaultDrainOff (hon : s.on = true) {a : Nat} (h : s.fend.drainOffAt = some a) :
    exec .feFaultDrainOff s = .next (State.follow (s.elapseTo a).drainsLow s) := by
  rw [on_feFaultDrainOff hon]
  unfold State.feDrainOff
  simp only [h]

theorem does_vnegFault (hon : s.on = true) (h : s.feFault = false) :
    exec .vnegFault s = .next (State.follow ((s.setBit 0x100014 4).feEnter true) s) := by
  rw [on_vnegFault hon]
  unfold State.feSet
  simp only [h, Bool.false_eq_true, if_false]
  rfl

theorem does_vnegRestored (hon : s.on = true) {n : Nat} {t u : State} (hn : (s.word 0x100014).toNat = n) (h : bitAt n 4 = true)
    (ht : s.setWord 0x100014 (BitVec.ofNat 32 (setBitAt n 4 false)) = t) (h2 : t.feFault = false)
    (hu : (t.iff (t.fend.drainOffAt != none) State.drainsLow).raise 0x1004 0 = u) (h3 : u.flag F.FEND_PA_CTL_AUTO_ON = true)
    (h4 : u.inRun = true) :
    exec .vnegRestored s = .next (State.follow (State.each { u with fend := { u.fend with reissue := 0 } } (bitList 8 u.fend.reissue)
      (fun x q => if x.paRefuses q then x else x.paStartOn q)) s) := by
  rw [on_vnegRestored hon]
  unfold State.feClear feVNEG
  simp only [hn, h, if_true, ht, h2, Bool.false_eq_true, if_false, hu]
  rw [if_pos (by
    have e1 : State.flag { u with fend := { u.fend with reissue := 0 } } F.FEND_PA_CTL_AUTO_ON = u.flag F.FEND_PA_CTL_AUTO_ON := rfl
    have e2 : State.inRun { u with fend := { u.fend with reissue := 0 } } = u.inRun := rfl
    rw [e1, e2, h3, h4]; rfl)]

theorem does_synUnlockFault (hon : s.on = true) {a : Nat} (h : (s.syn s.txSyn).unlockedSince = some a) (h1 : s.txLoBad = true) :
    exec .synUnlockFault s = .next (State.follow ((s.elapseTo (a + usU 100)).feSet feSYN) s) := by
  rw [on_synUnlockFault hon]
  unfold State.synFault
  simp only [h, h1, if_true]

theorem rf_write {src : Source} {n : Fin 8} {v : Word} {cmd : Nat} {t : State} {w : Word} (ht : s.touch src = t)
    (hw : fix (fixBit v 31) 24 3 cmd = w) (ho : s.opens src (0x100404 + 0x40 * n.val) w = true) :
    rfWrite src n.val v cmd s = t.rfPush n.val (t.rfAsked n.val w) := by
  have h := n.isLt
  have x1 : F.FEND_PA_CMD_GO.addr = 0x100004 := rfl
  have x2 : F.FEND_DGATE_QUADS.addr = 0x10000C := rfl
  have x3 : F.FEND_FE_CTL_TXGATE.addr = 0x100010 := rfl
  unfold rfWrite
  rw [hw]
  generalize he : 0x100404 + 0x40 * n.val = a at ho ⊢
  rw [State.opens_Fend ho (by omega) (by omega) (by simp only [evtAddr]; omega), ht]
  unfold State.writeFend
  rw [if_neg (by omega), if_neg (by omega), if_neg (by omega), if_neg (by omega), if_neg (by omega), if_pos (by omega)]
  dsimp only
  rw [State.iff_of (by rw [← hw, bitAt_fix_other _ _ (by decide) (by decide)]; exact bitAt_fixBit v (by decide)),
    show (a - 0x100400) / 0x40 = n.val by omega, BitVec.ofNat_toNat, BitVec.setWidth_eq]

theorem rf_pushed {n : Nat} {c : RfCmd} {t : State} (h : t.rfCheck n c = rfOK) :
    t.rfPush n c = (t.put (F.FEND_RF_STAT_RESULT n) rfOK).setRffe n { t.rffe n with queue := (t.rffe n).queue ++ [c] } := by
  unfold State.rfPush
  simp only [h, if_true]

theorem does_rffeWrite (hon : s.on = true) (src : Source) (n : Fin 8) (v : Word) {t : State} {w : Word} {c : RfCmd}
    (ht : s.touch src = t) (hw : fix (fixBit v 31) 24 3 0 = w) (ho : s.opens src (0x100404 + 0x40 * n.val) w = true)
    (hc : t.rfAsked n.val w = c) (h : t.rfCheck n.val c = rfOK) :
    exec (.rffeWrite src n v) s = .next (State.follow ((t.put (F.FEND_RF_STAT_RESULT n.val) rfOK).setRffe n.val
      { t.rffe n.val with queue := (t.rffe n.val).queue ++ [c] }) s) := by
  rw [on_rffeWrite hon, rf_write ht hw ho, hc, rf_pushed h]

theorem does_rffeRead (hon : s.on = true) (src : Source) (n : Fin 8) (v : Word) {t : State} {w : Word} {c : RfCmd}
    (ht : s.touch src = t) (hw : fix (fixBit v 31) 24 3 1 = w) (ho : s.opens src (0x100404 + 0x40 * n.val) w = true)
    (hc : t.rfAsked n.val w = c) (h : t.rfCheck n.val c = rfOK) :
    exec (.rffeRead src n v) s = .next (State.follow ((t.put (F.FEND_RF_STAT_RESULT n.val) rfOK).setRffe n.val
      { t.rffe n.val with queue := (t.rffe n.val).queue ++ [c] }) s) := by
  rw [on_rffeRead hon, rf_write ht hw ho, hc, rf_pushed h]

theorem does_rffeReg0Write (hon : s.on = true) (src : Source) (n : Fin 8) (v : Word) {t : State} {w : Word} {c : RfCmd}
    (ht : s.touch src = t) (hw : fix (fixBit v 31) 24 3 2 = w) (ho : s.opens src (0x100404 + 0x40 * n.val) w = true)
    (hc : t.rfAsked n.val w = c) (h : t.rfCheck n.val c = rfOK) :
    exec (.rffeReg0Write src n v) s = .next (State.follow ((t.put (F.FEND_RF_STAT_RESULT n.val) rfOK).setRffe n.val
      { t.rffe n.val with queue := (t.rffe n.val).queue ++ [c] }) s) := by
  rw [on_rffeReg0Write hon, rf_write ht hw ho, hc, rf_pushed h]

theorem does_rffeExtWrite (hon : s.on = true) (src : Source) (n : Fin 8) (v : Word) {t : State} {w : Word} {c : RfCmd}
    (ht : s.touch src = t) (hw : fix (fixBit v 31) 24 3 3 = w) (ho : s.opens src (0x100404 + 0x40 * n.val) w = true)
    (hc : t.rfAsked n.val w = c) (h : t.rfCheck n.val c = rfOK) :
    exec (.rffeExtWrite src n v) s = .next (State.follow ((t.put (F.FEND_RF_STAT_RESULT n.val) rfOK).setRffe n.val
      { t.rffe n.val with queue := (t.rffe n.val).queue ++ [c] }) s) := by
  rw [on_rffeExtWrite hon, rf_write ht hw ho, hc, rf_pushed h]

theorem does_rffeExtRead (hon : s.on = true) (src : Source) (n : Fin 8) (v : Word) {t : State} {w : Word} {c : RfCmd}
    (ht : s.touch src = t) (hw : fix (fixBit v 31) 24 3 4 = w) (ho : s.opens src (0x100404 + 0x40 * n.val) w = true)
    (hc : t.rfAsked n.val w = c) (h : t.rfCheck n.val c = rfOK) :
    exec (.rffeExtRead src n v) s = .next (State.follow ((t.put (F.FEND_RF_STAT_RESULT n.val) rfOK).setRffe n.val
      { t.rffe n.val with queue := (t.rffe n.val).queue ++ [c] }) s) := by
  rw [on_rffeExtRead hon, rf_write ht hw ho, hc, rf_pushed h]

/-- A command that the check turns away (R345, R346). -/
theorem refuses_rffeWrite (hon : s.on = true) (src : Source) (n : Fin 8) (v : Word) {t : State} {w : Word} {c : RfCmd}
    (ht : s.touch src = t) (hw : fix (fixBit v 31) 24 3 0 = w) (ho : s.opens src (0x100404 + 0x40 * n.val) w = true)
    (hc : t.rfAsked n.val w = c) (h : t.rfCheck n.val c ≠ rfOK) :
    exec (.rffeWrite src n v) s = .next (State.follow ((t.put (F.FEND_RF_STAT_RESULT n.val) (t.rfCheck n.val c)).raiseMs 0x1009
      0 0) s) := by
  rw [on_rffeWrite hon, rf_write ht hw ho, hc]
  unfold State.rfPush
  simp only [if_neg h]

/-- CMD 5 to 7: refused, as FULL with the queue full, else as ARG (R345). -/
theorem does_rffeCmdUnknown (hon : s.on = true) (src : Source) (n : Fin 8) (v : Word) {t : State} {w : Word} {c : RfCmd} {k : Nat}
    (ht : s.touch src = t) (hk : (let c := v.toNat / 2 ^ 24 % 8; if 5 ≤ c then c else 5) = k) (hw : fix (fixBit v 31) 24 3 k = w)
    (ho : s.opens src (0x100404 + 0x40 * n.val) w = true) (hc : t.rfAsked n.val w = c) :
    exec (.rffeCmdUnknown src n v) s = .next (State.follow ((t.put (F.FEND_RF_STAT_RESULT n.val)
      (if 16 ≤ (t.rffe n.val).queue.length then rfFULL else rfARG)).raiseMs 0x1009 0 0) s) := by
  have hk5 : 5 ≤ k ∧ k < 8 := by subst hk; dsimp only; split <;> omega
  have e : c.cmd = k := by
    rw [← hc]; unfold State.rfAsked; dsimp only
    rw [← hw, bitsAt_fix _ _ (by decide)]; omega
  rw [on_rffeCmdUnknown hon, hk, rf_write ht hw ho, hc]
  have r : t.rfCheck n.val c = if 16 ≤ (t.rffe n.val).queue.length then rfFULL else rfARG := by
    unfold State.rfCheck
    dsimp only
    by_cases b : 16 ≤ (t.rffe n.val).queue.length
    · rw [if_pos b, if_pos b]
    · rw [if_neg b, if_neg b, if_pos (Or.inl (by omega))]
  unfold State.rfPush
  dsimp only
  rw [r, if_neg (by split <;> decide)]

theorem does_rffeCommandStart (hon : s.on = true) (n : Fin 8) {c : RfCmd} {q : List RfCmd} {t : State} (h1 : (s.rffe n.val).busy = none)
    (h2 : (s.rffe n.val).queue = c :: q) (ht : (if c.at_.isSome then s.reach (c.at_.getD 0) else s) = t) :
    exec (.rffeCommandStart n) s = .next (State.follow
      ((t.setRffe n.val { queue := q, busy := some c, ends := t.aon + c.periods * t.rfPeriod n.val }).emit
        (.rffe n.val c.cmd c.usid c.addr c.data)) s) := by
  rw [on_rffeCommandStart hon]
  unfold State.rfStart
  simp only [h1, h2]
  cases hc : c.at_ with
  | none => rw [hc] at ht; rw [← ht]; rfl
  | some a => rw [hc] at ht; rw [← ht]; rfl

/-- A write on the bus ends (R344). -/
theorem does_rffeCommandDone (hon : s.on = true) (n : Fin 8) (bytes : List Byte) (perr : Bool) {x : Rffe} {c : RfCmd}
    (hx : s.rffe n.val = x) (h : x.busy = some c) (hc : c.writes = true) :
    exec (.rffeCommandDone n bytes perr) s = .next (State.follow ((s.elapseTo x.ends).setRffe n.val { x with busy := none }) s) := by
  rw [on_rffeCommandDone hon]
  unfold State.rfDone
  simp only [hx, h, hc, if_true]

/-- A read ends: its bytes, zeros above them, and the parity error are shown (R344). -/
theorem does_rffeCommandDone_read (hon : s.on = true) (n : Fin 8) (bytes : List Byte) (perr : Bool) {x : Rffe} {c : RfCmd} {k : Nat}
    {data : List Byte} {u v : State} (hx : s.rffe n.val = x) (h : x.busy = some c) (hc : c.writes = false)
    (hk : (if c.cmd = 1 then 1 else c.bc + 1) = k)
    (hd : (bytes ++ List.replicate 16 0).take k ++ List.replicate (16 - k) (0 : Byte) = data)
    (hu : ((s.elapseTo x.ends).setRffe n.val { x with busy := none }).each (List.range 4)
      (fun v j => v.put (F.FEND_RF_RDATA_DATA n.val j) (leNat ((data.drop (4 * j)).take 4))) = u)
    (hv : ((((u.putb (F.FEND_RF_RSTAT_VALID n.val) true).putb (F.FEND_RF_RSTAT_NEW n.val) true).incWrap
        (F.FEND_RF_RSTAT_SEQ n.val)).putb (F.FEND_RF_RSTAT_PERR n.val) perr).put (F.FEND_RF_RSTAT_BC n.val) (k - 1) = v) :
    exec (.rffeCommandDone n bytes perr) s = .next (State.follow (if perr then v.raiseMs 0x1008 0 0 else v) s) := by
  rw [on_rffeCommandDone hon]
  unfold State.rfDone
  simp only [hx, h, hc, Bool.false_eq_true, if_false, hk, hd, hu, hv]

theorem does_fendCntClr (hon : s.on = true) (src : Source) (v : Word) {t : State} {w : Word} (ht : s.touch src = t)
    (hw : fixBit v 0 = w) (ho : s.opens src F.FEND_CNT_CLR_CLR.addr w = true) :
    exec (.fendCntClr src v) s = .next (State.follow (((((t.put F.FEND_IGN_CNT_COUNT 0).put F.FEND_RNG_REJ_COUNT 0).put
      F.FEND_MM_CNT_COUNT 0).put F.FEND_COEX_SHORT_COUNT 0).put F.FEND_ACT_CNT_COUNT 0) s) := by
  rw [on_fendCntClr hon, hw, State.opens_Fend ho (by decide) (by decide) (by decide), ht]
  unfold State.writeFend
  rw [if_neg (by decide), if_neg (by decide), if_neg (by decide), if_neg (by decide), if_neg (by decide), if_neg (by decide),
      if_pos (by decide), State.iff_of (by rw [← hw]; exact bitAt_fixBit v (by decide))]
  unfold State.fendClear; rfl

theorem does_xchkClrWrite (hon : s.on = true) (src : Source) (half : Fin 2) (v : Word) {t : State} (ht : s.touch src = t)
    (ho : s.opens src (if half.val = 0 then F.BWTR_XCHK_CLR0_PATHS else F.BWTR_XCHK_CLR1_PATHS).addr v = true) :
    exec (.xchkClrWrite src half v) s = .next (State.follow (t.xchkClear half.val v.toNat) s) := by
  rw [on_xchkClrWrite hon]
  rcases half with ⟨h, hh⟩
  have d : h = 0 ∨ h = 1 := by omega
  rcases d with d | d
  · subst d
    rw [show ((if (⟨0,
        hh⟩ : Fin 2).val = 0 then F.BWTR_XCHK_CLR0_PATHS else F.BWTR_XCHK_CLR1_PATHS)) = F.BWTR_XCHK_CLR0_PATHS from rfl] at ho ⊢
    rw [State.opens_Bwtr ho (by decide) (by decide) (by decide), ht]
    unfold State.writeBwtr
    rw [if_pos (by decide)]
  · subst d
    rw [show ((if (⟨1,
        hh⟩ : Fin 2).val = 0 then F.BWTR_XCHK_CLR0_PATHS else F.BWTR_XCHK_CLR1_PATHS)) = F.BWTR_XCHK_CLR1_PATHS from rfl] at ho ⊢
    rw [State.opens_Bwtr ho (by decide) (by decide) (by decide), ht]
    unfold State.writeBwtr
    rw [if_neg (by decide), if_pos (by decide)]

/-- The block of the next air instant, where it has not been judged (R351). -/
theorem does_bwBlockVerdict (hon : s.on = true) (h1 : s.txRun = true) (h2 : s.tx.startK ≤ s.nextTxK)
    (h3 : s.bwtr.block ≠ some (s.bwBlockOf s.nextTxK)) :
    exec .bwBlockVerdict s = .next (State.follow (s.bwJudge (s.bwBlockOf s.nextTxK)) s) := by
  rw [on_bwBlockVerdict hon]
  unfold State.bwBlock
  rw [if_neg (by rw [h1]; simp; omega), if_neg (by simp [h3])]

/-- The granule of the next air instant where it is not decided, else the one after it at its boundary (R354). -/
theorem does_bwGranuleDecision (hon : s.on = true) {g : Nat} (hg : granuleOf (gridAt s.nextTxK) = g) :
    exec .bwGranuleDecision s = .next (State.follow (if s.bwtr.granule = some g then
      (s.reachAbs ((g + 1) * usU 10)).bwGranule (g + 1) else s.bwGranule g) s) := by
  rw [on_bwGranuleDecision hon]
  unfold State.bwGranuleNext
  simp only [hg, beq_iff_eq]

theorem does_cotExpiry (hon : s.on = true) {b : BwBand} {tr : Nat} (h1 : s.band = some b) (h2 : s.bwtr.burst = some tr)
    (h3 : b.cot ≠ 0) :
    exec .cotExpiry s = .next (State.follow ((s.reachAbs (tr + b.cot * usU 10)).raiseMs 0x1106 0 0) s) := by
  rw [on_cotExpiry hon]
  unfold State.cotExpire
  simp only [h1, h2, h3, if_false]

theorem does_lbtQuery (hon : s.on = true) {a : BitVec 64} (h1 : s.nextRise = some a) (h2 : s.sharedBand = true) (h3 : s.inRun = true) :
    exec .lbtQuery s = .next (State.follow ((s.reach (stampSub a (usU 1))).lbtJudge (s.absOf a)) s) := by
  rw [on_lbtQuery hon]
  unfold State.lbtQuery
  simp only [h1, h2, h3, Bool.and_self, if_true]

theorem does_bwtrCntClr (hon : s.on = true) (src : Source) (v : Word) {t : State} {w : Word} (ht : s.touch src = t)
    (hw : fixBit v 0 = w) (ho : s.opens src F.BWTR_CNT_CLR_CLR.addr w = true) :
    exec (.bwtrCntClr src v) s = .next (State.follow (t.each (List.range 10) (fun t r => t.put (F.BWTR_CNT_COUNT r) 0)) s) := by
  rw [on_bwtrCntClr hon, hw, State.opens_Bwtr ho (by decide) (by decide) (by decide), ht]
  unfold State.writeBwtr
  rw [if_neg (by decide), if_neg (by decide), if_pos (by decide), State.iff_of (by rw [← hw]; exact bitAt_fixBit v (by decide))]
  unfold State.bwClear; rfl

end Sys2Proof.Machine
end

