-- ==== Sys2Proof/Laws/ExecHoldCmds.lean ====
section
/-! SUPPORT. What each command of Machine/HoldCmds.lean may change. -/

namespace Sys2Proof.Machine

set_option linter.all false

theorem execHoldRead_moves (granule : BitVec 28) (err : Fin 3) (s : State) (t : State) (h : execHoldRead granule err s = .next t) :
    Moves 0x92520228d4aa0a2 s t := by
  unfold execHoldRead at h
  refine acting_moves (by decide) (fun _ => ?_) h
  repeat' first
    | with_reducible assumption
    | with_reducible exact Moves.refl _ _
    | decide
    | with_reducible apply Moves.step (State.holdRead_moves ..)

theorem execScrubRead_moves (err : Fin 3) (s : State) (t : State) (h : execScrubRead err s = .next t) :
    Moves 0x92520228d4aa0a2 s t := by
  unfold execScrubRead at h
  refine acting_moves (by decide) (fun _ => ?_) h
  repeat' first
    | with_reducible assumption
    | with_reducible exact Moves.refl _ _
    | decide
    | with_reducible apply Moves.step (State.scrubRead_moves ..)

theorem execRepairFuseBurn_moves (s : State) (t : State) (h : execRepairFuseBurn s = .next t) :
    Moves 0x82520228d0aa0a6 s t := by
  unfold execRepairFuseBurn at h
  refine acting_moves (by decide) (fun _ => ?_) h
  repeat' first
    | with_reducible assumption
    | with_reducible exact Moves.refl _ _
    | decide
    | with_reducible apply Moves.step (State.repairBurn_moves ..)

theorem execHoldReady_moves (s : State) (t : State) (h : execHoldReady s = .next t) :
    Moves 0x82520228d02a0a2 s t := by
  unfold execHoldReady at h
  refine acting_moves (by decide) (fun _ => ?_) h
  repeat' first
    | with_reducible assumption
    | with_reducible exact Moves.refl _ _
    | decide
    | with_reducible apply Moves.step (State.holdInit_moves ..)

theorem execHoldcCntClr_moves (src : Source) (v : Word) (s : State) (t : State) (h : execHoldcCntClr src v s = .next t) :
    Moves 0xc2520228d82a0a2 s t := by
  unfold execHoldcCntClr at h
  refine acting_moves (by decide) (fun _ => ?_) h
  repeat' first
    | with_reducible assumption
    | with_reducible exact Moves.refl _ _
    | decide
    | with_reducible apply Moves.step (State.busWrite_Holdc _ _ _ (by first | decide | (simp only [F.HOLDC_CNT_CLR_CLR]; omega) | (simp only [F.HOLDC_CNT_CLR_CLR]; split <;> decide) | (simp only [F.HOLDC_CNT_CLR_CLR]; (repeat' split) <;> omega)))

theorem execGaugeArm_moves (src : Source) (c : Fin 16) (v : Word) (s : State) (t : State) (h : execGaugeArm src c v s = .next t) :
    Moves 0xc1520239d8aa0a2 s t := by
  unfold execGaugeArm at h
  refine acting_moves (by decide) (fun _ => ?_) h
  repeat' first
    | with_reducible assumption
    | with_reducible exact Moves.refl _ _
    | decide
    | with_reducible apply Moves.step (State.busWrite_Gauge _ _ _ (by first | decide | (simp only [F.GAUGE_C_CMD_GO]; omega) | (simp only [F.GAUGE_C_CMD_GO]; split <;> decide) | (simp only [F.GAUGE_C_CMD_GO]; (repeat' split) <;> omega)))

theorem execGaugeStop_moves (src : Source) (c : Fin 16) (v : Word) (s : State) (t : State) (h : execGaugeStop src c v s = .next t) :
    Moves 0xc1520239d8aa0a2 s t := by
  unfold execGaugeStop at h
  refine acting_moves (by decide) (fun _ => ?_) h
  repeat' first
    | with_reducible assumption
    | with_reducible exact Moves.refl _ _
    | decide
    | with_reducible apply Moves.step (State.busWrite_Gauge _ _ _ (by first | decide | (simp only [F.GAUGE_C_CMD_GO]; omega) | (simp only [F.GAUGE_C_CMD_GO]; split <;> decide) | (simp only [F.GAUGE_C_CMD_GO]; (repeat' split) <;> omega)))

theorem execGaugeTrig_moves (src : Source) (c : Fin 16) (v : Word) (s : State) (t : State) (h : execGaugeTrig src c v s = .next t) :
    Moves 0xc1520239d8aa0a2 s t := by
  unfold execGaugeTrig at h
  refine acting_moves (by decide) (fun _ => ?_) h
  repeat' first
    | with_reducible assumption
    | with_reducible exact Moves.refl _ _
    | decide
    | with_reducible apply Moves.step (State.busWrite_Gauge _ _ _ (by first | decide | (simp only [F.GAUGE_C_CMD_GO]; omega) | (simp only [F.GAUGE_C_CMD_GO]; split <;> decide) | (simp only [F.GAUGE_C_CMD_GO]; (repeat' split) <;> omega)))

theorem execGaugeCmdIgnored_moves (src : Source) (c : Fin 16) (v : Word) (s : State) (t : State) (h : execGaugeCmdIgnored src c v s = .next t) :
    Moves 0xc1520239d8aa0a2 s t := by
  unfold execGaugeCmdIgnored at h
  refine acting_moves (by decide) (fun _ => ?_) h
  repeat' first
    | with_reducible assumption
    | with_reducible exact Moves.refl _ _
    | decide
    | with_reducible apply Moves.step (State.busWrite_Gauge _ _ _ (by first | decide | (simp only [F.GAUGE_C_CMD_GO]; omega) | (simp only [F.GAUGE_C_CMD_GO]; split <;> decide) | (simp only [F.GAUGE_C_CMD_GO]; (repeat' split) <;> omega)))

theorem execGtrigEdge_moves (rise : Bool) (s : State) (t : State) (h : execGtrigEdge rise s = .next t) :
    Moves 0x81520228d0aa0a2 s t := by
  unfold execGtrigEdge at h
  refine acting_moves (by decide) (fun _ => ?_) h
  repeat' first
    | with_reducible assumption
    | with_reducible exact Moves.refl _ _
    | decide
    | with_reducible apply Moves.step (State.gtrigEdge_moves ..)

theorem execGaugeTriggerDecide_moves (c : Fin 16) (s : State) (t : State) (h : execGaugeTriggerDecide c s = .next t) :
    Moves 0x815a023dd0aa0e2 s t := by
  unfold execGaugeTriggerDecide at h
  refine acting_moves (by decide) (fun _ => ?_) h
  repeat' first
    | with_reducible assumption
    | with_reducible exact Moves.refl _ _
    | decide
    | with_reducible apply Moves.step (State.gDecide_moves ..)

theorem execGaugeSetWrite_moves (c : Fin 16) (slack : BitVec 16) (s : State) (t : State) (h : execGaugeSetWrite c slack s = .next t) :
    Moves 0x83520239d0aa0a2 s t := by
  unfold execGaugeSetWrite at h
  refine acting_moves (by decide) (fun _ => ?_) h
  repeat' first
    | with_reducible assumption
    | with_reducible exact Moves.refl _ _
    | decide
    | with_reducible apply Moves.ite
    | with_reducible apply Moves.step (State.meter_moves ..)
    | with_reducible apply Moves.step (State.gSetWrite_moves ..)
    | split
    | (with_reducible refine Moves.snd (by assumption) ?_)
    | (with_reducible refine Moves.fst (by assumption) ?_)

theorem execGaugeSetDrop_moves (c : Fin 16) (s : State) (t : State) (h : execGaugeSetDrop c s = .next t) :
    Moves 0x81520239d0aa0a2 s t := by
  unfold execGaugeSetDrop at h
  refine acting_moves (by decide) (fun _ => ?_) h
  repeat' first
    | with_reducible assumption
    | with_reducible exact Moves.refl _ _
    | decide
    | with_reducible apply Moves.step (State.gSetDrop_moves ..)

theorem execDeepHclr_moves (src : Source) (d : Fin 4) (v : Word) (s : State) (t : State) (h : execDeepHclr src d v s = .next t) :
    Moves 0xc1520239d8aa0a2 s t := by
  unfold execDeepHclr at h
  refine acting_moves (by decide) (fun _ => ?_) h
  repeat' first
    | with_reducible assumption
    | with_reducible exact Moves.refl _ _
    | decide
    | with_reducible apply Moves.step (State.busWrite_Gauge _ _ _ (by first | decide | (simp only [F.GAUGE_DEEP_CTL_HCLR]; omega) | (simp only [F.GAUGE_DEEP_CTL_HCLR]; split <;> decide) | (simp only [F.GAUGE_DEEP_CTL_HCLR]; (repeat' split) <;> omega)))

theorem execDeepMclr_moves (src : Source) (d : Fin 4) (v : Word) (s : State) (t : State) (h : execDeepMclr src d v s = .next t) :
    Moves 0xc1520239d8aa0a2 s t := by
  unfold execDeepMclr at h
  refine acting_moves (by decide) (fun _ => ?_) h
  repeat' first
    | with_reducible assumption
    | with_reducible exact Moves.refl _ _
    | decide
    | with_reducible apply Moves.step (State.busWrite_Gauge _ _ _ (by first | decide | (simp only [F.GAUGE_DEEP_CTL_MCLR]; omega) | (simp only [F.GAUGE_DEEP_CTL_MCLR]; split <;> decide) | (simp only [F.GAUGE_DEEP_CTL_MCLR]; (repeat' split) <;> omega)))

theorem execGaugeCntClr_moves (src : Source) (v : Word) (s : State) (t : State) (h : execGaugeCntClr src v s = .next t) :
    Moves 0xc1520239d8aa0a2 s t := by
  unfold execGaugeCntClr at h
  refine acting_moves (by decide) (fun _ => ?_) h
  repeat' first
    | with_reducible assumption
    | with_reducible exact Moves.refl _ _
    | decide
    | with_reducible apply Moves.step (State.busWrite_Gauge _ _ _ (by first | decide | (simp only [F.GAUGE_CNT_CLR_CLR]; omega) | (simp only [F.GAUGE_CNT_CLR_CLR]; split <;> decide) | (simp only [F.GAUGE_CNT_CLR_CLR]; (repeat' split) <;> omega)))

theorem execReplayGo_moves (src : Source) (r : Fin 4) (v : Word) (s : State) (t : State) (h : execReplayGo src r v s = .next t) :
    Moves 0xc1520239d8aa0a2 s t := by
  unfold execReplayGo at h
  refine acting_moves (by decide) (fun _ => ?_) h
  repeat' first
    | with_reducible assumption
    | with_reducible exact Moves.refl _ _
    | decide
    | with_reducible apply Moves.step (State.busWrite_Gauge _ _ _ (by first | decide | (simp only [F.GAUGE_RP_CTL_GO]; omega) | (simp only [F.GAUGE_RP_CTL_GO]; split <;> decide) | (simp only [F.GAUGE_RP_CTL_GO]; (repeat' split) <;> omega)))

theorem execReplayStop_moves (src : Source) (r : Fin 4) (v : Word) (s : State) (t : State) (h : execReplayStop src r v s = .next t) :
    Moves 0xc1520239d8aa0a2 s t := by
  unfold execReplayStop at h
  refine acting_moves (by decide) (fun _ => ?_) h
  repeat' first
    | with_reducible assumption
    | with_reducible exact Moves.refl _ _
    | decide
    | with_reducible apply Moves.step (State.busWrite_Gauge _ _ _ (by first | decide | (simp only [F.GAUGE_RP_CTL_GO]; omega) | (simp only [F.GAUGE_RP_CTL_GO]; split <;> decide) | (simp only [F.GAUGE_RP_CTL_GO]; (repeat' split) <;> omega)))

theorem execReplayStart_moves (r : Fin 4) (s : State) (t : State) (h : execReplayStart r s = .next t) :
    Moves 0x835a022cd0aa0e2 s t := by
  unfold execReplayStart at h
  refine acting_moves (by decide) (fun _ => ?_) h
  repeat' first
    | with_reducible assumption
    | with_reducible exact Moves.refl _ _
    | decide
    | with_reducible apply Moves.step (State.rpStart_moves ..)

theorem execReplayEnd_moves (r : Fin 4) (s : State) (t : State) (h : execReplayEnd r s = .next t) :
    Moves 0x815a022cd0aa0e2 s t := by
  unfold execReplayEnd at h
  refine acting_moves (by decide) (fun _ => ?_) h
  repeat' first
    | with_reducible assumption
    | with_reducible exact Moves.refl _ _
    | decide
    | with_reducible apply Moves.step (State.rpFinish_moves ..)

end Sys2Proof.Machine
end

