-- ==== Sys2Proof/Laws/OnHoldCmds.lean ====
section
/-! SUPPORT. What the commands of Machine/HoldCmds.lean answer while the device acts. -/

namespace Sys2Proof.Machine

set_option linter.all false

theorem on_holdRead {s : State} (hon : s.on = true) (granule : BitVec 28) (err : Fin 3) :
    exec (.holdRead granule err) s = .next (State.follow (s.holdRead granule.toNat err.val) s) := by
  show execHoldRead granule err s = _
  exact acting_on hon

theorem on_scrubRead {s : State} (hon : s.on = true) (err : Fin 3) :
    exec (.scrubRead err) s = .next (State.follow (s.scrubRead err.val) s) := by
  show execScrubRead err s = _
  exact acting_on hon

theorem on_repairFuseBurn {s : State} (hon : s.on = true)  :
    exec (.repairFuseBurn) s = .next (State.follow (s.repairBurn) s) := by
  show execRepairFuseBurn  s = _
  exact acting_on hon

theorem on_holdReady {s : State} (hon : s.on = true)  :
    exec (.holdReady) s = .next (State.follow (s.holdInit) s) := by
  show execHoldReady  s = _
  exact acting_on hon

theorem on_holdcCntClr {s : State} (hon : s.on = true) (src : Source) (v : Word) :
    exec (.holdcCntClr src v) s = .next (State.follow (s.busWrite src F.HOLDC_CNT_CLR_CLR.addr (fixBit v 0)) s) := by
  show execHoldcCntClr src v s = _
  exact acting_on hon

theorem on_gaugeArm {s : State} (hon : s.on = true) (src : Source) (c : Fin 16) (v : Word) :
    exec (.gaugeArm src c v) s = .next (State.follow (s.busWrite src (F.GAUGE_C_CMD_GO c.val).addr (gaugeCmdWord v 1)) s) := by
  show execGaugeArm src c v s = _
  exact acting_on hon

theorem on_gaugeStop {s : State} (hon : s.on = true) (src : Source) (c : Fin 16) (v : Word) :
    exec (.gaugeStop src c v) s = .next (State.follow (s.busWrite src (F.GAUGE_C_CMD_GO c.val).addr (gaugeCmdWord v 2)) s) := by
  show execGaugeStop src c v s = _
  exact acting_on hon

theorem on_gaugeTrig {s : State} (hon : s.on = true) (src : Source) (c : Fin 16) (v : Word) :
    exec (.gaugeTrig src c v) s = .next (State.follow (s.busWrite src (F.GAUGE_C_CMD_GO c.val).addr (gaugeCmdWord v 3)) s) := by
  show execGaugeTrig src c v s = _
  exact acting_on hon

theorem on_gaugeCmdIgnored {s : State} (hon : s.on = true) (src : Source) (c : Fin 16) (v : Word) :
    exec (.gaugeCmdIgnored src c v) s = .next (State.follow (s.busWrite src (F.GAUGE_C_CMD_GO c.val).addr (gaugeCmdWord v 0)) s) := by
  show execGaugeCmdIgnored src c v s = _
  exact acting_on hon

theorem on_gtrigEdge {s : State} (hon : s.on = true) (rise : Bool) :
    exec (.gtrigEdge rise) s = .next (State.follow (s.gtrigEdge rise) s) := by
  show execGtrigEdge rise s = _
  exact acting_on hon

theorem on_gaugeTriggerDecide {s : State} (hon : s.on = true) (c : Fin 16) :
    exec (.gaugeTriggerDecide c) s = .next (State.follow (s.gDecide c.val) s) := by
  show execGaugeTriggerDecide c s = _
  exact acting_on hon

theorem on_gaugeSetWrite {s : State} (hon : s.on = true) (c : Fin 16) (slack : BitVec 16) :
    exec (.gaugeSetWrite c slack) s = .next (State.follow ((if s.meterActive 7 && s.setReady c.val && decide (s.gState c.val ≠ gIDLE ∧ s.gState c.val ≠ gSUSP) then
    s.meter 7 slack.toNat else s).gSetWrite c.val) s) := by
  show execGaugeSetWrite c slack s = _
  exact acting_on hon

theorem on_gaugeSetDrop {s : State} (hon : s.on = true) (c : Fin 16) :
    exec (.gaugeSetDrop c) s = .next (State.follow (s.gSetDrop c.val) s) := by
  show execGaugeSetDrop c s = _
  exact acting_on hon

theorem on_deepHclr {s : State} (hon : s.on = true) (src : Source) (d : Fin 4) (v : Word) :
    exec (.deepHclr src d v) s = .next (State.follow (s.busWrite src (F.GAUGE_DEEP_CTL_HCLR d.val).addr (fixBit v 29)) s) := by
  show execDeepHclr src d v s = _
  exact acting_on hon

theorem on_deepMclr {s : State} (hon : s.on = true) (src : Source) (d : Fin 4) (v : Word) :
    exec (.deepMclr src d v) s = .next (State.follow (s.busWrite src (F.GAUGE_DEEP_CTL_MCLR d.val).addr (fixBit v 28)) s) := by
  show execDeepMclr src d v s = _
  exact acting_on hon

theorem on_gaugeCntClr {s : State} (hon : s.on = true) (src : Source) (v : Word) :
    exec (.gaugeCntClr src v) s = .next (State.follow (s.busWrite src F.GAUGE_CNT_CLR_CLR.addr (fixBit v 0)) s) := by
  show execGaugeCntClr src v s = _
  exact acting_on hon

theorem on_replayGo {s : State} (hon : s.on = true) (src : Source) (r : Fin 4) (v : Word) :
    exec (.replayGo src r v) s = .next (State.follow (s.busWrite src (F.GAUGE_RP_CTL_GO r.val).addr (fixBit v 31)) s) := by
  show execReplayGo src r v s = _
  exact acting_on hon

theorem on_replayStop {s : State} (hon : s.on = true) (src : Source) (r : Fin 4) (v : Word) :
    exec (.replayStop src r v) s = .next (State.follow (s.busWrite src (F.GAUGE_RP_CTL_GO r.val).addr (fixBit v 30)) s) := by
  show execReplayStop src r v s = _
  exact acting_on hon

theorem on_replayStart {s : State} (hon : s.on = true) (r : Fin 4) :
    exec (.replayStart r) s = .next (State.follow (s.rpStart r.val) s) := by
  show execReplayStart r s = _
  exact acting_on hon

theorem on_replayEnd {s : State} (hon : s.on = true) (r : Fin 4) :
    exec (.replayEnd r) s = .next (State.follow (s.rpFinish r.val) s) := by
  show execReplayEnd r s = _
  exact acting_on hon

end Sys2Proof.Machine
end

