-- ==== Sys2Proof/Laws/DoesHold.lean ====
section
/-! SUPPORT. What the commands of Hold, Gauge, the deep channels and the replay engines do where they take effect. -/

namespace Sys2Proof.Machine

set_option linter.all false

variable {s : State}

/-- A read of a granule: nothing wrong, a corrected error, or an uncorrectable one that poisons it (R377). -/
theorem does_holdRead (hon : s.on = true) (granule : BitVec 28) (err : Fin 3) (h1 : s.holdReady = true)
    (h2 : granule.toNat < s.granules) :
    exec (.holdRead granule err) s = .next (State.follow (if err.val = 1 then s.correctedError granule.toNat
      else if err.val = 2 then s.poisonGranule granule.toNat else s) s) := by
  rw [on_holdRead hon]
  unfold State.holdRead
  rw [if_neg (by simp [h1, h2])]

/-- The scrubber's read without an error, before its last granule (R378). -/
theorem does_scrubRead (hon : s.on = true) {t : State} (h1 : s.holdReady = true)
    (ht : s.holdCarried 4 1 = t) (h3 : s.hold.scrub + 1 < t.granules) :
    exec (.scrubRead 0) s = .next (State.follow { t with hold := { t.hold with scrub := s.hold.scrub + 1 } } s) := by
  rw [on_scrubRead hon]
  unfold State.scrubRead
  have e : State.holdRead t s.hold.scrub 0 = t := by
    unfold State.holdRead
    simp only [Nat.zero_ne_one, if_false, show ¬(0 = 2) from by decide, ite_self]
  rw [if_neg (by simp [h1])]
  simp only [ht, show ((0 : Fin 3).val) = 0 from rfl, e, Nat.zero_ne_one, if_false]
  rw [if_pos h3]

/-- A corrected error in a row that had one on the last pass too: the row is repaired (R379). -/
theorem does_scrubRead_repair (hon : s.on = true) {t u : State} (h1 : s.holdReady = true)
    (ht : (s.holdCarried 4 1).holdRead s.hold.scrub 1 = t) (h2 : t.hold.rowsBefore.contains (s.holdRow s.hold.scrub) = true)
    (hu : t.repairRow (s.holdRow s.hold.scrub) = u) (h3 : s.hold.scrub + 1 < u.granules) :
    exec (.scrubRead 1) s = .next (State.follow { u with hold := { u.hold with scrub := s.hold.scrub + 1 } } s) := by
  rw [on_scrubRead hon]
  unfold State.scrubRead
  rw [if_neg (by simp [h1])]
  simp only [show ((1 : Fin 3).val) = 1 from rfl, ht, if_true, h2, hu]
  rw [if_pos h3]

theorem does_repairFuseBurn (hon : s.on = true) {r : Nat × Nat} {rs : List (Nat × Nat)} {t : State} (h : s.hold.remaps = r :: rs)
    (h1 : s.up domHOLD = true) (h2 : s.flag F.THERM_STAT_NVM_OK = true)
    (ht : ({ s with hold := { s.hold with remaps := rs }, fuses := { s.fuses with repairs := s.fuses.repairs ++ [r] } } : State) = t) :
    exec .repairFuseBurn s = .next (State.follow (t.put (F.HOLDC_SPARE_UNBURNT r.1) (t.get (F.HOLDC_SPARE_UNBURNT r.1) - 1)) s) := by
  rw [on_repairFuseBurn hon]
  unfold State.repairBurn
  simp only [h, h1, h2, Bool.and_self, if_true, ht]

theorem does_holdReady (hon : s.on = true) (h : s.up domHOLD = true) :
    exec .holdReady s = .next (State.follow (s.putb F.HOLDC_STAT_READY true) s) := by
  rw [on_holdReady hon]
  unfold State.holdInit
  rw [if_pos h]

theorem does_holdcCntClr (hon : s.on = true) (src : Source) (v : Word) {t : State} {w : Word} (ht : s.touch src = t)
    (hw : fixBit v 0 = w) (ho : s.opens src F.HOLDC_CNT_CLR_CLR.addr w = true) :
    exec (.holdcCntClr src v) s = .next (State.follow (((t.put F.HOLDC_CE_CNT_COUNT 0).put F.HOLDC_UE_CNT_COUNT 0).put
      F.HOLDC_UNREP_COUNT 0) s) := by
  rw [on_holdcCntClr hon, hw, State.opens_Holdc ho (by decide) (by decide) (by decide), ht]
  unfold State.writeHoldc
  rw [if_pos (by decide), State.iff_of (by rw [← hw]; exact bitAt_fixBit v (by decide))]

theorem gauge_cmd {src : Source} {c : Fin 16} {v : Word} {op : Nat} {t : State} {w : Word} (ht : s.touch src = t)
    (hw : gaugeCmdWord v op = w) (hop : op < 4) (ho : s.opens src (F.GAUGE_C_CMD_GO c.val).addr w = true) :
    s.busWrite src (F.GAUGE_C_CMD_GO c.val).addr w = t.gaugeCmd c.val op := by
  have h := c.isLt
  have e : (F.GAUGE_C_CMD_GO c.val).addr = 0x130120 + 0x40 * c.val := by simp only [F.GAUGE_C_CMD_GO]; omega
  have y : F.GAUGE_CNT_CLR_CLR.addr < 0x130100 := by decide
  generalize (F.GAUGE_C_CMD_GO c.val).addr = a at e ho ⊢
  rw [State.opens_Gauge ho (by omega) (by omega) (by simp only [evtAddr]; omega), ht]
  unfold State.writeGauge
  rw [if_neg (by omega), if_pos (by omega)]
  dsimp only
  rw [if_pos (by omega), State.iff_of (by
      rw [← hw]; unfold gaugeCmdWord
      rw [bitAt_fix_other _ _ (by decide) (by decide)]; exact bitAt_fixBit v (by decide)),
    show (a - 0x130100) / 0x40 = c.val by omega,
    show bitsAt w.toNat 0 2 = op from by rw [← hw]; unfold gaugeCmdWord; rw [bitsAt_fix _ _ (by decide)]; omega]

/-- An idle channel whose check passes is armed: its records, slot and directory begin again (R384, R385). -/
theorem does_gaugeArm (hon : s.on = true) (src : Source) (c : Fin 16) (v : Word) {cmp : Nat} {trigs : List (Nat × Nat)} {t u x : State}
    {w : Word} (ht : s.touch src = t) (hw : gaugeCmdWord v 1 = w) (ho : s.opens src (F.GAUGE_C_CMD_GO c.val).addr w = true)
    (h1 : t.gState c.val = gIDLE) (h2 : t.gCheck c.val = gOK) (hu : t.put (F.GAUGE_C_STAT_RESULT c.val) gOK = u)
    (hc : u.absOf (u.get64 (F.GAUGE_C_TCMP_LO_STAMP c.val) (F.GAUGE_C_TCMP_HI_STAMP c.val)) = cmp)
    (hg : (if bitAt (u.get (F.GAUGE_C_CTL_TRIG_EN c.val)) 1 ∧ u.tide.now ≤ cmp then [(1, cmp)] else []) = trigs)
    (hx : ((u.put (F.GAUGE_C_STAT_RECS c.val) 0).put (F.GAUGE_C_STAT_SLOT c.val) 0).each (List.range 16)
      (fun w i => w.each (List.range 16) (fun y k => y.put (F.GAUGE_DIR_WORD c.val i k) 0)) = x) :
    exec (.gaugeArm src c v) s = .next (State.follow
      ((x.setGchan c.val { u.gchan c.val with trigs := trigs, full := 0, block := [], spectra := 0 }).gFill c.val) s) := by
  rw [on_gaugeArm hon, hw, gauge_cmd ht hw (by decide) ho]
  show Host.Outcome.next (State.follow (t.gArm c.val) s) = _
  unfold State.gArm
  rw [if_neg (by simp [h1])]
  simp only [h2, hu, ne_eq, not_true_eq_false, if_false, hc, hg, hx]

/-- The check turns an ARM away (R384). -/
theorem refuses_gaugeArm (hon : s.on = true) (src : Source) (c : Fin 16) (v : Word) {r : Nat} {t : State} {w : Word}
    (ht : s.touch src = t) (hw : gaugeCmdWord v 1 = w) (ho : s.opens src (F.GAUGE_C_CMD_GO c.val).addr w = true)
    (h1 : t.gState c.val = gIDLE) (hr : t.gCheck c.val = r) (h2 : r ≠ gOK) :
    exec (.gaugeArm src c v) s = .next (State.follow ((t.put (F.GAUGE_C_STAT_RESULT c.val) r).raise 0x1307 c.val) s) := by
  rw [on_gaugeArm hon, hw, gauge_cmd ht hw (by decide) ho]
  show Host.Outcome.next (State.follow (t.gArm c.val) s) = _
  unfold State.gArm
  rw [if_neg (by simp [h1])]
  simp only [hr, ne_eq, h2, not_false_eq_true, if_true]
  unfold State.gRefuse; rfl

/-- A channel stops; a record in POST is closed as truncated (R391). -/
theorem does_gaugeStop (hon : s.on = true) (src : Source) (c : Fin 16) (v : Word) {t u : State} {w : Word} (ht : s.touch src = t)
    (hw : gaugeCmdWord v 2 = w) (ho : s.opens src (F.GAUGE_C_CMD_GO c.val).addr w = true)
    (hu : (if t.gState c.val = gPOST then t.gClose c.val true false else t) = u) :
    exec (.gaugeStop src c v) s = .next (State.follow
      ((u.setGchan c.val { u.gchan c.val with buf := [], trigs := [], trig := none }).setGstate c.val gIDLE) s) := by
  rw [on_gaugeStop hon, hw, gauge_cmd ht hw (by decide) ho]
  show Host.Outcome.next (State.follow (t.gStop c.val) s) = _
  unfold State.gStop
  simp only [hu]

/-- A trigger event of source 6 now (R386). -/
theorem does_gaugeTrig (hon : s.on = true) (src : Source) (c : Fin 16) (v : Word) {t : State} {w : Word} (ht : s.touch src = t)
    (hw : gaugeCmdWord v 3 = w) (ho : s.opens src (F.GAUGE_C_CMD_GO c.val).addr w = true) :
    exec (.gaugeTrig src c v) s = .next (State.follow (t.gaugeEventTo c.val 6 t.tide.now) s) := by
  rw [on_gaugeTrig hon, hw, gauge_cmd ht hw (by decide) ho]
  rfl

theorem does_gaugeCmdIgnored (hon : s.on = true) (src : Source) (c : Fin 16) (v : Word) {t : State} {w : Word} (ht : s.touch src = t)
    (hw : gaugeCmdWord v 0 = w) (ho : s.opens src (F.GAUGE_C_CMD_GO c.val).addr w = true) :
    exec (.gaugeCmdIgnored src c v) s = .next (State.follow t s) := by
  rw [on_gaugeCmdIgnored hon, hw, gauge_cmd ht hw (by decide) ho]
  rfl

/-- The selected edge of GTRIG is a trigger event of source 0 for every channel (R386). -/
theorem does_gtrigEdge (hon : s.on = true) (rise : Bool) {t : State} (h : s.pins.gtrig ≠ rise)
    (h2 : rise = (s.get F.GAUGE_CTL_GTRIG_POL == 0)) (ht : ({ s with pins := { s.pins with gtrig := rise } } : State) = t) :
    exec (.gtrigEdge rise) s = .next (State.follow (t.each (List.range 16) (fun u c => u.gaugeEventTo c 0 s.tide.now)) s) := by
  rw [on_gtrigEdge hon]
  unfold State.gtrigEdge
  dsimp only
  rw [if_pos ⟨h, h2⟩, ht]
  unfold State.gaugeEvent; rfl

/-- The other edge only moves the pin. -/
theorem holds_gtrigEdge (hon : s.on = true) (rise : Bool) (h : ¬(s.pins.gtrig ≠ rise ∧ rise = (s.get F.GAUGE_CTL_GTRIG_POL == 0))) :
    exec (.gtrigEdge rise) s = .next (State.follow { s with pins := { s.pins with gtrig := rise } } s) := by
  rw [on_gtrigEdge hon]
  unfold State.gtrigEdge
  dsimp only
  rw [if_neg h]

/-- The earliest trigger sample is decided for its lowest source: POST begins (R387, R388). -/
theorem does_gaugeTriggerDecide (hon : s.on = true) (c : Fin 16) {t0 : Nat × Nat} {ts here : List (Nat × Nat)} {te n win at_ frac : Nat}
    {u : State} {x : GaugeChan} (ht : (s.gchan c.val).trigs = t0 :: ts) (h1 : s.gState c.val = gARMED)
    (he : minOf t0.2 (ts.map (fun e => e.2)) = te) (hn : s.tapIndex (s.gPoint c.val) te = n)
    (hu : s.reachAbs (s.tapAt (s.gPoint c.val) n + usU 20) = u)
    (hh : (t0 :: ts).filter (fun e => u.tapIndex (s.gPoint c.val) e.2 == n) = here)
    (hw : minOf 7 (here.map (fun e => e.1)) = win)
    (ha : ((here.find? (fun e => e.1 == win)).map (fun e => e.2)).getD te = at_)
    (hx : ({ s.gchan c.val with trigs := (t0 :: ts).filter (fun e => u.tapIndex (s.gPoint c.val) e.2 != n) } : GaugeChan) = x)
    (h2 : ¬((n : Int) < x.n0 + 15 * s.gPre c.val))
    (hf : (at_ - u.tapAt (s.gPoint c.val) n) * 64 * 3 * one32 / (200000 * u.tapPeriod (s.gPoint c.val)) = frac)
    (hp : u.gPre c.val = s.gPre c.val) :
    exec (.gaugeTriggerDecide c) s = .next (State.follow ((((u.setGchan c.val x).setGchan c.val { x with
      trig := some ((((n : Int) - x.n0) / 15).toNat, ⟨at_, if 63 < frac then 63 else frac, win, maskOf (here.map (fun e => e.1))⟩) }).setGstate
        c.val gPOST).gAdvance c.val) s) := by
  rw [on_gaugeTriggerDecide hon]
  unfold State.gDecide
  subst hx
  dsimp only at h2
  simp only [h1, ht, he, hn, hu, hh, hw, ha, hp, hf]
  rw [if_pos (by decide), if_neg h2, if_neg (by decide)]

/-- A trigger before the PRE sets are there is ignored, one in POST counted as a retrigger (R387). -/
theorem skips_gaugeTriggerDecide (hon : s.on = true) (c : Fin 16) {t0 : Nat × Nat} {ts : List (Nat × Nat)} {te n : Nat}
    {u : State} {x : GaugeChan} (ht : (s.gchan c.val).trigs = t0 :: ts) (h1 : s.gState c.val = gPOST)
    (he : minOf t0.2 (ts.map (fun e => e.2)) = te) (hn : s.tapIndex (s.gPoint c.val) te = n)
    (hu : s.reachAbs (s.tapAt (s.gPoint c.val) n + usU 20) = u)
    (hx : ({ s.gchan c.val with trigs := (t0 :: ts).filter (fun e => u.tapIndex (s.gPoint c.val) e.2 != n) } : GaugeChan) = x)
    (h2 : ¬((n : Int) < x.n0 + 15 * u.gPre c.val)) :
    exec (.gaugeTriggerDecide c) s = .next (State.follow ((u.setGchan c.val x).inc (F.GAUGE_C_TCNT_RETRIG c.val)) s) := by
  rw [on_gaugeTriggerDecide hon]
  unfold State.gDecide
  subst hx
  dsimp only at h2
  simp only [h1, ht, he, hn, hu]
  rw [if_pos (by decide), if_neg h2, if_pos trivial]

/-- A set whose samples have come is written to Hold, granule by granule; no run of dropped sets precedes it (R383). -/
theorem does_gaugeSetWrite (hon : s.on = true) (c : Fin 16) (slack : BitVec 16) {u : State} {x : GaugeChan} {m k0 a0 : Nat}
    (hu : (if s.meterActive 7 && s.setReady c.val && decide (s.gState c.val ≠ gIDLE ∧ s.gState c.val ≠ gSUSP) then
      s.meter 7 slack.toNat else s) = u)
    (h1 : u.gState c.val = gFILL ∨ u.gState c.val = gARMED ∨ u.gState c.val = gPOST) (h2 : u.setReady c.val = true)
    (hx : u.gchan c.val = x) (hm : x.first x.set = m) (hd : dropRun x.sets = (0, k0, a0)) :
    exec (.gaugeSetWrite c slack) s = .next (State.follow (
      ((((u.each (List.range (u.gCnt c.val)) (fun t j => t.writeGranule (t.gGranule c.val x.set j)
          (granuleBytes (decide (u.gPoint c.val < 2)) ((List.range 15).map (fun i => x.sample j (m + i)))))).setGchan c.val { x with
        set := x.set + 1
        sets := ((x.set, u.tapAt (u.gPoint c.val) m, false) :: x.sets).take (u.gLen c.val)
        buf := x.buf.map (fun e => (e.1, e.2.filter (fun z => decide (m + 15 ≤ z.n)))) }).holdCarried 0 (u.gCnt c.val)).deepSet c.val
          ((List.range 15).map (fun i => some (x.sample 0 (m + i))))).gAdvance c.val) s) := by
  rw [on_gaugeSetWrite hon]
  simp only [hu]
  unfold State.gSetWrite
  simp only
  rw [if_pos ⟨h1, h2⟩]
  simp only [hx, hm, hd, if_true]

/-- A set that finds no room is dropped: meter 7 slips, and the deep functions see a gap (R390, R395). -/
theorem does_gaugeSetDrop (hon : s.on = true) (c : Fin 16) {x : GaugeChan} {m : Nat}
    (h1 : s.gState c.val = gFILL ∨ s.gState c.val = gARMED ∨ s.gState c.val = gPOST) (h2 : s.setReady c.val = true)
    (hx : s.gchan c.val = x) (hm : x.first x.set = m) :
    exec (.gaugeSetDrop c) s = .next (State.follow (
      ((((s.setGchan c.val { x with
        set := x.set + 1
        sets := ((x.set, s.tapAt (s.gPoint c.val) m, true) :: x.sets).take (s.gLen c.val)
        buf := x.buf.map (fun e => (e.1, e.2.filter (fun z => decide (m + 15 ≤ z.n)))) }).add (F.TOP_SLIP_CNT_COUNT 7)
          (15 * s.gCnt c.val)).deepSet c.val (List.replicate 15 none)).gAdvance c.val)) s) := by
  rw [on_gaugeSetDrop hon]
  unfold State.gSetDrop
  simp only
  rw [if_pos ⟨h1, h2⟩]
  simp only [hx, hm]

theorem deep_write {src : Source} {d a : Nat} {t : State} {w : Word} (ht : s.touch src = t) (hd : d < 4)
    (e : a = 0x130600 + 0x10 * d) (ho : s.opens src a w = true) :
    s.busWrite src a w = ((t.plain a w.toNat).iff (bitAt w.toNat 29) (fun t => t.clearStep (0x138000 + 0x1000 * (d % 4)) 4 1024)).iff
      (bitAt w.toNat 28) (fun t => { t with hold := { t.hold with map := sparseKeep (fun k => k / 32768 ≠ d) t.hold.map } }) := by
  have y : F.GAUGE_CNT_CLR_CLR.addr < 0x130100 := by decide
  rw [State.opens_Gauge ho (by omega) (by omega) (by simp only [evtAddr]; omega), ht]
  unfold State.writeGauge
  rw [if_neg (by omega), if_neg (by omega), if_pos (by omega)]
  dsimp only
  rw [show (a - 0x130600) / 0x10 = d by omega]
  unfold State.histClear State.mapClear; rfl

/-- The histogram of a deep channel is cleared (R395). -/
theorem does_deepHclr (hon : s.on = true) (src : Source) (d : Fin 4) (v : Word) {t : State} {w : Word} (ht : s.touch src = t)
    (hw : fixBit v 29 = w) (ho : s.opens src (F.GAUGE_DEEP_CTL_HCLR d.val).addr w = true) (h : bitAt w.toNat 28 = false) :
    exec (.deepHclr src d v) s = .next (State.follow ((t.plain (0x130600 + 0x10 * d.val) w.toNat).clearStep (0x138000 + 0x1000 * d.val) 4
      1024) s) := by
  have hd := d.isLt
  have e : (F.GAUGE_DEEP_CTL_HCLR d.val).addr = 0x130600 + 0x10 * d.val := by simp only [F.GAUGE_DEEP_CTL_HCLR]; omega
  rw [on_deepHclr hon, hw]
  rw [e] at ho ⊢
  rw [deep_write ht hd rfl ho, State.iff_not h, State.iff_of (by rw [← hw]; exact bitAt_fixBit v (by decide)),
      Nat.mod_eq_of_lt hd]

/-- The map of a deep channel is cleared (R396). -/
theorem does_deepMclr (hon : s.on = true) (src : Source) (d : Fin 4) (v : Word) {t u : State} {w : Word} (ht : s.touch src = t)
    (hw : fixBit v 28 = w) (ho : s.opens src (F.GAUGE_DEEP_CTL_MCLR d.val).addr w = true) (h : bitAt w.toNat 29 = false)
    (hu : t.plain (0x130600 + 0x10 * d.val) w.toNat = u) :
    exec (.deepMclr src d v) s = .next (State.follow { u with hold := { u.hold with
      map := sparseKeep (fun k => k / 32768 ≠ d.val) u.hold.map } } s) := by
  have hd := d.isLt
  have e : (F.GAUGE_DEEP_CTL_MCLR d.val).addr = 0x130600 + 0x10 * d.val := by simp only [F.GAUGE_DEEP_CTL_MCLR]; omega
  rw [on_deepMclr hon, hw]
  rw [e] at ho ⊢
  rw [deep_write ht hd rfl ho, State.iff_not h, State.iff_of (by rw [← hw]; exact bitAt_fixBit v (by decide)), hu]

theorem does_gaugeCntClr (hon : s.on = true) (src : Source) (v : Word) {t : State} {w : Word} (ht : s.touch src = t)
    (hw : fixBit v 0 = w) (ho : s.opens src F.GAUGE_CNT_CLR_CLR.addr w = true) :
    exec (.gaugeCntClr src v) s = .next (State.follow (((((t.clearStep 0x13012C 0x40 16).clearStep 0x130130 0x40 16).clearStep 0x130604
      0x10 4).clearStep 0x130608 0x10 4).clearStep 0x130718 0x40 4) s) := by
  rw [on_gaugeCntClr hon, hw, State.opens_Gauge ho (by decide) (by decide) (by decide), ht]
  unfold State.writeGauge
  rw [if_pos (by decide), State.iff_of (by rw [← hw]; exact bitAt_fixBit v (by decide))]
  unfold State.gaugeClear; rfl

theorem rp_write {src : Source} {r : Fin 4} {t : State} {w : Word} (ht : s.touch src = t)
    (ho : s.opens src (F.GAUGE_RP_CTL_GO r.val).addr w = true) :
    s.busWrite src (F.GAUGE_RP_CTL_GO r.val).addr w = ((t.plain (F.GAUGE_RP_CTL_GO r.val).addr w.toNat).iff (bitAt w.toNat 31)
      (fun t => t.rpGo r.val)).iff (bitAt w.toNat 30) (fun t => t.rpStop r.val) := by
  have h := r.isLt
  have e : (F.GAUGE_RP_CTL_GO r.val).addr = 0x130700 + 0x40 * r.val := by simp only [F.GAUGE_RP_CTL_GO]; omega
  have y : F.GAUGE_CNT_CLR_CLR.addr < 0x130100 := by decide
  generalize (F.GAUGE_RP_CTL_GO r.val).addr = a at e ho ⊢
  rw [State.opens_Gauge ho (by omega) (by omega) (by simp only [evtAddr]; omega), ht]
  unfold State.writeGauge
  rw [if_neg (by omega), if_neg (by omega), if_neg (by omega), if_pos (by omega)]
  dsimp only
  rw [show (a - 0x130700) / 0x40 = r.val by omega]

/-- An idle engine whose check passes waits for RP_AT (R397). -/
theorem does_replayGo (hon : s.on = true) (src : Source) (r : Fin 4) (v : Word) {t u : State} {w : Word} (ht : s.touch src = t)
    (hw : fixBit v 31 = w) (ho : s.opens src (F.GAUGE_RP_CTL_GO r.val).addr w = true) (h : bitAt w.toNat 30 = false)
    (hu : t.plain (F.GAUGE_RP_CTL_GO r.val).addr w.toNat = u) (h1 : u.get (F.GAUGE_RP_STAT_STATE r.val) = 0)
    (h2 : u.rpCheck r.val = 0) :
    exec (.replayGo src r v) s = .next (State.follow (((u.put (F.GAUGE_RP_STAT_RESULT r.val) 0).put (F.GAUGE_RP_STAT_STATE r.val) 1).put
      (F.GAUGE_RP_STAT_DONE r.val) 0) s) := by
  rw [on_replayGo hon, hw, rp_write ht ho, State.iff_not h, State.iff_of (by rw [← hw]; exact bitAt_fixBit v (by decide)), hu]
  unfold State.rpGo
  rw [if_neg (by simp [h1])]
  simp only [h2, ne_eq, not_true_eq_false, if_false]

/-- The check turns a GO away (R397). -/
theorem refuses_replayGo (hon : s.on = true) (src : Source) (r : Fin 4) (v : Word) {k : Nat} {t u : State} {w : Word}
    (ht : s.touch src = t) (hw : fixBit v 31 = w) (ho : s.opens src (F.GAUGE_RP_CTL_GO r.val).addr w = true)
    (h : bitAt w.toNat 30 = false) (hu : t.plain (F.GAUGE_RP_CTL_GO r.val).addr w.toNat = u)
    (h1 : u.get (F.GAUGE_RP_STAT_STATE r.val) = 0) (hk : u.rpCheck r.val = k) (h2 : k ≠ 0) :
    exec (.replayGo src r v) s = .next (State.follow ((u.put (F.GAUGE_RP_STAT_RESULT r.val) k).raise 0x1307 r.val) s) := by
  rw [on_replayGo hon, hw, rp_write ht ho, State.iff_not h, State.iff_of (by rw [← hw]; exact bitAt_fixBit v (by decide)), hu]
  unfold State.rpGo
  rw [if_neg (by simp [h1])]
  simp only [hk, ne_eq, h2, not_false_eq_true, if_true]
  unfold State.gRefuse; rfl

/-- Play ends at the next set boundary (R398). -/
theorem does_replayStop (hon : s.on = true) (src : Source) (r : Fin 4) (v : Word) {t u : State} {e : RpEngine} {w : Word}
    (ht : s.touch src = t) (hw : fixBit v 30 = w) (ho : s.opens src (F.GAUGE_RP_CTL_GO r.val).addr w = true)
    (h : bitAt w.toNat 31 = false) (hu : t.plain (F.GAUGE_RP_CTL_GO r.val).addr w.toNat = u)
    (h1 : u.get (F.GAUGE_RP_STAT_STATE r.val) ≠ 1) (he : sparseFind u.hold.engines r.val = some e) :
    exec (.replayStop src r v) s = .next (State.follow { u with hold := { u.hold with
      engines := sparseInsert u.hold.engines r.val { e with stop := true } } } s) := by
  rw [on_replayStop hon, hw, rp_write ht ho, State.iff_of (by rw [← hw]; exact bitAt_fixBit v (by decide)), State.iff_not h, hu]
  unfold State.rpStop
  rw [if_neg h1]
  simp only [he]

/-- An engine that waits ends at once (R398). -/
theorem does_replayStop_waiting (hon : s.on = true) (src : Source) (r : Fin 4) (v : Word) {t u : State} {w : Word}
    (ht : s.touch src = t) (hw : fixBit v 30 = w) (ho : s.opens src (F.GAUGE_RP_CTL_GO r.val).addr w = true)
    (h : bitAt w.toNat 31 = false) (hu : t.plain (F.GAUGE_RP_CTL_GO r.val).addr w.toNat = u)
    (h1 : u.get (F.GAUGE_RP_STAT_STATE r.val) = 1) :
    exec (.replayStop src r v) s = .next (State.follow (u.rpEnd r.val) s) := by
  rw [on_replayStop hon, hw, rp_write ht ho, State.iff_of (by rw [← hw]; exact bitAt_fixBit v (by decide)), State.iff_not h, hu]
  unfold State.rpStop
  rw [if_pos h1]

/-- Play starts on the first air instant at or after RP_AT (R397). -/
theorem does_replayStart (hon : s.on = true) (r : Fin 4) {k : Nat} {t u x : State} (h : s.get (F.GAUGE_RP_STAT_STATE r.val) = 1)
    (hk : gridFrom (s.absOf (s.get64 (F.GAUGE_RP_AT_LO_STAMP r.val) (F.GAUGE_RP_AT_HI_STAMP r.val))) = k) (ht : s.reachAbs (gridAt k) = t)
    (hu : ({ t with hold := { t.hold with engines := sparseInsert t.hold.engines r.val ⟨k, 0, 0, false⟩ } } : State) = u)
    (hx : (u.put (F.GAUGE_RP_STAT_STATE r.val) 2).put F.GAUGE_STAT_REPLAY (setBitAt (u.get F.GAUGE_STAT_REPLAY) r.val true) = x) :
    exec (.replayStart r) s = .next (State.follow (x.holdCarried 1 (2 ^ u.get (F.GAUGE_RP_CTL_LOG_CNT r.val))) s) := by
  rw [on_replayStart hon]
  unfold State.rpStart
  rw [if_neg (by simp [h])]
  simp only [hk, ht, hu, hx]

/-- The last pass is over (R398). -/
theorem does_replayEnd (hon : s.on = true) (r : Fin 4) {e : RpEngine} {t : State} (he : sparseFind s.hold.engines r.val = some e)
    (h : s.rpStepSet r.val e = none) (ht : s.reachAbs (gridAt (e.setK + s.rpSetLen r.val e.set)) = t) :
    exec (.replayEnd r) s = .next (State.follow (State.rpEnd (if e.set + 1 < t.rpLen r.val then t
      else t.inc (F.GAUGE_RP_STAT_DONE r.val)) r.val) s) := by
  rw [on_replayEnd hon]
  unfold State.rpFinish
  simp only [he, h, ht]

end Sys2Proof.Machine
end

