-- ==== Sys2Proof/Laws/MovesHostCmds.lean ====
section
/-! SUPPORT. What each operation of Machine/HostCmds.lean may change. -/

namespace Sys2Proof.Machine

set_option linter.all false

theorem State.spiRead_moves (k : Nat) (s : State) (a : Nat) : Moves 0x6bb52800a800000 s (State.spiRead k s a).2 := by
  induction k generalizing s a with
  | zero =>
    unfold State.spiRead
    repeat' first
      | with_reducible assumption
      | with_reducible exact Moves.refl _ _
      | decide
      | extract_lets
      | with_reducible apply Moves.step (State.busRead_moves ..)
      | split
      | (with_reducible refine Moves.snd (by assumption) ?_)
      | (with_reducible refine Moves.fst (by assumption) ?_)
      | (with_reducible refine Moves.trd (by assumption) ?_)
      | dsimp +zetaDelta only
  | succ _ ih =>
    unfold State.spiRead
    repeat' first
      | with_reducible assumption
      | with_reducible exact Moves.refl _ _
      | decide
      | with_reducible apply Moves.step (ih ..)
      | extract_lets
      | with_reducible apply Moves.step (State.busRead_moves ..)
      | split
      | (with_reducible refine Moves.snd (by assumption) ?_)
      | (with_reducible refine Moves.fst (by assumption) ?_)
      | (with_reducible refine Moves.trd (by assumption) ?_)
      | dsimp +zetaDelta only

theorem State.spiWrite_moves : ∀ (l : List Byte) (s : State) (a : Nat), Moves 0xfffffffdffffffb s (State.spiWrite l s a)
  | _ :: _ :: _ :: _ :: l, s, a => by
    unfold State.spiWrite
    exact Moves.step (State.spiWrite_moves l _ _) (by decide) (Moves.step (State.busWrite_moves ..) (by decide) (Moves.refl _ s))
  | [], s, _ => Moves.refl _ s
  | [_], s, _ => Moves.refl _ s
  | [_, _], s, _ => Moves.refl _ s
  | [_, _, _], s, _ => Moves.refl _ s

theorem State.spi_moves (s : State) (cmd a : Nat) (data : List Byte) (wait n : Nat) : Moves 0xfffffffdffffffb s (State.spi s cmd a data wait n) := by
  unfold State.spi
  repeat' first
    | with_reducible assumption
    | with_reducible exact Moves.refl _ _
    | decide
    | with_reducible apply Moves.ite
    | extract_lets
    | with_reducible apply Moves.step (State.spiWrite_moves ..)
    | with_reducible apply Moves.step (State.spiRead_moves ..)
    | with_reducible apply Moves.step (State.emit_moves ..)
    | split
    | (with_reducible refine Moves.snd (by assumption) ?_)
    | (with_reducible refine Moves.fst (by assumption) ?_)
    | (with_reducible refine Moves.trd (by assumption) ?_)
    | dsimp +zetaDelta only

end Sys2Proof.Machine
end

