-- ==== Sys2Proof/Laws/ExecHostCmds.lean ====
section
/-! SUPPORT. What each command of Machine/HostCmds.lean may change. -/

namespace Sys2Proof.Machine

set_option linter.all false

theorem execSpiRead_moves (addr : BitVec 40) (wait : Fin 128) (n : Nat) (s : State) (t : State) (h : execSpiRead addr wait n s = .next t) :
    Moves 0xfffffffdffffffb s t := by
  unfold execSpiRead at h
  refine acting_moves (by decide) (fun _ => ?_) h
  repeat' first
    | with_reducible assumption
    | with_reducible exact Moves.refl _ _
    | decide
    | with_reducible apply Moves.step (State.spi_moves ..)

theorem execSpiWrite_moves (addr : BitVec 40) (words : List Word) (s : State) (t : State) (h : execSpiWrite addr words s = .next t) :
    Moves 0xfffffffdffffffb s t := by
  unfold execSpiWrite at h
  refine acting_moves (by decide) (fun _ => ?_) h
  repeat' first
    | with_reducible assumption
    | with_reducible exact Moves.refl _ _
    | decide
    | with_reducible apply Moves.step (State.spi_moves ..)

theorem execSpiTransactionIgnored_moves (cmd : Byte) (addr : BitVec 40) (data : List Byte) (s : State) (t : State) (h : execSpiTransactionIgnored cmd addr data s = .next t) :
    Moves 0xfffffffdffffffb s t := by
  unfold execSpiTransactionIgnored at h
  refine acting_moves (by decide) (fun _ => ?_) h
  repeat' first
    | with_reducible assumption
    | with_reducible exact Moves.refl _ _
    | decide
    | with_reducible apply Moves.step (State.spi_moves ..)

theorem execSpiCsAbort_moves (addr : BitVec 40) (data : List Byte) (s : State) (t : State) (h : execSpiCsAbort addr data s = .next t) :
    Moves 0xfffffffdffffffb s t := by
  unfold execSpiCsAbort at h
  refine acting_moves (by decide) (fun _ => ?_) h
  repeat' first
    | with_reducible assumption
    | with_reducible exact Moves.refl _ _
    | decide
    | with_reducible apply Moves.step (State.spi_moves ..)

theorem execRegisterWrite_moves (src : Source) (addr : BitVec 40) (v : Word) (s : State) (t : State) (h : execRegisterWrite src addr v s = .next t) :
    Moves 0xfffffffdffffffb s t := by
  unfold execRegisterWrite at h
  refine acting_moves (by decide) (fun _ => ?_) h
  repeat' first
    | with_reducible assumption
    | with_reducible exact Moves.refl _ _
    | decide
    | with_reducible apply Moves.step (State.busWrite_moves ..)

theorem execEvtW1cWrite_moves (src : Source) (block : Fin 27) (v : Word) (s : State) (t : State) (h : execEvtW1cWrite src block v s = .next t) :
    Moves 0xfffffffdffffffb s t := by
  unfold execEvtW1cWrite at h
  refine acting_moves (by decide) (fun _ => ?_) h
  repeat' first
    | with_reducible assumption
    | with_reducible exact Moves.refl _ _
    | decide
    | with_reducible apply Moves.step (State.busWrite_moves ..)

theorem execLoHiPairRead_moves (src : Source) (addr : BitVec 40) (hi : Bool) (s : State) (t : State) (h : execLoHiPairRead src addr hi s = .next t) :
    Moves 0xebf72a28f82a0a2 s t := by
  unfold execLoHiPairRead at h
  refine acting_moves (by decide) (fun _ => ?_) h
  repeat' first
    | with_reducible assumption
    | with_reducible exact Moves.refl _ _
    | decide
    | with_reducible apply Moves.ite
    | with_reducible apply Moves.step (State.busRead_moves ..)
    | split
    | (with_reducible refine Moves.snd (by assumption) ?_)
    | (with_reducible refine Moves.fst (by assumption) ?_)

end Sys2Proof.Machine
end

