-- ==== Sys2Proof/Laws/OnHostCmds.lean ====
section
/-! SUPPORT. What the commands of Machine/HostCmds.lean answer while the device acts. -/

namespace Sys2Proof.Machine

set_option linter.all false

theorem on_spiRead {s : State} (hon : s.on = true) (addr : BitVec 40) (wait : Fin 128) (n : Nat) :
    exec (.spiRead addr wait n) s = .next (State.follow (s.spi 0x0B addr.toNat [] wait.val n) s) := by
  show execSpiRead addr wait n s = _
  exact acting_on hon

theorem on_spiWrite {s : State} (hon : s.on = true) (addr : BitVec 40) (words : List Word) :
    exec (.spiWrite addr words) s = .next (State.follow (s.spi 0x02 addr.toNat (words.flatMap (fun w => spiBytes w.toNat)) 0 0) s) := by
  show execSpiWrite addr words s = _
  exact acting_on hon

theorem on_spiTransactionIgnored {s : State} (hon : s.on = true) (cmd : Byte) (addr : BitVec 40) (data : List Byte) :
    exec (.spiTransactionIgnored cmd addr data) s = .next (State.follow (s.spi cmd.toNat addr.toNat data 0 0) s) := by
  show execSpiTransactionIgnored cmd addr data s = _
  exact acting_on hon

theorem on_spiCsAbort {s : State} (hon : s.on = true) (addr : BitVec 40) (data : List Byte) :
    exec (.spiCsAbort addr data) s = .next (State.follow (s.spi 0x02 addr.toNat data 0 0) s) := by
  show execSpiCsAbort addr data s = _
  exact acting_on hon

theorem on_registerWrite {s : State} (hon : s.on = true) (src : Source) (addr : BitVec 40) (v : Word) :
    exec (.registerWrite src addr v) s = .next (State.follow (s.busWrite src addr.toNat v) s) := by
  show execRegisterWrite src addr v s = _
  exact acting_on hon

theorem on_evtW1cWrite {s : State} (hon : s.on = true) (src : Source) (block : Fin 27) (v : Word) :
    exec (.evtW1cWrite src block v) s = .next (State.follow (s.busWrite src (evtAddr block.val) v) s) := by
  show execEvtW1cWrite src block v s = _
  exact acting_on hon

theorem on_loHiPairRead {s : State} (hon : s.on = true) (src : Source) (addr : BitVec 40) (hi : Bool) :
    exec (.loHiPairRead src addr hi) s = .next (State.follow ((s.busRead src (addr.toNat + if hi then 4 else 0)).2) s) := by
  show execLoHiPairRead src addr hi s = _
  exact acting_on hon

end Sys2Proof.Machine
end

