-- ==== Sys2Proof/Laws/DoesHost.lean ====
section
/-! SUPPORT. What the commands of the host interface and the register map do where they take effect. -/

namespace Sys2Proof.Machine

set_option linter.all false

variable {s : State}

theorem does_spiRead (hon : s.on = true) (addr : BitVec 40) (wait : Fin 128) (n : Nat) {l : List Byte} {t : State}
    (h : addr.toNat % 4 = 0) (hr : State.spiRead n s addr.toNat = (l, t)) :
    exec (.spiRead addr wait n) s = .next (State.follow (t.emit (.spi (List.replicate wait.val 0 ++ [0xA5] ++ l))) s) := by
  rw [on_spiRead hon]
  unfold State.spi
  rw [if_neg (by omega), if_neg (by decide), if_pos rfl]
  simp only [hr]

theorem does_spiWrite (hon : s.on = true) (addr : BitVec 40) (words : List Word) (h : addr.toNat % 4 = 0) :
    exec (.spiWrite addr words) s = .next (State.follow
      (State.spiWrite (words.flatMap (fun w => spiBytes w.toNat)) s addr.toNat) s) := by
  rw [on_spiWrite hon]
  unfold State.spi
  rw [if_neg (by omega), if_pos rfl]

/-- An unknown command byte, or an address that is no multiple of 4: nothing happens (R470). -/
theorem does_spiTransactionIgnored (hon : s.on = true) (cmd : Byte) (addr : BitVec 40) (data : List Byte)
    (h : addr.toNat % 4 ≠ 0 ∨ (cmd.toNat ≠ 0x02 ∧ cmd.toNat ≠ 0x0B)) :
    exec (.spiTransactionIgnored cmd addr data) s = .next (State.follow s s) := by
  rw [on_spiTransactionIgnored hon]
  unfold State.spi
  by_cases h0 : addr.toNat % 4 = 0
  · rcases h with h | h
    · exact absurd h0 h
    · rw [if_neg (by omega), if_neg h.1, if_neg h.2]
  · rw [if_pos h0]

theorem does_spiCsAbort (hon : s.on = true) (addr : BitVec 40) (data : List Byte) (h : addr.toNat % 4 = 0) :
    exec (.spiCsAbort addr data) s = .next (State.follow (State.spiWrite data s addr.toNat) s) := by
  rw [on_spiCsAbort hon]
  unfold State.spi
  rw [if_neg (by omega), if_pos rfl]

/-- A write that nothing bars is the write of its block (R450, R468). -/
theorem does_registerWrite (hon : s.on = true) (src : Source) (addr : BitVec 40) (v : Word) (h : addr.toNat % 4 = 0)
    (ho : s.opens src addr.toNat v = true) :
    exec (.registerWrite src addr v) s = .next (State.follow ((s.touch src).regWrite src addr.toNat v.toNat) s) := by
  rw [on_registerWrite hon, State.busWrite_opens h ho]

/-- A write to a window that is live, by a source with a level. -/
theorem does_registerWrite_window (hon : s.on = true) (src : Source) (addr : BitVec 40) (v : Word) {t : State} {n : Nat}
    (ht : s.touch src = t) (h : addr.toNat % 4 = 0) (hn : t.window addr.toNat = n) (h0 : n ≠ 0) (h1 : t.srcLevel src true ≠ 0)
    (h2 : t.windowLive n addr.toNat = true) :
    exec (.registerWrite src addr v) s = .next (State.follow (t.windowWrite n addr.toNat v.toNat) s) := by
  rw [on_registerWrite hon]
  unfold State.busWrite
  simp only [ht, show addr.toNat / 4 * 4 = addr.toNat by omega, hn]
  rw [if_pos h0, if_neg h1, if_pos h2]

/-- A write to a window by a source without a level is counted as a violation and changes nothing else (R450). -/
theorem bars_registerWrite_window (hon : s.on = true) (src : Source) (addr : BitVec 40) (v : Word) {t : State}
    (ht : s.touch src = t) (h : addr.toNat % 4 = 0) (h0 : t.window addr.toNat ≠ 0) (h1 : t.srcLevel src true = 0) :
    exec (.registerWrite src addr v) s = .next (State.follow (t.violation (srcCode src) addr.toNat true) s) := by
  rw [on_registerWrite hon]
  unfold State.busWrite
  simp only [ht, show addr.toNat / 4 * 4 = addr.toNat by omega]
  rw [if_pos h0, if_pos h1]

/-- A write whose word the source may not write at all is counted as a violation and changes nothing else (R450). -/
theorem bars_registerWrite (hon : s.on = true) (src : Source) (addr : BitVec 40) (v : Word) {t : State} {r : RegRow}
    (ht : s.touch src = t) (h : addr.toNat % 4 = 0) (h0 : t.window addr.toNat = 0) (hr : findReg addr.toNat = some r)
    (h1 : t.regAbsent addr.toNat = false) (h2 : srcCrane src = false) (h3 : t.writeDenied src addr.toNat v.toNat r = true) :
    exec (.registerWrite src addr v) s = .next (State.follow (t.violation (srcCode src) addr.toNat true) s) := by
  rw [on_registerWrite hon]
  unfold State.busWrite
  simp only [ht, show addr.toNat / 4 * 4 = addr.toNat by omega, h0, hr]
  rw [if_neg (by simp), if_neg (by simp [h1, h2]), State.iff_of (by unfold State.writeViolates; simp [h3]), if_pos (.inl h3)]

/-- The bits written 1 clear and IRQ_N follows (R476). -/
theorem does_evtW1cWrite (hon : s.on = true) (src : Source) (block : Fin 27) (v : Word)
    (ho : s.opens src (evtAddr block.val) v = true) :
    exec (.evtW1cWrite src block v) s = .next (State.follow (((s.touch src).plain (evtAddr block.val) v.toNat).syncIrq) s) := by
  rw [on_evtW1cWrite hon]
  obtain ⟨b, hb⟩ := block
  have hc : b = 0 ∨ b = 1 ∨ b = 2 ∨ b = 3 ∨ b = 4 ∨ b = 5 ∨ b = 6 ∨ b = 7 ∨ b = 8 ∨ b = 9 ∨ b = 10 ∨ b = 11 ∨ b = 12 ∨ b = 13 ∨ b = 14 ∨ b = 15 ∨ b = 16 ∨ b = 17 ∨ b = 18 ∨ b = 19 ∨ b = 20 ∨ b = 21 ∨ b = 22 ∨ b = 23 ∨ b = 24 ∨ b = 25 ∨ b = 26 := by omega
  rcases hc with h | h | h | h | h | h | h | h | h | h | h | h | h | h | h | h | h | h | h | h | h | h | h | h | h | h | h <;> subst h
  · exact congrArg (fun x => Host.Outcome.next (State.follow x s)) (State.evt_Top ho)
  · exact congrArg (fun x => Host.Outcome.next (State.follow x s)) (State.evt_Pwr ho)
  · exact congrArg (fun x => Host.Outcome.next (State.follow x s)) (State.evt_Clk ho)
  · exact congrArg (fun x => Host.Outcome.next (State.follow x s)) (State.evt_Boot ho)
  · exact congrArg (fun x => Host.Outcome.next (State.follow x s)) (State.evt_Rxa ho)
  · exact congrArg (fun x => Host.Outcome.next (State.follow x s)) (State.evt_Rxd ho)
  · exact congrArg (fun x => Host.Outcome.next (State.follow x s)) (State.evt_Txa ho)
  · exact congrArg (fun x => Host.Outcome.next (State.follow x s)) (State.evt_Txd ho)
  · exact congrArg (fun x => Host.Outcome.next (State.follow x s)) (State.evt_Dpd ho)
  · exact congrArg (fun x => Host.Outcome.next (State.follow x s)) (State.evt_Qctl ho)
  · exact congrArg (fun x => Host.Outcome.next (State.follow x s)) (State.evt_Berth ho)
  · exact congrArg (fun x => Host.Outcome.next (State.follow x s)) (State.evt_Fhl ho)
  · exact congrArg (fun x => Host.Outcome.next (State.follow x s)) (State.evt_Fhm ho)
  · exact congrArg (fun x => Host.Outcome.next (State.follow x s)) (State.evt_Ring ho)
  · exact congrArg (fun x => Host.Outcome.next (State.follow x s)) (State.evt_Tide ho)
  · exact congrArg (fun x => Host.Outcome.next (State.follow x s)) (State.evt_Look ho)
  · exact congrArg (fun x => Host.Outcome.next (State.follow x s)) (State.evt_Fend ho)
  · exact congrArg (fun x => Host.Outcome.next (State.follow x s)) (State.evt_Bwtr ho)
  · exact congrArg (fun x => Host.Outcome.next (State.follow x s)) (State.evt_Mon ho)
  · exact congrArg (fun x => Host.Outcome.next (State.follow x s)) (State.evt_Gauge ho)
  · exact congrArg (fun x => Host.Outcome.next (State.follow x s)) (State.evt_Holdc ho)
  · exact congrArg (fun x => Host.Outcome.next (State.follow x s)) (State.evt_Crane ho)
  · exact congrArg (fun x => Host.Outcome.next (State.follow x s)) (State.evt_Therm ho)
  · exact congrArg (fun x => Host.Outcome.next (State.follow x s)) (State.evt_Rsv ho)
  · exact congrArg (fun x => Host.Outcome.next (State.follow x s)) (State.evt_Pilot ho)
  · exact congrArg (fun x => Host.Outcome.next (State.follow x s)) (State.evt_Sec ho)
  · exact congrArg (fun x => Host.Outcome.next (State.follow x s)) (State.evt_Tally ho)

theorem does_loHiPairRead (hon : s.on = true) (src : Source) (addr : BitVec 40) (hi : Bool) {x : Nat} {t : State}
    (hr : s.busRead src (addr.toNat + if hi then 4 else 0) = (x, t)) :
    exec (.loHiPairRead src addr hi) s = .next (State.follow t s) := by
  rw [on_loHiPairRead hon, hr]

end Sys2Proof.Machine
end

