-- ==== Sys2Proof/Laws/ExecJtagCmds.lean ====
section
/-! SUPPORT. What each command of Machine/JtagCmds.lean may change. -/

namespace Sys2Proof.Machine

set_option linter.all false

theorem execTrstNAssert_moves (s : State) (t : State) (h : execTrstNAssert s = .next t) :
    Moves 0x209000002 s t := by
  unfold execTrstNAssert at h
  cases h
  repeat' first
    | with_reducible assumption
    | with_reducible exact Moves.refl _ _
    | decide
    | with_reducible apply Moves.step (State.tapReset_moves ..)

theorem execTrstNRelease_moves (s : State) (t : State) (h : execTrstNRelease s = .next t) :
    Moves 0x2 s t := by
  unfold execTrstNRelease at h
  cases h
  repeat' first
    | with_reducible assumption
    | with_reducible exact Moves.refl _ _
    | decide
    | rw [State.upd_pins]
    | with_reducible apply Moves.step (State.with_pins_moves ..)

theorem execJtagBypass_moves (tdi : List Bool) (s : State) (t : State) (h : execJtagBypass tdi s = .next t) :
    Moves 0x80520228d02a0a2 s t := by
  unfold execJtagBypass at h
  refine acting_moves (by decide) (fun _ => ?_) h
  repeat' first
    | with_reducible assumption
    | with_reducible exact Moves.refl _ _
    | decide
    | intro _
    | with_reducible apply State.tapNeed_moves
    | with_reducible apply Moves.step (State.tapBypass_moves ..)

theorem execJtagIdcode_moves (tdi : List Bool) (s : State) (t : State) (h : execJtagIdcode tdi s = .next t) :
    Moves 0x80520228d02a0a2 s t := by
  unfold execJtagIdcode at h
  refine acting_moves (by decide) (fun _ => ?_) h
  repeat' first
    | with_reducible assumption
    | with_reducible exact Moves.refl _ _
    | decide
    | intro _
    | with_reducible apply State.tapNeed_moves
    | with_reducible apply Moves.step (State.tapIdcode_moves ..)

theorem execJtagSamplePreload_moves (tdi : List Bool) (s : State) (t : State) (h : execJtagSamplePreload tdi s = .next t) :
    Moves 0x80520238d02a0a2 s t := by
  unfold execJtagSamplePreload at h
  refine acting_moves (by decide) (fun _ => ?_) h
  repeat' first
    | with_reducible assumption
    | with_reducible exact Moves.refl _ _
    | decide
    | intro _
    | with_reducible apply State.tapNeed_moves
    | with_reducible apply Moves.step (State.tapSample_moves ..)

theorem execJtagExtest_moves (tdi : List Bool) (s : State) (t : State) (h : execJtagExtest tdi s = .next t) :
    Moves 0x80520238d02a0a2 s t := by
  unfold execJtagExtest at h
  refine acting_moves (by decide) (fun _ => ?_) h
  repeat' first
    | with_reducible assumption
    | with_reducible exact Moves.refl _ _
    | decide
    | intro _
    | with_reducible apply State.tapNeed_moves
    | with_reducible apply Moves.step (State.tapExtest_moves ..)

theorem execJtagDbgRead_moves (addr : BitVec 40) (tdi : List Bool) (s : State) (t : State) (h : execJtagDbgRead addr tdi s = .next t) :
    Moves 0xebf72a28f82a0a2 s t := by
  unfold execJtagDbgRead at h
  refine acting_moves (by decide) (fun _ => ?_) h
  repeat' first
    | with_reducible assumption
    | with_reducible exact Moves.refl _ _
    | decide
    | intro _
    | with_reducible apply State.tapNeed_moves
    | with_reducible apply Moves.step (State.tapRead_moves ..)

theorem execJtagTrace_moves (tdi : List Bool) (s : State) (t : State) (h : execJtagTrace tdi s = .next t) :
    Moves 0x80520228d02a0a2 s t := by
  unfold execJtagTrace at h
  refine acting_moves (by decide) (fun _ => ?_) h
  repeat' first
    | with_reducible assumption
    | with_reducible exact Moves.refl _ _
    | decide
    | intro _
    | with_reducible apply State.tapNeed_moves
    | with_reducible apply Moves.step (State.tapTake_moves ..)

theorem execJtagDbgWrite_moves (addr : BitVec 40) (v : Word) (tdi : List Bool) (s : State) (t : State) (h : execJtagDbgWrite addr v tdi s = .next t) :
    Moves 0xfffffffdffffffb s t := by
  unfold execJtagDbgWrite at h
  refine acting_moves (by decide) (fun _ => ?_) h
  repeat' first
    | with_reducible assumption
    | with_reducible exact Moves.refl _ _
    | decide
    | intro _
    | with_reducible apply State.tapNeed_moves
    | with_reducible apply Moves.step (State.tapTake_moves ..)
    | with_reducible apply Moves.step (State.busWrite_moves ..)

theorem execJtagPilotHalt_moves (tdi : List Bool) (s : State) (t : State) (h : execJtagPilotHalt tdi s = .next t) :
    Moves 0x80520228d42a0a2 s t := by
  unfold execJtagPilotHalt at h
  refine acting_moves (by decide) (fun _ => ?_) h
  repeat' first
    | with_reducible assumption
    | with_reducible exact Moves.refl _ _
    | decide
    | intro _
    | with_reducible apply State.tapNeed_moves
    | with_reducible apply Moves.step (State.tapTake_moves ..)
    | with_reducible apply Moves.step (State.pilotHalt_moves ..)

theorem execJtagPilotStep_moves (tdi : List Bool) (s : State) (t : State) (h : execJtagPilotStep tdi s = .next t) :
    Moves 0x80520228d42a0a2 s t := by
  unfold execJtagPilotStep at h
  refine acting_moves (by decide) (fun _ => ?_) h
  repeat' first
    | with_reducible assumption
    | with_reducible exact Moves.refl _ _
    | decide
    | intro _
    | with_reducible apply State.tapNeed_moves
    | with_reducible apply Moves.step (State.tapTake_moves ..)
    | with_reducible apply Moves.step (State.pilotHalt_moves ..)

theorem execJtagScan_moves (tdi : List Bool) (s : State) (t : State) (h : execJtagScan tdi s = .next t) :
    Moves 0x80520238d02a0a2 s t := by
  unfold execJtagScan at h
  refine acting_moves (by decide) (fun _ => ?_) h
  repeat' first
    | with_reducible assumption
    | with_reducible exact Moves.refl _ _
    | decide
    | intro _
    | with_reducible apply State.tapNeed_moves
    | with_reducible apply Moves.step (State.tapScan_moves ..)

end Sys2Proof.Machine
end

