-- ==== Sys2Proof/Laws/OnJtagCmds.lean ====
section
/-! SUPPORT. What the commands of Machine/JtagCmds.lean answer while the device acts. -/

namespace Sys2Proof.Machine

set_option linter.all false

theorem on_jtagBypass {s : State} (hon : s.on = true) (tdi : List Bool) :
    exec (.jtagBypass tdi) s = .next (State.follow (s.tapNeed 0 tdi (fun u => u.tapBypass tdi)) s) := by
  show execJtagBypass tdi s = _
  exact acting_on hon

theorem on_jtagIdcode {s : State} (hon : s.on = true) (tdi : List Bool) :
    exec (.jtagIdcode tdi) s = .next (State.follow (s.tapNeed 0 tdi (fun u => u.tapIdcode tdi)) s) := by
  show execJtagIdcode tdi s = _
  exact acting_on hon

theorem on_jtagSamplePreload {s : State} (hon : s.on = true) (tdi : List Bool) :
    exec (.jtagSamplePreload tdi) s = .next (State.follow (s.tapNeed 0 tdi (fun u => u.tapSample tdi)) s) := by
  show execJtagSamplePreload tdi s = _
  exact acting_on hon

theorem on_jtagExtest {s : State} (hon : s.on = true) (tdi : List Bool) :
    exec (.jtagExtest tdi) s = .next (State.follow (s.tapNeed 1 tdi (fun u => u.tapExtest tdi)) s) := by
  show execJtagExtest tdi s = _
  exact acting_on hon

theorem on_jtagDbgRead {s : State} (hon : s.on = true) (addr : BitVec 40) (tdi : List Bool) :
    exec (.jtagDbgRead addr tdi) s = .next (State.follow (s.tapNeed 1 tdi (fun u => u.tapRead addr.toNat)) s) := by
  show execJtagDbgRead addr tdi s = _
  exact acting_on hon

theorem on_jtagTrace {s : State} (hon : s.on = true) (tdi : List Bool) :
    exec (.jtagTrace tdi) s = .next (State.follow (s.tapNeed 1 tdi (fun u => u.tapTake 4)) s) := by
  show execJtagTrace tdi s = _
  exact acting_on hon

theorem on_jtagDbgWrite {s : State} (hon : s.on = true) (addr : BitVec 40) (v : Word) (tdi : List Bool) :
    exec (.jtagDbgWrite addr v tdi) s = .next (State.follow (s.tapNeed 2 tdi (fun u => (u.tapTake 6).busWrite .jtag addr.toNat v)) s) := by
  show execJtagDbgWrite addr v tdi s = _
  exact acting_on hon

theorem on_jtagPilotHalt {s : State} (hon : s.on = true) (tdi : List Bool) :
    exec (.jtagPilotHalt tdi) s = .next (State.follow (s.tapNeed 2 tdi (fun u => (u.tapTake 7).pilotHalt)) s) := by
  show execJtagPilotHalt tdi s = _
  exact acting_on hon

theorem on_jtagPilotStep {s : State} (hon : s.on = true) (tdi : List Bool) :
    exec (.jtagPilotStep tdi) s = .next (State.follow (s.tapNeed 2 tdi (fun u => (u.tapTake 8).pilotHalt)) s) := by
  show execJtagPilotStep tdi s = _
  exact acting_on hon

theorem on_jtagScan {s : State} (hon : s.on = true) (tdi : List Bool) :
    exec (.jtagScan tdi) s = .next (State.follow (s.tapNeed 2 tdi (fun u => u.tapScan tdi)) s) := by
  show execJtagScan tdi s = _
  exact acting_on hon

end Sys2Proof.Machine
end

