-- ==== Sys2Proof/Laws/DoesJtag.lean ====
section
/-! SUPPORT. What the JTAG instructions do where they take effect. -/

namespace Sys2Proof.Machine

set_option linter.all false

variable {s : State}

theorem tap_need {need : Nat} {tdi : List Bool} {f : State → State} (h1 : s.tapOn = true) (h2 : need ≤ s.get F.SEC_STAT_DBG) :
    s.tapNeed need tdi f = f s := by
  unfold State.tapNeed
  rw [if_neg (by simp [h1]), if_neg (by omega)]

theorem tap_low {need : Nat} {tdi : List Bool} {f : State → State} (h1 : s.tapOn = true) (h2 : s.get F.SEC_STAT_DBG < need) :
    s.tapNeed need tdi f = s.tapBypass tdi := by
  unfold State.tapNeed
  rw [if_neg (by simp [h1]), if_pos h2]

/-- TRST_N low: EXTEST ends and the TAP is in reset, whether or not the device is powered. -/
theorem does_trstNAssert : exec .trstNAssert s = .next { s.extestLeave with
    jtag := {}, pins := { s.extestLeave.pins with trstN := false } } := (rfl)

theorem does_trstNRelease : exec .trstNRelease s = .next { s with pins := { s.pins with trstN := true } } := (rfl)

theorem does_jtagBypass (hon : s.on = true) (tdi : List Bool) {t : State} (h1 : s.tapOn = true) (ht : s.tapTake 0 = t) :
    exec (.jtagBypass tdi) s = .next (State.follow (State.emit { t with jtag := { t.jtag with bypass := (tdi.getLast?).getD false } }
      (.tdo ((false :: tdi).take tdi.length))) s) := by
  rw [on_jtagBypass hon, tap_need h1 (Nat.zero_le _)]
  unfold State.tapBypass
  simp only [ht]

theorem does_jtagIdcode (hon : s.on = true) (tdi : List Bool) (h1 : s.tapOn = true) :
    exec (.jtagIdcode tdi) s = .next (State.follow ((s.tapTake 1).emit (.tdo ((idcodeBits ++ tdi).take tdi.length))) s) := by
  rw [on_jtagIdcode hon, tap_need h1 (Nat.zero_le _)]
  unfold State.tapIdcode; rfl

/-- The levels that leave are free values; the boundary register takes the bits shifted in. -/
theorem does_jtagSamplePreload (hon : s.on = true) (tdi : List Bool) {l : List Bool} {u : State} (h1 : s.tapOn = true)
    (hd : (s.tapTake 2).drawBits tdi.length = (l, u)) :
    exec (.jtagSamplePreload tdi) s = .next (State.follow (State.emit { u with jtag := { u.jtag with boundary := tdi } } (.tdo l)) s) := by
  rw [on_jtagSamplePreload hon, tap_need h1 (Nat.zero_le _)]
  unfold State.tapSample
  simp only [hd]

/-- EXTEST in Dry dock with debug at observe or intrusive: the boundary register drives the balls. -/
theorem does_jtagExtest (hon : s.on = true) (tdi : List Bool) {l : List Bool} {u : State} {j : Jtag} (h1 : s.tapOn = true)
    (h2 : s.cur = 1) (h3 : 1 ≤ s.get F.SEC_STAT_DBG) (hd : (s.tapTake 3).drawBits tdi.length = (l, u))
    (hj : ({ u.jtag with
      boundary := if tdi.isEmpty then u.jtag.boundary else tdi
      saved := some (u.jtag.saved.getD u.pins) } : Jtag) = j) :
    exec (.jtagExtest tdi) s = .next (State.follow (State.emit { u with jtag := j, pins := u.pins.driven j } (.tdo l)) s) := by
  rw [on_jtagExtest hon, tap_need h1 h3]
  unfold State.tapExtest
  rw [if_pos (by unfold State.extestMay; simp [h2]; omega)]
  rw [← hj]
  simp only [hd]
  cases u.jtag.saved <;> simp only [Option.getD]

/-- Elsewhere EXTEST acts as BYPASS (R462). -/
theorem refuses_jtagExtest (hon : s.on = true) (tdi : List Bool) (h1 : s.tapOn = true)
    (h2 : s.cur ≠ 1 ∨ s.get F.SEC_STAT_DBG = 0) :
    exec (.jtagExtest tdi) s = .next (State.follow (s.tapBypass tdi) s) := by
  rw [on_jtagExtest hon]
  by_cases h3 : s.get F.SEC_STAT_DBG < 1
  · rw [tap_low h1 h3]
  · rw [tap_need h1 (by omega)]
    unfold State.tapExtest
    rw [if_neg (by unfold State.extestMay; rcases h2 with h | h <;> simp [h])]

theorem does_jtagDbgRead (hon : s.on = true) (addr : BitVec 40) (tdi : List Bool) {w : Nat} {t : State} (h1 : s.tapOn = true)
    (h3 : 1 ≤ s.get F.SEC_STAT_DBG) (hr : (s.tapTake 5).busRead .jtag addr.toNat = (w, t)) :
    exec (.jtagDbgRead addr tdi) s = .next (State.follow (t.emit (.tdo ((List.range 32).map (bitAt w)))) s) := by
  rw [on_jtagDbgRead hon, tap_need h1 h3]
  unfold State.tapRead
  simp only [hr]

theorem does_jtagTrace (hon : s.on = true) (tdi : List Bool) (h1 : s.tapOn = true) (h3 : 1 ≤ s.get F.SEC_STAT_DBG) :
    exec (.jtagTrace tdi) s = .next (State.follow { s.extestLeave with jtag := { s.extestLeave.jtag with ir := 4, trace := true } }
      s) := by
  rw [on_jtagTrace hon, tap_need h1 h3]
  unfold State.tapTake; rfl

theorem does_jtagDbgWrite (hon : s.on = true) (addr : BitVec 40) (v : Word) (tdi : List Bool) (h1 : s.tapOn = true)
    (h3 : 2 ≤ s.get F.SEC_STAT_DBG) :
    exec (.jtagDbgWrite addr v tdi) s = .next (State.follow ((s.tapTake 6).busWrite .jtag addr.toNat v) s) := by
  rw [on_jtagDbgWrite hon, tap_need h1 h3]

theorem does_jtagPilotHalt (hon : s.on = true) (tdi : List Bool) {t : State} (h1 : s.tapOn = true) (h3 : 2 ≤ s.get F.SEC_STAT_DBG)
    (ht : s.tapTake 7 = t) (h4 : t.up domPILOT = true) :
    exec (.jtagPilotHalt tdi) s = .next (State.follow { t with rsv := { t.rsv with halted := true } } s) := by
  rw [on_jtagPilotHalt hon, tap_need h1 h3, ht]
  unfold State.pilotHalt
  rw [if_pos h4]

/-- A step of Pilot: it stands halted again (log entry 18). -/
theorem does_jtagPilotStep (hon : s.on = true) (tdi : List Bool) {t : State} (h1 : s.tapOn = true) (h3 : 2 ≤ s.get F.SEC_STAT_DBG)
    (ht : s.tapTake 8 = t) (h4 : t.up domPILOT = true) :
    exec (.jtagPilotStep tdi) s = .next (State.follow { t with rsv := { t.rsv with halted := true } } s) := by
  rw [on_jtagPilotStep hon, tap_need h1 h3, ht]
  unfold State.pilotHalt
  rw [if_pos h4]

theorem does_jtagScan (hon : s.on = true) (tdi : List Bool) {l : List Bool} {u : State} (h1 : s.tapOn = true)
    (h3 : 2 ≤ s.get F.SEC_STAT_DBG) (hd : (s.tapTake 9).drawBits tdi.length = (l, u)) :
    exec (.jtagScan tdi) s = .next (State.follow (u.emit (.tdo l)) s) := by
  rw [on_jtagScan hon, tap_need h1 h3]
  unfold State.tapScan
  simp only [hd]

/-- An instruction that needs more of debug than is open acts as BYPASS (R461). -/
theorem low_jtagDbgRead (hon : s.on = true) (addr : BitVec 40) (tdi : List Bool) (h1 : s.tapOn = true)
    (h3 : s.get F.SEC_STAT_DBG < 1) : exec (.jtagDbgRead addr tdi) s = .next (State.follow (s.tapBypass tdi) s) := by
  rw [on_jtagDbgRead hon, tap_low h1 h3]

theorem low_jtagDbgWrite (hon : s.on = true) (addr : BitVec 40) (v : Word) (tdi : List Bool) (h1 : s.tapOn = true)
    (h3 : s.get F.SEC_STAT_DBG < 2) : exec (.jtagDbgWrite addr v tdi) s = .next (State.follow (s.tapBypass tdi) s) := by
  rw [on_jtagDbgWrite hon, tap_low h1 h3]

/-- TRST_N low: no instruction acts (R461). -/
theorem stands_jtagDbgWrite (hon : s.on = true) (addr : BitVec 40) (v : Word) (tdi : List Bool) (h1 : s.tapOn = false) :
    exec (.jtagDbgWrite addr v tdi) s = .next (State.follow s s) := by
  rw [on_jtagDbgWrite hon]
  unfold State.tapNeed
  rw [if_pos h1]

end Sys2Proof.Machine
end

