-- ==== Sys2Proof/Laws/ExecLinkCmds.lean ====
section
/-! SUPPORT. What each command of Machine/LinkCmds.lean may change. -/

namespace Sys2Proof.Machine

set_option linter.all false

theorem execAlignSetReceived_moves (l : Fin 4) (sets : List (List Byte)) (skew : List Nat) (s : State) (t : State) (h : execAlignSetReceived l sets skew s = .next t) :
    Moves 0xfffffffdffffffb s t := by
  unfold execAlignSetReceived at h
  refine acting_moves (by decide) (fun _ => ?_) h
  repeat' first
    | with_reducible assumption
    | with_reducible exact Moves.refl _ _
    | decide
    | intro _
    | with_reducible apply State.linkAct_moves
    | with_reducible apply Moves.step (State.alignSet_moves ..)

theorem execSignalDetect_moves (l : Fin 4) (s : State) (t : State) (h : execSignalDetect l s = .next t) :
    Moves 0xfffffffdffffffb s t := by
  unfold execSignalDetect at h
  refine acting_moves (by decide) (fun _ => ?_) h
  repeat' first
    | with_reducible assumption
    | with_reducible exact Moves.refl _ _
    | decide
    | intro _
    | with_reducible apply State.linkAct_moves
    | with_reducible apply Moves.step (State.signalDetect_moves ..)

theorem execTrainStateTimeout_moves (l : Fin 4) (s : State) (t : State) (h : execTrainStateTimeout l s = .next t) :
    Moves 0xfffffffdffffffb s t := by
  unfold execTrainStateTimeout at h
  refine acting_moves (by decide) (fun _ => ?_) h
  repeat' first
    | with_reducible assumption
    | with_reducible exact Moves.refl _ _
    | decide
    | intro _
    | with_reducible apply State.linkAct_moves
    | with_reducible apply Moves.step (State.trainExpire_moves ..)

theorem execTrainTimeout_moves (l : Fin 4) (s : State) (t : State) (h : execTrainTimeout l s = .next t) :
    Moves 0xfffffffdffffffb s t := by
  unfold execTrainTimeout at h
  refine acting_moves (by decide) (fun _ => ?_) h
  repeat' first
    | with_reducible assumption
    | with_reducible exact Moves.refl _ _
    | decide
    | intro _
    | with_reducible apply State.linkAct_moves
    | with_reducible apply Moves.step (State.trainTimeout_moves ..)

theorem execRetrainStart_moves (l : Fin 4) (s : State) (t : State) (h : execRetrainStart l s = .next t) :
    Moves 0xfffffffdffffffb s t := by
  unfold execRetrainStart at h
  refine acting_moves (by decide) (fun _ => ?_) h
  repeat' first
    | with_reducible assumption
    | with_reducible exact Moves.refl _ _
    | decide
    | intro _
    | with_reducible apply State.linkAct_moves
    | with_reducible apply Moves.step (State.retrainStart_moves ..)

theorem execAlignSetMissing_moves (l : Fin 4) (s : State) (t : State) (h : execAlignSetMissing l s = .next t) :
    Moves 0xfffffffdffffffb s t := by
  unfold execAlignSetMissing at h
  refine acting_moves (by decide) (fun _ => ?_) h
  repeat' first
    | with_reducible assumption
    | with_reducible exact Moves.refl _ _
    | decide
    | intro _
    | with_reducible apply Moves.ite
    | with_reducible apply State.linkAct_moves
    | with_reducible apply Moves.step (State.alignMissing_moves ..)
    | split
    | (with_reducible refine Moves.snd (by assumption) ?_)
    | (with_reducible refine Moves.fst (by assumption) ?_)

theorem execDataColumnReceived_moves (l : Fin 4) (col : List (Option Byte)) (s : State) (t : State) (h : execDataColumnReceived l col s = .next t) :
    Moves 0xfffffffdffffffb s t := by
  unfold execDataColumnReceived at h
  refine acting_moves (by decide) (fun _ => ?_) h
  repeat' first
    | with_reducible assumption
    | with_reducible exact Moves.refl _ _
    | decide
    | intro _
    | with_reducible apply State.linkAct_moves
    | with_reducible apply Moves.step (State.dataColumn_moves ..)

theorem execLaneSignalLoss_moves (l : Fin 4) (lane : Fin 9) (s : State) (t : State) (h : execLaneSignalLoss l lane s = .next t) :
    Moves 0xfffffffdffffffb s t := by
  unfold execLaneSignalLoss at h
  refine acting_moves (by decide) (fun _ => ?_) h
  repeat' first
    | with_reducible assumption
    | with_reducible exact Moves.refl _ _
    | decide
    | intro _
    | with_reducible apply State.linkAct_moves
    | with_reducible apply Moves.step (State.laneLoss_moves ..)

theorem execRequalAttemptDone_moves (l : Fin 4) (lane : Fin 9) (ok : Bool) (s : State) (t : State) (h : execRequalAttemptDone l lane ok s = .next t) :
    Moves 0xfffffffdffffffb s t := by
  unfold execRequalAttemptDone at h
  refine acting_moves (by decide) (fun _ => ?_) h
  repeat' first
    | with_reducible assumption
    | with_reducible exact Moves.refl _ _
    | decide
    | intro _
    | with_reducible apply State.linkAct_moves
    | with_reducible apply Moves.step (State.requalDone_moves ..)

theorem execRemapStalled_moves (l : Fin 4) (s : State) (t : State) (h : execRemapStalled l s = .next t) :
    Moves 0x80570228d02b0a2 s t := by
  unfold execRemapStalled at h
  refine acting_moves (by decide) (fun _ => ?_) h
  repeat' first
    | with_reducible assumption
    | with_reducible exact Moves.refl _ _
    | decide
    | with_reducible apply Moves.step (State.remapStalled_moves ..)

theorem execFwdClockLoss_moves (l : Fin 4) (s : State) (t : State) (h : execFwdClockLoss l s = .next t) :
    Moves 0xfffffffdffffffb s t := by
  unfold execFwdClockLoss at h
  refine acting_moves (by decide) (fun _ => ?_) h
  repeat' first
    | with_reducible assumption
    | with_reducible exact Moves.refl _ _
    | decide
    | intro _
    | with_reducible apply State.linkAct_moves
    | with_reducible apply Moves.step (State.clockLoss_moves ..)

theorem execDfeAdapt_moves (l : Fin 4) (lane : Fin 9) (d0 d1 d2 d3 d4 : BitVec 10) (s : State) (t : State) (h : execDfeAdapt l lane d0 d1 d2 d3 d4 s = .next t) :
    Moves 0x80570228d02a0a2 s t := by
  unfold execDfeAdapt at h
  refine acting_moves (by decide) (fun _ => ?_) h
  repeat' first
    | with_reducible assumption
    | with_reducible exact Moves.refl _ _
    | decide
    | with_reducible apply Moves.step (State.dfeAdapt_moves ..)

theorem execCtleAdapt_moves (l : Fin 4) (lane : Fin 9) (s : State) (t : State) (h : execCtleAdapt l lane s = .next t) :
    Moves 0x80570228d02a0a2 s t := by
  unfold execCtleAdapt at h
  refine acting_moves (by decide) (fun _ => ?_) h
  repeat' first
    | with_reducible assumption
    | with_reducible exact Moves.refl _ _
    | decide
    | with_reducible apply Moves.step (State.ctleAdapt_moves ..)

theorem execEyeMeasure_moves (l : Fin 4) (lane : Fin 9) (height width : BitVec 8) (s : State) (t : State) (h : execEyeMeasure l lane height width s = .next t) :
    Moves 0x80570228d02a0a2 s t := by
  unfold execEyeMeasure at h
  refine acting_moves (by decide) (fun _ => ?_) h
  repeat' first
    | with_reducible assumption
    | with_reducible exact Moves.refl _ _
    | decide
    | with_reducible apply Moves.step (State.eyeMeasure_moves ..)

theorem execFhlRetrainA_moves (src : Source) (v : Word) (s : State) (t : State) (h : execFhlRetrainA src v s = .next t) :
    Moves 0xfffffffdffffffb s t := by
  unfold execFhlRetrainA at h
  refine acting_moves (by decide) (fun _ => ?_) h
  repeat' first
    | with_reducible assumption
    | with_reducible exact Moves.refl _ _
    | decide
    | with_reducible apply Moves.step (State.busWrite_Fhl _ _ _ (by first | decide | (simp only [F.FHL_CTL_RETRAIN_A]; omega) | (simp only [F.FHL_CTL_RETRAIN_A]; split <;> decide) | (simp only [F.FHL_CTL_RETRAIN_A]; (repeat' split) <;> omega)))

theorem execFhlRetrainB_moves (src : Source) (v : Word) (s : State) (t : State) (h : execFhlRetrainB src v s = .next t) :
    Moves 0xfffffffdffffffb s t := by
  unfold execFhlRetrainB at h
  refine acting_moves (by decide) (fun _ => ?_) h
  repeat' first
    | with_reducible assumption
    | with_reducible exact Moves.refl _ _
    | decide
    | with_reducible apply Moves.step (State.busWrite_Fhl _ _ _ (by first | decide | (simp only [F.FHL_CTL_RETRAIN_A, F.FHL_CTL_RETRAIN_B]; omega) | (simp only [F.FHL_CTL_RETRAIN_A, F.FHL_CTL_RETRAIN_B]; split <;> decide) | (simp only [F.FHL_CTL_RETRAIN_A, F.FHL_CTL_RETRAIN_B]; (repeat' split) <;> omega)))

theorem execFhlCntClr_moves (src : Source) (v : Word) (s : State) (t : State) (h : execFhlCntClr src v s = .next t) :
    Moves 0xfffffffdffffffb s t := by
  unfold execFhlCntClr at h
  refine acting_moves (by decide) (fun _ => ?_) h
  repeat' first
    | with_reducible assumption
    | with_reducible exact Moves.refl _ _
    | decide
    | with_reducible apply Moves.step (State.busWrite_Fhl _ _ _ (by first | decide | (simp only [F.FHL_CNT_CLR_CLR]; omega) | (simp only [F.FHL_CNT_CLR_CLR]; split <;> decide) | (simp only [F.FHL_CNT_CLR_CLR]; (repeat' split) <;> omega)))

end Sys2Proof.Machine
end

