-- ==== Sys2Proof/Laws/OnLinkCmds.lean ====
section
/-! SUPPORT. What the commands of Machine/LinkCmds.lean answer while the device acts. -/

namespace Sys2Proof.Machine

set_option linter.all false

theorem on_alignSetReceived {s : State} (hon : s.on = true) (l : Fin 4) (sets : List (List Byte)) (skew : List Nat) :
    exec (.alignSetReceived l sets skew) s = .next (State.follow (s.linkAct (fun u => u.alignSet l.val sets skew)) s) := by
  show execAlignSetReceived l sets skew s = _
  exact acting_on hon

theorem on_signalDetect {s : State} (hon : s.on = true) (l : Fin 4) :
    exec (.signalDetect l) s = .next (State.follow (s.linkAct (fun u => u.signalDetect l.val)) s) := by
  show execSignalDetect l s = _
  exact acting_on hon

theorem on_trainStateTimeout {s : State} (hon : s.on = true) (l : Fin 4) :
    exec (.trainStateTimeout l) s = .next (State.follow (s.linkAct (fun u => u.trainExpire l.val)) s) := by
  show execTrainStateTimeout l s = _
  exact acting_on hon

theorem on_trainTimeout {s : State} (hon : s.on = true) (l : Fin 4) :
    exec (.trainTimeout l) s = .next (State.follow (s.linkAct (fun u => u.trainTimeout l.val)) s) := by
  show execTrainTimeout l s = _
  exact acting_on hon

theorem on_retrainStart {s : State} (hon : s.on = true) (l : Fin 4) :
    exec (.retrainStart l) s = .next (State.follow (s.linkAct (fun u => u.retrainStart l.val)) s) := by
  show execRetrainStart l s = _
  exact acting_on hon

theorem on_dataColumnReceived {s : State} (hon : s.on = true) (l : Fin 4) (col : List (Option Byte)) :
    exec (.dataColumnReceived l col) s = .next (State.follow (s.linkAct (fun u => u.dataColumn l.val col)) s) := by
  show execDataColumnReceived l col s = _
  exact acting_on hon

theorem on_laneSignalLoss {s : State} (hon : s.on = true) (l : Fin 4) (lane : Fin 9) :
    exec (.laneSignalLoss l lane) s = .next (State.follow (s.linkAct (fun u => u.laneLoss l.val lane.val)) s) := by
  show execLaneSignalLoss l lane s = _
  exact acting_on hon

theorem on_requalAttemptDone {s : State} (hon : s.on = true) (l : Fin 4) (lane : Fin 9) (ok : Bool) :
    exec (.requalAttemptDone l lane ok) s = .next (State.follow (s.linkAct (fun u => u.requalDone l.val lane.val ok)) s) := by
  show execRequalAttemptDone l lane ok s = _
  exact acting_on hon

theorem on_remapStalled {s : State} (hon : s.on = true) (l : Fin 4) :
    exec (.remapStalled l) s = .next (State.follow (s.remapStalled l.val) s) := by
  show execRemapStalled l s = _
  exact acting_on hon

theorem on_fwdClockLoss {s : State} (hon : s.on = true) (l : Fin 4) :
    exec (.fwdClockLoss l) s = .next (State.follow (s.linkAct (fun u => u.clockLoss l.val)) s) := by
  show execFwdClockLoss l s = _
  exact acting_on hon

theorem on_dfeAdapt {s : State} (hon : s.on = true) (l : Fin 4) (lane : Fin 9) (d0 d1 d2 d3 d4 : BitVec 10) :
    exec (.dfeAdapt l lane d0 d1 d2 d3 d4) s = .next (State.follow (s.dfeAdapt l.val lane.val [d0.toInt, d1.toInt, d2.toInt, d3.toInt, d4.toInt]) s) := by
  show execDfeAdapt l lane d0 d1 d2 d3 d4 s = _
  exact acting_on hon

theorem on_ctleAdapt {s : State} (hon : s.on = true) (l : Fin 4) (lane : Fin 9) :
    exec (.ctleAdapt l lane) s = .next (State.follow (s.ctleAdapt l.val lane.val) s) := by
  show execCtleAdapt l lane s = _
  exact acting_on hon

theorem on_eyeMeasure {s : State} (hon : s.on = true) (l : Fin 4) (lane : Fin 9) (height width : BitVec 8) :
    exec (.eyeMeasure l lane height width) s = .next (State.follow (s.eyeMeasure l.val lane.val height.toNat width.toNat) s) := by
  show execEyeMeasure l lane height width s = _
  exact acting_on hon

theorem on_fhlRetrainA {s : State} (hon : s.on = true) (src : Source) (v : Word) :
    exec (.fhlRetrainA src v) s = .next (State.follow (s.busWrite src F.FHL_CTL_RETRAIN_A.addr (fixBit v F.FHL_CTL_RETRAIN_A.lo)) s) := by
  show execFhlRetrainA src v s = _
  exact acting_on hon

theorem on_fhlRetrainB {s : State} (hon : s.on = true) (src : Source) (v : Word) :
    exec (.fhlRetrainB src v) s = .next (State.follow (s.busWrite src F.FHL_CTL_RETRAIN_A.addr (fixBit v F.FHL_CTL_RETRAIN_B.lo)) s) := by
  show execFhlRetrainB src v s = _
  exact acting_on hon

theorem on_fhlCntClr {s : State} (hon : s.on = true) (src : Source) (v : Word) :
    exec (.fhlCntClr src v) s = .next (State.follow (s.busWrite src F.FHL_CNT_CLR_CLR.addr (fixBit v 0)) s) := by
  show execFhlCntClr src v s = _
  exact acting_on hon

theorem on_alignSetMissing {s : State} (hon : s.on = true) (l : Fin 4) :
    exec (.alignSetMissing l) s = .next (State.follow (s.linkAct (fun u => if stDESKEW ≤ u.linkState l.val ∧ u.linkState l.val ≤ stUP then u.alignMissing l.val else u)) s) := by
  show execAlignSetMissing l s = _
  exact acting_on hon

end Sys2Proof.Machine
end

