-- ==== Sys2Proof/Laws/DoesLink.lean ====
section
/-! SUPPORT. What the commands of the lane layer do where they take effect. -/

namespace Sys2Proof.Machine

set_option linter.all false

variable {s : State}

/-- An accepted set in UP: the transmitter obeys it and the stripe follows (R255 to R257). -/
theorem does_alignSetReceived (hon : s.on = true) (l : Fin 4) (sets : List (List Byte)) (skew : List Nat) {a : AlignSet}
    (h1 : s.linkState l.val = 7) (h2 : acceptSet (s.port l.val).mini sets = some a) :
    exec (.alignSetReceived l sets skew) s = .next (State.follow (s.linkAct (fun _ =>
      ((s.txObey l.val a).stripeTake l.val a).laneSets l.val sets)) s) := by
  rw [on_alignSetReceived hon]
  refine next_follow (linkAct_of ?_)
  unfold State.alignSet
  simp only [h1, h2]
  rw [if_neg (by decide), if_neg (by decide), if_neg (by decide), if_pos (by decide)]

/-- Sets in LOCK: lanes lock, polarity is taken, wiring faults fail a lane (R249 to R251). -/
theorem does_alignSetReceived_lock (hon : s.on = true) (l : Fin 4) (sets : List (List Byte)) (skew : List Nat)
    (h1 : s.linkState l.val = 2) :
    exec (.alignSetReceived l sets skew) s = .next (State.follow (s.linkAct (fun _ => s.lockSets l.val sets)) s) := by
  rw [on_alignSetReceived hon]
  refine next_follow (linkAct_of ?_)
  unfold State.alignSet
  simp only [h1]
  rw [if_pos (by decide)]

/-- An accepted set in DESKEW gives every lane's skew. -/
theorem does_alignSetReceived_deskew (hon : s.on = true) (l : Fin 4) (sets : List (List Byte)) (skew : List Nat) {a : AlignSet}
    (h1 : s.linkState l.val = 4) (h2 : acceptSet (s.port l.val).mini sets = some a) :
    exec (.alignSetReceived l sets skew) s = .next (State.follow (s.linkAct (fun _ => s.deskew l.val skew)) s) := by
  rw [on_alignSetReceived hon]
  refine next_follow (linkAct_of ?_)
  unfold State.alignSet
  simp only [h1, h2]
  rw [if_neg (by decide), if_pos (by decide)]

/-- An accepted set in HANDSHAKE: once both ends send mission superframes the link comes UP and takes the stripe (R249). -/
theorem does_alignSetReceived_handshake (hon : s.on = true) (l : Fin 4) (sets : List (List Byte)) (skew : List Nat) {a : AlignSet}
    (h1 : s.linkState l.val = 6) (h2 : acceptSet (s.port l.val).mini sets = some a) :
    exec (.alignSetReceived l sets skew) s = .next (State.follow (s.linkAct (fun _ =>
      let t := (s.txObey l.val a).handshake l.val a
      if t.linkUp l.val then t.stripeTake l.val a else t)) s) := by
  rw [on_alignSetReceived hon]
  refine next_follow (linkAct_of ?_)
  unfold State.alignSet
  simp only [h1, h2]
  rw [if_neg (by decide), if_neg (by decide), if_pos (by decide)]

theorem does_signalDetect (hon : s.on = true) (l : Fin 4) (h : s.linkState l.val = 1) :
    exec (.signalDetect l) s = .next (State.follow (s.linkAct (fun _ => s.enterLink l.val 2)) s) := by
  rw [on_signalDetect hon]
  refine next_follow (linkAct_of ?_)
  unfold State.signalDetect stDETECT stLOCK
  rw [if_pos h]

/-- LOCK runs out: lanes without lock fail; the link goes on where it can (R250). -/
theorem does_trainStateTimeout_lock (hon : s.on = true) (l : Fin 4) {t u : State} {ok : Bool} (h : s.linkState l.val = 2)
    (ht : s.elapseTo ((s.port l.val).stage + msU 5) = t)
    (hf : t.trainFail l.val (maskOf ((t.port l.val).lanes.filter (fun k => decide (nth 0 (t.port l.val).lock k < 8)))) = (u, ok)) :
    exec (.trainStateTimeout l) s = .next (State.follow (s.linkAct (fun _ => if ok then u.lockCheck l.val else u)) s) := by
  rw [on_trainStateTimeout hon]
  refine next_follow (linkAct_of ?_)
  unfold State.trainExpire
  have e : (if 2 = stLOCK then msU 5 else if 2 = stEQUALISE then msU 20 else if 2 = stQUALIFY then msU 10 else msU 1) = msU 5 :=
    if_pos rfl
  simp only [h, e, ht, hf]
  rw [if_pos (by decide), if_pos (by decide)]

/-- EQUALISE has run its time: its codes are free values, and DESKEW begins. -/
theorem does_trainStateTimeout (hon : s.on = true) (l : Fin 4) (h : s.linkState l.val = 3) :
    exec (.trainStateTimeout l) s = .next (State.follow (s.linkAct (fun _ =>
      ((s.elapseTo ((s.port l.val).stage + msU 20)).equalised l.val).enterLink l.val 4)) s) := by
  rw [on_trainStateTimeout hon]
  refine next_follow (linkAct_of ?_)
  unfold State.trainExpire
  simp only [h]
  rw [if_pos (by decide), if_neg (by decide), if_pos (by decide), if_neg (by decide), if_pos (by decide)]
  rfl

/-- QUALIFY runs out: lanes that showed a violation fail, then HANDSHAKE. -/
theorem does_trainStateTimeout_qualify (hon : s.on = true) (l : Fin 4) {t u : State} {ok : Bool} (h : s.linkState l.val = 5)
    (ht : s.elapseTo ((s.port l.val).stage + msU 10) = t) (hf : t.trainFail l.val (t.port l.val).viol = (u, ok)) :
    exec (.trainStateTimeout l) s = .next (State.follow (s.linkAct (fun _ => if ok then u.enterLink l.val 6 else u)) s) := by
  rw [on_trainStateTimeout hon]
  refine next_follow (linkAct_of ?_)
  unfold State.trainExpire
  have e : (if 5 = stLOCK then msU 5 else if 5 = stEQUALISE then msU 20 else if 5 = stQUALIFY then msU 10 else msU 1) = msU 10 := by
    rw [if_neg (by decide), if_neg (by decide), if_pos (by decide)]
  simp only [h, e, ht, hf]
  rw [if_pos (by decide), if_neg (by decide), if_neg (by decide), if_pos (by decide)]
  rfl

/-- DESKEW and HANDSHAKE that run out begin again at DETECT. -/
theorem does_trainStateTimeout_again (hon : s.on = true) (l : Fin 4) (h : s.linkState l.val = 4 ∨ s.linkState l.val = 6) :
    exec (.trainStateTimeout l) s = .next (State.follow (s.linkAct (fun _ =>
      (s.elapseTo ((s.port l.val).stage + msU 1)).linkDetect l.val)) s) := by
  rw [on_trainStateTimeout hon]
  refine next_follow (linkAct_of ?_)
  unfold State.trainExpire
  rcases h with h | h
  all_goals
    simp only [h]
    rw [if_pos (by decide), if_neg (by decide), if_neg (by decide), if_neg (by decide), if_neg (by decide), if_neg (by decide),
      if_neg (by decide)]

theorem does_trainTimeout (hon : s.on = true) (l : Fin 4) (h : 1 ≤ s.linkState l.val ∧ s.linkState l.val ≤ 6) :
    exec (.trainTimeout l) s = .next (State.follow (s.linkAct (fun _ =>
      ((s.elapseTo ((s.port l.val).attempt + msU 150)).linkDown l.val).linkRaise l.val 8)) s) := by
  rw [on_trainTimeout hon]
  refine next_follow (linkAct_of ?_)
  unfold State.trainTimeout stDETECT stHANDSHAKE
  dsimp only
  rw [if_pos h]

/-- 10 ms after DOWN training starts again (R259). -/
theorem does_retrainStart (hon : s.on = true) (l : Fin 4) (h : s.linkState l.val = 9) :
    exec (.retrainStart l) s = .next (State.follow (s.linkAct (fun _ =>
      (s.elapseTo ((s.port l.val).stage + msU 10)).linkDetect l.val)) s) := by
  rw [on_retrainStart hon]
  refine next_follow (linkAct_of ?_)
  unfold State.retrainStart
  simp only [h]
  rw [if_pos (by decide)]

/-- From BYPASS, with the link PLL at full rate again. -/
theorem does_retrainStart_bypass (hon : s.on = true) (l : Fin 4) (h : s.linkState l.val = 8)
    (h1 : s.get (F.CLK_LPLL_STAT_MODE l.val) = 2) :
    exec (.retrainStart l) s = .next (State.follow (s.linkAct (fun _ => s.linkDetect l.val)) s) := by
  rw [on_retrainStart hon]
  refine next_follow (linkAct_of ?_)
  unfold State.retrainStart
  simp only [h]
  rw [if_neg (by decide), if_pos ⟨by decide, h1⟩]

/-- The first superframe in a row without an accepted set. -/
theorem does_alignSetMissing (hon : s.on = true) (l : Fin 4) (h : s.linkState l.val = 7) (h1 : (s.port l.val).miss = 0) :
    exec (.alignSetMissing l) s = .next (State.follow (s.linkAct (fun _ =>
      s.setPort l.val { s.port l.val with miss := 1, cv := List.replicate 9 0 })) s) := by
  rw [on_alignSetMissing hon]
  refine next_follow (linkAct_of ?_)
  simp only [h]
  rw [if_pos (by decide)]
  unfold State.alignMissing
  dsimp only
  rw [if_pos (by unfold State.linkUp; rw [h]; decide), if_neg (by omega), h1]

/-- The second takes the link DOWN (R259). -/
theorem does_alignSetMissing_down (hon : s.on = true) (l : Fin 4) (h : s.linkState l.val = 7) (h1 : 1 ≤ (s.port l.val).miss) :
    exec (.alignSetMissing l) s = .next (State.follow (s.linkAct (fun _ => s.linkDown l.val)) s) := by
  rw [on_alignSetMissing hon]
  refine next_follow (linkAct_of ?_)
  simp only [h]
  rw [if_pos (by decide)]
  unfold State.alignMissing
  dsimp only
  rw [if_pos (by unfold State.linkUp; rw [h]; decide), if_pos h1]

/-- A column of a link in UP without repair, every byte received and the parity true: its bytes reach the message layer (R247). -/
theorem does_dataColumnReceived (hon : s.on = true) (l : Fin 4) (col : List (Option Byte)) {known : List Byte} {p : Byte}
    (h : s.linkUp l.val = true) (h1 : s.get (lkREPAIR l.val) = 0) (h2 : (s.port l.val).mini = false)
    (h3 : bitAt (s.get (lkOFF l.val)) 8 = false) (h4 : (s.stripe l.val).map (nth none col) = known.map some)
    (h5 : nth none col 8 = some p) (h6 : known.foldl (· ^^^ ·) (0 : Byte) = p) :
    exec (.dataColumnReceived l col) s = .next (State.follow (s.linkAct (fun _ =>
      (s.columnGood l.val known).violations l.val col)) s) := by
  rw [on_dataColumnReceived hon]
  refine next_follow (linkAct_of ?_)
  have hb (k : Nat) : bitAt 0 k = false := by unfold bitAt; simp
  have hk : (known.map some).filterMap id = known := by
    induction known with
    | nil => rfl
    | cons a as ih => simp
  unfold State.dataColumn
  simp only [h, h1, h2, h3, hb, h4, h5, h6, hk, Bool.false_eq_true, if_false, List.length_map, Nat.sub_self, Bool.not_false,
    Bool.and_self, if_true, Bool.true_eq_false]

/-- A column while the link trains: its violations are counted (R248). -/
theorem does_dataColumnReceived_training (hon : s.on = true) (l : Fin 4) (col : List (Option Byte)) (h : s.linkUp l.val = false) :
    exec (.dataColumnReceived l col) s = .next (State.follow (s.linkAct (fun _ => s.violations l.val col)) s) := by
  rw [on_dataColumnReceived hon]
  refine next_follow (linkAct_of ?_)
  unfold State.dataColumn
  rw [if_pos h]

/-- A lane of a link in UP with parity in use and no other lane in repair enters repair; past FLAP_N entries it is written off. -/
theorem does_laneSignalLoss (hon : s.on = true) (l : Fin 4) (lane : Fin 9) {u : State} (h : s.linkUp l.val = true)
    (h1 : s.get (lkREPAIR l.val) = 0) (h2 : bitAt (s.get (lkOFF l.val)) lane.val = false) (h3 : s.flag (lkPAR l.val) = true)
    (hu : State.laneRaise ((((((s.setPort l.val { s.port l.val with
        tries := setNth (s.port l.val).tries lane.val 0
        flaps := (lane.val, s.aon) :: (s.port l.val).flaps.take 255 }).put (lkREPAIR l.val) (setBitAt 0 lane.val true)).put
        (lnSTATE l.val lane.val) 4).put (lnCAUSE l.val lane.val) 1).inc (lnREPAIRS l.val lane.val)).syncLink l.val) l.val 3 lane.val = u) :
    exec (.laneSignalLoss l lane) s = .next (State.follow (s.linkAct (fun _ =>
      if u.get F.FHL_LIM_FLAP_N ≠ 0 ∧ u.get F.FHL_LIM_FLAP_N ≤ u.flapCount l.val lane.val then u.writeOff l.val lane.val else u)) s) := by
  rw [on_laneSignalLoss hon]
  refine next_follow (linkAct_of ?_)
  have hb : bitAt 0 lane.val = false := by unfold bitAt; simp
  unfold State.laneLoss State.laneFault
  simp only [h, h1, h2, h3, hb, hu, Bool.true_eq_false, Bool.false_eq_true, or_self, if_false, ne_eq, not_true_eq_false]

/-- A second lane, or a lane without parity to repair it, takes the link DOWN (R253). -/
theorem does_laneSignalLoss_down (hon : s.on = true) (l : Fin 4) (lane : Fin 9) (h : s.linkUp l.val = true)
    (h1 : bitAt (s.get (lkREPAIR l.val)) lane.val = false) (h2 : bitAt (s.get (lkOFF l.val)) lane.val = false)
    (h3 : s.get (lkREPAIR l.val) ≠ 0 ∨ s.flag (lkPAR l.val) = false) :
    exec (.laneSignalLoss l lane) s = .next (State.follow (s.linkAct (fun _ => s.linkDown l.val)) s) := by
  rw [on_laneSignalLoss hon]
  refine next_follow (linkAct_of ?_)
  unfold State.laneLoss State.laneFault
  dsimp only
  rw [if_neg (by simp [h, h1, h2]), if_pos h3]

/-- A requalification that succeeds: the lane is in service again (R254). -/
theorem does_requalAttemptDone (hon : s.on = true) (l : Fin 4) (lane : Fin 9) (h : s.linkUp l.val = true)
    (h1 : bitAt (s.port l.val).widen lane.val = false) (h2 : s.get (lnSTATE l.val lane.val) = 4) :
    exec (.requalAttemptDone l lane true) s = .next (State.follow (s.linkAct (fun _ =>
      (((s.put (lkREPAIR l.val) (setBitAt (s.get (lkREPAIR l.val)) lane.val false)).put (lnSTATE l.val lane.val) 2).syncLink
        l.val).laneRaise l.val 4 lane.val)) s) := by
  rw [on_requalAttemptDone hon]
  refine next_follow (linkAct_of ?_)
  unfold State.requalDone
  dsimp only
  rw [if_neg (by simp [h]), if_neg (by simp [h1]), if_pos h2, if_pos rfl]

/-- One that fails is counted; at REQ_TRIES the lane is written off (R254). -/
theorem does_requalAttemptDone_fails (hon : s.on = true) (l : Fin 4) (lane : Fin 9) {n : Nat} {t : State} (h : s.linkUp l.val = true)
    (h1 : bitAt (s.port l.val).widen lane.val = false) (h2 : s.get (lnSTATE l.val lane.val) = 4)
    (hn : nth 0 (s.port l.val).tries lane.val + 1 = n)
    (ht : s.setPort l.val { s.port l.val with tries := setNth (s.port l.val).tries lane.val n } = t) :
    exec (.requalAttemptDone l lane false) s = .next (State.follow (s.linkAct (fun _ =>
      if (if s.get F.FHL_LIM_REQ_TRIES = 0 then 1 else s.get F.FHL_LIM_REQ_TRIES) ≤ n then t.writeOff l.val lane.val else t)) s) := by
  rw [on_requalAttemptDone hon]
  refine next_follow (linkAct_of ?_)
  unfold State.requalDone State.requalDone.atLeast
  dsimp only
  rw [if_neg (by simp [h]), if_neg (by simp [h1]), if_pos h2, if_neg (by decide), hn, ht]
  simp only [decide_eq_true_eq]

theorem does_remapStalled (hon : s.on = true) (l : Fin 4) {k n : Nat} {rest : List (Nat × Nat)} (h : s.linkUp l.val = true)
    (h1 : (s.port l.val).asked.filter (fun e => !bitAt (s.port l.val).stalled e.1) = (k, n) :: rest) :
    exec (.remapStalled l) s = .next (State.follow ((s.setPort l.val { s.port l.val with
      stalled := setBitAt (s.port l.val).stalled k true }).laneRaise l.val 9 k) s) := by
  rw [on_remapStalled hon]
  unfold State.remapStalled
  dsimp only
  rw [if_neg (by simp [h]), h1]

/-- The forwarded clock of a link in UP stops: DOWN (R259). -/
theorem does_fwdClockLoss (hon : s.on = true) (l : Fin 4) (h : s.linkState l.val = 7) :
    exec (.fwdClockLoss l) s = .next (State.follow (s.linkAct (fun _ => s.linkDown l.val)) s) := by
  rw [on_fwdClockLoss hon]
  refine next_follow (linkAct_of ?_)
  unfold State.clockLoss stUP
  dsimp only
  rw [if_pos h]

/-- In training it begins again. -/
theorem does_fwdClockLoss_training (hon : s.on = true) (l : Fin 4) (h : 2 ≤ s.linkState l.val ∧ s.linkState l.val ≤ 6) :
    exec (.fwdClockLoss l) s = .next (State.follow (s.linkAct (fun _ => s.linkDetect l.val)) s) := by
  rw [on_fwdClockLoss hon]
  refine next_follow (linkAct_of ?_)
  unfold State.clockLoss stUP stLOCK stHANDSHAKE
  dsimp only
  rw [if_neg (by omega), if_pos h]

theorem does_dfeAdapt (hon : s.on = true) (l : Fin 4) (lane : Fin 9) (d0 d1 d2 d3 d4 : BitVec 10) (h : s.adapts l.val = true) :
    exec (.dfeAdapt l lane d0 d1 d2 d3 d4) s = .next (State.follow (s.put (lnTAPS l.val lane.val)
      ((List.range 5).foldl (fun w j =>
        let d := nth 0 [d0.toInt, d1.toInt, d2.toInt, d3.toInt, d4.toInt] j
        let v := s.dfeTap l.val lane.val j
        setBitsAt w (5 * j) 5 (ofSigned 5 (if 32 ≤ d then clampInt (-16) 15 (v + 1) else if d ≤ -32 then clampInt (-16) 15 (v - 1) else v)))
        (s.get (lnTAPS l.val lane.val)))) s) := by
  rw [on_dfeAdapt hon]
  unfold State.dfeAdapt
  rw [if_pos h]

theorem does_ctleAdapt (hon : s.on = true) (l : Fin 4) (lane : Fin 9) {a c : Nat} (h : s.adapts l.val = true)
    (ha : (s.dfeTap l.val lane.val 0).natAbs = a) (hc : s.get (lnCTLE l.val lane.val) = c) :
    exec (.ctleAdapt l lane) s = .next (State.follow (
      if 14 ≤ a then s.put (lnCTLE l.val lane.val) (if c < 15 then c + 1 else 15)
      else if a ≤ 4 then s.put (lnCTLE l.val lane.val) (c - 1)
      else s) s) := by
  rw [on_ctleAdapt hon]
  unfold State.ctleAdapt
  simp only [h, ha, hc, if_true]

theorem does_eyeMeasure (hon : s.on = true) (l : Fin 4) (lane : Fin 9) (height width : BitVec 8) (h : s.linkUp l.val = true) :
    exec (.eyeMeasure l lane height width) s = .next (State.follow
      (((((s.putb (lnVALID l.val lane.val) true).putb (lnNEW l.val lane.val) true).incWrap (lnSEQ l.val lane.val)).put
        (lnHEIGHT l.val lane.val) height.toNat).put (lnWIDTH l.val lane.val) width.toNat) s) := by
  rw [on_eyeMeasure hon]
  unfold State.eyeMeasure
  rw [if_pos h]

/-- RETRAIN_A: brick A goes DOWN where it runs, and what hangs on the links follows (R259). -/
theorem does_fhlRetrainA (hon : s.on = true) (src : Source) (v : Word) {t : State} {w : Word}
    (hw : fixBit v F.FHL_CTL_RETRAIN_A.lo = w) (ho : s.opens src F.FHL_CTL_RETRAIN_A.addr w = true)
    (ht : (s.touch src).plain F.FHL_CTL_RETRAIN_A.addr w.toNat = t) (h : bitAt w.toNat 5 = false)
    (h1 : t.linkState 0 ≠ 0 ∧ t.linkState 0 ≠ 8) :
    exec (.fhlRetrainA src v) s = .next (State.follow (t.linkDown 0).linksChanged.bootAdvance s) := by
  have h4 : bitAt w.toNat 4 = true := by rw [← hw]; exact bitAt_fixBit v (by decide)
  have h45 : bitsAt w.toNat 4 2 ≠ 0 := by
    intro q; unfold bitAt at h4; unfold bitsAt at q; rw [beq_iff_eq] at h4; omega
  rw [on_fhlRetrainA hon, hw, State.opens_Fhl ho (by decide) (by decide) (by decide)]
  unfold State.writeFhl
  rw [if_pos (by decide), ht, State.iff_of h4, State.iff_not h]
  dsimp only
  rw [if_neg h45]
  unfold State.retrain
  rw [if_neg (by unfold stOFF stBYPASS; omega)]

theorem does_fhlRetrainB (hon : s.on = true) (src : Source) (v : Word) {t : State} {w : Word}
    (hw : fixBit v F.FHL_CTL_RETRAIN_B.lo = w) (ho : s.opens src F.FHL_CTL_RETRAIN_A.addr w = true)
    (ht : (s.touch src).plain F.FHL_CTL_RETRAIN_A.addr w.toNat = t) (h : bitAt w.toNat 4 = false)
    (h1 : t.linkState 1 ≠ 0 ∧ t.linkState 1 ≠ 8) :
    exec (.fhlRetrainB src v) s = .next (State.follow (t.linkDown 1).linksChanged.bootAdvance s) := by
  have h4 : bitAt w.toNat 5 = true := by rw [← hw]; exact bitAt_fixBit v (by decide)
  have h45 : bitsAt w.toNat 4 2 ≠ 0 := by
    intro q; unfold bitAt at h4; unfold bitsAt at q; rw [beq_iff_eq] at h4; omega
  rw [on_fhlRetrainB hon, hw, State.opens_Fhl ho (by decide) (by decide) (by decide)]
  unfold State.writeFhl
  rw [if_pos (by decide), ht, State.iff_not h, State.iff_of h4]
  dsimp only
  rw [if_neg h45]
  unfold State.retrain
  rw [if_neg (by unfold stOFF stBYPASS; omega)]

theorem does_fhlCntClr (hon : s.on = true) (src : Source) (v : Word) {t : State} (ht : s.touch src = t)
    (ho : s.opens src F.FHL_CNT_CLR_CLR.addr (fixBit v 0) = true) :
    exec (.fhlCntClr src v) s = .next (State.follow ((t.linkClear 0).linkClear 1) s) := by
  rw [on_fhlCntClr hon, State.opens_Fhl ho (by decide) (by decide) (by decide), ht]
  unfold State.writeFhl
  rw [if_neg (by decide), if_pos (by decide), State.iff_of (bitAt_fixBit v (by decide))]

end Sys2Proof.Machine
end

