-- ==== Sys2Proof/Laws/ExecLookCmds.lean ====
section
/-! SUPPORT. What each command of Machine/LookCmds.lean may change. -/

namespace Sys2Proof.Machine

set_option linter.all false

theorem execCoexActRise_moves (s : State) (t : State) (h : execCoexActRise s = .next t) :
    Moves 0x80720228d02a0a2 s t := by
  unfold execCoexActRise at h
  refine acting_moves (by decide) (fun _ => ?_) h
  repeat' first
    | with_reducible assumption
    | with_reducible exact Moves.refl _ _
    | decide
    | with_reducible apply Moves.step (State.actRise_moves ..)

theorem execCoexActFall_moves (s : State) (t : State) (h : execCoexActFall s = .next t) :
    Moves 0x80720228d02a0a2 s t := by
  unfold execCoexActFall at h
  refine acting_moves (by decide) (fun _ => ?_) h
  repeat' first
    | with_reducible assumption
    | with_reducible exact Moves.refl _ _
    | decide
    | with_reducible apply Moves.step (State.actFall_moves ..)

theorem execEdBinEnd_moves (l : List (Fin 16 × Fin 20 × Fin 81 × Int × Bool × Fin 81)) (s : State) (t : State) (h : execEdBinEnd l s = .next t) :
    Moves 0x805a022cd02a0e2 s t := by
  unfold execEdBinEnd at h
  refine acting_moves (by decide) (fun _ => ?_) h
  repeat' first
    | with_reducible assumption
    | with_reducible exact Moves.refl _ _
    | decide
    | with_reducible apply Moves.step (State.edBin_moves ..)

theorem execStfDetect_moves (b : Fin 16) (c : Fin 20) (w : Fin 2) (pd : Int) (s : State) (t : State) (h : execStfDetect b c w pd s = .next t) :
    Moves 0x81520228d0aa0a2 s t := by
  unfold execStfDetect at h
  refine acting_moves (by decide) (fun _ => ?_) h
  repeat' first
    | with_reducible assumption
    | with_reducible exact Moves.refl _ _
    | decide
    | with_reducible apply Moves.ite
    | extract_lets
    | with_reducible apply Moves.step (State.stfDetect_moves ..)
    | with_reducible apply Moves.step (State.gaugeEvent_moves ..)
    | split
    | (with_reducible refine Moves.snd (by assumption) ?_)
    | (with_reducible refine Moves.fst (by assumption) ?_)
    | dsimp +zetaDelta only

theorem execLtfSync_moves (b : Fin 16) (c : Fin 20) (w : Fin 2) (p : Int) (s : State) (t : State) (h : execLtfSync b c w p s = .next t) :
    Moves 0x80520228d02a0a2 s t := by
  unfold execLtfSync at h
  refine acting_moves (by decide) (fun _ => ?_) h
  repeat' first
    | with_reducible assumption
    | with_reducible exact Moves.refl _ _
    | decide
    | with_reducible apply Moves.step (State.ltfSync_moves ..)

theorem execLtfTimeout_moves (b : Fin 16) (c : Fin 20) (w : Fin 2) (s : State) (t : State) (h : execLtfTimeout b c w s = .next t) :
    Moves 0x805a022cd02a0e2 s t := by
  unfold execLtfTimeout at h
  refine acting_moves (by decide) (fun _ => ?_) h
  repeat' first
    | with_reducible assumption
    | with_reducible exact Moves.refl _ _
    | decide
    | with_reducible apply Moves.step (State.ltfTimeout_moves ..)

theorem execLsigDecode_moves (b : Fin 16) (c : Fin 20) (w : Fin 2) (sig : BitVec 24) (s : State) (t : State) (h : execLsigDecode b c w sig s = .next t) :
    Moves 0x805a022cd02a0e2 s t := by
  unfold execLsigDecode at h
  refine acting_moves (by decide) (fun _ => ?_) h
  repeat' first
    | with_reducible assumption
    | with_reducible exact Moves.refl _ _
    | decide
    | with_reducible apply Moves.step (State.lsigDecode_moves ..)

theorem execWatcherBusyEnd_moves (b : Fin 16) (c : Fin 20) (w : Fin 2) (s : State) (t : State) (h : execWatcherBusyEnd b c w s = .next t) :
    Moves 0x805a022cd02a0e2 s t := by
  unfold execWatcherBusyEnd at h
  refine acting_moves (by decide) (fun _ => ?_) h
  repeat' first
    | with_reducible assumption
    | with_reducible exact Moves.refl _ _
    | decide
    | with_reducible apply Moves.step (State.watcherEnd_moves ..)

theorem execLookCtlWrite_moves (src : Source) (v : Word) (s : State) (t : State) (h : execLookCtlWrite src v s = .next t) :
    Moves 0xc0520228d82a0a2 s t := by
  unfold execLookCtlWrite at h
  refine acting_moves (by decide) (fun _ => ?_) h
  repeat' first
    | with_reducible assumption
    | with_reducible exact Moves.refl _ _
    | decide
    | with_reducible apply Moves.step (State.busWrite_Look _ _ _ (by first | decide | (simp only [F.LOOK_CTL_EN]; omega) | (simp only [F.LOOK_CTL_EN]; split <;> decide) | (simp only [F.LOOK_CTL_EN]; (repeat' split) <;> omega)))

theorem lookCfgAddr_block (i : Nat) (h : i < 1048) : lookCfgAddr i / 4 * 4 / 65536 = 15 := by
  unfold lookCfgAddr
  split
  · simp only [F.LOOK_SB_FREQ]; omega
  · split
    · simp only [F.LOOK_SCH_FREQ]; omega
    · simp only [F.LOOK_BEAMV_RE]; omega

theorem execLookCfgWrite_moves (src : Source) (i : Fin 1048) (v : Word) (s : State) (t : State) (h : execLookCfgWrite src i v s = .next t) :
    Moves 0xc0520228d82a0a2 s t := by
  unfold execLookCfgWrite at h
  refine acting_moves (by decide) (fun _ => ?_) h
  repeat' first
    | with_reducible assumption
    | with_reducible exact Moves.refl _ _
    | decide
    | with_reducible apply Moves.step (State.busWrite_Look _ _ _ (lookCfgAddr_block _ i.isLt))

theorem execLookCntClr_moves (src : Source) (v : Word) (s : State) (t : State) (h : execLookCntClr src v s = .next t) :
    Moves 0xc0520228d82a0a2 s t := by
  unfold execLookCntClr at h
  refine acting_moves (by decide) (fun _ => ?_) h
  repeat' first
    | with_reducible assumption
    | with_reducible exact Moves.refl _ _
    | decide
    | with_reducible apply Moves.step (State.busWrite_Look _ _ _ (by first | decide | (simp only [F.LOOK_CNT_CLR_CLR]; omega) | (simp only [F.LOOK_CNT_CLR_CLR]; split <;> decide) | (simp only [F.LOOK_CNT_CLR_CLR]; (repeat' split) <;> omega)))

end Sys2Proof.Machine
end

