-- ==== Sys2Proof/Laws/OnLookCmds.lean ====
section
/-! SUPPORT. What the commands of Machine/LookCmds.lean answer while the device acts. -/

namespace Sys2Proof.Machine

set_option linter.all false

theorem on_coexActRise {s : State} (hon : s.on = true)  :
    exec (.coexActRise) s = .next (State.follow (State.actRise s) s) := by
  show execCoexActRise  s = _
  exact acting_on hon

theorem on_coexActFall {s : State} (hon : s.on = true)  :
    exec (.coexActFall) s = .next (State.follow (State.actFall s) s) := by
  show execCoexActFall  s = _
  exact acting_on hon

theorem on_edBinEnd {s : State} (hon : s.on = true) (l : List (Fin 16 × Fin 20 × Fin 81 × Int × Bool × Fin 81)) :
    exec (.edBinEnd l) s = .next (State.follow (s.edBin (l.map (fun e =>
    { beam := e.1.val, sch := e.2.1.val, sensed := e.2.2.1.val, power := e.2.2.2.1, ovr := e.2.2.2.2.1, blind := e.2.2.2.2.2.val }))) s) := by
  show execEdBinEnd l s = _
  exact acting_on hon

theorem on_stfDetect {s : State} (hon : s.on = true) (b : Fin 16) (c : Fin 20) (w : Fin 2) (pd : Int) :
    exec (.stfDetect b c w pd) s = .next (State.follow (let u := s.stfDetect b.val c.val w.val pd
    if u.look = s.look then u
    else if bitAt (u.get F.GAUGE_LOOK_BEAMS_BEAMS) b.val && bitAt (u.get F.GAUGE_LOOK_SCH_SCH) c.val then u.gaugeEvent 2 u.tide.now
    else u) s) := by
  show execStfDetect b c w pd s = _
  exact acting_on hon

theorem on_ltfSync {s : State} (hon : s.on = true) (b : Fin 16) (c : Fin 20) (w : Fin 2) (p : Int) :
    exec (.ltfSync b c w p) s = .next (State.follow (s.ltfSync b.val c.val w.val p) s) := by
  show execLtfSync b c w p s = _
  exact acting_on hon

theorem on_ltfTimeout {s : State} (hon : s.on = true) (b : Fin 16) (c : Fin 20) (w : Fin 2) :
    exec (.ltfTimeout b c w) s = .next (State.follow (s.ltfTimeout b.val c.val w.val) s) := by
  show execLtfTimeout b c w s = _
  exact acting_on hon

theorem on_lsigDecode {s : State} (hon : s.on = true) (b : Fin 16) (c : Fin 20) (w : Fin 2) (sig : BitVec 24) :
    exec (.lsigDecode b c w sig) s = .next (State.follow (s.lsigDecode b.val c.val w.val sig.toNat) s) := by
  show execLsigDecode b c w sig s = _
  exact acting_on hon

theorem on_watcherBusyEnd {s : State} (hon : s.on = true) (b : Fin 16) (c : Fin 20) (w : Fin 2) :
    exec (.watcherBusyEnd b c w) s = .next (State.follow (s.watcherEnd b.val c.val w.val) s) := by
  show execWatcherBusyEnd b c w s = _
  exact acting_on hon

theorem on_lookCtlWrite {s : State} (hon : s.on = true) (src : Source) (v : Word) :
    exec (.lookCtlWrite src v) s = .next (State.follow (s.busWrite src F.LOOK_CTL_EN.addr v) s) := by
  show execLookCtlWrite src v s = _
  exact acting_on hon

theorem on_lookCfgWrite {s : State} (hon : s.on = true) (src : Source) (i : Fin 1048) (v : Word) :
    exec (.lookCfgWrite src i v) s = .next (State.follow (s.busWrite src (lookCfgAddr i.val) v) s) := by
  show execLookCfgWrite src i v s = _
  exact acting_on hon

theorem on_lookCntClr {s : State} (hon : s.on = true) (src : Source) (v : Word) :
    exec (.lookCntClr src v) s = .next (State.follow (s.busWrite src F.LOOK_CNT_CLR_CLR.addr (fixBit v 0)) s) := by
  show execLookCntClr src v s = _
  exact acting_on hon

end Sys2Proof.Machine
end

