-- ==== Sys2Proof/Laws/DoesLook.lean ====
section
/-! SUPPORT. What the commands of Lookout and the coexistence wires do where they take effect. -/

namespace Sys2Proof.Machine

set_option linter.all false

variable {s : State}

theorem does_coexActRise (hon : s.on = true) {t : State} (h : s.pins.coexAct = false)
    (ht : { s with pins := { s.pins with coexAct := true }
                   look := { s.look with act := ((s.tide.now, none) :: s.look.act).take 16 } } = t) :
    exec .coexActRise s = .next (State.follow
      ((t.syncCoex.put64 F.FEND_ACT_RISE_LO_STAMP F.FEND_ACT_RISE_HI_STAMP s.stamp).inc F.FEND_ACT_CNT_COUNT) s) := by
  rw [on_coexActRise hon]
  unfold State.actRise
  rw [if_neg (by simp [h])]
  dsimp only
  rw [ht]

theorem does_coexActFall (hon : s.on = true) {e : Nat} {t : State} (h : s.pins.coexAct = true)
    (he : s.tide.now + nsU (s.get F.FEND_ACT_CTL_HOLD_NS) = e)
    (ht : { s with pins := { s.pins with coexAct := false }
                   look := { s.look with act := s.look.act.map (fun x => (x.1, some (x.2.getD e))) } } = t) :
    exec .coexActFall s = .next (State.follow
      (t.syncCoex.put64 F.FEND_ACT_FALL_LO_STAMP F.FEND_ACT_FALL_HI_STAMP s.stamp) s) := by
  rw [on_coexActFall hon]
  unfold State.actFall
  rw [if_pos h]
  subst he ht
  have hm : ∀ e : Nat, s.look.act.map (fun x => (x.1, match x.2 with | none => some e | some h => some h)) =
      s.look.act.map (fun x => (x.1, some (x.2.getD e))) := by
    intro e
    congr 1
    funext x
    cases x.2 <;> rfl
  exact next_follow (congrArg (fun l => State.put64 (State.syncCoex ({ s with
      pins := { s.pins with coexAct := false }
      look := { s.look with act := l } } : State)) F.FEND_ACT_FALL_LO_STAMP F.FEND_ACT_FALL_HI_STAMP s.stamp) (hm _))

/-- A bin ends 4 µs after the last: the measured beams and subchannels are entered (R321, R322). -/
theorem does_edBinEnd (hon : s.on = true) (l : List (Fin 16 × Fin 20 × Fin 81 × Int × Bool × Fin 81)) {e : Nat} {t : State}
    (h : s.look.on = true) (he : s.look.bin + nsU 4000 = e) (ht : s.reachAbs e = t) :
    exec (.edBinEnd l) s = .next (State.follow
      ((l.map (fun e => ({ beam := e.1.val, sch := e.2.1.val, sensed := e.2.2.1.val, power := e.2.2.2.1, ovr := e.2.2.2.2.1,
                           blind := e.2.2.2.2.2.val } : BinResult))).foldl (fun v r => v.binTake e r)
        { t with look := { t.look with bin := e } }) s) := by
  rw [on_edBinEnd hon]
  unfold State.edBin
  rw [if_neg (by simp [h])]
  dsimp only
  rw [he, ht]; rfl

/-- A detection with no other reception accepted: the watcher is in SYNC and the reception opens (R323). -/
theorem does_stfDetect (hon : s.on = true) (b : Fin 16) (c : Fin 20) (w : Fin 2) (pd : Int) {x : LookKey} {u : State}
    (hx : s.lookKey b.val c.val = x) (h1 : s.watching b.val c.val = true) (h2 : (x.watcher w.val).state = 0)
    (h3 : (x.watcher w.val).deaf ≤ s.tide.now) (h4 : 100 * s.geti F.LOOK_THR_PD_THR ≤ pd) (h5 : (x.watcher (1 - w.val)).state ≠ 3)
    (hu : (s.inc (F.LOOK_CNT_COUNT 0)).setLookKey b.val c.val { (x.setWatcher w.val { x.watcher w.val with
      state := 1, det := s.tide.now }) with busy := (s.tide.now, none, w.val) :: x.busy } = u) :
    exec (.stfDetect b c w pd) s = .next (State.follow (if u.look = s.look then u
      else if bitAt (u.get F.GAUGE_LOOK_BEAMS_BEAMS) b.val && bitAt (u.get F.GAUGE_LOOK_SCH_SCH) c.val then u.gaugeEvent 2 u.tide.now
      else u) s) := by
  rw [on_stfDetect hon]
  have e : s.stfDetect b.val c.val w.val pd = u := by
    unfold State.stfDetect
    simp only [hx]
    rw [if_neg (by simp [h1, h2]; omega), if_neg (by simp [h5]), if_neg h5]
    exact hu
  simp only [e]

theorem does_ltfSync (hon : s.on = true) (b : Fin 16) (c : Fin 20) (w : Fin 2) (p : Int) {x : LookKey}
    (hx : s.lookKey b.val c.val = x) (h1 : s.watching b.val c.val = true) (h2 : (x.watcher w.val).state = 1)
    (h3 : s.tide.now ≤ (x.watcher w.val).det + usU 12) :
    exec (.ltfSync b c w p) s = .next (State.follow (s.setLookKey b.val c.val (x.setWatcher w.val { x.watcher w.val with
      state := 2, ty := s.tide.now - nsU 3200, p := p })) s) := by
  rw [on_ltfSync hon]
  unfold State.ltfSync
  simp only [hx]
  rw [if_neg (by simp [h1, h2]; omega)]

theorem does_ltfTimeout (hon : s.on = true) (b : Fin 16) (c : Fin 20) (w : Fin 2) {k : Watcher}
    (hk : (s.lookKey b.val c.val).watcher w.val = k) (h1 : s.watching b.val c.val = true) (h2 : k.state = 1) :
    exec (.ltfTimeout b c w) s = .next (State.follow
      ((s.reachAbs (k.det + usU 12)).falseDet b.val c.val w.val (k.det + usU 12)) s) := by
  rw [on_ltfTimeout hon]
  unfold State.ltfTimeout
  simp only [hk]
  rw [if_neg (by simp [h1, h2])]

/-- An accepted symbol with no other reception accepted: TX time, record and the busy span (R325, R326). -/
theorem does_lsigDecode (hon : s.on = true) (b : Fin 16) (c : Fin 20) (w : Fin 2) (sig : BitVec 24) {k : Watcher} {t : State}
    {x z : LookKey} {ts te : Nat} (hk : (s.lookKey b.val c.val).watcher w.val = k) (h1 : s.watching b.val c.val = true) (h2 : k.state = 2)
    (ht : s.reachAbs (k.ty + nsU 10400) = t) (h3 : sigOk sig.toNat = true) (hts : k.ty - nsU 9600 = ts)
    (hte : ts + usU (sigDur sig.toNat) = te) (hx : t.lookKey b.val c.val = x) (h4 : (x.watcher (1 - w.val)).state ≠ 3)
    (hz : { ((x.setWatcher w.val { k with state := 3, te := te }).close w.val t.tide.now) with
      busy := (ts, some te, 2) :: ((x.setWatcher w.val { k with state := 3, te := te }).close w.val t.tide.now).busy } = z) :
    exec (.lsigDecode b c w sig) s = .next (State.follow
      (((t.inc (F.LOOK_CNT_COUNT 1)).lookRecord b.val c.val k.p sig.toNat ts).setLookKey b.val c.val z) s) := by
  rw [on_lsigDecode hon]
  unfold State.lsigDecode
  simp only [hk]
  rw [if_neg (by simp [h1, h2]), if_neg (by simp [h3])]
  simp only [ht, hts, hte, hx]
  rw [if_neg h4, hz]

/-- A symbol that R325 does not accept: FALSE_DET. -/
theorem does_lsigDecode_false (hon : s.on = true) (b : Fin 16) (c : Fin 20) (w : Fin 2) (sig : BitVec 24) {k : Watcher} {t : State}
    (hk : (s.lookKey b.val c.val).watcher w.val = k) (h1 : s.watching b.val c.val = true) (h2 : k.state = 2)
    (ht : s.reachAbs (k.ty + nsU 10400) = t) (h3 : sigOk sig.toNat = false) :
    exec (.lsigDecode b c w sig) s = .next (State.follow (t.falseDet b.val c.val w.val t.tide.now) s) := by
  rw [on_lsigDecode hon]
  unfold State.lsigDecode
  simp only [hk]
  rw [if_neg (by simp [h1, h2]), if_pos h3, ht]

theorem does_watcherBusyEnd (hon : s.on = true) (b : Fin 16) (c : Fin 20) (w : Fin 2) {k : Watcher} {t : State}
    (hk : (s.lookKey b.val c.val).watcher w.val = k) (h1 : s.watching b.val c.val = true) (h2 : k.state = 3) (ht : s.reachAbs k.te = t) :
    exec (.watcherBusyEnd b c w) s = .next (State.follow
      (t.setLookKey b.val c.val ((t.lookKey b.val c.val).search w.val k.te)) s) := by
  rw [on_watcherBusyEnd hon]
  unfold State.watcherEnd
  simp only [hk]
  rw [if_neg (by simp [h1, h2]), ht]

theorem does_lookCtlWrite (hon : s.on = true) (src : Source) (v : Word) {t : State} (ht : s.touch src = t)
    (ho : s.opens src F.LOOK_CTL_EN.addr v = true) :
    exec (.lookCtlWrite src v) s = .next (State.follow (t.plain F.LOOK_CTL_EN.addr v.toNat).lookSync s) := by
  rw [on_lookCtlWrite hon, State.opens_Look ho (by decide) (by decide) (by decide), ht]
  unfold State.writeLook
  rw [if_pos (by decide)]

theorem lookCfgAddr_range (i : Fin 1048) : lookCfgAddr i.val % 4 = 0
    ∧ ((0xF0010 ≤ lookCfgAddr i.val ∧ lookCfgAddr i.val < 0xF0090) ∨ (0xF4000 ≤ lookCfgAddr i.val ∧ lookCfgAddr i.val < 0xF5000)) := by
  have h := i.isLt
  unfold lookCfgAddr
  split
  · dsimp only [F.LOOK_SB_FREQ]; omega
  · split
    · dsimp only [F.LOOK_SCH_FREQ]; omega
    · dsimp only [F.LOOK_BEAMV_RE]; omega

theorem look_write {src : Source} (i : Fin 1048) {v : Word} (ho : s.opens src (lookCfgAddr i.val) v = true) :
    s.busWrite src (lookCfgAddr i.val) v = if (s.touch src).flag F.LOOK_CTL_EN then
      ((s.touch src).setEvt 0x0F02 0).raiseMs 0x0F02 0 0 else ((s.touch src).plain (lookCfgAddr i.val) v.toNat).lookSync := by
  obtain ⟨h1, h2⟩ := lookCfgAddr_range i
  rw [State.opens_Look ho h1 (by omega) (by simp only [evtAddr]; omega)]
  unfold State.writeLook
  rw [if_neg (by dsimp only [F.LOOK_CTL_EN]; omega), if_pos (by omega)]

theorem does_lookCfgWrite (hon : s.on = true) (src : Source) (i : Fin 1048) (v : Word) {t : State} (ht : s.touch src = t)
    (ho : s.opens src (lookCfgAddr i.val) v = true) (h : t.flag F.LOOK_CTL_EN = false) :
    exec (.lookCfgWrite src i v) s = .next (State.follow (t.plain (lookCfgAddr i.val) v.toNat).lookSync s) := by
  rw [on_lookCfgWrite hon, look_write i ho, ht, if_neg (by simp [h])]

/-- While EN = 1 the write is rejected (R320). -/
theorem refuses_lookCfgWrite (hon : s.on = true) (src : Source) (i : Fin 1048) (v : Word) {t : State} (ht : s.touch src = t)
    (ho : s.opens src (lookCfgAddr i.val) v = true) (h : t.flag F.LOOK_CTL_EN = true) :
    exec (.lookCfgWrite src i v) s = .next (State.follow ((t.setEvt 0x0F02 0).raiseMs 0x0F02 0 0) s) := by
  rw [on_lookCfgWrite hon, look_write i ho, ht, if_pos h]

theorem does_lookCntClr (hon : s.on = true) (src : Source) (v : Word) {t : State} (ht : s.touch src = t)
    (ho : s.opens src F.LOOK_CNT_CLR_CLR.addr (fixBit v 0) = true) :
    exec (.lookCntClr src v) s = .next (State.follow
      (t.each (List.range 6) (fun u i => u.setWord (0xF00C0 + 4 * i) 0)) s) := by
  rw [on_lookCntClr hon, State.opens_Look ho (by decide) (by decide) (by decide), ht]
  unfold State.writeLook
  rw [if_neg (by decide), if_neg (by decide), if_pos (by decide), State.iff_of (bitAt_fixBit v (by decide))]
  rfl

end Sys2Proof.Machine
end

