-- ==== Sys2Proof/Laws/ExecMessageCmds.lean ====
section
/-! SUPPORT. What each command of Machine/MessageCmds.lean may change. -/

namespace Sys2Proof.Machine

set_option linter.all false

theorem execLinkFrameRx_moves (l : Fin 4) (f : List Byte) (bad idle : Bool) (fill other : Fin 16385) (s : State) (t : State) (h : execLinkFrameRx l f bad idle fill other s = .next t) :
    Moves 0xfffffffdffffffb s t := by
  unfold execLinkFrameRx at h
  refine acting_moves (by decide) (fun _ => ?_) h
  repeat' first
    | with_reducible assumption
    | with_reducible exact Moves.refl _ _
    | decide
    | intro _
    | with_reducible apply State.linkAct_moves
    | with_reducible apply Moves.step (State.linkFrame_moves ..)

theorem execTxSectionRx_moves (b : Fin 2) (payload : List Byte) (s : State) (t : State) (h : execTxSectionRx b payload s = .next t) :
    Moves 0x80520228d02a0a2 s t := by
  unfold execTxSectionRx at h
  refine acting_moves (by decide) (fun _ => ?_) h
  repeat' first
    | with_reducible assumption
    | with_reducible exact Moves.refl _ _
    | decide
    | with_reducible apply Moves.step (State.txSection_moves ..)

theorem execRxSectionForm_moves (m : Fin 32) (slack : BitVec 16) (s : State) (t : State) (h : execRxSectionForm m slack s = .next t) :
    Moves 0x80520228d02a4a2 s t := by
  unfold execRxSectionForm at h
  refine acting_moves (by decide) (fun _ => ?_) h
  repeat' first
    | with_reducible assumption
    | with_reducible exact Moves.refl _ _
    | decide
    | with_reducible apply Moves.ite
    | with_reducible apply Moves.step (State.meter_moves ..)
    | with_reducible apply Moves.step (State.sectionForm_moves ..)
    | split
    | (with_reducible refine Moves.snd (by assumption) ?_)
    | (with_reducible refine Moves.fst (by assumption) ?_)

theorem execRxsCfgWrite_moves (src : Source) (m : Fin 32) (v : Word) (s : State) (t : State) (h : execRxsCfgWrite src m v s = .next t) :
    Moves 0xc0520228d82a4a2 s t := by
  unfold execRxsCfgWrite at h
  refine acting_moves (by decide) (fun _ => ?_) h
  repeat' first
    | with_reducible assumption
    | with_reducible exact Moves.refl _ _
    | decide
    | with_reducible apply Moves.step (State.busWrite_Fhm _ _ _ (by omega))

theorem execRtcBerthAdd_moves (via : Fin 3) (flags : Byte) (seq : BitVec 16) (body : List Byte) (s : State) (t : State) (h : execRtcBerthAdd via flags seq body s = .next t) :
    Moves 0xc05a9eacd02a9ea s t := by
  unfold execRtcBerthAdd at h
  refine acting_moves (by decide) (fun _ => ?_) h
  repeat' first
    | with_reducible assumption
    | with_reducible exact Moves.refl _ _
    | decide
    | with_reducible apply Moves.step (State.rtcFrom_moves ..)

theorem execRtcBerthCancel_moves (via : Fin 3) (flags : Byte) (seq : BitVec 16) (body : List Byte) (s : State) (t : State) (h : execRtcBerthCancel via flags seq body s = .next t) :
    Moves 0xc05a9eacd02a9ea s t := by
  unfold execRtcBerthCancel at h
  refine acting_moves (by decide) (fun _ => ?_) h
  repeat' first
    | with_reducible assumption
    | with_reducible exact Moves.refl _ _
    | decide
    | with_reducible apply Moves.step (State.rtcFrom_moves ..)

theorem execRtcBerthFlush_moves (via : Fin 3) (flags : Byte) (seq : BitVec 16) (body : List Byte) (s : State) (t : State) (h : execRtcBerthFlush via flags seq body s = .next t) :
    Moves 0xc05a9eacd02a9ea s t := by
  unfold execRtcBerthFlush at h
  refine acting_moves (by decide) (fun _ => ?_) h
  repeat' first
    | with_reducible assumption
    | with_reducible exact Moves.refl _ _
    | decide
    | with_reducible apply Moves.step (State.rtcFrom_moves ..)

theorem execRtcGapGrant_moves (via : Fin 3) (flags : Byte) (seq : BitVec 16) (body : List Byte) (s : State) (t : State) (h : execRtcGapGrant via flags seq body s = .next t) :
    Moves 0xc05a9eacd02a9ea s t := by
  unfold execRtcGapGrant at h
  refine acting_moves (by decide) (fun _ => ?_) h
  repeat' first
    | with_reducible assumption
    | with_reducible exact Moves.refl _ _
    | decide
    | with_reducible apply Moves.step (State.rtcFrom_moves ..)

theorem execRtcGapRevoke_moves (via : Fin 3) (flags : Byte) (seq : BitVec 16) (body : List Byte) (s : State) (t : State) (h : execRtcGapRevoke via flags seq body s = .next t) :
    Moves 0xc05a9eacd02a9ea s t := by
  unfold execRtcGapRevoke at h
  refine acting_moves (by decide) (fun _ => ?_) h
  repeat' first
    | with_reducible assumption
    | with_reducible exact Moves.refl _ _
    | decide
    | with_reducible apply Moves.step (State.rtcFrom_moves ..)

theorem execRtcNcoRetune_moves (via : Fin 3) (flags : Byte) (seq : BitVec 16) (body : List Byte) (s : State) (t : State) (h : execRtcNcoRetune via flags seq body s = .next t) :
    Moves 0xc05a9eacd02a9ea s t := by
  unfold execRtcNcoRetune at h
  refine acting_moves (by decide) (fun _ => ?_) h
  repeat' first
    | with_reducible assumption
    | with_reducible exact Moves.refl _ _
    | decide
    | with_reducible apply Moves.step (State.rtcFrom_moves ..)

theorem execRtcSynRetune_moves (via : Fin 3) (flags : Byte) (seq : BitVec 16) (body : List Byte) (s : State) (t : State) (h : execRtcSynRetune via flags seq body s = .next t) :
    Moves 0xc05a9eacd02a9ea s t := by
  unfold execRtcSynRetune at h
  refine acting_moves (by decide) (fun _ => ?_) h
  repeat' first
    | with_reducible assumption
    | with_reducible exact Moves.refl _ _
    | decide
    | with_reducible apply Moves.step (State.rtcFrom_moves ..)

theorem execRtcUnknown_moves (via : Fin 3) (cmd flags : Byte) (seq : BitVec 16) (body : List Byte) (s : State) (t : State) (h : execRtcUnknown via cmd flags seq body s = .next t) :
    Moves 0xc05a9eacd02a9ea s t := by
  unfold execRtcUnknown at h
  refine acting_moves (by decide) (fun _ => ?_) h
  repeat' first
    | with_reducible assumption
    | with_reducible exact Moves.refl _ _
    | decide
    | with_reducible apply Moves.step (State.rtcFrom_moves ..)

theorem execGapBegin_moves (s : State) (t : State) (h : execGapBegin s = .next t) :
    Moves 0x805e8a2cd02e9e2 s t := by
  unfold execGapBegin at h
  refine acting_moves (by decide) (fun _ => ?_) h
  repeat' first
    | with_reducible assumption
    | with_reducible exact Moves.refl _ _
    | decide
    | with_reducible apply Moves.step (State.gapBegin_moves ..)
    | with_reducible apply Moves.step (State.xcalTry_moves ..)

theorem execGapEnd_moves (s : State) (t : State) (h : execGapEnd s = .next t) :
    Moves 0x805a022cd02a0e2 s t := by
  unfold execGapEnd at h
  refine acting_moves (by decide) (fun _ => ?_) h
  repeat' first
    | with_reducible assumption
    | with_reducible exact Moves.refl _ _
    | decide
    | with_reducible apply Moves.step (State.gapEnd_moves ..)

theorem execRmaRead_moves (via : Fin 3) (id : Byte) (elem : BitVec 16) (addr : BitVec 48) (len : BitVec 16) (s : State) (t : State) (h : execRmaRead via id elem addr len s = .next t) :
    Moves 0xfffffffdffffffb s t := by
  unfold execRmaRead at h
  refine acting_moves (by decide) (fun _ => ?_) h
  repeat' first
    | with_reducible assumption
    | with_reducible exact Moves.refl _ _
    | decide
    | with_reducible apply Moves.step (State.rma_moves ..)

theorem execRmaWrite_moves (via : Fin 3) (id : Byte) (elem : BitVec 16) (addr : BitVec 48) (data : List Byte) (s : State) (t : State) (h : execRmaWrite via id elem addr data s = .next t) :
    Moves 0xfffffffdffffffb s t := by
  unfold execRmaWrite at h
  refine acting_moves (by decide) (fun _ => ?_) h
  repeat' first
    | with_reducible assumption
    | with_reducible exact Moves.refl _ _
    | decide
    | with_reducible apply Moves.step (State.rma_moves ..)

theorem execRmaWriteNoResp_moves (via : Fin 3) (id : Byte) (elem : BitVec 16) (addr : BitVec 48) (data : List Byte) (s : State) (t : State) (h : execRmaWriteNoResp via id elem addr data s = .next t) :
    Moves 0xfffffffdffffffb s t := by
  unfold execRmaWriteNoResp at h
  refine acting_moves (by decide) (fun _ => ?_) h
  repeat' first
    | with_reducible assumption
    | with_reducible exact Moves.refl _ _
    | decide
    | with_reducible apply Moves.step (State.rma_moves ..)

theorem execRmaResponseRx_moves (b : Fin 2) (id : Byte) (ok : Bool) (s : State) (t : State) (h : execRmaResponseRx b id ok s = .next t) :
    Moves 0x80520228d12a0a2 s t := by
  unfold execRmaResponseRx at h
  refine acting_moves (by decide) (fun _ => ?_) h
  repeat' first
    | with_reducible assumption
    | with_reducible exact Moves.refl _ _
    | decide
    | with_reducible apply Moves.ite
    | with_reducible apply Moves.step (State.remoteAnswer_moves ..)
    | split
    | (with_reducible refine Moves.snd (by assumption) ?_)
    | (with_reducible refine Moves.fst (by assumption) ?_)

theorem execResetRequest_moves (b : Fin 2) (id : BitVec 16) (op p0 : Byte) (s : State) (t : State) (h : execResetRequest b id op p0 s = .next t) :
    Moves 0xffffffe9ffffffb s t := by
  unfold execResetRequest at h
  refine acting_moves (by decide) (fun _ => ?_) h
  repeat' first
    | with_reducible assumption
    | with_reducible exact Moves.refl _ _
    | decide
    | with_reducible apply Moves.step (State.resetRequest_moves ..)

theorem execEventMsgSend_moves (s : State) (t : State) (h : execEventMsgSend s = .next t) :
    Moves 0x80520228d02a0a2 s t := by
  unfold execEventMsgSend at h
  refine acting_moves (by decide) (fun _ => ?_) h
  repeat' first
    | with_reducible assumption
    | with_reducible exact Moves.refl _ _
    | decide
    | with_reducible apply Moves.step (State.eventSend_moves ..)

theorem execFhmCtlWrite_moves (src : Source) (v : Word) (s : State) (t : State) (h : execFhmCtlWrite src v s = .next t) :
    Moves 0xc0520228d82a4a2 s t := by
  unfold execFhmCtlWrite at h
  refine acting_moves (by decide) (fun _ => ?_) h
  repeat' first
    | with_reducible assumption
    | with_reducible exact Moves.refl _ _
    | decide
    | with_reducible apply Moves.step (State.busWrite_Fhm _ _ _ (by first | decide | (simp only [F.FHM_CTL_EVT_EN]; omega) | (simp only [F.FHM_CTL_EVT_EN]; split <;> decide) | (simp only [F.FHM_CTL_EVT_EN]; (repeat' split) <;> omega)))

theorem execFhmCntClr_moves (src : Source) (v : Word) (s : State) (t : State) (h : execFhmCntClr src v s = .next t) :
    Moves 0xc0520228d82a4a2 s t := by
  unfold execFhmCntClr at h
  refine acting_moves (by decide) (fun _ => ?_) h
  repeat' first
    | with_reducible assumption
    | with_reducible exact Moves.refl _ _
    | decide
    | with_reducible apply Moves.step (State.busWrite_Fhm _ _ _ (by first | decide | (simp only [F.FHM_CNT_CLR_CLR]; omega) | (simp only [F.FHM_CNT_CLR_CLR]; split <;> decide) | (simp only [F.FHM_CNT_CLR_CLR]; (repeat' split) <;> omega)))

end Sys2Proof.Machine
end

