-- ==== Sys2Proof/Laws/OnMessageCmds.lean ====
section
/-! SUPPORT. What the commands of Machine/MessageCmds.lean answer while the device acts. -/

namespace Sys2Proof.Machine

set_option linter.all false

theorem on_linkFrameRx {s : State} (hon : s.on = true) (l : Fin 4) (f : List Byte) (bad idle : Bool) (fill other : Fin 16385) :
    exec (.linkFrameRx l f bad idle fill other) s = .next (State.follow (s.linkAct (fun u => u.linkFrame l.val f bad idle fill.val other.val)) s) := by
  show execLinkFrameRx l f bad idle fill other s = _
  exact acting_on hon

theorem on_txSectionRx {s : State} (hon : s.on = true) (b : Fin 2) (payload : List Byte) :
    exec (.txSectionRx b payload) s = .next (State.follow (s.txSection b.val payload) s) := by
  show execTxSectionRx b payload s = _
  exact acting_on hon

theorem on_rxSectionForm {s : State} (hon : s.on = true) (m : Fin 32) (slack : BitVec 16) :
    exec (.rxSectionForm m slack) s = .next (State.follow ((if s.meterActive 4 then s.meter 4 slack.toNat else s).sectionForm m.val) s) := by
  show execRxSectionForm m slack s = _
  exact acting_on hon

theorem on_rxsCfgWrite {s : State} (hon : s.on = true) (src : Source) (m : Fin 32) (v : Word) :
    exec (.rxsCfgWrite src m v) s = .next (State.follow (s.busWrite src (0xC0100 + 4 * m.val) v) s) := by
  show execRxsCfgWrite src m v s = _
  exact acting_on hon

theorem on_rtcBerthAdd {s : State} (hon : s.on = true) (via : Fin 3) (flags : Byte) (seq : BitVec 16) (body : List Byte) :
    exec (.rtcBerthAdd via flags seq body) s = .next (State.follow (s.rtcFrom via.val 0x01 flags.toNat seq.toNat body) s) := by
  show execRtcBerthAdd via flags seq body s = _
  exact acting_on hon

theorem on_rtcBerthCancel {s : State} (hon : s.on = true) (via : Fin 3) (flags : Byte) (seq : BitVec 16) (body : List Byte) :
    exec (.rtcBerthCancel via flags seq body) s = .next (State.follow (s.rtcFrom via.val 0x02 flags.toNat seq.toNat body) s) := by
  show execRtcBerthCancel via flags seq body s = _
  exact acting_on hon

theorem on_rtcBerthFlush {s : State} (hon : s.on = true) (via : Fin 3) (flags : Byte) (seq : BitVec 16) (body : List Byte) :
    exec (.rtcBerthFlush via flags seq body) s = .next (State.follow (s.rtcFrom via.val 0x03 flags.toNat seq.toNat body) s) := by
  show execRtcBerthFlush via flags seq body s = _
  exact acting_on hon

theorem on_rtcGapGrant {s : State} (hon : s.on = true) (via : Fin 3) (flags : Byte) (seq : BitVec 16) (body : List Byte) :
    exec (.rtcGapGrant via flags seq body) s = .next (State.follow (s.rtcFrom via.val 0x10 flags.toNat seq.toNat body) s) := by
  show execRtcGapGrant via flags seq body s = _
  exact acting_on hon

theorem on_rtcGapRevoke {s : State} (hon : s.on = true) (via : Fin 3) (flags : Byte) (seq : BitVec 16) (body : List Byte) :
    exec (.rtcGapRevoke via flags seq body) s = .next (State.follow (s.rtcFrom via.val 0x11 flags.toNat seq.toNat body) s) := by
  show execRtcGapRevoke via flags seq body s = _
  exact acting_on hon

theorem on_rtcNcoRetune {s : State} (hon : s.on = true) (via : Fin 3) (flags : Byte) (seq : BitVec 16) (body : List Byte) :
    exec (.rtcNcoRetune via flags seq body) s = .next (State.follow (s.rtcFrom via.val 0x20 flags.toNat seq.toNat body) s) := by
  show execRtcNcoRetune via flags seq body s = _
  exact acting_on hon

theorem on_rtcSynRetune {s : State} (hon : s.on = true) (via : Fin 3) (flags : Byte) (seq : BitVec 16) (body : List Byte) :
    exec (.rtcSynRetune via flags seq body) s = .next (State.follow (s.rtcFrom via.val 0x21 flags.toNat seq.toNat body) s) := by
  show execRtcSynRetune via flags seq body s = _
  exact acting_on hon

theorem on_rtcUnknown {s : State} (hon : s.on = true) (via : Fin 3) (cmd flags : Byte) (seq : BitVec 16) (body : List Byte) :
    exec (.rtcUnknown via cmd flags seq body) s = .next (State.follow (s.rtcFrom via.val cmd.toNat flags.toNat seq.toNat body) s) := by
  show execRtcUnknown via cmd flags seq body s = _
  exact acting_on hon

theorem on_gapBegin {s : State} (hon : s.on = true)  :
    exec (.gapBegin) s = .next (State.follow (s.gapBegin.xcalTry) s) := by
  show execGapBegin  s = _
  exact acting_on hon

theorem on_gapEnd {s : State} (hon : s.on = true)  :
    exec (.gapEnd) s = .next (State.follow (State.gapEnd s) s) := by
  show execGapEnd  s = _
  exact acting_on hon

theorem on_rmaRead {s : State} (hon : s.on = true) (via : Fin 3) (id : Byte) (elem : BitVec 16) (addr : BitVec 48) (len : BitVec 16) :
    exec (.rmaRead via id elem addr len) s = .next (State.follow (s.rma via.val 0 id.toNat elem.toNat addr.toNat len.toNat []) s) := by
  show execRmaRead via id elem addr len s = _
  exact acting_on hon

theorem on_rmaWrite {s : State} (hon : s.on = true) (via : Fin 3) (id : Byte) (elem : BitVec 16) (addr : BitVec 48) (data : List Byte) :
    exec (.rmaWrite via id elem addr data) s = .next (State.follow (s.rma via.val 1 id.toNat elem.toNat addr.toNat data.length data) s) := by
  show execRmaWrite via id elem addr data s = _
  exact acting_on hon

theorem on_rmaWriteNoResp {s : State} (hon : s.on = true) (via : Fin 3) (id : Byte) (elem : BitVec 16) (addr : BitVec 48) (data : List Byte) :
    exec (.rmaWriteNoResp via id elem addr data) s = .next (State.follow (s.rma via.val 2 id.toNat elem.toNat addr.toNat data.length data) s) := by
  show execRmaWriteNoResp via id elem addr data s = _
  exact acting_on hon

theorem on_rmaResponseRx {s : State} (hon : s.on = true) (b : Fin 2) (id : Byte) (ok : Bool) :
    exec (.rmaResponseRx b id ok) s = .next (State.follow (if s.linkUp b.val then s.remoteAnswer b.val id.toNat ok else s) s) := by
  show execRmaResponseRx b id ok s = _
  exact acting_on hon

theorem on_resetRequest {s : State} (hon : s.on = true) (b : Fin 2) (id : BitVec 16) (op p0 : Byte) :
    exec (.resetRequest b id op p0) s = .next (State.follow (s.resetRequest b.val id.toNat op.toNat p0.toNat) s) := by
  show execResetRequest b id op p0 s = _
  exact acting_on hon

theorem on_eventMsgSend {s : State} (hon : s.on = true)  :
    exec (.eventMsgSend) s = .next (State.follow (State.eventSend s) s) := by
  show execEventMsgSend  s = _
  exact acting_on hon

theorem on_fhmCtlWrite {s : State} (hon : s.on = true) (src : Source) (v : Word) :
    exec (.fhmCtlWrite src v) s = .next (State.follow (s.busWrite src F.FHM_CTL_EVT_EN.addr v) s) := by
  show execFhmCtlWrite src v s = _
  exact acting_on hon

theorem on_fhmCntClr {s : State} (hon : s.on = true) (src : Source) (v : Word) :
    exec (.fhmCntClr src v) s = .next (State.follow (s.busWrite src F.FHM_CNT_CLR_CLR.addr (fixBit v 0)) s) := by
  show execFhmCntClr src v s = _
  exact acting_on hon

end Sys2Proof.Machine
end

