-- ==== Sys2Proof/Laws/DoesMessage.lean ====
section
/-! SUPPORT. What the commands of the message layer do where they take effect. -/

namespace Sys2Proof.Machine

set_option linter.all false

variable {s : State}

/-- A whole frame that passes the checks of R265 goes to its handler. -/
theorem does_linkFrameRx (hon : s.on = true) (l : Fin 4) (f : List Byte) (idle : Bool) (fill other : Fin 16385) {m : Nat} {t : State}
    (h1 : s.linkUp l.val = true) (hm : (if l.val < 2 then 3 else 5) = m)
    (ht : s.meter m (s.ingressSlack l.val fill.val other.val) = t) (h2 : fill.val < 16384)
    (h3 : (t.port l.val).waitIdle = false ∨ idle = true) (h4 : frameCause l.val f ((t.port l.val).bad) = none) :
    exec (.linkFrameRx l f false idle fill other) s = .next (State.follow (s.linkAct (fun _ =>
      (t.setPort l.val { t.port l.val with waitIdle := false, bad := false }).frameTake l.val ((nth 0 f 1).toNat / 16)
        (nth 0 f 5).toNat ((f.drop 8).take (f.length - 12)))) s) := by
  rw [on_linkFrameRx hon]
  refine next_follow (linkAct_of ?_)
  unfold State.linkFrame
  simp only [h1, Bool.true_eq_false, if_false, hm, ht, Bool.false_or, h4]
  rw [if_neg (by omega), if_neg (by rcases h3 with h | h <;> simp [h])]

/-- A frame that fails a check is discarded and counted (R265). -/
theorem refuses_linkFrameRx (hon : s.on = true) (l : Fin 4) (f : List Byte) (bad idle : Bool) (fill other : Fin 16385) {m c : Nat} {t : State}
    (h1 : s.linkUp l.val = true) (hm : (if l.val < 2 then 3 else 5) = m)
    (ht : s.meter m (s.ingressSlack l.val fill.val other.val) = t) (h2 : fill.val < 16384)
    (h3 : (t.port l.val).waitIdle = false ∨ idle = true) (h4 : frameCause l.val f (bad || (t.port l.val).bad) = some c) :
    exec (.linkFrameRx l f bad idle fill other) s = .next (State.follow (s.linkAct (fun _ =>
      (t.setPort l.val { t.port l.val with waitIdle := false, bad := false }).frameError l.val c (c == 3 || c == 1))) s) := by
  rw [on_linkFrameRx hon]
  refine next_follow (linkAct_of ?_)
  unfold State.linkFrame
  simp only [h1, Bool.true_eq_false, if_false, hm, ht, h4]
  rw [if_neg (by omega), if_neg (by rcases h3 with h | h <;> simp [h])]

/-- A section that passes the checks of R273 enters the store; masked blocks are zeros, a settle or calibration span is
counted (R273, R274). -/
theorem does_txSectionRx (hon : s.on = true) (b : Fin 2) (payload : List Byte) {x : Section} {t u : State} {n : Int} {data : List Cx}
    (h1 : s.brickUp b.val = true) (hx : parseSection (fun n => (n + 7) / 8) payload = some x) (ht : s.seqCheck x.stream x.seq = t)
    (hn : t.layerNearest x.stamp = n) (h2 : t.txCheck x.stream n x.data.length = 0)
    (hd : (let clear := (blocksOf x.data).zipIdx.flatMap (fun (e : List Cx × Nat) =>
        if maskBit x.mask e.2 then e.1.map (fun _ => cx0) else e.1); if t.roundsTx then bfpRound 14 clear else clear) = data)
    (hu : (t.storePut x.stream (t.tx.startK + n.toNat * 2 ^ t.gStages) data).inc (F.FHM_TXCNT_COUNT 0) = u) :
    exec (.txSectionRx b payload) s = .next (State.follow (if u.windowIn (u.layerSpan n.toNat data.length).1 (u.layerSpan n.toNat
      data.length).2 then (u.inc (F.FHM_TXCNT_COUNT 7)).raiseMs 0x0C04 0 0 else u) s) := by
  rw [on_txSectionRx hon]
  unfold State.txSection
  subst hd
  simp only [h1, Bool.true_eq_false, if_false, hx, ht, hn, h2, ne_eq, not_true_eq_false, hu]

/-- A section that fails a check is counted by its outcome (R273). -/
theorem refuses_txSectionRx (hon : s.on = true) (b : Fin 2) (payload : List Byte) {x : Section} {t : State} {c : Nat}
    (h1 : s.brickUp b.val = true) (hx : parseSection (fun n => (n + 7) / 8) payload = some x) (ht : s.seqCheck x.stream x.seq = t)
    (hc : t.txCheck x.stream (t.layerNearest x.stamp) x.data.length = c) (h2 : c ≠ 0) :
    exec (.txSectionRx b payload) s = .next (State.follow (t.txOutcome c) s) := by
  rw [on_txSectionRx hon]
  unfold State.txSection
  simp only [h1, Bool.true_eq_false, if_false, hx, ht, hc, h2, ne_eq, not_false_eq_true, if_true]

/-- A complete section of a placed stream is formed and sent on its brick (R271, R272). -/
theorem does_rxSectionForm (hon : s.on = true) (m : Fin 32) (slack : BitVec 16) {b n seq on_ : Nat} {t u x : State}
    (ht : (if s.meterActive 4 then s.meter 4 slack.toNat else s) = t) (hb : (sparseFind t.msgs.rxBlk m.val).getD 0 = b)
    (h1 : t.rxRunning = true) (h2 : t.streamsOn.contains m.val = true) (h3 : t.sectionReady m.val b = true)
    (hn : 2 * t.msgs.nblk = n) (hs : (sparseFind t.msgs.rxSeq m.val).getD 0 = seq) (ho : (sparseFind t.msgs.rxOn m.val).getD 0 = on_)
    (hu : ({ t with
      msgs := { t.msgs with
        rxSeq := sparseInsert t.msgs.rxSeq m.val ((seq + 1) % 65536)
        rxBlk := sparseInsert t.msgs.rxBlk m.val (b + n)
        rxOn := sparseInsert t.msgs.rxOn m.val (t.placedOn m.val) }
      quay := { t.quay with layers := t.quay.layers.filter (fun e => !(e.1 == m.val && decide (e.2.1 < b + n))) } } : State) = u)
    (h4 : on_ ≠ 2) (h5 : t.brickUp on_ = true)
    (hx : (u.emit (.frame on_ 0 (t.sectionPayload m.val b seq))).inc (F.FHM_RXCNT_COUNT 0) = x) :
    exec (.rxSectionForm m slack) s = .next (State.follow (if t.tapAt 1 (8 * (b + n) - 1) + usU 8 < x.tide.now then
      (x.inc (F.FHM_RXCNT_COUNT 1)).raiseMs 0x0C05 0 0 else x) s) := by
  rw [on_rxSectionForm hon]
  simp only [ht]
  unfold State.sectionForm
  simp only [hb, h1, h2, h3, Bool.true_eq_false, or_self, if_false, hn, hs, ho, hu, h4, h5, hx]

/-- A write of RXSm_CFG: the ring load and the placement follow (R269, R287). -/
theorem does_rxsCfgWrite (hon : s.on = true) (src : Source) (m : Fin 32) (v : Word) {t : State} (ht : s.touch src = t)
    (ho : s.opens src (0xC0100 + 4 * m.val) v = true) :
    exec (.rxsCfgWrite src m v) s = .next (State.follow ((t.plain (0xC0100 + 4 * m.val) v.toNat).rxsWritten m.val) s) := by
  have h := m.isLt
  have y1 : F.FHM_CTL_EVT_EN.addr < 0xC0100 := by decide
  have y2 : F.FHM_CNT_CLR_CLR.addr < 0xC0100 := by decide
  rw [on_rxsCfgWrite hon]
  generalize he : 0xC0100 + 4 * m.val = a at ho ⊢
  rw [State.opens_Fhm ho (by omega) (by omega) (by simp only [evtAddr]; omega), ht]
  unfold State.writeFhm
  rw [if_neg (by omega), if_neg (by omega), if_pos (by omega), show (a - 0xC0100) / 4 = m.val by omega]

theorem rtc_done {b cmd flags seq : Nat} {body : List Byte} {len r : Nat} {act : State → Nat × State} {t : State}
    (hb : s.brickUp b = true) (hl : body.length = len) (hc : 3 ≤ s.cur) (ho : s.get (F.SEC_P_STAT_LEVEL (b + 1)) ≠ 0)
    (ha : act s = (r, t)) : s.rtc b cmd flags seq body len act =
      State.rtcAnswer (if r = 0 then t.rtcForward cmd flags body else t) b cmd flags seq r body := by
  unfold State.rtc
  simp only [hb, Bool.true_eq_false, if_false, hl, ne_eq, not_true_eq_false, show ¬s.cur < 3 by omega, ha, ho]

theorem rtc_ok {b cmd flags seq : Nat} {body : List Byte} {len : Nat} {act : State → Nat × State} {t : State}
    (hb : s.brickUp b = true) (hl : body.length = len) (hc : 3 ≤ s.cur) (ho : s.get (F.SEC_P_STAT_LEVEL (b + 1)) ≠ 0)
    (ha : act s = (0, t)) : s.rtc b cmd flags seq body len act = (t.rtcForward cmd flags body).rtcAnswer b cmd flags seq 0 body := by
  rw [rtc_done hb hl hc ho ha, if_pos rfl]

/-- An ADD over a brick: the checks of R231, the answer, and the head's forwarding (R275, R293). -/
theorem does_rtcBerthAdd (hon : s.on = true) (via : Fin 3) (flags : Byte) (seq : BitVec 16) (body : List Byte) {r : Nat} {t : State}
    (hb : s.brickUp via.val = true) (hv : via.val ≠ 2) (hl : body.length = 12) (hc : 3 ≤ s.cur)
    (ho : s.get (F.SEC_P_STAT_LEVEL (via.val + 1)) ≠ 0) (ha : s.schedAdd (rtcDir flags.toNat) (bodyStamp body) (beNat ((body.drop 8).take 2) % 512) = (r, t)) :
    exec (.rtcBerthAdd via flags seq body) s = .next (State.follow
      (State.rtcAnswer (if r = 0 then t.rtcForward 0x01 flags.toNat body else t) via.val 0x01 flags.toNat seq.toNat r body) s) := by
  rw [on_rtcBerthAdd hon]
  unfold State.rtcFrom
  simp only [hv, if_false]
  unfold State.rtcAdd
  refine next_follow (rtc_done hb hl hc ho ?_)
  simp only [ha]

/-- A CANCEL over a brick (R275). -/
theorem does_rtcBerthCancel (hon : s.on = true) (via : Fin 3) (flags : Byte) (seq : BitVec 16) (body : List Byte) {r : Nat} {t : State}
    (hb : s.brickUp via.val = true) (hv : via.val ≠ 2) (hl : body.length = 8) (hc : 3 ≤ s.cur)
    (ho : s.get (F.SEC_P_STAT_LEVEL (via.val + 1)) ≠ 0) (h3 : s.rtcTime (bodyStamp body) = 0) (h4 : s.inRun = true)
    (ha : s.schedCancel (rtcDir flags.toNat) (bodyStamp body) = (r, t)) :
    exec (.rtcBerthCancel via flags seq body) s = .next (State.follow
      (State.rtcAnswer (if r = 0 then t.rtcForward 0x02 flags.toNat body else t) via.val 0x02 flags.toNat seq.toNat r body) s) := by
  rw [on_rtcBerthCancel hon]
  unfold State.rtcFrom
  simp only [hv, if_false]
  unfold State.rtcCancel
  refine next_follow (rtc_done hb hl hc ho ?_)
  simp only [h3, h4, ne_eq, not_true_eq_false, if_false, Bool.true_eq_false, ha]

/-- A FLUSH over a brick (R275). -/
theorem does_rtcBerthFlush (hon : s.on = true) (via : Fin 3) (flags : Byte) (seq : BitVec 16) (body : List Byte) {r : Nat} {t : State}
    (hb : s.brickUp via.val = true) (hv : via.val ≠ 2) (hl : body.length = 0) (hc : 3 ≤ s.cur)
    (ho : s.get (F.SEC_P_STAT_LEVEL (via.val + 1)) ≠ 0) (h4 : s.inRun = true) (ha : ((0, s.schedFlush (rtcDir flags.toNat)) : Nat × State) = (r, t)) :
    exec (.rtcBerthFlush via flags seq body) s = .next (State.follow
      (State.rtcAnswer (if r = 0 then t.rtcForward 0x03 flags.toNat body else t) via.val 0x03 flags.toNat seq.toNat r body) s) := by
  rw [on_rtcBerthFlush hon]
  unfold State.rtcFrom
  simp only [hv, if_false]
  unfold State.rtcFlush
  refine next_follow (rtc_done hb hl hc ho ?_)
  simp only [h4, Bool.true_eq_false, if_false, ha]

/-- A gap is granted, or refused for its range, its neighbours or the room (R276). -/
theorem does_rtcGapGrant (hon : s.on = true) (via : Fin 3) (flags : Byte) (seq : BitVec 16) (body : List Byte) {r : Nat} {t : State}
    (hb : s.brickUp via.val = true) (hv : via.val ≠ 2) (hl : body.length = 16) (hc : 3 ≤ s.cur)
    (ho : s.get (F.SEC_P_STAT_LEVEL (via.val + 1)) ≠ 0) (h3 : s.rtcTime (bodyStamp body) = 0)
    (ha : s.gapGrant (bodyStamp body) (beNat ((body.drop 8).take 4) % 2 ^ 20) (nth 0 body 12).toNat = (r, t)) :
    exec (.rtcGapGrant via flags seq body) s = .next (State.follow
      (State.rtcAnswer (if r = 0 then t.rtcForward 0x10 flags.toNat body else t) via.val 0x10 flags.toNat seq.toNat r body) s) := by
  rw [on_rtcGapGrant hon]
  unfold State.rtcFrom
  simp only [hv, if_false]
  unfold State.rtcGrant
  refine next_follow (rtc_done hb hl hc ho ?_)
  simp only [h3, ne_eq, not_true_eq_false, if_false, ha]

/-- A gap that has not begun is revoked (R276). -/
theorem does_rtcGapRevoke (hon : s.on = true) (via : Fin 3) (flags : Byte) (seq : BitVec 16) (body : List Byte) {r : Nat} {t : State}
    (hb : s.brickUp via.val = true) (hv : via.val ≠ 2) (hl : body.length = 8) (hc : 3 ≤ s.cur)
    (ho : s.get (F.SEC_P_STAT_LEVEL (via.val + 1)) ≠ 0) (h3 : s.rtcTime (bodyStamp body) = 0) (ha : s.gapRevoke (bodyStamp body) = (r, t)) :
    exec (.rtcGapRevoke via flags seq body) s = .next (State.follow
      (State.rtcAnswer (if r = 0 then t.rtcForward 0x11 flags.toNat body else t) via.val 0x11 flags.toNat seq.toNat r body) s) := by
  rw [on_rtcGapRevoke hon]
  unfold State.rtcFrom
  simp only [hv, if_false]
  unfold State.rtcRevoke
  refine next_follow (rtc_done hb hl hc ho ?_)
  simp only [h3, ne_eq, not_true_eq_false, if_false, ha]

/-- A retune of an NCO whose domain is up and whose frequency is in range is written and armed (R275, R136). -/
theorem does_rtcNcoRetune (hon : s.on = true) (via : Fin 3) (flags : Byte) (seq : BitVec 16) (body : List Byte) {t : State} {w : Nat}
    {f : Int} {a : BitVec 64} (hb : s.brickUp via.val = true) (hv : via.val ≠ 2) (hl : body.length = 16) (hc : 3 ≤ s.cur)
    (ho : s.get (F.SEC_P_STAT_LEVEL (via.val + 1)) ≠ 0) (ha : bodyStamp body = a) (h3 : s.rtcTime a = 0)
    (hw : beNat ((body.drop 8).take 6) = w) (hf : toSigned 48 w = f) (hd : rtcDir flags.toNat = 1) (h4 : s.up domDSPRX = true)
    (ht : s.rxNcoGo f true a = (true, t)) :
    exec (.rtcNcoRetune via flags seq body) s = .next (State.follow (State.rtcAnswer (State.rtcForward
      (((t.put48 F.RXD_NCO_FREQ_LO_FREQ F.RXD_NCO_FREQ_HI_FREQ w).put64 F.RXD_NCO_AT_LO_STAMP F.RXD_NCO_AT_HI_STAMP a).putb
        F.RXD_NCO_CTL_ARM true) 0x20 flags.toNat body) via.val 0x20 flags.toNat seq.toNat 0 body) s) := by
  rw [on_rtcNcoRetune hon]
  unfold State.rtcFrom
  simp only [hv, if_false]
  unfold State.rtcNco
  refine next_follow (rtc_ok hb hl hc ho ?_)
  simp only [ha, h3, hw, hf, hd, h4, ht, ne_eq, not_true_eq_false, Bool.true_eq_false, if_false, if_true]

/-- The same for the transmit NCO (R155). -/
theorem does_rtcNcoRetune_tx (hon : s.on = true) (via : Fin 3) (flags : Byte) (seq : BitVec 16) (body : List Byte) {t : State} {w : Nat}
    {f : Int} {a : BitVec 64} (hb : s.brickUp via.val = true) (hv : via.val ≠ 2) (hl : body.length = 16) (hc : 3 ≤ s.cur)
    (ho : s.get (F.SEC_P_STAT_LEVEL (via.val + 1)) ≠ 0) (ha : bodyStamp body = a) (h3 : s.rtcTime a = 0)
    (hw : beNat ((body.drop 8).take 6) = w) (hf : toSigned 48 w = f) (hd : rtcDir flags.toNat ≠ 1) (h4 : s.up domDSPTX = true)
    (ht : s.txNcoGo f true a = (true, t)) :
    exec (.rtcNcoRetune via flags seq body) s = .next (State.follow (State.rtcAnswer (State.rtcForward
      (((t.put48 F.TXD_NCO_FREQ_LO_FREQ F.TXD_NCO_FREQ_HI_FREQ w).put64 F.TXD_NCO_AT_LO_STAMP F.TXD_NCO_AT_HI_STAMP a).putb
        F.TXD_NCO_CTL_ARM true) 0x20 flags.toNat body) via.val 0x20 flags.toNat seq.toNat 0 body) s) := by
  rw [on_rtcNcoRetune hon]
  unfold State.rtcFrom
  simp only [hv, if_false]
  unfold State.rtcNco
  refine next_follow (rtc_ok hb hl hc ho ?_)
  simp only [ha, h3, hw, hf, hd, h4, ht, ne_eq, not_true_eq_false, Bool.true_eq_false, if_false, if_true]

/-- A retune of a synthesiser that R76 takes is written and armed (R275). -/
theorem does_rtcSynRetune (hon : s.on = true) (via : Fin 3) (flags : Byte) (seq : BitVec 16) (body : List Byte) {t : State}
    {n nn dv : Nat} {a : BitVec 64} (hb : s.brickUp via.val = true) (hv : via.val ≠ 2) (hl : body.length = 12) (hc : 3 ≤ s.cur)
    (ho : s.get (F.SEC_P_STAT_LEVEL (via.val + 1)) ≠ 0) (ha : bodyStamp body = a) (h3 : s.rtcTime a = 0)
    (hn : (nth 0 body 8).toNat % 2 = n) (hnn : (nth 0 body 9).toNat % 64 = nn) (hdv : (nth 0 body 10).toNat % 2 = dv)
    (ht : s.synCommand n nn dv true a = (0, t)) :
    exec (.rtcSynRetune via flags seq body) s = .next (State.follow (State.rtcAnswer (State.rtcForward
      ((((t.put (F.CLK_SYN_CTL_N n) nn).put (F.CLK_SYN_CTL_DIV n) dv).putb (F.CLK_SYN_CTL_ARM n) true).put64
          (F.CLK_SYN_AT_LO_STAMP n) (F.CLK_SYN_AT_HI_STAMP n) a) 0x21 flags.toNat body) via.val 0x21 flags.toNat seq.toNat 0 body) s) := by
  rw [on_rtcSynRetune hon]
  unfold State.rtcFrom
  simp only [hv, if_false]
  unfold State.rtcSyn
  refine next_follow (rtc_ok hb hl hc ho ?_)
  simp only [ha, h3, hn, hnn, hdv, ht, ne_eq, not_true_eq_false, if_false]

/-- A command that came over the ring acts at the member without those checks (R293). -/
theorem does_rtcBerthAdd_member (hon : s.on = true) (flags : Byte) (seq : BitVec 16) (body : List Byte) (h : s.memberHears = true)
    (h2 : s.inRun = true) {t : State} {a : BitVec 64} (ha : bodyStamp body = a)
    (ht : s.setSchedQ (rtcDir flags.toNat) (placeSched ⟨a, beNat ((body.drop 8).take 2) % 512, none⟩ (s.schedQ (rtcDir flags.toNat))) = t) :
    exec (.rtcBerthAdd 2 flags seq body) s = .next (State.follow
      (if stampDiff a s.stamp < (usU 12 : Int) then t.stage (rtcDir flags.toNat) else t) s) := by
  rw [on_rtcBerthAdd hon]
  unfold State.rtcFrom
  rw [if_pos (show (2 : Fin 3).val = 2 from rfl)]
  unfold State.rtcMember
  simp only [h, Bool.true_eq_false, if_false, ha]
  unfold State.memberAdd
  simp only [h2, Bool.true_eq_false, if_false, ht]

/-- A code that the table does not list: UNKNOWN, or STATE in Doze and Dry dock (R275). -/
theorem does_rtcUnknown (hon : s.on = true) (via : Fin 3) (cmd flags : Byte) (seq : BitVec 16) (body : List Byte)
    (hb : s.brickUp via.val = true) (hv : via.val ≠ 2) (hc : ¬cmd.toNat ∈ [0x01, 0x02, 0x03, 0x10, 0x11, 0x20, 0x21]) :
    exec (.rtcUnknown via cmd flags seq body) s = .next (State.follow (s.rtcAnswer via.val cmd.toNat flags.toNat seq.toNat
      (if s.cur < 3 then rtcSTATE else rtcUNKNOWN) body) s) := by
  rw [on_rtcUnknown hon]
  unfold State.rtcFrom
  simp only [hv, if_false]
  have e : ∀ c : Nat, ¬c ∈ [0x01, 0x02, 0x03, 0x10, 0x11, 0x20, 0x21] → s.rtcFrom via.val c flags.toNat seq.toNat body
      = s.rtcUnknown via.val c flags.toNat seq.toNat body := by
    intro c hc
    unfold State.rtcFrom
    simp only [hv, if_false]
    split <;> first | rfl | (exfalso; revert hc; decide)
  have g := e cmd.toNat hc
  unfold State.rtcFrom at g
  simp only [hv, if_false] at g
  rw [g]
  unfold State.rtcUnknown
  rw [hb]; rfl

/-- The earliest gap begins, and the calibrations that wait for it start (R276, R128, R169, R237, R295). -/
theorem does_gapBegin (hon : s.on = true) {g : Gap} {t u : State} (h : s.msgs.gaps.find? (fun g => !g.begun) = some g)
    (ht : s.reach g.lo = t)
    (hu : t.setGaps (t.msgs.gaps.map (fun x => if x.lo = g.lo then { x with begun := true } else x)) = u) :
    exec .gapBegin s = .next (State.follow (((u.rxCalStart).txCalStart).bcalStart).xcalTry s) := by
  rw [on_gapBegin hon]
  unfold State.gapBegin
  simp only [h, ht, hu]

theorem does_gapEnd (hon : s.on = true) {g : Gap} {t : State} (h : s.msgs.gaps.find? (fun g => g.begun) = some g)
    (ht : s.reach g.hi = t) :
    exec .gapEnd s = .next (State.follow (t.setGaps (t.msgs.gaps.filter (fun x => x.lo != g.lo))) s) := by
  rw [on_gapEnd hon]
  unfold State.gapEnd
  simp only [h, ht]

/-- A read request for this device: the words are read and returned (R277). -/
theorem does_rmaRead (hon : s.on = true) (via : Fin 3) (id : Byte) (elem : BitVec 16) (addr : BitVec 48) (len : BitVec 16)
    {l : List Byte} {t : State} (h1 : s.rmaHears via.val = true) (h2 : elem.toNat = s.boot.chipId) (h3 : s.boot.chipId < 4)
    (h4 : rmaBad 0 addr.toNat len.toNat [] = false)
    (hr : s.rmaLoad (rmaSource via.val) addr.toNat (len.toNat / 4) = (l, t)) :
    exec (.rmaRead via id elem addr len) s = .next (State.follow
      (t.rmaAnswer via.val id.toNat 0 1 elem.toNat addr.toNat len.toNat l) s) := by
  rw [on_rmaRead hon]
  unfold State.rma
  simp only [h1, Bool.true_eq_false, if_false, h4, Bool.false_eq_true]
  rw [if_neg (by omega), if_neg (by omega)]
  simp only [hr]

/-- A write request for this device: the words are written and the answer returns (R277). -/
theorem does_rmaWrite (hon : s.on = true) (via : Fin 3) (id : Byte) (elem : BitVec 16) (addr : BitVec 48) (data : List Byte)
    (h1 : s.rmaHears via.val = true) (h2 : elem.toNat = s.boot.chipId) (h3 : s.boot.chipId < 4)
    (h4 : rmaBad 1 addr.toNat data.length data = false) :
    exec (.rmaWrite via id elem addr data) s = .next (State.follow
      ((s.rmaStore (rmaSource via.val) addr.toNat data).rmaAnswer via.val id.toNat 1 1 elem.toNat addr.toNat data.length []) s) := by
  rw [on_rmaWrite hon]
  unfold State.rma
  simp only [h1, Bool.true_eq_false, if_false, h4, Bool.false_eq_true]
  rw [if_neg (by omega), if_neg (by omega)]

/-- A malformed write is answered with a failure (R277). -/
theorem refuses_rmaWrite (hon : s.on = true) (via : Fin 3) (id : Byte) (elem : BitVec 16) (addr : BitVec 48) (data : List Byte)
    (h1 : s.rmaHears via.val = true) (h2 : elem.toNat = s.boot.chipId) (h3 : s.boot.chipId < 4)
    (h4 : rmaBad 1 addr.toNat data.length data = true) :
    exec (.rmaWrite via id elem addr data) s = .next (State.follow
      (s.rmaAnswer via.val id.toNat 1 2 elem.toNat addr.toNat data.length []) s) := by
  rw [on_rmaWrite hon]
  unfold State.rma
  simp only [h1, Bool.true_eq_false, if_false, h4, if_true, show ¬((1 : Nat) = 2) from by decide]
  rw [if_neg (by omega), if_neg (by omega)]

theorem does_rmaWriteNoResp (hon : s.on = true) (via : Fin 3) (id : Byte) (elem : BitVec 16) (addr : BitVec 48) (data : List Byte)
    (h1 : s.rmaHears via.val = true) (h2 : elem.toNat = s.boot.chipId) (h3 : s.boot.chipId < 4)
    (h4 : rmaBad 2 addr.toNat data.length data = false) :
    exec (.rmaWriteNoResp via id elem addr data) s = .next (State.follow
      (s.rmaStore (rmaSource via.val) addr.toNat data) s) := by
  rw [on_rmaWriteNoResp hon]
  unfold State.rma
  simp only [h1, Bool.true_eq_false, if_false, h4, Bool.false_eq_true]
  rw [if_neg (by omega), if_neg (by omega)]

/-- The answer to an awaited remote write; a failure fails its descriptor (R414). -/
theorem does_rmaResponseRx (hon : s.on = true) (b : Fin 2) (id : Byte) (ok : Bool) {n : Nat} {x : Chan} {e : Nat × Nat} {t : State}
    (h1 : s.linkUp b.val = true) (hn : id.toNat / 16 % 16 = n) (hx : s.chan n = x) (h2 : s.up domHOLD = true) (h3 : x.brick = b.val)
    (he : x.await.find? (fun e => e.1 % 16 == id.toNat % 16) = some e)
    (ht : s.setChan n { x with await := x.await.filter (fun f => f.1 != e.1) } = t) :
    exec (.rmaResponseRx b id ok) s = .next (State.follow ((if ok then t else t.remoteFail n e.1 6).craneSettle n) s) := by
  rw [on_rmaResponseRx hon, if_pos h1]
  unfold State.remoteAnswer
  subst ht
  simp only [hn, hx]
  rw [if_neg (by simp [h2, h3])]
  simp only [he]

/-- A reset request from a port with a session of level 2 or above is answered and the device resets (R278). -/
theorem does_resetRequest (hon : s.on = true) (b : Fin 2) (id : BitVec 16) (h1 : s.linkUp b.val = true)
    (h2 : 2 ≤ s.portLevel (b.val + 1)) :
    exec (.resetRequest b id 1 0) s = .next (State.follow (s.emit (.frame b.val 6 (beBytes 2 id.toNat ++ [2]))).resetSoon s) := by
  rw [on_resetRequest hon]
  unfold State.resetRequest
  rw [if_pos ⟨h1, rfl, rfl, h2⟩]

/-- Up to eight queued events leave in one message (R279). -/
theorem does_eventMsgSend (hon : s.on = true) {b seq : Nat} {l : List Notice} (h1 : s.msgs.notices ≠ []) (h2 : s.anyBrickUp = true)
    (h3 : s.flag F.FHM_CTL_EVT_EN = true) (hb : (if s.brickUp 0 then 0 else 1) = b) (hl : s.msgs.notices.take 8 = l)
    (hs : nth 0 s.msgs.seq7 b = seq) :
    exec .eventMsgSend s = .next (State.follow (State.eventsLost (State.emit { s with msgs := { s.msgs with
      notices := s.msgs.notices.drop 8
      eventId := (s.msgs.eventId + 1) % 256
      seq7 := setNth s.msgs.seq7 b ((seq + 1) % 256) } } (.frame b 7 (beBytes 1 s.msgs.eventId ++ [2] ++ beBytes 1 seq
        ++ beBytes 1 l.length ++ l.flatMap (noticeBytes s.boot.chipId))))) s) := by
  rw [on_eventMsgSend hon]
  unfold State.eventSend
  rw [if_neg (by simp [h1, h2, h3])]
  simp only [hb, hl, hs]

theorem does_fhmCtlWrite (hon : s.on = true) (src : Source) (v : Word) {t : State} (ht : s.touch src = t)
    (ho : s.opens src F.FHM_CTL_EVT_EN.addr v = true) :
    exec (.fhmCtlWrite src v) s = .next (State.follow (t.plain F.FHM_CTL_EVT_EN.addr v.toNat).evtEnWritten s) := by
  rw [on_fhmCtlWrite hon, State.opens_Fhm ho (by decide) (by decide) (by decide), ht]
  unfold State.writeFhm
  rw [if_pos (by decide)]

theorem does_fhmCntClr (hon : s.on = true) (src : Source) (v : Word) {t u : State} {w : Word} (ht : s.touch src = t)
    (hw : fixBit v 0 = w) (ho : s.opens src F.FHM_CNT_CLR_CLR.addr w = true)
    (hu : (t.each (List.range 8) (fun u c => u.put (F.FHM_TXCNT_COUNT c) 0)).each (List.range 4) (fun v c =>
      ((v.put (F.FHM_RXCNT_COUNT c) 0).put (F.FHM_B_ERR_COUNT 0 c) 0).put (F.FHM_B_ERR_COUNT 1 c) 0) = u) :
    exec (.fhmCntClr src v) s = .next (State.follow ((u.put F.FHM_TX_SEQGAP_COUNT 0).put F.FHM_EVT_LOST_COUNT 0) s) := by
  rw [on_fhmCntClr hon, hw, State.opens_Fhm ho (by decide) (by decide) (by decide), ht]
  unfold State.writeFhm
  rw [if_neg (by decide), if_pos (by decide), State.iff_of (by rw [← hw]; exact bitAt_fixBit v (by decide))]
  unfold State.fhmClear
  simp only [hu]

end Sys2Proof.Machine
end

