-- ==== Sys2Proof/Laws/ExecMonCmds.lean ====
section
/-! SUPPORT. What each command of Machine/MonCmds.lean may change. -/

namespace Sys2Proof.Machine

set_option linter.all false

theorem execMonPassStart_moves (b : Fin 4) (s : State) (t : State) (h : execMonPassStart b s = .next t) :
    Moves 0x80da022cd06a0e2 s t := by
  unfold execMonPassStart at h
  refine acting_moves (by decide) (fun _ => ?_) h
  repeat' first
    | with_reducible assumption
    | with_reducible exact Moves.refl _ _
    | decide
    | with_reducible apply Moves.step (State.passNext_moves ..)

theorem execMonGo_moves (src : Source) (b : Fin 4) (v : Word) (s : State) (t : State) (h : execMonGo src b v s = .next t) :
    Moves 0xc0d20228d86a0a2 s t := by
  unfold execMonGo at h
  refine acting_moves (by decide) (fun _ => ?_) h
  repeat' first
    | with_reducible assumption
    | with_reducible exact Moves.refl _ _
    | decide
    | with_reducible apply Moves.step (State.busWrite_Mon _ _ _ (by first | decide | (simp only [F.MON_CTL_GO]; omega) | (simp only [F.MON_CTL_GO]; split <;> decide) | (simp only [F.MON_CTL_GO]; (repeat' split) <;> omega)))

theorem execMonCtlWrite_moves (src : Source) (b : Fin 4) (v : Word) (s : State) (t : State) (h : execMonCtlWrite src b v s = .next t) :
    Moves 0xc0d20228d86a0a2 s t := by
  unfold execMonCtlWrite at h
  refine acting_moves (by decide) (fun _ => ?_) h
  repeat' first
    | with_reducible assumption
    | with_reducible exact Moves.refl _ _
    | decide
    | with_reducible apply Moves.step (State.busWrite_Mon _ _ _ (by first | decide | (simp only [F.MON_CTL_GO]; omega) | (simp only [F.MON_CTL_GO]; split <;> decide) | (simp only [F.MON_CTL_GO]; (repeat' split) <;> omega)))

theorem execMonSeqWrite_moves (src : Source) (b : Fin 4) (i : Fin 36) (v : Word) (s : State) (t : State) (h : execMonSeqWrite src b i v s = .next t) :
    Moves 0xc0d20228d86a0a2 s t := by
  unfold execMonSeqWrite at h
  refine acting_moves (by decide) (fun _ => ?_) h
  repeat' first
    | with_reducible assumption
    | with_reducible exact Moves.refl _ _
    | decide
    | with_reducible apply Moves.step (State.busWrite_Mon _ _ _ (by first | decide | (simp only [monEntry]; omega) | (simp only [monEntry]; split <;> decide) | (simp only [monEntry]; (repeat' split) <;> omega)))

theorem execMonResultWrite_moves (b : Fin 4) (raws : List (Int × Fin 3)) (s : State) (t : State) (h : execMonResultWrite b raws s = .next t) :
    Moves 0x81fa023cd0fa0e2 s t := by
  unfold execMonResultWrite at h
  refine acting_moves (by decide) (fun _ => ?_) h
  repeat' first
    | with_reducible assumption
    | with_reducible exact Moves.refl _ _
    | decide
    | with_reducible apply Moves.step (State.monResultWrite_moves ..)

theorem execMonInjGo_moves (src : Source) (b : Fin 4) (v : Word) (s : State) (t : State) (h : execMonInjGo src b v s = .next t) :
    Moves 0xc0d20228d86a0a2 s t := by
  unfold execMonInjGo at h
  refine acting_moves (by decide) (fun _ => ?_) h
  repeat' first
    | with_reducible assumption
    | with_reducible exact Moves.refl _ _
    | decide
    | with_reducible apply Moves.step (State.busWrite_Mon _ _ _ (by first | decide | (simp only [F.MON_INJ_CTL_GO]; omega) | (simp only [F.MON_INJ_CTL_GO]; split <;> decide) | (simp only [F.MON_INJ_CTL_GO]; (repeat' split) <;> omega)))

theorem execMonInjTrigger_moves (b : Fin 4) (s : State) (t : State) (h : execMonInjTrigger b s = .next t) :
    Moves 0x80da022cd06a0e2 s t := by
  unfold execMonInjTrigger at h
  refine acting_moves (by decide) (fun _ => ?_) h
  repeat' first
    | with_reducible assumption
    | with_reducible exact Moves.refl _ _
    | decide
    | with_reducible apply Moves.step (State.injFire_moves ..)

theorem execMonInjStart_moves (b : Fin 4) (s : State) (t : State) (h : execMonInjStart b s = .next t) :
    Moves 0x80da022cd06a0e2 s t := by
  unfold execMonInjStart at h
  refine acting_moves (by decide) (fun _ => ?_) h
  repeat' first
    | with_reducible assumption
    | with_reducible exact Moves.refl _ _
    | decide
    | with_reducible apply Moves.step (State.injStart_moves ..)

theorem execMonInjCtlWrite_moves (src : Source) (b : Fin 4) (i : Fin 3) (v : Word) (s : State) (t : State) (h : execMonInjCtlWrite src b i v s = .next t) :
    Moves 0xc0d20228d86a0a2 s t := by
  unfold execMonInjCtlWrite at h
  refine acting_moves (by decide) (fun _ => ?_) h
  repeat' first
    | with_reducible assumption
    | with_reducible exact Moves.refl _ _
    | decide
    | with_reducible apply Moves.step (State.busWrite_Mon _ _ _ (by first | decide | (simp only [F.MON_INJ_CTL_GO]; omega) | (simp only [F.MON_INJ_CTL_GO]; split <;> decide) | (simp only [F.MON_INJ_CTL_GO]; (repeat' split) <;> omega)))

theorem execMonCalGo_moves (src : Source) (b : Fin 4) (v : Word) (s : State) (t : State) (h : execMonCalGo src b v s = .next t) :
    Moves 0xc0d20228d86a0a2 s t := by
  unfold execMonCalGo at h
  refine acting_moves (by decide) (fun _ => ?_) h
  repeat' first
    | with_reducible assumption
    | with_reducible exact Moves.refl _ _
    | decide
    | with_reducible apply Moves.step (State.busWrite_Mon _ _ _ (by first | decide | (simp only [F.MON_CAL_CTL_GO]; omega) | (simp only [F.MON_CAL_CTL_GO]; split <;> decide) | (simp only [F.MON_CAL_CTL_GO]; (repeat' split) <;> omega)))

theorem execMonCalStart_moves (b : Fin 4) (s : State) (t : State) (h : execMonCalStart b s = .next t) :
    Moves 0x80da022cd06a0e2 s t := by
  unfold execMonCalStart at h
  refine acting_moves (by decide) (fun _ => ?_) h
  repeat' first
    | with_reducible assumption
    | with_reducible exact Moves.refl _ _
    | decide
    | with_reducible apply Moves.step (State.monCalStart_moves ..)

theorem execMonCalDone_moves (b : Fin 4) (ofs gain : BitVec 16) (s : State) (t : State) (h : execMonCalDone b ofs gain s = .next t) :
    Moves 0x80da022cd06a0e2 s t := by
  unfold execMonCalDone at h
  refine acting_moves (by decide) (fun _ => ?_) h
  repeat' first
    | with_reducible assumption
    | with_reducible exact Moves.refl _ _
    | decide
    | with_reducible apply Moves.step (State.monCalDone_moves ..)

theorem execMonitorResultRead_moves (src : Source) (b : Fin 4) (i : Fin 36) (s : State) (t : State) (h : execMonitorResultRead src b i s = .next t) :
    Moves 0xebf72a28f82a0a2 s t := by
  unfold execMonitorResultRead at h
  refine acting_moves (by decide) (fun _ => ?_) h
  repeat' first
    | with_reducible assumption
    | with_reducible exact Moves.refl _ _
    | decide
    | with_reducible apply Moves.step (State.busRead_moves ..)

theorem execMonCntClr_moves (src : Source) (v : Word) (s : State) (t : State) (h : execMonCntClr src v s = .next t) :
    Moves 0xc0d20228d86a0a2 s t := by
  unfold execMonCntClr at h
  refine acting_moves (by decide) (fun _ => ?_) h
  repeat' first
    | with_reducible assumption
    | with_reducible exact Moves.refl _ _
    | decide
    | with_reducible apply Moves.step (State.busWrite_Mon _ _ _ (by first | decide | (simp only [F.MON_CNT_CLR_CLR]; omega) | (simp only [F.MON_CNT_CLR_CLR]; split <;> decide) | (simp only [F.MON_CNT_CLR_CLR]; (repeat' split) <;> omega)))

end Sys2Proof.Machine
end

