-- ==== Sys2Proof/Laws/OnMonCmds.lean ====
section
/-! SUPPORT. What the commands of Machine/MonCmds.lean answer while the device acts. -/

namespace Sys2Proof.Machine

set_option linter.all false

theorem on_monPassStart {s : State} (hon : s.on = true) (b : Fin 4) :
    exec (.monPassStart b) s = .next (State.follow (s.passNext b.val) s) := by
  show execMonPassStart b s = _
  exact acting_on hon

theorem on_monGo {s : State} (hon : s.on = true) (src : Source) (b : Fin 4) (v : Word) :
    exec (.monGo src b v) s = .next (State.follow (s.busWrite src (F.MON_CTL_GO b.val).addr (fixBit v (F.MON_CTL_GO b.val).lo)) s) := by
  show execMonGo src b v s = _
  exact acting_on hon

theorem on_monCtlWrite {s : State} (hon : s.on = true) (src : Source) (b : Fin 4) (v : Word) :
    exec (.monCtlWrite src b v) s = .next (State.follow (s.busWrite src (F.MON_CTL_GO b.val).addr v) s) := by
  show execMonCtlWrite src b v s = _
  exact acting_on hon

theorem on_monSeqWrite {s : State} (hon : s.on = true) (src : Source) (b : Fin 4) (i : Fin 36) (v : Word) :
    exec (.monSeqWrite src b i v) s = .next (State.follow (s.busWrite src (monEntry b.val i.val) v) s) := by
  show execMonSeqWrite src b i v s = _
  exact acting_on hon

theorem on_monResultWrite {s : State} (hon : s.on = true) (b : Fin 4) (raws : List (Int × Fin 3)) :
    exec (.monResultWrite b raws) s = .next (State.follow (s.monResultWrite b.val (raws.map (fun e => (e.1, e.2.val)))) s) := by
  show execMonResultWrite b raws s = _
  exact acting_on hon

theorem on_monInjGo {s : State} (hon : s.on = true) (src : Source) (b : Fin 4) (v : Word) :
    exec (.monInjGo src b v) s = .next (State.follow (s.busWrite src (F.MON_INJ_CTL_GO b.val).addr (fixBit v 31)) s) := by
  show execMonInjGo src b v s = _
  exact acting_on hon

theorem on_monInjTrigger {s : State} (hon : s.on = true) (b : Fin 4) :
    exec (.monInjTrigger b) s = .next (State.follow (s.injFire b.val) s) := by
  show execMonInjTrigger b s = _
  exact acting_on hon

theorem on_monInjStart {s : State} (hon : s.on = true) (b : Fin 4) :
    exec (.monInjStart b) s = .next (State.follow (s.injStart b.val) s) := by
  show execMonInjStart b s = _
  exact acting_on hon

theorem on_monInjCtlWrite {s : State} (hon : s.on = true) (src : Source) (b : Fin 4) (i : Fin 3) (v : Word) :
    exec (.monInjCtlWrite src b i v) s = .next (State.follow (s.busWrite src ((F.MON_INJ_CTL_GO b.val).addr + 4 * i.val) v) s) := by
  show execMonInjCtlWrite src b i v s = _
  exact acting_on hon

theorem on_monCalGo {s : State} (hon : s.on = true) (src : Source) (b : Fin 4) (v : Word) :
    exec (.monCalGo src b v) s = .next (State.follow (s.busWrite src (F.MON_CAL_CTL_GO b.val).addr (fixBit v 0)) s) := by
  show execMonCalGo src b v s = _
  exact acting_on hon

theorem on_monCalStart {s : State} (hon : s.on = true) (b : Fin 4) :
    exec (.monCalStart b) s = .next (State.follow (s.monCalStart b.val) s) := by
  show execMonCalStart b s = _
  exact acting_on hon

theorem on_monCalDone {s : State} (hon : s.on = true) (b : Fin 4) (ofs gain : BitVec 16) :
    exec (.monCalDone b ofs gain) s = .next (State.follow (s.monCalDone b.val ofs.toInt gain.toNat) s) := by
  show execMonCalDone b ofs gain s = _
  exact acting_on hon

theorem on_monitorResultRead {s : State} (hon : s.on = true) (src : Source) (b : Fin 4) (i : Fin 36) :
    exec (.monitorResultRead src b i) s = .next (State.follow ((s.busRead src (monResult b.val i.val)).2) s) := by
  show execMonitorResultRead src b i s = _
  exact acting_on hon

theorem on_monCntClr {s : State} (hon : s.on = true) (src : Source) (v : Word) :
    exec (.monCntClr src v) s = .next (State.follow (s.busWrite src F.MON_CNT_CLR_CLR.addr (fixBit v 0)) s) := by
  show execMonCntClr src v s = _
  exact acting_on hon

end Sys2Proof.Machine
end

