-- ==== Sys2Proof/Laws/DoesMon.lean ====
section
/-! SUPPORT. What the commands of the monitor converters do where they take effect. -/

namespace Sys2Proof.Machine

set_option linter.all false

variable {s : State}

theorem mon_write {src : Source} (b : Fin 4) {o : Nat} {w : Word} (h4 : o % 4 = 0) (ho4 : o < 0x400)
    (ho : s.opens src (0x120000 + 0x400 * b.val + o) w = true) :
    s.busWrite src (0x120000 + 0x400 * b.val + o) w =
      if o = 0 then (s.touch src).monCtl b.val w.toNat
      else if o = 8 then (s.touch src).iff (bitAt w.toNat 0) (fun t => t.monCalGo b.val)
      else if o = 0x10 then (s.touch src).injCtl b.val w.toNat
      else if o = 0x14 ∨ o = 0x18 then ((s.touch src).plain (0x120000 + 0x400 * b.val + o) w.toNat).injArm b.val
      else if 0x100 ≤ o ∧ o < 0x190 then (s.touch src).monSeqWrite b.val ((o - 0x100) / 4) w.toNat
      else (s.touch src).plain (0x120000 + 0x400 * b.val + o) w.toNat := by
  have h := b.isLt
  rw [State.opens_Mon ho (by omega) (by omega) (by simp only [evtAddr]; omega)]
  unfold State.writeMon
  rw [if_neg (by dsimp only [F.MON_CNT_CLR_CLR]; omega), if_pos (by omega)]
  dsimp only
  rw [show (0x120000 + 0x400 * b.val + o) % 0x400 = o by omega,
      show (0x120000 + 0x400 * b.val + o - 0x120000) / 0x400 = b.val by omega]

/-- The next pass of a continuous bank starts at its period (R365). -/
theorem does_monPassStart (hon : s.on = true) (b : Fin 4) {t : State} (h1 : s.monMode b.val = 1)
    (h2 : (s.bank b.val).running = false) (h3 : (s.bank b.val).free = true)
    (ht : s.elapseTo ((s.bank b.val).passStart + usU (s.get (F.MON_CTL_PERIOD_US b.val))) = t) :
    exec (.monPassStart b) s = .next (State.follow (t.passStart b.val (t.passAt b.val)) s) := by
  rw [on_monPassStart hon]
  unfold State.passNext
  dsimp only
  rw [if_pos ⟨h1, h2, h3⟩, ht]

/-- A write of CTL while the bank is idle takes every field; then MODE acts (R365, R373). -/
theorem does_monCtlWrite (hon : s.on = true) (src : Source) (b : Fin 4) (v : Word) {t : State} (ht : s.touch src = t)
    (ho : s.opens src (0x120000 + 0x400 * b.val) v = true) :
    exec (.monCtlWrite src b v) s = .next (State.follow (t.monCtl b.val v.toNat) s) := by
  rw [on_monCtlWrite hon, show (F.MON_CTL_GO b.val).addr = 0x120000 + 0x400 * b.val + 0 by
    have := b.isLt; dsimp only [F.MON_CTL_GO]; omega, mon_write b rfl (by decide) (by simpa using ho), if_pos rfl, ht]

/-- GO of a bank in MODE 2 that is not running: one pass starts (R365). -/
theorem does_monGo (hon : s.on = true) (src : Source) (b : Fin 4) (v : Word) {t u : State} {w : Word} (ht : s.touch src = t)
    (hw : fixBit v 29 = w) (ho : s.opens src (0x120000 + 0x400 * b.val) w = true)
    (h1 : setBitsAt (setBitsAt (maskAnd w.toNat 0x101FFFFF) 29 1 0) 30 2 0
      = setBitsAt (setBitsAt (t.word (0x120000 + 0x400 * b.val)).toNat 29 1 0) 30 2 0)
    (h2 : bitsAt w.toNat 30 2 = 2) (hu : (t.put (F.MON_CTL_MODE b.val) 2).modeWritten b.val = u) (h3 : u.monMode b.val = 2)
    (h4 : (u.bank b.val).running = false) :
    exec (.monGo src b v) s = .next (State.follow (u.passStart b.val (u.passAt b.val)) s) := by
  rw [on_monGo hon, show (F.MON_CTL_GO b.val).addr = 0x120000 + 0x400 * b.val + 0 by
    have := b.isLt; dsimp only [F.MON_CTL_GO]; omega, show fixBit v (F.MON_CTL_GO b.val).lo = w from hw,
    mon_write b rfl (by decide) (by simpa using ho), if_pos rfl, ht]
  unfold State.monCtl
  simp only [h1, h2, if_true]
  rw [show (if (2 : Nat) = 3 then 0 else 2) = 2 from rfl, hu, if_pos (by rw [← hw, bitAt_fixBit v (by decide)])]
  unfold State.monGo
  rw [if_pos ⟨h3, h4⟩]

/-- An entry of an idle bank: the word stands and its result is cleared (R361, R373). -/
theorem does_monSeqWrite (hon : s.on = true) (src : Source) (b : Fin 4) (i : Fin 36) (v : Word) {t : State} {x : Word}
    (ht : s.touch src = t) (ho : s.opens src (monEntry b.val i.val) v = true) (h1 : t.monIdle b.val = true)
    (hx : BitVec.ofNat 32 (maskAnd v.toNat 0xF03F) = x)
    (h2 : ¬(entDiff x = true ∧ [50, 52, 54].contains (entInput x) = false)) :
    exec (.monSeqWrite src b i v) s = .next (State.follow
      ((t.setWord (monEntry b.val i.val) x).setWord (monResult b.val i.val) 0) s) := by
  have hi := i.isLt
  have hb := b.isLt
  have e : monEntry b.val i.val = 0x120000 + 0x400 * b.val + (0x100 + 4 * i.val) := by unfold monEntry; omega
  rw [on_monSeqWrite hon, e, mon_write b (by omega) (by omega) (e ▸ ho), if_neg (by omega), if_neg (by omega), if_neg (by omega),
    if_neg (by omega), if_pos (by omega), show (0x100 + 4 * i.val - 0x100) / 4 = i.val by omega, ht]
  unfold State.monSeqWrite
  dsimp only
  rw [hx, if_neg (by rintro (h | h); · rw [h1] at h; cases h
                     · exact h2 h), e]

/-- While the bank converts the write is rejected (R373). -/
theorem refuses_monSeqWrite (hon : s.on = true) (src : Source) (b : Fin 4) (i : Fin 36) (v : Word) {t : State}
    (ht : s.touch src = t) (ho : s.opens src (monEntry b.val i.val) v = true) (h1 : t.monIdle b.val = false) :
    exec (.monSeqWrite src b i v) s = .next (State.follow (t.raiseMs 0x1204 b.val 0) s) := by
  have hi := i.isLt
  have hb := b.isLt
  have e : monEntry b.val i.val = 0x120000 + 0x400 * b.val + (0x100 + 4 * i.val) := by unfold monEntry; omega
  rw [on_monSeqWrite hon, e, mon_write b (by omega) (by omega) (e ▸ ho), if_neg (by omega), if_neg (by omega), if_neg (by omega),
    if_neg (by omega), if_pos (by omega), show (0x100 + 4 * i.val - 0x100) / 4 = i.val by omega, ht]
  unfold State.monSeqWrite
  dsimp only
  rw [if_pos (.inl h1)]; rfl

/-- The regular entry in progress ends (R362, R365). -/
theorem does_monResultWrite (hon : s.on = true) (b : Fin 4) (raws : List (Int × Fin 3)) (h1 : (s.bank b.val).calEnd = none)
    (h2 : (s.bank b.val).inj ≠ 2) (h3 : (s.bank b.val).running = true) :
    exec (.monResultWrite b raws) s = .next (State.follow (s.entryDone b.val (raws.map (fun e => (e.1, e.2.val)))) s) := by
  rw [on_monResultWrite hon]
  unfold State.monResultWrite
  dsimp only
  rw [if_neg (by simp [h1]), if_neg h2, if_pos h3]

/-- An entry of the injected group ends (R367). -/
theorem does_monResultWrite_inj (hon : s.on = true) (b : Fin 4) (raws : List (Int × Fin 3)) (h1 : (s.bank b.val).calEnd = none)
    (h2 : (s.bank b.val).inj = 2) :
    exec (.monResultWrite b raws) s = .next (State.follow (s.injDone b.val (raws.map (fun e => (e.1, e.2.val)))) s) := by
  rw [on_monResultWrite hon]
  unfold State.monResultWrite
  dsimp only
  rw [if_neg (by simp [h1]), if_pos h2]

/-- INJ_CTL.GO with no group pending or running, TRIG unchanged: the group becomes pending (R366). -/
theorem does_monInjGo (hon : s.on = true) (src : Source) (b : Fin 4) (v : Word) {t u : State} {w : Word} {trig : Nat}
    (ht : s.touch src = t) (hw : fixBit v 31 = w) (ho : s.opens src (0x120000 + 0x400 * b.val + 0x10) w = true)
    (hT : (if bitsAt w.toNat 29 2 = 3 then 0 else bitsAt w.toNat 29 2) = trig) (h1 : trig = t.get (F.MON_INJ_CTL_TRIG b.val))
    (hu : (t.put (F.MON_INJ_CTL_TRIG b.val) trig).put (F.MON_INJ_CTL_LEN b.val) (w.toNat % 4) = u) (h2 : (u.bank b.val).inj = 0) :
    exec (.monInjGo src b v) s = .next (State.follow (u.setBank b.val { u.bank b.val with inj := 1 }) s) := by
  rw [on_monInjGo hon, show (F.MON_INJ_CTL_GO b.val).addr = 0x120000 + 0x400 * b.val + 0x10 by
    have := b.isLt; dsimp only [F.MON_INJ_CTL_GO]; omega, hw, mon_write b rfl (by decide) ho, if_neg (by decide),
        if_neg (by decide),
    if_pos rfl, ht]
  unfold State.injCtl
  simp only [hT, hu]
  rw [if_pos h1, if_pos (by rw [← hw, bitAt_fixBit v (by decide)])]
  unfold State.injTrigger
  dsimp only
  rw [if_pos h2]

/-- A trigger while a group is pending or runs is dropped and counted. -/
theorem drops_monInjGo (hon : s.on = true) (src : Source) (b : Fin 4) (v : Word) {t u : State} {w : Word} {trig : Nat}
    (ht : s.touch src = t) (hw : fixBit v 31 = w) (ho : s.opens src (0x120000 + 0x400 * b.val + 0x10) w = true)
    (hT : (if bitsAt w.toNat 29 2 = 3 then 0 else bitsAt w.toNat 29 2) = trig) (h1 : trig = t.get (F.MON_INJ_CTL_TRIG b.val))
    (hu : (t.put (F.MON_INJ_CTL_TRIG b.val) trig).put (F.MON_INJ_CTL_LEN b.val) (w.toNat % 4) = u) (h2 : (u.bank b.val).inj ≠ 0) :
    exec (.monInjGo src b v) s = .next (State.follow ((u.inc (F.MON_INJ_DROP_COUNT b.val)).raiseMs 0x1203 b.val b.val) s) := by
  rw [on_monInjGo hon, show (F.MON_INJ_CTL_GO b.val).addr = 0x120000 + 0x400 * b.val + 0x10 by
    have := b.isLt; dsimp only [F.MON_INJ_CTL_GO]; omega, hw, mon_write b rfl (by decide) ho, if_neg (by decide),
        if_neg (by decide),
    if_pos rfl, ht]
  unfold State.injCtl
  simp only [hT, hu]
  rw [if_pos h1, if_pos (by rw [← hw, bitAt_fixBit v (by decide)])]
  unfold State.injTrigger
  dsimp only
  rw [if_neg h2]

theorem does_monInjTrigger (hon : s.on = true) (b : Fin 4) {a : Stamp} {t : State} (h : (s.bank b.val).armed = some a)
    (ht : s.reach a = t) :
    exec (.monInjTrigger b) s = .next (State.follow (State.injTrigger (t.setBank b.val { t.bank b.val with
      armed := if t.get (F.MON_INJ_CTL_TRIG b.val) = 2 then some (stampAdd a (t.injPeriod b.val)) else none }) b.val) s) := by
  rw [on_monInjTrigger hon]
  unfold State.injFire
  rw [h]
  dsimp only
  rw [ht]

/-- The pending group starts at the next conversion boundary (R367). -/
theorem does_monInjStart (hon : s.on = true) (b : Fin 4) {x : MonBank} {d e : Nat} {t : State} (hx : s.bank b.val = x)
    (h1 : x.inj = 1) (h2 : x.calEnd = none) (hb : s.boundaryAt b.val = (d, e)) (ht : s.elapseTo e = t) :
    exec (.monInjStart b) s = .next (State.follow (t.setBank b.val { t.bank b.val with
      inj := 2, injIdx := 0, injFrom := maxOf e [t.aon], left := x.left - d
      from_ := if x.left - d = 0 then x.from_ + convT d - convT 0 else x.from_ }) s) := by
  rw [on_monInjStart hon]
  unfold State.injStart
  simp only [hx, hb, ht]
  rw [if_neg (by simp [h1, h2])]

/-- A write of INJ_CTL without GO, TRIG unchanged. -/
theorem does_monInjCtlWrite (hon : s.on = true) (src : Source) (b : Fin 4) (v : Word) {t : State} {trig : Nat}
    (ht : s.touch src = t) (ho : s.opens src (0x120000 + 0x400 * b.val + 0x10) v = true) (h0 : bitAt v.toNat 31 = false)
    (hT : (if bitsAt v.toNat 29 2 = 3 then 0 else bitsAt v.toNat 29 2) = trig) :
    exec (.monInjCtlWrite src b 0 v) s = .next (State.follow (
      let u := (t.put (F.MON_INJ_CTL_TRIG b.val) trig).put (F.MON_INJ_CTL_LEN b.val) (v.toNat % 4)
      if trig = t.get (F.MON_INJ_CTL_TRIG b.val) then u else u.injArm b.val) s) := by
  rw [on_monInjCtlWrite hon, show (F.MON_INJ_CTL_GO b.val).addr + 4 * (0 : Fin 3).val = 0x120000 + 0x400 * b.val + 0x10 by
    have := b.isLt; dsimp only [F.MON_INJ_CTL_GO]; omega, mon_write b rfl (by decide) ho, if_neg (by decide), if_neg (by decide),
    if_pos rfl, ht]
  unfold State.injCtl
  simp only [hT, h0, Bool.false_eq_true, if_false]

/-- A write of a half of INJ_AT re-arms the trigger. -/
theorem does_monInjCtlWrite_at (hon : s.on = true) (src : Source) (b : Fin 4) (i : Fin 3) (v : Word) {t : State} (hi : i.val ≠ 0)
    (ht : s.touch src = t) (ho : s.opens src (0x120000 + 0x400 * b.val + (0x10 + 4 * i.val)) v = true) :
    exec (.monInjCtlWrite src b i v) s = .next (State.follow
      ((t.plain (0x120000 + 0x400 * b.val + (0x10 + 4 * i.val)) v.toNat).injArm b.val) s) := by
  have h := i.isLt
  rw [on_monInjCtlWrite hon, show (F.MON_INJ_CTL_GO b.val).addr + 4 * i.val = 0x120000 + 0x400 * b.val + (0x10 + 4 * i.val) by
    have := b.isLt; dsimp only [F.MON_INJ_CTL_GO]; omega, mon_write b (by omega) (by omega) ho, if_neg (by omega),
        if_neg (by omega),
    if_neg (by omega), if_pos (by omega), ht]

theorem does_monCalGo (hon : s.on = true) (src : Source) (b : Fin 4) (v : Word) {t : State} (ht : s.touch src = t)
    (ho : s.opens src (0x120000 + 0x400 * b.val + 8) (fixBit v 0) = true) (h1 : (t.bank b.val).calEnd = none)
    (h2 : t.flag (F.MON_STAT_CAL_PEND b.val) = false) :
    exec (.monCalGo src b v) s = .next (State.follow (t.putb (F.MON_STAT_CAL_PEND b.val) true) s) := by
  rw [on_monCalGo hon, show (F.MON_CAL_CTL_GO b.val).addr = 0x120000 + 0x400 * b.val + 8 by
    have := b.isLt; dsimp only [F.MON_CAL_CTL_GO]; omega, mon_write b rfl (by decide) ho, if_neg (by decide), if_pos rfl, ht,
    State.iff_of (bitAt_fixBit v (by decide))]
  unfold State.monCalGo
  rw [if_neg (by simp [h1, h2])]

/-- The latched calibration starts at the next boundary and takes its time (R372). -/
theorem does_monCalStart (hon : s.on = true) (b : Fin 4) {d e : Nat} {t : State} (h1 : s.flag (F.MON_STAT_CAL_PEND b.val) = true)
    (h2 : (s.bank b.val).inj = 0) (h3 : (s.bank b.val).calEnd = none) (hb : s.boundaryAt b.val = (d, e))
    (ht : (s.elapseTo e).putb (F.MON_STAT_CAL_PEND b.val) false = t) :
    exec (.monCalStart b) s = .next (State.follow (t.setBank b.val { t.bank b.val with calEnd := some (t.aon + usU 80) }) s) := by
  rw [on_monCalStart hon]
  unfold State.monCalStart
  simp only [hb, ht]
  rw [if_neg (by simp [h1, h2, h3])]
  rfl

/-- The calibration ends; a correction in range is applied, another only reported (R371). -/
theorem does_monCalDone (hon : s.on = true) (b : Fin 4) (ofs gain : BitVec 16) {e : Nat} {t u v : State}
    (h : (s.bank b.val).calEnd = some e) (ht : s.elapseTo e = t) (hu : t.setBank b.val { t.bank b.val with calEnd := none } = u)
    (hv : (if decide (-1024 ≤ ofs.toInt ∧ ofs.toInt ≤ 1024) && decide (31130 ≤ gain.toNat ∧ gain.toNat ≤ 34406) then
        ((u.puti (F.MON_CAL_RES_OFS b.val) ofs.toInt).put (F.MON_CAL_RES_GAIN b.val) gain.toNat).raise 0x1201 b.val
      else u.raise 0x1202 b.val) = v) :
    exec (.monCalDone b ofs gain) s = .next (State.follow
      (if (v.bank b.val).running then v.entryStart b.val (maxOf v.aon [e]) else v) s) := by
  rw [on_monCalDone hon]
  unfold State.monCalDone
  rw [h]
  dsimp only
  rw [ht, hu, hv]

theorem does_monitorResultRead (hon : s.on = true) (src : Source) (b : Fin 4) (i : Fin 36) {x : Nat} {t : State}
    (hr : s.busRead src (monResult b.val i.val) = (x, t)) :
    exec (.monitorResultRead src b i) s = .next (State.follow t s) := by
  rw [on_monitorResultRead hon, hr]

theorem does_monCntClr (hon : s.on = true) (src : Source) (v : Word) {t : State} (ht : s.touch src = t)
    (ho : s.opens src F.MON_CNT_CLR_CLR.addr (fixBit v 0) = true) :
    exec (.monCntClr src v) s = .next (State.follow (t.each (List.range 4) (fun t b =>
      (t.put (F.MON_INJ_DROP_COUNT b) 0).put (F.MON_OVR_CNT_COUNT b) 0)) s) := by
  rw [on_monCntClr hon, State.opens_Mon ho (by decide) (by decide) (by decide), ht]
  unfold State.writeMon
  rw [if_pos (by decide), State.iff_of (bitAt_fixBit v (by decide))]
  unfold State.monClear; rfl

end Sys2Proof.Machine
end

