-- ==== Sys2Proof/Laws/MovesPilotCmds.lean ====
section
/-! SUPPORT. What each operation of Machine/PilotCmds.lean may change. -/

namespace Sys2Proof.Machine

set_option linter.all false

theorem State.mailSend_moves (s : State) (src : Source) (p opc tag : Nat) (args : List Word) : Moves 0xfffffffdffffffb s (State.mailSend s src p opc tag args) := by
  unfold State.mailSend
  repeat' first
    | with_reducible assumption
    | with_reducible exact Moves.refl _ _
    | decide
    | intro _
    | with_reducible apply Moves.step (State.busWrite_moves ..)
    | with_reducible apply Moves.foldl
    | with_reducible apply Moves.foldlFst
    | with_reducible apply Moves.foldlSnd

end Sys2Proof.Machine
end

