-- ==== Sys2Proof/Laws/ExecPilotCmds.lean ====
section
/-! SUPPORT. What each command of Machine/PilotCmds.lean may change. -/

namespace Sys2Proof.Machine

set_option linter.all false

theorem execPilotPolicyAction_moves (row : Fin 14) (unit : Byte) (again : Bool) (s : State) (t : State) (h : execPilotPolicyAction row unit again s = .next t) :
    Moves 0x905edeadd4aedea s t := by
  unfold execPilotPolicyAction at h
  refine acting_moves (by decide) (fun _ => ?_) h
  repeat' first
    | with_reducible assumption
    | with_reducible exact Moves.refl _ _
    | decide
    | with_reducible apply Moves.step (State.pilotAct_moves ..)

theorem execTunerSteerTick_moves (p : Fin 64) (m : Fin 32) (code : Byte) (up : Bool) (s : State) (t : State) (h : execTunerSteerTick p m code up s = .next t) :
    Moves 0x80720228d43a0a2 s t := by
  unfold execTunerSteerTick at h
  refine acting_moves (by decide) (fun _ => ?_) h
  repeat' first
    | with_reducible assumption
    | with_reducible exact Moves.refl _ _
    | decide
    | with_reducible apply Moves.step (State.steer_moves ..)

theorem execSessionGo_moves (src : Source) (p : Fin 4) (v : Word) (s : State) (t : State) (h : execSessionGo src p v s = .next t) :
    Moves 0xfffffff9ffffffb s t := by
  unfold execSessionGo at h
  refine acting_moves (by decide) (fun _ => ?_) h
  repeat' first
    | with_reducible assumption
    | with_reducible exact Moves.refl _ _
    | decide
    | with_reducible apply Moves.step (State.busWrite_Sec _ _ _ (by first | decide | (simp only [F.SEC_P_REQ_GO]; omega) | (simp only [F.SEC_P_REQ_GO]; split <;> decide) | (simp only [F.SEC_P_REQ_GO]; (repeat' split) <;> omega)))

theorem execSessionVerify_moves (src : Source) (p : Fin 4) (v : Word) (s : State) (t : State) (h : execSessionVerify src p v s = .next t) :
    Moves 0xfffffff9ffffffb s t := by
  unfold execSessionVerify at h
  refine acting_moves (by decide) (fun _ => ?_) h
  repeat' first
    | with_reducible assumption
    | with_reducible exact Moves.refl _ _
    | decide
    | with_reducible apply Moves.step (State.busWrite_Sec _ _ _ (by first | decide | (simp only [F.SEC_P_REQ_GO]; omega) | (simp only [F.SEC_P_REQ_GO]; split <;> decide) | (simp only [F.SEC_P_REQ_GO]; (repeat' split) <;> omega)))

theorem execSessionClose_moves (src : Source) (p : Fin 4) (v : Word) (s : State) (t : State) (h : execSessionClose src p v s = .next t) :
    Moves 0xfffffff9ffffffb s t := by
  unfold execSessionClose at h
  refine acting_moves (by decide) (fun _ => ?_) h
  repeat' first
    | with_reducible assumption
    | with_reducible exact Moves.refl _ _
    | decide
    | with_reducible apply Moves.step (State.busWrite_Sec _ _ _ (by first | decide | (simp only [F.SEC_P_REQ_GO]; omega) | (simp only [F.SEC_P_REQ_GO]; split <;> decide) | (simp only [F.SEC_P_REQ_GO]; (repeat' split) <;> omega)))

theorem execSessionReqMulti_moves (src : Source) (p : Fin 4) (k : Fin 4) (v : Word) (s : State) (t : State) (h : execSessionReqMulti src p k v s = .next t) :
    Moves 0xfffffff9ffffffb s t := by
  unfold execSessionReqMulti at h
  refine acting_moves (by decide) (fun _ => ?_) h
  repeat' first
    | with_reducible assumption
    | with_reducible exact Moves.refl _ _
    | decide
    | with_reducible apply Moves.step (State.busWrite_Sec _ _ _ (by first | decide | (simp only [F.SEC_P_REQ_GO]; omega) | (simp only [F.SEC_P_REQ_GO]; split <;> decide) | (simp only [F.SEC_P_REQ_GO]; (repeat' split) <;> omega)))

theorem execSessionTimeout_moves (p : Fin 4) (s : State) (t : State) (h : execSessionTimeout p s = .next t) :
    Moves 0xffffffedffffffb s t := by
  unfold execSessionTimeout at h
  refine acting_moves (by decide) (fun _ => ?_) h
  repeat' first
    | with_reducible assumption
    | with_reducible exact Moves.refl _ _
    | decide
    | with_reducible apply Moves.step (State.sesTimeout_moves ..)

theorem execLockExpiry_moves (p : Fin 4) (s : State) (t : State) (h : execLockExpiry p s = .next t) :
    Moves 0xc05a022cd82a0e2 s t := by
  unfold execLockExpiry at h
  refine acting_moves (by decide) (fun _ => ?_) h
  repeat' first
    | with_reducible assumption
    | with_reducible exact Moves.refl _ _
    | decide
    | with_reducible apply Moves.step (State.lockExpire_moves ..)

theorem execLockClr_moves (src : Source) (v : Word) (s : State) (t : State) (h : execLockClr src v s = .next t) :
    Moves 0xfffffff9ffffffb s t := by
  unfold execLockClr at h
  refine acting_moves (by decide) (fun _ => ?_) h
  repeat' first
    | with_reducible assumption
    | with_reducible exact Moves.refl _ _
    | decide
    | with_reducible apply Moves.step (State.busWrite_Sec _ _ _ (by first | decide | (simp only [F.SEC_LOCK_CLR_PORTS]; omega) | (simp only [F.SEC_LOCK_CLR_PORTS]; split <;> decide) | (simp only [F.SEC_LOCK_CLR_PORTS]; (repeat' split) <;> omega)))

theorem execZeroise_moves (src : Source) (v : Word) (s : State) (t : State) (h : execZeroise src v s = .next t) :
    Moves 0xfffffff9ffffffb s t := by
  unfold execZeroise at h
  refine acting_moves (by decide) (fun _ => ?_) h
  repeat' first
    | with_reducible assumption
    | with_reducible exact Moves.refl _ _
    | decide
    | with_reducible apply Moves.step (State.busWrite_Sec _ _ _ (by first | decide | (simp only [F.SEC_CTL_ZEROISE]; omega) | (simp only [F.SEC_CTL_ZEROISE]; split <;> decide) | (simp only [F.SEC_CTL_ZEROISE]; (repeat' split) <;> omega)))

theorem execFuseProgram_moves (src : Source) (v : Word) (s : State) (t : State) (h : execFuseProgram src v s = .next t) :
    Moves 0xfffffff9ffffffb s t := by
  unfold execFuseProgram at h
  refine acting_moves (by decide) (fun _ => ?_) h
  repeat' first
    | with_reducible assumption
    | with_reducible exact Moves.refl _ _
    | decide
    | with_reducible apply Moves.step (State.busWrite_Sec _ _ _ (by first | decide | (simp only [F.SEC_FUSE_CMD_GO]; omega) | (simp only [F.SEC_FUSE_CMD_GO]; split <;> decide) | (simp only [F.SEC_FUSE_CMD_GO]; (repeat' split) <;> omega)))

theorem execFuseProg_moves (ok : Bool) (s : State) (t : State) (h : execFuseProg ok s = .next t) :
    Moves 0xc05a023cd82a0e6 s t := by
  unfold execFuseProg at h
  refine acting_moves (by decide) (fun _ => ?_) h
  repeat' first
    | with_reducible assumption
    | with_reducible exact Moves.refl _ _
    | decide
    | with_reducible apply Moves.step (State.fuseDone_moves ..)

theorem execPilotReady_moves (s : State) (t : State) (h : execPilotReady s = .next t) :
    Moves 0xa0520228d42a0a2 s t := by
  unfold execPilotReady at h
  refine acting_moves (by decide) (fun _ => ?_) h
  repeat' first
    | with_reducible assumption
    | with_reducible exact Moves.refl _ _
    | decide
    | with_reducible apply Moves.step (State.pilotReady_moves ..)

theorem execPilotWatchdogExpiry_moves (s : State) (t : State) (h : execPilotWatchdogExpiry s = .next t) :
    Moves 0xffffffe8d42a0a2 s t := by
  unfold execPilotWatchdogExpiry at h
  refine acting_moves (by decide) (fun _ => ?_) h
  repeat' first
    | with_reducible assumption
    | with_reducible exact Moves.refl _ _
    | decide
    | with_reducible apply Moves.step (State.pilotWatchdog_moves ..)

theorem execMbxVersion_moves (src : Source) (p : Fin 4) (tag : Byte) (args : List Word) (s : State) (t : State) (h : execMbxVersion src p tag args s = .next t) :
    Moves 0xfffffffdffffffb s t := by
  unfold execMbxVersion at h
  refine acting_moves (by decide) (fun _ => ?_) h
  repeat' first
    | with_reducible assumption
    | with_reducible exact Moves.refl _ _
    | decide
    | with_reducible apply Moves.step (State.mailSend_moves ..)

theorem execMbxHealth_moves (src : Source) (p : Fin 4) (tag : Byte) (args : List Word) (s : State) (t : State) (h : execMbxHealth src p tag args s = .next t) :
    Moves 0xfffffffdffffffb s t := by
  unfold execMbxHealth at h
  refine acting_moves (by decide) (fun _ => ?_) h
  repeat' first
    | with_reducible assumption
    | with_reducible exact Moves.refl _ _
    | decide
    | with_reducible apply Moves.step (State.mailSend_moves ..)

theorem execMbxTelemSet_moves (src : Source) (p : Fin 4) (tag : Byte) (args : List Word) (s : State) (t : State) (h : execMbxTelemSet src p tag args s = .next t) :
    Moves 0xfffffffdffffffb s t := by
  unfold execMbxTelemSet at h
  refine acting_moves (by decide) (fun _ => ?_) h
  repeat' first
    | with_reducible assumption
    | with_reducible exact Moves.refl _ _
    | decide
    | with_reducible apply Moves.step (State.mailSend_moves ..)

theorem execMbxLogFind_moves (src : Source) (p : Fin 4) (tag : Byte) (args : List Word) (s : State) (t : State) (h : execMbxLogFind src p tag args s = .next t) :
    Moves 0xfffffffdffffffb s t := by
  unfold execMbxLogFind at h
  refine acting_moves (by decide) (fun _ => ?_) h
  repeat' first
    | with_reducible assumption
    | with_reducible exact Moves.refl _ _
    | decide
    | with_reducible apply Moves.step (State.mailSend_moves ..)

theorem execMbxTune_moves (src : Source) (p : Fin 4) (tag : Byte) (args : List Word) (s : State) (t : State) (h : execMbxTune src p tag args s = .next t) :
    Moves 0xfffffffdffffffb s t := by
  unfold execMbxTune at h
  refine acting_moves (by decide) (fun _ => ?_) h
  repeat' first
    | with_reducible assumption
    | with_reducible exact Moves.refl _ _
    | decide
    | with_reducible apply Moves.step (State.mailSend_moves ..)

theorem execMbxCalPolicy_moves (src : Source) (p : Fin 4) (tag : Byte) (args : List Word) (s : State) (t : State) (h : execMbxCalPolicy src p tag args s = .next t) :
    Moves 0xfffffffdffffffb s t := by
  unfold execMbxCalPolicy at h
  refine acting_moves (by decide) (fun _ => ?_) h
  repeat' first
    | with_reducible assumption
    | with_reducible exact Moves.refl _ _
    | decide
    | with_reducible apply Moves.step (State.mailSend_moves ..)

theorem execMbxPolicy_moves (src : Source) (p : Fin 4) (tag : Byte) (args : List Word) (s : State) (t : State) (h : execMbxPolicy src p tag args s = .next t) :
    Moves 0xfffffffdffffffb s t := by
  unfold execMbxPolicy at h
  refine acting_moves (by decide) (fun _ => ?_) h
  repeat' first
    | with_reducible assumption
    | with_reducible exact Moves.refl _ _
    | decide
    | with_reducible apply Moves.step (State.mailSend_moves ..)

theorem execMbxRetire_moves (src : Source) (p : Fin 4) (tag : Byte) (args : List Word) (s : State) (t : State) (h : execMbxRetire src p tag args s = .next t) :
    Moves 0xfffffffdffffffb s t := by
  unfold execMbxRetire at h
  refine acting_moves (by decide) (fun _ => ?_) h
  repeat' first
    | with_reducible assumption
    | with_reducible exact Moves.refl _ _
    | decide
    | with_reducible apply Moves.step (State.mailSend_moves ..)

theorem execMbxRestore_moves (src : Source) (p : Fin 4) (tag : Byte) (args : List Word) (s : State) (t : State) (h : execMbxRestore src p tag args s = .next t) :
    Moves 0xfffffffdffffffb s t := by
  unfold execMbxRestore at h
  refine acting_moves (by decide) (fun _ => ?_) h
  repeat' first
    | with_reducible assumption
    | with_reducible exact Moves.refl _ _
    | decide
    | with_reducible apply Moves.step (State.mailSend_moves ..)

theorem execMbxResolve_moves (src : Source) (p : Fin 4) (tag : Byte) (args : List Word) (s : State) (t : State) (h : execMbxResolve src p tag args s = .next t) :
    Moves 0xfffffffdffffffb s t := by
  unfold execMbxResolve at h
  refine acting_moves (by decide) (fun _ => ?_) h
  repeat' first
    | with_reducible assumption
    | with_reducible exact Moves.refl _ _
    | decide
    | with_reducible apply Moves.step (State.mailSend_moves ..)

theorem execMbxSlipway_moves (src : Source) (p : Fin 4) (tag : Byte) (args : List Word) (s : State) (t : State) (h : execMbxSlipway src p tag args s = .next t) :
    Moves 0xfffffffdffffffb s t := by
  unfold execMbxSlipway at h
  refine acting_moves (by decide) (fun _ => ?_) h
  repeat' first
    | with_reducible assumption
    | with_reducible exact Moves.refl _ _
    | decide
    | with_reducible apply Moves.step (State.mailSend_moves ..)

theorem execMbxPilotReset_moves (src : Source) (p : Fin 4) (tag : Byte) (args : List Word) (s : State) (t : State) (h : execMbxPilotReset src p tag args s = .next t) :
    Moves 0xfffffffdffffffb s t := by
  unfold execMbxPilotReset at h
  refine acting_moves (by decide) (fun _ => ?_) h
  repeat' first
    | with_reducible assumption
    | with_reducible exact Moves.refl _ _
    | decide
    | with_reducible apply Moves.step (State.mailSend_moves ..)

theorem execMbxUnknown_moves (src : Source) (p : Fin 4) (opc tag : Byte) (args : List Word) (s : State) (t : State) (h : execMbxUnknown src p opc tag args s = .next t) :
    Moves 0xfffffffdffffffb s t := by
  unfold execMbxUnknown at h
  refine acting_moves (by decide) (fun _ => ?_) h
  repeat' first
    | with_reducible assumption
    | with_reducible exact Moves.refl _ _
    | decide
    | with_reducible apply Moves.step (State.mailSend_moves ..)

theorem execMbxResponseComplete_moves (p : Fin 4) (fail : Option (BitVec 14 × Fin 8)) (s : State) (t : State) (h : execMbxResponseComplete p fail s = .next t) :
    Moves 0xffffffffd4aedfa s t := by
  unfold execMbxResponseComplete at h
  refine acting_moves (by decide) (fun _ => ?_) h
  repeat' first
    | with_reducible assumption
    | with_reducible exact Moves.refl _ _
    | decide
    | with_reducible apply Moves.step (State.mailDone_moves ..)

theorem execTelemSnapshot_moves (s : State) (t : State) (h : execTelemSnapshot s = .next t) :
    Moves 0xa05a022cd52a0e2 s t := by
  unfold execTelemSnapshot at h
  refine acting_moves (by decide) (fun _ => ?_) h
  repeat' first
    | with_reducible assumption
    | with_reducible exact Moves.refl _ _
    | decide
    | with_reducible apply Moves.step (State.telemetry_moves ..)

theorem execDbgReqOff_moves (src : Source) (v : Word) (s : State) (t : State) (h : execDbgReqOff src v s = .next t) :
    Moves 0xfffffff9ffffffb s t := by
  unfold execDbgReqOff at h
  refine acting_moves (by decide) (fun _ => ?_) h
  repeat' first
    | with_reducible assumption
    | with_reducible exact Moves.refl _ _
    | decide
    | with_reducible apply Moves.step (State.busWrite_Sec _ _ _ (by first | decide | (simp only [F.SEC_DBG_REQ]; omega) | (simp only [F.SEC_DBG_REQ]; split <;> decide) | (simp only [F.SEC_DBG_REQ]; (repeat' split) <;> omega)))

theorem execDbgReqObserve_moves (src : Source) (v : Word) (s : State) (t : State) (h : execDbgReqObserve src v s = .next t) :
    Moves 0xfffffff9ffffffb s t := by
  unfold execDbgReqObserve at h
  refine acting_moves (by decide) (fun _ => ?_) h
  repeat' first
    | with_reducible assumption
    | with_reducible exact Moves.refl _ _
    | decide
    | with_reducible apply Moves.step (State.busWrite_Sec _ _ _ (by first | decide | (simp only [F.SEC_DBG_REQ]; omega) | (simp only [F.SEC_DBG_REQ]; split <;> decide) | (simp only [F.SEC_DBG_REQ]; (repeat' split) <;> omega)))

theorem execDbgReqIntrusive_moves (src : Source) (v : Word) (s : State) (t : State) (h : execDbgReqIntrusive src v s = .next t) :
    Moves 0xfffffff9ffffffb s t := by
  unfold execDbgReqIntrusive at h
  refine acting_moves (by decide) (fun _ => ?_) h
  repeat' first
    | with_reducible assumption
    | with_reducible exact Moves.refl _ _
    | decide
    | with_reducible apply Moves.step (State.busWrite_Sec _ _ _ (by first | decide | (simp only [F.SEC_DBG_REQ]; omega) | (simp only [F.SEC_DBG_REQ]; split <;> decide) | (simp only [F.SEC_DBG_REQ]; (repeat' split) <;> omega)))

theorem execDbgIntrusiveEnter_moves (s : State) (t : State) (h : execDbgIntrusiveEnter s = .next t) :
    Moves 0xffffffe9ffffffb s t := by
  unfold execDbgIntrusiveEnter at h
  refine acting_moves (by decide) (fun _ => ?_) h
  repeat' first
    | with_reducible assumption
    | with_reducible exact Moves.refl _ _
    | decide
    | with_reducible apply Moves.step (State.dbgEnter_moves ..)

end Sys2Proof.Machine
end

