-- ==== Sys2Proof/Laws/OnPilotCmds.lean ====
section
/-! SUPPORT. What the commands of Machine/PilotCmds.lean answer while the device acts. -/

namespace Sys2Proof.Machine

set_option linter.all false

theorem on_pilotPolicyAction {s : State} (hon : s.on = true) (row : Fin 14) (unit : Byte) (again : Bool) :
    exec (.pilotPolicyAction row unit again) s = .next (State.follow (s.pilotAct row.val unit.toNat again) s) := by
  show execPilotPolicyAction row unit again s = _
  exact acting_on hon

theorem on_tunerSteerTick {s : State} (hon : s.on = true) (p : Fin 64) (m : Fin 32) (code : Byte) (up : Bool) :
    exec (.tunerSteerTick p m code up) s = .next (State.follow (s.steer p.val m.val code.toNat up) s) := by
  show execTunerSteerTick p m code up s = _
  exact acting_on hon

theorem on_sessionGo {s : State} (hon : s.on = true) (src : Source) (p : Fin 4) (v : Word) :
    exec (.sessionGo src p v) s = .next (State.follow (s.busWrite src (F.SEC_P_REQ_GO p.val).addr (sesWord v 4)) s) := by
  show execSessionGo src p v s = _
  exact acting_on hon

theorem on_sessionVerify {s : State} (hon : s.on = true) (src : Source) (p : Fin 4) (v : Word) :
    exec (.sessionVerify src p v) s = .next (State.follow (s.busWrite src (F.SEC_P_REQ_GO p.val).addr (sesWord v 2)) s) := by
  show execSessionVerify src p v s = _
  exact acting_on hon

theorem on_sessionClose {s : State} (hon : s.on = true) (src : Source) (p : Fin 4) (v : Word) :
    exec (.sessionClose src p v) s = .next (State.follow (s.busWrite src (F.SEC_P_REQ_GO p.val).addr (sesWord v 1)) s) := by
  show execSessionClose src p v s = _
  exact acting_on hon

theorem on_sessionReqMulti {s : State} (hon : s.on = true) (src : Source) (p : Fin 4) (k : Fin 4) (v : Word) :
    exec (.sessionReqMulti src p k v) s = .next (State.follow (s.busWrite src (F.SEC_P_REQ_GO p.val).addr (sesWord v (multiBits k))) s) := by
  show execSessionReqMulti src p k v s = _
  exact acting_on hon

theorem on_sessionTimeout {s : State} (hon : s.on = true) (p : Fin 4) :
    exec (.sessionTimeout p) s = .next (State.follow (s.sesTimeout p.val) s) := by
  show execSessionTimeout p s = _
  exact acting_on hon

theorem on_lockExpiry {s : State} (hon : s.on = true) (p : Fin 4) :
    exec (.lockExpiry p) s = .next (State.follow (s.lockExpire p.val) s) := by
  show execLockExpiry p s = _
  exact acting_on hon

theorem on_lockClr {s : State} (hon : s.on = true) (src : Source) (v : Word) :
    exec (.lockClr src v) s = .next (State.follow (s.busWrite src F.SEC_LOCK_CLR_PORTS.addr v) s) := by
  show execLockClr src v s = _
  exact acting_on hon

theorem on_zeroise {s : State} (hon : s.on = true) (src : Source) (v : Word) :
    exec (.zeroise src v) s = .next (State.follow (s.busWrite src F.SEC_CTL_ZEROISE.addr (fixBit v 31)) s) := by
  show execZeroise src v s = _
  exact acting_on hon

theorem on_fuseProgram {s : State} (hon : s.on = true) (src : Source) (v : Word) :
    exec (.fuseProgram src v) s = .next (State.follow (s.busWrite src F.SEC_FUSE_CMD_GO.addr (fixBit v 31)) s) := by
  show execFuseProgram src v s = _
  exact acting_on hon

theorem on_fuseProg {s : State} (hon : s.on = true) (ok : Bool) :
    exec (.fuseProg ok) s = .next (State.follow (s.fuseDone ok) s) := by
  show execFuseProg ok s = _
  exact acting_on hon

theorem on_pilotReady {s : State} (hon : s.on = true)  :
    exec (.pilotReady) s = .next (State.follow (s.pilotReady) s) := by
  show execPilotReady  s = _
  exact acting_on hon

theorem on_pilotWatchdogExpiry {s : State} (hon : s.on = true)  :
    exec (.pilotWatchdogExpiry) s = .next (State.follow (s.pilotWatchdog) s) := by
  show execPilotWatchdogExpiry  s = _
  exact acting_on hon

theorem on_mbxVersion {s : State} (hon : s.on = true) (src : Source) (p : Fin 4) (tag : Byte) (args : List Word) :
    exec (.mbxVersion src p tag args) s = .next (State.follow (s.mailSend src p.val 0x01 tag.toNat args) s) := by
  show execMbxVersion src p tag args s = _
  exact acting_on hon

theorem on_mbxHealth {s : State} (hon : s.on = true) (src : Source) (p : Fin 4) (tag : Byte) (args : List Word) :
    exec (.mbxHealth src p tag args) s = .next (State.follow (s.mailSend src p.val 0x02 tag.toNat args) s) := by
  show execMbxHealth src p tag args s = _
  exact acting_on hon

theorem on_mbxTelemSet {s : State} (hon : s.on = true) (src : Source) (p : Fin 4) (tag : Byte) (args : List Word) :
    exec (.mbxTelemSet src p tag args) s = .next (State.follow (s.mailSend src p.val 0x03 tag.toNat args) s) := by
  show execMbxTelemSet src p tag args s = _
  exact acting_on hon

theorem on_mbxLogFind {s : State} (hon : s.on = true) (src : Source) (p : Fin 4) (tag : Byte) (args : List Word) :
    exec (.mbxLogFind src p tag args) s = .next (State.follow (s.mailSend src p.val 0x04 tag.toNat args) s) := by
  show execMbxLogFind src p tag args s = _
  exact acting_on hon

theorem on_mbxTune {s : State} (hon : s.on = true) (src : Source) (p : Fin 4) (tag : Byte) (args : List Word) :
    exec (.mbxTune src p tag args) s = .next (State.follow (s.mailSend src p.val 0x10 tag.toNat args) s) := by
  show execMbxTune src p tag args s = _
  exact acting_on hon

theorem on_mbxCalPolicy {s : State} (hon : s.on = true) (src : Source) (p : Fin 4) (tag : Byte) (args : List Word) :
    exec (.mbxCalPolicy src p tag args) s = .next (State.follow (s.mailSend src p.val 0x11 tag.toNat args) s) := by
  show execMbxCalPolicy src p tag args s = _
  exact acting_on hon

theorem on_mbxPolicy {s : State} (hon : s.on = true) (src : Source) (p : Fin 4) (tag : Byte) (args : List Word) :
    exec (.mbxPolicy src p tag args) s = .next (State.follow (s.mailSend src p.val 0x20 tag.toNat args) s) := by
  show execMbxPolicy src p tag args s = _
  exact acting_on hon

theorem on_mbxRetire {s : State} (hon : s.on = true) (src : Source) (p : Fin 4) (tag : Byte) (args : List Word) :
    exec (.mbxRetire src p tag args) s = .next (State.follow (s.mailSend src p.val 0x21 tag.toNat args) s) := by
  show execMbxRetire src p tag args s = _
  exact acting_on hon

theorem on_mbxRestore {s : State} (hon : s.on = true) (src : Source) (p : Fin 4) (tag : Byte) (args : List Word) :
    exec (.mbxRestore src p tag args) s = .next (State.follow (s.mailSend src p.val 0x22 tag.toNat args) s) := by
  show execMbxRestore src p tag args s = _
  exact acting_on hon

theorem on_mbxResolve {s : State} (hon : s.on = true) (src : Source) (p : Fin 4) (tag : Byte) (args : List Word) :
    exec (.mbxResolve src p tag args) s = .next (State.follow (s.mailSend src p.val 0x23 tag.toNat args) s) := by
  show execMbxResolve src p tag args s = _
  exact acting_on hon

theorem on_mbxSlipway {s : State} (hon : s.on = true) (src : Source) (p : Fin 4) (tag : Byte) (args : List Word) :
    exec (.mbxSlipway src p tag args) s = .next (State.follow (s.mailSend src p.val 0x30 tag.toNat args) s) := by
  show execMbxSlipway src p tag args s = _
  exact acting_on hon

theorem on_mbxPilotReset {s : State} (hon : s.on = true) (src : Source) (p : Fin 4) (tag : Byte) (args : List Word) :
    exec (.mbxPilotReset src p tag args) s = .next (State.follow (s.mailSend src p.val 0x3F tag.toNat args) s) := by
  show execMbxPilotReset src p tag args s = _
  exact acting_on hon

theorem on_mbxUnknown {s : State} (hon : s.on = true) (src : Source) (p : Fin 4) (opc tag : Byte) (args : List Word) :
    exec (.mbxUnknown src p opc tag args) s = .next (State.follow (s.mailSend src p.val opc.toNat tag.toNat args) s) := by
  show execMbxUnknown src p opc tag args s = _
  exact acting_on hon

theorem on_mbxResponseComplete {s : State} (hon : s.on = true) (p : Fin 4) (fail : Option (BitVec 14 × Fin 8)) :
    exec (.mbxResponseComplete p fail) s = .next (State.follow (s.mailDone p.val (fail.map (fun e => (e.1.toNat, e.2.val)))) s) := by
  show execMbxResponseComplete p fail s = _
  exact acting_on hon

theorem on_telemSnapshot {s : State} (hon : s.on = true)  :
    exec (.telemSnapshot) s = .next (State.follow (s.telemetry) s) := by
  show execTelemSnapshot  s = _
  exact acting_on hon

theorem on_dbgReqOff {s : State} (hon : s.on = true) (src : Source) (v : Word) :
    exec (.dbgReqOff src v) s = .next (State.follow (s.busWrite src F.SEC_DBG_REQ.addr (fix v 0 2 0)) s) := by
  show execDbgReqOff src v s = _
  exact acting_on hon

theorem on_dbgReqObserve {s : State} (hon : s.on = true) (src : Source) (v : Word) :
    exec (.dbgReqObserve src v) s = .next (State.follow (s.busWrite src F.SEC_DBG_REQ.addr (fix v 0 2 1)) s) := by
  show execDbgReqObserve src v s = _
  exact acting_on hon

theorem on_dbgReqIntrusive {s : State} (hon : s.on = true) (src : Source) (v : Word) :
    exec (.dbgReqIntrusive src v) s = .next (State.follow (s.busWrite src F.SEC_DBG_REQ.addr (fix v 0 2 2)) s) := by
  show execDbgReqIntrusive src v s = _
  exact acting_on hon

theorem on_dbgIntrusiveEnter {s : State} (hon : s.on = true)  :
    exec (.dbgIntrusiveEnter) s = .next (State.follow (s.dbgEnter) s) := by
  show execDbgIntrusiveEnter  s = _
  exact acting_on hon

end Sys2Proof.Machine
end

