-- ==== Sys2Proof/Laws/DoesPilot.lean ====
section
/-! SUPPORT. What the commands of Pilot, the mailboxes, sessions, locks, fuses and debug do where they take effect. -/

namespace Sys2Proof.Machine

set_option linter.all false

variable {s : State}

/-- Pilot runs and the row is enabled: it acts as the row says (R439). -/
theorem does_pilotPolicyAction (hon : s.on = true) (row : Fin 14) (unit : Byte) (again : Bool) (h1 : s.pilotServes = true)
    (h2 : 11 ≤ row.val ∨ bitAt s.rsv.policy row.val = true) :
    exec (.pilotPolicyAction row unit again) s = .next (State.follow (s.policy row.val unit.toNat again) s) := by
  rw [on_pilotPolicyAction hon]
  unfold State.pilotAct
  rw [if_pos (by rcases h2 with h | h <;> simp [h1, h])]

/-- Row 0: a degraded receive path is retired, with its advisory (R439). -/
theorem does_pilotPolicyAction_degraded (hon : s.on = true) (unit : Byte) (again : Bool) {p : Nat} (h1 : s.pilotServes = true)
    (h2 : bitAt s.rsv.policy 0 = true) (hp : unitPath unit.toNat = p) (h3 : s.flag (F.RXA_P_STAT_DEGRADED p) = true) :
    exec (.pilotPolicyAction 0 unit again) s = .next (State.follow (s.pilotRetire p 0x0407) s) := by
  rw [on_pilotPolicyAction hon]
  unfold State.pilotAct
  rw [if_pos (by simp [h1, h2])]
  unfold State.policy
  simp only [hp, h3, if_true, show (0 : Fin 14).val = 0 from rfl]

/-- A row that the policy does not enable does nothing (R439). -/
theorem bars_pilotPolicyAction (hon : s.on = true) (row : Fin 14) (unit : Byte) (again : Bool) (h1 : row.val < 11)
    (h2 : bitAt s.rsv.policy row.val = false) :
    exec (.pilotPolicyAction row unit again) s = .next (State.follow s s) := by
  rw [on_pilotPolicyAction hon]
  unfold State.pilotAct
  rw [if_neg (by simp [h2, show ¬11 ≤ row.val by omega])]

/-- A trial of one code (tuner steering). -/
theorem does_tunerSteerTick (hon : s.on = true) (p : Fin 64) (m : Fin 32) (code : Byte) {t : State} (h1 : s.pilotServes = true)
    (h2 : s.hasPath p.val = true) (h3 : bitAt s.rsv.unsteered p.val = false) (h4 : sparseFind s.rsv.tries p.val = none)
    (h5 : s.flag (F.FEND_TUNE_EN m.val) = true) (h6 : s.get (F.FEND_TUNE_MASTER m.val) = p.val / 8) (h7 : code.toNat < 255)
    (ht : s.tuneWrite m.val (code.toNat + 1) = t) (h8 : s.trswLow (p.val / 8) ≠ none)
    (h9 : t.get (F.FEND_RF_STAT_RESULT (p.val / 8)) = rfOK) :
    exec (.tunerSteerTick p m code true) s = .next (State.follow { t with rsv := { t.rsv with
      tries := sparseInsert t.rsv.tries p.val ⟨m.val, code.toNat, code.toNat + 1, s.returnLoss p.val⟩ } } s) := by
  rw [on_tunerSteerTick hon]
  unfold State.steer
  rw [if_neg (by simp [h1, h2, h3])]
  simp only [h4, if_true]
  rw [if_pos (by simp [h5, h6, h7]), ht, if_neg (by simp [h8, h9])]

/-- A trial is judged: kept where the return loss has improved by 0.5 dB, else taken back. -/
theorem judges_tunerSteerTick (hon : s.on = true) (p : Fin 64) (m : Fin 32) (code : Byte) (up : Bool) {x : TuneTry} {t : State}
    (h1 : s.pilotServes = true) (h2 : s.hasPath p.val = true) (h3 : bitAt s.rsv.unsteered p.val = false)
    (h4 : sparseFind s.rsv.tries p.val = some x)
    (ht : ({ s with rsv := { s.rsv with tries := sparseErase s.rsv.tries p.val } } : State) = t) :
    exec (.tunerSteerTick p m code up) s = .next (State.follow (if x.loss + 50 ≤ s.returnLoss p.val then
      { t with rsv := { t.rsv with kept := t.rsv.kept + 1 } } else t.tuneWrite x.entry x.old) s) := by
  rw [on_tunerSteerTick hon]
  unfold State.steer
  rw [if_neg (by simp [h1, h2, h3])]
  subst ht
  simp only [h4]

theorem bitAt_bitsAt (x : Nat) {lo width j : Nat} (h : j < width) : bitAt (bitsAt x lo width) j = bitAt x (lo + j) := by
  unfold bitAt bitsAt
  have e : 2 ^ width = 2 ^ j * 2 ^ (width - j) := by rw [← Nat.pow_add]; congr 1; omega
  have d : 2 ∣ 2 ^ (width - j) := ⟨2 ^ (width - j - 1), by rw [← Nat.pow_succ']; congr 1; omega⟩
  rw [e, Nat.mod_mul_right_div_self, Nat.mod_mod_of_dvd _ d, Nat.div_div_eq_div_mul, ← Nat.pow_add]

theorem ses_write {src : Source} {p : Fin 4} {t : State} {w : Word} (ht : s.touch src = t)
    (ho : s.opens src (F.SEC_P_REQ_GO p.val).addr w = true) :
    s.busWrite src (F.SEC_P_REQ_GO p.val).addr w = t.sesReq p.val w.toNat := by
  have h := p.isLt
  have e : (F.SEC_P_REQ_GO p.val).addr = 0x190100 + 0x80 * p.val := by simp only [F.SEC_P_REQ_GO]; omega
  have y1 : F.SEC_CTL_ZEROISE.addr < 0x190040 := by decide
  have y2 : F.SEC_LOCK_CLR_PORTS.addr < 0x190040 := by decide
  have y3 : F.SEC_DBG_REQ.addr < 0x190040 := by decide
  have y4 : F.SEC_FUSE_CMD_GO.addr < 0x190048 := by decide
  generalize (F.SEC_P_REQ_GO p.val).addr = a at e ho ⊢
  rw [State.opens_Sec ho (by omega) (by omega) (by simp only [evtAddr]; omega), ht]
  unfold State.writeSec
  rw [if_neg (by omega), if_neg (by omega), if_neg (by omega), if_neg (by omega), if_neg (by omega), if_pos (by omega)]
  dsimp only
  rw [if_pos (by omega), show (a - 0x190100) / 0x80 = p.val by omega]

theorem ses_bits {v w : Word} {k : Nat} (hw : sesWord v k = w) (hk : k < 8) : bitAt w.toNat 31 = bitAt k 2 ∧ bitAt w.toNat 30 = bitAt k 1 ∧
    bitAt w.toNat 29 = bitAt k 0 := by
  have e : bitsAt w.toNat 29 3 = k := by
    rw [← hw]; unfold sesWord; rw [bitsAt_fix _ _ (by decide)]; omega
  refine ⟨?_, ?_, ?_⟩
  · rw [← e, bitAt_bitsAt _ (by decide)]
  · rw [← e, bitAt_bitsAt _ (by decide)]
  · rw [← e, bitAt_bitsAt _ (by decide)]

theorem sesReq_go {t : State} {p : Nat} {v w : Word} (hw : sesWord v 4 = w) : t.sesReq p w.toNat = t.sesGo p (w.toNat % 4) := by
  have e := ses_bits hw (by decide)
  unfold State.sesReq
  simp only [e.1, e.2.1, e.2.2, show bitAt 4 2 = true from by decide, show bitAt 4 1 = false from by decide,
      show bitAt 4 0 = false from by decide]
  rw [if_neg (by decide), if_pos trivial]

/-- GO on a port that is neither locked nor held off, for a level with a key: 32 fresh bytes are the challenge (R452). -/
theorem does_sessionGo (hon : s.on = true) (src : Source) (p : Fin 4) (v : Word) {level : Nat} {ds : List Nat} {t u x : State} {w : Word}
    (ht : s.touch src = t) (hw : sesWord v 4 = w) (ho : s.opens src (F.SEC_P_REQ_GO p.val).addr w = true) (hl : w.toNat % 4 = level)
    (hu : t.put (F.SEC_P_REQ_LEVEL p.val) level = u) (h1 : u.lockedNow p.val = false) (h2 : u.heldOff p.val = false)
    (h3 : u.levelKey level ≠ none) (hd : State.drawMany 32 u = (ds, x)) :
    exec (.sessionGo src p v) s = .next (State.follow (((x.setWordsBytes (chalAddr p.val) (ds.map (fun d => BitVec.ofNat 8 d))).setSecPort
      p.val { x.secPort p.val with chal := some x.aon, want := level }).portResult p.val 0) s) := by
  rw [on_sessionGo hon, hw, ses_write ht ho, sesReq_go hw, hl]
  unfold State.sesGo
  simp only [hu, h1, h2, h3, Bool.false_eq_true, if_false, hd]

/-- A locked port answers 2, one held off 1, a level without a key 3 (R452, R454). -/
theorem refuses_sessionGo (hon : s.on = true) (src : Source) (p : Fin 4) (v : Word) {level : Nat} {t u : State} {w : Word}
    (ht : s.touch src = t) (hw : sesWord v 4 = w) (ho : s.opens src (F.SEC_P_REQ_GO p.val).addr w = true) (hl : w.toNat % 4 = level)
    (hu : t.put (F.SEC_P_REQ_LEVEL p.val) level = u)
    (h : u.lockedNow p.val = true ∨ u.heldOff p.val = true ∨ u.levelKey level = none) :
    exec (.sessionGo src p v) s = .next (State.follow (u.portResult p.val
      (if u.lockedNow p.val then 2 else if u.heldOff p.val then 1 else 3)) s) := by
  rw [on_sessionGo hon, hw, ses_write ht ho, sesReq_go hw, hl]
  unfold State.sesGo
  simp only [hu]
  by_cases c1 : u.lockedNow p.val = true
  · rw [if_pos c1, if_pos c1]
  · rw [if_neg c1, if_neg c1]
    by_cases c2 : u.heldOff p.val = true
    · rw [if_pos c2, if_pos c2]
    · rw [if_neg c2, if_neg c2, if_pos ((h.resolve_left c1).resolve_left c2)]

theorem sesReq_verify {t : State} {p : Nat} {v w : Word} (hw : sesWord v 2 = w) :
    t.sesReq p w.toNat = (t.put (F.SEC_P_REQ_LEVEL p) (w.toNat % 4)).sesVerify p := by
  have e := ses_bits hw (by decide)
  unfold State.sesReq
  simp only [e.1, e.2.1, e.2.2, show bitAt 2 2 = false from by decide, show bitAt 2 1 = true from by decide,
      show bitAt 2 0 = false from by decide]
  rw [if_neg (by decide), if_neg (by decide), if_pos trivial]

/-- The right response within 10 s opens the session with a key of its own (R452). -/
theorem does_sessionVerify (hon : s.on = true) (src : Source) (p : Fin 4) (v : Word) {a : Nat} {t u : State} {y : SecPort} {w : Word}
    (ht : s.touch src = t) (hw : sesWord v 2 = w) (ho : s.opens src (F.SEC_P_REQ_GO p.val).addr w = true)
    (hu : t.put (F.SEC_P_REQ_LEVEL p.val) (w.toNat % 4) = u) (hy : u.secPort p.val = y) (h1 : y.chal = some a) (h2 : u.aon ≤ a + sU 10)
    (h3 : u.wordsBytes (respAddr p.val) 8 = u.sesExpect p.val y.want) {x : State} {key : List Byte}
    (hx : u.setSecPort p.val { y with chal := none } = x)
    (hk : hmac256 ((u.levelKey y.want).getD (List.replicate 32 0)) (u.wordsBytes (chalAddr p.val) 8 ++ [0x53]) = key) :
    exec (.sessionVerify src p v) s = .next (State.follow ((((((x.setSecPort p.val
      { y with chal := none, key := some key, last := u.aon, holdUntil := none }).setPortLevel p.val y.want).put
        (F.SEC_P_STAT_FAILS p.val) 0).portResult p.val 0).raise 0x1901 (p.val + 256 * y.want))) s) := by
  rw [on_sessionVerify hon, hw, ses_write ht ho, sesReq_verify hw, hu]
  unfold State.sesVerify
  simp only [hy, h1, hx, h2, decide_true, Bool.not_true, Bool.false_eq_true, if_false, h3, if_true, hk]

/-- A response that does not fit fails: FAILS counts, and the port is held off, or locked at the eighth (R452, R454). -/
theorem refuses_sessionVerify (hon : s.on = true) (src : Source) (p : Fin 4) (v : Word) {a : Nat} {t u : State} {y : SecPort} {w : Word}
    (ht : s.touch src = t) (hw : sesWord v 2 = w) (ho : s.opens src (F.SEC_P_REQ_GO p.val).addr w = true)
    (hu : t.put (F.SEC_P_REQ_LEVEL p.val) (w.toNat % 4) = u) (hy : u.secPort p.val = y) (h1 : y.chal = some a) (h2 : u.aon ≤ a + sU 10)
    {x : State} (hx : u.setSecPort p.val { y with chal := none } = x)
    (h3 : u.wordsBytes (respAddr p.val) 8 ≠ u.sesExpect p.val y.want) :
    exec (.sessionVerify src p v) s = .next (State.follow (x.sesFail p.val y.want) s) := by
  rw [on_sessionVerify hon, hw, ses_write ht ho, sesReq_verify hw, hu]
  unfold State.sesVerify
  simp only [hy, h1, hx, h2, decide_true, Bool.not_true, Bool.false_eq_true, if_false, h3]

/-- CLOSE ends the session (R453). -/
theorem does_sessionClose (hon : s.on = true) (src : Source) (p : Fin 4) (v : Word) {t : State} {w : Word} (ht : s.touch src = t)
    (hw : sesWord v 1 = w) (ho : s.opens src (F.SEC_P_REQ_GO p.val).addr w = true) :
    exec (.sessionClose src p v) s = .next (State.follow ((t.put (F.SEC_P_REQ_LEVEL p.val) (w.toNat % 4)).sesClose p.val 0) s) := by
  rw [on_sessionClose hon, hw, ses_write ht ho]
  have e := ses_bits hw (by decide)
  unfold State.sesReq
  simp only [e.1, e.2.1, e.2.2, show bitAt 1 2 = false from by decide, show bitAt 1 1 = false from by decide,
      show bitAt 1 0 = true from by decide]
  rw [if_neg (by decide), if_neg (by decide), if_neg (by decide), if_pos trivial]

/-- More than one command bit: the write is ignored as a whole, RESULT 6 (R452). -/
theorem does_sessionReqMulti (hon : s.on = true) (src : Source) (p k : Fin 4) (v : Word) {t : State} {w : Word} (ht : s.touch src = t)
    (hw : sesWord v (multiBits k) = w) (ho : s.opens src (F.SEC_P_REQ_GO p.val).addr w = true) :
    exec (.sessionReqMulti src p k v) s = .next (State.follow (t.portResult p.val 6) s) := by
  rw [on_sessionReqMulti hon, hw, ses_write ht ho]
  have m : multiBits k = 3 ∨ multiBits k = 5 ∨ multiBits k = 6 ∨ multiBits k = 7  :=
    (by decide : ∀ k : Fin 4, multiBits k = 3 ∨ multiBits k = 5 ∨ multiBits k = 6 ∨ multiBits k = 7) k
  have e := ses_bits hw (by omega)
  unfold State.sesReq
  simp only [e.1, e.2.1, e.2.2]
  rcases m with h | h | h | h <;> rw [h, if_pos (by decide)]

theorem does_sessionTimeout (hon : s.on = true) (p : Fin 4) (h : s.portLevel p.val ≠ 0) :
    exec (.sessionTimeout p) s = .next (State.follow ((s.elapseTo ((s.secPort p.val).last + s.sesLimit)).sesClose p.val 1) s) := by
  rw [on_sessionTimeout hon]
  unfold State.sesTimeout
  rw [if_neg h]

theorem does_lockExpiry (hon : s.on = true) (p : Fin 4) {a : Nat} (h : (s.secPort p.val).lockUntil = some a) :
    exec (.lockExpiry p) s = .next (State.follow ((s.elapseTo a).lockEnd p.val 0) s) := by
  rw [on_lockExpiry hon]
  unfold State.lockExpire
  simp only [h]

/-- Every named port but the writer's own (R455). -/
theorem does_lockClr (hon : s.on = true) (src : Source) (v : Word) {t : State} (ht : s.touch src = t)
    (ho : s.opens src F.SEC_LOCK_CLR_PORTS.addr v = true) :
    exec (.lockClr src v) s = .next (State.follow (t.each ((bitList 4 (v.toNat % 16)).filter (fun p => p ≠ srcPort src))
      (fun t p => t.lockEnd p 1)) s) := by
  rw [on_lockClr hon, State.opens_Sec ho (by decide) (by decide) (by decide), ht]
  unfold State.writeSec
  rw [if_neg (by decide), if_pos (by decide)]
  unfold State.lockClr; rfl

theorem does_zeroise (hon : s.on = true) (src : Source) (v : Word) {t : State} {w : Word} (ht : s.touch src = t)
    (hw : fixBit v 31 = w) (ho : s.opens src F.SEC_CTL_ZEROISE.addr w = true) :
    exec (.zeroise src v) s = .next (State.follow ((t.plain F.SEC_CTL_ZEROISE.addr w.toNat).zeroise 3) s) := by
  rw [on_zeroise hon, hw, State.opens_Sec ho (by decide) (by decide) (by decide), ht]
  unfold State.writeSec
  rw [if_pos (by decide), State.iff_of (by rw [← hw]; exact bitAt_fixBit v (by decide))]

theorem fuse_write {src : Source} {v : Word} {t : State} {w : Word} (ht : s.touch src = t) (hw : fixBit v 31 = w)
    (ho : s.opens src F.SEC_FUSE_CMD_GO.addr w = true) :
    s.busWrite src F.SEC_FUSE_CMD_GO.addr w = t.fuseGo (w.toNat % 16) := by
  rw [State.opens_Sec ho (by decide) (by decide) (by decide), ht]
  unfold State.writeSec
  rw [if_neg (by decide), if_neg (by decide), if_neg (by decide), if_pos (by decide),
      State.iff_of (by rw [← hw]; exact bitAt_fixBit v (by decide))]

/-- A permitted burn starts with the bytes of FUSE_DATA (R466). -/
theorem does_fuseProgram (hon : s.on = true) (src : Source) (v : Word) {t : State} {w : Word} {n : Nat} (ht : s.touch src = t)
    (hw : fixBit v 31 = w) (ho : s.opens src F.SEC_FUSE_CMD_GO.addr w = true) (hn : w.toNat % 16 = n) (h1 : n < 7)
    (h2 : t.flag F.SEC_FUSE_RES_BUSY = false) (h3 : t.fuseCheck n = 0) :
    exec (.fuseProgram src v) s = .next (State.follow (State.putb { t with sec := { t.sec with
      burn := some (n, t.wordsBytes fuseAddr 8, t.aon + msU (if 5 ≤ n then 1 else 30)) } } F.SEC_FUSE_RES_BUSY true) s) := by
  rw [on_fuseProgram hon, hw, fuse_write ht hw ho, hn]
  unfold State.fuseGo
  rw [if_neg (by simp [h2, show ¬7 ≤ n by omega])]
  simp only [h3, ne_eq, not_true_eq_false, if_false]

/-- Outside Dry dock, too hot or cold, set already, or the last image key: RESULT says so (R466). -/
theorem refuses_fuseProgram (hon : s.on = true) (src : Source) (v : Word) {t : State} {w : Word} {n r : Nat} (ht : s.touch src = t)
    (hw : fixBit v 31 = w) (ho : s.opens src F.SEC_FUSE_CMD_GO.addr w = true) (hn : w.toNat % 16 = n) (h1 : n < 7)
    (h2 : t.flag F.SEC_FUSE_RES_BUSY = false) (hr : t.fuseCheck n = r) (h3 : r ≠ 0) :
    exec (.fuseProgram src v) s = .next (State.follow (t.put F.SEC_FUSE_RES_RESULT r) s) := by
  rw [on_fuseProgram hon, hw, fuse_write ht hw ho, hn]
  unfold State.fuseGo
  rw [if_neg (by simp [h2, show ¬7 ≤ n by omega])]
  simp only [hr, ne_eq, h3, not_false_eq_true, if_true]

/-- The burn completes and reads back well (R466). -/
theorem does_fuseProg (hon : s.on = true) {n e : Nat} {l : List Byte} {t : State} (h : s.sec.burn = some (n, l, e))
    (ht : s.elapseTo e = t) :
    exec (.fuseProg true) s = .next (State.follow (((State.putb { t with
      sec := { t.sec with burn := none }
      fuses := t.fuses.program n l } F.SEC_FUSE_RES_BUSY false).put F.SEC_FUSE_RES_RESULT 0).raise 0x1908 (n + 256 * 0)) s) := by
  rw [on_fuseProg hon]
  unfold State.fuseDone
  simp only [h, ht, if_true]

theorem does_pilotReady (hon : s.on = true) (h1 : s.up domPILOT = true) (h2 : s.rsv.starting = true) {t : State}
    (ht : ({ s with rsv := { s.rsv with starting := false, lastSnap := s.aon } } : State) = t) :
    exec .pilotReady s = .next (State.follow (((t.putb F.PILOT_STAT_READY true).put F.PILOT_FW_VER_VERSION
      (Config.pilotVersion t.boot.store.pilotFw % 2 ^ 32)).raise 0x1801 0) s) := by
  rw [on_pilotReady hon]
  unfold State.pilotReady
  subst ht
  rw [if_pos (by simp [h1, h2])]

theorem does_pilotWatchdogExpiry (hon : s.on = true) (h1 : s.up domPILOT = true)
    (h2 : s.flag F.PILOT_STAT_READY = true ∨ s.rsv.starting = true) :
    exec .pilotWatchdogExpiry s = .next (State.follow (s.pilotRestart true none) s) := by
  rw [on_pilotWatchdogExpiry hon]
  unfold State.pilotWatchdog
  rw [if_pos (by rcases h2 with h | h <;> simp [h1, h])]

theorem mail_word {opc tag : Nat} (ho : opc < 256) (ht : tag < 256) : bitAt (mailWord opc tag).toNat 31 = true ∧
    bitsAt (mailWord opc tag).toNat 16 8 = opc ∧ bitsAt (mailWord opc tag).toNat 0 8 = tag := by
  unfold mailWord
  refine ⟨?_, ?_, ?_⟩
  · rw [bitAt_fix_other _ _ (by decide) (by decide), bitAt_fix_other _ _ (by decide) (by decide)]
    exact bitAt_fixBit 0 (by decide)
  · rw [bitsAt_fix_other _ _ (by decide) (by decide), bitsAt_fix _ _ (by decide)]; omega
  · rw [bitsAt_fix _ _ (by decide)]; omega

theorem mail_sent {src : Source} {p : Fin 4} {opc : Nat} {tag : Byte} {args : List Word} {u t b x : State} {r : MbxRun}
    (hu : (args.take 16).zipIdx.foldl (fun t e => t.busWrite src (0x180040 + 0x200 * p.val + 4 * e.2) e.1) s = u) (ht : u.touch src = t)
    (hc : opc < 256) (ho : u.opens src (F.PILOT_MB_CMD_GO p.val).addr (mailWord opc tag.toNat) = true) (h1 : t.up domPILOT = true)
    (h2 : t.flag (F.PILOT_MB_STAT_BUSY p.val) = false)
    (hb : (t.putb (F.PILOT_MB_STAT_DONE p.val) false).putb (F.PILOT_MB_STAT_BUSY p.val) true = b)
    (hr : MbxRun.mk opc tag.toNat (b.portLevel p.val) ((List.range 16).map (fun j => b.get (F.PILOT_MB_ARG_WORD p.val j))) 0 [] false = r)
    (hx : b.setMailRun p.val r = x) (h3 : x.pilotServes = true) : s.mailSend src p.val opc tag.toNat args = x.mailAct p.val := by
  have h := p.isLt
  have e : (F.PILOT_MB_CMD_GO p.val).addr = 0x180000 + 0x200 * p.val := by simp only [F.PILOT_MB_CMD_GO]; omega
  have w := mail_word hc tag.isLt
  unfold State.mailSend
  rw [hu]
  generalize (F.PILOT_MB_CMD_GO p.val).addr = a at e ho ⊢
  rw [State.opens_Pilot ho (by omega) (by omega) (by simp only [evtAddr]; omega), ht]
  unfold State.writePilot
  rw [if_pos (by omega), show (a - 0x180000) / 0x200 = p.val by omega]
  unfold State.mailGo
  rw [if_neg (by simp [w.1, h1, h2])]
  simp only [hb, w.2.1, w.2.2, hr, hx, h3, if_true]

/-- A command whose level Pilot permits is taken up at once. -/
theorem mail_taken {p opc tag l res : Nat} {args : List Nat} {rsp : List Nat} {b x y : State} {r : MbxRun} (hx : b.setMailRun p r = x)
    (hr : MbxRun.mk opc tag (b.portLevel p) args 0 [] false = r) (hl : mailLevel opc = some l) (h4 : l ≤ r.level) (hn : opc ≠ 0x3F)
    (hy : x.mailTake r = (res, rsp, y)) :
    x.mailAct p = y.setMailRun p { r with taken := true, result := res, rsp := rsp } := by
  have f : x.mailRun p = some r := by
    rw [← hx]; unfold State.mailRun State.setMailRun; exact sparseFind_insert_same _ _ _
  have g : r.taken = false ∧ r.opc = opc := by rw [← hr]; exact ⟨rfl, rfl⟩
  unfold State.mailAct
  simp only [f, g.1, g.2, Bool.false_eq_true, if_false, hl, h4, decide_true, Bool.not_true, hn, hy]

theorem mail_opc {opc tag lv : Nat} {args : List Nat} {r : MbxRun} (hr : MbxRun.mk opc tag lv args 0 [] false = r) : r.opc = opc := by
  rw [← hr]

/-- VERSION: the firmware's version and build, and the interface 1 (R458). -/
theorem does_mbxVersion (hon : s.on = true) (src : Source) (p : Fin 4) (tag : Byte) (args : List Word) {u t b x : State} {r : MbxRun} {n : Nat}
    (hu : (args.take 16).zipIdx.foldl (fun t e => t.busWrite src (0x180040 + 0x200 * p.val + 4 * e.2) e.1) s = u) (ht : u.touch src = t)
    (ho : u.opens src (F.PILOT_MB_CMD_GO p.val).addr (mailWord 0x01 tag.toNat) = true) (h1 : t.up domPILOT = true)
    (h2 : t.flag (F.PILOT_MB_STAT_BUSY p.val) = false)
    (hb : (t.putb (F.PILOT_MB_STAT_DONE p.val) false).putb (F.PILOT_MB_STAT_BUSY p.val) true = b)
    (hr : MbxRun.mk 0x01 tag.toNat (b.portLevel p.val) ((List.range 16).map (fun j => b.get (F.PILOT_MB_ARG_WORD p.val j))) 0 [] false = r)
    (hx : b.setMailRun p.val r = x) (h3 : x.pilotServes = true) (h4 : 0 ≤ r.level) (hy : Config.pilotBuild x.boot.store.pilotFw = n) :
    exec (.mbxVersion src p tag args) s = .next (State.follow (State.setMailRun x p.val
      { r with taken := true, result := 0, rsp := [x.get F.PILOT_FW_VER_VERSION, n % 2 ^ 32, n / 2 ^ 32 % 2 ^ 32, 1] }) s) := by
  rw [on_mbxVersion hon, mail_sent hu ht (by decide) ho h1 h2 hb hr hx h3]
  refine next_follow (mail_taken hx hr (l := 0) (by decide) h4 (by decide) ?_)
  subst hy; unfold State.mailTake; rw [mail_opc hr]; try simp only

/-- HEALTH: RSV.STAT, RSV.COMMIT, THERM.STAT, PWR.STATE and the policy (R458). -/
theorem does_mbxHealth (hon : s.on = true) (src : Source) (p : Fin 4) (tag : Byte) (args : List Word) {u t b x : State} {r : MbxRun} 
    (hu : (args.take 16).zipIdx.foldl (fun t e => t.busWrite src (0x180040 + 0x200 * p.val + 4 * e.2) e.1) s = u) (ht : u.touch src = t)
    (ho : u.opens src (F.PILOT_MB_CMD_GO p.val).addr (mailWord 0x02 tag.toNat) = true) (h1 : t.up domPILOT = true)
    (h2 : t.flag (F.PILOT_MB_STAT_BUSY p.val) = false)
    (hb : (t.putb (F.PILOT_MB_STAT_DONE p.val) false).putb (F.PILOT_MB_STAT_BUSY p.val) true = b)
    (hr : MbxRun.mk 0x02 tag.toNat (b.portLevel p.val) ((List.range 16).map (fun j => b.get (F.PILOT_MB_ARG_WORD p.val j))) 0 [] false = r)
    (hx : b.setMailRun p.val r = x) (h3 : x.pilotServes = true) (h4 : 1 ≤ r.level)  :
    exec (.mbxHealth src p tag args) s = .next (State.follow (State.setMailRun x p.val
      { r with taken := true, result := 0, rsp := [(x.word 0x170000).toNat, (x.word 0x17001C).toNat, (x.word 0x160008).toNat, (x.word 0x10000).toNat, x.rsv.policy] }) s) := by
  rw [on_mbxHealth hon, mail_sent hu ht (by decide) ho h1 h2 hb hr hx h3]
  refine next_follow (mail_taken hx hr (l := 1) (by decide) h4 (by decide) ?_)
  unfold State.mailTake; rw [mail_opc hr]; try simp only

/-- TELEM_SET with legal arguments sets the period, the target and the depth (R460). -/
theorem does_mbxTelemSet (hon : s.on = true) (src : Source) (p : Fin 4) (tag : Byte) (args : List Word) {u t b x : State} {r : MbxRun} 
    (hu : (args.take 16).zipIdx.foldl (fun t e => t.busWrite src (0x180040 + 0x200 * p.val + 4 * e.2) e.1) s = u) (ht : u.touch src = t)
    (ho : u.opens src (F.PILOT_MB_CMD_GO p.val).addr (mailWord 0x03 tag.toNat) = true) (h1 : t.up domPILOT = true)
    (h2 : t.flag (F.PILOT_MB_STAT_BUSY p.val) = false)
    (hb : (t.putb (F.PILOT_MB_STAT_DONE p.val) false).putb (F.PILOT_MB_STAT_BUSY p.val) true = b)
    (hr : MbxRun.mk 0x03 tag.toNat (b.portLevel p.val) ((List.range 16).map (fun j => b.get (F.PILOT_MB_ARG_WORD p.val j))) 0 [] false = r)
    (hx : b.setMailRun p.val r = x) (h3 : x.pilotServes = true) (h4 : 1 ≤ r.level) (ha : (r.arg 0 = 0 ∨ (100 ≤ r.arg 0 ∧ r.arg 0 ≤ 60000)) ∧ 1 ≤ r.arg 3 ∧ r.arg 3 ≤ 256) :
    exec (.mbxTelemSet src p tag args) s = .next (State.follow (State.setMailRun ({ x with rsv := { x.rsv with
        period := r.arg 0, push := (r.arg 1 + 2 ^ 32 * r.arg 2) % 2 ^ 48, depth := r.arg 3, lastSnap := x.aon } } : State) p.val
      { r with taken := true, result := 0, rsp := [] }) s) := by
  rw [on_mbxTelemSet hon, mail_sent hu ht (by decide) ho h1 h2 hb hr hx h3]
  refine next_follow (mail_taken hx hr (l := 1) (by decide) h4 (by decide) ?_)
  unfold State.mailTake; rw [mail_opc hr]; simp only; rw [if_pos ha]

/-- LOG_FIND: the lowest sequence number that fits (R458). -/
theorem does_mbxLogFind (hon : s.on = true) (src : Source) (p : Fin 4) (tag : Byte) (args : List Word) {u t b x : State} {r : MbxRun} {hits : List TallyRec}
    (hu : (args.take 16).zipIdx.foldl (fun t e => t.busWrite src (0x180040 + 0x200 * p.val + 4 * e.2) e.1) s = u) (ht : u.touch src = t)
    (ho : u.opens src (F.PILOT_MB_CMD_GO p.val).addr (mailWord 0x04 tag.toNat) = true) (h1 : t.up domPILOT = true)
    (h2 : t.flag (F.PILOT_MB_STAT_BUSY p.val) = false)
    (hb : (t.putb (F.PILOT_MB_STAT_DONE p.val) false).putb (F.PILOT_MB_STAT_BUSY p.val) true = b)
    (hr : MbxRun.mk 0x04 tag.toNat (b.portLevel p.val) ((List.range 16).map (fun j => b.get (F.PILOT_MB_ARG_WORD p.val j))) 0 [] false = r)
    (hx : b.setMailRun p.val r = x) (h3 : x.pilotServes = true) (h4 : 1 ≤ r.level) (ha : x.tally.recs.filter (fun y => y.committed && decide (r.arg 0 ≤ y.seq) && decide (r.arg 1 % 65536 ≤ y.code ∧ y.code ≤ r.arg 1 / 65536)) = hits) :
    exec (.mbxLogFind src p tag args) s = .next (State.follow (State.setMailRun x p.val
      { r with taken := true, result := 0, rsp := [minOf 0xFFFFFFFF (hits.map (fun y => y.seq))] }) s) := by
  rw [on_mbxLogFind hon, mail_sent hu ht (by decide) ho h1 h2 hb hr hx h3]
  refine next_follow (mail_taken hx hr (l := 1) (by decide) h4 (by decide) ?_)
  subst ha; unfold State.mailTake; rw [mail_opc hr]; try simp only

/-- TUNE is taken up; it answers at its end (R458). -/
theorem does_mbxTune (hon : s.on = true) (src : Source) (p : Fin 4) (tag : Byte) (args : List Word) {u t b x : State} {r : MbxRun} 
    (hu : (args.take 16).zipIdx.foldl (fun t e => t.busWrite src (0x180040 + 0x200 * p.val + 4 * e.2) e.1) s = u) (ht : u.touch src = t)
    (ho : u.opens src (F.PILOT_MB_CMD_GO p.val).addr (mailWord 0x10 tag.toNat) = true) (h1 : t.up domPILOT = true)
    (h2 : t.flag (F.PILOT_MB_STAT_BUSY p.val) = false)
    (hb : (t.putb (F.PILOT_MB_STAT_DONE p.val) false).putb (F.PILOT_MB_STAT_BUSY p.val) true = b)
    (hr : MbxRun.mk 0x10 tag.toNat (b.portLevel p.val) ((List.range 16).map (fun j => b.get (F.PILOT_MB_ARG_WORD p.val j))) 0 [] false = r)
    (hx : b.setMailRun p.val r = x) (h3 : x.pilotServes = true) (h4 : 1 ≤ r.level)  :
    exec (.mbxTune src p tag args) s = .next (State.follow (State.setMailRun x p.val
      { r with taken := true, result := 0, rsp := [] }) s) := by
  rw [on_mbxTune hon, mail_sent hu ht (by decide) ho h1 h2 hb hr hx h3]
  refine next_follow (mail_taken hx hr (l := 1) (by decide) h4 (by decide) ?_)
  unfold State.mailTake; rw [mail_opc hr]; try simp only

/-- CAL_POLICY is set (R458). -/
theorem does_mbxCalPolicy (hon : s.on = true) (src : Source) (p : Fin 4) (tag : Byte) (args : List Word) {u t b x : State} {r : MbxRun} 
    (hu : (args.take 16).zipIdx.foldl (fun t e => t.busWrite src (0x180040 + 0x200 * p.val + 4 * e.2) e.1) s = u) (ht : u.touch src = t)
    (ho : u.opens src (F.PILOT_MB_CMD_GO p.val).addr (mailWord 0x11 tag.toNat) = true) (h1 : t.up domPILOT = true)
    (h2 : t.flag (F.PILOT_MB_STAT_BUSY p.val) = false)
    (hb : (t.putb (F.PILOT_MB_STAT_DONE p.val) false).putb (F.PILOT_MB_STAT_BUSY p.val) true = b)
    (hr : MbxRun.mk 0x11 tag.toNat (b.portLevel p.val) ((List.range 16).map (fun j => b.get (F.PILOT_MB_ARG_WORD p.val j))) 0 [] false = r)
    (hx : b.setMailRun p.val r = x) (h3 : x.pilotServes = true) (h4 : 1 ≤ r.level)  :
    exec (.mbxCalPolicy src p tag args) s = .next (State.follow (State.setMailRun ({ x with rsv := { x.rsv with calPolicy := r.arg 0 % 2 ^ 17 } } : State) p.val
      { r with taken := true, result := 0, rsp := [] }) s) := by
  rw [on_mbxCalPolicy hon, mail_sent hu ht (by decide) ho h1 h2 hb hr hx h3]
  refine next_follow (mail_taken hx hr (l := 1) (by decide) h4 (by decide) ?_)
  unfold State.mailTake; rw [mail_opc hr]; try simp only

/-- POLICY is set, the old one returned (R458, R439). -/
theorem does_mbxPolicy (hon : s.on = true) (src : Source) (p : Fin 4) (tag : Byte) (args : List Word) {u t b x : State} {r : MbxRun} 
    (hu : (args.take 16).zipIdx.foldl (fun t e => t.busWrite src (0x180040 + 0x200 * p.val + 4 * e.2) e.1) s = u) (ht : u.touch src = t)
    (ho : u.opens src (F.PILOT_MB_CMD_GO p.val).addr (mailWord 0x20 tag.toNat) = true) (h1 : t.up domPILOT = true)
    (h2 : t.flag (F.PILOT_MB_STAT_BUSY p.val) = false)
    (hb : (t.putb (F.PILOT_MB_STAT_DONE p.val) false).putb (F.PILOT_MB_STAT_BUSY p.val) true = b)
    (hr : MbxRun.mk 0x20 tag.toNat (b.portLevel p.val) ((List.range 16).map (fun j => b.get (F.PILOT_MB_ARG_WORD p.val j))) 0 [] false = r)
    (hx : b.setMailRun p.val r = x) (h3 : x.pilotServes = true) (h4 : 2 ≤ r.level)  :
    exec (.mbxPolicy src p tag args) s = .next (State.follow (State.setMailRun ({ x with rsv := { x.rsv with policy := r.arg 0 % 2 ^ 11 } } : State) p.val
      { r with taken := true, result := 0, rsp := [x.rsv.policy] }) s) := by
  rw [on_mbxPolicy hon, mail_sent hu ht (by decide) ho h1 h2 hb hr hx h3]
  refine next_follow (mail_taken hx hr (l := 2) (by decide) h4 (by decide) ?_)
  unfold State.mailTake; rw [mail_opc hr]; try simp only

/-- RETIRE of a present path (R458, R238). -/
theorem does_mbxRetire (hon : s.on = true) (src : Source) (p : Fin 4) (tag : Byte) (args : List Word) {u t b x : State} {r : MbxRun} 
    (hu : (args.take 16).zipIdx.foldl (fun t e => t.busWrite src (0x180040 + 0x200 * p.val + 4 * e.2) e.1) s = u) (ht : u.touch src = t)
    (ho : u.opens src (F.PILOT_MB_CMD_GO p.val).addr (mailWord 0x21 tag.toNat) = true) (h1 : t.up domPILOT = true)
    (h2 : t.flag (F.PILOT_MB_STAT_BUSY p.val) = false)
    (hb : (t.putb (F.PILOT_MB_STAT_DONE p.val) false).putb (F.PILOT_MB_STAT_BUSY p.val) true = b)
    (hr : MbxRun.mk 0x21 tag.toNat (b.portLevel p.val) ((List.range 16).map (fun j => b.get (F.PILOT_MB_ARG_WORD p.val j))) 0 [] false = r)
    (hx : b.setMailRun p.val r = x) (h3 : x.pilotServes = true) (h4 : 2 ≤ r.level) (ha : x.hasPath (r.arg 0 % 64) = true) :
    exec (.mbxRetire src p tag args) s = .next (State.follow (State.setMailRun (x.pilotRetire (r.arg 0 % 256) 0) p.val
      { r with taken := true, result := 0, rsp := [] }) s) := by
  rw [on_mbxRetire hon, mail_sent hu ht (by decide) ho h1 h2 hb hr hx h3]
  refine next_follow (mail_taken hx hr (l := 2) (by decide) h4 (by decide) ?_)
  unfold State.mailTake; rw [mail_opc hr]; simp only; rw [if_pos ha]

/-- RESTORE of a retired path: it is used again and the berth calibration of its direction asked for (R458). -/
theorem does_mbxRestore (hon : s.on = true) (src : Source) (p : Fin 4) (tag : Byte) (args : List Word) {u t b x : State} {r : MbxRun} {q : Nat}
    (hu : (args.take 16).zipIdx.foldl (fun t e => t.busWrite src (0x180040 + 0x200 * p.val + 4 * e.2) e.1) s = u) (ht : u.touch src = t)
    (ho : u.opens src (F.PILOT_MB_CMD_GO p.val).addr (mailWord 0x22 tag.toNat) = true) (h1 : t.up domPILOT = true)
    (h2 : t.flag (F.PILOT_MB_STAT_BUSY p.val) = false)
    (hb : (t.putb (F.PILOT_MB_STAT_DONE p.val) false).putb (F.PILOT_MB_STAT_BUSY p.val) true = b)
    (hr : MbxRun.mk 0x22 tag.toNat (b.portLevel p.val) ((List.range 16).map (fun j => b.get (F.PILOT_MB_ARG_WORD p.val j))) 0 [] false = r)
    (hx : b.setMailRun p.val r = x) (h3 : x.pilotServes = true) (h4 : 2 ≤ r.level) (hq : r.arg 0 % 256 = q) (ha : x.hasPath (q % 64) = true) (hb2 : x.unitRetired q = true) :
    exec (.mbxRestore src p tag args) s = .next (State.follow (State.setMailRun (((x.setRetired q false).advisePath 0x1782 q 0 0).bcalReq (if unitTx q then 1 else 2)) p.val
      { r with taken := true, result := 0, rsp := [] }) s) := by
  rw [on_mbxRestore hon, mail_sent hu ht (by decide) ho h1 h2 hb hr hx h3]
  refine next_follow (mail_taken hx hr (l := 2) (by decide) h4 (by decide) ?_)
  subst hq; unfold State.mailTake; rw [mail_opc hr]; simp only; rw [ha, Bool.not_true, if_neg (by decide), if_pos hb2]

/-- RESOLVE is taken up; the weights are solved by its end (R458, R238). -/
theorem does_mbxResolve (hon : s.on = true) (src : Source) (p : Fin 4) (tag : Byte) (args : List Word) {u t b x : State} {r : MbxRun} 
    (hu : (args.take 16).zipIdx.foldl (fun t e => t.busWrite src (0x180040 + 0x200 * p.val + 4 * e.2) e.1) s = u) (ht : u.touch src = t)
    (ho : u.opens src (F.PILOT_MB_CMD_GO p.val).addr (mailWord 0x23 tag.toNat) = true) (h1 : t.up domPILOT = true)
    (h2 : t.flag (F.PILOT_MB_STAT_BUSY p.val) = false)
    (hb : (t.putb (F.PILOT_MB_STAT_DONE p.val) false).putb (F.PILOT_MB_STAT_BUSY p.val) true = b)
    (hr : MbxRun.mk 0x23 tag.toNat (b.portLevel p.val) ((List.range 16).map (fun j => b.get (F.PILOT_MB_ARG_WORD p.val j))) 0 [] false = r)
    (hx : b.setMailRun p.val r = x) (h3 : x.pilotServes = true) (h4 : 2 ≤ r.level)  :
    exec (.mbxResolve src p tag args) s = .next (State.follow (State.setMailRun x p.val
      { r with taken := true, result := 0, rsp := [] }) s) := by
  rw [on_mbxResolve hon, mail_sent hu ht (by decide) ho h1 h2 hb hr hx h3]
  refine next_follow (mail_taken hx hr (l := 2) (by decide) h4 (by decide) ?_)
  unfold State.mailTake; rw [mail_opc hr]; try simp only

/-- SLIPWAY with a legal range is taken up (R458). -/
theorem does_mbxSlipway (hon : s.on = true) (src : Source) (p : Fin 4) (tag : Byte) (args : List Word) {u t b x : State} {r : MbxRun} 
    (hu : (args.take 16).zipIdx.foldl (fun t e => t.busWrite src (0x180040 + 0x200 * p.val + 4 * e.2) e.1) s = u) (ht : u.touch src = t)
    (ho : u.opens src (F.PILOT_MB_CMD_GO p.val).addr (mailWord 0x30 tag.toNat) = true) (h1 : t.up domPILOT = true)
    (h2 : t.flag (F.PILOT_MB_STAT_BUSY p.val) = false)
    (hb : (t.putb (F.PILOT_MB_STAT_DONE p.val) false).putb (F.PILOT_MB_STAT_BUSY p.val) true = b)
    (hr : MbxRun.mk 0x30 tag.toNat (b.portLevel p.val) ((List.range 16).map (fun j => b.get (F.PILOT_MB_ARG_WORD p.val j))) 0 [] false = r)
    (hx : b.setMailRun p.val r = x) (h3 : x.pilotServes = true) (h4 : 2 ≤ r.level) (ha : x.slipArgs r = true) :
    exec (.mbxSlipway src p tag args) s = .next (State.follow (State.setMailRun x p.val
      { r with taken := true, result := 0, rsp := [] }) s) := by
  rw [on_mbxSlipway hon, mail_sent hu ht (by decide) ho h1 h2 hb hr hx h3]
  refine next_follow (mail_taken hx hr (l := 2) (by decide) h4 (by decide) ?_)
  unfold State.mailTake; rw [mail_opc hr]; simp only; rw [if_pos ha]

/-- PILOT_RESET restarts Pilot; its own command leaves no response (R458, R457). -/
theorem does_mbxPilotReset (hon : s.on = true) (src : Source) (p : Fin 4) (tag : Byte) (args : List Word) {u t b x : State} {r : MbxRun}
    (hu : (args.take 16).zipIdx.foldl (fun t e => t.busWrite src (0x180040 + 0x200 * p.val + 4 * e.2) e.1) s = u) (ht : u.touch src = t)
    (ho : u.opens src (F.PILOT_MB_CMD_GO p.val).addr (mailWord 0x3F tag.toNat) = true) (h1 : t.up domPILOT = true)
    (h2 : t.flag (F.PILOT_MB_STAT_BUSY p.val) = false)
    (hb : (t.putb (F.PILOT_MB_STAT_DONE p.val) false).putb (F.PILOT_MB_STAT_BUSY p.val) true = b)
    (hr : MbxRun.mk 0x3F tag.toNat (b.portLevel p.val) ((List.range 16).map (fun j => b.get (F.PILOT_MB_ARG_WORD p.val j))) 0 [] false = r)
    (hx : b.setMailRun p.val r = x) (h3 : x.pilotServes = true) (h4 : 2 ≤ r.level) :
    exec (.mbxPilotReset src p tag args) s = .next (State.follow (x.pilotRestart false (some p.val)) s) := by
  rw [on_mbxPilotReset hon, mail_sent hu ht (by decide) ho h1 h2 hb hr hx h3]
  have f : x.mailRun p.val = some r := by
    rw [← hx]; unfold State.mailRun State.setMailRun; exact sparseFind_insert_same _ _ _
  have g : r.taken = false ∧ r.opc = 0x3F := by rw [← hr]; exact ⟨rfl, rfl⟩
  refine next_follow ?_
  unfold State.mailAct
  simp only [f, g.1, g.2, Bool.false_eq_true, if_false, show mailLevel 0x3F = some 2 from rfl, h4, decide_true, Bool.not_true,
      if_true]

/-- An unknown operation, or one above the port's level, ends UNKNOWN and counts a violation (R458). -/
theorem does_mbxUnknown (hon : s.on = true) (src : Source) (p : Fin 4) (opc tag : Byte) (args : List Word) {u t b x : State} {r : MbxRun}
    (hu : (args.take 16).zipIdx.foldl (fun t e => t.busWrite src (0x180040 + 0x200 * p.val + 4 * e.2) e.1) s = u) (ht : u.touch src = t)
    (ho : u.opens src (F.PILOT_MB_CMD_GO p.val).addr (mailWord opc.toNat tag.toNat) = true) (h1 : t.up domPILOT = true)
    (h2 : t.flag (F.PILOT_MB_STAT_BUSY p.val) = false)
    (hb : (t.putb (F.PILOT_MB_STAT_DONE p.val) false).putb (F.PILOT_MB_STAT_BUSY p.val) true = b)
    (hr : MbxRun.mk opc.toNat tag.toNat (b.portLevel p.val) ((List.range 16).map (fun j => b.get (F.PILOT_MB_ARG_WORD p.val j))) 0 []
      false = r)
    (hx : b.setMailRun p.val r = x) (h3 : x.pilotServes = true) (h4 : ∀ l, mailLevel opc.toNat = some l → r.level < l) :
    exec (.mbxUnknown src p opc tag args) s = .next (State.follow ((x.violation p.val (0x180000 + 0x200 * p.val) true).setMailRun p.val
      { r with taken := true, result := 1 }) s) := by
  rw [on_mbxUnknown hon, mail_sent hu ht opc.isLt ho h1 h2 hb hr hx h3]
  have f : x.mailRun p.val = some r := by
    rw [← hx]; unfold State.mailRun State.setMailRun; exact sparseFind_insert_same _ _ _
  have g : r.taken = false ∧ r.opc = opc.toNat := by rw [← hr]; exact ⟨rfl, rfl⟩
  refine next_follow ?_
  unfold State.mailAct
  simp only [f, g.1, g.2, Bool.false_eq_true, if_false]
  rw [if_pos (by
    cases hm : mailLevel opc.toNat with
    | none => simp
    | some l => have := h4 l hm; simp; omega)]

/-- The response to a command that Pilot has taken up: what the command has done by its end, then RSP, RESULT, TAG, SEQ, RMAC
and DONE (R458, R459). -/
theorem does_mbxResponseComplete (hon : s.on = true) (p : Fin 4) (fail : Option (BitVec 14 × Fin 8)) {r : MbxRun} {res : Nat}
    {rsp : List Nat} {t : State} (h1 : s.pilotServes = true) (h2 : s.mailRun p.val = some r) (h3 : r.taken = true)
    (ht : s.mailClose r (fail.map (fun e => (e.1.toNat, e.2.val))) = (res, rsp, t)) :
    exec (.mbxResponseComplete p fail) s = .next (State.follow (t.mailEnd p.val r.tag res rsp) s) := by
  rw [on_mbxResponseComplete hon]
  have e : s.mailAct p.val = s := by
    unfold State.mailAct
    simp only [h2, h3, if_true]
  unfold State.mailDone
  simp only [h1, if_true, e, h2, ht]

/-- A snapshot falls due (R460). -/
theorem does_telemSnapshot (hon : s.on = true) {t u : State} (h1 : s.pilotServes = true) (h2 : s.rsv.period ≠ 0)
    (ht : s.elapseTo (s.rsv.lastSnap + msU s.rsv.period) = t)
    (hu : ({ t with rsv := { t.rsv with
      latest := t.snapshot, snap := (t.rsv.snap + 1) % 2 ^ 32, lastSnap := t.aon, muted := t.mutedTotal, uncorr := t.uncorrTotal } } :
        State) = u) :
    exec .telemSnapshot s = .next (State.follow ((((u.putb F.PILOT_TELEM_STAT_VALID true).putb F.PILOT_TELEM_STAT_NEW true).put
      F.PILOT_TELEM_STAT_SEQ (t.rsv.snap % 2 ^ 28)).snapshotPush t.rsv.snap t.snapshot) s) := by
  rw [on_telemSnapshot hon]
  unfold State.telemetry
  rw [if_neg (by simp [h1, h2])]
  simp only [ht, hu]

theorem dbg_write {src : Source} {v : Word} {n : Nat} {t : State} {w : Word} (ht : s.touch src = t) (hw : fix v 0 2 n = w) (hn : n < 4)
    (ho : s.opens src F.SEC_DBG_REQ.addr w = true) : s.busWrite src F.SEC_DBG_REQ.addr w = t.dbgReq n (srcCode src) := by
  rw [State.opens_Sec ho (by decide) (by decide) (by decide), ht]
  unfold State.writeSec
  rw [if_neg (by decide), if_neg (by decide), if_pos (by decide), show w.toNat % 4 = n from by
    have := bitsAt_fix v (lo := 0) (width := 2) n (by decide)
    rw [hw] at this; unfold bitsAt at this; omega]

/-- REQ 0 by the writer of the present state: debug goes off (R461). -/
theorem does_dbgReqOff (hon : s.on = true) (src : Source) (v : Word) {t : State} {w : Word} (ht : s.touch src = t)
    (hw : fix v 0 2 0 = w) (ho : s.opens src F.SEC_DBG_REQ.addr w = true) (h1 : t.cur ≠ 2) (h2 : t.sec.dbgBy = srcCode src) :
    exec (.dbgReqOff src v) s = .next (State.follow ((t.put F.SEC_DBG_REQ 0).dbgOff (srcCode src)) s) := by
  rw [on_dbgReqOff hon, hw, dbg_write ht hw (by decide) ho]
  unfold State.dbgReq
  rw [if_neg (by simp [h1])]
  simp only [h2, if_true]

/-- REQ 1: observe (R461). -/
theorem does_dbgReqObserve (hon : s.on = true) (src : Source) (v : Word) {t : State} {w : Word} (ht : s.touch src = t)
    (hw : fix v 0 2 1 = w) (ho : s.opens src F.SEC_DBG_REQ.addr w = true) (h1 : t.cur ≠ 2) :
    exec (.dbgReqObserve src v) s = .next (State.follow ((t.put F.SEC_DBG_REQ 1).dbgGiveUp.dbgTo 1 (srcCode src)) s) := by
  rw [on_dbgReqObserve hon, hw, dbg_write ht hw (by decide) ho]
  unfold State.dbgReq
  rw [if_neg (by simp [h1])]
  simp only [Nat.one_ne_zero, if_false, if_true]

/-- In Doze a request is refused (R461). -/
theorem refuses_dbgReqObserve (hon : s.on = true) (src : Source) (v : Word) {t : State} {w : Word} (ht : s.touch src = t)
    (hw : fix v 0 2 1 = w) (ho : s.opens src F.SEC_DBG_REQ.addr w = true) (h1 : t.cur = 2) :
    exec (.dbgReqObserve src v) s = .next (State.follow t s) := by
  rw [on_dbgReqObserve hon, hw, dbg_write ht hw (by decide) ho]
  unfold State.dbgReq
  rw [if_pos (Or.inl h1)]

/-- REQ 2: the front end faults, transmission is muted, and the entry waits for the drains (R463). -/
theorem does_dbgReqIntrusive (hon : s.on = true) (src : Source) (v : Word) {t u : State} {w : Word} (ht : s.touch src = t)
    (hw : fix v 0 2 2 = w) (ho : s.opens src F.SEC_DBG_REQ.addr w = true) (h1 : t.cur ≠ 2) (h2 : t.dbg ≠ 2)
    (hu : t.put F.SEC_DBG_REQ 2 = u) :
    exec (.dbgReqIntrusive src v) s = .next (State.follow (State.txCause (State.feSet
      { u with sec := { u.sec with dbgWait := some (srcCode src) } } feDEBUG) txDEBUG true) s) := by
  rw [on_dbgReqIntrusive hon, hw, dbg_write ht hw (by decide) ho]
  unfold State.dbgReq
  rw [if_neg (by simp [h1])]
  simp only [hu, h2, if_false, show ¬(2 : Nat) = 0 from by decide, show ¬(2 : Nat) = 1 from by decide]

/-- Every drain is low: the debug state is intrusive (R463). -/
theorem does_dbgIntrusiveEnter (hon : s.on = true) {n : Nat} (h : s.sec.dbgWait = some n) (h1 : s.pins.drain = 0) :
    exec .dbgIntrusiveEnter s = .next (State.follow (State.dbgTo { s with sec := { s.sec with dbgWait := none } } 2 n) s) := by
  rw [on_dbgIntrusiveEnter hon]
  unfold State.dbgEnter
  simp only [h, h1, if_true]

end Sys2Proof.Machine
end

