-- ==== Sys2Proof/Laws/MovesPowerCmds.lean ====
section
/-! SUPPORT. What each operation of Machine/PowerCmds.lean may change. -/

namespace Sys2Proof.Machine

set_option linter.all false

theorem reqWrite_moves (src : Source) (v : Word) (code : Nat) (s : State) : Moves 0xfffffffdffffffb s (reqWrite src v code s) := by
  unfold reqWrite
  repeat' first
    | with_reducible assumption
    | with_reducible exact Moves.refl _ _
    | decide
    | with_reducible apply Moves.step (State.busWrite_moves ..)

end Sys2Proof.Machine
end

