-- ==== Sys2Proof/Laws/ExecPowerCmds.lean ====
section
/-! SUPPORT. What each command of Machine/PowerCmds.lean may change. -/

namespace Sys2Proof.Machine

set_option linter.all false

theorem execStateReqDryDock_moves (src : Source) (v : Word) (s : State) (t : State) (h : execStateReqDryDock src v s = .next t) :
    Moves 0xfffffffdffffffb s t := by
  unfold execStateReqDryDock at h
  refine acting_moves (by decide) (fun _ => ?_) h
  repeat' first
    | with_reducible assumption
    | with_reducible exact Moves.refl _ _
    | decide
    | unfold reqWrite
    | with_reducible apply Moves.step (State.busWrite_Pwr _ _ _ (by first | decide | (simp only [F.PWR_STATE_REQ_REQ]; omega) | (simp only [F.PWR_STATE_REQ_REQ]; split <;> decide) | (simp only [F.PWR_STATE_REQ_REQ]; (repeat' split) <;> omega)))

theorem execStateReqDoze_moves (src : Source) (v : Word) (s : State) (t : State) (h : execStateReqDoze src v s = .next t) :
    Moves 0xfffffffdffffffb s t := by
  unfold execStateReqDoze at h
  refine acting_moves (by decide) (fun _ => ?_) h
  repeat' first
    | with_reducible assumption
    | with_reducible exact Moves.refl _ _
    | decide
    | unfold reqWrite
    | with_reducible apply Moves.step (State.busWrite_Pwr _ _ _ (by first | decide | (simp only [F.PWR_STATE_REQ_REQ]; omega) | (simp only [F.PWR_STATE_REQ_REQ]; split <;> decide) | (simp only [F.PWR_STATE_REQ_REQ]; (repeat' split) <;> omega)))

theorem execStateReqQuiet_moves (src : Source) (v : Word) (s : State) (t : State) (h : execStateReqQuiet src v s = .next t) :
    Moves 0xfffffffdffffffb s t := by
  unfold execStateReqQuiet at h
  refine acting_moves (by decide) (fun _ => ?_) h
  repeat' first
    | with_reducible assumption
    | with_reducible exact Moves.refl _ _
    | decide
    | unfold reqWrite
    | with_reducible apply Moves.step (State.busWrite_Pwr _ _ _ (by first | decide | (simp only [F.PWR_STATE_REQ_REQ]; omega) | (simp only [F.PWR_STATE_REQ_REQ]; split <;> decide) | (simp only [F.PWR_STATE_REQ_REQ]; (repeat' split) <;> omega)))

theorem execStateReqRun_moves (src : Source) (v : Word) (s : State) (t : State) (h : execStateReqRun src v s = .next t) :
    Moves 0xfffffffdffffffb s t := by
  unfold execStateReqRun at h
  refine acting_moves (by decide) (fun _ => ?_) h
  repeat' first
    | with_reducible assumption
    | with_reducible exact Moves.refl _ _
    | decide
    | unfold reqWrite
    | with_reducible apply Moves.step (State.busWrite_Pwr _ _ _ (by first | decide | (simp only [F.PWR_STATE_REQ_REQ]; omega) | (simp only [F.PWR_STATE_REQ_REQ]; split <;> decide) | (simp only [F.PWR_STATE_REQ_REQ]; (repeat' split) <;> omega)))

theorem execStateReqReserved_moves (src : Source) (v : Word) (s : State) (t : State) (h : execStateReqReserved src v s = .next t) :
    Moves 0xfffffffdffffffb s t := by
  unfold execStateReqReserved at h
  refine acting_moves (by decide) (fun _ => ?_) h
  repeat' first
    | with_reducible assumption
    | with_reducible exact Moves.refl _ _
    | decide
    | with_reducible apply Moves.ite
    | unfold reqWrite
    | with_reducible apply Moves.step (State.busWrite_Pwr _ _ _ (by first | decide | (simp only [F.PWR_STATE_REQ_REQ]; omega) | (simp only [F.PWR_STATE_REQ_REQ]; split <;> decide) | (simp only [F.PWR_STATE_REQ_REQ]; (repeat' split) <;> omega)))
    | split
    | (with_reducible refine Moves.snd (by assumption) ?_)
    | (with_reducible refine Moves.fst (by assumption) ?_)

theorem execStateTransitionComplete_moves (s : State) (t : State) (h : execStateTransitionComplete s = .next t) :
    Moves 0xfffffffdffffffb s t := by
  unfold execStateTransitionComplete at h
  refine acting_moves (by decide) (fun _ => ?_) h
  repeat' first
    | with_reducible assumption
    | with_reducible exact Moves.refl _ _
    | decide
    | with_reducible apply Moves.step (State.transComplete_moves ..)

theorem execRunOffWrite_moves (src : Source) (v : Word) (s : State) (t : State) (h : execRunOffWrite src v s = .next t) :
    Moves 0xfffffffdffffffb s t := by
  unfold execRunOffWrite at h
  refine acting_moves (by decide) (fun _ => ?_) h
  repeat' first
    | with_reducible assumption
    | with_reducible exact Moves.refl _ _
    | decide
    | with_reducible apply Moves.step (State.busWrite_Pwr _ _ _ (by first | decide | (simp only [F.PWR_RUN_OFF_FHA]; omega) | (simp only [F.PWR_RUN_OFF_FHA]; split <;> decide) | (simp only [F.PWR_RUN_OFF_FHA]; (repeat' split) <;> omega)))

theorem execAvsUpdate_moves (slacks : List (Fin 8 × BitVec 16)) (paces : List (Fin 4 × BitVec 16)) (s : State) (t : State) (h : execAvsUpdate slacks paces s = .next t) :
    Moves 0x80524268d02a0a3 s t := by
  unfold execAvsUpdate at h
  refine acting_moves (by decide) (fun _ => ?_) h
  repeat' first
    | with_reducible assumption
    | with_reducible exact Moves.refl _ _
    | decide
    | with_reducible apply Moves.step (State.avsUpdate_moves ..)

theorem execAvsTransactionDone_moves (answered warning : Bool) (s : State) (t : State) (h : execAvsTransactionDone answered warning s = .next t) :
    Moves 0x8d72aa79d1ba9a3 s t := by
  unfold execAvsTransactionDone at h
  refine acting_moves (by decide) (fun _ => ?_) h
  repeat' first
    | with_reducible assumption
    | with_reducible exact Moves.refl _ _
    | decide
    | with_reducible apply Moves.step (State.avsDone_moves ..)

theorem execAvsCeiling_moves (s : State) (t : State) (h : execAvsCeiling s = .next t) :
    Moves 0x8d7aaa7dd1ba9e2 s t := by
  unfold execAvsCeiling at h
  refine acting_moves (by decide) (fun _ => ?_) h
  repeat' first
    | with_reducible assumption
    | with_reducible exact Moves.refl _ _
    | decide
    | with_reducible apply Moves.step (State.avsCeiling_moves ..)

theorem execAvsCeilClear_moves (s : State) (t : State) (h : execAvsCeilClear s = .next t) :
    Moves 0x8d7aaa7dd1ba9e2 s t := by
  unfold execAvsCeilClear at h
  refine acting_moves (by decide) (fun _ => ?_) h
  repeat' first
    | with_reducible assumption
    | with_reducible exact Moves.refl _ _
    | decide
    | with_reducible apply Moves.step (State.avsCeilClear_moves ..)

theorem execPowerEstimate_moves (mw : BitVec 20) (s : State) (t : State) (h : execPowerEstimate mw s = .next t) :
    Moves 0x8d72aa79d1ba9a3 s t := by
  unfold execPowerEstimate at h
  refine acting_moves (by decide) (fun _ => ?_) h
  repeat' first
    | with_reducible assumption
    | with_reducible exact Moves.refl _ _
    | decide
    | with_reducible apply Moves.step (State.powerEstimate_moves ..)

end Sys2Proof.Machine
end

