-- ==== Sys2Proof/Laws/OnPowerCmds.lean ====
section
/-! SUPPORT. What the commands of Machine/PowerCmds.lean answer while the device acts. -/

namespace Sys2Proof.Machine

set_option linter.all false

theorem on_stateReqDryDock {s : State} (hon : s.on = true) (src : Source) (v : Word) :
    exec (.stateReqDryDock src v) s = .next (State.follow (reqWrite src v 1 s) s) := by
  show execStateReqDryDock src v s = _
  exact acting_on hon

theorem on_stateReqDoze {s : State} (hon : s.on = true) (src : Source) (v : Word) :
    exec (.stateReqDoze src v) s = .next (State.follow (reqWrite src v 2 s) s) := by
  show execStateReqDoze src v s = _
  exact acting_on hon

theorem on_stateReqQuiet {s : State} (hon : s.on = true) (src : Source) (v : Word) :
    exec (.stateReqQuiet src v) s = .next (State.follow (reqWrite src v 3 s) s) := by
  show execStateReqQuiet src v s = _
  exact acting_on hon

theorem on_stateReqRun {s : State} (hon : s.on = true) (src : Source) (v : Word) :
    exec (.stateReqRun src v) s = .next (State.follow (reqWrite src v 4 s) s) := by
  show execStateReqRun src v s = _
  exact acting_on hon

theorem on_stateReqReserved {s : State} (hon : s.on = true) (src : Source) (v : Word) :
    exec (.stateReqReserved src v) s = .next (State.follow (reqWrite src v (if 5 ≤ v.toNat % 8 then v.toNat % 8 else 0) s) s) := by
  show execStateReqReserved src v s = _
  exact acting_on hon

theorem on_stateTransitionComplete {s : State} (hon : s.on = true)  :
    exec (.stateTransitionComplete) s = .next (State.follow (State.transComplete s) s) := by
  show execStateTransitionComplete  s = _
  exact acting_on hon

theorem on_runOffWrite {s : State} (hon : s.on = true) (src : Source) (v : Word) :
    exec (.runOffWrite src v) s = .next (State.follow (s.busWrite src F.PWR_RUN_OFF_FHA.addr v) s) := by
  show execRunOffWrite src v s = _
  exact acting_on hon

theorem on_avsUpdate {s : State} (hon : s.on = true) (slacks : List (Fin 8 × BitVec 16)) (paces : List (Fin 4 × BitVec 16)) :
    exec (.avsUpdate slacks paces) s = .next (State.follow (s.avsUpdate (slacks.map (fun e => (e.1.val, e.2.toNat))) (paces.map (fun e => (e.1.val, e.2.toNat)))) s) := by
  show execAvsUpdate slacks paces s = _
  exact acting_on hon

theorem on_avsTransactionDone {s : State} (hon : s.on = true) (answered warning : Bool) :
    exec (.avsTransactionDone answered warning) s = .next (State.follow (s.avsDone answered warning) s) := by
  show execAvsTransactionDone answered warning s = _
  exact acting_on hon

theorem on_avsCeiling {s : State} (hon : s.on = true)  :
    exec (.avsCeiling) s = .next (State.follow (State.avsCeiling s) s) := by
  show execAvsCeiling  s = _
  exact acting_on hon

theorem on_avsCeilClear {s : State} (hon : s.on = true)  :
    exec (.avsCeilClear) s = .next (State.follow (State.avsCeilClear s) s) := by
  show execAvsCeilClear  s = _
  exact acting_on hon

theorem on_powerEstimate {s : State} (hon : s.on = true) (mw : BitVec 20) :
    exec (.powerEstimate mw) s = .next (State.follow (s.powerEstimate mw.toNat) s) := by
  show execPowerEstimate mw s = _
  exact acting_on hon

end Sys2Proof.Machine
end

