-- ==== Sys2Proof/Laws/DoesPower.lean ====
section
/-! SUPPORT. What the commands of the power states, AVS and the surge budget do where they take effect. -/

namespace Sys2Proof.Machine

set_option linter.all false

variable {s : State}

theorem req_write {src : Source} {v : Word} {code : Nat} {t : State} {w : Word} (ht : s.touch src = t) (hw : fix v 0 3 code = w)
    (hc : code < 8) (ho : s.opens src F.PWR_STATE_REQ_REQ.addr w = true) :
    reqWrite src v code s = t.powerRequest code (bitsAt w.toNat 4 1) := by
  unfold reqWrite
  rw [hw, State.opens_Pwr ho (by decide) (by decide) (by decide), ht]
  unfold State.writePwr
  rw [if_pos (by decide), show bitsAt w.toNat 0 3 = code from by rw [← hw, bitsAt_fix _ _ (by decide)]; omega]

/-- A request that can be met starts its transition. -/
theorem does_stateReqDryDock (hon : s.on = true) (src : Source) (v : Word) {t : State} {w : Word} (ht : s.touch src = t)
    (hw : fix v 0 3 1 = w) (ho : s.opens src F.PWR_STATE_REQ_REQ.addr w = true) (h1 : t.reqBad 1 = false)
    (h2 : t.flag F.PWR_STATE_BUSY = false) (h3 : t.cur ≠ 1) :
    exec (.stateReqDryDock src v) s = .next (State.follow (t.transStart 1 (bitsAt w.toNat 4 1) 1) s) := by
  rw [on_stateReqDryDock hon, req_write ht hw (by decide) ho]
  unfold State.powerRequest
  rw [if_neg (by simp [h1]), if_neg (by simp [h2]), if_neg (Ne.symm h3)]

theorem does_stateReqDoze (hon : s.on = true) (src : Source) (v : Word) {t : State} {w : Word} (ht : s.touch src = t)
    (hw : fix v 0 3 2 = w) (ho : s.opens src F.PWR_STATE_REQ_REQ.addr w = true) (h1 : t.reqBad 2 = false)
    (h2 : t.flag F.PWR_STATE_BUSY = false) (h3 : t.cur ≠ 2) :
    exec (.stateReqDoze src v) s = .next (State.follow (t.transStart 2 (bitsAt w.toNat 4 1) 1) s) := by
  rw [on_stateReqDoze hon, req_write ht hw (by decide) ho]
  unfold State.powerRequest
  rw [if_neg (by simp [h1]), if_neg (by simp [h2]), if_neg (Ne.symm h3)]

theorem does_stateReqQuiet (hon : s.on = true) (src : Source) (v : Word) {t : State} {w : Word} (ht : s.touch src = t)
    (hw : fix v 0 3 3 = w) (ho : s.opens src F.PWR_STATE_REQ_REQ.addr w = true) (h1 : t.reqBad 3 = false)
    (h2 : t.flag F.PWR_STATE_BUSY = false) (h3 : t.cur ≠ 3) :
    exec (.stateReqQuiet src v) s = .next (State.follow (t.transStart 3 (bitsAt w.toNat 4 1) 1) s) := by
  rw [on_stateReqQuiet hon, req_write ht hw (by decide) ho]
  unfold State.powerRequest
  rw [if_neg (by simp [h1]), if_neg (by simp [h2]), if_neg (Ne.symm h3)]

theorem does_stateReqRun (hon : s.on = true) (src : Source) (v : Word) {t : State} {w : Word} (ht : s.touch src = t)
    (hw : fix v 0 3 4 = w) (ho : s.opens src F.PWR_STATE_REQ_REQ.addr w = true) (h1 : t.reqBad 4 = false)
    (h2 : t.flag F.PWR_STATE_BUSY = false) (h3 : t.cur ≠ 4) :
    exec (.stateReqRun src v) s = .next (State.follow (t.transStart 4 (bitsAt w.toNat 4 1) 1) s) := by
  rw [on_stateReqRun hon, req_write ht hw (by decide) ho]
  unfold State.powerRequest
  rw [if_neg (by simp [h1]), if_neg (by simp [h2]), if_neg (Ne.symm h3)]

/-- A request held while a transition or the boot runs (R55). -/
theorem holds_stateReqRun (hon : s.on = true) (src : Source) (v : Word) {t : State} {w : Word} (ht : s.touch src = t)
    (hw : fix v 0 3 4 = w) (ho : s.opens src F.PWR_STATE_REQ_REQ.addr w = true) (h1 : t.reqBad 4 = false)
    (h2 : t.flag F.PWR_STATE_BUSY = true) :
    exec (.stateReqRun src v) s = .next (State.follow { t with power := { t.power with
      pendReq := if 4 = t.get F.PWR_STATE_TGT then none else some (4, bitsAt w.toNat 4 1) } } s) := by
  rw [on_stateReqRun hon, req_write ht hw (by decide) ho]
  unfold State.powerRequest
  rw [if_neg (by simp [h1]), if_pos h2]

/-- A request that cannot be met is refused (R52, R54). -/
theorem refuses_stateReqRun (hon : s.on = true) (src : Source) (v : Word) {t : State} {w : Word} (ht : s.touch src = t)
    (hw : fix v 0 3 4 = w) (ho : s.opens src F.PWR_STATE_REQ_REQ.addr w = true) (h1 : t.reqBad 4 = true) :
    exec (.stateReqRun src v) s = .next (State.follow (t.raise 0x0107 0) s) := by
  rw [on_stateReqRun hon, req_write ht hw (by decide) ho]
  unfold State.powerRequest
  rw [if_pos h1]; unfold State.reqRefuse; rfl

theorem does_stateReqReserved (hon : s.on = true) (src : Source) (v : Word) {t : State} {w : Word} (ht : s.touch src = t)
    (hw : fix v 0 3 (if 5 ≤ v.toNat % 8 then v.toNat % 8 else 0) = w) (ho : s.opens src F.PWR_STATE_REQ_REQ.addr w = true) :
    exec (.stateReqReserved src v) s = .next (State.follow (t.raise 0x0107 0) s) := by
  rw [on_stateReqReserved hon, req_write ht hw (by split <;> omega) ho]
  unfold State.powerRequest
  rw [if_pos (by unfold State.reqBad; split <;> simp; omega)]; unfold State.reqRefuse; rfl

theorem does_stateTransitionComplete (hon : s.on = true) {target brick cause : Nat}
    (h : s.power.trans = some ⟨target, brick, cause, false⟩) (h1 : s.quadsOff = true)
    (h2 : s.cur = 2 → 3 ≤ target → s.losLocked = true ∧ s.boot.calDone = true)
    (h3 : ¬(target = 2 ∧ s.up domMON = true ∧ s.pins.drain ≠ 0)) :
    exec .stateTransitionComplete s = .next (State.follow (s.enterState target brick cause (s.cur == 2)).pendStart s) := by
  rw [on_stateTransitionComplete hon]
  unfold State.transComplete
  simp only [h]
  rw [if_neg (by
    by_cases a : s.cur = 2
    · by_cases b : 3 ≤ target
      · simp [h1, h2 a b]
      · simp [h1]; omega
    · simp [h1, a]), if_neg h3]

/-- The MON interlock refuses a transition to Doze while a drain pin is driven (R50). -/
theorem refuses_stateTransitionComplete (hon : s.on = true) {brick cause : Nat} (h : s.power.trans = some ⟨2, brick, cause, false⟩)
    (h1 : s.quadsOff = true) (h3 : s.up domMON = true) (h4 : s.pins.drain ≠ 0) :
    exec .stateTransitionComplete s = .next (State.follow (State.pendStart (State.raise
      ((State.putb { s with power := { s.power with trans := none, leftRun := none } } F.PWR_STATE_BUSY false).put F.PWR_STATE_TGT
        s.cur) 0x0106 0)) s) := by
  rw [on_stateTransitionComplete hon]
  unfold State.transComplete
  simp only [h]
  rw [if_neg (by simp [h1]), if_pos ⟨trivial, h3, h4⟩]
  unfold State.monInterlock
  simp only
  rw [show State.cur { s with power := { s.power with trans := none, leftRun := none } } = s.cur from (rfl)]

theorem does_runOffWrite (hon : s.on = true) (src : Source) (v : Word) {t : State} (ht : s.touch src = t)
    (ho : s.opens src F.PWR_RUN_OFF_FHA.addr v = true) (h : (bitAt v.toNat 1 && bitAt v.toNat 2) = false) :
    exec (.runOffWrite src v) s = .next (State.follow
      ((t.setWord F.PWR_RUN_OFF_FHA.addr (BitVec.ofNat 32 (v.toNat % 128))).runOffApply.regrade 8) s) := by
  rw [on_runOffWrite hon, State.opens_Pwr ho (by decide) (by decide) (by decide), ht]
  unfold State.writePwr
  rw [if_neg (by decide), if_pos (by decide)]
  unfold State.runOffWrite
  simp only [h, Bool.false_eq_true, if_false]
  rw [State.iff_not rfl]

/-- Both bricks off: FHA and FHB keep their values and the write is refused (R56). -/
theorem refuses_runOffWrite (hon : s.on = true) (src : Source) (v : Word) {t : State} (ht : s.touch src = t)
    (ho : s.opens src F.PWR_RUN_OFF_FHA.addr v = true) (h : (bitAt v.toNat 1 && bitAt v.toNat 2) = true) :
    exec (.runOffWrite src v) s = .next (State.follow
      ((State.raise (t.setWord F.PWR_RUN_OFF_FHA.addr (BitVec.ofNat 32
        (setBitAt (setBitAt v.toNat 1 (t.flag F.PWR_RUN_OFF_FHA)) 2 (t.flag F.PWR_RUN_OFF_FHB) % 128))) 0x0107 0).runOffApply.regrade 8)
      s) := by
  rw [on_runOffWrite hon, State.opens_Pwr ho (by decide) (by decide) (by decide), ht]
  unfold State.writePwr
  rw [if_neg (by decide), if_pos (by decide)]
  unfold State.runOffWrite
  simp only [h, if_true]
  rw [State.iff_of rfl]
  unfold State.reqRefuse; rfl

/-- The loop runs: the slacks and paces are taken and the target moves as R57 says. -/
theorem does_avsUpdate (hon : s.on = true) (slacks : List (Fin 8 × BitVec 16)) (paces : List (Fin 4 × BitVec 16)) {u : State}
    {slack pace target calm : Nat}
    (hu : (s.each (slacks.map (fun e => (e.1.val, e.2.toNat))) (fun t e =>
        if e.1 < 8 ∧ t.meterActive e.1 = true then t.meter e.1 e.2 else t)).each (paces.map (fun e => (e.1.val, e.2.toNat)))
      (fun t e => if e.1 < 4 ∧ t.up (domQCL e.1) = true then t.put (F.QCTL_C_PACE_PACE e.1) (e.2 % 65536) else t) = u)
    (h1 : u.power.avsStop = false) (h2 : u.flag F.PWR_STATE_BUSY = false) (h3 : u.avsSlack = some slack)
    (h4 : minOf 65535 (((List.range 4).filter (fun c => u.hasCluster c && u.up (domQCL c))).map
      (fun c => u.get (F.QCTL_C_PACE_PACE c))) = pace) (h5 : u.avsNext slack pace = (target, calm)) :
    exec (.avsUpdate slacks paces) s = .next (
      let t := u.put F.PWR_AVS_STAT_TARGET_MV target
      State.follow ((State.avsWatch { t with power := { t.power with calm := calm } }
        (decide (slack < 25 * u.get F.PWR_AVS_CTL_RAISE_NS) || decide (pace < 1600))).emit (.avs target)) s) := by
  rw [on_avsUpdate hon]
  unfold State.avsUpdate
  simp only [hu, h1, h2, h3, h4, h5, Bool.false_eq_true, Bool.false_and, if_false]

/-- No meter is active: the target is IDLE_MV (R57). -/
theorem does_avsUpdate_idle (hon : s.on = true) (slacks : List (Fin 8 × BitVec 16)) (paces : List (Fin 4 × BitVec 16)) {u : State}
    (hu : (s.each (slacks.map (fun e => (e.1.val, e.2.toNat))) (fun t e =>
        if e.1 < 8 ∧ t.meterActive e.1 = true then t.meter e.1 e.2 else t)).each (paces.map (fun e => (e.1.val, e.2.toNat)))
      (fun t e => if e.1 < 4 ∧ t.up (domQCL e.1) = true then t.put (F.QCTL_C_PACE_PACE e.1) (e.2 % 65536) else t) = u)
    (h1 : u.power.avsStop = false) (h2 : u.flag F.PWR_STATE_BUSY = false) (h3 : u.avsSlack = none) :
    exec (.avsUpdate slacks paces) s = .next (
      let t := u.put F.PWR_AVS_STAT_TARGET_MV (u.get F.PWR_AVS_CTL_IDLE_MV)
      State.follow (State.emit { t with power := { t.power with calm := 0, ceilSince := none } }
        (.avs (t.get F.PWR_AVS_STAT_TARGET_MV))) s) := by
  rw [on_avsUpdate hon]
  unfold State.avsUpdate
  simp only [hu, h1, h2, h3, Bool.false_eq_true, Bool.false_and, if_false]

/-- An answer without a warning where none stood before and the loop runs: the count of missing answers returns to 0. -/
theorem does_avsTransactionDone (hon : s.on = true) (h1 : s.power.avsStop = false) (h2 : s.power.avsWarn = false) :
    exec (.avsTransactionDone true false) s = .next (State.follow { s with power := { s.power with
      noAns := 0, avsStop := false, avsWarn := false } } s) := by
  rw [on_avsTransactionDone hon]
  unfold State.avsDone
  simp only [h1, h2, Bool.true_eq_false, Bool.false_eq_true, and_false, if_false, and_true]

/-- The third missing answer stops the loop, raises AVS_NORESP and requests level 1 (R59). -/
theorem does_avsTransactionDone_none (hon : s.on = true) (warning : Bool) (h1 : s.power.avsStop = false) (h2 : s.power.noAns = 2) :
    exec (.avsTransactionDone false warning) s = .next (State.follow
      (((State.putb { s with power := { s.power with noAns := 3, avsStop := true } } F.PWR_AVS_STAT_NORESP true).raise 0x0103
        0).throttleReq F.THERM_REQ_AVS_NORESP 1) s) := by
  rw [on_avsTransactionDone hon]
  unfold State.avsDone
  simp only [h1, h2, if_true]
  rfl

/-- A warning of the regulator (R59). -/
theorem does_avsTransactionDone_warns (hon : s.on = true) (h1 : s.power.avsStop = false) (h2 : s.power.avsWarn = false) :
    exec (.avsTransactionDone true true) s = .next (State.follow ((State.raise { s with power := { s.power with
      noAns := 0, avsStop := false, avsWarn := true } } 0x0108 0).throttleReq F.THERM_REQ_AVS_ALERT 1) s) := by
  rw [on_avsTransactionDone hon]
  unfold State.avsDone
  simp only [h1, h2, Bool.true_eq_false, Bool.false_eq_true, and_true, if_false, if_true]

theorem does_avsCeiling (hon : s.on = true) {a : Nat} (h : s.power.ceilSince = some a) (h1 : s.flag F.PWR_AVS_STAT_CEIL = false) :
    exec .avsCeiling s = .next (State.follow
      ((((s.elapseTo (a + msU 1)).putb F.PWR_AVS_STAT_CEIL true).raise 0x0102 0).throttleReq F.THERM_REQ_AVS_CEIL 1) s) := by
  rw [on_avsCeiling hon]
  unfold State.avsCeiling
  simp only [h, h1, Bool.false_eq_true, if_false]

theorem does_avsCeilClear (hon : s.on = true) {a : Nat} (h : s.power.okSince = some a) (h1 : s.flag F.PWR_AVS_STAT_CEIL = true) :
    exec .avsCeilClear s = .next (State.follow
      (((s.elapseTo (a + msU 10)).putb F.PWR_AVS_STAT_CEIL false).throttleReq F.THERM_REQ_AVS_CEIL 0) s) := by
  rw [on_avsCeilClear hon]
  unfold State.avsCeilClear
  simp only [h, h1, if_true]

theorem does_powerEstimate (hon : s.on = true) (mw : BitVec 20) :
    exec (.powerEstimate mw) s = .next (State.follow (State.surgeCheck
      ((s.put F.PWR_EST_P_MW mw.toNat).surgeTo (clampInt 0 900000000 ((s.power.surge : Int) - ((mw.toNat : Int) - 52000))).toNat)) s) := by
  rw [on_powerEstimate hon]
  unfold State.powerEstimate
  simp only [Nat.mod_eq_of_lt mw.isLt]

end Sys2Proof.Machine
end

