-- ==== Sys2Proof/Laws/ExecQuayCmds.lean ====
section
/-! SUPPORT. What each command of Machine/QuayCmds.lean may change. -/

namespace Sys2Proof.Machine

set_option linter.all false

theorem execNop_moves (q : Fin 96) (s : State) (t : State) (h : execNop q s = .next t) :
    Moves 0x8056d239d0ae5a2 s t := by
  unfold execNop at h
  refine acting_moves (by decide) (fun _ => ?_) h
  repeat' first
    | with_reducible assumption
    | with_reducible exact Moves.refl _ _
    | decide
    | with_reducible apply Moves.step (State.coreStep_moves ..)

theorem execMac_moves (q : Fin 96) (s : State) (t : State) (h : execMac q s = .next t) :
    Moves 0x8056d239d0ae5a2 s t := by
  unfold execMac at h
  refine acting_moves (by decide) (fun _ => ?_) h
  repeat' first
    | with_reducible assumption
    | with_reducible exact Moves.refl _ _
    | decide
    | with_reducible apply Moves.step (State.coreStep_moves ..)

theorem execMacc_moves (q : Fin 96) (s : State) (t : State) (h : execMacc q s = .next t) :
    Moves 0x8056d239d0ae5a2 s t := by
  unfold execMacc at h
  refine acting_moves (by decide) (fun _ => ?_) h
  repeat' first
    | with_reducible assumption
    | with_reducible exact Moves.refl _ _
    | decide
    | with_reducible apply Moves.step (State.coreStep_moves ..)

theorem execMsu_moves (q : Fin 96) (s : State) (t : State) (h : execMsu q s = .next t) :
    Moves 0x8056d239d0ae5a2 s t := by
  unfold execMsu at h
  refine acting_moves (by decide) (fun _ => ?_) h
  repeat' first
    | with_reducible assumption
    | with_reducible exact Moves.refl _ _
    | decide
    | with_reducible apply Moves.step (State.coreStep_moves ..)

theorem execMul_moves (q : Fin 96) (s : State) (t : State) (h : execMul q s = .next t) :
    Moves 0x8056d239d0ae5a2 s t := by
  unfold execMul at h
  refine acting_moves (by decide) (fun _ => ?_) h
  repeat' first
    | with_reducible assumption
    | with_reducible exact Moves.refl _ _
    | decide
    | with_reducible apply Moves.step (State.coreStep_moves ..)

theorem execMulc_moves (q : Fin 96) (s : State) (t : State) (h : execMulc q s = .next t) :
    Moves 0x8056d239d0ae5a2 s t := by
  unfold execMulc at h
  refine acting_moves (by decide) (fun _ => ?_) h
  repeat' first
    | with_reducible assumption
    | with_reducible exact Moves.refl _ _
    | decide
    | with_reducible apply Moves.step (State.coreStep_moves ..)

theorem execMag2_moves (q : Fin 96) (s : State) (t : State) (h : execMag2 q s = .next t) :
    Moves 0x8056d239d0ae5a2 s t := by
  unfold execMag2 at h
  refine acting_moves (by decide) (fun _ => ?_) h
  repeat' first
    | with_reducible assumption
    | with_reducible exact Moves.refl _ _
    | decide
    | with_reducible apply Moves.step (State.coreStep_moves ..)

theorem execAdda_moves (q : Fin 96) (s : State) (t : State) (h : execAdda q s = .next t) :
    Moves 0x8056d239d0ae5a2 s t := by
  unfold execAdda at h
  refine acting_moves (by decide) (fun _ => ?_) h
  repeat' first
    | with_reducible assumption
    | with_reducible exact Moves.refl _ _
    | decide
    | with_reducible apply Moves.step (State.coreStep_moves ..)

theorem execZero_moves (q : Fin 96) (s : State) (t : State) (h : execZero q s = .next t) :
    Moves 0x8056d239d0ae5a2 s t := by
  unfold execZero at h
  refine acting_moves (by decide) (fun _ => ?_) h
  repeat' first
    | with_reducible assumption
    | with_reducible exact Moves.refl _ _
    | decide
    | with_reducible apply Moves.step (State.coreStep_moves ..)

theorem execShra_moves (q : Fin 96) (s : State) (t : State) (h : execShra q s = .next t) :
    Moves 0x8056d239d0ae5a2 s t := by
  unfold execShra at h
  refine acting_moves (by decide) (fun _ => ?_) h
  repeat' first
    | with_reducible assumption
    | with_reducible exact Moves.refl _ _
    | decide
    | with_reducible apply Moves.step (State.coreStep_moves ..)

theorem execNr_moves (q : Fin 96) (s : State) (t : State) (h : execNr q s = .next t) :
    Moves 0x8056d239d0ae5a2 s t := by
  unfold execNr at h
  refine acting_moves (by decide) (fun _ => ?_) h
  repeat' first
    | with_reducible assumption
    | with_reducible exact Moves.refl _ _
    | decide
    | with_reducible apply Moves.step (State.coreStep_moves ..)

theorem execNrc_moves (q : Fin 96) (s : State) (t : State) (h : execNrc q s = .next t) :
    Moves 0x8056d239d0ae5a2 s t := by
  unfold execNrc at h
  refine acting_moves (by decide) (fun _ => ?_) h
  repeat' first
    | with_reducible assumption
    | with_reducible exact Moves.refl _ _
    | decide
    | with_reducible apply Moves.step (State.coreStep_moves ..)

theorem execNro_moves (q : Fin 96) (s : State) (t : State) (h : execNro q s = .next t) :
    Moves 0x8056d239d0ae5a2 s t := by
  unfold execNro at h
  refine acting_moves (by decide) (fun _ => ?_) h
  repeat' first
    | with_reducible assumption
    | with_reducible exact Moves.refl _ _
    | decide
    | with_reducible apply Moves.step (State.coreStep_moves ..)

theorem execAdd_moves (q : Fin 96) (s : State) (t : State) (h : execAdd q s = .next t) :
    Moves 0x8056d239d0ae5a2 s t := by
  unfold execAdd at h
  refine acting_moves (by decide) (fun _ => ?_) h
  repeat' first
    | with_reducible assumption
    | with_reducible exact Moves.refl _ _
    | decide
    | with_reducible apply Moves.step (State.coreStep_moves ..)

theorem execSub_moves (q : Fin 96) (s : State) (t : State) (h : execSub q s = .next t) :
    Moves 0x8056d239d0ae5a2 s t := by
  unfold execSub at h
  refine acting_moves (by decide) (fun _ => ?_) h
  repeat' first
    | with_reducible assumption
    | with_reducible exact Moves.refl _ _
    | decide
    | with_reducible apply Moves.step (State.coreStep_moves ..)

theorem execCmul_moves (q : Fin 96) (s : State) (t : State) (h : execCmul q s = .next t) :
    Moves 0x8056d239d0ae5a2 s t := by
  unfold execCmul at h
  refine acting_moves (by decide) (fun _ => ?_) h
  repeat' first
    | with_reducible assumption
    | with_reducible exact Moves.refl _ _
    | decide
    | with_reducible apply Moves.step (State.coreStep_moves ..)

theorem execConj_moves (q : Fin 96) (s : State) (t : State) (h : execConj q s = .next t) :
    Moves 0x8056d239d0ae5a2 s t := by
  unfold execConj at h
  refine acting_moves (by decide) (fun _ => ?_) h
  repeat' first
    | with_reducible assumption
    | with_reducible exact Moves.refl _ _
    | decide
    | with_reducible apply Moves.step (State.coreStep_moves ..)

theorem execNeg_moves (q : Fin 96) (s : State) (t : State) (h : execNeg q s = .next t) :
    Moves 0x8056d239d0ae5a2 s t := by
  unfold execNeg at h
  refine acting_moves (by decide) (fun _ => ?_) h
  repeat' first
    | with_reducible assumption
    | with_reducible exact Moves.refl _ _
    | decide
    | with_reducible apply Moves.step (State.coreStep_moves ..)

theorem execMovv_moves (q : Fin 96) (s : State) (t : State) (h : execMovv q s = .next t) :
    Moves 0x8056d239d0ae5a2 s t := by
  unfold execMovv at h
  refine acting_moves (by decide) (fun _ => ?_) h
  repeat' first
    | with_reducible assumption
    | with_reducible exact Moves.refl _ _
    | decide
    | with_reducible apply Moves.step (State.coreStep_moves ..)

theorem execRot_moves (q : Fin 96) (s : State) (t : State) (h : execRot q s = .next t) :
    Moves 0x8056d239d0ae5a2 s t := by
  unfold execRot at h
  refine acting_moves (by decide) (fun _ => ?_) h
  repeat' first
    | with_reducible assumption
    | with_reducible exact Moves.refl _ _
    | decide
    | with_reducible apply Moves.step (State.coreStep_moves ..)

theorem execBcast_moves (q : Fin 96) (s : State) (t : State) (h : execBcast q s = .next t) :
    Moves 0x8056d239d0ae5a2 s t := by
  unfold execBcast at h
  refine acting_moves (by decide) (fun _ => ?_) h
  repeat' first
    | with_reducible assumption
    | with_reducible exact Moves.refl _ _
    | decide
    | with_reducible apply Moves.step (State.coreStep_moves ..)

theorem execOut_moves (q : Fin 96) (s : State) (t : State) (h : execOut q s = .next t) :
    Moves 0x8056d239d0ae5a2 s t := by
  unfold execOut at h
  refine acting_moves (by decide) (fun _ => ?_) h
  repeat' first
    | with_reducible assumption
    | with_reducible exact Moves.refl _ _
    | decide
    | with_reducible apply Moves.step (State.coreStep_moves ..)

theorem execLoop_moves (q : Fin 96) (s : State) (t : State) (h : execLoop q s = .next t) :
    Moves 0x8056d239d0ae5a2 s t := by
  unfold execLoop at h
  refine acting_moves (by decide) (fun _ => ?_) h
  repeat' first
    | with_reducible assumption
    | with_reducible exact Moves.refl _ _
    | decide
    | with_reducible apply Moves.step (State.coreStep_moves ..)

theorem execJmp_moves (q : Fin 96) (s : State) (t : State) (h : execJmp q s = .next t) :
    Moves 0x8056d239d0ae5a2 s t := by
  unfold execJmp at h
  refine acting_moves (by decide) (fun _ => ?_) h
  repeat' first
    | with_reducible assumption
    | with_reducible exact Moves.refl _ _
    | decide
    | with_reducible apply Moves.step (State.coreStep_moves ..)

theorem execMovr_moves (q : Fin 96) (s : State) (t : State) (h : execMovr q s = .next t) :
    Moves 0x8056d239d0ae5a2 s t := by
  unfold execMovr at h
  refine acting_moves (by decide) (fun _ => ?_) h
  repeat' first
    | with_reducible assumption
    | with_reducible exact Moves.refl _ _
    | decide
    | with_reducible apply Moves.step (State.coreStep_moves ..)

theorem execHalt_moves (q : Fin 96) (s : State) (t : State) (h : execHalt q s = .next t) :
    Moves 0x8056d239d0ae5a2 s t := by
  unfold execHalt at h
  refine acting_moves (by decide) (fun _ => ?_) h
  repeat' first
    | with_reducible assumption
    | with_reducible exact Moves.refl _ _
    | decide
    | with_reducible apply Moves.step (State.coreStep_moves ..)

theorem execIllegalBundle_moves (q : Fin 96) (s : State) (t : State) (h : execIllegalBundle q s = .next t) :
    Moves 0x8056d239d0ae5a2 s t := by
  unfold execIllegalBundle at h
  refine acting_moves (by decide) (fun _ => ?_) h
  repeat' first
    | with_reducible assumption
    | with_reducible exact Moves.refl _ _
    | decide
    | with_reducible apply Moves.step (State.coreIllegal_moves ..)

theorem execUnitDeal_moves (c : Fin 4) (s : State) (t : State) (h : execUnitDeal c s = .next t) :
    Moves 0x805ed22cd0ae5e2 s t := by
  unfold execUnitDeal at h
  refine acting_moves (by decide) (fun _ => ?_) h
  repeat' first
    | with_reducible assumption
    | with_reducible exact Moves.refl _ _
    | decide
    | with_reducible apply Moves.step (State.quayDeal_moves ..)

theorem execQuayWindowWrite_moves (src : Source) (q : Fin 96) (w : Fin 28672) (v : Word) (s : State) (t : State) (h : execQuayWindowWrite src q w v s = .next t) :
    Moves 0xc2526229d82a2a2 s t := by
  unfold execQuayWindowWrite at h
  refine acting_moves (by decide) (fun _ => ?_) h
  repeat' first
    | with_reducible assumption
    | with_reducible exact Moves.refl _ _
    | decide
    | with_reducible apply Moves.step (State.busWrite_Window _ _ _ (by simp only [coreBase]; omega))

theorem execCoreRunWrite_moves (src : Source) (q : Fin 96) (v : Word) (s : State) (t : State) (h : execCoreRunWrite src q v s = .next t) :
    Moves 0xc052d229d8aa5a2 s t := by
  unfold execCoreRunWrite at h
  refine acting_moves (by decide) (fun _ => ?_) h
  repeat' first
    | with_reducible assumption
    | with_reducible exact Moves.refl _ _
    | decide
    | with_reducible apply Moves.step (State.busWrite_Qctl _ _ _ (by first | decide | (simp only [F.QCTL_K_CTL_RUN]; omega) | (simp only [F.QCTL_K_CTL_RUN]; split <;> decide) | (simp only [F.QCTL_K_CTL_RUN]; (repeat' split) <;> omega)))

theorem execClusterCtlWrite_moves (src : Source) (c : Fin 4) (map : Bool) (v : Word) (s : State) (t : State) (h : execClusterCtlWrite src c map v s = .next t) :
    Moves 0xc052d229d8aa5a2 s t := by
  unfold execClusterCtlWrite at h
  refine acting_moves (by decide) (fun _ => ?_) h
  repeat' first
    | with_reducible assumption
    | with_reducible exact Moves.refl _ _
    | decide
    | with_reducible apply Moves.ite
    | with_reducible apply Moves.step (State.busWrite_Qctl _ _ _ (by cases map <;> simp only [F.QCTL_C_MAP_UNITS, F.QCTL_C_CTL_RUN, if_true, if_false, Bool.false_eq_true] <;> omega))
    | split
    | (with_reducible refine Moves.snd (by assumption) ?_)
    | (with_reducible refine Moves.fst (by assumption) ?_)

theorem execShadowTurn_moves (c : Fin 4) (s : State) (t : State) (h : execShadowTurn c s = .next t) :
    Moves 0x805ad22dd0aa5e2 s t := by
  unfold execShadowTurn at h
  refine acting_moves (by decide) (fun _ => ?_) h
  repeat' first
    | with_reducible assumption
    | with_reducible exact Moves.refl _ _
    | decide
    | with_reducible apply Moves.step (State.shadowTurn_moves ..)

theorem execCoreSwapGo_moves (src : Source) (c : Fin 4) (v : Word) (s : State) (t : State) (h : execCoreSwapGo src c v s = .next t) :
    Moves 0xc052d229d8aa5a2 s t := by
  unfold execCoreSwapGo at h
  refine acting_moves (by decide) (fun _ => ?_) h
  repeat' first
    | with_reducible assumption
    | with_reducible exact Moves.refl _ _
    | decide
    | with_reducible apply Moves.step (State.busWrite_Qctl _ _ _ (by first | decide | (simp only [F.QCTL_C_SWAP_GO]; omega) | (simp only [F.QCTL_C_SWAP_GO]; split <;> decide) | (simp only [F.QCTL_C_SWAP_GO]; (repeat' split) <;> omega)))

theorem execCoreSwapSwitch_moves (c : Fin 4) (s : State) (t : State) (h : execCoreSwapSwitch c s = .next t) :
    Moves 0x905a422cd42a4e2 s t := by
  unfold execCoreSwapSwitch at h
  refine acting_moves (by decide) (fun _ => ?_) h
  repeat' first
    | with_reducible assumption
    | with_reducible exact Moves.refl _ _
    | decide
    | with_reducible apply Moves.step (State.swapSwitch_moves ..)

end Sys2Proof.Machine
end

