-- ==== Sys2Proof/Laws/OnQuayCmds.lean ====
section
/-! SUPPORT. What the commands of Machine/QuayCmds.lean answer while the device acts. -/

namespace Sys2Proof.Machine

set_option linter.all false

theorem on_nop {s : State} (hon : s.on = true) (q : Fin 96) :
    exec (.nop q) s = .next (State.follow (s.coreStep q.val 0x00) s) := by
  show execNop q s = _
  exact acting_on hon

theorem on_mac {s : State} (hon : s.on = true) (q : Fin 96) :
    exec (.mac q) s = .next (State.follow (s.coreStep q.val 0x01) s) := by
  show execMac q s = _
  exact acting_on hon

theorem on_macc {s : State} (hon : s.on = true) (q : Fin 96) :
    exec (.macc q) s = .next (State.follow (s.coreStep q.val 0x02) s) := by
  show execMacc q s = _
  exact acting_on hon

theorem on_msu {s : State} (hon : s.on = true) (q : Fin 96) :
    exec (.msu q) s = .next (State.follow (s.coreStep q.val 0x03) s) := by
  show execMsu q s = _
  exact acting_on hon

theorem on_mul {s : State} (hon : s.on = true) (q : Fin 96) :
    exec (.mul q) s = .next (State.follow (s.coreStep q.val 0x04) s) := by
  show execMul q s = _
  exact acting_on hon

theorem on_mulc {s : State} (hon : s.on = true) (q : Fin 96) :
    exec (.mulc q) s = .next (State.follow (s.coreStep q.val 0x05) s) := by
  show execMulc q s = _
  exact acting_on hon

theorem on_mag2 {s : State} (hon : s.on = true) (q : Fin 96) :
    exec (.mag2 q) s = .next (State.follow (s.coreStep q.val 0x06) s) := by
  show execMag2 q s = _
  exact acting_on hon

theorem on_adda {s : State} (hon : s.on = true) (q : Fin 96) :
    exec (.adda q) s = .next (State.follow (s.coreStep q.val 0x07) s) := by
  show execAdda q s = _
  exact acting_on hon

theorem on_zero {s : State} (hon : s.on = true) (q : Fin 96) :
    exec (.zero q) s = .next (State.follow (s.coreStep q.val 0x08) s) := by
  show execZero q s = _
  exact acting_on hon

theorem on_shra {s : State} (hon : s.on = true) (q : Fin 96) :
    exec (.shra q) s = .next (State.follow (s.coreStep q.val 0x09) s) := by
  show execShra q s = _
  exact acting_on hon

theorem on_nr {s : State} (hon : s.on = true) (q : Fin 96) :
    exec (.nr q) s = .next (State.follow (s.coreStep q.val 0x10) s) := by
  show execNr q s = _
  exact acting_on hon

theorem on_nrc {s : State} (hon : s.on = true) (q : Fin 96) :
    exec (.nrc q) s = .next (State.follow (s.coreStep q.val 0x11) s) := by
  show execNrc q s = _
  exact acting_on hon

theorem on_nro {s : State} (hon : s.on = true) (q : Fin 96) :
    exec (.nro q) s = .next (State.follow (s.coreStep q.val 0x12) s) := by
  show execNro q s = _
  exact acting_on hon

theorem on_add {s : State} (hon : s.on = true) (q : Fin 96) :
    exec (.add q) s = .next (State.follow (s.coreStep q.val 0x18) s) := by
  show execAdd q s = _
  exact acting_on hon

theorem on_sub {s : State} (hon : s.on = true) (q : Fin 96) :
    exec (.sub q) s = .next (State.follow (s.coreStep q.val 0x19) s) := by
  show execSub q s = _
  exact acting_on hon

theorem on_cmul {s : State} (hon : s.on = true) (q : Fin 96) :
    exec (.cmul q) s = .next (State.follow (s.coreStep q.val 0x1A) s) := by
  show execCmul q s = _
  exact acting_on hon

theorem on_conj {s : State} (hon : s.on = true) (q : Fin 96) :
    exec (.conj q) s = .next (State.follow (s.coreStep q.val 0x1B) s) := by
  show execConj q s = _
  exact acting_on hon

theorem on_neg {s : State} (hon : s.on = true) (q : Fin 96) :
    exec (.neg q) s = .next (State.follow (s.coreStep q.val 0x1C) s) := by
  show execNeg q s = _
  exact acting_on hon

theorem on_movv {s : State} (hon : s.on = true) (q : Fin 96) :
    exec (.movv q) s = .next (State.follow (s.coreStep q.val 0x1D) s) := by
  show execMovv q s = _
  exact acting_on hon

theorem on_rot {s : State} (hon : s.on = true) (q : Fin 96) :
    exec (.rot q) s = .next (State.follow (s.coreStep q.val 0x1E) s) := by
  show execRot q s = _
  exact acting_on hon

theorem on_bcast {s : State} (hon : s.on = true) (q : Fin 96) :
    exec (.bcast q) s = .next (State.follow (s.coreStep q.val 0x1F) s) := by
  show execBcast q s = _
  exact acting_on hon

theorem on_out {s : State} (hon : s.on = true) (q : Fin 96) :
    exec (.out q) s = .next (State.follow (s.coreStep q.val 0x20) s) := by
  show execOut q s = _
  exact acting_on hon

theorem on_loop {s : State} (hon : s.on = true) (q : Fin 96) :
    exec (.loop q) s = .next (State.follow (s.coreStep q.val 0x30) s) := by
  show execLoop q s = _
  exact acting_on hon

theorem on_jmp {s : State} (hon : s.on = true) (q : Fin 96) :
    exec (.jmp q) s = .next (State.follow (s.coreStep q.val 0x31) s) := by
  show execJmp q s = _
  exact acting_on hon

theorem on_movr {s : State} (hon : s.on = true) (q : Fin 96) :
    exec (.movr q) s = .next (State.follow (s.coreStep q.val 0x32) s) := by
  show execMovr q s = _
  exact acting_on hon

theorem on_halt {s : State} (hon : s.on = true) (q : Fin 96) :
    exec (.halt q) s = .next (State.follow (s.coreStep q.val 0x3F) s) := by
  show execHalt q s = _
  exact acting_on hon

theorem on_illegalBundle {s : State} (hon : s.on = true) (q : Fin 96) :
    exec (.illegalBundle q) s = .next (State.follow (s.coreIllegal q.val) s) := by
  show execIllegalBundle q s = _
  exact acting_on hon

theorem on_unitDeal {s : State} (hon : s.on = true) (c : Fin 4) :
    exec (.unitDeal c) s = .next (State.follow (s.quayDeal c.val) s) := by
  show execUnitDeal c s = _
  exact acting_on hon

theorem on_quayWindowWrite {s : State} (hon : s.on = true) (src : Source) (q : Fin 96) (w : Fin 28672) (v : Word) :
    exec (.quayWindowWrite src q w v) s = .next (State.follow (s.busWrite src (coreBase q.val + 4 * w.val) v) s) := by
  show execQuayWindowWrite src q w v s = _
  exact acting_on hon

theorem on_coreRunWrite {s : State} (hon : s.on = true) (src : Source) (q : Fin 96) (v : Word) :
    exec (.coreRunWrite src q v) s = .next (State.follow (s.busWrite src (F.QCTL_K_CTL_RUN q.val).addr v) s) := by
  show execCoreRunWrite src q v s = _
  exact acting_on hon

theorem on_clusterCtlWrite {s : State} (hon : s.on = true) (src : Source) (c : Fin 4) (map : Bool) (v : Word) :
    exec (.clusterCtlWrite src c map v) s = .next (State.follow (s.busWrite src (if map then F.QCTL_C_MAP_UNITS c.val else F.QCTL_C_CTL_RUN c.val).addr v) s) := by
  show execClusterCtlWrite src c map v s = _
  exact acting_on hon

theorem on_shadowTurn {s : State} (hon : s.on = true) (c : Fin 4) :
    exec (.shadowTurn c) s = .next (State.follow (s.shadowTurn c.val) s) := by
  show execShadowTurn c s = _
  exact acting_on hon

theorem on_coreSwapGo {s : State} (hon : s.on = true) (src : Source) (c : Fin 4) (v : Word) :
    exec (.coreSwapGo src c v) s = .next (State.follow (s.busWrite src (F.QCTL_C_SWAP_GO c.val).addr (fixBit v 31)) s) := by
  show execCoreSwapGo src c v s = _
  exact acting_on hon

theorem on_coreSwapSwitch {s : State} (hon : s.on = true) (c : Fin 4) :
    exec (.coreSwapSwitch c) s = .next (State.follow (s.swapSwitch c.val) s) := by
  show execCoreSwapSwitch c s = _
  exact acting_on hon

end Sys2Proof.Machine
end

