-- ==== Sys2Proof/Laws/DoesQuay.lean ====
section
/-! SUPPORT. What the bundles of a Quay core and the clusters' commands do where they take effect. -/

namespace Sys2Proof.Machine

set_option linter.all false

variable {s : State}

theorem coreFault_illegal {q : Nat} {b : Bundle} : s.coreFault q b = 1 ↔ b.illegal = true := by
  unfold State.coreFault
  by_cases h : b.illegal = true
  · simp [h]
  · simp only [h, Bool.false_eq_true, if_false, iff_false]
    repeat' split
    all_goals simp

/-- A running core takes a bundle without a fault or a wait. -/
theorem core_does {q opc : Nat} {b : Bundle} {t : State} (h1 : s.coreRuns q = true) (hb : s.bundleAt q = b) (h2 : b.opc = opc)
    (h3 : s.coreFault q b = 0) (h4 : s.coreWaits q b = 0) (ht : (s.waitCount q).put (F.QCTL_K_STAT_WAIT q) 0 = t) :
    s.coreStep q opc = t.coreDo q b := by
  have l : b.illegal = false := by
    cases h : b.illegal
    · rfl
    · rw [coreFault_illegal.mpr h] at h3; omega
  unfold State.coreStep
  simp only [hb, h1, h2, l, Bool.not_false, Bool.and_self, beq_self_eq_true, if_true]
  unfold State.coreTake
  simp only [h3, h4, ne_eq, not_true_eq_false, if_false, ht]

/-- A bundle that cannot go on waits, and the core's registers stand (R209). -/
theorem core_waits {q opc w : Nat} {b : Bundle} (h1 : s.coreRuns q = true) (hb : s.bundleAt q = b) (h2 : b.opc = opc)
    (h3 : s.coreFault q b = 0) (h4 : s.coreWaits q b = w) (h5 : w ≠ 0) : s.coreStep q opc = s.coreWait q w := by
  have l : b.illegal = false := by
    cases h : b.illegal
    · rfl
    · rw [coreFault_illegal.mpr h] at h3; omega
  unfold State.coreStep
  simp only [hb, h1, h2, l, Bool.not_false, Bool.and_self, beq_self_eq_true, if_true]
  unfold State.coreTake
  simp only [h3, h4, h5, ne_eq, not_true_eq_false, not_false_eq_true, if_false, if_true]

/-- A bundle with a fault has no effect: the core stops on it (R211). -/
theorem core_faults {q opc f : Nat} {b : Bundle} (h1 : s.coreRuns q = true) (hb : s.bundleAt q = b) (h2 : b.opc = opc)
    (h3 : s.coreFault q b = f) (h4 : 2 ≤ f) : s.coreStep q opc = s.coreFaults q f := by
  have l : b.illegal = false := by
    cases h : b.illegal
    · rfl
    · rw [coreFault_illegal.mpr h] at h3; omega
  unfold State.coreStep
  simp only [hb, h1, h2, l, Bool.not_false, Bool.and_self, beq_self_eq_true, if_true]
  unfold State.coreTake
  simp only [h3, show f ≠ 0 by omega, ne_eq, not_false_eq_true, if_true]

/-- NOP: no operation beside the slots and the pointer updates (R204). -/
theorem does_nop (hon : s.on = true) (q : Fin 96) {b : Bundle} {t : State} (h1 : s.coreRuns q.val = true) (hb : s.bundleAt q.val = b)
    (h2 : b.opc = 0x00) (h3 : s.coreFault q.val b = 0) (h4 : s.coreWaits q.val b = 0)
    (ht : (s.waitCount q.val).put (F.QCTL_K_STAT_WAIT q.val) 0 = t) :
    exec (.nop q) s = .next (State.follow (t.coreDo q.val b) s) := by
  rw [on_nop hon, core_does h1 hb h2 h3 h4 ht]

/-- MAC (R205). -/
theorem does_mac (hon : s.on = true) (q : Fin 96) {b : Bundle} {t : State} (h1 : s.coreRuns q.val = true) (hb : s.bundleAt q.val = b)
    (h2 : b.opc = 0x01) (h3 : s.coreFault q.val b = 0) (h4 : s.coreWaits q.val b = 0)
    (ht : (s.waitCount q.val).put (F.QCTL_K_STAT_WAIT q.val) 0 = t) :
    exec (.mac q) s = .next (State.follow (t.coreDo q.val b) s) := by
  rw [on_mac hon, core_does h1 hb h2 h3 h4 ht]

/-- MACC (R205). -/
theorem does_macc (hon : s.on = true) (q : Fin 96) {b : Bundle} {t : State} (h1 : s.coreRuns q.val = true) (hb : s.bundleAt q.val = b)
    (h2 : b.opc = 0x02) (h3 : s.coreFault q.val b = 0) (h4 : s.coreWaits q.val b = 0)
    (ht : (s.waitCount q.val).put (F.QCTL_K_STAT_WAIT q.val) 0 = t) :
    exec (.macc q) s = .next (State.follow (t.coreDo q.val b) s) := by
  rw [on_macc hon, core_does h1 hb h2 h3 h4 ht]

/-- MSU (R205). -/
theorem does_msu (hon : s.on = true) (q : Fin 96) {b : Bundle} {t : State} (h1 : s.coreRuns q.val = true) (hb : s.bundleAt q.val = b)
    (h2 : b.opc = 0x03) (h3 : s.coreFault q.val b = 0) (h4 : s.coreWaits q.val b = 0)
    (ht : (s.waitCount q.val).put (F.QCTL_K_STAT_WAIT q.val) 0 = t) :
    exec (.msu q) s = .next (State.follow (t.coreDo q.val b) s) := by
  rw [on_msu hon, core_does h1 hb h2 h3 h4 ht]

/-- MUL (R205). -/
theorem does_mul (hon : s.on = true) (q : Fin 96) {b : Bundle} {t : State} (h1 : s.coreRuns q.val = true) (hb : s.bundleAt q.val = b)
    (h2 : b.opc = 0x04) (h3 : s.coreFault q.val b = 0) (h4 : s.coreWaits q.val b = 0)
    (ht : (s.waitCount q.val).put (F.QCTL_K_STAT_WAIT q.val) 0 = t) :
    exec (.mul q) s = .next (State.follow (t.coreDo q.val b) s) := by
  rw [on_mul hon, core_does h1 hb h2 h3 h4 ht]

/-- MULC (R205). -/
theorem does_mulc (hon : s.on = true) (q : Fin 96) {b : Bundle} {t : State} (h1 : s.coreRuns q.val = true) (hb : s.bundleAt q.val = b)
    (h2 : b.opc = 0x05) (h3 : s.coreFault q.val b = 0) (h4 : s.coreWaits q.val b = 0)
    (ht : (s.waitCount q.val).put (F.QCTL_K_STAT_WAIT q.val) 0 = t) :
    exec (.mulc q) s = .next (State.follow (t.coreDo q.val b) s) := by
  rw [on_mulc hon, core_does h1 hb h2 h3 h4 ht]

/-- MAG2 (R205). -/
theorem does_mag2 (hon : s.on = true) (q : Fin 96) {b : Bundle} {t : State} (h1 : s.coreRuns q.val = true) (hb : s.bundleAt q.val = b)
    (h2 : b.opc = 0x06) (h3 : s.coreFault q.val b = 0) (h4 : s.coreWaits q.val b = 0)
    (ht : (s.waitCount q.val).put (F.QCTL_K_STAT_WAIT q.val) 0 = t) :
    exec (.mag2 q) s = .next (State.follow (t.coreDo q.val b) s) := by
  rw [on_mag2 hon, core_does h1 hb h2 h3 h4 ht]

/-- ADDA (R205). -/
theorem does_adda (hon : s.on = true) (q : Fin 96) {b : Bundle} {t : State} (h1 : s.coreRuns q.val = true) (hb : s.bundleAt q.val = b)
    (h2 : b.opc = 0x07) (h3 : s.coreFault q.val b = 0) (h4 : s.coreWaits q.val b = 0)
    (ht : (s.waitCount q.val).put (F.QCTL_K_STAT_WAIT q.val) 0 = t) :
    exec (.adda q) s = .next (State.follow (t.coreDo q.val b) s) := by
  rw [on_adda hon, core_does h1 hb h2 h3 h4 ht]

/-- ZERO (R205). -/
theorem does_zero (hon : s.on = true) (q : Fin 96) {b : Bundle} {t : State} (h1 : s.coreRuns q.val = true) (hb : s.bundleAt q.val = b)
    (h2 : b.opc = 0x08) (h3 : s.coreFault q.val b = 0) (h4 : s.coreWaits q.val b = 0)
    (ht : (s.waitCount q.val).put (F.QCTL_K_STAT_WAIT q.val) 0 = t) :
    exec (.zero q) s = .next (State.follow (t.coreDo q.val b) s) := by
  rw [on_zero hon, core_does h1 hb h2 h3 h4 ht]

/-- SHRA (R205). -/
theorem does_shra (hon : s.on = true) (q : Fin 96) {b : Bundle} {t : State} (h1 : s.coreRuns q.val = true) (hb : s.bundleAt q.val = b)
    (h2 : b.opc = 0x09) (h3 : s.coreFault q.val b = 0) (h4 : s.coreWaits q.val b = 0)
    (ht : (s.waitCount q.val).put (F.QCTL_K_STAT_WAIT q.val) 0 = t) :
    exec (.shra q) s = .next (State.follow (t.coreDo q.val b) s) := by
  rw [on_shra hon, core_does h1 hb h2 h3 h4 ht]

/-- NR (R205). -/
theorem does_nr (hon : s.on = true) (q : Fin 96) {b : Bundle} {t : State} (h1 : s.coreRuns q.val = true) (hb : s.bundleAt q.val = b)
    (h2 : b.opc = 0x10) (h3 : s.coreFault q.val b = 0) (h4 : s.coreWaits q.val b = 0)
    (ht : (s.waitCount q.val).put (F.QCTL_K_STAT_WAIT q.val) 0 = t) :
    exec (.nr q) s = .next (State.follow (t.coreDo q.val b) s) := by
  rw [on_nr hon, core_does h1 hb h2 h3 h4 ht]

/-- NRC (R205). -/
theorem does_nrc (hon : s.on = true) (q : Fin 96) {b : Bundle} {t : State} (h1 : s.coreRuns q.val = true) (hb : s.bundleAt q.val = b)
    (h2 : b.opc = 0x11) (h3 : s.coreFault q.val b = 0) (h4 : s.coreWaits q.val b = 0)
    (ht : (s.waitCount q.val).put (F.QCTL_K_STAT_WAIT q.val) 0 = t) :
    exec (.nrc q) s = .next (State.follow (t.coreDo q.val b) s) := by
  rw [on_nrc hon, core_does h1 hb h2 h3 h4 ht]

/-- NRO (R205). -/
theorem does_nro (hon : s.on = true) (q : Fin 96) {b : Bundle} {t : State} (h1 : s.coreRuns q.val = true) (hb : s.bundleAt q.val = b)
    (h2 : b.opc = 0x12) (h3 : s.coreFault q.val b = 0) (h4 : s.coreWaits q.val b = 0)
    (ht : (s.waitCount q.val).put (F.QCTL_K_STAT_WAIT q.val) 0 = t) :
    exec (.nro q) s = .next (State.follow (t.coreDo q.val b) s) := by
  rw [on_nro hon, core_does h1 hb h2 h3 h4 ht]

/-- ADD (R205). -/
theorem does_add (hon : s.on = true) (q : Fin 96) {b : Bundle} {t : State} (h1 : s.coreRuns q.val = true) (hb : s.bundleAt q.val = b)
    (h2 : b.opc = 0x18) (h3 : s.coreFault q.val b = 0) (h4 : s.coreWaits q.val b = 0)
    (ht : (s.waitCount q.val).put (F.QCTL_K_STAT_WAIT q.val) 0 = t) :
    exec (.add q) s = .next (State.follow (t.coreDo q.val b) s) := by
  rw [on_add hon, core_does h1 hb h2 h3 h4 ht]

/-- SUB (R205). -/
theorem does_sub (hon : s.on = true) (q : Fin 96) {b : Bundle} {t : State} (h1 : s.coreRuns q.val = true) (hb : s.bundleAt q.val = b)
    (h2 : b.opc = 0x19) (h3 : s.coreFault q.val b = 0) (h4 : s.coreWaits q.val b = 0)
    (ht : (s.waitCount q.val).put (F.QCTL_K_STAT_WAIT q.val) 0 = t) :
    exec (.sub q) s = .next (State.follow (t.coreDo q.val b) s) := by
  rw [on_sub hon, core_does h1 hb h2 h3 h4 ht]

/-- CMUL (R205). -/
theorem does_cmul (hon : s.on = true) (q : Fin 96) {b : Bundle} {t : State} (h1 : s.coreRuns q.val = true) (hb : s.bundleAt q.val = b)
    (h2 : b.opc = 0x1A) (h3 : s.coreFault q.val b = 0) (h4 : s.coreWaits q.val b = 0)
    (ht : (s.waitCount q.val).put (F.QCTL_K_STAT_WAIT q.val) 0 = t) :
    exec (.cmul q) s = .next (State.follow (t.coreDo q.val b) s) := by
  rw [on_cmul hon, core_does h1 hb h2 h3 h4 ht]

/-- CONJ (R205). -/
theorem does_conj (hon : s.on = true) (q : Fin 96) {b : Bundle} {t : State} (h1 : s.coreRuns q.val = true) (hb : s.bundleAt q.val = b)
    (h2 : b.opc = 0x1B) (h3 : s.coreFault q.val b = 0) (h4 : s.coreWaits q.val b = 0)
    (ht : (s.waitCount q.val).put (F.QCTL_K_STAT_WAIT q.val) 0 = t) :
    exec (.conj q) s = .next (State.follow (t.coreDo q.val b) s) := by
  rw [on_conj hon, core_does h1 hb h2 h3 h4 ht]

/-- NEG (R205). -/
theorem does_neg (hon : s.on = true) (q : Fin 96) {b : Bundle} {t : State} (h1 : s.coreRuns q.val = true) (hb : s.bundleAt q.val = b)
    (h2 : b.opc = 0x1C) (h3 : s.coreFault q.val b = 0) (h4 : s.coreWaits q.val b = 0)
    (ht : (s.waitCount q.val).put (F.QCTL_K_STAT_WAIT q.val) 0 = t) :
    exec (.neg q) s = .next (State.follow (t.coreDo q.val b) s) := by
  rw [on_neg hon, core_does h1 hb h2 h3 h4 ht]

/-- MOVV (R205). -/
theorem does_movv (hon : s.on = true) (q : Fin 96) {b : Bundle} {t : State} (h1 : s.coreRuns q.val = true) (hb : s.bundleAt q.val = b)
    (h2 : b.opc = 0x1D) (h3 : s.coreFault q.val b = 0) (h4 : s.coreWaits q.val b = 0)
    (ht : (s.waitCount q.val).put (F.QCTL_K_STAT_WAIT q.val) 0 = t) :
    exec (.movv q) s = .next (State.follow (t.coreDo q.val b) s) := by
  rw [on_movv hon, core_does h1 hb h2 h3 h4 ht]

/-- ROT (R205). -/
theorem does_rot (hon : s.on = true) (q : Fin 96) {b : Bundle} {t : State} (h1 : s.coreRuns q.val = true) (hb : s.bundleAt q.val = b)
    (h2 : b.opc = 0x1E) (h3 : s.coreFault q.val b = 0) (h4 : s.coreWaits q.val b = 0)
    (ht : (s.waitCount q.val).put (F.QCTL_K_STAT_WAIT q.val) 0 = t) :
    exec (.rot q) s = .next (State.follow (t.coreDo q.val b) s) := by
  rw [on_rot hon, core_does h1 hb h2 h3 h4 ht]

/-- BCAST (R205). -/
theorem does_bcast (hon : s.on = true) (q : Fin 96) {b : Bundle} {t : State} (h1 : s.coreRuns q.val = true) (hb : s.bundleAt q.val = b)
    (h2 : b.opc = 0x1F) (h3 : s.coreFault q.val b = 0) (h4 : s.coreWaits q.val b = 0)
    (ht : (s.waitCount q.val).put (F.QCTL_K_STAT_WAIT q.val) 0 = t) :
    exec (.bcast q) s = .next (State.follow (t.coreDo q.val b) s) := by
  rw [on_bcast hon, core_does h1 hb h2 h3 h4 ht]

/-- OUT (R205). -/
theorem does_out (hon : s.on = true) (q : Fin 96) {b : Bundle} {t : State} (h1 : s.coreRuns q.val = true) (hb : s.bundleAt q.val = b)
    (h2 : b.opc = 0x20) (h3 : s.coreFault q.val b = 0) (h4 : s.coreWaits q.val b = 0)
    (ht : (s.waitCount q.val).put (F.QCTL_K_STAT_WAIT q.val) 0 = t) :
    exec (.out q) s = .next (State.follow (t.coreDo q.val b) s) := by
  rw [on_out hon, core_does h1 hb h2 h3 h4 ht]

/-- LOOP (R210). -/
theorem does_loop (hon : s.on = true) (q : Fin 96) {b : Bundle} {t : State} (h1 : s.coreRuns q.val = true) (hb : s.bundleAt q.val = b)
    (h2 : b.opc = 0x30) (h3 : s.coreFault q.val b = 0) (h4 : s.coreWaits q.val b = 0)
    (ht : (s.waitCount q.val).put (F.QCTL_K_STAT_WAIT q.val) 0 = t) :
    exec (.loop q) s = .next (State.follow (t.coreDo q.val b) s) := by
  rw [on_loop hon, core_does h1 hb h2 h3 h4 ht]

/-- JMP (R210). -/
theorem does_jmp (hon : s.on = true) (q : Fin 96) {b : Bundle} {t : State} (h1 : s.coreRuns q.val = true) (hb : s.bundleAt q.val = b)
    (h2 : b.opc = 0x31) (h3 : s.coreFault q.val b = 0) (h4 : s.coreWaits q.val b = 0)
    (ht : (s.waitCount q.val).put (F.QCTL_K_STAT_WAIT q.val) 0 = t) :
    exec (.jmp q) s = .next (State.follow (t.coreDo q.val b) s) := by
  rw [on_jmp hon, core_does h1 hb h2 h3 h4 ht]

/-- MOVR (R202). -/
theorem does_movr (hon : s.on = true) (q : Fin 96) {b : Bundle} {t : State} (h1 : s.coreRuns q.val = true) (hb : s.bundleAt q.val = b)
    (h2 : b.opc = 0x32) (h3 : s.coreFault q.val b = 0) (h4 : s.coreWaits q.val b = 0)
    (ht : (s.waitCount q.val).put (F.QCTL_K_STAT_WAIT q.val) 0 = t) :
    exec (.movr q) s = .next (State.follow (t.coreDo q.val b) s) := by
  rw [on_movr hon, core_does h1 hb h2 h3 h4 ht]

/-- HALT (R211). -/
theorem does_halt (hon : s.on = true) (q : Fin 96) {b : Bundle} {t : State} (h1 : s.coreRuns q.val = true) (hb : s.bundleAt q.val = b)
    (h2 : b.opc = 0x3F) (h3 : s.coreFault q.val b = 0) (h4 : s.coreWaits q.val b = 0)
    (ht : (s.waitCount q.val).put (F.QCTL_K_STAT_WAIT q.val) 0 = t) :
    exec (.halt q) s = .next (State.follow (t.coreDo q.val b) s) := by
  rw [on_halt hon, core_does h1 hb h2 h3 h4 ht]

theorem quay_word {src : Source} {q : Fin 96} {w : Fin 28672} {v : Word} {t : State} (ht : s.touch src = t)
    (hl : t.srcLevel src true ≠ 0) (h1 : t.hasCluster (q.val / 24) = true) (h2 : t.up (domQCL (q.val / 24)) = true) :
    s.busWrite src (coreBase q.val + 4 * w.val) v = t.quayWindowWrite (coreBase q.val + 4 * w.val) v.toNat := by
  have b1 := q.isLt
  have b2 := w.isLt
  have e : coreBase q.val + 4 * w.val = 0x1000000 + 0x20000 * q.val + 4 * w.val := by unfold coreBase; omega
  generalize coreBase q.val + 4 * w.val = a at e ⊢
  have d : (a - 0x1000000) / 0x20000 = q.val := by omega
  have m : (a - 0x1000000) % 0x20000 = 4 * w.val := by omega
  have hw : t.window a = 2 := by
    unfold State.window
    rw [if_neg (by omega), if_pos (by omega), d, m, if_pos ⟨h1, by omega⟩]
  have q3 : a / 4 * 4 = a := by omega
  have hv : t.windowLive 2 a = true := by unfold State.windowLive; simp only [d]; exact h2
  unfold State.busWrite
  simp only [ht, q3, hw, hv, if_neg hl, if_true]
  rw [if_pos (by decide)]
  unfold State.windowWrite
  simp only

/-- An illegal bundle: the core stops on it with FCODE 1 (R211). -/
theorem does_illegalBundle (hon : s.on = true) (q : Fin 96) {b : Bundle} (h1 : s.coreRuns q.val = true) (hb : s.bundleAt q.val = b)
    (h2 : b.illegal = true) : exec (.illegalBundle q) s = .next (State.follow (s.coreFaults q.val 1) s) := by
  rw [on_illegalBundle hon]
  unfold State.coreIllegal
  simp only [hb, h1, h2, Bool.and_self, if_true]
  unfold State.coreTake
  simp only [coreFault_illegal.mpr h2, ne_eq, Nat.one_ne_zero, not_false_eq_true, if_true]

/-- The distributor deals a receive block whose inputs have come (R213). -/
theorem does_unitDeal (hon : s.on = true) (c : Fin 4) {t u : State} (ht : s.dealCheck c.val = t)
    (h1 : (t.cluster c.val).begun = true) (h2 : t.dirOf c.val = 0) (h3 : t.blockReady c.val (t.cluster c.val).next = true)
    (hu : t.dealBlock c.val (t.cluster c.val).next = u) :
    exec (.unitDeal c) s = .next (State.follow (u.setCluster c.val
      { u.cluster c.val with next := (t.cluster c.val).next + 1 }).antTrim s) := by
  rw [on_unitDeal hon]
  unfold State.quayDeal
  simp only [ht, h1, h2, h3, hu, if_true]

/-- The distributor deals a transmit block, ahead of its last air instant (R213, R223). -/
theorem does_unitDeal_transmit (hon : s.on = true) (c : Fin 4) {t x u : State} (ht : s.dealCheck c.val = t)
    (h1 : (t.cluster c.val).begun = true) (h2 : t.dirOf c.val ≠ 0)
    (hx : t.reachAbs (t.tapAt 2 (8 * (t.cluster c.val).next + 7) - txLead) = x)
    (h3 : x.blockReady c.val (t.cluster c.val).next = true) (hu : x.dealBlock c.val (t.cluster c.val).next = u) :
    exec (.unitDeal c) s = .next (State.follow (u.setCluster c.val
      { u.cluster c.val with next := (t.cluster c.val).next + 1 }).antTrim s) := by
  rw [on_unitDeal hon]
  unfold State.quayDeal
  simp only [ht, h1, h2, if_false, hx, h3, hu, if_true]

/-- A word of a core's memories is written, instruction memory while RUN = 0 (R215). -/
theorem does_quayWindowWrite (hon : s.on = true) (src : Source) (q : Fin 96) (w : Fin 28672) (v : Word) {t : State}
    (ht : s.touch src = t) (hl : t.srcLevel src true ≠ 0) (h1 : t.hasCluster (q.val / 24) = true) (h2 : t.up (domQCL (q.val / 24)) = true)
    (h3 : w.val < 0x1000 → t.flag (F.QCTL_K_CTL_RUN q.val) = false) :
    exec (.quayWindowWrite src q w v) s = .next (State.follow (t.setMemWord (coreBase q.val + 4 * w.val) v.toNat) s) := by
  rw [on_quayWindowWrite hon, quay_word ht hl h1 h2]
  unfold State.quayWindowWrite
  have b1 := q.isLt
  have b2 := w.isLt
  have d : (coreBase q.val + 4 * w.val - 0x1000000) / 0x20000 = q.val := by unfold coreBase; omega
  have m : (coreBase q.val + 4 * w.val - 0x1000000) % 0x20000 = 4 * w.val := by unfold coreBase; omega
  simp only [d, m, h2]
  rw [if_neg (by simp; omega), if_neg (by
    intro h
    rw [h3 (by omega)] at h
    exact absurd h.2 (by decide))]

/-- Instruction memory of a core with RUN = 1: the write is refused and counted (R215). -/
theorem refuses_quayWindowWrite (hon : s.on = true) (src : Source) (q : Fin 96) (w : Fin 28672) (v : Word) {t : State}
    (ht : s.touch src = t) (hl : t.srcLevel src true ≠ 0) (h1 : t.hasCluster (q.val / 24) = true) (h2 : t.up (domQCL (q.val / 24)) = true)
    (h3 : w.val < 0x1000) (h4 : t.flag (F.QCTL_K_CTL_RUN q.val) = true) :
    exec (.quayWindowWrite src q w v) s = .next (State.follow t.cfgReject s) := by
  rw [on_quayWindowWrite hon, quay_word ht hl h1 h2]
  unfold State.quayWindowWrite
  have b1 := q.isLt
  have b2 := w.isLt
  have d : (coreBase q.val + 4 * w.val - 0x1000000) / 0x20000 = q.val := by unfold coreBase; omega
  have m : (coreBase q.val + 4 * w.val - 0x1000000) % 0x20000 = 4 * w.val := by unfold coreBase; omega
  simp only [d, m, h2]
  rw [if_neg (by simp; omega), if_pos ⟨by omega, h4⟩]

theorem core_write {src : Source} {q : Fin 96} {t : State} {v : Word} (ht : s.touch src = t)
    (ho : s.opens src (F.QCTL_K_CTL_RUN q.val).addr v = true) :
    s.busWrite src (F.QCTL_K_CTL_RUN q.val).addr v = t.coreCtlWrite q.val v.toNat := by
  have h := q.isLt
  have e : (F.QCTL_K_CTL_RUN q.val).addr = 0x91000 + 0x20 * q.val := by simp only [F.QCTL_K_CTL_RUN]; omega
  generalize (F.QCTL_K_CTL_RUN q.val).addr = a at e ho ⊢
  rw [State.opens_Qctl ho (by omega) (by omega) (by simp only [evtAddr]; omega), ht]
  unfold State.writeQctl
  rw [if_neg (by omega), if_pos (by omega), show (a - 0x91000) / 0x20 = q.val by omega]

/-- RUN set on a stopped core: the other fields are taken and the core starts at START_PC (R216, R200). -/
theorem does_coreRunWrite (hon : s.on = true) (src : Source) (q : Fin 96) (v : Word) {t : State} (ht : s.touch src = t)
    (ho : s.opens src (F.QCTL_K_CTL_RUN q.val).addr v = true) (h1 : t.up (domQCL (q.val / 24)) = true)
    (h2 : t.flag (F.QCTL_K_CTL_RUN q.val) = false) (h3 : bitAt v.toNat 31 = true) :
    exec (.coreRunWrite src q v) s = .next (State.follow (State.coreStart ((t.each [F.QCTL_K_CTL_WRAP q.val, F.QCTL_K_CTL_SWAP_SAFE q.val,
      F.QCTL_K_CTL_WP_EN q.val, F.QCTL_K_CTL_START_PC q.val] (fun u f => u.put f (bitsAt v.toNat f.lo f.width))).putb
        (F.QCTL_K_CTL_RUN q.val) true) q.val) s) := by
  rw [on_coreRunWrite hon, core_write ht ho]
  unfold State.coreCtlWrite
  simp only [h1, h2, h3, Bool.false_eq_true, if_false, if_true, Bool.true_eq_false]

/-- RUN cleared: the core stops where it is (R216). -/
theorem drops_coreRunWrite (hon : s.on = true) (src : Source) (q : Fin 96) (v : Word) {t : State} (ht : s.touch src = t)
    (ho : s.opens src (F.QCTL_K_CTL_RUN q.val).addr v = true) (h1 : t.up (domQCL (q.val / 24)) = true)
    (h2 : t.flag (F.QCTL_K_CTL_RUN q.val) = true) (h3 : bitAt v.toNat 31 = false)
    (h4 : [F.QCTL_K_CTL_WRAP q.val, F.QCTL_K_CTL_SWAP_SAFE q.val, F.QCTL_K_CTL_WP_EN q.val, F.QCTL_K_CTL_START_PC q.val].any
      (fun f => bitsAt v.toNat f.lo f.width != t.get f) = false) :
    exec (.coreRunWrite src q v) s = .next (State.follow (State.coreStop (t.putb (F.QCTL_K_CTL_RUN q.val) false) q.val) s) := by
  rw [on_coreRunWrite hon, core_write ht ho]
  unfold State.coreCtlWrite
  simp only [h1, h2, h3, h4, Bool.false_eq_true, if_false, if_true, Bool.true_eq_false]

/-- Another field with RUN = 1 is not taken: the write is counted (R216). -/
theorem refuses_coreRunWrite (hon : s.on = true) (src : Source) (q : Fin 96) (v : Word) {t : State} (ht : s.touch src = t)
    (ho : s.opens src (F.QCTL_K_CTL_RUN q.val).addr v = true) (h1 : t.up (domQCL (q.val / 24)) = true)
    (h2 : t.flag (F.QCTL_K_CTL_RUN q.val) = true) (h3 : bitAt v.toNat 31 = true)
    (h4 : [F.QCTL_K_CTL_WRAP q.val, F.QCTL_K_CTL_SWAP_SAFE q.val, F.QCTL_K_CTL_WP_EN q.val, F.QCTL_K_CTL_START_PC q.val].any
      (fun f => bitsAt v.toNat f.lo f.width != t.get f) = true) :
    exec (.coreRunWrite src q v) s = .next (State.follow (t.cfgReject.putb (F.QCTL_K_CTL_RUN q.val) true) s) := by
  rw [on_coreRunWrite hon, core_write ht ho]
  unfold State.coreCtlWrite
  simp only [h1, h2, h3, h4, if_false, if_true, Bool.true_eq_false]

theorem cluster_write {src : Source} {c : Fin 4} {a k : Nat} {t : State} {v : Word} (ht : s.touch src = t)
    (ho : s.opens src a v = true) (e : a = 0x90100 + 0x40 * c.val + k) (hk : k < 0x40) (hm : k % 4 = 0) :
    s.busWrite src a v = (match (generalizing := false) k with
      | 0 => t.clusterCtlWrite c.val v.toNat
      | 4 => t.clusterMapWrite c.val v.toNat
      | 0x14 => t.iff (bitAt v.toNat 31) (fun t => t.swapGo c.val (bitsAt v.toNat 8 5) (bitsAt v.toNat 0 5))
      | _ => t.plain a v.toNat) := by
  have h := c.isLt
  rw [State.opens_Qctl ho (by omega) (by omega) (by simp only [evtAddr]; omega), ht]
  unfold State.writeQctl
  rw [if_pos (by omega), show (a - 0x90100) / 0x40 = c.val by omega, show (a - 0x90100) % 0x40 = k by omega]
  all_goals rfl

/-- Cc_CTL with RUN = 0: its fields are taken, and the cluster begins if it may deal (R216, R213). -/
theorem does_clusterCtlWrite (hon : s.on = true) (src : Source) (c : Fin 4) (v : Word) {t u : State} (ht : s.touch src = t)
    (ho : s.opens src (F.QCTL_C_CTL_RUN c.val).addr v = true) (h1 : t.up (domQCL c.val) = true)
    (h2 : t.flag (F.QCTL_C_CTL_RUN c.val) = false)
    (hu : ((t.each [F.QCTL_C_CTL_DIR c.val, F.QCTL_C_CTL_SHADOW c.val, F.QCTL_C_CTL_OUT_VEC c.val]
      (fun u f => u.put f (bitsAt v.toNat f.lo f.width))).putb (F.QCTL_C_CTL_RUN c.val) (bitAt v.toNat 31)).dealCheck c.val = u) :
    exec (.clusterCtlWrite src c false v) s = .next (State.follow (if u.flag (F.QCTL_C_CTL_SHADOW c.val) then u
      else u.shadowStop c.val) s) := by
  have h := c.isLt
  rw [on_clusterCtlWrite hon]
  simp only [Bool.false_eq_true, if_false]
  rw [cluster_write (c := c) (k := 0) ht ho (by simp only [F.QCTL_C_CTL_RUN]; omega) (by omega) (by omega)]
  refine next_follow ?_
  simp only
  unfold State.clusterCtlWrite
  simp only [h1, h2, Bool.false_eq_true, Bool.true_eq_false, if_false, hu]

/-- Cc_MAP with RUN = 0 is taken (R216). -/
theorem does_clusterCtlWrite_map (hon : s.on = true) (src : Source) (c : Fin 4) (v : Word) {t : State} (ht : s.touch src = t)
    (ho : s.opens src (F.QCTL_C_MAP_UNITS c.val).addr v = true) (h1 : t.up (domQCL c.val) = true)
    (h2 : t.flag (F.QCTL_C_CTL_RUN c.val) = false) :
    exec (.clusterCtlWrite src c true v) s = .next (State.follow (t.each [F.QCTL_C_MAP_IN_BASE c.val, F.QCTL_C_MAP_IN_VEC c.val,
      F.QCTL_C_MAP_OUT_BASE c.val, F.QCTL_C_MAP_UNITS c.val] (fun u f => u.put f (bitsAt v.toNat f.lo f.width))) s) := by
  have h := c.isLt
  rw [on_clusterCtlWrite hon]
  simp only [if_true]
  rw [cluster_write (c := c) (k := 4) ht ho (by simp only [F.QCTL_C_MAP_UNITS]; omega) (by omega) (by omega)]
  refine next_follow ?_
  simp only
  unfold State.clusterMapWrite
  simp only [h1, h2, Bool.false_eq_true, Bool.true_eq_false, if_false]

/-- Cc_MAP with RUN = 1 is refused and counted (R216). -/
theorem refuses_clusterCtlWrite (hon : s.on = true) (src : Source) (c : Fin 4) (v : Word) {t : State} (ht : s.touch src = t)
    (ho : s.opens src (F.QCTL_C_MAP_UNITS c.val).addr v = true) (h1 : t.up (domQCL c.val) = true)
    (h2 : t.flag (F.QCTL_C_CTL_RUN c.val) = true) :
    exec (.clusterCtlWrite src c true v) s = .next (State.follow t.cfgReject s) := by
  have h := c.isLt
  rw [on_clusterCtlWrite hon]
  simp only [if_true]
  rw [cluster_write (c := c) (k := 4) ht ho (by simp only [F.QCTL_C_MAP_UNITS]; omega) (by omega) (by omega)]
  refine next_follow ?_
  simp only
  unfold State.clusterMapWrite
  simp only [h1, h2, Bool.true_eq_false, if_false, if_true]

/-- The shadow's turn: the lowest reserve core takes the memories of the next SWAP_SAFE core and starts (R218). -/
theorem does_shadowTurn (hon : s.on = true) (c : Fin 4) {t u : State} {cl : Cluster} {r k : Nat} {rs ks : List Nat}
    (h0 : (s.cluster c.val).shadow = none) (hc : s.cluster c.val = cl)
    (h1 : s.up (domQCL c.val) = true) (h2 : s.flag (F.QCTL_C_CTL_SHADOW c.val) = true) (h3 : s.inRun = true) (h4 : cl.swap = none)
    (hr : bitList 24 (s.get (F.QCTL_C_RSV_CORES c.val)) = r :: rs)
    (hk : ((List.range 24).map (fun i => (cl.turn + 1 + i) % 24)).filter (fun k =>
      s.inService c.val k && s.flag (F.QCTL_K_CTL_SWAP_SAFE (24 * c.val + k))) = k :: ks)
    (ht : s.copyCore (24 * c.val + k) (24 * c.val + r) = t)
    (hu : t.setCluster c.val { cl with
      turn := k
      shadow := some { shadow := r, core := k, since := t.aon, blk := cl.next } } = u) :
    exec (.shadowTurn c) s = .next (State.follow (u.coreStart (24 * c.val + r)) s) := by
  rw [on_shadowTurn hon]
  unfold State.shadowTurn
  simp only [h0]
  have e : s.shadowStop c.val = s := by unfold State.shadowStop; simp only [h0]
  simp only [e, hc, h1, h2, h3, h4, hr, hk, ht, beq_self_eq_true, Bool.and_self, Bool.true_eq_false, if_false]
  rw [← hu]
  simp only [h4]

theorem swap_write {src : Source} {c : Fin 4} {t : State} {v w : Word} (ht : s.touch src = t) (hw : fixBit v 31 = w)
    (ho : s.opens src (F.QCTL_C_SWAP_GO c.val).addr w = true) :
    s.busWrite src (F.QCTL_C_SWAP_GO c.val).addr w = t.swapGo c.val (bitsAt w.toNat 8 5) (bitsAt w.toNat 0 5) := by
  have h := c.isLt
  rw [cluster_write (c := c) (k := 0x14) ht ho (by simp only [F.QCTL_C_SWAP_GO]; omega) (by omega) (by omega)]
  simp only
  rw [State.iff_of (by rw [← hw]; exact bitAt_fixBit v (by decide))]

/-- A permitted swap copies OUT's memories and settings to IN, starts IN, and stays busy until the switch (R219). -/
theorem does_coreSwapGo (hon : s.on = true) (src : Source) (c : Fin 4) (v : Word) {t u x y : State} {w : Word} {i o : Nat}
    (ht : s.touch src = t) (hw : fixBit v 31 = w) (ho : s.opens src (F.QCTL_C_SWAP_GO c.val).addr w = true)
    (h1 : t.up (domQCL c.val) = true) (h2 : t.swapReason c.val (bitsAt w.toNat 8 5) (bitsAt w.toNat 0 5) = 0)
    (hi : 24 * c.val + bitsAt w.toNat 8 5 = i) (hq : 24 * c.val + bitsAt w.toNat 0 5 = o)
    (hu : ((t.put (F.QCTL_C_SWAP_STAT_RESULT c.val) 0).shadowStop c.val).copyCore o i = u)
    (hx : ((u.put (F.QCTL_K_CTL_START_PC i) (u.get (F.QCTL_K_CTL_START_PC o))).put (F.QCTL_K_CTL_WRAP i)
        (u.get (F.QCTL_K_CTL_WRAP o))).put (F.QCTL_K_CTL_WP_EN i) (u.get (F.QCTL_K_CTL_WP_EN o)) = x)
    (hy : (x.putb (F.QCTL_K_CTL_RUN i) true).coreStart i = y) :
    exec (.coreSwapGo src c v) s = .next (State.follow (State.putb (y.setCluster c.val { y.cluster c.val with
      swap := some { inn := bitsAt w.toNat 8 5, out := bitsAt w.toNat 0 5, since := y.aon } }) (F.QCTL_C_SWAP_STAT_BUSY c.val) true) s) := by
  rw [on_coreSwapGo hon, hw, swap_write ht hw ho]
  unfold State.swapGo
  simp only [h1, h2, hi, hq, hu, hx, hy, Bool.true_eq_false, if_false, ne_eq, not_true_eq_false]

/-- A refused swap: RESULT says why, with its event (R219). -/
theorem refuses_coreSwapGo (hon : s.on = true) (src : Source) (c : Fin 4) (v : Word) {t : State} {w : Word} {r : Nat}
    (ht : s.touch src = t) (hw : fixBit v 31 = w) (ho : s.opens src (F.QCTL_C_SWAP_GO c.val).addr w = true)
    (h1 : t.up (domQCL c.val) = true) (hr : t.swapReason c.val (bitsAt w.toNat 8 5) (bitsAt w.toNat 0 5) = r) (h2 : r ≠ 0) :
    exec (.coreSwapGo src c v) s = .next (State.follow ((t.put (F.QCTL_C_SWAP_STAT_RESULT c.val) r).raise 0x0907 0) s) := by
  rw [on_coreSwapGo hon, hw, swap_write ht hw ho]
  unfold State.swapGo
  simp only [h1, hr, h2, Bool.true_eq_false, if_false, ne_eq, not_false_eq_true, if_true]

/-- The switch of a swap that no berth switch brought, 10 ms after the copy: IN serves, OUT is retired (R219). -/
theorem does_coreSwapSwitch (hon : s.on = true) (c : Fin 4) {p : CoreSwap} {t u x y : State}
    (hp : (s.cluster c.val).swap = some p) (h1 : p.seen = none) (ht : s.elapseTo (p.since + msU 10) = t)
    (hu : ((t.setCluster c.val { t.cluster c.val with
        swap := none
        drain := setBitAt (t.cluster c.val).drain p.out true }).putb (F.QCTL_C_SWAP_STAT_BUSY c.val) false).put
          (F.QCTL_C_STAT_CORES c.val) (setBitAt (setBitAt (t.get (F.QCTL_C_STAT_CORES c.val)) p.out false) p.inn true) = u)
    (hx : (u.put (F.QCTL_C_RSV_CORES c.val) (setBitAt (u.get (F.QCTL_C_RSV_CORES c.val)) p.inn false)) = x)
    (hy : ((x.put (F.QCTL_C_RET_CORES c.val) (setBitAt (u.get (F.QCTL_C_RET_CORES c.val)) p.out true)).drained
      (24 * c.val + p.out)).raise 0x0906 0 = y)
    (h2 : y.get (F.QCTL_C_RSV_CORES c.val) ≠ 0) :
    exec (.coreSwapSwitch c) s = .next (State.follow (y.regrade 4) s) := by
  rw [on_coreSwapSwitch hon]
  unfold State.swapSwitch
  simp only [hp, h1, ht, hu, hx, hy, Bool.false_eq_true, if_false]
  rw [if_neg (fun e => h2 e.1)]

end Sys2Proof.Machine
end

