-- ==== Sys2Proof/Laws/MovesResetCmds.lean ====
section
/-! SUPPORT. What each operation of Machine/ResetCmds.lean may change. -/

namespace Sys2Proof.Machine

set_option linter.all false

theorem slipWrite_moves (src : Source) (v : Word) (op : Nat) (s : State) : Moves 0xfffffffdffffffb s (slipWrite src v op s) := by
  unfold slipWrite
  repeat' first
    | with_reducible assumption
    | with_reducible exact Moves.refl _ _
    | decide
    | with_reducible apply Moves.step (State.busWrite_moves ..)

end Sys2Proof.Machine
end

