-- ==== Sys2Proof/Laws/ExecResetCmds.lean ====
section
/-! SUPPORT. What each command of Machine/ResetCmds.lean may change. -/

namespace Sys2Proof.Machine

set_option linter.all false

theorem execPowerRemoved_moves (s : State) (t : State) (h : execPowerRemoved s = .next t) :
    Moves 0xffffffe1ffffffb s t := by
  unfold execPowerRemoved at h
  cases h
  repeat' first
    | with_reducible assumption
    | with_reducible exact Moves.refl _ _
    | decide
    | with_reducible apply Moves.step (State.powerOff_moves ..)

theorem execPorNAssert_moves (s : State) (t : State) (h : execPorNAssert s = .next t) :
    Moves 0xffffffe1ffffffb s t := by
  unfold execPorNAssert at h
  cases h
  repeat' first
    | with_reducible assumption
    | with_reducible exact Moves.refl _ _
    | decide
    | with_reducible apply Moves.step (State.porAssert_moves ..)

theorem execPorNRelease_moves (s : State) (t : State) (h : execPorNRelease s = .next t) :
    Moves 0x1008000011 s t := by
  unfold execPorNRelease at h
  cases h
  repeat' first
    | with_reducible assumption
    | with_reducible exact Moves.refl _ _
    | decide
    | with_reducible apply Moves.step (State.porRelease_moves ..)

theorem execSupervisorTrip_moves (s : State) (t : State) (h : execSupervisorTrip s = .next t) :
    Moves 0xffffffe1ffffffb s t := by
  unfold execSupervisorTrip at h
  cases h
  repeat' first
    | with_reducible assumption
    | with_reducible exact Moves.refl _ _
    | decide
    | with_reducible apply Moves.step (State.supTrip_moves ..)

theorem execSupervisorRelease_moves (s : State) (t : State) (h : execSupervisorRelease s = .next t) :
    Moves 0x1008000011 s t := by
  unfold execSupervisorRelease at h
  cases h
  repeat' first
    | with_reducible assumption
    | with_reducible exact Moves.refl _ _
    | decide
    | with_reducible apply Moves.step (State.supRelease_moves ..)

theorem execResetNAssert_moves (s : State) (t : State) (h : execResetNAssert s = .next t) :
    Moves 0xffffffe1ffffffb s t := by
  unfold execResetNAssert at h
  cases h
  repeat' first
    | with_reducible assumption
    | with_reducible exact Moves.refl _ _
    | decide
    | with_reducible apply Moves.step (State.rstAssert_moves ..)

theorem execResetNRelease_moves (s : State) (t : State) (h : execResetNRelease s = .next t) :
    Moves 0x1008000011 s t := by
  unfold execResetNRelease at h
  cases h
  repeat' first
    | with_reducible assumption
    | with_reducible exact Moves.refl _ _
    | decide
    | with_reducible apply Moves.step (State.rstRelease_moves ..)

theorem execNvmNotBusy_moves (s : State) (t : State) (h : execNvmNotBusy s = .next t) :
    Moves 0x80520228d02a0a3 s t := by
  unfold execNvmNotBusy at h
  refine acting_moves (by decide) (fun _ => ?_) h
  repeat' first
    | with_reducible assumption
    | with_reducible exact Moves.refl _ _
    | decide
    | rw [State.upd_power]
    | with_reducible apply Moves.step (State.with_power_moves ..)

theorem execStrapLatch_moves (sel chip : BitVec 2) (s : State) (t : State) (h : execStrapLatch sel chip s = .next t) :
    Moves 0xfffffffdffffffb s t := by
  unfold execStrapLatch at h
  refine acting_moves (by decide) (fun _ => ?_) h
  repeat' first
    | with_reducible assumption
    | with_reducible exact Moves.refl _ _
    | decide
    | with_reducible apply Moves.step (State.strapLatch_moves ..)

theorem execImageLoaded_moves (answers : BitVec 2) (s : State) (t : State) (h : execImageLoaded answers s = .next t) :
    Moves 0xfffffffdffffffb s t := by
  unfold execImageLoaded at h
  refine acting_moves (by decide) (fun _ => ?_) h
  repeat' first
    | with_reducible assumption
    | with_reducible exact Moves.refl _ _
    | decide
    | with_reducible apply Moves.step (State.imageLoaded_moves ..)

theorem execCpllFirstLock_moves (s : State) (t : State) (h : execCpllFirstLock s = .next t) :
    Moves 0xfffffffdffffffb s t := by
  unfold execCpllFirstLock at h
  refine acting_moves (by decide) (fun _ => ?_) h
  repeat' first
    | with_reducible assumption
    | with_reducible exact Moves.refl _ _
    | decide
    | with_reducible apply Moves.step (State.cpllFirstLock_moves ..)

theorem execStartupCalDone_moves (rxFail txFail txLimit : BitVec 64) (slices : List (Fin 64 × Fin 2 × Fin 9)) (s : State) (t : State) (h : execStartupCalDone rxFail txFail txLimit slices s = .next t) :
    Moves 0xfffffffdffffffb s t := by
  unfold execStartupCalDone at h
  refine acting_moves (by decide) (fun _ => ?_) h
  repeat' first
    | with_reducible assumption
    | with_reducible exact Moves.refl _ _
    | decide
    | with_reducible apply Moves.step (State.startupCalDone_moves ..)

theorem execConfirmTimeout_moves (s : State) (t : State) (h : execConfirmTimeout s = .next t) :
    Moves 0xffffffedffffffb s t := by
  unfold execConfirmTimeout at h
  refine acting_moves (by decide) (fun _ => ?_) h
  repeat' first
    | with_reducible assumption
    | with_reducible exact Moves.refl _ _
    | decide
    | with_reducible apply Moves.step (State.confirmTimeout_moves ..)

theorem execDeviceSelfReset_moves (s : State) (t : State) (h : execDeviceSelfReset s = .next t) :
    Moves 0xffffffedffffffb s t := by
  unfold execDeviceSelfReset at h
  refine acting_moves (by decide) (fun _ => ?_) h
  repeat' first
    | with_reducible assumption
    | with_reducible exact Moves.refl _ _
    | decide
    | with_reducible apply Moves.step (State.resetDue_moves ..)

theorem execSlipOpen_moves (src : Source) (v : Word) (s : State) (t : State) (h : execSlipOpen src v s = .next t) :
    Moves 0xc2526329d82a2b2 s t := by
  unfold execSlipOpen at h
  refine acting_moves (by decide) (fun _ => ?_) h
  repeat' first
    | with_reducible assumption
    | with_reducible exact Moves.refl _ _
    | decide
    | unfold slipWrite
    | with_reducible apply Moves.step (State.busWrite_Boot _ _ _ (by first | decide | (simp only [F.BOOT_SLIP_CMD_OP]; omega) | (simp only [F.BOOT_SLIP_CMD_OP]; split <;> decide) | (simp only [F.BOOT_SLIP_CMD_OP]; (repeat' split) <;> omega)))

theorem execSlipWrite_moves (src : Source) (v : Word) (s : State) (t : State) (h : execSlipWrite src v s = .next t) :
    Moves 0xc2526329d82a2b2 s t := by
  unfold execSlipWrite at h
  refine acting_moves (by decide) (fun _ => ?_) h
  repeat' first
    | with_reducible assumption
    | with_reducible exact Moves.refl _ _
    | decide
    | unfold slipWrite
    | with_reducible apply Moves.step (State.busWrite_Boot _ _ _ (by first | decide | (simp only [F.BOOT_SLIP_CMD_OP]; omega) | (simp only [F.BOOT_SLIP_CMD_OP]; split <;> decide) | (simp only [F.BOOT_SLIP_CMD_OP]; (repeat' split) <;> omega)))

theorem execSlipClose_moves (src : Source) (v : Word) (s : State) (t : State) (h : execSlipClose src v s = .next t) :
    Moves 0xc2526329d82a2b2 s t := by
  unfold execSlipClose at h
  refine acting_moves (by decide) (fun _ => ?_) h
  repeat' first
    | with_reducible assumption
    | with_reducible exact Moves.refl _ _
    | decide
    | unfold slipWrite
    | with_reducible apply Moves.step (State.busWrite_Boot _ _ _ (by first | decide | (simp only [F.BOOT_SLIP_CMD_OP]; omega) | (simp only [F.BOOT_SLIP_CMD_OP]; split <;> decide) | (simp only [F.BOOT_SLIP_CMD_OP]; (repeat' split) <;> omega)))

theorem execSlipAbort_moves (src : Source) (v : Word) (s : State) (t : State) (h : execSlipAbort src v s = .next t) :
    Moves 0xc2526329d82a2b2 s t := by
  unfold execSlipAbort at h
  refine acting_moves (by decide) (fun _ => ?_) h
  repeat' first
    | with_reducible assumption
    | with_reducible exact Moves.refl _ _
    | decide
    | unfold slipWrite
    | with_reducible apply Moves.step (State.busWrite_Boot _ _ _ (by first | decide | (simp only [F.BOOT_SLIP_CMD_OP]; omega) | (simp only [F.BOOT_SLIP_CMD_OP]; split <;> decide) | (simp only [F.BOOT_SLIP_CMD_OP]; (repeat' split) <;> omega)))

theorem execSlipConfirm_moves (src : Source) (v : Word) (s : State) (t : State) (h : execSlipConfirm src v s = .next t) :
    Moves 0xc2526329d82a2b2 s t := by
  unfold execSlipConfirm at h
  refine acting_moves (by decide) (fun _ => ?_) h
  repeat' first
    | with_reducible assumption
    | with_reducible exact Moves.refl _ _
    | decide
    | unfold slipWrite
    | with_reducible apply Moves.step (State.busWrite_Boot _ _ _ (by first | decide | (simp only [F.BOOT_SLIP_CMD_OP]; omega) | (simp only [F.BOOT_SLIP_CMD_OP]; split <;> decide) | (simp only [F.BOOT_SLIP_CMD_OP]; (repeat' split) <;> omega)))

theorem execSlipOpReserved_moves (src : Source) (v : Word) (s : State) (t : State) (h : execSlipOpReserved src v s = .next t) :
    Moves 0xc2526329d82a2b2 s t := by
  unfold execSlipOpReserved at h
  refine acting_moves (by decide) (fun _ => ?_) h
  repeat' first
    | with_reducible assumption
    | with_reducible exact Moves.refl _ _
    | decide
    | with_reducible apply Moves.ite
    | unfold slipWrite
    | with_reducible apply Moves.step (State.busWrite_Boot _ _ _ (by first | decide | (simp only [F.BOOT_SLIP_CMD_OP]; omega) | (simp only [F.BOOT_SLIP_CMD_OP]; split <;> decide) | (simp only [F.BOOT_SLIP_CMD_OP]; (repeat' split) <;> omega)))
    | split
    | (with_reducible refine Moves.snd (by assumption) ?_)
    | (with_reducible refine Moves.fst (by assumption) ?_)

theorem execSlipOpComplete_moves (res : Fin 3) (s : State) (t : State) (h : execSlipOpComplete res s = .next t) :
    Moves 0x8052033ad02a0b2 s t := by
  unfold execSlipOpComplete at h
  refine acting_moves (by decide) (fun _ => ?_) h
  repeat' first
    | with_reducible assumption
    | with_reducible exact Moves.refl _ _
    | decide
    | with_reducible apply Moves.step (State.slipDone_moves ..)

theorem execTallyProgramDone_moves (ok : Bool) (s : State) (t : State) (h : execTallyProgramDone ok s = .next t) :
    Moves 0x90520228d42a0a2 s t := by
  unfold execTallyProgramDone at h
  refine acting_moves (by decide) (fun _ => ?_) h
  repeat' first
    | with_reducible assumption
    | with_reducible exact Moves.refl _ _
    | decide
    | with_reducible apply Moves.step (State.tallyProgramDone_moves ..)

theorem execTallyCommitDone_moves (ok : Bool) (s : State) (t : State) (h : execTallyCommitDone ok s = .next t) :
    Moves 0x90520228d42a0a2 s t := by
  unfold execTallyCommitDone at h
  refine acting_moves (by decide) (fun _ => ?_) h
  repeat' first
    | with_reducible assumption
    | with_reducible exact Moves.refl _ _
    | decide
    | with_reducible apply Moves.step (State.tallyCommitDone_moves ..)

theorem execTallyEraseDone_moves (ok : Bool) (s : State) (t : State) (h : execTallyEraseDone ok s = .next t) :
    Moves 0x90520228d42a0a2 s t := by
  unfold execTallyEraseDone at h
  refine acting_moves (by decide) (fun _ => ?_) h
  repeat' first
    | with_reducible assumption
    | with_reducible exact Moves.refl _ _
    | decide
    | with_reducible apply Moves.step (State.tallyEraseDone_moves ..)

theorem execTallyAppendGo_moves (src : Source) (s : State) (t : State) (h : execTallyAppendGo src s = .next t) :
    Moves 0xc0520228d82a0a2 s t := by
  unfold execTallyAppendGo at h
  refine acting_moves (by decide) (fun _ => ?_) h
  repeat' first
    | with_reducible assumption
    | with_reducible exact Moves.refl _ _
    | decide
    | with_reducible apply Moves.step (State.busWrite_Tally _ _ _ (by first | decide | (simp only [F.TALLY_APPEND_GO_GO]; omega) | (simp only [F.TALLY_APPEND_GO_GO]; split <;> decide) | (simp only [F.TALLY_APPEND_GO_GO]; (repeat' split) <;> omega)))

end Sys2Proof.Machine
end

