-- ==== Sys2Proof/Laws/OnResetCmds.lean ====
section
/-! SUPPORT. What the commands of Machine/ResetCmds.lean answer while the device acts. -/

namespace Sys2Proof.Machine

set_option linter.all false

theorem on_nvmNotBusy {s : State} (hon : s.on = true)  :
    exec (.nvmNotBusy) s = .next (State.follow ({ s with power := { s.power with nvmReady := true } }) s) := by
  show execNvmNotBusy  s = _
  exact acting_on hon

theorem on_strapLatch {s : State} (hon : s.on = true) (sel chip : BitVec 2) :
    exec (.strapLatch sel chip) s = .next (State.follow (s.strapLatch sel.toNat chip.toNat) s) := by
  show execStrapLatch sel chip s = _
  exact acting_on hon

theorem on_imageLoaded {s : State} (hon : s.on = true) (answers : BitVec 2) :
    exec (.imageLoaded answers) s = .next (State.follow (s.imageLoaded answers.toNat) s) := by
  show execImageLoaded answers s = _
  exact acting_on hon

theorem on_cpllFirstLock {s : State} (hon : s.on = true)  :
    exec (.cpllFirstLock) s = .next (State.follow (State.cpllFirstLock s) s) := by
  show execCpllFirstLock  s = _
  exact acting_on hon

theorem on_startupCalDone {s : State} (hon : s.on = true) (rxFail txFail txLimit : BitVec 64) (slices : List (Fin 64 × Fin 2 × Fin 9)) :
    exec (.startupCalDone rxFail txFail txLimit slices) s = .next (State.follow (s.startupCalDone (mask rxFail) (mask txFail) (mask txLimit)
    (slices.map (fun e => (e.1.val, e.2.1.val, e.2.2.val)))) s) := by
  show execStartupCalDone rxFail txFail txLimit slices s = _
  exact acting_on hon

theorem on_confirmTimeout {s : State} (hon : s.on = true)  :
    exec (.confirmTimeout) s = .next (State.follow (State.confirmTimeout s) s) := by
  show execConfirmTimeout  s = _
  exact acting_on hon

theorem on_deviceSelfReset {s : State} (hon : s.on = true)  :
    exec (.deviceSelfReset) s = .next (State.follow (State.resetDue s) s) := by
  show execDeviceSelfReset  s = _
  exact acting_on hon

theorem on_slipOpen {s : State} (hon : s.on = true) (src : Source) (v : Word) :
    exec (.slipOpen src v) s = .next (State.follow (slipWrite src v 1 s) s) := by
  show execSlipOpen src v s = _
  exact acting_on hon

theorem on_slipWrite {s : State} (hon : s.on = true) (src : Source) (v : Word) :
    exec (.slipWrite src v) s = .next (State.follow (slipWrite src v 2 s) s) := by
  show execSlipWrite src v s = _
  exact acting_on hon

theorem on_slipClose {s : State} (hon : s.on = true) (src : Source) (v : Word) :
    exec (.slipClose src v) s = .next (State.follow (slipWrite src v 3 s) s) := by
  show execSlipClose src v s = _
  exact acting_on hon

theorem on_slipAbort {s : State} (hon : s.on = true) (src : Source) (v : Word) :
    exec (.slipAbort src v) s = .next (State.follow (slipWrite src v 4 s) s) := by
  show execSlipAbort src v s = _
  exact acting_on hon

theorem on_slipConfirm {s : State} (hon : s.on = true) (src : Source) (v : Word) :
    exec (.slipConfirm src v) s = .next (State.follow (slipWrite src v 5 s) s) := by
  show execSlipConfirm src v s = _
  exact acting_on hon

theorem on_slipOpReserved {s : State} (hon : s.on = true) (src : Source) (v : Word) :
    exec (.slipOpReserved src v) s = .next (State.follow (slipWrite src v (if 6 ≤ v.toNat % 16 then v.toNat % 16 else 0) s) s) := by
  show execSlipOpReserved src v s = _
  exact acting_on hon

theorem on_slipOpComplete {s : State} (hon : s.on = true) (res : Fin 3) :
    exec (.slipOpComplete res) s = .next (State.follow (s.slipDone res.val) s) := by
  show execSlipOpComplete res s = _
  exact acting_on hon

theorem on_tallyProgramDone {s : State} (hon : s.on = true) (ok : Bool) :
    exec (.tallyProgramDone ok) s = .next (State.follow (s.tallyProgramDone ok) s) := by
  show execTallyProgramDone ok s = _
  exact acting_on hon

theorem on_tallyCommitDone {s : State} (hon : s.on = true) (ok : Bool) :
    exec (.tallyCommitDone ok) s = .next (State.follow (s.tallyCommitDone ok) s) := by
  show execTallyCommitDone ok s = _
  exact acting_on hon

theorem on_tallyAppendGo {s : State} (hon : s.on = true) (src : Source) :
    exec (.tallyAppendGo src) s = .next (State.follow (s.busWrite src F.TALLY_APPEND_GO_GO.addr 1) s) := by
  show execTallyAppendGo src s = _
  exact acting_on hon

theorem on_tallyEraseDone {s : State} (hon : s.on = true) (ok : Bool) :
    exec (.tallyEraseDone ok) s = .next (State.follow (s.tallyEraseDone ok) s) := by
  show execTallyEraseDone ok s = _
  exact acting_on hon

end Sys2Proof.Machine
end

