-- ==== Sys2Proof/Laws/DoesReset.lean ====
section
/-! SUPPORT. What the commands of supply, reset, boot, Slipway and Tally do where they take effect. -/

namespace Sys2Proof.Machine

set_option linter.all false

variable {s : State}

theorem State.get_lt (s : State) (f : Field) : s.get f < 2 ^ f.width := Nat.mod_lt _ (Nat.two_pow_pos _)

theorem State.porReset_tail (s : State) : Moves 0x402000008000000 s.afterReset s.porReset := by
  unfold State.porReset
  refine Moves.step (State.syncCoex_moves ..) (by decide) (Moves.each (fun t x h => ?_) (Moves.refl _ _))
  refine Moves.ite ?_ h
  refine Moves.p_put (n := 25) ?_ ?_ ?_ ?_
  · first | assumption | (dsimp only [F.SEC_P_STAT_FAILS]; omega)
  · first | assumption | (dsimp only [F.SEC_P_STAT_FAILS]; omega) | decide
  · first | assumption | decide
  · first | assumption | decide

/-- The supply goes: nothing acts, memory is lost, flash and fuses stand (R42, R35). -/
theorem does_powerRemoved (s : State) :
    ∃ t, exec .powerRemoved s = .next t ∧ t.on = false ∧ t.power.off = true ∧ t.mem = [] ∧ t.flash = s.flash ∧ t.fuses = s.fuses := by
  have m := s.porReset_tail
  refine ⟨s.powerOff, rfl, ?_⟩
  simp only [State.on, State.powerOff, m.mem (by decide), m.flash (by decide), m.fuses (by decide), Bool.true_or, Bool.not_true,
    true_and]
  exact ⟨rfl, rfl, rfl⟩

/-- POR_N low resets everything but flash and fuses (R35). -/
theorem does_porNAssert (s : State) :
    ∃ t, exec .porNAssert s = .next t ∧ t.on = false ∧ t.power.por = true ∧ t.mem = [] ∧ t.flash = s.flash ∧ t.fuses = s.fuses := by
  have m := s.porReset_tail
  refine ⟨s.porAssert, rfl, ?_⟩
  simp only [State.on, State.porAssert, m.mem (by decide), m.flash (by decide), m.fuses (by decide), Bool.true_or, Bool.or_true,
    Bool.not_true, true_and]
  exact ⟨rfl, rfl, rfl⟩

/-- POR_N high with no other reset: t0 is now, and the straps are awaited (R37). -/
theorem does_porNRelease (s : State) (h1 : s.power.por = true) (h2 : s.power.off = false) (h3 : s.power.rst = false)
    (h4 : s.power.sup = false) :
    ∃ t, exec .porNRelease s = .next t ∧ t.on = true ∧ t.power.strapWait = true ∧ t.boot.t0 = s.aon ∧ t.get F.BOOT_STAT_PHASE = 2 := by
  refine ⟨_, rfl, ?_⟩
  simp [State.porRelease, h1, State.released, State.on, h2, h3, h4, State.get_put, F.BOOT_STAT_PHASE]

/-- The supervisor resets as POR_N does (R35). -/
theorem does_supervisorTrip (s : State) :
    ∃ t, exec .supervisorTrip s = .next t ∧ t.on = false ∧ t.power.sup = true ∧ t.mem = [] ∧ t.flash = s.flash ∧ t.fuses = s.fuses := by
  have m := s.porReset_tail
  refine ⟨s.supTrip, rfl, ?_⟩
  simp only [State.on, State.supTrip, m.mem (by decide), m.flash (by decide), m.fuses (by decide), Bool.or_true,
    Bool.not_true, true_and]
  exact ⟨rfl, rfl, rfl⟩

theorem does_supervisorRelease (s : State) (h1 : s.power.sup = true) (h2 : s.power.por = false) (h3 : s.power.rst = false) :
    ∃ t, exec .supervisorRelease s = .next t ∧ t.on = true ∧ t.power.strapWait = true ∧ t.boot.t0 = s.aon
      ∧ t.get F.BOOT_STAT_PHASE = 2 := by
  refine ⟨_, rfl, ?_⟩
  simp [State.supRelease, h1, State.released, State.on, h2, h3, State.get_put, F.BOOT_STAT_PHASE]

theorem does_resetNRelease (s : State) (h1 : s.power.rst = true) (h2 : s.power.off = false) (h3 : s.power.por = false)
    (h4 : s.power.sup = false) :
    ∃ t, exec .resetNRelease s = .next t ∧ t.on = true ∧ t.power.strapWait = true ∧ t.boot.t0 = s.aon
      ∧ t.get F.BOOT_STAT_PHASE = 2 := by
  refine ⟨_, rfl, ?_⟩
  simp [State.rstRelease, h1, State.released, State.on, h2, h3, h4, State.get_put, F.BOOT_STAT_PHASE]

theorem State.each_put_get {s : State} {g : Field} (hg : g.fits = true) :
    ∀ (l : List Field) (t : State), (∀ f ∈ l, f = g ∨ (f.fits = true ∧ f.apart g = true)) →
      (g ∈ l ∨ t.get g = s.get g) → (t.each l (fun u f => u.put f (s.get f))).get g = s.get g
  | [], t, _, h => by rcases h with h | h; · cases h
                      · exact h
  | f :: l, t, hl, h => by
    refine State.each_put_get hg l (t.put f (s.get f)) (fun x hx => hl x (List.mem_cons_of_mem _ hx)) ?_
    by_cases e : f = g
    · right
      subst e
      rw [State.get_put_same _ _ _ hg, Nat.mod_eq_of_lt (s.get_lt f)]
    · rcases h with h | h
      · left
        cases h with
        | head => exact absurd rfl e
        | tail _ h => exact h
      · right
        rcases hl f List.mem_cons_self with e' | ⟨h1, h2⟩
        · exact absurd e' e
        · rw [State.get_put_other _ _ h1 h2, h]

theorem State.rst_retains (s : State) {g : Field} (hm : g ∈ retained) (hg : g.fits = true)
    (ha : ∀ f ∈ retained, f = g ∨ (f.fits = true ∧ f.apart g = true)) (hc : g.addr ≠ F.FEND_COEX_STAT_REQ.addr) :
    s.rstReset.get g = s.get g := by
  have h1 := State.each_put_get (s := s) hg retained s.afterReset ha (.inl hm)
  unfold State.rstReset
  extract_lets t u
  have hu : u.get g = t.get g := by
    have : u.regs = t.regs := by
      have mm : Moves 0x800000 t u := Moves.each (fun x p h => Moves.step (State.keepHold_moves ..) (by decide) h) (Moves.refl _ _)
      exact mm.regs (by decide)
    unfold State.get State.word; rw [this]
  have hv : ((u.setSyn 0 { losses := s.clk.syn0.losses }).setSyn 1 { losses := s.clk.syn1.losses }).get g = u.get g := by
    have mm : Moves 0x8 u ((u.setSyn 0 { losses := s.clk.syn0.losses }).setSyn 1 { losses := s.clk.syn1.losses }) :=
      Moves.step (State.setSyn_moves ..) (by decide) (Moves.step (State.setSyn_moves ..) (by decide) (Moves.refl _ _))
    unfold State.get; rw [State.word_of_regs (mm.regs (by decide))]
  have hw : ∀ x : State, x.syncCoex.get g = x.get g := by
    intro x
    unfold State.syncCoex State.putb
    rw [State.get_put_ne _ (f := F.FEND_COEX_STAT_ACT) _ hc, State.get_put_ne _ (f := F.FEND_COEX_STAT_GNT) _ hc,
      State.get_put_ne _ (f := F.FEND_COEX_STAT_PRI) _ hc, State.get_put_ne _ (f := F.FEND_COEX_STAT_REQ) _ hc]
  rw [hw, hv, hu]
  exact h1

/-- RESET_N low keeps the registers of class P, flash and fuses (R36, R475). -/
theorem does_resetNAssert (s : State) (h1 : s.power.off = false) (h2 : s.power.por = false) (h3 : s.power.sup = false) :
    exec .resetNAssert s = .next { s.rstReset with power := { s.rstReset.power with rst := true, srcRstN := true } } := by
  show Host.Outcome.next s.rstAssert = _
  unfold State.rstAssert
  rw [h1, h2, h3, Bool.or_self, Bool.or_self, if_neg (by decide)]

theorem does_nvmNotBusy (hon : s.on = true) :
    exec .nvmNotBusy s = .next (State.follow { s with power := { s.power with nvmReady := true } } s) := on_nvmNotBusy hon

/-- The straps are latched 10 µs after t0; the flash boot goes on from step 4 (R37, R38, R88). -/
theorem does_strapLatch (hon : s.on = true) (sel chip : BitVec 2) {t u : State} (h1 : s.power.strapWait = true)
    (h2 : s.power.latched = false) (h3 : sel.toNat < 2) (ht : s.elapseTo (s.boot.t0 + usU 10) = t)
    (hu : ({ t with
      power := { t.power with strapWait := false, latched := true }
      boot := { t.boot with bootSel := sel.toNat, chipId := chip.toNat } } : State) = u) :
    exec (.strapLatch sel chip) s = .next (State.follow (((((u.put F.BOOT_STRAP_BOOT_SEL sel.toNat).put F.BOOT_STRAP_CHIP_ID
      chip.toNat).putb F.BOOT_STRAP_SRC t.power.srcRstN).put F.BOOT_STAT_PHASE 4).syncTags.raise 0x1907
        (if t.power.srcRstN then 2 else 1)) s) := by
  have e1 : sel.toNat % 4 = sel.toNat := Nat.mod_eq_of_lt sel.isLt
  have e2 : chip.toNat % 4 = chip.toNat := Nat.mod_eq_of_lt chip.isLt
  rw [on_strapLatch hon]
  unfold State.strapLatch
  rw [if_pos (by simp [hon, h1, h2])]
  simp only [ht, e1, e2, hu, show sel.toNat ≠ 2 by omega, show sel.toNat ≠ 3 by omega, if_false]

/-- BOOT_SEL 0b10: the boot ends in Dry dock, and the log is scanned (R38). -/
theorem does_strapLatch_dryDock (hon : s.on = true) (sel chip : BitVec 2) {t u : State} (h1 : s.power.strapWait = true)
    (h2 : s.power.latched = false) (h3 : sel.toNat = 2) (ht : s.elapseTo (s.boot.t0 + usU 10) = t)
    (hu : ({ t with
      power := { t.power with strapWait := false, latched := true }
      boot := { t.boot with bootSel := 2, chipId := chip.toNat } } : State) = u) :
    exec (.strapLatch sel chip) s = .next (State.follow (((((((u.put F.BOOT_STRAP_BOOT_SEL 2).put F.BOOT_STRAP_CHIP_ID
      chip.toNat).putb F.BOOT_STRAP_SRC t.power.srcRstN).put F.BOOT_STAT_PHASE 4).syncTags.raise 0x1907
        (if t.power.srcRstN then 2 else 1)).put F.BOOT_STAT_PHASE 3).tallyScan.dryDock 0) s) := by
  have e2 : chip.toNat % 4 = chip.toNat := Nat.mod_eq_of_lt chip.isLt
  rw [on_strapLatch hon]
  unfold State.strapLatch
  rw [if_pos (by simp [hon, h1, h2])]
  simp only [ht, h3, e2, hu, Nat.reduceMod, if_true]

/-- The flash phase of the boot: tags, log scan, rollback, then the slots in boot order (R88, R92, R99, R102). -/
theorem does_imageLoaded (hon : s.on = true) (answers : BitVec 2) {a t u : State} {l : List Nat} (h1 : s.power.latched = true)
    (h2 : s.power.nvmReady = true) (h3 : s.boot.goal = 0) (h4 : s.boot.bootSel < 2) (h5 : s.flag F.PWR_STATE_BUSY = true)
    (h6 : s.power.trans = none)
    (ha : ({ s with boot := { s.boot with device1 := bitAt answers.toNat 1 } } : State) = a)
    (ht : a.syncTags.tallyScan.rollback = t)
    (hu : t.each [0, 1] (fun x n => if (x.slotTag n).tag = 2 then x.setFail n 9 else x) = u) (hl : u.slotOrder = l) :
    exec (.imageLoaded answers) s = .next (State.follow (u.bootSlots answers.toNat (l.headD 0) l) s) := by
  rw [on_imageLoaded hon]
  unfold State.imageLoaded
  rw [if_pos (by simp [hon, h1, h2, h3, h4, h5, h6])]
  simp only [ha, ht, hu, hl]

theorem does_cpllFirstLock (hon : s.on = true) (h1 : s.up domCPLL = true) (h2 : s.clk.everLocked = false)
    (h3 : s.flag F.CLK_CPLL_STAT_REF_OK = true) (h4 : s.get F.CLK_CPLL_STAT_MODE ≤ 1) {t : State}
    (ht : s.cpllLocked.feClear feCPLL = t) :
    exec .cpllFirstLock s = .next (State.follow (t.each (List.range 4) (fun u l =>
      if u.up (linkDom l) && !(u.port l).mini && u.get (F.CLK_LPLL_STAT_MODE l) == 3 then u.put (F.CLK_LPLL_STAT_MODE l) 2
      else u)).bootAdvance s) := by
  rw [on_cpllFirstLock hon]
  unfold State.cpllFirstLock
  rw [if_pos (by simp [h1, h2, h3, h4])]
  simp only [ht]

/-- Boot step 10: the calibrations of every path, then the next step (R88, R126, R167). -/
theorem does_startupCalDone (hon : s.on = true) (rxFail txFail txLimit : BitVec 64) (slices : List (Fin 64 × Fin 2 × Fin 9))
    {t u x : State} (h1 : s.boot.goal ≠ 0) (h2 : s.get F.BOOT_STAT_PHASE = 10) (h3 : s.losLocked = true) (h4 : s.boot.calDone = false)
    (ht : s.rxCalRun 31 s.paths (mask rxFail) (slices.map (fun e => (e.1.val, e.2.1.val, e.2.2.val))) = t)
    (hu : t.txCalRun 15 t.paths (mask txFail) = u)
    (hx : u.each (bitList 64 (mask txLimit)) (fun v p =>
      if bitAt (mask txFail) p || !v.hasPath p then v else (v.putb (F.TXA_P_STAT_LOL_RAIL p) true).raise 0x0606 p) = x) :
    exec (.startupCalDone rxFail txFail txLimit slices) s = .next (State.follow
      (State.bootAdvance { x with boot := { x.boot with calDone := true } }) s) := by
  rw [on_startupCalDone hon]
  unfold State.startupCalDone
  dsimp only
  rw [if_pos (by simp [h1, h2, h3, h4])]
  simp only [ht, hu, hx]

/-- A TRIAL image that nothing confirmed: the device resets itself (R99). -/
theorem does_confirmTimeout (hon : s.on = true) (h1 : s.flag F.BOOT_STAT_TRIAL = true) (h2 : s.get F.BOOT_SLIP_CTL_CONF_S ≠ 0) :
    exec .confirmTimeout s = .next (State.follow
      ((s.elapseTo (s.boot.t0 + sU (10 * s.get F.BOOT_SLIP_CTL_CONF_S))).raise 0x0307 0).selfReset s) := by
  rw [on_confirmTimeout hon]
  unfold State.confirmTimeout
  rw [if_pos ⟨h1, h2⟩]

/-- A reset that was asked for falls due (R278, R463). -/
theorem does_deviceSelfReset (hon : s.on = true) {a : Nat} (h : s.boot.selfReset = some a) :
    exec .deviceSelfReset s = .next (State.follow (s.elapseTo a).selfReset s) := by
  rw [on_deviceSelfReset hon]
  unfold State.resetDue
  simp only [h]

theorem slip_write {src : Source} {v : Word} {op : Nat} {t : State} {w : Word} (ht : s.touch src = t) (hw : fix v 0 4 op = w)
    (hop : op < 16) (ho : s.opens src F.BOOT_SLIP_CMD_OP.addr w = true) : slipWrite src v op s = t.slipCmd op (bitsAt w.toNat 16 13) := by
  unfold slipWrite
  rw [hw, State.opens_Boot ho (by decide) (by decide) (by decide), ht]
  unfold State.writeBoot
  rw [if_pos (by decide), show bitsAt w.toNat 0 4 = op from by rw [← hw, bitsAt_fix _ _ (by decide)]; omega]

theorem slip_start {t : State} {op n : Nat} (ho : op = 1 ∨ op = 2 ∨ op = 3 ∨ op = 5) : t.slipCmd op n = t.slipStart op n := by
  unfold State.slipCmd
  rw [if_neg (by omega), if_pos ho]

theorem slip_begins {t : State} {op n : Nat} (h1 : t.boot.slipOp = none) (h2 : op = 2 ∨ op = 3 → t.boot.slipOpen = true)
    (h3 : op = 5 → t.flag F.BOOT_STAT_TRIAL = true) (h4 : t.flashOpen = true) :
    t.slipStart op n = State.putb { t with boot := { t.boot with slipOp := some (op, n % 8192) } } F.BOOT_SLIP_STAT_BUSY true := by
  unfold State.slipStart
  rw [if_neg (by simp [h1]), if_neg (by
    intro e
    rw [h2 e.1] at e
    exact absurd e.2 (by decide)), if_neg (by
    intro e
    rw [h3 e.1] at e
    exact absurd e.2 (by decide)), if_neg (by simp [h4])]

/-- OPEN with flash writes open starts (R98). -/
theorem does_slipOpen (hon : s.on = true) (src : Source) (v : Word) {t : State} {w : Word} (ht : s.touch src = t)
    (hw : fix v 0 4 1 = w) (ho : s.opens src F.BOOT_SLIP_CMD_OP.addr w = true) (h1 : t.boot.slipOp = none) (h4 : t.flashOpen = true) :
    exec (.slipOpen src v) s = .next (State.follow (State.putb { t with boot := { t.boot with
      slipOp := some (1, bitsAt w.toNat 16 13 % 8192) } } F.BOOT_SLIP_STAT_BUSY true) s) := by
  rw [on_slipOpen hon, slip_write ht hw (by decide) ho, slip_start (by decide), slip_begins h1 (by omega) (by omega) h4]

/-- WRITE of the sector named, while an update is open (R98). -/
theorem does_slipWrite (hon : s.on = true) (src : Source) (v : Word) {t : State} {w : Word} (ht : s.touch src = t)
    (hw : fix v 0 4 2 = w) (ho : s.opens src F.BOOT_SLIP_CMD_OP.addr w = true) (h1 : t.boot.slipOp = none)
    (h2 : t.boot.slipOpen = true) (h4 : t.flashOpen = true) :
    exec (.slipWrite src v) s = .next (State.follow (State.putb { t with boot := { t.boot with
      slipOp := some (2, bitsAt w.toNat 16 13 % 8192) } } F.BOOT_SLIP_STAT_BUSY true) s) := by
  rw [on_slipWrite hon, slip_write ht hw (by decide) ho, slip_start (by decide), slip_begins h1 (fun _ => h2) (by omega) h4]

/-- WRITE while no update is open, another operation standing or the flash closed to writes: STATE, BUSY, TEMP (R98, R104). -/
theorem refuses_slipWrite (hon : s.on = true) (src : Source) (v : Word) {t : State} {w : Word} (ht : s.touch src = t)
    (hw : fix v 0 4 2 = w) (ho : s.opens src F.BOOT_SLIP_CMD_OP.addr w = true)
    (h : t.boot.slipOp ≠ none ∨ t.boot.slipOpen = false) :
    exec (.slipWrite src v) s = .next (State.follow (t.put F.BOOT_SLIP_STAT_RESULT (if t.boot.slipOp ≠ none then 1 else 2)) s) := by
  rw [on_slipWrite hon, slip_write ht hw (by decide) ho, slip_start (by decide)]
  refine next_follow ?_
  unfold State.slipStart State.slipResult slipBUSY slipSTATE
  by_cases c : t.boot.slipOp = none
  · rw [if_neg (by simp [c]), if_pos ⟨Or.inl rfl, h.resolve_left (by simp [c])⟩, if_neg (by simp [c])]
  · rw [if_pos c, if_pos c]

/-- CLOSE while an update is open starts the check of the image (R98). -/
theorem does_slipClose (hon : s.on = true) (src : Source) (v : Word) {t : State} {w : Word} (ht : s.touch src = t)
    (hw : fix v 0 4 3 = w) (ho : s.opens src F.BOOT_SLIP_CMD_OP.addr w = true) (h1 : t.boot.slipOp = none)
    (h2 : t.boot.slipOpen = true) (h4 : t.flashOpen = true) :
    exec (.slipClose src v) s = .next (State.follow (State.putb { t with boot := { t.boot with
      slipOp := some (3, bitsAt w.toNat 16 13 % 8192) } } F.BOOT_SLIP_STAT_BUSY true) s) := by
  rw [on_slipClose hon, slip_write ht hw (by decide) ho, slip_start (by decide), slip_begins h1 (fun _ => h2) (by omega) h4]

/-- ABORT gives the update up at any time (R98). -/
theorem does_slipAbort (hon : s.on = true) (src : Source) (v : Word) {t : State} {w : Word} (ht : s.touch src = t)
    (hw : fix v 0 4 4 = w) (ho : s.opens src F.BOOT_SLIP_CMD_OP.addr w = true) :
    exec (.slipAbort src v) s = .next (State.follow (State.put (State.putb { t with boot := { t.boot with
      slipOpen := false, slipOp := none } } F.BOOT_SLIP_STAT_BUSY false) F.BOOT_SLIP_STAT_RESULT 0) s) := by
  rw [on_slipAbort hon, slip_write ht hw (by decide) ho]
  refine next_follow ?_
  unfold State.slipCmd
  rw [if_pos rfl]
  unfold State.slipResult slipOK; rfl

/-- CONFIRM of a TRIAL boot (R99). -/
theorem does_slipConfirm (hon : s.on = true) (src : Source) (v : Word) {t : State} {w : Word} (ht : s.touch src = t)
    (hw : fix v 0 4 5 = w) (ho : s.opens src F.BOOT_SLIP_CMD_OP.addr w = true) (h1 : t.boot.slipOp = none)
    (h3 : t.flag F.BOOT_STAT_TRIAL = true) (h4 : t.flashOpen = true) :
    exec (.slipConfirm src v) s = .next (State.follow (State.putb { t with boot := { t.boot with
      slipOp := some (5, bitsAt w.toNat 16 13 % 8192) } } F.BOOT_SLIP_STAT_BUSY true) s) := by
  rw [on_slipConfirm hon, slip_write ht hw (by decide) ho, slip_start (by decide), slip_begins h1 (by omega) (fun _ => h3) h4]

/-- A reserved OP is refused with STATE (R98). -/
theorem does_slipOpReserved (hon : s.on = true) (src : Source) (v : Word) {t : State} {w : Word} (ht : s.touch src = t)
    (hw : fix v 0 4 (if 6 ≤ v.toNat % 16 then v.toNat % 16 else 0) = w) (ho : s.opens src F.BOOT_SLIP_CMD_OP.addr w = true) :
    exec (.slipOpReserved src v) s = .next (State.follow (t.put F.BOOT_SLIP_STAT_RESULT 2) s) := by
  rw [on_slipOpReserved hon, slip_write ht hw (by split <;> omega) ho]
  refine next_follow ?_
  unfold State.slipCmd
  rw [if_neg (by split <;> omega), if_neg (by split <;> omega)]
  unfold State.slipResult slipSTATE; rfl

/-- A sector was written and read back as staged (R98). -/
theorem does_slipOpComplete (hon : s.on = true) {n : Nat} {t : State} (h1 : s.boot.slipOp = some (2, n))
    (ht : State.putb { s with boot := { s.boot with slipOp := none } } F.BOOT_SLIP_STAT_BUSY false = t) (h2 : t.flashOpen = true)
    (h3 : t.slipSlot ≠ 1 ∨ t.boot.device1 = true) :
    exec (.slipOpComplete 0) s = .next (State.follow ((t.setFlash t.slipSlot (4096 * n) (t.bytes 0x31000 4096)).put
      F.BOOT_SLIP_STAT_RESULT 0) s) := by
  rw [on_slipOpComplete hon]
  unfold State.slipDone
  simp only [h1, ht]
  unfold State.slipEffect
  have e : (t.slipSlot == 1 && !t.boot.device1) = false := by
    rcases h3 with h | h
    · simp [h]
    · simp [h]
  rw [if_neg (by simp [h2])]
  simp only [e, Bool.false_and, Bool.false_eq_true, if_false]
  rw [if_pos (by decide)]
  simp only [State.slipResult, slipOK]

/-- The bytes of a record stand in flash; its commit marker is next (R100). -/
theorem does_tallyProgramDone (hon : s.on = true) {q : TallyQ} {qs : List TallyQ} {t : State} (h1 : s.tally.phase = 1)
    (h2 : s.tally.queue = q :: qs) (ht : ({ s with tally := { s.tally with recs := s.tally.recs ++ [s.tallyRec q false] } } : State) = t)
    (h3 : t.flashOpen = true) :
    exec (.tallyProgramDone true) s = .next (State.follow { t with tally := { t.tally with phase := 2 } } s) := by
  rw [on_tallyProgramDone hon]
  unfold State.tallyProgramDone
  subst ht
  simp only [h1, h2, Bool.true_eq_false, if_false]
  split
  · rfl
  · exact absurd h3 (by assumption)

/-- A program that failed: the sector is retired and the record kept (R101). -/
theorem drops_tallyProgramDone (hon : s.on = true) {q : TallyQ} {qs : List TallyQ} {t : State} (h1 : s.tally.phase = 1)
    (h2 : s.tally.queue = q :: qs) (ht : s.tallyMend = t) :
    exec (.tallyProgramDone false) s = .next (State.follow (State.tallyKick { t with tally := { t.tally with phase := 0 } }) s) := by
  rw [on_tallyProgramDone hon]
  unfold State.tallyProgramDone
  simp only [h1, h2, ht, if_true]

/-- The marker stands: the record is committed, and the next one follows (R100). -/
theorem does_tallyCommitDone (hon : s.on = true) {q : TallyQ} {qs : List TallyQ} {t : State} (h1 : s.tally.phase = 2)
    (h2 : s.tally.queue = q :: qs)
    (ht : ({ s with tally := { s.tally with
        recs := s.tally.recs.map (fun r =>
          if r.sector = s.tally.sector ∧ r.slot = s.tally.slot then { r with committed := true } else r)
        queue := qs, seq := (s.tally.seq + 1) % 2 ^ 32, phase := 0 } } : State) = t) :
    exec (.tallyCommitDone true) s = .next (State.follow t.tallyAdvance.syncTally.tallyKick s) := by
  rw [on_tallyCommitDone hon]
  unfold State.tallyCommitDone
  simp only [h1, h2, ht, Bool.true_eq_false, if_false]

/-- A sector ahead is erased (R100). -/
theorem does_tallyEraseDone (hon : s.on = true) (h1 : s.tally.erasing = true) {n : Nat} (hn : s.sectorAhead (s.tally.ahead + 1) = n) :
    exec (.tallyEraseDone true) s = .next (State.follow (State.tallyKick { s with tally := { s.tally with
      erasing := false, ahead := s.tally.ahead + 1, recs := s.tally.recs.filter (fun r => r.sector ≠ n) } }) s) := by
  rw [on_tallyEraseDone hon]
  unfold State.tallyEraseDone
  simp only [h1, hn, if_true]

/-- The record that TALLY.APPEND holds enters the queue (R497). -/
theorem does_tallyAppendGo (hon : s.on = true) (src : Source) {t : State} {b : List Byte} {n : Nat} (ht : s.touch src = t)
    (ho : s.opens src F.TALLY_APPEND_GO_GO.addr 1 = true)
    (hb : (List.range 15).flatMap (fun w => leBytes 4 (t.word (0x1A0200 + 4 * w)).toNat) = b) (hn : le b 14 2 = n) :
    exec (.tallyAppendGo src) s = .next (State.follow (t.appendRecord (le b 12 2) (sub b 16 (if 44 < n then 44 else n))) s) := by
  rw [on_tallyAppendGo hon, State.opens_Tally ho (by decide) (by decide) (by decide), ht]
  unfold State.writeTally
  rw [if_pos (by decide), State.iff_of (by decide)]
  refine next_follow ?_
  unfold State.tallyAppend
  simp only [hb, hn]

end Sys2Proof.Machine
end

