-- ==== Sys2Proof/Laws/ExecRingCmds.lean ====
section
/-! SUPPORT. What each command of Machine/RingCmds.lean may change. -/

namespace Sys2Proof.Machine

set_option linter.all false

theorem execMemberJoin_moves (d : Fin 4) (cfg nco : List Nat) (s : State) (t : State) (h : execMemberJoin d cfg nco s = .next t) :
    Moves 0x8156de28d0aeda2 s t := by
  unfold execMemberJoin at h
  refine acting_moves (by decide) (fun _ => ?_) h
  repeat' first
    | with_reducible assumption
    | with_reducible exact Moves.refl _ _
    | decide
    | with_reducible apply Moves.step (State.join_moves ..)

theorem execRingTopoReport_moves (d : Fin 4) (up data : BitVec 2) (we ww : Fin 9) (s : State) (t : State) (h : execRingTopoReport d up data we ww s = .next t) :
    Moves 0x80520228d02e0a2 s t := by
  unfold execRingTopoReport at h
  refine acting_moves (by decide) (fun _ => ?_) h
  repeat' first
    | with_reducible assumption
    | with_reducible exact Moves.refl _ _
    | decide
    | with_reducible apply Moves.step (State.topoReport_moves ..)

theorem execRouteSwitch_moves (at_ : Stamp) (w e members : BitVec 4) (s : State) (t : State) (h : execRouteSwitch at_ w e members s = .next t) :
    Moves 0x805e822cd02e8e2 s t := by
  unfold execRouteSwitch at h
  refine acting_moves (by decide) (fun _ => ?_) h
  repeat' first
    | with_reducible assumption
    | with_reducible exact Moves.refl _ _
    | decide
    | with_reducible apply Moves.step (State.routeSwitch_moves ..)

theorem execPsumSectionRx_moves (port : Fin 2) (payload : List Byte) (s : State) (t : State) (h : execPsumSectionRx port payload s = .next t) :
    Moves 0x80520228d02e0a2 s t := by
  unfold execPsumSectionRx at h
  refine acting_moves (by decide) (fun _ => ?_) h
  repeat' first
    | with_reducible assumption
    | with_reducible exact Moves.refl _ _
    | decide
    | with_reducible apply Moves.step (State.psumRx_moves ..)

theorem execPsumTimeout_moves (q : Fin 96) (s : State) (t : State) (h : execPsumTimeout q s = .next t) :
    Moves 0x805e022cd02a4e2 s t := by
  unfold execPsumTimeout at h
  refine acting_moves (by decide) (fun _ => ?_) h
  repeat' first
    | with_reducible assumption
    | with_reducible exact Moves.refl _ _
    | decide
    | with_reducible apply Moves.step (State.psumTimeout_moves ..)

theorem execLayerForward_moves (l : Fin 32) (port : Fin 2) (payload : List Byte) (slack : BitVec 16) (s : State) (t : State) (h : execLayerForward l port payload slack s = .next t) :
    Moves 0x80520228d02e0a2 s t := by
  unfold execLayerForward at h
  refine acting_moves (by decide) (fun _ => ?_) h
  repeat' first
    | with_reducible assumption
    | with_reducible exact Moves.refl _ _
    | decide
    | with_reducible apply Moves.ite
    | with_reducible apply Moves.step (State.meter_moves ..)
    | with_reducible apply Moves.step (State.layerForward_moves ..)
    | split
    | (with_reducible refine Moves.snd (by assumption) ?_)
    | (with_reducible refine Moves.fst (by assumption) ?_)

theorem execPanelSumsRx_moves (d : Fin 4) (l : List (Fin 1024 × Fin 65 × Fin 65)) (s : State) (t : State) (h : execPanelSumsRx d l s = .next t) :
    Moves 0x80520228d02e0a2 s t := by
  unfold execPanelSumsRx at h
  refine acting_moves (by decide) (fun _ => ?_) h
  repeat' first
    | with_reducible assumption
    | with_reducible exact Moves.refl _ _
    | decide
    | with_reducible apply Moves.step (State.panelSums_moves ..)

theorem execRingSyncGo_moves (src : Source) (v : Word) (s : State) (t : State) (h : execRingSyncGo src v s = .next t) :
    Moves 0xfffffffdffffffb s t := by
  unfold execRingSyncGo at h
  refine acting_moves (by decide) (fun _ => ?_) h
  repeat' first
    | with_reducible assumption
    | with_reducible exact Moves.refl _ _
    | decide
    | with_reducible apply Moves.step (State.busWrite_Ring _ _ _ (by first | decide | (simp only [F.RING_SYNC_GO]; omega) | (simp only [F.RING_SYNC_GO]; split <;> decide) | (simp only [F.RING_SYNC_GO]; (repeat' split) <;> omega)))

theorem execRingSync_moves (at_ : Stamp) (s : State) (t : State) (h : execRingSync at_ s = .next t) :
    Moves 0x805e822cd02e8ea s t := by
  unfold execRingSync at h
  refine acting_moves (by decide) (fun _ => ?_) h
  repeat' first
    | with_reducible assumption
    | with_reducible exact Moves.refl _ _
    | decide
    | with_reducible apply Moves.step (State.ringSync_moves ..)

theorem execXcalReq_moves (src : Source) (calio : Bool) (v : Word) (s : State) (t : State) (h : execXcalReq src calio v s = .next t) :
    Moves 0xfffffffdffffffb s t := by
  unfold execXcalReq at h
  refine acting_moves (by decide) (fun _ => ?_) h
  repeat' first
    | with_reducible assumption
    | with_reducible exact Moves.refl _ _
    | decide
    | rw [State.upd_ring]
    | with_reducible apply Moves.step (State.with_ring_moves ..)
    | with_reducible apply Moves.step (State.busWrite_Ring _ _ _ (by first | decide | (simp only [F.RING_XCAL_REQ_GO]; omega) | (simp only [F.RING_XCAL_REQ_GO]; split <;> decide) | (simp only [F.RING_XCAL_REQ_GO]; (repeat' split) <;> omega)))

theorem execXcalStart_moves (s : State) (t : State) (h : execXcalStart s = .next t) :
    Moves 0x80560228d02e0a2 s t := by
  unfold execXcalStart at h
  refine acting_moves (by decide) (fun _ => ?_) h
  repeat' first
    | with_reducible assumption
    | with_reducible exact Moves.refl _ _
    | decide
    | with_reducible apply Moves.step (State.xcalStart_moves ..)

theorem execXcalDone_moves (txAlign txRe txIm rxAlign rxRe rxIm : BitVec 16) (s : State) (t : State) (h : execXcalDone txAlign txRe txIm rxAlign rxRe rxIm s = .next t) :
    Moves 0x805e823cd02e8e2 s t := by
  unfold execXcalDone at h
  refine acting_moves (by decide) (fun _ => ?_) h
  repeat' first
    | with_reducible assumption
    | with_reducible exact Moves.refl _ _
    | decide
    | with_reducible apply Moves.step (State.xcalDone_moves ..)
    | with_reducible apply Moves.step (State.rxAlign_moves ..)

theorem execRingRetrainE_moves (src : Source) (v : Word) (s : State) (t : State) (h : execRingRetrainE src v s = .next t) :
    Moves 0xfffffffdffffffb s t := by
  unfold execRingRetrainE at h
  refine acting_moves (by decide) (fun _ => ?_) h
  repeat' first
    | with_reducible assumption
    | with_reducible exact Moves.refl _ _
    | decide
    | with_reducible apply Moves.step (State.busWrite_Ring _ _ _ (by first | decide | (simp only [F.RING_CTL_RETRAIN_E]; omega) | (simp only [F.RING_CTL_RETRAIN_E]; split <;> decide) | (simp only [F.RING_CTL_RETRAIN_E]; (repeat' split) <;> omega)))

theorem execRingRetrainW_moves (src : Source) (v : Word) (s : State) (t : State) (h : execRingRetrainW src v s = .next t) :
    Moves 0xfffffffdffffffb s t := by
  unfold execRingRetrainW at h
  refine acting_moves (by decide) (fun _ => ?_) h
  repeat' first
    | with_reducible assumption
    | with_reducible exact Moves.refl _ _
    | decide
    | with_reducible apply Moves.step (State.busWrite_Ring _ _ _ (by first | decide | (simp only [F.RING_CTL_RETRAIN_E, F.RING_CTL_RETRAIN_W]; omega) | (simp only [F.RING_CTL_RETRAIN_E, F.RING_CTL_RETRAIN_W]; split <;> decide) | (simp only [F.RING_CTL_RETRAIN_E, F.RING_CTL_RETRAIN_W]; (repeat' split) <;> omega)))

theorem execRingCntClr_moves (src : Source) (v : Word) (s : State) (t : State) (h : execRingCntClr src v s = .next t) :
    Moves 0xfffffffdffffffb s t := by
  unfold execRingCntClr at h
  refine acting_moves (by decide) (fun _ => ?_) h
  repeat' first
    | with_reducible assumption
    | with_reducible exact Moves.refl _ _
    | decide
    | with_reducible apply Moves.step (State.busWrite_Ring _ _ _ (by first | decide | (simp only [F.RING_CNT_CLR_CLR]; omega) | (simp only [F.RING_CNT_CLR_CLR]; split <;> decide) | (simp only [F.RING_CNT_CLR_CLR]; (repeat' split) <;> omega)))

end Sys2Proof.Machine
end

