-- ==== Sys2Proof/Laws/OnRingCmds.lean ====
section
/-! SUPPORT. What the commands of Machine/RingCmds.lean answer while the device acts. -/

namespace Sys2Proof.Machine

set_option linter.all false

theorem on_memberJoin {s : State} (hon : s.on = true) (d : Fin 4) (cfg nco : List Nat) :
    exec (.memberJoin d cfg nco) s = .next (State.follow (s.join d.val cfg nco) s) := by
  show execMemberJoin d cfg nco s = _
  exact acting_on hon

theorem on_ringTopoReport {s : State} (hon : s.on = true) (d : Fin 4) (up data : BitVec 2) (we ww : Fin 9) :
    exec (.ringTopoReport d up data we ww) s = .next (State.follow (s.topoReport d.val up.toNat data.toNat we.val ww.val) s) := by
  show execRingTopoReport d up data we ww s = _
  exact acting_on hon

theorem on_routeSwitch {s : State} (hon : s.on = true) (at_ : Stamp) (w e members : BitVec 4) :
    exec (.routeSwitch at_ w e members) s = .next (State.follow (s.routeSwitch at_ w.toNat e.toNat members.toNat) s) := by
  show execRouteSwitch at_ w e members s = _
  exact acting_on hon

theorem on_psumSectionRx {s : State} (hon : s.on = true) (port : Fin 2) (payload : List Byte) :
    exec (.psumSectionRx port payload) s = .next (State.follow (s.psumRx port.val payload) s) := by
  show execPsumSectionRx port payload s = _
  exact acting_on hon

theorem on_psumTimeout {s : State} (hon : s.on = true) (q : Fin 96) :
    exec (.psumTimeout q) s = .next (State.follow (s.psumTimeout q.val) s) := by
  show execPsumTimeout q s = _
  exact acting_on hon

theorem on_layerForward {s : State} (hon : s.on = true) (l : Fin 32) (port : Fin 2) (payload : List Byte) (slack : BitVec 16) :
    exec (.layerForward l port payload slack) s = .next (State.follow ((if s.meterActive 6 then s.meter 6 slack.toNat else s).layerForward l.val port.val payload) s) := by
  show execLayerForward l port payload slack s = _
  exact acting_on hon

theorem on_panelSumsRx {s : State} (hon : s.on = true) (d : Fin 4) (l : List (Fin 1024 × Fin 65 × Fin 65)) :
    exec (.panelSumsRx d l) s = .next (State.follow (s.panelSums d.val (l.map (fun e => (e.1.val, e.2.1.val, e.2.2.val)))) s) := by
  show execPanelSumsRx d l s = _
  exact acting_on hon

theorem on_ringSyncGo {s : State} (hon : s.on = true) (src : Source) (v : Word) :
    exec (.ringSyncGo src v) s = .next (State.follow (s.busWrite src F.RING_SYNC_GO.addr (fixBit v 31)) s) := by
  show execRingSyncGo src v s = _
  exact acting_on hon

theorem on_ringSync {s : State} (hon : s.on = true) (at_ : Stamp) :
    exec (.ringSync at_) s = .next (State.follow (s.ringSync at_) s) := by
  show execRingSync at_ s = _
  exact acting_on hon

theorem on_xcalReq {s : State} (hon : s.on = true) (src : Source) (calio : Bool) (v : Word) :
    exec (.xcalReq src calio v) s = .next (State.follow ((State.busWrite { s with ring := { s.ring with calio := calio } } src F.RING_XCAL_REQ_GO.addr (fixBit v 31))) s) := by
  show execXcalReq src calio v s = _
  exact acting_on hon

theorem on_xcalStart {s : State} (hon : s.on = true)  :
    exec (.xcalStart) s = .next (State.follow (State.xcalStart s) s) := by
  show execXcalStart  s = _
  exact acting_on hon

theorem on_xcalDone {s : State} (hon : s.on = true) (txAlign txRe txIm rxAlign rxRe rxIm : BitVec 16) :
    exec (.xcalDone txAlign txRe txIm rxAlign rxRe rxIm) s = .next (State.follow (s.xcalDone (txAlign.toInt, ⟨txRe.toInt, txIm.toInt⟩) (rxAlign.toInt, ⟨rxRe.toInt, rxIm.toInt⟩)) s) := by
  show execXcalDone txAlign txRe txIm rxAlign rxRe rxIm s = _
  exact acting_on hon

theorem on_ringRetrainE {s : State} (hon : s.on = true) (src : Source) (v : Word) :
    exec (.ringRetrainE src v) s = .next (State.follow (s.busWrite src F.RING_CTL_RETRAIN_E.addr (fixBit v F.RING_CTL_RETRAIN_E.lo)) s) := by
  show execRingRetrainE src v s = _
  exact acting_on hon

theorem on_ringRetrainW {s : State} (hon : s.on = true) (src : Source) (v : Word) :
    exec (.ringRetrainW src v) s = .next (State.follow (s.busWrite src F.RING_CTL_RETRAIN_E.addr (fixBit v F.RING_CTL_RETRAIN_W.lo)) s) := by
  show execRingRetrainW src v s = _
  exact acting_on hon

theorem on_ringCntClr {s : State} (hon : s.on = true) (src : Source) (v : Word) :
    exec (.ringCntClr src v) s = .next (State.follow (s.busWrite src F.RING_CNT_CLR_CLR.addr (fixBit v 0)) s) := by
  show execRingCntClr src v s = _
  exact acting_on hon

end Sys2Proof.Machine
end

