-- ==== Sys2Proof/Laws/DoesRing.lean ====
section
/-! SUPPORT. What the commands of the cascade ring do where they take effect. -/

namespace Sys2Proof.Machine

set_option linter.all false

variable {s : State}

/-- At the head: a device with the head's chain configuration joins (R284). -/
theorem does_memberJoin (hon : s.on = true) (d : Fin 4) (cfg nco : List Nat) {t u : State} (h1 : s.ringLive = true) (h2 : d.val ≠ 0)
    (h3 : d.val < s.ringSize) (h4 : s.boot.chipId = 0) (h5 : s.linkUp 2 = true ∨ s.linkUp 3 = true) (h6 : cfg = s.chainCfg)
    (ht : { s with ring := { s.ring with cfgs := sparseInsert s.ring.cfgs d.val cfg } } = t)
    (h7 : bitAt t.members d.val = false) (hu : (t.emit (.ring d.val 2 s.ncoCfg)).setMembers (setBitAt t.members d.val true) = u) :
    exec (.memberJoin d cfg nco) s = .next (State.follow
      (((u.emit (.ring d.val 3 u.panelReport)).raise 0x0D03 0).reroute.issueSync) s) := by
  rw [on_memberJoin hon]
  unfold State.join
  rw [if_neg (by simp [h1]; omega), if_pos h4, if_pos (by simp [h5])]
  unfold State.headCheck
  simp only [ht]
  rw [if_pos h6, if_neg (by simp [h7]), hu]

/-- A device with another chain configuration is refused (R284). -/
theorem refuses_memberJoin (hon : s.on = true) (d : Fin 4) (cfg nco : List Nat) {t : State} (h1 : s.ringLive = true) (h2 : d.val ≠ 0)
    (h3 : d.val < s.ringSize) (h4 : s.boot.chipId = 0) (h5 : s.linkUp 2 = true ∨ s.linkUp 3 = true) (h6 : cfg ≠ s.chainCfg)
    (ht : { s with ring := { s.ring with cfgs := sparseInsert s.ring.cfgs d.val cfg } } = t) :
    exec (.memberJoin d cfg nco) s = .next (State.follow
      (((t.setMembers (setBitAt t.members d.val false)).raise 0x0D06 0).reroute) s) := by
  rw [on_memberJoin hon]
  unfold State.join
  rw [if_neg (by simp [h1]; omega), if_pos h4, if_pos (by simp [h5])]
  unfold State.headCheck
  simp only [ht]
  rw [if_neg h6]

/-- At the device itself, with the head's configuration: it joins with the head's NCO values (R284 steps 1 to 5). -/
theorem does_memberJoin_member (hon : s.on = true) (d : Fin 4) (cfg nco : List Nat) (h1 : s.ringLive = true) (h2 : d.val ≠ 0)
    (h3 : d.val < s.ringSize) (h4 : d.val = s.boot.chipId) (h6 : cfg = s.chainCfg) :
    exec (.memberJoin d cfg nco) s = .next (State.follow (s.memberJoin nco) s) := by
  rw [on_memberJoin hon]
  unfold State.join
  rw [if_neg (by simp [h1]; omega), if_neg (by omega), if_pos ⟨h4, h6⟩]

theorem does_ringTopoReport (hon : s.on = true) (d : Fin 4) (up data : BitVec 2) (we ww : Fin 9) (h1 : s.isHead = true)
    (h2 : s.ringLive = true) (h3 : d.val ≠ 0) (h4 : d.val < s.ringSize) :
    exec (.ringTopoReport d up data we ww) s = .next (State.follow (State.reroute { s with ring := { s.ring with
      ports := sparseInsert s.ring.ports d.val (up.toNat + 4 * data.toNat + 16 * we.val + 256 * ww.val) } }) s) := by
  rw [on_ringTopoReport hon]
  unfold State.topoReport
  rw [if_pos (by simp [h1, h2, h3, h4])]
  simp only [Nat.mod_eq_of_lt (show up.toNat < 4 from up.isLt), Nat.mod_eq_of_lt (show data.toNat < 4 from data.isLt),
    Nat.mod_eq_of_lt we.isLt, Nat.mod_eq_of_lt ww.isLt]

/-- The head's own route takes effect at its instant (R288, R289). -/
theorem does_routeSwitch (hon : s.on = true) (at_ : Stamp) (w e members : BitVec 4) {a : Stamp} {hw he : Nat} (h1 : s.isHead = true)
    (h2 : s.ring.route = some (a, hw, he)) :
    exec (.routeSwitch at_ w e members) s = .next (State.follow ((s.reach a).headSwitch hw he) s) := by
  rw [on_routeSwitch hon]
  unfold State.routeSwitch
  rw [if_pos h1, h2]

/-- A member takes the route it was sent. -/
theorem does_routeSwitch_member (hon : s.on = true) (at_ : Stamp) (w e members : BitVec 4) (h1 : s.isHead = false)
    (h2 : s.isMember = true) (h3 : s.ringLive = true) :
    exec (.routeSwitch at_ w e members) s = .next (State.follow ((((s.reach at_).setArcs w.toNat e.toNat).setMembers
      (if bitAt (maskOr w.toNat e.toNat) s.boot.chipId then members.toNat else 0)).tideTopology.tideSource) s) := by
  rw [on_routeSwitch hon]
  unfold State.routeSwitch
  rw [if_neg (by simp [h1]), if_pos (by simp [h2, h3])]

/-- A partial-sum section of a port that the array uses is held for its instant (R291). -/
theorem does_psumSectionRx (hon : s.on = true) (port : Fin 2) (payload : List Byte) {x : Section} (h1 : s.inRun = true)
    (h2 : s.ringSize ≠ 0) (h3 : s.linkUp (2 + port.val) = true) (h4 : s.flag F.RING_CTL_PSUM_EN = true)
    (h5 : s.psumPorts.contains port.val = true) (hx : parseSection (fun n => 2 * n + (n + 7) / 8) payload = some x)
    (h6 : x.comp = 3 ∧ x.data.length = 128 ∧ x.mask ≠ []) :
    exec (.psumSectionRx port payload) s = .next (State.follow { s with ring := { s.ring with
      psums := (s.ring.psums.filter (fun e => decide (s.tide.now < e.at_ + msU 1))) ++ [⟨port.val, x.stream, s.absOf x.stamp,
        x.stepHi, x.data, maskOf ((List.range 128).filter (maskBit x.mask)),
        maskOf ((List.range 8).filter (maskBit (x.mask.drop 16)))⟩] } } s) := by
  rw [on_psumSectionRx hon]
  unfold State.psumRx
  rw [if_neg (by simp only [h1, h2, h3, h4, h5]; decide), hx]
  dsimp only
  rw [if_neg (by simp [h6])]

theorem does_psumTimeout (hon : s.on = true) (q : Fin 96) {i a : Nat} {t u : State} (h1 : s.coreRuns q.val = true)
    (h2 : (s.bundleAt q.val).xmode = 4) (h3 : (s.bundleAt q.val).xp % 4 = 1) (h4 : s.ringSize ≠ 0) (h5 : s.si1 q.val = none)
    (hi : (s.core q.val).si1R / s.outVec (q.val / 24) = i) (h6 : (s.core q.val).waitSince = some a) (h7 : ((s.core q.val).unit i).isSome = true)
    (ht : s.elapseTo (a + nsU (atLeast1 (s.get F.RING_HOLD_HOLD_NS))) = t)
    (hu : t.setCore q.val { t.core q.val with late := some i } = u) :
    exec (.psumTimeout q) s = .next (State.follow (if s.isShadow q.val then u
      else (u.inc F.RING_LATE_CNT_COUNT).raiseMs 0x0D05 0 0) s) := by
  rw [on_psumTimeout hon]
  unfold State.psumTimeout
  dsimp only
  rw [if_pos (by simp [h1, h2, h3, h4, h5]), hi, h6]
  obtain ⟨y, hy⟩ := Option.isSome_iff_exists.mp h7
  rw [hy]
  dsimp only
  rw [ht, hu]

/-- The head forwards the next complete section of a layer to its arcs (R292). -/
theorem does_layerForward (hon : s.on = true) (l : Fin 32) (port : Fin 2) (payload : List Byte) (slack : BitVec 16) {t u : State}
    {j : Nat} (ht : (if s.meterActive 6 then s.meter 6 slack.toNat else s) = t) (h1 : t.inRun = true) (h2 : t.ringSize ≠ 0)
    (h3 : t.boot.chipId = 0) (h4 : t.txRun = true)
    (hj : (t.fwdCuts l.val).find? (fun j => decide ((sparseFind t.ring.fwd l.val).getD 0 ≤ j) && t.cutDone l.val j) = some j)
    (hu : t.fwdSend l.val j t.arcLinks = u) :
    exec (.layerForward l port payload slack) s = .next (State.follow { u with ring := { u.ring with
      fwd := sparseInsert u.ring.fwd l.val (j + 1) } } s) := by
  rw [on_layerForward hon, ht]
  unfold State.layerForward
  rw [if_pos (by simp [h1, h2]), if_pos h3, if_pos h4]
  unfold State.fwdNext
  simp only [hj, hu]

/-- A member that has joined takes a forwarded section and passes it on (R292). -/
theorem does_layerForward_member (hon : s.on = true) (l : Fin 32) (port : Fin 2) (payload : List Byte) (slack : BitVec 16) {t : State}
    (ht : (if s.meterActive 6 then s.meter 6 slack.toNat else s) = t) (h1 : t.inRun = true) (h2 : t.ringSize ≠ 0)
    (h3 : t.boot.chipId ≠ 0) (h4 : t.linkUp (2 + port.val) = true) (h5 : bitAt t.members t.boot.chipId = true) :
    exec (.layerForward l port payload slack) s = .next (State.follow (t.fwdTake port.val payload) s) := by
  rw [on_layerForward hon, ht]
  unfold State.layerForward
  rw [if_pos (by simp [h1, h2]), if_neg h3, if_pos (by simp [h4, h5])]

theorem does_panelSumsRx (hon : s.on = true) (d : Fin 4) (l : List (Fin 1024 × Fin 65 × Fin 65)) {base next : List (Nat × Nat)}
    (h1 : s.ringLive = true) (h2 : d.val ≠ s.boot.chipId) (h3 : d.val < s.ringSize)
    (hb : (if s.ring.sumsAt.isSome then s.ring.sumsNext else s.ring.sums) = base)
    (hn : (l.map (fun e => (e.1.val, e.2.1.val, e.2.2.val))).foldl (fun (m : List (Nat × Nat)) e =>
      sparseInsert m (d.val * 1024 + e.1 % 1024) (e.2.1 % 256 + 256 * (e.2.2 % 256))) base = next) :
    exec (.panelSumsRx d l) s = .next (State.follow { s with ring := { s.ring with
      sumsNext := next, sumsGot := setBitAt s.ring.sumsGot d.val true
      sumsAt := some (s.ring.sumsAt.getD (s.tide.now + usU 100)) } } s) := by
  rw [on_panelSumsRx hon]
  unfold State.panelSums
  rw [if_neg (by simp [h1, h2]; omega)]
  simp only [hb, hn]
  cases s.ring.sumsAt <;> rfl

theorem ring_sync_write {src : Source} {w : Word} (h : bitAt w.toNat 31 = true) (ho : s.opens src F.RING_SYNC_GO.addr w = true) :
    s.busWrite src F.RING_SYNC_GO.addr w = (s.touch src).syncGo := by
  rw [State.opens_Ring ho (by decide) (by decide) (by decide)]
  unfold State.writeRing
  rw [if_neg (by decide), if_pos (by decide), State.iff_of h]

/-- The head issues a ring sync for a grid instant at least 50 µs away (R294). -/
theorem does_ringSyncGo (hon : s.on = true) (src : Source) (v : Word) {t : State} (ht : s.touch src = t)
    (ho : s.opens src F.RING_SYNC_GO.addr (fixBit v 31) = true) (h1 : t.ringLive = true) (h2 : t.boot.chipId = 0)
    (h3 : t.ring.sync = none) :
    exec (.ringSyncGo src v) s = .next (State.follow ((State.putb { t with ring := { t.ring with sync := some t.syncInstant } }
      F.RING_SYNC_PEND true).emit (.ring 15 5 [t.syncInstant.toNat])) s) := by
  rw [on_ringSyncGo hon, ring_sync_write (bitAt_fixBit v (by decide)) ho, ht]
  unfold State.syncGo
  rw [if_neg (by simp [h1]), if_pos h2]
  unfold State.issueSync
  rw [if_neg (by simp [h3])]

/-- A member asks the head for one. -/
theorem does_ringSyncGo_member (hon : s.on = true) (src : Source) (v : Word) {t : State} (ht : s.touch src = t)
    (ho : s.opens src F.RING_SYNC_GO.addr (fixBit v 31) = true) (h1 : t.ringLive = true) (h2 : t.boot.chipId ≠ 0)
    (h3 : bitAt t.members t.boot.chipId = true) :
    exec (.ringSyncGo src v) s = .next (State.follow (t.emit (.ring 0 5 [])) s) := by
  rw [on_ringSyncGo hon, ring_sync_write (bitAt_fixBit v (by decide)) ho, ht]
  unfold State.syncGo
  rw [if_neg (by simp [h1]), if_neg h2, if_pos h3]

/-- At its instant the head's dividers are reset in step and the sync is counted (R294). -/
theorem does_ringSync (hon : s.on = true) (at_ : Stamp) {a : Stamp} {u : State} (h1 : s.ringLive = true) (h2 : s.boot.chipId = 0)
    (h3 : s.ring.sync = some a) (hu : s.reach a = u) :
    exec (.ringSync at_) s = .next (State.follow
      (((((State.putb { u with ring := { u.ring with sync := none }, clk := { u.clk with divReset := none, aligned := true } }
        F.RING_SYNC_PEND false).inc F.RING_SYNC_COUNT).putb F.RING_STAT_SYNCED true).maskCheck).raise 0x0D08 0) s) := by
  rw [on_ringSync hon]
  unfold State.ringSync
  simp only [h1, h2, h3, hu, Bool.true_eq_false, if_false, if_true]

/-- A member that has joined does so at the instant it was sent. -/
theorem does_ringSync_member (hon : s.on = true) (at_ : Stamp) {u : State} (h1 : s.ringLive = true) (h2 : s.boot.chipId ≠ 0)
    (h3 : bitAt s.members s.boot.chipId = true) (hu : s.reach at_ = u) :
    exec (.ringSync at_) s = .next (State.follow
      ((((State.putb { u with ring := { u.ring with sync := none }, clk := { u.clk with divReset := none, aligned := true } }
        F.RING_SYNC_PEND false).inc F.RING_SYNC_COUNT).putb F.RING_STAT_SYNCED true).maskCheck) s) := by
  rw [on_ringSync hon]
  unfold State.ringSync
  simp only [h1, h2, h3, hu, Bool.true_eq_false, if_false, if_true]

/-- The request is held up to 1 s for a gap (R295). -/
theorem does_xcalReq (hon : s.on = true) (src : Source) (v : Word) {t : State}
    (ht : State.touch { s with ring := { s.ring with calio := true } } src = t)
    (ho : State.opens { s with ring := { s.ring with calio := true } } src F.RING_XCAL_REQ_GO.addr (fixBit v 31) = true)
    (h0 : t.ring.calio = true) (h1 : t.isHead = true) (h2 : t.flag F.RING_STAT_FORMED = true)
    (h3 : t.flag F.BERTH_CTL_CALIO_EN = true) (h4 : t.rx.cal = none) (h5 : t.tx.cal = none) (h6 : t.berth.cal = none)
    (h7 : t.ring.xcal = none) :
    exec (.xcalReq src true v) s = .next (State.follow (State.putb { t with ring := { t.ring with xcal := some (t.aon + sU 1, none) } }
      F.RING_XCAL_STAT_WAIT true) s) := by
  rw [on_xcalReq hon, State.opens_Ring ho (by decide) (by decide) (by decide), ht]
  unfold State.writeRing
  rw [if_neg (by decide), if_neg (by decide), if_pos (by decide), State.iff_of (bitAt_fixBit v (by decide)), h0]
  unfold State.xcalReq
  rw [if_neg (by simp [h1, h2, h3, h4, h5, h6, h7])]

/-- Without CALIO_EN on every member, or outside a formed ring, it is refused. -/
theorem refuses_xcalReq (hon : s.on = true) (src : Source) (calio : Bool) (v : Word) {t : State}
    (ht : State.touch { s with ring := { s.ring with calio := calio } } src = t)
    (ho : State.opens { s with ring := { s.ring with calio := calio } } src F.RING_XCAL_REQ_GO.addr (fixBit v 31) = true)
    (h1 : t.isHead = false ∨ t.flag F.RING_STAT_FORMED = false ∨ t.flag F.BERTH_CTL_CALIO_EN = false ∨ t.ring.calio = false) :
    exec (.xcalReq src calio v) s = .next (State.follow (t.raise 0x0D0A 0) s) := by
  rw [on_xcalReq hon, State.opens_Ring ho (by decide) (by decide) (by decide), ht]
  unfold State.writeRing
  rw [if_neg (by decide), if_neg (by decide), if_pos (by decide), State.iff_of (bitAt_fixBit v (by decide))]
  unfold State.xcalReq
  rw [if_pos (by rcases h1 with h | h | h | h <;> simp [h])]
  unfold State.xcalRefuse; rfl

/-- The held calibration starts in a gap that covers every quad: 6 ms per device (R295). -/
theorem does_xcalStart (hon : s.on = true) {w : Nat} {e : Stamp} {t : State} (h1 : s.ring.xcal = some (w, none))
    (h2 : s.gapCovers s.quadMask s.xcalSpan = true) (he : stampAdd s.stamp s.xcalSpan = e)
    (ht : ((State.putb { s with ring := { s.ring with xcal := some (w, some e) } } F.RING_XCAL_STAT_WAIT false).putb
      F.RING_XCAL_STAT_BUSY true).emit (.ring 15 8 [s.stamp.toNat, e.toNat]) = t) (h3 : t.flag F.RING_XCAL_STAT_BUSY = true) :
    exec .xcalStart s = .next (State.follow t s) := by
  rw [on_xcalStart hon]
  unfold State.xcalStart State.xcalTry
  simp only [h1, h2, he, ht, h3, if_true, Bool.true_eq_false, false_and, if_false]

/-- No gap within 1 s: refused. -/
theorem refuses_xcalStart (hon : s.on = true) {w : Nat} (h1 : s.ring.xcal = some (w, none))
    (h2 : s.gapCovers s.quadMask s.xcalSpan = false) (h3 : s.flag F.RING_XCAL_STAT_BUSY = false) (h4 : w ≤ s.aon) :
    exec .xcalStart s = .next (State.follow ((State.putb { s with ring := { s.ring with xcal := none } }
      F.RING_XCAL_STAT_WAIT false).raise 0x0D0A 0) s) := by
  rw [on_xcalStart hon]
  unfold State.xcalStart State.xcalTry
  simp only [h1, h2, h3, h4, Bool.false_eq_true, if_false, and_self, if_true]
  unfold State.xcalRefuse; rfl

/-- A member takes the results that the head sent, within ±4 ns and ±6 dB (R295). -/
theorem does_xcalDone_member (hon : s.on = true) (txAlign txRe txIm rxAlign rxRe rxIm : BitVec 16) (h1 : s.isHead = false)
    (h2 : s.isMember = true) (h3 : bitAt s.members s.boot.chipId = true) (h4 : xcalOk txAlign.toInt ⟨txRe.toInt, txIm.toInt⟩ = true)
    (h5 : xcalOk rxAlign.toInt ⟨rxRe.toInt, rxIm.toInt⟩ = true) :
    exec (.xcalDone txAlign txRe txIm rxAlign rxRe rxIm) s = .next (State.follow
      ((s.xcalTake 0 txAlign.toInt ⟨txRe.toInt, txIm.toInt⟩).xcalTake 1 rxAlign.toInt ⟨rxRe.toInt, rxIm.toInt⟩) s) := by
  rw [on_xcalDone hon]
  unfold State.xcalDone
  rw [if_neg (by simp [h1]), if_pos (by simp [h2, h3, h4, h5])]

/-- At the head: the results are measured (free values), the good ones sent, the bad devices named in FAIL (R295). -/
theorem does_xcalDone (hon : s.on = true) (txAlign txRe txIm rxAlign rxRe rxIm : BitVec 16) {w n : Nat} {e : Stamp} {t u v : State}
    {ds bad : List Nat} (h1 : s.isHead = true) (h2 : s.ring.xcal = some (w, some e)) (hd : (s.reach e).draw = (n, t))
    (hds : (List.range s.ringSize).filter (fun d => d != 0) = ds) (hb : ds.filter (xcalBad n) = bad)
    (hu : t.each (ds.filter (fun d => !bad.contains d)) (fun v d => v.emit (.ring d 6
      ([ofSigned 16 (xcalResult n d 0).1, ofSigned 16 (xcalResult n d 0).2.re, ofSigned 16 (xcalResult n d 0).2.im]
        ++ [ofSigned 16 (xcalResult n d 1).1, ofSigned 16 (xcalResult n d 1).2.re, ofSigned 16 (xcalResult n d 1).2.im]))) = u)
    (hv : (State.putb { u with ring := { u.ring with xcal := none } } F.RING_XCAL_STAT_BUSY false).put F.RING_XCAL_STAT_FAIL
      (maskOf bad) = v) :
    exec (.xcalDone txAlign txRe txIm rxAlign rxRe rxIm) s = .next (State.follow
      ((if bad.isEmpty then v else v.raise 0x0D0B 0).raise 0x0D09 0) s) := by
  rw [on_xcalDone hon]
  unfold State.xcalDone
  rw [if_pos h1]
  simp only [h2, hd, hds, hb, hu, hv]

theorem ring_ctl_write {src : Source} {w : Word} {t : State} (ho : s.opens src F.RING_CTL_SIZE.addr w = true)
    (ht : ((s.touch src).plain F.RING_CTL_SIZE.addr w.toNat).ringForm = t) (h : bitsAt w.toNat 4 2 ≠ 0) :
    s.busWrite src F.RING_CTL_SIZE.addr w
      = ((t.iff (bitAt w.toNat 4) (fun x => x.retrain 2)).iff (bitAt w.toNat 5) (fun x => x.retrain 3)).linksChanged.bootAdvance := by
  rw [State.opens_Ring ho (by decide) (by decide) (by decide)]
  unfold State.writeRing
  rw [if_pos (by decide), ht]
  dsimp only
  rw [if_neg h]

theorem does_ringRetrainE (hon : s.on = true) (src : Source) (v : Word) {t : State} {w : Word}
    (hw : fixBit v F.RING_CTL_RETRAIN_E.lo = w) (ho : s.opens src F.RING_CTL_SIZE.addr w = true)
    (ht : ((s.touch src).plain F.RING_CTL_SIZE.addr w.toNat).ringForm = t) (h : bitAt w.toNat 5 = false)
    (h1 : t.linkState 2 ≠ 0 ∧ t.linkState 2 ≠ 8) :
    exec (.ringRetrainE src v) s = .next (State.follow (t.linkDown 2).linksChanged.bootAdvance s) := by
  have h4 : bitAt w.toNat 4 = true := by rw [← hw]; exact bitAt_fixBit v (by decide)
  have h45 : bitsAt w.toNat 4 2 ≠ 0 := by
    intro q; unfold bitAt at h4; unfold bitsAt at q; rw [beq_iff_eq] at h4; omega
  rw [on_ringRetrainE hon, hw]
  refine next_follow ((ring_ctl_write ho ht h45).trans ?_)
  rw [State.iff_of h4, State.iff_not h]
  unfold State.retrain
  rw [if_neg (by unfold stOFF stBYPASS; omega)]

theorem does_ringRetrainW (hon : s.on = true) (src : Source) (v : Word) {t : State} {w : Word}
    (hw : fixBit v F.RING_CTL_RETRAIN_W.lo = w) (ho : s.opens src F.RING_CTL_SIZE.addr w = true)
    (ht : ((s.touch src).plain F.RING_CTL_SIZE.addr w.toNat).ringForm = t) (h : bitAt w.toNat 4 = false)
    (h1 : t.linkState 3 ≠ 0 ∧ t.linkState 3 ≠ 8) :
    exec (.ringRetrainW src v) s = .next (State.follow (t.linkDown 3).linksChanged.bootAdvance s) := by
  have h4 : bitAt w.toNat 5 = true := by rw [← hw]; exact bitAt_fixBit v (by decide)
  have h45 : bitsAt w.toNat 4 2 ≠ 0 := by
    intro q; unfold bitAt at h4; unfold bitsAt at q; rw [beq_iff_eq] at h4; omega
  rw [on_ringRetrainW hon, hw]
  refine next_follow ((ring_ctl_write ho ht h45).trans ?_)
  rw [State.iff_not h, State.iff_of h4]
  unfold State.retrain
  rw [if_neg (by unfold stOFF stBYPASS; omega)]

theorem does_ringCntClr (hon : s.on = true) (src : Source) (v : Word) {t : State} (ht : s.touch src = t)
    (ho : s.opens src F.RING_CNT_CLR_CLR.addr (fixBit v 0) = true) :
    exec (.ringCntClr src v) s = .next (State.follow ((((((t.put F.RING_LATE_CNT_COUNT 0).put F.RING_SAT_CNT_COUNT 0).put
      F.RING_TOPO_CNT_COUNT 0).put F.RING_TXGAP_CNT_COUNT 0).linkClear 2).linkClear 3) s) := by
  rw [on_ringCntClr hon, State.opens_Ring ho (by decide) (by decide) (by decide), ht]
  unfold State.writeRing
  rw [if_neg (by decide), if_neg (by decide), if_neg (by decide), if_pos (by decide), State.iff_of (bitAt_fixBit v (by decide))]
  unfold State.ringClear; rfl

end Sys2Proof.Machine
end

