-- ==== Sys2Proof/Laws/ExecRxCmds.lean ====
section
/-! SUPPORT. What each command of Machine/RxCmds.lean may change. -/

namespace Sys2Proof.Machine

set_option linter.all false

theorem execAgcDecision_moves (s : State) (t : State) (h : execAgcDecision s = .next t) :
    Moves 0x80520228d02a0a2 s t := by
  unfold execAgcDecision at h
  refine acting_moves (by decide) (fun _ => ?_) h
  repeat' first
    | with_reducible assumption
    | with_reducible exact Moves.refl _ _
    | decide
    | with_reducible apply Moves.step (State.agcDecision_moves ..)

theorem execAgcSuspendEnd_moves (s : State) (t : State) (h : execAgcSuspendEnd s = .next t) :
    Moves 0x805a022cd02a0e2 s t := by
  unfold execAgcSuspendEnd at h
  refine acting_moves (by decide) (fun _ => ?_) h
  repeat' first
    | with_reducible assumption
    | with_reducible exact Moves.refl _ _
    | decide
    | with_reducible apply Moves.step (State.agcSuspendEnd_moves ..)

theorem execAgcCtlWrite_moves (src : Source) (v : Word) (s : State) (t : State) (h : execAgcCtlWrite src v s = .next t) :
    Moves 0xd0568e28dc2e8a2 s t := by
  unfold execAgcCtlWrite at h
  refine acting_moves (by decide) (fun _ => ?_) h
  repeat' first
    | with_reducible assumption
    | with_reducible exact Moves.refl _ _
    | decide
    | with_reducible apply Moves.step (State.busWrite_Rxa _ _ _ (by first | decide | (simp only [F.RXA_AGC_CTL_MODE]; omega) | (simp only [F.RXA_AGC_CTL_MODE]; split <;> decide) | (simp only [F.RXA_AGC_CTL_MODE]; (repeat' split) <;> omega)))

theorem execServoAverage_moves (p : Fin 64) (s : State) (t : State) (h : execServoAverage p s = .next t) :
    Moves 0x80520228d02a0a2 s t := by
  unfold execServoAverage at h
  refine acting_moves (by decide) (fun _ => ?_) h
  repeat' first
    | with_reducible assumption
    | with_reducible exact Moves.refl _ _
    | decide
    | with_reducible apply Moves.step (State.servoAverage_moves ..)

theorem execSliceExchange_moves (p : Fin 64) (q : Fin 2) (slice : Fin 9) (trimLimit residual : Bool) (s : State) (t : State) (h : execSliceExchange p q slice trimLimit residual s = .next t) :
    Moves 0x90520228d42a0a2 s t := by
  unfold execSliceExchange at h
  refine acting_moves (by decide) (fun _ => ?_) h
  repeat' first
    | with_reducible assumption
    | with_reducible exact Moves.refl _ _
    | decide
    | with_reducible apply Moves.ite
    | with_reducible apply Moves.step (State.sliceExchange_moves ..)
    | split
    | (with_reducible refine Moves.snd (by assumption) ?_)
    | (with_reducible refine Moves.fst (by assumption) ?_)

theorem execRxCalReq_moves (src : Source) (v : Word) (s : State) (t : State) (h : execRxCalReq src v s = .next t) :
    Moves 0xd0568e28dc2e8a2 s t := by
  unfold execRxCalReq at h
  refine acting_moves (by decide) (fun _ => ?_) h
  repeat' first
    | with_reducible assumption
    | with_reducible exact Moves.refl _ _
    | decide
    | with_reducible apply Moves.step (State.busWrite_Rxa _ _ _ (by first | decide | (simp only [F.RXA_CAL_REQ_GO]; omega) | (simp only [F.RXA_CAL_REQ_GO]; split <;> decide) | (simp only [F.RXA_CAL_REQ_GO]; (repeat' split) <;> omega)))

theorem execRxCalStart_moves (s : State) (t : State) (h : execRxCalStart s = .next t) :
    Moves 0x80520228d02a0a2 s t := by
  unfold execRxCalStart at h
  refine acting_moves (by decide) (fun _ => ?_) h
  repeat' first
    | with_reducible assumption
    | with_reducible exact Moves.refl _ _
    | decide
    | with_reducible apply Moves.step (State.rxCalStart_moves ..)

theorem execRxCalTimeout_moves (s : State) (t : State) (h : execRxCalTimeout s = .next t) :
    Moves 0x805a022cd02a0e2 s t := by
  unfold execRxCalTimeout at h
  refine acting_moves (by decide) (fun _ => ?_) h
  repeat' first
    | with_reducible assumption
    | with_reducible exact Moves.refl _ _
    | decide
    | with_reducible apply Moves.step (State.rxCalTimeout_moves ..)

theorem execRxCalDone_moves (fail : BitVec 64) (slices : List (Fin 64 × Fin 2 × Fin 9)) (s : State) (t : State) (h : execRxCalDone fail slices s = .next t) :
    Moves 0x905a063cd42a0e2 s t := by
  unfold execRxCalDone at h
  refine acting_moves (by decide) (fun _ => ?_) h
  repeat' first
    | with_reducible assumption
    | with_reducible exact Moves.refl _ _
    | decide
    | with_reducible apply Moves.step (State.rxCalDone_moves ..)

theorem execRxRetireWrite_moves (src : Source) (half : Fin 2) (v : Word) (s : State) (t : State) (h : execRxRetireWrite src half v s = .next t) :
    Moves 0xd0568e28dc2e8a2 s t := by
  unfold execRxRetireWrite at h
  refine acting_moves (by decide) (fun _ => ?_) h
  repeat' first
    | with_reducible assumption
    | with_reducible exact Moves.refl _ _
    | decide
    | with_reducible apply Moves.ite
    | with_reducible apply Moves.step (State.busWrite_Rxa _ _ _ (by first | decide | (simp only [F.RXA_RETIRE0_PATHS, F.RXA_RETIRE1_PATHS]; omega) | (simp only [F.RXA_RETIRE0_PATHS, F.RXA_RETIRE1_PATHS]; split <;> decide) | (simp only [F.RXA_RETIRE0_PATHS, F.RXA_RETIRE1_PATHS]; (repeat' split) <;> omega)))
    | split
    | (with_reducible refine Moves.snd (by assumption) ?_)
    | (with_reducible refine Moves.fst (by assumption) ?_)

theorem execRxaCntClrOvr_moves (src : Source) (v : Word) (s : State) (t : State) (h : execRxaCntClrOvr src v s = .next t) :
    Moves 0xd0568e28dc2e8a2 s t := by
  unfold execRxaCntClrOvr at h
  refine acting_moves (by decide) (fun _ => ?_) h
  repeat' first
    | with_reducible assumption
    | with_reducible exact Moves.refl _ _
    | decide
    | with_reducible apply Moves.step (State.busWrite_Rxa _ _ _ (by first | decide | (simp only [F.RXA_CNT_CLR_OVR]; omega) | (simp only [F.RXA_CNT_CLR_OVR]; split <;> decide) | (simp only [F.RXA_CNT_CLR_OVR]; (repeat' split) <;> omega)))

theorem execRxaCntClrAgc_moves (src : Source) (v : Word) (s : State) (t : State) (h : execRxaCntClrAgc src v s = .next t) :
    Moves 0xd0568e28dc2e8a2 s t := by
  unfold execRxaCntClrAgc at h
  refine acting_moves (by decide) (fun _ => ?_) h
  repeat' first
    | with_reducible assumption
    | with_reducible exact Moves.refl _ _
    | decide
    | with_reducible apply Moves.step (State.busWrite_Rxa _ _ _ (by first | decide | (simp only [F.RXA_CNT_CLR_OVR, F.RXA_CNT_CLR_AGC]; omega) | (simp only [F.RXA_CNT_CLR_OVR, F.RXA_CNT_CLR_AGC]; split <;> decide) | (simp only [F.RXA_CNT_CLR_OVR, F.RXA_CNT_CLR_AGC]; (repeat' split) <;> omega)))

theorem execRxaCtlWrite_moves (src : Source) (v : Word) (s : State) (t : State) (h : execRxaCtlWrite src v s = .next t) :
    Moves 0xd0568e28dc2e8a2 s t := by
  unfold execRxaCtlWrite at h
  refine acting_moves (by decide) (fun _ => ?_) h
  repeat' first
    | with_reducible assumption
    | with_reducible exact Moves.refl _ _
    | decide
    | with_reducible apply Moves.step (State.busWrite_Rxa _ _ _ (by first | decide | (simp only [F.RXA_CTL_BBF_BW]; omega) | (simp only [F.RXA_CTL_BBF_BW]; split <;> decide) | (simp only [F.RXA_CTL_BBF_BW]; (repeat' split) <;> omega)))

theorem execRxdRunWrite_moves (src : Source) (v : Word) (s : State) (t : State) (h : execRxdRunWrite src v s = .next t) :
    Moves 0xc056c628d8aeda2 s t := by
  unfold execRxdRunWrite at h
  refine acting_moves (by decide) (fun _ => ?_) h
  repeat' first
    | with_reducible assumption
    | with_reducible exact Moves.refl _ _
    | decide
    | with_reducible apply Moves.step (State.busWrite_Rxd _ _ _ (by first | decide | (simp only [F.RXD_CTL_RUN]; omega) | (simp only [F.RXD_CTL_RUN]; split <;> decide) | (simp only [F.RXD_CTL_RUN]; (repeat' split) <;> omega)))

theorem rxdCfgAddr_block (i : Nat) (h : i < 6148) : rxdCfgAddr i / 4 * 4 / 65536 = 5 := by
  unfold rxdCfgAddr nth
  by_cases h3 : 4 ≤ i
  · rw [List.getElem?_eq_none (by simpa using h3), Option.getD_none]; omega
  · match i, h3 with
    | 0, _ => decide
    | 1, _ => decide
    | 2, _ => decide
    | 3, _ => decide
    | n + 4, h3 => omega

theorem execRxdCfgWrite_moves (src : Source) (i : Fin 6148) (v : Word) (s : State) (t : State) (h : execRxdCfgWrite src i v s = .next t) :
    Moves 0xc056c628d8aeda2 s t := by
  unfold execRxdCfgWrite at h
  refine acting_moves (by decide) (fun _ => ?_) h
  repeat' first
    | with_reducible assumption
    | with_reducible exact Moves.refl _ _
    | decide
    | with_reducible apply Moves.step (State.busWrite_Rxd _ _ _ (rxdCfgAddr_block _ i.isLt))

theorem execRxdNcoGo_moves (src : Source) (v : Word) (s : State) (t : State) (h : execRxdNcoGo src v s = .next t) :
    Moves 0xc056c628d8aeda2 s t := by
  unfold execRxdNcoGo at h
  refine acting_moves (by decide) (fun _ => ?_) h
  repeat' first
    | with_reducible assumption
    | with_reducible exact Moves.refl _ _
    | decide
    | with_reducible apply Moves.step (State.busWrite_Rxd _ _ _ (by first | decide | (simp only [F.RXD_NCO_CTL_GO]; omega) | (simp only [F.RXD_NCO_CTL_GO]; split <;> decide) | (simp only [F.RXD_NCO_CTL_GO]; (repeat' split) <;> omega)))

theorem execRxdNcoRetuneAt_moves (s : State) (t : State) (h : execRxdNcoRetuneAt s = .next t) :
    Moves 0x805a062cd02a0e2 s t := by
  unfold execRxdNcoRetuneAt at h
  refine acting_moves (by decide) (fun _ => ?_) h
  repeat' first
    | with_reducible assumption
    | with_reducible exact Moves.refl _ _
    | decide
    | with_reducible apply Moves.step (State.rxNcoFire_moves ..)

theorem execRxdCntClrSat_moves (src : Source) (v : Word) (s : State) (t : State) (h : execRxdCntClrSat src v s = .next t) :
    Moves 0xc056c628d8aeda2 s t := by
  unfold execRxdCntClrSat at h
  refine acting_moves (by decide) (fun _ => ?_) h
  repeat' first
    | with_reducible assumption
    | with_reducible exact Moves.refl _ _
    | decide
    | with_reducible apply Moves.step (State.busWrite_Rxd _ _ _ (by first | decide | (simp only [F.RXD_CNT_CLR_SAT]; omega) | (simp only [F.RXD_CNT_CLR_SAT]; split <;> decide) | (simp only [F.RXD_CNT_CLR_SAT]; (repeat' split) <;> omega)))

theorem execRxdCntClrInv_moves (src : Source) (v : Word) (s : State) (t : State) (h : execRxdCntClrInv src v s = .next t) :
    Moves 0xc056c628d8aeda2 s t := by
  unfold execRxdCntClrInv at h
  refine acting_moves (by decide) (fun _ => ?_) h
  repeat' first
    | with_reducible assumption
    | with_reducible exact Moves.refl _ _
    | decide
    | with_reducible apply Moves.step (State.busWrite_Rxd _ _ _ (by first | decide | (simp only [F.RXD_CNT_CLR_SAT, F.RXD_CNT_CLR_INV]; omega) | (simp only [F.RXD_CNT_CLR_SAT, F.RXD_CNT_CLR_INV]; split <;> decide) | (simp only [F.RXD_CNT_CLR_SAT, F.RXD_CNT_CLR_INV]; (repeat' split) <;> omega)))

end Sys2Proof.Machine
end

