-- ==== Sys2Proof/Laws/OnRxCmds.lean ====
section
/-! SUPPORT. What the commands of Machine/RxCmds.lean answer while the device acts. -/

namespace Sys2Proof.Machine

set_option linter.all false

theorem on_agcDecision {s : State} (hon : s.on = true)  :
    exec (.agcDecision) s = .next (State.follow (State.agcDecision s) s) := by
  show execAgcDecision  s = _
  exact acting_on hon

theorem on_agcSuspendEnd {s : State} (hon : s.on = true)  :
    exec (.agcSuspendEnd) s = .next (State.follow (State.agcSuspendEnd s) s) := by
  show execAgcSuspendEnd  s = _
  exact acting_on hon

theorem on_agcCtlWrite {s : State} (hon : s.on = true) (src : Source) (v : Word) :
    exec (.agcCtlWrite src v) s = .next (State.follow (s.busWrite src F.RXA_AGC_CTL_MODE.addr v) s) := by
  show execAgcCtlWrite src v s = _
  exact acting_on hon

theorem on_servoAverage {s : State} (hon : s.on = true) (p : Fin 64) :
    exec (.servoAverage p) s = .next (State.follow (s.servoAverage p.val) s) := by
  show execServoAverage p s = _
  exact acting_on hon

theorem on_sliceExchange {s : State} (hon : s.on = true) (p : Fin 64) (q : Fin 2) (slice : Fin 9) (trimLimit residual : Bool) :
    exec (.sliceExchange p q slice trimLimit residual) s = .next (State.follow (if s.hasPath p.val then s.sliceExchange p.val q.val slice.val trimLimit residual else s) s) := by
  show execSliceExchange p q slice trimLimit residual s = _
  exact acting_on hon

theorem on_rxCalReq {s : State} (hon : s.on = true) (src : Source) (v : Word) :
    exec (.rxCalReq src v) s = .next (State.follow (s.busWrite src F.RXA_CAL_REQ_GO.addr (fixBit v 31)) s) := by
  show execRxCalReq src v s = _
  exact acting_on hon

theorem on_rxCalStart {s : State} (hon : s.on = true)  :
    exec (.rxCalStart) s = .next (State.follow (State.rxCalStart s) s) := by
  show execRxCalStart  s = _
  exact acting_on hon

theorem on_rxCalTimeout {s : State} (hon : s.on = true)  :
    exec (.rxCalTimeout) s = .next (State.follow (State.rxCalTimeout s) s) := by
  show execRxCalTimeout  s = _
  exact acting_on hon

theorem on_rxCalDone {s : State} (hon : s.on = true) (fail : BitVec 64) (slices : List (Fin 64 × Fin 2 × Fin 9)) :
    exec (.rxCalDone fail slices) s = .next (State.follow (s.rxCalDone (mask fail) (slices.map (fun e => (e.1.val, e.2.1.val, e.2.2.val)))) s) := by
  show execRxCalDone fail slices s = _
  exact acting_on hon

theorem on_rxRetireWrite {s : State} (hon : s.on = true) (src : Source) (half : Fin 2) (v : Word) :
    exec (.rxRetireWrite src half v) s = .next (State.follow (s.busWrite src (if half.val = 0 then F.RXA_RETIRE0_PATHS else F.RXA_RETIRE1_PATHS).addr v) s) := by
  show execRxRetireWrite src half v s = _
  exact acting_on hon

theorem on_rxaCntClrOvr {s : State} (hon : s.on = true) (src : Source) (v : Word) :
    exec (.rxaCntClrOvr src v) s = .next (State.follow (s.busWrite src F.RXA_CNT_CLR_OVR.addr (fixBit v F.RXA_CNT_CLR_OVR.lo)) s) := by
  show execRxaCntClrOvr src v s = _
  exact acting_on hon

theorem on_rxaCntClrAgc {s : State} (hon : s.on = true) (src : Source) (v : Word) :
    exec (.rxaCntClrAgc src v) s = .next (State.follow (s.busWrite src F.RXA_CNT_CLR_OVR.addr (fixBit v F.RXA_CNT_CLR_AGC.lo)) s) := by
  show execRxaCntClrAgc src v s = _
  exact acting_on hon

theorem on_rxdRunWrite {s : State} (hon : s.on = true) (src : Source) (v : Word) :
    exec (.rxdRunWrite src v) s = .next (State.follow (s.busWrite src F.RXD_CTL_RUN.addr v) s) := by
  show execRxdRunWrite src v s = _
  exact acting_on hon

theorem on_rxdCfgWrite {s : State} (hon : s.on = true) (src : Source) (i : Fin 6148) (v : Word) :
    exec (.rxdCfgWrite src i v) s = .next (State.follow (s.busWrite src (rxdCfgAddr i.val) v) s) := by
  show execRxdCfgWrite src i v s = _
  exact acting_on hon

theorem on_rxdNcoGo {s : State} (hon : s.on = true) (src : Source) (v : Word) :
    exec (.rxdNcoGo src v) s = .next (State.follow (s.busWrite src F.RXD_NCO_CTL_GO.addr (fixBit v 31)) s) := by
  show execRxdNcoGo src v s = _
  exact acting_on hon

theorem on_rxdNcoRetuneAt {s : State} (hon : s.on = true)  :
    exec (.rxdNcoRetuneAt) s = .next (State.follow (State.rxNcoFire s) s) := by
  show execRxdNcoRetuneAt  s = _
  exact acting_on hon

theorem on_rxdCntClrSat {s : State} (hon : s.on = true) (src : Source) (v : Word) :
    exec (.rxdCntClrSat src v) s = .next (State.follow (s.busWrite src F.RXD_CNT_CLR_SAT.addr (fixBit v F.RXD_CNT_CLR_SAT.lo)) s) := by
  show execRxdCntClrSat src v s = _
  exact acting_on hon

theorem on_rxdCntClrInv {s : State} (hon : s.on = true) (src : Source) (v : Word) :
    exec (.rxdCntClrInv src v) s = .next (State.follow (s.busWrite src F.RXD_CNT_CLR_SAT.addr (fixBit v F.RXD_CNT_CLR_INV.lo)) s) := by
  show execRxdCntClrInv src v s = _
  exact acting_on hon

theorem on_rxaCtlWrite {s : State} (hon : s.on = true) (src : Source) (v : Word) :
    exec (.rxaCtlWrite src v) s = .next (State.follow (s.busWrite src F.RXA_CTL_BBF_BW.addr v) s) := by
  show execRxaCtlWrite src v s = _
  exact acting_on hon

end Sys2Proof.Machine
end

