-- ==== Sys2Proof/Laws/DoesRx.lean ====
section
/-! SUPPORT. What the commands of the receive front end and the receive chain do where they take effect. -/

namespace Sys2Proof.Machine

set_option linter.all false

variable {s : State}

/-- AUTO at the end of a decision interval in which a counted path had a sample (R110). -/
theorem does_agcDecision (hon : s.on = true) {t : State} (h1 : s.agcSusp = false) (h2 : s.get F.RXA_AGC_CTL_MODE = 0)
    (h3 : s.rx.counted = true) (ht : s.agcAuto = t) :
    exec .agcDecision s = .next (State.follow { t with rx := { t.rx with peak := 0, anyOvr := false, counted := false } } s) := by
  rw [on_agcDecision hon]
  unfold State.agcDecision
  simp only [h1, h2, h3, Bool.false_eq_true, if_false, if_true, ht]

/-- MANUAL: the step goes to MAN_STEP, at most 10 (R113). -/
theorem does_agcDecision_manual (hon : s.on = true) {t : State} (h1 : s.agcSusp = false) (h2 : s.get F.RXA_AGC_CTL_MODE = 1)
    (ht : s.gainStep (min 10 (s.get F.RXA_AGC_CTL_MAN_STEP)) true = t) :
    exec .agcDecision s = .next (State.follow { t with rx := { t.rx with peak := 0, anyOvr := false, counted := false } } s) := by
  rw [on_agcDecision hon]
  unfold State.agcDecision
  have e : gainLimit (s.get F.RXA_AGC_CTL_MAN_STEP) = min 10 (s.get F.RXA_AGC_CTL_MAN_STEP) := by
    unfold gainLimit; split <;> omega
  simp only [h1, h2, Bool.false_eq_true, if_false, e, ht]

/-- While suspended the dwell is held at 0 and nothing is decided (R112). -/
theorem holds_agcDecision (hon : s.on = true) (h1 : s.agcSusp = true) :
    exec .agcDecision s = .next (State.follow { s with rx := { s.rx with dwell := 0, peak := 0, anyOvr := false, counted := false } }
      s) := by
  rw [on_agcDecision hon]
  unfold State.agcDecision
  simp only [h1, if_true]

/-- No cause of suspension is left: START is loaded under RESUME in AUTO (R112). -/
theorem does_agcSuspendEnd (hon : s.on = true) {a : BitVec 64} {u : State} (h1 : s.agcSusp = true) (h2 : s.inRun = true)
    (h3 : s.trswHigh = false) (h4 : s.rxLoBad = false) (h5 : s.quads.any (fun q => s.up (domRXQ q)) = true)
    (h6 : s.rx.suspUntil = some a)
    (hu : State.putb { s.reach a with rx := { (s.reach a).rx with suspUntil := none } } F.RXA_AGC_STAT_SUSP false = u)
    (h7 : u.flag F.RXA_AGC_CTL_RESUME = true) (h8 : u.get F.RXA_AGC_CTL_MODE = 0) :
    exec .agcSuspendEnd s = .next (State.follow (u.gainStep (gainLimit (u.get F.RXA_AGC_CTL_START)) false) s) := by
  rw [on_agcSuspendEnd hon]
  unfold State.agcSuspendEnd
  rw [if_pos (by simp [h1, h2, h3, h4, h5])]
  simp only [h6, hu]
  rw [if_pos (by simp [h7, h8])]

/-- Without RESUME, or not in AUTO, the step stays (R112). -/
theorem holds_agcSuspendEnd (hon : s.on = true) {a : BitVec 64} {u : State} (h1 : s.agcSusp = true) (h2 : s.inRun = true)
    (h3 : s.trswHigh = false) (h4 : s.rxLoBad = false) (h5 : s.quads.any (fun q => s.up (domRXQ q)) = true)
    (h6 : s.rx.suspUntil = some a)
    (hu : State.putb { s.reach a with rx := { (s.reach a).rx with suspUntil := none } } F.RXA_AGC_STAT_SUSP false = u)
    (h7 : u.flag F.RXA_AGC_CTL_RESUME = false ∨ u.get F.RXA_AGC_CTL_MODE ≠ 0) :
    exec .agcSuspendEnd s = .next (State.follow u s) := by
  rw [on_agcSuspendEnd hon]
  unfold State.agcSuspendEnd
  rw [if_pos (by simp [h1, h2, h3, h4, h5])]
  simp only [h6, hu]
  rw [if_neg (by rcases h7 with h | h <;> simp [h])]

/-- A change of MODE to AUTO begins with the dwell at 0 (R113). -/
theorem does_agcCtlWrite (hon : s.on = true) (src : Source) (v : Word) {t u : State} (ht : s.touch src = t)
    (ho : s.opens src F.RXA_AGC_CTL_MODE.addr v = true) (hu : t.plain F.RXA_AGC_CTL_MODE.addr v.toNat = u)
    (h1 : u.get F.RXA_AGC_CTL_MODE = 0) (h2 : t.get F.RXA_AGC_CTL_MODE ≠ 0) :
    exec (.agcCtlWrite src v) s = .next (State.follow { u with rx := { u.rx with dwell := 0 } } s) := by
  rw [on_agcCtlWrite hon, State.opens_Rxa ho (by decide) (by decide) (by decide), ht]
  unfold State.writeRxa
  rw [if_neg (by decide), if_pos (by decide)]
  unfold State.writeAgcCtl
  simp only [hu, h1]
  rw [if_pos ⟨trivial, h2⟩]

theorem does_servoAverage (hon : s.on = true) (p : Fin 64) {c d : Nat} {t : State} {ci cq : Nat × Bool}
    (h1 : 65536 ≤ (s.rxPath p.val).count) (hc : s.servoCode p.val s.agcStep = c) (hd : s.get F.RXA_SERVO_CTL_DEAD = d)
    (hi : servoMove (c % 1024) (s.rxPath p.val).sumI d = ci) (hq : servoMove (c / 1024) (s.rxPath p.val).sumQ d = cq)
    (ht : ((s.setServo p.val s.agcStep (ci.1 + 1024 * cq.1)).showServo p.val).servoRestart p.val = t) :
    exec (.servoAverage p) s = .next (State.follow (if (ci.2 || cq.2) = true then t.servoRail p.val else t) s) := by
  rw [on_servoAverage hon]
  unfold State.servoAverage
  dsimp only
  rw [if_neg (by omega)]
  subst hc hd hi hq ht
  rfl

/-- The calibrated spare replaces the slice that has served longest (R119). -/
theorem does_sliceExchange (hon : s.on = true) (p : Fin 64) (q : Fin 2) (slice : Fin 9) {a b : Adc} {sp o : Nat} {os : List Nat}
    {t : State} (h1 : s.hasPath p.val = true) (ha : s.adc p.val q.val = a)
    (ht : s.setAdc p.val q.val { a with resid := setNth a.resid slice.val 0 } = t) (hb : t.adc p.val q.val = b)
    (h2 : b.spare = some sp) (h3 : b.order = o :: os) :
    exec (.sliceExchange p q slice false false) s = .next (State.follow
      ((t.setAdc p.val q.val { b with order := os ++ [sp], spare := some o }).put (fSPARE p.val q.val) o) s) := by
  rw [on_sliceExchange hon, if_pos h1]
  unfold State.sliceExchange
  simp only [ha, Bool.false_eq_true, if_false, ht, Bool.false_or, hb, h2, h3, show decide (3 ≤ 0) = false from rfl]

/-- A trim at its limit retires the slice (R120). -/
theorem does_sliceExchange_trim (hon : s.on = true) (p : Fin 64) (q : Fin 2) (slice : Fin 9) {a : Adc}
    {t : State} (h1 : s.hasPath p.val = true) (ha : s.adc p.val q.val = a)
    (ht : s.setAdc p.val q.val { a with resid := setNth a.resid slice.val 0 } = t) :
    exec (.sliceExchange p q slice true false) s = .next (State.follow (t.sliceFail p.val q.val slice.val) s) := by
  rw [on_sliceExchange hon, if_pos h1]
  unfold State.sliceExchange
  simp only [ha, Bool.false_eq_true, if_false, ht, Bool.true_or, if_true]

/-- The third residual out of range in succession retires the slice (R120). -/
theorem does_sliceExchange_resid (hon : s.on = true) (p : Fin 64) (q : Fin 2) (slice : Fin 9) {a : Adc}
    {t : State} (h1 : s.hasPath p.val = true) (ha : s.adc p.val q.val = a) (h2 : nth 0 a.resid slice.val = 2)
    (ht : s.setAdc p.val q.val { a with resid := setNth a.resid slice.val 3 } = t) :
    exec (.sliceExchange p q slice false true) s = .next (State.follow (t.sliceFail p.val q.val slice.val) s) := by
  rw [on_sliceExchange hon, if_pos h1]
  unfold State.sliceExchange
  simp only [ha, if_true, h2, ht, Bool.false_or, show decide (3 ≤ 2 + 1) = true from rfl]

theorem rxCal_write {src : Source} {v : Word} {t : State} {w : Word} (ht : s.touch src = t) (hw : fixBit v 31 = w)
    (ho : s.opens src F.RXA_CAL_REQ_GO.addr w = true) :
    s.busWrite src F.RXA_CAL_REQ_GO.addr w = t.rxCalReq (bitsAt w.toNat 0 5) (bitsAt w.toNat 8 8) := by
  rw [State.opens_Rxa ho (by decide) (by decide) (by decide), ht]
  unfold State.writeRxa
  rw [if_neg (by decide), if_neg (by decide), if_neg (by decide), if_neg (by decide), if_neg (by decide), if_pos (by decide),
      State.iff_of (by rw [← hw]; exact bitAt_fixBit v (by decide))]

theorem does_rxCalReq (hon : s.on = true) (src : Source) (v : Word) {t : State} {w : Word} {m : Nat} (ht : s.touch src = t)
    (hw : fixBit v 31 = w) (ho : s.opens src F.RXA_CAL_REQ_GO.addr w = true)
    (hm : t.presentQuads (bitsAt w.toNat 8 8) = m) (h1 : m ≠ 0) (h2 : bitsAt w.toNat 0 5 ≠ 0) (h3 : t.rx.cal = none) :
    exec (.rxCalReq src v) s = .next (State.follow
      ((State.put { t with rx := { t.rx with cal := some ⟨bitsAt w.toNat 0 5, m, t.aon + sU 1, none⟩ } } F.RXA_CAL_STAT_ACTIVE
        m).putb F.RXA_CAL_STAT_WAIT true) s) := by
  rw [on_rxCalReq hon, hw, rxCal_write ht hw ho]
  unfold State.rxCalReq
  simp only [hm]
  rw [if_neg (by simp [h1, h2, h3])]

/-- No present quad, no kind, or a calibration that stands: refused (R128). -/
theorem refuses_rxCalReq (hon : s.on = true) (src : Source) (v : Word) {t : State} {w : Word} (ht : s.touch src = t)
    (hw : fixBit v 31 = w) (ho : s.opens src F.RXA_CAL_REQ_GO.addr w = true)
    (h : t.presentQuads (bitsAt w.toNat 8 8) = 0 ∨ bitsAt w.toNat 0 5 = 0 ∨ t.rx.cal ≠ none) :
    exec (.rxCalReq src v) s = .next (State.follow (t.raise 0x0405 0) s) := by
  rw [on_rxCalReq hon, hw, rxCal_write ht hw ho]
  unfold State.rxCalReq
  dsimp only
  rw [if_pos h]; unfold State.rxCalRefuse; rfl

theorem does_rxCalStart (hon : s.on = true) {kind m w : Nat} {u : State} (h : s.rx.cal = some ⟨kind, m, w, none⟩)
    (h1 : s.gapCovers m (rxCalSpan kind) = true)
    (hu : (State.putb { s with rx := { s.rx with cal := some ⟨kind, m, w, some (stampAdd s.stamp (rxCalSpan kind))⟩ } }
      F.RXA_CAL_STAT_WAIT false).putb F.RXA_CAL_STAT_BUSY true = u) :
    exec .rxCalStart s = .next (State.follow (u.each (u.pathsOf m) (fun x p =>
        (x.setRxPath p { x.rxPath p with stopped := true }).addSpan ⟨x.portAt x.nextK, none, some p⟩)) s) := by
  rw [on_rxCalStart hon]
  unfold State.rxCalStart
  simp only [h, h1, if_true, hu]

theorem does_rxCalTimeout (hon : s.on = true) {kind m w : Nat} {t : State} (h : s.rx.cal = some ⟨kind, m, w, none⟩)
    (ht : s.elapseTo w = t) :
    exec .rxCalTimeout s = .next (State.follow
      (((State.putb { t with rx := { t.rx with cal := none } } F.RXA_CAL_STAT_WAIT false).put F.RXA_CAL_STAT_ACTIVE 0).raise 0x0405
        0) s) := by
  rw [on_rxCalTimeout hon]
  unfold State.rxCalTimeout
  simp only [h, ht]
  unfold State.rxCalRefuse; rfl

theorem does_rxCalDone (hon : s.on = true) (fail : BitVec 64) (slices : List (Fin 64 × Fin 2 × Fin 9)) {kind m w : Nat} {e : BitVec 64}
    {t v x y : State} {l : List Nat} (h : s.rx.cal = some ⟨kind, m, w, some e⟩) (ht : s.reach e = t) (hl : t.pathsOf m = l)
    (hv : t.rxCalRun kind l (mask fail) (slices.map (fun e => (e.1.val, e.2.1.val, e.2.2.val))) = v)
    (hx : (((State.putb { v with rx := { v.rx with cal := none } } F.RXA_CAL_STAT_BUSY false).put F.RXA_CAL_STAT_ACTIVE 0).put
      F.RXA_CAL_STAT_FAIL (failBits (v.get F.RXA_CAL_STAT_FAIL) m (mask fail))).each l
        (fun y p => y.setRxPath p { y.rxPath p with stopped := false }) = x)
    (hy : (x.rxRestart (l.filter (fun p => !x.rxRetired p))).raise 0x0404 0 = y) :
    exec (.rxCalDone fail slices) s = .next (State.follow
      (if l.any (fun p => bitAt (mask fail) p) = true then y.raise 0x0409 0 else y) s) := by
  rw [on_rxCalDone hon]
  unfold State.rxCalDone
  have e2 : State.get { v with rx := { v.rx with cal := none } } F.RXA_CAL_STAT_FAIL = v.get F.RXA_CAL_STAT_FAIL := rfl
  simp only [h, ht, hl, hv, e2, hx, hy]

theorem does_rxRetireWrite (hon : s.on = true) (src : Source) (half : Fin 2) (v : Word) {t : State} (ht : s.touch src = t)
    (ho : s.opens src (if half.val = 0 then F.RXA_RETIRE0_PATHS else F.RXA_RETIRE1_PATHS).addr v = true) :
    exec (.rxRetireWrite src half v) s = .next (State.follow (t.rxRetire half.val (maskAnd v.toNat (t.halfMask half.val))) s) := by
  rw [on_rxRetireWrite hon]
  rcases half with ⟨h, hh⟩
  have d : h = 0 ∨ h = 1 := by omega
  rcases d with d | d
  · subst d
    rw [show ((if (⟨0,
        hh⟩ : Fin 2).val = 0 then F.RXA_RETIRE0_PATHS else F.RXA_RETIRE1_PATHS)) = F.RXA_RETIRE0_PATHS from rfl] at ho ⊢
    rw [State.opens_Rxa ho (by decide) (by decide) (by decide), ht]
    unfold State.writeRxa
    rw [if_neg (by decide), if_neg (by decide), if_pos (by decide)]
  · subst d
    rw [show ((if (⟨1,
        hh⟩ : Fin 2).val = 0 then F.RXA_RETIRE0_PATHS else F.RXA_RETIRE1_PATHS)) = F.RXA_RETIRE1_PATHS from rfl] at ho ⊢
    rw [State.opens_Rxa ho (by decide) (by decide) (by decide), ht]
    unfold State.writeRxa
    rw [if_neg (by decide), if_neg (by decide), if_neg (by decide), if_pos (by decide)]

theorem rxaClr_write {src : Source} {t : State} {w : Word} (ht : s.touch src = t) (ho : s.opens src F.RXA_CNT_CLR_OVR.addr w = true) :
    s.busWrite src F.RXA_CNT_CLR_OVR.addr w =
      (t.iff (bitAt w.toNat 1) (fun t => t.clearStep 0x40108 0x20 64)).iff (bitAt w.toNat 0) (fun t => t.setWord 0x40014 0) := by
  rw [State.opens_Rxa ho (by decide) (by decide) (by decide), ht]
  unfold State.writeRxa
  rw [if_neg (by decide), if_neg (by decide), if_neg (by decide), if_neg (by decide), if_pos (by decide)]

theorem does_rxaCntClrOvr (hon : s.on = true) (src : Source) (v : Word) {t : State} {w : Word} (ht : s.touch src = t)
    (hw : fixBit v 1 = w) (ho : s.opens src F.RXA_CNT_CLR_OVR.addr w = true) (h : bitAt w.toNat 0 = false) :
    exec (.rxaCntClrOvr src v) s = .next (State.follow (t.clearStep 0x40108 0x20 64) s) := by
  rw [on_rxaCntClrOvr hon, show fixBit v F.RXA_CNT_CLR_OVR.lo = w from hw, rxaClr_write ht ho, State.iff_not h,
    State.iff_of (by rw [← hw, bitAt_fixBit v (by decide)])]

theorem does_rxaCntClrAgc (hon : s.on = true) (src : Source) (v : Word) {t : State} {w : Word} (ht : s.touch src = t)
    (hw : fixBit v 0 = w) (ho : s.opens src F.RXA_CNT_CLR_OVR.addr w = true) (h : bitAt w.toNat 1 = false) :
    exec (.rxaCntClrAgc src v) s = .next (State.follow (t.setWord 0x40014 0) s) := by
  rw [on_rxaCntClrAgc hon, show fixBit v F.RXA_CNT_CLR_AGC.lo = w from hw, rxaClr_write ht ho, State.iff_not h,
    State.iff_of (by rw [← hw, bitAt_fixBit v (by decide)])]

/-- A changed filter bandwidth restarts every receive chain (R147). -/
theorem does_rxaCtlWrite (hon : s.on = true) (src : Source) (v : Word) {t u : State} (ht : s.touch src = t)
    (ho : s.opens src F.RXA_CTL_BBF_BW.addr v = true) (hu : t.plain F.RXA_CTL_BBF_BW.addr v.toNat = u)
    (h : u.get F.RXA_CTL_BBF_BW ≠ t.get F.RXA_CTL_BBF_BW) :
    exec (.rxaCtlWrite src v) s = .next (State.follow ((u.rxRestart u.rxChainPaths).syncRxd).cfgWritten s) := by
  rw [on_rxaCtlWrite hon, State.opens_Rxa ho (by decide) (by decide) (by decide), ht]
  unfold State.writeRxa
  rw [if_pos (by decide)]
  unfold State.writeRxaCtl
  simp only [hu, if_neg h]

theorem holds_rxaCtlWrite (hon : s.on = true) (src : Source) (v : Word) {t u : State} (ht : s.touch src = t)
    (ho : s.opens src F.RXA_CTL_BBF_BW.addr v = true) (hu : t.plain F.RXA_CTL_BBF_BW.addr v.toNat = u)
    (h : u.get F.RXA_CTL_BBF_BW = t.get F.RXA_CTL_BBF_BW) :
    exec (.rxaCtlWrite src v) s = .next (State.follow u s) := by
  rw [on_rxaCtlWrite hon, State.opens_Rxa ho (by decide) (by decide) (by decide), ht]
  unfold State.writeRxa
  rw [if_pos (by decide)]
  unfold State.writeRxaCtl
  simp only [hu, if_pos h]

/-- A change of RUN starts or stops the receive chains (R144). -/
theorem does_rxdRunWrite (hon : s.on = true) (src : Source) (v : Word) {t u : State} (ht : s.touch src = t)
    (ho : s.opens src F.RXD_CTL_RUN.addr v = true) (hu : t.plain F.RXD_CTL_RUN.addr v.toNat = u)
    (h : u.flag F.RXD_CTL_RUN ≠ t.flag F.RXD_CTL_RUN) :
    exec (.rxdRunWrite src v) s = .next (State.follow u.rxChains s) := by
  rw [on_rxdRunWrite hon, State.opens_Rxd ho (by decide) (by decide) (by decide), ht]
  unfold State.writeRxd
  rw [if_pos (by decide)]
  simp only [hu, if_neg h]

theorem rxdCfg_addr (i : Nat) (h : i < 6148) : (rxdCfgAddr i = 0x50004 ∨ rxdCfgAddr i = 0x50008 ∨ rxdCfgAddr i = 0x5002C ∨
    rxdCfgAddr i = 0x50030) ∨ (0x52000 ≤ rxdCfgAddr i ∧ rxdCfgAddr i < 0x58000 + 0x100 ∧ rxdCfgAddr i % 4 = 0) := by
  unfold rxdCfgAddr
  match i, h with
  | 0, _ => simp [nth]
  | 1, _ => simp [nth]
  | 2, _ => simp [nth]
  | 3, _ => simp [nth]
  | j + 4, h =>
    right
    simp [nth]
    omega

theorem rxdCfg_locked (i : Nat) (h : i < 6148) : rxdLocked (rxdCfgAddr i) = true ∧ rxdCfgAddr i ≠ F.RXD_CTL_RUN.addr := by
  rcases rxdCfg_addr i h with (e | e | e | e) | e
  · rw [e]; decide
  · rw [e]; decide
  · rw [e]; decide
  · rw [e]; decide
  · refine ⟨?_, fun x => ?_⟩
    · unfold rxdLocked
      rw [decide_eq_true e.1, Bool.or_true]
    · have : F.RXD_CTL_RUN.addr = 0x50000 := by decide
      omega

/-- With the chains stopped a locked word is written (R143). -/
theorem does_rxdCfgWrite (hon : s.on = true) (src : Source) (i : Fin 6148) (v : Word) {t u : State} (ht : s.touch src = t)
    (ho : s.opens src (rxdCfgAddr i.val) v = true) (h : t.flag F.RXD_CTL_RUN = false)
    (hu : t.plain (rxdCfgAddr i.val) v.toNat = u) :
    exec (.rxdCfgWrite src i v) s = .next (State.follow (if i.val < 2 then u.cfgWritten else u) s) := by
  have hl := rxdCfg_locked i.val i.isLt
  have ha := rxdCfg_addr i.val i.isLt
  rw [on_rxdCfgWrite hon, State.opens_Rxd ho (by omega) (by omega) (by simp only [evtAddr]; omega), ht]
  unfold State.writeRxd
  rw [if_neg hl.2, if_pos hl.1, h, if_neg (by decide), hu]
  dsimp only
  have e : (rxdCfgAddr i.val = 0x50004 ∨ rxdCfgAddr i.val = 0x50008) ↔ i.val < 2 := by
    unfold rxdCfgAddr
    rcases i with ⟨i, hi⟩
    match i, hi with
    | 0, _ => simp [nth]
    | 1, _ => simp [nth]
    | 2, _ => simp [nth]
    | 3, _ => simp [nth]
    | j + 4, h => simp [nth]; omega
  by_cases c : i.val < 2
  · rw [if_pos c, if_pos (e.mpr c)]
  · rw [if_neg c, if_neg (fun x => c (e.mp x))]

/-- While they run it is rejected: CFG_REJECTED (R143). -/
theorem refuses_rxdCfgWrite (hon : s.on = true) (src : Source) (i : Fin 6148) (v : Word) {t : State} (ht : s.touch src = t)
    (ho : s.opens src (rxdCfgAddr i.val) v = true) (h : t.flag F.RXD_CTL_RUN = true) :
    exec (.rxdCfgWrite src i v) s = .next (State.follow (((t.setEvt 0x0501 0).inc F.RXD_REJ_CNT_COUNT).raiseMs 0x0501 0 0) s) := by
  have hl := rxdCfg_locked i.val i.isLt
  have ha := rxdCfg_addr i.val i.isLt
  rw [on_rxdCfgWrite hon, State.opens_Rxd ho (by omega) (by omega) (by simp only [evtAddr]; omega), ht]
  unfold State.writeRxd
  rw [if_neg hl.2, if_pos hl.1, if_pos h]

theorem does_rxdNcoGo (hon : s.on = true) (src : Source) (v : Word) {t : State} {w : Word} (ht : s.touch src = t)
    (hw : fixBit v 31 = w) (ho : s.opens src F.RXD_NCO_CTL_GO.addr w = true) :
    exec (.rxdNcoGo src v) s = .next (State.follow ((t.plain F.RXD_NCO_CTL_GO.addr w.toNat).rxNcoWrite w.toNat).2 s) := by
  rw [on_rxdNcoGo hon, hw, State.opens_Rxd ho (by decide) (by decide) (by decide), ht]
  unfold State.writeRxd
  rw [if_neg (by decide), if_neg (by decide), if_pos (by decide), State.iff_of (by rw [← hw]; exact bitAt_fixBit v (by decide))]

/-- The armed retune takes effect (R136). -/
theorem does_rxdNcoRetuneAt (hon : s.on = true) {f : Int} {a : BitVec 64} {t : State} (h : s.rx.ncoArm = some (f, a))
    (ht : s.reach a = t) :
    exec .rxdNcoRetuneAt s = .next (State.follow (State.rxRetune
      (State.putb { t with rx := { t.rx with ncoArm := none } } F.RXD_NCO_CTL_PEND false) f) s) := by
  rw [on_rxdNcoRetuneAt hon]
  unfold State.rxNcoFire
  simp only [h, ht]

theorem rxdClr_write {src : Source} {t : State} {w : Word} (ht : s.touch src = t) (ho : s.opens src F.RXD_CNT_CLR_SAT.addr w = true) :
    s.busWrite src F.RXD_CNT_CLR_SAT.addr w = (t.iff (bitAt w.toNat 1) (fun t => t.clearStep 0x50100 0x20 64)).iff
      (bitAt w.toNat 0) (fun t => t.clearStep 0x50104 0x20 64) := by
  rw [State.opens_Rxd ho (by decide) (by decide) (by decide), ht]
  unfold State.writeRxd
  rw [if_neg (by decide), if_neg (by decide), if_neg (by decide), if_pos (by decide)]

theorem does_rxdCntClrSat (hon : s.on = true) (src : Source) (v : Word) {t : State} {w : Word} (ht : s.touch src = t)
    (hw : fixBit v 1 = w) (ho : s.opens src F.RXD_CNT_CLR_SAT.addr w = true) (h : bitAt w.toNat 0 = false) :
    exec (.rxdCntClrSat src v) s = .next (State.follow (t.clearStep 0x50100 0x20 64) s) := by
  rw [on_rxdCntClrSat hon, show fixBit v F.RXD_CNT_CLR_SAT.lo = w from hw, rxdClr_write ht ho, State.iff_not h,
    State.iff_of (by rw [← hw, bitAt_fixBit v (by decide)])]

theorem does_rxdCntClrInv (hon : s.on = true) (src : Source) (v : Word) {t : State} {w : Word} (ht : s.touch src = t)
    (hw : fixBit v 0 = w) (ho : s.opens src F.RXD_CNT_CLR_SAT.addr w = true) (h : bitAt w.toNat 1 = false) :
    exec (.rxdCntClrInv src v) s = .next (State.follow (t.clearStep 0x50104 0x20 64) s) := by
  rw [on_rxdCntClrInv hon, show fixBit v F.RXD_CNT_CLR_INV.lo = w from hw, rxdClr_write ht ho, State.iff_not h,
    State.iff_of (by rw [← hw, bitAt_fixBit v (by decide)])]

end Sys2Proof.Machine
end

