-- ==== Sys2Proof/Laws/ExecThermCmds.lean ====
section
/-! SUPPORT. What each command of Machine/ThermCmds.lean may change. -/

namespace Sys2Proof.Machine

set_option linter.all false

theorem execThermMeasureStart_moves (s : State) (t : State) (h : execThermMeasureStart s = .next t) :
    Moves 0x805a022cd22a0e2 s t := by
  unfold execThermMeasureStart at h
  refine acting_moves (by decide) (fun _ => ?_) h
  repeat' first
    | with_reducible assumption
    | with_reducible exact Moves.refl _ _
    | decide
    | with_reducible apply Moves.step (State.thermStart_moves ..)

theorem execThermDemand_moves (src : Source) (v : Word) (s : State) (t : State) (h : execThermDemand src v s = .next t) :
    Moves 0xc8520228da2a0a2 s t := by
  unfold execThermDemand at h
  refine acting_moves (by decide) (fun _ => ?_) h
  repeat' first
    | with_reducible assumption
    | with_reducible exact Moves.refl _ _
    | decide
    | with_reducible apply Moves.step (State.busWrite_Therm _ _ _ (by first | decide | (simp only [F.THERM_CTL_DEMAND]; omega) | (simp only [F.THERM_CTL_DEMAND]; split <;> decide) | (simp only [F.THERM_CTL_DEMAND]; (repeat' split) <;> omega)))

theorem execThermMeasureDone_moves (l : List (BitVec 16 × BitVec 12)) (s : State) (t : State) (h : execThermMeasureDone l s = .next t) :
    Moves 0xfffffffdffffffb s t := by
  unfold execThermMeasureDone at h
  refine acting_moves (by decide) (fun _ => ?_) h
  repeat' first
    | with_reducible assumption
    | with_reducible exact Moves.refl _ _
    | decide
    | with_reducible apply Moves.step (State.thermDone_moves ..)

theorem execLadderEscalate_moves (s : State) (t : State) (h : execLadderEscalate s = .next t) :
    Moves 0x8d7aaa3dd3ba9e2 s t := by
  unfold execLadderEscalate at h
  refine acting_moves (by decide) (fun _ => ?_) h
  repeat' first
    | with_reducible assumption
    | with_reducible exact Moves.refl _ _
    | decide
    | with_reducible apply Moves.step (State.ladderUp_moves ..)

theorem execLadderDescend_moves (s : State) (t : State) (h : execLadderDescend s = .next t) :
    Moves 0x8d7aaa3dd3ba9e2 s t := by
  unfold execLadderDescend at h
  refine acting_moves (by decide) (fun _ => ?_) h
  repeat' first
    | with_reducible assumption
    | with_reducible exact Moves.refl _ _
    | decide
    | with_reducible apply Moves.step (State.ladderDown_moves ..)

theorem execSynClr_moves (src : Source) (v : Word) (s : State) (t : State) (h : execSynClr src v s = .next t) :
    Moves 0xd0520228dc2a0aa s t := by
  unfold execSynClr at h
  refine acting_moves (by decide) (fun _ => ?_) h
  repeat' first
    | with_reducible assumption
    | with_reducible exact Moves.refl _ _
    | decide
    | with_reducible apply Moves.step (State.busWrite_Rsv _ _ _ (by first | decide | (simp only [F.RSV_SYN_CLR_SYN]; omega) | (simp only [F.RSV_SYN_CLR_SYN]; split <;> decide) | (simp only [F.RSV_SYN_CLR_SYN]; (repeat' split) <;> omega)))

end Sys2Proof.Machine
end

