-- ==== Sys2Proof/Laws/OnThermCmds.lean ====
section
/-! SUPPORT. What the commands of Machine/ThermCmds.lean answer while the device acts. -/

namespace Sys2Proof.Machine

set_option linter.all false

theorem on_thermMeasureStart {s : State} (hon : s.on = true)  :
    exec (.thermMeasureStart) s = .next (State.follow (s.thermStart) s) := by
  show execThermMeasureStart  s = _
  exact acting_on hon

theorem on_thermDemand {s : State} (hon : s.on = true) (src : Source) (v : Word) :
    exec (.thermDemand src v) s = .next (State.follow (s.busWrite src F.THERM_CTL_DEMAND.addr (fixBit v 31)) s) := by
  show execThermDemand src v s = _
  exact acting_on hon

theorem on_thermMeasureDone {s : State} (hon : s.on = true) (l : List (BitVec 16 × BitVec 12)) :
    exec (.thermMeasureDone l) s = .next (State.follow (s.thermDone (l.map (fun e => (e.1.toNat, e.2.toInt)))) s) := by
  show execThermMeasureDone l s = _
  exact acting_on hon

theorem on_ladderEscalate {s : State} (hon : s.on = true)  :
    exec (.ladderEscalate) s = .next (State.follow (s.ladderUp) s) := by
  show execLadderEscalate  s = _
  exact acting_on hon

theorem on_ladderDescend {s : State} (hon : s.on = true)  :
    exec (.ladderDescend) s = .next (State.follow (s.ladderDown) s) := by
  show execLadderDescend  s = _
  exact acting_on hon

theorem on_synClr {s : State} (hon : s.on = true) (src : Source) (v : Word) :
    exec (.synClr src v) s = .next (State.follow (s.busWrite src F.RSV_SYN_CLR_SYN.addr v) s) := by
  show execSynClr src v s = _
  exact acting_on hon

end Sys2Proof.Machine
end

