-- ==== Sys2Proof/Laws/DoesTherm.lean ====
section
/-! SUPPORT. What the commands of the thermal sensors, the ladder and the synthesisers' wear do where they take effect. -/

namespace Sys2Proof.Machine

set_option linter.all false

variable {s : State}

theorem does_thermMeasureStart (hon : s.on = true) {t : State} (h1 : s.therm.first = 0)
    (ht : s.elapseTo s.therm.due = t) (h3 : t.therm.running = none) :
    exec .thermMeasureStart s = .next (State.follow (State.thermRun { t with therm := { t.therm with
      due := t.therm.due + t.thermPeriod } } false) s) := by
  rw [on_thermMeasureStart hon]
  unfold State.thermStart
  simp only [h1, ht, h3, ne_eq, not_true_eq_false, if_false]

theorem does_thermMeasureStart_first (hon : s.on = true) (h1 : s.therm.first ≠ 0) (h2 : s.therm.running = none) :
    exec .thermMeasureStart s = .next (State.follow s.thermNext s) := by
  rw [on_thermMeasureStart hon]
  unfold State.thermStart
  rw [if_pos h1, h2]

theorem does_thermDemand (hon : s.on = true) (src : Source) (v : Word) {t : State} {w : Word} (ht : s.touch src = t)
    (hw : fixBit v 31 = w) (ho : s.opens src F.THERM_CTL_DEMAND.addr w = true)
    (h : (t.plain F.THERM_CTL_DEMAND.addr w.toNat).therm.running = none) :
    exec (.thermDemand src v) s = .next (State.follow ((t.plain F.THERM_CTL_DEMAND.addr w.toNat).thermRun true) s) := by
  rw [on_thermDemand hon, hw, State.opens_Therm ho (by decide) (by decide) (by decide), ht]
  unfold State.writeTherm
  rw [if_pos (by decide), State.iff_of (by rw [← hw]; exact bitAt_fixBit v (by decide))]
  unfold State.thermDemand
  simp only [h]

theorem does_thermMeasureDone (hon : s.on = true) (l : List (BitVec 16 × BitVec 12)) {e : Nat} {b : Bool} {t : State}
    {r : List (Nat × Int)} {vals : List Int} {tj : Int} {hot : Nat} (h : s.therm.running = some (e, b)) (ht : s.elapseTo e = t)
    (hr : l.map (fun x => (x.1.toNat, x.2.toInt)) = r) (hs : (List.range 24).all (fun i => t.sensorOut i) = false)
    (hv : (List.range 24).map (t.sensorValue r 0) = vals) (hj : hottest (vals.drop 1) 1 (nth 0 vals 0, 0) = (tj, hot)) :
    exec (.thermMeasureDone l) s = .next (
      let s2 := t.each (List.range 24) (fun u i => u.sensorTake t r i (nth 0 vals i))
      let s3 := ((((s2.puti F.THERM_STAT_TJ tj).put F.THERM_STAT_HOT hot).incWrap F.THERM_MEAS_CNT_COUNT).sensorCount).regrade 7
      let s4 := (s3.nvmStep tj).thresholds tj
      State.follow (State.thermNext { s4 with therm := { s4.therm with running := none } }) s) := by
  rw [on_thermMeasureDone hon]
  unfold State.thermDone
  simp only [h, ht, hr, hs, Bool.false_eq_true, if_false, show toSigned 12 0 = 0 from by decide, hv, hj]

theorem does_ladderEscalate (hon : s.on = true) {a : Nat} {t : State} (h : s.therm.esc = some a) (ht : s.elapseTo a = t) :
    exec .ladderEscalate s = .next (State.follow (State.ladderTo
      { t with therm := { t.therm with esc := some (t.aon + t.escTime) } }
      (if t.get F.THERM_STAT_L_TH < 3 then t.get F.THERM_STAT_L_TH + 1 else 3)) s) := by
  rw [on_ladderEscalate hon]
  unfold State.ladderUp
  rw [h]
  dsimp only
  rw [ht]; rfl

theorem does_ladderDescend (hon : s.on = true) {a : Nat} {t : State} (h : s.therm.desc = some a) (ht : s.elapseTo a = t) :
    exec .ladderDescend s = .next (
      let l := t.get F.THERM_STAT_L_TH - 1
      State.follow (State.ladderTo { t with therm := { t.therm with desc := if l = 0 then none else some (t.aon + t.descTime) } } l)
        s) := by
  rw [on_ladderDescend hon]
  unfold State.ladderDown
  simp only [h, ht]

theorem does_synClr (hon : s.on = true) (src : Source) (v : Word) {t : State} (ht : s.touch src = t)
    (ho : s.opens src F.RSV_SYN_CLR_SYN.addr v = true) :
    exec (.synClr src v) s = .next (State.follow (t.synClear (v.toNat % 4)) s) := by
  rw [on_synClr hon, State.opens_Rsv ho (by decide) (by decide) (by decide), ht]
  unfold State.writeRsv
  rw [if_pos (by decide)]

end Sys2Proof.Machine
end

