-- ==== Sys2Proof/Laws/MovesTideCmds.lean ====
section
/-! SUPPORT. What each operation of Machine/TideCmds.lean may change. -/

namespace Sys2Proof.Machine

set_option linter.all false

theorem toWrite_moves (src : Source) (v : Word) (op : Nat) (s : State) : Moves 0xfffffffdffffffb s (toWrite src v op s) := by
  unfold toWrite
  repeat' first
    | with_reducible assumption
    | with_reducible exact Moves.refl _ _
    | decide
    | with_reducible apply Moves.step (State.busWrite_moves ..)

theorem State.entryAct_moves (s : State) (pin n : Nat) (level : Bool) : Moves 0x2000088000002 s (State.entryAct s pin n level) := by
  unfold State.entryAct
  repeat' first
    | with_reducible assumption
    | with_reducible exact Moves.refl _ _
    | decide
    | ((with_reducible refine Moves.p_add (n := 16) ?_ ?_ ?_ ?_); (first | rfl | assumption); decide; decide)
    | with_reducible apply Moves.ite
    | extract_lets
    | with_reducible apply Moves.step (State.drive_moves ..)
    | split
    | dsimp +zetaDelta only

theorem State.timedEdge_moves (s : State) (pin : Nat) : Moves 0x28000c8000042 s (State.timedEdge s pin) := by
  unfold State.timedEdge
  repeat' first
    | with_reducible assumption
    | with_reducible exact Moves.refl _ _
    | decide
    | intro _
    | with_reducible apply Moves.ite
    | extract_lets
    | with_reducible apply Moves.step (State.reach_moves ..)
    | with_reducible apply Moves.step (State.setTimedQ_moves ..)
    | with_reducible apply Moves.step (State.entryAct_moves ..)
    | with_reducible apply Moves.step (State.tpAfter_moves ..)
    | split
    | (with_reducible refine Moves.snd (by assumption) ?_)
    | (with_reducible refine Moves.fst (by assumption) ?_)
    | (with_reducible refine Moves.trd (by assumption) ?_)
    | dsimp +zetaDelta only

end Sys2Proof.Machine
end

