-- ==== Sys2Proof/Laws/ExecTideCmds.lean ====
section
/-! SUPPORT. What each command of Machine/TideCmds.lean may change. -/

namespace Sys2Proof.Machine

set_option linter.all false

theorem execTideExchangeStart_moves (s : State) (t : State) (h : execTideExchangeStart s = .next t) :
    Moves 0x80520228d02a0e2 s t := by
  unfold execTideExchangeStart at h
  refine acting_moves (by decide) (fun _ => ?_) h
  repeat' first
    | with_reducible assumption
    | with_reducible exact Moves.refl _ _
    | decide
    | with_reducible apply Moves.step (State.xchgStart_moves ..)

theorem execType5MessageRx_moves (l : Fin 4) (b : List Byte) (s : State) (t : State) (h : execType5MessageRx l b s = .next t) :
    Moves 0xfffffffdffffffb s t := by
  unfold execType5MessageRx at h
  refine acting_moves (by decide) (fun _ => ?_) h
  repeat' first
    | with_reducible assumption
    | with_reducible exact Moves.refl _ _
    | decide
    | with_reducible apply Moves.ite
    | with_reducible apply Moves.step (State.frameTake_moves ..)
    | split
    | (with_reducible refine Moves.snd (by assumption) ?_)
    | (with_reducible refine Moves.fst (by assumption) ?_)

theorem execTideExchangeComplete_moves (s : State) (t : State) (h : execTideExchangeComplete s = .next t) :
    Moves 0xfffffffdffffffb s t := by
  unfold execTideExchangeComplete at h
  refine acting_moves (by decide) (fun _ => ?_) h
  repeat' first
    | with_reducible assumption
    | with_reducible exact Moves.refl _ _
    | decide
    | with_reducible apply Moves.step (State.xchgComplete_moves ..)
    | with_reducible apply Moves.step (State.bootAdvance_moves ..)

theorem execTideExchangeLost_moves (s : State) (t : State) (h : execTideExchangeLost s = .next t) :
    Moves 0x805a022cd02a0e2 s t := by
  unfold execTideExchangeLost at h
  refine acting_moves (by decide) (fun _ => ?_) h
  repeat' first
    | with_reducible assumption
    | with_reducible exact Moves.refl _ _
    | decide
    | with_reducible apply Moves.step (State.xchgLost_moves ..)

theorem execTideHold_moves (s : State) (t : State) (h : execTideHold s = .next t) :
    Moves 0x805a022cd02a0e2 s t := by
  unfold execTideHold at h
  refine acting_moves (by decide) (fun _ => ?_) h
  repeat' first
    | with_reducible assumption
    | with_reducible exact Moves.refl _ _
    | decide
    | with_reducible apply Moves.step (State.tideHold_moves ..)

theorem execTideAck_moves (src : Source) (v : Word) (s : State) (t : State) (h : execTideAck src v s = .next t) :
    Moves 0xc07a0228d82a0e2 s t := by
  unfold execTideAck at h
  refine acting_moves (by decide) (fun _ => ?_) h
  repeat' first
    | with_reducible assumption
    | with_reducible exact Moves.refl _ _
    | decide
    | with_reducible apply Moves.step (State.busWrite_Tide _ _ _ (by first | decide | (simp only [F.TIDE_CTL_ACK]; omega) | (simp only [F.TIDE_CTL_ACK]; split <;> decide) | (simp only [F.TIDE_CTL_ACK]; (repeat' split) <;> omega)))

theorem execTideAsymWrite_moves (src : Source) (j : Fin 4) (v : Word) (s : State) (t : State) (h : execTideAsymWrite src j v s = .next t) :
    Moves 0xc07a0228d82a0e2 s t := by
  unfold execTideAsymWrite at h
  refine acting_moves (by decide) (fun _ => ?_) h
  repeat' first
    | with_reducible assumption
    | with_reducible exact Moves.refl _ _
    | decide
    | with_reducible apply Moves.step (State.busWrite_Tide _ _ _ (by first | decide | (simp only [F.TIDE_L_ASYM_PS]; omega) | (simp only [F.TIDE_L_ASYM_PS]; split <;> decide) | (simp only [F.TIDE_L_ASYM_PS]; (repeat' split) <;> omega)))

theorem execTideCntClr_moves (src : Source) (v : Word) (s : State) (t : State) (h : execTideCntClr src v s = .next t) :
    Moves 0xc07a0228d82a0e2 s t := by
  unfold execTideCntClr at h
  refine acting_moves (by decide) (fun _ => ?_) h
  repeat' first
    | with_reducible assumption
    | with_reducible exact Moves.refl _ _
    | decide
    | with_reducible apply Moves.step (State.busWrite_Tide _ _ _ (by first | decide | (simp only [F.TIDE_CNT_CLR_CLR]; omega) | (simp only [F.TIDE_CNT_CLR_CLR]; split <;> decide) | (simp only [F.TIDE_CNT_CLR_CLR]; (repeat' split) <;> omega)))

theorem execToAdd_moves (src : Source) (v : Word) (s : State) (t : State) (h : execToAdd src v s = .next t) :
    Moves 0xc07a0228d82a0e2 s t := by
  unfold execToAdd at h
  refine acting_moves (by decide) (fun _ => ?_) h
  repeat' first
    | with_reducible assumption
    | with_reducible exact Moves.refl _ _
    | decide
    | unfold toWrite
    | with_reducible apply Moves.step (State.busWrite_Tide _ _ _ (by first | decide | (simp only [F.TIDE_TO_CMD_GO]; omega) | (simp only [F.TIDE_TO_CMD_GO]; split <;> decide) | (simp only [F.TIDE_TO_CMD_GO]; (repeat' split) <;> omega)))

theorem execToFlush_moves (src : Source) (v : Word) (s : State) (t : State) (h : execToFlush src v s = .next t) :
    Moves 0xc07a0228d82a0e2 s t := by
  unfold execToFlush at h
  refine acting_moves (by decide) (fun _ => ?_) h
  repeat' first
    | with_reducible assumption
    | with_reducible exact Moves.refl _ _
    | decide
    | unfold toWrite
    | with_reducible apply Moves.step (State.busWrite_Tide _ _ _ (by first | decide | (simp only [F.TIDE_TO_CMD_GO]; omega) | (simp only [F.TIDE_TO_CMD_GO]; split <;> decide) | (simp only [F.TIDE_TO_CMD_GO]; (repeat' split) <;> omega)))

theorem execToOpReserved_moves (src : Source) (v : Word) (s : State) (t : State) (h : execToOpReserved src v s = .next t) :
    Moves 0xc07a0228d82a0e2 s t := by
  unfold execToOpReserved at h
  refine acting_moves (by decide) (fun _ => ?_) h
  repeat' first
    | with_reducible assumption
    | with_reducible exact Moves.refl _ _
    | decide
    | unfold toWrite
    | with_reducible apply Moves.step (State.busWrite_Tide _ _ _ (by first | decide | (simp only [F.TIDE_TO_CMD_GO]; omega) | (simp only [F.TIDE_TO_CMD_GO]; split <;> decide) | (simp only [F.TIDE_TO_CMD_GO]; (repeat' split) <;> omega)))

theorem execTimedOutputEdge_moves (pin : Fin 26) (s : State) (t : State) (h : execTimedOutputEdge pin s = .next t) :
    Moves 0x807a022cd02a0e2 s t := by
  unfold execTimedOutputEdge at h
  refine acting_moves (by decide) (fun _ => ?_) h
  repeat' first
    | with_reducible assumption
    | with_reducible exact Moves.refl _ _
    | decide
    | with_reducible apply Moves.step (State.timedEdge_moves ..)

theorem execTpulseModeWrite_moves (src : Source) (n : Fin 4) (v : Word) (s : State) (t : State) (h : execTpulseModeWrite src n v s = .next t) :
    Moves 0xc07a0228d82a0e2 s t := by
  unfold execTpulseModeWrite at h
  refine acting_moves (by decide) (fun _ => ?_) h
  repeat' first
    | with_reducible assumption
    | with_reducible exact Moves.refl _ _
    | decide
    | with_reducible apply Moves.step (State.busWrite_Tide _ _ _ (by first | decide | (simp only [F.TIDE_TP_CTL_MODE]; omega) | (simp only [F.TIDE_TP_CTL_MODE]; split <;> decide) | (simp only [F.TIDE_TP_CTL_MODE]; (repeat' split) <;> omega)))

end Sys2Proof.Machine
end

