-- ==== Sys2Proof/Laws/OnTideCmds.lean ====
section
/-! SUPPORT. What the commands of Machine/TideCmds.lean answer while the device acts. -/

namespace Sys2Proof.Machine

set_option linter.all false

theorem on_tideExchangeStart {s : State} (hon : s.on = true)  :
    exec (.tideExchangeStart) s = .next (State.follow (State.xchgStart s) s) := by
  show execTideExchangeStart  s = _
  exact acting_on hon

theorem on_type5MessageRx {s : State} (hon : s.on = true) (l : Fin 4) (b : List Byte) :
    exec (.type5MessageRx l b) s = .next (State.follow (if s.linkUp l.val then s.frameTake l.val 0 5 b else s) s) := by
  show execType5MessageRx l b s = _
  exact acting_on hon

theorem on_tideExchangeComplete {s : State} (hon : s.on = true)  :
    exec (.tideExchangeComplete) s = .next (State.follow (s.xchgComplete.bootAdvance) s) := by
  show execTideExchangeComplete  s = _
  exact acting_on hon

theorem on_tideExchangeLost {s : State} (hon : s.on = true)  :
    exec (.tideExchangeLost) s = .next (State.follow (State.xchgLost s) s) := by
  show execTideExchangeLost  s = _
  exact acting_on hon

theorem on_tideHold {s : State} (hon : s.on = true)  :
    exec (.tideHold) s = .next (State.follow (State.tideHold s) s) := by
  show execTideHold  s = _
  exact acting_on hon

theorem on_tideAck {s : State} (hon : s.on = true) (src : Source) (v : Word) :
    exec (.tideAck src v) s = .next (State.follow (s.busWrite src F.TIDE_CTL_ACK.addr (fixBit v F.TIDE_CTL_ACK.lo)) s) := by
  show execTideAck src v s = _
  exact acting_on hon

theorem on_tideAsymWrite {s : State} (hon : s.on = true) (src : Source) (j : Fin 4) (v : Word) :
    exec (.tideAsymWrite src j v) s = .next (State.follow (s.busWrite src (F.TIDE_L_ASYM_PS j.val).addr v) s) := by
  show execTideAsymWrite src j v s = _
  exact acting_on hon

theorem on_tideCntClr {s : State} (hon : s.on = true) (src : Source) (v : Word) :
    exec (.tideCntClr src v) s = .next (State.follow (s.busWrite src F.TIDE_CNT_CLR_CLR.addr (fixBit v 0)) s) := by
  show execTideCntClr src v s = _
  exact acting_on hon

theorem on_toAdd {s : State} (hon : s.on = true) (src : Source) (v : Word) :
    exec (.toAdd src v) s = .next (State.follow (toWrite src v 0 s) s) := by
  show execToAdd src v s = _
  exact acting_on hon

theorem on_toFlush {s : State} (hon : s.on = true) (src : Source) (v : Word) :
    exec (.toFlush src v) s = .next (State.follow (toWrite src v 1 s) s) := by
  show execToFlush src v s = _
  exact acting_on hon

theorem on_toOpReserved {s : State} (hon : s.on = true) (src : Source) (v : Word) :
    exec (.toOpReserved src v) s = .next (State.follow (toWrite src v (2 + v.toNat / 2 ^ 29 % 2) s) s) := by
  show execToOpReserved src v s = _
  exact acting_on hon

theorem on_timedOutputEdge {s : State} (hon : s.on = true) (pin : Fin 26) :
    exec (.timedOutputEdge pin) s = .next (State.follow (s.timedEdge pin.val) s) := by
  show execTimedOutputEdge pin s = _
  exact acting_on hon

theorem on_tpulseModeWrite {s : State} (hon : s.on = true) (src : Source) (n : Fin 4) (v : Word) :
    exec (.tpulseModeWrite src n v) s = .next (State.follow (s.busWrite src (F.TIDE_TP_CTL_MODE n.val).addr v) s) := by
  show execTpulseModeWrite src n v s = _
  exact acting_on hon

end Sys2Proof.Machine
end

