-- ==== Sys2Proof/Laws/DoesTide.lean ====
section
/-! SUPPORT. What the commands of Tide, the timed outputs and the pulse generators do where they take effect. -/

namespace Sys2Proof.Machine

set_option linter.all false

variable {s : State}

theorem does_tideExchangeStart (hon : s.on = true) (h1 : s.flag F.TIDE_STAT_SRC_OK = true) (h2 : s.tide.xchg = none) :
    exec .tideExchangeStart s = .next (State.follow (State.emit { s with tide := { s.tide with
        nextId := (s.tide.nextId + 2) % 256
        xchg := some { id := s.tide.nextId, start := s.aon, t3 := (s.tide.now : Int) } } }
      (.frame (s.get F.TIDE_STAT_SRC) 5 (type5At s.tide.nextId 0x00 s.tide.now))) s) := by
  rw [on_tideExchangeStart hon]
  unfold State.xchgStart
  rw [if_neg (by simp [h1, h2])]

theorem does_type5MessageRx (hon : s.on = true) (l : Fin 4) (b : List Byte) (h1 : s.linkUp l.val = true) (h2 : 2 ≤ s.cur)
    (h3 : b.length = 20) (h4 : (nth 0 b 1).toNat ≤ 1) :
    exec (.type5MessageRx l b) s = .next (State.follow
      ((s.xchgTake l.val (nth 0 b 0).toNat (nth 0 b 1).toNat b).emit (.frame l.val 5 (type5At (nth 0 b 0).toNat 0x02 s.tide.now))) s) := by
  rw [on_type5MessageRx hon, if_pos h1]
  simp only [State.frameTake, h3, if_true]
  unfold State.type5Rx
  rw [if_neg (by simp [h1]; omega)]
  simp only [h4, if_true]

theorem does_tideExchangeComplete (hon : s.on = true) {x : Exchange} {t1 t2 t4 : Int} (h0 : s.tide.xchg = some x) (h1 : x.t1 = some t1)
    (h2 : x.t2 = some t2) (h4 : x.t4 = some t4) :
    exec .tideExchangeComplete s = .next (
      let d2 : Int := (t2 - t1) + (t4 - x.t3)
      let theta : Int := 125 * ((t2 - t1) - (t4 - x.t3)) - 8192 * s.geti (F.TIDE_L_ASYM_PS (s.get F.TIDE_STAT_SRC))
      let t : State := { s with tide := { s.tide with xchg := none, delays := (d2 :: s.tide.delays).take 16 } }
      let u := t.put F.TIDE_DELAY_VALUE (clampInt 0 4294967295 (divRound d2 512)).toNat
      let v := if u.get F.TIDE_STAT_STATE = 0 then u.put F.TIDE_STAT_STATE 1 else u
      State.follow (State.bootAdvance
        (if s.tide.delays.any (fun m => decide (((2 * nsU (s.get F.TIDE_LIM_GATE_NS) : Nat) : Int) < d2 - m)) then
          v.inc F.TIDE_GATED_CNT_COUNT
        else v.xchgAccept theta)) s) := by
  rw [on_tideExchangeComplete hon]
  unfold State.xchgComplete
  simp only [h0, h1, h2, h4]
  rfl

theorem does_tideExchangeLost {x : Exchange} (hon : s.on = true) (h1 : s.tide.xchg = some x)
    (h2 : x.t1 = none ∨ x.t2 = none ∨ x.t4 = none) :
    exec .tideExchangeLost s = .next (State.follow ((State.inc { s.elapseTo (x.start + msU 1) with
      tide := { (s.elapseTo (x.start + msU 1)).tide with xchg := none } } F.TIDE_LOST_CNT_COUNT).raiseLim 0x0E07 0 0 (sU 1)) s) := by
  rw [on_tideExchangeLost hon]
  unfold State.xchgLost
  rw [h1]
  dsimp only
  rcases h2 with h | h | h <;> rw [h]
  · cases x.t1 <;> rfl
  · cases x.t1 <;> cases x.t2 <;> rfl

theorem does_tideHold (hon : s.on = true) (h1 : s.get F.TIDE_STAT_STATE = 2) :
    exec .tideHold s = .next (State.follow (((s.elapseTo (s.tide.lastAccept + 4 * s.xchgInterval)).put F.TIDE_STAT_STATE 3).raise
      0x0E05 0) s) := by
  rw [on_tideHold hon]
  unfold State.tideHold State.tdState
  rw [if_pos (show _ = tdLOCKED from h1)]; rfl

theorem does_tideAck (hon : s.on = true) (src : Source) (v : Word) {t : State} {w : Word} (ht : s.touch src = t)
    (hw : fixBit v 31 = w) (ho : s.opens src 0xE0000 w = true) :
    exec (.tideAck src v) s = .next (State.follow (t.plain 0xE0000 w.toNat).tideSource.tideAck s) := by
  rw [on_tideAck hon, show F.TIDE_CTL_ACK.addr = 0xE0000 from rfl, show fixBit v F.TIDE_CTL_ACK.lo = w from hw,
    State.opens_Tide ho (by decide) (by decide) (by decide), ht]
  unfold State.writeTide
  rw [if_pos (by decide), State.iff_of (by rw [← hw]; exact bitAt_fixBit v (by decide))]

theorem does_tideAsymWrite (hon : s.on = true) (src : Source) (j : Fin 4) (v : Word) {t : State} (ht : s.touch src = t)
    (ho : s.opens src (0xE0020 + 4 * j.val) v = true) :
    exec (.tideAsymWrite src j v) s = .next (State.follow ((t.plain (0xE0020 + 4 * j.val) v.toNat).asymWritten j.val) s) := by
  have h := j.isLt
  rw [on_tideAsymWrite hon, show (F.TIDE_L_ASYM_PS j.val).addr = 0xE0020 + 4 * j.val by
    dsimp only [F.TIDE_L_ASYM_PS]; omega, State.opens_Tide ho (by omega) (by omega) (by simp only [evtAddr]; omega), ht]
  unfold State.writeTide
  rw [if_neg (by dsimp only [F.TIDE_CTL_PREF]; omega), if_pos (by omega),
    show (0xE0020 + 4 * j.val - 0xE0020) / 4 = j.val by omega]

theorem does_tideCntClr (hon : s.on = true) (src : Source) (v : Word) {t : State} (ht : s.touch src = t)
    (ho : s.opens src F.TIDE_CNT_CLR_CLR.addr (fixBit v 0) = true) :
    exec (.tideCntClr src v) s = .next (State.follow ((((t.put F.TIDE_ACC_CNT_COUNT 0).put F.TIDE_LOST_CNT_COUNT 0).put
      F.TIDE_GATED_CNT_COUNT 0).put F.TIDE_TO_REF_CNT_COUNT 0) s) := by
  rw [on_tideCntClr hon, State.opens_Tide ho (by decide) (by decide) (by decide), ht]
  unfold State.writeTide
  rw [if_neg (by decide), if_neg (by decide), if_pos (by decide), State.iff_of (bitAt_fixBit v (by decide))]

theorem to_write {src : Source} {v : Word} {op : Nat} {t : State} {w : Word} (ht : s.touch src = t)
    (hw : fix (fixBit v 31) 29 2 op = w) (hop : op < 4) (ho : s.opens src F.TIDE_TO_CMD_GO.addr w = true) :
    toWrite src v op s = t.toCmd op (bitsAt w.toNat 0 5) (bitAt w.toNat 8) := by
  unfold toWrite
  rw [hw, State.opens_Tide ho (by decide) (by decide) (by decide), ht]
  unfold State.writeTide
  rw [if_neg (by decide), if_neg (by decide), if_neg (by decide), if_pos (by decide), State.iff_of (by rw [← hw,
      bitAt_fix_other _ _ (by decide) (by decide), bitAt_fixBit v (by decide)]),
    show bitsAt w.toNat 29 2 = op from by rw [← hw, bitsAt_fix _ _ (by decide)]; omega]

theorem does_toAdd (hon : s.on = true) (src : Source) (v : Word) {t : State} {w : Word} {pin : Nat} {at_ : Stamp}
    (ht : s.touch src = t) (hw : fix (fixBit v 31) 29 2 0 = w) (hp : bitsAt w.toNat 0 5 = pin)
    (ha : t.get64 F.TIDE_TO_AT_LO_STAMP F.TIDE_TO_AT_HI_STAMP = at_)
    (ho : s.opens src F.TIDE_TO_CMD_GO.addr w = true) (h : t.toCheck pin at_ = 0) :
    exec (.toAdd src v) s = .next (State.follow (State.bwBurst (State.coexAuto
      ((t.setTimedQ pin (placeEntry ⟨at_, bitAt w.toNat 8, false⟩ (t.timedQ pin))).toShow pin 0) pin at_)) s) := by
  rw [on_toAdd hon, to_write ht hw (by decide) ho, hp]
  simp only [State.toCmd, ha, State.toAdd, h, toOK, if_true]

theorem refuses_toAdd (hon : s.on = true) (src : Source) (v : Word) {t : State} {w : Word} {pin : Nat} {at_ : Stamp}
    (ht : s.touch src = t) (hw : fix (fixBit v 31) 29 2 0 = w) (hp : bitsAt w.toNat 0 5 = pin)
    (ha : t.get64 F.TIDE_TO_AT_LO_STAMP F.TIDE_TO_AT_HI_STAMP = at_)
    (ho : s.opens src F.TIDE_TO_CMD_GO.addr w = true) (h : t.toCheck pin at_ ≠ 0) :
    exec (.toAdd src v) s = .next (State.follow (t.toRefuse pin (t.toCheck pin at_)) s) := by
  rw [on_toAdd hon, to_write ht hw (by decide) ho, hp]
  simp only [State.toCmd, ha, State.toAdd, h, toOK, if_false]

theorem does_toFlush (hon : s.on = true) (src : Source) (v : Word) {t : State} {w : Word} {pin : Nat}
    (ht : s.touch src = t) (hw : fix (fixBit v 31) 29 2 1 = w) (hp : bitsAt w.toNat 0 5 = pin)
    (ho : s.opens src F.TIDE_TO_CMD_GO.addr w = true) (h : pinListed pin = true) :
    exec (.toFlush src v) s = .next (State.follow ((t.setTimedQ pin []).toShow pin 0) s) := by
  rw [on_toFlush hon, to_write ht hw (by decide) ho, hp]
  simp only [State.toCmd, State.toFlush, h, toOK, if_true]

theorem refuses_toFlush (hon : s.on = true) (src : Source) (v : Word) {t : State} {w : Word} {pin : Nat}
    (ht : s.touch src = t) (hw : fix (fixBit v 31) 29 2 1 = w) (hp : bitsAt w.toNat 0 5 = pin)
    (ho : s.opens src F.TIDE_TO_CMD_GO.addr w = true) (h : pinListed pin = false) :
    exec (.toFlush src v) s = .next (State.follow (t.toRefuse pin 4) s) := by
  rw [on_toFlush hon, to_write ht hw (by decide) ho, hp]
  simp only [State.toCmd, State.toFlush, h, toPIN, Bool.false_eq_true, if_false]

theorem does_toOpReserved (hon : s.on = true) (src : Source) (v : Word) {t : State} {w : Word} {pin : Nat}
    (ht : s.touch src = t) (hw : fix (fixBit v 31) 29 2 (2 + v.toNat / 2 ^ 29 % 2) = w) (hp : bitsAt w.toNat 0 5 = pin)
    (ho : s.opens src F.TIDE_TO_CMD_GO.addr w = true) :
    exec (.toOpReserved src v) s = .next (State.follow (t.toRefuse pin 4) s) := by
  rw [on_toOpReserved hon, to_write ht hw (by omega) ho, hp]
  rcases Nat.mod_two_eq_zero_or_one (v.toNat / 2 ^ 29) with h | h <;> rw [h] <;> simp only [State.toCmd, toPIN]

theorem does_timedOutputEdge (hon : s.on = true) (pin : Fin 26) {e : TimedEntry} {es due rest : List TimedEntry}
    (hq : s.timedQ pin.val = e :: es) (hd : dueEntries (e :: es) = (due, rest)) :
    exec (.timedOutputEdge pin) s = .next (State.follow (
      let t := ((s.reach e.at_).setTimedQ pin.val rest).entryAct pin.val due.length
        (due.getLast?.getD e).level
      if pin.val < 4 then t.tpAfter pin.val else t) s) := by
  rw [on_timedOutputEdge hon]
  unfold State.timedEdge
  rw [hq]
  simp only [hd]
  cases due.getLast? <;> simp only [Option.getD]

theorem does_tpulseModeWrite (hon : s.on = true) (src : Source) (n : Fin 4) (v : Word) {t : State} (ht : s.touch src = t)
    (ho : s.opens src (F.TIDE_TP_CTL_MODE n.val).addr v = true) :
    exec (.tpulseModeWrite src n v) s = .next (State.follow
      ((t.put (F.TIDE_TP_CTL_POL n.val) (bitsAt v.toNat 2 1)).tpMode n.val (bitsAt v.toNat 0 2)) s) := by
  have h := n.isLt
  have ha : (F.TIDE_TP_CTL_MODE n.val).addr = 0xE0200 + 0x20 * n.val := by dsimp only [F.TIDE_TP_CTL_MODE]; omega
  rw [on_tpulseModeWrite hon,
      State.opens_Tide ho (by rw [ha]; omega) (by rw [ha]; omega) (by rw [ha]; simp only [evtAddr]; omega),
    ht, ha]
  unfold State.writeTide
  rw [if_neg (by dsimp only [F.TIDE_CTL_PREF]; omega), if_neg (by omega), if_neg (by dsimp only [F.TIDE_CNT_CLR_CLR]; omega),
    if_neg (by dsimp only [F.TIDE_TO_CMD_GO]; omega), if_pos (by omega)]
  dsimp only
  rw [show (0xE0200 + 0x20 * n.val - 0xE0200) % 0x20 = 0 by omega,
      show (0xE0200 + 0x20 * n.val - 0xE0200) / 0x20 = n.val by omega]
  rfl

end Sys2Proof.Machine
end

