-- ==== Sys2Proof/Laws/ExecTxCmds.lean ====
section
/-! SUPPORT. What each command of Machine/TxCmds.lean may change. -/

namespace Sys2Proof.Machine

set_option linter.all false

theorem execTxdRunWrite_moves (src : Source) (v : Word) (s : State) (t : State) (h : execTxdRunWrite src v s = .next t) :
    Moves 0xc156da28d8aeda2 s t := by
  unfold execTxdRunWrite at h
  refine acting_moves (by decide) (fun _ => ?_) h
  repeat' first
    | with_reducible assumption
    | with_reducible exact Moves.refl _ _
    | decide
    | with_reducible apply Moves.step (State.busWrite_Txd _ _ _ (by first | decide | (simp only [F.TXD_CTL_RUN]; omega) | (simp only [F.TXD_CTL_RUN]; split <;> decide) | (simp only [F.TXD_CTL_RUN]; (repeat' split) <;> omega)))

theorem txdCfgAddr_block (i : Nat) (h : i < 95) : txdCfgAddr i / 4 * 4 / 65536 = 7 := by
  unfold txdCfgAddr nth
  by_cases h3 : 3 ≤ i
  · rw [List.getElem?_eq_none (by simpa using h3), Option.getD_none]; omega
  · match i, h3 with
    | 0, _ => decide
    | 1, _ => decide
    | 2, _ => decide
    | n + 3, h3 => omega

theorem execTxdCfgWrite_moves (src : Source) (i : Fin 95) (v : Word) (s : State) (t : State) (h : execTxdCfgWrite src i v s = .next t) :
    Moves 0xc156da28d8aeda2 s t := by
  unfold execTxdCfgWrite at h
  refine acting_moves (by decide) (fun _ => ?_) h
  repeat' first
    | with_reducible assumption
    | with_reducible exact Moves.refl _ _
    | decide
    | with_reducible apply Moves.step (State.busWrite_Txd _ _ _ (txdCfgAddr_block _ i.isLt))

theorem execTxdNcoGo_moves (src : Source) (v : Word) (s : State) (t : State) (h : execTxdNcoGo src v s = .next t) :
    Moves 0xc156da28d8aeda2 s t := by
  unfold execTxdNcoGo at h
  refine acting_moves (by decide) (fun _ => ?_) h
  repeat' first
    | with_reducible assumption
    | with_reducible exact Moves.refl _ _
    | decide
    | with_reducible apply Moves.step (State.busWrite_Txd _ _ _ (by first | decide | (simp only [F.TXD_NCO_CTL_GO]; omega) | (simp only [F.TXD_NCO_CTL_GO]; split <;> decide) | (simp only [F.TXD_NCO_CTL_GO]; (repeat' split) <;> omega)))

theorem execTxdNcoRetuneAt_moves (s : State) (t : State) (h : execTxdNcoRetuneAt s = .next t) :
    Moves 0x805a122cd02a1e2 s t := by
  unfold execTxdNcoRetuneAt at h
  refine acting_moves (by decide) (fun _ => ?_) h
  repeat' first
    | with_reducible assumption
    | with_reducible exact Moves.refl _ _
    | decide
    | with_reducible apply Moves.ite
    | with_reducible apply Moves.step (State.txNcoFire_moves ..)
    | with_reducible apply Moves.step (State.bwFix_moves ..)
    | split
    | (with_reducible refine Moves.snd (by assumption) ?_)
    | (with_reducible refine Moves.fst (by assumption) ?_)

theorem execTxGainApply_moves (s : State) (t : State) (h : execTxGainApply s = .next t) :
    Moves 0x805a122cd02a0e2 s t := by
  unfold execTxGainApply at h
  refine acting_moves (by decide) (fun _ => ?_) h
  repeat' first
    | with_reducible assumption
    | with_reducible exact Moves.refl _ _
    | decide
    | with_reducible apply Moves.step (State.gainApply_moves ..)

theorem execTxChainRestart_moves (s : State) (t : State) (h : execTxChainRestart s = .next t) :
    Moves 0x805a1a2cd02a1e2 s t := by
  unfold execTxChainRestart at h
  refine acting_moves (by decide) (fun _ => ?_) h
  repeat' first
    | with_reducible assumption
    | with_reducible exact Moves.refl _ _
    | decide
    | with_reducible apply Moves.step (State.txRestartFire_moves ..)

theorem execTxaCtlWrite_moves (src : Source) (v : Word) (s : State) (t : State) (h : execTxaCtlWrite src v s = .next t) :
    Moves 0xd0568a28dc2e9a2 s t := by
  unfold execTxaCtlWrite at h
  refine acting_moves (by decide) (fun _ => ?_) h
  repeat' first
    | with_reducible assumption
    | with_reducible exact Moves.refl _ _
    | decide
    | with_reducible apply Moves.step (State.busWrite_Txa _ _ _ (by first | decide | (simp only [F.TXA_CTL_FILT_BW]; omega) | (simp only [F.TXA_CTL_FILT_BW]; split <;> decide) | (simp only [F.TXA_CTL_FILT_BW]; (repeat' split) <;> omega)))

theorem execTxRetireWrite_moves (src : Source) (half : Fin 2) (v : Word) (s : State) (t : State) (h : execTxRetireWrite src half v s = .next t) :
    Moves 0xd0568a28dc2e9a2 s t := by
  unfold execTxRetireWrite at h
  refine acting_moves (by decide) (fun _ => ?_) h
  repeat' first
    | with_reducible assumption
    | with_reducible exact Moves.refl _ _
    | decide
    | with_reducible apply Moves.ite
    | with_reducible apply Moves.step (State.busWrite_Txa _ _ _ (by first | decide | (simp only [F.TXA_RETIRE0_PATHS, F.TXA_RETIRE1_PATHS]; omega) | (simp only [F.TXA_RETIRE0_PATHS, F.TXA_RETIRE1_PATHS]; split <;> decide) | (simp only [F.TXA_RETIRE0_PATHS, F.TXA_RETIRE1_PATHS]; (repeat' split) <;> omega)))
    | split
    | (with_reducible refine Moves.snd (by assumption) ?_)
    | (with_reducible refine Moves.fst (by assumption) ?_)

theorem execTxdCntClrMute_moves (src : Source) (v : Word) (s : State) (t : State) (h : execTxdCntClrMute src v s = .next t) :
    Moves 0xc156da28d8aeda2 s t := by
  unfold execTxdCntClrMute at h
  refine acting_moves (by decide) (fun _ => ?_) h
  repeat' first
    | with_reducible assumption
    | with_reducible exact Moves.refl _ _
    | decide
    | with_reducible apply Moves.step (State.busWrite_Txd _ _ _ (by first | decide | (simp only [F.TXD_CNT_CLR_SAT, F.TXD_CNT_CLR_MUTE]; omega) | (simp only [F.TXD_CNT_CLR_SAT, F.TXD_CNT_CLR_MUTE]; split <;> decide) | (simp only [F.TXD_CNT_CLR_SAT, F.TXD_CNT_CLR_MUTE]; (repeat' split) <;> omega)))

theorem execTxdCntClrSat_moves (src : Source) (v : Word) (s : State) (t : State) (h : execTxdCntClrSat src v s = .next t) :
    Moves 0xc156da28d8aeda2 s t := by
  unfold execTxdCntClrSat at h
  refine acting_moves (by decide) (fun _ => ?_) h
  repeat' first
    | with_reducible assumption
    | with_reducible exact Moves.refl _ _
    | decide
    | with_reducible apply Moves.step (State.busWrite_Txd _ _ _ (by first | decide | (simp only [F.TXD_CNT_CLR_SAT]; omega) | (simp only [F.TXD_CNT_CLR_SAT]; split <;> decide) | (simp only [F.TXD_CNT_CLR_SAT]; (repeat' split) <;> omega)))

theorem execCoexGntFall_moves (s : State) (t : State) (h : execCoexGntFall s = .next t) :
    Moves 0x80720a28d02a1a2 s t := by
  unfold execCoexGntFall at h
  refine acting_moves (by decide) (fun _ => ?_) h
  repeat' first
    | with_reducible assumption
    | with_reducible exact Moves.refl _ _
    | decide
    | with_reducible apply Moves.ite
    | with_reducible apply Moves.step (State.coexFallEdge_moves ..)
    | split
    | (with_reducible refine Moves.snd (by assumption) ?_)
    | (with_reducible refine Moves.fst (by assumption) ?_)

theorem execCoexGntRise_moves (s : State) (t : State) (h : execCoexGntRise s = .next t) :
    Moves 0x80720a28d02a1a2 s t := by
  unfold execCoexGntRise at h
  refine acting_moves (by decide) (fun _ => ?_) h
  repeat' first
    | with_reducible assumption
    | with_reducible exact Moves.refl _ _
    | decide
    | with_reducible apply Moves.ite
    | with_reducible apply Moves.step (State.coexRiseEdge_moves ..)
    | split
    | (with_reducible refine Moves.snd (by assumption) ?_)
    | (with_reducible refine Moves.fst (by assumption) ?_)

theorem execCoexMuteLift_moves (s : State) (t : State) (h : execCoexMuteLift s = .next t) :
    Moves 0x805a022cd02a1e2 s t := by
  unfold execCoexMuteLift at h
  refine acting_moves (by decide) (fun _ => ?_) h
  repeat' first
    | with_reducible assumption
    | with_reducible exact Moves.refl _ _
    | decide
    | with_reducible apply Moves.step (State.coexLiftNow_moves ..)

theorem execTxCalReq_moves (src : Source) (v : Word) (s : State) (t : State) (h : execTxCalReq src v s = .next t) :
    Moves 0xd0568a28dc2e9a2 s t := by
  unfold execTxCalReq at h
  refine acting_moves (by decide) (fun _ => ?_) h
  repeat' first
    | with_reducible assumption
    | with_reducible exact Moves.refl _ _
    | decide
    | with_reducible apply Moves.step (State.busWrite_Txa _ _ _ (by first | decide | (simp only [F.TXA_CAL_REQ_GO]; omega) | (simp only [F.TXA_CAL_REQ_GO]; split <;> decide) | (simp only [F.TXA_CAL_REQ_GO]; (repeat' split) <;> omega)))

theorem execTxCalStart_moves (s : State) (t : State) (h : execTxCalStart s = .next t) :
    Moves 0x80520a28d02a1a2 s t := by
  unfold execTxCalStart at h
  refine acting_moves (by decide) (fun _ => ?_) h
  repeat' first
    | with_reducible assumption
    | with_reducible exact Moves.refl _ _
    | decide
    | with_reducible apply Moves.step (State.txCalStart_moves ..)

theorem execTxCalTimeout_moves (s : State) (t : State) (h : execTxCalTimeout s = .next t) :
    Moves 0x805a0a2cd02a1e2 s t := by
  unfold execTxCalTimeout at h
  refine acting_moves (by decide) (fun _ => ?_) h
  repeat' first
    | with_reducible assumption
    | with_reducible exact Moves.refl _ _
    | decide
    | with_reducible apply Moves.step (State.txCalTimeout_moves ..)

theorem execTxCalDone_moves (fail limit : BitVec 64) (s : State) (t : State) (h : execTxCalDone fail limit s = .next t) :
    Moves 0x805a0a3cd02a1e2 s t := by
  unfold execTxCalDone at h
  refine acting_moves (by decide) (fun _ => ?_) h
  repeat' first
    | with_reducible assumption
    | with_reducible exact Moves.refl _ _
    | decide
    | with_reducible apply Moves.step (State.txCalDone_moves ..)

theorem execReadbackGo_moves (src : Source) (v : Word) (s : State) (t : State) (h : execReadbackGo src v s = .next t) :
    Moves 0xd0568a28dc2e9a2 s t := by
  unfold execReadbackGo at h
  refine acting_moves (by decide) (fun _ => ?_) h
  repeat' first
    | with_reducible assumption
    | with_reducible exact Moves.refl _ _
    | decide
    | with_reducible apply Moves.step (State.busWrite_Txa _ _ _ (by first | decide | (simp only [F.TXA_RB_CTL_GO]; omega) | (simp only [F.TXA_RB_CTL_GO]; split <;> decide) | (simp only [F.TXA_RB_CTL_GO]; (repeat' split) <;> omega)))

theorem execReadbackDone_moves (v : BitVec 16) (s : State) (t : State) (h : execReadbackDone v s = .next t) :
    Moves 0x80520a28d02a1a2 s t := by
  unfold execReadbackDone at h
  refine acting_moves (by decide) (fun _ => ?_) h
  repeat' first
    | with_reducible assumption
    | with_reducible exact Moves.refl _ _
    | decide
    | with_reducible apply Moves.step (State.rbDone_moves ..)

theorem execDpdCfgWrite_moves (src : Source) (i : Fin 33) (v : Word) (s : State) (t : State) (h : execDpdCfgWrite src i v s = .next t) :
    Moves 0xc0522228d82a3a2 s t := by
  unfold execDpdCfgWrite at h
  refine acting_moves (by decide) (fun _ => ?_) h
  repeat' first
    | with_reducible assumption
    | with_reducible exact Moves.refl _ _
    | decide
    | with_reducible apply Moves.ite
    | with_reducible apply Moves.step (State.busWrite_Dpd _ _ _ (by first | decide | (simp only [F.DPD_XFADE_LEN, F.DPD_TERM_EN]; omega) | (simp only [F.DPD_XFADE_LEN, F.DPD_TERM_EN]; split <;> decide) | (simp only [F.DPD_XFADE_LEN, F.DPD_TERM_EN]; (repeat' split) <;> omega)))
    | split
    | (with_reducible refine Moves.snd (by assumption) ?_)
    | (with_reducible refine Moves.fst (by assumption) ?_)

theorem execDpdPctlWrite_moves (src : Source) (p : Fin 64) (v : Word) (s : State) (t : State) (h : execDpdPctlWrite src p v s = .next t) :
    Moves 0xc0522228d82a3a2 s t := by
  unfold execDpdPctlWrite at h
  refine acting_moves (by decide) (fun _ => ?_) h
  repeat' first
    | with_reducible assumption
    | with_reducible exact Moves.refl _ _
    | decide
    | with_reducible apply Moves.step (State.busWrite_Dpd _ _ _ (by first | decide | (simp only [F.DPD_P_CTL_ADAPT_EN]; omega) | (simp only [F.DPD_P_CTL_ADAPT_EN]; split <;> decide) | (simp only [F.DPD_P_CTL_ADAPT_EN]; (repeat' split) <;> omega)))

theorem execDpdBankWrite_moves (src : Source) (p : Fin 64) (bank : Fin 8) (term : Fin 32) (part : Fin 2) (v : Word) (s : State) (t : State) (h : execDpdBankWrite src p bank term part v s = .next t) :
    Moves 0xc2526229d82a2a2 s t := by
  unfold execDpdBankWrite at h
  refine acting_moves (by decide) (fun _ => ?_) h
  repeat' first
    | with_reducible assumption
    | with_reducible exact Moves.refl _ _
    | decide
    | with_reducible apply Moves.step (State.busWrite_Window _ _ _ (by simp only [dpdAddr]; omega))

theorem execDpdSwapGo_moves (src : Source) (v : Word) (s : State) (t : State) (h : execDpdSwapGo src v s = .next t) :
    Moves 0xc0522228d82a3a2 s t := by
  unfold execDpdSwapGo at h
  refine acting_moves (by decide) (fun _ => ?_) h
  repeat' first
    | with_reducible assumption
    | with_reducible exact Moves.refl _ _
    | decide
    | with_reducible apply Moves.step (State.busWrite_Dpd _ _ _ (by first | decide | (simp only [F.DPD_SWAP_CTL_GO]; omega) | (simp only [F.DPD_SWAP_CTL_GO]; split <;> decide) | (simp only [F.DPD_SWAP_CTL_GO]; (repeat' split) <;> omega)))

theorem execFadeComplete_moves (p : Fin 64) (s : State) (t : State) (h : execFadeComplete p s = .next t) :
    Moves 0x805a222dd02a2e2 s t := by
  unfold execFadeComplete at h
  refine acting_moves (by decide) (fun _ => ?_) h
  repeat' first
    | with_reducible assumption
    | with_reducible exact Moves.refl _ _
    | decide
    | with_reducible apply Moves.ite
    | with_reducible apply Moves.step (State.fadeComplete_moves ..)
    | with_reducible apply Moves.step (State.refreshStart_moves ..)
    | split
    | (with_reducible refine Moves.snd (by assumption) ?_)
    | (with_reducible refine Moves.fst (by assumption) ?_)

theorem execOrxSlot_moves (k : Fin 8) (found : Bool) (ri rq : Int) (fill : Fin 2049) (lost : BitVec 16) (s : State) (t : State) (h : execOrxSlot k found ri rq fill lost s = .next t) :
    Moves 0x80522a28d02a2a2 s t := by
  unfold execOrxSlot at h
  refine acting_moves (by decide) (fun _ => ?_) h
  repeat' first
    | with_reducible assumption
    | with_reducible exact Moves.refl _ _
    | decide
    | with_reducible apply Moves.step (State.orxSlot_moves ..)

theorem execDpdSolveDone_moves (p : Fin 64) (rms : Int) (ovr : Bool) (corr : Fin 1001) (delay : Fin 2048) (nmse : BitVec 16) (s : State) (t : State) (h : execDpdSolveDone p rms ovr corr delay nmse s = .next t) :
    Moves 0x81522239d0aa2a2 s t := by
  unfold execDpdSolveDone at h
  refine acting_moves (by decide) (fun _ => ?_) h
  repeat' first
    | with_reducible assumption
    | with_reducible exact Moves.refl _ _
    | decide
    | with_reducible apply Moves.step (State.dpdSolve_moves ..)

theorem execRefreshFadeStart_moves (p : Fin 64) (s : State) (t : State) (h : execRefreshFadeStart p s = .next t) :
    Moves 0x80522229d02a2a2 s t := by
  unfold execRefreshFadeStart at h
  refine acting_moves (by decide) (fun _ => ?_) h
  repeat' first
    | with_reducible assumption
    | with_reducible exact Moves.refl _ _
    | decide
    | with_reducible apply Moves.step (State.refreshStart_moves ..)

theorem execOrxSliceExchange_moves (k : Fin 8) (q : Fin 2) (slice : Fin 17) (trimLimit residual : Bool) (s : State) (t : State) (h : execOrxSliceExchange k q slice trimLimit residual s = .next t) :
    Moves 0x90522228d42a2a2 s t := by
  unfold execOrxSliceExchange at h
  refine acting_moves (by decide) (fun _ => ?_) h
  repeat' first
    | with_reducible assumption
    | with_reducible exact Moves.refl _ _
    | decide
    | with_reducible apply Moves.ite
    | with_reducible apply Moves.step (State.orxExchange_moves ..)
    | split
    | (with_reducible refine Moves.snd (by assumption) ?_)
    | (with_reducible refine Moves.fst (by assumption) ?_)

theorem execDpdCntClrPath_moves (src : Source) (v : Word) (s : State) (t : State) (h : execDpdCntClrPath src v s = .next t) :
    Moves 0xc0522228d82a3a2 s t := by
  unfold execDpdCntClrPath at h
  refine acting_moves (by decide) (fun _ => ?_) h
  repeat' first
    | with_reducible assumption
    | with_reducible exact Moves.refl _ _
    | decide
    | with_reducible apply Moves.step (State.busWrite_Dpd _ _ _ (by first | decide | (simp only [F.DPD_CNT_CLR_PATH]; omega) | (simp only [F.DPD_CNT_CLR_PATH]; split <;> decide) | (simp only [F.DPD_CNT_CLR_PATH]; (repeat' split) <;> omega)))

theorem execDpdCntClrDrop_moves (src : Source) (v : Word) (s : State) (t : State) (h : execDpdCntClrDrop src v s = .next t) :
    Moves 0xc0522228d82a3a2 s t := by
  unfold execDpdCntClrDrop at h
  refine acting_moves (by decide) (fun _ => ?_) h
  repeat' first
    | with_reducible assumption
    | with_reducible exact Moves.refl _ _
    | decide
    | with_reducible apply Moves.step (State.busWrite_Dpd _ _ _ (by first | decide | (simp only [F.DPD_CNT_CLR_PATH, F.DPD_CNT_CLR_DROP]; omega) | (simp only [F.DPD_CNT_CLR_PATH, F.DPD_CNT_CLR_DROP]; split <;> decide) | (simp only [F.DPD_CNT_CLR_PATH, F.DPD_CNT_CLR_DROP]; (repeat' split) <;> omega)))

theorem execDpdCntClrActwr_moves (src : Source) (v : Word) (s : State) (t : State) (h : execDpdCntClrActwr src v s = .next t) :
    Moves 0xc0522228d82a3a2 s t := by
  unfold execDpdCntClrActwr at h
  refine acting_moves (by decide) (fun _ => ?_) h
  repeat' first
    | with_reducible assumption
    | with_reducible exact Moves.refl _ _
    | decide
    | with_reducible apply Moves.step (State.busWrite_Dpd _ _ _ (by first | decide | (simp only [F.DPD_CNT_CLR_PATH, F.DPD_CNT_CLR_ACTWR]; omega) | (simp only [F.DPD_CNT_CLR_PATH, F.DPD_CNT_CLR_ACTWR]; split <;> decide) | (simp only [F.DPD_CNT_CLR_PATH, F.DPD_CNT_CLR_ACTWR]; (repeat' split) <;> omega)))

end Sys2Proof.Machine
end

