-- ==== Sys2Proof/Laws/OnTxCmds.lean ====
section
/-! SUPPORT. What the commands of Machine/TxCmds.lean answer while the device acts. -/

namespace Sys2Proof.Machine

set_option linter.all false

theorem on_txdRunWrite {s : State} (hon : s.on = true) (src : Source) (v : Word) :
    exec (.txdRunWrite src v) s = .next (State.follow (s.busWrite src F.TXD_CTL_RUN.addr v) s) := by
  show execTxdRunWrite src v s = _
  exact acting_on hon

theorem on_txdCfgWrite {s : State} (hon : s.on = true) (src : Source) (i : Fin 95) (v : Word) :
    exec (.txdCfgWrite src i v) s = .next (State.follow (s.busWrite src (txdCfgAddr i.val) v) s) := by
  show execTxdCfgWrite src i v s = _
  exact acting_on hon

theorem on_txdNcoGo {s : State} (hon : s.on = true) (src : Source) (v : Word) :
    exec (.txdNcoGo src v) s = .next (State.follow (s.busWrite src F.TXD_NCO_CTL_GO.addr (fixBit v 31)) s) := by
  show execTxdNcoGo src v s = _
  exact acting_on hon

theorem on_txdNcoRetuneAt {s : State} (hon : s.on = true)  :
    exec (.txdNcoRetuneAt) s = .next (State.follow (if s.tx.ncoArm.isSome then s.txNcoFire.bwFix else s) s) := by
  show execTxdNcoRetuneAt  s = _
  exact acting_on hon

theorem on_txGainApply {s : State} (hon : s.on = true)  :
    exec (.txGainApply) s = .next (State.follow (State.gainApply s) s) := by
  show execTxGainApply  s = _
  exact acting_on hon

theorem on_txChainRestart {s : State} (hon : s.on = true)  :
    exec (.txChainRestart) s = .next (State.follow (State.txRestartFire s) s) := by
  show execTxChainRestart  s = _
  exact acting_on hon

theorem on_txaCtlWrite {s : State} (hon : s.on = true) (src : Source) (v : Word) :
    exec (.txaCtlWrite src v) s = .next (State.follow (s.busWrite src F.TXA_CTL_FILT_BW.addr v) s) := by
  show execTxaCtlWrite src v s = _
  exact acting_on hon

theorem on_txRetireWrite {s : State} (hon : s.on = true) (src : Source) (half : Fin 2) (v : Word) :
    exec (.txRetireWrite src half v) s = .next (State.follow (s.busWrite src (if half.val = 0 then F.TXA_RETIRE0_PATHS else F.TXA_RETIRE1_PATHS).addr v) s) := by
  show execTxRetireWrite src half v s = _
  exact acting_on hon

theorem on_coexGntFall {s : State} (hon : s.on = true)  :
    exec (.coexGntFall) s = .next (State.follow (if s.pins.coexGnt then s.coexFallEdge else s) s) := by
  show execCoexGntFall  s = _
  exact acting_on hon

theorem on_coexGntRise {s : State} (hon : s.on = true)  :
    exec (.coexGntRise) s = .next (State.follow (if s.pins.coexGnt then s else s.coexRiseEdge) s) := by
  show execCoexGntRise  s = _
  exact acting_on hon

theorem on_coexMuteLift {s : State} (hon : s.on = true)  :
    exec (.coexMuteLift) s = .next (State.follow (State.coexLiftNow s) s) := by
  show execCoexMuteLift  s = _
  exact acting_on hon

theorem on_txCalReq {s : State} (hon : s.on = true) (src : Source) (v : Word) :
    exec (.txCalReq src v) s = .next (State.follow (s.busWrite src F.TXA_CAL_REQ_GO.addr (fixBit v 31)) s) := by
  show execTxCalReq src v s = _
  exact acting_on hon

theorem on_txCalStart {s : State} (hon : s.on = true)  :
    exec (.txCalStart) s = .next (State.follow (State.txCalStart s) s) := by
  show execTxCalStart  s = _
  exact acting_on hon

theorem on_txCalTimeout {s : State} (hon : s.on = true)  :
    exec (.txCalTimeout) s = .next (State.follow (State.txCalTimeout s) s) := by
  show execTxCalTimeout  s = _
  exact acting_on hon

theorem on_txCalDone {s : State} (hon : s.on = true) (fail limit : BitVec 64) :
    exec (.txCalDone fail limit) s = .next (State.follow (s.txCalDone (mask fail) (mask limit)) s) := by
  show execTxCalDone fail limit s = _
  exact acting_on hon

theorem on_readbackGo {s : State} (hon : s.on = true) (src : Source) (v : Word) :
    exec (.readbackGo src v) s = .next (State.follow (s.busWrite src F.TXA_RB_CTL_GO.addr (fixBit v 31)) s) := by
  show execReadbackGo src v s = _
  exact acting_on hon

theorem on_readbackDone {s : State} (hon : s.on = true) (v : BitVec 16) :
    exec (.readbackDone v) s = .next (State.follow (s.rbDone v.toInt) s) := by
  show execReadbackDone v s = _
  exact acting_on hon

theorem on_txdCntClrMute {s : State} (hon : s.on = true) (src : Source) (v : Word) :
    exec (.txdCntClrMute src v) s = .next (State.follow (s.busWrite src F.TXD_CNT_CLR_SAT.addr (fixBit v F.TXD_CNT_CLR_MUTE.lo)) s) := by
  show execTxdCntClrMute src v s = _
  exact acting_on hon

theorem on_txdCntClrSat {s : State} (hon : s.on = true) (src : Source) (v : Word) :
    exec (.txdCntClrSat src v) s = .next (State.follow (s.busWrite src F.TXD_CNT_CLR_SAT.addr (fixBit v F.TXD_CNT_CLR_SAT.lo)) s) := by
  show execTxdCntClrSat src v s = _
  exact acting_on hon

theorem on_dpdCfgWrite {s : State} (hon : s.on = true) (src : Source) (i : Fin 33) (v : Word) :
    exec (.dpdCfgWrite src i v) s = .next (State.follow (s.busWrite src (if i.val = 32 then F.DPD_XFADE_LEN.addr else (F.DPD_TERM_EN i.val).addr) v) s) := by
  show execDpdCfgWrite src i v s = _
  exact acting_on hon

theorem on_dpdPctlWrite {s : State} (hon : s.on = true) (src : Source) (p : Fin 64) (v : Word) :
    exec (.dpdPctlWrite src p v) s = .next (State.follow (s.busWrite src (F.DPD_P_CTL_ADAPT_EN p.val).addr v) s) := by
  show execDpdPctlWrite src p v s = _
  exact acting_on hon

theorem on_dpdBankWrite {s : State} (hon : s.on = true) (src : Source) (p : Fin 64) (bank : Fin 8) (term : Fin 32) (part : Fin 2) (v : Word) :
    exec (.dpdBankWrite src p bank term part v) s = .next (State.follow (s.busWrite src (dpdAddr p.val bank.val term.val + 4 * part.val) v) s) := by
  show execDpdBankWrite src p bank term part v s = _
  exact acting_on hon

theorem on_dpdSwapGo {s : State} (hon : s.on = true) (src : Source) (v : Word) :
    exec (.dpdSwapGo src v) s = .next (State.follow (s.busWrite src F.DPD_SWAP_CTL_GO.addr (fixBit v 31)) s) := by
  show execDpdSwapGo src v s = _
  exact acting_on hon

theorem on_fadeComplete {s : State} (hon : s.on = true) (p : Fin 64) :
    exec (.fadeComplete p) s = .next (State.follow (if (s.dpdPath p.val).fade.isSome then (s.fadeComplete p.val).refreshStart p.val else s) s) := by
  show execFadeComplete p s = _
  exact acting_on hon

theorem on_orxSlot {s : State} (hon : s.on = true) (k : Fin 8) (found : Bool) (ri rq : Int) (fill : Fin 2049) (lost : BitVec 16) :
    exec (.orxSlot k found ri rq fill lost) s = .next (State.follow (s.orxSlot k.val found ri rq fill.val lost.toNat) s) := by
  show execOrxSlot k found ri rq fill lost s = _
  exact acting_on hon

theorem on_dpdSolveDone {s : State} (hon : s.on = true) (p : Fin 64) (rms : Int) (ovr : Bool) (corr : Fin 1001) (delay : Fin 2048) (nmse : BitVec 16) :
    exec (.dpdSolveDone p rms ovr corr delay nmse) s = .next (State.follow (s.dpdSolve p.val rms ovr corr.val delay.val nmse.toInt) s) := by
  show execDpdSolveDone p rms ovr corr delay nmse s = _
  exact acting_on hon

theorem on_refreshFadeStart {s : State} (hon : s.on = true) (p : Fin 64) :
    exec (.refreshFadeStart p) s = .next (State.follow (s.refreshStart p.val) s) := by
  show execRefreshFadeStart p s = _
  exact acting_on hon

theorem on_orxSliceExchange {s : State} (hon : s.on = true) (k : Fin 8) (q : Fin 2) (slice : Fin 17) (trimLimit residual : Bool) :
    exec (.orxSliceExchange k q slice trimLimit residual) s = .next (State.follow (if s.hasQuad k.val then s.orxExchange k.val q.val slice.val trimLimit residual else s) s) := by
  show execOrxSliceExchange k q slice trimLimit residual s = _
  exact acting_on hon

theorem on_dpdCntClrPath {s : State} (hon : s.on = true) (src : Source) (v : Word) :
    exec (.dpdCntClrPath src v) s = .next (State.follow (s.busWrite src F.DPD_CNT_CLR_PATH.addr (fixBit v F.DPD_CNT_CLR_PATH.lo)) s) := by
  show execDpdCntClrPath src v s = _
  exact acting_on hon

theorem on_dpdCntClrDrop {s : State} (hon : s.on = true) (src : Source) (v : Word) :
    exec (.dpdCntClrDrop src v) s = .next (State.follow (s.busWrite src F.DPD_CNT_CLR_PATH.addr (fixBit v F.DPD_CNT_CLR_DROP.lo)) s) := by
  show execDpdCntClrDrop src v s = _
  exact acting_on hon

theorem on_dpdCntClrActwr {s : State} (hon : s.on = true) (src : Source) (v : Word) :
    exec (.dpdCntClrActwr src v) s = .next (State.follow (s.busWrite src F.DPD_CNT_CLR_PATH.addr (fixBit v F.DPD_CNT_CLR_ACTWR.lo)) s) := by
  show execDpdCntClrActwr src v s = _
  exact acting_on hon

end Sys2Proof.Machine
end

