-- ==== Sys2Proof/Laws/DoesTx.lean ====
section
/-! SUPPORT. What the commands of the transmit path and the predistorter do where they take effect. -/

namespace Sys2Proof.Machine

set_option linter.all false

variable {s : State}

theorem does_txdRunWrite (hon : s.on = true) (src : Source) (v : Word) {t u : State} (ht : s.touch src = t)
    (ho : s.opens src F.TXD_CTL_RUN.addr v = true) (hu : t.plain F.TXD_CTL_RUN.addr v.toNat = u)
    (h : u.flag F.TXD_CTL_RUN ≠ t.flag F.TXD_CTL_RUN) :
    exec (.txdRunWrite src v) s = .next (State.follow u.txChains.bwStart s) := by
  rw [on_txdRunWrite hon, State.opens_Txd ho (by decide) (by decide) (by decide), ht]
  unfold State.writeTxd
  rw [if_pos (by decide)]
  simp only [hu, if_neg h]

theorem txdCfg_addr (i : Nat) (h : i < 95) : (txdCfgAddr i = 0x70004 ∨ txdCfgAddr i = 0x7002C ∨ txdCfgAddr i = 0x70030) ∨
    (0x72000 ≤ txdCfgAddr i ∧ txdCfgAddr i < 0x73000 ∧ txdCfgAddr i % 4 = 0) := by
  unfold txdCfgAddr
  match i, h with
  | 0, _ => simp [nth]
  | 1, _ => simp [nth]
  | 2, _ => simp [nth]
  | j + 3, h =>
    right
    simp [nth]
    omega

theorem txdCfg_locked (i : Nat) (h : i < 95) : txdLocked (txdCfgAddr i) = true ∧ txdCfgAddr i ≠ F.TXD_CTL_RUN.addr := by
  rcases txdCfg_addr i h with (e | e | e) | e
  · rw [e]; decide
  · rw [e]; decide
  · rw [e]; decide
  · refine ⟨?_, fun x => ?_⟩
    · unfold txdLocked
      rw [decide_eq_true e.1, Bool.or_true]
    · have : F.TXD_CTL_RUN.addr = 0x70000 := by decide
      omega

/-- With the chains stopped a locked word is written (R158). -/
theorem does_txdCfgWrite (hon : s.on = true) (src : Source) (i : Fin 95) (v : Word) {t u : State} (ht : s.touch src = t)
    (ho : s.opens src (txdCfgAddr i.val) v = true) (h : t.flag F.TXD_CTL_RUN = false)
    (hu : t.plain (txdCfgAddr i.val) v.toNat = u) :
    exec (.txdCfgWrite src i v) s = .next (State.follow (if i.val = 0 then u.cfgWritten else u) s) := by
  have hl := txdCfg_locked i.val i.isLt
  have ha := txdCfg_addr i.val i.isLt
  rw [on_txdCfgWrite hon, State.opens_Txd ho (by omega) (by omega) (by simp only [evtAddr]; omega), ht]
  unfold State.writeTxd
  rw [if_neg hl.2, if_pos hl.1, h, if_neg (by decide), hu]
  dsimp only
  have e : txdCfgAddr i.val = 0x70004 ↔ i.val = 0 := by
    unfold txdCfgAddr
    rcases i with ⟨i, hi⟩
    match i, hi with
    | 0, _ => simp [nth]
    | 1, _ => simp [nth]
    | 2, _ => simp [nth]
    | j + 3, h => simp [nth]; omega
  by_cases c : i.val = 0
  · rw [if_pos c, if_pos (e.mpr c)]
  · rw [if_neg c, if_neg (fun x => c (e.mp x))]

/-- While they run it is rejected: CFG_REJECTED (R158). -/
theorem refuses_txdCfgWrite (hon : s.on = true) (src : Source) (i : Fin 95) (v : Word) {t : State} (ht : s.touch src = t)
    (ho : s.opens src (txdCfgAddr i.val) v = true) (h : t.flag F.TXD_CTL_RUN = true) :
    exec (.txdCfgWrite src i v) s = .next (State.follow (((t.setEvt 0x0701 0).inc F.TXD_REJ_CNT_COUNT).raiseMs 0x0701 0 0) s) := by
  have hl := txdCfg_locked i.val i.isLt
  have ha := txdCfg_addr i.val i.isLt
  rw [on_txdCfgWrite hon, State.opens_Txd ho (by omega) (by omega) (by simp only [evtAddr]; omega), ht]
  unfold State.writeTxd
  rw [if_neg hl.2, if_pos hl.1, if_pos h]

theorem does_txdNcoGo (hon : s.on = true) (src : Source) (v : Word) {t : State} {w : Word} (ht : s.touch src = t)
    (hw : fixBit v 31 = w) (ho : s.opens src F.TXD_NCO_CTL_GO.addr w = true) :
    exec (.txdNcoGo src v) s = .next (State.follow ((t.plain F.TXD_NCO_CTL_GO.addr w.toNat).writeTxNco w.toNat) s) := by
  rw [on_txdNcoGo hon, hw, State.opens_Txd ho (by decide) (by decide) (by decide), ht]
  unfold State.writeTxd
  rw [if_neg (by decide), if_neg (by decide), if_neg (by decide), if_pos (by decide),
      State.iff_of (by rw [← hw]; exact bitAt_fixBit v (by decide))]

/-- The armed retune takes effect, and Breakwater fixes its band again (R155, R350). -/
theorem does_txdNcoRetuneAt (hon : s.on = true) {f : Int} {a : BitVec 64} {t : State} (h : s.tx.ncoArm = some (f, a))
    (ht : s.reach a = t) :
    exec .txdNcoRetuneAt s = .next (State.follow (State.bwFix (State.txRetune
      (State.putb { t with tx := { t.tx with ncoArm := none } } F.TXD_NCO_CTL_PEND false) f)) s) := by
  rw [on_txdNcoRetuneAt hon, if_pos (by rw [h]; rfl)]
  unfold State.txNcoFire
  simp only [h, ht]

theorem does_txGainApply (hon : s.on = true) {k g b : Nat} {l : List (Nat × Nat × Nat)} (h : s.tx.gains = (k, g, b) :: l) :
    exec .txGainApply s = .next (State.follow ((s.reachAbs (gridAt k)).putb F.TXD_GAIN_BO (b == 13014)) s) := by
  rw [on_txGainApply hon]
  unfold State.gainApply
  simp only [h]

theorem does_txChainRestart (hon : s.on = true) {r : TxRestart} {rs : List TxRestart} (h : s.tx.restarts = r :: rs) :
    exec .txChainRestart s = .next (State.follow (State.txRestartDo { s with tx := { s.tx with restarts := rs } } r) s) := by
  rw [on_txChainRestart hon]
  unfold State.txRestartFire
  simp only [h]

/-- A changed filter bandwidth restarts every chain that is up and not retired (R165, R496). -/
theorem does_txaCtlWrite (hon : s.on = true) (src : Source) (v : Word) {t u : State} (ht : s.touch src = t)
    (ho : s.opens src F.TXA_CTL_FILT_BW.addr v = true) (hu : t.plain F.TXA_CTL_FILT_BW.addr v.toNat = u)
    (h : u.get F.TXA_CTL_FILT_BW ≠ t.get F.TXA_CTL_FILT_BW) :
    exec (.txaCtlWrite src v) s = .next (State.follow ((u.txRestartAt (maskOf (u.paths.filter
      (fun p => u.up (domTXQ (p / 8)) && !u.txRetired p))) u.restartInstant true).cfgWritten) s) := by
  rw [on_txaCtlWrite hon, State.opens_Txa ho (by decide) (by decide) (by decide), ht]
  unfold State.writeTxa
  rw [if_pos (by decide)]
  unfold State.writeTxaCtl
  simp only [hu, if_neg h]

theorem does_txRetireWrite (hon : s.on = true) (src : Source) (half : Fin 2) (v : Word) {t : State} (ht : s.touch src = t)
    (ho : s.opens src (if half.val = 0 then F.TXA_RETIRE0_PATHS else F.TXA_RETIRE1_PATHS).addr v = true) :
    exec (.txRetireWrite src half v) s = .next (State.follow (t.txRetire half.val (maskAnd v.toNat (t.halfMask half.val))) s) := by
  rw [on_txRetireWrite hon]
  rcases half with ⟨h, hh⟩
  have d : h = 0 ∨ h = 1 := by omega
  rcases d with d | d
  · subst d
    rw [show ((if (⟨0,
        hh⟩ : Fin 2).val = 0 then F.TXA_RETIRE0_PATHS else F.TXA_RETIRE1_PATHS)) = F.TXA_RETIRE0_PATHS from rfl] at ho ⊢
    rw [State.opens_Txa ho (by decide) (by decide) (by decide), ht]
    unfold State.writeTxa
    rw [if_neg (by decide), if_neg (by decide), if_pos (by decide)]
  · subst d
    rw [show ((if (⟨1,
        hh⟩ : Fin 2).val = 0 then F.TXA_RETIRE0_PATHS else F.TXA_RETIRE1_PATHS)) = F.TXA_RETIRE1_PATHS from rfl] at ho ⊢
    rw [State.opens_Txa ho (by decide) (by decide) (by decide), ht]
    unfold State.writeTxa
    rw [if_neg (by decide), if_neg (by decide), if_neg (by decide), if_pos (by decide)]

theorem txdClr_write {src : Source} {t : State} {w : Word} (ht : s.touch src = t) (ho : s.opens src F.TXD_CNT_CLR_SAT.addr w = true) :
    s.busWrite src F.TXD_CNT_CLR_SAT.addr w = (t.iff (bitAt w.toNat 2) (fun t =>
      (((t.setWord 0x70064 0).setWord 0x70068 0).setWord 0x7006C 0).setWord 0x70074 0)).iff (bitAt w.toNat 1)
        (fun t => t.clearStep 0x70100 0x20 64) := by
  rw [State.opens_Txd ho (by decide) (by decide) (by decide), ht]
  unfold State.writeTxd
  rw [if_neg (by decide), if_neg (by decide), if_neg (by decide), if_neg (by decide), if_pos (by decide)]

theorem does_txdCntClrMute (hon : s.on = true) (src : Source) (v : Word) {t : State} {w : Word} (ht : s.touch src = t)
    (hw : fixBit v 2 = w) (ho : s.opens src F.TXD_CNT_CLR_SAT.addr w = true) (h : bitAt w.toNat 1 = false) :
    exec (.txdCntClrMute src v) s = .next (State.follow
      ((((t.setWord 0x70064 0).setWord 0x70068 0).setWord 0x7006C 0).setWord 0x70074 0) s) := by
  rw [on_txdCntClrMute hon, show fixBit v F.TXD_CNT_CLR_MUTE.lo = w from hw, txdClr_write ht ho, State.iff_not h,
    State.iff_of (by rw [← hw, bitAt_fixBit v (by decide)])]

theorem does_txdCntClrSat (hon : s.on = true) (src : Source) (v : Word) {t : State} {w : Word} (ht : s.touch src = t)
    (hw : fixBit v 1 = w) (ho : s.opens src F.TXD_CNT_CLR_SAT.addr w = true) (h : bitAt w.toNat 2 = false) :
    exec (.txdCntClrSat src v) s = .next (State.follow (t.clearStep 0x70100 0x20 64) s) := by
  rw [on_txdCntClrSat hon, show fixBit v F.TXD_CNT_CLR_SAT.lo = w from hw, txdClr_write ht ho, State.iff_not h,
    State.iff_of (by rw [← hw, bitAt_fixBit v (by decide)])]

/-- Every port is muted from the edge on (R163, R164). -/
theorem does_coexGntFall (hon : s.on = true) {e : Nat} {u : State} (h : s.pins.coexGnt = true) (he : tickUp s.tide.now = e)
    (hu : State.syncCoex { s with
      pins := { s.pins with coexGnt := false }
      tx := { s.tx with coexFall := some (s.tx.coexFall.getD (gridAt (gridFrom e))), coexLift := none } } = u) :
    exec .coexGntFall s = .next (State.follow (((u.put64 F.TXA_COEX_FALL_LO_STAMP F.TXA_COEX_FALL_HI_STAMP (stampOf e)).putb
      F.TXA_COEX_CTL_GNT_LOW true).raiseMs 0x0604 0 0) s) := by
  rw [on_coexGntFall hon, if_pos h]
  unfold State.coexFallEdge
  subst he hu
  cases s.tx.coexFall <;> rfl

/-- The mute lifts on the first sample at or after the edge plus RESUME_NS (R164). -/
theorem does_coexGntRise (hon : s.on = true) {f : Nat} (h : s.pins.coexGnt = false) (hf : s.tx.coexFall = some f) :
    exec .coexGntRise s = .next (State.follow (State.syncCoex (State.putb { s with
      pins := { s.pins with coexGnt := true }
      tx := { s.tx with coexLift := some (gridAt (gridFrom (tickUp s.tide.now + nsU (s.get F.TXA_COEX_CTL_RESUME_NS)))) } }
      F.TXA_COEX_CTL_GNT_LOW false)) s) := by
  rw [on_coexGntRise hon, h]
  unfold State.coexRiseEdge
  simp only [hf, Bool.false_eq_true, if_false, Option.isSome_some, if_true]

theorem does_coexMuteLift (hon : s.on = true) {l : Nat} {t : State} (h : s.tx.coexLift = some l) (ht : s.reachAbs l = t) :
    exec .coexMuteLift s = .next (State.follow { t with tx := { t.tx with coexFall := none, coexLift := none } } s) := by
  rw [on_coexMuteLift hon]
  unfold State.coexLiftNow
  simp only [h, ht]

theorem txCal_write {src : Source} {v : Word} {t : State} {w : Word} (ht : s.touch src = t) (hw : fixBit v 31 = w)
    (ho : s.opens src F.TXA_CAL_REQ_GO.addr w = true) :
    s.busWrite src F.TXA_CAL_REQ_GO.addr w = t.txCalReq (bitsAt w.toNat 0 5) (bitsAt w.toNat 8 8) := by
  rw [State.opens_Txa ho (by decide) (by decide) (by decide), ht]
  unfold State.writeTxa
  rw [if_neg (by decide), if_neg (by decide), if_neg (by decide), if_neg (by decide), if_pos (by decide),
      State.iff_of (by rw [← hw]; exact bitAt_fixBit v (by decide))]

theorem does_txCalReq (hon : s.on = true) (src : Source) (v : Word) {t : State} {w : Word} {m : Nat} (ht : s.touch src = t)
    (hw : fixBit v 31 = w) (ho : s.opens src F.TXA_CAL_REQ_GO.addr w = true) (hm : t.presentQuads (bitsAt w.toNat 8 8) = m)
    (h1 : m ≠ 0) (h2 : bitsAt w.toNat 0 5 % 16 ≠ 0) (h3 : t.tx.cal = none)
    (h4 : ∀ c, t.rx.cal = some c → maskAnd c.quads m = 0) :
    exec (.txCalReq src v) s = .next (State.follow
      ((State.put { t with tx := { t.tx with cal := some ⟨bitsAt w.toNat 0 5 % 16, m, t.aon + sU 1, none⟩ } } F.TXA_CAL_STAT_ACTIVE
        m).putb F.TXA_CAL_STAT_WAIT true) s) := by
  rw [on_txCalReq hon, hw, txCal_write ht hw ho]
  unfold State.txCalReq
  simp only [hm]
  rw [if_neg (by
    cases h : t.rx.cal with
    | none => simp [h1, h2, h3]
    | some c => simp [h1, h2, h3, h4 c h])]

/-- Also refused while a receive calibration is held or runs on one of the quads (R169). -/
theorem refuses_txCalReq (hon : s.on = true) (src : Source) (v : Word) {t : State} {w : Word} {m : Nat} (ht : s.touch src = t)
    (hw : fixBit v 31 = w) (ho : s.opens src F.TXA_CAL_REQ_GO.addr w = true) (hm : t.presentQuads (bitsAt w.toNat 8 8) = m)
    (h : m = 0 ∨ bitsAt w.toNat 0 5 % 16 = 0 ∨ t.tx.cal ≠ none ∨ ∃ c, t.rx.cal = some c ∧ maskAnd c.quads m ≠ 0) :
    exec (.txCalReq src v) s = .next (State.follow (t.raise 0x0602 0) s) := by
  rw [on_txCalReq hon, hw, txCal_write ht hw ho]
  unfold State.txCalReq
  simp only [hm]
  rw [if_pos (by
    rcases h with h | h | h | ⟨c, h, g⟩
    · simp [h]
    · simp [h]
    · simp [h]
    · simp [h, g])]; unfold State.txCalRefuse; rfl

theorem does_txCalStart (hon : s.on = true) {kind m w e : Nat} {u : State} (h : s.tx.cal = some ⟨kind, m, w, none⟩)
    (h1 : s.gapCovers m (txCalSpan kind) = true) (he : s.tide.now + txCalSpan kind = e)
    (hu : (State.putb { s with tx := { s.tx with cal := some ⟨kind, m, w, some (stampOf e)⟩ } }
      F.TXA_CAL_STAT_WAIT false).putb F.TXA_CAL_STAT_BUSY true = u) :
    exec .txCalStart s = .next (State.follow (u.each (u.pathsOf m) (fun x p => x.addMute ⟨3, x.tide.now, some e, some p⟩)) s) := by
  rw [on_txCalStart hon]
  unfold State.txCalStart
  simp only [h, h1, if_true, he, hu]

theorem does_txCalTimeout (hon : s.on = true) {kind m w : Nat} {t : State} (h : s.tx.cal = some ⟨kind, m, w, none⟩)
    (ht : s.elapseTo w = t) :
    exec .txCalTimeout s = .next (State.follow
      (((State.putb { t with tx := { t.tx with cal := none } } F.TXA_CAL_STAT_WAIT false).put F.TXA_CAL_STAT_ACTIVE 0).raise 0x0602
        0) s) := by
  rw [on_txCalTimeout hon]
  unfold State.txCalTimeout
  simp only [h, ht]
  unfold State.txCalRefuse; rfl

theorem does_txCalDone (hon : s.on = true) (fail limit : BitVec 64) {kind m w bad : Nat} {e : BitVec 64}
    {t v x y : State} {l : List Nat} (h : s.tx.cal = some ⟨kind, m, w, some e⟩) (ht : s.reach e = t) (hl : t.pathsOf m = l)
    (hb : maskOr (mask fail) (mask limit) = bad) (hv : t.txCalRun kind l (mask fail) = v)
    (hx : ((State.putb { v with tx := { v.tx with cal := none } } F.TXA_CAL_STAT_BUSY false).put F.TXA_CAL_STAT_ACTIVE 0).put
      F.TXA_CAL_STAT_FAIL (failBits (v.get F.TXA_CAL_STAT_FAIL) m bad) = x)
    (hy : (x.txRestartAt (maskOf l) (x.absOf e) false).raise 0x0601 0 = y) :
    exec (.txCalDone fail limit) s = .next (State.follow (if l.any (fun p => bitAt bad p) = true then y.raise 0x0603 0 else y) s) := by
  rw [on_txCalDone hon]
  unfold State.txCalDone
  have e2 : State.get { v with tx := { v.tx with cal := none } } F.TXA_CAL_STAT_FAIL = v.get F.TXA_CAL_STAT_FAIL := rfl
  simp only [h, ht, hl, hb, hv, e2, hx, hy]

theorem rb_write {src : Source} {v : Word} {t : State} {w : Word} (ht : s.touch src = t) (hw : fixBit v 31 = w)
    (ho : s.opens src F.TXA_RB_CTL_GO.addr w = true) :
    s.busWrite src F.TXA_RB_CTL_GO.addr w = (t.plain F.TXA_RB_CTL_GO.addr w.toNat).rbGo (bitsAt w.toNat 8 2) (bitsAt w.toNat 0 6) := by
  rw [State.opens_Txa ho (by decide) (by decide) (by decide), ht]
  unfold State.writeTxa
  rw [if_neg (by decide), if_neg (by decide), if_neg (by decide), if_neg (by decide), if_neg (by decide), if_pos (by decide),
      State.iff_of (by rw [← hw]; exact bitAt_fixBit v (by decide))]

theorem does_readbackGo (hon : s.on = true) (src : Source) (v : Word) {t u : State} {w : Word} (ht : s.touch src = t)
    (hw : fixBit v 31 = w) (ho : s.opens src F.TXA_RB_CTL_GO.addr w = true) (hu : t.plain F.TXA_RB_CTL_GO.addr w.toNat = u)
    (h : u.rbOff (bitsAt w.toNat 0 6) = false) :
    exec (.readbackGo src v) s = .next (State.follow
      { u with tx := { u.tx with readback := some (if bitsAt w.toNat 8 2 = 1 then 1 else 0, bitsAt w.toNat 0 6) } } s) := by
  rw [on_readbackGo hon, hw, rb_write ht hw ho, hu]
  unfold State.rbGo
  simp only [h, Bool.false_eq_true, if_false]

/-- A path that is off or retired: RB_REFUSED, and a pending read-back is gone (R171). -/
theorem refuses_readbackGo (hon : s.on = true) (src : Source) (v : Word) {t u : State} {w : Word} (ht : s.touch src = t)
    (hw : fixBit v 31 = w) (ho : s.opens src F.TXA_RB_CTL_GO.addr w = true) (hu : t.plain F.TXA_RB_CTL_GO.addr w.toNat = u)
    (h : u.rbOff (bitsAt w.toNat 0 6) = true) :
    exec (.readbackGo src v) s = .next (State.follow
      ((State.setBit { u with tx := { u.tx with readback := none } } 0x60050 6).syncIrq) s) := by
  rw [on_readbackGo hon, hw, rb_write ht hw ho, hu]
  unfold State.rbGo
  simp only [h, if_true]
  unfold State.rbRefuse; rfl

theorem does_readbackDone (hon : s.on = true) (v : BitVec 16) {k p : Nat} {t : State} (h : s.tx.readback = some (k, p))
    (ht : ({ s with tx := { s.tx with readback := none } } : State) = t) (h1 : t.rbOff p = false) :
    exec (.readbackDone v) s = .next (State.follow (((((t.putb F.TXA_RB_RES_VALID true).putb F.TXA_RB_RES_NEW true).incWrap
      F.TXA_RB_RES_SEQ).put F.TXA_RB_RES_PATH p).puti F.TXA_RB_RES_VALUE v.toInt) s) := by
  rw [on_readbackDone hon]
  unfold State.rbDone
  simp only [h, ht, h1, Bool.false_eq_true, if_false]

theorem dpdCfg_addr (i : Fin 33) :
    (if i.val = 32 then F.DPD_XFADE_LEN.addr else (F.DPD_TERM_EN i.val).addr) = 0x80004 ∧ i.val = 32 ∨
    (if i.val = 32 then F.DPD_XFADE_LEN.addr else (F.DPD_TERM_EN i.val).addr) = 0x80100 + 4 * i.val ∧ i.val ≠ 32 := by
  by_cases c : i.val = 32
  · left; rw [if_pos c]; exact ⟨by decide, c⟩
  · right; rw [if_neg c]; refine ⟨?_, c⟩
    simp only [F.DPD_TERM_EN]
    have := i.isLt
    omega

/-- With the chains stopped a basis word of legal ranges, or XFADE, is written (R175). -/
theorem does_dpdCfgWrite (hon : s.on = true) (src : Source) (i : Fin 33) (v : Word) {t : State} (ht : s.touch src = t) {a : Nat}
    (ha : (if i.val = 32 then F.DPD_XFADE_LEN.addr else (F.DPD_TERM_EN i.val).addr) = a) (ho : s.opens src a v = true)
    (h : t.flag F.TXD_CTL_RUN = false) (h2 : i.val = 32 ∨ termOk v.toNat = true) :
    exec (.dpdCfgWrite src i v) s = .next (State.follow (t.plain a v.toNat) s) := by
  have e := dpdCfg_addr i
  rw [ha] at e
  have x : F.DPD_XFADE_LEN.addr = 0x80004 := by decide
  rw [on_dpdCfgWrite hon, ha, State.opens_Dpd ho (by omega) (by omega) (by simp only [evtAddr]; omega), ht]
  unfold State.writeDpd
  rw [if_pos (by omega), h, if_neg (by
    rcases h2 with h2 | h2
    · simp; intro c; omega
    · simp [h2])]

/-- Otherwise it is refused (R175). -/
theorem refuses_dpdCfgWrite (hon : s.on = true) (src : Source) (i : Fin 33) (v : Word) {t : State} (ht : s.touch src = t) {a : Nat}
    (ha : (if i.val = 32 then F.DPD_XFADE_LEN.addr else (F.DPD_TERM_EN i.val).addr) = a) (ho : s.opens src a v = true)
    (h : t.flag F.TXD_CTL_RUN = true ∨ (i.val ≠ 32 ∧ termOk v.toNat = false)) :
    exec (.dpdCfgWrite src i v) s = .next (State.follow ((t.setEvt 0x0809 0).raiseMs 0x0809 0 0) s) := by
  have e := dpdCfg_addr i
  rw [ha] at e
  have x : F.DPD_XFADE_LEN.addr = 0x80004 := by decide
  rw [on_dpdCfgWrite hon, ha, State.opens_Dpd ho (by omega) (by omega) (by simp only [evtAddr]; omega), ht]
  unfold State.writeDpd
  rw [if_pos (by omega), if_pos (by
    rcases h with h | h
    · simp [h]
    · right; exact ⟨by omega, h.2⟩)]; unfold State.dpdReject; rfl

theorem does_dpdPctlWrite (hon : s.on = true) (src : Source) (p : Fin 64) (v : Word) {t : State} (ht : s.touch src = t)
    (ho : s.opens src (F.DPD_P_CTL_ADAPT_EN p.val).addr v = true) :
    exec (.dpdPctlWrite src p v) s = .next (State.follow
      (((t.bypassWrite p.val (bitAt v.toNat 0)).plain (F.DPD_P_CTL_ADAPT_EN p.val).addr v.toNat).adaptEnWrite p.val
        (t.flag (F.DPD_P_CTL_ADAPT_EN p.val)) (bitAt v.toNat 1)) s) := by
  have hp := p.isLt
  have e : (F.DPD_P_CTL_ADAPT_EN p.val).addr = 0x81000 + 0x20 * p.val := by simp only [F.DPD_P_CTL_ADAPT_EN]; omega
  rw [on_dpdPctlWrite hon, State.opens_Dpd ho (by rw [e]; omega) (by rw [e]; omega) (by rw [e]; simp only [evtAddr]; omega), ht]
  unfold State.writeDpd
  have x1 : F.DPD_XFADE_LEN.addr = 0x80004 := by decide
  have x2 : F.DPD_SWAP_CTL_GO.addr < 0x81000 := by decide
  have x3 : F.DPD_CNT_CLR_PATH.addr < 0x81000 := by decide
  rw [if_neg (by omega), if_neg (by omega), if_neg (by omega), if_pos (by omega)]
  have y : ((F.DPD_P_CTL_ADAPT_EN p.val).addr - 0x81000) / 0x20 = p.val := by omega
  simp only [y]

theorem dpdWindow {t : State} {src : Source} {p bank term part a : Nat} {v : Word} {s : State} (ht : s.touch src = t)
    (e : a = 0x2800000 + 0x800 * p + 0x100 * bank + 8 * term + 4 * part) (b2 : bank < 8) (b1 : p < 64)
    (b3 : term < 32) (b4 : part < 2) (hp : t.hasPath p = true) (hl : t.srcLevel src true ≠ 0) (hd : t.up domDPD = true) :
    s.busWrite src a v = t.dpdBankWrite a v.toNat := by
  have q1 : (a - 0x2800000) / 0x800 = p := by omega
  have hw : t.window a = 4 := by
    unfold State.window
    rw [if_neg (by omega), if_neg (by omega), if_neg (by omega), if_pos (by omega), q1, if_pos hp]
  have q3 : a / 4 * 4 = a := by omega
  have hv : t.windowLive 4 a = true := by unfold State.windowLive; exact hd
  unfold State.busWrite
  simp only [ht, q3, hw, hv, if_neg hl, if_true]
  rw [if_pos (by decide)]
  unfold State.windowWrite
  simp only

theorem dpdFilled_dpd (t : State) (a v p b : Nat) : ((t.setMemWord a v).dpdFilled p b).dpd = t.dpd := by
  rw [(State.dpdFilled_moves _ p b).dpd (by decide), (State.setMemWord_moves t a v).dpd (by decide)]

/-- A bank that is not in use takes the word, and is no longer empty (R178, R179). -/
theorem does_dpdBankWrite (hon : s.on = true) (src : Source) (p : Fin 64) (bank : Fin 8) (term : Fin 32) (part : Fin 2) (v : Word)
    {t : State} (ht : s.touch src = t) (hp : t.hasPath p.val = true) (hl : t.srcLevel src true ≠ 0) (hd : t.up domDPD = true)
    (h : t.dpdInUse p.val bank.val = false) (hc : (t.dpdPath p.val).capture = none) :
    exec (.dpdBankWrite src p bank term part v) s = .next (State.follow
      ((t.setMemWord (dpdAddr p.val bank.val term.val + 4 * part.val) (v.toNat % 2 ^ 24)).dpdFilled p.val bank.val) s) := by
  have e : dpdAddr p.val bank.val term.val + 4 * part.val = 0x2800000 + 0x800 * p.val + 0x100 * bank.val + 8 * term.val + 4 * part.val := by
    unfold dpdAddr; omega
  have b1 := p.isLt
  have b2 := bank.isLt
  have b3 := term.isLt
  have b4 := part.isLt
  rw [on_dpdBankWrite hon]
  generalize dpdAddr p.val bank.val term.val + 4 * part.val = a at e ⊢
  have q1 : (a - 0x2800000) / 0x800 = p.val := by omega
  have q2 : (a - 0x2800000) / 0x100 % 8 = bank.val := by omega
  rw [dpdWindow ht e b2 b1 b3 b4 hp hl hd]
  unfold State.dpdBankWrite
  simp only [q1, q2, hp, h, Bool.true_eq_false, Bool.false_eq_true, if_false]
  have hz : State.dpdPath ((t.setMemWord a (v.toNat % 2 ^ 24)).dpdFilled p.val bank.val) p.val = t.dpdPath p.val := by
    unfold State.dpdPath; rw [dpdFilled_dpd]
  rw [hz, hc]

/-- A bank in use ignores it: ACTWR_CNT counts (R178). -/
theorem bars_dpdBankWrite (hon : s.on = true) (src : Source) (p : Fin 64) (bank : Fin 8) (term : Fin 32) (part : Fin 2) (v : Word)
    {t : State} (ht : s.touch src = t) (hp : t.hasPath p.val = true) (hl : t.srcLevel src true ≠ 0) (hd : t.up domDPD = true)
    (h : t.dpdInUse p.val bank.val = true) :
    exec (.dpdBankWrite src p bank term part v) s = .next (State.follow ((t.inc F.DPD_ACTWR_CNT_COUNT).raiseMs 0x0801 0 0) s) := by
  have e : dpdAddr p.val bank.val term.val + 4 * part.val = 0x2800000 + 0x800 * p.val + 0x100 * bank.val + 8 * term.val + 4 * part.val := by
    unfold dpdAddr; omega
  have b1 := p.isLt
  have b2 := bank.isLt
  have b3 := term.isLt
  have b4 := part.isLt
  rw [on_dpdBankWrite hon]
  generalize dpdAddr p.val bank.val term.val + 4 * part.val = a at e ⊢
  have q1 : (a - 0x2800000) / 0x800 = p.val := by omega
  have q2 : (a - 0x2800000) / 0x100 % 8 = bank.val := by omega
  rw [dpdWindow ht e b2 b1 b3 b4 hp hl hd]
  unfold State.dpdBankWrite
  simp only [q1, q2, hp, h, Bool.true_eq_false, if_false, if_true]

/-- The request acts on the first sample 2 µs later (R180). -/
theorem does_dpdSwapGo (hon : s.on = true) (src : Source) (v : Word) {t u : State} {w : Word} (ht : s.touch src = t)
    (hw : fixBit v 31 = w) (ho : s.opens src F.DPD_SWAP_CTL_GO.addr w = true) (hu : t.plain F.DPD_SWAP_CTL_GO.addr w.toNat = u) :
    exec (.dpdSwapGo src v) s = .next (State.follow { u with dpd := { u.dpd with requests := u.dpd.requests
      ++ [(gridFrom (u.tide.now + usU 2), bitsAt w.toNat 0 3, u.mask64 F.DPD_SWAP_MASK0_PATHS F.DPD_SWAP_MASK1_PATHS)] } } s) := by
  rw [on_dpdSwapGo hon, hw, State.opens_Dpd ho (by decide) (by decide) (by decide), ht]
  unfold State.writeDpd
  rw [if_neg (by decide), if_pos (by decide)]
  simp only [hu]
  rw [if_pos (by rw [← hw]; exact bitAt_fixBit v (by decide))]

theorem does_fadeComplete (hon : s.on = true) (p : Fin 64) {f : Fade} (h : (s.dpdPath p.val).fade = some f) :
    exec (.fadeComplete p) s = .next (State.follow ((s.fadeComplete p.val).refreshStart p.val) s) := by
  rw [on_fadeComplete hon, if_pos (by rw [h]; rfl)]

/-- A slot in which a capture span of a path that may be captured occurred (R186). -/
theorem does_orxSlot (hon : s.on = true) (k : Fin 8) (ri rq : Int) (fill : Fin 2049) (lost : BitVec 16) {p : Nat} {t u : State}
    (h1 : s.orxSlotOpen k.val = true) (h2 : s.orxNext k.val = some p)
    (ht : State.meter { s with dpd := { s.dpd with
        lastPath := sparseInsert s.dpd.lastPath k.val p
        lastSlot := sparseInsert s.dpd.lastSlot k.val s.aon
        nofbSlot := if s.flag (F.DPD_P_STAT_NOFB p) then sparseInsert s.dpd.nofbSlot p s.aon else s.dpd.nofbSlot } } 1
      ((2048 - fill.val) * 3125 / 6144) = t)
    (hu : (if lost.toNat = 0 then t else (t.add (F.TOP_SLIP_CNT_COUNT 1) lost.toNat).raiseMs 0x0002 (info2 1 k.val) (256 + k.val))
      = u) (h3 : u.orxCan p = true) :
    exec (.orxSlot k true ri rq fill lost) s = .next (State.follow ((u.setDpdPath p { u.dpdPath p with
      capture := some (u.dpdActive p, false, u.tide.now) }).lolTrack p ri rq) s) := by
  rw [on_orxSlot hon]
  unfold State.orxSlot
  rw [if_pos h1]
  simp only [h2, ht, hu, h3, Bool.and_self, if_true]

/-- No capture, or a path that cannot be captured now: the slot is counted as skipped (R186). -/
theorem skips_orxSlot (hon : s.on = true) (k : Fin 8) (found : Bool) (ri rq : Int) (fill : Fin 2049) (lost : BitVec 16) {p : Nat}
    {t u : State} (h1 : s.orxSlotOpen k.val = true) (h2 : s.orxNext k.val = some p)
    (ht : State.meter { s with dpd := { s.dpd with
        lastPath := sparseInsert s.dpd.lastPath k.val p
        lastSlot := sparseInsert s.dpd.lastSlot k.val s.aon
        nofbSlot := if s.flag (F.DPD_P_STAT_NOFB p) then sparseInsert s.dpd.nofbSlot p s.aon else s.dpd.nofbSlot } } 1
      ((2048 - fill.val) * 3125 / 6144) = t)
    (hu : (if lost.toNat = 0 then t else (t.add (F.TOP_SLIP_CNT_COUNT 1) lost.toNat).raiseMs 0x0002 (info2 1 k.val) (256 + k.val))
      = u) (h3 : (found && u.orxCan p) = false) :
    exec (.orxSlot k found ri rq fill lost) s = .next (State.follow (u.inc (F.DPD_P_REJ_SKIP p)) s) := by
  rw [on_orxSlot hon]
  unfold State.orxSlot
  rw [if_pos h1]
  simp only [h2, ht, hu, h3, Bool.false_eq_true, if_false]

/-- A capture that aligns: its delay is shown, DPD_ERR judged, and the bank updated where no result is under test (R188, R189,
R193). -/
theorem does_dpdSolveDone (hon : s.on = true) (p : Fin 64) (rms : Int) (corr : Fin 1001) (delay : Fin 2048) (nmse : BitVec 16)
    {x : DpdPath} {bank e : Nat} {b : Bool} {t u : State} (hx : s.dpdPath p.val = x) (h : x.capture = some (bank, b, e))
    (ht : s.setDpdPath p.val { x with capture := none } = t) (h1 : -(((100 * s.get F.DPD_CHECK_MIN_DB : Nat) : Int)) ≤ rms)
    (h2 : 500 ≤ corr.val) (hu : (t.alignGood p.val delay.val).dpdErr p.val nmse.toInt e = u)
    (h3 : (u.dpdPath p.val).applied = none) :
    exec (.dpdSolveDone p rms false corr delay nmse) s = .next (State.follow (u.solveUpdate p.val bank b nmse.toInt) s) := by
  rw [on_dpdSolveDone hon]
  unfold State.dpdSolve
  simp only [hx, h, ht, Bool.false_eq_true, if_false]
  rw [if_neg (Int.not_lt.mpr h1), if_neg (by omega)]
  simp only [hu, h3]

/-- The update under test made the result worse by more than REVERT_DB: it is reverted (R192). -/
theorem reverts_dpdSolveDone (hon : s.on = true) (p : Fin 64) (rms : Int) (corr : Fin 1001) (delay : Fin 2048) (nmse : BitVec 16)
    {x : DpdPath} {bank e : Nat} {b : Bool} {old : Int} {t u : State} (hx : s.dpdPath p.val = x) (h : x.capture = some (bank, b, e))
    (ht : s.setDpdPath p.val { x with capture := none } = t) (h1 : -(((100 * s.get F.DPD_CHECK_MIN_DB : Nat) : Int)) ≤ rms)
    (h2 : 500 ≤ corr.val) (hu : (t.alignGood p.val delay.val).dpdErr p.val nmse.toInt e = u)
    (h3 : (u.dpdPath p.val).applied = some (bank, old)) (h4 : u.dpdActive p.val = bank)
    (h5 : old + ((10 * u.get F.DPD_CHECK_REVERT_DB : Nat) : Int) < nmse.toInt) :
    exec (.dpdSolveDone p rms false corr delay nmse) s = .next (State.follow (u.solveRevert p.val bank nmse.toInt) s) := by
  rw [on_dpdSolveDone hon]
  unfold State.dpdSolve
  simp only [hx, h, ht, Bool.false_eq_true, if_false]
  rw [if_neg (Int.not_lt.mpr h1), if_neg (by omega)]
  simp only [hu, h3]
  rw [if_pos ⟨trivial, h4⟩, if_pos h5]

/-- Too little power, an over-range, a correlation below one half: the capture is rejected (R187, R188). -/
theorem rejects_dpdSolveDone (hon : s.on = true) (p : Fin 64) (rms : Int) (ovr : Bool) (corr : Fin 1001) (delay : Fin 2048)
    (nmse : BitVec 16) {x : DpdPath} {bank e : Nat} {b : Bool} {t : State} (hx : s.dpdPath p.val = x)
    (h : x.capture = some (bank, b, e)) (ht : s.setDpdPath p.val { x with capture := none } = t)
    (h1 : rms < -(((100 * s.get F.DPD_CHECK_MIN_DB : Nat) : Int)) ∨ ovr = true ∨ corr.val < 500) :
    exec (.dpdSolveDone p rms ovr corr delay nmse) s = .next (State.follow
      (if rms < -(((100 * s.get F.DPD_CHECK_MIN_DB : Nat) : Int)) then t.inc (F.DPD_P_REJ_LOWPWR p.val)
       else if ovr then t.inc (F.DPD_P_REJ_ORX_OVR p.val) else t.alignFail p.val) s) := by
  rw [on_dpdSolveDone hon]
  unfold State.dpdSolve
  simp only [hx, h, ht]
  by_cases c1 : rms < -(((100 * s.get F.DPD_CHECK_MIN_DB : Nat) : Int))
  · rw [if_pos c1, if_pos c1]
  · rw [if_neg c1, if_neg c1]
    by_cases c2 : ovr = true
    · rw [if_pos c2, if_pos c2]
    · rw [if_neg c2, if_neg c2, if_pos ((h1.resolve_left c1).resolve_left c2)]

/-- A waiting refresh of the active bank starts its fade; the coefficients it leaves become the undo copy (R190). -/
theorem does_refreshFadeStart (hon : s.on = true) (p : Fin 64) {x : DpdPath} {bank n : Nat} {coef : List Cx}
    (hx : s.dpdPath p.val = x) (h : x.refresh = some ⟨bank, coef, false⟩) (h1 : s.dpdActive p.val = bank) (h2 : x.fade = none)
    (h3 : s.flag (F.DPD_P_STAT_QV p.val) = false) (h4 : s.fadeLen = n) (h5 : n ≠ 0) :
    exec (.refreshFadeStart p) s = .next (State.follow ((s.setDpdPath p.val { x with
      refresh := none
      undo := sparseInsert x.undo bank (s.dpdBank p.val bank)
      fade := some ⟨bank, bank, s.nextTxK, n, s.dpdBank p.val bank, coef⟩ }).putb (F.DPD_P_STAT_FADE p.val) true) s) := by
  rw [on_refreshFadeStart hon]
  unfold State.refreshStart
  simp only [hx, h, h1, h2, h3, h4, h5, ne_eq, not_true_eq_false, Option.isSome_none, Bool.or_false, Bool.false_eq_true, if_false]

theorem does_orxSliceExchange (hon : s.on = true) (k : Fin 8) (q : Fin 2) (slice : Fin 17) {a b : OrxAdc} {sp o : Nat} {os : List Nat}
    {t : State} (h1 : s.hasQuad k.val = true) (ha : s.orxAdc k.val q.val = a)
    (ht : s.setOrxAdc k.val q.val { a with resid := setNth a.resid slice.val 0 } = t) (hb : t.orxAdc k.val q.val = b)
    (h2 : b.spare = some sp) (h3 : b.order = o :: os) :
    exec (.orxSliceExchange k q slice false false) s = .next (State.follow
      (t.setOrxAdc k.val q.val { b with order := os ++ [sp], spare := some o }) s) := by
  rw [on_orxSliceExchange hon, if_pos h1]
  unfold State.orxExchange
  simp only [ha, Bool.false_eq_true, if_false, ht, Bool.false_or, hb, h2, h3, show decide (3 ≤ 0) = false from rfl]

theorem does_orxSliceExchange_trim (hon : s.on = true) (k : Fin 8) (q : Fin 2) (slice : Fin 17) {a : OrxAdc}
    {t : State} (h1 : s.hasQuad k.val = true) (ha : s.orxAdc k.val q.val = a)
    (ht : s.setOrxAdc k.val q.val { a with resid := setNth a.resid slice.val 0 } = t) :
    exec (.orxSliceExchange k q slice true false) s = .next (State.follow (t.orxFail k.val q.val slice.val) s) := by
  rw [on_orxSliceExchange hon, if_pos h1]
  unfold State.orxExchange
  simp only [ha, Bool.false_eq_true, if_false, ht, Bool.true_or, if_true]

theorem dpdClr_write {src : Source} {t : State} {w : Word} (ht : s.touch src = t) (ho : s.opens src F.DPD_CNT_CLR_PATH.addr w = true) :
    s.busWrite src F.DPD_CNT_CLR_PATH.addr w = ((t.iff (bitAt w.toNat 2) (fun t => (t.clearStep 0x81010 0x20 64).clearStep 0x81014 0x20
      64)).iff (bitAt w.toNat 1) (fun t => t.put F.DPD_DROP_CNT_COUNT 0)).iff (bitAt w.toNat 0)
        (fun t => t.put F.DPD_ACTWR_CNT_COUNT 0) := by
  rw [State.opens_Dpd ho (by decide) (by decide) (by decide), ht]
  unfold State.writeDpd
  rw [if_neg (by decide), if_neg (by decide), if_pos (by decide)]

theorem does_dpdCntClrPath (hon : s.on = true) (src : Source) (v : Word) {t : State} {w : Word} (ht : s.touch src = t)
    (hw : fixBit v 2 = w) (ho : s.opens src F.DPD_CNT_CLR_PATH.addr w = true) (h1 : bitAt w.toNat 1 = false)
    (h0 : bitAt w.toNat 0 = false) :
    exec (.dpdCntClrPath src v) s = .next (State.follow ((t.clearStep 0x81010 0x20 64).clearStep 0x81014 0x20 64) s) := by
  rw [on_dpdCntClrPath hon, show fixBit v F.DPD_CNT_CLR_PATH.lo = w from hw, dpdClr_write ht ho, State.iff_not h0,
      State.iff_not h1,
    State.iff_of (by rw [← hw, bitAt_fixBit v (by decide)])]

theorem does_dpdCntClrDrop (hon : s.on = true) (src : Source) (v : Word) {t : State} {w : Word} (ht : s.touch src = t)
    (hw : fixBit v 1 = w) (ho : s.opens src F.DPD_CNT_CLR_PATH.addr w = true) (h2 : bitAt w.toNat 2 = false)
    (h0 : bitAt w.toNat 0 = false) :
    exec (.dpdCntClrDrop src v) s = .next (State.follow (t.put F.DPD_DROP_CNT_COUNT 0) s) := by
  rw [on_dpdCntClrDrop hon, show fixBit v F.DPD_CNT_CLR_DROP.lo = w from hw, dpdClr_write ht ho, State.iff_not h0,
    State.iff_of (by rw [← hw, bitAt_fixBit v (by decide)]), State.iff_not h2]

theorem does_dpdCntClrActwr (hon : s.on = true) (src : Source) (v : Word) {t : State} {w : Word} (ht : s.touch src = t)
    (hw : fixBit v 0 = w) (ho : s.opens src F.DPD_CNT_CLR_PATH.addr w = true) (h2 : bitAt w.toNat 2 = false)
    (h1 : bitAt w.toNat 1 = false) :
    exec (.dpdCntClrActwr src v) s = .next (State.follow (t.put F.DPD_ACTWR_CNT_COUNT 0) s) := by
  rw [on_dpdCntClrActwr hon, show fixBit v F.DPD_CNT_CLR_ACTWR.lo = w from hw, dpdClr_write ht ho,
    State.iff_of (by rw [← hw, bitAt_fixBit v (by decide)]), State.iff_not h1, State.iff_not h2]

end Sys2Proof.Machine
end

