-- ==== Sys2Proof/Tests/Wide.lean ====
section
/-! SUPPORT. States on which the tests show that the hypotheses of the statements are met. -/

namespace Sys2Proof.Machine

/-- A list of fields put, one after the other. -/
def State.puts (s : State) (l : List (Field × Nat)) : State := l.foldl (fun t e => t.put e.1 e.2) s

/-- The device with every domain up, in Run, with its clocks locked, its links up, Pilot ready and every port at Vendor. -/
def wide : State :=
  { clk := { everLocked := true, gatesOpen := true }
    boot := { store := { applied := true } }
    power := { strapWait := false, latched := true, nvmReady := true }
    regs := [
      (0x10000, 0xC4), (0x10010, 0xFFFFFFFF), (0x10014, 0x3F), -- PWR: Run, every domain up
      (0x20004, 0xA0), (0x20024, 1), (0x20034, 1), -- CLK: the CPLL and both synthesisers locked
      (0x20064, 2), (0x2006C, 2), (0x20074, 2), (0x2007C, 2), -- the link PLLs locked
      (0x50000, 1), (0x70000, 1), -- RXD, TXD: RUN
      (0xB0100, 0x70000000), (0xB0140, 0x70000000), (0xD0100, 0x70000000), (0xD0140, 0x70000000), -- FHL, RING: UP
      (0x140000, 0x80000000), (0x160008, 0x10000000), (0x181000, 0x80000000), -- Hold ready, flash writes permitted, Pilot ready
      (0x190104, 3), (0x190184, 3), (0x190204, 3), (0x190284, 3)] } -- SEC: Vendor on every port

end Sys2Proof.Machine
end

