-- ==== Sys2Proof/Tests/Meets1.lean ====
section
/-! SUPPORT. States and operands that meet the hypotheses of the statements about the commands, clause by clause: HostPortAndRegisterCommands to
Predistortion. -/

namespace Sys2Proof.Machine

set_option Elab.async false

theorem noneSettles {t : State} {ts : List Nat} {p : Stamp → Bool} (h : ∀ m ∈ ts, (t.syn m).settleEnd = none) :
    ∀ m ∈ ts, ∀ e, (t.syn m).settleEnd = some e → p e = false := by
  intro m hm e he
  rw [h m hm] at he
  cases he

/-- Each clause of HostPortAndRegisterCommands has a state and operands that meet its hypotheses. -/
theorem meets_HostPortAndRegisterCommands :
  -- does_spiRead
  (∃ (s : State) (addr : BitVec 40) (n : Nat) (l : List Byte) (t : State),
    State.spiRead n s addr.toNat = (l, t) ∧
    s.on = true ∧
    addr.toNat % 4 = 0) ∧
  -- does_spiWrite
  (∃ (s : State) (addr : BitVec 40),
    s.on = true ∧
    addr.toNat % 4 = 0) ∧
  -- does_spiTransactionIgnored
  (∃ (s : State) (cmd : Byte) (addr : BitVec 40),
    s.on = true ∧
    (addr.toNat % 4 ≠ 0 ∨ (cmd.toNat ≠ 0x02 ∧ cmd.toNat ≠ 0x0B))) ∧
  -- does_spiCsAbort
  (∃ (s : State) (addr : BitVec 40),
    s.on = true ∧
    addr.toNat % 4 = 0) ∧
  -- does_registerWrite
  (∃ (s : State) (src : Source) (addr : BitVec 40) (v : Word),
    s.on = true ∧
    addr.toNat % 4 = 0 ∧
    s.opens src addr.toNat v = true) ∧
  -- does_registerWrite_window
  (∃ (s : State) (src : Source) (addr : BitVec 40) (t : State) (n : Nat),
    s.touch src = t ∧
    t.window addr.toNat = n ∧
    s.on = true ∧
    addr.toNat % 4 = 0 ∧
    n ≠ 0 ∧
    t.srcLevel src true ≠ 0 ∧
    t.windowLive n addr.toNat = true) ∧
  -- bars_registerWrite_window
  (∃ (s : State) (src : Source) (addr : BitVec 40) (t : State),
    s.touch src = t ∧
    s.on = true ∧
    addr.toNat % 4 = 0 ∧
    t.window addr.toNat ≠ 0 ∧
    t.srcLevel src true = 0) ∧
  -- bars_registerWrite
  (∃ (s : State) (src : Source) (addr : BitVec 40) (v : Word) (t : State) (r : RegRow),
    s.touch src = t ∧
    findReg addr.toNat = some r ∧
    s.on = true ∧
    addr.toNat % 4 = 0 ∧
    t.window addr.toNat = 0 ∧
    t.regAbsent addr.toNat = false ∧
    srcCrane src = false ∧
    t.writeDenied src addr.toNat v.toNat r = true) ∧
  -- does_evtW1cWrite
  (∃ (s : State) (src : Source) (block : Fin 27) (v : Word),
    s.on = true ∧
    s.opens src (evtAddr block.val) v = true) ∧
  -- does_loHiPairRead
  (∃ (s : State) (src : Source) (addr : BitVec 40) (hi : Bool) (x : Nat) (t : State),
    s.busRead src (addr.toNat + if hi then 4 else 0) = (x, t) ∧
    s.on = true) := by
  refine ⟨?_, ?_, ?_, ?_, ?_, ?_, ?_, ?_, ?_, ?_⟩
  · exact (
    let s : State := wide
    let addr : BitVec 40 := 0
    let n : Nat := 0
    let l : List Byte := (State.spiRead n s addr.toNat).1
    let t : State := (State.spiRead n s addr.toNat).2
    ⟨s, addr, n, _, _, (Prod.eta _).symm, by decide +kernel⟩)
  · exact ⟨wide, 0, by decide +kernel⟩
  · exact ⟨wide, 0, 0, by decide +kernel⟩
  · exact ⟨wide, 0, by decide +kernel⟩
  · exact ⟨wide, .jtag, 0x20000, 0, by decide +kernel⟩
  · exact ⟨wide, .jtag, 0x1000000000, _, _, rfl, rfl, by decide +kernel⟩
  · exact ⟨(State.puts wide [(F.SEC_P_STAT_LEVEL 0, 0)] : State), .port 0, 0x1000000000, _, rfl, by decide +kernel⟩
  · exact (
    let s : State := (State.puts wide [(F.SEC_P_STAT_LEVEL 0, 0)] : State)
    let src : Source := .port 0
    let addr : BitVec 40 := 0x20000
    let v : Word := 0
    let t : State := s.touch src
    let r : RegRow := Option.get (findReg addr.toNat) (by decide +kernel)
    ⟨s, src, addr, v, _, r, rfl, (Option.some_get _).symm, by decide +kernel⟩)
  · exact ⟨wide, .jtag, 0, 0, by decide +kernel⟩
  · exact (
    let s : State := wide
    let src : Source := .jtag
    let addr : BitVec 40 := 0
    let hi : Bool := true
    let x : Nat := (s.busRead src (addr.toNat + if hi then 4 else 0)).1
    let t : State := (s.busRead src (addr.toNat + if hi then 4 else 0)).2
    ⟨s, src, addr, hi, _, _, (Prod.eta _).symm, by decide +kernel⟩)

/-- Each clause of ResetsAndBootSteps has a state and operands that meet its hypotheses. -/
theorem meets_ResetsAndBootSteps :
  -- does_porNRelease
  (∃ (s : State),
    s.power.por = true ∧
    s.power.off = false ∧
    s.power.rst = false ∧
    s.power.sup = false) ∧
  -- does_supervisorRelease
  (∃ (s : State),
    s.power.sup = true ∧
    s.power.por = false ∧
    s.power.rst = false) ∧
  -- does_resetNRelease
  (∃ (s : State),
    s.power.rst = true ∧
    s.power.off = false ∧
    s.power.por = false ∧
    s.power.sup = false) ∧
  -- does_resetNAssert
  (∃ (s : State),
    s.power.off = false ∧
    s.power.por = false ∧
    s.power.sup = false) ∧
  -- does_nvmNotBusy
  (∃ (s : State),
    s.on = true) ∧
  -- does_strapLatch
  (∃ (s : State) (sel : BitVec 2) (chip : BitVec 2) (t : State) (u : State),
    s.elapseTo (s.boot.t0 + usU 10) = t ∧
    ({ t with
 power := { t.power with strapWait := false, latched := true }
 boot := { t.boot with bootSel := sel.toNat, chipId := chip.toNat } } : State) = u ∧
    s.on = true ∧
    s.power.strapWait = true ∧
    s.power.latched = false ∧
    sel.toNat < 2) ∧
  -- does_strapLatch_dryDock
  (∃ (s : State) (sel : BitVec 2) (chip : BitVec 2) (t : State) (u : State),
    s.elapseTo (s.boot.t0 + usU 10) = t ∧
    ({ t with
 power := { t.power with strapWait := false, latched := true }
 boot := { t.boot with bootSel := 2, chipId := chip.toNat } } : State) = u ∧
    s.on = true ∧
    s.power.strapWait = true ∧
    s.power.latched = false ∧
    sel.toNat = 2) ∧
  -- does_imageLoaded
  (∃ (s : State) (answers : BitVec 2) (a : State) (t : State) (u : State) (l : List Nat),
    ({ s with boot := { s.boot with device1 := bitAt answers.toNat 1 } } : State) = a ∧
    a.syncTags.tallyScan.rollback = t ∧
    t.each [0, 1] (fun x n => if (x.slotTag n).tag = 2 then x.setFail n 9 else x) = u ∧
    u.slotOrder = l ∧
    s.on = true ∧
    s.power.latched = true ∧
    s.power.nvmReady = true ∧
    s.boot.goal = 0 ∧
    s.boot.bootSel < 2 ∧
    s.flag F.PWR_STATE_BUSY = true ∧
    s.power.trans = none) ∧
  -- does_cpllFirstLock
  (∃ (s : State) (t : State),
    s.cpllLocked.feClear feCPLL = t ∧
    s.on = true ∧
    s.up domCPLL = true ∧
    s.clk.everLocked = false ∧
    s.flag F.CLK_CPLL_STAT_REF_OK = true ∧
    s.get F.CLK_CPLL_STAT_MODE ≤ 1) ∧
  -- does_startupCalDone
  (∃ (s : State) (rxFail : BitVec 64) (txFail : BitVec 64) (txLimit : BitVec 64) (slices : List (Fin 64 × Fin 2 × Fin 9)) (t :
   State) (u : State) (x : State),
    s.rxCalRun 31 s.paths (mask rxFail) (slices.map (fun e => (e.1.val, e.2.1.val, e.2.2.val))) = t ∧
    t.txCalRun 15 t.paths (mask txFail) = u ∧
    u.each (bitList 64 (mask txLimit)) (fun v p =>
 if bitAt (mask txFail) p || !v.hasPath p then v else (v.putb (F.TXA_P_STAT_LOL_RAIL p) true).raise 0x0606 p) = x ∧
    s.on = true ∧
    s.boot.goal ≠ 0 ∧
    s.get F.BOOT_STAT_PHASE = 10 ∧
    s.losLocked = true ∧
    s.boot.calDone = false) ∧
  -- does_confirmTimeout
  (∃ (s : State),
    s.on = true ∧
    s.flag F.BOOT_STAT_TRIAL = true ∧
    s.get F.BOOT_SLIP_CTL_CONF_S ≠ 0) ∧
  -- does_deviceSelfReset
  (∃ (s : State) (a : Nat),
    s.boot.selfReset = some a ∧
    s.on = true) := by
  refine ⟨?_, ?_, ?_, ?_, ?_, ?_, ?_, ?_, ?_, ?_, ?_, ?_⟩
  · exact ⟨({ wide with power := { wide.power with por := true } } : State), by decide +kernel⟩
  · exact ⟨({ wide with power := { wide.power with sup := true } } : State), by decide +kernel⟩
  · exact ⟨({ wide with power := { wide.power with rst := true } } : State), by decide +kernel⟩
  · exact ⟨wide, by decide +kernel⟩
  · exact ⟨wide, by decide +kernel⟩
  · exact ⟨({} : State), 0, 0, _, _, rfl, rfl, by decide +kernel⟩
  · exact ⟨({} : State), 2, 0, _, _, rfl, rfl, by decide +kernel⟩
  · exact ⟨wide, 0, _, _, _, _, rfl, rfl, rfl, rfl, by decide +kernel⟩
  · exact ⟨(State.puts { wide with clk := { wide.clk with everLocked := false } } [(F.CLK_CPLL_STAT_MODE, 1)] : State), _, rfl,
            by decide +kernel⟩
  · exact ⟨(State.puts { wide with boot := { wide.boot with goal := 3 } } [(F.BOOT_STAT_PHASE, 10)] : State), 0, 0, 0, [], _, _, _,
            rfl, rfl, rfl, by decide +kernel⟩
  · exact ⟨(State.puts wide [(F.BOOT_STAT_TRIAL, 1)] : State), by decide +kernel⟩
  · exact (
    let s : State := ({ wide with boot := { wide.boot with selfReset := some 9 } } : State)
    let a : Nat := Option.get (s.boot.selfReset) (by decide +kernel)
    ⟨s, a, (Option.some_get _).symm, by decide +kernel⟩)

/-- Each clause of SlipwayAndTally has a state and operands that meet its hypotheses. -/
theorem meets_SlipwayAndTally :
  -- does_slipOpen
  (∃ (s : State) (src : Source) (v : Word) (t : State) (w : Word),
    s.touch src = t ∧
    fix v 0 4 1 = w ∧
    s.on = true ∧
    s.opens src F.BOOT_SLIP_CMD_OP.addr w = true ∧
    t.boot.slipOp = none ∧
    t.flashOpen = true) ∧
  -- does_slipWrite
  (∃ (s : State) (src : Source) (v : Word) (t : State) (w : Word),
    s.touch src = t ∧
    fix v 0 4 2 = w ∧
    s.on = true ∧
    s.opens src F.BOOT_SLIP_CMD_OP.addr w = true ∧
    t.boot.slipOp = none ∧
    t.boot.slipOpen = true ∧
    t.flashOpen = true) ∧
  -- refuses_slipWrite
  (∃ (s : State) (src : Source) (v : Word) (t : State) (w : Word),
    s.touch src = t ∧
    fix v 0 4 2 = w ∧
    s.on = true ∧
    s.opens src F.BOOT_SLIP_CMD_OP.addr w = true ∧
    (t.boot.slipOp ≠ none ∨ t.boot.slipOpen = false)) ∧
  -- does_slipClose
  (∃ (s : State) (src : Source) (v : Word) (t : State) (w : Word),
    s.touch src = t ∧
    fix v 0 4 3 = w ∧
    s.on = true ∧
    s.opens src F.BOOT_SLIP_CMD_OP.addr w = true ∧
    t.boot.slipOp = none ∧
    t.boot.slipOpen = true ∧
    t.flashOpen = true) ∧
  -- does_slipAbort
  (∃ (s : State) (src : Source) (v : Word) (t : State) (w : Word),
    s.touch src = t ∧
    fix v 0 4 4 = w ∧
    s.on = true ∧
    s.opens src F.BOOT_SLIP_CMD_OP.addr w = true) ∧
  -- does_slipConfirm
  (∃ (s : State) (src : Source) (v : Word) (t : State) (w : Word),
    s.touch src = t ∧
    fix v 0 4 5 = w ∧
    s.on = true ∧
    s.opens src F.BOOT_SLIP_CMD_OP.addr w = true ∧
    t.boot.slipOp = none ∧
    t.flag F.BOOT_STAT_TRIAL = true ∧
    t.flashOpen = true) ∧
  -- does_slipOpReserved
  (∃ (s : State) (src : Source) (v : Word) (t : State) (w : Word),
    s.touch src = t ∧
    fix v 0 4 (if 6 ≤ v.toNat % 16 then v.toNat % 16 else 0) = w ∧
    s.on = true ∧
    s.opens src F.BOOT_SLIP_CMD_OP.addr w = true) ∧
  -- does_slipOpComplete
  (∃ (s : State) (n : Nat) (t : State),
    State.putb { s with boot := { s.boot with slipOp := none } } F.BOOT_SLIP_STAT_BUSY false = t ∧
    s.on = true ∧
    s.boot.slipOp = some (2, n) ∧
    t.flashOpen = true ∧
    (t.slipSlot ≠ 1 ∨ t.boot.device1 = true)) ∧
  -- does_tallyProgramDone
  (∃ (s : State) (q : TallyQ) (qs : List TallyQ) (t : State),
    ({ s with tally := { s.tally with recs := s.tally.recs ++ [s.tallyRec q false] } } : State) = t ∧
    s.on = true ∧
    s.tally.phase = 1 ∧
    s.tally.queue = q :: qs ∧
    t.flashOpen = true) ∧
  -- drops_tallyProgramDone
  (∃ (s : State) (q : TallyQ) (qs : List TallyQ) (t : State),
    s.tallyMend = t ∧
    s.on = true ∧
    s.tally.phase = 1 ∧
    s.tally.queue = q :: qs) ∧
  -- does_tallyCommitDone
  (∃ (s : State) (q : TallyQ) (qs : List TallyQ) (t : State),
    ({ s with tally := { s.tally with
   recs := s.tally.recs.map (fun r =>
    if r.sector = s.tally.sector ∧ r.slot = s.tally.slot then { r with committed := true } else r)
   queue := qs, seq := (s.tally.seq + 1) % 2 ^ 32, phase := 0 } } : State) = t ∧
    s.on = true ∧
    s.tally.phase = 2 ∧
    s.tally.queue = q :: qs) ∧
  -- does_tallyEraseDone
  (∃ (s : State) (n : Nat),
    s.sectorAhead (s.tally.ahead + 1) = n ∧
    s.on = true ∧
    s.tally.erasing = true) ∧
  -- does_tallyAppendGo
  (∃ (s : State) (src : Source) (t : State) (b : List Byte) (n : Nat),
    s.touch src = t ∧
    (List.range 15).flatMap (fun w => leBytes 4 (t.word (0x1A0200 + 4 * w)).toNat) = b ∧
    le b 14 2 = n ∧
    s.on = true ∧
    s.opens src F.TALLY_APPEND_GO_GO.addr 1 = true) := by
  refine ⟨?_, ?_, ?_, ?_, ?_, ?_, ?_, ?_, ?_, ?_, ?_, ?_, ?_⟩
  · exact ⟨wide, .jtag, 0, _, _, rfl, rfl, by decide +kernel⟩
  · exact ⟨({ wide with boot := { wide.boot with slipOpen := true } } : State), .jtag, 0, _, _, rfl, rfl, by decide +kernel⟩
  · exact ⟨wide, .jtag, 0, _, _, rfl, rfl, by decide +kernel⟩
  · exact ⟨({ wide with boot := { wide.boot with slipOpen := true } } : State), .jtag, 0, _, _, rfl, rfl, by decide +kernel⟩
  · exact ⟨wide, .jtag, 0, _, _, rfl, rfl, by decide +kernel⟩
  · exact ⟨(State.puts wide [(F.BOOT_STAT_TRIAL, 1)] : State), .jtag, 0, _, _, rfl, rfl, by decide +kernel⟩
  · exact ⟨wide, .jtag, 0, _, _, rfl, rfl, by decide +kernel⟩
  · exact (
    let s : State := ({ wide with boot := { wide.boot with slipOp := some (2, 5) } } : State)
    let n : Nat := match s.boot.slipOp with | some (2, n) => n | _ => 0
    let t : State := State.putb { s with boot := { s.boot with slipOp := none } } F.BOOT_SLIP_STAT_BUSY false
    ⟨s, n, _, rfl, by decide +kernel⟩)
  · exact (
    let s : State := ({ wide with tally := { wide.tally with phase := 1, queue := [⟨0, 0x301, []⟩] } } : State)
    let q : TallyQ := match s.tally.queue with | q :: qs => q | _ => ⟨0, 0, []⟩
    let qs : List TallyQ := match s.tally.queue with | q :: qs => qs | _ => []
    let t : State := ({ s with tally := { s.tally with recs := s.tally.recs ++ [s.tallyRec q false] } } : State)
    ⟨s, q, qs, _, rfl, by decide +kernel⟩)
  · exact (
    let s : State := ({ wide with tally := { wide.tally with phase := 1, queue := [⟨0, 0x301, []⟩] } } : State)
    let q : TallyQ := match s.tally.queue with | q :: qs => q | _ => ⟨0, 0, []⟩
    let qs : List TallyQ := match s.tally.queue with | q :: qs => qs | _ => []
    let t : State := s.tallyMend
    ⟨s, q, qs, _, rfl, by decide +kernel⟩)
  · exact (
    let s : State := ({ wide with tally := { wide.tally with phase := 2, queue := [⟨0, 0x301, []⟩] } } : State)
    let q : TallyQ := match s.tally.queue with | q :: qs => q | _ => ⟨0, 0, []⟩
    let qs : List TallyQ := match s.tally.queue with | q :: qs => qs | _ => []
    let t : State := ({ s with tally := { s.tally with recs := s.tally.recs.map (fun r => if r.sector = s.tally.sector ∧ r.slot = s.tally.slot then { r with committed := true } else r), queue := qs, seq := (s.tally.seq + 1) % 2 ^ 32, phase := 0 } } : State)
    ⟨s, q, qs, _, rfl, by decide +kernel⟩)
  · exact ⟨({ wide with tally := { wide.tally with erasing := true } } : State), _, rfl, by decide +kernel⟩
  · exact ⟨wide, .jtag, _, _, _, rfl, rfl, rfl, by decide +kernel⟩

/-- Each clause of PowerStates has a state and operands that meet its hypotheses. -/
theorem meets_PowerStates :
  -- does_stateReqDryDock
  (∃ (s : State) (src : Source) (v : Word) (t : State) (w : Word),
    s.touch src = t ∧
    fix v 0 3 1 = w ∧
    s.on = true ∧
    s.opens src F.PWR_STATE_REQ_REQ.addr w = true ∧
    t.reqBad 1 = false ∧
    t.flag F.PWR_STATE_BUSY = false ∧
    t.cur ≠ 1) ∧
  -- does_stateReqDoze
  (∃ (s : State) (src : Source) (v : Word) (t : State) (w : Word),
    s.touch src = t ∧
    fix v 0 3 2 = w ∧
    s.on = true ∧
    s.opens src F.PWR_STATE_REQ_REQ.addr w = true ∧
    t.reqBad 2 = false ∧
    t.flag F.PWR_STATE_BUSY = false ∧
    t.cur ≠ 2) ∧
  -- does_stateReqQuiet
  (∃ (s : State) (src : Source) (v : Word) (t : State) (w : Word),
    s.touch src = t ∧
    fix v 0 3 3 = w ∧
    s.on = true ∧
    s.opens src F.PWR_STATE_REQ_REQ.addr w = true ∧
    t.reqBad 3 = false ∧
    t.flag F.PWR_STATE_BUSY = false ∧
    t.cur ≠ 3) ∧
  -- does_stateReqRun
  (∃ (s : State) (src : Source) (v : Word) (t : State) (w : Word),
    s.touch src = t ∧
    fix v 0 3 4 = w ∧
    s.on = true ∧
    s.opens src F.PWR_STATE_REQ_REQ.addr w = true ∧
    t.reqBad 4 = false ∧
    t.flag F.PWR_STATE_BUSY = false ∧
    t.cur ≠ 4) ∧
  -- holds_stateReqRun
  (∃ (s : State) (src : Source) (v : Word) (t : State) (w : Word),
    s.touch src = t ∧
    fix v 0 3 4 = w ∧
    s.on = true ∧
    s.opens src F.PWR_STATE_REQ_REQ.addr w = true ∧
    t.reqBad 4 = false ∧
    t.flag F.PWR_STATE_BUSY = true) ∧
  -- refuses_stateReqRun
  (∃ (s : State) (src : Source) (v : Word) (t : State) (w : Word),
    s.touch src = t ∧
    fix v 0 3 4 = w ∧
    s.on = true ∧
    s.opens src F.PWR_STATE_REQ_REQ.addr w = true ∧
    t.reqBad 4 = true) ∧
  -- does_stateReqReserved
  (∃ (s : State) (src : Source) (v : Word) (t : State) (w : Word),
    s.touch src = t ∧
    fix v 0 3 (if 5 ≤ v.toNat % 8 then v.toNat % 8 else 0) = w ∧
    s.on = true ∧
    s.opens src F.PWR_STATE_REQ_REQ.addr w = true) ∧
  -- does_stateTransitionComplete
  (∃ (s : State) (target : Nat) (brick : Nat) (cause : Nat),
    s.on = true ∧
    s.power.trans = some ⟨target, brick, cause, false⟩ ∧
    s.quadsOff = true ∧
    (s.cur = 2 → 3 ≤ target → s.losLocked = true ∧ s.boot.calDone = true) ∧
    (¬(target = 2 ∧ s.up domMON = true ∧ s.pins.drain ≠ 0))) ∧
  -- refuses_stateTransitionComplete
  (∃ (s : State) (brick : Nat) (cause : Nat),
    s.on = true ∧
    s.power.trans = some ⟨2, brick, cause, false⟩ ∧
    s.quadsOff = true ∧
    s.up domMON = true ∧
    s.pins.drain ≠ 0) ∧
  -- does_runOffWrite
  (∃ (s : State) (src : Source) (v : Word) (t : State),
    s.touch src = t ∧
    s.on = true ∧
    s.opens src F.PWR_RUN_OFF_FHA.addr v = true ∧
    (bitAt v.toNat 1 && bitAt v.toNat 2) = false) ∧
  -- refuses_runOffWrite
  (∃ (s : State) (src : Source) (v : Word) (t : State),
    s.touch src = t ∧
    s.on = true ∧
    s.opens src F.PWR_RUN_OFF_FHA.addr v = true ∧
    (bitAt v.toNat 1 && bitAt v.toNat 2) = true) := by
  refine ⟨?_, ?_, ?_, ?_, ?_, ?_, ?_, ?_, ?_, ?_, ?_⟩
  · exact ⟨(State.puts wide [(F.PWR_STATE_BUSY, 0)] : State), .jtag, 0, _, _, rfl, rfl, by decide +kernel⟩
  · exact ⟨(State.puts wide [(F.PWR_STATE_BUSY, 0)] : State), .jtag, 0, _, _, rfl, rfl, by decide +kernel⟩
  · exact ⟨(State.puts wide [(F.PWR_STATE_BUSY, 0)] : State), .jtag, 0, _, _, rfl, rfl, by decide +kernel⟩
  · exact ⟨(State.puts wide [(F.PWR_STATE_BUSY, 0), (F.PWR_STATE_CUR, 3)] : State), .jtag, 0, _, _, rfl, rfl, by decide +kernel⟩
  · exact ⟨wide, .jtag, 0, _, _, rfl, rfl, by decide +kernel⟩
  · exact ⟨(State.puts wide [(F.PWR_STATE_CUR, 1), (F.PWR_STATE_CAUSE, 2)] : State), .jtag, 0, _, _, rfl, rfl, by decide +kernel⟩
  · exact ⟨wide, .jtag, 0, _, _, rfl, rfl, by decide +kernel⟩
  · exact (
    let s : State := ({ wide with power := { wide.power with trans := some ⟨3, 0, 1, false⟩ } } : State)
    let target : Nat := match s.power.trans with | some ⟨target, brick, cause, false⟩ => target | _ => 0
    let brick : Nat := match s.power.trans with | some ⟨target, brick, cause, false⟩ => brick | _ => 0
    let cause : Nat := match s.power.trans with | some ⟨target, brick, cause, false⟩ => cause | _ => 0
    ⟨s, target, brick, cause, by decide +kernel⟩)
  · exact (
    let s : State := ({ wide with power := { wide.power with trans := some ⟨2, 0, 1, false⟩ }, pins := { wide.pins with drain := 1 } } : State)
    let brick : Nat := match s.power.trans with | some ⟨2, brick, cause, false⟩ => brick | _ => 0
    let cause : Nat := match s.power.trans with | some ⟨2, brick, cause, false⟩ => cause | _ => 0
    ⟨s, brick, cause, by decide +kernel⟩)
  · exact ⟨wide, .jtag, 0, _, rfl, by decide +kernel⟩
  · exact ⟨wide, .jtag, 6, _, rfl, by decide +kernel⟩

/-- Each clause of SupplyScaling has a state and operands that meet its hypotheses. -/
theorem meets_SupplyScaling :
  -- does_avsUpdate
  (∃ (s : State) (slacks : List (Fin 8 × BitVec 16)) (paces : List (Fin 4 × BitVec 16)) (u : State) (slack : Nat) (pace : Nat)
   (target : Nat) (calm : Nat),
    (s.each (slacks.map (fun e => (e.1.val, e.2.toNat))) (fun t e =>
   if e.1 < 8 ∧ t.meterActive e.1 = true then t.meter e.1 e.2 else t)).each (paces.map (fun e => (e.1.val, e.2.toNat)))
 (fun t e => if e.1 < 4 ∧ t.up (domQCL e.1) = true then t.put (F.QCTL_C_PACE_PACE e.1) (e.2 % 65536) else t) = u ∧
    u.avsSlack = some slack ∧
    minOf 65535 (((List.range 4).filter (fun c => u.hasCluster c && u.up (domQCL c))).map
 (fun c => u.get (F.QCTL_C_PACE_PACE c))) = pace ∧
    u.avsNext slack pace = (target, calm) ∧
    s.on = true ∧
    u.power.avsStop = false ∧
    u.flag F.PWR_STATE_BUSY = false) ∧
  -- does_avsUpdate_idle
  (∃ (s : State) (slacks : List (Fin 8 × BitVec 16)) (paces : List (Fin 4 × BitVec 16)) (u : State),
    (s.each (slacks.map (fun e => (e.1.val, e.2.toNat))) (fun t e =>
   if e.1 < 8 ∧ t.meterActive e.1 = true then t.meter e.1 e.2 else t)).each (paces.map (fun e => (e.1.val, e.2.toNat)))
 (fun t e => if e.1 < 4 ∧ t.up (domQCL e.1) = true then t.put (F.QCTL_C_PACE_PACE e.1) (e.2 % 65536) else t) = u ∧
    s.on = true ∧
    u.power.avsStop = false ∧
    u.flag F.PWR_STATE_BUSY = false ∧
    u.avsSlack = none) ∧
  -- does_avsTransactionDone
  (∃ (s : State),
    s.on = true ∧
    s.power.avsStop = false ∧
    s.power.avsWarn = false) ∧
  -- does_avsTransactionDone_none
  (∃ (s : State),
    s.on = true ∧
    s.power.avsStop = false ∧
    s.power.noAns = 2) ∧
  -- does_avsTransactionDone_warns
  (∃ (s : State),
    s.on = true ∧
    s.power.avsStop = false ∧
    s.power.avsWarn = false) ∧
  -- does_avsCeiling
  (∃ (s : State) (a : Nat),
    s.power.ceilSince = some a ∧
    s.on = true ∧
    s.flag F.PWR_AVS_STAT_CEIL = false) ∧
  -- does_avsCeilClear
  (∃ (s : State) (a : Nat),
    s.power.okSince = some a ∧
    s.on = true ∧
    s.flag F.PWR_AVS_STAT_CEIL = true) ∧
  -- does_powerEstimate
  (∃ (s : State),
    s.on = true) := by
  refine ⟨?_, ?_, ?_, ?_, ?_, ?_, ?_, ?_⟩
  · exact (
    let s : State := (State.puts wide [(F.PWR_STATE_BUSY, 0)] : State)
    let slacks : List (Fin 8 × BitVec 16) := []
    let paces : List (Fin 4 × BitVec 16) := []
    let u : State := (s.each (slacks.map (fun e => (e.1.val, e.2.toNat))) (fun t e => if e.1 < 8 ∧ t.meterActive e.1 = true then t.meter e.1 e.2 else t)).each (paces.map (fun e => (e.1.val, e.2.toNat))) (fun t e => if e.1 < 4 ∧ t.up (domQCL e.1) = true then t.put (F.QCTL_C_PACE_PACE e.1) (e.2 % 65536) else t)
    let slack : Nat := Option.get (u.avsSlack) (by decide +kernel)
    let pace : Nat := minOf 65535 (((List.range 4).filter (fun c => u.hasCluster c && u.up (domQCL c))).map (fun c => u.get (F.QCTL_C_PACE_PACE c)))
    let target : Nat := (u.avsNext slack pace).1
    let calm : Nat := (u.avsNext slack pace).2
    ⟨s, slacks, paces, _, slack, _, _, _, rfl, (Option.some_get _).symm, rfl, (Prod.eta _).symm, by decide +kernel⟩)
  · exact ⟨(State.puts wide [(F.PWR_STATE_BUSY, 0), (F.PWR_STATE_CUR, 1)] : State), [], [], _, rfl, by decide +kernel⟩
  · exact ⟨wide, by decide +kernel⟩
  · exact ⟨({ wide with power := { wide.power with noAns := 2 } } : State), by decide +kernel⟩
  · exact ⟨wide, by decide +kernel⟩
  · exact (
    let s : State := ({ wide with power := { wide.power with ceilSince := some 9 } } : State)
    let a : Nat := Option.get (s.power.ceilSince) (by decide +kernel)
    ⟨s, a, (Option.some_get _).symm, by decide +kernel⟩)
  · exact (
    let s : State := (State.puts { wide with power := { wide.power with okSince := some 9 } } [(F.PWR_AVS_STAT_CEIL, 1)] : State)
    let a : Nat := Option.get (s.power.okSince) (by decide +kernel)
    ⟨s, a, (Option.some_get _).symm, by decide +kernel⟩)
  · exact ⟨wide, by decide +kernel⟩

/-- Each clause of ReferenceAndCpll has a state and operands that meet its hypotheses. -/
theorem meets_ReferenceAndCpll :
  -- does_refclkEdgeLoss
  (∃ (s : State) (t : State),
    State.putb { s with clk := { s.clk with refPresent := false, okWindows := 0 } } F.CLK_CPLL_STAT_REF_OK false = t ∧
    s.on = true ∧
    t.get F.CLK_CPLL_STAT_MODE = 2 ∧
    t.get F.CLK_CPLL_CTL_HO_LIMIT_S ≠ 0) ∧
  -- does_refclkEdgeLoss_limit
  (∃ (s : State) (t : State),
    State.putb { s with clk := { s.clk with refPresent := false, okWindows := 0 } } F.CLK_CPLL_STAT_REF_OK false = t ∧
    s.on = true ∧
    t.get F.CLK_CPLL_STAT_MODE = 2 ∧
    t.get F.CLK_CPLL_CTL_HO_LIMIT_S = 0) ∧
  -- does_freqMonitorWindow
  (∃ (s : State) (d : Int) (n : Nat) (t : State),
    (if 10 ≤ s.clk.okWindows then 10 else s.clk.okWindows + 1) = n ∧
    { s with clk := { s.clk with refPresent := true, okWindows := n } } = t ∧
    s.on = true ∧
    (d.natAbs ≤ if s.clk.everLocked then 20000 else 100000) ∧
    (n < 10 ∨ t.flag F.CLK_CPLL_STAT_REF_OK = true)) ∧
  -- does_freqMonitorWindow_buildOut
  (∃ (s : State) (d : Int) (half : Int) (t : State) (u : State),
    { s with clk := { s.clk with refPresent := true, okWindows := 10 } } = t ∧
    t.putb F.CLK_CPLL_STAT_REF_OK true = u ∧
    (if u.get F.CLK_CPLL_CTL_REF_SEL = 0 then 4069 else 8138) = half ∧
    s.on = true ∧
    (d.natAbs ≤ if s.clk.everLocked then 20000 else 100000) ∧
    9 ≤ s.clk.okWindows ∧
    t.flag F.CLK_CPLL_STAT_REF_OK = false ∧
    u.get F.CLK_CPLL_STAT_MODE = 3) ∧
  -- does_holdoverExpired
  (∃ (s : State) (a : Nat),
    s.clk.hoSince = some a ∧
    s.on = true) ∧
  -- does_cpllUnlock
  (∃ (s : State),
    s.on = true ∧
    s.up domCPLL = true ∧
    s.cpllRuns = true) ∧
  -- does_cpllLockRetry
  (∃ (s : State),
    s.on = true ∧
    s.up domCPLL = true ∧
    s.flag F.CLK_CPLL_STAT_REF_OK = true ∧
    s.get F.CLK_CPLL_STAT_MODE ≤ 1) ∧
  -- does_cpllRelock
  (∃ (s : State) (a : Nat),
    s.clk.lockSince = some a ∧
    s.on = true ∧
    s.get F.CLK_CPLL_STAT_MODE = 1) := by
  refine ⟨?_, ?_, ?_, ?_, ?_, ?_, ?_, ?_⟩
  · exact ⟨wide, _, rfl, by decide +kernel⟩
  · exact ⟨(State.puts wide [(F.CLK_CPLL_CTL_HO_LIMIT_S, 0)] : State), _, rfl, by decide +kernel⟩
  · exact ⟨wide, 0, _, _, rfl, rfl, by decide +kernel⟩
  · exact ⟨(State.puts { wide with clk := { wide.clk with okWindows := 9 } } [(F.CLK_CPLL_STAT_REF_OK, 0), (F.CLK_CPLL_STAT_MODE, 3)] : State),
            0, _, _, _, rfl, rfl, rfl, by decide +kernel⟩
  · exact (
    let s : State := ({ wide with clk := { wide.clk with hoSince := some 1 } } : State)
    let a : Nat := Option.get (s.clk.hoSince) (by decide +kernel)
    ⟨s, a, (Option.some_get _).symm, by decide +kernel⟩)
  · exact ⟨wide, by decide +kernel⟩
  · exact ⟨(State.puts wide [(F.CLK_CPLL_STAT_MODE, 1)] : State), by decide +kernel⟩
  · exact (
    let s : State := (State.puts { wide with clk := { wide.clk with lockSince := some 1 } } [(F.CLK_CPLL_STAT_MODE, 1)] : State)
    let a : Nat := Option.get (s.clk.lockSince) (by decide +kernel)
    ⟨s, a, (Option.some_get _).symm, by decide +kernel⟩)

/-- Each clause of SynthesisersAndLinkPlls has a state and operands that meet its hypotheses. -/
theorem meets_SynthesisersAndLinkPlls :
  -- does_synGo
  (∃ (s : State) (src : Source) (n : Fin 2) (v : Word) (t : State) (w : Word) (nn : Nat) (div : Nat) (ts : List Nat),
    fixBit v 31 = w ∧
    (s.touch src).plain (F.CLK_SYN_CTL_GO n.val).addr w.toNat = t ∧
    bitsAt w.toNat 0 6 = nn ∧
    bitsAt w.toNat 8 1 = div ∧
    t.synTargets n.val = ts ∧
    (∀ m ∈ ts, ∀ e, (t.syn m).settleEnd = some e → before t.stamp e = false) ∧
    s.on = true ∧
    s.opens src (0x20020 + 0x10 * n.val) w = true ∧
    bitAt w.toNat 30 = false ∧
    synOk nn div = true) ∧
  -- arms_synGo
  (∃ (s : State) (src : Source) (n : Fin 2) (v : Word) (t : State) (w : Word) (nn : Nat) (div : Nat) (ts : List Nat) (at_ : Stamp),
    fixBit v 31 = w ∧
    (s.touch src).plain (F.CLK_SYN_CTL_GO n.val).addr w.toNat = t ∧
    bitsAt w.toNat 0 6 = nn ∧
    bitsAt w.toNat 8 1 = div ∧
    t.get64 (F.CLK_SYN_AT_LO_STAMP n.val) (F.CLK_SYN_AT_HI_STAMP n.val) = at_ ∧
    t.synTargets n.val = ts ∧
    (∀ m ∈ ts, ∀ e, (t.syn m).settleEnd = some e → before at_ e = false) ∧
    s.on = true ∧
    s.opens src (0x20020 + 0x10 * n.val) w = true ∧
    bitAt w.toNat 30 = true ∧
    synOk nn div = true) ∧
  -- refuses_synGo
  (∃ (s : State) (src : Source) (n : Fin 2) (v : Word) (t : State) (w : Word),
    fixBit v 31 = w ∧
    (s.touch src).plain (F.CLK_SYN_CTL_GO n.val).addr w.toNat = t ∧
    s.on = true ∧
    s.opens src (0x20020 + 0x10 * n.val) w = true ∧
    synOk (bitsAt w.toNat 0 6) (bitsAt w.toNat 8 1) = false) ∧
  -- does_synRetuneStart
  (∃ (s : State) (n : Fin 2),
    s.on = true ∧
    (s.syn n.val).armed.isSome = true) ∧
  -- does_settleWindowEnd
  (∃ (s : State) (n : Fin 2) (e : Stamp) (t : State) (u : State),
    (s.syn n.val).settleEnd = some e ∧
    s.reach e = t ∧
    (t.setSyn n.val { t.syn n.val with settleEnd := none }).putb (F.CLK_SYN_STAT_SETTLE n.val) false = u ∧
    s.on = true ∧
    u.synLocked n.val = true) ∧
  -- does_settleWindowEnd_lost
  (∃ (s : State) (n : Fin 2) (e : Stamp) (t : State) (u : State),
    (s.syn n.val).settleEnd = some e ∧
    s.reach e = t ∧
    (t.setSyn n.val { t.syn n.val with settleEnd := none }).putb (F.CLK_SYN_STAT_SETTLE n.val) false = u ∧
    s.on = true ∧
    u.synLocked n.val = false) ∧
  -- does_synLock
  (∃ (s : State) (n : Fin 2) (x : Syn) (band : Nat) (ms : Nat) (t : State) (u : State) (v : State) (w : State),
    s.syn n.val = x ∧
    s.draw = (band, t) ∧
    (match x.unlockedSince with
 | none => t.get (F.RSV_SYN_WEAR_LAST_MS n.val)
 | some a => if (s.aon - a) / msU 1 < 65535 then (s.aon - a) / msU 1 else 65535) = ms ∧
    (((t.setSyn n.val { x with unlockedSince := none }).putb (F.CLK_SYN_STAT_LOCK n.val) true).put
 (F.CLK_SYN_STAT_LOCK_T n.val) (if (s.aon - x.lockStart) * 4 / usU 1 < 255 then (s.aon - x.lockStart) * 4 / usU 1 else 255)).put
 (F.CLK_SYN_STAT_BAND n.val) (band % 64) = u ∧
    (u.put (F.RSV_SYN_WEAR_LAST_MS n.val) ms).loSync = v ∧
    (if v.servesTx n.val && bitAt (v.word 0x100014).toNat feSYN then v.feClear feSYN else v) = w ∧
    s.on = true ∧
    s.up (domSYN n.val) = true ∧
    s.synLocked n.val = false ∧
    s.cpllRuns = true) ∧
  -- does_synUnlock
  (∃ (s : State) (n : Fin 2),
    s.on = true ∧
    s.up (domSYN n.val) = true ∧
    s.synLocked n.val = true ∧
    s.synSettle n.val = false ∧
    s.cpllRuns = true) ∧
  -- does_synLockRetry
  (∃ (s : State) (n : Fin 2),
    s.on = true ∧
    s.up (domSYN n.val) = true ∧
    s.synLocked n.val = false ∧
    s.synSettle n.val = false ∧
    s.cpllRuns = true) ∧
  -- does_synRelockTimeout
  (∃ (s : State) (n : Fin 2) (a : Nat) (t : State),
    (s.syn n.val).unlockedSince = some a ∧
    s.elapseTo (a + msU 10) = t ∧
    s.on = true ∧
    t.flag (F.RSV_SYN_WEAR_FAILED n.val) = false) ∧
  -- does_swapMuteLift
  (∃ (s : State) (m : SwapMute) (t : State),
    s.clk.swap = some m ∧
    s.reach m.lift = t ∧
    s.on = true) ∧
  -- does_loRouteWrite
  (∃ (s : State) (src : Source) (v : Word) (t : State) (u : State) (dirs : Nat) (newRx : Nat),
    s.touch src = t ∧
    (if bitAt v.toNat 3 then bitsAt v.toNat 1 1 else bitsAt v.toNat 0 1) = newRx ∧
    (if bitsAt v.toNat 0 1 ≠ t.txSyn then 1 else 0) + (if newRx ≠ t.rxSyn then 2 else 0) = dirs ∧
    (((t.putb F.CLK_LO_ROUTE_AUTO_SWAP (bitAt v.toNat 4)).putb F.CLK_LO_ROUTE_SPLIT (bitAt v.toNat 3)).put
 F.CLK_LO_ROUTE_RX_SRC (bitsAt v.toNat 1 1)).put F.CLK_LO_ROUTE_TX_SRC (bitsAt v.toNat 0 1) = u ∧
    s.on = true ∧
    s.opens src F.CLK_LO_ROUTE_SPLIT.addr v = true ∧
    (¬(bitAt v.toNat 3 = true ∧ bitsAt v.toNat 1 1 = bitsAt v.toNat 0 1)) ∧
    (¬((bitsAt v.toNat 0 1 ≠ t.txSyn ∧ t.flag (F.RSV_SYN_WEAR_FAILED (bitsAt v.toNat 0 1)) = true)
  ∨ (newRx ≠ t.rxSyn ∧ t.flag (F.RSV_SYN_WEAR_FAILED newRx) = true)))) ∧
  -- refuses_loRouteWrite
  (∃ (s : State) (src : Source) (v : Word) (t : State),
    s.touch src = t ∧
    s.on = true ∧
    s.opens src F.CLK_LO_ROUTE_SPLIT.addr v = true ∧
    (bitAt v.toNat 3 = true ∧ bitsAt v.toNat 1 1 = bitsAt v.toNat 0 1)) ∧
  -- does_lodistDividerReset
  (∃ (s : State) (a : Stamp) (t : State),
    s.clk.divReset = some a ∧
    s.reach a = t ∧
    s.on = true) ∧
  -- does_resync
  (∃ (s : State) (src : Source) (v : Word) (t : State),
    s.touch src = t ∧
    s.on = true ∧
    s.opens src F.CLK_LO_SYNC_RESYNC.addr (fixBit v 0) = true ∧
    t.cur = 3) ∧
  -- refuses_resync
  (∃ (s : State) (src : Source) (v : Word) (t : State),
    s.touch src = t ∧
    s.on = true ∧
    s.opens src F.CLK_LO_SYNC_RESYNC.addr (fixBit v 0) = true ∧
    t.cur ≠ 3) ∧
  -- does_lpllUnlock
  (∃ (s : State) (b : Fin 4) (t : State),
    { s with clk := { s.clk with lpllSince := setNth s.clk.lpllSince b.val none } } = t ∧
    s.on = true ∧
    s.up (linkDom b.val) = true ∧
    s.get (F.CLK_LPLL_STAT_MODE b.val) = 2) ∧
  -- does_lpllLockRetry
  (∃ (s : State) (b : Fin 4),
    s.on = true ∧
    s.up (linkDom b.val) = true ∧
    s.get (F.CLK_LPLL_STAT_MODE b.val) = 3 ∧
    s.cpllRuns = true ∧
    (s.port b.val).mini = false) ∧
  -- does_lpllRelock
  (∃ (s : State) (b : Fin 4) (a : Nat) (t : State),
    nth none s.clk.lpllSince b.val = some a ∧
    s.elapseTo (a + usU 100) = t ∧
    s.on = true) ∧
  -- does_sscApexApply
  (∃ (s : State) (b : Fin 4) (mode : Nat) (d : Nat) (f : Nat) (w : Nat),
    s.get (F.CLK_LPLL_CTL_SSC_MODE b.val) % 3 = mode ∧
    s.get (F.CLK_LPLL_CTL_DEPTH b.val) = d ∧
    s.get (F.CLK_LPLL_CTL_SSC_F b.val) = f ∧
    (if mode = 0 then 0 else mode * 16384 + (if d < (if mode = 1 then 50 else 25) then d else
(if mode = 1 then 50 else 25)) * 256 + (if f = 7 then 6 else f)) = w ∧
    s.on = true) := by
  refine ⟨?_, ?_, ?_, ?_, ?_, ?_, ?_, ?_, ?_, ?_, ?_, ?_, ?_, ?_, ?_, ?_, ?_, ?_, ?_, ?_⟩
  · exact ⟨(State.puts wide [(F.CLK_SYN_CTL_N 0, 40)] : State), .jtag, 0, 40, _, _, _, _, _, rfl, rfl, rfl, rfl, rfl,
            (noneSettles (by decide +kernel)), by decide +kernel⟩
  · exact ⟨wide, .jtag, 0, 0x40000000 + 40, _, _, _, _, _, _, rfl, rfl, rfl, rfl, rfl, rfl, (noneSettles (by decide +kernel)),
            by decide +kernel⟩
  · exact ⟨wide, .jtag, 0, 0, _, _, rfl, rfl, by decide +kernel⟩
  · exact ⟨({ wide with clk := { wide.clk with syn0 := { armed := some (40, 0, 0x1000000, false) } } } : State), 0,
            by decide +kernel⟩
  · exact (
    let s : State := ({ wide with clk := { wide.clk with syn0 := { settleEnd := some 0x1000000 } } } : State)
    let n : Fin 2 := 0
    let e : Stamp := Option.get ((s.syn n.val).settleEnd) (by decide +kernel)
    let t : State := s.reach e
    let u : State := (t.setSyn n.val { t.syn n.val with settleEnd := none }).putb (F.CLK_SYN_STAT_SETTLE n.val) false
    ⟨s, n, e, _, _, (Option.some_get _).symm, rfl, rfl, by decide +kernel⟩)
  · exact (
    let s : State := (State.puts { wide with clk := { wide.clk with syn0 := { settleEnd := some 0x1000000 } } } [(F.CLK_SYN_STAT_LOCK 0, 0)] : State)
    let n : Fin 2 := 0
    let e : Stamp := Option.get ((s.syn n.val).settleEnd) (by decide +kernel)
    let t : State := s.reach e
    let u : State := (t.setSyn n.val { t.syn n.val with settleEnd := none }).putb (F.CLK_SYN_STAT_SETTLE n.val) false
    ⟨s, n, e, _, _, (Option.some_get _).symm, rfl, rfl, by decide +kernel⟩)
  · exact (
    let s : State := (State.puts wide [(F.CLK_SYN_STAT_LOCK 0, 0)] : State)
    let n : Fin 2 := 0
    let x : Syn := s.syn n.val
    let band : Nat := (s.draw).1
    let t : State := (s.draw).2
    let ms : Nat := (match x.unlockedSince with | none => t.get (F.RSV_SYN_WEAR_LAST_MS n.val) | some a => if (s.aon - a) / msU 1 < 65535 then (s.aon - a) / msU 1 else 65535)
    let u : State := (((t.setSyn n.val { x with unlockedSince := none }).putb (F.CLK_SYN_STAT_LOCK n.val) true).put (F.CLK_SYN_STAT_LOCK_T n.val) (if (s.aon - x.lockStart) * 4 / usU 1 < 255 then (s.aon - x.lockStart) * 4 / usU 1 else 255)).put (F.CLK_SYN_STAT_BAND n.val) (band % 64)
    let v : State := (u.put (F.RSV_SYN_WEAR_LAST_MS n.val) ms).loSync
    let w : State := (if v.servesTx n.val && bitAt (v.word 0x100014).toNat feSYN then v.feClear feSYN else v)
    ⟨s, n, _, _, _, _, _, _, _, rfl, (Prod.eta _).symm, rfl, rfl, rfl, rfl, by decide +kernel⟩)
  · exact ⟨wide, 0, by decide +kernel⟩
  · exact ⟨(State.puts wide [(F.CLK_SYN_STAT_LOCK 0, 0)] : State), 0, by decide +kernel⟩
  · exact (
    let s : State := (State.puts { wide with clk := { wide.clk with syn0 := { unlockedSince := some 3 } } } [(F.CLK_SYN_STAT_LOCK 0, 0)] : State)
    let n : Fin 2 := 0
    let a : Nat := Option.get ((s.syn n.val).unlockedSince) (by decide +kernel)
    let t : State := s.elapseTo (a + msU 10)
    ⟨s, n, a, _, (Option.some_get _).symm, rfl, by decide +kernel⟩)
  · exact (
    let s : State := ({ wide with clk := { wide.clk with swap := some ⟨5, 3, 0x1000000⟩ } } : State)
    let m : SwapMute := Option.get (s.clk.swap) (by decide +kernel)
    let t : State := s.reach m.lift
    ⟨s, m, _, (Option.some_get _).symm, rfl, by decide +kernel⟩)
  · exact ⟨wide, .jtag, 0, _, _, _, _, rfl, rfl, rfl, rfl, by decide +kernel⟩
  · exact ⟨wide, .jtag, 8, _, rfl, by decide +kernel⟩
  · exact (
    let s : State := ({ wide with clk := { wide.clk with divReset := some 0x1000000 } } : State)
    let a : Stamp := Option.get (s.clk.divReset) (by decide +kernel)
    let t : State := s.reach a
    ⟨s, a, _, (Option.some_get _).symm, rfl, by decide +kernel⟩)
  · exact ⟨(State.puts wide [(F.PWR_STATE_CUR, 3)] : State), .jtag, 0, _, rfl, by decide +kernel⟩
  · exact ⟨wide, .jtag, 0, _, rfl, by decide +kernel⟩
  · exact ⟨wide, 0, _, rfl, by decide +kernel⟩
  · exact ⟨(State.puts wide [(F.CLK_LPLL_STAT_MODE 0, 3)] : State), 0, by decide +kernel⟩
  · exact (
    let s : State := ({ wide with clk := { wide.clk with lpllSince := [some 1, none, none, none] } } : State)
    let b : Fin 4 := 0
    let a : Nat := Option.get (nth none s.clk.lpllSince b.val) (by decide +kernel)
    let t : State := s.elapseTo (a + usU 100)
    ⟨s, b, a, _, (Option.some_get _).symm, rfl, by decide +kernel⟩)
  · exact ⟨wide, 0, _, _, _, _, rfl, rfl, rfl, rfl, by decide +kernel⟩

/-- Each clause of ConvertersAndCrossings has a state and operands that meet its hypotheses. -/
theorem meets_ConvertersAndCrossings :
  -- does_rxAdcSample
  (∃ (s : State) (p : Fin 64) (re : BitVec 12) (im : BitVec 12) (ovr : Bool) (fill : Fin 1025) (t : State) (l : List RxSample),
    s.rxSample p.val ⟨re.toInt, im.toInt⟩ ovr fill.val = (t, l) ∧
    s.on = true ∧
    s.rxConverts p.val = true) ∧
  -- does_rxIngressSpaceReturn
  (∃ (s : State) (p : Fin 64) (t : State) (l : List RxSample),
    s.rxReturn p.val = (t, l) ∧
    s.on = true) ∧
  -- does_txSamplePlayout
  (∃ (s : State) (p : Fin 64),
    s.on = true ∧
    s.txConverts p.val = true) ∧
  -- does_clrCnt
  (∃ (s : State) (src : Source) (v : Word) (t : State) (u : State) (w : Word),
    s.touch src = t ∧
    fixBit v 17 = w ∧
    t.plain F.TOP_DRIFT_CTL_LOW_NS.addr w.toNat = u ∧
    s.on = true ∧
    s.opens src F.TOP_DRIFT_CTL_LOW_NS.addr w = true ∧
    bitAt w.toNat 16 = false) ∧
  -- does_clrMin
  (∃ (s : State) (src : Source) (v : Word) (t : State) (u : State) (w : Word),
    s.touch src = t ∧
    fixBit v 16 = w ∧
    t.plain F.TOP_DRIFT_CTL_LOW_NS.addr w.toNat = u ∧
    s.on = true ∧
    s.opens src F.TOP_DRIFT_CTL_LOW_NS.addr w = true ∧
    bitAt w.toNat 17 = false) := by
  refine ⟨?_, ?_, ?_, ?_, ?_⟩
  · exact (
    let s : State := wide
    let p : Fin 64 := 0
    let re : BitVec 12 := 0
    let im : BitVec 12 := 0
    let ovr : Bool := true
    let fill : Fin 1025 := 0
    let t : State := (s.rxSample p.val ⟨re.toInt, im.toInt⟩ ovr fill.val).1
    let l : List RxSample := (s.rxSample p.val ⟨re.toInt, im.toInt⟩ ovr fill.val).2
    ⟨s, p, re, im, ovr, fill, _, _, (Prod.eta _).symm, by decide +kernel⟩)
  · exact (
    let s : State := wide
    let p : Fin 64 := 0
    let t : State := (s.rxReturn p.val).1
    let l : List RxSample := (s.rxReturn p.val).2
    ⟨s, p, _, _, (Prod.eta _).symm, by decide +kernel⟩)
  · exact ⟨wide, 0, by decide +kernel⟩
  · exact ⟨wide, .jtag, 0, _, _, _, rfl, rfl, rfl, by decide +kernel⟩
  · exact ⟨wide, .jtag, 0, _, _, _, rfl, rfl, rfl, by decide +kernel⟩

/-- Each clause of ReceivePaths has a state and operands that meet its hypotheses. -/
theorem meets_ReceivePaths :
  -- does_agcDecision
  (∃ (s : State) (t : State),
    s.agcAuto = t ∧
    s.on = true ∧
    s.agcSusp = false ∧
    s.get F.RXA_AGC_CTL_MODE = 0 ∧
    s.rx.counted = true) ∧
  -- does_agcDecision_manual
  (∃ (s : State) (t : State),
    s.gainStep (min 10 (s.get F.RXA_AGC_CTL_MAN_STEP)) true = t ∧
    s.on = true ∧
    s.agcSusp = false ∧
    s.get F.RXA_AGC_CTL_MODE = 1) ∧
  -- holds_agcDecision
  (∃ (s : State),
    s.on = true ∧
    s.agcSusp = true) ∧
  -- does_agcSuspendEnd
  (∃ (s : State) (a : BitVec 64) (u : State),
    s.rx.suspUntil = some a ∧
    State.putb { s.reach a with rx := { (s.reach a).rx with suspUntil := none } } F.RXA_AGC_STAT_SUSP false = u ∧
    s.on = true ∧
    s.agcSusp = true ∧
    s.inRun = true ∧
    s.trswHigh = false ∧
    s.rxLoBad = false ∧
    s.quads.any (fun q => s.up (domRXQ q)) = true ∧
    u.flag F.RXA_AGC_CTL_RESUME = true ∧
    u.get F.RXA_AGC_CTL_MODE = 0) ∧
  -- holds_agcSuspendEnd
  (∃ (s : State) (a : BitVec 64) (u : State),
    s.rx.suspUntil = some a ∧
    State.putb { s.reach a with rx := { (s.reach a).rx with suspUntil := none } } F.RXA_AGC_STAT_SUSP false = u ∧
    s.on = true ∧
    s.agcSusp = true ∧
    s.inRun = true ∧
    s.trswHigh = false ∧
    s.rxLoBad = false ∧
    s.quads.any (fun q => s.up (domRXQ q)) = true ∧
    (u.flag F.RXA_AGC_CTL_RESUME = false ∨ u.get F.RXA_AGC_CTL_MODE ≠ 0)) ∧
  -- does_agcCtlWrite
  (∃ (s : State) (src : Source) (v : Word) (t : State) (u : State),
    s.touch src = t ∧
    t.plain F.RXA_AGC_CTL_MODE.addr v.toNat = u ∧
    s.on = true ∧
    s.opens src F.RXA_AGC_CTL_MODE.addr v = true ∧
    u.get F.RXA_AGC_CTL_MODE = 0 ∧
    t.get F.RXA_AGC_CTL_MODE ≠ 0) ∧
  -- does_servoAverage
  (∃ (s : State) (p : Fin 64) (c : Nat) (d : Nat) (t : State) (ci : Nat × Bool) (cq : Nat × Bool),
    s.servoCode p.val s.agcStep = c ∧
    s.get F.RXA_SERVO_CTL_DEAD = d ∧
    servoMove (c % 1024) (s.rxPath p.val).sumI d = ci ∧
    servoMove (c / 1024) (s.rxPath p.val).sumQ d = cq ∧
    ((s.setServo p.val s.agcStep (ci.1 + 1024 * cq.1)).showServo p.val).servoRestart p.val = t ∧
    s.on = true ∧
    65536 ≤ (s.rxPath p.val).count) ∧
  -- does_sliceExchange
  (∃ (s : State) (p : Fin 64) (q : Fin 2) (slice : Fin 9) (a : Adc) (b : Adc) (sp : Nat) (o : Nat) (os : List Nat) (t : State),
    s.adc p.val q.val = a ∧
    s.setAdc p.val q.val { a with resid := setNth a.resid slice.val 0 } = t ∧
    t.adc p.val q.val = b ∧
    b.spare = some sp ∧
    s.on = true ∧
    s.hasPath p.val = true ∧
    b.order = o :: os) ∧
  -- does_sliceExchange_trim
  (∃ (s : State) (p : Fin 64) (q : Fin 2) (slice : Fin 9) (a : Adc) (t : State),
    s.adc p.val q.val = a ∧
    s.setAdc p.val q.val { a with resid := setNth a.resid slice.val 0 } = t ∧
    s.on = true ∧
    s.hasPath p.val = true) ∧
  -- does_sliceExchange_resid
  (∃ (s : State) (p : Fin 64) (q : Fin 2) (slice : Fin 9) (a : Adc) (t : State),
    s.adc p.val q.val = a ∧
    s.setAdc p.val q.val { a with resid := setNth a.resid slice.val 3 } = t ∧
    s.on = true ∧
    s.hasPath p.val = true ∧
    nth 0 a.resid slice.val = 2) ∧
  -- does_rxCalReq
  (∃ (s : State) (src : Source) (v : Word) (t : State) (w : Word) (m : Nat),
    s.touch src = t ∧
    fixBit v 31 = w ∧
    t.presentQuads (bitsAt w.toNat 8 8) = m ∧
    s.on = true ∧
    s.opens src F.RXA_CAL_REQ_GO.addr w = true ∧
    m ≠ 0 ∧
    bitsAt w.toNat 0 5 ≠ 0 ∧
    t.rx.cal = none) ∧
  -- refuses_rxCalReq
  (∃ (s : State) (src : Source) (v : Word) (t : State) (w : Word),
    s.touch src = t ∧
    fixBit v 31 = w ∧
    s.on = true ∧
    s.opens src F.RXA_CAL_REQ_GO.addr w = true ∧
    (t.presentQuads (bitsAt w.toNat 8 8) = 0 ∨ bitsAt w.toNat 0 5 = 0 ∨ t.rx.cal ≠ none)) ∧
  -- does_rxCalStart
  (∃ (s : State) (kind : Nat) (m : Nat) (w : Nat) (u : State),
    (State.putb { s with rx := { s.rx with cal := some ⟨kind, m, w, some (stampAdd s.stamp (rxCalSpan kind))⟩ } }
 F.RXA_CAL_STAT_WAIT false).putb F.RXA_CAL_STAT_BUSY true = u ∧
    s.on = true ∧
    s.rx.cal = some ⟨kind, m, w, none⟩ ∧
    s.gapCovers m (rxCalSpan kind) = true) ∧
  -- does_rxCalTimeout
  (∃ (s : State) (kind : Nat) (m : Nat) (w : Nat) (t : State),
    s.elapseTo w = t ∧
    s.on = true ∧
    s.rx.cal = some ⟨kind, m, w, none⟩) ∧
  -- does_rxCalDone
  (∃ (s : State) (fail : BitVec 64) (slices : List (Fin 64 × Fin 2 × Fin 9)) (kind : Nat) (m : Nat) (w : Nat) (e : BitVec 64) (t :
   State) (v : State) (x : State) (y : State) (l : List Nat),
    s.reach e = t ∧
    t.pathsOf m = l ∧
    t.rxCalRun kind l (mask fail) (slices.map (fun e => (e.1.val, e.2.1.val, e.2.2.val))) = v ∧
    (((State.putb { v with rx := { v.rx with cal := none } } F.RXA_CAL_STAT_BUSY false).put F.RXA_CAL_STAT_ACTIVE 0).put
 F.RXA_CAL_STAT_FAIL (failBits (v.get F.RXA_CAL_STAT_FAIL) m (mask fail))).each l
   (fun y p => y.setRxPath p { y.rxPath p with stopped := false }) = x ∧
    (x.rxRestart (l.filter (fun p => !x.rxRetired p))).raise 0x0404 0 = y ∧
    s.on = true ∧
    s.rx.cal = some ⟨kind, m, w, some e⟩) ∧
  -- does_rxRetireWrite
  (∃ (s : State) (src : Source) (half : Fin 2) (v : Word) (t : State),
    s.touch src = t ∧
    s.on = true ∧
    s.opens src (if half.val = 0 then F.RXA_RETIRE0_PATHS else F.RXA_RETIRE1_PATHS).addr v = true) ∧
  -- does_rxaCntClrOvr
  (∃ (s : State) (src : Source) (v : Word) (t : State) (w : Word),
    s.touch src = t ∧
    fixBit v 1 = w ∧
    s.on = true ∧
    s.opens src F.RXA_CNT_CLR_OVR.addr w = true ∧
    bitAt w.toNat 0 = false) ∧
  -- does_rxaCntClrAgc
  (∃ (s : State) (src : Source) (v : Word) (t : State) (w : Word),
    s.touch src = t ∧
    fixBit v 0 = w ∧
    s.on = true ∧
    s.opens src F.RXA_CNT_CLR_OVR.addr w = true ∧
    bitAt w.toNat 1 = false) ∧
  -- does_rxaCtlWrite
  (∃ (s : State) (src : Source) (v : Word) (t : State) (u : State),
    s.touch src = t ∧
    t.plain F.RXA_CTL_BBF_BW.addr v.toNat = u ∧
    s.on = true ∧
    s.opens src F.RXA_CTL_BBF_BW.addr v = true ∧
    u.get F.RXA_CTL_BBF_BW ≠ t.get F.RXA_CTL_BBF_BW) ∧
  -- holds_rxaCtlWrite
  (∃ (s : State) (src : Source) (v : Word) (t : State) (u : State),
    s.touch src = t ∧
    t.plain F.RXA_CTL_BBF_BW.addr v.toNat = u ∧
    s.on = true ∧
    s.opens src F.RXA_CTL_BBF_BW.addr v = true ∧
    u.get F.RXA_CTL_BBF_BW = t.get F.RXA_CTL_BBF_BW) := by
  refine ⟨?_, ?_, ?_, ?_, ?_, ?_, ?_, ?_, ?_, ?_, ?_, ?_, ?_, ?_, ?_, ?_, ?_, ?_, ?_, ?_⟩
  · exact ⟨(State.puts { wide with rx := { wide.rx with counted := true } } [(F.RXA_AGC_STAT_SUSP, 0)] : State), _, rfl,
            by decide +kernel⟩
  · exact ⟨(State.puts wide [(F.RXA_AGC_STAT_SUSP, 0), (F.RXA_AGC_CTL_MODE, 1)] : State), _, rfl, by decide +kernel⟩
  · exact ⟨wide, by decide +kernel⟩
  · exact (
    let s : State := (State.puts { wide with rx := { wide.rx with suspUntil := some 0x1000000 } } [(F.RXA_AGC_STAT_SUSP, 1), (F.RXA_AGC_CTL_RESUME, 1)] : State)
    let a : BitVec 64 := Option.get (s.rx.suspUntil) (by decide +kernel)
    let u : State := State.putb { s.reach a with rx := { (s.reach a).rx with suspUntil := none } } F.RXA_AGC_STAT_SUSP false
    ⟨s, a, _, (Option.some_get _).symm, rfl, by decide +kernel⟩)
  · exact (
    let s : State := (State.puts { wide with rx := { wide.rx with suspUntil := some 0x1000000 } } [(F.RXA_AGC_STAT_SUSP, 1)] : State)
    let a : BitVec 64 := Option.get (s.rx.suspUntil) (by decide +kernel)
    let u : State := State.putb { s.reach a with rx := { (s.reach a).rx with suspUntil := none } } F.RXA_AGC_STAT_SUSP false
    ⟨s, a, _, (Option.some_get _).symm, rfl, by decide +kernel⟩)
  · exact ⟨(State.puts wide [(F.RXA_AGC_CTL_MODE, 1)] : State), .jtag, 0, _, _, rfl, rfl, by decide +kernel⟩
  · exact ⟨({ wide with rx := { wide.rx with paths := [(0, { count := 65536 })] } } : State), 0, _, _, _, _, _, rfl, rfl, rfl, rfl,
            rfl, by decide +kernel⟩
  · exact (
    let s : State := wide
    let p : Fin 64 := 0
    let q : Fin 2 := 0
    let slice : Fin 9 := 0
    let a : Adc := s.adc p.val q.val
    let t : State := s.setAdc p.val q.val { a with resid := setNth a.resid slice.val 0 }
    let b : Adc := t.adc p.val q.val
    let sp : Nat := Option.get (b.spare) (by decide +kernel)
    let o : Nat := match b.order with | o :: os => o | _ => 0
    let os : List Nat := match b.order with | o :: os => os | _ => []
    ⟨s, p, q, slice, _, _, sp, o, os, _, rfl, rfl, rfl, (Option.some_get _).symm, by decide +kernel⟩)
  · exact ⟨wide, 0, 0, 0, _, _, rfl, rfl, by decide +kernel⟩
  · exact ⟨({ wide with rx := { wide.rx with adcs := [(0, { resid := [2, 0, 0, 0, 0, 0, 0, 0, 0] })] } } : State), 0, 0, 0, _, _,
            rfl, rfl, by decide +kernel⟩
  · exact ⟨wide, .jtag, 0xFF1F, _, _, _, rfl, rfl, rfl, by decide +kernel⟩
  · exact ⟨wide, .jtag, 0, _, _, rfl, rfl, by decide +kernel⟩
  · exact (
    let s : State := ({ wide with rx := { wide.rx with cal := some ⟨1, 1, 9, none⟩ }, msgs := { wide.msgs with gaps := [⟨0, 0x4000000000000, 255, true⟩] } } : State)
    let kind : Nat := match s.rx.cal with | some ⟨kind, m, w, none⟩ => kind | _ => 0
    let m : Nat := match s.rx.cal with | some ⟨kind, m, w, none⟩ => m | _ => 0
    let w : Nat := match s.rx.cal with | some ⟨kind, m, w, none⟩ => w | _ => 0
    let u : State := (State.putb { s with rx := { s.rx with cal := some ⟨kind, m, w, some (stampAdd s.stamp (rxCalSpan kind))⟩ } } F.RXA_CAL_STAT_WAIT false).putb F.RXA_CAL_STAT_BUSY true
    ⟨s, kind, m, w, _, rfl, by decide +kernel⟩)
  · exact (
    let s : State := ({ wide with rx := { wide.rx with cal := some ⟨1, 1, 9, none⟩ } } : State)
    let kind : Nat := match s.rx.cal with | some ⟨kind, m, w, none⟩ => kind | _ => 0
    let m : Nat := match s.rx.cal with | some ⟨kind, m, w, none⟩ => m | _ => 0
    let w : Nat := match s.rx.cal with | some ⟨kind, m, w, none⟩ => w | _ => 0
    let t : State := s.elapseTo w
    ⟨s, kind, m, w, _, rfl, by decide +kernel⟩)
  · exact (
    let s : State := ({ wide with rx := { wide.rx with cal := some ⟨1, 1, 9, some 0x1000000⟩ } } : State)
    let fail : BitVec 64 := 0
    let slices : List (Fin 64 × Fin 2 × Fin 9) := []
    let kind : Nat := match s.rx.cal with | some ⟨kind, m, w, some e⟩ => kind | _ => 0
    let m : Nat := match s.rx.cal with | some ⟨kind, m, w, some e⟩ => m | _ => 0
    let w : Nat := match s.rx.cal with | some ⟨kind, m, w, some e⟩ => w | _ => 0
    let e : BitVec 64 := match s.rx.cal with | some ⟨kind, m, w, some e⟩ => e | _ => 0
    let t : State := s.reach e
    let l : List Nat := t.pathsOf m
    let v : State := t.rxCalRun kind l (mask fail) (slices.map (fun e => (e.1.val, e.2.1.val, e.2.2.val)))
    let x : State := (((State.putb { v with rx := { v.rx with cal := none } } F.RXA_CAL_STAT_BUSY false).put F.RXA_CAL_STAT_ACTIVE 0).put F.RXA_CAL_STAT_FAIL (failBits (v.get F.RXA_CAL_STAT_FAIL) m (mask fail))).each l (fun y p => y.setRxPath p { y.rxPath p with stopped := false })
    let y : State := (x.rxRestart (l.filter (fun p => !x.rxRetired p))).raise 0x0404 0
    ⟨s, fail, slices, kind, m, w, e, _, _, _, _, _, rfl, rfl, rfl, rfl, rfl, by decide +kernel⟩)
  · exact ⟨wide, .jtag, 0, 0, _, rfl, by decide +kernel⟩
  · exact ⟨wide, .jtag, 0, _, _, rfl, rfl, by decide +kernel⟩
  · exact ⟨wide, .jtag, 0, _, _, rfl, rfl, by decide +kernel⟩
  · exact ⟨wide, .jtag, 0xFFFFFFFF, _, _, rfl, rfl, by decide +kernel⟩
  · exact ⟨wide, .jtag, 0, _, _, rfl, rfl, by decide +kernel⟩

/-- Each clause of ReceiveDigital has a state and operands that meet its hypotheses. -/
theorem meets_ReceiveDigital :
  -- does_rxdRunWrite
  (∃ (s : State) (src : Source) (v : Word) (t : State) (u : State),
    s.touch src = t ∧
    t.plain F.RXD_CTL_RUN.addr v.toNat = u ∧
    s.on = true ∧
    s.opens src F.RXD_CTL_RUN.addr v = true ∧
    u.flag F.RXD_CTL_RUN ≠ t.flag F.RXD_CTL_RUN) ∧
  -- does_rxdCfgWrite
  (∃ (s : State) (src : Source) (i : Fin 6148) (v : Word) (t : State) (u : State),
    s.touch src = t ∧
    t.plain (rxdCfgAddr i.val) v.toNat = u ∧
    s.on = true ∧
    s.opens src (rxdCfgAddr i.val) v = true ∧
    t.flag F.RXD_CTL_RUN = false) ∧
  -- refuses_rxdCfgWrite
  (∃ (s : State) (src : Source) (i : Fin 6148) (v : Word) (t : State),
    s.touch src = t ∧
    s.on = true ∧
    s.opens src (rxdCfgAddr i.val) v = true ∧
    t.flag F.RXD_CTL_RUN = true) ∧
  -- does_rxdNcoGo
  (∃ (s : State) (src : Source) (v : Word) (t : State) (w : Word),
    s.touch src = t ∧
    fixBit v 31 = w ∧
    s.on = true ∧
    s.opens src F.RXD_NCO_CTL_GO.addr w = true) ∧
  -- does_rxdNcoRetuneAt
  (∃ (s : State) (f : Int) (a : BitVec 64) (t : State),
    s.reach a = t ∧
    s.on = true ∧
    s.rx.ncoArm = some (f, a)) ∧
  -- does_rxdCntClrSat
  (∃ (s : State) (src : Source) (v : Word) (t : State) (w : Word),
    s.touch src = t ∧
    fixBit v 1 = w ∧
    s.on = true ∧
    s.opens src F.RXD_CNT_CLR_SAT.addr w = true ∧
    bitAt w.toNat 0 = false) ∧
  -- does_rxdCntClrInv
  (∃ (s : State) (src : Source) (v : Word) (t : State) (w : Word),
    s.touch src = t ∧
    fixBit v 0 = w ∧
    s.on = true ∧
    s.opens src F.RXD_CNT_CLR_SAT.addr w = true ∧
    bitAt w.toNat 1 = false) := by
  refine ⟨?_, ?_, ?_, ?_, ?_, ?_, ?_⟩
  · exact ⟨wide, .jtag, 0, _, _, rfl, rfl, by decide +kernel⟩
  · exact ⟨(State.puts wide [(F.RXD_CTL_RUN, 0)] : State), .jtag, 0, 0, _, _, rfl, rfl, by decide +kernel⟩
  · exact ⟨wide, .jtag, 0, 0, _, rfl, by decide +kernel⟩
  · exact ⟨wide, .jtag, 0, _, _, rfl, rfl, by decide +kernel⟩
  · exact (
    let s : State := ({ wide with rx := { wide.rx with ncoArm := some (5, 0x1000000) } } : State)
    let f : Int := match s.rx.ncoArm with | some (f, a) => f | _ => 0
    let a : BitVec 64 := match s.rx.ncoArm with | some (f, a) => a | _ => 0
    let t : State := s.reach a
    ⟨s, f, a, _, rfl, by decide +kernel⟩)
  · exact ⟨wide, .jtag, 0, _, _, rfl, rfl, by decide +kernel⟩
  · exact ⟨wide, .jtag, 0, _, _, rfl, rfl, by decide +kernel⟩

/-- Each clause of TransmitPaths has a state and operands that meet its hypotheses. -/
theorem meets_TransmitPaths :
  -- does_txdRunWrite
  (∃ (s : State) (src : Source) (v : Word) (t : State) (u : State),
    s.touch src = t ∧
    t.plain F.TXD_CTL_RUN.addr v.toNat = u ∧
    s.on = true ∧
    s.opens src F.TXD_CTL_RUN.addr v = true ∧
    u.flag F.TXD_CTL_RUN ≠ t.flag F.TXD_CTL_RUN) ∧
  -- does_txdCfgWrite
  (∃ (s : State) (src : Source) (i : Fin 95) (v : Word) (t : State) (u : State),
    s.touch src = t ∧
    t.plain (txdCfgAddr i.val) v.toNat = u ∧
    s.on = true ∧
    s.opens src (txdCfgAddr i.val) v = true ∧
    t.flag F.TXD_CTL_RUN = false) ∧
  -- refuses_txdCfgWrite
  (∃ (s : State) (src : Source) (i : Fin 95) (v : Word) (t : State),
    s.touch src = t ∧
    s.on = true ∧
    s.opens src (txdCfgAddr i.val) v = true ∧
    t.flag F.TXD_CTL_RUN = true) ∧
  -- does_txdNcoGo
  (∃ (s : State) (src : Source) (v : Word) (t : State) (w : Word),
    s.touch src = t ∧
    fixBit v 31 = w ∧
    s.on = true ∧
    s.opens src F.TXD_NCO_CTL_GO.addr w = true) ∧
  -- does_txdNcoRetuneAt
  (∃ (s : State) (f : Int) (a : BitVec 64) (t : State),
    s.reach a = t ∧
    s.on = true ∧
    s.tx.ncoArm = some (f, a)) ∧
  -- does_txGainApply
  (∃ (s : State) (k : Nat) (g : Nat) (b : Nat) (l : List (Nat × Nat × Nat)),
    s.on = true ∧
    s.tx.gains = (k, g, b) :: l) ∧
  -- does_txChainRestart
  (∃ (s : State) (r : TxRestart) (rs : List TxRestart),
    s.on = true ∧
    s.tx.restarts = r :: rs) ∧
  -- does_txaCtlWrite
  (∃ (s : State) (src : Source) (v : Word) (t : State) (u : State),
    s.touch src = t ∧
    t.plain F.TXA_CTL_FILT_BW.addr v.toNat = u ∧
    s.on = true ∧
    s.opens src F.TXA_CTL_FILT_BW.addr v = true ∧
    u.get F.TXA_CTL_FILT_BW ≠ t.get F.TXA_CTL_FILT_BW) ∧
  -- does_txRetireWrite
  (∃ (s : State) (src : Source) (half : Fin 2) (v : Word) (t : State),
    s.touch src = t ∧
    s.on = true ∧
    s.opens src (if half.val = 0 then F.TXA_RETIRE0_PATHS else F.TXA_RETIRE1_PATHS).addr v = true) ∧
  -- does_txdCntClrMute
  (∃ (s : State) (src : Source) (v : Word) (t : State) (w : Word),
    s.touch src = t ∧
    fixBit v 2 = w ∧
    s.on = true ∧
    s.opens src F.TXD_CNT_CLR_SAT.addr w = true ∧
    bitAt w.toNat 1 = false) ∧
  -- does_txdCntClrSat
  (∃ (s : State) (src : Source) (v : Word) (t : State) (w : Word),
    s.touch src = t ∧
    fixBit v 1 = w ∧
    s.on = true ∧
    s.opens src F.TXD_CNT_CLR_SAT.addr w = true ∧
    bitAt w.toNat 2 = false) ∧
  -- does_coexGntFall
  (∃ (s : State) (e : Nat) (u : State),
    tickUp s.tide.now = e ∧
    State.syncCoex { s with
 pins := { s.pins with coexGnt := false }
 tx := { s.tx with coexFall := some (s.tx.coexFall.getD (gridAt (gridFrom e))), coexLift := none } } = u ∧
    s.on = true ∧
    s.pins.coexGnt = true) ∧
  -- does_coexGntRise
  (∃ (s : State) (f : Nat),
    s.tx.coexFall = some f ∧
    s.on = true ∧
    s.pins.coexGnt = false) ∧
  -- does_coexMuteLift
  (∃ (s : State) (l : Nat) (t : State),
    s.tx.coexLift = some l ∧
    s.reachAbs l = t ∧
    s.on = true) ∧
  -- does_txCalReq
  (∃ (s : State) (src : Source) (v : Word) (t : State) (w : Word) (m : Nat),
    s.touch src = t ∧
    fixBit v 31 = w ∧
    t.presentQuads (bitsAt w.toNat 8 8) = m ∧
    s.on = true ∧
    s.opens src F.TXA_CAL_REQ_GO.addr w = true ∧
    m ≠ 0 ∧
    bitsAt w.toNat 0 5 % 16 ≠ 0 ∧
    t.tx.cal = none ∧
    (∀ c, t.rx.cal = some c → maskAnd c.quads m = 0)) ∧
  -- refuses_txCalReq
  (∃ (s : State) (src : Source) (v : Word) (t : State) (w : Word) (m : Nat),
    s.touch src = t ∧
    fixBit v 31 = w ∧
    t.presentQuads (bitsAt w.toNat 8 8) = m ∧
    s.on = true ∧
    s.opens src F.TXA_CAL_REQ_GO.addr w = true ∧
    (m = 0 ∨ bitsAt w.toNat 0 5 % 16 = 0 ∨ t.tx.cal ≠ none ∨ ∃ c, t.rx.cal = some c ∧ maskAnd c.quads m ≠ 0)) ∧
  -- does_txCalStart
  (∃ (s : State) (kind : Nat) (m : Nat) (w : Nat) (e : Nat) (u : State),
    s.tide.now + txCalSpan kind = e ∧
    (State.putb { s with tx := { s.tx with cal := some ⟨kind, m, w, some (stampOf e)⟩ } }
 F.TXA_CAL_STAT_WAIT false).putb F.TXA_CAL_STAT_BUSY true = u ∧
    s.on = true ∧
    s.tx.cal = some ⟨kind, m, w, none⟩ ∧
    s.gapCovers m (txCalSpan kind) = true) ∧
  -- does_txCalTimeout
  (∃ (s : State) (kind : Nat) (m : Nat) (w : Nat) (t : State),
    s.elapseTo w = t ∧
    s.on = true ∧
    s.tx.cal = some ⟨kind, m, w, none⟩) ∧
  -- does_txCalDone
  (∃ (s : State) (fail : BitVec 64) (limit : BitVec 64) (kind : Nat) (m : Nat) (w : Nat) (bad : Nat) (e : BitVec 64) (t : State) (v
   : State) (x : State) (y : State) (l : List Nat),
    s.reach e = t ∧
    t.pathsOf m = l ∧
    maskOr (mask fail) (mask limit) = bad ∧
    t.txCalRun kind l (mask fail) = v ∧
    ((State.putb { v with tx := { v.tx with cal := none } } F.TXA_CAL_STAT_BUSY false).put F.TXA_CAL_STAT_ACTIVE 0).put
 F.TXA_CAL_STAT_FAIL (failBits (v.get F.TXA_CAL_STAT_FAIL) m bad) = x ∧
    (x.txRestartAt (maskOf l) (x.absOf e) false).raise 0x0601 0 = y ∧
    s.on = true ∧
    s.tx.cal = some ⟨kind, m, w, some e⟩) ∧
  -- does_readbackGo
  (∃ (s : State) (src : Source) (v : Word) (t : State) (u : State) (w : Word),
    s.touch src = t ∧
    fixBit v 31 = w ∧
    t.plain F.TXA_RB_CTL_GO.addr w.toNat = u ∧
    s.on = true ∧
    s.opens src F.TXA_RB_CTL_GO.addr w = true ∧
    u.rbOff (bitsAt w.toNat 0 6) = false) ∧
  -- refuses_readbackGo
  (∃ (s : State) (src : Source) (v : Word) (t : State) (u : State) (w : Word),
    s.touch src = t ∧
    fixBit v 31 = w ∧
    t.plain F.TXA_RB_CTL_GO.addr w.toNat = u ∧
    s.on = true ∧
    s.opens src F.TXA_RB_CTL_GO.addr w = true ∧
    u.rbOff (bitsAt w.toNat 0 6) = true) ∧
  -- does_readbackDone
  (∃ (s : State) (k : Nat) (p : Nat) (t : State),
    ({ s with tx := { s.tx with readback := none } } : State) = t ∧
    s.on = true ∧
    s.tx.readback = some (k, p) ∧
    t.rbOff p = false) := by
  refine ⟨?_, ?_, ?_, ?_, ?_, ?_, ?_, ?_, ?_, ?_, ?_, ?_, ?_, ?_, ?_, ?_, ?_, ?_, ?_, ?_, ?_, ?_⟩
  · exact ⟨wide, .jtag, 0, _, _, rfl, rfl, by decide +kernel⟩
  · exact ⟨(State.puts wide [(F.TXD_CTL_RUN, 0)] : State), .jtag, 0, 0, _, _, rfl, rfl, by decide +kernel⟩
  · exact ⟨wide, .jtag, 0, 0, _, rfl, by decide +kernel⟩
  · exact ⟨wide, .jtag, 0, _, _, rfl, rfl, by decide +kernel⟩
  · exact (
    let s : State := ({ wide with tx := { wide.tx with ncoArm := some (5, 0x1000000) } } : State)
    let f : Int := match s.tx.ncoArm with | some (f, a) => f | _ => 0
    let a : BitVec 64 := match s.tx.ncoArm with | some (f, a) => a | _ => 0
    let t : State := s.reach a
    ⟨s, f, a, _, rfl, by decide +kernel⟩)
  · exact (
    let s : State := ({ wide with tx := { wide.tx with gains := [(9, 0, 3)] } } : State)
    let k : Nat := match s.tx.gains with | (k, g, b) :: l => k | _ => 0
    let g : Nat := match s.tx.gains with | (k, g, b) :: l => g | _ => 0
    let b : Nat := match s.tx.gains with | (k, g, b) :: l => b | _ => 0
    let l : List (Nat × Nat × Nat) := match s.tx.gains with | (k, g, b) :: l => l | _ => []
    ⟨s, k, g, b, l, by decide +kernel⟩)
  · exact (
    let s : State := ({ wide with tx := { wide.tx with restarts := [⟨1, 9, false⟩] } } : State)
    let r : TxRestart := match s.tx.restarts with | r :: rs => r | _ => ⟨0, 0, true⟩
    let rs : List TxRestart := match s.tx.restarts with | r :: rs => rs | _ => []
    ⟨s, r, rs, by decide +kernel⟩)
  · exact ⟨wide, .jtag, 0xFFFFFFFF, _, _, rfl, rfl, by decide +kernel⟩
  · exact ⟨wide, .jtag, 0, 0, _, rfl, by decide +kernel⟩
  · exact ⟨wide, .jtag, 0, _, _, rfl, rfl, by decide +kernel⟩
  · exact ⟨wide, .jtag, 0, _, _, rfl, rfl, by decide +kernel⟩
  · exact ⟨wide, _, _, rfl, rfl, by decide +kernel⟩
  · exact (
    let s : State := ({ wide with pins := { wide.pins with coexGnt := false }, tx := { wide.tx with coexFall := some 9 } } : State)
    let f : Nat := Option.get (s.tx.coexFall) (by decide +kernel)
    ⟨s, f, (Option.some_get _).symm, by decide +kernel⟩)
  · exact (
    let s : State := ({ wide with tx := { wide.tx with coexLift := some 9 } } : State)
    let l : Nat := Option.get (s.tx.coexLift) (by decide +kernel)
    let t : State := s.reachAbs l
    ⟨s, l, _, (Option.some_get _).symm, rfl, by decide +kernel⟩)
  · exact ⟨wide, .jtag, 0xFF1F, _, _, _, rfl, rfl, rfl, by decide +kernel⟩
  · exact ⟨wide, .jtag, 0, _, _, _, rfl, rfl, rfl, by decide +kernel⟩
  · exact (
    let s : State := ({ wide with tx := { wide.tx with cal := some ⟨1, 1, 9, none⟩ }, msgs := { wide.msgs with gaps := [⟨0, 0x4000000000000, 255, true⟩] } } : State)
    let kind : Nat := match s.tx.cal with | some ⟨kind, m, w, none⟩ => kind | _ => 0
    let m : Nat := match s.tx.cal with | some ⟨kind, m, w, none⟩ => m | _ => 0
    let w : Nat := match s.tx.cal with | some ⟨kind, m, w, none⟩ => w | _ => 0
    let e : Nat := s.tide.now + txCalSpan kind
    let u : State := (State.putb { s with tx := { s.tx with cal := some ⟨kind, m, w, some (stampOf e)⟩ } } F.TXA_CAL_STAT_WAIT false).putb F.TXA_CAL_STAT_BUSY true
    ⟨s, kind, m, w, _, _, rfl, rfl, by decide +kernel⟩)
  · exact (
    let s : State := ({ wide with tx := { wide.tx with cal := some ⟨1, 1, 9, none⟩ } } : State)
    let kind : Nat := match s.tx.cal with | some ⟨kind, m, w, none⟩ => kind | _ => 0
    let m : Nat := match s.tx.cal with | some ⟨kind, m, w, none⟩ => m | _ => 0
    let w : Nat := match s.tx.cal with | some ⟨kind, m, w, none⟩ => w | _ => 0
    let t : State := s.elapseTo w
    ⟨s, kind, m, w, _, rfl, by decide +kernel⟩)
  · exact (
    let s : State := ({ wide with tx := { wide.tx with cal := some ⟨1, 1, 9, some 0x1000000⟩ } } : State)
    let fail : BitVec 64 := 0
    let limit : BitVec 64 := 0
    let kind : Nat := match s.tx.cal with | some ⟨kind, m, w, some e⟩ => kind | _ => 0
    let m : Nat := match s.tx.cal with | some ⟨kind, m, w, some e⟩ => m | _ => 0
    let w : Nat := match s.tx.cal with | some ⟨kind, m, w, some e⟩ => w | _ => 0
    let e : BitVec 64 := match s.tx.cal with | some ⟨kind, m, w, some e⟩ => e | _ => 0
    let t : State := s.reach e
    let l : List Nat := t.pathsOf m
    let bad : Nat := maskOr (mask fail) (mask limit)
    let v : State := t.txCalRun kind l (mask fail)
    let x : State := ((State.putb { v with tx := { v.tx with cal := none } } F.TXA_CAL_STAT_BUSY false).put F.TXA_CAL_STAT_ACTIVE 0).put F.TXA_CAL_STAT_FAIL (failBits (v.get F.TXA_CAL_STAT_FAIL) m bad)
    let y : State := (x.txRestartAt (maskOf l) (x.absOf e) false).raise 0x0601 0
    ⟨s, fail, limit, kind, m, w, _, e, _, _, _, _, _, rfl, rfl, rfl, rfl, rfl, rfl, by decide +kernel⟩)
  · exact ⟨wide, .jtag, 0, _, _, _, rfl, rfl, rfl, by decide +kernel⟩
  · exact ⟨(State.puts wide [(F.TXA_RETIRE0_PATHS, 1)] : State), .jtag, 0, _, _, _, rfl, rfl, rfl, by decide +kernel⟩
  · exact (
    let s : State := ({ wide with tx := { wide.tx with readback := some (9, 3) } } : State)
    let k : Nat := match s.tx.readback with | some (k, p) => k | _ => 0
    let p : Nat := match s.tx.readback with | some (k, p) => p | _ => 0
    let t : State := ({ s with tx := { s.tx with readback := none } } : State)
    ⟨s, k, p, _, rfl, by decide +kernel⟩)

/-- Each clause of Predistortion has a state and operands that meet its hypotheses. -/
theorem meets_Predistortion :
  -- does_dpdCfgWrite
  (∃ (s : State) (src : Source) (i : Fin 33) (v : Word) (t : State) (a : Nat),
    s.touch src = t ∧
    (if i.val = 32 then F.DPD_XFADE_LEN.addr else (F.DPD_TERM_EN i.val).addr) = a ∧
    s.on = true ∧
    s.opens src a v = true ∧
    t.flag F.TXD_CTL_RUN = false ∧
    (i.val = 32 ∨ termOk v.toNat = true)) ∧
  -- refuses_dpdCfgWrite
  (∃ (s : State) (src : Source) (i : Fin 33) (v : Word) (t : State) (a : Nat),
    s.touch src = t ∧
    (if i.val = 32 then F.DPD_XFADE_LEN.addr else (F.DPD_TERM_EN i.val).addr) = a ∧
    s.on = true ∧
    s.opens src a v = true ∧
    (t.flag F.TXD_CTL_RUN = true ∨ (i.val ≠ 32 ∧ termOk v.toNat = false))) ∧
  -- does_dpdPctlWrite
  (∃ (s : State) (src : Source) (p : Fin 64) (v : Word) (t : State),
    s.touch src = t ∧
    s.on = true ∧
    s.opens src (F.DPD_P_CTL_ADAPT_EN p.val).addr v = true) ∧
  -- does_dpdBankWrite
  (∃ (s : State) (src : Source) (p : Fin 64) (bank : Fin 8) (t : State),
    s.touch src = t ∧
    s.on = true ∧
    t.hasPath p.val = true ∧
    t.srcLevel src true ≠ 0 ∧
    t.up domDPD = true ∧
    t.dpdInUse p.val bank.val = false ∧
    (t.dpdPath p.val).capture = none) ∧
  -- bars_dpdBankWrite
  (∃ (s : State) (src : Source) (p : Fin 64) (bank : Fin 8) (t : State),
    s.touch src = t ∧
    s.on = true ∧
    t.hasPath p.val = true ∧
    t.srcLevel src true ≠ 0 ∧
    t.up domDPD = true ∧
    t.dpdInUse p.val bank.val = true) ∧
  -- does_dpdSwapGo
  (∃ (s : State) (src : Source) (v : Word) (t : State) (u : State) (w : Word),
    s.touch src = t ∧
    fixBit v 31 = w ∧
    t.plain F.DPD_SWAP_CTL_GO.addr w.toNat = u ∧
    s.on = true ∧
    s.opens src F.DPD_SWAP_CTL_GO.addr w = true) ∧
  -- does_fadeComplete
  (∃ (s : State) (p : Fin 64) (f : Fade),
    (s.dpdPath p.val).fade = some f ∧
    s.on = true) ∧
  -- does_orxSlot
  (∃ (s : State) (k : Fin 8) (fill : Fin 2049) (lost : BitVec 16) (p : Nat) (t : State) (u : State),
    s.orxNext k.val = some p ∧
    State.meter { s with dpd := { s.dpd with
   lastPath := sparseInsert s.dpd.lastPath k.val p
   lastSlot := sparseInsert s.dpd.lastSlot k.val s.aon
   nofbSlot := if s.flag (F.DPD_P_STAT_NOFB p) then sparseInsert s.dpd.nofbSlot p s.aon else s.dpd.nofbSlot } } 1
 ((2048 - fill.val) * 3125 / 6144) = t ∧
    (if lost.toNat = 0 then t else (t.add (F.TOP_SLIP_CNT_COUNT 1) lost.toNat).raiseMs 0x0002 (info2 1 k.val) (256 + k.val))
 = u ∧
    s.on = true ∧
    s.orxSlotOpen k.val = true ∧
    u.orxCan p = true) ∧
  -- skips_orxSlot
  (∃ (s : State) (k : Fin 8) (found : Bool) (fill : Fin 2049) (lost : BitVec 16) (p : Nat) (t : State) (u : State),
    s.orxNext k.val = some p ∧
    State.meter { s with dpd := { s.dpd with
   lastPath := sparseInsert s.dpd.lastPath k.val p
   lastSlot := sparseInsert s.dpd.lastSlot k.val s.aon
   nofbSlot := if s.flag (F.DPD_P_STAT_NOFB p) then sparseInsert s.dpd.nofbSlot p s.aon else s.dpd.nofbSlot } } 1
 ((2048 - fill.val) * 3125 / 6144) = t ∧
    (if lost.toNat = 0 then t else (t.add (F.TOP_SLIP_CNT_COUNT 1) lost.toNat).raiseMs 0x0002 (info2 1 k.val) (256 + k.val))
 = u ∧
    s.on = true ∧
    s.orxSlotOpen k.val = true ∧
    (found && u.orxCan p) = false) ∧
  -- does_dpdSolveDone
  (∃ (s : State) (p : Fin 64) (rms : Int) (corr : Fin 1001) (delay : Fin 2048) (nmse : BitVec 16) (x : DpdPath) (bank : Nat) (e :
   Nat) (b : Bool) (t : State) (u : State),
    s.dpdPath p.val = x ∧
    s.setDpdPath p.val { x with capture := none } = t ∧
    (t.alignGood p.val delay.val).dpdErr p.val nmse.toInt e = u ∧
    s.on = true ∧
    x.capture = some (bank, b, e) ∧
    -(((100 * s.get F.DPD_CHECK_MIN_DB : Nat) : Int)) ≤ rms ∧
    500 ≤ corr.val ∧
    (u.dpdPath p.val).applied = none) ∧
  -- reverts_dpdSolveDone
  (∃ (s : State) (p : Fin 64) (rms : Int) (corr : Fin 1001) (delay : Fin 2048) (nmse : BitVec 16) (x : DpdPath) (bank : Nat) (e :
   Nat) (b : Bool) (old : Int) (t : State) (u : State),
    s.dpdPath p.val = x ∧
    s.setDpdPath p.val { x with capture := none } = t ∧
    (t.alignGood p.val delay.val).dpdErr p.val nmse.toInt e = u ∧
    s.on = true ∧
    x.capture = some (bank, b, e) ∧
    -(((100 * s.get F.DPD_CHECK_MIN_DB : Nat) : Int)) ≤ rms ∧
    500 ≤ corr.val ∧
    (u.dpdPath p.val).applied = some (bank, old) ∧
    u.dpdActive p.val = bank ∧
    old + ((10 * u.get F.DPD_CHECK_REVERT_DB : Nat) : Int) < nmse.toInt) ∧
  -- rejects_dpdSolveDone
  (∃ (s : State) (p : Fin 64) (rms : Int) (ovr : Bool) (corr : Fin 1001) (x : DpdPath) (bank : Nat) (e : Nat) (b : Bool) (t :
   State),
    s.dpdPath p.val = x ∧
    s.setDpdPath p.val { x with capture := none } = t ∧
    s.on = true ∧
    x.capture = some (bank, b, e) ∧
    (rms < -(((100 * s.get F.DPD_CHECK_MIN_DB : Nat) : Int)) ∨ ovr = true ∨ corr.val < 500)) ∧
  -- does_refreshFadeStart
  (∃ (s : State) (p : Fin 64) (x : DpdPath) (bank : Nat) (n : Nat) (coef : List Cx),
    s.dpdPath p.val = x ∧
    s.fadeLen = n ∧
    s.on = true ∧
    x.refresh = some ⟨bank, coef, false⟩ ∧
    s.dpdActive p.val = bank ∧
    x.fade = none ∧
    s.flag (F.DPD_P_STAT_QV p.val) = false ∧
    n ≠ 0) ∧
  -- does_orxSliceExchange
  (∃ (s : State) (k : Fin 8) (q : Fin 2) (slice : Fin 17) (a : OrxAdc) (b : OrxAdc) (sp : Nat) (o : Nat) (os : List Nat) (t :
   State),
    s.orxAdc k.val q.val = a ∧
    s.setOrxAdc k.val q.val { a with resid := setNth a.resid slice.val 0 } = t ∧
    t.orxAdc k.val q.val = b ∧
    b.spare = some sp ∧
    s.on = true ∧
    s.hasQuad k.val = true ∧
    b.order = o :: os) ∧
  -- does_orxSliceExchange_trim
  (∃ (s : State) (k : Fin 8) (q : Fin 2) (slice : Fin 17) (a : OrxAdc) (t : State),
    s.orxAdc k.val q.val = a ∧
    s.setOrxAdc k.val q.val { a with resid := setNth a.resid slice.val 0 } = t ∧
    s.on = true ∧
    s.hasQuad k.val = true) ∧
  -- does_dpdCntClrPath
  (∃ (s : State) (src : Source) (v : Word) (t : State) (w : Word),
    s.touch src = t ∧
    fixBit v 2 = w ∧
    s.on = true ∧
    s.opens src F.DPD_CNT_CLR_PATH.addr w = true ∧
    bitAt w.toNat 1 = false ∧
    bitAt w.toNat 0 = false) ∧
  -- does_dpdCntClrDrop
  (∃ (s : State) (src : Source) (v : Word) (t : State) (w : Word),
    s.touch src = t ∧
    fixBit v 1 = w ∧
    s.on = true ∧
    s.opens src F.DPD_CNT_CLR_PATH.addr w = true ∧
    bitAt w.toNat 2 = false ∧
    bitAt w.toNat 0 = false) ∧
  -- does_dpdCntClrActwr
  (∃ (s : State) (src : Source) (v : Word) (t : State) (w : Word),
    s.touch src = t ∧
    fixBit v 0 = w ∧
    s.on = true ∧
    s.opens src F.DPD_CNT_CLR_PATH.addr w = true ∧
    bitAt w.toNat 2 = false ∧
    bitAt w.toNat 1 = false) := by
  refine ⟨?_, ?_, ?_, ?_, ?_, ?_, ?_, ?_, ?_, ?_, ?_, ?_, ?_, ?_, ?_, ?_, ?_, ?_⟩
  · exact ⟨(State.puts wide [(F.TXD_CTL_RUN, 0)] : State), .jtag, 32, 0, _, _, rfl, rfl, by decide +kernel⟩
  · exact ⟨wide, .jtag, 0, 0, _, _, rfl, rfl, by decide +kernel⟩
  · exact ⟨wide, .jtag, 0, 0, _, rfl, by decide +kernel⟩
  · exact ⟨wide, .jtag, 0, 1, _, rfl, by decide +kernel⟩
  · exact ⟨wide, .jtag, 0, 0, _, rfl, by decide +kernel⟩
  · exact ⟨wide, .jtag, 0, _, _, _, rfl, rfl, rfl, by decide +kernel⟩
  · exact (
    let s : State := ({ wide with dpd := { wide.dpd with paths := [(0, { fade := some ⟨0, 1, 0, 4, [], []⟩ })] } } : State)
    let p : Fin 64 := 0
    let f : Fade := Option.get ((s.dpdPath p.val).fade) (by decide +kernel)
    ⟨s, p, f, (Option.some_get _).symm, by decide +kernel⟩)
  · exact (
    let s : State := (State.puts wide [(F.DPD_CTL_ADAPT, 1), (F.DPD_P_CTL_ADAPT_EN 0, 1), (F.TXA_ENABLE0_PATHS, 1), (F.DPD_P_STAT_EMPTY 0, 0)] : State)
    let k : Fin 8 := 0
    let fill : Fin 2049 := 0
    let lost : BitVec 16 := 0
    let p : Nat := Option.get (s.orxNext k.val) (by decide +kernel)
    let t : State := State.meter { s with dpd := { s.dpd with lastPath := sparseInsert s.dpd.lastPath k.val p, lastSlot := sparseInsert s.dpd.lastSlot k.val s.aon, nofbSlot := if s.flag (F.DPD_P_STAT_NOFB p) then sparseInsert s.dpd.nofbSlot p s.aon else s.dpd.nofbSlot } } 1 ((2048 - fill.val) * 3125 / 6144)
    let u : State := (if lost.toNat = 0 then t else (t.add (F.TOP_SLIP_CNT_COUNT 1) lost.toNat).raiseMs 0x0002 (info2 1 k.val) (256 + k.val))
    ⟨s, k, fill, lost, p, _, _, (Option.some_get _).symm, rfl, rfl, by decide +kernel⟩)
  · exact (
    let s : State := (State.puts wide [(F.DPD_CTL_ADAPT, 1), (F.DPD_P_CTL_ADAPT_EN 0, 1), (F.TXA_ENABLE0_PATHS, 1), (F.DPD_P_STAT_EMPTY 0, 0)] : State)
    let k : Fin 8 := 0
    let found : Bool := false
    let fill : Fin 2049 := 0
    let lost : BitVec 16 := 0
    let p : Nat := Option.get (s.orxNext k.val) (by decide +kernel)
    let t : State := State.meter { s with dpd := { s.dpd with lastPath := sparseInsert s.dpd.lastPath k.val p, lastSlot := sparseInsert s.dpd.lastSlot k.val s.aon, nofbSlot := if s.flag (F.DPD_P_STAT_NOFB p) then sparseInsert s.dpd.nofbSlot p s.aon else s.dpd.nofbSlot } } 1 ((2048 - fill.val) * 3125 / 6144)
    let u : State := (if lost.toNat = 0 then t else (t.add (F.TOP_SLIP_CNT_COUNT 1) lost.toNat).raiseMs 0x0002 (info2 1 k.val) (256 + k.val))
    ⟨s, k, found, fill, lost, p, _, _, (Option.some_get _).symm, rfl, rfl, by decide +kernel⟩)
  · exact (
    let s : State := ({ wide with dpd := { wide.dpd with paths := [(0, { capture := some (0, false, 9) })] } } : State)
    let p : Fin 64 := 0
    let rms : Int := 0
    let corr : Fin 1001 := 500
    let delay : Fin 2048 := 0
    let nmse : BitVec 16 := 0
    let x : DpdPath := s.dpdPath p.val
    let bank : Nat := match x.capture with | some (bank, b, e) => bank | _ => 0
    let e : Nat := match x.capture with | some (bank, b, e) => e | _ => 0
    let b : Bool := match x.capture with | some (bank, b, e) => b | _ => true
    let t : State := s.setDpdPath p.val { x with capture := none }
    let u : State := (t.alignGood p.val delay.val).dpdErr p.val nmse.toInt e
    ⟨s, p, rms, corr, delay, nmse, _, bank, e, b, _, _, rfl, rfl, rfl, by decide +kernel⟩)
  · exact (
    let s : State := ({ wide with dpd := { wide.dpd with paths := [(0, { capture := some (0, false, 9), applied := some (0, -32768) })] } } : State)
    let p : Fin 64 := 0
    let rms : Int := 0
    let corr : Fin 1001 := 500
    let delay : Fin 2048 := 0
    let nmse : BitVec 16 := 0
    let x : DpdPath := s.dpdPath p.val
    let bank : Nat := match x.capture with | some (bank, b, e) => bank | _ => 0
    let e : Nat := match x.capture with | some (bank, b, e) => e | _ => 0
    let b : Bool := match x.capture with | some (bank, b, e) => b | _ => true
    let t : State := s.setDpdPath p.val { x with capture := none }
    let u : State := (t.alignGood p.val delay.val).dpdErr p.val nmse.toInt e
    let old : Int := match (u.dpdPath p.val).applied with | some (bank, old) => old | _ => 0
    ⟨s, p, rms, corr, delay, nmse, _, bank, e, b, old, _, _, rfl, rfl, rfl, by decide +kernel⟩)
  · exact (
    let s : State := ({ wide with dpd := { wide.dpd with paths := [(0, { capture := some (0, false, 9) })] } } : State)
    let p : Fin 64 := 0
    let rms : Int := 0
    let ovr : Bool := true
    let corr : Fin 1001 := 0
    let x : DpdPath := s.dpdPath p.val
    let bank : Nat := match x.capture with | some (bank, b, e) => bank | _ => 0
    let e : Nat := match x.capture with | some (bank, b, e) => e | _ => 0
    let b : Bool := match x.capture with | some (bank, b, e) => b | _ => true
    let t : State := s.setDpdPath p.val { x with capture := none }
    ⟨s, p, rms, ovr, corr, _, bank, e, b, _, rfl, rfl, by decide +kernel⟩)
  · exact (
    let s : State := ({ wide with dpd := { wide.dpd with paths := [(0, { refresh := some ⟨0, [], false⟩ })] } } : State)
    let p : Fin 64 := 0
    let x : DpdPath := s.dpdPath p.val
    let bank : Nat := match x.refresh with | some ⟨bank, coef, false⟩ => bank | _ => 0
    let coef : List Cx := match x.refresh with | some ⟨bank, coef, false⟩ => coef | _ => []
    let n : Nat := s.fadeLen
    ⟨s, p, _, bank, _, coef, rfl, rfl, by decide +kernel⟩)
  · exact (
    let s : State := wide
    let k : Fin 8 := 0
    let q : Fin 2 := 0
    let slice : Fin 17 := 0
    let a : OrxAdc := s.orxAdc k.val q.val
    let t : State := s.setOrxAdc k.val q.val { a with resid := setNth a.resid slice.val 0 }
    let b : OrxAdc := t.orxAdc k.val q.val
    let sp : Nat := Option.get (b.spare) (by decide +kernel)
    let o : Nat := match b.order with | o :: os => o | _ => 0
    let os : List Nat := match b.order with | o :: os => os | _ => []
    ⟨s, k, q, slice, _, _, sp, o, os, _, rfl, rfl, rfl, (Option.some_get _).symm, by decide +kernel⟩)
  · exact ⟨wide, 0, 0, 0, _, _, rfl, rfl, by decide +kernel⟩
  · exact ⟨wide, .jtag, 0, _, _, rfl, rfl, by decide +kernel⟩
  · exact ⟨wide, .jtag, 0, _, _, rfl, rfl, by decide +kernel⟩
  · exact ⟨wide, .jtag, 0, _, _, rfl, rfl, by decide +kernel⟩

end Sys2Proof.Machine
end

