-- ==== Sys2Proof/Tests/Meets2.lean ====
section
/-! SUPPORT. States and operands that meet the hypotheses of the statements about the commands, clause by clause: QuayBundles to
LookoutCommands. -/

namespace Sys2Proof.Machine

set_option Elab.async false

/-- Each clause of QuayBundles has a state and operands that meet its hypotheses. -/
theorem meets_QuayBundles :
  -- does_nop
  (∃ (s : State) (q : Fin 96) (b : Bundle) (t : State),
    s.bundleAt q.val = b ∧
    (s.waitCount q.val).put (F.QCTL_K_STAT_WAIT q.val) 0 = t ∧
    s.on = true ∧
    s.coreRuns q.val = true ∧
    b.opc = 0x00 ∧
    s.coreFault q.val b = 0 ∧
    s.coreWaits q.val b = 0) ∧
  -- does_mac
  (∃ (s : State) (q : Fin 96) (b : Bundle) (t : State),
    s.bundleAt q.val = b ∧
    (s.waitCount q.val).put (F.QCTL_K_STAT_WAIT q.val) 0 = t ∧
    s.on = true ∧
    s.coreRuns q.val = true ∧
    b.opc = 0x01 ∧
    s.coreFault q.val b = 0 ∧
    s.coreWaits q.val b = 0) ∧
  -- does_macc
  (∃ (s : State) (q : Fin 96) (b : Bundle) (t : State),
    s.bundleAt q.val = b ∧
    (s.waitCount q.val).put (F.QCTL_K_STAT_WAIT q.val) 0 = t ∧
    s.on = true ∧
    s.coreRuns q.val = true ∧
    b.opc = 0x02 ∧
    s.coreFault q.val b = 0 ∧
    s.coreWaits q.val b = 0) ∧
  -- does_msu
  (∃ (s : State) (q : Fin 96) (b : Bundle) (t : State),
    s.bundleAt q.val = b ∧
    (s.waitCount q.val).put (F.QCTL_K_STAT_WAIT q.val) 0 = t ∧
    s.on = true ∧
    s.coreRuns q.val = true ∧
    b.opc = 0x03 ∧
    s.coreFault q.val b = 0 ∧
    s.coreWaits q.val b = 0) ∧
  -- does_mul
  (∃ (s : State) (q : Fin 96) (b : Bundle) (t : State),
    s.bundleAt q.val = b ∧
    (s.waitCount q.val).put (F.QCTL_K_STAT_WAIT q.val) 0 = t ∧
    s.on = true ∧
    s.coreRuns q.val = true ∧
    b.opc = 0x04 ∧
    s.coreFault q.val b = 0 ∧
    s.coreWaits q.val b = 0) ∧
  -- does_mulc
  (∃ (s : State) (q : Fin 96) (b : Bundle) (t : State),
    s.bundleAt q.val = b ∧
    (s.waitCount q.val).put (F.QCTL_K_STAT_WAIT q.val) 0 = t ∧
    s.on = true ∧
    s.coreRuns q.val = true ∧
    b.opc = 0x05 ∧
    s.coreFault q.val b = 0 ∧
    s.coreWaits q.val b = 0) ∧
  -- does_mag2
  (∃ (s : State) (q : Fin 96) (b : Bundle) (t : State),
    s.bundleAt q.val = b ∧
    (s.waitCount q.val).put (F.QCTL_K_STAT_WAIT q.val) 0 = t ∧
    s.on = true ∧
    s.coreRuns q.val = true ∧
    b.opc = 0x06 ∧
    s.coreFault q.val b = 0 ∧
    s.coreWaits q.val b = 0) ∧
  -- does_adda
  (∃ (s : State) (q : Fin 96) (b : Bundle) (t : State),
    s.bundleAt q.val = b ∧
    (s.waitCount q.val).put (F.QCTL_K_STAT_WAIT q.val) 0 = t ∧
    s.on = true ∧
    s.coreRuns q.val = true ∧
    b.opc = 0x07 ∧
    s.coreFault q.val b = 0 ∧
    s.coreWaits q.val b = 0) ∧
  -- does_zero
  (∃ (s : State) (q : Fin 96) (b : Bundle) (t : State),
    s.bundleAt q.val = b ∧
    (s.waitCount q.val).put (F.QCTL_K_STAT_WAIT q.val) 0 = t ∧
    s.on = true ∧
    s.coreRuns q.val = true ∧
    b.opc = 0x08 ∧
    s.coreFault q.val b = 0 ∧
    s.coreWaits q.val b = 0) ∧
  -- does_shra
  (∃ (s : State) (q : Fin 96) (b : Bundle) (t : State),
    s.bundleAt q.val = b ∧
    (s.waitCount q.val).put (F.QCTL_K_STAT_WAIT q.val) 0 = t ∧
    s.on = true ∧
    s.coreRuns q.val = true ∧
    b.opc = 0x09 ∧
    s.coreFault q.val b = 0 ∧
    s.coreWaits q.val b = 0) ∧
  -- does_nr
  (∃ (s : State) (q : Fin 96) (b : Bundle) (t : State),
    s.bundleAt q.val = b ∧
    (s.waitCount q.val).put (F.QCTL_K_STAT_WAIT q.val) 0 = t ∧
    s.on = true ∧
    s.coreRuns q.val = true ∧
    b.opc = 0x10 ∧
    s.coreFault q.val b = 0 ∧
    s.coreWaits q.val b = 0) ∧
  -- does_nrc
  (∃ (s : State) (q : Fin 96) (b : Bundle) (t : State),
    s.bundleAt q.val = b ∧
    (s.waitCount q.val).put (F.QCTL_K_STAT_WAIT q.val) 0 = t ∧
    s.on = true ∧
    s.coreRuns q.val = true ∧
    b.opc = 0x11 ∧
    s.coreFault q.val b = 0 ∧
    s.coreWaits q.val b = 0) ∧
  -- does_nro
  (∃ (s : State) (q : Fin 96) (b : Bundle) (t : State),
    s.bundleAt q.val = b ∧
    (s.waitCount q.val).put (F.QCTL_K_STAT_WAIT q.val) 0 = t ∧
    s.on = true ∧
    s.coreRuns q.val = true ∧
    b.opc = 0x12 ∧
    s.coreFault q.val b = 0 ∧
    s.coreWaits q.val b = 0) ∧
  -- does_add
  (∃ (s : State) (q : Fin 96) (b : Bundle) (t : State),
    s.bundleAt q.val = b ∧
    (s.waitCount q.val).put (F.QCTL_K_STAT_WAIT q.val) 0 = t ∧
    s.on = true ∧
    s.coreRuns q.val = true ∧
    b.opc = 0x18 ∧
    s.coreFault q.val b = 0 ∧
    s.coreWaits q.val b = 0) ∧
  -- does_sub
  (∃ (s : State) (q : Fin 96) (b : Bundle) (t : State),
    s.bundleAt q.val = b ∧
    (s.waitCount q.val).put (F.QCTL_K_STAT_WAIT q.val) 0 = t ∧
    s.on = true ∧
    s.coreRuns q.val = true ∧
    b.opc = 0x19 ∧
    s.coreFault q.val b = 0 ∧
    s.coreWaits q.val b = 0) ∧
  -- does_cmul
  (∃ (s : State) (q : Fin 96) (b : Bundle) (t : State),
    s.bundleAt q.val = b ∧
    (s.waitCount q.val).put (F.QCTL_K_STAT_WAIT q.val) 0 = t ∧
    s.on = true ∧
    s.coreRuns q.val = true ∧
    b.opc = 0x1A ∧
    s.coreFault q.val b = 0 ∧
    s.coreWaits q.val b = 0) ∧
  -- does_conj
  (∃ (s : State) (q : Fin 96) (b : Bundle) (t : State),
    s.bundleAt q.val = b ∧
    (s.waitCount q.val).put (F.QCTL_K_STAT_WAIT q.val) 0 = t ∧
    s.on = true ∧
    s.coreRuns q.val = true ∧
    b.opc = 0x1B ∧
    s.coreFault q.val b = 0 ∧
    s.coreWaits q.val b = 0) ∧
  -- does_neg
  (∃ (s : State) (q : Fin 96) (b : Bundle) (t : State),
    s.bundleAt q.val = b ∧
    (s.waitCount q.val).put (F.QCTL_K_STAT_WAIT q.val) 0 = t ∧
    s.on = true ∧
    s.coreRuns q.val = true ∧
    b.opc = 0x1C ∧
    s.coreFault q.val b = 0 ∧
    s.coreWaits q.val b = 0) ∧
  -- does_movv
  (∃ (s : State) (q : Fin 96) (b : Bundle) (t : State),
    s.bundleAt q.val = b ∧
    (s.waitCount q.val).put (F.QCTL_K_STAT_WAIT q.val) 0 = t ∧
    s.on = true ∧
    s.coreRuns q.val = true ∧
    b.opc = 0x1D ∧
    s.coreFault q.val b = 0 ∧
    s.coreWaits q.val b = 0) ∧
  -- does_rot
  (∃ (s : State) (q : Fin 96) (b : Bundle) (t : State),
    s.bundleAt q.val = b ∧
    (s.waitCount q.val).put (F.QCTL_K_STAT_WAIT q.val) 0 = t ∧
    s.on = true ∧
    s.coreRuns q.val = true ∧
    b.opc = 0x1E ∧
    s.coreFault q.val b = 0 ∧
    s.coreWaits q.val b = 0) ∧
  -- does_bcast
  (∃ (s : State) (q : Fin 96) (b : Bundle) (t : State),
    s.bundleAt q.val = b ∧
    (s.waitCount q.val).put (F.QCTL_K_STAT_WAIT q.val) 0 = t ∧
    s.on = true ∧
    s.coreRuns q.val = true ∧
    b.opc = 0x1F ∧
    s.coreFault q.val b = 0 ∧
    s.coreWaits q.val b = 0) ∧
  -- does_out
  (∃ (s : State) (q : Fin 96) (b : Bundle) (t : State),
    s.bundleAt q.val = b ∧
    (s.waitCount q.val).put (F.QCTL_K_STAT_WAIT q.val) 0 = t ∧
    s.on = true ∧
    s.coreRuns q.val = true ∧
    b.opc = 0x20 ∧
    s.coreFault q.val b = 0 ∧
    s.coreWaits q.val b = 0) ∧
  -- does_loop
  (∃ (s : State) (q : Fin 96) (b : Bundle) (t : State),
    s.bundleAt q.val = b ∧
    (s.waitCount q.val).put (F.QCTL_K_STAT_WAIT q.val) 0 = t ∧
    s.on = true ∧
    s.coreRuns q.val = true ∧
    b.opc = 0x30 ∧
    s.coreFault q.val b = 0 ∧
    s.coreWaits q.val b = 0) ∧
  -- does_jmp
  (∃ (s : State) (q : Fin 96) (b : Bundle) (t : State),
    s.bundleAt q.val = b ∧
    (s.waitCount q.val).put (F.QCTL_K_STAT_WAIT q.val) 0 = t ∧
    s.on = true ∧
    s.coreRuns q.val = true ∧
    b.opc = 0x31 ∧
    s.coreFault q.val b = 0 ∧
    s.coreWaits q.val b = 0) ∧
  -- does_movr
  (∃ (s : State) (q : Fin 96) (b : Bundle) (t : State),
    s.bundleAt q.val = b ∧
    (s.waitCount q.val).put (F.QCTL_K_STAT_WAIT q.val) 0 = t ∧
    s.on = true ∧
    s.coreRuns q.val = true ∧
    b.opc = 0x32 ∧
    s.coreFault q.val b = 0 ∧
    s.coreWaits q.val b = 0) ∧
  -- does_halt
  (∃ (s : State) (q : Fin 96) (b : Bundle) (t : State),
    s.bundleAt q.val = b ∧
    (s.waitCount q.val).put (F.QCTL_K_STAT_WAIT q.val) 0 = t ∧
    s.on = true ∧
    s.coreRuns q.val = true ∧
    b.opc = 0x3F ∧
    s.coreFault q.val b = 0 ∧
    s.coreWaits q.val b = 0) ∧
  -- does_illegalBundle
  (∃ (s : State) (q : Fin 96) (b : Bundle),
    s.bundleAt q.val = b ∧
    s.on = true ∧
    s.coreRuns q.val = true ∧
    b.illegal = true) := by
  refine ⟨?_, ?_, ?_, ?_, ?_, ?_, ?_, ?_, ?_, ?_, ?_, ?_, ?_, ?_, ?_, ?_, ?_, ?_, ?_, ?_, ?_, ?_, ?_, ?_, ?_, ?_, ?_⟩
  · exact ⟨(State.puts wide [(F.QCTL_K_STAT_RUNNING 0, 1)] : State), 0, _, _, rfl, rfl, by decide +kernel⟩
  · exact ⟨(State.puts { wide with mem := [(0x1000007, 4)] } [(F.QCTL_K_STAT_RUNNING 0, 1)] : State), 0, _, _, rfl, rfl,
            by decide +kernel⟩
  · exact ⟨(State.puts { wide with mem := [(0x1000007, 8)] } [(F.QCTL_K_STAT_RUNNING 0, 1)] : State), 0, _, _, rfl, rfl,
            by decide +kernel⟩
  · exact ⟨(State.puts { wide with mem := [(0x1000007, 12)] } [(F.QCTL_K_STAT_RUNNING 0, 1)] : State), 0, _, _, rfl, rfl,
            by decide +kernel⟩
  · exact ⟨(State.puts { wide with mem := [(0x1000007, 16)] } [(F.QCTL_K_STAT_RUNNING 0, 1)] : State), 0, _, _, rfl, rfl,
            by decide +kernel⟩
  · exact ⟨(State.puts { wide with mem := [(0x1000007, 20)] } [(F.QCTL_K_STAT_RUNNING 0, 1)] : State), 0, _, _, rfl, rfl,
            by decide +kernel⟩
  · exact ⟨(State.puts { wide with mem := [(0x1000007, 24)] } [(F.QCTL_K_STAT_RUNNING 0, 1)] : State), 0, _, _, rfl, rfl,
            by decide +kernel⟩
  · exact ⟨(State.puts { wide with mem := [(0x1000007, 28)] } [(F.QCTL_K_STAT_RUNNING 0, 1)] : State), 0, _, _, rfl, rfl,
            by decide +kernel⟩
  · exact ⟨(State.puts { wide with mem := [(0x1000007, 32)] } [(F.QCTL_K_STAT_RUNNING 0, 1)] : State), 0, _, _, rfl, rfl,
            by decide +kernel⟩
  · exact ⟨(State.puts { wide with mem := [(0x1000007, 36)] } [(F.QCTL_K_STAT_RUNNING 0, 1)] : State), 0, _, _, rfl, rfl,
            by decide +kernel⟩
  · exact ⟨(State.puts { wide with mem := [(0x1000007, 64)] } [(F.QCTL_K_STAT_RUNNING 0, 1)] : State), 0, _, _, rfl, rfl,
            by decide +kernel⟩
  · exact ⟨(State.puts { wide with mem := [(0x1000007, 68)] } [(F.QCTL_K_STAT_RUNNING 0, 1)] : State), 0, _, _, rfl, rfl,
            by decide +kernel⟩
  · exact ⟨(State.puts { wide with mem := [(0x1000007, 72)] } [(F.QCTL_K_STAT_RUNNING 0, 1)] : State), 0, _, _, rfl, rfl,
            by decide +kernel⟩
  · exact ⟨(State.puts { wide with mem := [(0x1000007, 96)] } [(F.QCTL_K_STAT_RUNNING 0, 1)] : State), 0, _, _, rfl, rfl,
            by decide +kernel⟩
  · exact ⟨(State.puts { wide with mem := [(0x1000007, 100)] } [(F.QCTL_K_STAT_RUNNING 0, 1)] : State), 0, _, _, rfl, rfl,
            by decide +kernel⟩
  · exact ⟨(State.puts { wide with mem := [(0x1000007, 104)] } [(F.QCTL_K_STAT_RUNNING 0, 1)] : State), 0, _, _, rfl, rfl,
            by decide +kernel⟩
  · exact ⟨(State.puts { wide with mem := [(0x1000007, 108)] } [(F.QCTL_K_STAT_RUNNING 0, 1)] : State), 0, _, _, rfl, rfl,
            by decide +kernel⟩
  · exact ⟨(State.puts { wide with mem := [(0x1000007, 112)] } [(F.QCTL_K_STAT_RUNNING 0, 1)] : State), 0, _, _, rfl, rfl,
            by decide +kernel⟩
  · exact ⟨(State.puts { wide with mem := [(0x1000007, 116)] } [(F.QCTL_K_STAT_RUNNING 0, 1)] : State), 0, _, _, rfl, rfl,
            by decide +kernel⟩
  · exact ⟨(State.puts { wide with mem := [(0x1000007, 120)] } [(F.QCTL_K_STAT_RUNNING 0, 1)] : State), 0, _, _, rfl, rfl,
            by decide +kernel⟩
  · exact ⟨(State.puts { wide with mem := [(0x1000007, 124)] } [(F.QCTL_K_STAT_RUNNING 0, 1)] : State), 0, _, _, rfl, rfl,
            by decide +kernel⟩
  · exact ⟨(State.puts { wide with mem := [(0x1000007, 128)] } [(F.QCTL_K_STAT_RUNNING 0, 1)] : State), 0, _, _, rfl, rfl,
            by decide +kernel⟩
  · exact ⟨(State.puts { wide with mem := [(0x1000007, 192)] } [(F.QCTL_K_STAT_RUNNING 0, 1)] : State), 0, _, _, rfl, rfl,
            by decide +kernel⟩
  · exact ⟨(State.puts { wide with mem := [(0x1000007, 196)] } [(F.QCTL_K_STAT_RUNNING 0, 1)] : State), 0, _, _, rfl, rfl,
            by decide +kernel⟩
  · exact ⟨(State.puts { wide with mem := [(0x1000007, 200)] } [(F.QCTL_K_STAT_RUNNING 0, 1)] : State), 0, _, _, rfl, rfl,
            by decide +kernel⟩
  · exact ⟨(State.puts { wide with mem := [(0x1000007, 252)] } [(F.QCTL_K_STAT_RUNNING 0, 1)] : State), 0, _, _, rfl, rfl,
            by decide +kernel⟩
  · exact ⟨(State.puts { wide with mem := [(0x1000007, 40)] } [(F.QCTL_K_STAT_RUNNING 0, 1)] : State), 0, _, rfl, by decide +kernel⟩

/-- Each clause of QuayClusters has a state and operands that meet its hypotheses. -/
theorem meets_QuayClusters :
  -- does_unitDeal
  (∃ (s : State) (c : Fin 4) (t : State) (u : State),
    s.dealCheck c.val = t ∧
    t.dealBlock c.val (t.cluster c.val).next = u ∧
    s.on = true ∧
    (t.cluster c.val).begun = true ∧
    t.dirOf c.val = 0 ∧
    t.blockReady c.val (t.cluster c.val).next = true) ∧
  -- does_unitDeal_transmit
  (∃ (s : State) (c : Fin 4) (t : State) (x : State) (u : State),
    s.dealCheck c.val = t ∧
    t.reachAbs (t.tapAt 2 (8 * (t.cluster c.val).next + 7) - txLead) = x ∧
    x.dealBlock c.val (t.cluster c.val).next = u ∧
    s.on = true ∧
    (t.cluster c.val).begun = true ∧
    t.dirOf c.val ≠ 0 ∧
    x.blockReady c.val (t.cluster c.val).next = true) ∧
  -- does_quayWindowWrite
  (∃ (s : State) (src : Source) (q : Fin 96) (w : Fin 28672) (t : State),
    s.touch src = t ∧
    s.on = true ∧
    t.srcLevel src true ≠ 0 ∧
    t.hasCluster (q.val / 24) = true ∧
    t.up (domQCL (q.val / 24)) = true ∧
    (w.val < 0x1000 → t.flag (F.QCTL_K_CTL_RUN q.val) = false)) ∧
  -- refuses_quayWindowWrite
  (∃ (s : State) (src : Source) (q : Fin 96) (w : Fin 28672) (t : State),
    s.touch src = t ∧
    s.on = true ∧
    t.srcLevel src true ≠ 0 ∧
    t.hasCluster (q.val / 24) = true ∧
    t.up (domQCL (q.val / 24)) = true ∧
    w.val < 0x1000 ∧
    t.flag (F.QCTL_K_CTL_RUN q.val) = true) ∧
  -- does_coreRunWrite
  (∃ (s : State) (src : Source) (q : Fin 96) (v : Word) (t : State),
    s.touch src = t ∧
    s.on = true ∧
    s.opens src (F.QCTL_K_CTL_RUN q.val).addr v = true ∧
    t.up (domQCL (q.val / 24)) = true ∧
    t.flag (F.QCTL_K_CTL_RUN q.val) = false ∧
    bitAt v.toNat 31 = true) ∧
  -- drops_coreRunWrite
  (∃ (s : State) (src : Source) (q : Fin 96) (v : Word) (t : State),
    s.touch src = t ∧
    s.on = true ∧
    s.opens src (F.QCTL_K_CTL_RUN q.val).addr v = true ∧
    t.up (domQCL (q.val / 24)) = true ∧
    t.flag (F.QCTL_K_CTL_RUN q.val) = true ∧
    bitAt v.toNat 31 = false ∧
    [F.QCTL_K_CTL_WRAP q.val, F.QCTL_K_CTL_SWAP_SAFE q.val, F.QCTL_K_CTL_WP_EN q.val, F.QCTL_K_CTL_START_PC q.val].any
 (fun f => bitsAt v.toNat f.lo f.width != t.get f) = false) ∧
  -- refuses_coreRunWrite
  (∃ (s : State) (src : Source) (q : Fin 96) (v : Word) (t : State),
    s.touch src = t ∧
    s.on = true ∧
    s.opens src (F.QCTL_K_CTL_RUN q.val).addr v = true ∧
    t.up (domQCL (q.val / 24)) = true ∧
    t.flag (F.QCTL_K_CTL_RUN q.val) = true ∧
    bitAt v.toNat 31 = true ∧
    [F.QCTL_K_CTL_WRAP q.val, F.QCTL_K_CTL_SWAP_SAFE q.val, F.QCTL_K_CTL_WP_EN q.val, F.QCTL_K_CTL_START_PC q.val].any
 (fun f => bitsAt v.toNat f.lo f.width != t.get f) = true) ∧
  -- does_clusterCtlWrite
  (∃ (s : State) (src : Source) (c : Fin 4) (v : Word) (t : State) (u : State),
    s.touch src = t ∧
    ((t.each [F.QCTL_C_CTL_DIR c.val, F.QCTL_C_CTL_SHADOW c.val, F.QCTL_C_CTL_OUT_VEC c.val]
 (fun u f => u.put f (bitsAt v.toNat f.lo f.width))).putb (F.QCTL_C_CTL_RUN c.val) (bitAt v.toNat 31)).dealCheck c.val = u ∧
    s.on = true ∧
    s.opens src (F.QCTL_C_CTL_RUN c.val).addr v = true ∧
    t.up (domQCL c.val) = true ∧
    t.flag (F.QCTL_C_CTL_RUN c.val) = false) ∧
  -- does_clusterCtlWrite_map
  (∃ (s : State) (src : Source) (c : Fin 4) (v : Word) (t : State),
    s.touch src = t ∧
    s.on = true ∧
    s.opens src (F.QCTL_C_MAP_UNITS c.val).addr v = true ∧
    t.up (domQCL c.val) = true ∧
    t.flag (F.QCTL_C_CTL_RUN c.val) = false) ∧
  -- refuses_clusterCtlWrite
  (∃ (s : State) (src : Source) (c : Fin 4) (v : Word) (t : State),
    s.touch src = t ∧
    s.on = true ∧
    s.opens src (F.QCTL_C_MAP_UNITS c.val).addr v = true ∧
    t.up (domQCL c.val) = true ∧
    t.flag (F.QCTL_C_CTL_RUN c.val) = true) ∧
  -- does_shadowTurn
  (∃ (s : State) (c : Fin 4) (t : State) (u : State) (cl : Cluster) (r : Nat) (k : Nat) (rs : List Nat) (ks : List Nat),
    s.cluster c.val = cl ∧
    s.copyCore (24 * c.val + k) (24 * c.val + r) = t ∧
    t.setCluster c.val { cl with
 turn := k
 shadow := some { shadow := r, core := k, since := t.aon, blk := cl.next } } = u ∧
    s.on = true ∧
    (s.cluster c.val).shadow = none ∧
    s.up (domQCL c.val) = true ∧
    s.flag (F.QCTL_C_CTL_SHADOW c.val) = true ∧
    s.inRun = true ∧
    cl.swap = none ∧
    bitList 24 (s.get (F.QCTL_C_RSV_CORES c.val)) = r :: rs ∧
    ((List.range 24).map (fun i => (cl.turn + 1 + i) % 24)).filter (fun k =>
 s.inService c.val k && s.flag (F.QCTL_K_CTL_SWAP_SAFE (24 * c.val + k))) = k :: ks) ∧
  -- does_coreSwapGo
  (∃ (s : State) (src : Source) (c : Fin 4) (v : Word) (t : State) (u : State) (x : State) (y : State) (w : Word) (i : Nat) (o :
   Nat),
    s.touch src = t ∧
    fixBit v 31 = w ∧
    24 * c.val + bitsAt w.toNat 8 5 = i ∧
    24 * c.val + bitsAt w.toNat 0 5 = o ∧
    ((t.put (F.QCTL_C_SWAP_STAT_RESULT c.val) 0).shadowStop c.val).copyCore o i = u ∧
    ((u.put (F.QCTL_K_CTL_START_PC i) (u.get (F.QCTL_K_CTL_START_PC o))).put (F.QCTL_K_CTL_WRAP i)
   (u.get (F.QCTL_K_CTL_WRAP o))).put (F.QCTL_K_CTL_WP_EN i) (u.get (F.QCTL_K_CTL_WP_EN o)) = x ∧
    (x.putb (F.QCTL_K_CTL_RUN i) true).coreStart i = y ∧
    s.on = true ∧
    s.opens src (F.QCTL_C_SWAP_GO c.val).addr w = true ∧
    t.up (domQCL c.val) = true ∧
    t.swapReason c.val (bitsAt w.toNat 8 5) (bitsAt w.toNat 0 5) = 0) ∧
  -- refuses_coreSwapGo
  (∃ (s : State) (src : Source) (c : Fin 4) (v : Word) (t : State) (w : Word) (r : Nat),
    s.touch src = t ∧
    fixBit v 31 = w ∧
    t.swapReason c.val (bitsAt w.toNat 8 5) (bitsAt w.toNat 0 5) = r ∧
    s.on = true ∧
    s.opens src (F.QCTL_C_SWAP_GO c.val).addr w = true ∧
    t.up (domQCL c.val) = true ∧
    r ≠ 0) ∧
  -- does_coreSwapSwitch
  (∃ (s : State) (c : Fin 4) (p : CoreSwap) (t : State) (u : State) (x : State) (y : State),
    (s.cluster c.val).swap = some p ∧
    s.elapseTo (p.since + msU 10) = t ∧
    ((t.setCluster c.val { t.cluster c.val with
   swap := none
   drain := setBitAt (t.cluster c.val).drain p.out true }).putb (F.QCTL_C_SWAP_STAT_BUSY c.val) false).put
    (F.QCTL_C_STAT_CORES c.val) (setBitAt (setBitAt (t.get (F.QCTL_C_STAT_CORES c.val)) p.out false) p.inn true) = u ∧
    (u.put (F.QCTL_C_RSV_CORES c.val) (setBitAt (u.get (F.QCTL_C_RSV_CORES c.val)) p.inn false)) = x ∧
    ((x.put (F.QCTL_C_RET_CORES c.val) (setBitAt (u.get (F.QCTL_C_RET_CORES c.val)) p.out true)).drained
 (24 * c.val + p.out)).raise 0x0906 0 = y ∧
    s.on = true ∧
    p.seen = none ∧
    y.get (F.QCTL_C_RSV_CORES c.val) ≠ 0) := by
  refine ⟨?_, ?_, ?_, ?_, ?_, ?_, ?_, ?_, ?_, ?_, ?_, ?_, ?_, ?_⟩
  · exact ⟨(State.puts { wide with quay := { wide.quay with ant := [(0, [{ j := 7 }])] } } [(F.QCTL_C_CTL_RUN 0, 1), (F.QCTL_C_MAP_IN_VEC 0, 1)] : State),
            0, _, _, rfl, rfl, by decide +kernel⟩
  · exact ⟨(State.puts wide [(F.QCTL_C_CTL_RUN 0, 1), (F.QCTL_C_CTL_DIR 0, 1)] : State), 0, _, _, _, rfl, rfl, rfl,
            by decide +kernel⟩
  · exact ⟨wide, .jtag, 0, 0, _, rfl, by decide +kernel⟩
  · exact ⟨(State.puts wide [(F.QCTL_K_CTL_RUN 0, 1)] : State), .jtag, 0, 0, _, rfl, by decide +kernel⟩
  · exact ⟨wide, .jtag, 0, 0x80000000, _, rfl, by decide +kernel⟩
  · exact ⟨(State.puts wide [(F.QCTL_K_CTL_RUN 0, 1)] : State), .jtag, 0, 0, _, rfl, by decide +kernel⟩
  · exact ⟨(State.puts wide [(F.QCTL_K_CTL_RUN 0, 1)] : State), .jtag, 0, 0x80000001, _, rfl, by decide +kernel⟩
  · exact ⟨wide, .jtag, 0, 0, _, _, rfl, rfl, by decide +kernel⟩
  · exact ⟨wide, .jtag, 0, 0, _, rfl, by decide +kernel⟩
  · exact ⟨(State.puts wide [(F.QCTL_C_CTL_RUN 0, 1)] : State), .jtag, 0, 0, _, rfl, by decide +kernel⟩
  · exact (
    let s : State := (State.puts wide [(F.QCTL_C_CTL_SHADOW 0, 1), (F.QCTL_K_CTL_SWAP_SAFE 0, 1)] : State)
    let c : Fin 4 := 0
    let cl : Cluster := s.cluster c.val
    let r : Nat := match bitList 24 (s.get (F.QCTL_C_RSV_CORES c.val)) with | r :: rs => r | _ => 0
    let rs : List Nat := match bitList 24 (s.get (F.QCTL_C_RSV_CORES c.val)) with | r :: rs => rs | _ => []
    let k : Nat := match ((List.range 24).map (fun i => (cl.turn + 1 + i) % 24)).filter (fun k => s.inService c.val k && s.flag (F.QCTL_K_CTL_SWAP_SAFE (24 * c.val + k))) with | k :: ks => k | _ => 0
    let ks : List Nat := match ((List.range 24).map (fun i => (cl.turn + 1 + i) % 24)).filter (fun k => s.inService c.val k && s.flag (F.QCTL_K_CTL_SWAP_SAFE (24 * c.val + k))) with | k :: ks => ks | _ => []
    let t : State := s.copyCore (24 * c.val + k) (24 * c.val + r)
    let u : State := t.setCluster c.val { cl with turn := k, shadow := some { shadow := r, core := k, since := t.aon, blk := cl.next } }
    ⟨s, c, _, _, _, r, k, rs, ks, rfl, rfl, rfl, by decide +kernel⟩)
  · exact ⟨(State.puts wide [(F.QCTL_K_CTL_SWAP_SAFE 0, 1), (F.QCTL_C_RSV_CORES 0, 0x800000)] : State), .jtag, 0, 23 * 256, _, _,
            _, _, _, _, _, rfl, rfl, rfl, rfl, rfl, rfl, rfl, by decide +kernel⟩
  · exact ⟨wide, .jtag, 0, 0, _, _, _, rfl, rfl, rfl, by decide +kernel⟩
  · exact (
    let s : State := ({ wide with quay := { wide.quay with clusters := [(0, { swap := some { inn := 22, out := 0, since := 9 } })] } } : State)
    let c : Fin 4 := 0
    let p : CoreSwap := Option.get ((s.cluster c.val).swap) (by decide +kernel)
    let t : State := s.elapseTo (p.since + msU 10)
    let u : State := ((t.setCluster c.val { t.cluster c.val with swap := none, drain := setBitAt (t.cluster c.val).drain p.out true }).putb (F.QCTL_C_SWAP_STAT_BUSY c.val) false).put (F.QCTL_C_STAT_CORES c.val) (setBitAt (setBitAt (t.get (F.QCTL_C_STAT_CORES c.val)) p.out false) p.inn true)
    let x : State := (u.put (F.QCTL_C_RSV_CORES c.val) (setBitAt (u.get (F.QCTL_C_RSV_CORES c.val)) p.inn false))
    let y : State := ((x.put (F.QCTL_C_RET_CORES c.val) (setBitAt (u.get (F.QCTL_C_RET_CORES c.val)) p.out true)).drained (24 * c.val + p.out)).raise 0x0906 0
    ⟨s, c, p, _, _, _, _, (Option.some_get _).symm, rfl, rfl, rfl, rfl, by decide +kernel⟩)

/-- Each clause of BeamSchedule has a state and operands that meet its hypotheses. -/
theorem meets_BeamSchedule :
  -- does_schedAdd
  (∃ (s : State) (src : Source) (v : Word) (dir : Nat) (b : Nat) (a : BitVec 64) (t : State) (w : Word),
    s.touch src = t ∧
    fix (fixBit v 31) 28 2 0 = w ∧
    t.get64 F.BERTH_SCHED_AT_LO_STAMP F.BERTH_SCHED_AT_HI_STAMP = a ∧
    bitsAt w.toNat 30 1 = dir ∧
    bitsAt w.toNat 0 9 = b ∧
    s.on = true ∧
    s.opens src F.BERTH_SCHED_CMD_GO.addr w = true ∧
    t.flag F.RING_STAT_FORMED = false ∧
    t.schedCheck dir a b = 0) ∧
  -- refuses_schedAdd
  (∃ (s : State) (src : Source) (v : Word) (dir : Nat) (b : Nat) (r : Nat) (a : BitVec 64) (t : State) (w : Word),
    s.touch src = t ∧
    fix (fixBit v 31) 28 2 0 = w ∧
    t.get64 F.BERTH_SCHED_AT_LO_STAMP F.BERTH_SCHED_AT_HI_STAMP = a ∧
    bitsAt w.toNat 30 1 = dir ∧
    bitsAt w.toNat 0 9 = b ∧
    t.schedCheck dir a b = r ∧
    s.on = true ∧
    s.opens src F.BERTH_SCHED_CMD_GO.addr w = true ∧
    t.flag F.RING_STAT_FORMED = false ∧
    r ≠ 0) ∧
  -- refuses_schedAdd_member
  (∃ (s : State) (src : Source) (v : Word) (t : State) (w : Word),
    s.touch src = t ∧
    fix (fixBit v 31) 28 2 0 = w ∧
    s.on = true ∧
    s.opens src F.BERTH_SCHED_CMD_GO.addr w = true ∧
    t.flag F.RING_STAT_FORMED = true ∧
    t.boot.chipId ≠ 0) ∧
  -- does_schedCancel
  (∃ (s : State) (src : Source) (v : Word) (dir : Nat) (a : BitVec 64) (e : SchedEntry) (t : State) (u : State) (w : Word),
    s.touch src = t ∧
    fix (fixBit v 31) 28 2 1 = w ∧
    t.get64 F.BERTH_SCHED_AT_LO_STAMP F.BERTH_SCHED_AT_HI_STAMP = a ∧
    bitsAt w.toNat 30 1 = dir ∧
    (t.schedQ dir).find? (fun e => e.at_ == a) = some e ∧
    (t.setSchedQ dir ((t.schedQ dir).filter (fun x => x.at_ != a))).put F.BERTH_SCHED_STAT_RESULT 0 = u ∧
    s.on = true ∧
    s.opens src F.BERTH_SCHED_CMD_GO.addr w = true ∧
    e.copy = none ∧
    t.flag F.RING_STAT_FORMED = false ∧
    u.flag F.RING_STAT_FORMED = false) ∧
  -- refuses_schedCancel
  (∃ (s : State) (src : Source) (v : Word) (dir : Nat) (r : Nat) (a : BitVec 64) (t : State) (w : Word),
    s.touch src = t ∧
    fix (fixBit v 31) 28 2 1 = w ∧
    t.get64 F.BERTH_SCHED_AT_LO_STAMP F.BERTH_SCHED_AT_HI_STAMP = a ∧
    bitsAt w.toNat 30 1 = dir ∧
    s.on = true ∧
    s.opens src F.BERTH_SCHED_CMD_GO.addr w = true ∧
    ((t.schedQ dir).find? (fun e => e.at_ == a) = none ∧ r = 5 ∨
   ∃ e, (t.schedQ dir).find? (fun e => e.at_ == a) = some e ∧ e.copy.isSome = true ∧ r = 1) ∧
    t.flag F.RING_STAT_FORMED = false) ∧
  -- does_schedFlush
  (∃ (s : State) (src : Source) (v : Word) (dir : Nat) (t : State) (u : State) (w : Word),
    s.touch src = t ∧
    fix (fixBit v 31) 28 2 2 = w ∧
    bitsAt w.toNat 30 1 = dir ∧
    (t.setSchedQ dir ((t.schedQ dir).filter (fun e => e.copy.isSome))).put F.BERTH_SCHED_STAT_RESULT 0 = u ∧
    s.on = true ∧
    s.opens src F.BERTH_SCHED_CMD_GO.addr w = true ∧
    t.flag F.RING_STAT_FORMED = false ∧
    u.flag F.RING_STAT_FORMED = false) ∧
  -- does_schedOpReserved
  (∃ (s : State) (src : Source) (v : Word) (t : State) (w : Word),
    s.touch src = t ∧
    fix (fixBit v 31) 28 2 3 = w ∧
    s.on = true ∧
    s.opens src F.BERTH_SCHED_CMD_GO.addr w = true) ∧
  -- does_berthStage
  (∃ (s : State) (dir : Fin 2) (e : SchedEntry) (t : State),
    (s.schedQ dir.val).find? (fun e => e.copy.isNone) = some e ∧
    s.reach (stampSub e.at_ (usU 12)) = t ∧
    s.on = true) ∧
  -- does_berthSwitch
  (∃ (s : State) (dir : Fin 2) (e : SchedEntry) (l : List SchedEntry) (c : Cached) (t : State) (u : State) (v : State),
    e.copy = some c ∧
    s.reach e.at_ = t ∧
    ((t.setSchedQ dir.val l).sumsTake.maskTake dir.val).forceFrom dir.val (t.absOf e.at_) c = u ∧
    (if dir.val = 0 then u.swapRequests u.pathMask c.cls (gridFrom (t.absOf e.at_)) else u).quaySwitched dir.val
 (s.absOf e.at_) = v ∧
    s.on = true ∧
    s.schedQ dir.val = e :: l) ∧
  -- does_berthWindowWrite
  (∃ (s : State) (src : Source) (w : Fin 2051) (t : State),
    s.touch src = t ∧
    s.on = true ∧
    w.val < 2048 ∧
    t.hasPath (w.val / 32) = true ∧
    t.srcLevel src true ≠ 0) ∧
  -- does_berthWindowWrite_descriptor
  (∃ (s : State) (src : Source) (dir : Fin 2) (b : Fin 512) (w : Fin 2051) (v : Word) (a : Nat) (t : State),
    s.touch src = t ∧
    berthWordAddr dir.val b.val w.val = a ∧
    s.on = true ∧
    2048 ≤ w.val ∧
    s.opens src a v = true) ∧
  -- does_maskApply
  (∃ (s : State) (dir : Fin 2) (a : Nat),
    s.maskAt dir.val = some a ∧
    s.on = true) ∧
  -- does_maskApply_sums
  (∃ (s : State) (dir : Fin 2),
    s.on = true ∧
    s.maskAt dir.val = none) := by
  refine ⟨?_, ?_, ?_, ?_, ?_, ?_, ?_, ?_, ?_, ?_, ?_, ?_, ?_⟩
  · exact ⟨(State.puts wide [(F.BERTH_SCHED_AT_HI_STAMP, 1)] : State), .jtag, 0, _, _, _, _, _, rfl, rfl, rfl, rfl, rfl,
            by decide +kernel⟩
  · exact ⟨wide, .jtag, 0, _, _, _, _, _, _, rfl, rfl, rfl, rfl, rfl, rfl, by decide +kernel⟩
  · exact ⟨(State.puts { wide with boot := { wide.boot with chipId := 1 } } [(F.RING_STAT_FORMED, 1)] : State), .jtag, 0, _, _,
            rfl, rfl, by decide +kernel⟩
  · exact (
    let s : State := (State.puts { wide with berth := { wide.berth with queueTx := [⟨0x100000000, 3, none⟩] } } [(F.BERTH_SCHED_AT_HI_STAMP, 1)] : State)
    let src : Source := .jtag
    let v : Word := 0
    let t : State := s.touch src
    let w : Word := fix (fixBit v 31) 28 2 1
    let a : BitVec 64 := t.get64 F.BERTH_SCHED_AT_LO_STAMP F.BERTH_SCHED_AT_HI_STAMP
    let dir : Nat := bitsAt w.toNat 30 1
    let e : SchedEntry := Option.get ((t.schedQ dir).find? (fun e => e.at_ == a)) (by decide +kernel)
    let u : State := (t.setSchedQ dir ((t.schedQ dir).filter (fun x => x.at_ != a))).put F.BERTH_SCHED_STAT_RESULT 0
    ⟨s, src, v, _, _, e, _, _, _, rfl, rfl, rfl, rfl, (Option.some_get _).symm, rfl, by decide +kernel⟩)
  · exact ⟨wide, .jtag, 0, _, 5, _, _, _, rfl, rfl, rfl, rfl, by decide +kernel⟩
  · exact ⟨wide, .jtag, 0, _, _, _, _, rfl, rfl, rfl, rfl, by decide +kernel⟩
  · exact ⟨wide, .jtag, 0, _, _, rfl, rfl, by decide +kernel⟩
  · exact (
    let s : State := ({ wide with berth := { wide.berth with queueTx := [⟨0x10000000, 3, none⟩] } } : State)
    let dir : Fin 2 := 0
    let e : SchedEntry := Option.get ((s.schedQ dir.val).find? (fun e => e.copy.isNone)) (by decide +kernel)
    let t : State := s.reach (stampSub e.at_ (usU 12))
    ⟨s, dir, e, _, (Option.some_get _).symm, rfl, by decide +kernel⟩)
  · exact (
    let s : State := ({ wide with berth := { wide.berth with queueTx := [⟨0x10000000, 3, some {}⟩] } } : State)
    let dir : Fin 2 := 0
    let e : SchedEntry := match s.schedQ dir.val with | e :: l => e | _ => ⟨0, 0, none⟩
    let l : List SchedEntry := match s.schedQ dir.val with | e :: l => l | _ => []
    let c : Cached := Option.get (e.copy) (by decide +kernel)
    let t : State := s.reach e.at_
    let u : State := ((t.setSchedQ dir.val l).sumsTake.maskTake dir.val).forceFrom dir.val (t.absOf e.at_) c
    let v : State := (if dir.val = 0 then u.swapRequests u.pathMask c.cls (gridFrom (t.absOf e.at_)) else u).quaySwitched dir.val (s.absOf e.at_)
    ⟨s, dir, e, l, c, _, _, _, (Option.some_get _).symm, rfl, rfl, rfl, by decide +kernel⟩)
  · exact ⟨wide, .jtag, 0, _, rfl, by decide +kernel⟩
  · exact ⟨wide, .jtag, 0, 0, 2050, 0, _, _, rfl, rfl, by decide +kernel⟩
  · exact (
    let s : State := ({ wide with berth := { wide.berth with maskAtTx := some 5 } } : State)
    let dir : Fin 2 := 0
    let a : Nat := Option.get (s.maskAt dir.val) (by decide +kernel)
    ⟨s, dir, a, (Option.some_get _).symm, by decide +kernel⟩)
  · exact ⟨wide, 0, by decide +kernel⟩

/-- Each clause of BerthAlignmentAndCalibration has a state and operands that meet its hypotheses. -/
theorem meets_BerthAlignmentAndCalibration :
  -- does_alignWrite
  (∃ (s : State) (src : Source) (p : Fin 64) (dir : Fin 2) (pcal : Bool) (v : Word) (a : Nat) (t : State),
    s.touch src = t ∧
    (if pcal then fPCALRE dir.val p.val else fALIGN dir.val p.val).addr = a ∧
    s.on = true ∧
    s.opens src a v = true) ∧
  -- does_alignApply
  (∃ (s : State) (p : Fin 64) (dir : Fin 2) (a : Nat) (t : State) (new : Aligned),
    sparseFind s.berth.alignAt (2 * p.val + dir.val) = some a ∧
    s.reachAbs a = t ∧
    t.alignAsked p.val dir.val = new ∧
    s.on = true ∧
    (new.align - (t.alignedOf p.val dir.val).align).natAbs ≤ 64) ∧
  -- does_bcalReq
  (∃ (s : State) (src : Source) (v : Word) (t : State) (w : Word),
    s.touch src = t ∧
    fixBit v 31 = w ∧
    s.on = true ∧
    s.opens src F.BERTH_CAL_REQ_GO.addr w = true ∧
    bitsAt w.toNat 0 2 ≠ 0 ∧
    t.flag F.BERTH_CTL_CALIO_EN = true ∧
    t.boot.store.applied = true ∧
    t.boot.store.manifold ≠ [] ∧
    t.rx.cal = none ∧
    t.tx.cal = none ∧
    t.berth.cal = none) ∧
  -- refuses_bcalReq
  (∃ (s : State) (src : Source) (v : Word) (t : State) (w : Word),
    s.touch src = t ∧
    fixBit v 31 = w ∧
    s.on = true ∧
    s.opens src F.BERTH_CAL_REQ_GO.addr w = true ∧
    (bitsAt w.toNat 0 2 = 0 ∨
t.flag F.BERTH_CTL_CALIO_EN = false ∨ t.boot.store.manifold = [] ∨ t.rx.cal ≠ none ∨ t.tx.cal ≠ none ∨ t.berth.cal ≠ none)) ∧
  -- does_bcalStart
  (∃ (s : State) (kind : Nat) (w : Nat) (e : Nat) (u : State),
    s.tide.now + bcalSpan kind = e ∧
    (State.putb { s with berth := { s.berth with cal := some (kind, w, some e) } } F.BERTH_CAL_STAT_WAIT false).putb
 F.BERTH_CAL_STAT_BUSY true = u ∧
    s.on = true ∧
    s.berth.cal = some (kind, w, none) ∧
    s.gapCovers s.quadMask (bcalSpan kind) = true) ∧
  -- does_bcalTimeout
  (∃ (s : State) (kind : Nat) (w : Nat) (t : State),
    s.elapseTo w = t ∧
    s.on = true ∧
    s.berth.cal = some (kind, w, none)) ∧
  -- does_bcalDone
  (∃ (s : State) (fail : BitVec 64) (kind : Nat) (w : Nat) (e : Nat) (n : Nat) (bad : Nat) (t : State) (u : State) (v : State) (x :
   State) (live : Nat → List Nat),
    s.reachAbs e = t ∧
    t.draw = (n, u) ∧
    (fun dir => u.paths.filter (fun p => if dir = 0 then !u.txRetired p else !u.rxRetired p)) = live ∧
    u.each (bitList 2 kind) (fun x dir => x.each ((live dir).filter (fun p => !bitAt (mask fail) p))
 (fun y p => y.bcalStore n dir p)) = v ∧
    maskOf (((bitList 2 kind).flatMap live).filter (fun p => bitAt (mask fail) p)) = bad ∧
    ((State.putb { v with berth := { v.berth with cal := none } } F.BERTH_CAL_STAT_BUSY false).put F.BERTH_CAL_STAT_FAIL
 (failBits 0 255 bad)).raise 0x0A06 0 = x ∧
    s.on = true ∧
    s.berth.cal = some (kind, w, some e)) ∧
  -- does_berthCntClrSat
  (∃ (s : State) (src : Source) (v : Word) (t : State) (w : Word),
    s.touch src = t ∧
    fixBit v 1 = w ∧
    s.on = true ∧
    s.opens src F.BERTH_CNT_CLR_SAT.addr w = true ∧
    bitAt w.toNat 0 = false) ∧
  -- does_berthCntClrRef
  (∃ (s : State) (src : Source) (v : Word) (t : State) (w : Word),
    s.touch src = t ∧
    fixBit v 0 = w ∧
    s.on = true ∧
    s.opens src F.BERTH_CNT_CLR_SAT.addr w = true ∧
    bitAt w.toNat 1 = false) := by
  refine ⟨?_, ?_, ?_, ?_, ?_, ?_, ?_, ?_, ?_⟩
  · exact ⟨wide, .jtag, 0, 0, true, 0, _, _, rfl, rfl, by decide +kernel⟩
  · exact (
    let s : State := ({ wide with berth := { wide.berth with alignAt := [(0, 5)] } } : State)
    let p : Fin 64 := 0
    let dir : Fin 2 := 0
    let a : Nat := Option.get (sparseFind s.berth.alignAt (2 * p.val + dir.val)) (by decide +kernel)
    let t : State := s.reachAbs a
    let new : Aligned := t.alignAsked p.val dir.val
    ⟨s, p, dir, a, _, _, (Option.some_get _).symm, rfl, rfl, by decide +kernel⟩)
  · exact ⟨(State.puts { wide with boot := { wide.boot with store := { applied := true, manifold := [0] } } } [(F.BERTH_CTL_CALIO_EN, 1)] : State),
            .jtag, 3, _, _, rfl, rfl, by decide +kernel⟩
  · exact ⟨wide, .jtag, 0, _, _, rfl, rfl, by decide +kernel⟩
  · exact (
    let s : State := ({ wide with berth := { wide.berth with cal := some (1, 7, none) }, msgs := { wide.msgs with gaps := [⟨0, 0x4000000000000, 255, true⟩] } } : State)
    let kind : Nat := match s.berth.cal with | some (kind, w, none) => kind | _ => 0
    let w : Nat := match s.berth.cal with | some (kind, w, none) => w | _ => 0
    let e : Nat := s.tide.now + bcalSpan kind
    let u : State := (State.putb { s with berth := { s.berth with cal := some (kind, w, some e) } } F.BERTH_CAL_STAT_WAIT false).putb F.BERTH_CAL_STAT_BUSY true
    ⟨s, kind, w, _, _, rfl, rfl, by decide +kernel⟩)
  · exact (
    let s : State := ({ wide with berth := { wide.berth with cal := some (1, 7, none) } } : State)
    let kind : Nat := match s.berth.cal with | some (kind, w, none) => kind | _ => 0
    let w : Nat := match s.berth.cal with | some (kind, w, none) => w | _ => 0
    let t : State := s.elapseTo w
    ⟨s, kind, w, _, rfl, by decide +kernel⟩)
  · exact (
    let s : State := ({ wide with berth := { wide.berth with cal := some (1, 7, some 9) } } : State)
    let fail : BitVec 64 := 0
    let kind : Nat := match s.berth.cal with | some (kind, w, some e) => kind | _ => 0
    let w : Nat := match s.berth.cal with | some (kind, w, some e) => w | _ => 0
    let e : Nat := match s.berth.cal with | some (kind, w, some e) => e | _ => 0
    let t : State := s.reachAbs e
    let n : Nat := (t.draw).1
    let u : State := (t.draw).2
    let live : Nat → List Nat := (fun dir => u.paths.filter (fun p => if dir = 0 then !u.txRetired p else !u.rxRetired p))
    let v : State := u.each (bitList 2 kind) (fun x dir => x.each ((live dir).filter (fun p => !bitAt (mask fail) p)) (fun y p => y.bcalStore n dir p))
    let bad : Nat := maskOf (((bitList 2 kind).flatMap live).filter (fun p => bitAt (mask fail) p))
    let x : State := ((State.putb { v with berth := { v.berth with cal := none } } F.BERTH_CAL_STAT_BUSY false).put F.BERTH_CAL_STAT_FAIL (failBits 0 255 bad)).raise 0x0A06 0
    ⟨s, fail, kind, w, e, _, _, _, _, _, _, _, rfl, (Prod.eta _).symm, rfl, rfl, rfl, rfl, by decide +kernel⟩)
  · exact ⟨wide, .jtag, 0, _, _, rfl, rfl, by decide +kernel⟩
  · exact ⟨wide, .jtag, 0, _, _, rfl, rfl, by decide +kernel⟩

/-- Each clause of LinkTraining has a state and operands that meet its hypotheses. -/
theorem meets_LinkTraining :
  -- does_alignSetReceived_lock
  (∃ (s : State) (l : Fin 4),
    s.on = true ∧
    s.linkState l.val = 2) ∧
  -- does_alignSetReceived_deskew
  (∃ (s : State) (l : Fin 4) (sets : List (List Byte)) (a : AlignSet),
    acceptSet (s.port l.val).mini sets = some a ∧
    s.on = true ∧
    s.linkState l.val = 4) ∧
  -- does_alignSetReceived_handshake
  (∃ (s : State) (l : Fin 4) (sets : List (List Byte)) (a : AlignSet),
    acceptSet (s.port l.val).mini sets = some a ∧
    s.on = true ∧
    s.linkState l.val = 6) ∧
  -- does_signalDetect
  (∃ (s : State) (l : Fin 4),
    s.on = true ∧
    s.linkState l.val = 1) ∧
  -- does_trainStateTimeout_lock
  (∃ (s : State) (l : Fin 4) (t : State) (u : State) (ok : Bool),
    s.elapseTo ((s.port l.val).stage + msU 5) = t ∧
    t.trainFail l.val (maskOf ((t.port l.val).lanes.filter (fun k => decide (nth 0 (t.port l.val).lock k < 8)))) = (u, ok) ∧
    s.on = true ∧
    s.linkState l.val = 2) ∧
  -- does_trainStateTimeout
  (∃ (s : State) (l : Fin 4),
    s.on = true ∧
    s.linkState l.val = 3) ∧
  -- does_trainStateTimeout_qualify
  (∃ (s : State) (l : Fin 4) (t : State) (u : State) (ok : Bool),
    s.elapseTo ((s.port l.val).stage + msU 10) = t ∧
    t.trainFail l.val (t.port l.val).viol = (u, ok) ∧
    s.on = true ∧
    s.linkState l.val = 5) ∧
  -- does_trainStateTimeout_again
  (∃ (s : State) (l : Fin 4),
    s.on = true ∧
    (s.linkState l.val = 4 ∨ s.linkState l.val = 6)) ∧
  -- does_trainTimeout
  (∃ (s : State) (l : Fin 4),
    s.on = true ∧
    (1 ≤ s.linkState l.val ∧ s.linkState l.val ≤ 6)) ∧
  -- does_retrainStart
  (∃ (s : State) (l : Fin 4),
    s.on = true ∧
    s.linkState l.val = 9) ∧
  -- does_retrainStart_bypass
  (∃ (s : State) (l : Fin 4),
    s.on = true ∧
    s.linkState l.val = 8 ∧
    s.get (F.CLK_LPLL_STAT_MODE l.val) = 2) ∧
  -- does_dataColumnReceived_training
  (∃ (s : State) (l : Fin 4),
    s.on = true ∧
    s.linkUp l.val = false) ∧
  -- does_fwdClockLoss_training
  (∃ (s : State) (l : Fin 4),
    s.on = true ∧
    (2 ≤ s.linkState l.val ∧ s.linkState l.val ≤ 6)) := by
  refine ⟨?_, ?_, ?_, ?_, ?_, ?_, ?_, ?_, ?_, ?_, ?_, ?_, ?_⟩
  · exact ⟨(State.puts wide [(lkSTATE 0, 2)] : State), 0, by decide +kernel⟩
  · exact (
    let s : State := (State.puts wide [(lkSTATE 0, 4)] : State)
    let l : Fin 4 := 0
    let sets : List (List Byte) := [[0, 0, 0, 0, 0, 0, 0, 0, 0xA5], [0, 0, 0, 0, 0, 0, 0, 0, 0xA5]]
    let a : AlignSet := Option.get (acceptSet (s.port l.val).mini sets) (by decide +kernel)
    ⟨s, l, sets, a, (Option.some_get _).symm, by decide +kernel⟩)
  · exact (
    let s : State := (State.puts wide [(lkSTATE 0, 6)] : State)
    let l : Fin 4 := 0
    let sets : List (List Byte) := [[0, 0, 0, 0, 0, 0, 0, 0, 0xA5], [0, 0, 0, 0, 0, 0, 0, 0, 0xA5]]
    let a : AlignSet := Option.get (acceptSet (s.port l.val).mini sets) (by decide +kernel)
    ⟨s, l, sets, a, (Option.some_get _).symm, by decide +kernel⟩)
  · exact ⟨(State.puts wide [(lkSTATE 0, 1)] : State), 0, by decide +kernel⟩
  · exact (
    let s : State := (State.puts wide [(lkSTATE 0, 2)] : State)
    let l : Fin 4 := 0
    let t : State := s.elapseTo ((s.port l.val).stage + msU 5)
    let u : State := (t.trainFail l.val (maskOf ((t.port l.val).lanes.filter (fun k => decide (nth 0 (t.port l.val).lock k < 8))))).1
    let ok : Bool := (t.trainFail l.val (maskOf ((t.port l.val).lanes.filter (fun k => decide (nth 0 (t.port l.val).lock k < 8))))).2
    ⟨s, l, _, _, _, rfl, (Prod.eta _).symm, by decide +kernel⟩)
  · exact ⟨(State.puts wide [(lkSTATE 0, 3)] : State), 0, by decide +kernel⟩
  · exact (
    let s : State := (State.puts wide [(lkSTATE 0, 5)] : State)
    let l : Fin 4 := 0
    let t : State := s.elapseTo ((s.port l.val).stage + msU 10)
    let u : State := (t.trainFail l.val (t.port l.val).viol).1
    let ok : Bool := (t.trainFail l.val (t.port l.val).viol).2
    ⟨s, l, _, _, _, rfl, (Prod.eta _).symm, by decide +kernel⟩)
  · exact ⟨(State.puts wide [(lkSTATE 0, 4)] : State), 0, by decide +kernel⟩
  · exact ⟨(State.puts wide [(lkSTATE 0, 6)] : State), 0, by decide +kernel⟩
  · exact ⟨(State.puts wide [(lkSTATE 0, 9)] : State), 0, by decide +kernel⟩
  · exact ⟨(State.puts wide [(lkSTATE 0, 8)] : State), 0, by decide +kernel⟩
  · exact ⟨(State.puts wide [(lkSTATE 0, 3)] : State), 0, by decide +kernel⟩
  · exact ⟨(State.puts wide [(lkSTATE 0, 3)] : State), 0, by decide +kernel⟩

/-- Each clause of LinksInService has a state and operands that meet its hypotheses. -/
theorem meets_LinksInService :
  -- does_alignSetReceived
  (∃ (s : State) (l : Fin 4) (sets : List (List Byte)) (a : AlignSet),
    acceptSet (s.port l.val).mini sets = some a ∧
    s.on = true ∧
    s.linkState l.val = 7) ∧
  -- does_alignSetMissing
  (∃ (s : State) (l : Fin 4),
    s.on = true ∧
    s.linkState l.val = 7 ∧
    (s.port l.val).miss = 0) ∧
  -- does_alignSetMissing_down
  (∃ (s : State) (l : Fin 4),
    s.on = true ∧
    s.linkState l.val = 7 ∧
    1 ≤ (s.port l.val).miss) ∧
  -- does_dataColumnReceived
  (∃ (s : State) (l : Fin 4) (col : List (Option Byte)) (known : List Byte) (p : Byte),
    nth none col 8 = some p ∧
    s.on = true ∧
    s.linkUp l.val = true ∧
    s.get (lkREPAIR l.val) = 0 ∧
    (s.port l.val).mini = false ∧
    bitAt (s.get (lkOFF l.val)) 8 = false ∧
    (s.stripe l.val).map (nth none col) = known.map some ∧
    known.foldl (· ^^^ ·) (0 : Byte) = p) ∧
  -- does_laneSignalLoss
  (∃ (s : State) (l : Fin 4) (lane : Fin 9) (u : State),
    State.laneRaise ((((((s.setPort l.val { s.port l.val with
   tries := setNth (s.port l.val).tries lane.val 0
   flaps := (lane.val, s.aon) :: (s.port l.val).flaps.take 255 }).put (lkREPAIR l.val) (setBitAt 0 lane.val true)).put
   (lnSTATE l.val lane.val) 4).put (lnCAUSE l.val lane.val) 1).inc (lnREPAIRS l.val lane.val)).syncLink l.val) l.val 3 lane.val = u ∧
    s.on = true ∧
    s.linkUp l.val = true ∧
    s.get (lkREPAIR l.val) = 0 ∧
    bitAt (s.get (lkOFF l.val)) lane.val = false ∧
    s.flag (lkPAR l.val) = true) ∧
  -- does_laneSignalLoss_down
  (∃ (s : State) (l : Fin 4) (lane : Fin 9),
    s.on = true ∧
    s.linkUp l.val = true ∧
    bitAt (s.get (lkREPAIR l.val)) lane.val = false ∧
    bitAt (s.get (lkOFF l.val)) lane.val = false ∧
    (s.get (lkREPAIR l.val) ≠ 0 ∨ s.flag (lkPAR l.val) = false)) ∧
  -- does_requalAttemptDone
  (∃ (s : State) (l : Fin 4) (lane : Fin 9),
    s.on = true ∧
    s.linkUp l.val = true ∧
    bitAt (s.port l.val).widen lane.val = false ∧
    s.get (lnSTATE l.val lane.val) = 4) ∧
  -- does_requalAttemptDone_fails
  (∃ (s : State) (l : Fin 4) (lane : Fin 9) (n : Nat) (t : State),
    nth 0 (s.port l.val).tries lane.val + 1 = n ∧
    s.setPort l.val { s.port l.val with tries := setNth (s.port l.val).tries lane.val n } = t ∧
    s.on = true ∧
    s.linkUp l.val = true ∧
    bitAt (s.port l.val).widen lane.val = false ∧
    s.get (lnSTATE l.val lane.val) = 4) ∧
  -- does_remapStalled
  (∃ (s : State) (l : Fin 4) (k : Nat) (n : Nat) (rest : List (Nat × Nat)),
    s.on = true ∧
    s.linkUp l.val = true ∧
    (s.port l.val).asked.filter (fun e => !bitAt (s.port l.val).stalled e.1) = (k, n) :: rest) ∧
  -- does_fwdClockLoss
  (∃ (s : State) (l : Fin 4),
    s.on = true ∧
    s.linkState l.val = 7) ∧
  -- does_dfeAdapt
  (∃ (s : State) (l : Fin 4),
    s.on = true ∧
    s.adapts l.val = true) ∧
  -- does_ctleAdapt
  (∃ (s : State) (l : Fin 4) (lane : Fin 9) (a : Nat) (c : Nat),
    (s.dfeTap l.val lane.val 0).natAbs = a ∧
    s.get (lnCTLE l.val lane.val) = c ∧
    s.on = true ∧
    s.adapts l.val = true) ∧
  -- does_eyeMeasure
  (∃ (s : State) (l : Fin 4),
    s.on = true ∧
    s.linkUp l.val = true) ∧
  -- does_fhlRetrainA
  (∃ (s : State) (src : Source) (v : Word) (t : State) (w : Word),
    fixBit v F.FHL_CTL_RETRAIN_A.lo = w ∧
    (s.touch src).plain F.FHL_CTL_RETRAIN_A.addr w.toNat = t ∧
    s.on = true ∧
    s.opens src F.FHL_CTL_RETRAIN_A.addr w = true ∧
    bitAt w.toNat 5 = false ∧
    (t.linkState 0 ≠ 0 ∧ t.linkState 0 ≠ 8)) ∧
  -- does_fhlRetrainB
  (∃ (s : State) (src : Source) (v : Word) (t : State) (w : Word),
    fixBit v F.FHL_CTL_RETRAIN_B.lo = w ∧
    (s.touch src).plain F.FHL_CTL_RETRAIN_A.addr w.toNat = t ∧
    s.on = true ∧
    s.opens src F.FHL_CTL_RETRAIN_A.addr w = true ∧
    bitAt w.toNat 4 = false ∧
    (t.linkState 1 ≠ 0 ∧ t.linkState 1 ≠ 8)) ∧
  -- does_fhlCntClr
  (∃ (s : State) (src : Source) (v : Word) (t : State),
    s.touch src = t ∧
    s.on = true ∧
    s.opens src F.FHL_CNT_CLR_CLR.addr (fixBit v 0) = true) := by
  refine ⟨?_, ?_, ?_, ?_, ?_, ?_, ?_, ?_, ?_, ?_, ?_, ?_, ?_, ?_, ?_, ?_⟩
  · exact (
    let s : State := wide
    let l : Fin 4 := 0
    let sets : List (List Byte) := [[0, 0, 0, 0, 0, 0, 0, 0, 0xA5], [0, 0, 0, 0, 0, 0, 0, 0, 0xA5]]
    let a : AlignSet := Option.get (acceptSet (s.port l.val).mini sets) (by decide +kernel)
    ⟨s, l, sets, a, (Option.some_get _).symm, by decide +kernel⟩)
  · exact ⟨wide, 0, by decide +kernel⟩
  · exact ⟨({ wide with link := { wide.link with ports := [(0, { miss := 1 })] } } : State), 0, by decide +kernel⟩
  · exact (
    let s : State := wide
    let l : Fin 4 := 0
    let col : List (Option Byte) := List.replicate 9 (some 0)
    let known : List Byte := List.replicate 8 0
    let p : Byte := Option.get (nth none col 8) (by decide +kernel)
    ⟨s, l, col, known, p, (Option.some_get _).symm, by decide +kernel⟩)
  · exact ⟨(State.puts wide [(lkPAR 0, 1)] : State), 0, 0, _, rfl, by decide +kernel⟩
  · exact ⟨wide, 0, 0, by decide +kernel⟩
  · exact ⟨(State.puts wide [(lnSTATE 0 0, 4)] : State), 0, 0, by decide +kernel⟩
  · exact ⟨(State.puts wide [(lnSTATE 0 0, 4)] : State), 0, 0, _, _, rfl, rfl, by decide +kernel⟩
  · exact (
    let s : State := ({ wide with link := { wide.link with ports := [(0, { asked := [(1, 9)] })] } } : State)
    let l : Fin 4 := 0
    let k : Nat := match (s.port l.val).asked.filter (fun e => !bitAt (s.port l.val).stalled e.1) with | (k, n) :: rest => k | _ => 0
    let n : Nat := match (s.port l.val).asked.filter (fun e => !bitAt (s.port l.val).stalled e.1) with | (k, n) :: rest => n | _ => 0
    let rest : List (Nat × Nat) := match (s.port l.val).asked.filter (fun e => !bitAt (s.port l.val).stalled e.1) with | (k, n) :: rest => rest | _ => []
    ⟨s, l, k, n, rest, by decide +kernel⟩)
  · exact ⟨wide, 0, by decide +kernel⟩
  · exact ⟨wide, 0, by decide +kernel⟩
  · exact ⟨wide, 0, 0, _, _, rfl, rfl, by decide +kernel⟩
  · exact ⟨wide, 0, by decide +kernel⟩
  · exact ⟨wide, .jtag, 0, _, _, rfl, rfl, by decide +kernel⟩
  · exact ⟨wide, .jtag, 0, _, _, rfl, rfl, by decide +kernel⟩
  · exact ⟨wide, .jtag, 0, _, rfl, by decide +kernel⟩

/-- Each clause of FramesAndSections has a state and operands that meet its hypotheses. -/
theorem meets_FramesAndSections :
  -- does_linkFrameRx
  (∃ (s : State) (l : Fin 4) (f : List Byte) (idle : Bool) (fill : Fin 16385) (other : Fin 16385) (m : Nat) (t : State),
    (if l.val < 2 then 3 else 5) = m ∧
    s.meter m (s.ingressSlack l.val fill.val other.val) = t ∧
    s.on = true ∧
    s.linkUp l.val = true ∧
    fill.val < 16384 ∧
    ((t.port l.val).waitIdle = false ∨ idle = true) ∧
    frameCause l.val f ((t.port l.val).bad) = none) ∧
  -- refuses_linkFrameRx
  (∃ (s : State) (l : Fin 4) (f : List Byte) (bad : Bool) (idle : Bool) (fill : Fin 16385) (other : Fin 16385) (m : Nat) (c : Nat)
   (t : State),
    (if l.val < 2 then 3 else 5) = m ∧
    s.meter m (s.ingressSlack l.val fill.val other.val) = t ∧
    frameCause l.val f (bad || (t.port l.val).bad) = some c ∧
    s.on = true ∧
    s.linkUp l.val = true ∧
    fill.val < 16384 ∧
    ((t.port l.val).waitIdle = false ∨ idle = true)) ∧
  -- does_txSectionRx
  (∃ (s : State) (b : Fin 2) (payload : List Byte) (x : Section) (t : State) (u : State) (n : Int) (data : List Cx),
    parseSection (fun n => (n + 7) / 8) payload = some x ∧
    s.seqCheck x.stream x.seq = t ∧
    t.layerNearest x.stamp = n ∧
    (let clear := (blocksOf x.data).zipIdx.flatMap (fun (e : List Cx × Nat) =>
   if maskBit x.mask e.2 then e.1.map (fun _ => cx0) else e.1); if t.roundsTx then bfpRound 14 clear else clear) = data ∧
    (t.storePut x.stream (t.tx.startK + n.toNat * 2 ^ t.gStages) data).inc (F.FHM_TXCNT_COUNT 0) = u ∧
    s.on = true ∧
    s.brickUp b.val = true ∧
    t.txCheck x.stream n x.data.length = 0) ∧
  -- refuses_txSectionRx
  (∃ (s : State) (b : Fin 2) (payload : List Byte) (x : Section) (t : State) (c : Nat),
    parseSection (fun n => (n + 7) / 8) payload = some x ∧
    s.seqCheck x.stream x.seq = t ∧
    t.txCheck x.stream (t.layerNearest x.stamp) x.data.length = c ∧
    s.on = true ∧
    s.brickUp b.val = true ∧
    c ≠ 0) ∧
  -- does_rxSectionForm
  (∃ (s : State) (m : Fin 32) (slack : BitVec 16) (b : Nat) (n : Nat) (seq : Nat) (on_ : Nat) (t : State) (u : State) (x : State),
    (if s.meterActive 4 then s.meter 4 slack.toNat else s) = t ∧
    (sparseFind t.msgs.rxBlk m.val).getD 0 = b ∧
    2 * t.msgs.nblk = n ∧
    (sparseFind t.msgs.rxSeq m.val).getD 0 = seq ∧
    (sparseFind t.msgs.rxOn m.val).getD 0 = on_ ∧
    ({ t with
 msgs := { t.msgs with
   rxSeq := sparseInsert t.msgs.rxSeq m.val ((seq + 1) % 65536)
   rxBlk := sparseInsert t.msgs.rxBlk m.val (b + n)
   rxOn := sparseInsert t.msgs.rxOn m.val (t.placedOn m.val) }
 quay := { t.quay with layers := t.quay.layers.filter (fun e => !(e.1 == m.val && decide (e.2.1 < b + n))) } } : State) = u ∧
    (u.emit (.frame on_ 0 (t.sectionPayload m.val b seq))).inc (F.FHM_RXCNT_COUNT 0) = x ∧
    s.on = true ∧
    t.rxRunning = true ∧
    t.streamsOn.contains m.val = true ∧
    t.sectionReady m.val b = true ∧
    on_ ≠ 2 ∧
    t.brickUp on_ = true) ∧
  -- does_rxsCfgWrite
  (∃ (s : State) (src : Source) (m : Fin 32) (v : Word) (t : State),
    s.touch src = t ∧
    s.on = true ∧
    s.opens src (0xC0100 + 4 * m.val) v = true) ∧
  -- does_gapBegin
  (∃ (s : State) (g : Gap) (t : State) (u : State),
    s.msgs.gaps.find? (fun g => !g.begun) = some g ∧
    s.reach g.lo = t ∧
    t.setGaps (t.msgs.gaps.map (fun x => if x.lo = g.lo then { x with begun := true } else x)) = u ∧
    s.on = true) ∧
  -- does_gapEnd
  (∃ (s : State) (g : Gap) (t : State),
    s.msgs.gaps.find? (fun g => g.begun) = some g ∧
    s.reach g.hi = t ∧
    s.on = true) ∧
  -- does_eventMsgSend
  (∃ (s : State) (b : Nat) (seq : Nat) (l : List Notice),
    (if s.brickUp 0 then 0 else 1) = b ∧
    s.msgs.notices.take 8 = l ∧
    nth 0 s.msgs.seq7 b = seq ∧
    s.on = true ∧
    s.msgs.notices ≠ [] ∧
    s.anyBrickUp = true ∧
    s.flag F.FHM_CTL_EVT_EN = true) ∧
  -- does_fhmCtlWrite
  (∃ (s : State) (src : Source) (v : Word) (t : State),
    s.touch src = t ∧
    s.on = true ∧
    s.opens src F.FHM_CTL_EVT_EN.addr v = true) ∧
  -- does_fhmCntClr
  (∃ (s : State) (src : Source) (v : Word) (t : State) (u : State) (w : Word),
    s.touch src = t ∧
    fixBit v 0 = w ∧
    (t.each (List.range 8) (fun u c => u.put (F.FHM_TXCNT_COUNT c) 0)).each (List.range 4) (fun v c =>
 ((v.put (F.FHM_RXCNT_COUNT c) 0).put (F.FHM_B_ERR_COUNT 0 c) 0).put (F.FHM_B_ERR_COUNT 1 c) 0) = u ∧
    s.on = true ∧
    s.opens src F.FHM_CNT_CLR_CLR.addr w = true) := by
  refine ⟨?_, ?_, ?_, ?_, ?_, ?_, ?_, ?_, ?_, ?_, ?_⟩
  · exact ⟨wide, 0, [213, 0, 0, 8, 16, 0, 0, 4, 0, 0, 0, 0, 141, 41, 177, 96], true, 0, 0, _, _, rfl, rfl, by decide +kernel⟩
  · exact (
    let s : State := wide
    let l : Fin 4 := 0
    let f : List Byte := []
    let bad : Bool := true
    let idle : Bool := true
    let fill : Fin 16385 := 0
    let other : Fin 16385 := 0
    let m : Nat := (if l.val < 2 then 3 else 5)
    let t : State := s.meter m (s.ingressSlack l.val fill.val other.val)
    let c : Nat := Option.get (frameCause l.val f (bad || (t.port l.val).bad)) (by decide +kernel)
    ⟨s, l, f, bad, idle, fill, other, _, c, _, rfl, rfl, (Option.some_get _).symm, by decide +kernel⟩)
  · exact (
    let s : State := wide
    let b : Fin 2 := 0
    let payload : List Byte := [0, 0, 0, 0, 0, 0, 0, 1, 0x86, 0xA0, 0, 0, 0, 1, 0, 0, 0, 0, 0, 0] ++ List.replicate 64 0
    let x : Section := Option.get (parseSection (fun n => (n + 7) / 8) payload) (by decide +kernel)
    let t : State := s.seqCheck x.stream x.seq
    let n : Int := t.layerNearest x.stamp
    let data : List Cx := (let clear := (blocksOf x.data).zipIdx.flatMap (fun (e : List Cx × Nat) => if maskBit x.mask e.2 then e.1.map (fun _ => cx0) else e.1); if t.roundsTx then bfpRound 14 clear else clear)
    let u : State := (t.storePut x.stream (t.tx.startK + n.toNat * 2 ^ t.gStages) data).inc (F.FHM_TXCNT_COUNT 0)
    ⟨s, b, payload, x, _, _, _, _, (Option.some_get _).symm, rfl, rfl, rfl, rfl, by decide +kernel⟩)
  · exact (
    let s : State := wide
    let b : Fin 2 := 0
    let payload : List Byte := List.replicate 13 0 ++ 1 :: List.replicate 70 0
    let x : Section := Option.get (parseSection (fun n => (n + 7) / 8) payload) (by decide +kernel)
    let t : State := s.seqCheck x.stream x.seq
    let c : Nat := t.txCheck x.stream (t.layerNearest x.stamp) x.data.length
    ⟨s, b, payload, x, _, _, (Option.some_get _).symm, rfl, rfl, by decide +kernel⟩)
  · exact ⟨(State.puts { wide with quay := { wide.quay with layers := [(0, 128, {})] } } [(F.FHM_RXS_CFG_EN 0, 1)] : State), 0, 0,
            _, _, _, _, _, _, _, rfl, rfl, rfl, rfl, rfl, rfl, rfl, by decide +kernel⟩
  · exact ⟨wide, .jtag, 0, 0, _, rfl, by decide +kernel⟩
  · exact (
    let s : State := ({ wide with msgs := { wide.msgs with gaps := [⟨5, 9, 1, false⟩] } } : State)
    let g : Gap := Option.get (s.msgs.gaps.find? (fun g => !g.begun)) (by decide +kernel)
    let t : State := s.reach g.lo
    let u : State := t.setGaps (t.msgs.gaps.map (fun x => if x.lo = g.lo then { x with begun := true } else x))
    ⟨s, g, _, _, (Option.some_get _).symm, rfl, rfl, by decide +kernel⟩)
  · exact (
    let s : State := ({ wide with msgs := { wide.msgs with gaps := [⟨5, 9, 1, true⟩] } } : State)
    let g : Gap := Option.get (s.msgs.gaps.find? (fun g => g.begun)) (by decide +kernel)
    let t : State := s.reach g.hi
    ⟨s, g, _, (Option.some_get _).symm, rfl, by decide +kernel⟩)
  · exact ⟨({ wide with msgs := { wide.msgs with notices := [⟨0x301, 0, 0⟩] } } : State), _, _, _, rfl, rfl, rfl, by decide +kernel⟩
  · exact ⟨wide, .jtag, 0, _, rfl, by decide +kernel⟩
  · exact ⟨wide, .jtag, 0, _, _, _, rfl, rfl, rfl, by decide +kernel⟩

/-- Each clause of RemoteCommands has a state and operands that meet its hypotheses. -/
theorem meets_RemoteCommands :
  -- does_rtcBerthAdd
  (∃ (s : State) (via : Fin 3) (flags : Byte) (body : List Byte) (r : Nat) (t : State),
    s.schedAdd (rtcDir flags.toNat) (bodyStamp body) (beNat ((body.drop 8).take 2) % 512) = (r, t) ∧
    s.on = true ∧
    s.brickUp via.val = true ∧
    via.val ≠ 2 ∧
    body.length = 12 ∧
    3 ≤ s.cur ∧
    s.get (F.SEC_P_STAT_LEVEL (via.val + 1)) ≠ 0) ∧
  -- does_rtcBerthCancel
  (∃ (s : State) (via : Fin 3) (flags : Byte) (body : List Byte) (r : Nat) (t : State),
    s.schedCancel (rtcDir flags.toNat) (bodyStamp body) = (r, t) ∧
    s.on = true ∧
    s.brickUp via.val = true ∧
    via.val ≠ 2 ∧
    body.length = 8 ∧
    3 ≤ s.cur ∧
    s.get (F.SEC_P_STAT_LEVEL (via.val + 1)) ≠ 0 ∧
    s.rtcTime (bodyStamp body) = 0 ∧
    s.inRun = true) ∧
  -- does_rtcBerthFlush
  (∃ (s : State) (via : Fin 3) (flags : Byte) (body : List Byte) (r : Nat) (t : State),
    ((0, s.schedFlush (rtcDir flags.toNat)) : Nat × State) = (r, t) ∧
    s.on = true ∧
    s.brickUp via.val = true ∧
    via.val ≠ 2 ∧
    body.length = 0 ∧
    3 ≤ s.cur ∧
    s.get (F.SEC_P_STAT_LEVEL (via.val + 1)) ≠ 0 ∧
    s.inRun = true) ∧
  -- does_rtcGapGrant
  (∃ (s : State) (via : Fin 3) (body : List Byte) (r : Nat) (t : State),
    s.gapGrant (bodyStamp body) (beNat ((body.drop 8).take 4) % 2 ^ 20) (nth 0 body 12).toNat = (r, t) ∧
    s.on = true ∧
    s.brickUp via.val = true ∧
    via.val ≠ 2 ∧
    body.length = 16 ∧
    3 ≤ s.cur ∧
    s.get (F.SEC_P_STAT_LEVEL (via.val + 1)) ≠ 0 ∧
    s.rtcTime (bodyStamp body) = 0) ∧
  -- does_rtcGapRevoke
  (∃ (s : State) (via : Fin 3) (body : List Byte) (r : Nat) (t : State),
    s.gapRevoke (bodyStamp body) = (r, t) ∧
    s.on = true ∧
    s.brickUp via.val = true ∧
    via.val ≠ 2 ∧
    body.length = 8 ∧
    3 ≤ s.cur ∧
    s.get (F.SEC_P_STAT_LEVEL (via.val + 1)) ≠ 0 ∧
    s.rtcTime (bodyStamp body) = 0) ∧
  -- does_rtcNcoRetune
  (∃ (s : State) (via : Fin 3) (flags : Byte) (body : List Byte) (t : State) (w : Nat) (f : Int) (a : BitVec 64),
    bodyStamp body = a ∧
    beNat ((body.drop 8).take 6) = w ∧
    toSigned 48 w = f ∧
    s.on = true ∧
    s.brickUp via.val = true ∧
    via.val ≠ 2 ∧
    body.length = 16 ∧
    3 ≤ s.cur ∧
    s.get (F.SEC_P_STAT_LEVEL (via.val + 1)) ≠ 0 ∧
    s.rtcTime a = 0 ∧
    rtcDir flags.toNat = 1 ∧
    s.up domDSPRX = true ∧
    s.rxNcoGo f true a = (true, t)) ∧
  -- does_rtcNcoRetune_tx
  (∃ (s : State) (via : Fin 3) (flags : Byte) (body : List Byte) (t : State) (w : Nat) (f : Int) (a : BitVec 64),
    bodyStamp body = a ∧
    beNat ((body.drop 8).take 6) = w ∧
    toSigned 48 w = f ∧
    s.on = true ∧
    s.brickUp via.val = true ∧
    via.val ≠ 2 ∧
    body.length = 16 ∧
    3 ≤ s.cur ∧
    s.get (F.SEC_P_STAT_LEVEL (via.val + 1)) ≠ 0 ∧
    s.rtcTime a = 0 ∧
    rtcDir flags.toNat ≠ 1 ∧
    s.up domDSPTX = true ∧
    s.txNcoGo f true a = (true, t)) ∧
  -- does_rtcSynRetune
  (∃ (s : State) (via : Fin 3) (body : List Byte) (t : State) (n : Nat) (nn : Nat) (dv : Nat) (a : BitVec 64),
    bodyStamp body = a ∧
    (nth 0 body 8).toNat % 2 = n ∧
    (nth 0 body 9).toNat % 64 = nn ∧
    (nth 0 body 10).toNat % 2 = dv ∧
    s.on = true ∧
    s.brickUp via.val = true ∧
    via.val ≠ 2 ∧
    body.length = 12 ∧
    3 ≤ s.cur ∧
    s.get (F.SEC_P_STAT_LEVEL (via.val + 1)) ≠ 0 ∧
    s.rtcTime a = 0 ∧
    s.synCommand n nn dv true a = (0, t)) ∧
  -- does_rtcBerthAdd_member
  (∃ (s : State) (flags : Byte) (body : List Byte) (t : State) (a : BitVec 64),
    bodyStamp body = a ∧
    s.setSchedQ (rtcDir flags.toNat) (placeSched ⟨a, beNat ((body.drop 8).take 2) % 512, none⟩ (s.schedQ (rtcDir flags.toNat))) = t ∧
    s.on = true ∧
    s.memberHears = true ∧
    s.inRun = true) ∧
  -- does_rtcUnknown
  (∃ (s : State) (via : Fin 3) (cmd : Byte),
    s.on = true ∧
    s.brickUp via.val = true ∧
    via.val ≠ 2 ∧
    (¬cmd.toNat ∈ [0x01, 0x02, 0x03, 0x10, 0x11, 0x20, 0x21])) ∧
  -- does_rmaRead
  (∃ (s : State) (via : Fin 3) (elem : BitVec 16) (addr : BitVec 48) (len : BitVec 16) (l : List Byte) (t : State),
    s.rmaLoad (rmaSource via.val) addr.toNat (len.toNat / 4) = (l, t) ∧
    s.on = true ∧
    s.rmaHears via.val = true ∧
    elem.toNat = s.boot.chipId ∧
    s.boot.chipId < 4 ∧
    rmaBad 0 addr.toNat len.toNat [] = false) ∧
  -- does_rmaWrite
  (∃ (s : State) (via : Fin 3) (elem : BitVec 16) (addr : BitVec 48) (data : List Byte),
    s.on = true ∧
    s.rmaHears via.val = true ∧
    elem.toNat = s.boot.chipId ∧
    s.boot.chipId < 4 ∧
    rmaBad 1 addr.toNat data.length data = false) ∧
  -- refuses_rmaWrite
  (∃ (s : State) (via : Fin 3) (elem : BitVec 16) (addr : BitVec 48) (data : List Byte),
    s.on = true ∧
    s.rmaHears via.val = true ∧
    elem.toNat = s.boot.chipId ∧
    s.boot.chipId < 4 ∧
    rmaBad 1 addr.toNat data.length data = true) ∧
  -- does_rmaWriteNoResp
  (∃ (s : State) (via : Fin 3) (elem : BitVec 16) (addr : BitVec 48) (data : List Byte),
    s.on = true ∧
    s.rmaHears via.val = true ∧
    elem.toNat = s.boot.chipId ∧
    s.boot.chipId < 4 ∧
    rmaBad 2 addr.toNat data.length data = false) ∧
  -- does_rmaResponseRx
  (∃ (s : State) (b : Fin 2) (id : Byte) (n : Nat) (x : Chan) (e : Nat × Nat) (t : State),
    id.toNat / 16 % 16 = n ∧
    s.chan n = x ∧
    x.await.find? (fun e => e.1 % 16 == id.toNat % 16) = some e ∧
    s.setChan n { x with await := x.await.filter (fun f => f.1 != e.1) } = t ∧
    s.on = true ∧
    s.linkUp b.val = true ∧
    s.up domHOLD = true ∧
    x.brick = b.val) ∧
  -- does_resetRequest
  (∃ (s : State) (b : Fin 2),
    s.on = true ∧
    s.linkUp b.val = true ∧
    2 ≤ s.portLevel (b.val + 1)) := by
  refine ⟨?_, ?_, ?_, ?_, ?_, ?_, ?_, ?_, ?_, ?_, ?_, ?_, ?_, ?_, ?_, ?_⟩
  · exact (
    let s : State := wide
    let via : Fin 3 := 0
    let flags : Byte := 0
    let body : List Byte := [0, 0, 0, 1, 0, 0, 0, 0, 0, 0, 0, 0]
    let r : Nat := (s.schedAdd (rtcDir flags.toNat) (bodyStamp body) (beNat ((body.drop 8).take 2) % 512)).1
    let t : State := (s.schedAdd (rtcDir flags.toNat) (bodyStamp body) (beNat ((body.drop 8).take 2) % 512)).2
    ⟨s, via, flags, body, _, _, (Prod.eta _).symm, by decide +kernel⟩)
  · exact (
    let s : State := wide
    let via : Fin 3 := 0
    let flags : Byte := 0
    let body : List Byte := [0, 0, 0, 1, 0, 0, 0, 0]
    let r : Nat := (s.schedCancel (rtcDir flags.toNat) (bodyStamp body)).1
    let t : State := (s.schedCancel (rtcDir flags.toNat) (bodyStamp body)).2
    ⟨s, via, flags, body, _, _, (Prod.eta _).symm, by decide +kernel⟩)
  · exact (
    let s : State := wide
    let via : Fin 3 := 0
    let flags : Byte := 0
    let body : List Byte := []
    let r : Nat := (((0, s.schedFlush (rtcDir flags.toNat)) : Nat × State)).1
    let t : State := (((0, s.schedFlush (rtcDir flags.toNat)) : Nat × State)).2
    ⟨s, via, flags, body, _, _, (Prod.eta _).symm, by decide +kernel⟩)
  · exact (
    let s : State := wide
    let via : Fin 3 := 0
    let body : List Byte := [0, 0, 0, 1, 0, 0, 0, 0, 0, 0, 0, 0, 0, 0, 0, 0]
    let r : Nat := (s.gapGrant (bodyStamp body) (beNat ((body.drop 8).take 4) % 2 ^ 20) (nth 0 body 12).toNat).1
    let t : State := (s.gapGrant (bodyStamp body) (beNat ((body.drop 8).take 4) % 2 ^ 20) (nth 0 body 12).toNat).2
    ⟨s, via, body, _, _, (Prod.eta _).symm, by decide +kernel⟩)
  · exact (
    let s : State := wide
    let via : Fin 3 := 0
    let body : List Byte := [0, 0, 0, 1, 0, 0, 0, 0]
    let r : Nat := (s.gapRevoke (bodyStamp body)).1
    let t : State := (s.gapRevoke (bodyStamp body)).2
    ⟨s, via, body, _, _, (Prod.eta _).symm, by decide +kernel⟩)
  · exact (
    let s : State := wide
    let via : Fin 3 := 0
    let flags : Byte := 2
    let body : List Byte := [0, 0, 0, 1, 0, 0, 0, 0, 0, 0, 0, 0, 0, 0, 0, 0]
    let a : BitVec 64 := bodyStamp body
    let w : Nat := beNat ((body.drop 8).take 6)
    let f : Int := toSigned 48 w
    let t : State := match s.rxNcoGo f true a with | (true, t) => t | _ => wide
    ⟨s, via, flags, body, t, _, _, _, rfl, rfl, rfl, by decide +kernel⟩)
  · exact (
    let s : State := wide
    let via : Fin 3 := 0
    let flags : Byte := 0
    let body : List Byte := [0, 0, 0, 1, 0, 0, 0, 0, 0, 0, 0, 0, 0, 0, 0, 0]
    let a : BitVec 64 := bodyStamp body
    let w : Nat := beNat ((body.drop 8).take 6)
    let f : Int := toSigned 48 w
    let t : State := match s.txNcoGo f true a with | (true, t) => t | _ => wide
    ⟨s, via, flags, body, t, _, _, _, rfl, rfl, rfl, by decide +kernel⟩)
  · exact (
    let s : State := wide
    let via : Fin 3 := 0
    let body : List Byte := [0, 0, 0, 1, 0, 0, 0, 0, 0, 40, 0, 0]
    let a : BitVec 64 := bodyStamp body
    let n : Nat := (nth 0 body 8).toNat % 2
    let nn : Nat := (nth 0 body 9).toNat % 64
    let dv : Nat := (nth 0 body 10).toNat % 2
    let t : State := match s.synCommand n nn dv true a with | (0, t) => t | _ => wide
    ⟨s, via, body, t, _, _, _, _, rfl, rfl, rfl, rfl, by decide +kernel⟩)
  · exact ⟨(State.puts { wide with boot := { wide.boot with chipId := 1 } } [(F.RING_CTL_SIZE, 2), (F.RING_STAT_MEMBERS, 2)] : State),
            0, [], _, _, rfl, rfl, by decide +kernel⟩
  · exact ⟨wide, 0, 0, by decide +kernel⟩
  · exact (
    let s : State := wide
    let via : Fin 3 := 0
    let elem : BitVec 16 := 0
    let addr : BitVec 48 := 0
    let len : BitVec 16 := 4
    let l : List Byte := (s.rmaLoad (rmaSource via.val) addr.toNat (len.toNat / 4)).1
    let t : State := (s.rmaLoad (rmaSource via.val) addr.toNat (len.toNat / 4)).2
    ⟨s, via, elem, addr, len, _, _, (Prod.eta _).symm, by decide +kernel⟩)
  · exact ⟨wide, 0, 0, 0, [0, 0, 0, 0], by decide +kernel⟩
  · exact ⟨wide, 0, 0, 0, [], by decide +kernel⟩
  · exact ⟨wide, 0, 0, 0, [0, 0, 0, 0], by decide +kernel⟩
  · exact (
    let s : State := ({ wide with crane := { wide.crane with chans := [(0, { await := [(0, 9)] })] } } : State)
    let b : Fin 2 := 0
    let id : Byte := 0
    let n : Nat := id.toNat / 16 % 16
    let x : Chan := s.chan n
    let e : Nat × Nat := Option.get (x.await.find? (fun e => e.1 % 16 == id.toNat % 16)) (by decide +kernel)
    let t : State := s.setChan n { x with await := x.await.filter (fun f => f.1 != e.1) }
    ⟨s, b, id, _, _, e, _, rfl, rfl, (Option.some_get _).symm, rfl, by decide +kernel⟩)
  · exact ⟨wide, 0, by decide +kernel⟩

/-- Each clause of RingMembersAndRoutes has a state and operands that meet its hypotheses. -/
theorem meets_RingMembersAndRoutes :
  -- does_memberJoin
  (∃ (s : State) (d : Fin 4) (cfg : List Nat) (t : State) (u : State),
    { s with ring := { s.ring with cfgs := sparseInsert s.ring.cfgs d.val cfg } } = t ∧
    (t.emit (.ring d.val 2 s.ncoCfg)).setMembers (setBitAt t.members d.val true) = u ∧
    s.on = true ∧
    s.ringLive = true ∧
    d.val ≠ 0 ∧
    d.val < s.ringSize ∧
    s.boot.chipId = 0 ∧
    (s.linkUp 2 = true ∨ s.linkUp 3 = true) ∧
    cfg = s.chainCfg ∧
    bitAt t.members d.val = false) ∧
  -- refuses_memberJoin
  (∃ (s : State) (d : Fin 4) (cfg : List Nat) (t : State),
    { s with ring := { s.ring with cfgs := sparseInsert s.ring.cfgs d.val cfg } } = t ∧
    s.on = true ∧
    s.ringLive = true ∧
    d.val ≠ 0 ∧
    d.val < s.ringSize ∧
    s.boot.chipId = 0 ∧
    (s.linkUp 2 = true ∨ s.linkUp 3 = true) ∧
    cfg ≠ s.chainCfg) ∧
  -- does_memberJoin_member
  (∃ (s : State) (d : Fin 4) (cfg : List Nat),
    s.on = true ∧
    s.ringLive = true ∧
    d.val ≠ 0 ∧
    d.val < s.ringSize ∧
    d.val = s.boot.chipId ∧
    cfg = s.chainCfg) ∧
  -- does_ringTopoReport
  (∃ (s : State) (d : Fin 4),
    s.on = true ∧
    s.isHead = true ∧
    s.ringLive = true ∧
    d.val ≠ 0 ∧
    d.val < s.ringSize) ∧
  -- does_routeSwitch
  (∃ (s : State) (a : Stamp) (hw : Nat) (he : Nat),
    s.on = true ∧
    s.isHead = true ∧
    s.ring.route = some (a, hw, he)) ∧
  -- does_routeSwitch_member
  (∃ (s : State),
    s.on = true ∧
    s.isHead = false ∧
    s.isMember = true ∧
    s.ringLive = true) ∧
  -- does_psumSectionRx
  (∃ (s : State) (port : Fin 2) (payload : List Byte) (x : Section),
    parseSection (fun n => 2 * n + (n + 7) / 8) payload = some x ∧
    s.on = true ∧
    s.inRun = true ∧
    s.ringSize ≠ 0 ∧
    s.linkUp (2 + port.val) = true ∧
    s.flag F.RING_CTL_PSUM_EN = true ∧
    s.psumPorts.contains port.val = true ∧
    (x.comp = 3 ∧ x.data.length = 128 ∧ x.mask ≠ [])) ∧
  -- does_psumTimeout
  (∃ (s : State) (q : Fin 96) (i : Nat) (a : Nat) (t : State) (u : State),
    (s.core q.val).si1R / s.outVec (q.val / 24) = i ∧
    (s.core q.val).waitSince = some a ∧
    s.elapseTo (a + nsU (atLeast1 (s.get F.RING_HOLD_HOLD_NS))) = t ∧
    t.setCore q.val { t.core q.val with late := some i } = u ∧
    s.on = true ∧
    s.coreRuns q.val = true ∧
    (s.bundleAt q.val).xmode = 4 ∧
    (s.bundleAt q.val).xp % 4 = 1 ∧
    s.ringSize ≠ 0 ∧
    s.si1 q.val = none ∧
    ((s.core q.val).unit i).isSome = true) ∧
  -- does_layerForward
  (∃ (s : State) (l : Fin 32) (slack : BitVec 16) (t : State) (u : State) (j : Nat),
    (if s.meterActive 6 then s.meter 6 slack.toNat else s) = t ∧
    (t.fwdCuts l.val).find? (fun j => decide ((sparseFind t.ring.fwd l.val).getD 0 ≤ j) && t.cutDone l.val j) = some j ∧
    t.fwdSend l.val j t.arcLinks = u ∧
    s.on = true ∧
    t.inRun = true ∧
    t.ringSize ≠ 0 ∧
    t.boot.chipId = 0 ∧
    t.txRun = true) ∧
  -- does_layerForward_member
  (∃ (s : State) (port : Fin 2) (slack : BitVec 16) (t : State),
    (if s.meterActive 6 then s.meter 6 slack.toNat else s) = t ∧
    s.on = true ∧
    t.inRun = true ∧
    t.ringSize ≠ 0 ∧
    t.boot.chipId ≠ 0 ∧
    t.linkUp (2 + port.val) = true ∧
    bitAt t.members t.boot.chipId = true) ∧
  -- does_panelSumsRx
  (∃ (s : State) (d : Fin 4) (l : List (Fin 1024 × Fin 65 × Fin 65)) (base : List (Nat × Nat)) (next : List (Nat × Nat)),
    (if s.ring.sumsAt.isSome then s.ring.sumsNext else s.ring.sums) = base ∧
    (l.map (fun e => (e.1.val, e.2.1.val, e.2.2.val))).foldl (fun (m : List (Nat × Nat)) e =>
 sparseInsert m (d.val * 1024 + e.1 % 1024) (e.2.1 % 256 + 256 * (e.2.2 % 256))) base = next ∧
    s.on = true ∧
    s.ringLive = true ∧
    d.val ≠ s.boot.chipId ∧
    d.val < s.ringSize) := by
  refine ⟨?_, ?_, ?_, ?_, ?_, ?_, ?_, ?_, ?_, ?_, ?_⟩
  · exact ⟨(State.puts wide [(F.RING_CTL_SIZE, 2)] : State), 1, ((State.puts wide [(F.RING_CTL_SIZE, 2)] : State)).chainCfg, _, _,
            rfl, rfl, by decide +kernel⟩
  · exact ⟨(State.puts wide [(F.RING_CTL_SIZE, 2)] : State), 1, [9], _, rfl, by decide +kernel⟩
  · exact ⟨(State.puts { wide with boot := { wide.boot with chipId := 1 } } [(F.RING_CTL_SIZE, 2)] : State), 1,
            ((State.puts { wide with boot := { wide.boot with chipId := 1 } } [(F.RING_CTL_SIZE, 2)] : State)).chainCfg,
            by decide +kernel⟩
  · exact ⟨(State.puts wide [(F.RING_CTL_SIZE, 2)] : State), 1, by decide +kernel⟩
  · exact (
    let s : State := (State.puts { wide with ring := { wide.ring with route := some (0x1000000, 2, 0) } } [(F.RING_CTL_SIZE, 2)] : State)
    let a : Stamp := match s.ring.route with | some (a, hw, he) => a | _ => 0
    let hw : Nat := match s.ring.route with | some (a, hw, he) => hw | _ => 0
    let he : Nat := match s.ring.route with | some (a, hw, he) => he | _ => 0
    ⟨s, a, hw, he, by decide +kernel⟩)
  · exact ⟨(State.puts { wide with boot := { wide.boot with chipId := 1 } } [(F.RING_CTL_SIZE, 2)] : State), by decide +kernel⟩
  · exact (
    let s : State := (State.puts wide [(F.RING_CTL_SIZE, 2), (F.RING_STAT_WARC, 2)] : State)
    let port : Fin 2 := 1
    let payload : List Byte := List.replicate 12 0 ++ [3, 8, 0, 0, 0, 0, 1, 0xC4] ++ List.replicate 469 0
    let x : Section := Option.get (parseSection (fun n => 2 * n + (n + 7) / 8) payload) (by decide +kernel)
    ⟨s, port, payload, x, (Option.some_get _).symm, by decide +kernel⟩)
  · exact (
    let s : State := (State.puts { wide with mem := [(0x1000003, 0x40), (0x1000004, 0x80)], quay := { wide.quay with cores := [(0, { waitSince := some 0, units := [⟨0, 0, [0]⟩] })] } } [(F.RING_CTL_SIZE, 2), (F.RING_STAT_WARC, 2), (F.QCTL_K_STAT_RUNNING 0, 1)] : State)
    let q : Fin 96 := 0
    let i : Nat := (s.core q.val).si1R / s.outVec (q.val / 24)
    let a : Nat := Option.get ((s.core q.val).waitSince) (by decide +kernel)
    let t : State := s.elapseTo (a + nsU (atLeast1 (s.get F.RING_HOLD_HOLD_NS)))
    let u : State := t.setCore q.val { t.core q.val with late := some i }
    ⟨s, q, _, a, _, _, rfl, (Option.some_get _).symm, rfl, rfl, by decide +kernel⟩)
  · exact (
    let s : State := (State.puts { wide with msgs := { wide.msgs with store := [⟨0, 0, List.replicate 128 ⟨0, 0⟩⟩] } } [(F.RING_CTL_SIZE, 2)] : State)
    let l : Fin 32 := 0
    let slack : BitVec 16 := 0
    let t : State := (if s.meterActive 6 then s.meter 6 slack.toNat else s)
    let j : Nat := Option.get ((t.fwdCuts l.val).find? (fun j => decide ((sparseFind t.ring.fwd l.val).getD 0 ≤ j) && t.cutDone l.val j)) (by decide +kernel)
    let u : State := t.fwdSend l.val j t.arcLinks
    ⟨s, l, slack, _, _, j, rfl, (Option.some_get _).symm, rfl, by decide +kernel⟩)
  · exact ⟨(State.puts { wide with boot := { wide.boot with chipId := 1 } } [(F.RING_CTL_SIZE, 2), (F.RING_STAT_MEMBERS, 2)] : State),
            0, 0, _, rfl, by decide +kernel⟩
  · exact ⟨(State.puts wide [(F.RING_CTL_SIZE, 2)] : State), 1, [], _, _, rfl, rfl, by decide +kernel⟩

/-- Each clause of RingSyncAndCalibration has a state and operands that meet its hypotheses. -/
theorem meets_RingSyncAndCalibration :
  -- does_ringSyncGo
  (∃ (s : State) (src : Source) (v : Word) (t : State),
    s.touch src = t ∧
    s.on = true ∧
    s.opens src F.RING_SYNC_GO.addr (fixBit v 31) = true ∧
    t.ringLive = true ∧
    t.boot.chipId = 0 ∧
    t.ring.sync = none) ∧
  -- does_ringSyncGo_member
  (∃ (s : State) (src : Source) (v : Word) (t : State),
    s.touch src = t ∧
    s.on = true ∧
    s.opens src F.RING_SYNC_GO.addr (fixBit v 31) = true ∧
    t.ringLive = true ∧
    t.boot.chipId ≠ 0 ∧
    bitAt t.members t.boot.chipId = true) ∧
  -- does_ringSync
  (∃ (s : State) (a : Stamp) (u : State),
    s.ring.sync = some a ∧
    s.reach a = u ∧
    s.on = true ∧
    s.ringLive = true ∧
    s.boot.chipId = 0) ∧
  -- does_ringSync_member
  (∃ (s : State) (at_ : Stamp) (u : State),
    s.reach at_ = u ∧
    s.on = true ∧
    s.ringLive = true ∧
    s.boot.chipId ≠ 0 ∧
    bitAt s.members s.boot.chipId = true) ∧
  -- does_xcalReq
  (∃ (s : State) (src : Source) (v : Word) (t : State),
    State.touch { s with ring := { s.ring with calio := true } } src = t ∧
    s.on = true ∧
    State.opens { s with ring := { s.ring with calio := true } } src F.RING_XCAL_REQ_GO.addr (fixBit v 31) = true ∧
    t.ring.calio = true ∧
    t.isHead = true ∧
    t.flag F.RING_STAT_FORMED = true ∧
    t.flag F.BERTH_CTL_CALIO_EN = true ∧
    t.rx.cal = none ∧
    t.tx.cal = none ∧
    t.berth.cal = none ∧
    t.ring.xcal = none) ∧
  -- refuses_xcalReq
  (∃ (s : State) (src : Source) (calio : Bool) (v : Word) (t : State),
    State.touch { s with ring := { s.ring with calio := calio } } src = t ∧
    s.on = true ∧
    State.opens { s with ring := { s.ring with calio := calio } } src F.RING_XCAL_REQ_GO.addr (fixBit v 31) = true ∧
    (t.isHead = false ∨ t.flag F.RING_STAT_FORMED = false ∨ t.flag F.BERTH_CTL_CALIO_EN = false ∨ t.ring.calio = false)) ∧
  -- does_xcalStart
  (∃ (s : State) (w : Nat) (e : Stamp) (t : State),
    stampAdd s.stamp s.xcalSpan = e ∧
    ((State.putb { s with ring := { s.ring with xcal := some (w, some e) } } F.RING_XCAL_STAT_WAIT false).putb
 F.RING_XCAL_STAT_BUSY true).emit (.ring 15 8 [s.stamp.toNat, e.toNat]) = t ∧
    s.on = true ∧
    s.ring.xcal = some (w, none) ∧
    s.gapCovers s.quadMask s.xcalSpan = true ∧
    t.flag F.RING_XCAL_STAT_BUSY = true) ∧
  -- refuses_xcalStart
  (∃ (s : State) (w : Nat),
    s.on = true ∧
    s.ring.xcal = some (w, none) ∧
    s.gapCovers s.quadMask s.xcalSpan = false ∧
    s.flag F.RING_XCAL_STAT_BUSY = false ∧
    w ≤ s.aon) ∧
  -- does_xcalDone_member
  (∃ (s : State) (txAlign : BitVec 16) (txRe : BitVec 16) (txIm : BitVec 16) (rxAlign : BitVec 16) (rxRe : BitVec 16) (rxIm : BitVec
   16),
    s.on = true ∧
    s.isHead = false ∧
    s.isMember = true ∧
    bitAt s.members s.boot.chipId = true ∧
    xcalOk txAlign.toInt ⟨txRe.toInt, txIm.toInt⟩ = true ∧
    xcalOk rxAlign.toInt ⟨rxRe.toInt, rxIm.toInt⟩ = true) ∧
  -- does_xcalDone
  (∃ (s : State) (w : Nat) (n : Nat) (e : Stamp) (t : State) (u : State) (v : State) (ds : List Nat) (bad : List Nat),
    (s.reach e).draw = (n, t) ∧
    (List.range s.ringSize).filter (fun d => d != 0) = ds ∧
    ds.filter (xcalBad n) = bad ∧
    t.each (ds.filter (fun d => !bad.contains d)) (fun v d => v.emit (.ring d 6
 ([ofSigned 16 (xcalResult n d 0).1, ofSigned 16 (xcalResult n d 0).2.re, ofSigned 16 (xcalResult n d 0).2.im]
   ++ [ofSigned 16 (xcalResult n d 1).1, ofSigned 16 (xcalResult n d 1).2.re, ofSigned 16 (xcalResult n d 1).2.im]))) = u ∧
    (State.putb { u with ring := { u.ring with xcal := none } } F.RING_XCAL_STAT_BUSY false).put F.RING_XCAL_STAT_FAIL
 (maskOf bad) = v ∧
    s.on = true ∧
    s.isHead = true ∧
    s.ring.xcal = some (w, some e)) ∧
  -- does_ringRetrainE
  (∃ (s : State) (src : Source) (v : Word) (t : State) (w : Word),
    fixBit v F.RING_CTL_RETRAIN_E.lo = w ∧
    ((s.touch src).plain F.RING_CTL_SIZE.addr w.toNat).ringForm = t ∧
    s.on = true ∧
    s.opens src F.RING_CTL_SIZE.addr w = true ∧
    bitAt w.toNat 5 = false ∧
    (t.linkState 2 ≠ 0 ∧ t.linkState 2 ≠ 8)) ∧
  -- does_ringRetrainW
  (∃ (s : State) (src : Source) (v : Word) (t : State) (w : Word),
    fixBit v F.RING_CTL_RETRAIN_W.lo = w ∧
    ((s.touch src).plain F.RING_CTL_SIZE.addr w.toNat).ringForm = t ∧
    s.on = true ∧
    s.opens src F.RING_CTL_SIZE.addr w = true ∧
    bitAt w.toNat 4 = false ∧
    (t.linkState 3 ≠ 0 ∧ t.linkState 3 ≠ 8)) ∧
  -- does_ringCntClr
  (∃ (s : State) (src : Source) (v : Word) (t : State),
    s.touch src = t ∧
    s.on = true ∧
    s.opens src F.RING_CNT_CLR_CLR.addr (fixBit v 0) = true) := by
  refine ⟨?_, ?_, ?_, ?_, ?_, ?_, ?_, ?_, ?_, ?_, ?_, ?_, ?_⟩
  · exact ⟨(State.puts wide [(F.RING_CTL_SIZE, 2)] : State), .jtag, 0, _, rfl, by decide +kernel⟩
  · exact ⟨(State.puts { wide with boot := { wide.boot with chipId := 1 } } [(F.RING_CTL_SIZE, 2), (F.RING_STAT_MEMBERS, 2)] : State),
            .jtag, 0, _, rfl, by decide +kernel⟩
  · exact (
    let s : State := (State.puts { wide with ring := { wide.ring with sync := some 0x1000000 } } [(F.RING_CTL_SIZE, 2)] : State)
    let a : Stamp := Option.get (s.ring.sync) (by decide +kernel)
    let u : State := s.reach a
    ⟨s, a, _, (Option.some_get _).symm, rfl, by decide +kernel⟩)
  · exact ⟨(State.puts { wide with boot := { wide.boot with chipId := 1 } } [(F.RING_CTL_SIZE, 2), (F.RING_STAT_MEMBERS, 2)] : State),
            0, _, rfl, by decide +kernel⟩
  · exact ⟨(State.puts wide [(F.RING_CTL_SIZE, 2), (F.RING_STAT_FORMED, 1), (F.BERTH_CTL_CALIO_EN, 1)] : State), .jtag, 0, _, rfl,
            by decide +kernel⟩
  · exact ⟨wide, .jtag, true, 0, _, rfl, by decide +kernel⟩
  · exact (
    let s : State := ({ wide with ring := { wide.ring with xcal := some (9, none) }, msgs := { wide.msgs with gaps := [⟨0, 0x4000000000000, 255, true⟩] } } : State)
    let w : Nat := match s.ring.xcal with | some (w, none) => w | _ => 0
    let e : Stamp := stampAdd s.stamp s.xcalSpan
    let t : State := ((State.putb { s with ring := { s.ring with xcal := some (w, some e) } } F.RING_XCAL_STAT_WAIT false).putb F.RING_XCAL_STAT_BUSY true).emit (.ring 15 8 [s.stamp.toNat, e.toNat])
    ⟨s, w, _, _, rfl, rfl, by decide +kernel⟩)
  · exact (
    let s : State := ({ wide with ring := { wide.ring with xcal := some (0, none) } } : State)
    let w : Nat := match s.ring.xcal with | some (w, none) => w | _ => 0
    ⟨s, w, by decide +kernel⟩)
  · exact ⟨(State.puts { wide with boot := { wide.boot with chipId := 1 } } [(F.RING_CTL_SIZE, 2), (F.RING_STAT_MEMBERS, 2)] : State),
            0, 16384, 0, 0, 16384, 0, by decide +kernel⟩
  · exact (
    let s : State := (State.puts { wide with ring := { wide.ring with xcal := some (9, some 0x1000000) } } [(F.RING_CTL_SIZE, 2)] : State)
    let w : Nat := match s.ring.xcal with | some (w, some e) => w | _ => 0
    let e : Stamp := match s.ring.xcal with | some (w, some e) => e | _ => 0
    let n : Nat := ((s.reach e).draw).1
    let t : State := ((s.reach e).draw).2
    let ds : List Nat := (List.range s.ringSize).filter (fun d => d != 0)
    let bad : List Nat := ds.filter (xcalBad n)
    let u : State := t.each (ds.filter (fun d => !bad.contains d)) (fun v d => v.emit (.ring d 6 ([ofSigned 16 (xcalResult n d 0).1, ofSigned 16 (xcalResult n d 0).2.re, ofSigned 16 (xcalResult n d 0).2.im] ++ [ofSigned 16 (xcalResult n d 1).1, ofSigned 16 (xcalResult n d 1).2.re, ofSigned 16 (xcalResult n d 1).2.im])))
    let v : State := (State.putb { u with ring := { u.ring with xcal := none } } F.RING_XCAL_STAT_BUSY false).put F.RING_XCAL_STAT_FAIL (maskOf bad)
    ⟨s, w, _, e, _, _, _, _, _, (Prod.eta _).symm, rfl, rfl, rfl, rfl, by decide +kernel⟩)
  · exact ⟨wide, .jtag, 0, _, _, rfl, rfl, by decide +kernel⟩
  · exact ⟨wide, .jtag, 0, _, _, rfl, rfl, by decide +kernel⟩
  · exact ⟨wide, .jtag, 0, _, rfl, by decide +kernel⟩

/-- Each clause of TideAndTimedOutputs has a state and operands that meet its hypotheses. -/
theorem meets_TideAndTimedOutputs :
  -- does_tideExchangeStart
  (∃ (s : State),
    s.on = true ∧
    s.flag F.TIDE_STAT_SRC_OK = true ∧
    s.tide.xchg = none) ∧
  -- does_type5MessageRx
  (∃ (s : State) (l : Fin 4) (b : List Byte),
    s.on = true ∧
    s.linkUp l.val = true ∧
    2 ≤ s.cur ∧
    b.length = 20 ∧
    (nth 0 b 1).toNat ≤ 1) ∧
  -- does_tideExchangeComplete
  (∃ (s : State) (x : Exchange) (t1 : Int) (t2 : Int) (t4 : Int),
    s.tide.xchg = some x ∧
    x.t1 = some t1 ∧
    x.t2 = some t2 ∧
    x.t4 = some t4 ∧
    s.on = true) ∧
  -- does_tideExchangeLost
  (∃ (s : State) (x : Exchange),
    s.tide.xchg = some x ∧
    s.on = true ∧
    (x.t1 = none ∨ x.t2 = none ∨ x.t4 = none)) ∧
  -- does_tideHold
  (∃ (s : State),
    s.on = true ∧
    s.get F.TIDE_STAT_STATE = 2) ∧
  -- does_tideAck
  (∃ (s : State) (src : Source) (v : Word) (t : State) (w : Word),
    s.touch src = t ∧
    fixBit v 31 = w ∧
    s.on = true ∧
    s.opens src 0xE0000 w = true) ∧
  -- does_tideAsymWrite
  (∃ (s : State) (src : Source) (j : Fin 4) (v : Word) (t : State),
    s.touch src = t ∧
    s.on = true ∧
    s.opens src (0xE0020 + 4 * j.val) v = true) ∧
  -- does_tideCntClr
  (∃ (s : State) (src : Source) (v : Word) (t : State),
    s.touch src = t ∧
    s.on = true ∧
    s.opens src F.TIDE_CNT_CLR_CLR.addr (fixBit v 0) = true) ∧
  -- does_toAdd
  (∃ (s : State) (src : Source) (v : Word) (t : State) (w : Word) (pin : Nat) (at_ : Stamp),
    s.touch src = t ∧
    fix (fixBit v 31) 29 2 0 = w ∧
    bitsAt w.toNat 0 5 = pin ∧
    t.get64 F.TIDE_TO_AT_LO_STAMP F.TIDE_TO_AT_HI_STAMP = at_ ∧
    s.on = true ∧
    s.opens src F.TIDE_TO_CMD_GO.addr w = true ∧
    t.toCheck pin at_ = 0) ∧
  -- refuses_toAdd
  (∃ (s : State) (src : Source) (v : Word) (t : State) (w : Word) (pin : Nat) (at_ : Stamp),
    s.touch src = t ∧
    fix (fixBit v 31) 29 2 0 = w ∧
    bitsAt w.toNat 0 5 = pin ∧
    t.get64 F.TIDE_TO_AT_LO_STAMP F.TIDE_TO_AT_HI_STAMP = at_ ∧
    s.on = true ∧
    s.opens src F.TIDE_TO_CMD_GO.addr w = true ∧
    t.toCheck pin at_ ≠ 0) ∧
  -- does_toFlush
  (∃ (s : State) (src : Source) (v : Word) (t : State) (w : Word) (pin : Nat),
    s.touch src = t ∧
    fix (fixBit v 31) 29 2 1 = w ∧
    bitsAt w.toNat 0 5 = pin ∧
    s.on = true ∧
    s.opens src F.TIDE_TO_CMD_GO.addr w = true ∧
    pinListed pin = true) ∧
  -- refuses_toFlush
  (∃ (s : State) (src : Source) (v : Word) (t : State) (w : Word) (pin : Nat),
    s.touch src = t ∧
    fix (fixBit v 31) 29 2 1 = w ∧
    bitsAt w.toNat 0 5 = pin ∧
    s.on = true ∧
    s.opens src F.TIDE_TO_CMD_GO.addr w = true ∧
    pinListed pin = false) ∧
  -- does_toOpReserved
  (∃ (s : State) (src : Source) (v : Word) (t : State) (w : Word) (pin : Nat),
    s.touch src = t ∧
    fix (fixBit v 31) 29 2 (2 + v.toNat / 2 ^ 29 % 2) = w ∧
    bitsAt w.toNat 0 5 = pin ∧
    s.on = true ∧
    s.opens src F.TIDE_TO_CMD_GO.addr w = true) ∧
  -- does_timedOutputEdge
  (∃ (s : State) (pin : Fin 26) (e : TimedEntry) (es : List TimedEntry) (due : List TimedEntry) (rest : List TimedEntry),
    dueEntries (e :: es) = (due, rest) ∧
    s.on = true ∧
    s.timedQ pin.val = e :: es) ∧
  -- does_tpulseModeWrite
  (∃ (s : State) (src : Source) (n : Fin 4) (v : Word) (t : State),
    s.touch src = t ∧
    s.on = true ∧
    s.opens src (F.TIDE_TP_CTL_MODE n.val).addr v = true) := by
  refine ⟨?_, ?_, ?_, ?_, ?_, ?_, ?_, ?_, ?_, ?_, ?_, ?_, ?_, ?_, ?_⟩
  · exact ⟨(State.puts wide [(F.TIDE_STAT_SRC_OK, 1)] : State), by decide +kernel⟩
  · exact ⟨wide, 0, List.replicate 20 0, by decide +kernel⟩
  · exact (
    let s : State := ({ wide with tide := { wide.tide with xchg := some ⟨0, 0, some 1, some 2, 3, some 4, false⟩ } } : State)
    let x : Exchange := Option.get (s.tide.xchg) (by decide +kernel)
    let t1 : Int := Option.get (x.t1) (by decide +kernel)
    let t2 : Int := Option.get (x.t2) (by decide +kernel)
    let t4 : Int := Option.get (x.t4) (by decide +kernel)
    ⟨s, x, t1, t2, t4, (Option.some_get _).symm, (Option.some_get _).symm, (Option.some_get _).symm, (Option.some_get _).symm, by decide +kernel⟩)
  · exact (
    let s : State := ({ wide with tide := { wide.tide with xchg := some ⟨0, 0, none, none, 3, none, false⟩ } } : State)
    let x : Exchange := Option.get (s.tide.xchg) (by decide +kernel)
    ⟨s, x, (Option.some_get _).symm, by decide +kernel⟩)
  · exact ⟨(State.puts wide [(F.TIDE_STAT_STATE, 2)] : State), by decide +kernel⟩
  · exact ⟨wide, .jtag, 0, _, _, rfl, rfl, by decide +kernel⟩
  · exact ⟨wide, .jtag, 0, 0, _, rfl, by decide +kernel⟩
  · exact ⟨wide, .jtag, 0, _, rfl, by decide +kernel⟩
  · exact ⟨(State.puts wide [(F.TIDE_TO_AT_HI_STAMP, 1)] : State), .jtag, 8, _, _, _, _, rfl, rfl, rfl, rfl, by decide +kernel⟩
  · exact ⟨wide, .jtag, 0, _, _, _, _, rfl, rfl, rfl, rfl, by decide +kernel⟩
  · exact ⟨wide, .jtag, 0, _, _, _, rfl, rfl, rfl, by decide +kernel⟩
  · exact ⟨wide, .jtag, 4, _, _, _, rfl, rfl, rfl, by decide +kernel⟩
  · exact ⟨wide, .jtag, 0, _, _, _, rfl, rfl, rfl, by decide +kernel⟩
  · exact (
    let s : State := ({ wide with tide := { wide.tide with queues := [(0, [⟨0x1000000, true, false⟩])] } } : State)
    let pin : Fin 26 := 0
    let e : TimedEntry := match s.timedQ pin.val with | e :: es => e | _ => ⟨0, true, true⟩
    let es : List TimedEntry := match s.timedQ pin.val with | e :: es => es | _ => []
    let due : List TimedEntry := (dueEntries (e :: es)).1
    let rest : List TimedEntry := (dueEntries (e :: es)).2
    ⟨s, pin, e, es, _, _, (Prod.eta _).symm, by decide +kernel⟩)
  · exact ⟨wide, .jtag, 0, 0, _, rfl, by decide +kernel⟩

/-- Each clause of LookoutCommands has a state and operands that meet its hypotheses. -/
theorem meets_LookoutCommands :
  -- does_coexActRise
  (∃ (s : State) (t : State),
    { s with pins := { s.pins with coexAct := true }
             look := { s.look with act := ((s.tide.now, none) :: s.look.act).take 16 } } = t ∧
    s.on = true ∧
    s.pins.coexAct = false) ∧
  -- does_coexActFall
  (∃ (s : State) (e : Nat) (t : State),
    s.tide.now + nsU (s.get F.FEND_ACT_CTL_HOLD_NS) = e ∧
    { s with pins := { s.pins with coexAct := false }
             look := { s.look with act := s.look.act.map (fun x => (x.1, some (x.2.getD e))) } } = t ∧
    s.on = true ∧
    s.pins.coexAct = true) ∧
  -- does_edBinEnd
  (∃ (s : State) (e : Nat) (t : State),
    s.look.bin + nsU 4000 = e ∧
    s.reachAbs e = t ∧
    s.on = true ∧
    s.look.on = true) ∧
  -- does_stfDetect
  (∃ (s : State) (b : Fin 16) (c : Fin 20) (w : Fin 2) (pd : Int) (x : LookKey) (u : State),
    s.lookKey b.val c.val = x ∧
    (s.inc (F.LOOK_CNT_COUNT 0)).setLookKey b.val c.val { (x.setWatcher w.val { x.watcher w.val with
 state := 1, det := s.tide.now }) with busy := (s.tide.now, none, w.val) :: x.busy } = u ∧
    s.on = true ∧
    s.watching b.val c.val = true ∧
    (x.watcher w.val).state = 0 ∧
    (x.watcher w.val).deaf ≤ s.tide.now ∧
    100 * s.geti F.LOOK_THR_PD_THR ≤ pd ∧
    (x.watcher (1 - w.val)).state ≠ 3) ∧
  -- does_ltfSync
  (∃ (s : State) (b : Fin 16) (c : Fin 20) (w : Fin 2) (x : LookKey),
    s.lookKey b.val c.val = x ∧
    s.on = true ∧
    s.watching b.val c.val = true ∧
    (x.watcher w.val).state = 1 ∧
    s.tide.now ≤ (x.watcher w.val).det + usU 12) ∧
  -- does_ltfTimeout
  (∃ (s : State) (b : Fin 16) (c : Fin 20) (w : Fin 2) (k : Watcher),
    (s.lookKey b.val c.val).watcher w.val = k ∧
    s.on = true ∧
    s.watching b.val c.val = true ∧
    k.state = 1) ∧
  -- does_lsigDecode
  (∃ (s : State) (b : Fin 16) (c : Fin 20) (w : Fin 2) (sig : BitVec 24) (k : Watcher) (t : State) (x : LookKey) (z : LookKey) (ts :
   Nat) (te : Nat),
    (s.lookKey b.val c.val).watcher w.val = k ∧
    s.reachAbs (k.ty + nsU 10400) = t ∧
    k.ty - nsU 9600 = ts ∧
    ts + usU (sigDur sig.toNat) = te ∧
    t.lookKey b.val c.val = x ∧
    { ((x.setWatcher w.val { k with state := 3, te := te }).close w.val t.tide.now) with
 busy := (ts, some te, 2) :: ((x.setWatcher w.val { k with state := 3, te := te }).close w.val t.tide.now).busy } = z ∧
    s.on = true ∧
    s.watching b.val c.val = true ∧
    k.state = 2 ∧
    sigOk sig.toNat = true ∧
    (x.watcher (1 - w.val)).state ≠ 3) ∧
  -- does_lsigDecode_false
  (∃ (s : State) (b : Fin 16) (c : Fin 20) (w : Fin 2) (sig : BitVec 24) (k : Watcher) (t : State),
    (s.lookKey b.val c.val).watcher w.val = k ∧
    s.reachAbs (k.ty + nsU 10400) = t ∧
    s.on = true ∧
    s.watching b.val c.val = true ∧
    k.state = 2 ∧
    sigOk sig.toNat = false) ∧
  -- does_watcherBusyEnd
  (∃ (s : State) (b : Fin 16) (c : Fin 20) (w : Fin 2) (k : Watcher) (t : State),
    (s.lookKey b.val c.val).watcher w.val = k ∧
    s.reachAbs k.te = t ∧
    s.on = true ∧
    s.watching b.val c.val = true ∧
    k.state = 3) ∧
  -- does_lookCtlWrite
  (∃ (s : State) (src : Source) (v : Word) (t : State),
    s.touch src = t ∧
    s.on = true ∧
    s.opens src F.LOOK_CTL_EN.addr v = true) ∧
  -- does_lookCfgWrite
  (∃ (s : State) (src : Source) (i : Fin 1048) (v : Word) (t : State),
    s.touch src = t ∧
    s.on = true ∧
    s.opens src (lookCfgAddr i.val) v = true ∧
    t.flag F.LOOK_CTL_EN = false) ∧
  -- refuses_lookCfgWrite
  (∃ (s : State) (src : Source) (i : Fin 1048) (v : Word) (t : State),
    s.touch src = t ∧
    s.on = true ∧
    s.opens src (lookCfgAddr i.val) v = true ∧
    t.flag F.LOOK_CTL_EN = true) ∧
  -- does_lookCntClr
  (∃ (s : State) (src : Source) (v : Word) (t : State),
    s.touch src = t ∧
    s.on = true ∧
    s.opens src F.LOOK_CNT_CLR_CLR.addr (fixBit v 0) = true) := by
  refine ⟨?_, ?_, ?_, ?_, ?_, ?_, ?_, ?_, ?_, ?_, ?_, ?_, ?_⟩
  · exact ⟨wide, _, rfl, by decide +kernel⟩
  · exact ⟨({ wide with pins := { wide.pins with coexAct := true } } : State), _, _, rfl, rfl, by decide +kernel⟩
  · exact ⟨({ wide with look := { wide.look with on := true } } : State), _, _, rfl, rfl, by decide +kernel⟩
  · exact ⟨(State.puts { wide with look := { wide.look with on := true } } [(F.LOOK_CTL_EN, 1), (F.LOOK_BEAMV_RE 0 0, 1), (F.LOOK_SCH_EN 0, 1)] : State),
            0, 0, 0, 0, _, _, rfl, rfl, by decide +kernel⟩
  · exact ⟨(State.puts { wide with look := { wide.look with on := true, keys := [(0, { w0 := { state := 1 } })] } } [(F.LOOK_CTL_EN, 1), (F.LOOK_BEAMV_RE 0 0, 1), (F.LOOK_SCH_EN 0, 1)] : State),
            0, 0, 0, _, rfl, by decide +kernel⟩
  · exact ⟨(State.puts { wide with look := { wide.look with on := true, keys := [(0, { w0 := { state := 1 } })] } } [(F.LOOK_CTL_EN, 1), (F.LOOK_BEAMV_RE 0 0, 1), (F.LOOK_SCH_EN 0, 1)] : State),
            0, 0, 0, _, rfl, by decide +kernel⟩
  · exact ⟨(State.puts { wide with look := { wide.look with on := true, keys := [(0, { w0 := { state := 2 } })] } } [(F.LOOK_CTL_EN, 1), (F.LOOK_BEAMV_RE 0 0, 1), (F.LOOK_SCH_EN 0, 1)] : State),
            0, 0, 0, 0x2880D, _, _, _, _, _, _, rfl, rfl, rfl, rfl, rfl, rfl, by decide +kernel⟩
  · exact ⟨(State.puts { wide with look := { wide.look with on := true, keys := [(0, { w0 := { state := 2 } })] } } [(F.LOOK_CTL_EN, 1), (F.LOOK_BEAMV_RE 0 0, 1), (F.LOOK_SCH_EN 0, 1)] : State),
            0, 0, 0, 0, _, _, rfl, rfl, by decide +kernel⟩
  · exact ⟨(State.puts { wide with look := { wide.look with on := true, keys := [(0, { w0 := { state := 3 } })] } } [(F.LOOK_CTL_EN, 1), (F.LOOK_BEAMV_RE 0 0, 1), (F.LOOK_SCH_EN 0, 1)] : State),
            0, 0, 0, _, _, rfl, rfl, by decide +kernel⟩
  · exact ⟨wide, .jtag, 0, _, rfl, by decide +kernel⟩
  · exact ⟨(State.puts wide [(F.LOOK_CTL_EN, 0)] : State), .jtag, 0, 0, _, rfl, by decide +kernel⟩
  · exact ⟨wide, .jtag, 0, 0, _, rfl, by decide +kernel⟩
  · exact ⟨wide, .jtag, 0, _, rfl, by decide +kernel⟩

end Sys2Proof.Machine
end

