-- ==== Sys2Proof/Tests/Meets3.lean ====
section
/-! SUPPORT. States and operands that meet the hypotheses of the statements about the commands, clause by clause: PowerAmplifierSequences to
TestAccessPort. -/

namespace Sys2Proof.Machine

set_option Elab.async false

/-- A state in which the scrubber has seen the row of its next granule with an error (R379). -/
def State.rowSeen (s : State) : State := { s with hold := { s.hold with rowsBefore := [s.holdRow s.hold.scrub] } }
theorem holdRead_one_keeps_rowsBefore (s : State) (g : Nat) : (s.holdRead g 1).hold.rowsBefore = s.hold.rowsBefore := by
  unfold State.holdRead
  split
  · rfl
  · rw [if_pos rfl]
    unfold State.correctedError State.inc
    rw [State.raiseLim_hold, State.put_hold]
theorem rowSeen_contains (s : State) :
    ((s.rowSeen.holdCarried 4 1).holdRead s.rowSeen.hold.scrub 1).hold.rowsBefore.contains (s.rowSeen.holdRow s.rowSeen.hold.scrub) = true := by
  rw [holdRead_one_keeps_rowsBefore, State.holdCarried, State.put_hold, show s.rowSeen.hold.rowsBefore = [s.rowSeen.holdRow s.rowSeen.hold.scrub] from rfl]
  exact List.contains_iff_mem.2 List.mem_cons_self

/-- Each clause of PowerAmplifierSequences has a state and operands that meet its hypotheses. -/
theorem meets_PowerAmplifierSequences :
  -- does_biasWrite
  (∃ (s : State) (src : Source) (o : Fin 72) (v : Word) (t : State) (park : State),
    s.touch src = t ∧
    (if (sparseFind t.fend.moves o.val).isSome then t else
{ t with fend := { t.fend with moves := sparseInsert t.fend.moves o.val (BiasMove.mk (t.biasUvNow o.val) t.aon
(t.get (biasRange o.val)) (t.get (biasOut o.val)) fastRate) } }) = park ∧
    s.on = true ∧
    s.opens src (biasTarget o.val).addr v = true ∧
    (64 ≤ o.val ∨ t.paState (o.val / 8) = paOFF) ∧
    (64 ≤ o.val ∨ (t.paSeq (o.val / 8)).step ≠ 4) ∧
    t.feFault = false ∧
    t.inRun = true) ∧
  -- refuses_biasWrite
  (∃ (s : State) (src : Source) (o : Fin 72) (v : Word) (t : State),
    s.touch src = t ∧
    s.on = true ∧
    s.opens src (biasTarget o.val).addr v = true ∧
    o.val < 64 ∧
    bitsAt v.toNat 31 1 ≠ t.get (biasRange o.val) ∧
    t.paState (o.val / 8) ≠ paOFF) ∧
  -- does_paCmdOn
  (∃ (s : State) (src : Source) (v : Word) (t : State) (w : Word),
    s.touch src = t ∧
    fix (fixBit v 31) 16 2 1 = w ∧
    s.on = true ∧
    s.opens src F.FEND_PA_CMD_GO.addr w = true) ∧
  -- does_paCmdOff
  (∃ (s : State) (src : Source) (v : Word) (t : State) (w : Word),
    s.touch src = t ∧
    fix (fixBit v 31) 16 2 2 = w ∧
    s.on = true ∧
    s.opens src F.FEND_PA_CMD_GO.addr w = true) ∧
  -- does_paCmdIgnored
  (∃ (s : State) (src : Source) (v : Word) (t : State) (w : Word),
    s.touch src = t ∧
    fix (fixBit v 31) 16 2 (3 * (v.toNat / 65536 % 2)) = w ∧
    s.on = true ∧
    s.opens src F.FEND_PA_CMD_GO.addr w = true) ∧
  -- does_paDrainWaitEnd
  (∃ (s : State) (q : Fin 8) (t : State),
    s.elapseTo (s.paSeq q.val).waitEnd = t ∧
    s.on = true ∧
    (s.paSeq q.val).step = 3) ∧
  -- does_paDrainWaitEnd_off
  (∃ (s : State) (q : Fin 8) (t : State),
    s.elapseTo (s.paSeq q.val).waitEnd = t ∧
    s.on = true ∧
    (s.paSeq q.val).step = 6) ∧
  -- does_paBiasArrived
  (∃ (s : State) (q : Fin 8) (t : State),
    (s.elapseTo (s.quadArrive q.val)).each (quadOuts q.val) State.syncBias = t ∧
    s.on = true ∧
    (s.paSeq q.val).step = 4 ∧
    (t.paSeq q.val).step = 4) ∧
  -- does_paBiasArrived_drain
  (∃ (s : State) (q : Fin 8) (t : State),
    (s.elapseTo (s.quadArrive q.val)).each (quadOuts q.val) State.syncBias = t ∧
    s.on = true ∧
    (s.paSeq q.val).step = 1 ∧
    (t.paSeq q.val).step = 1) ∧
  -- does_paBiasArrived_off
  (∃ (s : State) (q : Fin 8) (t : State),
    (s.elapseTo (s.quadArrive q.val)).each (quadOuts q.val) State.syncBias = t ∧
    s.on = true ∧
    (s.paSeq q.val).step = 5 ∧
    (t.paSeq q.val).step = 5) ∧
  -- does_feFaultDrainOff
  (∃ (s : State) (a : Nat),
    s.fend.drainOffAt = some a ∧
    s.on = true) ∧
  -- does_vnegFault
  (∃ (s : State),
    s.on = true ∧
    s.feFault = false) ∧
  -- does_vnegRestored
  (∃ (s : State) (n : Nat) (t : State) (u : State),
    (s.word 0x100014).toNat = n ∧
    s.setWord 0x100014 (BitVec.ofNat 32 (setBitAt n 4 false)) = t ∧
    (t.iff (t.fend.drainOffAt != none) State.drainsLow).raise 0x1004 0 = u ∧
    s.on = true ∧
    bitAt n 4 = true ∧
    t.feFault = false ∧
    u.flag F.FEND_PA_CTL_AUTO_ON = true ∧
    u.inRun = true) ∧
  -- does_synUnlockFault
  (∃ (s : State) (a : Nat),
    (s.syn s.txSyn).unlockedSince = some a ∧
    s.on = true ∧
    s.txLoBad = true) := by
  refine ⟨?_, ?_, ?_, ?_, ?_, ?_, ?_, ?_, ?_, ?_, ?_, ?_, ?_, ?_⟩
  · exact ⟨wide, .jtag, 0, 0, _, _, rfl, rfl, by decide +kernel⟩
  · exact ⟨(State.puts wide [(F.FEND_PA_STAT_STATE, 1)] : State), .jtag, 0, 0x80000000, _, rfl, by decide +kernel⟩
  · exact ⟨wide, .jtag, 0, _, _, rfl, rfl, by decide +kernel⟩
  · exact ⟨wide, .jtag, 0, _, _, rfl, rfl, by decide +kernel⟩
  · exact ⟨wide, .jtag, 0, _, _, rfl, rfl, by decide +kernel⟩
  · exact ⟨({ wide with fend := { wide.fend with seqs := [(0, { step := 3, waitEnd := 9 })] } } : State), 0, _, rfl,
            by decide +kernel⟩
  · exact ⟨({ wide with fend := { wide.fend with seqs := [(0, { step := 6, waitEnd := 9 })] } } : State), 0, _, rfl,
            by decide +kernel⟩
  · exact ⟨({ wide with fend := { wide.fend with seqs := [(0, { step := 4, waitEnd := 9 })] } } : State), 0, _, rfl,
            by decide +kernel⟩
  · exact ⟨({ wide with fend := { wide.fend with seqs := [(0, { step := 1, waitEnd := 9 })] } } : State), 0, _, rfl,
            by decide +kernel⟩
  · exact ⟨({ wide with fend := { wide.fend with seqs := [(0, { step := 5, waitEnd := 9 })] } } : State), 0, _, rfl,
            by decide +kernel⟩
  · exact (
    let s : State := ({ wide with fend := { wide.fend with drainOffAt := some 9 } } : State)
    let a : Nat := Option.get (s.fend.drainOffAt) (by decide +kernel)
    ⟨s, a, (Option.some_get _).symm, by decide +kernel⟩)
  · exact ⟨wide, by decide +kernel⟩
  · exact ⟨(State.puts wide [(F.FEND_PA_CTL_AUTO_ON, 1), ((⟨0x100014, 0, 32⟩ : Field), 16)] : State), _, _, _, rfl, rfl, rfl,
            by decide +kernel⟩
  · exact (
    let s : State := (State.puts { wide with clk := { wide.clk with syn0 := { unlockedSince := some 9 }, syn1 := { unlockedSince := some 9 } } } [(F.CLK_SYN_STAT_LOCK 0, 0), (F.CLK_SYN_STAT_LOCK 1, 0)] : State)
    let a : Nat := Option.get ((s.syn s.txSyn).unlockedSince) (by decide +kernel)
    ⟨s, a, (Option.some_get _).symm, by decide +kernel⟩)

/-- Each clause of RffeAndBreakwater has a state and operands that meet its hypotheses. -/
theorem meets_RffeAndBreakwater :
  -- does_rffeWrite
  (∃ (s : State) (src : Source) (n : Fin 8) (v : Word) (t : State) (w : Word) (c : RfCmd),
    s.touch src = t ∧
    fix (fixBit v 31) 24 3 0 = w ∧
    t.rfAsked n.val w = c ∧
    s.on = true ∧
    s.opens src (0x100404 + 0x40 * n.val) w = true ∧
    t.rfCheck n.val c = rfOK) ∧
  -- does_rffeRead
  (∃ (s : State) (src : Source) (n : Fin 8) (v : Word) (t : State) (w : Word) (c : RfCmd),
    s.touch src = t ∧
    fix (fixBit v 31) 24 3 1 = w ∧
    t.rfAsked n.val w = c ∧
    s.on = true ∧
    s.opens src (0x100404 + 0x40 * n.val) w = true ∧
    t.rfCheck n.val c = rfOK) ∧
  -- does_rffeReg0Write
  (∃ (s : State) (src : Source) (n : Fin 8) (v : Word) (t : State) (w : Word) (c : RfCmd),
    s.touch src = t ∧
    fix (fixBit v 31) 24 3 2 = w ∧
    t.rfAsked n.val w = c ∧
    s.on = true ∧
    s.opens src (0x100404 + 0x40 * n.val) w = true ∧
    t.rfCheck n.val c = rfOK) ∧
  -- does_rffeExtWrite
  (∃ (s : State) (src : Source) (n : Fin 8) (v : Word) (t : State) (w : Word) (c : RfCmd),
    s.touch src = t ∧
    fix (fixBit v 31) 24 3 3 = w ∧
    t.rfAsked n.val w = c ∧
    s.on = true ∧
    s.opens src (0x100404 + 0x40 * n.val) w = true ∧
    t.rfCheck n.val c = rfOK) ∧
  -- does_rffeExtRead
  (∃ (s : State) (src : Source) (n : Fin 8) (v : Word) (t : State) (w : Word) (c : RfCmd),
    s.touch src = t ∧
    fix (fixBit v 31) 24 3 4 = w ∧
    t.rfAsked n.val w = c ∧
    s.on = true ∧
    s.opens src (0x100404 + 0x40 * n.val) w = true ∧
    t.rfCheck n.val c = rfOK) ∧
  -- refuses_rffeWrite
  (∃ (s : State) (src : Source) (n : Fin 8) (v : Word) (t : State) (w : Word) (c : RfCmd),
    s.touch src = t ∧
    fix (fixBit v 31) 24 3 0 = w ∧
    t.rfAsked n.val w = c ∧
    s.on = true ∧
    s.opens src (0x100404 + 0x40 * n.val) w = true ∧
    t.rfCheck n.val c ≠ rfOK) ∧
  -- does_rffeCmdUnknown
  (∃ (s : State) (src : Source) (n : Fin 8) (v : Word) (t : State) (w : Word) (c : RfCmd) (k : Nat),
    s.touch src = t ∧
    s.on = true ∧
    (let c := v.toNat / 2 ^ 24 % 8; if 5 ≤ c then c else 5) = k ∧
    fix (fixBit v 31) 24 3 k = w ∧
    s.opens src (0x100404 + 0x40 * n.val) w = true ∧
    t.rfAsked n.val w = c) ∧
  -- does_rffeCommandStart
  (∃ (s : State) (n : Fin 8) (c : RfCmd) (q : List RfCmd) (t : State),
    (if c.at_.isSome then s.reach (c.at_.getD 0) else s) = t ∧
    s.on = true ∧
    (s.rffe n.val).busy = none ∧
    (s.rffe n.val).queue = c :: q) ∧
  -- does_rffeCommandDone
  (∃ (s : State) (n : Fin 8) (x : Rffe) (c : RfCmd),
    s.rffe n.val = x ∧
    x.busy = some c ∧
    s.on = true ∧
    c.writes = true) ∧
  -- does_rffeCommandDone_read
  (∃ (s : State) (n : Fin 8) (bytes : List Byte) (perr : Bool) (x : Rffe) (c : RfCmd) (k : Nat) (data : List Byte) (u : State) (v :
   State),
    s.rffe n.val = x ∧
    x.busy = some c ∧
    (if c.cmd = 1 then 1 else c.bc + 1) = k ∧
    (bytes ++ List.replicate 16 0).take k ++ List.replicate (16 - k) (0 : Byte) = data ∧
    ((s.elapseTo x.ends).setRffe n.val { x with busy := none }).each (List.range 4)
 (fun v j => v.put (F.FEND_RF_RDATA_DATA n.val j) (leNat ((data.drop (4 * j)).take 4))) = u ∧
    ((((u.putb (F.FEND_RF_RSTAT_VALID n.val) true).putb (F.FEND_RF_RSTAT_NEW n.val) true).incWrap
   (F.FEND_RF_RSTAT_SEQ n.val)).putb (F.FEND_RF_RSTAT_PERR n.val) perr).put (F.FEND_RF_RSTAT_BC n.val) (k - 1) = v ∧
    s.on = true ∧
    c.writes = false) ∧
  -- does_fendCntClr
  (∃ (s : State) (src : Source) (v : Word) (t : State) (w : Word),
    s.touch src = t ∧
    fixBit v 0 = w ∧
    s.on = true ∧
    s.opens src F.FEND_CNT_CLR_CLR.addr w = true) ∧
  -- does_xchkClrWrite
  (∃ (s : State) (src : Source) (half : Fin 2) (v : Word) (t : State),
    s.touch src = t ∧
    s.on = true ∧
    s.opens src (if half.val = 0 then F.BWTR_XCHK_CLR0_PATHS else F.BWTR_XCHK_CLR1_PATHS).addr v = true) ∧
  -- does_bwBlockVerdict
  (∃ (s : State),
    s.on = true ∧
    s.txRun = true ∧
    s.tx.startK ≤ s.nextTxK ∧
    s.bwtr.block ≠ some (s.bwBlockOf s.nextTxK)) ∧
  -- does_bwGranuleDecision
  (∃ (s : State) (g : Nat),
    granuleOf (gridAt s.nextTxK) = g ∧
    s.on = true) ∧
  -- does_cotExpiry
  (∃ (s : State) (b : BwBand) (tr : Nat),
    s.band = some b ∧
    s.bwtr.burst = some tr ∧
    s.on = true ∧
    b.cot ≠ 0) ∧
  -- does_lbtQuery
  (∃ (s : State) (a : BitVec 64),
    s.nextRise = some a ∧
    s.on = true ∧
    s.sharedBand = true ∧
    s.inRun = true) ∧
  -- does_bwtrCntClr
  (∃ (s : State) (src : Source) (v : Word) (t : State) (w : Word),
    s.touch src = t ∧
    fixBit v 0 = w ∧
    s.on = true ∧
    s.opens src F.BWTR_CNT_CLR_CLR.addr w = true) := by
  refine ⟨?_, ?_, ?_, ?_, ?_, ?_, ?_, ?_, ?_, ?_, ?_, ?_, ?_, ?_, ?_, ?_, ?_⟩
  · exact ⟨wide, .jtag, 0, 0, _, _, _, rfl, rfl, rfl, by decide +kernel⟩
  · exact ⟨wide, .jtag, 0, 0, _, _, _, rfl, rfl, rfl, by decide +kernel⟩
  · exact ⟨wide, .jtag, 0, 0, _, _, _, rfl, rfl, rfl, by decide +kernel⟩
  · exact ⟨wide, .jtag, 0, 0, _, _, _, rfl, rfl, rfl, by decide +kernel⟩
  · exact ⟨wide, .jtag, 0, 0, _, _, _, rfl, rfl, rfl, by decide +kernel⟩
  · exact ⟨(State.puts wide [(F.FEND_RF_AT_LO_AT 0, 1)] : State), .jtag, 0, 0x40000000, _, _, _, rfl, rfl, rfl, by decide +kernel⟩
  · exact ⟨wide, .jtag, 0, 0, _, fix (fixBit 0 31) 24 3 5, wide.rfAsked 0 (fix (fixBit 0 31) 24 3 5), 5, rfl, by decide +kernel⟩
  · exact (
    let s : State := ({ wide with fend := { wide.fend with rf := [(0, { queue := [⟨0, 0, 0, 0, [0], none⟩] })] } } : State)
    let n : Fin 8 := 0
    let c : RfCmd := match (s.rffe n.val).queue with | c :: q => c | _ => ⟨0, 0, 0, 0, [], none⟩
    let q : List RfCmd := match (s.rffe n.val).queue with | c :: q => q | _ => []
    let t : State := (if c.at_.isSome then s.reach (c.at_.getD 0) else s)
    ⟨s, n, c, q, _, rfl, by decide +kernel⟩)
  · exact (
    let s : State := ({ wide with fend := { wide.fend with rf := [(0, { busy := some ⟨0, 0, 0, 0, [0], none⟩, ends := 9 })] } } : State)
    let n : Fin 8 := 0
    let x : Rffe := s.rffe n.val
    let c : RfCmd := Option.get (x.busy) (by decide +kernel)
    ⟨s, n, _, c, rfl, (Option.some_get _).symm, by decide +kernel⟩)
  · exact (
    let s : State := ({ wide with fend := { wide.fend with rf := [(0, { busy := some ⟨1, 0, 0, 0, [], none⟩, ends := 9 })] } } : State)
    let n : Fin 8 := 0
    let bytes : List Byte := []
    let perr : Bool := true
    let x : Rffe := s.rffe n.val
    let c : RfCmd := Option.get (x.busy) (by decide +kernel)
    let k : Nat := (if c.cmd = 1 then 1 else c.bc + 1)
    let data : List Byte := (bytes ++ List.replicate 16 0).take k ++ List.replicate (16 - k) (0 : Byte)
    let u : State := ((s.elapseTo x.ends).setRffe n.val { x with busy := none }).each (List.range 4) (fun v j => v.put (F.FEND_RF_RDATA_DATA n.val j) (leNat ((data.drop (4 * j)).take 4)))
    let v : State := ((((u.putb (F.FEND_RF_RSTAT_VALID n.val) true).putb (F.FEND_RF_RSTAT_NEW n.val) true).incWrap (F.FEND_RF_RSTAT_SEQ n.val)).putb (F.FEND_RF_RSTAT_PERR n.val) perr).put (F.FEND_RF_RSTAT_BC n.val) (k - 1)
    ⟨s, n, bytes, perr, _, c, _, _, _, _, rfl, (Option.some_get _).symm, rfl, rfl, rfl, rfl, by decide +kernel⟩)
  · exact ⟨wide, .jtag, 0, _, _, rfl, rfl, by decide +kernel⟩
  · exact ⟨wide, .jtag, 0, 0, _, rfl, by decide +kernel⟩
  · exact ⟨wide, by decide +kernel⟩
  · exact ⟨wide, _, rfl, by decide +kernel⟩
  · exact (
    let s : State := ({ wide with bwtr := { wide.bwtr with record := some ⟨0, 0, 0, 0, [⟨0, 0, 0, 0, 0, 0, true, true, 0, 0, 0, 1⟩], [], []⟩, band := some 0, burst := some 0 } } : State)
    let b : BwBand := Option.get (s.band) (by decide +kernel)
    let tr : Nat := Option.get (s.bwtr.burst) (by decide +kernel)
    ⟨s, b, tr, (Option.some_get _).symm, (Option.some_get _).symm, by decide +kernel⟩)
  · exact (
    let s : State := ({ wide with bwtr := { wide.bwtr with record := some ⟨0, 0, 0, 0, [⟨0, 0, 0, 0, 0, 0, true, true, 0, 0, 0, 1⟩], [], []⟩, band := some 0 }, tide := { wide.tide with queues := [(8, [⟨0x1000000, true, false⟩])] } } : State)
    let a : BitVec 64 := Option.get (s.nextRise) (by decide +kernel)
    ⟨s, a, (Option.some_get _).symm, by decide +kernel⟩)
  · exact ⟨wide, .jtag, 0, _, _, rfl, rfl, by decide +kernel⟩

/-- Each clause of MonitorConverters has a state and operands that meet its hypotheses. -/
theorem meets_MonitorConverters :
  -- does_monPassStart
  (∃ (s : State) (b : Fin 4) (t : State),
    s.elapseTo ((s.bank b.val).passStart + usU (s.get (F.MON_CTL_PERIOD_US b.val))) = t ∧
    s.on = true ∧
    s.monMode b.val = 1 ∧
    (s.bank b.val).running = false ∧
    (s.bank b.val).free = true) ∧
  -- does_monCtlWrite
  (∃ (s : State) (src : Source) (b : Fin 4) (v : Word) (t : State),
    s.touch src = t ∧
    s.on = true ∧
    s.opens src (0x120000 + 0x400 * b.val) v = true) ∧
  -- does_monGo
  (∃ (s : State) (src : Source) (b : Fin 4) (v : Word) (t : State) (u : State) (w : Word),
    s.touch src = t ∧
    fixBit v 29 = w ∧
    (t.put (F.MON_CTL_MODE b.val) 2).modeWritten b.val = u ∧
    s.on = true ∧
    s.opens src (0x120000 + 0x400 * b.val) w = true ∧
    setBitsAt (setBitsAt (maskAnd w.toNat 0x101FFFFF) 29 1 0) 30 2 0
 = setBitsAt (setBitsAt (t.word (0x120000 + 0x400 * b.val)).toNat 29 1 0) 30 2 0 ∧
    bitsAt w.toNat 30 2 = 2 ∧
    u.monMode b.val = 2 ∧
    (u.bank b.val).running = false) ∧
  -- does_monSeqWrite
  (∃ (s : State) (src : Source) (b : Fin 4) (i : Fin 36) (v : Word) (t : State) (x : Word),
    s.touch src = t ∧
    BitVec.ofNat 32 (maskAnd v.toNat 0xF03F) = x ∧
    s.on = true ∧
    s.opens src (monEntry b.val i.val) v = true ∧
    t.monIdle b.val = true ∧
    (¬(entDiff x = true ∧ [50, 52, 54].contains (entInput x) = false))) ∧
  -- refuses_monSeqWrite
  (∃ (s : State) (src : Source) (b : Fin 4) (i : Fin 36) (v : Word) (t : State),
    s.touch src = t ∧
    s.on = true ∧
    s.opens src (monEntry b.val i.val) v = true ∧
    t.monIdle b.val = false) ∧
  -- does_monResultWrite
  (∃ (s : State) (b : Fin 4),
    s.on = true ∧
    (s.bank b.val).calEnd = none ∧
    (s.bank b.val).inj ≠ 2 ∧
    (s.bank b.val).running = true) ∧
  -- does_monResultWrite_inj
  (∃ (s : State) (b : Fin 4),
    s.on = true ∧
    (s.bank b.val).calEnd = none ∧
    (s.bank b.val).inj = 2) ∧
  -- does_monInjGo
  (∃ (s : State) (src : Source) (b : Fin 4) (v : Word) (t : State) (u : State) (w : Word) (trig : Nat),
    s.touch src = t ∧
    fixBit v 31 = w ∧
    (if bitsAt w.toNat 29 2 = 3 then 0 else bitsAt w.toNat 29 2) = trig ∧
    (t.put (F.MON_INJ_CTL_TRIG b.val) trig).put (F.MON_INJ_CTL_LEN b.val) (w.toNat % 4) = u ∧
    s.on = true ∧
    s.opens src (0x120000 + 0x400 * b.val + 0x10) w = true ∧
    trig = t.get (F.MON_INJ_CTL_TRIG b.val) ∧
    (u.bank b.val).inj = 0) ∧
  -- drops_monInjGo
  (∃ (s : State) (src : Source) (b : Fin 4) (v : Word) (t : State) (u : State) (w : Word) (trig : Nat),
    s.touch src = t ∧
    fixBit v 31 = w ∧
    (if bitsAt w.toNat 29 2 = 3 then 0 else bitsAt w.toNat 29 2) = trig ∧
    (t.put (F.MON_INJ_CTL_TRIG b.val) trig).put (F.MON_INJ_CTL_LEN b.val) (w.toNat % 4) = u ∧
    s.on = true ∧
    s.opens src (0x120000 + 0x400 * b.val + 0x10) w = true ∧
    trig = t.get (F.MON_INJ_CTL_TRIG b.val) ∧
    (u.bank b.val).inj ≠ 0) ∧
  -- does_monInjTrigger
  (∃ (s : State) (b : Fin 4) (a : Stamp) (t : State),
    (s.bank b.val).armed = some a ∧
    s.reach a = t ∧
    s.on = true) ∧
  -- does_monInjStart
  (∃ (s : State) (b : Fin 4) (x : MonBank) (d : Nat) (e : Nat) (t : State),
    s.bank b.val = x ∧
    s.boundaryAt b.val = (d, e) ∧
    s.elapseTo e = t ∧
    s.on = true ∧
    x.inj = 1 ∧
    x.calEnd = none) ∧
  -- does_monInjCtlWrite
  (∃ (s : State) (src : Source) (b : Fin 4) (v : Word) (t : State) (trig : Nat),
    s.touch src = t ∧
    (if bitsAt v.toNat 29 2 = 3 then 0 else bitsAt v.toNat 29 2) = trig ∧
    s.on = true ∧
    s.opens src (0x120000 + 0x400 * b.val + 0x10) v = true ∧
    bitAt v.toNat 31 = false) ∧
  -- does_monInjCtlWrite_at
  (∃ (s : State) (src : Source) (b : Fin 4) (i : Fin 3) (v : Word) (t : State),
    s.touch src = t ∧
    s.on = true ∧
    i.val ≠ 0 ∧
    s.opens src (0x120000 + 0x400 * b.val + (0x10 + 4 * i.val)) v = true) ∧
  -- does_monCalGo
  (∃ (s : State) (src : Source) (b : Fin 4) (v : Word) (t : State),
    s.touch src = t ∧
    s.on = true ∧
    s.opens src (0x120000 + 0x400 * b.val + 8) (fixBit v 0) = true ∧
    (t.bank b.val).calEnd = none ∧
    t.flag (F.MON_STAT_CAL_PEND b.val) = false) ∧
  -- does_monCalStart
  (∃ (s : State) (b : Fin 4) (d : Nat) (e : Nat) (t : State),
    s.boundaryAt b.val = (d, e) ∧
    (s.elapseTo e).putb (F.MON_STAT_CAL_PEND b.val) false = t ∧
    s.on = true ∧
    s.flag (F.MON_STAT_CAL_PEND b.val) = true ∧
    (s.bank b.val).inj = 0 ∧
    (s.bank b.val).calEnd = none) ∧
  -- does_monCalDone
  (∃ (s : State) (b : Fin 4) (ofs : BitVec 16) (gain : BitVec 16) (e : Nat) (t : State) (u : State) (v : State),
    (s.bank b.val).calEnd = some e ∧
    s.elapseTo e = t ∧
    t.setBank b.val { t.bank b.val with calEnd := none } = u ∧
    (if decide (-1024 ≤ ofs.toInt ∧ ofs.toInt ≤ 1024) && decide (31130 ≤ gain.toNat ∧ gain.toNat ≤ 34406) then
   ((u.puti (F.MON_CAL_RES_OFS b.val) ofs.toInt).put (F.MON_CAL_RES_GAIN b.val) gain.toNat).raise 0x1201 b.val
 else u.raise 0x1202 b.val) = v ∧
    s.on = true) ∧
  -- does_monitorResultRead
  (∃ (s : State) (src : Source) (b : Fin 4) (i : Fin 36) (x : Nat) (t : State),
    s.busRead src (monResult b.val i.val) = (x, t) ∧
    s.on = true) ∧
  -- does_monCntClr
  (∃ (s : State) (src : Source) (v : Word) (t : State),
    s.touch src = t ∧
    s.on = true ∧
    s.opens src F.MON_CNT_CLR_CLR.addr (fixBit v 0) = true) := by
  refine ⟨?_, ?_, ?_, ?_, ?_, ?_, ?_, ?_, ?_, ?_, ?_, ?_, ?_, ?_, ?_, ?_, ?_, ?_⟩
  · exact ⟨(State.puts wide [(F.MON_CTL_MODE 0, 1)] : State), 0, _, rfl, by decide +kernel⟩
  · exact ⟨wide, .jtag, 0, 0, _, rfl, by decide +kernel⟩
  · exact ⟨wide, .jtag, 0, 0x80000000, _, _, _, rfl, rfl, rfl, by decide +kernel⟩
  · exact ⟨wide, .jtag, 0, 0, 0, _, _, rfl, rfl, by decide +kernel⟩
  · exact ⟨({ wide with mon := { wide.mon with banks := [(0, { running := true })] } } : State), .jtag, 0, 0, 0, _, rfl,
            by decide +kernel⟩
  · exact ⟨({ wide with mon := { wide.mon with banks := [(0, { running := true, left := 1 })] } } : State), 0, by decide +kernel⟩
  · exact ⟨({ wide with mon := { wide.mon with banks := [(0, { inj := 2 })] } } : State), 0, by decide +kernel⟩
  · exact ⟨wide, .jtag, 0, 0, _, _, _, _, rfl, rfl, rfl, rfl, by decide +kernel⟩
  · exact ⟨({ wide with mon := { wide.mon with banks := [(0, { inj := 2 })] } } : State), .jtag, 0, 0, _, _, _, _, rfl, rfl, rfl,
            rfl, by decide +kernel⟩
  · exact (
    let s : State := ({ wide with mon := { wide.mon with banks := [(0, { armed := some 9 })] } } : State)
    let b : Fin 4 := 0
    let a : Stamp := Option.get ((s.bank b.val).armed) (by decide +kernel)
    let t : State := s.reach a
    ⟨s, b, a, _, (Option.some_get _).symm, rfl, by decide +kernel⟩)
  · exact (
    let s : State := ({ wide with mon := { wide.mon with banks := [(0, { inj := 1 })] } } : State)
    let b : Fin 4 := 0
    let x : MonBank := s.bank b.val
    let d : Nat := (s.boundaryAt b.val).1
    let e : Nat := (s.boundaryAt b.val).2
    let t : State := s.elapseTo e
    ⟨s, b, _, _, _, _, rfl, (Prod.eta _).symm, rfl, by decide +kernel⟩)
  · exact ⟨wide, .jtag, 0, 0, _, _, rfl, rfl, by decide +kernel⟩
  · exact ⟨wide, .jtag, 0, 1, 0, _, rfl, by decide +kernel⟩
  · exact ⟨wide, .jtag, 0, 0, _, rfl, by decide +kernel⟩
  · exact (
    let s : State := (State.puts wide [(F.MON_STAT_CAL_PEND 0, 1)] : State)
    let b : Fin 4 := 0
    let d : Nat := (s.boundaryAt b.val).1
    let e : Nat := (s.boundaryAt b.val).2
    let t : State := (s.elapseTo e).putb (F.MON_STAT_CAL_PEND b.val) false
    ⟨s, b, _, _, _, (Prod.eta _).symm, rfl, by decide +kernel⟩)
  · exact (
    let s : State := ({ wide with mon := { wide.mon with banks := [(0, { calEnd := some 9 })] } } : State)
    let b : Fin 4 := 0
    let ofs : BitVec 16 := 0
    let gain : BitVec 16 := 0
    let e : Nat := Option.get ((s.bank b.val).calEnd) (by decide +kernel)
    let t : State := s.elapseTo e
    let u : State := t.setBank b.val { t.bank b.val with calEnd := none }
    let v : State := (if decide (-1024 ≤ ofs.toInt ∧ ofs.toInt ≤ 1024) && decide (31130 ≤ gain.toNat ∧ gain.toNat ≤ 34406) then ((u.puti (F.MON_CAL_RES_OFS b.val) ofs.toInt).put (F.MON_CAL_RES_GAIN b.val) gain.toNat).raise 0x1201 b.val else u.raise 0x1202 b.val)
    ⟨s, b, ofs, gain, e, _, _, _, (Option.some_get _).symm, rfl, rfl, rfl, by decide +kernel⟩)
  · exact (
    let s : State := wide
    let src : Source := .jtag
    let b : Fin 4 := 0
    let i : Fin 36 := 0
    let x : Nat := (s.busRead src (monResult b.val i.val)).1
    let t : State := (s.busRead src (monResult b.val i.val)).2
    ⟨s, src, b, i, _, _, (Prod.eta _).symm, by decide +kernel⟩)
  · exact ⟨wide, .jtag, 0, _, rfl, by decide +kernel⟩

/-- Each clause of HoldAndReplay has a state and operands that meet its hypotheses. -/
theorem meets_HoldAndReplay :
  -- does_holdRead
  (∃ (s : State) (granule : BitVec 28),
    s.on = true ∧
    s.holdReady = true ∧
    granule.toNat < s.granules) ∧
  -- does_scrubRead
  (∃ (s : State) (t : State),
    s.holdCarried 4 1 = t ∧
    s.on = true ∧
    s.holdReady = true ∧
    s.hold.scrub + 1 < t.granules) ∧
  -- does_scrubRead_repair
  (∃ (s : State) (t : State) (u : State),
    (s.holdCarried 4 1).holdRead s.hold.scrub 1 = t ∧
    t.hold.rowsBefore.contains (s.holdRow s.hold.scrub) = true ∧
    t.repairRow (s.holdRow s.hold.scrub) = u ∧
    s.on = true ∧
    s.holdReady = true ∧
    s.hold.scrub + 1 < u.granules) ∧
  -- does_repairFuseBurn
  (∃ (s : State) (r : Nat × Nat) (rs : List (Nat × Nat)) (t : State),
    ({ s with hold := { s.hold with remaps := rs }, fuses := { s.fuses with repairs := s.fuses.repairs ++ [r] } } : State) = t ∧
    s.on = true ∧
    s.hold.remaps = r :: rs ∧
    s.up domHOLD = true ∧
    s.flag F.THERM_STAT_NVM_OK = true) ∧
  -- does_holdReady
  (∃ (s : State),
    s.on = true ∧
    s.up domHOLD = true) ∧
  -- does_holdcCntClr
  (∃ (s : State) (src : Source) (v : Word) (t : State) (w : Word),
    s.touch src = t ∧
    fixBit v 0 = w ∧
    s.on = true ∧
    s.opens src F.HOLDC_CNT_CLR_CLR.addr w = true) ∧
  -- holds_gtrigEdge
  (∃ (s : State) (rise : Bool),
    s.on = true ∧
    (¬(s.pins.gtrig ≠ rise ∧ rise = (s.get F.GAUGE_CTL_GTRIG_POL == 0)))) ∧
  -- does_replayGo
  (∃ (s : State) (src : Source) (r : Fin 4) (v : Word) (t : State) (u : State) (w : Word),
    s.touch src = t ∧
    fixBit v 31 = w ∧
    t.plain (F.GAUGE_RP_CTL_GO r.val).addr w.toNat = u ∧
    s.on = true ∧
    s.opens src (F.GAUGE_RP_CTL_GO r.val).addr w = true ∧
    bitAt w.toNat 30 = false ∧
    u.get (F.GAUGE_RP_STAT_STATE r.val) = 0 ∧
    u.rpCheck r.val = 0) ∧
  -- refuses_replayGo
  (∃ (s : State) (src : Source) (r : Fin 4) (v : Word) (k : Nat) (t : State) (u : State) (w : Word),
    s.touch src = t ∧
    fixBit v 31 = w ∧
    t.plain (F.GAUGE_RP_CTL_GO r.val).addr w.toNat = u ∧
    u.rpCheck r.val = k ∧
    s.on = true ∧
    s.opens src (F.GAUGE_RP_CTL_GO r.val).addr w = true ∧
    bitAt w.toNat 30 = false ∧
    u.get (F.GAUGE_RP_STAT_STATE r.val) = 0 ∧
    k ≠ 0) ∧
  -- does_replayStop
  (∃ (s : State) (src : Source) (r : Fin 4) (v : Word) (t : State) (u : State) (e : RpEngine) (w : Word),
    s.touch src = t ∧
    fixBit v 30 = w ∧
    t.plain (F.GAUGE_RP_CTL_GO r.val).addr w.toNat = u ∧
    sparseFind u.hold.engines r.val = some e ∧
    s.on = true ∧
    s.opens src (F.GAUGE_RP_CTL_GO r.val).addr w = true ∧
    bitAt w.toNat 31 = false ∧
    u.get (F.GAUGE_RP_STAT_STATE r.val) ≠ 1) ∧
  -- does_replayStop_waiting
  (∃ (s : State) (src : Source) (r : Fin 4) (v : Word) (t : State) (u : State) (w : Word),
    s.touch src = t ∧
    fixBit v 30 = w ∧
    t.plain (F.GAUGE_RP_CTL_GO r.val).addr w.toNat = u ∧
    s.on = true ∧
    s.opens src (F.GAUGE_RP_CTL_GO r.val).addr w = true ∧
    bitAt w.toNat 31 = false ∧
    u.get (F.GAUGE_RP_STAT_STATE r.val) = 1) ∧
  -- does_replayStart
  (∃ (s : State) (r : Fin 4) (k : Nat) (t : State) (u : State) (x : State),
    gridFrom (s.absOf (s.get64 (F.GAUGE_RP_AT_LO_STAMP r.val) (F.GAUGE_RP_AT_HI_STAMP r.val))) = k ∧
    s.reachAbs (gridAt k) = t ∧
    ({ t with hold := { t.hold with engines := sparseInsert t.hold.engines r.val ⟨k, 0, 0, false⟩ } } : State) = u ∧
    (u.put (F.GAUGE_RP_STAT_STATE r.val) 2).put F.GAUGE_STAT_REPLAY (setBitAt (u.get F.GAUGE_STAT_REPLAY) r.val true) = x ∧
    s.on = true ∧
    s.get (F.GAUGE_RP_STAT_STATE r.val) = 1) ∧
  -- does_replayEnd
  (∃ (s : State) (r : Fin 4) (e : RpEngine) (t : State),
    sparseFind s.hold.engines r.val = some e ∧
    s.reachAbs (gridAt (e.setK + s.rpSetLen r.val e.set)) = t ∧
    s.on = true ∧
    s.rpStepSet r.val e = none) := by
  refine ⟨?_, ?_, ?_, ?_, ?_, ?_, ?_, ?_, ?_, ?_, ?_, ?_, ?_⟩
  · exact ⟨wide, 0, by decide +kernel⟩
  · exact ⟨wide, _, rfl, by decide +kernel⟩
  · exact ⟨wide.rowSeen, _, _, rfl, (rowSeen_contains wide), rfl, by decide +kernel⟩
  · exact (
    let s : State := ({ wide with hold := { wide.hold with remaps := [(0, 1)] } } : State)
    let r : Nat × Nat := match s.hold.remaps with | r :: rs => r | _ => (0, 0)
    let rs : List (Nat × Nat) := match s.hold.remaps with | r :: rs => rs | _ => []
    let t : State := ({ s with hold := { s.hold with remaps := rs }, fuses := { s.fuses with repairs := s.fuses.repairs ++ [r] } } : State)
    ⟨s, r, rs, _, rfl, by decide +kernel⟩)
  · exact ⟨wide, by decide +kernel⟩
  · exact ⟨wide, .jtag, 0, _, _, rfl, rfl, by decide +kernel⟩
  · exact ⟨wide, false, by decide +kernel⟩
  · exact ⟨(State.puts wide [(F.GAUGE_RP_AT_HI_STAMP 0, 1), (F.GAUGE_RP_LEN_SETS 0, 1)] : State), .jtag, 0, 0, _, _, _, rfl, rfl,
            rfl, by decide +kernel⟩
  · exact ⟨wide, .jtag, 0, 0, _, _, _, _, rfl, rfl, rfl, rfl, by decide +kernel⟩
  · exact (
    let s : State := ({ wide with hold := { wide.hold with engines := [(0, ⟨1, 0, 0, false⟩)] } } : State)
    let src : Source := .jtag
    let r : Fin 4 := 0
    let v : Word := 0
    let t : State := s.touch src
    let w : Word := fixBit v 30
    let u : State := t.plain (F.GAUGE_RP_CTL_GO r.val).addr w.toNat
    let e : RpEngine := Option.get (sparseFind u.hold.engines r.val) (by decide +kernel)
    ⟨s, src, r, v, _, _, e, _, rfl, rfl, rfl, (Option.some_get _).symm, by decide +kernel⟩)
  · exact ⟨(State.puts wide [(F.GAUGE_RP_STAT_STATE 0, 1)] : State), .jtag, 0, 0, _, _, _, rfl, rfl, rfl, by decide +kernel⟩
  · exact ⟨(State.puts wide [(F.GAUGE_RP_STAT_STATE 0, 1)] : State), 0, _, _, _, _, rfl, rfl, rfl, rfl, by decide +kernel⟩
  · exact (
    let s : State := ({ wide with hold := { wide.hold with engines := [(0, ⟨1, 0, 0, true⟩)] } } : State)
    let r : Fin 4 := 0
    let e : RpEngine := Option.get (sparseFind s.hold.engines r.val) (by decide +kernel)
    let t : State := s.reachAbs (gridAt (e.setK + s.rpSetLen r.val e.set))
    ⟨s, r, e, _, (Option.some_get _).symm, rfl, by decide +kernel⟩)

/-- Each clause of GaugeChannels has a state and operands that meet its hypotheses. -/
theorem meets_GaugeChannels :
  -- does_gaugeArm
  (∃ (s : State) (src : Source) (c : Fin 16) (v : Word) (cmp : Nat) (trigs : List (Nat × Nat)) (t : State) (u : State) (x : State)
   (w : Word),
    s.touch src = t ∧
    gaugeCmdWord v 1 = w ∧
    t.put (F.GAUGE_C_STAT_RESULT c.val) gOK = u ∧
    u.absOf (u.get64 (F.GAUGE_C_TCMP_LO_STAMP c.val) (F.GAUGE_C_TCMP_HI_STAMP c.val)) = cmp ∧
    (if bitAt (u.get (F.GAUGE_C_CTL_TRIG_EN c.val)) 1 ∧ u.tide.now ≤ cmp then [(1, cmp)] else []) = trigs ∧
    ((u.put (F.GAUGE_C_STAT_RECS c.val) 0).put (F.GAUGE_C_STAT_SLOT c.val) 0).each (List.range 16)
 (fun w i => w.each (List.range 16) (fun y k => y.put (F.GAUGE_DIR_WORD c.val i k) 0)) = x ∧
    s.on = true ∧
    s.opens src (F.GAUGE_C_CMD_GO c.val).addr w = true ∧
    t.gState c.val = gIDLE ∧
    t.gCheck c.val = gOK) ∧
  -- refuses_gaugeArm
  (∃ (s : State) (src : Source) (c : Fin 16) (v : Word) (r : Nat) (t : State) (w : Word),
    s.touch src = t ∧
    gaugeCmdWord v 1 = w ∧
    t.gCheck c.val = r ∧
    s.on = true ∧
    s.opens src (F.GAUGE_C_CMD_GO c.val).addr w = true ∧
    t.gState c.val = gIDLE ∧
    r ≠ gOK) ∧
  -- does_gaugeStop
  (∃ (s : State) (src : Source) (c : Fin 16) (v : Word) (t : State) (u : State) (w : Word),
    s.touch src = t ∧
    gaugeCmdWord v 2 = w ∧
    (if t.gState c.val = gPOST then t.gClose c.val true false else t) = u ∧
    s.on = true ∧
    s.opens src (F.GAUGE_C_CMD_GO c.val).addr w = true) ∧
  -- does_gaugeTrig
  (∃ (s : State) (src : Source) (c : Fin 16) (v : Word) (t : State) (w : Word),
    s.touch src = t ∧
    gaugeCmdWord v 3 = w ∧
    s.on = true ∧
    s.opens src (F.GAUGE_C_CMD_GO c.val).addr w = true) ∧
  -- does_gaugeCmdIgnored
  (∃ (s : State) (src : Source) (c : Fin 16) (v : Word) (t : State) (w : Word),
    s.touch src = t ∧
    gaugeCmdWord v 0 = w ∧
    s.on = true ∧
    s.opens src (F.GAUGE_C_CMD_GO c.val).addr w = true) ∧
  -- does_gtrigEdge
  (∃ (s : State) (rise : Bool) (t : State),
    ({ s with pins := { s.pins with gtrig := rise } } : State) = t ∧
    s.on = true ∧
    s.pins.gtrig ≠ rise ∧
    rise = (s.get F.GAUGE_CTL_GTRIG_POL == 0)) ∧
  -- does_gaugeTriggerDecide
  (∃ (s : State) (c : Fin 16) (t0 : Nat × Nat) (ts : List (Nat × Nat)) (here : List (Nat × Nat)) (te : Nat) (n : Nat) (win : Nat)
   (at_ : Nat) (frac : Nat) (u : State) (x : GaugeChan),
    minOf t0.2 (ts.map (fun e => e.2)) = te ∧
    s.tapIndex (s.gPoint c.val) te = n ∧
    s.reachAbs (s.tapAt (s.gPoint c.val) n + usU 20) = u ∧
    (t0 :: ts).filter (fun e => u.tapIndex (s.gPoint c.val) e.2 == n) = here ∧
    minOf 7 (here.map (fun e => e.1)) = win ∧
    ((here.find? (fun e => e.1 == win)).map (fun e => e.2)).getD te = at_ ∧
    ({ s.gchan c.val with trigs := (t0 :: ts).filter (fun e => u.tapIndex (s.gPoint c.val) e.2 != n) } : GaugeChan) = x ∧
    (at_ - u.tapAt (s.gPoint c.val) n) * 64 * 3 * one32 / (200000 * u.tapPeriod (s.gPoint c.val)) = frac ∧
    s.on = true ∧
    (s.gchan c.val).trigs = t0 :: ts ∧
    s.gState c.val = gARMED ∧
    (¬((n : Int) < x.n0 + 15 * s.gPre c.val)) ∧
    u.gPre c.val = s.gPre c.val) ∧
  -- skips_gaugeTriggerDecide
  (∃ (s : State) (c : Fin 16) (t0 : Nat × Nat) (ts : List (Nat × Nat)) (te : Nat) (n : Nat) (u : State) (x : GaugeChan),
    minOf t0.2 (ts.map (fun e => e.2)) = te ∧
    s.tapIndex (s.gPoint c.val) te = n ∧
    s.reachAbs (s.tapAt (s.gPoint c.val) n + usU 20) = u ∧
    ({ s.gchan c.val with trigs := (t0 :: ts).filter (fun e => u.tapIndex (s.gPoint c.val) e.2 != n) } : GaugeChan) = x ∧
    s.on = true ∧
    (s.gchan c.val).trigs = t0 :: ts ∧
    s.gState c.val = gPOST ∧
    (¬((n : Int) < x.n0 + 15 * u.gPre c.val))) ∧
  -- does_gaugeSetWrite
  (∃ (s : State) (c : Fin 16) (slack : BitVec 16) (u : State) (x : GaugeChan) (m : Nat) (k0 : Nat) (a0 : Nat),
    (if s.meterActive 7 && s.setReady c.val && decide (s.gState c.val ≠ gIDLE ∧ s.gState c.val ≠ gSUSP) then
 s.meter 7 slack.toNat else s) = u ∧
    u.gchan c.val = x ∧
    x.first x.set = m ∧
    s.on = true ∧
    (u.gState c.val = gFILL ∨ u.gState c.val = gARMED ∨ u.gState c.val = gPOST) ∧
    u.setReady c.val = true ∧
    dropRun x.sets = (0, k0, a0)) ∧
  -- does_gaugeSetDrop
  (∃ (s : State) (c : Fin 16) (x : GaugeChan) (m : Nat),
    s.gchan c.val = x ∧
    x.first x.set = m ∧
    s.on = true ∧
    (s.gState c.val = gFILL ∨ s.gState c.val = gARMED ∨ s.gState c.val = gPOST) ∧
    s.setReady c.val = true) ∧
  -- does_deepHclr
  (∃ (s : State) (src : Source) (d : Fin 4) (v : Word) (t : State) (w : Word),
    s.touch src = t ∧
    fixBit v 29 = w ∧
    s.on = true ∧
    s.opens src (F.GAUGE_DEEP_CTL_HCLR d.val).addr w = true ∧
    bitAt w.toNat 28 = false) ∧
  -- does_deepMclr
  (∃ (s : State) (src : Source) (d : Fin 4) (v : Word) (t : State) (u : State) (w : Word),
    s.touch src = t ∧
    fixBit v 28 = w ∧
    t.plain (0x130600 + 0x10 * d.val) w.toNat = u ∧
    s.on = true ∧
    s.opens src (F.GAUGE_DEEP_CTL_MCLR d.val).addr w = true ∧
    bitAt w.toNat 29 = false) ∧
  -- does_gaugeCntClr
  (∃ (s : State) (src : Source) (v : Word) (t : State) (w : Word),
    s.touch src = t ∧
    fixBit v 0 = w ∧
    s.on = true ∧
    s.opens src F.GAUGE_CNT_CLR_CLR.addr w = true) := by
  refine ⟨?_, ?_, ?_, ?_, ?_, ?_, ?_, ?_, ?_, ?_, ?_, ?_, ?_⟩
  · exact ⟨(State.puts wide [(F.GAUGE_C_POST_SETS 0, 2000)] : State), .jtag, 0, 0, _, _, _, _, _, _, rfl, rfl, rfl, rfl, rfl, rfl,
            by decide +kernel⟩
  · exact ⟨wide, .jtag, 0, 0, _, _, _, rfl, rfl, rfl, by decide +kernel⟩
  · exact ⟨wide, .jtag, 0, 0, _, _, _, rfl, rfl, rfl, by decide +kernel⟩
  · exact ⟨wide, .jtag, 0, 0, _, _, rfl, rfl, by decide +kernel⟩
  · exact ⟨wide, .jtag, 0, 0, _, _, rfl, rfl, by decide +kernel⟩
  · exact ⟨wide, true, _, rfl, by decide +kernel⟩
  · exact (
    let s : State := (State.puts { wide with hold := { wide.hold with chans := [(0, { trigs := [(0, 0x10000000000)] })] } } [(F.GAUGE_C_STAT_STATE 0, gARMED)] : State)
    let c : Fin 16 := 0
    let t0 : Nat × Nat := match (s.gchan c.val).trigs with | t0 :: ts => t0 | _ => (0, 0)
    let ts : List (Nat × Nat) := match (s.gchan c.val).trigs with | t0 :: ts => ts | _ => []
    let te : Nat := minOf t0.2 (ts.map (fun e => e.2))
    let n : Nat := s.tapIndex (s.gPoint c.val) te
    let u : State := s.reachAbs (s.tapAt (s.gPoint c.val) n + usU 20)
    let here : List (Nat × Nat) := (t0 :: ts).filter (fun e => u.tapIndex (s.gPoint c.val) e.2 == n)
    let win : Nat := minOf 7 (here.map (fun e => e.1))
    let at_ : Nat := ((here.find? (fun e => e.1 == win)).map (fun e => e.2)).getD te
    let x : GaugeChan := ({ s.gchan c.val with trigs := (t0 :: ts).filter (fun e => u.tapIndex (s.gPoint c.val) e.2 != n) } : GaugeChan)
    let frac : Nat := (at_ - u.tapAt (s.gPoint c.val) n) * 64 * 3 * one32 / (200000 * u.tapPeriod (s.gPoint c.val))
    ⟨s, c, t0, ts, _, _, _, _, _, _, _, _, rfl, rfl, rfl, rfl, rfl, rfl, rfl, rfl, by decide +kernel⟩)
  · exact (
    let s : State := (State.puts { wide with hold := { wide.hold with chans := [(0, { trigs := [(0, 0x10000000000)] })] } } [(F.GAUGE_C_STAT_STATE 0, gPOST)] : State)
    let c : Fin 16 := 0
    let t0 : Nat × Nat := match (s.gchan c.val).trigs with | t0 :: ts => t0 | _ => (0, 0)
    let ts : List (Nat × Nat) := match (s.gchan c.val).trigs with | t0 :: ts => ts | _ => []
    let te : Nat := minOf t0.2 (ts.map (fun e => e.2))
    let n : Nat := s.tapIndex (s.gPoint c.val) te
    let u : State := s.reachAbs (s.tapAt (s.gPoint c.val) n + usU 20)
    let x : GaugeChan := ({ s.gchan c.val with trigs := (t0 :: ts).filter (fun e => u.tapIndex (s.gPoint c.val) e.2 != n) } : GaugeChan)
    ⟨s, c, t0, ts, _, _, _, _, rfl, rfl, rfl, rfl, by decide +kernel⟩)
  · exact (
    let s : State := (State.puts { wide with hold := { wide.hold with chans := [(0, { buf := [(0, [{ n := 4000, v := ⟨0, 0⟩ }])] })] } } [(F.GAUGE_C_STAT_STATE 0, 2)] : State)
    let c : Fin 16 := 0
    let slack : BitVec 16 := 0
    let u : State := (if s.meterActive 7 && s.setReady c.val && decide (s.gState c.val ≠ gIDLE ∧ s.gState c.val ≠ gSUSP) then s.meter 7 slack.toNat else s)
    let x : GaugeChan := u.gchan c.val
    let m : Nat := x.first x.set
    let k0 : Nat := match dropRun x.sets with | (0, k0, a0) => k0 | _ => 0
    let a0 : Nat := match dropRun x.sets with | (0, k0, a0) => a0 | _ => 0
    ⟨s, c, slack, _, _, _, k0, a0, rfl, rfl, rfl, by decide +kernel⟩)
  · exact ⟨(State.puts { wide with hold := { wide.hold with chans := [(0, { buf := [(0, [{ n := 4000, v := ⟨0, 0⟩ }])] })] } } [(F.GAUGE_C_STAT_STATE 0, 2)] : State),
            0, _, _, rfl, rfl, by decide +kernel⟩
  · exact ⟨wide, .jtag, 0, 0, _, _, rfl, rfl, by decide +kernel⟩
  · exact ⟨wide, .jtag, 0, 0, _, _, _, rfl, rfl, rfl, by decide +kernel⟩
  · exact ⟨wide, .jtag, 0, _, _, rfl, rfl, by decide +kernel⟩

/-- Each clause of CraneChannels has a state and operands that meet its hypotheses. -/
theorem meets_CraneChannels :
  -- does_craneGo
  (∃ (s : State) (src : Source) (ch : Fin 16) (v : Word) (t : State) (t0 : State) (w : Word),
    s.touch src = t ∧
    fixBit v 31 = w ∧
    t.put (F.CRANE_C_CTL_LOG_SIZE ch.val) (bitsAt w.toNat 0 5) = t0 ∧
    s.on = true ∧
    srcCrane src = false ∧
    s.opens src (0x150100 + 0x40 * ch.val) w = true ∧
    t.craneLoose ch.val = true ∧
    t0.craneLoose ch.val = true ∧
    ringGood (t0.craneBase ch.val) (t0.craneLog ch.val) = true ∧
    bitAt w.toNat 28 = false ∧
    bitAt w.toNat 30 = false) ∧
  -- refuses_craneGo
  (∃ (s : State) (src : Source) (ch : Fin 16) (v : Word) (t : State) (w : Word),
    s.touch src = t ∧
    fixBit v 31 = w ∧
    s.on = true ∧
    srcCrane src = false ∧
    s.opens src (0x150100 + 0x40 * ch.val) w = true ∧
    t.craneLoose ch.val = false ∧
    bitAt w.toNat 28 = false ∧
    bitAt w.toNat 30 = false) ∧
  -- does_craneKick
  (∃ (s : State) (src : Source) (ch : Fin 16) (v : Word) (t : State) (u : State) (w : Word),
    s.touch src = t ∧
    fixBit v 28 = w ∧
    (t.put (F.CRANE_C_CTL_LOG_SIZE ch.val) (bitsAt w.toNat 0 5)).craneCtlFields ch.val
(setBitsAt w.toNat 0 5 ((t.put (F.CRANE_C_CTL_LOG_SIZE ch.val) (bitsAt w.toNat 0 5)).craneLog ch.val)) = u ∧
    s.on = true ∧
    srcCrane src = false ∧
    s.opens src (0x150100 + 0x40 * ch.val) w = true ∧
    bitAt w.toNat 31 = false ∧
    bitAt w.toNat 30 = false ∧
    t.craneLoose ch.val = true ∧
    u.craneState ch.val = 0) ∧
  -- does_craneKick_busy
  (∃ (s : State) (src : Source) (ch : Fin 16) (v : Word) (t : State) (u : State) (w : Word),
    s.touch src = t ∧
    fixBit v 28 = w ∧
    t.craneCtlFields ch.val (setBitsAt w.toNat 0 5 (t.craneLog ch.val)) = u ∧
    s.on = true ∧
    srcCrane src = false ∧
    s.opens src (0x150100 + 0x40 * ch.val) w = true ∧
    bitAt w.toNat 31 = false ∧
    bitAt w.toNat 30 = false ∧
    t.craneLoose ch.val = false ∧
    u.craneState ch.val ≠ 0) ∧
  -- does_cranePause
  (∃ (s : State) (src : Source) (ch : Fin 16) (v : Word) (t : State),
    s.touch src = t ∧
    s.on = true ∧
    srcCrane src = false ∧
    s.opens src (0x150100 + 0x40 * ch.val) v = true ∧
    t.craneLoose ch.val = false ∧
    bitAt v.toNat 31 = false ∧
    bitAt v.toNat 28 = false ∧
    bitAt v.toNat 30 = false) ∧
  -- does_craneStop
  (∃ (s : State) (src : Source) (ch : Fin 16) (v : Word) (t : State) (u : State) (w : Word),
    s.touch src = t ∧
    fixBit v 30 = w ∧
    t.craneCtlFields ch.val (setBitsAt w.toNat 0 5 (t.craneLog ch.val)) = u ∧
    s.on = true ∧
    srcCrane src = false ∧
    s.opens src (0x150100 + 0x40 * ch.val) w = true ∧
    bitAt w.toNat 31 = false ∧
    bitAt w.toNat 28 = false ∧
    t.craneLoose ch.val = false ∧
    u.craneState ch.val ≠ 4 ∧
    ((u.chan ch.val).phase = 2 ∨ (u.chan ch.val).phase = 3) ∧
    u.craneState ch.val ≠ 3) ∧
  -- does_craneStop_idle
  (∃ (s : State) (src : Source) (ch : Fin 16) (v : Word) (t : State) (u : State) (w : Word),
    s.touch src = t ∧
    fixBit v 30 = w ∧
    t.craneCtlFields ch.val (setBitsAt w.toNat 0 5 (t.craneLog ch.val)) = u ∧
    s.on = true ∧
    srcCrane src = false ∧
    s.opens src (0x150100 + 0x40 * ch.val) w = true ∧
    bitAt w.toNat 31 = false ∧
    bitAt w.toNat 28 = false ∧
    t.craneLoose ch.val = false ∧
    u.craneState ch.val ≠ 4 ∧
    ((u.chan ch.val).phase ≠ 2 ∧ (u.chan ch.val).phase ≠ 3)) ∧
  -- does_cranePaused
  (∃ (s : State) (ch : Fin 16),
    s.on = true ∧
    s.up domHOLD = true ∧
    s.craneState ch.val = 2 ∧
    (s.chan ch.val).await = [] ∧
    (s.chan ch.val).stop = false) ∧
  -- does_cranePaused_stop
  (∃ (s : State) (ch : Fin 16),
    s.on = true ∧
    s.up domHOLD = true ∧
    s.craneState ch.val = 2 ∧
    (s.chan ch.val).await = [] ∧
    (s.chan ch.val).stop = true) ∧
  -- does_craneCntClr
  (∃ (s : State) (src : Source) (v : Word) (t : State),
    s.touch src = t ∧
    s.on = true ∧
    s.opens src F.CRANE_CNT_CLR_CLR.addr (fixBit v 0) = true) := by
  refine ⟨?_, ?_, ?_, ?_, ?_, ?_, ?_, ?_, ?_, ?_⟩
  · exact ⟨(State.puts wide [(F.CRANE_C_BASE_LO_BASE 0, 0x3000000), (F.CRANE_C_CTL_LOG_SIZE 0, 1)] : State), .jtag, 0, 0, _, _, _,
            rfl, rfl, rfl, by decide +kernel⟩
  · exact ⟨(State.puts wide [(F.CRANE_C_STAT_STATE 0, 1)] : State), .jtag, 0, 0, _, _, rfl, rfl, by decide +kernel⟩
  · exact ⟨wide, .jtag, 0, 0, _, _, _, rfl, rfl, rfl, by decide +kernel⟩
  · exact ⟨(State.puts wide [(F.CRANE_C_STAT_STATE 0, 1)] : State), .jtag, 0, 0, _, _, _, rfl, rfl, rfl, by decide +kernel⟩
  · exact ⟨(State.puts wide [(F.CRANE_C_STAT_STATE 0, 1)] : State), .jtag, 0, 0, _, rfl, by decide +kernel⟩
  · exact ⟨(State.puts { wide with crane := { wide.crane with chans := [(0, { phase := 2 })] } } [(F.CRANE_C_STAT_STATE 0, 1)] : State),
            .jtag, 0, 0, _, _, _, rfl, rfl, rfl, by decide +kernel⟩
  · exact ⟨(State.puts wide [(F.CRANE_C_STAT_STATE 0, 1)] : State), .jtag, 0, 0, _, _, _, rfl, rfl, rfl, by decide +kernel⟩
  · exact ⟨(State.puts wide [(F.CRANE_C_STAT_STATE 0, 2)] : State), 0, by decide +kernel⟩
  · exact ⟨(State.puts { wide with crane := { wide.crane with chans := [(0, { stop := true })] } } [(F.CRANE_C_STAT_STATE 0, 2)] : State),
            0, by decide +kernel⟩
  · exact ⟨wide, .jtag, 0, _, rfl, by decide +kernel⟩

/-- Each clause of CraneManifests has a state and operands that meet its hypotheses. -/
theorem meets_CraneManifests :
  -- does_manifestFetch
  (∃ (s : State) (ch : Fin 16) (a : Nat) (w : List Nat),
    s.craneAddr ch.val = a ∧
    s.manWords a = w ∧
    s.on = true ∧
    s.up domHOLD = true ∧
    s.craneState ch.val = 1 ∧
    (s.chan ch.val).phase = 1 ∧
    s.manReads a = true ∧
    bitAt (nth 0 w 0) 31 = true) ∧
  -- does_manifestFetch_idle
  (∃ (s : State) (ch : Fin 16) (a : Nat) (w : List Nat),
    s.craneAddr ch.val = a ∧
    s.manWords a = w ∧
    s.on = true ∧
    s.up domHOLD = true ∧
    s.craneState ch.val = 1 ∧
    (s.chan ch.val).phase = 1 ∧
    s.manReads a = true ∧
    bitAt (nth 0 w 0) 31 = false) ∧
  -- does_craneCopy
  (∃ (s : State) (ch : Fin 16),
    s.on = true ∧
    s.craneActs ch.val 0 = true ∧
    (s.chan ch.val).begun = true) ∧
  -- begins_craneCopy
  (∃ (s : State) (ch : Fin 16),
    s.on = true ∧
    s.craneActs ch.val 0 = true ∧
    (s.chan ch.val).begun = false) ∧
  -- does_craneFill
  (∃ (s : State) (ch : Fin 16),
    s.on = true ∧
    s.craneActs ch.val 1 = true ∧
    (s.chan ch.val).begun = true) ∧
  -- begins_craneFill
  (∃ (s : State) (ch : Fin 16),
    s.on = true ∧
    s.craneActs ch.val 1 = true ∧
    (s.chan ch.val).begun = false) ∧
  -- does_craneCompare
  (∃ (s : State) (ch : Fin 16),
    s.on = true ∧
    s.craneActs ch.val 2 = true ∧
    (s.chan ch.val).begun = true) ∧
  -- begins_craneCompare
  (∃ (s : State) (ch : Fin 16),
    s.on = true ∧
    s.craneActs ch.val 2 = true ∧
    (s.chan ch.val).begun = false) ∧
  -- does_craneLink
  (∃ (s : State) (ch : Fin 16) (x : Chan) (k : Nat),
    s.chan ch.val = x ∧
    s.get (F.CRANE_C_STAT_LINKS ch.val) + 1 = k ∧
    s.on = true ∧
    s.craneActs ch.val 3 = true) ∧
  -- does_craneOpReserved
  (∃ (s : State) (ch : Fin 16),
    s.on = true ∧
    s.up domHOLD = true ∧
    s.craneState ch.val = 1 ∧
    (s.chan ch.val).phase = 2 ∧
    4 ≤ (s.chan ch.val).op) ∧
  -- does_manifestWriteback
  (∃ (s : State) (ch : Fin 16),
    s.on = true ∧
    s.up domHOLD = true ∧
    s.craneState ch.val = 1 ∧
    (s.chan ch.val).phase = 3 ∧
    (s.chan ch.val).op ≠ 3 ∧
    (s.chan ch.val).cause ≠ 8) ∧
  -- does_manifestWriteback_link
  (∃ (s : State) (ch : Fin 16) (x : Chan),
    s.chan ch.val = x ∧
    s.on = true ∧
    s.up domHOLD = true ∧
    s.craneState ch.val = 1 ∧
    x.phase = 3 ∧
    x.op = 3 ∧
    x.cause = 0) ∧
  -- does_craneAccessTimeout
  (∃ (s : State) (ch : Fin 16),
    s.on = true ∧
    s.up domHOLD = true ∧
    (s.craneState ch.val = 1 ∨ s.craneState ch.val = 2) ∧
    ((s.chan ch.val).phase = 1 ∨ (s.chan ch.val).phase = 3)) ∧
  -- does_remoteAnswerTimeout
  (∃ (s : State) (ch : Fin 16) (k : Nat) (lim : Nat) (rest : List (Nat × Nat)) (t : State),
    s.elapseTo lim = t ∧
    s.on = true ∧
    s.up domHOLD = true ∧
    (s.chan ch.val).await = (k, lim) :: rest) := by
  refine ⟨?_, ?_, ?_, ?_, ?_, ?_, ?_, ?_, ?_, ?_, ?_, ?_, ?_, ?_⟩
  · exact ⟨(State.puts { wide with mem := [(0x3000003, 0x80)], crane := { wide.crane with chans := [(0, { phase := 1 })] } } [(F.CRANE_C_STAT_STATE 0, 1), (F.CRANE_C_BASE_LO_BASE 0, 0x3000000), (F.CRANE_C_CTL_LOG_SIZE 0, 1)] : State),
            0, _, _, rfl, rfl, by decide +kernel⟩
  · exact ⟨(State.puts { wide with crane := { wide.crane with chans := [(0, { phase := 1 })] } } [(F.CRANE_C_STAT_STATE 0, 1), (F.CRANE_C_BASE_LO_BASE 0, 0x3000000), (F.CRANE_C_CTL_LOG_SIZE 0, 1)] : State),
            0, _, _, rfl, rfl, by decide +kernel⟩
  · exact ⟨(State.puts { wide with crane := { wide.crane with chans := [(0, { phase := 2, man := [0x80000000 + 0 * 0x1000000], begun := true })] } } [(F.CRANE_C_STAT_STATE 0, 1)] : State),
            0, by decide +kernel⟩
  · exact ⟨(State.puts { wide with crane := { wide.crane with chans := [(0, { phase := 2, man := [0x80000000 + 0 * 0x1000000] })] } } [(F.CRANE_C_STAT_STATE 0, 1)] : State),
            0, by decide +kernel⟩
  · exact ⟨(State.puts { wide with crane := { wide.crane with chans := [(0, { phase := 2, man := [0x80000000 + 1 * 0x1000000], begun := true })] } } [(F.CRANE_C_STAT_STATE 0, 1)] : State),
            0, by decide +kernel⟩
  · exact ⟨(State.puts { wide with crane := { wide.crane with chans := [(0, { phase := 2, man := [0x80000000 + 1 * 0x1000000] })] } } [(F.CRANE_C_STAT_STATE 0, 1)] : State),
            0, by decide +kernel⟩
  · exact ⟨(State.puts { wide with crane := { wide.crane with chans := [(0, { phase := 2, man := [0x80000000 + 2 * 0x1000000], begun := true })] } } [(F.CRANE_C_STAT_STATE 0, 1)] : State),
            0, by decide +kernel⟩
  · exact ⟨(State.puts { wide with crane := { wide.crane with chans := [(0, { phase := 2, man := [0x80000000 + 2 * 0x1000000] })] } } [(F.CRANE_C_STAT_STATE 0, 1)] : State),
            0, by decide +kernel⟩
  · exact ⟨(State.puts { wide with crane := { wide.crane with chans := [(0, { phase := 2, man := [0x80000000 + 3 * 0x1000000] })] } } [(F.CRANE_C_STAT_STATE 0, 1)] : State),
            0, _, _, rfl, rfl, by decide +kernel⟩
  · exact ⟨(State.puts { wide with crane := { wide.crane with chans := [(0, { phase := 2, man := [0x80000000 + 7 * 0x1000000] })] } } [(F.CRANE_C_STAT_STATE 0, 1)] : State),
            0, by decide +kernel⟩
  · exact ⟨(State.puts { wide with crane := { wide.crane with chans := [(0, { phase := 3, man := [0x80000000] })] } } [(F.CRANE_C_STAT_STATE 0, 1)] : State),
            0, by decide +kernel⟩
  · exact ⟨(State.puts { wide with crane := { wide.crane with chans := [(0, { phase := 3, man := [0x83000000] })] } } [(F.CRANE_C_STAT_STATE 0, 1)] : State),
            0, _, rfl, by decide +kernel⟩
  · exact ⟨(State.puts { wide with crane := { wide.crane with chans := [(0, { phase := 1 })] } } [(F.CRANE_C_STAT_STATE 0, 1)] : State),
            0, by decide +kernel⟩
  · exact (
    let s : State := (State.puts { wide with crane := { wide.crane with chans := [(0, { phase := 2, await := [(1, 9)] })] } } [(F.CRANE_C_STAT_STATE 0, 1)] : State)
    let ch : Fin 16 := 0
    let k : Nat := match (s.chan ch.val).await with | (k, lim) :: rest => k | _ => 0
    let lim : Nat := match (s.chan ch.val).await with | (k, lim) :: rest => lim | _ => 0
    let rest : List (Nat × Nat) := match (s.chan ch.val).await with | (k, lim) :: rest => rest | _ => []
    let t : State := s.elapseTo lim
    ⟨s, ch, k, lim, rest, _, rfl, by decide +kernel⟩)

/-- Each clause of ThermalMeasurementsAndLadder has a state and operands that meet its hypotheses. -/
theorem meets_ThermalMeasurementsAndLadder :
  -- does_thermMeasureStart
  (∃ (s : State) (t : State),
    s.elapseTo s.therm.due = t ∧
    s.on = true ∧
    s.therm.first = 0 ∧
    t.therm.running = none) ∧
  -- does_thermMeasureStart_first
  (∃ (s : State),
    s.on = true ∧
    s.therm.first ≠ 0 ∧
    s.therm.running = none) ∧
  -- does_thermDemand
  (∃ (s : State) (src : Source) (v : Word) (t : State) (w : Word),
    s.touch src = t ∧
    fixBit v 31 = w ∧
    s.on = true ∧
    s.opens src F.THERM_CTL_DEMAND.addr w = true ∧
    (t.plain F.THERM_CTL_DEMAND.addr w.toNat).therm.running = none) ∧
  -- does_thermMeasureDone
  (∃ (s : State) (l : List (BitVec 16 × BitVec 12)) (e : Nat) (b : Bool) (t : State) (r : List (Nat × Int)) (vals : List Int) (tj :
   Int) (hot : Nat),
    s.elapseTo e = t ∧
    l.map (fun x => (x.1.toNat, x.2.toInt)) = r ∧
    (List.range 24).map (t.sensorValue r 0) = vals ∧
    hottest (vals.drop 1) 1 (nth 0 vals 0, 0) = (tj, hot) ∧
    s.on = true ∧
    s.therm.running = some (e, b) ∧
    (List.range 24).all (fun i => t.sensorOut i) = false) ∧
  -- does_ladderEscalate
  (∃ (s : State) (a : Nat) (t : State),
    s.therm.esc = some a ∧
    s.elapseTo a = t ∧
    s.on = true) ∧
  -- does_ladderDescend
  (∃ (s : State) (a : Nat) (t : State),
    s.therm.desc = some a ∧
    s.elapseTo a = t ∧
    s.on = true) ∧
  -- does_synClr
  (∃ (s : State) (src : Source) (v : Word) (t : State),
    s.touch src = t ∧
    s.on = true ∧
    s.opens src F.RSV_SYN_CLR_SYN.addr v = true) := by
  refine ⟨?_, ?_, ?_, ?_, ?_, ?_, ?_⟩
  · exact ⟨({ wide with therm := { wide.therm with first := 0 } } : State), _, rfl, by decide +kernel⟩
  · exact ⟨wide, by decide +kernel⟩
  · exact ⟨wide, .jtag, 0, _, _, rfl, rfl, by decide +kernel⟩
  · exact (
    let s : State := ({ wide with therm := { wide.therm with running := some (9, false) } } : State)
    let l : List (BitVec 16 × BitVec 12) := []
    let e : Nat := match s.therm.running with | some (e, b) => e | _ => 0
    let b : Bool := match s.therm.running with | some (e, b) => b | _ => true
    let t : State := s.elapseTo e
    let r : List (Nat × Int) := l.map (fun x => (x.1.toNat, x.2.toInt))
    let vals : List Int := (List.range 24).map (t.sensorValue r 0)
    let tj : Int := (hottest (vals.drop 1) 1 (nth 0 vals 0, 0)).1
    let hot : Nat := (hottest (vals.drop 1) 1 (nth 0 vals 0, 0)).2
    ⟨s, l, e, b, _, _, _, _, _, rfl, rfl, rfl, (Prod.eta _).symm, by decide +kernel⟩)
  · exact (
    let s : State := ({ wide with therm := { wide.therm with esc := some 9 } } : State)
    let a : Nat := Option.get (s.therm.esc) (by decide +kernel)
    let t : State := s.elapseTo a
    ⟨s, a, _, (Option.some_get _).symm, rfl, by decide +kernel⟩)
  · exact (
    let s : State := ({ wide with therm := { wide.therm with desc := some 9 } } : State)
    let a : Nat := Option.get (s.therm.desc) (by decide +kernel)
    let t : State := s.elapseTo a
    ⟨s, a, _, (Option.some_get _).symm, rfl, by decide +kernel⟩)
  · exact ⟨wide, .jtag, 0, _, rfl, by decide +kernel⟩

/-- Each clause of PilotAndMailboxes has a state and operands that meet its hypotheses. -/
theorem meets_PilotAndMailboxes :
  -- does_pilotPolicyAction
  (∃ (s : State) (row : Fin 14),
    s.on = true ∧
    s.pilotServes = true ∧
    (11 ≤ row.val ∨ bitAt s.rsv.policy row.val = true)) ∧
  -- does_pilotPolicyAction_degraded
  (∃ (s : State) (unit : Byte) (p : Nat),
    unitPath unit.toNat = p ∧
    s.on = true ∧
    s.pilotServes = true ∧
    bitAt s.rsv.policy 0 = true ∧
    s.flag (F.RXA_P_STAT_DEGRADED p) = true) ∧
  -- bars_pilotPolicyAction
  (∃ (s : State) (row : Fin 14),
    s.on = true ∧
    row.val < 11 ∧
    bitAt s.rsv.policy row.val = false) ∧
  -- does_tunerSteerTick
  (∃ (s : State) (p : Fin 64) (m : Fin 32) (code : Byte) (t : State),
    s.tuneWrite m.val (code.toNat + 1) = t ∧
    s.on = true ∧
    s.pilotServes = true ∧
    s.hasPath p.val = true ∧
    bitAt s.rsv.unsteered p.val = false ∧
    sparseFind s.rsv.tries p.val = none ∧
    s.flag (F.FEND_TUNE_EN m.val) = true ∧
    s.get (F.FEND_TUNE_MASTER m.val) = p.val / 8 ∧
    code.toNat < 255 ∧
    s.trswLow (p.val / 8) ≠ none ∧
    t.get (F.FEND_RF_STAT_RESULT (p.val / 8)) = rfOK) ∧
  -- judges_tunerSteerTick
  (∃ (s : State) (p : Fin 64) (x : TuneTry) (t : State),
    sparseFind s.rsv.tries p.val = some x ∧
    ({ s with rsv := { s.rsv with tries := sparseErase s.rsv.tries p.val } } : State) = t ∧
    s.on = true ∧
    s.pilotServes = true ∧
    s.hasPath p.val = true ∧
    bitAt s.rsv.unsteered p.val = false) ∧
  -- does_pilotReady
  (∃ (s : State) (t : State),
    ({ s with rsv := { s.rsv with starting := false, lastSnap := s.aon } } : State) = t ∧
    s.on = true ∧
    s.up domPILOT = true ∧
    s.rsv.starting = true) ∧
  -- does_pilotWatchdogExpiry
  (∃ (s : State),
    s.on = true ∧
    s.up domPILOT = true ∧
    (s.flag F.PILOT_STAT_READY = true ∨ s.rsv.starting = true)) ∧
  -- does_mbxVersion
  (∃ (s : State) (src : Source) (p : Fin 4) (tag : Byte) (args : List Word) (u : State) (t : State) (b : State) (x : State) (r :
   MbxRun) (n : Nat),
    (args.take 16).zipIdx.foldl (fun t e => t.busWrite src (0x180040 + 0x200 * p.val + 4 * e.2) e.1) s = u ∧
    u.touch src = t ∧
    (t.putb (F.PILOT_MB_STAT_DONE p.val) false).putb (F.PILOT_MB_STAT_BUSY p.val) true = b ∧
    MbxRun.mk 0x01 tag.toNat (b.portLevel p.val) ((List.range 16).map (fun j => b.get (F.PILOT_MB_ARG_WORD p.val j))) 0 [] false = r ∧
    b.setMailRun p.val r = x ∧
    Config.pilotBuild x.boot.store.pilotFw = n ∧
    s.on = true ∧
    u.opens src (F.PILOT_MB_CMD_GO p.val).addr (mailWord 0x01 tag.toNat) = true ∧
    t.up domPILOT = true ∧
    t.flag (F.PILOT_MB_STAT_BUSY p.val) = false ∧
    x.pilotServes = true ∧
    0 ≤ r.level) ∧
  -- does_mbxHealth
  (∃ (s : State) (src : Source) (p : Fin 4) (tag : Byte) (args : List Word) (u : State) (t : State) (b : State) (x : State) (r :
   MbxRun),
    (args.take 16).zipIdx.foldl (fun t e => t.busWrite src (0x180040 + 0x200 * p.val + 4 * e.2) e.1) s = u ∧
    u.touch src = t ∧
    (t.putb (F.PILOT_MB_STAT_DONE p.val) false).putb (F.PILOT_MB_STAT_BUSY p.val) true = b ∧
    MbxRun.mk 0x02 tag.toNat (b.portLevel p.val) ((List.range 16).map (fun j => b.get (F.PILOT_MB_ARG_WORD p.val j))) 0 [] false = r ∧
    b.setMailRun p.val r = x ∧
    s.on = true ∧
    u.opens src (F.PILOT_MB_CMD_GO p.val).addr (mailWord 0x02 tag.toNat) = true ∧
    t.up domPILOT = true ∧
    t.flag (F.PILOT_MB_STAT_BUSY p.val) = false ∧
    x.pilotServes = true ∧
    1 ≤ r.level) ∧
  -- does_mbxTelemSet
  (∃ (s : State) (src : Source) (p : Fin 4) (tag : Byte) (args : List Word) (u : State) (t : State) (b : State) (x : State) (r :
   MbxRun),
    (args.take 16).zipIdx.foldl (fun t e => t.busWrite src (0x180040 + 0x200 * p.val + 4 * e.2) e.1) s = u ∧
    u.touch src = t ∧
    (t.putb (F.PILOT_MB_STAT_DONE p.val) false).putb (F.PILOT_MB_STAT_BUSY p.val) true = b ∧
    MbxRun.mk 0x03 tag.toNat (b.portLevel p.val) ((List.range 16).map (fun j => b.get (F.PILOT_MB_ARG_WORD p.val j))) 0 [] false = r ∧
    b.setMailRun p.val r = x ∧
    s.on = true ∧
    u.opens src (F.PILOT_MB_CMD_GO p.val).addr (mailWord 0x03 tag.toNat) = true ∧
    t.up domPILOT = true ∧
    t.flag (F.PILOT_MB_STAT_BUSY p.val) = false ∧
    x.pilotServes = true ∧
    1 ≤ r.level ∧
    ((r.arg 0 = 0 ∨ (100 ≤ r.arg 0 ∧ r.arg 0 ≤ 60000)) ∧ 1 ≤ r.arg 3 ∧ r.arg 3 ≤ 256)) ∧
  -- does_mbxLogFind
  (∃ (s : State) (src : Source) (p : Fin 4) (tag : Byte) (args : List Word) (u : State) (t : State) (b : State) (x : State) (r :
   MbxRun) (hits : List TallyRec),
    (args.take 16).zipIdx.foldl (fun t e => t.busWrite src (0x180040 + 0x200 * p.val + 4 * e.2) e.1) s = u ∧
    u.touch src = t ∧
    (t.putb (F.PILOT_MB_STAT_DONE p.val) false).putb (F.PILOT_MB_STAT_BUSY p.val) true = b ∧
    MbxRun.mk 0x04 tag.toNat (b.portLevel p.val) ((List.range 16).map (fun j => b.get (F.PILOT_MB_ARG_WORD p.val j))) 0 [] false = r ∧
    b.setMailRun p.val r = x ∧
    x.tally.recs.filter (fun y => y.committed && decide (r.arg 0 ≤ y.seq) && decide (r.arg 1 % 65536 ≤ y.code ∧ y.code ≤ r.arg 1 / 65536)) = hits ∧
    s.on = true ∧
    u.opens src (F.PILOT_MB_CMD_GO p.val).addr (mailWord 0x04 tag.toNat) = true ∧
    t.up domPILOT = true ∧
    t.flag (F.PILOT_MB_STAT_BUSY p.val) = false ∧
    x.pilotServes = true ∧
    1 ≤ r.level) ∧
  -- does_mbxTune
  (∃ (s : State) (src : Source) (p : Fin 4) (tag : Byte) (args : List Word) (u : State) (t : State) (b : State) (x : State) (r :
   MbxRun),
    (args.take 16).zipIdx.foldl (fun t e => t.busWrite src (0x180040 + 0x200 * p.val + 4 * e.2) e.1) s = u ∧
    u.touch src = t ∧
    (t.putb (F.PILOT_MB_STAT_DONE p.val) false).putb (F.PILOT_MB_STAT_BUSY p.val) true = b ∧
    MbxRun.mk 0x10 tag.toNat (b.portLevel p.val) ((List.range 16).map (fun j => b.get (F.PILOT_MB_ARG_WORD p.val j))) 0 [] false = r ∧
    b.setMailRun p.val r = x ∧
    s.on = true ∧
    u.opens src (F.PILOT_MB_CMD_GO p.val).addr (mailWord 0x10 tag.toNat) = true ∧
    t.up domPILOT = true ∧
    t.flag (F.PILOT_MB_STAT_BUSY p.val) = false ∧
    x.pilotServes = true ∧
    1 ≤ r.level) ∧
  -- does_mbxCalPolicy
  (∃ (s : State) (src : Source) (p : Fin 4) (tag : Byte) (args : List Word) (u : State) (t : State) (b : State) (x : State) (r :
   MbxRun),
    (args.take 16).zipIdx.foldl (fun t e => t.busWrite src (0x180040 + 0x200 * p.val + 4 * e.2) e.1) s = u ∧
    u.touch src = t ∧
    (t.putb (F.PILOT_MB_STAT_DONE p.val) false).putb (F.PILOT_MB_STAT_BUSY p.val) true = b ∧
    MbxRun.mk 0x11 tag.toNat (b.portLevel p.val) ((List.range 16).map (fun j => b.get (F.PILOT_MB_ARG_WORD p.val j))) 0 [] false = r ∧
    b.setMailRun p.val r = x ∧
    s.on = true ∧
    u.opens src (F.PILOT_MB_CMD_GO p.val).addr (mailWord 0x11 tag.toNat) = true ∧
    t.up domPILOT = true ∧
    t.flag (F.PILOT_MB_STAT_BUSY p.val) = false ∧
    x.pilotServes = true ∧
    1 ≤ r.level) ∧
  -- does_mbxPolicy
  (∃ (s : State) (src : Source) (p : Fin 4) (tag : Byte) (args : List Word) (u : State) (t : State) (b : State) (x : State) (r :
   MbxRun),
    (args.take 16).zipIdx.foldl (fun t e => t.busWrite src (0x180040 + 0x200 * p.val + 4 * e.2) e.1) s = u ∧
    u.touch src = t ∧
    (t.putb (F.PILOT_MB_STAT_DONE p.val) false).putb (F.PILOT_MB_STAT_BUSY p.val) true = b ∧
    MbxRun.mk 0x20 tag.toNat (b.portLevel p.val) ((List.range 16).map (fun j => b.get (F.PILOT_MB_ARG_WORD p.val j))) 0 [] false = r ∧
    b.setMailRun p.val r = x ∧
    s.on = true ∧
    u.opens src (F.PILOT_MB_CMD_GO p.val).addr (mailWord 0x20 tag.toNat) = true ∧
    t.up domPILOT = true ∧
    t.flag (F.PILOT_MB_STAT_BUSY p.val) = false ∧
    x.pilotServes = true ∧
    2 ≤ r.level) ∧
  -- does_mbxRetire
  (∃ (s : State) (src : Source) (p : Fin 4) (tag : Byte) (args : List Word) (u : State) (t : State) (b : State) (x : State) (r :
   MbxRun),
    (args.take 16).zipIdx.foldl (fun t e => t.busWrite src (0x180040 + 0x200 * p.val + 4 * e.2) e.1) s = u ∧
    u.touch src = t ∧
    (t.putb (F.PILOT_MB_STAT_DONE p.val) false).putb (F.PILOT_MB_STAT_BUSY p.val) true = b ∧
    MbxRun.mk 0x21 tag.toNat (b.portLevel p.val) ((List.range 16).map (fun j => b.get (F.PILOT_MB_ARG_WORD p.val j))) 0 [] false = r ∧
    b.setMailRun p.val r = x ∧
    s.on = true ∧
    u.opens src (F.PILOT_MB_CMD_GO p.val).addr (mailWord 0x21 tag.toNat) = true ∧
    t.up domPILOT = true ∧
    t.flag (F.PILOT_MB_STAT_BUSY p.val) = false ∧
    x.pilotServes = true ∧
    2 ≤ r.level ∧
    x.hasPath (r.arg 0 % 64) = true) ∧
  -- does_mbxRestore
  (∃ (s : State) (src : Source) (p : Fin 4) (tag : Byte) (args : List Word) (u : State) (t : State) (b : State) (x : State) (r :
   MbxRun) (q : Nat),
    (args.take 16).zipIdx.foldl (fun t e => t.busWrite src (0x180040 + 0x200 * p.val + 4 * e.2) e.1) s = u ∧
    u.touch src = t ∧
    (t.putb (F.PILOT_MB_STAT_DONE p.val) false).putb (F.PILOT_MB_STAT_BUSY p.val) true = b ∧
    MbxRun.mk 0x22 tag.toNat (b.portLevel p.val) ((List.range 16).map (fun j => b.get (F.PILOT_MB_ARG_WORD p.val j))) 0 [] false = r ∧
    b.setMailRun p.val r = x ∧
    r.arg 0 % 256 = q ∧
    s.on = true ∧
    u.opens src (F.PILOT_MB_CMD_GO p.val).addr (mailWord 0x22 tag.toNat) = true ∧
    t.up domPILOT = true ∧
    t.flag (F.PILOT_MB_STAT_BUSY p.val) = false ∧
    x.pilotServes = true ∧
    2 ≤ r.level ∧
    x.hasPath (q % 64) = true ∧
    x.unitRetired q = true) ∧
  -- does_mbxResolve
  (∃ (s : State) (src : Source) (p : Fin 4) (tag : Byte) (args : List Word) (u : State) (t : State) (b : State) (x : State) (r :
   MbxRun),
    (args.take 16).zipIdx.foldl (fun t e => t.busWrite src (0x180040 + 0x200 * p.val + 4 * e.2) e.1) s = u ∧
    u.touch src = t ∧
    (t.putb (F.PILOT_MB_STAT_DONE p.val) false).putb (F.PILOT_MB_STAT_BUSY p.val) true = b ∧
    MbxRun.mk 0x23 tag.toNat (b.portLevel p.val) ((List.range 16).map (fun j => b.get (F.PILOT_MB_ARG_WORD p.val j))) 0 [] false = r ∧
    b.setMailRun p.val r = x ∧
    s.on = true ∧
    u.opens src (F.PILOT_MB_CMD_GO p.val).addr (mailWord 0x23 tag.toNat) = true ∧
    t.up domPILOT = true ∧
    t.flag (F.PILOT_MB_STAT_BUSY p.val) = false ∧
    x.pilotServes = true ∧
    2 ≤ r.level) ∧
  -- does_mbxSlipway
  (∃ (s : State) (src : Source) (p : Fin 4) (tag : Byte) (args : List Word) (u : State) (t : State) (b : State) (x : State) (r :
   MbxRun),
    (args.take 16).zipIdx.foldl (fun t e => t.busWrite src (0x180040 + 0x200 * p.val + 4 * e.2) e.1) s = u ∧
    u.touch src = t ∧
    (t.putb (F.PILOT_MB_STAT_DONE p.val) false).putb (F.PILOT_MB_STAT_BUSY p.val) true = b ∧
    MbxRun.mk 0x30 tag.toNat (b.portLevel p.val) ((List.range 16).map (fun j => b.get (F.PILOT_MB_ARG_WORD p.val j))) 0 [] false = r ∧
    b.setMailRun p.val r = x ∧
    s.on = true ∧
    u.opens src (F.PILOT_MB_CMD_GO p.val).addr (mailWord 0x30 tag.toNat) = true ∧
    t.up domPILOT = true ∧
    t.flag (F.PILOT_MB_STAT_BUSY p.val) = false ∧
    x.pilotServes = true ∧
    2 ≤ r.level ∧
    x.slipArgs r = true) ∧
  -- does_mbxPilotReset
  (∃ (s : State) (src : Source) (p : Fin 4) (tag : Byte) (args : List Word) (u : State) (t : State) (b : State) (x : State) (r :
   MbxRun),
    (args.take 16).zipIdx.foldl (fun t e => t.busWrite src (0x180040 + 0x200 * p.val + 4 * e.2) e.1) s = u ∧
    u.touch src = t ∧
    (t.putb (F.PILOT_MB_STAT_DONE p.val) false).putb (F.PILOT_MB_STAT_BUSY p.val) true = b ∧
    MbxRun.mk 0x3F tag.toNat (b.portLevel p.val) ((List.range 16).map (fun j => b.get (F.PILOT_MB_ARG_WORD p.val j))) 0 [] false = r ∧
    b.setMailRun p.val r = x ∧
    s.on = true ∧
    u.opens src (F.PILOT_MB_CMD_GO p.val).addr (mailWord 0x3F tag.toNat) = true ∧
    t.up domPILOT = true ∧
    t.flag (F.PILOT_MB_STAT_BUSY p.val) = false ∧
    x.pilotServes = true ∧
    2 ≤ r.level) ∧
  -- does_mbxUnknown
  (∃ (s : State) (src : Source) (p : Fin 4) (opc : Byte) (tag : Byte) (args : List Word) (u : State) (t : State) (b : State) (x :
   State) (r : MbxRun),
    (args.take 16).zipIdx.foldl (fun t e => t.busWrite src (0x180040 + 0x200 * p.val + 4 * e.2) e.1) s = u ∧
    u.touch src = t ∧
    (t.putb (F.PILOT_MB_STAT_DONE p.val) false).putb (F.PILOT_MB_STAT_BUSY p.val) true = b ∧
    MbxRun.mk opc.toNat tag.toNat (b.portLevel p.val) ((List.range 16).map (fun j => b.get (F.PILOT_MB_ARG_WORD p.val j))) 0 []
 false = r ∧
    b.setMailRun p.val r = x ∧
    s.on = true ∧
    u.opens src (F.PILOT_MB_CMD_GO p.val).addr (mailWord opc.toNat tag.toNat) = true ∧
    t.up domPILOT = true ∧
    t.flag (F.PILOT_MB_STAT_BUSY p.val) = false ∧
    x.pilotServes = true ∧
    (∀ l, mailLevel opc.toNat = some l → r.level < l)) ∧
  -- does_mbxResponseComplete
  (∃ (s : State) (p : Fin 4) (fail : Option (BitVec 14 × Fin 8)) (r : MbxRun) (res : Nat) (rsp : List Nat) (t : State),
    s.mailRun p.val = some r ∧
    s.mailClose r (fail.map (fun e => (e.1.toNat, e.2.val))) = (res, rsp, t) ∧
    s.on = true ∧
    s.pilotServes = true ∧
    r.taken = true) ∧
  -- does_telemSnapshot
  (∃ (s : State) (t : State) (u : State),
    s.elapseTo (s.rsv.lastSnap + msU s.rsv.period) = t ∧
    ({ t with rsv := { t.rsv with
 latest := t.snapshot, snap := (t.rsv.snap + 1) % 2 ^ 32, lastSnap := t.aon, muted := t.mutedTotal, uncorr := t.uncorrTotal } } :
   State) = u ∧
    s.on = true ∧
    s.pilotServes = true ∧
    s.rsv.period ≠ 0) := by
  refine ⟨?_, ?_, ?_, ?_, ?_, ?_, ?_, ?_, ?_, ?_, ?_, ?_, ?_, ?_, ?_, ?_, ?_, ?_, ?_, ?_, ?_, ?_⟩
  · exact ⟨wide, 0, by decide +kernel⟩
  · exact ⟨(State.puts wide [(F.RXA_P_STAT_DEGRADED 0, 1)] : State), 0, _, rfl, by decide +kernel⟩
  · exact ⟨({ wide with rsv := { wide.rsv with policy := 0 } } : State), 0, by decide +kernel⟩
  · exact ⟨(State.puts wide [(F.FEND_TUNE_EN 0, 1)] : State), 0, 0, 0, _, rfl, by decide +kernel⟩
  · exact (
    let s : State := ({ wide with rsv := { wide.rsv with tries := [(0, ⟨0, 1, 2, 0⟩)] } } : State)
    let p : Fin 64 := 0
    let x : TuneTry := Option.get (sparseFind s.rsv.tries p.val) (by decide +kernel)
    let t : State := ({ s with rsv := { s.rsv with tries := sparseErase s.rsv.tries p.val } } : State)
    ⟨s, p, x, _, (Option.some_get _).symm, rfl, by decide +kernel⟩)
  · exact ⟨({ wide with rsv := { wide.rsv with starting := true } } : State), _, rfl, by decide +kernel⟩
  · exact ⟨wide, by decide +kernel⟩
  · exact ⟨wide, .jtag, 0, 0, [], _, _, _, _, _, _, rfl, rfl, rfl, rfl, rfl, rfl, by decide +kernel⟩
  · exact ⟨wide, .jtag, 0, 0, [], _, _, _, _, _, rfl, rfl, rfl, rfl, rfl, by decide +kernel⟩
  · exact ⟨wide, .jtag, 0, 0, [1000, 0, 0, 1], _, _, _, _, _, rfl, rfl, rfl, rfl, rfl, by decide +kernel⟩
  · exact ⟨wide, .jtag, 0, 0, [], _, _, _, _, _, _, rfl, rfl, rfl, rfl, rfl, rfl, by decide +kernel⟩
  · exact ⟨wide, .jtag, 0, 0, [], _, _, _, _, _, rfl, rfl, rfl, rfl, rfl, by decide +kernel⟩
  · exact ⟨wide, .jtag, 0, 0, [], _, _, _, _, _, rfl, rfl, rfl, rfl, rfl, by decide +kernel⟩
  · exact ⟨wide, .jtag, 0, 0, [], _, _, _, _, _, rfl, rfl, rfl, rfl, rfl, by decide +kernel⟩
  · exact ⟨wide, .jtag, 0, 0, [], _, _, _, _, _, rfl, rfl, rfl, rfl, rfl, by decide +kernel⟩
  · exact ⟨(State.puts wide [(F.RXA_RETIRE0_PATHS, 1)] : State), .jtag, 0, 0, [], _, _, _, _, _, _, rfl, rfl, rfl, rfl, rfl, rfl,
            by decide +kernel⟩
  · exact ⟨wide, .jtag, 0, 0, [], _, _, _, _, _, rfl, rfl, rfl, rfl, rfl, by decide +kernel⟩
  · exact ⟨wide, .jtag, 0, 0, [0, 16, 4096], _, _, _, _, _, rfl, rfl, rfl, rfl, rfl, by decide +kernel⟩
  · exact ⟨wide, .jtag, 0, 0, [], _, _, _, _, _, rfl, rfl, rfl, rfl, rfl, by decide +kernel⟩
  · exact ⟨wide, .jtag, 0, 0, 0, [], _, _, _, _, _, rfl, rfl, rfl, rfl, rfl, by decide +kernel⟩
  · exact (
    let s : State := ({ wide with rsv := { wide.rsv with run := [(0, { opc := 1, tag := 0, level := 0, args := [], taken := true })] } } : State)
    let p : Fin 4 := 0
    let fail : Option (BitVec 14 × Fin 8) := none
    let r : MbxRun := Option.get (s.mailRun p.val) (by decide +kernel)
    let res : Nat := (s.mailClose r (fail.map (fun e => (e.1.toNat, e.2.val)))).1
    let rsp : List Nat := (s.mailClose r (fail.map (fun e => (e.1.toNat, e.2.val)))).2.1
    let t : State := (s.mailClose r (fail.map (fun e => (e.1.toNat, e.2.val)))).2.2
    ⟨s, p, fail, r, _, _, _, (Option.some_get _).symm, rfl, by decide +kernel⟩)
  · exact ⟨wide, _, _, rfl, rfl, by decide +kernel⟩

/-- Each clause of SessionsFusesAndDebugState has a state and operands that meet its hypotheses. -/
theorem meets_SessionsFusesAndDebugState :
  -- does_sessionGo
  (∃ (s : State) (src : Source) (p : Fin 4) (v : Word) (level : Nat) (ds : List Nat) (t : State) (u : State) (x : State) (w : Word),
    s.touch src = t ∧
    sesWord v 4 = w ∧
    w.toNat % 4 = level ∧
    t.put (F.SEC_P_REQ_LEVEL p.val) level = u ∧
    State.drawMany 32 u = (ds, x) ∧
    s.on = true ∧
    s.opens src (F.SEC_P_REQ_GO p.val).addr w = true ∧
    u.lockedNow p.val = false ∧
    u.heldOff p.val = false ∧
    u.levelKey level ≠ none) ∧
  -- refuses_sessionGo
  (∃ (s : State) (src : Source) (p : Fin 4) (v : Word) (level : Nat) (t : State) (u : State) (w : Word),
    s.touch src = t ∧
    sesWord v 4 = w ∧
    w.toNat % 4 = level ∧
    t.put (F.SEC_P_REQ_LEVEL p.val) level = u ∧
    s.on = true ∧
    s.opens src (F.SEC_P_REQ_GO p.val).addr w = true ∧
    (u.lockedNow p.val = true ∨ u.heldOff p.val = true ∨ u.levelKey level = none)) ∧
  -- does_sessionVerify
  (∃ (s : State) (src : Source) (p : Fin 4) (v : Word) (a : Nat) (t : State) (u : State) (y : SecPort) (w : Word) (x : State) (key :
   List Byte),
    s.touch src = t ∧
    sesWord v 2 = w ∧
    t.put (F.SEC_P_REQ_LEVEL p.val) (w.toNat % 4) = u ∧
    u.secPort p.val = y ∧
    y.chal = some a ∧
    u.setSecPort p.val { y with chal := none } = x ∧
    hmac256 ((u.levelKey y.want).getD (List.replicate 32 0)) (u.wordsBytes (chalAddr p.val) 8 ++ [0x53]) = key ∧
    s.on = true ∧
    s.opens src (F.SEC_P_REQ_GO p.val).addr w = true ∧
    u.aon ≤ a + sU 10 ∧
    u.wordsBytes (respAddr p.val) 8 = u.sesExpect p.val y.want) ∧
  -- refuses_sessionVerify
  (∃ (s : State) (src : Source) (p : Fin 4) (v : Word) (a : Nat) (t : State) (u : State) (y : SecPort) (w : Word) (x : State),
    s.touch src = t ∧
    sesWord v 2 = w ∧
    t.put (F.SEC_P_REQ_LEVEL p.val) (w.toNat % 4) = u ∧
    u.secPort p.val = y ∧
    y.chal = some a ∧
    u.setSecPort p.val { y with chal := none } = x ∧
    s.on = true ∧
    s.opens src (F.SEC_P_REQ_GO p.val).addr w = true ∧
    u.aon ≤ a + sU 10 ∧
    u.wordsBytes (respAddr p.val) 8 ≠ u.sesExpect p.val y.want) ∧
  -- does_sessionClose
  (∃ (s : State) (src : Source) (p : Fin 4) (v : Word) (t : State) (w : Word),
    s.touch src = t ∧
    sesWord v 1 = w ∧
    s.on = true ∧
    s.opens src (F.SEC_P_REQ_GO p.val).addr w = true) ∧
  -- does_sessionReqMulti
  (∃ (s : State) (src : Source) (p : Fin 4) (k : Fin 4) (v : Word) (t : State) (w : Word),
    s.touch src = t ∧
    sesWord v (multiBits k) = w ∧
    s.on = true ∧
    s.opens src (F.SEC_P_REQ_GO p.val).addr w = true) ∧
  -- does_sessionTimeout
  (∃ (s : State) (p : Fin 4),
    s.on = true ∧
    s.portLevel p.val ≠ 0) ∧
  -- does_lockExpiry
  (∃ (s : State) (p : Fin 4) (a : Nat),
    (s.secPort p.val).lockUntil = some a ∧
    s.on = true) ∧
  -- does_lockClr
  (∃ (s : State) (src : Source) (v : Word) (t : State),
    s.touch src = t ∧
    s.on = true ∧
    s.opens src F.SEC_LOCK_CLR_PORTS.addr v = true) ∧
  -- does_zeroise
  (∃ (s : State) (src : Source) (v : Word) (t : State) (w : Word),
    s.touch src = t ∧
    fixBit v 31 = w ∧
    s.on = true ∧
    s.opens src F.SEC_CTL_ZEROISE.addr w = true) ∧
  -- does_fuseProgram
  (∃ (s : State) (src : Source) (v : Word) (t : State) (w : Word) (n : Nat),
    s.touch src = t ∧
    fixBit v 31 = w ∧
    w.toNat % 16 = n ∧
    s.on = true ∧
    s.opens src F.SEC_FUSE_CMD_GO.addr w = true ∧
    n < 7 ∧
    t.flag F.SEC_FUSE_RES_BUSY = false ∧
    t.fuseCheck n = 0) ∧
  -- refuses_fuseProgram
  (∃ (s : State) (src : Source) (v : Word) (t : State) (w : Word) (n : Nat) (r : Nat),
    s.touch src = t ∧
    fixBit v 31 = w ∧
    w.toNat % 16 = n ∧
    t.fuseCheck n = r ∧
    s.on = true ∧
    s.opens src F.SEC_FUSE_CMD_GO.addr w = true ∧
    n < 7 ∧
    t.flag F.SEC_FUSE_RES_BUSY = false ∧
    r ≠ 0) ∧
  -- does_fuseProg
  (∃ (s : State) (n : Nat) (e : Nat) (l : List Byte) (t : State),
    s.elapseTo e = t ∧
    s.on = true ∧
    s.sec.burn = some (n, l, e)) ∧
  -- does_dbgReqOff
  (∃ (s : State) (src : Source) (v : Word) (t : State) (w : Word),
    s.touch src = t ∧
    fix v 0 2 0 = w ∧
    s.on = true ∧
    s.opens src F.SEC_DBG_REQ.addr w = true ∧
    t.cur ≠ 2 ∧
    t.sec.dbgBy = srcCode src) ∧
  -- does_dbgReqObserve
  (∃ (s : State) (src : Source) (v : Word) (t : State) (w : Word),
    s.touch src = t ∧
    fix v 0 2 1 = w ∧
    s.on = true ∧
    s.opens src F.SEC_DBG_REQ.addr w = true ∧
    t.cur ≠ 2) ∧
  -- refuses_dbgReqObserve
  (∃ (s : State) (src : Source) (v : Word) (t : State) (w : Word),
    s.touch src = t ∧
    fix v 0 2 1 = w ∧
    s.on = true ∧
    s.opens src F.SEC_DBG_REQ.addr w = true ∧
    t.cur = 2) ∧
  -- does_dbgReqIntrusive
  (∃ (s : State) (src : Source) (v : Word) (t : State) (u : State) (w : Word),
    s.touch src = t ∧
    fix v 0 2 2 = w ∧
    t.put F.SEC_DBG_REQ 2 = u ∧
    s.on = true ∧
    s.opens src F.SEC_DBG_REQ.addr w = true ∧
    t.cur ≠ 2 ∧
    t.dbg ≠ 2) ∧
  -- does_dbgIntrusiveEnter
  (∃ (s : State) (n : Nat),
    s.sec.dbgWait = some n ∧
    s.on = true ∧
    s.pins.drain = 0) := by
  refine ⟨?_, ?_, ?_, ?_, ?_, ?_, ?_, ?_, ?_, ?_, ?_, ?_, ?_, ?_, ?_, ?_, ?_, ?_⟩
  · exact (
    let s : State := ({ wide with fuses := { wide.fuses with keyOperator := some [] } } : State)
    let src : Source := .jtag
    let p : Fin 4 := 0
    let v : Word := 1
    let t : State := s.touch src
    let w : Word := sesWord v 4
    let level : Nat := w.toNat % 4
    let u : State := t.put (F.SEC_P_REQ_LEVEL p.val) level
    let ds : List Nat := (State.drawMany 32 u).1
    let x : State := (State.drawMany 32 u).2
    ⟨s, src, p, v, _, _, _, _, _, _, rfl, rfl, rfl, rfl, (Prod.eta _).symm, by decide +kernel⟩)
  · exact ⟨wide, .jtag, 0, 0, _, _, _, _, rfl, rfl, rfl, rfl, by decide +kernel⟩
  · exact (
    let s : State := (let b : State := { wide with sec := { wide.sec with p0 := { chal := some 0, want := 1 } }, fuses := { wide.fuses with keyOperator := some [] } }; b.setWordsBytes (respAddr 0) (b.sesExpect 0 1))
    let src : Source := .jtag
    let p : Fin 4 := 0
    let v : Word := 0
    let t : State := s.touch src
    let w : Word := sesWord v 2
    let u : State := t.put (F.SEC_P_REQ_LEVEL p.val) (w.toNat % 4)
    let y : SecPort := u.secPort p.val
    let a : Nat := Option.get (y.chal) (by decide +kernel)
    let x : State := u.setSecPort p.val { y with chal := none }
    let key : List Byte := hmac256 ((u.levelKey y.want).getD (List.replicate 32 0)) (u.wordsBytes (chalAddr p.val) 8 ++ [0x53])
    ⟨s, src, p, v, a, _, _, _, _, _, _, rfl, rfl, rfl, rfl, (Option.some_get _).symm, rfl, rfl, by decide +kernel⟩)
  · exact (
    let s : State := ({ wide with sec := { wide.sec with p0 := { chal := some 0, want := 1 } } } : State)
    let src : Source := .jtag
    let p : Fin 4 := 0
    let v : Word := 0
    let t : State := s.touch src
    let w : Word := sesWord v 2
    let u : State := t.put (F.SEC_P_REQ_LEVEL p.val) (w.toNat % 4)
    let y : SecPort := u.secPort p.val
    let a : Nat := Option.get (y.chal) (by decide +kernel)
    let x : State := u.setSecPort p.val { y with chal := none }
    ⟨s, src, p, v, a, _, _, _, _, _, rfl, rfl, rfl, rfl, (Option.some_get _).symm, rfl, by decide +kernel⟩)
  · exact ⟨wide, .jtag, 0, 0, _, _, rfl, rfl, by decide +kernel⟩
  · exact ⟨wide, .jtag, 0, 0, 0, _, _, rfl, rfl, by decide +kernel⟩
  · exact ⟨wide, 0, by decide +kernel⟩
  · exact (
    let s : State := ({ wide with sec := { wide.sec with p0 := { lockUntil := some 9 } } } : State)
    let p : Fin 4 := 0
    let a : Nat := Option.get ((s.secPort p.val).lockUntil) (by decide +kernel)
    ⟨s, p, a, (Option.some_get _).symm, by decide +kernel⟩)
  · exact ⟨wide, .jtag, 0, _, rfl, by decide +kernel⟩
  · exact ⟨wide, .jtag, 0, _, _, rfl, rfl, by decide +kernel⟩
  · exact ⟨(State.puts wide [(F.PWR_STATE_CUR, 1)] : State), .jtag, 0, _, _, _, rfl, rfl, rfl, by decide +kernel⟩
  · exact ⟨wide, .jtag, 0, _, _, _, _, rfl, rfl, rfl, rfl, by decide +kernel⟩
  · exact (
    let s : State := ({ wide with sec := { wide.sec with burn := some (1, [], 9) } } : State)
    let n : Nat := match s.sec.burn with | some (n, l, e) => n | _ => 0
    let e : Nat := match s.sec.burn with | some (n, l, e) => e | _ => 0
    let l : List Byte := match s.sec.burn with | some (n, l, e) => l | _ => []
    let t : State := s.elapseTo e
    ⟨s, n, e, l, _, rfl, by decide +kernel⟩)
  · exact ⟨({ wide with sec := { wide.sec with dbgBy := srcCode .jtag } } : State), .jtag, 0, _, _, rfl, rfl, by decide +kernel⟩
  · exact ⟨wide, .jtag, 0, _, _, rfl, rfl, by decide +kernel⟩
  · exact ⟨(State.puts wide [(F.PWR_STATE_CUR, 2)] : State), .jtag, 0, _, _, rfl, rfl, by decide +kernel⟩
  · exact ⟨wide, .jtag, 0, _, _, _, rfl, rfl, rfl, by decide +kernel⟩
  · exact (
    let s : State := ({ wide with sec := { wide.sec with dbgWait := some 1 } } : State)
    let n : Nat := Option.get (s.sec.dbgWait) (by decide +kernel)
    ⟨s, n, (Option.some_get _).symm, by decide +kernel⟩)

/-- Each clause of TestAccessPort has a state and operands that meet its hypotheses. -/
theorem meets_TestAccessPort :
  -- does_jtagBypass
  (∃ (s : State) (t : State),
    s.tapTake 0 = t ∧
    s.on = true ∧
    s.tapOn = true) ∧
  -- does_jtagIdcode
  (∃ (s : State),
    s.on = true ∧
    s.tapOn = true) ∧
  -- does_jtagSamplePreload
  (∃ (s : State) (tdi : List Bool) (l : List Bool) (u : State),
    (s.tapTake 2).drawBits tdi.length = (l, u) ∧
    s.on = true ∧
    s.tapOn = true) ∧
  -- does_jtagExtest
  (∃ (s : State) (tdi : List Bool) (l : List Bool) (u : State) (j : Jtag),
    (s.tapTake 3).drawBits tdi.length = (l, u) ∧
    ({ u.jtag with
 boundary := if tdi.isEmpty then u.jtag.boundary else tdi
 saved := some (u.jtag.saved.getD u.pins) } : Jtag) = j ∧
    s.on = true ∧
    s.tapOn = true ∧
    s.cur = 1 ∧
    1 ≤ s.get F.SEC_STAT_DBG) ∧
  -- refuses_jtagExtest
  (∃ (s : State),
    s.on = true ∧
    s.tapOn = true ∧
    (s.cur ≠ 1 ∨ s.get F.SEC_STAT_DBG = 0)) ∧
  -- does_jtagDbgRead
  (∃ (s : State) (addr : BitVec 40) (w : Nat) (t : State),
    (s.tapTake 5).busRead .jtag addr.toNat = (w, t) ∧
    s.on = true ∧
    s.tapOn = true ∧
    1 ≤ s.get F.SEC_STAT_DBG) ∧
  -- does_jtagTrace
  (∃ (s : State),
    s.on = true ∧
    s.tapOn = true ∧
    1 ≤ s.get F.SEC_STAT_DBG) ∧
  -- does_jtagDbgWrite
  (∃ (s : State),
    s.on = true ∧
    s.tapOn = true ∧
    2 ≤ s.get F.SEC_STAT_DBG) ∧
  -- does_jtagPilotHalt
  (∃ (s : State) (t : State),
    s.tapTake 7 = t ∧
    s.on = true ∧
    s.tapOn = true ∧
    2 ≤ s.get F.SEC_STAT_DBG ∧
    t.up domPILOT = true) ∧
  -- does_jtagPilotStep
  (∃ (s : State) (t : State),
    s.tapTake 8 = t ∧
    s.on = true ∧
    s.tapOn = true ∧
    2 ≤ s.get F.SEC_STAT_DBG ∧
    t.up domPILOT = true) ∧
  -- does_jtagScan
  (∃ (s : State) (tdi : List Bool) (l : List Bool) (u : State),
    (s.tapTake 9).drawBits tdi.length = (l, u) ∧
    s.on = true ∧
    s.tapOn = true ∧
    2 ≤ s.get F.SEC_STAT_DBG) ∧
  -- low_jtagDbgRead
  (∃ (s : State),
    s.on = true ∧
    s.tapOn = true ∧
    s.get F.SEC_STAT_DBG < 1) ∧
  -- low_jtagDbgWrite
  (∃ (s : State),
    s.on = true ∧
    s.tapOn = true ∧
    s.get F.SEC_STAT_DBG < 2) ∧
  -- stands_jtagDbgWrite
  (∃ (s : State),
    s.on = true ∧
    s.tapOn = false) := by
  refine ⟨?_, ?_, ?_, ?_, ?_, ?_, ?_, ?_, ?_, ?_, ?_, ?_, ?_, ?_⟩
  · exact ⟨({ wide with pins := { wide.pins with trstN := true } } : State), _, rfl, by decide +kernel⟩
  · exact ⟨({ wide with pins := { wide.pins with trstN := true } } : State), by decide +kernel⟩
  · exact (
    let s : State := ({ wide with pins := { wide.pins with trstN := true } } : State)
    let tdi : List Bool := []
    let l : List Bool := ((s.tapTake 2).drawBits tdi.length).1
    let u : State := ((s.tapTake 2).drawBits tdi.length).2
    ⟨s, tdi, _, _, (Prod.eta _).symm, by decide +kernel⟩)
  · exact (
    let s : State := (State.puts { wide with pins := { wide.pins with trstN := true } } [(F.PWR_STATE_CUR, 1), (F.SEC_STAT_DBG, 1)] : State)
    let tdi : List Bool := []
    let l : List Bool := ((s.tapTake 3).drawBits tdi.length).1
    let u : State := ((s.tapTake 3).drawBits tdi.length).2
    let j : Jtag := ({ u.jtag with boundary := if tdi.isEmpty then u.jtag.boundary else tdi, saved := some (u.jtag.saved.getD u.pins) } : Jtag)
    ⟨s, tdi, _, _, _, (Prod.eta _).symm, rfl, by decide +kernel⟩)
  · exact ⟨({ wide with pins := { wide.pins with trstN := true } } : State), by decide +kernel⟩
  · exact (
    let s : State := (State.puts { wide with pins := { wide.pins with trstN := true } } [(F.SEC_STAT_DBG, 2)] : State)
    let addr : BitVec 40 := 0
    let w : Nat := ((s.tapTake 5).busRead .jtag addr.toNat).1
    let t : State := ((s.tapTake 5).busRead .jtag addr.toNat).2
    ⟨s, addr, _, _, (Prod.eta _).symm, by decide +kernel⟩)
  · exact ⟨(State.puts { wide with pins := { wide.pins with trstN := true } } [(F.SEC_STAT_DBG, 2)] : State), by decide +kernel⟩
  · exact ⟨(State.puts { wide with pins := { wide.pins with trstN := true } } [(F.SEC_STAT_DBG, 2)] : State), by decide +kernel⟩
  · exact ⟨(State.puts { wide with pins := { wide.pins with trstN := true } } [(F.SEC_STAT_DBG, 2)] : State), _, rfl,
            by decide +kernel⟩
  · exact ⟨(State.puts { wide with pins := { wide.pins with trstN := true } } [(F.SEC_STAT_DBG, 2)] : State), _, rfl,
            by decide +kernel⟩
  · exact (
    let s : State := (State.puts { wide with pins := { wide.pins with trstN := true } } [(F.SEC_STAT_DBG, 2)] : State)
    let tdi : List Bool := []
    let l : List Bool := ((s.tapTake 9).drawBits tdi.length).1
    let u : State := ((s.tapTake 9).drawBits tdi.length).2
    ⟨s, tdi, _, _, (Prod.eta _).symm, by decide +kernel⟩)
  · exact ⟨({ wide with pins := { wide.pins with trstN := true } } : State), by decide +kernel⟩
  · exact ⟨({ wide with pins := { wide.pins with trstN := true } } : State), by decide +kernel⟩
  · exact ⟨wide, by decide +kernel⟩

end Sys2Proof.Machine
end

