-- ==== Sys2Proof/WellFormed.lean ====
section
/-! DEFINITION. Which commands are well formed: the operands whose type admits more than the row means. -/

namespace Sys2Proof

/-- A host SPI transfer starts at a multiple of 4, one that is ignored has an unknown command or another address, and one cut off
ends inside a word (24_register_map.md R470); a measurement brings one reading per sensor (21_thermal.md R425); a mailbox command
has at most 16 arguments (23_pilot_security_debug.md R458); a message body fits the 16-bit length of eCPRI
(13_fronthaul_messages.md R265). -/
def Instr.wellFormed (i : Instr) : Bool :=
  match i with
  | .powerRemoved => true
  | .porNAssert => true
  | .porNRelease => true
  | .supervisorTrip => true
  | .supervisorRelease => true
  | .resetNAssert => true
  | .resetNRelease => true
  | .nvmNotBusy => true
  | .strapLatch _ _ => true
  | .imageLoaded _ => true
  | .cpllFirstLock => true
  | .startupCalDone _ _ _ _ => true
  | .confirmTimeout => true
  | .deviceSelfReset => true
  | .slipOpen _ _ => true
  | .slipWrite _ _ => true
  | .slipClose _ _ => true
  | .slipAbort _ _ => true
  | .slipConfirm _ _ => true
  | .slipOpReserved _ _ => true
  | .slipOpComplete _ => true
  | .tallyProgramDone _ => true
  | .tallyCommitDone _ => true
  | .tallyAppendGo _ => true
  | .stateReqDryDock _ _ => true
  | .stateReqDoze _ _ => true
  | .stateReqQuiet _ _ => true
  | .stateReqRun _ _ => true
  | .stateReqReserved _ _ => true
  | .stateTransitionComplete => true
  | .runOffWrite _ _ => true
  | .avsUpdate _ _ => true
  | .avsTransactionDone _ _ => true
  | .avsCeiling => true
  | .avsCeilClear => true
  | .powerEstimate _ => true
  | .rxAdcSample _ _ _ _ _ => true
  | .rxIngressSpaceReturn _ => true
  | .txSamplePlayout _ _ _ => true
  | .clrCnt _ _ => true
  | .clrMin _ _ => true
  | .refclkEdgeLoss => true
  | .freqMonitorWindow _ _ => true
  | .holdoverExpired => true
  | .cpllUnlock => true
  | .cpllLockRetry => true
  | .cpllRelock => true
  | .synGo _ _ _ => true
  | .synRetuneStart _ => true
  | .settleWindowEnd _ => true
  | .synLock _ => true
  | .synUnlock _ => true
  | .synLockRetry _ => true
  | .synRelockTimeout _ => true
  | .swapMuteLift => true
  | .loRouteWrite _ _ => true
  | .lodistDividerReset => true
  | .resync _ _ => true
  | .lpllUnlock _ => true
  | .lpllLockRetry _ => true
  | .lpllRelock _ => true
  | .sscApexApply _ => true
  | .agcDecision => true
  | .agcSuspendEnd => true
  | .agcCtlWrite _ _ => true
  | .servoAverage _ => true
  | .sliceExchange _ _ _ _ _ => true
  | .rxCalReq _ _ => true
  | .rxCalStart => true
  | .rxCalTimeout => true
  | .rxCalDone _ _ => true
  | .rxRetireWrite _ _ _ => true
  | .rxaCntClrOvr _ _ => true
  | .rxaCntClrAgc _ _ => true
  | .rxdRunWrite _ _ => true
  | .rxdCfgWrite _ _ _ => true
  | .rxdNcoGo _ _ => true
  | .rxdNcoRetuneAt => true
  | .rxdCntClrSat _ _ => true
  | .rxdCntClrInv _ _ => true
  | .txdRunWrite _ _ => true
  | .txdCfgWrite _ _ _ => true
  | .txdNcoGo _ _ => true
  | .txdNcoRetuneAt => true
  | .txGainApply => true
  | .txChainRestart => true
  | .txaCtlWrite _ _ => true
  | .txRetireWrite _ _ _ => true
  | .coexGntFall => true
  | .coexGntRise => true
  | .coexMuteLift => true
  | .txCalReq _ _ => true
  | .txCalStart => true
  | .txCalTimeout => true
  | .txCalDone _ _ => true
  | .readbackGo _ _ => true
  | .readbackDone _ => true
  | .txdCntClrMute _ _ => true
  | .txdCntClrSat _ _ => true
  | .dpdCfgWrite _ _ _ => true
  | .dpdPctlWrite _ _ _ => true
  | .dpdBankWrite _ _ _ _ _ _ => true
  | .dpdSwapGo _ _ => true
  | .fadeComplete _ => true
  | .orxSlot _ _ _ _ _ _ => true
  | .dpdSolveDone _ _ _ _ _ _ => true
  | .refreshFadeStart _ => true
  | .orxSliceExchange _ _ _ _ _ => true
  | .dpdCntClrPath _ _ => true
  | .dpdCntClrDrop _ _ => true
  | .dpdCntClrActwr _ _ => true
  | .nop _ => true
  | .mac _ => true
  | .macc _ => true
  | .msu _ => true
  | .mul _ => true
  | .mulc _ => true
  | .mag2 _ => true
  | .adda _ => true
  | .zero _ => true
  | .shra _ => true
  | .nr _ => true
  | .nrc _ => true
  | .nro _ => true
  | .add _ => true
  | .sub _ => true
  | .cmul _ => true
  | .conj _ => true
  | .neg _ => true
  | .movv _ => true
  | .rot _ => true
  | .bcast _ => true
  | .out _ => true
  | .loop _ => true
  | .jmp _ => true
  | .movr _ => true
  | .halt _ => true
  | .illegalBundle _ => true
  | .unitDeal _ => true
  | .quayWindowWrite _ _ _ _ => true
  | .coreRunWrite _ _ _ => true
  | .clusterCtlWrite _ _ _ _ => true
  | .shadowTurn _ => true
  | .coreSwapGo _ _ _ => true
  | .coreSwapSwitch _ => true
  | .schedAdd _ _ => true
  | .schedCancel _ _ => true
  | .schedFlush _ _ => true
  | .schedOpReserved _ _ => true
  | .berthStage _ => true
  | .berthSwitch _ => true
  | .berthWindowWrite _ _ _ _ _ => true
  | .maskApply _ => true
  | .alignWrite _ _ _ _ _ => true
  | .alignApply _ _ => true
  | .bcalReq _ _ => true
  | .bcalStart => true
  | .bcalTimeout => true
  | .bcalDone _ => true
  | .berthCntClrSat _ _ => true
  | .berthCntClrRef _ _ => true
  | .alignSetReceived _ _ _ => true
  | .signalDetect _ => true
  | .trainStateTimeout _ => true
  | .trainTimeout _ => true
  | .retrainStart _ => true
  | .dataColumnReceived _ _ => true
  | .laneSignalLoss _ _ => true
  | .requalAttemptDone _ _ _ => true
  | .remapStalled _ => true
  | .fwdClockLoss _ => true
  | .dfeAdapt _ _ _ _ _ _ _ => true
  | .ctleAdapt _ _ => true
  | .eyeMeasure _ _ _ _ => true
  | .fhlRetrainA _ _ => true
  | .fhlRetrainB _ _ => true
  | .fhlCntClr _ _ => true
  | .linkFrameRx _ _ _ _ _ _ => true
  | .txSectionRx _ _ => true
  | .rxSectionForm _ _ => true
  | .rxsCfgWrite _ _ _ => true
  | .rtcBerthAdd _ _ _ body => decide (body.length ≤ 65535)
  | .rtcBerthCancel _ _ _ body => decide (body.length ≤ 65535)
  | .rtcBerthFlush _ _ _ body => decide (body.length ≤ 65535)
  | .rtcGapGrant _ _ _ body => decide (body.length ≤ 65535)
  | .rtcGapRevoke _ _ _ body => decide (body.length ≤ 65535)
  | .rtcNcoRetune _ _ _ body => decide (body.length ≤ 65535)
  | .rtcSynRetune _ _ _ body => decide (body.length ≤ 65535)
  | .rtcUnknown _ _ _ _ body => decide (body.length ≤ 65535)
  | .gapBegin => true
  | .gapEnd => true
  | .rmaRead _ _ _ _ _ => true
  | .rmaWrite _ _ _ _ _ => true
  | .rmaWriteNoResp _ _ _ _ _ => true
  | .rmaResponseRx _ _ _ => true
  | .resetRequest _ _ _ _ => true
  | .eventMsgSend => true
  | .fhmCtlWrite _ _ => true
  | .fhmCntClr _ _ => true
  | .memberJoin _ _ _ => true
  | .ringTopoReport _ _ _ _ _ => true
  | .routeSwitch _ _ _ _ => true
  | .psumSectionRx _ _ => true
  | .psumTimeout _ => true
  | .layerForward _ _ _ _ => true
  | .panelSumsRx _ _ => true
  | .ringSyncGo _ _ => true
  | .ringSync _ => true
  | .xcalReq _ _ _ => true
  | .xcalStart => true
  | .xcalDone _ _ _ _ _ _ => true
  | .ringRetrainE _ _ => true
  | .ringRetrainW _ _ => true
  | .ringCntClr _ _ => true
  | .tideExchangeStart => true
  | .type5MessageRx _ _ => true
  | .tideExchangeComplete => true
  | .tideExchangeLost => true
  | .tideHold => true
  | .tideAck _ _ => true
  | .tideAsymWrite _ _ _ => true
  | .tideCntClr _ _ => true
  | .toAdd _ _ => true
  | .toFlush _ _ => true
  | .toOpReserved _ _ => true
  | .timedOutputEdge _ => true
  | .tpulseModeWrite _ _ _ => true
  | .coexActRise => true
  | .coexActFall => true
  | .edBinEnd _ => true
  | .stfDetect _ _ _ _ => true
  | .ltfSync _ _ _ _ => true
  | .ltfTimeout _ _ _ => true
  | .lsigDecode _ _ _ _ => true
  | .watcherBusyEnd _ _ _ => true
  | .lookCtlWrite _ _ => true
  | .lookCfgWrite _ _ _ => true
  | .lookCntClr _ _ => true
  | .biasWrite _ _ _ => true
  | .paCmdOn _ _ => true
  | .paCmdOff _ _ => true
  | .paCmdIgnored _ _ => true
  | .paDrainWaitEnd _ => true
  | .paBiasArrived _ => true
  | .feFaultDrainOff => true
  | .vnegFault => true
  | .synUnlockFault => true
  | .rffeWrite _ _ _ => true
  | .rffeRead _ _ _ => true
  | .rffeReg0Write _ _ _ => true
  | .rffeExtWrite _ _ _ => true
  | .rffeExtRead _ _ _ => true
  | .rffeCmdUnknown _ _ _ => true
  | .rffeCommandStart _ => true
  | .rffeCommandDone _ _ _ => true
  | .xchkClrWrite _ _ _ => true
  | .bwBlockVerdict => true
  | .bwGranuleDecision => true
  | .cotExpiry => true
  | .lbtQuery => true
  | .fendCntClr _ _ => true
  | .bwtrCntClr _ _ => true
  | .monPassStart _ => true
  | .monGo _ _ _ => true
  | .monCtlWrite _ _ _ => true
  | .monSeqWrite _ _ _ _ => true
  | .monResultWrite _ _ => true
  | .monInjGo _ _ _ => true
  | .monInjTrigger _ => true
  | .monInjStart _ => true
  | .monInjCtlWrite _ _ _ _ => true
  | .monCalGo _ _ _ => true
  | .monCalStart _ => true
  | .monCalDone _ _ _ => true
  | .monitorResultRead _ _ _ => true
  | .monCntClr _ _ => true
  | .holdRead _ _ => true
  | .scrubRead _ => true
  | .repairFuseBurn => true
  | .holdReady => true
  | .holdcCntClr _ _ => true
  | .gaugeArm _ _ _ => true
  | .gaugeStop _ _ _ => true
  | .gaugeTrig _ _ _ => true
  | .gaugeCmdIgnored _ _ _ => true
  | .gtrigEdge _ => true
  | .gaugeTriggerDecide _ => true
  | .gaugeSetWrite _ _ => true
  | .gaugeSetDrop _ => true
  | .deepHclr _ _ _ => true
  | .deepMclr _ _ _ => true
  | .gaugeCntClr _ _ => true
  | .replayGo _ _ _ => true
  | .replayStop _ _ _ => true
  | .replayStart _ => true
  | .replayEnd _ => true
  | .craneGo _ _ _ => true
  | .craneKick _ _ _ => true
  | .cranePause _ _ _ => true
  | .craneStop _ _ _ => true
  | .cranePaused _ => true
  | .manifestFetch _ => true
  | .craneCopy _ _ => true
  | .craneFill _ _ => true
  | .craneCompare _ _ => true
  | .craneLink _ => true
  | .craneOpReserved _ => true
  | .manifestWriteback _ => true
  | .craneAccessTimeout _ => true
  | .remoteAnswerTimeout _ => true
  | .craneCntClr _ _ => true
  | .thermMeasureStart => true
  | .thermDemand _ _ => true
  | .thermMeasureDone l => l.length == 24
  | .ladderEscalate => true
  | .ladderDescend => true
  | .synClr _ _ => true
  | .pilotPolicyAction _ _ _ => true
  | .tunerSteerTick _ _ _ _ => true
  | .sessionGo _ _ _ => true
  | .sessionVerify _ _ _ => true
  | .sessionClose _ _ _ => true
  | .sessionReqMulti _ _ _ _ => true
  | .sessionTimeout _ => true
  | .lockExpiry _ => true
  | .lockClr _ _ => true
  | .zeroise _ _ => true
  | .fuseProgram _ _ => true
  | .fuseProg _ => true
  | .pilotReady => true
  | .pilotWatchdogExpiry => true
  | .mbxVersion _ _ _ args => decide (args.length ≤ 16)
  | .mbxHealth _ _ _ args => decide (args.length ≤ 16)
  | .mbxTelemSet _ _ _ args => decide (args.length ≤ 16)
  | .mbxLogFind _ _ _ args => decide (args.length ≤ 16)
  | .mbxTune _ _ _ args => decide (args.length ≤ 16)
  | .mbxCalPolicy _ _ _ args => decide (args.length ≤ 16)
  | .mbxPolicy _ _ _ args => decide (args.length ≤ 16)
  | .mbxRetire _ _ _ args => decide (args.length ≤ 16)
  | .mbxRestore _ _ _ args => decide (args.length ≤ 16)
  | .mbxResolve _ _ _ args => decide (args.length ≤ 16)
  | .mbxSlipway _ _ _ args => decide (args.length ≤ 16)
  | .mbxPilotReset _ _ _ args => decide (args.length ≤ 16)
  | .mbxUnknown _ _ _ _ args => decide (args.length ≤ 16)
  | .mbxResponseComplete _ _ => true
  | .telemSnapshot => true
  | .dbgReqOff _ _ => true
  | .dbgReqObserve _ _ => true
  | .dbgReqIntrusive _ _ => true
  | .dbgIntrusiveEnter => true
  | .trstNAssert => true
  | .jtagBypass _ => true
  | .jtagIdcode _ => true
  | .jtagSamplePreload _ => true
  | .jtagExtest _ => true
  | .jtagDbgRead _ _ => true
  | .jtagTrace _ => true
  | .jtagDbgWrite _ _ _ => true
  | .jtagPilotHalt _ => true
  | .jtagPilotStep _ => true
  | .jtagScan _ => true
  | .spiRead addr _ _ => addr.toNat % 4 == 0
  | .spiWrite addr _ => addr.toNat % 4 == 0
  | .spiTransactionIgnored cmd addr _ => !(cmd == 0x02 || cmd == 0x0B) || addr.toNat % 4 != 0
  | .spiCsAbort addr data => addr.toNat % 4 == 0 && data.length % 4 != 0
  | .registerWrite _ _ _ => true
  | .evtW1cWrite _ _ _ => true
  | .loHiPairRead _ _ _ => true
  | .rxaCtlWrite _ _ => true
  | .alignSetMissing _ => true
  | .vnegRestored => true
  | .tallyEraseDone _ => true
  | .trstNRelease => true

end Sys2Proof
end

