-- ==== Sys2Proof/Tests/Slice0.lean ====
section
/-! SUPPORT. Tests on fixed values, and states that meet the hypotheses of the statements about the whole block. -/

namespace Sys2Proof.Machine

set_option Elab.async false

/-! ## Well-formedness: an ill-formed term for each check, beside a well-formed one -/

theorem test_wellFormed_spiRead : (Instr.spiRead 2 1 0).wellFormed = false ∧ (Instr.spiRead 4 1 0).wellFormed = true := by decide

theorem test_wellFormed_spiWrite : (Instr.spiWrite 1 []).wellFormed = false ∧ (Instr.spiWrite 8 []).wellFormed = true := by decide

theorem test_wellFormed_spiTransactionIgnored :
    (Instr.spiTransactionIgnored 0x02 8 []).wellFormed = false ∧ (Instr.spiTransactionIgnored 0x03 8 []).wellFormed = true := by decide

theorem test_wellFormed_spiCsAbort :
    (Instr.spiCsAbort 8 [1, 2, 3, 4]).wellFormed = false ∧ (Instr.spiCsAbort 8 [1, 2, 3]).wellFormed = true := by decide

theorem test_wellFormed_thermMeasureDone :
    (Instr.thermMeasureDone (List.replicate 23 (1, 0))).wellFormed = false ∧
      (Instr.thermMeasureDone (List.replicate 24 (1, 0))).wellFormed = true := by decide

/-- Every mailbox command with seventeen arguments is ill formed (R458). -/
theorem test_wellFormed_mailbox :
    ∀ f ∈ [Instr.mbxVersion, Instr.mbxHealth, Instr.mbxTelemSet, Instr.mbxLogFind, Instr.mbxTune, Instr.mbxCalPolicy, Instr.mbxPolicy,
        Instr.mbxRetire, Instr.mbxRestore, Instr.mbxResolve, Instr.mbxSlipway, Instr.mbxPilotReset],
      (f .jtag 0 0 (List.replicate 17 0)).wellFormed = false ∧ (f .jtag 0 0 (List.replicate 16 0)).wellFormed = true := by
  decide +kernel

theorem test_wellFormed_mbxUnknown :
    (Instr.mbxUnknown .jtag 0 0 9 (List.replicate 17 0)).wellFormed = false ∧ (Instr.mbxUnknown .jtag 0 0 9 []).wellFormed = true := by
  decide

/-- A body longer than 65,535 bytes does not fit the length of an eCPRI message (R265). -/
theorem test_wellFormed_body :
    (∀ f ∈ [Instr.rtcBerthAdd, Instr.rtcBerthCancel, Instr.rtcBerthFlush, Instr.rtcGapGrant, Instr.rtcGapRevoke, Instr.rtcNcoRetune,
        Instr.rtcSynRetune, fun via => Instr.rtcUnknown via 9], (f 0 0 0 [1, 2, 3]).wellFormed = true) ∧
    ∀ l : List Byte, 65535 < l.length →
      ¬ ((Instr.rtcBerthAdd 0 0 0 l).wellFormed ∨ (Instr.rtcBerthCancel 0 0 0 l).wellFormed ∨ (Instr.rtcBerthFlush 0 0 0 l).wellFormed ∨
        (Instr.rtcGapGrant 0 0 0 l).wellFormed ∨ (Instr.rtcGapRevoke 0 0 0 l).wellFormed ∨ (Instr.rtcNcoRetune 0 0 0 l).wellFormed ∨
        (Instr.rtcSynRetune 0 0 0 l).wellFormed ∨ (Instr.rtcUnknown 0 0 0 0 l).wellFormed) := by
  refine ⟨by decide +kernel, fun l h => ?_⟩
  have e (h2 : decide (l.length ≤ 65535) = true) : False := by have := of_decide_eq_true h2; omega
  rintro (h2 | h2 | h2 | h2 | h2 | h2 | h2 | h2) <;> exact e h2

/-- The rows of the table give no bits: no word spells a command. -/
theorem test_decode_none : decodeTableWord 32 0 = none ∧ State.reset.withFetchWord 32 0 = State.reset := by decide

/-! ## Worked values -/

/-- SHA-256 of "abc" (FIPS 180-4, the standard's own example). -/
theorem test_sha256_abc : (sha256 [0x61, 0x62, 0x63]).take 8 = [0xBA, 0x78, 0x16, 0xBF, 0x8F, 0x01, 0xCF, 0xEA] := by decide +kernel

/-- The vector and the accumulator of pole AH-0417 (10_quay_array.md): −32,768 in the real part of every lane, and 511 products of 2^30. -/
def testVec : Vec := { lanes := List.replicate 8 ⟨-32768, 0⟩ }
def testAcc : Acc := { lanes := List.replicate 8 ⟨548682072064, 0⟩ }
/-- The accumulator after an operation, and the first lane of a vector. -/
def testRe (a : Acc) : Int := (lane a.lanes 0).re

/-- The 512th MAC saturates at 549,755,813,887 and sets OVF; with trueAP it wraps to −549,755,813,888 and sets trueP (AH-0417). -/
theorem test_quay_overflow :
    (let r := (accOp 0x01 0 false testAcc testVec testVec).1; (testRe r, r.ovf, r.wrp)) = (549755813887, true, false) ∧
      (let r := (accOp 0x01 0 true testAcc testVec testVec).1; (testRe r, r.ovf, r.wrp)) = (-549755813888, false, true) := by decide

/-- 548,682,072,063 narrowed by 24 bits is 32,704 (AH-0417). -/
theorem test_quay_narrow :
    (let r := (narrowAcc false 24 { testAcc with lanes := List.replicate 8 ⟨548682072063, 0⟩, ovf := true }).1;
      ((lane r.lanes 7).re, r.tag.ovf, r.tag.wrp)) = (32704, true, false) := by decide

/-- After reset SLEW_NS of Tide is 20 ns/s (R305), and the mode is Dry dock. -/
theorem test_reset_fields : State.reset.get F.TIDE_LIM_SLEW_NS = 20 ∧ State.reset.get F.BOOT_STAT_DONE = 0 := by decide

/-! ## States that meet the hypotheses of the statements about the whole block -/

/-- The state that a command answers, held to a check. -/
theorem next_of {o : Host.Outcome State Fault Refusal} (p : State → Bool)
    (h : (match o with | .next t => p t | _ => false) = true) : ∃ t, o = .next t ∧ p t = true := by
  cases o with
  | next t => exact ⟨t, rfl, h⟩
  | fault r => cases h
  | refused r => cases h

theorem meets_CommandsAreTakenInOrder : ∃ (c : Instr) (q : List Instr) (s : State), s.pending = c :: q :=
  ⟨.cpllFirstLock, [.nvmNotBusy], { pending := [.cpllFirstLock, .nvmNotBusy] }, rfl⟩

theorem meets_EmptyQueuePassesATick :
    (∃ s : State, s.pending = [] ∧ s.on = true) ∧ ∃ s : State, s.pending = [] ∧ s.on = false :=
  ⟨⟨wide, by decide +kernel, by decide +kernel⟩, ⟨{ power := { off := true } }, rfl, by decide⟩⟩

theorem meets_StepKeepsCanonicalStores : ∃ s t : State, s.canonical = true ∧ step s = .next t ∧ t.canonical = true := by
  obtain ⟨t, h, h2⟩ := next_of (o := step wide) State.canonical (by decide +kernel)
  exact ⟨wide, t, by decide +kernel, h, h2⟩

theorem meets_EachCommandTouchesOnlyItsAreas : ∃ (c : Instr) (s t : State), exec c s = .next t ∧ t.on = false := by
  obtain ⟨t, h, h2⟩ := next_of (o := exec .resetNAssert wide) (fun t => decide (t.on = false)) (by decide +kernel)
  exact ⟨.resetNAssert, wide, t, h, of_decide_eq_true h2⟩

theorem meets_DeviceInResetIgnoresCommands : ∃ (c : Instr) (s : State), s.on = false ∧
    c ∉ [.powerRemoved, .porNAssert, .porNRelease, .supervisorTrip, .supervisorRelease, .resetNAssert, .resetNRelease, .trstNAssert,
      .trstNRelease] :=
  ⟨.nvmNotBusy, { power := { rst := true } }, by decide, by decide⟩

theorem meets_StepsUndoNothing : ∃ s t : State, step s = .next t ∧ t.pending = [] := by
  obtain ⟨t, h, h2⟩ := next_of (o := step { wide with pending := [.resetNAssert] }) (fun t => decide (t.pending = [])) (by decide +kernel)
  exact ⟨_, t, h, of_decide_eq_true h2⟩

theorem setFlash_lists_its_last (b : Byte) (hb : b ≠ 0xFF) : ∀ (l : List Byte) (s : State) (dev off : Nat),
    (s.setFlash dev off (l ++ [b])).flash ≠ [] := by
  intro l
  induction l with
  | nil =>
    intro s dev off h
    have e := sparseFind_insert_same s.flash (dev * 2 ^ 25 + off) b
    simp only [List.nil_append, State.setFlash, sparsePut, if_neg hb] at h
    rw [h] at e
    cases e
  | cons c l ih =>
    intro s dev off
    exact ih _ _ _

/-- The images change where Slipway completes an operation; the fuses where a burn is done. -/
theorem meets_FlashAndFusesChangeOnlyByTheirCommands :
    (∃ (c : Instr) (s t : State), exec c s = .next t ∧ t.flash ≠ s.flash) ∧
      ∃ (c : Instr) (s t : State), exec c s = .next t ∧ t.fuses ≠ s.fuses := by
  constructor
  · refine ⟨.slipOpComplete 0, { wide with boot := { wide.boot with slipOp := some (2, 5) } }, _,
      does_slipOpComplete (n := 5) (by decide +kernel) (by decide +kernel) rfl (by decide +kernel) (by decide +kernel), ?_⟩
    rw [State.follow_flash, State.put_flash, State.bytes, List.range_succ, List.map_append]
    exact setFlash_lists_its_last _ (by decide +kernel) _ _ _ _
  · obtain ⟨t, h, h2⟩ := next_of (o := exec .repairFuseBurn { wide with hold := { wide.hold with remaps := [(0, 1)] } })
      (fun t => decide (t.fuses ≠ wide.fuses)) (by decide +kernel)
    exact ⟨_, _, t, h, of_decide_eq_true h2⟩

theorem meets_ResetNKeepsClassP : ∃ s : State, s.power.off = false ∧ s.power.por = false ∧ s.power.sup = false :=
  ⟨wide, by decide +kernel, by decide +kernel, by decide +kernel⟩

/-- A field at either end of its register; the other field at another address, below it, or above it. -/
theorem meets_FieldsReadBack :
    (∃ f g : Field, f.lo + f.width ≤ 32 ∧ g.addr ≠ f.addr) ∧ (∃ f g : Field, f.lo + f.width ≤ 32 ∧ g.lo + g.width ≤ f.lo) ∧
      ∃ f g : Field, f.lo + f.width ≤ 32 ∧ f.lo + f.width ≤ g.lo :=
  ⟨⟨F.TIDE_LIM_SLEW_NS, F.BOOT_STAT_DONE, by decide, by decide⟩, ⟨⟨0, 4, 28⟩, ⟨0, 0, 4⟩, by decide, by decide⟩,
    ⟨⟨0, 0, 31⟩, ⟨0, 31, 1⟩, by decide, by decide⟩⟩

/-- A field of each type that a write treats in its own way. -/
theorem meets_WrittenFieldsFollowTheirTypes :
    (∃ a r, findReg a = some r ∧ ∃ f ∈ r.fields, f.kind = .rw) ∧
      (∃ (s : State) (a : Nat) (r : RegRow), findReg a = some r ∧ s.flag F.BOOT_STAT_DONE = false ∧ ∃ f ∈ r.fields, f.kind = .rwl) ∧
      (∃ (s : State) (a : Nat) (r : RegRow), findReg a = some r ∧ s.flag F.BOOT_STAT_DONE = true ∧ ∃ f ∈ r.fields, f.kind = .rwl) ∧
      (∃ a r, findReg a = some r ∧ ∃ f ∈ r.fields, f.kind = .w1c) ∧ ∃ a r, findReg a = some r ∧ ∃ f ∈ r.fields, f.kind = .ro :=
  ⟨⟨F.TIDE_LIM_SLEW_NS.addr, _, (Option.some_get (by decide +kernel)).symm, by decide +kernel⟩,
    ⟨wide, 0x10020, _, (Option.some_get (by decide +kernel)).symm, by decide +kernel, by decide +kernel⟩,
    ⟨wide.put F.BOOT_STAT_DONE 1, 0x10020, _, (Option.some_get (by decide +kernel)).symm, by decide +kernel, by decide +kernel⟩,
    ⟨evtAddr 1, _, (Option.some_get (by decide +kernel)).symm, by decide +kernel⟩,
    ⟨F.BOOT_STAT_DONE.addr, _, (Option.some_get (by decide +kernel)).symm, by decide +kernel⟩⟩

/-- A reserved address, the last word of the space, and a register of a unit that the part lacks. -/
theorem meets_AbsentAddressesReadZeroAndIgnoreWrites :
    (∃ (s : State) (a : BitVec 40), s.on = true ∧ a.toNat % 4 = 0 ∧ s.window a.toNat = 0 ∧ findReg a.toNat = none) ∧
      ∃ (s : State) (a : BitVec 40), s.on = true ∧ a.toNat % 4 = 0 ∧ s.window a.toNat = 0 ∧ s.regAbsent a.toNat = true :=
  ⟨⟨wide, 0xFFFFFFFFFC, by decide +kernel, by decide, by decide +kernel, by decide +kernel⟩,
    ⟨{ wide with part := .um6432 }, 0x0F0000, by decide +kernel, by decide, by decide +kernel, by decide +kernel⟩⟩

theorem meets_DeniedReadsReturnZero :
    ∃ (s : State) (src : Source) (a : Nat) (r : RegRow), a % 4 = 0 ∧ s.window a = 0 ∧ findReg a = some r ∧ s.regAbsent a = false ∧
      (srcCrane src = true → a / 0x10000 ≠ 0x15) ∧ (s.touch src).mayRead src a = false :=
  ⟨wide, .crane 0, 0x190048, _, by decide, by decide +kernel, (Option.some_get (by decide +kernel)).symm, by decide +kernel,
    by decide, by decide +kernel⟩

/-- The greatest word, and the bytes beside it. -/
theorem meets_WindowWordsReadBack : ∃ a b c v : Nat, v < 2 ^ 32 ∧ b < a ∧ a + 4 ≤ c := ⟨1, 0, 5, 0xFFFFFFFF, by decide⟩

theorem meets_FlashBytesReadBack :
    ∃ (dev off d k d' k' : Nat) (l : List Byte), l ≠ [] ∧ d * 2 ^ 25 + k < dev * 2 ^ 25 + off ∧
      dev * 2 ^ 25 + off + l.length ≤ d' * 2 ^ 25 + k' :=
  ⟨0, 1, 0, 0, 0, 3, [7, 8], by decide, by decide, by decide⟩

/-- The last block with an EVT register, with room in the queue and a brick up. -/
theorem meets_EventsAreRecorded :
    ∃ (s : State) (code info : Nat), code / 256 < 26 ∧ evtBit code info < 32 ∧ s.tally.queue.length < 256 ∧ s.toHead code = false ∧
      s.anyBrickUp = true ∧ s.flag F.FHM_CTL_EVT_EN = true ∧ s.msgs.notices.length < 64 :=
  ⟨State.puts wide [(F.FHM_CTL_EVT_EN, 1)], 0x1901, 0, by decide, by decide, by decide +kernel, by decide +kernel, by decide +kernel,
    by decide +kernel, by decide +kernel⟩

theorem meets_InterruptPinsFollowTheEvents : ∃ (s : State) (n : Nat), n < 27 ∧ s.jtag.saved = none := ⟨wide, 26, by decide, by decide +kernel⟩

theorem meets_SlipCountersHoldAtTheirGreatest :
    (∃ (s : State) (m : Nat), m < 8 ∧ s.get (F.TOP_SLIP_CNT_COUNT m) = 0xFFFFFFFF) ∧
      (∃ (s : State) (m : Nat), m < 8 ∧ s.get (F.TOP_SLIP_CNT_COUNT m) ≠ 0xFFFFFFFF) ∧
      ∃ (s : State) (src : Source) (v : Word) (m : Nat), s.on = true ∧ s.opens src 0x100 (fixBit v 17) = true ∧ m < 8 :=
  ⟨⟨wide.put (F.TOP_SLIP_CNT_COUNT 7) 0xFFFFFFFF, 7, by decide, by decide +kernel⟩,
    ⟨wide.put (F.TOP_SLIP_CNT_COUNT 0) 0xFFFFFFFE, 0, by decide, by decide +kernel⟩,
    ⟨wide, .jtag, 0, 7, by decide +kernel, by decide +kernel, by decide⟩⟩

theorem meets_StampsAreComparedModulo : ∃ (a : Stamp) (d : Nat), 0 < d ∧ d < 2 ^ 63 ∧ (stampAdd a d).toNat < a.toNat :=
  ⟨BitVec.allOnes 64, 2 ^ 63 - 1, by decide⟩

/-- The least sum that does not fit: 2^39 in 40 bits, and 2^15 in 16. -/
theorem meets_QuayWrapKeepsTheLowBits :
    (∃ (n : Nat) (x : Int), (n = 40 ∨ n = 16) ∧ (fit true n x).2 = true) ∧
      (∃ (opc k : Nat) (a r : Acc) (x y : Vec), opc ≠ 8 ∧ accOp opc k true a x y = (r, true)) ∧
      (∃ (sh : Nat) (a : Acc) (v : Vec), narrowAcc true sh a = (v, true)) ∧ ∃ q : Nat, q < 96 ∧ 94 < q :=
  ⟨⟨40, 2 ^ 39, by decide, by decide⟩, ⟨0x01, 0, testAcc, (accOp 0x01 0 true testAcc testVec testVec).1, testVec, testVec, by decide, by decide⟩, ⟨0, testAcc, (narrowAcc true 0 testAcc).1, by decide⟩,
    ⟨95, by decide⟩⟩

/-- The values on both sides of each limit. -/
theorem meets_QuaySaturatesAndRoundsHalfUp :
    (∃ (n : Nat) (x : Int), (n = 40 ∨ n = 16) ∧ -2 ^ (n - 1) ≤ x ∧ x < 2 ^ (n - 1) ∧ x = 2 ^ (n - 1) - 1) ∧
      (∃ (n : Nat) (x : Int), (n = 40 ∨ n = 16) ∧ 2 ^ (n - 1) ≤ x) ∧ (∃ (n : Nat) (x : Int), (n = 40 ∨ n = 16) ∧ x < -2 ^ (n - 1)) ∧
      (∃ (opc k : Nat) (a r : Acc) (x y : Vec), opc ≠ 8 ∧ accOp opc k false a x y = (r, true)) ∧
      ∃ (sh : Nat) (a : Acc) (v : Vec), narrowAcc false sh a = (v, true) :=
  ⟨⟨16, 32767, by decide⟩, ⟨40, 2 ^ 39, by decide⟩, ⟨16, -32769, by decide⟩,
    ⟨0x01, 0, testAcc, (accOp 0x01 0 false testAcc testVec testVec).1, testVec, testVec, by decide, by decide⟩, ⟨0, testAcc, (narrowAcc false 0 testAcc).1, by decide⟩⟩

theorem meets_NinthLinkStopsItsChannel :
    (∃ (s : State) (ch : Fin 16), s.on = true ∧ s.craneActs ch.val 3 = true ∧ s.get (F.CRANE_C_STAT_LINKS ch.val) = 8) ∧
      ∃ (s : State) (ch : Fin 16), s.on = true ∧ s.up domHOLD = true ∧ s.craneState ch.val = 1 ∧ (s.chan ch.val).phase = 3 ∧
        (s.chan ch.val).cause = 8 :=
  ⟨⟨State.puts { wide with crane := { wide.crane with chans := [(0, { phase := 2, man := [0x83000000] })] } }
      [(F.CRANE_C_STAT_STATE 0, 1), (F.CRANE_C_STAT_LINKS 0, 8)], 0, by decide +kernel⟩,
    ⟨State.puts { wide with crane := { wide.crane with chans := [(15, { phase := 3, cause := 8 })] } }
      [(F.CRANE_C_STAT_STATE 15, 1)], 15, by decide +kernel⟩⟩

/-- No measurement runs, or one runs. -/
theorem meets_MeasurementsStartOnScheduleAndOnDemand :
    (∃ s : State, s.on = true ∧ s.therm.first = 0 ∧ s.therm.running = none) ∧
      (∃ s : State, s.on = true ∧ s.therm.first = 0 ∧ s.therm.running ≠ none) ∧
      (∃ (s : State) (src : Source) (v : Word), s.on = true ∧ s.opens src F.THERM_CTL_DEMAND.addr (fixBit v 31) = true ∧
        s.therm.running = none) ∧
      ∃ (s : State) (src : Source) (v : Word), s.on = true ∧ s.opens src F.THERM_CTL_DEMAND.addr (fixBit v 31) = true ∧
        s.therm.running ≠ none :=
  ⟨⟨{ wide with therm := { wide.therm with first := 0 } }, by decide +kernel⟩,
    ⟨{ wide with therm := { wide.therm with first := 0, running := some (9, false) } }, by decide +kernel⟩,
    ⟨wide, .jtag, 0, by decide +kernel⟩,
    ⟨{ wide with therm := { wide.therm with running := some (9, false) } }, .jtag, 0, by decide +kernel⟩⟩

/-- A retired sensor with neighbours, and one whose neighbours are all retired. -/
theorem meets_RetiredSensorsTakeTheirNeighboursMedian :
    (∃ (s : State) (l : List (Nat × Int)) (i : Nat) (q : List Int), s.sensorOut i = true ∧ q.Perm (s.nearReadings l i) ∧
      q.Pairwise (· ≤ ·) ∧ q ≠ []) ∧
      ∃ (s : State) (l : List (Nat × Int)) (i : Nat), s.sensorOut i = true ∧ s.nearReadings l i = [] ∧ ∃ j < 24, s.sensorOut j = false :=
  ⟨⟨wide.put F.THERM_RETIRED_SENSORS 1, [], 0, wide.nearReadings [] 0, by decide +kernel⟩,
    ⟨wide.put F.THERM_RETIRED_SENSORS 0x7FFFFF, [], 0, by decide +kernel⟩⟩

end Sys2Proof.Machine
end

/-! Proofs of the statements of family 00_scope.md: stamps, the tick of an empty queue, what no step undoes, and accesses to
absent addresses. -/

namespace Sys2Proof.Machine

/-! ## Stamps (R12) -/

theorem atOrAfter_iff (a b : Stamp) : atOrAfter a b = true ↔ (a.toNat + 2 ^ 64 - b.toNat) % 2 ^ 64 < 2 ^ 63 := by
  have hb : b.toNat < 2 ^ 64 := b.isLt
  have e : 2 ^ 64 - b.toNat + a.toNat = a.toNat + 2 ^ 64 - b.toNat := by omega
  rw [atOrAfter, decide_eq_true_iff, BitVec.toNat_sub, e]

theorem toNat_stampAdd (a : Stamp) (d : Nat) : (stampAdd a d).toNat = (a.toNat + d) % 2 ^ 64 := by
  rw [stampAdd, BitVec.toNat_add, BitVec.toNat_ofNat, Nat.add_mod_mod]

theorem atOrAfter_stampAdd_self (a : Stamp) {d : Nat} (hd : d < 2 ^ 63) : atOrAfter (stampAdd a d) a = true := by
  have ha : a.toNat < 2 ^ 64 := a.isLt
  rw [atOrAfter_iff, toNat_stampAdd]
  omega

theorem atOrAfter_self_stampAdd (a : Stamp) {d : Nat} (h0 : 0 < d) (hd : d < 2 ^ 63) : atOrAfter a (stampAdd a d) = false := by
  have ha : a.toNat < 2 ^ 64 := a.isLt
  rw [← Bool.not_eq_true, atOrAfter_iff, toNat_stampAdd]
  omega

/-- Settles O20: seen from the earlier stamp the later one lies `d` ahead, and seen from the later one the earlier lies 2^64 − `d` ahead. -/
theorem stampsAreComparedModulo : Obligations.StampsAreComparedModulo := by
  unfold Obligations.StampsAreComparedModulo
  refine ⟨atOrAfter_iff, fun a d h0 hd => ⟨?_, ?_⟩⟩
  · rw [before, atOrAfter_self_stampAdd a h0 hd, Bool.not_false]
  · rw [before, atOrAfter_stampAdd_self a hd, Bool.not_true]

/-! ## The tick of an empty queue (log entry 1) -/

theorem step_of_empty {s : State} (h : s.pending = []) : step s = .next s.tick := by
  unfold step
  rw [h]

theorem step_of_cons {s : State} {c : Instr} {q : List Instr} (h : s.pending = c :: q) :
    step s = exec c { s with pending := q } := by
  unfold step
  rw [h]

theorem State.tick_of_off {s : State} (h : s.on = false) : s.tick = s := by
  rw [State.tick, h]
  exact if_neg Bool.false_ne_true

@[simp] theorem State.syncTide_aon (s : State) : s.syncTide.aon = s.aon := by
  simp only [State.syncTide, State.putb_aon, State.put_aon, State.puti_aon]

@[simp] theorem State.advance_aon (s : State) (d : Nat) : (s.advance d).aon = s.aon + d := by
  simp only [State.advance, State.syncTide_aon]

theorem State.tick_aon {s : State} (h : s.on = true) : s.tick.aon = s.aon + s.tickUnits := by
  simp only [State.tick, h, if_true, State.advance_aon]

/-- Settles O2: on an empty queue a step is a tick, which stands still while the device is off and else advances time alone. -/
theorem emptyQueuePassesATick : Obligations.EmptyQueuePassesATick := by
  unfold Obligations.EmptyQueuePassesATick
  intro s hq
  have hm : Moves (areas [.clk, .tide, .aon] ||| blocks [.tide]) s s.tick := State.tick_moves s
  exact ⟨step_of_empty hq, State.tick_of_off, fun hon => ⟨State.tick_aon hon, hm.pending.trans hq, hm⟩⟩

/-! ## What no step undoes -/

/-- A frame within the larger one that `touches` lists for a command; that it is the larger one is found by computing. -/
theorem Moves.within {m : Nat} {c : Instr} {s t : State} (h : Moves m s t)
    (hm : m ||| touches c = touches c := by dsimp only [touches]; decide) : Moves (touches c) s t :=
  h.step hm (Moves.refl _ s)

/-- The frame of every command: it changes nothing outside the areas and the blocks that `touches` lists for it. -/
theorem exec_moves {c : Instr} {s t : State} (h : exec c s = .next t) : Moves (touches c) s t := by
  cases c with
  | powerRemoved => exact (execPowerRemoved_moves _ _ h).within
  | porNAssert => exact (execPorNAssert_moves _ _ h).within
  | porNRelease => exact (execPorNRelease_moves _ _ h).within
  | supervisorTrip => exact (execSupervisorTrip_moves _ _ h).within
  | supervisorRelease => exact (execSupervisorRelease_moves _ _ h).within
  | resetNAssert => exact (execResetNAssert_moves _ _ h).within
  | resetNRelease => exact (execResetNRelease_moves _ _ h).within
  | nvmNotBusy => exact (execNvmNotBusy_moves _ _ h).within
  | strapLatch => exact (execStrapLatch_moves _ _ _ _ h).within
  | imageLoaded => exact (execImageLoaded_moves _ _ _ h).within
  | cpllFirstLock => exact (execCpllFirstLock_moves _ _ h).within
  | startupCalDone => exact (execStartupCalDone_moves _ _ _ _ _ _ h).within
  | confirmTimeout => exact (execConfirmTimeout_moves _ _ h).within
  | deviceSelfReset => exact (execDeviceSelfReset_moves _ _ h).within
  | slipOpen => exact (execSlipOpen_moves _ _ _ _ h).within
  | slipWrite => exact (execSlipWrite_moves _ _ _ _ h).within
  | slipClose => exact (execSlipClose_moves _ _ _ _ h).within
  | slipAbort => exact (execSlipAbort_moves _ _ _ _ h).within
  | slipConfirm => exact (execSlipConfirm_moves _ _ _ _ h).within
  | slipOpReserved => exact (execSlipOpReserved_moves _ _ _ _ h).within
  | slipOpComplete => exact (execSlipOpComplete_moves _ _ _ h).within
  | tallyProgramDone => exact (execTallyProgramDone_moves _ _ _ h).within
  | tallyCommitDone => exact (execTallyCommitDone_moves _ _ _ h).within
  | tallyAppendGo => exact (execTallyAppendGo_moves _ _ _ h).within
  | stateReqDryDock => exact (execStateReqDryDock_moves _ _ _ _ h).within
  | stateReqDoze => exact (execStateReqDoze_moves _ _ _ _ h).within
  | stateReqQuiet => exact (execStateReqQuiet_moves _ _ _ _ h).within
  | stateReqRun => exact (execStateReqRun_moves _ _ _ _ h).within
  | stateReqReserved => exact (execStateReqReserved_moves _ _ _ _ h).within
  | stateTransitionComplete => exact (execStateTransitionComplete_moves _ _ h).within
  | runOffWrite => exact (execRunOffWrite_moves _ _ _ _ h).within
  | avsUpdate => exact (execAvsUpdate_moves _ _ _ _ h).within
  | avsTransactionDone => exact (execAvsTransactionDone_moves _ _ _ _ h).within
  | avsCeiling => exact (execAvsCeiling_moves _ _ h).within
  | avsCeilClear => exact (execAvsCeilClear_moves _ _ h).within
  | powerEstimate => exact (execPowerEstimate_moves _ _ _ h).within
  | rxAdcSample => exact (execRxAdcSample_moves _ _ _ _ _ _ _ h).within
  | rxIngressSpaceReturn => exact (execRxIngressSpaceReturn_moves _ _ _ h).within
  | txSamplePlayout => exact (execTxSamplePlayout_moves _ _ _ _ _ h).within
  | clrCnt => exact (execClrCnt_moves _ _ _ _ h).within
  | clrMin => exact (execClrMin_moves _ _ _ _ h).within
  | refclkEdgeLoss => exact (execRefclkEdgeLoss_moves _ _ h).within
  | freqMonitorWindow => exact (execFreqMonitorWindow_moves _ _ _ _ h).within
  | holdoverExpired => exact (execHoldoverExpired_moves _ _ h).within
  | cpllUnlock => exact (execCpllUnlock_moves _ _ h).within
  | cpllLockRetry => exact (execCpllLockRetry_moves _ _ h).within
  | cpllRelock => exact (execCpllRelock_moves _ _ h).within
  | synGo => exact (execSynGo_moves _ _ _ _ _ h).within
  | synRetuneStart => exact (execSynRetuneStart_moves _ _ _ h).within
  | settleWindowEnd => exact (execSettleWindowEnd_moves _ _ _ h).within
  | synLock => exact (execSynLock_moves _ _ _ h).within
  | synUnlock => exact (execSynUnlock_moves _ _ _ h).within
  | synLockRetry => exact (execSynLockRetry_moves _ _ _ h).within
  | synRelockTimeout => exact (execSynRelockTimeout_moves _ _ _ h).within
  | swapMuteLift => exact (execSwapMuteLift_moves _ _ h).within
  | loRouteWrite => exact (execLoRouteWrite_moves _ _ _ _ h).within
  | lodistDividerReset => exact (execLodistDividerReset_moves _ _ h).within
  | resync => exact (execResync_moves _ _ _ _ h).within
  | lpllUnlock => exact (execLpllUnlock_moves _ _ _ h).within
  | lpllLockRetry => exact (execLpllLockRetry_moves _ _ _ h).within
  | lpllRelock => exact (execLpllRelock_moves _ _ _ h).within
  | sscApexApply => exact (execSscApexApply_moves _ _ _ h).within
  | agcDecision => exact (execAgcDecision_moves _ _ h).within
  | agcSuspendEnd => exact (execAgcSuspendEnd_moves _ _ h).within
  | agcCtlWrite => exact (execAgcCtlWrite_moves _ _ _ _ h).within
  | servoAverage => exact (execServoAverage_moves _ _ _ h).within
  | sliceExchange => exact (execSliceExchange_moves _ _ _ _ _ _ _ h).within
  | rxCalReq => exact (execRxCalReq_moves _ _ _ _ h).within
  | rxCalStart => exact (execRxCalStart_moves _ _ h).within
  | rxCalTimeout => exact (execRxCalTimeout_moves _ _ h).within
  | rxCalDone => exact (execRxCalDone_moves _ _ _ _ h).within
  | rxRetireWrite => exact (execRxRetireWrite_moves _ _ _ _ _ h).within
  | rxaCntClrOvr => exact (execRxaCntClrOvr_moves _ _ _ _ h).within
  | rxaCntClrAgc => exact (execRxaCntClrAgc_moves _ _ _ _ h).within
  | rxdRunWrite => exact (execRxdRunWrite_moves _ _ _ _ h).within
  | rxdCfgWrite => exact (execRxdCfgWrite_moves _ _ _ _ _ h).within
  | rxdNcoGo => exact (execRxdNcoGo_moves _ _ _ _ h).within
  | rxdNcoRetuneAt => exact (execRxdNcoRetuneAt_moves _ _ h).within
  | rxdCntClrSat => exact (execRxdCntClrSat_moves _ _ _ _ h).within
  | rxdCntClrInv => exact (execRxdCntClrInv_moves _ _ _ _ h).within
  | txdRunWrite => exact (execTxdRunWrite_moves _ _ _ _ h).within
  | txdCfgWrite => exact (execTxdCfgWrite_moves _ _ _ _ _ h).within
  | txdNcoGo => exact (execTxdNcoGo_moves _ _ _ _ h).within
  | txdNcoRetuneAt => exact (execTxdNcoRetuneAt_moves _ _ h).within
  | txGainApply => exact (execTxGainApply_moves _ _ h).within
  | txChainRestart => exact (execTxChainRestart_moves _ _ h).within
  | txaCtlWrite => exact (execTxaCtlWrite_moves _ _ _ _ h).within
  | txRetireWrite => exact (execTxRetireWrite_moves _ _ _ _ _ h).within
  | coexGntFall => exact (execCoexGntFall_moves _ _ h).within
  | coexGntRise => exact (execCoexGntRise_moves _ _ h).within
  | coexMuteLift => exact (execCoexMuteLift_moves _ _ h).within
  | txCalReq => exact (execTxCalReq_moves _ _ _ _ h).within
  | txCalStart => exact (execTxCalStart_moves _ _ h).within
  | txCalTimeout => exact (execTxCalTimeout_moves _ _ h).within
  | txCalDone => exact (execTxCalDone_moves _ _ _ _ h).within
  | readbackGo => exact (execReadbackGo_moves _ _ _ _ h).within
  | readbackDone => exact (execReadbackDone_moves _ _ _ h).within
  | txdCntClrMute => exact (execTxdCntClrMute_moves _ _ _ _ h).within
  | txdCntClrSat => exact (execTxdCntClrSat_moves _ _ _ _ h).within
  | dpdCfgWrite => exact (execDpdCfgWrite_moves _ _ _ _ _ h).within
  | dpdPctlWrite => exact (execDpdPctlWrite_moves _ _ _ _ _ h).within
  | dpdBankWrite => exact (execDpdBankWrite_moves _ _ _ _ _ _ _ _ h).within
  | dpdSwapGo => exact (execDpdSwapGo_moves _ _ _ _ h).within
  | fadeComplete => exact (execFadeComplete_moves _ _ _ h).within
  | orxSlot => exact (execOrxSlot_moves _ _ _ _ _ _ _ _ h).within
  | dpdSolveDone => exact (execDpdSolveDone_moves _ _ _ _ _ _ _ _ h).within
  | refreshFadeStart => exact (execRefreshFadeStart_moves _ _ _ h).within
  | orxSliceExchange => exact (execOrxSliceExchange_moves _ _ _ _ _ _ _ h).within
  | dpdCntClrPath => exact (execDpdCntClrPath_moves _ _ _ _ h).within
  | dpdCntClrDrop => exact (execDpdCntClrDrop_moves _ _ _ _ h).within
  | dpdCntClrActwr => exact (execDpdCntClrActwr_moves _ _ _ _ h).within
  | nop => exact (execNop_moves _ _ _ h).within
  | mac => exact (execMac_moves _ _ _ h).within
  | macc => exact (execMacc_moves _ _ _ h).within
  | msu => exact (execMsu_moves _ _ _ h).within
  | mul => exact (execMul_moves _ _ _ h).within
  | mulc => exact (execMulc_moves _ _ _ h).within
  | mag2 => exact (execMag2_moves _ _ _ h).within
  | adda => exact (execAdda_moves _ _ _ h).within
  | zero => exact (execZero_moves _ _ _ h).within
  | shra => exact (execShra_moves _ _ _ h).within
  | nr => exact (execNr_moves _ _ _ h).within
  | nrc => exact (execNrc_moves _ _ _ h).within
  | nro => exact (execNro_moves _ _ _ h).within
  | add => exact (execAdd_moves _ _ _ h).within
  | sub => exact (execSub_moves _ _ _ h).within
  | cmul => exact (execCmul_moves _ _ _ h).within
  | conj => exact (execConj_moves _ _ _ h).within
  | neg => exact (execNeg_moves _ _ _ h).within
  | movv => exact (execMovv_moves _ _ _ h).within
  | rot => exact (execRot_moves _ _ _ h).within
  | bcast => exact (execBcast_moves _ _ _ h).within
  | out => exact (execOut_moves _ _ _ h).within
  | loop => exact (execLoop_moves _ _ _ h).within
  | jmp => exact (execJmp_moves _ _ _ h).within
  | movr => exact (execMovr_moves _ _ _ h).within
  | halt => exact (execHalt_moves _ _ _ h).within
  | illegalBundle => exact (execIllegalBundle_moves _ _ _ h).within
  | unitDeal => exact (execUnitDeal_moves _ _ _ h).within
  | quayWindowWrite => exact (execQuayWindowWrite_moves _ _ _ _ _ _ h).within
  | coreRunWrite => exact (execCoreRunWrite_moves _ _ _ _ _ h).within
  | clusterCtlWrite => exact (execClusterCtlWrite_moves _ _ _ _ _ _ h).within
  | shadowTurn => exact (execShadowTurn_moves _ _ _ h).within
  | coreSwapGo => exact (execCoreSwapGo_moves _ _ _ _ _ h).within
  | coreSwapSwitch => exact (execCoreSwapSwitch_moves _ _ _ h).within
  | schedAdd => exact (execSchedAdd_moves _ _ _ _ h).within
  | schedCancel => exact (execSchedCancel_moves _ _ _ _ h).within
  | schedFlush => exact (execSchedFlush_moves _ _ _ _ h).within
  | schedOpReserved => exact (execSchedOpReserved_moves _ _ _ _ h).within
  | berthStage => exact (execBerthStage_moves _ _ _ h).within
  | berthSwitch => exact (execBerthSwitch_moves _ _ _ h).within
  | berthWindowWrite => exact (execBerthWindowWrite_moves _ _ _ _ _ _ _ h).within
  | maskApply => exact (execMaskApply_moves _ _ _ h).within
  | alignWrite => exact (execAlignWrite_moves _ _ _ _ _ _ _ h).within
  | alignApply => exact (execAlignApply_moves _ _ _ _ h).within
  | bcalReq => exact (execBcalReq_moves _ _ _ _ h).within
  | bcalStart => exact (execBcalStart_moves _ _ h).within
  | bcalTimeout => exact (execBcalTimeout_moves _ _ h).within
  | bcalDone => exact (execBcalDone_moves _ _ _ h).within
  | berthCntClrSat => exact (execBerthCntClrSat_moves _ _ _ _ h).within
  | berthCntClrRef => exact (execBerthCntClrRef_moves _ _ _ _ h).within
  | alignSetReceived => exact (execAlignSetReceived_moves _ _ _ _ _ h).within
  | signalDetect => exact (execSignalDetect_moves _ _ _ h).within
  | trainStateTimeout => exact (execTrainStateTimeout_moves _ _ _ h).within
  | trainTimeout => exact (execTrainTimeout_moves _ _ _ h).within
  | retrainStart => exact (execRetrainStart_moves _ _ _ h).within
  | dataColumnReceived => exact (execDataColumnReceived_moves _ _ _ _ h).within
  | laneSignalLoss => exact (execLaneSignalLoss_moves _ _ _ _ h).within
  | requalAttemptDone => exact (execRequalAttemptDone_moves _ _ _ _ _ h).within
  | remapStalled => exact (execRemapStalled_moves _ _ _ h).within
  | fwdClockLoss => exact (execFwdClockLoss_moves _ _ _ h).within
  | dfeAdapt => exact (execDfeAdapt_moves _ _ _ _ _ _ _ _ _ h).within
  | ctleAdapt => exact (execCtleAdapt_moves _ _ _ _ h).within
  | eyeMeasure => exact (execEyeMeasure_moves _ _ _ _ _ _ h).within
  | fhlRetrainA => exact (execFhlRetrainA_moves _ _ _ _ h).within
  | fhlRetrainB => exact (execFhlRetrainB_moves _ _ _ _ h).within
  | fhlCntClr => exact (execFhlCntClr_moves _ _ _ _ h).within
  | linkFrameRx => exact (execLinkFrameRx_moves _ _ _ _ _ _ _ _ h).within
  | txSectionRx => exact (execTxSectionRx_moves _ _ _ _ h).within
  | rxSectionForm => exact (execRxSectionForm_moves _ _ _ _ h).within
  | rxsCfgWrite => exact (execRxsCfgWrite_moves _ _ _ _ _ h).within
  | rtcBerthAdd => exact (execRtcBerthAdd_moves _ _ _ _ _ _ h).within
  | rtcBerthCancel => exact (execRtcBerthCancel_moves _ _ _ _ _ _ h).within
  | rtcBerthFlush => exact (execRtcBerthFlush_moves _ _ _ _ _ _ h).within
  | rtcGapGrant => exact (execRtcGapGrant_moves _ _ _ _ _ _ h).within
  | rtcGapRevoke => exact (execRtcGapRevoke_moves _ _ _ _ _ _ h).within
  | rtcNcoRetune => exact (execRtcNcoRetune_moves _ _ _ _ _ _ h).within
  | rtcSynRetune => exact (execRtcSynRetune_moves _ _ _ _ _ _ h).within
  | rtcUnknown => exact (execRtcUnknown_moves _ _ _ _ _ _ _ h).within
  | gapBegin => exact (execGapBegin_moves _ _ h).within
  | gapEnd => exact (execGapEnd_moves _ _ h).within
  | rmaRead => exact (execRmaRead_moves _ _ _ _ _ _ _ h).within
  | rmaWrite => exact (execRmaWrite_moves _ _ _ _ _ _ _ h).within
  | rmaWriteNoResp => exact (execRmaWriteNoResp_moves _ _ _ _ _ _ _ h).within
  | rmaResponseRx => exact (execRmaResponseRx_moves _ _ _ _ _ h).within
  | resetRequest => exact (execResetRequest_moves _ _ _ _ _ _ h).within
  | eventMsgSend => exact (execEventMsgSend_moves _ _ h).within
  | fhmCtlWrite => exact (execFhmCtlWrite_moves _ _ _ _ h).within
  | fhmCntClr => exact (execFhmCntClr_moves _ _ _ _ h).within
  | memberJoin => exact (execMemberJoin_moves _ _ _ _ _ h).within
  | ringTopoReport => exact (execRingTopoReport_moves _ _ _ _ _ _ _ h).within
  | routeSwitch => exact (execRouteSwitch_moves _ _ _ _ _ _ h).within
  | psumSectionRx => exact (execPsumSectionRx_moves _ _ _ _ h).within
  | psumTimeout => exact (execPsumTimeout_moves _ _ _ h).within
  | layerForward => exact (execLayerForward_moves _ _ _ _ _ _ h).within
  | panelSumsRx => exact (execPanelSumsRx_moves _ _ _ _ h).within
  | ringSyncGo => exact (execRingSyncGo_moves _ _ _ _ h).within
  | ringSync => exact (execRingSync_moves _ _ _ h).within
  | xcalReq => exact (execXcalReq_moves _ _ _ _ _ h).within
  | xcalStart => exact (execXcalStart_moves _ _ h).within
  | xcalDone => exact (execXcalDone_moves _ _ _ _ _ _ _ _ h).within
  | ringRetrainE => exact (execRingRetrainE_moves _ _ _ _ h).within
  | ringRetrainW => exact (execRingRetrainW_moves _ _ _ _ h).within
  | ringCntClr => exact (execRingCntClr_moves _ _ _ _ h).within
  | tideExchangeStart => exact (execTideExchangeStart_moves _ _ h).within
  | type5MessageRx => exact (execType5MessageRx_moves _ _ _ _ h).within
  | tideExchangeComplete => exact (execTideExchangeComplete_moves _ _ h).within
  | tideExchangeLost => exact (execTideExchangeLost_moves _ _ h).within
  | tideHold => exact (execTideHold_moves _ _ h).within
  | tideAck => exact (execTideAck_moves _ _ _ _ h).within
  | tideAsymWrite => exact (execTideAsymWrite_moves _ _ _ _ _ h).within
  | tideCntClr => exact (execTideCntClr_moves _ _ _ _ h).within
  | toAdd => exact (execToAdd_moves _ _ _ _ h).within
  | toFlush => exact (execToFlush_moves _ _ _ _ h).within
  | toOpReserved => exact (execToOpReserved_moves _ _ _ _ h).within
  | timedOutputEdge => exact (execTimedOutputEdge_moves _ _ _ h).within
  | tpulseModeWrite => exact (execTpulseModeWrite_moves _ _ _ _ _ h).within
  | coexActRise => exact (execCoexActRise_moves _ _ h).within
  | coexActFall => exact (execCoexActFall_moves _ _ h).within
  | edBinEnd => exact (execEdBinEnd_moves _ _ _ h).within
  | stfDetect => exact (execStfDetect_moves _ _ _ _ _ _ h).within
  | ltfSync => exact (execLtfSync_moves _ _ _ _ _ _ h).within
  | ltfTimeout => exact (execLtfTimeout_moves _ _ _ _ _ h).within
  | lsigDecode => exact (execLsigDecode_moves _ _ _ _ _ _ h).within
  | watcherBusyEnd => exact (execWatcherBusyEnd_moves _ _ _ _ _ h).within
  | lookCtlWrite => exact (execLookCtlWrite_moves _ _ _ _ h).within
  | lookCfgWrite => exact (execLookCfgWrite_moves _ _ _ _ _ h).within
  | lookCntClr => exact (execLookCntClr_moves _ _ _ _ h).within
  | biasWrite => exact (execBiasWrite_moves _ _ _ _ _ h).within
  | paCmdOn => exact (execPaCmdOn_moves _ _ _ _ h).within
  | paCmdOff => exact (execPaCmdOff_moves _ _ _ _ h).within
  | paCmdIgnored => exact (execPaCmdIgnored_moves _ _ _ _ h).within
  | paDrainWaitEnd => exact (execPaDrainWaitEnd_moves _ _ _ h).within
  | paBiasArrived => exact (execPaBiasArrived_moves _ _ _ h).within
  | feFaultDrainOff => exact (execFeFaultDrainOff_moves _ _ h).within
  | vnegFault => exact (execVnegFault_moves _ _ h).within
  | synUnlockFault => exact (execSynUnlockFault_moves _ _ h).within
  | rffeWrite => exact (execRffeWrite_moves _ _ _ _ _ h).within
  | rffeRead => exact (execRffeRead_moves _ _ _ _ _ h).within
  | rffeReg0Write => exact (execRffeReg0Write_moves _ _ _ _ _ h).within
  | rffeExtWrite => exact (execRffeExtWrite_moves _ _ _ _ _ h).within
  | rffeExtRead => exact (execRffeExtRead_moves _ _ _ _ _ h).within
  | rffeCmdUnknown => exact (execRffeCmdUnknown_moves _ _ _ _ _ h).within
  | rffeCommandStart => exact (execRffeCommandStart_moves _ _ _ h).within
  | rffeCommandDone => exact (execRffeCommandDone_moves _ _ _ _ _ h).within
  | xchkClrWrite => exact (execXchkClrWrite_moves _ _ _ _ _ h).within
  | bwBlockVerdict => exact (execBwBlockVerdict_moves _ _ h).within
  | bwGranuleDecision => exact (execBwGranuleDecision_moves _ _ h).within
  | cotExpiry => exact (execCotExpiry_moves _ _ h).within
  | lbtQuery => exact (execLbtQuery_moves _ _ h).within
  | fendCntClr => exact (execFendCntClr_moves _ _ _ _ h).within
  | bwtrCntClr => exact (execBwtrCntClr_moves _ _ _ _ h).within
  | monPassStart => exact (execMonPassStart_moves _ _ _ h).within
  | monGo => exact (execMonGo_moves _ _ _ _ _ h).within
  | monCtlWrite => exact (execMonCtlWrite_moves _ _ _ _ _ h).within
  | monSeqWrite => exact (execMonSeqWrite_moves _ _ _ _ _ _ h).within
  | monResultWrite => exact (execMonResultWrite_moves _ _ _ _ h).within
  | monInjGo => exact (execMonInjGo_moves _ _ _ _ _ h).within
  | monInjTrigger => exact (execMonInjTrigger_moves _ _ _ h).within
  | monInjStart => exact (execMonInjStart_moves _ _ _ h).within
  | monInjCtlWrite => exact (execMonInjCtlWrite_moves _ _ _ _ _ _ h).within
  | monCalGo => exact (execMonCalGo_moves _ _ _ _ _ h).within
  | monCalStart => exact (execMonCalStart_moves _ _ _ h).within
  | monCalDone => exact (execMonCalDone_moves _ _ _ _ _ h).within
  | monitorResultRead => exact (execMonitorResultRead_moves _ _ _ _ _ h).within
  | monCntClr => exact (execMonCntClr_moves _ _ _ _ h).within
  | holdRead => exact (execHoldRead_moves _ _ _ _ h).within
  | scrubRead => exact (execScrubRead_moves _ _ _ h).within
  | repairFuseBurn => exact (execRepairFuseBurn_moves _ _ h).within
  | holdReady => exact (execHoldReady_moves _ _ h).within
  | holdcCntClr => exact (execHoldcCntClr_moves _ _ _ _ h).within
  | gaugeArm => exact (execGaugeArm_moves _ _ _ _ _ h).within
  | gaugeStop => exact (execGaugeStop_moves _ _ _ _ _ h).within
  | gaugeTrig => exact (execGaugeTrig_moves _ _ _ _ _ h).within
  | gaugeCmdIgnored => exact (execGaugeCmdIgnored_moves _ _ _ _ _ h).within
  | gtrigEdge => exact (execGtrigEdge_moves _ _ _ h).within
  | gaugeTriggerDecide => exact (execGaugeTriggerDecide_moves _ _ _ h).within
  | gaugeSetWrite => exact (execGaugeSetWrite_moves _ _ _ _ h).within
  | gaugeSetDrop => exact (execGaugeSetDrop_moves _ _ _ h).within
  | deepHclr => exact (execDeepHclr_moves _ _ _ _ _ h).within
  | deepMclr => exact (execDeepMclr_moves _ _ _ _ _ h).within
  | gaugeCntClr => exact (execGaugeCntClr_moves _ _ _ _ h).within
  | replayGo => exact (execReplayGo_moves _ _ _ _ _ h).within
  | replayStop => exact (execReplayStop_moves _ _ _ _ _ h).within
  | replayStart => exact (execReplayStart_moves _ _ _ h).within
  | replayEnd => exact (execReplayEnd_moves _ _ _ h).within
  | craneGo => exact (execCraneGo_moves _ _ _ _ _ h).within
  | craneKick => exact (execCraneKick_moves _ _ _ _ _ h).within
  | cranePause => exact (execCranePause_moves _ _ _ _ _ h).within
  | craneStop => exact (execCraneStop_moves _ _ _ _ _ h).within
  | cranePaused => exact (execCranePaused_moves _ _ _ h).within
  | manifestFetch => exact (execManifestFetch_moves _ _ _ h).within
  | craneCopy => exact (execCraneCopy_moves _ _ _ _ h).within
  | craneFill => exact (execCraneFill_moves _ _ _ _ h).within
  | craneCompare => exact (execCraneCompare_moves _ _ _ _ h).within
  | craneLink => exact (execCraneLink_moves _ _ _ h).within
  | craneOpReserved => exact (execCraneOpReserved_moves _ _ _ h).within
  | manifestWriteback => exact (execManifestWriteback_moves _ _ _ h).within
  | craneAccessTimeout => exact (execCraneAccessTimeout_moves _ _ _ h).within
  | remoteAnswerTimeout => exact (execRemoteAnswerTimeout_moves _ _ _ h).within
  | craneCntClr => exact (execCraneCntClr_moves _ _ _ _ h).within
  | thermMeasureStart => exact (execThermMeasureStart_moves _ _ h).within
  | thermDemand => exact (execThermDemand_moves _ _ _ _ h).within
  | thermMeasureDone => exact (execThermMeasureDone_moves _ _ _ h).within
  | ladderEscalate => exact (execLadderEscalate_moves _ _ h).within
  | ladderDescend => exact (execLadderDescend_moves _ _ h).within
  | synClr => exact (execSynClr_moves _ _ _ _ h).within
  | pilotPolicyAction => exact (execPilotPolicyAction_moves _ _ _ _ _ h).within
  | tunerSteerTick => exact (execTunerSteerTick_moves _ _ _ _ _ _ h).within
  | sessionGo => exact (execSessionGo_moves _ _ _ _ _ h).within
  | sessionVerify => exact (execSessionVerify_moves _ _ _ _ _ h).within
  | sessionClose => exact (execSessionClose_moves _ _ _ _ _ h).within
  | sessionReqMulti => exact (execSessionReqMulti_moves _ _ _ _ _ _ h).within
  | sessionTimeout => exact (execSessionTimeout_moves _ _ _ h).within
  | lockExpiry => exact (execLockExpiry_moves _ _ _ h).within
  | lockClr => exact (execLockClr_moves _ _ _ _ h).within
  | zeroise => exact (execZeroise_moves _ _ _ _ h).within
  | fuseProgram => exact (execFuseProgram_moves _ _ _ _ h).within
  | fuseProg => exact (execFuseProg_moves _ _ _ h).within
  | pilotReady => exact (execPilotReady_moves _ _ h).within
  | pilotWatchdogExpiry => exact (execPilotWatchdogExpiry_moves _ _ h).within
  | mbxVersion => exact (execMbxVersion_moves _ _ _ _ _ _ h).within
  | mbxHealth => exact (execMbxHealth_moves _ _ _ _ _ _ h).within
  | mbxTelemSet => exact (execMbxTelemSet_moves _ _ _ _ _ _ h).within
  | mbxLogFind => exact (execMbxLogFind_moves _ _ _ _ _ _ h).within
  | mbxTune => exact (execMbxTune_moves _ _ _ _ _ _ h).within
  | mbxCalPolicy => exact (execMbxCalPolicy_moves _ _ _ _ _ _ h).within
  | mbxPolicy => exact (execMbxPolicy_moves _ _ _ _ _ _ h).within
  | mbxRetire => exact (execMbxRetire_moves _ _ _ _ _ _ h).within
  | mbxRestore => exact (execMbxRestore_moves _ _ _ _ _ _ h).within
  | mbxResolve => exact (execMbxResolve_moves _ _ _ _ _ _ h).within
  | mbxSlipway => exact (execMbxSlipway_moves _ _ _ _ _ _ h).within
  | mbxPilotReset => exact (execMbxPilotReset_moves _ _ _ _ _ _ h).within
  | mbxUnknown => exact (execMbxUnknown_moves _ _ _ _ _ _ _ h).within
  | mbxResponseComplete => exact (execMbxResponseComplete_moves _ _ _ _ h).within
  | telemSnapshot => exact (execTelemSnapshot_moves _ _ h).within
  | dbgReqOff => exact (execDbgReqOff_moves _ _ _ _ h).within
  | dbgReqObserve => exact (execDbgReqObserve_moves _ _ _ _ h).within
  | dbgReqIntrusive => exact (execDbgReqIntrusive_moves _ _ _ _ h).within
  | dbgIntrusiveEnter => exact (execDbgIntrusiveEnter_moves _ _ h).within
  | trstNAssert => exact (execTrstNAssert_moves _ _ h).within
  | jtagBypass => exact (execJtagBypass_moves _ _ _ h).within
  | jtagIdcode => exact (execJtagIdcode_moves _ _ _ h).within
  | jtagSamplePreload => exact (execJtagSamplePreload_moves _ _ _ h).within
  | jtagExtest => exact (execJtagExtest_moves _ _ _ h).within
  | jtagDbgRead => exact (execJtagDbgRead_moves _ _ _ _ h).within
  | jtagTrace => exact (execJtagTrace_moves _ _ _ h).within
  | jtagDbgWrite => exact (execJtagDbgWrite_moves _ _ _ _ _ h).within
  | jtagPilotHalt => exact (execJtagPilotHalt_moves _ _ _ h).within
  | jtagPilotStep => exact (execJtagPilotStep_moves _ _ _ h).within
  | jtagScan => exact (execJtagScan_moves _ _ _ h).within
  | spiRead => exact (execSpiRead_moves _ _ _ _ _ h).within
  | spiWrite => exact (execSpiWrite_moves _ _ _ _ h).within
  | spiTransactionIgnored => exact (execSpiTransactionIgnored_moves _ _ _ _ _ h).within
  | spiCsAbort => exact (execSpiCsAbort_moves _ _ _ _ h).within
  | registerWrite => exact (execRegisterWrite_moves _ _ _ _ _ h).within
  | evtW1cWrite => exact (execEvtW1cWrite_moves _ _ _ _ _ h).within
  | loHiPairRead => exact (execLoHiPairRead_moves _ _ _ _ _ h).within
  | rxaCtlWrite => exact (execRxaCtlWrite_moves _ _ _ _ h).within
  | alignSetMissing => exact (execAlignSetMissing_moves _ _ _ h).within
  | vnegRestored => exact (execVnegRestored_moves _ _ h).within
  | tallyEraseDone => exact (execTallyEraseDone_moves _ _ _ h).within
  | trstNRelease => exact (execTrstNRelease_moves _ _ h).within

/-- Settles O8: a tick and every command keep `Moves`, whose monotone parts hold whatever areas they touch. -/
theorem stepsUndoNothing : Obligations.StepsUndoNothing := by
  unfold Obligations.StepsUndoNothing
  intro s t h
  cases hq : s.pending with
  | nil =>
    rw [step_of_empty hq] at h
    cases h
    have hm := State.tick_moves s
    exact ⟨hm.part, hm.time, hm.sent, hm.draws, hm.pending.trans hq⟩
  | cons c q =>
    rw [step_of_cons hq] at h
    have hm := exec_moves h
    exact ⟨hm.part, hm.time, hm.sent, hm.draws, hm.pending⟩

/-! ## Absent addresses (R3, R10, R468) -/

/-- Which windows there are depends on the part alone, and a noted access leaves the part. -/
@[simp] theorem State.touch_window (s : State) (src : Source) (a : Nat) : (s.touch src).window a = s.window a := by
  cases src with
  | port p => rfl
  | pilot => rfl
  | crane ch => rfl
  | jtag => rfl

@[simp] theorem State.touch_regAbsent (s : State) (src : Source) (a : Nat) : (s.touch src).regAbsent a = s.regAbsent a := by
  cases src with
  | port p => rfl
  | pilot => rfl
  | crane ch => rfl
  | jtag => rfl

/-- A write outside the windows, to no register or to one that the part lacks, is ignored; the access is noted for its session. -/
theorem State.busWrite_absent {s : State} {a : Nat} (src : Source) (w : Word) (ha : a % 4 = 0) (hw : s.window a = 0)
    (hr : findReg a = none ∨ s.regAbsent a = true) : s.busWrite src a w = s.touch src := by
  have ea : a / 4 * 4 = a := by omega
  unfold State.busWrite
  simp only [ea, State.touch_window, hw, State.touch_regAbsent]
  rw [if_neg (not_not_intro rfl)]
  split
  · rfl
  next r e => exact if_pos (.inl (hr.resolve_left (by simp [e])))

/-- A read there returns 0, and is noted in the same way. -/
theorem State.busRead_absent {s : State} {a : Nat} (src : Source) (ha : a % 4 = 0) (hw : s.window a = 0)
    (hr : findReg a = none ∨ s.regAbsent a = true) : s.busRead src a = (0, s.touch src) := by
  have ea : a / 4 * 4 = a := by omega
  unfold State.busRead
  simp only [ea, State.touch_window, hw, State.touch_regAbsent]
  rw [if_neg (not_not_intro rfl)]
  split
  · rfl
  next r e => exact if_pos (.inl (hr.resolve_left (by simp [e])))

/-- Settles O13: an access to an absent address ends where the address is decoded, before any level is asked for. -/
theorem absentAddressesReadZeroAndIgnoreWrites : Obligations.AbsentAddressesReadZeroAndIgnoreWrites := by
  unfold Obligations.AbsentAddressesReadZeroAndIgnoreWrites
  intro s src a w hon ha hw hr
  exact ⟨by rw [on_registerWrite hon, State.busWrite_absent src w ha hw hr], State.busRead_absent src ha hw hr⟩

end Sys2Proof.Machine

/-! Proofs of the statements of family 01_architecture.md: the slip counters, and converter samples at the clocked crossings. -/

namespace Sys2Proof.Machine

/-! ## Saturating counters (R23) -/

theorem satInc_le (top n : Nat) : satInc top n ≤ top := by
  unfold satInc
  split <;> omega

theorem satInc_of_le {top n : Nat} (h : n ≤ top) : satInc top n = if n = top then top else n + 1 := by
  unfold satInc
  by_cases e : n = top
  · rw [if_neg (by omega), if_pos e]
  · rw [if_pos (by omega), if_neg e]

/-- A counter field reads what the saturating increment gives, since that still fits its width. -/
theorem State.get_inc_same (s : State) {f : Field} (h : f.fits = true) :
    (s.inc f).get f = satInc (2 ^ f.width - 1) (s.get f) := by
  have hlt : satInc (2 ^ f.width - 1) (s.get f) < 2 ^ f.width :=
    Nat.lt_of_le_of_lt (satInc_le _ _) (Nat.sub_lt (Nat.two_pow_pos _) Nat.one_pos)
  rw [State.inc_eq, State.get_put_same _ _ _ h, Nat.mod_eq_of_lt hlt]

theorem State.slip_get (s : State) (m : Nat) :
    (s.slip m).get (F.TOP_SLIP_CNT_COUNT m) =
      if s.get (F.TOP_SLIP_CNT_COUNT m) = 0xFFFFFFFF then 0xFFFFFFFF else s.get (F.TOP_SLIP_CNT_COUNT m) + 1 := by
  have hle : s.get (F.TOP_SLIP_CNT_COUNT m) ≤ 0xFFFFFFFF := Nat.le_of_lt_succ (s.get_lt _)
  rw [State.slip, State.get_inc_same s rfl]
  exact satInc_of_le hle

/-! ## A write of DRIFT_CTL with CLR_CNT set -/

/-- What the update of one index brings about, and every later one keeps, holds after all of them. -/
theorem State.each_reaches {α : Type} {P : State → Prop} {g : State → α → State} {l : List α} {a : α} (s : State)
    (ha : a ∈ l) (hset : ∀ u, P (g u a)) (hkeep : ∀ u x, P u → P (g u x)) : P (s.each l g) := by
  obtain ⟨l₁, l₂, rfl⟩ := List.append_of_mem ha
  rw [State.each, List.foldl_append, List.foldl_cons]
  exact List.foldlRecOn l₂ g (hset _) fun u hu x _ => hkeep u x hu

theorem State.each_keeps {α : Type} {P : State → Prop} {g : State → α → State} (s : State) (l : List α)
    (h : P s) (hkeep : ∀ u x, P u → P (g u x)) : P (s.each l g) :=
  List.foldlRecOn l g h fun u hu x _ => hkeep u x hu

/-- Clearing a slip counter, be it the same or another, keeps a cleared one clear. -/
theorem State.slipCount_clear_keeps {s : State} {m : Nat} (j : Nat) (h : s.get (F.TOP_SLIP_CNT_COUNT m) = 0) :
    (s.put (F.TOP_SLIP_CNT_COUNT j) 0).get (F.TOP_SLIP_CNT_COUNT m) = 0 := by
  by_cases e : j % 8 = m % 8
  · have hf : F.TOP_SLIP_CNT_COUNT j = F.TOP_SLIP_CNT_COUNT m := by simp only [F.TOP_SLIP_CNT_COUNT, e]
    rw [hf, State.get_put_same _ _ _ rfl, Nat.zero_mod]
  · rw [State.get_put_ne _ _ (by simp only [F.TOP_SLIP_CNT_COUNT]; omega), h]

theorem State.slipCount_put_minNs (s : State) (j v m : Nat) :
    (s.put (F.TOP_DRIFT_MIN_NS j) v).get (F.TOP_SLIP_CNT_COUNT m) = s.get (F.TOP_SLIP_CNT_COUNT m) :=
  State.get_put_ne _ _ (by simp only [F.TOP_SLIP_CNT_COUNT, F.TOP_DRIFT_MIN_NS]; omega)

theorem slipCount_still (m : Nat) : (F.TOP_SLIP_CNT_COUNT m).still = true := by
  have hall : ∀ r < 8, (F.TOP_SLIP_CNT_COUNT r).still = true := by decide
  have hm : F.TOP_SLIP_CNT_COUNT (m % 8) = F.TOP_SLIP_CNT_COUNT m := by
    simp only [F.TOP_SLIP_CNT_COUNT, Nat.mod_mod]
  rw [← hm]
  exact hall _ (Nat.mod_lt m (by decide))

/-- The write clears the counters whatever its bit CLR_MIN says, as MIN_NS stands in other words. -/
theorem State.driftWrite_clears {s : State} {src : Source} {w : Word} {m : Nat} (hm : m < 8)
    (ho : s.opens src F.TOP_DRIFT_CTL_LOW_NS.addr w = true) (hc : bitAt w.toNat 17 = true) :
    (s.busWrite src F.TOP_DRIFT_CTL_LOW_NS.addr w).get (F.TOP_SLIP_CNT_COUNT m) = 0 := by
  rw [drift_write rfl ho _ rfl, State.iff_of hc]
  generalize hu : State.each _ (List.range 8) (fun y m => y.put (F.TOP_SLIP_CNT_COUNT m) 0) = u
  have hclear : u.get (F.TOP_SLIP_CNT_COUNT m) = 0 := by
    rw [← hu]
    exact State.each_reaches (P := fun x => x.get (F.TOP_SLIP_CNT_COUNT m) = 0) _ (List.mem_range.mpr hm)
      (fun _ => State.get_put_same _ _ _ rfl) (fun _ j h => State.slipCount_clear_keeps j h)
  cases hb : bitAt w.toNat 16 with
  | false => rwa [State.iff_not rfl]
  | true =>
    rw [State.iff_of rfl]
    exact State.each_keeps (P := fun x => x.get (F.TOP_SLIP_CNT_COUNT m) = 0) u _ hclear
      (fun x j h => (x.slipCount_put_minNs j _ m).trans h)

/-- Settles O19: a slip is a saturating increment of a field as wide as its word, and CLR_CNT puts 0 into each of the eight counters,
which what follows the command leaves alone. -/
theorem slipCountersHoldAtTheirGreatest : Obligations.SlipCountersHoldAtTheirGreatest := by
  unfold Obligations.SlipCountersHoldAtTheirGreatest
  refine ⟨fun s m _ => s.slip_get m, fun s src v m hon ho hm => ⟨_, on_clrCnt hon src v, ?_⟩⟩
  rw [State.follow_keeps _ _ (slipCount_still m)]
  exact State.driftWrite_clears hm ho (bitAt_fixBit v (by decide))

/-! ## Converter samples at the clocked crossings (R17 to R19, R22, R107) -/

/-- Settles O33, clause by clause from what each command does where it takes effect. -/
theorem convertersAndCrossings : Obligations.ConvertersAndCrossings := by
  unfold Obligations.ConvertersAndCrossings
  refine ⟨?rxAdcSample, ?rxIngressSpaceReturn, ?txSamplePlayout, ?clrCnt, ?clrMin⟩
  case rxAdcSample =>
    intro s p re im ovr fill t l hon hconv hr
    exact does_rxAdcSample hon p re im ovr fill hconv hr
  case rxIngressSpaceReturn =>
    intro s p t l hon hr
    exact does_rxIngressSpaceReturn hon p hr
  case txSamplePlayout =>
    intro s p late fill hon hconv
    exact does_txSamplePlayout hon p late fill hconv
  case clrCnt =>
    intro s src v t u w hon ht hw ho hu hmin
    exact does_clrCnt hon src v ht hw ho hu hmin
  case clrMin =>
    intro s src v t u w hon ht hw ho hu hcnt
    exact does_clrMin hon src v ht hw ho hu hcnt

end Sys2Proof.Machine

/-! Proofs of the statements of family 02_package_and_pins.md: commands while the device is off or in reset, and what RESET_N keeps. -/

namespace Sys2Proof.Machine

/-! ## Commands while the device is off or in reset (R35, R36; log entry 20) -/

theorem acting_off {s : State} {f : State → State} (h : s.on = false) : acting s f = .next s := by
  rw [acting, h]
  exact congrArg Host.Outcome.next (if_neg Bool.false_ne_true)

/-- The commands that act whether or not the device is on: those of the supply, the reset inputs and TRST_N. -/
def actsInReset : List Instr :=
  [.powerRemoved, .porNAssert, .porNRelease, .supervisorTrip, .supervisorRelease, .resetNAssert, .resetNRelease, .trstNAssert,
    .trstNRelease]

/-- Every other command has its meaning under the guard of `acting`. -/
theorem exec_eq_acting {c : Instr} (hc : c ∉ actsInReset) (s : State) : ∃ f : State → State, exec c s = acting s f := by
  cases c with
  | powerRemoved | porNAssert | porNRelease | supervisorTrip | supervisorRelease | resetNAssert | resetNRelease | trstNAssert
  | trstNRelease => exact absurd (by simp [actsInReset]) hc
  | _ =>
    dsimp only [exec]
    exact ⟨_, rfl⟩

/-- Settles O7: a command outside the list acts only under the guard, which leaves the state of a device that is not on. -/
theorem deviceInResetIgnoresCommands : Obligations.DeviceInResetIgnoresCommands := by
  unfold Obligations.DeviceInResetIgnoresCommands
  intro c s hoff hc
  obtain ⟨f, hf⟩ := exec_eq_acting hc s
  rw [hf, acting_off hoff]

/-! ## What RESET_N keeps (R35, R36, R97, R475) -/

theorem retained_fits : ∀ f ∈ retained, f.fits = true := by decide

/-- No two retained fields share a bit, so that putting one back leaves those put back before it. -/
theorem retained_apart : ∀ g ∈ retained, ∀ f ∈ retained, f = g ∨ f.apart g = true := by decide

/-- The pins of coexistence, which are read anew after a reset, show in a word without retained fields. -/
theorem retained_addr_ne_coexStat : ∀ f ∈ retained, f.addr ≠ F.FEND_COEX_STAT_REQ.addr := by decide

theorem State.rstReset_get_retained (s : State) {f : Field} (hf : f ∈ retained) : s.rstReset.get f = s.get f :=
  s.rst_retains hf (retained_fits f hf) (fun g hg => (retained_apart f hf g hg).imp_right (.intro (retained_fits g hg)))
    (retained_addr_ne_coexStat f hf)

theorem State.on_of_rst {s : State} (h : s.power.rst = true) : s.on = false := by
  simp [State.on, h]

/-- Settles O10: the reset puts each retained field back into a cleared register file, and its frame leaves flash and fuses out. -/
theorem resetNKeepsClassP : Obligations.ResetNKeepsClassP := by
  unfold Obligations.ResetNKeepsClassP
  intro s hoff hpor hsup
  have he := does_resetNAssert s hoff hpor hsup
  rw [State.upd_power] at he
  have hm := execResetNAssert_moves _ _ he
  exact ⟨_, he, State.on_of_rst rfl, hm.flash (by decide), hm.fuses (by decide),
    fun f hf => (State.with_power_get _ _ f).trans (s.rstReset_get_retained hf)⟩

end Sys2Proof.Machine

/-! Proofs of the statements of family 03_power_and_states.md: the power states, and the scaling of the supply. -/

namespace Sys2Proof.Machine

/-! ## Power state requests, transitions and RUN_OFF (R50, R52, R54 to R56) -/

/-- Settles O29, clause by clause from what each command does where it takes effect: a request is decided by `State.powerRequest` on
the code written, a transition ends by `State.transComplete`, and a write of RUN_OFF goes by whether it would put both bricks off. -/
theorem powerStates : Obligations.PowerStates := by
  unfold Obligations.PowerStates
  refine ⟨?dryDock, ?doze, ?quiet, ?run, ?held, ?refused, ?reserved, ?completes, ?interlock, ?brickStays, ?bricksOff⟩
  case dryDock =>
    intro s src v t w hon ht hw ho hmet hidle hcur
    exact does_stateReqDryDock hon src v ht hw ho hmet hidle hcur
  case doze =>
    intro s src v t w hon ht hw ho hmet hidle hcur
    exact does_stateReqDoze hon src v ht hw ho hmet hidle hcur
  case quiet =>
    intro s src v t w hon ht hw ho hmet hidle hcur
    exact does_stateReqQuiet hon src v ht hw ho hmet hidle hcur
  case run =>
    intro s src v t w hon ht hw ho hmet hidle hcur
    exact does_stateReqRun hon src v ht hw ho hmet hidle hcur
  case held =>
    intro s src v t w hon ht hw ho hmet hbusy
    exact holds_stateReqRun hon src v ht hw ho hmet hbusy
  case refused =>
    intro s src v t w hon ht hw ho hbad
    exact refuses_stateReqRun hon src v ht hw ho hbad
  case reserved =>
    intro s src v t w hon ht hw ho
    exact does_stateReqReserved hon src v ht hw ho
  case completes =>
    intro s target brick cause hon htrans hoff hready hclear
    exact does_stateTransitionComplete hon htrans hoff hready hclear
  case interlock =>
    intro s brick cause hon htrans hoff hmon hdrain
    exact refuses_stateTransitionComplete hon htrans hoff hmon hdrain
  case brickStays =>
    intro s src v t hon ht ho hstays
    exact does_runOffWrite hon src v ht ho hstays
  case bricksOff =>
    intro s src v t hon ht ho hboth
    exact refuses_runOffWrite hon src v ht ho hboth

/-! ## The AVS loop, the power estimate and the surge budget (R57 to R59, R61, R62) -/

/-- Settles O30 in the same way: an update of the loop goes by the least slack of the active meters, an answer by the warning and by
the count of those missing, and a ceiling by the time since when it stands or has recovered. -/
theorem supplyScaling : Obligations.SupplyScaling := by
  unfold Obligations.SupplyScaling
  refine ⟨?loopRuns, ?noMeter, ?answered, ?thirdMissing, ?warned, ?ceiling, ?recovered, ?estimate⟩
  case loopRuns =>
    intro s slacks paces u slack pace target calm hon hu hgo hidle hslack hpace hnext
    exact does_avsUpdate hon slacks paces hu hgo hidle hslack hpace hnext
  case noMeter =>
    intro s slacks paces u hon hu hgo hidle hslack
    exact does_avsUpdate_idle hon slacks paces hu hgo hidle hslack
  case answered =>
    intro s hon hgo hcalm
    exact does_avsTransactionDone hon hgo hcalm
  case thirdMissing =>
    intro s warning hon hgo htwo
    exact does_avsTransactionDone_none hon warning hgo htwo
  case warned =>
    intro s hon hgo hcalm
    exact does_avsTransactionDone_warns hon hgo hcalm
  case ceiling =>
    intro s a hon hsince hceil
    exact does_avsCeiling hon hsince hceil
  case recovered =>
    intro s a hon hsince hceil
    exact does_avsCeilClear hon hsince hceil
  case estimate =>
    intro s mw hon
    exact does_powerEstimate hon mw

end Sys2Proof.Machine

/-! Proofs of the statements of family 04_clocks_and_synthesisers.md: the reference and the CPLL, and the synthesisers, the LO routing
and the link PLLs. -/

namespace Sys2Proof.Machine

/-! ## The reference, holdover, bypass and relock (R67 to R71, R73) -/

/-- Settles O31, clause by clause from what each command does where it takes effect: a lost reference goes by HO_LIMIT_S, a window of
the frequency monitor by how many good ones came before it, and the CPLL's own commands by its mode. -/
theorem referenceAndCpll : Obligations.ReferenceAndCpll := by
  unfold Obligations.ReferenceAndCpll
  refine ⟨?holdover, ?noHoldover, ?goodWindow, ?qualified, ?expired, ?unlock, ?retry, ?relock⟩
  case holdover =>
    intro s t hon ht hmode hlimit
    exact does_refclkEdgeLoss hon ht hmode hlimit
  case noHoldover =>
    intro s t hon ht hmode hlimit
    exact does_refclkEdgeLoss_limit hon ht hmode hlimit
  case goodWindow =>
    intro s d phi n t hon hgood hn ht hstays
    exact does_freqMonitorWindow hon d phi hgood hn ht hstays
  case qualified =>
    intro s d phi half t u hon hgood hnine ht hunqualified hu hhalf hmode
    exact does_freqMonitorWindow_buildOut hon d phi hgood hnine ht hunqualified hu hhalf hmode
  case expired =>
    intro s a hon hsince
    exact does_holdoverExpired hon hsince
  case unlock =>
    intro s hon hup hruns
    exact does_cpllUnlock hon hup hruns
  case retry =>
    intro s hon hup href hmode
    exact does_cpllLockRetry hon hup href hmode
  case relock =>
    intro s a hon hsince hmode
    exact does_cpllRelock hon hsince hmode

/-! ## Synthesisers, LO routing, divider resets and link PLLs (R75 to R82, R84, R85, R437; log entries 2, 25, 39) -/

/-- Settles O32 in the same way: GO is decided by `synOk` and by the arming bit, a settle window by lock at its end, a route by
whether SPLIT would put both directions on one synthesiser, and RESYNC by the power state. -/
theorem synthesisersAndLinkPlls : Obligations.SynthesisersAndLinkPlls := by
  unfold Obligations.SynthesisersAndLinkPlls
  refine ⟨?retuneNow, ?retuneArmed, ?retuneRefused, ?retuneStarts, ?settledLocked, ?settledUnlocked, ?synLocks, ?synUnlocks, ?synRetries,
    ?synFails, ?muteLifts, ?routed, ?routeRefused, ?dividersReset, ?resynced, ?resyncRefused, ?linkUnlocks, ?linkRetries, ?linkRelocks,
    ?spread⟩
  case retuneNow =>
    intro s src n v t w nn div ts hon hw ho ht hnn hdiv hnow hok hts hsettled
    exact does_synGo hon src n v hw ho ht hnn hdiv hnow hok hts hsettled
  case retuneArmed =>
    intro s src n v t w nn div ts at_ hon hw ho ht hnn hdiv hat harm hok hts hsettled
    exact arms_synGo hon src n v hw ho ht hnn hdiv hat harm hok hts hsettled
  case retuneRefused =>
    intro s src n v t w hon hw ho ht hbad
    exact refuses_synGo hon src n v hw ho ht hbad
  case retuneStarts =>
    intro s n hon harmed
    exact does_synRetuneStart hon n harmed
  case settledLocked =>
    intro s n e t u hon hend ht hu hlock
    exact does_settleWindowEnd hon n hend ht hu hlock
  case settledUnlocked =>
    intro s n e t u hon hend ht hu hlock
    exact does_settleWindowEnd_lost hon n hend ht hu hlock
  case synLocks =>
    intro s n x band ms t u v w hon hup hlock hruns hx hdraw hms hu hv hw
    exact does_synLock hon n hup hlock hruns hx hdraw hms hu hv hw
  case synUnlocks =>
    intro s n hon hup hlock hsettle hruns
    exact does_synUnlock hon n hup hlock hsettle hruns
  case synRetries =>
    intro s n hon hup hlock hsettle hruns
    exact does_synLockRetry hon n hup hlock hsettle hruns
  case synFails =>
    intro s n a t hon hsince ht hfailed
    exact does_synRelockTimeout hon n hsince ht hfailed
  case muteLifts =>
    intro s m t hon hswap ht
    exact does_swapMuteLift hon hswap ht
  case routed =>
    intro s src v t u dirs newRx hon ht ho hrx hsplit hsound hdirs hu
    exact does_loRouteWrite hon src v ht ho hrx hsplit hsound hdirs hu
  case routeRefused =>
    intro s src v t hon ht ho hsplit
    exact refuses_loRouteWrite hon src v ht ho hsplit
  case dividersReset =>
    intro s a t hon hreset ht
    exact does_lodistDividerReset hon hreset ht
  case resynced =>
    intro s src v t hon ht ho hquiet
    exact does_resync hon src v ht ho hquiet
  case resyncRefused =>
    intro s src v t hon ht ho hquiet
    exact refuses_resync hon src v ht ho hquiet
  case linkUnlocks =>
    intro s b t hon hup hmode ht
    exact does_lpllUnlock hon b hup hmode ht
  case linkRetries =>
    intro s b hon hup hmode hruns hmini
    exact does_lpllLockRetry hon b hup hmode hruns hmini
  case linkRelocks =>
    intro s b a t hon hsince ht
    exact does_lpllRelock hon b hsince ht
  case spread =>
    intro s b mode d f w hon hmode hdepth hfreq hw
    exact does_sscApexApply hon b hmode hdepth hfreq hw

end Sys2Proof.Machine

/-! Proofs of the statements of family 05_startup_and_configuration.md: flash images and fuses, writes by the types of the field tables,
the record of events, and Slipway and Tally. -/

namespace Sys2Proof.Machine

/-! ## What may change flash and fuses (R98, R379, R458, R466) -/

/-- The flash images lie outside the frame of every command but Slipway's completion and a response of Pilot, under which the operation
of a mailbox command completes. -/
theorem touches_flash_iff (c : Instr) :
    (touches c).testBit Area.flash.bit = true ↔ (∃ r, c = .slipOpComplete r) ∨ ∃ p f, c = .mbxResponseComplete p f := by
  cases c with
  | slipOpComplete r => exact iff_of_true (by dsimp only [touches]; decide) (.inl ⟨r, rfl⟩)
  | mbxResponseComplete p f => exact iff_of_true (by dsimp only [touches]; decide) (.inr ⟨p, f, rfl⟩)
  | _ => exact iff_of_false (by dsimp only [touches]; decide) (by simp)

/-- The fuses lie outside the frame of every command but the two burns. -/
theorem touches_fuses_iff (c : Instr) :
    (touches c).testBit Area.fuses.bit = true ↔ (∃ ok, c = .fuseProg ok) ∨ c = .repairFuseBurn := by
  cases c with
  | fuseProg ok => exact iff_of_true (by dsimp only [touches]; decide) (.inl ⟨ok, rfl⟩)
  | repairFuseBurn => exact iff_of_true (by dsimp only [touches]; decide) (.inr rfl)
  | _ => exact iff_of_false (by dsimp only [touches]; decide) (by simp)

/-- Settles O9: a store that changes lies within the frame of its command, and the frames that hold it are those of the commands named. -/
theorem flashAndFusesChangeOnlyByTheirCommands : Obligations.FlashAndFusesChangeOnlyByTheirCommands := by
  unfold Obligations.FlashAndFusesChangeOnlyByTheirCommands
  intro c s t h
  have hm := exec_moves h
  constructor
  · intro hne
    exact (touches_flash_iff c).mp (Bool.of_not_eq_false fun e => hne (hm.flash e))
  · intro hne
    exact (touches_fuses_iff c).mp (Bool.of_not_eq_false fun e => hne (hm.fuses e))

/-! ## The layout of the register catalogue -/

/-- The fields of a register lie within its word, each below the one before it. -/
def RegRow.laidOut (r : RegRow) : Bool :=
  decide (∀ f ∈ r.fields, f.lo ≤ f.hi ∧ f.hi < 32) && decide (r.fields.Pairwise fun f g => g.hi < f.lo)

theorem catalogueOf_laidOut : ∀ n < 27, ∀ r ∈ catalogueOf n, r.laidOut = true := by decide +kernel

theorem findReg_laidOut {a : Nat} {r : RegRow} (h : findReg a = some r) : r.laidOut = true := by
  have hn : a / 0x10000 < 27 := by
    refine Nat.lt_of_not_le fun hn => ?_
    rw [findReg_high hn] at h
    cases h
  exact catalogueOf_laidOut _ hn r (List.mem_of_find?_eq_some h)

/-- Two rows of a field table share no bit. -/
def FieldRow.apart (f g : FieldRow) : Prop := f.hi < g.lo ∨ g.hi < f.lo

theorem RegRow.laidOut_iff {r : RegRow} :
    r.laidOut = true ↔ (∀ f ∈ r.fields, f.lo ≤ f.hi ∧ f.hi < 32) ∧ r.fields.Pairwise fun f g => g.hi < f.lo := by
  rw [RegRow.laidOut, Bool.and_eq_true, decide_eq_true_iff, decide_eq_true_iff]

/-! ## Words written field by field (R91) -/

theorem maskDiff_lt {x y n : Nat} (hx : x < 2 ^ n) : maskDiff x y < 2 ^ n :=
  Nat.xor_lt_two_pow hx (Nat.lt_of_le_of_lt Nat.and_le_left hx)

/-- What a field of value `x` holds after the word `v` is written, where `ok` admits it: its bits of the word, its old bits less those
written 1, or its old bits, by its type. -/
def FieldRow.written (ok : FieldRow → Bool) (v : Nat) (f : FieldRow) (x : Nat) : Nat :=
  if ok f = false then x
  else match f.kind with
    | .rw => f.bits v
    | .rwl => f.bits v
    | .w1c => maskDiff x (f.bits v)
    | _ => x

/-- One field of a word as a write of `v` leaves it, the rest of the word as it was. -/
def FieldRow.mergeInto (ok : FieldRow → Bool) (v acc : Nat) (f : FieldRow) : Nat :=
  setBitsAt acc f.lo (f.hi - f.lo + 1) (f.written ok v (f.bits acc))

theorem FieldRow.bits_lt (f : FieldRow) (v : Nat) : f.bits v < 2 ^ (f.hi - f.lo + 1) := Nat.mod_lt _ (Nat.two_pow_pos _)

theorem FieldRow.written_lt {ok : FieldRow → Bool} {v x : Nat} {f : FieldRow} (hx : x < 2 ^ (f.hi - f.lo + 1)) :
    f.written ok v x < 2 ^ (f.hi - f.lo + 1) := by
  unfold FieldRow.written
  split
  · exact hx
  · split
    · exact f.bits_lt v
    · exact f.bits_lt v
    · exact maskDiff_lt hx
    · exact hx

theorem setBitsAt_bitsAt (x lo w : Nat) : setBitsAt x lo w (bitsAt x lo w) = x := by
  unfold setBitsAt bitsAt
  have hhi : x / 2 ^ lo = 2 ^ w * (x / 2 ^ (lo + w)) + x / 2 ^ lo % 2 ^ w := by
    rw [Nat.pow_add, ← Nat.div_div_eq_div_mul, Nat.div_add_mod]
  calc
    x / 2 ^ (lo + w) * 2 ^ (lo + w) + x / 2 ^ lo % 2 ^ w % 2 ^ w * 2 ^ lo + x % 2 ^ lo
        = 2 ^ lo * (2 ^ w * (x / 2 ^ (lo + w)) + x / 2 ^ lo % 2 ^ w) + x % 2 ^ lo := by
      rw [Nat.mod_mod, Nat.pow_add, Nat.mul_comm (x / _), Nat.mul_assoc, Nat.mul_comm (_ % _), ← Nat.mul_add]
    _ = 2 ^ lo * (x / 2 ^ lo) + x % 2 ^ lo := by rw [← hhi]
    _ = x := Nat.div_add_mod x (2 ^ lo)

theorem RegRow.merge_eq_foldl (r : RegRow) (ok : FieldRow → Bool) (old v : Nat) :
    r.merge ok old v = r.fields.foldl (FieldRow.mergeInto ok v) old := by
  unfold RegRow.merge
  congr 1
  funext acc f
  unfold FieldRow.mergeInto FieldRow.written
  by_cases hok : ok f = false
  · rw [if_pos hok, if_pos hok, FieldRow.bits, setBitsAt_bitsAt]
  · rw [if_neg hok, if_neg hok]
    cases f.kind with
    | rw | rwl | w1c => rfl
    | ro | w1s | wo | wh => exact (setBitsAt_bitsAt acc f.lo _).symm

variable {ok : FieldRow → Bool} {v acc : Nat}

theorem FieldRow.bits_mergeInto_same (f : FieldRow) : f.bits (f.mergeInto ok v acc) = f.written ok v (f.bits acc) := by
  rw [FieldRow.mergeInto, FieldRow.bits, bitsAt_setBitsAt, Nat.mod_eq_of_lt (FieldRow.written_lt (f.bits_lt acc))]

theorem FieldRow.bits_mergeInto_apart {f g : FieldRow} (hf : f.lo ≤ f.hi) (hg : g.lo ≤ g.hi) (h : f.apart g) :
    f.bits (g.mergeInto ok v acc) = f.bits acc := by
  rcases h with h | h
  · exact bitsAt_setBitsAt_lo (by omega)
  · exact bitsAt_setBitsAt_hi (by omega)

theorem FieldRow.mergeInto_lt {f : FieldRow} (hf : f.lo ≤ f.hi) (hhi : f.hi < 32) (hacc : acc < 2 ^ 32) :
    f.mergeInto ok v acc < 2 ^ 32 :=
  setBitsAt_lt (by omega) hacc

theorem foldl_mergeInto_lt {l : List FieldRow} (hl : ∀ f ∈ l, f.lo ≤ f.hi ∧ f.hi < 32) (hacc : acc < 2 ^ 32) :
    l.foldl (FieldRow.mergeInto ok v) acc < 2 ^ 32 :=
  List.foldlRecOn (motive := (· < 2 ^ 32)) l _ hacc fun _ ha f hf => FieldRow.mergeInto_lt (hl f hf).1 (hl f hf).2 ha

/-- Writing fields that share no bit with `f` leaves `f`. -/
theorem FieldRow.bits_foldl_apart {f : FieldRow} {l : List FieldRow} (hf : f.lo ≤ f.hi)
    (hl : ∀ g ∈ l, g.lo ≤ g.hi ∧ f.apart g) : f.bits (l.foldl (FieldRow.mergeInto ok v) acc) = f.bits acc :=
  List.foldlRecOn (motive := fun b => f.bits b = f.bits acc) l _ rfl fun _ hb g hg =>
    (FieldRow.bits_mergeInto_apart hf (hl g hg).1 (hl g hg).2).trans hb

/-- Each field of a table is written once, the others leaving it as it was. -/
theorem FieldRow.bits_foldl_mem {l : List FieldRow} (hl : ∀ f ∈ l, f.lo ≤ f.hi) (hp : l.Pairwise fun f g => g.hi < f.lo)
    {f : FieldRow} (hf : f ∈ l) : f.bits (l.foldl (FieldRow.mergeInto ok v) acc) = f.written ok v (f.bits acc) := by
  induction l generalizing acc with
  | nil => cases hf
  | cons g l ih =>
    obtain ⟨hbelow, hp⟩ := List.pairwise_cons.mp hp
    obtain ⟨hg, hl⟩ := List.forall_mem_cons.mp hl
    rw [List.foldl_cons]
    rcases List.mem_cons.mp hf with hfg | hf
    · rw [hfg, FieldRow.bits_foldl_apart hg fun x hx => ⟨hl x hx, .inr (hbelow x hx)⟩, FieldRow.bits_mergeInto_same]
    · rw [ih hl hp hf, FieldRow.bits_mergeInto_apart (hl f hf) hg (.inl (hbelow f hf))]

theorem State.mergeWord_of_findReg {s : State} {a : Nat} {r : RegRow} (hr : findReg a = some r) :
    s.mergeWord ok a v = s.setWord a (BitVec.ofNat 32 (r.merge ok (s.word a).toNat v)) := by
  unfold State.mergeWord
  rw [hr]

theorem State.mergeWord_word_ne {s : State} {a b : Nat} {r : RegRow} (hr : findReg a = some r) (h : b ≠ a) :
    (s.mergeWord ok a v).word b = s.word b := by
  rw [State.mergeWord_of_findReg hr, State.word_setWord_ne _ _ h]

theorem State.mergeWord_bits {s : State} {a : Nat} {r : RegRow} (hr : findReg a = some r) {f : FieldRow} (hf : f ∈ r.fields) :
    f.bits ((s.mergeWord ok a v).word a).toNat = f.written ok v (f.bits (s.word a).toNat) := by
  obtain ⟨hin, hbelow⟩ := RegRow.laidOut_iff.mp (findReg_laidOut hr)
  rw [State.mergeWord_of_findReg hr, State.word_setWord_same, BitVec.toNat_ofNat, RegRow.merge_eq_foldl,
    Nat.mod_eq_of_lt (foldl_mergeInto_lt hin (s.word a).isLt), FieldRow.bits_foldl_mem (fun g hg => (hin g hg).1) hbelow hf]

/-- Settles O12: a plain write merges field by field, the fields of a register share no bit, and a plain write admits every field but
those of type RWL once the boot is complete. -/
theorem writtenFieldsFollowTheirTypes : Obligations.WrittenFieldsFollowTheirTypes := by
  unfold Obligations.WrittenFieldsFollowTheirTypes
  intro s a v r hr
  refine ⟨fun b hb => State.mergeWord_word_ne hr hb, fun f hf => ?_⟩
  rw [State.plain, State.mergeWord_bits hr hf, FieldRow.written]
  cases hk : f.kind with
  | rw | ro | w1c | w1s | wo | wh => simp
  | rwl => cases s.flag F.BOOT_STAT_DONE <;> simp

/-! ## Bytes of a flash image -/

/-- A byte of a flash image set, the case of one byte of `setFlash`. -/
def State.setFlashByte (s : State) (dev off : Nat) (b : Byte) : State :=
  { s with flash := sparsePut (fun _ => 0xFF) s.flash (dev * 2 ^ 25 + off) b }

theorem State.setFlash_cons (s : State) (dev off : Nat) (b : Byte) (l : List Byte) :
    s.setFlash dev off (b :: l) = (s.setFlashByte dev off b).setFlash dev (off + 1) l := rfl

theorem State.flashByte_setFlashByte_same (s : State) (dev off : Nat) (b : Byte) :
    (s.setFlashByte dev off b).flashByte dev off = b :=
  sparseGet_put_same ..

theorem State.flashByte_setFlashByte_ne (s : State) {dev off d k : Nat} (b : Byte) (h : d * 2 ^ 25 + k ≠ dev * 2 ^ 25 + off) :
    (s.setFlashByte dev off b).flashByte d k = s.flashByte d k :=
  sparseGet_put_ne _ _ _ h

theorem State.flashByte_setFlash_outside (s : State) {dev off d k : Nat} (l : List Byte)
    (h : d * 2 ^ 25 + k < dev * 2 ^ 25 + off ∨ dev * 2 ^ 25 + off + l.length ≤ d * 2 ^ 25 + k) :
    (s.setFlash dev off l).flashByte d k = s.flashByte d k := by
  induction l generalizing s off with
  | nil => rfl
  | cons b l ih =>
    rw [List.length_cons] at h
    rw [State.setFlash_cons, ih _ (by omega), State.flashByte_setFlashByte_ne _ _ (by omega)]

theorem State.flashBytes_succ (s : State) (dev off n : Nat) :
    s.flashBytes dev off (n + 1) = s.flashByte dev off :: s.flashBytes dev (off + 1) n := by
  simp only [State.flashBytes, List.range_succ_eq_map, List.map_cons, List.map_map, Nat.add_zero, Function.comp_def,
    Nat.succ_eq_add_one, Nat.add_assoc, Nat.add_comm 1]

theorem State.flashBytes_setFlash (s : State) (dev off : Nat) (l : List Byte) :
    (s.setFlash dev off l).flashBytes dev off l.length = l := by
  induction l generalizing s off with
  | nil => rfl
  | cons b l ih =>
    rw [State.setFlash_cons, List.length_cons, State.flashBytes_succ, ih, State.flashByte_setFlash_outside _ _ (.inl (by omega)),
      State.flashByte_setFlashByte_same]

/-- Settles O16: the first byte stored lies below all that follow it, so that it stands, and the others read back in turn. -/
theorem flashBytesReadBack : Obligations.FlashBytesReadBack := by
  unfold Obligations.FlashBytesReadBack
  exact fun s dev off l => ⟨s.flashBytes_setFlash dev off l, fun d k h => s.flashByte_setFlash_outside l h⟩

/-! ## The record of an event (R476, R493, R103, R279) -/

/-- From `s` to `t` no record has left Tally's queue and no notice the type 7 queue. -/
structure KeepsRecords (s t : State) : Prop where
  queue : s.tally.queue ⊆ t.tally.queue
  notices : s.msgs.notices ⊆ t.msgs.notices

theorem KeepsRecords.refl (s : State) : KeepsRecords s s := ⟨List.Subset.refl _, List.Subset.refl _⟩

theorem KeepsRecords.trans {s t u : State} (h : KeepsRecords s t) (h' : KeepsRecords t u) : KeepsRecords s u :=
  ⟨List.Subset.trans h.queue h'.queue, List.Subset.trans h.notices h'.notices⟩

theorem KeepsRecords.of_eq {s t : State} (hq : t.tally = s.tally) (hn : t.msgs = s.msgs) : KeepsRecords s t :=
  ⟨by rw [hq]; exact List.Subset.refl _, by rw [hn]; exact List.Subset.refl _⟩

theorem State.with_tally_keepsRecords {s : State} {v : Tally} (h : s.tally.queue ⊆ v.queue) : KeepsRecords s (s.with_tally v) :=
  ⟨h, by rw [(s.with_tally_moves v).msgs (by decide)]; exact List.Subset.refl _⟩

theorem State.with_msgs_keepsRecords {s : State} {v : Msgs} (h : s.msgs.notices ⊆ v.notices) : KeepsRecords s (s.with_msgs v) :=
  ⟨by rw [(s.with_msgs_moves v).tally (by decide)]; exact List.Subset.refl _, h⟩

theorem State.syncTally_tally (s : State) : s.syncTally.tally = s.tally := s.syncTally_moves.tally (by decide)

theorem State.queue7_tally (s : State) (code info : Nat) : (s.queue7 code info).tally = s.tally :=
  (s.queue7_moves code info).tally (by decide)

theorem State.inc_keepsRecords (s : State) (f : Field) : KeepsRecords s (s.inc f) := .of_eq (s.inc_tally f) (s.inc_msgs f)

theorem State.syncTally_keepsRecords (s : State) : KeepsRecords s s.syncTally :=
  .of_eq s.syncTally_tally (s.syncTally_moves.msgs (by decide))

theorem State.setEvt_keepsRecords (s : State) (code info : Nat) : KeepsRecords s (s.setEvt code info) :=
  .of_eq (s.setEvt_tally code info) (s.setEvt_msgs code info)

theorem State.queue7_keepsRecords (s : State) (code info : Nat) : KeepsRecords s (s.queue7 code info) := by
  unfold State.queue7
  simp -zeta only [State.upd_msgs]
  split
  · exact .of_eq (s.emit_tally _) (s.emit_msgs _)
  · split
    · split
      · exact State.with_msgs_keepsRecords (List.subset_append_left _ _)
      · exact (s.inc_keepsRecords _).trans (State.with_msgs_keepsRecords (List.Subset.refl _))
    · exact .refl s

theorem State.tallyLose_keepsRecords (s : State) : KeepsRecords s s.tallyLose := by
  unfold State.tallyLose
  simp -zeta only [State.upd_tally]
  exact (s.inc_keepsRecords _).trans (State.with_tally_keepsRecords (List.Subset.refl _))

theorem State.tallyPut_keepsRecords (s : State) (r : TallyQ) : KeepsRecords s (s.tallyPut r) := by
  unfold State.tallyPut
  simp -zeta only [State.upd_tally]
  split
  · exact (State.with_tally_keepsRecords (List.subset_append_left _ _)).trans (State.syncTally_keepsRecords _)
  · exact s.tallyLose_keepsRecords.trans (State.syncTally_keepsRecords _)

theorem State.deferNotice_keepsRecords (s : State) : KeepsRecords s s.deferNotice := by
  unfold State.deferNotice
  simp -zeta only [State.upd_tally]
  split
  · exact .refl s
  · extract_lets _ t
    have ht : KeepsRecords s t := State.with_tally_keepsRecords (List.Subset.refl _)
    exact ((ht.trans (t.setEvt_keepsRecords _ _)).trans (State.queue7_keepsRecords _ _ _)).trans (State.tallyPut_keepsRecords _ _)

theorem State.tallyOwed_keepsRecords (s : State) : KeepsRecords s s.tallyOwed := by
  unfold State.tallyOwed
  simp -zeta only [State.upd_tally]
  split
  · exact .refl s
  · extract_lets _ t
    have ht : KeepsRecords s t := (s.setEvt_keepsRecords _ _).trans (State.queue7_keepsRecords _ _ _)
    exact (ht.trans (State.with_tally_keepsRecords (List.subset_cons_self _ _))).trans (State.syncTally_keepsRecords _)

theorem State.tallyKick_keepsRecords (s : State) : KeepsRecords s s.tallyKick := by
  unfold State.tallyKick
  simp -zeta only [State.upd_tally]
  split
  · split
    · exact State.with_tally_keepsRecords (List.Subset.refl _)
    · split
      · exact .refl s
      · exact s.tallyOwed_keepsRecords.trans (State.with_tally_keepsRecords (List.Subset.refl _))
  · exact .refl s

theorem State.tallyPut_mem (s : State) (r : TallyQ) (h : s.tally.queue.length < 256) : r ∈ (s.tallyPut r).tally.queue := by
  rw [State.tallyPut, if_pos h, State.syncTally_tally]
  exact List.mem_append_right _ (List.mem_singleton_self r)

/-- A notice of an event that is not for the head of a ring enters the type 7 queue while it is open and has room. -/
theorem State.queue7_mem {s : State} {code : Nat} (info : Nat) (hhead : s.toHead code = false) (hup : s.anyBrickUp = true)
    (hen : s.flag F.FHM_CTL_EVT_EN = true) (hroom : s.msgs.notices.length < 64) :
    ⟨code, info, s.stamp⟩ ∈ (s.queue7 code info).msgs.notices := by
  rw [State.queue7, if_neg (Bool.eq_false_iff.mp hhead), if_pos (by rw [hup, hen]; rfl), if_pos hroom]
  exact List.mem_append_right _ (List.mem_singleton_self _)

theorem State.setEvt_get (s : State) (code info : Nat) {f : Field} (h : f.clear (code / 256) = true) :
    (s.setEvt code info).get f = s.get f := by
  have hf := Field.clear_iff h rfl
  simp only [eventWords, List.mem_cons, not_or] at hf
  obtain ⟨hevt, _, hirq, _⟩ := hf
  rw [State.get, State.setEvt_word s code info hevt hirq, State.get]

/-- The fields that decide where a notice goes, none of them in a word that an event changes. -/
def noticeFields : List Field :=
  [F.RING_CTL_SIZE, F.RING_STAT_MEMBERS, F.PWR_DOM_STAT0_UP, F.PWR_DOM_STAT1_UP, F.FHL_B_STAT_STATE 0, F.FHL_B_STAT_STATE 1,
    F.FHM_CTL_EVT_EN]

theorem noticeFields_clear : ∀ n < 26, ∀ f ∈ noticeFields, f.clear n = true := by decide +kernel

theorem evtApart_of_lt : ∀ n < 26, evtApart n = true := by decide

section
variable {code : Nat} (hcode : code / 256 < 26) (s : State) (info : Nat)
include hcode

theorem State.setEvt_get_noticeField {f : Field} (hf : f ∈ noticeFields) : (s.setEvt code info).get f = s.get f :=
  s.setEvt_get code info (noticeFields_clear _ hcode f hf)

theorem State.setEvt_toHead : (s.setEvt code info).toHead code = s.toHead code := by
  simp only [State.toHead, State.ringSize, State.setEvt_boot, s.setEvt_get_noticeField hcode info (f := F.RING_CTL_SIZE) (by decide),
    s.setEvt_get_noticeField hcode info (f := F.RING_STAT_MEMBERS) (by decide)]

theorem State.setEvt_anyBrickUp : (s.setEvt code info).anyBrickUp = s.anyBrickUp := by
  simp only [State.anyBrickUp, State.brickUp, State.up, State.doms,
    s.setEvt_get_noticeField hcode info (f := F.PWR_DOM_STAT0_UP) (by decide),
    s.setEvt_get_noticeField hcode info (f := F.PWR_DOM_STAT1_UP) (by decide),
    s.setEvt_get_noticeField hcode info (f := F.FHL_B_STAT_STATE 0) (by decide),
    s.setEvt_get_noticeField hcode info (f := F.FHL_B_STAT_STATE 1) (by decide)]

theorem State.setEvt_evtEn : (s.setEvt code info).flag F.FHM_CTL_EVT_EN = s.flag F.FHM_CTL_EVT_EN := by
  rw [State.flag_eq, State.flag_eq, s.setEvt_get_noticeField hcode info (by decide)]

end

theorem State.setEvt_stamp (s : State) (code info : Nat) : (s.setEvt code info).stamp = s.stamp := by
  rw [State.stamp, State.stamp, State.setEvt_tide]

/-- What stands in the queues once the record has entered stands there when the event has been raised. -/
theorem State.raise_keepsRecords (s : State) (code info : Nat) :
    KeepsRecords (((s.setEvt code info).queue7 code info).tallyPut (eventRecord s code info)) (s.raise code info) :=
  (State.deferNotice_keepsRecords _).trans (State.tallyKick_keepsRecords _)

theorem State.raise_record_mem (s : State) (code info : Nat) (h : s.tally.queue.length < 256) :
    eventRecord s code info ∈ (s.raise code info).tally.queue := by
  refine (s.raise_keepsRecords code info).queue (State.tallyPut_mem _ _ ?_)
  rwa [State.queue7_tally, State.setEvt_tally]

theorem State.raise_notice_mem {s : State} {code : Nat} (info : Nat) (hcode : code / 256 < 26) (hhead : s.toHead code = false)
    (hup : s.anyBrickUp = true) (hen : s.flag F.FHM_CTL_EVT_EN = true) (hroom : s.msgs.notices.length < 64) :
    ⟨code, info, s.stamp⟩ ∈ (s.raise code info).msgs.notices := by
  refine ((State.tallyPut_keepsRecords _ _).trans (s.raise_keepsRecords code info)).notices ?_
  rw [← s.setEvt_stamp code info]
  exact State.queue7_mem info (by rwa [s.setEvt_toHead hcode]) (by rwa [s.setEvt_anyBrickUp hcode]) (by rwa [s.setEvt_evtEn hcode])
    (by rwa [State.setEvt_msgs])

/-- Settles O17: the bit, the record and the notice are set in turn, and what raising the event does afterwards takes none of them back. -/
theorem eventsAreRecorded : Obligations.EventsAreRecorded := by
  unfold Obligations.EventsAreRecorded
  intro s code info hcode hbit
  exact ⟨s.raise_raised code info (evtApart_of_lt _ hcode) hbit, s.raise_record_mem code info, s.raise_notice_mem info hcode⟩

/-! ## Slipway and Tally (R98 to R101, R104, R497; log entry 27) -/

/-- Settles O28, clause by clause from what each command does where it takes effect: an operation of Slipway starts where none stands and
the flash is open, and completes as its sector reads back; Tally's writer goes from program to marker to the next record. -/
theorem slipwayAndTally : Obligations.SlipwayAndTally := by
  unfold Obligations.SlipwayAndTally
  refine ⟨?slipOpen, ?slipWrite, ?slipWriteRefused, ?slipClose, ?slipAbort, ?slipConfirm, ?slipReserved, ?slipComplete, ?programmed,
    ?programFailed, ?committed, ?erased, ?appended⟩
  case slipOpen =>
    intro s src v t w hon ht hw ho hidle hflash
    exact does_slipOpen hon src v ht hw ho hidle hflash
  case slipWrite =>
    intro s src v t w hon ht hw ho hidle hopen hflash
    exact does_slipWrite hon src v ht hw ho hidle hopen hflash
  case slipWriteRefused =>
    intro s src v t w hon ht hw ho hbad
    exact refuses_slipWrite hon src v ht hw ho hbad
  case slipClose =>
    intro s src v t w hon ht hw ho hidle hopen hflash
    exact does_slipClose hon src v ht hw ho hidle hopen hflash
  case slipAbort =>
    intro s src v t w hon ht hw ho
    exact does_slipAbort hon src v ht hw ho
  case slipConfirm =>
    intro s src v t w hon ht hw ho hidle htrial hflash
    exact does_slipConfirm hon src v ht hw ho hidle htrial hflash
  case slipReserved =>
    intro s src v t w hon ht hw ho
    exact does_slipOpReserved hon src v ht hw ho
  case slipComplete =>
    intro s n t hon hop ht hflash hdevice
    exact does_slipOpComplete hon hop ht hflash hdevice
  case programmed =>
    intro s q qs t hon hphase hq ht hflash
    exact does_tallyProgramDone hon hphase hq ht hflash
  case programFailed =>
    intro s q qs t hon hphase hq ht
    exact drops_tallyProgramDone hon hphase hq ht
  case committed =>
    intro s q qs t hon hphase hq ht
    exact does_tallyCommitDone hon hphase hq ht
  case erased =>
    intro s n hon herasing hn
    exact does_tallyEraseDone hon herasing hn
  case appended =>
    intro s src t b n hon ht ho hb hn
    exact does_tallyAppendGo hon src ht ho hb hn

end Sys2Proof.Machine

/-! Proofs of the statements of family 06_receive_front_end_and_adc.md: the receive paths up to the converters. -/

namespace Sys2Proof.Machine

/-! ## Gain control, ADC slices, calibration and retirement (R110, R112, R113, R117, R119, R120, R124, R128 to R130, R147;
log entry 28) -/

/-- Settles O34, clause by clause from what each command does where it takes effect: a decision goes by suspension and MODE, the end of a
suspension by RESUME and MODE, a slice exchange by trim and residuals, a receive calibration by what stands and by the gap, and a write by
what it changes. -/
theorem receivePaths : Obligations.ReceivePaths := by
  unfold Obligations.ReceivePaths
  refine ⟨?decisionAuto, ?decisionManual, ?decisionSuspended, ?suspendEndStart, ?suspendEndKeep, ?modeToAuto, ?servo, ?spareExchange,
    ?trimLimit, ?thirdResidual, ?calRequest, ?calRequestRefused, ?calStart, ?calTimeout, ?calDone, ?retire, ?clearOvr, ?clearAgc,
    ?bandwidthChanged, ?bandwidthKept⟩
  case decisionAuto =>
    intro s t hon hsusp hmode hcounted ht
    exact does_agcDecision hon hsusp hmode hcounted ht
  case decisionManual =>
    intro s t hon hsusp hmode ht
    exact does_agcDecision_manual hon hsusp hmode ht
  case decisionSuspended =>
    intro s hon hsusp
    exact holds_agcDecision hon hsusp
  case suspendEndStart =>
    intro s a u hon hsusp hrun htrsw hlo hup huntil hu hresume hmode
    exact does_agcSuspendEnd hon hsusp hrun htrsw hlo hup huntil hu hresume hmode
  case suspendEndKeep =>
    intro s a u hon hsusp hrun htrsw hlo hup huntil hu hkeep
    exact holds_agcSuspendEnd hon hsusp hrun htrsw hlo hup huntil hu hkeep
  case modeToAuto =>
    intro s src v t u hon ht ho hu hauto hother
    exact does_agcCtlWrite hon src v ht ho hu hauto hother
  case servo =>
    intro s p c d t ci cq hon hcount hc hd hci hcq ht
    exact does_servoAverage hon p hcount hc hd hci hcq ht
  case spareExchange =>
    intro s p q slice a b sp o os t hon hpath ha ht hb hspare horder
    exact does_sliceExchange hon p q slice hpath ha ht hb hspare horder
  case trimLimit =>
    intro s p q slice a t hon hpath ha ht
    exact does_sliceExchange_trim hon p q slice hpath ha ht
  case thirdResidual =>
    intro s p q slice a t hon hpath ha htwo ht
    exact does_sliceExchange_resid hon p q slice hpath ha htwo ht
  case calRequest =>
    intro s src v t w m hon ht hw ho hm hpresent hkind hidle
    exact does_rxCalReq hon src v ht hw ho hm hpresent hkind hidle
  case calRequestRefused =>
    intro s src v t w hon ht hw ho hbad
    exact refuses_rxCalReq hon src v ht hw ho hbad
  case calStart =>
    intro s kind m w u hon hcal hgap hu
    exact does_rxCalStart hon hcal hgap hu
  case calTimeout =>
    intro s kind m w t hon hcal ht
    exact does_rxCalTimeout hon hcal ht
  case calDone =>
    intro s fail slices kind m w e t v x y l hon hcal ht hl hv hx hy
    exact does_rxCalDone hon fail slices hcal ht hl hv hx hy
  case retire =>
    intro s src half v t hon ht ho
    exact does_rxRetireWrite hon src half v ht ho
  case clearOvr =>
    intro s src v t w hon ht hw ho hagc
    exact does_rxaCntClrOvr hon src v ht hw ho hagc
  case clearAgc =>
    intro s src v t w hon ht hw ho hovr
    exact does_rxaCntClrAgc hon src v ht hw ho hovr
  case bandwidthChanged =>
    intro s src v t u hon ht ho hu hchanged
    exact does_rxaCtlWrite hon src v ht ho hu hchanged
  case bandwidthKept =>
    intro s src v t u hon ht ho hu hkept
    exact holds_rxaCtlWrite hon src v ht ho hu hkept

end Sys2Proof.Machine

/-! Proofs of the statements of family 07_receive_chain.md: the receive chains after the converters. -/

namespace Sys2Proof.Machine

/-! ## Run, settings, NCO and counters of the receive chains (R134, R136, R143, R144, R148) -/

/-- Settles O35, clause by clause from what each command does where it takes effect: a write of CTL acts where RUN changes, a locked word
goes by RUN, GO gives the NCO the word as written, an armed retune fires at its own stamp, and each bit of CNT_CLR clears its own counters
where the other bit is 0. -/
theorem receiveDigital : Obligations.ReceiveDigital := by
  unfold Obligations.ReceiveDigital
  refine ⟨?runChanged, ?lockedWritten, ?lockedRejected, ?ncoGo, ?ncoRetune, ?clearSat, ?clearInv⟩
  case runChanged =>
    intro s src v t u hon ht ho hu hchanged
    exact does_rxdRunWrite hon src v ht ho hu hchanged
  case lockedWritten =>
    intro s src i v t u hon ht ho hstopped hu
    exact does_rxdCfgWrite hon src i v ht ho hstopped hu
  case lockedRejected =>
    intro s src i v t hon ht ho hrunning
    exact refuses_rxdCfgWrite hon src i v ht ho hrunning
  case ncoGo =>
    intro s src v t w hon ht hw ho
    exact does_rxdNcoGo hon src v ht hw ho
  case ncoRetune =>
    intro s f a t hon harm ht
    exact does_rxdNcoRetuneAt hon harm ht
  case clearSat =>
    intro s src v t w hon ht hw ho hinv
    exact does_rxdCntClrSat hon src v ht hw ho hinv
  case clearInv =>
    intro s src v t w hon ht hw ho hsat
    exact does_rxdCntClrInv hon src v ht hw ho hsat

end Sys2Proof.Machine

/-! Proofs of the statements of family 08_transmit_path.md: the transmit chains up to the ports. -/

namespace Sys2Proof.Machine

/-! ## Run, settings, NCO, gain, mutes, calibration and read-back of the transmit chains (R153, R155, R157, R158, R162 to R166, R169,
R171, R496) -/

/-- Settles O36, clause by clause from what each command does where it takes effect: a write of CTL acts where RUN or FILT_BW changes, the
NCO, the gain and the restarts act at the instant that stands in the state, an edge of COEX_GNT goes by the pin before it, and a
calibration or a read-back by what stands, by the gap and by the paths that may be used. -/
theorem transmitPaths : Obligations.TransmitPaths := by
  unfold Obligations.TransmitPaths
  refine ⟨?runChanged, ?lockedWritten, ?lockedRejected, ?ncoGo, ?ncoRetune, ?gainApplied, ?chainRestart, ?bandwidthChanged, ?retire,
    ?clearMute, ?clearSat, ?grantFall, ?grantRise, ?muteLift, ?calRequest, ?calRequestRefused, ?calStart, ?calTimeout, ?calDone,
    ?readbackWaits, ?readbackRefused, ?readbackDone⟩
  case runChanged =>
    intro s src v t u hon ht ho hu hchanged
    exact does_txdRunWrite hon src v ht ho hu hchanged
  case lockedWritten =>
    intro s src i v t u hon ht ho hstopped hu
    exact does_txdCfgWrite hon src i v ht ho hstopped hu
  case lockedRejected =>
    intro s src i v t hon ht ho hrunning
    exact refuses_txdCfgWrite hon src i v ht ho hrunning
  case ncoGo =>
    intro s src v t w hon ht hw ho
    exact does_txdNcoGo hon src v ht hw ho
  case ncoRetune =>
    intro s f a t hon harm ht
    exact does_txdNcoRetuneAt hon harm ht
  case gainApplied =>
    intro s k g b l hon hgains
    exact does_txGainApply hon hgains
  case chainRestart =>
    intro s r rs hon hrestarts
    exact does_txChainRestart hon hrestarts
  case bandwidthChanged =>
    intro s src v t u hon ht ho hu hchanged
    exact does_txaCtlWrite hon src v ht ho hu hchanged
  case retire =>
    intro s src half v t hon ht ho
    exact does_txRetireWrite hon src half v ht ho
  case clearMute =>
    intro s src v t w hon ht hw ho hsat
    exact does_txdCntClrMute hon src v ht hw ho hsat
  case clearSat =>
    intro s src v t w hon ht hw ho hmute
    exact does_txdCntClrSat hon src v ht hw ho hmute
  case grantFall =>
    intro s e u hon hhigh he hu
    exact does_coexGntFall hon hhigh he hu
  case grantRise =>
    intro s f hon hlow hfall
    exact does_coexGntRise hon hlow hfall
  case muteLift =>
    intro s l t hon hlift ht
    exact does_coexMuteLift hon hlift ht
  case calRequest =>
    intro s src v t w m hon ht hw ho hm hpresent hkind hidle hrx
    exact does_txCalReq hon src v ht hw ho hm hpresent hkind hidle hrx
  case calRequestRefused =>
    intro s src v t w m hon ht hw ho hm hbad
    exact refuses_txCalReq hon src v ht hw ho hm hbad
  case calStart =>
    intro s kind m w e u hon hcal hgap he hu
    exact does_txCalStart hon hcal hgap he hu
  case calTimeout =>
    intro s kind m w t hon hcal ht
    exact does_txCalTimeout hon hcal ht
  case calDone =>
    intro s fail limit kind m w bad e t v x y l hon hcal ht hl hbad hv hx hy
    exact does_txCalDone hon fail limit hcal ht hl hbad hv hx hy
  case readbackWaits =>
    intro s src v t u w hon ht hw ho hu hpath
    exact does_readbackGo hon src v ht hw ho hu hpath
  case readbackRefused =>
    intro s src v t u w hon ht hw ho hu hoff
    exact refuses_readbackGo hon src v ht hw ho hu hoff
  case readbackDone =>
    intro s v k p t hon hpending ht hpath
    exact does_readbackDone hon v hpending ht hpath

end Sys2Proof.Machine

/-! Proofs of the statements of family 09_predistortion.md: the predistorter and the observation receivers. -/

namespace Sys2Proof.Machine

/-! ## Basis, banks, swaps and fades, captures and solves, ORX slices and counters (R175, R176, R178, R180, R181, R183, R186 to R188,
R190, R192, R193; log entry 11) -/

/-- Settles O37, clause by clause from what each command does where it takes effect: a locked word goes by RUN and the term's ranges, a
bank write by the banks in use, a slot by whether its path can be captured, a solve first by the capture's power, over-range and
correlation and then by the update under test, a slice exchange by its trim, and each bit of CNT_CLR clears its own counters where the
other bits are 0. -/
theorem predistortion : Obligations.Predistortion := by
  unfold Obligations.Predistortion
  refine ⟨?basisWritten, ?basisRefused, ?pathControl, ?bankWritten, ?bankInUse, ?swapRequest, ?fadeComplete, ?slotCaptured,
    ?slotSkipped, ?solveUpdates, ?solveReverts, ?solveRejects, ?refreshStart, ?sliceExchanged, ?sliceRetired, ?clearPath, ?clearDrop,
    ?clearActwr⟩
  case basisWritten =>
    intro s src i v t a hon ht ha ho hstopped hlegal
    exact does_dpdCfgWrite hon src i v ht ha ho hstopped hlegal
  case basisRefused =>
    intro s src i v t a hon ht ha ho hbad
    exact refuses_dpdCfgWrite hon src i v ht ha ho hbad
  case pathControl =>
    intro s src p v t hon ht ho
    exact does_dpdPctlWrite hon src p v ht ho
  case bankWritten =>
    intro s src p bank term part v t hon ht hpath hlevel hup hfree hidle
    exact does_dpdBankWrite hon src p bank term part v ht hpath hlevel hup hfree hidle
  case bankInUse =>
    intro s src p bank term part v t hon ht hpath hlevel hup hused
    exact bars_dpdBankWrite hon src p bank term part v ht hpath hlevel hup hused
  case swapRequest =>
    intro s src v t u w hon ht hw ho hu
    exact does_dpdSwapGo hon src v ht hw ho hu
  case fadeComplete =>
    intro s p f hon hfade
    exact does_fadeComplete hon p hfade
  case slotCaptured =>
    intro s k ri rq fill lost p t u hon hopen hnext ht hu hcan
    exact does_orxSlot hon k ri rq fill lost hopen hnext ht hu hcan
  case slotSkipped =>
    intro s k found ri rq fill lost p t u hon hopen hnext ht hu hcannot
    exact skips_orxSlot hon k found ri rq fill lost hopen hnext ht hu hcannot
  case solveUpdates =>
    intro s p rms corr delay nmse x bank e b t u hon hx hcapture ht hpower hcorr hu happlied
    exact does_dpdSolveDone hon p rms corr delay nmse hx hcapture ht hpower hcorr hu happlied
  case solveReverts =>
    intro s p rms corr delay nmse x bank e b old t u hon hx hcapture ht hpower hcorr hu happlied hactive hworse
    exact reverts_dpdSolveDone hon p rms corr delay nmse hx hcapture ht hpower hcorr hu happlied hactive hworse
  case solveRejects =>
    intro s p rms ovr corr delay nmse x bank e b t hon hx hcapture ht hbad
    exact rejects_dpdSolveDone hon p rms ovr corr delay nmse hx hcapture ht hbad
  case refreshStart =>
    intro s p x bank n coef hon hx hrefresh hactive hfade hqv hlen hpos
    exact does_refreshFadeStart hon p hx hrefresh hactive hfade hqv hlen hpos
  case sliceExchanged =>
    intro s k q slice a b sp o os t hon hquad ha ht hb hspare horder
    exact does_orxSliceExchange hon k q slice hquad ha ht hb hspare horder
  case sliceRetired =>
    intro s k q slice a t hon hquad ha ht
    exact does_orxSliceExchange_trim hon k q slice hquad ha ht
  case clearPath =>
    intro s src v t w hon ht hw ho hdrop hactwr
    exact does_dpdCntClrPath hon src v ht hw ho hdrop hactwr
  case clearDrop =>
    intro s src v t w hon ht hw ho hpath hactwr
    exact does_dpdCntClrDrop hon src v ht hw ho hpath hactwr
  case clearActwr =>
    intro s src v t w hon ht hw ho hpath hdrop
    exact does_dpdCntClrActwr hon src v ht hw ho hpath hdrop

end Sys2Proof.Machine

/-! Proofs of the statements of family 10_quay_array.md: how the Quay cores fit and round, and the clusters that deal to them. -/

namespace Sys2Proof.Machine

/-! ## Fitting a result to n bits (R205 to R207) -/

theorem cast_two_pow (k : Nat) : ((2 ^ k : Nat) : Int) = 2 ^ k := Int.natCast_pow 2 k

/-- `satS` leaves what already lies in the range of `n` bits. -/
theorem satS_of_mem {n : Nat} {x : Int} (hlo : -2 ^ (n - 1) ≤ x) (hhi : x < 2 ^ (n - 1)) : satS n x = x := by
  rw [satS, clampInt, cast_two_pow, if_neg (by omega), if_neg (by omega)]

theorem satS_of_ge {n : Nat} {x : Int} (h : 2 ^ (n - 1) ≤ x) : satS n x = 2 ^ (n - 1) - 1 := by
  have hpos : (0 : Int) < 2 ^ (n - 1) := Int.pow_pos (by decide)
  rw [satS, clampInt, cast_two_pow, if_neg (by omega), if_pos (by omega)]

theorem satS_of_lt {n : Nat} {x : Int} (h : x < -2 ^ (n - 1)) : satS n x = -2 ^ (n - 1) := by
  rw [satS, clampInt, cast_two_pow, if_pos h]

theorem overS_eq_false_iff {n : Nat} {x : Int} : overS n x = false ↔ -2 ^ (n - 1) ≤ x ∧ x < 2 ^ (n - 1) := by
  rw [overS, decide_eq_false_iff_not, Decidable.not_not]
  constructor
  · intro h
    rcases Int.lt_or_le x (-2 ^ (n - 1)) with hlt | hlo
    · rw [satS_of_lt hlt] at h
      omega
    · rcases Int.lt_or_le x (2 ^ (n - 1)) with hhi | hge
      · exact ⟨hlo, hhi⟩
      · rw [satS_of_ge hge] at h
        omega
  · rintro ⟨hlo, hhi⟩
    exact satS_of_mem hlo hhi

/-- The low `n` bits of `x` in two's complement are the balanced residue of `x` modulo 2^n. -/
theorem toSigned_ofSigned (n : Nat) (x : Int) : toSigned n (ofSigned n x) = x.bmod (2 ^ n) := by
  have hpos : (0 : Int) < ((2 ^ n : Nat) : Int) := Int.natCast_pos.mpr (Nat.two_pow_pos n)
  have hlt := Int.emod_lt_of_pos x hpos
  have hcast : ((ofSigned n x : Nat) : Int) = x % ((2 ^ n : Nat) : Int) := Int.toNat_of_nonneg (Int.emod_nonneg x (Int.ne_of_gt hpos))
  rw [toSigned, Nat.mod_eq_of_lt (by omega), hcast, Int.bmod_def]
  split <;> split <;> omega

theorem two_mul_two_pow_pred {n : Nat} (hn : 0 < n) : 2 * 2 ^ (n - 1) = 2 ^ n := by
  rw [← Nat.pow_succ', Nat.succ_eq_add_one, Nat.sub_add_cancel hn]

theorem bmod_two_pow_mem {n : Nat} (hn : 0 < n) (x : Int) :
    -2 ^ (n - 1) ≤ x.bmod (2 ^ n) ∧ x.bmod (2 ^ n) < 2 ^ (n - 1) := by
  have hlo := Int.le_bmod (x := x) (Nat.two_pow_pos n)
  have hhi := Int.bmod_lt (x := x) (Nat.two_pow_pos n)
  rw [← two_mul_two_pow_pred hn] at hlo hhi ⊢
  push_cast at hlo hhi ⊢
  omega

theorem bmod_two_pow_eq_self_iff {n : Nat} (hn : 0 < n) {x : Int} :
    x.bmod (2 ^ n) = x ↔ -2 ^ (n - 1) ≤ x ∧ x < 2 ^ (n - 1) := by
  constructor
  · intro h
    have hmem := bmod_two_pow_mem hn x
    rwa [h] at hmem
  · rintro ⟨hlo, hhi⟩
    rw [← two_mul_two_pow_pred hn]
    exact Int.bmod_eq_of_le (by push_cast; omega) (by push_cast; omega)

theorem fit_wrap (n : Nat) (x : Int) : fit true n x = (x.bmod (2 ^ n), overS n x) := by
  rw [fit, if_pos rfl, toSigned_ofSigned]

theorem fit_saturate (n : Nat) (x : Int) : fit false n x = (satS n x, overS n x) := rfl

/-- Wrapping keeps the low bits, lands in range, and is told of exactly where the value moved. -/
theorem fit_wrap_keeps_low_bits {n : Nat} (hn : 0 < n) (x : Int) :
    (fit true n x).1 % 2 ^ n = x % 2 ^ n ∧ -2 ^ (n - 1) ≤ (fit true n x).1 ∧ (fit true n x).1 < 2 ^ (n - 1) ∧
      ((fit true n x).2 = true ↔ (fit true n x).1 ≠ x) := by
  rw [fit_wrap]
  obtain ⟨hlo, hhi⟩ := bmod_two_pow_mem hn x
  refine ⟨?low, hlo, hhi, ?moved⟩
  case low => exact_mod_cast Int.bmod_emod (x := x) (m := 2 ^ n)
  case moved => rw [← Bool.not_eq_false, overS_eq_false_iff, ne_eq, bmod_two_pow_eq_self_iff hn]

/-- Saturating leaves a value in range and holds one beyond it at the nearer end. -/
theorem fit_saturate_holds_at_ends (n : Nat) (x : Int) :
    (-2 ^ (n - 1) ≤ x → x < 2 ^ (n - 1) → fit false n x = (x, false)) ∧ (2 ^ (n - 1) ≤ x → fit false n x = (2 ^ (n - 1) - 1, true)) ∧
      (x < -2 ^ (n - 1) → fit false n x = (-2 ^ (n - 1), true)) := by
  rw [fit_saturate]
  refine ⟨fun hlo hhi => ?inside, fun hge => ?above, fun hlt => ?below⟩
  case inside => rw [satS_of_mem hlo hhi, overS_eq_false_iff.mpr ⟨hlo, hhi⟩]
  case above => rw [satS_of_ge hge, Bool.of_not_eq_false fun h => absurd (overS_eq_false_iff.mp h).2 (Int.not_lt.mpr hge)]
  case below => rw [satS_of_lt hlt, Bool.of_not_eq_false fun h => absurd (overS_eq_false_iff.mp h).1 (Int.not_le.mpr hlt)]

/-! ## Rounding half up (R205) -/

/-- The shift by 2^k is the division by 2^k of the other rounding. -/
theorem rnd_eq_divRound (k : Nat) (x : Int) : rnd k x = divRound x (2 ^ k) := by
  cases k with
  | zero => rw [rnd, if_pos rfl, divRound]; omega
  | succ j =>
    rw [rnd, if_neg (Nat.succ_ne_zero j), divRound, Nat.add_sub_cancel, cast_two_pow, cast_two_pow,
      show 2 * x + 2 ^ (j + 1) = 2 * (x + 2 ^ j) by omega, Int.mul_ediv_mul_of_pos _ _ (by decide)]

/-- ⌊x ÷ d + 1/2⌋, cleared of fractions. -/
theorem divRound_bounds {d : Int} (hd : 0 < d) (x : Int) :
    d * (2 * divRound x d) ≤ 2 * x + d ∧ 2 * x + d < d * (2 * divRound x d + 2) := by
  have hle := Int.mul_ediv_self_le (x := 2 * x + d) (k := 2 * d) (by omega)
  have hlt := Int.lt_mul_ediv_self_add (x := 2 * x + d) (k := 2 * d) (by omega)
  rw [← divRound, Int.mul_assoc] at hle hlt
  rw [Int.mul_add, Int.mul_left_comm]
  exact ⟨hle, by omega⟩

/-! ## Accumulators and narrowed vectors (R205 to R207) -/

theorem fitLanes_lanes8_changed (wrap : Bool) (n : Nat) (g : Nat → Cx) :
    (fitLanes wrap n (lanes8 g)).2 = true ↔ ∃ i < 8, (fitCx wrap n (g i)).2 = true := by
  simp [fitLanes, lanes8]

/-- An accumulator operation beside ZERO fits its eight exact results, and the mode decides which flag one that did not fit sets. -/
theorem accOp_eq {opc : Nat} (hopc : opc ≠ 8) (k : Nat) (wrap : Bool) (a : Acc) (x y : Vec) {l : List Cx × Bool}
    (hl : fitLanes wrap 40 (lanes8 (fun i => accLane opc k (lane a.lanes i) (lane x.lanes i) (lane y.lanes i))) = l) :
    accOp opc k wrap a x y =
      ({ lanes := l.1, tag := accTag opc a.tag x.tag y.tag, ovf := a.ovf || (l.2 && !wrap), wrp := a.wrp || (l.2 && wrap) }, l.2) := by
  rw [accOp, if_neg hopc, hl]

section
variable {opc k : Nat} {wrap bad : Bool} {a r : Acc} {x y : Vec} (hopc : opc ≠ 8) (h : accOp opc k wrap a x y = (r, bad))
include hopc h

theorem accOp_flags : r.ovf = (a.ovf || (bad && !wrap)) ∧ r.wrp = (a.wrp || (bad && wrap)) := by
  rw [accOp_eq hopc k wrap a x y rfl] at h
  obtain ⟨rfl, rfl⟩ := Prod.mk.inj h
  exact ⟨rfl, rfl⟩

theorem accOp_changed :
    bad = true ↔ ∃ i < 8, (fitCx wrap 40 (accLane opc k (lane a.lanes i) (lane x.lanes i) (lane y.lanes i))).2 = true := by
  rw [accOp_eq hopc k wrap a x y rfl] at h
  rw [← (Prod.mk.inj h).2, fitLanes_lanes8_changed]

end

/-- In either mode the tag of a narrowed vector takes the accumulator's flags, and VSAT where a lane did not fit. -/
theorem narrowAcc_tag {sh : Nat} {wrap bad : Bool} {a : Acc} {v : Vec} (h : narrowAcc wrap sh a = (v, bad)) :
    v.tag.ovf = (a.tag.ovf || a.ovf) ∧ v.tag.wrp = (a.tag.wrp || a.wrp) ∧ v.tag.vsat = (a.tag.vsat || bad) := by
  rw [narrowAcc] at h
  obtain ⟨rfl, rfl⟩ := Prod.mk.inj h
  exact ⟨rfl, rfl, rfl⟩

/-! ## The sticky bits of Kq_STAT (R206, R207, R212) -/

/-- Raising an event of Quay leaves the status words of its cores. -/
theorem kStat_clear {f : Field} {q : Nat} (h : f.addr = 0x91004 + 0x20 * (q % 96)) : f.clear 9 = true := by
  rw [Field.clear, decide_eq_true_iff, h]
  simp only [eventWords, evtAddr, F.TOP_IRQ_STAT_BLOCKS, F.TALLY_STAT_QUEUE, F.TALLY_LOST_COUNT, F.FHM_EVT_LOST_COUNT, List.mem_cons,
    List.not_mem_nil, or_false]
  omega

/-- A sticky bit takes what is said of it by OR. -/
theorem State.sticky_flag_same (s : State) (q code : Nat) {f : Field} (b : Bool) (hfits : f.fits = true) (hw : f.width = 1)
    (hc : f.clear (code / 256) = true) : (s.sticky q f code b).flag f = (s.flag f || b) := by
  unfold State.sticky
  cases b with
  | false => rw [Bool.false_and, if_neg (by decide), Bool.or_false]
  | true =>
    cases hs : s.flag f with
    | true => rw [if_neg (by decide), hs, Bool.true_or]
    | false =>
      rw [if_pos (by decide), State.flag_eq, State.get_raise _ _ _ hc, ← State.flag_eq,
        State.flag_putb s f true (of_decide_eq_true hfits) hw, Bool.false_or]

theorem State.sticky_flag_apart (s : State) (q code : Nat) {f g : Field} (b : Bool) (hfits : f.fits = true)
    (hap : f.apart g = true) (hc : g.clear (code / 256) = true) : (s.sticky q f code b).flag g = s.flag g := by
  unfold State.sticky
  split
  · rw [State.flag_eq, State.get_raise _ _ _ hc, State.putb_eq, State.get_put_other _ _ hfits hap, State.flag_eq]
  · rfl

section
variable (s : State) (q : Nat) (wrap : Bool) (r : Computed)

theorem State.stickies_flag_ovf :
    (s.stickies q wrap r).flag (F.QCTL_K_STAT_OVF q) = (s.flag (F.QCTL_K_STAT_OVF q) || (r.accBad && !wrap)) := by
  have hc : (F.QCTL_K_STAT_OVF q).clear 9 = true := kStat_clear rfl
  rw [State.stickies, State.sticky_flag_apart _ _ _ _ rfl (by simp [Field.apart, F.QCTL_K_STAT_OVF, F.QCTL_K_STAT_VSAT]) hc,
    State.sticky_flag_apart _ _ _ _ rfl (by simp [Field.apart, F.QCTL_K_STAT_OVF, F.QCTL_K_STAT_WRP]) hc,
    State.sticky_flag_same _ _ _ _ rfl rfl hc]

theorem State.stickies_flag_wrp :
    (s.stickies q wrap r).flag (F.QCTL_K_STAT_WRP q) = (s.flag (F.QCTL_K_STAT_WRP q) || ((r.accBad || r.vecBad) && wrap)) := by
  have hc : (F.QCTL_K_STAT_WRP q).clear 9 = true := kStat_clear rfl
  rw [State.stickies, State.sticky_flag_apart _ _ _ _ rfl (by simp [Field.apart, F.QCTL_K_STAT_WRP, F.QCTL_K_STAT_VSAT]) hc,
    State.sticky_flag_same _ _ _ _ rfl rfl hc,
    State.sticky_flag_apart _ _ _ _ rfl (by simp [Field.apart, F.QCTL_K_STAT_WRP, F.QCTL_K_STAT_OVF]) hc]

theorem State.stickies_flag_vsat :
    (s.stickies q wrap r).flag (F.QCTL_K_STAT_VSAT q) = (s.flag (F.QCTL_K_STAT_VSAT q) || r.vecBad) := by
  have hc : (F.QCTL_K_STAT_VSAT q).clear 9 = true := kStat_clear rfl
  rw [State.stickies, State.sticky_flag_same _ _ _ _ rfl rfl hc,
    State.sticky_flag_apart _ _ _ _ rfl (by simp [Field.apart, F.QCTL_K_STAT_VSAT, F.QCTL_K_STAT_WRP]) hc,
    State.sticky_flag_apart _ _ _ _ rfl (by simp [Field.apart, F.QCTL_K_STAT_VSAT, F.QCTL_K_STAT_OVF]) hc]

end

/-- Settles O21: wrapping takes the balanced residue modulo 2^n, and with WRAP = 1 a result that does not fit reaches the WRP flags and
VSAT but no OVF flag. -/
theorem quayWrapKeepsTheLowBits : Obligations.QuayWrapKeepsTheLowBits := by
  unfold Obligations.QuayWrapKeepsTheLowBits
  refine ⟨?lowBits, ?accumulator, ?narrowed, ?sticky⟩
  case lowBits =>
    intro n x hn
    exact fit_wrap_keeps_low_bits (by omega) x
  case accumulator =>
    intro opc k a r x y bad hopc h
    obtain ⟨hovf, hwrp⟩ := accOp_flags hopc h
    rw [Bool.not_true, Bool.and_false, Bool.or_false] at hovf
    rw [Bool.and_true] at hwrp
    exact ⟨hwrp, hovf, accOp_changed hopc h⟩
  case narrowed =>
    intro sh a v bad h
    obtain ⟨hovf, hwrp, hvsat⟩ := narrowAcc_tag h
    exact ⟨hwrp, hovf, hvsat⟩
  case sticky =>
    intro s q r _
    rw [State.stickies_flag_wrp, State.stickies_flag_vsat, State.stickies_flag_ovf, Bool.and_true, Bool.not_true, Bool.and_false,
      Bool.or_false, Bool.or_assoc]
    exact ⟨rfl, rfl, rfl⟩

/-- Settles O22: saturating clamps to the range of n bits, rounding half up is the bounds of its floor, and with WRAP = 0 a result that
does not fit reaches the OVF flag but no WRP flag. -/
theorem quaySaturatesAndRoundsHalfUp : Obligations.QuaySaturatesAndRoundsHalfUp := by
  unfold Obligations.QuaySaturatesAndRoundsHalfUp
  refine ⟨fun _ _ => rfl, ?ends, ?rounding, ?accumulator, ?narrowed⟩
  case ends =>
    intro n x _
    exact fit_saturate_holds_at_ends n x
  case rounding =>
    intro k x
    rw [rnd_eq_divRound]
    exact divRound_bounds (Int.pow_pos (by decide)) x
  case accumulator =>
    intro opc k a r x y bad hopc h
    obtain ⟨hovf, hwrp⟩ := accOp_flags hopc h
    rw [Bool.not_false, Bool.and_true] at hovf
    rw [Bool.and_false, Bool.or_false] at hwrp
    exact ⟨hovf, hwrp⟩
  case narrowed =>
    intro sh a v bad h
    obtain ⟨hovf, -, hvsat⟩ := narrowAcc_tag h
    exact ⟨hovf, hvsat⟩

/-! ## Dealing, core and cluster control, the shadow and core swaps (R200, R213, R215, R216, R218, R219, R223) -/

/-- Settles O39, clause by clause from what each command does where it takes effect: a block is dealt by its direction once its inputs
have come, instruction memory and the settings of a core or cluster go by RUN, the shadow's turn by the reserve and the cores that may be
swapped, and GO by the reason that refuses a swap. -/
theorem quayClusters : Obligations.QuayClusters := by
  unfold Obligations.QuayClusters
  refine ⟨?receiveDealt, ?transmitDealt, ?windowWritten, ?windowRefused, ?coreStarted, ?coreStopped, ?coreSettingRefused,
    ?clusterControl, ?clusterMap, ?clusterMapRefused, ?shadowTurn, ?swapStarted, ?swapRefused, ?swapSwitched⟩
  case receiveDealt =>
    intro s c t u hon ht hbegun hdir hready hu
    exact does_unitDeal hon c ht hbegun hdir hready hu
  case transmitDealt =>
    intro s c t x u hon ht hbegun hdir hx hready hu
    exact does_unitDeal_transmit hon c ht hbegun hdir hx hready hu
  case windowWritten =>
    intro s src q w v t hon ht hlevel hcluster hup hstopped
    exact does_quayWindowWrite hon src q w v ht hlevel hcluster hup hstopped
  case windowRefused =>
    intro s src q w v t hon ht hlevel hcluster hup himem hrun
    exact refuses_quayWindowWrite hon src q w v ht hlevel hcluster hup himem hrun
  case coreStarted =>
    intro s src q v t hon ht ho hup hstopped hrun
    exact does_coreRunWrite hon src q v ht ho hup hstopped hrun
  case coreStopped =>
    intro s src q v t hon ht ho hup hrunning hstop hsame
    exact drops_coreRunWrite hon src q v ht ho hup hrunning hstop hsame
  case coreSettingRefused =>
    intro s src q v t hon ht ho hup hrunning hrun hother
    exact refuses_coreRunWrite hon src q v ht ho hup hrunning hrun hother
  case clusterControl =>
    intro s src c v t u hon ht ho hup hstopped hu
    exact does_clusterCtlWrite hon src c v ht ho hup hstopped hu
  case clusterMap =>
    intro s src c v t hon ht ho hup hstopped
    exact does_clusterCtlWrite_map hon src c v ht ho hup hstopped
  case clusterMapRefused =>
    intro s src c v t hon ht ho hup hrunning
    exact refuses_clusterCtlWrite hon src c v ht ho hup hrunning
  case shadowTurn =>
    intro s c t u cl r k rs ks hon hshadow hcl hup hen hinRun hswap hreserve hnext ht hu
    exact does_shadowTurn hon c hshadow hcl hup hen hinRun hswap hreserve hnext ht hu
  case swapStarted =>
    intro s src c v t u x y w i o hon ht hw ho hup hallowed hi ho' hu hx hy
    exact does_coreSwapGo hon src c v ht hw ho hup hallowed hi ho' hu hx hy
  case swapRefused =>
    intro s src c v t w r hon ht hw ho hup hreason hbad
    exact refuses_coreSwapGo hon src c v ht hw ho hup hreason hbad
  case swapSwitched =>
    intro s c p t u x y hon hp hseen ht hu hx hy hreserve
    exact does_coreSwapSwitch hon c hp hseen ht hu hx hy hreserve

end Sys2Proof.Machine

/-! Proofs of the statements of family 11_berths_and_beam_schedule.md: the schedules and berths, ALIGN and the berth calibration. -/

namespace Sys2Proof.Machine

/-! ## The schedules, berth switches and window writes (R228, R231 to R235, R293; log entry 32) -/

/-- Settles O40, clause by clause from what each command does where it takes effect: a schedule command goes by the ring, the checks and
the staging of the entry it names, a window write by whether it is a weight or a descriptor, and MASK_APPLY by whether a mask waits. -/
theorem beamSchedule : Obligations.BeamSchedule := by
  unfold Obligations.BeamSchedule
  refine ⟨?added, ?addRefused, ?addRefusedOnMember, ?cancelled, ?cancelRefused, ?flushed, ?opReserved, ?staged, ?switched,
    ?weightWritten, ?descriptorWritten, ?maskApplied, ?sumsApplied⟩
  case added =>
    intro s src v dir b a t w hon ht hw ho ha hdir hb hformed hcheck
    exact does_schedAdd hon src v ht hw ho ha hdir hb hformed hcheck
  case addRefused =>
    intro s src v dir b r a t w hon ht hw ho ha hdir hb hformed hr hne
    exact refuses_schedAdd hon src v ht hw ho ha hdir hb hformed hr hne
  case addRefusedOnMember =>
    intro s src v t w hon ht hw ho hformed hchip
    exact refuses_schedAdd_member hon src v ht hw ho hformed hchip
  case cancelled =>
    intro s src v dir a e t u w hon ht hw ho ha hdir hqueue hcopy hu hformed hstill
    exact does_schedCancel hon src v ht hw ho ha hdir hqueue hcopy hu hformed hstill
  case cancelRefused =>
    intro s src v dir r a t w hon ht hw ho ha hdir hbad hformed
    exact refuses_schedCancel hon src v ht hw ho ha hdir hbad hformed
  case flushed =>
    intro s src v dir t u w hon ht hw ho hdir hu hformed hstill
    exact does_schedFlush hon src v ht hw ho hdir hu hformed hstill
  case opReserved =>
    intro s src v t w hon ht hw ho
    exact does_schedOpReserved hon src v ht hw ho
  case staged =>
    intro s dir e t hon hqueue ht
    exact does_berthStage hon dir hqueue ht
  case switched =>
    intro s dir e l c t u v hon hqueue hcopy ht hu hv
    exact does_berthSwitch hon dir hqueue hcopy ht hu hv
  case weightWritten =>
    intro s src dir b w v t hon ht hweight hpath hlevel
    exact does_berthWindowWrite hon src dir b w v ht hweight hpath hlevel
  case descriptorWritten =>
    intro s src dir b w v a t hon ht hdesc ha ho
    exact does_berthWindowWrite_descriptor hon src dir b w v ht hdesc ha ho
  case maskApplied =>
    intro s dir a hon hmask
    exact does_maskApply hon dir hmask
  case sumsApplied =>
    intro s dir hon hmask
    exact does_maskApply_sums hon dir hmask

/-! ## ALIGN, berth calibration and the counters of BERTH (R224, R226, R231, R237) -/

/-- Settles O41, clause by clause from what each command does where it takes effect: new values of ALIGN wait for their instant, a
calibration goes by what stands, by the gap and by the paths that did not fail, and each bit of CNT_CLR clears its own counter where the
other bit is 0. -/
theorem berthAlignmentAndCalibration : Obligations.BerthAlignmentAndCalibration := by
  unfold Obligations.BerthAlignmentAndCalibration
  refine ⟨?alignWritten, ?alignApplied, ?calRequest, ?calRequestRefused, ?calStart, ?calTimeout, ?calDone, ?clearSat, ?clearRef⟩
  case alignWritten =>
    intro s src p dir pcal v a t hon ht ha ho
    exact does_alignWrite hon src p dir pcal v ht ha ho
  case alignApplied =>
    intro s p dir a t new hon halignAt ht hnew hnear
    exact does_alignApply hon p dir halignAt ht hnew hnear
  case calRequest =>
    intro s src v t w hon ht hw ho hkind hen happlied hmanifold hrxIdle htxIdle hberthIdle
    exact does_bcalReq hon src v ht hw ho hkind hen happlied hmanifold hrxIdle htxIdle hberthIdle
  case calRequestRefused =>
    intro s src v t w hon ht hw ho hbad
    exact refuses_bcalReq hon src v ht hw ho hbad
  case calStart =>
    intro s kind w e u hon hcal hgap he hu
    exact does_bcalStart hon hcal hgap he hu
  case calTimeout =>
    intro s kind w t hon hcal ht
    exact does_bcalTimeout hon hcal ht
  case calDone =>
    intro s fail kind w e n bad t u v x live hon hcal ht hdraw hlive hv hbad hx
    exact does_bcalDone hon fail hcal ht hdraw hlive hv hbad hx
  case clearSat =>
    intro s src v t w hon ht hw ho hbit0
    exact does_berthCntClrSat hon src v ht hw ho hbit0
  case clearRef =>
    intro s src v t w hon ht hw ho hbit1
    exact does_berthCntClrRef hon src v ht hw ho hbit1

end Sys2Proof.Machine

/-! Proofs of the statements of family 12_fronthaul_physical.md: the training of the links, and their lanes in service. -/

namespace Sys2Proof.Machine

/-! ## Training of a brick or ring port (R85, R248 to R252, R257, R259; log entries 2, 33) -/

/-- Settles O42, clause by clause from what each command does where it takes effect: each training state has its own answer to an ALIGN
set, to its time running out and to a lost clock, and training begins again from DOWN and from BYPASS. -/
theorem linkTraining : Obligations.LinkTraining := by
  unfold Obligations.LinkTraining
  refine ⟨?setInLock, ?setInDeskew, ?setInHandshake, ?signalDetected, ?lockExpires, ?equaliseExpires, ?qualifyExpires,
    ?deskewOrHandshakeExpires, ?trainingAbandoned, ?retrainAfterDown, ?retrainFromBypass, ?columnInTraining, ?clockLostInTraining⟩
  case setInLock =>
    intro s l sets skew hon hstate
    exact does_alignSetReceived_lock hon l sets skew hstate
  case setInDeskew =>
    intro s l sets skew a hon hstate haccept
    exact does_alignSetReceived_deskew hon l sets skew hstate haccept
  case setInHandshake =>
    intro s l sets skew a hon hstate haccept
    exact does_alignSetReceived_handshake hon l sets skew hstate haccept
  case signalDetected =>
    intro s l hon hstate
    exact does_signalDetect hon l hstate
  case lockExpires =>
    intro s l t u ok hon hstate ht hfail
    exact does_trainStateTimeout_lock hon l hstate ht hfail
  case equaliseExpires =>
    intro s l hon hstate
    exact does_trainStateTimeout hon l hstate
  case qualifyExpires =>
    intro s l t u ok hon hstate ht hfail
    exact does_trainStateTimeout_qualify hon l hstate ht hfail
  case deskewOrHandshakeExpires =>
    intro s l hon hstate
    exact does_trainStateTimeout_again hon l hstate
  case trainingAbandoned =>
    intro s l hon hstate
    exact does_trainTimeout hon l hstate
  case retrainAfterDown =>
    intro s l hon hstate
    exact does_retrainStart hon l hstate
  case retrainFromBypass =>
    intro s l hon hstate hmode
    exact does_retrainStart_bypass hon l hstate hmode
  case columnInTraining =>
    intro s l col hon hup
    exact does_dataColumnReceived_training hon l col hup
  case clockLostInTraining =>
    intro s l hon hstate
    exact does_fwdClockLoss_training hon l hstate

/-! ## Lanes in service (R244, R247, R248, R253 to R255, R259; log entry 33) -/

/-- Settles O43, clause by clause from what each command does where it takes effect: a missing set goes by the miss before it, a lost
lane by the repair and the parity that stand, a requalification by its outcome, the adaptation by the measured decisions, and RETRAIN by
the state of the brick. -/
theorem linksInService : Obligations.LinksInService := by
  unfold Obligations.LinksInService
  refine ⟨?setInUp, ?firstSetMissing, ?secondSetMissing, ?columnWhole, ?laneEntersRepair, ?laneTakesLinkDown, ?requalified,
    ?requalificationFails, ?remapStalls, ?clockLost, ?dfeAdapts, ?ctleAdapts, ?eyeMeasured, ?retrainA, ?retrainB, ?countersCleared⟩
  case setInUp =>
    intro s l sets skew a hon hstate haccept
    exact does_alignSetReceived hon l sets skew hstate haccept
  case firstSetMissing =>
    intro s l hon hstate hmiss
    exact does_alignSetMissing hon l hstate hmiss
  case secondSetMissing =>
    intro s l hon hstate hmiss
    exact does_alignSetMissing_down hon l hstate hmiss
  case columnWhole =>
    intro s l col known p hon hup hrepair hfull hoff hstripe hparity hp
    exact does_dataColumnReceived hon l col hup hrepair hfull hoff hstripe hparity hp
  case laneEntersRepair =>
    intro s l lane u hon hup hrepair hoff hpar hu
    exact does_laneSignalLoss hon l lane hup hrepair hoff hpar hu
  case laneTakesLinkDown =>
    intro s l lane hon hup hrepair hoff hsecond
    exact does_laneSignalLoss_down hon l lane hup hrepair hoff hsecond
  case requalified =>
    intro s l lane hon hup hwiden hstate
    exact does_requalAttemptDone hon l lane hup hwiden hstate
  case requalificationFails =>
    intro s l lane n t hon hup hwiden hstate hn ht
    exact does_requalAttemptDone_fails hon l lane hup hwiden hstate hn ht
  case remapStalls =>
    intro s l k n rest hon hup hasked
    exact does_remapStalled hon l hup hasked
  case clockLost =>
    intro s l hon hstate
    exact does_fwdClockLoss hon l hstate
  case dfeAdapts =>
    intro s l lane d0 d1 d2 d3 d4 hon hadapts
    exact does_dfeAdapt hon l lane d0 d1 d2 d3 d4 hadapts
  case ctleAdapts =>
    intro s l lane a c hon hadapts ha hc
    exact does_ctleAdapt hon l lane hadapts ha hc
  case eyeMeasured =>
    intro s l lane height width hon hup
    exact does_eyeMeasure hon l lane height width hup
  case retrainA =>
    intro s src v t w hon hw ho ht hbit5 hstate
    exact does_fhlRetrainA hon src v hw ho ht hbit5 hstate
  case retrainB =>
    intro s src v t w hon hw ho ht hbit4 hstate
    exact does_fhlRetrainB hon src v hw ho ht hbit4 hstate
  case countersCleared =>
    intro s src v t hon ht ho
    exact does_fhlCntClr hon src v ht ho

end Sys2Proof.Machine

/-! Proofs of the statements of family 13_fronthaul_messages.md: frames, sections and gaps, and the commands that messages carry. -/

namespace Sys2Proof.Machine

/-! ## Frames, sections, placements, gaps and notices (R265, R269, R271 to R274, R276, R279, R287) -/

/-- Settles O44, clause by clause from what each command does where it takes effect: a frame and a section go by the cause that their
checks find, a section sent by the placement of its stream, and gaps and notices by the front of their lists. -/
theorem framesAndSections : Obligations.FramesAndSections := by
  unfold Obligations.FramesAndSections
  refine ⟨?frameTaken, ?frameDiscarded, ?sectionStored, ?sectionCounted, ?sectionFormed, ?placementWritten, ?gapBegins, ?gapEnds,
    ?noticesSent, ?controlWritten, ?countersCleared⟩
  case frameTaken =>
    intro s l f idle fill other m t hon hup hm ht hroom hwait hcause
    exact does_linkFrameRx hon l f idle fill other hup hm ht hroom hwait hcause
  case frameDiscarded =>
    intro s l f bad idle fill other m c t hon hup hm ht hroom hwait hcause
    exact refuses_linkFrameRx hon l f bad idle fill other hup hm ht hroom hwait hcause
  case sectionStored =>
    intro s b payload x t u n data hon hup hparse ht hn hcheck hdata hu
    exact does_txSectionRx hon b payload hup hparse ht hn hcheck hdata hu
  case sectionCounted =>
    intro s b payload x t c hon hup hparse ht hc hne
    exact refuses_txSectionRx hon b payload hup hparse ht hc hne
  case sectionFormed =>
    intro s m slack b n seq on_ t u x hon ht hb hrunning hplacedHere hready hn hseq hplacement hu hplaced hup hx
    exact does_rxSectionForm hon m slack ht hb hrunning hplacedHere hready hn hseq hplacement hu hplaced hup hx
  case placementWritten =>
    intro s src m v t hon ht ho
    exact does_rxsCfgWrite hon src m v ht ho
  case gapBegins =>
    intro s g t u hon hfind ht hu
    exact does_gapBegin hon hfind ht hu
  case gapEnds =>
    intro s g t hon hfind ht
    exact does_gapEnd hon hfind ht
  case noticesSent =>
    intro s b seq l hon hnotices hup hen hb hl hseq
    exact does_eventMsgSend hon hnotices hup hen hb hl hseq
  case controlWritten =>
    intro s src v t hon ht ho
    exact does_fhmCtlWrite hon src v ht ho
  case countersCleared =>
    intro s src v t u w hon ht hw ho hu
    exact does_fhmCntClr hon src v ht hw ho hu

/-! ## Real-time control and remote access messages (R275 to R278, R280, R293, R414; log entries 17, 34) -/

/-- Settles O45, clause by clause from what each command does where it takes effect: a real-time command is answered with the result of
the operation that it names, a remote access goes by whether its request is well formed, and an answer by the access that awaits it. -/
theorem remoteCommands : Obligations.RemoteCommands := by
  unfold Obligations.RemoteCommands
  refine ⟨?berthAdd, ?berthCancel, ?berthFlush, ?gapGrant, ?gapRevoke, ?rxNcoRetune, ?txNcoRetune, ?synRetune, ?berthAddOnMember,
    ?unknown, ?readAnswered, ?writeAnswered, ?writeRefused, ?writeSilent, ?answerTaken, ?resetAnswered⟩
  case berthAdd =>
    intro s via flags seq body r t hon hup hbrick hlength hcur hlevel hadd
    exact does_rtcBerthAdd hon via flags seq body hup hbrick hlength hcur hlevel hadd
  case berthCancel =>
    intro s via flags seq body r t hon hup hbrick hlength hcur hlevel htime hrun hcancel
    exact does_rtcBerthCancel hon via flags seq body hup hbrick hlength hcur hlevel htime hrun hcancel
  case berthFlush =>
    intro s via flags seq body r t hon hup hbrick hlength hcur hlevel hrun hflush
    exact does_rtcBerthFlush hon via flags seq body hup hbrick hlength hcur hlevel hrun hflush
  case gapGrant =>
    intro s via flags seq body r t hon hup hbrick hlength hcur hlevel htime hgrant
    exact does_rtcGapGrant hon via flags seq body hup hbrick hlength hcur hlevel htime hgrant
  case gapRevoke =>
    intro s via flags seq body r t hon hup hbrick hlength hcur hlevel htime hrevoke
    exact does_rtcGapRevoke hon via flags seq body hup hbrick hlength hcur hlevel htime hrevoke
  case rxNcoRetune =>
    intro s via flags seq body t w f a hon hup hbrick hlength hcur hlevel ha htime hw hf hdir hdsp hretune
    exact does_rtcNcoRetune hon via flags seq body hup hbrick hlength hcur hlevel ha htime hw hf hdir hdsp hretune
  case txNcoRetune =>
    intro s via flags seq body t w f a hon hup hbrick hlength hcur hlevel ha htime hw hf hdir hdsp hretune
    exact does_rtcNcoRetune_tx hon via flags seq body hup hbrick hlength hcur hlevel ha htime hw hf hdir hdsp hretune
  case synRetune =>
    intro s via flags seq body t n nn dv a hon hup hbrick hlength hcur hlevel ha htime hn hnn hdv hretune
    exact does_rtcSynRetune hon via flags seq body hup hbrick hlength hcur hlevel ha htime hn hnn hdv hretune
  case berthAddOnMember =>
    intro s flags seq body t a hon hhears hrun ha ht
    exact does_rtcBerthAdd_member hon flags seq body hhears hrun ha ht
  case unknown =>
    intro s via cmd flags seq body hon hup hbrick hunlisted
    exact does_rtcUnknown hon via cmd flags seq body hup hbrick hunlisted
  case readAnswered =>
    intro s via id elem addr len l t hon hhears hdevice hchip hlegal hload
    exact does_rmaRead hon via id elem addr len hhears hdevice hchip hlegal hload
  case writeAnswered =>
    intro s via id elem addr data hon hhears hdevice hchip hlegal
    exact does_rmaWrite hon via id elem addr data hhears hdevice hchip hlegal
  case writeRefused =>
    intro s via id elem addr data hon hhears hdevice hchip hlegal
    exact refuses_rmaWrite hon via id elem addr data hhears hdevice hchip hlegal
  case writeSilent =>
    intro s via id elem addr data hon hhears hdevice hchip hlegal
    exact does_rmaWriteNoResp hon via id elem addr data hhears hdevice hchip hlegal
  case answerTaken =>
    intro s b id ok n x e t hon hup hn hx hhold hbrick hfind ht
    exact does_rmaResponseRx hon b id ok hup hn hx hhold hbrick hfind ht
  case resetAnswered =>
    intro s b id hon hup hlevel
    exact does_resetRequest hon b id hup hlevel

end Sys2Proof.Machine

/-! Proofs of the statements of family 14_cascade_ring.md: the members of a ring and its routes, ring sync and the cross-device
calibration. -/

namespace Sys2Proof.Machine

/-! ## Joining a ring, its routes, partial sums and forwarding (R284, R288, R289, R291 to R294; log entry 35) -/

/-- Settles O46, clause by clause from what each command does where it takes effect: a device that asks goes by its chain configuration,
a route by whether the device is the head, a partial sum by the port and the core that waits, and a forwarded layer by the place in the
ring. -/
theorem ringMembersAndRoutes : Obligations.RingMembersAndRoutes := by
  unfold Obligations.RingMembersAndRoutes
  refine ⟨?joined, ?joinRefused, ?joinedAtMember, ?topologyReported, ?routeSwitched, ?routeSwitchedAtMember, ?psumHeld, ?psumReplaced,
    ?layerForwarded, ?layerPassedOn, ?panelSumsTaken⟩
  case joined =>
    intro s d cfg nco t u hon hlive hdevice hsize hchip hup hcfg ht hjoined hu
    exact does_memberJoin hon d cfg nco hlive hdevice hsize hchip hup hcfg ht hjoined hu
  case joinRefused =>
    intro s d cfg nco t hon hlive hdevice hsize hchip hup hcfg ht
    exact refuses_memberJoin hon d cfg nco hlive hdevice hsize hchip hup hcfg ht
  case joinedAtMember =>
    intro s d cfg nco hon hlive hdevice hsize hchip hcfg
    exact does_memberJoin_member hon d cfg nco hlive hdevice hsize hchip hcfg
  case topologyReported =>
    intro s d up data we ww hon hhead hlive hdevice hsize
    exact does_ringTopoReport hon d up data we ww hhead hlive hdevice hsize
  case routeSwitched =>
    intro s at_ w e members a hw he hon hhead hroute
    exact does_routeSwitch hon at_ w e members hhead hroute
  case routeSwitchedAtMember =>
    intro s at_ w e members hon hhead hmember hlive
    exact does_routeSwitch_member hon at_ w e members hhead hmember hlive
  case psumHeld =>
    intro s port payload x hon hrun hsize hup hen hport hparse hformat
    exact does_psumSectionRx hon port payload hrun hsize hup hen hport hparse hformat
  case psumReplaced =>
    intro s q i a t u hon hruns hxmode hxp hsize hsi1 hi hsince hunit ht hu
    exact does_psumTimeout hon q hruns hxmode hxp hsize hsi1 hi hsince hunit ht hu
  case layerForwarded =>
    intro s l port payload slack t u j hon ht hrun hsize hchip htx hcut hu
    exact does_layerForward hon l port payload slack ht hrun hsize hchip htx hcut hu
  case layerPassedOn =>
    intro s l port payload slack t hon ht hrun hsize hchip hup hjoined
    exact does_layerForward_member hon l port payload slack ht hrun hsize hchip hup hjoined
  case panelSumsTaken =>
    intro s d l base next hon hlive hother hsize hbase hnext
    exact does_panelSumsRx hon d l hlive hother hsize hbase hnext

/-! ## Ring sync, cross-device calibration and the ring ports (R259, R291, R294, R295; log entries 2, 35) -/

/-- Settles O47, clause by clause from what each command does where it takes effect: a sync and a calibration go by whether the device
is the head, a held calibration also by the gap, and RETRAIN by the state of the port. -/
theorem ringSyncAndCalibration : Obligations.RingSyncAndCalibration := by
  unfold Obligations.RingSyncAndCalibration
  refine ⟨?syncIssued, ?syncAskedByMember, ?syncAtHead, ?syncAtMember, ?calRequest, ?calRequestRefused, ?calStart, ?calTimeout,
    ?calDoneAtMember, ?calDoneAtHead, ?retrainEast, ?retrainWest, ?countersCleared⟩
  case syncIssued =>
    intro s src v t hon ht ho hlive hchip hsync
    exact does_ringSyncGo hon src v ht ho hlive hchip hsync
  case syncAskedByMember =>
    intro s src v t hon ht ho hlive hchip hjoined
    exact does_ringSyncGo_member hon src v ht ho hlive hchip hjoined
  case syncAtHead =>
    intro s at_ a u hon hlive hchip hsync hu
    exact does_ringSync hon at_ hlive hchip hsync hu
  case syncAtMember =>
    intro s at_ u hon hlive hchip hjoined hu
    exact does_ringSync_member hon at_ hlive hchip hjoined hu
  case calRequest =>
    intro s src v t hon ht ho hcalio hhead hformed hen hrxIdle htxIdle hberthIdle hxcalIdle
    exact does_xcalReq hon src v ht ho hcalio hhead hformed hen hrxIdle htxIdle hberthIdle hxcalIdle
  case calRequestRefused =>
    intro s src calio v t hon ht ho hbad
    exact refuses_xcalReq hon src calio v ht ho hbad
  case calStart =>
    intro s w e t hon hxcal hgap he ht hbusy
    exact does_xcalStart hon hxcal hgap he ht hbusy
  case calTimeout =>
    intro s w hon hxcal hgap hbusy hlate
    exact refuses_xcalStart hon hxcal hgap hbusy hlate
  case calDoneAtMember =>
    intro s txAlign txRe txIm rxAlign rxRe rxIm hon hhead hmember hjoined htxOk hrxOk
    exact does_xcalDone_member hon txAlign txRe txIm rxAlign rxRe rxIm hhead hmember hjoined htxOk hrxOk
  case calDoneAtHead =>
    intro s txAlign txRe txIm rxAlign rxRe rxIm w n e t u v ds bad hon hhead hxcal hdraw hds hbad hu hv
    exact does_xcalDone hon txAlign txRe txIm rxAlign rxRe rxIm hhead hxcal hdraw hds hbad hu hv
  case retrainEast =>
    intro s src v t w hon hw ho ht hbit5 hstate
    exact does_ringRetrainE hon src v hw ho ht hbit5 hstate
  case retrainWest =>
    intro s src v t w hon hw ho ht hbit4 hstate
    exact does_ringRetrainW hon src v hw ho ht hbit4 hstate
  case countersCleared =>
    intro s src v t hon ht ho
    exact does_ringCntClr hon src v ht ho

end Sys2Proof.Machine

/-! Proofs of the statements of family 15_tide.md: the exchanges of Tide, and the timed outputs. -/

namespace Sys2Proof.Machine

/-! ## Tide exchanges, accepted offsets and timed outputs (R300, R302, R303, R308, R310 to R313) -/

/-- Settles O48, clause by clause from what each command does where it takes effect: an exchange goes by the instants that it holds, a
timed output command by the check of its pin and instant, and an edge by the entries that are due. -/
theorem tideAndTimedOutputs : Obligations.TideAndTimedOutputs := by
  unfold Obligations.TideAndTimedOutputs
  refine ⟨?exchangeStarts, ?requestAnswered, ?exchangeComplete, ?exchangeLost, ?holds, ?offsetAcknowledged, ?asymmetryWritten,
    ?countersCleared, ?outputAdded, ?addRefused, ?queueFlushed, ?flushRefused, ?opReserved, ?edgeDue, ?pulseModeWritten⟩
  case exchangeStarts =>
    intro s hon hok hxchg
    exact does_tideExchangeStart hon hok hxchg
  case requestAnswered =>
    intro s l b hon hup hcur hlength hrequest
    exact does_type5MessageRx hon l b hup hcur hlength hrequest
  case exchangeComplete =>
    intro s x t1 t2 t4 hon hxchg ht1 ht2 ht4
    exact does_tideExchangeComplete hon hxchg ht1 ht2 ht4
  case exchangeLost =>
    intro s x hon hxchg hmissing
    exact does_tideExchangeLost hon hxchg hmissing
  case holds =>
    intro s hon hstate
    exact does_tideHold hon hstate
  case offsetAcknowledged =>
    intro s src v t w hon ht hw ho
    exact does_tideAck hon src v ht hw ho
  case asymmetryWritten =>
    intro s src j v t hon ht ho
    exact does_tideAsymWrite hon src j v ht ho
  case countersCleared =>
    intro s src v t hon ht ho
    exact does_tideCntClr hon src v ht ho
  case outputAdded =>
    intro s src v t w pin at_ hon ht hw hpin hat ho hcheck
    exact does_toAdd hon src v ht hw hpin hat ho hcheck
  case addRefused =>
    intro s src v t w pin at_ hon ht hw hpin hat ho hcheck
    exact refuses_toAdd hon src v ht hw hpin hat ho hcheck
  case queueFlushed =>
    intro s src v t w pin hon ht hw hpin ho hlisted
    exact does_toFlush hon src v ht hw hpin ho hlisted
  case flushRefused =>
    intro s src v t w pin hon ht hw hpin ho hlisted
    exact refuses_toFlush hon src v ht hw hpin ho hlisted
  case opReserved =>
    intro s src v t w pin hon ht hw hpin ho
    exact does_toOpReserved hon src v ht hw hpin ho
  case edgeDue =>
    intro s pin e es due rest hon hqueue hdue
    exact does_timedOutputEdge hon pin hqueue hdue
  case pulseModeWritten =>
    intro s src n v t hon ht ho
    exact does_tpulseModeWrite hon src n v ht ho

end Sys2Proof.Machine

/-! Proofs of the statements of family 16_lookout_and_coexistence.md: coexistence, energy detection and the preamble watchers. -/

namespace Sys2Proof.Machine

/-! ## Coexistence input, energy detection and the preamble watchers (R317, R320 to R326, R332; log entry 37) -/

/-- Settles O49, clause by clause from what each command does where it takes effect: an edge of COEX_ACT goes by the pin before it, a
watcher by its state and by whether the other one receives, and a setting by EN. -/
theorem lookoutCommands : Obligations.LookoutCommands := by
  unfold Obligations.LookoutCommands
  refine ⟨?actRises, ?actFalls, ?binEnds, ?stfDetected, ?ltfSynced, ?ltfTimesOut, ?lsigAccepted, ?lsigFalse, ?busyEnds, ?controlWritten,
    ?settingWritten, ?settingRejected, ?countersCleared⟩
  case actRises =>
    intro s t hon hpin ht
    exact does_coexActRise hon hpin ht
  case actFalls =>
    intro s e t hon hpin he ht
    exact does_coexActFall hon hpin he ht
  case binEnds =>
    intro s l e t hon hsensing he ht
    exact does_edBinEnd hon l hsensing he ht
  case stfDetected =>
    intro s b c w pd x u hon hx hwatching hstate hdeaf hthr hother hu
    exact does_stfDetect hon b c w pd hx hwatching hstate hdeaf hthr hother hu
  case ltfSynced =>
    intro s b c w p x hon hx hwatching hstate hnow
    exact does_ltfSync hon b c w p hx hwatching hstate hnow
  case ltfTimesOut =>
    intro s b c w k hon hk hwatching hstate
    exact does_ltfTimeout hon b c w hk hwatching hstate
  case lsigAccepted =>
    intro s b c w sig k t x z ts te hon hk hwatching hstate ht hlegal hts hte hx hother hz
    exact does_lsigDecode hon b c w sig hk hwatching hstate ht hlegal hts hte hx hother hz
  case lsigFalse =>
    intro s b c w sig k t hon hk hwatching hstate ht hlegal
    exact does_lsigDecode_false hon b c w sig hk hwatching hstate ht hlegal
  case busyEnds =>
    intro s b c w k t hon hk hwatching hstate ht
    exact does_watcherBusyEnd hon b c w hk hwatching hstate ht
  case controlWritten =>
    intro s src v t hon ht ho
    exact does_lookCtlWrite hon src v ht ho
  case settingWritten =>
    intro s src i v t hon ht ho hen
    exact does_lookCfgWrite hon src i v ht ho hen
  case settingRejected =>
    intro s src i v t hon ht ho hen
    exact refuses_lookCfgWrite hon src i v ht ho hen
  case countersCleared =>
    intro s src v t hon ht ho
    exact does_lookCntClr hon src v ht ho

end Sys2Proof.Machine

/-! Proofs of the statements of family 17_front_end_control_and_breakwater.md: bias outputs and PA sequences, RFFE and Breakwater. -/

namespace Sys2Proof.Machine

/-! ## Bias writes, PA sequences and front-end faults (R337 to R339, R343) -/

/-- Settles O50, clause by clause from what each command does where it takes effect: a bias write goes by its quad being OFF and by
RANGE, a sequence by its step, and a fault by what caused and what cleared it. -/
theorem powerAmplifierSequences : Obligations.PowerAmplifierSequences := by
  unfold Obligations.PowerAmplifierSequences
  refine ⟨?biasMoves, ?rangeRefused, ?quadsOn, ?quadsOff, ?ignored, ?rampsAfterDrain, ?offAfterDrain, ?onWhenArrived,
    ?drainRisesWhenSafe, ?drainWaitWhenSafe, ?faultDrainsOff, ?vnegFaults, ?vnegRestored, ?synUnlockFaults⟩
  case biasMoves =>
    intro s src o v t park hon ht ho hpark hquadOff hnoRamp hfault hrun
    exact does_biasWrite hon src o v ht ho hpark hquadOff hnoRamp hfault hrun
  case rangeRefused =>
    intro s src o v t hon ht ho hbias hrange hquadOff
    exact refuses_biasWrite hon src o v ht ho hbias hrange hquadOff
  case quadsOn =>
    intro s src v t w hon ht hw ho
    exact does_paCmdOn hon src v ht hw ho
  case quadsOff =>
    intro s src v t w hon ht hw ho
    exact does_paCmdOff hon src v ht hw ho
  case ignored =>
    intro s src v t w hon ht hw ho
    exact does_paCmdIgnored hon src v ht hw ho
  case rampsAfterDrain =>
    intro s q t hon hstep ht
    exact does_paDrainWaitEnd hon q hstep ht
  case offAfterDrain =>
    intro s q t hon hstep ht
    exact does_paDrainWaitEnd_off hon q hstep ht
  case onWhenArrived =>
    intro s q t hon hstep ht hstillStep
    exact does_paBiasArrived hon q hstep ht hstillStep
  case drainRisesWhenSafe =>
    intro s q t hon hstep ht hstillStep
    exact does_paBiasArrived_drain hon q hstep ht hstillStep
  case drainWaitWhenSafe =>
    intro s q t hon hstep ht hstillStep
    exact does_paBiasArrived_off hon q hstep ht hstillStep
  case faultDrainsOff =>
    intro s a hon hdrain
    exact does_feFaultDrainOff hon hdrain
  case vnegFaults =>
    intro s hon hfault
    exact does_vnegFault hon hfault
  case vnegRestored =>
    intro s n t u hon hn hvneg ht hfault hu hauto hrun
    exact does_vnegRestored hon hn hvneg ht hfault hu hauto hrun
  case synUnlockFaults =>
    intro s a hon hsince hbadLo
    exact does_synUnlockFault hon hsince hbadLo

/-! ## RFFE commands and Breakwater (R342, R344 to R346, R351, R353 to R355, R357; log entry 38) -/

/-- Settles O51, clause by clause from what each command does where it takes effect: an RFFE command goes by the check of its master, a
transfer by its direction, and Breakwater judges the block, the granule and the burst that come next. -/
theorem rffeAndBreakwater : Obligations.RffeAndBreakwater := by
  unfold Obligations.RffeAndBreakwater
  refine ⟨?writeQueued, ?readQueued, ?reg0WriteQueued, ?extWriteQueued, ?extReadQueued, ?commandRefused, ?commandUnknown,
    ?transferStarts, ?writeEnds, ?readEnds, ?fendCountersCleared, ?crossCheckCleared, ?blockJudged, ?granuleDecided, ?burstExpires,
    ?clearanceAsked, ?bwtrCountersCleared⟩
  case writeQueued =>
    intro s src n v t w c hon ht hw ho hc hcheck
    exact does_rffeWrite hon src n v ht hw ho hc hcheck
  case readQueued =>
    intro s src n v t w c hon ht hw ho hc hcheck
    exact does_rffeRead hon src n v ht hw ho hc hcheck
  case reg0WriteQueued =>
    intro s src n v t w c hon ht hw ho hc hcheck
    exact does_rffeReg0Write hon src n v ht hw ho hc hcheck
  case extWriteQueued =>
    intro s src n v t w c hon ht hw ho hc hcheck
    exact does_rffeExtWrite hon src n v ht hw ho hc hcheck
  case extReadQueued =>
    intro s src n v t w c hon ht hw ho hc hcheck
    exact does_rffeExtRead hon src n v ht hw ho hc hcheck
  case commandRefused =>
    intro s src n v t w c hon ht hw ho hc hcheck
    exact refuses_rffeWrite hon src n v ht hw ho hc hcheck
  case commandUnknown =>
    intro s src n v t w c k hon ht hk hw ho hc
    exact does_rffeCmdUnknown hon src n v ht hk hw ho hc
  case transferStarts =>
    intro s n c q t hon hbusy hqueue ht
    exact does_rffeCommandStart hon n hbusy hqueue ht
  case writeEnds =>
    intro s n bytes perr x c hon hx hbusy hwrites
    exact does_rffeCommandDone hon n bytes perr hx hbusy hwrites
  case readEnds =>
    intro s n bytes perr x c k data u v hon hx hbusy hwrites hk hdata hu hv
    exact does_rffeCommandDone_read hon n bytes perr hx hbusy hwrites hk hdata hu hv
  case fendCountersCleared =>
    intro s src v t w hon ht hw ho
    exact does_fendCntClr hon src v ht hw ho
  case crossCheckCleared =>
    intro s src half v t hon ht ho
    exact does_xchkClrWrite hon src half v ht ho
  case blockJudged =>
    intro s hon hrun hstarted hblock
    exact does_bwBlockVerdict hon hrun hstarted hblock
  case granuleDecided =>
    intro s g hon hg
    exact does_bwGranuleDecision hon hg
  case burstExpires =>
    intro s b tr hon hband hburst hcot
    exact does_cotExpiry hon hband hburst hcot
  case clearanceAsked =>
    intro s a hon hrise hshared hrun
    exact does_lbtQuery hon hrise hshared hrun
  case bwtrCountersCleared =>
    intro s src v t w hon ht hw ho
    exact does_bwtrCntClr hon src v ht hw ho

end Sys2Proof.Machine

/-! Proofs of the statements of family 18_monitor_converters.md: the monitor converters. -/

namespace Sys2Proof.Machine

/-! ## Monitor conversions, injected groups and calibration (R361 to R363, R365 to R368, R370 to R373; log entry 40) -/

/-- Settles O52, clause by clause from what each command does where it takes effect: a pass, an injected group and a calibration go by
what the bank does at the time, a setting by whether the bank is idle, and a result by the entry in progress. -/
theorem monitorConverters : Obligations.MonitorConverters := by
  unfold Obligations.MonitorConverters
  refine ⟨?passStarts, ?controlWritten, ?goStartsPass, ?entryWritten, ?entryRejected, ?entryEnds, ?injectedEntryEnds, ?groupPending,
    ?groupDropped, ?groupTriggered, ?groupStarts, ?injControlWritten, ?injAtWritten, ?calPending, ?calStarts, ?calEnds, ?resultRead,
    ?countersCleared⟩
  case passStarts =>
    intro s b t hon hmode hrunning hfree ht
    exact does_monPassStart hon b hmode hrunning hfree ht
  case controlWritten =>
    intro s src b v t hon ht ho
    exact does_monCtlWrite hon src b v ht ho
  case goStartsPass =>
    intro s src b v t u w hon ht hw ho hword hgo hu hmode hrunning
    exact does_monGo hon src b v ht hw ho hword hgo hu hmode hrunning
  case entryWritten =>
    intro s src b i v t x hon ht ho hidle hx hentry
    exact does_monSeqWrite hon src b i v ht ho hidle hx hentry
  case entryRejected =>
    intro s src b i v t hon ht ho hidle
    exact refuses_monSeqWrite hon src b i v ht ho hidle
  case entryEnds =>
    intro s b raws hon hcal hinj hrunning
    exact does_monResultWrite hon b raws hcal hinj hrunning
  case injectedEntryEnds =>
    intro s b raws hon hcal hinj
    exact does_monResultWrite_inj hon b raws hcal hinj
  case groupPending =>
    intro s src b v t u w trig hon ht hw ho htrig hsame hu hinj
    exact does_monInjGo hon src b v ht hw ho htrig hsame hu hinj
  case groupDropped =>
    intro s src b v t u w trig hon ht hw ho htrig hsame hu hinj
    exact drops_monInjGo hon src b v ht hw ho htrig hsame hu hinj
  case groupTriggered =>
    intro s b a t hon harmed ht
    exact does_monInjTrigger hon b harmed ht
  case groupStarts =>
    intro s b x d e t hon hx hinj hcal hboundary ht
    exact does_monInjStart hon b hx hinj hcal hboundary ht
  case injControlWritten =>
    intro s src b v t trig hon ht ho hbit31 htrig
    exact does_monInjCtlWrite hon src b v ht ho hbit31 htrig
  case injAtWritten =>
    intro s src b i v t hon hhalf ht ho
    exact does_monInjCtlWrite_at hon src b i v hhalf ht ho
  case calPending =>
    intro s src b v t hon ht ho hcal hpend
    exact does_monCalGo hon src b v ht ho hcal hpend
  case calStarts =>
    intro s b d e t hon hpend hinj hcal hboundary ht
    exact does_monCalStart hon b hpend hinj hcal hboundary ht
  case calEnds =>
    intro s b ofs gain e t u v hon hcal ht hu hv
    exact does_monCalDone hon b ofs gain hcal ht hu hv
  case resultRead =>
    intro s src b i x t hon hread
    exact does_monitorResultRead hon src b i hread
  case countersCleared =>
    intro s src v t hon ht ho
    exact does_monCntClr hon src v ht ho

end Sys2Proof.Machine

/-! Proofs of the statements of family 19_hold_and_gauge.md: Hold and the replay engines, and the channels of Gauge. -/

namespace Sys2Proof.Machine

/-! ## Hold reads, scrubbing and repair, and the replay engines (R377 to R379, R397, R398, R400) -/

/-- Settles O53, clause by clause from what each command does where it takes effect: a read goes by the errors it finds, the scrubber by
the row's last pass, a burn by the temperature, and a replay engine by its state and its check. -/
theorem holdAndReplay : Obligations.HoldAndReplay := by
  unfold Obligations.HoldAndReplay
  refine ⟨?granuleRead, ?scrubbed, ?rowRepaired, ?fusesBurned, ?ready, ?countersCleared, ?edgeIgnored, ?replayWaits, ?replayRefused,
    ?replayStops, ?replayStopsWaiting, ?replayStarts, ?replayEnds⟩
  case granuleRead =>
    intro s granule err hon hready hgranules
    exact does_holdRead hon granule err hready hgranules
  case scrubbed =>
    intro s t hon hready ht hscrub
    exact does_scrubRead hon hready ht hscrub
  case rowRepaired =>
    intro s t u hon hready ht hbefore hu hscrub
    exact does_scrubRead_repair hon hready ht hbefore hu hscrub
  case fusesBurned =>
    intro s r rs t hon hremap hup hok ht
    exact does_repairFuseBurn hon hremap hup hok ht
  case ready =>
    intro s hon hup
    exact does_holdReady hon hup
  case countersCleared =>
    intro s src v t w hon ht hw ho
    exact does_holdcCntClr hon src v ht hw ho
  case edgeIgnored =>
    intro s rise hon hedge
    exact holds_gtrigEdge hon rise hedge
  case replayWaits =>
    intro s src r v t u w hon ht hw ho hbit30 hu hstate hcheck
    exact does_replayGo hon src r v ht hw ho hbit30 hu hstate hcheck
  case replayRefused =>
    intro s src r v k t u w hon ht hw ho hbit30 hu hstate hk hne
    exact refuses_replayGo hon src r v ht hw ho hbit30 hu hstate hk hne
  case replayStops =>
    intro s src r v t u e w hon ht hw ho hbit31 hu hstate hengine
    exact does_replayStop hon src r v ht hw ho hbit31 hu hstate hengine
  case replayStopsWaiting =>
    intro s src r v t u w hon ht hw ho hbit31 hu hstate
    exact does_replayStop_waiting hon src r v ht hw ho hbit31 hu hstate
  case replayStarts =>
    intro s r k t u x hon hstate hk ht hu hx
    exact does_replayStart hon r hstate hk ht hu hx
  case replayEnds =>
    intro s r e t hon hengine hends ht
    exact does_replayEnd hon r hengine hends ht

/-! ## Gauge: arming, triggers, sets, records and deep functions (R383 to R388, R390, R391, R395, R396) -/

/-- Settles O54, clause by clause from what each command does where it takes effect: an ARM goes by the state of its channel and its
check, a trigger by whether the channel is armed or in POST, and a set by whether there is room for it. -/
theorem gaugeChannels : Obligations.GaugeChannels := by
  unfold Obligations.GaugeChannels
  refine ⟨?armed, ?armRefused, ?stopped, ?triggered, ?ignored, ?edgeTriggers, ?triggerDecided, ?retriggerCounted, ?setWritten,
    ?setDropped, ?histogramCleared, ?mapCleared, ?countersCleared⟩
  case armed =>
    intro s src c v cmp trigs t u x w hon ht hw ho hstate hcheck hu hcmp htrigs hx
    exact does_gaugeArm hon src c v ht hw ho hstate hcheck hu hcmp htrigs hx
  case armRefused =>
    intro s src c v r t w hon ht hw ho hstate hr hne
    exact refuses_gaugeArm hon src c v ht hw ho hstate hr hne
  case stopped =>
    intro s src c v t u w hon ht hw ho hu
    exact does_gaugeStop hon src c v ht hw ho hu
  case triggered =>
    intro s src c v t w hon ht hw ho
    exact does_gaugeTrig hon src c v ht hw ho
  case ignored =>
    intro s src c v t w hon ht hw ho
    exact does_gaugeCmdIgnored hon src c v ht hw ho
  case edgeTriggers =>
    intro s rise t hon hpin hrise ht
    exact does_gtrigEdge hon rise hpin hrise ht
  case triggerDecided =>
    intro s c t0 ts here te n win at_ frac u x hon htrigs hstate hte hn hu hhere hwin hat hx hpresets hfrac hpre
    exact does_gaugeTriggerDecide hon c htrigs hstate hte hn hu hhere hwin hat hx hpresets hfrac hpre
  case retriggerCounted =>
    intro s c t0 ts te n u x hon htrigs hstate hte hn hu hx hpresets
    exact skips_gaugeTriggerDecide hon c htrigs hstate hte hn hu hx hpresets
  case setWritten =>
    intro s c slack u x m k0 a0 hon hu hstate hready hx hm hsets
    exact does_gaugeSetWrite hon c slack hu hstate hready hx hm hsets
  case setDropped =>
    intro s c x m hon hstate hready hx hm
    exact does_gaugeSetDrop hon c hstate hready hx hm
  case histogramCleared =>
    intro s src d v t w hon ht hw ho hbit28
    exact does_deepHclr hon src d v ht hw ho hbit28
  case mapCleared =>
    intro s src d v t u w hon ht hw ho hbit29 hu
    exact does_deepMclr hon src d v ht hw ho hbit29 hu
  case countersCleared =>
    intro s src v t w hon ht hw ho
    exact does_gaugeCntClr hon src v ht hw ho

end Sys2Proof.Machine

/-! Proofs of the statements of family 20_crane.md: the channels of Crane, their Manifests, and the ninth LINK in a row. -/

namespace Sys2Proof.Machine

/-! ## Crane channel control (R402, R403, R415, R416; log entry 14) -/

/-- Settles O55, clause by clause from what each command does where it takes effect: GO and KICK go by whether the channel is loose and
by its ring, STOP by whether a Manifest is in progress, and the pause ends by whether a STOP waits. -/
theorem craneChannels : Obligations.CraneChannels := by
  unfold Obligations.CraneChannels
  refine ⟨?goes, ?goRefused, ?kicked, ?kickKept, ?pauses, ?stops, ?stopsIdle, ?paused, ?pausedStopped, ?countersCleared⟩
  case goes =>
    intro s src ch v t t0 w hon ht hw hsource ho hloose ht0 hstillLoose hring hbit28 hbit30
    exact does_craneGo hon src ch v ht hw hsource ho hloose ht0 hstillLoose hring hbit28 hbit30
  case goRefused =>
    intro s src ch v t w hon ht hw hsource ho hloose hbit28 hbit30
    exact refuses_craneGo hon src ch v ht hw hsource ho hloose hbit28 hbit30
  case kicked =>
    intro s src ch v t u w hon ht hw hsource ho hbit31 hbit30 hloose hu hstate
    exact does_craneKick hon src ch v ht hw hsource ho hbit31 hbit30 hloose hu hstate
  case kickKept =>
    intro s src ch v t u w hon ht hw hsource ho hbit31 hbit30 hloose hu hstate
    exact does_craneKick_busy hon src ch v ht hw hsource ho hbit31 hbit30 hloose hu hstate
  case pauses =>
    intro s src ch v t hon ht hsource ho hloose hbit31 hbit28 hbit30
    exact does_cranePause hon src ch v ht hsource ho hloose hbit31 hbit28 hbit30
  case stops =>
    intro s src ch v t u w hon ht hw hsource ho hbit31 hbit28 hloose hu hstate hphase hnotPaused
    exact does_craneStop hon src ch v ht hw hsource ho hbit31 hbit28 hloose hu hstate hphase hnotPaused
  case stopsIdle =>
    intro s src ch v t u w hon ht hw hsource ho hbit31 hbit28 hloose hu hstate hphase
    exact does_craneStop_idle hon src ch v ht hw hsource ho hbit31 hbit28 hloose hu hstate hphase
  case paused =>
    intro s ch hon hup hstate hawait hstop
    exact does_cranePaused hon ch hup hstate hawait hstop
  case pausedStopped =>
    intro s ch hon hup hstate hawait hstop
    exact does_cranePaused_stop hon ch hup hstate hawait hstop
  case countersCleared =>
    intro s src v t hon ht ho
    exact does_craneCntClr hon src v ht ho

/-! ## Crane Manifests from fetch to write-back (R403 to R405, R407, R411, R412, R414) -/

/-- Settles O56, clause by clause from what each command does where it takes effect: a fetch goes by OWN, an operation by whether it has
begun, and a write-back by the operation and its outcome. -/
theorem craneManifests : Obligations.CraneManifests := by
  unfold Obligations.CraneManifests
  refine ⟨?fetched, ?idles, ?copies, ?copyBegins, ?fills, ?fillBegins, ?compares, ?compareBegins, ?links, ?opReserved, ?writtenBack,
    ?linkWrittenBack, ?accessTimesOut, ?remoteTimesOut⟩
  case fetched =>
    intro s ch a w hon hup hstate hphase ha hreads hw hown
    exact does_manifestFetch hon ch hup hstate hphase ha hreads hw hown
  case idles =>
    intro s ch a w hon hup hstate hphase ha hreads hw hown
    exact does_manifestFetch_idle hon ch hup hstate hphase ha hreads hw hown
  case copies =>
    intro s ch pieces hon hacts hbegun
    exact does_craneCopy hon ch pieces hacts hbegun
  case copyBegins =>
    intro s ch pieces hon hacts hbegun
    exact begins_craneCopy hon ch pieces hacts hbegun
  case fills =>
    intro s ch pieces hon hacts hbegun
    exact does_craneFill hon ch pieces hacts hbegun
  case fillBegins =>
    intro s ch pieces hon hacts hbegun
    exact begins_craneFill hon ch pieces hacts hbegun
  case compares =>
    intro s ch pieces hon hacts hbegun
    exact does_craneCompare hon ch pieces hacts hbegun
  case compareBegins =>
    intro s ch pieces hon hacts hbegun
    exact begins_craneCompare hon ch pieces hacts hbegun
  case links =>
    intro s ch x k hon hacts hx hk
    exact does_craneLink hon ch hacts hx hk
  case opReserved =>
    intro s ch hon hup hstate hphase hop
    exact does_craneOpReserved hon ch hup hstate hphase hop
  case writtenBack =>
    intro s ch hon hup hstate hphase hop hcause
    exact does_manifestWriteback hon ch hup hstate hphase hop hcause
  case linkWrittenBack =>
    intro s ch x hon hup hstate hx hphase hop hcause
    exact does_manifestWriteback_link hon ch hup hstate hx hphase hop hcause
  case accessTimesOut =>
    intro s ch hon hup hstate hphase
    exact does_craneAccessTimeout hon ch hup hstate hphase
  case remoteTimesOut =>
    intro s ch k lim rest t hon hup hawait ht
    exact does_remoteAnswerTimeout hon ch hup hawait ht

/-! ### A LINK in a row too many (R412) -/

theorem State.get_setChan (s : State) (n : Nat) (x : Chan) (f : Field) : (s.setChan n x).get f = s.get f := rfl

theorem State.chan_setChan_same (s : State) (n : Nat) (x : Chan) : (s.setChan n x).chan n = x := by
  unfold State.chan State.setChan
  rw [sparseFind_insert_same, Option.getD_some]

theorem State.get_setMemWord (s : State) (a v : Nat) (f : Field) : (s.setMemWord a v).get f = s.get f := by
  unfold State.get
  rw [State.word_of_regs ((State.setMemWord_moves s a v).regs (by decide))]

theorem State.manStore_get (s : State) (n : Nat) (f : Field) : (s.manStore n).get f = s.get f := by
  unfold State.manStore
  dsimp only
  split
  · simp only [State.get_setMemWord]
  · rfl

section
variable (s : State) (ch : Fin 16)

theorem craneHead_still : (F.CRANE_C_HEAD_HEAD ch.val).still = true := by revert ch; decide
theorem craneHead_clear : (F.CRANE_C_HEAD_HEAD ch.val).clear 0x15 = true := by revert ch; decide
theorem craneState_still : (F.CRANE_C_STAT_STATE ch.val).still = true := by revert ch; decide
theorem craneState_clear : (F.CRANE_C_STAT_STATE ch.val).clear 0x15 = true := by revert ch; decide
theorem craneStopc_still : (F.CRANE_C_STAT_STOPC ch.val).still = true := by revert ch; decide
theorem craneStopc_clear : (F.CRANE_C_STAT_STOPC ch.val).clear 0x15 = true := by revert ch; decide

/-- HEAD is a word of its own: setting a field of any other word leaves it. -/
theorem State.put_craneHead {f : Field} (v : Nat) (h : f.addr ≠ (F.CRANE_C_HEAD_HEAD ch.val).addr) :
    (s.put f v).get (F.CRANE_C_HEAD_HEAD ch.val) = s.get (F.CRANE_C_HEAD_HEAD ch.val) := State.get_put_ne s v (Ne.symm h)

/-- The counters and events of a write-back leave HEAD. -/
theorem State.manCount_craneHead : (s.manCount ch.val).get (F.CRANE_C_HEAD_HEAD ch.val) = s.get (F.CRANE_C_HEAD_HEAD ch.val) := by
  have hbad (t : State) (c i : Nat) : ((((t.inc (F.CRANE_C_BAD_COUNT ch.val)).put (F.CRANE_C_LAST_BAD_CAUSE ch.val) c).put
      (F.CRANE_C_LAST_BAD_INDEX ch.val) i).raiseMs 0x1502 ch.val ch.val).get (F.CRANE_C_HEAD_HEAD ch.val)
        = t.get (F.CRANE_C_HEAD_HEAD ch.val) := by
    rw [State.get_raiseMs _ _ _ _ (craneHead_clear ch), State.put_craneHead _ _ _ (by simp [F.CRANE_C_HEAD_HEAD, F.CRANE_C_LAST_BAD_INDEX]),
      State.put_craneHead _ _ _ (by simp [F.CRANE_C_HEAD_HEAD, F.CRANE_C_LAST_BAD_CAUSE]), State.inc,
      State.put_craneHead _ _ _ (by simp [F.CRANE_C_HEAD_HEAD, F.CRANE_C_BAD_COUNT])]
  have hdone : (s.incWrap (F.CRANE_C_DONE_COUNT ch.val)).get (F.CRANE_C_HEAD_HEAD ch.val) = s.get (F.CRANE_C_HEAD_HEAD ch.val) := by
    rw [State.incWrap, State.put_craneHead _ _ _ (by simp [F.CRANE_C_HEAD_HEAD, F.CRANE_C_DONE_COUNT])]
  unfold State.manCount
  extract_lets x t u
  have hu : u.get (F.CRANE_C_HEAD_HEAD ch.val) = s.get (F.CRANE_C_HEAD_HEAD ch.val) := by
    unfold u
    split
    · exact hdone
    · rw [hbad, hdone]
  split
  · rw [State.raiseIrq, State.setEvt_get _ _ _ (craneHead_clear ch)]
    exact hu
  · exact hu

/-- A channel that stops: STOPPED, its cause, HEAD where it stands. -/
theorem State.craneHalt_get (c : Nat) (h : c ≠ 3) :
    (s.craneHalt ch.val c).craneState ch.val = 4 ∧ (s.craneHalt ch.val c).get (F.CRANE_C_STAT_STOPC ch.val) = c % 8 ∧
      (s.craneHalt ch.val c).get (F.CRANE_C_HEAD_HEAD ch.val) = s.get (F.CRANE_C_HEAD_HEAD ch.val) := by
  unfold State.craneHalt State.craneTo State.craneState
  rw [if_neg h]
  refine ⟨?_, ?_, ?_⟩
  · rw [State.get_raise _ _ _ (craneState_clear ch),
      State.get_put_other _ _ rfl (by simp [Field.apart, F.CRANE_C_STAT_STOPC, F.CRANE_C_STAT_STATE]),
      State.get_put_ne _ _ (by simp [F.CRANE_C_STAT_STATE, F.CRANE_STAT_ACTIVE]; omega), State.get_put_same _ _ _ rfl]
    rfl
  · rw [State.get_raise _ _ _ (craneStopc_clear ch), State.get_put_same _ _ _ rfl]
    rfl
  · rw [State.get_raise _ _ _ (craneHead_clear ch), State.put_craneHead _ _ _ (by simp [F.CRANE_C_HEAD_HEAD, F.CRANE_C_STAT_STOPC]),
      State.put_craneHead _ _ _ (by simp [F.CRANE_C_HEAD_HEAD, F.CRANE_STAT_ACTIVE]; omega),
      State.put_craneHead _ _ _ (by simp [F.CRANE_C_HEAD_HEAD, F.CRANE_C_STAT_STATE]), State.get_setChan]

theorem State.craneHalt_raised (c : Nat) (h : c ≠ 3) : (s.craneHalt ch.val c).raised 0x1503 ch.val = true := by
  have hbit : evtBit 0x1503 ch.val < 32 := by revert ch; decide
  unfold State.craneHalt
  rw [if_neg h]
  exact State.raise_raised _ _ _ (evtApart_of_lt _ (by decide)) hbit

theorem State.manifestBack_loop (hup : s.up domHOLD = true) (hrun : s.craneState ch.val = 1) (hphase : (s.chan ch.val).phase = 3)
    (hcause : (s.chan ch.val).cause = 8) :
    s.manifestBack ch.val = ((s.manStore ch.val).manCount ch.val).craneHalt ch.val 2 := by
  unfold State.manifestBack
  simp only [hup, hrun, hphase, hcause, chRUN, ne_eq, not_true_eq_false, Bool.true_eq_false, or_self, if_false, if_true]

end

/-- Settles O23: the count of LINKs goes to 9, so the LINK takes the cause LOOP in place of its own effect, and its write-back stops the
channel before HEAD moves. -/
theorem ninthLinkStopsItsChannel : Obligations.NinthLinkStopsItsChannel := by
  refine ⟨fun s ch hon hacts hlinks => ⟨_, does_craneLink hon ch hacts rfl (congrArg (· + 1) hlinks), ?_⟩,
    fun s ch hon hup hrun hphase hcause => ⟨_, on_manifestWriteback hon ch, ?_⟩⟩
  · have hrun : s.get (F.CRANE_C_STAT_STATE ch.val) = 1 := by
      simp only [State.craneActs, State.craneState, chRUN, Bool.and_eq_true, beq_iff_eq] at hacts
      obtain ⟨⟨⟨-, hrun⟩, -⟩, -⟩ := hacts
      exact hrun
    have hchan (t x) : (State.follow (State.setChan t ch.val x) s).chan ch.val = x := by
      rw [State.chan, State.follow_crane]
      exact State.chan_setChan_same t ch.val x
    refine ⟨?_, ?_, ?_, ?_⟩
    · rw [hchan]; rfl
    · rw [hchan]
    · rw [State.craneState, State.follow_keeps _ _ (craneState_still ch), State.get_setChan,
        State.get_put_other _ _ rfl (by simp [Field.apart, F.CRANE_C_STAT_LINKS, F.CRANE_C_STAT_STATE]), hrun]
    · rw [State.follow_keeps _ _ (craneHead_still ch), State.get_setChan,
        State.put_craneHead _ _ _ (by simp [F.CRANE_C_HEAD_HEAD, F.CRANE_C_STAT_LINKS])]
  · rw [State.manifestBack_loop s ch hup hrun hphase hcause]
    obtain ⟨hstate, hstopc, hhead⟩ := ((s.manStore ch.val).manCount ch.val).craneHalt_get ch 2 (by decide)
    refine ⟨?_, ?_, ?_, ?_⟩
    · rw [State.craneState, State.follow_keeps _ _ (craneState_still ch)]
      exact hstate
    · rw [State.follow_keeps _ _ (craneStopc_still ch), hstopc]
    · rw [State.follow_keeps _ _ (craneHead_still ch), hhead, State.manCount_craneHead, State.manStore_get]
    · rw [State.follow_raised _ _ (by decide)]
      exact State.craneHalt_raised _ ch 2 (by decide)

end Sys2Proof.Machine

/-! Proofs of the statements of family 21_thermal.md: temperature measurements, the sensors that are retired, and the throttle ladder.
-/

namespace Sys2Proof.Machine

/-! ## Temperature measurements, the throttle ladder and SYN_CLR (R420 to R423, R425, R426, R430, R437) -/

/-- Settles O57, clause by clause from what each command does where it takes effect: a measurement starts on schedule, among the first
four or on demand, ends with the values of the sensors that are not retired, and the ladder moves by its timers. -/
theorem thermalMeasurementsAndLadder : Obligations.ThermalMeasurementsAndLadder := by
  unfold Obligations.ThermalMeasurementsAndLadder
  refine ⟨?scheduledStart, ?firstFour, ?demanded, ?measured, ?escalates, ?descends, ?synCleared⟩
  case scheduledStart =>
    intro s t hon hfirst ht hrunning
    exact does_thermMeasureStart hon hfirst ht hrunning
  case firstFour =>
    intro s hon hfirst hrunning
    exact does_thermMeasureStart_first hon hfirst hrunning
  case demanded =>
    intro s src v t w hon ht hw ho hidle
    exact does_thermDemand hon src v ht hw ho hidle
  case measured =>
    intro s l e b t r vals tj hot hon hrunning ht hr hsensors hvals hhottest
    exact does_thermMeasureDone hon l hrunning ht hr hsensors hvals hhottest
  case escalates =>
    intro s a t hon hesc ht
    exact does_ladderEscalate hon hesc ht
  case descends =>
    intro s a t hon hdesc ht
    exact does_ladderDescend hon hdesc ht
  case synCleared =>
    intro s src v t hon ht ho
    exact does_synClr hon src v ht ho

/-! ### Scheduled starts and demands (R421) -/

theorem F.THERM_CTL_GATE_US_still : F.THERM_CTL_GATE_US.still = true := by decide

theorem State.thermGate_follow (t s : State) : (t.follow s).thermGate = t.thermGate := by
  unfold State.thermGate
  rw [State.follow_keeps t s F.THERM_CTL_GATE_US_still]

theorem State.plain_therm (s : State) (a v : Nat) : (s.plain a v).therm = s.therm := by
  unfold State.plain State.mergeWord
  split <;> rfl

theorem State.touch_therm (s : State) (src : Source) : (s.touch src).therm = s.therm := (State.touch_moves s src).therm (by decide)

theorem State.elapseTo_therm (s : State) (a : Nat) : (s.elapseTo a).therm = s.therm := (State.elapseTo_moves s a).therm (by decide)

theorem State.elapseTo_thermWord (s : State) (a : Nat) {b : Nat} (hb : b / 0x10000 = 22) : (s.elapseTo a).word b = s.word b :=
  (State.elapseTo_moves s a).words b (by omega) (by rw [hb]; decide)

theorem State.elapseTo_thermGate (s : State) (a : Nat) : (s.elapseTo a).thermGate = s.thermGate := by
  unfold State.thermGate State.get
  rw [State.elapseTo_thermWord s a (by decide)]

theorem State.elapseTo_thermPeriod (s : State) (a : Nat) : (s.elapseTo a).thermPeriod = s.thermPeriod := by
  unfold State.thermPeriod State.get
  rw [State.elapseTo_thermWord s a (by decide)]

theorem State.elapseTo_aon (s : State) (a : Nat) : (s.elapseTo a).aon = max s.aon a := by
  unfold State.elapseTo
  split
  · rw [State.advance_aon]; omega
  · omega

/-- The next scheduled start is due at `d`. -/
def State.dueAt (t : State) (d : Nat) : State := { t with therm := { t.therm with due := d } }

/-- A measurement that is due runs, or is owed while another runs. -/
def State.thermSlot (u : State) : State :=
  match u.therm.running with
  | none => u.thermRun false
  | some _ => { u with therm := { u.therm with owed := true } }

theorem State.thermStart_eq {s t : State} (hf : s.therm.first = 0) (ht : s.elapseTo s.therm.due = t) :
    s.thermStart = (t.dueAt (t.therm.due + t.thermPeriod)).thermSlot := by
  subst ht
  unfold State.thermStart
  rw [if_neg (not_not_intro hf)]
  rfl

theorem State.thermSlot_idle {u : State} (hr : u.therm.running = none) :
    u.thermSlot.therm.due = u.therm.due ∧ u.thermSlot.therm.running = some (u.aon + u.thermGate, false) := by
  unfold State.thermSlot
  rw [hr]
  exact ⟨rfl, rfl⟩

theorem State.thermSlot_busy {u : State} {r : Nat × Bool} (hr : u.therm.running = some r) :
    u.thermSlot.therm.due = u.therm.due ∧ u.thermSlot.therm.running = some r ∧ u.thermSlot.therm.owed = true := by
  unfold State.thermSlot
  rw [hr]
  exact ⟨rfl, hr, rfl⟩

theorem State.dueAt_due (t : State) (d : Nat) : (t.dueAt d).therm.due = d := rfl

theorem State.dueAt_aon (t : State) (d : Nat) : (t.dueAt d).aon = t.aon := rfl

theorem State.dueAt_thermGate (t : State) (d : Nat) : (t.dueAt d).thermGate = t.thermGate := rfl

theorem State.dueAt_running (t : State) (d : Nat) : (t.dueAt d).therm.running = t.therm.running := rfl

/-- What a write of DEMAND that its source may make does: the register takes it, and the demand acts. -/
theorem exec_thermDemand_of_opens {s : State} (hon : s.on = true) (src : Source) (v : Word)
    (ho : s.opens src F.THERM_CTL_DEMAND.addr (fixBit v 31) = true) :
    ∃ u : State, u.therm = s.therm ∧ exec (.thermDemand src v) s = .next (u.thermDemand.follow s) := by
  refine ⟨(s.touch src).plain F.THERM_CTL_DEMAND.addr (fixBit v 31).toNat, ?_, ?_⟩
  · rw [State.plain_therm, State.touch_therm]
  · rw [on_thermDemand hon, State.opens_Therm ho (by decide) (by decide) (by decide), State.writeTherm, if_pos rfl,
      State.iff_of (bitAt_fixBit v (by decide))]

/-- Settles O24: a scheduled start takes DUE on by the period it was due at and runs or is owed; a demand starts a measurement only where
none runs. -/
theorem measurementsStartOnScheduleAndOnDemand : Obligations.MeasurementsStartOnScheduleAndOnDemand := by
  refine ⟨fun s hon hf => ⟨_, on_thermMeasureStart hon, ?_⟩, fun s src v hon ho => ?_⟩
  · rw [State.follow_therm, State.thermStart_eq hf rfl, State.elapseTo_thermPeriod, State.elapseTo_therm]
    have hrun (d : Nat) : ((s.elapseTo s.therm.due).dueAt d).therm.running = s.therm.running := by
      rw [State.dueAt_running, State.elapseTo_therm]
    rcases hr : s.therm.running with _ | r
    · obtain ⟨hdue, hnew⟩ := State.thermSlot_idle ((hrun _).trans hr)
      refine ⟨hdue, fun _ => ?_, fun h => absurd rfl h⟩
      rw [hnew, State.dueAt_aon, State.elapseTo_aon, State.dueAt_thermGate, State.elapseTo_thermGate]
    · obtain ⟨hdue, hkeeps, howed⟩ := State.thermSlot_busy ((hrun _).trans hr)
      exact ⟨hdue, fun h => absurd h (by simp), fun _ => ⟨hkeeps, howed⟩⟩
  · obtain ⟨u, htherm, hexec⟩ := exec_thermDemand_of_opens hon src v ho
    refine ⟨_, hexec, ?_⟩
    rw [State.follow_therm, State.follow_aon, State.thermGate_follow, ← htherm]
    unfold State.thermDemand
    rcases hr : u.therm.running with _ | r
    · exact ⟨fun _ => rfl, fun h => absurd rfl h⟩
    · exact ⟨fun h => absurd h (by simp), fun _ => hr⟩

/-! ### Retired sensors (R422, R423) -/

theorem insertInt_perm (x : Int) : ∀ l, (insertInt x l).Perm (x :: l)
  | [] => .refl _
  | y :: ys => by
    unfold insertInt
    split
    · exact .refl _
    · exact ((insertInt_perm x ys).cons y).trans (.swap x y ys)

theorem insertInt_sorted (x : Int) : ∀ {l : List Int}, l.Pairwise (· ≤ ·) → (insertInt x l).Pairwise (· ≤ ·)
  | [], _ => List.pairwise_singleton _ _
  | y :: ys, hl => by
    obtain ⟨hy, hys⟩ := List.pairwise_cons.1 hl
    unfold insertInt
    split
    case isTrue hxy =>
      refine List.pairwise_cons.2 ⟨fun z hz => ?_, hl⟩
      rcases List.mem_cons.1 hz with rfl | hz
      · exact hxy
      · exact Int.le_trans hxy (hy z hz)
    case isFalse hxy =>
      refine List.pairwise_cons.2 ⟨fun z hz => ?_, insertInt_sorted x hys⟩
      rcases List.mem_cons.1 ((insertInt_perm x ys).mem_iff.1 hz) with rfl | hz
      · omega
      · exact hy z hz

theorem foldl_insertInt_perm : ∀ l acc : List Int, (l.foldl (fun acc x => insertInt x acc) acc).Perm (l ++ acc)
  | [], _ => .refl _
  | x :: xs, acc => (foldl_insertInt_perm xs (insertInt x acc)).trans
      (((insertInt_perm x acc).append_left xs).trans List.perm_middle)

theorem foldl_insertInt_sorted : ∀ (l : List Int) {acc : List Int}, acc.Pairwise (· ≤ ·) →
    (l.foldl (fun acc x => insertInt x acc) acc).Pairwise (· ≤ ·)
  | [], _, hacc => hacc
  | x :: xs, _, hacc => foldl_insertInt_sorted xs (insertInt_sorted x hacc)

/-- The model's median sorts by insertion, so it may take any sorted list of the same readings. -/
theorem foldl_insertInt_eq {q l : List Int} (hp : q.Perm l) (hq : q.Pairwise (· ≤ ·)) :
    l.foldl (fun acc x => insertInt x acc) [] = q := by
  have hperm : (l.foldl (fun acc x => insertInt x acc) []).Perm l := by
    simpa only [List.append_nil] using foldl_insertInt_perm l []
  exact (hperm.trans hp.symm).eq_of_pairwise (fun _ _ _ _ => Int.le_antisymm) (foldl_insertInt_sorted l .nil) hq

theorem median2_eq {q l : List Int} (hp : q.Perm l) (hq : q.Pairwise (· ≤ ·)) :
    median2 l = if q.length % 2 = 1 then 2 * nth 0 q (q.length / 2)
      else nth 0 q (q.length / 2 - 1) + nth 0 q (q.length / 2) := by
  unfold median2
  simp only [foldl_insertInt_eq hp hq]

theorem divRound_double (x : Int) : divRound (2 * x) 2 = x := by
  unfold divRound
  omega

theorem State.sensorValue_near {s : State} {l : List (Nat × Int)} {d : Int} {i : Nat} (ho : s.sensorOut i = true)
    (hn : s.nearReadings l i ≠ []) : s.sensorValue l d i = divRound (median2 (s.nearReadings l i)) 2 := by
  obtain ⟨v, vs, hv⟩ := List.exists_cons_of_ne_nil hn
  unfold State.sensorValue
  simp only [ho, if_true, hv]

/-- The readings of the sensors that are not retired. -/
def State.liveReadings (s : State) (l : List (Nat × Int)) : List Int :=
  ((List.range 24).filter (fun j => !s.sensorOut j)).map (fun j => (readingOf l j).2)

theorem State.mem_liveReadings {s : State} {l : List (Nat × Int)} {x : Int} :
    x ∈ s.liveReadings l ↔ ∃ j < 24, s.sensorOut j = false ∧ (readingOf l j).2 = x := by
  simp only [State.liveReadings, List.mem_map, List.mem_filter, List.mem_range, Bool.not_eq_true', and_assoc]

/-- The highest value of a list, from the value `v`. -/
theorem foldl_higher (vs : List Int) (v : Int) :
    vs.foldl (fun a x => if a < x then x else a) v = vs.foldl max v := by
  congr
  funext a x
  rw [Int.max_def]
  split <;> split <;> omega

theorem State.sensorValue_alone {s : State} {l : List (Nat × Int)} {i : Nat} (d : Int) (ho : s.sensorOut i = true)
    (hn : s.nearReadings l i = []) (hl : s.liveReadings l ≠ []) :
    (s.liveReadings l).max? = some (s.sensorValue l d i) := by
  obtain ⟨v, vs, hv⟩ := List.exists_cons_of_ne_nil hl
  have hval : s.sensorValue l d i = vs.foldl max v := by
    unfold State.liveReadings at hv
    unfold State.sensorValue
    simp only [ho, if_true, hn, hv, foldl_higher]
  rw [hv, List.max?_cons', hval]

/-- Settles O25: two sorted lists of the same readings are equal, so the model's median is the median of every sorted list `q`; with
no neighbour left the value is the maximum of the readings that are not retired. -/
theorem retiredSensorsTakeTheirNeighboursMedian : Obligations.RetiredSensorsTakeTheirNeighboursMedian := by
  intro s l d i ho
  refine ⟨fun q hp hq hne => ?_, fun hn hj => ?_⟩
  · have hnear : s.nearReadings l i ≠ [] := fun h => hne (by rw [h] at hp; exact hp.eq_nil)
    rw [State.sensorValue_near ho hnear, median2_eq hp hq]
    simp only [List.getD_eq_getElem?_getD, nth]
    split
    · exact divRound_double _
    · rfl
  · obtain ⟨j, hj, hlive⟩ := hj
    have hne : s.liveReadings l ≠ [] := List.ne_nil_of_mem (State.mem_liveReadings.2 ⟨j, hj, hlive, rfl⟩)
    obtain ⟨hmem, hmax⟩ := List.max?_eq_some_iff.1 (State.sensorValue_alone d ho hn hne)
    obtain ⟨k, hk, hout, hval⟩ := State.mem_liveReadings.1 hmem
    exact ⟨⟨k, hk, hout, hval.symm⟩, fun k hk hout => hmax _ (State.mem_liveReadings.2 ⟨k, hk, hout, rfl⟩)⟩

end Sys2Proof.Machine

/-! Proofs of the statements of family 23_pilot_security_debug.md: Pilot and its mailboxes, sessions, fuses and debug, denied reads, and
the TAP. -/

namespace Sys2Proof.Machine

/-! ## Pilot: policy, tuner, mailbox commands and telemetry (R238, R439, R443, R456 to R460; log entry 24) -/

/-- Settles O58, clause by clause from what each command does where it takes effect: a policy action goes by the mask of its row, a
mailbox command by its operation and the level of its port, and its response by what it has done by its end. -/
theorem pilotAndMailboxes : Obligations.PilotAndMailboxes := by
  unfold Obligations.PilotAndMailboxes
  refine ⟨?policyActs, ?degradedRetired, ?policyBars, ?tunerTries, ?tunerJudges, ?ready, ?watchdogExpires, ?version, ?health, ?telemSet,
    ?logFind, ?tune, ?calPolicy, ?policy, ?retire, ?restore, ?resolve, ?slipway, ?pilotReset, ?unknown, ?responseComplete, ?snapshot⟩
  case policyActs =>
    intro s row unit again hon hserves hpolicy
    exact does_pilotPolicyAction hon row unit again hserves hpolicy
  case degradedRetired =>
    intro s unit again p hon hserves hpolicy hp hdegraded
    exact does_pilotPolicyAction_degraded hon unit again hserves hpolicy hp hdegraded
  case policyBars =>
    intro s row unit again hon hrow hpolicy
    exact bars_pilotPolicyAction hon row unit again hrow hpolicy
  case tunerTries =>
    intro s p m code t hon hserves hpath hunsteered htries hen hmaster hroom ht htrswLow hresult
    exact does_tunerSteerTick hon p m code hserves hpath hunsteered htries hen hmaster hroom ht htrswLow hresult
  case tunerJudges =>
    intro s p m code up x t hon hserves hpath hunsteered htries ht
    exact judges_tunerSteerTick hon p m code up hserves hpath hunsteered htries ht
  case ready =>
    intro s t hon hup hstarting ht
    exact does_pilotReady hon hup hstarting ht
  case watchdogExpires =>
    intro s hon hup hready
    exact does_pilotWatchdogExpiry hon hup hready
  case version =>
    intro s src p tag args u t b x r n hon hu ht ho hup hbusy hb hr hx hserves hlevel hn
    exact does_mbxVersion hon src p tag args hu ht ho hup hbusy hb hr hx hserves hlevel hn
  case health =>
    intro s src p tag args u t b x r hon hu ht ho hup hbusy hb hr hx hserves hlevel
    exact does_mbxHealth hon src p tag args hu ht ho hup hbusy hb hr hx hserves hlevel
  case telemSet =>
    intro s src p tag args u t b x r hon hu ht ho hup hbusy hb hr hx hserves hlevel harg
    exact does_mbxTelemSet hon src p tag args hu ht ho hup hbusy hb hr hx hserves hlevel harg
  case logFind =>
    intro s src p tag args u t b x r hits hon hu ht ho hup hbusy hb hr hx hserves hlevel hhits
    exact does_mbxLogFind hon src p tag args hu ht ho hup hbusy hb hr hx hserves hlevel hhits
  case tune =>
    intro s src p tag args u t b x r hon hu ht ho hup hbusy hb hr hx hserves hlevel
    exact does_mbxTune hon src p tag args hu ht ho hup hbusy hb hr hx hserves hlevel
  case calPolicy =>
    intro s src p tag args u t b x r hon hu ht ho hup hbusy hb hr hx hserves hlevel
    exact does_mbxCalPolicy hon src p tag args hu ht ho hup hbusy hb hr hx hserves hlevel
  case policy =>
    intro s src p tag args u t b x r hon hu ht ho hup hbusy hb hr hx hserves hlevel
    exact does_mbxPolicy hon src p tag args hu ht ho hup hbusy hb hr hx hserves hlevel
  case retire =>
    intro s src p tag args u t b x r hon hu ht ho hup hbusy hb hr hx hserves hlevel hpath
    exact does_mbxRetire hon src p tag args hu ht ho hup hbusy hb hr hx hserves hlevel hpath
  case restore =>
    intro s src p tag args u t b x r q hon hu ht ho hup hbusy hb hr hx hserves hlevel hq hpath hretired
    exact does_mbxRestore hon src p tag args hu ht ho hup hbusy hb hr hx hserves hlevel hq hpath hretired
  case resolve =>
    intro s src p tag args u t b x r hon hu ht ho hup hbusy hb hr hx hserves hlevel
    exact does_mbxResolve hon src p tag args hu ht ho hup hbusy hb hr hx hserves hlevel
  case slipway =>
    intro s src p tag args u t b x r hon hu ht ho hup hbusy hb hr hx hserves hlevel hargs
    exact does_mbxSlipway hon src p tag args hu ht ho hup hbusy hb hr hx hserves hlevel hargs
  case pilotReset =>
    intro s src p tag args u t b x r hon hu ht ho hup hbusy hb hr hx hserves hlevel
    exact does_mbxPilotReset hon src p tag args hu ht ho hup hbusy hb hr hx hserves hlevel
  case unknown =>
    intro s src p opc tag args u t b x r hon hu ht ho hup hbusy hb hr hx hserves hlevel
    exact does_mbxUnknown hon src p opc tag args hu ht ho hup hbusy hb hr hx hserves hlevel
  case responseComplete =>
    intro s p fail r res rsp t hon hserves hrun htaken hclose
    exact does_mbxResponseComplete hon p fail hserves hrun htaken hclose
  case snapshot =>
    intro s t u hon hserves hperiod ht hu
    exact does_telemSnapshot hon hserves hperiod ht hu

/-! ## Sessions, locks, zeroise, fuses and the debug state (R452 to R455, R461, R463 to R466; log entries 2, 23) -/

/-- Settles O59, clause by clause from what each command does where it takes effect: a session goes by the locks of its port and by the
response that its challenge expects, a burn by the check of its fuse, and a debug request by the power state and by what stands. -/
theorem sessionsFusesAndDebugState : Obligations.SessionsFusesAndDebugState := by
  unfold Obligations.SessionsFusesAndDebugState
  refine ⟨?challenged, ?challengeRefused, ?verified, ?verifyFails, ?closed, ?multiIgnored, ?timedOut, ?lockExpires, ?lockCleared,
    ?zeroised, ?burnStarts, ?burnRefused, ?burnEnds, ?debugOff, ?debugObserve, ?debugRefused, ?debugIntrusiveWaits, ?debugIntrusive⟩
  case challenged =>
    intro s src p v level ds t u x w hon ht hw ho hlevel hu hunlocked hfree hkey hdraw
    exact does_sessionGo hon src p v ht hw ho hlevel hu hunlocked hfree hkey hdraw
  case challengeRefused =>
    intro s src p v level t u w hon ht hw ho hlevel hu hbad
    exact refuses_sessionGo hon src p v ht hw ho hlevel hu hbad
  case verified =>
    intro s src p v a t u y w x key hon ht hw ho hu hy hchal hintime hresponse hx hkey
    exact does_sessionVerify hon src p v ht hw ho hu hy hchal hintime hresponse hx hkey
  case verifyFails =>
    intro s src p v a t u y w x hon ht hw ho hu hy hchal hintime hx hresponse
    exact refuses_sessionVerify hon src p v ht hw ho hu hy hchal hintime hx hresponse
  case closed =>
    intro s src p v t w hon ht hw ho
    exact does_sessionClose hon src p v ht hw ho
  case multiIgnored =>
    intro s src p k v t w hon ht hw ho
    exact does_sessionReqMulti hon src p k v ht hw ho
  case timedOut =>
    intro s p hon hlevel
    exact does_sessionTimeout hon p hlevel
  case lockExpires =>
    intro s p a hon huntil
    exact does_lockExpiry hon p huntil
  case lockCleared =>
    intro s src v t hon ht ho
    exact does_lockClr hon src v ht ho
  case zeroised =>
    intro s src v t w hon ht hw ho
    exact does_zeroise hon src v ht hw ho
  case burnStarts =>
    intro s src v t w n hon ht hw ho hn hfuse hbusy hcheck
    exact does_fuseProgram hon src v ht hw ho hn hfuse hbusy hcheck
  case burnRefused =>
    intro s src v t w n r hon ht hw ho hn hfuse hbusy hr hne
    exact refuses_fuseProgram hon src v ht hw ho hn hfuse hbusy hr hne
  case burnEnds =>
    intro s n e l t hon hburn ht
    exact does_fuseProg hon hburn ht
  case debugOff =>
    intro s src v t w hon ht hw ho hcur hwriter
    exact does_dbgReqOff hon src v ht hw ho hcur hwriter
  case debugObserve =>
    intro s src v t w hon ht hw ho hcur
    exact does_dbgReqObserve hon src v ht hw ho hcur
  case debugRefused =>
    intro s src v t w hon ht hw ho hcur
    exact refuses_dbgReqObserve hon src v ht hw ho hcur
  case debugIntrusiveWaits =>
    intro s src v t u w hon ht hw ho hcur hdbg hu
    exact does_dbgReqIntrusive hon src v ht hw ho hcur hdbg hu
  case debugIntrusive =>
    intro s n hon hwait hdrains
    exact does_dbgIntrusiveEnter hon hwait hdrains

/-! ## The TAP and its instructions (R448, R461, R462; log entries 2, 18, 36, 46) -/

/-- Settles O60, clause by clause from what each command does where it takes effect: an instruction goes by TRST_N and by how far debug
is open, below which it acts as BYPASS. -/
theorem testAccessPort : Obligations.TestAccessPort := by
  unfold Obligations.TestAccessPort
  refine ⟨?trstAsserted, ?trstReleased, ?bypass, ?idcode, ?sample, ?extest, ?extestBypasses, ?debugRead, ?trace, ?debugWrite,
    ?pilotHalted, ?pilotStepped, ?scan, ?debugReadBypasses, ?debugWriteBypasses, ?tapInReset⟩
  case trstAsserted =>
    intro s
    exact does_trstNAssert
  case trstReleased =>
    intro s
    exact does_trstNRelease
  case bypass =>
    intro s tdi t hon htap ht
    exact does_jtagBypass hon tdi htap ht
  case idcode =>
    intro s tdi hon htap
    exact does_jtagIdcode hon tdi htap
  case sample =>
    intro s tdi l u hon htap hdraw
    exact does_jtagSamplePreload hon tdi htap hdraw
  case extest =>
    intro s tdi l u j hon htap hcur hdbg hdraw hj
    exact does_jtagExtest hon tdi htap hcur hdbg hdraw hj
  case extestBypasses =>
    intro s tdi hon htap hbad
    exact refuses_jtagExtest hon tdi htap hbad
  case debugRead =>
    intro s addr tdi w t hon htap hdbg hread
    exact does_jtagDbgRead hon addr tdi htap hdbg hread
  case trace =>
    intro s tdi hon htap hdbg
    exact does_jtagTrace hon tdi htap hdbg
  case debugWrite =>
    intro s addr v tdi hon htap hdbg
    exact does_jtagDbgWrite hon addr v tdi htap hdbg
  case pilotHalted =>
    intro s tdi t hon htap hdbg ht hup
    exact does_jtagPilotHalt hon tdi htap hdbg ht hup
  case pilotStepped =>
    intro s tdi t hon htap hdbg ht hup
    exact does_jtagPilotStep hon tdi htap hdbg ht hup
  case scan =>
    intro s tdi l u hon htap hdbg hdraw
    exact does_jtagScan hon tdi htap hdbg hdraw
  case debugReadBypasses =>
    intro s addr tdi hon htap hdbg
    exact low_jtagDbgRead hon addr tdi htap hdbg
  case debugWriteBypasses =>
    intro s addr v tdi hon htap hdbg
    exact low_jtagDbgWrite hon addr v tdi htap hdbg
  case tapInReset =>
    intro s addr v tdi hon htap
    exact stands_jtagDbgWrite hon addr v tdi htap

/-! ## Reads that are denied (R450) -/

section
variable (s : State) (src a : Nat) (write : Bool)

/-- A violation is counted, and none of the words that show it holds the counter. -/
theorem State.violation_get_count :
    (s.violation src a write).get F.SEC_VIOL_CNT_COUNT = satInc 0xFFFFFFFF (s.get F.SEC_VIOL_CNT_COUNT) := by
  rw [State.violation, State.putb_eq, State.get_put_other _ _ rfl rfl, State.get_put_other _ _ rfl rfl, State.get_put_other _ _ rfl rfl,
    State.get_put_other _ _ rfl rfl, State.get_inc_same s rfl]
  rfl

theorem State.violation_get_addr : (s.violation src a write).get F.SEC_VIOL_LAST_LO_ADDR = a % 2 ^ 32 := by
  rw [State.violation, State.putb_eq, State.get_put_other _ _ rfl rfl, State.get_put_other _ _ rfl rfl, State.get_put_other _ _ rfl rfl,
    State.get_put_same _ _ _ rfl]
  exact Nat.mod_mod a (2 ^ 32)

theorem State.violation_get_source : (s.violation src a write).get F.SEC_VIOL_LAST_HI_SOURCE = src % 8 := by
  rw [State.violation, State.get_put_other _ _ rfl rfl, State.get_put_same _ _ _ rfl]
  rfl

end

/-- The code of a source fits the three bits that show it. -/
theorem srcCode_lt (src : Source) : srcCode src < 8 := by
  cases src with
  | port p => exact Nat.lt_trans p.isLt (by decide)
  | pilot | crane _ | jtag => simp [srcCode]

/-- A read of a present register that its source may not read returns 0 and is a violation. -/
theorem State.busRead_denied {s : State} {src : Source} {a : Nat} {r : RegRow} (ha : a % 4 = 0) (hw : s.window a = 0)
    (hr : findReg a = some r) (hpresent : s.regAbsent a = false) (hcrane : srcCrane src = true → a / 0x10000 ≠ 0x15)
    (hdenied : (s.touch src).mayRead src a = false) : s.busRead src a = (0, (s.touch src).violation (srcCode src) a false) := by
  have ea : a / 4 * 4 = a := by omega
  have hthere : ¬(s.regAbsent a = true ∨ srcCrane src = true ∧ a / 0x10000 = 0x15) := by
    rintro (habsent | ⟨hsrc, hblock⟩)
    · rw [hpresent] at habsent
      cases habsent
    · exact hcrane hsrc hblock
  unfold State.busRead
  simp only [ea, State.touch_window, hw, hr, State.touch_regAbsent, hthere, hdenied, ne_eq, not_true_eq_false, if_false, if_true]

/-- Settles O14: the access is noted in the session of its port, and the violation changes the three words of SEC that show it. -/
theorem deniedReadsReturnZero : Obligations.DeniedReadsReturnZero := by
  unfold Obligations.DeniedReadsReturnZero
  intro s src a r ha hw hr hpresent hcrane hdenied
  refine ⟨_, State.busRead_denied ha hw hr hpresent hcrane hdenied, ?count, State.violation_get_addr .., ?source, ?frame⟩
  case count => rw [State.violation_get_count, State.touch_get]
  case source => rw [State.violation_get_source, Nat.mod_eq_of_lt (srcCode_lt src)]
  case frame =>
    exact (State.violation_moves ..).step (by decide) ((s.touch_moves src).step (by decide) (Moves.refl _ s))

end Sys2Proof.Machine

/-! Proofs of the statements of family 24_register_map.md: the host port and register writes. -/

namespace Sys2Proof.Machine

/-! ## The steps of the block (R471) -/

/-- Settles O1: on a queue with a front a step is that command on the state with the rest. -/
theorem commandsAreTakenInOrder : Obligations.CommandsAreTakenInOrder := by
  unfold Obligations.CommandsAreTakenInOrder
  intro c q s hq
  exact step_of_cons hq

/-- Every command answers a next state: those of supply, reset and TRST_N by their definition, the others under the guard of `acting`. -/
theorem exec_goesOn (c : Instr) (s : State) : ∃ t, exec c s = .next t := by
  by_cases hc : c ∈ actsInReset
  · simp only [actsInReset, List.mem_cons, List.not_mem_nil, or_false] at hc
    rcases hc with rfl | rfl | rfl | rfl | rfl | rfl | rfl | rfl | rfl <;> exact ⟨_, rfl⟩
  · obtain ⟨f, hf⟩ := exec_eq_acting hc s
    exact ⟨_, hf⟩

/-- Settles O3: a tick answers a next state, and so does every command. -/
theorem everyStepGoesOn : Obligations.EveryStepGoesOn := by
  unfold Obligations.EveryStepGoesOn State.goesOn
  intro s
  cases hq : s.pending with
  | nil => exact ⟨_, step_of_empty hq⟩
  | cons c q =>
    rw [step_of_cons hq]
    exact exec_goesOn c _

/-- Settles O6, command by command from what each of them may change. -/
theorem eachCommandTouchesOnlyItsAreas : Obligations.EachCommandTouchesOnlyItsAreas := by
  unfold Obligations.EachCommandTouchesOnlyItsAreas
  intro c s t h
  exact exec_moves h

/-- Settles O4: taking a command from the queue leaves the stores, and a tick and every command keep their canonical form. -/
theorem stepKeepsCanonicalStores : Obligations.StepKeepsCanonicalStores := by
  unfold Obligations.StepKeepsCanonicalStores
  intro s t hs h
  cases hq : s.pending with
  | nil =>
    rw [step_of_empty hq] at h
    cases h
    exact s.tick_moves.canonical hs
  | cons c q =>
    rw [step_of_cons hq] at h
    exact (exec_moves h).canonical hs

/-! ## The state after reset (R305, R475) -/

theorem State.reset_word (a : Nat) : State.reset.word a = resetWord a := rfl

/-- The least values of the eight slack meters stand at the greatest value of their field. -/
theorem State.reset_get_minNs : ∀ m < 8, State.reset.get (F.TOP_DRIFT_MIN_NS m) = 0xFFFF := by decide +kernel

/-- Settles O5: with nothing listed the stores are canonical, and a word that is not listed reads its reset value. -/
theorem resetIsCanonicalAndIdle : Obligations.ResetIsCanonicalAndIdle := by
  unfold Obligations.ResetIsCanonicalAndIdle
  exact ⟨⟨rfl, rfl, rfl, rfl, rfl, rfl, rfl⟩, State.reset_word, test_reset_fields.1, State.reset_get_minNs⟩

/-! ## Fields of registers and words of windows (R468, R471) -/

/-- Settles O11: a field reads what was put into it, and one in another register, below it or above it keeps its value. -/
theorem fieldsReadBack : Obligations.FieldsReadBack := by
  unfold Obligations.FieldsReadBack
  intro s f g v hfits
  refine ⟨s.get_put f v hfits, ?_⟩
  rintro (haddr | hapart)
  · exact s.get_put_ne v haddr
  · exact s.get_put_apart v hfits hapart

theorem length_leBytes (n x : Nat) : (leBytes n x).length = n := by
  induction n generalizing x with
  | zero => rfl
  | succ n ih => rw [leBytes, List.length_cons, ih]

/-- The bytes of a number, least significant first, spell what of it fits them. -/
theorem leNat_leBytes (n x : Nat) : leNat (leBytes n x) = x % 256 ^ n := by
  induction n generalizing x with
  | zero => rw [leBytes, leNat, Nat.pow_zero, Nat.mod_one]
  | succ n ih => rw [leBytes, leNat, ih, BitVec.toNat_ofNat, Nat.pow_succ' (m := 256), Nat.mod_mul]

theorem State.byte_setByte_same (s : State) (a : Nat) (b : Byte) : (s.setByte a b).byte a = b := sparseGet_put_same ..

theorem State.byte_setByte_ne (s : State) {a c : Nat} (b : Byte) (h : c ≠ a) : (s.setByte a b).byte c = s.byte c :=
  sparseGet_put_ne _ _ _ h

theorem State.byte_setBytes_outside (s : State) {a c : Nat} (l : List Byte) (h : c < a ∨ a + l.length ≤ c) :
    (s.setBytes a l).byte c = s.byte c := by
  induction l generalizing s a with
  | nil => rfl
  | cons b l ih =>
    rw [List.length_cons] at h
    rw [State.setBytes, ih _ (by omega), State.byte_setByte_ne _ _ (by omega)]

theorem State.bytes_succ (s : State) (a n : Nat) : s.bytes a (n + 1) = s.byte a :: s.bytes (a + 1) n := by
  simp only [State.bytes, List.range_succ_eq_map, List.map_cons, List.map_map, Nat.add_zero, Function.comp_def,
    Nat.succ_eq_add_one, Nat.add_assoc, Nat.add_comm 1]

/-- Bytes stored in a window read back: the first lies below all that follow it, so that it stands. -/
theorem State.bytes_setBytes (s : State) (a : Nat) (l : List Byte) : (s.setBytes a l).bytes a l.length = l := by
  induction l generalizing s a with
  | nil => rfl
  | cons b l ih =>
    rw [State.setBytes, List.length_cons, State.bytes_succ, ih, State.byte_setBytes_outside _ _ (.inl (Nat.lt_succ_self a)),
      State.byte_setByte_same]

theorem State.memWord_setMemWord (s : State) (a v : Nat) : (s.setMemWord a v).memWord a = v % 2 ^ 32 := by
  have hbytes := s.bytes_setBytes a (leBytes 4 v)
  rw [length_leBytes] at hbytes
  rw [State.memWord, State.setMemWord, hbytes, leNat_leBytes, show 256 ^ 4 = 2 ^ 32 from rfl]

theorem State.byte_setMemWord_outside (s : State) {a b : Nat} (v : Nat) (h : b < a ∨ a + 4 ≤ b) :
    (s.setMemWord a v).byte b = s.byte b :=
  s.byte_setBytes_outside _ (by rwa [length_leBytes])

theorem State.wf_setBytes (s : State) (a : Nat) (l : List Byte) (h : Memory.wf s.mem = true) :
    Memory.wf (s.setBytes a l).mem = true := by
  induction l generalizing s a with
  | nil => exact h
  | cons b l ih => exact ih (s.setByte a b) (a + 1) (sparseWf_put a b h)

/-- Settles O15: the four bytes of the word read back, and each of them is set without listing a default. -/
theorem windowWordsReadBack : Obligations.WindowWordsReadBack := by
  unfold Obligations.WindowWordsReadBack
  intro s a v hv
  exact ⟨by rw [s.memWord_setMemWord, Nat.mod_eq_of_lt hv], fun b hb => s.byte_setMemWord_outside v hb, s.wf_setBytes a _⟩

/-! ## The host port and the register writes (R450, R468, R470, R471, R473, R474, R476) -/

/-- Settles O26, clause by clause from what each command does where it takes effect: an SPI transaction goes by its command byte and
address, and a write by its address, by the window or register there and by what the source may write. -/
theorem hostPortAndRegisterCommands : Obligations.HostPortAndRegisterCommands := by
  unfold Obligations.HostPortAndRegisterCommands
  refine ⟨?spiRead, ?spiWrite, ?spiIgnored, ?spiAborted, ?registerWritten, ?windowWritten, ?windowDenied, ?registerDenied,
    ?eventsCleared, ?pairRead⟩
  case spiRead =>
    intro s addr wait n l t hon haligned hread
    exact does_spiRead hon addr wait n haligned hread
  case spiWrite =>
    intro s addr words hon haligned
    exact does_spiWrite hon addr words haligned
  case spiIgnored =>
    intro s cmd addr data hon hbad
    exact does_spiTransactionIgnored hon cmd addr data hbad
  case spiAborted =>
    intro s addr data hon haligned
    exact does_spiCsAbort hon addr data haligned
  case registerWritten =>
    intro s src addr v hon haligned ho
    exact does_registerWrite hon src addr v haligned ho
  case windowWritten =>
    intro s src addr v t n hon ht haligned hn hne hlevel hlive
    exact does_registerWrite_window hon src addr v ht haligned hn hne hlevel hlive
  case windowDenied =>
    intro s src addr v t hon ht haligned hwindow hlevel
    exact bars_registerWrite_window hon src addr v ht haligned hwindow hlevel
  case registerDenied =>
    intro s src addr v t r hon ht haligned hwindow hreg hpresent hsource hdenied
    exact bars_registerWrite hon src addr v ht haligned hwindow hreg hpresent hsource hdenied
  case eventsCleared =>
    intro s src block v hon ho
    exact does_evtW1cWrite hon src block v ho
  case pairRead =>
    intro s src addr hi x t hon hread
    exact does_loHiPairRead hon src addr hi hread

end Sys2Proof.Machine
